-- ==== Sys2Proof/Word.lean ====
section
/-! DEFINITION. The words of the AK9640: register words, bytes, and the 4 KiB slot (spec/00_scope.md, "Bits, registers and access codes"). -/

namespace Sys2Proof

/-- A byte. -/
abbrev Byte := BitVec 8

/-- A 32-bit register word. -/
abbrev Word := BitVec 32

/-- A 64-bit quantity: tick counter, DSN, PSN, fleet time. -/
abbrev Dword := BitVec 64

/-- The 4,096 data bytes of one slot (R185), little-endian: byte k is bits 8k+7 to 8k. -/
abbrev SlotData := BitVec 32768

/-- The payload of one parity unit, 16,576 bytes (R320). -/
abbrev Payload := BitVec 132608

end Sys2Proof
end

