-- ==== Sys2Proof/Syntax.lean ====
section
/-! DEFINITION. The 251 commands of the block: one constructor per row of spec/opcode_table.json, with the operands the row's rule names. What only the world outside the controller knows (a device's status, data from the host, a sensor's reading, a choice of drive firmware) is an operand; everything the spec computes is not. -/

namespace Sys2Proof

/-- The eight rails of Table 2.1. -/
inductive Rail where
  | core | sram | pcieL | pcieH | nand | ddr | io | aux
deriving DecidableEq, Repr, Inhabited

/-- What raised a supply-loss event (R34, R359). -/
inductive SupplyCause where
  | pwrfailN
  | rail (r : Rail)
deriving DecidableEq, Repr, Inhabited

/-- The two control clusters (15). -/
inductive Cluster where
  | a | b
deriving DecidableEq, Repr, Inhabited

/-- Who accesses a register: a function of the host through a BAR, or a lockstep pair of a cluster with the low 8 bits of its epoch (R420). -/
inductive Accessor where
  | host (fn bar : Nat)
  | firmware (cluster : Cluster) (pair : Nat) (epoch : BitVec 8)
deriving DecidableEq, Repr, Inhabited

/-- A submission queue entry as fetched (Table 4.4): dword 0 (opcode, FUSE and PSDT, command identifier), NSID, MPTR, DPTR (two PRP entries or one SGL descriptor) and dwords 10 to 15. -/
structure Sqe where
  opcode : BitVec 8
  flags  : BitVec 8
  cid    : BitVec 16
  nsid   : Word
  mptr   : Dword
  dptr   : BitVec 128
  cdw10  : Word
  cdw11  : Word
  cdw12  : Word
  cdw13  : Word
  cdw14  : Word
  cdw15  : Word
deriving DecidableEq, Repr, Inhabited

/-- How a link request ended: with data, with a poisoned completion, with Unsupported Request or with Completer Abort (R77, R98, Table 3.4). -/
inductive CplKind where
  | ok | poisoned | ur | ca
deriving DecidableEq, Repr, Inhabited

/-- Outcome of the protection information checks that PRCHK requests (R103, Table 4.6). -/
inductive PiCheck where
  | pass | guard | appTag | refTag
deriving DecidableEq, Repr, Inhabited

/-- A received TLP of Table 3.4. `np`: the request is non-posted. -/
inductive TlpError where
  | ecrc (np : Bool)
  | malformed (np : Bool)
  | unsupported (np : Bool)
  | unexpectedCompletion
  | poisonedBar0
  | poisonedBar4
  | poisonedBar2 (offset : Nat)
  | correctable
deriving DecidableEq, Repr, Inhabited

/-- An inbound TLP to BAR2: the function whose aperture it entered, the offset in that aperture, its PASID prefix, its Requester ID and whether it is poisoned (Table 6.2, R164). -/
structure PeerTlp where
  fn     : Nat
  offset : Nat
  pasid  : Option Nat
  reqId  : BitVec 16
  poison : Bool
deriving DecidableEq, Repr, Inhabited

/-- NAND operation kinds of R214, in the KIND code order of DSC_DIE_STS. -/
inductive OpKind where
  | read | slcProgram | tlcProgram | qlcProgram | erase
deriving DecidableEq, Repr, Inhabited

/-- The classes of Table 8.1. -/
inductive OpClass where
  | urgent | high | normal | background | rebuild | gc | scrub
deriving DecidableEq, Repr, Inhabited

/-- The bytes that a read asks for: the address of the first and how many they are (R496). -/
structure ReadSpan where
  addr : Nat
  size : Nat
deriving DecidableEq, Repr, Inhabited

/-- A Firmware Commit as its row gives it: the context, and whether the code store's writes of the image succeed (R450, R451). -/
structure CommitRun where
  ctx     : Nat
  storeOk : Bool
deriving DecidableEq, Repr, Inhabited

/-- What a training of one CE_N found: the highest step that passes (0: none), and the positions that fail alone (R247, R248). -/
structure TrainFound where
  passMts : Nat
  fails   : List Nat
deriving DecidableEq, Repr, Inhabited

/-- The status of drive firmware's answer, and the number of the passed-on access that it answers (R469). -/
structure FwStatus where
  num    : Nat
  status : Nat
deriving DecidableEq, Repr, Inhabited

/-- Where a slot lies: die, block, page, slot (R183). -/
structure Loc where
  die   : Nat
  block : Nat
  page  : Nat
  slot  : Nat
deriving DecidableEq, Repr, Inhabited

/-- An operation as its submitter gives it to DSC (R214 to R216). `planes` is the number of planes it covers. -/
structure OpRequest where
  kind   : OpKind
  die    : Nat
  block  : Nat
  page   : Nat
  planes : Nat
  cls    : OpClass
  raised : Bool
  slice  : Nat
deriving DecidableEq, Repr, Inhabited

/-- What the die reports for the operation it ran. -/
inductive DieStatus where
  | good | fail | suspended
deriving DecidableEq, Repr, Inhabited

/-- What initialisation found on one channel (R245 to R247): positions that answered, positions whose parameter page differs, positions that fail training alone, the highest rate of the step list at which training passes (0: none). -/
structure ChannelFound where
  ch        : Nat
  present   : BitVec 32
  mismatch  : BitVec 32
  trainFail : BitVec 32
  passMts   : Nat
  tempC     : Int
deriving DecidableEq, Repr, Inhabited

/-- What the parameter page of the NAND part gives (R245, R313): planes of a die, blocks of a plane, wordlines of a block, and pages per wordline in its native mode (3 TLC, 4 QLC). -/
structure NandPart where
  planes : Nat
  blocks : Nat
  wls    : Nat
  native : Nat
deriving DecidableEq, Repr, Inhabited

/-- The write guard inputs of Table 9.5 that are levels, the two of one die, and VDDQ_NAND against VDDQ_DUMP_MV (R258). -/
inductive GuardInput where
  | vin | vddq | pwrfail | vddqDump | temp (die : Nat) | stale (die : Nat)
deriving DecidableEq, Repr, Inhabited

/-- How a codeword's decode ended: the level and the attempt inside the level (R282), the bits corrected, whether the header matched the lookup (R276), and whether the raw frame was poisoned (R311). -/
structure DecodeResult where
  level    : Nat
  attempt  : Nat
  bits     : Nat
  headerOk : Bool
  poison   : Bool
deriving DecidableEq, Repr, Inhabited

/-- What one scrub sample read: level needed and bits corrected at L0 (R293, R294). -/
structure ScrubSample where
  die   : Nat
  block : Nat
  page  : Nat
  slot  : Nat
  level : Nat
  bits  : Nat
deriving DecidableEq, Repr, Inhabited

/-- The namespace that Namespace Management creates (R183, R186, R300). -/
structure NamespaceSpec where
  nsze    : Nat
  lbaf    : Nat
  granule : Nat
  keySlot : Nat
  cellQlc : Bool
deriving DecidableEq, Repr, Inhabited

/-- What the loader reads at a start that the model does not compute: whether the DRAM map kept through a reset passes its checks, whether the directory checkpoint and the journal pass theirs, whether the dump header's CRC passes, and whether both copies of some trim-log page are unreadable (R48, R203, R210, R368). -/
structure StartFindings where
  dramMapOk : Bool
  dirOk     : Bool
  dumpCrcOk : Bool
  trimLost  : Bool
deriving DecidableEq, Repr, Inhabited

/-- Which copies of a mirrored journal are lost (R199, Table 11.4). -/
inductive CopyLost where
  | a | b | ab | s | abs
deriving DecidableEq, Repr, Inhabited

/-- The transports of Table 17.2. -/
inductive Transport where
  | i3c | smbus | port (p : Nat) | firmware
deriving DecidableEq, Repr, Inhabited

/-- A Call Sheet request (Tables 17.3 and 17.7): its transport, the requester's EID and tag or SEQ, the object address, and, on the firmware port, the epoch it carries. -/
structure SheetRequest where
  via   : Transport
  eid   : Nat
  tag   : Nat
  index : Nat
  sub   : Nat
  epoch : BitVec 8
  cluster : Cluster
deriving DecidableEq, Repr, Inhabited

/-- A malformed Tuigor or port request (R471, R472): its header fields. -/
structure RawMessage where
  via      : Transport
  ver      : Nat
  cmd      : Nat
  tag      : Nat
  status   : Nat
  reserved : Nat
  index    : Nat
  sub      : Nat
  length   : Nat
  dataLen  : Nat
deriving DecidableEq, Repr, Inhabited

/-- The requesters of DRAM, in the order of Table 14.3. -/
inductive DramRequester where
  | galIngress | mxeUrgentLookup | qenCmbFetch | mxeOther | ccl | mxeBulk | galBulk | dmcPatrol
deriving DecidableEq, Repr, Inhabited

/-- One 64 B DRAM access (R394): a write carries its bytes and byte mask. -/
structure DramAccess where
  from_ : DramRequester
  addr  : Nat
  write : Option (BitVec 512 × BitVec 64)
deriving DecidableEq, Repr, Inhabited

/-- What the device-correct code found in a burst (R403). -/
inductive EccResult where
  | clean
  | corrected (device : Nat)
  | uncorrectable
deriving DecidableEq, Repr, Inhabited

/-- Causes of a fault cut (Table 15.2, causes 1 to 3). -/
inductive FaultCause where
  | lockstep | memory | selftest
deriving DecidableEq, Repr, Inhabited

/-- A CSU command's addressing (CSU_CMD): physical or logical sector and page; the requesting pair, its epoch and its instruction fetch address (R439). -/
structure CsuRequest where
  cluster : Cluster
  pair    : Nat
  epoch   : BitVec 8
  sector  : Nat
  page    : Nat
  fetchAt : Nat
deriving DecidableEq, Repr, Inhabited

/-- What a JTAG access reaches (R442). -/
inductive DebugSpace where
  | codeStore | tcm (cluster : Cluster) (pair : Nat) | stageSram | dram
deriving DecidableEq, Repr, Inhabited

/-- A trigger of Table 18.1 with its source unit, source instance and ARG (R485, Table 18.3). -/
structure Trigger where
  code     : Nat
  unit     : Nat
  inst     : Nat
  arg      : Dword
deriving DecidableEq, Repr, Inhabited

/-- A seal grant record's fields (Table 16.10), the 288 bytes as one little-endian number. -/
abbrev GrantBytes := BitVec 2304

/-- A wrapped key record (Table 10.8), 96 bytes as one little-endian number. -/
abbrev KeyRecord := BitVec 768

/-- A configuration write that the block acts on: the Link Control fields, Device Control (MPS, MRRS, 10-Bit Tag Requester Enable), the completion timeout value in µs (0: disabled), PTM Enable, ATS Enable, Memory Space Enable, VF Enable with VF Memory Space Enable and NumVFs, and ECRC generation and check (R40, R63 to R65, R69, R71, R75, R77 to R81, R84). -/
inductive CfgWrite where
  | link (l0p l1 l11 l12 : Bool)
  | device (mps mrrs : Nat) (tag10 : Bool)
  | completionTimeout (us : Nat)
  | ptm (en : Bool)
  | ats (en : Bool)
  | memorySpace (en : Bool)
  | sriov (vfEn vfMse : Bool) (numVfs : Nat)
  | ecrc (generate check : Bool)
deriving DecidableEq, Repr, Inhabited

/-- The commands. Each constructor's docstring gives the row of opcode_table.json. Context numbers `c`, slices `s`, dies `d`, windows `w`, functions `fn` and other indexes are numbers; `Instr.WellFormed` states their bounds. -/
inductive Instr where
  /-- REGISTER_WRITE (R4): `size` bytes of `data` at `addr` (BAR offset or internal address) with byte enables `be`. -/
  | registerWrite (who : Accessor) (addr size : Nat) (data : Dword) (be : BitVec 8)
  /-- RC_FIELD_READ (R8): the bytes of `span`. -/
  | rcFieldRead (who : Accessor) (span : ReadSpan)
  /-- LO_REGISTER_READ (R499): the bytes of `span`. -/
  | loRegisterRead (who : Accessor) (span : ReadSpan)
  /-- AUX_POWER_UP (R39). -/
  | auxPowerUp
  /-- AUX_POWER_LOSS (R482). -/
  | auxPowerLoss
  /-- POWER_UP (R34). -/
  | powerUp
  /-- SUPPLY_LOSS (R359). -/
  | supplyLoss (cause : SupplyCause)
  /-- DUMP_WAIT_EXPIRY (R364). -/
  | dumpWaitExpiry
  /-- JOURNAL_FREEZE (R364). -/
  | journalFreeze
  /-- DUMP_HEADER_GOOD (R365). -/
  | dumpHeaderGood
  /-- RAIL_ABORT_LEVEL (R511). -/
  | railAbortLevel (r : Rail)
  /-- SUPPLY_RESTORE_START (R57). -/
  | supplyRestoreStart
  /-- THERMAL_TRIP (R56). -/
  | thermalTrip (sensor : Nat)
  /-- THERMAL_TRIP_RELEASE (R56). -/
  | thermalTripRelease
  /-- PERST_N_ASSERT (R38). -/
  | perstNAssert
  /-- PERST_N_RELEASE (R40). -/
  | perstNRelease
  /-- CONFIGURATION_SPACE_READY (R40). -/
  | configurationSpaceReady
  /-- CONFIGURATION_REQUEST (R40): a read at an offset, or a write of one of the fields of `CfgWrite`. -/
  | configurationRequest (fn offset : Nat) (wr : Option CfgWrite)
  /-- BOOT_ROM_START (R42): whether cluster A passes its boot self-test (R419). -/
  | bootRomStart (aPasses : Bool)
  /-- ADMIN_SUBSET_OPEN (R43). -/
  | adminSubsetOpen
  /-- START_DECISION (R48). -/
  | startDecision (found : StartFindings)
  /-- HALL_ENTRY (R46). -/
  | hallEntry
  /-- LINK_TRAINING (R66): the partner's highest rate and width and FLIT support, the lanes that pass detection, the rates at which equalisation fails once, and twice. -/
  | linkTraining (rate width : Nat) (flit : Bool) (lanes : BitVec 16) (failOnce failTwice : List Nat)
  /-- LINK_DOWN (R89). -/
  | linkDown
  /-- NVM_SUBSYSTEM_RESET (R58). -/
  | nvmSubsystemReset
  /-- HOT_RESET (R87). -/
  | hotReset
  /-- FLR (R87). -/
  | flr (fn : Nat)
  /-- FLR_COMPLETE (R88). -/
  | flrComplete (fn : Nat)
  /-- TAG_QUARANTINE_EXPIRY (R87). -/
  | tagQuarantineExpiry
  /-- COMPLETION_RECEIVED (R73): the completion for `tag`, its kind, and its data bytes, little-endian. -/
  | completionReceived (tag : Nat) (kind : CplKind) (data : BitVec 4096)
  /-- COMPLETION_TIMEOUT (R75). -/
  | completionTimeout (tag : Nat)
  /-- TIMEOUT_TAG_RELEASE (R75). -/
  | timeoutTagRelease
  /-- INBOUND_ERROR_TLP (R83). -/
  | inboundErrorTlp (e : TlpError)
  /-- ATS_INVALIDATE (R76): the invalidated function, PASID and page. -/
  | atsInvalidate (fn : Nat) (pasid : Option Nat) (page : Nat)
  /-- TRANSLATION_COMPLETION (R77): for the translation request `tag` of a page; the translated page, or none when no access is granted. -/
  | translationCompletion (tag page : Nat) (granted : Option Nat)
  /-- L0P_NARROW (R78). -/
  | l0pNarrow
  /-- L0P_WIDEN (R78). -/
  | l0pWiden
  /-- L1_ENTRY (R79): `l12` when the LTR values and CLKREQ_N permit L1.2. -/
  | l1Entry (l12 : Bool)
  /-- L1_EXIT (R80). -/
  | l1Exit
  /-- PTM_DIALOG (R81): the root's time less fleet time in ns, or none without a response. -/
  | ptmDialog (offset : Option Int)
  /-- BUS_MASTER_ENABLE_CLEAR (R85). -/
  | busMasterEnableClear (fn : Nat)
  /-- BUS_MASTER_ENABLE_SET (R86). -/
  | busMasterEnableSet (fn : Nat)
  /-- DOORBELL_WRITE (R97): function, queue identifier, CQ head or SQ tail, value, PASID prefix (R137). -/
  | doorbellWrite (fn qid : Nat) (isCq : Bool) (value : Nat) (pasid : Option Nat)
  /-- SQ_ENTRY_FETCH (R98): the fetch of the next entries of the queue of number `sq`, whose turn it is. -/
  | sqEntryFetch (sq : Nat)
  /-- FETCH_AGE_PROMOTION (R101). -/
  | fetchAgePromotion (sq : Nat)
  /-- SEQUENCE_POINT (R103). -/
  | sequencePoint (c : Nat)
  /-- POSTING_DECISION (R111). -/
  | postingDecision (c : Nat)
  /-- READ (R13). -/
  | read (c : Nat)
  /-- WRITE (R193): the outcome the requested protection checks will have. -/
  | write (c : Nat) (pi : PiCheck)
  /-- WRITE_ZEROES (R209). -/
  | writeZeroes (c : Nat)
  /-- DATASET_MANAGEMENT (R209): the read of its range list, or, once that list is read, the deallocation of the ranges. -/
  | datasetManagement (c : Nat) (listRead : Bool)
  /-- FLUSH (R118). -/
  | flush (c : Nat)
  /-- INVALID_COMMAND_OPCODE (R93). -/
  | invalidCommandOpcode (c : Nat)
  /-- ABORT (R112). -/
  | abort (c : Nat)
  /-- DELETE_IO_SUBMISSION_QUEUE (R528). -/
  | deleteIoSubmissionQueue (c : Nat)
  /-- CREATE_IO_SUBMISSION_QUEUE (R135): where the queue's base lies in the function's Controller Memory Buffer, if it lies there (R98, R162): the host gives BAR2 its address. -/
  | createIoSubmissionQueue (c : Nat) (cmb : Option Nat)
  /-- DELETE_IO_COMPLETION_QUEUE (R93). -/
  | deleteIoCompletionQueue (c : Nat)
  /-- CREATE_IO_COMPLETION_QUEUE (R135). -/
  | createIoCompletionQueue (c : Nat)
  /-- IDENTIFY (R43). -/
  | identify (c : Nat)
  /-- GET_LOG_PAGE (R527). -/
  | getLogPage (c : Nat)
  /-- GET_FEATURES (R93). -/
  | getFeatures (c : Nat)
  /-- SET_FEATURES_ARBITRATION (R99). -/
  | setFeaturesArbitration (c : Nat)
  /-- SET_FEATURES_POWER_MANAGEMENT (R125). -/
  | setFeaturesPowerManagement (c : Nat)
  /-- SET_FEATURES_VOLATILE_WRITE_CACHE (R109). -/
  | setFeaturesVolatileWriteCache (c : Nat)
  /-- SET_FEATURES_INTERRUPT_COALESCING (R111). -/
  | setFeaturesInterruptCoalescing (c : Nat)
  /-- SET_FEATURES_HCTM (R231). -/
  | setFeaturesHctm (c : Nat)
  /-- ASYNCHRONOUS_EVENT_REQUEST (R113). -/
  | asynchronousEventRequest (c : Nat)
  /-- NAMESPACE_MANAGEMENT (R186): the data structure of a create; ignored for a delete. -/
  | namespaceManagement (c : Nat) (spec : NamespaceSpec)
  /-- NAMESPACE_ATTACHMENT (R136): the slice to own the namespace, or none to detach. -/
  | namespaceAttachment (c : Nat) (slice : Option Nat)
  /-- FIRMWARE_IMAGE_DOWNLOAD (R450): the data of the transfer. -/
  | firmwareImageDownload (c : Nat) (bytes : List Byte)
  /-- FIRMWARE_COMMIT_REPLACE (R451). -/
  | firmwareCommitReplace (run : CommitRun)
  /-- FIRMWARE_COMMIT_NEXT_RESET (R450). -/
  | firmwareCommitNextReset (run : CommitRun)
  /-- FIRMWARE_COMMIT_ACTIVATE (R124). -/
  | firmwareCommitActivate (run : CommitRun)
  /-- FIRMWARE_ACTIVATION (R122). -/
  | firmwareActivation
  /-- ACTIVATION_DRAIN_DONE (R123). -/
  | activationDrainDone
  /-- VIRTUALIZATION_MANAGEMENT (R135). -/
  | virtualizationManagement (c : Nat)
  /-- FORMAT_NVM (R307). -/
  | formatNvm (c : Nat)
  /-- SANITIZE_BLOCK_ERASE (R93). -/
  | sanitizeBlockErase (c : Nat)
  /-- SANITIZE_CRYPTO_ERASE (R307). -/
  | sanitizeCryptoErase (c : Nat)
  /-- CONTROLLER_ENABLE (R45): CC.CRIME and CC.AMS (true: weighted round robin) of the write. -/
  | controllerEnable (fn : Nat) (crime wrr : Bool)
  /-- CONTROLLER_RESET (R120). -/
  | controllerReset (fn : Nat)
  /-- SHUTDOWN_NOTIFICATION (R121): CC.SHN of the write, 1 or 2. -/
  | shutdownNotification (fn shn : Nat)
  /-- AUTONOMOUS_PS_TRANSITION (R126). -/
  | autonomousPsTransition (ps : Nat)
  /-- NONOP_ENTRY_COMPLETE (R126). -/
  | nonopEntryComplete
  /-- NONOP_EXIT_COMPLETE (R126). -/
  | nonopExitComplete
  /-- RESCUE_IDENT (R128). -/
  | rescueIdent (seq : BitVec 8)
  /-- RESCUE_LOAD (R128). -/
  | rescueLoad (seq : BitVec 8)
  /-- RESCUE_COMMIT (R128). -/
  | rescueCommit (seq : BitVec 8)
  /-- RESCUE_RESTORE (R128). -/
  | rescueRestore (seq : BitVec 8)
  /-- RESCUE_RESTART (R128). -/
  | rescueRestart (seq : BitVec 8)
  /-- RESCUE_TASK_END (R128): whether the code store programs and erases of the task succeeded. -/
  | rescueTaskEnd (storeOk : Bool)
  /-- TOKEN_REFILL (R141). -/
  | tokenRefill
  /-- FLOOR_WINDOW (R144). -/
  | floorWindow
  /-- SLICE_COMMIT (R145). -/
  | sliceCommit (sl : Nat)
  /-- SLICE_DISCARD (R145). -/
  | sliceDiscard (sl : Nat)
  /-- SLICE_QUIESCE (R154). -/
  | sliceQuiesce (sl : Nat)
  /-- SLICE_QUIESCED (R154). -/
  | sliceQuiesced (sl : Nat)
  /-- SLICE_UNQUIESCE (R154). -/
  | sliceUnquiesce (sl : Nat)
  /-- QSTATE_WRITE (R154): SQ head, SQ tail, CQ tail and CQ phase for the pair QSTATE_SEL names. -/
  | qstateWrite (sqHead sqTail cqTail : Nat) (phase : Bool)
  /-- DLOG_HEAD_WRITE (R153). -/
  | dlogHeadWrite (sl head : Nat)
  /-- DLOG_EPOCH_WRITE (R151). -/
  | dlogEpochWrite (sl value : Nat)
  /-- SLICE_RESET_DRAIN (R155). -/
  | sliceResetDrain (sl : Nat)
  /-- SLICE_RESET_SQUASH (R155). -/
  | sliceResetSquash (sl : Nat)
  /-- SLICE_DRAIN_TIMEOUT (R155). -/
  | sliceDrainTimeout (sl : Nat)
  /-- SLICE_RESET (R156). -/
  | sliceReset (sl : Nat)
  /-- SLICE_RESET_DONE (R157). -/
  | sliceResetDone (sl : Nat)
  /-- GALLERY_WRITE (R163). -/
  | galleryWrite (tlp : PeerTlp) (bytes : List Byte)
  /-- GALLERY_READ (R170): a read of `len` bytes. -/
  | galleryRead (tlp : PeerTlp) (len : Nat)
  /-- FENCE (R172). -/
  | fence (tlp : PeerTlp)
  /-- FENCE_COMPLETION (R173). -/
  | fenceCompletion (w : Nat)
  /-- WIN_COMMIT (R176). -/
  | winCommit
  /-- WIN_DISCARD (R461). -/
  | winDiscard
  /-- WINDOW_SET_ACTIVATE (R177). -/
  | windowSetActivate
  /-- WINDOW_COMMIT_TIMEOUT (R177). -/
  | windowCommitTimeout
  /-- RT_PANIC_ASSERT (R180). -/
  | rtPanicAssert
  /-- RT_PANIC_RELEASE (R180). -/
  | rtPanicRelease
  /-- MAP_COMMIT (R198). -/
  | mapCommit
  /-- JOURNAL_PAGE_WRITE (R199). -/
  | journalPageWrite
  /-- JOURNAL_PAGE_GOOD (R199): copy A (true) or copy B of the oldest page in flight reports good. -/
  | journalPageGood (copyA : Bool)
  /-- JOURNAL_COPY_LOST (R199). -/
  | journalCopyLost (lost : CopyLost)
  /-- SEGMENT_WRITEBACK (R202): `loc` is the slot of the SYSTEM band that comes next. -/
  | segmentWriteback (nsid seg : Nat) (loc : Loc)
  /-- DIRECTORY_CHECKPOINT (R202). -/
  | directoryCheckpoint
  /-- SEGMENT_LOAD (R203). -/
  | segmentLoad (nsid seg : Nat)
  /-- SUSPECT_REBUILD (R189): whether the segment's NAND copy and the journal give the entry, and whether the candidate bands could be read. -/
  | suspectRebuild (nsid g : Nat) (fromSegment bandsOk : Bool)
  /-- BAND_CLOSE (R191). -/
  | bandClose (b : Nat)
  /-- BAND_OPEN_TIMEOUT (R191). -/
  | bandOpenTimeout (b : Nat)
  /-- VICTIM_SELECT (R529). -/
  | victimSelect (b : Nat)
  /-- BAND_RELEASE (R205). -/
  | bandRelease (b : Nat)
  /-- FOLD_START (R194). -/
  | foldStart
  /-- FOLD_STOP (R194). -/
  | foldStop
  /-- DIE_OPERATION_SUBMIT (R215). -/
  | dieOperationSubmit (op : OpRequest)
  /-- DIE_OPERATION_START (R217). -/
  | dieOperationStart (d : Nat)
  /-- DIE_READY (R249): what the die reports. -/
  | dieReady (d : Nat) (st : DieStatus)
  /-- DIE_AGE_PROMOTION (R218). -/
  | dieAgePromotion (op : Nat)
  /-- SUSPEND_ISSUE (R220). -/
  | suspendIssue (d : Nat)
  /-- RESUME_SUBMIT (R221). -/
  | resumeSubmit (d : Nat)
  /-- DIE_OFFLINE (R219). -/
  | dieOffline (d : Nat)
  /-- DIE_REENABLE (R332). -/
  | dieReenable (d : Nat)
  /-- REBUDGET (R225). -/
  | rebudget
  /-- JUNCTION_SENSOR_READ (R231): the eight readings, °C. -/
  | junctionSensorRead (temps : List Int)
  /-- CHANNEL_INIT (R246): the NAND part, and what each channel finds. -/
  | channelInit (part : NandPart) (found : List ChannelFound)
  /-- ZQ_CALIBRATION (R248). -/
  | zqCalibration
  /-- CHANNEL_RETRAIN (R248): the CE_N of the channel, and what its training found. -/
  | channelRetrain (ch ce : Nat) (found : TrainFound)
  /-- STATUS_POLL (R249): whether the poll finds the die ready. -/
  | statusPoll (d : Nat) (ready : Bool)
  /-- BUSY_TIMEOUT (R251). -/
  | busyTimeout (d : Nat)
  /-- WRITE_GUARD_ACTIVATE (R254). -/
  | writeGuardActivate (g : GuardInput)
  /-- WRITE_GUARD_CLEAR (R257). -/
  | writeGuardClear (g : GuardInput)
  /-- GUARD_WAIT_TIMEOUT (R256). -/
  | guardWaitTimeout (op : Nat)
  /-- DIE_TEMPERATURE_POLL (R256). -/
  | dieTemperaturePoll (d : Nat) (tempC : Int)
  /-- VERIFY_READ (R259). -/
  | verifyRead (d block page : Nat)
  /-- CODEWORD_DECODE (R275): the codeword read from a slot for the oldest reader waiting for it. -/
  | codewordDecode (loc : Loc) (res : DecodeResult)
  /-- THETA_UPDATE (R277). -/
  | thetaUpdate
  /-- THETA_STORE (R277). -/
  | thetaStore
  /-- SCRUB_VISIT (R293). -/
  | scrubVisit (b : Nat) (samples : List ScrubSample)
  /-- SCRUB_WINDOW_OPEN (R296). -/
  | scrubWindowOpen (w : Nat)
  /-- SCRUB_WINDOW_CLOSE (R296). -/
  | scrubWindowClose (w : Nat)
  /-- WEAR_UPDATE (R297). -/
  | wearUpdate
  /-- KEY_LOAD (R303): CDX_KEY_CTL.SLOT of the write. -/
  | keyLoad (slot : Nat)
  /-- KEY_GENERATE (R303). -/
  | keyGenerate (slot : Nat)
  /-- KEY_CLEAR (R303). -/
  | keyClear (slot : Nat)
  /-- KEY_OP_END (R303). -/
  | keyOpEnd
  /-- GATHER_TIMEOUT (R326): the stripe of a band at a row, position and number. -/
  | gatherTimeout (b row pos stripe : Nat)
  /-- STRIPE_JOURNAL_PAGE_WRITE (R330). -/
  | stripeJournalPageWrite
  /-- STRIPE_JOURNAL_COPY_LOST (R331). -/
  | stripeJournalCopyLost (lost : CopyLost)
  /-- REBUILD_START (R332). -/
  | rebuildStart
  /-- REBUILD_STRIPE (R333): the band and the row, position and number of the stripe; the survivors (dies) that do not decode at L0, with the level they need (6: none). -/
  | rebuildStripe (b row pos stripe : Nat) (survivors : List (Nat × Nat))
  /-- REBUILD_PHASE2 (R333). -/
  | rebuildPhase2
  /-- ENERGY_ESTIMATE (R354): the HOLDUP_SENSE samples since the last estimate, oldest first. -/
  | energyEstimate (codes : List (BitVec 12))
  /-- STORE_CHARGED (R353). -/
  | storeCharged
  /-- DISCHARGE_TEST_START (R356). -/
  | dischargeTestStart
  /-- DISCHARGE_TEST_END (R357). -/
  | dischargeTestEnd
  /-- BUFFER_REQUEST (R380): unit, size in bytes, slice charged, Urgent read, PREV handle. -/
  | bufferRequest (unit size : Nat) (slice : Option Nat) (urgent : Bool) (prev : Option (BitVec 24))
  /-- BUFFER_GRANT (R383). -/
  | bufferGrant (pool : Nat)
  /-- BUFFER_SHARE (R385). -/
  | bufferShare (h : BitVec 24) (by_ unit : Nat)
  /-- BUFFER_FREE (R385). -/
  | bufferFree (h : BitVec 24) (by_ : Nat)
  /-- BUFFER_FREE_CHAIN (R385). -/
  | bufferFreeChain (h : BitVec 24) (by_ : Nat)
  /-- POISON_BUFFER_CLEAN (R387): whether every word reads back clean. -/
  | poisonBufferClean (h : BitVec 24) (clean : Bool)
  /-- RING_REFILL (R382). -/
  | ringRefill (pool : Nat)
  /-- SRAM_SCRUB (R374): the word's stage offset, the bits in error in it. -/
  | sramScrub (offset errBits : Nat)
  /-- DRAM_REQUEST (R394): the access and what the code finds in the burst. -/
  | dramRequest (a : DramAccess) (ecc : EccResult)
  /-- DRAM_AGE_PROMOTION (R397): the request waiting longest of MAP-N (true) or BULK. -/
  | dramAgePromotion (mapN : Bool)
  /-- DRAM_REFRESH (R400). -/
  | dramRefresh (ch sub : Nat)
  /-- MR4_READ (R400): the hottest device of the rank, °C. -/
  | mr4Read (tempC : Int)
  /-- ROW_TABLE_CLEAR (R401). -/
  | rowTableClear
  /-- PATROL_SCRUB (R406). -/
  | patrolScrub (addr : Nat) (ecc : EccResult)
  /-- DRAM_ALERT (R407). -/
  | dramAlert (ch : Nat)
  /-- DRAM_TRAINING (R409): channels found, ranks (1 or 2), 32 Gbit devices, log2 of the stack height, training passed. -/
  | dramTraining (chMask : BitVec 4) (ranks : Nat) (dens32 : Bool) (cidBits : Nat) (passed : Bool)
  /-- DQS_OSCILLATOR_READ (R410). -/
  | dqsOscillatorRead (ch : Nat) (drift : Bool)
  /-- DRAM_ZQ_CALIBRATION (R410). -/
  | dramZqCalibration
  /-- DRAM_RETRAIN (R410). -/
  | dramRetrain (ch : Nat)
  /-- RETIRE_GO (R411). -/
  | retireGo
  /-- RETIRE_COPY_DONE (R412). -/
  | retireCopyDone (entry : Nat)
  /-- SELF_REFRESH_ENTRY (R414). -/
  | selfRefreshEntry
  /-- SELF_REFRESH_EXIT (R415). -/
  | selfRefreshExit
  /-- RANK_POWER_DOWN (R416). -/
  | rankPowerDown (ch rank : Nat)
  /-- CUT_FAULT (R422). -/
  | cutFault (cause : FaultCause)
  /-- WATCHDOG_EXPIRY (R422). -/
  | watchdogExpiry
  /-- HEARTBEAT_WRITE (R430). -/
  | heartbeatWrite (cluster : Cluster) (epoch : BitVec 8)
  /-- CUT_GO (R423). -/
  | cutGo
  /-- CUT_REQ (R423): the request and the value written. -/
  | cutReq (r : SheetRequest) (value : Nat)
  /-- CUT_FENCE (R424). -/
  | cutFence
  /-- EPOCH_TAKE (R424). -/
  | epochTake
  /-- CLUSTER_SELFTEST_END (R419). -/
  | clusterSelftestEnd (cluster : Cluster) (pass : Bool)
  /-- CLUSTER_SYNC_DONE (R419). -/
  | clusterSyncDone (cluster : Cluster)
  /-- CLUSTER_REPAIR (R432). -/
  | clusterRepair (cluster : Cluster)
  /-- STANDBY_SELFTEST (R432). -/
  | standbySelftest
  /-- ROTATE_CUT (R433). -/
  | rotateCut
  /-- SCRIPT_WRITE (R429): the writing cluster, its epoch, and the record. -/
  | scriptWrite (cluster : Cluster) (epoch : BitVec 8) (bytes : List Byte)
  /-- SCRIPT_CHECKPOINT (R429). -/
  | scriptCheckpoint
  /-- CSU_PROGRAM (R439). -/
  | csuProgram (r : CsuRequest)
  /-- CSU_ERASE (R439). -/
  | csuErase (r : CsuRequest)
  /-- WPROGRAM (R444). -/
  | wprogram (r : CsuRequest)
  /-- WERASE (R444). -/
  | werase (r : CsuRequest)
  /-- LOADER_COPY (R440). -/
  | loaderCopy (r : CsuRequest)
  /-- CSU_COMMAND_END (R439): the bank whose operation ends and whether it succeeded. -/
  | csuCommandEnd (bank : Nat) (ok : Bool)
  /-- CODE_STORE_READ_SUSPEND (R438). -/
  | codeStoreReadSuspend (bank : Nat)
  /-- CODE_STORE_ERASE_RESUME (R438). -/
  | codeStoreEraseResume (bank : Nat)
  /-- WINDOW_SLIDE (R445). -/
  | windowSlide
  /-- WP_WRITE (R441): word n of CSU_WP and the value written by a pair. -/
  | wpWrite (cluster : Cluster) (pair n : Nat) (value : Word)
  /-- SEAL_STATE_WRITE (R442): the request and the value written. -/
  | sealStateWrite (r : SheetRequest) (value : Nat)
  /-- SEAL_GRANT_SESSION (R443). -/
  | sealGrantSession (r : SheetRequest) (grant : GrantBytes)
  /-- SEAL_GRANT_DOWNGRADE (R443). -/
  | sealGrantDowngrade (r : SheetRequest) (grant : GrantBytes)
  /-- PENDING_TAKE_LIMIT (R453). -/
  | pendingTakeLimit
  /-- ACT_DEADLINE (R454). -/
  | actDeadline
  /-- HEALTH_CONFIRM (R455). -/
  | healthConfirm (r : SheetRequest) (value : Word)
  /-- CONFIRM_WINDOW_EXPIRY (R457). -/
  | confirmWindowExpiry
  /-- FALLBACK_REBOOT (R457). -/
  | fallbackReboot
  /-- CALL_SHEET_READ (R465). -/
  | callSheetRead (r : SheetRequest)
  /-- CALL_SHEET_WRITE (R465): the data bytes. -/
  | callSheetWrite (r : SheetRequest) (bytes : List Byte)
  /-- STORED_WRITE_COMMIT (R465). -/
  | storedWriteCommit
  /-- DESCRIBE (R464). -/
  | describe (r : SheetRequest)
  /-- FW_OBJECT_TIMEOUT (R469). -/
  | fwObjectTimeout
  /-- MCTP_CONTROL_MESSAGE (R470): on the I3C (true) or SMBus endpoint. -/
  | mctpControlMessage (i3c : Bool) (eid : Nat)
  /-- NVME_MI_BASIC_MANAGEMENT (R470). -/
  | nvmeMiBasicManagement (i3c : Bool) (eid : Nat)
  /-- FLEET_SET (R476): the request and the value. -/
  | fleetSet (r : SheetRequest) (value : Dword)
  /-- POWER_ON_SECONDS_STORE (R53). -/
  | powerOnSecondsStore
  /-- RECORDER_TRIGGER (R486). -/
  | recorderTrigger (t : Trigger)
  /-- FW_TRIGGER (R484): CRU_FW_TRIG.CODE of the write. -/
  | fwTrigger (code : BitVec 3)
  /-- REEL_PAGE_FLUSH (R489). -/
  | reelPageFlush
  /-- REEL_READ (R492): a slot of the first (true) or running reel. -/
  | reelRead (first : Bool) (slot : Nat)
  /-- FREEZE (R494): the value written. -/
  | freeze (on : Bool)
  /-- FREEZE_EXPIRY (R494). -/
  | freezeExpiry
  /-- AVS_REQUEST (R512): the target in mV. -/
  | avsRequest (mv : Nat)
  /-- PTM_VALID_EXPIRY (R81). -/
  | ptmValidExpiry
  /-- INTERRUPT_COALESCING_EXPIRY (R111). -/
  | interruptCoalescingExpiry (cq : Nat)
  /-- FW_OBJECT_ANSWER (R469): status and data bytes of drive firmware's answer. -/
  | fwObjectAnswer (status : FwStatus) (bytes : List Byte)
  /-- JTAG_DEBUG_ACCESS (R442): a byte address in a space; the byte written, or none for a read. -/
  | jtagDebugAccess (space : DebugSpace) (addr : Nat) (wr : Option Byte)
  /-- TUIGOR_BAD_MSG (R471). -/
  | tuigorBadMsg (m : RawMessage)
  /-- SMBUS_TIMEOUT (R519). -/
  | smbusTimeout
  /-- I3C_DYNAMIC_ADDRESS_ASSIGNMENT (R470): ENTDAA (true) or SETDASA, and the address. -/
  | i3cDynamicAddressAssignment (entdaa : Bool) (addr : BitVec 7)
  /-- SET_FEATURES_CRITICAL_WARNINGS (R355). -/
  | setFeaturesCriticalWarnings (c : Nat)
deriving DecidableEq, Repr

end Sys2Proof
end

