-- ==== Sys2Proof/Machine/ObjMap.lean ====
section
/-! DEFINITION. The object dictionary: every Call Sheet object of the object tables of spec/02 to spec/18 (R459, R505, R506), with its addresses, type (Table 17.1), access, persistence, fixed default and fixed range. Ranges and defaults that depend on other objects or on the slice are in Sheet.lean. -/

namespace Sys2Proof.Machine

/-- Object types of Table 17.1. -/
inductive ObjType where
  | bool | u8 | u16 | u32 | u64 | i8 | i16 | i32 | i64 | f32 | octets | string | time64
deriving DecidableEq, Repr, Inhabited

/-- Access of an object (Table 17.9). -/
inductive ObjAcc where
  | ro | rw | wo
deriving DecidableEq, Repr, Inhabited

/-- Persistence classes of R462. -/
inductive Persist where
  | volatile | retained | stored
deriving DecidableEq, Repr, Inhabited

/-- An object or an array of objects: indices `idx` to `idx + nidx − 1`, sub-indices `sub` to `sub + nsub − 1` of each. Values are little-endian numbers of `size` bytes; `lo` and `hi` bound the value as its type reads it (unused for F32, OCTETS and STRING). -/
structure Obj where
  idx   : Nat
  nidx  : Nat
  sub   : Nat
  nsub  : Nat
  ty    : ObjType
  size  : Nat
  acc   : ObjAcc
  pers  : Persist
  dflt  : Nat
  lo    : Int
  hi    : Int
  /-- Readable in Foyer (R480). -/
  foyer : Bool
  /-- Staged under a commit (R145, R175). -/
  staged : Bool
deriving DecidableEq, Repr, Inhabited

/-- 0x2800.01 ADMIT_RD_MBPS -/
def Ob.ADMIT_RD_MBPS : Obj := ⟨0x2800, 1, 0x01, 1, .u32, 4, .rw, .stored, 100000, 0, 112000, false, false⟩
/-- 0x2800.02 ADMIT_WR_MBPS -/
def Ob.ADMIT_WR_MBPS : Obj := ⟨0x2800, 1, 0x02, 1, .u32, 4, .rw, .stored, 81000, 0, 90000, false, false⟩
/-- 0x2800.03 ADMIT_CMD_KIOPS -/
def Ob.ADMIT_CMD_KIOPS : Obj := ⟨0x2800, 1, 0x03, 1, .u32, 4, .rw, .stored, 22000, 0, 25000, false, false⟩
/-- 0x1100.01 STAGE -/
def Ob.STAGE : Obj := ⟨0x1100, 1, 0x01, 1, .u8, 1, .ro, .volatile, 0, 0, 2, true, false⟩
/-- 0x1100.02 START_KIND -/
def Ob.START_KIND : Obj := ⟨0x1100, 1, 0x02, 1, .u8, 1, .ro, .volatile, 0, 0, 255, true, false⟩
/-- 0x1100.03 POWER_CYCLES -/
def Ob.POWER_CYCLES : Obj := ⟨0x1100, 1, 0x03, 1, .u32, 4, .ro, .stored, 0, 0, 4294967295, true, false⟩
/-- 0x1100.04 POWER_ON_SECONDS -/
def Ob.POWER_ON_SECONDS : Obj := ⟨0x1100, 1, 0x04, 1, .u64, 8, .ro, .stored, 0, 0, 18446744073709551615, true, false⟩
/-- 0x1100.05 LAST_HALL_MS -/
def Ob.LAST_HALL_MS : Obj := ⟨0x1100, 1, 0x05, 1, .u32, 4, .ro, .retained, 0, 0, 4294967295, true, false⟩
/-- 0x2000.01 CLOCK_MODE -/
def Ob.CLOCK_MODE : Obj := ⟨0x2000, 1, 0x01, 1, .u8, 1, .rw, .stored, 0, 0, 1, false, false⟩
/-- 0x2000.02 MAX_RATE -/
def Ob.MAX_RATE : Obj := ⟨0x2000, 1, 0x02, 1, .u8, 1, .rw, .stored, 6, 1, 6, false, false⟩
/-- 0x2000.03 MAX_WIDTH -/
def Ob.MAX_WIDTH : Obj := ⟨0x2000, 1, 0x03, 1, .u8, 1, .rw, .stored, 16, 4, 16, false, false⟩
/-- 0x2000.04 L0P_EN -/
def Ob.L0P_EN : Obj := ⟨0x2000, 1, 0x04, 1, .bool, 1, .rw, .stored, 1, 0, 1, false, false⟩
/-- 0x2000.05 L0P_LOW_PCT -/
def Ob.L0P_LOW_PCT : Obj := ⟨0x2000, 1, 0x05, 1, .u8, 1, .rw, .retained, 20, 5, 45, false, false⟩
/-- 0x2000.06 L0P_WINDOW_US -/
def Ob.L0P_WINDOW_US : Obj := ⟨0x2000, 1, 0x06, 1, .u16, 2, .rw, .retained, 100, 10, 10000, false, false⟩
/-- 0x2000.07 L1_IDLE_US -/
def Ob.L1_IDLE_US : Obj := ⟨0x2000, 1, 0x07, 1, .u32, 4, .rw, .retained, 250, 20, 1000000, false, false⟩
/-- 0x2000.08 NP_LIMIT -/
def Ob.NP_LIMIT : Obj := ⟨0x2000, 1, 0x08, 1, .u16, 2, .rw, .volatile, 2048, 64, 2048, false, false⟩
/-- 0x2000.09 VF_BAR2_LOG2 -/
def Ob.VF_BAR2_LOG2 : Obj := ⟨0x2000, 1, 0x09, 1, .u8, 1, .rw, .stored, 0, 0, 30, false, false⟩
/-- 0x2400.01 DEFAULT_CLASS -/
def Ob.DEFAULT_CLASS : Obj := ⟨0x2400, 1, 0x01, 1, .u8, 1, .rw, .stored, 2, 0, 3, false, false⟩
/-- 0x2400.02 AGE_HIGH_US -/
def Ob.AGE_HIGH_US : Obj := ⟨0x2400, 1, 0x02, 1, .u32, 4, .rw, .retained, 500, 50, 100000, false, false⟩
/-- 0x2400.03 QEN_AGE_NORMAL_US -/
def Ob.QEN_AGE_NORMAL_US : Obj := ⟨0x2400, 1, 0x03, 1, .u32, 4, .rw, .retained, 2000, 100, 1000000, false, false⟩
/-- 0x2400.04 QEN_AGE_BKG_US -/
def Ob.QEN_AGE_BKG_US : Obj := ⟨0x2400, 1, 0x04, 1, .u32, 4, .rw, .retained, 20000, 1000, 10000000, false, false⟩
/-- 0x2400.10 PS_MAX_POWER_0 -/
def Ob.PS_MAX_POWER_0 : Obj := ⟨0x2400, 1, 0x10, 1, .u16, 2, .rw, .stored, 7000, 0, 65535, false, false⟩
/-- 0x2400.11 PS_MAX_POWER_1 -/
def Ob.PS_MAX_POWER_1 : Obj := ⟨0x2400, 1, 0x11, 1, .u16, 2, .rw, .stored, 5000, 0, 65535, false, false⟩
/-- 0x2400.12 PS_MAX_POWER_2 -/
def Ob.PS_MAX_POWER_2 : Obj := ⟨0x2400, 1, 0x12, 1, .u16, 2, .rw, .stored, 3500, 0, 65535, false, false⟩
/-- 0x2400.13 PS_MAX_POWER_3 -/
def Ob.PS_MAX_POWER_3 : Obj := ⟨0x2400, 1, 0x13, 1, .u16, 2, .rw, .stored, 800, 0, 65535, false, false⟩
/-- 0x2400.14 PS_MAX_POWER_4 -/
def Ob.PS_MAX_POWER_4 : Obj := ⟨0x2400, 1, 0x14, 1, .u16, 2, .rw, .stored, 150, 0, 65535, false, false⟩
/-- 0x2500.00 COMPLETION_MODE -/
def Ob.COMPLETION_MODE : Obj := ⟨0x2500, 4, 0x00, 256, .u8, 1, .rw, .stored, 0, 0, 1, false, false⟩
/-- 0x2800.04 WR_CMD_COST -/
def Ob.WR_CMD_COST : Obj := ⟨0x2800, 1, 0x04, 1, .u8, 1, .rw, .stored, 4, 1, 16, false, false⟩
/-- 0x2800.05 BURST_US -/
def Ob.BURST_US : Obj := ⟨0x2800, 1, 0x05, 1, .u16, 2, .rw, .retained, 200, 10, 10000, false, false⟩
/-- 0x2800.06 DRAIN_MS -/
def Ob.DRAIN_MS : Obj := ⟨0x2800, 1, 0x06, 1, .u16, 2, .rw, .retained, 20, 1, 1000, false, false⟩
/-- 0x2801.00 QSTATE_SEL -/
def Ob.QSTATE_SEL : Obj := ⟨0x2801, 1, 0x00, 1, .u16, 2, .rw, .volatile, 0, 0, 65535, false, false⟩
/-- 0x2801.01 QSTATE -/
def Ob.QSTATE : Obj := ⟨0x2801, 1, 0x01, 1, .octets, 16, .rw, .volatile, 0, 0, 0, false, false⟩
/-- 0x8000.01 FUNC -/
def Ob.FUNC : Obj := ⟨0x8000, 1024, 0x01, 1, .u8, 1, .rw, .stored, 0, 0, 63, false, true⟩
/-- 0x8000.02 PASID -/
def Ob.PASID : Obj := ⟨0x8000, 1024, 0x02, 1, .u32, 4, .rw, .stored, 0, 0, 1048575, false, true⟩
/-- 0x8000.03 PASID_VALID -/
def Ob.PASID_VALID : Obj := ⟨0x8000, 1024, 0x03, 1, .bool, 1, .rw, .stored, 0, 0, 1, false, true⟩
/-- 0x8000.04 QBASE -/
def Ob.QBASE : Obj := ⟨0x8000, 1024, 0x04, 1, .u16, 2, .rw, .stored, 0, 0, 65535, false, true⟩
/-- 0x8000.05 QCOUNT -/
def Ob.QCOUNT : Obj := ⟨0x8000, 1024, 0x05, 1, .u16, 2, .rw, .stored, 0, 0, 65535, false, true⟩
/-- 0x8000.06 KEY_COUNT -/
def Ob.KEY_COUNT : Obj := ⟨0x8000, 1024, 0x06, 1, .u16, 2, .rw, .stored, 0, 0, 65535, false, true⟩
/-- 0x8000.07 CTX_RSV -/
def Ob.CTX_RSV : Obj := ⟨0x8000, 1024, 0x07, 1, .u16, 2, .rw, .stored, 0, 0, 65535, false, true⟩
/-- 0x8000.08 CTX_MAX -/
def Ob.CTX_MAX : Obj := ⟨0x8000, 1024, 0x08, 1, .u16, 2, .rw, .stored, 0, 0, 65535, false, true⟩
/-- 0x8000.09 NP_RSV -/
def Ob.NP_RSV : Obj := ⟨0x8000, 1024, 0x09, 1, .u16, 2, .rw, .stored, 0, 0, 65535, false, true⟩
/-- 0x8000.0A NP_MAX -/
def Ob.NP_MAX : Obj := ⟨0x8000, 1024, 0x0A, 1, .u16, 2, .rw, .stored, 2048, 0, 65535, false, true⟩
/-- 0x8000.0B STAGE_MAX_MIB -/
def Ob.STAGE_MAX_MIB : Obj := ⟨0x8000, 1024, 0x0B, 1, .u8, 1, .rw, .stored, 64, 1, 64, false, true⟩
/-- 0x8000.0C DIE_SET -/
def Ob.DIE_SET : Obj := ⟨0x8000, 1024, 0x0C, 1, .u64, 8, .rw, .stored, 0, 0, 18446744073709551615, false, true⟩
/-- 0x8000.0D DIE_WEIGHT -/
def Ob.DIE_WEIGHT : Obj := ⟨0x8000, 1024, 0x0D, 1, .u8, 1, .rw, .stored, 16, 1, 255, false, true⟩
/-- 0x8000.0E RD_MBPS -/
def Ob.RD_MBPS : Obj := ⟨0x8000, 1024, 0x0E, 1, .u32, 4, .rw, .stored, 0, 0, 118000, false, true⟩
/-- 0x8000.0F WR_MBPS -/
def Ob.WR_MBPS : Obj := ⟨0x8000, 1024, 0x0F, 1, .u32, 4, .rw, .stored, 0, 0, 118000, false, true⟩
/-- 0x8000.10 CMD_KIOPS -/
def Ob.CMD_KIOPS : Obj := ⟨0x8000, 1024, 0x10, 1, .u32, 4, .rw, .stored, 0, 0, 25000, false, true⟩
/-- 0x8000.11 RD_FLOOR -/
def Ob.RD_FLOOR : Obj := ⟨0x8000, 1024, 0x11, 1, .u32, 4, .rw, .stored, 0, 0, 4294967295, false, true⟩
/-- 0x8000.12 WR_FLOOR -/
def Ob.WR_FLOOR : Obj := ⟨0x8000, 1024, 0x12, 1, .u32, 4, .rw, .stored, 0, 0, 4294967295, false, true⟩
/-- 0x8000.13 CMD_FLOOR -/
def Ob.CMD_FLOOR : Obj := ⟨0x8000, 1024, 0x13, 1, .u32, 4, .rw, .stored, 0, 0, 4294967295, false, true⟩
/-- 0x8000.14 VEC_BASE -/
def Ob.VEC_BASE : Obj := ⟨0x8000, 1024, 0x14, 1, .u16, 2, .rw, .stored, 0, 0, 65535, false, true⟩
/-- 0x8000.15 VEC_COUNT -/
def Ob.VEC_COUNT : Obj := ⟨0x8000, 1024, 0x15, 1, .u16, 2, .rw, .stored, 0, 0, 65535, false, true⟩
/-- 0x8000.20 COMMIT -/
def Ob.COMMIT : Obj := ⟨0x8000, 1024, 0x20, 1, .u8, 1, .wo, .volatile, 0, 1, 2, false, false⟩
/-- 0x8000.21 COMMIT_STS -/
def Ob.COMMIT_STS : Obj := ⟨0x8000, 1024, 0x21, 1, .u8, 1, .ro, .volatile, 0, 0, 4, false, false⟩
/-- 0x8000.22 CTRL -/
def Ob.CTRL : Obj := ⟨0x8000, 1024, 0x22, 1, .u8, 1, .rw, .volatile, 0, 0, 3, false, false⟩
/-- 0x8000.23 RESET -/
def Ob.RESET : Obj := ⟨0x8000, 1024, 0x23, 1, .u8, 1, .wo, .volatile, 0, 1, 2, false, false⟩
/-- 0x8000.30 DLOG_BASE -/
def Ob.DLOG_BASE : Obj := ⟨0x8000, 1024, 0x30, 1, .u64, 8, .rw, .volatile, 0, 0, 18446744073709551615, false, false⟩
/-- 0x8000.31 DLOG_SIZE_LOG2 -/
def Ob.DLOG_SIZE_LOG2 : Obj := ⟨0x8000, 1024, 0x31, 1, .u8, 1, .rw, .volatile, 16, 12, 26, false, false⟩
/-- 0x8000.32 DLOG_EXT_SHIFT -/
def Ob.DLOG_EXT_SHIFT : Obj := ⟨0x8000, 1024, 0x32, 1, .u8, 1, .rw, .volatile, 21, 16, 30, false, false⟩
/-- 0x8000.33 DLOG_HEAD -/
def Ob.DLOG_HEAD : Obj := ⟨0x8000, 1024, 0x33, 1, .u32, 4, .rw, .volatile, 0, 0, 4294967295, false, false⟩
/-- 0x8000.34 DLOG_TAIL -/
def Ob.DLOG_TAIL : Obj := ⟨0x8000, 1024, 0x34, 1, .u32, 4, .ro, .volatile, 0, 0, 4294967295, false, false⟩
/-- 0x8000.35 DLOG_EN -/
def Ob.DLOG_EN : Obj := ⟨0x8000, 1024, 0x35, 1, .bool, 1, .rw, .volatile, 0, 0, 1, false, false⟩
/-- 0x8000.36 DLOG_EPOCH -/
def Ob.DLOG_EPOCH : Obj := ⟨0x8000, 1024, 0x36, 1, .u8, 1, .rw, .volatile, 0, 0, 255, false, false⟩
/-- 0x2C00.01 STAGE_GIB -/
def Ob.STAGE_GIB : Obj := ⟨0x2C00, 1, 0x01, 1, .u8, 1, .rw, .stored, 4, 0, 64, false, false⟩
/-- 0x2C00.02 WIN_COMMIT -/
def Ob.WIN_COMMIT : Obj := ⟨0x2C00, 1, 0x02, 1, .u8, 1, .wo, .volatile, 0, 1, 2, false, false⟩
/-- 0x2C00.03 PANIC_ON_PCT -/
def Ob.PANIC_ON_PCT : Obj := ⟨0x2C00, 1, 0x03, 1, .u8, 1, .rw, .retained, 50, 10, 90, false, false⟩
/-- 0x2C00.04 PANIC_OFF_PCT -/
def Ob.PANIC_OFF_PCT : Obj := ⟨0x2C00, 1, 0x04, 1, .u8, 1, .rw, .retained, 25, 5, 85, false, false⟩
/-- 0x2D00.01 WIN.WIN_CTL -/
def Ob.WIN.WIN_CTL : Obj := ⟨0x2D00, 512, 0x01, 1, .u32, 4, .rw, .stored, 0x1000000, 0, 4294967295, false, true⟩
/-- 0x2D00.02 WIN.WIN_BASE -/
def Ob.WIN.WIN_BASE : Obj := ⟨0x2D00, 512, 0x02, 1, .u32, 4, .rw, .stored, 0, 0, 4294967295, false, true⟩
/-- 0x2D00.03 WIN.WIN_SIZE -/
def Ob.WIN.WIN_SIZE : Obj := ⟨0x2D00, 512, 0x03, 1, .u32, 4, .rw, .stored, 1, 0, 4294967295, false, true⟩
/-- 0x2D00.04 WIN.WIN_REQID -/
def Ob.WIN.WIN_REQID : Obj := ⟨0x2D00, 512, 0x04, 1, .u32, 4, .rw, .stored, 0, 0, 4294967295, false, true⟩
/-- 0x2D00.05 WIN.WIN_NSID -/
def Ob.WIN.WIN_NSID : Obj := ⟨0x2D00, 512, 0x05, 1, .u32, 4, .rw, .stored, 0, 0, 4294967295, false, true⟩
/-- 0x2D00.06 WIN.WIN_LBA_LO -/
def Ob.WIN.WIN_LBA_LO : Obj := ⟨0x2D00, 512, 0x06, 1, .u32, 4, .rw, .stored, 0, 0, 4294967295, false, true⟩
/-- 0x2D00.07 WIN.WIN_LBA_HI -/
def Ob.WIN.WIN_LBA_HI : Obj := ⟨0x2D00, 512, 0x07, 1, .u32, 4, .rw, .stored, 0, 0, 4294967295, false, true⟩
/-- 0x2D00.08 WIN.WIN_STAGE -/
def Ob.WIN.WIN_STAGE : Obj := ⟨0x2D00, 512, 0x08, 1, .u32, 4, .rw, .stored, 1, 0, 4294967295, false, true⟩
/-- 0x8000.40 WIN_MAX -/
def Ob.WIN_MAX : Obj := ⟨0x8000, 1024, 0x40, 1, .u16, 2, .rw, .stored, 0, 0, 512, false, true⟩
/-- 0x8000.41 WIN_STAGE_MAX -/
def Ob.WIN_STAGE_MAX : Obj := ⟨0x8000, 1024, 0x41, 1, .u32, 4, .rw, .stored, 0, 0, 65536, false, true⟩
/-- 0x3000.01 DIRECT_MIN_KIB -/
def Ob.DIRECT_MIN_KIB : Obj := ⟨0x3000, 1, 0x01, 1, .u16, 2, .rw, .stored, 192, 64, 2048, false, false⟩
/-- 0x3000.02 LZ_PCT -/
def Ob.LZ_PCT : Obj := ⟨0x3000, 1, 0x02, 1, .u8, 1, .rw, .stored, 3, 1, 10, false, false⟩
/-- 0x3000.03 LZ_FOLD_START_PCT -/
def Ob.LZ_FOLD_START_PCT : Obj := ⟨0x3000, 1, 0x03, 1, .u8, 1, .rw, .retained, 40, 10, 80, false, false⟩
/-- 0x3000.04 JRNL_FLUSH_US -/
def Ob.JRNL_FLUSH_US : Obj := ⟨0x3000, 1, 0x04, 1, .u16, 2, .rw, .retained, 200, 20, 5000, false, false⟩
/-- 0x3000.05 JRNL_MAX_GIB -/
def Ob.JRNL_MAX_GIB : Obj := ⟨0x3000, 1, 0x05, 1, .u8, 1, .rw, .stored, 4, 1, 16, false, false⟩
/-- 0x3000.06 STRICT_FORCE -/
def Ob.STRICT_FORCE : Obj := ⟨0x3000, 1, 0x06, 1, .bool, 1, .rw, .stored, 0, 0, 1, false, false⟩
/-- 0x3000.07 GC_RESERVE_PCT -/
def Ob.GC_RESERVE_PCT : Obj := ⟨0x3000, 1, 0x07, 1, .u8, 1, .rw, .stored, 2, 1, 10, false, false⟩
/-- 0x3000.08 DRAM_GIB -/
def Ob.DRAM_GIB : Obj := ⟨0x3000, 1, 0x08, 1, .u16, 2, .ro, .volatile, 0, 0, 65535, false, false⟩
/-- 0x3000.09 OPEN_MAX_S -/
def Ob.OPEN_MAX_S : Obj := ⟨0x3000, 1, 0x09, 1, .u32, 4, .rw, .stored, 86400, 60, 2592000, false, false⟩
/-- 0x3000.0A MAP_MIB -/
def Ob.MAP_MIB : Obj := ⟨0x3000, 1, 0x0A, 1, .u32, 4, .ro, .volatile, 0, 0, 4294967295, false, false⟩
/-- 0x3000.10 AVAIL_SPARE -/
def Ob.AVAIL_SPARE : Obj := ⟨0x3000, 1, 0x10, 1, .u8, 1, .ro, .stored, 100, 0, 100, false, false⟩
/-- 0x3000.11 RETIRED_BLOCKS -/
def Ob.RETIRED_BLOCKS : Obj := ⟨0x3000, 1, 0x11, 1, .u32, 4, .ro, .stored, 0, 0, 4294967295, false, false⟩
/-- 0x3400.01 ENVELOPE_TOKENS -/
def Ob.ENVELOPE_TOKENS : Obj := ⟨0x3400, 1, 0x01, 1, .u16, 2, .rw, .stored, 14000, 9608, 40000, false, false⟩
/-- 0x3400.02 RSV_CTRL -/
def Ob.RSV_CTRL : Obj := ⟨0x3400, 1, 0x02, 1, .u16, 2, .rw, .stored, 7600, 7600, 10000, false, false⟩
/-- 0x3400.03 RSV_DRAM -/
def Ob.RSV_DRAM : Obj := ⟨0x3400, 1, 0x03, 1, .u16, 2, .rw, .stored, 1200, 0, 4000, false, false⟩
/-- 0x3400.04 RSV_MISC -/
def Ob.RSV_MISC : Obj := ⟨0x3400, 1, 0x04, 1, .u16, 2, .rw, .stored, 400, 0, 4000, false, false⟩
/-- 0x3400.05 RSV_MARGIN -/
def Ob.RSV_MARGIN : Obj := ⟨0x3400, 1, 0x05, 1, .u16, 2, .rw, .stored, 140, 0, 4000, false, false⟩
/-- 0x3400.06 NAND_IDLE -/
def Ob.NAND_IDLE : Obj := ⟨0x3400, 1, 0x06, 1, .u16, 2, .rw, .stored, 200, 0, 4000, false, false⟩
/-- 0x3400.07 URGENT_RSV -/
def Ob.URGENT_RSV : Obj := ⟨0x3400, 1, 0x07, 1, .u16, 2, .rw, .stored, 60, 0, 1000, false, false⟩
/-- 0x3400.08 COST_READ_1P -/
def Ob.COST_READ_1P : Obj := ⟨0x3400, 1, 0x08, 1, .u8, 1, .rw, .stored, 1, 1, 100, false, false⟩
/-- 0x3400.09 COST_READ_MP -/
def Ob.COST_READ_MP : Obj := ⟨0x3400, 1, 0x09, 1, .u8, 1, .rw, .stored, 3, 1, 100, false, false⟩
/-- 0x3400.0A COST_SLC_PROG -/
def Ob.COST_SLC_PROG : Obj := ⟨0x3400, 1, 0x0A, 1, .u8, 1, .rw, .stored, 4, 1, 100, false, false⟩
/-- 0x3400.0B COST_TLC_PROG -/
def Ob.COST_TLC_PROG : Obj := ⟨0x3400, 1, 0x0B, 1, .u8, 1, .rw, .stored, 6, 1, 100, false, false⟩
/-- 0x3400.0C COST_QLC_PROG -/
def Ob.COST_QLC_PROG : Obj := ⟨0x3400, 1, 0x0C, 1, .u8, 1, .rw, .stored, 7, 1, 100, false, false⟩
/-- 0x3400.0D COST_ERASE -/
def Ob.COST_ERASE : Obj := ⟨0x3400, 1, 0x0D, 1, .u8, 1, .rw, .stored, 8, 1, 100, false, false⟩
/-- 0x3400.0E RSV_CTRL_PS1 -/
def Ob.RSV_CTRL_PS1 : Obj := ⟨0x3400, 1, 0x0E, 1, .u16, 2, .rw, .stored, 5200, 2000, 10000, false, false⟩
/-- 0x3400.0F RSV_CTRL_PS2 -/
def Ob.RSV_CTRL_PS2 : Obj := ⟨0x3400, 1, 0x0F, 1, .u16, 2, .rw, .stored, 3600, 2000, 10000, false, false⟩
/-- 0x3400.10 STAGGER_NS -/
def Ob.STAGGER_NS : Obj := ⟨0x3400, 1, 0x10, 1, .u16, 2, .rw, .stored, 200, 200, 2000, false, false⟩
/-- 0x3400.11 STEP1_C -/
def Ob.STEP1_C : Obj := ⟨0x3400, 1, 0x11, 1, .i8, 1, .rw, .stored, 110, 70, 110, false, false⟩
/-- 0x3400.12 STEP2_C -/
def Ob.STEP2_C : Obj := ⟨0x3400, 1, 0x12, 1, .i8, 1, .rw, .stored, 118, 74, 118, false, false⟩
/-- 0x3400.13 STEP_HYST_C -/
def Ob.STEP_HYST_C : Obj := ⟨0x3400, 1, 0x13, 1, .u8, 1, .rw, .stored, 5, 2, 15, false, false⟩
/-- 0x3400.14 STEP1_PCT -/
def Ob.STEP1_PCT : Obj := ⟨0x3400, 1, 0x14, 1, .u8, 1, .rw, .stored, 70, 40, 95, false, false⟩
/-- 0x3400.15 STEP2_PCT -/
def Ob.STEP2_PCT : Obj := ⟨0x3400, 1, 0x15, 1, .u8, 1, .rw, .stored, 35, 10, 95, false, false⟩
/-- 0x3400.18 SUSP_MAX -/
def Ob.SUSP_MAX : Obj := ⟨0x3400, 1, 0x18, 1, .u8, 1, .rw, .stored, 8, 0, 15, false, false⟩
/-- 0x3400.19 SUSP_MAX_ERASE -/
def Ob.SUSP_MAX_ERASE : Obj := ⟨0x3400, 1, 0x19, 1, .u8, 1, .rw, .stored, 15, 0, 15, false, false⟩
/-- 0x3400.1A SUSPEND_CLASSES -/
def Ob.SUSPEND_CLASSES : Obj := ⟨0x3400, 1, 0x1A, 1, .u8, 1, .rw, .retained, 3, 0, 127, false, false⟩
/-- 0x3400.1B RESUME_MIN_US -/
def Ob.RESUME_MIN_US : Obj := ⟨0x3400, 1, 0x1B, 1, .u16, 2, .rw, .retained, 100, 0, 5000, false, false⟩
/-- 0x3400.20 DSC_AGE_NORMAL_US -/
def Ob.DSC_AGE_NORMAL_US : Obj := ⟨0x3400, 1, 0x20, 1, .u32, 4, .rw, .retained, 2000, 100, 10000000, false, false⟩
/-- 0x3400.21 DSC_AGE_BKG_US -/
def Ob.DSC_AGE_BKG_US : Obj := ⟨0x3400, 1, 0x21, 1, .u32, 4, .rw, .retained, 20000, 100, 10000000, false, false⟩
/-- 0x3400.22 AGE_REBUILD_US -/
def Ob.AGE_REBUILD_US : Obj := ⟨0x3400, 1, 0x22, 1, .u32, 4, .rw, .retained, 5000, 100, 10000000, false, false⟩
/-- 0x3400.23 AGE_GC_US -/
def Ob.AGE_GC_US : Obj := ⟨0x3400, 1, 0x23, 1, .u32, 4, .rw, .retained, 5000, 100, 10000000, false, false⟩
/-- 0x3400.24 AGE_SCRUB_US -/
def Ob.AGE_SCRUB_US : Obj := ⟨0x3400, 1, 0x24, 1, .u32, 4, .rw, .retained, 100000, 100, 10000000, false, false⟩
/-- 0x3400.28 CHUNK_KIB -/
def Ob.CHUNK_KIB : Obj := ⟨0x3400, 1, 0x28, 1, .u8, 1, .rw, .stored, 64, 16, 64, false, false⟩
/-- 0x3400.2A CH_CAP_PS1_GBPS -/
def Ob.CH_CAP_PS1_GBPS : Obj := ⟨0x3400, 1, 0x2A, 1, .u16, 2, .rw, .stored, 156, 32, 256, false, false⟩
/-- 0x3400.2B CH_CAP_PS2_GBPS -/
def Ob.CH_CAP_PS2_GBPS : Obj := ⟨0x3400, 1, 0x2B, 1, .u16, 2, .rw, .stored, 90, 32, 256, false, false⟩
/-- 0x3400.30 NAND_BUDGET -/
def Ob.NAND_BUDGET : Obj := ⟨0x3400, 1, 0x30, 1, .u16, 2, .ro, .volatile, 0, 0, 65535, false, false⟩
/-- 0x3400.31 THERMAL_STEP -/
def Ob.THERMAL_STEP : Obj := ⟨0x3400, 1, 0x31, 1, .u8, 1, .ro, .volatile, 0, 0, 2, false, false⟩
/-- 0x3800.01 MAX_MTS -/
def Ob.MAX_MTS : Obj := ⟨0x3800, 1, 0x01, 1, .u16, 2, .rw, .stored, 8000, 0, 65535, false, false⟩
/-- 0x3800.02 MODE -/
def Ob.MODE : Obj := ⟨0x3800, 1, 0x02, 1, .u8, 1, .rw, .stored, 0, 0, 2, false, false⟩
/-- 0x3800.03 TOPO_MD -/
def Ob.TOPO_MD : Obj := ⟨0x3800, 1, 0x03, 1, .u32, 4, .rw, .stored, 0, 0, 4294967295, false, false⟩
/-- 0x3800.04 VOL_SELECT -/
def Ob.VOL_SELECT : Obj := ⟨0x3800, 1, 0x04, 1, .bool, 1, .rw, .stored, 1, 0, 1, false, false⟩
/-- 0x3800.05 VIN_GUARD_MV -/
def Ob.VIN_GUARD_MV : Obj := ⟨0x3800, 1, 0x05, 1, .u16, 2, .rw, .stored, 1000, 600, 1200, false, false⟩
/-- 0x3800.06 VDDQ_GUARD_MV -/
def Ob.VDDQ_GUARD_MV : Obj := ⟨0x3800, 1, 0x06, 1, .u16, 2, .rw, .stored, 1150, 1140, 1200, false, false⟩
/-- 0x3800.07 VDDQ_DUMP_MV -/
def Ob.VDDQ_DUMP_MV : Obj := ⟨0x3800, 1, 0x07, 1, .u16, 2, .rw, .stored, 1080, 1050, 1200, false, false⟩
/-- 0x3800.08 TEMP_LOW_C -/
def Ob.TEMP_LOW_C : Obj := ⟨0x3800, 1, 0x08, 1, .i8, 1, .rw, .stored, 231, (-40), 0, false, false⟩
/-- 0x3800.09 GUARD_CLEAR_US -/
def Ob.GUARD_CLEAR_US : Obj := ⟨0x3800, 1, 0x09, 1, .u16, 2, .rw, .retained, 100, 10, 10000, false, false⟩
/-- 0x3800.0A GUARD_WAIT_MS -/
def Ob.GUARD_WAIT_MS : Obj := ⟨0x3800, 1, 0x0A, 1, .u16, 2, .rw, .retained, 10, 1, 1000, false, false⟩
/-- 0x3800.0B TEMP_POLL_MS -/
def Ob.TEMP_POLL_MS : Obj := ⟨0x3800, 1, 0x0B, 1, .u16, 2, .rw, .retained, 100, 10, 1000, false, false⟩
/-- 0x3800.0C VERIFY_MASK -/
def Ob.VERIFY_MASK : Obj := ⟨0x3800, 1, 0x0C, 1, .u8, 1, .rw, .stored, 1, 0, 15, false, false⟩
/-- 0x3800.0D VERIFY_DELAY_US -/
def Ob.VERIFY_DELAY_US : Obj := ⟨0x3800, 1, 0x0D, 1, .u16, 2, .rw, .retained, 0, 0, 10000, false, false⟩
/-- 0x3800.0E RETRAIN_S -/
def Ob.RETRAIN_S : Obj := ⟨0x3800, 1, 0x0E, 1, .u32, 4, .rw, .retained, 600, 10, 86400, false, false⟩
/-- 0x3800.0F RETRAIN_DELTA_C -/
def Ob.RETRAIN_DELTA_C : Obj := ⟨0x3800, 1, 0x0F, 1, .u8, 1, .rw, .retained, 20, 5, 60, false, false⟩
/-- 0x3800.10 VERIFY_MAX_BITS -/
def Ob.VERIFY_MAX_BITS : Obj := ⟨0x3800, 1, 0x10, 1, .u16, 2, .rw, .stored, 40, 1, 400, false, false⟩
/-- 0x3800.11 T_R_US -/
def Ob.T_R_US : Obj := ⟨0x3800, 1, 0x11, 1, .u16, 2, .rw, .stored, 50, 10, 1000, false, false⟩
/-- 0x3800.12 T_PROG_SLC_US -/
def Ob.T_PROG_SLC_US : Obj := ⟨0x3800, 1, 0x12, 1, .u16, 2, .rw, .stored, 40, 10, 1000, false, false⟩
/-- 0x3800.13 T_PROG_TLC_US -/
def Ob.T_PROG_TLC_US : Obj := ⟨0x3800, 1, 0x13, 1, .u16, 2, .rw, .stored, 1460, 100, 20000, false, false⟩
/-- 0x3800.14 T_PROG_QLC_US -/
def Ob.T_PROG_QLC_US : Obj := ⟨0x3800, 1, 0x14, 1, .u16, 2, .rw, .stored, 3600, 100, 20000, false, false⟩
/-- 0x3800.15 T_BERS_US -/
def Ob.T_BERS_US : Obj := ⟨0x3800, 1, 0x15, 1, .u16, 2, .rw, .stored, 5000, 500, 30000, false, false⟩
/-- 0x3800.16 T_PSUS_US -/
def Ob.T_PSUS_US : Obj := ⟨0x3800, 1, 0x16, 1, .u16, 2, .rw, .stored, 25, 1, 500, false, false⟩
/-- 0x3800.17 T_ESUS_US -/
def Ob.T_ESUS_US : Obj := ⟨0x3800, 1, 0x17, 1, .u16, 2, .rw, .stored, 25, 1, 500, false, false⟩
/-- 0x3800.18 BUSY_TIMEOUT_X -/
def Ob.BUSY_TIMEOUT_X : Obj := ⟨0x3800, 1, 0x18, 1, .u8, 1, .rw, .stored, 4, 2, 16, false, false⟩
/-- 0x3800.19 POLL_FIRST_PCT -/
def Ob.POLL_FIRST_PCT : Obj := ⟨0x3800, 1, 0x19, 1, .u8, 1, .rw, .retained, 90, 50, 100, false, false⟩
/-- 0x3800.1A POLL_READ_NS -/
def Ob.POLL_READ_NS : Obj := ⟨0x3800, 1, 0x1A, 1, .u16, 2, .rw, .retained, 500, 100, 10000, false, false⟩
/-- 0x3800.1B POLL_PE_NS -/
def Ob.POLL_PE_NS : Obj := ⟨0x3800, 1, 0x1B, 1, .u16, 2, .rw, .retained, 4000, 500, 50000, false, false⟩
/-- 0x3800.1C TEMP_HIGH_C -/
def Ob.TEMP_HIGH_C : Obj := ⟨0x3800, 1, 0x1C, 1, .i8, 1, .rw, .stored, 105, 70, 115, false, false⟩
/-- 0x3801.01 OPCODES_01 -/
def Ob.OPCODES_01 : Obj := ⟨0x3801, 1, 0x01, 1, .octets, 4, .rw, .stored, 12288, 0, 0, false, false⟩
/-- 0x3801.02 OPCODES_02 -/
def Ob.OPCODES_02 : Obj := ⟨0x3801, 1, 0x02, 1, .octets, 4, .rw, .stored, 0x303200, 0, 0, false, false⟩
/-- 0x3801.03 OPCODES_03 -/
def Ob.OPCODES_03 : Obj := ⟨0x3801, 1, 0x03, 1, .octets, 4, .rw, .stored, 16177, 0, 0, false, false⟩
/-- 0x3801.04 OPCODES_04 -/
def Ob.OPCODES_04 : Obj := ⟨0x3801, 1, 0x04, 1, .octets, 4, .rw, .stored, 57349, 0, 0, false, false⟩
/-- 0x3801.05 OPCODES_05 -/
def Ob.OPCODES_05 : Obj := ⟨0x3801, 1, 0x05, 1, .octets, 4, .rw, .stored, 4224, 0, 0, false, false⟩
/-- 0x3801.06 OPCODES_06 -/
def Ob.OPCODES_06 : Obj := ⟨0x3801, 1, 0x06, 1, .octets, 4, .rw, .stored, 0x101180, 0, 0, false, false⟩
/-- 0x3801.07 OPCODES_07 -/
def Ob.OPCODES_07 : Obj := ⟨0x3801, 1, 0x07, 1, .octets, 4, .rw, .stored, 0xd1d060, 0, 0, false, false⟩
/-- 0x3801.08 OPCODES_08 -/
def Ob.OPCODES_08 : Obj := ⟨0x3801, 1, 0x08, 1, .octets, 4, .rw, .stored, 0, 0, 0, false, false⟩
/-- 0x3801.09 OPCODES_09 -/
def Ob.OPCODES_09 : Obj := ⟨0x3801, 1, 0x09, 1, .octets, 4, .rw, .stored, 0, 0, 0, false, false⟩
/-- 0x3801.0A OPCODES_0A -/
def Ob.OPCODES_0A : Obj := ⟨0x3801, 1, 0x0A, 1, .octets, 4, .rw, .stored, 0, 0, 0, false, false⟩
/-- 0x3801.0B OPCODES_0B -/
def Ob.OPCODES_0B : Obj := ⟨0x3801, 1, 0x0B, 1, .octets, 4, .rw, .stored, 0, 0, 0, false, false⟩
/-- 0x3801.0C OPCODES_0C -/
def Ob.OPCODES_0C : Obj := ⟨0x3801, 1, 0x0C, 1, .octets, 4, .rw, .stored, 120, 0, 0, false, false⟩
/-- 0x3801.0D OPCODES_0D -/
def Ob.OPCODES_0D : Obj := ⟨0x3801, 1, 0x0D, 1, .octets, 4, .rw, .stored, 239, 0, 0, false, false⟩
/-- 0x3801.0E OPCODES_0E -/
def Ob.OPCODES_0E : Obj := ⟨0x3801, 1, 0x0E, 1, .octets, 4, .rw, .stored, 238, 0, 0, false, false⟩
/-- 0x3801.0F OPCODES_0F -/
def Ob.OPCODES_0F : Obj := ⟨0x3801, 1, 0x0F, 1, .octets, 4, .rw, .stored, 213, 0, 0, false, false⟩
/-- 0x3801.10 OPCODES_10 -/
def Ob.OPCODES_10 : Obj := ⟨0x3801, 1, 0x10, 1, .octets, 4, .rw, .stored, 250, 0, 0, false, false⟩
/-- 0x3801.11 OPCODES_11 -/
def Ob.OPCODES_11 : Obj := ⟨0x3801, 1, 0x11, 1, .octets, 4, .rw, .stored, 236, 0, 0, false, false⟩
/-- 0x3801.12 OPCODES_12 -/
def Ob.OPCODES_12 : Obj := ⟨0x3801, 1, 0x12, 1, .octets, 4, .rw, .stored, 249, 0, 0, false, false⟩
/-- 0x3801.13 OPCODES_13 -/
def Ob.OPCODES_13 : Obj := ⟨0x3801, 1, 0x13, 1, .octets, 4, .rw, .stored, 217, 0, 0, false, false⟩
/-- 0x3801.14 OPCODES_14 -/
def Ob.OPCODES_14 : Obj := ⟨0x3801, 1, 0x14, 1, .octets, 4, .rw, .stored, 225, 0, 0, false, false⟩
/-- 0x3C00.01 RATED_PE_TLC -/
def Ob.RATED_PE_TLC : Obj := ⟨0x3C00, 1, 0x01, 1, .u32, 4, .rw, .stored, 3000, 100, 100000, false, false⟩
/-- 0x3C00.02 RATED_PE_QLC -/
def Ob.RATED_PE_QLC : Obj := ⟨0x3C00, 1, 0x02, 1, .u32, 4, .rw, .stored, 1000, 100, 100000, false, false⟩
/-- 0x3C00.03 RATED_PE_SLC -/
def Ob.RATED_PE_SLC : Obj := ⟨0x3C00, 1, 0x03, 1, .u32, 4, .rw, .stored, 50000, 1000, 1000000, false, false⟩
/-- 0x3C00.04 TREAD_PCT -/
def Ob.TREAD_PCT : Obj := ⟨0x3C00, 1, 0x04, 1, .octets, 7, .rw, .stored, 0x64564a3e322314, 0, 0, false, false⟩
/-- 0x3C00.05 SYS_MIN_TREAD -/
def Ob.SYS_MIN_TREAD : Obj := ⟨0x3C00, 1, 0x05, 1, .u8, 1, .rw, .stored, 4, 0, 7, false, false⟩
/-- 0x3C00.06 HARD_MAX_ITER -/
def Ob.HARD_MAX_ITER : Obj := ⟨0x3C00, 1, 0x06, 1, .u8, 1, .rw, .stored, 20, 4, 20, false, false⟩
/-- 0x3C00.07 L1_RETRIES -/
def Ob.L1_RETRIES : Obj := ⟨0x3C00, 1, 0x07, 1, .u8, 1, .rw, .stored, 3, 0, 3, false, false⟩
/-- 0x3C00.08 SOFT_DELTA -/
def Ob.SOFT_DELTA : Obj := ⟨0x3C00, 1, 0x08, 1, .u8, 1, .rw, .stored, 4, 2, 32, false, false⟩
/-- 0x3C00.09 JD_PASSES -/
def Ob.JD_PASSES : Obj := ⟨0x3C00, 1, 0x09, 1, .u8, 1, .rw, .stored, 4, 1, 8, false, false⟩
/-- 0x3C00.0A RELOC_LEVEL -/
def Ob.RELOC_LEVEL : Obj := ⟨0x3C00, 1, 0x0A, 1, .u8, 1, .rw, .stored, 3, 2, 5, false, false⟩
/-- 0x3C00.0B REFRESH_COUNT -/
def Ob.REFRESH_COUNT : Obj := ⟨0x3C00, 1, 0x0B, 1, .u8, 1, .rw, .stored, 4, 1, 64, false, false⟩
/-- 0x3C00.0C OFF_TEMP_C -/
def Ob.OFF_TEMP_C : Obj := ⟨0x3C00, 1, 0x0C, 1, .i8, 1, .rw, .stored, 40, (-40), 85, false, false⟩
/-- 0x3C00.0D OFF_GUESS_H -/
def Ob.OFF_GUESS_H : Obj := ⟨0x3C00, 1, 0x0D, 1, .u32, 4, .rw, .stored, 0, 0, 87600, false, false⟩
/-- 0x3C01.01 SCRUB_PERIOD_H -/
def Ob.SCRUB_PERIOD_H : Obj := ⟨0x3C01, 1, 0x01, 1, .u16, 2, .rw, .retained, 168, 24, 8760, false, false⟩
/-- 0x3C01.02 SCRUB_STRIDE -/
def Ob.SCRUB_STRIDE : Obj := ⟨0x3C01, 1, 0x02, 1, .u8, 1, .rw, .retained, 16, 1, 64, false, false⟩
/-- 0x3C01.03 SCRUB_LEVEL -/
def Ob.SCRUB_LEVEL : Obj := ⟨0x3C01, 1, 0x03, 1, .u8, 1, .rw, .retained, 2, 1, 5, false, false⟩
/-- 0x3C01.04 SCRUB_BITS -/
def Ob.SCRUB_BITS : Obj := ⟨0x3C01, 1, 0x04, 1, .u16, 2, .rw, .retained, 120, 1, 400, false, false⟩
/-- 0x3C01.05 SCRUB_AGE_BUCKET -/
def Ob.SCRUB_AGE_BUCKET : Obj := ⟨0x3C01, 1, 0x05, 1, .u8, 1, .rw, .retained, 14, 1, 15, false, false⟩
/-- 0x3C01.06 SCRUB_FORCE_BUCKET -/
def Ob.SCRUB_FORCE_BUCKET : Obj := ⟨0x3C01, 1, 0x06, 1, .u8, 1, .rw, .retained, 15, 1, 15, false, false⟩
/-- 0x3C01.07 READ_DISTURB_LIMIT -/
def Ob.READ_DISTURB_LIMIT : Obj := ⟨0x3C01, 1, 0x07, 1, .u32, 4, .rw, .stored, 100000, 1000, 10000000, false, false⟩
/-- 0x3C01.08 SCRUB_RATE_MBPS -/
def Ob.SCRUB_RATE_MBPS : Obj := ⟨0x3C01, 1, 0x08, 1, .u32, 4, .rw, .retained, 2000, 10, 20000, false, false⟩
/-- 0x3C04.01 SCRUB_WIN.EN -/
def Ob.SCRUB_WIN.EN : Obj := ⟨0x3C04, 4, 0x01, 1, .bool, 1, .rw, .stored, 0, 0, 1, false, false⟩
/-- 0x3C04.02 SCRUB_WIN.START -/
def Ob.SCRUB_WIN.START : Obj := ⟨0x3C04, 4, 0x02, 1, .time64, 8, .rw, .stored, 0, 0, 18446744073709551615, false, false⟩
/-- 0x3C04.03 SCRUB_WIN.LENGTH_S -/
def Ob.SCRUB_WIN.LENGTH_S : Obj := ⟨0x3C04, 4, 0x03, 1, .u32, 4, .rw, .stored, 60, 60, 86400, false, false⟩
/-- 0x3C04.04 SCRUB_WIN.PERIOD_S -/
def Ob.SCRUB_WIN.PERIOD_S : Obj := ⟨0x3C04, 4, 0x04, 1, .u32, 4, .rw, .stored, 60, 60, 2592000, false, false⟩
/-- 0x3C08.01 PCT_USED -/
def Ob.PCT_USED : Obj := ⟨0x3C08, 1, 0x01, 1, .u8, 1, .ro, .stored, 0, 0, 255, false, false⟩
/-- 0x3C08.02 L12_SHARE_PPM -/
def Ob.L12_SHARE_PPM : Obj := ⟨0x3C08, 1, 0x02, 1, .u32, 4, .ro, .volatile, 0, 0, 4294967295, false, false⟩
/-- 0x3C08.03 TREAD_HIST -/
def Ob.TREAD_HIST : Obj := ⟨0x3C08, 1, 0x03, 1, .octets, 32, .ro, .volatile, 0, 0, 0, false, false⟩
/-- 0x3C08.04 THETA_MS -/
def Ob.THETA_MS : Obj := ⟨0x3C08, 1, 0x04, 1, .u64, 8, .ro, .stored, 0, 0, 18446744073709551615, false, false⟩
/-- 0x3C08.05 EW_FIRED -/
def Ob.EW_FIRED : Obj := ⟨0x3C08, 1, 0x05, 1, .u8, 1, .ro, .stored, 0, 0, 7, false, false⟩
/-- 0x3C10.00 AF_TABLE -/
def Ob.AF_TABLE : Obj := ⟨0x3C10, 1, 0x00, 34, .f32, 4, .rw, .stored, 0, 0, 1232348160, false, false⟩
/-- 0x3D00.00 VT_TABLE -/
def Ob.VT_TABLE : Obj := ⟨0x3D00, 24, 0x00, 16, .octets, 16, .rw, .stored, 0, 0, 0, false, false⟩
/-- 0x3D20.00 JD_MODEL -/
def Ob.JD_MODEL : Obj := ⟨0x3D20, 24, 0x00, 16, .octets, 16, .rw, .stored, 0, 0, 0, false, false⟩
/-- 0x4000.01 LZ_WIDTH -/
def Ob.LZ_WIDTH : Obj := ⟨0x4000, 1, 0x01, 1, .u8, 1, .rw, .stored, 32, 8, 64, false, false⟩
/-- 0x4000.02 ACC_BUFS -/
def Ob.ACC_BUFS : Obj := ⟨0x4000, 1, 0x02, 1, .u8, 1, .rw, .stored, 160, 16, 176, false, false⟩
/-- 0x4000.03 GATHER_MAX_US -/
def Ob.GATHER_MAX_US : Obj := ⟨0x4000, 1, 0x03, 1, .u32, 4, .rw, .retained, 2000, 100, 100000, false, false⟩
/-- 0x4000.04 OBP_DEPTH -/
def Ob.OBP_DEPTH : Obj := ⟨0x4000, 1, 0x04, 1, .u8, 1, .rw, .stored, 2, 1, 4, false, false⟩
/-- 0x4000.05 SJ_FLUSH_US -/
def Ob.SJ_FLUSH_US : Obj := ⟨0x4000, 1, 0x05, 1, .u16, 2, .rw, .retained, 1000, 100, 10000, false, false⟩
/-- 0x4000.06 REBUILD_AUTO -/
def Ob.REBUILD_AUTO : Obj := ⟨0x4000, 1, 0x06, 1, .bool, 1, .rw, .stored, 1, 0, 1, false, false⟩
/-- 0x4000.07 REBUILD_MBPS -/
def Ob.REBUILD_MBPS : Obj := ⟨0x4000, 1, 0x07, 1, .u32, 4, .rw, .retained, 1000, 100, 20000, false, false⟩
/-- 0x4000.08 RAISED_MBPS -/
def Ob.RAISED_MBPS : Obj := ⟨0x4000, 1, 0x08, 1, .u32, 4, .rw, .retained, 3000, 100, 40000, false, false⟩
/-- 0x4000.09 PHASE2_MODE -/
def Ob.PHASE2_MODE : Obj := ⟨0x4000, 1, 0x09, 1, .u8, 1, .rw, .stored, 0, 0, 1, false, false⟩
/-- 0x4000.0A SURVIVOR_MAX_LEVEL -/
def Ob.SURVIVOR_MAX_LEVEL : Obj := ⟨0x4000, 1, 0x0A, 1, .u8, 1, .rw, .stored, 4, 0, 4, false, false⟩
/-- 0x4000.10 LEL_COUNT -/
def Ob.LEL_COUNT : Obj := ⟨0x4000, 1, 0x10, 1, .u32, 4, .ro, .stored, 0, 0, 1048576, false, false⟩
/-- 0x4000.11 LEL_SEL -/
def Ob.LEL_SEL : Obj := ⟨0x4000, 1, 0x11, 1, .u32, 4, .rw, .volatile, 0, 0, 4294967295, false, false⟩
/-- 0x4000.12 LEL_ENTRY -/
def Ob.LEL_ENTRY : Obj := ⟨0x4000, 1, 0x12, 1, .octets, 16, .ro, .volatile, 0, 0, 0, false, false⟩
/-- 0x4000.13 DEGRADED_BANDS -/
def Ob.DEGRADED_BANDS : Obj := ⟨0x4000, 1, 0x13, 1, .u32, 4, .ro, .volatile, 0, 0, 4294967295, false, false⟩
/-- 0x4100.00 PAR_CLASS -/
def Ob.PAR_CLASS : Obj := ⟨0x4100, 4, 0x00, 256, .u8, 1, .rw, .stored, 1, 0, 2, false, false⟩
/-- 0x4110.00 PAR_WIDTH -/
def Ob.PAR_WIDTH : Obj := ⟨0x4110, 4, 0x00, 256, .u8, 1, .rw, .stored, 32, 8, 64, false, false⟩
/-- 0x5400.01 PRESENT -/
def Ob.PRESENT : Obj := ⟨0x5400, 1, 0x01, 1, .bool, 1, .rw, .stored, 1, 0, 1, false, false⟩
/-- 0x5400.02 ENERGY_MIN_MJ -/
def Ob.ENERGY_MIN_MJ : Obj := ⟨0x5400, 1, 0x02, 1, .u16, 2, .rw, .stored, 1000, 1000, 60000, false, false⟩
/-- 0x5400.03 SENSE_DIV -/
def Ob.SENSE_DIV : Obj := ⟨0x5400, 1, 0x03, 1, .u16, 2, .rw, .stored, 3300, 100, 10000, false, false⟩
/-- 0x5400.04 VMIN_MV -/
def Ob.VMIN_MV : Obj := ⟨0x5400, 1, 0x04, 1, .u16, 2, .rw, .stored, 12000, 1000, 60000, false, false⟩
/-- 0x5400.05 FULL_MV -/
def Ob.FULL_MV : Obj := ⟨0x5400, 1, 0x05, 1, .u16, 2, .rw, .stored, 33000, 1000, 65000, false, false⟩
/-- 0x5400.06 EFF_PCT -/
def Ob.EFF_PCT : Obj := ⟨0x5400, 1, 0x06, 1, .u8, 1, .rw, .stored, 90, 50, 100, false, false⟩
/-- 0x5400.07 BLEED_OHM -/
def Ob.BLEED_OHM : Obj := ⟨0x5400, 1, 0x07, 1, .u32, 4, .rw, .stored, 1000, 100, 1000000, false, false⟩
/-- 0x5400.08 TEST_DROP_PCT -/
def Ob.TEST_DROP_PCT : Obj := ⟨0x5400, 1, 0x08, 1, .u8, 1, .rw, .retained, 2, 1, 10, false, false⟩
/-- 0x5400.09 TEST_MAX_MS -/
def Ob.TEST_MAX_MS : Obj := ⟨0x5400, 1, 0x09, 1, .u16, 2, .rw, .retained, 1000, 10, 10000, false, false⟩
/-- 0x5400.0A TEST_PERIOD_H -/
def Ob.TEST_PERIOD_H : Obj := ⟨0x5400, 1, 0x0A, 1, .u8, 1, .rw, .stored, 24, 1, 24, false, false⟩
/-- 0x5400.0B CHARGED_PCT -/
def Ob.CHARGED_PCT : Obj := ⟨0x5400, 1, 0x0B, 1, .u8, 1, .rw, .stored, 95, 80, 100, false, false⟩
/-- 0x5400.0C DUMP_NAND_TOKENS -/
def Ob.DUMP_NAND_TOKENS : Obj := ⟨0x5400, 1, 0x0C, 1, .u16, 2, .rw, .stored, 4800, 1000, 4800, false, false⟩
/-- 0x5400.0D DUMP_WAIT_US -/
def Ob.DUMP_WAIT_US : Obj := ⟨0x5400, 1, 0x0D, 1, .u16, 2, .rw, .stored, 2000, 100, 2000, false, false⟩
/-- 0x5400.0E DUMP_DIES -/
def Ob.DUMP_DIES : Obj := ⟨0x5400, 1, 0x0E, 1, .u8, 1, .rw, .stored, 64, 32, 128, false, false⟩
/-- 0x5400.10 LAST_TEST -/
def Ob.LAST_TEST : Obj := ⟨0x5400, 1, 0x10, 1, .time64, 8, .ro, .stored, 0, 0, 18446744073709551615, false, false⟩
/-- 0x5400.11 LAST_CAP_UF -/
def Ob.LAST_CAP_UF : Obj := ⟨0x5400, 1, 0x11, 1, .u32, 4, .ro, .stored, 0, 0, 4294967295, false, false⟩
/-- 0x5400.12 DUMP_COUNT -/
def Ob.DUMP_COUNT : Obj := ⟨0x5400, 1, 0x12, 1, .u32, 4, .ro, .stored, 0, 0, 4294967295, false, false⟩
/-- 0x5400.13 HUM_STATE -/
def Ob.HUM_STATE : Obj := ⟨0x5400, 1, 0x13, 1, .u8, 1, .ro, .volatile, 0, 0, 255, true, false⟩
/-- 0x4400.01 POOL_COUNT_0 -/
def Ob.POOL_COUNT_0 : Obj := ⟨0x4400, 1, 0x01, 1, .u16, 2, .rw, .stored, 16384, 0, 65535, false, false⟩
/-- 0x4400.02 POOL_COUNT_1 -/
def Ob.POOL_COUNT_1 : Obj := ⟨0x4400, 1, 0x02, 1, .u16, 2, .rw, .stored, 8192, 0, 65535, false, false⟩
/-- 0x4400.03 POOL_COUNT_2 -/
def Ob.POOL_COUNT_2 : Obj := ⟨0x4400, 1, 0x03, 1, .u16, 2, .rw, .stored, 4096, 0, 65535, false, false⟩
/-- 0x4400.04 POOL_COUNT_3 -/
def Ob.POOL_COUNT_3 : Obj := ⟨0x4400, 1, 0x04, 1, .u16, 2, .rw, .stored, 1536, 0, 65535, false, false⟩
/-- 0x4400.05 POOL_COUNT_4 -/
def Ob.POOL_COUNT_4 : Obj := ⟨0x4400, 1, 0x05, 1, .u16, 2, .rw, .stored, 192, 0, 65535, false, false⟩
/-- 0x4400.06 SPILL_MAX -/
def Ob.SPILL_MAX : Obj := ⟨0x4400, 1, 0x06, 1, .u8, 1, .rw, .retained, 2, 0, 4, false, false⟩
/-- 0x4400.07 RING_DEPTH -/
def Ob.RING_DEPTH : Obj := ⟨0x4400, 1, 0x07, 1, .u16, 2, .rw, .stored, 64, 16, 256, false, false⟩
/-- 0x4400.08 URGENT_RSV_SETS -/
def Ob.URGENT_RSV_SETS : Obj := ⟨0x4400, 1, 0x08, 1, .u16, 2, .rw, .stored, 256, 32, 1024, false, false⟩
/-- 0x4400.09 SCRUB_PERIOD_MS -/
def Ob.SCRUB_PERIOD_MS : Obj := ⟨0x4400, 1, 0x09, 1, .u16, 2, .rw, .retained, 1000, 100, 60000, false, false⟩
/-- 0x4400.0A CORR_RETIRE -/
def Ob.CORR_RETIRE : Obj := ⟨0x4400, 1, 0x0A, 1, .u8, 1, .rw, .stored, 8, 1, 255, false, false⟩
/-- 0x4400.10 RETIRED_BUFS -/
def Ob.RETIRED_BUFS : Obj := ⟨0x4400, 1, 0x10, 1, .u32, 4, .ro, .volatile, 0, 0, 4294967295, false, false⟩
/-- 0x4800.01 RATE_MTS -/
def Ob.RATE_MTS : Obj := ⟨0x4800, 1, 0x01, 1, .u16, 2, .rw, .stored, 6400, 4800, 6400, false, false⟩
/-- 0x4800.02 ADDR_ORDER -/
def Ob.ADDR_ORDER : Obj := ⟨0x4800, 1, 0x02, 1, .u8, 1, .rw, .stored, 0, 0, 1, false, false⟩
/-- 0x4800.03 W_RT -/
def Ob.W_RT : Obj := ⟨0x4800, 1, 0x03, 1, .u8, 1, .rw, .retained, 4, 1, 16, false, false⟩
/-- 0x4800.04 W_MAPN -/
def Ob.W_MAPN : Obj := ⟨0x4800, 1, 0x04, 1, .u8, 1, .rw, .retained, 4, 1, 16, false, false⟩
/-- 0x4800.05 W_BULK -/
def Ob.W_BULK : Obj := ⟨0x4800, 1, 0x05, 1, .u8, 1, .rw, .retained, 1, 1, 16, false, false⟩
/-- 0x4800.06 AGE_MAPN_NS -/
def Ob.AGE_MAPN_NS : Obj := ⟨0x4800, 1, 0x06, 1, .u16, 2, .rw, .retained, 2000, 200, 50000, false, false⟩
/-- 0x4800.07 AGE_BULK_US -/
def Ob.AGE_BULK_US : Obj := ⟨0x4800, 1, 0x07, 1, .u16, 2, .rw, .retained, 50, 5, 10000, false, false⟩
/-- 0x4800.08 PAGE_IDLE_NS -/
def Ob.PAGE_IDLE_NS : Obj := ⟨0x4800, 1, 0x08, 1, .u16, 2, .rw, .retained, 200, 0, 10000, false, false⟩
/-- 0x4800.09 REFSB_EN -/
def Ob.REFSB_EN : Obj := ⟨0x4800, 1, 0x09, 1, .bool, 1, .rw, .stored, 1, 0, 1, false, false⟩
/-- 0x4800.0A RD_THRESHOLD -/
def Ob.RD_THRESHOLD : Obj := ⟨0x4800, 1, 0x0A, 1, .u16, 2, .rw, .stored, 1000, 100, 16000, false, false⟩
/-- 0x4800.0B PATROL_H -/
def Ob.PATROL_H : Obj := ⟨0x4800, 1, 0x0B, 1, .u8, 1, .rw, .retained, 24, 1, 168, false, false⟩
/-- 0x4800.0C REPLAY_MAX -/
def Ob.REPLAY_MAX : Obj := ⟨0x4800, 1, 0x0C, 1, .u8, 1, .rw, .stored, 3, 1, 8, false, false⟩
/-- 0x4800.0D OSC_MS -/
def Ob.OSC_MS : Obj := ⟨0x4800, 1, 0x0D, 1, .u16, 2, .rw, .retained, 100, 10, 1000, false, false⟩
/-- 0x4800.0E RETIRE_SPARE_MIB -/
def Ob.RETIRE_SPARE_MIB : Obj := ⟨0x4800, 1, 0x0E, 1, .u16, 2, .rw, .stored, 2048, 0, 4096, false, false⟩
/-- 0x4800.0F RET_COPY_MBPS -/
def Ob.RET_COPY_MBPS : Obj := ⟨0x4800, 1, 0x0F, 1, .u16, 2, .rw, .retained, 2000, 100, 20000, false, false⟩
/-- 0x4800.10 PD_IDLE_NS -/
def Ob.PD_IDLE_NS : Obj := ⟨0x4800, 1, 0x10, 1, .u16, 2, .rw, .retained, 1000, 0, 60000, false, false⟩
/-- 0x4801.01 RETIRE.COORD -/
def Ob.RETIRE.COORD : Obj := ⟨0x4801, 64, 0x01, 1, .u32, 4, .rw, .stored, 0, 0, 4294967295, false, false⟩
/-- 0x4801.02 RETIRE.SPAN -/
def Ob.RETIRE.SPAN : Obj := ⟨0x4801, 64, 0x02, 1, .u32, 4, .rw, .stored, 1, 0, 4294967295, false, false⟩
/-- 0x4801.03 RETIRE.TARGET -/
def Ob.RETIRE.TARGET : Obj := ⟨0x4801, 64, 0x03, 1, .u32, 4, .rw, .stored, 0, 0, 4294967295, false, false⟩
/-- 0x4C00.01 WD_US -/
def Ob.WD_US : Obj := ⟨0x4C00, 1, 0x01, 1, .u32, 4, .rw, .stored, 1000, 100, 100000, false, false⟩
/-- 0x4C00.02 SCRIPT_LAG_MAX -/
def Ob.SCRIPT_LAG_MAX : Obj := ⟨0x4C00, 1, 0x02, 1, .u32, 4, .rw, .stored, 196608, 16384, 196608, false, false⟩
/-- 0x4C00.03 FAIL_MAX -/
def Ob.FAIL_MAX : Obj := ⟨0x4C00, 1, 0x03, 1, .u8, 1, .rw, .stored, 3, 1, 16, false, false⟩
/-- 0x4C00.04 AUTO_REPAIR -/
def Ob.AUTO_REPAIR : Obj := ⟨0x4C00, 1, 0x04, 1, .bool, 1, .rw, .stored, 1, 0, 1, false, false⟩
/-- 0x4C00.05 CUT_REQ -/
def Ob.CUT_REQ : Obj := ⟨0x4C00, 1, 0x05, 1, .u8, 1, .wo, .volatile, 0, 1, 1, false, false⟩
/-- 0x4C00.06 SELFTEST_S -/
def Ob.SELFTEST_S : Obj := ⟨0x4C00, 1, 0x06, 1, .u32, 4, .rw, .retained, 3600, 60, 604800, false, false⟩
/-- 0x4C00.07 ROTATE_H -/
def Ob.ROTATE_H : Obj := ⟨0x4C00, 1, 0x07, 1, .u16, 2, .rw, .stored, 0, 0, 8760, false, false⟩
/-- 0x4C00.08 CUT_COUNT -/
def Ob.CUT_COUNT : Obj := ⟨0x4C00, 1, 0x08, 1, .u32, 4, .ro, .stored, 0, 0, 4294967295, false, false⟩
/-- 0x4C00.09 CLUSTER_STATE -/
def Ob.CLUSTER_STATE : Obj := ⟨0x4C00, 1, 0x09, 1, .octets, 2, .ro, .volatile, 0, 0, 0, true, false⟩
/-- 0x5000.01 TAKE_ID -/
def Ob.TAKE_ID : Obj := ⟨0x5000, 1, 0x01, 1, .u64, 8, .ro, .volatile, 0, 0, 18446744073709551615, false, false⟩
/-- 0x5000.02 TAKE_STATE -/
def Ob.TAKE_STATE : Obj := ⟨0x5000, 1, 0x02, 1, .u8, 1, .ro, .stored, 0, 0, 4, true, false⟩
/-- 0x5000.03 HEALTH_CONFIRM -/
def Ob.HEALTH_CONFIRM : Obj := ⟨0x5000, 1, 0x03, 1, .u32, 4, .wo, .volatile, 0, 0, 4294967295, false, false⟩
/-- 0x5000.04 CONFIRM_S -/
def Ob.CONFIRM_S : Obj := ⟨0x5000, 1, 0x04, 1, .u16, 2, .rw, .stored, 120, 30, 3600, false, false⟩
/-- 0x5000.05 ACT_DEADLINE -/
def Ob.ACT_DEADLINE : Obj := ⟨0x5000, 1, 0x05, 1, .time64, 8, .rw, .retained, 0, 0, 18446744073709551615, false, false⟩
/-- 0x5000.06 ACT_RESULT -/
def Ob.ACT_RESULT : Obj := ⟨0x5000, 1, 0x06, 1, .u8, 1, .ro, .retained, 0, 0, 4, false, false⟩
/-- 0x5000.07 PENDING_TRIALS -/
def Ob.PENDING_TRIALS : Obj := ⟨0x5000, 1, 0x07, 1, .u8, 1, .rw, .stored, 3, 1, 8, false, false⟩
/-- 0x5000.08 ARCHIVE_ID -/
def Ob.ARCHIVE_ID : Obj := ⟨0x5000, 1, 0x08, 1, .octets, 16, .ro, .stored, 0, 0, 0, false, false⟩
/-- 0x5000.09 SEAL_STATE -/
def Ob.SEAL_STATE : Obj := ⟨0x5000, 1, 0x09, 1, .u8, 1, .rw, .stored, 0, 0, 2, false, false⟩
/-- 0x5000.0A FALLBACK_COUNT -/
def Ob.FALLBACK_COUNT : Obj := ⟨0x5000, 1, 0x0A, 1, .u32, 4, .ro, .stored, 0, 0, 4294967295, false, false⟩
/-- 0x5000.0B SVN_FUSED -/
def Ob.SVN_FUSED : Obj := ⟨0x5000, 1, 0x0B, 1, .u32, 4, .ro, .stored, 0, 0, 4294967295, false, false⟩
/-- 0x5000.0C KEY_FUSES -/
def Ob.KEY_FUSES : Obj := ⟨0x5000, 1, 0x0C, 1, .octets, 196, .ro, .stored, 0, 0, 0, false, false⟩
/-- 0x5000.0D BANK3_ERASES -/
def Ob.BANK3_ERASES : Obj := ⟨0x5000, 1, 0x0D, 1, .u64, 8, .ro, .stored, 0, 0, 18446744073709551615, false, false⟩
/-- 0x5000.0E SEAL_CHALLENGE -/
def Ob.SEAL_CHALLENGE : Obj := ⟨0x5000, 1, 0x0E, 1, .octets, 32, .ro, .volatile, 0, 0, 0, false, false⟩
/-- 0x5000.0F SEAL_GRANT -/
def Ob.SEAL_GRANT : Obj := ⟨0x5000, 1, 0x0F, 1, .octets, 288, .wo, .volatile, 0, 0, 0, false, false⟩
/-- 0x1000.01 PART -/
def Ob.PART : Obj := ⟨0x1000, 1, 0x01, 1, .u16, 2, .ro, .stored, 38464, 0, 65535, true, false⟩
/-- 0x1000.02 REV_ID -/
def Ob.REV_ID : Obj := ⟨0x1000, 1, 0x02, 1, .u8, 1, .ro, .stored, 16, 0, 255, true, false⟩
/-- 0x1000.03 ORDER_CODE -/
def Ob.ORDER_CODE : Obj := ⟨0x1000, 1, 0x03, 1, .string, 16, .ro, .stored, 0, 0, 0, true, false⟩
/-- 0x1000.04 SERIAL -/
def Ob.SERIAL : Obj := ⟨0x1000, 1, 0x04, 1, .string, 20, .rw, .stored, 0, 0, 0, true, false⟩
/-- 0x1000.05 MODEL -/
def Ob.MODEL : Obj := ⟨0x1000, 1, 0x05, 1, .string, 40, .rw, .stored, 0, 0, 0, true, false⟩
/-- 0x1000.06 SUBSYS_ID -/
def Ob.SUBSYS_ID : Obj := ⟨0x1000, 1, 0x06, 1, .u16, 2, .rw, .stored, 0, 0, 65535, true, false⟩
/-- 0x1100.10 WRITE_EN -/
def Ob.WRITE_EN : Obj := ⟨0x1100, 1, 0x10, 1, .u8, 1, .rw, .stored, 127, 0, 127, false, false⟩
/-- 0x1100.11 SMBUS_ADDR -/
def Ob.SMBUS_ADDR : Obj := ⟨0x1100, 1, 0x11, 1, .u8, 1, .rw, .stored, 29, 8, 119, false, false⟩
/-- 0x1100.12 EVENT_EID -/
def Ob.EVENT_EID : Obj := ⟨0x1100, 1, 0x12, 1, .u8, 1, .rw, .retained, 0, 0, 254, false, false⟩
/-- 0x1100.13 EVENT_AEN_MASK -/
def Ob.EVENT_AEN_MASK : Obj := ⟨0x1100, 1, 0x13, 1, .u32, 4, .rw, .stored, 32767, 0, 4294967295, false, false⟩
/-- 0x1100.14 FW_OBJ_MS -/
def Ob.FW_OBJ_MS : Obj := ⟨0x1100, 1, 0x14, 1, .u16, 2, .rw, .stored, 50, 1, 1000, false, false⟩
/-- 0x1100.15 STORE_USED -/
def Ob.STORE_USED : Obj := ⟨0x1100, 1, 0x15, 1, .u32, 4, .ro, .volatile, 0, 0, 98304, false, false⟩
/-- 0x5800.01 FLEET_TIME -/
def Ob.FLEET_TIME : Obj := ⟨0x5800, 1, 0x01, 1, .time64, 8, .ro, .volatile, 0, 0, 18446744073709551615, false, false⟩
/-- 0x5800.02 FLEET_SET -/
def Ob.FLEET_SET : Obj := ⟨0x5800, 1, 0x02, 1, .time64, 8, .wo, .volatile, 0, 0, 18446744073709551615, false, false⟩
/-- 0x5800.03 FLEET_SRC -/
def Ob.FLEET_SRC : Obj := ⟨0x5800, 1, 0x03, 1, .u8, 1, .ro, .volatile, 0, 0, 2, false, false⟩
/-- 0x5800.04 SLEW_PPM -/
def Ob.SLEW_PPM : Obj := ⟨0x5800, 1, 0x04, 1, .u16, 2, .rw, .stored, 200, 10, 1000, false, false⟩
/-- 0x5800.05 STEP_NS -/
def Ob.STEP_NS : Obj := ⟨0x5800, 1, 0x05, 1, .u32, 4, .rw, .stored, 0xf4240, 1000, 1000000000, false, false⟩
/-- 0x5800.06 FLEET_STEPS -/
def Ob.FLEET_STEPS : Obj := ⟨0x5800, 1, 0x06, 1, .u32, 4, .ro, .retained, 0, 0, 4294967295, false, false⟩
/-- 0x5800.07 LAST_OFFSET_NS -/
def Ob.LAST_OFFSET_NS : Obj := ⟨0x5800, 1, 0x07, 1, .i64, 8, .ro, .volatile, 0, (-9223372036854775808), 9223372036854775807, false, false⟩
/-- 0x6000.01 HEALTH_SUMMARY -/
def Ob.HEALTH_SUMMARY : Obj := ⟨0x6000, 1, 0x01, 1, .u32, 4, .ro, .retained, 0, 0, 4294967295, true, false⟩
/-- 0x6000.02 EVENT_COUNT -/
def Ob.EVENT_COUNT : Obj := ⟨0x6000, 1, 0x02, 1, .u16, 2, .ro, .retained, 0, 0, 256, true, false⟩
/-- 0x6000.03 EVENT_SEL -/
def Ob.EVENT_SEL : Obj := ⟨0x6000, 1, 0x03, 1, .u16, 2, .rw, .retained, 0, 0, 65535, true, false⟩
/-- 0x6000.04 EVENT_REC -/
def Ob.EVENT_REC : Obj := ⟨0x6000, 1, 0x04, 1, .octets, 16, .ro, .retained, 0, 0, 0, true, false⟩
/-- 0x6000.05 EW_LIFE -/
def Ob.EW_LIFE : Obj := ⟨0x6000, 1, 0x05, 1, .u16, 2, .ro, .stored, 0, 0, 65535, true, false⟩
/-- 0x5C00.01 FREEZE -/
def Ob.FREEZE : Obj := ⟨0x5C00, 1, 0x01, 1, .bool, 1, .rw, .volatile, 0, 0, 1, false, false⟩
/-- 0x5C00.02 TRIG_EN -/
def Ob.TRIG_EN : Obj := ⟨0x5C00, 1, 0x02, 1, .u64, 8, .rw, .stored, 0xffffffffffffffff, 0, 18446744073709551615, false, false⟩
/-- 0x5C00.03 FIRST_MASK -/
def Ob.FIRST_MASK : Obj := ⟨0x5C00, 1, 0x03, 1, .u64, 8, .rw, .stored, 0x22b0a1002, 0, 18446744073709551615, false, false⟩
/-- 0x5C00.04 RUN_FLUSH_MS -/
def Ob.RUN_FLUSH_MS : Obj := ⟨0x5C00, 1, 0x04, 1, .u16, 2, .rw, .retained, 100, 10, 10000, false, false⟩
/-- 0x5C00.05 REC_SEL -/
def Ob.REC_SEL : Obj := ⟨0x5C00, 1, 0x05, 1, .u32, 4, .rw, .volatile, 0, 0, 4294967295, false, false⟩
/-- 0x5C00.06 REC_DATA -/
def Ob.REC_DATA : Obj := ⟨0x5C00, 1, 0x06, 1, .octets, 512, .ro, .volatile, 0, 0, 0, false, false⟩
/-- 0x5C00.07 RSEQ_NEXT -/
def Ob.RSEQ_NEXT : Obj := ⟨0x5C00, 1, 0x07, 1, .u64, 8, .ro, .stored, 0, 0, 18446744073709551615, false, false⟩
/-- 0x5C00.08 FIRST_USED -/
def Ob.FIRST_USED : Obj := ⟨0x5C00, 1, 0x08, 1, .u16, 2, .ro, .stored, 0, 0, 1024, false, false⟩
/-- 0x5C40.00 SNAP_LIST -/
def Ob.SNAP_LIST : Obj := ⟨0x5C40, 64, 0x00, 1, .octets, 224, .rw, .stored, 0, 0, 0, false, false⟩

/-- The objects of indices 0x1000 to 0x13FF. -/
def objs1000 : List Obj :=
  [Ob.STAGE, Ob.START_KIND, Ob.POWER_CYCLES, Ob.POWER_ON_SECONDS, Ob.LAST_HALL_MS,
   Ob.PART, Ob.REV_ID, Ob.ORDER_CODE, Ob.SERIAL, Ob.MODEL,
   Ob.SUBSYS_ID, Ob.WRITE_EN, Ob.SMBUS_ADDR, Ob.EVENT_EID, Ob.EVENT_AEN_MASK,
   Ob.FW_OBJ_MS, Ob.STORE_USED]

/-- The objects of indices 0x2000 to 0x23FF. -/
def objs2000 : List Obj :=
  [Ob.CLOCK_MODE, Ob.MAX_RATE, Ob.MAX_WIDTH, Ob.L0P_EN, Ob.L0P_LOW_PCT,
   Ob.L0P_WINDOW_US, Ob.L1_IDLE_US, Ob.NP_LIMIT, Ob.VF_BAR2_LOG2]

/-- The objects of indices 0x2400 to 0x27FF. -/
def objs2400 : List Obj :=
  [Ob.DEFAULT_CLASS, Ob.AGE_HIGH_US, Ob.QEN_AGE_NORMAL_US, Ob.QEN_AGE_BKG_US, Ob.PS_MAX_POWER_0,
   Ob.PS_MAX_POWER_1, Ob.PS_MAX_POWER_2, Ob.PS_MAX_POWER_3, Ob.PS_MAX_POWER_4, Ob.COMPLETION_MODE]

/-- The objects of indices 0x2800 to 0x2BFF. -/
def objs2800 : List Obj :=
  [Ob.ADMIT_RD_MBPS, Ob.ADMIT_WR_MBPS, Ob.ADMIT_CMD_KIOPS, Ob.WR_CMD_COST, Ob.BURST_US,
   Ob.DRAIN_MS, Ob.QSTATE_SEL, Ob.QSTATE]

/-- The objects of indices 0x2C00 to 0x2FFF. -/
def objs2C00 : List Obj :=
  [Ob.STAGE_GIB, Ob.WIN_COMMIT, Ob.PANIC_ON_PCT, Ob.PANIC_OFF_PCT, Ob.WIN.WIN_CTL,
   Ob.WIN.WIN_BASE, Ob.WIN.WIN_SIZE, Ob.WIN.WIN_REQID, Ob.WIN.WIN_NSID, Ob.WIN.WIN_LBA_LO,
   Ob.WIN.WIN_LBA_HI, Ob.WIN.WIN_STAGE]

/-- The objects of indices 0x3000 to 0x33FF. -/
def objs3000 : List Obj :=
  [Ob.DIRECT_MIN_KIB, Ob.LZ_PCT, Ob.LZ_FOLD_START_PCT, Ob.JRNL_FLUSH_US, Ob.JRNL_MAX_GIB,
   Ob.STRICT_FORCE, Ob.GC_RESERVE_PCT, Ob.DRAM_GIB, Ob.OPEN_MAX_S, Ob.MAP_MIB,
   Ob.AVAIL_SPARE, Ob.RETIRED_BLOCKS]

/-- The objects of indices 0x3400 to 0x37FF. -/
def objs3400 : List Obj :=
  [Ob.ENVELOPE_TOKENS, Ob.RSV_CTRL, Ob.RSV_DRAM, Ob.RSV_MISC, Ob.RSV_MARGIN,
   Ob.NAND_IDLE, Ob.URGENT_RSV, Ob.COST_READ_1P, Ob.COST_READ_MP, Ob.COST_SLC_PROG,
   Ob.COST_TLC_PROG, Ob.COST_QLC_PROG, Ob.COST_ERASE, Ob.RSV_CTRL_PS1, Ob.RSV_CTRL_PS2,
   Ob.STAGGER_NS, Ob.STEP1_C, Ob.STEP2_C, Ob.STEP_HYST_C, Ob.STEP1_PCT,
   Ob.STEP2_PCT, Ob.SUSP_MAX, Ob.SUSP_MAX_ERASE, Ob.SUSPEND_CLASSES, Ob.RESUME_MIN_US,
   Ob.DSC_AGE_NORMAL_US, Ob.DSC_AGE_BKG_US, Ob.AGE_REBUILD_US, Ob.AGE_GC_US, Ob.AGE_SCRUB_US,
   Ob.CHUNK_KIB, Ob.CH_CAP_PS1_GBPS, Ob.CH_CAP_PS2_GBPS, Ob.NAND_BUDGET, Ob.THERMAL_STEP]

/-- The objects of indices 0x3800 to 0x3BFF. -/
def objs3800 : List Obj :=
  [Ob.MAX_MTS, Ob.MODE, Ob.TOPO_MD, Ob.VOL_SELECT, Ob.VIN_GUARD_MV,
   Ob.VDDQ_GUARD_MV, Ob.VDDQ_DUMP_MV, Ob.TEMP_LOW_C, Ob.GUARD_CLEAR_US, Ob.GUARD_WAIT_MS,
   Ob.TEMP_POLL_MS, Ob.VERIFY_MASK, Ob.VERIFY_DELAY_US, Ob.RETRAIN_S, Ob.RETRAIN_DELTA_C,
   Ob.VERIFY_MAX_BITS, Ob.T_R_US, Ob.T_PROG_SLC_US, Ob.T_PROG_TLC_US, Ob.T_PROG_QLC_US,
   Ob.T_BERS_US, Ob.T_PSUS_US, Ob.T_ESUS_US, Ob.BUSY_TIMEOUT_X, Ob.POLL_FIRST_PCT,
   Ob.POLL_READ_NS, Ob.POLL_PE_NS, Ob.TEMP_HIGH_C, Ob.OPCODES_01, Ob.OPCODES_02,
   Ob.OPCODES_03, Ob.OPCODES_04, Ob.OPCODES_05, Ob.OPCODES_06, Ob.OPCODES_07,
   Ob.OPCODES_08, Ob.OPCODES_09, Ob.OPCODES_0A, Ob.OPCODES_0B, Ob.OPCODES_0C,
   Ob.OPCODES_0D, Ob.OPCODES_0E, Ob.OPCODES_0F, Ob.OPCODES_10, Ob.OPCODES_11,
   Ob.OPCODES_12, Ob.OPCODES_13, Ob.OPCODES_14]

/-- The objects of indices 0x3C00 to 0x3FFF. -/
def objs3C00 : List Obj :=
  [Ob.RATED_PE_TLC, Ob.RATED_PE_QLC, Ob.RATED_PE_SLC, Ob.TREAD_PCT, Ob.SYS_MIN_TREAD,
   Ob.HARD_MAX_ITER, Ob.L1_RETRIES, Ob.SOFT_DELTA, Ob.JD_PASSES, Ob.RELOC_LEVEL,
   Ob.REFRESH_COUNT, Ob.OFF_TEMP_C, Ob.OFF_GUESS_H, Ob.SCRUB_PERIOD_H, Ob.SCRUB_STRIDE,
   Ob.SCRUB_LEVEL, Ob.SCRUB_BITS, Ob.SCRUB_AGE_BUCKET, Ob.SCRUB_FORCE_BUCKET, Ob.READ_DISTURB_LIMIT,
   Ob.SCRUB_RATE_MBPS, Ob.SCRUB_WIN.EN, Ob.SCRUB_WIN.START, Ob.SCRUB_WIN.LENGTH_S, Ob.SCRUB_WIN.PERIOD_S,
   Ob.PCT_USED, Ob.L12_SHARE_PPM, Ob.TREAD_HIST, Ob.THETA_MS, Ob.EW_FIRED,
   Ob.AF_TABLE, Ob.VT_TABLE, Ob.JD_MODEL]

/-- The objects of indices 0x4000 to 0x43FF. -/
def objs4000 : List Obj :=
  [Ob.LZ_WIDTH, Ob.ACC_BUFS, Ob.GATHER_MAX_US, Ob.OBP_DEPTH, Ob.SJ_FLUSH_US,
   Ob.REBUILD_AUTO, Ob.REBUILD_MBPS, Ob.RAISED_MBPS, Ob.PHASE2_MODE, Ob.SURVIVOR_MAX_LEVEL,
   Ob.LEL_COUNT, Ob.LEL_SEL, Ob.LEL_ENTRY, Ob.DEGRADED_BANDS, Ob.PAR_CLASS,
   Ob.PAR_WIDTH]

/-- The objects of indices 0x4400 to 0x47FF. -/
def objs4400 : List Obj :=
  [Ob.POOL_COUNT_0, Ob.POOL_COUNT_1, Ob.POOL_COUNT_2, Ob.POOL_COUNT_3, Ob.POOL_COUNT_4,
   Ob.SPILL_MAX, Ob.RING_DEPTH, Ob.URGENT_RSV_SETS, Ob.SCRUB_PERIOD_MS, Ob.CORR_RETIRE,
   Ob.RETIRED_BUFS]

/-- The objects of indices 0x4800 to 0x4BFF. -/
def objs4800 : List Obj :=
  [Ob.RATE_MTS, Ob.ADDR_ORDER, Ob.W_RT, Ob.W_MAPN, Ob.W_BULK,
   Ob.AGE_MAPN_NS, Ob.AGE_BULK_US, Ob.PAGE_IDLE_NS, Ob.REFSB_EN, Ob.RD_THRESHOLD,
   Ob.PATROL_H, Ob.REPLAY_MAX, Ob.OSC_MS, Ob.RETIRE_SPARE_MIB, Ob.RET_COPY_MBPS,
   Ob.PD_IDLE_NS, Ob.RETIRE.COORD, Ob.RETIRE.SPAN, Ob.RETIRE.TARGET]

/-- The objects of indices 0x4C00 to 0x4FFF. -/
def objs4C00 : List Obj :=
  [Ob.WD_US, Ob.SCRIPT_LAG_MAX, Ob.FAIL_MAX, Ob.AUTO_REPAIR, Ob.CUT_REQ,
   Ob.SELFTEST_S, Ob.ROTATE_H, Ob.CUT_COUNT, Ob.CLUSTER_STATE]

/-- The objects of indices 0x5000 to 0x53FF. -/
def objs5000 : List Obj :=
  [Ob.TAKE_ID, Ob.TAKE_STATE, Ob.HEALTH_CONFIRM, Ob.CONFIRM_S, Ob.ACT_DEADLINE,
   Ob.ACT_RESULT, Ob.PENDING_TRIALS, Ob.ARCHIVE_ID, Ob.SEAL_STATE, Ob.FALLBACK_COUNT,
   Ob.SVN_FUSED, Ob.KEY_FUSES, Ob.BANK3_ERASES, Ob.SEAL_CHALLENGE, Ob.SEAL_GRANT]

/-- The objects of indices 0x5400 to 0x57FF. -/
def objs5400 : List Obj :=
  [Ob.PRESENT, Ob.ENERGY_MIN_MJ, Ob.SENSE_DIV, Ob.VMIN_MV, Ob.FULL_MV,
   Ob.EFF_PCT, Ob.BLEED_OHM, Ob.TEST_DROP_PCT, Ob.TEST_MAX_MS, Ob.TEST_PERIOD_H,
   Ob.CHARGED_PCT, Ob.DUMP_NAND_TOKENS, Ob.DUMP_WAIT_US, Ob.DUMP_DIES, Ob.LAST_TEST,
   Ob.LAST_CAP_UF, Ob.DUMP_COUNT, Ob.HUM_STATE]

/-- The objects of indices 0x5800 to 0x5BFF. -/
def objs5800 : List Obj :=
  [Ob.FLEET_TIME, Ob.FLEET_SET, Ob.FLEET_SRC, Ob.SLEW_PPM, Ob.STEP_NS,
   Ob.FLEET_STEPS, Ob.LAST_OFFSET_NS]

/-- The objects of indices 0x5C00 to 0x5FFF. -/
def objs5C00 : List Obj :=
  [Ob.FREEZE, Ob.TRIG_EN, Ob.FIRST_MASK, Ob.RUN_FLUSH_MS, Ob.REC_SEL,
   Ob.REC_DATA, Ob.RSEQ_NEXT, Ob.FIRST_USED, Ob.SNAP_LIST]

/-- The objects of indices 0x6000 to 0x63FF. -/
def objs6000 : List Obj :=
  [Ob.HEALTH_SUMMARY, Ob.EVENT_COUNT, Ob.EVENT_SEL, Ob.EVENT_REC, Ob.EW_LIFE]

/-- The objects of indices 0x8000 to 0x83FF. -/
def objs8000 : List Obj :=
  [Ob.FUNC, Ob.PASID, Ob.PASID_VALID, Ob.QBASE, Ob.QCOUNT,
   Ob.KEY_COUNT, Ob.CTX_RSV, Ob.CTX_MAX, Ob.NP_RSV, Ob.NP_MAX,
   Ob.STAGE_MAX_MIB, Ob.DIE_SET, Ob.DIE_WEIGHT, Ob.RD_MBPS, Ob.WR_MBPS,
   Ob.CMD_KIOPS, Ob.RD_FLOOR, Ob.WR_FLOOR, Ob.CMD_FLOOR, Ob.VEC_BASE,
   Ob.VEC_COUNT, Ob.COMMIT, Ob.COMMIT_STS, Ob.CTRL, Ob.RESET,
   Ob.DLOG_BASE, Ob.DLOG_SIZE_LOG2, Ob.DLOG_EXT_SHIFT, Ob.DLOG_HEAD, Ob.DLOG_TAIL,
   Ob.DLOG_EN, Ob.DLOG_EPOCH, Ob.WIN_MAX, Ob.WIN_STAGE_MAX]

/-- The objects of a range of Table 19.6, by index ÷ 0x400. -/
def objsOfRange : Nat → List Obj
  | 0x04 => objs1000
  | 0x08 => objs2000
  | 0x09 => objs2400
  | 0x0A => objs2800
  | 0x0B => objs2C00
  | 0x0C => objs3000
  | 0x0D => objs3400
  | 0x0E => objs3800
  | 0x0F => objs3C00
  | 0x10 => objs4000
  | 0x11 => objs4400
  | 0x12 => objs4800
  | 0x13 => objs4C00
  | 0x14 => objs5000
  | 0x15 => objs5400
  | 0x16 => objs5800
  | 0x17 => objs5C00
  | 0x18 => objs6000
  | 0x20 => objs8000
  | _ => []

/-- The object at an address, if one lies there (R459), but for sub-index 0x00 of records and arrays and the staged views of R146. -/
def objAt (index sub : Nat) : Option Obj :=
  (objsOfRange (index / 0x400)).find? fun o =>
    o.idx ≤ index && index < o.idx + o.nidx && o.sub ≤ sub && sub < o.sub + o.nsub

end Sys2Proof.Machine
end

