-- ==== Sys2Proof/Machine/RegMap.lean ====
section
/-! DEFINITION. The register map: every field of the register tables of spec/01 to spec/18, with its internal address (Table 0.3: unit base plus offset), bits, access code (Table 0.1) and reset value. Fields of one register stand together. RSVD bits have no field: they read 0 and ignore writes (R4, R503). -/

namespace Sys2Proof.Machine

/-- Access codes of Table 0.1. -/
inductive Acc where
  | ro | rw | rw1c | rws | wo | rc
deriving DecidableEq, Repr, Inhabited

/-- A register field. `count` words of the same layout follow from `reg` on (1 but for the word arrays). -/
structure Field where
  reg   : Nat
  count : Nat
  msb   : Nat
  lsb   : Nat
  acc   : Acc
  reset : Nat
deriving DecidableEq, Repr, Inhabited

/-- Number of bits of a field. -/
def Field.width (f : Field) : Nat := f.msb + 1 - f.lsb

/-! TBU (Table 1.6) -/

/-- TBU_TICK_LO.COUNT_LO -/
def Fld.TBU_TICK_LO.COUNT_LO : Field := ⟨0x20000010, 1, 31, 0, .ro, 0x0⟩
/-- TBU_TICK_HI.COUNT_HI -/
def Fld.TBU_TICK_HI.COUNT_HI : Field := ⟨0x20000014, 1, 31, 0, .ro, 0x0⟩
/-- TBU_COLL_CNT.COUNT -/
def Fld.TBU_COLL_CNT.COUNT : Field := ⟨0x20000020, 1, 31, 0, .rc, 0x0⟩
/-- TBU_COLL_LAST.CLASSES -/
def Fld.TBU_COLL_LAST.CLASSES : Field := ⟨0x20000024, 1, 9, 0, .ro, 0x0⟩

/-- The fields of TBU. -/
def fieldsTbu : List Field :=
  [Fld.TBU_TICK_LO.COUNT_LO, Fld.TBU_TICK_HI.COUNT_HI, Fld.TBU_COLL_CNT.COUNT, Fld.TBU_COLL_LAST.CLASSES]

/-! HLU (Table 3.5) -/

/-- HLU_LINK_STS.LINK_UP -/
def Fld.HLU_LINK_STS.LINK_UP : Field := ⟨0x20100100, 1, 31, 31, .ro, 0x0⟩
/-- HLU_LINK_STS.FLIT -/
def Fld.HLU_LINK_STS.FLIT : Field := ⟨0x20100100, 1, 30, 30, .ro, 0x0⟩
/-- HLU_LINK_STS.L0P_WIDTH -/
def Fld.HLU_LINK_STS.L0P_WIDTH : Field := ⟨0x20100100, 1, 20, 16, .ro, 0x0⟩
/-- HLU_LINK_STS.WIDTH -/
def Fld.HLU_LINK_STS.WIDTH : Field := ⟨0x20100100, 1, 12, 8, .ro, 0x0⟩
/-- HLU_LINK_STS.RATE -/
def Fld.HLU_LINK_STS.RATE : Field := ⟨0x20100100, 1, 2, 0, .ro, 0x0⟩
/-- HLU_LINK_EVT.NO_LINK -/
def Fld.HLU_LINK_EVT.NO_LINK : Field := ⟨0x20100104, 1, 4, 4, .rw1c, 0x0⟩
/-- HLU_LINK_EVT.LINK_DOWN -/
def Fld.HLU_LINK_EVT.LINK_DOWN : Field := ⟨0x20100104, 1, 3, 3, .rw1c, 0x0⟩
/-- HLU_LINK_EVT.EQ_FAIL -/
def Fld.HLU_LINK_EVT.EQ_FAIL : Field := ⟨0x20100104, 1, 2, 2, .rw1c, 0x0⟩
/-- HLU_LINK_EVT.WIDTH_DOWN -/
def Fld.HLU_LINK_EVT.WIDTH_DOWN : Field := ⟨0x20100104, 1, 1, 1, .rw1c, 0x0⟩
/-- HLU_LINK_EVT.RATE_DOWN -/
def Fld.HLU_LINK_EVT.RATE_DOWN : Field := ⟨0x20100104, 1, 0, 0, .rw1c, 0x0⟩
/-- HLU_NP_STS.OUTSTANDING -/
def Fld.HLU_NP_STS.OUTSTANDING : Field := ⟨0x20100110, 1, 11, 0, .ro, 0x0⟩
/-- HLU_NP_STALL.TICKS -/
def Fld.HLU_NP_STALL.TICKS : Field := ⟨0x20100114, 1, 31, 0, .rc, 0x0⟩
/-- HLU_QUAR_LO.FN -/
def Fld.HLU_QUAR_LO.FN : Field := ⟨0x20100120, 1, 31, 0, .ro, 0x0⟩
/-- HLU_QUAR_HI.FN -/
def Fld.HLU_QUAR_HI.FN : Field := ⟨0x20100124, 1, 31, 0, .ro, 0x0⟩
/-- HLU_FN_STALL_LO.FN -/
def Fld.HLU_FN_STALL_LO.FN : Field := ⟨0x20100128, 1, 31, 0, .ro, 0x0⟩
/-- HLU_FN_STALL_HI.FN -/
def Fld.HLU_FN_STALL_HI.FN : Field := ⟨0x2010012C, 1, 31, 0, .ro, 0x0⟩
/-- HLU_PTM_STS.VALID -/
def Fld.HLU_PTM_STS.VALID : Field := ⟨0x20100130, 1, 31, 31, .ro, 0x0⟩
/-- HLU_PTM_STS.FAIL_CNT -/
def Fld.HLU_PTM_STS.FAIL_CNT : Field := ⟨0x20100130, 1, 15, 0, .rws, 0x0⟩
/-- HLU_POISON_CNT.OUTBOUND -/
def Fld.HLU_POISON_CNT.OUTBOUND : Field := ⟨0x20100140, 1, 31, 16, .rc, 0x0⟩
/-- HLU_POISON_CNT.INBOUND -/
def Fld.HLU_POISON_CNT.INBOUND : Field := ⟨0x20100140, 1, 15, 0, .rc, 0x0⟩
/-- HLU_CPL_TO_CNT.COUNT -/
def Fld.HLU_CPL_TO_CNT.COUNT : Field := ⟨0x20100144, 1, 31, 0, .rc, 0x0⟩

/-- The fields of HLU. -/
def fieldsHlu : List Field :=
  [Fld.HLU_LINK_STS.LINK_UP, Fld.HLU_LINK_STS.FLIT, Fld.HLU_LINK_STS.L0P_WIDTH, Fld.HLU_LINK_STS.WIDTH,
   Fld.HLU_LINK_STS.RATE, Fld.HLU_LINK_EVT.NO_LINK, Fld.HLU_LINK_EVT.LINK_DOWN, Fld.HLU_LINK_EVT.EQ_FAIL,
   Fld.HLU_LINK_EVT.WIDTH_DOWN, Fld.HLU_LINK_EVT.RATE_DOWN, Fld.HLU_NP_STS.OUTSTANDING, Fld.HLU_NP_STALL.TICKS,
   Fld.HLU_QUAR_LO.FN, Fld.HLU_QUAR_HI.FN, Fld.HLU_FN_STALL_LO.FN, Fld.HLU_FN_STALL_HI.FN,
   Fld.HLU_PTM_STS.VALID, Fld.HLU_PTM_STS.FAIL_CNT, Fld.HLU_POISON_CNT.OUTBOUND, Fld.HLU_POISON_CNT.INBOUND,
   Fld.HLU_CPL_TO_CNT.COUNT]

/-! QEN (Table 4.11) -/

/-- QEN_CTX_STS.AT_BOUND -/
def Fld.QEN_CTX_STS.AT_BOUND : Field := ⟨0x20200100, 1, 31, 31, .ro, 0x0⟩
/-- QEN_CTX_STS.ALLOCATED -/
def Fld.QEN_CTX_STS.ALLOCATED : Field := ⟨0x20200100, 1, 14, 0, .ro, 0x0⟩
/-- QEN_FETCH_STALL.TICKS -/
def Fld.QEN_FETCH_STALL.TICKS : Field := ⟨0x20200104, 1, 31, 0, .rc, 0x0⟩
/-- QEN_ABORT_CNT.CAUGHT -/
def Fld.QEN_ABORT_CNT.CAUGHT : Field := ⟨0x20200108, 1, 31, 16, .rc, 0x0⟩
/-- QEN_ABORT_CNT.MISSED -/
def Fld.QEN_ABORT_CNT.MISSED : Field := ⟨0x20200108, 1, 15, 0, .rc, 0x0⟩
/-- QEN_ACT_STS.PHASE -/
def Fld.QEN_ACT_STS.PHASE : Field := ⟨0x20200120, 1, 1, 0, .ro, 0x0⟩
/-- QEN_PS_STS.ENTRY_PEND -/
def Fld.QEN_PS_STS.ENTRY_PEND : Field := ⟨0x20200124, 1, 7, 7, .ro, 0x0⟩
/-- QEN_PS_STS.PS -/
def Fld.QEN_PS_STS.PS : Field := ⟨0x20200124, 1, 2, 0, .ro, 0x0⟩
/-- QEN_RSC_ID.PART -/
def Fld.QEN_RSC_ID.PART : Field := ⟨0x20208000, 1, 31, 16, .ro, 0x9640⟩
/-- QEN_RSC_ID.REV -/
def Fld.QEN_RSC_ID.REV : Field := ⟨0x20208000, 1, 15, 8, .ro, 0x10⟩
/-- QEN_RSC_ID.IF_VER -/
def Fld.QEN_RSC_ID.IF_VER : Field := ⟨0x20208000, 1, 7, 0, .ro, 0x1⟩
/-- QEN_RSC_CTL.GO -/
def Fld.QEN_RSC_CTL.GO : Field := ⟨0x20208004, 1, 31, 31, .wo, 0x0⟩
/-- QEN_RSC_CTL.SEQ -/
def Fld.QEN_RSC_CTL.SEQ : Field := ⟨0x20208004, 1, 15, 8, .rw, 0x0⟩
/-- QEN_RSC_CTL.TASK -/
def Fld.QEN_RSC_CTL.TASK : Field := ⟨0x20208004, 1, 7, 0, .rw, 0x0⟩
/-- QEN_RSC_STS.BUSY -/
def Fld.QEN_RSC_STS.BUSY : Field := ⟨0x20208008, 1, 31, 31, .ro, 0x0⟩
/-- QEN_RSC_STS.OPEN -/
def Fld.QEN_RSC_STS.OPEN : Field := ⟨0x20208008, 1, 30, 30, .ro, 0x0⟩
/-- QEN_RSC_STS.SESSION -/
def Fld.QEN_RSC_STS.SESSION : Field := ⟨0x20208008, 1, 29, 29, .ro, 0x0⟩
/-- QEN_RSC_STS.SEQ -/
def Fld.QEN_RSC_STS.SEQ : Field := ⟨0x20208008, 1, 23, 16, .ro, 0x0⟩
/-- QEN_RSC_STS.RESULT -/
def Fld.QEN_RSC_STS.RESULT : Field := ⟨0x20208008, 1, 7, 0, .ro, 0x0⟩
/-- QEN_RSC_ARG0.VALUE -/
def Fld.QEN_RSC_ARG0.VALUE : Field := ⟨0x20208010, 1, 31, 0, .rw, 0x0⟩
/-- QEN_RSC_ARG1.VALUE -/
def Fld.QEN_RSC_ARG1.VALUE : Field := ⟨0x20208014, 1, 31, 0, .rw, 0x0⟩
/-- QEN_RSC_OUT0.VALUE -/
def Fld.QEN_RSC_OUT0.VALUE : Field := ⟨0x20208020, 1, 31, 0, .ro, 0x0⟩
/-- QEN_RSC_OUT1.VALUE -/
def Fld.QEN_RSC_OUT1.VALUE : Field := ⟨0x20208024, 1, 31, 0, .ro, 0x0⟩

/-- The fields of QEN. -/
def fieldsQen : List Field :=
  [Fld.QEN_CTX_STS.AT_BOUND, Fld.QEN_CTX_STS.ALLOCATED, Fld.QEN_FETCH_STALL.TICKS, Fld.QEN_ABORT_CNT.CAUGHT,
   Fld.QEN_ABORT_CNT.MISSED, Fld.QEN_ACT_STS.PHASE, Fld.QEN_PS_STS.ENTRY_PEND, Fld.QEN_PS_STS.PS,
   Fld.QEN_RSC_ID.PART, Fld.QEN_RSC_ID.REV, Fld.QEN_RSC_ID.IF_VER, Fld.QEN_RSC_CTL.GO,
   Fld.QEN_RSC_CTL.SEQ, Fld.QEN_RSC_CTL.TASK, Fld.QEN_RSC_STS.BUSY, Fld.QEN_RSC_STS.OPEN,
   Fld.QEN_RSC_STS.SESSION, Fld.QEN_RSC_STS.SEQ, Fld.QEN_RSC_STS.RESULT, Fld.QEN_RSC_ARG0.VALUE,
   Fld.QEN_RSC_ARG1.VALUE, Fld.QEN_RSC_OUT0.VALUE, Fld.QEN_RSC_OUT1.VALUE]

/-! TNU (Table 5.4) -/

/-- TNU_SLICE_SEL.SLICE -/
def Fld.TNU_SLICE_SEL.SLICE : Field := ⟨0x20300100, 1, 9, 0, .rw, 0x0⟩
/-- TNU_SLICE_STS.BOUND -/
def Fld.TNU_SLICE_STS.BOUND : Field := ⟨0x20300104, 1, 31, 31, .ro, 0x0⟩
/-- TNU_SLICE_STS.PASID_VALID -/
def Fld.TNU_SLICE_STS.PASID_VALID : Field := ⟨0x20300104, 1, 30, 30, .ro, 0x0⟩
/-- TNU_SLICE_STS.BELOW_RD -/
def Fld.TNU_SLICE_STS.BELOW_RD : Field := ⟨0x20300104, 1, 29, 29, .ro, 0x0⟩
/-- TNU_SLICE_STS.BELOW_WR -/
def Fld.TNU_SLICE_STS.BELOW_WR : Field := ⟨0x20300104, 1, 28, 28, .ro, 0x0⟩
/-- TNU_SLICE_STS.BELOW_CMD -/
def Fld.TNU_SLICE_STS.BELOW_CMD : Field := ⟨0x20300104, 1, 27, 27, .ro, 0x0⟩
/-- TNU_SLICE_STS.HELD_TOKENS -/
def Fld.TNU_SLICE_STS.HELD_TOKENS : Field := ⟨0x20300104, 1, 26, 26, .ro, 0x0⟩
/-- TNU_SLICE_STS.DIE_MOVE -/
def Fld.TNU_SLICE_STS.DIE_MOVE : Field := ⟨0x20300104, 1, 25, 25, .ro, 0x0⟩
/-- TNU_SLICE_STS.QUIESCED -/
def Fld.TNU_SLICE_STS.QUIESCED : Field := ⟨0x20300104, 1, 24, 24, .ro, 0x0⟩
/-- TNU_SLICE_STS.RESET_PEND -/
def Fld.TNU_SLICE_STS.RESET_PEND : Field := ⟨0x20300104, 1, 23, 23, .ro, 0x0⟩
/-- TNU_SLICE_STS.CTX_ALLOC -/
def Fld.TNU_SLICE_STS.CTX_ALLOC : Field := ⟨0x20300104, 1, 14, 0, .ro, 0x0⟩
/-- TNU_SLICE_PASID.PASID -/
def Fld.TNU_SLICE_PASID.PASID : Field := ⟨0x20300108, 1, 19, 0, .ro, 0x0⟩
/-- TNU_RST_CTL.GO -/
def Fld.TNU_RST_CTL.GO : Field := ⟨0x20300110, 1, 31, 31, .wo, 0x0⟩
/-- TNU_RST_CTL.MODE -/
def Fld.TNU_RST_CTL.MODE : Field := ⟨0x20300110, 1, 30, 30, .rw, 0x0⟩
/-- TNU_RST_CTL.SLICE -/
def Fld.TNU_RST_CTL.SLICE : Field := ⟨0x20300110, 1, 9, 0, .rw, 0x0⟩
/-- TNU_RST_STS.BUSY -/
def Fld.TNU_RST_STS.BUSY : Field := ⟨0x20300114, 1, 31, 31, .ro, 0x0⟩
/-- TNU_RST_STS.DONE -/
def Fld.TNU_RST_STS.DONE : Field := ⟨0x20300114, 1, 30, 30, .rw1c, 0x0⟩
/-- TNU_RST_STS.TIMED_OUT -/
def Fld.TNU_RST_STS.TIMED_OUT : Field := ⟨0x20300114, 1, 29, 29, .rw1c, 0x0⟩
/-- TNU_RST_STS.SLICE -/
def Fld.TNU_RST_STS.SLICE : Field := ⟨0x20300114, 1, 9, 0, .ro, 0x0⟩
/-- TNU_VIOL_STS.DOORBELL_PASID -/
def Fld.TNU_VIOL_STS.DOORBELL_PASID : Field := ⟨0x20300120, 1, 1, 1, .rw1c, 0x0⟩
/-- TNU_VIOL_STS.NS_OWNER -/
def Fld.TNU_VIOL_STS.NS_OWNER : Field := ⟨0x20300120, 1, 0, 0, .rw1c, 0x0⟩
/-- TNU_VIOL_SLICE.SLICE -/
def Fld.TNU_VIOL_SLICE.SLICE : Field := ⟨0x20300124, 1, 9, 0, .ro, 0x0⟩
/-- TNU_DLOG_STALL.TICKS -/
def Fld.TNU_DLOG_STALL.TICKS : Field := ⟨0x20300130, 1, 31, 0, .rc, 0x0⟩
/-- TNU_ADMIT_RD.MBPS -/
def Fld.TNU_ADMIT_RD.MBPS : Field := ⟨0x20300140, 1, 31, 0, .ro, 0x0⟩
/-- TNU_ADMIT_WR.MBPS -/
def Fld.TNU_ADMIT_WR.MBPS : Field := ⟨0x20300144, 1, 31, 0, .ro, 0x0⟩
/-- TNU_ADMIT_CMD.KIOPS -/
def Fld.TNU_ADMIT_CMD.KIOPS : Field := ⟨0x20300148, 1, 31, 0, .ro, 0x0⟩

/-- The fields of TNU. -/
def fieldsTnu : List Field :=
  [Fld.TNU_SLICE_SEL.SLICE, Fld.TNU_SLICE_STS.BOUND, Fld.TNU_SLICE_STS.PASID_VALID, Fld.TNU_SLICE_STS.BELOW_RD,
   Fld.TNU_SLICE_STS.BELOW_WR, Fld.TNU_SLICE_STS.BELOW_CMD, Fld.TNU_SLICE_STS.HELD_TOKENS, Fld.TNU_SLICE_STS.DIE_MOVE,
   Fld.TNU_SLICE_STS.QUIESCED, Fld.TNU_SLICE_STS.RESET_PEND, Fld.TNU_SLICE_STS.CTX_ALLOC, Fld.TNU_SLICE_PASID.PASID,
   Fld.TNU_RST_CTL.GO, Fld.TNU_RST_CTL.MODE, Fld.TNU_RST_CTL.SLICE, Fld.TNU_RST_STS.BUSY,
   Fld.TNU_RST_STS.DONE, Fld.TNU_RST_STS.TIMED_OUT, Fld.TNU_RST_STS.SLICE, Fld.TNU_VIOL_STS.DOORBELL_PASID,
   Fld.TNU_VIOL_STS.NS_OWNER, Fld.TNU_VIOL_SLICE.SLICE, Fld.TNU_DLOG_STALL.TICKS, Fld.TNU_ADMIT_RD.MBPS,
   Fld.TNU_ADMIT_WR.MBPS, Fld.TNU_ADMIT_CMD.KIOPS]

/-! GAL (Table 6.3) -/

/-- GAL_WIN_SEL.VIEW -/
def Fld.GAL_WIN_SEL.VIEW : Field := ⟨0x20400100, 1, 31, 31, .rw, 0x0⟩
/-- GAL_WIN_SEL.WIN -/
def Fld.GAL_WIN_SEL.WIN : Field := ⟨0x20400100, 1, 8, 0, .rw, 0x0⟩
/-- GAL_WIN_CTL.EN -/
def Fld.GAL_WIN_CTL.EN : Field := ⟨0x20400104, 1, 31, 31, .rw, 0x0⟩
/-- GAL_WIN_CTL.RD -/
def Fld.GAL_WIN_CTL.RD : Field := ⟨0x20400104, 1, 30, 30, .rw, 0x0⟩
/-- GAL_WIN_CTL.WR -/
def Fld.GAL_WIN_CTL.WR : Field := ⟨0x20400104, 1, 29, 29, .rw, 0x0⟩
/-- GAL_WIN_CTL.KIND -/
def Fld.GAL_WIN_CTL.KIND : Field := ⟨0x20400104, 1, 28, 26, .rw, 0x0⟩
/-- GAL_WIN_CTL.CLASS -/
def Fld.GAL_WIN_CTL.CLASS : Field := ⟨0x20400104, 1, 25, 24, .rw, 0x1⟩
/-- GAL_WIN_CTL.OWNER -/
def Fld.GAL_WIN_CTL.OWNER : Field := ⟨0x20400104, 1, 9, 0, .rw, 0x0⟩
/-- GAL_WIN_BASE.BASE_2M -/
def Fld.GAL_WIN_BASE.BASE_2M : Field := ⟨0x20400108, 1, 14, 0, .rw, 0x0⟩
/-- GAL_WIN_SIZE.SIZE_2M -/
def Fld.GAL_WIN_SIZE.SIZE_2M : Field := ⟨0x2040010C, 1, 15, 0, .rw, 0x1⟩
/-- GAL_WIN_REQID.MASK -/
def Fld.GAL_WIN_REQID.MASK : Field := ⟨0x20400110, 1, 31, 16, .rw, 0x0⟩
/-- GAL_WIN_REQID.REQID -/
def Fld.GAL_WIN_REQID.REQID : Field := ⟨0x20400110, 1, 15, 0, .rw, 0x0⟩
/-- GAL_WIN_NSID.NSID -/
def Fld.GAL_WIN_NSID.NSID : Field := ⟨0x20400114, 1, 31, 0, .rw, 0x0⟩
/-- GAL_WIN_LBA_LO.LBA_LO -/
def Fld.GAL_WIN_LBA_LO.LBA_LO : Field := ⟨0x20400118, 1, 31, 0, .rw, 0x0⟩
/-- GAL_WIN_LBA_HI.LBA_HI -/
def Fld.GAL_WIN_LBA_HI.LBA_HI : Field := ⟨0x2040011C, 1, 31, 0, .rw, 0x0⟩
/-- GAL_WIN_STAGE.MIB -/
def Fld.GAL_WIN_STAGE.MIB : Field := ⟨0x20400120, 1, 11, 0, .rw, 0x1⟩
/-- GAL_WIN_COMMIT.GO -/
def Fld.GAL_WIN_COMMIT.GO : Field := ⟨0x20400140, 1, 31, 31, .wo, 0x0⟩
/-- GAL_COMMIT_STS.STATUS -/
def Fld.GAL_COMMIT_STS.STATUS : Field := ⟨0x20400144, 1, 2, 0, .ro, 0x0⟩
/-- GAL_ERR_STS.PARTIAL_DROP -/
def Fld.GAL_ERR_STS.PARTIAL_DROP : Field := ⟨0x20400150, 1, 7, 7, .rw1c, 0x0⟩
/-- GAL_ERR_STS.FORCED -/
def Fld.GAL_ERR_STS.FORCED : Field := ⟨0x20400150, 1, 6, 6, .rw1c, 0x0⟩
/-- GAL_ERR_STS.CHANGING -/
def Fld.GAL_ERR_STS.CHANGING : Field := ⟨0x20400150, 1, 5, 5, .rw1c, 0x0⟩
/-- GAL_ERR_STS.OVERFLOW -/
def Fld.GAL_ERR_STS.OVERFLOW : Field := ⟨0x20400150, 1, 4, 4, .rw1c, 0x0⟩
/-- GAL_ERR_STS.POISON -/
def Fld.GAL_ERR_STS.POISON : Field := ⟨0x20400150, 1, 3, 3, .rw1c, 0x0⟩
/-- GAL_ERR_STS.ALIGN -/
def Fld.GAL_ERR_STS.ALIGN : Field := ⟨0x20400150, 1, 2, 2, .rw1c, 0x0⟩
/-- GAL_ERR_STS.PASID -/
def Fld.GAL_ERR_STS.PASID : Field := ⟨0x20400150, 1, 1, 1, .rw1c, 0x0⟩
/-- GAL_ERR_STS.OWNER -/
def Fld.GAL_ERR_STS.OWNER : Field := ⟨0x20400150, 1, 0, 0, .rw1c, 0x0⟩
/-- GAL_ERR_WIN.NONE -/
def Fld.GAL_ERR_WIN.NONE : Field := ⟨0x20400154, 1, 31, 31, .ro, 0x0⟩
/-- GAL_ERR_WIN.WIN -/
def Fld.GAL_ERR_WIN.WIN : Field := ⟨0x20400154, 1, 8, 0, .ro, 0x0⟩
/-- GAL_ERR_STS2.NO_WIN -/
def Fld.GAL_ERR_STS2.NO_WIN : Field := ⟨0x20400158, 1, 0, 0, .rw1c, 0x0⟩
/-- GAL_RT_STS.PANIC -/
def Fld.GAL_RT_STS.PANIC : Field := ⟨0x20400160, 1, 31, 31, .ro, 0x0⟩
/-- GAL_RT_STS.FILL_KIB -/
def Fld.GAL_RT_STS.FILL_KIB : Field := ⟨0x20400160, 1, 11, 0, .ro, 0x0⟩
/-- GAL_RT_PANIC_CNT.COUNT -/
def Fld.GAL_RT_PANIC_CNT.COUNT : Field := ⟨0x20400164, 1, 31, 0, .rc, 0x0⟩
/-- GAL_RT_HOLD.TICKS -/
def Fld.GAL_RT_HOLD.TICKS : Field := ⟨0x20400168, 1, 31, 0, .rc, 0x0⟩

/-- The fields of GAL. -/
def fieldsGal : List Field :=
  [Fld.GAL_WIN_SEL.VIEW, Fld.GAL_WIN_SEL.WIN, Fld.GAL_WIN_CTL.EN, Fld.GAL_WIN_CTL.RD,
   Fld.GAL_WIN_CTL.WR, Fld.GAL_WIN_CTL.KIND, Fld.GAL_WIN_CTL.CLASS, Fld.GAL_WIN_CTL.OWNER,
   Fld.GAL_WIN_BASE.BASE_2M, Fld.GAL_WIN_SIZE.SIZE_2M, Fld.GAL_WIN_REQID.MASK, Fld.GAL_WIN_REQID.REQID,
   Fld.GAL_WIN_NSID.NSID, Fld.GAL_WIN_LBA_LO.LBA_LO, Fld.GAL_WIN_LBA_HI.LBA_HI, Fld.GAL_WIN_STAGE.MIB,
   Fld.GAL_WIN_COMMIT.GO, Fld.GAL_COMMIT_STS.STATUS, Fld.GAL_ERR_STS.PARTIAL_DROP, Fld.GAL_ERR_STS.FORCED,
   Fld.GAL_ERR_STS.CHANGING, Fld.GAL_ERR_STS.OVERFLOW, Fld.GAL_ERR_STS.POISON, Fld.GAL_ERR_STS.ALIGN,
   Fld.GAL_ERR_STS.PASID, Fld.GAL_ERR_STS.OWNER, Fld.GAL_ERR_WIN.NONE, Fld.GAL_ERR_WIN.WIN,
   Fld.GAL_ERR_STS2.NO_WIN, Fld.GAL_RT_STS.PANIC, Fld.GAL_RT_STS.FILL_KIB, Fld.GAL_RT_PANIC_CNT.COUNT,
   Fld.GAL_RT_HOLD.TICKS]

/-! MXE (Table 7.10) -/

/-- MXE_MAP_STS.LOADED -/
def Fld.MXE_MAP_STS.LOADED : Field := ⟨0x20500100, 1, 31, 31, .ro, 0x0⟩
/-- MXE_MAP_STS.STRICT -/
def Fld.MXE_MAP_STS.STRICT : Field := ⟨0x20500100, 1, 30, 30, .ro, 0x1⟩
/-- MXE_MAP_STS.SCAN_RUN -/
def Fld.MXE_MAP_STS.SCAN_RUN : Field := ⟨0x20500100, 1, 29, 29, .ro, 0x0⟩
/-- MXE_SEG_PEND.COUNT -/
def Fld.MXE_SEG_PEND.COUNT : Field := ⟨0x20500104, 1, 31, 0, .ro, 0x0⟩
/-- MXE_DSN_LO.DSN_LO -/
def Fld.MXE_DSN_LO.DSN_LO : Field := ⟨0x20500108, 1, 31, 0, .ro, 0x0⟩
/-- MXE_DSN_HI.DSN_HI -/
def Fld.MXE_DSN_HI.DSN_HI : Field := ⟨0x2050010C, 1, 31, 0, .ro, 0x0⟩
/-- MXE_PSN_LO.PSN_LO -/
def Fld.MXE_PSN_LO.PSN_LO : Field := ⟨0x20500110, 1, 31, 0, .ro, 0x0⟩
/-- MXE_PSN_HI.PSN_HI -/
def Fld.MXE_PSN_HI.PSN_HI : Field := ⟨0x20500114, 1, 31, 0, .ro, 0x0⟩
/-- MXE_JRNL_STS.NAND_MIB -/
def Fld.MXE_JRNL_STS.NAND_MIB : Field := ⟨0x20500120, 1, 31, 16, .ro, 0x0⟩
/-- MXE_JRNL_STS.BUF_KIB -/
def Fld.MXE_JRNL_STS.BUF_KIB : Field := ⟨0x20500120, 1, 15, 0, .ro, 0x0⟩
/-- MXE_WAIT_STS.JRNL_FULL -/
def Fld.MXE_WAIT_STS.JRNL_FULL : Field := ⟨0x20500124, 1, 2, 2, .ro, 0x0⟩
/-- MXE_WAIT_STS.INFLIGHT_FULL -/
def Fld.MXE_WAIT_STS.INFLIGHT_FULL : Field := ⟨0x20500124, 1, 1, 1, .ro, 0x0⟩
/-- MXE_WAIT_STS.LOCK_FULL -/
def Fld.MXE_WAIT_STS.LOCK_FULL : Field := ⟨0x20500124, 1, 0, 0, .ro, 0x0⟩
/-- MXE_GC_DROP.COUNT -/
def Fld.MXE_GC_DROP.COUNT : Field := ⟨0x20500130, 1, 31, 0, .rc, 0x0⟩
/-- MXE_SUPERSEDED.COUNT -/
def Fld.MXE_SUPERSEDED.COUNT : Field := ⟨0x20500134, 1, 31, 0, .rc, 0x0⟩
/-- MXE_SPARE_STS.READ_ONLY -/
def Fld.MXE_SPARE_STS.READ_ONLY : Field := ⟨0x20500140, 1, 8, 8, .ro, 0x0⟩
/-- MXE_SPARE_STS.AVAIL_PCT -/
def Fld.MXE_SPARE_STS.AVAIL_PCT : Field := ⟨0x20500140, 1, 7, 0, .ro, 0x64⟩
/-- MXE_RETIRE_CNT.COUNT -/
def Fld.MXE_RETIRE_CNT.COUNT : Field := ⟨0x20500144, 1, 31, 0, .ro, 0x0⟩
/-- MXE_SCAN_STS.TRIM_LOST -/
def Fld.MXE_SCAN_STS.TRIM_LOST : Field := ⟨0x20500150, 1, 31, 31, .rw1c, 0x0⟩
/-- MXE_SCAN_STS.MODE -/
def Fld.MXE_SCAN_STS.MODE : Field := ⟨0x20500150, 1, 9, 8, .ro, 0x0⟩
/-- MXE_SCAN_STS.PASSES -/
def Fld.MXE_SCAN_STS.PASSES : Field := ⟨0x20500150, 1, 7, 4, .ro, 0x0⟩
/-- MXE_SCAN_STS.PASS -/
def Fld.MXE_SCAN_STS.PASS : Field := ⟨0x20500150, 1, 3, 0, .ro, 0x0⟩
/-- MXE_LZ_STS.FREE_PCT -/
def Fld.MXE_LZ_STS.FREE_PCT : Field := ⟨0x20500160, 1, 7, 0, .ro, 0x64⟩
/-- MXE_OPEN_BANDS.COUNT -/
def Fld.MXE_OPEN_BANDS.COUNT : Field := ⟨0x20500164, 1, 31, 0, .ro, 0x0⟩

/-- The fields of MXE. -/
def fieldsMxe : List Field :=
  [Fld.MXE_MAP_STS.LOADED, Fld.MXE_MAP_STS.STRICT, Fld.MXE_MAP_STS.SCAN_RUN, Fld.MXE_SEG_PEND.COUNT,
   Fld.MXE_DSN_LO.DSN_LO, Fld.MXE_DSN_HI.DSN_HI, Fld.MXE_PSN_LO.PSN_LO, Fld.MXE_PSN_HI.PSN_HI,
   Fld.MXE_JRNL_STS.NAND_MIB, Fld.MXE_JRNL_STS.BUF_KIB, Fld.MXE_WAIT_STS.JRNL_FULL, Fld.MXE_WAIT_STS.INFLIGHT_FULL,
   Fld.MXE_WAIT_STS.LOCK_FULL, Fld.MXE_GC_DROP.COUNT, Fld.MXE_SUPERSEDED.COUNT, Fld.MXE_SPARE_STS.READ_ONLY,
   Fld.MXE_SPARE_STS.AVAIL_PCT, Fld.MXE_RETIRE_CNT.COUNT, Fld.MXE_SCAN_STS.TRIM_LOST, Fld.MXE_SCAN_STS.MODE,
   Fld.MXE_SCAN_STS.PASSES, Fld.MXE_SCAN_STS.PASS, Fld.MXE_LZ_STS.FREE_PCT, Fld.MXE_OPEN_BANDS.COUNT]

/-! DSC (Table 8.6) -/

/-- DSC_BUDGET_STS.BUDGET -/
def Fld.DSC_BUDGET_STS.BUDGET : Field := ⟨0x20600100, 1, 31, 16, .ro, 0x0⟩
/-- DSC_BUDGET_STS.HELD -/
def Fld.DSC_BUDGET_STS.HELD : Field := ⟨0x20600100, 1, 15, 0, .ro, 0x0⟩
/-- DSC_BUDGET_CTL.HOLD_PE -/
def Fld.DSC_BUDGET_CTL.HOLD_PE : Field := ⟨0x20600104, 1, 31, 31, .rw, 0x0⟩
/-- DSC_BUDGET_EVT.OVER -/
def Fld.DSC_BUDGET_EVT.OVER : Field := ⟨0x20600108, 1, 2, 2, .rw1c, 0x0⟩
/-- DSC_BUDGET_EVT.STEP2 -/
def Fld.DSC_BUDGET_EVT.STEP2 : Field := ⟨0x20600108, 1, 1, 1, .rw1c, 0x0⟩
/-- DSC_BUDGET_EVT.STEP1 -/
def Fld.DSC_BUDGET_EVT.STEP1 : Field := ⟨0x20600108, 1, 0, 0, .rw1c, 0x0⟩
/-- DSC_THERM_STS.TJ -/
def Fld.DSC_THERM_STS.TJ : Field := ⟨0x2060010C, 1, 23, 16, .ro, 0x0⟩
/-- DSC_THERM_STS.STEP -/
def Fld.DSC_THERM_STS.STEP : Field := ⟨0x2060010C, 1, 1, 0, .ro, 0x0⟩
/-- DSC_DIE_SEL.DIE -/
def Fld.DSC_DIE_SEL.DIE : Field := ⟨0x20600110, 1, 9, 0, .rw, 0x0⟩
/-- DSC_DIE_STS.STATE -/
def Fld.DSC_DIE_STS.STATE : Field := ⟨0x20600114, 1, 31, 29, .ro, 0x0⟩
/-- DSC_DIE_STS.QUEUED -/
def Fld.DSC_DIE_STS.QUEUED : Field := ⟨0x20600114, 1, 28, 26, .ro, 0x0⟩
/-- DSC_DIE_STS.CLASS -/
def Fld.DSC_DIE_STS.CLASS : Field := ⟨0x20600114, 1, 25, 23, .ro, 0x0⟩
/-- DSC_DIE_STS.KIND -/
def Fld.DSC_DIE_STS.KIND : Field := ⟨0x20600114, 1, 22, 20, .ro, 0x0⟩
/-- DSC_DIE_STS.SUSP_CNT -/
def Fld.DSC_DIE_STS.SUSP_CNT : Field := ⟨0x20600114, 1, 19, 16, .ro, 0x0⟩
/-- DSC_DIE_CTL.OFFLINE -/
def Fld.DSC_DIE_CTL.OFFLINE : Field := ⟨0x20600118, 1, 31, 31, .rw, 0x0⟩
/-- DSC_OPS_STS.IN_FLIGHT -/
def Fld.DSC_OPS_STS.IN_FLIGHT : Field := ⟨0x20600120, 1, 13, 0, .ro, 0x0⟩
/-- DSC_ADMIT_WAIT.TICKS -/
def Fld.DSC_ADMIT_WAIT.TICKS : Field := ⟨0x20600124, 1, 31, 0, .rc, 0x0⟩
/-- DSC_SUSP_CNT.COUNT -/
def Fld.DSC_SUSP_CNT.COUNT : Field := ⟨0x20600128, 1, 31, 0, .rc, 0x0⟩
/-- DSC_SUSP_DENY.COUNT -/
def Fld.DSC_SUSP_DENY.COUNT : Field := ⟨0x2060012C, 1, 31, 0, .rc, 0x0⟩
/-- DSC_TOKEN_WAIT.TICKS -/
def Fld.DSC_TOKEN_WAIT.TICKS : Field := ⟨0x20600130, 1, 31, 0, .rc, 0x0⟩
/-- DSC_STAGGER_WAIT.TICKS -/
def Fld.DSC_STAGGER_WAIT.TICKS : Field := ⟨0x20600134, 1, 31, 0, .rc, 0x0⟩
/-- DSC_PROMOTE_CNT.COUNT -/
def Fld.DSC_PROMOTE_CNT.COUNT : Field := ⟨0x20600138, 1, 31, 0, .rc, 0x0⟩

/-- The fields of DSC. -/
def fieldsDsc : List Field :=
  [Fld.DSC_BUDGET_STS.BUDGET, Fld.DSC_BUDGET_STS.HELD, Fld.DSC_BUDGET_CTL.HOLD_PE, Fld.DSC_BUDGET_EVT.OVER,
   Fld.DSC_BUDGET_EVT.STEP2, Fld.DSC_BUDGET_EVT.STEP1, Fld.DSC_THERM_STS.TJ, Fld.DSC_THERM_STS.STEP,
   Fld.DSC_DIE_SEL.DIE, Fld.DSC_DIE_STS.STATE, Fld.DSC_DIE_STS.QUEUED, Fld.DSC_DIE_STS.CLASS,
   Fld.DSC_DIE_STS.KIND, Fld.DSC_DIE_STS.SUSP_CNT, Fld.DSC_DIE_CTL.OFFLINE, Fld.DSC_OPS_STS.IN_FLIGHT,
   Fld.DSC_ADMIT_WAIT.TICKS, Fld.DSC_SUSP_CNT.COUNT, Fld.DSC_SUSP_DENY.COUNT, Fld.DSC_TOKEN_WAIT.TICKS,
   Fld.DSC_STAGGER_WAIT.TICKS, Fld.DSC_PROMOTE_CNT.COUNT]

/-! FCA (Table 9.6) -/

/-- FCA_CH_SEL.CH -/
def Fld.FCA_CH_SEL.CH : Field := ⟨0x20700100, 1, 4, 0, .rw, 0x0⟩
/-- FCA_CH_STS.TRAINED -/
def Fld.FCA_CH_STS.TRAINED : Field := ⟨0x20700104, 1, 31, 31, .ro, 0x0⟩
/-- FCA_CH_STS.MULTI_DROP -/
def Fld.FCA_CH_STS.MULTI_DROP : Field := ⟨0x20700104, 1, 30, 30, .ro, 0x0⟩
/-- FCA_CH_STS.MODE -/
def Fld.FCA_CH_STS.MODE : Field := ⟨0x20700104, 1, 29, 28, .ro, 0x0⟩
/-- FCA_CH_STS.DIES -/
def Fld.FCA_CH_STS.DIES : Field := ⟨0x20700104, 1, 21, 16, .ro, 0x0⟩
/-- FCA_CH_STS.MTS -/
def Fld.FCA_CH_STS.MTS : Field := ⟨0x20700104, 1, 12, 0, .ro, 0x0⟩
/-- FCA_CH_PRESENT.POS -/
def Fld.FCA_CH_PRESENT.POS : Field := ⟨0x20700108, 1, 31, 0, .ro, 0x0⟩
/-- FCA_CH_EVT.MISMATCH -/
def Fld.FCA_CH_EVT.MISMATCH : Field := ⟨0x2070010C, 1, 4, 4, .rw1c, 0x0⟩
/-- FCA_CH_EVT.TIMEOUT -/
def Fld.FCA_CH_EVT.TIMEOUT : Field := ⟨0x2070010C, 1, 3, 3, .rw1c, 0x0⟩
/-- FCA_CH_EVT.CH_FAIL -/
def Fld.FCA_CH_EVT.CH_FAIL : Field := ⟨0x2070010C, 1, 2, 2, .rw1c, 0x0⟩
/-- FCA_CH_EVT.TRAIN_FAIL -/
def Fld.FCA_CH_EVT.TRAIN_FAIL : Field := ⟨0x2070010C, 1, 1, 1, .rw1c, 0x0⟩
/-- FCA_CH_EVT.RATE_DOWN -/
def Fld.FCA_CH_EVT.RATE_DOWN : Field := ⟨0x2070010C, 1, 0, 0, .rw1c, 0x0⟩
/-- FCA_TRAIN_CTL.GO -/
def Fld.FCA_TRAIN_CTL.GO : Field := ⟨0x20700110, 1, 31, 31, .wo, 0x0⟩
/-- FCA_GUARD_STS.DUMP -/
def Fld.FCA_GUARD_STS.DUMP : Field := ⟨0x20700120, 1, 4, 4, .ro, 0x0⟩
/-- FCA_GUARD_STS.TEMP -/
def Fld.FCA_GUARD_STS.TEMP : Field := ⟨0x20700120, 1, 3, 3, .ro, 0x0⟩
/-- FCA_GUARD_STS.PWRFAIL -/
def Fld.FCA_GUARD_STS.PWRFAIL : Field := ⟨0x20700120, 1, 2, 2, .ro, 0x0⟩
/-- FCA_GUARD_STS.VDDQ -/
def Fld.FCA_GUARD_STS.VDDQ : Field := ⟨0x20700120, 1, 1, 1, .ro, 0x0⟩
/-- FCA_GUARD_STS.VIN -/
def Fld.FCA_GUARD_STS.VIN : Field := ⟨0x20700120, 1, 0, 0, .ro, 0x0⟩
/-- FCA_GUARD_EVT.COND -/
def Fld.FCA_GUARD_EVT.COND : Field := ⟨0x20700124, 1, 3, 0, .rw1c, 0x0⟩
/-- FCA_GUARD_CNT.REPLACED -/
def Fld.FCA_GUARD_CNT.REPLACED : Field := ⟨0x20700128, 1, 31, 16, .rc, 0x0⟩
/-- FCA_GUARD_CNT.WITHHELD -/
def Fld.FCA_GUARD_CNT.WITHHELD : Field := ⟨0x20700128, 1, 15, 0, .rc, 0x0⟩
/-- FCA_TEMP_SEL.DIE -/
def Fld.FCA_TEMP_SEL.DIE : Field := ⟨0x20700130, 1, 9, 0, .rw, 0x0⟩
/-- FCA_TEMP_STS.VALID -/
def Fld.FCA_TEMP_STS.VALID : Field := ⟨0x20700134, 1, 31, 31, .ro, 0x0⟩
/-- FCA_TEMP_STS.TEMP_C -/
def Fld.FCA_TEMP_STS.TEMP_C : Field := ⟨0x20700134, 1, 7, 0, .ro, 0x0⟩
/-- FCA_VERIFY_PEND.PAGES -/
def Fld.FCA_VERIFY_PEND.PAGES : Field := ⟨0x20700140, 1, 15, 0, .ro, 0x0⟩
/-- FCA_VERIFY_FAIL.COUNT -/
def Fld.FCA_VERIFY_FAIL.COUNT : Field := ⟨0x20700144, 1, 31, 0, .rc, 0x0⟩

/-- The fields of FCA. -/
def fieldsFca : List Field :=
  [Fld.FCA_CH_SEL.CH, Fld.FCA_CH_STS.TRAINED, Fld.FCA_CH_STS.MULTI_DROP, Fld.FCA_CH_STS.MODE,
   Fld.FCA_CH_STS.DIES, Fld.FCA_CH_STS.MTS, Fld.FCA_CH_PRESENT.POS, Fld.FCA_CH_EVT.MISMATCH,
   Fld.FCA_CH_EVT.TIMEOUT, Fld.FCA_CH_EVT.CH_FAIL, Fld.FCA_CH_EVT.TRAIN_FAIL, Fld.FCA_CH_EVT.RATE_DOWN,
   Fld.FCA_TRAIN_CTL.GO, Fld.FCA_GUARD_STS.DUMP, Fld.FCA_GUARD_STS.TEMP, Fld.FCA_GUARD_STS.PWRFAIL,
   Fld.FCA_GUARD_STS.VDDQ, Fld.FCA_GUARD_STS.VIN, Fld.FCA_GUARD_EVT.COND, Fld.FCA_GUARD_CNT.REPLACED,
   Fld.FCA_GUARD_CNT.WITHHELD, Fld.FCA_TEMP_SEL.DIE, Fld.FCA_TEMP_STS.VALID, Fld.FCA_TEMP_STS.TEMP_C,
   Fld.FCA_VERIFY_PEND.PAGES, Fld.FCA_VERIFY_FAIL.COUNT]

/-! CDX (Table 10.9) -/

/-- CDX_ENG_STS.HARD_BUSY -/
def Fld.CDX_ENG_STS.HARD_BUSY : Field := ⟨0x20800100, 1, 29, 24, .ro, 0x0⟩
/-- CDX_ENG_STS.SOFT_BUSY -/
def Fld.CDX_ENG_STS.SOFT_BUSY : Field := ⟨0x20800100, 1, 20, 16, .ro, 0x0⟩
/-- CDX_ENG_STS.JOINT_BUSY -/
def Fld.CDX_ENG_STS.JOINT_BUSY : Field := ⟨0x20800100, 1, 10, 8, .ro, 0x0⟩
/-- CDX_ENG_STS.VERIFY_BUSY -/
def Fld.CDX_ENG_STS.VERIFY_BUSY : Field := ⟨0x20800100, 1, 3, 0, .ro, 0x0⟩
/-- CDX_RECOV_WAIT.SOFT_Q -/
def Fld.CDX_RECOV_WAIT.SOFT_Q : Field := ⟨0x20800104, 1, 31, 16, .ro, 0x0⟩
/-- CDX_RECOV_WAIT.JOINT_Q -/
def Fld.CDX_RECOV_WAIT.JOINT_Q : Field := ⟨0x20800104, 1, 15, 0, .ro, 0x0⟩
/-- CDX_LVL_SEL.LEVEL -/
def Fld.CDX_LVL_SEL.LEVEL : Field := ⟨0x20800110, 1, 2, 0, .rw, 0x0⟩
/-- CDX_LVL_CNT.COUNT -/
def Fld.CDX_LVL_CNT.COUNT : Field := ⟨0x20800114, 1, 31, 0, .rc, 0x0⟩
/-- CDX_THETA_LO.THETA_LO -/
def Fld.CDX_THETA_LO.THETA_LO : Field := ⟨0x20800120, 1, 31, 0, .ro, 0x0⟩
/-- CDX_THETA_HI.THETA_HI -/
def Fld.CDX_THETA_HI.THETA_HI : Field := ⟨0x20800124, 1, 31, 0, .ro, 0x0⟩
/-- CDX_THETA_STS.OFF_EST -/
def Fld.CDX_THETA_STS.OFF_EST : Field := ⟨0x20800128, 1, 31, 31, .ro, 0x0⟩
/-- CDX_THETA_STS.T_MEAN -/
def Fld.CDX_THETA_STS.T_MEAN : Field := ⟨0x20800128, 1, 7, 0, .ro, 0x0⟩
/-- CDX_WEAR_STS.EW98 -/
def Fld.CDX_WEAR_STS.EW98 : Field := ⟨0x20800130, 1, 10, 10, .ro, 0x0⟩
/-- CDX_WEAR_STS.EW90 -/
def Fld.CDX_WEAR_STS.EW90 : Field := ⟨0x20800130, 1, 9, 9, .ro, 0x0⟩
/-- CDX_WEAR_STS.EW80 -/
def Fld.CDX_WEAR_STS.EW80 : Field := ⟨0x20800130, 1, 8, 8, .ro, 0x0⟩
/-- CDX_WEAR_STS.PCT_USED -/
def Fld.CDX_WEAR_STS.PCT_USED : Field := ⟨0x20800130, 1, 7, 0, .ro, 0x0⟩
/-- CDX_KEY_CTL.GO -/
def Fld.CDX_KEY_CTL.GO : Field := ⟨0x20800140, 1, 31, 31, .wo, 0x0⟩
/-- CDX_KEY_CTL.OP -/
def Fld.CDX_KEY_CTL.OP : Field := ⟨0x20800140, 1, 13, 12, .rw, 0x0⟩
/-- CDX_KEY_CTL.SLOT -/
def Fld.CDX_KEY_CTL.SLOT : Field := ⟨0x20800140, 1, 11, 0, .rw, 0x0⟩
/-- CDX_KEY_STS.BUSY -/
def Fld.CDX_KEY_STS.BUSY : Field := ⟨0x20800144, 1, 31, 31, .ro, 0x0⟩
/-- CDX_KEY_STS.RESULT -/
def Fld.CDX_KEY_STS.RESULT : Field := ⟨0x20800144, 1, 1, 0, .ro, 0x0⟩
/-- CDX_POISON_CNT.REFUSED -/
def Fld.CDX_POISON_CNT.REFUSED : Field := ⟨0x20800150, 1, 31, 16, .rc, 0x0⟩
/-- CDX_POISON_CNT.GUARD_FIX -/
def Fld.CDX_POISON_CNT.GUARD_FIX : Field := ⟨0x20800150, 1, 15, 0, .rc, 0x0⟩
/-- CDX_LOSTFILL_CNT.COUNT -/
def Fld.CDX_LOSTFILL_CNT.COUNT : Field := ⟨0x20800154, 1, 31, 0, .rc, 0x0⟩
/-- CDX_MISDIR_CNT.COUNT -/
def Fld.CDX_MISDIR_CNT.COUNT : Field := ⟨0x20800158, 1, 31, 0, .rc, 0x0⟩
/-- CDX_SCRUB_STS.WINDOW_OPEN -/
def Fld.CDX_SCRUB_STS.WINDOW_OPEN : Field := ⟨0x20800160, 1, 31, 31, .ro, 0x0⟩
/-- CDX_SCRUB_STS.PASS_PCT -/
def Fld.CDX_SCRUB_STS.PASS_PCT : Field := ⟨0x20800160, 1, 7, 0, .ro, 0x0⟩
/-- CDX_REFRESH_CNT.COUNT -/
def Fld.CDX_REFRESH_CNT.COUNT : Field := ⟨0x20800164, 1, 31, 0, .rc, 0x0⟩
/-- CDX_KEY_BUF.WORD -/
def Fld.CDX_KEY_BUF.WORD : Field := ⟨0x20800200, 24, 31, 0, .rw, 0x0⟩

/-- The fields of CDX. -/
def fieldsCdx : List Field :=
  [Fld.CDX_ENG_STS.HARD_BUSY, Fld.CDX_ENG_STS.SOFT_BUSY, Fld.CDX_ENG_STS.JOINT_BUSY, Fld.CDX_ENG_STS.VERIFY_BUSY,
   Fld.CDX_RECOV_WAIT.SOFT_Q, Fld.CDX_RECOV_WAIT.JOINT_Q, Fld.CDX_LVL_SEL.LEVEL, Fld.CDX_LVL_CNT.COUNT,
   Fld.CDX_THETA_LO.THETA_LO, Fld.CDX_THETA_HI.THETA_HI, Fld.CDX_THETA_STS.OFF_EST, Fld.CDX_THETA_STS.T_MEAN,
   Fld.CDX_WEAR_STS.EW98, Fld.CDX_WEAR_STS.EW90, Fld.CDX_WEAR_STS.EW80, Fld.CDX_WEAR_STS.PCT_USED,
   Fld.CDX_KEY_CTL.GO, Fld.CDX_KEY_CTL.OP, Fld.CDX_KEY_CTL.SLOT, Fld.CDX_KEY_STS.BUSY,
   Fld.CDX_KEY_STS.RESULT, Fld.CDX_POISON_CNT.REFUSED, Fld.CDX_POISON_CNT.GUARD_FIX, Fld.CDX_LOSTFILL_CNT.COUNT,
   Fld.CDX_MISDIR_CNT.COUNT, Fld.CDX_SCRUB_STS.WINDOW_OPEN, Fld.CDX_SCRUB_STS.PASS_PCT, Fld.CDX_REFRESH_CNT.COUNT,
   Fld.CDX_KEY_BUF.WORD]

/-! SPE (Table 11.7) -/

/-- SPE_ACC_STS.FREE -/
def Fld.SPE_ACC_STS.FREE : Field := ⟨0x20900100, 1, 25, 16, .ro, 0x0⟩
/-- SPE_ACC_STS.IN_USE -/
def Fld.SPE_ACC_STS.IN_USE : Field := ⟨0x20900100, 1, 9, 0, .ro, 0x0⟩
/-- SPE_STRIPE_STS.IN_FLIGHT -/
def Fld.SPE_STRIPE_STS.IN_FLIGHT : Field := ⟨0x20900104, 1, 16, 0, .ro, 0x0⟩
/-- SPE_ACC_WAIT.TICKS -/
def Fld.SPE_ACC_WAIT.TICKS : Field := ⟨0x20900108, 1, 31, 0, .rc, 0x0⟩
/-- SPE_PAD_CNT.COUNT -/
def Fld.SPE_PAD_CNT.COUNT : Field := ⟨0x2090010C, 1, 31, 0, .rc, 0x0⟩
/-- SPE_SJ_STS.COPY_A_OK -/
def Fld.SPE_SJ_STS.COPY_A_OK : Field := ⟨0x20900110, 1, 31, 31, .ro, 0x0⟩
/-- SPE_SJ_STS.COPY_B_OK -/
def Fld.SPE_SJ_STS.COPY_B_OK : Field := ⟨0x20900110, 1, 30, 30, .ro, 0x0⟩
/-- SPE_SJ_STS.SRAM_OK -/
def Fld.SPE_SJ_STS.SRAM_OK : Field := ⟨0x20900110, 1, 29, 29, .ro, 0x0⟩
/-- SPE_SJ_STS.REMIRROR -/
def Fld.SPE_SJ_STS.REMIRROR : Field := ⟨0x20900110, 1, 28, 28, .ro, 0x0⟩
/-- SPE_SJ_DIES.DIE_B -/
def Fld.SPE_SJ_DIES.DIE_B : Field := ⟨0x20900114, 1, 25, 16, .ro, 0x0⟩
/-- SPE_SJ_DIES.DIE_A -/
def Fld.SPE_SJ_DIES.DIE_A : Field := ⟨0x20900114, 1, 9, 0, .ro, 0x0⟩
/-- SPE_SJ_EVT.ALL_LOST -/
def Fld.SPE_SJ_EVT.ALL_LOST : Field := ⟨0x20900118, 1, 2, 2, .rw1c, 0x0⟩
/-- SPE_SJ_EVT.NAND_BOTH -/
def Fld.SPE_SJ_EVT.NAND_BOTH : Field := ⟨0x20900118, 1, 1, 1, .rw1c, 0x0⟩
/-- SPE_SJ_EVT.COPY_LOST -/
def Fld.SPE_SJ_EVT.COPY_LOST : Field := ⟨0x20900118, 1, 0, 0, .rw1c, 0x0⟩
/-- SPE_RB_CTL.GO -/
def Fld.SPE_RB_CTL.GO : Field := ⟨0x20900120, 1, 31, 31, .wo, 0x0⟩
/-- SPE_RB_CTL.PAUSE -/
def Fld.SPE_RB_CTL.PAUSE : Field := ⟨0x20900120, 1, 30, 30, .rw, 0x0⟩
/-- SPE_RB_STS.ACTIVE -/
def Fld.SPE_RB_STS.ACTIVE : Field := ⟨0x20900124, 1, 31, 31, .ro, 0x0⟩
/-- SPE_RB_STS.RAISED -/
def Fld.SPE_RB_STS.RAISED : Field := ⟨0x20900124, 1, 30, 30, .ro, 0x0⟩
/-- SPE_RB_STS.PHASE2 -/
def Fld.SPE_RB_STS.PHASE2 : Field := ⟨0x20900124, 1, 29, 29, .ro, 0x0⟩
/-- SPE_RB_STS.PCT -/
def Fld.SPE_RB_STS.PCT : Field := ⟨0x20900124, 1, 6, 0, .ro, 0x0⟩
/-- SPE_RB_FAILED.COUNT -/
def Fld.SPE_RB_FAILED.COUNT : Field := ⟨0x20900128, 1, 10, 0, .ro, 0x0⟩
/-- SPE_RB_LOST.COUNT -/
def Fld.SPE_RB_LOST.COUNT : Field := ⟨0x2090012C, 1, 31, 0, .rc, 0x0⟩
/-- SPE_NARROW_CNT.COUNT -/
def Fld.SPE_NARROW_CNT.COUNT : Field := ⟨0x20900130, 1, 31, 0, .rc, 0x0⟩
/-- SPE_L5_CNT.FAIL -/
def Fld.SPE_L5_CNT.FAIL : Field := ⟨0x20900134, 1, 31, 16, .rc, 0x0⟩
/-- SPE_L5_CNT.OK -/
def Fld.SPE_L5_CNT.OK : Field := ⟨0x20900134, 1, 15, 0, .rc, 0x0⟩
/-- SPE_LEL_STS.OVERFLOW -/
def Fld.SPE_LEL_STS.OVERFLOW : Field := ⟨0x20900140, 1, 31, 31, .ro, 0x0⟩
/-- SPE_LEL_STS.ENTRIES -/
def Fld.SPE_LEL_STS.ENTRIES : Field := ⟨0x20900140, 1, 20, 0, .ro, 0x0⟩
/-- SPE_DEGRADED.BANDS -/
def Fld.SPE_DEGRADED.BANDS : Field := ⟨0x20900144, 1, 31, 0, .ro, 0x0⟩
/-- SPE_FAILED_MASK.DIES -/
def Fld.SPE_FAILED_MASK.DIES : Field := ⟨0x20900200, 32, 31, 0, .ro, 0x0⟩

/-- The fields of SPE. -/
def fieldsSpe : List Field :=
  [Fld.SPE_ACC_STS.FREE, Fld.SPE_ACC_STS.IN_USE, Fld.SPE_STRIPE_STS.IN_FLIGHT, Fld.SPE_ACC_WAIT.TICKS,
   Fld.SPE_PAD_CNT.COUNT, Fld.SPE_SJ_STS.COPY_A_OK, Fld.SPE_SJ_STS.COPY_B_OK, Fld.SPE_SJ_STS.SRAM_OK,
   Fld.SPE_SJ_STS.REMIRROR, Fld.SPE_SJ_DIES.DIE_B, Fld.SPE_SJ_DIES.DIE_A, Fld.SPE_SJ_EVT.ALL_LOST,
   Fld.SPE_SJ_EVT.NAND_BOTH, Fld.SPE_SJ_EVT.COPY_LOST, Fld.SPE_RB_CTL.GO, Fld.SPE_RB_CTL.PAUSE,
   Fld.SPE_RB_STS.ACTIVE, Fld.SPE_RB_STS.RAISED, Fld.SPE_RB_STS.PHASE2, Fld.SPE_RB_STS.PCT,
   Fld.SPE_RB_FAILED.COUNT, Fld.SPE_RB_LOST.COUNT, Fld.SPE_NARROW_CNT.COUNT, Fld.SPE_L5_CNT.FAIL,
   Fld.SPE_L5_CNT.OK, Fld.SPE_LEL_STS.OVERFLOW, Fld.SPE_LEL_STS.ENTRIES, Fld.SPE_DEGRADED.BANDS,
   Fld.SPE_FAILED_MASK.DIES]

/-! BPM (Table 13.4) -/

/-- BPM_POOL_SEL.POOL -/
def Fld.BPM_POOL_SEL.POOL : Field := ⟨0x20A00100, 1, 2, 0, .rw, 0x0⟩
/-- BPM_POOL_CFG.COUNT -/
def Fld.BPM_POOL_CFG.COUNT : Field := ⟨0x20A00104, 1, 31, 16, .ro, 0x4000⟩
/-- BPM_POOL_CFG.BASE_64K -/
def Fld.BPM_POOL_CFG.BASE_64K : Field := ⟨0x20A00104, 1, 15, 0, .ro, 0x0⟩
/-- BPM_POOL_STS.FREE -/
def Fld.BPM_POOL_STS.FREE : Field := ⟨0x20A00108, 1, 31, 16, .ro, 0x4000⟩
/-- BPM_POOL_STS.WAITERS -/
def Fld.BPM_POOL_STS.WAITERS : Field := ⟨0x20A00108, 1, 15, 0, .ro, 0x0⟩
/-- BPM_POOL_RSV.RSV_FREE -/
def Fld.BPM_POOL_RSV.RSV_FREE : Field := ⟨0x20A0010C, 1, 31, 16, .ro, 0x0⟩
/-- BPM_POOL_RSV.RETIRED -/
def Fld.BPM_POOL_RSV.RETIRED : Field := ⟨0x20A0010C, 1, 15, 0, .ro, 0x0⟩
/-- BPM_ALLOC_WAIT.TICKS -/
def Fld.BPM_ALLOC_WAIT.TICKS : Field := ⟨0x20A00110, 1, 31, 0, .rc, 0x0⟩
/-- BPM_SPILL_CNT.COUNT -/
def Fld.BPM_SPILL_CNT.COUNT : Field := ⟨0x20A00114, 1, 31, 0, .rc, 0x0⟩
/-- BPM_SLICE_HOLD.TICKS -/
def Fld.BPM_SLICE_HOLD.TICKS : Field := ⟨0x20A00118, 1, 31, 0, .rc, 0x0⟩
/-- BPM_ECC_CNT.CORR -/
def Fld.BPM_ECC_CNT.CORR : Field := ⟨0x20A00120, 1, 31, 16, .rc, 0x0⟩
/-- BPM_ECC_CNT.UNCORR -/
def Fld.BPM_ECC_CNT.UNCORR : Field := ⟨0x20A00120, 1, 15, 0, .rc, 0x0⟩
/-- BPM_FREE_ERR.NOT_OWNER -/
def Fld.BPM_FREE_ERR.NOT_OWNER : Field := ⟨0x20A00124, 1, 3, 3, .rw1c, 0x0⟩
/-- BPM_FREE_ERR.STATE -/
def Fld.BPM_FREE_ERR.STATE : Field := ⟨0x20A00124, 1, 2, 2, .rw1c, 0x0⟩
/-- BPM_FREE_ERR.GEN -/
def Fld.BPM_FREE_ERR.GEN : Field := ⟨0x20A00124, 1, 1, 1, .rw1c, 0x0⟩
/-- BPM_FREE_ERR.BAD_HANDLE -/
def Fld.BPM_FREE_ERR.BAD_HANDLE : Field := ⟨0x20A00124, 1, 0, 0, .rw1c, 0x0⟩
/-- BPM_FREE_ERR_INFO.UNIT -/
def Fld.BPM_FREE_ERR_INFO.UNIT : Field := ⟨0x20A00128, 1, 28, 24, .ro, 0x0⟩
/-- BPM_FREE_ERR_INFO.HANDLE -/
def Fld.BPM_FREE_ERR_INFO.HANDLE : Field := ⟨0x20A00128, 1, 23, 0, .ro, 0x0⟩
/-- BPM_DESC_SEL.HANDLE -/
def Fld.BPM_DESC_SEL.HANDLE : Field := ⟨0x20A00130, 1, 23, 0, .rw, 0x0⟩
/-- BPM_DESC_LO.DESC_LO -/
def Fld.BPM_DESC_LO.DESC_LO : Field := ⟨0x20A00134, 1, 31, 0, .ro, 0x0⟩
/-- BPM_DESC_HI.DESC_HI -/
def Fld.BPM_DESC_HI.DESC_HI : Field := ⟨0x20A00138, 1, 31, 0, .ro, 0x0⟩

/-- The fields of BPM. -/
def fieldsBpm : List Field :=
  [Fld.BPM_POOL_SEL.POOL, Fld.BPM_POOL_CFG.COUNT, Fld.BPM_POOL_CFG.BASE_64K, Fld.BPM_POOL_STS.FREE,
   Fld.BPM_POOL_STS.WAITERS, Fld.BPM_POOL_RSV.RSV_FREE, Fld.BPM_POOL_RSV.RETIRED, Fld.BPM_ALLOC_WAIT.TICKS,
   Fld.BPM_SPILL_CNT.COUNT, Fld.BPM_SLICE_HOLD.TICKS, Fld.BPM_ECC_CNT.CORR, Fld.BPM_ECC_CNT.UNCORR,
   Fld.BPM_FREE_ERR.NOT_OWNER, Fld.BPM_FREE_ERR.STATE, Fld.BPM_FREE_ERR.GEN, Fld.BPM_FREE_ERR.BAD_HANDLE,
   Fld.BPM_FREE_ERR_INFO.UNIT, Fld.BPM_FREE_ERR_INFO.HANDLE, Fld.BPM_DESC_SEL.HANDLE, Fld.BPM_DESC_LO.DESC_LO,
   Fld.BPM_DESC_HI.DESC_HI]

/-! DMC (Table 14.4) -/

/-- DMC_CFG_STS.TRAINED -/
def Fld.DMC_CFG_STS.TRAINED : Field := ⟨0x20B00100, 1, 31, 31, .ro, 0x0⟩
/-- DMC_CFG_STS.CH_DEAD -/
def Fld.DMC_CFG_STS.CH_DEAD : Field := ⟨0x20B00100, 1, 30, 30, .ro, 0x0⟩
/-- DMC_CFG_STS.CID_BITS -/
def Fld.DMC_CFG_STS.CID_BITS : Field := ⟨0x20B00100, 1, 27, 25, .ro, 0x0⟩
/-- DMC_CFG_STS.RANKS -/
def Fld.DMC_CFG_STS.RANKS : Field := ⟨0x20B00100, 1, 24, 24, .ro, 0x0⟩
/-- DMC_CFG_STS.DENSITY -/
def Fld.DMC_CFG_STS.DENSITY : Field := ⟨0x20B00100, 1, 23, 23, .ro, 0x0⟩
/-- DMC_CFG_STS.CH_MASK -/
def Fld.DMC_CFG_STS.CH_MASK : Field := ⟨0x20B00100, 1, 19, 16, .ro, 0x0⟩
/-- DMC_CFG_STS.MTS -/
def Fld.DMC_CFG_STS.MTS : Field := ⟨0x20B00100, 1, 15, 0, .ro, 0x0⟩
/-- DMC_PANIC_STS.PANIC -/
def Fld.DMC_PANIC_STS.PANIC : Field := ⟨0x20B00104, 1, 31, 31, .ro, 0x0⟩
/-- DMC_PANIC_TICKS.TICKS -/
def Fld.DMC_PANIC_TICKS.TICKS : Field := ⟨0x20B00108, 1, 31, 0, .rc, 0x0⟩
/-- DMC_AGE_CNT.BULK -/
def Fld.DMC_AGE_CNT.BULK : Field := ⟨0x20B0010C, 1, 31, 16, .rc, 0x0⟩
/-- DMC_AGE_CNT.MAPN -/
def Fld.DMC_AGE_CNT.MAPN : Field := ⟨0x20B0010C, 1, 15, 0, .rc, 0x0⟩
/-- DMC_ECC_CNT.CORR -/
def Fld.DMC_ECC_CNT.CORR : Field := ⟨0x20B00110, 1, 31, 16, .rc, 0x0⟩
/-- DMC_ECC_CNT.UNCORR -/
def Fld.DMC_ECC_CNT.UNCORR : Field := ⟨0x20B00110, 1, 15, 0, .rc, 0x0⟩
/-- DMC_ERR_LOG0.VALID -/
def Fld.DMC_ERR_LOG0.VALID : Field := ⟨0x20B00114, 1, 31, 31, .rw1c, 0x0⟩
/-- DMC_ERR_LOG0.UNCORR -/
def Fld.DMC_ERR_LOG0.UNCORR : Field := ⟨0x20B00114, 1, 30, 30, .ro, 0x0⟩
/-- DMC_ERR_LOG0.CH -/
def Fld.DMC_ERR_LOG0.CH : Field := ⟨0x20B00114, 1, 29, 28, .ro, 0x0⟩
/-- DMC_ERR_LOG0.SUB -/
def Fld.DMC_ERR_LOG0.SUB : Field := ⟨0x20B00114, 1, 27, 27, .ro, 0x0⟩
/-- DMC_ERR_LOG0.RANK -/
def Fld.DMC_ERR_LOG0.RANK : Field := ⟨0x20B00114, 1, 26, 26, .ro, 0x0⟩
/-- DMC_ERR_LOG0.CID -/
def Fld.DMC_ERR_LOG0.CID : Field := ⟨0x20B00114, 1, 25, 23, .ro, 0x0⟩
/-- DMC_ERR_LOG0.BG -/
def Fld.DMC_ERR_LOG0.BG : Field := ⟨0x20B00114, 1, 22, 20, .ro, 0x0⟩
/-- DMC_ERR_LOG0.BA -/
def Fld.DMC_ERR_LOG0.BA : Field := ⟨0x20B00114, 1, 19, 18, .ro, 0x0⟩
/-- DMC_ERR_LOG0.ROW -/
def Fld.DMC_ERR_LOG0.ROW : Field := ⟨0x20B00114, 1, 16, 0, .ro, 0x0⟩
/-- DMC_ERR_LOG1.DEVICE -/
def Fld.DMC_ERR_LOG1.DEVICE : Field := ⟨0x20B00118, 1, 10, 7, .ro, 0x0⟩
/-- DMC_ERR_LOG1.COL -/
def Fld.DMC_ERR_LOG1.COL : Field := ⟨0x20B00118, 1, 6, 0, .ro, 0x0⟩
/-- DMC_ALERT_CNT.RETRAIN -/
def Fld.DMC_ALERT_CNT.RETRAIN : Field := ⟨0x20B00120, 1, 31, 16, .rc, 0x0⟩
/-- DMC_ALERT_CNT.REPLAY -/
def Fld.DMC_ALERT_CNT.REPLAY : Field := ⟨0x20B00120, 1, 15, 0, .rc, 0x0⟩
/-- DMC_RD_MITIG.COUNT -/
def Fld.DMC_RD_MITIG.COUNT : Field := ⟨0x20B00124, 1, 31, 0, .rc, 0x0⟩
/-- DMC_REF_STS.HOT -/
def Fld.DMC_REF_STS.HOT : Field := ⟨0x20B00128, 1, 31, 31, .ro, 0x0⟩
/-- DMC_SR_STS.SR -/
def Fld.DMC_SR_STS.SR : Field := ⟨0x20B00130, 1, 31, 31, .ro, 0x0⟩
/-- DMC_SR_STS.DEFER -/
def Fld.DMC_SR_STS.DEFER : Field := ⟨0x20B00130, 1, 15, 0, .rc, 0x0⟩
/-- DMC_RET_SEL.ENTRY -/
def Fld.DMC_RET_SEL.ENTRY : Field := ⟨0x20B00140, 1, 5, 0, .rw, 0x0⟩
/-- DMC_RET_COORD.EN -/
def Fld.DMC_RET_COORD.EN : Field := ⟨0x20B00144, 1, 31, 31, .rw, 0x0⟩
/-- DMC_RET_COORD.WHOLE_BANK -/
def Fld.DMC_RET_COORD.WHOLE_BANK : Field := ⟨0x20B00144, 1, 30, 30, .rw, 0x0⟩
/-- DMC_RET_COORD.COORD -/
def Fld.DMC_RET_COORD.COORD : Field := ⟨0x20B00144, 1, 29, 18, .rw, 0x0⟩
/-- DMC_RET_COORD.ROW_FIRST -/
def Fld.DMC_RET_COORD.ROW_FIRST : Field := ⟨0x20B00144, 1, 16, 0, .rw, 0x0⟩
/-- DMC_RET_SPAN.ROW_COUNT -/
def Fld.DMC_RET_SPAN.ROW_COUNT : Field := ⟨0x20B00148, 1, 17, 0, .rw, 0x1⟩
/-- DMC_RET_TARGET.OFF_8K -/
def Fld.DMC_RET_TARGET.OFF_8K : Field := ⟨0x20B0014C, 1, 18, 0, .rw, 0x0⟩
/-- DMC_RET_CTL.GO -/
def Fld.DMC_RET_CTL.GO : Field := ⟨0x20B00150, 1, 31, 31, .wo, 0x0⟩
/-- DMC_RET_CTL.STATUS -/
def Fld.DMC_RET_CTL.STATUS : Field := ⟨0x20B00150, 1, 2, 0, .ro, 0x0⟩
/-- DMC_TRAIN_CTL.GO -/
def Fld.DMC_TRAIN_CTL.GO : Field := ⟨0x20B00160, 1, 31, 31, .wo, 0x0⟩
/-- DMC_TRAIN_CTL.CH -/
def Fld.DMC_TRAIN_CTL.CH : Field := ⟨0x20B00160, 1, 1, 0, .rw, 0x0⟩

/-- The fields of DMC. -/
def fieldsDmc : List Field :=
  [Fld.DMC_CFG_STS.TRAINED, Fld.DMC_CFG_STS.CH_DEAD, Fld.DMC_CFG_STS.CID_BITS, Fld.DMC_CFG_STS.RANKS,
   Fld.DMC_CFG_STS.DENSITY, Fld.DMC_CFG_STS.CH_MASK, Fld.DMC_CFG_STS.MTS, Fld.DMC_PANIC_STS.PANIC,
   Fld.DMC_PANIC_TICKS.TICKS, Fld.DMC_AGE_CNT.BULK, Fld.DMC_AGE_CNT.MAPN, Fld.DMC_ECC_CNT.CORR,
   Fld.DMC_ECC_CNT.UNCORR, Fld.DMC_ERR_LOG0.VALID, Fld.DMC_ERR_LOG0.UNCORR, Fld.DMC_ERR_LOG0.CH,
   Fld.DMC_ERR_LOG0.SUB, Fld.DMC_ERR_LOG0.RANK, Fld.DMC_ERR_LOG0.CID, Fld.DMC_ERR_LOG0.BG,
   Fld.DMC_ERR_LOG0.BA, Fld.DMC_ERR_LOG0.ROW, Fld.DMC_ERR_LOG1.DEVICE, Fld.DMC_ERR_LOG1.COL,
   Fld.DMC_ALERT_CNT.RETRAIN, Fld.DMC_ALERT_CNT.REPLAY, Fld.DMC_RD_MITIG.COUNT, Fld.DMC_REF_STS.HOT,
   Fld.DMC_SR_STS.SR, Fld.DMC_SR_STS.DEFER, Fld.DMC_RET_SEL.ENTRY, Fld.DMC_RET_COORD.EN,
   Fld.DMC_RET_COORD.WHOLE_BANK, Fld.DMC_RET_COORD.COORD, Fld.DMC_RET_COORD.ROW_FIRST, Fld.DMC_RET_SPAN.ROW_COUNT,
   Fld.DMC_RET_TARGET.OFF_8K, Fld.DMC_RET_CTL.GO, Fld.DMC_RET_CTL.STATUS, Fld.DMC_TRAIN_CTL.GO,
   Fld.DMC_TRAIN_CTL.CH]

/-! CCL (Table 15.5) -/

/-- CCL_EPOCH.EPOCH -/
def Fld.CCL_EPOCH.EPOCH : Field := ⟨0x20C00100, 1, 31, 0, .ro, 0x0⟩
/-- CCL_STS.STATE_A -/
def Fld.CCL_STS.STATE_A : Field := ⟨0x20C00104, 1, 31, 29, .ro, 0x0⟩
/-- CCL_STS.STATE_B -/
def Fld.CCL_STS.STATE_B : Field := ⟨0x20C00104, 1, 28, 26, .ro, 0x0⟩
/-- CCL_STS.OWNER -/
def Fld.CCL_STS.OWNER : Field := ⟨0x20C00104, 1, 25, 25, .ro, 0x0⟩
/-- CCL_STS.GAP -/
def Fld.CCL_STS.GAP : Field := ⟨0x20C00104, 1, 24, 24, .ro, 0x0⟩
/-- CCL_STS.CUT_DENY -/
def Fld.CCL_STS.CUT_DENY : Field := ⟨0x20C00104, 1, 23, 23, .rw1c, 0x0⟩
/-- CCL_STS.NO_CLUSTER -/
def Fld.CCL_STS.NO_CLUSTER : Field := ⟨0x20C00104, 1, 22, 22, .ro, 0x0⟩
/-- CCL_CUT_CTL.GO -/
def Fld.CCL_CUT_CTL.GO : Field := ⟨0x20C00108, 1, 31, 31, .wo, 0x0⟩
/-- CCL_HEARTBEAT.VALUE -/
def Fld.CCL_HEARTBEAT.VALUE : Field := ⟨0x20C0010C, 1, 31, 0, .wo, 0x0⟩
/-- CCL_CUT_LAST.CAUSE -/
def Fld.CCL_CUT_LAST.CAUSE : Field := ⟨0x20C00110, 1, 31, 28, .ro, 0x0⟩
/-- CCL_CUT_LAST.FROM -/
def Fld.CCL_CUT_LAST.FROM : Field := ⟨0x20C00110, 1, 27, 27, .ro, 0x0⟩
/-- CCL_CUT_LAST.GAP_TICKS -/
def Fld.CCL_CUT_LAST.GAP_TICKS : Field := ⟨0x20C00110, 1, 19, 0, .ro, 0x0⟩
/-- CCL_CUT_CNT.CUTS -/
def Fld.CCL_CUT_CNT.CUTS : Field := ⟨0x20C00114, 1, 31, 16, .rc, 0x0⟩
/-- CCL_CUT_CNT.REFUSED -/
def Fld.CCL_CUT_CNT.REFUSED : Field := ⟨0x20C00114, 1, 15, 0, .rc, 0x0⟩
/-- CCL_EXC_STS.DEPTH -/
def Fld.CCL_EXC_STS.DEPTH : Field := ⟨0x20C00118, 1, 12, 0, .ro, 0x0⟩
/-- CCL_SCRIPT_STS.LAG_BYTES -/
def Fld.CCL_SCRIPT_STS.LAG_BYTES : Field := ⟨0x20C0011C, 1, 20, 0, .ro, 0x0⟩
/-- CCL_CUT_GAP.TICKS -/
def Fld.CCL_CUT_GAP.TICKS : Field := ⟨0x20C00120, 1, 31, 0, .ro, 0x0⟩

/-- The fields of CCL. -/
def fieldsCcl : List Field :=
  [Fld.CCL_EPOCH.EPOCH, Fld.CCL_STS.STATE_A, Fld.CCL_STS.STATE_B, Fld.CCL_STS.OWNER,
   Fld.CCL_STS.GAP, Fld.CCL_STS.CUT_DENY, Fld.CCL_STS.NO_CLUSTER, Fld.CCL_CUT_CTL.GO,
   Fld.CCL_HEARTBEAT.VALUE, Fld.CCL_CUT_LAST.CAUSE, Fld.CCL_CUT_LAST.FROM, Fld.CCL_CUT_LAST.GAP_TICKS,
   Fld.CCL_CUT_CNT.CUTS, Fld.CCL_CUT_CNT.REFUSED, Fld.CCL_EXC_STS.DEPTH, Fld.CCL_SCRIPT_STS.LAG_BYTES,
   Fld.CCL_CUT_GAP.TICKS]

/-! CSU (Table 16.8) -/

/-- CSU_CMD.GO -/
def Fld.CSU_CMD.GO : Field := ⟨0x20D00100, 1, 31, 31, .wo, 0x0⟩
/-- CSU_CMD.OP -/
def Fld.CSU_CMD.OP : Field := ⟨0x20D00100, 1, 19, 17, .rw, 0x0⟩
/-- CSU_CMD.PAGE -/
def Fld.CSU_CMD.PAGE : Field := ⟨0x20D00100, 1, 16, 11, .rw, 0x0⟩
/-- CSU_CMD.SECTOR -/
def Fld.CSU_CMD.SECTOR : Field := ⟨0x20D00100, 1, 10, 0, .rw, 0x0⟩
/-- CSU_STS.BUSY -/
def Fld.CSU_STS.BUSY : Field := ⟨0x20D00104, 1, 31, 31, .ro, 0x0⟩
/-- CSU_STS.RESULT -/
def Fld.CSU_STS.RESULT : Field := ⟨0x20D00104, 1, 30, 28, .ro, 0x0⟩
/-- CSU_STS.BANK_BUSY -/
def Fld.CSU_STS.BANK_BUSY : Field := ⟨0x20D00104, 1, 27, 24, .ro, 0x0⟩
/-- CSU_STS.BANK_SUSP -/
def Fld.CSU_STS.BANK_SUSP : Field := ⟨0x20D00104, 1, 23, 20, .ro, 0x0⟩
/-- CSU_STS.LOADER -/
def Fld.CSU_STS.LOADER : Field := ⟨0x20D00104, 1, 19, 19, .ro, 0x0⟩
/-- CSU_SEAL.KEK_GEN -/
def Fld.CSU_SEAL.KEK_GEN : Field := ⟨0x20D00108, 1, 6, 4, .ro, 0x0⟩
/-- CSU_SEAL.SESSION -/
def Fld.CSU_SEAL.SESSION : Field := ⟨0x20D00108, 1, 2, 2, .ro, 0x0⟩
/-- CSU_SEAL.STATE -/
def Fld.CSU_SEAL.STATE : Field := ⟨0x20D00108, 1, 1, 0, .ro, 0x0⟩
/-- CSU_WIN_BASE.BASE -/
def Fld.CSU_WIN_BASE.BASE : Field := ⟨0x20D0010C, 1, 31, 0, .ro, 0x0⟩
/-- CSU_WIN_STS.SLIDING -/
def Fld.CSU_WIN_STS.SLIDING : Field := ⟨0x20D00110, 1, 31, 31, .ro, 0x0⟩
/-- CSU_WIN_STS.ERASES -/
def Fld.CSU_WIN_STS.ERASES : Field := ⟨0x20D00110, 1, 9, 0, .ro, 0x0⟩
/-- CSU_SECT_SEL.SECTOR -/
def Fld.CSU_SECT_SEL.SECTOR : Field := ⟨0x20D00114, 1, 10, 0, .rw, 0x0⟩
/-- CSU_SECT_STS.WP -/
def Fld.CSU_SECT_STS.WP : Field := ⟨0x20D00118, 1, 31, 31, .ro, 0x0⟩
/-- CSU_SECT_STS.WORN -/
def Fld.CSU_SECT_STS.WORN : Field := ⟨0x20D00118, 1, 30, 30, .ro, 0x0⟩
/-- CSU_SECT_STS.ERASES -/
def Fld.CSU_SECT_STS.ERASES : Field := ⟨0x20D00118, 1, 16, 0, .ro, 0x0⟩
/-- CSU_TAKE_STS.STATE -/
def Fld.CSU_TAKE_STS.STATE : Field := ⟨0x20D0011C, 1, 31, 29, .ro, 0x0⟩
/-- CSU_TAKE_STS.TRIALS -/
def Fld.CSU_TAKE_STS.TRIALS : Field := ⟨0x20D0011C, 1, 28, 25, .ro, 0x0⟩
/-- CSU_TAKE_STS.CONFIRM_LEFT -/
def Fld.CSU_TAKE_STS.CONFIRM_LEFT : Field := ⟨0x20D0011C, 1, 15, 0, .ro, 0x0⟩
/-- CSU_PGBUF.WORD -/
def Fld.CSU_PGBUF.WORD : Field := ⟨0x20D00200, 64, 31, 0, .rw, 0x0⟩
/-- CSU_WP.SECT -/
def Fld.CSU_WP.SECT : Field := ⟨0x20D00400, 64, 31, 0, .rw, 0x0⟩

/-- The fields of CSU. -/
def fieldsCsu : List Field :=
  [Fld.CSU_CMD.GO, Fld.CSU_CMD.OP, Fld.CSU_CMD.PAGE, Fld.CSU_CMD.SECTOR,
   Fld.CSU_STS.BUSY, Fld.CSU_STS.RESULT, Fld.CSU_STS.BANK_BUSY, Fld.CSU_STS.BANK_SUSP,
   Fld.CSU_STS.LOADER, Fld.CSU_SEAL.KEK_GEN, Fld.CSU_SEAL.SESSION, Fld.CSU_SEAL.STATE,
   Fld.CSU_WIN_BASE.BASE, Fld.CSU_WIN_STS.SLIDING, Fld.CSU_WIN_STS.ERASES, Fld.CSU_SECT_SEL.SECTOR,
   Fld.CSU_SECT_STS.WP, Fld.CSU_SECT_STS.WORN, Fld.CSU_SECT_STS.ERASES, Fld.CSU_TAKE_STS.STATE,
   Fld.CSU_TAKE_STS.TRIALS, Fld.CSU_TAKE_STS.CONFIRM_LEFT, Fld.CSU_PGBUF.WORD, Fld.CSU_WP.SECT]

/-! HUM (Table 12.6) -/

/-- HUM_STS.STATE -/
def Fld.HUM_STS.STATE : Field := ⟨0x20E00100, 1, 31, 29, .ro, 0x0⟩
/-- HUM_STS.TESTING -/
def Fld.HUM_STS.TESTING : Field := ⟨0x20E00100, 1, 28, 28, .ro, 0x0⟩
/-- HUM_STS.VER -/
def Fld.HUM_STS.VER : Field := ⟨0x20E00100, 1, 27, 27, .ro, 0x0⟩
/-- HUM_ENERGY.MJ -/
def Fld.HUM_ENERGY.MJ : Field := ⟨0x20E00104, 1, 15, 0, .ro, 0x0⟩
/-- HUM_SENSE.STORE_MV -/
def Fld.HUM_SENSE.STORE_MV : Field := ⟨0x20E00108, 1, 31, 16, .ro, 0x0⟩
/-- HUM_SENSE.CODE -/
def Fld.HUM_SENSE.CODE : Field := ⟨0x20E00108, 1, 11, 0, .ro, 0x0⟩
/-- HUM_CAP.UF -/
def Fld.HUM_CAP.UF : Field := ⟨0x20E0010C, 1, 31, 0, .ro, 0x0⟩
/-- HUM_TEST_CTL.GO -/
def Fld.HUM_TEST_CTL.GO : Field := ⟨0x20E00110, 1, 31, 31, .wo, 0x0⟩
/-- HUM_TEST_STS.RESULT -/
def Fld.HUM_TEST_STS.RESULT : Field := ⟨0x20E00114, 1, 31, 30, .ro, 0x0⟩
/-- HUM_EVT.DUMP_INCOMPLETE -/
def Fld.HUM_EVT.DUMP_INCOMPLETE : Field := ⟨0x20E00118, 1, 4, 4, .rw1c, 0x0⟩
/-- HUM_EVT.SENSE_FAULT -/
def Fld.HUM_EVT.SENSE_FAULT : Field := ⟨0x20E00118, 1, 3, 3, .rw1c, 0x0⟩
/-- HUM_EVT.ENERGY_LOW -/
def Fld.HUM_EVT.ENERGY_LOW : Field := ⟨0x20E00118, 1, 2, 2, .rw1c, 0x0⟩
/-- HUM_EVT.TEST_FAIL -/
def Fld.HUM_EVT.TEST_FAIL : Field := ⟨0x20E00118, 1, 1, 1, .rw1c, 0x0⟩
/-- HUM_EVT.DEGRADED -/
def Fld.HUM_EVT.DEGRADED : Field := ⟨0x20E00118, 1, 0, 0, .rw1c, 0x0⟩
/-- HUM_DUMP_STS.DUR_10US -/
def Fld.HUM_DUMP_STS.DUR_10US : Field := ⟨0x20E00120, 1, 31, 16, .ro, 0x0⟩
/-- HUM_DUMP_STS.MIB -/
def Fld.HUM_DUMP_STS.MIB : Field := ⟨0x20E00120, 1, 15, 8, .ro, 0x0⟩
/-- HUM_DUMP_SEQ.SEQ -/
def Fld.HUM_DUMP_SEQ.SEQ : Field := ⟨0x20E00124, 1, 31, 0, .ro, 0x0⟩

/-- The fields of HUM. -/
def fieldsHum : List Field :=
  [Fld.HUM_STS.STATE, Fld.HUM_STS.TESTING, Fld.HUM_STS.VER, Fld.HUM_ENERGY.MJ,
   Fld.HUM_SENSE.STORE_MV, Fld.HUM_SENSE.CODE, Fld.HUM_CAP.UF, Fld.HUM_TEST_CTL.GO,
   Fld.HUM_TEST_STS.RESULT, Fld.HUM_EVT.DUMP_INCOMPLETE, Fld.HUM_EVT.SENSE_FAULT, Fld.HUM_EVT.ENERGY_LOW,
   Fld.HUM_EVT.TEST_FAIL, Fld.HUM_EVT.DEGRADED, Fld.HUM_DUMP_STS.DUR_10US, Fld.HUM_DUMP_STS.MIB,
   Fld.HUM_DUMP_SEQ.SEQ]

/-! MGP (Tables 2.3 and 17.7) -/

/-- MGP_LIVE_SIG.SIG -/
def Fld.MGP_LIVE_SIG.SIG : Field := ⟨0x20F00100, 1, 31, 0, .ro, 0x5A5A0F0F⟩
/-- MGP_STAGE_STS.SCAN_PCT -/
def Fld.MGP_STAGE_STS.SCAN_PCT : Field := ⟨0x20F00104, 1, 23, 16, .ro, 0x0⟩
/-- MGP_STAGE_STS.HOLDUP_VER -/
def Fld.MGP_STAGE_STS.HOLDUP_VER : Field := ⟨0x20F00104, 1, 7, 7, .ro, 0x0⟩
/-- MGP_STAGE_STS.START_KIND -/
def Fld.MGP_STAGE_STS.START_KIND : Field := ⟨0x20F00104, 1, 6, 4, .ro, 0x0⟩
/-- MGP_STAGE_STS.STAGE -/
def Fld.MGP_STAGE_STS.STAGE : Field := ⟨0x20F00104, 1, 1, 0, .ro, 0x0⟩
/-- MGP_STAGE_TIME.MS -/
def Fld.MGP_STAGE_TIME.MS : Field := ⟨0x20F00108, 1, 31, 0, .ro, 0x0⟩
/-- MGP_HEALTH.SUMMARY -/
def Fld.MGP_HEALTH.SUMMARY : Field := ⟨0x20F00200, 1, 14, 0, .ro, 0x0⟩
/-- MGP_EVT_CNT.COUNT -/
def Fld.MGP_EVT_CNT.COUNT : Field := ⟨0x20F00204, 1, 31, 0, .rc, 0x0⟩
/-- MGP_TP_ERR.DENIED -/
def Fld.MGP_TP_ERR.DENIED : Field := ⟨0x20F00208, 1, 2, 2, .rw1c, 0x0⟩
/-- MGP_TP_ERR.BUSY -/
def Fld.MGP_TP_ERR.BUSY : Field := ⟨0x20F00208, 1, 1, 1, .rw1c, 0x0⟩
/-- MGP_TP_ERR.BAD_MSG -/
def Fld.MGP_TP_ERR.BAD_MSG : Field := ⟨0x20F00208, 1, 0, 0, .rw1c, 0x0⟩
/-- MGP_CSP_CTL.GO -/
def Fld.MGP_CSP_CTL.GO : Field := ⟨0x20F10000, 1, 31, 31, .wo, 0x0⟩
/-- MGP_CSP_CTL.SEQ -/
def Fld.MGP_CSP_CTL.SEQ : Field := ⟨0x20F10000, 1, 15, 8, .rw, 0x0⟩
/-- MGP_CSP_CTL.CMD -/
def Fld.MGP_CSP_CTL.CMD : Field := ⟨0x20F10000, 1, 7, 0, .rw, 0x0⟩
/-- MGP_CSP_ADDR.INDEX -/
def Fld.MGP_CSP_ADDR.INDEX : Field := ⟨0x20F10004, 1, 23, 8, .rw, 0x0⟩
/-- MGP_CSP_ADDR.SUB -/
def Fld.MGP_CSP_ADDR.SUB : Field := ⟨0x20F10004, 1, 7, 0, .rw, 0x0⟩
/-- MGP_CSP_LEN.BYTES -/
def Fld.MGP_CSP_LEN.BYTES : Field := ⟨0x20F10008, 1, 12, 0, .rw, 0x0⟩
/-- MGP_CSP_STS.BUSY -/
def Fld.MGP_CSP_STS.BUSY : Field := ⟨0x20F1000C, 1, 31, 31, .ro, 0x0⟩
/-- MGP_CSP_STS.SEQ -/
def Fld.MGP_CSP_STS.SEQ : Field := ⟨0x20F1000C, 1, 15, 8, .ro, 0x0⟩
/-- MGP_CSP_STS.STATUS -/
def Fld.MGP_CSP_STS.STATUS : Field := ⟨0x20F1000C, 1, 7, 0, .ro, 0x0⟩
/-- MGP_CSP_DATA.WORD -/
def Fld.MGP_CSP_DATA.WORD : Field := ⟨0x20F11000, 1024, 31, 0, .rw, 0x0⟩

/-- The fields of MGP. -/
def fieldsMgp : List Field :=
  [Fld.MGP_LIVE_SIG.SIG, Fld.MGP_STAGE_STS.SCAN_PCT, Fld.MGP_STAGE_STS.HOLDUP_VER, Fld.MGP_STAGE_STS.START_KIND,
   Fld.MGP_STAGE_STS.STAGE, Fld.MGP_STAGE_TIME.MS, Fld.MGP_HEALTH.SUMMARY, Fld.MGP_EVT_CNT.COUNT,
   Fld.MGP_TP_ERR.DENIED, Fld.MGP_TP_ERR.BUSY, Fld.MGP_TP_ERR.BAD_MSG, Fld.MGP_CSP_CTL.GO,
   Fld.MGP_CSP_CTL.SEQ, Fld.MGP_CSP_CTL.CMD, Fld.MGP_CSP_ADDR.INDEX, Fld.MGP_CSP_ADDR.SUB,
   Fld.MGP_CSP_LEN.BYTES, Fld.MGP_CSP_STS.BUSY, Fld.MGP_CSP_STS.SEQ, Fld.MGP_CSP_STS.STATUS,
   Fld.MGP_CSP_DATA.WORD]

/-! CRU (Table 18.5) -/

/-- CRU_STS.FROZEN -/
def Fld.CRU_STS.FROZEN : Field := ⟨0x21000100, 1, 31, 31, .ro, 0x0⟩
/-- CRU_STS.FIRST_FULL -/
def Fld.CRU_STS.FIRST_FULL : Field := ⟨0x21000100, 1, 30, 30, .ro, 0x0⟩
/-- CRU_STS.NAND_READY -/
def Fld.CRU_STS.NAND_READY : Field := ⟨0x21000100, 1, 29, 29, .ro, 0x0⟩
/-- CRU_STS.STAGED -/
def Fld.CRU_STS.STAGED : Field := ⟨0x21000100, 1, 24, 16, .ro, 0x0⟩
/-- CRU_STS.FIRST_USED -/
def Fld.CRU_STS.FIRST_USED : Field := ⟨0x21000100, 1, 10, 0, .ro, 0x0⟩
/-- CRU_CTL.FREEZE -/
def Fld.CRU_CTL.FREEZE : Field := ⟨0x21000104, 1, 31, 31, .rw, 0x0⟩
/-- CRU_RSEQ_LO.RSEQ_LO -/
def Fld.CRU_RSEQ_LO.RSEQ_LO : Field := ⟨0x21000108, 1, 31, 0, .ro, 0x0⟩
/-- CRU_RSEQ_HI.RSEQ_HI -/
def Fld.CRU_RSEQ_HI.RSEQ_HI : Field := ⟨0x2100010C, 1, 31, 0, .ro, 0x0⟩
/-- CRU_MISSED.COUNT -/
def Fld.CRU_MISSED.COUNT : Field := ⟨0x21000110, 1, 31, 0, .rc, 0x0⟩
/-- CRU_TRIG_SEL.TRIGGER -/
def Fld.CRU_TRIG_SEL.TRIGGER : Field := ⟨0x21000114, 1, 5, 0, .rw, 0x0⟩
/-- CRU_TRIG_CNT.COUNT -/
def Fld.CRU_TRIG_CNT.COUNT : Field := ⟨0x21000118, 1, 31, 0, .rc, 0x0⟩
/-- CRU_FW_TRIG.GO -/
def Fld.CRU_FW_TRIG.GO : Field := ⟨0x2100011C, 1, 31, 31, .wo, 0x0⟩
/-- CRU_FW_TRIG.CODE -/
def Fld.CRU_FW_TRIG.CODE : Field := ⟨0x2100011C, 1, 2, 0, .rw, 0x0⟩
/-- CRU_FW_ARG.ARG -/
def Fld.CRU_FW_ARG.ARG : Field := ⟨0x21000120, 1, 31, 0, .rw, 0x0⟩
/-- CRU_FREEZE_LEFT.MS -/
def Fld.CRU_FREEZE_LEFT.MS : Field := ⟨0x21000124, 1, 10, 0, .ro, 0x0⟩

/-- The fields of CRU. -/
def fieldsCru : List Field :=
  [Fld.CRU_STS.FROZEN, Fld.CRU_STS.FIRST_FULL, Fld.CRU_STS.NAND_READY, Fld.CRU_STS.STAGED,
   Fld.CRU_STS.FIRST_USED, Fld.CRU_CTL.FREEZE, Fld.CRU_RSEQ_LO.RSEQ_LO, Fld.CRU_RSEQ_HI.RSEQ_HI,
   Fld.CRU_MISSED.COUNT, Fld.CRU_TRIG_SEL.TRIGGER, Fld.CRU_TRIG_CNT.COUNT, Fld.CRU_FW_TRIG.GO,
   Fld.CRU_FW_TRIG.CODE, Fld.CRU_FW_ARG.ARG, Fld.CRU_FREEZE_LEFT.MS]

/-- The fields of the unit with a number (Table 0.3). -/
def fieldsOfUnit : Nat → List Field
  | 0x00 => fieldsTbu
  | 0x01 => fieldsHlu
  | 0x02 => fieldsQen
  | 0x03 => fieldsTnu
  | 0x04 => fieldsGal
  | 0x05 => fieldsMxe
  | 0x06 => fieldsDsc
  | 0x07 => fieldsFca
  | 0x08 => fieldsCdx
  | 0x09 => fieldsSpe
  | 0x0A => fieldsBpm
  | 0x0B => fieldsDmc
  | 0x0C => fieldsCcl
  | 0x0D => fieldsCsu
  | 0x0E => fieldsHum
  | 0x0F => fieldsMgp
  | 0x10 => fieldsCru
  | _ => []

/-- The fields of one register, by internal address. -/
def fieldsAt (addr : Nat) : List Field :=
  (fieldsOfUnit ((addr - 0x20000000) / 0x100000)).filter fun f => f.reg ≤ addr && addr < f.reg + 4 * f.count

end Sys2Proof.Machine
end

