-- ==== Sys2Proof/Config.lean ====
section
/-! DEFINITION. What the spec leaves open: constants without a body (notes/assumptions/6.md, 9.md), so that no proof can see a value of one, and the figures that a part is fused or built with. -/

namespace Sys2Proof

/-- A fresh free value: the n-th value the controller draws that the spec does not fix (CTR_DRBG draws of R303 and R443, reads of lost contents). Applied to State's `freeCnt`. -/
opaque Config.freeNat : Nat → Nat

/-- AES-256-XTS encryption of a slot under the content of a key slot, with the tweak of R301. -/
opaque Config.encrypt : (key : Nat) → (tweak : Nat) → (data : Nat) → Nat

/-- AES-256-XTS decryption, R301. -/
opaque Config.decrypt : (key : Nat) → (tweak : Nat) → (data : Nat) → Nat

/-- AES key wrap of a data key under the key encryption key of a generation (R302, Table 10.8): the 96-byte record. -/
opaque Config.wrapKey : (gen : Nat) → (key : Nat) → BitVec 768

/-- AES key unwrap: the key, or none where the integrity check fails (R303, R305). -/
opaque Config.unwrapKey : (gen : Nat) → (record : BitVec 768) → Option Nat

/-- SHA-384 of a byte string (R447). -/
opaque Config.sha384 : List Byte → Nat

/-- ECDSA P-384 verification of a signature over a digest by a public key (R447, R448). -/
opaque Config.ecdsaVerify : (key sig digest : Nat) → Bool

/-- The four fused take key digests of R447. -/
opaque Config.keyFuse : Nat → Nat

/-- The fused ORDER_CODE (Table 17.8), 16 bytes little-endian. -/
opaque Config.orderCode : Nat

/-- The CRC-8 of a slate and of a handle, whose polynomial the spec does not give. -/
opaque Config.crc8 : List Byte → Byte

/-- The acceleration of an AF_TABLE entry at a temperature: interpolated F32 arithmetic in equivalent ns of a 100 ms period (R277). -/
opaque Config.afAdvance : (table : List Nat) → (tempC : Int) → (ms : Nat) → Nat

/-- R356's capacitance: t ÷ (R ln (V0 ÷ V1)) in µF from the discharge time in µs, the bleed in Ω and the two voltages in mV. -/
opaque Config.capacitance : (us ohm mv0 mv1 : Nat) → Nat

/-- The Cleiramo reference set of JD_MODEL (Table 10.10). -/
opaque Config.jdModel : Nat → Nat

/-- The Cleiramo set of SNAP_LIST (Table 18.6): the source unit's status and event registers. -/
opaque Config.snapList : Nat → Nat

/-- The Arrhenius defaults of AF_TABLE (Table 10.10), as binary32 words. -/
opaque Config.afDefault : Nat → Nat

/-- The DRAM burst that holds 64 B piece `piece` of window `win` (R165): the spec gives no place for Gallery staging in DRAM. -/
opaque Config.galDram : (win piece : Nat) → Nat

/-- LDPC parity of a codeword frame at a tread (R268, Table 10.4), and of a page tail (R271): the spec gives no code. -/
opaque Config.ldpcParity : (tread : Nat) → (frame : List Byte) → List Byte
opaque Config.tailParity : (tail : List Byte) → List Byte

/-- Cleiramo's assigned PCI identifier: Vendor ID and Subsystem Vendor ID (spec/03). -/
opaque Config.vendorId : Nat

/-- Where a capability of the configuration space lies: its identifier (an extended one plus 100h) and the function. The spec gives no places. -/
opaque Config.capBase : (cap fn : Nat) → Nat

end Sys2Proof
end

