-- ==== Sys2Proof/Machine/UnitCore.lean ====
section
/-! DEFINITION. State of the buffer pools, the DRAM controller, the control clusters, the code store, the management plane and the continuity recorder (spec/13 to spec/18). -/

namespace Sys2Proof.Machine

/-- Descriptor states of Table 13.3. -/
inductive BufState where
  | free | cached | held | retired
deriving DecidableEq, Repr, Inhabited

/-- A buffer descriptor (Table 13.3). -/
structure BufDesc where
  next    : BitVec 24
  owners  : BitVec 17
  gen     : BitVec 7
  state   : BufState
  poison  : Bool
  slice   : Nat
  charged : Bool
deriving DecidableEq, Repr, Inhabited

/-- A request waiting for a buffer (R383, R384). -/
structure BufWaiter where
  unit   : Nat
  size   : Nat
  slice  : Option Nat
  urgent : Bool
  prev   : Option (BitVec 24)
  tick   : Dword
  /-- Order of arrival, for requests of one tick (R25). -/
  ord    : Nat
deriving DecidableEq, Repr, Inhabited

/-- One pool (Table 13.1, R378). -/
structure Pool where
  count   : Nat
  /-- CACHED handles' indices, head first (R382). -/
  ring    : List Nat
  waiters : List BufWaiter
  /-- Free buffers of the reservation of Table 13.2. -/
  rsvFree : Nat
deriving DecidableEq, Repr, Inhabited

/-- Buffer Pool Manager (13). -/
structure Bpm where
  pools : List Pool
  /-- Descriptors, keyed 16,384 × pool + index; unlisted: FREE, GEN 0. -/
  descs : List (Nat × BufDesc)
  /-- RING_DEPTH and URGENT_RSV_SETS as taken at the last entry to Stair. -/
  ringDepth : Nat
  urgentSets : Nat
  /-- Requests held for their slice's STAGE_MAX_MIB (R384). -/
  sliceHeld : List BufWaiter
  /-- Corrected errors per buffer since power-up (R388), keyed as `descs`. -/
  corrected : List (Nat × Nat)
  /-- Poisoned buffers that BPM is cleaning (R387), keyed as `descs`. -/
  cleaning : List Nat
  /-- Buffers retired, kept until power-up (R388). -/
  retired : List Nat
  /-- Buffers that became free in this tick: granted from the next tick on (R383). -/
  freedNow : List Nat
  /-- Chains being freed, one buffer per tick: unit and next handle (R385). -/
  chains : List (Nat × BitVec 24)
  /-- Buffers overlapping the staging area are withheld (R375). -/
  withheld : Bool
  /-- Unit and handle of the last refused SHARE or FREE (R386). -/
  errUnit : Nat
  errHandle : BitVec 24
  /-- Stage SRAM bytes by stage offset; unlisted bytes read 0. -/
  sram : List Host.Cell
  /-- Offsets of poisoned 8-byte words (R372). -/
  poisoned : List Nat
  /-- Request order counter. -/
  ord : Nat
deriving DecidableEq, Repr, Inhabited

/-- DRAM classes of Table 14.3. -/
inductive DramClass where
  | mapU | rt | mapN | bulk
deriving DecidableEq, Repr, Inhabited

/-- DRAM coordinates of a burst (R393, DMC_ERR_LOG0 and LOG1). -/
structure DramCoord where
  ch  : Nat
  sub : Nat
  rank : Nat
  cid : Nat
  bg  : Nat
  ba  : Nat
  row : Nat
  col : Nat
deriving DecidableEq, Repr, Inhabited

/-- A queued DRAM request (R394 to R397). -/
structure DramReq where
  access : DramAccess
  cls    : DramClass
  /-- Class served as after a promotion (R397). -/
  eff    : DramClass
  ecc    : EccResult
  tick   : Dword
deriving DecidableEq, Repr, Inhabited

/-- An activate count of one row (R401), keyed by its bank. -/
structure RowCount where
  bank  : Nat
  row   : Nat
  count : Nat
deriving DecidableEq, Repr, Inhabited

/-- STATUS of a retirement entry (Table 14.4). -/
inductive RetStatus where
  | idle | copying | active | outOfRange | overlap
deriving DecidableEq, Repr, Inhabited

/-- A retirement entry in force (R411, R412). -/
structure RetEntry where
  status : RetStatus
  /-- The status that the last GO was refused with (R411). -/
  refused : Option RetStatus
  /-- What it becomes in the next tick: ACTIVE once its last burst is copied, IDLE at a GO with EN = 0 (R412). -/
  next   : Option RetStatus
  /-- The coordinates in force, as DMC_RET_COORD, DMC_RET_SPAN, DMC_RET_TARGET. -/
  coord  : Word
  span   : Nat
  target : Nat
deriving DecidableEq, Repr, Inhabited

/-- DRAM Controller (14). -/
structure Dmc where
  trained : Bool
  /-- Training has begun in this Stair stage (Table 2.7). -/
  begun   : Bool
  chMask  : BitVec 4
  ranks   : Nat
  dens32  : Bool
  cidBits : Nat
  mts     : Nat
  /-- ADDR_ORDER and RETIRE_SPARE_MIB as taken at the last entry to Stair. -/
  order   : Nat
  spareMib : Nat
  dead    : List Nat
  /-- Requests not yet served, in arrival order. -/
  queue   : List DramReq
  /-- Requests held because their subchannel queue is full (R396), in order. -/
  held    : List DramReq
  /-- Subchannels (2 × channel + sub) whose writes are draining (R396). -/
  draining : List Nat
  /-- Consecutive row hits and bursts taken in the running turn, per subchannel. -/
  hits    : List (Nat × Nat)
  turn    : List (Nat × Nat)
  /-- Open row of each bank and the tick of its last access, keyed by bank number. -/
  openRows : List (Nat × Nat × Dword)
  /-- Banks whose last access hit an open row (R395). -/
  hitBanks : List Nat
  /-- Tick of the last access of each rank, keyed 2 × channel + rank (R416). -/
  lastUse : List (Nat × Dword)
  /-- Tick at which the last refresh of each subchannel fell due, and of the last MR4 read (R400). -/
  refAt   : List (Nat × Dword)
  mr4At   : Option Dword
  panic   : Bool
  hot     : Bool
  /-- Postponed refreshes, keyed by subchannel. -/
  postponed : List (Nat × Nat)
  /-- Write DQ delay adjustments made, keyed by channel (R410). -/
  dqAdjust : List (Nat × Nat)
  /-- Tick of the last oscillator read of each channel (R410). -/
  oscRead : List (Nat × Dword)
  rows    : List RowCount
  /-- Alerts of each channel: ticks of the recent ones (R408), and of its last CA retraining. -/
  alerts  : List (Nat × List Dword)
  retrained : List (Nat × Dword)
  /-- Last 32 commands per subchannel (R407): burst addresses, newest first. -/
  retry   : List (Nat × List Nat)
  /-- Retirement entries in force; unlisted: IDLE. -/
  ret     : List (Nat × RetEntry)
  selfRefresh : Bool
  /-- Why it was entered: an event of class 1 (R414). -/
  srDump  : Bool
  /-- Self-refresh entry deferred by a request (R414). -/
  srDue   : Bool
  powerDown : List Nat
  /-- Bytes by storage address; unlisted bytes read 0 (notes/assumptions/5.md). -/
  bytes   : List Host.Cell
  /-- Storage addresses ÷ 64 of poisoned bursts (R405). -/
  poisoned : List Nat
deriving DecidableEq, Repr, Inhabited

/-- Cluster states of Table 15.1. -/
inductive ClusterState where
  | reset | selftest | sync | standby | active | failed
deriving DecidableEq, Repr, Inhabited

/-- Cut causes of Table 15.2, and the restart of a fallback (R457). -/
inductive CutCause where
  | lockstep | memory | selftest | watchdog | planned | activation | fallback
deriving DecidableEq, Repr, Inhabited

/-- A gap in progress (R424, R426, R431). -/
structure Gap where
  start : Dword
  cause : CutCause
  loser : Cluster
  solo  : Bool
  /-- CUT_COUNT before the cut: an event of class 1 to 3 in the tick of a planned cut acts first, and the cut does not happen (R24). -/
  before : Nat
deriving DecidableEq, Repr, Inhabited

/-- An exception event for drive firmware (R15, R427), as the clapper event bus carries it (R18): tick stamp, precedence class (11: of no class), source unit and instance; and a code of its kind. -/
structure ExcEvent where
  tick : Dword
  cls  : Nat
  unit : Nat
  inst : Nat
  kind : Nat
  arg  : Nat
deriving DecidableEq, Repr, Inhabited

/-- Control Clusters (15). -/
structure Ccl where
  epoch  : Word
  stA    : ClusterState
  stB    : ClusterState
  owner  : Cluster
  gap    : Option Gap
  noCluster : Bool
  /-- Clusters released from RESET: SELFTEST in the next tick. -/
  leave  : List Cluster
  /-- Ticks of the failures of each cluster, newest first (R432). -/
  failsA : List Dword
  failsB : List Dword
  /-- Tick of the last cut, for the epoch check of R421, and the fence still to come (R424). -/
  lastCut : Option Dword
  fence   : Option (Cluster × CutCause)
  lastCause : Nat
  lastFrom : Nat
  lastGap  : Nat
  exc    : List ExcEvent
  /-- Script ring of 2 MiB (R429): bytes, bytes written and replayed since the ring began; position, map journal position and tick of the last checkpoint. -/
  script : List Host.Cell
  scriptW : Nat
  scriptR : Nat
  /-- Script writes of the active cluster that wait for the stand-in, oldest first (R429). -/
  scriptHeld : List (List Byte)
  ckptAt : Nat
  ckptJournal : Nat
  ckptTick : Dword
  heartbeat : Dword
  selftestTick : Dword
  rotateTick : Dword
  /-- A planned cut has been accepted and the script flush runs (R423). -/
  planned : Option CutCause
  /-- TCM bytes of a pair: keyed 1 MiB × (4 × cluster + pair) + offset; unlisted bytes 0. -/
  tcm    : List Host.Cell
deriving DecidableEq, Repr, Inhabited

/-- The fields of a configuration record that the CSU uses (Table 16.3). -/
structure ConfigRecord where
  seq       : Nat
  takeState : Nat
  trials    : Nat
  sealSt    : Nat
  runningId : Nat
  archive0  : Nat
  archive1  : Nat
  winBase   : Nat
  bank3     : Nat
  wpMap     : BitVec 1024
deriving DecidableEq, Repr, Inhabited

/-- A flash operation in progress on a bank. -/
inductive FlashOp where
  /-- Page program: first byte address and the 256 bytes. -/
  | program (addr : Nat) (bytes : List Byte)
  | erase (sector : Nat)
deriving DecidableEq, Repr, Inhabited

/-- An operation of a cluster's CSU_CMD, or of the CSU's own work when `cluster` is none. -/
structure BankOp where
  cluster : Option Cluster
  op      : FlashOp
  suspended : Bool
  /-- Tick of the last read that found it running or suspended (R438). -/
  readAt  : Dword
  /-- Window operation WERASE (R445 counts it). -/
  window  : Bool
deriving DecidableEq, Repr, Inhabited

/-- BUSY and RESULT of one cluster's CSU_STS instance. -/
structure CsuPort where
  busy   : Bool
  result : Nat
deriving DecidableEq, Repr, Inhabited

/-- Steps of the slide of R445. -/
inductive SlideStep where
  | copying | switched
deriving DecidableEq, Repr, Inhabited

/-- What a fallback still has to do (R457): drain, restart, rewrite of banks 1 and 2. -/
inductive FallbackPhase where
  | draining | restarting | writing
deriving DecidableEq, Repr, Inhabited

/-- A pair's loader copy (R440): marked range valid, and the pair is in loader mode. -/
structure PairLoader where
  marked : Bool
  mode   : Bool
  /-- The pair's instruction fetch address, as it was last given (R439; notes/assumptions/33.md). -/
  fetchAt : Nat
deriving DecidableEq, Repr, Inhabited

/-- Code Store Unit (16). -/
structure Csu where
  /-- Flash bytes by flash address, bank 0 first; unlisted bytes are erased, 0xFF. -/
  flash  : List Host.Cell
  /-- The configuration record in force, and the page of sectors 48 to 55 written last (R436). -/
  cfg    : ConfigRecord
  cfgPage : Nat
  /-- Operation in progress in each bank. -/
  banks  : List (Nat × BankOp)
  portA  : CsuPort
  portB  : CsuPort
  loaders : List (Nat × PairLoader)
  /-- CSU_WP, one bit for each of the 2,048 sectors. -/
  wp     : BitVec 2048
  /-- Erases of each sector; unlisted: 0. -/
  erases : List (Nat × Nat)
  /-- WERASE commands since the last slide, and the slide in progress. -/
  winErases : Nat
  slide  : Option SlideStep
  /-- WPROGRAM (false) and WERASE (true) commands that wait for the slide's end (R445). -/
  winHeld : List (CsuRequest × Bool)
  /-- Ticks for which an erase of a configuration sector has been suspended (R438). -/
  suspTicks : Nat
  /-- Seal state, weld fuse, and a state change that takes effect in the next tick (R442). -/
  sealSt : Nat
  sealNext : Option Nat
  session : Bool
  challenge : Nat
  /-- Fuses: revoked keys, SVN, KEK generations blown (R443, R447, R302). -/
  revoked : BitVec 4
  svn    : Nat
  kekGen : Nat
  /-- Archive copies 0 and 1 in NAND: the take's bytes, none when not written. -/
  arch0  : List Byte
  arch1  : List Byte
  /-- The running take: TAKE_ID, SCRIPT_VER, RAISE_SVN, SVN. -/
  runId  : Nat
  runScript : Nat
  runRaise : Bool
  runSvn : Nat
  /-- Tick from which the confirmation window counts (R455). -/
  window : Option Dword
  fallback : Option FallbackPhase
  /-- A write of banks 1 and 2 is running (Table 16.7). -/
  writing : Bool
deriving DecidableEq, Repr, Inhabited

/-- A STORED write whose change record is being programmed (R465). -/
structure StoredWrite where
  via   : Transport
  eid   : Nat
  tag   : Nat
  key   : Nat
  size  : Nat
  value : Nat
  cluster : Cluster
deriving DecidableEq, Repr, Inhabited

/-- An access to 0x7000 to 0x7FFF passed to drive firmware (R469). -/
structure FwAccess where
  via   : Transport
  eid   : Nat
  tag   : Nat
  cmd   : Nat
  index : Nat
  sub   : Nat
  data  : List Byte
  cluster : Cluster
  since : Dword
  /-- Number of the access, by which drive firmware answers it. -/
  num   : Nat
deriving DecidableEq, Repr, Inhabited

/-- An event record (Table 17.6). -/
structure EventRecord where
  code  : Nat
  unit  : Nat
  valid : Bool
  seq   : Nat
  time  : Nat
deriving DecidableEq, Repr, Inhabited

/-- A request held during a cut gap (R468, Table 15.3), or behind an earlier one of its requester (R471): its command (1 READ, 2 WRITE, 3 DESCRIBE), and the data of a write. -/
structure GapRequest where
  r     : SheetRequest
  cmd   : Nat
  data  : List Byte
  /-- A status with which it is to be answered in its turn (R471). -/
  early : Option Nat
deriving DecidableEq, Repr, Inhabited

/-- Management Plane (17). -/
structure Mgp where
  storing : List StoredWrite
  fw      : List FwAccess
  gapWait : List GapRequest
  /-- Accesses passed to drive firmware so far (R469). -/
  fwNum   : Nat
  /-- Objects written in this tick, each with the highest transport instance that wrote it (R467). -/
  wrote   : List (Nat × Nat)
  /-- BUSY, SEQ and STATUS of each Call Sheet port; 4 is the firmware port. -/
  portBusy : List Nat
  portSeq : List (Nat × Nat)
  portStatus : List (Nat × Nat)
  /-- The event log, newest first, at most 256 records (R479). -/
  events  : List EventRecord
  evSeq   : Nat
  summary : BitVec 15
  ewLife  : BitVec 15
  i3cAddr : Option (BitVec 7)
  smbusAddr : Nat
deriving DecidableEq, Repr, Inhabited

/-- A recorder record (Table 18.2) as its fields. -/
structure Record where
  rseq    : Nat
  trigger : Nat
  unit    : Nat
  first   : Bool
  fleetValid : Bool
  gap     : Bool
  cycles  : Nat
  tick    : Dword
  fleet   : Dword
  pos     : Nat
  epoch   : Word
  inst    : Nat
  missed  : Nat
  arg     : Dword
  /-- Snapshots: address and value. -/
  snaps   : List (Nat × Word)
deriving DecidableEq, Repr, Inhabited

/-- A trigger accepted and in capture (R486, R487): its record so far and the addresses still to read. -/
structure Capture where
  slate : Record
  todo : List Nat
deriving DecidableEq, Repr, Inhabited

/-- Continuity Recorder Unit (18). -/
structure Cru where
  next     : Nat
  /-- Accepted triggers, oldest first, at most 32 (R487). -/
  queue    : List Capture
  /-- The record being written to staging and the ticks since its HEAD (R492). -/
  writing  : Option (Record × Nat)
  /-- Records staged and not yet on NAND, newest first (R487, R489). -/
  staged   : List Record
  /-- The running reel on NAND, keyed by slot. The first reel lies in bank 0 of the code store (R490). -/
  running  : List (Nat × Record)
  firstUsed : Nat
  missed   : Nat
  frozen   : Option Dword
  gapFlag  : Bool
  nandReady : Bool
  /-- A class 1 event has made the CRU record into staging only; staging was lost (R491). -/
  stagingOnly : Bool
  lost     : Bool
  /-- Tick of the first record staged since the last flush (R489). -/
  flushTick : Option Dword
  hiLatch  : Word
deriving DecidableEq, Repr, Inhabited

end Sys2Proof.Machine
end

