-- ==== Sys2Proof/Machine/UnitHost.lean ====
section
/-! DEFINITION. State of the timebase, the rails and stages, the host link and the queue engine (spec/01 to spec/04). -/

namespace Sys2Proof.Machine

/-- Timebase Unit (01, 17). `fleet` is fleet time in ns, `fleetQ` its quarters of a ns (a tick is 1.25 ns, R21). -/
structure Tbu where
  tick : Dword
  fleet : Dword
  fleetQ : Nat
  /-- FLEET_SRC (R474). -/
  fleetSrc : Nat
  /-- The part of the last offset that slewing has still to correct, in units of 10⁻⁶ quarter ns (R475). -/
  slewLeft : Int
  /-- Slewed part not yet a whole quarter ns, same units. -/
  slewAcc : Int
  lastOffset : Int
  /-- Bit n − 1: an event of class n of Table 1.5 was sampled in this tick. -/
  classes : BitVec 10
  /-- TBU_TICK_HI as latched by the last read of TBU_TICK_LO. -/
  hiLatch : Word
  /-- An event of class 1 to 3 was sampled in this tick (R52). -/
  resetNow : Bool
deriving DecidableEq, Repr, Inhabited

/-- Start-up stages (Table 2.3). -/
inductive Stage where
  | foyer | stair | hall
deriving DecidableEq, Repr, Inhabited

/-- START_KIND (Table 2.3). -/
inductive StartKind where
  | undecided | clean | dumpReplay | fullScan | blank | held
deriving DecidableEq, Repr, Inhabited

/-- Rails, reset inputs, stages and AVS (02, 20). -/
structure Power where
  /-- Rails out of their operating range, without repeats. -/
  railsOut : List Rail
  /-- PERST_N asserted (R37). -/
  perst : Bool
  /-- PWRFAIL_N asserted. -/
  pwrfail : Bool
  /-- Held in power-on reset as unpowered (R34). -/
  unpowered : Bool
  /-- Foyer hold after a thermal trip (R56) and after a supply loss (R57). -/
  tripHeld : Bool
  lossHeld : Bool
  /-- The work of R38 is running since this assertion. -/
  shutWork : Bool
  /-- Operations that a reset of class 3 found running have still to end (R38, R266). -/
  mediaPend : Bool
  stage : Stage
  /-- The stage as it is reported: the one in force as this tick began (R52). -/
  shown : Stage
  startKind : StartKind
  stageMs : Nat
  /-- Tick of the last PERST_N release, of the boot ROM start, of entry to Hall. -/
  releaseTick : Option Dword
  bootTick : Option Dword
  hallTick : Option Dword
  /-- Configuration space answers (R40). -/
  cfgReady : Bool
  /-- The admin subset of R43 is open. -/
  adminOpen : Bool
  /-- The clean-shutdown marker of R49. -/
  marker : Bool
  /-- The map is restored (R46). -/
  mapRestored : Bool
  /-- The first Stair stage since VDD_AUX came into range has been entered (R478). -/
  stairSeen : Bool
  /-- The unpowered interval before this power-up has still to be added to Θ (R278). -/
  offDue : Bool
  /-- CLOCK_MODE, SUBSYS_ID and VF_BAR2_LOG2 as read at the last PERST_N release. -/
  clockMode : Nat
  subsysId : Nat
  vfBar2 : Nat
  /-- AVS target in force in mV, request not yet answered, and the tick of the last request (R512). -/
  avsMv : Nat
  avsPend : Option Nat
  avsTick : Option Dword
  /-- A thermal trip's sensor that is hot, as last reported (R56). -/
  tripSensor : Option Nat
  /-- Tick from which every junction sensor has read below 110 °C (R56), and tick in which the last dump ended (R57). -/
  coolSince : Option Dword
  dumpEndTick : Option Dword
  /-- Rails whose abort level has been crossed in the running dump (R511). -/
  abortRails : List Rail
deriving DecidableEq, Repr, Inhabited

/-- Why a non-posted request was issued (03, R71). -/
inductive TagUse where
  /-- Data of a command's context: byte offset in its transfer and length. -/
  | data (c off len : Nat)
  /-- `n` entries of a submission queue from its head on (R98). -/
  | fetch (key n : Nat)
  /-- A part of a command's PRP or SGL list. -/
  | list (c len : Nat)
  /-- An ATS translation request of a function's page (R77). -/
  | ats (pasid : Option Nat) (page : Nat)
deriving DecidableEq, Repr, Inhabited

/-- Whether a tag is outstanding, quarantined (R87), or held out of use after a timeout or a quarantine by timer (R75, R87). -/
inductive TagPhase where
  | outstanding | quarantined | held
deriving DecidableEq, Repr, Inhabited

/-- A non-posted tag in use. -/
structure Tag where
  use   : TagUse
  fn    : Nat
  slice : Nat
  phase : TagPhase
  /-- Tick of issue, of the reset, or from which it is held. -/
  since : Dword
  /-- Reissued untranslated (R77). -/
  untranslated : Bool
deriving DecidableEq, Repr, Inhabited

/-- A host read for a command that waits to be issued: `len` bytes at host address `addr`, of its data from byte `off` of the transfer, or of its PRP or SGL list. -/
structure DmaReq where
  c     : Nat
  off   : Nat
  len   : Nat
  addr  : Nat
  list  : Bool
  /-- To be issued untranslated: a translation gave no access (R77). -/
  untranslated : Bool
deriving DecidableEq, Repr, Inhabited

/-- Link power states, and entries to them in progress (R79, R80). -/
inductive LinkPower where
  | l0 | toL1 | toL11 | toL12 | l1 | l11 | l12
deriving DecidableEq, Repr, Inhabited

/-- An entry of the address translation cache (R76). -/
structure AtcEntry where
  fn    : Nat
  pasid : Option Nat
  page  : Nat
  target : Nat
deriving DecidableEq, Repr, Inhabited

/-- AER error kinds of Table 3.4, and the advisory non-fatal errors of R163. -/
inductive AerError where
  | ecrc | malformed | unsupported | unexpectedCompletion | completionTimeout | poisoned | correctable | advisory
deriving DecidableEq, Repr, Inhabited

/-- Severities of PCIe 6.0 Base (R83). -/
inductive AerSeverity where
  | fatal | nonFatal | advisory | correctable
deriving DecidableEq, Repr, Inhabited

/-- The default severity of an error (R83, R163; PCIe 6.0 Base, notes/assumptions/10.md). -/
def AerError.severity : AerError → AerSeverity
  | .malformed => .fatal
  | .ecrc | .unsupported | .completionTimeout | .poisoned => .nonFatal
  | .unexpectedCompletion | .advisory => .advisory
  | .correctable => .correctable

/-- What host software programs in one function's configuration space and R88's FLR state. -/
structure FnCfg where
  busMaster : Bool
  memSpace  : Bool
  flr       : Bool
  /-- ATS Enable (R77). -/
  ats       : Bool
deriving DecidableEq, Repr, Inhabited

/-- Host Link Unit (03). -/
structure Hlu where
  up    : Bool
  flit  : Bool
  rate  : Nat
  width : Nat
  l0pWidth : Nat
  power : LinkPower
  /-- Lane reversal is in effect (R66). -/
  laneRev : Bool
  /-- Link Control: L0p enable; ASPM L1 enable; L1.1 and L1.2 enable. -/
  l0pEn : Bool
  l1En  : Bool
  l11En : Bool
  l12En : Bool
  /-- Tick from which the conditions of R79 have held without a break. -/
  idleSince : Option Dword
  /-- Bytes sent and received in this tick, and in the utilisation window that runs since a tick; the window that ended last stayed below HLU_L0P_LOW_PCT in both directions (R78). -/
  txNow : Nat
  rxNow : Nat
  txSum : Nat
  rxSum : Nat
  winSince : Dword
  lowUse : Bool
  /-- MPS, MRRS, 10-Bit Tag Requester Enable, Completion Timeout value in µs (R75). -/
  mps   : Nat
  mrrs  : Nat
  tag10 : Bool
  cplTimeoutUs : Nat
  /-- VF Enable, VF Memory Space Enable and NumVFs (R63, R69); ECRC generation and check (R83, R84). -/
  vfEn : Bool
  vfMse : Bool
  numVfs : Nat
  ecrcGen : Bool
  ecrcChk : Bool
  /-- Per-function configuration, keyed by function; unlisted: bus mastering off, no FLR. -/
  fns   : List (Nat × FnCfg)
  /-- Tags in use, keyed by tag number. -/
  tags  : List (Nat × Tag)
  /-- Tags freed in this tick (R73). -/
  freedTags : List Nat
  /-- Data reads waiting for a tag, in arrival order (R72, R86). -/
  dmaQueue : List DmaReq
  atc   : List AtcEntry
  /-- Functions with an FLR or a hot reset still to report complete; tick of each FLR. -/
  flrTick : List (Nat × Dword)
  ptmEn : Bool
  ptmLast : Option Dword
  ptmFails : Nat
  ptmValid : Bool
  /-- Errors logged under AER, newest first. -/
  aer   : List AerError
  /-- Correctable errors counted (Table 3.4). -/
  correctable : Nat
  /-- Bytes of the MSI-X tables and PBAs: key 65,536 × function + offset in the table's BAR area; unlisted bytes 0. -/
  msix  : List Host.Cell
deriving DecidableEq, Repr, Inhabited

/-- Service classes of submission queues (Table 4.4). -/
inductive SvcClass where
  | urgent | high | normal | background
deriving DecidableEq, Repr, Inhabited

/-- Context states of Table 4.5. -/
inductive CtxState where
  | fetched | dataIn | lookup | sequenced | media | commit | dataOut | ready | posted | squashed | orphan
deriving DecidableEq, Repr, Inhabited

/-- One slot read or written for a command: the granule-relative place in the namespace, the slot's location if it has one, and the data read so far. -/
structure SlotWork where
  /-- First slot-sized LBA unit: slot number n covers bytes 4,096 n of the namespace. -/
  slotNo : Nat
  loc    : Option Loc
  data   : Option SlotData
  lost   : Bool
  /-- The stage buffer of the decoded slot (Table 13.2), if it has one. -/
  buf    : Option (BitVec 24)
deriving DecidableEq, Repr, Inhabited

/-- What of a command's data pointer is still to be read from host memory (Table 4.1): PRP entries from a host address on, or an SGL segment of `len` bytes; `last`: no further segment follows. -/
inductive PtrList where
  | prp (addr : Nat)
  | sgl (addr len : Nat) (last : Bool)
deriving DecidableEq, Repr, Inhabited

/-- A command context (Table 4.4) in a state other than FREE. -/
structure Ctx where
  sqe      : Sqe
  state    : CtxState
  bmeStall : Bool
  fua      : Bool
  caught   : Bool
  cls      : SvcClass
  admin    : Bool
  sqid     : Nat
  slice    : Nat
  fn       : Nat
  dsn      : Nat
  /-- The chain at BUF_HEAD. -/
  bufs     : List (BitVec 24)
  bytesDone : Nat
  arrival  : Dword
  mediaPend : Nat
  /-- Status (SCT × 256 + SC) and DW0 under construction. -/
  status   : Nat
  result   : Word
  /-- Bytes the transfer moves, and bytes of host data received so far, little-endian from offset 0. -/
  bytes    : Nat
  dataIn   : Nat
  /-- The outcome of the protection checks that the write will have (Table 4.6). -/
  pi       : PiCheck
  /-- Slots the command covers. -/
  work     : List SlotWork
  /-- LBA ranges of Write Zeroes or Dataset Management: first LBA, LBAs. -/
  ranges   : List (Nat × Nat)
  /-- Writes a Flush covers that are not yet on NAND: contexts or DSNs (R118). -/
  waits    : List Nat
  /-- Uses the reserved admin context of its function (R96). -/
  reserved : Bool
  /-- Protected-mode posting decided at the sequence point (R108). -/
  prot     : Bool
  /-- Order of the fetch, device-wide (R142, R118). -/
  fetchOrd : Nat
  /-- The command has been taken up and waits: an Asynchronous Event Request for its event, a Set Features for its power state, a queue deletion, a Flush, an activation. -/
  accepted : Bool
  /-- The transfer's parts in host memory as far as they are known, in order: address (none: a Bit Bucket) and bytes; and what of the pointer list is still to be read. -/
  parts    : List (Option Nat × Nat)
  list     : Option PtrList
  /-- Host pages for which a Translation Completion granted no access: the requests that wait for them go untranslated (R77). -/
  untrans  : List Nat
  /-- The Gallery window whose unit or read this is, if any, and the first byte of a read in it (R167, R170). -/
  win      : Option (Nat × Nat)
  /-- Gallery reads: bytes still in a window's staging as the read came, by slot number: data and the 64 B pieces it covers (R170). -/
  overlay  : List (Nat × SlotData × BitVec 64)
deriving DecidableEq, Repr, Inhabited

/-- A submission queue. Keyed by I/O SQ number, or by 4,096 + function for an admin SQ (the SQID coding of Table 4.4). -/
structure Sq where
  fn    : Nat
  slice : Nat
  cq    : Nat
  size  : Nat
  /-- Host address of the queue's first entry. -/
  base  : Nat
  /-- Class by QPRIO; none: the class in DEFAULT_CLASS (R100). -/
  prio  : Option SvcClass
  head  : Nat
  tail  : Nat
  /-- ARRIVAL_TICK of each entry between head and tail, oldest first. -/
  arrivals : List Dword
  /-- Where the queue lies in the function's Controller Memory Buffer, if it lies there. -/
  cmb   : Option Nat
  /-- The page of the next fetch goes untranslated (R77). -/
  untrans : Bool
  /-- A QSTATE write has placed the queue before its first fetch (R154). -/
  placed : Bool
  /-- An entry has been fetched since the queue was created (R154). -/
  fetched : Bool
  /-- The oldest entry is promoted one class (R101); it takes the next turn ahead of the weights. -/
  promoted : Bool
  urgentTurn : Bool
  /-- Fetch stopped: deletion waits (R528). -/
  deleting : Bool
deriving DecidableEq, Repr, Inhabited

/-- A completion queue, keyed as submission queues are. -/
structure Cq where
  fn    : Nat
  slice : Nat
  size  : Nat
  /-- Host address of the queue's first entry. -/
  base  : Nat
  head  : Nat
  tail  : Nat
  phase : Bool
  /-- The page of the next entry goes untranslated (R77). -/
  untrans : Bool
  vec   : Nat
  ien   : Bool
  /-- Entries not yet signalled under Interrupt Coalescing, and the tick of the oldest. -/
  unsignalled : Nat
  since : Option Dword
deriving DecidableEq, Repr, Inhabited

/-- An asynchronous event: type, information, log page. -/
structure AsyncEvent where
  ty   : Nat
  info : Nat
  lid  : Nat
deriving DecidableEq, Repr, Inhabited

/-- Power Management, Arbitration and the other features of one controller, and its CC and CSTS fields. -/
structure Controller where
  en    : Bool
  crime : Bool
  wrr   : Bool
  shn   : Nat
  rdy   : Bool
  shst  : Nat
  pp    : Bool
  /-- Arbitration (R99): burst as log2 (7: no limit), low, medium and high weights (0's based). -/
  burst : Nat
  lpw   : Nat
  mpw   : Nat
  hpw   : Nat
  /-- Interrupt Coalescing: threshold (0's based) and time in 100 µs. -/
  coalThr  : Nat
  coalTime : Nat
  /-- Asynchronous Event Configuration: critical warnings and notices. -/
  aenCfg : Word
  /-- Events not yet given to a request, oldest first, and the types masked until their log is read. -/
  events : List AsyncEvent
  masked : List Nat
  /-- Number of errors logged for the Error Information page. -/
  errors : Nat
  /-- CC.MPS; AQA, ASQ and ACQ as host software wrote them. -/
  mps    : Nat
  aqa    : Word
  asq    : Dword
  acq    : Dword
  /-- Autonomous Power State Transition: its enable, and of each power state the target and the idle time in ms. -/
  apste  : Bool
  apst   : List (Nat × Nat)
  /-- The Changed Namespace List. -/
  changed : List Nat
deriving DecidableEq, Repr, Inhabited

/-- A wait for a power state (R126): the target and the context of its Set Features, if any. -/
structure PsRequest where
  ps  : Nat
  ctx : Option Nat
deriving DecidableEq, Repr, Inhabited

/-- Firmware activation without reset (R122, R123): none, draining, cut. -/
inductive ActPhase where
  | none | draining | cut
deriving DecidableEq, Repr, Inhabited

/-- The tasks of Table 4.9. -/
inductive RescueTask where
  | ident | load | commit | restore | restart
deriving DecidableEq, Repr, Inhabited

/-- Rescue interface (R127 to R129). -/
structure Rescue where
  busy    : Bool
  open_   : Bool
  session : Bool
  seq     : BitVec 8
  result  : Nat
  task    : Option RescueTask
  out0    : Word
  out1    : Word
  /-- The 64 KiB data window; unlisted bytes read 0. -/
  window  : List Host.Cell
deriving DecidableEq, Repr, Inhabited

/-- Queue Engine (04). -/
structure Qen where
  /-- Contexts in use, keyed by context number. -/
  ctxs   : List (Nat × Ctx)
  /-- Contexts in POSTED or SQUASHED: their numbers and their places count as allocated until the next tick (R16). -/
  freed  : List (Nat × Ctx)
  sqs    : List (Nat × Sq)
  cqs    : List (Nat × Cq)
  ctrls  : List (Nat × Controller)
  /-- Round-robin cursors: admin, urgent, and the class and credit of the weighted round robin. -/
  rrAdmin  : Nat
  rrUrgent : Nat
  rrHigh   : Nat
  rrNormal : Nat
  rrBkg    : Nat
  credHigh : Nat
  credNormal : Nat
  credBkg  : Nat
  /-- The queue whose turn goes on over several fetch reads, and the entries it may still yield (none: no limit) (R99). -/
  going  : Option (Nat × Option Nat)
  /-- HOLDUP_VER and WCE were both 1 as this tick began (R108, R109). -/
  protOk : Bool
  /-- Volatile Write Cache enable (R108), HCTM thresholds TMT1, TMT2 in K (R231), Power Management. -/
  wce    : Bool
  tmt1   : Nat
  tmt2   : Nat
  ps     : Nat
  lastOp : Nat
  entryPend : Option PsRequest
  exitSince : Option Dword
  psWaiting : List PsRequest
  /-- Set Features to an operational state waiting for the next re-budget (R125). -/
  psPost : List Nat
  /-- DSC may take the operational budget again (R126). -/
  act    : ActPhase
  actTick : Option Dword
  actCtx : Option Nat
  /-- Functions whose shutdown is in progress (R121): function, SHN. -/
  shutting : List (Nat × Nat)
  rescue : Rescue
  /-- The 16 MiB staging area; unlisted bytes read 0. -/
  staging : List Host.Cell
  stagingLen : Nat
  /-- Fetch order counter. -/
  fetches : Nat
  /-- Fetching stopped device-wide for a fallback (R457). -/
  fetchStop : Bool
deriving DecidableEq, Repr, Inhabited

end Sys2Proof.Machine
end

