-- ==== Sys2Proof/Machine/UnitMedia.lean ====
section
/-! DEFINITION. State of the map engine, the NAND media, the die scheduler and the flash channels (spec/07 to spec/09). -/

namespace Sys2Proof.Machine

/-- FLAGS of a map entry (Table 7.2). -/
inductive EntryFlags where
  | mapped | mappedSlc | suspect | unmapped | lost
deriving DecidableEq, Repr, Inhabited

/-- A map entry (Table 7.1). -/
structure MapEntry where
  flags : EntryFlags
  loc   : Loc
deriving DecidableEq, Repr, Inhabited

/-- A namespace (R183, R186, R136, R300). -/
structure Namespace where
  nsze    : Nat
  lbaf    : Nat
  /-- Granule in KiB: 4, 16 or 64. -/
  granule : Nat
  keySlot : Nat
  qlc     : Bool
  slice   : Nat
  attached : Bool
  readOnly : Bool
deriving DecidableEq, Repr, Inhabited

/-- What a slot on NAND holds (Tables 7.3 and 7.5). -/
inductive SlotKind where
  | data | pad | segment | system
deriving DecidableEq, Repr, Inhabited

/-- A slot's page header fields (Table 7.3). -/
structure SlotHeader where
  lba   : Nat
  dsn   : Nat
  psn   : Nat
  nsid  : Nat
  kind  : SlotKind
  host  : Bool
  slc   : Bool
  lostFill : Bool
  goff  : Nat
  gsize : Nat
  bsn   : Nat
  wtime : Nat
deriving DecidableEq, Repr, Inhabited

/-- A programmed slot: its header, the data, and the key under which the data is stored enciphered (none: stored as it is). What NAND holds is the data enciphered under that key (R300); the cipher gives the data back under the same key only. -/
structure SlotCell where
  hdr  : SlotHeader
  data : SlotData
  key  : Option Nat
deriving DecidableEq, Repr, Inhabited

/-- Band kinds of Table 7.4. -/
inductive BandKind where
  | landing | user | gc | system
deriving DecidableEq, Repr, Inhabited

/-- What the start of a program stamps its page with (Tables 7.3 and 10.3): fleet time bits [61:30], thermal clock bits [45:14], and the die's temperature in °C. -/
structure ProgStamp where
  wtime  : Nat
  thetaW : Nat
  tempW  : Int
deriving DecidableEq, Repr, Inhabited

/-- A programmed page: its slots, or the payload of a parity unit (R321) or of a band summary (R191); what its tail says (Table 10.3): PSN, band sequence number, tread of its codewords, cell mode, band kind, stamp; and whether the program reported good status. -/
structure Page where
  slots : List SlotCell
  parity : Option Nat
  psn   : Nat
  bsn   : Nat
  tread : Nat
  mode  : Nat
  kind  : BandKind
  stamp : ProgStamp
  good  : Bool
deriving DecidableEq, Repr, Inhabited

/-- Band states of Table 7.6. A band not listed is ERASED. -/
inductive BandState where
  | opened | closing | closed | victim | released | erasing
deriving DecidableEq, Repr, Inhabited

/-- Parity classes (R313). -/
inductive ParClass where
  | none | p | pq
deriving DecidableEq, Repr, Inhabited

/-- A band (R190 to R192, R315). -/
structure Band where
  kind    : BandKind
  state   : BandState
  bsn     : Nat
  /-- Present members: die and block number in the die's planes. -/
  members : List (Nat × Nat)
  slice   : Nat
  /-- The namespace of a USER or GC band (R315); 0 for the others. -/
  nsid    : Nat
  qlc     : Bool
  tread   : Nat
  par     : ParClass
  width   : Nat
  /-- Pages programmed or assigned so far, in placement order. -/
  fill    : Nat
  /-- Data pages of the band; its last data wordline is full when fill reaches it. -/
  cap     : Nat
  /-- Valid slots. -/
  valid   : Nat
  degraded : Bool
  /-- Chosen as victim while open (R529), and in which class its copies run. -/
  wanted  : Bool
  copyCls : OpClass
  /-- Members whose summary program is outstanding, and whose erase is; members whose erase has not been issued (Table 7.6). -/
  summaries : List Nat
  erasing : List Nat
  toErase : List Nat
  /-- Slots of it relocated (R292). -/
  reloc   : Nat
  /-- 64 KiB granules being placed page by page: physical block key, NSID and next slot. -/
  cont    : List (Nat × Nat × Nat)
  /-- Class of the last data program, and of the band's padding (R191). -/
  lastCls : OpClass
  padCls : OpClass
  opened  : Dword
  /-- Summary maximum DSN (R209). -/
  maxDsn  : Nat
  /-- Θ at the first program and at the close (R279). -/
  thetaOpen  : Nat
  thetaClose : Option Nat
deriving DecidableEq, Repr, Inhabited

/-- Where the data of a slot to be placed comes from. -/
inductive PlaceSource where
  /-- A host write: context. -/
  | host (c : Nat)
  /-- A copy job. -/
  | copy (job : Nat)
  /-- A map segment, a directory checkpoint, a journal page or other system content. -/
  | system (kind : Nat)
  /-- PAD (R191, R326). -/
  | pad
deriving DecidableEq, Repr, Inhabited

/-- A slot waiting to be placed or in a program (R193). -/
structure PlaceSlot where
  src   : PlaceSource
  nsid  : Nat
  /-- 4 KiB unit of the namespace. -/
  slotNo : Nat
  dsn   : Nat
  kind  : BandKind
  slice : Nat
  qlc   : Bool
  data  : SlotData
  key   : Option Nat
  /-- Stage offset of its data, while it lies in a buffer (R308). -/
  stage : Option Nat
  goff  : Nat
  gsize : Nat
  lostFill : Bool
  poison : Bool
  cls   : OpClass
deriving DecidableEq, Repr, Inhabited

/-- A delta ready to commit or withheld (R197, R198, R204). -/
structure Delta where
  /-- 1 host write, 2 copy, 3 deallocate, 4 zeroes (Table 7.7). -/
  kind  : Nat
  nsid  : Nat
  /-- Granule index, and the count of granules for kinds 3 and 4. -/
  index : Nat
  count : Nat
  value : MapEntry
  /-- A copy's source (R204). -/
  source : Option Loc
  dsn   : Nat
  /-- Context or copy-job number (R198). -/
  owner : Nat
deriving DecidableEq, Repr, Inhabited

/-- A journal record (Table 7.7). -/
structure JournalRecord where
  kind  : Nat
  dsn   : Nat
  value : MapEntry
  count : Nat
  index : Nat
  nsid  : Nat
  owner : Nat
deriving DecidableEq, Repr, Inhabited

/-- A journal page in flight: its records, and which copies have reported good (R199). -/
structure JournalPage where
  recs  : List JournalRecord
  goodA : Bool
  goodB : Bool
  /-- The journal's SYSTEM band, the PSN of the page, and where copy A and copy B of it lie. -/
  band  : Nat
  psn   : Nat
  locA  : Loc
  locB  : Loc
deriving DecidableEq, Repr, Inhabited

/-- A write past its sequence point whose slots are not all on NAND and committed: MXE's placement record (R108). -/
structure WriteRec where
  ctx   : Option Nat
  bufs  : List (BitVec 24)
  /-- Slots not yet reported good, and granules not yet committed. -/
  pend  : Nat
  grans : Nat
  /-- The namespace, for Flush; the posting of the write is past (R118). -/
  nsid  : Nat
  posted : Bool
  /-- It was to post in protected mode at its sequence point (R108, R130). -/
  prot   : Bool
deriving DecidableEq, Repr, Inhabited

/-- A slot that a copy job has read: its offset in the granule, the data with its key and LOSTFILL as the source holds them, and its stage offset while it lies in a buffer (R187, R300, R310). -/
structure CopySlot where
  off   : Nat
  data  : SlotData
  key   : Option Nat
  lostFill : Bool
  stage : Option Nat
deriving DecidableEq, Repr, Inhabited

/-- A copy job: GC, fold, scrub or relocation of one granule (R204), or a job that sets the entry LOST (R338). -/
structure CopyJob where
  nsid  : Nat
  index : Nat
  source : Loc
  band  : Nat
  fold  : Bool
  /-- Class of its work, and whether it is raised to High (R216). -/
  cls   : OpClass
  high  : Bool
  lost  : Bool
  got   : List CopySlot
  dsn   : Nat
  placed : Bool
  /-- Page key of the lost unit of a LOST job (R338). -/
  unit   : Option Nat
  /-- Slots of it whose program has not reported good. -/
  pend  : Nat
  /-- Delta committed or discarded; the record of the committed delta is on NAND (R200). -/
  done  : Bool
  landed : Bool
deriving DecidableEq, Repr, Inhabited

/-- An in-flight granule (R196): the write's context and DSN and its data slots. -/
structure InFlight where
  nsid  : Nat
  index : Nat
  dsn   : Nat
  ctx   : Nat
  slots : List (Nat × SlotData)
  /-- Where its slots have been programmed, and how many are not yet good. -/
  loc   : Option Loc
  pend  : Nat
  /-- Band kind of R193, die class, and the stage offset of each slot that lies in a buffer (R308). -/
  kind  : BandKind
  cls   : OpClass
  stages : List (Nat × Nat)
deriving DecidableEq, Repr, Inhabited

/-- A lock holder (R195), oldest first for a granule: the slots still to read, and the write's bytes of each slot that it covers in part (slot offset, first byte, bytes, data). -/
structure LockHold where
  nsid  : Nat
  index : Nat
  dsn   : Nat
  /-- The earlier holders are past their map commits: its uncovered slots are read, from the location that the entry named then. -/
  reading : Bool
  base  : Option Loc
  need  : List Nat
  part  : List (Nat × Nat × Nat × SlotData)
  /-- A slot read as unrecovered: written as zeros with LOSTFILL. -/
  lost  : List Nat
deriving DecidableEq, Repr, Inhabited

/-- A record of the retirement log (R211). -/
structure Retirement where
  die   : Nat
  block : Nat
  /-- 1 program fail, 2 erase fail, 3 verify at tread 7, 4 die in the failed set. -/
  cause : Nat
  psn   : Nat
  time  : Nat
deriving DecidableEq, Repr, Inhabited

/-- A trim record (R209). -/
structure TrimRecord where
  nsid  : Nat
  index : Nat
  count : Nat
  dsn   : Nat
deriving DecidableEq, Repr, Inhabited

/-- Map Engine (07). Blocks are keyed 8,192 × die + block, granules 2^40 × (NSID − 1) + index. -/
structure Mxe where
  nss    : List (Nat × Namespace)
  /-- The map in DRAM; unlisted: UNMAPPED. -/
  map    : List (Nat × MapEntry)
  dsn    : Nat
  /-- The last context given a DSN in this tick (R104). -/
  seqLast : Option Nat
  psn    : Nat
  bsn    : Nat
  dsnHi  : Word
  psnHi  : Word
  bands  : List (Nat × Band)
  place  : List PlaceSlot
  locks  : List LockHold
  inflight : List InFlight
  /-- Writes past their sequence point, keyed by DSN. -/
  writes : List (Nat × WriteRec)
  deltas : List Delta
  jobs   : List (Nat × CopyJob)
  nextJob : Nat
  /-- Stage buffers of the copies, one of 16 KiB per page (Table 13.2): job, page of the granule, and handle. -/
  jobBufs : List ((Nat × Nat) × BitVec 24)
  /-- Highest DSN committed for a granule (R197), while the in-flight table needs it. -/
  committed : List (Nat × Nat)
  /-- The journal buffer, oldest first, and the tick of its first record. -/
  jbuf   : List JournalRecord
  jfirst : Option Dword
  jpages : List JournalPage
  /-- Journal records on NAND that the segments' copies do not cover, oldest first. -/
  jnand  : List JournalRecord
  jOkA   : Bool
  jOkB   : Bool
  jDieA  : Nat
  jDieB  : Nat
  /-- Journal bytes written to NAND in all; segments changed since their NAND copy with that count at their first change: 2^32 × NSID + segment. -/
  jpos   : Nat
  dirty  : List (Nat × Nat)
  /-- NAND location of each segment's copy, and the entries of the copies. -/
  segs   : List (Nat × Loc)
  segMap : List (Nat × MapEntry)
  /-- The last directory checkpoint (R202): its tick, the segment locations it lists and the journal position it covers. -/
  ckptTick : Dword
  ckptSegs : List (Nat × Loc)
  ckptPos : Nat
  /-- The SYSTEM bands that take the next page of the map journal and of other system content (R190, R199), and the page of each journal page in flight. -/
  jBand  : Option Nat
  sysBand : Option Nat
  /-- Segments still to load on demand (R203). -/
  unloaded : List Nat
  trims  : List TrimRecord
  /-- The DRAM has held the map since the last power-up or supply loss (R48, Table 2.6). -/
  mapKept : Bool
  scanRun : Bool
  /-- Some page of the trim log is lost in both copies, as the loader found it for the scan that runs (R210). -/
  scanTrim : Bool
  scanMode : Nat
  scanPasses : Nat
  scanPass : Nat
  scanPct : Nat
  /-- Strict order in force (R201), and the value it takes at the next tick. -/
  strict : Bool
  folding : Bool
  /-- Retired blocks with cause, and the retirement log, newest first. -/
  retired : List (Nat × Nat)
  retLog : List Retirement
  /-- Per block: erases, wear fraction (R297), BUMP (R273), reads (R295), and the cell mode last programmed (0 SLC, 1 TLC, 2 QLC). -/
  erases : List (Nat × Nat)
  wear   : List (Nat × Rat)
  bump   : List (Nat × Nat)
  reads  : List (Nat × Nat)
  modes  : List (Nat × Nat)
  /-- The spare pool now and at the first Format (R212). -/
  spare  : Nat
  spareFirst : Nat
  readOnly : Bool
  /-- Available Spare is below 1 %: read-only from the next tick (R212). -/
  spareOut : Bool
  /-- LZ_PCT in force (R213). -/
  lzPct  : Nat
  /-- Stop committing deltas: the journal is frozen for a dump (R364). -/
  frozen : Bool
  /-- The first Format has run (R212). -/
  formatted : Bool
  /-- CDW10 of the last Sanitize command (Sanitize Status log). -/
  sanitized : Option Word
  /-- Programmed pages on NAND, keyed 4,096 × (8,192 × die + block) + page. -/
  nand   : List (Nat × Page)
deriving DecidableEq, Repr, Inhabited

/-- Die states of Table 8.2. -/
inductive DieState where
  | idle | busy | suspPend | suspended | offline
deriving DecidableEq, Repr, Inhabited

/-- Threshold offsets of a read (R280, R286): the offsets of its read levels as VT_TABLE holds them, and a shift of all of them in threshold steps. -/
structure VtSet where
  base  : Nat
  shift : Int
deriving DecidableEq, Repr, Inhabited

/-- Kinds of decoding engine (Table 10.6). -/
inductive Engine where
  | hard | soft | joint | verify
deriving DecidableEq, Repr, Inhabited

/-- A codeword in CDX: its place, the engine it needs, the effective class and submit tick of its read, and whether an engine has it (R274). -/
structure Frame where
  loc    : Loc
  eng    : Engine
  cls    : OpClass
  submit : Dword
  busy   : Bool
deriving DecidableEq, Repr, Inhabited

/-- What an operation is for. -/
inductive OpFor where
  /-- A read for a reader: context, copy job, merge, verify or other. -/
  | host (c : Nat)
  | copy (job : Nat)
  | verify
  | scrub
  | rebuild
  /-- A recovery read for a codeword (R282, R283, R285 to R287), with thresholds other than those of L0 if it has them. -/
  | recover (l : Loc) (vt : Option VtSet)
  | merge (c : Nat)
  /-- A program of placed slots, or of the parity unit with this payload (R321). -/
  | place
  | parity (q : Bool) (payload : Nat)
  | summary (band : Nat)
  | erase (band : Nat)
  /-- Logical page of a hold-up dump (R363). -/
  | dump (n : Nat)
  | other
deriving DecidableEq, Repr, Inhabited

/-- Ticks by which an operation is polled and timed out (R249, R251), as the objects stood at its start (R267): its timing object, the time out, the suspend time, the share of a first poll in percent, and the ticks between later polls. -/
structure OpTiming where
  length : Nat
  limit  : Nat
  susp   : Nat
  first  : Nat
  again  : Nat
deriving DecidableEq, Repr, Inhabited

/-- An operation in a die slot or an admission list (R214 to R224). -/
structure DieOp where
  req    : OpRequest
  eff    : OpClass
  promoted : Bool
  submit : Dword
  why    : OpFor
  /-- Pages it reads or programs (physical block, page), and the slots a program carries, four to a page. -/
  pages  : List (Nat × Nat)
  slots  : List PlaceSlot
  psn    : Nat
  cost   : Nat
  /-- Age limit in µs and suspends allowed, as it was submitted or raised since (R218, R220, R240). -/
  ageUs  : Nat
  suspLim : Nat
  /-- The stamp of a program's start (Table 10.3). -/
  stamp  : ProgStamp
  /-- The FCA objects that its last start admitted it with (R267). -/
  timing : OpTiming
  /-- Tick of the start or of the last resume; ticks that it ran before its suspends (R249); suspends so far; resume queued. -/
  started : Dword
  ran    : Nat
  susp   : Nat
  resume : Bool
  /-- Its confirm cycle was withheld and the guard has not cleared since (R255); ticks for which TEMP or STALE has held it (R256). -/
  withheld : Bool
  guardWait : Nat
  /-- Class of the pages' band, and the band of a program, summary or erase. -/
  band   : Nat
deriving DecidableEq, Repr, Inhabited

/-- One die. -/
structure Die where
  state  : DieState
  active : Option Nat
  /-- The suspended operation, if any. -/
  held   : Option Nat
  queue  : List Nat
  arriving  : List Nat
  /-- Reads started in the suspension. -/
  suspReads : Nat
  /-- Considered from this tick on (R217). -/
  readyAt : Dword
  /-- Tick at which the next poll is due, and of the poll that found the die ready (R249). -/
  pollDue : Nat
  found : Option Dword
  /-- Tick of the last BUSY timeout (R251). -/
  timeoutAt : Option Dword
deriving DecidableEq, Repr, Inhabited

/-- Die Scheduler (08). -/
structure Dsc where
  /-- Populated dies; a die not listed is absent and reads OFFLINE. -/
  dies   : List (Nat × Die)
  ops    : List (Nat × DieOp)
  nextOp : Nat
  budget : Nat
  held   : Nat
  /-- Tick of the last staggered start. -/
  stagger : Option Dword
  /-- Eight sensors' last readings, newest first, at most 8 each. -/
  sensors : List (List Int)
  tj     : Int
  step   : Nat
  decided : Option Nat
  decideTick : Dword
  belowSince : Option Dword
  stepCount1 : Nat
  stepCount2 : Nat
  /-- Ticks spent in step 1 and in step 2 (R232). -/
  stepTime1 : Nat
  stepTime2 : Nat
  /-- Byte budget of the interval (R230). -/
  chBytes : Int
  /-- Die time in ticks that a slice has had on a die in a class (R139, R217): 8,192 × die + 8 × slice + rank. -/
  credit : List (Nat × Nat)
  /-- A class 1 event or thermal trip admits dump operations only (R237). -/
  dumpOnly : Bool
deriving DecidableEq, Repr, Inhabited

/-- A read's transfer over its channel (R234): the read, the raw bytes still to move, the tick from which it was ready. -/
structure Xfer where
  op    : DieOp
  /-- Its raw frames have their buffers (R381, Table 13.2). -/
  begun : Bool
  left  : Nat
  ready : Dword
deriving DecidableEq, Repr, Inhabited

/-- Codewords that engines of a kind have (CDX_ENG_STS). -/
def enginesBusy (frames : List Frame) (e : Engine) : Nat := (frames.filter fun f => f.eng == e && f.busy).length

/-- One flash channel (09). -/
structure Channel where
  trained : Bool
  mts     : Nat
  mode    : Nat
  multi   : Bool
  present : BitVec 32
  /-- Volume last selected on each CE_N (R243). -/
  volume  : List (Nat × Nat)
  /-- Temperature at the last training, per CE_N group: °C. -/
  trainTemp : List (Nat × Int)
deriving DecidableEq, Repr, Inhabited

/-- Flash Channel Array (09). -/
structure Fca where
  chs    : List (Nat × Channel)
  /-- The NAND part (R245); all 0 before initialisation. -/
  part   : NandPart
  /-- Last temperature of each die with its tick. -/
  temps  : List (Nat × Int × Dword)
  /-- Write guard conditions of Table 9.5 with the tick of their activation: VIN, VDDQ, PWRFAIL, and TEMP and STALE by die. -/
  vin    : Option Dword
  vddq   : Option Dword
  pwrfail : Option Dword
  tempHeld : List (Nat × Dword)
  staleHeld : List (Nat × Dword)
  /-- Tick from which the readings of a die have been in its window, and from which they have not been stale (R257). -/
  windowSince : List (Nat × Dword)
  freshSince : List (Nat × Dword)
  /-- VDDQ_NAND below VDDQ_DUMP_MV. -/
  vddqDump : Bool
  /-- Dump exemption in force (R258). -/
  dump   : Bool
  /-- Pages awaiting verify: page key and tick of programming (R259), and the slots read back and not decoded: 4 × page key + slot. -/
  verify : List (Nat × Dword)
  verifying : List Nat
  /-- Write guard conditions that cleared in this tick, for one die or for all: what they held is considered from the next tick on (R217). -/
  cleared : List (Option Nat)
  /-- Reads whose data waits for its channel (R234). -/
  xfers  : List Xfer
  /-- Held by a cut gap (R264). -/
  gapHeld : Bool
  /-- Retraining that FCA_TRAIN_CTL.GO has asked for: channel and CE_N (R248). -/
  trainDue : List (Nat × Nat)
  initialised : Bool
deriving DecidableEq, Repr, Inhabited

end Sys2Proof.Machine
end

