-- ==== Sys2Proof/Machine/UnitCodec.lean ====
section
/-! DEFINITION. State of the codec complex, the stripe engine and the hold-up manager (spec/10 to spec/12). -/

namespace Sys2Proof.Machine

/-- Operations of CDX_KEY_CTL.OP (Table 10.9). -/
inductive KeyOp where
  | load | generate | clear
deriving DecidableEq, Repr, Inhabited

/-- A key operation running (R303): its slot and the record it takes or leaves. -/
structure KeyRun where
  op   : KeyOp
  slot : Nat
deriving DecidableEq, Repr, Inhabited

/-- Results of CDX_KEY_STS.RESULT (Table 10.9). -/
inductive KeyResult where
  | ok | keyBad | badOp
deriving DecidableEq, Repr, Inhabited

/-- A codeword that climbs the levels of Table 10.7 (R282): steps taken past L0, recovery reads of the step still outstanding, the engine that takes it then, and the class and tick of its read. -/
structure Climb where
  loc    : Loc
  step   : Nat
  left   : Nat
  eng    : Engine
  cls    : OpClass
  submit : Dword
deriving DecidableEq, Repr, Inhabited

/-- Codec Complex (10). -/
structure Cdx where
  /-- The thermal clock Θ (R277) and the fraction of a millisecond not yet added, in the units of `Config.afAdvance`. -/
  theta  : Dword
  thetaHi : Word
  /-- Θ and the fleet time stored with it last (R277). -/
  thetaStored : Nat
  fleetStored : Nat
  /-- OFF_EST, and the contribution added by the guess (R278). -/
  offEst : Bool
  offGuess : Nat
  tMean  : Int
  pctUsed : Nat
  ewFired : BitVec 3
  /-- Contents of the key slots (R300, R303); a slot not listed is empty. -/
  keys   : List (Nat × Nat)
  /-- CDX_KEY_BUF as written or left by GENERATE, and whether reads return it (R304). -/
  keyBuf : KeyRecord
  keyShown : Bool
  keyRun : Option KeyRun
  keyResult : KeyResult
  /-- Correction cache of R281, most recently used first: block key and correction. -/
  corr   : List (Nat × Int)
  /-- Threshold offsets set last on a LUN by Set Features (R280); a LUN not listed uses the NAND's default thresholds. -/
  lunSet : List (Nat × VtSet)
  /-- Codewords read and not yet decoded (R274, R275). -/
  frames : List Frame
  /-- Buffers of raw frames (Table 13.2): the codeword, whether it is a verify read's, and the handle. -/
  raw : List (Loc × Bool × BitVec 24)
  /-- Codewords that climb the levels of Table 10.7. -/
  climb  : List Climb
  /-- Bands visited in this scrub period and its first tick (R293). -/
  visited : List Nat
  scrubTick : Dword
  /-- Open scrub windows with their closing deadlines, and the first opening not yet handled of each window (R296): fleet ns. -/
  winOpen : List (Nat × Nat)
  winNext : List (Nat × Nat)
  /-- A window closed in this tick: scrub submits no read (R296). -/
  winClosed : Bool
  /-- What slots held before key operations that ended in this tick (R303). -/
  keyPrev : List (Nat × Option Nat)
  /-- Tick from which scrub may submit its next read (R296). -/
  scrubFree : Nat
  /-- Ticks of the host reads of the last 3,600 s, newest first, and whether each ended at L1 or L2 (Table 10.10). -/
  hostReads : List (Dword × Bool)
  /-- Repeats of a poisoned frame read (R311). -/
  poisonTry : List (Loc × Nat)
  /-- The KEK generation derived at the last power-up (R302). -/
  kekGen : Nat
deriving DecidableEq, Repr, Inhabited

/-- Stripe states of Table 11.2; a stripe not in the journal is FREE. -/
inductive StripeState where
  | gathering | sealing | held | degraded
deriving DecidableEq, Repr, Inhabited

/-- A stripe in the journal (Table 11.3) with its accumulators (R323). -/
structure Stripe where
  band  : Nat
  bsn   : Nat
  row   : Nat
  pos   : Nat
  num   : Nat
  cls   : ParClass
  state : StripeState
  perm  : Nat
  /-- Members in ordinal order: die and block; `pOrd` is the ordinal of P (R319). -/
  units : List (Nat × Nat)
  pOrd  : Nat
  issued : BitVec 64
  good   : BitVec 64
  missing : BitVec 64
  accP  : Option Nat
  accQ  : Option Nat
  psnFirst : Nat
  psnLast  : Nat
  started : Dword
deriving DecidableEq, Repr, Inhabited

/-- A Lost Extent Log entry (Table 11.6). -/
structure LostExtent where
  first  : Nat
  count  : Nat
  nsid   : Nat
  cause  : Nat
  coarse : Bool
  hours  : Nat
deriving DecidableEq, Repr, Inhabited

/-- Stripe Engine (11). -/
structure Spe where
  /-- Copy S of the stripe journal: stripes in flight, oldest first. -/
  stripes : List Stripe
  /-- ACC_BUFS as applied in the last Stair stage (R327). -/
  accBufs : Nat
  /-- Journal entries waiting for a log page, and the tick of the first (R330). -/
  pageFill : Nat
  pageTick : Option Dword
  okA : Bool
  okB : Bool
  okS : Bool
  /-- New stripes wait while copy S or the whole journal is rebuilt (Table 11.4). -/
  remirror : Bool
  dieA : Nat
  dieB : Nat
  /-- The stripes as copies A and B hold them on NAND. -/
  nandA : List Stripe
  nandB : List Stripe
  failed : List Nat
  rbActive : Bool
  rbRaised : Bool
  rbPhase2 : Bool
  /-- Phase 1 stripes taken: band, row, position, number. -/
  rbDone : List (Nat × Nat × Nat × Nat)
  /-- Bands that phase 1 still has to finish, in order, and how many there were. -/
  rbBands : List Nat
  rbTotal : Nat
  /-- A rebuild that a reset of class 1 to 3 interrupted goes on at the entry to Hall (R340). -/
  rbResume : Bool
  /-- Tick in which a die joined the failed set with REBUILD_AUTO 1 and no rebuild running: the rebuild starts after it (R332). -/
  rbDue  : Option Dword
  /-- Tick from which the ceiling lets the rebuild take its next stripe (R334), and units of this rebuild counted as lost: page keys (R338). -/
  rbFree : Nat
  rbLost : List Nat
  /-- Media and Data Integrity Errors of the SMART / Health log (R342). -/
  mediaErrors : Nat
  lel : List LostExtent
  lelOver : Bool
deriving DecidableEq, Repr, Inhabited

/-- States of Table 12.2. -/
inductive HumState where
  | init | charging | verified | degraded | absent | dump
deriving DecidableEq, Repr, Inhabited

/-- A discharge test running (R356). -/
structure HumTest where
  mv   : Nat
  tick : Dword
deriving DecidableEq, Repr, Inhabited

/-- RESULT of HUM_TEST_STS (Table 12.6). -/
inductive TestResult where
  | none | pass | fail | abandoned
deriving DecidableEq, Repr, Inhabited

/-- A dump as it is written (Tables 12.3 and 12.4). -/
structure DumpImage where
  seq    : Nat
  tick   : Dword
  fleet  : Dword
  dsnNext : Nat
  psnNext : Nat
  /-- Stage slots (R362): the granules of writes past their sequence point not wholly on NAND, with the offsets of slots dumped with LOSTFILL, and the merges they wait for (R195). -/
  grans  : List (InFlight × List Nat)
  locks  : List LockHold
  /-- Key slots under which its slots are enciphered (R363). -/
  keys   : List (Nat × Nat)
  /-- Accumulators in use at the start of the dump. -/
  accs   : Nat
  jrnl   : List JournalRecord
  /-- A replay has brought its journal records to NAND. -/
  merged : Bool
  copyS  : List Stripe
  /-- REPL_LIST: logical page, die, spare block, page. -/
  repl   : List (Nat × Nat × Nat × Nat)
  /-- Pages programmed good so far. -/
  pages  : Nat
  header : Bool
deriving DecidableEq, Repr, Inhabited

/-- Steps of R364. -/
inductive DumpStep where
  /-- Steps 1 to 4: begin record, suspends, stage slots. -/
  | slots
  /-- From the journal freeze of step 5: journal, copy S, header. -/
  | journal
  /-- Without a header: R364's overflow or abort level. -/
  | aborted
deriving DecidableEq, Repr, Inhabited

/-- A dump running (R359, R360). -/
structure DumpRun where
  thermal : Bool
  /-- HOLDUP_EN and CHG_CTL while it runs (Table 12.2). -/
  armed   : Bool
  chg     : Bool
  tick    : Dword
  step    : DumpStep
  waited  : Bool
  image   : DumpImage
  /-- Pages begun in the dump block of each dump die, keyed by its place among them, and logical pages whose program failed, to be written in the spare block (R363). -/
  begun   : List (Nat × Nat)
  redo    : List Nat
deriving DecidableEq, Repr, Inhabited

/-- Hold-Up Manager (12). -/
structure Hum where
  state : HumState
  /-- The store has reached CHARGED_PCT of FULL_MV since CHARGING (Table 12.2). -/
  reached : Bool
  code  : BitVec 12
  /-- The last 16 samples of HOLDUP_SENSE, oldest first (R356). -/
  codes : List (BitVec 12)
  energy : Nat
  capUf : Nat
  test  : Option HumTest
  result : TestResult
  lastTest : Option Dword
  lastPass : Bool
  /-- The first test has ended; a test deferred by PS3 or PS4 (R356). -/
  tested : Bool
  testDue : Bool
  dump  : Option DumpRun
  /-- The dump on NAND, whether it has been replayed, and the last replayed sequence (R50, R369). -/
  stored : Option DumpImage
  replayed : Nat
  /-- The dump dies as recorded at the last Stair stage, in die-number order (R358). -/
  dies  : List Nat
  /-- Every dump die holds an erased block and an erased spare (R354). -/
  areaReady : Bool
  /-- Duration, size and DUMP_SEQ of the last good dump, and whether the registers have been reloaded since the last reset (Table 12.6). -/
  dur10us : Nat
  mib   : Nat
  seq   : Nat
  loaded : Bool
deriving DecidableEq, Repr, Inhabited

end Sys2Proof.Machine
end

