-- ==== Sys2Proof/Machine/UnitTenant.lean ====
section
/-! DEFINITION. State of the tenancy unit and of the Gallery (spec/05, spec/06). -/

namespace Sys2Proof.Machine

/-- A slice reset requested and not yet at its class 4 event (R155), or at its event and not yet done (R157). -/
inductive SliceReset where
  | drain (since : Dword)
  | squash (since : Dword)
  | clearing (since : Dword) (timedOut : Bool)
deriving DecidableEq, Repr, Inhabited

/-- A slice's own state (05). RD and WR tokens are bytes, CMD tokens are thousandths. -/
structure SliceSt where
  rd : Int
  wr : Int
  cmd : Int
  belowRd : Bool
  belowWr : Bool
  belowCmd : Bool
  servedRd : Nat
  servedWr : Nat
  servedCmd : Nat
  quiesce : Bool
  quiesced : Bool
  /-- Die groups removed and still holding slots of the slice (R145). -/
  removed : BitVec 64
  reset : Option SliceReset
  commitSts : Nat
  /-- The staging set: sub-index and value. -/
  staged : List (Nat × Nat)
  /-- Dirty-log ring: tail, phase, entries waiting for room (R150 to R153). -/
  dlogTail : Nat
  dlogPhase : Bool
  dlogWait : List Dword
  /-- Staged values applied from the next tick on (R145). -/
  applyNext : List (Nat × Nat)
  applying : Bool
deriving DecidableEq, Repr, Inhabited

/-- Tenancy Unit (05). -/
structure Tnu where
  /-- Per-slice state; unlisted: the initial one. -/
  slices : List (Nat × SliceSt)
  /-- The duplicate filter of R151, newest first: slice and entry. -/
  filter : List (Nat × Dword)
  /-- Slice of the last reset, and of the last violation. -/
  rstSlice : Nat
  violSlice : Nat
  /-- NAND budget in force at the last accepted commit (R144). -/
  commitBudget : Nat
deriving DecidableEq, Repr, Inhabited

/-- Window kinds of Table 6.1. -/
inductive WinKind where
  | stage | cmbSq | lba | other
deriving DecidableEq, Repr, Inhabited

/-- A window definition (Table 6.3), as its registers hold it. -/
structure Window where
  ctl   : Word
  base  : Word
  size  : Word
  reqid : Word
  nsid  : Word
  lbaLo : Word
  lbaHi : Word
  stage : Word
deriving DecidableEq, Repr, Inhabited

/-- A 4 KiB unit of an LBA window in staging (R167): bytes and which 64 B pieces have been written. -/
structure LbaUnit where
  win  : Nat
  unit : Nat
  data : SlotData
  mask : BitVec 64
  /-- Fixed as the unit begins: owner slice, namespace, LBA, the function of the peer. -/
  slice : Nat
  nsid  : Nat
  lba   : Nat
  fn    : Nat
deriving DecidableEq, Repr, Inhabited

/-- A fence not yet completed (R172): its window, the function and requester it answers, the contexts or units it covers, and PARTIAL. -/
structure Fence where
  win  : Nat
  fn   : Nat
  /-- Its window was an LBA window as it was accepted (R175, R178). -/
  lba  : Bool
  partial_ : Bool
  /-- Covered complete units not yet durable: contexts of those that became writes, and window and unit of those that wait to. -/
  ctxs : List Nat
  units : List (Nat × Nat)
  /-- Entries of the ingress FIFO accepted before it and not yet in DRAM. -/
  ahead : Nat
deriving DecidableEq, Repr, Inhabited

/-- A read of an LBA window that waits for a context: window, function, first byte in the window, length (R96, R170). -/
structure PeerRead where
  win : Nat
  fn  : Nat
  rel : Nat
  len : Nat
deriving DecidableEq, Repr, Inhabited

/-- A pending window commit (R177). -/
structure WinPending where
  since    : Dword
  affected : List Nat
  /-- The set that was committed. -/
  set      : List (Nat × Window)
deriving DecidableEq, Repr, Inhabited

/-- Gallery (06). -/
structure Gal where
  active  : List (Nat × Window)
  staging : List (Nat × Window)
  pending : Option WinPending
  /-- Units partly written, and complete units waiting to become writes, oldest first. -/
  units   : List LbaUnit
  ready   : List LbaUnit
  /-- FAULT recorded since the last fence, by window. -/
  faults  : List Nat
  fences  : List Fence
  /-- Bytes of STAGE and CMB_SQ windows: key 2^36 × window + offset; unlisted bytes 0. -/
  mem     : List Host.Cell
  /-- Ingress FIFO fill in bytes: window and bytes of each accepted write not yet in DRAM. -/
  fifo    : List (Nat × Nat)
  /-- Bytes of a write that the FIFO has no room for; 0: none waits (R181). -/
  wait    : Nat
  /-- Reads waiting for a context, oldest first. -/
  reads   : List PeerRead
  panic   : Bool
  /-- STAGE_GIB as applied at entry to Hall. -/
  stageGib : Nat
  /-- GAL_ERR_WIN, GAL_COMMIT_STS. -/
  errNone : Bool
  errWin  : Nat
  commitSts : Nat
deriving DecidableEq, Repr, Inhabited

end Sys2Proof.Machine
end

