-- ==== Sys2Proof/Machine/State.lean ====
section
/-! DEFINITION. The state of the controller as plain data: every unit's state, the register fields, the Call Sheet, the queue of waiting commands and what has left the controller; the reasons a step can stop; and the state after reset (notes/assumptions/1.md). -/

namespace Sys2Proof.Machine

/-- Sequences a channel sends that the model names (09): a confirm cycle with its operation kind, a suspend, a resume, Reset LUN, a verify or other read, calibration and training. -/
inductive NandCmd where
  | confirm (k : OpKind)
  /-- The confirm cycle of a read with SLC read commands (R184). -/
  | readSlc
  /-- LUN Set Features of threshold offsets (R280, R286). -/
  | setOffsets (v : VtSet)
  | suspend
  | resume
  | resetLun
  | zqShort
  | training
  | poll
  | getTemperature
  /-- Volume Select with the appointed address (R243). -/
  | volumeSelect (v : Nat)
deriving DecidableEq, Repr, Inhabited

/-- DRAM commands outside ordinary accesses (14). -/
inductive DramCmd where
  | prechargeAll | replay
  | refreshAll | refreshSameBank | rfm | zq | selfRefreshIn | selfRefreshOut | powerDown | caTrain
deriving DecidableEq, Repr, Inhabited

/-- What leaves the controller (notes/assumptions/7.md). -/
inductive Emission where
  /-- A register read's data. -/
  | regData (who : Accessor) (addr : Nat) (value : Nat)
  /-- A bus error to a lockstep pair (R496, R501, R502, R421's refusal is not one). -/
  | busError (cluster : Cluster) (pair : Nat)
  /-- A memory read request with its non-posted tag, function, PASID, host address and length (R65, R71, R134). -/
  | memRead (tag fn : Nat) (pasid : Option Nat) (addr len : Nat)
  /-- An ATS translation request (R77). -/
  | atsRequest (tag fn : Nat) (pasid : Option Nat) (page : Nat)
  /-- A memory write of a command's data: context, function, PASID, host address, data; EP when `poison`; with ECRC when `ecrc` (R64, R84, R134). -/
  | hostData (c fn : Nat) (pasid : Option Nat) (addr : Nat) (data : List Byte) (poison ecrc : Bool)
  /-- A completion queue entry (R111), with its function, PASID and host address. -/
  | cqe (cq sqid cid sqHead status : Nat) (dw0 : Word) (phase : Bool) (fn : Nat) (pasid : Option Nat) (addr : Nat)
  /-- A message signalled interrupt. -/
  | msix (fn vec : Nat)
  /-- A dirty-log entry written to the slice's ring (R150). -/
  | dirtyEntry (slice index : Nat) (entry : Dword)
  /-- A completion of an inbound request (R65, R84; 06): kind, data, ECRC. -/
  | tlpCompletion (kind : CplKind) (data : List Byte) (ecrc : Bool)
  /-- A configuration request's completion: data, or Request Retry Status, or none answered (R40, R88). -/
  | cfgCompletion (fn offset : Nat) (value : Option Word)
  /-- A Call Sheet response: transport, requester, tag, status of Table 17.4, data. -/
  | response (via : Transport) (eid tag status : Nat) (data : List Byte)
  /-- A Tuigor EVENT message (R479). -/
  | event (eid : Nat) (rec : EventRecord)
  /-- An MCTP control or NVMe-MI answer (R470). -/
  | mctpAnswer (i3c : Bool) (eid : Nat)
  /-- An AER error logged and signalled with its severity (R83). -/
  | aer (e : AerError) (sev : AerSeverity)
  /-- Log page or Identify data written to host memory (R527, R483): context, a tag of the page, the function, the places of its data pointer, the data. -/
  | pageData (c page fn : Nat) (parts : List (Option Nat × Nat)) (data : List Byte)
  /-- A command sequence on a die's channel, with its opcodes (R250). -/
  | nand (die : Nat) (cmd : NandCmd) (opcodes : List Byte)
  | dram (ch sub : Nat) (cmd : DramCmd)
  /-- An AVSBus Voltage request in mV (R512). -/
  | avs (mv : Nat)
  /-- Transmitters enter electrical idle (R38, R359). -/
  | electricalIdle
  /-- A burst delivered to its requester: address, data, poisoned (R394, R405). -/
  | dramData (req : DramRequester) (addr data : Nat) (poison : Bool)
  /-- A buffer granted: unit, handle (R380). -/
  | grant (unit : Nat) (h : BitVec 24)
  /-- The SMBus target drops its transfer and resets its interface (R519). -/
  | smbusReset
  /-- A byte read by JTAG (R442). -/
  | jtagData (b : Byte)
  /-- Bytes of a reel slot read through BAR4 (R492). -/
  | reelData (first : Bool) (slot : Nat) (bytes : List Byte)
deriving DecidableEq, Repr, Inhabited

/-- Ticks from which the periodic rows count their next period (notes/assumptions/8.md). -/
structure Timers where
  refill   : Dword
  floor    : Dword
  rebudget : Dword
  sensors  : Dword
  theta    : Dword
  thetaStore : Dword
  wear     : Dword
  seconds  : Dword
  energy   : Dword
  rowClear : Dword
  zq       : Dword
  dramZq   : Dword
deriving DecidableEq, Repr, Inhabited

/-- The register fields that hold a value of their own. Keys: ((instance × 2^32 + address) × 32 + lsb); an unlisted field holds its reset value. -/
structure RegFile where
  vals  : List (Nat × Nat)
  /-- Bits of RW1C fields that hardware set in this tick (R7). -/
  hwSet : List (Nat × Nat)
  /-- Value of an RC field before this tick's additions, and what was added in this tick (R8). -/
  rcPre : List (Nat × Nat)
  rcAdd : List (Nat × Nat)
  /-- Upper words of 8 B writes, served in the next tick, in arrival order (R496). -/
  split : List (Accessor × Nat × Word)
  /-- Upper words of 8 B reads, served in the next tick, in arrival order (R496). -/
  splitRd : List (Accessor × Nat)
deriving DecidableEq, Repr, Inhabited

/-- The AK9640. -/
structure State where
  /-- Commands waiting, first in, first out. -/
  pending : List Instr
  /-- What has left the controller, newest first. -/
  out     : List Emission
  /-- Free values drawn so far (notes/assumptions/6.md). -/
  freeCnt : Nat
  timers  : Timers
  tbu     : Tbu
  power   : Power
  regf    : RegFile
  /-- Call Sheet values that differ from their defaults, keyed 256 × index + sub-index, as little-endian numbers (R462). -/
  sheet   : List (Nat × Nat)
  /-- Values before this tick's writes, for the units' use in the write tick (R17): none where the default was in force. -/
  sheetOld : List (Nat × Option Nat)
  hlu : Hlu
  qen : Qen
  tnu : Tnu
  gal : Gal
  mxe : Mxe
  dsc : Dsc
  fca : Fca
  cdx : Cdx
  spe : Spe
  hum : Hum
  bpm : Bpm
  dmc : Dmc
  ccl : Ccl
  csu : Csu
  mgp : Mgp
  cru : Cru
deriving DecidableEq, Repr, Inhabited

/-- Why a step stops. -/
inductive Fault where
  /-- Raised by DRAM_REQUEST and PATROL_SCRUB for an address at or above D from a requester other than CCL: no such DRAM address exists (R392). Safe: the spec gives no access there. -/
  | noDramAddress (addr : Nat)
deriving DecidableEq, Repr, Inhabited

/-- Why a command has no meaning. -/
inductive Refusal where
  /-- Raised by an arm of `exec` whose command is not modelled. Safe. -/
  | notModelled (mnemonic : String)
deriving DecidableEq, Repr, Inhabited

/-! The state after reset: the end of a power-on reset (POWER_UP), PERST_N asserted, every object at its default, blank media (notes/assumptions/1.md and 5.md). -/

def Timers.initial : Timers := ⟨0, 0, 0, 0, 0, 0, 0, 0, 0, 0, 0, 0⟩

def Tbu.initial : Tbu :=
  { tick := 0, fleet := 0, fleetQ := 0, fleetSrc := 0, slewLeft := 0, slewAcc := 0, lastOffset := 0,
    classes := 0, hiLatch := 0, resetNow := false }

def Power.initial : Power :=
  { railsOut := [], perst := true, pwrfail := false, unpowered := false, tripHeld := false, lossHeld := false,
    shutWork := false, mediaPend := false, stage := .foyer, shown := .foyer, startKind := .undecided, stageMs := 0, releaseTick := none, bootTick := none,
    hallTick := none, cfgReady := false, adminOpen := false, marker := false, mapRestored := false, stairSeen := false, offDue := true,
    clockMode := 0, subsysId := 0, vfBar2 := 0, avsMv := 720, avsPend := none, avsTick := none, tripSensor := none,
    coolSince := none, dumpEndTick := none, abortRails := [] }

def RegFile.initial : RegFile := { vals := [], hwSet := [], rcPre := [], rcAdd := [], split := [], splitRd := [] }

def Hlu.initial : Hlu :=
  { up := false, flit := false, rate := 0, width := 0, l0pWidth := 0, power := .l0, laneRev := false, l0pEn := false, l1En := false,
    l11En := false, l12En := false, idleSince := none, txNow := 0, rxNow := 0, txSum := 0, rxSum := 0, winSince := 0, lowUse := false,
    mps := 128, mrrs := 512, tag10 := false, cplTimeoutUs := 50000, vfEn := false, vfMse := false, numVfs := 0, ecrcGen := false, ecrcChk := false, fns := [], tags := [], freedTags := [],
    dmaQueue := [], atc := [], flrTick := [], ptmEn := false, ptmLast := none, ptmFails := 0, ptmValid := false,
    aer := [], correctable := 0, msix := [] }

def Rescue.initial : Rescue :=
  { busy := false, open_ := false, session := false, seq := 0, result := 0, task := none, out0 := 0, out1 := 0, window := [] }

def Qen.initial : Qen :=
  { ctxs := [], freed := [], sqs := [], cqs := [], ctrls := [], rrAdmin := 0, rrUrgent := 0, rrHigh := 0, rrNormal := 0,
    rrBkg := 0, credHigh := 0, credNormal := 0, credBkg := 0, going := none, protOk := false, wce := true, tmt1 := 0, tmt2 := 0, ps := 0, lastOp := 0,
    entryPend := none, exitSince := none, psWaiting := [], psPost := [], act := .none, actTick := none, actCtx := none,
    shutting := [], rescue := Rescue.initial, staging := [], stagingLen := 0, fetches := 0, fetchStop := false }

def Tnu.initial : Tnu := { slices := [], filter := [], rstSlice := 0, violSlice := 0, commitBudget := 0 }

def Gal.initial : Gal :=
  { active := [], staging := [], pending := none, units := [], ready := [], faults := [], fences := [], mem := [],
    fifo := [], wait := 0, reads := [], panic := false, stageGib := 4, errNone := false, errWin := 0, commitSts := 0 }

def Mxe.initial : Mxe :=
  { nss := [], map := [], dsn := 0, seqLast := none, psn := 0, bsn := 0, dsnHi := 0, psnHi := 0, bands := [], place := [], locks := [],
    inflight := [], writes := [], deltas := [], jobs := [], nextJob := 0, jobBufs := [], committed := [], jbuf := [], jfirst := none,
    jpages := [], jnand := [], jOkA := false, jOkB := false, jDieA := 0, jDieB := 0, jpos := 0, dirty := [], segs := [],
    segMap := [], ckptTick := 0, ckptSegs := [], ckptPos := 0, jBand := none, sysBand := none, unloaded := [], mapKept := false, trims := [], scanRun := false, scanTrim := false, scanMode := 0, scanPasses := 0,
    scanPass := 0, scanPct := 0, strict := true, folding := false, retired := [], retLog := [], erases := [], wear := [],
    bump := [], reads := [], modes := [], spare := 0, spareFirst := 0, readOnly := false, spareOut := false, lzPct := 3, frozen := false,
    formatted := false, sanitized := none, nand := [] }

def Dsc.initial : Dsc :=
  { dies := [], ops := [], nextOp := 0, budget := 0, held := 0, stagger := none, sensors := [], tj := 0, step := 0,
    decided := none, decideTick := 0, belowSince := none, stepCount1 := 0, stepCount2 := 0, stepTime1 := 0, stepTime2 := 0, chBytes := 0, credit := [],
    dumpOnly := false }

def Fca.initial : Fca :=
  { chs := [], part := ⟨0, 0, 0, 0⟩, temps := [], vin := none, vddq := none, pwrfail := none, tempHeld := [],
    staleHeld := [], windowSince := [], freshSince := [], vddqDump := false, dump := false, verify := [], verifying := [], cleared := [], xfers := [], gapHeld := false, trainDue := [], initialised := false }

def Cdx.initial : Cdx :=
  { theta := 0, thetaHi := 0, thetaStored := 0, fleetStored := 0, offEst := false, offGuess := 0, tMean := 0, pctUsed := 0,
    ewFired := 0, keys := [], keyBuf := 0, keyShown := false, keyRun := none, keyResult := .ok, corr := [], lunSet := [],
    frames := [], raw := [], climb := [], visited := [], scrubTick := 0, winOpen := [], winNext := [], winClosed := false, keyPrev := [], scrubFree := 0, hostReads := [],
    poisonTry := [], kekGen := 1 }

def Spe.initial : Spe :=
  { stripes := [], accBufs := 160, pageFill := 0, pageTick := none, okA := false, okB := false, okS := false,
    remirror := false, dieA := 0, dieB := 0, nandA := [], nandB := [], failed := [], rbResume := false, rbDue := none, rbFree := 0, rbLost := [], mediaErrors := 0, rbActive := false, rbRaised := false,
    rbPhase2 := false, rbDone := [], rbBands := [], rbTotal := 0, lel := [], lelOver := false }

def Hum.initial : Hum :=
  { state := .init, reached := false, code := 0, codes := [], energy := 0, capUf := 0, test := none, result := .none, lastTest := none,
    lastPass := false, tested := false, testDue := false, dump := none, stored := none, replayed := 0, dies := [],
    areaReady := false, dur10us := 0, mib := 0, seq := 0, loaded := false }

/-- Pools at power-up: Table 13.1's default counts, rings empty, the reservations of Table 13.2 free. -/
def Bpm.initial : Bpm :=
  { pools := [⟨16384, [], [], 0⟩, ⟨8192, [], [], 1280⟩, ⟨4096, [], [], 256⟩, ⟨1536, [], [], 0⟩, ⟨192, [], [], 160⟩],
    descs := [], ringDepth := 64, urgentSets := 256, sliceHeld := [], corrected := [], cleaning := [], retired := [],
    freedNow := [], chains := [], withheld := false, errUnit := 0, errHandle := 0, sram := [], poisoned := [], ord := 0 }

def Dmc.initial : Dmc :=
  { trained := false, begun := false, chMask := 0, ranks := 0, dens32 := false, cidBits := 0, mts := 0, order := 0, spareMib := 2048,
    dead := [], queue := [], held := [], draining := [], hits := [], turn := [], openRows := [], hitBanks := [], lastUse := [], refAt := [], mr4At := none, panic := false,
    hot := false, postponed := [], dqAdjust := [], oscRead := [], rows := [], alerts := [], retrained := [], retry := [], ret := [], selfRefresh := false,
    srDump := false, srDue := false, powerDown := [], bytes := [], poisoned := [] }

def Ccl.initial : Ccl :=
  { epoch := 0, stA := .reset, stB := .reset, owner := .a, gap := none, noCluster := false, leave := [], failsA := [],
    failsB := [], lastCut := none, fence := none, lastCause := 0, lastFrom := 0, lastGap := 0, exc := [], script := [], scriptW := 0, scriptR := 0, scriptHeld := [],
    ckptAt := 0, ckptJournal := 0, ckptTick := 0, heartbeat := 0, selftestTick := 0, rotateTick := 0, planned := none,
    tcm := [] }

def ConfigRecord.initial : ConfigRecord :=
  { seq := 0, takeState := 0, trials := 0, sealSt := 0, runningId := 0, archive0 := 0, archive1 := 0, winBase := 0,
    bank3 := 0, wpMap := 0 }

def Csu.initial : Csu :=
  { flash := [], cfg := ConfigRecord.initial, cfgPage := 0, banks := [], portA := ⟨false, 0⟩, portB := ⟨false, 0⟩,
    loaders := [], wp := 0, erases := [], winErases := 0, slide := none, winHeld := [], suspTicks := 0, sealSt := 0, sealNext := none,
    session := false, challenge := 0, revoked := 0, svn := 0, kekGen := 1, arch0 := [], arch1 := [], runId := 0,
    runScript := 0, runRaise := false, runSvn := 0, window := none, fallback := none, writing := false }

def Mgp.initial : Mgp :=
  { storing := [], fw := [], gapWait := [], fwNum := 0, wrote := [], portBusy := [], portSeq := [], portStatus := [],
    events := [], evSeq := 0, summary := 0, ewLife := 0, i3cAddr := none, smbusAddr := 0x1D }

def Cru.initial : Cru :=
  { next := 0, queue := [], writing := none, staged := [], running := [], firstUsed := 0, missed := 0, frozen := none,
    gapFlag := false, nandReady := false, stagingOnly := false, lost := false, flushTick := none, hiLatch := 0 }

/-- The machine right after power-on reset. POWER_CYCLES (0x1100.03) counts this power-up (R53); SEAL_CHALLENGE is drawn (R443). -/
def State.reset : State :=
  { pending := [], out := [], freeCnt := 1, timers := Timers.initial, tbu := Tbu.initial, power := Power.initial,
    regf := RegFile.initial, sheet := [(256 * 0x1100 + 3, 1)], sheetOld := [], hlu := Hlu.initial, qen := Qen.initial,
    tnu := Tnu.initial, gal := Gal.initial, mxe := Mxe.initial, dsc := Dsc.initial, fca := Fca.initial,
    cdx := Cdx.initial, spe := Spe.initial, hum := Hum.initial, bpm := Bpm.initial, dmc := Dmc.initial,
    ccl := Ccl.initial, csu := { Csu.initial with challenge := Config.freeNat 0 % 2 ^ 256 }, mgp := Mgp.initial, cru := Cru.initial }

end Sys2Proof.Machine
end

