-- ==== Sys2Proof/Machine/Ops.lean ====
section
/-! DEFINITION. The named operations the meanings are built from: tables and byte memories in one canonical form, bits and bytes, time, register fields (R4 to R8), Call Sheet values as units use them (R17), emissions, free values, and one modifier per part of the state. -/

namespace Sys2Proof.Machine

/-- What a meaning answers. -/
abbrev Out := Host.Outcome State Fault Refusal

/-! ## Tables: lists of (key, value) with strictly rising keys -/

/-- The value at a key. -/
def Tbl.find? {α : Type} : List (Nat × α) → Nat → Option α
  | [], _ => none
  | (k', v) :: t, k => if k = k' then some v else Tbl.find? t k

/-- The value at a key, or the value an unlisted key stands for. -/
def Tbl.getD {α : Type} (t : List (Nat × α)) (k : Nat) (d : α) : α := (Tbl.find? t k).getD d

/-- Enter a value at a key, in its place. -/
def Tbl.put {α : Type} : List (Nat × α) → Nat → α → List (Nat × α)
  | [], k, v => [(k, v)]
  | (k', v') :: t, k, v =>
    if k < k' then (k, v) :: (k', v') :: t
    else if k = k' then (k, v) :: t
    else (k', v') :: Tbl.put t k v

/-- Remove a key. -/
def Tbl.del {α : Type} : List (Nat × α) → Nat → List (Nat × α)
  | [], _ => []
  | (k', v) :: t, k => if k = k' then Tbl.del t k else (k', v) :: Tbl.del t k

/-- Enter a value, or remove the key when the value is what an unlisted key stands for. -/
def Tbl.setD {α : Type} [DecidableEq α] (t : List (Nat × α)) (k : Nat) (v d : α) : List (Nat × α) :=
  if v = d then Tbl.del t k else Tbl.put t k v

/-- Change the value at a key that is listed. -/
def Tbl.adjust {α : Type} (t : List (Nat × α)) (k : Nat) (f : α → α) : List (Nat × α) :=
  t.map fun e => if e.1 = k then (e.1, f e.2) else e

/-- The key is listed. -/
def Tbl.has {α : Type} (t : List (Nat × α)) (k : Nat) : Bool := (Tbl.find? t k).isSome

/-- Every key of the tail is above `k`, all along. -/
def Tbl.above {α : Type} : Nat → List (Nat × α) → Bool
  | _, [] => true
  | k, (k', _) :: t => decide (k < k') && Tbl.above k' t

/-- Keys rise strictly. -/
def Tbl.sorted {α : Type} : List (Nat × α) → Bool
  | [] => true
  | (k, _) :: t => Tbl.above k t

/-! ## Byte memories -/

/-- Canonical form: rising addresses, no entry equal to what an unlisted address reads as. -/
def Memory.wf (d : Byte) (m : List Host.Cell) : Bool := Tbl.sorted m && m.all fun c => c.2 != d

/-- The byte at an address; an unlisted one reads `d`. -/
def Memory.read (d : Byte) (m : List Host.Cell) (a : Nat) : Byte := Tbl.getD m a d

/-- Write one byte. -/
def Memory.write (d : Byte) (m : List Host.Cell) (a : Nat) (b : Byte) : List Host.Cell := Tbl.setD m a b d

/-- Write bytes at rising addresses. -/
def Memory.writeAll (d : Byte) : List Host.Cell → Nat → List Byte → List Host.Cell
  | m, _, [] => m
  | m, a, b :: bs => Memory.writeAll d (Memory.write d m a b) (a + 1) bs

/-- `n` bytes from an address. -/
def Memory.readN (d : Byte) (m : List Host.Cell) : Nat → Nat → List Byte
  | _, 0 => []
  | a, n + 1 => Memory.read d m a :: Memory.readN d m (a + 1) n

/-- Drop every listed byte of a range: the bytes there read `d` again. -/
def Memory.clearRange (m : List Host.Cell) (a n : Nat) : List Host.Cell :=
  m.filter fun c => c.1 < a || a + n ≤ c.1

/-! ## Bits and bytes -/

/-- Bits [msb:lsb] of a number. -/
def bitsOf (v msb lsb : Nat) : Nat := v / 2 ^ lsb % 2 ^ (msb + 1 - lsb)

/-- Bit n of a number. -/
def bitAt (v n : Nat) : Bool := v / 2 ^ n % 2 == 1

/-- A Bool as a bit. -/
def bit01 (b : Bool) : Nat := if b then 1 else 0

/-- The little-endian number of bytes. -/
def leNat : List Byte → Nat
  | [] => 0
  | b :: bs => b.toNat + 256 * leNat bs

/-- The `n` low bytes of a number, little-endian. -/
def leBytes : Nat → Nat → List Byte
  | 0, _ => []
  | n + 1, v => BitVec.ofNat 8 v :: leBytes n (v / 256)

/-- A number of `n` bits in two's complement. -/
def toInt (n v : Nat) : Int := if v % 2 ^ n < 2 ^ (n - 1) then (v % 2 ^ n : Nat) else (v % 2 ^ n : Nat) - (2 ^ n : Nat)

/-- An integer as `n` bits. -/
def ofInt (n : Nat) (i : Int) : Nat := (i % (2 ^ n : Nat)).toNat

/-- Least upper bound of a ÷ b. -/
def ceilDiv (a b : Nat) : Nat := (a + b - 1) / b

/-- Insert before the first element that does not come earlier. -/
def insertBy {α : Type} (le : α → α → Bool) (x : α) : List α → List α
  | [] => [x]
  | y :: t => if le x y then x :: y :: t else y :: insertBy le x t

/-- A stable sort. -/
def sortBy {α : Type} (le : α → α → Bool) : List α → List α
  | [] => []
  | x :: t => insertBy le x (sortBy le t)

/-- CRC-32C (Table 7.3) over bytes: reflected polynomial 0x82F6_3B78, start and final complement. -/
def crc32cBit (c : Nat) : Nat := if c % 2 = 1 then (c / 2) ^^^ 0x82F63B78 else c / 2

def crc32cByte (c : Nat) (b : Byte) : Nat :=
  crc32cBit (crc32cBit (crc32cBit (crc32cBit (crc32cBit (crc32cBit (crc32cBit (crc32cBit (c ^^^ b.toNat))))))))

def crc32c (bs : List Byte) : Nat := (bs.foldl crc32cByte 0xFFFFFFFF) ^^^ 0xFFFFFFFF

/-! ## One modifier per part of the state -/

def State.modTimers (f : Timers → Timers) (s : State) : State := { s with timers := f s.timers }
def State.modTbu (f : Tbu → Tbu) (s : State) : State := { s with tbu := f s.tbu }
def State.modPower (f : Power → Power) (s : State) : State := { s with power := f s.power }
def State.modRegf (f : RegFile → RegFile) (s : State) : State := { s with regf := f s.regf }
def State.modHlu (f : Hlu → Hlu) (s : State) : State := { s with hlu := f s.hlu }
def State.modQen (f : Qen → Qen) (s : State) : State := { s with qen := f s.qen }
def State.modTnu (f : Tnu → Tnu) (s : State) : State := { s with tnu := f s.tnu }
def State.modGal (f : Gal → Gal) (s : State) : State := { s with gal := f s.gal }
def State.modMxe (f : Mxe → Mxe) (s : State) : State := { s with mxe := f s.mxe }
def State.modDsc (f : Dsc → Dsc) (s : State) : State := { s with dsc := f s.dsc }
def State.modFca (f : Fca → Fca) (s : State) : State := { s with fca := f s.fca }
def State.modCdx (f : Cdx → Cdx) (s : State) : State := { s with cdx := f s.cdx }
def State.modSpe (f : Spe → Spe) (s : State) : State := { s with spe := f s.spe }
def State.modHum (f : Hum → Hum) (s : State) : State := { s with hum := f s.hum }
def State.modBpm (f : Bpm → Bpm) (s : State) : State := { s with bpm := f s.bpm }
def State.modDmc (f : Dmc → Dmc) (s : State) : State := { s with dmc := f s.dmc }
def State.modCcl (f : Ccl → Ccl) (s : State) : State := { s with ccl := f s.ccl }
def State.modCsu (f : Csu → Csu) (s : State) : State := { s with csu := f s.csu }
def State.modMgp (f : Mgp → Mgp) (s : State) : State := { s with mgp := f s.mgp }
def State.modCru (f : Cru → Cru) (s : State) : State := { s with cru := f s.cru }
def State.setSheet (t : List (Nat × Nat)) (s : State) : State := { s with sheet := t }
def State.setSheetOld (t : List (Nat × Option Nat)) (s : State) : State := { s with sheetOld := t }

/-- Something leaves the controller. -/
def State.emit (e : Emission) (s : State) : State := { s with out := e :: s.out }

/-- Draw a free value (notes/assumptions/6.md): the value, and the state after. -/
def State.fresh (s : State) : Nat := Config.freeNat s.freeCnt

def State.drawn (s : State) : State := { s with freeCnt := s.freeCnt + 1 }

/-! ## Time: 800 ticks are 1 µs (R21) -/

def usTicks (us : Nat) : Nat := 800 * us

def msTicks (ms : Nat) : Nat := 800000 * ms

def secTicks (n : Nat) : Nat := 800000000 * n

def hourTicks (n : Nat) : Nat := 2880000000000 * n

/-- The current tick. -/
def State.now (s : State) : Dword := s.tbu.tick

/-- Ticks since a tick. -/
def State.since (s : State) (t : Dword) : Nat := (s.tbu.tick - t).toNat

/-- At least `n` ticks have passed since a tick. -/
def State.passed (s : State) (t : Dword) (n : Nat) : Bool := decide (n ≤ s.since t)

/-- The last due tick of work with a fixed period of `n` ticks that is kept from `t` on: work done late does not move the period (R3). -/
def State.lastDue (s : State) (t : Dword) (n : Nat) : Dword := t + BitVec.ofNat 64 (s.since t / n * n)

/-- As `passed`, for a tick that may be missing (then false). -/
def State.passedSome (s : State) (t : Option Dword) (n : Nat) : Bool :=
  match t with
  | some t => s.passed t n
  | none => false

/-- Fleet time is valid (R474). -/
def State.fleetValid (s : State) : Bool := s.tbu.fleetSrc == 1 || s.tbu.fleetSrc == 2

/-! ## Register fields -/

/-- The key of a field: instance, word of an array. -/
def Field.key (f : Field) (inst w : Nat) : Nat := 32 * (2 ^ 32 * inst + (f.reg + 4 * w)) + f.lsb

/-- A field's stored value. -/
def RegFile.get (r : RegFile) (f : Field) (inst w : Nat) : Nat := Tbl.getD r.vals (f.key inst w) f.reset

/-- Store a field's value. -/
def RegFile.put (r : RegFile) (f : Field) (inst w v : Nat) : RegFile :=
  { r with vals := Tbl.setD r.vals (f.key inst w) (v % 2 ^ f.width) f.reset }

/-- Hardware adds to an RC field: it saturates, and this tick's addition is kept apart (R8). -/
def RegFile.count (r : RegFile) (f : Field) (inst w n : Nat) : RegFile :=
  { r with
    vals := Tbl.setD r.vals (f.key inst w) (min (2 ^ f.width - 1) (r.get f inst w + n)) f.reset
    rcPre := if Tbl.has r.rcPre (f.key inst w) then r.rcPre else Tbl.put r.rcPre (f.key inst w) (r.get f inst w)
    rcAdd := Tbl.put r.rcAdd (f.key inst w) (min (2 ^ f.width - 1) (Tbl.getD r.rcAdd (f.key inst w) 0 + n)) }

/-- Hardware sets bits of an RW1C field (R7). -/
def RegFile.flag (r : RegFile) (f : Field) (inst w mask : Nat) : RegFile :=
  { r with
    vals := Tbl.setD r.vals (f.key inst w) ((r.get f inst w ||| mask) % 2 ^ f.width) f.reset
    hwSet := Tbl.put r.hwSet (f.key inst w) (Tbl.getD r.hwSet (f.key inst w) 0 ||| mask) }

/-- A write to one field by its access code (Table 0.1, R7). -/
def RegFile.write (r : RegFile) (f : Field) (inst w v : Nat) : RegFile :=
  match f.acc with
  | .rw | .rws => r.put f inst w v
  | .rw1c =>
    r.put f inst w ((List.range f.width).foldl (fun acc i =>
      if bitAt v i && !bitAt (Tbl.getD r.hwSet (f.key inst w) 0) i then acc &&& (2 ^ f.width - 1 - 2 ^ i) else acc)
      (r.get f inst w))
  | .ro | .wo | .rc => r

/-- A read's clear of an RC field: the value before this tick is reported, this tick's additions stay (R8). -/
def RegFile.rcRead (r : RegFile) (f : Field) (inst w : Nat) : Nat :=
  match Tbl.find? r.rcPre (f.key inst w) with
  | some v => v
  | none => r.get f inst w

def RegFile.rcClear (r : RegFile) (f : Field) (inst w : Nat) : RegFile :=
  { r with
    vals := Tbl.setD r.vals (f.key inst w) (Tbl.getD r.rcAdd (f.key inst w) f.reset) f.reset
    rcPre := if Tbl.has r.rcPre (f.key inst w) then Tbl.put r.rcPre (f.key inst w) 0 else r.rcPre }

/-- Drop the stored fields of one unit, but for those `keep` names: they hold their reset values again. -/
def RegFile.resetUnit (r : RegFile) (unit : Nat) (keep : List Field) : RegFile :=
  let inUnit := fun (k : Nat) => k / 32 % 2 ^ 32 / 0x100000 == 0x200 + unit
  let kept := fun (k : Nat) => keep.any fun f => f.reg == k / 32 % 2 ^ 32 && f.lsb == k % 32
  { r with
    vals := r.vals.filter fun e => !inUnit e.1 || kept e.1
    hwSet := r.hwSet.filter fun e => !inUnit e.1
    rcPre := r.rcPre.filter fun e => !inUnit e.1
    rcAdd := r.rcAdd.filter fun e => !inUnit e.1 }

/-- A field of instance `inst`. -/
def State.fld (s : State) (f : Field) (inst : Nat := 0) : Nat := s.regf.get f inst 0

/-- Set a field. -/
def State.setFld (f : Field) (inst v : Nat) (s : State) : State := s.modRegf fun r => r.put f inst 0 v

/-- Count in an RC field. -/
def State.count (f : Field) (inst n : Nat) (s : State) : State := s.modRegf fun r => r.count f inst 0 n

/-- Set bits of an RW1C field. -/
def State.flag (f : Field) (inst mask : Nat) (s : State) : State := s.modRegf fun r => r.flag f inst 0 mask

/-! ## Call Sheet values -/

/-- The key of an object address. -/
def sheetKey (index sub : Nat) : Nat := 256 * index + sub

/-- The default of an object: fixed, or slice 0's (WIN_STAGE_MAX from STAGE_GIB), or Config's (Tables 5.5, 6.4, 10.10, 16.9, 17.8, 18.6). -/
def objDefault (stageGib : Nat) (o : Obj) (index sub : Nat) : Nat :=
  if index = 0x8000 then
    match sub with
    | 0x05 => 4095
    | 0x06 => 4096
    | 0x08 => 16320
    | 0x0C => 0xFFFFFFFFFFFFFFFF
    | 0x15 => 4096
    | 0x40 => 512
    | 0x41 => 1024 * stageGib
    | _ => o.dflt
  else if index = 0x3C10 then Config.afDefault sub
  else if 0x3D20 ≤ index ∧ index ≤ 0x3D37 then Config.jdModel (sheetKey index sub)
  else if 0x5C40 ≤ index ∧ index ≤ 0x5C7F then Config.snapList (index - 0x5C40)
  else if index = 0x1000 ∧ sub = 3 then Config.orderCode
  else o.dflt

/-- The default of an object in this state. -/
def State.dflt (s : State) (o : Obj) (index sub : Nat) : Nat :=
  objDefault (Tbl.getD s.sheet (sheetKey 0x2C00 0x01) 4) o index sub

/-- The value at an object address as a Call Sheet read sees it. -/
def State.sheetVal (s : State) (o : Obj) (index sub : Nat) : Nat :=
  Tbl.getD s.sheet (sheetKey index sub) (s.dflt o index sub)

/-- Key in `sheetOld` of a value that DSC uses until its next re-budget (R240); the other keys are the objects', for one tick (R17). -/
def dueKey (k : Nat) : Nat := 2 ^ 40 + k

/-- An object of Table 8.7, whose value takes effect at the next re-budget (R240). -/
def dscObject (k : Nat) : Bool := k / 256 == 0x3400

/-- The value before a write that is not yet in force, if there is one (none inside: the default). -/
def State.oldSheet (s : State) (k : Nat) : Option (Option Nat) := (Tbl.find? s.sheetOld (dueKey k)).orElse fun _ => Tbl.find? s.sheetOld k

/-- The value a unit uses: the old one in the tick of a write (R17), and until the next re-budget for DSC's objects (R240). `i` and `j` are the offsets in an array. -/
def State.obj (s : State) (o : Obj) (i : Nat := 0) (j : Nat := 0) : Nat :=
  match s.oldSheet (sheetKey (o.idx + i) (o.sub + j)) with
  | some (some v) => v
  | some none => s.dflt o (o.idx + i) (o.sub + j)
  | none => s.sheetVal o (o.idx + i) (o.sub + j)

/-- As `obj`, for a signed object. -/
def State.objI (s : State) (o : Obj) (i : Nat := 0) (j : Nat := 0) : Int := toInt (8 * o.size) (s.obj o i j)

/-- A BOOL or a one-bit reading of an object. -/
def State.objB (s : State) (o : Obj) (i : Nat := 0) (j : Nat := 0) : Bool := s.obj o i j != 0

/-- The value of a slice object. -/
def State.sliceObj (s : State) (o : Obj) (slice : Nat) : Nat := s.obj o slice 0

/-- The old value is remembered: for this tick (R17), for DSC's objects until the next re-budget too (R240). -/
def rememberOld (k : Nat) (old : Option Nat) (t : List (Nat × Option Nat)) : List (Nat × Option Nat) :=
  let t := if Tbl.has t k then t else Tbl.put t k old
  if dscObject k && !Tbl.has t (dueKey k) then Tbl.put t (dueKey k) old else t

/-- Store a value at an object address and remember the old one (R17, R240). -/
def State.putSheet (o : Obj) (index sub v : Nat) (s : State) : State :=
  { s with
    sheet := Tbl.setD s.sheet (sheetKey index sub) v (s.dflt o index sub)
    sheetOld := rememberOld (sheetKey index sub) (Tbl.find? s.sheet (sheetKey index sub)) s.sheetOld }

/-- Store a value that the controller itself sets (an RO object): no delayed use. -/
def State.setObj (o : Obj) (v : Nat) (s : State) : State :=
  { s with sheet := Tbl.setD s.sheet (sheetKey o.idx o.sub) v (s.dflt o o.idx o.sub) }

/-- Unit numbers of Table 0.3. -/
def UnitNo.tbu := 0x00
def UnitNo.hlu := 0x01
def UnitNo.qen := 0x02
def UnitNo.tnu := 0x03
def UnitNo.gal := 0x04
def UnitNo.mxe := 0x05
def UnitNo.dsc := 0x06
def UnitNo.fca := 0x07
def UnitNo.cdx := 0x08
def UnitNo.spe := 0x09
def UnitNo.bpm := 0x0A
def UnitNo.dmc := 0x0B
def UnitNo.ccl := 0x0C
def UnitNo.csu := 0x0D
def UnitNo.hum := 0x0E
def UnitNo.mgp := 0x0F
def UnitNo.cru := 0x10

end Sys2Proof.Machine
end

