-- ==== Sys2Proof/Machine/Flags.lean ====
section
/-! DEFINITION. What a step signals: same-tick classes (R23, Table 1.6), exception events (R15, R427), recorder triggers (R484 to R487, R490), Asynchronous Events and health events (R478, R479). -/

namespace Sys2Proof.Machine

/-- An event of class `n` of Table 1.5 is sampled in this tick; classes 1 to 3 also bar a stage change in it (R52). -/
def State.sample (n : Nat) (s : State) : State :=
  s.modTbu fun t => { t with
    classes := t.classes ||| BitVec.ofNat 10 (2 ^ (n - 1))
    resetNow := t.resetNow || decide (n ≤ 3) }

/-- Room in the exception queue (R427): a unit that would raise an event while it is full holds the operation. -/
def State.excRoom (s : State) : Bool := decide (s.ccl.exc.length < 4096)

/-- Raise an exception event to CCL (R18): an event of no class of Table 1.5. -/
def State.raiseExc (unit inst kind arg : Nat) (s : State) : State :=
  s.modCcl fun c => { c with exc := c.exc ++ [{ tick := s.now, cls := 11, unit := unit, inst := inst, kind := kind, arg := arg }] }

/-- The addresses of a SNAP_LIST entry: 56 words, ended by 0 (R488). -/
def snapAddrs (list : Nat) : Nat → List Nat
  | 0 => []
  | n + 1 => if list % 2 ^ 32 = 0 then [] else list % 2 ^ 32 :: snapAddrs (list / 2 ^ 32) n

/-- Captures in the queue that go to the first reel. -/
def Cru.queuedFirst (c : Cru) : Nat := (c.queue.filter fun q => q.slate.first).length

/-- The recorder is frozen: a freeze lasts 1,600,000,000 ticks from the write that began it, at most; in the tick of its end triggers still find it (R494). -/
def State.frozenNow (s : State) : Bool := s.cru.frozen.any fun t => decide (s.since t ≤ 1600000000)

/-- Triggers are recorded: not frozen, queue and staging have room (R487). -/
def State.recordable (s : State) : Bool :=
  !s.frozenNow && decide (s.cru.queue.length < 32) && decide (s.cru.staged.length < 256)

/-- The slate of a trigger accepted now (R486, Table 18.2). -/
def State.slate (s : State) (code unit inst : Nat) (arg : Dword) : Record :=
  { rseq := s.cru.next, trigger := code, unit := unit
    first := bitAt (s.obj Ob.FIRST_MASK) code && !s.cru.stagingOnly && decide (s.cru.firstUsed + s.cru.queuedFirst < 1024)
    fleetValid := s.fleetValid, gap := s.cru.gapFlag
    cycles := s.obj Ob.POWER_CYCLES, tick := s.now, fleet := s.tbu.fleet, pos := s.obj Ob.POWER_ON_SECONDS
    epoch := s.ccl.epoch, inst := inst % 65536, missed := min 0xFFFF s.cru.missed, arg := arg, snaps := [] }

/-- A trigger (R484 to R487): counted; when enabled and recordable it takes the next RSEQ, otherwise it is missed. -/
def State.trigger (code unit inst : Nat) (arg : Dword) (s : State) : State :=
  let s := s.count Fld.CRU_TRIG_CNT.COUNT code 1
  if bitAt (s.obj Ob.TRIG_EN) code then
    if s.recordable then
      s.modCru fun c => { c with
        queue := c.queue ++ [{ slate := s.slate code unit inst arg, todo := snapAddrs (s.obj Ob.SNAP_LIST code) 56 }]
        next := c.next + 1, missed := 0, gapFlag := false }
    else (s.count Fld.CRU_MISSED.COUNT 0 1).modCru fun c => { c with missed := c.missed + 1 }
  else s

/-- ARG of the media triggers (Table 18.3). -/
def mediaArg (die block page frame level nsid : Nat) : Dword :=
  BitVec.ofNat 64 (die % 1024 + 2 ^ 10 * (block % 8192) + 2 ^ 23 * (page % 4096) + 2 ^ 35 * (frame % 4) + 2 ^ 37 * (level % 8)
    + 2 ^ 40 * ((nsid - 1) % 256))

/-- ARG of the die and channel triggers (Table 18.3). -/
def dieArg (die ch bits : Nat) : Dword := BitVec.ofNat 64 (die % 1024 + 2 ^ 10 * (ch % 32) + 2 ^ 15 * (bits % 256))

/-! ## Asynchronous Events -/

/-- The waiting Asynchronous Event Request of a function that was fetched first. -/
def Qen.aerOf (q : Qen) (fn : Nat) : Option (Nat × Ctx) :=
  q.ctxs.foldl (fun best e =>
    if e.2.admin && e.2.accepted && e.2.sqe.opcode == 0x0C && e.2.fn == fn && e.2.state == .fetched then
      match best with
      | some b => if e.2.fetchOrd < b.2.fetchOrd then some e else some b
      | none => some e
    else best) none

/-- DW0 of an Asynchronous Event completion: type, information, log page. -/
def AsyncEvent.dw0 (e : AsyncEvent) : Word := BitVec.ofNat 32 (e.ty + 2 ^ 8 * e.info + 2 ^ 16 * e.lid)

/-- A new controller's state: the NVMe defaults (notes/assumptions/10.md). -/
def Controller.initial : Controller :=
  { en := false, crime := false, wrr := false, shn := 0, rdy := false, shst := 0, pp := false, burst := 0, lpw := 0, mpw := 0,
    hpw := 0, coalThr := 0, coalTime := 0, aenCfg := 0, events := [], masked := [], errors := 0, mps := 0, aqa := 0,
    asq := 0, acq := 0, apste := false, apst := [], changed := [] }

/-- The controller of a function. -/
def Qen.ctrl (q : Qen) (fn : Nat) : Controller := Tbl.getD q.ctrls fn Controller.initial

/-- Change the controller of a function. -/
def Qen.modCtrl (q : Qen) (fn : Nat) (f : Controller → Controller) : Qen :=
  { q with ctrls := Tbl.put q.ctrls fn (f (q.ctrl fn)) }

/-- Change a context. -/
def Qen.modCtx (q : Qen) (c : Nat) (f : Ctx → Ctx) : Qen := { q with ctxs := Tbl.adjust q.ctxs c f }

/-- Change a context. -/
def State.modCtx (c : Nat) (f : Ctx → Ctx) (s : State) : State := s.modQen fun q => q.modCtx c f

/-- A context's result is final (R95): it waits for its posting decision. -/
def State.finish (c status : Nat) (s : State) : State :=
  s.modCtx c fun x => { x with state := .ready, status := status, accepted := false }

/-- Give the oldest pending event of a function to its oldest waiting request (R113: until it is given an event). -/
def State.giveEvent (fn : Nat) (s : State) : State :=
  match (s.qen.ctrl fn).events, s.qen.aerOf fn with
  | e :: es, some (c, _) =>
    (s.modQen fun q => (q.modCtrl fn fun k => { k with events := es, masked := e.ty :: k.masked }).modCtx c
      fun x => { x with state := .ready, status := 0, result := e.dw0, accepted := false })
  | _, _ => s

/-- An Asynchronous Event for one controller: dropped while its type is masked or already pending, else queued and given to a waiting request. -/
def State.asyncEvent (fn : Nat) (e : AsyncEvent) (s : State) : State :=
  if (s.qen.ctrl fn).masked.contains e.ty || (s.qen.ctrl fn).events.contains e then s
  else (s.modQen fun q => q.modCtrl fn fun k => { k with events := k.events ++ [e] }).giveEvent fn

/-- An Asynchronous Event for every enabled controller. -/
def State.asyncAll (e : AsyncEvent) (s : State) : State :=
  (s.qen.ctrls.filter fun k => k.2.en).foldl (fun s k => s.asyncEvent k.1 e) s

/-- Persistent Internal Error, type Error (R309, R368). -/
def AsyncEvent.persistentError : AsyncEvent := ⟨0, 3, 1⟩

/-- Invalid Doorbell Write: a value outside the queue (1) or a queue that does not exist (0); type Error (R97). -/
def AsyncEvent.invalidDoorbell (value : Bool) : AsyncEvent := ⟨0, if value then 1 else 0, 1⟩

/-- A SMART / Health critical warning, type 1, log page 0x02 (R355). -/
def AsyncEvent.health (info : Nat) : AsyncEvent := ⟨1, info, 2⟩

/-- A SMART / Health critical warning (bit n of the Critical Warning byte) begins: an event for every enabled controller whose Asynchronous Event Configuration enables it (R355). -/
def State.criticalWarn (bit info : Nat) (s : State) : State :=
  (s.qen.ctrls.filter fun k => k.2.en && k.2.aenCfg.getLsbD bit).foldl (fun s k => s.asyncEvent k.1 (AsyncEvent.health info)) s

/-! ## Health events -/

/-- Codes of Table 17.5. -/
def Health.wear80 := 0x01
def Health.wear90 := 0x02
def Health.wear98 := 0x03
def Health.spare10 := 0x04
def Health.spare5 := 0x05
def Health.spareCrit := 0x06
def Health.holdup := 0x07
def Health.ptm := 0x08
def Health.stageSram := 0x09
def Health.cluster := 0x0A
def Health.firmware := 0x0B
def Health.archiveLost := 0x0C
def Health.dram := 0x0D
def Health.thermal := 0x0E
def Health.dieFailed := 0x0F

/-- TIME of an event record (Table 17.6). -/
def State.eventTime (s : State) : Nat :=
  if s.fleetValid then s.tbu.fleet.toNat else 1000000000 * s.obj Ob.POWER_ON_SECONDS

/-- SEQ of the next event record: 1 first, wrapping from 0xFFFF_FFFF to 1. -/
def Mgp.nextSeq (m : Mgp) : Nat := if m.evSeq = 0xFFFFFFFF then 1 else m.evSeq + 1

/-- The record of an event raised now. -/
def State.eventRecord (s : State) (code unit : Nat) : EventRecord :=
  { code := code, unit := unit, valid := s.fleetValid, seq := s.mgp.nextSeq, time := s.eventTime }

/-- Bytes 0x00 to 0x07 of an event record (Table 17.6). -/
def EventRecord.head (r : EventRecord) : Dword :=
  BitVec.ofNat 64 (r.code + 2 ^ 8 * r.unit + 2 ^ 16 * bit01 r.valid + 2 ^ 32 * r.seq)

/-- The summary bit of a code is set. -/
def State.healthSet (s : State) (code : Nat) : Bool := s.mgp.summary.getLsbD (code - 1)

/-- Log a health event: the ring, the summary bit and, for early warnings, EW_LIFE (R478, R479). -/
def State.logHealth (code unit : Nat) (s : State) : State :=
  s.modMgp fun m => { m with
    events := (s.eventRecord code unit :: m.events).take 256
    evSeq := m.nextSeq
    summary := m.summary ||| BitVec.ofNat 15 (2 ^ (code - 1))
    ewLife := if code ≤ 5 then m.ewLife ||| BitVec.ofNat 15 (2 ^ (code - 1)) else m.ewLife }

/-- Tell of a health event: Asynchronous Events where EVENT_AEN_MASK allows, EVENT messages to EVENT_EID on both endpoints, a recorder trigger (R479). -/
def State.tellHealth (code unit : Nat) (r : EventRecord) (s : State) : State :=
  let s := if bitAt (s.obj Ob.EVENT_AEN_MASK) (code - 1) then s.asyncAll ⟨7, code, 0xC0⟩ else s
  let s := if s.obj Ob.EVENT_EID = 0 then s
    else (s.emit (.event (s.obj Ob.EVENT_EID) r)).emit (.event (s.obj Ob.EVENT_EID) r)
  s.trigger 0x22 UnitNo.mgp unit r.head

/-- Raise a health event: only at the onset of its summary bit, and an early warning once in the life of the drive (R478, R479). -/
def State.health (code unit : Nat) (s : State) : State :=
  if s.healthSet code then s
  else if code ≤ 5 && s.mgp.ewLife.getLsbD (code - 1) then s
  else ((s.count Fld.MGP_EVT_CNT.COUNT 0 1).logHealth code unit).tellHealth code unit (s.eventRecord code unit)

/-- A level condition clears: its bit clears in that tick (R478). -/
def State.healthClear (code : Nat) (s : State) : State :=
  s.modMgp fun m => { m with summary := m.summary &&& ~~~(BitVec.ofNat 15 (2 ^ (code - 1))) }

/-- A level condition follows a Bool: raised at its onset, cleared at its end. -/
def State.healthLevel (code unit : Nat) (on : Bool) (s : State) : State :=
  if on then s.health code unit else s.healthClear code

/-! ## Requests of the management plane -/

/-- Number of a Call Sheet port; 4 is the firmware port. -/
def viaPort : Transport → Option Nat
  | .i3c | .smbus => none
  | .port p => some p
  | .firmware => some 4

/-- Status of a request that the stage does not allow (Table 17.4). -/
def tsNotInStage := 0x05

/-- An address that drive firmware serves (R468). -/
def fwAddress (index : Nat) : Bool := decide (0x7000 ≤ index) && decide (index < 0x8000)

end Sys2Proof.Machine
end

