-- ==== Sys2Proof/Machine/Media.lean ====
section
/-! DEFINITION. What translation, codec, redundancy and hold-up share: the geometry of the NAND part (R183, R185, R313), namespaces, bands, the map, the in-flight table, the Lost Extent Log (R342 to R345), block retirement (R211, R212) and copy jobs. -/

namespace Sys2Proof.Machine

/-! ## Geometry -/

/-- Planes of a die, at least 1. -/
def Fca.planes (f : Fca) : Nat := max 1 f.part.planes

/-- Number of a physical block in its plane: BLOCK holds the plane bits lowest (notes/assumptions/21.md). -/
def Fca.sbOf (f : Fca) (block : Nat) : Nat := block / f.planes

/-- Plane of a physical block. -/
def Fca.planeOf (f : Fca) (block : Nat) : Nat := block % f.planes

/-- Key of a member block. -/
def blkKey (die sb : Nat) : Nat := 8192 * die + sb

/-- Key of a page of a physical block. -/
def pageKey (die block page : Nat) : Nat := 4096 * (8192 * die + block) + page

/-- Pages per wordline in a cell mode: 0 SLC, 1 TLC, 2 QLC (R313). -/
def pagesPerWl : Nat → Nat
  | 0 => 1
  | 1 => 3
  | _ => 4

/-- Cell mode of a band (Table 7.4). -/
def Band.mode (b : Band) : Nat :=
  match b.kind with
  | .landing | .system => 0
  | .user | .gc => if b.qlc then 2 else 1

/-- Code of a band kind (Table 10.3). -/
def kindCode : BandKind → Nat
  | .landing => 0
  | .user => 1
  | .gc => 2
  | .system => 3

/-- Die state; a die not listed is absent and reads OFFLINE. -/
def Dsc.dieState (d : Dsc) (n : Nat) : DieState := ((Tbl.find? d.dies n).map Die.state).getD .offline

/-- Channel of a die (R243). -/
def chOf (die : Nat) : Nat := die % 32

/-- Raw capacity in bytes: every die, in its native mode (R186). -/
def State.rawBytes (s : State) : Nat :=
  16384 * (s.dsc.dies.length * s.fca.planes * s.fca.part.blocks * s.fca.part.wls * s.fca.part.native)

/-! ## Namespaces -/

/-- A namespace. -/
def Mxe.ns? (m : Mxe) (nsid : Nat) : Option Namespace := Tbl.find? m.nss nsid

/-- LBA data size (Table 4.3). -/
def Namespace.lbaBytes (n : Namespace) : Nat := if n.lbaf ≤ 1 then 512 else 4096

/-- Slots per granule. -/
def Namespace.spg (n : Namespace) : Nat := max 1 (n.granule / 4)

/-- Granules of a namespace (R186). -/
def Namespace.granules (n : Namespace) : Nat := ceilDiv (n.nsze * n.lbaBytes) (1024 * n.granule)

/-- M of R186 in bytes. -/
def Mxe.mapBytes (m : Mxe) : Nat := 5 * (m.nss.foldl (fun t e => t + e.2.granules) 0)

/-- GSIZE of Table 7.3. -/
def Namespace.gsize (n : Namespace) : Nat := if n.granule = 4 then 0 else if n.granule = 16 then 1 else 2

/-- The namespace is protected (COMPLETION_MODE, R130). -/
def State.protectedNs (s : State) (nsid : Nat) : Bool := s.obj Ob.COMPLETION_MODE ((nsid - 1) / 256) ((nsid - 1) % 256) == 1

/-! ## The map -/

/-- Key of a granule. -/
def granKey (nsid g : Nat) : Nat := 2 ^ 40 * (nsid - 1) + g

/-- An entry that names nothing. -/
def MapEntry.unmapped : MapEntry := { flags := .unmapped, loc := ⟨0, 0, 0, 0⟩ }

/-- Code of a map entry's FLAGS (Table 7.2). -/
def flagsCode : EntryFlags → Nat
  | .mapped => 0
  | .mappedSlc => 1
  | .suspect => 2
  | .unmapped => 4
  | .lost => 5

/-- The 40 bits of a map entry (Table 7.1). -/
def MapEntry.code (e : MapEntry) : Nat :=
  flagsCode e.flags + 8 * (e.loc.slot % 4) + 32 * (e.loc.page % 4096) + 2 ^ 17 * (e.loc.block % 8192) + 2 ^ 30 * (e.loc.die % 1024)

/-- The 24 B of a journal record (Table 7.7), as a number. -/
def JournalRecord.num (r : JournalRecord) : Nat :=
  let v := r.dsn % 2 ^ 64 + 2 ^ 64 * (if r.kind = 3 ∨ r.kind = 4 then r.count % 2 ^ 40 else r.value.code) + 2 ^ 104 * (r.index % 2 ^ 38)
    + 2 ^ 142 * ((r.nsid - 1) % 1024) + 2 ^ 152 * (r.kind % 16)
  v + 2 ^ 184 * (Config.crc8 (leBytes 23 v)).toNat

/-- A LOST entry. -/
def MapEntry.lost : MapEntry := { flags := .lost, loc := ⟨0, 0, 0, 0⟩ }

/-- The entry of a granule. -/
def Mxe.entry (m : Mxe) (nsid g : Nat) : MapEntry := Tbl.getD m.map (granKey nsid g) MapEntry.unmapped

/-- The entry names a slot. -/
def MapEntry.located (e : MapEntry) : Bool := e.flags == .mapped || e.flags == .mappedSlc

/-- Location of slot `off` of a granule whose entry names `l` (R185). -/
def slotLoc (l : Loc) (spg off : Nat) : Loc :=
  if spg = 1 then l else { l with page := l.page + off / 4, slot := off % 4 }

/-- Segment of a granule: 816 entries (R185). -/
def segKey (nsid g : Nat) : Nat := 2 ^ 32 * nsid + g / 816

/-- The band that holds a location. -/
def State.bandAt (s : State) (die block : Nat) : Option (Nat × Band) :=
  s.mxe.bands.find? fun e => e.2.members.contains (die, s.fca.sbOf block)

/-- Copies of the map journal are lost (R199): pages in flight count with the surviving copy; with both lost they are written again to two new bands. -/
def Mxe.journalLose (m : Mxe) (a b : Bool) : Mxe :=
  let okA := m.jOkA && !a
  let okB := m.jOkB && !b
  { m with
    jOkA := okA, jOkB := okB, jBand := if a || b then none else m.jBand
    jpages := if !okA && !okB then m.jpages.map fun p => { p with goodA := false, goodB := false }
      else m.jpages.map fun p => { p with goodA := p.goodA || !okA, goodB := p.goodB || !okB } }

/-- Change a band. -/
def Mxe.modBand (m : Mxe) (b : Nat) (f : Band → Band) : Mxe := { m with bands := Tbl.adjust m.bands b f }

/-- Add to or take from the valid slots of the band at an entry's location. -/
def State.addValid (e : MapEntry) (n : Int) (s : State) : State :=
  if e.located then
    match s.bandAt e.loc.die e.loc.block with
    | some (b, _) => s.modMxe fun m => m.modBand b fun x => { x with valid := ((x.valid : Int) + n).toNat }
    | none => s
  else s

/-- Set an entry: valid counts follow, and its segment is dirty. -/
def State.setEntry (nsid g : Nat) (e : MapEntry) (s : State) : State :=
  let spg := ((s.mxe.ns? nsid).map Namespace.spg).getD 1
  let s := (s.addValid (s.mxe.entry nsid g) (-(spg : Int))).addValid e spg
  s.modMxe fun m => { m with
    map := Tbl.setD m.map (granKey nsid g) e MapEntry.unmapped
    dirty := if Tbl.has m.dirty (segKey nsid g) then m.dirty else Tbl.put m.dirty (segKey nsid g) m.jpos }

/-- Journal on NAND since the oldest dirty segment, in bytes (R202). -/
def Mxe.jbytes (m : Mxe) : Nat := m.jpos - m.dirty.foldl (fun n e => min n e.2) m.jpos

/-! ## NAND pages -/

/-- A page that a program of a band writes. -/
def Band.page (b : Band) (psn : Nat) (st : ProgStamp) (cells : List SlotCell) (parity : Option Nat) : Page :=
  { slots := cells, parity := parity, psn := psn, bsn := b.bsn, tread := b.tread, mode := b.mode, kind := b.kind, stamp := st, good := true }

/-- The slot cell at a location. -/
def Mxe.cell (m : Mxe) (l : Loc) : Option SlotCell :=
  (Tbl.find? m.nand (pageKey l.die l.block l.page)).bind fun p => if p.good then p.slots[l.slot]? else none

/-- What a read of a slot deciphers to under a key: the data under the key it was enciphered with, else what the cipher gives (R300, R307). -/
def SlotCell.plain (c : SlotCell) (key : Option Nat) : SlotData :=
  if key = c.key then c.data
  else BitVec.ofNat 32768 (Config.decrypt (key.getD 0) c.hdr.lba (Config.encrypt (c.key.getD 0) c.hdr.lba c.data.toNat))

/-- FLAGS of a page header (Table 7.3). -/
def SlotHeader.flags (h : SlotHeader) : Nat :=
  bit01 (h.kind == .pad) + 2 * bit01 h.host + 4 * bit01 h.slc + 8 * bit01 h.lostFill + 16 * h.goff + 256 * h.gsize

/-- Bytes 0x00 to 0x2B of a page header. -/
def SlotHeader.bytes (h : SlotHeader) : List Byte :=
  leBytes 8 h.lba ++ leBytes 8 h.dsn ++ leBytes 8 h.psn ++ leBytes 4 h.nsid ++ leBytes 2 h.flags ++ leBytes 2 0 ++ leBytes 4 h.bsn
    ++ leBytes 4 h.wtime ++ leBytes 4 0

/-- Stored data of a slot: enciphered under its key (R300), or as it is. -/
def SlotCell.stored (c : SlotCell) : Nat :=
  match c.key with
  | some k => Config.encrypt k (c.hdr.lba) c.data.toNat
  | none => c.data.toNat

/-- Header with CRC and stored data: the 4,144 bytes of a frame that parity covers (R187, R320). -/
def SlotCell.frameBytes (c : SlotCell) : List Byte :=
  let d := leBytes 4096 c.stored
  c.hdr.bytes ++ leBytes 4 (crc32c (c.hdr.bytes ++ d)) ++ d

/-- The same as a number. -/
def SlotCell.frame (c : SlotCell) : Nat := leNat c.frameBytes

/-- The payload of a unit (R320): frames 0 to 3 in order. -/
def Page.payload (p : Page) : Nat :=
  match p.parity with
  | some v => v
  | none => (p.slots.zipIdx).foldl (fun n c => n + c.1.frame * 2 ^ (33152 * c.2)) 0

/-- Keystream step of the scrambler (R269). -/
def scrambleStep (st : Nat) : Nat :=
  (st * 2 + (st / 2 ^ 31 + st / 2 ^ 21 + st / 2 + st) % 2) % 2 ^ 32

/-- One byte of keystream and the state after it. -/
def scrambleByte (st : Nat) : Nat × Nat :=
  (List.range 8).foldl (fun (a : Nat × Nat) k => (a.1 + a.2 / 2 ^ 31 % 2 * 2 ^ k, scrambleStep a.2)) (0, st)

/-- Seed of a page's keystream. -/
def scrambleSeed (die block page : Nat) : Nat :=
  let v := crc32c (leBytes 8 (die + 2 ^ 10 * block + 2 ^ 23 * page))
  if v = 0 then 1 else v

/-- XOR bytes with the keystream from a state (R269). -/
def scramble : Nat → List Byte → List Byte
  | _, [] => []
  | st, b :: bs => (b ^^^ BitVec.ofNat 8 (scrambleByte st).1) :: scramble (scrambleByte st).2 bs

/-- What the page tail says of slot n (Table 10.3). -/
def SlotCell.tail (c : SlotCell) : List Byte := leBytes 8 c.hdr.lba ++ leBytes 8 c.hdr.dsn ++ leBytes 4 c.hdr.nsid ++ leBytes 2 c.hdr.flags ++ leBytes 2 0

/-- The page tail before its parity (Table 10.3), of a parity unit with PAD in every slot (R321); `inWl` is the page's place within its wordline. -/
def Page.tail (p : Page) (inWl : Nat) : List Byte :=
  let pad : List Byte := leBytes 8 (2 ^ 64 - 1) ++ leBytes 12 0 ++ leBytes 2 1 ++ leBytes 2 0
  let t := (((List.range 4).map fun n => (p.slots[n]?).elim (if p.parity.isSome then pad else leBytes 24 0) SlotCell.tail).flatten ++ leBytes 8 p.psn ++ leBytes 4 p.bsn ++ leBytes 4 p.stamp.wtime
    ++ leBytes 4 p.stamp.thetaW ++ leBytes 1 p.tread ++ leBytes 1 p.mode ++ leBytes 1 inWl ++ leBytes 1 (ofInt 8 p.stamp.tempW) ++ leBytes 1 (kindCode p.kind) ++ leBytes 67 0)
  t ++ leBytes 4 (crc32c t)

/-- A list of bytes filled with zeros to a length. -/
def padBytes (n : Nat) (xs : List Byte) : List Byte := (xs ++ List.replicate (n - xs.length) 0).take n

/-- Frame n of a page as it is before scrambling (Table 10.2). -/
def Page.frameImage (p : Page) (n : Nat) : List Byte :=
  let d := leBytes 4144 (p.payload / 2 ^ (33152 * n))
  padBytes 4736 (d ++ Config.ldpcParity p.tread d)

/-- The 19,328 bytes of a page as the channel carries them (R268, R269, Table 10.1). -/
def Page.image (p : Page) (die block page : Nat) : List Byte :=
  let t := p.tail (page % (p.mode + if p.mode = 0 then 1 else 2))
  scramble (scrambleSeed die block page) (((List.range 4).map p.frameImage).flatten ++ padBytes 384 (t ++ Config.tailParity t))

/-! ## Health of NAND: dies, retirement, spare -/

/-- Blocks of all dies. -/
def State.totalBlocks (s : State) : Nat := s.dsc.dies.length * s.fca.part.blocks

/-- The spare pool (R212): good blocks beyond those the namespaces' capacity, the GC reserve, the landing zone and the SYSTEM bands need. -/
def State.spareNow (s : State) : Nat :=
  let blockBytes := 16384 * (s.fca.planes * (s.fca.part.wls - 8) * s.fca.part.native)
  let user := s.mxe.nss.foldl (fun t e => t + e.2.nsze * e.2.lbaBytes) 0
  s.totalBlocks - s.mxe.retired.length - (if blockBytes = 0 then 0 else ceilDiv user blockBytes)
    - ceilDiv (s.totalBlocks * (s.obj Ob.GC_RESERVE_PCT + s.mxe.lzPct)) 100 - 28

/-- Available Spare in percent (R212). -/
def Mxe.availPct (m : Mxe) : Nat := if m.spareFirst = 0 then 100 else min 100 (100 * m.spare / m.spareFirst)

/-- The Available Spare Threshold of the SMART / Health log (notes/assumptions/10.md). -/
def spareThreshold := 10

/-- R212 applied after the pool changed. -/
def State.spareEvents (s : State) : State :=
  let p := s.mxe.availPct
  let s := if p ≤ 10 then s.health Health.spare10 UnitNo.mxe else s
  let s := if p ≤ 5 then s.health Health.spare5 UnitNo.mxe else s
  let s := if p < spareThreshold then s.criticalWarn 0 2 else s
  let ro := decide (p < 1)
  let s := if ro && !s.mxe.spareOut then s.criticalWarn 3 0 else s
  (s.modMxe fun m => { m with spareOut := ro }).healthLevel Health.spareCrit UnitNo.mxe ro

/-- Causes of a retirement (R211, R332). -/
def causeProgram := 1
def causeErase := 2
def causeVerify := 3
def causeDie := 4

/-- Retire a block (R211): retirement log, recorder, spare pool. Retired once. -/
def State.retireBlock (die sb cause psn : Nat) (s : State) : State :=
  if Tbl.has s.mxe.retired (blkKey die sb) then s
  else
    let s := s.modMxe fun m => { m with
      retired := Tbl.put m.retired (blkKey die sb) cause
      retLog := { die := die, block := sb, cause := cause, psn := psn, time := s.tbu.fleet.toNat } :: m.retLog
      spare := m.spare - 1 }
    (s.trigger 0x09 UnitNo.mxe 0 (mediaArg die (sb * s.fca.planes) 0 0 0 1)).spareEvents

/-- Retired blocks, as RETIRED_BLOCKS and MXE_RETIRE_CNT report. -/
def Mxe.retiredCount (m : Mxe) : Nat := m.retired.length

/-- Tread of a block (R272): base tread from its wear fraction, plus BUMP, at most 7. -/
def State.blockTread (s : State) (key : Nat) : Nat :=
  let wear := Tbl.getD s.mxe.wear key 0
  let pct := fun t => bitsOf (s.obj Ob.TREAD_PCT) (8 * t + 7) (8 * t)
  let base := ((List.range 7).find? fun t => decide (100 * wear < (pct t : Rat))).getD 7
  min 7 (base + Tbl.getD s.mxe.bump key 0)

/-- BUMP of a block increments, to at most 7 (R273). -/
def State.bumpBlock (key : Nat) (s : State) : State :=
  s.modMxe fun m => { m with bump := Tbl.put m.bump key (min 7 (Tbl.getD m.bump key 0 + 1)) }

/-! ## Lost Extent Log -/

/-- Causes of Table 11.6. -/
def lostRead := 1
def lostRebuild := 2
def lostMerge := 3
def lostPoison := 4
def lostEntry := 5
def lostProgram := 6

/-- Two ranges of one namespace touch or overlap. -/
def LostExtent.adjoins (a b : LostExtent) : Bool :=
  a.nsid == b.nsid && decide (a.first ≤ b.first + b.count) && decide (b.first ≤ a.first + a.count)

/-- One entry that spans two. -/
def LostExtent.span (a b : LostExtent) : LostExtent :=
  { a with first := min a.first b.first, count := max (a.first + a.count) (b.first + b.count) - min a.first b.first }

/-- Gap between neighbouring entries of a list in order of first LBA: the closest pair. -/
def closestPair : List LostExtent → Option (Nat × LostExtent × LostExtent)
  | a :: b :: t =>
    match closestPair (b :: t) with
    | some (g, x, y) => if b.first - (a.first + a.count) ≤ g then some (b.first - (a.first + a.count), a, b) else some (g, x, y)
    | none => some (b.first - (a.first + a.count), a, b)
  | _ => none

/-- Entries of a namespace in order of first LBA. -/
def Spe.lelOf (p : Spe) (nsid : Nat) : List LostExtent := sortBy (fun a b => decide (a.first ≤ b.first)) (p.lel.filter fun e => e.nsid == nsid)

/-- The namespace with the most entries, lowest NSID first. -/
def Spe.lelMost (p : Spe) : Nat :=
  ((p.lel.map LostExtent.nsid).foldl (fun (b : Nat × Nat) n =>
    let c := (p.lel.filter fun e => e.nsid == n).length
    if b.2 < c || (b.2 == c && n < b.1) then (n, c) else b) (0, 0)).1

/-- Merge two entries to free one (R345): of the new range's namespace, or of the one with the most. -/
def Spe.lelMerge (p : Spe) (nsid : Nat) : Spe :=
  let n := if 2 ≤ (p.lelOf nsid).length then nsid else p.lelMost
  match closestPair (p.lelOf n) with
  | some (_, a, b) => { p with lel := { LostExtent.span a b with coarse := true } :: ((p.lel.erase a).erase b), lelOver := true }
  | none => p

/-- Add a range, or extend the entry next to it (R342, R345); an added entry is recorded. -/
def State.lostAdd (nsid first count cause : Nat) (s : State) : State :=
  let e : LostExtent := { first := first, count := count, nsid := nsid, cause := cause, coarse := false
                          hours := s.obj Ob.POWER_ON_SECONDS / 3600 % 2 ^ 24 }
  match s.spe.lel.find? fun x => x.adjoins e with
  | some x => s.modSpe fun p => { p with lel := p.lel.map fun y => if y = x then LostExtent.span x e else y }
  | none =>
    let s := if 1048576 ≤ s.spe.lel.length then s.modSpe fun p => p.lelMerge nsid else s
    (s.modSpe fun p => { p with lel := p.lel ++ [e], mediaErrors := p.mediaErrors + 1 }).trigger 0x15 UnitNo.spe 0 0

/-- What a commit that covers LBAs [first, first + count) leaves of an entry (R344). -/
def LostExtent.heal (e : LostExtent) (nsid first count : Nat) : List LostExtent :=
  if e.nsid ≠ nsid ∨ e.first + e.count ≤ first ∨ first + count ≤ e.first then [e]
  else
    (if e.first < first then [{ e with count := first - e.first }] else [])
      ++ (if first + count < e.first + e.count then [{ e with first := first + count, count := e.first + e.count - (first + count) }] else [])

/-- Remove covered LBAs from the log (R344). -/
def State.lostHeal (nsid first count : Nat) (s : State) : State :=
  s.modSpe fun p => { p with lel := p.lel.flatMap fun e => e.heal nsid first count }

/-- Remove every entry of a namespace (R344). -/
def State.lostDrop (nsid : Nat) (s : State) : State :=
  s.modSpe fun p => { p with lel := p.lel.filter fun e => e.nsid != nsid }

/-- First LBA and LBAs of a slot of a namespace. -/
def Namespace.slotLbas (n : Namespace) (slotNo : Nat) : Nat × Nat := (4096 * slotNo / n.lbaBytes, 4096 / n.lbaBytes)

/-- First LBA and LBAs of granules [g, g + count). -/
def Namespace.granLbas (n : Namespace) (g count : Nat) : Nat × Nat :=
  (1024 * (g * n.granule) / n.lbaBytes, 1024 * (count * n.granule) / n.lbaBytes)

/-! ## In-flight table and locks -/

/-- The data of a slot as the in-flight table gives it: the highest DSN that holds it (R196). -/
def Mxe.stageSlot (m : Mxe) (nsid g off : Nat) : Option SlotData :=
  (m.inflight.foldl (fun (best : Option (Nat × SlotData)) f =>
    if f.nsid == nsid && f.index == g then
      match f.slots.find? (fun x => x.1 == off), best with
      | some x, some b => if b.1 < f.dsn then some (f.dsn, x.2) else some b
      | some x, none => some (f.dsn, x.2)
      | none, b => b
    else best) none).map Prod.snd

/-- The data of a slot that a merge finds in the in-flight table (R195, R196): the highest DSN below its own. -/
def Mxe.stageBefore (m : Mxe) (nsid g off dsn : Nat) : Option SlotData :=
  ({ m with inflight := m.inflight.filter fun f => decide (f.dsn < dsn) }).stageSlot nsid g off

/-- A slot of the granule still waits for a merge (R195). -/
def Mxe.merging (m : Mxe) (nsid g off : Nat) : Bool :=
  m.locks.any fun l => l.nsid == nsid && l.index == g && (l.need.contains off || l.part.any fun p => p.1 == off)

/-- Where a slot's data is to be read from: stage, zeros, a slot, lost, or it must wait. -/
inductive SlotSource where
  | stage (d : SlotData)
  | zeros
  | nand (l : Loc)
  | lost
  | wait
deriving DecidableEq, Repr, Inhabited

/-- The source that the map gives for slot `off` of a granule (Table 7.2). -/
def Mxe.mapSource (m : Mxe) (n : Namespace) (nsid g off : Nat) : SlotSource :=
  if m.unloaded.contains (segKey nsid g) then .wait
  else
    match (m.entry nsid g).flags with
    | .mapped | .mappedSlc => .nand (slotLoc (m.entry nsid g).loc n.spg off)
    | .suspect => .wait
    | .unmapped => .zeros
    | .lost => .lost

/-- The source a lookup gives (R184, R196, R203). -/
def Mxe.lookup (m : Mxe) (n : Namespace) (nsid slotNo : Nat) : SlotSource :=
  let g := slotNo / n.spg
  let off := slotNo % n.spg
  if m.merging nsid g off then .wait
  else
    match m.stageSlot nsid g off with
    | some d => .stage d
    | none => m.mapSource n nsid g off

/-! ## Copy jobs -/

/-- The next copy job number is taken by a job for a granule (R204). -/
def Mxe.addJob (m : Mxe) (nsid g : Nat) (src : Loc) (band dsn : Nat) (cls : OpClass) (fold high lost : Bool) : Mxe :=
  { m with
    jobs := Tbl.put m.jobs m.nextJob
      { nsid := nsid, index := g, source := src, band := band, fold := fold, cls := cls, high := high, lost := lost, got := []
        dsn := dsn, placed := lost, unit := none, pend := 0, done := false, landed := false }
    nextJob := m.nextJob + 1 }

/-- A job already covers the granule from this source. -/
def Mxe.hasJob (m : Mxe) (nsid g : Nat) (src : Loc) : Bool :=
  m.jobs.any fun j => j.2.nsid == nsid && j.2.index == g && j.2.source == src && !j.2.done

/-- A relocation of the granule at a source, unless one is queued (R291). -/
def State.relocate (nsid g : Nat) (src : Loc) (cls : OpClass) (high : Bool) (s : State) : State :=
  if s.mxe.hasJob nsid g src then s
  else
    let b := s.bandAt src.die src.block
    s.modMxe fun m => m.addJob nsid g src ((b.map Prod.fst).getD 0) (((m.cell src).map fun c => c.hdr.dsn).getD 0) cls
      (b.any fun x => x.2.kind == .landing) high false

/-- Granules whose entry lies in a block of the band: NSID, granule and source. -/
def State.bandGranules (s : State) (b : Band) : List (Nat × Nat × Loc) :=
  s.mxe.map.filterMap fun e =>
    if e.2.located && b.members.contains (e.2.loc.die, s.fca.sbOf e.2.loc.block) then
      some (e.1 / 2 ^ 40 + 1, e.1 % 2 ^ 40, e.2.loc)
    else none

/-- The copy work of a victim band is queued (R192, R204), in its class: High work is GC work raised (R216). -/
def State.queueCopies (band : Band) (s : State) : State :=
  (s.bandGranules band).foldl (fun s e =>
    s.relocate e.1 e.2.1 e.2.2 (if band.copyCls = .high then .gc else band.copyCls) (band.copyCls == .high)) s

/-- A CLOSED band becomes VICTIM and its copy work is queued (R192, R204). -/
def State.makeVictim (b : Nat) (cls : OpClass) (s : State) : State :=
  match Tbl.find? s.mxe.bands b with
  | some band =>
    (s.modMxe fun m => m.modBand b fun x => { x with state := .victim, wanted := false, copyCls := cls }).queueCopies { band with copyCls := cls }
  | none => s

/-- An OPEN band is padded and closed (R191): CLOSING, its padding in a class; each member not retired owes a summary. -/
def State.padBand (b : Nat) (cls : OpClass) (s : State) : State :=
  s.modMxe fun m => m.modBand b fun x =>
    if x.state = .opened then
      { x with state := .closing, padCls := cls, summaries := (x.members.filter fun y => !Tbl.has m.retired (blkKey y.1 y.2)).map Prod.fst }
    else x

/-- A band is chosen as victim (R192, R529): at once when CLOSED, else when it reaches CLOSED. -/
def State.chooseVictim (b : Nat) (cls : OpClass) (s : State) : State :=
  match Tbl.find? s.mxe.bands b with
  | some band =>
    match band.state with
    | .closed => s.makeVictim b cls
    | .opened => (s.modMxe fun m => m.modBand b fun x => { x with wanted := true, copyCls := cls }).padBand b .high
    | .closing => s.modMxe fun m => m.modBand b fun x => { x with wanted := true, copyCls := cls }
    | .victim | .released | .erasing => s
  | none => s

/-- Open bands of a kind (R190). -/
def Mxe.openBands (m : Mxe) : List (Nat × Band) := m.bands.filter fun e => e.2.state == .opened || e.2.state == .closing

/-- Open bands that a kind may hold (R190). -/
def kindLimit : BandKind → Nat
  | .landing => 2
  | .user => 96
  | .gc => 16
  | .system => 14

end Sys2Proof.Machine
end

