-- ==== Sys2Proof/Machine/DieOps.lean ====
section
/-! DEFINITION. Die queues (spec/08): classes, costs, operation slots, submission, removal, and what an operation's end returns to its submitter. -/

namespace Sys2Proof.Machine

/-- An entry to a non-operational state is pending (R126): no internal work is submitted (R230). -/
def State.psPending (s : State) : Bool := s.qen.entryPend.isSome

/-- The slot is of a copy job: internal work. -/
def PlaceSlot.isCopy (x : PlaceSlot) : Bool :=
  match x.src with
  | .copy _ => true
  | .host _ | .system _ | .pad => false

/-- Every die queue is empty and every die in service is IDLE (R230). -/
def Dsc.quiet (d : Dsc) : Bool := d.ops.isEmpty && d.dies.all fun x => x.2.state == .idle || x.2.state == .offline

/-! ## Classes and costs -/

/-- Place of a class in the order of R217. -/
def clsRank : OpClass → Nat
  | .urgent => 0
  | .high => 1
  | .normal => 2
  | .rebuild => 3
  | .gc => 4
  | .background => 5
  | .scrub => 6

/-- Code of a class (Table 8.1). -/
def clsCode : OpClass → Nat
  | .urgent => 0
  | .high => 1
  | .normal => 2
  | .background => 3
  | .rebuild => 4
  | .gc => 5
  | .scrub => 6

/-- Code of a kind in DSC_DIE_STS. -/
def opKindCode : OpKind → Nat
  | .read => 1
  | .slcProgram => 2
  | .tlcProgram => 3
  | .qlcProgram => 4
  | .erase => 5

/-- Cell mode of a program. -/
def opMode : OpKind → Nat
  | .tlcProgram => 1
  | .qlcProgram => 2
  | _ => 0

/-- A program. -/
def isProgram : OpKind → Bool
  | .slcProgram | .tlcProgram | .qlcProgram => true
  | _ => false

/-- Cost of an operation (Table 8.3); a merged read costs min(n × one plane, multi-plane). -/
def State.opCost (s : State) (k : OpKind) (planes : Nat) : Nat :=
  match k with
  | .read => if planes ≤ 1 then s.obj Ob.COST_READ_1P else min (planes * s.obj Ob.COST_READ_1P) (s.obj Ob.COST_READ_MP)
  | .slcProgram => s.obj Ob.COST_SLC_PROG
  | .tlcProgram => s.obj Ob.COST_TLC_PROG
  | .qlcProgram => s.obj Ob.COST_QLC_PROG
  | .erase => s.obj Ob.COST_ERASE

/-- The timing object of an operation in µs (R249, Table 9.7). -/
def State.opTime (s : State) (k : OpKind) : Nat :=
  match k with
  | .read => s.obj Ob.T_R_US
  | .slcProgram => s.obj Ob.T_PROG_SLC_US
  | .tlcProgram => s.obj Ob.T_PROG_TLC_US
  | .qlcProgram => s.obj Ob.T_PROG_QLC_US
  | .erase => s.obj Ob.T_BERS_US

/-- The suspend time tPSUS of an operation in µs (R252). -/
def State.suspTime (s : State) (k : OpKind) : Nat := if k = .erase then s.obj Ob.T_ESUS_US else s.obj Ob.T_PSUS_US

/-- The ticks by which an operation admitted now is polled and timed out (R249, R251, R252). -/
def State.opTiming (s : State) (k : OpKind) : OpTiming :=
  { length := usTicks (s.opTime k), limit := usTicks (s.obj Ob.BUSY_TIMEOUT_X * s.opTime k), susp := usTicks (s.suspTime k)
    first := s.obj Ob.POLL_FIRST_PCT, again := ceilDiv ((if k = .read then s.obj Ob.POLL_READ_NS else s.obj Ob.POLL_PE_NS) * 4) 5 }

/-- Ticks from an operation's start or resume to its first poll: a share of the time left (R249). -/
def DieOp.firstPoll (o : DieOp) : Nat := (o.timing.length - o.ran) * o.timing.first / 100

/-! ## Channel commands (R243) -/

/-- Chip enable and appointed volume address of a die (Table 9.2). -/
def ceOf (die : Nat) : Nat := die / 512
def volOf (die : Nat) : Nat := die / 64 % 8

/-- The volume last selected on the die's CE_N is the die's. -/
def State.volSelected (s : State) (die : Nat) : Bool := (Tbl.find? s.fca.chs (chOf die)).any fun x => Tbl.find? x.volume (ceOf die) == some (volOf die)

/-- The entry of OPCODES that a command sequence takes, for an operation of a kind on so many planes (R250, Table 9.4); training has none. -/
def State.opcodeEntry (s : State) (c : NandCmd) (k : OpKind) (planes : Nat) : Nat :=
  let erase := k == .erase
  match c with
  | .confirm .read | .readSlc => if planes ≤ 1 then s.obj Ob.OPCODES_01 else s.obj Ob.OPCODES_02
  | .confirm .erase => s.obj Ob.OPCODES_07
  | .confirm _ => if planes ≤ 1 then s.obj Ob.OPCODES_05 else s.obj Ob.OPCODES_06
  | .suspend => if erase then s.obj Ob.OPCODES_0A else s.obj Ob.OPCODES_08
  | .resume => if erase then s.obj Ob.OPCODES_0B else s.obj Ob.OPCODES_09
  | .poll => s.obj Ob.OPCODES_0C
  | .getTemperature => s.obj Ob.OPCODES_0E
  | .setOffsets _ => s.obj Ob.OPCODES_0F
  | .resetLun => s.obj Ob.OPCODES_10
  | .zqShort => s.obj Ob.OPCODES_13
  | .volumeSelect _ => s.obj Ob.OPCODES_14
  | .training => 0

/-- The opcodes of an entry (R250): byte 0 and every later byte up to the last that is not 00h. -/
def opcodeBytes (v : Nat) : List Byte := ((leBytes 4 v).reverse.dropWhile fun b => b == 0).reverse

/-- A command sequence on a die: Volume Select first when the volume differs from the last one on its CE_N (R243). -/
def State.nandCmd (die : Nat) (c : NandCmd) (s : State) (k : OpKind := .read) (planes : Nat := 1) : State :=
  let send := fun (c : NandCmd) (s : State) => s.emit (.nand die c (opcodeBytes (s.opcodeEntry c k planes)))
  if s.volSelected die then send c s
  else send c (send (.volumeSelect (volOf die)) (s.modFca fun f => { f with
    chs := Tbl.adjust f.chs (chOf die) fun x => { x with volume := Tbl.put x.volume (ceOf die) (volOf die) } }))

/-! ## Dies and operations -/

/-- A die as initialisation leaves it. -/
def Die.initial : Die :=
  { state := .idle, active := none, held := none, queue := [], arriving := [], suspReads := 0, readyAt := 0, pollDue := 0, found := none, timeoutAt := none }

/-- A die. -/
def Dsc.die (d : Dsc) (n : Nat) : Die := Tbl.getD d.dies n { Die.initial with state := .offline }

/-- Change a die. -/
def Dsc.modDie (d : Dsc) (n : Nat) (f : Die → Die) : Dsc := { d with dies := Tbl.adjust d.dies n f }

/-- Change an operation. -/
def Dsc.modOp (d : Dsc) (i : Nat) (f : DieOp → DieOp) : Dsc := { d with ops := Tbl.adjust d.ops i f }

/-- Change an operation. -/
def State.modOp (i : Nat) (f : DieOp → DieOp) (s : State) : State := s.modDsc fun d => d.modOp i f

/-- Change a die. -/
def State.modDie (n : Nat) (f : Die → Die) (s : State) : State := s.modDsc fun d => d.modDie n f

/-- An Urgent read. -/
def DieOp.urgentRead (o : DieOp) : Bool := o.req.kind == .read && o.eff == .urgent

/-- Queued operations of a die that are not Urgent reads. -/
def Dsc.plainQueued (d : Dsc) (x : Die) : Nat :=
  (x.queue.filter fun i => !((Tbl.find? d.ops i).any DieOp.urgentRead)).length

/-- The die has a queued slot for the operation (R215): seven, two of them for Urgent reads. -/
def Dsc.slotFor (d : Dsc) (x : Die) (o : DieOp) : Bool :=
  decide (x.queue.length < 7) && (o.urgentRead || decide (d.plainQueued x < 5))

/-- Put an operation in a queued slot, or in the admission list (R215). -/
def Dsc.place (d : Dsc) (n i : Nat) (o : DieOp) : Dsc :=
  if d.slotFor (d.die n) o then d.modDie n fun x => { x with queue := x.queue ++ [i] }
  else d.modDie n fun x => { x with arriving := x.arriving ++ [i] }

/-- An operation of a slice with a BELOW flag (R144). -/
def State.sliceBelow (s : State) (sl : Nat) : Bool :=
  (Tbl.find? s.tnu.slices sl).any fun x => x.belowRd || x.belowWr || x.belowCmd

/-- An operation serves a slice with a BELOW flag: its own, or that of a slot it carries (R144). -/
def State.opBelow (s : State) (o : DieOp) : Bool := s.sliceBelow o.req.slice || o.slots.any fun x => x.src != .pad && s.sliceBelow x.slice

/-- Key of a slice's share of a die's time in a class (R139). -/
def creditKey (o : DieOp) : Nat := 8192 * o.req.die + 8 * o.req.slice + clsRank o.eff

/-- The order of R217: class; a recovery read ahead of the other reads of its class (R283); BELOW slices; slices by weight, by the die time they have had in the class (R139); submit tick. -/
def State.opBefore (s : State) (a b : DieOp) : Bool :=
  let rec_ := fun (o : DieOp) => match o.why with | .recover _ _ => true | _ => false
  if clsRank a.eff ≠ clsRank b.eff then decide (clsRank a.eff < clsRank b.eff)
  else if a.req.kind = .read ∧ b.req.kind = .read ∧ rec_ a ≠ rec_ b then rec_ a
  else if s.opBelow a ≠ s.opBelow b then s.opBelow a
  else
    let x := Tbl.getD s.dsc.credit (creditKey a) 0 * s.sliceObj Ob.DIE_WEIGHT b.req.slice
    let y := Tbl.getD s.dsc.credit (creditKey b) 0 * s.sliceObj Ob.DIE_WEIGHT a.req.slice
    if a.req.slice ≠ b.req.slice ∧ x ≠ y then decide (x < y) else decide (a.submit.toNat < b.submit.toNat)

/-- First of operations by that order. -/
def State.firstOp (s : State) (ops : List (Nat × DieOp)) : Option (Nat × DieOp) :=
  ops.foldl (fun b e => match b with | some x => if s.opBefore e.2 x.2 then some e else b | none => some e) none

/-- The operation of the admission list that enters a slot next: in the order of R217 (R215). -/
def State.nextAdmit (s : State) (n : Nat) : Option Nat :=
  (s.firstOp (((s.dsc.die n).arriving.filterMap fun i => (Tbl.find? s.dsc.ops i).map fun o => (i, o)).filter fun e => s.dsc.slotFor (s.dsc.die n) e.2)).map Prod.fst

/-- Operations of the admission list enter slots as they become free (R215): seven at most. -/
def State.fillSlots (n : Nat) : Nat → State → State
  | 0, s => s
  | fuel + 1, s =>
    match s.nextAdmit n with
    | some i => (s.modDsc fun d => d.modDie n fun x => { x with queue := x.queue ++ [i], arriving := x.arriving.filter (· != i) }).fillSlots n fuel
    | none => s

/-- Operations of the admission list enter slots as they become free (R215). -/
def State.fill (n : Nat) (s : State) : State := s.fillSlots n 7

/-- Age limit and promoted class of a class (Table 8.1). -/
def State.ageLimit (s : State) : OpClass → Option (Nat × OpClass)
  | .urgent | .high => none
  | .normal => some (s.obj Ob.DSC_AGE_NORMAL_US, .high)
  | .background => some (s.obj Ob.DSC_AGE_BKG_US, .normal)
  | .rebuild => some (s.obj Ob.AGE_REBUILD_US, .normal)
  | .gc => some (s.obj Ob.AGE_GC_US, .normal)
  | .scrub => some (s.obj Ob.AGE_SCRUB_US, .background)

/-- Suspends that operations of a kind may have (R220). -/
def State.suspLimit (s : State) (k : OpKind) : Nat := if k = .erase then s.obj Ob.SUSP_MAX_ERASE else s.obj Ob.SUSP_MAX

/-- An operation as it is submitted now. -/
def State.newOp (s : State) (r : OpRequest) (why : OpFor) (pages : List (Nat × Nat)) (slots : List PlaceSlot) (band : Nat) : DieOp :=
  { req := r, eff := if r.raised then .high else r.cls, promoted := false, submit := s.now, why := why, pages := pages, slots := slots, psn := 0
    cost := s.opCost r.kind r.planes, ageUs := ((s.ageLimit (if r.raised then .high else r.cls)).map Prod.fst).getD 0, suspLim := s.suspLimit r.kind, stamp := ⟨0, 0, 0⟩, timing := s.opTiming r.kind, started := 0, ran := 0, susp := 0, resume := false, withheld := false, guardWait := 0, band := band }

/-- Submit an operation to a die that is not OFFLINE (R214 to R216). -/
def State.submitOp (r : OpRequest) (why : OpFor) (pages : List (Nat × Nat)) (slots : List PlaceSlot) (band : Nat) (s : State) : State :=
  s.modDsc fun d =>
    let o := s.newOp r why pages slots band
    ({ d with ops := Tbl.put d.ops d.nextOp o, nextOp := d.nextOp + 1 }).place r.die d.nextOp o

/-- Remove an operation from its die and the table; tokens it holds are released. -/
def State.dropOp (n i : Nat) (s : State) : State :=
  let holds := (s.dsc.die n).active == some i
  let c := ((Tbl.find? s.dsc.ops i).map DieOp.cost).getD 0
  (s.modDsc fun d => { d.modDie n (fun x => { x with
      queue := x.queue.filter (· != i), arriving := x.arriving.filter (· != i)
      active := if x.active = some i then none else x.active
      held := if x.held = some i then none else x.held }) with
    ops := Tbl.del d.ops i, held := if holds then d.held - c else d.held }).fill n

/-- Two slots to place belong to one granule of one write or copy. -/
def PlaceSlot.mate (x y : PlaceSlot) : Bool :=
  x.nsid == y.nsid && x.dsn == y.dsn && x.src == y.src && x.slotNo - x.goff == y.slotNo - y.goff

/-- Slots of the granule that operations other than `i` still carry. -/
def Dsc.matesOut (d : Dsc) (i : Nat) (x : PlaceSlot) : Nat :=
  d.ops.foldl (fun n e => if e.1 = i then n else n + (e.2.slots.filter fun y => y.mate x).length) 0

/-- What the source of a slot still holds for offset `k` of its granule, with its key and stage offset: the stage buffers of a host write, what a copy job has read. -/
def Mxe.sourceSlot (m : Mxe) (x : PlaceSlot) (k : Nat) : Option (SlotData × Option Nat × Option Nat) :=
  match x.src with
  | .host _ =>
    (m.inflight.find? fun f => f.nsid == x.nsid && f.dsn == x.dsn && f.slots.any fun y => y.1 == k).bind fun f =>
      (f.slots.find? fun y => y.1 == k).map fun y => (y.2, x.key, (f.stages.find? fun z => z.1 == k).map Prod.snd)
  | .copy j => (Tbl.find? m.jobs j).bind fun w => (w.got.find? fun y => y.off == k).map fun y => (y.data, y.key, y.stage)
  | .system _ | .pad => none

/-- The slots of a slot's whole granule, as they are placed again. -/
def Mxe.granuleSlots (m : Mxe) (x : PlaceSlot) (spg : Nat) : List PlaceSlot :=
  (List.range spg).map fun k =>
    let d := (m.sourceSlot x k).getD (x.data, x.key, x.stage)
    { x with slotNo := x.slotNo - x.goff + k, goff := k, data := d.1, key := d.2.1, stage := d.2.2 }

/-- A granule goes back to be placed again, whole (R208, R256, R262): a host write from stage SRAM, a copy from its source. -/
def State.rePlace (i : Nat) (x : PlaceSlot) (s : State) : State :=
  if x.src = .pad then s
  else
    let spg := 4 ^ x.gsize
    let n := spg + s.dsc.matesOut i x
    s.modMxe fun m => { m with
      place := m.granuleSlots x spg ++ m.place.filter fun y => !y.mate x
      inflight := m.inflight.map fun f => if x.src = .host f.ctx ∧ f.nsid = x.nsid ∧ f.dsn = x.dsn ∧ f.index = x.slotNo / spg
        then { f with loc := none, pend := n } else f
      jobs := match x.src with
        | .copy j => Tbl.adjust m.jobs j fun w => { w with pend := n }
        | .host _ | .system _ | .pad => m.jobs }

/-- One slot of each granule among slots. -/
def oneEach : List PlaceSlot → List PlaceSlot
  | [] => []
  | x :: xs => if xs.any fun y => y.mate x then oneEach xs else x :: oneEach xs

/-- Every granule of an operation's slots is placed again. -/
def State.rePlaceAll (i : Nat) (slots : List PlaceSlot) (s : State) : State :=
  (oneEach (slots.filter fun x => x.src != .pad)).foldl (fun s x => s.rePlace i x) s

/-- The pages a program covers: physical block, page and position in the row, plane by plane (R193, R313). -/
def State.opPages (s : State) (r : OpRequest) : List (Nat × Nat) :=
  let k := pagesPerWl (opMode r.kind)
  (List.range r.planes).flatMap fun pl => (List.range k).map fun j => (r.block / s.fca.planes * s.fca.planes + (r.block % s.fca.planes + pl), r.page / k * k + j)

/-- A member of an ERASING band owes no erase any more (Table 7.6): erased good, retired, or its die is OFFLINE. The band is ERASED after the last one. -/
def State.memberErased (b die : Nat) (s : State) : State :=
  s.modMxe fun m =>
    let m := m.modBand b fun x => { x with erasing := x.erasing.filter (· != die), toErase := x.toErase.filter (· != die) }
    if (Tbl.find? m.bands b).any fun x => (x.state == .released || x.state == .erasing) && x.erasing.isEmpty && x.toErase.isEmpty then { m with bands := Tbl.del m.bands b } else m

/-! ## Engines (R274) -/

/-- Engines of a kind (Table 10.6). -/
def Engine.count : Engine → Nat
  | .hard => 48
  | .soft => 16
  | .joint => 4
  | .verify => 8

/-- Codewords that engines of a kind have. -/
def Cdx.busyOf (c : Cdx) (e : Engine) : Nat := enginesBusy c.frames e

/-- Earlier in the order of R274: class, Urgent first; then the submit tick of the read. -/
def Frame.before (a b : Frame) : Bool :=
  decide (clsRank a.cls < clsRank b.cls) || (a.cls == b.cls && decide (a.submit.toNat < b.submit.toNat))

/-- The waiting codeword that a kind of engine takes next (R234, R274). -/
def Cdx.nextFrame (c : Cdx) (e : Engine) : Option Frame :=
  (c.frames.filter fun f => f.eng == e && !f.busy).foldl (fun b f => match b with | some x => if f.before x then some f else b | none => some f) none

/-- Free engines of a kind take waiting codewords in their order. -/
def Cdx.fillEngine (e : Engine) : Nat → Cdx → Cdx
  | 0, c => c
  | n + 1, c =>
    if e.count ≤ c.busyOf e then c
    else
      match c.nextFrame e with
      | some f => Cdx.fillEngine e n { c with frames := c.frames.map fun x => if x = f then { x with busy := true } else x }
      | none => c

/-- Free engines take waiting codewords (R274). -/
def Cdx.fillEngines (c : Cdx) : Cdx :=
  let n := c.frames.length
  (((c.fillEngine .hard n).fillEngine .soft n).fillEngine .joint n).fillEngine .verify n

/-- A recovery read of a codeword has come in, or will not: after the last one of its step, the codeword waits for the step's engine (R282). -/
def Cdx.landed (l : Loc) (c : Cdx) : Cdx :=
  match c.climb.find? fun e => e.loc == l with
  | some x =>
    let c := { c with climb := c.climb.map fun e => if e = x then { e with left := e.left - 1 } else e }
    if x.left ≤ 1 then Cdx.fillEngines { c with frames := c.frames ++ [{ loc := l, eng := x.eng, cls := x.cls, submit := x.submit, busy := false }] } else c
  | none => c

/-- The queue work of an operation that ends with DIE_FAIL (R219, R229): its slots are placed again. -/
def State.returnFail (i : Nat) (o : DieOp) (s : State) : State :=
  match o.why with
  | .place => s.rePlaceAll i o.slots
  | .summary b => s.modMxe fun m => m.modBand b fun x => { x with summaries := x.summaries.filter (· != o.req.die) }
  | .erase b => s.memberErased b o.req.die
  | .recover l _ => s.modCdx (Cdx.landed l)
  | .host _ | .copy _ | .verify | .scrub | .rebuild | .merge _ | .parity _ _ | .dump _ | .other => s

end Sys2Proof.Machine
end

