-- ==== Sys2Proof/Machine/StripeOps.lean ====
section
/-! DEFINITION. Stripes (spec/11): the declustered layout (R313 to R319), parity (R320), gathering and the states of Table 11.2, open-block parity (R323 to R329), and what L5 can rebuild (R288, R329, Table 11.5). -/

namespace Sys2Proof.Machine

/-! ## Layout -/

/-- One step of the 64-bit xorshift of R317. -/
def xorshift (x : Nat) : Nat :=
  let x := x ^^^ (2 ^ 13 * x % 2 ^ 64)
  let x := x ^^^ (x / 2 ^ 7)
  x ^^^ (2 ^ 17 * x % 2 ^ 64)

/-- Swap two entries of a list. -/
def swapAt {α : Type} [Inhabited α] (l : List α) (i j : Nat) : List α := (l.set i (l.getD j default)).set j (l.getD i default)

/-- The loop of `shuffle` from index i down to 1. -/
def shuffleFrom {α : Type} [Inhabited α] : Nat → Nat → List α → List α
  | 0, _, l => l
  | i + 1, x, l =>
    let x := xorshift x
    shuffleFrom i x (swapAt l (i + 1) (x % (i + 2)))

/-- `shuffle` of R317. -/
def shuffle {α : Type} [Inhabited α] (l : List α) (seed : Nat) : List α := shuffleFrom (l.length - 1) (seed ^^^ 0x9E3779B97F4A7C15) l

/-- Rounds over the channel lists: one entry of each that has one. -/
def dealRounds {α : Type} : Nat → List (List α) → List α
  | 0, _ => []
  | n + 1, ls => ls.filterMap List.head? ++ dealRounds n (ls.map List.tail)

/-- Members on a channel in ascending die number. -/
def membersOn (ms : List (Nat × Nat)) (c : Nat) : List (Nat × Nat) :=
  sortBy (fun a b => decide (a.1 ≤ b.1)) (ms.filter fun m => chOf m.1 == c)

/-- Permutation k of a band's members (R317). -/
def bandPerm (ms : List (Nat × Nat)) (bsn k : Nat) : List (Nat × Nat) :=
  let chans := (List.range 32).filter fun c => !(membersOn ms c).isEmpty
  dealRounds ms.length ((shuffle chans (bsn ||| 2 ^ 32 * k)).map fun c => shuffle (membersOn ms c) (bsn ||| 2 ^ 32 * k ||| 2 ^ 38 * (c + 1)))

/-- Number of stripes at a row and position (R314). -/
def stripeCount (n w : Nat) : Nat := if n < w then 1 else ceilDiv n w

/-- Units of stripe j (R314). -/
def stripeSize (n w j : Nat) : Nat :=
  let s := stripeCount n w
  if j < n - s * (n / s) then n / s + 1 else n / s

/-- First entry of stripe j in the permutation. -/
def stripeStart (n w : Nat) : Nat → Nat
  | 0 => 0
  | j + 1 => stripeStart n w j + stripeSize n w j

/-- Positions of a row (R313). -/
def State.ppr (s : State) (b : Band) : Nat := s.fca.planes * pagesPerWl b.mode

/-- Row and position of a page (R313). -/
def State.rowPos (s : State) (b : Band) (block page : Nat) : Nat × Nat :=
  (page / pagesPerWl b.mode, s.fca.planeOf block * pagesPerWl b.mode + page % pagesPerWl b.mode)

/-- Permutation index of a row and position. -/
def State.permIdx (s : State) (b : Band) (row pos : Nat) : Nat := (row * s.ppr b + pos) % 64

/-- Members of stripe j in ordinal order. -/
def State.stripeUnits (s : State) (b : Band) (row pos j : Nat) : List (Nat × Nat) :=
  ((bandPerm b.members b.bsn (s.permIdx b row pos)).drop (stripeStart b.members.length b.width j)).take (stripeSize b.members.length b.width j)

/-- The stripe that holds a member at a row and position. -/
def State.stripeOf (s : State) (b : Band) (row pos : Nat) (m : Nat × Nat) : Nat :=
  ((List.range (stripeCount b.members.length b.width)).find? fun j => (s.stripeUnits b row pos j).contains m).getD 0

/-- Class of a stripe of w units (R316). -/
def stripeClass (c : ParClass) (w : Nat) : ParClass :=
  match c with
  | .none => .none
  | .p => if w < 3 then .none else .p
  | .pq => if w < 4 then .none else .pq

/-- Ordinal of the P unit (R319). -/
def State.pOrdinal (s : State) (b : Band) (row pos j w : Nat) : Nat := (row * s.ppr b + pos + j) % w

/-- What a unit of a stripe is: data with its data index, P or Q (R319). -/
inductive UnitRole where
  | data (d : Nat)
  | p
  | q
deriving DecidableEq, Repr, Inhabited

/-- Role of ordinal i in a stripe of w units. -/
def unitRole (c : ParClass) (w pOrd i : Nat) : UnitRole :=
  match c with
  | .none => .data i
  | .p => if i = pOrd then .p else .data (if pOrd < i then i - 1 else i)
  | .pq =>
    let qo := (pOrd + 1) % w
    if i = pOrd then .p else if i = qo then .q else .data (i - (if pOrd < i then 1 else 0) - (if qo < i then 1 else 0))

/-- Role of a member's unit at a page. -/
def State.roleAt (s : State) (b : Band) (m : Nat × Nat) (block page : Nat) : UnitRole :=
  let (row, pos) := s.rowPos b block page
  let j := s.stripeOf b row pos m
  let units := s.stripeUnits b row pos j
  unitRole (stripeClass b.par units.length) units.length (s.pOrdinal b row pos j units.length) (units.idxOf m)

/-! ## Parity arithmetic (R320) -/

/-- Every byte 0x01 of a payload of n bytes. -/
def bytesOne (n : Nat) : Nat := (256 ^ n - 1) / 255

/-- Multiplication of every byte of a payload by g = 2 in GF(2^8), polynomial 0x11D. -/
def gfTwo (v : Nat) : Nat :=
  let ones := bytesOne 16576
  ((v &&& (0x7F * ones)) * 2) ^^^ ((v / 128 &&& ones) * 0x1D)

/-- Multiplication by g^d. -/
def gfPow : Nat → Nat → Nat
  | 0, v => v
  | d + 1, v => gfPow d (gfTwo v)

/-! ## Stripes in flight -/

/-- The stripe at a band, row, position and number. -/
def Spe.stripe? (p : Spe) (bsn row pos num : Nat) : Option Stripe :=
  p.stripes.find? fun x => x.bsn == bsn && x.row == row && x.pos == pos && x.num == num

/-- Same stripe. -/
def Stripe.same (x y : Stripe) : Bool := x.bsn == y.bsn && x.row == y.row && x.pos == y.pos && x.num == y.num

/-- Change a stripe. -/
def Spe.modStripe (p : Spe) (x : Stripe) (f : Stripe → Stripe) : Spe :=
  { p with stripes := p.stripes.map fun y => if y.same x then f y else y }

/-- Accumulators of a stripe. -/
def Stripe.accs (x : Stripe) : Nat := (if x.accP.isSome then 1 else 0) + (if x.accQ.isSome then 1 else 0)

/-- Accumulators held (SPE_ACC_STS.IN_USE). -/
def Spe.inUse (p : Spe) : Nat := p.stripes.foldl (fun n x => n + x.accs) 0

/-- Free accumulators: three to a buffer (R327). -/
def Spe.accFree (p : Spe) : Nat := 3 * p.accBufs - p.inUse

/-- A change of a stripe's journal entry: copy S at once, a log page entry to come (R330). -/
def State.stripeLogged (s : State) : State :=
  s.modSpe fun p => { p with pageFill := p.pageFill + 1, pageTick := if p.pageTick.isSome then p.pageTick else some s.now }

/-- Bit i of a mask of ordinals. -/
def ordBit (i : Nat) : BitVec 64 := BitVec.ofNat 64 (2 ^ i)

/-- Ordinals that hold data. -/
def Stripe.dataOrds (x : Stripe) : List Nat :=
  (List.range x.units.length).filter fun i =>
    match unitRole x.cls x.units.length x.pOrd i with
    | .data _ => true
    | _ => false

/-- A new stripe at its first data unit (Table 11.2). -/
def State.newStripe (s : State) (band : Nat) (b : Band) (row pos num : Nat) : Stripe :=
  let units := s.stripeUnits b row pos num
  let cls := stripeClass b.par units.length
  let missing := (List.range units.length).foldl (fun (v : BitVec 64) i =>
    let m := units.getD i default
    if Tbl.has s.mxe.retired (blkKey m.1 m.2) || s.dsc.dieState m.1 == .offline then v ||| BitVec.ofNat 64 (2 ^ i) else v) 0
  { band := band, bsn := b.bsn, row := row, pos := pos, num := num, cls := cls, state := .gathering, perm := s.permIdx b row pos
    units := units, pOrd := s.pOrdinal b row pos num units.length, issued := 0, good := 0, missing := missing, accP := some 0
    accQ := if cls = .pq then some 0 else none, psnFirst := 0, psnLast := 0, started := s.now }

/-- The first data unit of a new stripe waits: no accumulator, journal full, or copy S being rebuilt (R327, R330, R331). -/
def State.stripeWaits (s : State) (band : Nat) (b : Band) (m : Nat × Nat) (block page : Nat) : Bool :=
  let (row, pos) := s.rowPos b block page
  let j := s.stripeOf b row pos m
  match s.spe.stripe? b.bsn row pos j with
  | some _ => false
  | none => decide (s.spe.accFree < (s.newStripe band b row pos j).accs) || decide (65536 ≤ s.spe.stripes.length) || !s.spe.okS

/-- Physical block of a member at a position. -/
def State.unitBlock (s : State) (b : Band) (m : Nat × Nat) (pos : Nat) : Nat := m.2 * s.fca.planes + pos / pagesPerWl b.mode

/-- Page of a unit at a row and position. -/
def unitPage (b : Band) (row pos : Nat) : Nat := row * pagesPerWl b.mode + pos % pagesPerWl b.mode

/-- Program kind of a cell mode. -/
def modeKind : Nat → OpKind
  | 0 => .slcProgram
  | 1 => .tlcProgram
  | _ => .qlcProgram

/-- Submit one parity unit of a stripe (R323), in a class. -/
def State.submitParity (x : Stripe) (b : Band) (i : Nat) (q : Bool) (payload : Nat) (cls : OpClass) (s : State) : State :=
  let m := x.units.getD i default
  s.submitOp { kind := modeKind b.mode, die := m.1, block := s.unitBlock b m x.pos, page := unitPage b x.row x.pos, planes := 1, cls := cls
               raised := false, slice := b.slice } (.parity q payload) [(s.unitBlock b m x.pos, unitPage b x.row x.pos)] [] x.band

/-- When every data unit is issued or missing the stripe is SEALING and its parity units are submitted (R323, Table 11.2). -/
def State.sealStripe (x : Stripe) (b : Band) (cls : OpClass) (s : State) : State :=
  if x.state = .gathering ∧ x.dataOrds.all (fun i => x.issued.getLsbD i || x.missing.getLsbD i) = true then
    let s := (s.modSpe fun p => p.modStripe x fun y => { y with state := .sealing }).stripeLogged
    match x.cls with
    | .none => s
    | .p => s.submitParity x b x.pOrd false (x.accP.getD 0) cls
    | .pq => (s.submitParity x b x.pOrd false (x.accP.getD 0) cls).submitParity x b ((x.pOrd + 1) % x.units.length) true (x.accQ.getD 0) cls
  else s

/-- Add, or take out again, a data unit's payload (R323, R328). -/
def Stripe.accumulate (x : Stripe) (i payload : Nat) : Stripe :=
  match unitRole x.cls x.units.length x.pOrd i with
  | .data d => { x with accP := x.accP.map (· ^^^ payload), accQ := x.accQ.map (· ^^^ gfPow d payload) }
  | _ => x

/-- A data unit's program is issued (R323): the stripe starts or goes on, its payload enters the accumulator. -/
def State.stripeIssue (band : Nat) (b : Band) (m : Nat × Nat) (block page psn payload : Nat) (cls : OpClass) (s : State) : State :=
  let (row, pos) := s.rowPos b block page
  let j := s.stripeOf b row pos m
  let s := match s.spe.stripe? b.bsn row pos j with
    | some _ => s
    | none =>
      let x := s.newStripe band b row pos j
      let s := if x.cls = ParClass.none ∧ b.par ≠ ParClass.none then s.count Fld.SPE_NARROW_CNT.COUNT 0 1 else s
      s.modSpe fun p => { p with stripes := p.stripes ++ [{ x with psnFirst := psn }] }
  match s.spe.stripe? b.bsn row pos j with
  | some x =>
    let i := x.units.idxOf m
    let s := (s.modSpe fun p => p.modStripe x fun y => { y.accumulate i payload with issued := y.issued ||| ordBit i, psnLast := psn }).stripeLogged
    match s.spe.stripe? b.bsn row pos j with
    | some x => s.sealStripe x b cls
    | none => s
  | none => s

/-- Every unit has reported good or is missing. -/
def Stripe.allGood (x : Stripe) : Bool := (List.range x.units.length).all fun i => x.good.getLsbD i || x.missing.getLsbD i

/-- Each unit of the stripe has a good page at row r + OBP_DEPTH (R324). -/
def State.stripeAged (s : State) (x : Stripe) (b : Band) : Bool :=
  x.units.all fun m =>
    (Tbl.find? s.mxe.nand (pageKey m.1 (s.unitBlock b m x.pos) (unitPage b (x.row + s.obj Ob.OBP_DEPTH) x.pos))).any Page.good

/-- HELD stripes of the band that leave the journal now (R324): aged, or the band is CLOSED. -/
def State.releaseStripes (band : Nat) (s : State) : State :=
  match Tbl.find? s.mxe.bands band with
  | some b =>
    let done := s.spe.stripes.filter fun x => x.band == band && x.state == .held
      && (s.stripeAged x b || b.state == .closed || b.state == .victim)
    done.foldl (fun s x => (s.modSpe fun p => { p with stripes := p.stripes.filter fun y => !y.same x }).stripeLogged) s
  | none => s

/-- A unit of a stripe reports good (Table 11.2): HELD once all have; class P and PQ then free the accumulator (R324). -/
def State.stripeGood (band : Nat) (b : Band) (m : Nat × Nat) (block page : Nat) (s : State) : State :=
  let (row, pos) := s.rowPos b block page
  match s.spe.stripe? b.bsn row pos (s.stripeOf b row pos m) with
  | some x =>
    let y := { x with good := x.good ||| ordBit (x.units.idxOf m) }
    let y := if y.state = .sealing ∧ y.allGood = true then
        { y with state := .held, accP := if y.cls = .none then y.accP else none, accQ := if y.cls = .none then y.accQ else none }
      else y
    ((s.modSpe fun p => p.modStripe x fun _ => y).stripeLogged).releaseStripes band
  | none => s.releaseStripes band

/-- Current slots of a page: granules whose entry names a slot of it, with the entry's location. -/
def State.currentOn (s : State) (die block page : Nat) : List (Nat × Nat × Loc) :=
  match Tbl.find? s.mxe.nand (pageKey die block page) with
  | some p => (p.slots.filterMap fun c =>
      match s.mxe.ns? c.hdr.nsid with
      | some n =>
        let g := c.hdr.lba * n.lbaBytes / 4096 / n.spg
        let e := s.mxe.entry c.hdr.nsid g
        if e.located && e.loc.die == die && e.loc.block == block && decide (e.loc.page ≤ page) && decide (page ≤ e.loc.page + (n.spg - 1) / 4)
        then some (c.hdr.nsid, g, e.loc) else none
      | none => none).dedup
  | none => []

/-- A unit's program fails (R328): a data unit is taken out of the stripe; for a parity unit the stripe is DEGRADED and its data units are relocated at High class. -/
def State.stripeFail (_band : Nat) (b : Band) (m : Nat × Nat) (block page payload : Nat) (isParity : Bool) (s : State) : State :=
  let (row, pos) := s.rowPos b block page
  match s.spe.stripe? b.bsn row pos (s.stripeOf b row pos m) with
  | some x =>
    let i := x.units.idxOf m
    if isParity then
      let s := (s.modSpe fun p => p.modStripe x fun y => { y with state := .degraded, missing := y.missing ||| ordBit i }).stripeLogged
      x.dataOrds.foldl (fun s i =>
        let u := x.units.getD i default
        (s.currentOn u.1 (s.unitBlock b u pos) (unitPage b row pos)).foldl (fun s e => s.relocate e.1 e.2.1 e.2.2 .gc true) s) s
    else
      let s := (s.modSpe fun p => p.modStripe x fun y => { y.accumulate i payload with missing := y.missing ||| ordBit i }).stripeLogged
      match s.spe.stripe? b.bsn row pos x.num with
      | some y => s.sealStripe y b b.lastCls
      | none => s
  | none => s

/-- Copies of the stripe journal are lost (R331): events and a recorder record for those in service. -/
def State.sjLose (a b c : Bool) (s : State) : State :=
  let la := a && s.spe.okA
  let lb := b && s.spe.okB
  let lc := c && s.spe.okS
  if la || lb || lc then
    let s := s.modSpe fun p => { p with okA := p.okA && !a, okB := p.okB && !b, okS := p.okS && !c, remirror := p.remirror || la || lb }
    let s := if !s.spe.okA && !s.spe.okB && !s.spe.okS then s.flag Fld.SPE_SJ_EVT.ALL_LOST 0 1
      else if !s.spe.okA && !s.spe.okB then s.flag Fld.SPE_SJ_EVT.NAND_BOTH 0 1 else s.flag Fld.SPE_SJ_EVT.COPY_LOST 0 1
    s.trigger 0x13 UnitNo.spe 0 0
  else s

/-- A die for a journal copy: the first in service whose channel differs from that of another die. -/
def State.otherDie (s : State) (d : Nat) : Nat :=
  (((s.dsc.dies.filter fun e => e.2.state != .offline && chOf e.1 != chOf d).map Prod.fst).head?).getD d

/-- The rewriting of lost copies ends (Table 11.4): copy S is whole again, and new copies stand on dies of different channels (notes/assumptions/24.md). -/
def State.sjRestore (s : State) : State :=
  if s.spe.remirror || !s.spe.okS then
    let dieA := if s.spe.okA then s.spe.dieA else s.otherDie s.spe.dieB
    let dieB := if s.spe.okB then s.spe.dieB else s.otherDie dieA
    s.modSpe fun p => { p with okA := true, okB := true, okS := true, remirror := false, dieA := dieA, dieB := dieB, nandA := p.stripes, nandB := p.stripes }
  else s

/-! ## What can be rebuilt -/

/-- A unit of the stripe can be read: its page is good, its die is not OFFLINE and not named as failed. -/
def State.unitReads (s : State) (b : Band) (m : Nat × Nat) (row pos : Nat) (failed : List Nat) : Bool :=
  (Tbl.find? s.mxe.nand (pageKey m.1 (s.unitBlock b m pos) (unitPage b row pos))).any Page.good
    && s.dsc.dieState m.1 != .offline && !failed.contains m.1 && !s.spe.failed.contains m.1

/-- The units that a stripe's parity covers: of one in flight those issued and not missing. -/
def State.coveredUnits (s : State) (b : Band) (row pos j : Nat) : List (Nat × Nat) :=
  match s.spe.stripe? b.bsn row pos j with
  | some x => ((List.range x.units.length).filter fun i => x.issued.getLsbD i && !x.missing.getLsbD i).map fun i => x.units.getD i default
  | none => s.stripeUnits b row pos j

/-- Missing units of a stripe: those that cannot be read, among the units that its parity covers. -/
def State.missingUnits (s : State) (b : Band) (row pos j : Nat) (failed : List Nat) : List (Nat × Nat) :=
  (s.coveredUnits b row pos j).filter fun m => !s.unitReads b m row pos failed

/-- Units that the stripe can lose and still rebuild (Table 11.5): its class in a closed stripe, its accumulators while it holds open-block parity. -/
def State.stripeStrength (s : State) (b : Band) (row pos j : Nat) : Nat :=
  match s.spe.stripe? b.bsn row pos j with
  | some x =>
    match x.state with
    | .gathering | .sealing | .degraded => x.accs
    | .held => if x.cls = .none then x.accs else (if x.cls = .pq then 2 else 1)
  | none =>
    match stripeClass b.par (s.stripeUnits b row pos j).length with
    | .none => 0
    | .p => 1
    | .pq => 2

/-- The stripe of a location: band, row, position, number, member. -/
def State.stripeAt (s : State) (l : Loc) : Option (Nat × Band × Nat × Nat × Nat × (Nat × Nat)) :=
  (s.bandAt l.die l.block).map fun (n, b) =>
    let m := (l.die, s.fca.sbOf l.block)
    let (row, pos) := s.rowPos b l.block l.page
    (n, b, row, pos, s.stripeOf b row pos m, m)

/-- L5 has parity to use for a location (R282). -/
def State.hasParity (s : State) (l : Loc) : Bool :=
  match s.stripeAt l with
  | some (_, b, row, pos, j, _) => decide (0 < s.stripeStrength b row pos j)
  | none => false

/-- L5 rebuilds a location (R288, R322, R329): this unit and the others missing are within the stripe's strength. -/
def State.rebuildable (s : State) (l : Loc) : Bool :=
  match s.stripeAt l with
  | some (_, b, row, pos, j, m) =>
    decide (((s.missingUnits b row pos j []).filter (· != m)).length + 1 ≤ s.stripeStrength b row pos j)
  | none => false

/-- Pages of the surviving members of a location's stripe (R288): die, block and page. -/
def State.survivors (s : State) (l : Loc) : List (Nat × Nat × Nat) :=
  match s.stripeAt l with
  | some (_, b, row, pos, j, m) =>
    ((s.coveredUnits b row pos j).filter fun u => u != m && s.unitReads b u row pos []).map fun u => (u.1, s.unitBlock b u pos, unitPage b row pos)
  | none => []

/-- A band's kind and namespace give its parity class and width (R315). -/
def State.bandParity (s : State) (k : BandKind) (nsid : Nat) : ParClass × Nat :=
  match k with
  | .landing => (.p, s.obj Ob.LZ_WIDTH)
  | .system => (.none, 8)
  | .user | .gc =>
    (match s.obj Ob.PAR_CLASS ((nsid - 1) / 256) ((nsid - 1) % 256) with
      | 0 => .none
      | 1 => .p
      | _ => .pq,
     s.obj Ob.PAR_WIDTH ((nsid - 1) / 256) ((nsid - 1) % 256))

end Sys2Proof.Machine
end

