-- ==== Sys2Proof/Machine/DumpOps.lean ====
section
/-! DEFINITION. Pages of a hold-up dump (spec/12, R358, R362 to R364): how many there are, which one a dump die programs next, its start under R229 and R258, and its end. -/

namespace Sys2Proof.Machine

/-! ## Pages -/

/-- Slots of writes in a dump: those of its granules, and those of which a waiting merge holds bytes. -/
def DumpImage.slotCount (x : DumpImage) : Nat :=
  x.grans.foldl (fun n g => n + g.1.slots.length) 0 + x.locks.foldl (fun n l => n + (l.part.map fun p => p.1).dedup.length) 0

/-- Pages of the begin record, the stage slots and the accumulators (Table 12.3). -/
def DumpImage.slotPages (x : DumpImage) : Nat := 1 + ceilDiv x.slotCount 4 + ceilDiv (16576 * x.accs) 16384

/-- Pages of the journal buffer and of copy S (Table 12.3). -/
def DumpImage.journalPages (x : DumpImage) : Nat := ceilDiv (24 * x.jrnl.length) 16384 + ceilDiv (64 * x.copyS.length) 16384

/-- Pages that the step of R364 lets programs carry so far: the header's is the last of all, and its program is DUMP_HEADER_GOOD's. -/
def DumpRun.due (r : DumpRun) : Nat :=
  match r.step with
  | .slots => r.image.slotPages
  | .journal => r.image.slotPages + r.image.journalPages
  | .aborted => 0

/-- Logical page that the k-th of D dump dies programs next (R363): one whose program failed goes to the spare first. -/
def DumpRun.nextPage (r : DumpRun) (k D : Nat) : Option Nat :=
  match r.redo.find? fun n => n % D == k with
  | some n => some n
  | none => if k + D * Tbl.getD r.begun k 0 < r.due then some (k + D * Tbl.getD r.begun k 0) else none

/-- Entries of REPL_LIST on a die. -/
def DumpImage.spareUsed (x : DumpImage) (d : Nat) : Nat := (x.repl.filter fun e => e.2.1 == d).length

/-- Block and page of a logical page on its die: the dump block is superblock 0, the spare block superblock 1, plane 0 (notes/assumptions/34.md). -/
def State.dumpPlace (s : State) (x : DumpImage) (n D : Nat) : Nat × Nat :=
  match x.repl.reverse.find? fun e => e.1 == n with
  | some e => (e.2.2.1, e.2.2.2)
  | none => (0 * s.fca.planes, n / D)

/-! ## Start -/

/-- The stagger has passed (R229). -/
def State.staggerPassed (s : State) : Bool :=
  match s.dsc.stagger with
  | some t => s.passed t (ceilDiv (s.obj Ob.STAGGER_NS * 4) 5)
  | none => true

/-- The dump page that a die programs now: it is a dump die, runs nothing, is not OFFLINE, and neither VDDQ_DUMP_MV nor TEMP withholds it (R237, R258, R265, R363). -/
def State.dumpPage (s : State) (r : DumpRun) (d : Nat) : Option Nat :=
  if s.hum.dies.contains d && (s.dsc.die d).active.isNone && s.dsc.dieState d != .offline && !s.fca.vddqDump && !Tbl.has s.fca.tempHeld d
      && decide (r.tick.toNat < s.now.toNat) then r.nextPage (s.hum.dies.idxOf d) s.hum.dies.length
  else none

/-- A dump program starts: it takes no operation slot (R237), the next PSN (R363), and its cost. -/
def State.beginDumpPage (r : DumpRun) (d n : Nat) (s : State) : State :=
  let at_ := s.dumpPlace r.image n s.hum.dies.length
  let o : DieOp := { s.newOp { kind := .slcProgram, die := d, block := at_.1, page := at_.2, planes := 1, cls := .high, raised := false, slice := 0 }
    (.dump n) [at_] [] 0 with psn := s.mxe.psn, started := s.now }
  let k := s.hum.dies.idxOf d
  let s := s.modHum fun h => { h with dump := some { r with
    redo := r.redo.erase n, begun := if r.redo.contains n then r.begun else Tbl.put r.begun k (Tbl.getD r.begun k 0 + 1) } }
  let s := (s.modMxe fun m => { m with psn := m.psn + 1 }).modDsc fun c =>
    { c.modDie d (fun x => { x with state := .busy, active := some c.nextOp, pollDue := s.now.toNat + o.firstPoll, found := none }) with
      ops := Tbl.put c.ops c.nextOp o, nextOp := c.nextOp + 1, held := c.held + o.cost, stagger := some s.now }
  s.nandCmd d (.confirm .slcProgram)

/-- The dump's tokens allow a start (R364). -/
def State.dumpTokensOk (s : State) : Bool := decide (s.dsc.held + s.obj Ob.COST_SLC_PROG ≤ s.obj Ob.DUMP_NAND_TOKENS)

/-- The start of a dump program (R364): H + c ≤ DUMP_NAND_TOKENS, and the stagger. -/
def State.dumpOpStart (r : DumpRun) (d : Nat) (s : State) : State :=
  match s.dumpPage r d with
  | some n =>
    if s.dumpTokensOk && s.staggerPassed then s.beginDumpPage r d n else s
  | none => s

/-! ## End of a dump program -/

/-- A dump page's program has reported (R363, R364): good, or listed in REPL_LIST and due in the spare block; a 129th entry leaves the dump without a header. -/
def State.dumpEnded (d n : Nat) (good : Bool) (s : State) : State :=
  s.modHum fun h => { h with dump := h.dump.map fun r =>
    if good then { r with image := { r.image with pages := r.image.pages + 1 } }
    else if 128 ≤ r.image.repl.length then { r with step := .aborted }
    else { r with redo := r.redo ++ [n], image := { r.image with repl := r.image.repl ++ [(n, d, s.fca.planes, r.image.spareUsed d)] } } }

end Sys2Proof.Machine
end

