-- ==== Sys2Proof/Machine/DieSched.lean ====
section
/-! DEFINITION. Die scheduling (spec/08): what a submission becomes, which operation starts next and what it costs, what a die's report does, promotion, suspend and resume, a die going offline and returning, the NAND budget and the thermal steps. -/

namespace Sys2Proof.Machine

/-! ## Placement: the slots a program takes (R190, R193, R185) -/

/-- Group of a die (05, "Die groups"). -/
def dieGroup (die : Nat) : Nat := 2 * (die / 32) + die % 32 / 16

/-- The die belongs to the slice's DIE_SET (R139). -/
def State.inDieSet (s : State) (slice die : Nat) : Bool := bitAt (s.sliceObj Ob.DIE_SET slice) (dieGroup die)

/-- A slot may go into the band: its kind, and for USER and GC bands its namespace (R190, R315). -/
def Band.fits (b : Band) (x : PlaceSlot) : Bool :=
  x.kind == b.kind && (b.kind == .landing || b.kind == .system || x.nsid == b.nsid)

/-- Up to `n` slots of a queue that satisfy `p`, and the rest. -/
def takeFit (p : PlaceSlot → Bool) : Nat → List PlaceSlot → List PlaceSlot × List PlaceSlot
  | 0, q => ([], q)
  | _, [] => ([], [])
  | n + 1, x :: q =>
    if p x then (x :: (takeFit p n q).1, (takeFit p n q).2) else ((takeFit p (n + 1) q).1, x :: (takeFit p (n + 1) q).2)

/-- New placement of a slice may go to the band's die: landing and SYSTEM bands take every die, folded and directly placed data only those of DIE_SET (R139, R145). -/
def State.placeable (s : State) (b : Band) (die : Nat) (x : PlaceSlot) : Bool :=
  b.fits x && (b.kind == .landing || b.kind == .system || s.inDieSet x.slice die) && !(s.psPending && x.isCopy)

/-- A PAD slot of a band (Table 7.3). -/
def Band.padSlot (b : Band) : PlaceSlot :=
  { src := .pad, nsid := b.nsid, slotNo := 0, dsn := 0, kind := b.kind, slice := b.slice, qlc := b.qlc, data := 0, key := none
    stage := none, goff := 0, gsize := 0, lostFill := false, poison := false, cls := b.lastCls }

/-- Four slots to a page, PAD after the last. -/
def Band.padTo4 (b : Band) (xs : List PlaceSlot) : List PlaceSlot := xs ++ List.replicate (4 - xs.length) b.padSlot

/-- What is left to place, and the 64 KiB granules being placed page by page. -/
structure Filling where
  queue : List PlaceSlot
  cont  : List (Nat × Nat × Nat)
  slots : List PlaceSlot
deriving DecidableEq, Repr, Inhabited

/-- Pages `page` to `page + 3` of a member are data pages, so that a 64 KiB granule can lie there (R185). -/
def State.fourPages (s : State) (b : Band) (m : Nat × Nat) (block page : Nat) : Bool :=
  page % 4 == 0 && (List.range 4).all fun j =>
    match s.roleAt b m block (page + j) with
    | .data _ => decide ((page + j) / pagesPerWl b.mode < s.fca.part.wls - 8)
    | _ => false

/-- Fill one data page: the next page of a 64 KiB granule begun in the block, else the first waiting slots that fit. -/
def State.fillPage (s : State) (b : Band) (m : Nat × Nat) (f : Filling) (p : Nat × Nat) : Filling :=
  match f.cont.find? (fun c => c.1 == p.1) with
  | some c =>
    let (xs, q) := takeFit (fun x => s.placeable b m.1 x && x.gsize == 2 && x.nsid == c.2.1 && decide (c.2.2 ≤ x.slotNo) && decide (x.slotNo < c.2.2 + 4)) 4 f.queue
    let rest := f.cont.filter fun y => y.1 != p.1
    { queue := q, cont := if (c.2.2 + 4) % 16 = 0 then rest else (p.1, c.2.1, c.2.2 + 4) :: rest, slots := f.slots ++ b.padTo4 xs }
  | none =>
    match f.queue.find? (fun x => s.placeable b m.1 x && (x.gsize != 2 || (x.goff == 0 && s.fourPages b m p.1 p.2))) with
    | some x =>
      let (xs, q) := takeFit (fun y => s.placeable b m.1 y && (if x.gsize = 0 then y.gsize == 0
        else y.mate x && decide (y.goff < 4))) 4 f.queue
      { queue := q, cont := if x.gsize = 2 then (p.1, x.nsid, x.slotNo + 4) :: f.cont else f.cont, slots := f.slots ++ b.padTo4 xs }
    | none => { f with slots := f.slots ++ b.padTo4 [] }

/-- The page is programmed, or carried by an operation. -/
def State.pageUsed (s : State) (die : Nat) (p : Nat × Nat) : Bool :=
  Tbl.has s.mxe.nand (pageKey die p.1 p.2) || s.dsc.ops.any fun o => o.2.req.die == die && isProgram o.2.req.kind && o.2.pages.contains p

/-- The pages of the request are the next of their block. -/
def State.inOrder (s : State) (r : OpRequest) : Bool :=
  let k := pagesPerWl (opMode r.kind)
  r.page % k == 0 && decide (1 ≤ r.planes) && decide (r.block % s.fca.planes + r.planes ≤ s.fca.planes)
    && !(s.opPages r).all (s.pageUsed r.die) && (decide (r.page < k) || s.pageUsed r.die (r.block, r.page - k))

/-- Data pages among a request's pages: those whose unit is no parity unit (R319). -/
def State.dataPages (s : State) (b : Band) (r : OpRequest) : List (Nat × Nat) :=
  (s.opPages r).filter fun p => !s.pageUsed r.die p &&
    match s.roleAt b (r.die, s.fca.sbOf r.block) p.1 p.2 with
    | .data _ => true
    | _ => false

/-- A program of the band's next pages (R193): the slots come from those waiting, or are PAD while the band is padded (R191). -/
def State.submitData (n : Nat) (b : Band) (r : OpRequest) (s : State) : State :=
  let pages := s.dataPages b r
  let f0 : Filling := { queue := if b.state = .opened then s.mxe.place else [], cont := b.cont, slots := [] }
  let f := pages.foldl (s.fillPage b (r.die, s.fca.sbOf r.block)) f0
  if b.state = .opened ∧ f.slots.all (fun x => x.src == .pad) = true then s
  else
    let first := f.slots.find? fun x => x.src != .pad
    let cls := (first.map PlaceSlot.cls).getD b.padCls
    let s := s.modMxe fun m => { (m.modBand n fun x => { x with cont := f.cont }) with place := if b.state = .opened then f.queue else m.place }
    s.submitOp { r with cls := cls, slice := (first.map PlaceSlot.slice).getD b.slice } .place pages f.slots n

/-- A block that can enter a new band: outside the dump area (R358), not retired, in no band, erased. -/
def State.freeBlock (s : State) (die sb : Nat) : Bool :=
  decide (2 ≤ sb) && s.dsc.dieState die != .offline && !Tbl.has s.mxe.retired (blkKey die sb) && !(s.mxe.bands.any fun e => e.2.members.contains (die, sb))
    && !(s.mxe.nand.any fun e => e.1 / 4096 / 8192 == die && s.fca.sbOf (e.1 / 4096 % 8192) == sb)

/-- Members of a new band (Table 7.4). -/
def State.newMembers (s : State) (kind : BandKind) (slice die sb : Nat) : List (Nat × Nat) :=
  let free := (s.dsc.dies.map Prod.fst).filter fun d => s.freeBlock d sb
  match kind with
  | .landing => free.map fun d => (d, sb)
  | .user | .gc => (free.filter (s.inDieSet slice)).map fun d => (d, sb)
  | .system => ((die :: ((free.filter fun d => chOf d != chOf die).take 1))).map fun d => (d, sb)

/-- A band as it opens for a first slot (R191, R272, R315). -/
def State.newBand (s : State) (x : PlaceSlot) (members : List (Nat × Nat)) (cls : OpClass) : Band :=
  let t := members.foldl (fun t m => max t (s.blockTread (blkKey m.1 m.2))) 0
  let pw := s.bandParity x.kind x.nsid
  let b : Band :=
    { kind := x.kind, state := .opened, bsn := s.mxe.bsn, members := members, slice := x.slice
      nsid := if x.kind = .user ∨ x.kind = .gc then x.nsid else 0, qlc := x.qlc
      tread := if x.kind = .system then max t (s.obj Ob.SYS_MIN_TREAD) else t, par := pw.1, width := pw.2, fill := 0, cap := 0, valid := 0
      degraded := false, wanted := false, copyCls := .gc, summaries := [], erasing := [], toErase := [], reloc := 0, cont := [], lastCls := cls, padCls := cls
      opened := s.now, maxDsn := 0, thetaOpen := s.cdx.theta.toNat, thetaClose := none }
  { b with cap := members.length * s.fca.planes * (s.fca.part.wls - 8) * pagesPerWl b.mode }

/-- The first waiting slot that a program of this kind in this slice could carry into a new band. -/
def State.firstFor (s : State) (r : OpRequest) : Option PlaceSlot :=
  s.mxe.place.find? fun x =>
    match r.kind with
    | .slcProgram => x.kind == .landing || x.kind == .system
    | .tlcProgram => (x.kind == .user || x.kind == .gc) && !x.qlc && s.inDieSet x.slice r.die
    | .qlcProgram => (x.kind == .user || x.kind == .gc) && x.qlc && s.inDieSet x.slice r.die
    | .read | .erase => false

/-- Superblocks of the landing zone's bands. -/
def Mxe.landingBlocks (m : Mxe) : Nat := m.bands.foldl (fun n b => if b.2.kind = .landing then n + b.2.members.length else n) 0

/-- A band of `n` members fits its zone: the landing zone holds LZ_PCT of raw capacity (R194), and at least one band. -/
def State.lzRoom (s : State) (kind : BandKind) (n : Nat) : Bool :=
  kind != .landing || s.mxe.landingBlocks == 0 || decide (s.mxe.landingBlocks + n ≤ ceilDiv (s.totalBlocks * s.mxe.lzPct) 100)

/-- Open a band of the block's superblock for waiting slots (R190); none can open while its kind is at its limit. -/
def State.openBand (r : OpRequest) (s : State) : State :=
  match s.firstFor r with
  | some x =>
    let sb := s.fca.sbOf r.block
    let ms := s.newMembers x.kind x.slice r.die sb
    if s.freeBlock r.die sb ∧ (s.mxe.openBands.filter fun e => e.2.kind == x.kind).length < kindLimit x.kind ∧ s.lzRoom x.kind ms.length = true then
      let b := s.newBand x ms x.cls
      (s.modMxe fun m => { m with bands := Tbl.put m.bands m.bsn b, bsn := m.bsn + 1 }).submitData s.mxe.bsn b r
    else s
  | none => s

/-- A band has received its last data wordline: CLOSING, with a summary to come from each member not retired (R191, R192). -/
def State.bandFilled (n : Nat) (s : State) : State :=
  s.modMxe fun m => m.modBand n fun b =>
    if b.state = .opened ∧ b.cap ≤ b.fill then
      { b with state := .closing, summaries := (b.members.filter fun y => !Tbl.has m.retired (blkKey y.1 y.2)).map Prod.fst }
    else b

/-! ## SYSTEM bands (R190, R199, R202) -/

/-- The first block of a die that can enter a new band. -/
def State.freeSb (s : State) (d : Nat) : Option Nat := (List.range s.fca.part.blocks).find? (s.freeBlock d)

/-- Open a SYSTEM band on two dies (Table 7.4). -/
def State.sysOpen (dA dB : Nat) (s : State) : Option (State × Nat) :=
  match s.freeSb dA, s.freeSb dB with
  | some a, some b =>
    if dA ≠ dB ∧ (s.mxe.openBands.filter fun e => e.2.kind == .system).length < kindLimit .system then
      let x : PlaceSlot := { (default : PlaceSlot) with src := .system 3, kind := .system, cls := .high }
      some (s.modMxe fun m => { m with bands := Tbl.put m.bands m.bsn (s.newBand x [(dA, a), (dB, b)] .high), bsn := m.bsn + 1 }, s.mxe.bsn)
    else none
  | _, _ => none

/-- The SYSTEM band for the next page: the one in use while it has room, else a new one on two dies. -/
def State.sysBandFor (cur : Option Nat) (dA dB : Nat) (s : State) : Option (State × Nat) :=
  match cur.bind fun n => (Tbl.find? s.mxe.bands n).map fun b => (n, b) with
  | some (n, b) => if b.state = .opened ∧ b.fill < b.cap then some (s, n) else s.sysOpen dA dB
  | none => s.sysOpen dA dB

/-- Place of the next page of a SYSTEM band on one of its members. -/
def State.sysLoc (s : State) (b : Band) (k : Nat) : Loc :=
  let m := b.members.getD k default
  let n := b.fill / max 1 b.members.length
  ⟨m.1, m.2 * s.fca.planes + n % s.fca.planes, n / s.fca.planes, 0⟩

/-- The next page of a SYSTEM band is taken for both members, with a PSN (R188). -/
def State.sysTake (n : Nat) (s : State) : State :=
  (s.modMxe fun m => { m.modBand n (fun x => { x with fill := x.fill + x.members.length }) with psn := m.psn + 1 }).bandFilled n

/-- The stamp of a program that starts on a die now (Tables 7.3 and 10.3). -/
def State.stamp (s : State) (die : Nat) : ProgStamp :=
  { wtime := bitsOf s.tbu.fleet.toNat 61 30, thetaW := bitsOf s.cdx.theta.toNat 45 14, tempW := ((Tbl.find? s.fca.temps die).map Prod.fst).getD 0 }

/-- A slot of system content with its page header (R187). -/
def State.sysCell (s : State) (kind : SlotKind) (nsid no data : Nat) : SlotCell :=
  { hdr := { lba := no, dsn := 0, psn := s.mxe.psn, nsid := nsid, kind := kind, host := false, slc := true, lostFill := false, goff := 0
             gsize := 0, bsn := 0, wtime := (s.stamp 0).wtime }
    data := BitVec.ofNat 32768 data, key := none }

/-- A page of a SYSTEM band on NAND. -/
def State.sysPut (l : Loc) (b : Band) (psn : Nat) (cells : List SlotCell) (s : State) : State :=
  s.modMxe fun m => { m with
    nand := Tbl.put m.nand (pageKey l.die l.block l.page)
      (b.page psn (s.stamp l.die) (cells.map fun c => { c with hdr := { c.hdr with psn := psn, bsn := b.bsn } }) none)
    modes := Tbl.put m.modes (blkKey l.die (s.fca.sbOf l.block)) 0 }

/-- System content goes to both members of a SYSTEM band (R190, R202; notes/assumptions/47.md): its location on the first. None while no SYSTEM band has room. -/
def State.sysWrite (cells : List SlotCell) (s : State) : Option (State × Loc) :=
  let dA := (s.dsc.dies.find? fun d => (s.freeSb d.1).isSome).map Prod.fst
  match dA.bind fun a => s.sysBandFor s.mxe.sysBand a (s.otherDie a) with
  | some (t, n) =>
    (Tbl.find? t.mxe.bands n).map fun b =>
      let psn := t.mxe.psn
      (((((t.sysPut (t.sysLoc b 0) b psn cells).sysPut (t.sysLoc b 1) b psn cells).sysTake n).modMxe fun m => { m with sysBand := some n }), t.sysLoc b 0)
  | none => none

/-- The summary program of a member (R191): the last 8 wordlines of its block. -/
def State.submitSummary (n : Nat) (b : Band) (r : OpRequest) (s : State) : State :=
  if b.summaries.contains r.die then
    let k := pagesPerWl b.mode
    let pages := (List.range s.fca.planes).flatMap fun pl =>
      (List.range (8 * k)).map fun j => (s.fca.sbOf r.block * s.fca.planes + pl, (s.fca.part.wls - 8) * k + j)
    if pages.any (s.pageUsed r.die) then s
    else s.submitOp { r with cls := b.lastCls, slice := b.slice } (.summary n) pages [] n
  else s

/-- A program submission. -/
def State.submitProgram (r : OpRequest) (s : State) : State :=
  if Tbl.has s.mxe.retired (blkKey r.die (s.fca.sbOf r.block)) then s
  else
    match s.bandAt r.die r.block with
    | some (n, b) =>
      if modeKind b.mode ≠ r.kind then s
      else if b.state = .closing ∧ s.psPending = true then s
      else if b.state = .closing ∧ b.cap ≤ b.fill then s.submitSummary n b r
      else if (b.state = .opened ∨ b.state = .closing) ∧ s.inOrder r = true then s.submitData n b r
      else s
    | none => if s.inOrder r then s.openBand r else s

/-- A band whose erases begin owes one of each member not retired; it is ERASING once all have been issued (Table 7.6). -/
def Mxe.eraseBegin (m : Mxe) (n : Nat) : Mxe :=
  let left := fun (x : Band) => (x.members.filter fun y => !Tbl.has m.retired (blkKey y.1 y.2)).map Prod.fst
  m.modBand n fun x => if x.erasing = [] then { x with erasing := left x, toErase := left x } else x

/-- A member's erase has been issued. -/
def Mxe.eraseIssued (m : Mxe) (n die : Nat) : Mxe :=
  m.modBand n fun x =>
    let t := x.toErase.filter (· != die)
    { x with toErase := t, state := if t = [] then .erasing else x.state }

/-- An erase submission (R192, R205, R332): a member of a RELEASED or ERASING band, or a block that holds pages of no band. -/
def State.submitErase (r : OpRequest) (s : State) : State :=
  let sb := s.fca.sbOf r.block
  if Tbl.has s.mxe.retired (blkKey r.die sb) then s
  else
    match s.bandAt r.die r.block with
    | some (n, b) =>
      let s := if b.state = .released then s.modMxe fun m => m.eraseBegin n else s
      if (b.state = .released ∨ b.state = .erasing) ∧ ¬ s.dsc.ops.any (fun o => o.2.req.die == r.die && o.2.why == .erase n) then
        (s.modMxe fun m => m.eraseIssued n r.die).submitOp { r with cls := .gc, block := sb * s.fca.planes, planes := s.fca.planes } (.erase n) [] [] n
      else s
    | none => s.submitOp { r with cls := .gc, block := sb * s.fca.planes, planes := s.fca.planes } .other [] [] 0

/-! ## Reads -/

/-- Die class of a service class (R216). -/
def svcOp : SvcClass → OpClass
  | .urgent => .urgent
  | .high => .high
  | .normal => .normal
  | .background => .background

/-- A location lies on one of the pages of a read. -/
def onPages (die : Nat) (pages : List (Nat × Nat)) (l : Loc) : Bool := l.die == die && pages.contains (l.block, l.page)

/-- The context waits for a slot on the pages. -/
def Ctx.waitsOn (c : Ctx) (die : Nat) (pages : List (Nat × Nat)) : Bool :=
  (c.state == .lookup || c.state == .media || c.state == .dataOut) && c.work.any fun w => w.data.isNone && !w.lost && w.loc.any (onPages die pages)

/-- Slots per granule of a namespace. -/
def Mxe.spgOf (m : Mxe) (nsid : Nat) : Nat := ((m.ns? nsid).map Namespace.spg).getD 1

/-- Slots of the job's source still to be read. -/
def Mxe.jobNeeds (m : Mxe) (j : CopyJob) : List Loc :=
  if j.placed then [] else
  ((List.range (m.spgOf j.nsid)).filter fun k => !j.got.any fun g => g.off == k).map (slotLoc j.source (m.spgOf j.nsid))

/-- Slots that a lock's merge still has to read from NAND (R195): those that no earlier write in flight holds (R196). -/
def Mxe.lockNeeds (m : Mxe) (l : LockHold) : List Loc :=
  match l.base with
  | some a => (l.need.filter fun k => (m.stageBefore l.nsid l.index k l.dsn).isNone).map (slotLoc a (m.spgOf l.nsid))
  | none => []

/-- Pages of the landing zone, and those filled. -/
def State.lzPages (s : State) : Nat := ceilDiv (s.totalBlocks * s.mxe.lzPct) 100 * s.fca.planes * (s.fca.part.wls - 8)

/-- Free share of the landing zone in percent (R194, MXE_LZ_STS). -/
def State.lzFree (s : State) : Nat :=
  let used := s.mxe.bands.foldl (fun n b => if b.2.kind = .landing then n + b.2.fill else n) 0
  if s.lzPages = 0 then 100 else 100 - 100 * used / s.lzPages

/-- A copy job runs at High class: raised by its submitter, or a fold while the landing zone is below 5 % free (R194, R216). -/
def State.jobHigh (s : State) (j : CopyJob) : Bool := j.high || (j.fold && decide (s.lzFree < 5))

/-- The waiting context that a read of pages serves first: the highest class, then the earliest fetch (R214, R216). -/
def State.hostReader (s : State) (p : Ctx → Bool) : Option (Nat × Ctx) :=
  s.qen.ctxs.foldl (fun (b : Option (Nat × Ctx)) e =>
    if p e.2 then
      (match b with
        | some x =>
          if clsRank (svcOp e.2.cls) < clsRank (svcOp x.2.cls) ∨ (clsRank (svcOp e.2.cls) = clsRank (svcOp x.2.cls) ∧ e.2.fetchOrd < x.2.fetchOrd) then some e else b
        | none => some e)
    else b) none

/-- Who a read of these pages is for, its class, raise and slice; none when no reader waits. -/
def State.readFor (s : State) (r : OpRequest) (pages : List (Nat × Nat)) : Option (OpFor × OpRequest) :=
  match s.hostReader fun x => x.waitsOn r.die pages with
  | some (c, x) => some (.host c, { r with cls := svcOp x.cls, raised := false, slice := x.slice })
  | none =>
    match s.mxe.locks.find? fun l => (s.mxe.lockNeeds l).any (onPages r.die pages) with
    | some l => some (.merge l.dsn, { r with cls := .normal, raised := false })
    | none =>
      match s.mxe.jobs.find? fun j => (s.mxe.jobNeeds j.2).any (onPages r.die pages) with
      | some (n, j) => if s.psPending then none else some (.copy n, { r with cls := j.cls, raised := r.raised || s.jobHigh j })
      | none =>
        match r.cls with
        | .scrub => if s.psPending then none else some (.scrub, r)
        | .rebuild => if s.psPending then none else some (.rebuild, { r with raised := s.spe.rbRaised })
        | .urgent | .high | .normal | .background | .gc => none

/-- Copy jobs whose source on these pages the map no longer names: their reads are not submitted (R204). -/
def State.dropStaleJobs (die : Nat) (pages : List (Nat × Nat)) (s : State) : State :=
  s.modMxe fun m => { m with jobs := m.jobs.filter fun j =>
    !(!j.2.placed && (m.jobNeeds j.2).any (onPages die pages) && !((m.entry j.2.nsid j.2.index).located && (m.entry j.2.nsid j.2.index).loc == j.2.source)) }

/-- Age bucket of a band (R279): 0 below 1 h of equivalent age, then 1 + ⌊log2⌋, at most 15. -/
def State.ageBucket (s : State) (b : Band) : Nat :=
  let w := match b.thetaClose with
    | some c => (b.thetaOpen + c) / 2
    | none => b.thetaOpen
  let h := (s.cdx.theta.toNat - w) / 3600000
  if h = 0 then 0 else min 15 (1 + Nat.log2 h)

/-- Scrub may submit a read of the band now (R296). -/
def State.scrubMay (s : State) (b : Band) : Bool :=
  let enabled := (List.range 4).any fun w => s.objB Ob.SCRUB_WIN.EN w
  let forced := decide (s.obj Ob.SCRUB_FORCE_BUCKET ≤ s.ageBucket b)
    || b.members.any fun m => decide (s.obj Ob.READ_DISTURB_LIMIT < Tbl.getD s.mxe.reads (blkKey m.1 m.2) 0)
  !s.cdx.winClosed && decide (s.cdx.scrubFree ≤ s.now.toNat) && (!enabled || !s.cdx.winOpen.isEmpty || forced)

/-- Scrub has submitted a read of so many pages: the next one comes when SCRUB_RATE_MBPS of page bytes allows it (R296). -/
def State.scrubPaced (n : Nat) (s : State) : State :=
  s.modCdx fun c => { c with scrubFree := s.now.toNat + ceilDiv (19328 * n * 800) (s.obj Ob.SCRUB_RATE_MBPS) }

/-- A read of a copy job of phase 2 (R333). -/
def State.rebuildRead (_s : State) (why : OpFor) (r : OpRequest) : Bool := (match why with | .copy _ => true | _ => false) && r.cls == .rebuild

/-- The rebuild has taken so many 16,384 B units: the next comes when its ceiling allows it (R334, R336). -/
def State.rebuildPaced (n : Nat) (s : State) : State :=
  s.modSpe fun p => { p with rbFree := s.now.toNat + ceilDiv (16384 * n * 800) (if p.rbRaised then s.obj Ob.RAISED_MBPS else s.obj Ob.REBUILD_MBPS) }

/-- A read submission. -/
def State.submitRead (r : OpRequest) (s : State) : State :=
  let n := max 1 (min r.planes (s.fca.planes - r.block % s.fca.planes))
  let pages := (List.range n).map fun pl => (r.block + pl, r.page)
  let s := s.dropStaleJobs r.die pages
  match s.readFor r pages with
  | some (why, r) =>
    if (why = .scrub ∧ ¬ (s.bandAt r.die r.block).any (fun b => s.scrubMay b.2)) ∨ (s.rebuildRead why r = true ∧ s.now.toNat < s.spe.rbFree) then s
    else (if why = .scrub then s.scrubPaced n else if s.rebuildRead why r then s.rebuildPaced n else s).submitOp { r with planes := n } why pages [] (((s.bandAt r.die r.block).map Prod.fst).getD 0)
  | none => s

/-- DIE_OPERATION_SUBMIT (R214 to R216): the read, program or erase that its submitters have for this die and page now. No internal work is submitted while a non-operational entry is pending (R230): no erase, no read but a command's, no program but of host writes. -/
def execDieOperationSubmit (op : OpRequest) (s : State) : Out :=
  if s.dsc.dieState op.die = .offline ∨ (s.psPending = true ∧ op.kind = .erase) then .next s
  else
    match op.kind with
    | .read => .next (s.submitRead op)
    | .slcProgram | .tlcProgram | .qlcProgram => .next (s.submitProgram op)
    | .erase => .next (s.submitErase op)

/-! ## Starts -/

/-- The write guard holds programs, erases and resumes of a die now (R217, R253, R254): some condition was activated before this tick, or cleared in it. -/
def State.guardOn (s : State) (die : Nat) : Bool :=
  let on := fun (t : Option Dword) => t.any fun x => decide (x.toNat < s.now.toNat)
  on s.fca.vin || on s.fca.vddq || on s.fca.pwrfail || on (Tbl.find? s.fca.tempHeld die) || on (Tbl.find? s.fca.staleHeld die)
    || s.fca.cleared.any fun c => c.all fun d => d == die

/-- An operation that the guard and the stagger concern: program, erase or resume. -/
def DieOp.pe (o : DieOp) : Bool := isProgram o.req.kind || o.req.kind == .erase

/-- A recovery read (R283). -/
def DieOp.recovery (o : DieOp) : Bool := match o.why with | .recover _ _ => true | _ => false

/-- A read may run in a suspension: its class is in SUSPEND_CLASSES (R221). -/
def State.suspClass (s : State) (c : OpClass) : Bool := c == .urgent || bitAt (s.obj Ob.SUSPEND_CLASSES) (clsCode c)

/-- Operations of a die that R217 considers now. -/
def State.candidates (s : State) (d : Nat) : List (Nat × DieOp) :=
  let x := s.dsc.die d
  let q := (x.queue.filterMap fun i => (Tbl.find? s.dsc.ops i).map fun o => (i, o)).filter fun e => decide (e.2.submit.toNat < s.now.toNat)
  if x.active.isSome ∨ s.now.toNat < x.readyAt.toNat then []
  else
    match x.state with
    | .idle => q
    | .suspended =>
      let reads := q.filter fun e => e.2.req.kind == .read && s.suspClass e.2.eff && (decide (x.suspReads < 8) || e.2.recovery)
      if reads.isEmpty then
        (match x.held.bind fun i => (Tbl.find? s.dsc.ops i).map fun o => (i, o) with
          | some e => if e.2.resume then [e] else []
          | none => [])
      else reads
    | .busy | .suspPend | .offline => []

/-- The tokens allow a start (R226). -/
def State.tokensOk (s : State) (o : DieOp) : Bool :=
  decide (s.dsc.held + o.cost + s.obj Ob.NAND_IDLE + (if o.urgentRead then 0 else s.obj Ob.URGENT_RSV) ≤ s.dsc.budget)

/-- The stagger admits a program, erase or resume start (R229). -/
def State.staggerOk (s : State) (o : DieOp) : Bool :=
  !o.pe || s.staggerPassed

/-- The first unit of a new stripe waits for an accumulator or a journal entry (R327, R330). -/
def State.stripeHeld (s : State) (o : DieOp) : Bool :=
  o.why == .place && match Tbl.find? s.mxe.bands o.band with
    | some b => o.pages.any fun p => s.stripeWaits o.band b (o.req.die, s.fca.sbOf o.req.block) p.1 p.2
    | none => false

/-- Bucket b′ of a block: the band's age bucket with the block's correction, held to 0 to 15 (R280, R281). -/
def State.bucketOf (s : State) (die block : Nat) (b : Band) : Int :=
  max 0 (min 15 ((s.ageBucket b : Int) + ((s.cdx.corr.find? fun e => e.1 == blkKey die (s.fca.sbOf block)).map Prod.snd).getD 0))

/-- The offsets of a bucket for a band's cell mode and tread (VT_TABLE), shifted. -/
def State.vtSet (s : State) (b : Band) (bucket : Int) (shift : Int) : VtSet :=
  { base := s.obj Ob.VT_TABLE (8 * b.mode + b.tread) bucket.toNat, shift := shift }

/-- The thresholds of a read (R280): those of a recovery read, else those of L0; the NAND's default outside a band. -/
def State.thresholds (s : State) (o : DieOp) : VtSet :=
  let l0 := ((s.bandAt o.req.die o.req.block).map fun b => s.vtSet b.2 (s.bucketOf o.req.die o.req.block b.2) 0).getD ⟨0, 0⟩
  match o.why with
  | .recover _ (some v) => v
  | _ => l0

/-- A read has used a block's correction: its entry is the one most recently used (R281). -/
def Cdx.touchCorr (key : Nat) (c : Cdx) : Cdx :=
  match c.corr.find? fun e => e.1 == key with
  | some e => { c with corr := e :: c.corr.filter fun x => x.1 != key }
  | none => c

/-- Before a read, its offsets are written with LUN Set Features when they differ from those last set on the LUN (R280). -/
def State.setOffsets (d : Nat) (o : DieOp) (s : State) : State :=
  if o.req.kind ≠ .read then s
  else
    let s := s.modCdx (Cdx.touchCorr (blkKey d (s.fca.sbOf o.req.block)))
    if (Tbl.find? s.cdx.lunSet d).getD ⟨0, 0⟩ = s.thresholds o then s
    else (s.modCdx fun c => { c with lunSet := Tbl.put c.lunSet d (s.thresholds o) }).nandCmd d (.setOffsets (s.thresholds o))

/-- A channel rate cap is in force (Table 8.4). -/
def State.capped (s : State) : Bool := s.qen.ps == 1 || s.qen.ps == 2

/-- Raw channel bytes of pages: four codewords of 4,736 B each (R234). -/
def rawBytesOf (pages : Nat) : Nat := 18944 * pages

/-- A program's transfer is counted against the cap (R230). -/
def State.takeBytes (n : Nat) (s : State) : State := if s.capped then s.modDsc fun d => { d with chBytes := d.chBytes - (n : Nat) } else s

/-- A start held for another reason: HOLD_PE, a thermal step (R232), PS3 and PS4 (R230), a dump (R237), a cut gap (R264), an accumulator or journal entry. -/
def State.startHeld (s : State) (o : DieOp) : Bool :=
  (o.pe && s.fld Fld.DSC_BUDGET_CTL.HOLD_PE == 1) || (o.req.cls == .scrub && decide (1 ≤ s.dsc.step)) || decide (3 ≤ s.qen.ps)
    || s.dsc.dumpOnly || s.fca.gapHeld || s.stripeHeld o
    || (isProgram o.req.kind && !o.resume && s.capped && decide (s.dsc.chBytes ≤ 0)) || (o.pe && !o.resume && Tbl.has s.mxe.retired (blkKey o.req.die (s.fca.sbOf o.req.block)))

/-- Poisoned words of a slot's stage buffer. -/
def State.stagePoison (s : State) (x : PlaceSlot) : Nat :=
  match x.stage with
  | some a => (s.bpm.poisoned.filter fun w => decide (a ≤ w) && decide (w < a + 4096)).length
  | none => 0

/-- The slot as the encoder takes it (R308, R309): up to eight poisoned words are rebuilt; beyond that zeros with LOSTFILL. -/
def State.encodeSlot (s : State) (x : PlaceSlot) : PlaceSlot :=
  if 8 < s.stagePoison x then { x with data := 0, lostFill := true } else x

/-- A slot beyond repair at its program (R309): log, counts and, by completion mode, a Write Fault or an Asynchronous Event. -/
def State.lostFillSlot (x : PlaceSlot) (s : State) : State :=
  let s := (s.count Fld.CDX_LOSTFILL_CNT.COUNT 0 1).trigger 0x12 UnitNo.cdx 0 (mediaArg 0 0 0 0 0 x.nsid)
  let s := match s.mxe.ns? x.nsid with
    | some n => s.lostAdd x.nsid (n.slotLbas x.slotNo).1 (n.slotLbas x.slotNo).2 lostPoison
    | none => s
  match x.src with
  | .host c => if (Tbl.find? s.mxe.writes x.dsn).any WriteRec.prot then s.asyncAll AsyncEvent.persistentError else s.modCtx c fun k => { k with status := 0x280 }
  | .copy _ | .system _ | .pad => s

/-- The program of a slot that a merge filled with zeros (R195, R342): its range is unrecovered. -/
def State.mergeFill (x : PlaceSlot) (s : State) : State :=
  match x.src, s.mxe.ns? x.nsid with
  | .host _, some n => if x.lostFill then s.lostAdd x.nsid (n.slotLbas x.slotNo).1 (n.slotLbas x.slotNo).2 lostMerge else s
  | _, _ => s

/-- What the encoder finds in a program's slots (R308, R309). -/
def State.encodeEvents (xs : List PlaceSlot) (s : State) : State :=
  xs.foldl (fun s x =>
    let n := s.stagePoison x
    if 8 < n then s.lostFillSlot x
    else
      let s := if 0 < n then s.count Fld.CDX_POISON_CNT.GUARD_FIX 0 1 else s
      s.mergeFill x) s

/-- Kind of a slot (Table 7.5). -/
def PlaceSlot.slotKind (x : PlaceSlot) : SlotKind :=
  match x.src with
  | .pad => .pad
  | .system 2 => .segment
  | .system _ => .system
  | .host _ | .copy _ => .data

/-- The slot cell that a program writes (Table 7.3). -/
def State.cellOf (s : State) (b : Band) (psn wtime : Nat) (x : PlaceSlot) : SlotCell :=
  { hdr := { lba := 4096 * x.slotNo / ((s.mxe.ns? x.nsid).map Namespace.lbaBytes).getD 4096, dsn := x.dsn, psn := psn, nsid := x.nsid
             kind := x.slotKind, host := match x.src with | .host _ => true | _ => false, slc := b.mode == 0, lostFill := x.lostFill
             goff := x.goff, gsize := x.gsize, bsn := b.bsn, wtime := wtime }
    data := x.data, key := x.key }

/-- Code of a slot kind in a summary entry (Table 7.5). -/
def sumKind : SlotKind → Nat
  | .data => 0
  | .pad => 1
  | .segment => 2
  | .system => 3

/-- The summary entry of a slot (Table 7.5). -/
def State.sumEntry (s : State) (c : SlotCell) : Nat :=
  let lba := ((s.mxe.ns? c.hdr.nsid).map Namespace.lbaBytes).getD 4096
  let v := c.hdr.dsn % 2 ^ 64 + 2 ^ 64 * (c.hdr.lba * lba / 4096 % 2 ^ 38) + 2 ^ 102 * ((c.hdr.nsid - 1) % 1024) + 2 ^ 112 * sumKind c.hdr.kind + 2 ^ 116 * (c.hdr.goff % 16)
  v + 2 ^ 120 * (Config.crc8 (leBytes 15 v)).toNat

/-- Slots that a page has in its summary: those of a parity unit are PAD (R321). -/
def Page.sumCells (p : Page) : List SlotCell :=
  if p.parity.isSome then List.replicate 4 { (default : SlotCell) with hdr := { (default : SlotHeader) with kind := .pad } } else p.slots

/-- The summary of a member (R191): an entry for each data slot of the block in page order, then the PSN of each program in program order. -/
def State.summaryBytes (s : State) (die sb : Nat) : List Byte :=
  let ps := s.mxe.nand.filter fun e => e.1 / 4096 / 8192 == die && s.fca.sbOf (e.1 / 4096 % 8192) == sb
  (ps.flatMap fun e => e.2.sumCells.flatMap fun c => leBytes 16 (s.sumEntry c)) ++ ((ps.map fun e => e.2.psn).eraseDups.flatMap fun p => leBytes 8 p)

/-- The page that a program writes with its j-th group of four slots. -/
def State.pageOf (s : State) (b : Band) (o : DieOp) (j : Nat) : Page :=
  match o.why with
  | .parity _ v => b.page o.psn o.stamp [] (some v)
  | .summary _ => { b.page o.psn o.stamp [] (some (leNat (((s.summaryBytes o.req.die (s.fca.sbOf o.req.block)).drop (16384 * j)).take 16384))) with tread := 7 }
  | _ => b.page o.psn o.stamp (((o.slots.drop (4 * j)).take 4).map (s.cellOf b o.psn o.stamp.wtime)) none

/-- A decoded slot of a copy is poisoned before it is encoded again (R310). -/
def State.copyPoisoned (s : State) (x : PlaceSlot) : Bool := (match x.src with | .copy _ => true | .host _ | .system _ | .pad => false) && s.stagePoison x != 0

/-- A slot of an operation whose granule's copy is abandoned (R310). -/
def State.granuleBad (s : State) (o : DieOp) (x : PlaceSlot) : Bool := o.slots.any fun y => s.copyPoisoned y && y.mate x

/-- The copies of poisoned slots are abandoned: those slots are read again from their source, and the granule is placed again (R310). -/
def State.dropCopies (bad : List PlaceSlot) (s : State) : State :=
  bad.foldl (fun s x =>
    match x.src with
    | .copy n => s.modMxe fun m => { m with
        jobs := Tbl.adjust m.jobs n fun w => { w with placed := false, got := w.got.filter fun g => g.off != x.goff }
        place := m.place.filter fun y => !y.mate x }
    | .host _ | .system _ | .pad => s) s

/-- Writes whose slots have gone into a program are in MEDIA (R95). -/
def State.slotsSubmitted (xs : List PlaceSlot) (s : State) : State :=
  xs.foldl (fun s x =>
    match x.src with
    | .host c => s.modCtx c fun k => if k.state = .sequenced ∧ k.dsn = x.dsn then { k with state := .media } else k
    | .copy _ | .system _ | .pad => s) s

/-- A program starts: PSN (R188), the encoder's findings, its units join their stripes (R323), the band fills. -/
def State.startProgram (i : Nat) (o : DieOp) (s : State) : State :=
  match Tbl.find? s.mxe.bands o.band with
  | some b =>
    let bad := o.slots.filter s.copyPoisoned
    let o := { o with psn := s.mxe.psn, stamp := s.stamp o.req.die, slots := o.slots.map fun x => if s.granuleBad o x then b.padSlot else s.encodeSlot x }
    let s := ((s.dropCopies bad).encodeEvents o.slots).modOp i fun x => { x with psn := o.psn, stamp := o.stamp, slots := o.slots }
    let s := s.slotsSubmitted o.slots
    let s := s.modMxe fun m => { m with psn := m.psn + 1, modes := Tbl.put m.modes (blkKey o.req.die (s.fca.sbOf o.req.block)) b.mode }
    match o.why with
    | .place =>
      let s := o.pages.zipIdx.foldl (fun s p =>
        s.stripeIssue o.band b (o.req.die, s.fca.sbOf o.req.block) p.1.1 p.1.2 o.psn (s.pageOf b o p.2).payload o.eff) s
      (s.modMxe fun m => m.modBand o.band fun x => { x with
        fill := x.fill + o.pages.length, lastCls := if o.slots.any (fun y => y.src != .pad) then o.req.cls else x.lastCls, maxDsn := o.slots.foldl (fun n y => max n y.dsn) x.maxDsn }).bandFilled o.band
    | .parity _ _ => (s.modMxe fun m => m.modBand o.band fun x => { x with fill := x.fill + o.pages.length }).bandFilled o.band
    | _ => s
  | none => s

/-- The confirm cycle of an operation: a read of a block in SLC mode uses SLC read commands (R184). -/
def State.confirmOf (s : State) (o : DieOp) : NandCmd :=
  if o.req.kind = .read ∧ Tbl.find? s.mxe.modes (blkKey o.req.die (s.fca.sbOf o.req.block)) = some 0 then .readSlc else .confirm o.req.kind

/-- A start (R224): the die runs the operation and it holds its cost. -/
def State.startOp (d i : Nat) (o : DieOp) (s : State) : State :=
  let resume := o.resume
  let tm := s.opTiming o.req.kind
  let s := s.modDsc fun c =>
    let c := (c.modDie d fun x =>
      if resume then { x with state := .busy, active := some i, held := none, suspReads := 0, pollDue := s.now.toNat + o.firstPoll, found := none }
      else { x with state := if x.state = .suspended then .suspended else .busy, active := some i, queue := x.queue.filter (· != i)
                    pollDue := s.now.toNat + ({ o with timing := tm } : DieOp).firstPoll, found := none
                    suspReads := if x.state = .suspended ∧ o.recovery = false then x.suspReads + 1 else x.suspReads })
    { (c.modOp i fun y => { y with started := s.now, timing := if resume then y.timing else tm, resume := false, withheld := false, guardWait := 0 }) with
      held := c.held + o.cost, stagger := if o.pe then some s.now else c.stagger }
  let s := ((s.fill d).setOffsets d o).nandCmd d (if resume then .resume else s.confirmOf o) o.req.kind o.req.planes
  let s := if isProgram o.req.kind && !resume then s.takeBytes (rawBytesOf o.pages.length) else s
  if isProgram o.req.kind && !resume then s.startProgram i o else s

/-- The operation that leads on a die now: the first that the guard does not hold (R217). -/
def State.leading (s : State) (d : Nat) : Option (Nat × DieOp) := s.firstOp ((s.candidates d).filter fun e => !(e.2.pe && s.guardOn d))

/-- The leading operation would start: nothing holds it, and tokens and stagger admit it (R226, R229). -/
def State.mayStart (s : State) (o : DieOp) : Bool := !s.startHeld o && s.tokensOk o && s.staggerOk o

/-- Place in the order of starts across dies: every Urgent read, then resumes, then the rest (R221). -/
def DieOp.crossRank (o : DieOp) : Nat := if o.urgentRead then 0 else if o.resume then 1 else 2

/-- The order of R226 across dies. -/
def State.crossBefore (s : State) (a b : DieOp) : Bool :=
  if a.crossRank ≠ b.crossRank then decide (a.crossRank < b.crossRank) else s.opBefore a b

/-- No other die has an operation that starts in this tick ahead of this one (R226). -/
def State.startTurn (s : State) (d : Nat) (o : DieOp) : Bool :=
  !s.dsc.dies.any fun e => e.1 != d && (s.leading e.1).any fun x => s.mayStart x.2 && s.crossBefore x.2 o

/-- The start of an operation outside a dump (R217, R226, R229, R255): the one that comes first on the die starts, or waits (the waits count at each tick: Machine/Tick.lean). -/
def State.normalStart (d : Nat) (s : State) : State :=
  let cs := s.candidates d
  let s := match s.firstOp cs with
    | some (i, o) => if o.pe && s.guardOn d && !o.withheld then
        (s.count Fld.FCA_GUARD_CNT.WITHHELD 0 1).modOp i fun x => { x with withheld := true } else s
    | none => s
  match s.leading d with
  | some (i, o) => if s.mayStart o && s.startTurn d o then s.startOp d i o else s
  | none => s

/-- DIE_OPERATION_START (R217, R226, R229, R255): the operation that comes first on the die starts, or waits. While a dump runs only its pages start (R237). -/
def execDieOperationStart (d : Nat) (s : State) : Out :=
  match s.hum.dump with
  | some r => .next (s.dumpOpStart r d)
  | none => .next (s.normalStart d)

/-! ## Reports -/

/-- All slots of a granule lie where its entry would say (R185). -/
def Mxe.granuleAt (m : Mxe) (nsid dsn spg : Nat) (l : Loc) : Bool :=
  (List.range spg).all fun k =>
    match m.cell (slotLoc l spg k) with
    | some c => c.hdr.nsid == nsid && c.hdr.dsn == dsn && c.hdr.goff == k
    | none => false

/-- The entry that names a location in a band (Table 7.2). -/
def entryAt (mode : Nat) (l : Loc) : MapEntry := { flags := if mode = 0 then .mappedSlc else .mapped, loc := l }

/-- The last slot of a host granule has reported good: its delta is ready (R197), and its write has one granule fewer to wait for. -/
def State.hostGranule (i : Nat) (x : PlaceSlot) (f : InFlight) (l : Loc) (mode : Nat) (s : State) : State :=
  let spg := s.mxe.spgOf f.nsid
  if s.mxe.granuleAt f.nsid f.dsn spg l then
    let s := s.modMxe fun m => { m with
      deltas := m.deltas ++ [{ kind := 1, nsid := f.nsid, index := f.index, count := 1, value := entryAt mode l, source := none, dsn := f.dsn
                               owner := f.ctx }]
      writes := Tbl.adjust m.writes f.dsn fun w => { w with pend := w.pend - 1 } }
    match Tbl.find? s.mxe.writes f.dsn with
    | some w => if w.pend = 0 ∧ w.posted = false then (match w.ctx with
        | some c => s.modCtx c fun k => if k.state = .media ∨ k.state = .sequenced then { k with state := .commit, mediaPend := 0 } else k
        | none => s) else s
    | none => s
  else s.rePlace i x

/-- A slot of a program has reported good. -/
def State.slotGood (i : Nat) (mode : Nat) (x : PlaceSlot) (l : Loc) (s : State) : State :=
  let spg := s.mxe.spgOf x.nsid
  let g := x.slotNo / spg
  match x.src with
  | .host c =>
    let s := s.modMxe fun m => { m with inflight := m.inflight.map fun f =>
      if f.ctx = c ∧ f.nsid = x.nsid ∧ f.index = g ∧ f.dsn = x.dsn then { f with loc := if x.goff = 0 then some l else f.loc, pend := f.pend - 1 } else f }
    match s.mxe.inflight.find? fun f => f.ctx == c && f.nsid == x.nsid && f.index == g && f.dsn == x.dsn with
    | some f => if f.pend = 0 then s.hostGranule i x f (f.loc.getD l) mode else s
    | none => s
  | .copy n =>
    let s := s.modMxe fun m => { m with jobs := Tbl.adjust m.jobs n fun w => { w with pend := w.pend - 1 } }
    match Tbl.find? s.mxe.jobs n with
    | some w =>
      if w.pend = 0 ∧ w.placed = true then
        let l0 : Loc := if spg = 1 then l else { l with page := l.page - x.goff / 4, slot := 0 }
        if s.mxe.granuleAt x.nsid x.dsn spg l0 then s.modMxe fun m => { m with
          deltas := m.deltas ++ [{ kind := 2, nsid := w.nsid, index := w.index, count := 1, value := entryAt mode l0, source := some w.source, dsn := w.dsn
                                   owner := n }] }
        else s.rePlace i x
      else s
    | none => s
  | .system _ | .pad => s

/-- Code bit of a band kind in VERIFY_MASK. -/
def State.needsVerify (s : State) (k : BandKind) : Bool := k == .landing || bitAt (s.obj Ob.VERIFY_MASK) (kindCode k)

/-- A program reports good. -/
def State.programGood (d i : Nat) (o : DieOp) (s : State) : State :=
  match Tbl.find? s.mxe.bands o.band with
  | some b =>
    let m := (d, s.fca.sbOf o.req.block)
    let s := s.modMxe fun x => { x with nand := o.pages.zipIdx.foldl (fun t p => Tbl.put t (pageKey d p.1.1 p.1.2) (s.pageOf b o p.2)) x.nand }
    match o.why with
    | .summary n => s.modMxe fun x => x.modBand n fun y => { y with summaries := y.summaries.filter (· != d) }
    | _ =>
      let s := o.pages.foldl (fun s p => s.stripeGood o.band b m p.1 p.2) s
      let s := if s.needsVerify b.kind then s.modFca fun f => { f with
          verify := o.pages.foldl (fun t p => Tbl.put t (pageKey d p.1 p.2) s.now) f.verify } else s
      o.slots.zipIdx.foldl (fun s x =>
        let p := o.pages.getD (x.2 / 4) (0, 0)
        s.slotGood i b.mode x.1 ⟨d, p.1, p.2, x.2 % 4⟩) s
  | none => s

/-- Slots already committed to a block are relocated at High class (R208). -/
def State.relocateBlock (d sb : Nat) (s : State) : State :=
  (s.mxe.map.filter fun e => e.2.located && e.2.loc.die == d && s.fca.sbOf e.2.loc.block == sb).foldl
    (fun s e => s.relocate (e.1 / 2 ^ 40 + 1) (e.1 % 2 ^ 40) e.2.loc .gc true) s

/-- Data pages of a member of a band that no program has taken yet. -/
def State.memberLeft (s : State) (b : Band) (d sb : Nat) : Nat :=
  s.fca.planes * (s.fca.part.wls - 8) * pagesPerWl b.mode - ((s.mxe.nand.filter fun e =>
      e.1 / 4096 / 8192 == d && s.fca.sbOf (e.1 / 4096 % 8192) == sb).length
    + s.dsc.ops.foldl (fun n o => if o.2.req.die = d ∧ s.fca.sbOf o.2.req.block = sb ∧ isProgram o.2.req.kind = true ∧ o.2.why ≠ .place then n else n) 0)

/-- A retired block is never programmed or erased again (R211): operations queued on it go back to their submitters. -/
def State.cancelBlock (d sb : Nat) (s : State) : State :=
  (s.dsc.ops.filter fun e => e.2.req.die == d && e.2.pe && s.fca.sbOf e.2.req.block == sb && Tbl.has s.mxe.retired (blkKey d sb)
      && (s.dsc.die d).active != some e.1 && (s.dsc.die d).held != some e.1).foldl (fun s e => (s.dropOp d e.1).returnFail e.1 e.2) s

/-- The page lies in an open wordline group: its stripe still holds open-block parity (R324). -/
def State.openRow (s : State) (l : Loc) : Bool :=
  match s.stripeAt l with
  | some (_, b, row, pos, j, _) => (s.spe.stripe? b.bsn row pos j).isSome
  | none => false

/-- Pages of the block's open wordline group programmed before these are read back (R208): they await a verify read. -/
def State.readBack (d sb : Nat) (pages : List (Nat × Nat)) (s : State) : State :=
  let rows := (s.mxe.nand.filter fun e => e.1 / 4096 / 8192 == d && s.fca.sbOf (e.1 / 4096 % 8192) == sb && e.2.good && s.openRow ⟨d, e.1 / 4096 % 8192, e.1 % 4096, 0⟩
      && !pages.contains (e.1 / 4096 % 8192, e.1 % 4096)).map Prod.fst
  s.modFca fun f => { f with verify := rows.foldl (fun t k => Tbl.put t k s.now) f.verify }

/-- A program reports fail (R191, R208, R328): the block is retired, its slots are placed again, its stripes go on without the unit. -/
def State.programFail (d i : Nat) (o : DieOp) (s : State) : State :=
  match Tbl.find? s.mxe.bands o.band with
  | some b =>
    let sb := s.fca.sbOf o.req.block
    let s := s.modMxe fun x => { x with nand := o.pages.zipIdx.foldl (fun t p =>
      Tbl.put t (pageKey d p.1.1 p.1.2) { s.pageOf b o p.2 with good := false }) x.nand }
    let s := (((s.retireBlock d sb causeProgram o.psn).cancelBlock d sb).readBack d sb o.pages).relocateBlock d sb
    match o.why with
    | .summary n => s.modMxe fun x => x.modBand n fun y => { y with summaries := y.summaries.filter (· != d) }
    | .parity _ v => o.pages.foldl (fun s p => s.stripeFail o.band b (d, sb) p.1 p.2 v true) s
    | _ =>
      let s := o.pages.zipIdx.foldl (fun s p => s.stripeFail o.band b (d, sb) p.1.1 p.1.2 (s.pageOf b o p.2).payload false) s
      let s := s.modMxe fun x => x.modBand o.band fun y => { y with
        cap := y.cap - s.memberLeft b d sb, cont := y.cont.filter fun c => s.fca.sbOf c.1 != sb }
      (s.rePlaceAll i o.slots).bandFilled o.band
  | none => s

/-- Wear added by one erase of a block (R297). -/
def State.wearOf (s : State) (mode : Nat) : Rat :=
  (1 : Rat) / (match mode with | 0 => s.obj Ob.RATED_PE_SLC | 1 => s.obj Ob.RATED_PE_TLC | _ => s.obj Ob.RATED_PE_QLC : Nat)

/-- A block's erase count and wear rise by one erase (R297). -/
def State.countErase (k : Nat) (s : State) : State :=
  s.modMxe fun m => { m with
    erases := Tbl.put m.erases k (Tbl.getD m.erases k 0 + 1), wear := Tbl.put m.wear k (Tbl.getD m.wear k 0 + s.wearOf (Tbl.getD m.modes k 0)) }

/-- A block is erased good: its pages, read count (R295) and correction (R281) are gone. -/
def State.eraseGood (d : Nat) (o : DieOp) (s : State) : State :=
  let sb := s.fca.sbOf o.req.block
  let k := blkKey d sb
  let s := ((s.countErase k).modCdx fun c => { c with corr := c.corr.filter fun e => e.1 != k }).modMxe fun m => { m with
    nand := m.nand.filter fun e => !(e.1 / 4096 / 8192 == d && s.fca.sbOf (e.1 / 4096 % 8192) == sb), reads := Tbl.del m.reads k }
  match o.why with
  | .erase n => s.memberErased n d
  | _ => s

/-- A block's erase fails: it is retired (R211), and its band waits for one erase fewer (Table 7.6). -/
def State.eraseFail (d : Nat) (o : DieOp) (s : State) : State :=
  let s := ((s.countErase (blkKey d (s.fca.sbOf o.req.block))).retireBlock d (s.fca.sbOf o.req.block) causeErase 0).cancelBlock d (s.fca.sbOf o.req.block)
  match o.why with
  | .erase n => s.memberErased n d
  | _ => s

/-- The steps of a codeword's climb past L0 (Table 10.7, R282, R285): a re-read for each valid bucket up to L1_RETRIES, then L2, L3 and L4; SLC pages skip L4; L5 when the stripe has parity. Level and attempt of each. -/
def State.climbSteps (s : State) (l : Loc) : List (Nat × Nat) :=
  let b : Int := ((s.bandAt l.die l.block).map fun b => s.bucketOf l.die l.block b.2).getD 0
  let n := min (s.obj Ob.L1_RETRIES) ([b + 1, b - 1, b + 2, b - 2, b + 3].filter fun x => decide (0 ≤ x) && decide (x ≤ 15)).length
  let slc := (s.bandAt l.die l.block).any fun b => b.2.mode == 0
  (List.range n).map (fun k => (1, k + 1)) ++ [(2, 1), (3, 1)] ++ (if slc then [] else [(4, 1)]) ++ (if s.hasParity l then [(5, 1)] else [])

/-- The level of a codeword after `k` steps. -/
def State.stepLevel (s : State) (l : Loc) (k : Nat) : Nat := if k = 0 then 0 else ((s.climbSteps l).getD (k - 1) (5, 1)).1

/-- The four codewords of each page of a read. -/
def DieOp.frames (o : DieOp) (e : Engine) : List Frame :=
  o.pages.flatMap fun p => (List.range 4).map fun n => { loc := ⟨o.req.die, p.1, p.2, n⟩, eng := e, cls := o.eff, submit := o.submit, busy := false }

/-- The codewords of a read that need a raw frame's buffers, each with whether it is a verify read's (Table 13.2). -/
def DieOp.raws (o : DieOp) : List (Loc × Bool) :=
  match o.why with
  | .recover l _ => [(l, false)]
  | .verify => (o.frames .verify).map fun f => (f.loc, true)
  | _ => (o.frames .hard).map fun f => (f.loc, false)

/-- The engine of a step of the climb (Table 10.7): re-reads and survivors go to hard decoders, soft values to soft decoders, L4 to the joint detectors. -/
def Loc.engineAt (lvl : Nat) : Engine := if lvl ≤ 1 ∨ 5 ≤ lvl then .hard else if lvl ≤ 3 then .soft else .joint

/-- A read's data has crossed its channel: its codewords wait for a decoder; a recovery read completes its codeword's step (R282). -/
def State.readLands (o : DieOp) (s : State) : State :=
  match o.why with
  | .verify => (s.modFca fun f => { f with verifying := f.verifying ++ (o.frames .verify).map fun x => 4 * pageKey x.loc.die x.loc.block x.loc.page + x.loc.slot }).modCdx
      fun c => ({ c with frames := c.frames ++ o.frames .verify }).fillEngines
  | .recover l _ => s.modCdx (Cdx.landed l)
  | _ => s.modCdx fun c => ({ c with frames := c.frames ++ o.frames .hard }).fillEngines

/-- A read ends on its die: one read more of the block (R295); its data waits for the channel (R234). -/
def State.readDone (o : DieOp) (s : State) : State :=
  let k := blkKey o.req.die (s.fca.sbOf o.req.block)
  (s.modMxe fun m => { m with reads := Tbl.put m.reads k (min 0xFFFFFFFF (Tbl.getD m.reads k 0 + o.pages.length)) }).modFca fun f => { f with
    xfers := f.xfers ++ [{ op := o, begun := false, left := rawBytesOf o.pages.length, ready := s.now }] }

/-- Earlier on the channel (R230, R234): Urgent first, then effective class, then the tick from which it was ready. -/
def Xfer.before (a b : Xfer) : Bool :=
  decide (clsRank a.op.eff < clsRank b.op.eff) || (a.op.eff == b.op.eff && decide (a.ready.toNat < b.ready.toNat))

/-- The die time of an operation that leaves the die counts for its slice and class (R139). -/
def State.diedTime (i : Nat) (s : State) : State :=
  match Tbl.find? s.dsc.ops i with
  | some o => s.modDsc fun c => { c with credit := Tbl.put c.credit (creditKey o) (Tbl.getD c.credit (creditKey o) 0 + s.since o.started) }
  | none => s

/-- An operation leaves its die: tokens are released (R224), and the die is considered from the next tick on (R217). -/
def State.endOp (d i : Nat) (s : State) : State :=
  ((s.diedTime i).dropOp d i).modDie d fun x => { x with
    state := if x.held.isSome then .suspended else if x.state = .offline then .offline else .idle, readyAt := s.now + 1 }

/-- The work of an operation that ended with a status. -/
def State.opEnded (d i : Nat) (o : DieOp) (good : Bool) (s : State) : State :=
  match o.why with
  | .dump n => s.dumpEnded d n good
  | _ =>
  match o.req.kind with
  | .read => s.readDone o
  | .slcProgram | .tlcProgram | .qlcProgram => if good then s.programGood d i o else s.programFail d i o
  | .erase => if good then s.eraseGood d o else s.eraseFail d o

/-- The active operation of a die. -/
def Dsc.running (c : Dsc) (d : Nat) : Option (Nat × DieOp) := (c.die d).active.bind fun i => (Tbl.find? c.ops i).map fun o => (i, o)

/-- DIE_READY (R219, R222, R224, R249): the die's report on its active operation, in the tick of the poll that found it ready. In a cut gap no poll runs, so no die reports (R264). -/
def execDieReady (d : Nat) (st : DieStatus) (s : State) : Out :=
  match s.dsc.running d with
  | some (i, o) =>
    if s.fca.gapHeld = true ∨ (s.dsc.die d).found ≠ some s.now then .next s else
    match st with
    | .suspended =>
      if (s.dsc.die d).state = .suspPend then
        .next ((s.diedTime i).modDsc fun c => { ((c.modDie d fun x => { x with
            state := .suspended, active := none, held := some i, suspReads := 0, readyAt := s.now + 1 }).modOp i fun x => { x with
          ran := x.ran + s.since x.started }) with held := c.held - o.cost })
      else .next s
    | .good => .next ((s.endOp d i).opEnded d i o true)
    | .fail => .next ((s.endOp d i).opEnded d i o false)
  | none => .next s

/-! ## Promotion, suspend, resume -/

/-- DIE_AGE_PROMOTION (R218): once for each operation; at thermal step 2 no Background or GC work (R232). -/
def execDieAgePromotion (i : Nat) (s : State) : Out :=
  match Tbl.find? s.dsc.ops i with
  | some o =>
    match s.ageLimit o.eff with
    | some (_, c) =>
      if o.promoted = false ∧ (s.dsc.die o.req.die).active ≠ some i ∧ usTicks o.ageUs < s.since o.submit
          ∧ ¬ (s.dsc.step = 2 ∧ (o.eff = .background ∨ o.eff = .gc)) then
        .next ((s.modOp i fun x => { x with eff := c, promoted := true }).count Fld.DSC_PROMOTE_CNT.COUNT 0 1)
      else .next s
    | none => .next s
  | none => .next s

/-- Suspend and resume opcodes are loaded (R250). -/
def State.suspLoaded (s : State) (erase : Bool) : Bool :=
  if erase then s.obj Ob.OPCODES_0A != 0 && s.obj Ob.OPCODES_0B != 0 else s.obj Ob.OPCODES_08 != 0 && s.obj Ob.OPCODES_09 != 0

/-- Suspends that an operation may have (R220, R250): none without the opcodes. -/
def State.suspMax (s : State) (o : DieOp) : Nat := if s.suspLoaded (o.req.kind == .erase) then o.suspLim else 0

/-- A queued read of SUSPEND_CLASSES that may suspend the active operation now (R220, R223). -/
def State.suspender (s : State) (d : Nat) (o : DieOp) : Bool :=
  (s.dsc.die d).queue.any fun i => (Tbl.find? s.dsc.ops i).any fun r =>
    r.req.kind == .read && s.suspClass r.eff && decide (r.submit.toNat < s.now.toNat)
      && (r.eff == .urgent || s.passed o.started (usTicks (s.obj Ob.RESUME_MIN_US)))

/-- SUSPEND_ISSUE (R220): refused and counted when the operation has had its suspends. -/
def execSuspendIssue (d : Nat) (s : State) : Out :=
  match s.dsc.running d with
  | some (i, o) =>
    if (s.dsc.die d).state = .busy ∧ o.pe = true ∧ s.suspender d o = true ∧ (s.dsc.die d).readyAt.toNat ≤ s.now.toNat ∧ s.fca.gapHeld = false then
      if o.susp < s.suspMax o then
        .next ((((s.modDie d fun x => { x with
            state := .suspPend, pollDue := s.now.toNat + o.timing.susp * o.timing.first / 100, found := none }).modOp i fun x => { x with
          susp := x.susp + 1 }).count Fld.DSC_SUSP_CNT.COUNT 0 1).nandCmd d .suspend o.req.kind)
      else .next (s.count Fld.DSC_SUSP_DENY.COUNT 0 1)
    else .next s
  | none => .next s

/-- RESUME_SUBMIT (R221): no read of SUSPEND_CLASSES is left, or 8 have started in the suspension. -/
def execResumeSubmit (d : Nat) (s : State) : Out :=
  match (s.dsc.die d).held with
  | some i =>
    let reads := (s.dsc.die d).queue.any fun j => (Tbl.find? s.dsc.ops j).any fun r => r.req.kind == .read && s.suspClass r.eff
    if (s.dsc.die d).state = .suspended ∧ (s.dsc.die d).active = none ∧ (reads = false ∨ 8 ≤ (s.dsc.die d).suspReads) then
      .next (s.modOp i fun x => { x with resume := true })
    else .next s
  | none => .next s

/-! ## OFFLINE -/

/-- Operations of a die: queued, admitted, active, suspended. -/
def Dsc.opsOf (c : Dsc) (d : Nat) : List (Nat × DieOp) := c.ops.filter fun e => e.2.req.die == d

/-- Every operation of a die ends with DIE_FAIL and returns to its submitter (R219). -/
def State.failOps (d : Nat) (s : State) : State :=
  (s.dsc.opsOf d).foldl (fun s e =>
    match e.2.why with
    | .dump n => (s.dropOp d e.1).dumpEnded d n false
    | _ => (s.dropOp d e.1).returnFail e.1 e.2) s

/-- The blocks of a die in the failed set count as retired (R332). -/
def State.retireDie (d : Nat) (s : State) : State :=
  (List.range s.fca.part.blocks).foldl (fun s b => s.retireBlock d b causeDie 0) s

/-- A closed band has a unit on the failed set (R333). -/
def Mxe.degradedBands (m : Mxe) : List (Nat × Band) := m.bands.filter fun e => e.2.degraded

/-- Critical warning bit 2 (R346): the failed set holds a die whose phase 1 is not done, or a band is degraded. -/
def State.dieWarning (s : State) : Bool := (!s.spe.failed.isEmpty && !s.spe.rbPhase2) || !s.mxe.degradedBands.isEmpty

/-- DIE_FAILED health and critical warning bit 2 (R346, Table 17.5): a die of the failed set whose phase 1 is not done, or a degraded band. -/
def State.failedHealth (s : State) : State :=
  let on := s.dieWarning
  let s := if on && !s.healthSet Health.dieFailed then s.criticalWarn 2 0 else s
  s.healthLevel Health.dieFailed UnitNo.spe on

/-- A running rebuild takes a die in (R339): the bands with a unit on it, and again the stripes already taken that hold one. -/
def State.joinRebuild (d : Nat) (s : State) : State :=
  if s.spe.rbActive then
    let bs := (s.mxe.bands.filter fun e => e.2.members.any fun m => m.1 == d).map Prod.fst
    s.modSpe fun p => { p with
      rbBands := p.rbBands ++ bs.filter fun b => !p.rbBands.contains b
      rbDone := p.rbDone.filter fun x => !(Tbl.find? s.mxe.bands x.1).any fun b => (s.stripeUnits b x.2.1 x.2.2.1 x.2.2.2).any fun m => m.1 == d }
  else s.modSpe fun p => { p with rbDue := if s.objB Ob.REBUILD_AUTO then some s.now else p.rbDue }

/-- Reads of a die whose transfers have not finished return DIE_FAIL (R341). -/
def State.failXfers (d : Nat) (s : State) : State :=
  (s.fca.xfers.filter fun x => x.op.req.die == d).foldl (fun s x => s.returnFail s.dsc.nextOp x.op)
    (s.modFca fun f => { f with xfers := f.xfers.filter fun x => x.op.req.die != d })

/-- A die goes OFFLINE (R219, R332): it joins the failed set, and a running rebuild from the next tick (R339). -/
def State.takeOffline (d : Nat) (s : State) : State :=
  if s.dsc.dieState d = .offline then s
  else
    let s := (((s.modDie d fun x => { x with state := .offline }).failOps d).failXfers d).trigger 0x0C UnitNo.dsc d (dieArg d (chOf d) 0)
    let s := (s.modSpe fun p => { p with failed := if p.failed.contains d then p.failed else p.failed ++ [d], rbPhase2 := false }).retireDie d
    let s := s.joinRebuild d
    let s := (s.mxe.bands.filter fun e => e.2.erasing.contains d).foldl (fun s e => s.memberErased e.1 d) s
    ((s.sjLose (s.spe.dieA == d) (s.spe.dieB == d) false).modMxe fun m => m.journalLose (m.jDieA == d) (m.jDieB == d)).failedHealth

/-- DIE_OFFLINE (R219): a die that fails, in any state (notes/assumptions/50.md), or DSC_DIE_CTL.OFFLINE written 1. -/
def execDieOffline (d : Nat) (s : State) : Out := .next (s.takeOffline d)

/-- A die is re-enabled once its channel is trained: it leaves the failed set (R332). -/
def State.reenable (d : Nat) (s : State) : State :=
  if Tbl.has s.dsc.dies d ∧ s.dsc.dieState d = .offline ∧ ((Tbl.find? s.fca.chs (chOf d)).any Channel.trained) = true then
    let s := s.modDie d fun x => { Die.initial with readyAt := s.now + 1, timeoutAt := x.timeoutAt }
    let s := s.modSpe fun p => { p with failed := p.failed.filter (· != d) }
    let s := s.modMxe fun m => { m with retired := m.retired.filter fun e => !(e.1 / 8192 == d && e.2 == causeDie) }
    ((s.modMxe fun m => { m with spare := s.spareNow }).spareEvents).failedHealth
  else s

/-- DIE_REENABLE (R219, R332): after training the die returns; blocks not retired for their own cause leave retirement. -/
def execDieReenable (d : Nat) (s : State) : Out := .next (s.reenable d)

/-! ## Budget and thermal steps -/

/-- Controller reserve of the power state (Table 8.4). -/
def State.rsvCtrl (s : State) : Nat :=
  match s.qen.ps with
  | 0 => s.obj Ob.RSV_CTRL
  | 1 => s.obj Ob.RSV_CTRL_PS1
  | _ => s.obj Ob.RSV_CTRL_PS2

/-- The envelope E (R125, R225): the lower of ENVELOPE_TOKENS and the state's Max Power, PS_MAX_POWER counts 10 mW, a token is 5 mW. -/
def State.envelope (s : State) : Nat := min (s.obj Ob.ENVELOPE_TOKENS) (2 * s.obj Ob.PS_MAX_POWER_0 0 s.qen.ps)

/-- P of R225. -/
def State.stepPct (s : State) (step : Nat) : Nat :=
  match step with
  | 0 => 100
  | 1 => s.obj Ob.STEP1_PCT
  | _ => s.obj Ob.STEP2_PCT

/-- B of R225. -/
def State.budgetOf (s : State) (step : Nat) : Nat :=
  if 3 ≤ s.qen.ps then 0
  else (s.envelope - (s.rsvCtrl + s.obj Ob.RSV_DRAM + s.obj Ob.RSV_MISC + s.obj Ob.RSV_MARGIN)) * s.stepPct step / 100

/-- Bytes of the channel cap in one interval (R230): cap in GB/s × 10 µs. -/
def State.chCap (s : State) : Int :=
  match s.qen.ps with
  | 1 => 10000 * s.obj Ob.CH_CAP_PS1_GBPS
  | 2 => 10000 * s.obj Ob.CH_CAP_PS2_GBPS
  | _ => 0

/-- A decided step takes effect (R232). -/
def State.applyStep (st : Nat) (s : State) : State :=
  let old := s.dsc.step
  let s := s.modDsc fun d => { d with
    step := st, decided := none, stepCount1 := d.stepCount1 + (if st = 1 ∧ old ≠ 1 then 1 else 0), stepCount2 := d.stepCount2 + (if st = 2 ∧ old ≠ 2 then 1 else 0) }
  let s := if st = 1 ∧ old ≠ 1 then s.flag Fld.DSC_BUDGET_EVT.STEP1 0 1 else if st = 2 ∧ old ≠ 2 then s.flag Fld.DSC_BUDGET_EVT.STEP2 0 1 else s
  ((s.trigger 0x0D UnitNo.dsc 0 0).healthLevel Health.thermal UnitNo.dsc (st != 0))

/-- DSC's objects come into force at a re-budget, but for the writes of its own tick (R17, R240). -/
def State.dueObjects (s : State) : State :=
  let t := s.sheetOld.filter fun e => decide (e.1 < 2 ^ 40)
  s.setSheetOld ((t.filter fun e => dscObject e.1).foldl (fun t e => Tbl.put t (dueKey e.1) e.2) t)

/-- What the objects in force mean for operations submitted before (R240): costs of those that do not run; a suspend count or age limit only where it rises. -/
def State.opsRebudget (s : State) : State :=
  s.modDsc fun d => { d with ops := d.ops.map fun e => (e.1, { e.2 with
    cost := if (d.die e.2.req.die).active = some e.1 then e.2.cost else s.opCost e.2.req.kind e.2.req.planes
    ageUs := max e.2.ageUs (((s.ageLimit e.2.eff).map Prod.fst).getD 0), suspLim := max e.2.suspLim (s.suspLimit e.2.req.kind) }) }

/-- REBUDGET (R225, R227, R230, R232): every 8,000 ticks from tick 0; a step decided before takes effect. -/
def execRebudget (s : State) : Out :=
  if s.now.toNat % 8000 = 0 then
    let s := s.dueObjects.opsRebudget
    let s := match s.dsc.decided with
      | some st => if s.dsc.decideTick.toNat < s.now.toNat then s.applyStep st else s
      | none => s
    let b := s.budgetOf s.dsc.step
    let s := if b < s.dsc.held ∧ b < s.dsc.budget then s.flag Fld.DSC_BUDGET_EVT.OVER 0 1 else s
    let posted := s.qen.psPost
    let s := (s.modDsc fun d => { d with budget := b, chBytes := s.chCap + min 0 d.chBytes }).modTimers fun t => { t with rebudget := s.now }
    .next ((posted.foldl (fun s c => s.finish c 0) s).modQen fun q => { q with psPost := [] })
  else .next s

/-- Mean of readings. -/
def meanOf (xs : List Int) : Int := if xs.isEmpty then 0 else xs.foldl (· + ·) 0 / (xs.length : Int)

/-- Threshold of a step (R231): the lower of its object and TMT in °C when HCTM is on. -/
def State.stepC (s : State) (st : Nat) : Int :=
  let o := if st = 1 then s.objI Ob.STEP1_C else s.objI Ob.STEP2_C
  let tmt := if st = 1 then s.qen.tmt1 else s.qen.tmt2
  if tmt = 0 then o else min o ((tmt : Int) - 273)

/-- The step being in effect or decided. -/
def Dsc.target (d : Dsc) : Nat := d.decided.getD d.step

/-- The step decided from a temperature (R231). -/
def State.decideStep (t : Int) (s : State) : State :=
  let cur := s.dsc.target
  let up := if s.stepC 2 ≤ t then 2 else if s.stepC 1 ≤ t then 1 else 0
  if cur < up then s.modDsc fun d => { d with decided := some up, decideTick := s.now, belowSince := none }
  else if 0 < cur ∧ t < s.stepC cur - s.obj Ob.STEP_HYST_C then
    match s.dsc.belowSince with
    | some b =>
      if s.passed b (msTicks 10) ∧ s.passed s.dsc.decideTick (msTicks 10) then
        s.modDsc fun d => { d with
          decided := some (cur - 1), decideTick := s.now, belowSince := if t < s.stepC (cur - 1) - s.obj Ob.STEP_HYST_C then some s.now else none }
      else s
    | none => s.modDsc fun d => { d with belowSince := some s.now }
  else s.modDsc fun d => { d with belowSince := none }

/-- JUNCTION_SENSOR_READ (R231): every 100 µs; the highest of the eight averages over the last 8 readings. R56's wait runs while every sensor reads below 110 °C. -/
def execJunctionSensorRead (temps : List Int) (s : State) : Out :=
  if s.passed s.timers.sensors (usTicks 100) then
    let hist := (List.range 8).map fun i => (temps.getD i 0 :: s.dsc.sensors.getD i []).take 8
    let t := (hist.map meanOf).foldl max (meanOf (hist.getD 0 []))
    let cool := (List.range 8).all fun i => decide (temps.getD i 0 < 110)
    let s := s.modPower fun p => { p with coolSince := if cool then some (p.coolSince.getD s.now) else none }
    .next (((s.modDsc fun d => { d with sensors := hist, tj := t }).modTimers fun x => { x with sensors := x.sensors + 80000 }).decideStep t)
  else .next s

end Sys2Proof.Machine
end

