-- ==== Sys2Proof/Machine/Channels.lean ====
section
/-! DEFINITION. Flash channels (spec/09): initialisation and training, calibration, polls and timeouts, the write guard, die temperatures, and verify reads. -/

namespace Sys2Proof.Machine

/-! ## Rates (R241, R247) -/

/-- The step list of R241. -/
def mtsSteps : List Nat := [8000, 6400, 4800, 3600, 2400, 1600]

/-- Ordering-code maximum (R241): the tenth character of ORDER_CODE is 8 for AK9640-FB8X. -/
def orderMaxMts : Nat := if Config.orderCode / 256 ^ 9 % 256 = 0x38 then 8000 else 6400

/-- The channel is declared multi-drop (R242). -/
def State.multiDrop (s : State) (ch : Nat) : Bool := bitAt (s.obj Ob.TOPO_MD) ch

/-- The highest rate that R241 allows a channel in a mode before training. -/
def State.mtsCap (s : State) (mode ch : Nat) : Nat :=
  let c := min (min (s.obj Ob.MAX_MTS) (if mode = 2 then 1600 else 8000)) orderMaxMts
  if s.multiDrop ch then min c 4800 else c

/-- The highest step at or below a rate. -/
def stepAtMost (mts : Nat) : Nat := (mtsSteps.find? fun x => decide (x ≤ mts)).getD 0

/-- Bits of FCA_CH_EVT. -/
def evtRateDown := 1
def evtTrainFail := 2
def evtChFail := 4
def evtTimeout := 8
def evtMismatch := 16

/-- FCA_CH_EVT bits set for a channel, with their recorder trigger (Table 18.1, code 0x0E). -/
def State.chEvent (ch bits : Nat) (s : State) : State :=
  let s := if bits % 2 = 1 then s.flag Fld.FCA_CH_EVT.RATE_DOWN ch 1 else s
  let s := if bits / 2 % 2 = 1 then s.flag Fld.FCA_CH_EVT.TRAIN_FAIL ch 1 else s
  let s := if bits / 4 % 2 = 1 then s.flag Fld.FCA_CH_EVT.CH_FAIL ch 1 else s
  let s := if bits / 8 % 2 = 1 then s.flag Fld.FCA_CH_EVT.TIMEOUT ch 1 else s
  let s := if bits / 16 % 2 = 1 then s.flag Fld.FCA_CH_EVT.MISMATCH ch 1 else s
  if bits = 0 then s else s.trigger 0x0E UnitNo.fca ch (dieArg 0 ch bits)

/-! ## Initialisation (R245 to R247) -/

/-- Positions of a channel that answer: with VOL_SELECT 0, volume 0 on each CE_N only (R244). -/
def State.positions (s : State) (f : ChannelFound) : List Nat :=
  (List.range 32).filter fun p => f.present.getLsbD p && (s.objB Ob.VOL_SELECT || p / 2 % 8 == 0)

/-- One channel is initialised. -/
def State.initChannel (f : ChannelFound) (s : State) : State :=
  let ps := s.positions f
  let cap := s.mtsCap (s.obj Ob.MODE) f.ch
  let mts := stepAtMost (min cap f.passMts)
  let die := fun (p : Nat) => 32 * p + f.ch
  let s := s.modDsc fun d => { d with dies := ps.foldl (fun t p => Tbl.put t (die p)
    { Die.initial with state := if f.mismatch.getLsbD p || s.spe.failed.contains (die p) then .offline else .idle }) d.dies }
  let s := s.modFca fun x => { x with
    chs := Tbl.put x.chs f.ch { trained := mts != 0, mts := mts, mode := s.obj Ob.MODE, multi := s.multiDrop f.ch
                                present := BitVec.ofNat 32 (ps.foldl (fun v p => v + 2 ^ p) 0), volume := []
                                trainTemp := [(0, f.tempC), (1, f.tempC)] }
    temps := ps.foldl (fun t p => Tbl.put t (die p) (f.tempC, s.now)) x.temps }
  let bad := ps.filter f.trainFail.getLsbD
  let s := s.chEvent f.ch ((if mts ≠ 0 ∧ mts < stepAtMost cap then evtRateDown else 0) + (if mts ≠ 0 ∧ bad ≠ [] then evtTrainFail else 0)
    + (if mts = 0 then evtChFail else 0) + (if ps.any f.mismatch.getLsbD then evtMismatch else 0))
  (if mts = 0 then ps else bad).foldl (fun s p => s.takeOffline (die p)) s

/-- CHANNEL_INIT (R245 to R247): in Stair, once; every die that answers stands in DSC when it ends. -/
def execChannelInit (part : NandPart) (found : List ChannelFound) (s : State) : Out :=
  if s.power.stage = .stair ∧ s.fca.initialised = false then
    .next (found.foldl (fun s f => s.initChannel f) (s.modFca fun x => { x with part := part, initialised := true }))
  else .next s

/-! ## Calibration and retraining (R248) -/

/-- ZQ_CALIBRATION (R248): in Hall, every RETRAIN_S, ZQ Calibration Short on every volume. -/
def execZqCalibration (s : State) : Out :=
  if s.power.stage = .hall ∧ s.passed s.timers.zq (secTicks (s.obj Ob.RETRAIN_S)) = true ∧ s.fca.gapHeld = false then
    .next (((s.dsc.dies.filter fun d => d.1 / 32 % 2 == 0).foldl (fun s d => s.nandCmd d.1 .zqShort) s).modTimers fun t => { t with zq := s.lastDue t.zq (secTicks (s.obj Ob.RETRAIN_S)) })
  else .next s

/-- Dies on a CE_N of a channel (R243). -/
def Dsc.onCe (d : Dsc) (ch ce : Nat) : List Nat := (d.dies.map Prod.fst).filter fun n => chOf n == ch && ceOf n == ce

/-- The CE_N is to be trained again (R248): FCA_TRAIN_CTL.GO, or the temperature of a die on it has moved by RETRAIN_DELTA_C since its last training. -/
def State.retrainDue (s : State) (ch ce : Nat) : Bool :=
  s.fca.trainDue.contains (ch, ce) || (Tbl.find? s.fca.chs ch).any fun x =>
    (s.dsc.onCe ch ce).any fun d => (Tbl.find? s.fca.temps d).any fun t => decide (s.obj Ob.RETRAIN_DELTA_C ≤ (t.1 - Tbl.getD x.trainTemp ce 0).natAbs)

/-- CHANNEL_RETRAIN (R248, R247): step 5 again on one CE_N; a lower step sets RATE_DOWN, none takes the channel's dies OFFLINE, a position that fails alone goes OFFLINE by itself. -/
def execChannelRetrain (ch ce : Nat) (found : TrainFound) (s : State) : Out :=
  if s.power.stage = .hall ∧ (Tbl.find? s.fca.chs ch).any Channel.trained = true ∧ s.retrainDue ch ce = true ∧ s.fca.gapHeld = false then
    let cap := s.mtsCap (((Tbl.find? s.fca.chs ch).map Channel.mode).getD 0) ch
    let mts := stepAtMost (min cap found.passMts)
    let temp := ((s.dsc.onCe ch ce).head?.bind fun d => (Tbl.find? s.fca.temps d).map Prod.fst).getD 0
    let s := ((s.dsc.onCe ch ce).take 1).foldl (fun s d => s.nandCmd d .training) s
    let s := s.modFca fun f => { f with
      chs := Tbl.adjust f.chs ch fun x => { x with trained := mts != 0, mts := mts, trainTemp := Tbl.put x.trainTemp ce temp }
      trainDue := f.trainDue.filter (· != (ch, ce)) }
    let bad := (s.dsc.onCe ch ce).filter fun d => found.fails.contains (d / 32)
    let s := s.chEvent ch ((if mts ≠ 0 ∧ mts < stepAtMost cap then evtRateDown else 0) + (if mts ≠ 0 ∧ bad ≠ [] then evtTrainFail else 0)
      + (if mts = 0 then evtChFail else 0))
    .next ((if mts = 0 then s.dsc.onCe ch 0 ++ s.dsc.onCe ch 1 else bad).foldl (fun s d => s.takeOffline d) s)
  else .next s

/-! ## Polls and timeouts (R249, R251) -/

/-- STATUS_POLL (R249): Read Status Enhanced on a busy die when its poll is due; the die reports by DIE_READY in the tick of the poll that finds it ready. None in a cut gap (R264). -/
def execStatusPoll (d : Nat) (ready : Bool) (s : State) : Out :=
  match s.dsc.running d with
  | some (_, o) =>
    if s.fca.gapHeld = false ∧ (s.dsc.die d).pollDue ≤ s.now.toNat then
      .next ((s.modDie d fun x => { x with pollDue := s.now.toNat + o.timing.again, found := if ready then some s.now else x.found }).nandCmd d .poll)
    else .next s
  | none => .next s

/-- BUSY_TIMEOUT (R251): Reset LUN; the operation ends as failed; a second timeout on the die within 1 s takes it OFFLINE. -/
def execBusyTimeout (d : Nat) (s : State) : Out :=
  match s.dsc.running d with
  | some (i, o) =>
    if s.fca.gapHeld = false ∧ s.passed o.started o.timing.limit = true then
      let again := s.passedSome (s.dsc.die d).timeoutAt 0 && !s.passedSome (s.dsc.die d).timeoutAt (secTicks 1)
      let s := ((s.nandCmd d .resetLun).chEvent (chOf d) evtTimeout).modDie d fun x => { x with timeoutAt := some s.now }
      let s := (s.endOp d i).opEnded d i o false
      .next (if again then s.takeOffline d else s)
    else .next s
  | none => .next s

/-! ## Write guard (R253 to R257) -/

/-- COND bit of a guard input (Table 9.6). -/
def guardBit : GuardInput → Nat
  | .vin => 1
  | .vddq => 2
  | .pwrfail => 4
  | .vddqDump => 0
  | .temp _ | .stale _ => 8

/-- The last temperature of a die lies in the window of Table 9.5. -/
def State.tempInWindow (s : State) (d : Nat) : Bool :=
  match Tbl.find? s.fca.temps d with
  | some (t, _) => decide (s.objI Ob.TEMP_LOW_C ≤ t) && decide (t ≤ s.objI Ob.TEMP_HIGH_C)
  | none => true

/-- The last temperature of a die is older than 2 × TEMP_POLL_MS. -/
def State.tempStale (s : State) (d : Nat) : Bool :=
  match Tbl.find? s.fca.temps d with
  | some (_, t) => decide (msTicks (2 * s.obj Ob.TEMP_POLL_MS) < s.since t)
  | none => true

/-- A condition becomes active at this tick, unless it is active. -/
def Fca.activate (f : Fca) (g : GuardInput) (t : Dword) : Fca :=
  let on := fun (x : Option Dword) => some (x.getD t)
  match g with
  | .vin => { f with vin := on f.vin }
  | .vddq => { f with vddq := on f.vddq }
  | .pwrfail => { f with pwrfail := on f.pwrfail }
  | .vddqDump => { f with vddqDump := true }
  | .temp d => if Tbl.has f.tempHeld d then f else { f with tempHeld := Tbl.put f.tempHeld d t }
  | .stale d => if Tbl.has f.staleHeld d then f else { f with staleHeld := Tbl.put f.staleHeld d t }

/-- The condition is active. -/
def Fca.guards (f : Fca) : GuardInput → Bool
  | .vin => f.vin.isSome
  | .vddq => f.vddq.isSome
  | .pwrfail => f.pwrfail.isSome
  | .vddqDump => f.vddqDump
  | .temp d => Tbl.has f.tempHeld d
  | .stale d => Tbl.has f.staleHeld d

/-- The input of a condition is as the condition says, where the controller itself knows it. -/
def State.guardTrue (s : State) : GuardInput → Bool
  | .vin | .vddq | .pwrfail | .vddqDump => true
  | .temp d => !s.tempInWindow d
  | .stale d => s.tempStale d

/-- A condition activates (R254). -/
def State.guardOnset (g : GuardInput) (s : State) : State :=
  if s.fca.guards g then s
  else (s.modFca fun f => f.activate g s.now).flag Fld.FCA_GUARD_EVT.COND 0 (guardBit g)

/-- WRITE_GUARD_ACTIVATE (R253, R254). -/
def execWriteGuardActivate (g : GuardInput) (s : State) : Out := .next (if s.guardTrue g then s.guardOnset g else s)

/-- A condition ends. -/
def Fca.deactivate (f : Fca) : GuardInput → Fca
  | .vin => { f with vin := none }
  | .vddq => { f with vddq := none }
  | .pwrfail => { f with pwrfail := none }
  | .vddqDump => { f with vddqDump := false }
  | .temp d => { f with tempHeld := Tbl.del f.tempHeld d }
  | .stale d => { f with staleHeld := Tbl.del f.staleHeld d }

/-- Whose operations a condition holds: one die's, or all (R253). -/
def guardScope : GuardInput → Option Nat
  | .vin | .vddq | .pwrfail | .vddqDump => none
  | .temp d | .stale d => some d

/-- GUARD_CLEAR_US has passed since a tick (R257). -/
def State.clearTime (s : State) (t : Option Dword) : Bool := t.all fun x => s.passed x (usTicks (s.obj Ob.GUARD_CLEAR_US))

/-- The condition may clear (R257): the input has been within its threshold for GUARD_CLEAR_US, since its activation at the earliest; PWRFAIL only with the start of R57; a dump's VDDQ_NAND withhold at once (R258). -/
def State.guardMayClear (s : State) : GuardInput → Bool
  | .vin => s.clearTime s.fca.vin
  | .vddq => s.clearTime s.fca.vddq
  | .vddqDump => true
  | .pwrfail => !s.power.pwrfail && !s.power.lossHeld
  | .temp d => s.tempInWindow d && s.clearTime (Tbl.find? s.fca.windowSince d)
  | .stale d => !s.tempStale d && s.clearTime (Tbl.find? s.fca.freshSince d)

/-- WRITE_GUARD_CLEAR (R257): the input has stayed within its threshold for GUARD_CLEAR_US. -/
def execWriteGuardClear (g : GuardInput) (s : State) : Out := 
  .next (if s.guardMayClear g then s.modFca fun f => { f.deactivate g with cleared := if f.guards g then guardScope g :: f.cleared else f.cleared } else s)

/-- TEMP or STALE holds the operation while none of VIN, VDDQ and PWRFAIL does (R256). -/
def State.tempHolds (s : State) (o : DieOp) : Bool :=
  (Tbl.has s.fca.tempHeld o.req.die || Tbl.has s.fca.staleHeld o.req.die) && s.fca.vin.isNone && s.fca.vddq.isNone && s.fca.pwrfail.isNone

/-- Ticks of R256 count for withheld starts, never for a resume. -/
def State.guardTick (s : State) : State :=
  s.modDsc fun c => { c with ops := c.ops.map fun e =>
    if e.2.withheld && !e.2.resume && (c.die e.2.req.die).held != some e.1 && s.tempHolds e.2 then (e.1, { e.2 with guardWait := e.2.guardWait + 1 }) else e }

/-- GUARD_WAIT_TIMEOUT (R256): a withheld program or erase returns GUARDED; its slots are placed again. -/
def execGuardWaitTimeout (i : Nat) (s : State) : Out :=
  match Tbl.find? s.dsc.ops i with
  | some o =>
    if o.pe = true ∧ o.withheld = true ∧ msTicks (s.obj Ob.GUARD_WAIT_MS) < o.guardWait ∧ (s.dsc.die o.req.die).held ≠ some i
        ∧ (s.dsc.die o.req.die).active ≠ some i then
      .next (((s.dropOp o.req.die i).returnFail i o).count Fld.FCA_GUARD_CNT.REPLACED 0 1)
    else .next s
  | none => .next s

/-- A temperature read of a die is due: every TEMP_POLL_MS (R256). A STALE reading is older still. -/
def State.tempDue (s : State) (d : Nat) : Bool := (Tbl.find? s.fca.temps d).all fun x => s.passed x.2 (msTicks (s.obj Ob.TEMP_POLL_MS))

/-- A die's temperature, and the tick from which its readings have been in the window and not stale (R257). -/
def State.tempRead (d : Nat) (tempC : Int) (s : State) : State :=
  let inside := decide (s.objI Ob.TEMP_LOW_C ≤ tempC) && decide (tempC ≤ s.objI Ob.TEMP_HIGH_C)
  let was := s.tempInWindow d
  let stale := s.tempStale d
  s.modFca fun f => { f with
    temps := Tbl.put f.temps d (tempC, s.now)
    windowSince := if inside && was && Tbl.has f.windowSince d then f.windowSince else Tbl.put f.windowSince d s.now
    freshSince := if stale || !Tbl.has f.freshSince d then Tbl.put f.freshSince d s.now else f.freshSince }

/-- DIE_TEMPERATURE_POLL (R256): Get Features gives the die's temperature. -/
def execDieTemperaturePoll (d : Nat) (tempC : Int) (s : State) : Out :=
  if Tbl.has s.dsc.dies d ∧ s.dsc.dieState d ≠ .offline ∧ s.tempDue d = true ∧ s.fca.gapHeld = false then
    .next ((s.tempRead d tempC).nandCmd d .getTemperature)
  else .next s

/-! ## Verify (R259) -/

/-- VERIFY_READ (R259): the read of a page that awaits verify, VERIFY_DELAY_US after its program reported good. -/
def execVerifyRead (d block page : Nat) (s : State) : Out :=
  match Tbl.find? s.fca.verify (pageKey d block page), s.bandAt d block with
  | some t, some (n, b) =>
    if s.passed t (usTicks (s.obj Ob.VERIFY_DELAY_US)) ∧ s.dsc.dieState d ≠ .offline
        ∧ ¬ s.dsc.ops.any (fun o => o.2.why == .verify && o.2.req.die == d && o.2.pages.contains (block, page))
        ∧ ¬ s.fca.verifying.any (fun v => v / 4 == pageKey d block page) then
      .next (s.submitOp { kind := .read, die := d, block := block, page := page, planes := 1
                          cls := if b.kind = .landing ∨ b.kind = .system then .high else .gc, raised := false, slice := b.slice } .verify
        [(block, page)] [] n)
    else .next s
  | _, _ => .next s

end Sys2Proof.Machine
end

