-- ==== Sys2Proof/Machine/Buffers.lean ====
section
/-! DEFINITION. Buffer Pools (spec/13): handles, descriptors, allocation, sharing, freeing, poison, and the meanings of BUFFER_REQUEST, BUFFER_GRANT, BUFFER_SHARE, BUFFER_FREE, BUFFER_FREE_CHAIN, POISON_BUFFER_CLEAN, RING_REFILL and SRAM_SCRUB. -/

namespace Sys2Proof.Machine

/-! ## Pools and handles -/

/-- Buffer size of a pool (Table 13.1). -/
def poolSize : Nat → Nat
  | 0 => 256
  | 1 => 1024
  | 2 => 4096
  | 3 => 16384
  | _ => 65536

/-- The smallest pool whose buffer size is at least `size` (R380). -/
def poolFor (size : Nat) : Nat :=
  if size ≤ 256 then 0 else if size ≤ 1024 then 1 else if size ≤ 4096 then 2 else if size ≤ 16384 then 3 else 4

/-- A pool. -/
def Bpm.pool (b : Bpm) (k : Nat) : Pool := b.pools.getD k default

/-- Change a pool. -/
def Bpm.modPool (b : Bpm) (k : Nat) (f : Pool → Pool) : Bpm := { b with pools := b.pools.modify k f }

/-- Base of a pool (R376): the pools lie in ascending order from stage offset 0. -/
def Bpm.base (b : Bpm) : Nat → Nat
  | 0 => 0
  | k + 1 => b.base k + (b.pool k).count * poolSize k

/-- Stage offset of a buffer (R376). -/
def Bpm.offset (b : Bpm) (k i : Nat) : Nat := b.base k + i * poolSize k

/-- The handle that means no buffer (R377). -/
def noHandle : BitVec 24 := 0xFFFFFF

/-- A handle from POOL, GEN and INDEX (R377). -/
def mkHandle (k : Nat) (gen : BitVec 7) (i : Nat) : BitVec 24 :=
  BitVec.ofNat 24 (2 ^ 21 * k + 2 ^ 14 * gen.toNat + i % 2 ^ 14)

/-- POOL of a handle. -/
def hPool (h : BitVec 24) : Nat := bitsOf h.toNat 23 21

/-- GEN of a handle. -/
def hGen (h : BitVec 24) : BitVec 7 := BitVec.ofNat 7 (bitsOf h.toNat 20 14)

/-- INDEX of a handle. -/
def hIdx (h : BitVec 24) : Nat := bitsOf h.toNat 13 0

/-- The key of a buffer's descriptor. -/
def bufKey (k i : Nat) : Nat := 16384 * k + i

/-- A descriptor after a rebuild of the pools: FREE, GEN 0 (R389). -/
def BufDesc.initial : BufDesc :=
  { next := 0, owners := 0, gen := 0, state := .free, poison := false, slice := 0, charged := false }

/-- A buffer's descriptor. -/
def Bpm.desc (b : Bpm) (k i : Nat) : BufDesc := Tbl.getD b.descs (bufKey k i) BufDesc.initial

/-- Store a descriptor. -/
def Bpm.putDesc (b : Bpm) (k i : Nat) (d : BufDesc) : Bpm :=
  { b with descs := Tbl.setD b.descs (bufKey k i) d BufDesc.initial }

/-- The buffer overlaps the firmware staging area of R375. -/
def Bpm.overlapsStaging (b : Bpm) (k i : Nat) : Bool :=
  decide (b.offset k i < 0x03000000) && decide (0x02000000 < b.offset k i + poolSize k)

/-- The buffer is withheld now (R375). -/
def Bpm.isWithheld (b : Bpm) (k i : Nat) : Bool := b.withheld && b.overlapsStaging k i

/-- Withheld buffers of a pool. -/
def Bpm.withheldIn (b : Bpm) (k : Nat) : Nat :=
  if b.withheld then
    let lo := b.base k
    let hi := lo + (b.pool k).count * poolSize k
    let a := max lo 0x02000000
    let z := min hi 0x03000000
    if a < z then ceilDiv (z - lo) (poolSize k) - (a - lo) / poolSize k else 0
  else 0

/-- Buffers of a pool in a state. -/
def Bpm.inState (b : Bpm) (k : Nat) (st : BufState) : Nat :=
  (b.descs.filter fun e => e.1 / 16384 == k && e.2.state == st).length

/-- Size of the reservation of Table 13.2 in a pool. -/
def State.rsvSize (s : State) : Nat → Nat
  | 1 => 5 * s.bpm.urgentSets
  | 2 => s.bpm.urgentSets
  | 3 => 128
  | 4 => s.spe.accBufs
  | _ => 0

/-- Reserved buffers that no request outside the reservation may take. -/
def State.rsvHeld (s : State) : Nat → Nat
  | 1 => (s.bpm.pool 1).rsvFree
  | 2 => (s.bpm.pool 2).rsvFree
  | k => s.rsvSize k

/-- FREE and CACHED buffers of a pool that are not withheld. -/
def Bpm.unheld (b : Bpm) (k : Nat) : Nat :=
  (b.pool k).count - b.inState k .held - b.inState k .retired - b.withheldIn k

/-- FREE and CACHED buffers outside reservations (BPM_POOL_STS.FREE). -/
def State.poolFree (s : State) (k : Nat) : Nat := s.bpm.unheld k - s.rsvHeld k

/-- Buffers of the pool that became free in this tick and cannot be granted in it (R383). -/
def Bpm.notYet (b : Bpm) (k : Nat) : Nat := (b.freedNow.filter fun x => x / 16384 == k).length

/-- A buffer can be granted from pool k outside its reservations. -/
def State.grantable (s : State) (k : Nat) : Bool :=
  decide (k < 5) && decide (s.bpm.notYet k < s.poolFree k)

/-- The first index from `i` on, among `fuel`, that is FREE in the bitmap, not withheld and not freed in this tick. -/
def Bpm.lowestFree (b : Bpm) (k : Nat) : Nat → Nat → Option Nat
  | _, 0 => none
  | i, fuel + 1 =>
    if (b.desc k i).state == .free && !b.isWithheld k i && !b.freedNow.contains (bufKey k i) then some i
    else b.lowestFree k (i + 1) fuel

/-- The index of the next buffer of a pool: the ring's head, or the lowest free index of the bitmap (R382). -/
def Bpm.nextIndex (b : Bpm) (k : Nat) : Option Nat :=
  match (b.pool k).ring.find? (fun i => !b.freedNow.contains (bufKey k i)) with
  | some i => some i
  | none => b.lowestFree k 0 (b.pool k).count

/-- Grant buffer i of pool k (R380): HELD, one owner, POISON clear, GEN incremented. -/
def Bpm.hold (b : Bpm) (k i unit : Nat) (slice : Option Nat) : Bpm :=
  (b.modPool k fun p => { p with ring := p.ring.filter (· != i) }).putDesc k i
    { next := noHandle, owners := BitVec.ofNat 17 (2 ^ unit), gen := (b.desc k i).gen + 1, state := .held
      poison := false, slice := slice.getD 0, charged := slice.isSome }

/-- Name the granted handle in PREV's NEXT (R380). -/
def Bpm.link (b : Bpm) (prev : Option (BitVec 24)) (h : BitVec 24) : Bpm :=
  match prev with
  | some p => b.putDesc (hPool p) (hIdx p) { b.desc (hPool p) (hIdx p) with next := h }
  | none => b

/-- The handle of a held buffer. -/
def Bpm.handle (b : Bpm) (k i : Nat) : BitVec 24 := mkHandle k (b.desc k i).gen i

/-- The pool that serves a request: the smallest that fits, or the next larger ones up to SPILL_MAX above it (R380). -/
def State.servingPool (s : State) (size : Nat) : Option Nat :=
  ((List.range (s.obj Ob.SPILL_MAX + 1)).map (poolFor size + ·)).find? s.grantable

/-- Bytes of HELD buffers charged to a slice (R384). -/
def Bpm.charge (b : Bpm) (slice : Nat) : Nat :=
  b.descs.foldl (fun n e =>
    if e.2.state == .held && e.2.charged && e.2.slice == slice then n + poolSize (e.1 / 16384) else n) 0

/-- The slice's STAGE_MAX_MIB allows one more buffer of pool `k` (R384). -/
def State.chargeOk (s : State) (slice : Option Nat) (k : Nat) : Bool :=
  match slice with
  | some sl => decide (s.bpm.charge sl + poolSize k ≤ 2 ^ 20 * s.sliceObj Ob.STAGE_MAX_MIB sl)
  | none => true

/-- Grant a buffer of pool k to a request. -/
def State.grantFrom (k : Nat) (w : BufWaiter) (s : State) : State :=
  match s.bpm.nextIndex k with
  | some i =>
    let b := s.bpm.hold k i w.unit w.slice
    let s := { s with bpm := b.link w.prev (b.handle k i) }
    let s := if poolFor w.size < k then s.count Fld.BPM_SPILL_CNT.COUNT 0 1 else s
    s.emit (.grant w.unit (b.handle k i))
  | none => s

/-- An Urgent read takes its buffer from the reservation of pool 1 or 2 (R381). -/
def State.grantReserved (k : Nat) (w : BufWaiter) (s : State) : State :=
  (s.modBpm fun b => b.modPool k fun p => { p with rsvFree := p.rsvFree - 1 }).grantFrom k w

/-- Whether the reservation can serve the request (R381). -/
def State.reservedFor (s : State) (w : BufWaiter) : Bool :=
  w.urgent && (poolFor w.size == 1 || poolFor w.size == 2) && decide (0 < (s.bpm.pool (poolFor w.size)).rsvFree)

/-- Insert a waiter by request tick, then by order of arrival (R383). -/
def insertWaiter (w : BufWaiter) : List BufWaiter → List BufWaiter
  | [] => [w]
  | v :: vs => if w.tick.toNat < v.tick.toNat || (w.tick == v.tick && w.ord < v.ord) then w :: v :: vs else v :: insertWaiter w vs

/-- Queue a request in the queue of its smallest fitting pool (R383). -/
def Bpm.enqueue (b : Bpm) (w : BufWaiter) : Bpm :=
  b.modPool (poolFor w.size) fun p => { p with waiters := insertWaiter w p.waiters }

/-- Requests held for their slice enter the queues once its charge allows (R384). -/
def State.admitHeld (s : State) : State :=
  let ok := s.bpm.sliceHeld.filter fun w => s.chargeOk w.slice (poolFor w.size)
  s.modBpm fun b => ok.foldl Bpm.enqueue { b with sliceHeld := b.sliceHeld.filter fun w => !s.chargeOk w.slice (poolFor w.size) }

/-- Waiting requests that their slice's charge no longer allows are held outside the queues (R384). -/
def State.holdOver (s : State) : State :=
  let full := fun (w : BufWaiter) => !s.chargeOk w.slice (poolFor w.size)
  s.modBpm fun b => { b with
    sliceHeld := b.sliceHeld ++ b.pools.flatMap fun p => p.waiters.filter full
    pools := b.pools.map fun p => { p with waiters := p.waiters.filter fun w => !full w } }

/-- Serve, hold or queue a request (R380 to R384): an Urgent read that finds no free buffer in its pool takes one of the reservation. -/
def State.bufRequest (w : BufWaiter) (s : State) : State :=
  let s := s.modBpm fun b => { b with ord := b.ord + 1 }
  let clear := (s.bpm.pool (poolFor w.size)).waiters == []
  if !s.chargeOk w.slice (if clear then (s.servingPool w.size).getD (poolFor w.size) else poolFor w.size) then
    s.modBpm fun b => { b with sliceHeld := b.sliceHeld ++ [w] }
  else if s.reservedFor w && (!clear || !s.grantable (poolFor w.size)) then s.grantReserved (poolFor w.size) w
  else if clear then
    match s.servingPool w.size with
    | some k => s.grantFrom k w
    | none => s.modBpm fun b => b.enqueue w
  else s.modBpm fun b => b.enqueue w

/-- BUFFER_REQUEST (R380). -/
def execBufferRequest (unit size : Nat) (slice : Option Nat) (urgent : Bool) (prev : Option (BitVec 24)) (s : State) :
    Host.Outcome State Fault Refusal :=
  .next (s.bufRequest { unit := unit, size := size, slice := slice, urgent := urgent, prev := prev, tick := s.now, ord := s.bpm.ord })

/-- The waiter to serve from pool k (R383): pool k's oldest, else the oldest of the pools below that may spill into k, the smaller pool first on equal ticks. -/
def State.waiterFor (s : State) (k : Nat) : Option (Nat × BufWaiter) :=
  match (s.bpm.pool k).waiters with
  | w :: _ => some (k, w)
  | [] =>
    (List.range k).foldl (fun best j =>
      if k ≤ j + s.obj Ob.SPILL_MAX then
        match (s.bpm.pool j).waiters, best with
        | w :: _, some (bj, bw) => if w.tick.toNat < bw.tick.toNat then some (j, w) else some (bj, bw)
        | w :: _, none => some (j, w)
        | [], b => b
      else best) none

/-- BUFFER_GRANT (R383): a buffer of pool k that is free goes to the waiter it serves, if its slice's charge allows (R384). -/
def execBufferGrant (k : Nat) (s : State) : Host.Outcome State Fault Refusal :=
  let s := s.holdOver
  match s.waiterFor k with
  | some (j, w) =>
    if s.grantable k ∧ s.chargeOk w.slice k = true then
      .next ((s.modBpm fun b => b.modPool j fun p => { p with waiters := p.waiters.tail }).grantFrom k w)
    else .next s
  | none => .next s

/-! ## Sharing and freeing -/

/-- Why a SHARE or FREE is refused, as the bit of BPM_FREE_ERR (R386): none when it is accepted. -/
def Bpm.refusal (b : Bpm) (h : BitVec 24) (unit : Nat) : Option Nat :=
  if 5 ≤ hPool h || (b.pool (hPool h)).count ≤ hIdx h then some 0
  else if (b.desc (hPool h) (hIdx h)).gen != hGen h then some 1
  else if (b.desc (hPool h) (hIdx h)).state != .held then some 2
  else if !(b.desc (hPool h) (hIdx h)).owners.getLsbD unit then some 3
  else none

/-- The field of BPM_FREE_ERR for a refusal. -/
def freeErrField : Nat → Field
  | 0 => Fld.BPM_FREE_ERR.BAD_HANDLE
  | 1 => Fld.BPM_FREE_ERR.GEN
  | 2 => Fld.BPM_FREE_ERR.STATE
  | _ => Fld.BPM_FREE_ERR.NOT_OWNER

/-- A refusal's effects (R386). -/
def State.refuseBuf (bit : Nat) (h : BitVec 24) (unit : Nat) (s : State) : State :=
  (((s.flag (freeErrField bit) 0 1).modBpm fun b => { b with errUnit := unit, errHandle := h }).raiseExc UnitNo.bpm 0 bit h.toNat).trigger
    0x16 UnitNo.bpm 0 0

/-- BUFFER_SHARE (R385). -/
def execBufferShare (h : BitVec 24) (by_ unit : Nat) (s : State) : Host.Outcome State Fault Refusal :=
  match s.bpm.refusal h by_ with
  | some bit => .next (s.refuseBuf bit h by_)
  | none => .next (s.modBpm fun b => b.putDesc (hPool h) (hIdx h)
      { b.desc (hPool h) (hIdx h) with owners := (b.desc (hPool h) (hIdx h)).owners ||| BitVec.ofNat 17 (2 ^ unit) })

/-- Non-retired buffers of some pool are below its reservation plus 16 (R388). -/
def State.sramLow (s : State) : Bool :=
  (List.range 5).any fun k => decide ((s.bpm.pool k).count - s.bpm.inState k .retired < s.rsvSize k + 16)

/-- Retire a buffer (R387, R388). -/
def State.retireBuf (k i : Nat) (s : State) : State :=
  let s := s.modBpm fun b => { b.putDesc k i { b.desc k i with state := .retired, owners := 0, charged := false } with
    retired := bufKey k i :: b.retired, cleaning := b.cleaning.filter (· != bufKey k i) }
  s.healthLevel Health.stageSram UnitNo.bpm s.sramLow

/-- A buffer becomes free: RETIRED when it has had CORR_RETIRE corrections, else CACHED at the ring's tail or FREE (R382, R388). A reservation not full takes it first. -/
def State.releaseBuf (k i : Nat) (s : State) : State :=
  if s.obj Ob.CORR_RETIRE ≤ Tbl.getD s.bpm.corrected (bufKey k i) 0 then s.retireBuf k i
  else
    let room := decide ((s.bpm.pool k).ring.length < s.bpm.ringDepth) && !s.bpm.isWithheld k i
    let s := s.modBpm fun b => { b.putDesc k i { b.desc k i with
        next := 0, owners := 0, poison := false, charged := false, slice := 0, state := if room then .cached else .free } with
      freedNow := bufKey k i :: b.freedNow, cleaning := b.cleaning.filter (· != bufKey k i) }
    let s := if room then s.modBpm fun b => b.modPool k fun p => { p with ring := p.ring ++ [i] } else s
    let s := if (k == 1 || k == 2) && decide ((s.bpm.pool k).rsvFree < s.rsvSize k) then
      s.modBpm fun b => b.modPool k fun p => { p with rsvFree := p.rsvFree + 1 } else s
    s.admitHeld

/-- Poisoned words of a buffer. -/
def Bpm.poisonIn (b : Bpm) (k i : Nat) : List Nat :=
  b.poisoned.filter fun o => b.offset k i ≤ o && o < b.offset k i + poolSize k

/-- The last owner has freed a buffer (R385, R387): with POISON set BPM keeps it and writes zeros to every word. -/
def State.lastFree (k i : Nat) (s : State) : State :=
  if (s.bpm.desc k i).poison then
    s.modBpm fun b => { b.putDesc k i { b.desc k i with owners := BitVec.ofNat 17 (2 ^ UnitNo.bpm) } with
      cleaning := bufKey k i :: b.cleaning
      sram := Memory.clearRange b.sram (b.offset k i) (poolSize k)
      poisoned := b.poisoned.filter fun o => !(b.offset k i ≤ o && o < b.offset k i + poolSize k) }
  else s.releaseBuf k i

/-- FREE of a handle by a unit (R385, R386). -/
def State.bufFree (h : BitVec 24) (unit : Nat) (s : State) : State :=
  match s.bpm.refusal h unit with
  | some bit => s.refuseBuf bit h unit
  | none =>
    let k := hPool h
    let i := hIdx h
    let owners := (s.bpm.desc k i).owners &&& ~~~(BitVec.ofNat 17 (2 ^ unit))
    let s := s.modBpm fun b => b.putDesc k i { b.desc k i with owners := owners }
    if owners = 0 then s.lastFree k i else s

/-- Buffers of a unit go back (R385). -/
def State.freeBufsOf (unit : Nat) (hs : List (BitVec 24)) (s : State) : State := hs.foldl (fun s h => s.bufFree h unit) s

/-- Buffers of a write or command go back (R385). -/
def State.freeBufs (hs : List (BitVec 24)) (s : State) : State := s.freeBufsOf UnitNo.qen hs

/-- BUFFER_FREE (R385). -/
def execBufferFree (h : BitVec 24) (by_ : Nat) (s : State) : Host.Outcome State Fault Refusal := .next (s.bufFree h by_)

/-- One buffer of a chain is freed, its NEXT read before that; the next one follows in the next tick (R385). A handle that names no held buffer of that generation ends the walk (notes/assumptions/51.md). -/
def State.chainStep (unit : Nat) (h : BitVec 24) (s : State) : State :=
  if h = noHandle then s
  else
    let next := (s.bpm.desc (hPool h) (hIdx h)).next
    if s.bpm.refusal h unit = none ∨ s.bpm.refusal h unit = some 3 then
      (s.bufFree h unit).modBpm fun b => { b with chains := if next = noHandle then b.chains else b.chains ++ [(unit, next)] }
    else s.bufFree h unit

/-- BUFFER_FREE_CHAIN (R385): the head goes in this tick. -/
def execBufferFreeChain (h : BitVec 24) (by_ : Nat) (s : State) : Host.Outcome State Fault Refusal := .next (s.chainStep by_ h)

/-- Each chain being freed loses one buffer more (R385). -/
def State.chainTick (s : State) : State :=
  s.bpm.chains.foldl (fun s c => s.chainStep c.1 c.2) (s.modBpm fun b => { b with chains := [] })

/-- POISON_BUFFER_CLEAN (R387): the buffer BPM has overwritten with zeros becomes free when it reads back clean, else RETIRED. -/
def execPoisonBufferClean (h : BitVec 24) (clean : Bool) (s : State) : Host.Outcome State Fault Refusal :=
  if s.bpm.cleaning.contains (bufKey (hPool h) (hIdx h)) then
    if clean then .next (s.releaseBuf (hPool h) (hIdx h)) else .next (s.retireBuf (hPool h) (hIdx h))
  else .next s

/-- RING_REFILL (R382): while the ring is less than half full it takes the lowest free index of the bitmap. -/
def execRingRefill (k : Nat) (s : State) : Host.Outcome State Fault Refusal :=
  if k < 5 ∧ 2 * (s.bpm.pool k).ring.length < s.bpm.ringDepth then
    match s.bpm.lowestFree k 0 (s.bpm.pool k).count with
    | some i => .next (s.modBpm fun b =>
        (b.putDesc k i { b.desc k i with state := .cached }).modPool k fun p => { p with ring := p.ring ++ [i] })
    | none => .next s
  else .next s

/-! ## Words of stage SRAM -/

/-- The buffer that holds a stage offset. -/
def Bpm.bufferAt (b : Bpm) (off : Nat) : Option (Nat × Nat) :=
  ((List.range 5).find? fun k => b.base k ≤ off && off < b.base k + (b.pool k).count * poolSize k).map
    fun k => (k, (off - b.base k) / poolSize k)

/-- Mark a word poisoned: the check pattern, and POISON of its buffer (R372). -/
def Bpm.poisonWord (b : Bpm) (off : Nat) : Bpm :=
  let w := off / 8 * 8
  let b := { b with poisoned := if b.poisoned.contains w then b.poisoned else w :: b.poisoned }
  match b.bufferAt off with
  | some (k, i) => if (b.desc k i).state == .held then b.putDesc k i { b.desc k i with poison := true } else b
  | none => b

/-- Write bytes to stage SRAM: a word written whole loses its mark, a word written in part keeps it (R372). -/
def Bpm.sramWrite (b : Bpm) (off : Nat) (bytes : List Byte) : Bpm :=
  { b with
    sram := Memory.writeAll 0 b.sram off bytes
    poisoned := b.poisoned.filter fun w => !(off ≤ w && w + 8 ≤ off + bytes.length) }

/-- SRAM_SCRUB (R371, R372, R374): up to 2 bits are corrected and counted, more poison the word. -/
def execSramScrub (off errBits : Nat) (s : State) : Host.Outcome State Fault Refusal :=
  if errBits = 0 then .next s
  else if errBits ≤ 2 then
    let s := s.count Fld.BPM_ECC_CNT.CORR 0 1
    match s.bpm.bufferAt off with
    | some (k, i) => .next (s.modBpm fun b => { b with corrected := Tbl.put b.corrected (bufKey k i) (Tbl.getD b.corrected (bufKey k i) 0 + 1) })
    | none => .next s
  else .next (((s.count Fld.BPM_ECC_CNT.UNCORR 0 1).modBpm fun b => b.poisonWord off).trigger 0x16 UnitNo.bpm 0 0)

/-- Pools as an entry to Stair, or a rebuild, leaves them: counts from POOL_COUNT (R378), every buffer that is not RETIRED FREE with GEN 0 (R389), retired ones kept (R388). -/
def State.rebuildPools (takeCounts : Bool) (s : State) : State :=
  let counts := if takeCounts then
      [s.obj Ob.POOL_COUNT_0, s.obj Ob.POOL_COUNT_1, s.obj Ob.POOL_COUNT_2, s.obj Ob.POOL_COUNT_3, s.obj Ob.POOL_COUNT_4]
    else s.bpm.pools.map Pool.count
  let depth := if takeCounts then s.obj Ob.RING_DEPTH else s.bpm.ringDepth
  let sets := if takeCounts then s.obj Ob.URGENT_RSV_SETS else s.bpm.urgentSets
  let rsv := fun k => match k with
    | 1 => 5 * sets
    | 2 => sets
    | 4 => s.spe.accBufs
    | _ => 0
  s.modBpm fun b => { b with
    pools := counts.mapIdx fun k n => { count := n, ring := [], waiters := [], rsvFree := rsv k }
    descs := b.descs.filterMap fun e => if e.2.state == .retired then some (e.1, { e.2 with owners := 0, gen := 0, charged := false }) else none
    ringDepth := depth, urgentSets := sets, sliceHeld := [], cleaning := [], freedNow := [], chains := [] }

end Sys2Proof.Machine
end

