-- ==== Sys2Proof/Machine/DirtyLog.lean ====
section
/-! DEFINITION. A slice's own state and its dirty log for live migration (spec/05, R150 to R153). -/

namespace Sys2Proof.Machine

/-- A slice that nothing has touched: empty buckets, an empty ring on its first pass (R151). -/
def SliceSt.initial : SliceSt :=
  { rd := 0, wr := 0, cmd := 0, belowRd := false, belowWr := false, belowCmd := false, servedRd := 0, servedWr := 0, servedCmd := 0
    quiesce := false, quiesced := false, removed := 0, reset := none, commitSts := 0, staged := [], dlogTail := 0, dlogPhase := true
    dlogWait := [], applyNext := [], applying := false }

/-- A slice's own state. -/
def Tnu.slice (t : Tnu) (n : Nat) : SliceSt := Tbl.getD t.slices n SliceSt.initial

/-- Change a slice's own state. -/
def State.modSlice (n : Nat) (f : SliceSt → SliceSt) (s : State) : State :=
  s.modTnu fun t => { t with slices := Tbl.put t.slices n (f (t.slice n)) }

/-- Bytes of the slice's ring (R151). -/
def State.ringBytes (s : State) (sl : Nat) : Nat := 2 ^ s.sliceObj Ob.DLOG_SIZE_LOG2 sl

/-- The ring has no room: one entry stays empty between tail and head (notes/assumptions/25.md). -/
def State.dlogFull (s : State) (sl : Nat) : Bool :=
  ((s.tnu.slice sl).dlogTail + 8) % s.ringBytes sl == s.sliceObj Ob.DLOG_HEAD sl % s.ringBytes sl

/-- The slice logs. -/
def State.dlogOn (s : State) (sl : Nat) : Bool := s.sliceObj Ob.DLOG_EN sl != 0

/-- The slice's host writes and sequence points stall (R153). -/
def State.dlogStalled (s : State) (sl : Nat) : Bool := s.dlogOn sl && ((s.tnu.slice sl).dlogWait != [] || s.dlogFull sl)

/-- Write one entry at the tail: the phase inverts on each wrap, the filter of 16,384 entries takes it (R151). -/
def State.dlogWrite (sl : Nat) (e : Dword) (s : State) : State :=
  let x := s.tnu.slice sl
  let tail := (x.dlogTail + 8) % s.ringBytes sl
  let s := s.emit (.dirtyEntry sl x.dlogTail (if x.dlogPhase then e ||| 1 else e))
  (s.modSlice sl fun y => { y with dlogTail := tail, dlogPhase := if tail = 0 then !y.dlogPhase else y.dlogPhase }).modTnu fun t =>
    { t with filter := ((sl, e) :: t.filter).take 16384 }

/-- Log a change (R150, R151): not when an equal entry was written since the epoch; it waits while the ring is full (R153). -/
def State.dlogEntry (sl : Nat) (e : Dword) (s : State) : State :=
  if s.dlogOn sl = false ∨ (sl, e) ∈ s.tnu.filter ∨ e ∈ (s.tnu.slice sl).dlogWait then s
  else if s.dlogStalled sl then s.modSlice sl fun y => { y with dlogWait := y.dlogWait ++ [e] }
  else s.dlogWrite sl e

/-- Entries that wait are written while the ring has room. -/
def State.dlogDrain (sl : Nat) : List Dword → State → State
  | [], s => s
  | e :: es, s =>
    if s.dlogFull sl then s
    else ((s.dlogWrite sl e).modSlice sl fun y => { y with dlogWait := es }).dlogDrain sl es

/-- Entries that wait go on in the tick after DLOG_HEAD has advanced (R17, R153). -/
def State.dlogTick (s : State) : State :=
  (s.tnu.slices.filter fun e => e.2.dlogWait != []).foldl (fun s e => s.dlogDrain e.1 e.2.dlogWait) s

/-- Entry of a host page (Table 5.3). -/
def pageEntry (page : Nat) : Dword := BitVec.ofNat 64 (2 ^ 12 * page + 2)

/-- Entry of an LBA extent (Table 5.3). -/
def extentEntry (nsid ext : Nat) : Dword := BitVec.ofNat 64 (2 ^ 54 * (nsid - 1) + 2 ^ 12 * (ext % 2 ^ 42) + 4)

/-- The extents that bytes [first, first + n) of a namespace touch (R150). -/
def State.logExtents (sl nsid first n : Nat) (s : State) : State :=
  if s.dlogOn sl ∧ n ≠ 0 then
    let size := 2 ^ s.sliceObj Ob.DLOG_EXT_SHIFT sl
    (List.range ((first + n - 1) / size + 1 - first / size)).foldl (fun s k => s.dlogEntry sl (extentEntry nsid (first / size + k))) s
  else s

end Sys2Proof.Machine
end

