-- ==== Sys2Proof/Machine/Pointers.lean ====
section
/-! DEFINITION. Submission queue entries as bytes, and the data pointers of commands (spec/04, Table 4.1): PRP entries and lists, SGL descriptors, and the host memory pieces that a transfer is made of (R64, R65). Layouts and status codes are those of NVMe Base 2.0 (notes/assumptions/10.md). -/

namespace Sys2Proof.Machine

/-- Statuses of NVMe for a bad data pointer: PRP Offset Invalid, SGL Descriptor Type Invalid, Data SGL Length Invalid. -/
def stPrpOffset := 0x013
def stSglType := 0x011
def stSglLength := 0x00F

/-- The submission queue entry in 64 bytes, as a little-endian number. -/
def Sqe.ofNat (v : Nat) : Sqe :=
  let dw := fun (k : Nat) => BitVec.ofNat 32 (v / 2 ^ (32 * k))
  { opcode := BitVec.ofNat 8 v, flags := BitVec.ofNat 8 (v / 2 ^ 8), cid := BitVec.ofNat 16 (v / 2 ^ 16), nsid := dw 1
    mptr := BitVec.ofNat 64 (v / 2 ^ 128), dptr := BitVec.ofNat 128 (v / 2 ^ 192)
    cdw10 := dw 10, cdw11 := dw 11, cdw12 := dw 12, cdw13 := dw 13, cdw14 := dw 14, cdw15 := dw 15 }

/-- The first `n` entries of the data of a fetch read. -/
def sqesOf (v : Nat) : Nat → List Sqe
  | 0 => []
  | n + 1 => Sqe.ofNat v :: sqesOf (v / 2 ^ 512) n

/-! ## Pointers -/

/-- What the pointers read so far give: a status other than 0 when they are refused, the parts in host memory, and what is still to be read. -/
structure Ptrs where
  status : Nat
  parts  : List (Option Nat × Nat)
  list   : Option PtrList
deriving DecidableEq, Repr, Inhabited

/-- Two PRP entries: the first part runs to the end of its memory page; the second entry is a page, or the address of a list. -/
def prpStart (page bytes p1 p2 : Nat) : Ptrs :=
  let n := min bytes (page - p1 % page)
  if p1 % 4 ≠ 0 then ⟨stPrpOffset, [], none⟩
  else if bytes ≤ n then ⟨0, [(some p1, bytes)], none⟩
  else if bytes - n ≤ page then (if p2 % page = 0 then ⟨0, [(some p1, n), (some p2, bytes - n)], none⟩ else ⟨stPrpOffset, [], none⟩)
  else if p2 % 8 = 0 then ⟨0, [(some p1, n)], some (.prp p2)⟩ else ⟨stPrpOffset, [], none⟩

/-- Entries of a PRP list from host address `a` on, for `left` bytes: the last entry of a list page points to the next list when one page does not end the transfer. -/
def prpTake (page : Nat) : Nat → Nat → List Nat → Ptrs
  | left, a, [] => ⟨0, [], if left = 0 then none else some (.prp a)⟩
  | left, a, e :: es =>
    if left = 0 then ⟨0, [], none⟩
    else if (a + 8) % page = 0 ∧ page < left then ⟨if e % 8 = 0 then 0 else stPrpOffset, [], some (.prp e)⟩
    else if e % page ≠ 0 then ⟨stPrpOffset, [], none⟩
    else
      let r := prpTake page (left - min left page) (a + 8) es
      { r with parts := (some e, min left page) :: r.parts }

/-- SGL descriptors of a segment, for `left` bytes; `wr`: the host sends, and a Bit Bucket takes nothing. A Segment or Last Segment descriptor leads on; the parts must reach the transfer's length. -/
def sglTake (wr : Bool) : Nat → List Nat → Ptrs
  | left, [] => ⟨if left = 0 then 0 else stSglLength, [], none⟩
  | left, d :: ds =>
    let addr := d % 2 ^ 64
    let len := bitsOf d 95 64
    match bitsOf d 127 124 with
    | 0 =>
      if addr % 4 ≠ 0 ∨ len % 4 ≠ 0 then ⟨stSglLength, [], none⟩
      else
        let r := sglTake wr (left - min left len) ds
        { r with parts := if min left len = 0 then r.parts else (some addr, min left len) :: r.parts }
    | 1 =>
      if wr then sglTake wr left ds
      else
        let r := sglTake wr (left - min left len) ds
        { r with parts := if min left len = 0 then r.parts else (none, min left len) :: r.parts }
    | 2 => if left = 0 then ⟨0, [], none⟩ else ⟨0, [], some (.sgl addr len false)⟩
    | 3 => if left = 0 then ⟨0, [], none⟩ else ⟨0, [], some (.sgl addr len true)⟩
    | _ => ⟨stSglType, [], none⟩

/-- The command takes its data from host memory; the others write theirs there. -/
def takesData (admin : Bool) (e : Sqe) : Bool := if admin then e.opcode == 0x09 else e.opcode != 0x02

/-- Bytes that an admin command moves (NVMe, notes/assumptions/10.md): Identify, Get Log Page, and the table of Autonomous Power State Transition. -/
def adminBytes (e : Sqe) : Nat :=
  if e.opcode = 0x06 then 4096
  else if e.opcode = 0x02 then 4 * (bitsOf e.cdw10.toNat 31 16 + 65536 * bitsOf e.cdw11.toNat 15 0 + 1)
  else if e.opcode = 0x09 ∧ bitsOf e.cdw10.toNat 7 0 = 0x0C then 256
  else 0

/-- The data pointer of a fetched command (PSDT, FLAGS bits 7 and 6). -/
def ptrStart (page bytes : Nat) (wr : Bool) (e : Sqe) : Ptrs :=
  match bitsOf e.flags.toNat 7 6 with
  | 0 => prpStart page bytes (e.dptr.toNat % 2 ^ 64) (e.dptr.toNat / 2 ^ 64)
  | 1 | 2 => sglTake wr bytes [e.dptr.toNat]
  | _ => ⟨0x002, [], none⟩

/-- Numbers of `size` bytes each in data. -/
def numbersOf (size : Nat) (v : Nat) : Nat → List Nat
  | 0 => []
  | n + 1 => v % 256 ^ size :: numbersOf size (v / 256 ^ size) n

/-- Bytes of a transfer whose place is known. -/
def partBytes (ps : List (Option Nat × Nat)) : Nat := ps.foldl (fun n p => n + p.2) 0

/-- `len` bytes of a list have been read: PRP entries, or descriptors of an SGL segment; a segment not read to its end goes on. -/
def PtrList.take (page left len : Nat) (wr : Bool) (data : Nat) : PtrList → Ptrs
  | .prp a => prpTake page left a (numbersOf 8 data (len / 8))
  | .sgl a n last =>
    if n ≤ len then sglTake wr left (numbersOf 16 data (n / 16))
    else
      let r := sglTake wr left (numbersOf 16 data (len / 16))
      if r.status = stSglLength ∧ r.list = none then ⟨0, r.parts, some (.sgl (a + len) (n - len) last)⟩ else r

/-- The next read of a list: its address and length, at most `u` bytes and no page boundary within (R65). -/
def PtrList.next (page left u : Nat) : PtrList → Nat × Nat
  | .prp a => (a, min (min u (page - a % page)) (8 * ((left + page - 1) / page)))
  | .sgl a n _ => (a, min n (min u (4096 - a % 4096)))

/-! ## Pieces -/

/-- Cut `len` bytes at an address into pieces of at most `u` bytes that cross no 4 KiB boundary: offset in the transfer, address, bytes. -/
def cutPieces (u : Nat) : Nat → Nat → Nat → Nat → List (Nat × Nat × Nat)
  | 0, _, _, _ => []
  | fuel + 1, off, addr, len =>
    if len = 0 then []
    else
      let n := min len (max 1 (min u (4096 - addr % 4096)))
      (off, addr, n) :: cutPieces u fuel (off + n) (addr + n) (len - n)

/-- The pieces of a transfer's parts, in order; a Bit Bucket has none. -/
def partPieces (u : Nat) : Nat → List (Option Nat × Nat) → List (Nat × Nat × Nat)
  | _, [] => []
  | off, (some a, n) :: ps => cutPieces u n off a n ++ partPieces u (off + n) ps
  | off, (none, n) :: ps => partPieces u (off + n) ps

/-- Completion data of at most MPS, split at 64 B Read Completion Boundaries (R65). -/
def rcbPieces (mps addr : Nat) : Nat → List Byte → List (List Byte)
  | 0, _ => []
  | fuel + 1, bs =>
    if bs.isEmpty then []
    else
      let n := max 1 (mps - addr % 64)
      bs.take n :: rcbPieces mps (addr + n) fuel (bs.drop n)

/-- The memory page size of a controller (CC.MPS). -/
def Controller.page (k : Controller) : Nat := 2 ^ (12 + k.mps)

/-- Answer an inbound read with its data: completions of at most MPS split at RCBs (R65); poisoned ones carry EP and are counted (R84). -/
def State.completeRead (kind : CplKind) (addr : Nat) (data : List Byte) (s : State) : State :=
  (rcbPieces s.hlu.mps addr data.length data).foldl (fun s b =>
    let s := s.emit (.tlpCompletion kind b s.hlu.ecrcGen)
    let s := s.modHlu fun h => { h with txNow := h.txNow + b.length }
    if kind = .poisoned then s.count Fld.HLU_POISON_CNT.OUTBOUND 0 1 else s) s

/-- Answer an inbound request without data. -/
def State.complete (kind : CplKind) (s : State) : State := s.emit (.tlpCompletion kind [] s.hlu.ecrcGen)

end Sys2Proof.Machine
end

