-- ==== Sys2Proof/Machine/Tags.lean ====
section
/-! DEFINITION. Requests of the host link (spec/03, spec/05): the slices and queue numbers they count for, errors under AER, tags and the bounds of R71, translation (R76, R77), and the issue of reads of host memory. -/

namespace Sys2Proof.Machine

/-! ## Slices -/

/-- Slices with an object that differs from its default, and slice 0. -/
def State.sliceIds (s : State) : List Nat :=
  (0 :: s.sheet.filterMap fun e => if 0x8001 ≤ e.1 / 256 ∧ e.1 / 256 < 0x8400 then some (e.1 / 256 - 0x8000) else none).eraseDups

/-- The slice is bound (R132, R134; notes/assumptions/26.md): slice 0, or one that names a function, a PASID or queues. -/
def State.bound (s : State) (n : Nat) : Bool :=
  n == 0 || s.sliceObj Ob.FUNC n != 0 || s.sliceObj Ob.PASID_VALID n != 0 || s.sliceObj Ob.QCOUNT n != 0

/-- The slice belongs to the function. -/
def State.sliceOn (s : State) (n fn : Nat) : Bool := s.bound n && s.sliceObj Ob.FUNC n == fn

/-- The function slice of a function (R133). -/
def State.functionSlice (s : State) (fn : Nat) : Option Nat :=
  s.sliceIds.find? fun n => s.sliceOn n fn && s.sliceObj Ob.PASID_VALID n == 0

/-- The PASID of a slice, if it is bound with one. -/
def State.slicePasid (s : State) (n : Nat) : Option Nat := if s.sliceObj Ob.PASID_VALID n = 0 then none else some (s.sliceObj Ob.PASID n)

/-- The slice on PF0 whose queue range holds a device-wide number. DESIGN CHOICE (notes/assumptions/49.md): a number in the range of a slice bound to a VF is no queue of PF0. -/
def State.rangeOwner (s : State) (n : Nat) : Option Nat :=
  s.sliceIds.find? fun sl => s.sliceOn sl 0 && decide (s.sliceObj Ob.QBASE sl ≤ n) && decide (n < s.sliceObj Ob.QBASE sl + s.sliceObj Ob.QCOUNT sl)

/-- The device-wide number and slice of a function's I/O queue identifier (R135). -/
def State.queueNo (s : State) (fn qid : Nat) : Option (Nat × Nat) :=
  if qid = 0 then none
  else if fn = 0 then
    if 4095 < qid then none else (s.rangeOwner (qid - 1)).map fun sl => (qid - 1, sl)
  else (s.functionSlice fn).bind fun sl =>
    if qid ≤ s.sliceObj Ob.QCOUNT sl then some (s.sliceObj Ob.QBASE sl + qid - 1, sl) else none

/-- Key of a function's queue: admin queues from 4,096 on. -/
def State.queueKey (s : State) (fn qid : Nat) : Option Nat := if qid = 0 then some (4096 + fn) else (s.queueNo fn qid).map Prod.fst

/-- Contexts of a slice (CTX_ALLOC), those freed in this tick included (R16). -/
def Qen.sliceAlloc (q : Qen) (sl : Nat) : Nat :=
  (q.ctxs.filter fun e => !e.2.admin && e.2.slice == sl).length + (q.freed.filter fun e => !e.2.admin && e.2.slice == sl).length

/-- A bucket of the slice is below zero (R143). -/
def State.tokensHeld (s : State) (sl : Nat) : Bool :=
  let x := s.tnu.slice sl
  (decide (x.rd < 0) && s.sliceObj Ob.RD_MBPS sl != 0) || (decide (x.wr < 0) && s.sliceObj Ob.WR_MBPS sl != 0)
    || (decide (x.cmd < 0) && s.sliceObj Ob.CMD_KIOPS sl != 0)

/-- Slices with a floor not yet reached are served first (R144). -/
def State.below (s : State) (sl : Nat) : Bool :=
  (s.tnu.slice sl).belowRd || (s.tnu.slice sl).belowWr || (s.tnu.slice sl).belowCmd

/-! ## Tags (R71 to R74) -/

/-- The PCIe tag space (R71). -/
def Hlu.tagSpace (h : Hlu) : Nat := if h.flit then 2048 else if h.tag10 then 768 else 256

/-- The device-wide bound of R71. -/
def State.npBound (s : State) : Nat := min 2048 (min (s.obj Ob.NP_LIMIT) s.hlu.tagSpace)

/-- Non-posted requests outstanding: tags in use but those held out of use. -/
def Hlu.outstanding (h : Hlu) : Nat := (h.tags.filter fun t => t.2.phase != .held).length

/-- Outstanding requests of a slice. -/
def Hlu.sliceNp (h : Hlu) (sl : Nat) : Nat := (h.tags.filter fun t => t.2.phase != .held && t.2.slice == sl).length

/-- Reserved requests that the other slices do not use (Table 5.1). -/
def State.npReserved (s : State) (sl : Nat) : Nat :=
  (s.sliceIds.filter (· != sl)).foldl (fun n k => n + (s.sliceObj Ob.NP_RSV k - s.hlu.sliceNp k)) 0

/-- The slice may issue one more non-posted request (R71, R74); 1,024 stands for no slice: admin work, under the device-wide bound alone. -/
def State.npMay (s : State) (sl : Nat) : Bool :=
  (decide (1024 ≤ sl) || decide (s.hlu.sliceNp sl < s.sliceObj Ob.NP_MAX sl))
    && decide (s.hlu.outstanding + s.hlu.freedTags.length < s.npBound)
    && ((decide (sl < 1024) && decide (s.hlu.sliceNp sl < s.sliceObj Ob.NP_RSV sl)) || decide (s.hlu.outstanding + s.hlu.freedTags.length + s.npReserved sl < s.npBound))

/-- The first number from `i` on, among `fuel`, that is not taken. -/
def firstFree (taken : Nat → Bool) : Nat → Nat → Option Nat
  | _, 0 => none
  | i, fuel + 1 => if taken i then firstFree taken (i + 1) fuel else some i

/-- The tag of the next request: the lowest that is neither in use nor freed in this tick (R73). -/
def State.nextTag (s : State) : Option Nat :=
  firstFree (fun t => Tbl.has s.hlu.tags t || s.hlu.freedTags.contains t) 0 s.hlu.tagSpace

/-! ## Errors -/

/-- An error logged under AER and signalled with its severity (R83); an uncorrectable one is a recorder trigger. -/
def State.aerLog (e : AerError) (s : State) : State :=
  let s := (s.modHlu fun h => { h with aer := e :: h.aer }).emit (.aer e e.severity)
  match e.severity with
  | .fatal | .nonFatal => s.trigger 0x04 UnitNo.hlu 0 0
  | .advisory | .correctable => s

/-- A request that is an Unsupported Request: discarded, with a UR completion when it is non-posted (Table 3.4). -/
def State.urTlp (np : Bool) (s : State) : State :=
  if np then (s.aerLog .unsupported).complete .ur else s.aerLog .unsupported

/-! ## Translation (R76, R77) -/

/-- The function's configuration. -/
def Hlu.fn (h : Hlu) (fn : Nat) : FnCfg := Tbl.getD h.fns fn default

/-- The PASID that a slice's requests carry (R134, R148); admin work, slice 1,024, has none. -/
def State.dmaPasid (s : State) (sl : Nat) : Option Nat := if 1024 ≤ sl then none else s.slicePasid sl

/-- The translation cache holds a page (R76). -/
def Hlu.translated (h : Hlu) (fn : Nat) (pasid : Option Nat) (page : Nat) : Bool :=
  h.atc.any fun e => e.fn == fn && e.pasid == pasid && e.page == page

/-- A translation request for the page is outstanding. -/
def Hlu.translating (h : Hlu) (fn : Nat) (pasid : Option Nat) (page : Nat) : Bool :=
  h.tags.any fun t => t.2.phase == .outstanding && t.2.fn == fn && t.2.use == .ats pasid page

/-- A request to the page may be issued: ATS is off, the page is translated, or it goes untranslated (R77). -/
def Hlu.pageOk (h : Hlu) (fn : Nat) (pasid : Option Nat) (page : Nat) (untranslated : Bool) : Bool :=
  !(h.fn fn).ats || untranslated || h.translated fn pasid page

/-- The link carries requests: it is up, and not in L1. -/
def Hlu.ready (h : Hlu) : Bool := h.up && h.power != .l1 && h.power != .l11 && h.power != .l12

/-- Put a non-posted request on the link. -/
def State.issueTag (t : Nat) (use : TagUse) (fn sl : Nat) (untranslated : Bool) (s : State) : State :=
  let tag : Tag := { use := use, fn := fn, slice := sl, phase := .outstanding, since := s.now, untranslated := untranslated }
  s.modHlu fun h => { h with tags := Tbl.put h.tags t tag }

/-- Ask for the translation of a page, unless it has been asked for or no request may be issued. -/
def State.askPage (fn sl page : Nat) (s : State) : State :=
  if s.hlu.translating fn (s.dmaPasid sl) page ∨ s.hlu.ready = false ∨ s.npMay sl = false then s
  else
    match s.nextTag with
    | some t => (s.issueTag t (.ats (s.dmaPasid sl) page) fn sl false).emit (.atsRequest t fn (s.dmaPasid sl) page)
    | none => s

/-! ## Reads of host memory for commands -/

/-- The slice an I/O context counts for; 1,024 for an admin context. -/
def Ctx.chargedTo (x : Ctx) : Nat := if x.admin then 1024 else x.slice

/-- Keep a read waiting. -/
def State.dmaWait (d : DmaReq) (s : State) : State := s.modHlu fun h => { h with dmaQueue := h.dmaQueue ++ [d] }

/-- What a read is for, as its tag says. -/
def DmaReq.use (d : DmaReq) : TagUse := if d.list then .list d.c d.len else .data d.c d.off d.len

/-- Issue one read, or let it wait: for its function (R86), for a request slot (R72), for its translation (R77). -/
def State.dmaTry (s : State) (d : DmaReq) : State :=
  match Tbl.find? s.qen.ctxs d.c with
  | none => s
  | some x =>
    if x.bmeStall then s.dmaWait d
    else if s.hlu.pageOk x.fn (s.dmaPasid x.chargedTo) (d.addr / 4096) d.untranslated then
      if s.hlu.ready = false ∨ s.npMay x.chargedTo = false then s.dmaWait d
      else
        match s.nextTag with
        | some t => (s.issueTag t d.use x.fn x.chargedTo d.untranslated).emit (.memRead t x.fn (s.dmaPasid x.chargedTo) d.addr d.len)
        | none => s.dmaWait d
    else (s.askPage x.fn x.chargedTo (d.addr / 4096)).dmaWait d

/-- Reads are issued in arrival order; those that must wait keep their order (R72, R74, R86). -/
def State.dmaIssue (s : State) : State := s.hlu.dmaQueue.foldl State.dmaTry (s.modHlu fun h => { h with dmaQueue := [] })

/-- The next read of a command's PRP or SGL list waits to be issued. -/
def State.askList (c : Nat) (s : State) : State :=
  match Tbl.find? s.qen.ctxs c with
  | some x =>
    match x.list with
    | some l =>
      let r := l.next (s.qen.ctrl x.fn).page (x.bytes - partBytes x.parts) (max 1 (min s.hlu.mrrs 512))
      s.dmaWait { c := c, off := 0, len := r.2, addr := r.1, list := true, untranslated := false }
    | none => s
  | none => s

/-- A part of a command's list has been read (R71): its parts are known, and the rest is asked for. A bad list fixes the status that the command will end with. -/
def State.listArrives (c len data : Nat) (s : State) : State :=
  match Tbl.find? s.qen.ctxs c with
  | some x =>
    match x.list with
    | some l =>
      let r := l.take (s.qen.ctrl x.fn).page (x.bytes - partBytes x.parts) len (takesData x.admin x.sqe) data
      (s.modCtx c fun y => { y with
        parts := y.parts ++ r.parts, list := if r.status = 0 then r.list else none, status := if y.status = 0 then r.status else y.status }).askList c
    | none => s
  | none => s

end Sys2Proof.Machine
end

