-- ==== Sys2Proof/Machine/Placement.lean ====
section
/-! DEFINITION. What the write path, the read path and the codec share: journal records (Table 7.7), merges under granule locks (R195), the slots of a complete granule and of a copy job (R193, R204), and a read's progress (R95, R306, R343). -/

namespace Sys2Proof.Machine

/-! ## Journal -/

/-- A record enters the journal buffer (Table 7.7); its first record starts the flush time (R199). -/
def State.journal (r : JournalRecord) (s : State) : State :=
  s.modMxe fun m => { m with jbuf := m.jbuf ++ [r], jfirst := some (m.jfirst.getD s.now) }

/-- The record of a delta (Table 7.7). -/
def Delta.record (d : Delta) : JournalRecord :=
  { kind := d.kind, dsn := d.dsn, value := d.value, count := d.count, index := d.index, nsid := d.nsid, owner := d.owner }

/-- An entry becomes LOST (R189, R289, R342): recorded, and its range logged. -/
def State.loseEntry (nsid g cause : Nat) (s : State) : State :=
  let s := (s.setEntry nsid g MapEntry.lost).journal
    { kind := 2, dsn := 0, value := MapEntry.lost, count := 1, index := g, nsid := nsid, owner := 0 }
  match s.mxe.ns? nsid with
  | some n => s.lostAdd nsid (n.granLbas g 1).1 (n.granLbas g 1).2 cause
  | none => s

/-! ## Host granules -/

/-- Content of a key slot for a data unit whose cipher operation starts now (R303): in the tick in which an operation ends, the old one. -/
def Cdx.keyNow (c : Cdx) (slot : Nat) : Option Nat := (Tbl.find? c.keyPrev slot).getD (Tbl.find? c.keys slot)

/-- Content of the namespace's key slot, if it has any (R300). -/
def State.nsKey (s : State) (n : Namespace) : Option Nat := s.cdx.keyNow n.keySlot

/-- The slots of a complete host granule (R193), with LOSTFILL where a merge found a lost slot. -/
def State.granulePlaces (s : State) (f : InFlight) (n : Namespace) (lost : List Nat) : List PlaceSlot :=
  (List.range n.spg).map fun k =>
    { src := .host f.ctx, nsid := f.nsid, slotNo := f.index * n.spg + k, dsn := f.dsn, kind := f.kind, slice := n.slice, qlc := n.qlc
      data := ((f.slots.find? fun x => x.1 == k).map Prod.snd).getD 0, key := s.nsKey n
      stage := (f.stages.find? fun x => x.1 == k).map Prod.snd, goff := k, gsize := n.gsize, lostFill := lost.contains k, poison := false
      cls := f.cls }

/-- The same entry of the in-flight table. -/
def InFlight.is (f : InFlight) (nsid g dsn : Nat) : Bool := f.nsid == nsid && f.index == g && f.dsn == dsn

/-- A complete granule goes to placement. -/
def State.placeGranule (nsid g dsn : Nat) (lost : List Nat) (s : State) : State :=
  match s.mxe.inflight.find? fun f => f.is nsid g dsn, s.mxe.ns? nsid with
  | some f, some n => s.modMxe fun m => { m with
      place := m.place ++ s.granulePlaces f n lost
      inflight := m.inflight.map fun x => if x.is nsid g dsn then { x with pend := n.spg } else x }
  | _, _ => s

/-! ## Merges (R195) -/

/-- Bytes [first, first + n) of a slot as a mask. -/
def byteMask (first n : Nat) : SlotData := BitVec.ofNat 32768 ((2 ^ (8 * n) - 1) * 2 ^ (8 * first))

/-- The write's bytes of a slot over the old slot (R301). -/
def LockHold.over (l : LockHold) (k : Nat) (old : SlotData) : SlotData :=
  (l.part.filter fun p => p.1 == k).foldl (fun d p => (d &&& ~~~(byteMask p.2.1 p.2.2.1)) ||| (p.2.2.2 &&& byteMask p.2.1 p.2.2.1)) old

/-- The same lock. -/
def LockHold.is (l : LockHold) (nsid g dsn : Nat) : Bool := l.nsid == nsid && l.index == g && l.dsn == dsn

/-- One slot of a merge has been read: it joins the write's data; the last one completes the granule. -/
def State.mergeSlot (nsid g dsn k : Nat) (old : SlotData) (lost : Bool) (s : State) : State :=
  match s.mxe.locks.find? fun l => l.is nsid g dsn with
  | some l =>
    let d := l.over k (if lost then 0 else old)
    let l' := { l with need := l.need.filter (· != k), part := l.part.filter (fun p => p.1 != k), lost := if lost then k :: l.lost else l.lost }
    let s := s.modMxe fun m => { m with
      locks := m.locks.map fun x => if x.is nsid g dsn then l' else x
      inflight := m.inflight.map fun f => if f.is nsid g dsn then { f with slots := f.slots ++ [(k, d)] } else f }
    if l'.need.isEmpty then s.placeGranule nsid g dsn l'.lost else s
  | none => s

/-- Slots of a merge that need no NAND read (R195, R196): an earlier write in flight holds them in its stage buffers; unmapped ones are zeros, lost ones are filled. -/
def State.mergeKnown (l : LockHold) (s : State) : State :=
  match s.mxe.ns? l.nsid with
  | some n => l.need.foldl (fun s k =>
      match s.mxe.stageBefore l.nsid l.index k l.dsn with
      | some d => s.mergeSlot l.nsid l.index l.dsn k d false
      | none =>
        match if l.base.isSome then .wait else s.mxe.mapSource n l.nsid l.index k with
        | .zeros => s.mergeSlot l.nsid l.index l.dsn k 0 false
        | .lost => s.mergeSlot l.nsid l.index l.dsn k 0 true
        | .stage _ | .nand _ | .wait => s) s
  | none => s

/-- The oldest holder of each granule reads: the map commit of the holders before it is past (R195). -/
def Mxe.startLocks : List (Nat × Nat) → List LockHold → List LockHold
  | _, [] => []
  | seen, l :: t => { l with reading := l.reading || !seen.contains (l.nsid, l.index) } :: Mxe.startLocks ((l.nsid, l.index) :: seen) t

/-- A lock that reads fixes the location of the granule's old content (R195), once its segment is loaded and the entry is trusted. -/
def Mxe.lockBase (m : Mxe) (l : LockHold) : LockHold :=
  let e := m.entry l.nsid l.index
  if l.reading ∧ l.base = none ∧ e.located = true ∧ m.unloaded.contains (segKey l.nsid l.index) = false then { l with base := some e.loc } else l

/-- Locks move on. -/
def State.lockStart (s : State) : State :=
  let s := s.modMxe fun m => { m with locks := (Mxe.startLocks [] m.locks).map m.lockBase }
  (s.mxe.locks.filter fun l => l.reading && !l.need.isEmpty).foldl (fun s l => s.mergeKnown l) s

/-! ## Copy jobs -/

/-- The slots of a copy job: ciphertext and LOSTFILL unchanged, the source's DSN (R187, R204, R300), in the job's class (R216, R291, R292). -/
def CopyJob.places (j : CopyJob) (num : Nat) (n : Namespace) (high : Bool) : List PlaceSlot :=
  (List.range n.spg).map fun k =>
    let d := (j.got.find? fun x => x.off == k).getD default
    { src := .copy num, nsid := j.nsid, slotNo := j.index * n.spg + k, dsn := j.dsn, kind := .gc, slice := n.slice, qlc := n.qlc
      data := d.data, key := d.key, stage := d.stage, goff := k, gsize := n.gsize, lostFill := d.lostFill, poison := false
      cls := if high then .high else j.cls }

/-- Slots of a copy job that programs still carry: those of an abandoned copy (R310). -/
def Dsc.jobOut (d : Dsc) (num : Nat) : Nat := d.ops.foldl (fun n e => n + (e.2.slots.filter fun y => y.src == .copy num).length) 0

/-- Take a chain of buffers at once; none while one of them must wait (R380, R383, R384). -/
def State.takeBufs (unit : Nat) (sl : Option Nat) : List Nat → Option (BitVec 24) → State → Option (State × List (BitVec 24))
  | [], _, s => some (s, [])
  | n :: ns, prev, s =>
    if (s.bpm.pool (poolFor n)).waiters ≠ [] then none
    else
      match s.servingPool n with
      | some k =>
        if s.chargeOk sl k = false then none
        else match s.bpm.nextIndex k with
        | some i =>
          let s := s.grantFrom k { unit := unit, size := n, slice := sl, urgent := false, prev := prev, tick := s.now, ord := s.bpm.ord }
          (s.takeBufs unit sl ns (some (s.bpm.handle k i))).map fun r => (r.1, s.bpm.handle k i :: r.2)
        | none => none
      | none => none

/-- An Urgent read takes a chain of `n` buffers of pool `k` from the reservation of Table 13.2 (R381); none while it has too few. -/
def State.takeReserved (unit : Nat) (sl : Option Nat) (k : Nat) : Nat → Option (BitVec 24) → State → Option (State × List (BitVec 24))
  | 0, _, s => some (s, [])
  | n + 1, prev, s =>
    if (s.bpm.pool k).rsvFree = 0 ∨ s.chargeOk sl k = false then none
    else
      match s.bpm.nextIndex k with
      | some i =>
        let s := s.grantReserved k { unit := unit, size := poolSize k, slice := sl, urgent := true, prev := prev, tick := s.now, ord := s.bpm.ord }
        (s.takeReserved unit sl k n (some (s.bpm.handle k i))).map fun r => (r.1, s.bpm.handle k i :: r.2)
      | none => none

/-- The raw frame of one slot: a chain of five 1 KiB buffers (Table 13.2); an Urgent read that finds none free takes them from the reservation (R381). -/
def State.takeSet (urgent : Bool) (s : State) : Option (State × List (BitVec 24)) :=
  match s.takeBufs UnitNo.cdx none (List.replicate 5 1024) none with
  | some r => some r
  | none => if urgent then s.takeReserved UnitNo.cdx none 1 5 none else none

/-- Raw frames for the codewords of a read; none while a buffer is wanting. -/
def State.takeFrames (urgent : Bool) : List (Loc × Bool) → State → Option State
  | [], s => some s
  | f :: fs, s =>
    match s.takeSet urgent with
    | some (t, hs) => (t.modCdx fun c => { c with raw := c.raw ++ hs.map fun h => (f.1, f.2, h) }).takeFrames urgent fs
    | none => none

/-- A codeword's raw frame is still wanted: it waits or is decoded, its climb goes on, or its read is on the channel. -/
def State.rawHeld (s : State) (l : Loc) (v : Bool) : Bool :=
  s.cdx.frames.any (fun f => f.loc == l && (f.eng == .verify) == v) || (!v && s.cdx.climb.any fun e => e.loc == l)
    || s.fca.xfers.any fun x => x.begun && x.op.raws.contains (l, v)

/-- Raw frames that are done go back. -/
def State.sweepRaw (s : State) : State :=
  let gone := fun (e : Loc × Bool × BitVec 24) => !s.rawHeld e.1 e.2.1
  (s.freeBufsOf UnitNo.cdx ((s.cdx.raw.filter gone).map fun e => e.2.2)).modCdx fun c => { c with raw := c.raw.filter fun e => !gone e }

/-! ## Data on the channels (R234) -/

/-- A transfer can move: it has its raw frames, or can have them. -/
def State.xferMay (s : State) (x : Xfer) : Bool := x.begun || (s.takeFrames (x.op.eff == .urgent) x.op.raws).isSome

/-- The transfer that takes a channel next: only an Urgent one once the cap's bytes are used up (R230). -/
def State.nextXfer (s : State) (ch : Nat) : Option Xfer :=
  (s.fca.xfers.filter fun x => chOf x.op.req.die == ch && (x.op.eff == .urgent || !s.capped || decide (0 < s.dsc.chBytes)) && s.xferMay x).foldl
    (fun b x => match b with | some y => if x.before y then some x else b | none => some x) none

/-- A transfer takes its raw frames at its start (R381). -/
def State.xferFrames (x : Xfer) (s : State) : State :=
  if x.begun then s
  else
    match s.takeFrames (x.op.eff == .urgent) x.op.raws with
    | some t => t
    | none => s

/-- One piece of at most CHUNK_KIB moves on a channel (R234). -/
def State.xferPiece (s : State) (ch : Nat) : State :=
  match s.nextXfer ch with
  | some x =>
    let n := min x.left (1024 * s.obj Ob.CHUNK_KIB)
    let s := (s.xferFrames x).takeBytes n
    if x.left ≤ n then (s.modFca fun f => { f with xfers := f.xfers.erase x }).readLands x.op
    else s.modFca fun f => { f with xfers := f.xfers.map fun y => if y = x then { y with left := y.left - n, begun := true } else y }
  | none => s

/-- A piece on each channel that has data to move; none in a cut gap (R264). -/
def State.xferTick (s : State) : State :=
  if s.fca.gapHeld then s else (s.fca.xfers.map fun x => chOf x.op.req.die).eraseDups.foldl State.xferPiece s

/-! ## Buffers of copies -/

/-- The 16 KiB buffer of no slice for a page of a copy (Table 13.2), taken for its first slot. -/
def State.copyBuf (num p : Nat) (s : State) : Option (State × BitVec 24) :=
  match s.mxe.jobBufs.find? fun e => e.1 == (num, p) with
  | some e => some (s, e.2)
  | none =>
    match s.takeBufs UnitNo.mxe none [16384] none with
    | some (t, h :: _) => some (t.modMxe fun m => { m with jobBufs := m.jobBufs ++ [((num, p), h)] }, h)
    | some (_, []) | none => none

/-- Decoded slot `k` of a copy goes into its page's buffer. -/
def State.copyStage (num k : Nat) (d : SlotData) (s : State) : State × Option Nat :=
  match s.copyBuf num (k / 4) with
  | some (t, h) =>
    let o := t.bpm.offset (hPool h) (hIdx h) + 4096 * (k % 4)
    (t.modBpm fun b => b.sramWrite o (leBytes 4096 d.toNat), some o)
  | none => (s, none)

/-- Buffers of copies whose slots are placed for good, or whose job is gone, go back. -/
def State.sweepJobBufs (s : State) : State :=
  let gone := fun (e : (Nat × Nat) × BitVec 24) => (Tbl.find? s.mxe.jobs e.1.1).all CopyJob.done
  (s.freeBufsOf UnitNo.mxe ((s.mxe.jobBufs.filter gone).map Prod.snd)).modMxe fun m => { m with jobBufs := m.jobBufs.filter fun e => !gone e }

/-- One slot of a job's source has been read; the last one sends the granule to placement. -/
def State.jobSlot (num k : Nat) (c : SlotCell) (s : State) : State :=
  let (s, a) := s.copyStage num k c.data
  match Tbl.find? s.mxe.jobs num with
  | some j =>
    match s.mxe.ns? j.nsid with
    | some n =>
      let j' := { j with got := j.got ++ [{ off := k, data := c.data, key := c.key, lostFill := c.hdr.lostFill, stage := a }], dsn := c.hdr.dsn }
      if n.spg ≤ j'.got.length then
        let out := s.dsc.jobOut num
        s.modMxe fun m => { m with
          jobs := Tbl.put m.jobs num { j' with placed := true, pend := n.spg + out }, place := m.place ++ j'.places num n (s.jobHigh j) }
      else s.modMxe fun m => { m with jobs := Tbl.put m.jobs num j' }
    | none => s
  | none => s

/-- A relocation whose data is at hand (R262, R291): every slot of the granule as NAND holds it. -/
def State.relocateNow (nsid g : Nat) (src : Loc) (high : Bool) (s : State) : State :=
  if s.mxe.hasJob nsid g src then s
  else
    let num := s.mxe.nextJob
    let s := s.relocate nsid g src .gc high
    (List.range (s.mxe.spgOf nsid)).foldl (fun s k =>
      match s.mxe.cell (slotLoc src (s.mxe.spgOf nsid) k) with
      | some c => s.jobSlot num k c
      | none => s) s

/-! ## Reads -/

/-- Statuses (SCT × 256 + SC) of a slot's end. -/
def stUnrecovered := 0x281
def stDenied := 0x286
def stWriteFault := 0x280
def stDataTransfer := 0x004
def stWriteProtected := 0x020
def stLbaRange := 0x080
def stAborted := 0x007
def stSqDeleted := 0x008
def stInvalidOpcode := 0x001
def stInvalidField := 0x002
def stInvalidNs := 0x00B

/-- Free a context (R16): POSTED when its result was final, SQUASHED when a reset drops it; its number can be used again from the next tick. Nothing waits for it any more. -/
def State.freeCtx (c : Nat) (s : State) : State :=
  match Tbl.find? s.qen.ctxs c with
  | some x => s.modQen fun q => { q with
      ctxs := Tbl.del q.ctxs c
      freed := (c, { x with state := if x.state = .ready then .posted else .squashed }) :: q.freed
      psPost := q.psPost.filter (· != c)
      psWaiting := q.psWaiting.filter fun r => r.ctx != some c
      entryPend := q.entryPend.map fun r => if r.ctx = some c then { r with ctx := none } else r
      actCtx := if q.actCtx = some c then none else q.actCtx }
  | none => s

/-- Bytes of the slots read, in order. -/
def Ctx.slotBytes (x : Ctx) : List Byte := x.work.flatMap fun w => leBytes 4096 ((w.data.getD 0).toNat)

/-- The 64 B pieces of a mask, as a mask of a slot's bytes. -/
def pieceMask (m : BitVec 64) : SlotData :=
  BitVec.ofNat 32768 ((List.range 64).foldl (fun n k => if m.getLsbD k then n + (2 ^ 512 - 1) * 2 ^ (512 * k) else n) 0)

/-- `new` where its pieces are written, else `old`. -/
def overPieces (old new : SlotData) (m : BitVec 64) : SlotData := (old &&& ~~~(pieceMask m)) ||| (new &&& pieceMask m)

/-- A slot with the staged bytes that a Gallery read found over it (R170). -/
def Ctx.overSlot (x : Ctx) (w : SlotWork) : SlotWork :=
  { w with data := some ((x.overlay.filter fun o => o.1 == w.slotNo).foldl (fun d o => overPieces d o.2.1 o.2.2) (w.data.getD 0)) }

/-- Data of a read may go to the host: its function's Bus Master Enable is set (R86), the link is up, and its slice's dirty log has room (R153). -/
def State.dataMayGo (s : State) (x : Ctx) : Bool := !x.bmeStall && s.hlu.ready && !s.dlogStalled x.slice

/-- The first byte of a command's LBA range within its first slot. -/
def State.slotSkip (s : State) (x : Ctx) : Nat :=
  match s.mxe.ns? x.sqe.nsid.toNat with
  | some n => (x.sqe.cdw10.toNat + 2 ^ 32 * x.sqe.cdw11.toNat) * n.lbaBytes % 4096
  | none => 0

/-- The word of stage SRAM at an offset is poisoned (R372). -/
def Bpm.wordBad (b : Bpm) (o : Nat) : Bool := b.poisoned.contains (o / 8 * 8)

/-- Bytes [first, first + n) of a read's slots lie in poisoned words of their stage buffers (R83). -/
def State.dataPoisoned (s : State) (x : Ctx) (first n : Nat) : Bool :=
  x.work.zipIdx.any fun w =>
    match w.1.buf with
    | some h => (s.bpm.poisonIn (hPool h) (hIdx h)).any fun o =>
        let at_ := 4096 * w.2 + (o - s.bpm.offset (hPool h) (hIdx h))
        decide (at_ < first + n) && decide (first < at_ + 8)
    | none => false

/-- One piece of a read's data on the link (R64, R83, R84, R152): its page is logged, poisoned data goes with EP and fixes the status. -/
def State.sendPiece (c : Nat) (x : Ctx) (p : Nat × Nat × Nat) (s : State) : State :=
  let first := s.slotSkip x + p.1
  let bad := s.dataPoisoned x first p.2.2
  let s := s.dlogEntry x.slice (pageEntry (p.2.1 / 4096))
  let s := s.emit (.hostData c x.fn (s.dmaPasid x.chargedTo) p.2.1 ((x.slotBytes.drop first).take p.2.2) bad s.hlu.ecrcGen)
  let s := s.modHlu fun h => { h with txNow := h.txNow + p.2.2 }
  let s := if bad then s.count Fld.HLU_POISON_CNT.OUTBOUND 0 1 else s
  s.modCtx c fun y => { y with bytesDone := p.1 + p.2.2, status := if bad ∧ y.status = 0 then stUnrecovered else y.status }

/-- The pieces of a read's data go out in order; a piece that must wait holds those behind it (R77, R86, R153). After the last one the result is final (R95). -/
def State.sendPieces (c : Nat) (x : Ctx) : List (Nat × Nat × Nat) → State → State
  | [], s => s.modCtx c fun y => { y with state := .ready, bytesDone := x.bytes }
  | p :: ps, s =>
    if s.dataMayGo x = false then s.modCtx c fun y => { y with state := .dataOut }
    else if s.hlu.pageOk x.fn (s.dmaPasid x.chargedTo) (p.2.1 / 4096) (x.untrans.contains (p.2.1 / 4096)) then (s.sendPiece c x p).sendPieces c x ps
    else (s.askPage x.fn x.chargedTo (p.2.1 / 4096)).modCtx c fun y => { y with state := .dataOut }

/-- A read's data goes out: what has not been sent yet. With a status, no data goes out. -/
def State.dataOut (c : Nat) (x : Ctx) (s : State) : State :=
  if x.status ≠ 0 ∧ x.bytesDone = 0 then s.modCtx c fun y => { y with state := .ready }
  else s.sendPieces c x ((partPieces s.hlu.mps 0 x.parts).filter fun p => decide (x.bytesDone ≤ p.1))

/-- A read has all its slots: its data goes out; a Gallery read answers its peer, with EP where a range is lost or its data are poisoned (R84, R170). -/
def State.readAdvance (c : Nat) (s : State) : State :=
  match Tbl.find? s.qen.ctxs c with
  | some x =>
    if (x.state = .lookup ∨ x.state = .media) ∧ x.work.all (fun w => w.data.isSome || w.lost) = true then
      match x.win with
      | some (_, off) =>
        let y := { x with work := x.work.map x.overSlot }
        let bad := x.status ≠ 0 ∨ x.prot = true ∨ s.dataPoisoned x (off % 4096) x.bytes = true
        ((s.completeRead (if bad then .poisoned else .ok) off ((y.slotBytes.drop (off % 4096)).take x.bytes)).freeBufs x.bufs).freeCtx c
      | none => s.dataOut c x
    else s
  | none => s

/-- Contexts in the order of their fetch. -/
def Qen.inOrder (q : Qen) (p : Ctx → Bool) : List (Nat × Ctx) := sortBy (fun a b => decide (a.2.fetchOrd ≤ b.2.fetchOrd)) (q.ctxs.filter fun e => p e.2)

/-- Reads whose data waits go on in the order of their arrival (R86, R153). -/
def State.dataResume (s : State) : State :=
  (s.qen.inOrder fun x => x.state == .dataOut).foldl (fun s e => s.dataOut e.1 e.2) s

/-- The buffer of a decoded slot (Table 13.2): an Urgent read that finds none takes it from the reservation (R381). -/
def State.slotBuf (x : Ctx) (s : State) : Option (State × BitVec 24) :=
  match s.takeBufs UnitNo.qen (some x.slice) [4096] x.bufs.getLast? with
  | some (t, h :: _) => some (t, h)
  | some (_, []) => none
  | none =>
    if x.cls = .urgent then
      match s.takeReserved UnitNo.qen (some x.slice) 2 1 x.bufs.getLast? with
      | some (t, h :: _) => some (t, h)
      | some (_, []) | none => none
    else none

/-- The decoded slot of a read has a buffer, or can have one. -/
def State.slotRoom (s : State) (x : Ctx) : Bool := (s.slotBuf x).isSome

/-- A slot of a context's read is served: data in a stage buffer, or lost with a status. The first failing slot fixes the status. -/
def State.readSlot (c : Nat) (x : Ctx) (w : SlotWork) (d : Option SlotData) (status : Nat) (s : State) : State :=
  let (s, b) := match d, s.slotBuf x with
    | some v, some (t, h) => (t.modBpm fun b => b.sramWrite (b.offset (hPool h) (hIdx h)) (leBytes 4096 v.toNat), some h)
    | _, _ => (s, none)
  (s.modCtx c fun x => { x with
    bufs := x.bufs ++ b.toList
    work := x.work.map fun y => if y.slotNo = w.slotNo then { y with data := d, lost := d.isNone, buf := b } else y
    status := if x.status = 0 then status else x.status
    mediaPend := x.mediaPend - 1 }).readAdvance c

/-- A slot's data deciphered under its namespace's key (R300, R306, R343). -/
def State.openSlot (s : State) (n : Namespace) (cell : SlotCell) : Option SlotData × Nat :=
  match s.nsKey n with
  | none => (none, stDenied)
  | some k => if cell.hdr.lostFill then (none, stUnrecovered) else (some (cell.plain (some k)), 0)

end Sys2Proof.Machine
end

