-- ==== Sys2Proof/Machine/Codec.lean ====
section
/-! DEFINITION. Codec Complex (spec/10): the end of a codeword's decode and what follows from its level, verify, the thermal clock, scrub, wear, and the key slots. -/

namespace Sys2Proof.Machine

/-! ## Levels (R275, R282, R288) -/

/-- Steps of the climb that a codeword has taken. -/
def Cdx.climbed (c : Cdx) (l : Loc) : Nat := ((c.climb.find? fun e => e.loc == l).map Climb.step).getD 0

/-- Re-reads that L1 has for a location (R285). -/
def State.l1Count (s : State) (l : Loc) : Nat := ((s.climbSteps l).filter fun e => e.1 == 1).length

/-- The level at which a decode ends: a skipped level, and an attempt beyond L1's re-reads or JD_PASSES (R285, R287), passes it on; a codeword that an OFFLINE die has given is decoded (R341), any other slot of the die needs L5 (R288), and L5 a stripe that can be rebuilt (Table 11.5). -/
def State.levelOf (s : State) (l : Loc) (res : DecodeResult) : Nat :=
  let slc := (s.bandAt l.die l.block).any fun b => b.2.mode == 0
  let v := if s.dsc.dieState l.die = .offline ∧ (s.cdx.frames.any (fun f => f.loc == l) = false ∨ s.stepLevel l (s.cdx.climbed l) < res.level) then max 5 res.level else res.level
  let v := if v = 1 ∧ s.l1Count l < res.attempt then 2 else v
  let v := if v = 4 ∧ (slc = true ∨ s.obj Ob.JD_PASSES < res.attempt) then 5 else v
  if v < 5 then v else if v = 5 ∧ s.rebuildable l = true then 5 else 6

/-- L5 attempts are counted (SPE_L5_CNT) when the stripe has parity. -/
def State.countL5 (l : Loc) (v : Nat) (s : State) : State :=
  if 5 ≤ v ∧ s.hasParity l = true then (if v = 5 then s.count Fld.SPE_L5_CNT.OK 0 1 else s.count Fld.SPE_L5_CNT.FAIL 0 1) else s

/-- The granule that a location holds now, by its header: namespace, NSID, granule, slot in it, the entry's location; none when the map does not name it. -/
def State.granuleOf (s : State) (l : Loc) : Option (Namespace × Nat × Nat × Nat × Loc) :=
  (s.mxe.cell l).bind fun c => (s.mxe.ns? c.hdr.nsid).bind fun n =>
    let slotNo := c.hdr.lba * n.lbaBytes / 4096
    let e := s.mxe.entry c.hdr.nsid (slotNo / n.spg)
    if e.located && slotLoc e.loc n.spg (slotNo % n.spg) == l then some (n, c.hdr.nsid, slotNo / n.spg, slotNo % n.spg, e.loc) else none

/-- What a decode at level v of a location leaves behind (R273, R290 to R292): recorder, relocation, BUMP, refresh. -/
def State.afterDecode (l : Loc) (v : Nat) (s : State) : State :=
  let nsid := ((s.mxe.cell l).map fun c => c.hdr.nsid).getD 1
  let s := s.count Fld.CDX_LVL_CNT.COUNT v 1
  let s := if v = 4 ∨ v = 5 then s.trigger 0x10 UnitNo.cdx 0 (mediaArg l.die l.block l.page l.slot v nsid) else s
  match s.granuleOf l, s.bandAt l.die l.block with
  | some (_, nsid, g, _, src), some (b, band) =>
    let s := if s.obj Ob.RELOC_LEVEL ≤ v ∧ v ≤ 5 then
        ((s.relocateNow nsid g src (v == 5)).bumpBlock (blkKey l.die (s.fca.sbOf l.block))).modMxe fun m => m.modBand b fun x => { x with reloc := x.reloc + 1 }
      else s
    if (v = 4 ∨ v = 5) ∨ (s.obj Ob.RELOC_LEVEL ≤ v ∧ s.obj Ob.REFRESH_COUNT ≤ band.reloc + 1) then s.chooseVictim b .scrub else s
  | _, _ => s

/-- Cause of a slot's loss (Table 11.6): an interrupted program of a later wordline of its block (R348), or the read. -/
def State.lossCause (s : State) (l : Loc) : Nat :=
  if s.mxe.nand.any fun e => e.1 / 4096 == blkKey l.die l.block && decide (l.page < e.1 % 4096) && !e.2.good && e.2.slots.isEmpty && e.2.parity.isNone
  then lostProgram else lostRead

/-- L6 (R289): the entry becomes LOST, and CCL and the recorder are told. -/
def State.unrecovered (l : Loc) (s : State) : State :=
  let nsid := ((s.mxe.cell l).map fun c => c.hdr.nsid).getD 1
  let s := (s.raiseExc UnitNo.cdx 0 6 (pageKey l.die l.block l.page)).trigger 0x11 UnitNo.cdx 0 (mediaArg l.die l.block l.page l.slot 6 nsid)
  match s.granuleOf l with
  | some (_, nsid, g, _, _) => s.loseEntry nsid g (s.lossCause l)
  | none => s

/-! ## Readers -/

/-- Who waits for a slot. -/
inductive Reader where
  | host (c : Nat) (w : SlotWork)
  | merge (nsid g dsn k : Nat)
  | job (num k : Nat)
  | nobody
deriving DecidableEq, Repr, Inhabited

/-- The slot work of a context that waits for a location. -/
def Ctx.workAt (x : Ctx) (l : Loc) : Option SlotWork :=
  if x.state == .lookup || x.state == .media then x.work.find? fun w => w.data.isNone && !w.lost && w.loc == some l else none

/-- The reader of a location: contexts by class and fetch order, then merges, then copy jobs. -/
def State.readerOf (s : State) (l : Loc) : Reader :=
  match (s.hostReader fun x => (x.workAt l).isSome).bind fun e => (e.2.workAt l).map fun w => (e.1, w) with
  | some (c, w) => .host c w
  | none =>
    match s.mxe.locks.find? fun k => (s.mxe.lockNeeds k).contains l with
    | some k => .merge k.nsid k.index k.dsn ((k.need.find? fun o => slotLoc (k.base.getD l) (s.mxe.spgOf k.nsid) o == l).getD 0)
    | none =>
      match s.mxe.jobs.find? fun j => (s.mxe.jobNeeds j.2).contains l with
      | some (num, j) => .job num (((List.range (s.mxe.spgOf j.nsid)).find? fun o => slotLoc j.source (s.mxe.spgOf j.nsid) o == l).getD 0)
      | none => .nobody

/-- A decoded slot goes to its reader. -/
def State.deliver (c : SlotCell) (v : Nat) (r : Reader) (s : State) : State :=
  match r with
  | .host x w =>
    let s := s.modCdx fun k => { k with hostReads := (s.now, v == 1 || v == 2) :: k.hostReads.filter fun e => !s.passed e.1 (secTicks 3600) }
    match Tbl.find? s.qen.ctxs x, s.mxe.ns? c.hdr.nsid with
    | some k, some n => s.readSlot x k w (s.openSlot n c).1 (s.openSlot n c).2
    | some k, none => s.readSlot x k w none stUnrecovered
    | none, _ => s
  | .merge nsid g dsn k =>
    (match s.mxe.ns? nsid with
      | some n => s.mergeSlot nsid g dsn k (c.plain (s.nsKey n)) c.hdr.lostFill
      | none => s)
  | .job num k => s.jobSlot num k c
  | .nobody => s

/-- An unrecovered slot ends its reader's wait (R195, R289). -/
def State.deliverLost (r : Reader) (s : State) : State :=
  match r with
  | .host x w => (match Tbl.find? s.qen.ctxs x with
      | some k => s.readSlot x k w none stUnrecovered
      | none => s)
  | .merge nsid g dsn k => s.mergeSlot nsid g dsn k 0 true
  | .job num _ => s.modMxe fun m => { m with jobs := Tbl.del m.jobs num }
  | .nobody => s

/-- A misdirected slot (R276): the entry becomes SUSPECT, and the read waits for its rebuild. -/
def State.misdirected (l : Loc) (r : Reader) (s : State) : State :=
  let s := s.count Fld.CDX_MISDIR_CNT.COUNT 0 1
  let mark := fun (nsid g : Nat) (s : State) =>
    (s.setEntry nsid g { s.mxe.entry nsid g with flags := .suspect }).trigger 0x0A UnitNo.mxe 0
      (mediaArg l.die l.block l.page l.slot 0 nsid)
  match r with
  | .host x w =>
    let nsid := ((Tbl.find? s.qen.ctxs x).map fun k => k.sqe.nsid.toNat).getD 1
    let s := s.modCtx x fun k => { k with state := .lookup, work := k.work.map fun y => if y.slotNo = w.slotNo then { y with loc := none } else y }
    mark nsid (w.slotNo / s.mxe.spgOf nsid) s
  | .merge nsid g _ _ => mark nsid g s
  | .job num _ => (match Tbl.find? s.mxe.jobs num with
      | some j => mark j.nsid j.index s
      | none => s)
  | .nobody => s

/-- The bucket of an L1 attempt (R285): valid buckets of b′ + 1, b′ − 1, b′ + 2, b′ − 2, b′ + 3. -/
def l1Bucket (b : Int) (attempt : Nat) : Int :=
  (([b + 1, b - 1, b + 2, b - 2, b + 3].filter fun x => decide (0 ≤ x) && decide (x ≤ 15)).getD (attempt - 1) b)

/-- A decode at L1 stores the block's correction, in a cache of 4,096 blocks (R281). -/
def State.correct (l : Loc) (attempt : Nat) (s : State) : State :=
  match s.bandAt l.die l.block with
  | some (_, band) =>
    let k := blkKey l.die (s.fca.sbOf l.block)
    let b : Int := s.ageBucket band
    let c := ((s.cdx.corr.find? fun e => e.1 == k).map Prod.snd).getD 0
    let start := max 0 (min 15 (b + c))
    s.modCdx fun x => { x with corr := ((k, l1Bucket start attempt - b) :: x.corr.filter fun e => e.1 != k).take 4096 }
  | none => s

/-- A raw frame is poisoned before its decode (R311): it is read again, twice at most. -/
def State.poisonRepeat (s : State) (l : Loc) : Nat := ((s.cdx.poisonTry.find? fun e => e.1 == l).map Prod.snd).getD 0

/-- One codeword of a slot leaves CDX: a verify read's, or another. -/
def Cdx.dropFrame (c : Cdx) (l : Loc) (verify : Bool) : Cdx :=
  match c.frames.find? (fun (f : Frame) => f.loc == l && (f.eng == Engine.verify) == verify) with
  | some f => { c with frames := c.frames.erase f }
  | none => c

/-- A codeword leaves its engine, and the next one enters (R274); its climb is over. -/
def State.frameEnds (l : Loc) (s : State) : State :=
  s.modCdx fun c => ({ c.dropFrame l false with climb := c.climb.filter fun e => e.loc != l }).fillEngines

/-! ## The climb (R282 to R287) -/

/-- Class of a reader's work, and whether it is raised (R216, R283). -/
def State.readerCls (s : State) : Reader → OpClass × Bool
  | .host c _ => (((Tbl.find? s.qen.ctxs c).map fun x => svcOp x.cls).getD .normal, false)
  | .merge _ _ _ _ => (.normal, false)
  | .job num _ => ((Tbl.find? s.mxe.jobs num).map fun j => (j.cls, s.jobHigh j)).getD (.gc, false)
  | .nobody => (.normal, false)

/-- The slice that a reader's reads count for. -/
def State.readerSlice (s : State) : Reader → Nat
  | .host c _ => ((Tbl.find? s.qen.ctxs c).map Ctx.slice).getD 0
  | .merge nsid _ _ _ => ((s.mxe.ns? nsid).map Namespace.slice).getD 0
  | .job num _ => ((Tbl.find? s.mxe.jobs num).bind fun j => (s.mxe.ns? j.nsid).map Namespace.slice).getD 0
  | .nobody => 0

/-- The bucket of the `k`-th re-read of L1 (R285). -/
def State.l1Set (s : State) (l : Loc) (b : Band) (k : Nat) : VtSet := s.vtSet b (l1Bucket (s.bucketOf l.die l.block b) k) 0

/-- Pages of the neighbouring wordlines of a page that hold a program (R287): WL − 1 and WL + 1, within the data wordlines. -/
def State.neighbours (s : State) (l : Loc) (b : Band) : List (Nat × Nat) :=
  let k := pagesPerWl b.mode
  let wl := l.page / k
  let rows := (if wl = 0 then [] else [wl - 1]) ++ (if wl + 1 < s.fca.part.wls - 8 then [wl + 1] else [])
  (rows.flatMap fun w => (List.range k).map fun j => (l.block, w * k + j)).filter fun p => Tbl.has s.mxe.nand (pageKey l.die p.1 p.2)

/-- The reads of a step (R285 to R288): die, block and page, and thresholds; none: those of L0. -/
def State.stepReads (s : State) (l : Loc) (b : Band) (st : Nat × Nat) : List ((Nat × Nat × Nat) × Option VtSet) :=
  let m := s.bucketOf l.die l.block b
  let d : Int := s.obj Ob.SOFT_DELTA
  let at_ := fun (x : Int) => ((l.die, l.block, l.page), some (s.vtSet b m x))
  match st.1 with
  | 1 => [((l.die, l.block, l.page), some (s.l1Set l b st.2))]
  | 2 => [at_ 0, at_ (-d), at_ d]
  | 3 => [at_ (-(d / 2)), at_ (d / 2), at_ (-(3 * d / 2)), at_ (3 * d / 2)]
  | 4 => (s.neighbours l b).map fun p => ((l.die, p), none)
  | _ => (s.survivors l).map fun p => (p, none)

/-- The step after `k` steps that a codeword which failed it takes next, unless its decode is to be decided without it: the result's level and attempt lie beyond the step it is at. -/
def State.nextStep (s : State) (l : Loc) (k : Nat) (v attempt : Nat) : Option (Nat × Nat) :=
  let at_ := if k = 0 then (0, 1) else (s.climbSteps l).getD (k - 1) (5, 1)
  if at_.1 < v ∨ (at_.1 = 1 ∧ v = 1 ∧ at_.2 < attempt) then (s.climbSteps l)[k]? else none

/-- The recovery reads of a step are submitted in the class of the read they serve (R282, R283); a step without a read goes on at once. -/
def State.climbTo (l : Loc) (k : Nat) (st : Nat × Nat) (r : Reader) (s : State) : State :=
  match s.bandAt l.die l.block with
  | some (n, b) =>
    let c := s.readerCls r
    let rs := s.stepReads l b st
    let s := (s.frameEnds l).modCdx fun x => { x with
      climb := { loc := l, step := k + 1, left := rs.length, eng := Loc.engineAt st.1, cls := c.1, submit := s.now } :: x.climb }
    if rs = [] then s.modCdx (Cdx.landed l)
    else rs.foldl (fun s p => s.submitOp { kind := .read, die := p.1.1, block := p.1.2.1, page := p.1.2.2, planes := 1, cls := c.1, raised := c.2, slice := s.readerSlice r }
      (.recover l p.2) [p.1.2] [] n) s
  | none => s

/-- The step that a codeword takes next, with the steps before it: on an OFFLINE die, L5 at once (R288). -/
def State.stepAfter (s : State) (l : Loc) (res : DecodeResult) : Option (Nat × Nat × Nat) :=
  let k := s.cdx.climbed l
  (s.nextStep l k (s.levelOf l res) res.attempt).bind fun st =>
    if s.dsc.dieState l.die = .offline then (if s.hasParity l then some ((s.climbSteps l).length - 1, 5, 1) else none) else some (k, st)

/-- Recovery reads whose codeword no reader waits for any more are withdrawn (R283). -/
def State.dropRecovery (s : State) : State :=
  let s := (s.dsc.ops.filter fun e => (match e.2.why with | .recover l _ => s.readerOf l == .nobody | _ => false)
      && (s.dsc.die e.2.req.die).active != some e.1).foldl (fun s e => s.dropOp e.2.req.die e.1) s
  s.modCdx fun c => { c with climb := c.climb.filter fun e => c.frames.any (fun f => f.loc == e.loc) || s.readerOf e.loc != .nobody }

/-- The end of a codeword that serves a read. -/
def State.decodeRead (l : Loc) (res : DecodeResult) (s : State) : State :=
  let r := s.readerOf l
  let v := max (s.levelOf l res) (s.stepLevel l (s.cdx.climbed l))
  let s := (s.modCdx fun c => { c with poisonTry := c.poisonTry.filter fun e => e.1 != l }).frameEnds l
  if v < 6 ∧ res.headerOk = false then s.misdirected l r
  else
    let s := if v = 1 then s.correct l res.attempt else s
    let s := s.countL5 l v
    if v = 6 then ((s.count Fld.CDX_LVL_CNT.COUNT 6 1).unrecovered l).deliverLost r
    else
      match s.mxe.cell l with
      | some c => (s.deliver c v r).afterDecode l v
      | none => s

/-! ## Verify (R260 to R262) -/

/-- A page passes verify: its source may go. -/
def State.verifyPass (k : Nat) (s : State) : State :=
  s.modFca fun f =>
    let left := f.verifying.filter (· != k)
    { f with verifying := left, verify := if left.any fun v => v / 4 == k / 4 then f.verify else Tbl.del f.verify (k / 4) }

/-- Granules that a page's slots belong to: NSID, granule, location of its first slot. -/
def State.pageGranules (s : State) (l : Loc) : List (Nat × Nat × Loc) :=
  match Tbl.find? s.mxe.nand (pageKey l.die l.block l.page) with
  | some p => ((p.slots.zipIdx).filterMap fun c =>
      if c.1.hdr.kind = .data then
        (s.mxe.ns? c.1.hdr.nsid).map fun n =>
          let slotNo := c.1.hdr.lba * n.lbaBytes / 4096
          (c.1.hdr.nsid, slotNo / n.spg, if n.spg = 1 then { l with slot := c.2 } else { l with page := l.page - c.1.hdr.goff / 4, slot := 0 })
      else none).dedup
  | none => []

/-- A page fails verify (R262, R273, R211): counted, recorded, its slots placed again. -/
def State.verifyFail (l : Loc) (s : State) : State :=
  let pk := pageKey l.die l.block l.page
  let s := s.modFca fun f => { f with verifying := f.verifying.filter (fun v => v / 4 != pk), verify := Tbl.del f.verify pk }
  let s := (s.count Fld.FCA_VERIFY_FAIL.COUNT 0 1).trigger 0x0F UnitNo.fca 0 (mediaArg l.die l.block l.page l.slot 0 1)
  let key := blkKey l.die (s.fca.sbOf l.block)
  let s := (s.pageGranules l).foldl (fun s e => s.relocateNow e.1 e.2.1 e.2.2 true) s
  let s := if (s.bandAt l.die l.block).any (fun b => b.2.tread == 7) then (s.retireBlock l.die (s.fca.sbOf l.block) causeVerify 0).cancelBlock l.die (s.fca.sbOf l.block) else s
  s.bumpBlock key

/-- The slot's reader has a buffer for it (Table 13.2): otherwise the frame waits for one (R383). A merge builds its slot in the write's buffers. -/
def State.readerRoom (s : State) (l : Loc) : Bool :=
  match s.readerOf l with
  | .host c _ => (Tbl.find? s.qen.ctxs c).all s.slotRoom
  | .job num k => (s.copyBuf num (k / 4)).isSome
  | .merge _ _ _ _ | .nobody => true

/-- A frame whose raw buffer is poisoned is read again at the same thresholds; the repeat is no level (R311). -/
def State.readAgain (l : Loc) (s : State) : State :=
  let k := s.cdx.climbed l
  let c := s.readerCls (s.readerOf l)
  let vt := (s.bandAt l.die l.block).bind fun b => ((s.stepReads l b.2 ((s.climbSteps l).getD (k - 1) (2, 1))).head?).bind Prod.snd
  let s := (s.frameEnds l).modCdx fun x => { x with
    poisonTry := (l, s.poisonRepeat l + 1) :: x.poisonTry.filter (fun e => e.1 != l), climb := { loc := l, step := k, left := 1, eng := Loc.engineAt (s.stepLevel l k), cls := c.1, submit := s.now } :: x.climb }
  if s.dsc.dieState l.die = .offline then s
  else s.submitOp { kind := .read, die := l.die, block := l.block, page := l.page, planes := 1, cls := c.1, raised := c.2, slice := s.readerSlice (s.readerOf l) }
    (.recover l (if k = 0 then none else vt)) [(l.block, l.page)] [] (((s.bandAt l.die l.block).map Prod.fst).getD 0)

/-- A verify codeword leaves its decoder (R274). -/
def State.verifyEnds (l : Loc) (s : State) : State :=
  s.modCdx fun c => (c.dropFrame l true).fillEngines

/-- A read of a slot on an OFFLINE die: it has no codeword, and goes to L5 at once (R288). -/
def State.offlineRead (s : State) (l : Loc) : Bool := s.dsc.dieState l.die == .offline && s.readerOf l != .nobody && !s.cdx.climb.any fun e => e.loc == l

/-- CODEWORD_DECODE (R274, R275, R282, R289, R311; verify: R260, R262): a codeword that an engine has, or a slot of an OFFLINE die, ends a decode. One that fails its level climbs to the next. -/
def execCodewordDecode (loc : Loc) (res : DecodeResult) (s : State) : Out :=
  let k := 4 * pageKey loc.die loc.block loc.page + loc.slot
  if (s.cdx.frames.any fun f => f.loc == loc && f.eng != .verify && f.busy) = true ∨ s.offlineRead loc = true then
    if res.poison = true ∧ s.poisonRepeat loc < 2 then .next (s.readAgain loc)
    else if s.readerOf loc ≠ .nobody ∧ (s.stepAfter loc res).isSome = true then
      .next (s.climbTo loc ((s.stepAfter loc res).getD default).1 ((s.stepAfter loc res).getD default).2 (s.readerOf loc))
    else if (s.levelOf loc res = 6 ∧ s.excRoom = false) ∨ (s.levelOf loc res ≠ 6 ∧ s.readerRoom loc = false) then .next s
    else .next (s.decodeRead loc res)
  else if s.fca.verifying.contains k ∧ (s.cdx.frames.any fun f => f.loc == loc && f.eng == .verify && f.busy) = true then
    let s := s.verifyEnds loc
    if res.level = 0 ∧ res.headerOk = true ∧ res.bits ≤ s.obj Ob.VERIFY_MAX_BITS then .next (s.verifyPass k)
    else .next (s.verifyFail loc)
  else .next s

/-! ## Thermal clock (R277, R278) -/

/-- T of R277: the mean of the latest readings, down to a multiple of 5 °C, between −40 and 125. -/
def State.meanTemp (s : State) : Int :=
  let ts := (s.fca.temps.filter fun e => s.dsc.dieState e.1 != .offline).map fun e => e.2.1
  max (-40) (min 125 (meanOf ts / 5 * 5))

/-- AF_TABLE as the units use it. -/
def State.afTable (s : State) : List Nat := (List.range 34).map fun i => s.obj Ob.AF_TABLE 0 i

/-- THETA_UPDATE (R277): every 100 ms. -/
def execThetaUpdate (s : State) : Out :=
  if s.passed s.timers.theta (msTicks 100) then
    let t := s.meanTemp
    let s := (s.modCdx fun c => { c with theta := c.theta + BitVec.ofNat 64 (Config.afAdvance s.afTable t 100), tMean := t }).modTimers
      fun x => { x with theta := x.theta + 80000000 }
    .next (s.setObj Ob.THETA_MS s.cdx.theta.toNat)
  else .next s

/-- Θ is stored with the fleet time (R277). -/
def State.storeTheta (s : State) : State :=
  s.modCdx fun c => { c with thetaStored := c.theta.toNat, fleetStored := s.tbu.fleet.toNat }

/-- THETA_STORE (R277): every 60 s. -/
def execThetaStore (s : State) : Out :=
  if s.passed s.timers.thetaStore (secTicks 60) then .next (s.storeTheta.modTimers fun x => { x with thetaStore := s.lastDue x.thetaStore (secTicks 60) }) else .next s

/-- Contribution of the unpowered interval (R278). -/
def State.offTrue (s : State) : Nat :=
  Config.afAdvance s.afTable (s.objI Ob.OFF_TEMP_C) ((s.tbu.fleet.toNat - s.cdx.fleetStored) / 1000000)

/-- The unpowered interval is added at entry to Hall (R278). -/
def State.addOffInterval (s : State) : State :=
  if s.fleetValid then s.modCdx fun c => { c with theta := c.theta + BitVec.ofNat 64 s.offTrue, offEst := false }
  else
    let g := Config.afAdvance s.afTable (s.objI Ob.OFF_TEMP_C) (3600000 * s.obj Ob.OFF_GUESS_H)
    s.modCdx fun c => { c with theta := c.theta + BitVec.ofNat 64 g, offEst := true, offGuess := g }

/-- Fleet time becomes valid after an estimate: the excess of the true interval is added (R278). -/
def State.fleetNowValid (s : State) : State :=
  if s.cdx.offEst ∧ s.fleetValid = true then
    s.modCdx fun c => { c with theta := c.theta + BitVec.ofNat 64 (s.offTrue - c.offGuess), offEst := false, offGuess := 0 }
  else s

/-! ## Scrub (R293 to R296) -/

/-- What one sample leads to (R293): counted, relocated or lost as a host read would be. -/
def State.scrubSample (x : ScrubSample) (s : State) : State :=
  let l : Loc := ⟨x.die, x.block, x.page, x.slot⟩
  let v := s.levelOf l { level := x.level, attempt := 1, bits := x.bits, headerOk := true, poison := false }
  let s := s.countL5 l v
  if v = 6 then (s.count Fld.CDX_LVL_CNT.COUNT 6 1).unrecovered l else s.afterDecode l v

/-- A visit reads the sample (R293): a codeword of a programmed page of a member block, every SCRUB_STRIDE-th or the block's last data page. -/
def State.scrubReads (s : State) (b : Band) (x : ScrubSample) : Bool :=
  b.members.contains (x.die, s.fca.sbOf x.block) && Tbl.has s.mxe.nand (pageKey x.die x.block x.page)
    && (x.page % s.obj Ob.SCRUB_STRIDE == 0 || x.page + 1 == (s.fca.part.wls - 8) * pagesPerWl b.mode)

/-- The band shows wear, age or read disturb (R294). -/
def State.scrubRefresh (s : State) (b : Band) (samples : List ScrubSample) : Bool :=
  samples.any (fun x => decide (s.obj Ob.SCRUB_LEVEL ≤ x.level) || (x.level == 0 && decide (s.obj Ob.SCRUB_BITS < x.bits)))
    || decide (s.obj Ob.SCRUB_AGE_BUCKET ≤ s.ageBucket b)
    || b.members.any fun m => decide (s.obj Ob.READ_DISTURB_LIMIT < Tbl.getD s.mxe.reads (blkKey m.1 m.2) 0)

/-- A new scrub period begins (R293). -/
def State.scrubPeriod (s : State) : State :=
  if s.passed s.cdx.scrubTick (hourTicks (s.obj Ob.SCRUB_PERIOD_H)) then s.modCdx fun c => { c with visited := [], scrubTick := s.now } else s

/-- SCRUB_VISIT (R293, R294): a CLOSED band once in a period. -/
def execScrubVisit (b : Nat) (samples : List ScrubSample) (s : State) : Out :=
  let s := s.scrubPeriod
  match Tbl.find? s.mxe.bands b with
  | some band =>
    if band.state = .closed ∧ s.cdx.visited.contains b = false ∧ s.scrubMay band = true then
      let samples := samples.filter (s.scrubReads band)
      let refresh := s.scrubRefresh band samples
      let s := s.modCdx fun c => { c with visited := b :: c.visited }
      let s := samples.foldl (fun s x => s.scrubSample x) s
      .next (if refresh then (s.chooseVictim b .scrub).count Fld.CDX_REFRESH_CNT.COUNT 0 1 else s)
    else .next s
  | none => .next s

/-- The k that counts a window's openings at the fleet time now (R296). -/
def State.winIndex (s : State) (w : Nat) : Nat :=
  (s.tbu.fleet.toNat - s.obj Ob.SCRUB_WIN.START w) / (1000000000 * s.obj Ob.SCRUB_WIN.PERIOD_S w)

/-- SCRUB_WINDOW_OPEN (R296): a window whose end has passed is skipped. -/
def execScrubWindowOpen (w : Nat) (s : State) : Out :=
  let k := s.winIndex w
  let at_ := s.obj Ob.SCRUB_WIN.START w + k * (1000000000 * s.obj Ob.SCRUB_WIN.PERIOD_S w)
  let end_ := at_ + 1000000000 * s.obj Ob.SCRUB_WIN.LENGTH_S w
  if s.objB Ob.SCRUB_WIN.EN w ∧ s.obj Ob.SCRUB_WIN.START w ≤ s.tbu.fleet.toNat ∧ s.tbu.fleet.toNat < end_
      ∧ Tbl.getD s.cdx.winNext w 0 ≤ k then
    .next (s.modCdx fun c => { c with winOpen := Tbl.put c.winOpen w end_, winNext := Tbl.put c.winNext w (k + 1) })
  else .next s

/-- SCRUB_WINDOW_CLOSE (R296): in this tick scrub submits no read. -/
def execScrubWindowClose (w : Nat) (s : State) : Out :=
  match Tbl.find? s.cdx.winOpen w with
  | some e =>
    if e ≤ s.tbu.fleet.toNat then .next (s.modCdx fun c => { c with winOpen := Tbl.del c.winOpen w, winClosed := true }) else .next s
  | none => .next s

/-! ## Wear (R297, R298) -/

/-- Percentage Used (R297): of the blocks not retired. -/
def State.pctUsedNow (s : State) : Nat :=
  let good := s.totalBlocks - s.mxe.retired.length
  let sum := (s.mxe.wear.filter fun e => !Tbl.has s.mxe.retired e.1).foldl (fun (t : Rat) e => t + e.2) 0
  if good = 0 then 0 else min 255 (Int.toNat (Rat.ceil (100 * sum / (good : Rat))))

/-- The early-warning steps (R298): each once in the life of the drive. -/
def State.wearSteps (p : Nat) (s : State) : State :=
  let step := fun (bit pct code : Nat) (s : State) =>
    if pct ≤ p ∧ s.cdx.ewFired.getLsbD bit = false then
      (s.modCdx fun c => { c with ewFired := c.ewFired ||| BitVec.ofNat 3 (2 ^ bit) }).health code UnitNo.cdx
    else s
  step 2 98 Health.wear98 (step 1 90 Health.wear90 (step 0 80 Health.wear80 s))

/-- WEAR_UPDATE (R297, R298): every 60 s. -/
def execWearUpdate (s : State) : Out :=
  if s.passed s.timers.wear (secTicks 60) then
    let p := s.pctUsedNow
    let s := ((s.modCdx fun c => { c with pctUsed := p }).setObj Ob.PCT_USED p).modTimers fun x => { x with wear := s.lastDue x.wear (secTicks 60) }
    let s := s.wearSteps p
    .next (s.setObj Ob.EW_FIRED s.cdx.ewFired.toNat)
  else .next s

/-! ## Key slots (R303, R304) -/

/-- A key operation starts (R303): a GO while one runs is ignored; the record of an earlier GENERATE is no longer shown. -/
def State.keyStart (op : KeyOp) (code slot : Nat) (s : State) : State :=
  if s.cdx.keyRun.isSome then s
  else ((s.setFld Fld.CDX_KEY_CTL.OP 0 code).setFld Fld.CDX_KEY_CTL.SLOT 0 slot).modCdx fun c => { c with
    keyRun := some { op := op, slot := slot }, keyShown := false }

/-- KEY_LOAD (R303). -/
def execKeyLoad (slot : Nat) (s : State) : Out := .next (s.keyStart .load 1 slot)

/-- KEY_GENERATE (R303). -/
def execKeyGenerate (slot : Nat) (s : State) : Out := .next (s.keyStart .generate 2 slot)

/-- KEY_CLEAR (R303). -/
def execKeyClear (slot : Nat) (s : State) : Out := .next (s.keyStart .clear 3 slot)

/-- The record of Table 10.8 for a new key. -/
def keyRecord (gen slot nsid generation key : Nat) : KeyRecord :=
  BitVec.ofNat 768 (1 + 2 ^ 8 * gen + 2 ^ 16 * slot + 2 ^ 32 * nsid + 2 ^ 64 * generation + 2 ^ 128 * ((Config.wrapKey gen key).toNat / 2 ^ 128))

/-- A slot's content before an operation that ends now serves the data units of this tick (R303). -/
def Cdx.keyKept (slot : Nat) (c : Cdx) : Cdx := { c with keyPrev := Tbl.put c.keyPrev slot (c.keyNow slot) }

/-- LOAD ends (R302, R303). -/
def State.keyLoaded (slot : Nat) (s : State) : State :=
  let r := s.cdx.keyBuf
  match (if bitsOf r.toNat 15 8 = s.cdx.kekGen then Config.unwrapKey s.cdx.kekGen r else none) with
  | some k => s.modCdx fun c => { c.keyKept slot with keys := Tbl.put c.keys slot k, keyResult := .ok }
  | none => s.modCdx fun c => { c with keyResult := .keyBad }

/-- GENERATE ends (R303): the new pair comes from the CTR_DRBG, a free value. -/
def State.keyGenerated (slot : Nat) (s : State) : State :=
  let g := bitsOf s.cdx.keyBuf.toNat 95 64
  if g = 0xFFFFFFFF then s.modCdx fun c => { c with keyResult := .badOp }
  else
    let k := s.fresh
    s.drawn.modCdx fun c => { c.keyKept slot with
      keys := Tbl.put c.keys slot k, keyResult := .ok, keyShown := true
      keyBuf := keyRecord c.kekGen slot (bitsOf c.keyBuf.toNat 63 32) (g + 1) k }

/-- KEY_OP_END (R303): the slot takes its new content as BUSY clears. -/
def execKeyOpEnd (s : State) : Out :=
  match s.cdx.keyRun with
  | some r =>
    let s := s.modCdx fun c => { c with keyRun := none }
    match r.op with
    | .load => .next (s.keyLoaded r.slot)
    | .generate => .next (s.keyGenerated r.slot)
    | .clear => .next (s.modCdx fun c => { c.keyKept r.slot with keys := Tbl.del c.keys r.slot, keyResult := .ok })
  | none => .next s

end Sys2Proof.Machine
end

