-- ==== Sys2Proof/Machine/Dram.lean ====
section
/-! DEFINITION. DRAM Controller (spec/14): address map, classes and service, the device-correct code's outcomes, row disturb, replay, retirement, self-refresh, and the meanings of the DRAM commands. -/

namespace Sys2Proof.Machine

/-! ## Capacity and address map -/

/-- Populated channels as trained. -/
def Dmc.channels (m : Dmc) : Nat := if m.chMask = 0xF then 4 else 2

/-- Bits of the CH field (Table 14.2). -/
def Dmc.chBits (m : Dmc) : Nat := if m.chMask = 0xF then 2 else 1

/-- Bits of the RANK field. -/
def Dmc.rankBits (m : Dmc) : Nat := if m.ranks = 2 then 1 else 0

/-- Bits of the ROW field: 65,536 or 131,072 rows. -/
def Dmc.rowBits (m : Dmc) : Nat := if m.dens32 then 17 else 16

/-- Rows of a bank. -/
def Dmc.rowCount (m : Dmc) : Nat := 2 ^ m.rowBits

/-- The DRAM capacity D of R392 in bytes: channels × ranks × 16 × density × stack height. -/
def Dmc.capacity (m : Dmc) : Nat :=
  if m.trained then 2 ^ 30 * (m.channels * m.ranks * 16 * (if m.dens32 then 4 else 2) * 2 ^ m.cidBits) else 0

/-- Take a field of `n` bits off the low end of a number. -/
def takeBits (n v : Nat) : Nat × Nat := (v % 2 ^ n, v / 2 ^ n)

/-- The coordinates of an address (Table 14.2), with R393's bank group and bank. -/
def Dmc.coord (m : Dmc) (addr : Nat) : DramCoord :=
  let v := addr / 64
  if m.order = 0 then
    let (sub, v) := takeBits 1 v
    let (ch, v) := takeBits m.chBits v
    let (bg, v) := takeBits 3 v
    let (ba, v) := takeBits 2 v
    let (col, v) := takeBits 7 v
    let (rank, v) := takeBits m.rankBits v
    let (cid, v) := takeBits m.cidBits v
    let (row, _) := takeBits m.rowBits v
    { ch := ch, sub := sub, rank := rank, cid := cid, bg := bg ^^^ row % 8, ba := ba ^^^ row / 8 % 4, row := row, col := col }
  else
    let (col, v) := takeBits 7 v
    let (sub, v) := takeBits 1 v
    let (ch, v) := takeBits m.chBits v
    let (bg, v) := takeBits 3 v
    let (ba, v) := takeBits 2 v
    let (rank, v) := takeBits m.rankBits v
    let (cid, v) := takeBits m.cidBits v
    let (row, _) := takeBits m.rowBits v
    { ch := ch, sub := sub, rank := rank, cid := cid, bg := bg ^^^ row % 8, ba := ba ^^^ row / 8 % 4, row := row, col := col }

/-- The address of the burst at coordinates: the inverse of `coord`. -/
def Dmc.addrOf (m : Dmc) (c : DramCoord) : Nat :=
  let bg := c.bg ^^^ c.row % 8
  let ba := c.ba ^^^ c.row / 8 % 4
  let top := (c.row * 2 ^ m.cidBits + c.cid) * 2 ^ m.rankBits + c.rank
  if m.order = 0 then
    64 * ((((((128 * top + c.col) * 4 + ba) * 8 + bg) * 2 ^ m.chBits + c.ch) * 2) + c.sub)
  else
    64 * (128 * (((((top * 4 + ba) * 8 + bg) * 2 ^ m.chBits + c.ch) * 2) + c.sub) + c.col)

/-- One number for a bank. -/
def DramCoord.bank (c : DramCoord) : Nat :=
  ((((c.ch * 2 + c.sub) * 2 + c.rank) * 8 + c.cid) * 8 + c.bg) * 4 + c.ba

/-- One number for a subchannel. -/
def DramCoord.subch (c : DramCoord) : Nat := c.ch * 2 + c.sub

/-- First byte of the retirement spare: below the 1 MiB training area at the top (R392). -/
def Dmc.spareBase (m : Dmc) : Nat := m.capacity - 2 ^ 20 - 2 ^ 20 * m.spareMib

/-! ## Retirement -/

/-- EN of a retirement coordinate word. -/
def retEn (w : Word) : Bool := w.getLsbD 31

/-- WHOLE_BANK. -/
def retWhole (w : Word) : Bool := w.getLsbD 30

/-- ROW_FIRST. -/
def retRow (w : Word) : Nat := bitsOf w.toNat 16 0

/-- First row and number of rows of an entry. -/
def RetEntry.rows (e : RetEntry) (rows : Nat) : Nat × Nat := if retWhole e.coord then (0, rows) else (retRow e.coord, e.span)

/-- The entry's bank is that of the coordinates: bits [29:18] as DMC_ERR_LOG0. -/
def RetEntry.sameBank (e : RetEntry) (c : DramCoord) : Bool :=
  bitsOf e.coord.toNat 29 28 == c.ch && bitsOf e.coord.toNat 27 27 == c.sub && bitsOf e.coord.toNat 26 26 == c.rank
    && bitsOf e.coord.toNat 25 23 == c.cid && bitsOf e.coord.toNat 22 20 == c.bg && bitsOf e.coord.toNat 19 18 == c.ba

/-- The entry's range holds the coordinates. -/
def RetEntry.holds (e : RetEntry) (rows : Nat) (c : DramCoord) : Bool :=
  retEn e.coord && e.sameBank c && decide ((e.rows rows).1 ≤ c.row) && decide (c.row < (e.rows rows).1 + (e.rows rows).2)

/-- Storage address of a burst of the range at the target (R412). -/
def Dmc.targetAddr (m : Dmc) (e : RetEntry) (c : DramCoord) : Nat :=
  m.spareBase + 8192 * e.target + (128 * (c.row - (e.rows m.rowCount).1) + c.col) * 64

/-- The entry in force for coordinates: an ACTIVE or COPYING one. -/
def Dmc.retFor (m : Dmc) (c : DramCoord) : Option RetEntry :=
  (m.ret.find? fun e => (e.2.status == .active || e.2.status == .copying) && e.2.holds m.rowCount c).map Prod.snd

/-- Storage addresses an access goes to: where reads go, and where writes go (R412). -/
def Dmc.places (m : Dmc) (addr : Nat) : Nat × List Nat :=
  let a := addr / 64 * 64
  match m.retFor (m.coord addr) with
  | some e =>
    let t := m.targetAddr e (m.coord addr)
    if e.status == .active then (t, [t]) else (a, [a, t])
  | none => (a, [a])

/-! ## Classes and service -/

/-- Class of a requester (Table 14.3). -/
def dramClass : DramRequester → DramClass
  | .galIngress => .rt
  | .mxeUrgentLookup | .qenCmbFetch => .mapU
  | .mxeOther | .ccl => .mapN
  | .mxeBulk | .galBulk | .dmcPatrol => .bulk

/-- Page hints of Table 14.3. -/
inductive PageHint where
  | close | open_ | none
deriving DecidableEq, Repr, Inhabited

/-- Hint of a requester (Table 14.3). -/
def dramHint : DramRequester → PageHint
  | .galIngress | .mxeBulk | .galBulk => .open_
  | .mxeUrgentLookup | .qenCmbFetch | .mxeOther | .dmcPatrol => .close
  | .ccl => .none

/-- Ticks of a time in ns, rounded up: a tick is 1.25 ns. -/
def nsTicks (ns : Nat) : Nat := ceilDiv (4 * ns) 5

/-- Queued requests of a subchannel, reads or writes, in arrival order. -/
def Dmc.queued (m : Dmc) (x : Nat) (wr : Bool) : List DramReq :=
  m.queue.filter fun r => (m.coord r.access.addr).subch == x && r.access.write.isSome == wr

/-- The row of a request's bank is open (R395). -/
def State.rowHit (s : State) (r : DramReq) : Bool :=
  match Tbl.find? s.dmc.openRows (s.dmc.coord r.access.addr).bank with
  | some (row, t) => row == (s.dmc.coord r.access.addr).row && decide (s.since t ≤ nsTicks (s.obj Ob.PAGE_IDLE_NS))
  | none => false

/-- Within a class: row hits before misses, at most 16 in a row, then request tick (R397). -/
def State.pickInClass (s : State) (x : Nat) (rs : List DramReq) : Option DramReq :=
  if Tbl.getD s.dmc.hits x 0 < 16 then
    match rs.find? s.rowHit with
    | some r => some r
    | none => rs.head?
  else rs.head?

/-- The classes of the weighted round robin, in turn order. -/
def turnClass : Nat → DramClass
  | 0 => .rt
  | 1 => .mapN
  | _ => .bulk

/-- Bursts per turn of a class (R397). -/
def State.turnWeight (s : State) : Nat → Nat
  | 0 => s.obj Ob.W_RT
  | 1 => s.obj Ob.W_MAPN
  | _ => s.obj Ob.W_BULK

/-- The turn that serves next, from class `k` with `used` bursts taken: class and bursts taken. -/
def State.nextTurn (s : State) (rs : List DramReq) (k used : Nat) : Option (Nat × Nat) :=
  if used < s.turnWeight k ∧ (rs.any fun r => r.eff == turnClass k) then some (k, used)
  else ([1, 2, 3].map fun d => (k + d) % 3).findSome? fun j =>
    if rs.any fun r => r.eff == turnClass j then some (j, 0) else none

/-- Writes are drained on this subchannel (R396): from 48 queued or when no read waits, until 16 remain. -/
def Dmc.drains (m : Dmc) (x : Nat) : Bool :=
  let w := (m.queued x true).length
  decide ((if m.draining.contains x then 17 else 48) ≤ w) || ((m.queued x false).isEmpty && decide (0 < w))

/-- The next access of a subchannel (R396 to R398), with the turn after it. -/
def State.dramPick (s : State) (x : Nat) : Option (DramReq × Option (Nat × Nat)) :=
  let reads := s.dmc.queued x false
  let rs := if s.dmc.drains x && !(reads.any fun r => r.eff == .mapU) then s.dmc.queued x true else reads
  match s.pickInClass x (rs.filter fun r => r.eff == .mapU) with
  | some r => some (r, none)
  | none =>
    if s.dmc.panic then
      match s.pickInClass x (rs.filter fun r => r.eff == .rt) with
      | some r => some (r, none)
      | none => (s.pickInClass x (rs.filter fun r => r.eff == .mapN)).map fun r => (r, none)
    else
      let t := Tbl.getD s.dmc.turn x 0
      match s.nextTurn rs (t / 32) (t % 32) with
      | some (k, used) => (s.pickInClass x (rs.filter fun r => r.eff == turnClass k)).map fun r => (r, some (k, used + 1))
      | none => none

/-! ## One access -/

/-- Log an error (R404): the two registers and a recorder trigger. `dev` is 0 to 9, or 0xF. -/
def State.dramLog (c : DramCoord) (uncorr : Bool) (dev : Nat) (s : State) : State :=
  let s := (s.flag Fld.DMC_ERR_LOG0.VALID 0 1).setFld Fld.DMC_ERR_LOG0.UNCORR 0 (bit01 uncorr)
  let s := ((s.setFld Fld.DMC_ERR_LOG0.CH 0 c.ch).setFld Fld.DMC_ERR_LOG0.SUB 0 c.sub).setFld Fld.DMC_ERR_LOG0.RANK 0 c.rank
  let s := ((s.setFld Fld.DMC_ERR_LOG0.CID 0 c.cid).setFld Fld.DMC_ERR_LOG0.BG 0 c.bg).setFld Fld.DMC_ERR_LOG0.BA 0 c.ba
  let s := s.setFld Fld.DMC_ERR_LOG0.ROW 0 c.row
  let s := (s.setFld Fld.DMC_ERR_LOG1.DEVICE 0 dev).setFld Fld.DMC_ERR_LOG1.COL 0 c.col
  let log1 := 128 * dev + c.col
  let log0 := 2 ^ 31 + 2 ^ 30 * bit01 uncorr + 2 ^ 28 * c.ch + 2 ^ 27 * c.sub + 2 ^ 26 * c.rank + 2 ^ 23 * c.cid + 2 ^ 20 * c.bg
    + 2 ^ 18 * c.ba + c.row
  s.trigger 0x17 UnitNo.dmc 0 (BitVec.ofNat 64 (log1 + 2 ^ 32 * log0))

/-- What the code finds in a burst read (R403 to R405). -/
def State.dramEcc (addr : Nat) (e : EccResult) (s : State) : State :=
  match e with
  | .clean => s
  | .corrected d => (s.count Fld.DMC_ECC_CNT.CORR 0 1).dramLog (s.dmc.coord addr) false d
  | .uncorrectable =>
    ((s.count Fld.DMC_ECC_CNT.UNCORR 0 1).dramLog (s.dmc.coord addr) true 0xF).modDmc fun m =>
      { m with poisoned := if m.poisoned.contains ((m.places addr).1 / 64) then m.poisoned else (m.places addr).1 / 64 :: m.poisoned }

/-- Count an activate of a row (R401): the table of a bank holds 32 rows. -/
def bumpRow (rows : List RowCount) (bank row : Nat) : List RowCount × Nat :=
  match rows.find? fun r => r.bank == bank && r.row == row with
  | some r => (rows.map fun q => if q.bank == bank && q.row == row then { q with count := q.count + 1 } else q, r.count + 1)
  | none =>
    let mine := rows.filter fun r => r.bank == bank
    if mine.length < 32 then (rows ++ [⟨bank, row, 1⟩], 1)
    else
      let low := mine.foldl (fun b r => if r.count < b.count then r else b) (mine.headD default)
      (rows.map fun q => if q.bank == bank && q.row == low.row then ⟨bank, row, low.count + 1⟩ else q, low.count + 1)

/-- Activate a row: its count, and an RFMsb when it reaches RD_THRESHOLD (R401, R402). -/
def State.activate (c : DramCoord) (s : State) : State :=
  let (rows, n) := bumpRow s.dmc.rows c.bank c.row
  if s.obj Ob.RD_THRESHOLD ≤ n then
    let s := s.modDmc fun m => { m with
      rows := rows.map fun q => if q.bank == c.bank && q.row == c.row then { q with count := 0 } else q }
    (s.count Fld.DMC_RD_MITIG.COUNT 0 1).emit (.dram c.ch c.sub .rfm)
  else s.modDmc fun m => { m with rows := rows }

/-- The page policy after an access (R395). -/
def State.pageAfter (r : DramReq) (hit : Bool) (s : State) : State :=
  let c := s.dmc.coord r.access.addr
  let keep := match dramHint r.access.from_ with
    | .close => false
    | .open_ => true
    | .none => s.dmc.hitBanks.contains c.bank
  s.modDmc fun m => { m with
    openRows := if keep then Tbl.put m.openRows c.bank (c.row, s.now) else Tbl.del m.openRows c.bank
    hitBanks := if hit then (if m.hitBanks.contains c.bank then m.hitBanks else c.bank :: m.hitBanks) else m.hitBanks.filter (· != c.bank)
    lastUse := Tbl.put m.lastUse (c.ch * 2 + c.rank) s.now
    hits := Tbl.put m.hits c.subch (if hit then Tbl.getD m.hits c.subch 0 + 1 else 0)
    powerDown := m.powerDown.filter (· != c.ch * 2 + c.rank)
    retry := Tbl.put m.retry c.subch ((r.access.addr / 64 :: Tbl.getD m.retry c.subch []).take 32) }

/-- The 64 bytes stored at a storage address, little-endian. -/
def Dmc.burst (m : Dmc) (a : Nat) : Nat := leNat (Memory.readN 0 m.bytes a 64)

/-- Bytes of a write that its mask names, at their offsets. -/
def maskedBytes (data : BitVec 512) (mask : BitVec 64) : List (Nat × Byte) :=
  (List.range 64).filterMap fun i => if mask.getLsbD i then some (i, BitVec.ofNat 8 (data.toNat / 2 ^ (8 * i))) else none

/-- Store a write at one storage address: a full burst clears the mark, a partial one keeps it (R405). -/
def Dmc.store (m : Dmc) (data : BitVec 512) (mask : BitVec 64) (a : Nat) : Dmc :=
  { m with
    bytes := (maskedBytes data mask).foldl (fun b e => Memory.write 0 b (a + e.1) e.2) m.bytes
    poisoned := if mask = BitVec.allOnes 64 then m.poisoned.filter (· != a / 64) else m.poisoned }

/-- A read's burst goes to its requester; the patrol keeps none (R406). -/
def State.dramAnswer (from_ : DramRequester) (addr data : Nat) (poison : Bool) (s : State) : State :=
  if from_ = .dmcPatrol then s else s.emit (.dramData from_ addr data poison)

/-- Serve one access (R394, R395, R401 to R405, R408, R412). -/
def State.dramServe (r : DramReq) (s : State) : State :=
  let addr := r.access.addr
  let c := s.dmc.coord addr
  let hit := s.rowHit r
  if s.dmc.dead.contains c.ch then
    match r.access.write with
    | some _ => s
    | none => s.dramAnswer r.access.from_ addr 0 true
  else
    let s := if hit then s else s.activate c
    let s := match r.access.write with
      | some (data, mask) =>
        let s := if mask = BitVec.allOnes 64 then s else s.dramEcc addr r.ecc
        s.modDmc fun m => (m.places addr).2.foldl (fun m a => m.store data mask a) m
      | none =>
        let s := s.dramEcc addr r.ecc
        let a := (s.dmc.places addr).1
        s.dramAnswer r.access.from_ addr (s.dmc.burst a) (s.dmc.poisoned.contains (a / 64))
    s.pageAfter r hit

/-- Take the next access of a subchannel, if it has one, and serve it. -/
def State.dramTurn (x : Nat) (s : State) : State :=
  match s.dramPick x with
  | some (r, turn) =>
    let drains := s.dmc.drains x
    (s.modDmc fun m => { m with
      queue := m.queue.erase r
      draining := if drains then (if m.draining.contains x then m.draining else x :: m.draining) else m.draining.filter (· != x)
      turn := match turn with
        | some (k, used) => Tbl.put m.turn x (k * 32 + used)
        | none => m.turn }).dramServe r
  | none => s

/-- Room for a request in its subchannel's queue of 64 reads and 64 writes (R396). -/
def Dmc.room (m : Dmc) (a : DramAccess) : Bool :=
  decide ((m.queued (m.coord a.addr).subch a.write.isSome).length < 64)

/-- Requests held at their requesters enter the queues as room appears, in order (R396). -/
def Dmc.enter (m : Dmc) : Dmc :=
  m.held.foldl (fun m r => if m.room r.access then { m with queue := m.queue ++ [r] } else { m with held := m.held ++ [r] })
    { m with held := [] }

/-- A cause of R414 holds: L1.2, PS4 or its entry, or a dump. -/
def State.srCause (s : State) : Bool :=
  s.hlu.power == .l12 || (s.qen.ps == 4 && s.qen.exitSince.isNone) || (s.qen.entryPend.any fun p => p.ps == 4) || s.hum.dump.isSome

/-- What entries become in a new tick, before any access is served (R412). -/
def Dmc.retTick (m : Dmc) : Dmc :=
  { m with ret := m.ret.filterMap fun e => match e.2.next with
      | some st => if st == .idle then none else some (e.1, { e.2 with status := st, refused := none, next := none })
      | none => some e }

/-- The DMC's part of a tick: retirement entries switch, held requests enter, each subchannel serves one access while not in self-refresh; a due self-refresh is entered once the queues are empty (R396, R414). -/
def State.dramTick (s : State) : State :=
  if !s.dmc.trained then s
  else
    let s := s.modDmc fun m => m.retTick.enter
    let s := if s.dmc.selfRefresh then s else (List.range (2 * s.dmc.channels)).foldl (fun s x => s.dramTurn x) s
    if s.dmc.srDue && s.srCause && s.dmc.queue.isEmpty then
      (s.modDmc fun m => { m with srDue := false, selfRefresh := true }).emit (.dram 0 0 .selfRefreshIn)
    else s

/-! ## Meanings -/

/-- A request enters its queue, or is held (R394, R396, R409). -/
def State.dramEnqueue (a : DramAccess) (ecc : EccResult) (s : State) : State :=
  let r : DramReq := { access := a, cls := dramClass a.from_, eff := dramClass a.from_, ecc := ecc, tick := s.now }
  if s.dmc.trained && s.dmc.room a && !(s.dmc.held.any fun h => (s.dmc.coord h.access.addr).subch == (s.dmc.coord a.addr).subch && h.access.write.isSome == a.write.isSome) then s.modDmc fun m => { m with queue := m.queue ++ [r] }
  else s.modDmc fun m => { m with held := m.held ++ [r] }

/-- DRAM_REQUEST (R394): drive firmware gets a bus error at or above D (R501); no other requester has such an address. -/
def execDramRequest (a : DramAccess) (ecc : EccResult) (s : State) : Host.Outcome State Fault Refusal :=
  if s.dmc.trained ∧ s.dmc.capacity ≤ a.addr then
    if a.from_ = .ccl then .next (s.emit (.busError s.ccl.owner 0)) else .fault (.noDramAddress a.addr)
  else .next (s.dramEnqueue a ecc)

/-- The request waiting longest of a class that has not been promoted. -/
def Dmc.oldest (m : Dmc) (c : DramClass) : Option DramReq := m.queue.find? fun r => r.cls == c && r.eff == c

/-- DRAM_AGE_PROMOTION (R397): MAP-N served as MAP-U after AGE_MAPN_NS, BULK as MAP-N after AGE_BULK_US. -/
def execDramAgePromotion (mapN : Bool) (s : State) : Host.Outcome State Fault Refusal :=
  match s.dmc.oldest (if mapN then .mapN else .bulk) with
  | some r =>
    if s.passed r.tick (if mapN then nsTicks (s.obj Ob.AGE_MAPN_NS) else usTicks (s.obj Ob.AGE_BULK_US)) then
      .next ((s.modDmc fun m => { m with queue := m.queue.replace r { r with eff := if mapN then .mapU else .mapN } }).count
        (if mapN then Fld.DMC_AGE_CNT.MAPN else Fld.DMC_AGE_CNT.BULK) 0 1)
    else .next s
  | none => .next s

/-- Refreshes that may be postponed: 4 tREFI, which are 16 same-bank intervals (R400). -/
def State.postponeMax (s : State) : Nat := if s.objB Ob.REFSB_EN then 16 else 4

/-- The refresh interval in ticks (R400): tREFI, a quarter of it for REFsb, and half as long while HOT. -/
def State.refInterval (s : State) : Nat := nsTicks ((if s.dmc.hot then 1950 else 3900) / (if s.objB Ob.REFSB_EN then 4 else 1))

/-- A refresh falls due on a subchannel. -/
def State.refDue (s : State) (x : Nat) : Bool := (Tbl.find? s.dmc.refAt x).all fun t => s.passed t s.refInterval

/-- The refresh that falls due counts from the tick at which it was due, so that the intervals average to theirs. -/
def State.refTaken (x : Nat) (s : State) : State :=
  s.modDmc fun m => { m with refAt := Tbl.put m.refAt x ((Tbl.find? m.refAt x).elim s.now fun t => t + BitVec.ofNat 64 s.refInterval) }

/-- DRAM_REFRESH (R400): due on a subchannel; postponed while MAP-U or RT requests wait there, within the bound, else issued with the postponed ones. -/
def execDramRefresh (ch sub : Nat) (s : State) : Host.Outcome State Fault Refusal :=
  let x := ch * 2 + sub
  let n := Tbl.getD s.dmc.postponed x 0
  if !s.dmc.trained || s.dmc.selfRefresh || !s.refDue x then .next s
  else if (s.dmc.queue.any fun r => (s.dmc.coord r.access.addr).subch == x && (r.eff == .mapU || r.eff == .rt))
      && decide (n + 1 < s.postponeMax) then
    .next ((s.refTaken x).modDmc fun m => { m with postponed := Tbl.setD m.postponed x (n + 1) 0 })
  else
    let cmd := if s.objB Ob.REFSB_EN then DramCmd.refreshSameBank else DramCmd.refreshAll
    .next ((List.range (n + 1)).foldl (fun s _ => s.emit (.dram ch sub cmd))
      ((s.refTaken x).modDmc fun m => { m with postponed := Tbl.del m.postponed x, openRows := m.openRows.filter fun e => e.1 / 512 != x }))

/-- MR4_READ (R400): every 16 ms; hot above 85 °C. -/
def execMr4Read (tempC : Int) (s : State) : Host.Outcome State Fault Refusal :=
  if s.dmc.mr4At.all fun t => s.passed t (msTicks 16) then
    .next (s.modDmc fun m => { m with hot := decide (85 < tempC), mr4At := some ((m.mr4At.map fun t => s.lastDue t (msTicks 16)).getD s.now) })
  else .next s

/-- ROW_TABLE_CLEAR (R401): every 32 ms. -/
def execRowTableClear (s : State) : Host.Outcome State Fault Refusal :=
  if s.passed s.timers.rowClear (msTicks 32) then
    .next ((s.modDmc fun m => { m with rows := [] }).modTimers fun t => { t with rowClear := s.lastDue t.rowClear (msTicks 32) })
  else .next s

/-- PATROL_SCRUB (R406): one burst of the DRAM is read, at BULK class. -/
def execPatrolScrub (addr : Nat) (ecc : EccResult) (s : State) : Host.Outcome State Fault Refusal :=
  if !s.dmc.trained || s.dmc.selfRefresh then .next s
  else if s.dmc.capacity ≤ addr then .fault (.noDramAddress addr)
  else .next (s.dramEnqueue { addr := addr, from_ := .dmcPatrol, write := none } ecc)

/-- Alerts of a channel within the last 1 ms. -/
def State.recentAlerts (s : State) (ch : Nat) : List Dword :=
  (Tbl.getD s.dmc.alerts ch []).filter fun t => decide (s.since t < msTicks 1)

/-- The channel was retrained within the last 1 ms (R408). -/
def State.justRetrained (s : State) (ch : Nat) : Bool :=
  match Tbl.find? s.dmc.retrained ch with
  | some t => decide (s.since t < msTicks 1)
  | none => false

/-- A channel is marked dead (R408). -/
def State.channelDead (ch : Nat) (s : State) : State :=
  (((s.modDmc fun m => { m with dead := if m.dead.contains ch then m.dead else ch :: m.dead }).raiseExc UnitNo.dmc ch 1 ch).trigger
    0x18 UnitNo.dmc ch 0).health Health.dram UnitNo.dmc

/-- CA and CS of a channel are retrained (R408). -/
def State.caRetrain (ch : Nat) (s : State) : State :=
  (((s.count Fld.DMC_ALERT_CNT.RETRAIN 0 1).modDmc fun m => { m with
      retrained := Tbl.put m.retrained ch s.now, alerts := Tbl.del m.alerts ch }).emit (.dram ch 0 .caTrain)).trigger 0x18 UnitNo.dmc ch 0

/-- All banks of a channel are precharged, and the commands that its retry buffers hold are issued again (R407). -/
def State.replayCmds (ch : Nat) (s : State) : State :=
  [0, 1].foldl (fun s sub => if Tbl.getD s.dmc.retry (ch * 2 + sub) [] = [] then s else s.emit (.dram ch sub .replay))
    (((s.count Fld.DMC_ALERT_CNT.REPLAY 0 1).modDmc fun m => { m with openRows := m.openRows.filter fun e => e.1 / 1024 != ch }).emit (.dram ch 0 .prechargeAll))

/-- DRAM_ALERT (R407, R408): banks precharged and unconfirmed commands replayed; retraining after REPLAY_MAX alerts in 1 ms; dead when one follows within 1 ms of the retraining. -/
def execDramAlert (ch : Nat) (s : State) : Host.Outcome State Fault Refusal :=
  if !s.dmc.trained || s.dmc.dead.contains ch then .next s
  else
    let s := s.replayCmds ch
    if s.justRetrained ch then .next (s.channelDead ch)
    else
      let recent := s.now :: s.recentAlerts ch
      if s.obj Ob.REPLAY_MAX ≤ recent.length then .next (s.caRetrain ch)
      else .next (s.modDmc fun m => { m with alerts := Tbl.put m.alerts ch recent })

/-- The population is one of Table 14.1. -/
def dramSupported (chMask : BitVec 4) (ranks : Nat) (dens32 : Bool) (cidBits : Nat) : Bool :=
  let n := if chMask = 0xF then 4 else 2
  let gib := n * ranks * 16 * (if dens32 then 4 else 2) * 2 ^ cidBits
  (chMask == 0x3 || chMask == 0xF) && (ranks == 1 || ranks == 2) && decide (cidBits ≤ 3) && decide (64 ≤ gib) && decide (gib ≤ 512)

/-- Retirement entries as the stored records give them, ACTIVE where enabled (R413). -/
def State.storedRetirement (s : State) : List (Nat × RetEntry) :=
  (List.range 64).filterMap fun i =>
    let c := BitVec.ofNat 32 (s.obj Ob.RETIRE.COORD i)
    if retEn c then some (i, { status := .active, refused := none, next := none, coord := c, span := s.obj Ob.RETIRE.SPAN i, target := s.obj Ob.RETIRE.TARGET i })
    else none

/-- DRAM_TRAINING (R391, R409): in Stair; a population outside Table 14.1 or a failure leaves TRAINED 0 and the controller in Stair with START_KIND 0b101. -/
def execDramTraining (chMask : BitVec 4) (ranks : Nat) (dens32 : Bool) (cidBits : Nat) (passed : Bool) (s : State) :
    Host.Outcome State Fault Refusal :=
  if s.power.stage ≠ .stair then .next s
  else if passed && dramSupported chMask ranks dens32 cidBits then
    .next ((s.modDmc fun m => { m with
      trained := true, begun := true, chMask := chMask, ranks := ranks, dens32 := dens32, cidBits := cidBits, mts := s.obj Ob.RATE_MTS
      dead := [], openRows := [], ret := s.storedRetirement }).healthClear Health.dram)
  else .next ((s.modDmc fun m => { m with trained := false, begun := true }).modPower fun p => { p with startKind := .held })

/-- DQS_OSCILLATOR_READ (R410): in Hall, every OSC_MS; where the drift needs it, the write DQ delays are adjusted. -/
def execDqsOscillatorRead (ch : Nat) (drift : Bool) (s : State) : Host.Outcome State Fault Refusal :=
  if s.power.stage = .hall ∧ s.dmc.trained = true ∧ (Tbl.find? s.dmc.oscRead ch).all (fun t => s.passed t (msTicks (s.obj Ob.OSC_MS))) = true then
    .next (s.modDmc fun m => { m with
      oscRead := Tbl.put m.oscRead ch s.now
      dqAdjust := if drift then Tbl.put m.dqAdjust ch (Tbl.getD m.dqAdjust ch 0 + 1) else m.dqAdjust })
  else .next s

/-- DRAM_ZQ_CALIBRATION (R410): every 128 ms in Hall. -/
def execDramZqCalibration (s : State) : Host.Outcome State Fault Refusal :=
  if s.power.stage = .hall ∧ s.dmc.trained = true ∧ s.passed s.timers.dramZq (msTicks 128) = true then
    .next ((List.range s.dmc.channels).foldl (fun s c => s.emit (.dram c 0 .zq)) (s.modTimers fun t => { t with dramZq := s.lastDue t.dramZq (msTicks 128) }))
  else .next s

/-- A channel is retrained fully. -/
def State.dramTrain (ch : Nat) (s : State) : State :=
  if s.dmc.trained then
    (s.modDmc fun m => { m with openRows := m.openRows.filter fun e => e.1 / 1024 != ch }).emit (.dram ch 0 .caTrain)
  else s

/-- DRAM_RETRAIN (R410): channel `ch` is retrained fully. -/
def execDramRetrain (ch : Nat) (s : State) : Host.Outcome State Fault Refusal := .next (s.dramTrain ch)

/-- The instance of the cluster that owns the epoch (19: each cluster has its own selectors). -/
def State.ownerInst (s : State) : Nat := if s.ccl.owner = .a then 0 else 1

/-- An entry as its registers hold it (Table 14.4). -/
def State.retFromRegs (s : State) (e : Nat) : RetEntry :=
  { status := .copying, refused := none, next := none
    coord := BitVec.ofNat 32 (2 ^ 31 * s.fld Fld.DMC_RET_COORD.EN e + 2 ^ 30 * s.fld Fld.DMC_RET_COORD.WHOLE_BANK e
      + 2 ^ 18 * s.fld Fld.DMC_RET_COORD.COORD e + s.fld Fld.DMC_RET_COORD.ROW_FIRST e)
    span := s.fld Fld.DMC_RET_SPAN.ROW_COUNT e
    target := s.fld Fld.DMC_RET_TARGET.OFF_8K e }

/-- The coordinates of an entry's last row and last burst. -/
def Dmc.lastOf (m : Dmc) (e : RetEntry) : DramCoord :=
  { ch := bitsOf e.coord.toNat 29 28, sub := bitsOf e.coord.toNat 27 27, rank := bitsOf e.coord.toNat 26 26
    cid := bitsOf e.coord.toNat 25 23, bg := bitsOf e.coord.toNat 22 20, ba := bitsOf e.coord.toNat 19 18
    row := (e.rows m.rowCount).1 + (e.rows m.rowCount).2 - 1, col := 127 }

/-- Two ranges overlap. -/
def Dmc.overlap (m : Dmc) (e f : RetEntry) : Bool :=
  e.sameBank (m.lastOf f) && decide ((e.rows m.rowCount).1 < (f.rows m.rowCount).1 + (f.rows m.rowCount).2)
    && decide ((f.rows m.rowCount).1 < (e.rows m.rowCount).1 + (e.rows m.rowCount).2)

/-- Why GO is refused (R411), or none. -/
def Dmc.retRefusal (m : Dmc) (n : Nat) (e : RetEntry) : Option RetStatus :=
  if m.ret.any fun f => f.1 != n && (f.2.status == .active || f.2.status == .copying) && m.overlap f.2 e then some .overlap
  else if m.spareBase ≤ m.addrOf (m.lastOf e) + 63 then some .outOfRange
  else if 2 ^ 20 * m.spareMib < 8192 * (e.target + (e.rows m.rowCount).2) then some .outOfRange
  else if !retWhole e.coord && decide (m.rowCount < retRow e.coord + e.span) then some .outOfRange
  else none

/-- An entry is STORED (R413). -/
def State.retStore (n : Nat) (e : RetEntry) (s : State) : State :=
  ((s.putSheet Ob.RETIRE.COORD (0x4801 + n) 1 e.coord.toNat).putSheet Ob.RETIRE.SPAN (0x4801 + n) 2 e.span).putSheet Ob.RETIRE.TARGET (0x4801 + n) 3 e.target

/-- GO for entry `n` (R411, R412): with EN = 0 its redirection ends from the next tick. A refusal changes nothing but STATUS. -/
def State.retireGo (n : Nat) (s : State) : State :=
  let e := s.retFromRegs n
  let old := (Tbl.find? s.dmc.ret n).getD { e with status := .idle }
  if !retEn e.coord then (s.modDmc fun m => { m with ret := Tbl.put m.ret n { old with refused := none, next := some .idle } }).retStore n e
  else
    match s.dmc.retRefusal n e with
    | some st => s.modDmc fun m => { m with ret := Tbl.put m.ret n { old with refused := some st } }
    | none => (s.modDmc fun m => { m with ret := Tbl.put m.ret n e }).retStore n e

/-- The retirement registers take the stored entries at entry to Stair (Table 14.4). -/
def State.retReload (s : State) : State :=
  ((List.range 64).filter fun i => s.obj Ob.RETIRE.COORD i != 0).foldl (fun s i =>
    let c := BitVec.ofNat 32 (s.obj Ob.RETIRE.COORD i)
    (((((s.setFld Fld.DMC_RET_COORD.EN i (bit01 (retEn c))).setFld Fld.DMC_RET_COORD.WHOLE_BANK i (bit01 (retWhole c))).setFld
      Fld.DMC_RET_COORD.COORD i (bitsOf c.toNat 29 18)).setFld Fld.DMC_RET_COORD.ROW_FIRST i (retRow c)).setFld
      Fld.DMC_RET_SPAN.ROW_COUNT i (s.obj Ob.RETIRE.SPAN i)).setFld Fld.DMC_RET_TARGET.OFF_8K i (s.obj Ob.RETIRE.TARGET i)) s

/-- RETIRE_GO (R411, R412): the entry that the owner's DMC_RET_SEL names. With EN = 0 its redirection ends. -/
def execRetireGo (s : State) : Host.Outcome State Fault Refusal := .next (s.retireGo (s.fld Fld.DMC_RET_SEL.ENTRY s.ownerInst))

/-- The bytes of an entry's range copied to its target, poison with them (R412). -/
def Dmc.copyRange (m : Dmc) (e : RetEntry) : Dmc :=
  let base := m.spareBase + 8192 * e.target
  let size := 8192 * (e.rows m.rowCount).2
  let src := m.bytes.filter fun b => e.holds m.rowCount (m.coord b.1)
  let srcPoison := m.poisoned.filter fun p => e.holds m.rowCount (m.coord (p * 64))
  { m with
    bytes := src.foldl (fun bs b => Memory.write 0 bs (m.targetAddr e (m.coord b.1) + b.1 % 64) b.2) (Memory.clearRange m.bytes base size)
    poisoned := (m.poisoned.filter fun p => !(base ≤ p * 64 && p * 64 < base + size))
      ++ srcPoison.map fun p => m.targetAddr e (m.coord (p * 64)) / 64 }

/-- RETIRE_COPY_DONE (R412): the last burst of a COPYING entry is copied; it is ACTIVE from the next tick, and a write of this tick reaches both copies. -/
def execRetireCopyDone (n : Nat) (s : State) : Host.Outcome State Fault Refusal :=
  match Tbl.find? s.dmc.ret n with
  | some e =>
    if e.status = .copying ∧ e.next = none then
      .next (s.modDmc fun m => { m.copyRange e with ret := Tbl.put m.ret n { e with next := some .active } })
    else .next s
  | none => .next s

/-- The DRAM enters self-refresh (R414): deferred while requests are queued, but for a dump. -/
def State.srEnter (s : State) : State :=
  if !s.dmc.trained || s.dmc.selfRefresh || !s.srCause then s
  else if s.hum.dump.isSome then
    (s.modDmc fun m => { m with selfRefresh := true, srDump := true, srDue := false }).emit (.dram 0 0 .selfRefreshIn)
  else if s.dmc.queue.isEmpty then
    (s.modDmc fun m => { m with selfRefresh := true, srDue := false }).emit (.dram 0 0 .selfRefreshIn)
  else (s.count Fld.DMC_SR_STS.DEFER 0 1).modDmc fun m => { m with srDue := true }

/-- SELF_REFRESH_ENTRY (R414). -/
def execSelfRefreshEntry (s : State) : Host.Outcome State Fault Refusal := .next s.srEnter

/-- The DRAM leaves self-refresh (R415): not while a dump holds it (R359). -/
def State.srExit (s : State) : State :=
  if s.dmc.selfRefresh && !s.dmc.srDump then (s.modDmc fun m => { m with selfRefresh := false }).emit (.dram 0 0 .selfRefreshOut)
  else s.modDmc fun m => { m with srDue := false }

/-- SELF_REFRESH_EXIT (R415): once no cause of R414 holds. -/
def execSelfRefreshExit (s : State) : Host.Outcome State Fault Refusal := .next (if s.srCause then s else s.srExit)

/-- RANK_POWER_DOWN (R416): a rank that has had no access for PD_IDLE_NS and has none waiting; never with PD_IDLE_NS = 0. -/
def execRankPowerDown (ch rank : Nat) (s : State) : Host.Outcome State Fault Refusal :=
  if s.dmc.trained && s.obj Ob.PD_IDLE_NS != 0 && !s.dmc.selfRefresh && !s.dmc.powerDown.contains (ch * 2 + rank) && (Tbl.find? s.dmc.lastUse (ch * 2 + rank)).all (fun t => s.passed t (nsTicks (s.obj Ob.PD_IDLE_NS)))
      && !(s.dmc.queue.any fun r => (s.dmc.coord r.access.addr).ch == ch && (s.dmc.coord r.access.addr).rank == rank) then
    .next ((s.modDmc fun m => { m with powerDown := (ch * 2 + rank) :: m.powerDown }).emit (.dram ch 0 .powerDown))
  else .next s

end Sys2Proof.Machine
end

