-- ==== Sys2Proof/Machine/HoldUp.lean ====
section
/-! DEFINITION. Hold-Up Manager (spec/12): the store's voltage and energy, the states of Table 12.2, the discharge test. The dump stands in Dump.lean. -/

namespace Sys2Proof.Machine

/-- Store voltage in mV of a sample: 1.2 V full scale, divider SENSE_DIV ÷ 100 (Table 12.1). -/
def State.mvOf (s : State) (code : Nat) : Nat := 1200 * code * s.obj Ob.SENSE_DIV / (4096 * 100)

/-- Store voltage of the last sample. -/
def State.storeMv (s : State) : Nat := s.mvOf s.hum.code.toNat

/-- A voltage of a test: the mean of 16 samples (R356). -/
def State.meanMv (s : State) : Nat := s.mvOf ((s.hum.codes.map BitVec.toNat).sum / max 1 s.hum.codes.length)

/-- E(V) of R352 in mJ, from µF and mV. -/
def State.energyOf (s : State) (uf mv : Nat) : Nat :=
  uf * (mv * mv - s.obj Ob.VMIN_MV * s.obj Ob.VMIN_MV) * s.obj Ob.EFF_PCT / (200 * 1000000000)

/-- The sample lies between 5 % and 95 % of full scale (R354). -/
def senseInBand (code : BitVec 12) : Bool := decide (5 * 4096 ≤ 100 * code.toNat) && decide (100 * code.toNat ≤ 95 * 4096)

/-- The last test passed and ended less than TEST_PERIOD_H + 1 h ago (R354). -/
def State.testFresh (s : State) : Bool :=
  match s.hum.lastTest with
  | some t => s.hum.lastPass && !s.passed t (hourTicks (s.obj Ob.TEST_PERIOD_H + 1))
  | none => false

/-- Every condition of R354 holds. -/
def State.holdupOk (s : State) : Bool :=
  s.testFresh && decide (s.obj Ob.ENERGY_MIN_MJ ≤ s.hum.energy) && senseInBand s.hum.code && s.hum.areaReady

/-- A HUM state change (R353, R355): recorded; HOLDUP health while DEGRADED or ABSENT; the Critical Warnings event on entry to DEGRADED. -/
def State.setHum (st : HumState) (s : State) : State :=
  if s.hum.state = st then s
  else
    let s := (s.modHum fun h => { h with state := st }).trigger 0x1F UnitNo.hum 0 0
    let s := s.healthLevel Health.holdup UnitNo.hum (st == .degraded || st == .absent)
    if st = .degraded then (s.flag Fld.HUM_EVT.DEGRADED 0 1).criticalWarn 4 0 else s

/-- R354 applied now: VERIFIED or, after the first test, DEGRADED. -/
def State.humEval (s : State) : State :=
  match s.hum.state with
  | .charging => if s.hum.tested then s.setHum (if s.holdupOk then .verified else .degraded) else s
  | .verified | .degraded => s.setHum (if s.holdupOk then .verified else .degraded)
  | .init | .absent | .dump => s

/-- A write of an object that R370 names: DEGRADED until a test passes. -/
def State.humInvalidate (s : State) : State :=
  if s.hum.state = .absent ∨ s.hum.state = .dump then s
  else (s.modHum fun h => { h with lastPass := false }).setHum .degraded

/-- Initialisation at the boot ROM start (Table 12.2). -/
def State.humInit (s : State) : State :=
  (s.modHum fun h => { h with reached := false, tested := false, testDue := false, lastPass := false, lastTest := none }).setHum
    (if s.objB Ob.PRESENT then .charging else .absent)

/-- Event of class 3, or the end of a dump (Tables 12.2 and 12.6). -/
def State.resetHum (s : State) : State :=
  (s.modHum fun h => { h with
    reached := false, tested := false, testDue := false, lastPass := false, lastTest := none, test := none, result := .none
    code := 0, codes := [], energy := 0, loaded := false }).setHum .init

/-- ENERGY_ESTIMATE (R354): every 100 µs, from the HOLDUP_SENSE samples taken since the last one. -/
def execEnergyEstimate (codes : List (BitVec 12)) (s : State) : Out :=
  if s.passed s.timers.energy (usTicks 100) then
    let code := codes.getLast?.getD s.hum.code
    let s := (s.modHum fun h => { h with code := code, codes := (h.codes ++ codes).drop ((h.codes ++ codes).length - 16) }).modTimers fun t => { t with energy := s.lastDue t.energy (usTicks 100) }
    let s := s.modHum fun h => { h with energy := s.energyOf h.capUf s.storeMv }
    let s := if senseInBand code then s else s.flag Fld.HUM_EVT.SENSE_FAULT 0 1
    let s := if s.hum.energy < s.obj Ob.ENERGY_MIN_MJ then s.flag Fld.HUM_EVT.ENERGY_LOW 0 1 else s
    .next s.humEval
  else .next s

/-- STORE_CHARGED (R353, Table 12.2): the store first reaches CHARGED_PCT of FULL_MV; HOLDUP_EN goes high. -/
def execStoreCharged (s : State) : Out :=
  if s.hum.state = .charging ∧ s.obj Ob.CHARGED_PCT * s.obj Ob.FULL_MV ≤ 100 * s.storeMv then
    .next (s.modHum fun h => { h with reached := true })
  else .next s

/-- A test can run in this HUM state: the store has reached CHARGED_PCT of FULL_MV and none runs. -/
def State.testable (s : State) : Bool :=
  s.hum.test.isNone && s.power.stage == .hall
    && ((s.hum.state == .charging && s.hum.reached) || s.hum.state == .verified || s.hum.state == .degraded)

/-- A discharge test begins (R356): CHG_CTL goes low. -/
def State.startTest (s : State) : State :=
  s.modHum fun h => { h with test := some { mv := s.meanMv, tick := s.now }, testDue := false }

/-- A test asked for: started, or deferred in PS3 and PS4 (R356). -/
def State.testGo (s : State) : State :=
  if s.testable then
    if 3 ≤ s.qen.ps then s.modHum fun h => { h with testDue := true } else s.startTest
  else s

/-- A test falls due (R356): the first, TEST_PERIOD_H after the last, or 10 min after it while DEGRADED. -/
def State.testFallsDue (s : State) : Bool :=
  s.hum.lastTest.all fun t => s.passed t (hourTicks (s.obj Ob.TEST_PERIOD_H)) || (s.hum.state == .degraded && s.passed t (secTicks 600))

/-- DISCHARGE_TEST_START (R356): a test falls due; in PS3 or PS4 it waits for an operational state. HUM_TEST_CTL.GO starts one where it is written. -/
def execDischargeTestStart (s : State) : Out := .next (if s.testFallsDue then s.testGo else s)

/-- The store has fallen by TEST_DROP_PCT, or TEST_MAX_MS has elapsed (R356). -/
def State.testOver (s : State) (t : HumTest) : Bool :=
  decide (100 * s.meanMv ≤ t.mv * (100 - s.obj Ob.TEST_DROP_PCT)) || s.passed t.tick (msTicks (s.obj Ob.TEST_MAX_MS))

/-- C of a test that ends now, in µF. -/
def State.testCap (s : State) (t : HumTest) : Nat :=
  Config.capacitance (s.since t.tick / 800) (s.obj Ob.BLEED_OHM) t.mv s.meanMv

/-- A passing test (R357): C in LAST_CAP_UF, the fleet time in LAST_TEST. -/
def State.testPass (c : Nat) (s : State) : State :=
  (((s.modHum fun h => { h with
    test := none, result := .pass, lastTest := some s.now, lastPass := true, tested := true, capUf := c, loaded := true }).setObj
    Ob.LAST_CAP_UF c).setObj Ob.LAST_TEST s.tbu.fleet.toNat).trigger 0x1F UnitNo.hum 0 0

/-- A failing test (R357). -/
def State.testFail (s : State) : State :=
  ((s.modHum fun h => { h with test := none, result := .fail, lastTest := some s.now, lastPass := false, tested := true }).flag
    Fld.HUM_EVT.TEST_FAIL 0 1).trigger 0x1F UnitNo.hum 0 0

/-- DISCHARGE_TEST_END (R356, R357). -/
def execDischargeTestEnd (s : State) : Out :=
  match s.hum.test with
  | some t =>
    if s.testOver t then
      if s.obj Ob.ENERGY_MIN_MJ ≤ s.energyOf (s.testCap t) t.mv then .next (s.testPass (s.testCap t)).humEval
      else .next s.testFail.humEval
    else .next s
  | none => .next s

/-- HOLDUP_EN (Table 12.2). -/
def State.holdupEn (s : State) : Bool :=
  match s.hum.state with
  | .init | .absent => false
  | .charging => s.hum.reached
  | .verified | .degraded => true
  | .dump => s.hum.dump.any fun d => d.armed

/-- CHG_CTL (Table 12.2): low during a test. -/
def State.chgCtl (s : State) : Bool :=
  match s.hum.state with
  | .init | .absent => false
  | .charging | .verified | .degraded => s.hum.test.isNone
  | .dump => s.hum.dump.any fun d => d.chg

end Sys2Proof.Machine
end

