-- ==== Sys2Proof/Machine/Clusters.lean ====
section
/-! DEFINITION. Control Clusters (spec/15): states, epochs, cuts, the script, and the meanings of the cluster commands. EPOCH_TAKE and CUT_REQ stand in Takes.lean and Management.lean, with what else they do. -/

namespace Sys2Proof.Machine

/-! ## Clusters -/

/-- The other cluster. -/
def otherCluster : Cluster → Cluster
  | .a => .b
  | .b => .a

/-- Instance number of a cluster (R422). -/
def clusterNo : Cluster → Nat
  | .a => 0
  | .b => 1

/-- State of a cluster. -/
def Ccl.st (c : Ccl) : Cluster → ClusterState
  | .a => c.stA
  | .b => c.stB

/-- Move a cluster to a state. -/
def Ccl.setSt (c : Ccl) (k : Cluster) (st : ClusterState) : Ccl :=
  match k with
  | .a => { c with stA := st }
  | .b => { c with stB := st }

/-- Ticks of a cluster's failures. -/
def Ccl.fails (c : Ccl) : Cluster → List Dword
  | .a => c.failsA
  | .b => c.failsB

/-- A failure of a cluster at a tick. -/
def Ccl.addFail (c : Ccl) (k : Cluster) (t : Dword) : Ccl :=
  match k with
  | .a => { c with failsA := t :: c.failsA }
  | .b => { c with failsB := t :: c.failsB }

/-- A cut gap is in progress (CCL_STS.GAP). -/
def State.gapped (s : State) : Bool := s.ccl.gap.isSome

/-- The owner gives commands: it is ACTIVE and no gap is in progress. -/
def State.ruled (s : State) : Bool := !s.gapped && s.ccl.st s.ccl.owner == .active

/-- A cluster becomes FAILED: its failure is noted and recorded (R432, Table 18.1). -/
def State.failCluster (k : Cluster) (s : State) : State :=
  (s.modCcl fun c => (c.setSt k .failed).addFail k s.now).trigger 0x1B UnitNo.ccl (clusterNo k) 0

/-- NO_CLUSTER is set, with its health event (R431). -/
def State.noClusterLeft (s : State) : State :=
  (s.modCcl fun c => { c with noCluster := true }).health Health.cluster UnitNo.ccl

/-! ## Epochs -/

/-- A unit accepts a command with these low epoch bits (R421). Within a gap the old epoch is refused from the fence tick on (R424). -/
def State.epochOk (s : State) (e : BitVec 8) : Bool :=
  let open_ := !s.passedSome s.ccl.lastCut 1600
  (e == s.ccl.epoch.setWidth 8 && (!s.gapped || open_)) ||
    (e == (s.ccl.epoch - 1).setWidth 8 && s.ccl.lastCut.isSome && open_)

/-- Command kinds that a refusal records (R420, R421). -/
def epochKindWrite := 0
def epochKindSubmit := 1
def epochKindScript := 2
def epochKindSheet := 3

/-- A refused command (R421): counted and recorded, without effect. -/
def State.epochRefuse (unit kind : Nat) (e : BitVec 8) (s : State) : State :=
  (s.count Fld.CCL_CUT_CNT.REFUSED 0 1).trigger 0x1A UnitNo.ccl (1024 * unit + 256 * kind + e.toNat) 0

/-! ## The cut -/

/-- The other cluster can take over (R423). -/
def State.standbyReady (s : State) : Bool := s.ccl.st (otherCluster s.ccl.owner) == .standby

/-- Code of a cut cause (Table 15.2); a fallback's restart is an activation of the archive's take. -/
def cutCode : CutCause → Nat
  | .lockstep => 1
  | .memory => 2
  | .selftest => 3
  | .watchdog => 4
  | .planned => 5
  | .activation | .fallback => 6

/-- A cause by which the old cluster ends in SYNC (Table 15.2). -/
def cutPlanned : CutCause → Bool
  | .planned | .activation | .fallback => true
  | _ => false

/-- Cut tick t (R422, R424): the owner loses the right to give commands. Without a stand-in the restart is solo and a failed owner is FAILED at once (R431). -/
def State.beginCut (cause : CutCause) (s : State) : State :=
  let solo := !s.standbyReady
  let loser := s.ccl.owner
  let s := s.sample 5
  let n := s.obj Ob.CUT_COUNT
  let s := (s.count Fld.CCL_CUT_CNT.CUTS 0 1).setObj Ob.CUT_COUNT (min 0xFFFFFFFF (n + 1))
  let s := (s.modCcl fun c => { c with
    gap := some { start := s.now, cause := cause, loser := loser, solo := solo, before := n }
    lastCut := some s.now, fence := some (loser, cause), planned := none }).modFca fun f => { f with gapHeld := true }
  if solo && !cutPlanned cause then s.failCluster loser else s

/-- A planned cut is requested (R423): accepted only with a stand-in; the cut follows when the script is flushed. -/
def State.planCut (cause : CutCause) (s : State) : State :=
  if !s.standbyReady then s.flag Fld.CCL_STS.CUT_DENY 0 1
  else if s.ruled && s.ccl.planned.isNone then s.modCcl fun c => { c with planned := some cause }
  else s

/-- CUT_FAULT (R422, causes 1 to 3): the active cluster gives up control by itself. -/
def execCutFault (cause : FaultCause) (s : State) : Out :=
  if s.ruled then
    match cause with
    | .lockstep => .next (s.beginCut .lockstep)
    | .memory => .next (s.beginCut .memory)
    | .selftest => .next (s.beginCut .selftest)
  else .next s

/-- WATCHDOG_EXPIRY (R422, cause 4): no heartbeat for WD_US. -/
def execWatchdogExpiry (s : State) : Out :=
  if s.ruled && s.passed s.ccl.heartbeat (usTicks (s.obj Ob.WD_US)) then .next (s.beginCut .watchdog) else .next s

/-- A heartbeat restarts the watchdog (R430). -/
def State.heartbeat (s : State) : State := s.modCcl fun c => { c with heartbeat := s.now }

/-- HEARTBEAT_WRITE (R430): any write restarts the watchdog. -/
def execHeartbeatWrite (_cluster : Cluster) (epoch : BitVec 8) (s : State) : Out :=
  if s.epochOk epoch then .next s.heartbeat
  else .next (s.epochRefuse UnitNo.ccl epochKindWrite epoch)

/-- CUT_GO (R423). -/
def execCutGo (s : State) : Out := .next (s.planCut .planned)

/-- CUT_FENCE (R424): from t + 1,600 the old cluster is held in reset; it is FAILED, or in SYNC after a planned cut (Table 15.2). -/
def execCutFence (s : State) : Out :=
  match s.ccl.fence with
  | some (k, cause) =>
    if s.passedSome s.ccl.lastCut 1600 then
      let s := s.modCcl fun c => { c with fence := none, scriptHeld := [] }
      if cutPlanned cause then .next (s.modCcl fun c => { c.setSt k .sync with scriptR := c.ckptAt })
      else if s.ccl.st k = .active then .next (s.failCluster k)
      else .next s
    else .next s
  | none => .next s

/-- The cluster that takes the epoch: the stand-in, in a solo restart the first in STANDBY (R424, R431). -/
def State.taker (s : State) : Option Cluster :=
  if s.ccl.stA == .standby then some .a else if s.ccl.stB == .standby then some .b else none

/-- Tick f of a cut (R424): the taker owns epoch E + 1 and becomes ACTIVE; the cut is recorded (Table 18.3). -/
def State.takeEpoch (k : Cluster) (g : Gap) (s : State) : State :=
  let ticks := min 0xFFFFFFFF (s.since g.start)
  let s := s.modCcl fun c => { c.setSt k .active with
    epoch := c.epoch + 1, owner := k, gap := none, lastCause := cutCode g.cause, lastFrom := clusterNo g.loser, lastGap := ticks
    heartbeat := s.now, rotateTick := s.now, selftestTick := s.now, scriptR := c.scriptW }
  (s.modFca fun f => { f with gapHeld := false }).trigger 0x19 UnitNo.ccl (clusterNo g.loser)
    (BitVec.ofNat 64 (cutCode g.cause + clusterNo g.loser * 16 + ticks * 32))

/-! ## Self-test, synchronisation, repair -/

/-- CLUSTER_SELFTEST_END (R419): SYNC on a pass, FAILED on a fail; in a solo restart that leaves no cluster, NO_CLUSTER (R431). -/
def execClusterSelftestEnd (k : Cluster) (pass : Bool) (s : State) : Out :=
  if s.ccl.st k = .selftest then
    if pass then .next (s.modCcl fun c => { c.setSt k .sync with scriptR := c.ckptAt })
    else
      let t := s.failCluster k
      if (t.ccl.gap.any fun g => g.solo) && (t.ccl.st (otherCluster k) == .failed || (t.ccl.st (otherCluster k) == .reset && !t.ccl.leave.contains (otherCluster k))) then .next t.noClusterLeft else .next t
  else .next s

/-- Unreplayed script bytes: none without a cluster that replays (CCL_SCRIPT_STS.LAG_BYTES). -/
def Ccl.lag (c : Ccl) : Nat :=
  if c.st .a == .sync || c.st .a == .standby || c.st .b == .sync || c.st .b == .standby then c.scriptW - c.scriptR else 0

/-- CLUSTER_SYNC_DONE (R419): the lag is within SCRIPT_LAG_MAX. -/
def execClusterSyncDone (k : Cluster) (s : State) : Out :=
  if s.ccl.st k = .sync ∧ s.ccl.lag ≤ s.obj Ob.SCRIPT_LAG_MAX then
    .next ((s.modCcl fun c => { c.setSt k .standby with selftestTick := s.now }).trigger 0x1B UnitNo.ccl (clusterNo k) 0)
  else .next s

/-- Failures of a cluster in the last 24 h (R432). -/
def State.recentFails (s : State) (k : Cluster) : Nat := ((s.ccl.fails k).filter fun t => !s.passed t (hourTicks 24)).length

/-- CLUSTER_REPAIR (R432): a FAILED cluster returns to RESET 1 s after its failure, and from there to its self-test. -/
def execClusterRepair (k : Cluster) (s : State) : Out :=
  if s.ccl.st k = .failed ∧ (s.ccl.gap.any fun g => g.solo) = false ∧ s.objB Ob.AUTO_REPAIR = true
      ∧ s.recentFails k < s.obj Ob.FAIL_MAX ∧ s.passedSome (s.ccl.fails k).head? (secTicks 1) = true then
    .next (s.modCcl fun c => { c.setSt k .reset with leave := k :: c.leave })
  else .next s

/-- STANDBY_SELFTEST (R432): every SELFTEST_S the stand-in repeats its self-test. -/
def execStandbySelftest (s : State) : Out :=
  if s.ruled && s.standbyReady && s.ccl.planned.isNone && s.passed s.ccl.selftestTick (secTicks (s.obj Ob.SELFTEST_S)) then
    .next (s.modCcl fun c => { c.setSt (otherCluster c.owner) .selftest with selftestTick := s.now })
  else .next s

/-- ROTATE_CUT (R433): every ROTATE_H hours a planned cut. -/
def execRotateCut (s : State) : Out :=
  if s.obj Ob.ROTATE_H ≠ 0 ∧ s.ruled = true ∧ s.standbyReady = true ∧ s.passed s.ccl.rotateTick (hourTicks (s.obj Ob.ROTATE_H)) = true then
    .next ((s.modCcl fun c => { c with rotateTick := s.now }).planCut .planned)
  else .next s

/-! ## The script -/

/-- Bytes at rising positions of the 2 MiB ring. -/
def ringWrite : List Host.Cell → Nat → List Byte → List Host.Cell
  | m, _, [] => m
  | m, w, b :: bs => ringWrite (Memory.write 0 m (w % 2097152) b) (w + 1) bs

/-- The next script write has to wait for the stand-in (R429): the unreplayed part has reached SCRIPT_LAG_MAX, or earlier writes wait. -/
def State.scriptWaits (s : State) : Bool := decide (s.obj Ob.SCRIPT_LAG_MAX ≤ s.ccl.lag) || !s.ccl.scriptHeld.isEmpty

/-- A record enters the ring. -/
def Ccl.scriptPut (c : Ccl) (bytes : List Byte) : Ccl := { c with script := ringWrite c.script c.scriptW bytes, scriptW := c.scriptW + bytes.length }

/-- Waiting records enter while the unreplayed part is below SCRIPT_LAG_MAX (R429). -/
def State.scriptGo (s : State) : State :=
  match s.ccl.scriptHeld with
  | b :: bs => if s.ccl.lag < s.obj Ob.SCRIPT_LAG_MAX then s.modCcl fun c => { c.scriptPut b with scriptHeld := bs } else s
  | [] => s

/-- SCRIPT_WRITE (R429): a record of the active cluster enters the ring; it waits while the unreplayed part has reached SCRIPT_LAG_MAX. -/
def execScriptWrite (cluster : Cluster) (epoch : BitVec 8) (bytes : List Byte) (s : State) : Out :=
  if !s.epochOk epoch then .next (s.epochRefuse UnitNo.ccl epochKindScript epoch)
  else if s.ccl.owner ≠ cluster then .next s
  else if s.scriptWaits then .next (s.modCcl fun c => { c with scriptHeld := c.scriptHeld ++ [bytes] })
  else .next (s.modCcl fun c => c.scriptPut bytes)

/-- SCRIPT_CHECKPOINT (R429): every 1 s, an image of the script state with the map journal position. -/
def execScriptCheckpoint (s : State) : Out :=
  if s.ruled && s.passed s.ccl.ckptTick (secTicks 1) then
    .next (s.modCcl fun c => { c with ckptAt := c.scriptW, ckptJournal := s.mxe.jpos, ckptTick := s.lastDue c.ckptTick (secTicks 1) })
  else .next s

/-! ## Reset and the clusters' part of a tick -/

/-- A planned cut that this tick began gives way to an event of class 1 to 3 of the same tick (R24): it has not happened. -/
def State.undoCut (s : State) : State :=
  match s.ccl.gap with
  | some g =>
    if g.start = s.now ∧ cutPlanned g.cause = true then
      (s.setObj Ob.CUT_COUNT g.before).modTbu fun t => { t with classes := t.classes &&& ~~~(BitVec.ofNat 10 16) }
    else s
  | none => s

/-- An event of class 1 to 3 (R419, R428, Table 15.5): both clusters in RESET; only the epoch is kept. -/
def State.resetClusters (s : State) : State :=
  let s := s.undoCut
  let s := if s.ccl.noCluster then s.healthClear Health.cluster else s
  (s.modCcl fun c => { c with
    stA := .reset, stB := .reset, gap := none, noCluster := false, leave := [], lastCut := none, fence := none, lastCause := 0
    lastFrom := 0, lastGap := 0, exc := [], script := [], scriptW := 0, scriptR := 0, scriptHeld := [], ckptAt := 0, ckptJournal := 0
    planned := none }).modFca fun f => { f with gapHeld := false }

/-- Clusters released from RESET start their self-test (Table 15.1). -/
def Ccl.leaveReset (c : Ccl) : Ccl :=
  let go := fun (c : Ccl) (k : Cluster) => if c.st k == .reset then c.setSt k .selftest else c
  { c.leave.foldl go c with leave := [] }

/-- In the tick after t of a solo restart every FAILED cluster returns to RESET (R431). -/
def Ccl.soloRelease (c : Ccl) : Ccl :=
  let go := fun (c : Ccl) (k : Cluster) => if c.st k == .failed then { c.setSt k .reset with leave := k :: c.leave } else c
  go (go c .a) .b

/-- Bytes replayed in one tick at 2 GB/s (Table 15.4): 5 in two ticks. -/
def State.replayStep (s : State) : Nat := 2 + s.tbu.tick.toNat % 2

/-- The clusters' part of a tick. -/
def State.clusterTick (s : State) : State :=
  let s := s.modCcl Ccl.leaveReset
  let s := if s.ccl.gap.any (fun g => g.solo && s.since g.start == 1) then s.modCcl Ccl.soloRelease else s
  let s := (s.modCcl fun c => { c with scriptR := min c.scriptW (c.scriptR + s.replayStep) }).scriptGo
  let s := if s.ruled then s.modCcl fun c => { c with exc := [] } else s
  match s.ccl.planned with
  | some cause => if s.ruled && s.standbyReady && s.ccl.lag == 0 && s.ccl.scriptHeld.isEmpty then s.beginCut cause else s
  | none => s

end Sys2Proof.Machine
end

