-- ==== Sys2Proof/Machine/Translation.lean ====
section
/-! DEFINITION. Map Engine (spec/07): map commits in their order, the journal and its copies, write-back and loading of segments, rebuilt entries, and the bands' way from OPEN to RELEASED. -/

namespace Sys2Proof.Machine

/-! ## Commits (R197, R198, R204) -/

/-- Group of a delta in R198's order. -/
def Delta.group (d : Delta) : Nat :=
  match d.kind with
  | 1 => 0
  | 3 | 4 => 1
  | _ => 2

/-- Earlier in R198's order. -/
def Delta.le (a b : Delta) : Bool := decide (a.group < b.group) || (a.group == b.group && decide (a.owner ≤ b.owner))

/-- LBAs of a granule that no LOSTFILL slot covers heal (R344). -/
def State.healGranule (nsid g : Nat) (s : State) : State :=
  match s.mxe.ns? nsid with
  | some n => (List.range n.spg).foldl (fun s k =>
      if (s.mxe.cell (slotLoc (s.mxe.entry nsid g).loc n.spg k)).any (fun c => c.hdr.lostFill) then s
      else s.lostHeal nsid (n.slotLbas (g * n.spg + k)).1 (n.slotLbas (g * n.spg + k)).2) s
  | none => s

/-- A page of the write still awaits its verify (R261). -/
def State.verifying (s : State) (dsn : Nat) : Bool :=
  s.fca.verify.any fun v => (Tbl.find? s.mxe.nand v.1).any fun p => p.slots.any fun c => c.hdr.dsn == dsn && c.hdr.host

/-- Writes whose granules are all committed leave the placement record; their buffers go back once verify has passed (R108, R261). -/
def State.sweepWrites (s : State) : State :=
  (s.mxe.writes.filter fun w => w.2.pend == 0 && w.2.grans == 0 && !s.verifying w.1).foldl (fun s w =>
    (s.freeBufs w.2.bufs).modMxe fun m => { m with writes := Tbl.del m.writes w.1 }) s

/-- A granule of a write is committed or superseded: its in-flight entry and lock go, and the write has one granule fewer. -/
def State.granuleDone (d : Delta) (s : State) : State :=
  let s := s.modMxe fun m => { m with
    inflight := m.inflight.filter fun f => !f.is d.nsid d.index d.dsn
    locks := m.locks.filter fun l => !l.is d.nsid d.index d.dsn
    writes := Tbl.adjust m.writes d.dsn fun w => { w with grans := w.grans - 1 } }
  match Tbl.find? s.mxe.writes d.dsn with
  | some w =>
    if w.grans = 0 ∧ w.posted = false then
      (match w.ctx with
        | some c => s.modCtx c fun x => if x.state = .commit then { x with state := .ready } else x
        | none => s)
    else s
  | none => s

/-- The in-flight table still holds an older write of the granule (R197). -/
def Mxe.olderInFlight (m : Mxe) (nsid g dsn : Nat) : Bool := m.inflight.any fun f => f.nsid == nsid && f.index == g && decide (f.dsn < dsn)

/-- The highest committed DSN of a granule is remembered while an older write of it is in flight (R197). -/
def State.noteCommit (nsid g dsn : Nat) (s : State) : State :=
  s.modMxe fun m =>
    let c := if m.olderInFlight nsid g dsn then Tbl.put m.committed (granKey nsid g) (max dsn (Tbl.getD m.committed (granKey nsid g) 0))
      else if m.inflight.any (fun f => f.nsid == nsid && f.index == g) then m.committed else Tbl.del m.committed (granKey nsid g)
    { m with committed := c }

/-- The bytes [a, z) that a Write Zeroes or Dataset Management command covers are logged at its map commit (R150). -/
def State.logTrim (d : Delta) (n : Namespace) (a z : Nat) (s : State) : State :=
  match Tbl.find? s.qen.ctxs d.owner with
  | some x =>
    if x.admin = false ∧ x.dsn = d.dsn then
      x.ranges.foldl (fun s r =>
        let lo := max a (r.1 * n.lbaBytes)
        let hi := min z ((r.1 + r.2) * n.lbaBytes)
        if lo < hi then s.logExtents n.slice d.nsid lo (hi - lo) else s) s
    else s
  | none => s

/-- The changed extents of a delta of a Write Zeroes or Dataset Management command; a write's are logged at its sequence point (R150). -/
def State.logDelta (d : Delta) (s : State) : State :=
  match s.mxe.ns? d.nsid with
  | some n => if Tbl.has s.mxe.writes d.dsn then s else s.logTrim d n (1024 * (d.index * n.granule)) (1024 * ((d.index + max 1 d.count) * n.granule))
  | none => s

/-- A host write's delta (R197, R344). -/
def State.commitHost (d : Delta) (s : State) : State :=
  if d.dsn < Tbl.getD s.mxe.committed (granKey d.nsid d.index) 0 then
    ((s.count Fld.MXE_SUPERSEDED.COUNT 0 1).granuleDone d).noteCommit d.nsid d.index d.dsn
  else
    (((((s.logDelta d).setEntry d.nsid d.index d.value).journal d.record).healGranule d.nsid d.index).granuleDone d).noteCommit d.nsid d.index d.dsn

/-- A deallocate or zeroes delta: its granules become UNMAPPED (R209, R344). -/
def State.commitTrim (d : Delta) (s : State) : State :=
  let s := (List.range d.count).foldl (fun s k =>
    (s.setEntry d.nsid (d.index + k) MapEntry.unmapped).noteCommit d.nsid (d.index + k) d.dsn) ((s.logDelta d).journal d.record)
  match s.mxe.ns? d.nsid with
  | some n => s.lostHeal d.nsid (n.granLbas d.index d.count).1 (n.granLbas d.index d.count).2
  | none => s

/-- A LOST job commits: its unit is counted as lost, once (R338). -/
def State.lostUnit (job : Nat) (s : State) : State :=
  match (Tbl.find? s.mxe.jobs job).bind CopyJob.unit with
  | some u => if s.spe.rbLost.contains u then s else (s.count Fld.SPE_RB_LOST.COUNT 0 1).modSpe fun p => { p with rbLost := u :: p.rbLost }
  | none => s

/-- A copy's delta: committed only while the map names its source (R204). -/
def State.commitCopy (d : Delta) (s : State) : State :=
  let e := s.mxe.entry d.nsid d.index
  if e.located ∧ d.source = some e.loc then
    let s := (s.setEntry d.nsid d.index d.value).journal d.record
    let s := s.modMxe fun m => { m with jobs := Tbl.adjust m.jobs d.owner fun j => { j with done := true, landed := false } }
    if d.value.flags = .lost then
      (match s.mxe.ns? d.nsid with
        | some n => (s.lostUnit d.owner).lostAdd d.nsid (n.granLbas d.index 1).1 (n.granLbas d.index 1).2 lostRebuild
        | none => s)
    else s
  else (s.count Fld.MXE_GC_DROP.COUNT 0 1).modMxe fun m => { m with jobs := Tbl.del m.jobs d.owner }

/-- One delta. -/
def State.commitDelta (s : State) (d : Delta) : State :=
  match d.kind with
  | 1 => s.commitHost d
  | 3 | 4 => s.commitTrim d
  | _ => s.commitCopy d

/-- A delta that touches an unloaded segment waits for its load (R203). -/
def Mxe.deltaWaits (m : Mxe) (d : Delta) : Bool :=
  m.unloaded.any fun k => k / 2 ^ 32 == d.nsid && decide (d.index / 816 ≤ k % 2 ^ 32) && decide (k % 2 ^ 32 ≤ (d.index + d.count - 1) / 816)

/-- The first delta committed in Hall clears the clean-shutdown marker (R49). -/
def State.clearMarker (s : State) : State := if s.power.stage = .hall then s.modPower fun p => { p with marker := false } else s

/-- Every ready delta commits, in the order of R198; then locks whose earlier holders are committed read their slots (R195). -/
def State.commitReady (s : State) : State :=
  let ds := sortBy Delta.le (s.mxe.deltas.filter fun d => !s.mxe.deltaWaits d)
  if ds = [] then s
  else (ds.foldl State.commitDelta (s.clearMarker.modMxe fun m => { m with deltas := m.deltas.filter m.deltaWaits })).lockStart.sweepWrites

/-- MAP_COMMIT (R198): none once the journal is frozen for a dump (R364). -/
def execMapCommit (s : State) : Out := if s.mxe.frozen then .next s else .next s.commitReady

/-! ## Journal (R199, R200) -/

/-- Records in a journal page: 16,384 B of 24 B (Table 7.7). -/
def recsPerPage := 682

/-- A record that makes its page due at once (R199): a deallocate or zeroes record, or in strict order a copy's, which an erase awaits. -/
def Mxe.urgentRecord (m : Mxe) (r : JournalRecord) : Bool := r.kind == 3 || r.kind == 4 || (m.strict && r.kind == 2)

/-- The next page of the journal's SYSTEM band takes the oldest records of the buffer, for both copies (R199). -/
def State.journalPage (n : Nat) (now : Dword) (s : State) : State :=
  let b := (Tbl.find? s.mxe.bands n).getD default
  (s.modMxe fun m => { m with
    jBand := some n
    jpages := m.jpages ++ [{ recs := m.jbuf.take recsPerPage, goodA := !m.jOkA, goodB := !m.jOkB, band := n, psn := m.psn, locA := s.sysLoc b 0, locB := s.sysLoc b 1 }]
    jbuf := m.jbuf.drop recsPerPage, jfirst := if m.jbuf.length ≤ recsPerPage then none else some now }).sysTake n

/-- JOURNAL_PAGE_WRITE (R199): the page is full, JRNL_FLUSH_US old, or holds a record that waits; it waits while no SYSTEM band can take it. -/
def execJournalPageWrite (s : State) : Out :=
  if s.mxe.jbuf ≠ [] ∧ (s.mxe.jOkA = true ∨ s.mxe.jOkB = true) ∧ s.mxe.frozen = false
      ∧ (recsPerPage ≤ s.mxe.jbuf.length ∨ s.passedSome s.mxe.jfirst (usTicks (s.obj Ob.JRNL_FLUSH_US)) = true
          ∨ s.mxe.jbuf.any s.mxe.urgentRecord = true) then
    match s.sysBandFor s.mxe.jBand s.mxe.jDieA s.mxe.jDieB with
    | some (t, n) => .next (t.journalPage n s.now)
    | none => .next s
  else .next s

/-- A command of kind 3 or 4 has records not yet on NAND, deltas not yet committed, or merges to do. -/
def Mxe.trimBusy (m : Mxe) (c : Nat) : Bool :=
  (m.jbuf.any fun r => (r.kind == 3 || r.kind == 4) && r.owner == c) || (m.jpages.any fun p => p.recs.any fun r => (r.kind == 3 || r.kind == 4) && r.owner == c)
    || (m.deltas.any fun d => (d.kind == 3 || d.kind == 4) && d.owner == c) || (m.inflight.any fun f => f.ctx == c)

/-- Write Zeroes and Dataset Management commands whose records are all on NAND are final (R110, R209); an orphan ends. -/
def State.trimsDone (s : State) : State :=
  (s.qen.ctxs.filter fun e => !e.2.admin && (e.2.sqe.opcode == 0x08 || e.2.sqe.opcode == 0x09) && !s.mxe.trimBusy e.1).foldl (fun s e =>
    if e.2.state = .commit then s.modCtx e.1 fun x => { x with state := .ready }
    else if e.2.state = .orphan then s.freeCtx e.1 else s) s

/-- The oldest page in flight has both its copies: its records are on NAND (R199), copies are durable in strict order (R200). -/
def State.journalLand (s : State) : State :=
  match s.mxe.jpages with
  | p :: ps =>
    if p.goodA && p.goodB then
      let owners := (p.recs.filter fun r => r.kind == 2).map JournalRecord.owner
      (s.modMxe fun m => { m with
        jpages := ps, jnand := m.jnand ++ p.recs, jpos := m.jpos + 16384
        jobs := m.jobs.map fun j => if j.2.done && owners.contains j.1 then (j.1, { j.2 with landed := true }) else j }).trimsDone
    else s
  | [] => s

/-- A copy of a journal page is on NAND. -/
def State.journalPut (a : Bool) (p : JournalPage) (s : State) : State :=
  match Tbl.find? s.mxe.bands p.band with
  | some b =>
    let v := leNat (p.recs.flatMap fun r => leBytes 24 r.num)
    s.sysPut (if a then p.locA else p.locB) b p.psn ((List.range 4).map fun k => s.sysCell .system 0 0 (v / 2 ^ (32768 * k)))
  | none => s

/-- The oldest page that has not reported a copy. -/
def Mxe.nextGood (m : Mxe) (a : Bool) : Option JournalPage := m.jpages.find? fun p => if a then !p.goodA else !p.goodB

/-- Mark a copy of the oldest page that has not reported it. -/
def markGood (a : Bool) : List JournalPage → List JournalPage
  | [] => []
  | p :: ps => if a then (if p.goodA then p :: markGood a ps else { p with goodA := true } :: ps)
      else (if p.goodB then p :: markGood a ps else { p with goodB := true } :: ps)

/-- JOURNAL_PAGE_GOOD (R199). -/
def execJournalPageGood (copyA : Bool) (s : State) : Out :=
  let t := match s.mxe.nextGood copyA with
    | some p => s.journalPut copyA p
    | none => s
  .next (t.modMxe fun m => { m with jpages := markGood copyA m.jpages }).journalLand

/-- Copies of the map journal are lost (R199). -/
def State.journalLose (a b : Bool) (s : State) : State := s.modMxe fun m => m.journalLose a b

/-- JOURNAL_COPY_LOST (R199): the map journal has two copies, so copy S names none of them. -/
def execJournalCopyLost (lost : CopyLost) (s : State) : Out :=
  match lost with
  | .a => .next (s.journalLose true false).journalLand
  | .b => .next (s.journalLose false true).journalLand
  | .ab | .abs => .next (s.journalLose true true)
  | .s => .next s

/-- New journal bands stand on dies of different channels (R199; notes/assumptions/24.md). -/
def State.journalRestore (s : State) : State :=
  if s.mxe.jOkA && s.mxe.jOkB then s
  else
    let dieA := if s.mxe.jOkA then s.mxe.jDieA else s.otherDie s.mxe.jDieB
    let dieB := if s.mxe.jOkB then s.mxe.jDieB else s.otherDie dieA
    s.modMxe fun m => { m with jOkA := true, jOkB := true, jDieA := dieA, jDieB := dieB }

/-! ## Segments (R202, R203) -/

/-- The granules of a segment: 816 entries. -/
def segGranules (seg : Nat) : List Nat := (List.range 816).map fun k => 816 * seg + k

/-- The entry after one journal record. -/
def JournalRecord.applyTo (r : JournalRecord) (nsid g : Nat) (e : MapEntry) : MapEntry :=
  if r.nsid ≠ nsid then e
  else if r.kind = 1 ∨ r.kind = 2 then (if r.index = g then r.value else e)
  else if r.kind = 3 ∨ r.kind = 4 then (if r.index ≤ g ∧ g < r.index + r.count then MapEntry.unmapped else e)
  else e

/-- An entry as the segment's NAND copy and the journal give it. -/
def Mxe.replayed (m : Mxe) (nsid g : Nat) : MapEntry :=
  ((m.jnand ++ m.jpages.flatMap JournalPage.recs ++ m.jbuf).foldl (fun e r => r.applyTo nsid g e)
    (Tbl.getD m.segMap (granKey nsid g) MapEntry.unmapped))

/-- A record still needed on NAND: its segment, or a segment of its range, is dirty. -/
def Mxe.recordLive (m : Mxe) (r : JournalRecord) : Bool :=
  if r.kind = 3 ∨ r.kind = 4 then m.dirty.any fun d => d.1 / 2 ^ 32 == r.nsid && decide (r.index / 816 ≤ d.1 % 2 ^ 32) && decide (d.1 % 2 ^ 32 ≤ (r.index + r.count) / 816)
  else r.kind != 5 && Tbl.has m.dirty (segKey r.nsid r.index)

/-- A later host write to the granule is durable (R200, R209): the entry names a slot of a higher DSN, whose record is on NAND or strict order is not in force. -/
def Mxe.rewritten (m : Mxe) (t : TrimRecord) (g : Nat) : Bool :=
  let e := m.entry t.nsid g
  e.located && (m.cell e.loc).any (fun c => decide (t.dsn < c.hdr.dsn))
    && (!m.strict || !(m.jbuf ++ m.jpages.flatMap JournalPage.recs).any fun r => r.nsid == t.nsid && r.kind == 1 && r.index == g)

/-- The granules [g, g + n) that a trim record keeps (R209), as records. -/
def Mxe.trimRuns (m : Mxe) (t : TrimRecord) : Nat → Nat → Option TrimRecord → List TrimRecord
  | _, 0, cur => cur.toList
  | g, n + 1, cur =>
    if m.rewritten t g then cur.toList ++ m.trimRuns t (g + 1) n none
    else m.trimRuns t (g + 1) n (some (match cur with | some r => { r with count := r.count + 1 } | none => { t with index := g, count := 1 }))

/-- The journal is truncated behind a write-back; deallocate and zeroes records move to the trim log (R209). -/
def Mxe.truncate (m : Mxe) : Mxe :=
  { m with
    jnand := m.jnand.filter m.recordLive
    trims := m.trims ++ ((m.jnand.filter fun r => (r.kind == 3 || r.kind == 4) && !m.recordLive r).map fun r =>
      { nsid := r.nsid, index := r.index, count := r.count, dsn := r.dsn }) }

/-- The trim log without what its records need not keep (R209). -/
def Mxe.trimSweep (m : Mxe) (live : TrimRecord → Bool) : Mxe :=
  { m with trims := (m.trims.filter live).flatMap fun t => m.trimRuns t t.index t.count none }

/-- A trim record is still needed (R209): some band with a lower summary maximum DSN is not erased. -/
def Mxe.trimLive (m : Mxe) (t : TrimRecord) : Bool := m.bands.any fun b => decide (b.2.maxDsn < t.dsn)

/-- A segment's copy is on NAND at a location (R202): a kind 0x5 record, and the journal is truncated behind it. -/
def State.segmentWritten (nsid seg : Nat) (loc : Loc) (s : State) : State :=
  let k := 2 ^ 32 * nsid + seg
  if Tbl.has s.mxe.dirty k then
    let s := s.modMxe fun m => { m with
      segMap := (segGranules seg).foldl (fun t g => Tbl.setD t (granKey nsid g) (m.entry nsid g) MapEntry.unmapped) m.segMap
      segs := Tbl.put m.segs k loc, dirty := Tbl.del m.dirty k }
    let s := s.journal { kind := 5, dsn := 0, value := entryAt 0 loc, count := 1, index := seg, nsid := nsid, owner := 0 }
    s.modMxe fun m => let m := m.truncate; m.trimSweep m.trimLive
  else s

/-- The 4 KiB of a segment (R185): 816 entries of 5 B, then its number, the journal position it covers and a CRC-32C. -/
def State.segmentBytes (s : State) (nsid seg : Nat) : List Byte :=
  let d := (segGranules seg).flatMap (fun g => leBytes 5 (s.mxe.entry nsid g).code) ++ leBytes 4 seg ++ leBytes 8 s.mxe.jpos
  d ++ leBytes 4 (crc32c d)

/-- SEGMENT_WRITEBACK (R185, R190, R202): a dirty segment's entries go to a slot of a SYSTEM band; it waits while none has room. -/
def execSegmentWriteback (nsid seg : Nat) (loc : Loc) (s : State) : Out :=
  if Tbl.has s.mxe.dirty (2 ^ 32 * nsid + seg) then
    match s.sysWrite [s.sysCell .segment nsid seg (leNat (s.segmentBytes nsid seg))] with
    | some (t, l) => if l = loc then .next (t.segmentWritten nsid seg l) else .next s
    | none => .next s
  else .next s

/-- The directory checkpoint's content: the location of the latest copy of every segment, and the journal position it covers (R202). -/
def Mxe.checkpoint (m : Mxe) (now : Dword) : Mxe := ({ m with ckptTick := now, ckptSegs := m.segs, ckptPos := m.jpos }).truncate

/-- DIRECTORY_CHECKPOINT (R202): every 60 s, and when no segment is dirty; it waits while no SYSTEM band has room. -/
def execDirectoryCheckpoint (s : State) : Out :=
  if s.passed s.mxe.ckptTick (secTicks 60) ∨ s.mxe.dirty = [] then
    match s.sysWrite [s.sysCell .system 0 0 (leNat (s.mxe.segs.flatMap fun e => leBytes 8 e.1 ++ leBytes 5 (entryAt 0 e.2).code))] with
    | some (t, _) => .next (t.modMxe fun m => m.checkpoint s.now)
    | none => .next s
  else .next s

/-- Copy work that waited for a segment (R203): granules of victim bands, and of retired blocks at High class (R208). -/
def State.copiesAgain (s : State) : State :=
  let s := (s.mxe.bands.filter fun e => e.2.state == .victim).foldl (fun s e => s.queueCopies e.2) s
  (s.mxe.retired.filter fun e => e.2 == causeProgram).foldl (fun s e => s.relocateBlock (e.1 / 8192) (e.1 % 8192)) s

/-- SEGMENT_LOAD (R203): the segment's copy and its pending journal records. -/
def execSegmentLoad (nsid seg : Nat) (s : State) : Out :=
  let k := 2 ^ 32 * nsid + seg
  if s.mxe.unloaded.contains k then
    .next (s.modMxe fun m => { m with
      map := (segGranules seg).foldl (fun t g => Tbl.setD t (granKey nsid g) (m.replayed nsid g) MapEntry.unmapped) m.map
      unloaded := m.unloaded.erase k }).copiesAgain
  else .next s

/-- Every slot on NAND that holds a granule's first 4 KiB: DSN, PSN and the granule's entry. -/
def State.candidatesOf (s : State) (nsid g : Nat) : List (Nat × Nat × MapEntry) :=
  let spg := s.mxe.spgOf nsid
  s.mxe.nand.flatMap fun p => p.2.slots.zipIdx.filterMap fun c =>
    let l : Loc := ⟨p.1 / 4096 / 8192, p.1 / 4096 % 8192, p.1 % 4096, c.2⟩
    if p.2.good && c.1.hdr.kind == .data && c.1.hdr.nsid == nsid && c.1.hdr.goff == 0
        && (c.1.hdr.lba * (((s.mxe.ns? nsid).map Namespace.lbaBytes).getD 4096) / 4096) / spg == g then
      some (c.1.hdr.dsn, c.1.hdr.psn, entryAt (if c.1.hdr.slc then 0 else 1) l)
    else none

/-- The winner of R189: highest DSN, then highest PSN. -/
def winner (cs : List (Nat × Nat × MapEntry)) : Option (Nat × Nat × MapEntry) :=
  cs.foldl (fun b c => match b with
    | some x => if x.1 < c.1 ∨ (x.1 = c.1 ∧ x.2.1 < c.2.1) then some c else b
    | none => some c) none

/-- SUSPECT_REBUILD (R189): from the segment and the journal, else from the candidate bands, else LOST. -/
def execSuspectRebuild (nsid g : Nat) (fromSegment bandsOk : Bool) (s : State) : Out :=
  if (s.mxe.entry nsid g).flags = .suspect then
    if fromSegment then .next (s.setEntry nsid g (s.mxe.replayed nsid g))
    else if bandsOk then .next (s.setEntry nsid g (((winner (s.candidatesOf nsid g)).map fun c => c.2.2).getD MapEntry.unmapped))
    else .next (s.loseEntry nsid g lostEntry)
  else .next s

/-! ## Bands (R191, R192, R205, R529) -/

/-- A page of the band's members awaits verify. -/
def State.bandVerifying (s : State) (b : Band) : Bool :=
  s.fca.verify.any fun v => b.members.contains (v.1 / 4096 / 8192, s.fca.sbOf (v.1 / 4096 % 8192))

/-- BAND_CLOSE (R191, R192): every summary program has reported and verify has passed; the band may become a victim at once (R529). -/
def execBandClose (b : Nat) (s : State) : Out :=
  match Tbl.find? s.mxe.bands b with
  | some band =>
    if band.state = .closing ∧ band.cap ≤ band.fill ∧ band.summaries = [] ∧ s.bandVerifying band = false
        ∧ s.dsc.ops.any (fun o => isProgram o.2.req.kind && o.2.band == b) = false then
      let s := (s.modMxe fun m => m.modBand b fun x => { x with state := .closed, thetaClose := some s.cdx.theta.toNat }).releaseStripes b
      .next (if band.wanted then s.makeVictim b band.copyCls else s)
    else .next s
  | none => .next s

/-- BAND_OPEN_TIMEOUT (R191): a band open for OPEN_MAX_S is padded, in the GC class. -/
def execBandOpenTimeout (b : Nat) (s : State) : Out :=
  match Tbl.find? s.mxe.bands b with
  | some band =>
    if band.state = .opened ∧ s.passed band.opened (secTicks (s.obj Ob.OPEN_MAX_S)) then .next ((s.padBand b .gc).bandFilled b) else .next s
  | none => .next s

/-- VICTIM_SELECT (R529). -/
def execVictimSelect (b : Nat) (s : State) : Out := .next (s.chooseVictim b .gc)

/-- A read that resolved to the band has not finished its transfer (R205). -/
def State.bandReading (s : State) (b : Band) : Bool :=
  (s.dsc.ops.any fun o => o.2.req.kind == .read && b.members.contains (o.2.req.die, s.fca.sbOf o.2.req.block))
    || (s.cdx.frames.any fun l => b.members.contains (l.loc.die, s.fca.sbOf l.loc.block))
    || (s.mxe.locks.any fun k => !k.need.isEmpty && k.base.any fun l => b.members.contains (l.die, s.fca.sbOf l.block))
    || (s.fca.xfers.any fun x => b.members.contains (x.op.req.die, s.fca.sbOf x.op.req.block))
    || (s.qen.ctxs.any fun c => (c.2.state == .lookup || c.2.state == .media) && c.2.work.any fun w =>
        w.data.isNone && !w.lost && w.loc.any fun l => b.members.contains (l.die, s.fca.sbOf l.block))

/-- A copy out of the band is unfinished: not committed, not durable (R200: its record is on NAND, or strict order is not in force), its page awaits verify (R205, R261), or a segment still to load may name the band (R203, R206). -/
def State.bandCopying (s : State) (n : Nat) (b : Band) : Bool :=
  !s.mxe.unloaded.isEmpty || !(s.bandGranules b).isEmpty || s.mxe.jobs.any fun j => j.2.band == n && (!j.2.done || !(j.2.landed || !s.mxe.strict)
    || Tbl.has s.fca.verify (let l := (s.mxe.entry j.2.nsid j.2.index).loc; pageKey l.die l.block l.page))

/-- BAND_RELEASE (R205). -/
def execBandRelease (b : Nat) (s : State) : Out :=
  match Tbl.find? s.mxe.bands b with
  | some band =>
    if band.state = .victim ∧ s.bandCopying b band = false ∧ s.bandReading band = false then
      .next (s.modMxe fun m => { m.modBand b (fun x => { x with state := .released }) with jobs := m.jobs.filter fun j => j.2.band != b })
    else .next s
  | none => .next s

/-! ## Folding (R194) -/

/-- The oldest CLOSED landing band. -/
def Mxe.oldestLanding (m : Mxe) : Option Nat := (m.bands.find? fun b => b.2.kind == .landing && b.2.state == .closed).map Prod.fst

/-- FOLD_START (R194): below LZ_FOLD_START_PCT, and until folding stops. The oldest landing band by BSN is taken; its copies run at High class while the free share is below 5 %. -/
def execFoldStart (s : State) : Out :=
  if s.lzFree < s.obj Ob.LZ_FOLD_START_PCT ∨ s.mxe.folding = true then
    let s := s.modMxe fun m => { m with folding := true }
    match s.mxe.oldestLanding with
    | some b => .next (s.chooseVictim b .gc)
    | none => .next s
  else .next s

/-- FOLD_STOP (R194): above LZ_FOLD_START_PCT + 10 %. -/
def execFoldStop (s : State) : Out :=
  if s.obj Ob.LZ_FOLD_START_PCT + 10 < s.lzFree then .next (s.modMxe fun m => { m with folding := false }) else .next s

end Sys2Proof.Machine
end

