-- ==== Sys2Proof/Machine/QueueOps.lean ====
section
/-! DEFINITION. What the queue rows share (spec/04, spec/05): slices and queue numbers, command fields, protection of namespaces, the readiness of submission queues, contexts, arbitration, and the end of commands. -/

namespace Sys2Proof.Machine

/-! ## Command fields -/

/-- First LBA and number of LBAs of an I/O command. -/
def slbaOf (e : Sqe) : Nat := e.cdw10.toNat + 2 ^ 32 * e.cdw11.toNat
def nlbOf (e : Sqe) : Nat := e.cdw12.toNat % 65536 + 1

/-- Force Unit Access. -/
def fuaOf (e : Sqe) : Bool := e.cdw12.getLsbD 30

/-- The namespace of an I/O command, if its slice owns it (R136). -/
def State.ownNs (s : State) (x : Ctx) : Option Namespace :=
  (s.mxe.ns? x.sqe.nsid.toNat).bind fun n => if n.attached ∧ n.slice = x.slice then some n else none

/-- Bytes that a Read or Write moves. -/
def State.moveBytes (s : State) (sl : Nat) (e : Sqe) : Nat :=
  match s.mxe.ns? e.nsid.toNat with
  | some n => if n.slice = sl then nlbOf e * n.lbaBytes else 0
  | none => 0

/-- The range lies in the namespace. -/
def Namespace.inRange (n : Namespace) (slba nlb : Nat) : Bool := decide (slba + nlb ≤ n.nsze)

/-! ## Contexts -/

/-- Contexts of the I/O pool in use (R96). -/
def Qen.poolUsed (q : Qen) : Nat := (q.ctxs.filter fun e => !e.2.reserved).length + q.freed.length

/-- Contexts that slices reserve and do not use (R96, Table 5.1). -/
def State.ctxReserved (s : State) (sl : Option Nat) : Nat :=
  (s.sliceIds.filter fun k => sl != some k).foldl (fun n k => n + (s.sliceObj Ob.CTX_RSV k - s.qen.sliceAlloc k)) 0

/-- A context is available to a submission queue (R96). -/
def State.ctxRoom (s : State) (key : Nat) (q : Sq) : Bool :=
  if 4096 ≤ key then
    !(s.qen.ctxs.any fun e => e.2.admin && e.2.reserved && e.2.fn == q.fn) || decide (s.qen.poolUsed + s.ctxReserved none < 16320)
  else
    decide (s.qen.sliceAlloc q.slice < s.sliceObj Ob.CTX_MAX q.slice) && decide (s.qen.poolUsed < 16320)
      && (decide (s.qen.sliceAlloc q.slice < s.sliceObj Ob.CTX_RSV q.slice) || decide (s.qen.poolUsed + s.ctxReserved (some q.slice) < 16320))

/-- QEN_CTX_STS.AT_BOUND: no context is free to I/O submission queues. -/
def State.atBound (s : State) : Bool := decide (16320 ≤ s.qen.poolUsed)

/-- The function's memory requests may be issued (R85). -/
def State.busMaster (s : State) (fn : Nat) : Bool := (Tbl.getD s.hlu.fns fn default).busMaster

/-- No TLP crosses a link in L1 (R79, R80). -/
def LinkPower.asleep : LinkPower → Bool
  | .l1 | .l11 | .l12 => true
  | .l0 | .toL1 | .toL11 | .toL12 => false

/-- A TLP that arrives while L1 entry is in progress aborts the entry (R80). -/
def LinkPower.onTlp : LinkPower → LinkPower
  | .toL1 | .toL11 | .toL12 => .l0
  | p => p

/-- A TLP of `n` data bytes arrives: class 9 (R23, R26). -/
def State.arrive (n : Nat) (s : State) : State := (s.sample 9).modHlu fun h => { h with power := h.power.onTlp, rxNow := h.rxNow + n }

/-- No inbound TLP is accepted while the link is down or in L1, and during a gap but from t + 120,000 of a solo restart on (Table 15.3, R431). -/
def State.inboundHeld (s : State) : Bool :=
  !s.hlu.up || s.hlu.power.asleep || match s.ccl.gap with
  | some g => !(g.solo && decide (120000 ≤ s.since g.start))
  | none => false

/-- Capacity of the ingress FIFO: 2 MiB. -/
def galFifoBytes := 2 * 2 ^ 20

/-- Fill of the ingress FIFO. -/
def Gal.fill (g : Gal) : Nat := g.fifo.foldl (fun n f => n + f.2) 0

/-- Posted-request credits are withheld: the FIFO is full, or the write that waits does not fit yet (R181). -/
def Gal.withholds (g : Gal) : Bool := decide (galFifoBytes ≤ g.fill) || (g.wait != 0 && decide (galFifoBytes < g.fill + g.wait))

/-- No posted TLP is accepted. -/
def State.postedHeld (s : State) : Bool := s.inboundHeld || s.gal.withholds

/-- The function decodes memory: Memory Space Enable; a VF is enabled, with VF Memory Space Enable (R69). -/
def Hlu.decodes (h : Hlu) (fn : Nat) : Bool :=
  if fn = 0 then (Tbl.getD h.fns 0 default).memSpace else h.vfEn && h.vfMse && decide (fn ≤ h.numVfs)

/-- The function's BARs decode: configuration space answers, the function decodes memory, and no FLR is unfinished (R40, R69, R88). -/
def State.fnOpen (s : State) (fn : Nat) : Bool :=
  s.power.cfgReady && s.hlu.decodes fn && !(Tbl.getD s.hlu.fns fn default).flr

/-- Fetching is on for a submission queue, contexts and requests apart (R43, R99, R121, R122, R143, R154, R155, R359, R426, R457, R528). -/
def State.sqOn (s : State) (key : Nat) (q : Sq) : Bool :=
  q.arrivals != [] && !q.deleting && (s.qen.ctrl q.fn).en && s.qen.act == .none && !s.qen.fetchStop && s.hum.dump.isNone && !s.gapped
    && (q.cmb.isSome || s.busMaster q.fn)
    && (if 4096 ≤ key then s.power.adminOpen || s.power.stage == .hall
        else s.power.stage == .hall && !(s.qen.shutting.any fun e => e.1 == q.fn) && !(s.tnu.slice q.slice).quiesce
          && (s.tnu.slice q.slice).reset.isNone && !s.tokensHeld q.slice)

/-- The slice that a queue's fetch reads count for; none for an admin queue. -/
def Sq.chargedTo (q : Sq) (key : Nat) : Nat := if 4096 ≤ key then 1024 else q.slice

/-- A fetch read of the queue is outstanding: entries are fetched in queue order (R98), one read at a time. -/
def Hlu.fetching (h : Hlu) (key : Nat) : Bool :=
  h.tags.any fun t => t.2.phase == .outstanding && (match t.2.use with | .fetch k _ => k == key | .data _ _ _ | .list _ _ | .ats _ _ => false)

/-- QEN may fetch from the queue now: its entries, a context, and a request unless it lies in the CMB (R96, R98). -/
def State.sqReady (s : State) (key : Nat) (q : Sq) : Bool :=
  s.sqOn key q && s.ctxRoom key q && (q.cmb.isSome || (s.npMay (q.chargedTo key) && s.hlu.ready && !s.hlu.fetching key))

/-- An SQ with entries is held for want of a context (QEN_FETCH_STALL). -/
def State.fetchStalled (s : State) : Bool := s.qen.sqs.any fun e => s.sqOn e.1 e.2 && !s.ctxRoom e.1 e.2

/-- A read of host memory is held at the device-wide bound (HLU_NP_STALL, R72): a command's, or a fetch. -/
def State.npStalled (s : State) : Bool :=
  decide (s.npBound ≤ s.hlu.outstanding) &&
    ((s.hlu.dmaQueue.any fun d => (Tbl.find? s.qen.ctxs d.c).any fun x => !x.bmeStall)
      || s.qen.sqs.any fun e => e.2.cmb.isNone && s.sqOn e.1 e.2 && s.ctxRoom e.1 e.2 && !s.hlu.fetching e.1)

/-- The service class with a number of DEFAULT_CLASS, which is also QPRIO's (R100). -/
def classOf : Nat → SvcClass
  | 0 => .urgent
  | 1 => .high
  | 2 => .normal
  | _ => .background

/-- The class of an SQ (R100). -/
def State.sqClass (s : State) (q : Sq) : SvcClass := q.prio.getD (classOf (s.obj Ob.DEFAULT_CLASS))

/-- The class an SQ is arbitrated in (R101). -/
def State.sqEff (s : State) (q : Sq) : SvcClass :=
  if q.promoted then (match s.sqClass q with | .background => .normal | .normal => .high | c => c) else s.sqClass q

/-- Kinds of turn in arbitration order (R99, R101). -/
inductive Turn where
  | admin | urgent | aged | high | normal | background
deriving DecidableEq, Repr, Inhabited

/-- Round robin: the first queue after the last served. -/
def nextAfter (cur : Nat) (qs : List (Nat × Sq)) : Option (Nat × Sq) :=
  match qs.find? fun e => decide (cur < e.1) with
  | some e => some e
  | none => qs.head?

/-- The next queue of a class: the one whose turn goes on (R99), else the next in the round. -/
def Qen.nextTurn (q : Qen) (cur : Nat) (qs : List (Nat × Sq)) : Option (Nat × Sq) :=
  match q.going with
  | some (k, _) =>
    match qs.find? fun e => e.1 == k with
    | some e => some e
    | none => nextAfter cur qs
  | none => nextAfter cur qs

/-- Within a class, slices below a floor go first (R144). -/
def State.favoured (s : State) (qs : List (Nat × Sq)) : List (Nat × Sq) :=
  if (qs.filter fun e => s.below e.2.slice).isEmpty then qs else qs.filter fun e => s.below e.2.slice

/-- The queue whose aged entry is oldest, the lowest number on equal ticks (R101). -/
def oldestAged (qs : List (Nat × Sq)) : Option (Nat × Sq) :=
  qs.foldl (fun best e => match best with
    | some b => if (e.2.arrivals.headD 0).toNat < (b.2.arrivals.headD 0).toNat then some e else some b
    | none => some e) none

/-- The weights of the weighted round robin, as turns in a round (notes/assumptions/27.md). -/
def Qen.weights (q : Qen) : Nat × Nat × Nat := ((q.ctrl 0).hpw + 1, (q.ctrl 0).mpw + 1, (q.ctrl 0).lpw + 1)

/-- The class of the next weighted turn: credits are renewed when no class with entries has one. -/
def Qen.wrrClass (q : Qen) (hi no bk : Bool) : Option SvcClass :=
  if hi && decide (0 < q.credHigh) then some .high
  else if no && decide (0 < q.credNormal) then some .normal
  else if bk && decide (0 < q.credBkg) then some .background
  else if hi then some .high else if no then some .normal else if bk then some .background else none

/-- The winner of the arbitration (R99 to R101) and its kind of turn. -/
def State.winnerSq (s : State) : Option (Turn × Nat × Sq) :=
  let rs := s.qen.sqs.filter fun e => s.sqReady e.1 e.2
  let io := rs.filter fun e => decide (e.1 < 4096)
  let of := fun (c : SvcClass) => s.favoured (io.filter fun e => s.sqEff e.2 == c)
  match s.qen.nextTurn s.qen.rrAdmin (rs.filter fun e => decide (4096 ≤ e.1)) with
  | some (k, q) => some (.admin, k, q)
  | none =>
    match s.qen.nextTurn s.qen.rrUrgent (of .urgent) with
    | some (k, q) => some (.urgent, k, q)
    | none =>
      match oldestAged (io.filter fun e => e.2.urgentTurn) with
      | some (k, q) => some (.aged, k, q)
      | none =>
        match s.qen.wrrClass (of .high != []) (of .normal != []) (of .background != []) with
        | some .high => (s.qen.nextTurn s.qen.rrHigh (of .high)).map fun e => (.high, e.1, e.2)
        | some .normal => (s.qen.nextTurn s.qen.rrNormal (of .normal)).map fun e => (.normal, e.1, e.2)
        | some .background => (s.qen.nextTurn s.qen.rrBkg (of .background)).map fun e => (.background, e.1, e.2)
        | some .urgent | none => none

/-- Entries that a new turn yields: the Arbitration Burst of the queue's controller; none: no limit (R99). -/
def Qen.burstOf (q : Qen) (fn : Nat) : Option Nat := if (q.ctrl fn).burst = 7 then none else some (2 ^ (q.ctrl fn).burst)

/-- Entries that the turn of a queue may still yield. -/
def Qen.turnLeft (q : Qen) (key : Nat) (x : Sq) : Option Nat :=
  match q.going with
  | some (k, left) => if k = key then left else q.burstOf x.fn
  | none => q.burstOf x.fn

/-- Entries of the next fetch of a queue: what its turn may still yield, at most the 8 of one read and those before the queue's end (R98, R99). -/
def Qen.turnEntries (q : Qen) (key : Nat) (x : Sq) : Nat :=
  min ((q.turnLeft key x).getD 8) (min 8 (min x.arrivals.length (x.size - x.head)))

/-- A turn is taken for `n` entries: one that goes on uses up its burst; a new one moves the cursor and uses a credit of its class's round. -/
def Qen.turnTaken (q : Qen) (t : Turn) (k : Nat) (x : Sq) (n : Nat) : Qen :=
  let w := q.weights
  let on := q.going.any fun g => g.1 == k
  let left := (q.turnLeft k x).map (· - n)
  let renew := fun (cred : Nat) (q : Qen) => if cred = 0 then { q with credHigh := w.1, credNormal := w.2.1, credBkg := w.2.2 } else q
  let q := { q with going := if left = some 0 then none else some (k, left) }
  if on then q
  else
    match t with
    | .admin => { q with rrAdmin := k }
    | .urgent => { q with rrUrgent := k }
    | .aged => q
    | .high => let q := renew q.credHigh q; { q with rrHigh := k, credHigh := q.credHigh - 1 }
    | .normal => let q := renew q.credNormal q; { q with rrNormal := k, credNormal := q.credNormal - 1 }
    | .background => let q := renew q.credBkg q; { q with rrBkg := k, credBkg := q.credBkg - 1 }

/-- A fresh context (Table 4.4). -/
def Ctx.fetched (e : Sqe) (q : Sq) (cls : SvcClass) (key bytes ord : Nat) (p : Ptrs) (arrival : Dword) (stalled reserved : Bool) : Ctx :=
  { sqe := e, state := .fetched, bmeStall := stalled, fua := fuaOf e, caught := false, cls := cls, admin := decide (4096 ≤ key), sqid := key
    slice := q.slice, fn := q.fn, dsn := 0, bufs := [], bytesDone := 0, arrival := arrival, mediaPend := 0, status := p.status, result := 0
    bytes := bytes, dataIn := 0, pi := .pass, work := [], ranges := [], waits := [], reserved := reserved, prot := false, fetchOrd := ord
    accepted := false, parts := p.parts, list := p.list, untrans := [], win := none, overlay := [] }

/-- What a slice is charged and served (R142, R144): a bucket whose ceiling is 0 is not used (R141). Bytes and tokens count as served when the command is fetched, as they are charged (notes/assumptions/46.md). -/
def State.charge (sl rd wr cmd : Nat) (s : State) : State :=
  s.modSlice sl fun x => { x with
    rd := if s.sliceObj Ob.RD_MBPS sl = 0 then x.rd else x.rd - rd
    wr := if s.sliceObj Ob.WR_MBPS sl = 0 then x.wr else x.wr - wr
    cmd := if s.sliceObj Ob.CMD_KIOPS sl = 0 then x.cmd else x.cmd - (1000 * cmd : Nat)
    servedRd := x.servedRd + rd, servedWr := x.servedWr + wr, servedCmd := x.servedCmd + cmd }

/-- Charge a fetched command to its slice's buckets and count it as served (R142, R144). -/
def State.chargeTokens (sl : Nat) (e : Sqe) (bytes : Nat) (s : State) : State :=
  if e.opcode = 0x02 then s.charge sl bytes 0 1
  else if e.opcode = 0x01 then s.charge sl 0 bytes (s.obj Ob.WR_CMD_COST)
  else if e.opcode = 0x00 ∨ e.opcode = 0x08 ∨ e.opcode = 0x09 then s.charge sl 0 0 1
  else s

/-- Writes posted and not wholly on NAND, of the namespaces a Flush names (R118). -/
def State.flushSet (s : State) (e : Sqe) : List Nat :=
  (s.mxe.writes.filter fun w => w.2.posted && w.2.pend != 0 && (e.nsid == 0xFFFFFFFF || w.2.nsid == e.nsid.toNat)).map Prod.fst

/-- Fetch one entry: a context in FETCHED, the charge, the queue's head (R95, R98, R142). -/
def State.fetchOne (key : Nat) (e : Sqe) (s : State) : State :=
  match Tbl.find? s.qen.sqs key, firstFree (fun c => Tbl.has s.qen.ctxs c || s.qen.freed.any fun f => f.1 == c) 0 16384 with
  | some q, some c =>
    let io := decide (key < 4096)
    let bytes := if !io then adminBytes e else if e.opcode = 0x01 ∨ e.opcode = 0x02 then s.moveBytes q.slice e else if e.opcode = 0x09 then 16 * (e.cdw10.toNat % 256 + 1) else 0
    let p := if bytes = 0 then ⟨0, [], none⟩ else ptrStart (s.qen.ctrl q.fn).page bytes (takesData (!io) e) e
    let res := !io && !(s.qen.ctxs.any fun x => x.2.admin && x.2.reserved && x.2.fn == q.fn)
    let x := Ctx.fetched e q (s.sqClass q) key bytes s.qen.fetches p (q.arrivals.headD 0) (!s.busMaster q.fn) res
    let x := if io && e.opcode == 0x00 then { x with waits := s.flushSet e } else x
    let s := s.modQen fun n => { n with
      ctxs := Tbl.put n.ctxs c x
      fetches := n.fetches + 1
      sqs := Tbl.put n.sqs key { q with head := (q.head + 1) % q.size, arrivals := q.arrivals.tail, promoted := false, urgentTurn := false, fetched := true } }
    let s := s.askList c
    if io then s.chargeTokens q.slice e bytes else s
  | _, _ => s

/-- Fetch entries in queue order while the queue may be fetched from (R98, R143). -/
def State.fetchEntries (key : Nat) : List Sqe → State → State
  | [], s => s
  | e :: es, s =>
    match Tbl.find? s.qen.sqs key with
    | some q => if s.sqOn key q && s.ctxRoom key q then (s.fetchOne key e).fetchEntries key es else s
    | none => s

/-! ## The end of commands -/

/-- No further data moves for a context: its waiting reads go, and what its outstanding tags return is discarded. -/
def Hlu.dropDma (h : Hlu) (c : Nat) : Hlu :=
  { h with
    dmaQueue := h.dmaQueue.filter fun d => d.c != c
    tags := h.tags.map fun t => match t.2.use with
      | .data c' off len => if c' = c then (t.1, { t.2 with use := .data 16384 off len }) else t
      | .list c' len => if c' = c then (t.1, { t.2 with use := .list 16384 len }) else t
      | .fetch _ _ | .ats _ _ => t }

/-- A command ends with a status before its effect: its buffers go back, its transfers stop (R105, R116). -/
def State.failCmd (c status : Nat) (s : State) : State :=
  match Tbl.find? s.qen.ctxs c with
  | some x => (((s.freeBufs x.bufs).modHlu fun h => h.dropDma c).modCtx c fun y => { y with bufs := [], work := [] }).finish c status
  | none => s

/-- A namespace of another slice, or none, has been named (R136). -/
def State.nsViolation (c : Nat) (s : State) : State :=
  match Tbl.find? s.qen.ctxs c with
  | some x => (((s.flag Fld.TNU_VIOL_STS.NS_OWNER 0 1).modTnu fun t => { t with violSlice := x.slice }).trigger 0x06 UnitNo.tnu x.slice 0).failCmd c stInvalidNs
  | none => s

/-- The I/O context with an opcode in one of two states, not stalled (R86). -/
def State.ioCtx (s : State) (c : Nat) (op : BitVec 8) (st : List CtxState) : Option Ctx :=
  match Tbl.find? s.qen.ctxs c with
  | some x => if x.admin = false ∧ x.sqe.opcode = op ∧ x.state ∈ st ∧ x.bmeStall = false then some x else none
  | none => none

/-- The admin context with an opcode in FETCHED, not stalled (R86). -/
def State.adminCtx (s : State) (c : Nat) (op : BitVec 8) : Option Ctx :=
  match Tbl.find? s.qen.ctxs c with
  | some x => if x.admin = true ∧ x.sqe.opcode = op ∧ x.state = .fetched ∧ x.accepted = false ∧ x.bmeStall = false then some x else none
  | none => none

/-- Units that own a context in a state (Table 4.5). -/
def CtxState.owners : CtxState → List Nat
  | .fetched | .dataIn | .dataOut | .ready | .posted | .squashed => [UnitNo.qen]
  | .lookup | .sequenced | .commit | .orphan => [UnitNo.mxe]
  | .media => [UnitNo.dsc, UnitNo.fca, UnitNo.cdx, UnitNo.spe]

/-- The kind of the exception event of a refused context write (R15). -/
def excCtxOwner := 15

/-- A unit would write a context that is not in a state for it (R15): where another unit owns the state the write is refused, and CCL is told; while the exception queue is full the unit holds it (R427). -/
def State.refuseCtx (unit c : Nat) (s : State) : State :=
  match Tbl.find? s.qen.ctxs c with
  | some x => if x.state.owners.contains unit ∨ s.excRoom = false then s else s.raiseExc unit 0 excCtxOwner c
  | none => s

end Sys2Proof.Machine
end

