-- ==== Sys2Proof/Machine/HostOps.lean ====
section
/-! DEFINITION. What the host link's rows share (spec/03): AER, the issue of data reads and of translation requests (R71 to R77), and the end of contexts at resets (Table 4.7, R53, R87, R120). -/

namespace Sys2Proof.Machine

/-! ## Contexts at resets -/

/-- Deltas and merges of a Write Zeroes or Dataset Management command not yet committed. -/
def Mxe.trimPend (m : Mxe) (c : Nat) : Nat :=
  (m.deltas.filter fun d => (d.kind == 3 || d.kind == 4) && d.owner == c).length + (m.inflight.filter fun f => f.ctx == c).length

/-- A Write Zeroes or Dataset Management command before its map commit (Tables 4.2 and 4.7). -/
def State.trimBefore (s : State) (c : Nat) (x : Ctx) : Bool :=
  x.state == .fetched || x.state == .dataIn || x.state == .lookup || (x.state == .commit && x.mediaPend == s.mxe.trimPend c)

/-- Withdraw what a command has given to placement and commit. -/
def Mxe.withdraw (m : Mxe) (c dsn : Nat) : Mxe :=
  { m with
    deltas := m.deltas.filter fun d => !((d.kind == 3 || d.kind == 4) && d.owner == c)
    inflight := m.inflight.filter fun f => !(f.ctx == c && f.dsn == dsn)
    locks := m.locks.filter fun l => l.dsn != dsn
    place := m.place.filter fun p => !(p.src == .host c && p.dsn == dsn) }

/-- Discard a context: no completion; its buffers go back, its transfers stop (R389). -/
def State.discardCtx (c : Nat) (x : Ctx) (s : State) : State := ((s.freeBufs x.bufs).modHlu fun h => h.dropDma c).freeCtx c

/-- A context at a reset of its function, slice or controller (Table 4.7, R53). -/
def State.squashCtx (s : State) (e : Nat × Ctx) : State :=
  let c := e.1
  let x := e.2
  if x.admin then s.discardCtx c x
  else if x.state = .orphan then s
  else if x.sqe.opcode = 0x01 ∧ x.dsn ≠ 0 then
    if Tbl.has s.mxe.writes x.dsn then s.modCtx c fun y => { y with state := .orphan } else s.freeCtx c
  else if (x.sqe.opcode = 0x08 ∨ x.sqe.opcode = 0x09) ∧ x.dsn ≠ 0 then
    if s.trimBefore c x then (s.modMxe fun m => m.withdraw c x.dsn).discardCtx c x
    else if x.state = .commit then s.modCtx c fun y => { y with state := .orphan }
    else s.freeCtx c
  else s.discardCtx c x

/-- Squash the contexts that a predicate names. -/
def State.squashWhere (p : Ctx → Bool) (s : State) : State := (s.qen.ctxs.filter fun e => p e.2).foldl State.squashCtx s

/-- Contexts in ORPHAN whose write is done are freed (R95). -/
def State.orphansDone (s : State) : State :=
  (s.qen.ctxs.filter fun e => e.2.state == .orphan && e.2.sqe.opcode == 0x01 && !Tbl.has s.mxe.writes e.2.dsn).foldl (fun s e => s.freeCtx e.1) s

/-- Outstanding tags that a predicate names go to quarantine (R87). -/
def State.quarantine (p : Tag → Bool) (s : State) : State :=
  s.modHlu fun h => { h with
    dmaQueue := h.dmaQueue.filter fun d => (Tbl.find? s.qen.ctxs d.c).isSome
    tags := h.tags.map fun t => if t.2.phase = .outstanding ∧ p t.2 = true then (t.1, { t.2 with phase := .quarantined, since := s.now }) else t }

/-- Delete the queues that a predicate on function and slice names. -/
def Qen.dropQueues (q : Qen) (p : Nat → Nat → Nat → Bool) : Qen :=
  { q with sqs := q.sqs.filter (fun e => !p e.1 e.2.fn e.2.slice), cqs := q.cqs.filter fun e => !p e.1 e.2.fn e.2.slice }

end Sys2Proof.Machine
end

