-- ==== Sys2Proof/Machine/IoCommands.lean ====
section
/-! DEFINITION. Meanings of READ, WRITE, WRITE_ZEROES, DATASET_MANAGEMENT, FLUSH and SEQUENCE_POINT (spec/04, spec/07, R13, R103 to R110, R193 to R196, R209). -/

namespace Sys2Proof.Machine

/-! ## Checks -/

/-- Why an I/O command on a namespace ends at once (Table 4.6, R306): out of range, longer than MDTS, no key, no writes accepted. -/
def State.rangeRefusal (s : State) (n : Namespace) (slba nlb : Nat) (wr : Bool) : Option Nat :=
  if !n.inRange slba nlb then some stLbaRange
  else if (s.nsKey n).isNone then some stDenied
  else if wr && (n.readOnly || s.mxe.readOnly) then some stWriteProtected
  else none

/-- MDTS: 2 MiB (Table 4.1). -/
def mdtsBytes := 2 * 2 ^ 20

/-! ## Reads -/

/-- The work for one slot: what its lookup gives (R184, R196). -/
def State.slotWork (s : State) (n : Namespace) (nsid no : Nat) : SlotWork :=
  match s.mxe.lookup n nsid no with
  | .stage d => { slotNo := no, loc := none, data := some d, lost := false, buf := none }
  | .zeros => { slotNo := no, loc := none, data := some 0, lost := false, buf := none }
  | .nand l => { slotNo := no, loc := some l, data := none, lost := false, buf := none }
  | .lost => { slotNo := no, loc := none, data := none, lost := true, buf := none }
  | .wait => { slotNo := no, loc := none, data := none, lost := false, buf := none }

/-- Slot numbers that bytes [first, first + n) of a namespace touch. -/
def slotSpan (first n : Nat) : List Nat := (List.range ((first + n + 4095) / 4096 - first / 4096)).map (first / 4096 + ·)

/-- A slot still to be looked up. -/
def SlotWork.waits (w : SlotWork) : Bool := w.data.isNone && !w.lost && w.loc.isNone

/-- A read's slots as looked up: MEDIA once every slot has its place; a LOST one fixes the status (R184, R343). -/
def State.readLooked (c : Nat) (work : List SlotWork) (s : State) : State :=
  (s.modCtx c fun x => { x with
    work := work
    state := if work.any SlotWork.waits then .lookup else .media
    mediaPend := (work.filter fun w => w.data.isNone && !w.lost).length
    status := if x.status = 0 ∧ work.any (fun w => w.lost) = true then stUnrecovered else x.status }).readAdvance c

/-- A command goes on once its data pointer is known (Table 4.1): a bad pointer ends it, a list still being read holds it. -/
def State.ptrGo (c : Nat) (x : Ctx) (f : State → State) (s : State) : State :=
  if x.state = .fetched ∧ x.status ≠ 0 then s.failCmd c x.status
  else if x.list.isSome then s else f s

/-- The lookups of a read (R13, R184, R196). -/
def State.readSlots (c : Nat) (x : Ctx) (n : Namespace) (s : State) : State :=
  if x.state = .fetched then
    s.readLooked c ((slotSpan (slbaOf x.sqe * n.lbaBytes) (nlbOf x.sqe * n.lbaBytes)).map (s.slotWork n x.sqe.nsid.toNat))
  else s.readLooked c (x.work.map fun w => if w.waits then s.slotWork n x.sqe.nsid.toNat w.slotNo else w)

/-- A read of a namespace its slice owns, past its checks. -/
def State.readGo (c : Nat) (x : Ctx) (n : Namespace) (s : State) : State :=
  if mdtsBytes < nlbOf x.sqe * n.lbaBytes then s.failCmd c stInvalidField else s.ptrGo c x (State.readSlots c x n)

/-- A read of a namespace its slice owns. -/
def State.readNs (c : Nat) (x : Ctx) (n : Namespace) (s : State) : State :=
  match s.rangeRefusal n (slbaOf x.sqe) (nlbOf x.sqe) false with
  | some st => s.failCmd c st
  | none => s.readGo c x n

/-- A command on a namespace: run where its slice owns it, refused elsewhere (R136). -/
def State.onOwnNs (c : Nat) (x : Ctx) (f : Namespace → State → State) (s : State) : State :=
  match s.ownNs x with
  | some n => f n s
  | none => s.nsViolation c

/-- READ (R13): the checks, then the lookups; run again while a lookup waits for a merge, a SUSPECT entry or a segment. -/
def execRead (c : Nat) (s : State) : Out :=
  match s.ioCtx c 0x02 [.fetched, .lookup] with
  | some x => .next (s.onOwnNs c x (State.readNs c x))
  | none => .next s

/-! ## Writes: data in -/

/-- The buffers of a write's data (Table 13.2): 16 KiB for each whole 16 KiB, 4 KiB for each 4 KiB left, the smallest fitting for the rest. -/
def pieceSizes (bytes : Nat) : List Nat :=
  List.replicate (bytes / 16384) 16384 ++ List.replicate (bytes % 16384 / 4096) 4096 ++ (if bytes % 4096 = 0 then [] else [bytes % 4096])

/-- Data reads of a transfer's parts (R65): min(MRRS, 512 B) each, and none crosses a 4 KiB boundary. -/
def Hlu.dmaPieces (h : Hlu) (c : Nat) (parts : List (Option Nat × Nat)) : List DmaReq :=
  (partPieces (max 1 (min h.mrrs 512)) 0 parts).map fun p => { c := c, off := p.1, len := p.2.2, addr := p.2.1, list := false, untranslated := false }

/-- A command that takes data from the host takes its buffers and asks for the data (DATA_IN); it waits while a buffer is wanting (R383). -/
def State.dataInGo (c : Nat) (pi : PiCheck) (x : Ctx) (s : State) : State :=
  match s.takeBufs UnitNo.qen (if x.admin then none else some x.slice) (pieceSizes x.bytes) none with
  | some (t, hs) =>
    ((t.modCtx c fun y => { y with state := .dataIn, bufs := hs, pi := pi }).modHlu fun h => { h with
      dmaQueue := h.dmaQueue ++ h.dmaPieces c x.parts }).dmaIssue
  | none => s

/-- A write of a namespace its slice owns: the checks that need no data. -/
def State.writeNs (c : Nat) (pi : PiCheck) (x : Ctx) (n : Namespace) (s : State) : State :=
  match s.rangeRefusal n (slbaOf x.sqe) (nlbOf x.sqe) true with
  | some st => s.failCmd c st
  | none => if mdtsBytes < nlbOf x.sqe * n.lbaBytes then s.failCmd c stInvalidField else s.ptrGo c x (State.dataInGo c pi x)

/-- WRITE (R193, R105): the checks that need no data; then buffers, and the reads of its data from the host. -/
def execWrite (c : Nat) (pi : PiCheck) (s : State) : Out :=
  match s.ioCtx c 0x01 [.fetched] with
  | some x => .next (s.onOwnNs c x (State.writeNs c pi x))
  | none => .next s

/-- Stage offset and length of each piece of a transfer in its buffers. -/
def Bpm.piecesOf (b : Bpm) (bufs : List (BitVec 24)) (bytes : Nat) : List (Nat × Nat) :=
  (bufs.map fun h => b.offset (hPool h) (hIdx h)).zip (pieceSizes bytes)

/-- Stage offset of byte `off` of a transfer. -/
def stageAddr : List (Nat × Nat) → Nat → Nat
  | [], _ => 0
  | (a, n) :: ps, off => if off < n then a + off else stageAddr ps (off - n)

/-- Bytes [off, off + len) of a transfer. -/
def Bpm.stageRead (b : Bpm) : List (Nat × Nat) → Nat → Nat → List Byte
  | [], _, _ => []
  | (a, n) :: ps, off, len =>
    if n ≤ off then b.stageRead ps (off - n) len
    else Memory.readN 0 b.sram (a + off) (min len (n - off)) ++ b.stageRead ps 0 (len - (n - off))

/-- Status of a failed protection check (Table 4.6). -/
def piStatus : PiCheck → Nat
  | .pass => 0
  | .guard => 0x282
  | .appTag => 0x283
  | .refTag => 0x284

/-- The last byte of a command's data has arrived (R95, R103, R105): LOOKUP; a write's protection checks decide whether it goes on. -/
def State.dataComplete (c : Nat) (x : Ctx) (s : State) : State :=
  if x.pi = .pass then s.modCtx c fun y => { y with state := .lookup } else s.failCmd c (piStatus x.pi)

/-! ## The sequence point -/

/-- A write's extent in bytes of its namespace. -/
structure Extent where
  first : Nat
  bytes : Nat
deriving DecidableEq, Repr, Inhabited

/-- Granules an extent touches. -/
def Extent.granules (e : Extent) (n : Namespace) : List Nat :=
  let g := 4096 * n.spg
  (List.range ((e.first + e.bytes + g - 1) / g - e.first / g)).map (e.first / g + ·)

/-- The bytes of the extent in slot number `no`: first byte in the slot and how many. -/
def Extent.inSlot (e : Extent) (no : Nat) : Nat × Nat :=
  let a := max e.first (4096 * no)
  let z := min (e.first + e.bytes) (4096 * no + 4096)
  (a - 4096 * no, z - a)

/-- The part of a write that is placed directly (R193): whole multiples of DIRECT_MIN_KIB. -/
def State.directPart (s : State) (e : Extent) : Nat × Nat :=
  let d := max 1 (1024 * s.obj Ob.DIRECT_MIN_KIB)
  ((e.first + d - 1) / d * d, (e.first + e.bytes) / d * d)

/-- Kind of band of a granule (R193). -/
def State.granuleKind (s : State) (n : Namespace) (e : Extent) (g : Nat) : BandKind :=
  let w := 4096 * n.spg
  if (s.directPart e).1 ≤ g * w ∧ (g + 1) * w ≤ (s.directPart e).2 then .user else .landing

/-- What a command does to a granule: the whole slots with their data, the slots it covers in part, the slots whose old content is needed (R195). -/
structure Cover where
  whole : List (Nat × SlotData)
  part  : List (Nat × Nat × Nat × SlotData)
  need  : List Nat
deriving DecidableEq, Repr, Inhabited

/-- The cover of granule `g`; `src` gives the bytes [off, off + len) of the transfer as a number. -/
def Extent.cover (e : Extent) (n : Namespace) (src : Nat → Nat → Nat) (g : Nat) : Cover :=
  (List.range n.spg).foldl (fun c k =>
    let no := g * n.spg + k
    let p := e.inSlot no
    let data := BitVec.ofNat 32768 (src (4096 * no + p.1 - e.first) p.2 * 2 ^ (8 * p.1))
    if p.2 = 4096 then { c with whole := c.whole ++ [(k, data)] }
    else if p.2 = 0 then { c with need := c.need ++ [k] }
    else { c with part := c.part ++ [(k, p.1, p.2, data)], need := c.need ++ [k] }) ⟨[], [], []⟩

/-- The granules that a command covers only in part. -/
def Extent.partials (e : Extent) (n : Namespace) : List Nat :=
  (e.granules n).filter fun g => decide (4096 * (g * n.spg) < e.first) || decide (e.first + e.bytes < 4096 * ((g + 1) * n.spg))

/-- Granules that hold an entry of the lock table (R195): several writes may wait for one. -/
def Mxe.lockedGrans (m : Mxe) : Nat := (m.locks.map fun l => (l.nsid, l.index)).eraseDups.length

/-- The lock table, the in-flight table and the journal have room (R103, R195, R196, R202). -/
def State.tablesRoom (s : State) (nsid : Nat) (locks : List Nat) (grans : Nat) : Bool :=
  decide (s.mxe.lockedGrans + (locks.filter fun g => !s.mxe.locks.any fun l => l.nsid == nsid && l.index == g).length ≤ 65536) && decide (s.mxe.inflight.length + grans ≤ 131072)
    && decide (s.mxe.jbytes < 2 ^ 30 * s.obj Ob.JRNL_MAX_GIB)

/-- The next DSN (R104, R188): DSNs begin at 1, 0 stands for none (Table 4.4). -/
def Mxe.nextDsn (m : Mxe) : Nat := max 1 m.dsn

/-- Enter one granule in the in-flight table, under its lock where it is partial, else complete to placement (R193, R195, R196). -/
def State.enterGranule (x : Ctx) (c dsn : Nat) (n : Namespace) (e : Extent) (src : Nat → Nat → Nat) (stages : Nat → List (Nat × Nat))
    (s : State) (g : Nat) : State :=
  let nsid := x.sqe.nsid.toNat
  let v := e.cover n src g
  let s := s.modMxe fun m => { m with inflight := m.inflight ++ [{ nsid := nsid, index := g, dsn := dsn, ctx := c, slots := v.whole, loc := none, pend := 0
                                                                   kind := s.granuleKind n e g, cls := svcOp x.cls, stages := stages g }] }
  if v.need.isEmpty then s.placeGranule nsid g dsn []
  else s.modMxe fun m => { m with locks := m.locks ++ [{ nsid := nsid, index := g, dsn := dsn, reading := false, base := none, need := v.need, part := v.part, lost := [] }] }

/-- Stage offsets of the whole slots of a granule (R308). -/
def Extent.stages (e : Extent) (n : Namespace) (ps : List (Nat × Nat)) (g : Nat) : List (Nat × Nat) :=
  (List.range n.spg).filterMap fun k =>
    let no := g * n.spg + k
    if (e.inSlot no).2 = 4096 then some (k, stageAddr ps (4096 * no - e.first)) else none

/-- The write posts at its sequence point (R108): a protected-mode namespace, HOLDUP_VER and WCE set as the tick began (R109), no FUA. -/
def State.postsEarly (s : State) (x : Ctx) : Bool := s.protectedNs x.sqe.nsid.toNat && s.qen.protOk && !x.fua

/-- The extent of a write. -/
def Ctx.extent (x : Ctx) (n : Namespace) : Extent := ⟨slbaOf x.sqe * n.lbaBytes, nlbOf x.sqe * n.lbaBytes⟩

/-- The write takes its DSN (R103, R150, R193 to R196). -/
def State.takeDsn (c : Nat) (x : Ctx) (n : Namespace) (s : State) : State :=
  let dsn := s.mxe.nextDsn
  let e := x.extent n
  let ps := s.bpm.piecesOf x.bufs x.bytes
  let b := s.bpm
  let gs := e.granules n
  let early := s.postsEarly x
  let rec_ : WriteRec := { ctx := some c, bufs := x.bufs, pend := gs.length, grans := gs.length, nsid := x.sqe.nsid.toNat, posted := false, prot := early }
  let s := s.modMxe fun m => { m with dsn := dsn + 1, seqLast := some c, writes := Tbl.put m.writes dsn rec_ }
  let s := gs.foldl (State.enterGranule x c dsn n e (fun off len => leNat (b.stageRead ps off len)) (e.stages n ps)) s
  let s := s.modCtx c fun y => { y with
    dsn := dsn, bufs := [], prot := early, mediaPend := gs.length * n.spg, bytesDone := x.bytes, state := if early then .ready else .sequenced }
  (s.logExtents n.slice x.sqe.nsid.toNat e.first e.bytes).lockStart

/-- A stage buffer of the write is poisoned (R308). -/
def Bpm.poisonedBufs (b : Bpm) (bufs : List (BitVec 24)) : Bool :=
  bufs.any fun h => (b.desc (hPool h) (hIdx h)).poison || !(b.poisonIn (hPool h) (hIdx h)).isEmpty

/-- Gallery units take their DSNs in the order in which they became writes (R167). -/
def State.unitTurn (s : State) (x : Ctx) : Bool :=
  x.win.isNone || !(s.qen.ctxs.any fun e => e.2.win.isSome && e.2.sqe.opcode == 0x01 && e.2.state == .lookup && decide (e.2.fetchOrd < x.fetchOrd))

/-- Every condition of R103 but the checks of the command holds. -/
def State.seqMay (s : State) (x : Ctx) (n : Namespace) : Bool :=
  x.dataIn == x.bytes && s.tablesRoom x.sqe.nsid.toNat ((x.extent n).partials n) ((x.extent n).granules n).length && !s.dlogStalled x.slice
    && s.hum.dump.isNone && s.unitTurn x

/-- A write's sequence point is due: it would take its DSN (R103). -/
def State.seqDue (s : State) (x : Ctx) : Bool :=
  !x.admin && x.sqe.opcode == 0x01 && x.state == .lookup && !x.bmeStall && !s.bpm.poisonedBufs x.bufs
    && (s.ownNs x).any fun n => (s.rangeRefusal n (slbaOf x.sqe) (nlbOf x.sqe) true).isNone && s.seqMay x n

/-- DSNs of one tick go out in ascending context number (R104): none to a higher one is given yet, and no write of a lower one is due. -/
def State.dsnTurn (s : State) (c : Nat) : Bool :=
  s.mxe.seqLast.all (fun k => decide (k < c)) && !s.qen.ctxs.any fun e => decide (e.1 < c) && s.seqDue e.2

/-- The sequence point of a write to a namespace its slice owns. -/
def State.seqGo (c : Nat) (x : Ctx) (n : Namespace) (s : State) : State :=
  match s.rangeRefusal n (slbaOf x.sqe) (nlbOf x.sqe) true with
  | some st => s.failCmd c st
  | none => if s.seqMay x n && s.dsnTurn c then s.takeDsn c x n else s

/-- A poisoned stage buffer refuses the write (R308). -/
def State.seqNs (c : Nat) (x : Ctx) (n : Namespace) (s : State) : State :=
  if s.bpm.poisonedBufs x.bufs then (s.count Fld.CDX_POISON_CNT.REFUSED 0 1).failCmd c stWriteFault else s.seqGo c x n

/-- SEQUENCE_POINT (R103): refused with the status of Table 4.6, or given once every condition holds. -/
def execSequencePoint (c : Nat) (s : State) : Out :=
  match s.ioCtx c 0x01 [.lookup] with
  | some x => .next (s.onOwnNs c x (State.seqNs c x))
  | none => .next (s.refuseCtx UnitNo.mxe c)

/-! ## Write Zeroes, Dataset Management, Flush -/

/-- The delta of the whole granules of an extent (R209, Table 7.7), if it has any. -/
def Extent.trimDelta (e : Extent) (n : Namespace) (kind nsid dsn c : Nat) : List Delta :=
  let g := 4096 * n.spg
  let a := (e.first + g - 1) / g
  let z := (e.first + e.bytes) / g
  if a < z then [{ kind := kind, nsid := nsid, index := a, count := z - a, value := MapEntry.unmapped, source := none, dsn := dsn, owner := c }] else []

/-- The commit work of a Write Zeroes or deallocate command (R209): one DSN, a delta for each contiguous range, a merge with zeros for each granule covered in part. -/
def State.trimCmd (c kind : Nat) (x : Ctx) (n : Namespace) (es : List Extent) (s : State) : State :=
  let dsn := s.mxe.nextDsn
  let nsid := x.sqe.nsid.toNat
  let s := s.modMxe fun m => { m with dsn := dsn + 1, seqLast := some c, deltas := m.deltas ++ es.flatMap fun e => e.trimDelta n kind nsid dsn c }
  let s := es.foldl (fun s e => (e.partials n).foldl (State.enterGranule x c dsn n e (fun _ _ => 0) (fun _ => [])) s) s
  let s := (s.freeBufs x.bufs).modCtx c fun y => { y with dsn := dsn, bufs := [], state := .commit, mediaPend := s.mxe.trimPend c }
  s.lockStart.trimsDone

/-- Ranges of a command checked against its namespace; its range resolution (LOOKUP) lasts until the tables and the dirty log have room and its DSN is due (R95, R104, R153). -/
def State.trimRun (c kind : Nat) (x : Ctx) (n : Namespace) (rs : List (Nat × Nat)) (s : State) : State :=
  match rs.findSome? fun r => s.rangeRefusal n r.1 r.2 true with
  | some st => s.failCmd c st
  | none =>
    let es := rs.map fun r => (⟨r.1 * n.lbaBytes, r.2 * n.lbaBytes⟩ : Extent)
    let parts := es.flatMap fun e => e.partials n
    if s.tablesRoom x.sqe.nsid.toNat parts parts.length && s.dsnTurn c && !s.dlogStalled x.slice then
      (s.modCtx c fun y => { y with ranges := rs }).trimCmd c kind x n es
    else s.modCtx c fun y => { y with state := .lookup }

/-- WRITE_ZEROES (R209). -/
def execWriteZeroes (c : Nat) (s : State) : Out :=
  match s.ioCtx c 0x08 [.fetched, .lookup] with
  | some x => .next (s.onOwnNs c x fun n s => s.trimRun c 4 x n [(slbaOf x.sqe, nlbOf x.sqe)])
  | none => .next s

/-- A range of a Dataset Management list (16 B: context attributes, LBAs, first LBA; NVMe, notes/assumptions/10.md): first LBA and LBAs. -/
def dsmRange (v : Nat) : Nat × Nat := (bitsOf v 127 64, bitsOf v 63 32)

/-- The ranges that a Dataset Management command has read into its buffers, without the empty ones. -/
def State.dsmRanges (s : State) (x : Ctx) : List (Nat × Nat) :=
  ((numbersOf 16 (leNat (s.bpm.stageRead (s.bpm.piecesOf x.bufs x.bytes) 0 x.bytes)) (x.bytes / 16)).map dsmRange).filter fun r => r.2 != 0

/-- The ranges of a command with the Deallocate attribute (CDW11 bit 2) are deallocated; the other attributes are hints (Table 4.2). -/
def State.dsmNs (c : Nat) (x : Ctx) (n : Namespace) (s : State) : State :=
  if x.state = .fetched then s.ptrGo c x (State.dataInGo c .pass x)
  else if x.sqe.cdw11.getLsbD 2 then s.trimRun c 3 x n (s.dsmRanges x)
  else s.failCmd c 0

/-- DATASET_MANAGEMENT (R95, R209): FETCHED to DATA_IN, while its range list is read; from LOOKUP to COMMIT. -/
def execDatasetManagement (c : Nat) (listRead : Bool) (s : State) : Out :=
  match s.ioCtx c 0x09 [if listRead then .lookup else .fetched] with
  | some x => .next (s.onOwnNs c x (State.dsmNs c x))
  | none => .next s

/-- Flushes whose writes are all on NAND are final (R119). -/
def State.flushDone (s : State) : State :=
  (s.qen.ctxs.filter fun e => !e.2.admin && e.2.sqe.opcode == 0x00 && e.2.state == .media
      && e.2.waits.all fun d => ((Tbl.find? s.mxe.writes d).map WriteRec.pend).getD 0 == 0).foldl
    (fun s e => s.modCtx e.1 fun y => { y with state := .ready }) s

/-- Stage contents are forced to NAND (R109, R119): the slots of the named writes are placed ahead of all others. -/
def Mxe.force (p : Nat → Bool) (m : Mxe) : Mxe :=
  let first := fun (x : PlaceSlot) => (match x.src with | .host _ => true | .copy _ | .system _ | .pad => false) && p x.dsn
  { m with place := m.place.filter first ++ m.place.filter fun x => !first x }

/-- HOLDUP_VER or WCE has cleared in the tick that ends: a force of every namespace begins (R109). -/
def State.forceOnLoss (s : State) : State :=
  if s.qen.protOk && !(s.hum.state == .verified && s.qen.wce) then s.modMxe (Mxe.force fun d => (Tbl.find? s.mxe.writes d).any WriteRec.posted) else s

/-- FLUSH (R118, R119): the stage contents of the covered writes are forced to NAND; final once every covered write is there. -/
def execFlush (c : Nat) (s : State) : Out :=
  match s.ioCtx c 0x00 [.fetched] with
  | some x =>
    if x.sqe.nsid = 0xFFFFFFFF ∨ (s.ownNs x).isSome = true then .next ((s.modCtx c fun y => { y with state := .media }).modMxe (Mxe.force fun d => x.waits.contains d)).flushDone
    else .next (s.nsViolation c)
  | none => .next s

end Sys2Proof.Machine
end

