-- ==== Sys2Proof/Machine/Queues.lean ====
section
/-! DEFINITION. Meanings of DOORBELL_WRITE, SQ_ENTRY_FETCH, FETCH_AGE_PROMOTION, POSTING_DECISION, INTERRUPT_COALESCING_EXPIRY, and of the power-state rows AUTONOMOUS_PS_TRANSITION, NONOP_ENTRY_COMPLETE and NONOP_EXIT_COMPLETE (spec/04). -/

namespace Sys2Proof.Machine

/-! ## Doorbells (R97, R137) -/

/-- The doorbell's PASID prefix differs from the PASID of the queue's slice (R137). -/
def State.pasidDiffers (s : State) (key sl : Nat) (pasid : Option Nat) : Bool :=
  decide (key < 4096) && pasid.isSome && pasid != s.slicePasid sl

/-- A doorbell is discarded for its PASID (R137). -/
def State.doorbellViolation (sl : Nat) (s : State) : State :=
  ((s.flag Fld.TNU_VIOL_STS.DOORBELL_PASID 0 1).modTnu fun t => { t with violSlice := sl }).trigger 0x06 UnitNo.tnu sl 0

/-- An I/O doorbell in a non-operational state starts the return to an operational one (R126). -/
def State.wakeUp (key : Nat) (s : State) : State :=
  if key < 4096 ∧ 3 ≤ s.qen.ps ∧ s.qen.exitSince = none then s.modQen fun q => { q with exitSince := some s.now } else s

/-- A new SQ tail: the entries up to it arrive in this tick. -/
def State.sqTail (key : Nat) (q : Sq) (v : Nat) (s : State) : State :=
  (s.modQen fun n => { n with sqs := Tbl.put n.sqs key { q with
    tail := v, arrivals := q.arrivals ++ List.replicate ((v + q.size - q.tail) % q.size) s.now } }).wakeUp key

/-- DOORBELL_WRITE (R97, R137): a class 9 arrival. -/
def execDoorbellWrite (fn qid : Nat) (isCq : Bool) (value : Nat) (pasid : Option Nat) (s : State) : Out :=
  if s.postedHeld then .next s else
  let s := s.arrive 4
  if !s.fnOpen fn then .next (s.urTlp false) else
  match s.queueKey fn qid with
  | some key =>
    if isCq then
      match Tbl.find? s.qen.cqs key with
      | some q =>
        if s.pasidDiffers key q.slice pasid then .next (s.doorbellViolation q.slice)
        else if q.size ≤ value then .next (s.asyncEvent fn (AsyncEvent.invalidDoorbell true))
        else .next (s.modQen fun n => { n with cqs := Tbl.put n.cqs key { q with head := value } })
      | none => .next (s.asyncEvent fn (AsyncEvent.invalidDoorbell false))
    else
      match Tbl.find? s.qen.sqs key with
      | some q =>
        if s.pasidDiffers key q.slice pasid then .next (s.doorbellViolation q.slice)
        else if q.size ≤ value then .next (s.asyncEvent fn (AsyncEvent.invalidDoorbell true))
        else .next (s.sqTail key q value)
      | none => .next (s.asyncEvent fn (AsyncEvent.invalidDoorbell false))
  | none => .next (s.asyncEvent fn (AsyncEvent.invalidDoorbell false))

/-! ## Fetch (R98 to R101) -/

/-- A link error of a read of host memory (R98, Table 3.4). -/
def State.linkError (k : CplKind) (s : State) : State :=
  match k with
  | .poisoned => (s.aerLog .poisoned).count Fld.HLU_POISON_CNT.INBOUND 0 1
  | .ur => s.aerLog .unsupported
  | .ok | .ca => s

/-- The window that is a function's Controller Memory Buffer (R162): its number and size. -/
def State.cmbWindow (s : State) (fn : Nat) : Option (Nat × Nat) :=
  (s.gal.active.find? fun e => e.2.ctl.getLsbD 31 && bitsOf e.2.ctl.toNat 28 26 == 2 && s.sliceObj Ob.FUNC (bitsOf e.2.ctl.toNat 9 0) == fn).map
    fun e => (e.1, 2 ^ 21 * bitsOf e.2.size.toNat 15 0)

/-- Key of a byte of a STAGE or CMB_SQ window. -/
def galKey (n rel : Nat) : Nat := 2 ^ 36 * n + rel

/-- The next `n` entries of a queue in the Controller Memory Buffer, at offset `o` of it (R98, R162); outside the buffer nothing is fetched. -/
def State.cmbEntries (s : State) (q : Sq) (o n : Nat) : List Sqe :=
  match s.cmbWindow q.fn with
  | some (w, size) =>
    if o + 64 * (q.head + n) ≤ size then sqesOf (leNat (Memory.readN 0 s.gal.mem (galKey w (o + 64 * q.head)) (64 * n))) n else []
  | none => []

/-- Host address of the next entry of a queue. -/
def Sq.nextAddr (q : Sq) : Nat := q.base + 64 * q.head

/-- Issue the fetch read of `n` entries of a queue (R98): first its page is translated (R77). -/
def State.fetchRead (t : Turn) (key : Nat) (q : Sq) (n : Nat) (s : State) : State :=
  let sl := q.chargedTo key
  if s.hlu.pageOk q.fn (s.dmaPasid sl) (q.nextAddr / 4096) q.untrans then
    match s.nextTag with
    | some tag =>
      ((s.modQen fun x => { x.turnTaken t key q n with sqs := Tbl.put x.sqs key { q with untrans := false } }).issueTag tag (.fetch key n) q.fn sl q.untrans).emit
        (.memRead tag q.fn (s.dmaPasid sl) q.nextAddr (64 * n))
    | none => s
  else s.askPage q.fn sl (q.nextAddr / 4096)

/-- SQ_ENTRY_FETCH (R98): the turn of the arbitration's winner; another queue's turn has not come. Entries in the Controller Memory Buffer are fetched at once; others are asked for with one read. -/
def execSqEntryFetch (sq : Nat) (s : State) : Out :=
  match s.winnerSq with
  | some (t, key, q) =>
    if key = sq then match q.cmb with
      | some o => .next ((s.modQen fun n => n.turnTaken t key q (s.qen.turnEntries key q)).fetchEntries key (s.cmbEntries q o (s.qen.turnEntries key q)))
      | none => .next (s.fetchRead t key q (s.qen.turnEntries key q))
    else .next s
  | none => .next s

/-- The data of a fetch read (R98): its entries are fetched while the queue may be fetched from; those not fetched stay in the SQ. -/
def State.fetchArrives (key n data : Nat) (s : State) : State := s.fetchEntries key (sqesOf data n)

/-- The queue's oldest entry has waited longer than a limit in µs. -/
def State.waited (s : State) (q : Sq) (us : Nat) : Bool :=
  match q.arrivals with
  | a :: _ => decide (usTicks us < s.since a)
  | [] => false

/-- FETCH_AGE_PROMOTION (R101). -/
def execFetchAgePromotion (sq : Nat) (s : State) : Out :=
  match Tbl.find? s.qen.sqs sq with
  | some q =>
    if sq < 4096 then
      let up := !q.promoted && ((s.sqClass q == .background && s.waited q (s.obj Ob.QEN_AGE_BKG_US)) || (s.sqClass q == .normal && s.waited q (s.obj Ob.QEN_AGE_NORMAL_US)))
      let q := if up then { q with promoted := true } else q
      let q := if s.sqEff q = .high ∧ s.waited q (s.obj Ob.AGE_HIGH_US) = true then { q with urgentTurn := true } else q
      .next (s.modQen fun n => { n with sqs := Tbl.put n.sqs sq q })
    else .next s
  | none => .next s

/-! ## Posting (R107 to R111) -/

/-- The completion queue of a context. -/
def State.cqOf (s : State) (x : Ctx) : Option (Nat × Cq) :=
  match Tbl.find? s.qen.sqs x.sqid with
  | some q => (Tbl.find? s.qen.cqs q.cq).map fun c => (q.cq, c)
  | none => none

/-- A slot of the completion queue is free. -/
def Cq.free (q : Cq) : Bool := (q.tail + 1) % q.size != q.head

/-- Interrupt of a completion queue: at once, or under Interrupt Coalescing (R111; notes/assumptions/10.md). -/
def State.signalCq (key : Nat) (s : State) : State :=
  match Tbl.find? s.qen.cqs key with
  | some q =>
    let k := s.qen.ctrl q.fn
    if q.ien = false then s
    else if key < 4096 ∧ k.coalTime ≠ 0 ∧ q.unsignalled < k.coalThr then
      s.modQen fun n => { n with cqs := Tbl.put n.cqs key { q with unsignalled := q.unsignalled + 1, since := some (q.since.getD s.now) } }
    else (s.emit (.msix q.fn q.vec)).modQen fun n => { n with cqs := Tbl.put n.cqs key { q with unsignalled := 0, since := none } }
  | none => s

/-- Host address of the next entry of a completion queue. -/
def Cq.nextAddr (q : Cq) : Nat := q.base + 16 * q.tail

/-- The completion queue entry of a context (R111): its page is logged before it is written (R150, R152). -/
def State.postCqe (key : Nat) (q : Cq) (x : Ctx) (s : State) : State :=
  let s := if x.admin then s else s.dlogEntry q.slice (pageEntry (q.nextAddr / 4096))
  let s := s.emit (.cqe key x.sqid x.sqe.cid.toNat (((Tbl.find? s.qen.sqs x.sqid).map Sq.head).getD 0) x.status x.result q.phase
    q.fn (s.dmaPasid x.chargedTo) q.nextAddr)
  (s.modQen fun n => { n with cqs := Tbl.put n.cqs key { q with
    tail := (q.tail + 1) % q.size, phase := if q.tail + 1 = q.size then !q.phase else q.phase, untrans := false } }).signalCq key

/-- A posted write leaves its context to MXE's placement record (R108). -/
def State.writePosted (x : Ctx) (s : State) : State :=
  if x.admin = false ∧ x.sqe.opcode = 0x01 ∧ x.dsn ≠ 0 then
    s.modMxe fun m => { m with writes := Tbl.adjust m.writes x.dsn fun w => { w with ctx := none, posted := true } }
  else s

/-- Delete I/O Submission Queue commands whose fetched commands have all posted are final; the queue goes (R528). -/
def State.deletionsDone (s : State) : State :=
  (s.qen.ctxs.filter fun e => e.2.admin && e.2.accepted && e.2.sqe.opcode == 0x00
      && !(s.qen.ctxs.any fun f => !f.2.admin && e.2.waits.contains f.2.sqid)).foldl
    (fun s e => (s.modQen fun q => { q with sqs := q.sqs.filter fun f => !e.2.waits.contains f.1 }).finish e.1 0) s

/-- The page of the next completion queue entry may be written (R77). -/
def State.cqPageOk (s : State) (x : Ctx) (q : Cq) : Bool := s.hlu.pageOk q.fn (s.dmaPasid x.chargedTo) (q.nextAddr / 4096) q.untrans

/-- A posting decision may be taken (R77, R86, R111, R153). -/
def State.mayPost (s : State) (x : Ctx) (q : Cq) : Bool :=
  q.free && !x.bmeStall && s.hlu.ready && s.cqPageOk x q && (x.admin || !s.dlogStalled x.slice) && s.hum.dump.isNone && !s.gapped

/-- The posting of a Firmware Commit with action 011b starts the confirmation window (R124, R455). -/
def State.activationPosted (c : Nat) (s : State) : State :=
  if s.qen.actCtx = some c then (s.modQen fun q => { q with actCtx := none }).modCsu fun u => { u with window := some s.now } else s

/-- POSTING_DECISION (R111): class 6. The page of the entry may have to be translated first (R77). -/
def execPostingDecision (c : Nat) (s : State) : Out :=
  match Tbl.find? s.qen.ctxs c with
  | some x =>
    if x.state = .ready ∧ x.win = none then
      match s.cqOf x with
      | some (key, q) =>
        if s.mayPost x q then
          .next (((((((s.sample 6).postCqe key q x).freeBufs x.bufs).writePosted x).activationPosted c).freeCtx c).deletionsDone)
        else if s.cqPageOk x q = false ∧ x.bmeStall = false then .next (s.askPage q.fn x.chargedTo (q.nextAddr / 4096))
        else .next s
      | none => .next s
    else .next (s.refuseCtx UnitNo.qen c)
  | none => .next s

/-- INTERRUPT_COALESCING_EXPIRY (R111). -/
def execInterruptCoalescingExpiry (cq : Nat) (s : State) : Out :=
  match Tbl.find? s.qen.cqs cq with
  | some q =>
    if q.unsignalled ≠ 0 ∧ s.passedSome q.since (usTicks (100 * (s.qen.ctrl q.fn).coalTime)) = true ∧ s.busMaster q.fn = true then
      .next ((s.emit (.msix q.fn q.vec)).modQen fun n => { n with cqs := Tbl.put n.cqs cq { q with unsignalled := 0, since := none } })
    else .next s
  | none => .next s

/-! ## Power states (R125, R126) -/

/-- The context holds no work: an Asynchronous Event Request, or a Power Management command that waits (notes/assumptions/28.md). -/
def Ctx.idle (x : Ctx) : Bool := x.admin && x.accepted && (x.sqe.opcode == 0x0C || x.sqe.opcode == 0x09)

/-- No context is allocated to a command that runs. -/
def State.noCommands (s : State) : Bool := s.qen.ctxs.all fun e => e.2.idle

/-- Apply a request for a power state: an operational one at once, a non-operational one becomes the pending entry; while one is pending, requests wait (R126). -/
def State.psApply (r : PsRequest) (s : State) : State :=
  if s.qen.entryPend.isSome then s.modQen fun q => { q with psWaiting := q.psWaiting ++ [r] }
  else if r.ps ≤ 2 then s.modQen fun q => { q with ps := r.ps, lastOp := r.ps, exitSince := none, psPost := q.psPost ++ r.ctx.toList }
  else s.modQen fun q => { q with entryPend := some r }

/-- AUTONOMOUS_PS_TRANSITION (R126). -/
def execAutonomousPsTransition (ps : Nat) (s : State) : Out := if ps ≤ 4 then .next (s.psApply { ps := ps, ctx := none }) else .next s

/-- An I/O entry has arrived that fetching has still to serve: it is served before the entry (R126). -/
def State.ioArrived (s : State) : Bool := s.qen.sqs.any fun e => decide (e.1 < 4096) && s.sqOn e.1 e.2

/-- NONOP_ENTRY_COMPLETE (R126, R230): once no context is allocated, every die queue is empty and every die is IDLE; then the requests that waited, in their order. -/
def execNonopEntryComplete (s : State) : Out :=
  match s.qen.entryPend with
  | some r =>
    if s.noCommands && !s.ioArrived && s.dsc.quiet then
      let ws := s.qen.psWaiting
      let s := s.modQen fun q => { q with ps := r.ps, entryPend := none, psWaiting := [], exitSince := none }
      let s := r.ctx.elim s fun c => s.finish c 0
      .next (ws.foldl (fun s w => s.psApply w) s)
    else .next s
  | none => .next s

/-- Low power of the parts in a non-operational state, until an I/O command's doorbell starts the return (Table 4.8, R126): the NAND stands by in PS3 and PS4, the clusters sleep in PS4. -/
def Qen.nandStandby (q : Qen) : Bool := decide (3 ≤ q.ps) && q.exitSince.isNone
def Qen.clustersAsleep (q : Qen) : Bool := q.ps == 4 && q.exitSince.isNone

/-- NONOP_EXIT_COMPLETE (R126): back in the last operational state. -/
def execNonopExitComplete (s : State) : Out :=
  if s.qen.exitSince.isSome ∧ 3 ≤ s.qen.ps then .next (s.modQen fun q => { q with ps := q.lastOp, exitSince := none })
  else .next s

end Sys2Proof.Machine
end

