-- ==== Sys2Proof/Machine/Stripes.lean ====
section
/-! DEFINITION. Stripe Engine (spec/11): gather timeout, the stripe journal's pages and the loss of its copies, and the rebuild in its two phases. -/

namespace Sys2Proof.Machine

/-! ## Gathering (R326) -/

/-- PAD pages for the data units of a stripe that have not been issued. -/
def State.padStripe (x : Stripe) (b : Band) (s : State) : State :=
  let todo := x.dataOrds.filter fun i => !x.issued.getLsbD i && !x.missing.getLsbD i
  todo.foldl (fun s i =>
    let m := x.units.getD i default
    let p := (s.unitBlock b m x.pos, unitPage b x.row x.pos)
    if s.pageUsed m.1 p then s
    else (s.submitOp { kind := modeKind b.mode, die := m.1, block := p.1, page := p.2, planes := 1, cls := b.lastCls, raised := false, slice := b.slice }
      .place [p] (b.padTo4 []) x.band).count Fld.SPE_PAD_CNT.COUNT 0 1) s

/-- GATHER_TIMEOUT (R326): a stripe in GATHERING for GATHER_MAX_US. -/
def execGatherTimeout (b row pos stripe : Nat) (s : State) : Out :=
  match Tbl.find? s.mxe.bands b with
  | some band =>
    match s.spe.stripe? band.bsn row pos stripe with
    | some x =>
      if x.state = .gathering ∧ s.passed x.started (usTicks (s.obj Ob.GATHER_MAX_US)) = true then .next (s.padStripe x band) else .next s
    | none => .next s
  | none => .next s

/-! ## Journal (R330, R331) -/

/-- STRIPE_JOURNAL_PAGE_WRITE (R330): a log page that is full, or SJ_FLUSH_US old, goes to the copies in service. -/
def execStripeJournalPageWrite (s : State) : Out :=
  if 0 < s.spe.pageFill ∧ (256 ≤ s.spe.pageFill ∨ s.passedSome s.spe.pageTick (usTicks (s.obj Ob.SJ_FLUSH_US)) = true) then
    .next (s.modSpe fun p => { p with
      nandA := if p.okA then p.stripes else p.nandA, nandB := if p.okB then p.stripes else p.nandB
      pageFill := p.pageFill - 256, pageTick := if 256 < p.pageFill then some s.now else none })
  else .next s

/-- STRIPE_JOURNAL_COPY_LOST (R331, Table 11.4). -/
def execStripeJournalCopyLost (lost : CopyLost) (s : State) : Out :=
  match lost with
  | .a => .next (s.sjLose true false false)
  | .b => .next (s.sjLose false true false)
  | .ab => .next (s.sjLose true true false)
  | .s => .next (s.sjLose false false true)
  | .abs => .next (s.sjLose true true true)

/-- DEGRADED stripes leave the journal once every relocation of their data units has committed or been discarded (R328). -/
def State.releaseDegraded (s : State) : State :=
  let waits := fun (x : Stripe) => (Tbl.find? s.mxe.bands x.band).any fun b => s.mxe.jobs.any fun j => !j.2.done &&
    x.units.any fun m => j.2.source.die == m.1 && j.2.source.block == s.unitBlock b m x.pos && decide (j.2.source.page ≤ unitPage b x.row x.pos)
      && decide (unitPage b x.row x.pos ≤ j.2.source.page + (s.mxe.spgOf j.2.nsid - 1) / 4)
  (s.spe.stripes.filter fun x => x.state == .degraded && !waits x).foldl (fun s x =>
    (s.modSpe fun p => { p with stripes := p.stripes.filter fun y => !y.same x }).stripeLogged) s

/-! ## Rebuild (R332 to R340) -/

/-- A member of the band lies on the failed set. -/
def Spe.hitsBand (p : Spe) (b : Band) : Bool := b.members.any fun m => p.failed.contains m.1

/-- Parity units of a class. -/
def parUnits : ParClass → Nat
  | .none => 0
  | .p => 1
  | .pq => 2

/-- Some stripe of a closed band has as many missing units as parity units (R336), over the band's 64 permutations. -/
def State.bandRaised (s : State) (b : Band) : Bool :=
  (b.state == .closed || b.state == .victim) && (List.range 64).any fun k =>
    let row := k / s.ppr b
    let pos := k % s.ppr b
    decide (row < s.fca.part.wls - 8) && (List.range (stripeCount b.members.length b.width)).any fun j =>
      let us := s.stripeUnits b row pos j
      let n := (us.filter fun m => s.spe.failed.contains m.1).length
      let p := parUnits (stripeClass b.par us.length)
      decide (0 < p) && n == p

/-- Raised priority follows R336, and its onset is recorded. -/
def State.raiseRebuild (s : State) : State :=
  let on := s.spe.rbActive && (s.mxe.bands.any fun e => s.spe.rbBands.contains e.1 && s.bandRaised e.2)
  let s := if on && !s.spe.rbRaised then s.trigger 0x14 UnitNo.spe 0 (dieArg (s.spe.failed.headD 0) (chOf (s.spe.failed.headD 0)) 0) else s
  s.modSpe fun p => { p with rbRaised := on }

/-- The rebuild starts over the bands that touch the failed set (R332). -/
def State.rebuildGo (s : State) : State :=
  if s.spe.failed ≠ [] ∧ s.spe.rbActive = false then
    let bs := (s.mxe.bands.filter fun e => s.spe.hitsBand e.2).map Prod.fst
    let s := s.modSpe fun p => { p with rbActive := true, rbPhase2 := false, rbDone := [], rbBands := bs, rbTotal := bs.length, rbDue := none, rbLost := [] }
    let d := s.spe.failed.headD 0
    (s.trigger 0x14 UnitNo.spe 0 (dieArg d (chOf d) 0)).raiseRebuild
  else s

/-- REBUILD_START (R332): with REBUILD_AUTO 1, in the tick after a die has joined the failed set; SPE_RB_CTL.GO starts the rebuild where it is written. -/
def execRebuildStart (s : State) : Out := .next (if s.spe.rbDue.any fun t => decide (t.toNat < s.now.toNat) then s.rebuildGo else s)

/-- The rebuild that a reset interrupted goes on with the bands not yet finished (R340). -/
def State.rebuildResume (s : State) : State :=
  if s.spe.rbResume then (s.modSpe fun p => { p with rbActive := true, rbResume := false }).raiseRebuild else s

/-- Stripes of a band with a unit on the failed set. -/
def State.stripesHit (s : State) (b : Band) : List (Nat × Nat × Nat) :=
  (List.range (s.fca.part.wls - 8)).flatMap fun row => (List.range (s.ppr b)).flatMap fun pos =>
    ((List.range (stripeCount b.members.length b.width)).filter fun j =>
      (s.stripeUnits b row pos j).any fun m => s.spe.failed.contains m.1).map fun j => (row, pos, j)

/-- A copy job that sets an entry LOST (R338): its delta is ready at once. -/
def State.lostJob (unit nsid g : Nat) (src : Loc) (s : State) : State :=
  if s.mxe.hasJob nsid g src then s
  else
    let num := s.mxe.nextJob
    s.modMxe fun m =>
      let m := m.addJob nsid g src 0 0 .gc false false true
      { m with
        jobs := Tbl.adjust m.jobs num fun j => { j with unit := some unit }
        deltas := m.deltas ++ [{ kind := 2, nsid := nsid, index := g, count := 1, value := MapEntry.lost, source := some src, dsn := 0, owner := num }] }

/-- A lost data unit of a stripe (R333, R337, R338): its current slots are given to MXE as copy jobs, or as LOST jobs. -/
def State.rebuildUnit (ok : Bool) (b : Band) (row pos : Nat) (m : Nat × Nat) (s : State) : State :=
  let cur := s.currentOn m.1 (s.unitBlock b m pos) (unitPage b row pos)
  if ok then cur.foldl (fun s e => s.relocateNow e.1 e.2.1 e.2.2 s.spe.rbRaised) (if cur.isEmpty then s else s.rebuildPaced 1)
  else
    cur.foldl (fun s e => s.lostJob (pageKey m.1 (s.unitBlock b m pos) (unitPage b row pos)) e.1 e.2.1 e.2.2) s

/-- Data units of a stripe that lie on the failed set. -/
def State.lostUnits (s : State) (b : Band) (row pos j : Nat) : List (Nat × Nat) :=
  let us := s.stripeUnits b row pos j
  us.filter fun m => s.spe.failed.contains m.1 &&
    match unitRole (stripeClass b.par us.length) us.length (s.pOrdinal b row pos j us.length) (us.idxOf m) with
    | .data _ => true
    | _ => false

/-- One stripe of phase 1. -/
def State.rebuildOne (n : Nat) (b : Band) (row pos j : Nat) (failedSurvivors : List Nat) (s : State) : State :=
  let ok := decide ((s.missingUnits b row pos j failedSurvivors).length ≤ s.stripeStrength b row pos j)
  let s := (s.lostUnits b row pos j).foldl (fun s m => s.rebuildUnit ok b row pos m) s
  s.modSpe fun p => { p with rbDone := p.rbDone ++ [(n, row, pos, j)] }

/-- The band is done when each of its stripes on the failed set has been taken. -/
def State.rebuildBandDone (n : Nat) (b : Band) (s : State) : State :=
  if (s.stripesHit b).all fun x => s.spe.rbDone.contains (n, x.1, x.2.1, x.2.2) then
    s.modSpe fun p => { p with rbBands := p.rbBands.filter (· != n), rbDone := p.rbDone.filter fun x => x.1 != n }
  else s

/-- Stripes that phase 1 has still to take: missing units, BSN. -/
def State.rebuildLeft (s : State) : List (Nat × Nat) :=
  s.spe.rbBands.flatMap fun n =>
    ((Tbl.find? s.mxe.bands n).map fun b => ((s.stripesHit b).filter fun x => !s.spe.rbDone.contains (n, x.1, x.2.1, x.2.2)).map fun x =>
      ((s.missingUnits b x.1 x.2.1 x.2.2 []).length, b.bsn)).getD []

/-- The stripe is the next to take (R334): the most missing units, then the lowest BSN. -/
def State.rebuildTurn (s : State) (b : Band) (row pos j : Nat) : Bool :=
  let m := (s.missingUnits b row pos j []).length
  s.rebuildLeft.all fun x => decide (x.1 < m) || (x.1 == m && decide (b.bsn ≤ x.2))

/-- The codewords of the surviving units count at the level at which their decode ended (R290, R335); a survivor that needs more than SURVIVOR_MAX_LEVEL is missing. -/
def State.countSurvivors (b : Band) (row pos j : Nat) (survivors : List (Nat × Nat)) (s : State) : State :=
  ((s.coveredUnits b row pos j).filter fun m => s.unitReads b m row pos []).foldl (fun s m =>
    let lvl := ((survivors.find? fun e => e.1 == m.1).map Prod.snd).getD 0
    s.count Fld.CDX_LVL_CNT.COUNT (if lvl ≤ s.obj Ob.SURVIVOR_MAX_LEVEL then lvl else 6) 4) s

/-- REBUILD_STRIPE (R333 to R337): the stripe of phase 1 whose turn it is, with the levels that survivors need past L0; PAUSE holds it unless the rebuild is raised, and so does the ceiling. -/
def execRebuildStripe (b row pos stripe : Nat) (survivors : List (Nat × Nat)) (s : State) : Out :=
  match Tbl.find? s.mxe.bands b with
  | some band =>
    if s.spe.rbActive = true ∧ s.spe.rbBands.contains b = true ∧ s.spe.rbDone.contains (b, row, pos, stripe) = false
        ∧ (s.fld Fld.SPE_RB_CTL.PAUSE = 0 ∨ s.spe.rbRaised = true) ∧ s.spe.rbFree ≤ s.now.toNat ∧ s.rebuildTurn band row pos stripe = true then
      let failed := (survivors.filter fun e => decide (s.obj Ob.SURVIVOR_MAX_LEVEL < e.2)).map Prod.fst
      .next (((s.countSurvivors band row pos stripe survivors).rebuildOne b band row pos stripe failed).rebuildBandDone b band).raiseRebuild
    else .next s
  | none => .next s

/-- The rebuild ends when phase 2 has no degraded band left. -/
def State.rebuildEnd (s : State) : State :=
  if s.spe.rbActive && s.spe.rbPhase2 && s.mxe.degradedBands.isEmpty then
    ((s.modSpe fun p => { p with rbActive := false, rbRaised := false }).trigger 0x14 UnitNo.spe 0
      (dieArg (s.spe.failed.headD 0) (chOf (s.spe.failed.headD 0)) 0)).failedHealth
  else s

/-- REBUILD_PHASE2 (R333): phase 1 is done; closed bands with a unit on the failed set are degraded, and with PHASE2_MODE 1 become victims at Rebuild class. -/
def execRebuildPhase2 (s : State) : Out :=
  if s.spe.rbActive = true ∧ s.spe.rbBands = [] ∧ s.spe.rbPhase2 = false then
    let hit := (s.mxe.bands.filter fun e => s.spe.hitsBand e.2 && e.2.state == .closed).map Prod.fst
    let s := hit.foldl (fun s n => s.modMxe fun m => m.modBand n fun b => { b with degraded := true }) s
    let s := s.modSpe fun p => { p with rbPhase2 := true, rbRaised := false }
    .next ((if s.obj Ob.PHASE2_MODE = 1 then hit.foldl (fun s n => s.chooseVictim n .rebuild) s else s).failedHealth)
  else .next s

end Sys2Proof.Machine
end

