-- ==== Sys2Proof/Machine/Gallery.lean ====
section
/-! DEFINITION. Gallery peer windows (spec/06): the checks on inbound traffic, STAGE, CMB_SQ and LBA windows, the durability fence, window commits, the ingress FIFO, and the meanings of the Gallery commands (notes/assumptions/29.md). -/

namespace Sys2Proof.Machine

/-! ## Windows (Table 6.3) -/

def Window.en (w : Window) : Bool := w.ctl.getLsbD 31
def Window.rd (w : Window) : Bool := w.ctl.getLsbD 30
def Window.wr (w : Window) : Bool := w.ctl.getLsbD 29
def Window.owner (w : Window) : Nat := bitsOf w.ctl.toNat 9 0
def Window.first (w : Window) : Nat := 2 ^ 21 * bitsOf w.base.toNat 14 0
def Window.bytes (w : Window) : Nat := 2 ^ 21 * bitsOf w.size.toNat 15 0
def Window.lba (w : Window) : Nat := w.lbaLo.toNat + 2 ^ 32 * w.lbaHi.toNat
def Window.stageMib (w : Window) : Nat := bitsOf w.stage.toNat 11 0

/-- Kind of a window (Table 6.1). -/
def Window.kind (w : Window) : WinKind :=
  match bitsOf w.ctl.toNat 28 26 with
  | 1 => .stage
  | 2 => .cmbSq
  | 3 => .lba
  | _ => .other

/-- Class of the reads of an LBA window. -/
def Window.cls (w : Window) : SvcClass :=
  match bitsOf w.ctl.toNat 25 24 with
  | 0 => .urgent
  | 1 => .high
  | 2 => .normal
  | _ => .background

/-- A window at its reset values: disabled (Table 6.3). -/
def Window.initial : Window := { ctl := 0x01000000, base := 0, size := 1, reqid := 0, nsid := 0, lbaLo := 0, lbaHi := 0, stage := 1 }

/-- A window of a set. -/
def winOf (t : List (Nat × Window)) (n : Nat) : Window := Tbl.getD t n Window.initial

/-- Field `k` (1 to 8) of a window: its value, and the window with another (Table 6.4). -/
def Window.get (w : Window) : Nat → Word
  | 1 => w.ctl
  | 2 => w.base
  | 3 => w.size
  | 4 => w.reqid
  | 5 => w.nsid
  | 6 => w.lbaLo
  | 7 => w.lbaHi
  | _ => w.stage

/-- Bits of field `k` that are not reserved (Table 6.3). -/
def winMask : Nat → Word
  | 1 => 0xFF0003FF
  | 2 => 0x00007FFF
  | 3 => 0x0000FFFF
  | 8 => 0x00000FFF
  | _ => 0xFFFFFFFF

def Window.put (w : Window) (k : Nat) (v : Word) : Window :=
  let v := v &&& winMask k
  match k with
  | 1 => { w with ctl := v }
  | 2 => { w with base := v }
  | 3 => { w with size := v }
  | 4 => { w with reqid := v }
  | 5 => { w with nsid := v }
  | 6 => { w with lbaLo := v }
  | 7 => { w with lbaHi := v }
  | _ => { w with stage := v }

/-- Write a field of a window of the staging set. -/
def State.stageWindow (n k : Nat) (v : Word) (s : State) : State :=
  s.modGal fun g => { g with staging := Tbl.setD g.staging n ((winOf g.staging n).put k v) Window.initial }

/-- The windows of a set that are enabled. -/
def enabledWins (t : List (Nat × Window)) : List (Nat × Window) := t.filter fun e => e.2.en

/-! ## Commits (R176, R177) -/

/-- A window of a set keeps R159, R162 and R166. -/
def State.winOk (s : State) (t : List (Nat × Window)) (w : Window) : Bool :=
  decide (0 < w.bytes) && decide (w.first + w.bytes ≤ 2 ^ 36) && s.bound w.owner &&
    match w.kind with
    | .stage => true
    | .cmbSq =>
      decide (w.bytes ≤ 2 ^ 28) && s.functionSlice (s.sliceObj Ob.FUNC w.owner) == some w.owner
        && ((enabledWins t).filter fun e => e.2.kind == .cmbSq && e.2.owner == w.owner).length == 1
    | .lba =>
      decide (1 ≤ w.stageMib) &&
        (s.mxe.ns? w.nsid.toNat).any fun n => n.attached && n.slice == w.owner && n.lbaf == 2 && decide (w.lba + w.bytes / 4096 ≤ n.nsze)
    | .other => false

/-- Enabled windows of a set that overlap. -/
def winsOverlap (t : List (Nat × Window)) : Bool :=
  (enabledWins t).any fun a => (enabledWins t).any fun b =>
    a.1 != b.1 && decide (a.2.first < b.2.first + b.2.bytes) && decide (b.2.first < a.2.first + a.2.bytes)

/-- MiB of DRAM that a window takes of its slice's WIN_STAGE_MAX. -/
def Window.dramMib (w : Window) : Nat := if w.kind = .lba then w.stageMib else w.bytes / 2 ^ 20

/-- Slice limits WIN_MAX and WIN_STAGE_MAX (R176). -/
def State.winLimits (s : State) (t : List (Nat × Window)) : Bool :=
  (enabledWins t).all fun e =>
    let mine := (enabledWins t).filter fun f => f.2.owner == e.2.owner
    decide (mine.length ≤ s.sliceObj Ob.WIN_MAX e.2.owner)
      && decide (mine.foldl (fun n f => n + f.2.dramMib) 0 ≤ s.sliceObj Ob.WIN_STAGE_MAX e.2.owner)

/-- GAL_COMMIT_STS of a set: 0 OK, 1 OUT_OF_RANGE, 2 OVERLAP, 3 OVERCOMMIT. -/
def State.winStatus (s : State) (t : List (Nat × Window)) : Nat :=
  if (enabledWins t).all (fun e => s.winOk t e.2) = false then 1
  else if winsOverlap t then 2
  else if s.winLimits t = false then 3
  else 0

/-- Windows whose active and committed sets differ. -/
def Gal.affected (g : Gal) (t : List (Nat × Window)) : List Nat :=
  ((g.active ++ t).map Prod.fst).eraseDups.filter fun n => winOf g.active n != winOf t n

/-- Gallery contexts of a window. -/
def Ctx.ofWin (x : Ctx) (w : Nat) : Bool := x.win.any fun e => e.1 == w

/-- A window has reads not yet answered: of its data, waiting for a context, or fences (R172). -/
def State.winReads (s : State) (w : Nat) : Bool :=
  (s.qen.ctxs.any fun e => e.2.ofWin w && e.2.sqe.opcode == 0x02) || (s.gal.reads.any fun r => r.win == w) || s.gal.fences.any fun f => f.win == w

/-- A window has accepted operations that are not finished (R178): a read not yet answered, a write not yet in DRAM. -/
def State.winBusy (s : State) (w : Nat) : Bool := s.winReads w || s.gal.fifo.any fun f => f.1 == w

/-- Answer so many requests with Completer Abort. -/
def State.abortN : Nat → State → State
  | 0, s => s
  | n + 1, s => (s.complete .ca).abortN n

/-- Reads of the windows named end with Completer Abort (R177, R179), those that wait for a context and fences too. -/
def State.abortReads (p : Nat → Bool) (s : State) : State :=
  let s := (s.qen.ctxs.filter fun e => (e.2.win.any fun w => p w.1) && e.2.sqe.opcode == 0x02).foldl (fun s e => (s.complete .ca).discardCtx e.1 e.2) s
  let s := s.abortN ((s.gal.reads.filter fun r => p r.win).length + (s.gal.fences.filter fun f => p f.win).length)
  s.modGal fun g => { g with reads := g.reads.filter fun r => !p r.win, fences := g.fences.filter fun f => !p f.win }

/-- An object of a window takes a value (Table 6.4): the STORED objects hold the set that was last made active. -/
def State.storeWindow (s : State) (n : Nat) : State :=
  (List.range 8).foldl (fun s k =>
    match objAt (0x2D00 + n) (k + 1) with
    | some o => { s with sheet := Tbl.setD s.sheet (sheetKey (0x2D00 + n) (k + 1)) ((winOf s.gal.active n).get (k + 1)).toNat o.dflt }
    | none => s) s

/-- A committed set becomes active (R177): unanswered reads end, complete units stay to become writes, partial units of changed LBA windows go. -/
def State.activateWins (t : List (Nat × Window)) (aff : List Nat) (s : State) : State :=
  let forced := aff.any s.winReads
  let s := s.abortReads aff.contains
  let s := if forced then (s.flag Fld.GAL_ERR_STS.FORCED 0 1).trigger 0x07 UnitNo.gal 0 0 else s
  let gone := s.gal.units.filter fun u => aff.contains u.win
  let s := if gone = [] then s else (s.flag Fld.GAL_ERR_STS.PARTIAL_DROP 0 1).trigger 0x07 UnitNo.gal 0 0
  let s := s.modGal fun g => { g with
    active := t, pending := none, commitSts := 0
    units := g.units.filter fun u => !aff.contains u.win
    faults := g.faults ++ (gone.map LbaUnit.win).eraseDups.filter fun w => !g.faults.contains w }
  aff.foldl State.storeWindow s

/-- A commit (R176, R177): class 8. A commit while one is pending changes nothing. -/
def State.winCommit (s : State) : State :=
  let s := s.sample 8
  if s.gal.pending.isSome then s
  else
    let t := s.gal.staging
    let st := s.winStatus t
    if st ≠ 0 then s.modGal fun g => { g with commitSts := st }
    else
      let aff := s.gal.affected t
      if aff.any s.winBusy then s.modGal fun g => { g with pending := some { since := s.now, affected := aff, set := t }, commitSts := 4 }
      else s.activateWins t aff

/-- The staging set is discarded (Table 6.4): it equals the active one again. -/
def State.winDiscard (s : State) : State := s.modGal fun g => { g with staging := g.active }

/-- WIN_COMMIT (R176). -/
def execWinCommit (s : State) : Out := .next s.winCommit

/-- WIN_DISCARD (Table 6.4). -/
def execWinDiscard (s : State) : Out := .next (s.sample 10).winDiscard

/-- WINDOW_SET_ACTIVATE (R177): no affected window has unfinished operations. -/
def execWindowSetActivate (s : State) : Out :=
  match s.gal.pending with
  | some p => if p.affected.any s.winBusy then .next s else .next (s.activateWins p.set p.affected)
  | none => .next s

/-- WINDOW_COMMIT_TIMEOUT (R177): 160,000 ticks after the commit tick. -/
def execWindowCommitTimeout (s : State) : Out :=
  match s.gal.pending with
  | some p => if s.passed p.since 160000 then .next (s.activateWins p.set p.affected) else .next s
  | none => .next s

/-! ## Inbound traffic (R160, R163, Table 6.2) -/

/-- The function has a BAR2 with the offset of the TLP (Table 3.3): 64 GiB of the PF, 2^VF_BAR2_LOG2 B of a VF, absent when that is 0. -/
def State.galBar (s : State) (t : PeerTlp) : Bool :=
  if t.fn = 0 then decide (t.offset < 2 ^ 36) else s.power.vfBar2 != 0 && decide (t.offset < 2 ^ s.power.vfBar2)

/-- Gallery offset of a TLP: PF BAR2 as it is, VF apertures in the upper 32 GiB. -/
def State.galOffset (s : State) (t : PeerTlp) : Nat :=
  if t.fn = 0 then t.offset else 2 ^ 35 + (t.fn - 1) * 2 ^ s.power.vfBar2 + t.offset

/-- The enabled window at a Gallery offset. -/
def Gal.hit (g : Gal) (off : Nat) : Option (Nat × Window) :=
  (enabledWins g.active).find? fun e => decide (e.2.first ≤ off) && decide (off < e.2.first + e.2.bytes)

/-- The first check of Table 6.2 that fails, as a GAL_ERR_STS bit; 8 for NO_WIN. -/
def State.winRefusal (s : State) (n : Nat) (w : Window) (t : PeerTlp) (len : Nat) (wr : Bool) : Option Nat :=
  let off := s.galOffset t
  let rel := off - w.first
  if s.sliceObj Ob.FUNC w.owner ≠ t.fn then some 0
  else if s.slicePasid w.owner ≠ t.pasid then some 1
  else if (t.reqId ^^^ BitVec.ofNat 16 (bitsOf w.reqid.toNat 15 0)) &&& BitVec.ofNat 16 (bitsOf w.reqid.toNat 31 16) ≠ 0 then some 0
  else if (if wr then w.wr else w.rd) = false then some 0
  else if w.first + w.bytes < off + len then some 8
  else if w.kind = .lba ∧ wr = true ∧ (rel % 64 ≠ 0 ∨ len % 64 ≠ 0) then some 2
  else if s.gal.pending.any (fun p => p.affected.contains n) then some 5
  else none

/-- The field of an error bit. -/
def galErrField : Nat → Field
  | 0 => Fld.GAL_ERR_STS.OWNER
  | 1 => Fld.GAL_ERR_STS.PASID
  | 2 => Fld.GAL_ERR_STS.ALIGN
  | 3 => Fld.GAL_ERR_STS.POISON
  | 4 => Fld.GAL_ERR_STS.OVERFLOW
  | 5 => Fld.GAL_ERR_STS.CHANGING
  | _ => Fld.GAL_ERR_STS2.NO_WIN

/-- An error of a window, or of no window: its bit, GAL_ERR_WIN, and the recorder for a bit of GAL_ERR_STS. -/
def State.galError (win : Option Nat) (bit : Nat) (s : State) : State :=
  let s := (s.flag (galErrField bit) 0 1).modGal fun g => { g with errNone := win.isNone, errWin := win.getD 0 }
  if bit ≤ 7 then s.trigger 0x07 UnitNo.gal 0 0 else s

/-- A refusal is logged through AER as an advisory non-fatal error (R163); a non-posted request completes as Unsupported Request. -/
def State.galRefuse (win : Option Nat) (bit : Nat) (np : Bool) (s : State) : State :=
  let s := (s.galError win bit).aerLog .advisory
  if np then s.complete .ur else s

/-- A fault of an LBA window is kept for its next fence (R172). -/
def State.galFault (n : Nat) (s : State) : State :=
  s.modGal fun g => { g with faults := if g.faults.contains n || (winOf g.active n).kind != .lba then g.faults else n :: g.faults }

/-- A poisoned posted write to a Gallery offset (R83, R164): logged, counted and discarded. -/
def State.galPoison (off : Nat) (s : State) : State :=
  let s := s.linkError .poisoned
  match s.gal.hit off with
  | some (n, _) => (s.galError (some n) 3).galFault n
  | none => s.galRefuse none 8 false

/-! ## Writes -/

/-- Pieces of 64 B set in a mask. -/
def maskCount (m : BitVec 64) : Nat := ((List.range 64).filter fun k => m.getLsbD k).length

/-- Bytes of an LBA window in its staging: written and not past a sequence point (R167, R169). -/
def State.stagedBytes (s : State) (n : Nat) : Nat :=
  ((s.gal.units ++ s.gal.ready).filter fun u => u.win == n).foldl (fun t u => t + 64 * maskCount u.mask) 0
    + 4096 * (s.qen.ctxs.filter fun e => e.2.ofWin n && e.2.sqe.opcode == 0x01 && e.2.dsn == 0).length

/-- The unit is unit `u` of window `n` as `w` maps it: units of an earlier set keep their own mapping (R175, R178). -/
def LbaUnit.is (x : LbaUnit) (n : Nat) (w : Window) (u : Nat) : Bool :=
  x.win == n && x.unit == u && x.nsid == w.nsid.toNat && x.lba == w.lba + u && x.slice == w.owner

/-- One 64 B piece enters its unit (R167, R168): a complete unit that is not yet a write takes it too. -/
def State.writePiece (n : Nat) (w : Window) (fn rel : Nat) (piece : List Byte) (s : State) : State :=
  let u := rel / 4096
  let bit : BitVec 64 := BitVec.ofNat 64 (2 ^ (rel % 4096 / 64))
  let data : SlotData := BitVec.ofNat 32768 (leNat piece * 2 ^ (8 * (rel % 4096)))
  let upd := fun (x : LbaUnit) => if x.is n w u then { x with data := overPieces x.data data bit, mask := x.mask ||| bit } else x
  s.modGal fun g =>
    if g.ready.any (fun x => x.is n w u) then { g with ready := g.ready.map upd }
    else
      let units := if g.units.any (fun x => x.is n w u) then g.units.map upd
        else g.units ++ [upd { win := n, unit := u, data := 0, mask := 0, slice := w.owner, nsid := w.nsid.toNat, lba := w.lba + u, fn := fn }]
      let full := fun (x : LbaUnit) => x.mask == BitVec.allOnes 64
      { g with units := units.filter fun x => !full x, ready := g.ready ++ units.filter full }

/-- The pieces of a write to an LBA window, in order. -/
def State.writePieces (n : Nat) (w : Window) (fn rel : Nat) : Nat → List Byte → State → State
  | 0, _, s => s
  | k + 1, bs, s => (s.writePiece n w fn rel (bs.take 64)).writePieces n w fn (rel + 64) k (bs.drop 64)

/-- DRAM bursts that a write covers whole lose their poison. -/
def State.galClean (n rel len : Nat) (s : State) : State :=
  let a := ceilDiv rel 64
  let z := (rel + len) / 64
  s.modDmc fun m => { m with poisoned := m.poisoned.filter fun p => !((List.range (z - a)).any fun k => Config.galDram n (a + k) == p) }

/-- An accepted write (R161, R167): into the FIFO and to its window. -/
def State.galStore (n : Nat) (w : Window) (fn rel : Nat) (bytes : List Byte) (s : State) : State :=
  let s := s.modGal fun g => { g with fifo := g.fifo ++ [(n, bytes.length)] }
  match w.kind with
  | .lba => s.writePieces n w fn rel (bytes.length / 64) bytes
  | .stage | .cmbSq | .other =>
    (s.modGal fun g => { g with mem := Memory.writeAll 0 g.mem (galKey n rel) bytes }).galClean n rel bytes.length

/-- A write that hits window `n` (R163, R164, R169). -/
def State.galWrite (n : Nat) (w : Window) (t : PeerTlp) (bytes : List Byte) (s : State) : State :=
  match s.winRefusal n w t bytes.length true with
  | some b => s.galRefuse (some n) b false
  | none =>
    if w.kind = .lba ∧ 2 ^ 20 * w.stageMib < s.stagedBytes n + bytes.length then (s.galError (some n) 4).galFault n
    else s.galStore n w t.fn (s.galOffset t - w.first) bytes

/-- A Gallery write of a function that decodes (R64, R160, R164): longer than MPS it is a Malformed TLP. -/
def State.galWriteIn (t : PeerTlp) (bytes : List Byte) (s : State) : State :=
  if s.hlu.mps < bytes.length then s.aerLog .malformed
  else if t.poison then s.galPoison (s.galOffset t)
  else
    match s.gal.hit (s.galOffset t) with
    | some (n, w) => s.galWrite n w t bytes
    | none => s.galRefuse none 8 false

/-- GALLERY_WRITE: a class 9 arrival. While the FIFO has no room for it the write waits: its credits are withheld, and so are those of what follows it (R181; notes/assumptions/29.md). -/
def execGalleryWrite (t : PeerTlp) (bytes : List Byte) (s : State) : Out :=
  if s.inboundHeld then .next s
  else if galFifoBytes < s.gal.fill + bytes.length ∨ s.gal.withholds = true then
    .next (s.modGal fun g => { g with wait := if g.wait = 0 then bytes.length else g.wait })
  else
    let s := (s.arrive bytes.length).modGal fun g => { g with wait := 0 }
    if s.fnOpen t.fn = false ∨ s.galBar t = false then .next (s.urTlp false) else .next (s.galWriteIn t bytes)

/-! ## Reads (R165, R170) -/

/-- A command context that Gallery traffic takes from a slice (R167, R170). -/
def galCtx (op : BitVec 8) (n rel : Nat) (nsid lba nlb slice fn bytes ord : Nat) (cls : SvcClass) (now : Dword) : Ctx :=
  let e : Sqe := { opcode := op, flags := 0, cid := 0, mptr := 0, dptr := 0, nsid := BitVec.ofNat 32 nsid, cdw10 := BitVec.ofNat 32 lba, cdw11 := BitVec.ofNat 32 (lba / 2 ^ 32)
                   cdw12 := BitVec.ofNat 32 (nlb - 1), cdw13 := 0, cdw14 := 0, cdw15 := 0 }
  { sqe := e, state := .fetched, bmeStall := false, fua := false, caught := false, cls := cls, admin := false, sqid := 8192, slice := slice, fn := fn
    dsn := 0, bufs := [], bytesDone := 0, arrival := now, mediaPend := 0, status := 0, result := 0, bytes := bytes, dataIn := 0, pi := .pass
    work := [], ranges := [], waits := [], reserved := false, prot := false, fetchOrd := ord, accepted := false, parts := [], list := none, untrans := []
    win := some (n, rel), overlay := [] }

/-- A context is available to a slice's Gallery traffic (R96). -/
def State.galRoom (s : State) (slice : Nat) : Bool :=
  decide (s.qen.sliceAlloc slice < s.sliceObj Ob.CTX_MAX slice) && decide (s.qen.poolUsed < 16320)
    && (decide (s.qen.sliceAlloc slice < s.sliceObj Ob.CTX_RSV slice) || decide (s.qen.poolUsed + s.ctxReserved (some slice) < 16320))

/-- A number for a new context. -/
def State.nextCtx (s : State) : Option Nat :=
  firstFree (fun c => Tbl.has s.qen.ctxs c || s.qen.freed.any fun f => f.1 == c) 0 16384

/-- What the staging of a window's namespace holds, oldest first: units that are writes before their sequence point, in the order in which they became writes, then complete units, then partial units (R170). -/
def State.stagedOver (s : State) (n nsid : Nat) (slots : List Nat) : List (Nat × SlotData × BitVec 64) :=
  let writes := (s.qen.inOrder fun x => x.ofWin n && x.sqe.opcode == 0x01 && x.dsn == 0 && x.sqe.nsid.toNat == nsid).map fun e =>
    (slbaOf e.2.sqe, BitVec.ofNat 32768 (leNat (s.bpm.stageRead (s.bpm.piecesOf e.2.bufs 4096) 0 4096)), BitVec.allOnes 64)
  let units := ((s.gal.ready ++ s.gal.units).filter fun u => u.win == n && u.nsid == nsid).map fun u => (u.lba, u.data, u.mask)
  (writes ++ units).filter fun o => slots.contains o.1

/-- A buffer that holds staged bytes of a read is poisoned (R84). -/
def State.stagedPoison (s : State) (n nsid : Nat) (slots : List Nat) : Bool :=
  s.qen.ctxs.any fun e => e.2.ofWin n && e.2.sqe.opcode == 0x01 && e.2.dsn == 0 && e.2.sqe.nsid.toNat == nsid && slots.contains (slbaOf e.2.sqe)
    && s.bpm.poisonedBufs e.2.bufs

/-- A read of an LBA window takes context `c` and runs the read path of namespace `x`; its bytes are charged to RD (R142, R170). -/
def State.galLbaRun (r : PeerRead) (c : Nat) (w : Window) (x : Namespace) (s : State) : State :=
  let lba := w.lba + r.rel / 4096
  let nlb := (r.rel + r.len - 1) / 4096 + 1 - r.rel / 4096
  let slots := (List.range nlb).map (lba + ·)
  let k := galCtx 0x02 r.win r.rel w.nsid.toNat lba nlb w.owner r.fn r.len s.qen.fetches w.cls s.now
  let k := { k with overlay := s.stagedOver r.win w.nsid.toNat slots, prot := s.stagedPoison r.win w.nsid.toNat slots }
  let s := (s.modQen fun q => { q with ctxs := Tbl.put q.ctxs c k, fetches := q.fetches + 1 }).charge w.owner r.len 0 0
  s.readLooked c ((slotSpan (4096 * lba) (4096 * nlb)).map (s.slotWork x w.nsid.toNat))

/-- The oldest read that waits goes on, given a context; one whose namespace is gone ends with Completer Abort (notes/assumptions/29.md). -/
def State.galRead1 (r : PeerRead) (s : State) : Option State :=
  let w := winOf s.gal.active r.win
  let t := s.modGal fun g => { g with reads := g.reads.tail }
  match s.mxe.ns? w.nsid.toNat with
  | none => some (t.complete .ca)
  | some x => if s.galRoom w.owner then s.nextCtx.map fun c => t.galLbaRun r c w x else none

/-- Reads go on in the order of their arrival; the first that must wait holds those behind it. -/
def State.galReads : Nat → State → State
  | 0, s => s
  | k + 1, s =>
    match s.gal.reads with
    | r :: _ =>
      match s.galRead1 r with
      | some t => t.galReads k
      | none => s
    | [] => s

/-- A read of an LBA window arrives (R170). -/
def State.galLbaRead (n fn rel len : Nat) (s : State) : State :=
  let s := s.modGal fun g => { g with reads := g.reads ++ [{ win := n, fn := fn, rel := rel, len := len }] }
  s.galReads s.gal.reads.length

/-- A DRAM burst of the range of a STAGE or CMB_SQ window is poisoned (R165). -/
def State.galPoisoned (s : State) (n rel len : Nat) : Bool :=
  (List.range ((rel + len + 63) / 64 - rel / 64)).any fun k => s.dmc.poisoned.contains (Config.galDram n (rel / 64 + k))

/-- GALLERY_READ (R160, R163, R165, R170): a class 9 arrival. -/
def execGalleryRead (t : PeerTlp) (len : Nat) (s : State) : Out :=
  if s.inboundHeld then .next s
  else
    let s := s.arrive 0
    if s.fnOpen t.fn = false ∨ s.galBar t = false then .next (s.urTlp true) else
    let off := s.galOffset t
    match s.gal.hit off with
    | some (n, w) =>
      match s.winRefusal n w t len false with
      | some b => .next (s.galRefuse (some n) b true)
      | none =>
        match w.kind with
        | .lba => .next (s.galLbaRead n t.fn (off - w.first) len)
        | .stage | .cmbSq | .other =>
          .next (s.completeRead (if s.galPoisoned n (off - w.first) len then .poisoned else .ok) (off - w.first)
            (Memory.readN 0 s.gal.mem (galKey n (off - w.first)) len))
    | none => .next (s.galRefuse none 8 true)

/-! ## Units become writes (R167, R171) -/

/-- The oldest complete unit becomes a write of its slice, given a context, a buffer, tokens and the right to fetch. -/
def State.unitWrite (u : LbaUnit) (s : State) : Option State :=
  if s.galRoom u.slice = false ∨ s.tokensHeld u.slice = true ∨ s.power.stage ≠ .hall ∨ s.hum.dump.isSome ∨ s.gapped then none
  else
    match s.nextCtx, s.takeBufs UnitNo.qen (some u.slice) [4096] none with
    | some c, some (s, h :: hs) =>
      let x := galCtx 0x01 u.win (4096 * u.unit) u.nsid u.lba 1 u.slice u.fn 4096 s.qen.fetches .normal s.now
      let x := { x with state := .lookup, bufs := h :: hs, dataIn := 4096 }
      let s := s.modBpm fun b => b.sramWrite (b.offset (hPool h) (hIdx h)) (leBytes 4096 u.data.toNat)
      let s := s.modQen fun q => { q with ctxs := Tbl.put q.ctxs c x, fetches := q.fetches + 1 }
      let s := s.chargeTokens u.slice x.sqe 4096
      some (s.modGal fun g => { g with
        ready := g.ready.tail
        fences := g.fences.map fun f =>
          if f.units.contains (u.win, u.unit) then { f with units := f.units.filter (· != (u.win, u.unit)), ctxs := c :: f.ctxs } else f })
    | _, _ => none

/-- Complete units become writes in the order of their completion; the first that must wait holds those behind it. -/
def State.unitWrites : Nat → State → State
  | 0, s => s
  | k + 1, s =>
    match s.gal.ready with
    | u :: _ =>
      match s.unitWrite u with
      | some s' => s'.unitWrites k
      | none => s
    | [] => s

/-- A Gallery command is final: a unit that ended with a status is dropped and its fault kept (R171), a read that failed completes with Completer Abort. -/
def State.galFinish (s : State) (e : Nat × Ctx) : State :=
  let n := (e.2.win.map Prod.fst).getD 0
  let s := if e.2.sqe.opcode = 0x02 then s.complete .ca else if e.2.status = 0 then s.writePosted e.2 else s.galFault n
  ((s.freeBufs e.2.bufs).freeCtx e.1).modGal fun g => { g with fences := g.fences.map fun f => { f with ctxs := f.ctxs.filter (· != e.1) } }

/-- Gallery commands that are final leave (R107, R108, R171). -/
def State.galDone (s : State) : State :=
  (s.qen.ctxs.filter fun e => e.2.win.isSome && e.2.state == .ready).foldl State.galFinish s

/-- Bytes that the ingress FIFO gives to DRAM in a tick: 64 B for each channel. -/
def Dmc.ingress (m : Dmc) : Nat := 64 * (m.channels - m.dead.length)

/-- Take bytes from the head of the FIFO; gives the entries that left. -/
def drainFifo : Nat → List (Nat × Nat) → List (Nat × Nat) × Nat
  | _, [] => ([], 0)
  | n, (w, b) :: t => if b ≤ n then ((drainFifo (n - b) t).1, (drainFifo (n - b) t).2 + 1) else ((w, b - n) :: t, 0)

/-- A fence waits only for units that a context still carries: one in ORPHAN persists without it (R179). -/
def State.fenceSweep (s : State) : State :=
  let live := fun c => (Tbl.find? s.qen.ctxs c).any fun x => x.win.isSome && x.state != .orphan
  s.modGal fun g => { g with fences := g.fences.map fun f => { f with ctxs := f.ctxs.filter live } }

/-- The Gallery's work in a tick: the FIFO drains to DRAM, reads and units take contexts, final commands leave. -/
def State.galTick (s : State) : State :=
  let d := drainFifo s.dmc.ingress s.gal.fifo
  let s := s.modGal fun g => { g with fifo := d.1, fences := g.fences.map fun f => { f with ahead := f.ahead - d.2 } }
  let s := s.galReads s.gal.reads.length
  (s.unitWrites s.gal.ready.length).galDone.fenceSweep

/-! ## The durability fence (R172, R173) -/

/-- Entries of the FIFO up to a window's last (R174). -/
def Gal.lastEntry (g : Gal) (n : Nat) : Nat := g.fifo.length - (g.fifo.reverse.takeWhile fun f => f.1 != n).length

/-- FENCE (R172): accepted under the checks of Table 6.2 as a read of no bytes. -/
def execFence (t : PeerTlp) (s : State) : Out :=
  if s.inboundHeld then .next s
  else
    let s := s.arrive 0
    if s.fnOpen t.fn = false ∨ s.galBar t = false then .next (s.urTlp true) else
    match s.gal.hit (s.galOffset t) with
    | some (n, w) =>
      match s.winRefusal n w t 0 false with
      | some b => .next (s.galRefuse (some n) b true)
      | none =>
        let f : Fence :=
          { win := n, fn := t.fn, lba := w.kind == .lba, partial_ := s.gal.units.any fun u => u.win == n
            ctxs := (s.qen.ctxs.filter fun e => e.2.ofWin n && e.2.sqe.opcode == 0x01).map Prod.fst
            units := (s.gal.ready.filter fun u => u.win == n).map fun u => (u.win, u.unit), ahead := s.gal.lastEntry n }
        .next (s.modGal fun g => { g with fences := g.fences ++ [f] })
    | none => .next (s.galRefuse none 8 true)

/-- The fence may complete (R173): covered complete units are durable; on a STAGE or CMB_SQ window, earlier writes are in DRAM. -/
def Fence.done (f : Fence) : Bool := if f.lba then f.ctxs.isEmpty && f.units.isEmpty else f.ahead == 0

/-- FENCE_COMPLETION (R172): the oldest fence of the window; on an LBA window bit 0 is PARTIAL and bit 1 FAULT, elsewhere the DW is a free value. -/
def execFenceCompletion (w : Nat) (s : State) : Out :=
  match s.gal.fences.find? fun f => f.win == w with
  | some f =>
    if f.done then
      let dw := if f.lba then bit01 f.partial_ + 2 * bit01 (s.gal.faults.contains w) else s.fresh % 2 ^ 32
      let s := if f.lba then s else s.drawn
      .next ((s.completeRead .ok 0 (leBytes 4 dw)).modGal fun g => { g with
        fences := g.fences.erase f, faults := g.faults.filter (· != w) })
    else .next s
  | none => .next s

/-! ## Real-time ingress (R180) -/

/-- RT_PANIC_ASSERT (R180): the fill reaches PANIC_ON_PCT. -/
def execRtPanicAssert (s : State) : Out :=
  if s.gal.panic = false ∧ s.obj Ob.PANIC_ON_PCT * galFifoBytes ≤ 100 * s.gal.fill then
    .next (((s.modGal fun g => { g with panic := true }).modDmc fun m => { m with panic := true }).count Fld.GAL_RT_PANIC_CNT.COUNT 0 1)
  else .next s

/-- RT_PANIC_RELEASE (R180): the fill falls below PANIC_OFF_PCT. -/
def execRtPanicRelease (s : State) : Out :=
  if s.gal.panic = true ∧ 100 * s.gal.fill < s.obj Ob.PANIC_OFF_PCT * galFifoBytes then
    .next ((s.modGal fun g => { g with panic := false }).modDmc fun m => { m with panic := false })
  else .next s

/-! ## Resets (R161, R179) -/

/-- The DRAM bursts of the windows named hold zeros: no poison is left in them (R161). -/
def State.clearBursts (p : Nat → Bool) (s : State) : State :=
  let wins := s.gal.active.filter fun e => p e.1
  s.modDmc fun m => { m with poisoned := m.poisoned.filter fun b => !(wins.any fun e => (List.range (e.2.bytes / 64)).any fun k => Config.galDram e.1 k == b) }

/-- A slice reset (R161, R179): unanswered reads end with Completer Abort; staged data and STAGE contents of the slice's windows go. -/
def State.galSliceReset (n : Nat) (s : State) : State :=
  let mine := fun w => (winOf s.gal.active w).owner == n
  let stage := fun w => mine w && (winOf s.gal.active w).kind == .stage
  let s := (s.abortReads mine).clearBursts stage
  s.modGal fun g => { g with
    units := g.units.filter fun u => u.slice != n, ready := g.ready.filter fun u => u.slice != n
    mem := g.mem.filter fun c => !stage (c.1 / 2 ^ 36) }

/-- The window set of the STORED objects (R179). -/
def State.storedWindows (s : State) : List (Nat × Window) :=
  (List.range 512).filterMap fun n =>
    let w := (List.range 8).foldl (fun (w : Window) k =>
      match objAt (0x2D00 + n) (k + 1) with
      | some o => w.put (k + 1) (BitVec.ofNat 32 (s.sheetVal o (0x2D00 + n) (k + 1)))
      | none => w) Window.initial
    if w = Window.initial then none else some (n, w)

/-- Windows reload before Hall (R179, Table 6.3); STAGE_GIB applies. -/
def State.galReload (s : State) : State :=
  let t := s.storedWindows
  s.modGal fun g => { g with active := t, staging := t, stageGib := s.obj Ob.STAGE_GIB }

end Sys2Proof.Machine
end

