-- ==== Sys2Proof/Machine/Tenancy.lean ====
section
/-! DEFINITION. Meanings of the tenancy rows (spec/05): TOKEN_REFILL, FLOOR_WINDOW, SLICE_COMMIT, SLICE_DISCARD, SLICE_QUIESCE, SLICE_QUIESCED, SLICE_UNQUIESCE, QSTATE_WRITE, DLOG_HEAD_WRITE, DLOG_EPOCH_WRITE and the slice reset rows. -/

namespace Sys2Proof.Machine

/-! ## Tokens and floors (R141 to R144) -/

/-- One bucket's refill: `add` for 1 µs, at most the depth; none while the ceiling is 0. -/
def refill (v : Int) (ceiling add depth : Nat) : Int := if ceiling = 0 then v else min (depth : Int) (v + add)

/-- A slice's buckets after 1 µs (R141): ceilings in MB/s are bytes each µs; k tokens/s are thousandths of a token each µs. -/
def State.refillSlice (s : State) (n : Nat) : State :=
  let rd := s.sliceObj Ob.RD_MBPS n
  let wr := s.sliceObj Ob.WR_MBPS n
  let cmd := s.sliceObj Ob.CMD_KIOPS n
  let us := s.obj Ob.BURST_US
  if rd = 0 ∧ wr = 0 ∧ cmd = 0 then s
  else s.modSlice n fun x => { x with
    rd := refill x.rd rd rd (rd * us), wr := refill x.wr wr wr (wr * us), cmd := refill x.cmd cmd cmd (cmd * us) }

/-- TOKEN_REFILL (R141): every 1 µs. -/
def execTokenRefill (s : State) : Out :=
  if s.passed s.timers.refill (usTicks 1) then
    .next ((s.sliceIds.foldl State.refillSlice s).modTimers fun t => { t with refill := t.refill + 800 })
  else .next s

/-- The share of a write floor to meet when the NAND budget has fallen below the one at the last commit (R144). -/
def State.writeFloor (s : State) (n : Nat) : Nat :=
  let f := s.sliceObj Ob.WR_FLOOR n
  if s.tnu.commitBudget = 0 ∨ s.tnu.commitBudget ≤ s.dsc.budget then f else f * s.dsc.budget / s.tnu.commitBudget

/-- BELOW flags of a slice for the window that ends (R144), and a new window; DESIGN CHOICE (notes/assumptions/46.md): the flags stand for the whole of the next window. MB/s are thousand bytes each ms; k tokens/s are tokens each ms. -/
def State.floorSlice (s : State) (n : Nat) : State :=
  let r := s.sliceObj Ob.RD_FLOOR n
  let w := s.writeFloor n
  let c := s.sliceObj Ob.CMD_FLOOR n
  s.modSlice n fun x => { x with
    belowRd := decide (x.servedRd < 1000 * r), belowWr := decide (x.servedWr < 1000 * w), belowCmd := decide (x.servedCmd < c)
    servedRd := 0, servedWr := 0, servedCmd := 0 }

/-- FLOOR_WINDOW (R144): every 1 ms. -/
def execFloorWindow (s : State) : Out :=
  if s.passed s.timers.floor (msTicks 1) then
    .next ((s.sliceIds.foldl State.floorSlice s).modTimers fun t => { t with floor := t.floor + 800000 })
  else .next s

/-! ## Commit (R133, R138 to R140, R145) -/

/-- The value a slice object has from the next tick on: a commit accepted in this tick counts (R145). -/
def State.nextVal (s : State) (o : Obj) (k : Nat) : Nat := Tbl.getD (s.tnu.slice k).applyNext o.sub (s.sheetVal o (0x8000 + k) o.sub)

/-- The value a slice object would have under the staged set of slice `n`. -/
def State.stagedVal (s : State) (o : Obj) (n k : Nat) : Nat :=
  if k = n then Tbl.getD (s.tnu.slice n).staged o.sub (s.nextVal o k) else s.nextVal o k

/-- Slices with a value of their own, those of a commit accepted in this tick included. -/
def State.commitIds (s : State) (n : Nat) : List Nat := (s.sliceIds ++ n :: (s.tnu.slices.filter fun e => e.2.applying).map Prod.fst).eraseDups

/-- A slice as the staged set of slice `n` would bind it. -/
def State.stagedBound (s : State) (n k : Nat) : Bool :=
  k == 0 || s.stagedVal Ob.FUNC n k != 0 || s.stagedVal Ob.PASID_VALID n k != 0 || s.stagedVal Ob.QCOUNT n k != 0

/-- R133: one function slice for a function, one slice for a PASID on it. -/
def State.bindingOk (s : State) (n : Nat) (ids : List Nat) : Bool :=
  !s.stagedBound n n || ids.all fun k => k == n || !s.stagedBound n k || s.stagedVal Ob.FUNC n k != s.stagedVal Ob.FUNC n n
    || s.stagedVal Ob.PASID_VALID n k != s.stagedVal Ob.PASID_VALID n n
    || (s.stagedVal Ob.PASID_VALID n n != 0 && s.stagedVal Ob.PASID n k != s.stagedVal Ob.PASID n n)

/-- Two ranges overlap. -/
def overlaps (a n b m : Nat) : Bool := decide (0 < n) && decide (0 < m) && decide (a < b + m) && decide (b < a + n)

/-- Ranges of queue numbers, and of vectors within a function, do not overlap, and lie within the device's (Table 5.1). -/
def State.rangesOk (s : State) (n : Nat) (ids : List Nat) : Bool :=
  let v := fun (o : Obj) (k : Nat) => s.stagedVal o n k
  decide (v Ob.QBASE n + v Ob.QCOUNT n ≤ 4096) && decide (v Ob.VEC_BASE n + v Ob.VEC_COUNT n ≤ if v Ob.FUNC n = 0 then 4096 else 256)
    && ids.all fun k => k == n || (!overlaps (v Ob.QBASE n) (v Ob.QCOUNT n) (v Ob.QBASE k) (v Ob.QCOUNT k)
      && (v Ob.FUNC k != v Ob.FUNC n || !overlaps (v Ob.VEC_BASE n) (v Ob.VEC_COUNT n) (v Ob.VEC_BASE k) (v Ob.VEC_COUNT k)))

/-- Table 5.1's ranges of one slice, and floors at most their ceilings (Table 5.5). -/
def State.limitsOk (s : State) (n : Nat) : Bool :=
  let v := fun (o : Obj) => s.stagedVal o n n
  let under := fun (f c : Obj) => v c == 0 || decide (v f ≤ v c)
  decide (v Ob.KEY_COUNT ≤ 4096) && decide (v Ob.CTX_MAX ≤ 16320) && decide (v Ob.CTX_RSV ≤ v Ob.CTX_MAX)
    && decide (v Ob.NP_RSV ≤ 1024) && decide (max (v Ob.NP_RSV) 16 ≤ v Ob.NP_MAX) && decide (v Ob.NP_MAX ≤ 2048)
    && under Ob.RD_FLOOR Ob.RD_MBPS && under Ob.WR_FLOOR Ob.WR_MBPS && under Ob.CMD_FLOOR Ob.CMD_KIOPS

/-- Dies that a set of groups holds (16 a group), of those populated. -/
def State.diesIn (s : State) (set : Nat) : Nat := (s.dsc.dies.filter fun d => bitAt set (dieGroup d.1)).length

/-- DIE_SET holds as many dies as the widest group of the slice's namespaces (R139). -/
def State.dieSetOk (s : State) (n : Nat) : Bool :=
  (s.mxe.nss.filter fun e => e.2.slice == n).all fun e => decide ((s.bandParity .user e.1).2 ≤ s.diesIn (s.stagedVal Ob.DIE_SET n n))

/-- Sum of an object over the slices under the staged set. -/
def State.stagedSum (s : State) (o : Obj) (n : Nat) (ids : List Nat) : Nat := ids.foldl (fun t k => t + s.stagedVal o n k) 0

/-- Device totals of Tables 5.1 and 6.4 (R138). -/
def State.totalsOk (s : State) (n : Nat) (ids : List Nat) : Bool :=
  decide (s.stagedSum Ob.KEY_COUNT n ids ≤ 4096) && decide (s.stagedSum Ob.CTX_RSV n ids ≤ 16320) && decide (s.stagedSum Ob.NP_RSV n ids ≤ 1024)
    && decide (s.stagedSum Ob.WIN_MAX n ids ≤ 512) && decide (s.stagedSum Ob.WIN_STAGE_MAX n ids ≤ 1024 * s.gal.stageGib)

/-- Admission limits of Table 5.2 (R140). -/
def State.floorsOk (s : State) (n : Nat) (ids : List Nat) : Bool :=
  decide (s.stagedSum Ob.RD_FLOOR n ids ≤ s.obj Ob.ADMIT_RD_MBPS) && decide (s.stagedSum Ob.WR_FLOOR n ids ≤ s.obj Ob.ADMIT_WR_MBPS)
    && decide (s.stagedSum Ob.CMD_FLOOR n ids ≤ s.obj Ob.ADMIT_CMD_KIOPS)

/-- Something in use would be cut off (Table 5.1): a queue outside the new numbers, a key slot of an owned namespace, attached or not, beyond KEY_COUNT, a vector named by a completion queue. -/
def State.inUse (s : State) (n : Nat) : Bool :=
  let v := fun (o : Obj) => s.stagedVal o n n
  let outQ := fun (k : Nat) => decide (k < v Ob.QBASE) || decide (v Ob.QBASE + v Ob.QCOUNT ≤ k)
  let mine := s.mxe.nss.filter fun e => e.2.slice == n
  (s.qen.sqs.any fun e => decide (e.1 < 4096) && e.2.slice == n && outQ e.1) || (s.qen.cqs.any fun e => decide (e.1 < 4096) && e.2.slice == n && outQ e.1)
    || decide (v Ob.KEY_COUNT < mine.length)
    || (s.qen.cqs.any fun e => decide (e.1 < 4096) && e.2.slice == n && e.2.ien
        && (decide (e.2.vec < v Ob.VEC_BASE) || decide (v Ob.VEC_BASE + v Ob.VEC_COUNT ≤ e.2.vec)))

/-- COMMIT_STS of a commit now (Table 5.5): 0 OK, 1 OUT_OF_RANGE, 2 OVERCOMMIT, 3 IN_USE, 4 EMPTY; the first failing check in the order of R145. DESIGN CHOICE (notes/assumptions/49.md): ranges that overlap or run past the end report OVERCOMMIT, and a KEY_COUNT below the owned namespaces with no slot loaded reports IN_USE; the spec names no status for either. -/
def State.commitStatus (s : State) (n : Nat) : Nat :=
  let ids := s.commitIds n
  if (s.tnu.slice n).staged = [] then 4
  else if !s.bindingOk n ids then 1
  else if !s.limitsOk n then 1
  else if !s.rangesOk n ids || !s.totalsOk n ids then 2
  else if s.inUse n then 3
  else if !s.dieSetOk n then 1
  else if !s.floorsOk n ids then 2
  else 0

/-- Die groups that a commit takes away while they hold slots of the slice (R145). -/
def State.groupsRemoved (s : State) (n : Nat) : BitVec 64 :=
  BitVec.ofNat 64 (s.nextVal Ob.DIE_SET n) &&& ~~~(BitVec.ofNat 64 (s.stagedVal Ob.DIE_SET n n))

/-- A commit (R145): the staged set applies from the next tick, over one accepted before in this tick, or its first failing status is reported. -/
def State.commitSlice (n : Nat) (s : State) : State :=
  let st := s.commitStatus n
  if st = 0 then
    let rm := s.groupsRemoved n
    (s.modSlice n fun x => { x with commitSts := 0, applyNext := x.staged.foldl (fun t e => Tbl.put t e.1 e.2) x.applyNext, applying := true, staged := [], removed := (x.removed ||| rm) }).modTnu
      fun t => { t with commitBudget := s.dsc.budget }
  else s.modSlice n fun x => { x with commitSts := st }

/-- Staged values come into force at the next tick (R145). -/
def State.applyStaged (s : State) : State :=
  (s.tnu.slices.filter fun e => e.2.applying).foldl (fun s e =>
    let s := e.2.applyNext.foldl (fun s kv =>
      match (objAt 0x8000 kv.1) with
      | some o => { s with sheet := Tbl.setD s.sheet (sheetKey (0x8000 + e.1) kv.1) kv.2 (s.dflt o (0x8000 + e.1) kv.1) }
      | none => s) s
    s.modSlice e.1 fun x => { x with applyNext := [], applying := false }) s

/-- Removed groups that no longer hold a slot of the slice, or that the slice has again, leave DIE_MOVE (R145). -/
def State.groupHeld (s : State) (n g : Nat) : Bool :=
  s.mxe.map.any fun e => e.2.located && dieGroup e.2.loc.die == g && (s.mxe.ns? (e.1 / 2 ^ 40 + 1)).any fun x => x.slice == n

/-- TNU_SLICE_STS.DIE_MOVE. -/
def State.dieMove (s : State) (n : Nat) : Bool :=
  (List.range 64).any fun g => (s.tnu.slice n).removed.getLsbD g && !bitAt (s.sliceObj Ob.DIE_SET n) g && s.groupHeld n g

/-- SLICE_COMMIT (R145): class 10. -/
def execSliceCommit (n : Nat) (s : State) : Out := .next ((s.sample 10).commitSlice n)

/-- SLICE_DISCARD (R145). -/
def execSliceDiscard (n : Nat) (s : State) : Out := .next ((s.sample 10).modSlice n fun x => { x with staged := [] })

/-! ## Migration (R150 to R154) -/

/-- CTRL.QUIESCE (R154): 1 stops fetch, 0 resumes it. -/
def State.setQuiesce (n : Nat) (on : Bool) (s : State) : State :=
  s.modSlice n fun x => { x with quiesce := on, quiesced := on && x.quiesced }

/-- SLICE_QUIESCE (R154): fetch stops. -/
def execSliceQuiesce (n : Nat) (s : State) : Out := .next ((s.sample 10).setQuiesce n true)

/-- SLICE_QUIESCED (R154): every fetched command has posted, every log entry is written. -/
def execSliceQuiesced (n : Nat) (s : State) : Out :=
  if (s.tnu.slice n).quiesce = true ∧ s.qen.sliceAlloc n = 0 ∧ (s.tnu.slice n).dlogWait = [] then
    .next (s.modSlice n fun x => { x with quiesced := true })
  else .next s

/-- SLICE_UNQUIESCE (R154): fetch resumes. -/
def execSliceUnquiesce (n : Nat) (s : State) : Out := .next ((s.sample 10).setQuiesce n false)

/-- A write of QSTATE (R154): the selected pair's positions, before the first fetch from a queue; none when the positions do not fit. DESIGN CHOICE (notes/assumptions/49.md): the CQ head, which the write does not carry, is set equal to the CQ tail, and the unfetched entries count as arrived in the write's tick. -/
def State.writeQstate (sqHead sqTail cqTail : Nat) (phase : Bool) (s : State) : Option State :=
  let k := s.obj Ob.QSTATE_SEL
  match Tbl.find? s.qen.sqs k, Tbl.find? s.qen.cqs k with
  | some q, some c =>
    if q.fetched = false ∧ s.hlu.fetching k = false ∧ sqHead < q.size ∧ sqTail < q.size ∧ cqTail < c.size then
      some (s.modQen fun n => { n with
        sqs := Tbl.put n.sqs k { q with placed := true, head := sqHead, tail := sqTail, arrivals := List.replicate ((sqTail + q.size - sqHead) % q.size) s.now }
        cqs := Tbl.put n.cqs k { c with tail := cqTail, head := cqTail, phase := phase } })
    else none
  | _, _ => none

/-- QSTATE_WRITE (R154). -/
def execQstateWrite (sqHead sqTail cqTail : Nat) (phase : Bool) (s : State) : Out :=
  .next (((s.sample 10).writeQstate sqHead sqTail cqTail phase).getD (s.sample 10))

/-- A write of DLOG_HEAD (R153): from the next tick on waiting entries are written and what stalled goes on (R17). -/
def State.writeDlogHead (n head : Nat) (s : State) : State :=
  s.putSheet Ob.DLOG_HEAD (0x8000 + n) 0x33 (head % 2 ^ 32)

/-- DLOG_HEAD_WRITE (R153). -/
def execDlogHeadWrite (n head : Nat) (s : State) : Out := .next ((s.sample 10).writeDlogHead n head)

/-- A write of DLOG_EPOCH (R151): the filter is re-armed for the slice. -/
def State.writeDlogEpoch (n value : Nat) (s : State) : State :=
  ((s.putSheet Ob.DLOG_EPOCH (0x8000 + n) 0x36 (value % 256)).modTnu fun t => { t with filter := t.filter.filter fun e => e.1 != n })

/-- DLOG_EPOCH_WRITE (R151). -/
def execDlogEpochWrite (n value : Nat) (s : State) : Out := .next ((s.sample 10).writeDlogEpoch n value)

/-! ## Slice reset (R155 to R158) -/

/-- A slice reset is in progress (TNU_RST_STS.BUSY). -/
def State.sliceResetBusy (s : State) : Bool := s.tnu.slices.any fun e => e.2.reset.isSome

/-- A drain request (R155): fetch stops. -/
def State.requestDrain (n : Nat) (s : State) : State :=
  if (s.tnu.slice n).reset.isNone then (s.modSlice n fun x => { x with reset := some (.drain s.now) }).modTnu fun t => { t with rstSlice := n }
  else s

/-- SLICE_RESET_DRAIN (R155). -/
def execSliceResetDrain (n : Nat) (s : State) : Out := .next ((s.sample 10).requestDrain n)

/-- A squash request (R155): the reset event falls in the next tick. -/
def State.requestSquash (n : Nat) (s : State) : State :=
  match (s.tnu.slice n).reset with
  | some (.clearing _ _) => s
  | _ => ((s.modSlice n fun x => { x with reset := some (.squash s.now) }).modTnu fun t => { t with rstSlice := n })

/-- SLICE_RESET_SQUASH (R155). -/
def execSliceResetSquash (n : Nat) (s : State) : Out := .next ((s.sample 10).requestSquash n)

/-- Per-slice VOLATILE objects take their defaults (R156, Table 2.6). -/
def State.clearSliceObjs (n : Nat) (s : State) : State :=
  let drop := fun (k : Nat) => k / 256 == 0x8000 + n && (objAt (0x8000 + n) (k % 256)).any fun o => o.pers == .volatile
  { s with sheet := s.sheet.filter (fun e => !drop e.1), sheetOld := s.sheetOld.filter fun e => !drop e.1 }

/-- Namespaces of a slice. -/
def Mxe.sliceNss (m : Mxe) (n : Nat) : List (Nat × Namespace) := m.nss.filter fun e => e.2.slice == n

/-- The class 4 event of a slice reset (R156): contexts squashed, tags quarantined, queues deleted, VOLATILE objects, dirty log, staging set, staged windows and key slots cleared. -/
def State.resetSlice (n : Nat) (timedOut : Bool) (s : State) : State :=
  let s := ((s.sample 4).galSliceReset n).squashWhere fun x => !x.admin && x.slice == n
  let s := s.quarantine fun t => t.slice == n
  let s := (s.modQen fun q => q.dropQueues fun k _ sl => decide (k < 4096) && sl == n).clearSliceObjs n
  let slots := (s.mxe.sliceNss n).map fun e => e.2.keySlot
  let s := s.modCdx fun k => { k with keys := k.keys.filter fun e => !slots.contains e.1 }
  let s := s.modTnu fun t => { t with filter := t.filter.filter fun e => e.1 != n }
  let s := s.modSlice n fun x => { x with
    quiesce := false, quiesced := false, commitSts := 0, staged := [], dlogTail := 0, dlogPhase := true, dlogWait := []
    reset := some (.clearing s.now timedOut) }
  if timedOut then s.flag Fld.TNU_RST_STS.TIMED_OUT 0 1 else s

/-- SLICE_DRAIN_TIMEOUT (R155): the drain ends at DRAIN_MS. -/
def execSliceDrainTimeout (n : Nat) (s : State) : Out :=
  match (s.tnu.slice n).reset with
  | some (.drain t) => if s.passed t (msTicks (s.obj Ob.DRAIN_MS)) then .next (s.resetSlice n true) else .next s
  | _ => .next s

/-- SLICE_RESET (R156): the tick after a squash request, or the first tick of a drain with no context of the slice. -/
def execSliceReset (n : Nat) (s : State) : Out :=
  match (s.tnu.slice n).reset with
  | some (.drain _) => if s.qen.sliceAlloc n = 0 then .next (s.resetSlice n false) else .next s
  | some (.squash t) => if s.passed t 1 then .next (s.resetSlice n false) else .next s
  | _ => .next s

/-- The key slots of a slice's namespaces are loaded. -/
def State.keysLoaded (s : State) (n : Nat) : Bool := (s.mxe.sliceNss n).all fun e => Tbl.has s.cdx.keys e.2.keySlot

/-- SLICE_RESET_DONE (R157): quarantine is empty and the keys are loaded. -/
def execSliceResetDone (n : Nat) (s : State) : Out :=
  match (s.tnu.slice n).reset with
  | some (.clearing _ _) =>
    if (s.hlu.tags.any fun t => t.2.slice == n && t.2.phase == .quarantined) = false ∧ s.keysLoaded n = true then
      .next (((s.modSlice n fun x => { x with reset := none }).flag Fld.TNU_RST_STS.DONE 0 1).trigger 0x06 UnitNo.tnu n 0)
    else .next s
  | _ => .next s

end Sys2Proof.Machine
end

