-- ==== Sys2Proof/Machine/Admin.lean ====
section
/-! DEFINITION. Meanings of the admin commands, of controller enable, reset and shutdown (spec/04, spec/02 R43 to R45, spec/05 R135, R136, spec/17 R527). Field positions and status codes of NVMe that the spec does not restate: notes/assumptions/10.md. -/

namespace Sys2Proof.Machine

/-! ## Frames -/

def stNotReady := 0x024
def stCqInvalid := 0x100
def stQidInvalid := 0x101
def stQsizeInvalid := 0x102
def stAbortLimit := 0x103
def stAerLimit := 0x105
def stVectorInvalid := 0x108
def stLogPage := 0x109
def stFormatInvalid := 0x10A
def stQueueDeletion := 0x10C
def stCapacity := 0x115
def stNsidNone := 0x116
def stControllerId := 0x11F
def stResources := 0x121

/-- An admin command in FETCHED: in Stair, one outside the subset of R43 ends with Admin Command Media Not Ready (R44). -/
def State.admin (c : Nat) (op : BitVec 8) (stair : Bool) (f : Ctx → State → State) (s : State) : Out :=
  match s.adminCtx c op with
  | some x =>
    if s.power.stage = .hall ∨ (stair = true ∧ s.power.adminOpen = true) then .next (f x s)
    else if s.power.adminOpen then .next (s.finish c stNotReady)
    else .next s
  | none => .next s

/-- A command completes with a DW0. -/
def State.finishWith (c : Nat) (w : Word) (s : State) : State := (s.finish c 0).modCtx c fun x => { x with result := w }

/-- A field of a dword. -/
def cdwBits (w : Word) (msb lsb : Nat) : Nat := bitsOf w.toNat msb lsb

/-- A page of `len` bytes from fields (offset, value), little-endian. -/
def packBytes (len : Nat) (fs : List (Nat × Nat)) : List Byte := leBytes len (fs.foldl (fun n f => n + 256 ^ f.1 * f.2) 0)

/-! ## Opcodes -/

/-- Opcodes of Table 4.2. -/
def adminOpcodes : List Nat := [0x00, 0x01, 0x02, 0x04, 0x05, 0x06, 0x08, 0x09, 0x0A, 0x0C, 0x0D, 0x10, 0x11, 0x15, 0x1C, 0x80, 0x84]
def ioOpcodes : List Nat := [0x00, 0x01, 0x02, 0x08, 0x09]

/-- Features with a Set Features row. -/
def setFids : List Nat := [0x01, 0x02, 0x06, 0x08, 0x0B, 0x0C, 0x10]

/-- INVALID_COMMAND_OPCODE (R93): an opcode outside Table 4.2; a feature that no row sets and a Commit Action outside Table 16.7 end with Invalid Field in Command. In Stair every admin command but those of R43 ends with Admin Command Media Not Ready, one of no list too (R44, R94). -/
def execInvalidCommandOpcode (c : Nat) (s : State) : Out :=
  match Tbl.find? s.qen.ctxs c with
  | some x =>
    if x.state ≠ .fetched ∨ x.win ≠ none ∨ x.bmeStall = true then .next s
    else if x.admin then
      if !adminOpcodes.contains x.sqe.opcode.toNat then .next (s.finish c (if s.power.stage = .hall then stInvalidOpcode else stNotReady))
      else if x.sqe.opcode = 0x09 ∧ setFids.contains (cdwBits x.sqe.cdw10 7 0) = false then
        .next (s.finish c (if s.power.stage = .hall then stInvalidField else stNotReady))
      else if x.sqe.opcode = 0x10 ∧ (cdwBits x.sqe.cdw10 5 3 = 0 ∨ 3 < cdwBits x.sqe.cdw10 5 3) then .next (s.finish c stInvalidField)
      else .next s
    else if ioOpcodes.contains x.sqe.opcode.toNat then .next s else .next (s.finish c stInvalidOpcode)
  | none => .next s

/-! ## Abort (R112 to R117) and queue deletion (R528) -/

/-- The lookup would catch the command (Table 4.2, R113). -/
def State.catchable (s : State) (c : Nat) (x : Ctx) : Bool :=
  if x.caught || x.win.isSome then false
  else if x.admin then x.sqe.opcode == 0x0C && x.state == .fetched
  else if x.sqe.opcode = 0x01 then x.state == .fetched || x.state == .dataIn || x.state == .lookup
  else if x.sqe.opcode = 0x02 then x.state == .fetched || x.state == .lookup || x.state == .media || x.state == .dataOut || x.state == .ready
  else if x.sqe.opcode = 0x08 ∨ x.sqe.opcode = 0x09 then s.trimBefore c x
  else false

/-- A caught command (R113, R116): CAUGHT, its status fixed, its buffers freed, nothing of it commits. -/
def State.catchCmd (c status : Nat) (s : State) : State :=
  match Tbl.find? s.qen.ctxs c with
  | some x =>
    let s := if x.dsn = 0 then s else s.modMxe fun m => m.withdraw c x.dsn
    (s.modCtx c fun y => { y with caught := true }).failCmd c status
  | none => s

/-- The queue an Abort or a deletion names: the function's queue identifier. -/
def State.namedQueue (s : State) (x : Ctx) : Option Nat := s.queueKey x.fn (cdwBits x.sqe.cdw10 15 0)

/-- ABORT (R112): one lookup, class 7. Of a controller's Aborts fetched and not completed, the first 32 are within the limit (R117). -/
def execAbort (c : Nat) (s : State) : Out :=
  s.admin c 0x08 false (fun x s =>
    let s := s.sample 7
    if 32 ≤ (s.qen.ctxs.filter fun e => e.2.admin && e.2.sqe.opcode == 0x08 && e.2.fn == x.fn && decide (e.2.fetchOrd < x.fetchOrd)).length then s.finish c stAbortLimit
    else
      match (s.namedQueue x).bind fun k =>
        s.qen.ctxs.find? fun e => e.2.sqid == k && e.2.sqe.cid.toNat == cdwBits x.sqe.cdw10 31 16 && s.catchable e.1 e.2 with
      | some (k, _) => ((s.catchCmd k stAborted).count Fld.QEN_ABORT_CNT.CAUGHT 0 1).finish c 0
      | none => (s.count Fld.QEN_ABORT_CNT.MISSED 0 1).finishWith c 1)

/-- DELETE_IO_SUBMISSION_QUEUE (R528). -/
def execDeleteIoSubmissionQueue (c : Nat) (s : State) : Out :=
  s.admin c 0x00 false (fun x s =>
    match s.namedQueue x with
    | some k =>
      if Tbl.has s.qen.sqs k = true ∧ k < 4096 then
        let s := s.modQen fun q => { q with sqs := Tbl.adjust q.sqs k fun y => { y with deleting := true, arrivals := [] } }
        let s := (s.qen.ctxs.filter fun e => e.2.sqid == k && s.catchable e.1 e.2).foldl (fun s e => s.catchCmd e.1 stSqDeleted) s
        (s.modCtx c fun y => { y with accepted := true, waits := [k] }).deletionsDone
      else s.finish c stQidInvalid
    | none => s.finish c stQidInvalid)

/-- Size of a queue to create (0's based, at most 65,536 by CAP.MQES); a queue holds at least two entries. -/
def queueSize (w : Word) : Nat := cdwBits w 31 16 + 1

/-- A slice's vector range holds a vector (Table 5.1). -/
def State.vectorOk (s : State) (sl v : Nat) : Bool :=
  decide (s.sliceObj Ob.VEC_BASE sl ≤ v) && decide (v < s.sliceObj Ob.VEC_BASE sl + s.sliceObj Ob.VEC_COUNT sl)

/-- Class of an I/O queue (R100): QPRIO under weighted round robin; none: DEFAULT_CLASS. -/
def State.queuePrio (s : State) (fn qprio : Nat) : Option SvcClass := if (s.qen.ctrl fn).wrr then some (classOf qprio) else none

/-- PRP entry 1: a queue's base address, which CAP.CQR makes contiguous (Table 4.1). -/
def prp1 (e : Sqe) : Nat := e.dptr.toNat % 2 ^ 64

/-- A new submission queue, empty. -/
def Sq.new (fn slice cq size base : Nat) (prio : Option SvcClass) (cmb : Option Nat) : Sq :=
  { fn := fn, slice := slice, cq := cq, size := size, base := base, prio := prio, head := 0, tail := 0, arrivals := [], cmb := cmb, untrans := false
    placed := false, fetched := false, promoted := false, urgentTurn := false, deleting := false }

/-- A new completion queue, empty. -/
def Cq.new (fn slice size base vec : Nat) (ien : Bool) : Cq :=
  { fn := fn, slice := slice, size := size, base := base, head := 0, tail := 0, phase := true, untrans := false, vec := vec, ien := ien
    unsignalled := 0, since := none }

/-- CREATE_IO_SUBMISSION_QUEUE (R100, R134, R135): a queue that is not physically contiguous is refused (CAP.CQR). -/
def execCreateIoSubmissionQueue (c : Nat) (cmb : Option Nat) (s : State) : Out :=
  s.admin c 0x01 false (fun x s =>
    match s.queueNo x.fn (cdwBits x.sqe.cdw10 15 0) with
    | some (k, sl) =>
      if Tbl.has s.qen.sqs k then s.finish c stQidInvalid
      else if queueSize x.sqe.cdw10 < 2 then s.finish c stQsizeInvalid
      else if x.sqe.cdw11.getLsbD 0 = false then s.finish c stInvalidField
      else
        match s.queueNo x.fn (cdwBits x.sqe.cdw11 31 16) with
        | some (cq, csl) =>
          if Tbl.has s.qen.cqs cq = true ∧ csl = sl then
            (s.modQen fun q => { q with sqs := Tbl.put q.sqs k (Sq.new x.fn sl cq (queueSize x.sqe.cdw10) (prp1 x.sqe) (s.queuePrio x.fn (cdwBits x.sqe.cdw11 2 1)) cmb) }).finish c 0
          else s.finish c stCqInvalid
        | none => s.finish c stCqInvalid
    | none => s.finish c stQidInvalid)

/-- CREATE_IO_COMPLETION_QUEUE (R134, R135). -/
def execCreateIoCompletionQueue (c : Nat) (s : State) : Out :=
  s.admin c 0x05 false (fun x s =>
    match s.queueNo x.fn (cdwBits x.sqe.cdw10 15 0) with
    | some (k, sl) =>
      if Tbl.has s.qen.cqs k then s.finish c stQidInvalid
      else if queueSize x.sqe.cdw10 < 2 then s.finish c stQsizeInvalid
      else if x.sqe.cdw11.getLsbD 0 = false then s.finish c stInvalidField
      else if x.sqe.cdw11.getLsbD 1 && !s.vectorOk sl (cdwBits x.sqe.cdw11 31 16) then s.finish c stVectorInvalid
      else (s.modQen fun q => { q with cqs := Tbl.put q.cqs k (Cq.new x.fn sl (queueSize x.sqe.cdw10) (prp1 x.sqe) (cdwBits x.sqe.cdw11 31 16) (x.sqe.cdw11.getLsbD 1)) }).finish c 0
    | none => s.finish c stQidInvalid)

/-- DELETE_IO_COMPLETION_QUEUE (R93): refused while a submission queue uses it. -/
def execDeleteIoCompletionQueue (c : Nat) (s : State) : Out :=
  s.admin c 0x04 false (fun x s =>
    match s.namedQueue x with
    | some k =>
      if Tbl.has s.qen.cqs k = false ∨ 4096 ≤ k then s.finish c stQidInvalid
      else if s.qen.sqs.any fun e => e.2.cq == k then s.finish c stQueueDeletion
      else (s.modQen fun q => { q with cqs := Tbl.del q.cqs k }).finish c 0
    | none => s.finish c stQidInvalid)

/-! ## Identify and logs -/

/-- A power state descriptor of Table 4.8 in Identify Controller, at 0x800 + 32 n. -/
def State.psDescriptor (s : State) (n : Nat) : List (Nat × Nat) :=
  let lat := match n with | 0 => (0, 0) | 1 | 2 => (20, 20) | 3 => (1000, 1000) | _ => (5000, 10000)
  [(0x800 + 32 * n, s.obj Ob.PS_MAX_POWER_0 0 n), (0x803 + 32 * n, if 3 ≤ n then 2 else 0), (0x804 + 32 * n, lat.1), (0x808 + 32 * n, lat.2)]

/-- A STRING object's bytes padded with spaces to its field. -/
def spacePad (n v : Nat) : Nat := leNat ((leBytes n v).map fun b => if b = 0 then 0x20 else b)

/-- Identify Controller: what the spec gives (Tables 4.1, 4.2 and 4.8, R118, R121, R122, R123, R231, R450, R483), at the places of NVMe Base 2.0 (notes/assumptions/10.md): SN, MN, MDTS, CNTLID, VER, RTD3R, RTD3E, OAES, OACS, ACL, AERL, FRMW, LPA, NPSS, APSTA, MTFA, FWUG, HCTMA, SANICAP, SQES, CQES, NN, ONCS, VWC, SGLS. -/
def State.identifyController (s : State) (fn : Nat) : List Byte :=
  packBytes 4096 ([(4, spacePad 20 (s.obj Ob.SERIAL)), (24, spacePad 40 (s.obj Ob.MODEL)), (77, 9), (78, fn), (80, 0x20000), (84, 1500000), (88, 1000000),
    (92, 0x300), (256, 0x8E), (258, 31), (259, 15), (260, 0x14), (261, 6), (263, 4), (265, 1), (270, 1), (319, 1), (322, 1), (328, 3), (512, 0x66), (513, 0x44),
    (516, 1024), (520, 0x0C), (525, 7), (536, 0x10002)] ++ (List.range 5).flatMap s.psDescriptor)

/-- The LBA formats of Table 4.3 as Identify Namespace lists them, from byte 128 on: metadata bytes and log2 of the data size. -/
def lbaFormats : List (Nat × Nat) := [(128, 0), (130, 9), (132, 8), (134, 9), (136, 0), (138, 12), (140, 8), (142, 12), (144, 64), (146, 12)]

/-- Identify Namespace: size, capacity, formats, protection types 1 to 3. -/
def Namespace.identify (n : Namespace) : List Byte :=
  packBytes 4096 ([(0, n.nsze), (8, n.nsze), (16, n.nsze), (25, 4), (26, n.lbaf), (28, 7), (99, bit01 n.readOnly)] ++ lbaFormats)

/-- Namespaces attached to a slice of the function, above an NSID. -/
def State.nsList (s : State) (fn above : Nat) : List Nat :=
  (s.mxe.nss.filter fun e => e.2.attached && s.sliceOn e.2.slice fn && decide (above < e.1)).map Prod.fst

/-- A page of numbers of `w` bytes each. -/
def numberPage (w : Nat) (ns : List Nat) : List Byte := let d := ns.flatMap (leBytes w); d.take 4096 ++ List.replicate (4096 - d.length) 0

/-- Functions that are controllers of the device: PF0 and the VFs with a function slice. -/
def State.controllers (s : State) : List Nat := 0 :: ((List.range 63).map (· + 1)).filter fun f => (s.functionSlice f).isSome

/-- Controllers to which a namespace is attached: those of its slice's function. -/
def State.attachedTo (s : State) (nsid : Nat) : List Nat :=
  match s.mxe.ns? nsid with
  | some n => if n.attached then [s.sliceObj Ob.FUNC n.slice] else []
  | none => []

/-- The Secondary Controller List: the VFs from a number on, with their VQ and VI resources (R135). -/
def State.secondaryList (s : State) (from_ : Nat) : List Byte :=
  let vs := (s.controllers.filter fun f => f != 0 && decide (from_ ≤ f)).take 127
  packBytes 4096 ((0, vs.length) :: vs.zipIdx.flatMap fun v =>
    let sl := (s.functionSlice v.1).getD 0
    let o := 32 + 32 * v.2
    [(o, v.1), (o + 4, bit01 (s.hlu.vfEn && decide (v.1 ≤ s.hlu.numVfs))), (o + 8, v.1), (o + 10, s.sliceObj Ob.QCOUNT sl), (o + 12, s.sliceObj Ob.VEC_COUNT sl)])

/-- Data of Identify by CNS (NVMe, notes/assumptions/10.md): 00h namespace, 01h controller, 02h active namespaces, 03h namespace descriptors (the NVM command set), 05h and 06h what the NVM command set adds (nothing), 10h and 11h allocated namespaces, 12h and 13h controllers, 14h the primary controller's resources (VQ and VI), 15h secondary controllers; none for a CNS not served. -/
def State.identifyData (s : State) (x : Ctx) : Option (List Byte) :=
  let nsid := x.sqe.nsid.toNat
  let from_ := cdwBits x.sqe.cdw10 31 16
  let idlist := fun (cs : List Nat) => numberPage 2 (let l := (cs.filter fun f => decide (from_ ≤ f)).take 2047; l.length :: l)
  match cdwBits x.sqe.cdw10 7 0 with
  | 0x00 => some (((s.mxe.ns? nsid).map fun n => if n.attached && s.sliceOn n.slice x.fn then n.identify else packBytes 4096 []).getD (packBytes 4096 []))
  | 0x01 => some (s.identifyController x.fn)
  | 0x02 => some (numberPage 4 (s.nsList x.fn nsid))
  | 0x03 => some (packBytes 4096 [(0, 0x0104)])
  | 0x05 | 0x06 => some (packBytes 4096 [])
  | 0x10 => some (numberPage 4 ((s.mxe.nss.map Prod.fst).filter fun k => decide (nsid < k)))
  | 0x11 => some (((s.mxe.ns? nsid).map Namespace.identify).getD (packBytes 4096 []))
  | 0x12 => some (idlist (s.attachedTo nsid))
  | 0x13 => some (idlist s.controllers)
  | 0x14 => some (packBytes 4096 [(4, 3)])
  | 0x15 => some (s.secondaryList from_)
  | _ => none

/-- A page of data goes to the places of a command's data pointer and the command completes: once the pointer is known (Table 4.1), its pages may be written (R77) and the link is up. -/
def State.pageOut (c page : Nat) (x : Ctx) (d : List Byte) (s : State) : State :=
  s.ptrGo c x fun s =>
    match (partPieces 4096 0 x.parts).find? fun p => !s.hlu.pageOk x.fn none (p.2.1 / 4096) (x.untrans.contains (p.2.1 / 4096)) with
    | some p => s.askPage x.fn x.chargedTo (p.2.1 / 4096)
    | none => if s.hlu.ready then (s.emit (.pageData c page x.fn x.parts d)).finish c 0 else s

/-- IDENTIFY (R43). -/
def execIdentify (c : Nat) (s : State) : Out :=
  s.admin c 0x06 true (fun x s =>
    match s.identifyData x with
    | some d => s.pageOut c (cdwBits x.sqe.cdw10 7 0) x d
    | none => s.finish c stInvalidField)

/-- Critical Warning of the SMART / Health log: spare (R212), degraded (R346), read-only (R212), hold-up (R355). -/
def State.criticalWarning (s : State) : Nat :=
  bit01 (decide (s.mxe.availPct < spareThreshold)) + 4 * bit01 s.dieWarning
    + 8 * bit01 s.mxe.readOnly + 16 * bit01 (s.hum.state == .degraded || s.hum.state == .absent)

/-- SMART / Health Information. -/
def State.smartPage (s : State) : List Byte :=
  packBytes 512 [(0, s.criticalWarning), (1, (s.dsc.tj + 273).toNat % 65536), (3, s.mxe.availPct), (4, spareThreshold), (5, s.cdx.pctUsed),
    (112, s.obj Ob.POWER_CYCLES), (128, s.obj Ob.POWER_ON_SECONDS / 3600), (160, s.spe.mediaErrors), (216, s.dsc.stepCount1), (220, s.dsc.stepCount2),
    (224, s.dsc.stepTime1 / 800000000), (228, s.dsc.stepTime2 / 800000000)]

/-- The Health Event log (R527). -/
def State.healthPage (s : State) : List Byte :=
  packBytes 16 [(0, s.mgp.events.length), (4, s.mgp.summary.toNat)] ++ s.mgp.events.flatMap (fun r => leBytes 8 r.head.toNat ++ leBytes 8 r.time)
    ++ List.replicate (4096 - 16 * s.mgp.events.length) 0

/-- Commands Supported and Effects: CSUPP of each opcode of Table 4.2. -/
def effectsPage : List Byte := packBytes 4096 (adminOpcodes.map (fun o => (4 * o, 1)) ++ ioOpcodes.map fun o => (1024 + 4 * o, 1))

/-- Firmware Slot Information (R450, Table 16.6): slot 1 is active; a take that is STAGED in it runs at the next start. -/
def State.slotPage (s : State) : List Byte := packBytes 512 [(0, 1 + 16 * bit01 (s.csu.cfg.takeState == 1))]

/-- The Changed Namespace List of a controller. -/
def Controller.changedPage (k : Controller) : List Byte := numberPage 4 k.changed

/-- Sanitize Status: no operation runs; the last one has succeeded. -/
def Mxe.sanitizePage (m : Mxe) : List Byte :=
  packBytes 512 ((0, 0xFFFF) :: match m.sanitized with | some w => [(2, 1), (4, w.toNat)] | none => [])

/-- A log page (Table 4.1); none for an identifier not served. -/
def State.logPage (s : State) (x : Ctx) : Nat → Option (List Byte)
  | 0x01 => some (packBytes 64 [(0, (s.qen.ctrl x.fn).errors)])
  | 0x02 => some s.smartPage
  | 0x03 => some s.slotPage
  | 0x04 => some (s.qen.ctrl x.fn).changedPage
  | 0x05 => some effectsPage
  | 0x81 => some s.mxe.sanitizePage
  | 0xC0 => some s.healthPage
  | _ => none

/-- The type of the events that a log page re-arms. -/
def logEventType : Nat → Nat
  | 0x01 => 0
  | 0x02 => 1
  | 0xC0 => 7
  | _ => 2

/-- The part of a page that a command asks for: NUMD dwords from byte offset LPO; bytes beyond the page read 0. -/
def pagePart (x : Ctx) (d : List Byte) : List Byte :=
  let n := 4 * (cdwBits x.sqe.cdw10 31 16 + 65536 * cdwBits x.sqe.cdw11 15 0 + 1)
  let p := (d.drop (x.sqe.cdw12.toNat + 2 ^ 32 * x.sqe.cdw13.toNat)).take n
  p ++ List.replicate (n - p.length) 0

/-- A log page that has gone out re-arms its events, and the Changed Namespace List is empty again, unless Retain Asynchronous Event is set. -/
def State.pageLogged (c lid : Nat) (x : Ctx) (s : State) : State :=
  if x.sqe.cdw10.getLsbD 15 = true ∨ (Tbl.find? s.qen.ctxs c).all (fun y => y.state != .ready || y.status != 0) = true then s
  else s.modQen fun q => q.modCtrl x.fn fun k => { k with
    masked := k.masked.filter (· != logEventType lid), changed := if lid = 0x04 then [] else k.changed }

/-- GET_LOG_PAGE (R527): Error Information and Firmware Slot Information in Stair too (Table 4.2). -/
def execGetLogPage (c : Nat) (s : State) : Out :=
  s.admin c 0x02 true (fun x s =>
    let lid := cdwBits x.sqe.cdw10 7 0
    if s.power.stage ≠ .hall ∧ lid ≠ 0x01 ∧ lid ≠ 0x03 then s.finish c stNotReady
    else
      match s.logPage x lid with
      | some d =>
        if mdtsBytes < x.bytes then s.finish c stInvalidField
        else (s.pageOut c lid x (pagePart x d)).pageLogged c lid x
      | none => s.finish c stLogPage)

/-! ## Features -/

/-- DW0 of Get Features. -/
def State.featureOf (s : State) (fn : Nat) : Nat → Option Nat
  | 0x01 => let k := s.qen.ctrl fn; some (k.burst + 2 ^ 8 * k.lpw + 2 ^ 16 * k.mpw + 2 ^ 24 * k.hpw)
  | 0x02 => some s.qen.ps
  | 0x06 => some (bit01 s.qen.wce)
  | 0x08 => some ((s.qen.ctrl fn).coalThr + 2 ^ 8 * (s.qen.ctrl fn).coalTime)
  | 0x0B => some (s.qen.ctrl fn).aenCfg.toNat
  | 0x0C => some (bit01 (s.qen.ctrl fn).apste)
  | 0x10 => some (s.qen.tmt2 + 2 ^ 16 * s.qen.tmt1)
  | _ => none

/-- GET_FEATURES (R93). -/
def execGetFeatures (c : Nat) (s : State) : Out :=
  s.admin c 0x0A false (fun x s =>
    match s.featureOf x.fn (cdwBits x.sqe.cdw10 7 0) with
    | some v => s.finishWith c (BitVec.ofNat 32 v)
    | none => s.finish c stInvalidField)

/-- A Set Features command of one feature. -/
def State.setFeature (c fid : Nat) (f : Ctx → State → State) (s : State) : Out :=
  match s.adminCtx c 0x09 with
  | some x => if cdwBits x.sqe.cdw10 7 0 = fid then s.admin c 0x09 false f else .next s
  | none => .next s

/-- SET_FEATURES_ARBITRATION (R99). -/
def execSetFeaturesArbitration (c : Nat) (s : State) : Out :=
  s.setFeature c 0x01 (fun x s => (s.modQen fun q => q.modCtrl x.fn fun k => { k with
    burst := cdwBits x.sqe.cdw11 2 0, lpw := cdwBits x.sqe.cdw11 15 8, mpw := cdwBits x.sqe.cdw11 23 16, hpw := cdwBits x.sqe.cdw11 31 24 }).finish c 0)

/-- The table of Autonomous Power State Transition in a command's buffers (NVMe, notes/assumptions/10.md): of each power state the target and the idle time in ms. -/
def State.apstTable (s : State) (x : Ctx) : List (Nat × Nat) :=
  (numbersOf 8 (leNat (s.bpm.stageRead (s.bpm.piecesOf x.bufs x.bytes) 0 x.bytes)) 32).map fun v => (bitsOf v 7 3, bitsOf v 31 8)

/-- The end of a Set Features of Autonomous Power State Transition, its table read. -/
def State.apstSet (c : Nat) (x : Ctx) (s : State) : State :=
  let t := s.apstTable x
  ((s.modQen fun q => q.modCtrl x.fn fun k => { k with apste := x.sqe.cdw11.getLsbD 0, apst := t }).failCmd c 0)

/-- The context of a Set Features of Autonomous Power State Transition whose table has arrived. -/
def State.apstCtx (s : State) (c : Nat) : Option Ctx :=
  match Tbl.find? s.qen.ctxs c with
  | some x => if x.admin && x.sqe.opcode == 0x09 && cdwBits x.sqe.cdw10 7 0 == 0x0C && x.state == .lookup && !x.bmeStall then some x else none
  | none => none

/-- SET_FEATURES_POWER_MANAGEMENT (R125, R126): Power Management, and Autonomous Power State Transition (Table 4.1), which takes a table from host memory. -/
def execSetFeaturesPowerManagement (c : Nat) (s : State) : Out :=
  match s.adminCtx c 0x09 with
  | some x =>
    if cdwBits x.sqe.cdw10 7 0 = 0x0C then s.setFeature c 0x0C fun x s => s.ptrGo c x (State.dataInGo c .pass x)
    else s.setFeature c 0x02 (fun x s =>
      if 4 < cdwBits x.sqe.cdw11 4 0 then s.finish c stInvalidField
      else (s.modCtx c fun y => { y with accepted := true }).psApply { ps := cdwBits x.sqe.cdw11 4 0, ctx := some c })
  | none =>
    match s.apstCtx c with
    | some x => .next (s.apstSet c x)
    | none => .next s

/-- SET_FEATURES_VOLATILE_WRITE_CACHE (R108, R109). -/
def execSetFeaturesVolatileWriteCache (c : Nat) (s : State) : Out :=
  s.setFeature c 0x06 (fun x s => (s.modQen fun q => { q with wce := x.sqe.cdw11.getLsbD 0 }).finish c 0)

/-- SET_FEATURES_INTERRUPT_COALESCING (R111). -/
def execSetFeaturesInterruptCoalescing (c : Nat) (s : State) : Out :=
  s.setFeature c 0x08 (fun x s => (s.modQen fun q => q.modCtrl x.fn fun k => { k with
    coalThr := cdwBits x.sqe.cdw11 7 0, coalTime := cdwBits x.sqe.cdw11 15 8 }).finish c 0)

/-- SET_FEATURES_HCTM (R231): thresholds in K; TMT1 is at least TMT2 only when one of them is 0. -/
def execSetFeaturesHctm (c : Nat) (s : State) : Out :=
  s.setFeature c 0x10 (fun x s =>
    let t1 := cdwBits x.sqe.cdw11 31 16
    let t2 := cdwBits x.sqe.cdw11 15 0
    if t1 ≠ 0 ∧ t2 ≠ 0 ∧ t2 ≤ t1 then s.finish c stInvalidField
    else (s.modQen fun q => { q with tmt1 := t1, tmt2 := t2 }).finish c 0)

/-- SET_FEATURES_CRITICAL_WARNINGS (R355): the Asynchronous Event Configuration. -/
def execSetFeaturesCriticalWarnings (c : Nat) (s : State) : Out :=
  s.setFeature c 0x0B (fun x s => (s.modQen fun q => q.modCtrl x.fn fun k => { k with aenCfg := x.sqe.cdw11 }).finish c 0)

/-- ASYNCHRONOUS_EVENT_REQUEST (R113, R479): it waits for an event; 16 outstanding at most (AERL). -/
def execAsynchronousEventRequest (c : Nat) (s : State) : Out :=
  s.admin c 0x0C false (fun x s =>
    if 16 ≤ (s.qen.ctxs.filter fun e => e.2.admin && e.2.accepted && e.2.sqe.opcode == 0x0C && e.2.fn == x.fn).length then s.finish c stAerLimit
    else (s.modCtx c fun y => { y with accepted := true }).giveEvent x.fn)

/-! ## Namespaces -/

/-- R186: the DRAM holds two maps, the 8 GiB and the stage windows; the raw NAND holds the namespaces. -/
def State.capacityOk (s : State) (nss : List (Nat × Namespace)) : Bool :=
  decide (2 * ({ s.mxe with nss := nss } : Mxe).mapBytes + 8 * 2 ^ 30 + 2 ^ 30 * s.gal.stageGib ≤ s.dmc.capacity)
    && decide (nss.foldl (fun t e => t + e.2.nsze * e.2.lbaBytes) 0 ≤ s.rawBytes)

/-- Every granule of a namespace becomes UNMAPPED, and its lost extents go (R307, R344). -/
def State.unmapNs (nsid : Nat) (s : State) : State :=
  let gs := (s.mxe.map.filter fun e => e.1 / 2 ^ 40 + 1 == nsid).map fun e => e.1 % 2 ^ 40
  let s := gs.foldl (fun s g => s.setEntry nsid g MapEntry.unmapped) s
  let s := s.modMxe fun m => { m with
    jobs := m.jobs.filter (fun j => j.2.nsid != nsid), segMap := m.segMap.filter (fun e => e.1 / 2 ^ 40 + 1 != nsid)
    unloaded := m.unloaded.filter fun k => k / 2 ^ 32 != nsid }
  s.lostDrop nsid

/-- A namespace has changed: the controllers of its slice's function list it, and those that have enabled the notice tell of it (NVMe, notes/assumptions/10.md). -/
def State.nsChanged (slice nsid : Nat) (s : State) : State :=
  let fn := s.sliceObj Ob.FUNC slice
  if (s.qen.ctrl fn).en then
    let s := s.modQen fun q => q.modCtrl fn fun k => { k with changed := if k.changed.contains nsid then k.changed else k.changed ++ [nsid] }
    if (s.qen.ctrl fn).aenCfg.getLsbD 8 then s.asyncEvent fn ⟨2, 0, 4⟩ else s
  else s

/-- Namespaces that an NSID names: 0xFFFF_FFFF all. -/
def State.namedNss (s : State) (nsid : Word) : List (Nat × Namespace) :=
  s.mxe.nss.filter fun e => nsid == 0xFFFFFFFF || e.1 == nsid.toNat

/-- Namespace Management create (R183, R186). -/
def State.createNs (c : Nat) (p : NamespaceSpec) (s : State) : State :=
  match firstFree (Tbl.has s.mxe.nss) 1 1024 with
  | none => s.finish c stNsidNone
  | some nsid =>
    let n : Namespace := { nsze := p.nsze, lbaf := p.lbaf, granule := p.granule, keySlot := p.keySlot, qlc := p.cellQlc, slice := 0, attached := false, readOnly := false }
    if 4 < p.lbaf ∨ ¬ [4, 16, 64].contains p.granule = true then s.finish c stFormatInvalid
    else if s.capacityOk (Tbl.put s.mxe.nss nsid n) then
      (s.modMxe fun m => { m with nss := Tbl.put m.nss nsid n }).finishWith c (BitVec.ofNat 32 nsid)
    else s.finish c stCapacity

/-- NAMESPACE_MANAGEMENT (R186, R344): SEL 0 create, 1 delete. -/
def execNamespaceManagement (c : Nat) (spec : NamespaceSpec) (s : State) : Out :=
  s.admin c 0x0D false (fun x s =>
    if cdwBits x.sqe.cdw10 3 0 = 0 then s.createNs c spec
    else if cdwBits x.sqe.cdw10 3 0 = 1 then
      if s.namedNss x.sqe.nsid = [] then s.finish c stInvalidNs
      else ((s.namedNss x.sqe.nsid).foldl (fun s e => ((s.unmapNs e.1).modMxe fun m => { m with nss := Tbl.del m.nss e.1 }).nsChanged e.2.slice e.1) s).finish c 0
    else s.finish c stInvalidField)

/-- NAMESPACE_ATTACHMENT (R136): ownership moves to a slice, or the namespace is detached. -/
def execNamespaceAttachment (c : Nat) (slice : Option Nat) (s : State) : Out :=
  s.admin c 0x15 false (fun x s =>
    match s.mxe.ns? x.sqe.nsid.toNat with
    | some n =>
      let n' : Namespace := match slice with
        | some sl => { n with slice := sl, attached := true }
        | none => { n with attached := false }
      let s := s.modMxe fun m => { m with nss := Tbl.put m.nss x.sqe.nsid.toNat n' }
      let s := if n.attached then s.nsChanged n.slice x.sqe.nsid.toNat else s
      (match slice with | some sl => s.nsChanged sl x.sqe.nsid.toNat | none => s).finish c 0
    | none => s.finish c stInvalidNs)

/-- VIRTUALIZATION_MANAGEMENT (R135): Secondary Controller Assign sets QCOUNT from VQ or VEC_COUNT from VI resources of the VF's function slice, through its commit. DESIGN CHOICE (notes/assumptions/49.md): the commit takes whatever else stands staged for the slice with it. -/
def execVirtualizationManagement (c : Nat) (s : State) : Out :=
  s.admin c 0x1C false (fun x s =>
    let vf := cdwBits x.sqe.cdw10 31 16
    let o := if cdwBits x.sqe.cdw10 10 8 = 0 then Ob.QCOUNT else Ob.VEC_COUNT
    if cdwBits x.sqe.cdw10 3 0 ≠ 8 ∨ 1 < cdwBits x.sqe.cdw10 10 8 then s.finish c stInvalidField
    else if vf = 0 ∨ 63 < vf then s.finish c stControllerId
    else
      match s.functionSlice vf with
      | some sl =>
        let s := (s.modSlice sl fun y => { y with staged := Tbl.put y.staged o.sub (cdwBits x.sqe.cdw11 15 0) }).commitSlice sl
        if (s.tnu.slice sl).commitSts = 0 then s.finish c 0
        else (s.modSlice sl fun y => { y with staged := Tbl.del y.staged o.sub }).finish c stResources
      | none => s.finish c stControllerId)

/-- GENERATE on the key slots of namespaces (R303, R307): each takes a fresh key. -/
def State.regenerate (slots : List Nat) (s : State) : State :=
  slots.eraseDups.foldl (fun s k =>
    let v := s.fresh
    s.drawn.modCdx fun c => { c with keys := Tbl.put c.keys k v }) s

/-- The first Format fixes the base of Available Spare (R212). -/
def State.firstFormat (s : State) : State :=
  if s.mxe.formatted then s else s.modMxe fun m => { m with formatted := true, spareFirst := m.spare }

/-- A namespace in a new LBA format: its bytes stay. -/
def Namespace.reformat (n : Namespace) (lbaf : Nat) : Namespace :=
  let n' := { n with lbaf := lbaf }
  { n' with nsze := n.nsze * n.lbaBytes / n'.lbaBytes }

/-- FORMAT_NVM (R93, R186, R307, R344): Secure Erase Settings 0, 1 and 2. -/
def execFormatNvm (c : Nat) (s : State) : Out :=
  s.admin c 0x80 false (fun x s =>
    let lbaf := cdwBits x.sqe.cdw10 3 0
    let ses := cdwBits x.sqe.cdw10 11 9
    let ns := s.namedNss x.sqe.nsid
    if ns = [] then s.finish c stInvalidNs
    else if 4 < lbaf ∨ 2 < ses then s.finish c stFormatInvalid
    else
      let nss := ns.foldl (fun t e => Tbl.put t e.1 (e.2.reformat lbaf)) s.mxe.nss
      if (ns.any fun e => e.2.lbaf != lbaf) && !s.capacityOk nss then s.finish c stCapacity
      else
        let s := ns.foldl (fun s e => s.unmapNs e.1) s
        let s := (s.modMxe fun m => { m with nss := nss }).firstFormat
        (if ses = 2 then s.regenerate (ns.map fun e => e.2.keySlot) else s).finish c 0)

/-- Bands of user data go to be erased (Block Erase): they become victims, whose granules no entry names any more, and go the way of Table 7.6 (R192, R529). -/
def State.releaseUser (s : State) : State :=
  (s.mxe.bands.filter fun b => b.2.kind != .system).foldl (fun s b => s.chooseVictim b.1 .gc) s

/-- A Sanitize action's command. -/
def State.sanitize (c act : Nat) (f : State → State) (s : State) : Out :=
  match s.adminCtx c 0x84 with
  | some x =>
    if cdwBits x.sqe.cdw10 2 0 = act then s.admin c 0x84 false (fun _ s =>
      ((f (s.mxe.nss.foldl (fun s e => s.unmapNs e.1) s)).modMxe fun m => { m with sanitized := some x.sqe.cdw10 }).finish c 0)
    else .next s
  | none => .next s

/-- SANITIZE_BLOCK_ERASE (R93, R344). -/
def execSanitizeBlockErase (c : Nat) (s : State) : Out := s.sanitize c 2 State.releaseUser

/-- SANITIZE_CRYPTO_ERASE (R307, R344). -/
def execSanitizeCryptoErase (c : Nat) (s : State) : Out := s.sanitize c 4 fun s => s.regenerate (s.cdx.keys.map Prod.fst)

/-! ## Controllers -/

/-- CSTS.RDY may set (R45). -/
def State.readyNow (s : State) (crime : Bool) : Bool := s.power.stage == .hall || (crime && s.power.adminOpen)

/-- CSTS.RDY of the enabled controllers follows R45. -/
def State.readyAll (s : State) : State :=
  s.modQen fun q => { q with ctrls := q.ctrls.map fun e => if e.2.en then (e.1, { e.2 with rdy := e.2.rdy || s.readyNow e.2.crime }) else e }

/-- What a controller reset keeps of a controller (NVMe, notes/assumptions/10.md): AQA, ASQ and ACQ, and the memory page size as written. -/
def Controller.atReset (k : Controller) : Controller := { Controller.initial with mps := k.mps, aqa := k.aqa, asq := k.asq, acq := k.acq }

/-- The admin queues of a function: as AQA, ASQ and ACQ say (at most 4,096 entries, Table 4.1). -/
def Qen.adminQueues (q : Qen) (fn : Nat) : Qen :=
  let k := q.ctrl fn
  { q with
    sqs := Tbl.put q.sqs (4096 + fn) (Sq.new fn 0 (4096 + fn) (bitsOf k.aqa.toNat 11 0 + 1) k.asq.toNat (some .urgent) none)
    cqs := Tbl.put q.cqs (4096 + fn) (Cq.new fn 0 (bitsOf k.aqa.toNat 27 16 + 1) k.acq.toNat 0 true) }

/-- CONTROLLER_ENABLE (R45): the features at their NVMe defaults, the admin queues empty. -/
def execControllerEnable (fn : Nat) (crime wrr : Bool) (s : State) : Out :=
  if (s.qen.ctrl fn).en then .next s
  else .next (s.modQen fun q => (q.modCtrl fn fun k => { k.atReset with en := true, crime := crime, wrr := wrr, rdy := s.readyNow crime }).adminQueues fn)

/-- An activation that drains is dropped with the context of the Firmware Commit that began it: CSTS.PP clears on every controller and fetching resumes (R120, R122; notes/assumptions/28.md). -/
def Qen.dropActivation (q : Qen) : Qen :=
  { q with act := .none, actTick := none, actCtx := none, ctrls := q.ctrls.map fun e => (e.1, { e.2 with pp := false }) }

/-- The activation in progress drains for a Firmware Commit of the function. -/
def State.activationOf (s : State) (fn : Nat) : Bool :=
  s.qen.act == .draining && s.qen.actCtx.any fun c => (Tbl.find? s.qen.ctxs c).any fun x => x.fn == fn

/-- CONTROLLER_RESET (R54, R120): Table 4.7 for its contexts; its queues go; a firmware download ends. -/
def execControllerReset (fn : Nat) (s : State) : Out :=
  if (s.qen.ctrl fn).en then
    let t := if s.activationOf fn then s.modQen Qen.dropActivation else s
    let t := t.squashWhere fun x => x.fn == fn && x.win.isNone
    .next (t.modQen fun q => { (q.dropQueues fun _ f _ => f == fn) with
      ctrls := Tbl.put q.ctrls fn (q.ctrl fn).atReset
      shutting := q.shutting.filter (fun e => e.1 != fn)
      wce := true, staging := [], stagingLen := 0 })
  else .next s

/-- SHUTDOWN_NOTIFICATION (R121): I/O fetch stops; CSTS.SHST reports processing. -/
def execShutdownNotification (fn shn : Nat) (s : State) : Out :=
  if (s.qen.ctrl fn).en = true ∧ (shn = 1 ∨ shn = 2) then
    .next (s.modQen fun q => { (q.modCtrl fn fun k => { k with shn := shn, shst := 1 }) with
      shutting := (fn, shn) :: q.shutting.filter fun e => e.1 != fn })
  else .next s

/-- Everything volatile of writes, map and stripe journal is on NAND (R38, R121). -/
def State.allOnNand (s : State) : Bool :=
  s.mxe.writes.all (fun w => w.2.pend == 0 && w.2.grans == 0) && s.mxe.deltas.isEmpty && s.mxe.jbuf.isEmpty && s.mxe.jpages.isEmpty
    && s.mxe.dirty.isEmpty && s.spe.pageFill == 0

/-- Everything replayed from a dump is durable (R50): the dump is dropped and its area erased (R358). -/
def Hum.dropDump (h : Hum) : Hum :=
  match h.stored with
  | some x => if x.merged then { h with stored := none, replayed := x.seq, areaReady := true } else h
  | none => h

/-- The end of a shutdown or of the work of R38: a directory checkpoint, Θ, the clean-shutdown marker (R49, R202, R277); a dump that was replayed is no longer needed (R50). -/
def State.cleanEnd (s : State) : State :=
  ((s.modHum Hum.dropDump).storeTheta.modMxe fun m => { m with ckptTick := s.now }).modPower fun p => { p with marker := true }

/-- A shutdown notification ends once every fetched command has posted and everything is on NAND: CSTS.SHST = 10b (R121). -/
def State.shutdownEnd (s : State) : State :=
  s.qen.shutting.foldl (fun s e =>
    if (s.qen.ctrl e.1).shst = 1 ∧ (s.qen.ctxs.all fun x => x.2.fn != e.1 || x.2.idle) = true ∧ s.allOnNand = true then
      s.cleanEnd.modQen fun q => q.modCtrl e.1 fun k => { k with shst := 2 }
    else s) s

end Sys2Proof.Machine
end

