-- ==== Sys2Proof/Machine/CodeStore.lean ====
section
/-! DEFINITION. Code Store Unit (spec/16): addresses, the checks of Table 16.4, configuration records, protection, the rotating window, the debug port, and the meanings of the code store commands. -/

namespace Sys2Proof.Machine

/-! ## Addresses (R435, R444) -/

/-- Flash address of a page. -/
def flashAddr (sector page : Nat) : Nat := 16384 * sector + 256 * page

/-- Bank of a sector. -/
def bankOf (sector : Nat) : Nat := sector / 512

/-- Physical sector of bank 3 that holds a logical sector (R444), in the numbering of 2,048 sectors. -/
def windowSector (base l : Nat) : Nat := 1536 + (base + ((l : Int) - base).emod 63 |>.toNat) % 512

/-- Bank in which an instruction fetch address lies (Table 19.2). -/
def fetchBank (a : Nat) : Option Nat :=
  if 0x10000000 ≤ a ∧ a < 0x12000000 then some ((a - 0x10000000) / 0x800000)
  else if 0x12000000 ≤ a ∧ a < 0x120FC000 then some 3 else none

/-! ## Configuration records (Table 16.3, R436) -/

/-- Bytes of a configuration record. -/
def ConfigRecord.bytes (c : ConfigRecord) (bank3 : Nat) : List Byte :=
  let body := leBytes 8 c.seq ++ leBytes 1 c.takeState ++ leBytes 1 c.trials ++ leBytes 1 c.sealSt ++ leBytes 5 0 ++ leBytes 8 c.runningId
    ++ leBytes 8 c.archive0 ++ leBytes 8 c.archive1 ++ leBytes 4 c.winBase ++ leBytes 4 0 ++ leBytes 8 bank3 ++ leBytes 128 c.wpMap.toNat
    ++ leBytes 68 0
  body ++ leBytes 4 (crc32c body)

/-- Count an erase of a sector and clear it. -/
def Csu.eraseSector (u : Csu) (sector : Nat) : Csu :=
  { u with
    flash := Memory.clearRange u.flash (16384 * sector) 16384
    erases := Tbl.put u.erases sector (min 131071 (Tbl.getD u.erases sector 0 + 1)) }

/-- Write the next configuration record to the next free page of sectors 48 to 55 (R436); a sector is erased before its first page is used again. -/
def State.writeConfig (f : ConfigRecord → ConfigRecord) (s : State) : State :=
  let bank3 := s.obj Ob.BANK3_ERASES
  s.modCsu fun u =>
    let c := { f u.cfg with seq := u.cfg.seq + 1 }
    let p := (u.cfgPage + 1) % 512
    let u := if p % 64 = 0 then u.eraseSector (48 + p / 64) else u
    { u with cfg := c, cfgPage := p, flash := Memory.writeAll 0xFF u.flash (flashAddr 48 p) (c.bytes bank3) }

/-- A take state change (Table 16.5): recorded (Table 18.1). -/
def State.setTake (st trials : Nat) (s : State) : State :=
  (s.writeConfig fun c => { c with takeState := st, trials := trials }).trigger 0x1C UnitNo.csu 0 (BitVec.ofNat 64 s.csu.runId)

/-! ## Checks (R439, Table 16.4) -/

/-- RESULT codes of CSU_STS. -/
def csuOk := 0
def csuBankSelf := 1
def csuProtected := 2
def csuBusyBank := 3
def csuBadArg := 4
def csuFail := 5

/-- The first failing check of a command on a physical sector. -/
def State.csuRefusal (s : State) (argOk : Bool) (fetchAt sector : Nat) : Option Nat :=
  if !argOk then some csuBadArg
  else if fetchBank fetchAt = some (bankOf sector) then some csuBankSelf
  else if s.csu.wp.getLsbD sector then some csuProtected
  else if Tbl.has s.csu.banks (bankOf sector) || decide (2 ≤ s.csu.banks.length) then some csuBusyBank
  else none

/-- Change one cluster's CSU_STS. -/
def Csu.modPort (u : Csu) (k : Cluster) (f : CsuPort → CsuPort) : Csu :=
  match k with
  | .a => { u with portA := f u.portA }
  | .b => { u with portB := f u.portB }

/-- One cluster's CSU_STS. -/
def Csu.port (u : Csu) : Cluster → CsuPort
  | .a => u.portA
  | .b => u.portB

/-- Key of a pair. -/
def pairKey (k : Cluster) (pair : Nat) : Nat := 4 * clusterNo k + pair

/-- Loader mode of a pair. -/
def Csu.loader (u : Csu) (k : Cluster) (pair : Nat) : PairLoader := Tbl.getD u.loaders (pairKey k pair) ⟨false, false, 0⟩

/-- A pair fetches at an address (R440): loader mode begins at the first 64 B of sectors 0 to 15 or of the marked range, and ends outside both. -/
def Csu.fetch (u : Csu) (k : Cluster) (pair a : Nat) : Csu :=
  let l := u.loader k pair
  let inFlash := decide (0x10000000 ≤ a) && decide (a < 0x10040000)
  let inCopy := l.marked && decide (a < 0x40000)
  let mode :=
    if (inFlash && decide (a < 0x10000040)) || (inCopy && decide (a < 64)) then true
    else if inFlash || inCopy then l.mode else false
  { u with loaders := Tbl.put u.loaders (pairKey k pair) { l with mode := mode, fetchAt := a } }

/-- The fields of CSU_CMD that a GO write stores. -/
def State.csuCmd (r : CsuRequest) (op : Nat) (s : State) : State :=
  let n := clusterNo r.cluster
  (((s.setFld Fld.CSU_CMD.OP n op).setFld Fld.CSU_CMD.PAGE n r.page).setFld Fld.CSU_CMD.SECTOR n r.sector).modCsu fun u =>
    u.fetch r.cluster r.pair r.fetchAt

/-- A command of CSU_CMD.GO (R439): the epoch check, the checks, and the operation of the bank. -/
def State.csuGo (r : CsuRequest) (op : Nat) (argOk : Bool) (sector : Nat) (f : FlashOp) (window : Bool) (s : State) : State :=
  if !s.epochOk r.epoch then s.epochRefuse UnitNo.csu epochKindWrite r.epoch
  else
    let s := s.csuCmd r op
    match s.csuRefusal argOk r.fetchAt sector with
    | some e => s.modCsu fun u => u.modPort r.cluster fun p => { p with result := e }
    | none => s.modCsu fun u =>
        { u.modPort r.cluster (fun p => { p with busy := true }) with
          banks := Tbl.put u.banks (bankOf sector) { cluster := some r.cluster, op := f, suspended := false, readAt := s.now, window := window } }

/-- The 256 bytes of a cluster's CSU_PGBUF. -/
def State.pageBuf (s : State) (k : Cluster) : List Byte :=
  (List.range 64).flatMap fun i => leBytes 4 (s.regf.get Fld.CSU_PGBUF.WORD (clusterNo k) i)

/-- PROGRAM (R439): a page from CSU_PGBUF. -/
def State.csuProgram (r : CsuRequest) (s : State) : State :=
  s.csuGo r 1 (decide (r.sector < 1536) && decide (r.page < 64)) r.sector (.program (flashAddr r.sector r.page) (s.pageBuf r.cluster)) false

/-- CSU_PROGRAM (R439). -/
def execCsuProgram (r : CsuRequest) (s : State) : Out := .next (s.csuProgram r)

/-- ERASE (R439). -/
def State.csuErase (r : CsuRequest) (s : State) : State :=
  s.csuGo r 2 (decide (r.sector < 1536) && decide (r.page < 64)) r.sector (.erase r.sector) false

/-- CSU_ERASE (R439). -/
def execCsuErase (r : CsuRequest) (s : State) : Out := .next (s.csuErase r)

/-- The logical sector that a slide moves waits from its first step to its last (R445). -/
def State.slideHolds (s : State) (l : Nat) : Bool :=
  match s.csu.slide with
  | some .copying => windowSector s.csu.cfg.winBase l == 1536 + s.csu.cfg.winBase % 512
  | some .switched => windowSector s.csu.cfg.winBase l == 1536 + (s.csu.cfg.winBase + 62) % 512
  | none => false

/-- PROGRAM of a page of a logical sector of the window (R444); it waits while the slide moves that sector (R445). -/
def State.windowProgram (r : CsuRequest) (s : State) : State :=
  let p := windowSector s.csu.cfg.winBase r.sector
  if s.slideHolds r.sector && s.epochOk r.epoch then s.modCsu fun u => { u with winHeld := u.winHeld ++ [(r, false)] }
  else s.csuGo r 3 (decide (r.sector < 63) && decide (r.page < 64)) p (.program (flashAddr p r.page) (s.pageBuf r.cluster)) true

/-- WPROGRAM (R444). -/
def execWprogram (r : CsuRequest) (s : State) : Out := .next (s.windowProgram r)

/-- ERASE of a logical sector of the window (R444). -/
def State.windowErase (r : CsuRequest) (s : State) : State :=
  let p := windowSector s.csu.cfg.winBase r.sector
  if s.slideHolds r.sector && s.epochOk r.epoch then s.modCsu fun u => { u with winHeld := u.winHeld ++ [(r, true)] }
  else s.csuGo r 4 (decide (r.sector < 63) && decide (r.page < 64)) p (.erase p) true

/-- WERASE (R444). -/
def execWerase (r : CsuRequest) (s : State) : Out := .next (s.windowErase r)

/-- Sectors 0 to 15 go into the pair's TCM, marked as the loader copy (R440). The command passes every check. -/
def State.loaderCopied (r : CsuRequest) (s : State) : State :=
  if !s.epochOk r.epoch then s.epochRefuse UnitNo.csu epochKindWrite r.epoch
  else
    let k := pairKey r.cluster r.pair
    let s := s.csuCmd r 5
    let s := s.modCcl fun c => { c with tcm := Memory.writeAll 0 c.tcm (1048576 * k) (Memory.readN 0xFF s.csu.flash 0 262144) }
    s.modCsu fun u => { u.modPort r.cluster (fun p => { p with result := csuOk }) with
      loaders := Tbl.put u.loaders k { u.loader r.cluster r.pair with marked := true } }

/-- LOADER_COPY (R440). -/
def execLoaderCopy (r : CsuRequest) (s : State) : Out := .next (s.loaderCopied r)

/-- CSU_CMD written with GO (R439): the operation that OP names; a reserved one is refused. -/
def State.csuCommand (r : CsuRequest) (op : Nat) (s : State) : State :=
  match op with
  | 1 => s.csuProgram r
  | 2 => s.csuErase r
  | 3 => s.windowProgram r
  | 4 => s.windowErase r
  | 5 => s.loaderCopied r
  | _ => s.csuGo r op false 0 (.erase 0) false

/-! ## Ends, suspends, the slide -/

/-- What an operation that did not succeed leaves in its range: free values (notes/assumptions/6.md). -/
def State.spoil (a n : Nat) (s : State) : State :=
  let v := s.fresh
  s.drawn.modCsu fun u => { u with flash := Memory.writeAll 0xFF u.flash a (leBytes n v) }

/-- The effect of a flash operation that ends. -/
def State.flashDone (o : BankOp) (ok : Bool) (s : State) : State :=
  match o.op with
  | .program a bs => if ok then s.modCsu fun u => { u with flash := Memory.writeAll 0xFF u.flash a bs } else s.spoil a 256
  | .erase n =>
    let s := s.modCsu fun u => u.eraseSector n
    let s := if o.window then (s.modCsu fun u => { u with winErases := u.winErases + 1 }).setObj Ob.BANK3_ERASES (s.obj Ob.BANK3_ERASES + 1) else s
    if ok then s else s.spoil (16384 * n) 16384

/-- CSU_COMMAND_END (R439): RESULT is written and BUSY clears; a FAIL is recorded (Table 18.1). -/
def execCsuCommandEnd (bank : Nat) (ok : Bool) (s : State) : Out :=
  match Tbl.find? s.csu.banks bank with
  | some o =>
    if o.suspended then .next s
    else
      let s := (s.flashDone o ok).modCsu fun u => { u with banks := Tbl.del u.banks bank, suspTicks := 0 }
      let s := match o.cluster with
        | some k => s.modCsu fun u => u.modPort k fun _ => { busy := false, result := if ok then csuOk else csuFail }
        | none => s
      .next (if ok then s else s.trigger 0x1E UnitNo.csu bank 0)
  | none => .next s

/-- An erase of a configuration sector that has been suspended for 10 ms in total is suspended no further (R438). -/
def State.mayHold (s : State) : FlashOp → Bool
  | .erase n => !(decide (48 ≤ n) && decide (n ≤ 55) && decide (msTicks 10 ≤ s.csu.suspTicks))
  | .program _ _ => false

/-- CODE_STORE_READ_SUSPEND (R438): a read of the bank. -/
def execCodeStoreReadSuspend (bank : Nat) (s : State) : Out :=
  match Tbl.find? s.csu.banks bank with
  | some o => if s.mayHold o.op then .next (s.modCsu fun u => { u with banks := Tbl.put u.banks bank { o with suspended := true, readAt := s.now } }) else .next s
  | none => .next s

/-- CODE_STORE_ERASE_RESUME (R438): no read of the bank has been pending for 1 µs. -/
def execCodeStoreEraseResume (bank : Nat) (s : State) : Out :=
  .next (s.modCsu fun u => { u with banks := Tbl.adjust u.banks bank fun o => if s.passed o.readAt (usTicks 1) then { o with suspended := false } else o })

/-- An erase of a configuration sector. -/
def BankOp.cfgErase (o : BankOp) : Bool :=
  match o.op with
  | .erase n => decide (48 ≤ n) && decide (n ≤ 55)
  | .program _ _ => false

/-- Ticks of a suspended erase of a configuration sector: after 10 ms in total it goes on, and is suspended no further (R438). -/
def Csu.suspCount (u : Csu) : Csu :=
  if u.banks.any fun b => b.2.suspended && b.2.cfgErase then
    { u with suspTicks := u.suspTicks + 1
             banks := if u.suspTicks + 1 < msTicks 10 then u.banks else u.banks.map fun b => (b.1, if b.2.cfgErase then { b.2 with suspended := false } else b.2) }
  else u

/-- Set or clear a bit of CSU_WP. -/
def Csu.putWp (u : Csu) (n : Nat) (on : Bool) : Csu :=
  { u with wp := if on then u.wp ||| BitVec.ofNat 2048 (2 ^ n) else u.wp &&& ~~~(BitVec.ofNat 2048 (2 ^ n)) }

/-- Window operations that waited for the slide go on in their order (R445). -/
def State.heldWindow (s : State) : State :=
  s.csu.winHeld.foldl (fun s e => if e.2 then s.windowErase e.1 else s.windowProgram e.1) (s.modCsu fun u => { u with winHeld := [] })

/-- WINDOW_SLIDE (R445): the next step of the slide; the first after 1,024 WERASE commands. -/
def execWindowSlide (s : State) : Out :=
  let b := s.csu.cfg.winBase
  match s.csu.slide with
  | none =>
    if 1024 ≤ s.csu.winErases ∧ Tbl.has s.csu.banks 3 = false then
      .next (s.modCsu fun u => { u with
        flash := Memory.writeAll 0xFF u.flash (16384 * (1536 + (b + 63) % 512)) (Memory.readN 0xFF u.flash (16384 * (1536 + b % 512)) 16384)
        slide := some .copying })
    else .next s
  | some .copying =>
    .next ((s.writeConfig fun c => { c with winBase := c.winBase + 1 }).modCsu fun u =>
      { (u.putWp (1536 + (b + 63) % 512) (u.wp.getLsbD (1536 + b % 512))).putWp (1536 + b % 512) false with slide := some .switched })
  | some .switched =>
    .next ((s.modCsu fun u => { u.eraseSector (1536 + (b + 511) % 512) with slide := none, winErases := u.winErases - 1024 }).heldWindow)

/-- After a loss of power (R445): the copy is erased before step 2, the old sector after it. -/
def Csu.slideAfterLoss (u : Csu) : Csu :=
  match u.slide with
  | none => u
  | some .copying => { u.eraseSector (1536 + (u.cfg.winBase + 63) % 512) with slide := none }
  | some .switched => { u.eraseSector (1536 + (u.cfg.winBase + 511) % 512) with slide := none, winErases := u.winErases - 1024 }

/-! ## Protection (R441) -/

/-- Bits 0 to 15 of CSU_WP, never cleared by a write. -/
def wpLoader : BitVec 2048 := 0xFFFF

/-- A pair writes word `n` of CSU_WP (R441). -/
def State.writeWp (cluster : Cluster) (pair n : Nat) (value : Word) (s : State) : State :=
  let word : BitVec 2048 := BitVec.ofNat 2048 ((2 ^ 32 - 1) * 2 ^ (32 * n))
  let v : BitVec 2048 := BitVec.ofNat 2048 (value.toNat * 2 ^ (32 * n))
  s.modCsu fun u => { u with
    wp := if (u.loader cluster pair).mode then (u.wp &&& ~~~word) ||| v ||| (u.wp &&& word &&& wpLoader) else u.wp ||| v }

/-- WP_WRITE (R441): ones set; zeros clear in loader mode, but for sectors 0 to 15. -/
def execWpWrite (cluster : Cluster) (pair n : Nat) (value : Word) (s : State) : Out := .next (s.writeWp cluster pair n value)

/-- The loader sectors hold something (R441: they hold a loader). -/
def Csu.hasLoader (u : Csu) : Bool := u.flash.any fun c => decide (c.1 < 262144)

/-- CSU_WP as the boot ROM sets it at a start (R441). -/
def Csu.bootWp (u : Csu) (firstUsed : Nat) : BitVec 2048 :=
  let bank0 : Nat := u.cfg.wpMap.toNat % 2 ^ 512
  let win : Nat := (List.range 63).foldl (fun v l => if u.cfg.wpMap.getLsbD (512 + l) then v ||| 2 ^ windowSector u.cfg.winBase l else v) 0
  let reel : Nat := 2 ^ 16 * (2 ^ (firstUsed / 32) - 1)
  let takes : Nat := 2 ^ 512 * (2 ^ 1024 - 1)
  u.wp ||| BitVec.ofNat 2048 ((if u.hasLoader then 0xFFFF else 0) ||| bank0 ||| win ||| reel ||| takes)

/-! ## Resets -/

/-- Operations that an event of class 1 to 3 stops (R440); their ranges hold free values, sectors 48 to 55 keep the record before (R436). -/
def State.stopFlash (s : State) : State :=
  (s.csu.banks.foldl (fun s b => match b.2.op with
    | .program a _ => s.spoil a 256
    | .erase n => s.spoil (16384 * n) 16384) s).modCsu fun u =>
      { u with banks := [], portA := ⟨false, 0⟩, portB := ⟨false, 0⟩, loaders := [], suspTicks := 0, sealNext := none, winHeld := [] }

/-! ## Debug port (R442) -/

/-- A byte that the debug port reaches. -/
def State.debugRead (s : State) (sp : DebugSpace) (a : Nat) : Byte :=
  match sp with
  | .codeStore => Memory.read 0xFF s.csu.flash a
  | .tcm k p => Memory.read 0 s.ccl.tcm (1048576 * pairKey k p + a)
  | .stageSram => Memory.read 0 s.bpm.sram a
  | .dram => Memory.read 0 s.dmc.bytes a

/-- A byte written by the debug port; a write into a marked loader copy clears the mark (R440). -/
def State.debugWrite (sp : DebugSpace) (a : Nat) (b : Byte) (s : State) : State :=
  match sp with
  | .codeStore => s.modCsu fun u => { u with flash := Memory.write 0xFF u.flash a b }
  | .tcm k p =>
    let s := s.modCcl fun c => { c with tcm := Memory.write 0 c.tcm (1048576 * pairKey k p + a) b }
    if a < 0x40000 then s.modCsu fun u => { u with loaders := Tbl.adjust u.loaders (pairKey k p) fun l => { l with marked := false } } else s
  | .stageSram => s.modBpm fun m => { m with sram := Memory.write 0 m.sram a b }
  | .dram => s.modDmc fun m => { m with bytes := Memory.write 0 m.bytes a b }

/-- JTAG_DEBUG_ACCESS (R442): reads and writes in OPEN, reads under a session grant in SEALED, nothing otherwise. -/
def execJtagDebugAccess (sp : DebugSpace) (a : Nat) (wr : Option Byte) (s : State) : Out :=
  match wr with
  | some b => if s.csu.sealSt = 0 then .next (s.debugWrite sp a b) else .next s
  | none =>
    if s.csu.sealSt = 0 ∨ (s.csu.sealSt = 1 ∧ s.csu.session = true) then .next (s.emit (.jtagData (s.debugRead sp a))) else .next s

end Sys2Proof.Machine
end

