-- ==== Sys2Proof/Machine/Recorder.lean ====
section
/-! DEFINITION. Continuity Recorder Unit (spec/18): records as bytes, capture, staging, the reels, freeze, and the meanings of the recorder commands. -/

namespace Sys2Proof.Machine

/-! ## Records as bytes (Table 18.2) -/

/-- Bytes 0x00 to 0x37 of a slate. -/
def Record.slateBytes (r : Record) : List Byte :=
  leBytes 8 r.rseq ++ leBytes 1 r.trigger ++ leBytes 1 r.unit ++ leBytes 1 (bit01 r.first + 2 * bit01 r.fleetValid + 4 * bit01 r.gap)
    ++ leBytes 1 r.snaps.length ++ leBytes 4 r.cycles ++ leBytes 8 r.tick.toNat ++ leBytes 8 r.fleet.toNat ++ leBytes 8 r.pos
    ++ leBytes 4 r.epoch.toNat ++ leBytes 2 r.inst ++ leBytes 2 r.missed ++ leBytes 8 r.arg.toNat

/-- The 448 bytes after the slate: 56 snapshots, unused ones 0. -/
def Record.snapBytes (r : Record) : List Byte :=
  ((r.snaps.flatMap fun (e : Nat × Word) => leBytes 4 e.1 ++ leBytes 4 e.2.toNat) ++ List.replicate 448 0).take 448

/-- The 512 bytes of a record. -/
def Record.bytes (r : Record) : List Byte :=
  r.slateBytes ++ leBytes 4 (crc32c (r.slateBytes ++ r.snapBytes)) ++ leBytes 4 (r.rseq % 2 ^ 32) ++ r.snapBytes

/-- A slot that has never been written. -/
def blankRecord : List Byte := List.replicate 512 0

/-- A record being written over an old one (R492): HEAD in tick w, TAIL in tick w + 9, the rest by tick w + 8. -/
def tornBytes (old new : List Byte) (ticks : Nat) : List Byte :=
  if ticks < 8 then new.take 8 ++ old.drop 8 else new.take 60 ++ (old.drop 60).take 4 ++ new.drop 64

/-! ## Reels -/

/-- Slot of a record in the running reel (R489). -/
def runSlot (rseq : Nat) : Nat := rseq % 8192

/-- Flash address of a first reel slot: bank 0, sectors 16 to 47 (R490). -/
def firstAddr (slot : Nat) : Nat := 16 * 16384 + 512 * slot

/-- A running reel slot without the record being written: the staged record, else the NAND copy where it can be read (R489, R492). -/
def State.settledSlot (s : State) (slot : Nat) : List Byte :=
  match s.cru.staged.find? fun r => runSlot r.rseq == slot with
  | some r => r.bytes
  | none =>
    if s.cru.nandReady then
      match Tbl.find? s.cru.running slot with
      | some r => r.bytes
      | none => blankRecord
    else blankRecord

/-- The bytes of a slot of either reel at this tick (R492). -/
def State.reelSlot (s : State) (first : Bool) (slot : Nat) : List Byte :=
  if first then
    if slot < s.cru.firstUsed then Memory.readN 0xFF s.csu.flash (firstAddr slot) 512 else blankRecord
  else
    match s.cru.writing with
    | some (r, n) => if runSlot r.rseq = slot then tornBytes (s.settledSlot slot) r.bytes n else s.settledSlot slot
    | none => s.settledSlot slot

/-! ## Capture and staging -/

/-- A record stands whole in staging; with FIRST it also goes to the first reel (R490). -/
def State.stageRecord (r : Record) (s : State) : State :=
  let s := s.modCru fun c => { c with
    writing := none, staged := r :: c.staged, flushTick := if c.flushTick.isSome then c.flushTick else some s.now }
  if r.first && !s.cru.stagingOnly && decide (s.cru.firstUsed < 1024) then
    (s.modCsu fun u => { u with flash := Memory.writeAll 0xFF u.flash (firstAddr s.cru.firstUsed) r.bytes }).modCru fun c =>
      { c with firstUsed := c.firstUsed + 1 }
  else s

/-- The slate's values as they stand at the end of the trigger's tick (R486). -/
def State.slateEnd (s : State) (r : Record) : Record :=
  { r with fleetValid := s.fleetValid, cycles := s.obj Ob.POWER_CYCLES, fleet := s.tbu.fleet, pos := s.obj Ob.POWER_ON_SECONDS, epoch := s.ccl.epoch }

/-- At the end of a tick the slates of its triggers take their values (R486). -/
def State.slatesEnd (s : State) : State :=
  s.modCru fun c => { c with queue := c.queue.map fun q => if q.slate.tick = s.now then { q with slate := s.slateEnd q.slate } else q }

/-- One tick of the capture engine (R486, R492): the record being written advances; else the oldest trigger of an earlier tick reads one register of its list, or its record starts into staging. No record enters staging while frozen (R494). -/
def State.captureTick (peek : State → Nat → Word) (s : State) : State :=
  match s.cru.writing with
  | some (r, n) => if 8 ≤ n then s.stageRecord r else s.modCru fun c => { c with writing := some (r, n + 1) }
  | none =>
    match s.cru.queue with
    | [] => s
    | q :: qs =>
      if q.slate.tick = s.now then s
      else match q.todo with
      | a :: as => s.modCru fun c => { c with
          queue := { slate := { q.slate with snaps := q.slate.snaps ++ [(a, peek s a)] }, todo := as } :: qs }
      | [] => if s.frozenNow then s else s.modCru fun c => { c with queue := qs, writing := some (q.slate, 0) }

/-! ## Meanings -/

/-- A trigger that Table 18.1 names. -/
def triggerNamed (code : Nat) : Bool := decide (code ≤ 0x24) || (decide (0x38 ≤ code) && decide (code ≤ 0x3F))

/-- RECORDER_TRIGGER (R486): a trigger of Table 18.1. -/
def execRecorderTrigger (t : Trigger) (s : State) : Out :=
  if triggerNamed t.code then .next (s.trigger t.code t.unit t.inst t.arg) else .next s

/-- A trigger of drive firmware: 0x38 + CODE with the ARG that CRU_FW_ARG holds (R484). -/
def State.fwTrig (code : Nat) (s : State) : State :=
  (s.setFld Fld.CRU_FW_TRIG.CODE 0 code).trigger (0x38 + code) UnitNo.ccl (if s.ccl.owner = .a then 0 else 1) (BitVec.ofNat 64 (s.fld Fld.CRU_FW_ARG.ARG))

/-- FW_TRIGGER (R484): CRU_FW_TRIG.GO with CODE raises trigger 0x38 + CODE with CRU_FW_ARG. -/
def execFwTrigger (code : BitVec 3) (s : State) : Out := .next (s.fwTrig code.toNat)

/-- The page of 32 records that is written next: that of the oldest staged record (R489). -/
def Cru.flushPage (c : Cru) : Option Nat := c.staged.getLast?.map fun r => r.rseq / 32

/-- That page is due: its last record is staged, or RUN_FLUSH_MS has passed since the first was staged (R489). -/
def State.flushDue (s : State) (p : Nat) : Bool :=
  (s.cru.staged.any fun r => r.rseq == p * 32 + 31) || s.passedSome s.cru.flushTick (msTicks (s.obj Ob.RUN_FLUSH_MS))

/-- Write staged records to the running reel. -/
def Cru.flush (c : Cru) (rs : List Record) : Cru :=
  { c with running := rs.foldl (fun t r => Tbl.put t (runSlot r.rseq) r) c.running, staged := c.staged.filter fun r => !rs.contains r }

/-- REEL_PAGE_FLUSH (R489): not after a class 1 event (R491) nor while the reel cannot be written. -/
def execReelPageFlush (s : State) : Out :=
  match s.cru.flushPage with
  | some p =>
    if s.cru.nandReady && !s.cru.stagingOnly && s.flushDue p then
      .next (s.modCru fun c =>
        let c := c.flush (c.staged.reverse.filter fun r => r.rseq / 32 == p)
        { c with flushTick := if c.staged.isEmpty then none else some s.now })
    else .next s
  | none => .next s

/-- REEL_READ (R492): in Stair and Hall. -/
def execReelRead (first : Bool) (slot : Nat) (s : State) : Out :=
  if s.power.stage = .foyer then .next s else .next (s.emit (.reelData first slot (s.reelSlot first slot)))

/-- A write of FREEZE (R494): 1 begins a freeze and does not extend one, 0 ends it. -/
def State.setFreeze (on : Bool) (s : State) : State :=
  s.modCru fun c => { c with frozen := if on then (if s.frozenNow then c.frozen else some s.now) else none }

/-- FREEZE (R494): through CRU_CTL or 0x5C00.01. -/
def execFreeze (on : Bool) (s : State) : Out := .next ((s.sample 10).setFreeze on)

/-- FREEZE_EXPIRY (R494): 1,600,000,000 ticks after the write that began it, in which tick the row ends the freeze after the tick's triggers; from the next tick on nothing is frozen without the row too (`State.frozenNow`). -/
def execFreezeExpiry (s : State) : Out :=
  if s.passedSome s.cru.frozen 1600000000 then .next (s.modCru fun c => { c with frozen := none }) else .next s

/-- CRU_FREEZE_LEFT.MS. -/
def State.freezeLeft (s : State) : Nat :=
  match s.cru.frozen with
  | some t => (1600000000 - s.since t) / 800000
  | none => 0

/-! ## Resets and starts -/

/-- Event of class 1 to 3 (R494, Table 18.5): a freeze ends; from a class 1 event records go to staging only (R491). -/
def State.resetCru (class1 : Bool) (s : State) : State :=
  s.modCru fun c => { c with
    frozen := none, nandReady := false, hiLatch := 0, stagingOnly := c.stagingOnly || class1 }

/-- The highest RSEQ in either reel (R491): the first reel's HEADs are read from the code store. -/
def State.highestRseq (s : State) : Nat :=
  let run := s.cru.running.foldl (fun n e => max n e.2.rseq) 0
  (List.range s.cru.firstUsed).foldl (fun n i => max n (leNat (Memory.readN 0xFF s.csu.flash (firstAddr i) 8))) run

/-- At a start (R491): when staging was lost the next RSEQ is 257 above the highest found, and the first record carries GAP. -/
def State.startCru (s : State) : State :=
  if s.cru.lost then s.modCru fun c => { c with next := s.highestRseq + 257, gapFlag := true, lost := false, stagingOnly := false }
  else s.modCru fun c => { c with stagingOnly := false }

/-- Before Hall (R491): the running reel is readable and the staged records are written to it. -/
def State.hallCru (s : State) : State :=
  s.modCru fun c => { c.flush c.staged.reverse with nandReady := true, flushTick := none }

/-- VDD_AUX falls (R482, R491): staging is lost. -/
def State.loseStaging (s : State) : State :=
  s.modCru fun c => { c with queue := [], writing := none, staged := [], flushTick := none, lost := true }

end Sys2Proof.Machine
end

