-- ==== Sys2Proof/Machine/Takes.lean ====
section
/-! DEFINITION. The life of a take (spec/16, R446 to R457), firmware activation without reset (R122 to R124), the rescue tasks (R127 to R129), and the meanings of their commands. The grant, seal and confirm writes end in Management.lean with the Call Sheet's checks. -/

namespace Sys2Proof.Machine

/-! ## Takes (Table 16.6) -/

/-- A field of a take: offset, size. -/
def takeField (t : List Byte) (o n : Nat) : Nat := leNat ((t.drop o).take n)

def takeId (t : List Byte) : Nat := takeField t 0x08 8
def takeLength (t : List Byte) : Nat := takeField t 0x10 4
def takeFlags (t : List Byte) : Nat := takeField t 0x16 2
def takeSvn (t : List Byte) : Nat := takeField t 0x18 4
def takeScript (t : List Byte) : Nat := takeField t 0x1C 2

/-- A section lies within the limits of Table 16.6. -/
def sectionOk (t : List Byte) (i : Nat) : Bool :=
  let e := 0x100 + 16 * i
  decide (1 ≤ takeField t e 1) && decide (takeField t e 1 ≤ 3) && decide (0x200 ≤ takeField t (e + 8) 4)
    && decide (takeField t (e + 8) 4 + takeField t (e + 12) 4 ≤ takeLength t - 96)

/-- A public key's digest equals a fused digest that is not revoked (R447). -/
def Csu.keyFused (u : Csu) (key : List Byte) : Bool :=
  (List.range 4).any fun i => !u.revoked.getLsbD i && Config.keyFuse i == Config.sha384 key

/-- A take passes verification (R448). -/
def Csu.verifies (u : Csu) (t : List Byte) : Bool :=
  let n := takeLength t
  takeField t 0 4 == 0x4B549640 && takeField t 4 4 == 1 && n % 256 == 0 && decide (n ≤ 16777216) && decide (0x300 ≤ n) && decide (n ≤ t.length)
    && decide (1 ≤ takeField t 0x1E 2) && decide (takeField t 0x1E 2 ≤ 16) && (List.range (takeField t 0x1E 2)).all (sectionOk t)
    && decide (takeField t 0x14 1 ≤ 0x10) && decide (0x10 ≤ takeField t 0x15 1)
    && u.keyFused ((t.drop 0x20).take 97)
    && Config.ecdsaVerify (takeField t 0x20 97) (takeField t (n - 96) 96) (Config.sha384 (t.take (n - 96)))
    && decide (u.svn ≤ takeSvn t)

/-- The take in banks 1 and 2; nothing where the length field is above the 16 MiB that they hold. -/
def Csu.bankTake (u : Csu) : List Byte :=
  let n := leNat (Memory.readN 0xFF u.flash (16384 * 512 + 0x10) 4)
  if n ≤ 16777216 then Memory.readN 0xFF u.flash (16384 * 512) n else []

/-- The staged image (R450). -/
def Qen.stagedImage (q : Qen) : List Byte := Memory.readN 0 q.staging 0 q.stagingLen

/-- The archive copy that passes R448, copy 0 first. -/
def Csu.archive (u : Csu) : Option (List Byte) :=
  if u.verifies u.arch0 then some u.arch0 else if u.verifies u.arch1 then some u.arch1 else none

/-- A take becomes the running one. -/
def Csu.run (u : Csu) (t : List Byte) : Csu :=
  { u with runId := takeId t, runScript := takeScript t, runRaise := bitAt (takeFlags t) 1, runSvn := takeSvn t }

/-! ## Writing a take (R451) -/

/-- Step 2: a CONFIRMED running take that neither archive copy holds is archived twice. -/
def State.archiveRunning (s : State) : State :=
  if s.csu.cfg.takeState = 3 ∧ s.csu.cfg.archive0 ≠ s.csu.cfg.runningId ∧ s.csu.cfg.archive1 ≠ s.csu.cfg.runningId then
    (s.writeConfig fun c => { c with archive0 := c.runningId, archive1 := c.runningId }).modCsu fun u => { u with arch0 := u.bankTake, arch1 := u.bankTake }
  else s

/-- Step 4: banks 1 and 2 are erased and programmed; a loader section goes to sectors 0 to 15 only when they are blank (R448). -/
def Csu.programBanks (u : Csu) (t : List Byte) : Csu :=
  let u := { u with
    erases := (List.range 1024).foldl (fun e i => Tbl.put e (512 + i) (min 131071 (Tbl.getD e (512 + i) 0 + 1))) u.erases
    flash := Memory.writeAll 0xFF (Memory.clearRange u.flash (16384 * 512) (16384 * 1024)) (16384 * 512) t }
  if bitAt (takeFlags t) 0 && !u.hasLoader then
    (List.range (takeField t 0x1E 2)).foldl (fun u i =>
      let e := 0x100 + 16 * i
      if takeField t e 1 = 3 then { u with
        flash := Memory.writeAll 0xFF u.flash 0 (((t.drop (takeField t (e + 8) 4)).take (takeField t (e + 12) 4)).take 262144) }
      else u) u
  else u

/-- Steps 3 to 6: EMPTY, the banks, the new RUNNING_ID and the state; CSU_WP of banks 1 and 2 is set again. -/
def State.writeBanks (t : List Byte) (st : Nat) (s : State) : State :=
  let s := (s.setTake 0 0).modCsu fun u => u.programBanks t
  let s := (s.writeConfig fun c => { c with runningId := takeId t }).setTake st 0
  s.modCsu fun u => { u with wp := u.wp ||| BitVec.ofNat 2048 (2 ^ 512 * (2 ^ 1024 - 1)) }

/-- A verified image is written as STAGED (R451). -/
def State.writeTake (t : List Byte) (s : State) : State := s.archiveRunning.writeBanks t 1

/-- A program, an erase or the comparison fails (R451 steps 4 and 5, Table 4.10): EMPTY, and the banks hold no take. DESIGN CHOICE (notes/assumptions/51.md): they read as erased. -/
def State.writeFailed (s : State) : State :=
  (s.setTake 0 0).modCsu fun u => { u with flash := Memory.clearRange u.flash (16384 * 512) (16384 * 1024) }

/-- A fallback (R452, R457): counted, recorded with its health event. -/
def State.countFallback (s : State) : State :=
  ((s.setObj Ob.FALLBACK_COUNT (min 0xFFFFFFFF (s.obj Ob.FALLBACK_COUNT + 1))).trigger 0x1D UnitNo.csu 0 (BitVec.ofNat 64 s.csu.runId)).health
    Health.firmware UnitNo.csu

/-! ## The choice of the take (R452) -/

/-- A start that runs a STAGED take clears ACT_DEADLINE and sets ACT_RESULT = 3. -/
def State.stagedStart (s : State) : State := (s.setObj Ob.ACT_DEADLINE 0).setObj Ob.ACT_RESULT 3

/-- Case 4: an archive copy goes to banks 1 and 2 as CONFIRMED and runs; without one R47 holds the controller in Stair (case 5). -/
def State.chooseArchive (s : State) : State :=
  let back := s.csu.cfg.takeState == 2 || s.csu.cfg.takeState == 4
  let s := if s.csu.cfg.takeState = 2 then s.setTake 4 s.csu.cfg.trials else s
  match s.csu.archive with
  | some t =>
    let s := (s.writeBanks t 3).modCsu fun u => u.run t
    if back then s.countFallback else s
  | none => s.modPower fun p => { p with startKind := .held }

/-- R452: the first case that matches. -/
def State.chooseTake (s : State) : State :=
  let t := s.csu.bankTake
  let ok := s.csu.verifies t
  let go := fun (s : State) => s.modCsu fun u => u.run t
  if s.csu.cfg.takeState = 3 ∧ ok = true then go s
  else if s.csu.cfg.takeState = 1 ∧ ok = true then go (s.setTake 2 1).stagedStart
  else if s.csu.cfg.takeState = 2 ∧ ok = true ∧ s.csu.cfg.trials < s.obj Ob.PENDING_TRIALS then go (s.setTake 2 (s.csu.cfg.trials + 1))
  else s.chooseArchive

/-- Bound of Table 2.2 on the entry to Hall, in ms, for the kind of start. -/
def State.hallBoundMs (s : State) : Nat :=
  match s.power.startKind with
  | .dumpReplay => 6000
  | .fullScan => if s.mxe.scanMode = 1 then 60000 else min 1800000 (1800000 * s.rawBytes / (512 * 2 ^ 40))
  | .undecided | .clean | .blank | .held => 1500

/-- PENDING_TAKE_LIMIT (R453): 60 s and the bound on entry to Hall, counted from the boot ROM start; REJECTED, and R452 again. -/
def execPendingTakeLimit (s : State) : Out :=
  if s.csu.cfg.takeState = 2 ∧ s.power.stage = .stair ∧ s.passedSome s.power.bootTick (secTicks 60 + msTicks s.hallBoundMs) = true then
    .next (s.setTake 4 s.csu.cfg.trials).chooseTake
  else .next s

/-! ## Activation without reset (R122 to R124) -/

/-- Every controller's CSTS.PP. -/
def Qen.setPp (q : Qen) (on : Bool) : Qen := { q with ctrls := q.ctrls.map fun e => (e.1, { e.2 with pp := on }) }

/-- Firmware Activation Starting: type Notice; bit 9 of the Asynchronous Event Configuration enables it. -/
def State.activationNotice (s : State) : State :=
  (s.qen.ctrls.filter fun k => k.2.en && k.2.aenCfg.getLsbD 9).foldl (fun s k => s.asyncEvent k.1 ⟨2, 1, 3⟩) s

/-- The activation tick (R122). -/
def State.beginActivation (c : Option Nat) (s : State) : State :=
  (s.modQen fun q => { q.setPp true with act := .draining, actTick := some s.now, actCtx := c }).activationNotice

/-- FIRMWARE_ACTIVATION (R122): a STAGED take whose SCRIPT_VER is the running take's. -/
def execFirmwareActivation (s : State) : Out :=
  if s.power.stage = .hall ∧ s.qen.act = .none ∧ s.csu.cfg.takeState = 1 ∧ takeScript s.csu.bankTake = s.csu.runScript then
    .next (s.beginActivation none)
  else .next s

/-- ACTIVATION_DRAIN_DONE (R123): fetched commands have posted; the cut to the new take begins, by a stand-in where there is one. -/
def execActivationDrainDone (s : State) : Out :=
  if s.qen.act = .draining ∧ (s.qen.ctxs.all fun e => e.2.idle || s.qen.actCtx == some e.1) = true ∧ s.gapped = false then
    let s := s.modQen fun q => { q with act := .cut }
    .next (if s.standbyReady then s.modCcl fun c => { c with planned := some .activation } else s.beginCut .activation)
  else .next s

/-- ACT_DEADLINE (R454): fleet time reaches the deadline. -/
def execActDeadline (s : State) : Out :=
  let d := s.obj Ob.ACT_DEADLINE
  if d ≠ 0 ∧ d ≤ s.tbu.fleet.toNat ∧ s.power.stage = .hall then
    let s' := s.setObj Ob.ACT_DEADLINE 0
    if s.csu.cfg.takeState ≠ 1 then .next (s'.setObj Ob.ACT_RESULT 2)
    else if takeScript s.csu.bankTake ≠ s.csu.runScript then .next (s'.setObj Ob.ACT_RESULT 4)
    else .next (if s.qen.act = .none then (s'.setObj Ob.ACT_RESULT 1).beginActivation none else s'.setObj Ob.ACT_RESULT 1)
  else .next s

/-- The new take runs after an activation cut (R123): PENDING; the Firmware Commit ends, or the window starts (R124, R455). -/
def State.activationEnd (s : State) : State :=
  let s := ((s.setTake 2 1).modCsu fun u => u.run u.bankTake).modQen fun q => { q.setPp false with act := .none, actTick := none }
  match s.qen.actCtx with
  | some c => s.finish c 0
  | none => s.modCsu fun u => { u with window := some s.now }

/-- The archived take runs after a fallback (R457 step 4): CSTS.PP clears and fetching resumes; the banks are written next. -/
def State.fallbackEnd (s : State) : State :=
  let s := s.modCsu fun u => (match u.archive with | some t => u.run t | none => u)
  (s.modCsu fun u => { u with fallback := some .writing }).modQen fun q => { q.setPp false with fetchStop := false }

/-- R457 step 5: the archive goes to banks 1 and 2; CONFIRMED. -/
def State.fallbackWrite (s : State) : State :=
  if s.csu.fallback = some .writing then
    (match s.csu.archive with | some t => s.writeBanks t 3 | none => s).modCsu fun u => { u with fallback := none }
  else s

/-- EPOCH_TAKE (R424): the stand-in takes the next epoch; an activation or a fallback goes on with its take. -/
def execEpochTake (s : State) : Out :=
  match s.ccl.gap, s.taker with
  | some g, some k =>
    let s := s.takeEpoch k g
    match g.cause with
    | .activation => .next s.activationEnd
    | .fallback => .next s.fallbackEnd
    | .lockstep | .memory | .selftest | .watchdog | .planned => .next s
  | _, _ => .next s

/-! ## The confirmation window (R455, R457) -/

/-- A write of HEALTH_CONFIRM to a PENDING take (R455): whether the value is taken. -/
def State.confirmOk (s : State) (v : Word) : Bool := s.csu.cfg.takeState != 2 || v.toNat == s.csu.runId % 2 ^ 32

/-- Its effect: CONFIRMED, and the fused SVN rises when the take asks for it. -/
def State.confirm (s : State) : State :=
  if s.csu.cfg.takeState = 2 then
    (s.setTake 3 0).modCsu fun u => { u with window := none, svn := if u.runRaise then max u.svn u.runSvn else u.svn }
  else s

/-- CONFIRM_WINDOW_EXPIRY (R457 step 1): REJECTED; fetching stops and CSTS.PP sets. Without an archive the running take is CONFIRMED. -/
def execConfirmWindowExpiry (s : State) : Out :=
  if s.csu.cfg.takeState = 2 ∧ s.power.stage = .hall ∧ s.passedSome s.csu.window (secTicks (s.obj Ob.CONFIRM_S)) = true then
    if s.csu.archive.isSome then
      .next (((s.setTake 4 s.csu.cfg.trials).countFallback.modCsu fun u => { u with window := none, fallback := some .draining }).modQen fun q =>
        { q.setPp true with fetchStop := true })
    else .next (((s.setTake 3 0).modCsu fun u => { u with window := none }).health Health.archiveLost UnitNo.csu)
  else .next s

/-- FALLBACK_REBOOT (R457 steps 2 and 3): fetched commands have posted; both clusters restart with the link, the units and the map kept. -/
def execFallbackReboot (s : State) : Out :=
  if s.csu.fallback = some .draining ∧ (s.qen.ctxs.all fun e => e.2.idle) = true ∧ s.gapped = false then
    let s := (s.beginCut .fallback).modCsu fun u => { u with fallback := some .restarting }
    .next (s.modCcl fun c => { c with
      gap := c.gap.map fun g => { g with solo := true }, fence := none, stA := .reset, stB := .reset, leave := [.a, .b]
      epoch := c.epoch })
  else .next s

/-! ## Firmware commands (R450, Table 16.7) -/

def stFwSlot := 0x106
def stFwImage := 0x107
def stFwReset := 0x10B
def stFwProhibited := 0x113

/-- FIRMWARE_IMAGE_DOWNLOAD (R450): data into the staging area; the 4 KiB granularity and the 16 MiB of the area bind offset and length. -/
def execFirmwareImageDownload (c : Nat) (bytes : List Byte) (s : State) : Out :=
  s.admin c 0x11 true (fun x s =>
    let n := (x.sqe.cdw10.toNat + 1) * 4
    let o := x.sqe.cdw11.toNat * 4
    if n % 4096 ≠ 0 ∨ o % 4096 ≠ 0 ∨ 16777216 < o + n then s.finish c stInvalidField
    else (s.modQen fun q => { q with staging := Memory.writeAll 0 q.staging o (bytes.take n), stagingLen := max q.stagingLen (o + n) }).finish c 0)

/-- The slot of a Firmware Commit that an action may name: 0 to 2. -/
def fwSlot (x : Ctx) : Nat := cdwBits x.sqe.cdw10 2 0

/-- The image of a Firmware Commit: the staged one, or the archive's. -/
def State.fwImage (s : State) (x : Ctx) : Option (List Byte) :=
  if fwSlot x = 2 then s.csu.archive else if s.csu.verifies s.qen.stagedImage then some s.qen.stagedImage else none

/-- A commit that may not run now (Table 16.7). -/
def State.fwProhibited (s : State) : Bool := s.csu.cfg.takeState == 2 || s.csu.writing || s.csu.fallback.isSome || s.qen.act != .none

/-- The staged image is used up. -/
def Qen.dropStaged (q : Qen) : Qen := { q with staging := [], stagingLen := 0 }

/-- A Firmware Commit with its Commit Action. -/
def State.fwCommit (c action : Nat) (f : Ctx → State → State) (s : State) : Out :=
  match s.adminCtx c 0x10 with
  | some x => if cdwBits x.sqe.cdw10 5 3 = action then s.admin c 0x10 true f else .next s
  | none => .next s

/-- A commit's write of a verified image (R451): where it fails, the command ends with Invalid Firmware Image. -/
def State.fwWrite (c : Nat) (storeOk : Bool) (t : List Byte) (f : State → State) (s : State) : State :=
  if storeOk then f (s.writeTake t) else s.archiveRunning.writeFailed.finish c stFwImage

/-- FIRMWARE_COMMIT_REPLACE (R451): action 001b. -/
def execFirmwareCommitReplace (run : CommitRun) (s : State) : Out :=
  s.fwCommit run.ctx 1 fun x s =>
    if 1 < fwSlot x then s.finish run.ctx stFwSlot
    else if s.fwProhibited then s.finish run.ctx stFwProhibited
    else match s.fwImage x with
      | some t => s.fwWrite run.ctx run.storeOk t (fun s => (s.modQen Qen.dropStaged).finish run.ctx 0)
      | none => s.finish run.ctx stFwImage

/-- FIRMWARE_COMMIT_NEXT_RESET (R450): action 010b; slot 2 writes the archive as STAGED. -/
def execFirmwareCommitNextReset (run : CommitRun) (s : State) : Out :=
  s.fwCommit run.ctx 2 fun x s =>
    if 2 < fwSlot x then s.finish run.ctx stFwSlot
    else if s.fwProhibited then s.finish run.ctx stFwProhibited
    else if fwSlot x = 2 then
      match s.fwImage x with
      | some t => s.fwWrite run.ctx run.storeOk t (fun s => s.finish run.ctx 0)
      | none => s.finish run.ctx stFwImage
    else if s.csu.cfg.takeState = 1 ∨ s.csu.cfg.takeState = 3 then s.finish run.ctx 0 else s.finish run.ctx stFwImage

/-- Activation by a Firmware Commit: the command waits for it (R124). -/
def State.commitActivate (c : Nat) (s : State) : State := (s.modCtx c fun x => { x with accepted := true }).beginActivation (some c)

/-- FIRMWARE_COMMIT_ACTIVATE (R124): action 011b; the image is written when one is staged, then the take in the banks is activated. With another SCRIPT_VER nothing is written. -/
def execFirmwareCommitActivate (run : CommitRun) (s : State) : Out :=
  s.fwCommit run.ctx 3 fun x s =>
    if 2 < fwSlot x then s.finish run.ctx stFwSlot
    else if s.fwProhibited then s.finish run.ctx stFwProhibited
    else if fwSlot x ≠ 2 ∧ s.qen.stagingLen = 0 ∧ s.csu.cfg.takeState = 1 then
      if takeScript s.csu.bankTake = s.csu.runScript then s.commitActivate run.ctx else s.finish run.ctx stFwReset
    else match s.fwImage x with
      | some t =>
        if takeScript t = s.csu.runScript then s.fwWrite run.ctx run.storeOk t (fun s => (s.modQen fun q => if fwSlot x = 2 then q else q.dropStaged).commitActivate run.ctx)
        else s.finish run.ctx stFwReset
      | none => s.finish run.ctx stFwImage

/-! ## Rescue tasks (R127 to R129) -/

/-- Task codes of Table 4.9. -/
def taskCode : RescueTask → Nat
  | .ident => 1
  | .load => 2
  | .commit => 3
  | .restore => 4
  | .restart => 5

/-- Results of Table 4.10. -/
def rscOk := 0x00
def rscBadTask := 0x01
def rscBadArg := 0x02
def rscSigFail := 0x03
def rscNotInStage := 0x04
def rscStoreFail := 0x05
def rscProtected := 0x06

/-- The task is refused as it starts: outside Stair (R127), or under a WELDED seal (R442). -/
def State.taskRefusal (s : State) (t : RescueTask) : Option Nat :=
  if t = .ident then none
  else if s.power.stage ≠ .stair then some rscNotInStage
  else if s.csu.sealSt = 2 ∧ t ≠ .restart then some rscProtected
  else none

/-- A write of QEN_RSC_CTL with GO = 1 (R128): ignored while BUSY; a task other than IDENT that is accepted opens a session (R129). DESIGN CHOICE (notes/assumptions/50.md): before Hall, while OPEN = 0, it is ignored without a status. -/
def State.rescueGo (t : RescueTask) (seq : BitVec 8) (s : State) : State :=
  if s.qen.rescue.busy ∨ (s.qen.rescue.open_ = false ∧ s.power.stage ≠ .hall) then s
  else
    let s := (((s.sample 9).setFld Fld.QEN_RSC_CTL.TASK 0 (taskCode t)).setFld Fld.QEN_RSC_CTL.SEQ 0 seq.toNat).modQen fun q =>
      { q with rescue := { q.rescue with busy := true, seq := seq, task := some t } }
    if t = .ident ∨ (s.taskRefusal t).isSome then s
    else
      let s := if s.qen.rescue.session then s else s.trigger 0x08 UnitNo.qen 0 0
      (s.modQen fun q => { q with rescue := { q.rescue with session := true } }).modPower fun p => { p with startKind := .held }

/-- RESCUE_IDENT (R128). -/
def execRescueIdent (seq : BitVec 8) (s : State) : Out := .next (s.rescueGo .ident seq)

/-- RESCUE_LOAD (R128). -/
def execRescueLoad (seq : BitVec 8) (s : State) : Out := .next (s.rescueGo .load seq)

/-- RESCUE_COMMIT (R128). -/
def execRescueCommit (seq : BitVec 8) (s : State) : Out := .next (s.rescueGo .commit seq)

/-- RESCUE_RESTORE (R128). -/
def execRescueRestore (seq : BitVec 8) (s : State) : Out := .next (s.rescueGo .restore seq)

/-- RESCUE_RESTART (R128). -/
def execRescueRestart (seq : BitVec 8) (s : State) : Out := .next (s.rescueGo .restart seq)

/-- STAGE and START_KIND codes of Table 2.3. -/
def stageCode : Stage → Nat
  | .foyer => 0
  | .stair => 1
  | .hall => 2

def kindOfStart : StartKind → Nat
  | .undecided => 0
  | .clean => 1
  | .dumpReplay => 2
  | .fullScan => 3
  | .blank => 4
  | .held => 5

/-- A rescue task ends with a result and outputs. -/
def State.taskEnd (res : Nat) (o0 o1 : Nat) (s : State) : State :=
  s.modQen fun q => { q with rescue := { q.rescue with busy := false, task := none, result := res, out0 := BitVec.ofNat 32 o0, out1 := BitVec.ofNat 32 o1 } }

/-- The outputs of IDENT (Table 4.9). -/
def State.identOuts (s : State) : Nat × Nat :=
  (stageCode s.power.stage + 4 * kindOfStart s.power.startKind,
    bit01 (s.csu.verifies s.csu.bankTake) + 2 * bit01 (s.csu.verifies s.csu.arch0) + 4 * bit01 (s.csu.verifies s.csu.arch1))

/-- An archive copy by number. -/
def Csu.archCopy (u : Csu) (n : Nat) : List Byte := if n = 0 then u.arch0 else u.arch1

/-- RESCUE_TASK_END (R128): the running task's effect and RESULT; `storeOk`: no code store program or erase failed. DESIGN CHOICE (notes/assumptions/50.md): OUT0 of COMMIT, the signature check result, is 1 where the check fails and 0 otherwise. -/
def execRescueTaskEnd (storeOk : Bool) (s : State) : Out :=
  let a0 := s.fld Fld.QEN_RSC_ARG0.VALUE
  let a1 := s.fld Fld.QEN_RSC_ARG1.VALUE
  match s.qen.rescue.task with
  | none => .next s
  | some t =>
    match s.taskRefusal t with
    | some e => .next (s.taskEnd e 0 0)
    | none =>
      match t with
      | .ident => .next (s.taskEnd rscOk s.identOuts.1 s.identOuts.2)
      | .load =>
        if a0 % 65536 ≠ 0 ∨ 16777216 ≤ a0 ∨ a1 = 0 ∨ 65536 < a1 then .next (s.taskEnd rscBadArg 0 0)
        else .next ((s.modQen fun q => { q with
          staging := Memory.writeAll 0 q.staging a0 (Memory.readN 0 q.rescue.window 0 a1), stagingLen := max q.stagingLen (a0 + a1) }).taskEnd rscOk 0 0)
      | .commit =>
        if a0 = 0 ∨ 16777216 < a0 then .next (s.taskEnd rscBadArg 0 0)
        else
          let img := Memory.readN 0 s.qen.staging 0 a0
          if !s.csu.verifies img then .next (s.taskEnd rscSigFail 1 0)
          else if !storeOk then .next (s.writeFailed.taskEnd rscStoreFail 0 0)
          else .next (((s.writeTake img).modQen Qen.dropStaged).taskEnd rscOk 0 0)
      | .restore =>
        if 1 < a0 then .next (s.taskEnd rscBadArg 0 0)
        else if !s.csu.verifies (s.csu.archCopy a0) then .next (s.taskEnd rscSigFail 0 0)
        else if !storeOk then .next (s.writeFailed.taskEnd rscStoreFail 0 0)
        else .next ((s.writeBanks (s.csu.archCopy a0) 3).taskEnd rscOk 0 0)
      | .restart =>
        .next (((s.modQen fun q => { q with rescue := { q.rescue with session := false } }).modPower fun p =>
          { p with startKind := .undecided, mapRestored := false }).taskEnd rscOk 0 0)

/-! ## Grants and the seal (R442, R443) -/

/-- A field of a grant record. -/
def grantField (g : GrantBytes) (o n : Nat) : Nat := bitsOf g.toNat (8 * (o + n) - 1) (8 * o)

/-- A grant of a kind that the controller accepts (R443). -/
def State.grantOk (s : State) (g : GrantBytes) (kind : Nat) : Bool :=
  s.csu.sealSt == 1 && grantField g 0 4 == 0x53459640 && grantField g 4 1 == kind && grantField g 0x08 32 == s.csu.challenge
    && grantField g 0x28 20 == s.obj Ob.SERIAL && s.csu.keyFused (leBytes 97 (grantField g 0x40 97))
    && Config.ecdsaVerify (grantField g 0x40 97) (grantField g 0xC0 96) (Config.sha384 (leBytes 192 (grantField g 0 192)))
    && (kind == 1 || decide (s.csu.kekGen < 8))

/-- The challenge is drawn anew (R443): a free value of 32 bytes. -/
def State.drawChallenge (s : State) : State :=
  let v := s.fresh % 2 ^ 256
  s.drawn.modCsu fun u => { u with challenge := v }

/-- A downgrade (R443): takes and archive go, the KEK generation rises, the seal is OPEN; the controller is in Stair, held. -/
def State.downgrade (s : State) : State :=
  let s := s.modCsu fun u => { u with
    flash := Memory.clearRange u.flash (16384 * 512) (16384 * 1536)
    erases := (List.range 1536).foldl (fun e i => Tbl.put e (512 + i) (min 131071 (Tbl.getD e (512 + i) 0 + 1))) u.erases
    arch0 := [], arch1 := [], kekGen := u.kekGen + 1, sealSt := 0 }
  let s := s.writeConfig fun c => { c with sealSt := 0, takeState := 0, archive0 := 0, archive1 := 0 }
  let s := s.trigger 0x1C UnitNo.csu 0 (BitVec.ofNat 64 s.csu.runId)
  let s := if s.power.stage = .stair then s else s.trigger 0x24 UnitNo.mgp 0 0
  (s.modPower fun p => { p with stage := .stair, startKind := .held }).modQen fun q => { q with rescue := { q.rescue with open_ := true } }

/-- A write of SEAL_STATE that R442 allows. -/
def State.sealOk (s : State) (v : Nat) : Bool := (v == 1 && s.csu.sealSt == 0) || (v == 2 && decide (s.csu.sealSt ≤ 1))

/-- The seal change of the tick before takes effect (R442). -/
def State.sealApply (s : State) : State :=
  match s.csu.sealNext with
  | some v =>
    let s := s.modCsu fun u => { u with sealSt := v, sealNext := none }
    if v = 1 then s.writeConfig fun c => { c with sealSt := 1 } else s
  | none => s

end Sys2Proof.Machine
end

