-- ==== Sys2Proof/Machine/ResetOps.lean ====
section
/-! DEFINITION. What resets of class 1 to 3 do to every unit (R53, Tables 2.5 and 2.6), the end of the NAND work that such a reset leaves running (R38, R56, R266), and stage changes (R52). -/

namespace Sys2Proof.Machine

/-- A stage change (R52): recorded (Table 18.1). -/
def State.setStage (st : Stage) (s : State) : State := (s.modPower fun p => { p with stage := st }).trigger 0x24 UnitNo.mgp 0 0

/-! ## Units -/

/-- Device-wide and per-slice VOLATILE objects hold their defaults again (Table 2.6). -/
def State.dropVolatile (s : State) : State :=
  let vol := fun (k : Nat) => (objAt (k / 256) (k % 256)).any fun o => o.pers == .volatile
  { s with sheet := s.sheet.filter (fun e => !vol e.1), sheetOld := s.sheetOld.filter fun e => !vol e.1 }

/-- Registers of a unit hold their reset values, but for RWS fields (Table 0.1). -/
def State.resetUnitRegs (s : State) (unit : Nat) : State :=
  s.modRegf fun r => r.resetUnit unit ((fieldsOfUnit unit).filter fun f => f.acc == .rws)

/-- Units whose registers every event of class 1 to 3 resets; the HUM's follow the end of a dump (Table 12.6), the TBU's a power-up only. -/
def resetUnits : List Nat := [1, 2, 3, 4, 5, 6, 7, 8, 9, 10, 11, 12, 13, 15, 16]

/-- Volatile write state whose contexts are gone: the writes go on without them (Table 2.6); copies are made again later. -/
def Mxe.orphaned (m : Mxe) : Mxe :=
  let host := fun (x : PlaceSlot) => match x.src with | .host _ => true | .copy _ | .system _ | .pad => false
  { m with
    writes := m.writes.map fun w => (w.1, { w.2 with ctx := none, posted := true })
    inflight := m.inflight.map fun f => { f with ctx := 16384 }
    place := (m.place.filter host).map fun x => { x with src := .host 16384 }
    jobs := m.jobs.filter fun j => j.2.done
    bands := m.bands.map fun b => (b.1, { b.2 with state := if b.2.state = .victim then .closed else b.2.state, wanted := false })
    strict := true, folding := false, scanRun := false, scanTrim := false, scanMode := 0, scanPasses := 0, scanPass := 0, scanPct := 0, dsnHi := 0, psnHi := 0 }

/-- Slots that running programs carry, with their contexts gone. -/
def DieOp.orphaned (o : DieOp) : DieOp :=
  { o with slots := o.slots.map fun x => match x.src with | .host _ => { x with src := .host 16384 } | .copy _ | .system _ | .pad => x }

/-- The scheduler's own state at a reset: running operations go on, queued ones stay only for the work of R38. -/
def Dsc.atReset (d : Dsc) (work : Bool) : Dsc :=
  let runs := fun (i : Nat) (o : DieOp) => (d.die o.req.die).active == some i || (d.die o.req.die).held == some i
  let stays := fun (e : Nat × DieOp) => runs e.1 e.2 || (work && isProgram e.2.req.kind)
  let ops := d.ops.filter stays
  let here := fun (i : Nat) => Tbl.has ops i
  { d with
    ops := ops.map fun e => (e.1, e.2.orphaned)
    dies := d.dies.map fun x => (x.1, { x.2 with queue := x.2.queue.filter here, arriving := x.2.arriving.filter here })
    budget := 0, sensors := [], tj := 0, step := 0, decided := none, belowSince := none, stepCount1 := 0, stepCount2 := 0, stepTime1 := 0, stepTime2 := 0, chBytes := 0, credit := [] }

/-- Reads already running for a reader that is gone deliver to none. -/
def Cdx.atReset (c : Cdx) (work : Bool) : Cdx :=
  { c with
    keyBuf := 0, keyShown := false, keyRun := none, keyResult := .ok, corr := [], lunSet := [], visited := [], winOpen := [], winNext := [], winClosed := false, keyPrev := [], scrubFree := 0
    hostReads := [], poisonTry := [], frames := if work then c.frames else [], climb := if work then c.climb else [] }

/-- DRAM requests end at a reset. -/
def Dmc.atReset (m : Dmc) : Dmc :=
  { m with queue := [], held := [], draining := [], hits := [], turn := [], openRows := [], hitBanks := [], lastUse := [], refAt := [], mr4At := none, panic := false, hot := false, postponed := [], dqAdjust := [], oscRead := [],
           rows := [], alerts := [], retrained := [], retry := [], srDue := false, powerDown := [] }

/-- The rebuild's progress at a reset; the failed set stays (R332). -/
def Spe.atReset (p : Spe) : Spe :=
  { p with rbActive := false, rbResume := p.rbActive || p.rbResume, rbRaised := false, rbDone := [], rbDue := none, rbFree := 0 }

/-- Slices keep their removed die groups only (Table 2.6). -/
def Tnu.atReset (t : Tnu) : Tnu :=
  { Tnu.initial with
    slices := t.slices.filterMap fun e => if e.2.removed = 0 then none else some (e.1, { SliceSt.initial with removed := e.2.removed })
    commitBudget := t.commitBudget }

/-- Contexts, queues, controllers and features go (Table 2.6); the numbers of freed contexts count until the next tick (R16). -/
def Qen.atReset (q : Qen) : Qen :=
  { Qen.initial with fetches := q.fetches, freed := q.ctxs ++ q.freed }

/-- The link is down; AER and other sticky bits stay (Table 2.6). -/
def Hlu.atReset (h : Hlu) : Hlu := { Hlu.initial with aer := h.aer, correctable := h.correctable }

/-- STORED writes whose records have not reported, and accesses to drive firmware, end with NOT_IN_STAGE on their endpoints (R466, R468); writes that wait do too. -/
def State.sheetEnd (s : State) : State :=
  let s := s.mgp.storing.foldl (fun s w => if (viaPort w.via).isNone then s.emit (.response w.via w.eid w.tag tsNotInStage []) else s) s
  let s := s.mgp.fw.foldl (fun s a => if (viaPort a.via).isNone then s.emit (.response a.via a.eid a.tag tsNotInStage []) else s) s
  s.modMgp fun m => { m with gapWait := m.gapWait.map fun w =>
    if w.early = none ∧ (w.cmd = 2 ∨ fwAddress w.r.index = true) then { w with early := some tsNotInStage } else w }

/-- The management plane's transfers end; requests that wait on a sideband endpoint are still answered. -/
def Mgp.atReset (m : Mgp) : Mgp := { m with storing := [], fw := [], wrote := [], gapWait := m.gapWait.filter (fun w => (viaPort w.r.via).isNone), portBusy := [], portSeq := [], portStatus := [] }

/-- PTM is lost: fleet time runs free (R81, R474). -/
def State.ptmLost (s : State) : State :=
  (s.modHlu fun h => { h with ptmValid := false }).modTbu fun t => { t with
    fleetSrc := if t.fleetSrc = 2 then 1 else t.fleetSrc, slewLeft := 0, lastOffset := 0 }

/-- What the reset column of Table 2.6 does on every unit but the HUM (R53): Foyer; `work`: NAND programs for R38 go on. VDD_CORE is to be 0.72 V again (R513). -/
def State.unitsReset (class1 work : Bool) (s : State) : State :=
  let s := ((((s.squashWhere fun _ => true).clearBursts fun w => (winOf s.gal.active w).kind == .stage).ptmLost).resetClusters.stopFlash.dropVolatile).healthClear Health.thermal
  let s := resetUnits.foldl State.resetUnitRegs s
  let s := { s with
    hlu := s.hlu.atReset, qen := s.qen.atReset, tnu := s.tnu.atReset, gal := { Gal.initial with stageGib := s.gal.stageGib }
    mxe := { s.mxe.orphaned with mapKept := s.mxe.mapKept && !class1 }, dsc := s.dsc.atReset work, fca := { s.fca with chs := [], trainDue := [], verify := [], verifying := [] }, cdx := s.cdx.atReset work
    spe := s.spe.atReset, dmc := s.dmc.atReset, mgp := s.mgp.atReset, csu := { s.csu with window := none, fallback := none, writing := false }
    power := { s.power with
      stage := .foyer, startKind := .undecided, stageMs := 0, cfgReady := false, adminOpen := false, mapRestored := false, releaseTick := none
      bootTick := none, hallTick := none, avsPend := some 720 } }
  (s.resetCru class1).emit .electricalIdle

/-- An event of class n, 1 to 3. -/
def State.deviceReset (n : Nat) (work : Bool) (s : State) : State := (s.sample n).sheetEnd.unitsReset (n == 1) work

/-! ## The end of NAND work -/

/-- An operation of a die is running, a dump's included. -/
def State.opRuns (s : State) : Bool := s.dsc.dies.any fun d => d.2.active.isSome

/-- Pages of a program cut short: its wordline stays incomplete, and its units are missing from their stripes (R348, R364). -/
def State.cutProgram (o : DieOp) (s : State) : State :=
  match Tbl.find? s.mxe.bands o.band with
  | some b =>
    let s := s.modMxe fun m => { m with nand := o.pages.foldl (fun t p =>
      Tbl.put t (pageKey o.req.die p.1 p.2) { b.page o.psn o.stamp [] none with good := false }) m.nand }
    o.pages.foldl (fun s p =>
      let (row, pos) := s.rowPos b p.1 p.2
      let m := (o.req.die, s.fca.sbOf p.1)
      match s.spe.stripe? b.bsn row pos (s.stripeOf b row pos m) with
      | some x => (s.modSpe fun q => q.modStripe x fun y => { y with missing := y.missing ||| ordBit (y.units.idxOf m) }).stripeLogged
      | none => s) s
  | none => s

/-- A program or erase ends with INTERRUPTED (R364): no failure; an interrupted erase is to be made again. -/
def State.interruptOp (d i : Nat) (o : DieOp) (s : State) : State :=
  ((if isProgram o.req.kind then s.cutProgram o else s).dropOp d i).modDie d fun x => { x with state := if x.state = .offline then .offline else .idle }

/-- Every volatile part of writes, journals and stripes is gone. -/
def Mxe.forget (m : Mxe) : Mxe :=
  { m with place := [], locks := [], inflight := [], writes := [], deltas := [], jobs := [], jobBufs := [], committed := [], jbuf := [], jfirst := none, jpages := []
           frozen := false }

/-- The NAND work of a reset has ended (R38, R56, R266, R389): operations that never resume are cut short, the channels take the Foyer levels, DRAM its reset, the key slots are cleared and the pools rebuilt. -/
def State.mediaEnd (s : State) : State :=
  let s := (s.dsc.ops.filter fun e => (s.dsc.die e.2.req.die).held == some e.1).foldl (fun s e => s.interruptOp e.2.req.die e.1 e.2) s
  let s := { s with
    mxe := s.mxe.forget, dsc := { s.dsc with dies := [], ops := [], held := 0, stagger := none, dumpOnly := false }
    fca := { s.fca with initialised := false, dump := false, temps := [], tempHeld := [], staleHeld := [], windowSince := [], freshSince := [], xfers := [] }
    cdx := { s.cdx with keys := [], frames := [], raw := [], climb := [], lunSet := [] }
    spe := { s.spe with stripes := [], okA := false, okB := false, okS := false, remirror := false, pageFill := 0, pageTick := none }
    dmc := { s.dmc with trained := false, begun := false, chMask := 0, ranks := 0, dens32 := false, cidBits := 0, mts := 0, ret := [], selfRefresh := false, srDump := false }
    power := { s.power with mediaPend := false, shutWork := false } }
  s.rebuildPools false

/-- The work of R38 ends (R38, R49): both journals and the segments are on NAND, and no program runs; the marker is set. -/
def State.shutWorkEnd (s : State) : State :=
  if s.power.shutWork ∧ s.allOnNand = true ∧ s.dsc.ops.isEmpty = true then
    ((s.modSpe fun p => { p with nandA := p.stripes, nandB := p.stripes }).cleanEnd).mediaEnd
  else if s.power.mediaPend ∧ s.opRuns = false then s.mediaEnd
  else s

/-! ## Class 3 (R38, R89) -/

/-- PERST_N asserted, or the link lost (R38, R89): in Hall the writes past their sequence point, the map deltas and the stripe journal go to NAND; in Foyer and Stair running operations end and nothing is written. A running dump, or work that still runs, goes on (R367). -/
def State.classThree (s : State) : State :=
  let hall := s.power.stage == .hall
  let busy := s.hum.dump.isSome || s.power.shutWork || s.power.mediaPend
  let s := (s.deviceReset 3 (hall || s.power.shutWork)).trigger 0x02 UnitNo.hlu 0 0
  let s := if s.hum.dump.isSome then s else s.resetHum.resetUnitRegs UnitNo.hum
  if busy then s
  else if hall then s.modPower fun p => { p with shutWork := true }
  else s.modPower fun p => { p with mediaPend := true }

/-- Nothing holds a start (R56, R57): it counts from now, as from a release of PERST_N; CLOCK_MODE, SUBSYS_ID and VF_BAR2_LOG2 are read (R37, R40). -/
def State.release (s : State) : State :=
  if s.power.perst ∨ s.power.lossHeld = true ∨ s.power.tripHeld = true ∨ s.power.unpowered = true ∨ s.power.railsOut ≠ [] then s
  else s.modPower fun p => { p with
    releaseTick := some s.now, clockMode := s.obj Ob.CLOCK_MODE, subsysId := s.obj Ob.SUBSYS_ID, vfBar2 := s.obj Ob.VF_BAR2_LOG2 }

/-- The link is lost (R89): with PERST_N released, the start follows as after a release (notes/assumptions/35.md). -/
def State.linkLost (s : State) : State := (s.classThree.flag Fld.HLU_LINK_EVT.LINK_DOWN 0 1).release

end Sys2Proof.Machine
end

