-- ==== Sys2Proof/Machine/Sheet.lean ====
section
/-! DEFINITION. The Call Sheet (spec/17): which object lies at an address, the value a read returns, the range of a write and the rules of the owning units, the STORED image, and what a write does (notes/assumptions/30.md, 31.md). -/

namespace Sys2Proof.Machine

/-! ## Addresses (R459) -/

/-- The highest sub-index in use at an index; 0 when it holds nothing. -/
def highestSub (index : Nat) : Nat :=
  ((objsOfRange (index / 0x400)).filter fun o => o.idx ≤ index && index < o.idx + o.nidx).foldl (fun n o => max n (o.sub + o.nsub - 1)) 0

/-- Sub-index 0x00 of a RECORD or an array: a U8 giving the highest sub-index in use. -/
def highestObj (index n : Nat) : Obj :=
  { idx := index, nidx := 1, sub := 0, nsub := 1, ty := .u8, size := 1, acc := .ro, pers := .volatile, dflt := n, lo := 0, hi := 255
    foyer := index == 0x1000, staged := false }

/-- The staged view of a slice object at its sub-index plus 0x80 (R146): read only. -/
def stagedObj (index sub : Nat) : Option Obj :=
  if 0x8000 ≤ index ∧ 0x80 ≤ sub then
    (objAt index (sub - 0x80)).bind fun o => if o.staged then some { o with sub := o.sub + 0x80, acc := .ro } else none
  else none

/-- The object at an address, if any (R459, R146). -/
def resolve (index sub : Nat) : Option Obj :=
  match objAt index sub with
  | some o => some o
  | none => if sub = 0 then (if highestSub index = 0 then none else some (highestObj index (highestSub index))) else stagedObj index sub

/-! ## Values that live in the units -/

/-- Codes of Table 15.1. -/
def clusterCode : ClusterState → Nat
  | .reset => 0
  | .selftest => 1
  | .sync => 2
  | .standby => 3
  | .active => 4
  | .failed => 5

/-- Codes of Table 12.2. -/
def humCode : HumState → Nat
  | .init => 0
  | .charging => 1
  | .verified => 2
  | .degraded => 3
  | .absent => 4
  | .dump => 5

/-- A Lost Extent Log entry (Table 11.6). -/
def LostExtent.word (e : LostExtent) : Nat :=
  let v := e.first % 2 ^ 48 + 2 ^ 48 * (e.count % 2 ^ 32) + 2 ^ 80 * ((e.nsid - 1) % 1024) + 2 ^ 90 * (e.cause % 16) + 2 ^ 94 * bit01 e.coarse + 2 ^ 96 * (e.hours % 2 ^ 24)
  v + 2 ^ 120 * (Config.crc8 (leBytes 15 v)).toNat

/-- An event record (Table 17.6). -/
def EventRecord.word (r : EventRecord) : Nat := r.head.toNat + 2 ^ 64 * (r.time % 2 ^ 64)

/-- Four fused digests and the revocation mask (KEY_FUSES). -/
def Csu.keyFuses (u : Csu) : Nat :=
  (List.range 4).foldl (fun n i => n + Config.keyFuse i % 2 ^ 384 * 2 ^ (384 * i)) (2 ^ 1536 * u.revoked.toNat)

/-- QSTATE of the selected pair while its slice is quiesced (R154). -/
def State.qstateVal (s : State) : Nat :=
  let k := s.sheetVal Ob.QSTATE_SEL 0x2801 0
  match Tbl.find? s.qen.sqs k, Tbl.find? s.qen.cqs k with
  | some q, some c => if (s.tnu.slice q.slice).quiesced then q.head + 2 ^ 16 * q.tail + 2 ^ 32 * c.tail + 2 ^ 48 * bit01 c.phase else 0
  | _, _ => 0

/-- Share of host reads of the last 3,600 s that ended at L1 or L2, in ppm. -/
def State.l12Share (s : State) : Nat :=
  let rs := s.cdx.hostReads.filter fun e => !s.passed e.1 (secTicks 3600)
  if rs = [] then 0 else 1000000 * (rs.filter fun e => e.2).length / rs.length

/-- CLOSED bands by tread, tread 0 first. -/
def State.treadHist (s : State) : Nat :=
  (List.range 8).foldl (fun n t => n + (s.mxe.bands.filter fun b => b.2.state == .closed && b.2.tread == t).length * 2 ^ (32 * t)) 0

/-- Bands marked degraded (SPE_DEGRADED). -/
def State.degradedBands (s : State) : Nat := (s.mxe.bands.filter fun b => b.2.degraded).length

/-- Bytes that a STORED value takes in the log (R463). -/
def Obj.storeBytes (o : Obj) : Nat := 4 + (o.size + 3) / 4 * 4

/-- An object whose STORED value has a change record (R462). -/
def Obj.logged (o : Obj) : Bool := o.pers == .stored && o.acc != .ro

/-- The live image of the STORED values that differ from their defaults (R463). -/
def storeImage (t : List (Nat × Nat)) : Nat :=
  t.foldl (fun n e => match objAt (e.1 / 256) (e.1 % 256) with
    | some o => if o.logged then n + o.storeBytes else n
    | none => n) 0

/-- The value of an RO object that comes from a unit. -/
def State.liveVal (s : State) (index sub : Nat) : Option Nat :=
  match index, sub with
  | 0x1100, 0x01 => some (stageCode s.power.shown)
  | 0x1100, 0x02 => some (kindOfStart s.power.startKind)
  | 0x1100, 0x15 => some (storeImage s.sheet)
  | 0x2801, 0x01 => some s.qstateVal
  | 0x3000, 0x08 => some (s.dmc.capacity / 2 ^ 30)
  | 0x3000, 0x0A => some (ceilDiv s.mxe.mapBytes (2 ^ 20))
  | 0x3000, 0x10 => some s.mxe.availPct
  | 0x3000, 0x11 => some s.mxe.retiredCount
  | 0x3400, 0x30 => some s.dsc.budget
  | 0x3400, 0x31 => some s.dsc.step
  | 0x3C08, 0x02 => some s.l12Share
  | 0x3C08, 0x03 => some s.treadHist
  | 0x4000, 0x10 => some s.spe.lel.length
  | 0x4000, 0x12 => some (((s.spe.lel[s.sheetVal Ob.LEL_SEL 0x4000 0x11]?).map LostExtent.word).getD 0)
  | 0x4000, 0x13 => some s.degradedBands
  | 0x4400, 0x10 => some (s.bpm.descs.filter fun d => d.2.state == .retired).length
  | 0x4C00, 0x09 => some (clusterCode s.ccl.stA + 256 * clusterCode s.ccl.stB)
  | 0x5000, 0x01 => some s.csu.runId
  | 0x5000, 0x02 => some s.csu.cfg.takeState
  | 0x5000, 0x08 => some (s.csu.cfg.archive0 % 2 ^ 64 + 2 ^ 64 * (s.csu.cfg.archive1 % 2 ^ 64))
  | 0x5000, 0x09 => some s.csu.sealSt
  | 0x5000, 0x0B => some s.csu.svn
  | 0x5000, 0x0C => some s.csu.keyFuses
  | 0x5000, 0x0E => some s.csu.challenge
  | 0x5400, 0x13 => some (humCode s.hum.state)
  | 0x5800, 0x01 => some s.tbu.fleet.toNat
  | 0x5800, 0x03 => some s.tbu.fleetSrc
  | 0x5800, 0x07 => some (ofInt 64 s.tbu.lastOffset)
  | 0x5C00, 0x01 => some (bit01 s.frozenNow)
  | 0x5C00, 0x06 =>
    let sel := s.sheetVal Ob.REC_SEL 0x5C00 0x05
    some (leNat (s.reelSlot (bitAt sel 31) (bitsOf sel 12 0)))
  | 0x5C00, 0x07 => some s.cru.next
  | 0x5C00, 0x08 => some s.cru.firstUsed
  | 0x6000, 0x01 => some s.mgp.summary.toNat
  | 0x6000, 0x02 => some s.mgp.events.length
  | 0x6000, 0x04 => some (((s.mgp.events[s.sheetVal Ob.EVENT_SEL 0x6000 0x03]?).map EventRecord.word).getD 0)
  | 0x6000, 0x05 => some s.mgp.ewLife.toNat
  | _, _ => none

/-- A slice's values that TNU holds. -/
def State.sliceVal (s : State) (n sub : Nat) : Option Nat :=
  match sub with
  | 0x21 => some (s.tnu.slice n).commitSts
  | 0x22 => some (bit01 (s.tnu.slice n).quiesce + 2 * bit01 (s.tnu.slice n).quiesced)
  | 0x34 => some (s.tnu.slice n).dlogTail
  | _ => none

/-- What a Call Sheet read returns (R465): the value at the end of the tick. A WO object returns its default (R461). -/
def State.readObj (s : State) (o : Obj) (index sub : Nat) : Nat :=
  if o.acc = .wo then o.dflt
  else if o.sub = 0 ∧ o.idx = index ∧ objAt index sub = none then o.dflt
  else if 0x8000 ≤ index then
    if 0x80 ≤ sub then Tbl.getD (s.tnu.slice (index - 0x8000)).staged (sub - 0x80) (s.sheetVal o index (sub - 0x80))
    else (s.sliceVal (index - 0x8000) sub).getD (s.sheetVal o index sub)
  else if 0x2D00 ≤ index ∧ index < 0x2F00 then ((winOf s.gal.staging (index - 0x2D00)).get sub).toNat
  else (s.liveVal index sub).getD (s.sheetVal o index sub)

/-! ## Ranges (R461) -/

/-- The value in force of a plain object. -/
def State.val (s : State) (o : Obj) : Nat := s.sheetVal o o.idx o.sub

/-- The range of an object, with the bounds that other objects give (notes/assumptions/30.md). -/
def State.bounds (s : State) (o : Obj) (index sub : Nat) : Int × Int :=
  let up := fun (p : Obj) => (o.lo, (min o.hi (s.val p) : Int))
  if 0x8000 ≤ index then
    match sub with
    | 0x33 => (o.lo, 2 ^ s.sheetVal Ob.DLOG_SIZE_LOG2 index 0x31 - 1)
    | _ => (o.lo, o.hi)
  else
    match index, sub with
    | 0x2400, 0x11 => up Ob.PS_MAX_POWER_0
    | 0x2400, 0x12 => up Ob.PS_MAX_POWER_1
    | 0x2400, 0x13 => up Ob.PS_MAX_POWER_2
    | 0x2400, 0x14 => up Ob.PS_MAX_POWER_3
    | 0x2C00, 0x04 => (o.lo, (s.val Ob.PANIC_ON_PCT : Int) - 5)
    | 0x3400, 0x0E => up Ob.RSV_CTRL
    | 0x3400, 0x0F => up Ob.RSV_CTRL_PS1
    | 0x3400, 0x12 => (toInt 8 (s.val Ob.STEP1_C) + 4, o.hi)
    | 0x3400, 0x15 => up Ob.STEP1_PCT
    | 0x3400, 0x2B => up Ob.CH_CAP_PS1_GBPS
    | 0x3800, 0x07 => up Ob.VDDQ_GUARD_MV
    | 0x3C01, 0x06 => ((s.val Ob.SCRUB_AGE_BUCKET : Int), o.hi)
    | 0x4000, 0x08 => ((s.val Ob.REBUILD_MBPS : Int), o.hi)
    | 0x4000, 0x11 => (0, (s.spe.lel.length : Int) - 1)
    | 0x5400, 0x05 => ((s.val Ob.VMIN_MV : Int), o.hi)
    | 0x6000, 0x03 => (0, (s.mgp.events.length : Int) - 1)
    | _, _ => if 0x3C04 ≤ index ∧ index ≤ 0x3C07 ∧ sub = 4 then ((s.sheetVal Ob.SCRUB_WIN.LENGTH_S index 3 : Int), o.hi) else (o.lo, o.hi)

/-- A value read as its type says (Table 17.1). -/
def Obj.asInt (o : Obj) (v : Nat) : Int :=
  match o.ty with
  | .i8 | .i16 | .i32 | .i64 => toInt (8 * o.size) v
  | _ => v

/-- The value lies in the range of its type and object (Table 17.1). An F32 is neither negative (but for −0), infinite nor NaN, and at most the upper bound; positive floats are ordered as their encodings. -/
def State.inRange (s : State) (o : Obj) (index sub v : Nat) : Bool :=
  match o.ty with
  | .octets | .string => true
  | .bool => decide (v ≤ 1)
  | .f32 => decide ((v : Int) ≤ o.hi) || v == 0x80000000
  | _ => decide ((s.bounds o index sub).1 ≤ o.asInt v) && decide (o.asInt v ≤ (s.bounds o index sub).2)

/-- The bytes strictly rise, from 1 (TREAD_PCT). -/
def rising : List Byte → Bool
  | a :: b :: t => decide (a.toNat < b.toNat) && rising (b :: t)
  | _ => true

/-- The value of an object as a write would leave it. -/
def State.valIf (s : State) (index sub v : Nat) (o : Obj) : Nat := if o.idx = index ∧ o.sub = sub then v else s.val o

/-- R228: in PS0, with no thermal step, B still covers NAND_IDLE, URGENT_RSV and the largest cost. -/
def State.envelopeOk (s : State) (index sub v : Nat) : Bool :=
  let g := s.valIf index sub v
  let cost := [Ob.COST_READ_1P, Ob.COST_READ_MP, Ob.COST_SLC_PROG, Ob.COST_TLC_PROG, Ob.COST_QLC_PROG, Ob.COST_ERASE].foldl (fun n o => max n (g o)) 0
  decide (g Ob.RSV_CTRL + g Ob.RSV_DRAM + g Ob.RSV_MISC + g Ob.RSV_MARGIN + g Ob.NAND_IDLE + g Ob.URGENT_RSV + cost
    ≤ min (g Ob.ENVELOPE_TOKENS) (2 * g Ob.PS_MAX_POWER_0))

/-- R378: the pools fit stage SRAM, and each keeps its reservation plus 16, in Stair with the withheld buffers taken out. -/
def State.poolsOk (s : State) (index sub v : Nat) : Bool :=
  let g := s.valIf index sub v
  let counts := [Ob.POOL_COUNT_0, Ob.POOL_COUNT_1, Ob.POOL_COUNT_2, Ob.POOL_COUNT_3, Ob.POOL_COUNT_4].map g
  let at_ := fun (k : Nat) => counts.getD k 0
  let held := { s.bpm with pools := counts.map fun n => { count := n, ring := [], waiters := [], rsvFree := 0 } }
  decide ((List.range 5).foldl (fun n k => n + at_ k * poolSize k) 0 ≤ 64 * 2 ^ 20)
    && (List.range 5).all fun k => decide (at_ k ≤ 16384) && decide (s.rsvSize k + 16 ≤ at_ k - (if s.power.stage = .stair then held.withheldIn k else 0))

/-- The dies of the DIE_SET of the slice that owns a namespace hold a width (R350). -/
def State.widthOk (s : State) (nsid v : Nat) : Bool :=
  (s.mxe.ns? nsid).all fun n => !n.attached || decide (v ≤ s.diesIn (s.sliceObj Ob.DIE_SET n.slice))

/-- Steps and lists of values that an object takes, and the rules of its owner that a write must keep (R70, R228, R241, R350, R378, R488). -/
def State.ruleOk (s : State) (index sub v : Nat) : Bool :=
  match index, sub with
  | 0x1100, 0x12 => v == 0 || decide (8 ≤ v)
  | 0x2000, 0x03 => v == 4 || v == 8 || v == 16
  | 0x2000, 0x09 => v == 0 || (decide (24 ≤ v) && decide (63 * 2 ^ v ≤ 2 ^ 35))
  | 0x2801, 0x01 => decide (v < 2 ^ 49)
  | 0x3000, 0x01 => v % 64 == 0
  | 0x3400, 0x28 => v % 16 == 0
  | 0x3800, 0x01 => [8000, 6400, 4800, 3600, 2400, 1600].contains v
  | 0x3C00, 0x04 => rising (leBytes 7 v) && decide (1 ≤ v % 256)
  | 0x3C00, 0x08 => v % 2 == 0
  | 0x4000, 0x01 => v == 8 || v == 16 || v == 32 || v == 64
  | 0x4800, 0x01 => v == 4800 || v == 5600 || v == 6400
  | 0x4800, 0x0E => v % 64 == 0
  | 0x5400, 0x0E => v == 32 || v == 64 || v == 96 || v == 128
  | 0x5C00, 0x05 => decide (bitsOf v 30 13 = 0)
  | _, _ =>
    if index = 0x3400 ∧ ((1 ≤ sub ∧ sub ≤ 0x0D) ∨ sub = 0x0E ∨ sub = 0x0F) then s.envelopeOk index sub v
    else if index = 0x4400 ∧ 1 ≤ sub ∧ sub ≤ 5 then s.poolsOk index sub v
    else if 0x4110 ≤ index ∧ index ≤ 0x4113 then (v == 8 || v == 16 || v == 32 || v == 64) && s.widthOk (256 * (index - 0x4110) + sub + 1) v
    else if 0x5C40 ≤ index ∧ index ≤ 0x5C7F then (snapAddrs v 56).all fun a => decide (0x20000000 ≤ a) && decide (a ≤ 0x210FFFFF)
    else if 0x8000 ≤ index ∧ sub = 0x30 then v % 4096 == 0
    else true

/-- Status of a write's value (Table 17.10, check 9), before the rules that the write itself applies. -/
def State.valueStatus (s : State) (o : Obj) (index sub v : Nat) : Nat :=
  if index = 0x1000 ∧ sub = 0x04 ∧ s.val Ob.SERIAL ≠ 0 then 0x02
  else if s.inRange o index sub v ∧ s.ruleOk index sub v then 0x00 else 0x04

/-- Bits that a write sets whatever it carries: WRITE_EN bit 6, bit 0 of SUSPEND_CLASSES and of VERIFY_MASK. -/
def forcedBits (index sub v : Nat) : Nat :=
  match index, sub with
  | 0x1100, 0x10 => v ||| 0x40
  | 0x3400, 0x1A => v ||| 1
  | 0x3800, 0x0C => v ||| 1
  | _, _ => v

/-! ## Writes -/

/-- Fleet time steps to a value (R475, R476). -/
def State.stepFleet (v : Dword) (src : Nat) (s : State) : State :=
  let s := s.modTbu fun t => { t with fleet := v, fleetQ := 0, slewLeft := 0, slewAcc := 0, fleetSrc := src }
  let s := s.setObj Ob.FLEET_STEPS (min 0xFFFFFFFF (s.obj Ob.FLEET_STEPS + 1))
  (s.trigger 0x23 UnitNo.tbu 0 0).fleetNowValid

/-- The Tuigor status of a slice or window commit: COMMIT_STS and GAL_COMMIT_STS in Table 17.4's codes. -/
def commitTuigor : Nat → Nat
  | 1 => 0x04
  | 2 => 0x07
  | 3 => 0x08
  | _ => 0x00
def winTuigor : Nat → Nat
  | 1 | 2 => 0x04
  | 3 => 0x07
  | _ => 0x00

/-- A grant (R443): what it opens when it is accepted; the challenge is drawn anew either way. -/
def State.writeGrant (v : Nat) (s : State) : Nat × State :=
  let g : GrantBytes := BitVec.ofNat 2304 v
  if s.grantOk g 1 then (0x00, s.drawChallenge.modCsu fun u => { u with session := true })
  else if s.grantOk g 2 then (0x00, s.drawChallenge.downgrade)
  else (0x04, s.drawChallenge)

/-- A write of an object that acts at once, or is refused by its owner; none for an object that only holds its value. -/
def State.actObj (index sub v : Nat) (s : State) : Option (Nat × State) :=
  if 0x8000 ≤ index then
    let n := index - 0x8000
    match sub with
    | 0x20 =>
      if v = 1 then let t := s.commitSlice n; some (commitTuigor (t.tnu.slice n).commitSts, t)
      else some (0x00, s.modSlice n fun x => { x with staged := [] })
    | 0x22 => some (0x00, s.setQuiesce n (bitAt v 0))
    | 0x23 => some (0x00, if v = 1 then s.requestDrain n else s.requestSquash n)
    | 0x33 => some (0x00, s.writeDlogHead n v)
    | 0x36 => some (0x00, s.writeDlogEpoch n v)
    | _ => none
  else
    match index, sub with
    | 0x2801, 0x01 =>
      match s.writeQstate (bitsOf v 15 0) (bitsOf v 31 16) (bitsOf v 47 32) (bitAt v 48) with
      | some t => some (0x00, t)
      | none => some (0x04, s)
    | 0x2C00, 0x02 =>
      if v = 1 then let t := s.winCommit; some (winTuigor t.gal.commitSts, t) else some (0x00, s.winDiscard)
    | 0x4C00, 0x05 => some (if s.ruled && s.standbyReady && s.ccl.planned.isNone then 0x00 else 0x06, s.planCut .planned)
    | 0x5000, 0x03 => if s.confirmOk (BitVec.ofNat 32 v) then some (0x00, s.confirm) else some (0x04, s)
    | 0x5000, 0x09 => if s.sealOk v then some (0x00, s.modCsu fun u => { u with sealNext := some v }) else some (0x04, s)
    | 0x5000, 0x0F => some (s.writeGrant v)
    | 0x5800, 0x02 => if s.tbu.fleetSrc = 2 then some (0x06, s) else some (0x00, s.stepFleet (BitVec.ofNat 64 v) 1)
    | 0x5C00, 0x01 => some (0x00, s.setFreeze (v == 1))
    | _, _ => none

/-- The write goes to a staging set (R145, R175). -/
def State.stageObj (o : Obj) (index sub v : Nat) (s : State) : State :=
  if 0x8000 ≤ index then s.modSlice (index - 0x8000) fun x => { x with staged := Tbl.put x.staged o.sub v }
  else s.stageWindow (index - 0x2D00) sub (BitVec.ofNat 32 v)

/-- The image with a value in it is above 96 KiB (R463); values that wait for their records count. -/
def State.storeFull (s : State) (o : Obj) (index sub v : Nat) : Bool :=
  let waiting := s.mgp.storing.foldl (fun t w => Tbl.put t w.key w.value) s.sheet
  let t := if v = s.dflt o index sub then Tbl.del waiting (sheetKey index sub) else Tbl.put waiting (sheetKey index sub) v
  decide (98304 < storeImage t)

/-- What a write that has passed checks 1 to 8 comes to: done with a status, or waiting for its change record. -/
inductive WriteEnd where
  | done (status : Nat) (s : State)
  | record (v : Nat)

/-- Check 9 and the effect of a write (R461 to R465): class 10; a write of 1 to WIN_COMMIT is an event of class 8 instead (R176). -/
def State.writeObj (o : Obj) (index sub v : Nat) (s : State) : WriteEnd :=
  let st := s.valueStatus o index sub v
  if st ≠ 0 then .done st s
  else
    let s := if index = 0x2C00 ∧ sub = 0x02 ∧ v = 1 then s else s.sample 10
    match s.actObj index sub v with
    | some (st, t) => .done st t
    | none =>
      let v := forcedBits index sub v
      if o.staged then (if s.storeFull o index sub v then .done 0x09 s else .done 0x00 (s.stageObj o index sub v))
      else if v = s.sheetVal o index sub then .done 0x00 s
      else if o.pers = .stored then (if s.storeFull o index sub v then .done 0x09 s else .record v)
      else .done 0x00 (s.putSheet o index sub v)

end Sys2Proof.Machine
end

