-- ==== Sys2Proof/Machine/HostLink.lean ====
section
/-! DEFINITION. The meanings of the host link's commands (spec/03): training, loss and resets of the link, tags and completions, error TLPs, ATS, link power, PTM and bus mastering. -/

namespace Sys2Proof.Machine

/-! ## Training (R66 to R68) -/

/-- Lanes 0 to w − 1 pass detection; with lane reversal lanes 15 to 16 − w. -/
def lanesOk (lanes : BitVec 16) (w : Nat) (rev : Bool) : Bool := (List.range w).all fun k => lanes.getLsbD (if rev then 15 - k else k)

/-- The widest width both partners and MAX_WIDTH allow on the lanes that pass detection, and whether lane reversal is in effect (R66); none with fewer than four usable lanes (R67). Reversal comes into effect where only the reversed lanes of a width pass (notes/assumptions/48.md). -/
def trainWidth (lanes : BitVec 16) (limit : Nat) : Option (Nat × Bool) :=
  [(16, false), (8, false), (8, true), (4, false), (4, true)].find? fun w => decide (w.1 ≤ limit) && lanesOk lanes w.1 w.2

/-- The rate that equalisation reaches from a rate down (R66): one that fails twice gives way to the next lower; 2.5 and 5 GT/s need none. -/
def trainRate (failTwice : List Nat) : Nat → Nat
  | 0 => 1
  | r + 1 => if 2 ≤ r ∧ failTwice.contains (r + 1) = true then trainRate failTwice r else r + 1

/-- Events of the link (R67, R68), recorded (Table 18.1). -/
def State.linkEvent (f : Field) (s : State) : State := (s.flag f 0 1).trigger 0x03 UnitNo.hlu 0 0

/-- LINK_TRAINING (R66 to R68): Stair and Hall, after a release. Rate 6 needs FLIT mode (Table 3.1). -/
def execLinkTraining (rate width : Nat) (flit : Bool) (lanes : BitVec 16) (failOnce failTwice : List Nat) (s : State) : Out :=
  if s.hlu.up = true ∨ s.power.stage = .foyer ∨ s.power.releaseTick = none then .next s
  else
    match trainWidth lanes (min width (s.obj Ob.MAX_WIDTH)) with
    | none => .next (s.linkEvent Fld.HLU_LINK_EVT.NO_LINK)
    | some (w, rev) =>
      let top := min (if flit then rate else min rate 5) (s.obj Ob.MAX_RATE)
      let r := trainRate failTwice top
      let s := s.modHlu fun h => { h with up := true, flit := flit, rate := r, width := w, l0pWidth := w, power := .l0, laneRev := rev, idleSince := none, winSince := s.now, txSum := 0, rxSum := 0, lowUse := false }
      let s := if (List.range 7).any fun k => decide (3 ≤ k ∧ r ≤ k ∧ k ≤ top) && (failOnce.contains k || failTwice.contains k) then
        s.flag Fld.HLU_LINK_EVT.EQ_FAIL 0 1 else s
      let s := if r < s.obj Ob.MAX_RATE then s.linkEvent Fld.HLU_LINK_EVT.RATE_DOWN else s
      .next (if w < s.obj Ob.MAX_WIDTH then s.linkEvent Fld.HLU_LINK_EVT.WIDTH_DOWN else s)

/-- LINK_DOWN (R89): class 3. -/
def execLinkDown (s : State) : Out := if s.hlu.up then .next s.linkLost else .next s

/-! ## Class 4 resets of the link (R53, R87, R88, R158) -/

/-- Non-sticky configuration space holds its reset values (Table 2.6). -/
def Hlu.configReset (h : Hlu) : Hlu :=
  { h with l0pEn := false, l1En := false, l11En := false, l12En := false, mps := 128, mrrs := 512, tag10 := false, cplTimeoutUs := 50000, vfEn := false, vfMse := false
           numVfs := 0, ecrcGen := false, ecrcChk := false, fns := [], atc := [], ptmEn := false, msix := [] }

/-- A slice at a hot reset: as at a reset of its own but for its key slots (Table 2.6). -/
def State.sliceHotReset (s : State) (n : Nat) : State :=
  ((s.galSliceReset n).clearSliceObjs n).modSlice n fun x => { x with
    quiesce := false, quiesced := false, commitSts := 0, staged := [], dlogTail := 0, dlogPhase := true, dlogWait := [], reset := none }

/-- HOT_RESET (R87): every context is squashed, every outstanding tag quarantined, configuration space cleared; no FLR complete is reported. -/
def execHotReset (s : State) : Out :=
  if s.hlu.up then
    let s := if s.qen.act = .draining ∧ s.qen.actCtx.isSome = true then s.modQen Qen.dropActivation else s
    let s := s.sliceIds.foldl State.sliceHotReset ((s.sample 4).abortReads fun _ => true)
    let s := s.squashWhere fun _ => true
    let s := (s.quarantine fun _ => true).modHlu Hlu.configReset
    let s := s.modQen fun q => { (q.dropQueues fun _ _ _ => true) with
      ctrls := [], shutting := [], wce := true, staging := [], stagingLen := 0 }
    .next ((s.modTnu fun t => { t with filter := [] }).trigger 0x05 UnitNo.hlu 0 0)
  else .next s

/-- FLR (R87, R158): a squash-mode reset of every slice of the function, its contexts, queues and configuration; its tags are quarantined. -/
def execFlr (fn : Nat) (s : State) : Out :=
  let s := if s.activationOf fn then s.modQen Qen.dropActivation else s
  let s := s.sample 4
  let s := (s.sliceIds.filter fun n => s.sliceOn n fn).foldl (fun s n => s.resetSlice n false) s
  let s := (s.squashWhere fun x => x.fn == fn && x.win.isNone).quarantine fun t => t.fn == fn
  let s := s.modQen fun q => { (q.dropQueues fun _ f _ => f == fn) with ctrls := Tbl.del q.ctrls fn, shutting := q.shutting.filter fun e => e.1 != fn }
  let s := s.modHlu fun h => { h with
    fns := Tbl.put h.fns fn { busMaster := false, memSpace := false, flr := true, ats := false }, atc := h.atc.filter (fun e => e.fn != fn)
    flrTick := Tbl.put h.flrTick fn s.now, msix := h.msix.filter fun c => c.1 / 65536 != fn }
  .next (s.trigger 0x05 UnitNo.hlu fn 0)

/-- R88: the quarantine of the function is empty, and the key slots of its slices are loaded. -/
def State.flrReady (s : State) (fn : Nat) : Bool :=
  !(s.hlu.tags.any fun t => t.2.fn == fn && t.2.phase == .quarantined) && (s.sliceIds.filter fun n => s.sliceOn n fn).all s.keysLoaded

/-- FLR_COMPLETE (R88). -/
def execFlrComplete (fn : Nat) (s : State) : Out :=
  if (Tbl.getD s.hlu.fns fn default).flr = true ∧ s.flrReady fn = true then
    .next (s.modHlu fun h => { h with fns := Tbl.adjust h.fns fn fun f => { f with flr := false }, flrTick := Tbl.del h.flrTick fn })
  else .next s

/-! ## Tags (R71 to R75, R87) -/

/-- Change tags. -/
def Hlu.mapTags (h : Hlu) (f : Tag → Tag) : Hlu := { h with tags := h.tags.map fun t => (t.1, f t.2) }

/-- TAG_QUARANTINE_EXPIRY (R87): 50 ms after the reset a tag leaves quarantine and is held out of use. -/
def execTagQuarantineExpiry (s : State) : Out :=
  .next (s.modHlu fun h => h.mapTags fun t => if t.phase = .quarantined ∧ s.passed t.since (msTicks 50) = true then { t with phase := .held, since := s.now } else t)

/-- TIMEOUT_TAG_RELEASE (R75, R87): held tags return to use after 50 ms. -/
def execTimeoutTagRelease (s : State) : Out :=
  .next (s.modHlu fun h => { h with tags := h.tags.filter fun t => !(t.2.phase == .held && s.passed t.2.since (msTicks 50)) })

/-- A completion frees its tag from the next tick on (R73). -/
def State.freeTag (t : Nat) (s : State) : State := s.modHlu fun h => { h with tags := Tbl.del h.tags t, freedTags := t :: h.freedTags }

/-- Data of a host read enters the buffers of its command; the last of it completes the transfer. -/
def State.dataArrives (c off len : Nat) (data : BitVec 4096) (s : State) : State :=
  match Tbl.find? s.qen.ctxs c with
  | some x =>
    if x.state = .dataIn then
      let s := (s.modBpm fun b => b.sramWrite (stageAddr (b.piecesOf x.bufs x.bytes) off) (leBytes len data.toNat)).modCtx c fun y => { y with dataIn := y.dataIn + len }
      if x.dataIn + len = x.bytes then s.dataComplete c { x with dataIn := x.bytes } else s
    else s
  | none => s

/-- A waiting read lies in a page of a function and PASID. -/
def State.waitsPage (s : State) (fn : Nat) (pasid : Option Nat) (page : Nat) (d : DmaReq) : Bool :=
  (Tbl.find? s.qen.ctxs d.c).any fun x => x.fn == fn && s.dmaPasid x.chargedTo == pasid && d.addr / 4096 == page

/-- A translation gave no access (R77): what waits for the page goes untranslated, reads, read data, fetches and completion entries alike. -/
def State.reissueUntranslated (fn : Nat) (pasid : Option Nat) (page : Nat) (s : State) : State :=
  let mine := fun (f sl : Nat) => f == fn && s.dmaPasid sl == pasid
  let go := fun (d : DmaReq) => if s.waitsPage fn pasid page d then { d with untranslated := true } else d
  (s.modHlu fun h => { h with dmaQueue := h.dmaQueue.map go }).modQen fun q => { q with
      ctxs := q.ctxs.map fun e => if mine e.2.fn e.2.chargedTo && !e.2.untrans.contains page then (e.1, { e.2 with untrans := page :: e.2.untrans }) else e
      sqs := q.sqs.map fun e => if mine e.2.fn (e.2.chargedTo e.1) && e.2.nextAddr / 4096 == page then (e.1, { e.2 with untrans := true }) else e
      cqs := q.cqs.map fun e => if mine e.2.fn (if e.1 < 4096 then e.2.slice else 1024) && e.2.nextAddr / 4096 == page then (e.1, { e.2 with untrans := true }) else e }

/-- Data bytes of completions (R78). -/
def State.received (n : Nat) (s : State) : State := s.modHlu fun h => { h with rxNow := h.rxNow + n }

/-- COMPLETION_RECEIVED (R73, R75, R77, R83, R87, R98): a class 9 arrival. A fetch read that fails fetches nothing. -/
def execCompletionReceived (tag : Nat) (kind : CplKind) (data : BitVec 4096) (s : State) : Out :=
  if s.inboundHeld then .next s
  else
    let s := s.arrive 0
    match Tbl.find? s.hlu.tags tag with
    | none => .next (s.aerLog .unexpectedCompletion)
    | some t =>
      match t.phase with
      | .held => .next (s.aerLog .unexpectedCompletion)
      | .quarantined => .next (s.freeTag tag)
      | .outstanding =>
        match t.use, kind with
        | .data c off len, .ok => .next (((s.freeTag tag).received len).dataArrives c off len data)
        | .list c len, .ok => .next (((s.freeTag tag).received len).listArrives c len data.toNat)
        | .fetch key n, .ok => .next (((s.freeTag tag).received (64 * n)).fetchArrives key n data.toNat)
        | .data c _ _, k | .list c _, k => .next (((s.freeTag tag).linkError k).failCmd c stDataTransfer)
        | .fetch _ _, k => .next ((s.freeTag tag).linkError k)
        | .ats p page, .ur | .ats p page, .ca => .next ((s.freeTag tag).reissueUntranslated t.fn p page)
        | .ats _ _, .poisoned => .next ((s.freeTag tag).linkError .poisoned)
        | .ats _ _, .ok => .next s

/-- Contexts whose reads wait for a page's translation. -/
def State.awaiting (s : State) (fn : Nat) (pasid : Option Nat) (page : Nat) : List Nat :=
  ((s.hlu.dmaQueue.filter (s.waitsPage fn pasid page)).map DmaReq.c).dedup

/-- COMPLETION_TIMEOUT (R75, R98): after the programmed time (0: Completion Timeout Disable) it is logged and counted; the command that needed the data ends with Data Transfer Error, the entries of a fetch stay in their SQ; the tag is held out of use. -/
def execCompletionTimeout (tag : Nat) (s : State) : Out :=
  match Tbl.find? s.hlu.tags tag with
  | some t =>
    if t.phase = .outstanding ∧ s.hlu.cplTimeoutUs ≠ 0 ∧ s.passed t.since (usTicks s.hlu.cplTimeoutUs) = true then
      let s := (s.aerLog .completionTimeout).count Fld.HLU_CPL_TO_CNT.COUNT 0 1
      let s := s.modHlu fun h => { h with tags := Tbl.put h.tags tag { t with phase := .held, since := s.now } }
      match t.use with
      | .data c _ _ | .list c _ => .next (s.failCmd c stDataTransfer)
      | .fetch _ _ => .next s
      | .ats p page => .next ((s.awaiting t.fn p page).foldl (fun s c => s.failCmd c stDataTransfer) s)
    else .next s
  | none => .next s

/-! ## Errors (R83, Table 3.4) -/

/-- INBOUND_ERROR_TLP (Table 3.4). -/
def execInboundErrorTlp (e : TlpError) (s : State) : Out :=
  if s.inboundHeld then .next s
  else
    let s := s.arrive 0
    match e with
    | .ecrc _ => .next (s.aerLog .ecrc)
    | .malformed np => .next (if np then (s.aerLog .malformed).complete .ur else s.aerLog .malformed)
    | .unsupported np => .next (s.urTlp np)
    | .unexpectedCompletion => .next (s.aerLog .unexpectedCompletion)
    | .poisonedBar0 | .poisonedBar4 => .next (s.linkError .poisoned)
    | .poisonedBar2 off => .next (s.galPoison off)
    | .correctable => .next ((s.aerLog .correctable).modHlu fun h => { h with correctable := h.correctable + 1 })

/-! ## ATS (R76, R77) -/

/-- ATS_INVALIDATE (R76): the page's translations go, and the request completes; no request that used them waits to be issued. -/
def execAtsInvalidate (fn : Nat) (pasid : Option Nat) (page : Nat) (s : State) : Out :=
  if s.inboundHeld then .next s
  else .next (((s.arrive 0).modHlu fun h => { h with atc := h.atc.filter fun e => !(e.fn == fn && e.pasid == pasid && e.page == page) }).complete .ok)

/-- TRANSLATION_COMPLETION (R76, R77): a granted page enters the cache of 8,192 entries; without access the reads go untranslated. DESIGN CHOICE: the spec does not say which entry of the full cache makes room; the one entered longest ago goes (notes/assumptions/48.md). -/
def execTranslationCompletion (tag page : Nat) (granted : Option Nat) (s : State) : Out :=
  if s.inboundHeld then .next s
  else
    let s := s.arrive 0
    match Tbl.find? s.hlu.tags tag with
    | none => .next (s.aerLog .unexpectedCompletion)
    | some t =>
      match t.phase, t.use with
      | .held, _ => .next (s.aerLog .unexpectedCompletion)
      | .quarantined, _ => .next (s.freeTag tag)
      | .outstanding, .data _ _ _ | .outstanding, .list _ _ | .outstanding, .fetch _ _ => .next s
      | .outstanding, .ats pasid p =>
        if p ≠ page then .next s
        else
          match granted with
          | some a => .next ((s.freeTag tag).modHlu fun h => { h with atc := ({ fn := t.fn, pasid := pasid, page := page, target := a } :: h.atc).take 8192 })
          | none => .next ((s.freeTag tag).reissueUntranslated t.fn pasid page)

/-! ## Link power (R78 to R80) -/

/-- Rates in tenths of GT/s, by the code of HLU_LINK_STS.RATE. -/
def rateTenths : Nat → Nat
  | 1 => 25
  | 2 => 50
  | 3 => 80
  | 4 => 160
  | 5 => 320
  | _ => 640

/-- Payload bytes that a direction carries in some µs at a width (Table 3.2): width × rate ÷ 8 × 236 ÷ 256 × e. -/
def Hlu.payload (h : Hlu) (width us : Nat) : Nat :=
  let n := us * 1000 * width * rateTenths h.rate * 236
  if h.rate ≤ 2 then n * 8 / (80 * 256 * 10) else if h.rate = 6 then n / (80 * 256) else n * 128 / (80 * 256 * 130)

/-- The link's bytes at the end of a tick (R78): what HLU_L0P_WINDOW_US has seen is judged against HLU_L0P_LOW_PCT when it ends, in both directions, and the next window begins. -/
def State.linkUse (s : State) : State :=
  let h := s.hlu
  let tx := h.txSum + h.txNow
  let rx := h.rxSum + h.rxNow
  let us := s.obj Ob.L0P_WINDOW_US
  if usTicks us ≤ s.since h.winSince + 1 then
    let low := h.payload h.l0pWidth us * s.obj Ob.L0P_LOW_PCT
    s.modHlu fun h => { h with txNow := 0, rxNow := 0, txSum := 0, rxSum := 0, winSince := s.now + 1, lowUse := decide (100 * tx < low) && decide (100 * rx < low) }
  else s.modHlu fun h => { h with txNow := 0, rxNow := 0, txSum := tx, rxSum := rx }

/-- L0P_NARROW (R78): x16 to x8, x8 to x4, once the utilisation of a window has stayed low in both directions. -/
def execL0pNarrow (s : State) : Out :=
  if s.hlu.up = true ∧ s.hlu.power = .l0 ∧ s.hlu.l0pEn = true ∧ s.objB Ob.L0P_EN = true ∧ 8 ≤ s.hlu.l0pWidth ∧ s.hlu.lowUse = true then
    .next (s.modHlu fun h => { h with l0pWidth := h.l0pWidth / 2, lowUse := false, winSince := s.now, txSum := 0, rxSum := 0 })
  else .next s

/-- Bytes of DMA and completion traffic that wait for the link (R78): reads not yet issued, data of reads not yet sent, what this tick has carried. -/
def State.linkPending (s : State) : Nat :=
  s.hlu.dmaQueue.foldl (fun n d => n + d.len) 0 + s.qen.ctxs.foldl (fun n e => if e.2.state = .dataOut then n + (e.2.bytes - e.2.bytesDone) else n) 0 + s.hlu.txNow + s.hlu.rxNow

/-- L0P_WIDEN (R78): to full width, when the traffic that waits exceeds what the narrowed width carries in 1 µs. -/
def execL0pWiden (s : State) : Out :=
  if s.hlu.up = true ∧ s.hlu.power = .l0 ∧ s.hlu.payload s.hlu.l0pWidth 1 < s.linkPending then .next (s.modHlu fun h => { h with l0pWidth := h.width }) else .next s

/-- Nothing is in progress on the link (R79). -/
def State.linkIdle (s : State) : Bool :=
  s.noCommands && (s.hlu.tags.all fun t => t.2.phase == .held) && s.gal.units.isEmpty && s.gal.ready.isEmpty && s.gal.fences.isEmpty && s.gal.fifo.isEmpty && s.gal.reads.isEmpty

/-- The conditions of R79 hold since a tick. -/
def State.idleTrack (s : State) : State := s.modHlu fun h => { h with idleSince := if s.linkIdle then some (h.idleSince.getD s.now) else none }

/-- L1_ENTRY (R79, R80): once nothing has been in progress for HLU_L1_IDLE_US, the entry begins: to L1.2 when it is enabled and the LTR values and CLKREQ_N permit, else to L1.1 when that is enabled, else to L1. Given again, it completes the entry in progress that no TLP has aborted; with L1.2 the DRAM enters self-refresh. -/
def execL1Entry (l12 : Bool) (s : State) : Out :=
  if s.hlu.up = false ∨ s.linkIdle = false then .next s
  else
    match s.hlu.power with
    | .l0 =>
      if s.hlu.l1En = true ∧ s.passedSome s.hlu.idleSince (usTicks (s.obj Ob.L1_IDLE_US)) = true then
        .next (s.modHlu fun h => { h with power := if l12 && h.l12En then .toL12 else if h.l11En then .toL11 else .toL1 })
      else .next s
    | .toL1 => .next (s.modHlu fun h => { h with power := .l1 })
    | .toL11 => .next (s.modHlu fun h => { h with power := .l11 })
    | .toL12 => .next (s.modHlu fun h => { h with power := .l12 }).srEnter
    | .l1 | .l11 | .l12 => .next s

/-- L1_EXIT (R80): from L1.2 the DRAM leaves self-refresh with the link, unless another cause of R414 holds. -/
def execL1Exit (s : State) : Out :=
  if s.hlu.up = true ∧ s.hlu.power ≠ .l0 then
    let t := s.modHlu fun h => { h with power := .l0 }
    .next (if s.hlu.power = .l12 ∧ t.srCause = false then t.srExit else t)
  else .next s

/-! ## PTM (R81, R82, R475) -/

/-- A dialog without a response (R82): the third in a row is counted and raises the health event. DESIGN CHOICE: the spec does not say what a fourth in a row does; the count of consecutive ones begins anew, so the next failure is counted at the sixth (notes/assumptions/48.md). -/
def State.ptmMiss (s : State) : State :=
  if s.hlu.ptmFails + 1 = 3 then
    ((s.modHlu fun h => { h with ptmFails := 0 }).setFld Fld.HLU_PTM_STS.FAIL_CNT 0 (min 0xFFFF (s.fld Fld.HLU_PTM_STS.FAIL_CNT + 1))).health Health.ptm UnitNo.hlu
  else s.modHlu fun h => { h with ptmFails := h.ptmFails + 1 }

/-- The offset of a dialog: slewed when small, else a step to the root's time (R475). -/
def State.discipline (d : Int) (s : State) : State :=
  if d.natAbs ≤ s.obj Ob.STEP_NS then (s.modTbu fun t => { t with slewLeft := 4000000 * d, slewAcc := 0, fleetSrc := 2 }).fleetNowValid
  else s.stepFleet (s.tbu.fleet + BitVec.ofInt 64 d) 2

/-- PTM_DIALOG (R81, R475): `offset` is the root's time less fleet time; LAST_OFFSET_NS is fleet time's from the root's. Not in L1 (R82). -/
def execPtmDialog (offset : Option Int) (s : State) : Out :=
  if s.hlu.up = true ∧ s.hlu.ptmEn = true ∧ s.hlu.power = .l0 then
    match offset with
    | some d =>
      let s := ((s.arrive 0).modHlu fun h => { h with ptmFails := 0, ptmLast := some s.now, ptmValid := true }).healthClear Health.ptm
      .next ((s.modTbu fun t => { t with lastOffset := -d }).discipline d)
    | none => .next s.ptmMiss
  else .next s

/-- PTM_VALID_EXPIRY (R81, R475): the last dialog is 30 ms old; fleet time runs free from its last value. -/
def execPtmValidExpiry (s : State) : Out :=
  if s.hlu.ptmValid = true ∧ s.passedSome s.hlu.ptmLast (msTicks 30) = true then
    .next ((s.modHlu fun h => { h with ptmValid := false }).modTbu fun t => { t with fleetSrc := if t.fleetSrc = 2 then 1 else t.fleetSrc, slewLeft := 0 })
  else .next s

/-! ## Bus mastering (R85, R86) -/

/-- Configuration writes of the function are accepted (R40, R88). -/
def State.cfgOpen (s : State) (fn : Nat) : Bool := !s.inboundHeld && s.power.cfgReady && !(Tbl.getD s.hlu.fns fn default).flr

/-- Bus Master Enable of a function, and the stall of its host commands. -/
def State.setBusMaster (fn : Nat) (on : Bool) (s : State) : State :=
  (s.modHlu fun h => { h with fns := Tbl.put h.fns fn { Tbl.getD h.fns fn default with busMaster := on } }).modQen fun q =>
    { q with ctxs := q.ctxs.map fun e => if e.2.fn = fn ∧ e.2.win = none then (e.1, { e.2 with bmeStall := !on }) else e }

/-- BUS_MASTER_ENABLE_CLEAR (R85, R86). -/
def execBusMasterEnableClear (fn : Nat) (s : State) : Out := if s.cfgOpen fn then .next ((s.arrive 0).setBusMaster fn false) else .next s

/-- BUS_MASTER_ENABLE_SET (R86): stalled work resumes in arrival order, from the next tick on. -/
def execBusMasterEnableSet (fn : Nat) (s : State) : Out := if s.cfgOpen fn then .next ((s.arrive 0).setBusMaster fn true) else .next s

end Sys2Proof.Machine
end

