-- ==== Sys2Proof/Machine/Management.lean ====
section
/-! DEFINITION. The Management Plane (spec/17): transports, the order of request checks (Table 17.10), reads, writes and DESCRIBE, accesses that drive firmware serves, and the meanings of the management commands (notes/assumptions/31.md). -/

namespace Sys2Proof.Machine

/-! ## Transports (Table 17.2) -/

/-- Statuses of Table 17.4. -/
def tsOk := 0x00
def tsNoObject := 0x01
def tsReadOnly := 0x02
def tsBadLength := 0x03
def tsDenied := 0x0A
def tsBusy := 0x0B
def tsBadMsg := 0x0C

/-- Instance number of a transport. -/
def viaInst : Transport → Nat
  | .i3c => 0
  | .smbus => 1
  | .port p => 2 + p
  | .firmware => 6

/-- VDD_AUX is in range: the MGP runs. -/
def State.auxUp (s : State) : Bool := !s.power.railsOut.contains .aux

/-- Only VDD_AUX is in range (R480). -/
def State.auxOnly (s : State) : Bool := s.power.unpowered || s.power.railsOut.contains .core

/-- Requests outstanding on a transport (R471). -/
def State.outstandingOn (s : State) (v : Transport) : Nat :=
  (s.mgp.storing.filter fun w => w.via == v).length + (s.mgp.fw.filter fun w => w.via == v).length
    + (s.mgp.gapWait.filter fun w => w.r.via == v).length

/-- A request reaches the MGP (Table 17.2): ports need Stair or Hall, and ports 0 to 3 the link; a busy port ignores it (R472). -/
def State.reaches (s : State) (v : Transport) : Bool :=
  s.auxUp && match v with
  | .i3c | .smbus => true
  | .port p => s.power.stage != .foyer && !s.inboundHeld && !s.mgp.portBusy.contains p
  | .firmware => s.power.stage != .foyer && !s.mgp.portBusy.contains 4

/-! ## Responses -/

/-- Response data enters a port's data area, word by word (R472). -/
def State.portData (p : Nat) (bs : List Byte) (s : State) : State :=
  (List.range ((bs.length + 3) / 4)).foldl (fun s k =>
    s.modRegf fun r => r.put Fld.MGP_CSP_DATA.WORD p k (leNat ((bs.drop (4 * k)).take 4))) s

/-- MGP_TP_ERR bits of a status (Table 17.7). -/
def State.tpErr (st : Nat) (s : State) : State :=
  if st = tsDenied then s.flag Fld.MGP_TP_ERR.DENIED 0 1
  else if st = tsBusy then s.flag Fld.MGP_TP_ERR.BUSY 0 1
  else if st = tsBadMsg then s.flag Fld.MGP_TP_ERR.BAD_MSG 0 1
  else s

/-- A request ends (R471, R472): a message on the sideband endpoint, or the port's STATUS, length and data with BUSY cleared in that tick. -/
def State.respond (via : Transport) (eid tag cmd st : Nat) (data : List Byte) (s : State) : State :=
  let s := s.tpErr st
  match viaPort via with
  | none => s.emit (.response via eid tag st data)
  | some p =>
    let s := (s.portData p data).modMgp fun m => { m with portStatus := Tbl.put m.portStatus p st, portBusy := m.portBusy.filter (· != p) }
    if cmd = 2 then s else s.setFld Fld.MGP_CSP_LEN.BYTES p data.length

/-- A port takes a request (R472): SEQ is copied, BUSY set. -/
def State.takePort (via : Transport) (seq cmd index sub bytes : Nat) (s : State) : State :=
  match viaPort via with
  | none => s
  | some p =>
    let s := (((s.setFld Fld.MGP_CSP_CTL.SEQ p seq).setFld Fld.MGP_CSP_CTL.CMD p cmd).setFld Fld.MGP_CSP_ADDR.INDEX p index).setFld
      Fld.MGP_CSP_ADDR.SUB p sub
    let s := if cmd = 2 then s.setFld Fld.MGP_CSP_LEN.BYTES p bytes else s
    s.modMgp fun m => { m with portBusy := p :: m.portBusy, portSeq := Tbl.put m.portSeq p (seq % 256) }

/-! ## DESCRIBE (R464, Table 17.9) -/

def typeCode : ObjType → Nat
  | .bool => 0x01
  | .u8 => 0x02
  | .u16 => 0x03
  | .u32 => 0x04
  | .u64 => 0x05
  | .i8 => 0x06
  | .i16 => 0x07
  | .i32 => 0x08
  | .i64 => 0x09
  | .f32 => 0x0A
  | .octets => 0x0B
  | .string => 0x0C
  | .time64 => 0x0D

def accCode : ObjAcc → Nat
  | .ro => 0
  | .rw => 1
  | .wo => 2

def persCode : Persist → Nat
  | .volatile => 0
  | .retained => 1
  | .stored => 2

/-- The default is not one fixed value: fused, trained, or drawn at power-up. -/
def floatingDefault (index sub : Nat) : Bool :=
  (index == 0x1000 && sub == 3) || (index == 0x3000 && sub == 8) || (index == 0x5000 && (sub == 0x0C || sub == 0x0E))

/-- The data of a DESCRIBE. -/
def State.describeObj (s : State) (o : Obj) (index sub : Nat) : List Byte :=
  let head := typeCode o.ty + 2 ^ 8 * accCode o.acc + 2 ^ 16 * persCode o.pers + 2 ^ 24 * (bit01 o.foyer + 2 * bit01 o.staged) + 2 ^ 32 * o.size
  let d := if floatingDefault index sub then s.readObj o index sub else s.dflt o index sub
  let range := if o.ty = .octets ∨ o.ty = .string then []
    else leBytes o.size (ofInt (8 * o.size) (s.bounds o index sub).1) ++ leBytes o.size (ofInt (8 * o.size) (s.bounds o index sub).2)
  leBytes 8 head ++ range ++ leBytes o.size d

/-! ## Serving a request (Table 17.10) -/

/-- Data of a READ: the object's value in its size. -/
def State.readData (s : State) (o : Obj) (index sub : Nat) : List Byte := leBytes o.size (s.readObj o index sub)

/-- Two writes of one object in one tick (R467): that of the higher instance stands, whichever came first. Objects that a write acts on act at each. -/
def State.ranked (s : State) (o : Obj) (index sub v inst : Nat) (t : State) : State :=
  let k := sheetKey index sub
  if (s.actObj index sub v).isNone && decide (inst < Tbl.getD s.mgp.wrote k 0) && o.pers != .stored then s.sample 10
  else t.modMgp fun m => { m with wrote := Tbl.put m.wrote k (max inst (Tbl.getD m.wrote k 0)) }

/-- Checks 6 to 9, and the request's effect. -/
def State.serveObj (cmd : Nat) (r : SheetRequest) (data : List Byte) (s : State) : State :=
  let end_ := fun (st : Nat) (bs : List Byte) (s : State) => s.respond r.via r.eid r.tag cmd st bs
  match resolve r.index r.sub with
  | none => end_ tsNoObject [] s
  | some o =>
    if cmd = 1 then end_ tsOk (s.readData o r.index r.sub) s
    else if cmd = 3 then end_ tsOk (s.describeObj o r.index r.sub) s
    else if o.acc = .ro then end_ tsReadOnly [] s
    else if data.length ≠ o.size then end_ tsBadLength [] s
    else
      match s.writeObj o r.index r.sub (leNat data) with
      | .done st t => end_ st [] (if st = 0 then s.ranked o r.index r.sub (leNat data) (viaInst r.via) t else t)
      | .record v => s.modMgp fun m => { m with
          storing := m.storing ++ [{ via := r.via, eid := r.eid, tag := r.tag, key := sheetKey r.index r.sub, size := o.size, value := v, cluster := r.cluster }] }

/-- An earlier request of the same requester on a sideband endpoint has no answer yet (R471). -/
def State.earlierOpen (s : State) (r : SheetRequest) : Bool :=
  (viaPort r.via).isNone && ((s.mgp.storing.any fun w => w.via == r.via && w.eid == r.eid) || (s.mgp.fw.any fun a => a.via == r.via && a.eid == r.eid)
    || s.mgp.gapWait.any fun w => w.r.via == r.via && w.r.eid == r.eid)

/-- The request waits for the end of a cut gap (R468, Table 15.3), for room in the exception queue (R427), or for the answer to an earlier one of its requester (R471). -/
def State.reqWaits (s : State) (r : SheetRequest) : Bool :=
  (s.gapped && (r.index / 0x400 == 0x13 || fwAddress r.index)) || (fwAddress r.index && !s.excRoom) || s.earlierOpen r

/-- Serve a request that has passed checks 1 to 5: at the units, or by drive firmware (R469). -/
def State.serveReq (cmd : Nat) (r : SheetRequest) (data : List Byte) (s : State) : State :=
  if s.reqWaits r then s.modMgp fun m => { m with gapWait := m.gapWait ++ [{ r := r, cmd := cmd, data := data, early := none }] }
  else if fwAddress r.index then
    (s.raiseExc UnitNo.mgp 0 cmd (sheetKey r.index r.sub + 2 ^ 24 * s.mgp.fwNum)).modMgp fun m => { m with
      fw := m.fw ++ [{ via := r.via, eid := r.eid, tag := r.tag, cmd := cmd, index := r.index, sub := r.sub, data := data, cluster := r.cluster, since := s.now, num := m.fwNum }], fwNum := m.fwNum + 1 }
  else s.serveObj cmd r data

/-- The object of a request is readable in Foyer (R480). -/
def foyerReadable (index sub : Nat) : Bool := (resolve index sub).any fun o => o.foyer

/-- Checks 1 to 5 of Table 17.10: the status of the first that fails. -/
def State.earlyRefusal (s : State) (cmd : Nat) (r : SheetRequest) (len : Nat) : Option Nat :=
  if cmd = 2 ∧ 4096 < len then some tsBadMsg
  else if (viaPort r.via).isNone ∧ 8 ≤ s.outstandingOn r.via then some tsBusy
  else if s.auxOnly ∧ (cmd = 2 ∨ foyerReadable r.index r.sub = false) then some tsNotInStage
  else if cmd = 2 ∧ r.via ≠ .firmware ∧ bitAt (s.obj Ob.WRITE_EN) (viaInst r.via) = false then some tsDenied
  else if fwAddress r.index ∧ s.power.stage ≠ .hall then some tsNotInStage
  else none

/-- A request on a transport (R471 to R473, R526): the firmware port's are checked against the epoch first (R421). -/
def State.request (cmd : Nat) (r : SheetRequest) (data : List Byte) (s : State) : State :=
  if s.reaches r.via = false then s
  else if r.via = .firmware ∧ s.epochOk r.epoch = false then s.epochRefuse UnitNo.mgp epochKindSheet r.epoch
  else
    let t := s.takePort r.via r.tag cmd r.index r.sub data.length
    match s.earlyRefusal cmd r data.length with
    | some st =>
      if st ≠ tsBusy ∧ s.earlierOpen r = true then t.modMgp fun m => { m with gapWait := m.gapWait ++ [{ r := r, cmd := cmd, data := [], early := some st }] }
      else t.respond r.via r.eid r.tag cmd st []
    | none => t.serveReq cmd r data

/-- A request that waited: answered with the status it was refused with, unless an earlier one of its requester still waits, or served. -/
def State.serveHeld (w : GapRequest) (s : State) : State :=
  match w.early with
  | some st => if s.earlierOpen w.r then s.modMgp fun m => { m with gapWait := m.gapWait ++ [w] } else s.respond w.r.via w.r.eid w.r.tag w.cmd st []
  | none => s.serveReq w.cmd w.r w.data

/-- Requests that waited are served in order (Table 15.3, R471). -/
def State.serveWaiting (s : State) : State :=
  s.mgp.gapWait.foldl (fun s w => s.serveHeld w) (s.modMgp fun m => { m with gapWait := [] })

/-- CALL_SHEET_READ (R465). -/
def execCallSheetRead (r : SheetRequest) (s : State) : Out := .next (s.request 1 r [])

/-- CALL_SHEET_WRITE (R465). -/
def execCallSheetWrite (r : SheetRequest) (bytes : List Byte) (s : State) : Out := .next (s.request 2 r bytes)

/-- DESCRIBE (R464). -/
def execDescribe (r : SheetRequest) (s : State) : Out := .next (s.request 3 r [])

/-- STORED_WRITE_COMMIT (R465): the oldest waiting change record reports good status; the write takes effect, and the response follows. -/
def execStoredWriteCommit (s : State) : Out :=
  match s.mgp.storing with
  | w :: ws =>
    let s := s.modMgp fun m => { m with storing := ws }
    match objAt (w.key / 256) (w.key % 256) with
    | some o => .next (((s.sample 10).putSheet o (w.key / 256) (w.key % 256) w.value).respond w.via w.eid w.tag 2 tsOk [])
    | none => .next s
  | [] => .next s

/-! ## Writes with rows of their own -/

/-- CUT_REQ (R423): a write of the object. -/
def execCutReq (r : SheetRequest) (value : Nat) (s : State) : Out :=
  .next (s.request 2 { r with index := 0x4C00, sub := 0x05 } (leBytes 1 value))

/-- SEAL_STATE_WRITE (R442). -/
def execSealStateWrite (r : SheetRequest) (value : Nat) (s : State) : Out :=
  .next (s.request 2 { r with index := 0x5000, sub := 0x09 } (leBytes 1 value))

/-- SEAL_GRANT_SESSION (R443). -/
def execSealGrantSession (r : SheetRequest) (grant : GrantBytes) (s : State) : Out :=
  .next (s.request 2 { r with index := 0x5000, sub := 0x0F } (leBytes 288 grant.toNat))

/-- SEAL_GRANT_DOWNGRADE (R443). -/
def execSealGrantDowngrade (r : SheetRequest) (grant : GrantBytes) (s : State) : Out :=
  .next (s.request 2 { r with index := 0x5000, sub := 0x0F } (leBytes 288 grant.toNat))

/-- HEALTH_CONFIRM (R455). -/
def execHealthConfirm (r : SheetRequest) (value : Word) (s : State) : Out :=
  .next (s.request 2 { r with index := 0x5000, sub := 0x03 } (leBytes 4 value.toNat))

/-- FLEET_SET (R476). -/
def execFleetSet (r : SheetRequest) (value : Dword) (s : State) : Out :=
  .next (s.request 2 { r with index := 0x5800, sub := 0x02 } (leBytes 8 value.toNat))

/-! ## Drive firmware's objects (R469) -/

/-- FW_OBJECT_TIMEOUT (R469): the oldest access that is FW_OBJ_MS old completes with BUSY. -/
def execFwObjectTimeout (s : State) : Out :=
  match s.mgp.fw with
  | a :: rest =>
    if s.passed a.since (msTicks (s.obj Ob.FW_OBJ_MS)) then
      .next ((s.modMgp fun m => { m with fw := rest }).respond a.via a.eid a.tag a.cmd tsBusy [])
    else .next s
  | [] => .next s

/-- FW_OBJECT_ANSWER (R469): drive firmware answers an access by its number; an answer to one that has completed is discarded. -/
def execFwObjectAnswer (status : FwStatus) (bytes : List Byte) (s : State) : Out :=
  match s.mgp.fw.find? fun a => a.num == status.num with
  | some a =>
    .next ((s.modMgp fun m => { m with fw := m.fw.filter fun a => a.num != status.num }).respond a.via a.eid a.tag a.cmd status.status (if a.cmd = 2 ∨ status.status ≠ 0 then [] else bytes))
  | none => .next s

/-! ## Endpoints (R470, R471, R519) -/

/-- MCTP_CONTROL_MESSAGE (R470): answered on its endpoint. -/
def execMctpControlMessage (i3c : Bool) (eid : Nat) (s : State) : Out :=
  if s.auxUp then .next (s.emit (.mctpAnswer i3c eid)) else .next s

/-- NVME_MI_BASIC_MANAGEMENT (R470): answered on its endpoint. -/
def execNvmeMiBasicManagement (i3c : Bool) (eid : Nat) (s : State) : Out :=
  if s.auxUp then .next (s.emit (.mctpAnswer i3c eid)) else .next s

/-- The header is malformed (R471 for a message, R472 for a port request). -/
def badMessage (m : RawMessage) : Bool :=
  let cmdBad := m.cmd != 1 && m.cmd != 2 && m.cmd != 3
  match viaPort m.via with
  | some _ => cmdBad || (m.cmd == 2 && decide (4096 < m.length))
  | none =>
    m.ver != 1 || cmdBad || m.status != 0 || m.reserved != 0 || decide (4096 < m.length) || m.length != m.dataLen
      || ((m.cmd == 1 || m.cmd == 3) && m.length != 0)

/-- TUIGOR_BAD_MSG (R471, R472): completes with BAD_MSG. -/
def execTuigorBadMsg (m : RawMessage) (s : State) : Out :=
  if badMessage m && s.reaches m.via then
    .next ((s.takePort m.via m.tag m.cmd m.index m.sub m.length).respond m.via 0 m.tag m.cmd tsBadMsg [])
  else .next s

/-- SMBUS_TIMEOUT (R519): the transfer is dropped, the interface resets. -/
def execSmbusTimeout (s : State) : Out := if s.auxUp then .next (s.emit .smbusReset) else .next s

/-- I3C_DYNAMIC_ADDRESS_ASSIGNMENT (R470): by ENTDAA or SETDASA. -/
def execI3cDynamicAddressAssignment (_entdaa : Bool) (addr : BitVec 7) (s : State) : Out :=
  if s.auxUp then .next (s.modMgp fun m => { m with i3cAddr := some addr }) else .next s

end Sys2Proof.Machine
end

