-- ==== Sys2Proof/Machine/Dump.lean ====
section
/-! DEFINITION. The hold-up dump (spec/12): its start at a supply loss or a thermal trip (R359 to R361), the steps of R364, its end (R365, R57), and what the next start finds (R368, R369). -/

namespace Sys2Proof.Machine

/-! ## Start -/

/-- Offsets of a granule's slots whose stage data is beyond the guard's repair: they are dumped with LOSTFILL (R363). -/
def State.lostOffsets (s : State) (f : InFlight) : List Nat :=
  (f.slots.filter fun x => match f.stages.find? (fun y => y.1 == x.1) with
    | some y => decide (8 < (s.bpm.poisoned.filter fun w => decide (y.2 ≤ w) && decide (w < y.2 + 4096)).length)
    | none => false).map fun x => x.1

/-- The writes whose slots a dump holds (R362): those not wholly programmed good, with the data as it will be replayed. -/
def State.dumpGrans (s : State) : List (InFlight × List Nat) :=
  (s.mxe.inflight.filter fun f => f.pend != 0 || (f.loc.isNone && !(s.mxe.deltas.any fun d => d.kind == 1 && d.nsid == f.nsid && d.index == f.index && d.dsn == f.dsn))).map
    fun f => ({ f with ctx := 16384, loc := none }, s.lostOffsets f)

/-- The dump as its begin record starts it. -/
def State.dumpImage (s : State) : DumpImage :=
  { seq := max s.hum.replayed (max s.hum.seq ((s.hum.stored.map DumpImage.seq).getD 0)) + 1, tick := s.now, fleet := s.tbu.fleet, dsnNext := s.mxe.dsn
    psnNext := s.mxe.psn, grans := s.dumpGrans, locks := s.mxe.locks, keys := s.cdx.keys, accs := s.spe.inUse, jrnl := [], merged := false, copyS := [], repl := []
    pages := 0, header := false }

/-- A dump can be written: dump dies were recorded, and their area does not hold a dump kept under R50. -/
def State.dumpRoom (s : State) : Bool := s.hum.dies != [] && s.hum.stored.isNone

/-- The dies on which step 2 of R364 ends a program or erase at once, with the operation. -/
def State.runningPe (s : State) (p : Nat → Bool) : List (Nat × Nat × DieOp) :=
  s.dsc.dies.filterMap fun d => if p d.1 then ((s.dsc.running d.1).bind fun e => if e.2.pe then some (d.1, e.1, e.2) else none) else none

/-- A program or erase ends by a suspend that is never resumed, or by Reset LUN (R364). -/
def State.cutOp (suspend : Bool) (s : State) (e : Nat × Nat × DieOp) : State :=
  (s.interruptOp e.1 e.2.1 e.2.2).nandCmd e.1 (if suspend then .suspend else .resetLun)

/-- The HUM enters DUMP (R353, R359 to R361): a test is abandoned; HOLDUP_EN and CHG_CTL as Table 12.2 gives. -/
def State.enterDump (thermal : Bool) (s : State) : State :=
  let r : DumpRun := { thermal := thermal, armed := s.holdupEn, chg := s.holdupEn || s.chgCtl, tick := s.now
                       step := if s.dumpRoom then .slots else .aborted, waited := false, image := s.dumpImage, begun := [], redo := [] }
  (s.modHum fun h => { h with dump := some r, test := none, result := if h.test.isSome then .abandoned else h.result }).setHum .dump

/-- The dump of a supply loss (class 1) or a thermal trip (class 2) begins in this tick (R359, R360): the units act as at their class, and only the dump's operations start; a running dump goes on (R367). -/
def State.dumpBegin (thermal : Bool) (s : State) : State :=
  if s.hum.dump.isSome then s.deviceReset (if thermal then 2 else 1) false
  else
    let s := s.enterDump thermal
    let s := (s.deviceReset (if thermal then 2 else 1) false).modPower fun p => { p with shutWork := false, mediaPend := false }
    let s := (s.modDsc fun d => { d with dumpOnly := true }).modFca fun f => { f with dump := true, gapHeld := false }
    if s.dumpRoom then (s.runningPe fun d => s.hum.dies.contains d).foldl (fun s e => State.cutOp (s.suspLoaded (e.2.2.req.kind == .erase)) s e) s else s

/-! ## Steps (R364) -/

/-- An operation outside the dump runs on some die. -/
def State.othersRun (s : State) : Bool :=
  s.dsc.dies.any fun d => (s.dsc.running d.1).any fun e => match e.2.why with | .dump _ => false | _ => true

/-- Step 4 (R364): DUMP_WAIT_US after a supply loss, Reset LUN to every program and erase still running outside the dump. -/
def State.dumpWaitOver (r : DumpRun) (s : State) : State :=
  let s := (s.runningPe fun d => (s.dsc.running d).any fun e => match e.2.why with | .dump _ => false | _ => true).foldl (State.cutOp false) s
  s.modHum fun h => { h with dump := some { r with waited := true } }

/-- Records of the journal that are not yet on NAND, oldest first. -/
def Mxe.jrnlPending (m : Mxe) : List JournalRecord := m.jpages.flatMap JournalPage.recs ++ m.jbuf

/-- Steps 5 and 6 (R364): the deltas of the programs that reported good commit, then none does; the journal buffer and copy S as they stand go to the dump. -/
def State.journalFreeze (r : DumpRun) (s : State) : State :=
  let s := s.commitReady.modMxe fun m => { m with frozen := true }
  s.modHum fun h => { h with dump := some { r with
    step := .journal, image := { r.image with jrnl := s.mxe.jrnlPending, copyS := s.spe.stripes, dsnNext := s.mxe.dsn, psnNext := s.mxe.psn } } }

/-- Every page but the header's has been programmed good, and none is running. -/
def State.headerDue (s : State) (r : DumpRun) : Bool :=
  r.step == .journal && r.redo.isEmpty && decide (r.image.pages = r.due)
    && !(s.dsc.ops.any fun o => match o.2.why with | .dump _ => true | _ => false)

/-! ## End (R365, R57) -/

/-- A rail without which the controller is unpowered is out of range (R34). -/
def State.coreLost (s : State) : Bool := s.power.railsOut.contains .core || s.power.railsOut.contains .aux

/-- A dump has ended (R57, R359, R365): INIT, key slots cleared, the media let go; without VDD_CORE or VDD_AUX the controller is unpowered (R34). -/
def State.dumpEnd (s : State) : State :=
  let thermal := s.hum.dump.any DumpRun.thermal
  let s := s.mediaEnd.modHum fun h => { h with dump := none }
  let s := s.resetHum.resetUnitRegs UnitNo.hum
  let s := if thermal then s else (s.modMxe fun m => { m with map := [] }).modDmc fun m => { m with bytes := [], poisoned := [] }
  s.modPower fun p => { p with unpowered := p.unpowered || s.coreLost, abortRails := [], dumpEndTick := some s.now }

/-- An entry of REPL_LIST (Table 12.4). -/
def replEntry (e : Nat × Nat × Nat × Nat) : List Byte := leBytes 8 (e.1 % 2 ^ 32 + 2 ^ 32 * (e.2.1 % 2 ^ 10) + 2 ^ 42 * (e.2.2.1 % 2 ^ 13) + 2 ^ 55 * (e.2.2.2 % 2 ^ 9))

/-- The dump header (Table 12.4). -/
def DumpImage.headerBytes (x : DumpImage) : List Byte :=
  let h := leBytes 4 0x9640D0D0 ++ leBytes 4 1 ++ leBytes 8 x.seq ++ leBytes 8 x.tick.toNat ++ leBytes 8 x.fleet.toNat ++ leBytes 8 x.dsnNext ++ leBytes 8 x.psnNext
    ++ leBytes 4 x.slotCount ++ leBytes 4 x.jrnl.length ++ leBytes 4 x.copyS.length ++ leBytes 2 x.accs ++ leBytes 2 x.pages ++ leBytes 2 x.repl.length
    ++ padBytes 1024 (x.repl.flatMap replEntry)
  h ++ leBytes 4 (crc32c h)

/-- The header is good (R365). -/
def State.dumpGood (r : DumpRun) (s : State) : State :=
  let x := { r.image with header := true, pages := r.image.pages + 1, psnNext := s.mxe.psn + 1 }
  let s := (s.modMxe fun m => { m with psn := m.psn + 1 }).modHum fun h => { h with
    stored := some x, areaReady := false, dur10us := min 0xFFFF (s.since r.tick / 8000), mib := min 0xFF (ceilDiv x.pages 64), seq := x.seq }
  let s := (s.setObj Ob.DUMP_COUNT (min 0xFFFFFFFF (s.obj Ob.DUMP_COUNT + 1))).trigger 0x20 UnitNo.hum 0 0
  s.dumpEnd

/-- A dump that ends without a header (R364, R511): what it wrote is found incomplete (R368); a dump kept under R50 stays as it was. -/
def State.dumpLost (r : DumpRun) (s : State) : State :=
  (if s.hum.stored.isSome || r.image.pages = 0 then s else s.modHum fun h => { h with stored := some r.image, areaReady := false }).dumpEnd

/-- An aborted dump ends at the next tick. -/
def State.dumpTick (s : State) : State :=
  match s.hum.dump with
  | some r => if r.step = .aborted ∧ s.othersRun = false then s.dumpLost r else s
  | none => s

end Sys2Proof.Machine
end

