-- ==== Sys2Proof/Machine/Starts.lean ====
section
/-! DEFINITION. Starts (spec/02, spec/07): what the map, the stripes and the dump give at a start (R48, R203, R210, R347, R369), and the entry to Hall (R46, R349). -/

namespace Sys2Proof.Machine

/-! ## The map -/

/-- Segments that a journal record touches. -/
def JournalRecord.segKeys (r : JournalRecord) : List Nat :=
  if r.kind = 3 ∨ r.kind = 4 then (List.range ((r.index + (r.count - 1)) / 816 - r.index / 816 + 1)).map fun k => 2 ^ 32 * r.nsid + (r.index / 816 + k)
  else if r.kind = 5 then []
  else [segKey r.nsid r.index]

/-- Segments whose entries are not all UNMAPPED: those with a copy on NAND or with a journal record. -/
def Mxe.segsInUse (m : Mxe) : List Nat := (m.segs.map (fun e => e.1) ++ m.jnand.flatMap JournalRecord.segKeys).dedup

/-- The map in DRAM is gone: every segment is to be loaded from its copy and the journal (R203). -/
def Mxe.loseMap (m : Mxe) : Mxe :=
  { m with
    map := [], unloaded := m.segsInUse
    dirty := (m.jnand.flatMap JournalRecord.segKeys).dedup.foldl (fun t k => Tbl.put t k (m.jpos - 24 * m.jnand.length)) [] }

/-- Every segment is loaded now. -/
def Mxe.loadAll (m : Mxe) : Mxe :=
  { m with
    map := m.unloaded.foldl (fun t k => (segGranules (k % 2 ^ 32)).foldl (fun t g =>
      Tbl.setD t (granKey (k / 2 ^ 32) g) (m.replayed (k / 2 ^ 32) g) MapEntry.unmapped) t) m.map
    unloaded := [] }

/-- A granule found on NAND: its key, DSN, PSN and entry. -/
structure Found where
  key : Nat
  dsn : Nat
  psn : Nat
  entry : MapEntry
deriving DecidableEq, Repr, Inhabited

/-- Whole granules on NAND in blocks that a predicate names, by their page headers and summaries (R210). -/
def State.foundOn (s : State) (p : Nat → Nat → Bool) : List Found :=
  s.mxe.nand.flatMap fun e =>
    let die := e.1 / 4096 / 8192
    let block := e.1 / 4096 % 8192
    if e.2.good && p die block then
      e.2.slots.zipIdx.filterMap fun c =>
        let l : Loc := ⟨die, block, e.1 % 4096, c.2⟩
        match s.mxe.ns? c.1.hdr.nsid with
        | some n =>
          if c.1.hdr.kind == .data && c.1.hdr.goff == 0 && s.mxe.granuleAt c.1.hdr.nsid c.1.hdr.dsn n.spg l then
            some { key := granKey c.1.hdr.nsid (c.1.hdr.lba * n.lbaBytes / 4096 / n.spg), dsn := c.1.hdr.dsn, psn := c.1.hdr.psn
                   entry := entryAt (if c.1.hdr.slc then 0 else 1) l }
          else none
        | none => none
    else []

/-- R189 between two slots of one granule: the higher DSN, then the higher PSN. -/
def Found.beats (a b : Found) : Bool := decide (b.dsn < a.dsn) || (a.dsn == b.dsn && decide (b.psn < a.psn))

/-- The winners of R189, by granule. -/
def winners (fs : List Found) : List (Nat × Found) :=
  fs.foldl (fun t f => match Tbl.find? t f.key with
    | some b => if f.beats b then Tbl.put t f.key f else t
    | none => Tbl.put t f.key f) []

/-- A deallocation with a higher DSN covers the granule (R210): in the trim log, or in a record that the log does not yet hold. -/
def Mxe.trimmedAfter (m : Mxe) (key dsn : Nat) : Bool :=
  let hit := fun (nsid index count d : Nat) => nsid == key / 2 ^ 40 + 1 && decide (index ≤ key % 2 ^ 40) && decide (key % 2 ^ 40 < index + count) && decide (dsn < d)
  (m.trims.any fun t => hit t.nsid t.index t.count t.dsn)
    || m.jnand.any fun r => (r.kind == 3 || r.kind == 4) && hit r.nsid r.index r.count r.dsn

/-- Valid slots of every band counted from the map (R210). -/
def State.countValid (s : State) : State :=
  s.modMxe fun m => { m with bands := m.bands.map fun b => (b.1, { b.2 with
    valid := m.map.foldl (fun n e => if e.2.located && b.2.members.contains (e.2.loc.die, s.fca.sbOf e.2.loc.block)
      then n + m.spgOf (e.1 / 2 ^ 40 + 1) else n) 0 }) }

/-- The current holder of an entry as a found granule. -/
def Mxe.asFound (m : Mxe) (key : Nat) (e : MapEntry) : Found :=
  let h := (m.cell e.loc).map fun c => (c.hdr.dsn, c.hdr.psn)
  { key := key, dsn := (h.map Prod.fst).getD 0, psn := (h.map Prod.snd).getD 0, entry := e }

/-- Passes of a full scan (R210): 16 B an entry, in the DRAM beside the map and 8 GiB. -/
def State.scanPassCount (s : State) : Nat :=
  let e := s.mxe.nss.foldl (fun t n => t + n.2.granules) 0
  max 1 (ceilDiv (16 * e) (max 1 (s.dmc.capacity - s.mxe.mapBytes - 8 * 2 ^ 30)))

/-- A full scan (R210): the map from page headers and the trim log alone; `trims`: the trim log's records are applied (with a page of it lost they may not be). -/
def State.fullScan (trims : Bool) (s : State) : State :=
  let ws := (winners (s.foundOn fun _ _ => true)).filter fun w => !(trims && s.mxe.trimmedAfter w.1 w.2.dsn)
  let s := s.modMxe fun m => { m with
    map := ws.map fun w => (w.1, w.2.entry), unloaded := [], segs := [], segMap := [], jnand := []
    trims := m.trims ++ (m.jnand.filter fun r => r.kind == 3 || r.kind == 4).map fun r => { nsid := r.nsid, index := r.index, count := r.count, dsn := r.dsn }
    dirty := (ws.map fun w => segKey (w.1 / 2 ^ 40 + 1) (w.1 % 2 ^ 40)).dedup.foldl (fun t k => Tbl.put t k m.jpos) [] }
  s.countValid

/-- The highest BSN that the journal names (Table 7.8). -/
def State.journalBsn (s : State) : Nat :=
  s.mxe.jnand.foldl (fun n r => if r.value.located then max n (((s.bandAt r.value.loc.die r.value.loc.block).map fun b => b.2.bsn).getD 0) else n) 0

/-- A bounded scan (Table 7.8): segments and journal, then the page headers of bands with a BSN at or above the last in the journal. Of two slots of one DSN the one the journal names stays: a copy not committed does not win (Table 7.9). -/
def State.boundedScan (s : State) : State :=
  let s := s.modMxe fun m => m.loseMap.loadAll
  let from_ := s.journalBsn
  let ws := winners (s.foundOn fun d b => (s.bandAt d b).any fun x => decide (from_ ≤ x.2.bsn))
  let s := s.modMxe fun m =>
    let ws := ws.filter fun w => !m.trimmedAfter w.1 w.2.dsn && decide ((m.asFound w.1 (Tbl.getD m.map w.1 MapEntry.unmapped)).dsn < w.2.dsn)
    { m with
      map := ws.foldl (fun t w => Tbl.put t w.1 w.2.entry) m.map
      dirty := ws.foldl (fun t w => if Tbl.has t (segKey (w.1 / 2 ^ 40 + 1) (w.1 % 2 ^ 40)) then t
        else Tbl.put t (segKey (w.1 / 2 ^ 40 + 1) (w.1 % 2 ^ 40)) m.jpos) m.dirty }
  s.countValid

/-- The next DSN and PSN stand above every one found on NAND (R189, R369). -/
def State.raiseNumbers (s : State) : State :=
  s.modMxe fun m => { m with
    dsn := m.nand.foldl (fun n p => p.2.slots.foldl (fun n c => max n (c.hdr.dsn + 1)) n) (m.jnand.foldl (fun n r => max n (r.dsn + 1)) m.dsn)
    psn := m.nand.foldl (fun n p => max n (p.2.psn + 1)) m.psn }

/-! ## Stripes (R347) -/

/-- The newer of the two NAND copies of the stripe journal. -/
def Spe.newerCopy (p : Spe) : List Stripe :=
  let last := fun (xs : List Stripe) => xs.foldl (fun n x => max n x.psnLast) 0
  if last p.nandA < last p.nandB then p.nandB else p.nandA

/-- An entry checked against the page headers: units on NAND are good, cut ones missing, and the accumulators are built again from the good units. -/
def State.rebuildStripe (s : State) (x : Stripe) : Stripe :=
  match Tbl.find? s.mxe.bands x.band with
  | some b =>
    let unit := fun (i : Nat) => let m := x.units.getD i default; Tbl.find? s.mxe.nand (pageKey m.1 (s.unitBlock b m x.pos) (unitPage b x.row x.pos))
    let mask := fun (p : Nat → Bool) => (List.range x.units.length).foldl (fun (v : BitVec 64) i => if p i then v ||| ordBit i else v) 0
    let good := mask fun i => (unit i).any Page.good
    let cut := mask fun i => (unit i).any fun p => !p.good
    let y := { x with good := good, issued := good, missing := x.missing ||| cut, accP := x.accP.map fun _ => 0, accQ := x.accQ.map fun _ => 0 }
    x.dataOrds.foldl (fun y i => match unit i with | some p => if p.good then y.accumulate i p.payload else y | none => y) y
  | none => x

/-- SPE takes the stripes of a start: copy S of a dump as it stood, or the newer NAND copy rebuilt. -/
def State.loadStripes (dump : Option (List Stripe)) (s : State) : State :=
  let xs := match dump with
    | some xs => xs
    | none => s.spe.newerCopy.map s.rebuildStripe
  s.modSpe fun p => { p with stripes := xs, nandA := xs, nandB := xs, okA := true, okB := true, okS := true }

/-! ## Dump replay (R369) -/

/-- The granule's data of this DSN is already on NAND: the journal, the dump's included, holds its record. -/
def Mxe.committedAs (m : Mxe) (f : InFlight) : Bool :=
  m.jnand.any fun r => r.kind == 1 && r.nsid == f.nsid && r.index == f.index && r.dsn == f.dsn

/-- DSN of what the map, its journal replayed, names for a granule, or of a deallocation of it. -/
def Mxe.newestDsn (m : Mxe) (nsid g : Nat) : Nat :=
  let e := m.replayed nsid g
  let t := (m.trims.filter fun t => t.nsid == nsid && decide (t.index ≤ g) && decide (g < t.index + t.count)).foldl (fun n t => max n t.dsn) 0
  let j := (m.jnand.filter fun r => (r.kind == 3 || r.kind == 4) && r.nsid == nsid && decide (r.index ≤ g) && decide (g < r.index + r.count)).foldl (fun n r => max n r.dsn) 0
  max (max t j) (if e.located then (m.asFound 0 e).dsn else 0)

/-- One granule of a dump goes on as a write past its sequence point: into a LANDING band at High class, with its DSN; superseded data will not commit (R197). -/
def State.reenter (keys : List (Nat × Nat)) (s : State) (e : InFlight × List Nat) : State :=
  let f := { e.1 with ctx := 16384, loc := none, pend := 0, kind := .landing, cls := .high, stages := [] }
  if s.mxe.committedAs f || (s.mxe.inflight.any fun x => x.is f.nsid f.index f.dsn) then s
  else
    let d := s.mxe.newestDsn f.nsid f.index
    let w := Tbl.getD s.mxe.writes f.dsn { ctx := none, bufs := [], pend := 0, grans := 0, nsid := f.nsid, posted := true, prot := s.protectedNs f.nsid }
    let s := s.modMxe fun m => { m with
      inflight := m.inflight ++ [f], writes := Tbl.put m.writes f.dsn { w with pend := w.pend + 1, grans := w.grans + 1 }
      committed := if f.dsn < d then Tbl.put m.committed (granKey f.nsid f.index) (max d (Tbl.getD m.committed (granKey f.nsid f.index) 0)) else m.committed }
    if s.mxe.locks.any (fun l => l.is f.nsid f.index f.dsn && !l.need.isEmpty) then s
    else
      let key := (s.mxe.ns? f.nsid).bind fun n => Tbl.find? keys n.keySlot
      let s := (s.placeGranule f.nsid f.index f.dsn e.2).modMxe fun m => { m with
        place := m.place.map fun x => if x.nsid = f.nsid ∧ x.dsn = f.dsn then { x with key := key } else x }
      (s.mxe.place.filter fun x => x.nsid == f.nsid && x.dsn == f.dsn && x.lostFill && s.mxe.spgOf f.nsid * f.index ≤ x.slotNo
        && x.slotNo < s.mxe.spgOf f.nsid * (f.index + 1)).foldl (fun s x => s.lostFillSlot x) s

/-- Replay of a good dump in the order of R369. -/
def State.replayDump (x : DumpImage) (s : State) : State :=
  let s := s.modMxe fun m => (if x.merged then m else { m with jnand := m.jnand ++ x.jrnl, jpos := m.jpos + 24 * x.jrnl.length }).loseMap
  let s := s.loadStripes (if x.merged then none else some x.copyS)
  let s := s.modHum fun h => { h with stored := some { x with merged := true } }
  let s := s.modMxe fun m => { m with dsn := max m.dsn x.dsnNext, psn := max m.psn x.psnNext, locks := m.locks ++ x.locks.filter fun l => !m.locks.contains l }
  (x.grans.foldl (State.reenter x.keys) s).lockStart

/-- Everything that a replay re-entered is durable (R50): the dump is dropped and its area erased (R358). -/
def State.dumpDone (s : State) : State :=
  match s.hum.stored with
  | some x =>
    if s.power.startKind = .dumpReplay ∧ s.power.mapRestored = true ∧ (s.mxe.writes.any fun w => decide (w.1 < x.dsnNext)) = false
        ∧ (s.mxe.jrnlPending.any fun r => r.kind == 1 && r.owner == 16384 && decide (r.dsn < x.dsnNext)) = false then
      s.modHum Hum.dropDump
    else s
  | none => s

/-! ## The start decision (R48) -/

/-- Nothing of the controller is on NAND (R48). -/
def State.blankMedia (s : State) : Bool := !s.mxe.jOkA && !s.mxe.jOkB && s.mxe.nand.isEmpty && s.mxe.segs.isEmpty && s.hum.stored.isNone

/-- The map is restored under a kind of start. -/
def State.restored (k : StartKind) (s : State) : State :=
  (s.modPower fun p => { p with startKind := k, mapRestored := true }).modMxe fun m => { m with mapKept := true }

/-- An incomplete dump (R368): HUM_EVT.DUMP_INCOMPLETE, a Persistent Internal Error, and the record; its area is erased. -/
def State.dumpIncomplete (x : DumpImage) (s : State) : State :=
  ((((s.flag Fld.HUM_EVT.DUMP_INCOMPLETE 0 1).asyncAll AsyncEvent.persistentError).trigger 0x21 UnitNo.hum 0 0)).modHum fun h =>
    { h with stored := none, replayed := max h.replayed x.seq }

/-- A full scan, with the trim log where it can be read (R210): with a page of it lost its ranges may return earlier data. -/
def State.scanFull (trimLost : Bool) (s : State) : State :=
  if trimLost then ((s.drawn.fullScan (s.fresh % 2 == 1)).flag Fld.MXE_SCAN_STS.TRIM_LOST 0 1) else s.fullScan true

/-- A scan begins (R48, R210, Table 18.1): bounded (MODE 1) in one pass, or full (MODE 2) in P. The map is not restored until it ends. -/
def State.scanBegin (full trimLost : Bool) (s : State) : State :=
  let n := if full then min 15 s.scanPassCount else 1
  (((s.trigger 0x0B UnitNo.mxe 0 0).modMxe fun m => { m with
    scanRun := true, scanTrim := trimLost, scanMode := if full then 2 else 1, scanPasses := n, scanPass := 1, scanPct := 0 })).modPower fun p => { p with startKind := .fullScan }

/-- The end of a scan: the map and the stripes are restored (R203, R210, R347). -/
def State.scanEnd (s : State) : State :=
  let s := s.modMxe fun m => { m with scanRun := false, scanPct := 0 }
  let s := ((if s.mxe.scanMode = 2 then s.scanFull s.mxe.scanTrim else s.boundedScan).loadStripes none).trigger 0x0B UnitNo.mxe 0 0
  s.restored .fullScan

/-- A scan goes on with its next pass, and its progress is reported (R210); a pass takes a tick of the model (notes/assumptions/48.md). -/
def State.scanTick (s : State) : State :=
  if s.mxe.scanRun then
    if s.mxe.scanPass < s.mxe.scanPasses then s.modMxe fun m => { m with scanPass := m.scanPass + 1, scanPct := 100 * m.scanPass / m.scanPasses }
    else s.scanEnd
  else s

/-- The dump dies of the next dump (R358): the first DUMP_DIES dies in service; chosen only while no dump is kept. -/
def State.chooseDumpDies (s : State) : State :=
  if s.hum.stored.isSome then s
  else s.modHum fun h => { h with
    dies := ((s.dsc.dies.filter fun d => d.2.state != .offline).map fun d => d.1).take (s.obj Ob.DUMP_DIES), areaReady := true }

/-- R48, in its order, and the restore of Table 7.8. The DRAM's copy of the map serves a clean start only where it was kept through a PERST_N or a link loss, not through a supply loss (Table 2.6). -/
def State.decideStart (found : StartFindings) (s : State) : State :=
  if s.blankMedia then s.restored .blank
  else if s.power.marker then
    ((if found.dramMapOk && s.mxe.mapKept then s else s.modMxe Mxe.loseMap).loadStripes none).restored .clean
  else
    match s.hum.stored with
    | some x =>
      if x.header ∧ found.dumpCrcOk = true ∧ s.hum.replayed < x.seq then (s.replayDump x).restored .dumpReplay
      else (s.dumpIncomplete x).scanBegin true found.trimLost
    | none =>
      s.scanBegin (!found.dirOk) found.trimLost

/-- The loader chooses the take (R452) and decides the kind of start (R48); HUM_CAP and the dump registers reload (Table 12.6). -/
def State.startDecision (found : StartFindings) (s : State) : State :=
  let s := s.chooseTake
  if s.power.startKind = .held then s
  else
    let s := (s.decideStart found).raiseNumbers.chooseDumpDies.modHum fun h => { h with loaded := true, capUf := s.obj Ob.LAST_CAP_UF }
    s.modMxe fun m => { m with spare := s.spareNow }

/-! ## Hall (R46, R349) -/

/-- A stripe is sealed at the entry to Hall (R349): PAD for its missing data units, its parity units where none is programmed. -/
def State.sealAtHall (s : State) (x : Stripe) : State :=
  match Tbl.find? s.mxe.bands x.band with
  | some b =>
    match x.state with
    | .gathering => (s.padStripe x b).sealStripe x b .high
    | .sealing =>
      let todo := fun (i : Nat) => let m := x.units.getD i default; !x.good.getLsbD i && !x.missing.getLsbD i && !s.pageUsed m.1 (s.unitBlock b m x.pos, unitPage b x.row x.pos)
      let qOrd := (x.pOrd + 1) % x.units.length
      let s := if x.cls ≠ .none ∧ todo x.pOrd = true then s.submitParity x b x.pOrd false (x.accP.getD 0) .high else s
      if x.cls = .pq ∧ todo qOrd = true then s.submitParity x b qOrd true (x.accQ.getD 0) .high else s
    | .held | .degraded => s
  | none => s

/-- A band stood OPEN or CLOSING before this start. -/
def State.bandOld (s : State) (b : Band) : Bool :=
  (b.state == .opened || b.state == .closing) && (match s.power.bootTick with | some t => !decide (t.toNat ≤ b.opened.toNat ∧ b.opened.toNat ≤ s.now.toNat) | none => true)

/-- Every stripe of the bands that stood open is sealed, and the bands are closed by padding (R349). -/
def State.sealOpenBands (s : State) : State :=
  let old := s.mxe.bands.filter fun b => s.bandOld b.2
  let s := (s.spe.stripes.filter fun x => old.any fun b => b.1 == x.band).foldl State.sealAtHall s
  old.foldl (fun s b => (s.padBand b.1 .high).bandFilled b.1) s

/-- Milliseconds since the last PERST_N release (MGP_STAGE_TIME). -/
def State.msSinceRelease (s : State) : Nat := match s.power.releaseTick with | some t => min 0xFFFFFFFF (s.since t / 800000) | none => 0

/-- The other cluster leaves RESET (R419). -/
def Ccl.releaseOther (c : Ccl) : Ccl := if c.st (otherCluster c.owner) = .reset then { c with leave := otherCluster c.owner :: c.leave } else c

/-- Entry to Hall (R46 and what other chapters time from it). -/
def State.enterHall (s : State) : State :=
  let s := (s.setStage .hall).modPower fun p => { p with hallTick := some s.now, stageMs := s.msSinceRelease }
  let s := s.setObj Ob.LAST_HALL_MS s.msSinceRelease
  let s := if s.power.offDue then s.addOffInterval else s
  let s := (s.sealOpenBands.galReload.hallCru).modPower fun p => { p with offDue := false }
  let s := (s.modCcl Ccl.releaseOther).modCsu fun u => { u with window := if u.cfg.takeState = 2 then some s.now else u.window }
  let s := (s.modQen fun q => { q with rescue := { q.rescue with open_ := false } }).modHum fun h => { h with testDue := true }
  s.rebuildResume.readyAll

end Sys2Proof.Machine
end

