-- ==== Sys2Proof/Machine/Power.lean ====
section
/-! DEFINITION. The meanings of the power and start commands (spec/02, spec/12, spec/20): rails, the hold-up dump, PERST_N, the stages, and AVS. -/

namespace Sys2Proof.Machine

/-! ## VDD_AUX and power-up -/

/-- The RETAINED store and the event log are lost (R482); HEALTH_SUMMARY reads 0 when VDD_AUX returns (R478). -/
def State.loseRetained (s : State) : State :=
  let ret := fun (k : Nat) => (objAt (k / 256) (k % 256)).any fun o => o.pers == .retained
  { s with
    sheet := s.sheet.filter (fun e => !ret e.1), sheetOld := s.sheetOld.filter (fun e => !ret (e.1 % 2 ^ 40))
    mgp := { s.mgp with events := [], summary := 0 } }

/-- VDD_AUX is in range: SMBUS_ADDR applies, no I3C address is assigned, the HUM is in INIT (Table 12.2, R518). -/
def State.auxRise (s : State) : State :=
  (s.modPower fun p => { p with railsOut := p.railsOut.filter (· != .aux), stairSeen := false }).resetHum.modMgp fun m =>
    { m with smbusAddr := s.obj Ob.SMBUS_ADDR, i3cAddr := none }

/-- AUX_POWER_UP (R39): VDD_AUX comes into range; Foyer, sideband only. -/
def execAuxPowerUp (s : State) : Out := if s.power.railsOut.contains .aux then .next s.auxRise else .next s

/-- The controller loses power with no dump running (R34): everything volatile is gone. -/
def State.powerOff (s : State) : State :=
  let s := ((s.runningPe fun _ => true).foldl (State.cutOp false) s).unitsReset true false
  let s := s.mediaEnd.resetHum.resetUnitRegs UnitNo.hum
  ((s.modMxe fun m => { m with map := [] }).modDmc fun m => { m with bytes := [], poisoned := [] }).modPower fun p => { p with unpowered := true }

/-- AUX_POWER_LOSS (R34, R482, R491): RETAINED objects, the event log and recorder staging are lost; with no dump running the controller is unpowered. -/
def execAuxPowerLoss (s : State) : Out :=
  if s.power.railsOut.contains .aux then .next s
  else
    let s := s.modPower fun p => { p with railsOut := .aux :: p.railsOut }
    let s := if s.hum.dump.isSome then s else s.powerOff
    .next s.loseRetained.loseStaging

/-- What Table 2.6 clears at a power-up beyond what every event of class 1 to 3 clears, and what starts then (R302, R388, R420, R442, R443, R474). -/
def State.powerUpClear (s : State) : State :=
  { s with
    timers := Timers.initial, regf := RegFile.initial, hlu := Hlu.initial
    tbu := { Tbu.initial with fleet := BitVec.ofNat 64 s.cdx.fleetStored }
    cdx := { s.cdx with theta := BitVec.ofNat 64 s.cdx.thetaStored, thetaHi := 0, offEst := false, offGuess := 0, kekGen := s.csu.kekGen }
    bpm := { Bpm.initial with ringDepth := s.bpm.ringDepth, urgentSets := s.bpm.urgentSets }
    dmc := Dmc.initial, ccl := Ccl.initial, csu := { s.csu with session := false, wp := 0 }
    fca := { s.fca with vin := none, vddq := none, pwrfail := none, vddqDump := false }
    mxe := { s.mxe with map := [] }
    power := { s.power with
      railsOut := [], perst := true, pwrfail := false, unpowered := false, tripHeld := false, lossHeld := false, tripSensor := none, coolSince := none, dumpEndTick := none, abortRails := []
      avsMv := 720, avsPend := none, avsTick := none, offDue := true } }

/-- POWER_UP (R34, R53): all eight rails are in range after the controller was unpowered; POWER_CYCLES counts it. -/
def execPowerUp (s : State) : Out :=
  if s.power.unpowered then
    let s := if s.power.railsOut.contains .aux then s.auxRise else s
    let s := s.powerUpClear.modMxe Mxe.loseMap
    .next ((s.setObj Ob.POWER_CYCLES (min 0xFFFFFFFF (s.obj Ob.POWER_CYCLES + 1))).drawChallenge)
  else .next s

/-! ## Supply loss and the dump -/

/-- A supply-loss event (R57, R359): the guard's PWRFAIL, the dump, the record; the controller is held until R57's start. -/
def State.supplyLost (s : State) : State :=
  let s := (s.dumpBegin false).modPower fun p => { p with lossHeld := true }
  (s.guardOnset .pwrfail).trigger 0x00 UnitNo.hum 0 0

/-- SUPPLY_LOSS (R34, R359): PWRFAIL_N, or a main rail that leaves its range. -/
def execSupplyLoss (cause : SupplyCause) (s : State) : Out :=
  if s.power.unpowered then .next s
  else
    match cause with
    | .pwrfailN => if s.power.pwrfail then .next s else .next (s.modPower fun p => { p with pwrfail := true }).supplyLost
    | .rail r =>
      if r = .aux ∨ s.power.railsOut.contains r = true then .next s else .next (s.modPower fun p => { p with railsOut := r :: p.railsOut }).supplyLost

/-- DUMP_WAIT_EXPIRY (R364 step 4): DUMP_WAIT_US after a supply loss; a thermal trip's dump has no such step (R360). -/
def execDumpWaitExpiry (s : State) : Out :=
  match s.hum.dump with
  | some r =>
    if r.thermal = false ∧ r.waited = false ∧ r.step = .slots ∧ s.passed r.tick (usTicks (s.obj Ob.DUMP_WAIT_US)) = true then .next (s.dumpWaitOver r)
    else .next s
  | none => .next s

/-- JOURNAL_FREEZE (R364 step 5): the first tick in which no operation outside the dump runs. -/
def execJournalFreeze (s : State) : Out :=
  match s.hum.dump with
  | some r => if r.step = .slots ∧ s.othersRun = false then .next (s.journalFreeze r) else .next s
  | none => .next s

/-- DUMP_HEADER_GOOD (R365): after every other page, the header's program reports good. -/
def execDumpHeaderGood (s : State) : Out :=
  match s.hum.dump with
  | some r => if s.headerDue r then .next (s.dumpGood r) else .next s
  | none => .next s

/-- Rails with an abort level (20). -/
def railAborts : Rail → Bool
  | .core | .sram | .nand | .io | .aux => true
  | .pcieL | .pcieH | .ddr => false

/-- RAIL_ABORT_LEVEL (R511): the rail is out of its range (with VDD_AUX the RETAINED objects, the event log and recorder staging go, R34, R482); no further dump program starts, and no header is written; a rail without an abort level does not affect the dump. -/
def execRailAbortLevel (r : Rail) (s : State) : Out :=
  match s.hum.dump with
  | some d =>
    if railAborts r then
      let s := if r = .aux ∧ s.power.railsOut.contains .aux = false then s.loseRetained.loseStaging else s
      .next ((s.modHum fun h => { h with dump := some { d with step := .aborted } }).modPower fun p =>
        { p with abortRails := r :: p.abortRails.erase r, railsOut := r :: p.railsOut.erase r })
    else .next s
  | none => .next s

/-- SUPPLY_RESTORE_START (R57, R257): PWRFAIL_N has deasserted, and every rail has stayed in range for 10 ms after the dump's end; the start follows as after a release of PERST_N. -/
def execSupplyRestoreStart (s : State) : Out :=
  if s.power.lossHeld ∧ s.hum.dump = none ∧ s.power.unpowered = false ∧ s.power.dumpEndTick.all (fun t => s.passed t (msTicks 10)) = true then
    .next (((s.modPower fun p => { p with lossHeld := false, pwrfail := false, railsOut := [] }).modFca fun f => { f with pwrfail := none }).release)
  else .next s

/-- THERMAL_TRIP (R56, R360): class 2; the dump runs from main power, and the controller is held while hot. -/
def execThermalTrip (sensor : Nat) (s : State) : Out :=
  if s.power.unpowered then .next s
  else .next (((s.dumpBegin true).modPower fun p => { p with tripHeld := true, tripSensor := some sensor, coolSince := none }).trigger 0x01 UnitNo.dsc sensor 0)

/-- THERMAL_TRIP_RELEASE (R56): every sensor below 110 °C for 1 s, after the dump. -/
def execThermalTripRelease (s : State) : Out :=
  if s.power.tripHeld ∧ s.hum.dump = none ∧ s.passedSome s.power.coolSince (secTicks 1) = true then .next (s.modPower fun p => { p with tripHeld := false, tripSensor := none }).release
  else .next s

/-! ## PERST_N and the stages -/

/-- PERST_N_ASSERT (R36, R38). -/
def execPerstNAssert (s : State) : Out :=
  if s.power.perst ∨ s.power.unpowered = true then .next s else .next (s.modPower fun p => { p with perst := true }).classThree

/-- PERST_N_RELEASE (R37, R40). -/
def execPerstNRelease (s : State) : Out :=
  if s.power.perst ∧ s.power.unpowered = false then .next (s.modPower fun p => { p with perst := false }).release else .next s

/-- CONFIGURATION_SPACE_READY (R40): with all rails in range, after a release. -/
def execConfigurationSpaceReady (s : State) : Out :=
  if s.power.releaseTick.isSome ∧ s.power.railsOut = [] then .next (s.modPower fun p => { p with cfgReady := true }) else .next s

/-- A configuration write's effect on one function (R64, R65, R71, R75 to R81). -/
def State.cfgWrite (fn : Nat) (w : CfgWrite) (s : State) : State :=
  let modFn := fun (f : FnCfg → FnCfg) (s : State) => s.modHlu fun h => { h with fns := Tbl.put h.fns fn (f (Tbl.getD h.fns fn default)) }
  match w with
  | .link l0p l1 l11 l12 => s.modHlu fun h => { h with l0pEn := l0p, l1En := l1, l11En := l11, l12En := l12 }
  | .device mps mrrs tag10 => s.modHlu fun h => { h with mps := mps, mrrs := mrrs, tag10 := tag10 }
  | .completionTimeout us => s.modHlu fun h => { h with cplTimeoutUs := us }
  | .ptm en => s.modHlu fun h => { h with ptmEn := en }
  | .ats en => modFn (fun f => { f with ats := en }) s
  | .memorySpace en => modFn (fun f => { f with memSpace := en }) s
  | .sriov vfEn vfMse n => s.modHlu fun h => { h with vfEn := vfEn, vfMse := vfMse, numVfs := min n 63 }
  | .ecrc gen chk => s.modHlu fun h => { h with ecrcGen := gen, ecrcChk := chk }

/-- Capabilities of the configuration space that the model reads: PCI Express, MSI-X, and the extended ones for SR-IOV, ATS and PASID, by their identifiers. -/
def Cap.pcie := 0x10
def Cap.msix := 0x11
def Cap.ats := 0x10F
def Cap.sriov := 0x110
def Cap.pasid := 0x11B

/-- Code of Max_Payload_Size and Max_Read_Request_Size. -/
def sizeCode (n : Nat) : Nat := Nat.log2 (n / 128)

/-- Registers of the capabilities of a function: place and value. What the spec gives of them (Table 3.1, R64, R69, R75, R79); the layout of each capability is that of PCIe 6.0 Base (notes/assumptions/10.md). -/
def State.cfgCaps (s : State) (fn : Nat) : List (Nat × Nat) :=
  let h := s.hlu
  let at_ := fun (c o : Nat) => Config.capBase c fn + o
  [(at_ Cap.pcie 4, 2 + 2 ^ 28), (at_ Cap.pcie 8, 2 ^ 5 * sizeCode h.mps + 2 ^ 12 * sizeCode h.mrrs)
  , (at_ Cap.pcie 0xC, 6 + 2 ^ 4 * 16 + 2 ^ 10 * 2 + 2 ^ 18), (at_ Cap.pcie 0x10, 2 * bit01 h.l1En + 2 ^ 16 * (h.rate + 2 ^ 4 * h.width))
  , (at_ Cap.pcie 0x24, 0xF + 2 ^ 4 + 2 ^ 11 + 2 ^ 16 + 2 ^ 17), (at_ Cap.pcie 0x28, 2 ^ 4 * bit01 (h.cplTimeoutUs == 0) + 2 ^ 12 * bit01 h.tag10)
  , (at_ Cap.msix 0, 0x11 + 2 ^ 16 * (if fn = 0 then 4095 else 255)), (at_ Cap.msix 4, if fn = 0 then 0xF00000 + 4 else 0xE000)
  , (at_ Cap.msix 8, if fn = 0 then 0xF10000 + 4 else 0xF000), (at_ Cap.ats 4, 2 ^ 31 * bit01 (h.fn fn).ats), (at_ Cap.pasid 4, 2 ^ 8 * 20)]
  ++ (if fn = 0 then
      [(at_ Cap.sriov 8, bit01 h.vfEn + 2 ^ 3 * bit01 h.vfMse), (at_ Cap.sriov 0xC, 63 + 2 ^ 16 * 63), (at_ Cap.sriov 0x10, h.numVfs)
      , (at_ Cap.sriov 0x14, 1 + 2 ^ 16), (at_ Cap.sriov 0x18, 2 ^ 16 * 0x9641)] else [])

/-- A configuration register that the spec gives a value (R63, R525; spec/03): the identifiers, the Command register's enables, class code and Revision ID, no interrupt pin, and the capabilities' registers. -/
def State.cfgReg (s : State) (fn off : Nat) : Option Nat :=
  match off with
  | 0x00 => some (if fn = 0 then Config.vendorId + 2 ^ 16 * 0x9640 else 0xFFFFFFFF)
  | 0x04 => some (2 * bit01 (s.hlu.fn fn).memSpace + 4 * bit01 (s.hlu.fn fn).busMaster + 2 ^ 20)
  | 0x08 => some (0x01080210)
  | 0x2C => some (Config.vendorId + 2 ^ 16 * s.power.subsysId)
  | 0x3C => some 0
  | _ => Tbl.find? (s.cfgCaps fn) off

/-- CONFIGURATION_REQUEST (R40, R88): Configuration Request Retry Status before readiness and during an FLR; else the write's effect, or the register's data, a free value where the model holds no such register. Without a link none arrives. -/
def execConfigurationRequest (fn offset : Nat) (wr : Option CfgWrite) (s : State) : Out :=
  if s.inboundHeld then .next s
  else
    let s := s.arrive 0
    if s.power.cfgReady = false ∨ (Tbl.getD s.hlu.fns fn default).flr = true then .next (s.emit (.cfgCompletion fn offset none))
    else
      match wr with
      | some w => .next ((s.cfgWrite fn w).emit (.cfgCompletion fn offset (some 0)))
      | none =>
        match s.cfgReg fn offset with
        | some v => .next (s.emit (.cfgCompletion fn offset (some (BitVec.ofNat 32 v))))
        | none => .next (s.drawn.emit (.cfgCompletion fn offset (some (BitVec.ofNat 32 s.fresh))))

/-- The boot ROM may start (R38, R42, R56, R57, R513): after a release, with the work of R38 and any dump ended, and 100 µs after the request for 0.72 V. -/
def State.bootReady (s : State) : Bool :=
  s.power.stage == .foyer && s.power.releaseTick.isSome && !s.power.shutWork && !s.power.mediaPend && s.hum.dump.isNone && s.power.railsOut.isEmpty
    && s.power.avsPend.isNone && s.power.avsTick.all (fun t => s.passed t 80000)

/-- Life bits of HEALTH_SUMMARY from EW_LIFE, and level bits that hold, at the first Stair stage after VDD_AUX came into range (R478). -/
def State.healthAtStair (s : State) : State :=
  if s.power.stairSeen then s
  else
    let life : BitVec 15 := s.mgp.ewLife &&& 0x1F
    ((s.modMgp fun m => { m with summary := m.summary ||| life }).modPower fun p => { p with stairSeen := true }).failedHealth.spareEvents

/-- The cluster on which the boot ROM runs is ACTIVE and owns the next epoch (R419, R420). -/
def State.bootCluster (aPasses : Bool) (s : State) : State :=
  let s := if aPasses then s else s.failCluster .a
  let k : Cluster := if aPasses then .a else .b
  s.modCcl fun c => { c.setSt k .active with epoch := c.epoch + 1, owner := k, heartbeat := s.now, rotateTick := s.now, selftestTick := s.now, ckptTick := s.now }

/-- BOOT_ROM_START (R42): Stair; the protection and the seal apply (R441, R442), and what takes effect at an entry to Stair (R327, R378, R391, R413, Table 12.2, R491). -/
def execBootRomStart (aPasses : Bool) (s : State) : Out :=
  if s.bootReady then
    let s := ((s.setStage .stair).modPower fun p => { p with bootTick := some s.now, stageMs := s.msSinceRelease }).bootCluster aPasses
    let s := (s.modCsu fun u => { u.slideAfterLoss with wp := u.bootWp s.cru.firstUsed }).startCru.humInit
    let s := s.modSpe fun p => { p with accBufs := s.obj Ob.ACC_BUFS }
    let s := (s.rebuildPools true).modDmc fun m => { m with order := s.obj Ob.ADDR_ORDER, spareMib := s.obj Ob.RETIRE_SPARE_MIB }
    .next s.retReload.healthAtStair
  else .next s

/-- ADMIN_SUBSET_OPEN (R43, R45): in Stair; the rescue registers open with it. -/
def execAdminSubsetOpen (s : State) : Out :=
  if s.power.stage = .stair then
    .next (((s.modPower fun p => { p with adminOpen := true }).modQen fun q => { q with rescue := { q.rescue with open_ := true } }).readyAll)
  else .next s

/-- START_DECISION (R48): in Stair, once, with NAND initialised and DRAM trained. -/
def execStartDecision (found : StartFindings) (s : State) : Out :=
  if s.power.stage = .stair ∧ s.power.startKind = .undecided ∧ s.fca.initialised = true ∧ s.dmc.trained = true then .next (s.startDecision found)
  else .next s

/-- HALL_ENTRY (R46): the map is restored; not while a rescue session is open (R129), and not in the tick of an event of class 1 to 3 (R52). -/
def execHallEntry (s : State) : Out :=
  if s.power.stage = .stair ∧ s.power.mapRestored = true ∧ s.power.startKind ≠ .held ∧ s.qen.rescue.session = false ∧ s.tbu.resetNow = false then .next s.enterHall
  else .next s

/-- NVM_SUBSYSTEM_RESET (R58): the link goes down, handled as a link-down event. -/
def execNvmSubsystemReset (s : State) : Out := if s.hlu.up then .next s.linkLost else .next s

/-! ## Time and AVS -/

/-- POWER_ON_SECONDS_STORE (R53, Table 2.4): every 60 s with VDD_CORE in range. -/
def execPowerOnSecondsStore (s : State) : Out :=
  if s.power.unpowered = false ∧ s.passed s.timers.seconds (secTicks 60) = true then
    .next ((s.setObj Ob.POWER_ON_SECONDS (s.obj Ob.POWER_ON_SECONDS + 60)).modTimers fun t => { t with seconds := t.seconds + 48000000000 })
  else .next s

/-- A request is sent (R512). -/
def State.avsSend (mv : Nat) (s : State) : State := (s.modPower fun p => { p with avsMv := mv, avsPend := none, avsTick := some s.now }).emit (.avs mv)

/-- AVS_REQUEST (R512, R513): in Hall, 650 to 800 mV in steps of 5 mV, at most one in 1 ms. -/
def execAvsRequest (mv : Nat) (s : State) : Out :=
  if s.power.stage = .hall ∧ 650 ≤ mv ∧ mv ≤ 800 ∧ mv % 5 = 0 ∧ s.power.avsTick.all (fun t => s.passed t (msTicks 1)) = true then .next (s.avsSend mv)
  else .next s

end Sys2Proof.Machine
end

