-- ==== Sys2Proof/Machine/Regs.lean ====
section
/-! DEFINITION. Register reads: the live value of every field that a unit computes, the instance that a selector shows, the value of a whole word, and the effects of a read (R4, R8, R27, R498, R499, R503, R507). -/

namespace Sys2Proof.Machine

/-- Whose selectors a read goes through: the cluster (0 A, 1 B) and the pair. -/
structure View where
  inst : Nat
  pair : Nat
deriving DecidableEq, Repr, Inhabited

/-- The view of the host and of the recorder: the selectors of the cluster that owns the epoch (notes/assumptions/32.md). -/
def State.ownerView (s : State) : View := ⟨s.ownerInst, 0⟩

/-- The view of an accessor. -/
def State.viewOf (s : State) : Accessor → View
  | .host _ _ => s.ownerView
  | .firmware k p _ => ⟨clusterNo k, p⟩

/-- Bits of a word for which a test holds, bit n standing for number `first + n`. -/
def maskFrom (first : Nat) (p : Nat → Bool) : Nat := (List.range 32).foldl (fun v n => v + bit01 (p (first + n)) * 2 ^ n) 0

/-- A function has quarantined tags (HLU_QUAR). -/
def Hlu.quarantined (h : Hlu) (fn : Nat) : Bool := h.tags.any fun t => t.2.fn == fn && t.2.phase == .quarantined

/-- A function's work is stalled because its Bus Master Enable is clear (HLU_FN_STALL, R85, R86). -/
def State.fnStalled (s : State) (fn : Nat) : Bool :=
  !s.busMaster fn && s.qen.ctxs.any fun e => e.2.fn == fn && e.2.bmeStall

/-- Fields of HLU that are live, by offset and low bit. -/
def State.hluLive (s : State) (o l : Nat) : Option Nat :=
  match o, l with
  | 0x100, 31 => some (bit01 s.hlu.up)
  | 0x100, 30 => some (bit01 s.hlu.flit)
  | 0x100, 16 => some s.hlu.l0pWidth
  | 0x100, 8 => some s.hlu.width
  | 0x100, _ => some s.hlu.rate
  | 0x110, _ => some s.hlu.outstanding
  | 0x120, _ => some (maskFrom 0 s.hlu.quarantined)
  | 0x124, _ => some (maskFrom 32 s.hlu.quarantined)
  | 0x128, _ => some (maskFrom 0 s.fnStalled)
  | 0x12C, _ => some (maskFrom 32 s.fnStalled)
  | 0x130, 31 => some (bit01 s.hlu.ptmValid)
  | _, _ => none

/-- QEN_ACT_STS.PHASE. -/
def actCode : ActPhase → Nat
  | .none => 0
  | .draining => 1
  | .cut => 2

/-- Live fields of QEN. -/
def State.qenLive (s : State) (o l : Nat) : Option Nat :=
  match o, l with
  | 0x100, 31 => some (bit01 s.atBound)
  | 0x100, _ => some (s.qen.ctxs.length + s.qen.freed.length)
  | 0x120, _ => some (actCode s.qen.act)
  | 0x124, 7 => some (bit01 s.qen.entryPend.isSome)
  | 0x124, _ => some s.qen.ps
  | 0x8008, 31 => some (bit01 s.qen.rescue.busy)
  | 0x8008, 30 => some (bit01 s.qen.rescue.open_)
  | 0x8008, 29 => some (bit01 s.qen.rescue.session)
  | 0x8008, 16 => some s.qen.rescue.seq.toNat
  | 0x8008, _ => some s.qen.rescue.result
  | 0x8020, _ => some s.qen.rescue.out0.toNat
  | 0x8024, _ => some s.qen.rescue.out1.toNat
  | _, _ => none

/-- The sum of one object over the slices (TNU_ADMIT_RD and the registers after it). -/
def State.sliceSum (s : State) (o : Obj) : Nat := s.sliceIds.foldl (fun t n => t + s.sliceObj o n) 0

/-- Live fields of TNU; `n` is the selected slice. -/
def State.tnuLive (s : State) (n o l : Nat) : Option Nat :=
  match o, l with
  | 0x104, 31 => some (bit01 (s.bound n))
  | 0x104, 30 => some (s.sliceObj Ob.PASID_VALID n)
  | 0x104, 29 => some (bit01 (s.tnu.slice n).belowRd)
  | 0x104, 28 => some (bit01 (s.tnu.slice n).belowWr)
  | 0x104, 27 => some (bit01 (s.tnu.slice n).belowCmd)
  | 0x104, 26 => some (bit01 (s.tokensHeld n))
  | 0x104, 25 => some (bit01 (s.dieMove n))
  | 0x104, 24 => some (bit01 (s.tnu.slice n).quiesced)
  | 0x104, 23 => some (bit01 (s.tnu.slice n).reset.isSome)
  | 0x104, _ => some (s.qen.sliceAlloc n)
  | 0x108, _ => some (s.sliceObj Ob.PASID n)
  | 0x114, 31 => some (bit01 s.sliceResetBusy)
  | 0x114, 0 => some s.tnu.rstSlice
  | 0x124, _ => some s.tnu.violSlice
  | 0x140, _ => some (s.sliceSum Ob.RD_FLOOR)
  | 0x144, _ => some (s.sliceSum Ob.WR_FLOOR)
  | 0x148, _ => some (s.sliceSum Ob.CMD_FLOOR)
  | _, _ => none

/-- Live fields of GAL; `w` is the selected window of the selected view. Window registers hold the words of Table 6.3. -/
def State.galLive (s : State) (w : Window) (o m l : Nat) : Option Nat :=
  match o with
  | 0x104 => some (bitsOf (w.get 1).toNat m l)
  | 0x108 => some (bitsOf (w.get 2).toNat m l)
  | 0x10C => some (bitsOf (w.get 3).toNat m l)
  | 0x110 => some (bitsOf (w.get 4).toNat m l)
  | 0x114 => some (bitsOf (w.get 5).toNat m l)
  | 0x118 => some (bitsOf (w.get 6).toNat m l)
  | 0x11C => some (bitsOf (w.get 7).toNat m l)
  | 0x120 => some (bitsOf (w.get 8).toNat m l)
  | 0x144 => some s.gal.commitSts
  | 0x154 => some (if l = 31 then bit01 s.gal.errNone else s.gal.errWin)
  | 0x160 => some (if l = 31 then bit01 s.gal.panic else s.gal.fill / 1024)
  | _ => none

/-- Live fields of MXE. -/
def State.mxeLive (s : State) (o l : Nat) : Option Nat :=
  match o, l with
  | 0x100, 31 => some (bit01 (s.power.mapRestored && s.mxe.unloaded.isEmpty))
  | 0x100, 30 => some (bit01 s.mxe.strict)
  | 0x100, 29 => some (bit01 s.mxe.scanRun)
  | 0x104, _ => some s.mxe.unloaded.length
  | 0x108, _ => some (s.mxe.nextDsn % 2 ^ 32)
  | 0x10C, _ => some s.mxe.dsnHi.toNat
  | 0x110, _ => some (s.mxe.psn % 2 ^ 32)
  | 0x114, _ => some s.mxe.psnHi.toNat
  | 0x120, 16 => some (min 0xFFFF (s.mxe.jbytes / 2 ^ 20))
  | 0x120, _ => some (24 * s.mxe.jbuf.length / 1024)
  | 0x124, 2 => some (bit01 (decide (2 ^ 30 * s.obj Ob.JRNL_MAX_GIB ≤ s.mxe.jbytes)))
  | 0x124, 1 => some (bit01 (decide (131072 ≤ s.mxe.inflight.length)))
  | 0x124, _ => some (bit01 (decide (65536 ≤ s.mxe.lockedGrans)))
  | 0x140, 8 => some (bit01 s.mxe.readOnly)
  | 0x140, _ => some s.mxe.availPct
  | 0x144, _ => some s.mxe.retiredCount
  | 0x150, 8 => some s.mxe.scanMode
  | 0x150, 4 => some s.mxe.scanPasses
  | 0x150, 0 => some s.mxe.scanPass
  | 0x160, _ => some s.lzFree
  | 0x164, _ => some (s.mxe.bands.filter fun b => b.2.state == .opened || b.2.state == .closing).length
  | _, _ => none

/-- Codes of Table 8.2. -/
def dieCode : DieState → Nat
  | .idle => 0
  | .busy => 1
  | .suspPend => 2
  | .suspended => 3
  | .offline => 4

/-- The operation that a number names. -/
def Dsc.opAt (d : Dsc) (i : Option Nat) : Option DieOp := i.bind fun n => Tbl.find? d.ops n

/-- Live fields of DSC; `n` is the selected die. -/
def State.dscLive (s : State) (n o l : Nat) : Option Nat :=
  let x := s.dsc.die n
  match o, l with
  | 0x100, 16 => some s.dsc.budget
  | 0x100, _ => some s.dsc.held
  | 0x10C, 16 => some (ofInt 8 s.dsc.tj)
  | 0x10C, _ => some s.dsc.step
  | 0x114, 29 => some (dieCode x.state)
  | 0x114, 26 => some x.queue.length
  | 0x114, 23 => some (((s.dsc.opAt x.active).map fun p => clsCode p.eff).getD 0)
  | 0x114, 20 => some (((s.dsc.opAt x.active).map fun p => opKindCode p.req.kind).getD 0)
  | 0x114, _ => some (min 15 (((s.dsc.opAt (if x.held.isSome then x.held else x.active)).map DieOp.susp).getD 0))
  | 0x120, _ => some (s.dsc.dies.foldl (fun t d => t + bit01 d.2.active.isSome + bit01 d.2.held.isSome + d.2.queue.length) 0)
  | _, _ => none

/-- Live fields of FCA; `c` is the selected channel, `d` the die whose temperature is shown. -/
def State.fcaLive (s : State) (c d o l : Nat) : Option Nat :=
  let x := Tbl.getD s.fca.chs c { trained := false, mts := 0, mode := 0, multi := s.multiDrop c, present := 0, volume := [], trainTemp := [] }
  match o, l with
  | 0x104, 31 => some (bit01 x.trained)
  | 0x104, 30 => some (bit01 x.multi)
  | 0x104, 28 => some x.mode
  | 0x104, 16 => some ((List.range 32).filter fun n => x.present.getLsbD n).length
  | 0x104, _ => some (if x.trained then x.mts else 0)
  | 0x108, _ => some x.present.toNat
  | 0x120, 4 => some (bit01 s.fca.dump)
  | 0x120, 3 => some (bit01 (s.fca.tempHeld != [] || s.fca.staleHeld != []))
  | 0x120, 2 => some (bit01 s.fca.pwrfail.isSome)
  | 0x120, 1 => some (bit01 s.fca.vddq.isSome)
  | 0x120, _ => some (bit01 s.fca.vin.isSome)
  | 0x134, 31 => some (match Tbl.find? s.fca.temps d with
    | some t => bit01 (!s.passed t.2 (msTicks (2 * s.obj Ob.TEMP_POLL_MS)))
    | none => 0)
  | 0x134, _ => some (match Tbl.find? s.fca.temps d with
    | some t => ofInt 8 t.1
    | none => 0)
  | 0x140, _ => some s.fca.verify.length
  | _, _ => none

/-- Progress of the scrub period: the CLOSED bands visited, in percent (CDX_SCRUB_STS.PASS_PCT). -/
def State.scrubPct (s : State) : Nat :=
  let closed := s.mxe.bands.filter fun b => b.2.state == .closed
  if closed = [] then 0 else 100 * (closed.filter fun b => s.cdx.visited.contains b.1).length / closed.length

/-- CDX_KEY_STS.RESULT. -/
def keyCode : KeyResult → Nat
  | .ok => 0
  | .keyBad => 1
  | .badOp => 2

/-- Live fields of CDX. A decode is one command, so no engine is busy and no codeword waits between commands; `k` is the word of an array. -/
def State.cdxLive (s : State) (k o l : Nat) : Option Nat :=
  match o, l with
  | 0x100, 24 => some (enginesBusy s.cdx.frames .hard)
  | 0x100, 16 => some (enginesBusy s.cdx.frames .soft)
  | 0x100, 8 => some (enginesBusy s.cdx.frames .joint)
  | 0x100, _ => some (enginesBusy s.cdx.frames .verify)
  | 0x120, _ => some (s.cdx.theta.toNat % 2 ^ 32)
  | 0x124, _ => some s.cdx.thetaHi.toNat
  | 0x128, 31 => some (bit01 s.cdx.offEst)
  | 0x128, _ => some (ofInt 8 s.cdx.tMean)
  | 0x130, 10 => some (bit01 (s.cdx.ewFired.getLsbD 2))
  | 0x130, 9 => some (bit01 (s.cdx.ewFired.getLsbD 1))
  | 0x130, 8 => some (bit01 (s.cdx.ewFired.getLsbD 0))
  | 0x130, _ => some s.cdx.pctUsed
  | 0x144, 31 => some (bit01 s.cdx.keyRun.isSome)
  | 0x144, _ => some (keyCode s.cdx.keyResult)
  | 0x160, 31 => some (bit01 (s.cdx.winOpen != []))
  | 0x160, _ => some s.scrubPct
  | 0x200, _ => some (if s.cdx.keyShown then bitsOf s.cdx.keyBuf.toNat (32 * k + 31) (32 * k) else 0)
  | _, _ => none

/-- Live fields of SPE. -/
def State.speLive (s : State) (k o l : Nat) : Option Nat :=
  match o, l with
  | 0x100, 16 => some s.spe.accFree
  | 0x100, _ => some s.spe.inUse
  | 0x104, _ => some s.spe.stripes.length
  | 0x110, 31 => some (bit01 s.spe.okA)
  | 0x110, 30 => some (bit01 s.spe.okB)
  | 0x110, 29 => some (bit01 s.spe.okS)
  | 0x110, _ => some (bit01 s.spe.remirror)
  | 0x114, 16 => some s.spe.dieB
  | 0x114, _ => some s.spe.dieA
  | 0x124, 31 => some (bit01 s.spe.rbActive)
  | 0x124, 30 => some (bit01 s.spe.rbRaised)
  | 0x124, 29 => some (bit01 (s.spe.rbActive && s.spe.rbPhase2))
  | 0x124, _ => some (if s.spe.rbTotal = 0 then 0 else 100 * (s.spe.rbTotal - s.spe.rbBands.length) / s.spe.rbTotal)
  | 0x128, _ => some s.spe.failed.length
  | 0x140, 31 => some (bit01 s.spe.lelOver)
  | 0x140, _ => some s.spe.lel.length
  | 0x144, _ => some s.degradedBands
  | 0x200, _ => some (maskFrom (32 * k) s.spe.failed.contains)
  | _, _ => none

/-- STATE of Table 13.3. -/
def bufCode : BufState → Nat
  | .free => 0
  | .cached => 1
  | .held => 2
  | .retired => 3

/-- The 8 B of a descriptor (Table 13.3). -/
def BufDesc.word (d : BufDesc) : Nat :=
  d.next.toNat + 2 ^ 24 * d.owners.toNat + 2 ^ 41 * d.gen.toNat + 2 ^ 48 * bufCode d.state + 2 ^ 50 * bit01 d.poison
    + 2 ^ 51 * (d.slice % 1024) + 2 ^ 61 * bit01 d.charged

/-- Live fields of BPM; `p` is the selected pool, `h` the buffer shown. -/
def State.bpmLive (s : State) (p : Nat) (h : BitVec 24) (o l : Nat) : Option Nat :=
  match o, l with
  | 0x104, 16 => some (s.bpm.pool p).count
  | 0x104, _ => some (s.bpm.base p / 65536)
  | 0x108, 16 => some (s.poolFree p)
  | 0x108, _ => some (s.bpm.pool p).waiters.length
  | 0x10C, 16 => some (s.bpm.pool p).rsvFree
  | 0x10C, _ => some (s.bpm.inState p .retired)
  | 0x128, 24 => some s.bpm.errUnit
  | 0x128, _ => some s.bpm.errHandle.toNat
  | 0x134, _ => some ((s.bpm.desc (hPool h) (hIdx h)).word % 2 ^ 32)
  | 0x138, _ => some ((s.bpm.desc (hPool h) (hIdx h)).word / 2 ^ 32)
  | _, _ => none

/-- STATUS codes of Table 14.4. -/
def retCode : RetStatus → Nat
  | .idle => 0
  | .copying => 1
  | .active => 2
  | .outOfRange => 3
  | .overlap => 4

/-- Live fields of DMC; `e` is the selected entry. -/
def State.dmcLive (s : State) (e o l : Nat) : Option Nat :=
  match o, l with
  | 0x100, 31 => some (bit01 s.dmc.trained)
  | 0x100, 30 => some (bit01 (s.dmc.dead != []))
  | 0x100, 25 => some s.dmc.cidBits
  | 0x100, 24 => some (bit01 (s.dmc.ranks == 2))
  | 0x100, 23 => some (bit01 s.dmc.dens32)
  | 0x100, 16 => some (((List.range 4).filter fun c => s.dmc.chMask.getLsbD c && !s.dmc.dead.contains c).foldl (fun v c => v + 2 ^ c) 0)
  | 0x100, _ => some s.dmc.mts
  | 0x104, _ => some (bit01 s.dmc.panic)
  | 0x128, _ => some (bit01 s.dmc.hot)
  | 0x130, 31 => some (bit01 s.dmc.selfRefresh)
  | 0x150, 0 => some (((Tbl.find? s.dmc.ret e).map fun x => retCode (x.refused.getD x.status)).getD 0)
  | _, _ => none

/-- Live fields of CCL. -/
def State.cclLive (s : State) (o l : Nat) : Option Nat :=
  match o, l with
  | 0x100, _ => some s.ccl.epoch.toNat
  | 0x104, 29 => some (clusterCode s.ccl.stA)
  | 0x104, 26 => some (clusterCode s.ccl.stB)
  | 0x104, 25 => some s.ownerInst
  | 0x104, 24 => some (bit01 s.gapped)
  | 0x104, 22 => some (bit01 s.ccl.noCluster)
  | 0x110, 28 => some s.ccl.lastCause
  | 0x110, 27 => some s.ccl.lastFrom
  | 0x110, _ => some (min 0xFFFFF s.ccl.lastGap)
  | 0x118, _ => some s.ccl.exc.length
  | 0x11C, _ => some s.ccl.lag
  | 0x120, _ => some (min 0xFFFFFFFF s.ccl.lastGap)
  | _, _ => none

/-- Bits of the banks for which a test of their operation holds. -/
def Csu.bankMask (u : Csu) (p : BankOp → Bool) : Nat := u.banks.foldl (fun v e => v + bit01 (p e.2) * 2 ^ e.1) 0

/-- Seconds of the confirmation window left (R455). -/
def State.confirmLeft (s : State) : Nat :=
  match s.csu.window with
  | some t => if s.csu.cfg.takeState = 2 then ceilDiv (secTicks (s.obj Ob.CONFIRM_S) - s.since t) (secTicks 1) else 0
  | none => 0

/-- Live fields of CSU for a cluster and pair; `n` is the sector shown. -/
def State.csuLive (s : State) (v : View) (n k o l : Nat) : Option Nat :=
  let c : Cluster := if v.inst = 0 then .a else .b
  match o, l with
  | 0x104, 31 => some (bit01 (s.csu.port c).busy)
  | 0x104, 28 => some (s.csu.port c).result
  | 0x104, 24 => some (s.csu.bankMask fun b => !b.suspended)
  | 0x104, 20 => some (s.csu.bankMask BankOp.suspended)
  | 0x104, _ => some (bit01 (s.csu.loader c v.pair).mode)
  | 0x108, 4 => some (s.csu.kekGen - 1)
  | 0x108, 2 => some (bit01 s.csu.session)
  | 0x108, _ => some s.csu.sealSt
  | 0x10C, _ => some s.csu.cfg.winBase
  | 0x110, 31 => some (bit01 s.csu.slide.isSome)
  | 0x110, _ => some s.csu.winErases
  | 0x118, 31 => some (bit01 (s.csu.wp.getLsbD n))
  | 0x118, 30 => some (bit01 (decide (100000 ≤ Tbl.getD s.csu.erases n 0)))
  | 0x118, _ => some (min 131071 (Tbl.getD s.csu.erases n 0))
  | 0x11C, 29 => some s.csu.cfg.takeState
  | 0x11C, 25 => some s.csu.cfg.trials
  | 0x11C, _ => some (min 0xFFFF s.confirmLeft)
  | 0x400, _ => some (bitsOf s.csu.wp.toNat (32 * k + 31) (32 * k))
  | _, _ => none

/-- RESULT of HUM_TEST_STS. -/
def testCode : TestResult → Nat
  | .none => 0
  | .pass => 1
  | .fail => 2
  | .abandoned => 3

/-- Live fields of HUM. -/
def State.humLive (s : State) (o l : Nat) : Option Nat :=
  match o, l with
  | 0x100, 29 => some (humCode s.hum.state)
  | 0x100, 28 => some (bit01 s.hum.test.isSome)
  | 0x100, _ => some (bit01 (s.hum.state == .verified))
  | 0x104, _ => some (min 0xFFFF s.hum.energy)
  | 0x108, 16 => some s.storeMv
  | 0x108, _ => some s.hum.code.toNat
  | 0x10C, _ => some (if s.hum.loaded then s.hum.capUf else 0)
  | 0x114, _ => some (testCode s.hum.result)
  | 0x120, 16 => some (if s.hum.loaded then min 0xFFFF s.hum.dur10us else 0)
  | 0x120, _ => some (if s.hum.loaded then s.hum.mib else 0)
  | 0x124, _ => some (if s.hum.loaded then s.hum.seq % 2 ^ 32 else 0)
  | _, _ => none

/-- Live fields of MGP; `p` is the Call Sheet port. -/
def State.mgpLive (s : State) (p o l : Nat) : Option Nat :=
  match o, l with
  | 0x104, 16 => some (if s.mxe.scanRun && s.mxe.scanMode == 2 then s.mxe.scanPct else 0)
  | 0x104, 7 => some (bit01 (s.hum.state == .verified))
  | 0x104, 4 => some (kindOfStart s.power.startKind)
  | 0x104, _ => some (stageCode s.power.shown)
  | 0x108, _ => some s.power.stageMs
  | 0x200, _ => some s.mgp.summary.toNat
  | 0x1000C, 31 => some (bit01 (s.mgp.portBusy.contains p))
  | 0x1000C, 8 => some (Tbl.getD s.mgp.portSeq p 0)
  | 0x1000C, _ => some (Tbl.getD s.mgp.portStatus p 0)
  | _, _ => none

/-- Live fields of CRU. -/
def State.cruLive (s : State) (o l : Nat) : Option Nat :=
  match o, l with
  | 0x100, 31 => some (bit01 s.frozenNow)
  | 0x100, 30 => some (bit01 (decide (1024 ≤ s.cru.firstUsed)))
  | 0x100, 29 => some (bit01 s.cru.nandReady)
  | 0x100, 16 => some s.cru.staged.length
  | 0x100, _ => some s.cru.firstUsed
  | 0x104, _ => some (bit01 s.frozenNow)
  | 0x108, _ => some (s.cru.next % 2 ^ 32)
  | 0x10C, _ => some s.cru.hiLatch.toNat
  | 0x124, _ => some s.freezeLeft
  | _, _ => none

/-- The window that a view's GAL_WIN_SEL shows. -/
def State.winShown (s : State) (v : View) : Window :=
  winOf (if s.fld Fld.GAL_WIN_SEL.VIEW v.inst = 0 then s.gal.active else s.gal.staging) (s.fld Fld.GAL_WIN_SEL.WIN v.inst)

/-- The live value of word `k` of a field, if a unit computes it. -/
def State.live (s : State) (v : View) (f : Field) (k : Nat) (port : Nat) : Option Nat :=
  let o := f.reg % 0x100000
  match (f.reg - 0x20000000) / 0x100000 with
  | 0x00 =>
    if o = 0x10 then some (s.tbu.tick.toNat % 2 ^ 32) else if o = 0x14 then some s.tbu.hiLatch.toNat else none
  | 0x01 => s.hluLive o f.lsb
  | 0x02 => s.qenLive o f.lsb
  | 0x03 => s.tnuLive (s.fld Fld.TNU_SLICE_SEL.SLICE v.inst) o f.lsb
  | 0x04 => s.galLive (s.winShown v) o f.msb f.lsb
  | 0x05 => s.mxeLive o f.lsb
  | 0x06 => s.dscLive (s.fld Fld.DSC_DIE_SEL.DIE v.inst) o f.lsb
  | 0x07 => s.fcaLive (s.fld Fld.FCA_CH_SEL.CH v.inst) (s.fld Fld.FCA_TEMP_SEL.DIE v.inst) o f.lsb
  | 0x08 => s.cdxLive k o f.lsb
  | 0x09 => s.speLive k o f.lsb
  | 0x0A => s.bpmLive (s.fld Fld.BPM_POOL_SEL.POOL v.inst) (BitVec.ofNat 24 (s.fld Fld.BPM_DESC_SEL.HANDLE v.inst)) o f.lsb
  | 0x0B => s.dmcLive (s.fld Fld.DMC_RET_SEL.ENTRY v.inst) o f.lsb
  | 0x0C => s.cclLive o f.lsb
  | 0x0D => s.csuLive v (s.fld Fld.CSU_SECT_SEL.SECTOR v.inst) k o f.lsb
  | 0x0E => s.humLive o f.lsb
  | 0x0F => s.mgpLive port o f.lsb
  | 0x10 => s.cruLive o f.lsb
  | _ => none

/-- Registers of which each cluster has its own instance (19, Table 19.5). -/
def perCluster : List Nat :=
  [0x20300100, 0x20400100, 0x20600110, 0x20700100, 0x20700130, 0x20800110, 0x20A00100, 0x20A00130, 0x20B00140, 0x20D00100,
   0x20D00114, 0x20D00200, 0x21000114]

/-- The instance of a field that a view reaches: a cluster's own selector, the die, channel, level, entry or trigger that a selector shows, or the port. -/
def State.instOf (s : State) (v : View) (f : Field) (port : Nat) : Nat :=
  if perCluster.contains f.reg then v.inst
  else if f.reg = 0x20600118 then s.fld Fld.DSC_DIE_SEL.DIE v.inst
  else if f.reg = 0x2070010C then s.fld Fld.FCA_CH_SEL.CH v.inst
  else if f.reg = 0x20800114 then s.fld Fld.CDX_LVL_SEL.LEVEL v.inst
  else if f.reg = 0x20B00144 ∨ f.reg = 0x20B00148 ∨ f.reg = 0x20B0014C then s.fld Fld.DMC_RET_SEL.ENTRY v.inst
  else if f.reg = 0x21000118 then s.fld Fld.CRU_TRIG_SEL.TRIGGER v.inst
  else if 0x20F10000 ≤ f.reg ∧ f.reg < 0x20F20000 then port
  else 0

/-- The address at which a register's fields are listed, and the Call Sheet port: port p lies 0x2000 p above port 0 (Table 17.7). -/
def regBase (addr : Nat) : Nat × Nat :=
  if 0x20F10000 ≤ addr ∧ addr < 0x20F1A000 then (0x20F10000 + (addr - 0x20F10000) % 0x2000, (addr - 0x20F10000) / 0x2000) else (addr, 0)

/-- Whether a cluster is out of reset: the production-test registers are closed (R503). -/
def State.clusterOut (s : State) : Bool := s.ccl.stA != .reset || s.ccl.stB != .reset

/-- A field as a read sees it: WO fields read 0 (Table 0.1). `rcOld`: an RC field reads as before this tick (R8). -/
def State.fieldAt (s : State) (v : View) (f : Field) (addr port : Nat) (rcOld : Bool) : Nat :=
  let k := (addr - f.reg) / 4
  match f.acc with
  | .wo => 0
  | .rc => if rcOld then s.regf.rcRead f (s.instOf v f port) k else s.regf.get f (s.instOf v f port) k
  | .ro | .rw | .rw1c | .rws => ((s.live v f k port).getD (s.regf.get f (s.instOf v f port) k)) % 2 ^ f.width

/-- The word at an internal register address: the block header (Table 19.4), the fields of the register, 0 elsewhere (R503). -/
def State.regWord (s : State) (v : View) (addr : Nat) (rcOld : Bool) : Word :=
  if addr % 0x100000 = 0 then BitVec.ofNat 32 (2 ^ 24 * ((addr - 0x20000000) / 0x100000) + 0x019640)
  else if 0x20210000 ≤ addr ∧ addr < 0x20220000 then BitVec.ofNat 32 (leNat (Memory.readN 0 s.qen.rescue.window (addr - 0x20210000) 4))
  else
    let (a, port) := regBase addr
    BitVec.ofNat 32 ((fieldsAt a).foldl (fun n f => n + s.fieldAt v f a port rcOld * 2 ^ f.lsb) 0)

/-- What the recorder reads (R486): the word as it stands, without effects; 0 outside the unit blocks. -/
def State.peek (s : State) (addr : Nat) : Word :=
  if 0x20000000 ≤ addr ∧ addr < 0x21100000 then s.regWord s.ownerView (addr / 4 * 4) false else 0

/-- The effects of a read of a register (R8, R499): its RC fields clear, a _LO read latches the _HI register. -/
def State.readEffects (v : View) (addr : Nat) (s : State) : State :=
  let (a, port) := regBase addr
  let s := s.modRegf fun r => (fieldsAt a).foldl (fun r f => if f.acc = .rc then r.rcClear f (s.instOf v f port) ((a - f.reg) / 4) else r) r
  let hi := fun (n : Nat) => BitVec.ofNat 32 (n / 2 ^ 32)
  if a = 0x20000010 then s.modTbu fun t => { t with hiLatch := hi t.tick.toNat }
  else if a = 0x20500108 then s.modMxe fun m => { m with dsnHi := hi m.nextDsn }
  else if a = 0x20500110 then s.modMxe fun m => { m with psnHi := hi m.psn }
  else if a = 0x20800120 then s.modCdx fun c => { c with thetaHi := hi c.theta.toNat }
  else if a = 0x21000108 then s.modCru fun c => { c with hiLatch := hi c.next }
  else s

end Sys2Proof.Machine
end

