-- ==== Sys2Proof/Machine/RegOps.lean ====
section
/-! DEFINITION. Register and memory accesses of host software and drive firmware (spec/19): the maps of Tables 19.1 to 19.3, the access rules R496 to R504, what a write to each acting register does, and the meanings of REGISTER_WRITE, RC_FIELD_READ and LO_REGISTER_READ. -/

namespace Sys2Proof.Machine

/-- What an address reaches. -/
inductive Place where
  /-- A register word or word of a data area, by internal address. -/
  | reg (addr : Nat)
  /-- A byte of a reel slot: first or running reel. -/
  | reel (first : Bool) (slot byte : Nat)
  /-- An NVMe controller register of a function. -/
  | nvme (fn off : Nat)
  /-- A byte of a function's MSI-X table or PBA. -/
  | msix (fn off : Nat)
  | tcm (off : Nat)
  | rom
  | flash (off : Nat)
  | script (off : Nat)
  | sram (off : Nat)
  | dram (addr : Nat)
  /-- An offset of a BAR that nothing occupies (R69). -/
  | nothing
  /-- Outside every region of Table 19.3. -/
  | outside
deriving DecidableEq, Repr, Inhabited

/-- The host's maps: Tables 19.1, 19.2 and 3.3. -/
def hostPlace (fn bar off : Nat) : Place :=
  if bar = 0 then
    if off < 0x1000 then .nvme fn off
    else if fn ≠ 0 then (if 0xE000 ≤ off ∧ off < 0xF020 then .msix fn (off - 0xE000) else .nothing)
    else if 0x10000 ≤ off ∧ off < 0x1000C then .reg (0x20F00100 + (off - 0x10000))
    else if 0x11000 ≤ off ∧ off < 0x11048 then .reg (0x20100100 + (off - 0x11000))
    else .nothing
  else if bar = 4 ∧ fn = 0 then
    if off < 0x8000 then .reg (0x20F10000 + off)
    else if 0x800000 ≤ off ∧ off < 0x880000 then .reel true ((off - 0x800000) / 512) (off % 512)
    else if 0x880000 ≤ off ∧ off < 0xC80000 then .reel false ((off - 0x880000) / 512) (off % 512)
    else if 0xD00000 ≤ off ∧ off < 0xD00028 then .reg (0x21000100 + (off - 0xD00000))
    else if 0xE00000 ≤ off ∧ off < 0xE00028 then .reg (0x20208000 + (off - 0xE00000))
    else if 0xE08000 ≤ off ∧ off < 0xE18000 then .reg (0x20210000 + (off - 0xE08000))
    else if 0xF00000 ≤ off ∧ off < 0xF10200 then .msix 0 (off - 0xF00000)
    else .nothing
  else .nothing

/-- Drive firmware's map (Table 19.3). DRAM at or above D lies outside (R501). -/
def State.firmwarePlace (s : State) (a : Nat) : Place :=
  if a < 0x100000 then .tcm a
  else if 0x1000000 ≤ a ∧ a < 0x1020000 then .rom
  else if 0x10000000 ≤ a ∧ a < 0x12000000 then .flash (a - 0x10000000)
  else if 0x12000000 ≤ a ∧ a < 0x120FC000 then
    .flash (flashAddr (windowSector s.csu.cfg.winBase ((a - 0x12000000) / 0x4000)) 0 + (a - 0x12000000) % 0x4000)
  else if 0x20000000 ≤ a ∧ a < 0x21100000 then .reg a
  else if 0x22000000 ≤ a ∧ a < 0x22200000 then .script (a - 0x22000000)
  else if 0x40000000 ≤ a ∧ a < 0x44000000 then .sram (a - 0x40000000)
  else if 0x8000000000 ≤ a ∧ a < 0x8000000000 + s.dmc.capacity then .dram (a - 0x8000000000)
  else .outside

/-- Where an access lands. -/
def State.placeOf (s : State) (who : Accessor) (a : Nat) : Place :=
  match who with
  | .host fn bar => hostPlace fn bar a
  | .firmware _ _ _ => s.firmwarePlace a

/-- Data areas accept any byte enables (R497). -/
def dataArea (addr : Nat) : Bool :=
  (decide (0x20F11000 ≤ addr) && decide (addr < 0x20F1A000) && decide (0x1000 ≤ (addr - 0x20F10000) % 0x2000))
    || (decide (0x20D00200 ≤ addr) && decide (addr < 0x20D00300)) || (decide (0x20210000 ≤ addr) && decide (addr < 0x20220000))

/-- A production-test register: closed while a cluster is out of reset; open, its effect is nowhere given (R503). -/
def testReg (addr : Nat) : Bool := decide (0xC0000 ≤ addr % 0x100000)

/-! ## NVMe controller registers (R45, R162, Table 4.1; positions as notes/assumptions/10.md) -/

/-- The CMB_SQ window of a function (R162). -/
def State.cmbOf (s : State) (fn : Nat) : Option Window :=
  ((enabledWins s.gal.active).find? fun e => e.2.kind == .cmbSq && s.sliceObj Ob.FUNC e.2.owner == fn).map Prod.snd

/-- A controller register of a function, by offset. CMBLOC and CMBSZ count in units of 1 MiB. -/
def State.nvmeReg (s : State) (fn off : Nat) : Word :=
  let k := s.qen.ctrl fn
  match off with
  | 0x00 => BitVec.ofNat 32 (0xFFFF + 2 ^ 16 + 2 ^ 17)
  | 0x04 => BitVec.ofNat 32 (2 ^ 4 + 2 ^ 5 + 4 * 2 ^ 20 + 2 ^ 25 + 3 * 2 ^ 27)
  | 0x08 => 0x00020000
  | 0x14 => BitVec.ofNat 32 (bit01 k.en + 2 ^ 7 * (k.mps % 16) + 2 ^ 11 * bit01 k.wrr + 2 ^ 14 * (k.shn % 4) + 2 ^ 24 * bit01 k.crime)
  | 0x1C => BitVec.ofNat 32 (bit01 k.rdy + 2 ^ 2 * (k.shst % 4) + 2 ^ 5 * bit01 k.pp)
  | 0x24 => k.aqa
  | 0x28 => BitVec.ofNat 32 k.asq.toNat
  | 0x2C => BitVec.ofNat 32 (k.asq.toNat / 2 ^ 32)
  | 0x30 => BitVec.ofNat 32 k.acq.toNat
  | 0x34 => BitVec.ofNat 32 (k.acq.toNat / 2 ^ 32)
  | 0x38 => match s.cmbOf fn with
    | some w => BitVec.ofNat 32 (2 + 2 ^ 12 * ((if fn = 0 then w.first else w.first - 2 ^ 35 - (fn - 1) * 2 ^ s.power.vfBar2) / 2 ^ 20))
    | none => 0
  | 0x3C => match s.cmbOf fn with
    | some w => BitVec.ofNat 32 (1 + 2 * 2 ^ 8 + 2 ^ 12 * (w.bytes / 2 ^ 20))
    | none => 0
  | 0x68 => BitVec.ofNat 32 (3600 + 1 * 2 ^ 16)
  | _ => 0

/-- A write of a controller register while CC.EN is clear: CC.MPS (up to MPSMAX, 64 KiB), AQA, ASQ and ACQ. CC.EN, CC.SHN and NSSR act through rows of their own. -/
def Controller.put (k : Controller) (off : Nat) (w : Word) : Controller :=
  match off with
  | 0x14 => if bitsOf w.toNat 10 7 ≤ 4 then { k with mps := bitsOf w.toNat 10 7 } else k
  | 0x24 => { k with aqa := w &&& 0x0FFF0FFF }
  | 0x28 => { k with asq := BitVec.ofNat 64 (k.asq.toNat / 2 ^ 32 * 2 ^ 32 + w.toNat / 4096 * 4096) }
  | 0x2C => { k with asq := BitVec.ofNat 64 (w.toNat * 2 ^ 32 + k.asq.toNat % 2 ^ 32) }
  | 0x30 => { k with acq := BitVec.ofNat 64 (k.acq.toNat / 2 ^ 32 * 2 ^ 32 + w.toNat / 4096 * 4096) }
  | 0x34 => { k with acq := BitVec.ofNat 64 (w.toNat * 2 ^ 32 + k.acq.toNat % 2 ^ 32) }
  | _ => k

/-- A host write of a controller register (R93, Table 4.1). -/
def State.nvmeWrite (fn off : Nat) (w : Word) (s : State) : State :=
  if (s.qen.ctrl fn).en then s else s.modQen fun q => q.modCtrl fn fun k => k.put off w

/-! ## Reads -/

/-- The word that a read returns, or none when it ends with a bus error (R502) or its data come later from the DMC (Table 14.3). -/
def State.readPlace (s : State) (v : View) (p : Place) : Option Word :=
  match p with
  | .reg a => some (if testReg a ∧ s.clusterOut = true then 0 else s.regWord v a true)
  | .reel first slot byte => some (BitVec.ofNat 32 (leNat (((s.reelSlot first slot).drop byte).take 4)))
  | .nvme fn off => some (s.nvmeReg fn off)
  | .msix fn off => some (BitVec.ofNat 32 (leNat (Memory.readN 0 s.hlu.msix (65536 * fn + off) 4)))
  | .tcm o => some (BitVec.ofNat 32 (leNat (Memory.readN 0 s.ccl.tcm (1048576 * (4 * v.inst + v.pair) + o) 4)))
  | .rom => some (BitVec.ofNat 32 s.fresh)
  | .flash o => some (BitVec.ofNat 32 (leNat (Memory.readN 0xFF s.csu.flash o 4)))
  | .script o => some (BitVec.ofNat 32 (leNat (Memory.readN 0 s.ccl.script o 4)))
  | .sram o => if s.bpm.poisoned.contains (o / 8 * 8) then none else some (BitVec.ofNat 32 (leNat (Memory.readN 0 s.bpm.sram o 4)))
  | .dram _ => none
  | .nothing => some 0
  | .outside => none

/-- A read of the word at an address (R496 to R499, R501, R502). -/
def State.readAt (who : Accessor) (addr : Nat) (s : State) : State :=
  let v := s.viewOf who
  let a := addr / 4 * 4
  let p := s.placeOf who a
  match who with
  | .host fn _ =>
    if s.inboundHeld then s
    else
      let s := s.arrive 0
      if s.fnOpen fn then
        match s.readPlace v p with
        | some w =>
          let t := s.emit (.regData who addr w.toNat)
          match p with
          | .reg r => t.readEffects v r
          | _ => t
        | none => s
      else s.urTlp true
  | .firmware k pair _ =>
    match p with
    | .reg r =>
      if addr % 4 ≠ 0 then s.emit (.busError k pair)
      else ((s.emit (.regData who addr (((s.readPlace v p).getD 0).toNat))).readEffects v r)
    | .rom => (s.emit (.regData who addr (((s.readPlace v p).getD 0).toNat))).drawn
    | .dram d => s.dramEnqueue { from_ := .ccl, addr := d, write := none } .clean
    | _ =>
      match s.readPlace v p with
      | some w => s.emit (.regData who addr w.toNat)
      | none => s.emit (.busError k pair)

/-- A firmware read of a unit register block is of 4 B or 8 B and naturally aligned (R496). -/
def Place.sizeOk (p : Place) (addr size : Nat) : Bool :=
  match p with
  | .reg _ => (size == 4 || size == 8) && addr % size == 0
  | _ => true

/-- A read of 4 B or 8 B (R496): the upper word of 8 B is served in the next tick; a firmware read of a register block of another size or alignment ends with a bus error. -/
def State.readWords (who : Accessor) (addr size : Nat) (s : State) : State :=
  match who with
  | .host _ _ =>
    if s.inboundHeld then s
    else if size = 8 then (s.readAt who addr).modRegf fun f => { f with splitRd := f.splitRd ++ [(who, addr + 4)] }
    else s.readAt who addr
  | .firmware k pair _ =>
    if !(s.firmwarePlace addr).sizeOk addr size then s.emit (.busError k pair)
    else if size = 8 then (s.readAt who addr).modRegf fun f => { f with splitRd := f.splitRd ++ [(who, addr + 4)] }
    else s.readAt who addr

/-- RC_FIELD_READ (R8): a read of a register; each RC field in it returns the value from before this tick and keeps this tick's additions only. -/
def execRcFieldRead (who : Accessor) (span : ReadSpan) (s : State) : Out := .next (s.readWords who span.addr span.size)

/-- LO_REGISTER_READ (R27, R499): the read latches the upper half. -/
def execLoRegisterRead (who : Accessor) (span : ReadSpan) (s : State) : Out := .next (s.readWords who span.addr span.size)

/-! ## Writes of acting registers -/

/-- The task of a code (Table 4.9). -/
def taskOf : Nat → Option RescueTask
  | 1 => some .ident
  | 2 => some .load
  | 3 => some .commit
  | 4 => some .restore
  | 5 => some .restart
  | _ => none

/-- GO of QEN_RSC_CTL (R128). DESIGN CHOICE (notes/assumptions/50.md): a TASK outside Table 4.9 ends at once with BAD_TASK, in Hall too, without BUSY and without a session. -/
def State.rescueWrite (w : Word) (s : State) : State :=
  let seq := BitVec.ofNat 8 (bitsOf w.toNat 15 8)
  match taskOf (bitsOf w.toNat 7 0) with
  | some t => s.rescueGo t seq
  | none =>
    if s.qen.rescue.busy ∨ (s.qen.rescue.open_ = false ∧ s.power.stage ≠ .hall) then s
    else s.modQen fun q => { q with rescue := { q.rescue with seq := seq, result := rscBadTask } }

/-- GO of a Call Sheet port (R472). -/
def State.portGo (p : Nat) (cluster : Cluster) (epoch : BitVec 8) (s : State) : State :=
  let via : Transport := if p = 4 then .firmware else .port p
  let cmd := s.fld Fld.MGP_CSP_CTL.CMD p
  let seq := s.fld Fld.MGP_CSP_CTL.SEQ p
  let index := s.fld Fld.MGP_CSP_ADDR.INDEX p
  let sub := s.fld Fld.MGP_CSP_ADDR.SUB p
  let bytes := s.fld Fld.MGP_CSP_LEN.BYTES p
  if s.reaches via = false then s
  else if (cmd ≠ 1 ∧ cmd ≠ 2 ∧ cmd ≠ 3) ∨ (cmd = 2 ∧ 4096 < bytes) then
    (s.takePort via seq cmd index sub bytes).respond via 0 seq cmd tsBadMsg []
  else
    let data := ((List.range ((bytes + 3) / 4)).flatMap fun k => leBytes 4 (s.regf.get Fld.MGP_CSP_DATA.WORD p k)).take bytes
    s.request cmd { via := via, eid := 0, tag := seq, index := index, sub := sub, epoch := epoch, cluster := cluster } (if cmd = 2 then data else [])

/-- Write word `k` of CDX_KEY_BUF. -/
def State.keyWord (k : Nat) (w : Word) (s : State) : State :=
  s.modCdx fun c => { c with
    keyBuf := (c.keyBuf &&& ~~~(BitVec.ofNat 768 ((2 ^ 32 - 1) * 2 ^ (32 * k)))) ||| BitVec.ofNat 768 (w.toNat * 2 ^ (32 * k)) }

/-- GO of CSU_CMD from a pair (R439): its fetch address is the one last given for it (notes/assumptions/33.md). -/
def State.csuWrite (c : Cluster) (pair : Nat) (epoch : BitVec 8) (w : Word) (s : State) : State :=
  s.csuCommand { cluster := c, pair := pair, epoch := epoch, sector := bitsOf w.toNat 10 0, page := bitsOf w.toNat 16 11
                 fetchAt := (s.csu.loader c pair).fetchAt } (bitsOf w.toNat 19 17)

/-- GO of FCA_TRAIN_CTL (R248): both CE_N of the channel are to be retrained; CHANNEL_RETRAIN does it, with what the training finds. -/
def State.trainGo (ch : Nat) (s : State) : State :=
  s.modFca fun f => { f with trainDue := [(ch, 0), (ch, 1)].filter (fun k => !f.trainDue.contains k) ++ f.trainDue }

/-- What a whole word written to a register does beyond its stored fields: the commands that its GO field or the register itself starts. -/
def State.regAct (v : View) (epoch : BitVec 8) (addr : Nat) (w : Word) (s : State) : State :=
  let go := w.getLsbD 31
  let c : Cluster := if v.inst = 0 then .a else .b
  if addr = 0x20208004 then
    if go then s.rescueWrite w else s
  else if addr = 0x20300110 then
    if go then (if w.getLsbD 30 then s.requestSquash (bitsOf w.toNat 9 0) else s.requestDrain (bitsOf w.toNat 9 0)) else s
  else if addr = 0x20400104 then s.stageWindow (s.fld Fld.GAL_WIN_SEL.WIN v.inst) 1 w
  else if addr = 0x20400108 then s.stageWindow (s.fld Fld.GAL_WIN_SEL.WIN v.inst) 2 w
  else if addr = 0x2040010C then s.stageWindow (s.fld Fld.GAL_WIN_SEL.WIN v.inst) 3 w
  else if addr = 0x20400110 then s.stageWindow (s.fld Fld.GAL_WIN_SEL.WIN v.inst) 4 w
  else if addr = 0x20400114 then s.stageWindow (s.fld Fld.GAL_WIN_SEL.WIN v.inst) 5 w
  else if addr = 0x20400118 then s.stageWindow (s.fld Fld.GAL_WIN_SEL.WIN v.inst) 6 w
  else if addr = 0x2040011C then s.stageWindow (s.fld Fld.GAL_WIN_SEL.WIN v.inst) 7 w
  else if addr = 0x20400120 then s.stageWindow (s.fld Fld.GAL_WIN_SEL.WIN v.inst) 8 w
  else if addr = 0x20400140 then
    if go then s.winCommit else s
  else if addr = 0x20600118 then
    if go then s.takeOffline (s.fld Fld.DSC_DIE_SEL.DIE v.inst) else s.reenable (s.fld Fld.DSC_DIE_SEL.DIE v.inst)
  else if addr = 0x20700110 then
    if go then s.trainGo (s.fld Fld.FCA_CH_SEL.CH v.inst) else s
  else if addr = 0x20D00100 then
    if go then s.csuWrite c v.pair epoch w else s
  else if addr = 0x20800140 then
    if go then
      match bitsOf w.toNat 13 12 with
      | 1 => s.keyStart .load 1 (bitsOf w.toNat 11 0)
      | 2 => s.keyStart .generate 2 (bitsOf w.toNat 11 0)
      | 3 => s.keyStart .clear 3 (bitsOf w.toNat 11 0)
      | _ => s
    else s
  else if addr = 0x20900120 then
    if go then s.rebuildGo else s
  else if addr = 0x20B00150 then
    if go then s.retireGo (s.fld Fld.DMC_RET_SEL.ENTRY v.inst) else s
  else if addr = 0x20B00160 then
    if go then s.dramTrain (bitsOf w.toNat 1 0) else s
  else if addr = 0x20C00108 then
    if go then s.planCut .planned else s
  else if addr = 0x20C0010C then s.heartbeat
  else if addr = 0x20E00110 then
    if go then s.testGo else s
  else if addr = 0x21000104 then s.setFreeze go
  else if addr = 0x2100011C then
    if go then s.fwTrig (bitsOf w.toNat 2 0) else s
  else
    if 0x20800200 ≤ addr ∧ addr < 0x20800260 then s.keyWord ((addr - 0x20800200) / 4) w
    else if 0x20D00400 ≤ addr ∧ addr < 0x20D00500 then s.writeWp c v.pair ((addr - 0x20D00400) / 4) w
    else if 0x20F10000 ≤ addr ∧ addr < 0x20F1A000 ∧ (addr - 0x20F10000) % 0x2000 = 0 ∧ go = true then
      s.portGo ((addr - 0x20F10000) / 0x2000) c epoch
    else s

/-- The stored fields of a word take a write by their access codes; fields that units compute are left to `regAct`. -/
def State.regStore (v : View) (addr : Nat) (w : Word) (rw1cOnly : Bool) (s : State) : State :=
  let (a, port) := regBase addr
  s.modRegf fun r => (fieldsAt a).foldl (fun r f =>
    let k := (a - f.reg) / 4
    if (s.live v f k port).isSome ∨ (rw1cOnly = true ∧ f.acc ≠ .rw1c) then r else r.write f (s.instOf v f port) k (bitsOf w.toNat f.msb f.lsb)) r

/-- Bytes of a word with their enables. -/
def enabledBytes (w : Word) (be : BitVec 4) : List (Nat × Byte) :=
  (List.range 4).filterMap fun k => if be.getLsbD k then some (k, BitVec.ofNat 8 (bitsOf w.toNat (8 * k + 7) (8 * k))) else none

/-- A word with some bytes replaced. -/
def mergeWord (old w : Word) (be : BitVec 4) : Word :=
  BitVec.ofNat 32 ((List.range 4).foldl (fun n k => n + bitsOf (if be.getLsbD k then w else old).toNat (8 * k + 7) (8 * k) * 2 ^ (8 * k)) 0)

/-- Bytes written into a byte memory. -/
def putBytes (d : Byte) (m : List Host.Cell) (a : Nat) (bs : List (Nat × Byte)) : List Host.Cell :=
  bs.foldl (fun m b => Memory.write d m (a + b.1) b.2) m

/-- A host write reaches a register in full through BAR4's ports and rescue registers and CRU_CTL; through the HLU mirror it clears RW1C bits only; the other mirrored registers ignore it (Tables 19.1, 19.2). -/
def hostWrites (addr : Nat) : Option Bool :=
  if 0x20100100 ≤ addr ∧ addr < 0x20100148 then some true
  else if (0x20F10000 ≤ addr ∧ addr < 0x20F18000) ∨ (0x20208000 ≤ addr ∧ addr < 0x20220000) ∨ addr = 0x21000104 then some false
  else none

/-- A write of one register word (R4, R497, R503). -/
def State.writeReg (v : View) (host : Bool) (epoch : BitVec 8) (addr : Nat) (w : Word) (be : BitVec 4) (s : State) : State :=
  match (if host then hostWrites addr else some false) with
  | none => s
  | some mirror =>
    if 0x20210000 ≤ addr ∧ addr < 0x20220000 then
      s.modQen fun q => { q with rescue := { q.rescue with window := putBytes 0 q.rescue.window (addr - 0x20210000) (enabledBytes w be) } }
    else if dataArea addr then
      s.regStore v addr (mergeWord (s.regWord v addr false) w be) mirror
    else if be ≠ 0xF then s
    else if testReg addr then s
    else if mirror then s.regStore v addr w true
    else (s.regStore v addr w false).regAct v epoch addr w

/-- A host write of one word. -/
def State.hostWord (who : Accessor) (fn bar addr : Nat) (w : Word) (be : BitVec 4) (s : State) : State :=
  match hostPlace fn bar addr with
  | .reg r => s.writeReg (s.viewOf who) true 0 r w be
  | .nvme f o => if be = 0xF then s.nvmeWrite f o w else s
  | .msix f o => s.modHlu fun h => { h with msix := putBytes 0 h.msix (65536 * f + o) (enabledBytes w be) }
  | _ => s

/-- A firmware write of one register word, checked against the epoch (R421, R504). -/
def State.firmwareWord (who : Accessor) (epoch : BitVec 8) (addr : Nat) (w : Word) (s : State) : State :=
  if s.epochOk epoch then s.writeReg (s.viewOf who) false epoch addr w 0xF
  else s.epochRefuse ((addr - 0x20000000) / 0x100000) epochKindWrite epoch

/-- The word of a write served in the next tick (R496). -/
def State.splitWord (e : Accessor × Nat × Word) (s : State) : State :=
  match e.1 with
  | .host fn bar => s.hostWord e.1 fn bar e.2.1 e.2.2 0xF
  | .firmware _ _ ep => s.firmwareWord e.1 ep e.2.1 e.2.2

/-- The `size` bytes of a firmware write. -/
def firmwareBytes (data : Dword) (size : Nat) : List Byte := leBytes size data.toNat

/-- A firmware write to a region that is not a register block (Table 19.3): TCM, script ring, stage SRAM and DRAM take it, the read-only regions ignore it. -/
def State.firmwareStore (k : Cluster) (pair : Nat) (epoch : BitVec 8) (p : Place) (bs : List Byte) (s : State) : State :=
  match p with
  | .tcm o => ((List.range bs.length).zip bs).foldl (fun s b => s.debugWrite (.tcm k pair) (o + b.1) b.2) s
  | .script o =>
    if !s.epochOk epoch then s.epochRefuse UnitNo.ccl epochKindScript epoch
    else if s.ccl.owner ≠ k then s
    else s.modCcl fun c => { c with
      script := ringWrite c.script o bs, scriptW := if o = c.scriptW % 2097152 then c.scriptW + bs.length else c.scriptW }
  | .sram o => s.modBpm fun b => b.sramWrite o bs
  | .dram d =>
    s.dramEnqueue { from_ := .ccl, addr := d / 64 * 64
                    write := some (BitVec.ofNat 512 (leNat bs * 2 ^ (8 * (d % 64))), BitVec.ofNat 64 ((2 ^ bs.length - 1) * 2 ^ (d % 64))) } .clean
  | .outside => s.emit (.busError k pair)
  | .reg _ | .reel _ _ _ | .nvme _ _ | .msix _ _ | .rom | .flash _ | .nothing => s

/-- A firmware write (R496, R501, R504). -/
def State.firmwareWrite (k : Cluster) (pair : Nat) (epoch : BitVec 8) (addr size : Nat) (data : Dword) (s : State) : State :=
  let who : Accessor := .firmware k pair epoch
  match s.firmwarePlace addr with
  | .reg r =>
    if addr % size ≠ 0 ∨ (size ≠ 4 ∧ size ≠ 8) then s.emit (.busError k pair)
    else
      let t := s.firmwareWord who epoch r (BitVec.ofNat 32 data.toNat)
      if size = 8 then t.modRegf fun f => { f with split := f.split ++ [(who, r + 4, BitVec.ofNat 32 (data.toNat / 2 ^ 32))] } else t
  | p => s.firmwareStore k pair epoch p (firmwareBytes data size)

/-- A host write (R497): the second word of 8 B is served in the next tick when all its bytes are enabled or it is a register; partly enabled data bytes go at once. -/
def State.hostWrite (fn bar addr size : Nat) (data : Dword) (be : BitVec 8) (s : State) : State :=
  let who : Accessor := .host fn bar
  if s.postedHeld then s
  else
    let s := s.arrive size
    if s.fnOpen fn then
      let t := s.hostWord who fn bar addr (BitVec.ofNat 32 data.toNat) (BitVec.ofNat 4 be.toNat)
      let hi : Word := BitVec.ofNat 32 (data.toNat / 2 ^ 32)
      if size ≠ 8 then t
      else if be.toNat / 16 = 15 then t.modRegf fun f => { f with split := f.split ++ [(who, addr + 4, hi)] }
      else t.hostWord who fn bar (addr + 4) hi (BitVec.ofNat 4 (be.toNat / 16))
    else s.urTlp false

/-- REGISTER_WRITE (R4, R496, R497, R504). -/
def execRegisterWrite (who : Accessor) (addr size : Nat) (data : Dword) (be : BitVec 8) (s : State) : Out :=
  match who with
  | .host fn bar => .next (s.hostWrite fn bar addr size data be)
  | .firmware k pair epoch => .next (s.firmwareWrite k pair epoch addr size data)

end Sys2Proof.Machine
end

