-- ==== Sys2Proof/Machine/Dispatch.lean ====
section
/-! DEFINITION. The dispatch: one arm per command, each one call of its meaning. -/

namespace Sys2Proof.Machine

def exec (i : Instr) (s : State) : Host.Outcome State Fault Refusal :=
  match i with
  | .registerWrite who addr size data be => Sys2Proof.Machine.execRegisterWrite who addr size data be s
  | .rcFieldRead who span => Sys2Proof.Machine.execRcFieldRead who span s
  | .loRegisterRead who span => Sys2Proof.Machine.execLoRegisterRead who span s
  | .auxPowerUp => Sys2Proof.Machine.execAuxPowerUp s
  | .auxPowerLoss => Sys2Proof.Machine.execAuxPowerLoss s
  | .powerUp => Sys2Proof.Machine.execPowerUp s
  | .supplyLoss cause => Sys2Proof.Machine.execSupplyLoss cause s
  | .dumpWaitExpiry => Sys2Proof.Machine.execDumpWaitExpiry s
  | .journalFreeze => Sys2Proof.Machine.execJournalFreeze s
  | .dumpHeaderGood => Sys2Proof.Machine.execDumpHeaderGood s
  | .railAbortLevel r => Sys2Proof.Machine.execRailAbortLevel r s
  | .supplyRestoreStart => Sys2Proof.Machine.execSupplyRestoreStart s
  | .thermalTrip sensor => Sys2Proof.Machine.execThermalTrip sensor s
  | .thermalTripRelease => Sys2Proof.Machine.execThermalTripRelease s
  | .perstNAssert => Sys2Proof.Machine.execPerstNAssert s
  | .perstNRelease => Sys2Proof.Machine.execPerstNRelease s
  | .configurationSpaceReady => Sys2Proof.Machine.execConfigurationSpaceReady s
  | .configurationRequest fn offset wr => Sys2Proof.Machine.execConfigurationRequest fn offset wr s
  | .bootRomStart aPasses => Sys2Proof.Machine.execBootRomStart aPasses s
  | .adminSubsetOpen => Sys2Proof.Machine.execAdminSubsetOpen s
  | .startDecision found => Sys2Proof.Machine.execStartDecision found s
  | .hallEntry => Sys2Proof.Machine.execHallEntry s
  | .linkTraining rate width flit lanes failOnce failTwice => Sys2Proof.Machine.execLinkTraining rate width flit lanes failOnce failTwice s
  | .linkDown => Sys2Proof.Machine.execLinkDown s
  | .nvmSubsystemReset => Sys2Proof.Machine.execNvmSubsystemReset s
  | .hotReset => Sys2Proof.Machine.execHotReset s
  | .flr fn => Sys2Proof.Machine.execFlr fn s
  | .flrComplete fn => Sys2Proof.Machine.execFlrComplete fn s
  | .tagQuarantineExpiry => Sys2Proof.Machine.execTagQuarantineExpiry s
  | .completionReceived tag kind data => Sys2Proof.Machine.execCompletionReceived tag kind data s
  | .completionTimeout tag => Sys2Proof.Machine.execCompletionTimeout tag s
  | .timeoutTagRelease => Sys2Proof.Machine.execTimeoutTagRelease s
  | .inboundErrorTlp e => Sys2Proof.Machine.execInboundErrorTlp e s
  | .atsInvalidate fn pasid page => Sys2Proof.Machine.execAtsInvalidate fn pasid page s
  | .translationCompletion tag page granted => Sys2Proof.Machine.execTranslationCompletion tag page granted s
  | .l0pNarrow => Sys2Proof.Machine.execL0pNarrow s
  | .l0pWiden => Sys2Proof.Machine.execL0pWiden s
  | .l1Entry l12 => Sys2Proof.Machine.execL1Entry l12 s
  | .l1Exit => Sys2Proof.Machine.execL1Exit s
  | .ptmDialog offset => Sys2Proof.Machine.execPtmDialog offset s
  | .busMasterEnableClear fn => Sys2Proof.Machine.execBusMasterEnableClear fn s
  | .busMasterEnableSet fn => Sys2Proof.Machine.execBusMasterEnableSet fn s
  | .doorbellWrite fn qid isCq value pasid => Sys2Proof.Machine.execDoorbellWrite fn qid isCq value pasid s
  | .sqEntryFetch sq => Sys2Proof.Machine.execSqEntryFetch sq s
  | .fetchAgePromotion sq => Sys2Proof.Machine.execFetchAgePromotion sq s
  | .sequencePoint c => Sys2Proof.Machine.execSequencePoint c s
  | .postingDecision c => Sys2Proof.Machine.execPostingDecision c s
  | .read c => Sys2Proof.Machine.execRead c s
  | .write c pi => Sys2Proof.Machine.execWrite c pi s
  | .writeZeroes c => Sys2Proof.Machine.execWriteZeroes c s
  | .datasetManagement c listRead => Sys2Proof.Machine.execDatasetManagement c listRead s
  | .flush c => Sys2Proof.Machine.execFlush c s
  | .invalidCommandOpcode c => Sys2Proof.Machine.execInvalidCommandOpcode c s
  | .abort c => Sys2Proof.Machine.execAbort c s
  | .deleteIoSubmissionQueue c => Sys2Proof.Machine.execDeleteIoSubmissionQueue c s
  | .createIoSubmissionQueue c cmb => Sys2Proof.Machine.execCreateIoSubmissionQueue c cmb s
  | .deleteIoCompletionQueue c => Sys2Proof.Machine.execDeleteIoCompletionQueue c s
  | .createIoCompletionQueue c => Sys2Proof.Machine.execCreateIoCompletionQueue c s
  | .identify c => Sys2Proof.Machine.execIdentify c s
  | .getLogPage c => Sys2Proof.Machine.execGetLogPage c s
  | .getFeatures c => Sys2Proof.Machine.execGetFeatures c s
  | .setFeaturesArbitration c => Sys2Proof.Machine.execSetFeaturesArbitration c s
  | .setFeaturesPowerManagement c => Sys2Proof.Machine.execSetFeaturesPowerManagement c s
  | .setFeaturesVolatileWriteCache c => Sys2Proof.Machine.execSetFeaturesVolatileWriteCache c s
  | .setFeaturesInterruptCoalescing c => Sys2Proof.Machine.execSetFeaturesInterruptCoalescing c s
  | .setFeaturesHctm c => Sys2Proof.Machine.execSetFeaturesHctm c s
  | .asynchronousEventRequest c => Sys2Proof.Machine.execAsynchronousEventRequest c s
  | .namespaceManagement c spec => Sys2Proof.Machine.execNamespaceManagement c spec s
  | .namespaceAttachment c slice => Sys2Proof.Machine.execNamespaceAttachment c slice s
  | .firmwareImageDownload c bytes => Sys2Proof.Machine.execFirmwareImageDownload c bytes s
  | .firmwareCommitReplace run => Sys2Proof.Machine.execFirmwareCommitReplace run s
  | .firmwareCommitNextReset run => Sys2Proof.Machine.execFirmwareCommitNextReset run s
  | .firmwareCommitActivate run => Sys2Proof.Machine.execFirmwareCommitActivate run s
  | .firmwareActivation => Sys2Proof.Machine.execFirmwareActivation s
  | .activationDrainDone => Sys2Proof.Machine.execActivationDrainDone s
  | .virtualizationManagement c => Sys2Proof.Machine.execVirtualizationManagement c s
  | .formatNvm c => Sys2Proof.Machine.execFormatNvm c s
  | .sanitizeBlockErase c => Sys2Proof.Machine.execSanitizeBlockErase c s
  | .sanitizeCryptoErase c => Sys2Proof.Machine.execSanitizeCryptoErase c s
  | .controllerEnable fn crime wrr => Sys2Proof.Machine.execControllerEnable fn crime wrr s
  | .controllerReset fn => Sys2Proof.Machine.execControllerReset fn s
  | .shutdownNotification fn shn => Sys2Proof.Machine.execShutdownNotification fn shn s
  | .autonomousPsTransition ps => Sys2Proof.Machine.execAutonomousPsTransition ps s
  | .nonopEntryComplete => Sys2Proof.Machine.execNonopEntryComplete s
  | .nonopExitComplete => Sys2Proof.Machine.execNonopExitComplete s
  | .rescueIdent seq => Sys2Proof.Machine.execRescueIdent seq s
  | .rescueLoad seq => Sys2Proof.Machine.execRescueLoad seq s
  | .rescueCommit seq => Sys2Proof.Machine.execRescueCommit seq s
  | .rescueRestore seq => Sys2Proof.Machine.execRescueRestore seq s
  | .rescueRestart seq => Sys2Proof.Machine.execRescueRestart seq s
  | .rescueTaskEnd storeOk => Sys2Proof.Machine.execRescueTaskEnd storeOk s
  | .tokenRefill => Sys2Proof.Machine.execTokenRefill s
  | .floorWindow => Sys2Proof.Machine.execFloorWindow s
  | .sliceCommit sl => Sys2Proof.Machine.execSliceCommit sl s
  | .sliceDiscard sl => Sys2Proof.Machine.execSliceDiscard sl s
  | .sliceQuiesce sl => Sys2Proof.Machine.execSliceQuiesce sl s
  | .sliceQuiesced sl => Sys2Proof.Machine.execSliceQuiesced sl s
  | .sliceUnquiesce sl => Sys2Proof.Machine.execSliceUnquiesce sl s
  | .qstateWrite sqHead sqTail cqTail phase => Sys2Proof.Machine.execQstateWrite sqHead sqTail cqTail phase s
  | .dlogHeadWrite sl head => Sys2Proof.Machine.execDlogHeadWrite sl head s
  | .dlogEpochWrite sl value => Sys2Proof.Machine.execDlogEpochWrite sl value s
  | .sliceResetDrain sl => Sys2Proof.Machine.execSliceResetDrain sl s
  | .sliceResetSquash sl => Sys2Proof.Machine.execSliceResetSquash sl s
  | .sliceDrainTimeout sl => Sys2Proof.Machine.execSliceDrainTimeout sl s
  | .sliceReset sl => Sys2Proof.Machine.execSliceReset sl s
  | .sliceResetDone sl => Sys2Proof.Machine.execSliceResetDone sl s
  | .galleryWrite tlp bytes => Sys2Proof.Machine.execGalleryWrite tlp bytes s
  | .galleryRead tlp len => Sys2Proof.Machine.execGalleryRead tlp len s
  | .fence tlp => Sys2Proof.Machine.execFence tlp s
  | .fenceCompletion w => Sys2Proof.Machine.execFenceCompletion w s
  | .winCommit => Sys2Proof.Machine.execWinCommit s
  | .winDiscard => Sys2Proof.Machine.execWinDiscard s
  | .windowSetActivate => Sys2Proof.Machine.execWindowSetActivate s
  | .windowCommitTimeout => Sys2Proof.Machine.execWindowCommitTimeout s
  | .rtPanicAssert => Sys2Proof.Machine.execRtPanicAssert s
  | .rtPanicRelease => Sys2Proof.Machine.execRtPanicRelease s
  | .mapCommit => Sys2Proof.Machine.execMapCommit s
  | .journalPageWrite => Sys2Proof.Machine.execJournalPageWrite s
  | .journalPageGood copyA => Sys2Proof.Machine.execJournalPageGood copyA s
  | .journalCopyLost lost => Sys2Proof.Machine.execJournalCopyLost lost s
  | .segmentWriteback nsid seg loc => Sys2Proof.Machine.execSegmentWriteback nsid seg loc s
  | .directoryCheckpoint => Sys2Proof.Machine.execDirectoryCheckpoint s
  | .segmentLoad nsid seg => Sys2Proof.Machine.execSegmentLoad nsid seg s
  | .suspectRebuild nsid g fromSegment bandsOk => Sys2Proof.Machine.execSuspectRebuild nsid g fromSegment bandsOk s
  | .bandClose b => Sys2Proof.Machine.execBandClose b s
  | .bandOpenTimeout b => Sys2Proof.Machine.execBandOpenTimeout b s
  | .victimSelect b => Sys2Proof.Machine.execVictimSelect b s
  | .bandRelease b => Sys2Proof.Machine.execBandRelease b s
  | .foldStart => Sys2Proof.Machine.execFoldStart s
  | .foldStop => Sys2Proof.Machine.execFoldStop s
  | .dieOperationSubmit op => Sys2Proof.Machine.execDieOperationSubmit op s
  | .dieOperationStart d => Sys2Proof.Machine.execDieOperationStart d s
  | .dieReady d st => Sys2Proof.Machine.execDieReady d st s
  | .dieAgePromotion op => Sys2Proof.Machine.execDieAgePromotion op s
  | .suspendIssue d => Sys2Proof.Machine.execSuspendIssue d s
  | .resumeSubmit d => Sys2Proof.Machine.execResumeSubmit d s
  | .dieOffline d => Sys2Proof.Machine.execDieOffline d s
  | .dieReenable d => Sys2Proof.Machine.execDieReenable d s
  | .rebudget => Sys2Proof.Machine.execRebudget s
  | .junctionSensorRead temps => Sys2Proof.Machine.execJunctionSensorRead temps s
  | .channelInit part found => Sys2Proof.Machine.execChannelInit part found s
  | .zqCalibration => Sys2Proof.Machine.execZqCalibration s
  | .channelRetrain ch ce found => Sys2Proof.Machine.execChannelRetrain ch ce found s
  | .statusPoll d ready => Sys2Proof.Machine.execStatusPoll d ready s
  | .busyTimeout d => Sys2Proof.Machine.execBusyTimeout d s
  | .writeGuardActivate g => Sys2Proof.Machine.execWriteGuardActivate g s
  | .writeGuardClear g => Sys2Proof.Machine.execWriteGuardClear g s
  | .guardWaitTimeout op => Sys2Proof.Machine.execGuardWaitTimeout op s
  | .dieTemperaturePoll d tempC => Sys2Proof.Machine.execDieTemperaturePoll d tempC s
  | .verifyRead d block page => Sys2Proof.Machine.execVerifyRead d block page s
  | .codewordDecode loc res => Sys2Proof.Machine.execCodewordDecode loc res s
  | .thetaUpdate => Sys2Proof.Machine.execThetaUpdate s
  | .thetaStore => Sys2Proof.Machine.execThetaStore s
  | .scrubVisit b samples => Sys2Proof.Machine.execScrubVisit b samples s
  | .scrubWindowOpen w => Sys2Proof.Machine.execScrubWindowOpen w s
  | .scrubWindowClose w => Sys2Proof.Machine.execScrubWindowClose w s
  | .wearUpdate => Sys2Proof.Machine.execWearUpdate s
  | .keyLoad slot => Sys2Proof.Machine.execKeyLoad slot s
  | .keyGenerate slot => Sys2Proof.Machine.execKeyGenerate slot s
  | .keyClear slot => Sys2Proof.Machine.execKeyClear slot s
  | .keyOpEnd => Sys2Proof.Machine.execKeyOpEnd s
  | .gatherTimeout b row pos stripe => Sys2Proof.Machine.execGatherTimeout b row pos stripe s
  | .stripeJournalPageWrite => Sys2Proof.Machine.execStripeJournalPageWrite s
  | .stripeJournalCopyLost lost => Sys2Proof.Machine.execStripeJournalCopyLost lost s
  | .rebuildStart => Sys2Proof.Machine.execRebuildStart s
  | .rebuildStripe b row pos stripe survivors => Sys2Proof.Machine.execRebuildStripe b row pos stripe survivors s
  | .rebuildPhase2 => Sys2Proof.Machine.execRebuildPhase2 s
  | .energyEstimate codes => Sys2Proof.Machine.execEnergyEstimate codes s
  | .storeCharged => Sys2Proof.Machine.execStoreCharged s
  | .dischargeTestStart => Sys2Proof.Machine.execDischargeTestStart s
  | .dischargeTestEnd => Sys2Proof.Machine.execDischargeTestEnd s
  | .bufferRequest unit size slice urgent prev => Sys2Proof.Machine.execBufferRequest unit size slice urgent prev s
  | .bufferGrant pool => Sys2Proof.Machine.execBufferGrant pool s
  | .bufferShare h by_ unit => Sys2Proof.Machine.execBufferShare h by_ unit s
  | .bufferFree h by_ => Sys2Proof.Machine.execBufferFree h by_ s
  | .bufferFreeChain h by_ => Sys2Proof.Machine.execBufferFreeChain h by_ s
  | .poisonBufferClean h clean => Sys2Proof.Machine.execPoisonBufferClean h clean s
  | .ringRefill pool => Sys2Proof.Machine.execRingRefill pool s
  | .sramScrub offset errBits => Sys2Proof.Machine.execSramScrub offset errBits s
  | .dramRequest a ecc => Sys2Proof.Machine.execDramRequest a ecc s
  | .dramAgePromotion mapN => Sys2Proof.Machine.execDramAgePromotion mapN s
  | .dramRefresh ch sub => Sys2Proof.Machine.execDramRefresh ch sub s
  | .mr4Read tempC => Sys2Proof.Machine.execMr4Read tempC s
  | .rowTableClear => Sys2Proof.Machine.execRowTableClear s
  | .patrolScrub addr ecc => Sys2Proof.Machine.execPatrolScrub addr ecc s
  | .dramAlert ch => Sys2Proof.Machine.execDramAlert ch s
  | .dramTraining chMask ranks dens32 cidBits passed => Sys2Proof.Machine.execDramTraining chMask ranks dens32 cidBits passed s
  | .dqsOscillatorRead ch drift => Sys2Proof.Machine.execDqsOscillatorRead ch drift s
  | .dramZqCalibration => Sys2Proof.Machine.execDramZqCalibration s
  | .dramRetrain ch => Sys2Proof.Machine.execDramRetrain ch s
  | .retireGo => Sys2Proof.Machine.execRetireGo s
  | .retireCopyDone entry => Sys2Proof.Machine.execRetireCopyDone entry s
  | .selfRefreshEntry => Sys2Proof.Machine.execSelfRefreshEntry s
  | .selfRefreshExit => Sys2Proof.Machine.execSelfRefreshExit s
  | .rankPowerDown ch rank => Sys2Proof.Machine.execRankPowerDown ch rank s
  | .cutFault cause => Sys2Proof.Machine.execCutFault cause s
  | .watchdogExpiry => Sys2Proof.Machine.execWatchdogExpiry s
  | .heartbeatWrite cluster epoch => Sys2Proof.Machine.execHeartbeatWrite cluster epoch s
  | .cutGo => Sys2Proof.Machine.execCutGo s
  | .cutReq r value => Sys2Proof.Machine.execCutReq r value s
  | .cutFence => Sys2Proof.Machine.execCutFence s
  | .epochTake => Sys2Proof.Machine.execEpochTake s
  | .clusterSelftestEnd cluster pass => Sys2Proof.Machine.execClusterSelftestEnd cluster pass s
  | .clusterSyncDone cluster => Sys2Proof.Machine.execClusterSyncDone cluster s
  | .clusterRepair cluster => Sys2Proof.Machine.execClusterRepair cluster s
  | .standbySelftest => Sys2Proof.Machine.execStandbySelftest s
  | .rotateCut => Sys2Proof.Machine.execRotateCut s
  | .scriptWrite cluster epoch bytes => Sys2Proof.Machine.execScriptWrite cluster epoch bytes s
  | .scriptCheckpoint => Sys2Proof.Machine.execScriptCheckpoint s
  | .csuProgram r => Sys2Proof.Machine.execCsuProgram r s
  | .csuErase r => Sys2Proof.Machine.execCsuErase r s
  | .wprogram r => Sys2Proof.Machine.execWprogram r s
  | .werase r => Sys2Proof.Machine.execWerase r s
  | .loaderCopy r => Sys2Proof.Machine.execLoaderCopy r s
  | .csuCommandEnd bank ok => Sys2Proof.Machine.execCsuCommandEnd bank ok s
  | .codeStoreReadSuspend bank => Sys2Proof.Machine.execCodeStoreReadSuspend bank s
  | .codeStoreEraseResume bank => Sys2Proof.Machine.execCodeStoreEraseResume bank s
  | .windowSlide => Sys2Proof.Machine.execWindowSlide s
  | .wpWrite cluster pair n value => Sys2Proof.Machine.execWpWrite cluster pair n value s
  | .sealStateWrite r value => Sys2Proof.Machine.execSealStateWrite r value s
  | .sealGrantSession r grant => Sys2Proof.Machine.execSealGrantSession r grant s
  | .sealGrantDowngrade r grant => Sys2Proof.Machine.execSealGrantDowngrade r grant s
  | .pendingTakeLimit => Sys2Proof.Machine.execPendingTakeLimit s
  | .actDeadline => Sys2Proof.Machine.execActDeadline s
  | .healthConfirm r value => Sys2Proof.Machine.execHealthConfirm r value s
  | .confirmWindowExpiry => Sys2Proof.Machine.execConfirmWindowExpiry s
  | .fallbackReboot => Sys2Proof.Machine.execFallbackReboot s
  | .callSheetRead r => Sys2Proof.Machine.execCallSheetRead r s
  | .callSheetWrite r bytes => Sys2Proof.Machine.execCallSheetWrite r bytes s
  | .storedWriteCommit => Sys2Proof.Machine.execStoredWriteCommit s
  | .describe r => Sys2Proof.Machine.execDescribe r s
  | .fwObjectTimeout => Sys2Proof.Machine.execFwObjectTimeout s
  | .mctpControlMessage i3c eid => Sys2Proof.Machine.execMctpControlMessage i3c eid s
  | .nvmeMiBasicManagement i3c eid => Sys2Proof.Machine.execNvmeMiBasicManagement i3c eid s
  | .fleetSet r value => Sys2Proof.Machine.execFleetSet r value s
  | .powerOnSecondsStore => Sys2Proof.Machine.execPowerOnSecondsStore s
  | .recorderTrigger t => Sys2Proof.Machine.execRecorderTrigger t s
  | .fwTrigger code => Sys2Proof.Machine.execFwTrigger code s
  | .reelPageFlush => Sys2Proof.Machine.execReelPageFlush s
  | .reelRead first slot => Sys2Proof.Machine.execReelRead first slot s
  | .freeze on => Sys2Proof.Machine.execFreeze on s
  | .freezeExpiry => Sys2Proof.Machine.execFreezeExpiry s
  | .avsRequest mv => Sys2Proof.Machine.execAvsRequest mv s
  | .ptmValidExpiry => Sys2Proof.Machine.execPtmValidExpiry s
  | .interruptCoalescingExpiry cq => Sys2Proof.Machine.execInterruptCoalescingExpiry cq s
  | .fwObjectAnswer status bytes => Sys2Proof.Machine.execFwObjectAnswer status bytes s
  | .jtagDebugAccess space addr wr => Sys2Proof.Machine.execJtagDebugAccess space addr wr s
  | .tuigorBadMsg m => Sys2Proof.Machine.execTuigorBadMsg m s
  | .smbusTimeout => Sys2Proof.Machine.execSmbusTimeout s
  | .i3cDynamicAddressAssignment entdaa addr => Sys2Proof.Machine.execI3cDynamicAddressAssignment entdaa addr s
  | .setFeaturesCriticalWarnings c => Sys2Proof.Machine.execSetFeaturesCriticalWarnings c s

end Sys2Proof.Machine
end

