-- ==== Sys2Proof/Machine/Tick.lean ====
section
/-! DEFINITION. What happens at a clapper tick whatever is commanded: the end of the tick that passes, the clock, and the work that the spec has the units do in a tick (R21; notes/assumptions/2.md). -/

namespace Sys2Proof.Machine

/-! ## The tick that ends -/

/-- Count one tick in an RC field while its condition holds. -/
def State.waitCount (f : Field) (on : Bool) (s : State) : State := if on then s.count f 0 1 else s

/-- What the operation that comes first on a die waits for: an accumulator or a journal entry (R327, R330), tokens (R226), the stagger (R229). -/
inductive StartWait where
  | stripe | tokens | stagger
deriving DecidableEq, Repr

/-- The wait of a die's next start, if it has one. -/
def State.startWait (s : State) (d : Nat) : Option StartWait :=
  match s.leading d with
  | some (_, o) =>
    if s.stripeHeld o then some .stripe
    else if s.startHeld o then none
    else if !s.tokensOk o then some .tokens
    else if !s.staggerOk o then some .stagger
    else none
  | none => none

/-- What a dump die's next page waits for (R229, R364). -/
def State.dumpWait (s : State) (r : DumpRun) (d : Nat) : Option StartWait :=
  if (s.dumpPage r d).isNone then none else if !s.dumpTokensOk then some .tokens else if !s.staggerPassed then some .stagger else none

/-- A die has this wait; while a dump runs only its pages start (R237). -/
def State.anyWait (s : State) (w : StartWait) : Bool :=
  match s.hum.dump with
  | some r => s.hum.dies.any fun d => s.dumpWait r d == some w
  | none => s.dsc.dies.any fun d => s.startWait d.1 == some w

/-- The full ring stalls something of the slice now (R153): an entry, a sequence point, data or a CQ entry. -/
def State.dlogHolds (s : State) (sl : Nat) : Bool :=
  s.dlogStalled sl && ((s.tnu.slice sl).dlogWait != [] || s.qen.ctxs.any fun e => !e.2.admin && e.2.slice == sl
    && (e.2.state == .ready || e.2.state == .dataOut || (e.2.state == .lookup && e.2.sqe.opcode != 0x02)))

/-- The counters of waiting ticks (R71, R96, R153, R181, R215, R226, R229, R327, R330, R383, R384, R398). -/
def State.tickCounts (s : State) : State :=
  ((((((((((((s.waitCount Fld.HLU_NP_STALL.TICKS s.npStalled).waitCount Fld.QEN_FETCH_STALL.TICKS s.fetchStalled).waitCount
    Fld.TNU_DLOG_STALL.TICKS (s.sliceIds.any s.dlogHolds)).waitCount
    Fld.GAL_RT_HOLD.TICKS s.gal.withholds).waitCount
    Fld.DSC_ADMIT_WAIT.TICKS (s.dsc.dies.any fun d => !d.2.arriving.isEmpty)).waitCount
    Fld.DSC_TOKEN_WAIT.TICKS (s.anyWait .tokens)).waitCount
    Fld.DSC_STAGGER_WAIT.TICKS (s.anyWait .stagger)).waitCount
    Fld.SPE_ACC_WAIT.TICKS (s.anyWait .stripe)).waitCount
    Fld.BPM_ALLOC_WAIT.TICKS (s.bpm.pools.any fun p => !p.waiters.isEmpty)).waitCount
    Fld.BPM_SLICE_HOLD.TICKS (!s.bpm.sliceHeld.isEmpty)).waitCount
    Fld.DMC_PANIC_TICKS.TICKS s.dmc.panic).modCsu Csu.suspCount).guardTick

/-- Two or more classes of Table 1.5 were sampled in the tick (TBU_COLL_CNT, TBU_COLL_LAST). -/
def State.collisions (s : State) : State :=
  if 2 ≤ ((List.range 10).filter s.tbu.classes.getLsbD).length then
    (s.count Fld.TBU_COLL_CNT.COUNT 0 1).setFld Fld.TBU_COLL_LAST.CLASSES 0 s.tbu.classes.toNat
  else s

/-- The time in a thermal step (R232). -/
def Dsc.stepTick (d : Dsc) : Dsc :=
  { d with stepTime1 := if d.step = 1 then d.stepTime1 + 1 else d.stepTime1, stepTime2 := if d.step = 2 then d.stepTime2 + 1 else d.stepTime2 }

/-- Queued reads of contexts that were freed leave the die queues (R236). -/
def State.withdrawFreed (s : State) : State :=
  (s.dsc.ops.filter fun e => match e.2.why with
    | .host c => (s.qen.freed.any fun f => f.1 == c) && (s.dsc.die e.2.req.die).active != some e.1
    | _ => false).foldl (fun s e => s.dropOp e.2.req.die e.1) s.dropRecovery

/-- What belonged to one tick only (R7, R8, R16, R17, R23, R52, R73, R298, R383). -/
def State.forgetTick (s : State) : State :=
  { s with
    sheetOld := s.sheetOld.filter fun e => decide (2 ^ 40 ≤ e.1)
    regf := { s.regf with hwSet := [], rcPre := [], rcAdd := [], split := [], splitRd := [] }
    tbu := { s.tbu with classes := 0, resetNow := false }
    power := { s.power with shown := s.power.stage }
    hlu := { s.hlu with freedTags := [] }
    qen := { s.qen with freed := [], protOk := s.hum.state == .verified && s.qen.wce }
    mxe := { s.mxe with seqLast := none }
    fca := { s.fca with cleared := [] }
    cdx := { s.cdx with winClosed := false, keyPrev := [] }
    bpm := { s.bpm with freedNow := [] }
    mgp := { s.mgp with wrote := [] } }

/-! ## The clock -/

/-- Slewed part of a tick in 10⁻⁶ quarter ns: at most SLEW_PPM of 1.25 ns, towards the offset (R475). -/
def slewStep (left : Int) (ppm : Nat) : Int := max (-(5 * ppm : Nat)) (min left (5 * ppm : Nat))

/-- The next tick: fleet time moves on by 1.25 ns and what slewing adds (R21, R474, R475). -/
def State.clock (s : State) : State :=
  let d := slewStep s.tbu.slewLeft (s.obj Ob.SLEW_PPM)
  let acc := s.tbu.slewAcc + d
  let q := (s.tbu.fleetQ : Int) + 5 + acc / 1000000
  s.modTbu fun t => { t with
    tick := t.tick + 1, fleet := t.fleet + BitVec.ofInt 64 (q / 4), fleetQ := (q % 4).toNat
    slewLeft := t.slewLeft - d, slewAcc := acc % 1000000 }

/-! ## The work of a tick -/

/-- A write changed an object that R370 names. -/
def holdupKey (k : Nat) : Bool := decide (256 * 0x5400 + 3 ≤ k) && decide (k ≤ 256 * 0x5400 + 7)

/-- What R201 makes strict, from the next tick on. -/
def State.strictNow (s : State) : Bool :=
  s.hum.state != .verified || s.objB Ob.STRICT_FORCE

/-- LZ_PCT in force: raised at once, lowered once the landing bands fit (R213). -/
def State.lzApply (s : State) : State :=
  let v := s.obj Ob.LZ_PCT
  if s.mxe.lzPct ≤ v ∨ s.mxe.landingBlocks ≤ ceilDiv (s.totalBlocks * v) 100 then s.modMxe fun m => { m with lzPct := v } else s

/-- A deferred discharge test runs in an operational state (R356). -/
def State.testResume (s : State) : State := if s.hum.testDue && s.testable && decide (s.qen.ps ≤ 2) then s.startTest else s

/-- A request for VDD_CORE that an event of class 1 to 3 asks for (R513). -/
def State.avsTake (s : State) : State :=
  match s.power.avsPend with
  | some mv => s.avsSend mv
  | none => s

/-- Lost copies of the journals are rewritten, once a start has restored the map (R199, Table 11.4; notes/assumptions/24.md). -/
def State.copiesRestore (s : State) : State :=
  if s.power.mapRestored && s.fca.initialised then s.journalRestore.sjRestore else s

/-- The map engine, the stripe engine and the media in a tick. -/
def State.mediaTick (s : State) : State :=
  let s := s.modDsc Dsc.stepTick
  (((((((s.xferTick.modMxe fun m => { m with readOnly := m.spareOut }).sweepJobBufs.sweepRaw.lockStart).sweepWrites.orphansDone).trimsDone).copiesRestore).releaseDegraded.rebuildEnd.lzApply.modMxe fun m => { m with strict := s.strictNow }).dumpTick).dumpDone.shutWorkEnd.journalLand

/-- Queues, buffers and the host side in a tick. -/
def State.hostTick (s : State) : State :=
  (((((s.dlogTick.chainTick.admitHeld.dataResume).dmaIssue).galTick).flushDone).deletionsDone).shutdownEnd

/-- Management, the code store and the clusters in a tick. -/
def State.controlTick (s : State) : State :=
  (((((s.sealApply.applyStaged).scanTick).fallbackWrite).clusterTick).serveWaiting).humEval.testResume.avsTake

/-- What the units do in the new tick: the upper words of reads and writes of 8 B in their order (R496), then each unit's part. -/
def State.tickWork (splitRd : List (Accessor × Nat)) (split : List (Accessor × Nat × Word)) (holdup : Bool) (s : State) : State :=
  let s := splitRd.foldl (fun s e => s.readAt e.1 e.2) s
  let s := split.foldl (fun s e => s.splitWord e) s
  let s := if holdup then s.humInvalidate else s
  (((((s.controlTick).hostTick).mediaTick).dramTick).idleTrack).captureTick State.peek

/-- One clapper tick. Held unpowered, the controller has no clock (R34). -/
def State.tick (s : State) : State :=
  if s.power.unpowered then s.forgetTick
  else
    let e := s.slatesEnd.tickCounts.collisions.withdrawFreed.forceOnLoss.linkUse
    (e.forgetTick.clock).tickWork e.regf.splitRd e.regf.split (e.sheetOld.any fun k => holdupKey k.1)

end Sys2Proof.Machine
end

