-- ==== Sys2Proof/Machine/Pins.lean ====
section
/-! DEFINITION. The output pins as the state sets them (R59, Table 2.7, R263, R264, Table 12.2; notes/assumptions/36.md). -/

namespace Sys2Proof.Machine

/-- What Table 2.7 says of a group of outputs: a level, or who drives it. -/
inductive PinLevel where
  /-- High impedance, or not driven with the board's resistor. -/
  | z
  | low
  | high
  /-- Electrical idle of the transmitters; the idle levels of NAND outputs (R263); the levels that DDR5 asks for in reset. -/
  | idle
  /-- Driven by the link, the sequencer, the training or the DDR protocol. -/
  | active
deriving DecidableEq, Repr, Inhabited

/-- A channel carries the work of R38 or R56, or a dump (R59, R266). -/
def State.chCarries (s : State) (ch : Nat) : Bool :=
  (s.power.shutWork || s.power.mediaPend || s.hum.dump.isSome)
    && ((s.dsc.dies.any fun d => chOf d.1 == ch && d.2.active.isSome) || (s.dsc.ops.any fun o => chOf o.2.req.die == ch)
      || (s.hum.dump.isSome && s.hum.dies.any fun d => chOf d == ch))

/-- The outputs of a channel are held by a cut (R264); a dump ends the hold (R265). -/
def State.chHeld (s : State) : Bool := s.fca.gapHeld && s.hum.dump.isNone

/-- PCIe transmitters. -/
def State.txPins (s : State) : PinLevel :=
  if s.power.unpowered then .z else if s.power.stage = .foyer then .idle else .active

/-- CE_N of a channel. In Stair the sequences of R246 that drive it fall within CHANNEL_INIT: between commands it is high. -/
def State.cePins (s : State) (ch : Nat) : PinLevel :=
  if s.power.unpowered then .z
  else if s.chCarries ch then .active
  else if s.power.stage = .hall ∧ s.chHeld = false then .active
  else .high

/-- WP_N of a channel: low until the write guard is armed (Table 9.3). -/
def State.wpPins (s : State) (ch : Nat) : PinLevel :=
  if s.power.unpowered then .z
  else if s.chCarries ch then .high
  else
    match s.power.stage with
    | .foyer => .low
    | .stair => if s.fca.initialised then .high else .low
    | .hall => .high

/-- The other outputs of a channel. -/
def State.nandPins (s : State) (ch : Nat) : PinLevel :=
  if s.power.unpowered then .z
  else if s.chCarries ch then .active
  else if s.power.stage = .foyer ∨ s.chHeld = true then .idle
  else .active

/-- DRAM RESET_N: in Stair high from the start of training, also after one that failed. -/
def State.ramResetPin (s : State) : PinLevel :=
  if s.power.unpowered then .z
  else
    match s.power.stage with
    | .foyer => .low
    | .stair => if s.dmc.begun then .high else .low
    | .hall => .high

/-- The other DDR outputs. -/
def State.ddrPins (s : State) : PinLevel :=
  if s.power.unpowered then .z else if s.power.stage = .foyer then .idle else .active

/-! ## PHY power (R516): the PHY of a channel or lane that the controller does not use is powered down -/

/-- The PHY of a NAND channel: on until its dies are known, then for a trained channel with dies. -/
def State.nandPhyOn (s : State) (ch : Nat) : Bool :=
  !s.power.unpowered && (!s.fca.initialised || (Tbl.find? s.fca.chs ch).any fun x => x.trained && x.present != 0)

/-- The PHY of a DDR channel: on until training has told the population, then for a populated channel. -/
def State.ddrPhyOn (s : State) (ch : Nat) : Bool := !s.power.unpowered && (!s.dmc.trained || s.dmc.chMask.getLsbD ch)

/-- The PHY of a PCIe lane: on until the link has trained, then for the lanes of the trained width; with lane reversal these are the highest (R66). -/
def State.lanePhyOn (s : State) (lane : Nat) : Bool :=
  !s.power.unpowered && (!s.hlu.up || decide ((if s.hlu.laneRev then 15 - lane else lane) < s.hlu.width))

/-- VDD_AUX is out of its range. -/
def State.auxOut (s : State) : Bool := s.power.railsOut.contains .aux

/-- I3C and SMBus: targets while VDD_AUX is in range. -/
def State.sidebandPins (s : State) : PinLevel := if s.auxOut then .z else .active

/-- HOLDUP_EN and CHG_CTL (Table 12.2). -/
def State.holdupPin (s : State) : PinLevel := if s.auxOut then .z else if s.holdupEn then .high else .low

def State.chargePin (s : State) : PinLevel := if s.auxOut then .z else if s.chgCtl then .high else .low

end Sys2Proof.Machine
end

