-- ==== Sys2Proof/WellFormed.lean ====
section
/-! DEFINITION. Which commands are well formed: the bounds that the spec gives the numbers a command carries, so that a number names a thing the controller has. -/

namespace Sys2Proof

/-! ## Ranges -/

/-- PF0 and VF 1 to 63 (R132). -/
def fnOk (n : Nat) : Bool := decide (n < 64)
/-- The 16,384 contexts (R96). -/
def ctxOk (n : Nat) : Bool := decide (n < 16384)
/-- The 1,024 slices (R132). -/
def sliceOk (n : Nat) : Bool := decide (n < 1024)
/-- The 1,024 dies on 32 channels (00). -/
def dieOk (n : Nat) : Bool := decide (n < 1024)
/-- The 512 windows (Table 6.3). -/
def winOk (n : Nat) : Bool := decide (n < 512)
/-- The 1,024 namespace identifiers (07). -/
def nsidOk (n : Nat) : Bool := decide (1 ≤ n) && decide (n ≤ 1024)
/-- 13 bits of block and 12 bits of page (Table 7.1). -/
def blockOk (n : Nat) : Bool := decide (n < 8192)
def pageOk (n : Nat) : Bool := decide (n < 4096)
/-- A slot's place (R183). -/
def Loc.ok (l : Loc) : Bool := dieOk l.die && blockOk l.block && pageOk l.page && decide (l.slot < 4)
/-- The 4,096 key slots (Table 5.1). -/
def keySlotOk (n : Nat) : Bool := decide (n < 4096)
/-- The 17 units of Table 0.3. -/
def unitOk (n : Nat) : Bool := decide (n < 17)
/-- The five pools of Table 13.1. -/
def poolOk (n : Nat) : Bool := decide (n < 5)
/-- DRAM channels, subchannels and ranks (14). -/
def dramChOk (n : Nat) : Bool := decide (n < 4)
/-- The four scrub windows (Table 10.10). -/
def scrubWinOk (n : Nat) : Bool := decide (n < 4)
/-- The four lockstep pairs of a cluster (15). -/
def pairOk (n : Nat) : Bool := decide (n < 4)

/-- BARs of Table 3.3, 4 B or 8 B accesses on 4 B boundaries (R496, R497). -/
def Accessor.ok : Accessor → Bool
  | .host fn bar => fnOk fn && (bar == 0 || bar == 4)
  | .firmware _ pair _ => pairOk pair

/-- An access's size: the host's are 4 B or 8 B on 4 B boundaries (R496, R497); drive firmware's 1, 2, 4 or 8 B: at a unit register block those that are not aligned, or not of 4 B or 8 B, end with a bus error (R496). -/
def accessOk (who : Accessor) (addr size : Nat) : Bool :=
  match who with
  | .host _ _ => (size == 4 || size == 8) && decide (addr % 4 = 0)
  | .firmware _ _ _ => size == 1 || size == 2 || size == 4 || size == 8

/-- Rails whose loss is a supply loss (R359): VDD_AUX is no such rail. -/
def SupplyCause.ok : SupplyCause → Bool
  | .pwrfailN => true
  | .rail r => r != .aux

/-- Transports of Table 17.2: ports 0 to 3. -/
def Transport.ok : Transport → Bool
  | .i3c | .smbus | .firmware => true
  | .port p => decide (p < 4)

/-- An object address has 16 bits of index and 8 of sub-index (R461), a tag 8 bits. -/
def SheetRequest.ok (r : SheetRequest) : Bool := r.via.ok && decide (r.index < 65536) && decide (r.sub < 256) && decide (r.tag < 256) && decide (r.eid < 256)

/-- Link rates 2.5 to 64 GT/s as 1 to 6, and widths of Table 3.1. -/
def rateOk (n : Nat) : Bool := decide (1 ≤ n) && decide (n ≤ 6)
def widthOk (n : Nat) : Bool := n == 1 || n == 2 || n == 4 || n == 8 || n == 16

/-- A peer TLP's function and aperture. -/
def PeerTlp.ok (t : PeerTlp) : Bool := fnOk t.fn && decide (t.offset < 2 ^ 36) && t.pasid.all fun p => decide (p < 2 ^ 20)

/-- A die operation names a die, block and page that exist, and one to six planes. -/
def OpRequest.ok (r : OpRequest) : Bool := dieOk r.die && blockOk r.block && pageOk r.page && decide (1 ≤ r.planes) && decide (r.planes ≤ 6) && sliceOk r.slice

/-- A guard input's die. -/
def GuardInput.ok : GuardInput → Bool
  | .vin | .vddq | .pwrfail | .vddqDump => true
  | .temp d | .stale d => dieOk d

/-- A DRAM access is a 64 B burst. -/
def DramAccess.ok (a : DramAccess) : Bool := decide (a.addr % 64 = 0)

/-- A code store command's sector and page fields (CSU_CMD). -/
def CsuRequest.ok (r : CsuRequest) : Bool := pairOk r.pair && decide (r.sector < 2048) && decide (r.page < 64)

/-- A trigger code, source unit and instance (Table 18.2). -/
def Trigger.ok (t : Trigger) : Bool := decide (t.code < 64) && unitOk t.unit && decide (t.inst < 65536)

/-- Recorder reels (R489, R490). -/
def reelOk (first : Bool) (slot : Nat) : Bool := decide (slot < if first then 1024 else 8192)

/-- A configuration write's values (R65, R75). -/
def CfgWrite.ok : CfgWrite → Bool
  | .device mps mrrs _ => (mps == 128 || mps == 256 || mps == 512) && decide (128 ≤ mrrs) && decide (mrrs ≤ 4096)
  | .sriov _ _ n => decide (n ≤ 63)
  | .link _ _ _ _ | .completionTimeout _ | .ecrc _ _ | .ptm _ | .ats _ | .memorySpace _ => true

/-- The command's numbers are in their ranges. -/
def Instr.wellFormed : Instr → Bool
  | .registerWrite who addr size _ _ => who.ok && accessOk who addr size
  | .rcFieldRead who span => who.ok && accessOk who span.addr span.size
  | .loRegisterRead who span => who.ok && accessOk who span.addr span.size
  | .supplyLoss cause => cause.ok
  | .thermalTrip sensor => decide (sensor < 8)
  | .configurationRequest fn offset wr => fnOk fn && decide (offset < 4096) && wr.all CfgWrite.ok
  | .linkTraining rate width _ _ _ _ => rateOk rate && widthOk width
  | .flr fn => fnOk fn
  | .flrComplete fn => fnOk fn
  | .atsInvalidate fn _ _ => fnOk fn
  | .busMasterEnableClear fn => fnOk fn
  | .busMasterEnableSet fn => fnOk fn
  | .doorbellWrite fn qid _ value _ => fnOk fn && decide (qid < 65536) && decide (value < 65536)
  | .sequencePoint c => ctxOk c
  | .postingDecision c => ctxOk c
  | .read c => ctxOk c
  | .write c _ => ctxOk c
  | .writeZeroes c => ctxOk c
  | .datasetManagement c _ => ctxOk c
  | .flush c => ctxOk c
  | .invalidCommandOpcode c => ctxOk c
  | .abort c => ctxOk c
  | .deleteIoSubmissionQueue c => ctxOk c
  | .createIoSubmissionQueue c _ => ctxOk c
  | .deleteIoCompletionQueue c => ctxOk c
  | .createIoCompletionQueue c => ctxOk c
  | .identify c => ctxOk c
  | .getLogPage c => ctxOk c
  | .getFeatures c => ctxOk c
  | .setFeaturesArbitration c => ctxOk c
  | .setFeaturesPowerManagement c => ctxOk c
  | .setFeaturesVolatileWriteCache c => ctxOk c
  | .setFeaturesInterruptCoalescing c => ctxOk c
  | .setFeaturesHctm c => ctxOk c
  | .asynchronousEventRequest c => ctxOk c
  | .namespaceManagement c _ => ctxOk c
  | .namespaceAttachment c slice => ctxOk c && slice.all sliceOk
  | .firmwareImageDownload c _ => ctxOk c
  | .firmwareCommitReplace run => ctxOk run.ctx
  | .firmwareCommitNextReset run => ctxOk run.ctx
  | .firmwareCommitActivate run => ctxOk run.ctx
  | .virtualizationManagement c => ctxOk c
  | .formatNvm c => ctxOk c
  | .sanitizeBlockErase c => ctxOk c
  | .sanitizeCryptoErase c => ctxOk c
  | .setFeaturesCriticalWarnings c => ctxOk c
  | .controllerEnable fn _ _ => fnOk fn
  | .controllerReset fn => fnOk fn
  | .shutdownNotification fn shn => fnOk fn && (shn == 1 || shn == 2)
  | .autonomousPsTransition ps => decide (ps < 5)
  | .sliceCommit sl => sliceOk sl
  | .sliceDiscard sl => sliceOk sl
  | .sliceQuiesce sl => sliceOk sl
  | .sliceQuiesced sl => sliceOk sl
  | .sliceUnquiesce sl => sliceOk sl
  | .dlogHeadWrite sl _ => sliceOk sl
  | .dlogEpochWrite sl _ => sliceOk sl
  | .sliceResetDrain sl => sliceOk sl
  | .sliceResetSquash sl => sliceOk sl
  | .sliceDrainTimeout sl => sliceOk sl
  | .sliceReset sl => sliceOk sl
  | .sliceResetDone sl => sliceOk sl
  | .galleryWrite tlp bytes => tlp.ok && decide (1 ≤ bytes.length) && decide (bytes.length ≤ 4096)
  | .galleryRead tlp len => tlp.ok && decide (1 ≤ len) && decide (len ≤ 4096)
  | .fence tlp => tlp.ok
  | .fenceCompletion w => winOk w
  | .segmentWriteback nsid _ _ => nsidOk nsid
  | .segmentLoad nsid _ => nsidOk nsid
  | .suspectRebuild nsid _ _ _ => nsidOk nsid
  | .dieOperationSubmit op => op.ok
  | .dieOperationStart d => dieOk d
  | .dieReady d _ => dieOk d
  | .suspendIssue d => dieOk d
  | .resumeSubmit d => dieOk d
  | .dieOffline d => dieOk d
  | .dieReenable d => dieOk d
  | .junctionSensorRead temps => temps.length == 8
  | .channelInit _ found => found.all fun f => decide (f.ch < 32)
  | .channelRetrain ch ce found => decide (ch < 32) && decide (ce < 2) && found.fails.all fun p => decide (p < 32)
  | .statusPoll d _ => dieOk d
  | .busyTimeout d => dieOk d
  | .writeGuardActivate g => g.ok
  | .writeGuardClear g => g.ok
  | .dieTemperaturePoll d _ => dieOk d
  | .verifyRead d block page => dieOk d && blockOk block && pageOk page
  | .codewordDecode loc _ => loc.ok
  | .scrubVisit _ samples => samples.all fun x => dieOk x.die && blockOk x.block && pageOk x.page && decide (x.slot < 4)
  | .scrubWindowOpen w => scrubWinOk w
  | .scrubWindowClose w => scrubWinOk w
  | .keyLoad slot => keySlotOk slot
  | .keyGenerate slot => keySlotOk slot
  | .keyClear slot => keySlotOk slot
  | .rebuildStripe _ _ _ _ survivors => survivors.all fun e => dieOk e.1 && decide (e.2 ≤ 6)
  | .bufferRequest unit size slice _ _ => unitOk unit && decide (1 ≤ size) && slice.all sliceOk
  | .bufferGrant pool => poolOk pool
  | .bufferShare _ by_ unit => unitOk by_ && unitOk unit
  | .bufferFree _ by_ => unitOk by_
  | .bufferFreeChain _ by_ => unitOk by_
  | .ringRefill pool => poolOk pool
  | .sramScrub offset _ => decide (offset % 8 = 0) && decide (offset < 2 ^ 26)
  | .dramRequest a _ => a.ok
  | .dramRefresh ch sub => dramChOk ch && decide (sub < 2)
  | .patrolScrub addr _ => decide (addr % 64 = 0)
  | .dramAlert ch => dramChOk ch
  | .dramTraining _ ranks _ cidBits _ => (ranks == 1 || ranks == 2) && decide (cidBits ≤ 3)
  | .dqsOscillatorRead ch _ => dramChOk ch
  | .dramRetrain ch => dramChOk ch
  | .retireCopyDone entry => decide (entry < 64)
  | .rankPowerDown ch rank => dramChOk ch && decide (rank < 2)
  | .cutReq r value => r.ok && decide (value < 256)
  | .csuProgram r => r.ok
  | .csuErase r => r.ok
  | .wprogram r => r.ok
  | .werase r => r.ok
  | .loaderCopy r => r.ok
  | .csuCommandEnd bank _ => decide (bank < 4)
  | .codeStoreReadSuspend bank => decide (bank < 4)
  | .codeStoreEraseResume bank => decide (bank < 4)
  | .wpWrite _ pair n _ => pairOk pair && decide (n < 64)
  | .sealStateWrite r value => r.ok && decide (value < 256)
  | .sealGrantSession r _ => r.ok
  | .sealGrantDowngrade r _ => r.ok
  | .healthConfirm r _ => r.ok
  | .callSheetRead r => r.ok
  | .callSheetWrite r _ => r.ok
  | .describe r => r.ok
  | .mctpControlMessage _ eid => decide (eid < 256)
  | .nvmeMiBasicManagement _ eid => decide (eid < 256)
  | .fleetSet r _ => r.ok
  | .recorderTrigger t => t.ok
  | .reelRead first slot => reelOk first slot
  | .avsRequest mv => decide (mv < 65536)
  | .fwObjectAnswer status _ => decide (status.status < 256)
  | .jtagDebugAccess space _ _ => match space with
    | .tcm _ pair => pairOk pair
    | .codeStore | .stageSram | .dram => true
  | .tuigorBadMsg m => m.via.ok
  | .auxPowerUp | .auxPowerLoss | .powerUp | .dumpWaitExpiry | .journalFreeze | .dumpHeaderGood | .railAbortLevel _ | .supplyRestoreStart
  | .thermalTripRelease | .perstNAssert | .perstNRelease | .configurationSpaceReady | .bootRomStart _ | .adminSubsetOpen | .startDecision _ | .hallEntry
  | .linkDown | .nvmSubsystemReset | .hotReset | .tagQuarantineExpiry | .completionReceived _ _ _ | .completionTimeout _ | .timeoutTagRelease
  | .inboundErrorTlp _ | .translationCompletion _ _ _ | .l0pNarrow | .l0pWiden | .l1Entry _ | .l1Exit | .ptmDialog _ | .sqEntryFetch _
  | .fetchAgePromotion _ | .firmwareActivation | .activationDrainDone | .nonopEntryComplete | .nonopExitComplete | .rescueIdent _ | .rescueLoad _
  | .rescueCommit _ | .rescueRestore _ | .rescueRestart _ | .rescueTaskEnd _ | .tokenRefill | .floorWindow | .qstateWrite _ _ _ _ | .winCommit
  | .winDiscard | .windowSetActivate | .windowCommitTimeout | .rtPanicAssert | .rtPanicRelease | .mapCommit | .journalPageWrite | .journalPageGood _
  | .journalCopyLost _ | .directoryCheckpoint | .bandClose _ | .bandOpenTimeout _ | .victimSelect _ | .bandRelease _ | .foldStart | .foldStop
  | .dieAgePromotion _ | .rebudget | .zqCalibration | .guardWaitTimeout _ | .thetaUpdate | .thetaStore | .wearUpdate | .keyOpEnd
  | .gatherTimeout _ _ _ _ | .stripeJournalPageWrite | .stripeJournalCopyLost _ | .rebuildStart | .rebuildPhase2 | .energyEstimate _ | .storeCharged
  | .dischargeTestStart | .dischargeTestEnd | .poisonBufferClean _ _ | .dramAgePromotion _ | .mr4Read _ | .rowTableClear | .dramZqCalibration | .retireGo
  | .selfRefreshEntry | .selfRefreshExit | .cutFault _ | .watchdogExpiry | .heartbeatWrite _ _ | .cutGo | .cutFence | .epochTake
  | .clusterSelftestEnd _ _ | .clusterSyncDone _ | .clusterRepair _ | .standbySelftest | .rotateCut | .scriptWrite _ _ _ | .scriptCheckpoint
  | .windowSlide | .pendingTakeLimit | .actDeadline | .confirmWindowExpiry | .fallbackReboot | .storedWriteCommit | .fwObjectTimeout
  | .powerOnSecondsStore | .fwTrigger _ | .reelPageFlush | .freeze _ | .freezeExpiry | .ptmValidExpiry | .interruptCoalescingExpiry _
  | .smbusTimeout | .i3cDynamicAddressAssignment _ _ => true

/-- A well-formed command. -/
abbrev Instr.WellFormed (i : Instr) : Prop := i.wellFormed = true

end Sys2Proof
end

