-- ==== Sys2Proof/Safety.lean ====
section
/-! DEFINITION. The terms of the claims: memories in canonical form, commands that have ended, commands of one tick in the order of Table 1.5, and steps that do not stop. -/

namespace Sys2Proof.Machine

/-- Every byte memory of the state is in canonical form. -/
def State.memOk (s : State) : Bool :=
  Memory.wf 0 s.bpm.sram && Memory.wf 0 s.dmc.bytes && Memory.wf 0 s.ccl.script && Memory.wf 0 s.ccl.tcm && Memory.wf 0xFF s.csu.flash
    && Memory.wf 0 s.gal.mem && Memory.wf 0 s.hlu.msix && Memory.wf 0 s.qen.rescue.window && Memory.wf 0 s.qen.staging

/-- A register access of the host is an inbound TLP (class 9); one of drive firmware has no class. -/
def accessClass : Accessor → Nat
  | .host .. => 9
  | .firmware .. => 11

/-- Class of Table 1.5 that a command's event has; 11 for an event of no class (R26). -/
def tickClass : Instr → Nat
  | .supplyLoss _ => 1
  | .thermalTrip _ => 2
  | .perstNAssert | .linkDown | .nvmSubsystemReset => 3
  | .hotReset | .flr _ | .sliceReset _ | .sliceDrainTimeout _ => 4
  | .cutFault _ | .watchdogExpiry => 5
  | .postingDecision _ => 6
  | .abort _ => 7
  | .winCommit => 8
  | .doorbellWrite _ _ _ _ _ | .galleryWrite _ _ | .galleryRead _ _ | .fence _ | .completionReceived _ _ _ | .inboundErrorTlp _
  | .configurationRequest _ _ _ | .atsInvalidate _ _ _ | .translationCompletion _ _ _ => 9
  | .registerWrite who .. | .rcFieldRead who .. | .loRegisterRead who .. => accessClass who
  | .callSheetWrite _ _ | .storedWriteCommit | .cutReq _ _ | .sealStateWrite _ _ | .sealGrantSession _ _ | .sealGrantDowngrade _ _ | .healthConfirm _ _
  | .fleetSet _ _ | .winDiscard | .sliceCommit _ | .sliceDiscard _ | .sliceQuiesce _ | .sliceUnquiesce _ | .qstateWrite _ _ _ _
  | .dlogHeadWrite _ _ | .dlogEpochWrite _ _ | .sliceResetDrain _ | .sliceResetSquash _ | .freeze _ => 10
  | _ => 11

/-- The unit from which a command's event comes (R25, Table 0.3): the unit whose rule gives the row; inbound TLPs come from HLU, management writes from MGP. -/
def sourceUnit : Instr → Nat
  | .registerWrite who .. | .rcFieldRead who .. | .loRegisterRead who .. => if accessClass who = 9 then UnitNo.hlu else UnitNo.ccl
  | .read .. => UnitNo.tbu
  | .auxPowerUp | .powerUp | .supplyRestoreStart | .thermalTrip .. | .thermalTripRelease | .perstNAssert | .perstNRelease | .configurationSpaceReady
    | .configurationRequest .. | .bootRomStart .. | .adminSubsetOpen | .startDecision .. | .hallEntry | .linkTraining .. | .linkDown | .nvmSubsystemReset
    | .hotReset | .flr .. | .flrComplete .. | .tagQuarantineExpiry | .completionReceived .. | .completionTimeout .. | .timeoutTagRelease
    | .inboundErrorTlp .. | .atsInvalidate .. | .translationCompletion .. | .l0pNarrow | .l0pWiden | .l1Entry .. | .l1Exit | .ptmDialog ..
    | .busMasterEnableClear .. | .busMasterEnableSet .. | .doorbellWrite .. | .identify .. | .controllerEnable .. | .galleryWrite .. | .galleryRead ..
    | .fence .. | .powerOnSecondsStore | .ptmValidExpiry => UnitNo.hlu
  | .sqEntryFetch .. | .fetchAgePromotion .. | .sequencePoint .. | .postingDecision .. | .flush .. | .invalidCommandOpcode .. | .abort ..
    | .deleteIoSubmissionQueue .. | .deleteIoCompletionQueue .. | .getFeatures .. | .setFeaturesArbitration .. | .setFeaturesPowerManagement ..
    | .setFeaturesVolatileWriteCache .. | .setFeaturesInterruptCoalescing .. | .asynchronousEventRequest .. | .firmwareCommitActivate ..
    | .firmwareActivation | .activationDrainDone | .sanitizeBlockErase .. | .controllerReset .. | .shutdownNotification .. | .autonomousPsTransition ..
    | .nonopEntryComplete | .nonopExitComplete | .rescueIdent .. | .rescueLoad .. | .rescueCommit .. | .rescueRestore .. | .rescueRestart ..
    | .rescueTaskEnd .. | .interruptCoalescingExpiry .. => UnitNo.qen
  | .createIoSubmissionQueue .. | .createIoCompletionQueue .. | .namespaceAttachment .. | .virtualizationManagement .. | .tokenRefill | .floorWindow
    | .sliceQuiesced .. | .sliceDrainTimeout .. | .sliceReset .. | .sliceResetDone .. => UnitNo.tnu
  | .fenceCompletion .. | .windowSetActivate | .windowCommitTimeout | .rtPanicAssert | .rtPanicRelease => UnitNo.gal
  | .write .. | .writeZeroes .. | .datasetManagement .. | .namespaceManagement .. | .mapCommit | .journalPageWrite | .journalPageGood ..
    | .journalCopyLost .. | .segmentWriteback .. | .directoryCheckpoint | .segmentLoad .. | .suspectRebuild .. | .bandClose .. | .bandOpenTimeout ..
    | .victimSelect .. | .bandRelease .. | .foldStart | .foldStop => UnitNo.mxe
  | .setFeaturesHctm .. | .dieOperationSubmit .. | .dieOperationStart .. | .dieAgePromotion .. | .suspendIssue .. | .resumeSubmit .. | .dieOffline ..
    | .rebudget | .junctionSensorRead .. => UnitNo.dsc
  | .dieReady .. | .channelInit .. | .zqCalibration | .channelRetrain .. | .statusPoll .. | .busyTimeout .. | .writeGuardActivate ..
    | .writeGuardClear .. | .guardWaitTimeout .. | .dieTemperaturePoll .. | .verifyRead .. => UnitNo.fca
  | .formatNvm .. | .sanitizeCryptoErase .. | .codewordDecode .. | .thetaUpdate | .thetaStore | .scrubVisit .. | .scrubWindowOpen ..
    | .scrubWindowClose .. | .wearUpdate | .keyLoad .. | .keyGenerate .. | .keyClear .. | .keyOpEnd => UnitNo.cdx
  | .dieReenable .. | .gatherTimeout .. | .stripeJournalPageWrite | .stripeJournalCopyLost .. | .rebuildStart | .rebuildStripe ..
    | .rebuildPhase2 => UnitNo.spe
  | .bufferRequest .. | .bufferGrant .. | .bufferShare .. | .bufferFree .. | .bufferFreeChain .. | .poisonBufferClean .. | .ringRefill ..
    | .sramScrub .. => UnitNo.bpm
  | .dramRequest .. | .dramAgePromotion .. | .dramRefresh .. | .mr4Read .. | .rowTableClear | .patrolScrub .. | .dramAlert .. | .dramTraining ..
    | .dqsOscillatorRead .. | .dramZqCalibration | .dramRetrain .. | .retireGo | .retireCopyDone .. | .selfRefreshEntry | .selfRefreshExit
    | .rankPowerDown .. => UnitNo.dmc
  | .cutFault .. | .watchdogExpiry | .heartbeatWrite .. | .cutGo | .cutFence | .epochTake | .clusterSelftestEnd .. | .clusterSyncDone ..
    | .clusterRepair .. | .standbySelftest | .rotateCut | .scriptWrite .. | .scriptCheckpoint => UnitNo.ccl
  | .firmwareImageDownload .. | .firmwareCommitReplace .. | .firmwareCommitNextReset .. | .csuProgram .. | .csuErase .. | .wprogram .. | .werase ..
    | .loaderCopy .. | .csuCommandEnd .. | .codeStoreReadSuspend .. | .codeStoreEraseResume .. | .windowSlide | .wpWrite .. | .pendingTakeLimit
    | .actDeadline | .confirmWindowExpiry | .fallbackReboot | .jtagDebugAccess .. => UnitNo.csu
  | .supplyLoss .. | .dumpWaitExpiry | .journalFreeze | .dumpHeaderGood | .energyEstimate .. | .storeCharged | .dischargeTestStart | .dischargeTestEnd
    | .setFeaturesCriticalWarnings .. => UnitNo.hum
  | .auxPowerLoss | .railAbortLevel .. | .getLogPage .. | .sliceCommit .. | .sliceDiscard .. | .sliceQuiesce .. | .sliceUnquiesce .. | .qstateWrite ..
    | .dlogHeadWrite .. | .dlogEpochWrite .. | .sliceResetDrain .. | .sliceResetSquash .. | .winCommit | .winDiscard | .cutReq .. | .sealStateWrite ..
    | .sealGrantSession .. | .sealGrantDowngrade .. | .healthConfirm .. | .callSheetRead .. | .callSheetWrite .. | .storedWriteCommit | .describe ..
    | .fwObjectTimeout | .mctpControlMessage .. | .nvmeMiBasicManagement .. | .fleetSet .. | .freeze .. | .avsRequest .. | .fwObjectAnswer ..
    | .tuigorBadMsg .. | .smbusTimeout | .i3cDynamicAddressAssignment .. => UnitNo.mgp
  | .recorderTrigger .. | .fwTrigger .. | .reelPageFlush | .reelRead .. | .freezeExpiry => UnitNo.cru

/-- The instance of the source unit (R25): the function of a reset, the slice of a slice reset; a die's channel, a cluster. -/
def sourceInst : Instr → Nat
  | .flr fn | .flrComplete fn | .controllerReset fn => fn
  | .sliceReset sl | .sliceDrainTimeout sl => sl
  | .dieReady d _ | .statusPoll d _ | .busyTimeout d | .dieTemperaturePoll d _ | .verifyRead d _ _ => chOf d
  | .clusterSelftestEnd k _ | .clusterSyncDone k | .clusterRepair k => clusterNo k
  | _ => 0

/-- The order in which two events of one tick are resolved: by class, then by source unit, then by its instance (R23, R25, R26). -/
def tickKey (i : Instr) : Nat := 2 ^ 32 * tickClass i + 2 ^ 24 * sourceUnit i + sourceInst i % 2 ^ 24

/-- The commands of one tick stand in the order in which the controller resolves their events (R23 to R26); those of one source stand as it sent them. -/
def tickOrdered : List Instr → Bool
  | [] => true
  | [_] => true
  | a :: b :: t => decide (tickKey a ≤ tickKey b) && tickOrdered (b :: t)

/-- A step that goes on. -/
def goesOn (o : Host.Outcome State Fault Refusal) : Bool :=
  match o with
  | .next _ => true
  | .fault _ | .refused _ => false

/-- The command in context `c`, `x` before, has ended with a status, and every other context is as it was (R95). -/
def State.answered (s t : State) (c : Nat) (x : Ctx) (status : Nat) : Prop :=
  Tbl.find? t.qen.ctxs c = some { x with state := .ready, status := status, accepted := false } ∧
    ∀ k, k ≠ c → Tbl.find? t.qen.ctxs k = Tbl.find? s.qen.ctxs k

/-- The command in context `c` has ended with a status and holds no buffers (R95, R105). -/
def State.ended (t : State) (c status : Nat) : Prop := ∃ y, Tbl.find? t.qen.ctxs c = some y ∧ y.state = .ready ∧ y.status = status ∧ y.bufs = []

/-- The request for an object that a unit serves reaches the Management Plane and passes checks 1 to 5 of Table 17.10 (R471 to R473). -/
def State.takes (s : State) (cmd : Nat) (r : SheetRequest) (len : Nat) : Bool :=
  s.reaches r.via && (r.via != .firmware || s.epochOk r.epoch) && (s.earlyRefusal cmd r len).isNone && !fwAddress r.index && !s.reqWaits r

/-- The request has ended with a status: a response on a sideband transport, STATUS and BUSY of a port (R471, R472). -/
def State.sheetEnded (s t : State) (r : SheetRequest) (status : Nat) (data : List Byte) : Prop :=
  match viaPort r.via with
  | none => t.out = .response r.via r.eid r.tag status data :: s.out
  | some p => t.out = s.out ∧ Tbl.find? t.mgp.portStatus p = some status ∧ p ∉ t.mgp.portBusy

/-- A request for data is answered (R65, R84): its completions, in order, hold the data, none empty and none above MPS; `t` is the state after. -/
def State.answeredRead (s t : State) (kind : CplKind) (data : List Byte) : Prop :=
  ∃ ps : List (List Byte), t.out = (ps.reverse.map fun b => Emission.tlpCompletion kind b s.hlu.ecrcGen) ++ s.out ∧ ps.flatten = data ∧
    ∀ b ∈ ps, b ≠ [] ∧ b.length ≤ max 1 s.hlu.mps

end Sys2Proof.Machine
end

