-- ==== Sys2Proof/Certificates/Slice0/Obligations.lean ====
section
/-! DEFINITION. The statements for the provers: what every command does where the spec gives its effect, what it leaves unchanged, and what every step keeps. -/

open Sys2Proof Sys2Proof.Machine

/-! ## Power, stages and the dump (spec/02, spec/12, spec/20) -/

/-- R34, R482, R21, R53, Table 2.4: AUX_POWER_UP brings VDD_AUX back into range with the HUM in INIT and the sideband addresses as after power-up; AUX_POWER_LOSS loses the RETAINED objects and the event log; POWER_UP ends the unpowered hold, counts the power-up and sets the tick counter to 0. -/
def Obligations.PowerAndAuxCommandsRestoreOrLoseState : Prop :=
  (∀ s : State, Rail.aux ∈ s.power.railsOut → ∃ t, exec .auxPowerUp s = .next t ∧
    t.power = { s.power with railsOut := s.power.railsOut.filter (· != .aux), stairSeen := false } ∧ t.hum.state = .init ∧
    t.mgp.i3cAddr = none ∧ t.mgp.smbusAddr = s.obj Ob.SMBUS_ADDR ∧ t.mgp.events = s.mgp.events ∧
    t = { s with out := t.out, power := t.power, regf := t.regf, qen := t.qen, hum := t.hum, mgp := t.mgp, cru := t.cru }) ∧
  (∀ s : State, Rail.aux ∉ s.power.railsOut → ∃ t, exec .auxPowerLoss s = .next t ∧
    t.power.railsOut = .aux :: s.power.railsOut ∧ t.mgp.events = [] ∧ t.mgp.summary = 0 ∧
    (∀ k o, objAt (k / 256) (k % 256) = some o → o.pers = .retained → Tbl.find? t.sheet k = none) ∧
    (∀ k o, objAt (k / 256) (k % 256) = some o → o.pers = .stored → Tbl.find? t.sheet k = Tbl.find? s.sheet k) ∧
    (s.hum.dump = none → t.power.unpowered = true ∧ t.power.stage = .foyer) ∧ t.tbu.tick = s.tbu.tick ∧ t.mxe.segs = s.mxe.segs) ∧
  (∀ s : State, s.power.unpowered = true → ∃ t, exec .powerUp s = .next t ∧
    t.tbu.tick = 0 ∧ t.power.unpowered = false ∧ t.power.railsOut = [] ∧ t.power.perst = true ∧ t.power.avsMv = 720 ∧
    t.power.stage = s.power.stage ∧ t.hlu = Hlu.initial ∧ t.ccl = Ccl.initial ∧ t.mxe.map = [] ∧ t.regf = RegFile.initial ∧ t.csu.sealSt = s.csu.sealSt ∧
    Tbl.getD t.sheet (sheetKey 0x1100 3) 0 = min 0xFFFFFFFF (s.obj Ob.POWER_CYCLES + 1) ∧ t.mxe.nand = s.mxe.nand ∧ t.csu.flash = s.csu.flash)

/-- R39, R53, Tables 2.5 and 2.6, R58: SUPPLY_LOSS, THERMAL_TRIP, PERST_N_ASSERT, LINK_DOWN and NVM_SUBSYSTEM_RESET put the controller into Foyer with no start decided, every context, queue and link state gone, VOLATILE objects at their defaults, and the tick counter and every STORED and RETAINED object kept (R24: but CUT_COUNT where a planned cut of the same tick is undone). Class 1 and 2 begin a dump and hold the start (R56, R57, R359). -/
def Obligations.EventsOfClassOneToThreeReturnToFoyer : Prop :=
  ∀ (i : Instr) (s : State), s.power.unpowered = false →
    ((i = .supplyLoss .pwrfailN ∧ s.power.pwrfail = false) ∨ (∃ r, i = .supplyLoss (.rail r) ∧ r ≠ .aux ∧ r ∉ s.power.railsOut)
      ∨ (∃ n, i = .thermalTrip n) ∨ (i = .perstNAssert ∧ s.power.perst = false) ∨ (i = .linkDown ∧ s.hlu.up = true)
      ∨ (i = .nvmSubsystemReset ∧ s.hlu.up = true)) →
    ∃ t, exec i s = .next t ∧ t.power.stage = .foyer ∧ t.power.startKind = .undecided ∧ t.power.cfgReady = false ∧ t.power.adminOpen = false ∧
      t.qen.ctxs = [] ∧ t.qen.sqs = [] ∧ t.qen.cqs = [] ∧ t.qen.ctrls = [] ∧ t.hlu.up = false ∧ t.dsc.budget = 0 ∧
      t.tbu.tick = s.tbu.tick ∧ t.pending = s.pending ∧ t.timers = s.timers ∧ t.power.marker = s.power.marker ∧
      (∀ k o, objAt (k / 256) (k % 256) = some o → ((∃ g, s.ccl.gap = some g ∧ g.start = s.now ∧ cutPlanned g.cause = true) → k ≠ sheetKey Ob.CUT_COUNT.idx Ob.CUT_COUNT.sub) →
        Tbl.find? t.sheet k = if o.pers = .volatile then none else Tbl.find? s.sheet k) ∧
      (∀ c, i = .supplyLoss c → t.power.lossHeld = true ∧ t.hum.dump.isSome = true) ∧
      (∀ n, i = .thermalTrip n → t.power.tripHeld = true ∧ t.hum.dump.isSome = true) ∧
      (i = .perstNAssert → t.power.perst = true ∧ t.power.lossHeld = s.power.lossHeld ∧ t.power.tripHeld = s.power.tripHeld)

/-- R364, R365, R511: DUMP_WAIT_EXPIRY marks step 4 as over, JOURNAL_FREEZE stops every map commit and gives the dump the journal buffer and copy S, DUMP_HEADER_GOOD stores the dump, counts it and ends it, and RAIL_ABORT_LEVEL ends programs without a header, with VDD_AUX also loses the RETAINED objects and the event log (R482), and does nothing for a rail without an abort level. -/
def Obligations.DumpStepsFollowTheirOrder : Prop :=
  (∀ (s : State) (r : DumpRun), s.hum.dump = some r → r.thermal = false → r.waited = false → r.step = .slots →
    s.passed r.tick (usTicks (s.obj Ob.DUMP_WAIT_US)) = true → ∃ t, exec .dumpWaitExpiry s = .next t ∧
      t.hum = { s.hum with dump := some { r with waited := true } } ∧
      t = { s with out := t.out, mxe := t.mxe, dsc := t.dsc, spe := t.spe, hum := t.hum }) ∧
  (∀ (s : State) (r : DumpRun), s.hum.dump = some r → r.step = .slots → s.othersRun = false → ∃ t x, exec .journalFreeze s = .next t ∧
      t.mxe.frozen = true ∧ t.hum.dump = some x ∧ x.step = .journal ∧ x.image.jrnl = t.mxe.jpages.flatMap JournalPage.recs ++ t.mxe.jbuf ∧
      x.image.copyS = t.spe.stripes ∧ x.image.dsnNext = t.mxe.dsn ∧ x.image.psnNext = t.mxe.psn ∧ x.image.grans = r.image.grans ∧ t.tbu = s.tbu ∧ t.hlu = s.hlu) ∧
  (∀ (s : State) (r : DumpRun), s.hum.dump = some r → s.headerDue r = true → ∃ t x, exec .dumpHeaderGood s = .next t ∧
      t.hum.dump = none ∧ t.hum.state = .init ∧ t.hum.stored = some x ∧ x.header = true ∧ x.seq = r.image.seq ∧ x.grans = r.image.grans ∧ x.jrnl = r.image.jrnl ∧
      Tbl.getD t.sheet (sheetKey 0x5400 0x12) 0 = min 0xFFFFFFFF (s.obj Ob.DUMP_COUNT + 1) ∧ t.cdx.keys = [] ∧ t.dsc.ops = [] ∧
      (t.power.unpowered = true ↔ s.power.unpowered = true ∨ s.power.railsOut.contains .core = true ∨ s.power.railsOut.contains .aux = true) ∧
      (r.thermal = true → t.mxe.map = s.mxe.map)) ∧
  (∀ (s : State) (d : DumpRun) (r : Rail), s.hum.dump = some d →
    ((r = .core ∨ r = .sram ∨ r = .nand ∨ r = .io ∨ r = .aux) → ∃ t,
      exec (.railAbortLevel r) s = .next t ∧ t.hum = { s.hum with dump := some { d with step := .aborted } } ∧ r ∈ t.power.abortRails ∧ r ∈ t.power.railsOut ∧
      (r ≠ .aux ∨ Rail.aux ∈ s.power.railsOut → t.sheet = s.sheet ∧ t.sheetOld = s.sheetOld ∧ t.mgp = s.mgp ∧ t.cru = s.cru) ∧
      (r = .aux → Rail.aux ∉ s.power.railsOut → t.mgp.events = [] ∧ ∀ k o, objAt (k / 256) (k % 256) = some o → o.pers = .retained → Tbl.find? t.sheet k = none) ∧
      t = { s with hum := t.hum, sheet := t.sheet, sheetOld := t.sheetOld, mgp := t.mgp, cru := t.cru
                   power := { s.power with abortRails := t.power.abortRails, railsOut := t.power.railsOut } }) ∧
    ((r = .pcieL ∨ r = .pcieH ∨ r = .ddr) → exec (.railAbortLevel r) s = .next s))

/-- R37, R40, R56, R57: a release of PERST_N, the end of a supply loss's hold (10 ms after the dump's end) and the end of a thermal trip's hold (every sensor below 110 °C for 1 s) let a start count from that tick when nothing else holds it, and CLOCK_MODE is read then; configuration space answers only after CONFIGURATION_SPACE_READY, and until then, and during an FLR (R88), every request gets Configuration Request Retry Status; then a read gives the register's value, a free value where the spec gives none (log entry 6), and a write has its field's effect. R53 with Table 2.4, R512, R513: POWER_ON_SECONDS grows by 60 at each 60 s; an AVS request in Hall for 650 to 800 mV in 5 mV steps goes out at once and becomes the target. -/
def Obligations.ReleasesConfigurationAndVoltageRequests : Prop :=
  (∀ s : State, s.power.perst = true → s.power.unpowered = false → s.power.lossHeld = false → s.power.tripHeld = false → s.power.railsOut = [] →
    exec .perstNRelease s = .next { s with power := { s.power with perst := false, releaseTick := some s.now, clockMode := s.obj Ob.CLOCK_MODE, subsysId := s.obj Ob.SUBSYS_ID, vfBar2 := s.obj Ob.VF_BAR2_LOG2 } }) ∧
  (∀ s : State, s.power.lossHeld = true → s.hum.dump = none → s.power.unpowered = false → s.power.perst = false → s.power.tripHeld = false → (∀ u, s.power.dumpEndTick = some u → s.passed u (msTicks 10) = true) →
    exec .supplyRestoreStart s = .next { s with
      fca := { s.fca with pwrfail := none }
      power := { s.power with lossHeld := false, pwrfail := false, railsOut := [], releaseTick := some s.now, clockMode := s.obj Ob.CLOCK_MODE, subsysId := s.obj Ob.SUBSYS_ID, vfBar2 := s.obj Ob.VF_BAR2_LOG2 } }) ∧
  (∀ (s : State) (u : Dword), s.power.tripHeld = true → s.power.coolSince = some u → s.passed u (secTicks 1) = true → s.hum.dump = none → s.power.unpowered = false → s.power.perst = false → s.power.lossHeld = false → s.power.railsOut = [] →
    exec .thermalTripRelease s = .next { s with power := { s.power with
      tripHeld := false, tripSensor := none, releaseTick := some s.now, clockMode := s.obj Ob.CLOCK_MODE, subsysId := s.obj Ob.SUBSYS_ID, vfBar2 := s.obj Ob.VF_BAR2_LOG2 } }) ∧
  (∀ (s : State) (t0 : Dword), s.power.releaseTick = some t0 → s.power.railsOut = [] →
    exec .configurationSpaceReady s = .next { s with power := { s.power with cfgReady := true } }) ∧
  (∀ (s : State) (fn offset : Nat) (wr : Option CfgWrite), s.inboundHeld = false → (s.power.cfgReady = false ∨ (Tbl.getD s.hlu.fns fn default).flr = true) →
    exec (.configurationRequest fn offset wr) s = .next { s.arrive 0 with out := .cfgCompletion fn offset none :: s.out }) ∧
  (∀ (s : State) (fn offset : Nat), s.inboundHeld = false → s.power.cfgReady = true → (Tbl.getD s.hlu.fns fn default).flr = false →
    (∀ v, (s.arrive 0).cfgReg fn offset = some v →
      exec (.configurationRequest fn offset none) s = .next { s.arrive 0 with out := .cfgCompletion fn offset (some (BitVec.ofNat 32 v)) :: s.out }) ∧
    ((s.arrive 0).cfgReg fn offset = none →
      ∃ v, exec (.configurationRequest fn offset none) s = .next { s.arrive 0 with freeCnt := s.freeCnt + 1, out := .cfgCompletion fn offset (some v) :: s.out }) ∧
    (∀ w, ∃ t, exec (.configurationRequest fn offset (some w)) s = .next t ∧ t.out = .cfgCompletion fn offset (some 0) :: s.out ∧
      (∀ mps mrrs tag10, w = .device mps mrrs tag10 → t.hlu = { (s.arrive 0).hlu with mps := mps, mrrs := mrrs, tag10 := tag10 }) ∧
      (∀ us, w = .completionTimeout us → t.hlu = { (s.arrive 0).hlu with cplTimeoutUs := us }) ∧
      (∀ a b c d, w = .link a b c d → t.hlu = { (s.arrive 0).hlu with l0pEn := a, l1En := b, l11En := c, l12En := d }) ∧
      (∀ en, w = .ptm en → t.hlu = { (s.arrive 0).hlu with ptmEn := en }) ∧
      (∀ g k, w = .ecrc g k → t.hlu = { (s.arrive 0).hlu with ecrcGen := g, ecrcChk := k }) ∧
      (∀ e m n, w = .sriov e m n → t.hlu = { (s.arrive 0).hlu with vfEn := e, vfMse := m, numVfs := min n 63 }) ∧
      (∀ en, w = .memorySpace en → Tbl.find? t.hlu.fns fn = some { Tbl.getD s.hlu.fns fn default with memSpace := en }) ∧
      (∀ en, w = .ats en → Tbl.find? t.hlu.fns fn = some { Tbl.getD s.hlu.fns fn default with ats := en }) ∧
      t = { s.arrive 0 with out := t.out, hlu := t.hlu })) ∧
  (∀ s : State, s.power.unpowered = false → s.passed s.timers.seconds (secTicks 60) = true → ∃ t, exec .powerOnSecondsStore s = .next t ∧
    Tbl.getD t.sheet (sheetKey 0x1100 4) 0 = s.obj Ob.POWER_ON_SECONDS + 60 ∧ t.timers = { s.timers with seconds := s.timers.seconds + 48000000000 } ∧
    (∀ k, k ≠ sheetKey 0x1100 4 → Tbl.find? t.sheet k = Tbl.find? s.sheet k) ∧ t = { s with sheet := t.sheet, timers := t.timers }) ∧
  (∀ (s : State) (mv : Nat), s.power.stage = .hall → 650 ≤ mv → mv ≤ 800 → mv % 5 = 0 → (s.power.avsTick = none ∨ ∃ u, s.power.avsTick = some u ∧ s.passed u (msTicks 1) = true) →
    exec (.avsRequest mv) s = .next { s with power := { s.power with avsMv := mv, avsPend := none, avsTick := some s.now }, out := .avs mv :: s.out })

/-- R42, R43, R46, R48, R419, R420: BOOT_ROM_START enters Stair with the booting cluster ACTIVE in the next epoch; ADMIN_SUBSET_OPEN opens the admin subset and the rescue registers; START_DECISION on blank media decides START_KIND 0b100; HALL_ENTRY enters Hall, closes the rescue registers and asks for the discharge test. -/
def Obligations.StagesAreEnteredInTheirOrder : Prop :=
  (∀ (s : State) (ok : Bool), s.bootReady = true → ∃ t, exec (.bootRomStart ok) s = .next t ∧ t.power.stage = .stair ∧ t.power.bootTick = some s.now ∧
    t.ccl.owner = (if ok then .a else .b) ∧ t.ccl.st (if ok then .a else .b) = .active ∧ t.ccl.epoch = s.ccl.epoch + 1 ∧ t.tbu = s.tbu ∧
    t.hlu = s.hlu ∧ t.mxe.map = s.mxe.map ∧ (s.csu.slide = none → t.csu.flash = s.csu.flash) ∧ t.mxe.nand = s.mxe.nand) ∧
  (∀ s : State, s.power.stage = .stair → ∃ t, exec .adminSubsetOpen s = .next t ∧
    t.power = { s.power with adminOpen := true } ∧ t.qen.rescue = { s.qen.rescue with open_ := true } ∧
    (∀ fn k, Tbl.find? s.qen.ctrls fn = some k → k.en = true → k.crime = true → Tbl.find? t.qen.ctrls fn = some { k with rdy := true }) ∧ t = { s with power := t.power, qen := t.qen }) ∧
  (∀ (s : State) (f : StartFindings), s.power.stage = .stair → s.power.startKind = .undecided → s.fca.initialised = true → s.dmc.trained = true →
    s.blankMedia = true → s.chooseTake.power.startKind = .undecided → ∃ t, exec (.startDecision f) s = .next t ∧
      t.power.startKind = .blank ∧ t.power.mapRestored = true ∧ t.power.stage = .stair ∧ t.mxe.map = s.mxe.map ∧ t.mxe.nss = s.mxe.nss ∧ t.tbu = s.tbu) ∧
  (∀ s : State, s.power.stage = .stair → s.power.mapRestored = true → s.power.startKind ≠ .held → s.qen.rescue.session = false → s.tbu.resetNow = false →
    ∃ t, exec .hallEntry s = .next t ∧ t.power.stage = .hall ∧ t.power.hallTick = some s.now ∧ t.qen.rescue.open_ = false ∧ t.hum.testDue = true ∧
      t.tbu = s.tbu ∧ t.hlu = s.hlu ∧ t.qen.ctxs = s.qen.ctxs)

/-! ## Host link (spec/03) -/

/-- R66, R67, R68, R78, R79, R80: training reaches the highest rate and the widest width that both partners, MAX_RATE, MAX_WIDTH and the good lanes allow, straight or reversed, and flags each drop; without four usable lanes no link forms; L0p narrows after a window of low utilisation and widens when more waits than the narrow width carries in 1 µs; L1 is entered in two steps once nothing has been in progress for HLU_L1_IDLE_US, a TLP that arrives between them aborts the entry, and with L1.2 the DRAM enters and leaves self-refresh. -/
def Obligations.LinkTrainsAndChangesWidthAndPower : Prop :=
  (∀ (s : State) (rate width w : Nat) (rev flit : Bool) (lanes : BitVec 16) (once twice : List Nat),
    s.hlu.up = false → s.power.stage ≠ .foyer → s.power.releaseTick.isSome = true → 1 ≤ rate → 1 ≤ s.obj Ob.MAX_RATE →
    trainWidth lanes (min width (s.obj Ob.MAX_WIDTH)) = some (w, rev) →
    ∃ t r, exec (.linkTraining rate width flit lanes once twice) s = .next t ∧
      r = t.hlu.rate ∧
      t.hlu = { s.hlu with
        up := true, flit := flit, rate := r, width := w, l0pWidth := w, power := .l0, laneRev := rev
        idleSince := none, winSince := s.now, txSum := 0, rxSum := 0, lowUse := false } ∧
      r ≤ rate ∧ r ≤ s.obj Ob.MAX_RATE ∧ (flit = false → r ≤ 5) ∧ (twice = [] → r = min (if flit then rate else min rate 5) (s.obj Ob.MAX_RATE)) ∧
      (∀ k, r < k → k ≤ min (if flit then rate else min rate 5) (s.obj Ob.MAX_RATE) → k ∈ twice) ∧
      w ≤ width ∧ w ≤ s.obj Ob.MAX_WIDTH ∧ (w = 4 ∨ w = 8 ∨ w = 16) ∧ (∀ k, k < w → lanes.getLsbD (if rev then 15 - k else k) = true) ∧ (rev = true → ∃ k < w, lanes.getLsbD k = false) ∧
      (∀ v, v = 8 ∨ v = 16 → w < v → v ≤ width → v ≤ s.obj Ob.MAX_WIDTH → (∃ k < v, lanes.getLsbD k = false) ∧ ∃ k < v, lanes.getLsbD (15 - k) = false) ∧
      (r < s.obj Ob.MAX_RATE → t.fld Fld.HLU_LINK_EVT.RATE_DOWN = 1) ∧ (w < s.obj Ob.MAX_WIDTH → t.fld Fld.HLU_LINK_EVT.WIDTH_DOWN = 1) ∧
      t = { s with hlu := t.hlu, regf := t.regf, cru := t.cru }) ∧
  (∀ (s : State) (rate width : Nat) (flit : Bool) (lanes : BitVec 16) (once twice : List Nat),
    s.hlu.up = false → s.power.stage ≠ .foyer → s.power.releaseTick.isSome = true → (∃ k < 4, lanes.getLsbD k = false) → (∃ k < 4, lanes.getLsbD (15 - k) = false) →
    ∃ t, exec (.linkTraining rate width flit lanes once twice) s = .next t ∧ t.fld Fld.HLU_LINK_EVT.NO_LINK = 1 ∧
      t = { s with regf := t.regf, cru := t.cru }) ∧
  (∀ s : State, s.hlu.up = true → s.hlu.power = .l0 → s.hlu.l0pEn = true → s.objB Ob.L0P_EN = true → 8 ≤ s.hlu.l0pWidth → s.hlu.lowUse = true →
    exec .l0pNarrow s = .next { s with hlu := { s.hlu with l0pWidth := s.hlu.l0pWidth / 2, lowUse := false, winSince := s.now, txSum := 0, rxSum := 0 } }) ∧
  (∀ s : State, s.hlu.up = true → s.hlu.power = .l0 → s.hlu.payload s.hlu.l0pWidth 1 < s.linkPending → exec .l0pWiden s = .next { s with hlu := { s.hlu with l0pWidth := s.hlu.width } }) ∧
  (∀ (s : State) (l12 : Bool), s.hlu.up = true → s.linkIdle = true →
    (∀ u, s.hlu.power = .l0 → s.hlu.l1En = true → s.hlu.idleSince = some u → s.passed u (usTicks (s.obj Ob.L1_IDLE_US)) = true →
      exec (.l1Entry l12) s = .next { s with hlu := { s.hlu with
        power := if l12 = true ∧ s.hlu.l12En = true then .toL12 else if s.hlu.l11En = true then .toL11 else .toL1 } }) ∧
    (s.hlu.power = .toL1 → exec (.l1Entry l12) s = .next { s with hlu := { s.hlu with power := .l1 } }) ∧
    (s.hlu.power = .toL11 → exec (.l1Entry l12) s = .next { s with hlu := { s.hlu with power := .l11 } }) ∧
    (s.hlu.power = .toL12 → ∃ t, exec (.l1Entry l12) s = .next t ∧ t.hlu = { s.hlu with power := .l12 } ∧
      (s.dmc.trained = true → s.dmc.queue = [] → t.dmc.selfRefresh = true) ∧ t = { s with hlu := t.hlu, dmc := t.dmc, out := t.out, regf := t.regf })) ∧
  (∀ s : State, (s.hlu.power = .toL1 ∨ s.hlu.power = .toL11 ∨ s.hlu.power = .toL12) → (s.arrive 0).hlu.power = .l0) ∧
  (∀ s : State, s.hlu.up = true → s.hlu.power ≠ .l0 → ∃ t, exec .l1Exit s = .next t ∧ t.hlu = { s.hlu with power := .l0 } ∧
    (s.hlu.power ≠ .l12 → t.dmc = s.dmc) ∧ t = { s with hlu := t.hlu, dmc := t.dmc, out := t.out })

/-- R73, R75, R76, R77, R83, R87: what a completion, a completion timeout, the two tag timers, a Translation Completion and an ATS Invalidate do to the tag, the command and the translation cache; each of them that the link carries is a class 9 arrival (R26). -/
def Obligations.TagsFollowTheirCompletions : Prop :=
  (∀ (s : State) (n : Nat) (k : CplKind) (data : BitVec 4096) (g : Tag), s.inboundHeld = false → Tbl.find? s.hlu.tags n = some g →
    (g.phase = .quarantined → exec (.completionReceived n k data) s =
      .next { s.arrive 0 with hlu := { (s.arrive 0).hlu with tags := Tbl.del s.hlu.tags n, freedTags := n :: s.hlu.freedTags } }) ∧
    (g.phase = .held → exec (.completionReceived n k data) s = .next { s.arrive 0 with
      out := .aer .unexpectedCompletion .advisory :: s.out, hlu := { (s.arrive 0).hlu with aer := .unexpectedCompletion :: s.hlu.aer } }) ∧
    (∀ c off len, g.phase = .outstanding → (g.use = .data c off len ∨ g.use = .list c len) → k ≠ .ok → Tbl.has s.qen.ctxs c = true →
      ∃ t, exec (.completionReceived n k data) s = .next t ∧ t.ended c stDataTransfer ∧ Tbl.find? t.hlu.tags n = none ∧ t.hlu.freedTags = n :: s.hlu.freedTags ∧
        (k = .poisoned → t.fld Fld.HLU_POISON_CNT.INBOUND = min 0xFFFF (s.fld Fld.HLU_POISON_CNT.INBOUND + 1)) ∧
        t.mxe = s.mxe ∧ t.tbu = (s.arrive 0).tbu ∧ t.power = s.power) ∧
    (∀ q m, g.phase = .outstanding → g.use = .fetch q m → k ≠ .ok → ∃ t, exec (.completionReceived n k data) s = .next t ∧
      Tbl.find? t.hlu.tags n = none ∧ t.qen = s.qen ∧ t = { s.arrive 0 with out := t.out, regf := t.regf, hlu := t.hlu, cru := t.cru }) ∧
    (∀ p page, g.phase = .outstanding → g.use = .ats p page → (k = .ur ∨ k = .ca) → ∃ t, exec (.completionReceived n k data) s = .next t ∧
      t.hlu.tags = Tbl.del s.hlu.tags n ∧ t.hlu.dmaQueue.length = s.hlu.dmaQueue.length ∧
      (∀ d ∈ t.hlu.dmaQueue, s.waitsPage g.fn p page d = true → d.untranslated = true) ∧ t = { s.arrive 0 with hlu := t.hlu, qen := t.qen }) ∧
    (∀ c off len x, g.phase = .outstanding → g.use = .data c off len → Tbl.find? s.qen.ctxs c = some x → x.state = .dataIn → x.dataIn + len ≠ x.bytes →
      ∃ t, exec (.completionReceived n .ok data) s = .next t ∧ Tbl.find? t.qen.ctxs c = some { x with dataIn := x.dataIn + len } ∧
        t.hlu = { (s.arrive 0).hlu with tags := Tbl.del s.hlu.tags n, freedTags := n :: s.hlu.freedTags, rxNow := s.hlu.rxNow + len } ∧
        (∀ a, (a < stageAddr (s.bpm.piecesOf x.bufs x.bytes) off ∨ stageAddr (s.bpm.piecesOf x.bufs x.bytes) off + len ≤ a) →
          Memory.read 0 t.bpm.sram a = Memory.read 0 s.bpm.sram a) ∧
        (∀ i, i < len → Memory.read 0 t.bpm.sram (stageAddr (s.bpm.piecesOf x.bufs x.bytes) off + i) = BitVec.ofNat 8 (data.toNat / 256 ^ i)) ∧
        t = { s.arrive 0 with hlu := t.hlu, qen := { s.qen with ctxs := t.qen.ctxs }, bpm := t.bpm })) ∧
  (∀ (s : State) (n : Nat) (k : CplKind) (data : BitVec 4096), s.inboundHeld = false → Tbl.find? s.hlu.tags n = none →
    exec (.completionReceived n k data) s = .next { s.arrive 0 with
      out := .aer .unexpectedCompletion .advisory :: s.out, hlu := { (s.arrive 0).hlu with aer := .unexpectedCompletion :: s.hlu.aer } }) ∧
  (∀ (s : State) (n c off len : Nat) (g : Tag), Tbl.find? s.hlu.tags n = some g → g.phase = .outstanding → (g.use = .data c off len ∨ g.use = .list c len) → Tbl.has s.qen.ctxs c = true →
    s.hlu.cplTimeoutUs ≠ 0 → s.passed g.since (usTicks s.hlu.cplTimeoutUs) = true →
    ∃ t h, exec (.completionTimeout n) s = .next t ∧ t.ended c stDataTransfer ∧ Tbl.find? t.hlu.tags n = some h ∧ h.phase = .held ∧ h.since = s.now ∧
      t.hlu.aer = .completionTimeout :: s.hlu.aer ∧ t.fld Fld.HLU_CPL_TO_CNT.COUNT = min 0xFFFFFFFF (s.fld Fld.HLU_CPL_TO_CNT.COUNT + 1) ∧ t.mxe = s.mxe ∧ t.tbu = s.tbu) ∧
  (∀ (s : State) (n q m : Nat) (g : Tag), Tbl.find? s.hlu.tags n = some g → g.phase = .outstanding → g.use = .fetch q m →
    s.hlu.cplTimeoutUs ≠ 0 → s.passed g.since (usTicks s.hlu.cplTimeoutUs) = true →
    ∃ t, exec (.completionTimeout n) s = .next t ∧ t.hlu = { s.hlu with tags := Tbl.put s.hlu.tags n { g with phase := .held, since := s.now }, aer := .completionTimeout :: s.hlu.aer } ∧
      t = { s with out := t.out, regf := t.regf, hlu := t.hlu, cru := t.cru }) ∧
  (∀ s : State, ∃ t, exec .timeoutTagRelease s = .next t ∧
    (∀ e, e ∈ t.hlu.tags ↔ e ∈ s.hlu.tags ∧ ¬ (e.2.phase = .held ∧ s.passed e.2.since (msTicks 50) = true)) ∧ t = { s with hlu := { s.hlu with tags := t.hlu.tags } }) ∧
  (∀ s : State, ∃ t, exec .tagQuarantineExpiry s = .next t ∧
    (∀ n, Tbl.find? t.hlu.tags n = (Tbl.find? s.hlu.tags n).map fun g =>
      if g.phase = .quarantined ∧ s.passed g.since (msTicks 50) = true then { g with phase := .held, since := s.now } else g) ∧
    t = { s with hlu := { s.hlu with tags := t.hlu.tags } }) ∧
  (∀ (s : State) (n page : Nat) (pasid : Option Nat) (g : Tag) (a : Nat), s.inboundHeld = false → Tbl.find? s.hlu.tags n = some g → g.phase = .outstanding →
    g.use = .ats pasid page → exec (.translationCompletion n page (some a)) s = .next { s.arrive 0 with hlu := { (s.arrive 0).hlu with
      tags := Tbl.del s.hlu.tags n, freedTags := n :: s.hlu.freedTags
      atc := ({ fn := g.fn, pasid := pasid, page := page, target := a } :: s.hlu.atc).take 8192 } }) ∧
  (∀ (s : State) (n page : Nat) (pasid : Option Nat) (g : Tag), s.inboundHeld = false → Tbl.find? s.hlu.tags n = some g → g.phase = .outstanding →
    g.use = .ats pasid page → ∃ t, exec (.translationCompletion n page none) s = .next t ∧
      t.hlu.tags = Tbl.del s.hlu.tags n ∧ t.hlu.atc = s.hlu.atc ∧ t.hlu.dmaQueue.length = s.hlu.dmaQueue.length ∧
      (∀ d ∈ t.hlu.dmaQueue, s.waitsPage g.fn pasid page d = true → d.untranslated = true) ∧ t = { s.arrive 0 with hlu := t.hlu, qen := t.qen }) ∧
  (∀ (s : State) (fn page : Nat) (pasid : Option Nat), s.inboundHeld = false → ∃ t, exec (.atsInvalidate fn pasid page) s = .next t ∧
    (∀ e, e ∈ t.hlu.atc ↔ e ∈ s.hlu.atc ∧ ¬ (e.fn = fn ∧ e.pasid = pasid ∧ e.page = page)) ∧
    t = { s.arrive 0 with out := .tlpCompletion .ok [] s.hlu.ecrcGen :: s.out, hlu := { (s.arrive 0).hlu with atc := t.hlu.atc } })

/-- R53, R87, R88: a hot reset quarantines every outstanding tag and leaves no queue and no context of an admin or Read command, Gallery ones included, and the writes past their sequence point stay; FLR drops one function's queues and quarantines its tags, and the function then answers only after FLR_COMPLETE; neither changes the stage. -/
def Obligations.ClassFourResetsOfTheLinkSquashAndQuarantine : Prop :=
  (∀ s : State, s.hlu.up = true → ∃ t, exec .hotReset s = .next t ∧ t.hlu.up = true ∧ t.qen.sqs = [] ∧ t.qen.cqs = [] ∧ t.qen.ctrls = [] ∧ t.hlu.fns = [] ∧
    t.hlu.mps = 128 ∧ t.hlu.mrrs = 512 ∧ (∀ e ∈ t.hlu.tags, e.2.phase ≠ .outstanding) ∧ t.power = s.power ∧ t.tbu.tick = s.tbu.tick ∧ t.hum = s.hum ∧ t.csu = s.csu ∧
    t.mxe.map = s.mxe.map ∧ t.mxe.writes = s.mxe.writes ∧ t.mxe.nand = s.mxe.nand ∧ t.dmc.bytes = s.dmc.bytes ∧ t.pending = s.pending ∧
    (∀ c x, Tbl.find? s.qen.ctxs c = some x → (x.admin = true ∨ (x.state ≠ .orphan ∧ x.sqe.opcode = 0x02)) → Tbl.find? t.qen.ctxs c = none)) ∧
  (∀ (s : State) (fn : Nat), ∃ t, exec (.flr fn) s = .next t ∧
    Tbl.find? t.hlu.fns fn = some { busMaster := false, memSpace := false, flr := true, ats := false } ∧ Tbl.find? t.hlu.flrTick fn = some s.now ∧
    Tbl.find? t.qen.ctrls fn = none ∧ (∀ e ∈ t.qen.sqs, e.2.fn ≠ fn) ∧ (∀ e ∈ t.qen.cqs, e.2.fn ≠ fn) ∧ (∀ e ∈ t.hlu.atc, e.fn ≠ fn) ∧
    (∀ e ∈ t.hlu.tags, e.2.fn = fn → e.2.phase ≠ .outstanding) ∧ t.power = s.power ∧ t.tbu.tick = s.tbu.tick ∧ t.mxe.map = s.mxe.map ∧ t.pending = s.pending) ∧
  (∀ (s : State) (fn : Nat), (Tbl.getD s.hlu.fns fn default).flr = true → s.flrReady fn = true → ∃ t, exec (.flrComplete fn) s = .next t ∧
    Tbl.getD t.hlu.fns fn default = { Tbl.getD s.hlu.fns fn default with flr := false } ∧ Tbl.find? t.hlu.flrTick fn = none ∧
    (∀ k, k ≠ fn → Tbl.find? t.hlu.fns k = Tbl.find? s.hlu.fns k) ∧ t = { s with hlu := { s.hlu with fns := t.hlu.fns, flrTick := t.hlu.flrTick } })

/-- R81, R82, R83, R85, R86, R475: an error TLP is logged under AER and discarded, with a UR completion when it is a non-posted malformed or unsupported request; a PTM dialog disciplines fleet time by slewing or a step, the third dialog in a row without a response is counted, and 30 ms without one ends its validity; Bus Master Enable stalls and releases a function's commands. -/
def Obligations.LinkErrorsTimeAndBusMastering : Prop :=
  (∀ (s : State) (np : Bool), s.inboundHeld = false →
    (∃ t, exec (.inboundErrorTlp (.ecrc np)) s = .next t ∧ t.out = .aer .ecrc .nonFatal :: s.out ∧ t.hlu = { (s.arrive 0).hlu with aer := .ecrc :: s.hlu.aer } ∧
      t = { s.arrive 0 with out := t.out, hlu := t.hlu, regf := t.regf, cru := t.cru }) ∧
    (∃ t, exec (.inboundErrorTlp (.malformed np)) s = .next t ∧
      t.out = (if np then [.tlpCompletion .ur [] s.hlu.ecrcGen] else []) ++ .aer .malformed .fatal :: s.out ∧
      t.hlu = { (s.arrive 0).hlu with aer := .malformed :: s.hlu.aer } ∧ t = { s.arrive 0 with out := t.out, hlu := t.hlu, regf := t.regf, cru := t.cru }) ∧
    (∃ t, exec (.inboundErrorTlp (.unsupported np)) s = .next t ∧
      t.out = (if np then [.tlpCompletion .ur [] s.hlu.ecrcGen] else []) ++ .aer .unsupported .nonFatal :: s.out ∧
      t.hlu = { (s.arrive 0).hlu with aer := .unsupported :: s.hlu.aer } ∧ t = { s.arrive 0 with out := t.out, hlu := t.hlu, regf := t.regf, cru := t.cru }) ∧
    (∀ e, (e = .poisonedBar0 ∨ e = .poisonedBar4) → ∃ t, exec (.inboundErrorTlp e) s = .next t ∧ t.out = .aer .poisoned .nonFatal :: s.out ∧
      t.hlu = { (s.arrive 0).hlu with aer := .poisoned :: s.hlu.aer } ∧
      t.fld Fld.HLU_POISON_CNT.INBOUND = min 0xFFFF (s.fld Fld.HLU_POISON_CNT.INBOUND + 1) ∧ t = { s.arrive 0 with out := t.out, hlu := t.hlu, regf := t.regf, cru := t.cru }) ∧
    (∀ off, ∃ t, exec (.inboundErrorTlp (.poisonedBar2 off)) s = .next t ∧ .aer .poisoned .nonFatal ∈ t.out ∧ .poisoned ∈ t.hlu.aer ∧
      t.fld Fld.HLU_POISON_CNT.INBOUND = min 0xFFFF (s.fld Fld.HLU_POISON_CNT.INBOUND + 1) ∧
      t = { s.arrive 0 with out := t.out, hlu := t.hlu, regf := t.regf, gal := t.gal, cru := t.cru }) ∧
    exec (.inboundErrorTlp .unexpectedCompletion) s = .next { s.arrive 0 with
      out := .aer .unexpectedCompletion .advisory :: s.out, hlu := { (s.arrive 0).hlu with aer := .unexpectedCompletion :: s.hlu.aer } } ∧
    exec (.inboundErrorTlp .correctable) s = .next { s.arrive 0 with
      out := .aer .correctable .correctable :: s.out
      hlu := { (s.arrive 0).hlu with aer := .correctable :: s.hlu.aer, correctable := s.hlu.correctable + 1 } }) ∧
  (∀ (s : State) (d : Int), s.hlu.up = true → s.hlu.ptmEn = true → s.hlu.power = .l0 → ∃ t, exec (.ptmDialog (some d)) s = .next t ∧
    t.hlu = { (s.arrive 0).hlu with ptmFails := 0, ptmLast := some s.now, ptmValid := true } ∧ t.tbu.tick = s.tbu.tick ∧ t.tbu.fleetSrc = 2 ∧ t.tbu.lastOffset = -d ∧
    (d.natAbs ≤ s.obj Ob.STEP_NS → t.tbu.fleet = s.tbu.fleet ∧ t.tbu.slewLeft = 4000000 * d) ∧
    (s.obj Ob.STEP_NS < d.natAbs → t.tbu.fleet = s.tbu.fleet + BitVec.ofInt 64 d ∧ t.tbu.slewLeft = 0) ∧
    t = { s with tbu := t.tbu, hlu := t.hlu, regf := t.regf, sheet := t.sheet, cdx := t.cdx, mgp := t.mgp, cru := t.cru }) ∧
  (∀ s : State, s.hlu.up = true → s.hlu.ptmEn = true → s.hlu.power = .l0 → s.hlu.ptmFails < 2 →
    exec (.ptmDialog none) s = .next { s with hlu := { s.hlu with ptmFails := s.hlu.ptmFails + 1 } }) ∧
  (∀ s : State, s.hlu.up = true → s.hlu.ptmEn = true → s.hlu.power = .l0 → s.hlu.ptmFails = 2 → ∃ t, exec (.ptmDialog none) s = .next t ∧
    t.hlu = { s.hlu with ptmFails := 0 } ∧ t.fld Fld.HLU_PTM_STS.FAIL_CNT = min 0xFFFF (s.fld Fld.HLU_PTM_STS.FAIL_CNT + 1) ∧
    t.tbu = s.tbu ∧ t = { s with out := t.out, hlu := t.hlu, regf := t.regf, qen := t.qen, mgp := t.mgp, cru := t.cru }) ∧
  (∀ (s : State) (u : Dword), s.hlu.ptmValid = true → s.hlu.ptmLast = some u → s.passed u (msTicks 30) = true →
    exec .ptmValidExpiry s = .next { s with hlu := { s.hlu with ptmValid := false }, tbu := { s.tbu with fleetSrc := if s.tbu.fleetSrc = 2 then 1 else s.tbu.fleetSrc, slewLeft := 0 } }) ∧
  (∀ (s : State) (fn : Nat), s.cfgOpen fn = true →
    (∃ t, exec (.busMasterEnableClear fn) s = .next t ∧ (Tbl.getD t.hlu.fns fn default).busMaster = false ∧
      (∀ c x, Tbl.find? t.qen.ctxs c = some x → x.fn = fn → x.win = none → x.bmeStall = true) ∧
      (∀ c x, Tbl.find? s.qen.ctxs c = some x → x.fn ≠ fn → Tbl.find? t.qen.ctxs c = some x) ∧
      t = { s.arrive 0 with hlu := { (s.arrive 0).hlu with fns := t.hlu.fns }, qen := { s.qen with ctxs := t.qen.ctxs } }) ∧
    (∃ t, exec (.busMasterEnableSet fn) s = .next t ∧ (Tbl.getD t.hlu.fns fn default).busMaster = true ∧
      (∀ c x, Tbl.find? t.qen.ctxs c = some x → x.fn = fn → x.win = none → x.bmeStall = false) ∧
      (∀ c x, Tbl.find? s.qen.ctxs c = some x → x.fn ≠ fn → Tbl.find? t.qen.ctxs c = some x) ∧
      t = { s.arrive 0 with hlu := { (s.arrive 0).hlu with fns := t.hlu.fns }, qen := { s.qen with ctxs := t.qen.ctxs } }))
/-! ## Registers (spec/00, spec/19) -/

/-- Table 0.1, R7, R8, R4: what a write does to a field of each access code, what hardware's additions do to an RC field and to an RW1C bit in the tick of an access, and that every other field stays. -/
def Obligations.FieldAccessFollowsItsAccessCode : Prop :=
  ∀ (r : RegFile) (f : Field) (i w v n : Nat),
    ((f.acc = .rw ∨ f.acc = .rws) → (r.write f i w v).get f i w = v % 2 ^ f.width) ∧
    (f.acc = .rw1c → ∀ b, b < f.width → bitAt ((r.write f i w v).get f i w) b =
      (bitAt (r.get f i w) b && !(bitAt v b && !bitAt (Tbl.getD r.hwSet (f.key i w) 0) b))) ∧
    ((f.acc = .ro ∨ f.acc = .rc ∨ f.acc = .wo) → r.write f i w v = r) ∧
    (∀ g j x, f.key i w ≠ g.key j x → (r.write f i w v).get g j x = r.get g j x ∧ (r.count f i w n).get g j x = r.get g j x ∧
      (r.flag f i w n).get g j x = r.get g j x ∧ (r.rcClear f i w).get g j x = r.get g j x) ∧
    (r.count f i w n).get f i w = min (2 ^ f.width - 1) (r.get f i w + n) ∧
    (r.flag f i w n).get f i w = (r.get f i w ||| n) % 2 ^ f.width ∧
    (f.acc = .rw1c → ∀ b, b < f.width → bitAt n b = true → bitAt (((r.flag f i w n).write f i w v).get f i w) b = true ∧
      bitAt (((r.write f i w v).flag f i w n).get f i w) b = true) ∧
    (Tbl.find? r.rcPre (f.key i w) = none → Tbl.find? r.rcAdd (f.key i w) = none →
      (r.count f i w n).rcRead f i w = r.get f i w ∧ ((r.count f i w n).rcClear f i w).get f i w = min (2 ^ f.width - 1) n ∧
      r.rcRead f i w = r.get f i w ∧ (r.rcClear f i w).get f i w = f.reset)

/-- R4, R496, R497, R501, R504, Table 19.3: an aligned firmware write of 4 B or 8 B reaches its register, the upper word of 8 B in the next tick; it reaches the stage SRAM and passes over the read-only regions; an access of another size or alignment, and one outside every region, get a bus error; a write with a wrong epoch changes nothing but its record. R40, R69, R181, R497, Tables 19.1 and 19.2: host writes are held while the link takes none; taken, they reach a function's MSI-X bytes and the registers, change nothing at an offset that no register occupies, and are Unsupported Requests to a function that does not decode. -/
def Obligations.RegisterWritesReachTheirPlaces : Prop :=
  (∀ (s : State) (k : Cluster) (pair : Nat) (ep be : BitVec 8) (data : Dword),
    (∀ a, 0x20000000 ≤ a → a < 0x21100000 → s.epochOk ep = true →
      (a % 4 = 0 → exec (.registerWrite (.firmware k pair ep) a 4 data be) s =
        .next (s.writeReg (s.viewOf (.firmware k pair ep)) false ep a (BitVec.ofNat 32 data.toNat) 0xF)) ∧
      (a % 8 = 0 → exec (.registerWrite (.firmware k pair ep) a 8 data be) s =
        .next ((s.writeReg (s.viewOf (.firmware k pair ep)) false ep a (BitVec.ofNat 32 data.toNat) 0xF).modRegf fun f =>
          { f with split := f.split ++ [(.firmware k pair ep, a + 4, BitVec.ofNat 32 (data.toNat / 2 ^ 32))] }))) ∧
    (s.epochOk ep = true → ∃ t, exec (.registerWrite (.firmware k pair ep) 0x20600110 4 data be) s = .next t ∧
      t.fld Fld.DSC_DIE_SEL.DIE (clusterNo k) = data.toNat % 1024 ∧
      (∀ f i, f.key i 0 ≠ Fld.DSC_DIE_SEL.DIE.key (clusterNo k) 0 → t.fld f i = s.fld f i) ∧ t = { s with regf := t.regf }) ∧
    (s.epochOk ep = false → ∃ t, exec (.registerWrite (.firmware k pair ep) 0x20600110 4 data be) s = .next t ∧
      t.fld Fld.CCL_CUT_CNT.REFUSED = min (2 ^ Fld.CCL_CUT_CNT.REFUSED.width - 1) (s.fld Fld.CCL_CUT_CNT.REFUSED + 1) ∧
      t.fld Fld.DSC_DIE_SEL.DIE (clusterNo k) = s.fld Fld.DSC_DIE_SEL.DIE (clusterNo k) ∧ t = { s with regf := t.regf, cru := t.cru }) ∧
    (∀ a n, 0x20000000 ≤ a → a < 0x21100000 → (a % n ≠ 0 ∨ (n ≠ 4 ∧ n ≠ 8)) →
      exec (.registerWrite (.firmware k pair ep) a n data be) s = .next { s with out := .busError k pair :: s.out }) ∧
    (∀ a n, 0x40000000 ≤ a → a < 0x44000000 → ∃ t, exec (.registerWrite (.firmware k pair ep) a n data be) s = .next t ∧
      (∀ i, i < n → Memory.read 0 t.bpm.sram (a - 0x40000000 + i) = BitVec.ofNat 8 (data.toNat / 256 ^ i)) ∧
      (∀ x, (x < a - 0x40000000 ∨ a - 0x40000000 + n ≤ x) → Memory.read 0 t.bpm.sram x = Memory.read 0 s.bpm.sram x) ∧ t = { s with bpm := t.bpm }) ∧
    (∀ a n, (0x1000000 ≤ a ∧ a < 0x1020000) ∨ (0x10000000 ≤ a ∧ a < 0x120FC000) → exec (.registerWrite (.firmware k pair ep) a n data be) s = .next s) ∧
    (∀ a n, 0x44000000 ≤ a → a < 0x8000000000 → exec (.registerWrite (.firmware k pair ep) a n data be) s = .next { s with out := .busError k pair :: s.out })) ∧
  (∀ (s : State) (fn size : Nat) (data : Dword) (be : BitVec 8),
    (∀ bar a, s.postedHeld = true → exec (.registerWrite (.host fn bar) a size data be) s = .next s) ∧
    (∀ bar a, s.postedHeld = false → s.fnOpen fn = true → size ≠ 8 → exec (.registerWrite (.host fn bar) a size data be) s =
      .next ((s.arrive size).hostWord (.host fn bar) fn bar a (BitVec.ofNat 32 data.toNat) (BitVec.ofNat 4 be.toNat))) ∧
    (∀ bar a, s.postedHeld = false → s.fnOpen fn = true → be.toNat / 16 = 15 → exec (.registerWrite (.host fn bar) a 8 data be) s =
      .next (((s.arrive 8).hostWord (.host fn bar) fn bar a (BitVec.ofNat 32 data.toNat) (BitVec.ofNat 4 be.toNat)).modRegf fun f =>
        { f with split := f.split ++ [(.host fn bar, a + 4, BitVec.ofNat 32 (data.toNat / 2 ^ 32))] })) ∧
    (∀ a, s.postedHeld = false → s.fnOpen fn = true → fn ≠ 0 → 0xE000 ≤ a → a < 0xF01D →
      ∃ t, exec (.registerWrite (.host fn 0) a 4 data 0xF) s = .next t ∧
        (∀ i, i < 4 → Memory.read 0 t.hlu.msix (65536 * fn + (a - 0xE000) + i) = BitVec.ofNat 8 (data.toNat / 256 ^ i)) ∧
        (∀ x, (x < 65536 * fn + (a - 0xE000) ∨ 65536 * fn + (a - 0xE000) + 4 ≤ x) → Memory.read 0 t.hlu.msix x = Memory.read 0 s.hlu.msix x) ∧
        t = { s.arrive 4 with hlu := { (s.arrive 4).hlu with msix := t.hlu.msix } }) ∧
    (∀ a, s.postedHeld = false → s.fnOpen fn = true → fn ≠ 0 → 0x1000 ≤ a → a < 0xE000 →
      exec (.registerWrite (.host fn 0) a 4 data be) s = .next (s.arrive 4)) ∧
    (∀ bar a, s.postedHeld = false → s.fnOpen fn = false → ∃ t, exec (.registerWrite (.host fn bar) a size data be) s = .next t ∧
      t.hlu = { (s.arrive size).hlu with aer := .unsupported :: s.hlu.aer } ∧ t.out = .aer .unsupported .nonFatal :: s.out ∧
      t = { s.arrive size with out := t.out, hlu := t.hlu, regf := t.regf, cru := t.cru }))

/-- R8, R27, R69, R496, R499, Table 1.6: a firmware read of a register answers its word and has the read's effects: an RC field returns its count and leaves what this tick added, a _LO register returns the lower half and latches the upper half, which the _HI register then shows; 8 B take the upper word in the next tick, an access of another size or alignment gets a bus error. A host read waits while the link takes nothing, answers 0 where no register lies, and is an Unsupported Request at a function that does not decode. -/
def Obligations.ReadsClearCountersAndLatchUpperHalves : Prop :=
  (∀ (s : State) (k : Cluster) (pair : Nat) (ep : BitVec 8) (i : ReadSpan → Instr),
    (i = .rcFieldRead (.firmware k pair ep) ∨ i = .loRegisterRead (.firmware k pair ep)) →
    (∀ a, 0x20000000 ≤ a → a < 0x21100000 → a % 0x100000 < 0xC0000 →
      (a % 4 = 0 → exec (i ⟨a, 4⟩) s = .next ((s.emit (.regData (.firmware k pair ep) a (s.regWord ⟨clusterNo k, pair⟩ a true).toNat)).readEffects ⟨clusterNo k, pair⟩ a)) ∧
      (a % 8 = 0 → exec (i ⟨a, 8⟩) s =
        .next (((s.emit (.regData (.firmware k pair ep) a (s.regWord ⟨clusterNo k, pair⟩ a true).toNat)).readEffects ⟨clusterNo k, pair⟩ a).modRegf fun f =>
          { f with splitRd := f.splitRd ++ [(.firmware k pair ep, a + 4)] }))) ∧
    (∀ a n, 0x20000000 ≤ a → a < 0x21100000 → (a % n ≠ 0 ∨ (n ≠ 4 ∧ n ≠ 8)) → exec (i ⟨a, n⟩) s = .next { s with out := .busError k pair :: s.out })) ∧
  (∀ (s : State) (k : Cluster) (pair : Nat) (ep : BitVec 8),
    (∃ t, exec (.rcFieldRead (.firmware k pair ep) ⟨0x20000020, 4⟩) s = .next t ∧
      t.out = .regData (.firmware k pair ep) 0x20000020 (s.regf.rcRead Fld.TBU_COLL_CNT.COUNT 0 0 % 2 ^ 32) :: s.out ∧
      t.fld Fld.TBU_COLL_CNT.COUNT = Tbl.getD s.regf.rcAdd (Fld.TBU_COLL_CNT.COUNT.key 0 0) 0 ∧
      (∀ f i, f.key i 0 ≠ Fld.TBU_COLL_CNT.COUNT.key 0 0 → t.fld f i = s.fld f i) ∧ t = { s with out := t.out, regf := t.regf }) ∧
    exec (.loRegisterRead (.firmware k pair ep) ⟨0x20000010, 4⟩) s = .next { s with
      out := .regData (.firmware k pair ep) 0x20000010 (s.tbu.tick.toNat % 2 ^ 32) :: s.out
      tbu := { s.tbu with hiLatch := BitVec.ofNat 32 (s.tbu.tick.toNat / 2 ^ 32) } } ∧
    exec (.loRegisterRead (.firmware k pair ep) ⟨0x20000014, 4⟩) s = .next { s with
      out := .regData (.firmware k pair ep) 0x20000014 s.tbu.hiLatch.toNat :: s.out } ∧
    exec (.loRegisterRead (.firmware k pair ep) ⟨0x20500108, 4⟩) s = .next { s with
      out := .regData (.firmware k pair ep) 0x20500108 (s.mxe.nextDsn % 2 ^ 32) :: s.out
      mxe := { s.mxe with dsnHi := BitVec.ofNat 32 (s.mxe.nextDsn / 2 ^ 32) } } ∧
    exec (.loRegisterRead (.firmware k pair ep) ⟨0x20500110, 4⟩) s = .next { s with
      out := .regData (.firmware k pair ep) 0x20500110 (s.mxe.psn % 2 ^ 32) :: s.out
      mxe := { s.mxe with psnHi := BitVec.ofNat 32 (s.mxe.psn / 2 ^ 32) } } ∧
    exec (.loRegisterRead (.firmware k pair ep) ⟨0x20800120, 4⟩) s = .next { s with
      out := .regData (.firmware k pair ep) 0x20800120 (s.cdx.theta.toNat % 2 ^ 32) :: s.out
      cdx := { s.cdx with thetaHi := BitVec.ofNat 32 (s.cdx.theta.toNat / 2 ^ 32) } } ∧
    exec (.loRegisterRead (.firmware k pair ep) ⟨0x21000108, 4⟩) s = .next { s with
      out := .regData (.firmware k pair ep) 0x21000108 (s.cru.next % 2 ^ 32) :: s.out
      cru := { s.cru with hiLatch := BitVec.ofNat 32 (s.cru.next / 2 ^ 32) } }) ∧
  (∀ (s : State) (fn bar a n : Nat) (i : Instr), (i = .rcFieldRead (.host fn bar) ⟨a, n⟩ ∨ i = .loRegisterRead (.host fn bar) ⟨a, n⟩) →
    (s.inboundHeld = true → exec i s = .next s) ∧
    (s.inboundHeld = false → s.fnOpen fn = true → fn ≠ 0 → bar = 0 → 0x1000 ≤ a → a < 0xE000 → n = 4 →
      exec i s = .next ((s.arrive 0).emit (.regData (.host fn bar) a 0))) ∧
    (s.inboundHeld = false → s.fnOpen fn = false → n = 4 → ∃ t, exec i s = .next t ∧ t.hlu = { (s.arrive 0).hlu with aer := .unsupported :: s.hlu.aer } ∧
      t.out = .tlpCompletion .ur [] s.hlu.ecrcGen :: .aer .unsupported .nonFatal :: s.out ∧
      t = { s.arrive 0 with out := t.out, hlu := t.hlu, regf := t.regf, cru := t.cru }))

/-! ## Queues, posting and power states (spec/04) -/

/-- R26, R97, R126, R137, R181: a doorbell is a class 9 arrival. In range it moves the queue's tail or head, its entries arrive in this tick, and an I/O doorbell in a non-operational state starts the return; one out of range or of no queue is discarded with an event; one whose PASID differs from the slice's is discarded and reported; one to a function that does not decode is an Unsupported Request; while posted requests are held none is taken. -/
def Obligations.DoorbellsMoveTheirQueues : Prop :=
  ∀ (s : State) (fn qid v : Nat) (pasid : Option Nat),
    (∀ cq, s.postedHeld = true → exec (.doorbellWrite fn qid cq v pasid) s = .next s) ∧
    (∀ cq, s.postedHeld = false → s.fnOpen fn = false → ∃ t, exec (.doorbellWrite fn qid cq v pasid) s = .next t ∧
      t.hlu = { (s.arrive 4).hlu with aer := .unsupported :: s.hlu.aer } ∧ t = { s.arrive 4 with out := t.out, hlu := t.hlu, regf := t.regf, cru := t.cru }) ∧
    (∀ cq, s.postedHeld = false → s.fnOpen fn = true → s.queueKey fn qid = none → ∃ t, exec (.doorbellWrite fn qid cq v pasid) s = .next t ∧
      t = { s.arrive 4 with qen := { s.qen with ctxs := t.qen.ctxs, ctrls := t.qen.ctrls } }) ∧
    (∀ key q, s.postedHeld = false → s.fnOpen fn = true → s.queueKey fn qid = some key → Tbl.find? s.qen.sqs key = some q →
      (s.pasidDiffers key q.slice pasid = false → v < q.size → ∃ t, exec (.doorbellWrite fn qid false v pasid) s = .next t ∧
        Tbl.find? t.qen.sqs key = some { q with tail := v, arrivals := q.arrivals ++ List.replicate ((v + q.size - q.tail) % q.size) s.now } ∧
        (∀ j, j ≠ key → Tbl.find? t.qen.sqs j = Tbl.find? s.qen.sqs j) ∧
        t.qen.exitSince = (if key < 4096 ∧ 3 ≤ s.qen.ps ∧ s.qen.exitSince = none then some s.now else s.qen.exitSince) ∧
        t = { s.arrive 4 with qen := { s.qen with sqs := t.qen.sqs, exitSince := t.qen.exitSince } }) ∧
      (s.pasidDiffers key q.slice pasid = false → q.size ≤ v → ∃ t, exec (.doorbellWrite fn qid false v pasid) s = .next t ∧
        t = { s.arrive 4 with qen := { s.qen with ctxs := t.qen.ctxs, ctrls := t.qen.ctrls } }) ∧
      (s.pasidDiffers key q.slice pasid = true → ∃ t, exec (.doorbellWrite fn qid false v pasid) s = .next t ∧ t.fld Fld.TNU_VIOL_STS.DOORBELL_PASID = 1 ∧
        t.tnu = { s.tnu with violSlice := q.slice } ∧ t = { s.arrive 4 with regf := t.regf, tnu := t.tnu, cru := t.cru })) ∧
    (∀ key q, s.postedHeld = false → s.fnOpen fn = true → s.queueKey fn qid = some key → Tbl.find? s.qen.cqs key = some q →
      (s.pasidDiffers key q.slice pasid = false → v < q.size → ∃ t, exec (.doorbellWrite fn qid true v pasid) s = .next t ∧
        Tbl.find? t.qen.cqs key = some { q with head := v } ∧ (∀ j, j ≠ key → Tbl.find? t.qen.cqs j = Tbl.find? s.qen.cqs j) ∧
        t = { s.arrive 4 with qen := { s.qen with cqs := t.qen.cqs } }) ∧
      (s.pasidDiffers key q.slice pasid = false → q.size ≤ v → ∃ t, exec (.doorbellWrite fn qid true v pasid) s = .next t ∧
        t = { s.arrive 4 with qen := { s.qen with ctxs := t.qen.ctxs, ctrls := t.qen.ctrls } }) ∧
      (s.pasidDiffers key q.slice pasid = true → ∃ t, exec (.doorbellWrite fn qid true v pasid) s = .next t ∧ t.fld Fld.TNU_VIOL_STS.DOORBELL_PASID = 1 ∧
        t.tnu = { s.tnu with violSlice := q.slice } ∧ t = { s.arrive 4 with regf := t.regf, tnu := t.tnu, cru := t.cru }))

/-- R71, R95, R98, R99, R101, R162: the arbitration's winner takes its turn: a queue in the Controller Memory Buffer gives its entries at once, another queue's are asked for with one read under a free tag, or first its page's translation; an entry takes the lowest free context, in FETCHED, and the head moves on. The completion of the read brings the entries. An aged entry is promoted one class, and a High entry older than AGE_HIGH_US takes the next turn. -/
def Obligations.FetchesFillContextsInArbitrationOrder : Prop :=
  (∀ (s : State) (i : Instr) (key c : Nat) (q : Sq) (e : Sqe), Tbl.find? s.qen.sqs key = some q → s.sqOn key q = true → s.ctxRoom key q = true →
    ((∃ u o, i = .sqEntryFetch key ∧ s.winnerSq = some (u, key, q) ∧ q.cmb = some o ∧ s.cmbEntries q o (s.qen.turnEntries key q) = [e]) ∨
      ∃ n g d, i = .completionReceived n .ok d ∧ s.inboundHeld = false ∧ Tbl.find? s.hlu.tags n = some g ∧ g.phase = .outstanding ∧ g.use = .fetch key 1 ∧
        e = Sqe.ofNat d.toNat) →
    c < 16384 → Tbl.has s.qen.ctxs c = false → (∀ f ∈ s.qen.freed, f.1 ≠ c) → (∀ j, j < c → Tbl.has s.qen.ctxs j = true ∨ ∃ f ∈ s.qen.freed, f.1 = j) →
    ∃ t x, exec i s = .next t ∧ Tbl.find? t.qen.ctxs c = some x ∧ x.sqe = e ∧ x.state = .fetched ∧ x.sqid = key ∧ x.fn = q.fn ∧
      x.slice = q.slice ∧ x.cls = s.sqClass q ∧ x.admin = decide (4096 ≤ key) ∧ x.arrival = q.arrivals.headD 0 ∧ x.fetchOrd = s.qen.fetches ∧ x.dsn = 0 ∧ x.bufs = [] ∧
      x.fua = fuaOf e ∧ (x.bmeStall = true ↔ s.busMaster q.fn = false) ∧
      (∀ k, k ≠ c → Tbl.find? t.qen.ctxs k = Tbl.find? s.qen.ctxs k) ∧
      Tbl.find? t.qen.sqs key = some { q with head := (q.head + 1) % q.size, arrivals := q.arrivals.tail, promoted := false, urgentTurn := false, fetched := true } ∧
      (∀ k, k ≠ key → Tbl.find? t.qen.sqs k = Tbl.find? s.qen.sqs k) ∧ t.qen.fetches = s.qen.fetches + 1 ∧ (4096 ≤ key → t.tnu = s.tnu) ∧
      t.tbu = (if i = .sqEntryFetch key then s.tbu else (s.arrive 0).tbu) ∧ t = { s with tbu := t.tbu, hlu := t.hlu, qen := t.qen, tnu := t.tnu }) ∧
  (∀ (s : State) (u : Turn) (key : Nat) (q : Sq), s.winnerSq = some (u, key, q) → q.cmb = none →
    (∀ tag, s.hlu.pageOk q.fn (s.dmaPasid (q.chargedTo key)) (q.nextAddr / 4096) q.untrans = true → s.nextTag = some tag →
      ∃ t, exec (.sqEntryFetch key) s = .next t ∧
        t.out = .memRead tag q.fn (s.dmaPasid (q.chargedTo key)) q.nextAddr (64 * s.qen.turnEntries key q) :: s.out ∧
        t.hlu = { s.hlu with tags := Tbl.put s.hlu.tags tag { use := .fetch key (s.qen.turnEntries key q), fn := q.fn, slice := q.chargedTo key, phase := .outstanding, since := s.now, untranslated := q.untrans } } ∧
        t.qen.ctxs = s.qen.ctxs ∧ t.qen.sqs = Tbl.put s.qen.sqs key { q with untrans := false } ∧ t = { s with out := t.out, hlu := t.hlu, qen := t.qen }) ∧
    (s.hlu.pageOk q.fn (s.dmaPasid (q.chargedTo key)) (q.nextAddr / 4096) q.untrans = false →
      exec (.sqEntryFetch key) s = .next (s.askPage q.fn (q.chargedTo key) (q.nextAddr / 4096)))) ∧
  (∀ (s : State) (n : Nat), (∀ u key q, s.winnerSq = some (u, key, q) → n ≠ key) → exec (.sqEntryFetch n) s = .next s) ∧
  (∀ (s : State) (n : Nat) (q : Sq), Tbl.find? s.qen.sqs n = some q → n < 4096 →
    (∀ o us, (o = SvcClass.background ∧ us = s.obj Ob.QEN_AGE_BKG_US) ∨ (o = .normal ∧ us = s.obj Ob.QEN_AGE_NORMAL_US ∧ s.waited q (s.obj Ob.AGE_HIGH_US) = false) →
      q.promoted = false → s.sqClass q = o → s.waited q us = true →
      ∃ t, exec (.fetchAgePromotion n) s = .next t ∧ Tbl.find? t.qen.sqs n = some { q with promoted := true } ∧
        (∀ k, k ≠ n → Tbl.find? t.qen.sqs k = Tbl.find? s.qen.sqs k) ∧ t = { s with qen := { s.qen with sqs := t.qen.sqs } }) ∧
    (s.sqClass q = .high → s.waited q (s.obj Ob.AGE_HIGH_US) = true →
      ∃ t, exec (.fetchAgePromotion n) s = .next t ∧ Tbl.find? t.qen.sqs n = some { q with urgentTurn := true } ∧
        (∀ k, k ≠ n → Tbl.find? t.qen.sqs k = Tbl.find? s.qen.sqs k) ∧ t = { s with qen := { s.qen with sqs := t.qen.sqs } }))

/-- R77, R95, R108, R111, R124, R150, R152: the posting of a READY command, an event of class 6, writes its entry at the queue's tail with the queue's phase, after the dirty-log entry of the page, and frees the context; a posted write is left to its placement record; a decision that may not be taken changes nothing; the coalescing time signals what waits. -/
def Obligations.PostingWritesTheCompletionAndFreesTheContext : Prop :=
  (∀ (s : State) (c key : Nat) (x : Ctx) (q : Cq), Tbl.find? s.qen.ctxs c = some x → x.state = .ready → x.win = none → s.cqOf x = some (key, q) →
    (s.mayPost x q = true →
      ∃ t q' o p, exec (.postingDecision c) s = .next t ∧
        Tbl.find? t.qen.cqs key = some q' ∧ q'.tail = (q.tail + 1) % q.size ∧ q'.head = q.head ∧ q'.size = q.size ∧
        q'.phase = (if q.tail + 1 = q.size then !q.phase else q.phase) ∧ (∀ k, k ≠ key → Tbl.find? t.qen.cqs k = Tbl.find? s.qen.cqs k) ∧
        t.out = o ++ .cqe key x.sqid x.sqe.cid.toNat (((Tbl.find? s.qen.sqs x.sqid).map Sq.head).getD 0) x.status x.result q.phase
          q.fn (s.dmaPasid x.chargedTo) q.nextAddr :: (p ++ s.out) ∧
        ((x.admin = true ∨ s.dlogOn q.slice = false) → p = []) ∧ (∀ m ∈ p, ∃ a, m = .dirtyEntry q.slice a (pageEntry (q.nextAddr / 4096)) ∨
          m = .dirtyEntry q.slice a (pageEntry (q.nextAddr / 4096) ||| 1)) ∧
        Tbl.find? t.qen.ctxs c = none ∧ (x.admin = true → t.tnu = s.tnu) ∧
        t.mxe = (if x.admin = false ∧ x.sqe.opcode = 0x01 ∧ x.dsn ≠ 0 then
          { s.mxe with writes := Tbl.adjust s.mxe.writes x.dsn fun w => { w with ctx := none, posted := true } } else s.mxe) ∧
        t.csu = (if s.qen.actCtx = some c then { s.csu with window := some s.now } else s.csu) ∧ t.power = s.power ∧ t.tbu = (s.sample 6).tbu ∧ t.hlu = s.hlu ∧
        t.pending = s.pending) ∧
    (s.mayPost x q = false → (s.cqPageOk x q = true ∨ x.bmeStall = true) → exec (.postingDecision c) s = .next s) ∧
    (s.mayPost x q = false → s.cqPageOk x q = false → x.bmeStall = false → exec (.postingDecision c) s = .next (s.askPage q.fn x.chargedTo (q.nextAddr / 4096)))) ∧
  (∀ (s : State) (n : Nat) (q : Cq) (u : Dword), Tbl.find? s.qen.cqs n = some q → q.unsignalled ≠ 0 → q.since = some u →
    s.passed u (usTicks (100 * (s.qen.ctrl q.fn).coalTime)) = true → s.busMaster q.fn = true →
    ∃ t, exec (.interruptCoalescingExpiry n) s = .next t ∧ t.out = .msix q.fn q.vec :: s.out ∧
      Tbl.find? t.qen.cqs n = some { q with unsignalled := 0, since := none } ∧ (∀ k, k ≠ n → Tbl.find? t.qen.cqs k = Tbl.find? s.qen.cqs k) ∧
      t = { s with out := t.out, qen := { s.qen with cqs := t.qen.cqs } })

/-- R126: an operational state is taken at once; a non-operational one is pending until no context is allocated, no entry has arrived, every die queue is empty and every die idle, and requests wait behind it in their order; an exit returns to the last operational state. -/
def Obligations.PowerStateRequestsTakeTheirTurn : Prop :=
  (∀ (s : State) (n : Nat), s.qen.entryPend = none → n ≤ 2 →
    exec (.autonomousPsTransition n) s = .next { s with qen := { s.qen with ps := n, lastOp := n, exitSince := none } }) ∧
  (∀ (s : State) (n : Nat), s.qen.entryPend = none → n = 3 ∨ n = 4 →
    exec (.autonomousPsTransition n) s = .next { s with qen := { s.qen with entryPend := some { ps := n, ctx := none } } }) ∧
  (∀ (s : State) (n : Nat), s.qen.entryPend.isSome = true → n ≤ 4 →
    exec (.autonomousPsTransition n) s = .next { s with qen := { s.qen with psWaiting := s.qen.psWaiting ++ [{ ps := n, ctx := none }] } }) ∧
  (∀ (s : State) (r : PsRequest), s.qen.entryPend = some r → (s.noCommands = false ∨ s.ioArrived = true ∨ s.dsc.quiet = false) → exec .nonopEntryComplete s = .next s) ∧
  (∀ (s : State) (r : PsRequest), s.qen.entryPend = some r → s.noCommands = true → s.ioArrived = false → s.dsc.quiet = true →
    (r.ctx = none → s.qen.psWaiting = [] →
      exec .nonopEntryComplete s = .next { s with qen := { s.qen with ps := r.ps, entryPend := none, psWaiting := [], exitSince := none } }) ∧
    (∀ c x, r.ctx = some c → Tbl.find? s.qen.ctxs c = some x → s.qen.psWaiting = [] →
      ∃ t, exec .nonopEntryComplete s = .next t ∧ s.answered t c x 0 ∧
        t = { s with qen := { s.qen with ps := r.ps, entryPend := none, psWaiting := [], exitSince := none, ctxs := t.qen.ctxs } }) ∧
    (∀ w, r.ctx = none → s.qen.psWaiting = [w] → w.ps ≤ 2 →
      exec .nonopEntryComplete s = .next { s with qen := { s.qen with
        ps := w.ps, lastOp := w.ps, entryPend := none, psWaiting := [], exitSince := none, psPost := s.qen.psPost ++ w.ctx.toList } })) ∧
  (∀ s : State, s.qen.exitSince.isSome = true → 3 ≤ s.qen.ps → exec .nonopExitComplete s = .next { s with qen := { s.qen with ps := s.qen.lastOp, exitSince := none } })

/-! ## I/O commands (spec/04, spec/07) -/

/-- R13, R77, R103, R136, R193, R306, Table 4.6: a Read or Write that its namespace, range, key, write protection, MDTS or data pointer refuses ends at once with that status; a namespace of another slice is also reported. -/
def Obligations.RefusedReadsAndWritesEndAtOnce : Prop :=
  ∀ (s : State) (c : Nat) (x : Ctx) (i : Instr) (wr : Bool) (pi : PiCheck),
    ((wr = false ∧ i = .read c ∧ s.ioCtx c 0x02 [.fetched, .lookup] = some x) ∨ (wr = true ∧ i = .write c pi ∧ s.ioCtx c 0x01 [.fetched] = some x)) →
    (s.ownNs x = none → ∃ t, exec i s = .next t ∧ t.ended c stInvalidNs ∧ t.fld Fld.TNU_VIOL_STS.NS_OWNER = 1 ∧ t.tnu = { s.tnu with violSlice := x.slice } ∧
      t.mxe = s.mxe ∧ t.power = s.power ∧ t.tbu = s.tbu) ∧
    (∀ n, s.ownNs x = some n →
      (n.nsze < slbaOf x.sqe + nlbOf x.sqe → ∃ t, exec i s = .next t ∧ t.ended c stLbaRange ∧ t.mxe = s.mxe ∧ t.tnu = s.tnu ∧ t.tbu = s.tbu) ∧
      (slbaOf x.sqe + nlbOf x.sqe ≤ n.nsze → s.nsKey n = none → ∃ t, exec i s = .next t ∧ t.ended c stDenied ∧ t.mxe = s.mxe ∧ t.tnu = s.tnu ∧ t.tbu = s.tbu) ∧
      (slbaOf x.sqe + nlbOf x.sqe ≤ n.nsze → (s.nsKey n).isSome = true → wr = true → (n.readOnly = true ∨ s.mxe.readOnly = true) →
        ∃ t, exec i s = .next t ∧ t.ended c stWriteProtected ∧ t.mxe = s.mxe ∧ t.tnu = s.tnu ∧ t.tbu = s.tbu) ∧
      (slbaOf x.sqe + nlbOf x.sqe ≤ n.nsze → (s.nsKey n).isSome = true → (wr = false ∨ (n.readOnly = false ∧ s.mxe.readOnly = false)) →
        (2 * 2 ^ 20 < nlbOf x.sqe * n.lbaBytes → ∃ t, exec i s = .next t ∧ t.ended c stInvalidField ∧ t.mxe = s.mxe ∧ t.tnu = s.tnu ∧ t.tbu = s.tbu) ∧
        (nlbOf x.sqe * n.lbaBytes ≤ 2 * 2 ^ 20 → x.state = .fetched → x.status ≠ 0 →
          ∃ t, exec i s = .next t ∧ t.ended c x.status ∧ t.mxe = s.mxe ∧ t.tnu = s.tnu ∧ t.tbu = s.tbu)))

/-- R95, R152, R184, R193, R196, Table 7.2: a Read past its checks looks up each slot it covers; with every slot at hand its data goes to the host in the pieces of its data pointer and it is READY; a Write takes its buffers and waits for its data, or waits for buffers and changes nothing. -/
def Obligations.ReadsLookUpTheirSlotsAndWritesTakeBuffers : Prop :=
  (∀ (s : State) (c : Nat) (x : Ctx) (n : Namespace), s.ioCtx c 0x02 [.fetched, .lookup] = some x → x.state = .fetched → x.win = none → x.status = 0 → x.list = none →
    s.ownNs x = some n → s.rangeRefusal n (slbaOf x.sqe) (nlbOf x.sqe) false = none → nlbOf x.sqe * n.lbaBytes ≤ 2 * 2 ^ 20 →
    ∃ t y, exec (.read c) s = .next t ∧ Tbl.find? t.qen.ctxs c = some y ∧
      y.work = (slotSpan (slbaOf x.sqe * n.lbaBytes) (nlbOf x.sqe * n.lbaBytes)).map (s.slotWork n x.sqe.nsid.toNat) ∧ y.sqe = x.sqe ∧ y.bufs = x.bufs ∧
      (∀ k, k ≠ c → Tbl.find? t.qen.ctxs k = Tbl.find? s.qen.ctxs k) ∧
      (y.work.any SlotWork.waits = true → y.state = .lookup) ∧
      (y.work.any SlotWork.waits = false → (∃ w ∈ y.work, w.data = none ∧ w.lost = false) → y.state = .media) ∧
      ((∀ w ∈ y.work, w.data.isSome = true ∨ w.lost = true) → y.state = .ready ∨ y.state = .dataOut) ∧
      ((∀ w ∈ y.work, w.data.isSome = true ∧ w.lost = false) → s.dataMayGo x = true → (s.hlu.fn x.fn).ats = false → s.dlogOn x.slice = false →
        y.state = .ready ∧ y.status = 0 ∧ y.bytesDone = x.bytes ∧
        (∀ p ∈ partPieces s.hlu.mps 0 x.parts, x.bytesDone ≤ p.1 →
          .hostData c x.fn (s.dmaPasid x.chargedTo) p.2.1 ((y.slotBytes.drop (s.slotSkip x + p.1)).take p.2.2) false s.hlu.ecrcGen ∈ t.out)) ∧
      ((∃ w ∈ y.work, w.lost = true) → y.status = stUnrecovered) ∧
      t = { s with out := t.out, regf := t.regf, hlu := t.hlu, qen := { s.qen with ctxs := t.qen.ctxs }, tnu := t.tnu }) ∧
  (∀ (s : State) (n : Namespace) (nsid no : Nat), s.mxe.merging nsid (no / n.spg) (no % n.spg) = false →
    (∀ d, s.mxe.stageSlot nsid (no / n.spg) (no % n.spg) = some d → (s.slotWork n nsid no).data = some d) ∧
    (s.mxe.stageSlot nsid (no / n.spg) (no % n.spg) = none → segKey nsid (no / n.spg) ∉ s.mxe.unloaded →
      ((s.mxe.entry nsid (no / n.spg)).flags = .unmapped → (s.slotWork n nsid no).data = some 0) ∧
      ((s.mxe.entry nsid (no / n.spg)).flags = .lost → (s.slotWork n nsid no).lost = true ∧ (s.slotWork n nsid no).data = none) ∧
      ((s.mxe.entry nsid (no / n.spg)).located = true → (s.slotWork n nsid no).loc = some (slotLoc (s.mxe.entry nsid (no / n.spg)).loc n.spg (no % n.spg))))) ∧
  (∀ (s : State) (c : Nat) (x : Ctx) (n : Namespace) (pi : PiCheck), s.ioCtx c 0x01 [.fetched] = some x → s.ownNs x = some n → x.status = 0 → x.list = none →
    s.rangeRefusal n (slbaOf x.sqe) (nlbOf x.sqe) true = none → nlbOf x.sqe * n.lbaBytes ≤ 2 * 2 ^ 20 →
    (∀ u hs, s.takeBufs UnitNo.qen (some x.slice) (pieceSizes x.bytes) none = some (u, hs) → ∃ t, exec (.write c pi) s = .next t ∧
      Tbl.find? t.qen.ctxs c = some { x with state := .dataIn, bufs := hs, pi := pi } ∧ (∀ k, k ≠ c → Tbl.find? t.qen.ctxs k = Tbl.find? s.qen.ctxs k) ∧
      t = { s with out := t.out, regf := t.regf, hlu := t.hlu, qen := { s.qen with ctxs := t.qen.ctxs }, bpm := u.bpm }) ∧
    (s.takeBufs UnitNo.qen (some x.slice) (pieceSizes x.bytes) none = none → exec (.write c pi) s = .next s))

/-- R103, R104, R108, R195, R308: the sequence point gives the next DSN in ascending context number, takes the write's buffers from its context, and posts early only in protected mode; a poisoned buffer refuses the write; a write whose turn has not come changes nothing. -/
def Obligations.SequencePointsGiveTheNextDsn : Prop :=
  ∀ (s : State) (c : Nat) (x : Ctx) (n : Namespace), s.ioCtx c 0x01 [.lookup] = some x → s.ownNs x = some n →
    (s.bpm.poisonedBufs x.bufs = false → s.rangeRefusal n (slbaOf x.sqe) (nlbOf x.sqe) true = none → s.seqMay x n = true → s.dsnTurn c = true →
      ∃ t y w, exec (.sequencePoint c) s = .next t ∧ Tbl.find? t.qen.ctxs c = some y ∧ Tbl.find? t.mxe.writes (max 1 s.mxe.dsn) = some w ∧
        t.mxe.dsn = max 1 s.mxe.dsn + 1 ∧ t.mxe.seqLast = some c ∧ y.dsn = max 1 s.mxe.dsn ∧ y.bufs = [] ∧
        y.bytesDone = x.bytes ∧ y.sqe = x.sqe ∧ (y.prot = true ↔ s.protectedNs x.sqe.nsid.toNat = true ∧ s.qen.protOk = true ∧ x.fua = false) ∧
        y.state = (if y.prot then .ready else .sequenced) ∧ w.ctx = some c ∧ w.bufs = x.bufs ∧ w.nsid = x.sqe.nsid.toNat ∧ w.prot = y.prot ∧ w.posted = false ∧
        t.mxe.map = s.mxe.map ∧ t.mxe.deltas = s.mxe.deltas ∧ (∀ k, k ≠ c → Tbl.find? t.qen.ctxs k = Tbl.find? s.qen.ctxs k) ∧
        t = { s with out := t.out, qen := { s.qen with ctxs := t.qen.ctxs }, tnu := t.tnu, mxe := t.mxe }) ∧
    (s.bpm.poisonedBufs x.bufs = true → ∃ t, exec (.sequencePoint c) s = .next t ∧ t.ended c stWriteFault ∧
      t.fld Fld.CDX_POISON_CNT.REFUSED = min (2 ^ Fld.CDX_POISON_CNT.REFUSED.width - 1) (s.fld Fld.CDX_POISON_CNT.REFUSED + 1) ∧
      t.mxe = s.mxe ∧ t.tnu = s.tnu ∧ t.power = s.power) ∧
    (s.bpm.poisonedBufs x.bufs = false → s.rangeRefusal n (slbaOf x.sqe) (nlbOf x.sqe) true = none → (s.seqMay x n = false ∨ s.dsnTurn c = false) →
      exec (.sequencePoint c) s = .next s)

/-- R95, R104, R109, R118, R119, R209: Dataset Management reads its range list into buffers; then it and Write Zeroes take one DSN and give the commit one delta for the whole granules of each range, or wait in LOOKUP for room and for their turn; without the Deallocate attribute nothing but the completion happens. A Flush forces the writes it covers ahead of the others and is READY once every one of them is on NAND, not before. -/
def Obligations.TrimsTakeOneDsnAndFlushWaitsForNand : Prop :=
  (∀ (s : State) (c a k kind : Nat) (x : Ctx) (n : Namespace) (i : Instr),
    (i = .writeZeroes c ∧ kind = 4 ∧ s.ioCtx c 0x08 [.fetched, .lookup] = some x ∧ a = slbaOf x.sqe ∧ k = nlbOf x.sqe) ∨
      (i = .datasetManagement c true ∧ kind = 3 ∧ s.ioCtx c 0x09 [.fetched, .lookup] = some x ∧ x.state = .lookup ∧ x.sqe.cdw11.getLsbD 2 = true ∧ s.dsmRanges x = [(a, k)]) →
    s.ownNs x = some n → s.rangeRefusal n a k true = none →
    (s.tablesRoom x.sqe.nsid.toNat ((⟨a * n.lbaBytes, k * n.lbaBytes⟩ : Extent).partials n) ((⟨a * n.lbaBytes, k * n.lbaBytes⟩ : Extent).partials n).length = true →
      s.dsnTurn c = true → s.dlogStalled x.slice = false →
      ∃ t, exec i s = .next t ∧ t.mxe.dsn = max 1 s.mxe.dsn + 1 ∧ t.mxe.map = s.mxe.map ∧ t.mxe.seqLast = some c ∧
        t.mxe.deltas = s.mxe.deltas ++ (⟨a * n.lbaBytes, k * n.lbaBytes⟩ : Extent).trimDelta n kind x.sqe.nsid.toNat (max 1 s.mxe.dsn) c ∧
        (∀ d ∈ (⟨a * n.lbaBytes, k * n.lbaBytes⟩ : Extent).trimDelta n kind x.sqe.nsid.toNat (max 1 s.mxe.dsn) c, d.value = MapEntry.unmapped) ∧
        t.tnu = s.tnu ∧ t.hlu = s.hlu ∧ t.power = s.power ∧ t.tbu = s.tbu ∧ (x.bufs = [] → t = { s with qen := t.qen, mxe := t.mxe })) ∧
    (s.dsnTurn c = false → ∃ t, exec i s = .next t ∧ Tbl.find? t.qen.ctxs c = some { x with state := .lookup } ∧
      (∀ j, j ≠ c → Tbl.find? t.qen.ctxs j = Tbl.find? s.qen.ctxs j) ∧ t = { s with qen := { s.qen with ctxs := t.qen.ctxs } })) ∧
  (∀ (s : State) (c : Nat) (x : Ctx) (n : Namespace), s.ioCtx c 0x09 [.fetched, .lookup] = some x → s.ownNs x = some n →
    (∀ u hs, x.state = .fetched → x.status = 0 → x.list = none → s.takeBufs UnitNo.qen (some x.slice) (pieceSizes x.bytes) none = some (u, hs) →
      ∃ t, exec (.datasetManagement c false) s = .next t ∧ Tbl.find? t.qen.ctxs c = some { x with state := .dataIn, bufs := hs, pi := .pass } ∧
        (∀ k, k ≠ c → Tbl.find? t.qen.ctxs k = Tbl.find? s.qen.ctxs k) ∧
        t = { s with out := t.out, regf := t.regf, hlu := t.hlu, qen := { s.qen with ctxs := t.qen.ctxs }, bpm := u.bpm }) ∧
    (x.state = .lookup → x.sqe.cdw11.getLsbD 2 = false → ∃ t, exec (.datasetManagement c true) s = .next t ∧ t.ended c 0 ∧ t.mxe = s.mxe ∧ t.tnu = s.tnu ∧ t.power = s.power)) ∧
  (∀ (s : State) (c : Nat) (x : Ctx), s.ioCtx c 0x00 [.fetched] = some x → (x.sqe.nsid = 0xFFFFFFFF ∨ (s.ownNs x).isSome = true) →
    ((∀ d ∈ x.waits, ∀ w, Tbl.find? s.mxe.writes d = some w → w.pend = 0) → ∃ t, exec (.flush c) s = .next t ∧
      Tbl.find? t.qen.ctxs c = some { x with state := .ready } ∧ t.mxe = s.mxe.force (fun d => x.waits.contains d) ∧
      t = { s with qen := { s.qen with ctxs := t.qen.ctxs }, mxe := t.mxe }) ∧
    (∀ d w, d ∈ x.waits → Tbl.find? s.mxe.writes d = some w → w.pend ≠ 0 → (∀ e ∈ s.qen.ctxs, e.1 = c → e.2 = x) → ∃ t, exec (.flush c) s = .next t ∧
      Tbl.find? t.qen.ctxs c = some { x with state := .media } ∧ t.mxe = s.mxe.force (fun d => x.waits.contains d) ∧
      t = { s with qen := { s.qen with ctxs := t.qen.ctxs }, mxe := t.mxe }))
/-! ## Admin commands (spec/04) -/

/-- R43, R44, R93, R94, Tables 4.2 and 4.6: in Hall an opcode outside Table 4.2 ends with Invalid Command Opcode, and a feature that no row sets or a Commit Action outside Table 16.7 with Invalid Field in Command; in Stair with the admin subset open, an admin command outside the subset ends with Admin Command Media Not Ready and changes nothing else. -/
def Obligations.CommandsOutsideTheTableOrTheSubsetEndWithTheirStatus : Prop :=
  (∀ (s : State) (c : Nat) (x : Ctx), Tbl.find? s.qen.ctxs c = some x → x.state = .fetched → x.win = none → x.bmeStall = false →
    (x.admin = true → x.sqe.opcode.toNat ∉ adminOpcodes → ∃ t, exec (.invalidCommandOpcode c) s = .next t ∧
      s.answered t c x (if s.power.stage = .hall then stInvalidOpcode else stNotReady) ∧ t = { s with qen := { s.qen with ctxs := t.qen.ctxs } }) ∧
    (x.admin = true → x.sqe.opcode = 0x09 → cdwBits x.sqe.cdw10 7 0 ∉ setFids → ∃ t, exec (.invalidCommandOpcode c) s = .next t ∧
      s.answered t c x (if s.power.stage = .hall then stInvalidField else stNotReady) ∧ t = { s with qen := { s.qen with ctxs := t.qen.ctxs } }) ∧
    (x.admin = true → x.sqe.opcode = 0x10 → (cdwBits x.sqe.cdw10 5 3 = 0 ∨ 3 < cdwBits x.sqe.cdw10 5 3) → ∃ t, exec (.invalidCommandOpcode c) s = .next t ∧
      s.answered t c x stInvalidField ∧ t = { s with qen := { s.qen with ctxs := t.qen.ctxs } }) ∧
    (x.admin = false → x.sqe.opcode.toNat ∉ ioOpcodes → ∃ t, exec (.invalidCommandOpcode c) s = .next t ∧ s.answered t c x stInvalidOpcode ∧ t = { s with qen := { s.qen with ctxs := t.qen.ctxs } })) ∧
  (∀ (s : State) (c : Nat) (x : Ctx) (i : Instr), s.power.stage ≠ .hall → s.power.adminOpen = true →
    ((i = .abort c ∧ s.adminCtx c 0x08 = some x) ∨ (i = .deleteIoSubmissionQueue c ∧ s.adminCtx c 0x00 = some x)
      ∨ (∃ m, i = .createIoSubmissionQueue c m ∧ s.adminCtx c 0x01 = some x) ∨ (i = .deleteIoCompletionQueue c ∧ s.adminCtx c 0x04 = some x)
      ∨ (i = .createIoCompletionQueue c ∧ s.adminCtx c 0x05 = some x) ∨ (i = .getFeatures c ∧ s.adminCtx c 0x0A = some x)
      ∨ (i = .asynchronousEventRequest c ∧ s.adminCtx c 0x0C = some x) ∨ (∃ p, i = .namespaceManagement c p ∧ s.adminCtx c 0x0D = some x)
      ∨ (∃ n, i = .namespaceAttachment c n ∧ s.adminCtx c 0x15 = some x) ∨ (i = .virtualizationManagement c ∧ s.adminCtx c 0x1C = some x)
      ∨ (i = .formatNvm c ∧ s.adminCtx c 0x80 = some x)
      ∨ (s.adminCtx c 0x84 = some x ∧ ((i = .sanitizeBlockErase c ∧ cdwBits x.sqe.cdw10 2 0 = 2) ∨ (i = .sanitizeCryptoErase c ∧ cdwBits x.sqe.cdw10 2 0 = 4)))
      ∨ (s.adminCtx c 0x09 = some x ∧ ((i = .setFeaturesArbitration c ∧ cdwBits x.sqe.cdw10 7 0 = 0x01)
        ∨ (i = .setFeaturesPowerManagement c ∧ (cdwBits x.sqe.cdw10 7 0 = 0x02 ∨ cdwBits x.sqe.cdw10 7 0 = 0x0C))
        ∨ (i = .setFeaturesVolatileWriteCache c ∧ cdwBits x.sqe.cdw10 7 0 = 0x06) ∨ (i = .setFeaturesInterruptCoalescing c ∧ cdwBits x.sqe.cdw10 7 0 = 0x08)
        ∨ (i = .setFeaturesCriticalWarnings c ∧ cdwBits x.sqe.cdw10 7 0 = 0x0B) ∨ (i = .setFeaturesHctm c ∧ cdwBits x.sqe.cdw10 7 0 = 0x10)))) →
    ∃ t, exec i s = .next t ∧ s.answered t c x stNotReady ∧ t = { s with qen := { s.qen with ctxs := t.qen.ctxs } })

/-- R112, R113, R116, R117: an Abort is an event of class 7. One that catches its command ends it with Command Abort Requested and reports 0; one that misses reports 1, counts the miss and leaves every other command as it was; one fetched behind 32 of its controller that have not completed is refused. -/
def Obligations.AbortCatchesOrMisses : Prop :=
  ∀ (s : State) (c : Nat) (x : Ctx), s.adminCtx c 0x08 = some x → s.power.stage = .hall →
    let n := (s.qen.ctxs.filter fun e => e.2.admin && e.2.sqe.opcode == 0x08 && e.2.fn == x.fn && decide (e.2.fetchOrd < x.fetchOrd)).length
    (32 ≤ n → ∃ t, exec (.abort c) s = .next t ∧ s.answered t c x stAbortLimit ∧ t = { s.sample 7 with qen := { s.qen with ctxs := t.qen.ctxs } }) ∧
    (n < 32 → (∀ k, s.namedQueue x = some k → ∀ e ∈ s.qen.ctxs, ¬(e.2.sqid = k ∧ e.2.sqe.cid.toNat = cdwBits x.sqe.cdw10 31 16 ∧ s.catchable e.1 e.2 = true)) →
      ∃ t, exec (.abort c) s = .next t ∧ Tbl.find? t.qen.ctxs c = some { x with state := .ready, status := 0, result := 1, accepted := false } ∧
        (∀ j, j ≠ c → Tbl.find? t.qen.ctxs j = Tbl.find? s.qen.ctxs j) ∧
        t.fld Fld.QEN_ABORT_CNT.MISSED = min (2 ^ Fld.QEN_ABORT_CNT.MISSED.width - 1) (s.fld Fld.QEN_ABORT_CNT.MISSED + 1) ∧
        t = { s.sample 7 with regf := t.regf, qen := { s.qen with ctxs := t.qen.ctxs } }) ∧
    (∀ k d y, n < 32 → s.namedQueue x = some k → d ≠ c →
      (s.qen.ctxs.find? fun e => e.2.sqid == k && e.2.sqe.cid.toNat == cdwBits x.sqe.cdw10 31 16 && s.catchable e.1 e.2) = some (d, y) →
      ∃ t z, exec (.abort c) s = .next t ∧ Tbl.find? t.qen.ctxs c = some z ∧ z.state = .ready ∧ z.status = 0 ∧ t.ended d stAborted ∧
        t.mxe.map = s.mxe.map ∧ t.mxe.nand = s.mxe.nand ∧ t.tnu = s.tnu ∧ t.power = s.power ∧ t.tbu = (s.sample 7).tbu ∧ t.qen.sqs = s.qen.sqs ∧ t.qen.cqs = s.qen.cqs)

/-- R93, R98, R100, R135, R528: creating a queue enters it empty with the size, base, class, vector and queue its command names, for an identifier of the slice's range; what the command names wrongly refuses it; deleting one removes it, the completion queue only when no submission queue uses it, the submission queue once its commands have ended. -/
def Obligations.QueueCommandsCreateAndDeleteQueues : Prop :=
  (∀ (s : State) (c k sl cq : Nat) (x : Ctx) (m : Option Nat), s.adminCtx c 0x01 = some x → s.power.stage = .hall →
    s.queueNo x.fn (cdwBits x.sqe.cdw10 15 0) = some (k, sl) → Tbl.has s.qen.sqs k = false → 1 ≤ cdwBits x.sqe.cdw10 31 16 → x.sqe.cdw11.getLsbD 0 = true →
    s.queueNo x.fn (cdwBits x.sqe.cdw11 31 16) = some (cq, sl) → Tbl.has s.qen.cqs cq = true →
    ∃ t q, exec (.createIoSubmissionQueue c m) s = .next t ∧ Tbl.find? t.qen.sqs k = some q ∧ s.answered t c x 0 ∧ q.fn = x.fn ∧ q.slice = sl ∧ q.cq = cq ∧
      q.size = cdwBits x.sqe.cdw10 31 16 + 1 ∧ q.base = x.sqe.dptr.toNat % 2 ^ 64 ∧ q.head = 0 ∧ q.tail = 0 ∧ q.arrivals = [] ∧ q.cmb = m ∧
      (t.sqClass q = .urgent ↔ (if (s.qen.ctrl x.fn).wrr then cdwBits x.sqe.cdw11 2 1 else s.obj Ob.DEFAULT_CLASS) = 0) ∧
      (t.sqClass q = .high ↔ (if (s.qen.ctrl x.fn).wrr then cdwBits x.sqe.cdw11 2 1 else s.obj Ob.DEFAULT_CLASS) = 1) ∧
      (t.sqClass q = .normal ↔ (if (s.qen.ctrl x.fn).wrr then cdwBits x.sqe.cdw11 2 1 else s.obj Ob.DEFAULT_CLASS) = 2) ∧
      (∀ j, j ≠ k → Tbl.find? t.qen.sqs j = Tbl.find? s.qen.sqs j) ∧ t = { s with qen := { s.qen with ctxs := t.qen.ctxs, sqs := t.qen.sqs } }) ∧
  (∀ (s : State) (c k sl : Nat) (x : Ctx), s.adminCtx c 0x05 = some x → s.power.stage = .hall →
    s.queueNo x.fn (cdwBits x.sqe.cdw10 15 0) = some (k, sl) → Tbl.has s.qen.cqs k = false → 1 ≤ cdwBits x.sqe.cdw10 31 16 → x.sqe.cdw11.getLsbD 0 = true →
    ((x.sqe.cdw11.getLsbD 1 = false ∨ s.vectorOk sl (cdwBits x.sqe.cdw11 31 16) = true) →
      ∃ t q, exec (.createIoCompletionQueue c) s = .next t ∧ Tbl.find? t.qen.cqs k = some q ∧ s.answered t c x 0 ∧ q.fn = x.fn ∧ q.slice = sl ∧
        q.size = cdwBits x.sqe.cdw10 31 16 + 1 ∧ q.base = x.sqe.dptr.toNat % 2 ^ 64 ∧ q.head = 0 ∧ q.tail = 0 ∧ q.phase = true ∧
        q.vec = cdwBits x.sqe.cdw11 31 16 ∧ q.ien = x.sqe.cdw11.getLsbD 1 ∧
        (∀ j, j ≠ k → Tbl.find? t.qen.cqs j = Tbl.find? s.qen.cqs j) ∧ t = { s with qen := { s.qen with ctxs := t.qen.ctxs, cqs := t.qen.cqs } }) ∧
    (x.sqe.cdw11.getLsbD 1 = true → s.vectorOk sl (cdwBits x.sqe.cdw11 31 16) = false →
      ∃ t, exec (.createIoCompletionQueue c) s = .next t ∧ s.answered t c x stVectorInvalid ∧ t = { s with qen := { s.qen with ctxs := t.qen.ctxs } })) ∧
  (∀ (s : State) (c st : Nat) (x : Ctx) (i : Instr), s.power.stage = .hall →
    ((∃ m, i = .createIoSubmissionQueue c m ∧ s.adminCtx c 0x01 = some x ∧ ((s.queueNo x.fn (cdwBits x.sqe.cdw10 15 0) = none ∧ st = stQidInvalid)
        ∨ ∃ k sl, s.queueNo x.fn (cdwBits x.sqe.cdw10 15 0) = some (k, sl) ∧ ((Tbl.has s.qen.sqs k = true ∧ st = stQidInvalid)
          ∨ (Tbl.has s.qen.sqs k = false ∧ cdwBits x.sqe.cdw10 31 16 = 0 ∧ st = stQsizeInvalid)
          ∨ (Tbl.has s.qen.sqs k = false ∧ cdwBits x.sqe.cdw10 31 16 ≠ 0 ∧ x.sqe.cdw11.getLsbD 0 = false ∧ st = stInvalidField)
          ∨ (Tbl.has s.qen.sqs k = false ∧ cdwBits x.sqe.cdw10 31 16 ≠ 0 ∧ x.sqe.cdw11.getLsbD 0 = true ∧ s.queueNo x.fn (cdwBits x.sqe.cdw11 31 16) = none ∧ st = stCqInvalid))))
      ∨ (i = .createIoCompletionQueue c ∧ s.adminCtx c 0x05 = some x ∧ ((s.queueNo x.fn (cdwBits x.sqe.cdw10 15 0) = none ∧ st = stQidInvalid)
        ∨ ∃ k sl, s.queueNo x.fn (cdwBits x.sqe.cdw10 15 0) = some (k, sl) ∧ ((Tbl.has s.qen.cqs k = true ∧ st = stQidInvalid)
          ∨ (Tbl.has s.qen.cqs k = false ∧ cdwBits x.sqe.cdw10 31 16 = 0 ∧ st = stQsizeInvalid)
          ∨ (Tbl.has s.qen.cqs k = false ∧ cdwBits x.sqe.cdw10 31 16 ≠ 0 ∧ x.sqe.cdw11.getLsbD 0 = false ∧ st = stInvalidField))))) →
    ∃ t, exec i s = .next t ∧ s.answered t c x st ∧ t = { s with qen := { s.qen with ctxs := t.qen.ctxs } }) ∧
  (∀ (s : State) (c k : Nat) (x : Ctx), s.adminCtx c 0x04 = some x → s.power.stage = .hall → s.namedQueue x = some k → Tbl.has s.qen.cqs k = true → k < 4096 →
    ((∀ e ∈ s.qen.sqs, e.2.cq ≠ k) → ∃ t, exec (.deleteIoCompletionQueue c) s = .next t ∧ s.answered t c x 0 ∧ Tbl.find? t.qen.cqs k = none ∧
      (∀ j, j ≠ k → Tbl.find? t.qen.cqs j = Tbl.find? s.qen.cqs j) ∧ t = { s with qen := { s.qen with ctxs := t.qen.ctxs, cqs := t.qen.cqs } }) ∧
    ((∃ e ∈ s.qen.sqs, e.2.cq = k) → ∃ t, exec (.deleteIoCompletionQueue c) s = .next t ∧ s.answered t c x stQueueDeletion ∧ t = { s with qen := { s.qen with ctxs := t.qen.ctxs } })) ∧
  (∀ (s : State) (c k : Nat) (x : Ctx), s.adminCtx c 0x00 = some x → s.power.stage = .hall → s.namedQueue x = some k → Tbl.has s.qen.sqs k = true → k < 4096 →
    ((∀ e ∈ s.qen.ctxs, e.2.admin = false → e.2.sqid ≠ k) →
      ∃ t y, exec (.deleteIoSubmissionQueue c) s = .next t ∧ Tbl.find? t.qen.ctxs c = some y ∧ Tbl.find? t.qen.sqs k = none ∧ y.state = .ready ∧ y.status = 0 ∧
        t.qen.cqs = s.qen.cqs ∧ t.mxe.map = s.mxe.map ∧ t.tnu = s.tnu ∧ t.power = s.power ∧ t.tbu = s.tbu) ∧
    (∀ q, Tbl.find? s.qen.sqs k = some q → (∃ e ∈ s.qen.ctxs, e.2.admin = false ∧ e.2.sqid = k) → (∀ e ∈ s.qen.ctxs, e.2.sqid = k → s.catchable e.1 e.2 = false) →
      ∃ t, exec (.deleteIoSubmissionQueue c) s = .next t ∧ Tbl.find? t.qen.sqs k = some { q with deleting := true, arrivals := [] } ∧
        Tbl.find? t.qen.ctxs c = some { x with accepted := true, waits := [k] } ∧ t = { s with qen := { s.qen with ctxs := t.qen.ctxs, sqs := t.qen.sqs } }))

/-- R43, R77, R93, R483, R527: Identify, Get Log Page and Get Features return their data, at the places of the data pointer, and change nothing but the completion (and the events that the page re-arms); a selection that is not served and a bad pointer are refused. Field positions are those of notes/assumptions/10.md. -/
def Obligations.IdentifyLogsAndFeaturesAreReported : Prop :=
  (∀ (s : State) (c : Nat) (x : Ctx), s.adminCtx c 0x06 = some x → (s.power.stage = .hall ∨ s.power.adminOpen = true) →
    (s.identifyData x = none → ∃ t, exec (.identify c) s = .next t ∧ s.answered t c x stInvalidField ∧ t = { s with qen := { s.qen with ctxs := t.qen.ctxs } }) ∧
    (∀ d, s.identifyData x = some d → x.status ≠ 0 → ∃ t, exec (.identify c) s = .next t ∧ t.ended c x.status ∧ t.mxe = s.mxe ∧ t.power = s.power) ∧
    (∀ d, s.identifyData x = some d → x.status = 0 → x.list = none → (s.hlu.fn x.fn).ats = false → s.hlu.ready = true →
      ∃ t, exec (.identify c) s = .next t ∧ s.answered t c x 0 ∧ t.out = .pageData c (cdwBits x.sqe.cdw10 7 0) x.fn x.parts d :: s.out ∧
        t = { s with out := t.out, qen := { s.qen with ctxs := t.qen.ctxs } }) ∧
    (cdwBits x.sqe.cdw10 7 0 = 1 → ∃ d, s.identifyData x = some d ∧ d.length = 4096 ∧ leNat ((d.drop 4).take 20) = spacePad 20 (s.obj Ob.SERIAL)) ∧
    (∀ n, cdwBits x.sqe.cdw10 7 0 = 0 → s.mxe.ns? x.sqe.nsid.toNat = some n → n.nsze < 2 ^ 64 → n.attached = true → s.sliceOn n.slice x.fn = true →
      ∃ d, s.identifyData x = some d ∧ d.length = 4096 ∧ leNat (d.take 8) = n.nsze)) ∧
  (∀ (s : State) (c : Nat) (x : Ctx), s.adminCtx c 0x02 = some x →
    (∀ d, s.power.stage = .hall → s.logPage x (cdwBits x.sqe.cdw10 7 0) = some d → x.bytes ≤ 2 * 2 ^ 20 → x.status = 0 → x.list = none →
      (s.hlu.fn x.fn).ats = false → s.hlu.ready = true → ∃ t, exec (.getLogPage c) s = .next t ∧ s.answered t c x 0 ∧
      t.out = .pageData c (cdwBits x.sqe.cdw10 7 0) x.fn x.parts (pagePart x d) :: s.out ∧
      (pagePart x d).length = 4 * (cdwBits x.sqe.cdw10 31 16 + 65536 * cdwBits x.sqe.cdw11 15 0 + 1) ∧
      (x.sqe.cdw10.getLsbD 15 = true → t.qen.ctrls = s.qen.ctrls) ∧
      (x.sqe.cdw10.getLsbD 15 = false → (t.qen.ctrl x.fn).masked = (s.qen.ctrl x.fn).masked.filter (· != logEventType (cdwBits x.sqe.cdw10 7 0))) ∧
      t = { s with out := t.out, qen := { s.qen with ctxs := t.qen.ctxs, ctrls := t.qen.ctrls } }) ∧
    (s.power.stage = .hall → s.logPage x (cdwBits x.sqe.cdw10 7 0) = none → ∃ t, exec (.getLogPage c) s = .next t ∧ s.answered t c x stLogPage ∧ t = { s with qen := { s.qen with ctxs := t.qen.ctxs } }) ∧
    (s.power.stage = .stair → s.power.adminOpen = true → cdwBits x.sqe.cdw10 7 0 ≠ 1 → cdwBits x.sqe.cdw10 7 0 ≠ 3 →
      ∃ t, exec (.getLogPage c) s = .next t ∧ s.answered t c x stNotReady ∧ t = { s with qen := { s.qen with ctxs := t.qen.ctxs } })) ∧
  (∀ (s : State) (c : Nat) (x : Ctx), s.adminCtx c 0x0A = some x → s.power.stage = .hall →
    (∀ v, s.featureOf x.fn (cdwBits x.sqe.cdw10 7 0) = some v →
      ∃ t, exec (.getFeatures c) s = .next t ∧ Tbl.find? t.qen.ctxs c = some { x with state := .ready, status := 0, result := BitVec.ofNat 32 v, accepted := false } ∧
        (∀ j, j ≠ c → Tbl.find? t.qen.ctxs j = Tbl.find? s.qen.ctxs j) ∧ t = { s with qen := { s.qen with ctxs := t.qen.ctxs } }) ∧
    (s.featureOf x.fn (cdwBits x.sqe.cdw10 7 0) = none → ∃ t, exec (.getFeatures c) s = .next t ∧ s.answered t c x stInvalidField ∧ t = { s with qen := { s.qen with ctxs := t.qen.ctxs } }))

/-- R99, R108, R111, R125, R126, R231, R355: each Set Features command sets its feature alone; a power state that is not pending takes effect at once with its completion waiting, a non-operational one becomes the pending entry; Autonomous Power State Transition first takes buffers for its table and, the table read, sets it; thresholds that do not rise are refused. Field positions are those of notes/assumptions/10.md. -/
def Obligations.SetFeaturesSetsItsFeature : Prop :=
  (∀ (s : State) (c : Nat) (x : Ctx), s.apstCtx c = some x → ∃ t k, exec (.setFeaturesPowerManagement c) s = .next t ∧ Tbl.find? t.qen.ctrls x.fn = some k ∧ t.ended c 0 ∧
    k.apste = x.sqe.cdw11.getLsbD 0 ∧ k.apst = s.apstTable x ∧ t.mxe = s.mxe ∧ t.power = s.power ∧ t.qen.ps = s.qen.ps) ∧
  ∀ (s : State) (c : Nat) (x : Ctx), s.adminCtx c 0x09 = some x → s.power.stage = .hall →
    (cdwBits x.sqe.cdw10 7 0 = 0x01 → ∃ t, exec (.setFeaturesArbitration c) s = .next t ∧ s.answered t c x 0 ∧
      Tbl.find? t.qen.ctrls x.fn = some { s.qen.ctrl x.fn with
        burst := cdwBits x.sqe.cdw11 2 0, lpw := cdwBits x.sqe.cdw11 15 8, mpw := cdwBits x.sqe.cdw11 23 16, hpw := cdwBits x.sqe.cdw11 31 24 } ∧
      (∀ f, f ≠ x.fn → Tbl.find? t.qen.ctrls f = Tbl.find? s.qen.ctrls f) ∧ t = { s with qen := { s.qen with ctxs := t.qen.ctxs, ctrls := t.qen.ctrls } }) ∧
    (cdwBits x.sqe.cdw10 7 0 = 0x02 → cdwBits x.sqe.cdw11 4 0 ≤ 2 → s.qen.entryPend = none → ∃ t, exec (.setFeaturesPowerManagement c) s = .next t ∧
      Tbl.find? t.qen.ctxs c = some { x with accepted := true } ∧ (∀ j, j ≠ c → Tbl.find? t.qen.ctxs j = Tbl.find? s.qen.ctxs j) ∧
      t = { s with qen := { s.qen with ctxs := t.qen.ctxs, ps := cdwBits x.sqe.cdw11 4 0, lastOp := cdwBits x.sqe.cdw11 4 0, exitSince := none, psPost := s.qen.psPost ++ [c] } }) ∧
    (cdwBits x.sqe.cdw10 7 0 = 0x02 → (cdwBits x.sqe.cdw11 4 0 = 3 ∨ cdwBits x.sqe.cdw11 4 0 = 4) → s.qen.entryPend = none → ∃ t, exec (.setFeaturesPowerManagement c) s = .next t ∧
      Tbl.find? t.qen.ctxs c = some { x with accepted := true } ∧ (∀ j, j ≠ c → Tbl.find? t.qen.ctxs j = Tbl.find? s.qen.ctxs j) ∧
      t = { s with qen := { s.qen with ctxs := t.qen.ctxs, entryPend := some { ps := cdwBits x.sqe.cdw11 4 0, ctx := some c } } }) ∧
    (4 < cdwBits x.sqe.cdw11 4 0 → cdwBits x.sqe.cdw10 7 0 = 0x02 → ∃ t, exec (.setFeaturesPowerManagement c) s = .next t ∧ s.answered t c x stInvalidField ∧ t = { s with qen := { s.qen with ctxs := t.qen.ctxs } }) ∧
    (∀ u hs, cdwBits x.sqe.cdw10 7 0 = 0x0C → x.status = 0 → x.list = none → s.takeBufs UnitNo.qen none (pieceSizes x.bytes) none = some (u, hs) →
      ∃ t, exec (.setFeaturesPowerManagement c) s = .next t ∧ Tbl.find? t.qen.ctxs c = some { x with state := .dataIn, bufs := hs, pi := .pass } ∧
        (∀ k, k ≠ c → Tbl.find? t.qen.ctxs k = Tbl.find? s.qen.ctxs k) ∧
        t = { s with out := t.out, regf := t.regf, hlu := t.hlu, qen := { s.qen with ctxs := t.qen.ctxs }, bpm := u.bpm }) ∧
    (cdwBits x.sqe.cdw10 7 0 = 0x06 → ∃ t, exec (.setFeaturesVolatileWriteCache c) s = .next t ∧ s.answered t c x 0 ∧
      t = { s with qen := { s.qen with ctxs := t.qen.ctxs, wce := x.sqe.cdw11.getLsbD 0 } }) ∧
    (cdwBits x.sqe.cdw10 7 0 = 0x08 → ∃ t, exec (.setFeaturesInterruptCoalescing c) s = .next t ∧ s.answered t c x 0 ∧
      Tbl.find? t.qen.ctrls x.fn = some { s.qen.ctrl x.fn with coalThr := cdwBits x.sqe.cdw11 7 0, coalTime := cdwBits x.sqe.cdw11 15 8 } ∧
      (∀ f, f ≠ x.fn → Tbl.find? t.qen.ctrls f = Tbl.find? s.qen.ctrls f) ∧ t = { s with qen := { s.qen with ctxs := t.qen.ctxs, ctrls := t.qen.ctrls } }) ∧
    (cdwBits x.sqe.cdw10 7 0 = 0x10 → (cdwBits x.sqe.cdw11 31 16 = 0 ∨ cdwBits x.sqe.cdw11 15 0 = 0 ∨ cdwBits x.sqe.cdw11 31 16 < cdwBits x.sqe.cdw11 15 0) →
      ∃ t, exec (.setFeaturesHctm c) s = .next t ∧ s.answered t c x 0 ∧
        t = { s with qen := { s.qen with ctxs := t.qen.ctxs, tmt1 := cdwBits x.sqe.cdw11 31 16, tmt2 := cdwBits x.sqe.cdw11 15 0 } }) ∧
    (cdwBits x.sqe.cdw10 7 0 = 0x10 → cdwBits x.sqe.cdw11 31 16 ≠ 0 → cdwBits x.sqe.cdw11 15 0 ≠ 0 → cdwBits x.sqe.cdw11 15 0 ≤ cdwBits x.sqe.cdw11 31 16 →
      ∃ t, exec (.setFeaturesHctm c) s = .next t ∧ s.answered t c x stInvalidField ∧ t = { s with qen := { s.qen with ctxs := t.qen.ctxs } }) ∧
    (cdwBits x.sqe.cdw10 7 0 = 0x0B → ∃ t, exec (.setFeaturesCriticalWarnings c) s = .next t ∧ s.answered t c x 0 ∧
      Tbl.find? t.qen.ctrls x.fn = some { s.qen.ctrl x.fn with aenCfg := x.sqe.cdw11 } ∧
      (∀ f, f ≠ x.fn → Tbl.find? t.qen.ctrls f = Tbl.find? s.qen.ctrls f) ∧ t = { s with qen := { s.qen with ctxs := t.qen.ctxs, ctrls := t.qen.ctrls } })

/-- R113, R479: an Asynchronous Event Request waits while its function has no event, takes the oldest pending event otherwise, and is refused beyond 16 outstanding. -/
def Obligations.EventRequestsWaitForTheirEvent : Prop :=
  ∀ (s : State) (c : Nat) (x : Ctx), s.adminCtx c 0x0C = some x → s.power.stage = .hall →
    let n := (s.qen.ctxs.filter fun e => e.2.admin && e.2.accepted && e.2.sqe.opcode == 0x0C && e.2.fn == x.fn).length
    (16 ≤ n → ∃ t, exec (.asynchronousEventRequest c) s = .next t ∧ s.answered t c x stAerLimit ∧ t = { s with qen := { s.qen with ctxs := t.qen.ctxs } }) ∧
    (n < 16 → (s.qen.ctrl x.fn).events = [] → ∃ t, exec (.asynchronousEventRequest c) s = .next t ∧ Tbl.find? t.qen.ctxs c = some { x with accepted := true } ∧
      (∀ j, j ≠ c → Tbl.find? t.qen.ctxs j = Tbl.find? s.qen.ctxs j) ∧ t = { s with qen := { s.qen with ctxs := t.qen.ctxs } }) ∧
    (∀ e es, n = 0 → (s.qen.ctrl x.fn).events = e :: es → ∃ t, exec (.asynchronousEventRequest c) s = .next t ∧
      Tbl.find? t.qen.ctxs c = some { x with state := .ready, status := 0, result := e.dw0, accepted := false } ∧
      (t.qen.ctrl x.fn).events = es ∧ (t.qen.ctrl x.fn).masked = e.ty :: (s.qen.ctrl x.fn).masked ∧
      (∀ j, j ≠ c → Tbl.find? t.qen.ctxs j = Tbl.find? s.qen.ctxs j) ∧ t = { s with qen := { s.qen with ctxs := t.qen.ctxs, ctrls := t.qen.ctrls } })

/-- R136, R183, R186, R344: Namespace Management creates a detached namespace of slice 0 under the lowest free NSID and reports it, and deletes one with every granule unmapped and its lost extents gone; Namespace Attachment moves ownership to a slice or detaches; the enabled controllers that a change concerns list it, and one that names no namespace is refused. -/
def Obligations.NamespacesAreCreatedDeletedAndAttached : Prop :=
  (∀ (s : State) (c nsid : Nat) (x : Ctx) (p : NamespaceSpec), s.adminCtx c 0x0D = some x → s.power.stage = .hall →
    (cdwBits x.sqe.cdw10 3 0 = 0 → 1 ≤ nsid → nsid ≤ 1024 → Tbl.has s.mxe.nss nsid = false → (∀ j, 1 ≤ j → j < nsid → Tbl.has s.mxe.nss j = true) → p.lbaf ≤ 4 →
      (p.granule = 4 ∨ p.granule = 16 ∨ p.granule = 64) →
      s.capacityOk (Tbl.put s.mxe.nss nsid { nsze := p.nsze, lbaf := p.lbaf, granule := p.granule, keySlot := p.keySlot, qlc := p.cellQlc, slice := 0, attached := false, readOnly := false }) = true →
      ∃ t, exec (.namespaceManagement c p) s = .next t ∧ Tbl.find? t.mxe.nss nsid =
          some { nsze := p.nsze, lbaf := p.lbaf, granule := p.granule, keySlot := p.keySlot, qlc := p.cellQlc, slice := 0, attached := false, readOnly := false } ∧
        (∀ j, j ≠ nsid → Tbl.find? t.mxe.nss j = Tbl.find? s.mxe.nss j) ∧
        Tbl.find? t.qen.ctxs c = some { x with state := .ready, status := 0, result := BitVec.ofNat 32 nsid, accepted := false } ∧
        (∀ j, j ≠ c → Tbl.find? t.qen.ctxs j = Tbl.find? s.qen.ctxs j) ∧ t = { s with qen := { s.qen with ctxs := t.qen.ctxs }, mxe := { s.mxe with nss := t.mxe.nss } }) ∧
    (∀ n, cdwBits x.sqe.cdw10 3 0 = 1 → s.namedNss x.sqe.nsid = [(nsid, n)] → 1 ≤ nsid → ∃ t, exec (.namespaceManagement c p) s = .next t ∧
      Tbl.find? t.qen.ctxs c = some { x with state := .ready, status := 0, accepted := false } ∧
      ((s.qen.ctrl (s.sliceObj Ob.FUNC n.slice)).en = false → s.answered t c x 0 ∧ t.qen.ctrls = s.qen.ctrls) ∧
      Tbl.find? t.mxe.nss nsid = none ∧ (∀ j, j ≠ nsid → Tbl.find? t.mxe.nss j = Tbl.find? s.mxe.nss j) ∧ (∀ g, g < 2 ^ 40 → t.mxe.entry nsid g = MapEntry.unmapped) ∧
      (∀ e ∈ t.spe.lel, e.nsid ≠ nsid) ∧ (∀ e, e ∈ s.spe.lel → e.nsid ≠ nsid → e ∈ t.spe.lel) ∧ t.mxe.nand = s.mxe.nand ∧
      t = { s with qen := { s.qen with ctxs := t.qen.ctxs, ctrls := t.qen.ctrls }, mxe := t.mxe, spe := t.spe }) ∧
    (cdwBits x.sqe.cdw10 3 0 = 1 → s.namedNss x.sqe.nsid = [] → ∃ t, exec (.namespaceManagement c p) s = .next t ∧ s.answered t c x stInvalidNs ∧ t = { s with qen := { s.qen with ctxs := t.qen.ctxs } }) ∧
    (2 ≤ cdwBits x.sqe.cdw10 3 0 → ∃ t, exec (.namespaceManagement c p) s = .next t ∧ s.answered t c x stInvalidField ∧ t = { s with qen := { s.qen with ctxs := t.qen.ctxs } })) ∧
  (∀ (s : State) (c : Nat) (x : Ctx) (n m : Namespace) (dst : Option Nat), s.adminCtx c 0x15 = some x → s.power.stage = .hall → Tbl.find? s.mxe.nss x.sqe.nsid.toNat = some n →
    m = (match dst with | some sl => { n with slice := sl, attached := true } | none => { n with attached := false }) →
    ∃ t, exec (.namespaceAttachment c dst) s = .next t ∧ Tbl.find? t.qen.ctxs c = some { x with state := .ready, status := 0, accepted := false } ∧
      Tbl.find? t.mxe.nss x.sqe.nsid.toNat = some m ∧ (∀ j, j ≠ x.sqe.nsid.toNat → Tbl.find? t.mxe.nss j = Tbl.find? s.mxe.nss j) ∧
      ((∀ k, (s.qen.ctrl k).en = false) → s.answered t c x 0 ∧ t.qen.ctrls = s.qen.ctrls) ∧
      t = { s with qen := { s.qen with ctxs := t.qen.ctxs, ctrls := t.qen.ctrls }, mxe := { s.mxe with nss := t.mxe.nss } }) ∧
  (∀ (s : State) (c : Nat) (x : Ctx) (dst : Option Nat), s.adminCtx c 0x15 = some x → s.power.stage = .hall → Tbl.find? s.mxe.nss x.sqe.nsid.toNat = none →
    ∃ t, exec (.namespaceAttachment c dst) s = .next t ∧ s.answered t c x stInvalidNs ∧ t = { s with qen := { s.qen with ctxs := t.qen.ctxs } })

/-- R93, R307, R344: Format NVM unmaps every granule of its namespace, sets the LBA format and, with Secure Erase 2, replaces its key; Sanitize unmaps every namespace, and either sends every user band on its way to be erased or replaces every key. New keys are free values (R303). -/
def Obligations.FormatAndSanitizeUnmapAndErase : Prop :=
  (∀ (s : State) (c nsid : Nat) (x : Ctx) (n : Namespace), s.adminCtx c 0x80 = some x → s.power.stage = .hall → s.namedNss x.sqe.nsid = [(nsid, n)] → 1 ≤ nsid →
    cdwBits x.sqe.cdw10 3 0 ≤ 4 → cdwBits x.sqe.cdw10 11 9 ≤ 2 →
    (n.lbaf = cdwBits x.sqe.cdw10 3 0 ∨ s.capacityOk (Tbl.put s.mxe.nss nsid (n.reformat (cdwBits x.sqe.cdw10 3 0))) = true) →
    ∃ t y, exec (.formatNvm c) s = .next t ∧ s.answered t c x 0 ∧ Tbl.find? t.mxe.nss nsid = some y ∧ y.lbaf = cdwBits x.sqe.cdw10 3 0 ∧ y.granule = n.granule ∧
      y.keySlot = n.keySlot ∧ y.slice = n.slice ∧ y.nsze = n.nsze * n.lbaBytes / y.lbaBytes ∧ (∀ g, g < 2 ^ 40 → t.mxe.entry nsid g = MapEntry.unmapped) ∧
      (∀ e ∈ t.spe.lel, e.nsid ≠ nsid) ∧ t.mxe.formatted = true ∧ t.mxe.nand = s.mxe.nand ∧ (cdwBits x.sqe.cdw10 11 9 ≠ 2 → t.cdx = s.cdx ∧ t.freeCnt = s.freeCnt) ∧
      (cdwBits x.sqe.cdw10 11 9 = 2 → Tbl.find? t.cdx.keys n.keySlot = some s.fresh ∧ (∀ k, k ≠ n.keySlot → Tbl.find? t.cdx.keys k = Tbl.find? s.cdx.keys k)) ∧
      t = { s with freeCnt := t.freeCnt, qen := { s.qen with ctxs := t.qen.ctxs }, mxe := t.mxe, cdx := { s.cdx with keys := t.cdx.keys }, spe := t.spe }) ∧
  (∀ (s : State) (c : Nat) (x : Ctx), s.adminCtx c 0x84 = some x → s.power.stage = .hall →
    (cdwBits x.sqe.cdw10 2 0 = 2 → ∃ t, exec (.sanitizeBlockErase c) s = .next t ∧ s.answered t c x 0 ∧
      (∀ k n g, Tbl.find? s.mxe.nss k = some n → 1 ≤ k → g < 2 ^ 40 → t.mxe.entry k g = MapEntry.unmapped) ∧
      (∀ b y, Tbl.find? t.mxe.bands b = some y → y.kind ≠ .system → y.state ≠ .opened ∧ y.state ≠ .closed ∧ (y.state = .closing → y.wanted = true)) ∧
      t.mxe.nss = s.mxe.nss ∧ t.mxe.sanitized = some x.sqe.cdw10 ∧
      t = { s with qen := { s.qen with ctxs := t.qen.ctxs }, mxe := t.mxe, spe := t.spe }) ∧
    (cdwBits x.sqe.cdw10 2 0 = 4 → ∃ t, exec (.sanitizeCryptoErase c) s = .next t ∧ s.answered t c x 0 ∧
      (∀ k n g, Tbl.find? s.mxe.nss k = some n → 1 ≤ k → g < 2 ^ 40 → t.mxe.entry k g = MapEntry.unmapped) ∧
      (∀ k, Tbl.has t.cdx.keys k = Tbl.has s.cdx.keys k) ∧ (∀ k, Tbl.has s.cdx.keys k = true → ∃ m, s.freeCnt ≤ m ∧ m < t.freeCnt ∧ Tbl.find? t.cdx.keys k = some (Config.freeNat m)) ∧
      t.mxe.bands.length = s.mxe.bands.length ∧ t.mxe.nss = s.mxe.nss ∧ t.mxe.sanitized = some x.sqe.cdw10 ∧
      t = { s with freeCnt := t.freeCnt, qen := { s.qen with ctxs := t.qen.ctxs }, mxe := t.mxe, cdx := { s.cdx with keys := t.cdx.keys }, spe := t.spe }))

/-- R45, R54, R120, R121, R122: an enabled controller has empty admin queues as AQA, ASQ and ACQ say and the features' defaults, and is ready in Hall, or in Stair with the admin subset open under CRIME; its reset drops its queues, its admin commands, a firmware download and an activation that drains for it, and leaves the map; a shutdown stops its I/O fetch and reports processing. -/
def Obligations.ControllersEnableResetAndShutDown : Prop :=
  (∀ (s : State) (fn : Nat) (crime wrr : Bool), (s.qen.ctrl fn).en = false → ∃ t a b, exec (.controllerEnable fn crime wrr) s = .next t ∧
    Tbl.find? t.qen.sqs (4096 + fn) = some a ∧ Tbl.find? t.qen.cqs (4096 + fn) = some b ∧
    Tbl.find? t.qen.ctrls fn = some { Controller.initial with
      mps := (s.qen.ctrl fn).mps, aqa := (s.qen.ctrl fn).aqa, asq := (s.qen.ctrl fn).asq, acq := (s.qen.ctrl fn).acq
      en := true, crime := crime, wrr := wrr, rdy := decide (s.power.stage = .hall) || (crime && s.power.adminOpen) } ∧
    a.fn = fn ∧ a.size = (s.qen.ctrl fn).aqa.toNat % 4096 + 1 ∧ a.base = (s.qen.ctrl fn).asq.toNat ∧ a.head = 0 ∧ a.tail = 0 ∧ a.arrivals = [] ∧ a.cq = 4096 + fn ∧
    b.fn = fn ∧ b.size = (s.qen.ctrl fn).aqa.toNat / 2 ^ 16 % 4096 + 1 ∧ b.base = (s.qen.ctrl fn).acq.toNat ∧ b.head = 0 ∧ b.tail = 0 ∧ b.phase = true ∧
    (∀ k, k ≠ 4096 + fn → Tbl.find? t.qen.sqs k = Tbl.find? s.qen.sqs k ∧ Tbl.find? t.qen.cqs k = Tbl.find? s.qen.cqs k) ∧
    (∀ f, f ≠ fn → Tbl.find? t.qen.ctrls f = Tbl.find? s.qen.ctrls f) ∧ t = { s with qen := { s.qen with ctrls := t.qen.ctrls, sqs := t.qen.sqs, cqs := t.qen.cqs } }) ∧
  (∀ (s : State) (fn : Nat), (s.qen.ctrl fn).en = true → ∃ t, exec (.controllerReset fn) s = .next t ∧
    Tbl.find? t.qen.ctrls fn = some { Controller.initial with
      mps := (s.qen.ctrl fn).mps, aqa := (s.qen.ctrl fn).aqa, asq := (s.qen.ctrl fn).asq, acq := (s.qen.ctrl fn).acq } ∧
    (∀ e ∈ t.qen.sqs, e.2.fn ≠ fn) ∧ (∀ e ∈ t.qen.cqs, e.2.fn ≠ fn) ∧ t.qen.staging = [] ∧ t.qen.stagingLen = 0 ∧ t.qen.wce = true ∧
    t.qen.act = (if s.activationOf fn then .none else s.qen.act) ∧
    (∀ c x, Tbl.find? s.qen.ctxs c = some x → x.fn = fn → x.win = none → x.admin = true → Tbl.find? t.qen.ctxs c = none) ∧
    t.mxe.map = s.mxe.map ∧ t.mxe.writes = s.mxe.writes ∧ t.mxe.nand = s.mxe.nand ∧ t.power = s.power ∧ t.tbu = s.tbu ∧ t.tnu = s.tnu ∧ t.csu = s.csu ∧ t.hum = s.hum) ∧
  (∀ (s : State) (fn shn : Nat), (s.qen.ctrl fn).en = true → (shn = 1 ∨ shn = 2) → ∃ t, exec (.shutdownNotification fn shn) s = .next t ∧
    Tbl.find? t.qen.ctrls fn = some { s.qen.ctrl fn with shn := shn, shst := 1 } ∧ (fn, shn) ∈ t.qen.shutting ∧
    (∀ f, f ≠ fn → Tbl.find? t.qen.ctrls f = Tbl.find? s.qen.ctrls f) ∧ t = { s with qen := { s.qen with ctrls := t.qen.ctrls, shutting := t.qen.shutting } })
/-! ## Takes, activation and rescue (spec/04, spec/16) -/

/-- R450, R451, Table 16.7: a download puts its bytes into the staging area; a Firmware Commit that may run writes the verified image to banks 1 and 2 as STAGED, one whose write fails leaves them EMPTY, and one that may not run ends with its status. -/
def Obligations.FirmwareCommandsStageAndCommitTakes : Prop :=
  (∀ (s : State) (c : Nat) (bytes : List Byte) (x : Ctx), s.adminCtx c 0x11 = some x → (s.power.stage = .hall ∨ s.power.adminOpen = true) →
    ((x.sqe.cdw10.toNat + 1) * 4 % 4096 = 0 → x.sqe.cdw11.toNat * 4 % 4096 = 0 → x.sqe.cdw11.toNat * 4 + (x.sqe.cdw10.toNat + 1) * 4 ≤ 16777216 →
      ∃ t, exec (.firmwareImageDownload c bytes) s = .next t ∧ s.answered t c x 0 ∧
        (∀ i b, i < (x.sqe.cdw10.toNat + 1) * 4 → bytes[i]? = some b → Memory.read 0 t.qen.staging (x.sqe.cdw11.toNat * 4 + i) = b) ∧
        (∀ a, (a < x.sqe.cdw11.toNat * 4 ∨ x.sqe.cdw11.toNat * 4 + (x.sqe.cdw10.toNat + 1) * 4 ≤ a) → Memory.read 0 t.qen.staging a = Memory.read 0 s.qen.staging a) ∧
        t.qen.stagingLen = max s.qen.stagingLen (x.sqe.cdw11.toNat * 4 + (x.sqe.cdw10.toNat + 1) * 4) ∧
        t = { s with qen := { s.qen with ctxs := t.qen.ctxs, staging := t.qen.staging, stagingLen := t.qen.stagingLen } }) ∧
    (((x.sqe.cdw10.toNat + 1) * 4 % 4096 ≠ 0 ∨ x.sqe.cdw11.toNat * 4 % 4096 ≠ 0 ∨ 16777216 < x.sqe.cdw11.toNat * 4 + (x.sqe.cdw10.toNat + 1) * 4) →
      ∃ t, exec (.firmwareImageDownload c bytes) s = .next t ∧ s.answered t c x stInvalidField ∧ t = { s with qen := { s.qen with ctxs := t.qen.ctxs } })) ∧
  (∀ (s : State) (c : Nat) (x : Ctx) (ok : Bool), s.adminCtx c 0x10 = some x → (s.power.stage = .hall ∨ s.power.adminOpen = true) →
    (∀ i, (i = .firmwareCommitReplace ⟨c, ok⟩ ∧ cdwBits x.sqe.cdw10 5 3 = 1 ∧ 1 < fwSlot x ∨ i = .firmwareCommitNextReset ⟨c, ok⟩ ∧ cdwBits x.sqe.cdw10 5 3 = 2 ∧ 2 < fwSlot x
        ∨ i = .firmwareCommitActivate ⟨c, ok⟩ ∧ cdwBits x.sqe.cdw10 5 3 = 3 ∧ 2 < fwSlot x) → ∃ t, exec i s = .next t ∧ s.answered t c x stFwSlot ∧ t = { s with qen := { s.qen with ctxs := t.qen.ctxs } }) ∧
    (∀ i, (i = .firmwareCommitReplace ⟨c, ok⟩ ∧ cdwBits x.sqe.cdw10 5 3 = 1 ∧ fwSlot x ≤ 1 ∨ i = .firmwareCommitNextReset ⟨c, ok⟩ ∧ cdwBits x.sqe.cdw10 5 3 = 2 ∧ fwSlot x = 2) →
      (s.fwProhibited = true → ∃ t, exec i s = .next t ∧ s.answered t c x stFwProhibited ∧ t = { s with qen := { s.qen with ctxs := t.qen.ctxs } }) ∧
      (s.fwProhibited = false → s.fwImage x = none → ∃ t, exec i s = .next t ∧ s.answered t c x stFwImage ∧ t = { s with qen := { s.qen with ctxs := t.qen.ctxs } }) ∧
      (∀ k, s.fwProhibited = false → s.fwImage x = some k → ok = true → ∃ t, exec i s = .next t ∧ s.answered t c x 0 ∧ t.csu.cfg.takeState = 1 ∧ t.csu.cfg.trials = 0 ∧
        t.csu.cfg.runningId = takeId k ∧ (∀ j b, k[j]? = some b → Memory.read 0xFF t.csu.flash (8388608 + j) = b) ∧ t.csu.runId = s.csu.runId ∧ t.csu.svn = s.csu.svn ∧
        (i = .firmwareCommitReplace ⟨c, ok⟩ → t.qen.stagingLen = 0) ∧
        t = { s with regf := t.regf, qen := { s.qen with ctxs := t.qen.ctxs, staging := t.qen.staging, stagingLen := t.qen.stagingLen }, csu := t.csu, cru := t.cru }) ∧
      (∀ k, s.fwProhibited = false → s.fwImage x = some k → ok = false → ∃ t, exec i s = .next t ∧ s.answered t c x stFwImage ∧ t.csu.cfg.takeState = 0 ∧
        t = { s with regf := t.regf, qen := { s.qen with ctxs := t.qen.ctxs }, csu := t.csu, cru := t.cru })) ∧
    (cdwBits x.sqe.cdw10 5 3 = 2 → fwSlot x ≤ 1 → s.fwProhibited = false → (s.csu.cfg.takeState = 1 ∨ s.csu.cfg.takeState = 3) →
      ∃ t, exec (.firmwareCommitNextReset ⟨c, ok⟩) s = .next t ∧ s.answered t c x 0 ∧ t = { s with qen := { s.qen with ctxs := t.qen.ctxs } }) ∧
    (cdwBits x.sqe.cdw10 5 3 = 3 → fwSlot x ≤ 1 → s.fwProhibited = false → s.qen.stagingLen = 0 → s.csu.cfg.takeState = 1 → takeScript s.csu.bankTake = s.csu.runScript →
      ∃ t, exec (.firmwareCommitActivate ⟨c, ok⟩) s = .next t ∧ t.qen.act = .draining ∧ t.qen.actTick = some s.now ∧ t.qen.actCtx = some c ∧ t = { s with qen := t.qen }) ∧
    (∀ k, cdwBits x.sqe.cdw10 5 3 = 3 → fwSlot x ≤ 2 → s.fwProhibited = false → s.qen.stagingLen ≠ 0 → s.fwImage x = some k →
      (takeScript k = s.csu.runScript → ok = true → ∃ t, exec (.firmwareCommitActivate ⟨c, ok⟩) s = .next t ∧ t.qen.act = .draining ∧ t.qen.actTick = some s.now ∧ t.qen.actCtx = some c ∧
        t.csu.cfg.takeState = 1 ∧ t.csu.cfg.runningId = takeId k ∧ Tbl.has t.qen.ctxs c = true ∧ t = { s with regf := t.regf, qen := t.qen, csu := t.csu, cru := t.cru }) ∧
      (takeScript k = s.csu.runScript → ok = false → ∃ t, exec (.firmwareCommitActivate ⟨c, ok⟩) s = .next t ∧ s.answered t c x stFwImage ∧ t.csu.cfg.takeState = 0 ∧
        t = { s with regf := t.regf, qen := { s.qen with ctxs := t.qen.ctxs }, csu := t.csu, cru := t.cru }) ∧
      (takeScript k ≠ s.csu.runScript → ∃ t, exec (.firmwareCommitActivate ⟨c, ok⟩) s = .next t ∧ s.answered t c x stFwReset ∧ t = { s with qen := { s.qen with ctxs := t.qen.ctxs } })))

/-- R122, R123, R454: an activation drains the fetched commands, then cuts to the new take by a stand-in or by a solo restart; ACT_DEADLINE clears itself and reports 1, 2 or 4. R452, R453, R455, R457: a PENDING take that is not confirmed in time gives way to the archive: in Stair at once, in Hall by a drain and a restart of both clusters; without an archive the running take is CONFIRMED, or the start is held. -/
def Obligations.ActivationsDrainAndUnconfirmedTakesFallBack : Prop :=
  (∀ s : State, s.power.stage = .hall → s.qen.act = .none → s.csu.cfg.takeState = 1 → takeScript s.csu.bankTake = s.csu.runScript →
    ∃ t, exec .firmwareActivation s = .next t ∧ t.qen.act = .draining ∧ t.qen.actTick = some s.now ∧ t.qen.actCtx = none ∧
      (∀ f k, Tbl.find? t.qen.ctrls f = some k → k.pp = true) ∧ t = { s with qen := t.qen }) ∧
  (∀ s : State, s.qen.act = .draining → (∀ e ∈ s.qen.ctxs, e.2.idle = true ∨ s.qen.actCtx = some e.1) → s.ccl.gap = none →
    (s.standbyReady = true → exec .activationDrainDone s = .next { s with qen := { s.qen with act := .cut }, ccl := { s.ccl with planned := some .activation } }) ∧
    (s.standbyReady = false → ∃ t g, exec .activationDrainDone s = .next t ∧ t.qen = { s.qen with act := .cut } ∧ t.ccl.gap = some g ∧ g.start = s.now ∧ g.cause = .activation ∧
      g.loser = s.ccl.owner ∧ g.solo = true ∧ t.ccl.epoch = s.ccl.epoch ∧ t.fca = { s.fca with gapHeld := true } ∧ t.mxe = s.mxe ∧ t.hlu = s.hlu)) ∧
  (∀ s : State, s.power.stage = .hall → s.obj Ob.ACT_DEADLINE ≠ 0 → s.obj Ob.ACT_DEADLINE ≤ s.tbu.fleet.toNat →
    ∃ t, exec .actDeadline s = .next t ∧ Tbl.getD t.sheet (sheetKey Ob.ACT_DEADLINE.idx Ob.ACT_DEADLINE.sub) 0 = 0 ∧
      Tbl.getD t.sheet (sheetKey Ob.ACT_RESULT.idx Ob.ACT_RESULT.sub) 0 =
        (if s.csu.cfg.takeState ≠ 1 then 2 else if takeScript s.csu.bankTake ≠ s.csu.runScript then 4 else 1) ∧
      (t.qen.act = if s.csu.cfg.takeState = 1 ∧ takeScript s.csu.bankTake = s.csu.runScript ∧ s.qen.act = .none then .draining else s.qen.act) ∧
      (∀ k, k ≠ sheetKey Ob.ACT_DEADLINE.idx Ob.ACT_DEADLINE.sub → k ≠ sheetKey Ob.ACT_RESULT.idx Ob.ACT_RESULT.sub → Tbl.find? t.sheet k = Tbl.find? s.sheet k) ∧
      t = { s with sheet := t.sheet, qen := t.qen }) ∧
  (∀ s : State, s.csu.cfg.takeState = 2 → s.power.stage = .stair → s.passedSome s.power.bootTick (secTicks 60 + msTicks s.hallBoundMs) = true →
    (∀ k, s.csu.archive = some k → ∃ t, exec .pendingTakeLimit s = .next t ∧ t.csu.cfg.takeState = 3 ∧ t.csu.cfg.runningId = takeId k ∧ t.csu.runId = takeId k ∧
      (∀ j b, k[j]? = some b → Memory.read 0xFF t.csu.flash (8388608 + j) = b) ∧ Tbl.getD t.sheet (sheetKey Ob.FALLBACK_COUNT.idx Ob.FALLBACK_COUNT.sub) 0 = min 0xFFFFFFFF (s.obj Ob.FALLBACK_COUNT + 1) ∧
      t.power = s.power ∧ t.mxe = s.mxe ∧ t.tbu = s.tbu) ∧
    (s.csu.archive = none → ∃ t, exec .pendingTakeLimit s = .next t ∧ t.csu.cfg.takeState = 4 ∧ t.power = { s.power with startKind := .held } ∧ t.sheet = s.sheet ∧
      t = { s with power := t.power, regf := t.regf, csu := t.csu, cru := t.cru })) ∧
  (∀ s : State, s.csu.cfg.takeState = 2 → s.power.stage = .hall → s.passedSome s.csu.window (secTicks (s.obj Ob.CONFIRM_S)) = true →
    (s.csu.archive.isSome = true → ∃ t, exec .confirmWindowExpiry s = .next t ∧ t.csu.cfg.takeState = 4 ∧ t.csu.window = none ∧ t.csu.fallback = some .draining ∧ t.qen.fetchStop = true ∧
      Tbl.getD t.sheet (sheetKey Ob.FALLBACK_COUNT.idx Ob.FALLBACK_COUNT.sub) 0 = min 0xFFFFFFFF (s.obj Ob.FALLBACK_COUNT + 1) ∧ t.power = s.power ∧ t.mxe = s.mxe ∧ t.hlu = s.hlu) ∧
    (s.csu.archive = none → ∃ t, exec .confirmWindowExpiry s = .next t ∧ t.csu.cfg.takeState = 3 ∧ t.csu.window = none ∧ t.csu.fallback = s.csu.fallback ∧ t.power = s.power ∧ t.mxe = s.mxe)) ∧
  (∀ s : State, s.csu.fallback = some .draining → (∀ e ∈ s.qen.ctxs, e.2.idle = true) → s.ccl.gap = none → ∃ t g, exec .fallbackReboot s = .next t ∧
    t.csu = { s.csu with fallback := some .restarting } ∧ t.ccl.gap = some g ∧ g.start = s.now ∧ g.cause = .fallback ∧ g.solo = true ∧ t.ccl.stA = .reset ∧ t.ccl.stB = .reset ∧
    t.ccl.leave = [.a, .b] ∧ t.ccl.epoch = s.ccl.epoch ∧ t.hlu = s.hlu ∧ t.mxe = s.mxe ∧ t.qen = s.qen ∧ t.power = s.power)

/-- R127, R128, R129, Tables 4.9 and 4.10: a task written while the rescue interface is idle is BUSY with its SEQ; every task but IDENT, accepted in Stair, opens a session and holds the start; a write while BUSY is ignored; what each task does as it ends, and its RESULT. -/
def Obligations.RescueTasksStartAndEndWithTheirResult : Prop :=
  (∀ (s : State) (seq : BitVec 8),
    (∀ i, (i = .rescueIdent seq ∨ i = .rescueLoad seq ∨ i = .rescueCommit seq ∨ i = .rescueRestore seq ∨ i = .rescueRestart seq) → s.qen.rescue.busy = true → exec i s = .next s) ∧
    (s.qen.rescue.busy = false → (s.qen.rescue.open_ = true ∨ s.power.stage = .hall) → ∃ t, exec (.rescueIdent seq) s = .next t ∧
      t.qen = { s.qen with rescue := { s.qen.rescue with busy := true, seq := seq, task := some .ident } } ∧
      t = { s.sample 9 with regf := t.regf, qen := t.qen }) ∧
    (∀ i, (i = .rescueIdent seq ∨ i = .rescueLoad seq ∨ i = .rescueCommit seq ∨ i = .rescueRestore seq ∨ i = .rescueRestart seq) →
      s.qen.rescue.open_ = false → s.power.stage ≠ .hall → exec i s = .next s) ∧
    (∀ i k, (i = .rescueLoad seq ∧ k = .load ∨ i = .rescueCommit seq ∧ k = .commit ∨ i = .rescueRestore seq ∧ k = .restore ∨ i = .rescueRestart seq ∧ k = .restart) →
      s.qen.rescue.busy = false → s.power.stage = .hall → ∃ t, exec i s = .next t ∧
        t.qen = { s.qen with rescue := { s.qen.rescue with busy := true, seq := seq, task := some k } } ∧ t = { s.sample 9 with regf := t.regf, qen := t.qen }) ∧
    (∀ i k, (i = .rescueLoad seq ∧ k = .load ∨ i = .rescueCommit seq ∧ k = .commit ∨ i = .rescueRestore seq ∧ k = .restore ∨ i = .rescueRestart seq ∧ k = .restart) →
      s.qen.rescue.busy = false → s.qen.rescue.open_ = true → s.power.stage = .stair → (s.csu.sealSt ≠ 2 ∨ k = .restart) → ∃ t, exec i s = .next t ∧
        t.qen = { s.qen with rescue := { s.qen.rescue with busy := true, seq := seq, task := some k, session := true } } ∧ t.power = { s.power with startKind := .held } ∧
        t = { s.sample 9 with power := t.power, regf := t.regf, qen := t.qen, cru := t.cru })) ∧
  (∀ (s : State) (ok : Bool),
    (s.qen.rescue.task = none → exec (.rescueTaskEnd ok) s = .next s) ∧
    (s.qen.rescue.task = some .ident → exec (.rescueTaskEnd ok) s = .next { s with qen := { s.qen with rescue := { s.qen.rescue with
      busy := false, task := none, result := 0, out0 := BitVec.ofNat 32 s.identOuts.1, out1 := BitVec.ofNat 32 s.identOuts.2 } } }) ∧
    (∀ k, s.qen.rescue.task = some k → k ≠ .ident → s.power.stage ≠ .stair → exec (.rescueTaskEnd ok) s = .next { s with qen := { s.qen with rescue := { s.qen.rescue with
      busy := false, task := none, result := 0x04, out0 := 0, out1 := 0 } } }) ∧
    (∀ k, s.qen.rescue.task = some k → k ≠ .ident → k ≠ .restart → s.power.stage = .stair → s.csu.sealSt = 2 →
      exec (.rescueTaskEnd ok) s = .next { s with qen := { s.qen with rescue := { s.qen.rescue with busy := false, task := none, result := 0x06, out0 := 0, out1 := 0 } } }) ∧
    (s.power.stage = .stair → s.csu.sealSt ≠ 2 →
      (s.qen.rescue.task = some .load → s.fld Fld.QEN_RSC_ARG0.VALUE % 65536 = 0 → s.fld Fld.QEN_RSC_ARG0.VALUE < 16777216 →
        s.fld Fld.QEN_RSC_ARG1.VALUE ≠ 0 → s.fld Fld.QEN_RSC_ARG1.VALUE ≤ 65536 → ∃ t, exec (.rescueTaskEnd ok) s = .next t ∧
          (∀ i, i < s.fld Fld.QEN_RSC_ARG1.VALUE → Memory.read 0 t.qen.staging (s.fld Fld.QEN_RSC_ARG0.VALUE + i) = Memory.read 0 s.qen.rescue.window i) ∧
          t.qen.stagingLen = max s.qen.stagingLen (s.fld Fld.QEN_RSC_ARG0.VALUE + s.fld Fld.QEN_RSC_ARG1.VALUE) ∧
          t = { s with qen := { s.qen with staging := t.qen.staging, stagingLen := t.qen.stagingLen, rescue := { s.qen.rescue with busy := false, task := none, result := 0, out0 := 0, out1 := 0 } } }) ∧
      (s.qen.rescue.task = some .commit → s.fld Fld.QEN_RSC_ARG0.VALUE ≠ 0 → s.fld Fld.QEN_RSC_ARG0.VALUE ≤ 16777216 →
        (s.csu.verifies (Memory.readN 0 s.qen.staging 0 (s.fld Fld.QEN_RSC_ARG0.VALUE)) = false → ∃ t, exec (.rescueTaskEnd ok) s = .next t ∧
          t.qen.rescue.result = 0x03 ∧ t.qen.rescue.busy = false ∧ t.qen.rescue.task = none ∧ t = { s with qen := { s.qen with rescue := t.qen.rescue } }) ∧
        (s.csu.verifies (Memory.readN 0 s.qen.staging 0 (s.fld Fld.QEN_RSC_ARG0.VALUE)) = true → ok = false → ∃ t, exec (.rescueTaskEnd ok) s = .next t ∧ t.csu.cfg.takeState = 0 ∧
          t.qen.rescue.result = 0x05 ∧ t.qen.rescue.busy = false ∧ t = { s with regf := t.regf, qen := { s.qen with rescue := t.qen.rescue }, csu := t.csu, cru := t.cru }) ∧
        (s.csu.verifies (Memory.readN 0 s.qen.staging 0 (s.fld Fld.QEN_RSC_ARG0.VALUE)) = true → ok = true → ∃ t, exec (.rescueTaskEnd ok) s = .next t ∧ t.csu.cfg.takeState = 1 ∧
          t.csu.cfg.runningId = takeId (Memory.readN 0 s.qen.staging 0 (s.fld Fld.QEN_RSC_ARG0.VALUE)) ∧ t.qen.rescue.result = 0 ∧ t.qen.rescue.busy = false ∧ t.qen.stagingLen = 0 ∧
          t = { s with regf := t.regf, qen := t.qen, csu := t.csu, cru := t.cru })) ∧
      (s.qen.rescue.task = some .restore → s.fld Fld.QEN_RSC_ARG0.VALUE ≤ 1 → s.csu.verifies (s.csu.archCopy (s.fld Fld.QEN_RSC_ARG0.VALUE)) = true → ok = true →
        ∃ t, exec (.rescueTaskEnd ok) s = .next t ∧ t.csu.cfg.takeState = 3 ∧ t.csu.cfg.runningId = takeId (s.csu.archCopy (s.fld Fld.QEN_RSC_ARG0.VALUE)) ∧
          t.qen.rescue.result = 0 ∧ t.qen.rescue.busy = false ∧ t = { s with regf := t.regf, qen := t.qen, csu := t.csu, cru := t.cru }) ∧
      (s.qen.rescue.task = some .restart → exec (.rescueTaskEnd ok) s = .next { s with
        qen := { s.qen with rescue := { s.qen.rescue with busy := false, task := none, session := false, result := 0, out0 := 0, out1 := 0 } }
        power := { s.power with startKind := .undecided, mapRestored := false } })))

/-! ## Code store (spec/16) -/

/-- R421, R438, R439, R444, R445, Table 16.4: a program or an erase that passes every check makes its port BUSY and its bank occupied, and the flash changes only at its end, which frees the bank; one that fails a check ends with the RESULT of the first; one on the sector that a slide moves waits; one with a wrong epoch is only counted; an erase may be suspended, a configuration sector's for 10 ms at most, and resumes once no read has come for 1 µs. What a failed program leaves in its page is free (log entry 6). -/
def Obligations.CodeStoreOperationsOccupyTheirBankUntilTheirEnd : Prop :=
  (∀ (s : State) (r : CsuRequest) (i : Instr) (p : Nat) (op : FlashOp) (w : Bool), s.epochOk r.epoch = true →
    ((i = .csuProgram r ∧ p = r.sector ∧ r.sector < 1536 ∧ op = .program (16384 * p + 256 * r.page) (s.pageBuf r.cluster) ∧ w = false)
      ∨ (i = .csuErase r ∧ p = r.sector ∧ r.sector < 1536 ∧ op = .erase p ∧ w = false)
      ∨ (i = .wprogram r ∧ s.slideHolds r.sector = false ∧ r.sector < 63 ∧ p = windowSector s.csu.cfg.winBase r.sector ∧ op = .program (16384 * p + 256 * r.page) (s.pageBuf r.cluster) ∧ w = true)
      ∨ (i = .werase r ∧ s.slideHolds r.sector = false ∧ r.sector < 63 ∧ p = windowSector s.csu.cfg.winBase r.sector ∧ op = .erase p ∧ w = true)) →
    r.page < 64 →
    (fetchBank r.fetchAt ≠ some (p / 512) → s.csu.wp.getLsbD p = false → Tbl.has s.csu.banks (p / 512) = false → s.csu.banks.length < 2 → ∃ t, exec i s = .next t ∧
      Tbl.find? t.csu.banks (p / 512) = some { cluster := some r.cluster, op := op, suspended := false, readAt := s.now, window := w } ∧
      (∀ b, b ≠ p / 512 → Tbl.find? t.csu.banks b = Tbl.find? s.csu.banks b) ∧ (t.csu.port r.cluster).busy = true ∧ t.csu.flash = s.csu.flash ∧ t.csu.wp = s.csu.wp ∧
      t = { s with regf := t.regf, csu := { s.csu with banks := t.csu.banks, portA := t.csu.portA, portB := t.csu.portB, loaders := t.csu.loaders } }) ∧
    (∀ res, ((fetchBank r.fetchAt = some (p / 512) ∧ res = 1) ∨ (fetchBank r.fetchAt ≠ some (p / 512) ∧ s.csu.wp.getLsbD p = true ∧ res = 2)
        ∨ (fetchBank r.fetchAt ≠ some (p / 512) ∧ s.csu.wp.getLsbD p = false ∧ (Tbl.has s.csu.banks (p / 512) = true ∨ 2 ≤ s.csu.banks.length) ∧ res = 3)) →
      ∃ t, exec i s = .next t ∧ (t.csu.port r.cluster).result = res ∧ (t.csu.port r.cluster).busy = (s.csu.port r.cluster).busy ∧
      t.csu.banks = s.csu.banks ∧ t.csu.flash = s.csu.flash ∧
      t = { s with regf := t.regf, csu := { s.csu with portA := t.csu.portA, portB := t.csu.portB, loaders := t.csu.loaders } })) ∧
  (∀ (s : State) (r : CsuRequest) (i : Instr),
    (s.epochOk r.epoch = true → ((i = .csuProgram r ∧ (1536 ≤ r.sector ∨ 64 ≤ r.page)) ∨ (i = .csuErase r ∧ (1536 ≤ r.sector ∨ 64 ≤ r.page))
        ∨ (i = .wprogram r ∧ s.slideHolds r.sector = false ∧ (63 ≤ r.sector ∨ 64 ≤ r.page)) ∨ (i = .werase r ∧ s.slideHolds r.sector = false ∧ (63 ≤ r.sector ∨ 64 ≤ r.page))) →
      ∃ t, exec i s = .next t ∧ (t.csu.port r.cluster).result = 4 ∧ t.csu.banks = s.csu.banks ∧ t.csu.flash = s.csu.flash ∧
        t = { s with regf := t.regf, csu := { s.csu with portA := t.csu.portA, portB := t.csu.portB, loaders := t.csu.loaders } }) ∧
    (∀ e, ((i = .wprogram r ∧ e = false) ∨ (i = .werase r ∧ e = true)) → s.slideHolds r.sector = true → s.epochOk r.epoch = true →
      exec i s = .next { s with csu := { s.csu with winHeld := s.csu.winHeld ++ [(r, e)] } }) ∧
    ((i = .csuProgram r ∨ i = .csuErase r ∨ i = .wprogram r ∨ i = .werase r ∨ i = .loaderCopy r) → s.epochOk r.epoch = false →
      ∃ t, exec i s = .next t ∧ t.csu = s.csu ∧ t.ccl = s.ccl ∧
        t.fld Fld.CCL_CUT_CNT.REFUSED = min (2 ^ Fld.CCL_CUT_CNT.REFUSED.width - 1) (s.fld Fld.CCL_CUT_CNT.REFUSED + 1) ∧ t = { s with regf := t.regf, cru := t.cru })) ∧
  (∀ (s : State) (bank : Nat) (o : BankOp) (k : Cluster), Tbl.find? s.csu.banks bank = some o → o.suspended = false → o.cluster = some k →
    (∀ a bs, o.op = .program a bs →
      (∃ t, exec (.csuCommandEnd bank true) s = .next t ∧ (∀ i b, bs[i]? = some b → Memory.read 0xFF t.csu.flash (a + i) = b) ∧
        (∀ x, (x < a ∨ a + bs.length ≤ x) → Memory.read 0xFF t.csu.flash x = Memory.read 0xFF s.csu.flash x) ∧ Tbl.find? t.csu.banks bank = none ∧
        t.csu.port k = ⟨false, 0⟩ ∧ t = { s with csu := { s.csu with flash := t.csu.flash, banks := t.csu.banks, suspTicks := 0, portA := t.csu.portA, portB := t.csu.portB } }) ∧
      (∃ t, exec (.csuCommandEnd bank false) s = .next t ∧ t.csu.port k = ⟨false, 5⟩ ∧ Tbl.find? t.csu.banks bank = none ∧
        (∀ x, (x < a ∨ a + 256 ≤ x) → Memory.read 0xFF t.csu.flash x = Memory.read 0xFF s.csu.flash x) ∧ t = { s with freeCnt := t.freeCnt, regf := t.regf, csu := t.csu, cru := t.cru })) ∧
    (∀ n, o.op = .erase n → o.window = false → ∃ t, exec (.csuCommandEnd bank true) s = .next t ∧ (∀ x, 16384 * n ≤ x → x < 16384 * n + 16384 → Memory.read 0xFF t.csu.flash x = 0xFF) ∧
      (∀ x, (x < 16384 * n ∨ 16384 * n + 16384 ≤ x) → Memory.read 0xFF t.csu.flash x = Memory.read 0xFF s.csu.flash x) ∧
      Tbl.getD t.csu.erases n 0 = min 131071 (Tbl.getD s.csu.erases n 0 + 1) ∧ Tbl.find? t.csu.banks bank = none ∧ t.csu.port k = ⟨false, 0⟩ ∧ t = { s with csu := t.csu }) ∧
    (∀ n, o.op = .erase n → o.window = true → ∃ t, exec (.csuCommandEnd bank true) s = .next t ∧ t.csu.winErases = s.csu.winErases + 1 ∧
      (∀ x, 16384 * n ≤ x → x < 16384 * n + 16384 → Memory.read 0xFF t.csu.flash x = 0xFF) ∧ t = { s with sheet := t.sheet, csu := t.csu })) ∧
  (∀ (s : State) (bank n : Nat) (o : BankOp), Tbl.find? s.csu.banks bank = some o → o.op = .erase n →
    (n < 48 ∨ 55 < n ∨ s.csu.suspTicks < msTicks 10 → ∃ t, exec (.codeStoreReadSuspend bank) s = .next t ∧ Tbl.find? t.csu.banks bank = some { o with suspended := true, readAt := s.now } ∧
      (∀ b, b ≠ bank → Tbl.find? t.csu.banks b = Tbl.find? s.csu.banks b) ∧ t = { s with csu := { s.csu with banks := t.csu.banks } }) ∧
    (48 ≤ n → n ≤ 55 → msTicks 10 ≤ s.csu.suspTicks → exec (.codeStoreReadSuspend bank) s = .next s) ∧
    (∃ t, exec (.codeStoreEraseResume bank) s = .next t ∧ Tbl.find? t.csu.banks bank = some (if s.passed o.readAt (usTicks 1) then { o with suspended := false } else o) ∧
      (∀ b, b ≠ bank → Tbl.find? t.csu.banks b = Tbl.find? s.csu.banks b) ∧ t = { s with csu := { s.csu with banks := t.csu.banks } }))

/-- R440, R441, R442, R444, R445: the loader copy fills the pair's TCM; write protection sets at any time and clears in loader mode alone, never for sectors 0 to 15; the debug port reads and writes in OPEN and reads under a session grant in SEALED; the window slides in its three steps. -/
def Obligations.LoaderProtectionDebugPortAndWindow : Prop :=
  (∀ (s : State) (r : CsuRequest), s.epochOk r.epoch = true → ∃ t, exec (.loaderCopy r) s = .next t ∧
    (∀ i, i < 262144 → Memory.read 0 t.ccl.tcm (1048576 * pairKey r.cluster r.pair + i) = Memory.read 0xFF s.csu.flash i) ∧
    (∀ x, (x < 1048576 * pairKey r.cluster r.pair ∨ 1048576 * pairKey r.cluster r.pair + 262144 ≤ x) → Memory.read 0 t.ccl.tcm x = Memory.read 0 s.ccl.tcm x) ∧
    (t.csu.loader r.cluster r.pair).marked = true ∧ t = { s with regf := t.regf, ccl := { s.ccl with tcm := t.ccl.tcm }, csu := { s.csu with portA := t.csu.portA, portB := t.csu.portB, loaders := t.csu.loaders } }) ∧
  (∀ (s : State) (k : Cluster) (pair n b : Nat) (v : Word), n < 64 → b < 2048 → ∃ t, exec (.wpWrite k pair n v) s = .next t ∧
    (b / 32 ≠ n → t.csu.wp.getLsbD b = s.csu.wp.getLsbD b) ∧
    (b / 32 = n → t.csu.wp.getLsbD b = if (s.csu.loader k pair).mode ∧ 16 ≤ b then v.getLsbD (b % 32) else s.csu.wp.getLsbD b || v.getLsbD (b % 32)) ∧
    t = { s with csu := { s.csu with wp := t.csu.wp } }) ∧
  (∀ (s : State) (sp : DebugSpace) (a : Nat) (d : Byte),
    (s.csu.sealSt = 0 → ∃ t, exec (.jtagDebugAccess sp a (some d)) s = .next t ∧ t.debugRead sp a = d ∧ (∀ x, x ≠ a → t.debugRead sp x = s.debugRead sp x) ∧
      t = { s with bpm := { s.bpm with sram := t.bpm.sram }, dmc := { s.dmc with bytes := t.dmc.bytes }, ccl := { s.ccl with tcm := t.ccl.tcm }, csu := { s.csu with flash := t.csu.flash, loaders := t.csu.loaders } }) ∧
    (s.csu.sealSt ≠ 0 → exec (.jtagDebugAccess sp a (some d)) s = .next s) ∧
    (s.csu.sealSt = 0 ∨ (s.csu.sealSt = 1 ∧ s.csu.session = true) → exec (.jtagDebugAccess sp a none) s = .next { s with out := .jtagData (s.debugRead sp a) :: s.out }) ∧
    (s.csu.sealSt ≠ 0 → ¬(s.csu.sealSt = 1 ∧ s.csu.session = true) → exec (.jtagDebugAccess sp a none) s = .next s)) ∧
  (∀ s : State, s.csu.slide = none → 1024 ≤ s.csu.winErases → Tbl.has s.csu.banks 3 = false → ∃ t, exec .windowSlide s = .next t ∧
    (∀ i, i < 16384 → Memory.read 0xFF t.csu.flash (16384 * (1536 + (s.csu.cfg.winBase + 63) % 512) + i) = Memory.read 0xFF s.csu.flash (16384 * (1536 + s.csu.cfg.winBase % 512) + i)) ∧
    (∀ x, (x < 16384 * (1536 + (s.csu.cfg.winBase + 63) % 512) ∨ 16384 * (1536 + (s.csu.cfg.winBase + 63) % 512) + 16384 ≤ x) →
      Memory.read 0xFF t.csu.flash x = Memory.read 0xFF s.csu.flash x) ∧ t = { s with csu := { s.csu with flash := t.csu.flash, slide := some .copying } }) ∧
  (∀ s : State, s.csu.slide = some .copying → ∃ t, exec .windowSlide s = .next t ∧ t.csu.cfg.winBase = s.csu.cfg.winBase + 1 ∧ t.csu.slide = some .switched ∧
    t.csu.wp.getLsbD (1536 + (s.csu.cfg.winBase + 63) % 512) = s.csu.wp.getLsbD (1536 + s.csu.cfg.winBase % 512) ∧ t.csu.wp.getLsbD (1536 + s.csu.cfg.winBase % 512) = false ∧ t = { s with csu := t.csu }) ∧
  (∀ s : State, s.csu.slide = some .switched → ∃ t, exec .windowSlide s = .next t ∧ t.csu.slide = none ∧ t.csu.winErases = s.csu.winErases - 1024 ∧
    (∀ x, 16384 * (1536 + (s.csu.cfg.winBase + 511) % 512) ≤ x → x < 16384 * (1536 + (s.csu.cfg.winBase + 511) % 512) + 16384 → Memory.read 0xFF t.csu.flash x = 0xFF) ∧
    t.csu.cfg = s.csu.cfg ∧ (s.csu.winHeld = [] → t = { s with csu := t.csu }) ∧ t = { s with regf := t.regf, csu := t.csu, cru := t.cru })

/-! ## Control clusters (spec/15) -/

/-- R422, R423, R424, R431: a fault of the active cluster or a missed watchdog begins a cut at once, a planned cut only with a stand-in; from tick 1,600 on the old cluster is held; the taker owns the next epoch. -/
def Obligations.CutsPassTheEpochOn : Prop :=
  (∀ (s : State) (i : Instr) (cause : CutCause), s.ruled = true →
    ((i = .cutFault .lockstep ∧ cause = .lockstep) ∨ (i = .cutFault .memory ∧ cause = .memory) ∨ (i = .cutFault .selftest ∧ cause = .selftest)
      ∨ (i = .watchdogExpiry ∧ cause = .watchdog ∧ s.passed s.ccl.heartbeat (usTicks (s.obj Ob.WD_US)) = true)) →
    ∃ t, exec i s = .next t ∧ t.ccl.gap = some { start := s.now, cause := cause, loser := s.ccl.owner, solo := !s.standbyReady, before := s.obj Ob.CUT_COUNT } ∧ t.ccl.lastCut = some s.now ∧
      t.ccl.fence = some (s.ccl.owner, cause) ∧ t.ccl.planned = none ∧ t.ccl.epoch = s.ccl.epoch ∧ t.ccl.owner = s.ccl.owner ∧ t.fca = { s.fca with gapHeld := true } ∧
      (s.standbyReady = true → t.ccl.st s.ccl.owner = .active) ∧ (s.standbyReady = false → t.ccl.st s.ccl.owner = .failed) ∧
      Tbl.getD t.sheet (sheetKey Ob.CUT_COUNT.idx Ob.CUT_COUNT.sub) 0 = min 0xFFFFFFFF (s.obj Ob.CUT_COUNT + 1) ∧ t.tbu.classes.getLsbD 4 = true ∧
      t = { s.sample 5 with regf := t.regf, sheet := t.sheet, fca := t.fca, ccl := t.ccl, cru := t.cru }) ∧
  (∀ s : State, (s.ruled = true → s.standbyReady = true → s.ccl.planned = none → exec .cutGo s = .next { s with ccl := { s.ccl with planned := some .planned } }) ∧
    (s.standbyReady = true → (s.ruled = false ∨ s.ccl.planned.isSome = true) → exec .cutGo s = .next s) ∧
    (s.standbyReady = false → ∃ t, exec .cutGo s = .next t ∧ t.fld Fld.CCL_STS.CUT_DENY = 1 ∧ t = { s with regf := t.regf })) ∧
  (∀ s : State, s.obj Ob.ROTATE_H ≠ 0 → s.ruled = true → s.passed s.ccl.rotateTick (hourTicks (s.obj Ob.ROTATE_H)) = true → s.standbyReady = true → s.ccl.planned = none →
    exec .rotateCut s = .next { s with ccl := { s.ccl with rotateTick := s.now, planned := some .planned } }) ∧
  (∀ (s : State) (k : Cluster) (cause : CutCause), s.ccl.fence = some (k, cause) → s.passedSome s.ccl.lastCut 1600 = true →
    ((cause = .planned ∨ cause = .activation ∨ cause = .fallback) → ∃ t, exec .cutFence s = .next t ∧ t.ccl.st k = .sync ∧ t.ccl.scriptR = s.ccl.ckptAt ∧ t.ccl.fence = none ∧ t.ccl.scriptHeld = [] ∧ t = { s with ccl := t.ccl }) ∧
    ((cause = .lockstep ∨ cause = .memory ∨ cause = .selftest ∨ cause = .watchdog) → s.ccl.st k = .active → ∃ t, exec .cutFence s = .next t ∧ t.ccl.st k = .failed ∧
      (t.ccl.fails k).head? = some s.now ∧ t.ccl.fence = none ∧ t = { s with regf := t.regf, ccl := t.ccl, cru := t.cru })) ∧
  (∀ (s : State) (g : Gap) (k : Cluster), s.ccl.gap = some g → s.taker = some k → ∃ t, exec .epochTake s = .next t ∧ t.ccl.epoch = s.ccl.epoch + 1 ∧ t.ccl.owner = k ∧
    t.ccl.st k = .active ∧ t.ccl.gap = none ∧ t.fca = { s.fca with gapHeld := false } ∧ t.mxe = s.mxe ∧ t.hlu = s.hlu ∧ t.power = s.power ∧ t.tbu = s.tbu ∧
    (g.cause = .activation → t.csu.cfg.takeState = 2 ∧ t.csu.cfg.trials = 1 ∧ t.qen.act = .none ∧ t.csu.runId = takeId s.csu.bankTake) ∧
    (g.cause = .fallback → t.csu.fallback = some .writing ∧ t.qen.fetchStop = false) ∧
    (g.cause ≠ .activation → g.cause ≠ .fallback → t = { s with regf := t.regf, fca := t.fca, ccl := t.ccl, cru := t.cru }))

/-- R419, R421, R429, R430, R432: self-test, synchronisation, repair and the repeated self-test move one cluster between the states of Table 15.1; heartbeats and script records take effect with a right epoch and are only recorded with a wrong one; a record waits while the stand-in lags; a checkpoint keeps the script's and the map journal's positions. -/
def Obligations.ClustersTestSynchroniseAndWriteTheScript : Prop :=
  (∀ (s : State) (k : Cluster), s.ccl.st k = .selftest →
    (∃ t, exec (.clusterSelftestEnd k true) s = .next t ∧ t.ccl.st k = .sync ∧ t.ccl.st (otherCluster k) = s.ccl.st (otherCluster k) ∧ t.ccl.scriptR = s.ccl.ckptAt ∧ t = { s with ccl := t.ccl }) ∧
    (s.ccl.gap = none → ∃ t, exec (.clusterSelftestEnd k false) s = .next t ∧ t.ccl.st k = .failed ∧ t.ccl.st (otherCluster k) = s.ccl.st (otherCluster k) ∧
      (t.ccl.fails k).head? = some s.now ∧ t = { s with regf := t.regf, ccl := t.ccl, cru := t.cru }) ∧
    (∀ g, s.ccl.gap = some g → g.solo = true →
      (s.ccl.st (otherCluster k) = .failed ∨ (s.ccl.st (otherCluster k) = .reset ∧ otherCluster k ∉ s.ccl.leave)) →
      ∃ t, exec (.clusterSelftestEnd k false) s = .next t ∧ t.ccl.st k = .failed ∧ t.ccl.noCluster = true)) ∧
  (∀ (s : State) (k : Cluster), s.ccl.st k = .sync → s.ccl.lag ≤ s.obj Ob.SCRIPT_LAG_MAX → ∃ t, exec (.clusterSyncDone k) s = .next t ∧ t.ccl.st k = .standby ∧
    t.ccl.st (otherCluster k) = s.ccl.st (otherCluster k) ∧ t.ccl.selftestTick = s.now ∧ t = { s with regf := t.regf, ccl := t.ccl, cru := t.cru }) ∧
  (∀ (s : State) (k : Cluster) (u : Dword) (us : List Dword), s.ccl.st k = .failed → s.ccl.gap = none → s.objB Ob.AUTO_REPAIR = true → s.recentFails k < s.obj Ob.FAIL_MAX →
    s.ccl.fails k = u :: us → s.passed u (secTicks 1) = true → ∃ t, exec (.clusterRepair k) s = .next t ∧ t.ccl.st k = .reset ∧ t.ccl.leave = k :: s.ccl.leave ∧
      t.ccl.st (otherCluster k) = s.ccl.st (otherCluster k) ∧ t = { s with ccl := t.ccl }) ∧
  (∀ s : State, s.ruled = true → s.standbyReady = true → s.ccl.planned = none → s.passed s.ccl.selftestTick (secTicks (s.obj Ob.SELFTEST_S)) = true →
    ∃ t, exec .standbySelftest s = .next t ∧ t.ccl.st (otherCluster s.ccl.owner) = .selftest ∧ t.ccl.st s.ccl.owner = .active ∧ t.ccl.selftestTick = s.now ∧ t = { s with ccl := t.ccl }) ∧
  (∀ (s : State) (k : Cluster) (e : BitVec 8),
    (s.epochOk e = true → exec (.heartbeatWrite k e) s = .next { s with ccl := { s.ccl with heartbeat := s.now } }) ∧
    (s.epochOk e = false → ∃ t, exec (.heartbeatWrite k e) s = .next t ∧ t.fld Fld.CCL_CUT_CNT.REFUSED = min (2 ^ Fld.CCL_CUT_CNT.REFUSED.width - 1) (s.fld Fld.CCL_CUT_CNT.REFUSED + 1) ∧
      t = { s with regf := t.regf, cru := t.cru })) ∧
  (∀ (s : State) (k : Cluster) (e : BitVec 8) (bs : List Byte), s.epochOk e = true → s.ccl.owner = k → s.scriptWaits = false → bs.length ≤ 2097152 →
    ∃ t, exec (.scriptWrite k e bs) s = .next t ∧ t.ccl.scriptHeld = s.ccl.scriptHeld ∧ t.ccl.scriptW = s.ccl.scriptW + bs.length ∧
      (∀ i b, bs[i]? = some b → Memory.read 0 t.ccl.script ((s.ccl.scriptW + i) % 2097152) = b) ∧ t = { s with ccl := { s.ccl with script := t.ccl.script, scriptW := t.ccl.scriptW } }) ∧
  (∀ (s : State) (k : Cluster) (e : BitVec 8) (bs : List Byte),
    (s.epochOk e = true → s.ccl.owner = k → s.scriptWaits = true → exec (.scriptWrite k e bs) s = .next { s with ccl := { s.ccl with scriptHeld := s.ccl.scriptHeld ++ [bs] } }) ∧
    (s.epochOk e = true → s.ccl.owner ≠ k → exec (.scriptWrite k e bs) s = .next s) ∧
    (s.epochOk e = false → ∃ t, exec (.scriptWrite k e bs) s = .next t ∧ t.ccl = s.ccl ∧ t = { s with regf := t.regf, cru := t.cru })) ∧
  (∀ s : State, s.ruled = true → s.passed s.ccl.ckptTick (secTicks 1) = true →
    exec .scriptCheckpoint s = .next { s with ccl := { s.ccl with ckptAt := s.ccl.scriptW, ckptJournal := s.mxe.jpos, ckptTick := s.lastDue s.ccl.ckptTick (secTicks 1) } })
/-! ## Tenancy (spec/05) -/

/-- R141, R144: every 1 µs a slice's bucket under a ceiling gains that ceiling's share, up to its depth; every 1 ms the BELOW flags tell whether the window's floors were served, and a new window begins (log entry 46: the flags stand for the whole of it). -/
def Obligations.BucketsRefillAndFloorsAreMeasured : Prop :=
  (∀ s : State, s.passed s.timers.refill (usTicks 1) = true → ∃ t, exec .tokenRefill s = .next t ∧ t.timers = { s.timers with refill := s.timers.refill + 800 } ∧
    (∀ n, n ∈ s.sliceIds → t.tnu.slice n = { s.tnu.slice n with
      rd := if s.sliceObj Ob.RD_MBPS n = 0 then (s.tnu.slice n).rd
        else min ((s.sliceObj Ob.RD_MBPS n * s.obj Ob.BURST_US : Nat) : Int) ((s.tnu.slice n).rd + s.sliceObj Ob.RD_MBPS n)
      wr := if s.sliceObj Ob.WR_MBPS n = 0 then (s.tnu.slice n).wr
        else min ((s.sliceObj Ob.WR_MBPS n * s.obj Ob.BURST_US : Nat) : Int) ((s.tnu.slice n).wr + s.sliceObj Ob.WR_MBPS n)
      cmd := if s.sliceObj Ob.CMD_KIOPS n = 0 then (s.tnu.slice n).cmd
        else min ((s.sliceObj Ob.CMD_KIOPS n * s.obj Ob.BURST_US : Nat) : Int) ((s.tnu.slice n).cmd + s.sliceObj Ob.CMD_KIOPS n) }) ∧
    (∀ n, n ∉ s.sliceIds → t.tnu.slice n = s.tnu.slice n) ∧ t = { s with timers := t.timers, tnu := { s.tnu with slices := t.tnu.slices } }) ∧
  (∀ s : State, s.passed s.timers.floor (msTicks 1) = true → ∃ t, exec .floorWindow s = .next t ∧ t.timers = { s.timers with floor := s.timers.floor + 800000 } ∧
    (∀ n, n ∈ s.sliceIds → t.tnu.slice n = { s.tnu.slice n with
      belowRd := decide ((s.tnu.slice n).servedRd < 1000 * s.sliceObj Ob.RD_FLOOR n), belowWr := decide ((s.tnu.slice n).servedWr < 1000 * s.writeFloor n)
      belowCmd := decide ((s.tnu.slice n).servedCmd < s.sliceObj Ob.CMD_FLOOR n), servedRd := 0, servedWr := 0, servedCmd := 0 }) ∧
    (∀ n, n ∉ s.sliceIds → t.tnu.slice n = s.tnu.slice n) ∧ t = { s with timers := t.timers, tnu := { s.tnu with slices := t.tnu.slices } })

/-- R135, R145: a commit of a slice's staging set is taken for the next tick, over one accepted earlier in this tick, or reports the first failing status and changes nothing; a discard empties the set; Secondary Controller Assign goes through the same commit (log entry 49: with whatever else is staged). -/
def Obligations.SliceCommitsApplyOrReport : Prop :=
  (∀ (s : State) (n : Nat),
    (s.commitStatus n = 0 → ∃ t, exec (.sliceCommit n) s = .next t ∧ t.tnu.slice n = { s.tnu.slice n with
        commitSts := 0, applyNext := (s.tnu.slice n).staged.foldl (fun v e => Tbl.put v e.1 e.2) (s.tnu.slice n).applyNext, applying := true, staged := []
        removed := (s.tnu.slice n).removed ||| s.groupsRemoved n } ∧
      t.tnu.commitBudget = s.dsc.budget ∧ (∀ m, m ≠ n → t.tnu.slice m = s.tnu.slice m) ∧
      t = { s.sample 10 with tnu := { s.tnu with slices := t.tnu.slices, commitBudget := t.tnu.commitBudget } }) ∧
    (s.commitStatus n ≠ 0 → ∃ t, exec (.sliceCommit n) s = .next t ∧ t.tnu.slice n = { s.tnu.slice n with commitSts := s.commitStatus n } ∧
      (∀ m, m ≠ n → t.tnu.slice m = s.tnu.slice m) ∧ t = { s.sample 10 with tnu := { s.tnu with slices := t.tnu.slices } }) ∧
    ((s.tnu.slice n).staged = [] → s.commitStatus n = 4) ∧
    (∃ t, exec (.sliceDiscard n) s = .next t ∧ t.tnu.slice n = { s.tnu.slice n with staged := [] } ∧ (∀ m, m ≠ n → t.tnu.slice m = s.tnu.slice m) ∧
      t = { s.sample 10 with tnu := { s.tnu with slices := t.tnu.slices } })) ∧
  (∀ (s : State) (c sl : Nat) (x : Ctx) (o : Obj), s.adminCtx c 0x1C = some x → s.power.stage = .hall → cdwBits x.sqe.cdw10 3 0 = 8 →
    ((cdwBits x.sqe.cdw10 10 8 = 0 ∧ o = Ob.QCOUNT) ∨ (cdwBits x.sqe.cdw10 10 8 = 1 ∧ o = Ob.VEC_COUNT)) → 1 ≤ cdwBits x.sqe.cdw10 31 16 → cdwBits x.sqe.cdw10 31 16 ≤ 63 →
    s.functionSlice (cdwBits x.sqe.cdw10 31 16) = some sl →
    let u := s.modSlice sl fun y => { y with staged := Tbl.put y.staged o.sub (cdwBits x.sqe.cdw11 15 0) }
    (u.commitStatus sl = 0 → ∃ t, exec (.virtualizationManagement c) s = .next t ∧ s.answered t c x 0 ∧
      (t.tnu.slice sl).applyNext = (Tbl.put (s.tnu.slice sl).staged o.sub (cdwBits x.sqe.cdw11 15 0)).foldl (fun v e => Tbl.put v e.1 e.2) (s.tnu.slice sl).applyNext ∧
      (t.tnu.slice sl).applying = true ∧ (∀ m, m ≠ sl → t.tnu.slice m = s.tnu.slice m) ∧ t = { s with qen := { s.qen with ctxs := t.qen.ctxs }, tnu := t.tnu }) ∧
    (u.commitStatus sl ≠ 0 → ∃ t, exec (.virtualizationManagement c) s = .next t ∧ s.answered t c x stResources ∧ (t.tnu.slice sl).applying = (s.tnu.slice sl).applying ∧
      (∀ m, m ≠ sl → t.tnu.slice m = s.tnu.slice m) ∧ t = { s with qen := { s.qen with ctxs := t.qen.ctxs }, tnu := t.tnu }))

/-- R17, R150, R151, R153, R154: quiescing a slice and its end, the queue positions of QSTATE before a queue's first fetch (log entry 49: the CQ head and the arrival tick), the dirty log's head and epoch, and an entry that waits for room in the ring. -/
def Obligations.MigrationQuiescesLogsAndRestoresPositions : Prop :=
  (∀ (s : State) (n : Nat),
    (∃ t, exec (.sliceQuiesce n) s = .next t ∧ t.tnu.slice n = { s.tnu.slice n with quiesce := true } ∧ (∀ m, m ≠ n → t.tnu.slice m = s.tnu.slice m) ∧
      t = { s.sample 10 with tnu := { s.tnu with slices := t.tnu.slices } }) ∧
    (∃ t, exec (.sliceUnquiesce n) s = .next t ∧ t.tnu.slice n = { s.tnu.slice n with quiesce := false, quiesced := false } ∧ (∀ m, m ≠ n → t.tnu.slice m = s.tnu.slice m) ∧
      t = { s.sample 10 with tnu := { s.tnu with slices := t.tnu.slices } }) ∧
    ((s.tnu.slice n).quiesce = true → s.qen.sliceAlloc n = 0 → (s.tnu.slice n).dlogWait = [] → ∃ t, exec (.sliceQuiesced n) s = .next t ∧
      t.tnu.slice n = { s.tnu.slice n with quiesced := true } ∧ (∀ m, m ≠ n → t.tnu.slice m = s.tnu.slice m) ∧ t = { s with tnu := { s.tnu with slices := t.tnu.slices } })) ∧
  (∀ (s : State) (a b z : Nat) (ph : Bool) (q : Sq) (c : Cq), Tbl.find? s.qen.sqs (s.obj Ob.QSTATE_SEL) = some q → Tbl.find? s.qen.cqs (s.obj Ob.QSTATE_SEL) = some c →
    (q.fetched = false → s.hlu.fetching (s.obj Ob.QSTATE_SEL) = false → a < q.size → b < q.size → z < c.size → ∃ t, exec (.qstateWrite a b z ph) s = .next t ∧
      Tbl.find? t.qen.sqs (s.obj Ob.QSTATE_SEL) = some { q with placed := true, head := a, tail := b, arrivals := List.replicate ((b + q.size - a) % q.size) s.now } ∧
      Tbl.find? t.qen.cqs (s.obj Ob.QSTATE_SEL) = some { c with tail := z, head := z, phase := ph } ∧
      (∀ k, k ≠ s.obj Ob.QSTATE_SEL → Tbl.find? t.qen.sqs k = Tbl.find? s.qen.sqs k ∧ Tbl.find? t.qen.cqs k = Tbl.find? s.qen.cqs k) ∧
      t = { s.sample 10 with qen := { s.qen with sqs := t.qen.sqs, cqs := t.qen.cqs } }) ∧
    (q.fetched = true ∨ s.hlu.fetching (s.obj Ob.QSTATE_SEL) = true → exec (.qstateWrite a b z ph) s = .next (s.sample 10))) ∧
  (∀ (s : State) (n h : Nat), ∃ t, exec (.dlogHeadWrite n h) s = .next t ∧ Tbl.getD t.sheet (sheetKey (0x8000 + n) 0x33) 0 = h % 2 ^ 32 ∧
    t.sliceObj Ob.DLOG_HEAD n = s.sliceObj Ob.DLOG_HEAD n ∧ (∀ k, k ≠ sheetKey (0x8000 + n) 0x33 → Tbl.find? t.sheet k = Tbl.find? s.sheet k) ∧
    t = { s.sample 10 with sheet := t.sheet, sheetOld := t.sheetOld }) ∧
  (∀ (s : State) (n : Nat) (x : SliceSt) (e : Dword), s.tnu.slices = [(n, x)] → x.dlogWait = [e] →
    (s.dlogFull n = false → s.dlogTick.out = .dirtyEntry n x.dlogTail (if x.dlogPhase then e ||| 1 else e) :: s.out ∧
      s.dlogTick.tnu.slice n = { x with dlogWait := [], dlogTail := (x.dlogTail + 8) % s.ringBytes n
                                        dlogPhase := if (x.dlogTail + 8) % s.ringBytes n = 0 then !x.dlogPhase else x.dlogPhase } ∧
      (n, e) ∈ s.dlogTick.tnu.filter ∧ s.dlogTick = { s with out := s.dlogTick.out, tnu := s.dlogTick.tnu }) ∧
    (s.dlogFull n = true → s.dlogTick = s)) ∧
  (∀ (s : State) (n v : Nat), ∃ t, exec (.dlogEpochWrite n v) s = .next t ∧ (∀ e, e ∈ t.tnu.filter ↔ e ∈ s.tnu.filter ∧ e.1 ≠ n) ∧
    Tbl.getD t.sheet (sheetKey (0x8000 + n) 0x36) 0 = v % 256 ∧ (∀ k, k ≠ sheetKey (0x8000 + n) 0x36 → Tbl.find? t.sheet k = Tbl.find? s.sheet k) ∧
    t = { s.sample 10 with sheet := t.sheet, sheetOld := t.sheetOld, tnu := { s.tnu with filter := t.tnu.filter } })

/-- R155, R156, R157, R161: a drain or squash request is noted; the reset event deletes the slice's queues, quarantines its tags, clears its keys, staging set, dirty log and staged units and leaves the map and the other slices; it is done once the quarantine is empty and the keys are loaded. -/
def Obligations.SliceResetsClearTheSliceAlone : Prop :=
  (∀ (s : State) (n : Nat), (s.tnu.slice n).reset = none → ∃ t, exec (.sliceResetDrain n) s = .next t ∧ t.tnu.slice n = { s.tnu.slice n with reset := some (.drain s.now) } ∧
    t.tnu.rstSlice = n ∧ (∀ m, m ≠ n → t.tnu.slice m = s.tnu.slice m) ∧ t = { s.sample 10 with tnu := { s.tnu with slices := t.tnu.slices, rstSlice := n } }) ∧
  (∀ (s : State) (n : Nat), (∀ u b, (s.tnu.slice n).reset ≠ some (.clearing u b)) → ∃ t, exec (.sliceResetSquash n) s = .next t ∧
    t.tnu.slice n = { s.tnu.slice n with reset := some (.squash s.now) } ∧ t.tnu.rstSlice = n ∧ (∀ m, m ≠ n → t.tnu.slice m = s.tnu.slice m) ∧
    t = { s.sample 10 with tnu := { s.tnu with slices := t.tnu.slices, rstSlice := n } }) ∧
  (∀ (s : State) (n : Nat) (i : Instr) (late : Bool),
    ((i = .sliceReset n ∧ late = false ∧ (∃ u, (s.tnu.slice n).reset = some (.squash u) ∧ s.passed u 1 = true))
      ∨ (i = .sliceReset n ∧ late = false ∧ s.qen.sliceAlloc n = 0 ∧ (∃ u, (s.tnu.slice n).reset = some (.drain u)))
      ∨ (i = .sliceDrainTimeout n ∧ late = true ∧ (∃ u, (s.tnu.slice n).reset = some (.drain u) ∧ s.passed u (msTicks (s.obj Ob.DRAIN_MS)) = true))) →
    ∃ t, exec i s = .next t ∧ (t.tnu.slice n).reset = some (.clearing s.now late) ∧ (t.tnu.slice n).staged = [] ∧ (t.tnu.slice n).quiesce = false ∧
      (t.tnu.slice n).dlogTail = 0 ∧ (t.tnu.slice n).dlogWait = [] ∧ (∀ e ∈ t.tnu.filter, e.1 ≠ n) ∧ (∀ m, m ≠ n → t.tnu.slice m = s.tnu.slice m) ∧
      (∀ e ∈ t.qen.sqs, e.1 < 4096 → e.2.slice ≠ n) ∧ (∀ e ∈ t.qen.cqs, e.1 < 4096 → e.2.slice ≠ n) ∧ (∀ e ∈ t.hlu.tags, e.2.slice = n → e.2.phase ≠ .outstanding) ∧
      (∀ e ∈ s.mxe.nss, e.2.slice = n → Tbl.find? t.cdx.keys e.2.keySlot = none) ∧ (∀ u ∈ t.gal.units ++ t.gal.ready, u.slice ≠ n) ∧
      t.mxe.map = s.mxe.map ∧ t.mxe.writes = s.mxe.writes ∧ t.mxe.nand = s.mxe.nand ∧ (late = true → t.fld Fld.TNU_RST_STS.TIMED_OUT = 1) ∧
      t = { s.sample 4 with out := t.out, regf := t.regf, sheet := t.sheet, sheetOld := t.sheetOld, hlu := t.hlu, qen := t.qen, tnu := t.tnu, gal := t.gal, mxe := t.mxe, cdx := { s.cdx with keys := t.cdx.keys }, bpm := t.bpm, dmc := { s.dmc with poisoned := t.dmc.poisoned }, ccl := t.ccl, mgp := t.mgp, cru := t.cru }) ∧
  (∀ (s : State) (n : Nat) (u : Dword) (b : Bool), (s.tnu.slice n).reset = some (.clearing u b) → (∀ e ∈ s.hlu.tags, ¬(e.2.slice = n ∧ e.2.phase = .quarantined)) →
    s.keysLoaded n = true → ∃ t, exec (.sliceResetDone n) s = .next t ∧ t.tnu.slice n = { s.tnu.slice n with reset := none } ∧ t.fld Fld.TNU_RST_STS.DONE = 1 ∧
      (∀ m, m ≠ n → t.tnu.slice m = s.tnu.slice m) ∧ t = { s with tnu := { s.tnu with slices := t.tnu.slices }, regf := t.regf, cru := t.cru })

/-! ## Gallery (spec/06) -/

/-- R64, R83, R160, R161, R163, R164, R165, R167, R169, R170, R181, Table 6.2: peer writes that pass the checks go to the window's memory or to the units of its LBA window and through the FIFO; peer reads of a window's memory return it, and those of an LBA window take a context; a refused request is logged as an advisory error and changes no data; a poisoned write is discarded; one above MPS is a Malformed TLP; a write without room in the FIFO waits; a function or offset that does not decode gives an Unsupported Request. -/
def Obligations.PeerTrafficReachesItsWindow : Prop :=
  (∀ (s : State) (p : PeerTlp) (n : Nat) (w : Window), s.inboundHeld = false → s.fnOpen p.fn = true → s.galBar p = true → s.gal.hit (s.galOffset p) = some (n, w) →
    (∀ bs : List Byte, s.gal.withholds = false → s.gal.fill + bs.length ≤ galFifoBytes → bs.length ≤ s.hlu.mps →
      (p.poison = false → s.winRefusal n w p bs.length true = none →
        (w.kind ≠ .lba → ∃ t, exec (.galleryWrite p bs) s = .next t ∧
          (∀ i b, bs[i]? = some b → Memory.read 0 t.gal.mem (galKey n (s.galOffset p - w.first) + i) = b) ∧
          (∀ x, (x < galKey n (s.galOffset p - w.first) ∨ galKey n (s.galOffset p - w.first) + bs.length ≤ x) → Memory.read 0 t.gal.mem x = Memory.read 0 s.gal.mem x) ∧
          t.gal.fifo = s.gal.fifo ++ [(n, bs.length)] ∧
          t = { s.arrive bs.length with gal := { s.gal with wait := 0, mem := t.gal.mem, fifo := t.gal.fifo }, dmc := { s.dmc with poisoned := t.dmc.poisoned } }) ∧
        (w.kind = .lba → s.stagedBytes n + bs.length ≤ 2 ^ 20 * w.stageMib → ∃ t, exec (.galleryWrite p bs) s = .next t ∧ t.gal.fifo = s.gal.fifo ++ [(n, bs.length)] ∧
          t = { s.arrive bs.length with gal := { s.gal with wait := 0, units := t.gal.units, ready := t.gal.ready, fifo := t.gal.fifo } } ∧
          (bs.length = 64 → (∀ u ∈ s.gal.ready ++ s.gal.units, u.is n w ((s.galOffset p - w.first) / 4096) = false) → (∀ u ∈ s.gal.units, u.mask ≠ BitVec.allOnes 64) →
            ∃ x, t.gal.units = s.gal.units ++ [x] ∧ t.gal.ready = s.gal.ready ∧ x.win = n ∧ x.unit = (s.galOffset p - w.first) / 4096 ∧ x.slice = w.owner ∧
              x.nsid = w.nsid.toNat ∧ x.lba = w.lba + (s.galOffset p - w.first) / 4096 ∧ x.fn = p.fn ∧
              ∀ k, k < 64 → (x.mask.getLsbD k = true ↔ k = (s.galOffset p - w.first) % 4096 / 64))) ∧
        (w.kind = .lba → 2 ^ 20 * w.stageMib < s.stagedBytes n + bs.length → ∃ t, exec (.galleryWrite p bs) s = .next t ∧ t.fld Fld.GAL_ERR_STS.OVERFLOW = 1 ∧
          t = { s.arrive bs.length with regf := t.regf, cru := t.cru, gal := { s.gal with wait := 0, errNone := false, errWin := n, faults := t.gal.faults } })) ∧
      (∀ b, p.poison = false → s.winRefusal n w p bs.length true = some b → ∃ t, exec (.galleryWrite p bs) s = .next t ∧ t.fld (galErrField b) = 1 ∧
        t.gal = { s.gal with wait := 0, errNone := false, errWin := n } ∧ t.out = .aer .advisory .advisory :: s.out ∧
        t.hlu = { (s.arrive bs.length).hlu with aer := .advisory :: s.hlu.aer } ∧
        t = { s.arrive bs.length with out := t.out, regf := t.regf, gal := t.gal, hlu := t.hlu, cru := t.cru }) ∧
      (p.poison = true → ∃ t, exec (.galleryWrite p bs) s = .next t ∧ t.fld Fld.GAL_ERR_STS.POISON = 1 ∧ t.out = .aer .poisoned .nonFatal :: s.out ∧
        t.fld Fld.HLU_POISON_CNT.INBOUND = min (2 ^ Fld.HLU_POISON_CNT.INBOUND.width - 1) (s.fld Fld.HLU_POISON_CNT.INBOUND + 1) ∧
        t.hlu = { (s.arrive bs.length).hlu with aer := .poisoned :: s.hlu.aer } ∧
        t = { s.arrive bs.length with out := t.out, regf := t.regf, hlu := t.hlu, cru := t.cru, gal := { s.gal with wait := 0, errNone := false, errWin := n, faults := t.gal.faults } })) ∧
    (∀ bs : List Byte, s.gal.withholds = false → s.gal.fill + bs.length ≤ galFifoBytes → s.hlu.mps < bs.length → ∃ t, exec (.galleryWrite p bs) s = .next t ∧
      t.out = .aer .malformed .fatal :: s.out ∧ t.hlu = { (s.arrive bs.length).hlu with aer := .malformed :: s.hlu.aer } ∧
      t = { s.arrive bs.length with out := t.out, regf := t.regf, hlu := t.hlu, cru := t.cru, gal := { s.gal with wait := 0 } }) ∧
    (∀ len, s.winRefusal n w p len false = none → w.kind ≠ .lba → ∃ t, exec (.galleryRead p len) s = .next t ∧
      s.answeredRead t (if s.galPoisoned n (s.galOffset p - w.first) len then .poisoned else .ok) (Memory.readN 0 s.gal.mem (galKey n (s.galOffset p - w.first)) len) ∧
      t = { s.arrive 0 with out := t.out, regf := t.regf, hlu := { (s.arrive 0).hlu with txNow := t.hlu.txNow } }) ∧
    (∀ len c x, s.winRefusal n w p len false = none → w.kind = .lba → winOf s.gal.active n = w → s.gal.reads = [] → s.mxe.ns? w.nsid.toNat = some x →
      (s.nextCtx = some c → s.galRoom w.owner = true → ∃ t, exec (.galleryRead p len) s = .next t ∧ t.qen.fetches = s.qen.fetches + 1 ∧
        t.tnu.slice w.owner = { s.tnu.slice w.owner with servedRd := (s.tnu.slice w.owner).servedRd + len
                                                         rd := if s.sliceObj Ob.RD_MBPS w.owner = 0 then (s.tnu.slice w.owner).rd else (s.tnu.slice w.owner).rd - len } ∧
        (∀ y, Tbl.find? t.qen.ctxs c = some y → y.sqe.opcode = 0x02 ∧ y.slice = w.owner ∧ y.cls = w.cls ∧ y.win = some (n, s.galOffset p - w.first) ∧ y.bytes = len) ∧
        (∀ k, k ≠ c → Tbl.find? t.qen.ctxs k = Tbl.find? s.qen.ctxs k) ∧
        t = { s.arrive 0 with out := t.out, regf := t.regf, qen := t.qen, tnu := t.tnu, hlu := { (s.arrive 0).hlu with txNow := t.hlu.txNow } }) ∧
      (s.galRoom w.owner = false → ∃ t, exec (.galleryRead p len) s = .next t ∧ t.gal.reads = [{ win := n, fn := p.fn, rel := s.galOffset p - w.first, len := len }] ∧
        t = { s.arrive 0 with gal := { s.gal with reads := t.gal.reads } })) ∧
    (∀ len b, s.winRefusal n w p len false = some b → ∃ t, exec (.galleryRead p len) s = .next t ∧ t.out = .tlpCompletion .ur [] s.hlu.ecrcGen :: .aer .advisory .advisory :: s.out ∧
      t.gal = { s.gal with errNone := false, errWin := n } ∧ t.fld (galErrField b) = 1 ∧ t.hlu = { (s.arrive 0).hlu with aer := .advisory :: s.hlu.aer } ∧
      t = { s.arrive 0 with out := t.out, regf := t.regf, gal := t.gal, hlu := t.hlu, cru := t.cru })) ∧
  (∀ (s : State) (p : PeerTlp) (bs : List Byte), s.inboundHeld = false → (galFifoBytes < s.gal.fill + bs.length ∨ s.gal.withholds = true) →
    exec (.galleryWrite p bs) s = .next { s with gal := { s.gal with wait := if s.gal.wait = 0 then bs.length else s.gal.wait } }) ∧
  (∀ (s : State) (p : PeerTlp) (i : Instr) (k : Nat) (np : Bool), s.inboundHeld = false →
    ((∃ bs : List Byte, i = .galleryWrite p bs ∧ k = bs.length ∧ np = false ∧ s.gal.withholds = false ∧ s.gal.fill + bs.length ≤ galFifoBytes)
      ∨ (∃ len, i = .galleryRead p len ∧ k = 0 ∧ np = true) ∨ (i = .fence p ∧ k = 0 ∧ np = true)) →
    (s.fnOpen p.fn = false ∨ s.galBar p = false → ∃ t, exec i s = .next t ∧ t.hlu = { (s.arrive k).hlu with aer := .unsupported :: s.hlu.aer } ∧
      t.out = (if np then [.tlpCompletion .ur [] s.hlu.ecrcGen] else []) ++ .aer .unsupported .nonFatal :: s.out ∧ t.gal.mem = s.gal.mem ∧
      t = { s.arrive k with out := t.out, hlu := t.hlu, regf := t.regf, cru := t.cru, gal := { s.gal with wait := t.gal.wait } }) ∧
    (s.fnOpen p.fn = true → s.galBar p = true → s.gal.hit (s.galOffset p) = none → p.poison = false → k ≤ s.hlu.mps → ∃ t, exec i s = .next t ∧ t.fld Fld.GAL_ERR_STS2.NO_WIN = 1 ∧
      t.out = (if np then [.tlpCompletion .ur [] s.hlu.ecrcGen] else []) ++ .aer .advisory .advisory :: s.out ∧
      t = { s.arrive k with out := t.out, hlu := t.hlu, regf := t.regf, gal := { s.gal with wait := t.gal.wait, errNone := true, errWin := 0 } }))

/-- R172, R173, R174: a fence notes the complete units it covers, whether the window holds a partial one, and the FIFO's entries up to its window's last; it completes once they are durable, with PARTIAL and FAULT on an LBA window; on another window the completion's data is a free value (log entry 6). R176, R177, R178, R179, R180: a window commit is refused with its status, waits while an affected window has unfinished operations, or becomes active at once; a pending one becomes active when they end or after 160,000 ticks; panic sets and clears at its two fill levels. -/
def Obligations.FencesCompleteAndWindowCommitsApply : Prop :=
  (∀ (s : State) (p : PeerTlp) (n : Nat) (w : Window), s.inboundHeld = false → s.fnOpen p.fn = true → s.galBar p = true → s.gal.hit (s.galOffset p) = some (n, w) →
    (s.winRefusal n w p 0 false = none → ∃ t f, exec (.fence p) s = .next t ∧ t.gal.fences = s.gal.fences ++ [f] ∧ f.win = n ∧ f.fn = p.fn ∧ (f.lba = true ↔ w.kind = .lba) ∧
      (f.partial_ = true ↔ ∃ u ∈ s.gal.units, u.win = n) ∧ (∀ u, u ∈ f.units ↔ ∃ v ∈ s.gal.ready, v.win = n ∧ u = (v.win, v.unit)) ∧
      (∀ c, c ∈ f.ctxs ↔ ∃ x, (c, x) ∈ s.qen.ctxs ∧ x.ofWin n = true ∧ x.sqe.opcode = 0x01) ∧ f.ahead = s.gal.lastEntry n ∧
      t = { s.arrive 0 with gal := { s.gal with fences := t.gal.fences } }) ∧
    (∀ b, s.winRefusal n w p 0 false = some b → ∃ t, exec (.fence p) s = .next t ∧ t.out = .tlpCompletion .ur [] s.hlu.ecrcGen :: .aer .advisory .advisory :: s.out ∧
      t.gal = { s.gal with errNone := false, errWin := n } ∧ t = { s.arrive 0 with out := t.out, regf := t.regf, gal := t.gal, hlu := t.hlu, cru := t.cru })) ∧
  (∀ (s : State) (w : Nat) (f : Fence), (s.gal.fences.find? fun g => g.win == w) = some f →
    (f.lba = true → f.ctxs = [] → f.units = [] → ∃ t, exec (.fenceCompletion w) s = .next t ∧
      s.answeredRead t .ok (leBytes 4 (bit01 f.partial_ + 2 * bit01 (s.gal.faults.contains w))) ∧ t.gal.fences = s.gal.fences.erase f ∧ w ∉ t.gal.faults ∧
      t = { s with out := t.out, hlu := { s.hlu with txNow := t.hlu.txNow }, gal := { s.gal with fences := t.gal.fences, faults := t.gal.faults } }) ∧
    (f.lba = false → f.ahead = 0 → ∃ t d, exec (.fenceCompletion w) s = .next t ∧ s.answeredRead t .ok d ∧ d.length = 4 ∧ t.gal.fences = s.gal.fences.erase f ∧
      t = { s with freeCnt := s.freeCnt + 1, out := t.out, hlu := { s.hlu with txNow := t.hlu.txNow }, gal := { s.gal with fences := t.gal.fences, faults := t.gal.faults } }) ∧
    (f.done = false → exec (.fenceCompletion w) s = .next s)) ∧
  (∀ s : State, s.gal.pending = none →
    (s.winStatus s.gal.staging ≠ 0 → ∃ t, exec .winCommit s = .next t ∧ t.gal = { s.gal with commitSts := s.winStatus s.gal.staging } ∧ t = { s.sample 8 with gal := t.gal }) ∧
    (s.winStatus s.gal.staging = 0 → (∃ n ∈ s.gal.affected s.gal.staging, s.winBusy n = true) → ∃ t, exec .winCommit s = .next t ∧
      t.gal = { s.gal with commitSts := 4, pending := some { since := s.now, affected := s.gal.affected s.gal.staging, set := s.gal.staging } } ∧ t = { s.sample 8 with gal := t.gal }) ∧
    (s.winStatus s.gal.staging = 0 → (∀ n ∈ s.gal.affected s.gal.staging, s.winBusy n = false) → ∃ t, exec .winCommit s = .next t ∧ t.gal.active = s.gal.staging ∧
      t.gal.pending = none ∧ t.gal.commitSts = 0 ∧ (∀ u, u ∈ t.gal.units ↔ u ∈ s.gal.units ∧ u.win ∉ s.gal.affected s.gal.staging) ∧ t.gal.ready = s.gal.ready ∧ t.gal.mem = s.gal.mem ∧
      t = { s.sample 8 with out := t.out, regf := t.regf, sheet := t.sheet, hlu := t.hlu, qen := t.qen, gal := t.gal, bpm := t.bpm, ccl := t.ccl, mgp := t.mgp, cru := t.cru })) ∧
  (∀ s : State, s.gal.pending.isSome = true → exec .winCommit s = .next (s.sample 8)) ∧
  (∀ s : State, ∃ t, exec .winDiscard s = .next t ∧ t = { s.sample 10 with gal := { s.gal with staging := s.gal.active } }) ∧
  (∀ (s : State) (i : Instr) (p : WinPending), s.gal.pending = some p →
    ((i = .windowSetActivate ∧ ∀ n ∈ p.affected, s.winBusy n = false) ∨ (i = .windowCommitTimeout ∧ s.passed p.since 160000 = true)) →
    ∃ t, exec i s = .next t ∧ t.gal.active = p.set ∧ t.gal.pending = none ∧ t.gal.commitSts = 0 ∧ t.gal.ready = s.gal.ready ∧ t.gal.mem = s.gal.mem ∧
      (∀ c x w off, Tbl.find? s.qen.ctxs c = some x → x.win = some (w, off) → w ∈ p.affected → x.sqe.opcode = 0x02 → Tbl.find? t.qen.ctxs c = none) ∧
      (∀ r, r ∈ t.gal.reads ↔ r ∈ s.gal.reads ∧ r.win ∉ p.affected) ∧ (∀ f, f ∈ t.gal.fences ↔ f ∈ s.gal.fences ∧ f.win ∉ p.affected) ∧
      t = { s with out := t.out, regf := t.regf, sheet := t.sheet, hlu := t.hlu, qen := t.qen, gal := t.gal, bpm := t.bpm, ccl := t.ccl, mgp := t.mgp, cru := t.cru }) ∧
  (∀ s : State, s.gal.panic = false → s.obj Ob.PANIC_ON_PCT * galFifoBytes ≤ 100 * s.gal.fill → ∃ t, exec .rtPanicAssert s = .next t ∧
    t.fld Fld.GAL_RT_PANIC_CNT.COUNT = min (2 ^ Fld.GAL_RT_PANIC_CNT.COUNT.width - 1) (s.fld Fld.GAL_RT_PANIC_CNT.COUNT + 1) ∧
    t = { s with regf := t.regf, gal := { s.gal with panic := true }, dmc := { s.dmc with panic := true } }) ∧
  (∀ s : State, s.gal.panic = true → 100 * s.gal.fill < s.obj Ob.PANIC_OFF_PCT * galFifoBytes →
    exec .rtPanicRelease s = .next { s with gal := { s.gal with panic := false }, dmc := { s.dmc with panic := false } })
/-! ## Translation and placement (spec/07) -/

/-- R197, R198, R199, R200, R204, R209: what one ready delta does to the map and the journal, and how the journal's pages and copies go: a page goes to the journal's SYSTEM band when it is due, its records are on NAND once the copies that are left report. With nothing ready, or the journal frozen, a map commit changes nothing. Log entry 47: a page of a SYSTEM band is on NAND with its row. -/
def Obligations.MapCommitsAndTheirJournal : Prop :=
  (∀ s : State, (s.mxe.frozen = true ∨ ∀ d ∈ s.mxe.deltas, s.mxe.deltaWaits d = true) → exec .mapCommit s = .next s) ∧
  (∀ (s : State) (d : Delta), s.mxe.frozen = false → s.mxe.deltas = [d] → s.mxe.deltaWaits d = false → ∃ t, exec .mapCommit s = .next t ∧ t.mxe.deltas = [] ∧
    (s.power.stage = .hall → t.power = { s.power with marker := false }) ∧ t.mxe.nand = s.mxe.nand ∧ t.mxe.nss = s.mxe.nss ∧ t.mxe.dsn = s.mxe.dsn ∧ t.mxe.psn = s.mxe.psn ∧
    (d.kind = 1 → d.dsn < Tbl.getD s.mxe.committed (granKey d.nsid d.index) 0 → t.mxe.map = s.mxe.map ∧ t.mxe.jbuf = s.mxe.jbuf) ∧
    (d.kind = 1 → Tbl.getD s.mxe.committed (granKey d.nsid d.index) 0 ≤ d.dsn → t.mxe.entry d.nsid d.index = d.value ∧ t.mxe.jbuf = s.mxe.jbuf ++ [d.record] ∧
      ∀ k, k ≠ granKey d.nsid d.index → Tbl.find? t.mxe.map k = Tbl.find? s.mxe.map k) ∧
    (d.kind = 3 ∨ d.kind = 4 → t.mxe.jbuf = s.mxe.jbuf ++ [d.record] ∧ (∀ k, k < d.count → t.mxe.entry d.nsid (d.index + k) = MapEntry.unmapped) ∧
      ∀ j, (∀ k, k < d.count → j ≠ granKey d.nsid (d.index + k)) → Tbl.find? t.mxe.map j = Tbl.find? s.mxe.map j) ∧
    (d.kind = 2 → (s.mxe.entry d.nsid d.index).located = true → d.source = some (s.mxe.entry d.nsid d.index).loc → t.mxe.entry d.nsid d.index = d.value ∧
      t.mxe.jbuf = s.mxe.jbuf ++ [d.record] ∧ ∀ k, k ≠ granKey d.nsid d.index → Tbl.find? t.mxe.map k = Tbl.find? s.mxe.map k) ∧
    (d.kind = 2 → ¬((s.mxe.entry d.nsid d.index).located = true ∧ d.source = some (s.mxe.entry d.nsid d.index).loc) → t.mxe.map = s.mxe.map ∧ t.mxe.jbuf = s.mxe.jbuf ∧
      t.mxe.jobs = Tbl.del s.mxe.jobs d.owner) ∧
    t = { s with out := t.out, power := t.power, regf := t.regf, qen := t.qen, tnu := t.tnu, mxe := t.mxe, spe := t.spe, bpm := t.bpm, ccl := t.ccl, mgp := t.mgp, cru := t.cru }) ∧
  (∀ s : State, s.mxe.jbuf ≠ [] → (s.mxe.jOkA = true ∨ s.mxe.jOkB = true) → s.mxe.frozen = false →
    (682 ≤ s.mxe.jbuf.length ∨ s.passedSome s.mxe.jfirst (usTicks (s.obj Ob.JRNL_FLUSH_US)) = true ∨ ∃ r ∈ s.mxe.jbuf, s.mxe.urgentRecord r = true) →
    (∀ u n, s.sysBandFor s.mxe.jBand s.mxe.jDieA s.mxe.jDieB = some (u, n) → ∃ t p, exec .journalPageWrite s = .next t ∧ t.mxe.jpages = s.mxe.jpages ++ [p] ∧
      p.recs = s.mxe.jbuf.take 682 ∧ p.goodA = !s.mxe.jOkA ∧ p.goodB = !s.mxe.jOkB ∧ p.band = n ∧ p.psn = s.mxe.psn ∧ t.mxe.psn = s.mxe.psn + 1 ∧ t.mxe.jBand = some n ∧
      t.mxe.jbuf = s.mxe.jbuf.drop 682 ∧ t.mxe.map = s.mxe.map ∧ t.mxe.nand = s.mxe.nand ∧ t = { s with mxe := t.mxe }) ∧
    (s.sysBandFor s.mxe.jBand s.mxe.jDieA s.mxe.jDieB = none → exec .journalPageWrite s = .next s)) ∧
  (∀ (s : State) (a : Bool) (p : JournalPage) (ps : List JournalPage), s.mxe.jpages = p :: ps → (if a then p.goodA else p.goodB) = false → ∃ t, exec (.journalPageGood a) s = .next t ∧
    ((if a then p.goodB else p.goodA) = true → t.mxe.jpages = ps ∧ t.mxe.jnand = s.mxe.jnand ++ p.recs ∧ t.mxe.jpos = s.mxe.jpos + 16384 ∧ t.mxe.jbuf = s.mxe.jbuf ∧
      t.mxe.map = s.mxe.map ∧ t = { s with qen := t.qen, mxe := t.mxe }) ∧
    ((if a then p.goodB else p.goodA) = false → t.mxe.jpages = (if a then { p with goodA := true } else { p with goodB := true }) :: ps ∧
      t = { s with mxe := { s.mxe with jpages := t.mxe.jpages, nand := t.mxe.nand, modes := t.mxe.modes } }) ∧
    (∀ k, (∀ l, l = (if a then p.locA else p.locB) → k ≠ pageKey l.die l.block l.page) → Tbl.find? t.mxe.nand k = Tbl.find? s.mxe.nand k)) ∧
  (∀ s : State,
    (∃ t, exec (.journalCopyLost .a) s = .next t ∧ t.mxe.jOkA = false ∧ t.mxe.jOkB = s.mxe.jOkB ∧ t.mxe.jbuf = s.mxe.jbuf ∧ t.mxe.map = s.mxe.map ∧ t = { s with qen := t.qen, mxe := t.mxe }) ∧
    (∃ t, exec (.journalCopyLost .b) s = .next t ∧ t.mxe.jOkB = false ∧ t.mxe.jOkA = s.mxe.jOkA ∧ t.mxe.jbuf = s.mxe.jbuf ∧ t.mxe.map = s.mxe.map ∧ t = { s with qen := t.qen, mxe := t.mxe }) ∧
    (∀ c, c = .ab ∨ c = .abs → ∃ t, exec (.journalCopyLost c) s = .next t ∧ t.mxe.jOkA = false ∧ t.mxe.jOkB = false ∧ (∀ p ∈ t.mxe.jpages, p.goodA = false ∧ p.goodB = false) ∧
      t.mxe.jpages.map JournalPage.recs = s.mxe.jpages.map JournalPage.recs ∧ t = { s with mxe := { s.mxe with jOkA := false, jOkB := false, jBand := none, jpages := t.mxe.jpages } }) ∧
    exec (.journalCopyLost .s) s = .next s)

/-- R189, R191, R192, R194, R202, R203, R205, R209, R529: segments are written back, checkpointed and loaded, suspect entries rebuilt, folding starts and stops, and bands go from OPEN to RELEASED. -/
def Obligations.SegmentsAndBandsGoTheirWay : Prop :=
  (∀ (s : State) (nsid seg : Nat), Tbl.has s.mxe.dirty (2 ^ 32 * nsid + seg) = true →
    (∀ u l, s.sysWrite [s.sysCell .segment nsid seg (leNat (s.segmentBytes nsid seg))] = some (u, l) → (∀ k, k ≠ l → exec (.segmentWriteback nsid seg k) s = .next s) ∧ ∃ t, exec (.segmentWriteback nsid seg l) s = .next t ∧
      Tbl.find? t.mxe.segs (2 ^ 32 * nsid + seg) = some l ∧ Tbl.has t.mxe.dirty (2 ^ 32 * nsid + seg) = false ∧
      (∀ g, g / 816 = seg → Tbl.getD t.mxe.segMap (granKey nsid g) MapEntry.unmapped = s.mxe.entry nsid g) ∧ t.mxe.map = s.mxe.map ∧ t.mxe.psn = s.mxe.psn + 1 ∧
      (∃ r, t.mxe.jbuf = s.mxe.jbuf ++ [r] ∧ r.kind = 5 ∧ r.nsid = nsid ∧ r.index = seg ∧ r.value.loc = l) ∧ t = { s with mxe := t.mxe }) ∧
    (s.sysWrite [s.sysCell .segment nsid seg (leNat (s.segmentBytes nsid seg))] = none → ∀ l, exec (.segmentWriteback nsid seg l) s = .next s)) ∧
  (∀ s : State, (s.passed s.mxe.ckptTick (secTicks 60) = true ∨ s.mxe.dirty = []) → ∀ u l,
    s.sysWrite [s.sysCell .system 0 0 (leNat (s.mxe.segs.flatMap fun e => leBytes 8 e.1 ++ leBytes 5 (entryAt 0 e.2).code))] = some (u, l) → ∃ t, exec .directoryCheckpoint s = .next t ∧
      t.mxe.ckptTick = s.now ∧ t.mxe.ckptSegs = s.mxe.segs ∧ t.mxe.ckptPos = s.mxe.jpos ∧ t.mxe.jnand = s.mxe.jnand.filter s.mxe.recordLive ∧ t.mxe.map = s.mxe.map ∧
      t.mxe.segs = s.mxe.segs ∧ t.mxe.psn = s.mxe.psn + 1 ∧ t = { s with mxe := t.mxe }) ∧
  (∀ (s : State) (nsid seg : Nat), s.mxe.unloaded.contains (2 ^ 32 * nsid + seg) = true → ∃ t, exec (.segmentLoad nsid seg) s = .next t ∧
    (∀ g, g / 816 = seg → t.mxe.entry nsid g = s.mxe.replayed nsid g) ∧ (∀ k, (∀ g, g / 816 = seg → k ≠ granKey nsid g) → Tbl.find? t.mxe.map k = Tbl.find? s.mxe.map k) ∧
    t = { s with mxe := { s.mxe with map := t.mxe.map, unloaded := s.mxe.unloaded.erase (2 ^ 32 * nsid + seg), jobs := t.mxe.jobs, nextJob := t.mxe.nextJob } }) ∧
  (∀ (s : State) (nsid g : Nat) (a b : Bool),
    ((s.mxe.entry nsid g).flags = .suspect → ∃ t, exec (.suspectRebuild nsid g a b) s = .next t ∧
      (a = true → t.mxe.entry nsid g = s.mxe.replayed nsid g ∧ t = { s with mxe := t.mxe }) ∧
      (a = false → b = true → t.mxe.entry nsid g = ((winner (s.candidatesOf nsid g)).map fun c => c.2.2).getD MapEntry.unmapped ∧ t = { s with mxe := t.mxe }) ∧
      (a = false → b = false → t.mxe.entry nsid g = MapEntry.lost ∧ t = { s with regf := t.regf, mxe := t.mxe, spe := t.spe, cru := t.cru }) ∧
      (∀ k, k ≠ granKey nsid g → Tbl.find? t.mxe.map k = Tbl.find? s.mxe.map k) ∧ t.mxe.nand = s.mxe.nand) ∧
    ((s.mxe.entry nsid g).flags ≠ .suspect → exec (.suspectRebuild nsid g a b) s = .next s)) ∧
  (∀ (s : State) (b : Nat) (x : Band), Tbl.find? s.mxe.bands b = some x →
    (x.state = .closing → x.cap ≤ x.fill → x.summaries = [] → s.bandVerifying x = false → (∀ o ∈ s.dsc.ops, o.2.band = b → isProgram o.2.req.kind = false) →
      ∃ t y, exec (.bandClose b) s = .next t ∧ Tbl.find? t.mxe.bands b = some y ∧ y.state = (if x.wanted then .victim else .closed) ∧ y.thetaClose = some s.cdx.theta.toNat ∧
        y.members = x.members ∧ (∀ n, n ≠ b → Tbl.find? t.mxe.bands n = Tbl.find? s.mxe.bands n) ∧ t.mxe.map = s.mxe.map ∧ t.mxe.nand = s.mxe.nand ∧ t = { s with mxe := t.mxe, spe := t.spe }) ∧
    (x.state = .opened → s.passed x.opened (secTicks (s.obj Ob.OPEN_MAX_S)) = true → ∃ t, exec (.bandOpenTimeout b) s = .next t ∧
      Tbl.find? t.mxe.bands b = some { x with state := .closing, padCls := .gc, summaries := (x.members.filter fun y => !Tbl.has s.mxe.retired (blkKey y.1 y.2)).map Prod.fst } ∧
      (∀ n, n ≠ b → Tbl.find? t.mxe.bands n = Tbl.find? s.mxe.bands n) ∧ t = { s with mxe := { s.mxe with bands := t.mxe.bands } }) ∧
    (∃ t y, exec (.victimSelect b) s = .next t ∧ Tbl.find? t.mxe.bands b = some y ∧
      (x.state = .closed → y = { x with state := .victim, wanted := false, copyCls := .gc }) ∧
      (x.state = .closed → (∀ j ∈ s.mxe.jobs, j.1 < s.mxe.nextJob) → ∀ e ∈ s.bandGranules x, t.mxe.hasJob e.1 e.2.1 e.2.2 = true) ∧
      (x.state = .opened → y.state = .closing ∧ y.wanted = true ∧ y.padCls = .high) ∧ (x.state = .closing → y = { x with wanted := true, copyCls := .gc }) ∧
      (x.state = .victim ∨ x.state = .released ∨ x.state = .erasing → t = s) ∧ (∀ n, n ≠ b → Tbl.find? t.mxe.bands n = Tbl.find? s.mxe.bands n) ∧
      t = { s with mxe := { s.mxe with bands := t.mxe.bands, jobs := t.mxe.jobs, nextJob := t.mxe.nextJob } }) ∧
    (x.state = .victim → s.bandCopying b x = false → s.bandReading x = false → ∃ t, exec (.bandRelease b) s = .next t ∧
      Tbl.find? t.mxe.bands b = some { x with state := .released } ∧ (∀ n, n ≠ b → Tbl.find? t.mxe.bands n = Tbl.find? s.mxe.bands n) ∧
      t = { s with mxe := { s.mxe with bands := t.mxe.bands, jobs := s.mxe.jobs.filter fun j => j.2.band != b } }) ∧
    (s.bandCopying b x = true ∨ s.bandReading x = true → exec (.bandRelease b) s = .next s)) ∧
  (∀ s : State,
    (s.lzFree < s.obj Ob.LZ_FOLD_START_PCT ∨ s.mxe.folding = true → ∃ t, exec .foldStart s = .next t ∧ t.mxe.folding = true ∧
      (∀ b x, s.mxe.oldestLanding = some b → Tbl.find? s.mxe.bands b = some x → x.state = .closed →
        Tbl.find? t.mxe.bands b = some { x with state := .victim, wanted := false, copyCls := .gc }) ∧
      t = { s with mxe := { s.mxe with folding := true, bands := t.mxe.bands, jobs := t.mxe.jobs, nextJob := t.mxe.nextJob } }) ∧
    (s.obj Ob.LZ_FOLD_START_PCT ≤ s.lzFree → s.mxe.folding = false → exec .foldStart s = .next s) ∧
    (s.obj Ob.LZ_FOLD_START_PCT + 10 < s.lzFree → exec .foldStop s = .next { s with mxe := { s.mxe with folding := false } }) ∧
    (s.lzFree ≤ s.obj Ob.LZ_FOLD_START_PCT + 10 → exec .foldStop s = .next s))

/-! ## Die scheduling (spec/08) -/

/-- R184, R190, R191, R192, R193, R214 to R219, R224, R226, R229, R234, R255: an operation enters its die's queue, starts in its turn and holds its cost, and its end returns the cost and reaches its submitter: a read's data waits for the channel, a program's pages and an erase's block are as reported. -/
def Obligations.DieOperationsRunInTheirTurn : Prop :=
  (∀ (s : State) (op : OpRequest), s.dsc.dieState op.die ≠ .offline →
    (∀ why r n, op.kind = .read → n = max 1 (min op.planes (s.fca.planes - op.block % s.fca.planes)) →
      (s.dropStaleJobs op.die ((List.range n).map fun pl => (op.block + pl, op.page))).readFor op ((List.range n).map fun pl => (op.block + pl, op.page)) = some (why, r) →
      (why = .scrub → (s.bandAt r.die r.block).any (fun b => s.scrubMay b.2) = true) → (s.rebuildRead why r = true → s.spe.rbFree ≤ s.now.toNat) →
      ∃ t o, exec (.dieOperationSubmit op) s = .next t ∧ Tbl.find? t.dsc.ops s.dsc.nextOp = some o ∧ o.why = why ∧ o.req = { r with planes := n } ∧ o.submit = s.now ∧
        o.pages = ((List.range n).map fun pl => (op.block + pl, op.page)) ∧ (r.die = op.die → s.dsc.nextOp ∈ (t.dsc.die op.die).queue ∨ s.dsc.nextOp ∈ (t.dsc.die op.die).arriving) ∧
        (why ≠ .scrub → t.cdx = s.cdx) ∧ (s.rebuildRead why r = false → t.spe = s.spe) ∧
        t = { s with dsc := { s.dsc with dies := t.dsc.dies, ops := t.dsc.ops, nextOp := s.dsc.nextOp + 1 }, mxe := { s.mxe with jobs := t.mxe.jobs }, cdx := { s.cdx with scrubFree := t.cdx.scrubFree }, spe := { s.spe with rbFree := t.spe.rbFree } }) ∧
    (∀ n b, isProgram op.kind = true → Tbl.has s.mxe.retired (blkKey op.die (s.fca.sbOf op.block)) = false → s.bandAt op.die op.block = some (n, b) → modeKind b.mode = op.kind →
      s.inOrder op = true → ((b.state = .closing ∧ b.fill < b.cap ∧ s.psPending = false) ∨ (b.state = .opened ∧ b.cont = [] ∧ s.dataPages b op ≠ [] ∧
        (∀ x ∈ s.mxe.place, x.gsize = 0 ∧ x.src ≠ .pad) ∧ ∃ x ∈ s.mxe.place, s.placeable b op.die x = true)) →
      ∃ t o, exec (.dieOperationSubmit op) s = .next t ∧ Tbl.find? t.dsc.ops s.dsc.nextOp = some o ∧ o.why = .place ∧ o.band = n ∧ o.pages = s.dataPages b op ∧ o.submit = s.now ∧
        (b.state = .closing → o.req.cls = b.padCls ∧ ∀ x ∈ o.slots, x.src = .pad) ∧ (s.dsc.nextOp ∈ (t.dsc.die op.die).queue ∨ s.dsc.nextOp ∈ (t.dsc.die op.die).arriving) ∧
        t = { s with dsc := { s.dsc with dies := t.dsc.dies, ops := t.dsc.ops, nextOp := s.dsc.nextOp + 1 }, mxe := { s.mxe with bands := t.mxe.bands, place := t.mxe.place } }) ∧
    (∀ x, isProgram op.kind = true → Tbl.has s.mxe.retired (blkKey op.die (s.fca.sbOf op.block)) = false → s.bandAt op.die op.block = none → s.inOrder op = true → s.firstFor op = some x →
      s.freeBlock op.die (s.fca.sbOf op.block) = true → (s.mxe.openBands.filter fun e => e.2.kind == x.kind).length < kindLimit x.kind →
      s.lzRoom x.kind (s.newMembers x.kind x.slice op.die (s.fca.sbOf op.block)).length = true → ∃ t b, exec (.dieOperationSubmit op) s = .next t ∧
        Tbl.find? t.mxe.bands s.mxe.bsn = some b ∧ b.kind = x.kind ∧ b.state = .opened ∧ b.bsn = s.mxe.bsn ∧ b.members = s.newMembers x.kind x.slice op.die (s.fca.sbOf op.block) ∧
        t = { s with dsc := { s.dsc with dies := t.dsc.dies, ops := t.dsc.ops, nextOp := t.dsc.nextOp }, mxe := { s.mxe with bands := t.mxe.bands, place := t.mxe.place, bsn := s.mxe.bsn + 1 } }) ∧
    (op.kind = .erase → s.psPending = false → Tbl.has s.mxe.retired (blkKey op.die (s.fca.sbOf op.block)) = false →
      (∀ n b, s.bandAt op.die op.block = some (n, b) → (b.state = .released ∨ b.state = .erasing) → (∀ o ∈ s.dsc.ops, ¬(o.2.req.die = op.die ∧ o.2.why = .erase n)) →
        ∃ t o, exec (.dieOperationSubmit op) s = .next t ∧ Tbl.find? t.dsc.ops s.dsc.nextOp = some o ∧ o.why = .erase n ∧
          o.req = { op with cls := .gc, block := s.fca.sbOf op.block * s.fca.planes, planes := s.fca.planes } ∧ o.submit = s.now ∧
          (s.dsc.nextOp ∈ (t.dsc.die op.die).queue ∨ s.dsc.nextOp ∈ (t.dsc.die op.die).arriving) ∧
          t = { s with dsc := { s.dsc with dies := t.dsc.dies, ops := t.dsc.ops, nextOp := s.dsc.nextOp + 1 }, mxe := { s.mxe with bands := t.mxe.bands } }) ∧
      (∀ n b, s.bandAt op.die op.block = some (n, b) → b.state ≠ .released → b.state ≠ .erasing → exec (.dieOperationSubmit op) s = .next s) ∧
      (s.bandAt op.die op.block = none → ∃ t o, exec (.dieOperationSubmit op) s = .next t ∧ Tbl.find? t.dsc.ops s.dsc.nextOp = some o ∧ o.why = .other ∧
        t = { s with dsc := { s.dsc with dies := t.dsc.dies, ops := t.dsc.ops, nextOp := s.dsc.nextOp + 1 } }))) ∧
  (∀ (s : State) (op : OpRequest), (s.dsc.dieState op.die = .offline ∨ (s.psPending = true ∧ op.kind = .erase)) → exec (.dieOperationSubmit op) s = .next s) ∧
  (∀ (s : State) (d i : Nat) (o : DieOp), s.hum.dump = none → s.firstOp (s.candidates d) = some (i, o) →
    (s.guardOn d = false → s.mayStart o = true → s.startTurn d o = true → ∃ t es, exec (.dieOperationStart d) s = .next t ∧ (t.dsc.die d).active = some i ∧
      t.dsc.held = s.dsc.held + o.cost ∧
      t.out = .nand d (if o.resume then .resume else s.confirmOf o) (opcodeBytes (s.opcodeEntry (if o.resume then .resume else s.confirmOf o) o.req.kind o.req.planes)) :: (es ++ s.out) ∧
      (s.volSelected d = true → o.req.kind ≠ .read → es = []) ∧
      (isProgram o.req.kind = true → o.resume = false → ∀ b, Tbl.find? s.mxe.bands o.band = some b → t.mxe.psn = s.mxe.psn + 1) ∧
      (isProgram o.req.kind = false → t = { s with out := t.out, dsc := t.dsc, cdx := { s.cdx with lunSet := t.cdx.lunSet, corr := t.cdx.corr }, fca := { s.fca with chs := t.fca.chs } }) ∧
      t.mxe.map = s.mxe.map ∧ t.mxe.nand = s.mxe.nand ∧
      t = { s with out := t.out, regf := t.regf, qen := t.qen, mxe := t.mxe, dsc := t.dsc, fca := t.fca, cdx := t.cdx, spe := t.spe, cru := t.cru }) ∧
    (s.guardOn d = false → s.mayStart o = false ∨ s.startTurn d o = false → exec (.dieOperationStart d) s = .next s) ∧
    (s.guardOn d = true → (∀ e ∈ s.candidates d, e.2.pe = true) → o.withheld = false → ∃ t, exec (.dieOperationStart d) s = .next t ∧
      (∀ p, Tbl.find? s.dsc.ops i = some p → Tbl.find? t.dsc.ops i = some { p with withheld := true }) ∧
      t.fld Fld.FCA_GUARD_CNT.WITHHELD = min (2 ^ Fld.FCA_GUARD_CNT.WITHHELD.width - 1) (s.fld Fld.FCA_GUARD_CNT.WITHHELD + 1) ∧
      t = { s with regf := t.regf, dsc := { s.dsc with ops := t.dsc.ops } })) ∧
  (∀ (s : State) (d i : Nat) (o : DieOp), s.dsc.running d = some (i, o) → s.fca.gapHeld = false → (s.dsc.die d).found = some s.now → (∀ n, o.why ≠ .dump n) →
    ((s.dsc.die d).state = .suspPend → ∃ t, exec (.dieReady d .suspended) s = .next t ∧ (t.dsc.die d).state = .suspended ∧ (t.dsc.die d).held = some i ∧
      (t.dsc.die d).active = none ∧ (t.dsc.die d).readyAt = s.now + 1 ∧ t.dsc.held = s.dsc.held - o.cost ∧ Tbl.find? t.dsc.ops i = some { o with ran := o.ran + s.since o.started } ∧
      t = { s with dsc := { s.dsc with dies := t.dsc.dies, ops := t.dsc.ops, held := t.dsc.held, credit := t.dsc.credit } }) ∧
    (∀ st, (st = .good ∨ st = .fail) → o.req.kind = .read → ∃ t, exec (.dieReady d st) s = .next t ∧ Tbl.find? t.dsc.ops i = none ∧
      t.dsc.held = s.dsc.held - o.cost ∧ (t.dsc.die d).active = none ∧ (t.dsc.die d).readyAt = s.now + 1 ∧
      t.fca.xfers = s.fca.xfers ++ [{ op := o, begun := false, left := 18944 * o.pages.length, ready := s.now }] ∧
      Tbl.getD t.mxe.reads (blkKey o.req.die (s.fca.sbOf o.req.block)) 0 = min 0xFFFFFFFF (Tbl.getD s.mxe.reads (blkKey o.req.die (s.fca.sbOf o.req.block)) 0 + o.pages.length) ∧
      t = { s with dsc := t.dsc, mxe := { s.mxe with reads := t.mxe.reads }, fca := { s.fca with xfers := t.fca.xfers } }) ∧
    (o.req.kind = .erase → ∃ t, exec (.dieReady d .good) s = .next t ∧ Tbl.find? t.dsc.ops i = none ∧ t.dsc.held = s.dsc.held - o.cost ∧
      (∀ e ∈ t.mxe.nand, ¬(e.1 / 4096 / 8192 = d ∧ s.fca.sbOf (e.1 / 4096 % 8192) = s.fca.sbOf o.req.block)) ∧
      Tbl.getD t.mxe.erases (blkKey d (s.fca.sbOf o.req.block)) 0 = Tbl.getD s.mxe.erases (blkKey d (s.fca.sbOf o.req.block)) 0 + 1 ∧
      Tbl.find? t.mxe.reads (blkKey d (s.fca.sbOf o.req.block)) = none ∧ t.mxe.map = s.mxe.map ∧ t = { s with dsc := t.dsc, mxe := t.mxe, cdx := { s.cdx with corr := t.cdx.corr } }) ∧
    (o.req.kind = .erase → ∃ t, exec (.dieReady d .fail) s = .next t ∧ Tbl.find? t.dsc.ops i = none ∧ t.dsc.held = s.dsc.held - o.cost ∧
      Tbl.has t.mxe.retired (blkKey d (s.fca.sbOf o.req.block)) = true ∧ t.mxe.nand = s.mxe.nand ∧ t.mxe.map = s.mxe.map) ∧
    (∀ b, isProgram o.req.kind = true → Tbl.find? s.mxe.bands o.band = some b → ∃ t, exec (.dieReady d .good) s = .next t ∧ t.dsc.held = s.dsc.held - o.cost ∧
      (∀ p ∈ o.pages, ∃ g, Tbl.find? t.mxe.nand (pageKey d p.1 p.2) = some g ∧ g.good = true ∧ g.psn = o.psn) ∧
      (∀ k, (∀ p ∈ o.pages, k ≠ pageKey d p.1 p.2) → Tbl.find? t.mxe.nand k = Tbl.find? s.mxe.nand k) ∧ t.mxe.map = s.mxe.map ∧
      t = { s with qen := t.qen, mxe := t.mxe, dsc := t.dsc, fca := t.fca, spe := t.spe }) ∧
    (∀ b, isProgram o.req.kind = true → Tbl.find? s.mxe.bands o.band = some b → ∃ t, exec (.dieReady d .fail) s = .next t ∧ t.dsc.held = s.dsc.held - o.cost ∧
      (∀ p ∈ o.pages, ∃ g, Tbl.find? t.mxe.nand (pageKey d p.1 p.2) = some g ∧ g.good = false) ∧ Tbl.has t.mxe.retired (blkKey d (s.fca.sbOf o.req.block)) = true ∧ t.mxe.map = s.mxe.map)) ∧
  (∀ (s : State) (d : Nat) (st : DieStatus), (s.dsc.running d = none ∨ s.fca.gapHeld = true ∨ (s.dsc.die d).found ≠ some s.now) → exec (.dieReady d st) s = .next s) ∧
  (∀ (s : State) (i us : Nat) (o : DieOp) (c : OpClass), Tbl.find? s.dsc.ops i = some o → s.ageLimit o.eff = some (us, c) → o.promoted = false →
    (s.dsc.die o.req.die).active ≠ some i → usTicks o.ageUs < s.since o.submit → ¬(s.dsc.step = 2 ∧ (o.eff = .background ∨ o.eff = .gc)) →
    ∃ t, exec (.dieAgePromotion i) s = .next t ∧ Tbl.find? t.dsc.ops i = some { o with eff := c, promoted := true } ∧
      (∀ j, j ≠ i → Tbl.find? t.dsc.ops j = Tbl.find? s.dsc.ops j) ∧
      t.fld Fld.DSC_PROMOTE_CNT.COUNT = min (2 ^ Fld.DSC_PROMOTE_CNT.COUNT.width - 1) (s.fld Fld.DSC_PROMOTE_CNT.COUNT + 1) ∧
      t = { s with regf := t.regf, dsc := { s.dsc with ops := t.dsc.ops } })

/-- R56, R219 to R223, R225, R227, R230 to R232, R240, R332: suspends and resumes, dies that leave and return, the budget of each interval with the objects then in force, and the thermal step. -/
def Obligations.DiesSuspendLeaveAndKeepTheBudget : Prop :=
  (∀ (s : State) (d i : Nat) (o : DieOp), s.dsc.running d = some (i, o) → (s.dsc.die d).state = .busy → o.pe = true → s.suspender d o = true →
    (s.dsc.die d).readyAt.toNat ≤ s.now.toNat → s.fca.gapHeld = false →
    (o.susp < s.suspMax o → ∃ t es, exec (.suspendIssue d) s = .next t ∧ (t.dsc.die d).state = .suspPend ∧ Tbl.find? t.dsc.ops i = some { o with susp := o.susp + 1 } ∧
      t.out = .nand d .suspend (opcodeBytes (s.opcodeEntry .suspend o.req.kind 1)) :: (es ++ s.out) ∧ (s.volSelected d = true → es = []) ∧
      t.fld Fld.DSC_SUSP_CNT.COUNT = min (2 ^ Fld.DSC_SUSP_CNT.COUNT.width - 1) (s.fld Fld.DSC_SUSP_CNT.COUNT + 1) ∧
      t = { s with out := t.out, regf := t.regf, fca := { s.fca with chs := t.fca.chs }, dsc := { s.dsc with dies := t.dsc.dies, ops := t.dsc.ops } }) ∧
    (s.suspMax o ≤ o.susp → ∃ t, exec (.suspendIssue d) s = .next t ∧
      t.fld Fld.DSC_SUSP_DENY.COUNT = min (2 ^ Fld.DSC_SUSP_DENY.COUNT.width - 1) (s.fld Fld.DSC_SUSP_DENY.COUNT + 1) ∧ t = { s with regf := t.regf })) ∧
  (∀ (s : State) (d i : Nat) (o : DieOp), (s.dsc.die d).held = some i → Tbl.find? s.dsc.ops i = some o → (s.dsc.die d).state = .suspended → (s.dsc.die d).active = none →
    ((∀ j ∈ (s.dsc.die d).queue, ∀ r, Tbl.find? s.dsc.ops j = some r → ¬(r.req.kind = .read ∧ s.suspClass r.eff = true)) ∨ 8 ≤ (s.dsc.die d).suspReads) →
    ∃ t, exec (.resumeSubmit d) s = .next t ∧ Tbl.find? t.dsc.ops i = some { o with resume := true } ∧ t = { s with dsc := { s.dsc with ops := t.dsc.ops } }) ∧
  (∀ (s : State) (d : Nat),
    (s.dsc.dieState d = .offline → exec (.dieOffline d) s = .next s) ∧
    (s.dsc.dieState d ≠ .offline → (∀ o ∈ s.dsc.ops, o.2.req.die = d → ∀ n, o.2.why ≠ .dump n) → ∃ t, exec (.dieOffline d) s = .next t ∧ t.dsc.dieState d = .offline ∧
      (∀ o ∈ t.dsc.ops, o.2.req.die ≠ d) ∧ (∀ x ∈ t.fca.xfers, x.op.req.die ≠ d) ∧ d ∈ t.spe.failed ∧ (∀ b, b < s.fca.part.blocks → Tbl.has t.mxe.retired (blkKey d b) = true) ∧
      (∀ e, e ≠ d → t.dsc.dieState e = s.dsc.dieState e) ∧ t.mxe.map = s.mxe.map ∧ t.mxe.nand = s.mxe.nand) ∧
    (Tbl.has s.dsc.dies d = true → s.dsc.dieState d = .offline → ((Tbl.find? s.fca.chs (chOf d)).any Channel.trained) = true → ∃ t, exec (.dieReenable d) s = .next t ∧
      t.dsc.die d = { Die.initial with readyAt := s.now + 1, timeoutAt := (s.dsc.die d).timeoutAt } ∧ d ∉ t.spe.failed ∧ (∀ e ∈ t.mxe.retired, ¬(e.1 / 8192 = d ∧ e.2 = causeDie)) ∧
      t.mxe.map = s.mxe.map ∧ t.mxe.nand = s.mxe.nand) ∧
    (((Tbl.find? s.fca.chs (chOf d)).any Channel.trained) = false → exec (.dieReenable d) s = .next s)) ∧
  (∀ s : State, s.now.toNat % 8000 = 0 → ∃ t, exec .rebudget s = .next t ∧ t.timers = { s.timers with rebudget := s.now } ∧ t.qen.psPost = [] ∧
    (∀ c ∈ s.qen.psPost, ∀ x, Tbl.find? s.qen.ctxs c = some x → ∃ y, Tbl.find? t.qen.ctxs c = some y ∧ y.state = .ready ∧ y.status = 0) ∧
    (∀ i o, Tbl.find? s.dsc.ops i = some o → ∃ p, Tbl.find? t.dsc.ops i = some p ∧
      p.cost = (if (s.dsc.die o.req.die).active = some i then o.cost else s.dueObjects.opCost o.req.kind o.req.planes) ∧ o.ageUs ≤ p.ageUs ∧ o.suspLim ≤ p.suspLim) ∧
    (s.dsc.decided = none ∨ s.now.toNat ≤ s.dsc.decideTick.toNat → t.dsc.budget = s.dueObjects.budgetOf s.dsc.step ∧ t.dsc.step = s.dsc.step ∧
      t = { s with timers := t.timers, sheetOld := s.dueObjects.sheetOld, regf := t.regf, qen := { s.qen with ctxs := t.qen.ctxs, psPost := [] }, dsc := { s.dsc with budget := t.dsc.budget, chBytes := t.dsc.chBytes, ops := t.dsc.ops } }) ∧
    (∀ st, s.dsc.decided = some st → s.dsc.decideTick.toNat < s.now.toNat → t.dsc.budget = s.dueObjects.budgetOf st ∧ t.dsc.step = st ∧ t.dsc.decided = none) ∧
    t.mxe = s.mxe ∧ t.fca = s.fca ∧ t.power = s.power) ∧
  (∀ (s : State), s.now.toNat % 8000 ≠ 0 → exec .rebudget s = .next s) ∧
  (∀ (s : State) (temps : List Int), s.passed s.timers.sensors (usTicks 100) = true → ∃ t, exec (.junctionSensorRead temps) s = .next t ∧
    t.timers = { s.timers with sensors := s.timers.sensors + 80000 } ∧ t.dsc.sensors = ((List.range 8).map fun i => (temps.getD i 0 :: s.dsc.sensors.getD i []).take 8) ∧
    (∀ x ∈ t.dsc.sensors, meanOf x ≤ t.dsc.tj) ∧ (∃ x ∈ t.dsc.sensors, meanOf x = t.dsc.tj) ∧
    t.power.coolSince = (if (List.range 8).all (fun i => decide (temps.getD i 0 < 110)) then some (s.power.coolSince.getD s.now) else none) ∧
    (s.dsc.target < 2 → s.stepC 2 ≤ t.dsc.tj → t.dsc.decided = some 2 ∧ t.dsc.decideTick = s.now) ∧
    (s.dsc.target = 0 → s.stepC 1 ≤ t.dsc.tj → t.dsc.tj < s.stepC 2 → t.dsc.decided = some 1 ∧ t.dsc.decideTick = s.now) ∧
    (s.dsc.target = 0 → t.dsc.tj < s.stepC 1 → t.dsc.tj < s.stepC 2 → t.dsc.decided = s.dsc.decided) ∧
    (∀ b, s.dsc.target = 1 → t.dsc.tj < s.stepC 1 - s.obj Ob.STEP_HYST_C → t.dsc.tj < s.stepC 1 → t.dsc.tj < s.stepC 2 → s.dsc.belowSince = some b → s.passed b (msTicks 10) = true →
      s.passed s.dsc.decideTick (msTicks 10) = true → t.dsc.decided = some 0 ∧ t.dsc.decideTick = s.now) ∧
    t = { s with timers := t.timers, power := { s.power with coolSince := t.power.coolSince }, dsc := { s.dsc with sensors := t.dsc.sensors, tj := t.dsc.tj, decided := t.dsc.decided, decideTick := t.dsc.decideTick, belowSince := t.dsc.belowSince } })
/-! ## Flash channels (spec/09) -/

/-- R243, R245 to R249, R251, R253 to R257, R259: what training finds decides rates and dies; polls and timeouts reach the running operation; the guard's conditions activate and clear; temperatures are noted; pages are read back for verify. -/
def Obligations.ChannelsTrainPollAndGuard : Prop :=
  (∀ (s : State) (part : NandPart) (found : List ChannelFound), s.power.stage = .stair → s.fca.initialised = false →
    ∃ t, exec (.channelInit part found) s = .next t ∧ t.fca.part = part ∧ t.fca.initialised = true ∧ t.mxe.map = s.mxe.map ∧ t.mxe.nand = s.mxe.nand ∧
      ((∀ f ∈ found, f.ch < 32) → found.Pairwise (fun a b => a.ch ≠ b.ch) →
        (∀ f ∈ found, (∃ c, Tbl.find? t.fca.chs f.ch = some c ∧ c.mts = stepAtMost (min (s.mtsCap (s.obj Ob.MODE) f.ch) f.passMts) ∧ (c.trained = true ↔ c.mts ≠ 0) ∧
            c.mode = s.obj Ob.MODE ∧ c.multi = s.multiDrop f.ch) ∧
          ∀ p ∈ s.positions f, t.dsc.dieState (32 * p + f.ch) = if stepAtMost (min (s.mtsCap (s.obj Ob.MODE) f.ch) f.passMts) = 0 ∨ f.trainFail.getLsbD p = true ∨ f.mismatch.getLsbD p = true
            ∨ 32 * p + f.ch ∈ s.spe.failed then .offline else .idle) ∧
        (∀ d, (∀ f ∈ found, chOf d ≠ f.ch) → t.dsc.dieState d = s.dsc.dieState d) ∧
        (∀ k, (∀ f ∈ found, k ≠ f.ch) → Tbl.find? t.fca.chs k = Tbl.find? s.fca.chs k))) ∧
  (∀ (s : State) (part : NandPart) (found : List ChannelFound), s.power.stage ≠ .stair ∨ s.fca.initialised = true → exec (.channelInit part found) s = .next s) ∧
  (∀ s : State, s.power.stage = .hall → s.passed s.timers.zq (secTicks (s.obj Ob.RETRAIN_S)) = true → s.fca.gapHeld = false → ∃ t, exec .zqCalibration s = .next t ∧
    t.timers = { s.timers with zq := s.lastDue s.timers.zq (secTicks (s.obj Ob.RETRAIN_S)) } ∧
    (∀ d ∈ s.dsc.dies, d.1 / 32 % 2 = 0 → Emission.nand d.1 .zqShort (opcodeBytes (s.obj Ob.OPCODES_13)) ∈ t.out) ∧
    t = { s with out := t.out, timers := t.timers, fca := { s.fca with chs := t.fca.chs } }) ∧
  (∀ (s : State) (ch ce mts : Nat) (fails : List Nat) (x : Channel), s.power.stage = .hall → Tbl.find? s.fca.chs ch = some x → x.trained = true → s.retrainDue ch ce = true →
    s.fca.gapHeld = false → ∃ t c, exec (.channelRetrain ch ce ⟨mts, fails⟩) s = .next t ∧ Tbl.find? t.fca.chs ch = some c ∧ c.mts = stepAtMost (min (s.mtsCap x.mode ch) mts) ∧
      (c.trained = true ↔ c.mts ≠ 0) ∧ c.mode = x.mode ∧ (∀ k, k ≠ ch → Tbl.find? t.fca.chs k = Tbl.find? s.fca.chs k) ∧ t.fca.trainDue = s.fca.trainDue.filter (· != (ch, ce)) ∧
      (∀ d, (s.dsc.onCe ch ce).head? = some d → Emission.nand d .training [] ∈ t.out) ∧
      (c.mts = 0 → ∀ d ∈ s.dsc.dies, chOf d.1 = ch → ceOf d.1 ≤ 1 → t.dsc.dieState d.1 = .offline) ∧
      (c.mts ≠ 0 → (∀ d ∈ s.dsc.onCe ch ce, d / 32 ∈ fails → t.dsc.dieState d = .offline) ∧
        (∀ d, (d ∉ s.dsc.onCe ch ce ∨ d / 32 ∉ fails) → t.dsc.dieState d = s.dsc.dieState d) ∧
        (c.mts < stepAtMost (s.mtsCap x.mode ch) → t.fld Fld.FCA_CH_EVT.RATE_DOWN ch = 1) ∧
        ((∀ d ∈ s.dsc.onCe ch ce, d / 32 ∉ fails) →
          t = { s with out := t.out, regf := t.regf, fca := { s.fca with chs := t.fca.chs, trainDue := t.fca.trainDue }, cru := t.cru })) ∧
      t.mxe.map = s.mxe.map ∧ t.mxe.nand = s.mxe.nand) ∧
  (∀ (s : State) (ch ce mts : Nat) (fails : List Nat), s.retrainDue ch ce = false → exec (.channelRetrain ch ce ⟨mts, fails⟩) s = .next s) ∧
  (∀ (s : State) (d i : Nat) (o : DieOp) (r : Bool), s.dsc.running d = some (i, o) → s.fca.gapHeld = false →
    ((s.dsc.die d).pollDue ≤ s.now.toNat → ∃ t es, exec (.statusPoll d r) s = .next t ∧ t.out = .nand d .poll (opcodeBytes (s.obj Ob.OPCODES_0C)) :: (es ++ s.out) ∧
      (s.volSelected d = true → es = []) ∧ t.dsc.die d = { s.dsc.die d with pollDue := s.now.toNat + o.timing.again, found := if r = true then some s.now else (s.dsc.die d).found } ∧
      (∀ e, e ≠ d → t.dsc.die e = s.dsc.die e) ∧ t = { s with out := t.out, dsc := { s.dsc with dies := t.dsc.dies }, fca := { s.fca with chs := t.fca.chs } }) ∧
    (s.now.toNat < (s.dsc.die d).pollDue → exec (.statusPoll d r) s = .next s) ∧
    (s.passed o.started o.timing.limit = true → ∃ t, exec (.busyTimeout d) s = .next t ∧ Emission.nand d .resetLun (opcodeBytes (s.obj Ob.OPCODES_10)) ∈ t.out ∧
      (t.dsc.die d).timeoutAt = some s.now ∧ (t.dsc.die d).active = none ∧ t.mxe.map = s.mxe.map ∧
      (∀ u, (s.dsc.die d).timeoutAt = some u → s.passed u (secTicks 1) = false → t.dsc.dieState d = .offline)) ∧
    (s.passed o.started o.timing.limit = false → exec (.busyTimeout d) s = .next s)) ∧
  (∀ (s : State) (g : GuardInput),
    (s.guardTrue g = true → s.fca.guards g = false → ∃ t, exec (.writeGuardActivate g) s = .next t ∧ t.fca.guards g = true ∧ (∀ h, h ≠ g → t.fca.guards h = s.fca.guards h) ∧
      t.fld Fld.FCA_GUARD_EVT.COND = (s.fld Fld.FCA_GUARD_EVT.COND ||| guardBit g) % 2 ^ Fld.FCA_GUARD_EVT.COND.width ∧ t = { s with regf := t.regf, fca := t.fca }) ∧
    (s.guardTrue g = false ∨ s.fca.guards g = true → exec (.writeGuardActivate g) s = .next s) ∧
    (s.guardMayClear g = true → ∃ t, exec (.writeGuardClear g) s = .next t ∧ t.fca.guards g = false ∧ (∀ h, h ≠ g → t.fca.guards h = s.fca.guards h) ∧
      t.fca.cleared = (if s.fca.guards g = true then guardScope g :: s.fca.cleared else s.fca.cleared) ∧ t = { s with fca := t.fca }) ∧
    (s.guardMayClear g = false → exec (.writeGuardClear g) s = .next s)) ∧
  (∀ (s : State) (i : Nat) (o : DieOp), Tbl.find? s.dsc.ops i = some o → o.pe = true → o.withheld = true → msTicks (s.obj Ob.GUARD_WAIT_MS) < o.guardWait →
    (s.dsc.die o.req.die).held ≠ some i → (s.dsc.die o.req.die).active ≠ some i → ∃ t, exec (.guardWaitTimeout i) s = .next t ∧ Tbl.find? t.dsc.ops i = none ∧
      t.dsc.held = s.dsc.held ∧ t.fld Fld.FCA_GUARD_CNT.REPLACED = min (2 ^ Fld.FCA_GUARD_CNT.REPLACED.width - 1) (s.fld Fld.FCA_GUARD_CNT.REPLACED + 1) ∧
      (o.why = .place → ∀ x ∈ o.slots, x.src ≠ .pad → ∃ y ∈ t.mxe.place, PlaceSlot.mate y x = true) ∧
      t.mxe.map = s.mxe.map ∧ t.mxe.nand = s.mxe.nand ∧ t = { s with regf := t.regf, dsc := t.dsc, mxe := t.mxe, cdx := t.cdx }) ∧
  (∀ (s : State) (d : Nat) (c : Int), Tbl.has s.dsc.dies d = true → s.dsc.dieState d ≠ .offline → s.tempDue d = true → s.fca.gapHeld = false →
    ∃ t es, exec (.dieTemperaturePoll d c) s = .next t ∧ Tbl.find? t.fca.temps d = some (c, s.now) ∧ (∀ e, e ≠ d → Tbl.find? t.fca.temps e = Tbl.find? s.fca.temps e) ∧
    t.out = .nand d .getTemperature (opcodeBytes (s.obj Ob.OPCODES_0E)) :: (es ++ s.out) ∧ (s.volSelected d = true → es = []) ∧
    t = { s with out := t.out, fca := { s.fca with temps := t.fca.temps, windowSince := t.fca.windowSince, freshSince := t.fca.freshSince, chs := t.fca.chs } }) ∧
  (∀ (s : State) (d block page n : Nat) (u : Dword) (b : Band), Tbl.find? s.fca.verify (pageKey d block page) = some u → s.bandAt d block = some (n, b) →
    s.passed u (usTicks (s.obj Ob.VERIFY_DELAY_US)) = true → s.dsc.dieState d ≠ .offline → (∀ o ∈ s.dsc.ops, ¬(o.2.why = .verify ∧ o.2.req.die = d ∧ (block, page) ∈ o.2.pages)) →
    (∀ v ∈ s.fca.verifying, v / 4 ≠ pageKey d block page) → ∃ t o, exec (.verifyRead d block page) s = .next t ∧ Tbl.find? t.dsc.ops s.dsc.nextOp = some o ∧ o.why = .verify ∧
      o.req = { kind := .read, die := d, block := block, page := page, planes := 1, cls := if b.kind = .landing ∨ b.kind = .system then .high else .gc, raised := false, slice := b.slice } ∧
      o.pages = [(block, page)] ∧ o.submit = s.now ∧ (s.dsc.nextOp ∈ (t.dsc.die d).queue ∨ s.dsc.nextOp ∈ (t.dsc.die d).arriving) ∧
      t = { s with dsc := { s.dsc with dies := t.dsc.dies, ops := t.dsc.ops, nextOp := s.dsc.nextOp + 1 } })

/-! ## Codec and keys (spec/10) -/

/-- R260, R262, R274, R275, R282, R283, R285, R288, R289, R311: an engine's codeword ends a decode. A poisoned frame is read again; one that fails its level goes on to the next with its recovery reads; a decode is counted at its level and its data reaches its reader; a misdirected slot is counted; at L6 the granule becomes LOST; a verify read passes or fails its page. -/
def Obligations.CodewordsEndAtTheirLevel : Prop :=
  ∀ (s : State) (l : Loc) (r : DecodeResult),
    (((∃ f ∈ s.cdx.frames, f.loc = l ∧ f.eng ≠ .verify ∧ f.busy = true) ∨ s.offlineRead l = true) →
      (r.poison = true → s.poisonRepeat l < 2 → ∃ t, exec (.codewordDecode l r) s = .next t ∧ t.poisonRepeat l = s.poisonRepeat l + 1 ∧ t.cdx.climbed l = s.cdx.climbed l ∧
        (s.dsc.dieState l.die ≠ .offline → ∃ o, Tbl.find? t.dsc.ops s.dsc.nextOp = some o ∧ o.req.kind = .read ∧ o.req.die = l.die ∧ o.pages = [(l.block, l.page)] ∧
          o.submit = s.now ∧ ∃ v, o.why = .recover l v) ∧
        t = { s with dsc := { s.dsc with dies := t.dsc.dies, ops := t.dsc.ops, nextOp := t.dsc.nextOp },
                     cdx := { s.cdx with frames := t.cdx.frames, poisonTry := t.cdx.poisonTry, climb := t.cdx.climb } }) ∧
      (¬(r.poison = true ∧ s.poisonRepeat l < 2) →
        (∀ k st n b, s.readerOf l ≠ .nobody → s.stepAfter l r = some (k, st) → s.bandAt l.die l.block = some (n, b) → ∃ t, exec (.codewordDecode l r) s = .next t ∧
          t.cdx.climbed l = k + 1 ∧ t.dsc.nextOp = s.dsc.nextOp + (s.stepReads l b st).length ∧
          (∀ j p, (s.stepReads l b st)[j]? = some p → ∃ o, Tbl.find? t.dsc.ops (s.dsc.nextOp + j) = some o ∧ o.why = .recover l p.2 ∧ (o.req.die, o.req.block, o.req.page) = p.1 ∧
            o.req.kind = .read ∧ o.req.cls = (s.readerCls (s.readerOf l)).1 ∧ o.submit = s.now) ∧
          t = { s with dsc := { s.dsc with dies := t.dsc.dies, ops := t.dsc.ops, nextOp := t.dsc.nextOp }, cdx := { s.cdx with frames := t.cdx.frames, climb := t.cdx.climb } }) ∧
        (s.readerOf l = .nobody ∨ s.stepAfter l r = none →
          (∀ c v, v = max (s.levelOf l r) (s.stepLevel l (s.cdx.climbed l)) → s.levelOf l r < 6 → s.readerRoom l = true → r.headerOk = true → s.mxe.cell l = some c →
            ∃ t, exec (.codewordDecode l r) s = .next t ∧ t.fld Fld.CDX_LVL_CNT.COUNT v = min (2 ^ Fld.CDX_LVL_CNT.COUNT.width - 1) (s.fld Fld.CDX_LVL_CNT.COUNT v + 1) ∧
            (∀ x w k, s.readerOf l = .host x w → Tbl.find? s.qen.ctxs x = some k → k.win = none → ∃ k', Tbl.find? t.qen.ctxs x = some k' ∧
              ∀ y ∈ k'.work, y.slotNo = w.slotNo → (y.data.isSome = true ∨ y.lost = true)) ∧
            t.mxe.map = s.mxe.map ∧ t.mxe.nand = s.mxe.nand ∧ t.mxe.psn = s.mxe.psn) ∧
          (s.levelOf l r < 6 → s.readerRoom l = true → r.headerOk = false → ∃ t, exec (.codewordDecode l r) s = .next t ∧
            t.fld Fld.CDX_MISDIR_CNT.COUNT = min (2 ^ Fld.CDX_MISDIR_CNT.COUNT.width - 1) (s.fld Fld.CDX_MISDIR_CNT.COUNT + 1) ∧
            (∀ nsid g d k, s.readerOf l = .merge nsid g d k → (t.mxe.entry nsid g).flags = .suspect) ∧ t.mxe.nand = s.mxe.nand) ∧
          (s.levelOf l r = 6 → s.excRoom = true → ∃ t, exec (.codewordDecode l r) s = .next t ∧
            t.fld Fld.CDX_LVL_CNT.COUNT 6 = min (2 ^ Fld.CDX_LVL_CNT.COUNT.width - 1) (s.fld Fld.CDX_LVL_CNT.COUNT 6 + 1) ∧
            (∀ n nsid g k q, s.granuleOf l = some (n, nsid, g, k, q) → t.mxe.entry nsid g = MapEntry.lost) ∧ t.mxe.nand = s.mxe.nand) ∧
          ((s.levelOf l r = 6 ∧ s.excRoom = false) ∨ (s.levelOf l r < 6 ∧ s.readerRoom l = false) → exec (.codewordDecode l r) s = .next s)))) ∧
    ((∀ f ∈ s.cdx.frames, f.loc = l → f.eng ≠ .verify → f.busy = false) → s.offlineRead l = false →
      (4 * pageKey l.die l.block l.page + l.slot ∈ s.fca.verifying → (∃ f ∈ s.cdx.frames, f.loc = l ∧ f.eng = .verify ∧ f.busy = true) →
        (r.level = 0 → r.headerOk = true → r.bits ≤ s.obj Ob.VERIFY_MAX_BITS → ∃ t, exec (.codewordDecode l r) s = .next t ∧ t.cdx.frames.length + 1 = s.cdx.frames.length ∧
          t.fca.verifying = s.fca.verifying.filter (· != 4 * pageKey l.die l.block l.page + l.slot) ∧
          t = { s with cdx := { s.cdx with frames := t.cdx.frames }, fca := { s.fca with verifying := t.fca.verifying, verify := t.fca.verify } }) ∧
        (¬(r.level = 0 ∧ r.headerOk = true ∧ r.bits ≤ s.obj Ob.VERIFY_MAX_BITS) → ∃ t, exec (.codewordDecode l r) s = .next t ∧
          Tbl.find? t.fca.verify (pageKey l.die l.block l.page) = none ∧ t.fld Fld.FCA_VERIFY_FAIL.COUNT = min (2 ^ Fld.FCA_VERIFY_FAIL.COUNT.width - 1) (s.fld Fld.FCA_VERIFY_FAIL.COUNT + 1) ∧
          Tbl.getD t.mxe.bump (blkKey l.die (s.fca.sbOf l.block)) 0 = min 7 (Tbl.getD s.mxe.bump (blkKey l.die (s.fca.sbOf l.block)) 0 + 1) ∧
          t.mxe.map = s.mxe.map ∧ t.mxe.nand = s.mxe.nand)) ∧
      (4 * pageKey l.die l.block l.page + l.slot ∉ s.fca.verifying → exec (.codewordDecode l r) s = .next s))

/-- R277, R293, R294, R296 to R298, R303: the thermal clock, scrub visits and windows, wear, and the key operations. -/
def Obligations.ThermalClockScrubWearAndKeys : Prop :=
  (∀ s : State, s.passed s.timers.theta (msTicks 100) = true → ∃ t, exec .thetaUpdate s = .next t ∧
    t.cdx = { s.cdx with theta := s.cdx.theta + BitVec.ofNat 64 (Config.afAdvance s.afTable s.meanTemp 100), tMean := s.meanTemp } ∧
    t.timers = { s.timers with theta := s.timers.theta + 80000000 } ∧
    t.sheetVal Ob.THETA_MS Ob.THETA_MS.idx Ob.THETA_MS.sub = t.cdx.theta.toNat ∧ t = { s with timers := t.timers, sheet := t.sheet, cdx := t.cdx }) ∧
  (∀ s : State, s.passed s.timers.theta (msTicks 100) = false → exec .thetaUpdate s = .next s) ∧
  (∀ s : State, s.passed s.timers.thetaStore (secTicks 60) = true → exec .thetaStore s =
    .next { s with timers := { s.timers with thetaStore := s.lastDue s.timers.thetaStore (secTicks 60) },
                   cdx := { s.cdx with thetaStored := s.cdx.theta.toNat, fleetStored := s.tbu.fleet.toNat } }) ∧
  (∀ (s : State) (b : Nat) (x : Band) (samples : List ScrubSample), Tbl.find? s.mxe.bands b = some x → x.state = .closed → s.scrubMay x = true →
    (b ∉ s.cdx.visited ∨ s.passed s.cdx.scrubTick (hourTicks (s.obj Ob.SCRUB_PERIOD_H)) = true) → ∃ t, exec (.scrubVisit b samples) s = .next t ∧ b ∈ t.cdx.visited ∧ t.mxe.nand = s.mxe.nand ∧
      t.cdx.scrubTick = (if s.passed s.cdx.scrubTick (hourTicks (s.obj Ob.SCRUB_PERIOD_H)) = true then s.now else s.cdx.scrubTick) ∧
      (s.scrubRefresh x (samples.filter (s.scrubReads x)) = true → (∃ y, Tbl.find? t.mxe.bands b = some y ∧ y.state = .victim) ∧
        t.fld Fld.CDX_REFRESH_CNT.COUNT = min (2 ^ Fld.CDX_REFRESH_CNT.COUNT.width - 1) (s.fld Fld.CDX_REFRESH_CNT.COUNT + 1)) ∧
      (samples.filter (s.scrubReads x) = [] → s.scrubRefresh x [] = false → t = { s with cdx := { s.cdx with visited := t.cdx.visited, scrubTick := t.cdx.scrubTick } })) ∧
  (∀ (s : State) (w : Nat), s.objB Ob.SCRUB_WIN.EN w = true → s.obj Ob.SCRUB_WIN.START w ≤ s.tbu.fleet.toNat →
    s.tbu.fleet.toNat < s.obj Ob.SCRUB_WIN.START w + s.winIndex w * (1000000000 * s.obj Ob.SCRUB_WIN.PERIOD_S w) + 1000000000 * s.obj Ob.SCRUB_WIN.LENGTH_S w →
    Tbl.getD s.cdx.winNext w 0 ≤ s.winIndex w → ∃ t, exec (.scrubWindowOpen w) s = .next t ∧ Tbl.find? t.cdx.winOpen w =
      some (s.obj Ob.SCRUB_WIN.START w + s.winIndex w * (1000000000 * s.obj Ob.SCRUB_WIN.PERIOD_S w) + 1000000000 * s.obj Ob.SCRUB_WIN.LENGTH_S w) ∧
      Tbl.find? t.cdx.winNext w = some (s.winIndex w + 1) ∧ t = { s with cdx := { s.cdx with winOpen := t.cdx.winOpen, winNext := t.cdx.winNext } }) ∧
  (∀ (s : State) (w e : Nat), Tbl.find? s.cdx.winOpen w = some e → e ≤ s.tbu.fleet.toNat → ∃ t, exec (.scrubWindowClose w) s = .next t ∧ Tbl.find? t.cdx.winOpen w = none ∧
    t = { s with cdx := { s.cdx with winOpen := t.cdx.winOpen, winClosed := true } }) ∧
  (∀ s : State, s.passed s.timers.wear (secTicks 60) = true → ∃ t, exec .wearUpdate s = .next t ∧ t.cdx.pctUsed = s.pctUsedNow ∧
    t.timers = { s.timers with wear := s.lastDue s.timers.wear (secTicks 60) } ∧ t.sheetVal Ob.PCT_USED Ob.PCT_USED.idx Ob.PCT_USED.sub = s.pctUsedNow ∧
    t.sheetVal Ob.EW_FIRED Ob.EW_FIRED.idx Ob.EW_FIRED.sub = t.cdx.ewFired.toNat ∧
    (80 ≤ s.pctUsedNow → t.cdx.ewFired.getLsbD 0 = true) ∧ (90 ≤ s.pctUsedNow → t.cdx.ewFired.getLsbD 1 = true) ∧ (98 ≤ s.pctUsedNow → t.cdx.ewFired.getLsbD 2 = true) ∧
    (∀ k, s.cdx.ewFired.getLsbD k = true → t.cdx.ewFired.getLsbD k = true) ∧ (s.pctUsedNow < 80 → t.cdx.ewFired = s.cdx.ewFired) ∧ t.mxe = s.mxe ∧ t.tbu = s.tbu) ∧
  (∀ (s : State) (n : Nat) (i : Instr) (op : KeyOp), (i = .keyLoad n ∧ op = .load) ∨ (i = .keyGenerate n ∧ op = .generate) ∨ (i = .keyClear n ∧ op = .clear) →
    (s.cdx.keyRun = none → ∃ t, exec i s = .next t ∧ t.cdx = { s.cdx with keyRun := some { op := op, slot := n }, keyShown := false } ∧ t = { s with regf := t.regf, cdx := t.cdx }) ∧
    (s.cdx.keyRun.isSome = true → exec i s = .next s)) ∧
  (∀ (s : State) (n : Nat) (op : KeyOp), s.cdx.keyRun = some { op := op, slot := n } → ∃ t, exec .keyOpEnd s = .next t ∧ t.cdx.keyRun = none ∧
    (∀ k, op = .load → bitsOf s.cdx.keyBuf.toNat 15 8 = s.cdx.kekGen → Config.unwrapKey s.cdx.kekGen s.cdx.keyBuf = some k → Tbl.find? t.cdx.keys n = some k ∧ t.cdx.keyResult = .ok) ∧
    (op = .load → (bitsOf s.cdx.keyBuf.toNat 15 8 ≠ s.cdx.kekGen ∨ Config.unwrapKey s.cdx.kekGen s.cdx.keyBuf = none) → t.cdx.keys = s.cdx.keys ∧ t.cdx.keyResult = .keyBad) ∧
    (op = .generate → bitsOf s.cdx.keyBuf.toNat 95 64 ≠ 0xFFFFFFFF → (∃ k, Tbl.find? t.cdx.keys n = some k) ∧ t.cdx.keyResult = .ok ∧ t.cdx.keyShown = true) ∧
    (op = .generate → bitsOf s.cdx.keyBuf.toNat 95 64 = 0xFFFFFFFF → t.cdx.keys = s.cdx.keys ∧ t.cdx.keyResult = .badOp) ∧
    (op = .clear → Tbl.find? t.cdx.keys n = none ∧ t.cdx.keyResult = .ok) ∧ (∀ m, m ≠ n → Tbl.find? t.cdx.keys m = Tbl.find? s.cdx.keys m) ∧
    (∀ m, t.cdx.keyNow m = s.cdx.keyNow m) ∧ t = { s with freeCnt := t.freeCnt, cdx := t.cdx })

/-! ## Stripes, rebuild and the store (spec/11, spec/12) -/

/-- R326, R330, R331, R332, R333, R334, R336, R338, R352 to R354, R356, R357: gathering stripes are padded, the stripe journal is written and loses copies, the rebuild takes its bands stripe by stripe, and the store is measured, charged and tested. -/
def Obligations.StripesRebuildAndTheStoreIsTested : Prop :=
  (∀ (s : State) (b row pos num : Nat) (y : Band) (x : Stripe), Tbl.find? s.mxe.bands b = some y → s.spe.stripe? y.bsn row pos num = some x → x.state = .gathering →
    s.passed x.started (usTicks (s.obj Ob.GATHER_MAX_US)) = true → ∃ t, exec (.gatherTimeout b row pos num) s = .next t ∧
      (∀ i ∈ x.dataOrds, x.issued.getLsbD i = false → x.missing.getLsbD i = false →
        s.pageUsed (x.units.getD i default).1 (s.unitBlock y (x.units.getD i default) x.pos, unitPage y x.row x.pos) = false →
        ∃ o ∈ t.dsc.ops, o.2.why = .place ∧ o.2.req.die = (x.units.getD i default).1 ∧ o.2.pages = [(s.unitBlock y (x.units.getD i default) x.pos, unitPage y x.row x.pos)] ∧
          ∀ z ∈ o.2.slots, z.src = .pad) ∧
      t = { s with regf := t.regf, dsc := { s.dsc with dies := t.dsc.dies, ops := t.dsc.ops, nextOp := t.dsc.nextOp } }) ∧
  (∀ s : State, (256 ≤ s.spe.pageFill ∨ (0 < s.spe.pageFill ∧ s.passedSome s.spe.pageTick (usTicks (s.obj Ob.SJ_FLUSH_US)) = true)) → ∃ t, exec .stripeJournalPageWrite s = .next t ∧
    t.spe.pageFill = s.spe.pageFill - 256 ∧ (s.spe.okA = true → t.spe.nandA = s.spe.stripes) ∧ (s.spe.okB = true → t.spe.nandB = s.spe.stripes) ∧
    t.spe.pageTick = (if 256 < s.spe.pageFill then some s.now else none) ∧
    t = { s with spe := { s.spe with pageFill := t.spe.pageFill, pageTick := t.spe.pageTick, nandA := t.spe.nandA, nandB := t.spe.nandB } }) ∧
  (∀ (s : State) (c : CopyLost), ∃ t, exec (.stripeJournalCopyLost c) s = .next t ∧ t.spe.okA = (s.spe.okA && !decide (c = .a ∨ c = .ab ∨ c = .abs)) ∧
    t.spe.okB = (s.spe.okB && !decide (c = .b ∨ c = .ab ∨ c = .abs)) ∧ t.spe.okS = (s.spe.okS && !decide (c = .s ∨ c = .abs)) ∧ t.spe.stripes = s.spe.stripes ∧
    (t.spe.okA = s.spe.okA → t.spe.okB = s.spe.okB → t.spe.okS = s.spe.okS → t = s) ∧ t = { s with regf := t.regf, spe := t.spe, cru := t.cru }) ∧
  (∀ s : State,
    (∀ u, s.spe.rbDue = some u → u.toNat < s.now.toNat → s.spe.failed ≠ [] → s.spe.rbActive = false → ∃ t, exec .rebuildStart s = .next t ∧ t.spe.rbActive = true ∧
      t.spe.rbPhase2 = false ∧ t.spe.rbDone = [] ∧ t.spe.rbBands = (s.mxe.bands.filter fun e => s.spe.hitsBand e.2).map Prod.fst ∧ t.spe.rbTotal = t.spe.rbBands.length ∧
      t.spe.rbDue = none ∧ t.spe.rbLost = [] ∧ t = { s with regf := t.regf, spe := t.spe, cru := t.cru }) ∧
    (s.spe.failed = [] ∨ s.spe.rbActive = true ∨ s.spe.rbDue = none ∨ (∃ u, s.spe.rbDue = some u ∧ s.now.toNat ≤ u.toNat) → exec .rebuildStart s = .next s)) ∧
  (∀ (s : State) (b row pos num : Nat) (vs : List (Nat × Nat)) (fs : List Nat) (y : Band), Tbl.find? s.mxe.bands b = some y → s.spe.rbActive = true → b ∈ s.spe.rbBands →
    (b, row, pos, num) ∉ s.spe.rbDone → fs = (vs.filter fun e => decide (s.obj Ob.SURVIVOR_MAX_LEVEL < e.2)).map Prod.fst →
    (s.fld Fld.SPE_RB_CTL.PAUSE = 0 ∨ s.spe.rbRaised = true → s.spe.rbFree ≤ s.now.toNat → s.rebuildTurn y row pos num = true → (∀ j ∈ s.mxe.jobs, j.1 < s.mxe.nextJob) →
      ∃ t, exec (.rebuildStripe b row pos num vs) s = .next t ∧ (b ∉ t.spe.rbBands ∨ (b, row, pos, num) ∈ t.spe.rbDone) ∧
      (∀ m ∈ s.lostUnits y row pos num, ∀ e ∈ s.currentOn m.1 (s.unitBlock y m pos) (unitPage y row pos), t.mxe.hasJob e.1 e.2.1 e.2.2 = true) ∧
      ((s.missingUnits y row pos num fs).length ≤ s.stripeStrength y row pos num → t.mxe.deltas = s.mxe.deltas) ∧
      t.mxe.map = s.mxe.map ∧ t.mxe.nand = s.mxe.nand ∧ t = { s with out := t.out, regf := t.regf, mxe := t.mxe, spe := t.spe, bpm := t.bpm, cru := t.cru }) ∧
    ((s.fld Fld.SPE_RB_CTL.PAUSE ≠ 0 ∧ s.spe.rbRaised = false) ∨ s.now.toNat < s.spe.rbFree ∨ s.rebuildTurn y row pos num = false → exec (.rebuildStripe b row pos num vs) s = .next s)) ∧
  (∀ s : State, s.spe.rbActive = true → s.spe.rbBands = [] → s.spe.rbPhase2 = false → ∃ t, exec .rebuildPhase2 s = .next t ∧ t.spe = { s.spe with rbPhase2 := true, rbRaised := false } ∧
    (∀ n x, Tbl.find? s.mxe.bands n = some x → s.spe.hitsBand x = true → x.state = .closed → ∃ y, Tbl.find? t.mxe.bands n = some y ∧ y.degraded = true ∧
      y.state = if s.obj Ob.PHASE2_MODE = 1 then .victim else .closed) ∧ t.mxe.map = s.mxe.map ∧ t.mxe.nand = s.mxe.nand ∧
    t = { s with out := t.out, regf := t.regf, qen := t.qen, mxe := t.mxe, spe := t.spe, mgp := t.mgp, cru := t.cru }) ∧
  (∀ (s : State) (codes : List (BitVec 12)) (code : BitVec 12), code = codes.getLast?.getD s.hum.code → s.passed s.timers.energy (usTicks 100) = true →
    ∃ t, exec (.energyEstimate codes) s = .next t ∧ t.timers = { s.timers with energy := s.lastDue s.timers.energy (usTicks 100) } ∧
    t.hum.code = code ∧ t.hum.codes = (s.hum.codes ++ codes).drop ((s.hum.codes ++ codes).length - 16) ∧
    t.hum.energy = s.energyOf s.hum.capUf (1200 * code.toNat * s.obj Ob.SENSE_DIV / (4096 * 100)) ∧
    ((s.hum.state = .verified ∨ s.hum.state = .degraded ∨ (s.hum.state = .charging ∧ s.hum.tested = true)) → t.hum.state = if t.holdupOk then .verified else .degraded) ∧
    (senseInBand code = false → t.fld Fld.HUM_EVT.SENSE_FAULT = 1) ∧ (t.hum.energy < s.obj Ob.ENERGY_MIN_MJ → t.fld Fld.HUM_EVT.ENERGY_LOW = 1) ∧
    t = { s with out := t.out, timers := t.timers, regf := t.regf, qen := t.qen,
                 hum := { s.hum with code := t.hum.code, codes := t.hum.codes, energy := t.hum.energy, state := t.hum.state }, mgp := t.mgp, cru := t.cru }) ∧
  (∀ s : State,
    (s.hum.state = .charging → s.obj Ob.CHARGED_PCT * s.obj Ob.FULL_MV ≤ 100 * s.storeMv → exec .storeCharged s = .next { s with hum := { s.hum with reached := true } }) ∧
    (s.testFallsDue = true → s.testable = true → s.qen.ps < 3 → exec .dischargeTestStart s = .next { s with hum := { s.hum with test := some { mv := s.meanMv, tick := s.now }, testDue := false } }) ∧
    (s.testFallsDue = true → s.testable = true → 3 ≤ s.qen.ps → exec .dischargeTestStart s = .next { s with hum := { s.hum with testDue := true } }) ∧
    (s.testFallsDue = false ∨ s.testable = false → exec .dischargeTestStart s = .next s) ∧
    (∀ u, s.hum.test = some u → s.testOver u = true →
      (s.obj Ob.ENERGY_MIN_MJ ≤ s.energyOf (s.testCap u) u.mv → ∃ t, exec .dischargeTestEnd s = .next t ∧ t.hum.test = none ∧ t.hum.result = .pass ∧ t.hum.lastPass = true ∧
        t.hum.lastTest = some s.now ∧ t.hum.capUf = s.testCap u ∧ t.sheetVal Ob.LAST_CAP_UF Ob.LAST_CAP_UF.idx Ob.LAST_CAP_UF.sub = s.testCap u ∧
        t.sheetVal Ob.LAST_TEST Ob.LAST_TEST.idx Ob.LAST_TEST.sub = s.tbu.fleet.toNat ∧
        t = { s with out := t.out, regf := t.regf, sheet := t.sheet, qen := t.qen, hum := t.hum, mgp := t.mgp, cru := t.cru }) ∧
      (s.energyOf (s.testCap u) u.mv < s.obj Ob.ENERGY_MIN_MJ → ∃ t, exec .dischargeTestEnd s = .next t ∧ t.hum.test = none ∧ t.hum.result = .fail ∧ t.hum.lastPass = false ∧
        t.hum.capUf = s.hum.capUf ∧ t.fld Fld.HUM_EVT.TEST_FAIL = 1 ∧ (s.hum.state = .charging ∨ s.hum.state = .verified ∨ s.hum.state = .degraded → t.hum.state = .degraded) ∧
        t = { s with out := t.out, regf := t.regf, qen := t.qen, hum := t.hum, mgp := t.mgp, cru := t.cru })))

/-! ## Buffers and the recorder (spec/13, spec/18) -/

/-- R371, R372, R380 to R388: a request is granted, takes a reserved buffer, is queued or held for its slice; owners share and free, a chain one handle a tick; a refused handle is logged; a poisoned buffer is cleaned or retired; the ring refills; the scrubber corrects or poisons a word. -/
def Obligations.BuffersAreGrantedSharedAndFreed : Prop :=
  (∀ (s : State) (unit size K : Nat) (sl : Option Nat) (u : Bool) (p : Option (BitVec 24)) (w : BufWaiter),
    w = { unit := unit, size := size, slice := sl, urgent := u, prev := p, tick := s.now, ord := s.bpm.ord } →
    K = (if (s.bpm.pool (poolFor size)).waiters = [] then (s.servingPool size).getD (poolFor size) else poolFor size) →
    (s.chargeOk sl K = false → exec (.bufferRequest unit size sl u p) s = .next { s with bpm := { s.bpm with ord := s.bpm.ord + 1, sliceHeld := s.bpm.sliceHeld ++ [w] } }) ∧
    (∀ i, s.chargeOk sl K = true → (s.bpm.pool (poolFor size)).waiters = [] → s.servingPool size = some K → (s.reservedFor w = false ∨ K = poolFor size) → s.bpm.nextIndex K = some i →
      ∃ t, exec (.bufferRequest unit size sl u p) s = .next t ∧ t.out = .grant unit (mkHandle K ((s.bpm.desc K i).gen + 1) i) :: s.out ∧ (t.bpm.desc K i).state = .held ∧
        (t.bpm.desc K i).owners = BitVec.ofNat 17 (2 ^ unit) ∧ (t.bpm.desc K i).gen = (s.bpm.desc K i).gen + 1 ∧ (t.bpm.desc K i).poison = false ∧
        (t.bpm.desc K i).charged = sl.isSome ∧ t.bpm.sram = s.bpm.sram ∧
        t = { s with out := t.out, regf := t.regf, bpm := { s.bpm with pools := t.bpm.pools, descs := t.bpm.descs, ord := s.bpm.ord + 1 } }) ∧
    (∀ i, s.chargeOk sl K = true → s.reservedFor w = true → ((s.bpm.pool (poolFor size)).waiters ≠ [] ∨ s.grantable (poolFor size) = false) → s.bpm.nextIndex (poolFor size) = some i →
      ∃ t, exec (.bufferRequest unit size sl u p) s = .next t ∧ t.out = .grant unit (mkHandle (poolFor size) ((s.bpm.desc (poolFor size) i).gen + 1) i) :: s.out ∧
        (t.bpm.desc (poolFor size) i).state = .held ∧ (t.bpm.desc (poolFor size) i).owners = BitVec.ofNat 17 (2 ^ unit) ∧
        (t.bpm.pool (poolFor size)).rsvFree = (s.bpm.pool (poolFor size)).rsvFree - 1 ∧
        t = { s with out := t.out, regf := t.regf, bpm := { s.bpm with pools := t.bpm.pools, descs := t.bpm.descs, ord := s.bpm.ord + 1 } }) ∧
    (s.chargeOk sl K = true → s.reservedFor w = false → ((s.bpm.pool (poolFor size)).waiters ≠ [] ∨ s.servingPool size = none) → 5 ≤ s.bpm.pools.length →
      ∃ t, exec (.bufferRequest unit size sl u p) s = .next t ∧ (t.bpm.pool (poolFor size)).waiters = insertWaiter w (s.bpm.pool (poolFor size)).waiters ∧
        t = { s with bpm := { s.bpm with pools := t.bpm.pools, ord := s.bpm.ord + 1 } })) ∧
  (∀ (s : State) (k : Nat),
    ((∀ p ∈ s.bpm.pools, ∀ w ∈ p.waiters, s.chargeOk w.slice (poolFor w.size) = true) → s.holdOver = s) ∧
    (∀ j i w, s.holdOver.waiterFor k = some (j, w) → s.grantable k = true → s.chargeOk w.slice k = true → s.bpm.nextIndex k = some i →
      ∃ t, exec (.bufferGrant k) s = .next t ∧ t.out = .grant w.unit (mkHandle k ((s.bpm.desc k i).gen + 1) i) :: s.out ∧
      (t.bpm.desc k i).state = .held ∧ (t.bpm.desc k i).owners = BitVec.ofNat 17 (2 ^ w.unit) ∧ (t.bpm.pool j).waiters = (s.holdOver.bpm.pool j).waiters.tail ∧
      t = { s with out := t.out, regf := t.regf, bpm := { s.holdOver.bpm with pools := t.bpm.pools, descs := t.bpm.descs } }) ∧
    (s.grantable k = false ∨ s.holdOver.waiterFor k = none → exec (.bufferGrant k) s = .next s.holdOver) ∧
    (∀ j w, s.holdOver.waiterFor k = some (j, w) → s.chargeOk w.slice k = false → exec (.bufferGrant k) s = .next s.holdOver)) ∧
  (∀ (s : State) (h : BitVec 24) (by_ unit bit : Nat),
    (s.bpm.refusal h by_ = none → ∃ t, exec (.bufferShare h by_ unit) s = .next t ∧ t.bpm.desc (hPool h) (hIdx h) =
      { s.bpm.desc (hPool h) (hIdx h) with owners := (s.bpm.desc (hPool h) (hIdx h)).owners ||| BitVec.ofNat 17 (2 ^ unit) } ∧ t = { s with bpm := { s.bpm with descs := t.bpm.descs } }) ∧
    (∀ i, (i = .bufferShare h by_ unit ∨ i = .bufferFree h by_) → s.bpm.refusal h by_ = some bit → ∃ t, exec i s = .next t ∧ t.bpm = { s.bpm with errUnit := by_, errHandle := h } ∧
      t.fld (freeErrField bit) = 1 ∧ t.ccl = { s.ccl with exc := t.ccl.exc } ∧ t.ccl.exc.length = s.ccl.exc.length + 1 ∧ t = { s with regf := t.regf, bpm := t.bpm, ccl := t.ccl, cru := t.cru }) ∧
    (s.bpm.refusal h by_ = none → (s.bpm.desc (hPool h) (hIdx h)).owners &&& ~~~(BitVec.ofNat 17 (2 ^ by_)) ≠ 0 → ∃ t, exec (.bufferFree h by_) s = .next t ∧
      t.bpm.desc (hPool h) (hIdx h) = { s.bpm.desc (hPool h) (hIdx h) with owners := (s.bpm.desc (hPool h) (hIdx h)).owners &&& ~~~(BitVec.ofNat 17 (2 ^ by_)) } ∧
      t = { s with bpm := { s.bpm with descs := t.bpm.descs } }) ∧
    (s.bpm.refusal h by_ = none → (s.bpm.desc (hPool h) (hIdx h)).owners &&& ~~~(BitVec.ofNat 17 (2 ^ by_)) = 0 → ∃ t, exec (.bufferFree h by_) s = .next t ∧
      ((s.bpm.desc (hPool h) (hIdx h)).poison = true → bufKey (hPool h) (hIdx h) ∈ t.bpm.cleaning ∧ (t.bpm.desc (hPool h) (hIdx h)).state = .held ∧
        (∀ a, s.bpm.offset (hPool h) (hIdx h) ≤ a → a < s.bpm.offset (hPool h) (hIdx h) + poolSize (hPool h) → Memory.read 0 t.bpm.sram a = 0)) ∧
      ((s.bpm.desc (hPool h) (hIdx h)).poison = false → Tbl.getD s.bpm.corrected (bufKey (hPool h) (hIdx h)) 0 < s.obj Ob.CORR_RETIRE →
        ((t.bpm.desc (hPool h) (hIdx h)).state = .cached ∨ (t.bpm.desc (hPool h) (hIdx h)).state = .free) ∧ (t.bpm.desc (hPool h) (hIdx h)).owners = 0 ∧
        bufKey (hPool h) (hIdx h) ∈ t.bpm.freedNow ∧ t.bpm.sram = s.bpm.sram ∧ t = { s with bpm := t.bpm }) ∧
      ((s.bpm.desc (hPool h) (hIdx h)).poison = false → s.obj Ob.CORR_RETIRE ≤ Tbl.getD s.bpm.corrected (bufKey (hPool h) (hIdx h)) 0 →
        (t.bpm.desc (hPool h) (hIdx h)).state = .retired ∧ bufKey (hPool h) (hIdx h) ∈ t.bpm.retired)) ∧
    exec (.bufferFreeChain noHandle by_) s = .next s ∧
    (h ≠ noHandle → (s.bpm.refusal h by_ = none ∨ s.bpm.refusal h by_ = some 3) → ∃ t v, exec (.bufferFree h by_) s = .next v ∧ exec (.bufferFreeChain h by_) s = .next t ∧
      t = { v with bpm := { v.bpm with chains := if (s.bpm.desc (hPool h) (hIdx h)).next = noHandle then s.bpm.chains else s.bpm.chains ++ [(by_, (s.bpm.desc (hPool h) (hIdx h)).next)] } }) ∧
    (h ≠ noHandle → bit ≠ 3 → s.bpm.refusal h by_ = some bit → exec (.bufferFreeChain h by_) s = exec (.bufferFree h by_) s) ∧
    (s.bpm.chains = [(by_, h)] → exec (.bufferFreeChain h by_) { s with bpm := { s.bpm with chains := [] } } = .next s.chainTick) ∧
    (bufKey (hPool h) (hIdx h) ∈ s.bpm.cleaning →
      (Tbl.getD s.bpm.corrected (bufKey (hPool h) (hIdx h)) 0 < s.obj Ob.CORR_RETIRE → ∃ t, exec (.poisonBufferClean h true) s = .next t ∧
        ((t.bpm.desc (hPool h) (hIdx h)).state = .cached ∨ (t.bpm.desc (hPool h) (hIdx h)).state = .free) ∧ bufKey (hPool h) (hIdx h) ∉ t.bpm.cleaning ∧ t = { s with bpm := t.bpm }) ∧
      (∃ t, exec (.poisonBufferClean h false) s = .next t ∧ (t.bpm.desc (hPool h) (hIdx h)).state = .retired ∧ bufKey (hPool h) (hIdx h) ∈ t.bpm.retired ∧
        bufKey (hPool h) (hIdx h) ∉ t.bpm.cleaning ∧ t.bpm.sram = s.bpm.sram))) ∧
  (∀ (s : State) (k i : Nat), k < 5 → 5 ≤ s.bpm.pools.length →
    (2 * (s.bpm.pool k).ring.length < s.bpm.ringDepth → s.bpm.lowestFree k 0 (s.bpm.pool k).count = some i → ∃ t, exec (.ringRefill k) s = .next t ∧
      (t.bpm.pool k).ring = (s.bpm.pool k).ring ++ [i] ∧ (t.bpm.desc k i).state = .cached ∧ t = { s with bpm := { s.bpm with pools := t.bpm.pools, descs := t.bpm.descs } }) ∧
    (s.bpm.ringDepth ≤ 2 * (s.bpm.pool k).ring.length → exec (.ringRefill k) s = .next s)) ∧
  (∀ (s : State) (off n : Nat),
    exec (.sramScrub off 0) s = .next s ∧
    ((n = 1 ∨ n = 2) → ∃ t, exec (.sramScrub off n) s = .next t ∧ t.fld Fld.BPM_ECC_CNT.CORR = min (2 ^ Fld.BPM_ECC_CNT.CORR.width - 1) (s.fld Fld.BPM_ECC_CNT.CORR + 1) ∧
      (∀ k i, s.bpm.bufferAt off = some (k, i) → Tbl.getD t.bpm.corrected (bufKey k i) 0 = Tbl.getD s.bpm.corrected (bufKey k i) 0 + 1) ∧
      t = { s with regf := t.regf, bpm := { s.bpm with corrected := t.bpm.corrected } }) ∧
    (3 ≤ n → ∃ t, exec (.sramScrub off n) s = .next t ∧ t.fld Fld.BPM_ECC_CNT.UNCORR = min (2 ^ Fld.BPM_ECC_CNT.UNCORR.width - 1) (s.fld Fld.BPM_ECC_CNT.UNCORR + 1) ∧
      off / 8 * 8 ∈ t.bpm.poisoned ∧ (∀ k i, s.bpm.bufferAt off = some (k, i) → (s.bpm.desc k i).state = .held → (t.bpm.desc k i).poison = true) ∧
      t = { s with regf := t.regf, bpm := { s.bpm with poisoned := t.bpm.poisoned, descs := t.bpm.descs }, cru := t.cru }))

/-- R484 to R487, R489, R492, R494: a trigger is counted, and recorded with the next RSEQ or missed; due pages go to the running reel; reels are read; a freeze begins, is not extended and ends. -/
def Obligations.TriggersAreRecordedAndReelsRead : Prop :=
  (∀ (s : State) (i : Instr) (u : State) (code unit inst : Nat) (arg : Dword),
    ((∃ g, i = .recorderTrigger g ∧ code = g.code ∧ unit = g.unit ∧ inst = g.inst ∧ arg = g.arg ∧ u = s ∧ (code ≤ 0x24 ∨ (0x38 ≤ code ∧ code ≤ 0x3F)))
      ∨ (∃ c : BitVec 3, i = .fwTrigger c ∧ code = 0x38 + c.toNat ∧ unit = UnitNo.ccl ∧ inst = (if s.ccl.owner = .a then 0 else 1) ∧
          arg = BitVec.ofNat 64 (s.fld Fld.CRU_FW_ARG.ARG) ∧ u = s.setFld Fld.CRU_FW_TRIG.CODE 0 c.toNat)) →
    ∃ t, exec i s = .next t ∧ t.fld Fld.CRU_TRIG_CNT.COUNT code = min (2 ^ Fld.CRU_TRIG_CNT.COUNT.width - 1) (u.fld Fld.CRU_TRIG_CNT.COUNT code + 1) ∧
      (bitAt (s.obj Ob.TRIG_EN) code = true → s.recordable = true → t.cru = { s.cru with queue := t.cru.queue, next := s.cru.next + 1, missed := 0, gapFlag := false } ∧
        t.cru.queue = s.cru.queue ++ [{ slate := s.slate code unit inst arg, todo := snapAddrs (s.obj Ob.SNAP_LIST code) 56 }]) ∧
      (bitAt (s.obj Ob.TRIG_EN) code = true → s.recordable = false → t.cru = { s.cru with missed := s.cru.missed + 1 } ∧
        t.fld Fld.CRU_MISSED.COUNT = min (2 ^ Fld.CRU_MISSED.COUNT.width - 1) (s.fld Fld.CRU_MISSED.COUNT + 1)) ∧
      (bitAt (s.obj Ob.TRIG_EN) code = false → t.cru = s.cru) ∧ t = { s with regf := t.regf, cru := t.cru }) ∧
  (∀ (s : State) (p : Nat), s.cru.flushPage = some p → s.cru.nandReady = true → s.cru.stagingOnly = false → s.flushDue p = true → ∃ t, exec .reelPageFlush s = .next t ∧
    (∀ r ∈ s.cru.staged, r.rseq / 32 = p → r ∉ t.cru.staged ∧ ∃ q ∈ s.cru.staged, Tbl.find? t.cru.running (runSlot r.rseq) = some q ∧ q.rseq = r.rseq) ∧
    (∀ r ∈ s.cru.staged, r.rseq / 32 ≠ p → r ∈ t.cru.staged) ∧ t = { s with cru := { s.cru with running := t.cru.running, staged := t.cru.staged, flushTick := t.cru.flushTick } }) ∧
  (∀ (s : State) (f : Bool) (n : Nat), (s.power.stage ≠ .foyer → exec (.reelRead f n) s = .next { s with out := .reelData f n (s.reelSlot f n) :: s.out }) ∧
    (s.power.stage = .foyer → exec (.reelRead f n) s = .next s)) ∧
  (∀ s : State,
    (∃ t, exec (.freeze true) s = .next t ∧ t.cru = { s.cru with frozen := if s.frozenNow then s.cru.frozen else some s.now } ∧
      t = { s with tbu := { s.tbu with classes := t.tbu.classes }, cru := t.cru }) ∧
    (∃ t, exec (.freeze false) s = .next t ∧ t.cru = { s.cru with frozen := none } ∧ t = { s with tbu := { s.tbu with classes := t.tbu.classes }, cru := t.cru }) ∧
    (s.passedSome s.cru.frozen 1600000000 = true → exec .freezeExpiry s = .next { s with cru := { s.cru with frozen := none } }) ∧
    (s.passedSome s.cru.frozen 1600000000 = false → exec .freezeExpiry s = .next s))

/-! ## DRAM (spec/14) -/

/-- R394, R396, R397, R400, R401, R403 to R416, R501: requests queue or wait, are promoted, and stop only at an address that the DRAM does not have; refreshes, errors, alerts, training and retraining, retirement, self-refresh and power-down. -/
def Obligations.DramServesTrainsAndRetires : Prop :=
  (∀ (s : State) (a : DramAccess) (e : EccResult),
    (s.dmc.trained = true → s.dmc.capacity ≤ a.addr → a.from_ = .ccl → exec (.dramRequest a e) s = .next { s with out := .busError s.ccl.owner 0 :: s.out }) ∧
    (s.dmc.trained = true → s.dmc.capacity ≤ a.addr → a.from_ ≠ .ccl → exec (.dramRequest a e) s = .fault (.noDramAddress a.addr)) ∧
    (s.dmc.trained = true → a.addr < s.dmc.capacity → s.dmc.room a = true →
      (∀ h ∈ s.dmc.held, ¬((s.dmc.coord h.access.addr).subch = (s.dmc.coord a.addr).subch ∧ h.access.write.isSome = a.write.isSome)) → exec (.dramRequest a e) s = .next { s with dmc := { s.dmc with
      queue := s.dmc.queue ++ [{ access := a, cls := dramClass a.from_, eff := dramClass a.from_, ecc := e, tick := s.now }] } }) ∧
    (s.dmc.trained = false ∨ (a.addr < s.dmc.capacity ∧ (s.dmc.room a = false ∨
      ∃ h ∈ s.dmc.held, (s.dmc.coord h.access.addr).subch = (s.dmc.coord a.addr).subch ∧ h.access.write.isSome = a.write.isSome)) → exec (.dramRequest a e) s = .next { s with dmc := { s.dmc with
      held := s.dmc.held ++ [{ access := a, cls := dramClass a.from_, eff := dramClass a.from_, ecc := e, tick := s.now }] } })) ∧
  (∀ (s : State) (m : Bool) (r : DramReq), s.dmc.oldest (if m then .mapN else .bulk) = some r →
    s.passed r.tick (if m then nsTicks (s.obj Ob.AGE_MAPN_NS) else usTicks (s.obj Ob.AGE_BULK_US)) = true → ∃ t, exec (.dramAgePromotion m) s = .next t ∧
      t.dmc = { s.dmc with queue := s.dmc.queue.replace r { r with eff := if m then .mapU else .mapN } } ∧
      (∀ f, f = (if m then Fld.DMC_AGE_CNT.MAPN else Fld.DMC_AGE_CNT.BULK) → t.fld f = min (2 ^ f.width - 1) (s.fld f + 1)) ∧ t = { s with regf := t.regf, dmc := t.dmc }) ∧
  (∀ (s : State) (ch sub : Nat), s.dmc.trained = true → s.dmc.selfRefresh = false →
    (s.refDue (ch * 2 + sub) = false → exec (.dramRefresh ch sub) s = .next s) ∧ (s.refDue (ch * 2 + sub) = true →
    ((∃ r ∈ s.dmc.queue, (s.dmc.coord r.access.addr).subch = ch * 2 + sub ∧ (r.eff = .mapU ∨ r.eff = .rt)) → Tbl.getD s.dmc.postponed (ch * 2 + sub) 0 + 1 < s.postponeMax →
      ∃ t, exec (.dramRefresh ch sub) s = .next t ∧ Tbl.getD t.dmc.postponed (ch * 2 + sub) 0 = Tbl.getD s.dmc.postponed (ch * 2 + sub) 0 + 1 ∧
        Tbl.find? t.dmc.refAt (ch * 2 + sub) = some ((Tbl.find? s.dmc.refAt (ch * 2 + sub)).elim s.now fun u => u + BitVec.ofNat 64 s.refInterval) ∧
        t = { s with dmc := { s.dmc with postponed := t.dmc.postponed, refAt := t.dmc.refAt } }) ∧
    (((∀ r ∈ s.dmc.queue, ¬((s.dmc.coord r.access.addr).subch = ch * 2 + sub ∧ (r.eff = .mapU ∨ r.eff = .rt))) ∨ s.postponeMax ≤ Tbl.getD s.dmc.postponed (ch * 2 + sub) 0 + 1) →
      ∃ t, exec (.dramRefresh ch sub) s = .next t ∧ t.out = List.replicate (Tbl.getD s.dmc.postponed (ch * 2 + sub) 0 + 1)
        (.dram ch sub (if s.objB Ob.REFSB_EN then .refreshSameBank else .refreshAll)) ++ s.out ∧ Tbl.getD t.dmc.postponed (ch * 2 + sub) 0 = 0 ∧
        Tbl.find? t.dmc.refAt (ch * 2 + sub) = some ((Tbl.find? s.dmc.refAt (ch * 2 + sub)).elim s.now fun u => u + BitVec.ofNat 64 s.refInterval) ∧
        (∀ e ∈ t.dmc.openRows, e.1 / 512 ≠ ch * 2 + sub) ∧
        t = { s with out := t.out, dmc := { s.dmc with postponed := t.dmc.postponed, openRows := t.dmc.openRows, refAt := t.dmc.refAt } }))) ∧
  (∀ (s : State) (c : Int),
    ((∀ u, s.dmc.mr4At = some u → s.passed u (msTicks 16) = true) → exec (.mr4Read c) s = .next { s with dmc := { s.dmc with
      hot := decide (85 < c), mr4At := some ((s.dmc.mr4At.map fun u => s.lastDue u (msTicks 16)).getD s.now) } }) ∧
    (∀ u, s.dmc.mr4At = some u → s.passed u (msTicks 16) = false → exec (.mr4Read c) s = .next s)) ∧
  (∀ s : State, s.passed s.timers.rowClear (msTicks 32) = true → exec .rowTableClear s = .next { s with timers := { s.timers with rowClear := s.lastDue s.timers.rowClear (msTicks 32) }, dmc := { s.dmc with rows := [] } }) ∧
  (∀ (s : State) (a : Nat), s.dmc.trained = true → s.dmc.selfRefresh = false →
    (s.dmc.capacity ≤ a → ∀ e, exec (.patrolScrub a e) s = .fault (.noDramAddress a)) ∧
    (a < s.dmc.capacity → ∀ e, ∃ t, exec (.patrolScrub a e) s = .next t ∧
      (s.dmc.room { addr := a, from_ := .dmcPatrol, write := none } = true →
        (∀ h ∈ s.dmc.held, ¬((s.dmc.coord h.access.addr).subch = (s.dmc.coord a).subch ∧ h.access.write = none)) →
        t.dmc.queue = s.dmc.queue ++ [{ access := { addr := a, from_ := .dmcPatrol, write := none }, cls := .bulk, eff := .bulk, ecc := e, tick := s.now }]) ∧
      (s.dmc.room { addr := a, from_ := .dmcPatrol, write := none } = false ∨ (∃ h ∈ s.dmc.held, (s.dmc.coord h.access.addr).subch = (s.dmc.coord a).subch ∧ h.access.write = none) →
        t.dmc.held = s.dmc.held ++ [{ access := { addr := a, from_ := .dmcPatrol, write := none }, cls := .bulk, eff := .bulk, ecc := e, tick := s.now }]) ∧
      t = { s with dmc := { s.dmc with queue := t.dmc.queue, held := t.dmc.held } })) ∧
  (∀ (s : State) (a : Nat) (e : EccResult), s.dmc.trained = false ∨ s.dmc.selfRefresh = true → exec (.patrolScrub a e) s = .next s) ∧
  (∀ (s : State) (r : DramReq), r.access.write = none → (s.dmc.coord r.access.addr).ch ∉ s.dmc.dead →
    s.dramServe r = { s with out := (s.dramServe r).out, regf := (s.dramServe r).regf, dmc := (s.dramServe r).dmc, cru := (s.dramServe r).cru } ∧
    (s.dramServe r).dmc.bytes = s.dmc.bytes ∧
    (r.ecc = .clean → (s.dramServe r).fld Fld.DMC_ECC_CNT.CORR = s.fld Fld.DMC_ECC_CNT.CORR ∧ (s.dramServe r).fld Fld.DMC_ECC_CNT.UNCORR = s.fld Fld.DMC_ECC_CNT.UNCORR ∧
      (s.dramServe r).dmc.poisoned = s.dmc.poisoned ∧ (s.dramServe r).cru = s.cru) ∧
    (∀ d, r.ecc = .corrected d → (s.dramServe r).dmc.poisoned = s.dmc.poisoned ∧ (s.dramServe r).fld Fld.DMC_ECC_CNT.CORR = min (2 ^ Fld.DMC_ECC_CNT.CORR.width - 1) (s.fld Fld.DMC_ECC_CNT.CORR + 1) ∧
      (s.dramServe r).fld Fld.DMC_ERR_LOG0.VALID = 1 ∧ (s.dramServe r).fld Fld.DMC_ERR_LOG0.UNCORR = 0) ∧
    (r.ecc = .uncorrectable → (s.dramServe r).fld Fld.DMC_ECC_CNT.UNCORR = min (2 ^ Fld.DMC_ECC_CNT.UNCORR.width - 1) (s.fld Fld.DMC_ECC_CNT.UNCORR + 1) ∧
      (s.dramServe r).fld Fld.DMC_ERR_LOG0.UNCORR = 1 ∧ (s.dmc.places r.access.addr).1 / 64 ∈ (s.dramServe r).dmc.poisoned)) ∧
  (∀ (s : State) (ch : Nat), s.dmc.trained = false ∨ ch ∈ s.dmc.dead → exec (.dramAlert ch) s = .next s) ∧
  (∀ (s : State) (ch : Nat), s.dmc.trained = true → ch ∉ s.dmc.dead → ∃ t, exec (.dramAlert ch) s = .next t ∧
    Emission.dram ch 0 .prechargeAll ∈ t.out ∧ (∀ sub, sub ≤ 1 → Tbl.getD s.dmc.retry (ch * 2 + sub) [] ≠ [] → Emission.dram ch sub .replay ∈ t.out) ∧
    t.fld Fld.DMC_ALERT_CNT.REPLAY = min (2 ^ Fld.DMC_ALERT_CNT.REPLAY.width - 1) (s.fld Fld.DMC_ALERT_CNT.REPLAY + 1) ∧
    (∀ e, e ∈ t.dmc.openRows ↔ e ∈ s.dmc.openRows ∧ e.1 / 1024 ≠ ch) ∧ t.dmc.bytes = s.dmc.bytes ∧
    (s.justRetrained ch = true → ch ∈ t.dmc.dead) ∧
    (s.justRetrained ch = false → s.obj Ob.REPLAY_MAX ≤ (s.recentAlerts ch).length + 1 →
      (∃ es, t.out = .dram ch 0 .caTrain :: es ++ s.out) ∧ Tbl.find? t.dmc.retrained ch = some s.now ∧
      t = { s with out := t.out, regf := t.regf, dmc := { s.dmc with openRows := t.dmc.openRows, alerts := t.dmc.alerts, retrained := t.dmc.retrained }, cru := t.cru }) ∧
    (s.justRetrained ch = false → (s.recentAlerts ch).length + 1 < s.obj Ob.REPLAY_MAX →
      Tbl.find? t.dmc.alerts ch = some (s.now :: s.recentAlerts ch) ∧
      t = { s with out := t.out, regf := t.regf, dmc := { s.dmc with openRows := t.dmc.openRows, alerts := t.dmc.alerts } })) ∧
  (∀ (s : State) (m : BitVec 4) (r c : Nat) (d p : Bool),
    (s.power.stage = .stair → p = true → dramSupported m r d c = true → ∃ t, exec (.dramTraining m r d c p) s = .next t ∧ t.dmc.trained = true ∧ t.dmc.chMask = m ∧ t.dmc.ranks = r ∧
      t.dmc.dens32 = d ∧ t.dmc.cidBits = c ∧ t.dmc.dead = [] ∧ t.dmc.openRows = [] ∧ t.dmc.begun = true ∧ t.dmc.mts = s.obj Ob.RATE_MTS ∧ t.dmc.bytes = s.dmc.bytes ∧
      t.dmc.ret = s.storedRetirement ∧ t = { s with dmc := t.dmc, mgp := { s.mgp with summary := t.mgp.summary } }) ∧
    (s.power.stage = .stair → p = false ∨ dramSupported m r d c = false → exec (.dramTraining m r d c p) s = .next { s with
      power := { s.power with startKind := .held }, dmc := { s.dmc with trained := false, begun := true } }) ∧
    (s.power.stage ≠ .stair → exec (.dramTraining m r d c p) s = .next s)) ∧
  (∀ (s : State) (ch : Nat),
    (∀ d, s.power.stage = .hall → s.dmc.trained = true → (∀ u, Tbl.find? s.dmc.oscRead ch = some u → s.passed u (msTicks (s.obj Ob.OSC_MS)) = true) →
      ∃ t, exec (.dqsOscillatorRead ch d) s = .next t ∧ Tbl.find? t.dmc.oscRead ch = some s.now ∧ Tbl.getD t.dmc.dqAdjust ch 0 = Tbl.getD s.dmc.dqAdjust ch 0 + (if d then 1 else 0) ∧
        t = { s with dmc := { s.dmc with oscRead := t.dmc.oscRead, dqAdjust := t.dmc.dqAdjust } }) ∧
    (s.power.stage = .hall → s.dmc.trained = true → s.passed s.timers.dramZq (msTicks 128) = true → ∃ t, exec .dramZqCalibration s = .next t ∧
      t.timers = { s.timers with dramZq := s.lastDue s.timers.dramZq (msTicks 128) } ∧ (∀ c, c < s.dmc.channels → Emission.dram c 0 .zq ∈ t.out) ∧ t = { s with out := t.out, timers := t.timers }) ∧
    (s.dmc.trained = false → exec (.dramRetrain ch) s = .next s) ∧
    (s.dmc.trained = true → ∃ t, exec (.dramRetrain ch) s = .next t ∧ t.out = .dram ch 0 .caTrain :: s.out ∧ (∀ e ∈ t.dmc.openRows, e.1 / 1024 ≠ ch) ∧
      t = { s with out := t.out, dmc := { s.dmc with openRows := t.dmc.openRows } })) ∧
  (∀ (s : State) (n : Nat), s.fld Fld.DMC_RET_SEL.ENTRY s.ownerInst = n →
    (retEn (s.retFromRegs n).coord = false → ∃ t, exec .retireGo s = .next t ∧
      Tbl.find? t.dmc.ret n = some { (Tbl.find? s.dmc.ret n).getD { s.retFromRegs n with status := .idle } with refused := none, next := some .idle } ∧ (∀ k, k ≠ n → Tbl.find? t.dmc.ret k = Tbl.find? s.dmc.ret k) ∧
      t = { s with sheet := t.sheet, sheetOld := t.sheetOld, dmc := { s.dmc with ret := t.dmc.ret } }) ∧
    (retEn (s.retFromRegs n).coord = true → s.dmc.retRefusal n (s.retFromRegs n) = none → ∃ t, exec .retireGo s = .next t ∧ Tbl.find? t.dmc.ret n = some (s.retFromRegs n) ∧
      t.sheetVal Ob.RETIRE.COORD (0x4801 + n) 1 = (s.retFromRegs n).coord.toNat ∧ t.sheetVal Ob.RETIRE.SPAN (0x4801 + n) 2 = (s.retFromRegs n).span ∧
      t.sheetVal Ob.RETIRE.TARGET (0x4801 + n) 3 = (s.retFromRegs n).target ∧ (∀ k, k ≠ n → Tbl.find? t.dmc.ret k = Tbl.find? s.dmc.ret k) ∧ t = { s with sheet := t.sheet, sheetOld := t.sheetOld, dmc := { s.dmc with ret := t.dmc.ret } }) ∧
    (∀ st, retEn (s.retFromRegs n).coord = true → s.dmc.retRefusal n (s.retFromRegs n) = some st → ∃ t, exec .retireGo s = .next t ∧
      Tbl.find? t.dmc.ret n = some { (Tbl.find? s.dmc.ret n).getD { s.retFromRegs n with status := .idle } with refused := some st } ∧
      (∀ k, k ≠ n → Tbl.find? t.dmc.ret k = Tbl.find? s.dmc.ret k) ∧ t = { s with dmc := { s.dmc with ret := t.dmc.ret } })) ∧
  (∀ (s : State) (n : Nat) (e : RetEntry), Tbl.find? s.dmc.ret n = some e → e.status = .copying → e.next = none → ∃ t, exec (.retireCopyDone n) s = .next t ∧
    Tbl.find? t.dmc.ret n = some { e with next := some .active } ∧ (∀ k, k ≠ n → Tbl.find? t.dmc.ret k = Tbl.find? s.dmc.ret k) ∧
    (∀ a, (a < s.dmc.spareBase + 8192 * e.target ∨ s.dmc.spareBase + 8192 * e.target + 8192 * (e.rows s.dmc.rowCount).2 ≤ a) →
      Memory.read 0 t.dmc.bytes a = Memory.read 0 s.dmc.bytes a) ∧
    t = { s with dmc := { s.dmc with ret := t.dmc.ret, bytes := t.dmc.bytes, poisoned := t.dmc.poisoned } }) ∧
  (∀ (m : Dmc) (k : Nat) (e : RetEntry), Tbl.find? m.ret k = some e → e.next = some .active →
    Tbl.find? m.retTick.ret k = some { e with status := .active, refused := none, next := none }) ∧
  (∀ s : State,
    (s.dmc.trained = true → s.dmc.selfRefresh = false → s.srCause = true → s.hum.dump.isSome = true → exec .selfRefreshEntry s = .next { s with
      out := .dram 0 0 .selfRefreshIn :: s.out, dmc := { s.dmc with selfRefresh := true, srDump := true, srDue := false } }) ∧
    (s.dmc.trained = true → s.dmc.selfRefresh = false → s.srCause = true → s.hum.dump = none → s.dmc.queue = [] → exec .selfRefreshEntry s = .next { s with
      out := .dram 0 0 .selfRefreshIn :: s.out, dmc := { s.dmc with selfRefresh := true, srDue := false } }) ∧
    (s.dmc.trained = true → s.dmc.selfRefresh = false → s.srCause = true → s.hum.dump = none → s.dmc.queue ≠ [] → ∃ t, exec .selfRefreshEntry s = .next t ∧
      t = { s with regf := t.regf, dmc := { s.dmc with srDue := true } }) ∧
    (s.srCause = false → s.dmc.selfRefresh = true → s.dmc.srDump = false → exec .selfRefreshExit s = .next { s with out := .dram 0 0 .selfRefreshOut :: s.out, dmc := { s.dmc with selfRefresh := false } }) ∧
    (s.srCause = false → s.dmc.selfRefresh = false ∨ s.dmc.srDump = true → exec .selfRefreshExit s = .next { s with dmc := { s.dmc with srDue := false } }) ∧
    (s.srCause = true → exec .selfRefreshExit s = .next s)) ∧
  (∀ (s : State) (ch r : Nat), s.dmc.trained = true → s.obj Ob.PD_IDLE_NS ≠ 0 → s.dmc.selfRefresh = false → ch * 2 + r ∉ s.dmc.powerDown →
    (∀ u, Tbl.find? s.dmc.lastUse (ch * 2 + r) = some u → s.passed u (nsTicks (s.obj Ob.PD_IDLE_NS)) = true) →
    (∀ q ∈ s.dmc.queue, ¬((s.dmc.coord q.access.addr).ch = ch ∧ (s.dmc.coord q.access.addr).rank = r)) → exec (.rankPowerDown ch r) s = .next { s with
      out := .dram ch 0 .powerDown :: s.out, dmc := { s.dmc with powerDown := (ch * 2 + r) :: s.dmc.powerDown } })

/-! ## Management (spec/17) -/

/-- R423, R442, R443, R455, R461, R462, R464, R465, R469 to R472, R476, R519, Table 17.10: requests end with their status and data, writes take effect at once or with their change record, the objects with rows of their own act, and the endpoints answer. -/
def Obligations.ManagementRequestsEndWithTheirStatus : Prop :=
  (∀ (s : State) (r : SheetRequest),
    (∀ o, resolve r.index r.sub = some o →
      (s.takes 1 r 0 = true → ∃ t, exec (.callSheetRead r) s = .next t ∧ s.sheetEnded t r tsOk (s.readData o r.index r.sub) ∧
        (∀ p, viaPort r.via = some p → 1 ≤ o.size → o.size ≤ 4 → t.regf.get Fld.MGP_CSP_DATA.WORD p 0 = leNat (s.readData o r.index r.sub)) ∧
        t = { s with out := t.out, regf := t.regf, mgp := { s.mgp with portStatus := t.mgp.portStatus, portBusy := t.mgp.portBusy, portSeq := t.mgp.portSeq } }) ∧
      (s.takes 3 r 0 = true → ∃ t, exec (.describe r) s = .next t ∧ s.sheetEnded t r tsOk (s.describeObj o r.index r.sub) ∧
        t = { s with out := t.out, regf := t.regf, mgp := { s.mgp with portStatus := t.mgp.portStatus, portBusy := t.mgp.portBusy, portSeq := t.mgp.portSeq } })) ∧
    (∀ bs o st, s.takes 2 r bs.length = true → resolve r.index r.sub = some o →
      ((o.acc = .ro ∧ st = tsReadOnly) ∨ (o.acc ≠ .ro ∧ bs.length ≠ o.size ∧ st = tsBadLength) ∨
        (o.acc ≠ .ro ∧ bs.length = o.size ∧ st = s.valueStatus o r.index r.sub (leNat bs) ∧ st ≠ 0)) →
      ∃ t, exec (.callSheetWrite r bs) s = .next t ∧ s.sheetEnded t r st [] ∧
        t = { s with out := t.out, regf := t.regf, mgp := { s.mgp with portStatus := t.mgp.portStatus, portBusy := t.mgp.portBusy, portSeq := t.mgp.portSeq } }) ∧
    (∀ bs o, s.takes 2 r bs.length = true → resolve r.index r.sub = some o → o.acc ≠ .ro → bs.length = o.size → s.valueStatus o r.index r.sub (leNat bs) = 0 →
      s.actObj r.index r.sub (leNat bs) = none → o.staged = false → forcedBits r.index r.sub (leNat bs) ≠ s.sheetVal o r.index r.sub →
      (o.pers ≠ .stored → Tbl.getD s.mgp.wrote (sheetKey r.index r.sub) 0 ≤ viaInst r.via → ∃ t, exec (.callSheetWrite r bs) s = .next t ∧ s.sheetEnded t r tsOk [] ∧ t.sheetVal o r.index r.sub = forcedBits r.index r.sub (leNat bs) ∧
        (∀ k, k ≠ sheetKey r.index r.sub → Tbl.find? t.sheet k = Tbl.find? s.sheet k) ∧
        t = { s with out := t.out, tbu := { s.tbu with classes := t.tbu.classes }, regf := t.regf, sheet := t.sheet, sheetOld := t.sheetOld, mgp := t.mgp }) ∧
      (o.pers ≠ .stored → viaInst r.via < Tbl.getD s.mgp.wrote (sheetKey r.index r.sub) 0 → ∃ t, exec (.callSheetWrite r bs) s = .next t ∧ s.sheetEnded t r tsOk [] ∧
        t = { s with out := t.out, tbu := { s.tbu with classes := t.tbu.classes }, regf := t.regf, mgp := t.mgp }) ∧
      (o.pers = .stored → s.storeFull o r.index r.sub (forcedBits r.index r.sub (leNat bs)) = true → ∃ t, exec (.callSheetWrite r bs) s = .next t ∧ s.sheetEnded t r 0x09 [] ∧
        t = { s with out := t.out, tbu := { s.tbu with classes := t.tbu.classes }, regf := t.regf, mgp := t.mgp }) ∧
      (o.pers = .stored → s.storeFull o r.index r.sub (forcedBits r.index r.sub (leNat bs)) = false → ∃ t, exec (.callSheetWrite r bs) s = .next t ∧ t.sheet = s.sheet ∧ t.out = s.out ∧
        t.mgp.storing = s.mgp.storing ++ [{ via := r.via, eid := r.eid, tag := r.tag, key := sheetKey r.index r.sub, size := o.size
                                            value := forcedBits r.index r.sub (leNat bs), cluster := r.cluster }] ∧
        t = { s with regf := t.regf, mgp := t.mgp }))) ∧
  (∀ (s : State) (w : StoredWrite) (ws : List StoredWrite) (o : Obj) (r : SheetRequest), s.mgp.storing = w :: ws → objAt (w.key / 256) (w.key % 256) = some o →
    r.via = w.via → r.eid = w.eid → r.tag = w.tag → ∃ t, exec .storedWriteCommit s = .next t ∧ s.sheetEnded t r tsOk [] ∧ Tbl.getD t.sheet w.key (s.dflt o (w.key / 256) (w.key % 256)) = w.value ∧
      (∀ k, k ≠ w.key → Tbl.find? t.sheet k = Tbl.find? s.sheet k) ∧ t.mgp.storing = ws ∧
      t = { s with out := t.out, tbu := { s.tbu with classes := t.tbu.classes }, regf := t.regf, sheet := t.sheet, sheetOld := t.sheetOld, mgp := t.mgp }) ∧
  (∀ (s : State) (r : SheetRequest),
    (s.takes 2 { r with index := 0x4C00, sub := 0x05 } 1 = true → ∃ t, exec (.cutReq r 1) s = .next t ∧
      (s.ruled = true → s.standbyReady = true → s.ccl.planned = none → s.sheetEnded t r tsOk [] ∧ t.ccl = { s.ccl with planned := some .planned }) ∧
      (s.ruled = false ∨ s.standbyReady = false ∨ s.ccl.planned.isSome = true → s.sheetEnded t r 0x06 [] ∧ t.ccl = s.ccl) ∧
      t = { s with out := t.out, tbu := { s.tbu with classes := t.tbu.classes }, regf := t.regf, ccl := t.ccl, mgp := t.mgp }) ∧
    (∀ v, v ≤ 2 → s.takes 2 { r with index := 0x5000, sub := 0x09 } 1 = true → ∃ t, exec (.sealStateWrite r v) s = .next t ∧
      (s.sealOk v = true → s.sheetEnded t r tsOk [] ∧ t.csu = { s.csu with sealNext := some v }) ∧
      (s.sealOk v = false → s.sheetEnded t r 0x04 [] ∧ t.csu = s.csu) ∧ t = { s with out := t.out, tbu := { s.tbu with classes := t.tbu.classes }, regf := t.regf, csu := t.csu, mgp := t.mgp }) ∧
    (∀ i g, (i = .sealGrantSession r g ∨ i = .sealGrantDowngrade r g) → s.takes 2 { r with index := 0x5000, sub := 0x0F } 288 = true → ∃ t, exec i s = .next t ∧
      t.freeCnt = s.freeCnt + 1 ∧ t.mxe = s.mxe ∧ t.hlu = s.hlu ∧
      (s.grantOk g 1 = true → s.sheetEnded t r tsOk [] ∧ t.csu = { s.csu with session := true, challenge := t.csu.challenge } ∧ t.power = s.power) ∧
      (s.grantOk g 1 = false → s.grantOk g 2 = true → s.sheetEnded t r tsOk [] ∧ t.csu.sealSt = 0 ∧ t.csu.arch0 = [] ∧ t.csu.arch1 = [] ∧ t.csu.kekGen = s.csu.kekGen + 1 ∧
        t.csu.cfg.takeState = 0 ∧ t.power = { s.power with stage := .stair, startKind := .held } ∧ t.qen.rescue = { s.qen.rescue with open_ := true }) ∧
      (s.grantOk g 1 = false → s.grantOk g 2 = false → s.sheetEnded t r 0x04 [] ∧ t.csu = { s.csu with challenge := t.csu.challenge } ∧ t.power = s.power)) ∧
    (∀ v, s.takes 2 { r with index := 0x5000, sub := 0x03 } 4 = true → ∃ t, exec (.healthConfirm r v) s = .next t ∧
      (s.confirmOk v = true → s.sheetEnded t r tsOk [] ∧ (s.csu.cfg.takeState = 2 → t.csu.cfg.takeState = 3 ∧ t.csu.window = none ∧
        t.csu.svn = if s.csu.runRaise then max s.csu.svn s.csu.runSvn else s.csu.svn) ∧ (s.csu.cfg.takeState ≠ 2 → t.csu = s.csu)) ∧
      (s.confirmOk v = false → s.sheetEnded t r 0x04 [] ∧ t.csu = s.csu) ∧
      t = { s with out := t.out, tbu := { s.tbu with classes := t.tbu.classes }, regf := t.regf, csu := t.csu, mgp := t.mgp, cru := t.cru })) ∧
  (∀ (s : State) (a : FwAccess) (as : List FwAccess) (r : SheetRequest), s.mgp.fw = a :: as → r.via = a.via → r.eid = a.eid → r.tag = a.tag →
    (s.passed a.since (msTicks (s.obj Ob.FW_OBJ_MS)) = true → ∃ t, exec .fwObjectTimeout s = .next t ∧ s.sheetEnded t r tsBusy [] ∧ t.mgp.fw = as ∧
      t = { s with out := t.out, regf := t.regf, mgp := t.mgp }) ∧
    (s.passed a.since (msTicks (s.obj Ob.FW_OBJ_MS)) = false → exec .fwObjectTimeout s = .next s)) ∧
  (∀ (s : State) (num st : Nat) (bs : List Byte),
    (∀ (a : FwAccess) (r : SheetRequest), s.mgp.fw.find? (fun a => a.num == num) = some a → r.via = a.via → r.eid = a.eid → r.tag = a.tag →
      ∃ t, exec (.fwObjectAnswer ⟨num, st⟩ bs) s = .next t ∧ s.sheetEnded t r st (if a.cmd = 2 ∨ st ≠ 0 then [] else bs) ∧ (∀ b, b ∈ t.mgp.fw ↔ b ∈ s.mgp.fw ∧ b.num ≠ num) ∧
      t = { s with out := t.out, regf := t.regf, mgp := t.mgp }) ∧
    (s.mgp.fw.find? (fun a => a.num == num) = none → exec (.fwObjectAnswer ⟨num, st⟩ bs) s = .next s)) ∧
  (∀ (s : State) (m : RawMessage) (r : SheetRequest), badMessage m = true → s.reaches m.via = true → r.via = m.via → r.eid = 0 → r.tag = m.tag →
    ∃ t, exec (.tuigorBadMsg m) s = .next t ∧ s.sheetEnded t r tsBadMsg [] ∧ t.fld Fld.MGP_TP_ERR.BAD_MSG = 1 ∧ t = { s with out := t.out, regf := t.regf, mgp := t.mgp }) ∧
  (∀ (s : State) (i3c : Bool) (e : Nat) (a : BitVec 7), s.auxUp = true →
    exec (.mctpControlMessage i3c e) s = .next { s with out := .mctpAnswer i3c e :: s.out } ∧ exec (.nvmeMiBasicManagement i3c e) s = .next { s with out := .mctpAnswer i3c e :: s.out } ∧
    exec .smbusTimeout s = .next { s with out := .smbusReset :: s.out } ∧ exec (.i3cDynamicAddressAssignment i3c a) s = .next { s with mgp := { s.mgp with i3cAddr := some a } })

/-- R476: a write of FLEET_SET while FLEET_SRC = 2 completes with NOT_READY; otherwise it steps fleet time to the written value, sets FLEET_SRC to 1 and increments FLEET_STEPS. -/
def Obligations.FleetSetStepsFleetTime : Prop :=
  ∀ (s : State) (r : SheetRequest) (v : Dword), s.takes 2 { r with index := 0x5800, sub := 0x02 } 8 = true → ∃ t, exec (.fleetSet r v) s = .next t ∧
    (s.tbu.fleetSrc = 2 → s.sheetEnded t r 0x06 [] ∧ t.tbu = { s.tbu with classes := t.tbu.classes } ∧ t.sheet = s.sheet) ∧
    (s.tbu.fleetSrc ≠ 2 → s.sheetEnded t r tsOk [] ∧ t.tbu = { s.tbu with classes := t.tbu.classes, fleet := v, fleetQ := 0, slewLeft := 0, slewAcc := 0, fleetSrc := 1 } ∧
      (s.obj Ob.FLEET_STEPS < 0xFFFFFFFF → t.sheetVal Ob.FLEET_STEPS Ob.FLEET_STEPS.idx Ob.FLEET_STEPS.sub = s.obj Ob.FLEET_STEPS + 1) ∧
      ∀ k, k ≠ sheetKey Ob.FLEET_STEPS.idx Ob.FLEET_STEPS.sub → Tbl.find? t.sheet k = Tbl.find? s.sheet k) ∧
    t = { s with out := t.out, tbu := t.tbu, regf := t.regf, sheet := t.sheet, cdx := t.cdx, mgp := t.mgp, cru := t.cru }

/-! ## The machine -/

/-- A step runs the command at the front of the queue with the queue's rest, and passes a tick when the queue is empty (log entry 2). It stops only where a DRAM access or a patrol read names an address at or above the capacity. -/
def Obligations.StepRunsTheFrontCommand : Prop :=
  (∀ (s : State) (c : Instr), step { s with pending := c :: s.pending } = exec c s) ∧
  (∀ s : State, s.pending = [] → step s = .next s.tick) ∧
  (∀ (s : State) (c : Instr), goesOn (exec c s) = true ∨ ∃ a, exec c s = .fault (.noDramAddress a) ∧ s.dmc.trained = true ∧ s.dmc.capacity ≤ a ∧
    ((∃ x e, c = .dramRequest x e ∧ x.addr = a) ∨ ∃ e, c = .patrolScrub a e))

/-- R21: the tick counter is 0 after a power-up of VDD_CORE, and every other command (every other reset and a cut among them) keeps it. -/
def Obligations.TickCounterIsZeroOnlyAtPowerUp : Prop :=
  (∀ s : State, s.power.unpowered = true → ∃ t, exec .powerUp s = .next t ∧ t.tbu.tick = 0) ∧
  (∀ (s t : State) (c : Instr), c ≠ .powerUp → exec c s = .next t → t.tbu.tick = s.tbu.tick)

/-- Every step, a tick and a power-up among them, keeps each byte memory of the machine in its canonical form (addresses strictly rising, no entry equal to what an unlisted address reads as) and lowers none of the counters that never go back: DSN and PSN (R104, R188), the BSN, the fused security version and the KEK generation. -/
def Obligations.EveryStepKeepsMemoriesCanonicalAndCountersRising : Prop :=
  ∀ s t : State, step s = .next t → (s.memOk = true → t.memOk = true) ∧ s.mxe.dsn ≤ t.mxe.dsn ∧ s.mxe.psn ≤ t.mxe.psn ∧ s.mxe.bsn ≤ t.mxe.bsn ∧
    s.csu.svn ≤ t.csu.svn ∧ s.csu.kekGen ≤ t.csu.kekGen

/-- R167: every step keeps the units that the Gallery still assembles incomplete: a unit whose 64 pieces are all there leaves assembly. The premise of PeerTrafficReachesItsWindow. -/
def Obligations.UnitsInAssemblyStayIncomplete : Prop :=
  ∀ s t : State, step s = .next t → (∀ u ∈ s.gal.units, u.mask ≠ BitVec.allOnes 64) → ∀ u ∈ t.gal.units, u.mask ≠ BitVec.allOnes 64

/-- What reset leaves (log entry 1 names the model's own choices): no command waits, the tick counter is 0, the controller is in Foyer, no context or queue is in use, the map is empty, DSN, PSN and BSN are 0, no Gallery unit is in assembly, every register field is at its reset value, the recorder is not frozen, and the memories are in canonical form. -/
def Obligations.ResetLeavesAnIdleMachineInFoyer : Prop :=
  State.reset.pending = [] ∧ State.reset.out = [] ∧ State.reset.memOk = true ∧ State.reset.tbu.tick = 0 ∧ State.reset.power.stage = .foyer ∧ State.reset.qen.ctxs = [] ∧
    State.reset.mxe.map = [] ∧ State.reset.mxe.dsn = 0 ∧ State.reset.mxe.psn = 0 ∧ State.reset.mxe.bsn = 0 ∧ State.reset.gal.units = [] ∧ State.reset.cru.frozen = none ∧ (∀ f : Field, State.reset.fld f = f.reset) ∧ State.reset.sheet = [(sheetKey 0x1100 3, 1)]
end

