-- ==== Sys2Proof/Laws/State.lean ====
section
/-! SUPPORT. What each modifier of the state changes and what it leaves: one lemma per field and modifier, so that no proof unfolds a record update. -/

namespace Sys2Proof.Machine

/-! ## modTimers -/

@[simp] theorem State.modTimers_pending (f : Timers → Timers) (s : State) : (s.modTimers f).pending = s.pending := rfl
@[simp] theorem State.modTimers_out (f : Timers → Timers) (s : State) : (s.modTimers f).out = s.out := rfl
@[simp] theorem State.modTimers_freeCnt (f : Timers → Timers) (s : State) : (s.modTimers f).freeCnt = s.freeCnt := rfl
@[simp] theorem State.modTimers_timers (f : Timers → Timers) (s : State) : (s.modTimers f).timers = f s.timers := rfl
@[simp] theorem State.modTimers_tbu (f : Timers → Timers) (s : State) : (s.modTimers f).tbu = s.tbu := rfl
@[simp] theorem State.modTimers_power (f : Timers → Timers) (s : State) : (s.modTimers f).power = s.power := rfl
@[simp] theorem State.modTimers_regf (f : Timers → Timers) (s : State) : (s.modTimers f).regf = s.regf := rfl
@[simp] theorem State.modTimers_sheet (f : Timers → Timers) (s : State) : (s.modTimers f).sheet = s.sheet := rfl
@[simp] theorem State.modTimers_sheetOld (f : Timers → Timers) (s : State) : (s.modTimers f).sheetOld = s.sheetOld := rfl
@[simp] theorem State.modTimers_hlu (f : Timers → Timers) (s : State) : (s.modTimers f).hlu = s.hlu := rfl
@[simp] theorem State.modTimers_qen (f : Timers → Timers) (s : State) : (s.modTimers f).qen = s.qen := rfl
@[simp] theorem State.modTimers_tnu (f : Timers → Timers) (s : State) : (s.modTimers f).tnu = s.tnu := rfl
@[simp] theorem State.modTimers_gal (f : Timers → Timers) (s : State) : (s.modTimers f).gal = s.gal := rfl
@[simp] theorem State.modTimers_mxe (f : Timers → Timers) (s : State) : (s.modTimers f).mxe = s.mxe := rfl
@[simp] theorem State.modTimers_dsc (f : Timers → Timers) (s : State) : (s.modTimers f).dsc = s.dsc := rfl
@[simp] theorem State.modTimers_fca (f : Timers → Timers) (s : State) : (s.modTimers f).fca = s.fca := rfl
@[simp] theorem State.modTimers_cdx (f : Timers → Timers) (s : State) : (s.modTimers f).cdx = s.cdx := rfl
@[simp] theorem State.modTimers_spe (f : Timers → Timers) (s : State) : (s.modTimers f).spe = s.spe := rfl
@[simp] theorem State.modTimers_hum (f : Timers → Timers) (s : State) : (s.modTimers f).hum = s.hum := rfl
@[simp] theorem State.modTimers_bpm (f : Timers → Timers) (s : State) : (s.modTimers f).bpm = s.bpm := rfl
@[simp] theorem State.modTimers_dmc (f : Timers → Timers) (s : State) : (s.modTimers f).dmc = s.dmc := rfl
@[simp] theorem State.modTimers_ccl (f : Timers → Timers) (s : State) : (s.modTimers f).ccl = s.ccl := rfl
@[simp] theorem State.modTimers_csu (f : Timers → Timers) (s : State) : (s.modTimers f).csu = s.csu := rfl
@[simp] theorem State.modTimers_mgp (f : Timers → Timers) (s : State) : (s.modTimers f).mgp = s.mgp := rfl
@[simp] theorem State.modTimers_cru (f : Timers → Timers) (s : State) : (s.modTimers f).cru = s.cru := rfl

/-! ## modTbu -/

@[simp] theorem State.modTbu_pending (f : Tbu → Tbu) (s : State) : (s.modTbu f).pending = s.pending := rfl
@[simp] theorem State.modTbu_out (f : Tbu → Tbu) (s : State) : (s.modTbu f).out = s.out := rfl
@[simp] theorem State.modTbu_freeCnt (f : Tbu → Tbu) (s : State) : (s.modTbu f).freeCnt = s.freeCnt := rfl
@[simp] theorem State.modTbu_timers (f : Tbu → Tbu) (s : State) : (s.modTbu f).timers = s.timers := rfl
@[simp] theorem State.modTbu_tbu (f : Tbu → Tbu) (s : State) : (s.modTbu f).tbu = f s.tbu := rfl
@[simp] theorem State.modTbu_power (f : Tbu → Tbu) (s : State) : (s.modTbu f).power = s.power := rfl
@[simp] theorem State.modTbu_regf (f : Tbu → Tbu) (s : State) : (s.modTbu f).regf = s.regf := rfl
@[simp] theorem State.modTbu_sheet (f : Tbu → Tbu) (s : State) : (s.modTbu f).sheet = s.sheet := rfl
@[simp] theorem State.modTbu_sheetOld (f : Tbu → Tbu) (s : State) : (s.modTbu f).sheetOld = s.sheetOld := rfl
@[simp] theorem State.modTbu_hlu (f : Tbu → Tbu) (s : State) : (s.modTbu f).hlu = s.hlu := rfl
@[simp] theorem State.modTbu_qen (f : Tbu → Tbu) (s : State) : (s.modTbu f).qen = s.qen := rfl
@[simp] theorem State.modTbu_tnu (f : Tbu → Tbu) (s : State) : (s.modTbu f).tnu = s.tnu := rfl
@[simp] theorem State.modTbu_gal (f : Tbu → Tbu) (s : State) : (s.modTbu f).gal = s.gal := rfl
@[simp] theorem State.modTbu_mxe (f : Tbu → Tbu) (s : State) : (s.modTbu f).mxe = s.mxe := rfl
@[simp] theorem State.modTbu_dsc (f : Tbu → Tbu) (s : State) : (s.modTbu f).dsc = s.dsc := rfl
@[simp] theorem State.modTbu_fca (f : Tbu → Tbu) (s : State) : (s.modTbu f).fca = s.fca := rfl
@[simp] theorem State.modTbu_cdx (f : Tbu → Tbu) (s : State) : (s.modTbu f).cdx = s.cdx := rfl
@[simp] theorem State.modTbu_spe (f : Tbu → Tbu) (s : State) : (s.modTbu f).spe = s.spe := rfl
@[simp] theorem State.modTbu_hum (f : Tbu → Tbu) (s : State) : (s.modTbu f).hum = s.hum := rfl
@[simp] theorem State.modTbu_bpm (f : Tbu → Tbu) (s : State) : (s.modTbu f).bpm = s.bpm := rfl
@[simp] theorem State.modTbu_dmc (f : Tbu → Tbu) (s : State) : (s.modTbu f).dmc = s.dmc := rfl
@[simp] theorem State.modTbu_ccl (f : Tbu → Tbu) (s : State) : (s.modTbu f).ccl = s.ccl := rfl
@[simp] theorem State.modTbu_csu (f : Tbu → Tbu) (s : State) : (s.modTbu f).csu = s.csu := rfl
@[simp] theorem State.modTbu_mgp (f : Tbu → Tbu) (s : State) : (s.modTbu f).mgp = s.mgp := rfl
@[simp] theorem State.modTbu_cru (f : Tbu → Tbu) (s : State) : (s.modTbu f).cru = s.cru := rfl

/-! ## modPower -/

@[simp] theorem State.modPower_pending (f : Power → Power) (s : State) : (s.modPower f).pending = s.pending := rfl
@[simp] theorem State.modPower_out (f : Power → Power) (s : State) : (s.modPower f).out = s.out := rfl
@[simp] theorem State.modPower_freeCnt (f : Power → Power) (s : State) : (s.modPower f).freeCnt = s.freeCnt := rfl
@[simp] theorem State.modPower_timers (f : Power → Power) (s : State) : (s.modPower f).timers = s.timers := rfl
@[simp] theorem State.modPower_tbu (f : Power → Power) (s : State) : (s.modPower f).tbu = s.tbu := rfl
@[simp] theorem State.modPower_power (f : Power → Power) (s : State) : (s.modPower f).power = f s.power := rfl
@[simp] theorem State.modPower_regf (f : Power → Power) (s : State) : (s.modPower f).regf = s.regf := rfl
@[simp] theorem State.modPower_sheet (f : Power → Power) (s : State) : (s.modPower f).sheet = s.sheet := rfl
@[simp] theorem State.modPower_sheetOld (f : Power → Power) (s : State) : (s.modPower f).sheetOld = s.sheetOld := rfl
@[simp] theorem State.modPower_hlu (f : Power → Power) (s : State) : (s.modPower f).hlu = s.hlu := rfl
@[simp] theorem State.modPower_qen (f : Power → Power) (s : State) : (s.modPower f).qen = s.qen := rfl
@[simp] theorem State.modPower_tnu (f : Power → Power) (s : State) : (s.modPower f).tnu = s.tnu := rfl
@[simp] theorem State.modPower_gal (f : Power → Power) (s : State) : (s.modPower f).gal = s.gal := rfl
@[simp] theorem State.modPower_mxe (f : Power → Power) (s : State) : (s.modPower f).mxe = s.mxe := rfl
@[simp] theorem State.modPower_dsc (f : Power → Power) (s : State) : (s.modPower f).dsc = s.dsc := rfl
@[simp] theorem State.modPower_fca (f : Power → Power) (s : State) : (s.modPower f).fca = s.fca := rfl
@[simp] theorem State.modPower_cdx (f : Power → Power) (s : State) : (s.modPower f).cdx = s.cdx := rfl
@[simp] theorem State.modPower_spe (f : Power → Power) (s : State) : (s.modPower f).spe = s.spe := rfl
@[simp] theorem State.modPower_hum (f : Power → Power) (s : State) : (s.modPower f).hum = s.hum := rfl
@[simp] theorem State.modPower_bpm (f : Power → Power) (s : State) : (s.modPower f).bpm = s.bpm := rfl
@[simp] theorem State.modPower_dmc (f : Power → Power) (s : State) : (s.modPower f).dmc = s.dmc := rfl
@[simp] theorem State.modPower_ccl (f : Power → Power) (s : State) : (s.modPower f).ccl = s.ccl := rfl
@[simp] theorem State.modPower_csu (f : Power → Power) (s : State) : (s.modPower f).csu = s.csu := rfl
@[simp] theorem State.modPower_mgp (f : Power → Power) (s : State) : (s.modPower f).mgp = s.mgp := rfl
@[simp] theorem State.modPower_cru (f : Power → Power) (s : State) : (s.modPower f).cru = s.cru := rfl

/-! ## modRegf -/

@[simp] theorem State.modRegf_pending (f : RegFile → RegFile) (s : State) : (s.modRegf f).pending = s.pending := rfl
@[simp] theorem State.modRegf_out (f : RegFile → RegFile) (s : State) : (s.modRegf f).out = s.out := rfl
@[simp] theorem State.modRegf_freeCnt (f : RegFile → RegFile) (s : State) : (s.modRegf f).freeCnt = s.freeCnt := rfl
@[simp] theorem State.modRegf_timers (f : RegFile → RegFile) (s : State) : (s.modRegf f).timers = s.timers := rfl
@[simp] theorem State.modRegf_tbu (f : RegFile → RegFile) (s : State) : (s.modRegf f).tbu = s.tbu := rfl
@[simp] theorem State.modRegf_power (f : RegFile → RegFile) (s : State) : (s.modRegf f).power = s.power := rfl
@[simp] theorem State.modRegf_regf (f : RegFile → RegFile) (s : State) : (s.modRegf f).regf = f s.regf := rfl
@[simp] theorem State.modRegf_sheet (f : RegFile → RegFile) (s : State) : (s.modRegf f).sheet = s.sheet := rfl
@[simp] theorem State.modRegf_sheetOld (f : RegFile → RegFile) (s : State) : (s.modRegf f).sheetOld = s.sheetOld := rfl
@[simp] theorem State.modRegf_hlu (f : RegFile → RegFile) (s : State) : (s.modRegf f).hlu = s.hlu := rfl
@[simp] theorem State.modRegf_qen (f : RegFile → RegFile) (s : State) : (s.modRegf f).qen = s.qen := rfl
@[simp] theorem State.modRegf_tnu (f : RegFile → RegFile) (s : State) : (s.modRegf f).tnu = s.tnu := rfl
@[simp] theorem State.modRegf_gal (f : RegFile → RegFile) (s : State) : (s.modRegf f).gal = s.gal := rfl
@[simp] theorem State.modRegf_mxe (f : RegFile → RegFile) (s : State) : (s.modRegf f).mxe = s.mxe := rfl
@[simp] theorem State.modRegf_dsc (f : RegFile → RegFile) (s : State) : (s.modRegf f).dsc = s.dsc := rfl
@[simp] theorem State.modRegf_fca (f : RegFile → RegFile) (s : State) : (s.modRegf f).fca = s.fca := rfl
@[simp] theorem State.modRegf_cdx (f : RegFile → RegFile) (s : State) : (s.modRegf f).cdx = s.cdx := rfl
@[simp] theorem State.modRegf_spe (f : RegFile → RegFile) (s : State) : (s.modRegf f).spe = s.spe := rfl
@[simp] theorem State.modRegf_hum (f : RegFile → RegFile) (s : State) : (s.modRegf f).hum = s.hum := rfl
@[simp] theorem State.modRegf_bpm (f : RegFile → RegFile) (s : State) : (s.modRegf f).bpm = s.bpm := rfl
@[simp] theorem State.modRegf_dmc (f : RegFile → RegFile) (s : State) : (s.modRegf f).dmc = s.dmc := rfl
@[simp] theorem State.modRegf_ccl (f : RegFile → RegFile) (s : State) : (s.modRegf f).ccl = s.ccl := rfl
@[simp] theorem State.modRegf_csu (f : RegFile → RegFile) (s : State) : (s.modRegf f).csu = s.csu := rfl
@[simp] theorem State.modRegf_mgp (f : RegFile → RegFile) (s : State) : (s.modRegf f).mgp = s.mgp := rfl
@[simp] theorem State.modRegf_cru (f : RegFile → RegFile) (s : State) : (s.modRegf f).cru = s.cru := rfl

/-! ## modHlu -/

@[simp] theorem State.modHlu_pending (f : Hlu → Hlu) (s : State) : (s.modHlu f).pending = s.pending := rfl
@[simp] theorem State.modHlu_out (f : Hlu → Hlu) (s : State) : (s.modHlu f).out = s.out := rfl
@[simp] theorem State.modHlu_freeCnt (f : Hlu → Hlu) (s : State) : (s.modHlu f).freeCnt = s.freeCnt := rfl
@[simp] theorem State.modHlu_timers (f : Hlu → Hlu) (s : State) : (s.modHlu f).timers = s.timers := rfl
@[simp] theorem State.modHlu_tbu (f : Hlu → Hlu) (s : State) : (s.modHlu f).tbu = s.tbu := rfl
@[simp] theorem State.modHlu_power (f : Hlu → Hlu) (s : State) : (s.modHlu f).power = s.power := rfl
@[simp] theorem State.modHlu_regf (f : Hlu → Hlu) (s : State) : (s.modHlu f).regf = s.regf := rfl
@[simp] theorem State.modHlu_sheet (f : Hlu → Hlu) (s : State) : (s.modHlu f).sheet = s.sheet := rfl
@[simp] theorem State.modHlu_sheetOld (f : Hlu → Hlu) (s : State) : (s.modHlu f).sheetOld = s.sheetOld := rfl
@[simp] theorem State.modHlu_hlu (f : Hlu → Hlu) (s : State) : (s.modHlu f).hlu = f s.hlu := rfl
@[simp] theorem State.modHlu_qen (f : Hlu → Hlu) (s : State) : (s.modHlu f).qen = s.qen := rfl
@[simp] theorem State.modHlu_tnu (f : Hlu → Hlu) (s : State) : (s.modHlu f).tnu = s.tnu := rfl
@[simp] theorem State.modHlu_gal (f : Hlu → Hlu) (s : State) : (s.modHlu f).gal = s.gal := rfl
@[simp] theorem State.modHlu_mxe (f : Hlu → Hlu) (s : State) : (s.modHlu f).mxe = s.mxe := rfl
@[simp] theorem State.modHlu_dsc (f : Hlu → Hlu) (s : State) : (s.modHlu f).dsc = s.dsc := rfl
@[simp] theorem State.modHlu_fca (f : Hlu → Hlu) (s : State) : (s.modHlu f).fca = s.fca := rfl
@[simp] theorem State.modHlu_cdx (f : Hlu → Hlu) (s : State) : (s.modHlu f).cdx = s.cdx := rfl
@[simp] theorem State.modHlu_spe (f : Hlu → Hlu) (s : State) : (s.modHlu f).spe = s.spe := rfl
@[simp] theorem State.modHlu_hum (f : Hlu → Hlu) (s : State) : (s.modHlu f).hum = s.hum := rfl
@[simp] theorem State.modHlu_bpm (f : Hlu → Hlu) (s : State) : (s.modHlu f).bpm = s.bpm := rfl
@[simp] theorem State.modHlu_dmc (f : Hlu → Hlu) (s : State) : (s.modHlu f).dmc = s.dmc := rfl
@[simp] theorem State.modHlu_ccl (f : Hlu → Hlu) (s : State) : (s.modHlu f).ccl = s.ccl := rfl
@[simp] theorem State.modHlu_csu (f : Hlu → Hlu) (s : State) : (s.modHlu f).csu = s.csu := rfl
@[simp] theorem State.modHlu_mgp (f : Hlu → Hlu) (s : State) : (s.modHlu f).mgp = s.mgp := rfl
@[simp] theorem State.modHlu_cru (f : Hlu → Hlu) (s : State) : (s.modHlu f).cru = s.cru := rfl

/-! ## modQen -/

@[simp] theorem State.modQen_pending (f : Qen → Qen) (s : State) : (s.modQen f).pending = s.pending := rfl
@[simp] theorem State.modQen_out (f : Qen → Qen) (s : State) : (s.modQen f).out = s.out := rfl
@[simp] theorem State.modQen_freeCnt (f : Qen → Qen) (s : State) : (s.modQen f).freeCnt = s.freeCnt := rfl
@[simp] theorem State.modQen_timers (f : Qen → Qen) (s : State) : (s.modQen f).timers = s.timers := rfl
@[simp] theorem State.modQen_tbu (f : Qen → Qen) (s : State) : (s.modQen f).tbu = s.tbu := rfl
@[simp] theorem State.modQen_power (f : Qen → Qen) (s : State) : (s.modQen f).power = s.power := rfl
@[simp] theorem State.modQen_regf (f : Qen → Qen) (s : State) : (s.modQen f).regf = s.regf := rfl
@[simp] theorem State.modQen_sheet (f : Qen → Qen) (s : State) : (s.modQen f).sheet = s.sheet := rfl
@[simp] theorem State.modQen_sheetOld (f : Qen → Qen) (s : State) : (s.modQen f).sheetOld = s.sheetOld := rfl
@[simp] theorem State.modQen_hlu (f : Qen → Qen) (s : State) : (s.modQen f).hlu = s.hlu := rfl
@[simp] theorem State.modQen_qen (f : Qen → Qen) (s : State) : (s.modQen f).qen = f s.qen := rfl
@[simp] theorem State.modQen_tnu (f : Qen → Qen) (s : State) : (s.modQen f).tnu = s.tnu := rfl
@[simp] theorem State.modQen_gal (f : Qen → Qen) (s : State) : (s.modQen f).gal = s.gal := rfl
@[simp] theorem State.modQen_mxe (f : Qen → Qen) (s : State) : (s.modQen f).mxe = s.mxe := rfl
@[simp] theorem State.modQen_dsc (f : Qen → Qen) (s : State) : (s.modQen f).dsc = s.dsc := rfl
@[simp] theorem State.modQen_fca (f : Qen → Qen) (s : State) : (s.modQen f).fca = s.fca := rfl
@[simp] theorem State.modQen_cdx (f : Qen → Qen) (s : State) : (s.modQen f).cdx = s.cdx := rfl
@[simp] theorem State.modQen_spe (f : Qen → Qen) (s : State) : (s.modQen f).spe = s.spe := rfl
@[simp] theorem State.modQen_hum (f : Qen → Qen) (s : State) : (s.modQen f).hum = s.hum := rfl
@[simp] theorem State.modQen_bpm (f : Qen → Qen) (s : State) : (s.modQen f).bpm = s.bpm := rfl
@[simp] theorem State.modQen_dmc (f : Qen → Qen) (s : State) : (s.modQen f).dmc = s.dmc := rfl
@[simp] theorem State.modQen_ccl (f : Qen → Qen) (s : State) : (s.modQen f).ccl = s.ccl := rfl
@[simp] theorem State.modQen_csu (f : Qen → Qen) (s : State) : (s.modQen f).csu = s.csu := rfl
@[simp] theorem State.modQen_mgp (f : Qen → Qen) (s : State) : (s.modQen f).mgp = s.mgp := rfl
@[simp] theorem State.modQen_cru (f : Qen → Qen) (s : State) : (s.modQen f).cru = s.cru := rfl

/-! ## modTnu -/

@[simp] theorem State.modTnu_pending (f : Tnu → Tnu) (s : State) : (s.modTnu f).pending = s.pending := rfl
@[simp] theorem State.modTnu_out (f : Tnu → Tnu) (s : State) : (s.modTnu f).out = s.out := rfl
@[simp] theorem State.modTnu_freeCnt (f : Tnu → Tnu) (s : State) : (s.modTnu f).freeCnt = s.freeCnt := rfl
@[simp] theorem State.modTnu_timers (f : Tnu → Tnu) (s : State) : (s.modTnu f).timers = s.timers := rfl
@[simp] theorem State.modTnu_tbu (f : Tnu → Tnu) (s : State) : (s.modTnu f).tbu = s.tbu := rfl
@[simp] theorem State.modTnu_power (f : Tnu → Tnu) (s : State) : (s.modTnu f).power = s.power := rfl
@[simp] theorem State.modTnu_regf (f : Tnu → Tnu) (s : State) : (s.modTnu f).regf = s.regf := rfl
@[simp] theorem State.modTnu_sheet (f : Tnu → Tnu) (s : State) : (s.modTnu f).sheet = s.sheet := rfl
@[simp] theorem State.modTnu_sheetOld (f : Tnu → Tnu) (s : State) : (s.modTnu f).sheetOld = s.sheetOld := rfl
@[simp] theorem State.modTnu_hlu (f : Tnu → Tnu) (s : State) : (s.modTnu f).hlu = s.hlu := rfl
@[simp] theorem State.modTnu_qen (f : Tnu → Tnu) (s : State) : (s.modTnu f).qen = s.qen := rfl
@[simp] theorem State.modTnu_tnu (f : Tnu → Tnu) (s : State) : (s.modTnu f).tnu = f s.tnu := rfl
@[simp] theorem State.modTnu_gal (f : Tnu → Tnu) (s : State) : (s.modTnu f).gal = s.gal := rfl
@[simp] theorem State.modTnu_mxe (f : Tnu → Tnu) (s : State) : (s.modTnu f).mxe = s.mxe := rfl
@[simp] theorem State.modTnu_dsc (f : Tnu → Tnu) (s : State) : (s.modTnu f).dsc = s.dsc := rfl
@[simp] theorem State.modTnu_fca (f : Tnu → Tnu) (s : State) : (s.modTnu f).fca = s.fca := rfl
@[simp] theorem State.modTnu_cdx (f : Tnu → Tnu) (s : State) : (s.modTnu f).cdx = s.cdx := rfl
@[simp] theorem State.modTnu_spe (f : Tnu → Tnu) (s : State) : (s.modTnu f).spe = s.spe := rfl
@[simp] theorem State.modTnu_hum (f : Tnu → Tnu) (s : State) : (s.modTnu f).hum = s.hum := rfl
@[simp] theorem State.modTnu_bpm (f : Tnu → Tnu) (s : State) : (s.modTnu f).bpm = s.bpm := rfl
@[simp] theorem State.modTnu_dmc (f : Tnu → Tnu) (s : State) : (s.modTnu f).dmc = s.dmc := rfl
@[simp] theorem State.modTnu_ccl (f : Tnu → Tnu) (s : State) : (s.modTnu f).ccl = s.ccl := rfl
@[simp] theorem State.modTnu_csu (f : Tnu → Tnu) (s : State) : (s.modTnu f).csu = s.csu := rfl
@[simp] theorem State.modTnu_mgp (f : Tnu → Tnu) (s : State) : (s.modTnu f).mgp = s.mgp := rfl
@[simp] theorem State.modTnu_cru (f : Tnu → Tnu) (s : State) : (s.modTnu f).cru = s.cru := rfl

/-! ## modGal -/

@[simp] theorem State.modGal_pending (f : Gal → Gal) (s : State) : (s.modGal f).pending = s.pending := rfl
@[simp] theorem State.modGal_out (f : Gal → Gal) (s : State) : (s.modGal f).out = s.out := rfl
@[simp] theorem State.modGal_freeCnt (f : Gal → Gal) (s : State) : (s.modGal f).freeCnt = s.freeCnt := rfl
@[simp] theorem State.modGal_timers (f : Gal → Gal) (s : State) : (s.modGal f).timers = s.timers := rfl
@[simp] theorem State.modGal_tbu (f : Gal → Gal) (s : State) : (s.modGal f).tbu = s.tbu := rfl
@[simp] theorem State.modGal_power (f : Gal → Gal) (s : State) : (s.modGal f).power = s.power := rfl
@[simp] theorem State.modGal_regf (f : Gal → Gal) (s : State) : (s.modGal f).regf = s.regf := rfl
@[simp] theorem State.modGal_sheet (f : Gal → Gal) (s : State) : (s.modGal f).sheet = s.sheet := rfl
@[simp] theorem State.modGal_sheetOld (f : Gal → Gal) (s : State) : (s.modGal f).sheetOld = s.sheetOld := rfl
@[simp] theorem State.modGal_hlu (f : Gal → Gal) (s : State) : (s.modGal f).hlu = s.hlu := rfl
@[simp] theorem State.modGal_qen (f : Gal → Gal) (s : State) : (s.modGal f).qen = s.qen := rfl
@[simp] theorem State.modGal_tnu (f : Gal → Gal) (s : State) : (s.modGal f).tnu = s.tnu := rfl
@[simp] theorem State.modGal_gal (f : Gal → Gal) (s : State) : (s.modGal f).gal = f s.gal := rfl
@[simp] theorem State.modGal_mxe (f : Gal → Gal) (s : State) : (s.modGal f).mxe = s.mxe := rfl
@[simp] theorem State.modGal_dsc (f : Gal → Gal) (s : State) : (s.modGal f).dsc = s.dsc := rfl
@[simp] theorem State.modGal_fca (f : Gal → Gal) (s : State) : (s.modGal f).fca = s.fca := rfl
@[simp] theorem State.modGal_cdx (f : Gal → Gal) (s : State) : (s.modGal f).cdx = s.cdx := rfl
@[simp] theorem State.modGal_spe (f : Gal → Gal) (s : State) : (s.modGal f).spe = s.spe := rfl
@[simp] theorem State.modGal_hum (f : Gal → Gal) (s : State) : (s.modGal f).hum = s.hum := rfl
@[simp] theorem State.modGal_bpm (f : Gal → Gal) (s : State) : (s.modGal f).bpm = s.bpm := rfl
@[simp] theorem State.modGal_dmc (f : Gal → Gal) (s : State) : (s.modGal f).dmc = s.dmc := rfl
@[simp] theorem State.modGal_ccl (f : Gal → Gal) (s : State) : (s.modGal f).ccl = s.ccl := rfl
@[simp] theorem State.modGal_csu (f : Gal → Gal) (s : State) : (s.modGal f).csu = s.csu := rfl
@[simp] theorem State.modGal_mgp (f : Gal → Gal) (s : State) : (s.modGal f).mgp = s.mgp := rfl
@[simp] theorem State.modGal_cru (f : Gal → Gal) (s : State) : (s.modGal f).cru = s.cru := rfl

/-! ## modMxe -/

@[simp] theorem State.modMxe_pending (f : Mxe → Mxe) (s : State) : (s.modMxe f).pending = s.pending := rfl
@[simp] theorem State.modMxe_out (f : Mxe → Mxe) (s : State) : (s.modMxe f).out = s.out := rfl
@[simp] theorem State.modMxe_freeCnt (f : Mxe → Mxe) (s : State) : (s.modMxe f).freeCnt = s.freeCnt := rfl
@[simp] theorem State.modMxe_timers (f : Mxe → Mxe) (s : State) : (s.modMxe f).timers = s.timers := rfl
@[simp] theorem State.modMxe_tbu (f : Mxe → Mxe) (s : State) : (s.modMxe f).tbu = s.tbu := rfl
@[simp] theorem State.modMxe_power (f : Mxe → Mxe) (s : State) : (s.modMxe f).power = s.power := rfl
@[simp] theorem State.modMxe_regf (f : Mxe → Mxe) (s : State) : (s.modMxe f).regf = s.regf := rfl
@[simp] theorem State.modMxe_sheet (f : Mxe → Mxe) (s : State) : (s.modMxe f).sheet = s.sheet := rfl
@[simp] theorem State.modMxe_sheetOld (f : Mxe → Mxe) (s : State) : (s.modMxe f).sheetOld = s.sheetOld := rfl
@[simp] theorem State.modMxe_hlu (f : Mxe → Mxe) (s : State) : (s.modMxe f).hlu = s.hlu := rfl
@[simp] theorem State.modMxe_qen (f : Mxe → Mxe) (s : State) : (s.modMxe f).qen = s.qen := rfl
@[simp] theorem State.modMxe_tnu (f : Mxe → Mxe) (s : State) : (s.modMxe f).tnu = s.tnu := rfl
@[simp] theorem State.modMxe_gal (f : Mxe → Mxe) (s : State) : (s.modMxe f).gal = s.gal := rfl
@[simp] theorem State.modMxe_mxe (f : Mxe → Mxe) (s : State) : (s.modMxe f).mxe = f s.mxe := rfl
@[simp] theorem State.modMxe_dsc (f : Mxe → Mxe) (s : State) : (s.modMxe f).dsc = s.dsc := rfl
@[simp] theorem State.modMxe_fca (f : Mxe → Mxe) (s : State) : (s.modMxe f).fca = s.fca := rfl
@[simp] theorem State.modMxe_cdx (f : Mxe → Mxe) (s : State) : (s.modMxe f).cdx = s.cdx := rfl
@[simp] theorem State.modMxe_spe (f : Mxe → Mxe) (s : State) : (s.modMxe f).spe = s.spe := rfl
@[simp] theorem State.modMxe_hum (f : Mxe → Mxe) (s : State) : (s.modMxe f).hum = s.hum := rfl
@[simp] theorem State.modMxe_bpm (f : Mxe → Mxe) (s : State) : (s.modMxe f).bpm = s.bpm := rfl
@[simp] theorem State.modMxe_dmc (f : Mxe → Mxe) (s : State) : (s.modMxe f).dmc = s.dmc := rfl
@[simp] theorem State.modMxe_ccl (f : Mxe → Mxe) (s : State) : (s.modMxe f).ccl = s.ccl := rfl
@[simp] theorem State.modMxe_csu (f : Mxe → Mxe) (s : State) : (s.modMxe f).csu = s.csu := rfl
@[simp] theorem State.modMxe_mgp (f : Mxe → Mxe) (s : State) : (s.modMxe f).mgp = s.mgp := rfl
@[simp] theorem State.modMxe_cru (f : Mxe → Mxe) (s : State) : (s.modMxe f).cru = s.cru := rfl

/-! ## modDsc -/

@[simp] theorem State.modDsc_pending (f : Dsc → Dsc) (s : State) : (s.modDsc f).pending = s.pending := rfl
@[simp] theorem State.modDsc_out (f : Dsc → Dsc) (s : State) : (s.modDsc f).out = s.out := rfl
@[simp] theorem State.modDsc_freeCnt (f : Dsc → Dsc) (s : State) : (s.modDsc f).freeCnt = s.freeCnt := rfl
@[simp] theorem State.modDsc_timers (f : Dsc → Dsc) (s : State) : (s.modDsc f).timers = s.timers := rfl
@[simp] theorem State.modDsc_tbu (f : Dsc → Dsc) (s : State) : (s.modDsc f).tbu = s.tbu := rfl
@[simp] theorem State.modDsc_power (f : Dsc → Dsc) (s : State) : (s.modDsc f).power = s.power := rfl
@[simp] theorem State.modDsc_regf (f : Dsc → Dsc) (s : State) : (s.modDsc f).regf = s.regf := rfl
@[simp] theorem State.modDsc_sheet (f : Dsc → Dsc) (s : State) : (s.modDsc f).sheet = s.sheet := rfl
@[simp] theorem State.modDsc_sheetOld (f : Dsc → Dsc) (s : State) : (s.modDsc f).sheetOld = s.sheetOld := rfl
@[simp] theorem State.modDsc_hlu (f : Dsc → Dsc) (s : State) : (s.modDsc f).hlu = s.hlu := rfl
@[simp] theorem State.modDsc_qen (f : Dsc → Dsc) (s : State) : (s.modDsc f).qen = s.qen := rfl
@[simp] theorem State.modDsc_tnu (f : Dsc → Dsc) (s : State) : (s.modDsc f).tnu = s.tnu := rfl
@[simp] theorem State.modDsc_gal (f : Dsc → Dsc) (s : State) : (s.modDsc f).gal = s.gal := rfl
@[simp] theorem State.modDsc_mxe (f : Dsc → Dsc) (s : State) : (s.modDsc f).mxe = s.mxe := rfl
@[simp] theorem State.modDsc_dsc (f : Dsc → Dsc) (s : State) : (s.modDsc f).dsc = f s.dsc := rfl
@[simp] theorem State.modDsc_fca (f : Dsc → Dsc) (s : State) : (s.modDsc f).fca = s.fca := rfl
@[simp] theorem State.modDsc_cdx (f : Dsc → Dsc) (s : State) : (s.modDsc f).cdx = s.cdx := rfl
@[simp] theorem State.modDsc_spe (f : Dsc → Dsc) (s : State) : (s.modDsc f).spe = s.spe := rfl
@[simp] theorem State.modDsc_hum (f : Dsc → Dsc) (s : State) : (s.modDsc f).hum = s.hum := rfl
@[simp] theorem State.modDsc_bpm (f : Dsc → Dsc) (s : State) : (s.modDsc f).bpm = s.bpm := rfl
@[simp] theorem State.modDsc_dmc (f : Dsc → Dsc) (s : State) : (s.modDsc f).dmc = s.dmc := rfl
@[simp] theorem State.modDsc_ccl (f : Dsc → Dsc) (s : State) : (s.modDsc f).ccl = s.ccl := rfl
@[simp] theorem State.modDsc_csu (f : Dsc → Dsc) (s : State) : (s.modDsc f).csu = s.csu := rfl
@[simp] theorem State.modDsc_mgp (f : Dsc → Dsc) (s : State) : (s.modDsc f).mgp = s.mgp := rfl
@[simp] theorem State.modDsc_cru (f : Dsc → Dsc) (s : State) : (s.modDsc f).cru = s.cru := rfl

/-! ## modFca -/

@[simp] theorem State.modFca_pending (f : Fca → Fca) (s : State) : (s.modFca f).pending = s.pending := rfl
@[simp] theorem State.modFca_out (f : Fca → Fca) (s : State) : (s.modFca f).out = s.out := rfl
@[simp] theorem State.modFca_freeCnt (f : Fca → Fca) (s : State) : (s.modFca f).freeCnt = s.freeCnt := rfl
@[simp] theorem State.modFca_timers (f : Fca → Fca) (s : State) : (s.modFca f).timers = s.timers := rfl
@[simp] theorem State.modFca_tbu (f : Fca → Fca) (s : State) : (s.modFca f).tbu = s.tbu := rfl
@[simp] theorem State.modFca_power (f : Fca → Fca) (s : State) : (s.modFca f).power = s.power := rfl
@[simp] theorem State.modFca_regf (f : Fca → Fca) (s : State) : (s.modFca f).regf = s.regf := rfl
@[simp] theorem State.modFca_sheet (f : Fca → Fca) (s : State) : (s.modFca f).sheet = s.sheet := rfl
@[simp] theorem State.modFca_sheetOld (f : Fca → Fca) (s : State) : (s.modFca f).sheetOld = s.sheetOld := rfl
@[simp] theorem State.modFca_hlu (f : Fca → Fca) (s : State) : (s.modFca f).hlu = s.hlu := rfl
@[simp] theorem State.modFca_qen (f : Fca → Fca) (s : State) : (s.modFca f).qen = s.qen := rfl
@[simp] theorem State.modFca_tnu (f : Fca → Fca) (s : State) : (s.modFca f).tnu = s.tnu := rfl
@[simp] theorem State.modFca_gal (f : Fca → Fca) (s : State) : (s.modFca f).gal = s.gal := rfl
@[simp] theorem State.modFca_mxe (f : Fca → Fca) (s : State) : (s.modFca f).mxe = s.mxe := rfl
@[simp] theorem State.modFca_dsc (f : Fca → Fca) (s : State) : (s.modFca f).dsc = s.dsc := rfl
@[simp] theorem State.modFca_fca (f : Fca → Fca) (s : State) : (s.modFca f).fca = f s.fca := rfl
@[simp] theorem State.modFca_cdx (f : Fca → Fca) (s : State) : (s.modFca f).cdx = s.cdx := rfl
@[simp] theorem State.modFca_spe (f : Fca → Fca) (s : State) : (s.modFca f).spe = s.spe := rfl
@[simp] theorem State.modFca_hum (f : Fca → Fca) (s : State) : (s.modFca f).hum = s.hum := rfl
@[simp] theorem State.modFca_bpm (f : Fca → Fca) (s : State) : (s.modFca f).bpm = s.bpm := rfl
@[simp] theorem State.modFca_dmc (f : Fca → Fca) (s : State) : (s.modFca f).dmc = s.dmc := rfl
@[simp] theorem State.modFca_ccl (f : Fca → Fca) (s : State) : (s.modFca f).ccl = s.ccl := rfl
@[simp] theorem State.modFca_csu (f : Fca → Fca) (s : State) : (s.modFca f).csu = s.csu := rfl
@[simp] theorem State.modFca_mgp (f : Fca → Fca) (s : State) : (s.modFca f).mgp = s.mgp := rfl
@[simp] theorem State.modFca_cru (f : Fca → Fca) (s : State) : (s.modFca f).cru = s.cru := rfl

/-! ## modCdx -/

@[simp] theorem State.modCdx_pending (f : Cdx → Cdx) (s : State) : (s.modCdx f).pending = s.pending := rfl
@[simp] theorem State.modCdx_out (f : Cdx → Cdx) (s : State) : (s.modCdx f).out = s.out := rfl
@[simp] theorem State.modCdx_freeCnt (f : Cdx → Cdx) (s : State) : (s.modCdx f).freeCnt = s.freeCnt := rfl
@[simp] theorem State.modCdx_timers (f : Cdx → Cdx) (s : State) : (s.modCdx f).timers = s.timers := rfl
@[simp] theorem State.modCdx_tbu (f : Cdx → Cdx) (s : State) : (s.modCdx f).tbu = s.tbu := rfl
@[simp] theorem State.modCdx_power (f : Cdx → Cdx) (s : State) : (s.modCdx f).power = s.power := rfl
@[simp] theorem State.modCdx_regf (f : Cdx → Cdx) (s : State) : (s.modCdx f).regf = s.regf := rfl
@[simp] theorem State.modCdx_sheet (f : Cdx → Cdx) (s : State) : (s.modCdx f).sheet = s.sheet := rfl
@[simp] theorem State.modCdx_sheetOld (f : Cdx → Cdx) (s : State) : (s.modCdx f).sheetOld = s.sheetOld := rfl
@[simp] theorem State.modCdx_hlu (f : Cdx → Cdx) (s : State) : (s.modCdx f).hlu = s.hlu := rfl
@[simp] theorem State.modCdx_qen (f : Cdx → Cdx) (s : State) : (s.modCdx f).qen = s.qen := rfl
@[simp] theorem State.modCdx_tnu (f : Cdx → Cdx) (s : State) : (s.modCdx f).tnu = s.tnu := rfl
@[simp] theorem State.modCdx_gal (f : Cdx → Cdx) (s : State) : (s.modCdx f).gal = s.gal := rfl
@[simp] theorem State.modCdx_mxe (f : Cdx → Cdx) (s : State) : (s.modCdx f).mxe = s.mxe := rfl
@[simp] theorem State.modCdx_dsc (f : Cdx → Cdx) (s : State) : (s.modCdx f).dsc = s.dsc := rfl
@[simp] theorem State.modCdx_fca (f : Cdx → Cdx) (s : State) : (s.modCdx f).fca = s.fca := rfl
@[simp] theorem State.modCdx_cdx (f : Cdx → Cdx) (s : State) : (s.modCdx f).cdx = f s.cdx := rfl
@[simp] theorem State.modCdx_spe (f : Cdx → Cdx) (s : State) : (s.modCdx f).spe = s.spe := rfl
@[simp] theorem State.modCdx_hum (f : Cdx → Cdx) (s : State) : (s.modCdx f).hum = s.hum := rfl
@[simp] theorem State.modCdx_bpm (f : Cdx → Cdx) (s : State) : (s.modCdx f).bpm = s.bpm := rfl
@[simp] theorem State.modCdx_dmc (f : Cdx → Cdx) (s : State) : (s.modCdx f).dmc = s.dmc := rfl
@[simp] theorem State.modCdx_ccl (f : Cdx → Cdx) (s : State) : (s.modCdx f).ccl = s.ccl := rfl
@[simp] theorem State.modCdx_csu (f : Cdx → Cdx) (s : State) : (s.modCdx f).csu = s.csu := rfl
@[simp] theorem State.modCdx_mgp (f : Cdx → Cdx) (s : State) : (s.modCdx f).mgp = s.mgp := rfl
@[simp] theorem State.modCdx_cru (f : Cdx → Cdx) (s : State) : (s.modCdx f).cru = s.cru := rfl

/-! ## modSpe -/

@[simp] theorem State.modSpe_pending (f : Spe → Spe) (s : State) : (s.modSpe f).pending = s.pending := rfl
@[simp] theorem State.modSpe_out (f : Spe → Spe) (s : State) : (s.modSpe f).out = s.out := rfl
@[simp] theorem State.modSpe_freeCnt (f : Spe → Spe) (s : State) : (s.modSpe f).freeCnt = s.freeCnt := rfl
@[simp] theorem State.modSpe_timers (f : Spe → Spe) (s : State) : (s.modSpe f).timers = s.timers := rfl
@[simp] theorem State.modSpe_tbu (f : Spe → Spe) (s : State) : (s.modSpe f).tbu = s.tbu := rfl
@[simp] theorem State.modSpe_power (f : Spe → Spe) (s : State) : (s.modSpe f).power = s.power := rfl
@[simp] theorem State.modSpe_regf (f : Spe → Spe) (s : State) : (s.modSpe f).regf = s.regf := rfl
@[simp] theorem State.modSpe_sheet (f : Spe → Spe) (s : State) : (s.modSpe f).sheet = s.sheet := rfl
@[simp] theorem State.modSpe_sheetOld (f : Spe → Spe) (s : State) : (s.modSpe f).sheetOld = s.sheetOld := rfl
@[simp] theorem State.modSpe_hlu (f : Spe → Spe) (s : State) : (s.modSpe f).hlu = s.hlu := rfl
@[simp] theorem State.modSpe_qen (f : Spe → Spe) (s : State) : (s.modSpe f).qen = s.qen := rfl
@[simp] theorem State.modSpe_tnu (f : Spe → Spe) (s : State) : (s.modSpe f).tnu = s.tnu := rfl
@[simp] theorem State.modSpe_gal (f : Spe → Spe) (s : State) : (s.modSpe f).gal = s.gal := rfl
@[simp] theorem State.modSpe_mxe (f : Spe → Spe) (s : State) : (s.modSpe f).mxe = s.mxe := rfl
@[simp] theorem State.modSpe_dsc (f : Spe → Spe) (s : State) : (s.modSpe f).dsc = s.dsc := rfl
@[simp] theorem State.modSpe_fca (f : Spe → Spe) (s : State) : (s.modSpe f).fca = s.fca := rfl
@[simp] theorem State.modSpe_cdx (f : Spe → Spe) (s : State) : (s.modSpe f).cdx = s.cdx := rfl
@[simp] theorem State.modSpe_spe (f : Spe → Spe) (s : State) : (s.modSpe f).spe = f s.spe := rfl
@[simp] theorem State.modSpe_hum (f : Spe → Spe) (s : State) : (s.modSpe f).hum = s.hum := rfl
@[simp] theorem State.modSpe_bpm (f : Spe → Spe) (s : State) : (s.modSpe f).bpm = s.bpm := rfl
@[simp] theorem State.modSpe_dmc (f : Spe → Spe) (s : State) : (s.modSpe f).dmc = s.dmc := rfl
@[simp] theorem State.modSpe_ccl (f : Spe → Spe) (s : State) : (s.modSpe f).ccl = s.ccl := rfl
@[simp] theorem State.modSpe_csu (f : Spe → Spe) (s : State) : (s.modSpe f).csu = s.csu := rfl
@[simp] theorem State.modSpe_mgp (f : Spe → Spe) (s : State) : (s.modSpe f).mgp = s.mgp := rfl
@[simp] theorem State.modSpe_cru (f : Spe → Spe) (s : State) : (s.modSpe f).cru = s.cru := rfl

/-! ## modHum -/

@[simp] theorem State.modHum_pending (f : Hum → Hum) (s : State) : (s.modHum f).pending = s.pending := rfl
@[simp] theorem State.modHum_out (f : Hum → Hum) (s : State) : (s.modHum f).out = s.out := rfl
@[simp] theorem State.modHum_freeCnt (f : Hum → Hum) (s : State) : (s.modHum f).freeCnt = s.freeCnt := rfl
@[simp] theorem State.modHum_timers (f : Hum → Hum) (s : State) : (s.modHum f).timers = s.timers := rfl
@[simp] theorem State.modHum_tbu (f : Hum → Hum) (s : State) : (s.modHum f).tbu = s.tbu := rfl
@[simp] theorem State.modHum_power (f : Hum → Hum) (s : State) : (s.modHum f).power = s.power := rfl
@[simp] theorem State.modHum_regf (f : Hum → Hum) (s : State) : (s.modHum f).regf = s.regf := rfl
@[simp] theorem State.modHum_sheet (f : Hum → Hum) (s : State) : (s.modHum f).sheet = s.sheet := rfl
@[simp] theorem State.modHum_sheetOld (f : Hum → Hum) (s : State) : (s.modHum f).sheetOld = s.sheetOld := rfl
@[simp] theorem State.modHum_hlu (f : Hum → Hum) (s : State) : (s.modHum f).hlu = s.hlu := rfl
@[simp] theorem State.modHum_qen (f : Hum → Hum) (s : State) : (s.modHum f).qen = s.qen := rfl
@[simp] theorem State.modHum_tnu (f : Hum → Hum) (s : State) : (s.modHum f).tnu = s.tnu := rfl
@[simp] theorem State.modHum_gal (f : Hum → Hum) (s : State) : (s.modHum f).gal = s.gal := rfl
@[simp] theorem State.modHum_mxe (f : Hum → Hum) (s : State) : (s.modHum f).mxe = s.mxe := rfl
@[simp] theorem State.modHum_dsc (f : Hum → Hum) (s : State) : (s.modHum f).dsc = s.dsc := rfl
@[simp] theorem State.modHum_fca (f : Hum → Hum) (s : State) : (s.modHum f).fca = s.fca := rfl
@[simp] theorem State.modHum_cdx (f : Hum → Hum) (s : State) : (s.modHum f).cdx = s.cdx := rfl
@[simp] theorem State.modHum_spe (f : Hum → Hum) (s : State) : (s.modHum f).spe = s.spe := rfl
@[simp] theorem State.modHum_hum (f : Hum → Hum) (s : State) : (s.modHum f).hum = f s.hum := rfl
@[simp] theorem State.modHum_bpm (f : Hum → Hum) (s : State) : (s.modHum f).bpm = s.bpm := rfl
@[simp] theorem State.modHum_dmc (f : Hum → Hum) (s : State) : (s.modHum f).dmc = s.dmc := rfl
@[simp] theorem State.modHum_ccl (f : Hum → Hum) (s : State) : (s.modHum f).ccl = s.ccl := rfl
@[simp] theorem State.modHum_csu (f : Hum → Hum) (s : State) : (s.modHum f).csu = s.csu := rfl
@[simp] theorem State.modHum_mgp (f : Hum → Hum) (s : State) : (s.modHum f).mgp = s.mgp := rfl
@[simp] theorem State.modHum_cru (f : Hum → Hum) (s : State) : (s.modHum f).cru = s.cru := rfl

/-! ## modBpm -/

@[simp] theorem State.modBpm_pending (f : Bpm → Bpm) (s : State) : (s.modBpm f).pending = s.pending := rfl
@[simp] theorem State.modBpm_out (f : Bpm → Bpm) (s : State) : (s.modBpm f).out = s.out := rfl
@[simp] theorem State.modBpm_freeCnt (f : Bpm → Bpm) (s : State) : (s.modBpm f).freeCnt = s.freeCnt := rfl
@[simp] theorem State.modBpm_timers (f : Bpm → Bpm) (s : State) : (s.modBpm f).timers = s.timers := rfl
@[simp] theorem State.modBpm_tbu (f : Bpm → Bpm) (s : State) : (s.modBpm f).tbu = s.tbu := rfl
@[simp] theorem State.modBpm_power (f : Bpm → Bpm) (s : State) : (s.modBpm f).power = s.power := rfl
@[simp] theorem State.modBpm_regf (f : Bpm → Bpm) (s : State) : (s.modBpm f).regf = s.regf := rfl
@[simp] theorem State.modBpm_sheet (f : Bpm → Bpm) (s : State) : (s.modBpm f).sheet = s.sheet := rfl
@[simp] theorem State.modBpm_sheetOld (f : Bpm → Bpm) (s : State) : (s.modBpm f).sheetOld = s.sheetOld := rfl
@[simp] theorem State.modBpm_hlu (f : Bpm → Bpm) (s : State) : (s.modBpm f).hlu = s.hlu := rfl
@[simp] theorem State.modBpm_qen (f : Bpm → Bpm) (s : State) : (s.modBpm f).qen = s.qen := rfl
@[simp] theorem State.modBpm_tnu (f : Bpm → Bpm) (s : State) : (s.modBpm f).tnu = s.tnu := rfl
@[simp] theorem State.modBpm_gal (f : Bpm → Bpm) (s : State) : (s.modBpm f).gal = s.gal := rfl
@[simp] theorem State.modBpm_mxe (f : Bpm → Bpm) (s : State) : (s.modBpm f).mxe = s.mxe := rfl
@[simp] theorem State.modBpm_dsc (f : Bpm → Bpm) (s : State) : (s.modBpm f).dsc = s.dsc := rfl
@[simp] theorem State.modBpm_fca (f : Bpm → Bpm) (s : State) : (s.modBpm f).fca = s.fca := rfl
@[simp] theorem State.modBpm_cdx (f : Bpm → Bpm) (s : State) : (s.modBpm f).cdx = s.cdx := rfl
@[simp] theorem State.modBpm_spe (f : Bpm → Bpm) (s : State) : (s.modBpm f).spe = s.spe := rfl
@[simp] theorem State.modBpm_hum (f : Bpm → Bpm) (s : State) : (s.modBpm f).hum = s.hum := rfl
@[simp] theorem State.modBpm_bpm (f : Bpm → Bpm) (s : State) : (s.modBpm f).bpm = f s.bpm := rfl
@[simp] theorem State.modBpm_dmc (f : Bpm → Bpm) (s : State) : (s.modBpm f).dmc = s.dmc := rfl
@[simp] theorem State.modBpm_ccl (f : Bpm → Bpm) (s : State) : (s.modBpm f).ccl = s.ccl := rfl
@[simp] theorem State.modBpm_csu (f : Bpm → Bpm) (s : State) : (s.modBpm f).csu = s.csu := rfl
@[simp] theorem State.modBpm_mgp (f : Bpm → Bpm) (s : State) : (s.modBpm f).mgp = s.mgp := rfl
@[simp] theorem State.modBpm_cru (f : Bpm → Bpm) (s : State) : (s.modBpm f).cru = s.cru := rfl

/-! ## modDmc -/

@[simp] theorem State.modDmc_pending (f : Dmc → Dmc) (s : State) : (s.modDmc f).pending = s.pending := rfl
@[simp] theorem State.modDmc_out (f : Dmc → Dmc) (s : State) : (s.modDmc f).out = s.out := rfl
@[simp] theorem State.modDmc_freeCnt (f : Dmc → Dmc) (s : State) : (s.modDmc f).freeCnt = s.freeCnt := rfl
@[simp] theorem State.modDmc_timers (f : Dmc → Dmc) (s : State) : (s.modDmc f).timers = s.timers := rfl
@[simp] theorem State.modDmc_tbu (f : Dmc → Dmc) (s : State) : (s.modDmc f).tbu = s.tbu := rfl
@[simp] theorem State.modDmc_power (f : Dmc → Dmc) (s : State) : (s.modDmc f).power = s.power := rfl
@[simp] theorem State.modDmc_regf (f : Dmc → Dmc) (s : State) : (s.modDmc f).regf = s.regf := rfl
@[simp] theorem State.modDmc_sheet (f : Dmc → Dmc) (s : State) : (s.modDmc f).sheet = s.sheet := rfl
@[simp] theorem State.modDmc_sheetOld (f : Dmc → Dmc) (s : State) : (s.modDmc f).sheetOld = s.sheetOld := rfl
@[simp] theorem State.modDmc_hlu (f : Dmc → Dmc) (s : State) : (s.modDmc f).hlu = s.hlu := rfl
@[simp] theorem State.modDmc_qen (f : Dmc → Dmc) (s : State) : (s.modDmc f).qen = s.qen := rfl
@[simp] theorem State.modDmc_tnu (f : Dmc → Dmc) (s : State) : (s.modDmc f).tnu = s.tnu := rfl
@[simp] theorem State.modDmc_gal (f : Dmc → Dmc) (s : State) : (s.modDmc f).gal = s.gal := rfl
@[simp] theorem State.modDmc_mxe (f : Dmc → Dmc) (s : State) : (s.modDmc f).mxe = s.mxe := rfl
@[simp] theorem State.modDmc_dsc (f : Dmc → Dmc) (s : State) : (s.modDmc f).dsc = s.dsc := rfl
@[simp] theorem State.modDmc_fca (f : Dmc → Dmc) (s : State) : (s.modDmc f).fca = s.fca := rfl
@[simp] theorem State.modDmc_cdx (f : Dmc → Dmc) (s : State) : (s.modDmc f).cdx = s.cdx := rfl
@[simp] theorem State.modDmc_spe (f : Dmc → Dmc) (s : State) : (s.modDmc f).spe = s.spe := rfl
@[simp] theorem State.modDmc_hum (f : Dmc → Dmc) (s : State) : (s.modDmc f).hum = s.hum := rfl
@[simp] theorem State.modDmc_bpm (f : Dmc → Dmc) (s : State) : (s.modDmc f).bpm = s.bpm := rfl
@[simp] theorem State.modDmc_dmc (f : Dmc → Dmc) (s : State) : (s.modDmc f).dmc = f s.dmc := rfl
@[simp] theorem State.modDmc_ccl (f : Dmc → Dmc) (s : State) : (s.modDmc f).ccl = s.ccl := rfl
@[simp] theorem State.modDmc_csu (f : Dmc → Dmc) (s : State) : (s.modDmc f).csu = s.csu := rfl
@[simp] theorem State.modDmc_mgp (f : Dmc → Dmc) (s : State) : (s.modDmc f).mgp = s.mgp := rfl
@[simp] theorem State.modDmc_cru (f : Dmc → Dmc) (s : State) : (s.modDmc f).cru = s.cru := rfl

/-! ## modCcl -/

@[simp] theorem State.modCcl_pending (f : Ccl → Ccl) (s : State) : (s.modCcl f).pending = s.pending := rfl
@[simp] theorem State.modCcl_out (f : Ccl → Ccl) (s : State) : (s.modCcl f).out = s.out := rfl
@[simp] theorem State.modCcl_freeCnt (f : Ccl → Ccl) (s : State) : (s.modCcl f).freeCnt = s.freeCnt := rfl
@[simp] theorem State.modCcl_timers (f : Ccl → Ccl) (s : State) : (s.modCcl f).timers = s.timers := rfl
@[simp] theorem State.modCcl_tbu (f : Ccl → Ccl) (s : State) : (s.modCcl f).tbu = s.tbu := rfl
@[simp] theorem State.modCcl_power (f : Ccl → Ccl) (s : State) : (s.modCcl f).power = s.power := rfl
@[simp] theorem State.modCcl_regf (f : Ccl → Ccl) (s : State) : (s.modCcl f).regf = s.regf := rfl
@[simp] theorem State.modCcl_sheet (f : Ccl → Ccl) (s : State) : (s.modCcl f).sheet = s.sheet := rfl
@[simp] theorem State.modCcl_sheetOld (f : Ccl → Ccl) (s : State) : (s.modCcl f).sheetOld = s.sheetOld := rfl
@[simp] theorem State.modCcl_hlu (f : Ccl → Ccl) (s : State) : (s.modCcl f).hlu = s.hlu := rfl
@[simp] theorem State.modCcl_qen (f : Ccl → Ccl) (s : State) : (s.modCcl f).qen = s.qen := rfl
@[simp] theorem State.modCcl_tnu (f : Ccl → Ccl) (s : State) : (s.modCcl f).tnu = s.tnu := rfl
@[simp] theorem State.modCcl_gal (f : Ccl → Ccl) (s : State) : (s.modCcl f).gal = s.gal := rfl
@[simp] theorem State.modCcl_mxe (f : Ccl → Ccl) (s : State) : (s.modCcl f).mxe = s.mxe := rfl
@[simp] theorem State.modCcl_dsc (f : Ccl → Ccl) (s : State) : (s.modCcl f).dsc = s.dsc := rfl
@[simp] theorem State.modCcl_fca (f : Ccl → Ccl) (s : State) : (s.modCcl f).fca = s.fca := rfl
@[simp] theorem State.modCcl_cdx (f : Ccl → Ccl) (s : State) : (s.modCcl f).cdx = s.cdx := rfl
@[simp] theorem State.modCcl_spe (f : Ccl → Ccl) (s : State) : (s.modCcl f).spe = s.spe := rfl
@[simp] theorem State.modCcl_hum (f : Ccl → Ccl) (s : State) : (s.modCcl f).hum = s.hum := rfl
@[simp] theorem State.modCcl_bpm (f : Ccl → Ccl) (s : State) : (s.modCcl f).bpm = s.bpm := rfl
@[simp] theorem State.modCcl_dmc (f : Ccl → Ccl) (s : State) : (s.modCcl f).dmc = s.dmc := rfl
@[simp] theorem State.modCcl_ccl (f : Ccl → Ccl) (s : State) : (s.modCcl f).ccl = f s.ccl := rfl
@[simp] theorem State.modCcl_csu (f : Ccl → Ccl) (s : State) : (s.modCcl f).csu = s.csu := rfl
@[simp] theorem State.modCcl_mgp (f : Ccl → Ccl) (s : State) : (s.modCcl f).mgp = s.mgp := rfl
@[simp] theorem State.modCcl_cru (f : Ccl → Ccl) (s : State) : (s.modCcl f).cru = s.cru := rfl

/-! ## modCsu -/

@[simp] theorem State.modCsu_pending (f : Csu → Csu) (s : State) : (s.modCsu f).pending = s.pending := rfl
@[simp] theorem State.modCsu_out (f : Csu → Csu) (s : State) : (s.modCsu f).out = s.out := rfl
@[simp] theorem State.modCsu_freeCnt (f : Csu → Csu) (s : State) : (s.modCsu f).freeCnt = s.freeCnt := rfl
@[simp] theorem State.modCsu_timers (f : Csu → Csu) (s : State) : (s.modCsu f).timers = s.timers := rfl
@[simp] theorem State.modCsu_tbu (f : Csu → Csu) (s : State) : (s.modCsu f).tbu = s.tbu := rfl
@[simp] theorem State.modCsu_power (f : Csu → Csu) (s : State) : (s.modCsu f).power = s.power := rfl
@[simp] theorem State.modCsu_regf (f : Csu → Csu) (s : State) : (s.modCsu f).regf = s.regf := rfl
@[simp] theorem State.modCsu_sheet (f : Csu → Csu) (s : State) : (s.modCsu f).sheet = s.sheet := rfl
@[simp] theorem State.modCsu_sheetOld (f : Csu → Csu) (s : State) : (s.modCsu f).sheetOld = s.sheetOld := rfl
@[simp] theorem State.modCsu_hlu (f : Csu → Csu) (s : State) : (s.modCsu f).hlu = s.hlu := rfl
@[simp] theorem State.modCsu_qen (f : Csu → Csu) (s : State) : (s.modCsu f).qen = s.qen := rfl
@[simp] theorem State.modCsu_tnu (f : Csu → Csu) (s : State) : (s.modCsu f).tnu = s.tnu := rfl
@[simp] theorem State.modCsu_gal (f : Csu → Csu) (s : State) : (s.modCsu f).gal = s.gal := rfl
@[simp] theorem State.modCsu_mxe (f : Csu → Csu) (s : State) : (s.modCsu f).mxe = s.mxe := rfl
@[simp] theorem State.modCsu_dsc (f : Csu → Csu) (s : State) : (s.modCsu f).dsc = s.dsc := rfl
@[simp] theorem State.modCsu_fca (f : Csu → Csu) (s : State) : (s.modCsu f).fca = s.fca := rfl
@[simp] theorem State.modCsu_cdx (f : Csu → Csu) (s : State) : (s.modCsu f).cdx = s.cdx := rfl
@[simp] theorem State.modCsu_spe (f : Csu → Csu) (s : State) : (s.modCsu f).spe = s.spe := rfl
@[simp] theorem State.modCsu_hum (f : Csu → Csu) (s : State) : (s.modCsu f).hum = s.hum := rfl
@[simp] theorem State.modCsu_bpm (f : Csu → Csu) (s : State) : (s.modCsu f).bpm = s.bpm := rfl
@[simp] theorem State.modCsu_dmc (f : Csu → Csu) (s : State) : (s.modCsu f).dmc = s.dmc := rfl
@[simp] theorem State.modCsu_ccl (f : Csu → Csu) (s : State) : (s.modCsu f).ccl = s.ccl := rfl
@[simp] theorem State.modCsu_csu (f : Csu → Csu) (s : State) : (s.modCsu f).csu = f s.csu := rfl
@[simp] theorem State.modCsu_mgp (f : Csu → Csu) (s : State) : (s.modCsu f).mgp = s.mgp := rfl
@[simp] theorem State.modCsu_cru (f : Csu → Csu) (s : State) : (s.modCsu f).cru = s.cru := rfl

/-! ## modMgp -/

@[simp] theorem State.modMgp_pending (f : Mgp → Mgp) (s : State) : (s.modMgp f).pending = s.pending := rfl
@[simp] theorem State.modMgp_out (f : Mgp → Mgp) (s : State) : (s.modMgp f).out = s.out := rfl
@[simp] theorem State.modMgp_freeCnt (f : Mgp → Mgp) (s : State) : (s.modMgp f).freeCnt = s.freeCnt := rfl
@[simp] theorem State.modMgp_timers (f : Mgp → Mgp) (s : State) : (s.modMgp f).timers = s.timers := rfl
@[simp] theorem State.modMgp_tbu (f : Mgp → Mgp) (s : State) : (s.modMgp f).tbu = s.tbu := rfl
@[simp] theorem State.modMgp_power (f : Mgp → Mgp) (s : State) : (s.modMgp f).power = s.power := rfl
@[simp] theorem State.modMgp_regf (f : Mgp → Mgp) (s : State) : (s.modMgp f).regf = s.regf := rfl
@[simp] theorem State.modMgp_sheet (f : Mgp → Mgp) (s : State) : (s.modMgp f).sheet = s.sheet := rfl
@[simp] theorem State.modMgp_sheetOld (f : Mgp → Mgp) (s : State) : (s.modMgp f).sheetOld = s.sheetOld := rfl
@[simp] theorem State.modMgp_hlu (f : Mgp → Mgp) (s : State) : (s.modMgp f).hlu = s.hlu := rfl
@[simp] theorem State.modMgp_qen (f : Mgp → Mgp) (s : State) : (s.modMgp f).qen = s.qen := rfl
@[simp] theorem State.modMgp_tnu (f : Mgp → Mgp) (s : State) : (s.modMgp f).tnu = s.tnu := rfl
@[simp] theorem State.modMgp_gal (f : Mgp → Mgp) (s : State) : (s.modMgp f).gal = s.gal := rfl
@[simp] theorem State.modMgp_mxe (f : Mgp → Mgp) (s : State) : (s.modMgp f).mxe = s.mxe := rfl
@[simp] theorem State.modMgp_dsc (f : Mgp → Mgp) (s : State) : (s.modMgp f).dsc = s.dsc := rfl
@[simp] theorem State.modMgp_fca (f : Mgp → Mgp) (s : State) : (s.modMgp f).fca = s.fca := rfl
@[simp] theorem State.modMgp_cdx (f : Mgp → Mgp) (s : State) : (s.modMgp f).cdx = s.cdx := rfl
@[simp] theorem State.modMgp_spe (f : Mgp → Mgp) (s : State) : (s.modMgp f).spe = s.spe := rfl
@[simp] theorem State.modMgp_hum (f : Mgp → Mgp) (s : State) : (s.modMgp f).hum = s.hum := rfl
@[simp] theorem State.modMgp_bpm (f : Mgp → Mgp) (s : State) : (s.modMgp f).bpm = s.bpm := rfl
@[simp] theorem State.modMgp_dmc (f : Mgp → Mgp) (s : State) : (s.modMgp f).dmc = s.dmc := rfl
@[simp] theorem State.modMgp_ccl (f : Mgp → Mgp) (s : State) : (s.modMgp f).ccl = s.ccl := rfl
@[simp] theorem State.modMgp_csu (f : Mgp → Mgp) (s : State) : (s.modMgp f).csu = s.csu := rfl
@[simp] theorem State.modMgp_mgp (f : Mgp → Mgp) (s : State) : (s.modMgp f).mgp = f s.mgp := rfl
@[simp] theorem State.modMgp_cru (f : Mgp → Mgp) (s : State) : (s.modMgp f).cru = s.cru := rfl

/-! ## modCru -/

@[simp] theorem State.modCru_pending (f : Cru → Cru) (s : State) : (s.modCru f).pending = s.pending := rfl
@[simp] theorem State.modCru_out (f : Cru → Cru) (s : State) : (s.modCru f).out = s.out := rfl
@[simp] theorem State.modCru_freeCnt (f : Cru → Cru) (s : State) : (s.modCru f).freeCnt = s.freeCnt := rfl
@[simp] theorem State.modCru_timers (f : Cru → Cru) (s : State) : (s.modCru f).timers = s.timers := rfl
@[simp] theorem State.modCru_tbu (f : Cru → Cru) (s : State) : (s.modCru f).tbu = s.tbu := rfl
@[simp] theorem State.modCru_power (f : Cru → Cru) (s : State) : (s.modCru f).power = s.power := rfl
@[simp] theorem State.modCru_regf (f : Cru → Cru) (s : State) : (s.modCru f).regf = s.regf := rfl
@[simp] theorem State.modCru_sheet (f : Cru → Cru) (s : State) : (s.modCru f).sheet = s.sheet := rfl
@[simp] theorem State.modCru_sheetOld (f : Cru → Cru) (s : State) : (s.modCru f).sheetOld = s.sheetOld := rfl
@[simp] theorem State.modCru_hlu (f : Cru → Cru) (s : State) : (s.modCru f).hlu = s.hlu := rfl
@[simp] theorem State.modCru_qen (f : Cru → Cru) (s : State) : (s.modCru f).qen = s.qen := rfl
@[simp] theorem State.modCru_tnu (f : Cru → Cru) (s : State) : (s.modCru f).tnu = s.tnu := rfl
@[simp] theorem State.modCru_gal (f : Cru → Cru) (s : State) : (s.modCru f).gal = s.gal := rfl
@[simp] theorem State.modCru_mxe (f : Cru → Cru) (s : State) : (s.modCru f).mxe = s.mxe := rfl
@[simp] theorem State.modCru_dsc (f : Cru → Cru) (s : State) : (s.modCru f).dsc = s.dsc := rfl
@[simp] theorem State.modCru_fca (f : Cru → Cru) (s : State) : (s.modCru f).fca = s.fca := rfl
@[simp] theorem State.modCru_cdx (f : Cru → Cru) (s : State) : (s.modCru f).cdx = s.cdx := rfl
@[simp] theorem State.modCru_spe (f : Cru → Cru) (s : State) : (s.modCru f).spe = s.spe := rfl
@[simp] theorem State.modCru_hum (f : Cru → Cru) (s : State) : (s.modCru f).hum = s.hum := rfl
@[simp] theorem State.modCru_bpm (f : Cru → Cru) (s : State) : (s.modCru f).bpm = s.bpm := rfl
@[simp] theorem State.modCru_dmc (f : Cru → Cru) (s : State) : (s.modCru f).dmc = s.dmc := rfl
@[simp] theorem State.modCru_ccl (f : Cru → Cru) (s : State) : (s.modCru f).ccl = s.ccl := rfl
@[simp] theorem State.modCru_csu (f : Cru → Cru) (s : State) : (s.modCru f).csu = s.csu := rfl
@[simp] theorem State.modCru_mgp (f : Cru → Cru) (s : State) : (s.modCru f).mgp = s.mgp := rfl
@[simp] theorem State.modCru_cru (f : Cru → Cru) (s : State) : (s.modCru f).cru = f s.cru := rfl

/-! ## setSheet -/

@[simp] theorem State.setSheet_pending (t : List (Nat × Nat)) (s : State) : (s.setSheet t).pending = s.pending := rfl
@[simp] theorem State.setSheet_out (t : List (Nat × Nat)) (s : State) : (s.setSheet t).out = s.out := rfl
@[simp] theorem State.setSheet_freeCnt (t : List (Nat × Nat)) (s : State) : (s.setSheet t).freeCnt = s.freeCnt := rfl
@[simp] theorem State.setSheet_timers (t : List (Nat × Nat)) (s : State) : (s.setSheet t).timers = s.timers := rfl
@[simp] theorem State.setSheet_tbu (t : List (Nat × Nat)) (s : State) : (s.setSheet t).tbu = s.tbu := rfl
@[simp] theorem State.setSheet_power (t : List (Nat × Nat)) (s : State) : (s.setSheet t).power = s.power := rfl
@[simp] theorem State.setSheet_regf (t : List (Nat × Nat)) (s : State) : (s.setSheet t).regf = s.regf := rfl
@[simp] theorem State.setSheet_sheet (t : List (Nat × Nat)) (s : State) : (s.setSheet t).sheet = t := rfl
@[simp] theorem State.setSheet_sheetOld (t : List (Nat × Nat)) (s : State) : (s.setSheet t).sheetOld = s.sheetOld := rfl
@[simp] theorem State.setSheet_hlu (t : List (Nat × Nat)) (s : State) : (s.setSheet t).hlu = s.hlu := rfl
@[simp] theorem State.setSheet_qen (t : List (Nat × Nat)) (s : State) : (s.setSheet t).qen = s.qen := rfl
@[simp] theorem State.setSheet_tnu (t : List (Nat × Nat)) (s : State) : (s.setSheet t).tnu = s.tnu := rfl
@[simp] theorem State.setSheet_gal (t : List (Nat × Nat)) (s : State) : (s.setSheet t).gal = s.gal := rfl
@[simp] theorem State.setSheet_mxe (t : List (Nat × Nat)) (s : State) : (s.setSheet t).mxe = s.mxe := rfl
@[simp] theorem State.setSheet_dsc (t : List (Nat × Nat)) (s : State) : (s.setSheet t).dsc = s.dsc := rfl
@[simp] theorem State.setSheet_fca (t : List (Nat × Nat)) (s : State) : (s.setSheet t).fca = s.fca := rfl
@[simp] theorem State.setSheet_cdx (t : List (Nat × Nat)) (s : State) : (s.setSheet t).cdx = s.cdx := rfl
@[simp] theorem State.setSheet_spe (t : List (Nat × Nat)) (s : State) : (s.setSheet t).spe = s.spe := rfl
@[simp] theorem State.setSheet_hum (t : List (Nat × Nat)) (s : State) : (s.setSheet t).hum = s.hum := rfl
@[simp] theorem State.setSheet_bpm (t : List (Nat × Nat)) (s : State) : (s.setSheet t).bpm = s.bpm := rfl
@[simp] theorem State.setSheet_dmc (t : List (Nat × Nat)) (s : State) : (s.setSheet t).dmc = s.dmc := rfl
@[simp] theorem State.setSheet_ccl (t : List (Nat × Nat)) (s : State) : (s.setSheet t).ccl = s.ccl := rfl
@[simp] theorem State.setSheet_csu (t : List (Nat × Nat)) (s : State) : (s.setSheet t).csu = s.csu := rfl
@[simp] theorem State.setSheet_mgp (t : List (Nat × Nat)) (s : State) : (s.setSheet t).mgp = s.mgp := rfl
@[simp] theorem State.setSheet_cru (t : List (Nat × Nat)) (s : State) : (s.setSheet t).cru = s.cru := rfl

/-! ## setSheetOld -/

@[simp] theorem State.setSheetOld_pending (t : List (Nat × Option Nat)) (s : State) : (s.setSheetOld t).pending = s.pending := rfl
@[simp] theorem State.setSheetOld_out (t : List (Nat × Option Nat)) (s : State) : (s.setSheetOld t).out = s.out := rfl
@[simp] theorem State.setSheetOld_freeCnt (t : List (Nat × Option Nat)) (s : State) : (s.setSheetOld t).freeCnt = s.freeCnt := rfl
@[simp] theorem State.setSheetOld_timers (t : List (Nat × Option Nat)) (s : State) : (s.setSheetOld t).timers = s.timers := rfl
@[simp] theorem State.setSheetOld_tbu (t : List (Nat × Option Nat)) (s : State) : (s.setSheetOld t).tbu = s.tbu := rfl
@[simp] theorem State.setSheetOld_power (t : List (Nat × Option Nat)) (s : State) : (s.setSheetOld t).power = s.power := rfl
@[simp] theorem State.setSheetOld_regf (t : List (Nat × Option Nat)) (s : State) : (s.setSheetOld t).regf = s.regf := rfl
@[simp] theorem State.setSheetOld_sheet (t : List (Nat × Option Nat)) (s : State) : (s.setSheetOld t).sheet = s.sheet := rfl
@[simp] theorem State.setSheetOld_sheetOld (t : List (Nat × Option Nat)) (s : State) : (s.setSheetOld t).sheetOld = t := rfl
@[simp] theorem State.setSheetOld_hlu (t : List (Nat × Option Nat)) (s : State) : (s.setSheetOld t).hlu = s.hlu := rfl
@[simp] theorem State.setSheetOld_qen (t : List (Nat × Option Nat)) (s : State) : (s.setSheetOld t).qen = s.qen := rfl
@[simp] theorem State.setSheetOld_tnu (t : List (Nat × Option Nat)) (s : State) : (s.setSheetOld t).tnu = s.tnu := rfl
@[simp] theorem State.setSheetOld_gal (t : List (Nat × Option Nat)) (s : State) : (s.setSheetOld t).gal = s.gal := rfl
@[simp] theorem State.setSheetOld_mxe (t : List (Nat × Option Nat)) (s : State) : (s.setSheetOld t).mxe = s.mxe := rfl
@[simp] theorem State.setSheetOld_dsc (t : List (Nat × Option Nat)) (s : State) : (s.setSheetOld t).dsc = s.dsc := rfl
@[simp] theorem State.setSheetOld_fca (t : List (Nat × Option Nat)) (s : State) : (s.setSheetOld t).fca = s.fca := rfl
@[simp] theorem State.setSheetOld_cdx (t : List (Nat × Option Nat)) (s : State) : (s.setSheetOld t).cdx = s.cdx := rfl
@[simp] theorem State.setSheetOld_spe (t : List (Nat × Option Nat)) (s : State) : (s.setSheetOld t).spe = s.spe := rfl
@[simp] theorem State.setSheetOld_hum (t : List (Nat × Option Nat)) (s : State) : (s.setSheetOld t).hum = s.hum := rfl
@[simp] theorem State.setSheetOld_bpm (t : List (Nat × Option Nat)) (s : State) : (s.setSheetOld t).bpm = s.bpm := rfl
@[simp] theorem State.setSheetOld_dmc (t : List (Nat × Option Nat)) (s : State) : (s.setSheetOld t).dmc = s.dmc := rfl
@[simp] theorem State.setSheetOld_ccl (t : List (Nat × Option Nat)) (s : State) : (s.setSheetOld t).ccl = s.ccl := rfl
@[simp] theorem State.setSheetOld_csu (t : List (Nat × Option Nat)) (s : State) : (s.setSheetOld t).csu = s.csu := rfl
@[simp] theorem State.setSheetOld_mgp (t : List (Nat × Option Nat)) (s : State) : (s.setSheetOld t).mgp = s.mgp := rfl
@[simp] theorem State.setSheetOld_cru (t : List (Nat × Option Nat)) (s : State) : (s.setSheetOld t).cru = s.cru := rfl

/-! ## emit -/

@[simp] theorem State.emit_pending (e : Emission) (s : State) : (s.emit e).pending = s.pending := rfl
@[simp] theorem State.emit_out (e : Emission) (s : State) : (s.emit e).out = e :: s.out := rfl
@[simp] theorem State.emit_freeCnt (e : Emission) (s : State) : (s.emit e).freeCnt = s.freeCnt := rfl
@[simp] theorem State.emit_timers (e : Emission) (s : State) : (s.emit e).timers = s.timers := rfl
@[simp] theorem State.emit_tbu (e : Emission) (s : State) : (s.emit e).tbu = s.tbu := rfl
@[simp] theorem State.emit_power (e : Emission) (s : State) : (s.emit e).power = s.power := rfl
@[simp] theorem State.emit_regf (e : Emission) (s : State) : (s.emit e).regf = s.regf := rfl
@[simp] theorem State.emit_sheet (e : Emission) (s : State) : (s.emit e).sheet = s.sheet := rfl
@[simp] theorem State.emit_sheetOld (e : Emission) (s : State) : (s.emit e).sheetOld = s.sheetOld := rfl
@[simp] theorem State.emit_hlu (e : Emission) (s : State) : (s.emit e).hlu = s.hlu := rfl
@[simp] theorem State.emit_qen (e : Emission) (s : State) : (s.emit e).qen = s.qen := rfl
@[simp] theorem State.emit_tnu (e : Emission) (s : State) : (s.emit e).tnu = s.tnu := rfl
@[simp] theorem State.emit_gal (e : Emission) (s : State) : (s.emit e).gal = s.gal := rfl
@[simp] theorem State.emit_mxe (e : Emission) (s : State) : (s.emit e).mxe = s.mxe := rfl
@[simp] theorem State.emit_dsc (e : Emission) (s : State) : (s.emit e).dsc = s.dsc := rfl
@[simp] theorem State.emit_fca (e : Emission) (s : State) : (s.emit e).fca = s.fca := rfl
@[simp] theorem State.emit_cdx (e : Emission) (s : State) : (s.emit e).cdx = s.cdx := rfl
@[simp] theorem State.emit_spe (e : Emission) (s : State) : (s.emit e).spe = s.spe := rfl
@[simp] theorem State.emit_hum (e : Emission) (s : State) : (s.emit e).hum = s.hum := rfl
@[simp] theorem State.emit_bpm (e : Emission) (s : State) : (s.emit e).bpm = s.bpm := rfl
@[simp] theorem State.emit_dmc (e : Emission) (s : State) : (s.emit e).dmc = s.dmc := rfl
@[simp] theorem State.emit_ccl (e : Emission) (s : State) : (s.emit e).ccl = s.ccl := rfl
@[simp] theorem State.emit_csu (e : Emission) (s : State) : (s.emit e).csu = s.csu := rfl
@[simp] theorem State.emit_mgp (e : Emission) (s : State) : (s.emit e).mgp = s.mgp := rfl
@[simp] theorem State.emit_cru (e : Emission) (s : State) : (s.emit e).cru = s.cru := rfl

/-! ## drawn -/

@[simp] theorem State.drawn_pending  (s : State) : (s.drawn).pending = s.pending := rfl
@[simp] theorem State.drawn_out  (s : State) : (s.drawn).out = s.out := rfl
@[simp] theorem State.drawn_freeCnt  (s : State) : (s.drawn).freeCnt = s.freeCnt + 1 := rfl
@[simp] theorem State.drawn_timers  (s : State) : (s.drawn).timers = s.timers := rfl
@[simp] theorem State.drawn_tbu  (s : State) : (s.drawn).tbu = s.tbu := rfl
@[simp] theorem State.drawn_power  (s : State) : (s.drawn).power = s.power := rfl
@[simp] theorem State.drawn_regf  (s : State) : (s.drawn).regf = s.regf := rfl
@[simp] theorem State.drawn_sheet  (s : State) : (s.drawn).sheet = s.sheet := rfl
@[simp] theorem State.drawn_sheetOld  (s : State) : (s.drawn).sheetOld = s.sheetOld := rfl
@[simp] theorem State.drawn_hlu  (s : State) : (s.drawn).hlu = s.hlu := rfl
@[simp] theorem State.drawn_qen  (s : State) : (s.drawn).qen = s.qen := rfl
@[simp] theorem State.drawn_tnu  (s : State) : (s.drawn).tnu = s.tnu := rfl
@[simp] theorem State.drawn_gal  (s : State) : (s.drawn).gal = s.gal := rfl
@[simp] theorem State.drawn_mxe  (s : State) : (s.drawn).mxe = s.mxe := rfl
@[simp] theorem State.drawn_dsc  (s : State) : (s.drawn).dsc = s.dsc := rfl
@[simp] theorem State.drawn_fca  (s : State) : (s.drawn).fca = s.fca := rfl
@[simp] theorem State.drawn_cdx  (s : State) : (s.drawn).cdx = s.cdx := rfl
@[simp] theorem State.drawn_spe  (s : State) : (s.drawn).spe = s.spe := rfl
@[simp] theorem State.drawn_hum  (s : State) : (s.drawn).hum = s.hum := rfl
@[simp] theorem State.drawn_bpm  (s : State) : (s.drawn).bpm = s.bpm := rfl
@[simp] theorem State.drawn_dmc  (s : State) : (s.drawn).dmc = s.dmc := rfl
@[simp] theorem State.drawn_ccl  (s : State) : (s.drawn).ccl = s.ccl := rfl
@[simp] theorem State.drawn_csu  (s : State) : (s.drawn).csu = s.csu := rfl
@[simp] theorem State.drawn_mgp  (s : State) : (s.drawn).mgp = s.mgp := rfl
@[simp] theorem State.drawn_cru  (s : State) : (s.drawn).cru = s.cru := rfl

/-! ## setFld -/

@[simp] theorem State.setFld_pending (f : Field) (inst v : Nat) (s : State) : (s.setFld f inst v).pending = s.pending := rfl
@[simp] theorem State.setFld_out (f : Field) (inst v : Nat) (s : State) : (s.setFld f inst v).out = s.out := rfl
@[simp] theorem State.setFld_freeCnt (f : Field) (inst v : Nat) (s : State) : (s.setFld f inst v).freeCnt = s.freeCnt := rfl
@[simp] theorem State.setFld_timers (f : Field) (inst v : Nat) (s : State) : (s.setFld f inst v).timers = s.timers := rfl
@[simp] theorem State.setFld_tbu (f : Field) (inst v : Nat) (s : State) : (s.setFld f inst v).tbu = s.tbu := rfl
@[simp] theorem State.setFld_power (f : Field) (inst v : Nat) (s : State) : (s.setFld f inst v).power = s.power := rfl
@[simp] theorem State.setFld_regf (f : Field) (inst v : Nat) (s : State) : (s.setFld f inst v).regf = s.regf.put f inst 0 v := rfl
@[simp] theorem State.setFld_sheet (f : Field) (inst v : Nat) (s : State) : (s.setFld f inst v).sheet = s.sheet := rfl
@[simp] theorem State.setFld_sheetOld (f : Field) (inst v : Nat) (s : State) : (s.setFld f inst v).sheetOld = s.sheetOld := rfl
@[simp] theorem State.setFld_hlu (f : Field) (inst v : Nat) (s : State) : (s.setFld f inst v).hlu = s.hlu := rfl
@[simp] theorem State.setFld_qen (f : Field) (inst v : Nat) (s : State) : (s.setFld f inst v).qen = s.qen := rfl
@[simp] theorem State.setFld_tnu (f : Field) (inst v : Nat) (s : State) : (s.setFld f inst v).tnu = s.tnu := rfl
@[simp] theorem State.setFld_gal (f : Field) (inst v : Nat) (s : State) : (s.setFld f inst v).gal = s.gal := rfl
@[simp] theorem State.setFld_mxe (f : Field) (inst v : Nat) (s : State) : (s.setFld f inst v).mxe = s.mxe := rfl
@[simp] theorem State.setFld_dsc (f : Field) (inst v : Nat) (s : State) : (s.setFld f inst v).dsc = s.dsc := rfl
@[simp] theorem State.setFld_fca (f : Field) (inst v : Nat) (s : State) : (s.setFld f inst v).fca = s.fca := rfl
@[simp] theorem State.setFld_cdx (f : Field) (inst v : Nat) (s : State) : (s.setFld f inst v).cdx = s.cdx := rfl
@[simp] theorem State.setFld_spe (f : Field) (inst v : Nat) (s : State) : (s.setFld f inst v).spe = s.spe := rfl
@[simp] theorem State.setFld_hum (f : Field) (inst v : Nat) (s : State) : (s.setFld f inst v).hum = s.hum := rfl
@[simp] theorem State.setFld_bpm (f : Field) (inst v : Nat) (s : State) : (s.setFld f inst v).bpm = s.bpm := rfl
@[simp] theorem State.setFld_dmc (f : Field) (inst v : Nat) (s : State) : (s.setFld f inst v).dmc = s.dmc := rfl
@[simp] theorem State.setFld_ccl (f : Field) (inst v : Nat) (s : State) : (s.setFld f inst v).ccl = s.ccl := rfl
@[simp] theorem State.setFld_csu (f : Field) (inst v : Nat) (s : State) : (s.setFld f inst v).csu = s.csu := rfl
@[simp] theorem State.setFld_mgp (f : Field) (inst v : Nat) (s : State) : (s.setFld f inst v).mgp = s.mgp := rfl
@[simp] theorem State.setFld_cru (f : Field) (inst v : Nat) (s : State) : (s.setFld f inst v).cru = s.cru := rfl

/-! ## count -/

@[simp] theorem State.count_pending (f : Field) (inst n : Nat) (s : State) : (s.count f inst n).pending = s.pending := rfl
@[simp] theorem State.count_out (f : Field) (inst n : Nat) (s : State) : (s.count f inst n).out = s.out := rfl
@[simp] theorem State.count_freeCnt (f : Field) (inst n : Nat) (s : State) : (s.count f inst n).freeCnt = s.freeCnt := rfl
@[simp] theorem State.count_timers (f : Field) (inst n : Nat) (s : State) : (s.count f inst n).timers = s.timers := rfl
@[simp] theorem State.count_tbu (f : Field) (inst n : Nat) (s : State) : (s.count f inst n).tbu = s.tbu := rfl
@[simp] theorem State.count_power (f : Field) (inst n : Nat) (s : State) : (s.count f inst n).power = s.power := rfl
@[simp] theorem State.count_regf (f : Field) (inst n : Nat) (s : State) : (s.count f inst n).regf = s.regf.count f inst 0 n := rfl
@[simp] theorem State.count_sheet (f : Field) (inst n : Nat) (s : State) : (s.count f inst n).sheet = s.sheet := rfl
@[simp] theorem State.count_sheetOld (f : Field) (inst n : Nat) (s : State) : (s.count f inst n).sheetOld = s.sheetOld := rfl
@[simp] theorem State.count_hlu (f : Field) (inst n : Nat) (s : State) : (s.count f inst n).hlu = s.hlu := rfl
@[simp] theorem State.count_qen (f : Field) (inst n : Nat) (s : State) : (s.count f inst n).qen = s.qen := rfl
@[simp] theorem State.count_tnu (f : Field) (inst n : Nat) (s : State) : (s.count f inst n).tnu = s.tnu := rfl
@[simp] theorem State.count_gal (f : Field) (inst n : Nat) (s : State) : (s.count f inst n).gal = s.gal := rfl
@[simp] theorem State.count_mxe (f : Field) (inst n : Nat) (s : State) : (s.count f inst n).mxe = s.mxe := rfl
@[simp] theorem State.count_dsc (f : Field) (inst n : Nat) (s : State) : (s.count f inst n).dsc = s.dsc := rfl
@[simp] theorem State.count_fca (f : Field) (inst n : Nat) (s : State) : (s.count f inst n).fca = s.fca := rfl
@[simp] theorem State.count_cdx (f : Field) (inst n : Nat) (s : State) : (s.count f inst n).cdx = s.cdx := rfl
@[simp] theorem State.count_spe (f : Field) (inst n : Nat) (s : State) : (s.count f inst n).spe = s.spe := rfl
@[simp] theorem State.count_hum (f : Field) (inst n : Nat) (s : State) : (s.count f inst n).hum = s.hum := rfl
@[simp] theorem State.count_bpm (f : Field) (inst n : Nat) (s : State) : (s.count f inst n).bpm = s.bpm := rfl
@[simp] theorem State.count_dmc (f : Field) (inst n : Nat) (s : State) : (s.count f inst n).dmc = s.dmc := rfl
@[simp] theorem State.count_ccl (f : Field) (inst n : Nat) (s : State) : (s.count f inst n).ccl = s.ccl := rfl
@[simp] theorem State.count_csu (f : Field) (inst n : Nat) (s : State) : (s.count f inst n).csu = s.csu := rfl
@[simp] theorem State.count_mgp (f : Field) (inst n : Nat) (s : State) : (s.count f inst n).mgp = s.mgp := rfl
@[simp] theorem State.count_cru (f : Field) (inst n : Nat) (s : State) : (s.count f inst n).cru = s.cru := rfl

/-! ## flag -/

@[simp] theorem State.flag_pending (f : Field) (inst mask : Nat) (s : State) : (s.flag f inst mask).pending = s.pending := rfl
@[simp] theorem State.flag_out (f : Field) (inst mask : Nat) (s : State) : (s.flag f inst mask).out = s.out := rfl
@[simp] theorem State.flag_freeCnt (f : Field) (inst mask : Nat) (s : State) : (s.flag f inst mask).freeCnt = s.freeCnt := rfl
@[simp] theorem State.flag_timers (f : Field) (inst mask : Nat) (s : State) : (s.flag f inst mask).timers = s.timers := rfl
@[simp] theorem State.flag_tbu (f : Field) (inst mask : Nat) (s : State) : (s.flag f inst mask).tbu = s.tbu := rfl
@[simp] theorem State.flag_power (f : Field) (inst mask : Nat) (s : State) : (s.flag f inst mask).power = s.power := rfl
@[simp] theorem State.flag_regf (f : Field) (inst mask : Nat) (s : State) : (s.flag f inst mask).regf = s.regf.flag f inst 0 mask := rfl
@[simp] theorem State.flag_sheet (f : Field) (inst mask : Nat) (s : State) : (s.flag f inst mask).sheet = s.sheet := rfl
@[simp] theorem State.flag_sheetOld (f : Field) (inst mask : Nat) (s : State) : (s.flag f inst mask).sheetOld = s.sheetOld := rfl
@[simp] theorem State.flag_hlu (f : Field) (inst mask : Nat) (s : State) : (s.flag f inst mask).hlu = s.hlu := rfl
@[simp] theorem State.flag_qen (f : Field) (inst mask : Nat) (s : State) : (s.flag f inst mask).qen = s.qen := rfl
@[simp] theorem State.flag_tnu (f : Field) (inst mask : Nat) (s : State) : (s.flag f inst mask).tnu = s.tnu := rfl
@[simp] theorem State.flag_gal (f : Field) (inst mask : Nat) (s : State) : (s.flag f inst mask).gal = s.gal := rfl
@[simp] theorem State.flag_mxe (f : Field) (inst mask : Nat) (s : State) : (s.flag f inst mask).mxe = s.mxe := rfl
@[simp] theorem State.flag_dsc (f : Field) (inst mask : Nat) (s : State) : (s.flag f inst mask).dsc = s.dsc := rfl
@[simp] theorem State.flag_fca (f : Field) (inst mask : Nat) (s : State) : (s.flag f inst mask).fca = s.fca := rfl
@[simp] theorem State.flag_cdx (f : Field) (inst mask : Nat) (s : State) : (s.flag f inst mask).cdx = s.cdx := rfl
@[simp] theorem State.flag_spe (f : Field) (inst mask : Nat) (s : State) : (s.flag f inst mask).spe = s.spe := rfl
@[simp] theorem State.flag_hum (f : Field) (inst mask : Nat) (s : State) : (s.flag f inst mask).hum = s.hum := rfl
@[simp] theorem State.flag_bpm (f : Field) (inst mask : Nat) (s : State) : (s.flag f inst mask).bpm = s.bpm := rfl
@[simp] theorem State.flag_dmc (f : Field) (inst mask : Nat) (s : State) : (s.flag f inst mask).dmc = s.dmc := rfl
@[simp] theorem State.flag_ccl (f : Field) (inst mask : Nat) (s : State) : (s.flag f inst mask).ccl = s.ccl := rfl
@[simp] theorem State.flag_csu (f : Field) (inst mask : Nat) (s : State) : (s.flag f inst mask).csu = s.csu := rfl
@[simp] theorem State.flag_mgp (f : Field) (inst mask : Nat) (s : State) : (s.flag f inst mask).mgp = s.mgp := rfl
@[simp] theorem State.flag_cru (f : Field) (inst mask : Nat) (s : State) : (s.flag f inst mask).cru = s.cru := rfl

/-! ## putSheet -/

@[simp] theorem State.putSheet_pending (o : Obj) (index sub v : Nat) (s : State) : (s.putSheet o index sub v).pending = s.pending := rfl
@[simp] theorem State.putSheet_out (o : Obj) (index sub v : Nat) (s : State) : (s.putSheet o index sub v).out = s.out := rfl
@[simp] theorem State.putSheet_freeCnt (o : Obj) (index sub v : Nat) (s : State) : (s.putSheet o index sub v).freeCnt = s.freeCnt := rfl
@[simp] theorem State.putSheet_timers (o : Obj) (index sub v : Nat) (s : State) : (s.putSheet o index sub v).timers = s.timers := rfl
@[simp] theorem State.putSheet_tbu (o : Obj) (index sub v : Nat) (s : State) : (s.putSheet o index sub v).tbu = s.tbu := rfl
@[simp] theorem State.putSheet_power (o : Obj) (index sub v : Nat) (s : State) : (s.putSheet o index sub v).power = s.power := rfl
@[simp] theorem State.putSheet_regf (o : Obj) (index sub v : Nat) (s : State) : (s.putSheet o index sub v).regf = s.regf := rfl
@[simp] theorem State.putSheet_sheet (o : Obj) (index sub v : Nat) (s : State) : (s.putSheet o index sub v).sheet = Tbl.setD s.sheet (sheetKey index sub) v (s.dflt o index sub) := rfl
@[simp] theorem State.putSheet_hlu (o : Obj) (index sub v : Nat) (s : State) : (s.putSheet o index sub v).hlu = s.hlu := rfl
@[simp] theorem State.putSheet_qen (o : Obj) (index sub v : Nat) (s : State) : (s.putSheet o index sub v).qen = s.qen := rfl
@[simp] theorem State.putSheet_tnu (o : Obj) (index sub v : Nat) (s : State) : (s.putSheet o index sub v).tnu = s.tnu := rfl
@[simp] theorem State.putSheet_gal (o : Obj) (index sub v : Nat) (s : State) : (s.putSheet o index sub v).gal = s.gal := rfl
@[simp] theorem State.putSheet_mxe (o : Obj) (index sub v : Nat) (s : State) : (s.putSheet o index sub v).mxe = s.mxe := rfl
@[simp] theorem State.putSheet_dsc (o : Obj) (index sub v : Nat) (s : State) : (s.putSheet o index sub v).dsc = s.dsc := rfl
@[simp] theorem State.putSheet_fca (o : Obj) (index sub v : Nat) (s : State) : (s.putSheet o index sub v).fca = s.fca := rfl
@[simp] theorem State.putSheet_cdx (o : Obj) (index sub v : Nat) (s : State) : (s.putSheet o index sub v).cdx = s.cdx := rfl
@[simp] theorem State.putSheet_spe (o : Obj) (index sub v : Nat) (s : State) : (s.putSheet o index sub v).spe = s.spe := rfl
@[simp] theorem State.putSheet_hum (o : Obj) (index sub v : Nat) (s : State) : (s.putSheet o index sub v).hum = s.hum := rfl
@[simp] theorem State.putSheet_bpm (o : Obj) (index sub v : Nat) (s : State) : (s.putSheet o index sub v).bpm = s.bpm := rfl
@[simp] theorem State.putSheet_dmc (o : Obj) (index sub v : Nat) (s : State) : (s.putSheet o index sub v).dmc = s.dmc := rfl
@[simp] theorem State.putSheet_ccl (o : Obj) (index sub v : Nat) (s : State) : (s.putSheet o index sub v).ccl = s.ccl := rfl
@[simp] theorem State.putSheet_csu (o : Obj) (index sub v : Nat) (s : State) : (s.putSheet o index sub v).csu = s.csu := rfl
@[simp] theorem State.putSheet_mgp (o : Obj) (index sub v : Nat) (s : State) : (s.putSheet o index sub v).mgp = s.mgp := rfl
@[simp] theorem State.putSheet_cru (o : Obj) (index sub v : Nat) (s : State) : (s.putSheet o index sub v).cru = s.cru := rfl

/-! ## setObj -/

@[simp] theorem State.setObj_pending (o : Obj) (v : Nat) (s : State) : (s.setObj o v).pending = s.pending := rfl
@[simp] theorem State.setObj_out (o : Obj) (v : Nat) (s : State) : (s.setObj o v).out = s.out := rfl
@[simp] theorem State.setObj_freeCnt (o : Obj) (v : Nat) (s : State) : (s.setObj o v).freeCnt = s.freeCnt := rfl
@[simp] theorem State.setObj_timers (o : Obj) (v : Nat) (s : State) : (s.setObj o v).timers = s.timers := rfl
@[simp] theorem State.setObj_tbu (o : Obj) (v : Nat) (s : State) : (s.setObj o v).tbu = s.tbu := rfl
@[simp] theorem State.setObj_power (o : Obj) (v : Nat) (s : State) : (s.setObj o v).power = s.power := rfl
@[simp] theorem State.setObj_regf (o : Obj) (v : Nat) (s : State) : (s.setObj o v).regf = s.regf := rfl
@[simp] theorem State.setObj_sheet (o : Obj) (v : Nat) (s : State) : (s.setObj o v).sheet = Tbl.setD s.sheet (sheetKey o.idx o.sub) v (s.dflt o o.idx o.sub) := rfl
@[simp] theorem State.setObj_sheetOld (o : Obj) (v : Nat) (s : State) : (s.setObj o v).sheetOld = s.sheetOld := rfl
@[simp] theorem State.setObj_hlu (o : Obj) (v : Nat) (s : State) : (s.setObj o v).hlu = s.hlu := rfl
@[simp] theorem State.setObj_qen (o : Obj) (v : Nat) (s : State) : (s.setObj o v).qen = s.qen := rfl
@[simp] theorem State.setObj_tnu (o : Obj) (v : Nat) (s : State) : (s.setObj o v).tnu = s.tnu := rfl
@[simp] theorem State.setObj_gal (o : Obj) (v : Nat) (s : State) : (s.setObj o v).gal = s.gal := rfl
@[simp] theorem State.setObj_mxe (o : Obj) (v : Nat) (s : State) : (s.setObj o v).mxe = s.mxe := rfl
@[simp] theorem State.setObj_dsc (o : Obj) (v : Nat) (s : State) : (s.setObj o v).dsc = s.dsc := rfl
@[simp] theorem State.setObj_fca (o : Obj) (v : Nat) (s : State) : (s.setObj o v).fca = s.fca := rfl
@[simp] theorem State.setObj_cdx (o : Obj) (v : Nat) (s : State) : (s.setObj o v).cdx = s.cdx := rfl
@[simp] theorem State.setObj_spe (o : Obj) (v : Nat) (s : State) : (s.setObj o v).spe = s.spe := rfl
@[simp] theorem State.setObj_hum (o : Obj) (v : Nat) (s : State) : (s.setObj o v).hum = s.hum := rfl
@[simp] theorem State.setObj_bpm (o : Obj) (v : Nat) (s : State) : (s.setObj o v).bpm = s.bpm := rfl
@[simp] theorem State.setObj_dmc (o : Obj) (v : Nat) (s : State) : (s.setObj o v).dmc = s.dmc := rfl
@[simp] theorem State.setObj_ccl (o : Obj) (v : Nat) (s : State) : (s.setObj o v).ccl = s.ccl := rfl
@[simp] theorem State.setObj_csu (o : Obj) (v : Nat) (s : State) : (s.setObj o v).csu = s.csu := rfl
@[simp] theorem State.setObj_mgp (o : Obj) (v : Nat) (s : State) : (s.setObj o v).mgp = s.mgp := rfl
@[simp] theorem State.setObj_cru (o : Obj) (v : Nat) (s : State) : (s.setObj o v).cru = s.cru := rfl

/-! ## sample -/

@[simp] theorem State.sample_pending (n : Nat) (s : State) : (s.sample n).pending = s.pending := rfl
@[simp] theorem State.sample_out (n : Nat) (s : State) : (s.sample n).out = s.out := rfl
@[simp] theorem State.sample_freeCnt (n : Nat) (s : State) : (s.sample n).freeCnt = s.freeCnt := rfl
@[simp] theorem State.sample_timers (n : Nat) (s : State) : (s.sample n).timers = s.timers := rfl
@[simp] theorem State.sample_power (n : Nat) (s : State) : (s.sample n).power = s.power := rfl
@[simp] theorem State.sample_regf (n : Nat) (s : State) : (s.sample n).regf = s.regf := rfl
@[simp] theorem State.sample_sheet (n : Nat) (s : State) : (s.sample n).sheet = s.sheet := rfl
@[simp] theorem State.sample_sheetOld (n : Nat) (s : State) : (s.sample n).sheetOld = s.sheetOld := rfl
@[simp] theorem State.sample_hlu (n : Nat) (s : State) : (s.sample n).hlu = s.hlu := rfl
@[simp] theorem State.sample_qen (n : Nat) (s : State) : (s.sample n).qen = s.qen := rfl
@[simp] theorem State.sample_tnu (n : Nat) (s : State) : (s.sample n).tnu = s.tnu := rfl
@[simp] theorem State.sample_gal (n : Nat) (s : State) : (s.sample n).gal = s.gal := rfl
@[simp] theorem State.sample_mxe (n : Nat) (s : State) : (s.sample n).mxe = s.mxe := rfl
@[simp] theorem State.sample_dsc (n : Nat) (s : State) : (s.sample n).dsc = s.dsc := rfl
@[simp] theorem State.sample_fca (n : Nat) (s : State) : (s.sample n).fca = s.fca := rfl
@[simp] theorem State.sample_cdx (n : Nat) (s : State) : (s.sample n).cdx = s.cdx := rfl
@[simp] theorem State.sample_spe (n : Nat) (s : State) : (s.sample n).spe = s.spe := rfl
@[simp] theorem State.sample_hum (n : Nat) (s : State) : (s.sample n).hum = s.hum := rfl
@[simp] theorem State.sample_bpm (n : Nat) (s : State) : (s.sample n).bpm = s.bpm := rfl
@[simp] theorem State.sample_dmc (n : Nat) (s : State) : (s.sample n).dmc = s.dmc := rfl
@[simp] theorem State.sample_ccl (n : Nat) (s : State) : (s.sample n).ccl = s.ccl := rfl
@[simp] theorem State.sample_csu (n : Nat) (s : State) : (s.sample n).csu = s.csu := rfl
@[simp] theorem State.sample_mgp (n : Nat) (s : State) : (s.sample n).mgp = s.mgp := rfl
@[simp] theorem State.sample_cru (n : Nat) (s : State) : (s.sample n).cru = s.cru := rfl

/-! ## raiseExc -/

@[simp] theorem State.raiseExc_pending (unit kind arg inst : Nat) (s : State) : (s.raiseExc unit kind arg inst).pending = s.pending := rfl
@[simp] theorem State.raiseExc_out (unit kind arg inst : Nat) (s : State) : (s.raiseExc unit kind arg inst).out = s.out := rfl
@[simp] theorem State.raiseExc_freeCnt (unit kind arg inst : Nat) (s : State) : (s.raiseExc unit kind arg inst).freeCnt = s.freeCnt := rfl
@[simp] theorem State.raiseExc_timers (unit kind arg inst : Nat) (s : State) : (s.raiseExc unit kind arg inst).timers = s.timers := rfl
@[simp] theorem State.raiseExc_tbu (unit kind arg inst : Nat) (s : State) : (s.raiseExc unit kind arg inst).tbu = s.tbu := rfl
@[simp] theorem State.raiseExc_power (unit kind arg inst : Nat) (s : State) : (s.raiseExc unit kind arg inst).power = s.power := rfl
@[simp] theorem State.raiseExc_regf (unit kind arg inst : Nat) (s : State) : (s.raiseExc unit kind arg inst).regf = s.regf := rfl
@[simp] theorem State.raiseExc_sheet (unit kind arg inst : Nat) (s : State) : (s.raiseExc unit kind arg inst).sheet = s.sheet := rfl
@[simp] theorem State.raiseExc_sheetOld (unit kind arg inst : Nat) (s : State) : (s.raiseExc unit kind arg inst).sheetOld = s.sheetOld := rfl
@[simp] theorem State.raiseExc_hlu (unit kind arg inst : Nat) (s : State) : (s.raiseExc unit kind arg inst).hlu = s.hlu := rfl
@[simp] theorem State.raiseExc_qen (unit kind arg inst : Nat) (s : State) : (s.raiseExc unit kind arg inst).qen = s.qen := rfl
@[simp] theorem State.raiseExc_tnu (unit kind arg inst : Nat) (s : State) : (s.raiseExc unit kind arg inst).tnu = s.tnu := rfl
@[simp] theorem State.raiseExc_gal (unit kind arg inst : Nat) (s : State) : (s.raiseExc unit kind arg inst).gal = s.gal := rfl
@[simp] theorem State.raiseExc_mxe (unit kind arg inst : Nat) (s : State) : (s.raiseExc unit kind arg inst).mxe = s.mxe := rfl
@[simp] theorem State.raiseExc_dsc (unit kind arg inst : Nat) (s : State) : (s.raiseExc unit kind arg inst).dsc = s.dsc := rfl
@[simp] theorem State.raiseExc_fca (unit kind arg inst : Nat) (s : State) : (s.raiseExc unit kind arg inst).fca = s.fca := rfl
@[simp] theorem State.raiseExc_cdx (unit kind arg inst : Nat) (s : State) : (s.raiseExc unit kind arg inst).cdx = s.cdx := rfl
@[simp] theorem State.raiseExc_spe (unit kind arg inst : Nat) (s : State) : (s.raiseExc unit kind arg inst).spe = s.spe := rfl
@[simp] theorem State.raiseExc_hum (unit kind arg inst : Nat) (s : State) : (s.raiseExc unit kind arg inst).hum = s.hum := rfl
@[simp] theorem State.raiseExc_bpm (unit kind arg inst : Nat) (s : State) : (s.raiseExc unit kind arg inst).bpm = s.bpm := rfl
@[simp] theorem State.raiseExc_dmc (unit kind arg inst : Nat) (s : State) : (s.raiseExc unit kind arg inst).dmc = s.dmc := rfl
@[simp] theorem State.raiseExc_csu (unit kind arg inst : Nat) (s : State) : (s.raiseExc unit kind arg inst).csu = s.csu := rfl
@[simp] theorem State.raiseExc_mgp (unit kind arg inst : Nat) (s : State) : (s.raiseExc unit kind arg inst).mgp = s.mgp := rfl
@[simp] theorem State.raiseExc_cru (unit kind arg inst : Nat) (s : State) : (s.raiseExc unit kind arg inst).cru = s.cru := rfl

/-! ## modCtx -/

@[simp] theorem State.modCtx_pending (c : Nat) (f : Ctx → Ctx) (s : State) : (s.modCtx c f).pending = s.pending := rfl
@[simp] theorem State.modCtx_out (c : Nat) (f : Ctx → Ctx) (s : State) : (s.modCtx c f).out = s.out := rfl
@[simp] theorem State.modCtx_freeCnt (c : Nat) (f : Ctx → Ctx) (s : State) : (s.modCtx c f).freeCnt = s.freeCnt := rfl
@[simp] theorem State.modCtx_timers (c : Nat) (f : Ctx → Ctx) (s : State) : (s.modCtx c f).timers = s.timers := rfl
@[simp] theorem State.modCtx_tbu (c : Nat) (f : Ctx → Ctx) (s : State) : (s.modCtx c f).tbu = s.tbu := rfl
@[simp] theorem State.modCtx_power (c : Nat) (f : Ctx → Ctx) (s : State) : (s.modCtx c f).power = s.power := rfl
@[simp] theorem State.modCtx_regf (c : Nat) (f : Ctx → Ctx) (s : State) : (s.modCtx c f).regf = s.regf := rfl
@[simp] theorem State.modCtx_sheet (c : Nat) (f : Ctx → Ctx) (s : State) : (s.modCtx c f).sheet = s.sheet := rfl
@[simp] theorem State.modCtx_sheetOld (c : Nat) (f : Ctx → Ctx) (s : State) : (s.modCtx c f).sheetOld = s.sheetOld := rfl
@[simp] theorem State.modCtx_hlu (c : Nat) (f : Ctx → Ctx) (s : State) : (s.modCtx c f).hlu = s.hlu := rfl
@[simp] theorem State.modCtx_qen (c : Nat) (f : Ctx → Ctx) (s : State) : (s.modCtx c f).qen = s.qen.modCtx c f := rfl
@[simp] theorem State.modCtx_tnu (c : Nat) (f : Ctx → Ctx) (s : State) : (s.modCtx c f).tnu = s.tnu := rfl
@[simp] theorem State.modCtx_gal (c : Nat) (f : Ctx → Ctx) (s : State) : (s.modCtx c f).gal = s.gal := rfl
@[simp] theorem State.modCtx_mxe (c : Nat) (f : Ctx → Ctx) (s : State) : (s.modCtx c f).mxe = s.mxe := rfl
@[simp] theorem State.modCtx_dsc (c : Nat) (f : Ctx → Ctx) (s : State) : (s.modCtx c f).dsc = s.dsc := rfl
@[simp] theorem State.modCtx_fca (c : Nat) (f : Ctx → Ctx) (s : State) : (s.modCtx c f).fca = s.fca := rfl
@[simp] theorem State.modCtx_cdx (c : Nat) (f : Ctx → Ctx) (s : State) : (s.modCtx c f).cdx = s.cdx := rfl
@[simp] theorem State.modCtx_spe (c : Nat) (f : Ctx → Ctx) (s : State) : (s.modCtx c f).spe = s.spe := rfl
@[simp] theorem State.modCtx_hum (c : Nat) (f : Ctx → Ctx) (s : State) : (s.modCtx c f).hum = s.hum := rfl
@[simp] theorem State.modCtx_bpm (c : Nat) (f : Ctx → Ctx) (s : State) : (s.modCtx c f).bpm = s.bpm := rfl
@[simp] theorem State.modCtx_dmc (c : Nat) (f : Ctx → Ctx) (s : State) : (s.modCtx c f).dmc = s.dmc := rfl
@[simp] theorem State.modCtx_ccl (c : Nat) (f : Ctx → Ctx) (s : State) : (s.modCtx c f).ccl = s.ccl := rfl
@[simp] theorem State.modCtx_csu (c : Nat) (f : Ctx → Ctx) (s : State) : (s.modCtx c f).csu = s.csu := rfl
@[simp] theorem State.modCtx_mgp (c : Nat) (f : Ctx → Ctx) (s : State) : (s.modCtx c f).mgp = s.mgp := rfl
@[simp] theorem State.modCtx_cru (c : Nat) (f : Ctx → Ctx) (s : State) : (s.modCtx c f).cru = s.cru := rfl

/-! ## finish -/

@[simp] theorem State.finish_pending (c status : Nat) (s : State) : (s.finish c status).pending = s.pending := rfl
@[simp] theorem State.finish_out (c status : Nat) (s : State) : (s.finish c status).out = s.out := rfl
@[simp] theorem State.finish_freeCnt (c status : Nat) (s : State) : (s.finish c status).freeCnt = s.freeCnt := rfl
@[simp] theorem State.finish_timers (c status : Nat) (s : State) : (s.finish c status).timers = s.timers := rfl
@[simp] theorem State.finish_tbu (c status : Nat) (s : State) : (s.finish c status).tbu = s.tbu := rfl
@[simp] theorem State.finish_power (c status : Nat) (s : State) : (s.finish c status).power = s.power := rfl
@[simp] theorem State.finish_regf (c status : Nat) (s : State) : (s.finish c status).regf = s.regf := rfl
@[simp] theorem State.finish_sheet (c status : Nat) (s : State) : (s.finish c status).sheet = s.sheet := rfl
@[simp] theorem State.finish_sheetOld (c status : Nat) (s : State) : (s.finish c status).sheetOld = s.sheetOld := rfl
@[simp] theorem State.finish_hlu (c status : Nat) (s : State) : (s.finish c status).hlu = s.hlu := rfl
@[simp] theorem State.finish_qen (c status : Nat) (s : State) : (s.finish c status).qen = s.qen.modCtx c fun x => { x with state := .ready, status := status, accepted := false } := rfl
@[simp] theorem State.finish_tnu (c status : Nat) (s : State) : (s.finish c status).tnu = s.tnu := rfl
@[simp] theorem State.finish_gal (c status : Nat) (s : State) : (s.finish c status).gal = s.gal := rfl
@[simp] theorem State.finish_mxe (c status : Nat) (s : State) : (s.finish c status).mxe = s.mxe := rfl
@[simp] theorem State.finish_dsc (c status : Nat) (s : State) : (s.finish c status).dsc = s.dsc := rfl
@[simp] theorem State.finish_fca (c status : Nat) (s : State) : (s.finish c status).fca = s.fca := rfl
@[simp] theorem State.finish_cdx (c status : Nat) (s : State) : (s.finish c status).cdx = s.cdx := rfl
@[simp] theorem State.finish_spe (c status : Nat) (s : State) : (s.finish c status).spe = s.spe := rfl
@[simp] theorem State.finish_hum (c status : Nat) (s : State) : (s.finish c status).hum = s.hum := rfl
@[simp] theorem State.finish_bpm (c status : Nat) (s : State) : (s.finish c status).bpm = s.bpm := rfl
@[simp] theorem State.finish_dmc (c status : Nat) (s : State) : (s.finish c status).dmc = s.dmc := rfl
@[simp] theorem State.finish_ccl (c status : Nat) (s : State) : (s.finish c status).ccl = s.ccl := rfl
@[simp] theorem State.finish_csu (c status : Nat) (s : State) : (s.finish c status).csu = s.csu := rfl
@[simp] theorem State.finish_mgp (c status : Nat) (s : State) : (s.finish c status).mgp = s.mgp := rfl
@[simp] theorem State.finish_cru (c status : Nat) (s : State) : (s.finish c status).cru = s.cru := rfl

/-! ## healthClear -/

@[simp] theorem State.healthClear_pending (code : Nat) (s : State) : (s.healthClear code).pending = s.pending := rfl
@[simp] theorem State.healthClear_out (code : Nat) (s : State) : (s.healthClear code).out = s.out := rfl
@[simp] theorem State.healthClear_freeCnt (code : Nat) (s : State) : (s.healthClear code).freeCnt = s.freeCnt := rfl
@[simp] theorem State.healthClear_timers (code : Nat) (s : State) : (s.healthClear code).timers = s.timers := rfl
@[simp] theorem State.healthClear_tbu (code : Nat) (s : State) : (s.healthClear code).tbu = s.tbu := rfl
@[simp] theorem State.healthClear_power (code : Nat) (s : State) : (s.healthClear code).power = s.power := rfl
@[simp] theorem State.healthClear_regf (code : Nat) (s : State) : (s.healthClear code).regf = s.regf := rfl
@[simp] theorem State.healthClear_sheet (code : Nat) (s : State) : (s.healthClear code).sheet = s.sheet := rfl
@[simp] theorem State.healthClear_sheetOld (code : Nat) (s : State) : (s.healthClear code).sheetOld = s.sheetOld := rfl
@[simp] theorem State.healthClear_hlu (code : Nat) (s : State) : (s.healthClear code).hlu = s.hlu := rfl
@[simp] theorem State.healthClear_qen (code : Nat) (s : State) : (s.healthClear code).qen = s.qen := rfl
@[simp] theorem State.healthClear_tnu (code : Nat) (s : State) : (s.healthClear code).tnu = s.tnu := rfl
@[simp] theorem State.healthClear_gal (code : Nat) (s : State) : (s.healthClear code).gal = s.gal := rfl
@[simp] theorem State.healthClear_mxe (code : Nat) (s : State) : (s.healthClear code).mxe = s.mxe := rfl
@[simp] theorem State.healthClear_dsc (code : Nat) (s : State) : (s.healthClear code).dsc = s.dsc := rfl
@[simp] theorem State.healthClear_fca (code : Nat) (s : State) : (s.healthClear code).fca = s.fca := rfl
@[simp] theorem State.healthClear_cdx (code : Nat) (s : State) : (s.healthClear code).cdx = s.cdx := rfl
@[simp] theorem State.healthClear_spe (code : Nat) (s : State) : (s.healthClear code).spe = s.spe := rfl
@[simp] theorem State.healthClear_hum (code : Nat) (s : State) : (s.healthClear code).hum = s.hum := rfl
@[simp] theorem State.healthClear_bpm (code : Nat) (s : State) : (s.healthClear code).bpm = s.bpm := rfl
@[simp] theorem State.healthClear_dmc (code : Nat) (s : State) : (s.healthClear code).dmc = s.dmc := rfl
@[simp] theorem State.healthClear_ccl (code : Nat) (s : State) : (s.healthClear code).ccl = s.ccl := rfl
@[simp] theorem State.healthClear_csu (code : Nat) (s : State) : (s.healthClear code).csu = s.csu := rfl
@[simp] theorem State.healthClear_cru (code : Nat) (s : State) : (s.healthClear code).cru = s.cru := rfl

/-! ## logHealth -/

@[simp] theorem State.logHealth_pending (code unit : Nat) (s : State) : (s.logHealth code unit).pending = s.pending := rfl
@[simp] theorem State.logHealth_out (code unit : Nat) (s : State) : (s.logHealth code unit).out = s.out := rfl
@[simp] theorem State.logHealth_freeCnt (code unit : Nat) (s : State) : (s.logHealth code unit).freeCnt = s.freeCnt := rfl
@[simp] theorem State.logHealth_timers (code unit : Nat) (s : State) : (s.logHealth code unit).timers = s.timers := rfl
@[simp] theorem State.logHealth_tbu (code unit : Nat) (s : State) : (s.logHealth code unit).tbu = s.tbu := rfl
@[simp] theorem State.logHealth_power (code unit : Nat) (s : State) : (s.logHealth code unit).power = s.power := rfl
@[simp] theorem State.logHealth_regf (code unit : Nat) (s : State) : (s.logHealth code unit).regf = s.regf := rfl
@[simp] theorem State.logHealth_sheet (code unit : Nat) (s : State) : (s.logHealth code unit).sheet = s.sheet := rfl
@[simp] theorem State.logHealth_sheetOld (code unit : Nat) (s : State) : (s.logHealth code unit).sheetOld = s.sheetOld := rfl
@[simp] theorem State.logHealth_hlu (code unit : Nat) (s : State) : (s.logHealth code unit).hlu = s.hlu := rfl
@[simp] theorem State.logHealth_qen (code unit : Nat) (s : State) : (s.logHealth code unit).qen = s.qen := rfl
@[simp] theorem State.logHealth_tnu (code unit : Nat) (s : State) : (s.logHealth code unit).tnu = s.tnu := rfl
@[simp] theorem State.logHealth_gal (code unit : Nat) (s : State) : (s.logHealth code unit).gal = s.gal := rfl
@[simp] theorem State.logHealth_mxe (code unit : Nat) (s : State) : (s.logHealth code unit).mxe = s.mxe := rfl
@[simp] theorem State.logHealth_dsc (code unit : Nat) (s : State) : (s.logHealth code unit).dsc = s.dsc := rfl
@[simp] theorem State.logHealth_fca (code unit : Nat) (s : State) : (s.logHealth code unit).fca = s.fca := rfl
@[simp] theorem State.logHealth_cdx (code unit : Nat) (s : State) : (s.logHealth code unit).cdx = s.cdx := rfl
@[simp] theorem State.logHealth_spe (code unit : Nat) (s : State) : (s.logHealth code unit).spe = s.spe := rfl
@[simp] theorem State.logHealth_hum (code unit : Nat) (s : State) : (s.logHealth code unit).hum = s.hum := rfl
@[simp] theorem State.logHealth_bpm (code unit : Nat) (s : State) : (s.logHealth code unit).bpm = s.bpm := rfl
@[simp] theorem State.logHealth_dmc (code unit : Nat) (s : State) : (s.logHealth code unit).dmc = s.dmc := rfl
@[simp] theorem State.logHealth_ccl (code unit : Nat) (s : State) : (s.logHealth code unit).ccl = s.ccl := rfl
@[simp] theorem State.logHealth_csu (code unit : Nat) (s : State) : (s.logHealth code unit).csu = s.csu := rfl
@[simp] theorem State.logHealth_cru (code unit : Nat) (s : State) : (s.logHealth code unit).cru = s.cru := rfl

@[simp] theorem State.sample_tick (n : Nat) (s : State) : (s.sample n).tbu.tick = s.tbu.tick := rfl
@[simp] theorem State.sample_fleet (n : Nat) (s : State) : (s.sample n).tbu.fleet = s.tbu.fleet := rfl

/-! ## A recorder trigger changes the recorder and its counters only (R484 to R487) -/

@[simp] theorem State.trigger_pending (code unit inst : Nat) (arg : Dword) (s : State) : (s.trigger code unit inst arg).pending = s.pending := by
  simp only [State.trigger]
  split
  · split <;> rfl
  · rfl
@[simp] theorem State.trigger_out (code unit inst : Nat) (arg : Dword) (s : State) : (s.trigger code unit inst arg).out = s.out := by
  simp only [State.trigger]
  split
  · split <;> rfl
  · rfl
@[simp] theorem State.trigger_freeCnt (code unit inst : Nat) (arg : Dword) (s : State) : (s.trigger code unit inst arg).freeCnt = s.freeCnt := by
  simp only [State.trigger]
  split
  · split <;> rfl
  · rfl
@[simp] theorem State.trigger_timers (code unit inst : Nat) (arg : Dword) (s : State) : (s.trigger code unit inst arg).timers = s.timers := by
  simp only [State.trigger]
  split
  · split <;> rfl
  · rfl
@[simp] theorem State.trigger_tbu (code unit inst : Nat) (arg : Dword) (s : State) : (s.trigger code unit inst arg).tbu = s.tbu := by
  simp only [State.trigger]
  split
  · split <;> rfl
  · rfl
@[simp] theorem State.trigger_power (code unit inst : Nat) (arg : Dword) (s : State) : (s.trigger code unit inst arg).power = s.power := by
  simp only [State.trigger]
  split
  · split <;> rfl
  · rfl
@[simp] theorem State.trigger_sheet (code unit inst : Nat) (arg : Dword) (s : State) : (s.trigger code unit inst arg).sheet = s.sheet := by
  simp only [State.trigger]
  split
  · split <;> rfl
  · rfl
@[simp] theorem State.trigger_sheetOld (code unit inst : Nat) (arg : Dword) (s : State) : (s.trigger code unit inst arg).sheetOld = s.sheetOld := by
  simp only [State.trigger]
  split
  · split <;> rfl
  · rfl
@[simp] theorem State.trigger_hlu (code unit inst : Nat) (arg : Dword) (s : State) : (s.trigger code unit inst arg).hlu = s.hlu := by
  simp only [State.trigger]
  split
  · split <;> rfl
  · rfl
@[simp] theorem State.trigger_qen (code unit inst : Nat) (arg : Dword) (s : State) : (s.trigger code unit inst arg).qen = s.qen := by
  simp only [State.trigger]
  split
  · split <;> rfl
  · rfl
@[simp] theorem State.trigger_tnu (code unit inst : Nat) (arg : Dword) (s : State) : (s.trigger code unit inst arg).tnu = s.tnu := by
  simp only [State.trigger]
  split
  · split <;> rfl
  · rfl
@[simp] theorem State.trigger_gal (code unit inst : Nat) (arg : Dword) (s : State) : (s.trigger code unit inst arg).gal = s.gal := by
  simp only [State.trigger]
  split
  · split <;> rfl
  · rfl
@[simp] theorem State.trigger_mxe (code unit inst : Nat) (arg : Dword) (s : State) : (s.trigger code unit inst arg).mxe = s.mxe := by
  simp only [State.trigger]
  split
  · split <;> rfl
  · rfl
@[simp] theorem State.trigger_dsc (code unit inst : Nat) (arg : Dword) (s : State) : (s.trigger code unit inst arg).dsc = s.dsc := by
  simp only [State.trigger]
  split
  · split <;> rfl
  · rfl
@[simp] theorem State.trigger_fca (code unit inst : Nat) (arg : Dword) (s : State) : (s.trigger code unit inst arg).fca = s.fca := by
  simp only [State.trigger]
  split
  · split <;> rfl
  · rfl
@[simp] theorem State.trigger_cdx (code unit inst : Nat) (arg : Dword) (s : State) : (s.trigger code unit inst arg).cdx = s.cdx := by
  simp only [State.trigger]
  split
  · split <;> rfl
  · rfl
@[simp] theorem State.trigger_spe (code unit inst : Nat) (arg : Dword) (s : State) : (s.trigger code unit inst arg).spe = s.spe := by
  simp only [State.trigger]
  split
  · split <;> rfl
  · rfl
@[simp] theorem State.trigger_hum (code unit inst : Nat) (arg : Dword) (s : State) : (s.trigger code unit inst arg).hum = s.hum := by
  simp only [State.trigger]
  split
  · split <;> rfl
  · rfl
@[simp] theorem State.trigger_bpm (code unit inst : Nat) (arg : Dword) (s : State) : (s.trigger code unit inst arg).bpm = s.bpm := by
  simp only [State.trigger]
  split
  · split <;> rfl
  · rfl
@[simp] theorem State.trigger_dmc (code unit inst : Nat) (arg : Dword) (s : State) : (s.trigger code unit inst arg).dmc = s.dmc := by
  simp only [State.trigger]
  split
  · split <;> rfl
  · rfl
@[simp] theorem State.trigger_ccl (code unit inst : Nat) (arg : Dword) (s : State) : (s.trigger code unit inst arg).ccl = s.ccl := by
  simp only [State.trigger]
  split
  · split <;> rfl
  · rfl
@[simp] theorem State.trigger_csu (code unit inst : Nat) (arg : Dword) (s : State) : (s.trigger code unit inst arg).csu = s.csu := by
  simp only [State.trigger]
  split
  · split <;> rfl
  · rfl
@[simp] theorem State.trigger_mgp (code unit inst : Nat) (arg : Dword) (s : State) : (s.trigger code unit inst arg).mgp = s.mgp := by
  simp only [State.trigger]
  split
  · split <;> rfl
  · rfl

end Sys2Proof.Machine
end

