-- ==== Sys2Proof/Laws/Tables.lean ====
section
/-! SUPPORT. Laws of the tables and byte memories of Machine/Ops.lean: what a lookup finds after an entry, a removal or a change, and that every operation keeps the canonical form. -/

namespace Sys2Proof.Machine

variable {α : Type}

/-! ## Lookups -/

@[simp] theorem Tbl.find?_nil (k : Nat) : Tbl.find? ([] : List (Nat × α)) k = none := rfl

theorem Tbl.find?_put_same (t : List (Nat × α)) (k : Nat) (v : α) : Tbl.find? (Tbl.put t k v) k = some v := by
  induction t with
  | nil => simp [Tbl.put, Tbl.find?]
  | cons e t ih => obtain ⟨k', v'⟩ := e; grind [Tbl.put, Tbl.find?]

theorem Tbl.find?_put_other (t : List (Nat × α)) {k j : Nat} (v : α) (h : j ≠ k) : Tbl.find? (Tbl.put t k v) j = Tbl.find? t j := by
  induction t with
  | nil => simp [Tbl.put, Tbl.find?, h]
  | cons e t ih => obtain ⟨k', v'⟩ := e; grind [Tbl.put, Tbl.find?]

theorem Tbl.find?_del_same (t : List (Nat × α)) (k : Nat) : Tbl.find? (Tbl.del t k) k = none := by
  induction t with
  | nil => rfl
  | cons e t ih => obtain ⟨k', v'⟩ := e; grind [Tbl.del, Tbl.find?]

theorem Tbl.find?_del_other (t : List (Nat × α)) {k j : Nat} (h : j ≠ k) : Tbl.find? (Tbl.del t k) j = Tbl.find? t j := by
  induction t with
  | nil => rfl
  | cons e t ih => obtain ⟨k', v'⟩ := e; grind [Tbl.del, Tbl.find?]

theorem Tbl.find?_adjust_same (t : List (Nat × α)) (k : Nat) (f : α → α) :
    Tbl.find? (Tbl.adjust t k f) k = (Tbl.find? t k).map f := by
  induction t with
  | nil => rfl
  | cons e t ih =>
    obtain ⟨k', v'⟩ := e
    simp only [Tbl.adjust, List.map_cons, Tbl.find?] at ih ⊢
    grind [Tbl.find?]

theorem Tbl.find?_adjust_other (t : List (Nat × α)) {k j : Nat} (f : α → α) (h : j ≠ k) :
    Tbl.find? (Tbl.adjust t k f) j = Tbl.find? t j := by
  induction t with
  | nil => rfl
  | cons e t ih =>
    obtain ⟨k', v'⟩ := e
    simp only [Tbl.adjust, List.map_cons, Tbl.find?] at ih ⊢
    grind [Tbl.find?]

theorem Tbl.getD_put_same (t : List (Nat × α)) (k : Nat) (v d : α) : Tbl.getD (Tbl.put t k v) k d = v := by
  simp [Tbl.getD, Tbl.find?_put_same]

theorem Tbl.getD_put_other (t : List (Nat × α)) {k j : Nat} (v d : α) (h : j ≠ k) : Tbl.getD (Tbl.put t k v) j d = Tbl.getD t j d := by
  simp [Tbl.getD, Tbl.find?_put_other t v h]

theorem Tbl.getD_setD_same [DecidableEq α] (t : List (Nat × α)) (k : Nat) (v d : α) : Tbl.getD (Tbl.setD t k v d) k d = v := by
  by_cases h : v = d
  · simp [Tbl.setD, h, Tbl.getD, Tbl.find?_del_same]
  · simp [Tbl.setD, h, Tbl.getD, Tbl.find?_put_same]

theorem Tbl.getD_setD_other [DecidableEq α] (t : List (Nat × α)) {k j : Nat} (v d : α) (h : j ≠ k) :
    Tbl.getD (Tbl.setD t k v d) j d = Tbl.getD t j d := by
  by_cases e : v = d
  · simp [Tbl.setD, e, Tbl.getD, Tbl.find?_del_other t h]
  · simp [Tbl.setD, e, Tbl.getD, Tbl.find?_put_other t v h]

/-! ## Rising keys -/

theorem Tbl.above_weaken {j k : Nat} (h : j ≤ k) (t : List (Nat × α)) (ht : Tbl.above k t = true) : Tbl.above j t = true := by
  cases t with
  | nil => rfl
  | cons e t => obtain ⟨k', v'⟩ := e; grind [Tbl.above]

theorem Tbl.above_put {j k : Nat} (t : List (Nat × α)) (v : α) (h : Tbl.above j t = true) (hk : j < k) :
    Tbl.above j (Tbl.put t k v) = true := by
  induction t generalizing j with
  | nil => simp [Tbl.put, Tbl.above, hk]
  | cons e t ih => obtain ⟨k', v'⟩ := e; grind [Tbl.put, Tbl.above]

theorem Tbl.sorted_put (t : List (Nat × α)) (k : Nat) (v : α) (h : Tbl.sorted t = true) : Tbl.sorted (Tbl.put t k v) = true := by
  cases t with
  | nil => rfl
  | cons e t => obtain ⟨k', v'⟩ := e; grind [Tbl.put, Tbl.above, Tbl.sorted, Tbl.above_put]

theorem Tbl.above_filter {j : Nat} (p : Nat × α → Bool) (t : List (Nat × α)) (h : Tbl.above j t = true) :
    Tbl.above j (t.filter p) = true := by
  induction t generalizing j with
  | nil => rfl
  | cons e t ih =>
    obtain ⟨k', v'⟩ := e
    simp only [Tbl.above, Bool.and_eq_true, decide_eq_true_eq] at h
    by_cases hp : p (k', v')
    · simp only [List.filter_cons_of_pos hp, Tbl.above, Bool.and_eq_true, decide_eq_true_eq]
      exact ⟨h.1, ih h.2⟩
    · simp only [List.filter_cons_of_neg hp]
      exact ih (Tbl.above_weaken (Nat.le_of_lt h.1) t h.2)

theorem Tbl.sorted_of_above {j : Nat} (t : List (Nat × α)) (h : Tbl.above j t = true) : Tbl.sorted t = true := by
  cases t with
  | nil => rfl
  | cons e t => obtain ⟨k', v'⟩ := e; grind [Tbl.above, Tbl.sorted]

theorem Tbl.sorted_filter (p : Nat × α → Bool) (t : List (Nat × α)) (h : Tbl.sorted t = true) : Tbl.sorted (t.filter p) = true := by
  cases t with
  | nil => rfl
  | cons e t =>
    obtain ⟨k', v'⟩ := e
    by_cases hp : p (k', v')
    · simp only [List.filter_cons_of_pos hp]
      exact Tbl.above_filter p t h
    · simp only [List.filter_cons_of_neg hp]
      exact Tbl.sorted_of_above _ (Tbl.above_filter p t h)

theorem Tbl.del_eq_filter (t : List (Nat × α)) (k : Nat) : Tbl.del t k = t.filter fun e => decide (k ≠ e.1) := by
  induction t with
  | nil => rfl
  | cons e t ih =>
    obtain ⟨k', v'⟩ := e
    by_cases h : k = k'
    · subst h; simpa [Tbl.del] using ih
    · simp [Tbl.del, h, ih]

/-! ## Byte memories -/

theorem Memory.wf_filter (d : Byte) (p : Host.Cell → Bool) (m : List Host.Cell) (h : Memory.wf d m = true) :
    Memory.wf d (m.filter p) = true := by
  simp only [Memory.wf, Bool.and_eq_true, List.all_eq_true] at h ⊢
  exact ⟨Tbl.sorted_filter p m h.1, fun x hx => h.2 x (List.mem_filter.mp hx).1⟩

theorem Memory.wf_clearRange (d : Byte) (m : List Host.Cell) (a n : Nat) (h : Memory.wf d m = true) :
    Memory.wf d (Memory.clearRange m a n) = true := Memory.wf_filter d _ m h

theorem Tbl.all_put (p : Nat × α → Bool) (t : List (Nat × α)) (k : Nat) (v : α) (ht : t.all p = true) (hv : p (k, v) = true) :
    (Tbl.put t k v).all p = true := by
  induction t with
  | nil => simp [Tbl.put, hv]
  | cons e t ih => obtain ⟨k', v'⟩ := e; grind [Tbl.put]

theorem Memory.wf_write (d : Byte) (m : List Host.Cell) (a : Nat) (b : Byte) (h : Memory.wf d m = true) :
    Memory.wf d (Memory.write d m a b) = true := by
  by_cases e : b = d
  · simp only [Memory.write, Tbl.setD, e, if_true, Tbl.del_eq_filter]
    exact Memory.wf_filter d _ m h
  · simp only [Memory.write, Tbl.setD, e, if_false]
    simp only [Memory.wf, Bool.and_eq_true] at h ⊢
    exact ⟨Tbl.sorted_put m a b h.1, Tbl.all_put _ m a b h.2 (by simpa using e)⟩

theorem Memory.wf_writeAll (d : Byte) (bs : List Byte) (m : List Host.Cell) (a : Nat) (h : Memory.wf d m = true) :
    Memory.wf d (Memory.writeAll d m a bs) = true := by
  induction bs generalizing m a with
  | nil => exact h
  | cons b bs ih => exact ih _ _ (Memory.wf_write d m a b h)

@[simp] theorem Memory.wf_nil (d : Byte) : Memory.wf d [] = true := rfl

theorem Memory.wf_foldl {β : Type} (d : Byte) (at_ : β → Nat) (val : β → Byte) (l : List β) (m : List Host.Cell) (h : Memory.wf d m = true) :
    Memory.wf d (l.foldl (fun m x => Memory.write d m (at_ x) (val x)) m) = true := by
  induction l generalizing m with
  | nil => exact h
  | cons x l ih => exact ih _ (Memory.wf_write d m _ _ h)

theorem Memory.read_write_same (d : Byte) (m : List Host.Cell) (a : Nat) (b : Byte) : Memory.read d (Memory.write d m a b) a = b :=
  Tbl.getD_setD_same m a b d

theorem Memory.read_write_other (d : Byte) (m : List Host.Cell) {a x : Nat} (b : Byte) (h : x ≠ a) :
    Memory.read d (Memory.write d m a b) x = Memory.read d m x := Tbl.getD_setD_other m b d h

theorem Memory.read_writeAll_other (d : Byte) (bs : List Byte) (m : List Host.Cell) (a x : Nat) (h : x < a ∨ a + bs.length ≤ x) :
    Memory.read d (Memory.writeAll d m a bs) x = Memory.read d m x := by
  induction bs generalizing m a with
  | nil => rfl
  | cons b bs ih =>
    simp only [List.length_cons] at h
    rw [Memory.writeAll, ih _ _ (by omega), Memory.read_write_other d m b (by omega)]

/-- A byte inside a run of written bytes reads as written. -/
theorem Memory.read_writeAll_inside (d : Byte) (bs : List Byte) (m : List Host.Cell) (a i : Nat) (h : i < bs.length) :
    Memory.read d (Memory.writeAll d m a bs) (a + i) = bs[i] := by
  induction bs generalizing m a i with
  | nil => simp at h
  | cons b bs ih =>
    cases i with
    | zero => simp only [Memory.writeAll, Nat.add_zero, List.getElem_cons_zero]; rw [Memory.read_writeAll_other _ _ _ _ _ (Or.inl (by omega)), Memory.read_write_same]
    | succ i => simp only [Memory.writeAll, List.getElem_cons_succ]; rw [← ih (Memory.write d m a b) (a + 1) i (by simpa using h)]; congr 1; omega

/-- Reading inside written bytes gives those bytes. -/
theorem Memory.readN_writeAll (d : Byte) (bs : List Byte) (m : List Host.Cell) (a k n : Nat) (h : k + n ≤ bs.length) :
    Memory.readN d (Memory.writeAll d m a bs) (a + k) n = (bs.drop k).take n := by
  induction n generalizing k with
  | zero => simp [Memory.readN]
  | succ n ih =>
    have e := Memory.read_writeAll_inside d bs m a k (by omega)
    rw [Memory.readN, e, Nat.add_assoc, ih (k + 1) (by omega), List.drop_eq_getElem_cons (by omega : k < bs.length), List.take_succ_cons]

end Sys2Proof.Machine
end

