-- ==== Sys2Proof/Laws/Touch.lean ====
section
/-! SUPPORT. Which parts of the state each shared operation may change: `Touch m s t` says that from `s` to `t` only the parts in the set `m` change; one lemma per operation, `State.<op>_touch`, with the least such set as a number (bit n stands for the n-th part, in the order of the fields of `Touch`). -/

set_option linter.unusedTactic false
set_option linter.unreachableTactic false

namespace Sys2Proof.Machine

/-- Only the parts of the set `m` differ; the queue of commands does not. -/
structure Touch (m : Nat) (s t : State) : Prop where
  pending : t.pending = s.pending
  out : m &&& 1 = 0 → t.out = s.out
  freeCnt : m &&& 2 = 0 → t.freeCnt = s.freeCnt
  timers : m &&& 4 = 0 → t.timers = s.timers
  tbu : m &&& 8 = 0 → t.tbu = s.tbu
  power : m &&& 16 = 0 → t.power = s.power
  regf : m &&& 32 = 0 → t.regf = s.regf
  sheet : m &&& 64 = 0 → t.sheet = s.sheet
  sheetOld : m &&& 128 = 0 → t.sheetOld = s.sheetOld
  hlu : m &&& 256 = 0 → t.hlu = s.hlu
  qen : m &&& 512 = 0 → t.qen = s.qen
  tnu : m &&& 1024 = 0 → t.tnu = s.tnu
  gal : m &&& 2048 = 0 → t.gal = s.gal
  mxe : m &&& 4096 = 0 → t.mxe = s.mxe
  dsc : m &&& 8192 = 0 → t.dsc = s.dsc
  fca : m &&& 16384 = 0 → t.fca = s.fca
  cdx : m &&& 32768 = 0 → t.cdx = s.cdx
  spe : m &&& 65536 = 0 → t.spe = s.spe
  hum : m &&& 131072 = 0 → t.hum = s.hum
  bpm : m &&& 262144 = 0 → t.bpm = s.bpm
  dmc : m &&& 524288 = 0 → t.dmc = s.dmc
  ccl : m &&& 1048576 = 0 → t.ccl = s.ccl
  csu : m &&& 2097152 = 0 → t.csu = s.csu
  mgp : m &&& 4194304 = 0 → t.mgp = s.mgp
  cru : m &&& 8388608 = 0 → t.cru = s.cru

@[simp] theorem Touch.refl (m : Nat) (s : State) : Touch m s s := by constructor <;> intros <;> rfl

theorem Touch.trans {m : Nat} {s t u : State} (h : Touch m s t) (k : Touch m t u) : Touch m s u :=
  ⟨k.pending.trans h.pending,
    fun e => (k.out e).trans (h.out e),
    fun e => (k.freeCnt e).trans (h.freeCnt e),
    fun e => (k.timers e).trans (h.timers e),
    fun e => (k.tbu e).trans (h.tbu e),
    fun e => (k.power e).trans (h.power e),
    fun e => (k.regf e).trans (h.regf e),
    fun e => (k.sheet e).trans (h.sheet e),
    fun e => (k.sheetOld e).trans (h.sheetOld e),
    fun e => (k.hlu e).trans (h.hlu e),
    fun e => (k.qen e).trans (h.qen e),
    fun e => (k.tnu e).trans (h.tnu e),
    fun e => (k.gal e).trans (h.gal e),
    fun e => (k.mxe e).trans (h.mxe e),
    fun e => (k.dsc e).trans (h.dsc e),
    fun e => (k.fca e).trans (h.fca e),
    fun e => (k.cdx e).trans (h.cdx e),
    fun e => (k.spe e).trans (h.spe e),
    fun e => (k.hum e).trans (h.hum e),
    fun e => (k.bpm e).trans (h.bpm e),
    fun e => (k.dmc e).trans (h.dmc e),
    fun e => (k.ccl e).trans (h.ccl e),
    fun e => (k.csu e).trans (h.csu e),
    fun e => (k.mgp e).trans (h.mgp e),
    fun e => (k.cru e).trans (h.cru e)⟩

theorem mask_sub {m u b : Nat} (hm : m &&& u = u) (e : m &&& b = 0) : u &&& b = 0 := by
  rw [← hm, Nat.and_assoc, Nat.and_comm u b, ← Nat.and_assoc, e, Nat.zero_and]

theorem Touch.mono {m u : Nat} {s t : State} (k : Touch u s t) (hm : m &&& u = u) : Touch m s t :=
  ⟨k.pending,
    fun e => k.out (mask_sub hm e),
    fun e => k.freeCnt (mask_sub hm e),
    fun e => k.timers (mask_sub hm e),
    fun e => k.tbu (mask_sub hm e),
    fun e => k.power (mask_sub hm e),
    fun e => k.regf (mask_sub hm e),
    fun e => k.sheet (mask_sub hm e),
    fun e => k.sheetOld (mask_sub hm e),
    fun e => k.hlu (mask_sub hm e),
    fun e => k.qen (mask_sub hm e),
    fun e => k.tnu (mask_sub hm e),
    fun e => k.gal (mask_sub hm e),
    fun e => k.mxe (mask_sub hm e),
    fun e => k.dsc (mask_sub hm e),
    fun e => k.fca (mask_sub hm e),
    fun e => k.cdx (mask_sub hm e),
    fun e => k.spe (mask_sub hm e),
    fun e => k.hum (mask_sub hm e),
    fun e => k.bpm (mask_sub hm e),
    fun e => k.dmc (mask_sub hm e),
    fun e => k.ccl (mask_sub hm e),
    fun e => k.csu (mask_sub hm e),
    fun e => k.mgp (mask_sub hm e),
    fun e => k.cru (mask_sub hm e)⟩

/-- A part of the set after more of it. -/
theorem Touch.step {m u : Nat} {s₀ s t : State} (h : Touch m s₀ s) (hm : m &&& u = u) (k : Touch u s t) : Touch m s₀ t := h.trans (k.mono hm)

theorem Touch.frame {m : Nat} {s t : State} (h : Touch m s t) : t = { s with
    out := if m &&& 1 = 0 then s.out else t.out
    freeCnt := if m &&& 2 = 0 then s.freeCnt else t.freeCnt
    timers := if m &&& 4 = 0 then s.timers else t.timers
    tbu := if m &&& 8 = 0 then s.tbu else t.tbu
    power := if m &&& 16 = 0 then s.power else t.power
    regf := if m &&& 32 = 0 then s.regf else t.regf
    sheet := if m &&& 64 = 0 then s.sheet else t.sheet
    sheetOld := if m &&& 128 = 0 then s.sheetOld else t.sheetOld
    hlu := if m &&& 256 = 0 then s.hlu else t.hlu
    qen := if m &&& 512 = 0 then s.qen else t.qen
    tnu := if m &&& 1024 = 0 then s.tnu else t.tnu
    gal := if m &&& 2048 = 0 then s.gal else t.gal
    mxe := if m &&& 4096 = 0 then s.mxe else t.mxe
    dsc := if m &&& 8192 = 0 then s.dsc else t.dsc
    fca := if m &&& 16384 = 0 then s.fca else t.fca
    cdx := if m &&& 32768 = 0 then s.cdx else t.cdx
    spe := if m &&& 65536 = 0 then s.spe else t.spe
    hum := if m &&& 131072 = 0 then s.hum else t.hum
    bpm := if m &&& 262144 = 0 then s.bpm else t.bpm
    dmc := if m &&& 524288 = 0 then s.dmc else t.dmc
    ccl := if m &&& 1048576 = 0 then s.ccl else t.ccl
    csu := if m &&& 2097152 = 0 then s.csu else t.csu
    mgp := if m &&& 4194304 = 0 then s.mgp else t.mgp
    cru := if m &&& 8388608 = 0 then s.cru else t.cru
} := by
  obtain ⟨p, h0, h1, h2, h3, h4, h5, h6, h7, h8, h9, h10, h11, h12, h13, h14, h15, h16, h17, h18, h19, h20, h21, h22, h23⟩ := h
  cases s; cases t
  simp only [State.mk.injEq] at *
  and_intros
  · exact p
  all_goals split <;> simp_all

@[simp] theorem touch_ite {m : Nat} {c : Prop} [Decidable c] {s a b : State} (ha : Touch m s a) (hb : Touch m s b) : Touch m s (if c then a else b) := by
  split <;> assumption

theorem touch_foldl {α : Type} {m : Nat} (f : State → α → State) (l : List α) (s₀ s : State) (h₀ : Touch m s₀ s) (h : ∀ t x, Touch m t (f t x)) :
    Touch m s₀ (l.foldl f s) := by
  induction l generalizing s with
  | nil => exact h₀
  | cons a l ih => exact ih _ (h₀.trans (h s a))

@[simp] theorem touch_foldl' {α : Type} {m : Nat} (f : State → α → State) (l : List α) (s₀ s : State) (h : ∀ t x, Touch m t (f t x)) (h₀ : Touch m s₀ s) :
    Touch m s₀ (l.foldl f s) := touch_foldl f l s₀ s h₀ h

@[simp] theorem touch_modTimers {m : Nat} {s₀ s : State} (f : Timers → Timers) (hm : m &&& 4 = 4) (h : Touch m s₀ s) : Touch m s₀ (s.modTimers f) := by
  refine h.step hm ?_
  unfold State.modTimers
  constructor <;> first | rfl | (intro e; first | exact absurd e (by decide) | rfl)
@[simp] theorem touch_modTbu {m : Nat} {s₀ s : State} (f : Tbu → Tbu) (hm : m &&& 8 = 8) (h : Touch m s₀ s) : Touch m s₀ (s.modTbu f) := by
  refine h.step hm ?_
  unfold State.modTbu
  constructor <;> first | rfl | (intro e; first | exact absurd e (by decide) | rfl)
@[simp] theorem touch_modPower {m : Nat} {s₀ s : State} (f : Power → Power) (hm : m &&& 16 = 16) (h : Touch m s₀ s) : Touch m s₀ (s.modPower f) := by
  refine h.step hm ?_
  unfold State.modPower
  constructor <;> first | rfl | (intro e; first | exact absurd e (by decide) | rfl)
@[simp] theorem touch_modRegf {m : Nat} {s₀ s : State} (f : RegFile → RegFile) (hm : m &&& 32 = 32) (h : Touch m s₀ s) : Touch m s₀ (s.modRegf f) := by
  refine h.step hm ?_
  unfold State.modRegf
  constructor <;> first | rfl | (intro e; first | exact absurd e (by decide) | rfl)
@[simp] theorem touch_modHlu {m : Nat} {s₀ s : State} (f : Hlu → Hlu) (hm : m &&& 256 = 256) (h : Touch m s₀ s) : Touch m s₀ (s.modHlu f) := by
  refine h.step hm ?_
  unfold State.modHlu
  constructor <;> first | rfl | (intro e; first | exact absurd e (by decide) | rfl)
@[simp] theorem touch_modQen {m : Nat} {s₀ s : State} (f : Qen → Qen) (hm : m &&& 512 = 512) (h : Touch m s₀ s) : Touch m s₀ (s.modQen f) := by
  refine h.step hm ?_
  unfold State.modQen
  constructor <;> first | rfl | (intro e; first | exact absurd e (by decide) | rfl)
@[simp] theorem touch_modTnu {m : Nat} {s₀ s : State} (f : Tnu → Tnu) (hm : m &&& 1024 = 1024) (h : Touch m s₀ s) : Touch m s₀ (s.modTnu f) := by
  refine h.step hm ?_
  unfold State.modTnu
  constructor <;> first | rfl | (intro e; first | exact absurd e (by decide) | rfl)
@[simp] theorem touch_modGal {m : Nat} {s₀ s : State} (f : Gal → Gal) (hm : m &&& 2048 = 2048) (h : Touch m s₀ s) : Touch m s₀ (s.modGal f) := by
  refine h.step hm ?_
  unfold State.modGal
  constructor <;> first | rfl | (intro e; first | exact absurd e (by decide) | rfl)
@[simp] theorem touch_modMxe {m : Nat} {s₀ s : State} (f : Mxe → Mxe) (hm : m &&& 4096 = 4096) (h : Touch m s₀ s) : Touch m s₀ (s.modMxe f) := by
  refine h.step hm ?_
  unfold State.modMxe
  constructor <;> first | rfl | (intro e; first | exact absurd e (by decide) | rfl)
@[simp] theorem touch_modDsc {m : Nat} {s₀ s : State} (f : Dsc → Dsc) (hm : m &&& 8192 = 8192) (h : Touch m s₀ s) : Touch m s₀ (s.modDsc f) := by
  refine h.step hm ?_
  unfold State.modDsc
  constructor <;> first | rfl | (intro e; first | exact absurd e (by decide) | rfl)
@[simp] theorem touch_modFca {m : Nat} {s₀ s : State} (f : Fca → Fca) (hm : m &&& 16384 = 16384) (h : Touch m s₀ s) : Touch m s₀ (s.modFca f) := by
  refine h.step hm ?_
  unfold State.modFca
  constructor <;> first | rfl | (intro e; first | exact absurd e (by decide) | rfl)
@[simp] theorem touch_modCdx {m : Nat} {s₀ s : State} (f : Cdx → Cdx) (hm : m &&& 32768 = 32768) (h : Touch m s₀ s) : Touch m s₀ (s.modCdx f) := by
  refine h.step hm ?_
  unfold State.modCdx
  constructor <;> first | rfl | (intro e; first | exact absurd e (by decide) | rfl)
@[simp] theorem touch_modSpe {m : Nat} {s₀ s : State} (f : Spe → Spe) (hm : m &&& 65536 = 65536) (h : Touch m s₀ s) : Touch m s₀ (s.modSpe f) := by
  refine h.step hm ?_
  unfold State.modSpe
  constructor <;> first | rfl | (intro e; first | exact absurd e (by decide) | rfl)
@[simp] theorem touch_modHum {m : Nat} {s₀ s : State} (f : Hum → Hum) (hm : m &&& 131072 = 131072) (h : Touch m s₀ s) : Touch m s₀ (s.modHum f) := by
  refine h.step hm ?_
  unfold State.modHum
  constructor <;> first | rfl | (intro e; first | exact absurd e (by decide) | rfl)
@[simp] theorem touch_modBpm {m : Nat} {s₀ s : State} (f : Bpm → Bpm) (hm : m &&& 262144 = 262144) (h : Touch m s₀ s) : Touch m s₀ (s.modBpm f) := by
  refine h.step hm ?_
  unfold State.modBpm
  constructor <;> first | rfl | (intro e; first | exact absurd e (by decide) | rfl)
@[simp] theorem touch_modDmc {m : Nat} {s₀ s : State} (f : Dmc → Dmc) (hm : m &&& 524288 = 524288) (h : Touch m s₀ s) : Touch m s₀ (s.modDmc f) := by
  refine h.step hm ?_
  unfold State.modDmc
  constructor <;> first | rfl | (intro e; first | exact absurd e (by decide) | rfl)
@[simp] theorem touch_modCcl {m : Nat} {s₀ s : State} (f : Ccl → Ccl) (hm : m &&& 1048576 = 1048576) (h : Touch m s₀ s) : Touch m s₀ (s.modCcl f) := by
  refine h.step hm ?_
  unfold State.modCcl
  constructor <;> first | rfl | (intro e; first | exact absurd e (by decide) | rfl)
@[simp] theorem touch_modCsu {m : Nat} {s₀ s : State} (f : Csu → Csu) (hm : m &&& 2097152 = 2097152) (h : Touch m s₀ s) : Touch m s₀ (s.modCsu f) := by
  refine h.step hm ?_
  unfold State.modCsu
  constructor <;> first | rfl | (intro e; first | exact absurd e (by decide) | rfl)
@[simp] theorem touch_modMgp {m : Nat} {s₀ s : State} (f : Mgp → Mgp) (hm : m &&& 4194304 = 4194304) (h : Touch m s₀ s) : Touch m s₀ (s.modMgp f) := by
  refine h.step hm ?_
  unfold State.modMgp
  constructor <;> first | rfl | (intro e; first | exact absurd e (by decide) | rfl)
@[simp] theorem touch_modCru {m : Nat} {s₀ s : State} (f : Cru → Cru) (hm : m &&& 8388608 = 8388608) (h : Touch m s₀ s) : Touch m s₀ (s.modCru f) := by
  refine h.step hm ?_
  unfold State.modCru
  constructor <;> first | rfl | (intro e; first | exact absurd e (by decide) | rfl)
@[simp] theorem touch_setSheet {m : Nat} {s₀ s : State} (t : List (Nat × Nat)) (hm : m &&& 64 = 64) (h : Touch m s₀ s) : Touch m s₀ (s.setSheet t) := by
  refine h.step hm ?_
  unfold State.setSheet
  constructor <;> first | rfl | (intro e; first | exact absurd e (by decide) | rfl)
@[simp] theorem touch_setSheetOld {m : Nat} {s₀ s : State} (t : List (Nat × Option Nat)) (hm : m &&& 128 = 128) (h : Touch m s₀ s) : Touch m s₀ (s.setSheetOld t) := by
  refine h.step hm ?_
  unfold State.setSheetOld
  constructor <;> first | rfl | (intro e; first | exact absurd e (by decide) | rfl)
@[simp] theorem touch_emit {m : Nat} {s₀ s : State} (e : Emission) (hm : m &&& 1 = 1) (h : Touch m s₀ s) : Touch m s₀ (s.emit e) := by
  refine h.step hm ?_
  unfold State.emit
  constructor <;> first | rfl | (intro e; first | exact absurd e (by decide) | rfl)
@[simp] theorem touch_drawn {m : Nat} {s₀ s : State} (hm : m &&& 2 = 2) (h : Touch m s₀ s) : Touch m s₀ (s.drawn) := by
  refine h.step hm ?_
  unfold State.drawn
  constructor <;> first | rfl | (intro e; first | exact absurd e (by decide) | rfl)
@[simp] theorem touch_putSheet {m : Nat} {s₀ s : State} (o : Obj) (index sub v : Nat) (hm : m &&& 192 = 192) (h : Touch m s₀ s) : Touch m s₀ (s.putSheet o index sub v) := by
  refine h.step hm ?_
  unfold State.putSheet
  constructor <;> first | rfl | (intro e; first | exact absurd e (by decide) | rfl)
@[simp] theorem touch_setObj {m : Nat} {s₀ s : State} (o : Obj) (v : Nat) (hm : m &&& 64 = 64) (h : Touch m s₀ s) : Touch m s₀ (s.setObj o v) := by
  refine h.step hm ?_
  unfold State.setObj
  constructor <;> first | rfl | (intro e; first | exact absurd e (by decide) | rfl)
@[simp] theorem touch_setFld {m : Nat} {s₀ s : State} (f : Field) (inst v : Nat) (hm : m &&& 32 = 32) (h : Touch m s₀ s) : Touch m s₀ (s.setFld f inst v) := by
  refine h.step hm ?_
  unfold State.setFld
  constructor <;> first | rfl | (intro e; first | exact absurd e (by decide) | rfl)
@[simp] theorem touch_count {m : Nat} {s₀ s : State} (f : Field) (inst n : Nat) (hm : m &&& 32 = 32) (h : Touch m s₀ s) : Touch m s₀ (s.count f inst n) := by
  refine h.step hm ?_
  unfold State.count
  constructor <;> first | rfl | (intro e; first | exact absurd e (by decide) | rfl)
@[simp] theorem touch_flag {m : Nat} {s₀ s : State} (f : Field) (inst mask : Nat) (hm : m &&& 32 = 32) (h : Touch m s₀ s) : Touch m s₀ (s.flag f inst mask) := by
  refine h.step hm ?_
  unfold State.flag
  constructor <;> first | rfl | (intro e; first | exact absurd e (by decide) | rfl)

@[simp] theorem State.sample_touch (n : Nat) (s : State) {m : Nat} (hm : m &&& 8 = 8) {s₀ : State} (h₀ : Touch m s₀ s) : Touch m s₀ (State.sample n s) := by
  refine h₀.step hm ?_
  clear h₀ hm
  unfold State.sample
  (repeat' (first | (simp (maxDischargeDepth := 60) [*]; done) | split | dsimp only | (apply touch_foldl _ _ _ _ (by simp (maxDischargeDepth := 60) [*]); intro t x; try simp only)))
@[simp] theorem State.raiseExc_touch (unit inst kind arg : Nat) (s : State) {m : Nat} (hm : m &&& 1048576 = 1048576) {s₀ : State} (h₀ : Touch m s₀ s) : Touch m s₀ (State.raiseExc unit inst kind arg s) := by
  refine h₀.step hm ?_
  clear h₀ hm
  unfold State.raiseExc
  (repeat' (first | (simp (maxDischargeDepth := 60) [*]; done) | split | dsimp only | (apply touch_foldl _ _ _ _ (by simp (maxDischargeDepth := 60) [*]); intro t x; try simp only)))
@[simp] theorem State.trigger_touch (code unit inst : Nat) (arg : Dword) (s : State) {m : Nat} (hm : m &&& 8388640 = 8388640) {s₀ : State} (h₀ : Touch m s₀ s) : Touch m s₀ (State.trigger code unit inst arg s) := by
  refine h₀.step hm ?_
  clear h₀ hm
  unfold State.trigger
  (repeat' (first | (simp (maxDischargeDepth := 60) [*]; done) | split | dsimp only | (apply touch_foldl _ _ _ _ (by simp (maxDischargeDepth := 60) [*]); intro t x; try simp only)))
@[simp] theorem State.modCtx_touch (c : Nat) (f : Ctx → Ctx) (s : State) {m : Nat} (hm : m &&& 512 = 512) {s₀ : State} (h₀ : Touch m s₀ s) : Touch m s₀ (State.modCtx c f s) := by
  refine h₀.step hm ?_
  clear h₀ hm
  unfold State.modCtx
  (repeat' (first | (simp (maxDischargeDepth := 60) [*]; done) | split | dsimp only | (apply touch_foldl _ _ _ _ (by simp (maxDischargeDepth := 60) [*]); intro t x; try simp only)))
@[simp] theorem State.finish_touch (c status : Nat) (s : State) {m : Nat} (hm : m &&& 512 = 512) {s₀ : State} (h₀ : Touch m s₀ s) : Touch m s₀ (State.finish c status s) := by
  refine h₀.step hm ?_
  clear h₀ hm
  unfold State.finish
  (repeat' (first | (simp (maxDischargeDepth := 60) [*]; done) | split | dsimp only | (apply touch_foldl _ _ _ _ (by simp (maxDischargeDepth := 60) [*]); intro t x; try simp only)))
@[simp] theorem State.giveEvent_touch (fn : Nat) (s : State) {m : Nat} (hm : m &&& 512 = 512) {s₀ : State} (h₀ : Touch m s₀ s) : Touch m s₀ (State.giveEvent fn s) := by
  refine h₀.step hm ?_
  clear h₀ hm
  unfold State.giveEvent
  (repeat' (first | (simp (maxDischargeDepth := 60) [*]; done) | split | dsimp only | (apply touch_foldl _ _ _ _ (by simp (maxDischargeDepth := 60) [*]); intro t x; try simp only)))
@[simp] theorem State.asyncEvent_touch (fn : Nat) (e : AsyncEvent) (s : State) {m : Nat} (hm : m &&& 512 = 512) {s₀ : State} (h₀ : Touch m s₀ s) : Touch m s₀ (State.asyncEvent fn e s) := by
  refine h₀.step hm ?_
  clear h₀ hm
  unfold State.asyncEvent
  (repeat' (first | (simp (maxDischargeDepth := 60) [*]; done) | split | dsimp only | (apply touch_foldl _ _ _ _ (by simp (maxDischargeDepth := 60) [*]); intro t x; try simp only)))
@[simp] theorem State.asyncAll_touch (e : AsyncEvent) (s : State) {m : Nat} (hm : m &&& 512 = 512) {s₀ : State} (h₀ : Touch m s₀ s) : Touch m s₀ (State.asyncAll e s) := by
  refine h₀.step hm ?_
  clear h₀ hm
  unfold State.asyncAll
  (repeat' (first | (simp (maxDischargeDepth := 60) [*]; done) | split | dsimp only | (apply touch_foldl _ _ _ _ (by simp (maxDischargeDepth := 60) [*]); intro t x; try simp only)))
@[simp] theorem State.criticalWarn_touch (bit info : Nat) (s : State) {m : Nat} (hm : m &&& 512 = 512) {s₀ : State} (h₀ : Touch m s₀ s) : Touch m s₀ (State.criticalWarn bit info s) := by
  refine h₀.step hm ?_
  clear h₀ hm
  unfold State.criticalWarn
  (repeat' (first | (simp (maxDischargeDepth := 60) [*]; done) | split | dsimp only | (apply touch_foldl _ _ _ _ (by simp (maxDischargeDepth := 60) [*]); intro t x; try simp only)))
@[simp] theorem State.logHealth_touch (code unit : Nat) (s : State) {m : Nat} (hm : m &&& 4194304 = 4194304) {s₀ : State} (h₀ : Touch m s₀ s) : Touch m s₀ (State.logHealth code unit s) := by
  refine h₀.step hm ?_
  clear h₀ hm
  unfold State.logHealth
  (repeat' (first | (simp (maxDischargeDepth := 60) [*]; done) | split | dsimp only | (apply touch_foldl _ _ _ _ (by simp (maxDischargeDepth := 60) [*]); intro t x; try simp only)))
@[simp] theorem State.tellHealth_touch (code unit : Nat) (r : EventRecord) (s : State) {m : Nat} (hm : m &&& 8389153 = 8389153) {s₀ : State} (h₀ : Touch m s₀ s) : Touch m s₀ (State.tellHealth code unit r s) := by
  refine h₀.step hm ?_
  clear h₀ hm
  unfold State.tellHealth
  (repeat' (first | (simp (maxDischargeDepth := 60) [*]; done) | split | dsimp only | (apply touch_foldl _ _ _ _ (by simp (maxDischargeDepth := 60) [*]); intro t x; try simp only)))
@[simp] theorem State.health_touch (code unit : Nat) (s : State) {m : Nat} (hm : m &&& 12583457 = 12583457) {s₀ : State} (h₀ : Touch m s₀ s) : Touch m s₀ (State.health code unit s) := by
  refine h₀.step hm ?_
  clear h₀ hm
  unfold State.health
  (repeat' (first | (simp (maxDischargeDepth := 60) [*]; done) | split | dsimp only | (apply touch_foldl _ _ _ _ (by simp (maxDischargeDepth := 60) [*]); intro t x; try simp only)))
@[simp] theorem State.healthClear_touch (code : Nat) (s : State) {m : Nat} (hm : m &&& 4194304 = 4194304) {s₀ : State} (h₀ : Touch m s₀ s) : Touch m s₀ (State.healthClear code s) := by
  refine h₀.step hm ?_
  clear h₀ hm
  unfold State.healthClear
  (repeat' (first | (simp (maxDischargeDepth := 60) [*]; done) | split | dsimp only | (apply touch_foldl _ _ _ _ (by simp (maxDischargeDepth := 60) [*]); intro t x; try simp only)))
@[simp] theorem State.healthLevel_touch (code unit : Nat) (on : Bool) (s : State) {m : Nat} (hm : m &&& 12583457 = 12583457) {s₀ : State} (h₀ : Touch m s₀ s) : Touch m s₀ (State.healthLevel code unit on s) := by
  refine h₀.step hm ?_
  clear h₀ hm
  unfold State.healthLevel
  (repeat' (first | (simp (maxDischargeDepth := 60) [*]; done) | split | dsimp only | (apply touch_foldl _ _ _ _ (by simp (maxDischargeDepth := 60) [*]); intro t x; try simp only)))
@[simp] theorem State.addValid_touch (e : MapEntry) (n : Int) (s : State) {m : Nat} (hm : m &&& 4096 = 4096) {s₀ : State} (h₀ : Touch m s₀ s) : Touch m s₀ (State.addValid e n s) := by
  refine h₀.step hm ?_
  clear h₀ hm
  unfold State.addValid
  (repeat' (first | (simp (maxDischargeDepth := 60) [*]; done) | split | dsimp only | (apply touch_foldl _ _ _ _ (by simp (maxDischargeDepth := 60) [*]); intro t x; try simp only)))
@[simp] theorem State.setEntry_touch (nsid g : Nat) (e : MapEntry) (s : State) {m : Nat} (hm : m &&& 4096 = 4096) {s₀ : State} (h₀ : Touch m s₀ s) : Touch m s₀ (State.setEntry nsid g e s) := by
  refine h₀.step hm ?_
  clear h₀ hm
  unfold State.setEntry
  (repeat' (first | (simp (maxDischargeDepth := 60) [*]; done) | split | dsimp only | (apply touch_foldl _ _ _ _ (by simp (maxDischargeDepth := 60) [*]); intro t x; try simp only)))
@[simp] theorem State.spareEvents_touch (s : State) {m : Nat} (hm : m &&& 12587553 = 12587553) {s₀ : State} (h₀ : Touch m s₀ s) : Touch m s₀ (State.spareEvents s) := by
  refine h₀.step hm ?_
  clear h₀ hm
  unfold State.spareEvents
  (repeat' (first | (simp (maxDischargeDepth := 60) [*]; done) | split | dsimp only | (apply touch_foldl _ _ _ _ (by simp (maxDischargeDepth := 60) [*]); intro t x; try simp only)))
@[simp] theorem State.retireBlock_touch (die sb cause psn : Nat) (s : State) {m : Nat} (hm : m &&& 12587553 = 12587553) {s₀ : State} (h₀ : Touch m s₀ s) : Touch m s₀ (State.retireBlock die sb cause psn s) := by
  refine h₀.step hm ?_
  clear h₀ hm
  unfold State.retireBlock
  (repeat' (first | (simp (maxDischargeDepth := 60) [*]; done) | split | dsimp only | (apply touch_foldl _ _ _ _ (by simp (maxDischargeDepth := 60) [*]); intro t x; try simp only)))
@[simp] theorem State.bumpBlock_touch (key : Nat) (s : State) {m : Nat} (hm : m &&& 4096 = 4096) {s₀ : State} (h₀ : Touch m s₀ s) : Touch m s₀ (State.bumpBlock key s) := by
  refine h₀.step hm ?_
  clear h₀ hm
  unfold State.bumpBlock
  (repeat' (first | (simp (maxDischargeDepth := 60) [*]; done) | split | dsimp only | (apply touch_foldl _ _ _ _ (by simp (maxDischargeDepth := 60) [*]); intro t x; try simp only)))
@[simp] theorem State.lostAdd_touch (nsid first count cause : Nat) (s : State) {m : Nat} (hm : m &&& 8454176 = 8454176) {s₀ : State} (h₀ : Touch m s₀ s) : Touch m s₀ (State.lostAdd nsid first count cause s) := by
  refine h₀.step hm ?_
  clear h₀ hm
  unfold State.lostAdd
  (repeat' (first | (simp (maxDischargeDepth := 60) [*]; done) | split | dsimp only | (apply touch_foldl _ _ _ _ (by simp (maxDischargeDepth := 60) [*]); intro t x; try simp only)))
@[simp] theorem State.lostHeal_touch (nsid first count : Nat) (s : State) {m : Nat} (hm : m &&& 65536 = 65536) {s₀ : State} (h₀ : Touch m s₀ s) : Touch m s₀ (State.lostHeal nsid first count s) := by
  refine h₀.step hm ?_
  clear h₀ hm
  unfold State.lostHeal
  (repeat' (first | (simp (maxDischargeDepth := 60) [*]; done) | split | dsimp only | (apply touch_foldl _ _ _ _ (by simp (maxDischargeDepth := 60) [*]); intro t x; try simp only)))
@[simp] theorem State.lostDrop_touch (nsid : Nat) (s : State) {m : Nat} (hm : m &&& 65536 = 65536) {s₀ : State} (h₀ : Touch m s₀ s) : Touch m s₀ (State.lostDrop nsid s) := by
  refine h₀.step hm ?_
  clear h₀ hm
  unfold State.lostDrop
  (repeat' (first | (simp (maxDischargeDepth := 60) [*]; done) | split | dsimp only | (apply touch_foldl _ _ _ _ (by simp (maxDischargeDepth := 60) [*]); intro t x; try simp only)))
@[simp] theorem State.relocate_touch (nsid g : Nat) (src : Loc) (cls : OpClass) (high : Bool) (s : State) {m : Nat} (hm : m &&& 4096 = 4096) {s₀ : State} (h₀ : Touch m s₀ s) : Touch m s₀ (State.relocate nsid g src cls high s) := by
  refine h₀.step hm ?_
  clear h₀ hm
  unfold State.relocate
  (repeat' (first | (simp (maxDischargeDepth := 60) [*]; done) | split | dsimp only | (apply touch_foldl _ _ _ _ (by simp (maxDischargeDepth := 60) [*]); intro t x; try simp only)))
@[simp] theorem State.queueCopies_touch (band : Band) (s : State) {m : Nat} (hm : m &&& 4096 = 4096) {s₀ : State} (h₀ : Touch m s₀ s) : Touch m s₀ (State.queueCopies band s) := by
  refine h₀.step hm ?_
  clear h₀ hm
  unfold State.queueCopies
  (repeat' (first | (simp (maxDischargeDepth := 60) [*]; done) | split | dsimp only | (apply touch_foldl _ _ _ _ (by simp (maxDischargeDepth := 60) [*]); intro t x; try simp only)))
@[simp] theorem State.makeVictim_touch (b : Nat) (cls : OpClass) (s : State) {m : Nat} (hm : m &&& 4096 = 4096) {s₀ : State} (h₀ : Touch m s₀ s) : Touch m s₀ (State.makeVictim b cls s) := by
  refine h₀.step hm ?_
  clear h₀ hm
  unfold State.makeVictim
  (repeat' (first | (simp (maxDischargeDepth := 60) [*]; done) | split | dsimp only | (apply touch_foldl _ _ _ _ (by simp (maxDischargeDepth := 60) [*]); intro t x; try simp only)))
@[simp] theorem State.padBand_touch (b : Nat) (cls : OpClass) (s : State) {m : Nat} (hm : m &&& 4096 = 4096) {s₀ : State} (h₀ : Touch m s₀ s) : Touch m s₀ (State.padBand b cls s) := by
  refine h₀.step hm ?_
  clear h₀ hm
  unfold State.padBand
  (repeat' (first | (simp (maxDischargeDepth := 60) [*]; done) | split | dsimp only | (apply touch_foldl _ _ _ _ (by simp (maxDischargeDepth := 60) [*]); intro t x; try simp only)))
@[simp] theorem State.chooseVictim_touch (b : Nat) (cls : OpClass) (s : State) {m : Nat} (hm : m &&& 4096 = 4096) {s₀ : State} (h₀ : Touch m s₀ s) : Touch m s₀ (State.chooseVictim b cls s) := by
  refine h₀.step hm ?_
  clear h₀ hm
  unfold State.chooseVictim
  (repeat' (first | (simp (maxDischargeDepth := 60) [*]; done) | split | dsimp only | (apply touch_foldl _ _ _ _ (by simp (maxDischargeDepth := 60) [*]); intro t x; try simp only)))
@[simp] theorem State.nandCmd_touch (die : Nat) (c : NandCmd) (s : State) (k : OpKind := .read) (planes : Nat := 1) {m : Nat} (hm : m &&& 16385 = 16385) {s₀ : State} (h₀ : Touch m s₀ s) : Touch m s₀ (State.nandCmd die c s k planes) := by
  refine h₀.step hm ?_
  clear h₀ hm
  unfold State.nandCmd
  (repeat' (first | (simp (maxDischargeDepth := 60) [*]; done) | split | dsimp only | (apply touch_foldl _ _ _ _ (by simp (maxDischargeDepth := 60) [*]); intro t x; try simp only)))
@[simp] theorem State.modOp_touch (i : Nat) (f : DieOp → DieOp) (s : State) {m : Nat} (hm : m &&& 8192 = 8192) {s₀ : State} (h₀ : Touch m s₀ s) : Touch m s₀ (State.modOp i f s) := by
  refine h₀.step hm ?_
  clear h₀ hm
  unfold State.modOp
  (repeat' (first | (simp (maxDischargeDepth := 60) [*]; done) | split | dsimp only | (apply touch_foldl _ _ _ _ (by simp (maxDischargeDepth := 60) [*]); intro t x; try simp only)))
@[simp] theorem State.modDie_touch (n : Nat) (f : Die → Die) (s : State) {m : Nat} (hm : m &&& 8192 = 8192) {s₀ : State} (h₀ : Touch m s₀ s) : Touch m s₀ (State.modDie n f s) := by
  refine h₀.step hm ?_
  clear h₀ hm
  unfold State.modDie
  (repeat' (first | (simp (maxDischargeDepth := 60) [*]; done) | split | dsimp only | (apply touch_foldl _ _ _ _ (by simp (maxDischargeDepth := 60) [*]); intro t x; try simp only)))
@[simp] theorem State.fillSlots_touch (n k : Nat) (s : State) {m : Nat} (hm : m &&& 8192 = 8192) {s₀ : State} (h₀ : Touch m s₀ s) : Touch m s₀ (State.fillSlots n k s) := by
  refine h₀.step hm ?_
  clear h₀ hm
  induction k generalizing s with
  | zero => simp [State.fillSlots]
  | succ k ih =>
    unfold State.fillSlots
    split
    · exact Touch.trans (by simp) (ih _)
    · simp
@[simp] theorem State.fill_touch (n : Nat) (s : State) {m : Nat} (hm : m &&& 8192 = 8192) {s₀ : State} (h₀ : Touch m s₀ s) : Touch m s₀ (State.fill n s) := by
  refine h₀.step hm ?_
  clear h₀ hm
  unfold State.fill
  (repeat' (first | (simp (maxDischargeDepth := 60) [*]; done) | split | dsimp only | (apply touch_foldl _ _ _ _ (by simp (maxDischargeDepth := 60) [*]); intro t x; try simp only)))
@[simp] theorem State.submitOp_touch (r : OpRequest) (why : OpFor) (pages : List (Nat × Nat)) (slots : List PlaceSlot) (band : Nat) (s : State) {m : Nat} (hm : m &&& 8192 = 8192) {s₀ : State} (h₀ : Touch m s₀ s) : Touch m s₀ (State.submitOp r why pages slots band s) := by
  refine h₀.step hm ?_
  clear h₀ hm
  unfold State.submitOp
  (repeat' (first | (simp (maxDischargeDepth := 60) [*]; done) | split | dsimp only | (apply touch_foldl _ _ _ _ (by simp (maxDischargeDepth := 60) [*]); intro t x; try simp only)))
@[simp] theorem State.dropOp_touch (n i : Nat) (s : State) {m : Nat} (hm : m &&& 8192 = 8192) {s₀ : State} (h₀ : Touch m s₀ s) : Touch m s₀ (State.dropOp n i s) := by
  refine h₀.step hm ?_
  clear h₀ hm
  unfold State.dropOp
  (repeat' (first | (simp (maxDischargeDepth := 60) [*]; done) | split | dsimp only | (apply touch_foldl _ _ _ _ (by simp (maxDischargeDepth := 60) [*]); intro t x; try simp only)))
@[simp] theorem State.rePlace_touch (i : Nat) (x : PlaceSlot) (s : State) {m : Nat} (hm : m &&& 4096 = 4096) {s₀ : State} (h₀ : Touch m s₀ s) : Touch m s₀ (State.rePlace i x s) := by
  refine h₀.step hm ?_
  clear h₀ hm
  unfold State.rePlace
  (repeat' (first | (simp (maxDischargeDepth := 60) [*]; done) | split | dsimp only | (apply touch_foldl _ _ _ _ (by simp (maxDischargeDepth := 60) [*]); intro t x; try simp only)))
@[simp] theorem State.rePlaceAll_touch (i : Nat) (slots : List PlaceSlot) (s : State) {m : Nat} (hm : m &&& 4096 = 4096) {s₀ : State} (h₀ : Touch m s₀ s) : Touch m s₀ (State.rePlaceAll i slots s) := by
  refine h₀.step hm ?_
  clear h₀ hm
  unfold State.rePlaceAll
  (repeat' (first | (simp (maxDischargeDepth := 60) [*]; done) | split | dsimp only | (apply touch_foldl _ _ _ _ (by simp (maxDischargeDepth := 60) [*]); intro t x; try simp only)))
@[simp] theorem State.memberErased_touch (b die : Nat) (s : State) {m : Nat} (hm : m &&& 4096 = 4096) {s₀ : State} (h₀ : Touch m s₀ s) : Touch m s₀ (State.memberErased b die s) := by
  refine h₀.step hm ?_
  clear h₀ hm
  unfold State.memberErased
  (repeat' (first | (simp (maxDischargeDepth := 60) [*]; done) | split | dsimp only | (apply touch_foldl _ _ _ _ (by simp (maxDischargeDepth := 60) [*]); intro t x; try simp only)))
@[simp] theorem State.returnFail_touch (i : Nat) (o : DieOp) (s : State) {m : Nat} (hm : m &&& 36864 = 36864) {s₀ : State} (h₀ : Touch m s₀ s) : Touch m s₀ (State.returnFail i o s) := by
  refine h₀.step hm ?_
  clear h₀ hm
  unfold State.returnFail
  (repeat' (first | (simp (maxDischargeDepth := 60) [*]; done) | split | dsimp only | (apply touch_foldl _ _ _ _ (by simp (maxDischargeDepth := 60) [*]); intro t x; try simp only)))
@[simp] theorem State.stripeLogged_touch (s : State) {m : Nat} (hm : m &&& 65536 = 65536) {s₀ : State} (h₀ : Touch m s₀ s) : Touch m s₀ (State.stripeLogged s) := by
  refine h₀.step hm ?_
  clear h₀ hm
  unfold State.stripeLogged
  (repeat' (first | (simp (maxDischargeDepth := 60) [*]; done) | split | dsimp only | (apply touch_foldl _ _ _ _ (by simp (maxDischargeDepth := 60) [*]); intro t x; try simp only)))
@[simp] theorem State.submitParity_touch (x : Stripe) (b : Band) (i : Nat) (q : Bool) (payload : Nat) (cls : OpClass) (s : State) {m : Nat} (hm : m &&& 8192 = 8192) {s₀ : State} (h₀ : Touch m s₀ s) : Touch m s₀ (State.submitParity x b i q payload cls s) := by
  refine h₀.step hm ?_
  clear h₀ hm
  unfold State.submitParity
  (repeat' (first | (simp (maxDischargeDepth := 60) [*]; done) | split | dsimp only | (apply touch_foldl _ _ _ _ (by simp (maxDischargeDepth := 60) [*]); intro t x; try simp only)))
@[simp] theorem State.sealStripe_touch (x : Stripe) (b : Band) (cls : OpClass) (s : State) {m : Nat} (hm : m &&& 73728 = 73728) {s₀ : State} (h₀ : Touch m s₀ s) : Touch m s₀ (State.sealStripe x b cls s) := by
  refine h₀.step hm ?_
  clear h₀ hm
  unfold State.sealStripe
  (repeat' (first | (simp (maxDischargeDepth := 60) [*]; done) | split | dsimp only | (apply touch_foldl _ _ _ _ (by simp (maxDischargeDepth := 60) [*]); intro t x; try simp only)))
@[simp] theorem State.stripeIssue_touch (band : Nat) (b : Band) (mb : Nat × Nat) (block page psn payload : Nat) (cls : OpClass) (s : State) {m : Nat} (hm : m &&& 73760 = 73760) {s₀ : State} (h₀ : Touch m s₀ s) : Touch m s₀ (State.stripeIssue band b mb block page psn payload cls s) := by
  refine h₀.step hm ?_
  clear h₀ hm
  unfold State.stripeIssue
  (repeat' (first | (simp (maxDischargeDepth := 60) [*]; done) | split | dsimp only | (apply touch_foldl _ _ _ _ (by simp (maxDischargeDepth := 60) [*]); intro t x; try simp only)))
@[simp] theorem State.releaseStripes_touch (band : Nat) (s : State) {m : Nat} (hm : m &&& 65536 = 65536) {s₀ : State} (h₀ : Touch m s₀ s) : Touch m s₀ (State.releaseStripes band s) := by
  refine h₀.step hm ?_
  clear h₀ hm
  unfold State.releaseStripes
  (repeat' (first | (simp (maxDischargeDepth := 60) [*]; done) | split | dsimp only | (apply touch_foldl _ _ _ _ (by simp (maxDischargeDepth := 60) [*]); intro t x; try simp only)))
@[simp] theorem State.stripeGood_touch (band : Nat) (b : Band) (mb : Nat × Nat) (block page : Nat) (s : State) {m : Nat} (hm : m &&& 65536 = 65536) {s₀ : State} (h₀ : Touch m s₀ s) : Touch m s₀ (State.stripeGood band b mb block page s) := by
  refine h₀.step hm ?_
  clear h₀ hm
  unfold State.stripeGood
  (repeat' (first | (simp (maxDischargeDepth := 60) [*]; done) | split | dsimp only | (apply touch_foldl _ _ _ _ (by simp (maxDischargeDepth := 60) [*]); intro t x; try simp only)))
@[simp] theorem State.stripeFail_touch (_band : Nat) (b : Band) (mb : Nat × Nat) (block page payload : Nat) (isParity : Bool) (s : State) {m : Nat} (hm : m &&& 77824 = 77824) {s₀ : State} (h₀ : Touch m s₀ s) : Touch m s₀ (State.stripeFail _band b mb block page payload isParity s) := by
  refine h₀.step hm ?_
  clear h₀ hm
  unfold State.stripeFail
  (repeat' (first | (simp (maxDischargeDepth := 60) [*]; done) | split | dsimp only | (apply touch_foldl _ _ _ _ (by simp (maxDischargeDepth := 60) [*]); intro t x; try simp only)))
@[simp] theorem State.sjLose_touch (a b c : Bool) (s : State) {m : Nat} (hm : m &&& 8454176 = 8454176) {s₀ : State} (h₀ : Touch m s₀ s) : Touch m s₀ (State.sjLose a b c s) := by
  refine h₀.step hm ?_
  clear h₀ hm
  unfold State.sjLose
  (repeat' (first | (simp (maxDischargeDepth := 60) [*]; done) | split | dsimp only | (apply touch_foldl _ _ _ _ (by simp (maxDischargeDepth := 60) [*]); intro t x; try simp only)))
@[simp] theorem State.sjRestore_touch (s : State) {m : Nat} (hm : m &&& 65536 = 65536) {s₀ : State} (h₀ : Touch m s₀ s) : Touch m s₀ (State.sjRestore s) := by
  refine h₀.step hm ?_
  clear h₀ hm
  unfold State.sjRestore
  (repeat' (first | (simp (maxDischargeDepth := 60) [*]; done) | split | dsimp only | (apply touch_foldl _ _ _ _ (by simp (maxDischargeDepth := 60) [*]); intro t x; try simp only)))
@[simp] theorem State.beginDumpPage_touch (r : DumpRun) (d n : Nat) (s : State) {m : Nat} (hm : m &&& 10645537 = 10645537) {s₀ : State} (h₀ : Touch m s₀ s) : Touch m s₀ (State.beginDumpPage r d n s) := by
  refine h₀.step hm ?_
  clear h₀ hm
  unfold State.beginDumpPage
  (repeat' (first | (simp (maxDischargeDepth := 60) [*]; done) | split | dsimp only | (apply touch_foldl _ _ _ _ (by simp (maxDischargeDepth := 60) [*]); intro t x; try simp only)))
@[simp] theorem State.dumpOpStart_touch (r : DumpRun) (d : Nat) (s : State) {m : Nat} (hm : m &&& 10645537 = 10645537) {s₀ : State} (h₀ : Touch m s₀ s) : Touch m s₀ (State.dumpOpStart r d s) := by
  refine h₀.step hm ?_
  clear h₀ hm
  unfold State.dumpOpStart
  (repeat' (first | (simp (maxDischargeDepth := 60) [*]; done) | split | dsimp only | (apply touch_foldl _ _ _ _ (by simp (maxDischargeDepth := 60) [*]); intro t x; try simp only)))
@[simp] theorem State.dumpEnded_touch (d n : Nat) (good : Bool) (s : State) {m : Nat} (hm : m &&& 131072 = 131072) {s₀ : State} (h₀ : Touch m s₀ s) : Touch m s₀ (State.dumpEnded d n good s) := by
  refine h₀.step hm ?_
  clear h₀ hm
  unfold State.dumpEnded
  (repeat' (first | (simp (maxDischargeDepth := 60) [*]; done) | split | dsimp only | (apply touch_foldl _ _ _ _ (by simp (maxDischargeDepth := 60) [*]); intro t x; try simp only)))
@[simp] theorem State.submitData_touch (n : Nat) (b : Band) (r : OpRequest) (s : State) {m : Nat} (hm : m &&& 12288 = 12288) {s₀ : State} (h₀ : Touch m s₀ s) : Touch m s₀ (State.submitData n b r s) := by
  refine h₀.step hm ?_
  clear h₀ hm
  unfold State.submitData
  (repeat' (first | (simp (maxDischargeDepth := 60) [*]; done) | split | dsimp only | (apply touch_foldl _ _ _ _ (by simp (maxDischargeDepth := 60) [*]); intro t x; try simp only)))
@[simp] theorem State.openBand_touch (r : OpRequest) (s : State) {m : Nat} (hm : m &&& 12288 = 12288) {s₀ : State} (h₀ : Touch m s₀ s) : Touch m s₀ (State.openBand r s) := by
  refine h₀.step hm ?_
  clear h₀ hm
  unfold State.openBand
  (repeat' (first | (simp (maxDischargeDepth := 60) [*]; done) | split | dsimp only | (apply touch_foldl _ _ _ _ (by simp (maxDischargeDepth := 60) [*]); intro t x; try simp only)))
@[simp] theorem State.bandFilled_touch (n : Nat) (s : State) {m : Nat} (hm : m &&& 12288 = 12288) {s₀ : State} (h₀ : Touch m s₀ s) : Touch m s₀ (State.bandFilled n s) := by
  refine h₀.step hm ?_
  clear h₀ hm
  unfold State.bandFilled
  (repeat' (first | (simp (maxDischargeDepth := 60) [*]; done) | split | dsimp only | (apply touch_foldl _ _ _ _ (by simp (maxDischargeDepth := 60) [*]); intro t x; try simp only)))
theorem State.sysOpen_touch (dA dB : Nat) (s t : State) (n : Nat) (h : State.sysOpen dA dB s = some (t, n)) : Touch 4096 s t := by
  unfold State.sysOpen at h
  split at h
  · split at h
    · simp only [Option.some.injEq, Prod.mk.injEq] at h
      rw [← h.1]
      simp
    · cases h
  · cases h
theorem State.sysBandFor_touch (cur : Option Nat) (dA dB : Nat) (s t : State) (n : Nat) (h : State.sysBandFor cur dA dB s = some (t, n)) : Touch 12288 s t := by
  unfold State.sysBandFor at h
  split at h
  · split at h
    · simp only [Option.some.injEq, Prod.mk.injEq] at h
      rw [← h.1]
      exact Touch.refl _ _
    · exact (State.sysOpen_touch _ _ _ _ _ h).mono (by decide)
  · exact (State.sysOpen_touch _ _ _ _ _ h).mono (by decide)
@[simp] theorem State.sysTake_touch (n : Nat) (s : State) {m : Nat} (hm : m &&& 12288 = 12288) {s₀ : State} (h₀ : Touch m s₀ s) : Touch m s₀ (State.sysTake n s) := by
  refine h₀.step hm ?_
  clear h₀ hm
  unfold State.sysTake
  (repeat' (first | (simp (maxDischargeDepth := 60) [*]; done) | split | dsimp only | (apply touch_foldl _ _ _ _ (by simp (maxDischargeDepth := 60) [*]); intro t x; try simp only)))
@[simp] theorem State.sysPut_touch (l : Loc) (b : Band) (psn : Nat) (cells : List SlotCell) (s : State) {m : Nat} (hm : m &&& 4096 = 4096) {s₀ : State} (h₀ : Touch m s₀ s) : Touch m s₀ (State.sysPut l b psn cells s) := by
  refine h₀.step hm ?_
  clear h₀ hm
  unfold State.sysPut
  (repeat' (first | (simp (maxDischargeDepth := 60) [*]; done) | split | dsimp only | (apply touch_foldl _ _ _ _ (by simp (maxDischargeDepth := 60) [*]); intro t x; try simp only)))
theorem State.sysWrite_touch (cells : List SlotCell) (s t : State) (l : Loc) (h : State.sysWrite cells s = some (t, l)) : Touch 12288 s t := by
  unfold State.sysWrite at h
  dsimp only at h
  split at h
  · rename_i u n hb
    simp only [Option.bind_eq_some_iff] at hb
    obtain ⟨a, -, hb⟩ := hb
    have k := (State.sysBandFor_touch _ _ _ _ _ _ hb).mono (m := 12288) (by decide)
    simp only [Option.map_eq_some_iff, Prod.mk.injEq] at h
    obtain ⟨b, -, h, -⟩ := h
    rw [← h]
    simp (maxDischargeDepth := 60) [k]
  · cases h
@[simp] theorem State.submitSummary_touch (n : Nat) (b : Band) (r : OpRequest) (s : State) {m : Nat} (hm : m &&& 8192 = 8192) {s₀ : State} (h₀ : Touch m s₀ s) : Touch m s₀ (State.submitSummary n b r s) := by
  refine h₀.step hm ?_
  clear h₀ hm
  unfold State.submitSummary
  (repeat' (first | (simp (maxDischargeDepth := 60) [*]; done) | split | dsimp only | (apply touch_foldl _ _ _ _ (by simp (maxDischargeDepth := 60) [*]); intro t x; try simp only)))
@[simp] theorem State.submitProgram_touch (r : OpRequest) (s : State) {m : Nat} (hm : m &&& 12288 = 12288) {s₀ : State} (h₀ : Touch m s₀ s) : Touch m s₀ (State.submitProgram r s) := by
  refine h₀.step hm ?_
  clear h₀ hm
  unfold State.submitProgram
  (repeat' (first | (simp (maxDischargeDepth := 60) [*]; done) | split | dsimp only | (apply touch_foldl _ _ _ _ (by simp (maxDischargeDepth := 60) [*]); intro t x; try simp only)))
@[simp] theorem State.submitErase_touch (r : OpRequest) (s : State) {m : Nat} (hm : m &&& 12288 = 12288) {s₀ : State} (h₀ : Touch m s₀ s) : Touch m s₀ (State.submitErase r s) := by
  refine h₀.step hm ?_
  clear h₀ hm
  unfold State.submitErase
  (repeat' (first | (simp (maxDischargeDepth := 60) [*]; done) | split | dsimp only | (apply touch_foldl _ _ _ _ (by simp (maxDischargeDepth := 60) [*]); intro t x; try simp only)))
@[simp] theorem State.dropStaleJobs_touch (die : Nat) (pages : List (Nat × Nat)) (s : State) {m : Nat} (hm : m &&& 4096 = 4096) {s₀ : State} (h₀ : Touch m s₀ s) : Touch m s₀ (State.dropStaleJobs die pages s) := by
  refine h₀.step hm ?_
  clear h₀ hm
  unfold State.dropStaleJobs
  (repeat' (first | (simp (maxDischargeDepth := 60) [*]; done) | split | dsimp only | (apply touch_foldl _ _ _ _ (by simp (maxDischargeDepth := 60) [*]); intro t x; try simp only)))
@[simp] theorem State.scrubPaced_touch (n : Nat) (s : State) {m : Nat} (hm : m &&& 32768 = 32768) {s₀ : State} (h₀ : Touch m s₀ s) : Touch m s₀ (State.scrubPaced n s) := by
  refine h₀.step hm ?_
  clear h₀ hm
  unfold State.scrubPaced
  (repeat' (first | (simp (maxDischargeDepth := 60) [*]; done) | split | dsimp only | (apply touch_foldl _ _ _ _ (by simp (maxDischargeDepth := 60) [*]); intro t x; try simp only)))
@[simp] theorem State.rebuildPaced_touch (n : Nat) (s : State) {m : Nat} (hm : m &&& 65536 = 65536) {s₀ : State} (h₀ : Touch m s₀ s) : Touch m s₀ (State.rebuildPaced n s) := by
  refine h₀.step hm ?_
  clear h₀ hm
  unfold State.rebuildPaced
  (repeat' (first | (simp (maxDischargeDepth := 60) [*]; done) | split | dsimp only | (apply touch_foldl _ _ _ _ (by simp (maxDischargeDepth := 60) [*]); intro t x; try simp only)))
@[simp] theorem State.submitRead_touch (r : OpRequest) (s : State) {m : Nat} (hm : m &&& 110592 = 110592) {s₀ : State} (h₀ : Touch m s₀ s) : Touch m s₀ (State.submitRead r s) := by
  refine h₀.step hm ?_
  clear h₀ hm
  unfold State.submitRead
  (repeat' (first | (simp (maxDischargeDepth := 60) [*]; done) | split | dsimp only | (apply touch_foldl _ _ _ _ (by simp (maxDischargeDepth := 60) [*]); intro t x; try simp only)))
@[simp] theorem State.setOffsets_touch (d : Nat) (o : DieOp) (s : State) {m : Nat} (hm : m &&& 49153 = 49153) {s₀ : State} (h₀ : Touch m s₀ s) : Touch m s₀ (State.setOffsets d o s) := by
  refine h₀.step hm ?_
  clear h₀ hm
  unfold State.setOffsets
  (repeat' (first | (simp (maxDischargeDepth := 60) [*]; done) | split | dsimp only | (apply touch_foldl _ _ _ _ (by simp (maxDischargeDepth := 60) [*]); intro t x; try simp only)))
@[simp] theorem State.takeBytes_touch (n : Nat) (s : State) {m : Nat} (hm : m &&& 8192 = 8192) {s₀ : State} (h₀ : Touch m s₀ s) : Touch m s₀ (State.takeBytes n s) := by
  refine h₀.step hm ?_
  clear h₀ hm
  unfold State.takeBytes
  (repeat' (first | (simp (maxDischargeDepth := 60) [*]; done) | split | dsimp only | (apply touch_foldl _ _ _ _ (by simp (maxDischargeDepth := 60) [*]); intro t x; try simp only)))
@[simp] theorem State.lostFillSlot_touch (x : PlaceSlot) (s : State) {m : Nat} (hm : m &&& 8454688 = 8454688) {s₀ : State} (h₀ : Touch m s₀ s) : Touch m s₀ (State.lostFillSlot x s) := by
  refine h₀.step hm ?_
  clear h₀ hm
  unfold State.lostFillSlot
  (repeat' (first | (simp (maxDischargeDepth := 60) [*]; done) | split | dsimp only | (apply touch_foldl _ _ _ _ (by simp (maxDischargeDepth := 60) [*]); intro t x; try simp only)))
@[simp] theorem State.mergeFill_touch (x : PlaceSlot) (s : State) {m : Nat} (hm : m &&& 8454176 = 8454176) {s₀ : State} (h₀ : Touch m s₀ s) : Touch m s₀ (State.mergeFill x s) := by
  refine h₀.step hm ?_
  clear h₀ hm
  unfold State.mergeFill
  (repeat' (first | (simp (maxDischargeDepth := 60) [*]; done) | split | dsimp only | (apply touch_foldl _ _ _ _ (by simp (maxDischargeDepth := 60) [*]); intro t x; try simp only)))
@[simp] theorem State.encodeEvents_touch (xs : List PlaceSlot) (s : State) {m : Nat} (hm : m &&& 8454688 = 8454688) {s₀ : State} (h₀ : Touch m s₀ s) : Touch m s₀ (State.encodeEvents xs s) := by
  refine h₀.step hm ?_
  clear h₀ hm
  unfold State.encodeEvents
  (repeat' (first | (simp (maxDischargeDepth := 60) [*]; done) | split | dsimp only | (apply touch_foldl _ _ _ _ (by simp (maxDischargeDepth := 60) [*]); intro t x; try simp only)))
@[simp] theorem State.dropCopies_touch (bad : List PlaceSlot) (s : State) {m : Nat} (hm : m &&& 4096 = 4096) {s₀ : State} (h₀ : Touch m s₀ s) : Touch m s₀ (State.dropCopies bad s) := by
  refine h₀.step hm ?_
  clear h₀ hm
  unfold State.dropCopies
  (repeat' (first | (simp (maxDischargeDepth := 60) [*]; done) | split | dsimp only | (apply touch_foldl _ _ _ _ (by simp (maxDischargeDepth := 60) [*]); intro t x; try simp only)))
@[simp] theorem State.slotsSubmitted_touch (xs : List PlaceSlot) (s : State) {m : Nat} (hm : m &&& 512 = 512) {s₀ : State} (h₀ : Touch m s₀ s) : Touch m s₀ (State.slotsSubmitted xs s) := by
  refine h₀.step hm ?_
  clear h₀ hm
  unfold State.slotsSubmitted
  (repeat' (first | (simp (maxDischargeDepth := 60) [*]; done) | split | dsimp only | (apply touch_foldl _ _ _ _ (by simp (maxDischargeDepth := 60) [*]); intro t x; try simp only)))
@[simp] theorem State.startProgram_touch (i : Nat) (o : DieOp) (s : State) {m : Nat} (hm : m &&& 8466976 = 8466976) {s₀ : State} (h₀ : Touch m s₀ s) : Touch m s₀ (State.startProgram i o s) := by
  refine h₀.step hm ?_
  clear h₀ hm
  unfold State.startProgram
  try dsimp only
  repeat' (first | exact Touch.refl _ _ | split | dsimp only | (with_reducible refine touch_foldl _ _ _ _ ?_ (fun t x => ?_)) | (with_reducible refine State.bandFilled_touch _ _ (by decide) ?_) | (with_reducible refine State.dropCopies_touch _ _ (by decide) ?_) | (with_reducible refine State.encodeEvents_touch _ _ (by decide) ?_) | (with_reducible refine touch_modMxe _ (by decide) ?_) | (with_reducible refine State.modOp_touch _ _ _ (by decide) ?_) | (with_reducible refine State.slotsSubmitted_touch _ _ (by decide) ?_) | (with_reducible refine State.stripeIssue_touch _ _ _ _ _ _ _ _ _ (by decide) ?_))
@[simp] theorem State.startOp_touch (d i : Nat) (o : DieOp) (s : State) {m : Nat} (hm : m &&& 8516129 = 8516129) {s₀ : State} (h₀ : Touch m s₀ s) : Touch m s₀ (State.startOp d i o s) := by
  refine h₀.step hm ?_
  clear h₀ hm
  unfold State.startOp
  (repeat' (first | (simp (maxDischargeDepth := 60) [*]; done) | split | dsimp only | (apply touch_foldl _ _ _ _ (by simp (maxDischargeDepth := 60) [*]); intro t x; try simp only)))
@[simp] theorem State.normalStart_touch (d : Nat) (s : State) {m : Nat} (hm : m &&& 8516129 = 8516129) {s₀ : State} (h₀ : Touch m s₀ s) : Touch m s₀ (State.normalStart d s) := by
  refine h₀.step hm ?_
  clear h₀ hm
  unfold State.normalStart
  (repeat' (first | (simp (maxDischargeDepth := 60) [*]; done) | split | dsimp only | (apply touch_foldl _ _ _ _ (by simp (maxDischargeDepth := 60) [*]); intro t x; try simp only)))
@[simp] theorem State.hostGranule_touch (i : Nat) (x : PlaceSlot) (f : InFlight) (l : Loc) (mode : Nat) (s : State) {m : Nat} (hm : m &&& 4608 = 4608) {s₀ : State} (h₀ : Touch m s₀ s) : Touch m s₀ (State.hostGranule i x f l mode s) := by
  refine h₀.step hm ?_
  clear h₀ hm
  unfold State.hostGranule
  (repeat' (first | (simp (maxDischargeDepth := 60) [*]; done) | split | dsimp only | (apply touch_foldl _ _ _ _ (by simp (maxDischargeDepth := 60) [*]); intro t x; try simp only)))
@[simp] theorem State.slotGood_touch (i : Nat) (mode : Nat) (x : PlaceSlot) (l : Loc) (s : State) {m : Nat} (hm : m &&& 4608 = 4608) {s₀ : State} (h₀ : Touch m s₀ s) : Touch m s₀ (State.slotGood i mode x l s) := by
  refine h₀.step hm ?_
  clear h₀ hm
  unfold State.slotGood
  (repeat' (first | (simp (maxDischargeDepth := 60) [*]; done) | split | dsimp only | (apply touch_foldl _ _ _ _ (by simp (maxDischargeDepth := 60) [*]); intro t x; try simp only)))
@[simp] theorem State.programGood_touch (d i : Nat) (o : DieOp) (s : State) {m : Nat} (hm : m &&& 86528 = 86528) {s₀ : State} (h₀ : Touch m s₀ s) : Touch m s₀ (State.programGood d i o s) := by
  refine h₀.step hm ?_
  clear h₀ hm
  unfold State.programGood
  try dsimp only
  repeat' (first | exact Touch.refl _ _ | split | dsimp only | (with_reducible refine touch_foldl _ _ _ _ ?_ (fun t x => ?_)) | (with_reducible refine touch_modFca _ (by decide) ?_) | (with_reducible refine touch_modMxe _ (by decide) ?_) | (with_reducible refine State.slotGood_touch _ _ _ _ _ (by decide) ?_) | (with_reducible refine State.stripeGood_touch _ _ _ _ _ _ (by decide) ?_))
@[simp] theorem State.relocateBlock_touch (d sb : Nat) (s : State) {m : Nat} (hm : m &&& 4096 = 4096) {s₀ : State} (h₀ : Touch m s₀ s) : Touch m s₀ (State.relocateBlock d sb s) := by
  refine h₀.step hm ?_
  clear h₀ hm
  unfold State.relocateBlock
  (repeat' (first | (simp (maxDischargeDepth := 60) [*]; done) | split | dsimp only | (apply touch_foldl _ _ _ _ (by simp (maxDischargeDepth := 60) [*]); intro t x; try simp only)))
@[simp] theorem State.cancelBlock_touch (d sb : Nat) (s : State) {m : Nat} (hm : m &&& 45056 = 45056) {s₀ : State} (h₀ : Touch m s₀ s) : Touch m s₀ (State.cancelBlock d sb s) := by
  refine h₀.step hm ?_
  clear h₀ hm
  unfold State.cancelBlock
  (repeat' (first | (simp (maxDischargeDepth := 60) [*]; done) | split | dsimp only | (apply touch_foldl _ _ _ _ (by simp (maxDischargeDepth := 60) [*]); intro t x; try simp only)))
@[simp] theorem State.readBack_touch (d sb : Nat) (pages : List (Nat × Nat)) (s : State) {m : Nat} (hm : m &&& 16384 = 16384) {s₀ : State} (h₀ : Touch m s₀ s) : Touch m s₀ (State.readBack d sb pages s) := by
  refine h₀.step hm ?_
  clear h₀ hm
  unfold State.readBack
  (repeat' (first | (simp (maxDischargeDepth := 60) [*]; done) | split | dsimp only | (apply touch_foldl _ _ _ _ (by simp (maxDischargeDepth := 60) [*]); intro t x; try simp only)))
@[simp] theorem State.programFail_touch (d i : Nat) (o : DieOp) (s : State) {m : Nat} (hm : m &&& 12710433 = 12710433) {s₀ : State} (h₀ : Touch m s₀ s) : Touch m s₀ (State.programFail d i o s) := by
  refine h₀.step hm ?_
  clear h₀ hm
  unfold State.programFail
  try dsimp only
  repeat' (first | exact Touch.refl _ _ | split | dsimp only | (with_reducible refine touch_foldl _ _ _ _ ?_ (fun t x => ?_)) | (with_reducible refine State.bandFilled_touch _ _ (by decide) ?_) | (with_reducible refine State.cancelBlock_touch _ _ _ (by decide) ?_) | (with_reducible refine touch_modMxe _ (by decide) ?_) | (with_reducible refine State.rePlaceAll_touch _ _ _ (by decide) ?_) | (with_reducible refine State.readBack_touch _ _ _ _ (by decide) ?_) | (with_reducible refine State.relocateBlock_touch _ _ _ (by decide) ?_) | (with_reducible refine State.retireBlock_touch _ _ _ _ _ (by decide) ?_) | (with_reducible refine State.stripeFail_touch _ _ _ _ _ _ _ _ (by decide) ?_))
@[simp] theorem State.countErase_touch (k : Nat) (s : State) {m : Nat} (hm : m &&& 4096 = 4096) {s₀ : State} (h₀ : Touch m s₀ s) : Touch m s₀ (State.countErase k s) := by
  refine h₀.step hm ?_
  clear h₀ hm
  unfold State.countErase
  (repeat' (first | (simp (maxDischargeDepth := 60) [*]; done) | split | dsimp only | (apply touch_foldl _ _ _ _ (by simp (maxDischargeDepth := 60) [*]); intro t x; try simp only)))
@[simp] theorem State.eraseGood_touch (d : Nat) (o : DieOp) (s : State) {m : Nat} (hm : m &&& 36864 = 36864) {s₀ : State} (h₀ : Touch m s₀ s) : Touch m s₀ (State.eraseGood d o s) := by
  refine h₀.step hm ?_
  clear h₀ hm
  unfold State.eraseGood
  (repeat' (first | (simp (maxDischargeDepth := 60) [*]; done) | split | dsimp only | (apply touch_foldl _ _ _ _ (by simp (maxDischargeDepth := 60) [*]); intro t x; try simp only)))
@[simp] theorem State.eraseFail_touch (d : Nat) (o : DieOp) (s : State) {m : Nat} (hm : m &&& 12628513 = 12628513) {s₀ : State} (h₀ : Touch m s₀ s) : Touch m s₀ (State.eraseFail d o s) := by
  refine h₀.step hm ?_
  clear h₀ hm
  unfold State.eraseFail
  (repeat' (first | (simp (maxDischargeDepth := 60) [*]; done) | split | dsimp only | (apply touch_foldl _ _ _ _ (by simp (maxDischargeDepth := 60) [*]); intro t x; try simp only)))
@[simp] theorem State.readLands_touch (o : DieOp) (s : State) {m : Nat} (hm : m &&& 49152 = 49152) {s₀ : State} (h₀ : Touch m s₀ s) : Touch m s₀ (State.readLands o s) := by
  refine h₀.step hm ?_
  clear h₀ hm
  unfold State.readLands
  (repeat' (first | (simp (maxDischargeDepth := 60) [*]; done) | split | dsimp only | (apply touch_foldl _ _ _ _ (by simp (maxDischargeDepth := 60) [*]); intro t x; try simp only)))
@[simp] theorem State.readDone_touch (o : DieOp) (s : State) {m : Nat} (hm : m &&& 20480 = 20480) {s₀ : State} (h₀ : Touch m s₀ s) : Touch m s₀ (State.readDone o s) := by
  refine h₀.step hm ?_
  clear h₀ hm
  unfold State.readDone
  (repeat' (first | (simp (maxDischargeDepth := 60) [*]; done) | split | dsimp only | (apply touch_foldl _ _ _ _ (by simp (maxDischargeDepth := 60) [*]); intro t x; try simp only)))
@[simp] theorem State.diedTime_touch (i : Nat) (s : State) {m : Nat} (hm : m &&& 8192 = 8192) {s₀ : State} (h₀ : Touch m s₀ s) : Touch m s₀ (State.diedTime i s) := by
  refine h₀.step hm ?_
  clear h₀ hm
  unfold State.diedTime
  (repeat' (first | (simp (maxDischargeDepth := 60) [*]; done) | split | dsimp only | (apply touch_foldl _ _ _ _ (by simp (maxDischargeDepth := 60) [*]); intro t x; try simp only)))
@[simp] theorem State.endOp_touch (d i : Nat) (s : State) {m : Nat} (hm : m &&& 8192 = 8192) {s₀ : State} (h₀ : Touch m s₀ s) : Touch m s₀ (State.endOp d i s) := by
  refine h₀.step hm ?_
  clear h₀ hm
  unfold State.endOp
  (repeat' (first | (simp (maxDischargeDepth := 60) [*]; done) | split | dsimp only | (apply touch_foldl _ _ _ _ (by simp (maxDischargeDepth := 60) [*]); intro t x; try simp only)))
@[simp] theorem State.opEnded_touch (d i : Nat) (o : DieOp) (good : Bool) (s : State) {m : Nat} (hm : m &&& 12841505 = 12841505) {s₀ : State} (h₀ : Touch m s₀ s) : Touch m s₀ (State.opEnded d i o good s) := by
  refine h₀.step hm ?_
  clear h₀ hm
  unfold State.opEnded
  (repeat' (first | (simp (maxDischargeDepth := 60) [*]; done) | split | dsimp only | (apply touch_foldl _ _ _ _ (by simp (maxDischargeDepth := 60) [*]); intro t x; try simp only)))
@[simp] theorem State.failOps_touch (d : Nat) (s : State) {m : Nat} (hm : m &&& 176128 = 176128) {s₀ : State} (h₀ : Touch m s₀ s) : Touch m s₀ (State.failOps d s) := by
  refine h₀.step hm ?_
  clear h₀ hm
  unfold State.failOps
  (repeat' (first | (simp (maxDischargeDepth := 60) [*]; done) | split | dsimp only | (apply touch_foldl _ _ _ _ (by simp (maxDischargeDepth := 60) [*]); intro t x; try simp only)))
@[simp] theorem State.retireDie_touch (d : Nat) (s : State) {m : Nat} (hm : m &&& 12587553 = 12587553) {s₀ : State} (h₀ : Touch m s₀ s) : Touch m s₀ (State.retireDie d s) := by
  refine h₀.step hm ?_
  clear h₀ hm
  unfold State.retireDie
  (repeat' (first | (simp (maxDischargeDepth := 60) [*]; done) | split | dsimp only | (apply touch_foldl _ _ _ _ (by simp (maxDischargeDepth := 60) [*]); intro t x; try simp only)))
@[simp] theorem State.failedHealth_touch (s : State) {m : Nat} (hm : m &&& 12583457 = 12583457) {s₀ : State} (h₀ : Touch m s₀ s) : Touch m s₀ (State.failedHealth s) := by
  refine h₀.step hm ?_
  clear h₀ hm
  unfold State.failedHealth
  (repeat' (first | (simp (maxDischargeDepth := 60) [*]; done) | split | dsimp only | (apply touch_foldl _ _ _ _ (by simp (maxDischargeDepth := 60) [*]); intro t x; try simp only)))
@[simp] theorem State.joinRebuild_touch (d : Nat) (s : State) {m : Nat} (hm : m &&& 65536 = 65536) {s₀ : State} (h₀ : Touch m s₀ s) : Touch m s₀ (State.joinRebuild d s) := by
  refine h₀.step hm ?_
  clear h₀ hm
  unfold State.joinRebuild
  (repeat' (first | (simp (maxDischargeDepth := 60) [*]; done) | split | dsimp only | (apply touch_foldl _ _ _ _ (by simp (maxDischargeDepth := 60) [*]); intro t x; try simp only)))
@[simp] theorem State.failXfers_touch (d : Nat) (s : State) {m : Nat} (hm : m &&& 53248 = 53248) {s₀ : State} (h₀ : Touch m s₀ s) : Touch m s₀ (State.failXfers d s) := by
  refine h₀.step hm ?_
  clear h₀ hm
  unfold State.failXfers
  (repeat' (first | (simp (maxDischargeDepth := 60) [*]; done) | split | dsimp only | (apply touch_foldl _ _ _ _ (by simp (maxDischargeDepth := 60) [*]); intro t x; try simp only)))
@[simp] theorem State.takeOffline_touch (d : Nat) (s : State) {m : Nat} (hm : m &&& 12841505 = 12841505) {s₀ : State} (h₀ : Touch m s₀ s) : Touch m s₀ (State.takeOffline d s) := by
  refine h₀.step hm ?_
  clear h₀ hm
  unfold State.takeOffline
  (repeat' (first | (simp (maxDischargeDepth := 60) [*]; done) | split | dsimp only | (apply touch_foldl _ _ _ _ (by simp (maxDischargeDepth := 60) [*]); intro t x; try simp only)))
@[simp] theorem State.reenable_touch (d : Nat) (s : State) {m : Nat} (hm : m &&& 12661281 = 12661281) {s₀ : State} (h₀ : Touch m s₀ s) : Touch m s₀ (State.reenable d s) := by
  refine h₀.step hm ?_
  clear h₀ hm
  unfold State.reenable
  (repeat' (first | (simp (maxDischargeDepth := 60) [*]; done) | split | dsimp only | (apply touch_foldl _ _ _ _ (by simp (maxDischargeDepth := 60) [*]); intro t x; try simp only)))
@[simp] theorem State.applyStep_touch (st : Nat) (s : State) {m : Nat} (hm : m &&& 12591649 = 12591649) {s₀ : State} (h₀ : Touch m s₀ s) : Touch m s₀ (State.applyStep st s) := by
  refine h₀.step hm ?_
  clear h₀ hm
  unfold State.applyStep
  (repeat' (first | (simp (maxDischargeDepth := 60) [*]; done) | split | dsimp only | (apply touch_foldl _ _ _ _ (by simp (maxDischargeDepth := 60) [*]); intro t x; try simp only)))
@[simp] theorem State.dueObjects_touch (s : State) {m : Nat} (hm : m &&& 128 = 128) {s₀ : State} (h₀ : Touch m s₀ s) : Touch m s₀ (State.dueObjects s) := by
  refine h₀.step hm ?_
  clear h₀ hm
  unfold State.dueObjects
  (repeat' (first | (simp (maxDischargeDepth := 60) [*]; done) | split | dsimp only | (apply touch_foldl _ _ _ _ (by simp (maxDischargeDepth := 60) [*]); intro t x; try simp only)))
@[simp] theorem State.opsRebudget_touch (s : State) {m : Nat} (hm : m &&& 8192 = 8192) {s₀ : State} (h₀ : Touch m s₀ s) : Touch m s₀ (State.opsRebudget s) := by
  refine h₀.step hm ?_
  clear h₀ hm
  unfold State.opsRebudget
  (repeat' (first | (simp (maxDischargeDepth := 60) [*]; done) | split | dsimp only | (apply touch_foldl _ _ _ _ (by simp (maxDischargeDepth := 60) [*]); intro t x; try simp only)))
@[simp] theorem State.decideStep_touch (t : Int) (s : State) {m : Nat} (hm : m &&& 8192 = 8192) {s₀ : State} (h₀ : Touch m s₀ s) : Touch m s₀ (State.decideStep t s) := by
  refine h₀.step hm ?_
  clear h₀ hm
  unfold State.decideStep
  (repeat' (first | (simp (maxDischargeDepth := 60) [*]; done) | split | dsimp only | (apply touch_foldl _ _ _ _ (by simp (maxDischargeDepth := 60) [*]); intro t x; try simp only)))
@[simp] theorem State.chEvent_touch (ch bits : Nat) (s : State) {m : Nat} (hm : m &&& 8388640 = 8388640) {s₀ : State} (h₀ : Touch m s₀ s) : Touch m s₀ (State.chEvent ch bits s) := by
  refine h₀.step hm ?_
  clear h₀ hm
  unfold State.chEvent
  (repeat' (first | (simp (maxDischargeDepth := 60) [*]; done) | split | dsimp only | (apply touch_foldl _ _ _ _ (by simp (maxDischargeDepth := 60) [*]); intro t x; try simp only)))
@[simp] theorem State.initChannel_touch (f : ChannelFound) (s : State) {m : Nat} (hm : m &&& 12841505 = 12841505) {s₀ : State} (h₀ : Touch m s₀ s) : Touch m s₀ (State.initChannel f s) := by
  refine h₀.step hm ?_
  clear h₀ hm
  unfold State.initChannel
  (repeat' (first | (simp (maxDischargeDepth := 60) [*]; done) | split | dsimp only | (apply touch_foldl _ _ _ _ (by simp (maxDischargeDepth := 60) [*]); intro t x; try simp only)))
@[simp] theorem State.guardOnset_touch (g : GuardInput) (s : State) {m : Nat} (hm : m &&& 540705 = 540705) {s₀ : State} (h₀ : Touch m s₀ s) : Touch m s₀ (State.guardOnset g s) := by
  refine h₀.step hm ?_
  clear h₀ hm
  unfold State.guardOnset
  (repeat' (first | (simp (maxDischargeDepth := 60) [*]; done) | split | dsimp only | (apply touch_foldl _ _ _ _ (by simp (maxDischargeDepth := 60) [*]); intro t x; try simp only)))
@[simp] theorem State.guardTick_touch (s : State) {m : Nat} (hm : m &&& 8192 = 8192) {s₀ : State} (h₀ : Touch m s₀ s) : Touch m s₀ (State.guardTick s) := by
  refine h₀.step hm ?_
  clear h₀ hm
  unfold State.guardTick
  (repeat' (first | (simp (maxDischargeDepth := 60) [*]; done) | split | dsimp only | (apply touch_foldl _ _ _ _ (by simp (maxDischargeDepth := 60) [*]); intro t x; try simp only)))
@[simp] theorem State.tempRead_touch (d : Nat) (tempC : Int) (s : State) {m : Nat} (hm : m &&& 16384 = 16384) {s₀ : State} (h₀ : Touch m s₀ s) : Touch m s₀ (State.tempRead d tempC s) := by
  refine h₀.step hm ?_
  clear h₀ hm
  unfold State.tempRead
  (repeat' (first | (simp (maxDischargeDepth := 60) [*]; done) | split | dsimp only | (apply touch_foldl _ _ _ _ (by simp (maxDischargeDepth := 60) [*]); intro t x; try simp only)))
@[simp] theorem State.grantFrom_touch (k : Nat) (w : BufWaiter) (s : State) {m : Nat} (hm : m &&& 262177 = 262177) {s₀ : State} (h₀ : Touch m s₀ s) : Touch m s₀ (State.grantFrom k w s) := by
  refine h₀.step hm ?_
  clear h₀ hm
  unfold State.grantFrom
  split
  · dsimp only
    split
    · refine touch_emit _ (by simp) (touch_count _ _ _ (by simp) ?_)
      constructor <;> first | rfl | (intro e; first | exact absurd e (by decide) | rfl)
    · refine touch_emit _ (by simp) ?_
      constructor <;> first | rfl | (intro e; first | exact absurd e (by decide) | rfl)
  · exact Touch.refl _ _
@[simp] theorem State.grantReserved_touch (k : Nat) (w : BufWaiter) (s : State) {m : Nat} (hm : m &&& 262177 = 262177) {s₀ : State} (h₀ : Touch m s₀ s) : Touch m s₀ (State.grantReserved k w s) := by
  refine h₀.step hm ?_
  clear h₀ hm
  unfold State.grantReserved
  (repeat' (first | (simp (maxDischargeDepth := 60) [*]; done) | split | dsimp only | (apply touch_foldl _ _ _ _ (by simp (maxDischargeDepth := 60) [*]); intro t x; try simp only)))
@[simp] theorem State.admitHeld_touch (s : State) {m : Nat} (hm : m &&& 262144 = 262144) {s₀ : State} (h₀ : Touch m s₀ s) : Touch m s₀ (State.admitHeld s) := by
  refine h₀.step hm ?_
  clear h₀ hm
  unfold State.admitHeld
  (repeat' (first | (simp (maxDischargeDepth := 60) [*]; done) | split | dsimp only | (apply touch_foldl _ _ _ _ (by simp (maxDischargeDepth := 60) [*]); intro t x; try simp only)))
@[simp] theorem State.holdOver_touch (s : State) {m : Nat} (hm : m &&& 262144 = 262144) {s₀ : State} (h₀ : Touch m s₀ s) : Touch m s₀ (State.holdOver s) := by
  refine h₀.step hm ?_
  clear h₀ hm
  unfold State.holdOver
  (repeat' (first | (simp (maxDischargeDepth := 60) [*]; done) | split | dsimp only | (apply touch_foldl _ _ _ _ (by simp (maxDischargeDepth := 60) [*]); intro t x; try simp only)))
@[simp] theorem State.bufRequest_touch (w : BufWaiter) (s : State) {m : Nat} (hm : m &&& 262177 = 262177) {s₀ : State} (h₀ : Touch m s₀ s) : Touch m s₀ (State.bufRequest w s) := by
  refine h₀.step hm ?_
  clear h₀ hm
  unfold State.bufRequest
  (repeat' (first | (simp (maxDischargeDepth := 60) [*]; done) | split | dsimp only | (apply touch_foldl _ _ _ _ (by simp (maxDischargeDepth := 60) [*]); intro t x; try simp only)))
@[simp] theorem State.refuseBuf_touch (bit : Nat) (h : BitVec 24) (unit : Nat) (s : State) {m : Nat} (hm : m &&& 9699360 = 9699360) {s₀ : State} (h₀ : Touch m s₀ s) : Touch m s₀ (State.refuseBuf bit h unit s) := by
  refine h₀.step hm ?_
  clear h₀ hm
  unfold State.refuseBuf
  (repeat' (first | (simp (maxDischargeDepth := 60) [*]; done) | split | dsimp only | (apply touch_foldl _ _ _ _ (by simp (maxDischargeDepth := 60) [*]); intro t x; try simp only)))
@[simp] theorem State.retireBuf_touch (k i : Nat) (s : State) {m : Nat} (hm : m &&& 12845601 = 12845601) {s₀ : State} (h₀ : Touch m s₀ s) : Touch m s₀ (State.retireBuf k i s) := by
  refine h₀.step hm ?_
  clear h₀ hm
  unfold State.retireBuf
  (repeat' (first | (simp (maxDischargeDepth := 60) [*]; done) | split | dsimp only | (apply touch_foldl _ _ _ _ (by simp (maxDischargeDepth := 60) [*]); intro t x; try simp only)))
@[simp] theorem State.releaseBuf_touch (k i : Nat) (s : State) {m : Nat} (hm : m &&& 12845601 = 12845601) {s₀ : State} (h₀ : Touch m s₀ s) : Touch m s₀ (State.releaseBuf k i s) := by
  refine h₀.step hm ?_
  clear h₀ hm
  unfold State.releaseBuf
  (repeat' (first | (simp (maxDischargeDepth := 60) [*]; done) | split | dsimp only | (apply touch_foldl _ _ _ _ (by simp (maxDischargeDepth := 60) [*]); intro t x; try simp only)))
@[simp] theorem State.lastFree_touch (k i : Nat) (s : State) {m : Nat} (hm : m &&& 12845601 = 12845601) {s₀ : State} (h₀ : Touch m s₀ s) : Touch m s₀ (State.lastFree k i s) := by
  refine h₀.step hm ?_
  clear h₀ hm
  unfold State.lastFree
  (repeat' (first | (simp (maxDischargeDepth := 60) [*]; done) | split | dsimp only | (apply touch_foldl _ _ _ _ (by simp (maxDischargeDepth := 60) [*]); intro t x; try simp only)))
@[simp] theorem State.bufFree_touch (h : BitVec 24) (unit : Nat) (s : State) {m : Nat} (hm : m &&& 13894177 = 13894177) {s₀ : State} (h₀ : Touch m s₀ s) : Touch m s₀ (State.bufFree h unit s) := by
  refine h₀.step hm ?_
  clear h₀ hm
  unfold State.bufFree
  (repeat' (first | (simp (maxDischargeDepth := 60) [*]; done) | split | dsimp only | (apply touch_foldl _ _ _ _ (by simp (maxDischargeDepth := 60) [*]); intro t x; try simp only)))
@[simp] theorem State.freeBufsOf_touch (unit : Nat) (hs : List (BitVec 24)) (s : State) {m : Nat} (hm : m &&& 13894177 = 13894177) {s₀ : State} (h₀ : Touch m s₀ s) : Touch m s₀ (State.freeBufsOf unit hs s) := by
  refine h₀.step hm ?_
  clear h₀ hm
  unfold State.freeBufsOf
  (repeat' (first | (simp (maxDischargeDepth := 60) [*]; done) | split | dsimp only | (apply touch_foldl _ _ _ _ (by simp (maxDischargeDepth := 60) [*]); intro t x; try simp only)))
@[simp] theorem State.freeBufs_touch (hs : List (BitVec 24)) (s : State) {m : Nat} (hm : m &&& 13894177 = 13894177) {s₀ : State} (h₀ : Touch m s₀ s) : Touch m s₀ (State.freeBufs hs s) := by
  refine h₀.step hm ?_
  clear h₀ hm
  unfold State.freeBufs
  (repeat' (first | (simp (maxDischargeDepth := 60) [*]; done) | split | dsimp only | (apply touch_foldl _ _ _ _ (by simp (maxDischargeDepth := 60) [*]); intro t x; try simp only)))
@[simp] theorem State.chainStep_touch (unit : Nat) (h : BitVec 24) (s : State) {m : Nat} (hm : m &&& 13894177 = 13894177) {s₀ : State} (h₀ : Touch m s₀ s) : Touch m s₀ (State.chainStep unit h s) := by
  refine h₀.step hm ?_
  clear h₀ hm
  unfold State.chainStep
  (repeat' (first | (simp (maxDischargeDepth := 60) [*]; done) | split | dsimp only | (apply touch_foldl _ _ _ _ (by simp (maxDischargeDepth := 60) [*]); intro t x; try simp only)))
@[simp] theorem State.chainTick_touch (s : State) {m : Nat} (hm : m &&& 13894177 = 13894177) {s₀ : State} (h₀ : Touch m s₀ s) : Touch m s₀ (State.chainTick s) := by
  refine h₀.step hm ?_
  clear h₀ hm
  unfold State.chainTick
  (repeat' (first | (simp (maxDischargeDepth := 60) [*]; done) | split | dsimp only | (apply touch_foldl _ _ _ _ (by simp (maxDischargeDepth := 60) [*]); intro t x; try simp only)))
@[simp] theorem State.rebuildPools_touch (takeCounts : Bool) (s : State) {m : Nat} (hm : m &&& 262176 = 262176) {s₀ : State} (h₀ : Touch m s₀ s) : Touch m s₀ (State.rebuildPools takeCounts s) := by
  refine h₀.step hm ?_
  clear h₀ hm
  unfold State.rebuildPools
  (repeat' (first | (simp (maxDischargeDepth := 60) [*]; done) | split | dsimp only | (apply touch_foldl _ _ _ _ (by simp (maxDischargeDepth := 60) [*]); intro t x; try simp only)))
@[simp] theorem State.modSlice_touch (n : Nat) (f : SliceSt → SliceSt) (s : State) {m : Nat} (hm : m &&& 1024 = 1024) {s₀ : State} (h₀ : Touch m s₀ s) : Touch m s₀ (State.modSlice n f s) := by
  refine h₀.step hm ?_
  clear h₀ hm
  unfold State.modSlice
  (repeat' (first | (simp (maxDischargeDepth := 60) [*]; done) | split | dsimp only | (apply touch_foldl _ _ _ _ (by simp (maxDischargeDepth := 60) [*]); intro t x; try simp only)))
@[simp] theorem State.dlogWrite_touch (sl : Nat) (e : Dword) (s : State) {m : Nat} (hm : m &&& 1025 = 1025) {s₀ : State} (h₀ : Touch m s₀ s) : Touch m s₀ (State.dlogWrite sl e s) := by
  refine h₀.step hm ?_
  clear h₀ hm
  unfold State.dlogWrite
  (repeat' (first | (simp (maxDischargeDepth := 60) [*]; done) | split | dsimp only | (apply touch_foldl _ _ _ _ (by simp (maxDischargeDepth := 60) [*]); intro t x; try simp only)))
@[simp] theorem State.dlogEntry_touch (sl : Nat) (e : Dword) (s : State) {m : Nat} (hm : m &&& 1025 = 1025) {s₀ : State} (h₀ : Touch m s₀ s) : Touch m s₀ (State.dlogEntry sl e s) := by
  refine h₀.step hm ?_
  clear h₀ hm
  unfold State.dlogEntry
  (repeat' (first | (simp (maxDischargeDepth := 60) [*]; done) | split | dsimp only | (apply touch_foldl _ _ _ _ (by simp (maxDischargeDepth := 60) [*]); intro t x; try simp only)))
@[simp] theorem State.dlogDrain_touch (sl : Nat) (l : List Dword) (s : State) {m : Nat} (hm : m &&& 1025 = 1025) {s₀ : State} (h₀ : Touch m s₀ s) : Touch m s₀ (State.dlogDrain sl l s) := by
  refine h₀.step hm ?_
  clear h₀ hm
  induction l generalizing s with
  | nil => simp [State.dlogDrain]
  | cons e es ih =>
    unfold State.dlogDrain
    split
    · simp
    · exact Touch.trans (by simp (maxDischargeDepth := 60)) (ih _)
@[simp] theorem State.dlogTick_touch (s : State) {m : Nat} (hm : m &&& 1025 = 1025) {s₀ : State} (h₀ : Touch m s₀ s) : Touch m s₀ (State.dlogTick s) := by
  refine h₀.step hm ?_
  clear h₀ hm
  unfold State.dlogTick
  (repeat' (first | (simp (maxDischargeDepth := 60) [*]; done) | split | dsimp only | (apply touch_foldl _ _ _ _ (by simp (maxDischargeDepth := 60) [*]); intro t x; try simp only)))
@[simp] theorem State.logExtents_touch (sl nsid first n : Nat) (s : State) {m : Nat} (hm : m &&& 1025 = 1025) {s₀ : State} (h₀ : Touch m s₀ s) : Touch m s₀ (State.logExtents sl nsid first n s) := by
  refine h₀.step hm ?_
  clear h₀ hm
  unfold State.logExtents
  (repeat' (first | (simp (maxDischargeDepth := 60) [*]; done) | split | dsimp only | (apply touch_foldl _ _ _ _ (by simp (maxDischargeDepth := 60) [*]); intro t x; try simp only)))
@[simp] theorem State.completeRead_touch (kind : CplKind) (addr : Nat) (data : List Byte) (s : State) {m : Nat} (hm : m &&& 289 = 289) {s₀ : State} (h₀ : Touch m s₀ s) : Touch m s₀ (State.completeRead kind addr data s) := by
  refine h₀.step hm ?_
  clear h₀ hm
  unfold State.completeRead
  (repeat' (first | (simp (maxDischargeDepth := 60) [*]; done) | split | dsimp only | (apply touch_foldl _ _ _ _ (by simp (maxDischargeDepth := 60) [*]); intro t x; try simp only)))
@[simp] theorem State.complete_touch (kind : CplKind) (s : State) {m : Nat} (hm : m &&& 1 = 1) {s₀ : State} (h₀ : Touch m s₀ s) : Touch m s₀ (State.complete kind s) := by
  refine h₀.step hm ?_
  clear h₀ hm
  unfold State.complete
  (repeat' (first | (simp (maxDischargeDepth := 60) [*]; done) | split | dsimp only | (apply touch_foldl _ _ _ _ (by simp (maxDischargeDepth := 60) [*]); intro t x; try simp only)))
@[simp] theorem State.aerLog_touch (e : AerError) (s : State) {m : Nat} (hm : m &&& 8388897 = 8388897) {s₀ : State} (h₀ : Touch m s₀ s) : Touch m s₀ (State.aerLog e s) := by
  refine h₀.step hm ?_
  clear h₀ hm
  unfold State.aerLog
  (repeat' (first | (simp (maxDischargeDepth := 60) [*]; done) | split | dsimp only | (apply touch_foldl _ _ _ _ (by simp (maxDischargeDepth := 60) [*]); intro t x; try simp only)))
@[simp] theorem State.urTlp_touch (np : Bool) (s : State) {m : Nat} (hm : m &&& 8388897 = 8388897) {s₀ : State} (h₀ : Touch m s₀ s) : Touch m s₀ (State.urTlp np s) := by
  refine h₀.step hm ?_
  clear h₀ hm
  unfold State.urTlp
  (repeat' (first | (simp (maxDischargeDepth := 60) [*]; done) | split | dsimp only | (apply touch_foldl _ _ _ _ (by simp (maxDischargeDepth := 60) [*]); intro t x; try simp only)))
@[simp] theorem State.issueTag_touch (t : Nat) (use : TagUse) (fn sl : Nat) (untranslated : Bool) (s : State) {m : Nat} (hm : m &&& 256 = 256) {s₀ : State} (h₀ : Touch m s₀ s) : Touch m s₀ (State.issueTag t use fn sl untranslated s) := by
  refine h₀.step hm ?_
  clear h₀ hm
  unfold State.issueTag
  (repeat' (first | (simp (maxDischargeDepth := 60) [*]; done) | split | dsimp only | (apply touch_foldl _ _ _ _ (by simp (maxDischargeDepth := 60) [*]); intro t x; try simp only)))
@[simp] theorem State.askPage_touch (fn sl page : Nat) (s : State) {m : Nat} (hm : m &&& 257 = 257) {s₀ : State} (h₀ : Touch m s₀ s) : Touch m s₀ (State.askPage fn sl page s) := by
  refine h₀.step hm ?_
  clear h₀ hm
  unfold State.askPage
  (repeat' (first | (simp (maxDischargeDepth := 60) [*]; done) | split | dsimp only | (apply touch_foldl _ _ _ _ (by simp (maxDischargeDepth := 60) [*]); intro t x; try simp only)))
@[simp] theorem State.dmaWait_touch (d : DmaReq) (s : State) {m : Nat} (hm : m &&& 256 = 256) {s₀ : State} (h₀ : Touch m s₀ s) : Touch m s₀ (State.dmaWait d s) := by
  refine h₀.step hm ?_
  clear h₀ hm
  unfold State.dmaWait
  (repeat' (first | (simp (maxDischargeDepth := 60) [*]; done) | split | dsimp only | (apply touch_foldl _ _ _ _ (by simp (maxDischargeDepth := 60) [*]); intro t x; try simp only)))
@[simp] theorem State.dmaTry_touch (s : State) (d : DmaReq) {m : Nat} (hm : m &&& 257 = 257) {s₀ : State} (h₀ : Touch m s₀ s) : Touch m s₀ (State.dmaTry s d) := by
  refine h₀.step hm ?_
  clear h₀ hm
  unfold State.dmaTry
  (repeat' (first | (simp (maxDischargeDepth := 60) [*]; done) | split | dsimp only | (apply touch_foldl _ _ _ _ (by simp (maxDischargeDepth := 60) [*]); intro t x; try simp only)))
@[simp] theorem State.dmaIssue_touch (s : State) {m : Nat} (hm : m &&& 257 = 257) {s₀ : State} (h₀ : Touch m s₀ s) : Touch m s₀ (State.dmaIssue s) := by
  refine h₀.step hm ?_
  clear h₀ hm
  unfold State.dmaIssue
  (repeat' (first | (simp (maxDischargeDepth := 60) [*]; done) | split | dsimp only | (apply touch_foldl _ _ _ _ (by simp (maxDischargeDepth := 60) [*]); intro t x; try simp only)))
@[simp] theorem State.askList_touch (c : Nat) (s : State) {m : Nat} (hm : m &&& 256 = 256) {s₀ : State} (h₀ : Touch m s₀ s) : Touch m s₀ (State.askList c s) := by
  refine h₀.step hm ?_
  clear h₀ hm
  unfold State.askList
  (repeat' (first | (simp (maxDischargeDepth := 60) [*]; done) | split | dsimp only | (apply touch_foldl _ _ _ _ (by simp (maxDischargeDepth := 60) [*]); intro t x; try simp only)))
@[simp] theorem State.listArrives_touch (c len data : Nat) (s : State) {m : Nat} (hm : m &&& 768 = 768) {s₀ : State} (h₀ : Touch m s₀ s) : Touch m s₀ (State.listArrives c len data s) := by
  refine h₀.step hm ?_
  clear h₀ hm
  unfold State.listArrives
  (repeat' (first | (simp (maxDischargeDepth := 60) [*]; done) | split | dsimp only | (apply touch_foldl _ _ _ _ (by simp (maxDischargeDepth := 60) [*]); intro t x; try simp only)))
@[simp] theorem State.journal_touch (r : JournalRecord) (s : State) {m : Nat} (hm : m &&& 4096 = 4096) {s₀ : State} (h₀ : Touch m s₀ s) : Touch m s₀ (State.journal r s) := by
  refine h₀.step hm ?_
  clear h₀ hm
  unfold State.journal
  (repeat' (first | (simp (maxDischargeDepth := 60) [*]; done) | split | dsimp only | (apply touch_foldl _ _ _ _ (by simp (maxDischargeDepth := 60) [*]); intro t x; try simp only)))
@[simp] theorem State.loseEntry_touch (nsid g cause : Nat) (s : State) {m : Nat} (hm : m &&& 8458272 = 8458272) {s₀ : State} (h₀ : Touch m s₀ s) : Touch m s₀ (State.loseEntry nsid g cause s) := by
  refine h₀.step hm ?_
  clear h₀ hm
  unfold State.loseEntry
  (repeat' (first | (simp (maxDischargeDepth := 60) [*]; done) | split | dsimp only | (apply touch_foldl _ _ _ _ (by simp (maxDischargeDepth := 60) [*]); intro t x; try simp only)))
@[simp] theorem State.placeGranule_touch (nsid g dsn : Nat) (lost : List Nat) (s : State) {m : Nat} (hm : m &&& 4096 = 4096) {s₀ : State} (h₀ : Touch m s₀ s) : Touch m s₀ (State.placeGranule nsid g dsn lost s) := by
  refine h₀.step hm ?_
  clear h₀ hm
  unfold State.placeGranule
  (repeat' (first | (simp (maxDischargeDepth := 60) [*]; done) | split | dsimp only | (apply touch_foldl _ _ _ _ (by simp (maxDischargeDepth := 60) [*]); intro t x; try simp only)))
@[simp] theorem State.mergeSlot_touch (nsid g dsn k : Nat) (old : SlotData) (lost : Bool) (s : State) {m : Nat} (hm : m &&& 4096 = 4096) {s₀ : State} (h₀ : Touch m s₀ s) : Touch m s₀ (State.mergeSlot nsid g dsn k old lost s) := by
  refine h₀.step hm ?_
  clear h₀ hm
  unfold State.mergeSlot
  (repeat' (first | (simp (maxDischargeDepth := 60) [*]; done) | split | dsimp only | (apply touch_foldl _ _ _ _ (by simp (maxDischargeDepth := 60) [*]); intro t x; try simp only)))
@[simp] theorem State.mergeKnown_touch (l : LockHold) (s : State) {m : Nat} (hm : m &&& 4096 = 4096) {s₀ : State} (h₀ : Touch m s₀ s) : Touch m s₀ (State.mergeKnown l s) := by
  refine h₀.step hm ?_
  clear h₀ hm
  unfold State.mergeKnown
  (repeat' (first | (simp (maxDischargeDepth := 60) [*]; done) | split | dsimp only | (apply touch_foldl _ _ _ _ (by simp (maxDischargeDepth := 60) [*]); intro t x; try simp only)))
@[simp] theorem State.lockStart_touch (s : State) {m : Nat} (hm : m &&& 4096 = 4096) {s₀ : State} (h₀ : Touch m s₀ s) : Touch m s₀ (State.lockStart s) := by
  refine h₀.step hm ?_
  clear h₀ hm
  unfold State.lockStart
  (repeat' (first | (simp (maxDischargeDepth := 60) [*]; done) | split | dsimp only | (apply touch_foldl _ _ _ _ (by simp (maxDischargeDepth := 60) [*]); intro t x; try simp only)))
theorem State.takeBufs_touch (unit : Nat) (sl : Option Nat) (ns : List Nat) (p : Option (BitVec 24)) (s s' : State) (hs : List (BitVec 24))
    (h : s.takeBufs unit sl ns p = some (s', hs)) : Touch 262177 s s' := by
  induction ns generalizing s p hs with
  | nil =>
    simp only [State.takeBufs, Option.some.injEq, Prod.mk.injEq] at h
    rw [← h.1]
    exact Touch.refl _ s
  | cons n ns ih =>
    unfold State.takeBufs at h
    split at h
    · cases h
    · split at h
      · split at h
        · cases h
        · split at h
          · simp only [Option.map_eq_some_iff] at h
            obtain ⟨⟨t, ks⟩, ht, he⟩ := h
            simp only [Prod.mk.injEq] at he
            cases he.1
            exact (State.grantFrom_touch _ _ _ (by simp) (Touch.refl _ s)).trans (ih _ _ _ ht)
          · cases h
      · cases h
theorem State.takeReserved_touch (unit : Nat) (sl : Option Nat) (k n : Nat) (p : Option (BitVec 24)) (s s' : State) (hs : List (BitVec 24))
    (h : s.takeReserved unit sl k n p = some (s', hs)) : Touch 262177 s s' := by
  induction n generalizing s p hs with
  | zero =>
    simp only [State.takeReserved, Option.some.injEq, Prod.mk.injEq] at h
    rw [← h.1]
    exact Touch.refl _ s
  | succ n ih =>
    unfold State.takeReserved at h
    split at h
    · cases h
    · split at h
      · simp only [Option.map_eq_some_iff] at h
        obtain ⟨⟨t, ks⟩, ht, he⟩ := h
        simp only [Prod.mk.injEq] at he
        cases he.1
        exact (State.grantReserved_touch _ _ _ (by simp) (Touch.refl _ s)).trans (ih _ _ _ ht)
      · cases h
theorem State.takeSet_touch (urgent : Bool) (s t : State) (hs : List (BitVec 24)) (h : State.takeSet urgent s = some (t, hs)) : Touch 262177 s t := by
  unfold State.takeSet at h
  split at h
  · cases h
    exact (State.takeBufs_touch _ _ _ _ _ _ _ ‹_›).mono (by decide)
  · split at h
    · exact (State.takeReserved_touch _ _ _ _ _ _ _ _ h).mono (by decide)
    · cases h
theorem State.takeFrames_touch (urgent : Bool) (l : List (Loc × Bool)) (s t : State) (h : State.takeFrames urgent l s = some t) : Touch 294945 s t := by
  induction l generalizing s with
  | nil =>
    simp only [State.takeFrames, Option.some.injEq] at h
    rw [← h]
    exact Touch.refl _ s
  | cons f fs ih =>
    unfold State.takeFrames at h
    split at h
    · exact (touch_modCdx _ (by decide) ((State.takeSet_touch _ _ _ _ ‹_›).mono (by decide))).trans (ih _ h)
    · cases h
@[simp] theorem State.sweepRaw_touch (s : State) {m : Nat} (hm : m &&& 13926945 = 13926945) {s₀ : State} (h₀ : Touch m s₀ s) : Touch m s₀ (State.sweepRaw s) := by
  refine h₀.step hm ?_
  clear h₀ hm
  unfold State.sweepRaw
  (repeat' (first | (simp (maxDischargeDepth := 60) [*]; done) | split | dsimp only | (apply touch_foldl _ _ _ _ (by simp (maxDischargeDepth := 60) [*]); intro t x; try simp only)))
@[simp] theorem State.xferFrames_touch (x : Xfer) (s : State) {m : Nat} (hm : m &&& 294945 = 294945) {s₀ : State} (h₀ : Touch m s₀ s) : Touch m s₀ (State.xferFrames x s) := by
  refine h₀.step hm ?_
  clear h₀ hm
  unfold State.xferFrames
  split
  · exact Touch.refl _ _
  · split
    · exact (State.takeFrames_touch _ _ _ _ ‹_›).mono (by decide)
    · exact Touch.refl _ _
@[simp] theorem State.xferPiece_touch (s : State) (ch : Nat) {m : Nat} (hm : m &&& 319521 = 319521) {s₀ : State} (h₀ : Touch m s₀ s) : Touch m s₀ (State.xferPiece s ch) := by
  refine h₀.step hm ?_
  clear h₀ hm
  unfold State.xferPiece
  (repeat' (first | (simp (maxDischargeDepth := 60) [*]; done) | split | dsimp only | (apply touch_foldl _ _ _ _ (by simp (maxDischargeDepth := 60) [*]); intro t x; try simp only)))
@[simp] theorem State.xferTick_touch (s : State) {m : Nat} (hm : m &&& 319521 = 319521) {s₀ : State} (h₀ : Touch m s₀ s) : Touch m s₀ (State.xferTick s) := by
  refine h₀.step hm ?_
  clear h₀ hm
  unfold State.xferTick
  (repeat' (first | (simp (maxDischargeDepth := 60) [*]; done) | split | dsimp only | (apply touch_foldl _ _ _ _ (by simp (maxDischargeDepth := 60) [*]); intro t x; try simp only)))
theorem State.copyBuf_touch (num p : Nat) (s t : State) (h : BitVec 24) (e : s.copyBuf num p = some (t, h)) : Touch 266273 s t := by
  unfold State.copyBuf at e
  (repeat' split at e) <;> cases e
  · exact Touch.refl _ _
  · exact touch_modMxe _ (by decide) ((State.takeBufs_touch _ _ _ _ _ _ _ ‹_›).mono (by decide))
theorem State.copyStage_touch (num k : Nat) (d : SlotData) (s : State) : Touch 266273 s (State.copyStage num k d s).1 := by
  unfold State.copyStage
  split
  · have k := (State.copyBuf_touch _ _ _ _ _ ‹_›).mono (m := 266273) (by decide)
    simp (maxDischargeDepth := 60) [k]
  · exact Touch.refl _ _
@[simp] theorem State.sweepJobBufs_touch (s : State) {m : Nat} (hm : m &&& 13898273 = 13898273) {s₀ : State} (h₀ : Touch m s₀ s) : Touch m s₀ (State.sweepJobBufs s) := by
  refine h₀.step hm ?_
  clear h₀ hm
  unfold State.sweepJobBufs
  (repeat' (first | (simp (maxDischargeDepth := 60) [*]; done) | split | dsimp only | (apply touch_foldl _ _ _ _ (by simp (maxDischargeDepth := 60) [*]); intro t x; try simp only)))
@[simp] theorem State.jobSlot_touch (num k : Nat) (c : SlotCell) (s : State) {m : Nat} (hm : m &&& 266273 = 266273) {s₀ : State} (h₀ : Touch m s₀ s) : Touch m s₀ (State.jobSlot num k c s) := by
  refine h₀.step hm ?_
  clear h₀ hm
  unfold State.jobSlot
  split
  rename_i t a ht
  have q := (State.copyStage_touch num k c.data s).mono (m := 266273) (by decide)
  rw [ht] at q
  dsimp only at q ⊢
  (repeat' split) <;> first | exact q | exact touch_modMxe _ (by decide) q
@[simp] theorem State.relocateNow_touch (nsid g : Nat) (src : Loc) (high : Bool) (s : State) {m : Nat} (hm : m &&& 266273 = 266273) {s₀ : State} (h₀ : Touch m s₀ s) : Touch m s₀ (State.relocateNow nsid g src high s) := by
  refine h₀.step hm ?_
  clear h₀ hm
  unfold State.relocateNow
  (repeat' (first | (simp (maxDischargeDepth := 60) [*]; done) | split | dsimp only | (apply touch_foldl _ _ _ _ (by simp (maxDischargeDepth := 60) [*]); intro t x; try simp only)))
@[simp] theorem State.freeCtx_touch (c : Nat) (s : State) {m : Nat} (hm : m &&& 512 = 512) {s₀ : State} (h₀ : Touch m s₀ s) : Touch m s₀ (State.freeCtx c s) := by
  refine h₀.step hm ?_
  clear h₀ hm
  unfold State.freeCtx
  (repeat' (first | (simp (maxDischargeDepth := 60) [*]; done) | split | dsimp only | (apply touch_foldl _ _ _ _ (by simp (maxDischargeDepth := 60) [*]); intro t x; try simp only)))
@[simp] theorem State.sendPiece_touch (c : Nat) (x : Ctx) (p : Nat × Nat × Nat) (s : State) {m : Nat} (hm : m &&& 1825 = 1825) {s₀ : State} (h₀ : Touch m s₀ s) : Touch m s₀ (State.sendPiece c x p s) := by
  refine h₀.step hm ?_
  clear h₀ hm
  unfold State.sendPiece
  (repeat' (first | (simp (maxDischargeDepth := 60) [*]; done) | split | dsimp only | (apply touch_foldl _ _ _ _ (by simp (maxDischargeDepth := 60) [*]); intro t x; try simp only)))
@[simp] theorem State.sendPieces_touch (c : Nat) (x : Ctx) (l : List (Nat × Nat × Nat)) (s : State) {m : Nat} (hm : m &&& 1825 = 1825) {s₀ : State} (h₀ : Touch m s₀ s) : Touch m s₀ (State.sendPieces c x l s) := by
  refine h₀.step hm ?_
  clear h₀ hm
  induction l generalizing s with
  | nil => simp [State.sendPieces]
  | cons p ps ih =>
    unfold State.sendPieces
    split
    · simp
    · split
      · exact Touch.trans (by simp (maxDischargeDepth := 60)) (ih _)
      · simp (maxDischargeDepth := 60)
@[simp] theorem State.dataOut_touch (c : Nat) (x : Ctx) (s : State) {m : Nat} (hm : m &&& 1825 = 1825) {s₀ : State} (h₀ : Touch m s₀ s) : Touch m s₀ (State.dataOut c x s) := by
  refine h₀.step hm ?_
  clear h₀ hm
  unfold State.dataOut
  (repeat' (first | (simp (maxDischargeDepth := 60) [*]; done) | split | dsimp only | (apply touch_foldl _ _ _ _ (by simp (maxDischargeDepth := 60) [*]); intro t x; try simp only)))
@[simp] theorem State.readAdvance_touch (c : Nat) (s : State) {m : Nat} (hm : m &&& 13895457 = 13895457) {s₀ : State} (h₀ : Touch m s₀ s) : Touch m s₀ (State.readAdvance c s) := by
  refine h₀.step hm ?_
  clear h₀ hm
  unfold State.readAdvance
  (repeat' (first | (simp (maxDischargeDepth := 60) [*]; done) | split | dsimp only | (apply touch_foldl _ _ _ _ (by simp (maxDischargeDepth := 60) [*]); intro t x; try simp only)))
@[simp] theorem State.dataResume_touch (s : State) {m : Nat} (hm : m &&& 1825 = 1825) {s₀ : State} (h₀ : Touch m s₀ s) : Touch m s₀ (State.dataResume s) := by
  refine h₀.step hm ?_
  clear h₀ hm
  unfold State.dataResume
  (repeat' (first | (simp (maxDischargeDepth := 60) [*]; done) | split | dsimp only | (apply touch_foldl _ _ _ _ (by simp (maxDischargeDepth := 60) [*]); intro t x; try simp only)))
theorem State.slotBuf_touch (x : Ctx) (s t : State) (h : BitVec 24) (e : State.slotBuf x s = some (t, h)) : Touch 262177 s t := by
  unfold State.slotBuf at e
  (repeat' split at e) <;> cases e
  · exact (State.takeBufs_touch _ _ _ _ _ _ _ ‹_›).mono (by decide)
  · exact (State.takeReserved_touch _ _ _ _ _ _ _ _ ‹_›).mono (by decide)
@[simp] theorem State.readSlot_touch (c : Nat) (x : Ctx) (w : SlotWork) (d : Option SlotData) (status : Nat) (s : State) {m : Nat} (hm : m &&& 13895457 = 13895457) {s₀ : State} (h₀ : Touch m s₀ s) : Touch m s₀ (State.readSlot c x w d status s) := by
  refine h₀.step hm ?_
  clear h₀ hm
  unfold State.readSlot
  have k : Touch 13895457 s (match d, s.slotBuf x with
      | some v, some (t, h) => (t.modBpm fun b => b.sramWrite (b.offset (hPool h) (hIdx h)) (leBytes 4096 v.toNat), some h)
      | _, _ => (s, none)).1 := by
    split
    · have k := (State.slotBuf_touch _ _ _ _ ‹_›).mono (m := 13895457) (by decide)
      simp [k]
    · exact Touch.refl _ _
  dsimp only at k ⊢
  exact State.readAdvance_touch _ _ (by decide) (State.modCtx_touch _ _ _ (by decide) k)
@[simp] theorem State.countL5_touch (l : Loc) (v : Nat) (s : State) {m : Nat} (hm : m &&& 32 = 32) {s₀ : State} (h₀ : Touch m s₀ s) : Touch m s₀ (State.countL5 l v s) := by
  refine h₀.step hm ?_
  clear h₀ hm
  unfold State.countL5
  (repeat' (first | (simp (maxDischargeDepth := 60) [*]; done) | split | dsimp only | (apply touch_foldl _ _ _ _ (by simp (maxDischargeDepth := 60) [*]); intro t x; try simp only)))
@[simp] theorem State.afterDecode_touch (l : Loc) (v : Nat) (s : State) {m : Nat} (hm : m &&& 8654881 = 8654881) {s₀ : State} (h₀ : Touch m s₀ s) : Touch m s₀ (State.afterDecode l v s) := by
  refine h₀.step hm ?_
  clear h₀ hm
  unfold State.afterDecode
  (repeat' (first | (simp (maxDischargeDepth := 60) [*]; done) | split | dsimp only | (apply touch_foldl _ _ _ _ (by simp (maxDischargeDepth := 60) [*]); intro t x; try simp only)))
@[simp] theorem State.unrecovered_touch (l : Loc) (s : State) {m : Nat} (hm : m &&& 9506848 = 9506848) {s₀ : State} (h₀ : Touch m s₀ s) : Touch m s₀ (State.unrecovered l s) := by
  refine h₀.step hm ?_
  clear h₀ hm
  unfold State.unrecovered
  (repeat' (first | (simp (maxDischargeDepth := 60) [*]; done) | split | dsimp only | (apply touch_foldl _ _ _ _ (by simp (maxDischargeDepth := 60) [*]); intro t x; try simp only)))
@[simp] theorem State.deliver_touch (c : SlotCell) (v : Nat) (r : Reader) (s : State) {m : Nat} (hm : m &&& 13932321 = 13932321) {s₀ : State} (h₀ : Touch m s₀ s) : Touch m s₀ (State.deliver c v r s) := by
  refine h₀.step hm ?_
  clear h₀ hm
  unfold State.deliver
  (repeat' (first | (simp (maxDischargeDepth := 60) [*]; done) | split | dsimp only | (apply touch_foldl _ _ _ _ (by simp (maxDischargeDepth := 60) [*]); intro t x; try simp only) | (with_reducible refine touch_modMxe _ (by decide) ?_) | (with_reducible refine touch_modCdx _ (by decide) ?_) | (with_reducible refine touch_modSpe _ (by decide) ?_) | (with_reducible refine touch_modFca _ (by decide) ?_) | (with_reducible refine State.modOp_touch _ _ _ (by decide) ?_) | (with_reducible refine State.slotsSubmitted_touch _ _ (by decide) ?_) | (with_reducible refine State.bandFilled_touch _ _ (by decide) ?_) | (with_reducible refine touch_foldl _ _ _ _ ?_ (fun t x => ?_))  | (with_reducible refine State.readSlot_touch _ _ _ _ _ _ (by decide) ?_)))
@[simp] theorem State.deliverLost_touch (r : Reader) (s : State) {m : Nat} (hm : m &&& 13899553 = 13899553) {s₀ : State} (h₀ : Touch m s₀ s) : Touch m s₀ (State.deliverLost r s) := by
  refine h₀.step hm ?_
  clear h₀ hm
  unfold State.deliverLost
  (repeat' (first | (simp (maxDischargeDepth := 60) [*]; done) | split | dsimp only | (apply touch_foldl _ _ _ _ (by simp (maxDischargeDepth := 60) [*]); intro t x; try simp only) | (with_reducible refine touch_modMxe _ (by decide) ?_) | (with_reducible refine touch_modCdx _ (by decide) ?_) | (with_reducible refine touch_modSpe _ (by decide) ?_) | (with_reducible refine touch_modFca _ (by decide) ?_) | (with_reducible refine State.modOp_touch _ _ _ (by decide) ?_) | (with_reducible refine State.slotsSubmitted_touch _ _ (by decide) ?_) | (with_reducible refine State.bandFilled_touch _ _ (by decide) ?_) | (with_reducible refine touch_foldl _ _ _ _ ?_ (fun t x => ?_))  | (with_reducible refine State.readSlot_touch _ _ _ _ _ _ (by decide) ?_)))
@[simp] theorem State.misdirected_touch (l : Loc) (r : Reader) (s : State) {m : Nat} (hm : m &&& 8393248 = 8393248) {s₀ : State} (h₀ : Touch m s₀ s) : Touch m s₀ (State.misdirected l r s) := by
  refine h₀.step hm ?_
  clear h₀ hm
  unfold State.misdirected
  (repeat' (first | (simp (maxDischargeDepth := 60) [*]; done) | split | dsimp only | (apply touch_foldl _ _ _ _ (by simp (maxDischargeDepth := 60) [*]); intro t x; try simp only)))
@[simp] theorem State.correct_touch (l : Loc) (attempt : Nat) (s : State) {m : Nat} (hm : m &&& 32768 = 32768) {s₀ : State} (h₀ : Touch m s₀ s) : Touch m s₀ (State.correct l attempt s) := by
  refine h₀.step hm ?_
  clear h₀ hm
  unfold State.correct
  (repeat' (first | (simp (maxDischargeDepth := 60) [*]; done) | split | dsimp only | (apply touch_foldl _ _ _ _ (by simp (maxDischargeDepth := 60) [*]); intro t x; try simp only)))
@[simp] theorem State.frameEnds_touch (l : Loc) (s : State) {m : Nat} (hm : m &&& 32768 = 32768) {s₀ : State} (h₀ : Touch m s₀ s) : Touch m s₀ (State.frameEnds l s) := by
  refine h₀.step hm ?_
  clear h₀ hm
  unfold State.frameEnds
  (repeat' (first | (simp (maxDischargeDepth := 60) [*]; done) | split | dsimp only | (apply touch_foldl _ _ _ _ (by simp (maxDischargeDepth := 60) [*]); intro t x; try simp only)))
@[simp] theorem State.climbTo_touch (l : Loc) (k : Nat) (st : Nat × Nat) (r : Reader) (s : State) {m : Nat} (hm : m &&& 40960 = 40960) {s₀ : State} (h₀ : Touch m s₀ s) : Touch m s₀ (State.climbTo l k st r s) := by
  refine h₀.step hm ?_
  clear h₀ hm
  unfold State.climbTo
  (repeat' (first | (simp (maxDischargeDepth := 60) [*]; done) | split | dsimp only | (apply touch_foldl _ _ _ _ (by simp (maxDischargeDepth := 60) [*]); intro t x; try simp only)))
@[simp] theorem State.dropRecovery_touch (s : State) {m : Nat} (hm : m &&& 40960 = 40960) {s₀ : State} (h₀ : Touch m s₀ s) : Touch m s₀ (State.dropRecovery s) := by
  refine h₀.step hm ?_
  clear h₀ hm
  unfold State.dropRecovery
  (repeat' (first | (simp (maxDischargeDepth := 60) [*]; done) | split | dsimp only | (apply touch_foldl _ _ _ _ (by simp (maxDischargeDepth := 60) [*]); intro t x; try simp only)))
@[simp] theorem State.decodeRead_touch (l : Loc) (res : DecodeResult) (s : State) {m : Nat} (hm : m &&& 13997857 = 13997857) {s₀ : State} (h₀ : Touch m s₀ s) : Touch m s₀ (State.decodeRead l res s) := by
  refine h₀.step hm ?_
  clear h₀ hm
  unfold State.decodeRead
  (repeat' (first | (simp (maxDischargeDepth := 60) [*]; done) | split | dsimp only | (apply touch_foldl _ _ _ _ (by simp (maxDischargeDepth := 60) [*]); intro t x; try simp only)))
@[simp] theorem State.verifyPass_touch (k : Nat) (s : State) {m : Nat} (hm : m &&& 16384 = 16384) {s₀ : State} (h₀ : Touch m s₀ s) : Touch m s₀ (State.verifyPass k s) := by
  refine h₀.step hm ?_
  clear h₀ hm
  unfold State.verifyPass
  (repeat' (first | (simp (maxDischargeDepth := 60) [*]; done) | split | dsimp only | (apply touch_foldl _ _ _ _ (by simp (maxDischargeDepth := 60) [*]); intro t x; try simp only)))
@[simp] theorem State.verifyFail_touch (l : Loc) (s : State) {m : Nat} (hm : m &&& 12907041 = 12907041) {s₀ : State} (h₀ : Touch m s₀ s) : Touch m s₀ (State.verifyFail l s) := by
  refine h₀.step hm ?_
  clear h₀ hm
  unfold State.verifyFail
  (repeat' (first | (simp (maxDischargeDepth := 60) [*]; done) | split | dsimp only | (apply touch_foldl _ _ _ _ (by simp (maxDischargeDepth := 60) [*]); intro t x; try simp only)))
@[simp] theorem State.readAgain_touch (l : Loc) (s : State) {m : Nat} (hm : m &&& 40960 = 40960) {s₀ : State} (h₀ : Touch m s₀ s) : Touch m s₀ (State.readAgain l s) := by
  refine h₀.step hm ?_
  clear h₀ hm
  unfold State.readAgain
  (repeat' (first | (simp (maxDischargeDepth := 60) [*]; done) | split | dsimp only | (apply touch_foldl _ _ _ _ (by simp (maxDischargeDepth := 60) [*]); intro t x; try simp only)))
@[simp] theorem State.verifyEnds_touch (l : Loc) (s : State) {m : Nat} (hm : m &&& 32768 = 32768) {s₀ : State} (h₀ : Touch m s₀ s) : Touch m s₀ (State.verifyEnds l s) := by
  refine h₀.step hm ?_
  clear h₀ hm
  unfold State.verifyEnds
  (repeat' (first | (simp (maxDischargeDepth := 60) [*]; done) | split | dsimp only | (apply touch_foldl _ _ _ _ (by simp (maxDischargeDepth := 60) [*]); intro t x; try simp only)))
@[simp] theorem State.storeTheta_touch (s : State) {m : Nat} (hm : m &&& 32768 = 32768) {s₀ : State} (h₀ : Touch m s₀ s) : Touch m s₀ (State.storeTheta s) := by
  refine h₀.step hm ?_
  clear h₀ hm
  unfold State.storeTheta
  (repeat' (first | (simp (maxDischargeDepth := 60) [*]; done) | split | dsimp only | (apply touch_foldl _ _ _ _ (by simp (maxDischargeDepth := 60) [*]); intro t x; try simp only)))
@[simp] theorem State.addOffInterval_touch (s : State) {m : Nat} (hm : m &&& 32768 = 32768) {s₀ : State} (h₀ : Touch m s₀ s) : Touch m s₀ (State.addOffInterval s) := by
  refine h₀.step hm ?_
  clear h₀ hm
  unfold State.addOffInterval
  (repeat' (first | (simp (maxDischargeDepth := 60) [*]; done) | split | dsimp only | (apply touch_foldl _ _ _ _ (by simp (maxDischargeDepth := 60) [*]); intro t x; try simp only)))
@[simp] theorem State.fleetNowValid_touch (s : State) {m : Nat} (hm : m &&& 32768 = 32768) {s₀ : State} (h₀ : Touch m s₀ s) : Touch m s₀ (State.fleetNowValid s) := by
  refine h₀.step hm ?_
  clear h₀ hm
  unfold State.fleetNowValid
  (repeat' (first | (simp (maxDischargeDepth := 60) [*]; done) | split | dsimp only | (apply touch_foldl _ _ _ _ (by simp (maxDischargeDepth := 60) [*]); intro t x; try simp only)))
@[simp] theorem State.scrubSample_touch (x : ScrubSample) (s : State) {m : Nat} (hm : m &&& 9768993 = 9768993) {s₀ : State} (h₀ : Touch m s₀ s) : Touch m s₀ (State.scrubSample x s) := by
  refine h₀.step hm ?_
  clear h₀ hm
  unfold State.scrubSample
  (repeat' (first | (simp (maxDischargeDepth := 60) [*]; done) | split | dsimp only | (apply touch_foldl _ _ _ _ (by simp (maxDischargeDepth := 60) [*]); intro t x; try simp only)))
@[simp] theorem State.scrubPeriod_touch (s : State) {m : Nat} (hm : m &&& 32768 = 32768) {s₀ : State} (h₀ : Touch m s₀ s) : Touch m s₀ (State.scrubPeriod s) := by
  refine h₀.step hm ?_
  clear h₀ hm
  unfold State.scrubPeriod
  (repeat' (first | (simp (maxDischargeDepth := 60) [*]; done) | split | dsimp only | (apply touch_foldl _ _ _ _ (by simp (maxDischargeDepth := 60) [*]); intro t x; try simp only)))
@[simp] theorem State.wearSteps_touch (p : Nat) (s : State) {m : Nat} (hm : m &&& 12616225 = 12616225) {s₀ : State} (h₀ : Touch m s₀ s) : Touch m s₀ (State.wearSteps p s) := by
  refine h₀.step hm ?_
  clear h₀ hm
  unfold State.wearSteps
  (repeat' (first | (simp (maxDischargeDepth := 60) [*]; done) | split | dsimp only | (apply touch_foldl _ _ _ _ (by simp (maxDischargeDepth := 60) [*]); intro t x; try simp only)))
@[simp] theorem State.keyStart_touch (op : KeyOp) (code slot : Nat) (s : State) {m : Nat} (hm : m &&& 32800 = 32800) {s₀ : State} (h₀ : Touch m s₀ s) : Touch m s₀ (State.keyStart op code slot s) := by
  refine h₀.step hm ?_
  clear h₀ hm
  unfold State.keyStart
  (repeat' (first | (simp (maxDischargeDepth := 60) [*]; done) | split | dsimp only | (apply touch_foldl _ _ _ _ (by simp (maxDischargeDepth := 60) [*]); intro t x; try simp only)))
@[simp] theorem State.keyLoaded_touch (slot : Nat) (s : State) {m : Nat} (hm : m &&& 32768 = 32768) {s₀ : State} (h₀ : Touch m s₀ s) : Touch m s₀ (State.keyLoaded slot s) := by
  refine h₀.step hm ?_
  clear h₀ hm
  unfold State.keyLoaded
  (repeat' (first | (simp (maxDischargeDepth := 60) [*]; done) | split | dsimp only | (apply touch_foldl _ _ _ _ (by simp (maxDischargeDepth := 60) [*]); intro t x; try simp only)))
@[simp] theorem State.keyGenerated_touch (slot : Nat) (s : State) {m : Nat} (hm : m &&& 32770 = 32770) {s₀ : State} (h₀ : Touch m s₀ s) : Touch m s₀ (State.keyGenerated slot s) := by
  refine h₀.step hm ?_
  clear h₀ hm
  unfold State.keyGenerated
  (repeat' (first | (simp (maxDischargeDepth := 60) [*]; done) | split | dsimp only | (apply touch_foldl _ _ _ _ (by simp (maxDischargeDepth := 60) [*]); intro t x; try simp only)))
@[simp] theorem State.dramLog_touch (c : DramCoord) (uncorr : Bool) (dev : Nat) (s : State) {m : Nat} (hm : m &&& 8388640 = 8388640) {s₀ : State} (h₀ : Touch m s₀ s) : Touch m s₀ (State.dramLog c uncorr dev s) := by
  refine h₀.step hm ?_
  clear h₀ hm
  unfold State.dramLog
  (repeat' (first | (simp (maxDischargeDepth := 60) [*]; done) | split | dsimp only | (apply touch_foldl _ _ _ _ (by simp (maxDischargeDepth := 60) [*]); intro t x; try simp only)))
@[simp] theorem State.dramEcc_touch (addr : Nat) (e : EccResult) (s : State) {m : Nat} (hm : m &&& 8912928 = 8912928) {s₀ : State} (h₀ : Touch m s₀ s) : Touch m s₀ (State.dramEcc addr e s) := by
  refine h₀.step hm ?_
  clear h₀ hm
  unfold State.dramEcc
  (repeat' (first | (simp (maxDischargeDepth := 60) [*]; done) | split | dsimp only | (apply touch_foldl _ _ _ _ (by simp (maxDischargeDepth := 60) [*]); intro t x; try simp only)))
@[simp] theorem State.activate_touch (c : DramCoord) (s : State) {m : Nat} (hm : m &&& 524321 = 524321) {s₀ : State} (h₀ : Touch m s₀ s) : Touch m s₀ (State.activate c s) := by
  refine h₀.step hm ?_
  clear h₀ hm
  unfold State.activate
  (repeat' (first | (simp (maxDischargeDepth := 60) [*]; done) | split | dsimp only | (apply touch_foldl _ _ _ _ (by simp (maxDischargeDepth := 60) [*]); intro t x; try simp only)))
@[simp] theorem State.pageAfter_touch (r : DramReq) (hit : Bool) (s : State) {m : Nat} (hm : m &&& 524288 = 524288) {s₀ : State} (h₀ : Touch m s₀ s) : Touch m s₀ (State.pageAfter r hit s) := by
  refine h₀.step hm ?_
  clear h₀ hm
  unfold State.pageAfter
  (repeat' (first | (simp (maxDischargeDepth := 60) [*]; done) | split | dsimp only | (apply touch_foldl _ _ _ _ (by simp (maxDischargeDepth := 60) [*]); intro t x; try simp only)))
@[simp] theorem State.dramAnswer_touch (from_ : DramRequester) (addr data : Nat) (poison : Bool) (s : State) {m : Nat} (hm : m &&& 1 = 1) {s₀ : State} (h₀ : Touch m s₀ s) : Touch m s₀ (State.dramAnswer from_ addr data poison s) := by
  refine h₀.step hm ?_
  clear h₀ hm
  unfold State.dramAnswer
  (repeat' (first | (simp (maxDischargeDepth := 60) [*]; done) | split | dsimp only | (apply touch_foldl _ _ _ _ (by simp (maxDischargeDepth := 60) [*]); intro t x; try simp only)))
@[simp] theorem State.dramServe_touch (r : DramReq) (s : State) {m : Nat} (hm : m &&& 8912929 = 8912929) {s₀ : State} (h₀ : Touch m s₀ s) : Touch m s₀ (State.dramServe r s) := by
  refine h₀.step hm ?_
  clear h₀ hm
  unfold State.dramServe
  (repeat' (first | (simp (maxDischargeDepth := 60) [*]; done) | split | dsimp only | (apply touch_foldl _ _ _ _ (by simp (maxDischargeDepth := 60) [*]); intro t x; try simp only)))
@[simp] theorem State.dramTurn_touch (x : Nat) (s : State) {m : Nat} (hm : m &&& 8912929 = 8912929) {s₀ : State} (h₀ : Touch m s₀ s) : Touch m s₀ (State.dramTurn x s) := by
  refine h₀.step hm ?_
  clear h₀ hm
  unfold State.dramTurn
  (repeat' (first | (simp (maxDischargeDepth := 60) [*]; done) | split | dsimp only | (apply touch_foldl _ _ _ _ (by simp (maxDischargeDepth := 60) [*]); intro t x; try simp only)))
@[simp] theorem State.dramTick_touch (s : State) {m : Nat} (hm : m &&& 8912929 = 8912929) {s₀ : State} (h₀ : Touch m s₀ s) : Touch m s₀ (State.dramTick s) := by
  refine h₀.step hm ?_
  clear h₀ hm
  unfold State.dramTick
  (repeat' (first | (simp (maxDischargeDepth := 60) [*]; done) | split | dsimp only | (apply touch_foldl _ _ _ _ (by simp (maxDischargeDepth := 60) [*]); intro t x; try simp only)))
@[simp] theorem State.dramEnqueue_touch (a : DramAccess) (ecc : EccResult) (s : State) {m : Nat} (hm : m &&& 524288 = 524288) {s₀ : State} (h₀ : Touch m s₀ s) : Touch m s₀ (State.dramEnqueue a ecc s) := by
  refine h₀.step hm ?_
  clear h₀ hm
  unfold State.dramEnqueue
  (repeat' (first | (simp (maxDischargeDepth := 60) [*]; done) | split | dsimp only | (apply touch_foldl _ _ _ _ (by simp (maxDischargeDepth := 60) [*]); intro t x; try simp only)))
@[simp] theorem State.refTaken_touch (x : Nat) (s : State) {m : Nat} (hm : m &&& 524288 = 524288) {s₀ : State} (h₀ : Touch m s₀ s) : Touch m s₀ (State.refTaken x s) := by
  refine h₀.step hm ?_
  clear h₀ hm
  unfold State.refTaken
  (repeat' (first | (simp (maxDischargeDepth := 60) [*]; done) | split | dsimp only | (apply touch_foldl _ _ _ _ (by simp (maxDischargeDepth := 60) [*]); intro t x; try simp only)))
@[simp] theorem State.channelDead_touch (ch : Nat) (s : State) {m : Nat} (hm : m &&& 14156321 = 14156321) {s₀ : State} (h₀ : Touch m s₀ s) : Touch m s₀ (State.channelDead ch s) := by
  refine h₀.step hm ?_
  clear h₀ hm
  unfold State.channelDead
  (repeat' (first | (simp (maxDischargeDepth := 60) [*]; done) | split | dsimp only | (apply touch_foldl _ _ _ _ (by simp (maxDischargeDepth := 60) [*]); intro t x; try simp only)))
@[simp] theorem State.caRetrain_touch (ch : Nat) (s : State) {m : Nat} (hm : m &&& 8912929 = 8912929) {s₀ : State} (h₀ : Touch m s₀ s) : Touch m s₀ (State.caRetrain ch s) := by
  refine h₀.step hm ?_
  clear h₀ hm
  unfold State.caRetrain
  (repeat' (first | (simp (maxDischargeDepth := 60) [*]; done) | split | dsimp only | (apply touch_foldl _ _ _ _ (by simp (maxDischargeDepth := 60) [*]); intro t x; try simp only)))
@[simp] theorem State.replayCmds_touch (ch : Nat) (s : State) {m : Nat} (hm : m &&& 524321 = 524321) {s₀ : State} (h₀ : Touch m s₀ s) : Touch m s₀ (State.replayCmds ch s) := by
  refine h₀.step hm ?_
  clear h₀ hm
  unfold State.replayCmds
  (repeat' (first | (simp (maxDischargeDepth := 60) [*]; done) | split | dsimp only | (apply touch_foldl _ _ _ _ (by simp (maxDischargeDepth := 60) [*]); intro t x; try simp only)))
@[simp] theorem State.dramTrain_touch (ch : Nat) (s : State) {m : Nat} (hm : m &&& 524289 = 524289) {s₀ : State} (h₀ : Touch m s₀ s) : Touch m s₀ (State.dramTrain ch s) := by
  refine h₀.step hm ?_
  clear h₀ hm
  unfold State.dramTrain
  (repeat' (first | (simp (maxDischargeDepth := 60) [*]; done) | split | dsimp only | (apply touch_foldl _ _ _ _ (by simp (maxDischargeDepth := 60) [*]); intro t x; try simp only)))
@[simp] theorem State.retStore_touch (n : Nat) (e : RetEntry) (s : State) {m : Nat} (hm : m &&& 192 = 192) {s₀ : State} (h₀ : Touch m s₀ s) : Touch m s₀ (State.retStore n e s) := by
  refine h₀.step hm ?_
  clear h₀ hm
  unfold State.retStore
  (repeat' (first | (simp (maxDischargeDepth := 60) [*]; done) | split | dsimp only | (apply touch_foldl _ _ _ _ (by simp (maxDischargeDepth := 60) [*]); intro t x; try simp only)))
@[simp] theorem State.retireGo_touch (n : Nat) (s : State) {m : Nat} (hm : m &&& 524480 = 524480) {s₀ : State} (h₀ : Touch m s₀ s) : Touch m s₀ (State.retireGo n s) := by
  refine h₀.step hm ?_
  clear h₀ hm
  unfold State.retireGo
  (repeat' (first | (simp (maxDischargeDepth := 60) [*]; done) | split | dsimp only | (apply touch_foldl _ _ _ _ (by simp (maxDischargeDepth := 60) [*]); intro t x; try simp only)))
@[simp] theorem State.retReload_touch (s : State) {m : Nat} (hm : m &&& 32 = 32) {s₀ : State} (h₀ : Touch m s₀ s) : Touch m s₀ (State.retReload s) := by
  refine h₀.step hm ?_
  clear h₀ hm
  unfold State.retReload
  (repeat' (first | (simp (maxDischargeDepth := 60) [*]; done) | split | dsimp only | (apply touch_foldl _ _ _ _ (by simp (maxDischargeDepth := 60) [*]); intro t x; try simp only)))
@[simp] theorem State.srEnter_touch (s : State) {m : Nat} (hm : m &&& 524321 = 524321) {s₀ : State} (h₀ : Touch m s₀ s) : Touch m s₀ (State.srEnter s) := by
  refine h₀.step hm ?_
  clear h₀ hm
  unfold State.srEnter
  (repeat' (first | (simp (maxDischargeDepth := 60) [*]; done) | split | dsimp only | (apply touch_foldl _ _ _ _ (by simp (maxDischargeDepth := 60) [*]); intro t x; try simp only)))
@[simp] theorem State.srExit_touch (s : State) {m : Nat} (hm : m &&& 524289 = 524289) {s₀ : State} (h₀ : Touch m s₀ s) : Touch m s₀ (State.srExit s) := by
  refine h₀.step hm ?_
  clear h₀ hm
  unfold State.srExit
  (repeat' (first | (simp (maxDischargeDepth := 60) [*]; done) | split | dsimp only | (apply touch_foldl _ _ _ _ (by simp (maxDischargeDepth := 60) [*]); intro t x; try simp only)))
@[simp] theorem State.setHum_touch (st : HumState) (s : State) {m : Nat} (hm : m &&& 12714529 = 12714529) {s₀ : State} (h₀ : Touch m s₀ s) : Touch m s₀ (State.setHum st s) := by
  refine h₀.step hm ?_
  clear h₀ hm
  unfold State.setHum
  (repeat' (first | (simp (maxDischargeDepth := 60) [*]; done) | split | dsimp only | (apply touch_foldl _ _ _ _ (by simp (maxDischargeDepth := 60) [*]); intro t x; try simp only)))
@[simp] theorem State.humEval_touch (s : State) {m : Nat} (hm : m &&& 12714529 = 12714529) {s₀ : State} (h₀ : Touch m s₀ s) : Touch m s₀ (State.humEval s) := by
  refine h₀.step hm ?_
  clear h₀ hm
  unfold State.humEval
  (repeat' (first | (simp (maxDischargeDepth := 60) [*]; done) | split | dsimp only | (apply touch_foldl _ _ _ _ (by simp (maxDischargeDepth := 60) [*]); intro t x; try simp only)))
@[simp] theorem State.humInvalidate_touch (s : State) {m : Nat} (hm : m &&& 12714529 = 12714529) {s₀ : State} (h₀ : Touch m s₀ s) : Touch m s₀ (State.humInvalidate s) := by
  refine h₀.step hm ?_
  clear h₀ hm
  unfold State.humInvalidate
  (repeat' (first | (simp (maxDischargeDepth := 60) [*]; done) | split | dsimp only | (apply touch_foldl _ _ _ _ (by simp (maxDischargeDepth := 60) [*]); intro t x; try simp only)))
@[simp] theorem State.humInit_touch (s : State) {m : Nat} (hm : m &&& 12714529 = 12714529) {s₀ : State} (h₀ : Touch m s₀ s) : Touch m s₀ (State.humInit s) := by
  refine h₀.step hm ?_
  clear h₀ hm
  unfold State.humInit
  (repeat' (first | (simp (maxDischargeDepth := 60) [*]; done) | split | dsimp only | (apply touch_foldl _ _ _ _ (by simp (maxDischargeDepth := 60) [*]); intro t x; try simp only)))
@[simp] theorem State.resetHum_touch (s : State) {m : Nat} (hm : m &&& 12714529 = 12714529) {s₀ : State} (h₀ : Touch m s₀ s) : Touch m s₀ (State.resetHum s) := by
  refine h₀.step hm ?_
  clear h₀ hm
  unfold State.resetHum
  (repeat' (first | (simp (maxDischargeDepth := 60) [*]; done) | split | dsimp only | (apply touch_foldl _ _ _ _ (by simp (maxDischargeDepth := 60) [*]); intro t x; try simp only)))
@[simp] theorem State.startTest_touch (s : State) {m : Nat} (hm : m &&& 131072 = 131072) {s₀ : State} (h₀ : Touch m s₀ s) : Touch m s₀ (State.startTest s) := by
  refine h₀.step hm ?_
  clear h₀ hm
  unfold State.startTest
  (repeat' (first | (simp (maxDischargeDepth := 60) [*]; done) | split | dsimp only | (apply touch_foldl _ _ _ _ (by simp (maxDischargeDepth := 60) [*]); intro t x; try simp only)))
@[simp] theorem State.testGo_touch (s : State) {m : Nat} (hm : m &&& 131072 = 131072) {s₀ : State} (h₀ : Touch m s₀ s) : Touch m s₀ (State.testGo s) := by
  refine h₀.step hm ?_
  clear h₀ hm
  unfold State.testGo
  (repeat' (first | (simp (maxDischargeDepth := 60) [*]; done) | split | dsimp only | (apply touch_foldl _ _ _ _ (by simp (maxDischargeDepth := 60) [*]); intro t x; try simp only)))
@[simp] theorem State.testPass_touch (c : Nat) (s : State) {m : Nat} (hm : m &&& 8519776 = 8519776) {s₀ : State} (h₀ : Touch m s₀ s) : Touch m s₀ (State.testPass c s) := by
  refine h₀.step hm ?_
  clear h₀ hm
  unfold State.testPass
  (repeat' (first | (simp (maxDischargeDepth := 60) [*]; done) | split | dsimp only | (apply touch_foldl _ _ _ _ (by simp (maxDischargeDepth := 60) [*]); intro t x; try simp only)))
@[simp] theorem State.testFail_touch (s : State) {m : Nat} (hm : m &&& 8519712 = 8519712) {s₀ : State} (h₀ : Touch m s₀ s) : Touch m s₀ (State.testFail s) := by
  refine h₀.step hm ?_
  clear h₀ hm
  unfold State.testFail
  (repeat' (first | (simp (maxDischargeDepth := 60) [*]; done) | split | dsimp only | (apply touch_foldl _ _ _ _ (by simp (maxDischargeDepth := 60) [*]); intro t x; try simp only)))
@[simp] theorem State.failCluster_touch (k : Cluster) (s : State) {m : Nat} (hm : m &&& 9437216 = 9437216) {s₀ : State} (h₀ : Touch m s₀ s) : Touch m s₀ (State.failCluster k s) := by
  refine h₀.step hm ?_
  clear h₀ hm
  unfold State.failCluster
  (repeat' (first | (simp (maxDischargeDepth := 60) [*]; done) | split | dsimp only | (apply touch_foldl _ _ _ _ (by simp (maxDischargeDepth := 60) [*]); intro t x; try simp only)))
@[simp] theorem State.noClusterLeft_touch (s : State) {m : Nat} (hm : m &&& 13632033 = 13632033) {s₀ : State} (h₀ : Touch m s₀ s) : Touch m s₀ (State.noClusterLeft s) := by
  refine h₀.step hm ?_
  clear h₀ hm
  unfold State.noClusterLeft
  (repeat' (first | (simp (maxDischargeDepth := 60) [*]; done) | split | dsimp only | (apply touch_foldl _ _ _ _ (by simp (maxDischargeDepth := 60) [*]); intro t x; try simp only)))
@[simp] theorem State.epochRefuse_touch (unit kind : Nat) (e : BitVec 8) (s : State) {m : Nat} (hm : m &&& 8388640 = 8388640) {s₀ : State} (h₀ : Touch m s₀ s) : Touch m s₀ (State.epochRefuse unit kind e s) := by
  refine h₀.step hm ?_
  clear h₀ hm
  unfold State.epochRefuse
  (repeat' (first | (simp (maxDischargeDepth := 60) [*]; done) | split | dsimp only | (apply touch_foldl _ _ _ _ (by simp (maxDischargeDepth := 60) [*]); intro t x; try simp only)))
@[simp] theorem State.beginCut_touch (cause : CutCause) (s : State) {m : Nat} (hm : m &&& 9453672 = 9453672) {s₀ : State} (h₀ : Touch m s₀ s) : Touch m s₀ (State.beginCut cause s) := by
  refine h₀.step hm ?_
  clear h₀ hm
  unfold State.beginCut
  (repeat' (first | (simp (maxDischargeDepth := 60) [*]; done) | split | dsimp only | (apply touch_foldl _ _ _ _ (by simp (maxDischargeDepth := 60) [*]); intro t x; try simp only)))
@[simp] theorem State.planCut_touch (cause : CutCause) (s : State) {m : Nat} (hm : m &&& 1048608 = 1048608) {s₀ : State} (h₀ : Touch m s₀ s) : Touch m s₀ (State.planCut cause s) := by
  refine h₀.step hm ?_
  clear h₀ hm
  unfold State.planCut
  (repeat' (first | (simp (maxDischargeDepth := 60) [*]; done) | split | dsimp only | (apply touch_foldl _ _ _ _ (by simp (maxDischargeDepth := 60) [*]); intro t x; try simp only)))
@[simp] theorem State.heartbeat_touch (s : State) {m : Nat} (hm : m &&& 1048576 = 1048576) {s₀ : State} (h₀ : Touch m s₀ s) : Touch m s₀ (State.heartbeat s) := by
  refine h₀.step hm ?_
  clear h₀ hm
  unfold State.heartbeat
  (repeat' (first | (simp (maxDischargeDepth := 60) [*]; done) | split | dsimp only | (apply touch_foldl _ _ _ _ (by simp (maxDischargeDepth := 60) [*]); intro t x; try simp only)))
@[simp] theorem State.takeEpoch_touch (k : Cluster) (g : Gap) (s : State) {m : Nat} (hm : m &&& 9453600 = 9453600) {s₀ : State} (h₀ : Touch m s₀ s) : Touch m s₀ (State.takeEpoch k g s) := by
  refine h₀.step hm ?_
  clear h₀ hm
  unfold State.takeEpoch
  (repeat' (first | (simp (maxDischargeDepth := 60) [*]; done) | split | dsimp only | (apply touch_foldl _ _ _ _ (by simp (maxDischargeDepth := 60) [*]); intro t x; try simp only)))
@[simp] theorem State.scriptGo_touch (s : State) {m : Nat} (hm : m &&& 1048576 = 1048576) {s₀ : State} (h₀ : Touch m s₀ s) : Touch m s₀ (State.scriptGo s) := by
  refine h₀.step hm ?_
  clear h₀ hm
  unfold State.scriptGo
  (repeat' (first | (simp (maxDischargeDepth := 60) [*]; done) | split | dsimp only | (apply touch_foldl _ _ _ _ (by simp (maxDischargeDepth := 60) [*]); intro t x; try simp only)))
@[simp] theorem State.undoCut_touch (s : State) {m : Nat} (hm : m &&& 72 = 72) {s₀ : State} (h₀ : Touch m s₀ s) : Touch m s₀ (State.undoCut s) := by
  refine h₀.step hm ?_
  clear h₀ hm
  unfold State.undoCut
  (repeat' (first | (simp (maxDischargeDepth := 60) [*]; done) | split | dsimp only | (apply touch_foldl _ _ _ _ (by simp (maxDischargeDepth := 60) [*]); intro t x; try simp only)))
@[simp] theorem State.resetClusters_touch (s : State) {m : Nat} (hm : m &&& 5259336 = 5259336) {s₀ : State} (h₀ : Touch m s₀ s) : Touch m s₀ (State.resetClusters s) := by
  refine h₀.step hm ?_
  clear h₀ hm
  unfold State.resetClusters
  (repeat' (first | (simp (maxDischargeDepth := 60) [*]; done) | split | dsimp only | (apply touch_foldl _ _ _ _ (by simp (maxDischargeDepth := 60) [*]); intro t x; try simp only)))
@[simp] theorem State.clusterTick_touch (s : State) {m : Nat} (hm : m &&& 9453672 = 9453672) {s₀ : State} (h₀ : Touch m s₀ s) : Touch m s₀ (State.clusterTick s) := by
  refine h₀.step hm ?_
  clear h₀ hm
  unfold State.clusterTick
  (repeat' (first | (simp (maxDischargeDepth := 60) [*]; done) | split | dsimp only | (apply touch_foldl _ _ _ _ (by simp (maxDischargeDepth := 60) [*]); intro t x; try simp only)))
@[simp] theorem State.healGranule_touch (nsid g : Nat) (s : State) {m : Nat} (hm : m &&& 65536 = 65536) {s₀ : State} (h₀ : Touch m s₀ s) : Touch m s₀ (State.healGranule nsid g s) := by
  refine h₀.step hm ?_
  clear h₀ hm
  unfold State.healGranule
  (repeat' (first | (simp (maxDischargeDepth := 60) [*]; done) | split | dsimp only | (apply touch_foldl _ _ _ _ (by simp (maxDischargeDepth := 60) [*]); intro t x; try simp only)))
@[simp] theorem State.sweepWrites_touch (s : State) {m : Nat} (hm : m &&& 13898273 = 13898273) {s₀ : State} (h₀ : Touch m s₀ s) : Touch m s₀ (State.sweepWrites s) := by
  refine h₀.step hm ?_
  clear h₀ hm
  unfold State.sweepWrites
  (repeat' (first | (simp (maxDischargeDepth := 60) [*]; done) | split | dsimp only | (apply touch_foldl _ _ _ _ (by simp (maxDischargeDepth := 60) [*]); intro t x; try simp only)))
@[simp] theorem State.granuleDone_touch (d : Delta) (s : State) {m : Nat} (hm : m &&& 4608 = 4608) {s₀ : State} (h₀ : Touch m s₀ s) : Touch m s₀ (State.granuleDone d s) := by
  refine h₀.step hm ?_
  clear h₀ hm
  unfold State.granuleDone
  (repeat' (first | (simp (maxDischargeDepth := 60) [*]; done) | split | dsimp only | (apply touch_foldl _ _ _ _ (by simp (maxDischargeDepth := 60) [*]); intro t x; try simp only)))
@[simp] theorem State.noteCommit_touch (nsid g dsn : Nat) (s : State) {m : Nat} (hm : m &&& 4096 = 4096) {s₀ : State} (h₀ : Touch m s₀ s) : Touch m s₀ (State.noteCommit nsid g dsn s) := by
  refine h₀.step hm ?_
  clear h₀ hm
  unfold State.noteCommit
  (repeat' (first | (simp (maxDischargeDepth := 60) [*]; done) | split | dsimp only | (apply touch_foldl _ _ _ _ (by simp (maxDischargeDepth := 60) [*]); intro t x; try simp only)))
@[simp] theorem State.logTrim_touch (d : Delta) (n : Namespace) (a z : Nat) (s : State) {m : Nat} (hm : m &&& 1025 = 1025) {s₀ : State} (h₀ : Touch m s₀ s) : Touch m s₀ (State.logTrim d n a z s) := by
  refine h₀.step hm ?_
  clear h₀ hm
  unfold State.logTrim
  (repeat' (first | (simp (maxDischargeDepth := 60) [*]; done) | split | dsimp only | (apply touch_foldl _ _ _ _ (by simp (maxDischargeDepth := 60) [*]); intro t x; try simp only)))
@[simp] theorem State.logDelta_touch (d : Delta) (s : State) {m : Nat} (hm : m &&& 1057 = 1057) {s₀ : State} (h₀ : Touch m s₀ s) : Touch m s₀ (State.logDelta d s) := by
  refine h₀.step hm ?_
  clear h₀ hm
  unfold State.logDelta
  (repeat' (first | (simp (maxDischargeDepth := 60) [*]; done) | split | dsimp only | (apply touch_foldl _ _ _ _ (by simp (maxDischargeDepth := 60) [*]); intro t x; try simp only)))
@[simp] theorem State.commitHost_touch (d : Delta) (s : State) {m : Nat} (hm : m &&& 71201 = 71201) {s₀ : State} (h₀ : Touch m s₀ s) : Touch m s₀ (State.commitHost d s) := by
  refine h₀.step hm ?_
  clear h₀ hm
  unfold State.commitHost
  (repeat' (first | (simp (maxDischargeDepth := 60) [*]; done) | split | dsimp only | (apply touch_foldl _ _ _ _ (by simp (maxDischargeDepth := 60) [*]); intro t x; try simp only)))
@[simp] theorem State.commitTrim_touch (d : Delta) (s : State) {m : Nat} (hm : m &&& 70689 = 70689) {s₀ : State} (h₀ : Touch m s₀ s) : Touch m s₀ (State.commitTrim d s) := by
  refine h₀.step hm ?_
  clear h₀ hm
  unfold State.commitTrim
  (repeat' (first | (simp (maxDischargeDepth := 60) [*]; done) | split | dsimp only | (apply touch_foldl _ _ _ _ (by simp (maxDischargeDepth := 60) [*]); intro t x; try simp only)))
@[simp] theorem State.lostUnit_touch (job : Nat) (s : State) {m : Nat} (hm : m &&& 65568 = 65568) {s₀ : State} (h₀ : Touch m s₀ s) : Touch m s₀ (State.lostUnit job s) := by
  refine h₀.step hm ?_
  clear h₀ hm
  unfold State.lostUnit
  (repeat' (first | (simp (maxDischargeDepth := 60) [*]; done) | split | dsimp only | (apply touch_foldl _ _ _ _ (by simp (maxDischargeDepth := 60) [*]); intro t x; try simp only)))
@[simp] theorem State.commitCopy_touch (d : Delta) (s : State) {m : Nat} (hm : m &&& 8458272 = 8458272) {s₀ : State} (h₀ : Touch m s₀ s) : Touch m s₀ (State.commitCopy d s) := by
  refine h₀.step hm ?_
  clear h₀ hm
  unfold State.commitCopy
  (repeat' (first | (simp (maxDischargeDepth := 60) [*]; done) | split | dsimp only | (apply touch_foldl _ _ _ _ (by simp (maxDischargeDepth := 60) [*]); intro t x; try simp only)))
@[simp] theorem State.commitDelta_touch (s : State) (d : Delta) {m : Nat} (hm : m &&& 8459809 = 8459809) {s₀ : State} (h₀ : Touch m s₀ s) : Touch m s₀ (State.commitDelta s d) := by
  refine h₀.step hm ?_
  clear h₀ hm
  unfold State.commitDelta
  (repeat' (first | (simp (maxDischargeDepth := 60) [*]; done) | split | dsimp only | (apply touch_foldl _ _ _ _ (by simp (maxDischargeDepth := 60) [*]); intro t x; try simp only)))
@[simp] theorem State.clearMarker_touch (s : State) {m : Nat} (hm : m &&& 16 = 16) {s₀ : State} (h₀ : Touch m s₀ s) : Touch m s₀ (State.clearMarker s) := by
  refine h₀.step hm ?_
  clear h₀ hm
  unfold State.clearMarker
  (repeat' (first | (simp (maxDischargeDepth := 60) [*]; done) | split | dsimp only | (apply touch_foldl _ _ _ _ (by simp (maxDischargeDepth := 60) [*]); intro t x; try simp only)))
@[simp] theorem State.commitReady_touch (s : State) {m : Nat} (hm : m &&& 13964849 = 13964849) {s₀ : State} (h₀ : Touch m s₀ s) : Touch m s₀ (State.commitReady s) := by
  refine h₀.step hm ?_
  clear h₀ hm
  unfold State.commitReady
  (repeat' (first | (simp (maxDischargeDepth := 60) [*]; done) | split | dsimp only | (apply touch_foldl _ _ _ _ (by simp (maxDischargeDepth := 60) [*]); intro t x; try simp only)))
@[simp] theorem State.journalPage_touch (n : Nat) (now : Dword) (s : State) {m : Nat} (hm : m &&& 12288 = 12288) {s₀ : State} (h₀ : Touch m s₀ s) : Touch m s₀ (State.journalPage n now s) := by
  refine h₀.step hm ?_
  clear h₀ hm
  unfold State.journalPage
  (repeat' (first | (simp (maxDischargeDepth := 60) [*]; done) | split | dsimp only | (apply touch_foldl _ _ _ _ (by simp (maxDischargeDepth := 60) [*]); intro t x; try simp only)))
@[simp] theorem State.trimsDone_touch (s : State) {m : Nat} (hm : m &&& 512 = 512) {s₀ : State} (h₀ : Touch m s₀ s) : Touch m s₀ (State.trimsDone s) := by
  refine h₀.step hm ?_
  clear h₀ hm
  unfold State.trimsDone
  (repeat' (first | (simp (maxDischargeDepth := 60) [*]; done) | split | dsimp only | (apply touch_foldl _ _ _ _ (by simp (maxDischargeDepth := 60) [*]); intro t x; try simp only)))
@[simp] theorem State.journalLand_touch (s : State) {m : Nat} (hm : m &&& 4608 = 4608) {s₀ : State} (h₀ : Touch m s₀ s) : Touch m s₀ (State.journalLand s) := by
  refine h₀.step hm ?_
  clear h₀ hm
  unfold State.journalLand
  (repeat' (first | (simp (maxDischargeDepth := 60) [*]; done) | split | dsimp only | (apply touch_foldl _ _ _ _ (by simp (maxDischargeDepth := 60) [*]); intro t x; try simp only)))
@[simp] theorem State.journalPut_touch (a : Bool) (p : JournalPage) (s : State) {m : Nat} (hm : m &&& 4096 = 4096) {s₀ : State} (h₀ : Touch m s₀ s) : Touch m s₀ (State.journalPut a p s) := by
  refine h₀.step hm ?_
  clear h₀ hm
  unfold State.journalPut
  (repeat' (first | (simp (maxDischargeDepth := 60) [*]; done) | split | dsimp only | (apply touch_foldl _ _ _ _ (by simp (maxDischargeDepth := 60) [*]); intro t x; try simp only)))
@[simp] theorem State.journalLose_touch (a b : Bool) (s : State) {m : Nat} (hm : m &&& 4096 = 4096) {s₀ : State} (h₀ : Touch m s₀ s) : Touch m s₀ (State.journalLose a b s) := by
  refine h₀.step hm ?_
  clear h₀ hm
  unfold State.journalLose
  (repeat' (first | (simp (maxDischargeDepth := 60) [*]; done) | split | dsimp only | (apply touch_foldl _ _ _ _ (by simp (maxDischargeDepth := 60) [*]); intro t x; try simp only)))
@[simp] theorem State.journalRestore_touch (s : State) {m : Nat} (hm : m &&& 4096 = 4096) {s₀ : State} (h₀ : Touch m s₀ s) : Touch m s₀ (State.journalRestore s) := by
  refine h₀.step hm ?_
  clear h₀ hm
  unfold State.journalRestore
  (repeat' (first | (simp (maxDischargeDepth := 60) [*]; done) | split | dsimp only | (apply touch_foldl _ _ _ _ (by simp (maxDischargeDepth := 60) [*]); intro t x; try simp only)))
@[simp] theorem State.segmentWritten_touch (nsid seg : Nat) (loc : Loc) (s : State) {m : Nat} (hm : m &&& 4096 = 4096) {s₀ : State} (h₀ : Touch m s₀ s) : Touch m s₀ (State.segmentWritten nsid seg loc s) := by
  refine h₀.step hm ?_
  clear h₀ hm
  unfold State.segmentWritten
  (repeat' (first | (simp (maxDischargeDepth := 60) [*]; done) | split | dsimp only | (apply touch_foldl _ _ _ _ (by simp (maxDischargeDepth := 60) [*]); intro t x; try simp only)))
@[simp] theorem State.copiesAgain_touch (s : State) {m : Nat} (hm : m &&& 4096 = 4096) {s₀ : State} (h₀ : Touch m s₀ s) : Touch m s₀ (State.copiesAgain s) := by
  refine h₀.step hm ?_
  clear h₀ hm
  unfold State.copiesAgain
  (repeat' (first | (simp (maxDischargeDepth := 60) [*]; done) | split | dsimp only | (apply touch_foldl _ _ _ _ (by simp (maxDischargeDepth := 60) [*]); intro t x; try simp only)))
@[simp] theorem State.arrive_touch (n : Nat) (s : State) {m : Nat} (hm : m &&& 264 = 264) {s₀ : State} (h₀ : Touch m s₀ s) : Touch m s₀ (State.arrive n s) := by
  refine h₀.step hm ?_
  clear h₀ hm
  unfold State.arrive
  (repeat' (first | (simp (maxDischargeDepth := 60) [*]; done) | split | dsimp only | (apply touch_foldl _ _ _ _ (by simp (maxDischargeDepth := 60) [*]); intro t x; try simp only)))
@[simp] theorem State.charge_touch (sl rd wr cmd : Nat) (s : State) {m : Nat} (hm : m &&& 1024 = 1024) {s₀ : State} (h₀ : Touch m s₀ s) : Touch m s₀ (State.charge sl rd wr cmd s) := by
  refine h₀.step hm ?_
  clear h₀ hm
  unfold State.charge
  (repeat' (first | (simp (maxDischargeDepth := 60) [*]; done) | split | dsimp only | (apply touch_foldl _ _ _ _ (by simp (maxDischargeDepth := 60) [*]); intro t x; try simp only)))
@[simp] theorem State.chargeTokens_touch (sl : Nat) (e : Sqe) (bytes : Nat) (s : State) {m : Nat} (hm : m &&& 1024 = 1024) {s₀ : State} (h₀ : Touch m s₀ s) : Touch m s₀ (State.chargeTokens sl e bytes s) := by
  refine h₀.step hm ?_
  clear h₀ hm
  unfold State.chargeTokens
  (repeat' (first | (simp (maxDischargeDepth := 60) [*]; done) | split | dsimp only | (apply touch_foldl _ _ _ _ (by simp (maxDischargeDepth := 60) [*]); intro t x; try simp only)))
@[simp] theorem State.fetchOne_touch (key : Nat) (e : Sqe) (s : State) {m : Nat} (hm : m &&& 1792 = 1792) {s₀ : State} (h₀ : Touch m s₀ s) : Touch m s₀ (State.fetchOne key e s) := by
  refine h₀.step hm ?_
  clear h₀ hm
  unfold State.fetchOne
  (repeat' (first | (simp (maxDischargeDepth := 60) [*]; done) | split | dsimp only | (apply touch_foldl _ _ _ _ (by simp (maxDischargeDepth := 60) [*]); intro t x; try simp only)))
@[simp] theorem State.fetchEntries_touch (key : Nat) (l : List Sqe) (s : State) {m : Nat} (hm : m &&& 1792 = 1792) {s₀ : State} (h₀ : Touch m s₀ s) : Touch m s₀ (State.fetchEntries key l s) := by
  refine h₀.step hm ?_
  clear h₀ hm
  induction l generalizing s with
  | nil => simp [State.fetchEntries]
  | cons e es ih =>
    unfold State.fetchEntries
    split
    · split
      · exact Touch.trans (by simp (maxDischargeDepth := 60)) (ih _)
      · simp
    · simp
@[simp] theorem State.failCmd_touch (c status : Nat) (s : State) {m : Nat} (hm : m &&& 13894433 = 13894433) {s₀ : State} (h₀ : Touch m s₀ s) : Touch m s₀ (State.failCmd c status s) := by
  refine h₀.step hm ?_
  clear h₀ hm
  unfold State.failCmd
  (repeat' (first | (simp (maxDischargeDepth := 60) [*]; done) | split | dsimp only | (apply touch_foldl _ _ _ _ (by simp (maxDischargeDepth := 60) [*]); intro t x; try simp only)))
@[simp] theorem State.nsViolation_touch (c : Nat) (s : State) {m : Nat} (hm : m &&& 13895457 = 13895457) {s₀ : State} (h₀ : Touch m s₀ s) : Touch m s₀ (State.nsViolation c s) := by
  refine h₀.step hm ?_
  clear h₀ hm
  unfold State.nsViolation
  (repeat' (first | (simp (maxDischargeDepth := 60) [*]; done) | split | dsimp only | (apply touch_foldl _ _ _ _ (by simp (maxDischargeDepth := 60) [*]); intro t x; try simp only)))
@[simp] theorem State.refuseCtx_touch (unit c : Nat) (s : State) {m : Nat} (hm : m &&& 1048576 = 1048576) {s₀ : State} (h₀ : Touch m s₀ s) : Touch m s₀ (State.refuseCtx unit c s) := by
  refine h₀.step hm ?_
  clear h₀ hm
  unfold State.refuseCtx
  (repeat' (first | (simp (maxDischargeDepth := 60) [*]; done) | split | dsimp only | (apply touch_foldl _ _ _ _ (by simp (maxDischargeDepth := 60) [*]); intro t x; try simp only)))
@[simp] theorem State.discardCtx_touch (c : Nat) (x : Ctx) (s : State) {m : Nat} (hm : m &&& 13894433 = 13894433) {s₀ : State} (h₀ : Touch m s₀ s) : Touch m s₀ (State.discardCtx c x s) := by
  refine h₀.step hm ?_
  clear h₀ hm
  unfold State.discardCtx
  (repeat' (first | (simp (maxDischargeDepth := 60) [*]; done) | split | dsimp only | (apply touch_foldl _ _ _ _ (by simp (maxDischargeDepth := 60) [*]); intro t x; try simp only)))
@[simp] theorem State.squashCtx_touch (s : State) (e : Nat × Ctx) {m : Nat} (hm : m &&& 13898529 = 13898529) {s₀ : State} (h₀ : Touch m s₀ s) : Touch m s₀ (State.squashCtx s e) := by
  refine h₀.step hm ?_
  clear h₀ hm
  unfold State.squashCtx
  (repeat' (first | (simp (maxDischargeDepth := 60) [*]; done) | split | dsimp only | (apply touch_foldl _ _ _ _ (by simp (maxDischargeDepth := 60) [*]); intro t x; try simp only)))
@[simp] theorem State.squashWhere_touch (p : Ctx → Bool) (s : State) {m : Nat} (hm : m &&& 13898529 = 13898529) {s₀ : State} (h₀ : Touch m s₀ s) : Touch m s₀ (State.squashWhere p s) := by
  refine h₀.step hm ?_
  clear h₀ hm
  unfold State.squashWhere
  (repeat' (first | (simp (maxDischargeDepth := 60) [*]; done) | split | dsimp only | (apply touch_foldl _ _ _ _ (by simp (maxDischargeDepth := 60) [*]); intro t x; try simp only)))
@[simp] theorem State.orphansDone_touch (s : State) {m : Nat} (hm : m &&& 512 = 512) {s₀ : State} (h₀ : Touch m s₀ s) : Touch m s₀ (State.orphansDone s) := by
  refine h₀.step hm ?_
  clear h₀ hm
  unfold State.orphansDone
  (repeat' (first | (simp (maxDischargeDepth := 60) [*]; done) | split | dsimp only | (apply touch_foldl _ _ _ _ (by simp (maxDischargeDepth := 60) [*]); intro t x; try simp only)))
@[simp] theorem State.quarantine_touch (p : Tag → Bool) (s : State) {m : Nat} (hm : m &&& 256 = 256) {s₀ : State} (h₀ : Touch m s₀ s) : Touch m s₀ (State.quarantine p s) := by
  refine h₀.step hm ?_
  clear h₀ hm
  unfold State.quarantine
  (repeat' (first | (simp (maxDischargeDepth := 60) [*]; done) | split | dsimp only | (apply touch_foldl _ _ _ _ (by simp (maxDischargeDepth := 60) [*]); intro t x; try simp only)))
@[simp] theorem State.readLooked_touch (c : Nat) (work : List SlotWork) (s : State) {m : Nat} (hm : m &&& 13895457 = 13895457) {s₀ : State} (h₀ : Touch m s₀ s) : Touch m s₀ (State.readLooked c work s) := by
  refine h₀.step hm ?_
  clear h₀ hm
  unfold State.readLooked
  (repeat' (first | (simp (maxDischargeDepth := 60) [*]; done) | split | dsimp only | (apply touch_foldl _ _ _ _ (by simp (maxDischargeDepth := 60) [*]); intro t x; try simp only)))
@[simp] theorem State.ptrGo_touch (c : Nat) (x : Ctx) (f : State → State) (s : State) {m : Nat} (hm : m &&& 13894433 = 13894433)
    (hf : ∀ t, Touch m t (f t)) {s₀ : State} (h₀ : Touch m s₀ s) : Touch m s₀ (State.ptrGo c x f s) := by
  refine h₀.trans ?_
  unfold State.ptrGo
  split
  · exact State.failCmd_touch _ _ _ hm (Touch.refl _ _)
  · split
    · exact Touch.refl _ _
    · exact hf _
@[simp] theorem State.readSlots_touch (c : Nat) (x : Ctx) (n : Namespace) (s : State) {m : Nat} (hm : m &&& 13895457 = 13895457) {s₀ : State} (h₀ : Touch m s₀ s) : Touch m s₀ (State.readSlots c x n s) := by
  refine h₀.step hm ?_
  clear h₀ hm
  unfold State.readSlots
  (repeat' (first | (simp (maxDischargeDepth := 60) [*]; done) | split | dsimp only | (apply touch_foldl _ _ _ _ (by simp (maxDischargeDepth := 60) [*]); intro t x; try simp only)))
@[simp] theorem State.readGo_touch (c : Nat) (x : Ctx) (n : Namespace) (s : State) {m : Nat} (hm : m &&& 13895457 = 13895457) {s₀ : State} (h₀ : Touch m s₀ s) : Touch m s₀ (State.readGo c x n s) := by
  refine h₀.step hm ?_
  clear h₀ hm
  unfold State.readGo
  (repeat' (first | (simp (maxDischargeDepth := 60) [*]; done) | split | dsimp only | (apply touch_foldl _ _ _ _ (by simp (maxDischargeDepth := 60) [*]); intro t x; try simp only)))
@[simp] theorem State.readNs_touch (c : Nat) (x : Ctx) (n : Namespace) (s : State) {m : Nat} (hm : m &&& 13895457 = 13895457) {s₀ : State} (h₀ : Touch m s₀ s) : Touch m s₀ (State.readNs c x n s) := by
  refine h₀.step hm ?_
  clear h₀ hm
  unfold State.readNs
  (repeat' (first | (simp (maxDischargeDepth := 60) [*]; done) | split | dsimp only | (apply touch_foldl _ _ _ _ (by simp (maxDischargeDepth := 60) [*]); intro t x; try simp only)))
theorem State.onOwnNs_touch (c : Nat) (x : Ctx) (f : Namespace → State → State) (s : State) {m : Nat} (hm : m &&& 13895457 = 13895457)
    (hf : ∀ n t, Touch m t (f n t)) {s₀ : State} (h₀ : Touch m s₀ s) : Touch m s₀ (State.onOwnNs c x f s) := by
  refine h₀.trans ?_
  unfold State.onOwnNs
  split
  · exact hf _ _
  · exact State.nsViolation_touch _ _ hm (Touch.refl _ _)
@[simp] theorem State.dataInGo_touch (c : Nat) (pi : PiCheck) (x : Ctx) (s : State) {m : Nat} (hm : m &&& 262945 = 262945) {s₀ : State} (h₀ : Touch m s₀ s) : Touch m s₀ (State.dataInGo c pi x s) := by
  refine h₀.step hm ?_
  clear h₀ hm
  unfold State.dataInGo
  split
  · have k := (State.takeBufs_touch _ _ _ _ _ _ _ ‹_›).mono (m := 262945) (by decide)
    exact State.dmaIssue_touch _ (by decide) (touch_modHlu _ (by decide) (State.modCtx_touch _ _ _ (by decide) k))
  · exact Touch.refl _ _
@[simp] theorem State.writeNs_touch (c : Nat) (pi : PiCheck) (x : Ctx) (n : Namespace) (s : State) {m : Nat} (hm : m &&& 13894433 = 13894433) {s₀ : State} (h₀ : Touch m s₀ s) : Touch m s₀ (State.writeNs c pi x n s) := by
  refine h₀.step hm ?_
  clear h₀ hm
  unfold State.writeNs
  (repeat' (first | (simp (maxDischargeDepth := 60) [*]; done) | split | dsimp only | (apply touch_foldl _ _ _ _ (by simp (maxDischargeDepth := 60) [*]); intro t x; try simp only)))
@[simp] theorem State.dataComplete_touch (c : Nat) (x : Ctx) (s : State) {m : Nat} (hm : m &&& 13894433 = 13894433) {s₀ : State} (h₀ : Touch m s₀ s) : Touch m s₀ (State.dataComplete c x s) := by
  refine h₀.step hm ?_
  clear h₀ hm
  unfold State.dataComplete
  (repeat' (first | (simp (maxDischargeDepth := 60) [*]; done) | split | dsimp only | (apply touch_foldl _ _ _ _ (by simp (maxDischargeDepth := 60) [*]); intro t x; try simp only)))
@[simp] theorem State.enterGranule_touch (x : Ctx) (c dsn : Nat) (n : Namespace) (e : Extent) (src : Nat → Nat → Nat) (stages : Nat → List (Nat × Nat)) (s : State) (g : Nat) {m : Nat} (hm : m &&& 4096 = 4096) {s₀ : State} (h₀ : Touch m s₀ s) : Touch m s₀ (State.enterGranule x c dsn n e src stages s g) := by
  refine h₀.step hm ?_
  clear h₀ hm
  unfold State.enterGranule
  (repeat' (first | (simp (maxDischargeDepth := 60) [*]; done) | split | dsimp only | (apply touch_foldl _ _ _ _ (by simp (maxDischargeDepth := 60) [*]); intro t x; try simp only)))
@[simp] theorem State.takeDsn_touch (c : Nat) (x : Ctx) (n : Namespace) (s : State) {m : Nat} (hm : m &&& 5633 = 5633) {s₀ : State} (h₀ : Touch m s₀ s) : Touch m s₀ (State.takeDsn c x n s) := by
  refine h₀.step hm ?_
  clear h₀ hm
  unfold State.takeDsn
  (repeat' (first | (simp (maxDischargeDepth := 60) [*]; done) | split | dsimp only | (apply touch_foldl _ _ _ _ (by simp (maxDischargeDepth := 60) [*]); intro t x; try simp only)))
@[simp] theorem State.seqGo_touch (c : Nat) (x : Ctx) (n : Namespace) (s : State) {m : Nat} (hm : m &&& 13899553 = 13899553) {s₀ : State} (h₀ : Touch m s₀ s) : Touch m s₀ (State.seqGo c x n s) := by
  refine h₀.step hm ?_
  clear h₀ hm
  unfold State.seqGo
  (repeat' (first | (simp (maxDischargeDepth := 60) [*]; done) | split | dsimp only | (apply touch_foldl _ _ _ _ (by simp (maxDischargeDepth := 60) [*]); intro t x; try simp only)))
@[simp] theorem State.seqNs_touch (c : Nat) (x : Ctx) (n : Namespace) (s : State) {m : Nat} (hm : m &&& 13899553 = 13899553) {s₀ : State} (h₀ : Touch m s₀ s) : Touch m s₀ (State.seqNs c x n s) := by
  refine h₀.step hm ?_
  clear h₀ hm
  unfold State.seqNs
  (repeat' (first | (simp (maxDischargeDepth := 60) [*]; done) | split | dsimp only | (apply touch_foldl _ _ _ _ (by simp (maxDischargeDepth := 60) [*]); intro t x; try simp only)))
@[simp] theorem State.trimCmd_touch (c kind : Nat) (x : Ctx) (n : Namespace) (es : List Extent) (s : State) {m : Nat} (hm : m &&& 13898273 = 13898273) {s₀ : State} (h₀ : Touch m s₀ s) : Touch m s₀ (State.trimCmd c kind x n es s) := by
  refine h₀.step hm ?_
  clear h₀ hm
  unfold State.trimCmd
  (repeat' (first | (simp (maxDischargeDepth := 60) [*]; done) | split | dsimp only | (apply touch_foldl _ _ _ _ (by simp (maxDischargeDepth := 60) [*]); intro t x; try simp only)))
@[simp] theorem State.trimRun_touch (c kind : Nat) (x : Ctx) (n : Namespace) (rs : List (Nat × Nat)) (s : State) {m : Nat} (hm : m &&& 13898529 = 13898529) {s₀ : State} (h₀ : Touch m s₀ s) : Touch m s₀ (State.trimRun c kind x n rs s) := by
  refine h₀.step hm ?_
  clear h₀ hm
  unfold State.trimRun
  (repeat' (first | (simp (maxDischargeDepth := 60) [*]; done) | split | dsimp only | (apply touch_foldl _ _ _ _ (by simp (maxDischargeDepth := 60) [*]); intro t x; try simp only)))
@[simp] theorem State.dsmNs_touch (c : Nat) (x : Ctx) (n : Namespace) (s : State) {m : Nat} (hm : m &&& 13898529 = 13898529) {s₀ : State} (h₀ : Touch m s₀ s) : Touch m s₀ (State.dsmNs c x n s) := by
  refine h₀.step hm ?_
  clear h₀ hm
  unfold State.dsmNs
  split
  · exact State.ptrGo_touch _ _ _ _ (by decide) (fun t => State.dataInGo_touch _ _ _ _ (by decide) (Touch.refl _ _)) (Touch.refl _ _)
  · split
    · exact State.trimRun_touch _ _ _ _ _ _ (by decide) (Touch.refl _ _)
    · exact State.failCmd_touch _ _ _ (by decide) (Touch.refl _ _)
@[simp] theorem State.flushDone_touch (s : State) {m : Nat} (hm : m &&& 512 = 512) {s₀ : State} (h₀ : Touch m s₀ s) : Touch m s₀ (State.flushDone s) := by
  refine h₀.step hm ?_
  clear h₀ hm
  unfold State.flushDone
  (repeat' (first | (simp (maxDischargeDepth := 60) [*]; done) | split | dsimp only | (apply touch_foldl _ _ _ _ (by simp (maxDischargeDepth := 60) [*]); intro t x; try simp only)))
@[simp] theorem State.forceOnLoss_touch (s : State) {m : Nat} (hm : m &&& 4096 = 4096) {s₀ : State} (h₀ : Touch m s₀ s) : Touch m s₀ (State.forceOnLoss s) := by
  refine h₀.step hm ?_
  clear h₀ hm
  unfold State.forceOnLoss
  (repeat' (first | (simp (maxDischargeDepth := 60) [*]; done) | split | dsimp only | (apply touch_foldl _ _ _ _ (by simp (maxDischargeDepth := 60) [*]); intro t x; try simp only)))
@[simp] theorem State.doorbellViolation_touch (sl : Nat) (s : State) {m : Nat} (hm : m &&& 8389664 = 8389664) {s₀ : State} (h₀ : Touch m s₀ s) : Touch m s₀ (State.doorbellViolation sl s) := by
  refine h₀.step hm ?_
  clear h₀ hm
  unfold State.doorbellViolation
  (repeat' (first | (simp (maxDischargeDepth := 60) [*]; done) | split | dsimp only | (apply touch_foldl _ _ _ _ (by simp (maxDischargeDepth := 60) [*]); intro t x; try simp only)))
@[simp] theorem State.wakeUp_touch (key : Nat) (s : State) {m : Nat} (hm : m &&& 512 = 512) {s₀ : State} (h₀ : Touch m s₀ s) : Touch m s₀ (State.wakeUp key s) := by
  refine h₀.step hm ?_
  clear h₀ hm
  unfold State.wakeUp
  (repeat' (first | (simp (maxDischargeDepth := 60) [*]; done) | split | dsimp only | (apply touch_foldl _ _ _ _ (by simp (maxDischargeDepth := 60) [*]); intro t x; try simp only)))
@[simp] theorem State.sqTail_touch (key : Nat) (q : Sq) (v : Nat) (s : State) {m : Nat} (hm : m &&& 512 = 512) {s₀ : State} (h₀ : Touch m s₀ s) : Touch m s₀ (State.sqTail key q v s) := by
  refine h₀.step hm ?_
  clear h₀ hm
  unfold State.sqTail
  (repeat' (first | (simp (maxDischargeDepth := 60) [*]; done) | split | dsimp only | (apply touch_foldl _ _ _ _ (by simp (maxDischargeDepth := 60) [*]); intro t x; try simp only)))
@[simp] theorem State.linkError_touch (k : CplKind) (s : State) {m : Nat} (hm : m &&& 8388897 = 8388897) {s₀ : State} (h₀ : Touch m s₀ s) : Touch m s₀ (State.linkError k s) := by
  refine h₀.step hm ?_
  clear h₀ hm
  unfold State.linkError
  (repeat' (first | (simp (maxDischargeDepth := 60) [*]; done) | split | dsimp only | (apply touch_foldl _ _ _ _ (by simp (maxDischargeDepth := 60) [*]); intro t x; try simp only)))
@[simp] theorem State.fetchRead_touch (t : Turn) (key : Nat) (q : Sq) (n : Nat) (s : State) {m : Nat} (hm : m &&& 769 = 769) {s₀ : State} (h₀ : Touch m s₀ s) : Touch m s₀ (State.fetchRead t key q n s) := by
  refine h₀.step hm ?_
  clear h₀ hm
  unfold State.fetchRead
  (repeat' (first | (simp (maxDischargeDepth := 60) [*]; done) | split | dsimp only | (apply touch_foldl _ _ _ _ (by simp (maxDischargeDepth := 60) [*]); intro t x; try simp only)))
@[simp] theorem State.fetchArrives_touch (key n data : Nat) (s : State) {m : Nat} (hm : m &&& 1792 = 1792) {s₀ : State} (h₀ : Touch m s₀ s) : Touch m s₀ (State.fetchArrives key n data s) := by
  refine h₀.step hm ?_
  clear h₀ hm
  unfold State.fetchArrives
  (repeat' (first | (simp (maxDischargeDepth := 60) [*]; done) | split | dsimp only | (apply touch_foldl _ _ _ _ (by simp (maxDischargeDepth := 60) [*]); intro t x; try simp only)))
@[simp] theorem State.signalCq_touch (key : Nat) (s : State) {m : Nat} (hm : m &&& 513 = 513) {s₀ : State} (h₀ : Touch m s₀ s) : Touch m s₀ (State.signalCq key s) := by
  refine h₀.step hm ?_
  clear h₀ hm
  unfold State.signalCq
  (repeat' (first | (simp (maxDischargeDepth := 60) [*]; done) | split | dsimp only | (apply touch_foldl _ _ _ _ (by simp (maxDischargeDepth := 60) [*]); intro t x; try simp only)))
@[simp] theorem State.postCqe_touch (key : Nat) (q : Cq) (x : Ctx) (s : State) {m : Nat} (hm : m &&& 1537 = 1537) {s₀ : State} (h₀ : Touch m s₀ s) : Touch m s₀ (State.postCqe key q x s) := by
  refine h₀.step hm ?_
  clear h₀ hm
  unfold State.postCqe
  (repeat' (first | (simp (maxDischargeDepth := 60) [*]; done) | split | dsimp only | (apply touch_foldl _ _ _ _ (by simp (maxDischargeDepth := 60) [*]); intro t x; try simp only)))
@[simp] theorem State.writePosted_touch (x : Ctx) (s : State) {m : Nat} (hm : m &&& 4096 = 4096) {s₀ : State} (h₀ : Touch m s₀ s) : Touch m s₀ (State.writePosted x s) := by
  refine h₀.step hm ?_
  clear h₀ hm
  unfold State.writePosted
  (repeat' (first | (simp (maxDischargeDepth := 60) [*]; done) | split | dsimp only | (apply touch_foldl _ _ _ _ (by simp (maxDischargeDepth := 60) [*]); intro t x; try simp only)))
@[simp] theorem State.deletionsDone_touch (s : State) {m : Nat} (hm : m &&& 512 = 512) {s₀ : State} (h₀ : Touch m s₀ s) : Touch m s₀ (State.deletionsDone s) := by
  refine h₀.step hm ?_
  clear h₀ hm
  unfold State.deletionsDone
  (repeat' (first | (simp (maxDischargeDepth := 60) [*]; done) | split | dsimp only | (apply touch_foldl _ _ _ _ (by simp (maxDischargeDepth := 60) [*]); intro t x; try simp only)))
@[simp] theorem State.activationPosted_touch (c : Nat) (s : State) {m : Nat} (hm : m &&& 2097664 = 2097664) {s₀ : State} (h₀ : Touch m s₀ s) : Touch m s₀ (State.activationPosted c s) := by
  refine h₀.step hm ?_
  clear h₀ hm
  unfold State.activationPosted
  (repeat' (first | (simp (maxDischargeDepth := 60) [*]; done) | split | dsimp only | (apply touch_foldl _ _ _ _ (by simp (maxDischargeDepth := 60) [*]); intro t x; try simp only)))
@[simp] theorem State.psApply_touch (r : PsRequest) (s : State) {m : Nat} (hm : m &&& 512 = 512) {s₀ : State} (h₀ : Touch m s₀ s) : Touch m s₀ (State.psApply r s) := by
  refine h₀.step hm ?_
  clear h₀ hm
  unfold State.psApply
  (repeat' (first | (simp (maxDischargeDepth := 60) [*]; done) | split | dsimp only | (apply touch_foldl _ _ _ _ (by simp (maxDischargeDepth := 60) [*]); intro t x; try simp only)))
@[simp] theorem State.padStripe_touch (x : Stripe) (b : Band) (s : State) {m : Nat} (hm : m &&& 8224 = 8224) {s₀ : State} (h₀ : Touch m s₀ s) : Touch m s₀ (State.padStripe x b s) := by
  refine h₀.step hm ?_
  clear h₀ hm
  unfold State.padStripe
  (repeat' (first | (simp (maxDischargeDepth := 60) [*]; done) | split | dsimp only | (apply touch_foldl _ _ _ _ (by simp (maxDischargeDepth := 60) [*]); intro t x; try simp only)))
@[simp] theorem State.releaseDegraded_touch (s : State) {m : Nat} (hm : m &&& 65536 = 65536) {s₀ : State} (h₀ : Touch m s₀ s) : Touch m s₀ (State.releaseDegraded s) := by
  refine h₀.step hm ?_
  clear h₀ hm
  unfold State.releaseDegraded
  (repeat' (first | (simp (maxDischargeDepth := 60) [*]; done) | split | dsimp only | (apply touch_foldl _ _ _ _ (by simp (maxDischargeDepth := 60) [*]); intro t x; try simp only)))
@[simp] theorem State.raiseRebuild_touch (s : State) {m : Nat} (hm : m &&& 8454176 = 8454176) {s₀ : State} (h₀ : Touch m s₀ s) : Touch m s₀ (State.raiseRebuild s) := by
  refine h₀.step hm ?_
  clear h₀ hm
  unfold State.raiseRebuild
  (repeat' (first | (simp (maxDischargeDepth := 60) [*]; done) | split | dsimp only | (apply touch_foldl _ _ _ _ (by simp (maxDischargeDepth := 60) [*]); intro t x; try simp only)))
@[simp] theorem State.rebuildGo_touch (s : State) {m : Nat} (hm : m &&& 8454176 = 8454176) {s₀ : State} (h₀ : Touch m s₀ s) : Touch m s₀ (State.rebuildGo s) := by
  refine h₀.step hm ?_
  clear h₀ hm
  unfold State.rebuildGo
  (repeat' (first | (simp (maxDischargeDepth := 60) [*]; done) | split | dsimp only | (apply touch_foldl _ _ _ _ (by simp (maxDischargeDepth := 60) [*]); intro t x; try simp only)))
@[simp] theorem State.rebuildResume_touch (s : State) {m : Nat} (hm : m &&& 8454176 = 8454176) {s₀ : State} (h₀ : Touch m s₀ s) : Touch m s₀ (State.rebuildResume s) := by
  refine h₀.step hm ?_
  clear h₀ hm
  unfold State.rebuildResume
  (repeat' (first | (simp (maxDischargeDepth := 60) [*]; done) | split | dsimp only | (apply touch_foldl _ _ _ _ (by simp (maxDischargeDepth := 60) [*]); intro t x; try simp only)))
@[simp] theorem State.lostJob_touch (unit nsid g : Nat) (src : Loc) (s : State) {m : Nat} (hm : m &&& 4096 = 4096) {s₀ : State} (h₀ : Touch m s₀ s) : Touch m s₀ (State.lostJob unit nsid g src s) := by
  refine h₀.step hm ?_
  clear h₀ hm
  unfold State.lostJob
  (repeat' (first | (simp (maxDischargeDepth := 60) [*]; done) | split | dsimp only | (apply touch_foldl _ _ _ _ (by simp (maxDischargeDepth := 60) [*]); intro t x; try simp only)))
@[simp] theorem State.rebuildUnit_touch (ok : Bool) (b : Band) (row pos : Nat) (mb : Nat × Nat) (s : State) {m : Nat} (hm : m &&& 331809 = 331809) {s₀ : State} (h₀ : Touch m s₀ s) : Touch m s₀ (State.rebuildUnit ok b row pos mb s) := by
  refine h₀.step hm ?_
  clear h₀ hm
  unfold State.rebuildUnit
  (repeat' (first | (simp (maxDischargeDepth := 60) [*]; done) | split | dsimp only | (apply touch_foldl _ _ _ _ (by simp (maxDischargeDepth := 60) [*]); intro t x; try simp only)))
@[simp] theorem State.rebuildOne_touch (n : Nat) (b : Band) (row pos j : Nat) (failedSurvivors : List Nat) (s : State) {m : Nat} (hm : m &&& 331809 = 331809) {s₀ : State} (h₀ : Touch m s₀ s) : Touch m s₀ (State.rebuildOne n b row pos j failedSurvivors s) := by
  refine h₀.step hm ?_
  clear h₀ hm
  unfold State.rebuildOne
  try dsimp only
  repeat' (first | exact Touch.refl _ _ | split | dsimp only | (with_reducible refine touch_foldl _ _ _ _ ?_ (fun t x => ?_)) | (with_reducible refine touch_modSpe _ (by decide) ?_) | (with_reducible refine State.rebuildUnit_touch _ _ _ _ _ _ (by decide) ?_))
@[simp] theorem State.rebuildBandDone_touch (n : Nat) (b : Band) (s : State) {m : Nat} (hm : m &&& 65536 = 65536) {s₀ : State} (h₀ : Touch m s₀ s) : Touch m s₀ (State.rebuildBandDone n b s) := by
  refine h₀.step hm ?_
  clear h₀ hm
  unfold State.rebuildBandDone
  (repeat' (first | (simp (maxDischargeDepth := 60) [*]; done) | split | dsimp only | (apply touch_foldl _ _ _ _ (by simp (maxDischargeDepth := 60) [*]); intro t x; try simp only)))
@[simp] theorem State.countSurvivors_touch (b : Band) (row pos j : Nat) (survivors : List (Nat × Nat)) (s : State) {m : Nat} (hm : m &&& 32 = 32) {s₀ : State} (h₀ : Touch m s₀ s) : Touch m s₀ (State.countSurvivors b row pos j survivors s) := by
  refine h₀.step hm ?_
  clear h₀ hm
  unfold State.countSurvivors
  (repeat' (first | (simp (maxDischargeDepth := 60) [*]; done) | split | dsimp only | (apply touch_foldl _ _ _ _ (by simp (maxDischargeDepth := 60) [*]); intro t x; try simp only)))
@[simp] theorem State.rebuildEnd_touch (s : State) {m : Nat} (hm : m &&& 12648993 = 12648993) {s₀ : State} (h₀ : Touch m s₀ s) : Touch m s₀ (State.rebuildEnd s) := by
  refine h₀.step hm ?_
  clear h₀ hm
  unfold State.rebuildEnd
  (repeat' (first | (simp (maxDischargeDepth := 60) [*]; done) | split | dsimp only | (apply touch_foldl _ _ _ _ (by simp (maxDischargeDepth := 60) [*]); intro t x; try simp only)))
@[simp] theorem State.stageWindow_touch (n k : Nat) (v : Word) (s : State) {m : Nat} (hm : m &&& 2048 = 2048) {s₀ : State} (h₀ : Touch m s₀ s) : Touch m s₀ (State.stageWindow n k v s) := by
  refine h₀.step hm ?_
  clear h₀ hm
  unfold State.stageWindow
  (repeat' (first | (simp (maxDischargeDepth := 60) [*]; done) | split | dsimp only | (apply touch_foldl _ _ _ _ (by simp (maxDischargeDepth := 60) [*]); intro t x; try simp only)))
@[simp] theorem State.abortN_touch (k : Nat) (s : State) {m : Nat} (hm : m &&& 1 = 1) {s₀ : State} (h₀ : Touch m s₀ s) : Touch m s₀ (State.abortN k s) := by
  refine h₀.step hm ?_
  clear h₀ hm
  induction k generalizing s with
  | zero => simp [State.abortN]
  | succ k ih => exact Touch.trans (by simp (maxDischargeDepth := 60)) (ih _)
@[simp] theorem State.abortReads_touch (p : Nat → Bool) (s : State) {m : Nat} (hm : m &&& 13896481 = 13896481) {s₀ : State} (h₀ : Touch m s₀ s) : Touch m s₀ (State.abortReads p s) := by
  refine h₀.step hm ?_
  clear h₀ hm
  unfold State.abortReads
  (repeat' (first | (simp (maxDischargeDepth := 60) [*]; done) | split | dsimp only | (apply touch_foldl _ _ _ _ (by simp (maxDischargeDepth := 60) [*]); intro t x; try simp only)))
@[simp] theorem State.storeWindow_touch (s : State) (n : Nat) {m : Nat} (hm : m &&& 64 = 64) {s₀ : State} (h₀ : Touch m s₀ s) : Touch m s₀ (State.storeWindow s n) := by
  refine h₀.step hm ?_
  clear h₀ hm
  unfold State.storeWindow
  refine touch_foldl _ _ _ _ (Touch.refl _ _) fun t x => ?_
  split
  · constructor <;> first | rfl | (intro e; first | exact absurd e (by decide) | rfl)
  · exact Touch.refl _ _
@[simp] theorem State.activateWins_touch (t : List (Nat × Window)) (aff : List Nat) (s : State) {m : Nat} (hm : m &&& 13896545 = 13896545) {s₀ : State} (h₀ : Touch m s₀ s) : Touch m s₀ (State.activateWins t aff s) := by
  refine h₀.step hm ?_
  clear h₀ hm
  unfold State.activateWins
  (repeat' (first | (simp (maxDischargeDepth := 60) [*]; done) | split | dsimp only | (apply touch_foldl _ _ _ _ (by simp (maxDischargeDepth := 60) [*]); intro t x; try simp only)))
@[simp] theorem State.winCommit_touch (s : State) {m : Nat} (hm : m &&& 13896553 = 13896553) {s₀ : State} (h₀ : Touch m s₀ s) : Touch m s₀ (State.winCommit s) := by
  refine h₀.step hm ?_
  clear h₀ hm
  unfold State.winCommit
  (repeat' (first | (simp (maxDischargeDepth := 60) [*]; done) | split | dsimp only | (apply touch_foldl _ _ _ _ (by simp (maxDischargeDepth := 60) [*]); intro t x; try simp only)))
@[simp] theorem State.winDiscard_touch (s : State) {m : Nat} (hm : m &&& 2048 = 2048) {s₀ : State} (h₀ : Touch m s₀ s) : Touch m s₀ (State.winDiscard s) := by
  refine h₀.step hm ?_
  clear h₀ hm
  unfold State.winDiscard
  (repeat' (first | (simp (maxDischargeDepth := 60) [*]; done) | split | dsimp only | (apply touch_foldl _ _ _ _ (by simp (maxDischargeDepth := 60) [*]); intro t x; try simp only)))
@[simp] theorem State.galError_touch (win : Option Nat) (bit : Nat) (s : State) {m : Nat} (hm : m &&& 8390688 = 8390688) {s₀ : State} (h₀ : Touch m s₀ s) : Touch m s₀ (State.galError win bit s) := by
  refine h₀.step hm ?_
  clear h₀ hm
  unfold State.galError
  (repeat' (first | (simp (maxDischargeDepth := 60) [*]; done) | split | dsimp only | (apply touch_foldl _ _ _ _ (by simp (maxDischargeDepth := 60) [*]); intro t x; try simp only)))
@[simp] theorem State.galRefuse_touch (win : Option Nat) (bit : Nat) (np : Bool) (s : State) {m : Nat} (hm : m &&& 8390945 = 8390945) {s₀ : State} (h₀ : Touch m s₀ s) : Touch m s₀ (State.galRefuse win bit np s) := by
  refine h₀.step hm ?_
  clear h₀ hm
  unfold State.galRefuse
  (repeat' (first | (simp (maxDischargeDepth := 60) [*]; done) | split | dsimp only | (apply touch_foldl _ _ _ _ (by simp (maxDischargeDepth := 60) [*]); intro t x; try simp only)))
@[simp] theorem State.galFault_touch (n : Nat) (s : State) {m : Nat} (hm : m &&& 2048 = 2048) {s₀ : State} (h₀ : Touch m s₀ s) : Touch m s₀ (State.galFault n s) := by
  refine h₀.step hm ?_
  clear h₀ hm
  unfold State.galFault
  (repeat' (first | (simp (maxDischargeDepth := 60) [*]; done) | split | dsimp only | (apply touch_foldl _ _ _ _ (by simp (maxDischargeDepth := 60) [*]); intro t x; try simp only)))
@[simp] theorem State.galPoison_touch (off : Nat) (s : State) {m : Nat} (hm : m &&& 8390945 = 8390945) {s₀ : State} (h₀ : Touch m s₀ s) : Touch m s₀ (State.galPoison off s) := by
  refine h₀.step hm ?_
  clear h₀ hm
  unfold State.galPoison
  (repeat' (first | (simp (maxDischargeDepth := 60) [*]; done) | split | dsimp only | (apply touch_foldl _ _ _ _ (by simp (maxDischargeDepth := 60) [*]); intro t x; try simp only)))
@[simp] theorem State.writePiece_touch (n : Nat) (w : Window) (fn rel : Nat) (piece : List Byte) (s : State) {m : Nat} (hm : m &&& 2048 = 2048) {s₀ : State} (h₀ : Touch m s₀ s) : Touch m s₀ (State.writePiece n w fn rel piece s) := by
  refine h₀.step hm ?_
  clear h₀ hm
  unfold State.writePiece
  (repeat' (first | (simp (maxDischargeDepth := 60) [*]; done) | split | dsimp only | (apply touch_foldl _ _ _ _ (by simp (maxDischargeDepth := 60) [*]); intro t x; try simp only)))
@[simp] theorem State.writePieces_touch (n : Nat) (w : Window) (fn rel k : Nat) (bs : List Byte) (s : State) {m : Nat} (hm : m &&& 2048 = 2048) {s₀ : State} (h₀ : Touch m s₀ s) : Touch m s₀ (State.writePieces n w fn rel k bs s) := by
  refine h₀.step hm ?_
  clear h₀ hm
  induction k generalizing s rel bs with
  | zero => simp [State.writePieces]
  | succ k ih => exact Touch.trans (by simp (maxDischargeDepth := 60)) (ih _ _ _)
@[simp] theorem State.galClean_touch (n rel len : Nat) (s : State) {m : Nat} (hm : m &&& 524288 = 524288) {s₀ : State} (h₀ : Touch m s₀ s) : Touch m s₀ (State.galClean n rel len s) := by
  refine h₀.step hm ?_
  clear h₀ hm
  unfold State.galClean
  (repeat' (first | (simp (maxDischargeDepth := 60) [*]; done) | split | dsimp only | (apply touch_foldl _ _ _ _ (by simp (maxDischargeDepth := 60) [*]); intro t x; try simp only)))
@[simp] theorem State.galStore_touch (n : Nat) (w : Window) (fn rel : Nat) (bytes : List Byte) (s : State) {m : Nat} (hm : m &&& 526336 = 526336) {s₀ : State} (h₀ : Touch m s₀ s) : Touch m s₀ (State.galStore n w fn rel bytes s) := by
  refine h₀.step hm ?_
  clear h₀ hm
  unfold State.galStore
  (repeat' (first | (simp (maxDischargeDepth := 60) [*]; done) | split | dsimp only | (apply touch_foldl _ _ _ _ (by simp (maxDischargeDepth := 60) [*]); intro t x; try simp only)))
@[simp] theorem State.galWrite_touch (n : Nat) (w : Window) (t : PeerTlp) (bytes : List Byte) (s : State) {m : Nat} (hm : m &&& 8915233 = 8915233) {s₀ : State} (h₀ : Touch m s₀ s) : Touch m s₀ (State.galWrite n w t bytes s) := by
  refine h₀.step hm ?_
  clear h₀ hm
  unfold State.galWrite
  (repeat' (first | (simp (maxDischargeDepth := 60) [*]; done) | split | dsimp only | (apply touch_foldl _ _ _ _ (by simp (maxDischargeDepth := 60) [*]); intro t x; try simp only)))
@[simp] theorem State.galWriteIn_touch (t : PeerTlp) (bytes : List Byte) (s : State) {m : Nat} (hm : m &&& 8915233 = 8915233) {s₀ : State} (h₀ : Touch m s₀ s) : Touch m s₀ (State.galWriteIn t bytes s) := by
  refine h₀.step hm ?_
  clear h₀ hm
  unfold State.galWriteIn
  (repeat' (first | (simp (maxDischargeDepth := 60) [*]; done) | split | dsimp only | (apply touch_foldl _ _ _ _ (by simp (maxDischargeDepth := 60) [*]); intro t x; try simp only)))
@[simp] theorem State.galLbaRun_touch (r : PeerRead) (c : Nat) (w : Window) (x : Namespace) (s : State) {m : Nat} (hm : m &&& 13895457 = 13895457) {s₀ : State} (h₀ : Touch m s₀ s) : Touch m s₀ (State.galLbaRun r c w x s) := by
  refine h₀.step hm ?_
  clear h₀ hm
  unfold State.galLbaRun
  (repeat' (first | (simp (maxDischargeDepth := 60) [*]; done) | split | dsimp only | (apply touch_foldl _ _ _ _ (by simp (maxDischargeDepth := 60) [*]); intro t x; try simp only)))
theorem State.galRead1_touch (r : PeerRead) (s t : State) (h : State.galRead1 r s = some t) : Touch 13897505 s t := by
  unfold State.galRead1 at h
  dsimp only at h
  split at h
  · simp only [Option.some.injEq] at h
    rw [← h]
    simp (maxDischargeDepth := 60)
  · split at h
    · simp only [Option.map_eq_some_iff] at h
      obtain ⟨_, _, h⟩ := h
      rw [← h]
      simp (maxDischargeDepth := 60)
    · cases h
@[simp] theorem State.galReads_touch (k : Nat) (s : State) {m : Nat} (hm : m &&& 13897505 = 13897505) {s₀ : State} (h₀ : Touch m s₀ s) : Touch m s₀ (State.galReads k s) := by
  refine h₀.step hm ?_
  clear h₀ hm
  induction k generalizing s with
  | zero => simp [State.galReads]
  | succ k ih =>
    unfold State.galReads
    split
    · split
      · exact ((State.galRead1_touch _ _ _ ‹_›).mono (by decide)).trans (ih _)
      · exact Touch.refl _ _
    · exact Touch.refl _ _
@[simp] theorem State.galLbaRead_touch (n fn rel len : Nat) (s : State) {m : Nat} (hm : m &&& 13897505 = 13897505) {s₀ : State} (h₀ : Touch m s₀ s) : Touch m s₀ (State.galLbaRead n fn rel len s) := by
  refine h₀.step hm ?_
  clear h₀ hm
  unfold State.galLbaRead
  (repeat' (first | (simp (maxDischargeDepth := 60) [*]; done) | split | dsimp only | (apply touch_foldl _ _ _ _ (by simp (maxDischargeDepth := 60) [*]); intro t x; try simp only)))
theorem State.unitWrite_touch (u : LbaUnit) (s s' : State) (h : s.unitWrite u = some s') : Touch 265761 s s' := by
  unfold State.unitWrite at h
  split at h
  · cases h
  · split at h
    · rename_i t _ _ _ ht
      have k := State.takeBufs_touch _ _ _ _ _ _ _ ht
      simp only [Option.some.injEq] at h
      rw [← h]
      have k' := k.mono (m := 265761) (by simp)
      simp (maxDischargeDepth := 60) [k']
    · cases h
@[simp] theorem State.unitWrites_touch (k : Nat) (s : State) {m : Nat} (hm : m &&& 265761 = 265761) {s₀ : State} (h₀ : Touch m s₀ s) : Touch m s₀ (State.unitWrites k s) := by
  refine h₀.step hm ?_
  clear h₀ hm
  induction k generalizing s with
  | zero => simp [State.unitWrites]
  | succ k ih =>
    unfold State.unitWrites
    split
    · split
      · exact ((State.unitWrite_touch _ _ _ ‹_›).mono (by simp)).trans (ih _)
      · exact Touch.refl _ _
    · exact Touch.refl _ _
@[simp] theorem State.galFinish_touch (s : State) (e : Nat × Ctx) {m : Nat} (hm : m &&& 13900321 = 13900321) {s₀ : State} (h₀ : Touch m s₀ s) : Touch m s₀ (State.galFinish s e) := by
  refine h₀.step hm ?_
  clear h₀ hm
  unfold State.galFinish
  (repeat' (first | (simp (maxDischargeDepth := 60) [*]; done) | split | dsimp only | (apply touch_foldl _ _ _ _ (by simp (maxDischargeDepth := 60) [*]); intro t x; try simp only)))
@[simp] theorem State.galDone_touch (s : State) {m : Nat} (hm : m &&& 13900321 = 13900321) {s₀ : State} (h₀ : Touch m s₀ s) : Touch m s₀ (State.galDone s) := by
  refine h₀.step hm ?_
  clear h₀ hm
  unfold State.galDone
  (repeat' (first | (simp (maxDischargeDepth := 60) [*]; done) | split | dsimp only | (apply touch_foldl _ _ _ _ (by simp (maxDischargeDepth := 60) [*]); intro t x; try simp only)))
@[simp] theorem State.fenceSweep_touch (s : State) {m : Nat} (hm : m &&& 2048 = 2048) {s₀ : State} (h₀ : Touch m s₀ s) : Touch m s₀ (State.fenceSweep s) := by
  refine h₀.step hm ?_
  clear h₀ hm
  unfold State.fenceSweep
  (repeat' (first | (simp (maxDischargeDepth := 60) [*]; done) | split | dsimp only | (apply touch_foldl _ _ _ _ (by simp (maxDischargeDepth := 60) [*]); intro t x; try simp only)))
@[simp] theorem State.galTick_touch (s : State) {m : Nat} (hm : m &&& 13901601 = 13901601) {s₀ : State} (h₀ : Touch m s₀ s) : Touch m s₀ (State.galTick s) := by
  refine h₀.step hm ?_
  clear h₀ hm
  unfold State.galTick
  (repeat' (first | (simp (maxDischargeDepth := 60) [*]; done) | split | dsimp only | (apply touch_foldl _ _ _ _ (by simp (maxDischargeDepth := 60) [*]); intro t x; try simp only)))
@[simp] theorem State.clearBursts_touch (p : Nat → Bool) (s : State) {m : Nat} (hm : m &&& 524288 = 524288) {s₀ : State} (h₀ : Touch m s₀ s) : Touch m s₀ (State.clearBursts p s) := by
  refine h₀.step hm ?_
  clear h₀ hm
  unfold State.clearBursts
  (repeat' (first | (simp (maxDischargeDepth := 60) [*]; done) | split | dsimp only | (apply touch_foldl _ _ _ _ (by simp (maxDischargeDepth := 60) [*]); intro t x; try simp only)))
@[simp] theorem State.galSliceReset_touch (n : Nat) (s : State) {m : Nat} (hm : m &&& 14420769 = 14420769) {s₀ : State} (h₀ : Touch m s₀ s) : Touch m s₀ (State.galSliceReset n s) := by
  refine h₀.step hm ?_
  clear h₀ hm
  unfold State.galSliceReset
  (repeat' (first | (simp (maxDischargeDepth := 60) [*]; done) | split | dsimp only | (apply touch_foldl _ _ _ _ (by simp (maxDischargeDepth := 60) [*]); intro t x; try simp only)))
@[simp] theorem State.galReload_touch (s : State) {m : Nat} (hm : m &&& 2048 = 2048) {s₀ : State} (h₀ : Touch m s₀ s) : Touch m s₀ (State.galReload s) := by
  refine h₀.step hm ?_
  clear h₀ hm
  unfold State.galReload
  (repeat' (first | (simp (maxDischargeDepth := 60) [*]; done) | split | dsimp only | (apply touch_foldl _ _ _ _ (by simp (maxDischargeDepth := 60) [*]); intro t x; try simp only)))
@[simp] theorem State.refillSlice_touch (s : State) (n : Nat) {m : Nat} (hm : m &&& 1024 = 1024) {s₀ : State} (h₀ : Touch m s₀ s) : Touch m s₀ (State.refillSlice s n) := by
  refine h₀.step hm ?_
  clear h₀ hm
  unfold State.refillSlice
  (repeat' (first | (simp (maxDischargeDepth := 60) [*]; done) | split | dsimp only | (apply touch_foldl _ _ _ _ (by simp (maxDischargeDepth := 60) [*]); intro t x; try simp only)))
@[simp] theorem State.floorSlice_touch (s : State) (n : Nat) {m : Nat} (hm : m &&& 1024 = 1024) {s₀ : State} (h₀ : Touch m s₀ s) : Touch m s₀ (State.floorSlice s n) := by
  refine h₀.step hm ?_
  clear h₀ hm
  unfold State.floorSlice
  (repeat' (first | (simp (maxDischargeDepth := 60) [*]; done) | split | dsimp only | (apply touch_foldl _ _ _ _ (by simp (maxDischargeDepth := 60) [*]); intro t x; try simp only)))
@[simp] theorem State.commitSlice_touch (n : Nat) (s : State) {m : Nat} (hm : m &&& 1024 = 1024) {s₀ : State} (h₀ : Touch m s₀ s) : Touch m s₀ (State.commitSlice n s) := by
  refine h₀.step hm ?_
  clear h₀ hm
  unfold State.commitSlice
  (repeat' (first | (simp (maxDischargeDepth := 60) [*]; done) | split | dsimp only | (apply touch_foldl _ _ _ _ (by simp (maxDischargeDepth := 60) [*]); intro t x; try simp only)))
@[simp] theorem State.applyStaged_touch (s : State) {m : Nat} (hm : m &&& 1088 = 1088) {s₀ : State} (h₀ : Touch m s₀ s) : Touch m s₀ (State.applyStaged s) := by
  refine h₀.step hm ?_
  clear h₀ hm
  unfold State.applyStaged
  refine touch_foldl _ _ _ _ (Touch.refl _ _) fun t x => ?_
  refine State.modSlice_touch _ _ _ (by simp) (touch_foldl _ _ _ _ (Touch.refl _ _) fun t x => ?_)
  split
  · constructor <;> first | rfl | (intro e; first | exact absurd e (by decide) | rfl)
  · exact Touch.refl _ _
@[simp] theorem State.setQuiesce_touch (n : Nat) (on : Bool) (s : State) {m : Nat} (hm : m &&& 1024 = 1024) {s₀ : State} (h₀ : Touch m s₀ s) : Touch m s₀ (State.setQuiesce n on s) := by
  refine h₀.step hm ?_
  clear h₀ hm
  unfold State.setQuiesce
  (repeat' (first | (simp (maxDischargeDepth := 60) [*]; done) | split | dsimp only | (apply touch_foldl _ _ _ _ (by simp (maxDischargeDepth := 60) [*]); intro t x; try simp only)))
theorem State.writeQstate_touch (a b c : Nat) (p : Bool) (s t : State) (h : s.writeQstate a b c p = some t) : Touch 512 s t := by
  unfold State.writeQstate at h
  dsimp only at h
  split at h
  · split at h
    · simp only [Option.some.injEq] at h
      rw [← h]
      simp
    · cases h
  · cases h
@[simp] theorem State.writeDlogHead_touch (n head : Nat) (s : State) {m : Nat} (hm : m &&& 192 = 192) {s₀ : State} (h₀ : Touch m s₀ s) : Touch m s₀ (State.writeDlogHead n head s) := by
  refine h₀.step hm ?_
  clear h₀ hm
  unfold State.writeDlogHead
  (repeat' (first | (simp (maxDischargeDepth := 60) [*]; done) | split | dsimp only | (apply touch_foldl _ _ _ _ (by simp (maxDischargeDepth := 60) [*]); intro t x; try simp only)))
@[simp] theorem State.writeDlogEpoch_touch (n value : Nat) (s : State) {m : Nat} (hm : m &&& 1216 = 1216) {s₀ : State} (h₀ : Touch m s₀ s) : Touch m s₀ (State.writeDlogEpoch n value s) := by
  refine h₀.step hm ?_
  clear h₀ hm
  unfold State.writeDlogEpoch
  (repeat' (first | (simp (maxDischargeDepth := 60) [*]; done) | split | dsimp only | (apply touch_foldl _ _ _ _ (by simp (maxDischargeDepth := 60) [*]); intro t x; try simp only)))
@[simp] theorem State.requestDrain_touch (n : Nat) (s : State) {m : Nat} (hm : m &&& 1024 = 1024) {s₀ : State} (h₀ : Touch m s₀ s) : Touch m s₀ (State.requestDrain n s) := by
  refine h₀.step hm ?_
  clear h₀ hm
  unfold State.requestDrain
  (repeat' (first | (simp (maxDischargeDepth := 60) [*]; done) | split | dsimp only | (apply touch_foldl _ _ _ _ (by simp (maxDischargeDepth := 60) [*]); intro t x; try simp only)))
@[simp] theorem State.requestSquash_touch (n : Nat) (s : State) {m : Nat} (hm : m &&& 1024 = 1024) {s₀ : State} (h₀ : Touch m s₀ s) : Touch m s₀ (State.requestSquash n s) := by
  refine h₀.step hm ?_
  clear h₀ hm
  unfold State.requestSquash
  (repeat' (first | (simp (maxDischargeDepth := 60) [*]; done) | split | dsimp only | (apply touch_foldl _ _ _ _ (by simp (maxDischargeDepth := 60) [*]); intro t x; try simp only)))
@[simp] theorem State.clearSliceObjs_touch (n : Nat) (s : State) {m : Nat} (hm : m &&& 192 = 192) {s₀ : State} (h₀ : Touch m s₀ s) : Touch m s₀ (State.clearSliceObjs n s) := by
  refine h₀.step hm ?_
  clear h₀ hm
  unfold State.clearSliceObjs
  constructor <;> first | rfl | (intro e; first | exact absurd e (by decide) | rfl)
@[simp] theorem State.resetSlice_touch (n : Nat) (timedOut : Bool) (s : State) {m : Nat} (hm : m &&& 14458857 = 14458857) {s₀ : State} (h₀ : Touch m s₀ s) : Touch m s₀ (State.resetSlice n timedOut s) := by
  refine h₀.step hm ?_
  clear h₀ hm
  unfold State.resetSlice
  (repeat' (first | (simp (maxDischargeDepth := 60) [*]; done) | split | dsimp only | (apply touch_foldl _ _ _ _ (by simp (maxDischargeDepth := 60) [*]); intro t x; try simp only)))
@[simp] theorem State.finishWith_touch (c : Nat) (w : Word) (s : State) {m : Nat} (hm : m &&& 512 = 512) {s₀ : State} (h₀ : Touch m s₀ s) : Touch m s₀ (State.finishWith c w s) := by
  refine h₀.step hm ?_
  clear h₀ hm
  unfold State.finishWith
  (repeat' (first | (simp (maxDischargeDepth := 60) [*]; done) | split | dsimp only | (apply touch_foldl _ _ _ _ (by simp (maxDischargeDepth := 60) [*]); intro t x; try simp only)))
@[simp] theorem State.catchCmd_touch (c status : Nat) (s : State) {m : Nat} (hm : m &&& 13898529 = 13898529) {s₀ : State} (h₀ : Touch m s₀ s) : Touch m s₀ (State.catchCmd c status s) := by
  refine h₀.step hm ?_
  clear h₀ hm
  unfold State.catchCmd
  (repeat' (first | (simp (maxDischargeDepth := 60) [*]; done) | split | dsimp only | (apply touch_foldl _ _ _ _ (by simp (maxDischargeDepth := 60) [*]); intro t x; try simp only)))
@[simp] theorem State.pageOut_touch (c page : Nat) (x : Ctx) (d : List Byte) (s : State) {m : Nat} (hm : m &&& 13894433 = 13894433) {s₀ : State} (h₀ : Touch m s₀ s) : Touch m s₀ (State.pageOut c page x d s) := by
  refine h₀.step hm ?_
  clear h₀ hm
  unfold State.pageOut
  refine State.ptrGo_touch _ _ _ _ (by decide) (fun t => ?_) (Touch.refl _ _)
  (repeat' split) <;> simp (maxDischargeDepth := 60)
@[simp] theorem State.pageLogged_touch (c lid : Nat) (x : Ctx) (s : State) {m : Nat} (hm : m &&& 512 = 512) {s₀ : State} (h₀ : Touch m s₀ s) : Touch m s₀ (State.pageLogged c lid x s) := by
  refine h₀.step hm ?_
  clear h₀ hm
  unfold State.pageLogged
  (repeat' (first | (simp (maxDischargeDepth := 60) [*]; done) | split | dsimp only | (apply touch_foldl _ _ _ _ (by simp (maxDischargeDepth := 60) [*]); intro t x; try simp only)))
@[simp] theorem State.apstSet_touch (c : Nat) (x : Ctx) (s : State) {m : Nat} (hm : m &&& 13894433 = 13894433) {s₀ : State} (h₀ : Touch m s₀ s) : Touch m s₀ (State.apstSet c x s) := by
  refine h₀.step hm ?_
  clear h₀ hm
  unfold State.apstSet
  (repeat' (first | (simp (maxDischargeDepth := 60) [*]; done) | split | dsimp only | (apply touch_foldl _ _ _ _ (by simp (maxDischargeDepth := 60) [*]); intro t x; try simp only)))
@[simp] theorem State.unmapNs_touch (nsid : Nat) (s : State) {m : Nat} (hm : m &&& 69632 = 69632) {s₀ : State} (h₀ : Touch m s₀ s) : Touch m s₀ (State.unmapNs nsid s) := by
  refine h₀.step hm ?_
  clear h₀ hm
  unfold State.unmapNs
  (repeat' (first | (simp (maxDischargeDepth := 60) [*]; done) | split | dsimp only | (apply touch_foldl _ _ _ _ (by simp (maxDischargeDepth := 60) [*]); intro t x; try simp only)))
@[simp] theorem State.nsChanged_touch (slice nsid : Nat) (s : State) {m : Nat} (hm : m &&& 512 = 512) {s₀ : State} (h₀ : Touch m s₀ s) : Touch m s₀ (State.nsChanged slice nsid s) := by
  refine h₀.step hm ?_
  clear h₀ hm
  unfold State.nsChanged
  dsimp only
  split
  · split
    · exact State.asyncEvent_touch _ _ _ (by decide) (touch_modQen _ (by decide) (Touch.refl _ _))
    · exact touch_modQen _ (by decide) (Touch.refl _ _)
  · exact Touch.refl _ _
@[simp] theorem State.createNs_touch (c : Nat) (p : NamespaceSpec) (s : State) {m : Nat} (hm : m &&& 4608 = 4608) {s₀ : State} (h₀ : Touch m s₀ s) : Touch m s₀ (State.createNs c p s) := by
  refine h₀.step hm ?_
  clear h₀ hm
  unfold State.createNs
  (repeat' (first | (simp (maxDischargeDepth := 60) [*]; done) | split | dsimp only | (apply touch_foldl _ _ _ _ (by simp (maxDischargeDepth := 60) [*]); intro t x; try simp only)))
@[simp] theorem State.regenerate_touch (slots : List Nat) (s : State) {m : Nat} (hm : m &&& 32770 = 32770) {s₀ : State} (h₀ : Touch m s₀ s) : Touch m s₀ (State.regenerate slots s) := by
  refine h₀.step hm ?_
  clear h₀ hm
  unfold State.regenerate
  (repeat' (first | (simp (maxDischargeDepth := 60) [*]; done) | split | dsimp only | (apply touch_foldl _ _ _ _ (by simp (maxDischargeDepth := 60) [*]); intro t x; try simp only)))
@[simp] theorem State.firstFormat_touch (s : State) {m : Nat} (hm : m &&& 4096 = 4096) {s₀ : State} (h₀ : Touch m s₀ s) : Touch m s₀ (State.firstFormat s) := by
  refine h₀.step hm ?_
  clear h₀ hm
  unfold State.firstFormat
  (repeat' (first | (simp (maxDischargeDepth := 60) [*]; done) | split | dsimp only | (apply touch_foldl _ _ _ _ (by simp (maxDischargeDepth := 60) [*]); intro t x; try simp only)))
@[simp] theorem State.releaseUser_touch (s : State) {m : Nat} (hm : m &&& 4096 = 4096) {s₀ : State} (h₀ : Touch m s₀ s) : Touch m s₀ (State.releaseUser s) := by
  refine h₀.step hm ?_
  clear h₀ hm
  unfold State.releaseUser
  (repeat' (first | (simp (maxDischargeDepth := 60) [*]; done) | split | dsimp only | (apply touch_foldl _ _ _ _ (by simp (maxDischargeDepth := 60) [*]); intro t x; try simp only)))
@[simp] theorem State.readyAll_touch (s : State) {m : Nat} (hm : m &&& 512 = 512) {s₀ : State} (h₀ : Touch m s₀ s) : Touch m s₀ (State.readyAll s) := by
  refine h₀.step hm ?_
  clear h₀ hm
  unfold State.readyAll
  (repeat' (first | (simp (maxDischargeDepth := 60) [*]; done) | split | dsimp only | (apply touch_foldl _ _ _ _ (by simp (maxDischargeDepth := 60) [*]); intro t x; try simp only)))
@[simp] theorem State.cleanEnd_touch (s : State) {m : Nat} (hm : m &&& 167952 = 167952) {s₀ : State} (h₀ : Touch m s₀ s) : Touch m s₀ (State.cleanEnd s) := by
  refine h₀.step hm ?_
  clear h₀ hm
  unfold State.cleanEnd
  (repeat' (first | (simp (maxDischargeDepth := 60) [*]; done) | split | dsimp only | (apply touch_foldl _ _ _ _ (by simp (maxDischargeDepth := 60) [*]); intro t x; try simp only)))
@[simp] theorem State.shutdownEnd_touch (s : State) {m : Nat} (hm : m &&& 168464 = 168464) {s₀ : State} (h₀ : Touch m s₀ s) : Touch m s₀ (State.shutdownEnd s) := by
  refine h₀.step hm ?_
  clear h₀ hm
  unfold State.shutdownEnd
  (repeat' (first | (simp (maxDischargeDepth := 60) [*]; done) | split | dsimp only | (apply touch_foldl _ _ _ _ (by simp (maxDischargeDepth := 60) [*]); intro t x; try simp only)))
@[simp] theorem State.writeConfig_touch (f : ConfigRecord → ConfigRecord) (s : State) {m : Nat} (hm : m &&& 2097152 = 2097152) {s₀ : State} (h₀ : Touch m s₀ s) : Touch m s₀ (State.writeConfig f s) := by
  refine h₀.step hm ?_
  clear h₀ hm
  unfold State.writeConfig
  (repeat' (first | (simp (maxDischargeDepth := 60) [*]; done) | split | dsimp only | (apply touch_foldl _ _ _ _ (by simp (maxDischargeDepth := 60) [*]); intro t x; try simp only)))
@[simp] theorem State.setTake_touch (st trials : Nat) (s : State) {m : Nat} (hm : m &&& 10485792 = 10485792) {s₀ : State} (h₀ : Touch m s₀ s) : Touch m s₀ (State.setTake st trials s) := by
  refine h₀.step hm ?_
  clear h₀ hm
  unfold State.setTake
  (repeat' (first | (simp (maxDischargeDepth := 60) [*]; done) | split | dsimp only | (apply touch_foldl _ _ _ _ (by simp (maxDischargeDepth := 60) [*]); intro t x; try simp only)))
@[simp] theorem State.csuCmd_touch (r : CsuRequest) (op : Nat) (s : State) {m : Nat} (hm : m &&& 2097184 = 2097184) {s₀ : State} (h₀ : Touch m s₀ s) : Touch m s₀ (State.csuCmd r op s) := by
  refine h₀.step hm ?_
  clear h₀ hm
  unfold State.csuCmd
  (repeat' (first | (simp (maxDischargeDepth := 60) [*]; done) | split | dsimp only | (apply touch_foldl _ _ _ _ (by simp (maxDischargeDepth := 60) [*]); intro t x; try simp only)))
@[simp] theorem State.csuGo_touch (r : CsuRequest) (op : Nat) (argOk : Bool) (sector : Nat) (f : FlashOp) (window : Bool) (s : State) {m : Nat} (hm : m &&& 10485792 = 10485792) {s₀ : State} (h₀ : Touch m s₀ s) : Touch m s₀ (State.csuGo r op argOk sector f window s) := by
  refine h₀.step hm ?_
  clear h₀ hm
  unfold State.csuGo
  (repeat' (first | (simp (maxDischargeDepth := 60) [*]; done) | split | dsimp only | (apply touch_foldl _ _ _ _ (by simp (maxDischargeDepth := 60) [*]); intro t x; try simp only)))
@[simp] theorem State.csuProgram_touch (r : CsuRequest) (s : State) {m : Nat} (hm : m &&& 10485792 = 10485792) {s₀ : State} (h₀ : Touch m s₀ s) : Touch m s₀ (State.csuProgram r s) := by
  refine h₀.step hm ?_
  clear h₀ hm
  unfold State.csuProgram
  (repeat' (first | (simp (maxDischargeDepth := 60) [*]; done) | split | dsimp only | (apply touch_foldl _ _ _ _ (by simp (maxDischargeDepth := 60) [*]); intro t x; try simp only)))
@[simp] theorem State.csuErase_touch (r : CsuRequest) (s : State) {m : Nat} (hm : m &&& 10485792 = 10485792) {s₀ : State} (h₀ : Touch m s₀ s) : Touch m s₀ (State.csuErase r s) := by
  refine h₀.step hm ?_
  clear h₀ hm
  unfold State.csuErase
  (repeat' (first | (simp (maxDischargeDepth := 60) [*]; done) | split | dsimp only | (apply touch_foldl _ _ _ _ (by simp (maxDischargeDepth := 60) [*]); intro t x; try simp only)))
@[simp] theorem State.windowProgram_touch (r : CsuRequest) (s : State) {m : Nat} (hm : m &&& 10485792 = 10485792) {s₀ : State} (h₀ : Touch m s₀ s) : Touch m s₀ (State.windowProgram r s) := by
  refine h₀.step hm ?_
  clear h₀ hm
  unfold State.windowProgram
  (repeat' (first | (simp (maxDischargeDepth := 60) [*]; done) | split | dsimp only | (apply touch_foldl _ _ _ _ (by simp (maxDischargeDepth := 60) [*]); intro t x; try simp only)))
@[simp] theorem State.windowErase_touch (r : CsuRequest) (s : State) {m : Nat} (hm : m &&& 10485792 = 10485792) {s₀ : State} (h₀ : Touch m s₀ s) : Touch m s₀ (State.windowErase r s) := by
  refine h₀.step hm ?_
  clear h₀ hm
  unfold State.windowErase
  (repeat' (first | (simp (maxDischargeDepth := 60) [*]; done) | split | dsimp only | (apply touch_foldl _ _ _ _ (by simp (maxDischargeDepth := 60) [*]); intro t x; try simp only)))
@[simp] theorem State.loaderCopied_touch (r : CsuRequest) (s : State) {m : Nat} (hm : m &&& 11534368 = 11534368) {s₀ : State} (h₀ : Touch m s₀ s) : Touch m s₀ (State.loaderCopied r s) := by
  refine h₀.step hm ?_
  clear h₀ hm
  unfold State.loaderCopied
  (repeat' (first | (simp (maxDischargeDepth := 60) [*]; done) | split | dsimp only | (apply touch_foldl _ _ _ _ (by simp (maxDischargeDepth := 60) [*]); intro t x; try simp only)))
@[simp] theorem State.csuCommand_touch (r : CsuRequest) (op : Nat) (s : State) {m : Nat} (hm : m &&& 11534368 = 11534368) {s₀ : State} (h₀ : Touch m s₀ s) : Touch m s₀ (State.csuCommand r op s) := by
  refine h₀.step hm ?_
  clear h₀ hm
  unfold State.csuCommand
  (repeat' (first | (simp (maxDischargeDepth := 60) [*]; done) | split | dsimp only | (apply touch_foldl _ _ _ _ (by simp (maxDischargeDepth := 60) [*]); intro t x; try simp only)))
@[simp] theorem State.spoil_touch (a n : Nat) (s : State) {m : Nat} (hm : m &&& 2097154 = 2097154) {s₀ : State} (h₀ : Touch m s₀ s) : Touch m s₀ (State.spoil a n s) := by
  refine h₀.step hm ?_
  clear h₀ hm
  unfold State.spoil
  (repeat' (first | (simp (maxDischargeDepth := 60) [*]; done) | split | dsimp only | (apply touch_foldl _ _ _ _ (by simp (maxDischargeDepth := 60) [*]); intro t x; try simp only)))
@[simp] theorem State.flashDone_touch (o : BankOp) (ok : Bool) (s : State) {m : Nat} (hm : m &&& 2097218 = 2097218) {s₀ : State} (h₀ : Touch m s₀ s) : Touch m s₀ (State.flashDone o ok s) := by
  refine h₀.step hm ?_
  clear h₀ hm
  unfold State.flashDone
  (repeat' (first | (simp (maxDischargeDepth := 60) [*]; done) | split | dsimp only | (apply touch_foldl _ _ _ _ (by simp (maxDischargeDepth := 60) [*]); intro t x; try simp only)))
@[simp] theorem State.heldWindow_touch (s : State) {m : Nat} (hm : m &&& 10485792 = 10485792) {s₀ : State} (h₀ : Touch m s₀ s) : Touch m s₀ (State.heldWindow s) := by
  refine h₀.step hm ?_
  clear h₀ hm
  unfold State.heldWindow
  (repeat' (first | (simp (maxDischargeDepth := 60) [*]; done) | split | dsimp only | (apply touch_foldl _ _ _ _ (by simp (maxDischargeDepth := 60) [*]); intro t x; try simp only)))
@[simp] theorem State.writeWp_touch (cluster : Cluster) (pair n : Nat) (value : Word) (s : State) {m : Nat} (hm : m &&& 2097152 = 2097152) {s₀ : State} (h₀ : Touch m s₀ s) : Touch m s₀ (State.writeWp cluster pair n value s) := by
  refine h₀.step hm ?_
  clear h₀ hm
  unfold State.writeWp
  (repeat' (first | (simp (maxDischargeDepth := 60) [*]; done) | split | dsimp only | (apply touch_foldl _ _ _ _ (by simp (maxDischargeDepth := 60) [*]); intro t x; try simp only)))
@[simp] theorem State.stopFlash_touch (s : State) {m : Nat} (hm : m &&& 2097154 = 2097154) {s₀ : State} (h₀ : Touch m s₀ s) : Touch m s₀ (State.stopFlash s) := by
  refine h₀.step hm ?_
  clear h₀ hm
  unfold State.stopFlash
  refine touch_modCsu _ (by simp) (touch_foldl _ _ _ _ (Touch.refl _ _) fun t x => ?_)
  split <;> simp (maxDischargeDepth := 60)
@[simp] theorem State.debugWrite_touch (sp : DebugSpace) (a : Nat) (b : Byte) (s : State) {m : Nat} (hm : m &&& 3932160 = 3932160) {s₀ : State} (h₀ : Touch m s₀ s) : Touch m s₀ (State.debugWrite sp a b s) := by
  refine h₀.step hm ?_
  clear h₀ hm
  unfold State.debugWrite
  (repeat' (first | (simp (maxDischargeDepth := 60) [*]; done) | split | dsimp only | (apply touch_foldl _ _ _ _ (by simp (maxDischargeDepth := 60) [*]); intro t x; try simp only)))
@[simp] theorem State.stageRecord_touch (r : Record) (s : State) {m : Nat} (hm : m &&& 10485760 = 10485760) {s₀ : State} (h₀ : Touch m s₀ s) : Touch m s₀ (State.stageRecord r s) := by
  refine h₀.step hm ?_
  clear h₀ hm
  unfold State.stageRecord
  (repeat' (first | (simp (maxDischargeDepth := 60) [*]; done) | split | dsimp only | (apply touch_foldl _ _ _ _ (by simp (maxDischargeDepth := 60) [*]); intro t x; try simp only)))
@[simp] theorem State.slatesEnd_touch (s : State) {m : Nat} (hm : m &&& 8388608 = 8388608) {s₀ : State} (h₀ : Touch m s₀ s) : Touch m s₀ (State.slatesEnd s) := by
  refine h₀.step hm ?_
  clear h₀ hm
  unfold State.slatesEnd
  (repeat' (first | (simp (maxDischargeDepth := 60) [*]; done) | split | dsimp only | (apply touch_foldl _ _ _ _ (by simp (maxDischargeDepth := 60) [*]); intro t x; try simp only)))
@[simp] theorem State.captureTick_touch (peek : State → Nat → Word) (s : State) {m : Nat} (hm : m &&& 10485760 = 10485760) {s₀ : State} (h₀ : Touch m s₀ s) : Touch m s₀ (State.captureTick peek s) := by
  refine h₀.step hm ?_
  clear h₀ hm
  unfold State.captureTick
  (repeat' (first | (simp (maxDischargeDepth := 60) [*]; done) | split | dsimp only | (apply touch_foldl _ _ _ _ (by simp (maxDischargeDepth := 60) [*]); intro t x; try simp only)))
@[simp] theorem State.fwTrig_touch (code : Nat) (s : State) {m : Nat} (hm : m &&& 8388640 = 8388640) {s₀ : State} (h₀ : Touch m s₀ s) : Touch m s₀ (State.fwTrig code s) := by
  refine h₀.step hm ?_
  clear h₀ hm
  unfold State.fwTrig
  (repeat' (first | (simp (maxDischargeDepth := 60) [*]; done) | split | dsimp only | (apply touch_foldl _ _ _ _ (by simp (maxDischargeDepth := 60) [*]); intro t x; try simp only)))
@[simp] theorem State.setFreeze_touch (on : Bool) (s : State) {m : Nat} (hm : m &&& 8388608 = 8388608) {s₀ : State} (h₀ : Touch m s₀ s) : Touch m s₀ (State.setFreeze on s) := by
  refine h₀.step hm ?_
  clear h₀ hm
  unfold State.setFreeze
  (repeat' (first | (simp (maxDischargeDepth := 60) [*]; done) | split | dsimp only | (apply touch_foldl _ _ _ _ (by simp (maxDischargeDepth := 60) [*]); intro t x; try simp only)))
@[simp] theorem State.resetCru_touch (class1 : Bool) (s : State) {m : Nat} (hm : m &&& 8388608 = 8388608) {s₀ : State} (h₀ : Touch m s₀ s) : Touch m s₀ (State.resetCru class1 s) := by
  refine h₀.step hm ?_
  clear h₀ hm
  unfold State.resetCru
  (repeat' (first | (simp (maxDischargeDepth := 60) [*]; done) | split | dsimp only | (apply touch_foldl _ _ _ _ (by simp (maxDischargeDepth := 60) [*]); intro t x; try simp only)))
@[simp] theorem State.startCru_touch (s : State) {m : Nat} (hm : m &&& 8388608 = 8388608) {s₀ : State} (h₀ : Touch m s₀ s) : Touch m s₀ (State.startCru s) := by
  refine h₀.step hm ?_
  clear h₀ hm
  unfold State.startCru
  (repeat' (first | (simp (maxDischargeDepth := 60) [*]; done) | split | dsimp only | (apply touch_foldl _ _ _ _ (by simp (maxDischargeDepth := 60) [*]); intro t x; try simp only)))
@[simp] theorem State.hallCru_touch (s : State) {m : Nat} (hm : m &&& 8388608 = 8388608) {s₀ : State} (h₀ : Touch m s₀ s) : Touch m s₀ (State.hallCru s) := by
  refine h₀.step hm ?_
  clear h₀ hm
  unfold State.hallCru
  (repeat' (first | (simp (maxDischargeDepth := 60) [*]; done) | split | dsimp only | (apply touch_foldl _ _ _ _ (by simp (maxDischargeDepth := 60) [*]); intro t x; try simp only)))
@[simp] theorem State.loseStaging_touch (s : State) {m : Nat} (hm : m &&& 8388608 = 8388608) {s₀ : State} (h₀ : Touch m s₀ s) : Touch m s₀ (State.loseStaging s) := by
  refine h₀.step hm ?_
  clear h₀ hm
  unfold State.loseStaging
  (repeat' (first | (simp (maxDischargeDepth := 60) [*]; done) | split | dsimp only | (apply touch_foldl _ _ _ _ (by simp (maxDischargeDepth := 60) [*]); intro t x; try simp only)))
@[simp] theorem State.archiveRunning_touch (s : State) {m : Nat} (hm : m &&& 2097152 = 2097152) {s₀ : State} (h₀ : Touch m s₀ s) : Touch m s₀ (State.archiveRunning s) := by
  refine h₀.step hm ?_
  clear h₀ hm
  unfold State.archiveRunning
  (repeat' (first | (simp (maxDischargeDepth := 60) [*]; done) | split | dsimp only | (apply touch_foldl _ _ _ _ (by simp (maxDischargeDepth := 60) [*]); intro t x; try simp only)))
@[simp] theorem State.writeBanks_touch (t : List Byte) (st : Nat) (s : State) {m : Nat} (hm : m &&& 10485792 = 10485792) {s₀ : State} (h₀ : Touch m s₀ s) : Touch m s₀ (State.writeBanks t st s) := by
  refine h₀.step hm ?_
  clear h₀ hm
  unfold State.writeBanks
  (repeat' (first | (simp (maxDischargeDepth := 60) [*]; done) | split | dsimp only | (apply touch_foldl _ _ _ _ (by simp (maxDischargeDepth := 60) [*]); intro t x; try simp only)))
@[simp] theorem State.writeTake_touch (t : List Byte) (s : State) {m : Nat} (hm : m &&& 10485792 = 10485792) {s₀ : State} (h₀ : Touch m s₀ s) : Touch m s₀ (State.writeTake t s) := by
  refine h₀.step hm ?_
  clear h₀ hm
  unfold State.writeTake
  (repeat' (first | (simp (maxDischargeDepth := 60) [*]; done) | split | dsimp only | (apply touch_foldl _ _ _ _ (by simp (maxDischargeDepth := 60) [*]); intro t x; try simp only)))
@[simp] theorem State.writeFailed_touch (s : State) {m : Nat} (hm : m &&& 10485792 = 10485792) {s₀ : State} (h₀ : Touch m s₀ s) : Touch m s₀ (State.writeFailed s) := by
  refine h₀.step hm ?_
  clear h₀ hm
  unfold State.writeFailed
  (repeat' (first | (simp (maxDischargeDepth := 60) [*]; done) | split | dsimp only | (apply touch_foldl _ _ _ _ (by simp (maxDischargeDepth := 60) [*]); intro t x; try simp only)))
@[simp] theorem State.countFallback_touch (s : State) {m : Nat} (hm : m &&& 12583521 = 12583521) {s₀ : State} (h₀ : Touch m s₀ s) : Touch m s₀ (State.countFallback s) := by
  refine h₀.step hm ?_
  clear h₀ hm
  unfold State.countFallback
  (repeat' (first | (simp (maxDischargeDepth := 60) [*]; done) | split | dsimp only | (apply touch_foldl _ _ _ _ (by simp (maxDischargeDepth := 60) [*]); intro t x; try simp only)))
@[simp] theorem State.stagedStart_touch (s : State) {m : Nat} (hm : m &&& 64 = 64) {s₀ : State} (h₀ : Touch m s₀ s) : Touch m s₀ (State.stagedStart s) := by
  refine h₀.step hm ?_
  clear h₀ hm
  unfold State.stagedStart
  (repeat' (first | (simp (maxDischargeDepth := 60) [*]; done) | split | dsimp only | (apply touch_foldl _ _ _ _ (by simp (maxDischargeDepth := 60) [*]); intro t x; try simp only)))
@[simp] theorem State.chooseArchive_touch (s : State) {m : Nat} (hm : m &&& 14680689 = 14680689) {s₀ : State} (h₀ : Touch m s₀ s) : Touch m s₀ (State.chooseArchive s) := by
  refine h₀.step hm ?_
  clear h₀ hm
  unfold State.chooseArchive
  (repeat' (first | (simp (maxDischargeDepth := 60) [*]; done) | split | dsimp only | (apply touch_foldl _ _ _ _ (by simp (maxDischargeDepth := 60) [*]); intro t x; try simp only)))
@[simp] theorem State.chooseTake_touch (s : State) {m : Nat} (hm : m &&& 14680689 = 14680689) {s₀ : State} (h₀ : Touch m s₀ s) : Touch m s₀ (State.chooseTake s) := by
  refine h₀.step hm ?_
  clear h₀ hm
  unfold State.chooseTake
  (repeat' (first | (simp (maxDischargeDepth := 60) [*]; done) | split | dsimp only | (apply touch_foldl _ _ _ _ (by simp (maxDischargeDepth := 60) [*]); intro t x; try simp only)))
@[simp] theorem State.activationNotice_touch (s : State) {m : Nat} (hm : m &&& 512 = 512) {s₀ : State} (h₀ : Touch m s₀ s) : Touch m s₀ (State.activationNotice s) := by
  refine h₀.step hm ?_
  clear h₀ hm
  unfold State.activationNotice
  (repeat' (first | (simp (maxDischargeDepth := 60) [*]; done) | split | dsimp only | (apply touch_foldl _ _ _ _ (by simp (maxDischargeDepth := 60) [*]); intro t x; try simp only)))
@[simp] theorem State.beginActivation_touch (c : Option Nat) (s : State) {m : Nat} (hm : m &&& 512 = 512) {s₀ : State} (h₀ : Touch m s₀ s) : Touch m s₀ (State.beginActivation c s) := by
  refine h₀.step hm ?_
  clear h₀ hm
  unfold State.beginActivation
  (repeat' (first | (simp (maxDischargeDepth := 60) [*]; done) | split | dsimp only | (apply touch_foldl _ _ _ _ (by simp (maxDischargeDepth := 60) [*]); intro t x; try simp only)))
@[simp] theorem State.activationEnd_touch (s : State) {m : Nat} (hm : m &&& 10486304 = 10486304) {s₀ : State} (h₀ : Touch m s₀ s) : Touch m s₀ (State.activationEnd s) := by
  refine h₀.step hm ?_
  clear h₀ hm
  unfold State.activationEnd
  (repeat' (first | (simp (maxDischargeDepth := 60) [*]; done) | split | dsimp only | (apply touch_foldl _ _ _ _ (by simp (maxDischargeDepth := 60) [*]); intro t x; try simp only)))
@[simp] theorem State.fallbackEnd_touch (s : State) {m : Nat} (hm : m &&& 2097664 = 2097664) {s₀ : State} (h₀ : Touch m s₀ s) : Touch m s₀ (State.fallbackEnd s) := by
  refine h₀.step hm ?_
  clear h₀ hm
  unfold State.fallbackEnd
  (repeat' (first | (simp (maxDischargeDepth := 60) [*]; done) | split | dsimp only | (apply touch_foldl _ _ _ _ (by simp (maxDischargeDepth := 60) [*]); intro t x; try simp only)))
@[simp] theorem State.fallbackWrite_touch (s : State) {m : Nat} (hm : m &&& 10485792 = 10485792) {s₀ : State} (h₀ : Touch m s₀ s) : Touch m s₀ (State.fallbackWrite s) := by
  refine h₀.step hm ?_
  clear h₀ hm
  unfold State.fallbackWrite
  (repeat' (first | (simp (maxDischargeDepth := 60) [*]; done) | split | dsimp only | (apply touch_foldl _ _ _ _ (by simp (maxDischargeDepth := 60) [*]); intro t x; try simp only)))
@[simp] theorem State.confirm_touch (s : State) {m : Nat} (hm : m &&& 10485792 = 10485792) {s₀ : State} (h₀ : Touch m s₀ s) : Touch m s₀ (State.confirm s) := by
  refine h₀.step hm ?_
  clear h₀ hm
  unfold State.confirm
  (repeat' (first | (simp (maxDischargeDepth := 60) [*]; done) | split | dsimp only | (apply touch_foldl _ _ _ _ (by simp (maxDischargeDepth := 60) [*]); intro t x; try simp only)))
@[simp] theorem State.fwWrite_touch (c : Nat) (storeOk : Bool) (t : List Byte) (f : State → State) (s : State) {m : Nat} (hm : m &&& 10486304 = 10486304)
    (hf : ∀ u, Touch m u (f u)) {s₀ : State} (h₀ : Touch m s₀ s) : Touch m s₀ (State.fwWrite c storeOk t f s) := by
  refine h₀.trans ?_
  unfold State.fwWrite
  split
  · exact ((State.writeTake_touch (m := 10486304) _ _ (by decide) (Touch.refl _ _)).mono hm).trans (hf _)
  · exact (Touch.refl _ _).step hm (by simp (maxDischargeDepth := 60))
@[simp] theorem State.commitActivate_touch (c : Nat) (s : State) {m : Nat} (hm : m &&& 512 = 512) {s₀ : State} (h₀ : Touch m s₀ s) : Touch m s₀ (State.commitActivate c s) := by
  refine h₀.step hm ?_
  clear h₀ hm
  unfold State.commitActivate
  (repeat' (first | (simp (maxDischargeDepth := 60) [*]; done) | split | dsimp only | (apply touch_foldl _ _ _ _ (by simp (maxDischargeDepth := 60) [*]); intro t x; try simp only)))
@[simp] theorem State.rescueGo_touch (t : RescueTask) (seq : BitVec 8) (s : State) {m : Nat} (hm : m &&& 8389176 = 8389176) {s₀ : State} (h₀ : Touch m s₀ s) : Touch m s₀ (State.rescueGo t seq s) := by
  refine h₀.step hm ?_
  clear h₀ hm
  unfold State.rescueGo
  (repeat' (first | (simp (maxDischargeDepth := 60) [*]; done) | split | dsimp only | (apply touch_foldl _ _ _ _ (by simp (maxDischargeDepth := 60) [*]); intro t x; try simp only)))
@[simp] theorem State.taskEnd_touch (res : Nat) (o0 o1 : Nat) (s : State) {m : Nat} (hm : m &&& 512 = 512) {s₀ : State} (h₀ : Touch m s₀ s) : Touch m s₀ (State.taskEnd res o0 o1 s) := by
  refine h₀.step hm ?_
  clear h₀ hm
  unfold State.taskEnd
  (repeat' (first | (simp (maxDischargeDepth := 60) [*]; done) | split | dsimp only | (apply touch_foldl _ _ _ _ (by simp (maxDischargeDepth := 60) [*]); intro t x; try simp only)))
@[simp] theorem State.drawChallenge_touch (s : State) {m : Nat} (hm : m &&& 2097154 = 2097154) {s₀ : State} (h₀ : Touch m s₀ s) : Touch m s₀ (State.drawChallenge s) := by
  refine h₀.step hm ?_
  clear h₀ hm
  unfold State.drawChallenge
  (repeat' (first | (simp (maxDischargeDepth := 60) [*]; done) | split | dsimp only | (apply touch_foldl _ _ _ _ (by simp (maxDischargeDepth := 60) [*]); intro t x; try simp only)))
@[simp] theorem State.downgrade_touch (s : State) {m : Nat} (hm : m &&& 10486320 = 10486320) {s₀ : State} (h₀ : Touch m s₀ s) : Touch m s₀ (State.downgrade s) := by
  refine h₀.step hm ?_
  clear h₀ hm
  unfold State.downgrade
  (repeat' (first | (simp (maxDischargeDepth := 60) [*]; done) | split | dsimp only | (apply touch_foldl _ _ _ _ (by simp (maxDischargeDepth := 60) [*]); intro t x; try simp only)))
@[simp] theorem State.sealApply_touch (s : State) {m : Nat} (hm : m &&& 2097152 = 2097152) {s₀ : State} (h₀ : Touch m s₀ s) : Touch m s₀ (State.sealApply s) := by
  refine h₀.step hm ?_
  clear h₀ hm
  unfold State.sealApply
  (repeat' (first | (simp (maxDischargeDepth := 60) [*]; done) | split | dsimp only | (apply touch_foldl _ _ _ _ (by simp (maxDischargeDepth := 60) [*]); intro t x; try simp only)))
@[simp] theorem State.setStage_touch (st : Stage) (s : State) {m : Nat} (hm : m &&& 8388656 = 8388656) {s₀ : State} (h₀ : Touch m s₀ s) : Touch m s₀ (State.setStage st s) := by
  refine h₀.step hm ?_
  clear h₀ hm
  unfold State.setStage
  (repeat' (first | (simp (maxDischargeDepth := 60) [*]; done) | split | dsimp only | (apply touch_foldl _ _ _ _ (by simp (maxDischargeDepth := 60) [*]); intro t x; try simp only)))
@[simp] theorem State.dropVolatile_touch (s : State) {m : Nat} (hm : m &&& 192 = 192) {s₀ : State} (h₀ : Touch m s₀ s) : Touch m s₀ (State.dropVolatile s) := by
  refine h₀.step hm ?_
  clear h₀ hm
  unfold State.dropVolatile
  constructor <;> first | rfl | (intro e; first | exact absurd e (by decide) | rfl)
@[simp] theorem State.resetUnitRegs_touch (s : State) (unit : Nat) {m : Nat} (hm : m &&& 32 = 32) {s₀ : State} (h₀ : Touch m s₀ s) : Touch m s₀ (State.resetUnitRegs s unit) := by
  refine h₀.step hm ?_
  clear h₀ hm
  unfold State.resetUnitRegs
  (repeat' (first | (simp (maxDischargeDepth := 60) [*]; done) | split | dsimp only | (apply touch_foldl _ _ _ _ (by simp (maxDischargeDepth := 60) [*]); intro t x; try simp only)))
@[simp] theorem State.sheetEnd_touch (s : State) {m : Nat} (hm : m &&& 4194305 = 4194305) {s₀ : State} (h₀ : Touch m s₀ s) : Touch m s₀ (State.sheetEnd s) := by
  refine h₀.step hm ?_
  clear h₀ hm
  unfold State.sheetEnd
  (repeat' (first | (simp (maxDischargeDepth := 60) [*]; done) | split | dsimp only | (apply touch_foldl _ _ _ _ (by simp (maxDischargeDepth := 60) [*]); intro t x; try simp only)))
@[simp] theorem State.ptmLost_touch (s : State) {m : Nat} (hm : m &&& 264 = 264) {s₀ : State} (h₀ : Touch m s₀ s) : Touch m s₀ (State.ptmLost s) := by
  refine h₀.step hm ?_
  clear h₀ hm
  unfold State.ptmLost
  (repeat' (first | (simp (maxDischargeDepth := 60) [*]; done) | split | dsimp only | (apply touch_foldl _ _ _ _ (by simp (maxDischargeDepth := 60) [*]); intro t x; try simp only)))
@[simp] theorem State.unitsReset_touch (class1 work : Bool) (s : State) {m : Nat} (hm : m &&& 16646139 = 16646139) {s₀ : State} (h₀ : Touch m s₀ s) : Touch m s₀ (State.unitsReset class1 work s) := by
  refine h₀.step hm ?_
  clear h₀ hm
  unfold State.unitsReset
  dsimp only
  have h₁ : Touch 16646139 s ((((s.squashWhere fun _ => true).clearBursts fun w => (winOf s.gal.active w).kind == .stage).ptmLost).resetClusters.stopFlash.dropVolatile.healthClear Health.thermal) := by
    simp (maxDischargeDepth := 60)
  have h₂ := touch_foldl State.resetUnitRegs resetUnits s _ h₁ fun t x => by simp (maxDischargeDepth := 60)
  generalize List.foldl State.resetUnitRegs _ resetUnits = u at h₂ ⊢
  refine touch_emit _ (by simp) (State.resetCru_touch _ _ (by simp) (h₂.trans ?_))
  constructor <;> first | rfl | (intro e; first | exact absurd e (by decide) | rfl)
@[simp] theorem State.deviceReset_touch (n : Nat) (work : Bool) (s : State) {m : Nat} (hm : m &&& 16646139 = 16646139) {s₀ : State} (h₀ : Touch m s₀ s) : Touch m s₀ (State.deviceReset n work s) := by
  refine h₀.step hm ?_
  clear h₀ hm
  unfold State.deviceReset
  (repeat' (first | (simp (maxDischargeDepth := 60) [*]; done) | split | dsimp only | (apply touch_foldl _ _ _ _ (by simp (maxDischargeDepth := 60) [*]); intro t x; try simp only)))
@[simp] theorem State.cutProgram_touch (o : DieOp) (s : State) {m : Nat} (hm : m &&& 69632 = 69632) {s₀ : State} (h₀ : Touch m s₀ s) : Touch m s₀ (State.cutProgram o s) := by
  refine h₀.step hm ?_
  clear h₀ hm
  unfold State.cutProgram
  (repeat' (first | (simp (maxDischargeDepth := 60) [*]; done) | split | dsimp only | (apply touch_foldl _ _ _ _ (by simp (maxDischargeDepth := 60) [*]); intro t x; try simp only)))
@[simp] theorem State.interruptOp_touch (d i : Nat) (o : DieOp) (s : State) {m : Nat} (hm : m &&& 77824 = 77824) {s₀ : State} (h₀ : Touch m s₀ s) : Touch m s₀ (State.interruptOp d i o s) := by
  refine h₀.step hm ?_
  clear h₀ hm
  unfold State.interruptOp
  (repeat' (first | (simp (maxDischargeDepth := 60) [*]; done) | split | dsimp only | (apply touch_foldl _ _ _ _ (by simp (maxDischargeDepth := 60) [*]); intro t x; try simp only)))
@[simp] theorem State.mediaEnd_touch (s : State) {m : Nat} (hm : m &&& 913456 = 913456) {s₀ : State} (h₀ : Touch m s₀ s) : Touch m s₀ (State.mediaEnd s) := by
  refine h₀.step hm ?_
  clear h₀ hm
  unfold State.mediaEnd
  dsimp only
  refine State.rebuildPools_touch _ _ (by simp) ?_
  have h₁ := touch_foldl (m := 913456) (fun s (e : Nat × DieOp) => s.interruptOp e.2.req.die e.1 e.2) (s.dsc.ops.filter fun e => (s.dsc.die e.2.req.die).held == some e.1)
    s s (Touch.refl _ _) fun t x => by simp (maxDischargeDepth := 60)
  refine h₁.trans ?_
  constructor <;> first | rfl | (intro e; first | exact absurd e (by decide) | rfl)
@[simp] theorem State.shutWorkEnd_touch (s : State) {m : Nat} (hm : m &&& 1044528 = 1044528) {s₀ : State} (h₀ : Touch m s₀ s) : Touch m s₀ (State.shutWorkEnd s) := by
  refine h₀.step hm ?_
  clear h₀ hm
  unfold State.shutWorkEnd
  (repeat' (first | (simp (maxDischargeDepth := 60) [*]; done) | split | dsimp only | (apply touch_foldl _ _ _ _ (by simp (maxDischargeDepth := 60) [*]); intro t x; try simp only)))
@[simp] theorem State.classThree_touch (s : State) {m : Nat} (hm : m &&& 16777211 = 16777211) {s₀ : State} (h₀ : Touch m s₀ s) : Touch m s₀ (State.classThree s) := by
  refine h₀.step hm ?_
  clear h₀ hm
  unfold State.classThree
  (repeat' (first | (simp (maxDischargeDepth := 60) [*]; done) | split | dsimp only | (apply touch_foldl _ _ _ _ (by simp (maxDischargeDepth := 60) [*]); intro t x; try simp only)))
@[simp] theorem State.release_touch (s : State) {m : Nat} (hm : m &&& 16 = 16) {s₀ : State} (h₀ : Touch m s₀ s) : Touch m s₀ (State.release s) := by
  refine h₀.step hm ?_
  clear h₀ hm
  unfold State.release
  (repeat' (first | (simp (maxDischargeDepth := 60) [*]; done) | split | dsimp only | (apply touch_foldl _ _ _ _ (by simp (maxDischargeDepth := 60) [*]); intro t x; try simp only)))
@[simp] theorem State.linkLost_touch (s : State) {m : Nat} (hm : m &&& 16777211 = 16777211) {s₀ : State} (h₀ : Touch m s₀ s) : Touch m s₀ (State.linkLost s) := by
  refine h₀.step hm ?_
  clear h₀ hm
  unfold State.linkLost
  (repeat' (first | (simp (maxDischargeDepth := 60) [*]; done) | split | dsimp only | (apply touch_foldl _ _ _ _ (by simp (maxDischargeDepth := 60) [*]); intro t x; try simp only)))
@[simp] theorem State.stepFleet_touch (v : Dword) (src : Nat) (s : State) {m : Nat} (hm : m &&& 8421480 = 8421480) {s₀ : State} (h₀ : Touch m s₀ s) : Touch m s₀ (State.stepFleet v src s) := by
  refine h₀.step hm ?_
  clear h₀ hm
  unfold State.stepFleet
  (repeat' (first | (simp (maxDischargeDepth := 60) [*]; done) | split | dsimp only | (apply touch_foldl _ _ _ _ (by simp (maxDischargeDepth := 60) [*]); intro t x; try simp only)))
theorem State.writeGrant_touch (v : Nat) (s : State) : Touch 10486322 s (s.writeGrant v).2 := by
  unfold State.writeGrant
  dsimp only
  split
  · simp (maxDischargeDepth := 60)
  · split <;> simp (maxDischargeDepth := 60)
theorem State.actObj_touch (i j v : Nat) (s t : State) (st : Nat) (h : s.actObj i j v = some (st, t)) : Touch 16027643 s t := by
  unfold State.actObj at h
  dsimp only at h
  (repeat' split at h) <;> first
    | (cases h; done)
    | (simp only [Option.some.injEq, Prod.mk.injEq] at h; rw [← h.2]; first
        | exact Touch.refl _ _
        | exact (State.writeQstate_touch _ _ _ _ _ _ ‹_›).mono (by decide)
        | (simp (maxDischargeDepth := 60); done)
        | (split <;> simp (maxDischargeDepth := 60); done))
    | (simp only [Option.some.injEq] at h; have k := State.writeGrant_touch v s; rw [h] at k; exact k.mono (by decide))
@[simp] theorem State.stageObj_touch (o : Obj) (index sub v : Nat) (s : State) {m : Nat} (hm : m &&& 3072 = 3072) {s₀ : State} (h₀ : Touch m s₀ s) : Touch m s₀ (State.stageObj o index sub v s) := by
  refine h₀.step hm ?_
  clear h₀ hm
  unfold State.stageObj
  (repeat' (first | (simp (maxDischargeDepth := 60) [*]; done) | split | dsimp only | (apply touch_foldl _ _ _ _ (by simp (maxDischargeDepth := 60) [*]); intro t x; try simp only)))
theorem State.writeObj_touch (o : Obj) (i j v : Nat) (s t : State) (st : Nat) (h : s.writeObj o i j v = .done st t) : Touch 16027643 s t := by
  unfold State.writeObj at h
  dsimp only at h
  split at h
  · simp only [WriteEnd.done.injEq] at h; rw [← h.2]; exact Touch.refl _ _
  · have k : Touch 16027643 s (if i = 0x2C00 ∧ j = 0x02 ∧ v = 1 then s else s.sample 10) := by simp (maxDischargeDepth := 60)
    generalize (if i = 0x2C00 ∧ j = 0x02 ∧ v = 1 then s else s.sample 10) = u at k h
    split at h
    · simp only [WriteEnd.done.injEq] at h
      rw [← h.2]
      exact k.trans ((State.actObj_touch _ _ _ _ _ _ ‹_›).mono (by simp))
    · (repeat' split at h) <;> (cases h; try first | exact k | (simp (maxDischargeDepth := 60) [k]; done))
@[simp] theorem State.linkEvent_touch (f : Field) (s : State) {m : Nat} (hm : m &&& 8388640 = 8388640) {s₀ : State} (h₀ : Touch m s₀ s) : Touch m s₀ (State.linkEvent f s) := by
  refine h₀.step hm ?_
  clear h₀ hm
  unfold State.linkEvent
  (repeat' (first | (simp (maxDischargeDepth := 60) [*]; done) | split | dsimp only | (apply touch_foldl _ _ _ _ (by simp (maxDischargeDepth := 60) [*]); intro t x; try simp only)))
@[simp] theorem State.sliceHotReset_touch (s : State) (n : Nat) {m : Nat} (hm : m &&& 14421985 = 14421985) {s₀ : State} (h₀ : Touch m s₀ s) : Touch m s₀ (State.sliceHotReset s n) := by
  refine h₀.step hm ?_
  clear h₀ hm
  unfold State.sliceHotReset
  (repeat' (first | (simp (maxDischargeDepth := 60) [*]; done) | split | dsimp only | (apply touch_foldl _ _ _ _ (by simp (maxDischargeDepth := 60) [*]); intro t x; try simp only)))
@[simp] theorem State.freeTag_touch (t : Nat) (s : State) {m : Nat} (hm : m &&& 256 = 256) {s₀ : State} (h₀ : Touch m s₀ s) : Touch m s₀ (State.freeTag t s) := by
  refine h₀.step hm ?_
  clear h₀ hm
  unfold State.freeTag
  (repeat' (first | (simp (maxDischargeDepth := 60) [*]; done) | split | dsimp only | (apply touch_foldl _ _ _ _ (by simp (maxDischargeDepth := 60) [*]); intro t x; try simp only)))
@[simp] theorem State.dataArrives_touch (c off len : Nat) (data : BitVec 4096) (s : State) {m : Nat} (hm : m &&& 13894433 = 13894433) {s₀ : State} (h₀ : Touch m s₀ s) : Touch m s₀ (State.dataArrives c off len data s) := by
  refine h₀.step hm ?_
  clear h₀ hm
  unfold State.dataArrives
  (repeat' (first | (simp (maxDischargeDepth := 60) [*]; done) | split | dsimp only | (apply touch_foldl _ _ _ _ (by simp (maxDischargeDepth := 60) [*]); intro t x; try simp only)))
@[simp] theorem State.reissueUntranslated_touch (fn : Nat) (pasid : Option Nat) (page : Nat) (s : State) {m : Nat} (hm : m &&& 768 = 768) {s₀ : State} (h₀ : Touch m s₀ s) : Touch m s₀ (State.reissueUntranslated fn pasid page s) := by
  refine h₀.step hm ?_
  clear h₀ hm
  unfold State.reissueUntranslated
  (repeat' (first | (simp (maxDischargeDepth := 60) [*]; done) | split | dsimp only | (apply touch_foldl _ _ _ _ (by simp (maxDischargeDepth := 60) [*]); intro t x; try simp only)))
@[simp] theorem State.received_touch (n : Nat) (s : State) {m : Nat} (hm : m &&& 256 = 256) {s₀ : State} (h₀ : Touch m s₀ s) : Touch m s₀ (State.received n s) := by
  refine h₀.step hm ?_
  clear h₀ hm
  unfold State.received
  (repeat' (first | (simp (maxDischargeDepth := 60) [*]; done) | split | dsimp only | (apply touch_foldl _ _ _ _ (by simp (maxDischargeDepth := 60) [*]); intro t x; try simp only)))
@[simp] theorem State.linkUse_touch (s : State) {m : Nat} (hm : m &&& 256 = 256) {s₀ : State} (h₀ : Touch m s₀ s) : Touch m s₀ (State.linkUse s) := by
  refine h₀.step hm ?_
  clear h₀ hm
  unfold State.linkUse
  (repeat' (first | (simp (maxDischargeDepth := 60) [*]; done) | split | dsimp only | (apply touch_foldl _ _ _ _ (by simp (maxDischargeDepth := 60) [*]); intro t x; try simp only)))
@[simp] theorem State.idleTrack_touch (s : State) {m : Nat} (hm : m &&& 256 = 256) {s₀ : State} (h₀ : Touch m s₀ s) : Touch m s₀ (State.idleTrack s) := by
  refine h₀.step hm ?_
  clear h₀ hm
  unfold State.idleTrack
  (repeat' (first | (simp (maxDischargeDepth := 60) [*]; done) | split | dsimp only | (apply touch_foldl _ _ _ _ (by simp (maxDischargeDepth := 60) [*]); intro t x; try simp only)))
@[simp] theorem State.ptmMiss_touch (s : State) {m : Nat} (hm : m &&& 12583713 = 12583713) {s₀ : State} (h₀ : Touch m s₀ s) : Touch m s₀ (State.ptmMiss s) := by
  refine h₀.step hm ?_
  clear h₀ hm
  unfold State.ptmMiss
  (repeat' (first | (simp (maxDischargeDepth := 60) [*]; done) | split | dsimp only | (apply touch_foldl _ _ _ _ (by simp (maxDischargeDepth := 60) [*]); intro t x; try simp only)))
@[simp] theorem State.discipline_touch (d : Int) (s : State) {m : Nat} (hm : m &&& 8421480 = 8421480) {s₀ : State} (h₀ : Touch m s₀ s) : Touch m s₀ (State.discipline d s) := by
  refine h₀.step hm ?_
  clear h₀ hm
  unfold State.discipline
  (repeat' (first | (simp (maxDischargeDepth := 60) [*]; done) | split | dsimp only | (apply touch_foldl _ _ _ _ (by simp (maxDischargeDepth := 60) [*]); intro t x; try simp only)))
@[simp] theorem State.setBusMaster_touch (fn : Nat) (on : Bool) (s : State) {m : Nat} (hm : m &&& 768 = 768) {s₀ : State} (h₀ : Touch m s₀ s) : Touch m s₀ (State.setBusMaster fn on s) := by
  refine h₀.step hm ?_
  clear h₀ hm
  unfold State.setBusMaster
  (repeat' (first | (simp (maxDischargeDepth := 60) [*]; done) | split | dsimp only | (apply touch_foldl _ _ _ _ (by simp (maxDischargeDepth := 60) [*]); intro t x; try simp only)))
@[simp] theorem State.portData_touch (p : Nat) (bs : List Byte) (s : State) {m : Nat} (hm : m &&& 32 = 32) {s₀ : State} (h₀ : Touch m s₀ s) : Touch m s₀ (State.portData p bs s) := by
  refine h₀.step hm ?_
  clear h₀ hm
  unfold State.portData
  (repeat' (first | (simp (maxDischargeDepth := 60) [*]; done) | split | dsimp only | (apply touch_foldl _ _ _ _ (by simp (maxDischargeDepth := 60) [*]); intro t x; try simp only)))
@[simp] theorem State.tpErr_touch (st : Nat) (s : State) {m : Nat} (hm : m &&& 32 = 32) {s₀ : State} (h₀ : Touch m s₀ s) : Touch m s₀ (State.tpErr st s) := by
  refine h₀.step hm ?_
  clear h₀ hm
  unfold State.tpErr
  (repeat' (first | (simp (maxDischargeDepth := 60) [*]; done) | split | dsimp only | (apply touch_foldl _ _ _ _ (by simp (maxDischargeDepth := 60) [*]); intro t x; try simp only)))
@[simp] theorem State.respond_touch (via : Transport) (eid tag cmd st : Nat) (data : List Byte) (s : State) {m : Nat} (hm : m &&& 4194337 = 4194337) {s₀ : State} (h₀ : Touch m s₀ s) : Touch m s₀ (State.respond via eid tag cmd st data s) := by
  refine h₀.step hm ?_
  clear h₀ hm
  unfold State.respond
  (repeat' (first | (simp (maxDischargeDepth := 60) [*]; done) | split | dsimp only | (apply touch_foldl _ _ _ _ (by simp (maxDischargeDepth := 60) [*]); intro t x; try simp only)))
@[simp] theorem State.takePort_touch (via : Transport) (seq cmd index sub bytes : Nat) (s : State) {m : Nat} (hm : m &&& 4194336 = 4194336) {s₀ : State} (h₀ : Touch m s₀ s) : Touch m s₀ (State.takePort via seq cmd index sub bytes s) := by
  refine h₀.step hm ?_
  clear h₀ hm
  unfold State.takePort
  (repeat' (first | (simp (maxDischargeDepth := 60) [*]; done) | split | dsimp only | (apply touch_foldl _ _ _ _ (by simp (maxDischargeDepth := 60) [*]); intro t x; try simp only)))
@[simp] theorem State.ranked_touch (s : State) (o : Obj) (index sub v inst : Nat) (t : State) {m : Nat} (hm : m &&& 16027643 = 16027643)
    {s₀ : State} (h₀ : Touch m s₀ s) (h₁ : Touch m s₀ t) : Touch m s₀ (State.ranked s o index sub v inst t) := by
  unfold State.ranked
  dsimp only
  split
  · exact h₀.step hm (by simp)
  · exact h₁.step hm (by simp)
@[simp] theorem State.serveObj_touch (cmd : Nat) (r : SheetRequest) (data : List Byte) (s : State) {m : Nat} (hm : m &&& 16027643 = 16027643) {s₀ : State} (h₀ : Touch m s₀ s) : Touch m s₀ (State.serveObj cmd r data s) := by
  refine h₀.step hm ?_
  clear h₀ hm
  unfold State.serveObj
  dsimp only
  (repeat' split) <;> first | exact State.respond_touch _ _ _ _ _ _ _ (by simp) (Touch.refl _ _) | (simp; done) | exact State.respond_touch _ _ _ _ _ _ _ (by simp) (State.ranked_touch _ _ _ _ _ _ _ (by decide) (Touch.refl _ _) ((State.writeObj_touch _ _ _ _ _ _ _ ‹_›).mono (by decide))) | exact State.respond_touch _ _ _ _ _ _ _ (by simp) ((State.writeObj_touch _ _ _ _ _ _ _ ‹_›).mono (by decide))
@[simp] theorem State.serveReq_touch (cmd : Nat) (r : SheetRequest) (data : List Byte) (s : State) {m : Nat} (hm : m &&& 16027643 = 16027643) {s₀ : State} (h₀ : Touch m s₀ s) : Touch m s₀ (State.serveReq cmd r data s) := by
  refine h₀.step hm ?_
  clear h₀ hm
  unfold State.serveReq
  (repeat' (first | (simp (maxDischargeDepth := 60) [*]; done) | split | dsimp only | (apply touch_foldl _ _ _ _ (by simp (maxDischargeDepth := 60) [*]); intro t x; try simp only)))
@[simp] theorem State.request_touch (cmd : Nat) (r : SheetRequest) (data : List Byte) (s : State) {m : Nat} (hm : m &&& 16027643 = 16027643) {s₀ : State} (h₀ : Touch m s₀ s) : Touch m s₀ (State.request cmd r data s) := by
  refine h₀.step hm ?_
  clear h₀ hm
  unfold State.request
  (repeat' (first | (simp (maxDischargeDepth := 60) [*]; done) | split | dsimp only | (apply touch_foldl _ _ _ _ (by simp (maxDischargeDepth := 60) [*]); intro t x; try simp only)))
@[simp] theorem State.serveHeld_touch (w : GapRequest) (s : State) {m : Nat} (hm : m &&& 16027643 = 16027643) {s₀ : State} (h₀ : Touch m s₀ s) : Touch m s₀ (State.serveHeld w s) := by
  refine h₀.step hm ?_
  clear h₀ hm
  unfold State.serveHeld
  (repeat' (first | (simp (maxDischargeDepth := 60) [*]; done) | split | dsimp only | (apply touch_foldl _ _ _ _ (by simp (maxDischargeDepth := 60) [*]); intro t x; try simp only)))
@[simp] theorem State.serveWaiting_touch (s : State) {m : Nat} (hm : m &&& 16027643 = 16027643) {s₀ : State} (h₀ : Touch m s₀ s) : Touch m s₀ (State.serveWaiting s) := by
  refine h₀.step hm ?_
  clear h₀ hm
  unfold State.serveWaiting
  (repeat' (first | (simp (maxDischargeDepth := 60) [*]; done) | split | dsimp only | (apply touch_foldl _ _ _ _ (by simp (maxDischargeDepth := 60) [*]); intro t x; try simp only)))
@[simp] theorem State.cutOp_touch (suspend : Bool) (s : State) (e : Nat × Nat × DieOp) {m : Nat} (hm : m &&& 94209 = 94209) {s₀ : State} (h₀ : Touch m s₀ s) : Touch m s₀ (State.cutOp suspend s e) := by
  refine h₀.step hm ?_
  clear h₀ hm
  unfold State.cutOp
  (repeat' (first | (simp (maxDischargeDepth := 60) [*]; done) | split | dsimp only | (apply touch_foldl _ _ _ _ (by simp (maxDischargeDepth := 60) [*]); intro t x; try simp only)))
@[simp] theorem State.enterDump_touch (thermal : Bool) (s : State) {m : Nat} (hm : m &&& 12714529 = 12714529) {s₀ : State} (h₀ : Touch m s₀ s) : Touch m s₀ (State.enterDump thermal s) := by
  refine h₀.step hm ?_
  clear h₀ hm
  unfold State.enterDump
  (repeat' (first | (simp (maxDischargeDepth := 60) [*]; done) | split | dsimp only | (apply touch_foldl _ _ _ _ (by simp (maxDischargeDepth := 60) [*]); intro t x; try simp only)))
@[simp] theorem State.dumpBegin_touch (thermal : Bool) (s : State) {m : Nat} (hm : m &&& 16777211 = 16777211) {s₀ : State} (h₀ : Touch m s₀ s) : Touch m s₀ (State.dumpBegin thermal s) := by
  refine h₀.step hm ?_
  clear h₀ hm
  unfold State.dumpBegin
  (repeat' (first | (simp (maxDischargeDepth := 60) [*]; done) | split | dsimp only | (apply touch_foldl _ _ _ _ (by simp (maxDischargeDepth := 60) [*]); intro t x; try simp only)))
@[simp] theorem State.dumpWaitOver_touch (r : DumpRun) (s : State) {m : Nat} (hm : m &&& 225281 = 225281) {s₀ : State} (h₀ : Touch m s₀ s) : Touch m s₀ (State.dumpWaitOver r s) := by
  refine h₀.step hm ?_
  clear h₀ hm
  unfold State.dumpWaitOver
  (repeat' (first | (simp (maxDischargeDepth := 60) [*]; done) | split | dsimp only | (apply touch_foldl _ _ _ _ (by simp (maxDischargeDepth := 60) [*]); intro t x; try simp only)))
@[simp] theorem State.journalFreeze_touch (r : DumpRun) (s : State) {m : Nat} (hm : m &&& 14095921 = 14095921) {s₀ : State} (h₀ : Touch m s₀ s) : Touch m s₀ (State.journalFreeze r s) := by
  refine h₀.step hm ?_
  clear h₀ hm
  unfold State.journalFreeze
  (repeat' (first | (simp (maxDischargeDepth := 60) [*]; done) | split | dsimp only | (apply touch_foldl _ _ _ _ (by simp (maxDischargeDepth := 60) [*]); intro t x; try simp only)))
@[simp] theorem State.dumpEnd_touch (s : State) {m : Nat} (hm : m &&& 13627953 = 13627953) {s₀ : State} (h₀ : Touch m s₀ s) : Touch m s₀ (State.dumpEnd s) := by
  refine h₀.step hm ?_
  clear h₀ hm
  unfold State.dumpEnd
  (repeat' (first | (simp (maxDischargeDepth := 60) [*]; done) | split | dsimp only | (apply touch_foldl _ _ _ _ (by simp (maxDischargeDepth := 60) [*]); intro t x; try simp only)))
@[simp] theorem State.dumpGood_touch (r : DumpRun) (s : State) {m : Nat} (hm : m &&& 13628017 = 13628017) {s₀ : State} (h₀ : Touch m s₀ s) : Touch m s₀ (State.dumpGood r s) := by
  refine h₀.step hm ?_
  clear h₀ hm
  unfold State.dumpGood
  (repeat' (first | (simp (maxDischargeDepth := 60) [*]; done) | split | dsimp only | (apply touch_foldl _ _ _ _ (by simp (maxDischargeDepth := 60) [*]); intro t x; try simp only)))
@[simp] theorem State.dumpLost_touch (r : DumpRun) (s : State) {m : Nat} (hm : m &&& 13627953 = 13627953) {s₀ : State} (h₀ : Touch m s₀ s) : Touch m s₀ (State.dumpLost r s) := by
  refine h₀.step hm ?_
  clear h₀ hm
  unfold State.dumpLost
  (repeat' (first | (simp (maxDischargeDepth := 60) [*]; done) | split | dsimp only | (apply touch_foldl _ _ _ _ (by simp (maxDischargeDepth := 60) [*]); intro t x; try simp only)))
@[simp] theorem State.dumpTick_touch (s : State) {m : Nat} (hm : m &&& 13627953 = 13627953) {s₀ : State} (h₀ : Touch m s₀ s) : Touch m s₀ (State.dumpTick s) := by
  refine h₀.step hm ?_
  clear h₀ hm
  unfold State.dumpTick
  (repeat' (first | (simp (maxDischargeDepth := 60) [*]; done) | split | dsimp only | (apply touch_foldl _ _ _ _ (by simp (maxDischargeDepth := 60) [*]); intro t x; try simp only)))
@[simp] theorem State.countValid_touch (s : State) {m : Nat} (hm : m &&& 4096 = 4096) {s₀ : State} (h₀ : Touch m s₀ s) : Touch m s₀ (State.countValid s) := by
  refine h₀.step hm ?_
  clear h₀ hm
  unfold State.countValid
  (repeat' (first | (simp (maxDischargeDepth := 60) [*]; done) | split | dsimp only | (apply touch_foldl _ _ _ _ (by simp (maxDischargeDepth := 60) [*]); intro t x; try simp only)))
@[simp] theorem State.fullScan_touch (trims : Bool) (s : State) {m : Nat} (hm : m &&& 4128 = 4128) {s₀ : State} (h₀ : Touch m s₀ s) : Touch m s₀ (State.fullScan trims s) := by
  refine h₀.step hm ?_
  clear h₀ hm
  unfold State.fullScan
  (repeat' (first | (simp (maxDischargeDepth := 60) [*]; done) | split | dsimp only | (apply touch_foldl _ _ _ _ (by simp (maxDischargeDepth := 60) [*]); intro t x; try simp only)))
@[simp] theorem State.boundedScan_touch (s : State) {m : Nat} (hm : m &&& 4096 = 4096) {s₀ : State} (h₀ : Touch m s₀ s) : Touch m s₀ (State.boundedScan s) := by
  refine h₀.step hm ?_
  clear h₀ hm
  unfold State.boundedScan
  (repeat' (first | (simp (maxDischargeDepth := 60) [*]; done) | split | dsimp only | (apply touch_foldl _ _ _ _ (by simp (maxDischargeDepth := 60) [*]); intro t x; try simp only)))
@[simp] theorem State.raiseNumbers_touch (s : State) {m : Nat} (hm : m &&& 4096 = 4096) {s₀ : State} (h₀ : Touch m s₀ s) : Touch m s₀ (State.raiseNumbers s) := by
  refine h₀.step hm ?_
  clear h₀ hm
  unfold State.raiseNumbers
  (repeat' (first | (simp (maxDischargeDepth := 60) [*]; done) | split | dsimp only | (apply touch_foldl _ _ _ _ (by simp (maxDischargeDepth := 60) [*]); intro t x; try simp only)))
@[simp] theorem State.loadStripes_touch (dump : Option (List Stripe)) (s : State) {m : Nat} (hm : m &&& 65536 = 65536) {s₀ : State} (h₀ : Touch m s₀ s) : Touch m s₀ (State.loadStripes dump s) := by
  refine h₀.step hm ?_
  clear h₀ hm
  unfold State.loadStripes
  (repeat' (first | (simp (maxDischargeDepth := 60) [*]; done) | split | dsimp only | (apply touch_foldl _ _ _ _ (by simp (maxDischargeDepth := 60) [*]); intro t x; try simp only)))
@[simp] theorem State.reenter_touch (keys : List (Nat × Nat)) (s : State) (e : InFlight × List Nat) {m : Nat} (hm : m &&& 8458784 = 8458784) {s₀ : State} (h₀ : Touch m s₀ s) : Touch m s₀ (State.reenter keys s e) := by
  refine h₀.step hm ?_
  clear h₀ hm
  unfold State.reenter
  (repeat' (first | (simp (maxDischargeDepth := 60) [*]; done) | split | dsimp only | (apply touch_foldl _ _ _ _ (by simp (maxDischargeDepth := 60) [*]); intro t x; try simp only)))
@[simp] theorem State.replayDump_touch (x : DumpImage) (s : State) {m : Nat} (hm : m &&& 8589856 = 8589856) {s₀ : State} (h₀ : Touch m s₀ s) : Touch m s₀ (State.replayDump x s) := by
  refine h₀.step hm ?_
  clear h₀ hm
  unfold State.replayDump
  (repeat' (first | (simp (maxDischargeDepth := 60) [*]; done) | split | dsimp only | (apply touch_foldl _ _ _ _ (by simp (maxDischargeDepth := 60) [*]); intro t x; try simp only)))
@[simp] theorem State.dumpDone_touch (s : State) {m : Nat} (hm : m &&& 131072 = 131072) {s₀ : State} (h₀ : Touch m s₀ s) : Touch m s₀ (State.dumpDone s) := by
  refine h₀.step hm ?_
  clear h₀ hm
  unfold State.dumpDone
  (repeat' (first | (simp (maxDischargeDepth := 60) [*]; done) | split | dsimp only | (apply touch_foldl _ _ _ _ (by simp (maxDischargeDepth := 60) [*]); intro t x; try simp only)))
@[simp] theorem State.restored_touch (k : StartKind) (s : State) {m : Nat} (hm : m &&& 4112 = 4112) {s₀ : State} (h₀ : Touch m s₀ s) : Touch m s₀ (State.restored k s) := by
  refine h₀.step hm ?_
  clear h₀ hm
  unfold State.restored
  (repeat' (first | (simp (maxDischargeDepth := 60) [*]; done) | split | dsimp only | (apply touch_foldl _ _ _ _ (by simp (maxDischargeDepth := 60) [*]); intro t x; try simp only)))
@[simp] theorem State.dumpIncomplete_touch (x : DumpImage) (s : State) {m : Nat} (hm : m &&& 8520224 = 8520224) {s₀ : State} (h₀ : Touch m s₀ s) : Touch m s₀ (State.dumpIncomplete x s) := by
  refine h₀.step hm ?_
  clear h₀ hm
  unfold State.dumpIncomplete
  (repeat' (first | (simp (maxDischargeDepth := 60) [*]; done) | split | dsimp only | (apply touch_foldl _ _ _ _ (by simp (maxDischargeDepth := 60) [*]); intro t x; try simp only)))
@[simp] theorem State.scanFull_touch (trimLost : Bool) (s : State) {m : Nat} (hm : m &&& 4130 = 4130) {s₀ : State} (h₀ : Touch m s₀ s) : Touch m s₀ (State.scanFull trimLost s) := by
  refine h₀.step hm ?_
  clear h₀ hm
  unfold State.scanFull
  (repeat' (first | (simp (maxDischargeDepth := 60) [*]; done) | split | dsimp only | (apply touch_foldl _ _ _ _ (by simp (maxDischargeDepth := 60) [*]); intro t x; try simp only)))
@[simp] theorem State.scanBegin_touch (full trimLost : Bool) (s : State) {m : Nat} (hm : m &&& 8392752 = 8392752) {s₀ : State} (h₀ : Touch m s₀ s) : Touch m s₀ (State.scanBegin full trimLost s) := by
  refine h₀.step hm ?_
  clear h₀ hm
  unfold State.scanBegin
  (repeat' (first | (simp (maxDischargeDepth := 60) [*]; done) | split | dsimp only | (apply touch_foldl _ _ _ _ (by simp (maxDischargeDepth := 60) [*]); intro t x; try simp only)))
@[simp] theorem State.scanEnd_touch (s : State) {m : Nat} (hm : m &&& 8458290 = 8458290) {s₀ : State} (h₀ : Touch m s₀ s) : Touch m s₀ (State.scanEnd s) := by
  refine h₀.step hm ?_
  clear h₀ hm
  unfold State.scanEnd
  (repeat' (first | (simp (maxDischargeDepth := 60) [*]; done) | split | dsimp only | (apply touch_foldl _ _ _ _ (by simp (maxDischargeDepth := 60) [*]); intro t x; try simp only)))
@[simp] theorem State.scanTick_touch (s : State) {m : Nat} (hm : m &&& 8458290 = 8458290) {s₀ : State} (h₀ : Touch m s₀ s) : Touch m s₀ (State.scanTick s) := by
  refine h₀.step hm ?_
  clear h₀ hm
  unfold State.scanTick
  (repeat' (first | (simp (maxDischargeDepth := 60) [*]; done) | split | dsimp only | (apply touch_foldl _ _ _ _ (by simp (maxDischargeDepth := 60) [*]); intro t x; try simp only)))
@[simp] theorem State.chooseDumpDies_touch (s : State) {m : Nat} (hm : m &&& 131072 = 131072) {s₀ : State} (h₀ : Touch m s₀ s) : Touch m s₀ (State.chooseDumpDies s) := by
  refine h₀.step hm ?_
  clear h₀ hm
  unfold State.chooseDumpDies
  (repeat' (first | (simp (maxDischargeDepth := 60) [*]; done) | split | dsimp only | (apply touch_foldl _ _ _ _ (by simp (maxDischargeDepth := 60) [*]); intro t x; try simp only)))
@[simp] theorem State.decideStart_touch (found : StartFindings) (s : State) {m : Nat} (hm : m &&& 8589872 = 8589872) {s₀ : State} (h₀ : Touch m s₀ s) : Touch m s₀ (State.decideStart found s) := by
  refine h₀.step hm ?_
  clear h₀ hm
  unfold State.decideStart
  (repeat' (first | (simp (maxDischargeDepth := 60) [*]; done) | split | dsimp only | (apply touch_foldl _ _ _ _ (by simp (maxDischargeDepth := 60) [*]); intro t x; try simp only)))
@[simp] theorem State.startDecision_touch (found : StartFindings) (s : State) {m : Nat} (hm : m &&& 14881393 = 14881393) {s₀ : State} (h₀ : Touch m s₀ s) : Touch m s₀ (State.startDecision found s) := by
  refine h₀.step hm ?_
  clear h₀ hm
  unfold State.startDecision
  (repeat' (first | (simp (maxDischargeDepth := 60) [*]; done) | split | dsimp only | (apply touch_foldl _ _ _ _ (by simp (maxDischargeDepth := 60) [*]); intro t x; try simp only)))
@[simp] theorem State.sealAtHall_touch (s : State) (x : Stripe) {m : Nat} (hm : m &&& 73760 = 73760) {s₀ : State} (h₀ : Touch m s₀ s) : Touch m s₀ (State.sealAtHall s x) := by
  refine h₀.step hm ?_
  clear h₀ hm
  unfold State.sealAtHall
  (repeat' (first | (simp (maxDischargeDepth := 60) [*]; done) | split | dsimp only | (apply touch_foldl _ _ _ _ (by simp (maxDischargeDepth := 60) [*]); intro t x; try simp only)))
@[simp] theorem State.sealOpenBands_touch (s : State) {m : Nat} (hm : m &&& 77856 = 77856) {s₀ : State} (h₀ : Touch m s₀ s) : Touch m s₀ (State.sealOpenBands s) := by
  refine h₀.step hm ?_
  clear h₀ hm
  unfold State.sealOpenBands
  (repeat' (first | (simp (maxDischargeDepth := 60) [*]; done) | split | dsimp only | (apply touch_foldl _ _ _ _ (by simp (maxDischargeDepth := 60) [*]); intro t x; try simp only)))
@[simp] theorem State.enterHall_touch (s : State) {m : Nat} (hm : m &&& 11778672 = 11778672) {s₀ : State} (h₀ : Touch m s₀ s) : Touch m s₀ (State.enterHall s) := by
  refine h₀.step hm ?_
  clear h₀ hm
  unfold State.enterHall
  (repeat' (first | (simp (maxDischargeDepth := 60) [*]; done) | split | dsimp only | (apply touch_foldl _ _ _ _ (by simp (maxDischargeDepth := 60) [*]); intro t x; try simp only)))
@[simp] theorem State.loseRetained_touch (s : State) {m : Nat} (hm : m &&& 4194496 = 4194496) {s₀ : State} (h₀ : Touch m s₀ s) : Touch m s₀ (State.loseRetained s) := by
  refine h₀.step hm ?_
  clear h₀ hm
  unfold State.loseRetained
  constructor <;> first | rfl | (intro e; first | exact absurd e (by decide) | rfl)
@[simp] theorem State.auxRise_touch (s : State) {m : Nat} (hm : m &&& 12714545 = 12714545) {s₀ : State} (h₀ : Touch m s₀ s) : Touch m s₀ (State.auxRise s) := by
  refine h₀.step hm ?_
  clear h₀ hm
  unfold State.auxRise
  (repeat' (first | (simp (maxDischargeDepth := 60) [*]; done) | split | dsimp only | (apply touch_foldl _ _ _ _ (by simp (maxDischargeDepth := 60) [*]); intro t x; try simp only)))
@[simp] theorem State.powerOff_touch (s : State) {m : Nat} (hm : m &&& 16777211 = 16777211) {s₀ : State} (h₀ : Touch m s₀ s) : Touch m s₀ (State.powerOff s) := by
  refine h₀.step hm ?_
  clear h₀ hm
  unfold State.powerOff
  (repeat' (first | (simp (maxDischargeDepth := 60) [*]; done) | split | dsimp only | (apply touch_foldl _ _ _ _ (by simp (maxDischargeDepth := 60) [*]); intro t x; try simp only)))
@[simp] theorem State.powerUpClear_touch (s : State) {m : Nat} (hm : m &&& 3985724 = 3985724) {s₀ : State} (h₀ : Touch m s₀ s) : Touch m s₀ (State.powerUpClear s) := by
  refine h₀.step hm ?_
  clear h₀ hm
  unfold State.powerUpClear
  constructor <;> first | rfl | (intro e; first | exact absurd e (by decide) | rfl)
@[simp] theorem State.supplyLost_touch (s : State) {m : Nat} (hm : m &&& 16777211 = 16777211) {s₀ : State} (h₀ : Touch m s₀ s) : Touch m s₀ (State.supplyLost s) := by
  refine h₀.step hm ?_
  clear h₀ hm
  unfold State.supplyLost
  (repeat' (first | (simp (maxDischargeDepth := 60) [*]; done) | split | dsimp only | (apply touch_foldl _ _ _ _ (by simp (maxDischargeDepth := 60) [*]); intro t x; try simp only)))
@[simp] theorem State.cfgWrite_touch (fn : Nat) (w : CfgWrite) (s : State) {m : Nat} (hm : m &&& 256 = 256) {s₀ : State} (h₀ : Touch m s₀ s) : Touch m s₀ (State.cfgWrite fn w s) := by
  refine h₀.step hm ?_
  clear h₀ hm
  unfold State.cfgWrite
  (repeat' (first | (simp (maxDischargeDepth := 60) [*]; done) | split | dsimp only | (apply touch_foldl _ _ _ _ (by simp (maxDischargeDepth := 60) [*]); intro t x; try simp only)))
@[simp] theorem State.healthAtStair_touch (s : State) {m : Nat} (hm : m &&& 12587569 = 12587569) {s₀ : State} (h₀ : Touch m s₀ s) : Touch m s₀ (State.healthAtStair s) := by
  refine h₀.step hm ?_
  clear h₀ hm
  unfold State.healthAtStair
  (repeat' (first | (simp (maxDischargeDepth := 60) [*]; done) | split | dsimp only | (apply touch_foldl _ _ _ _ (by simp (maxDischargeDepth := 60) [*]); intro t x; try simp only)))
@[simp] theorem State.bootCluster_touch (aPasses : Bool) (s : State) {m : Nat} (hm : m &&& 9437216 = 9437216) {s₀ : State} (h₀ : Touch m s₀ s) : Touch m s₀ (State.bootCluster aPasses s) := by
  refine h₀.step hm ?_
  clear h₀ hm
  unfold State.bootCluster
  (repeat' (first | (simp (maxDischargeDepth := 60) [*]; done) | split | dsimp only | (apply touch_foldl _ _ _ _ (by simp (maxDischargeDepth := 60) [*]); intro t x; try simp only)))
@[simp] theorem State.avsSend_touch (mv : Nat) (s : State) {m : Nat} (hm : m &&& 17 = 17) {s₀ : State} (h₀ : Touch m s₀ s) : Touch m s₀ (State.avsSend mv s) := by
  refine h₀.step hm ?_
  clear h₀ hm
  unfold State.avsSend
  (repeat' (first | (simp (maxDischargeDepth := 60) [*]; done) | split | dsimp only | (apply touch_foldl _ _ _ _ (by simp (maxDischargeDepth := 60) [*]); intro t x; try simp only)))
@[simp] theorem State.readEffects_touch (v : View) (addr : Nat) (s : State) {m : Nat} (hm : m &&& 8425512 = 8425512) {s₀ : State} (h₀ : Touch m s₀ s) : Touch m s₀ (State.readEffects v addr s) := by
  refine h₀.step hm ?_
  clear h₀ hm
  unfold State.readEffects
  (repeat' (first | (simp (maxDischargeDepth := 60) [*]; done) | split | dsimp only | (apply touch_foldl _ _ _ _ (by simp (maxDischargeDepth := 60) [*]); intro t x; try simp only)))
@[simp] theorem State.nvmeWrite_touch (fn off : Nat) (w : Word) (s : State) {m : Nat} (hm : m &&& 512 = 512) {s₀ : State} (h₀ : Touch m s₀ s) : Touch m s₀ (State.nvmeWrite fn off w s) := by
  refine h₀.step hm ?_
  clear h₀ hm
  unfold State.nvmeWrite
  (repeat' (first | (simp (maxDischargeDepth := 60) [*]; done) | split | dsimp only | (apply touch_foldl _ _ _ _ (by simp (maxDischargeDepth := 60) [*]); intro t x; try simp only)))
@[simp] theorem State.readAt_touch (who : Accessor) (addr : Nat) (s : State) {m : Nat} (hm : m &&& 8950059 = 8950059) {s₀ : State} (h₀ : Touch m s₀ s) : Touch m s₀ (State.readAt who addr s) := by
  refine h₀.step hm ?_
  clear h₀ hm
  unfold State.readAt
  (repeat' (first | (simp (maxDischargeDepth := 60) [*]; done) | split | dsimp only | (apply touch_foldl _ _ _ _ (by simp (maxDischargeDepth := 60) [*]); intro t x; try simp only)))
@[simp] theorem State.readWords_touch (who : Accessor) (addr size : Nat) (s : State) {m : Nat} (hm : m &&& 8950059 = 8950059) {s₀ : State} (h₀ : Touch m s₀ s) : Touch m s₀ (State.readWords who addr size s) := by
  refine h₀.step hm ?_
  clear h₀ hm
  unfold State.readWords
  (repeat' (first | (simp (maxDischargeDepth := 60) [*]; done) | split | dsimp only | (apply touch_foldl _ _ _ _ (by simp (maxDischargeDepth := 60) [*]); intro t x; try simp only)))
@[simp] theorem State.rescueWrite_touch (w : Word) (s : State) {m : Nat} (hm : m &&& 8389176 = 8389176) {s₀ : State} (h₀ : Touch m s₀ s) : Touch m s₀ (State.rescueWrite w s) := by
  refine h₀.step hm ?_
  clear h₀ hm
  unfold State.rescueWrite
  (repeat' (first | (simp (maxDischargeDepth := 60) [*]; done) | split | dsimp only | (apply touch_foldl _ _ _ _ (by simp (maxDischargeDepth := 60) [*]); intro t x; try simp only)))
@[simp] theorem State.portGo_touch (p : Nat) (cluster : Cluster) (epoch : BitVec 8) (s : State) {m : Nat} (hm : m &&& 16027643 = 16027643) {s₀ : State} (h₀ : Touch m s₀ s) : Touch m s₀ (State.portGo p cluster epoch s) := by
  refine h₀.step hm ?_
  clear h₀ hm
  unfold State.portGo
  (repeat' (first | (simp (maxDischargeDepth := 60) [*]; done) | split | dsimp only | (apply touch_foldl _ _ _ _ (by simp (maxDischargeDepth := 60) [*]); intro t x; try simp only)))
@[simp] theorem State.keyWord_touch (k : Nat) (w : Word) (s : State) {m : Nat} (hm : m &&& 32768 = 32768) {s₀ : State} (h₀ : Touch m s₀ s) : Touch m s₀ (State.keyWord k w s) := by
  refine h₀.step hm ?_
  clear h₀ hm
  unfold State.keyWord
  (repeat' (first | (simp (maxDischargeDepth := 60) [*]; done) | split | dsimp only | (apply touch_foldl _ _ _ _ (by simp (maxDischargeDepth := 60) [*]); intro t x; try simp only)))
@[simp] theorem State.csuWrite_touch (c : Cluster) (pair : Nat) (epoch : BitVec 8) (w : Word) (s : State) {m : Nat} (hm : m &&& 11534368 = 11534368) {s₀ : State} (h₀ : Touch m s₀ s) : Touch m s₀ (State.csuWrite c pair epoch w s) := by
  refine h₀.step hm ?_
  clear h₀ hm
  unfold State.csuWrite
  (repeat' (first | (simp (maxDischargeDepth := 60) [*]; done) | split | dsimp only | (apply touch_foldl _ _ _ _ (by simp (maxDischargeDepth := 60) [*]); intro t x; try simp only)))
@[simp] theorem State.trainGo_touch (ch : Nat) (s : State) {m : Nat} (hm : m &&& 16384 = 16384) {s₀ : State} (h₀ : Touch m s₀ s) : Touch m s₀ (State.trainGo ch s) := by
  refine h₀.step hm ?_
  clear h₀ hm
  unfold State.trainGo
  (repeat' (first | (simp (maxDischargeDepth := 60) [*]; done) | split | dsimp only | (apply touch_foldl _ _ _ _ (by simp (maxDischargeDepth := 60) [*]); intro t x; try simp only)))
@[simp] theorem State.regAct_touch (v : View) (epoch : BitVec 8) (addr : Nat) (w : Word) (s : State) {m : Nat} (hm : m &&& 16777211 = 16777211) {s₀ : State} (h₀ : Touch m s₀ s) : Touch m s₀ (State.regAct v epoch addr w s) := by
  refine h₀.step hm ?_
  clear h₀ hm
  unfold State.regAct
  dsimp only
  with_reducible repeat' (first | apply touch_ite | exact Touch.refl _ _ | apply State.csuWrite_touch | apply State.dramTrain_touch | apply State.fwTrig_touch | apply State.heartbeat_touch | apply State.keyStart_touch | apply State.keyWord_touch | apply State.planCut_touch | apply State.portGo_touch | apply State.rebuildGo_touch | apply State.reenable_touch | apply State.requestDrain_touch | apply State.requestSquash_touch | apply State.rescueWrite_touch | apply State.retireGo_touch | apply State.setFreeze_touch | apply State.stageWindow_touch | apply State.takeOffline_touch | apply State.testGo_touch | apply State.trainGo_touch | apply State.winCommit_touch | apply State.writeWp_touch | split | simp)
@[simp] theorem State.regStore_touch (v : View) (addr : Nat) (w : Word) (rw1cOnly : Bool) (s : State) {m : Nat} (hm : m &&& 32 = 32) {s₀ : State} (h₀ : Touch m s₀ s) : Touch m s₀ (State.regStore v addr w rw1cOnly s) := by
  refine h₀.step hm ?_
  clear h₀ hm
  unfold State.regStore
  (repeat' (first | (simp (maxDischargeDepth := 60) [*]; done) | split | dsimp only | (apply touch_foldl _ _ _ _ (by simp (maxDischargeDepth := 60) [*]); intro t x; try simp only)))
@[simp] theorem State.writeReg_touch (v : View) (host : Bool) (epoch : BitVec 8) (addr : Nat) (w : Word) (be : BitVec 4) (s : State) {m : Nat} (hm : m &&& 16777211 = 16777211) {s₀ : State} (h₀ : Touch m s₀ s) : Touch m s₀ (State.writeReg v host epoch addr w be s) := by
  refine h₀.step hm ?_
  clear h₀ hm
  unfold State.writeReg
  (repeat' (first | (simp (maxDischargeDepth := 60) [*]; done) | split | dsimp only | (apply touch_foldl _ _ _ _ (by simp (maxDischargeDepth := 60) [*]); intro t x; try simp only)))
@[simp] theorem State.hostWord_touch (who : Accessor) (fn bar addr : Nat) (w : Word) (be : BitVec 4) (s : State) {m : Nat} (hm : m &&& 16777211 = 16777211) {s₀ : State} (h₀ : Touch m s₀ s) : Touch m s₀ (State.hostWord who fn bar addr w be s) := by
  refine h₀.step hm ?_
  clear h₀ hm
  unfold State.hostWord
  (repeat' (first | (simp (maxDischargeDepth := 60) [*]; done) | split | dsimp only | (apply touch_foldl _ _ _ _ (by simp (maxDischargeDepth := 60) [*]); intro t x; try simp only)))
@[simp] theorem State.firmwareWord_touch (who : Accessor) (epoch : BitVec 8) (addr : Nat) (w : Word) (s : State) {m : Nat} (hm : m &&& 16777211 = 16777211) {s₀ : State} (h₀ : Touch m s₀ s) : Touch m s₀ (State.firmwareWord who epoch addr w s) := by
  refine h₀.step hm ?_
  clear h₀ hm
  unfold State.firmwareWord
  (repeat' (first | (simp (maxDischargeDepth := 60) [*]; done) | split | dsimp only | (apply touch_foldl _ _ _ _ (by simp (maxDischargeDepth := 60) [*]); intro t x; try simp only)))
@[simp] theorem State.splitWord_touch (e : Accessor × Nat × Word) (s : State) {m : Nat} (hm : m &&& 16777211 = 16777211) {s₀ : State} (h₀ : Touch m s₀ s) : Touch m s₀ (State.splitWord e s) := by
  refine h₀.step hm ?_
  clear h₀ hm
  unfold State.splitWord
  (repeat' (first | (simp (maxDischargeDepth := 60) [*]; done) | split | dsimp only | (apply touch_foldl _ _ _ _ (by simp (maxDischargeDepth := 60) [*]); intro t x; try simp only)))
@[simp] theorem State.firmwareStore_touch (k : Cluster) (pair : Nat) (epoch : BitVec 8) (p : Place) (bs : List Byte) (s : State) {m : Nat} (hm : m &&& 12320801 = 12320801) {s₀ : State} (h₀ : Touch m s₀ s) : Touch m s₀ (State.firmwareStore k pair epoch p bs s) := by
  refine h₀.step hm ?_
  clear h₀ hm
  unfold State.firmwareStore
  (repeat' (first | (simp (maxDischargeDepth := 60) [*]; done) | split | dsimp only | (apply touch_foldl _ _ _ _ (by simp (maxDischargeDepth := 60) [*]); intro t x; try simp only)))
@[simp] theorem State.firmwareWrite_touch (k : Cluster) (pair : Nat) (epoch : BitVec 8) (addr size : Nat) (data : Dword) (s : State) {m : Nat} (hm : m &&& 16777211 = 16777211) {s₀ : State} (h₀ : Touch m s₀ s) : Touch m s₀ (State.firmwareWrite k pair epoch addr size data s) := by
  refine h₀.step hm ?_
  clear h₀ hm
  unfold State.firmwareWrite
  (repeat' (first | (simp (maxDischargeDepth := 60) [*]; done) | split | dsimp only | (apply touch_foldl _ _ _ _ (by simp (maxDischargeDepth := 60) [*]); intro t x; try simp only)))
@[simp] theorem State.hostWrite_touch (fn bar addr size : Nat) (data : Dword) (be : BitVec 8) (s : State) {m : Nat} (hm : m &&& 16777211 = 16777211) {s₀ : State} (h₀ : Touch m s₀ s) : Touch m s₀ (State.hostWrite fn bar addr size data be s) := by
  refine h₀.step hm ?_
  clear h₀ hm
  unfold State.hostWrite
  (repeat' (first | (simp (maxDischargeDepth := 60) [*]; done) | split | dsimp only | (apply touch_foldl _ _ _ _ (by simp (maxDischargeDepth := 60) [*]); intro t x; try simp only)))
@[simp] theorem State.waitCount_touch (f : Field) (on : Bool) (s : State) {m : Nat} (hm : m &&& 32 = 32) {s₀ : State} (h₀ : Touch m s₀ s) : Touch m s₀ (State.waitCount f on s) := by
  refine h₀.step hm ?_
  clear h₀ hm
  unfold State.waitCount
  (repeat' (first | (simp (maxDischargeDepth := 60) [*]; done) | split | dsimp only | (apply touch_foldl _ _ _ _ (by simp (maxDischargeDepth := 60) [*]); intro t x; try simp only)))
@[simp] theorem State.tickCounts_touch (s : State) {m : Nat} (hm : m &&& 2105376 = 2105376) {s₀ : State} (h₀ : Touch m s₀ s) : Touch m s₀ (State.tickCounts s) := by
  refine h₀.step hm ?_
  clear h₀ hm
  unfold State.tickCounts
  (repeat' (first | (simp (maxDischargeDepth := 60) [*]; done) | split | dsimp only | (apply touch_foldl _ _ _ _ (by simp (maxDischargeDepth := 60) [*]); intro t x; try simp only)))
@[simp] theorem State.collisions_touch (s : State) {m : Nat} (hm : m &&& 32 = 32) {s₀ : State} (h₀ : Touch m s₀ s) : Touch m s₀ (State.collisions s) := by
  refine h₀.step hm ?_
  clear h₀ hm
  unfold State.collisions
  (repeat' (first | (simp (maxDischargeDepth := 60) [*]; done) | split | dsimp only | (apply touch_foldl _ _ _ _ (by simp (maxDischargeDepth := 60) [*]); intro t x; try simp only)))
@[simp] theorem State.withdrawFreed_touch (s : State) {m : Nat} (hm : m &&& 40960 = 40960) {s₀ : State} (h₀ : Touch m s₀ s) : Touch m s₀ (State.withdrawFreed s) := by
  refine h₀.step hm ?_
  clear h₀ hm
  unfold State.withdrawFreed
  (repeat' (first | (simp (maxDischargeDepth := 60) [*]; done) | split | dsimp only | (apply touch_foldl _ _ _ _ (by simp (maxDischargeDepth := 60) [*]); intro t x; try simp only)))
@[simp] theorem State.forgetTick_touch (s : State) {m : Nat} (hm : m &&& 4510648 = 4510648) {s₀ : State} (h₀ : Touch m s₀ s) : Touch m s₀ (State.forgetTick s) := by
  refine h₀.step hm ?_
  clear h₀ hm
  unfold State.forgetTick
  constructor <;> first | rfl | (intro e; first | exact absurd e (by decide) | rfl)
@[simp] theorem State.clock_touch (s : State) {m : Nat} (hm : m &&& 8 = 8) {s₀ : State} (h₀ : Touch m s₀ s) : Touch m s₀ (State.clock s) := by
  refine h₀.step hm ?_
  clear h₀ hm
  unfold State.clock
  (repeat' (first | (simp (maxDischargeDepth := 60) [*]; done) | split | dsimp only | (apply touch_foldl _ _ _ _ (by simp (maxDischargeDepth := 60) [*]); intro t x; try simp only)))
@[simp] theorem State.lzApply_touch (s : State) {m : Nat} (hm : m &&& 4096 = 4096) {s₀ : State} (h₀ : Touch m s₀ s) : Touch m s₀ (State.lzApply s) := by
  refine h₀.step hm ?_
  clear h₀ hm
  unfold State.lzApply
  (repeat' (first | (simp (maxDischargeDepth := 60) [*]; done) | split | dsimp only | (apply touch_foldl _ _ _ _ (by simp (maxDischargeDepth := 60) [*]); intro t x; try simp only)))
@[simp] theorem State.testResume_touch (s : State) {m : Nat} (hm : m &&& 131072 = 131072) {s₀ : State} (h₀ : Touch m s₀ s) : Touch m s₀ (State.testResume s) := by
  refine h₀.step hm ?_
  clear h₀ hm
  unfold State.testResume
  (repeat' (first | (simp (maxDischargeDepth := 60) [*]; done) | split | dsimp only | (apply touch_foldl _ _ _ _ (by simp (maxDischargeDepth := 60) [*]); intro t x; try simp only)))
@[simp] theorem State.avsTake_touch (s : State) {m : Nat} (hm : m &&& 17 = 17) {s₀ : State} (h₀ : Touch m s₀ s) : Touch m s₀ (State.avsTake s) := by
  refine h₀.step hm ?_
  clear h₀ hm
  unfold State.avsTake
  (repeat' (first | (simp (maxDischargeDepth := 60) [*]; done) | split | dsimp only | (apply touch_foldl _ _ _ _ (by simp (maxDischargeDepth := 60) [*]); intro t x; try simp only)))
@[simp] theorem State.copiesRestore_touch (s : State) {m : Nat} (hm : m &&& 69632 = 69632) {s₀ : State} (h₀ : Touch m s₀ s) : Touch m s₀ (State.copiesRestore s) := by
  refine h₀.step hm ?_
  clear h₀ hm
  unfold State.copiesRestore
  (repeat' (first | (simp (maxDischargeDepth := 60) [*]; done) | split | dsimp only | (apply touch_foldl _ _ _ _ (by simp (maxDischargeDepth := 60) [*]); intro t x; try simp only)))
@[simp] theorem State.mediaTick_touch (s : State) {m : Nat} (hm : m &&& 14676529 = 14676529) {s₀ : State} (h₀ : Touch m s₀ s) : Touch m s₀ (State.mediaTick s) := by
  refine h₀.step hm ?_
  clear h₀ hm
  unfold State.mediaTick
  (repeat' (first | (simp (maxDischargeDepth := 60) [*]; done) | split | dsimp only | (apply touch_foldl _ _ _ _ (by simp (maxDischargeDepth := 60) [*]); intro t x; try simp only)))
@[simp] theorem State.hostTick_touch (s : State) {m : Nat} (hm : m &&& 14065457 = 14065457) {s₀ : State} (h₀ : Touch m s₀ s) : Touch m s₀ (State.hostTick s) := by
  refine h₀.step hm ?_
  clear h₀ hm
  unfold State.hostTick
  (repeat' (first | (simp (maxDischargeDepth := 60) [*]; done) | split | dsimp only | (apply touch_foldl _ _ _ _ (by simp (maxDischargeDepth := 60) [*]); intro t x; try simp only)))
@[simp] theorem State.controlTick_touch (s : State) {m : Nat} (hm : m &&& 16244731 = 16244731) {s₀ : State} (h₀ : Touch m s₀ s) : Touch m s₀ (State.controlTick s) := by
  refine h₀.step hm ?_
  clear h₀ hm
  unfold State.controlTick
  (repeat' (first | (simp (maxDischargeDepth := 60) [*]; done) | split | dsimp only | (apply touch_foldl _ _ _ _ (by simp (maxDischargeDepth := 60) [*]); intro t x; try simp only)))
@[simp] theorem State.tickWork_touch (splitRd : List (Accessor × Nat)) (split : List (Accessor × Nat × Word)) (holdup : Bool) (s : State) {m : Nat} (hm : m &&& 16777211 = 16777211) {s₀ : State} (h₀ : Touch m s₀ s) : Touch m s₀ (State.tickWork splitRd split holdup s) := by
  refine h₀.step hm ?_
  clear h₀ hm
  unfold State.tickWork
  (repeat' (first | (simp (maxDischargeDepth := 60) [*]; done) | split | dsimp only | (apply touch_foldl _ _ _ _ (by simp (maxDischargeDepth := 60) [*]); intro t x; try simp only)))
@[simp] theorem State.tick_touch (s : State) {m : Nat} (hm : m &&& 16777211 = 16777211) {s₀ : State} (h₀ : Touch m s₀ s) : Touch m s₀ (State.tick s) := by
  refine h₀.step hm ?_
  clear h₀ hm
  unfold State.tick
  (repeat' (first | (simp (maxDischargeDepth := 60) [*]; done) | split | dsimp only | (apply touch_foldl _ _ _ _ (by simp (maxDischargeDepth := 60) [*]); intro t x; try simp only)))

end Sys2Proof.Machine
end

