-- ==== Sys2Proof/Laws/Units.lean ====
section
/-! SUPPORT. The parts of the state that each shared operation leaves as they are, for simp: one lemma per operation, from Laws/Touch.lean. -/

namespace Sys2Proof.Machine

@[simp] theorem foldl_pending {α : Type} (f : State → α → State) (l : List α) (s : State) (h : ∀ t x, (f t x).pending = t.pending) : (l.foldl f s).pending = s.pending := by
  induction l generalizing s with
  | nil => rfl
  | cons a l ih => exact (ih _).trans (h s a)

@[simp] theorem foldl_out {α : Type} (f : State → α → State) (l : List α) (s : State) (h : ∀ t x, (f t x).out = t.out) : (l.foldl f s).out = s.out := by
  induction l generalizing s with
  | nil => rfl
  | cons a l ih => exact (ih _).trans (h s a)

@[simp] theorem foldl_freeCnt {α : Type} (f : State → α → State) (l : List α) (s : State) (h : ∀ t x, (f t x).freeCnt = t.freeCnt) : (l.foldl f s).freeCnt = s.freeCnt := by
  induction l generalizing s with
  | nil => rfl
  | cons a l ih => exact (ih _).trans (h s a)

@[simp] theorem foldl_timers {α : Type} (f : State → α → State) (l : List α) (s : State) (h : ∀ t x, (f t x).timers = t.timers) : (l.foldl f s).timers = s.timers := by
  induction l generalizing s with
  | nil => rfl
  | cons a l ih => exact (ih _).trans (h s a)

@[simp] theorem foldl_tbu {α : Type} (f : State → α → State) (l : List α) (s : State) (h : ∀ t x, (f t x).tbu = t.tbu) : (l.foldl f s).tbu = s.tbu := by
  induction l generalizing s with
  | nil => rfl
  | cons a l ih => exact (ih _).trans (h s a)

@[simp] theorem foldl_power {α : Type} (f : State → α → State) (l : List α) (s : State) (h : ∀ t x, (f t x).power = t.power) : (l.foldl f s).power = s.power := by
  induction l generalizing s with
  | nil => rfl
  | cons a l ih => exact (ih _).trans (h s a)

@[simp] theorem foldl_regf {α : Type} (f : State → α → State) (l : List α) (s : State) (h : ∀ t x, (f t x).regf = t.regf) : (l.foldl f s).regf = s.regf := by
  induction l generalizing s with
  | nil => rfl
  | cons a l ih => exact (ih _).trans (h s a)

@[simp] theorem foldl_sheet {α : Type} (f : State → α → State) (l : List α) (s : State) (h : ∀ t x, (f t x).sheet = t.sheet) : (l.foldl f s).sheet = s.sheet := by
  induction l generalizing s with
  | nil => rfl
  | cons a l ih => exact (ih _).trans (h s a)

@[simp] theorem foldl_sheetOld {α : Type} (f : State → α → State) (l : List α) (s : State) (h : ∀ t x, (f t x).sheetOld = t.sheetOld) : (l.foldl f s).sheetOld = s.sheetOld := by
  induction l generalizing s with
  | nil => rfl
  | cons a l ih => exact (ih _).trans (h s a)

@[simp] theorem foldl_hlu {α : Type} (f : State → α → State) (l : List α) (s : State) (h : ∀ t x, (f t x).hlu = t.hlu) : (l.foldl f s).hlu = s.hlu := by
  induction l generalizing s with
  | nil => rfl
  | cons a l ih => exact (ih _).trans (h s a)

@[simp] theorem foldl_qen {α : Type} (f : State → α → State) (l : List α) (s : State) (h : ∀ t x, (f t x).qen = t.qen) : (l.foldl f s).qen = s.qen := by
  induction l generalizing s with
  | nil => rfl
  | cons a l ih => exact (ih _).trans (h s a)

@[simp] theorem foldl_tnu {α : Type} (f : State → α → State) (l : List α) (s : State) (h : ∀ t x, (f t x).tnu = t.tnu) : (l.foldl f s).tnu = s.tnu := by
  induction l generalizing s with
  | nil => rfl
  | cons a l ih => exact (ih _).trans (h s a)

@[simp] theorem foldl_gal {α : Type} (f : State → α → State) (l : List α) (s : State) (h : ∀ t x, (f t x).gal = t.gal) : (l.foldl f s).gal = s.gal := by
  induction l generalizing s with
  | nil => rfl
  | cons a l ih => exact (ih _).trans (h s a)

@[simp] theorem foldl_mxe {α : Type} (f : State → α → State) (l : List α) (s : State) (h : ∀ t x, (f t x).mxe = t.mxe) : (l.foldl f s).mxe = s.mxe := by
  induction l generalizing s with
  | nil => rfl
  | cons a l ih => exact (ih _).trans (h s a)

@[simp] theorem foldl_dsc {α : Type} (f : State → α → State) (l : List α) (s : State) (h : ∀ t x, (f t x).dsc = t.dsc) : (l.foldl f s).dsc = s.dsc := by
  induction l generalizing s with
  | nil => rfl
  | cons a l ih => exact (ih _).trans (h s a)

@[simp] theorem foldl_fca {α : Type} (f : State → α → State) (l : List α) (s : State) (h : ∀ t x, (f t x).fca = t.fca) : (l.foldl f s).fca = s.fca := by
  induction l generalizing s with
  | nil => rfl
  | cons a l ih => exact (ih _).trans (h s a)

@[simp] theorem foldl_cdx {α : Type} (f : State → α → State) (l : List α) (s : State) (h : ∀ t x, (f t x).cdx = t.cdx) : (l.foldl f s).cdx = s.cdx := by
  induction l generalizing s with
  | nil => rfl
  | cons a l ih => exact (ih _).trans (h s a)

@[simp] theorem foldl_spe {α : Type} (f : State → α → State) (l : List α) (s : State) (h : ∀ t x, (f t x).spe = t.spe) : (l.foldl f s).spe = s.spe := by
  induction l generalizing s with
  | nil => rfl
  | cons a l ih => exact (ih _).trans (h s a)

@[simp] theorem foldl_hum {α : Type} (f : State → α → State) (l : List α) (s : State) (h : ∀ t x, (f t x).hum = t.hum) : (l.foldl f s).hum = s.hum := by
  induction l generalizing s with
  | nil => rfl
  | cons a l ih => exact (ih _).trans (h s a)

@[simp] theorem foldl_bpm {α : Type} (f : State → α → State) (l : List α) (s : State) (h : ∀ t x, (f t x).bpm = t.bpm) : (l.foldl f s).bpm = s.bpm := by
  induction l generalizing s with
  | nil => rfl
  | cons a l ih => exact (ih _).trans (h s a)

@[simp] theorem foldl_dmc {α : Type} (f : State → α → State) (l : List α) (s : State) (h : ∀ t x, (f t x).dmc = t.dmc) : (l.foldl f s).dmc = s.dmc := by
  induction l generalizing s with
  | nil => rfl
  | cons a l ih => exact (ih _).trans (h s a)

@[simp] theorem foldl_ccl {α : Type} (f : State → α → State) (l : List α) (s : State) (h : ∀ t x, (f t x).ccl = t.ccl) : (l.foldl f s).ccl = s.ccl := by
  induction l generalizing s with
  | nil => rfl
  | cons a l ih => exact (ih _).trans (h s a)

@[simp] theorem foldl_csu {α : Type} (f : State → α → State) (l : List α) (s : State) (h : ∀ t x, (f t x).csu = t.csu) : (l.foldl f s).csu = s.csu := by
  induction l generalizing s with
  | nil => rfl
  | cons a l ih => exact (ih _).trans (h s a)

@[simp] theorem foldl_mgp {α : Type} (f : State → α → State) (l : List α) (s : State) (h : ∀ t x, (f t x).mgp = t.mgp) : (l.foldl f s).mgp = s.mgp := by
  induction l generalizing s with
  | nil => rfl
  | cons a l ih => exact (ih _).trans (h s a)

@[simp] theorem foldl_cru {α : Type} (f : State → α → State) (l : List α) (s : State) (h : ∀ t x, (f t x).cru = t.cru) : (l.foldl f s).cru = s.cru := by
  induction l generalizing s with
  | nil => rfl
  | cons a l ih => exact (ih _).trans (h s a)

@[simp] theorem ite_pending (c : Prop) [Decidable c] (s t : State) : (if c then s else t).pending = if c then s.pending else t.pending := apply_ite State.pending c s t

@[simp] theorem ite_out (c : Prop) [Decidable c] (s t : State) : (if c then s else t).out = if c then s.out else t.out := apply_ite State.out c s t

@[simp] theorem ite_freeCnt (c : Prop) [Decidable c] (s t : State) : (if c then s else t).freeCnt = if c then s.freeCnt else t.freeCnt := apply_ite State.freeCnt c s t

@[simp] theorem ite_timers (c : Prop) [Decidable c] (s t : State) : (if c then s else t).timers = if c then s.timers else t.timers := apply_ite State.timers c s t

@[simp] theorem ite_tbu (c : Prop) [Decidable c] (s t : State) : (if c then s else t).tbu = if c then s.tbu else t.tbu := apply_ite State.tbu c s t

@[simp] theorem ite_power (c : Prop) [Decidable c] (s t : State) : (if c then s else t).power = if c then s.power else t.power := apply_ite State.power c s t

@[simp] theorem ite_regf (c : Prop) [Decidable c] (s t : State) : (if c then s else t).regf = if c then s.regf else t.regf := apply_ite State.regf c s t

@[simp] theorem ite_sheet (c : Prop) [Decidable c] (s t : State) : (if c then s else t).sheet = if c then s.sheet else t.sheet := apply_ite State.sheet c s t

@[simp] theorem ite_sheetOld (c : Prop) [Decidable c] (s t : State) : (if c then s else t).sheetOld = if c then s.sheetOld else t.sheetOld := apply_ite State.sheetOld c s t

@[simp] theorem ite_hlu (c : Prop) [Decidable c] (s t : State) : (if c then s else t).hlu = if c then s.hlu else t.hlu := apply_ite State.hlu c s t

@[simp] theorem ite_qen (c : Prop) [Decidable c] (s t : State) : (if c then s else t).qen = if c then s.qen else t.qen := apply_ite State.qen c s t

@[simp] theorem ite_tnu (c : Prop) [Decidable c] (s t : State) : (if c then s else t).tnu = if c then s.tnu else t.tnu := apply_ite State.tnu c s t

@[simp] theorem ite_gal (c : Prop) [Decidable c] (s t : State) : (if c then s else t).gal = if c then s.gal else t.gal := apply_ite State.gal c s t

@[simp] theorem ite_mxe (c : Prop) [Decidable c] (s t : State) : (if c then s else t).mxe = if c then s.mxe else t.mxe := apply_ite State.mxe c s t

@[simp] theorem ite_dsc (c : Prop) [Decidable c] (s t : State) : (if c then s else t).dsc = if c then s.dsc else t.dsc := apply_ite State.dsc c s t

@[simp] theorem ite_fca (c : Prop) [Decidable c] (s t : State) : (if c then s else t).fca = if c then s.fca else t.fca := apply_ite State.fca c s t

@[simp] theorem ite_cdx (c : Prop) [Decidable c] (s t : State) : (if c then s else t).cdx = if c then s.cdx else t.cdx := apply_ite State.cdx c s t

@[simp] theorem ite_spe (c : Prop) [Decidable c] (s t : State) : (if c then s else t).spe = if c then s.spe else t.spe := apply_ite State.spe c s t

@[simp] theorem ite_hum (c : Prop) [Decidable c] (s t : State) : (if c then s else t).hum = if c then s.hum else t.hum := apply_ite State.hum c s t

@[simp] theorem ite_bpm (c : Prop) [Decidable c] (s t : State) : (if c then s else t).bpm = if c then s.bpm else t.bpm := apply_ite State.bpm c s t

@[simp] theorem ite_dmc (c : Prop) [Decidable c] (s t : State) : (if c then s else t).dmc = if c then s.dmc else t.dmc := apply_ite State.dmc c s t

@[simp] theorem ite_ccl (c : Prop) [Decidable c] (s t : State) : (if c then s else t).ccl = if c then s.ccl else t.ccl := apply_ite State.ccl c s t

@[simp] theorem ite_csu (c : Prop) [Decidable c] (s t : State) : (if c then s else t).csu = if c then s.csu else t.csu := apply_ite State.csu c s t

@[simp] theorem ite_mgp (c : Prop) [Decidable c] (s t : State) : (if c then s else t).mgp = if c then s.mgp else t.mgp := apply_ite State.mgp c s t

@[simp] theorem ite_cru (c : Prop) [Decidable c] (s t : State) : (if c then s else t).cru = if c then s.cru else t.cru := apply_ite State.cru c s t

@[simp] theorem State.sample_units (n : Nat) (s : State) :
    (State.sample n s).pending = s.pending ∧ (State.sample n s).out = s.out ∧ (State.sample n s).freeCnt = s.freeCnt ∧ (State.sample n s).timers = s.timers ∧ (State.sample n s).power = s.power ∧ (State.sample n s).regf = s.regf ∧ (State.sample n s).sheet = s.sheet ∧ (State.sample n s).sheetOld = s.sheetOld ∧ (State.sample n s).hlu = s.hlu ∧ (State.sample n s).qen = s.qen ∧ (State.sample n s).tnu = s.tnu ∧ (State.sample n s).gal = s.gal ∧ (State.sample n s).mxe = s.mxe ∧ (State.sample n s).dsc = s.dsc ∧ (State.sample n s).fca = s.fca ∧ (State.sample n s).cdx = s.cdx ∧ (State.sample n s).spe = s.spe ∧ (State.sample n s).hum = s.hum ∧ (State.sample n s).bpm = s.bpm ∧ (State.sample n s).dmc = s.dmc ∧ (State.sample n s).ccl = s.ccl ∧ (State.sample n s).csu = s.csu ∧ (State.sample n s).mgp = s.mgp ∧ (State.sample n s).cru = s.cru :=
  have h := (State.sample_touch _ _ (by simp) (Touch.refl 8 _))
  ⟨h.pending, h.out rfl, h.freeCnt rfl, h.timers rfl, h.power rfl, h.regf rfl, h.sheet rfl, h.sheetOld rfl, h.hlu rfl, h.qen rfl, h.tnu rfl, h.gal rfl, h.mxe rfl, h.dsc rfl, h.fca rfl, h.cdx rfl, h.spe rfl, h.hum rfl, h.bpm rfl, h.dmc rfl, h.ccl rfl, h.csu rfl, h.mgp rfl, h.cru rfl⟩

@[simp] theorem State.raiseExc_units (unit inst kind arg : Nat) (s : State) :
    (State.raiseExc unit inst kind arg s).pending = s.pending ∧ (State.raiseExc unit inst kind arg s).out = s.out ∧ (State.raiseExc unit inst kind arg s).freeCnt = s.freeCnt ∧ (State.raiseExc unit inst kind arg s).timers = s.timers ∧ (State.raiseExc unit inst kind arg s).tbu = s.tbu ∧ (State.raiseExc unit inst kind arg s).power = s.power ∧ (State.raiseExc unit inst kind arg s).regf = s.regf ∧ (State.raiseExc unit inst kind arg s).sheet = s.sheet ∧ (State.raiseExc unit inst kind arg s).sheetOld = s.sheetOld ∧ (State.raiseExc unit inst kind arg s).hlu = s.hlu ∧ (State.raiseExc unit inst kind arg s).qen = s.qen ∧ (State.raiseExc unit inst kind arg s).tnu = s.tnu ∧ (State.raiseExc unit inst kind arg s).gal = s.gal ∧ (State.raiseExc unit inst kind arg s).mxe = s.mxe ∧ (State.raiseExc unit inst kind arg s).dsc = s.dsc ∧ (State.raiseExc unit inst kind arg s).fca = s.fca ∧ (State.raiseExc unit inst kind arg s).cdx = s.cdx ∧ (State.raiseExc unit inst kind arg s).spe = s.spe ∧ (State.raiseExc unit inst kind arg s).hum = s.hum ∧ (State.raiseExc unit inst kind arg s).bpm = s.bpm ∧ (State.raiseExc unit inst kind arg s).dmc = s.dmc ∧ (State.raiseExc unit inst kind arg s).csu = s.csu ∧ (State.raiseExc unit inst kind arg s).mgp = s.mgp ∧ (State.raiseExc unit inst kind arg s).cru = s.cru :=
  have h := (State.raiseExc_touch _ _ _ _ _ (by simp) (Touch.refl 1048576 _))
  ⟨h.pending, h.out rfl, h.freeCnt rfl, h.timers rfl, h.tbu rfl, h.power rfl, h.regf rfl, h.sheet rfl, h.sheetOld rfl, h.hlu rfl, h.qen rfl, h.tnu rfl, h.gal rfl, h.mxe rfl, h.dsc rfl, h.fca rfl, h.cdx rfl, h.spe rfl, h.hum rfl, h.bpm rfl, h.dmc rfl, h.csu rfl, h.mgp rfl, h.cru rfl⟩

@[simp] theorem State.trigger_units (code unit inst : Nat) (arg : Dword) (s : State) :
    (State.trigger code unit inst arg s).pending = s.pending ∧ (State.trigger code unit inst arg s).out = s.out ∧ (State.trigger code unit inst arg s).freeCnt = s.freeCnt ∧ (State.trigger code unit inst arg s).timers = s.timers ∧ (State.trigger code unit inst arg s).tbu = s.tbu ∧ (State.trigger code unit inst arg s).power = s.power ∧ (State.trigger code unit inst arg s).sheet = s.sheet ∧ (State.trigger code unit inst arg s).sheetOld = s.sheetOld ∧ (State.trigger code unit inst arg s).hlu = s.hlu ∧ (State.trigger code unit inst arg s).qen = s.qen ∧ (State.trigger code unit inst arg s).tnu = s.tnu ∧ (State.trigger code unit inst arg s).gal = s.gal ∧ (State.trigger code unit inst arg s).mxe = s.mxe ∧ (State.trigger code unit inst arg s).dsc = s.dsc ∧ (State.trigger code unit inst arg s).fca = s.fca ∧ (State.trigger code unit inst arg s).cdx = s.cdx ∧ (State.trigger code unit inst arg s).spe = s.spe ∧ (State.trigger code unit inst arg s).hum = s.hum ∧ (State.trigger code unit inst arg s).bpm = s.bpm ∧ (State.trigger code unit inst arg s).dmc = s.dmc ∧ (State.trigger code unit inst arg s).ccl = s.ccl ∧ (State.trigger code unit inst arg s).csu = s.csu ∧ (State.trigger code unit inst arg s).mgp = s.mgp :=
  have h := (State.trigger_touch _ _ _ _ _ (by simp) (Touch.refl 8388640 _))
  ⟨h.pending, h.out rfl, h.freeCnt rfl, h.timers rfl, h.tbu rfl, h.power rfl, h.sheet rfl, h.sheetOld rfl, h.hlu rfl, h.qen rfl, h.tnu rfl, h.gal rfl, h.mxe rfl, h.dsc rfl, h.fca rfl, h.cdx rfl, h.spe rfl, h.hum rfl, h.bpm rfl, h.dmc rfl, h.ccl rfl, h.csu rfl, h.mgp rfl⟩

@[simp] theorem State.modCtx_units (c : Nat) (f : Ctx → Ctx) (s : State) :
    (State.modCtx c f s).pending = s.pending ∧ (State.modCtx c f s).out = s.out ∧ (State.modCtx c f s).freeCnt = s.freeCnt ∧ (State.modCtx c f s).timers = s.timers ∧ (State.modCtx c f s).tbu = s.tbu ∧ (State.modCtx c f s).power = s.power ∧ (State.modCtx c f s).regf = s.regf ∧ (State.modCtx c f s).sheet = s.sheet ∧ (State.modCtx c f s).sheetOld = s.sheetOld ∧ (State.modCtx c f s).hlu = s.hlu ∧ (State.modCtx c f s).tnu = s.tnu ∧ (State.modCtx c f s).gal = s.gal ∧ (State.modCtx c f s).mxe = s.mxe ∧ (State.modCtx c f s).dsc = s.dsc ∧ (State.modCtx c f s).fca = s.fca ∧ (State.modCtx c f s).cdx = s.cdx ∧ (State.modCtx c f s).spe = s.spe ∧ (State.modCtx c f s).hum = s.hum ∧ (State.modCtx c f s).bpm = s.bpm ∧ (State.modCtx c f s).dmc = s.dmc ∧ (State.modCtx c f s).ccl = s.ccl ∧ (State.modCtx c f s).csu = s.csu ∧ (State.modCtx c f s).mgp = s.mgp ∧ (State.modCtx c f s).cru = s.cru :=
  have h := (State.modCtx_touch _ _ _ (by simp) (Touch.refl 512 _))
  ⟨h.pending, h.out rfl, h.freeCnt rfl, h.timers rfl, h.tbu rfl, h.power rfl, h.regf rfl, h.sheet rfl, h.sheetOld rfl, h.hlu rfl, h.tnu rfl, h.gal rfl, h.mxe rfl, h.dsc rfl, h.fca rfl, h.cdx rfl, h.spe rfl, h.hum rfl, h.bpm rfl, h.dmc rfl, h.ccl rfl, h.csu rfl, h.mgp rfl, h.cru rfl⟩

@[simp] theorem State.finish_units (c status : Nat) (s : State) :
    (State.finish c status s).pending = s.pending ∧ (State.finish c status s).out = s.out ∧ (State.finish c status s).freeCnt = s.freeCnt ∧ (State.finish c status s).timers = s.timers ∧ (State.finish c status s).tbu = s.tbu ∧ (State.finish c status s).power = s.power ∧ (State.finish c status s).regf = s.regf ∧ (State.finish c status s).sheet = s.sheet ∧ (State.finish c status s).sheetOld = s.sheetOld ∧ (State.finish c status s).hlu = s.hlu ∧ (State.finish c status s).tnu = s.tnu ∧ (State.finish c status s).gal = s.gal ∧ (State.finish c status s).mxe = s.mxe ∧ (State.finish c status s).dsc = s.dsc ∧ (State.finish c status s).fca = s.fca ∧ (State.finish c status s).cdx = s.cdx ∧ (State.finish c status s).spe = s.spe ∧ (State.finish c status s).hum = s.hum ∧ (State.finish c status s).bpm = s.bpm ∧ (State.finish c status s).dmc = s.dmc ∧ (State.finish c status s).ccl = s.ccl ∧ (State.finish c status s).csu = s.csu ∧ (State.finish c status s).mgp = s.mgp ∧ (State.finish c status s).cru = s.cru :=
  have h := (State.finish_touch _ _ _ (by simp) (Touch.refl 512 _))
  ⟨h.pending, h.out rfl, h.freeCnt rfl, h.timers rfl, h.tbu rfl, h.power rfl, h.regf rfl, h.sheet rfl, h.sheetOld rfl, h.hlu rfl, h.tnu rfl, h.gal rfl, h.mxe rfl, h.dsc rfl, h.fca rfl, h.cdx rfl, h.spe rfl, h.hum rfl, h.bpm rfl, h.dmc rfl, h.ccl rfl, h.csu rfl, h.mgp rfl, h.cru rfl⟩

@[simp] theorem State.giveEvent_units (fn : Nat) (s : State) :
    (State.giveEvent fn s).pending = s.pending ∧ (State.giveEvent fn s).out = s.out ∧ (State.giveEvent fn s).freeCnt = s.freeCnt ∧ (State.giveEvent fn s).timers = s.timers ∧ (State.giveEvent fn s).tbu = s.tbu ∧ (State.giveEvent fn s).power = s.power ∧ (State.giveEvent fn s).regf = s.regf ∧ (State.giveEvent fn s).sheet = s.sheet ∧ (State.giveEvent fn s).sheetOld = s.sheetOld ∧ (State.giveEvent fn s).hlu = s.hlu ∧ (State.giveEvent fn s).tnu = s.tnu ∧ (State.giveEvent fn s).gal = s.gal ∧ (State.giveEvent fn s).mxe = s.mxe ∧ (State.giveEvent fn s).dsc = s.dsc ∧ (State.giveEvent fn s).fca = s.fca ∧ (State.giveEvent fn s).cdx = s.cdx ∧ (State.giveEvent fn s).spe = s.spe ∧ (State.giveEvent fn s).hum = s.hum ∧ (State.giveEvent fn s).bpm = s.bpm ∧ (State.giveEvent fn s).dmc = s.dmc ∧ (State.giveEvent fn s).ccl = s.ccl ∧ (State.giveEvent fn s).csu = s.csu ∧ (State.giveEvent fn s).mgp = s.mgp ∧ (State.giveEvent fn s).cru = s.cru :=
  have h := (State.giveEvent_touch _ _ (by simp) (Touch.refl 512 _))
  ⟨h.pending, h.out rfl, h.freeCnt rfl, h.timers rfl, h.tbu rfl, h.power rfl, h.regf rfl, h.sheet rfl, h.sheetOld rfl, h.hlu rfl, h.tnu rfl, h.gal rfl, h.mxe rfl, h.dsc rfl, h.fca rfl, h.cdx rfl, h.spe rfl, h.hum rfl, h.bpm rfl, h.dmc rfl, h.ccl rfl, h.csu rfl, h.mgp rfl, h.cru rfl⟩

@[simp] theorem State.asyncEvent_units (fn : Nat) (e : AsyncEvent) (s : State) :
    (State.asyncEvent fn e s).pending = s.pending ∧ (State.asyncEvent fn e s).out = s.out ∧ (State.asyncEvent fn e s).freeCnt = s.freeCnt ∧ (State.asyncEvent fn e s).timers = s.timers ∧ (State.asyncEvent fn e s).tbu = s.tbu ∧ (State.asyncEvent fn e s).power = s.power ∧ (State.asyncEvent fn e s).regf = s.regf ∧ (State.asyncEvent fn e s).sheet = s.sheet ∧ (State.asyncEvent fn e s).sheetOld = s.sheetOld ∧ (State.asyncEvent fn e s).hlu = s.hlu ∧ (State.asyncEvent fn e s).tnu = s.tnu ∧ (State.asyncEvent fn e s).gal = s.gal ∧ (State.asyncEvent fn e s).mxe = s.mxe ∧ (State.asyncEvent fn e s).dsc = s.dsc ∧ (State.asyncEvent fn e s).fca = s.fca ∧ (State.asyncEvent fn e s).cdx = s.cdx ∧ (State.asyncEvent fn e s).spe = s.spe ∧ (State.asyncEvent fn e s).hum = s.hum ∧ (State.asyncEvent fn e s).bpm = s.bpm ∧ (State.asyncEvent fn e s).dmc = s.dmc ∧ (State.asyncEvent fn e s).ccl = s.ccl ∧ (State.asyncEvent fn e s).csu = s.csu ∧ (State.asyncEvent fn e s).mgp = s.mgp ∧ (State.asyncEvent fn e s).cru = s.cru :=
  have h := (State.asyncEvent_touch _ _ _ (by simp) (Touch.refl 512 _))
  ⟨h.pending, h.out rfl, h.freeCnt rfl, h.timers rfl, h.tbu rfl, h.power rfl, h.regf rfl, h.sheet rfl, h.sheetOld rfl, h.hlu rfl, h.tnu rfl, h.gal rfl, h.mxe rfl, h.dsc rfl, h.fca rfl, h.cdx rfl, h.spe rfl, h.hum rfl, h.bpm rfl, h.dmc rfl, h.ccl rfl, h.csu rfl, h.mgp rfl, h.cru rfl⟩

@[simp] theorem State.asyncAll_units (e : AsyncEvent) (s : State) :
    (State.asyncAll e s).pending = s.pending ∧ (State.asyncAll e s).out = s.out ∧ (State.asyncAll e s).freeCnt = s.freeCnt ∧ (State.asyncAll e s).timers = s.timers ∧ (State.asyncAll e s).tbu = s.tbu ∧ (State.asyncAll e s).power = s.power ∧ (State.asyncAll e s).regf = s.regf ∧ (State.asyncAll e s).sheet = s.sheet ∧ (State.asyncAll e s).sheetOld = s.sheetOld ∧ (State.asyncAll e s).hlu = s.hlu ∧ (State.asyncAll e s).tnu = s.tnu ∧ (State.asyncAll e s).gal = s.gal ∧ (State.asyncAll e s).mxe = s.mxe ∧ (State.asyncAll e s).dsc = s.dsc ∧ (State.asyncAll e s).fca = s.fca ∧ (State.asyncAll e s).cdx = s.cdx ∧ (State.asyncAll e s).spe = s.spe ∧ (State.asyncAll e s).hum = s.hum ∧ (State.asyncAll e s).bpm = s.bpm ∧ (State.asyncAll e s).dmc = s.dmc ∧ (State.asyncAll e s).ccl = s.ccl ∧ (State.asyncAll e s).csu = s.csu ∧ (State.asyncAll e s).mgp = s.mgp ∧ (State.asyncAll e s).cru = s.cru :=
  have h := (State.asyncAll_touch _ _ (by simp) (Touch.refl 512 _))
  ⟨h.pending, h.out rfl, h.freeCnt rfl, h.timers rfl, h.tbu rfl, h.power rfl, h.regf rfl, h.sheet rfl, h.sheetOld rfl, h.hlu rfl, h.tnu rfl, h.gal rfl, h.mxe rfl, h.dsc rfl, h.fca rfl, h.cdx rfl, h.spe rfl, h.hum rfl, h.bpm rfl, h.dmc rfl, h.ccl rfl, h.csu rfl, h.mgp rfl, h.cru rfl⟩

@[simp] theorem State.criticalWarn_units (bit info : Nat) (s : State) :
    (State.criticalWarn bit info s).pending = s.pending ∧ (State.criticalWarn bit info s).out = s.out ∧ (State.criticalWarn bit info s).freeCnt = s.freeCnt ∧ (State.criticalWarn bit info s).timers = s.timers ∧ (State.criticalWarn bit info s).tbu = s.tbu ∧ (State.criticalWarn bit info s).power = s.power ∧ (State.criticalWarn bit info s).regf = s.regf ∧ (State.criticalWarn bit info s).sheet = s.sheet ∧ (State.criticalWarn bit info s).sheetOld = s.sheetOld ∧ (State.criticalWarn bit info s).hlu = s.hlu ∧ (State.criticalWarn bit info s).tnu = s.tnu ∧ (State.criticalWarn bit info s).gal = s.gal ∧ (State.criticalWarn bit info s).mxe = s.mxe ∧ (State.criticalWarn bit info s).dsc = s.dsc ∧ (State.criticalWarn bit info s).fca = s.fca ∧ (State.criticalWarn bit info s).cdx = s.cdx ∧ (State.criticalWarn bit info s).spe = s.spe ∧ (State.criticalWarn bit info s).hum = s.hum ∧ (State.criticalWarn bit info s).bpm = s.bpm ∧ (State.criticalWarn bit info s).dmc = s.dmc ∧ (State.criticalWarn bit info s).ccl = s.ccl ∧ (State.criticalWarn bit info s).csu = s.csu ∧ (State.criticalWarn bit info s).mgp = s.mgp ∧ (State.criticalWarn bit info s).cru = s.cru :=
  have h := (State.criticalWarn_touch _ _ _ (by simp) (Touch.refl 512 _))
  ⟨h.pending, h.out rfl, h.freeCnt rfl, h.timers rfl, h.tbu rfl, h.power rfl, h.regf rfl, h.sheet rfl, h.sheetOld rfl, h.hlu rfl, h.tnu rfl, h.gal rfl, h.mxe rfl, h.dsc rfl, h.fca rfl, h.cdx rfl, h.spe rfl, h.hum rfl, h.bpm rfl, h.dmc rfl, h.ccl rfl, h.csu rfl, h.mgp rfl, h.cru rfl⟩

@[simp] theorem State.logHealth_units (code unit : Nat) (s : State) :
    (State.logHealth code unit s).pending = s.pending ∧ (State.logHealth code unit s).out = s.out ∧ (State.logHealth code unit s).freeCnt = s.freeCnt ∧ (State.logHealth code unit s).timers = s.timers ∧ (State.logHealth code unit s).tbu = s.tbu ∧ (State.logHealth code unit s).power = s.power ∧ (State.logHealth code unit s).regf = s.regf ∧ (State.logHealth code unit s).sheet = s.sheet ∧ (State.logHealth code unit s).sheetOld = s.sheetOld ∧ (State.logHealth code unit s).hlu = s.hlu ∧ (State.logHealth code unit s).qen = s.qen ∧ (State.logHealth code unit s).tnu = s.tnu ∧ (State.logHealth code unit s).gal = s.gal ∧ (State.logHealth code unit s).mxe = s.mxe ∧ (State.logHealth code unit s).dsc = s.dsc ∧ (State.logHealth code unit s).fca = s.fca ∧ (State.logHealth code unit s).cdx = s.cdx ∧ (State.logHealth code unit s).spe = s.spe ∧ (State.logHealth code unit s).hum = s.hum ∧ (State.logHealth code unit s).bpm = s.bpm ∧ (State.logHealth code unit s).dmc = s.dmc ∧ (State.logHealth code unit s).ccl = s.ccl ∧ (State.logHealth code unit s).csu = s.csu ∧ (State.logHealth code unit s).cru = s.cru :=
  have h := (State.logHealth_touch _ _ _ (by simp) (Touch.refl 4194304 _))
  ⟨h.pending, h.out rfl, h.freeCnt rfl, h.timers rfl, h.tbu rfl, h.power rfl, h.regf rfl, h.sheet rfl, h.sheetOld rfl, h.hlu rfl, h.qen rfl, h.tnu rfl, h.gal rfl, h.mxe rfl, h.dsc rfl, h.fca rfl, h.cdx rfl, h.spe rfl, h.hum rfl, h.bpm rfl, h.dmc rfl, h.ccl rfl, h.csu rfl, h.cru rfl⟩

@[simp] theorem State.tellHealth_units (code unit : Nat) (r : EventRecord) (s : State) :
    (State.tellHealth code unit r s).pending = s.pending ∧ (State.tellHealth code unit r s).freeCnt = s.freeCnt ∧ (State.tellHealth code unit r s).timers = s.timers ∧ (State.tellHealth code unit r s).tbu = s.tbu ∧ (State.tellHealth code unit r s).power = s.power ∧ (State.tellHealth code unit r s).sheet = s.sheet ∧ (State.tellHealth code unit r s).sheetOld = s.sheetOld ∧ (State.tellHealth code unit r s).hlu = s.hlu ∧ (State.tellHealth code unit r s).tnu = s.tnu ∧ (State.tellHealth code unit r s).gal = s.gal ∧ (State.tellHealth code unit r s).mxe = s.mxe ∧ (State.tellHealth code unit r s).dsc = s.dsc ∧ (State.tellHealth code unit r s).fca = s.fca ∧ (State.tellHealth code unit r s).cdx = s.cdx ∧ (State.tellHealth code unit r s).spe = s.spe ∧ (State.tellHealth code unit r s).hum = s.hum ∧ (State.tellHealth code unit r s).bpm = s.bpm ∧ (State.tellHealth code unit r s).dmc = s.dmc ∧ (State.tellHealth code unit r s).ccl = s.ccl ∧ (State.tellHealth code unit r s).csu = s.csu ∧ (State.tellHealth code unit r s).mgp = s.mgp :=
  have h := (State.tellHealth_touch _ _ _ _ (by simp) (Touch.refl 8389153 _))
  ⟨h.pending, h.freeCnt rfl, h.timers rfl, h.tbu rfl, h.power rfl, h.sheet rfl, h.sheetOld rfl, h.hlu rfl, h.tnu rfl, h.gal rfl, h.mxe rfl, h.dsc rfl, h.fca rfl, h.cdx rfl, h.spe rfl, h.hum rfl, h.bpm rfl, h.dmc rfl, h.ccl rfl, h.csu rfl, h.mgp rfl⟩

@[simp] theorem State.health_units (code unit : Nat) (s : State) :
    (State.health code unit s).pending = s.pending ∧ (State.health code unit s).freeCnt = s.freeCnt ∧ (State.health code unit s).timers = s.timers ∧ (State.health code unit s).tbu = s.tbu ∧ (State.health code unit s).power = s.power ∧ (State.health code unit s).sheet = s.sheet ∧ (State.health code unit s).sheetOld = s.sheetOld ∧ (State.health code unit s).hlu = s.hlu ∧ (State.health code unit s).tnu = s.tnu ∧ (State.health code unit s).gal = s.gal ∧ (State.health code unit s).mxe = s.mxe ∧ (State.health code unit s).dsc = s.dsc ∧ (State.health code unit s).fca = s.fca ∧ (State.health code unit s).cdx = s.cdx ∧ (State.health code unit s).spe = s.spe ∧ (State.health code unit s).hum = s.hum ∧ (State.health code unit s).bpm = s.bpm ∧ (State.health code unit s).dmc = s.dmc ∧ (State.health code unit s).ccl = s.ccl ∧ (State.health code unit s).csu = s.csu :=
  have h := (State.health_touch _ _ _ (by simp) (Touch.refl 12583457 _))
  ⟨h.pending, h.freeCnt rfl, h.timers rfl, h.tbu rfl, h.power rfl, h.sheet rfl, h.sheetOld rfl, h.hlu rfl, h.tnu rfl, h.gal rfl, h.mxe rfl, h.dsc rfl, h.fca rfl, h.cdx rfl, h.spe rfl, h.hum rfl, h.bpm rfl, h.dmc rfl, h.ccl rfl, h.csu rfl⟩

@[simp] theorem State.healthClear_units (code : Nat) (s : State) :
    (State.healthClear code s).pending = s.pending ∧ (State.healthClear code s).out = s.out ∧ (State.healthClear code s).freeCnt = s.freeCnt ∧ (State.healthClear code s).timers = s.timers ∧ (State.healthClear code s).tbu = s.tbu ∧ (State.healthClear code s).power = s.power ∧ (State.healthClear code s).regf = s.regf ∧ (State.healthClear code s).sheet = s.sheet ∧ (State.healthClear code s).sheetOld = s.sheetOld ∧ (State.healthClear code s).hlu = s.hlu ∧ (State.healthClear code s).qen = s.qen ∧ (State.healthClear code s).tnu = s.tnu ∧ (State.healthClear code s).gal = s.gal ∧ (State.healthClear code s).mxe = s.mxe ∧ (State.healthClear code s).dsc = s.dsc ∧ (State.healthClear code s).fca = s.fca ∧ (State.healthClear code s).cdx = s.cdx ∧ (State.healthClear code s).spe = s.spe ∧ (State.healthClear code s).hum = s.hum ∧ (State.healthClear code s).bpm = s.bpm ∧ (State.healthClear code s).dmc = s.dmc ∧ (State.healthClear code s).ccl = s.ccl ∧ (State.healthClear code s).csu = s.csu ∧ (State.healthClear code s).cru = s.cru :=
  have h := (State.healthClear_touch _ _ (by simp) (Touch.refl 4194304 _))
  ⟨h.pending, h.out rfl, h.freeCnt rfl, h.timers rfl, h.tbu rfl, h.power rfl, h.regf rfl, h.sheet rfl, h.sheetOld rfl, h.hlu rfl, h.qen rfl, h.tnu rfl, h.gal rfl, h.mxe rfl, h.dsc rfl, h.fca rfl, h.cdx rfl, h.spe rfl, h.hum rfl, h.bpm rfl, h.dmc rfl, h.ccl rfl, h.csu rfl, h.cru rfl⟩

@[simp] theorem State.healthLevel_units (code unit : Nat) (on : Bool) (s : State) :
    (State.healthLevel code unit on s).pending = s.pending ∧ (State.healthLevel code unit on s).freeCnt = s.freeCnt ∧ (State.healthLevel code unit on s).timers = s.timers ∧ (State.healthLevel code unit on s).tbu = s.tbu ∧ (State.healthLevel code unit on s).power = s.power ∧ (State.healthLevel code unit on s).sheet = s.sheet ∧ (State.healthLevel code unit on s).sheetOld = s.sheetOld ∧ (State.healthLevel code unit on s).hlu = s.hlu ∧ (State.healthLevel code unit on s).tnu = s.tnu ∧ (State.healthLevel code unit on s).gal = s.gal ∧ (State.healthLevel code unit on s).mxe = s.mxe ∧ (State.healthLevel code unit on s).dsc = s.dsc ∧ (State.healthLevel code unit on s).fca = s.fca ∧ (State.healthLevel code unit on s).cdx = s.cdx ∧ (State.healthLevel code unit on s).spe = s.spe ∧ (State.healthLevel code unit on s).hum = s.hum ∧ (State.healthLevel code unit on s).bpm = s.bpm ∧ (State.healthLevel code unit on s).dmc = s.dmc ∧ (State.healthLevel code unit on s).ccl = s.ccl ∧ (State.healthLevel code unit on s).csu = s.csu :=
  have h := (State.healthLevel_touch _ _ _ _ (by simp) (Touch.refl 12583457 _))
  ⟨h.pending, h.freeCnt rfl, h.timers rfl, h.tbu rfl, h.power rfl, h.sheet rfl, h.sheetOld rfl, h.hlu rfl, h.tnu rfl, h.gal rfl, h.mxe rfl, h.dsc rfl, h.fca rfl, h.cdx rfl, h.spe rfl, h.hum rfl, h.bpm rfl, h.dmc rfl, h.ccl rfl, h.csu rfl⟩

@[simp] theorem State.addValid_units (e : MapEntry) (n : Int) (s : State) :
    (State.addValid e n s).pending = s.pending ∧ (State.addValid e n s).out = s.out ∧ (State.addValid e n s).freeCnt = s.freeCnt ∧ (State.addValid e n s).timers = s.timers ∧ (State.addValid e n s).tbu = s.tbu ∧ (State.addValid e n s).power = s.power ∧ (State.addValid e n s).regf = s.regf ∧ (State.addValid e n s).sheet = s.sheet ∧ (State.addValid e n s).sheetOld = s.sheetOld ∧ (State.addValid e n s).hlu = s.hlu ∧ (State.addValid e n s).qen = s.qen ∧ (State.addValid e n s).tnu = s.tnu ∧ (State.addValid e n s).gal = s.gal ∧ (State.addValid e n s).dsc = s.dsc ∧ (State.addValid e n s).fca = s.fca ∧ (State.addValid e n s).cdx = s.cdx ∧ (State.addValid e n s).spe = s.spe ∧ (State.addValid e n s).hum = s.hum ∧ (State.addValid e n s).bpm = s.bpm ∧ (State.addValid e n s).dmc = s.dmc ∧ (State.addValid e n s).ccl = s.ccl ∧ (State.addValid e n s).csu = s.csu ∧ (State.addValid e n s).mgp = s.mgp ∧ (State.addValid e n s).cru = s.cru :=
  have h := (State.addValid_touch _ _ _ (by simp) (Touch.refl 4096 _))
  ⟨h.pending, h.out rfl, h.freeCnt rfl, h.timers rfl, h.tbu rfl, h.power rfl, h.regf rfl, h.sheet rfl, h.sheetOld rfl, h.hlu rfl, h.qen rfl, h.tnu rfl, h.gal rfl, h.dsc rfl, h.fca rfl, h.cdx rfl, h.spe rfl, h.hum rfl, h.bpm rfl, h.dmc rfl, h.ccl rfl, h.csu rfl, h.mgp rfl, h.cru rfl⟩

@[simp] theorem State.setEntry_units (nsid g : Nat) (e : MapEntry) (s : State) :
    (State.setEntry nsid g e s).pending = s.pending ∧ (State.setEntry nsid g e s).out = s.out ∧ (State.setEntry nsid g e s).freeCnt = s.freeCnt ∧ (State.setEntry nsid g e s).timers = s.timers ∧ (State.setEntry nsid g e s).tbu = s.tbu ∧ (State.setEntry nsid g e s).power = s.power ∧ (State.setEntry nsid g e s).regf = s.regf ∧ (State.setEntry nsid g e s).sheet = s.sheet ∧ (State.setEntry nsid g e s).sheetOld = s.sheetOld ∧ (State.setEntry nsid g e s).hlu = s.hlu ∧ (State.setEntry nsid g e s).qen = s.qen ∧ (State.setEntry nsid g e s).tnu = s.tnu ∧ (State.setEntry nsid g e s).gal = s.gal ∧ (State.setEntry nsid g e s).dsc = s.dsc ∧ (State.setEntry nsid g e s).fca = s.fca ∧ (State.setEntry nsid g e s).cdx = s.cdx ∧ (State.setEntry nsid g e s).spe = s.spe ∧ (State.setEntry nsid g e s).hum = s.hum ∧ (State.setEntry nsid g e s).bpm = s.bpm ∧ (State.setEntry nsid g e s).dmc = s.dmc ∧ (State.setEntry nsid g e s).ccl = s.ccl ∧ (State.setEntry nsid g e s).csu = s.csu ∧ (State.setEntry nsid g e s).mgp = s.mgp ∧ (State.setEntry nsid g e s).cru = s.cru :=
  have h := (State.setEntry_touch _ _ _ _ (by simp) (Touch.refl 4096 _))
  ⟨h.pending, h.out rfl, h.freeCnt rfl, h.timers rfl, h.tbu rfl, h.power rfl, h.regf rfl, h.sheet rfl, h.sheetOld rfl, h.hlu rfl, h.qen rfl, h.tnu rfl, h.gal rfl, h.dsc rfl, h.fca rfl, h.cdx rfl, h.spe rfl, h.hum rfl, h.bpm rfl, h.dmc rfl, h.ccl rfl, h.csu rfl, h.mgp rfl, h.cru rfl⟩

@[simp] theorem State.spareEvents_units (s : State) :
    (State.spareEvents s).pending = s.pending ∧ (State.spareEvents s).freeCnt = s.freeCnt ∧ (State.spareEvents s).timers = s.timers ∧ (State.spareEvents s).tbu = s.tbu ∧ (State.spareEvents s).power = s.power ∧ (State.spareEvents s).sheet = s.sheet ∧ (State.spareEvents s).sheetOld = s.sheetOld ∧ (State.spareEvents s).hlu = s.hlu ∧ (State.spareEvents s).tnu = s.tnu ∧ (State.spareEvents s).gal = s.gal ∧ (State.spareEvents s).dsc = s.dsc ∧ (State.spareEvents s).fca = s.fca ∧ (State.spareEvents s).cdx = s.cdx ∧ (State.spareEvents s).spe = s.spe ∧ (State.spareEvents s).hum = s.hum ∧ (State.spareEvents s).bpm = s.bpm ∧ (State.spareEvents s).dmc = s.dmc ∧ (State.spareEvents s).ccl = s.ccl ∧ (State.spareEvents s).csu = s.csu :=
  have h := (State.spareEvents_touch _ (by simp) (Touch.refl 12587553 _))
  ⟨h.pending, h.freeCnt rfl, h.timers rfl, h.tbu rfl, h.power rfl, h.sheet rfl, h.sheetOld rfl, h.hlu rfl, h.tnu rfl, h.gal rfl, h.dsc rfl, h.fca rfl, h.cdx rfl, h.spe rfl, h.hum rfl, h.bpm rfl, h.dmc rfl, h.ccl rfl, h.csu rfl⟩

@[simp] theorem State.retireBlock_units (die sb cause psn : Nat) (s : State) :
    (State.retireBlock die sb cause psn s).pending = s.pending ∧ (State.retireBlock die sb cause psn s).freeCnt = s.freeCnt ∧ (State.retireBlock die sb cause psn s).timers = s.timers ∧ (State.retireBlock die sb cause psn s).tbu = s.tbu ∧ (State.retireBlock die sb cause psn s).power = s.power ∧ (State.retireBlock die sb cause psn s).sheet = s.sheet ∧ (State.retireBlock die sb cause psn s).sheetOld = s.sheetOld ∧ (State.retireBlock die sb cause psn s).hlu = s.hlu ∧ (State.retireBlock die sb cause psn s).tnu = s.tnu ∧ (State.retireBlock die sb cause psn s).gal = s.gal ∧ (State.retireBlock die sb cause psn s).dsc = s.dsc ∧ (State.retireBlock die sb cause psn s).fca = s.fca ∧ (State.retireBlock die sb cause psn s).cdx = s.cdx ∧ (State.retireBlock die sb cause psn s).spe = s.spe ∧ (State.retireBlock die sb cause psn s).hum = s.hum ∧ (State.retireBlock die sb cause psn s).bpm = s.bpm ∧ (State.retireBlock die sb cause psn s).dmc = s.dmc ∧ (State.retireBlock die sb cause psn s).ccl = s.ccl ∧ (State.retireBlock die sb cause psn s).csu = s.csu :=
  have h := (State.retireBlock_touch _ _ _ _ _ (by simp) (Touch.refl 12587553 _))
  ⟨h.pending, h.freeCnt rfl, h.timers rfl, h.tbu rfl, h.power rfl, h.sheet rfl, h.sheetOld rfl, h.hlu rfl, h.tnu rfl, h.gal rfl, h.dsc rfl, h.fca rfl, h.cdx rfl, h.spe rfl, h.hum rfl, h.bpm rfl, h.dmc rfl, h.ccl rfl, h.csu rfl⟩

@[simp] theorem State.bumpBlock_units (key : Nat) (s : State) :
    (State.bumpBlock key s).pending = s.pending ∧ (State.bumpBlock key s).out = s.out ∧ (State.bumpBlock key s).freeCnt = s.freeCnt ∧ (State.bumpBlock key s).timers = s.timers ∧ (State.bumpBlock key s).tbu = s.tbu ∧ (State.bumpBlock key s).power = s.power ∧ (State.bumpBlock key s).regf = s.regf ∧ (State.bumpBlock key s).sheet = s.sheet ∧ (State.bumpBlock key s).sheetOld = s.sheetOld ∧ (State.bumpBlock key s).hlu = s.hlu ∧ (State.bumpBlock key s).qen = s.qen ∧ (State.bumpBlock key s).tnu = s.tnu ∧ (State.bumpBlock key s).gal = s.gal ∧ (State.bumpBlock key s).dsc = s.dsc ∧ (State.bumpBlock key s).fca = s.fca ∧ (State.bumpBlock key s).cdx = s.cdx ∧ (State.bumpBlock key s).spe = s.spe ∧ (State.bumpBlock key s).hum = s.hum ∧ (State.bumpBlock key s).bpm = s.bpm ∧ (State.bumpBlock key s).dmc = s.dmc ∧ (State.bumpBlock key s).ccl = s.ccl ∧ (State.bumpBlock key s).csu = s.csu ∧ (State.bumpBlock key s).mgp = s.mgp ∧ (State.bumpBlock key s).cru = s.cru :=
  have h := (State.bumpBlock_touch _ _ (by simp) (Touch.refl 4096 _))
  ⟨h.pending, h.out rfl, h.freeCnt rfl, h.timers rfl, h.tbu rfl, h.power rfl, h.regf rfl, h.sheet rfl, h.sheetOld rfl, h.hlu rfl, h.qen rfl, h.tnu rfl, h.gal rfl, h.dsc rfl, h.fca rfl, h.cdx rfl, h.spe rfl, h.hum rfl, h.bpm rfl, h.dmc rfl, h.ccl rfl, h.csu rfl, h.mgp rfl, h.cru rfl⟩

@[simp] theorem State.lostAdd_units (nsid first count cause : Nat) (s : State) :
    (State.lostAdd nsid first count cause s).pending = s.pending ∧ (State.lostAdd nsid first count cause s).out = s.out ∧ (State.lostAdd nsid first count cause s).freeCnt = s.freeCnt ∧ (State.lostAdd nsid first count cause s).timers = s.timers ∧ (State.lostAdd nsid first count cause s).tbu = s.tbu ∧ (State.lostAdd nsid first count cause s).power = s.power ∧ (State.lostAdd nsid first count cause s).sheet = s.sheet ∧ (State.lostAdd nsid first count cause s).sheetOld = s.sheetOld ∧ (State.lostAdd nsid first count cause s).hlu = s.hlu ∧ (State.lostAdd nsid first count cause s).qen = s.qen ∧ (State.lostAdd nsid first count cause s).tnu = s.tnu ∧ (State.lostAdd nsid first count cause s).gal = s.gal ∧ (State.lostAdd nsid first count cause s).mxe = s.mxe ∧ (State.lostAdd nsid first count cause s).dsc = s.dsc ∧ (State.lostAdd nsid first count cause s).fca = s.fca ∧ (State.lostAdd nsid first count cause s).cdx = s.cdx ∧ (State.lostAdd nsid first count cause s).hum = s.hum ∧ (State.lostAdd nsid first count cause s).bpm = s.bpm ∧ (State.lostAdd nsid first count cause s).dmc = s.dmc ∧ (State.lostAdd nsid first count cause s).ccl = s.ccl ∧ (State.lostAdd nsid first count cause s).csu = s.csu ∧ (State.lostAdd nsid first count cause s).mgp = s.mgp :=
  have h := (State.lostAdd_touch _ _ _ _ _ (by simp) (Touch.refl 8454176 _))
  ⟨h.pending, h.out rfl, h.freeCnt rfl, h.timers rfl, h.tbu rfl, h.power rfl, h.sheet rfl, h.sheetOld rfl, h.hlu rfl, h.qen rfl, h.tnu rfl, h.gal rfl, h.mxe rfl, h.dsc rfl, h.fca rfl, h.cdx rfl, h.hum rfl, h.bpm rfl, h.dmc rfl, h.ccl rfl, h.csu rfl, h.mgp rfl⟩

@[simp] theorem State.lostHeal_units (nsid first count : Nat) (s : State) :
    (State.lostHeal nsid first count s).pending = s.pending ∧ (State.lostHeal nsid first count s).out = s.out ∧ (State.lostHeal nsid first count s).freeCnt = s.freeCnt ∧ (State.lostHeal nsid first count s).timers = s.timers ∧ (State.lostHeal nsid first count s).tbu = s.tbu ∧ (State.lostHeal nsid first count s).power = s.power ∧ (State.lostHeal nsid first count s).regf = s.regf ∧ (State.lostHeal nsid first count s).sheet = s.sheet ∧ (State.lostHeal nsid first count s).sheetOld = s.sheetOld ∧ (State.lostHeal nsid first count s).hlu = s.hlu ∧ (State.lostHeal nsid first count s).qen = s.qen ∧ (State.lostHeal nsid first count s).tnu = s.tnu ∧ (State.lostHeal nsid first count s).gal = s.gal ∧ (State.lostHeal nsid first count s).mxe = s.mxe ∧ (State.lostHeal nsid first count s).dsc = s.dsc ∧ (State.lostHeal nsid first count s).fca = s.fca ∧ (State.lostHeal nsid first count s).cdx = s.cdx ∧ (State.lostHeal nsid first count s).hum = s.hum ∧ (State.lostHeal nsid first count s).bpm = s.bpm ∧ (State.lostHeal nsid first count s).dmc = s.dmc ∧ (State.lostHeal nsid first count s).ccl = s.ccl ∧ (State.lostHeal nsid first count s).csu = s.csu ∧ (State.lostHeal nsid first count s).mgp = s.mgp ∧ (State.lostHeal nsid first count s).cru = s.cru :=
  have h := (State.lostHeal_touch _ _ _ _ (by simp) (Touch.refl 65536 _))
  ⟨h.pending, h.out rfl, h.freeCnt rfl, h.timers rfl, h.tbu rfl, h.power rfl, h.regf rfl, h.sheet rfl, h.sheetOld rfl, h.hlu rfl, h.qen rfl, h.tnu rfl, h.gal rfl, h.mxe rfl, h.dsc rfl, h.fca rfl, h.cdx rfl, h.hum rfl, h.bpm rfl, h.dmc rfl, h.ccl rfl, h.csu rfl, h.mgp rfl, h.cru rfl⟩

@[simp] theorem State.lostDrop_units (nsid : Nat) (s : State) :
    (State.lostDrop nsid s).pending = s.pending ∧ (State.lostDrop nsid s).out = s.out ∧ (State.lostDrop nsid s).freeCnt = s.freeCnt ∧ (State.lostDrop nsid s).timers = s.timers ∧ (State.lostDrop nsid s).tbu = s.tbu ∧ (State.lostDrop nsid s).power = s.power ∧ (State.lostDrop nsid s).regf = s.regf ∧ (State.lostDrop nsid s).sheet = s.sheet ∧ (State.lostDrop nsid s).sheetOld = s.sheetOld ∧ (State.lostDrop nsid s).hlu = s.hlu ∧ (State.lostDrop nsid s).qen = s.qen ∧ (State.lostDrop nsid s).tnu = s.tnu ∧ (State.lostDrop nsid s).gal = s.gal ∧ (State.lostDrop nsid s).mxe = s.mxe ∧ (State.lostDrop nsid s).dsc = s.dsc ∧ (State.lostDrop nsid s).fca = s.fca ∧ (State.lostDrop nsid s).cdx = s.cdx ∧ (State.lostDrop nsid s).hum = s.hum ∧ (State.lostDrop nsid s).bpm = s.bpm ∧ (State.lostDrop nsid s).dmc = s.dmc ∧ (State.lostDrop nsid s).ccl = s.ccl ∧ (State.lostDrop nsid s).csu = s.csu ∧ (State.lostDrop nsid s).mgp = s.mgp ∧ (State.lostDrop nsid s).cru = s.cru :=
  have h := (State.lostDrop_touch _ _ (by simp) (Touch.refl 65536 _))
  ⟨h.pending, h.out rfl, h.freeCnt rfl, h.timers rfl, h.tbu rfl, h.power rfl, h.regf rfl, h.sheet rfl, h.sheetOld rfl, h.hlu rfl, h.qen rfl, h.tnu rfl, h.gal rfl, h.mxe rfl, h.dsc rfl, h.fca rfl, h.cdx rfl, h.hum rfl, h.bpm rfl, h.dmc rfl, h.ccl rfl, h.csu rfl, h.mgp rfl, h.cru rfl⟩

@[simp] theorem State.relocate_units (nsid g : Nat) (src : Loc) (cls : OpClass) (high : Bool) (s : State) :
    (State.relocate nsid g src cls high s).pending = s.pending ∧ (State.relocate nsid g src cls high s).out = s.out ∧ (State.relocate nsid g src cls high s).freeCnt = s.freeCnt ∧ (State.relocate nsid g src cls high s).timers = s.timers ∧ (State.relocate nsid g src cls high s).tbu = s.tbu ∧ (State.relocate nsid g src cls high s).power = s.power ∧ (State.relocate nsid g src cls high s).regf = s.regf ∧ (State.relocate nsid g src cls high s).sheet = s.sheet ∧ (State.relocate nsid g src cls high s).sheetOld = s.sheetOld ∧ (State.relocate nsid g src cls high s).hlu = s.hlu ∧ (State.relocate nsid g src cls high s).qen = s.qen ∧ (State.relocate nsid g src cls high s).tnu = s.tnu ∧ (State.relocate nsid g src cls high s).gal = s.gal ∧ (State.relocate nsid g src cls high s).dsc = s.dsc ∧ (State.relocate nsid g src cls high s).fca = s.fca ∧ (State.relocate nsid g src cls high s).cdx = s.cdx ∧ (State.relocate nsid g src cls high s).spe = s.spe ∧ (State.relocate nsid g src cls high s).hum = s.hum ∧ (State.relocate nsid g src cls high s).bpm = s.bpm ∧ (State.relocate nsid g src cls high s).dmc = s.dmc ∧ (State.relocate nsid g src cls high s).ccl = s.ccl ∧ (State.relocate nsid g src cls high s).csu = s.csu ∧ (State.relocate nsid g src cls high s).mgp = s.mgp ∧ (State.relocate nsid g src cls high s).cru = s.cru :=
  have h := (State.relocate_touch _ _ _ _ _ _ (by simp) (Touch.refl 4096 _))
  ⟨h.pending, h.out rfl, h.freeCnt rfl, h.timers rfl, h.tbu rfl, h.power rfl, h.regf rfl, h.sheet rfl, h.sheetOld rfl, h.hlu rfl, h.qen rfl, h.tnu rfl, h.gal rfl, h.dsc rfl, h.fca rfl, h.cdx rfl, h.spe rfl, h.hum rfl, h.bpm rfl, h.dmc rfl, h.ccl rfl, h.csu rfl, h.mgp rfl, h.cru rfl⟩

@[simp] theorem State.queueCopies_units (band : Band) (s : State) :
    (State.queueCopies band s).pending = s.pending ∧ (State.queueCopies band s).out = s.out ∧ (State.queueCopies band s).freeCnt = s.freeCnt ∧ (State.queueCopies band s).timers = s.timers ∧ (State.queueCopies band s).tbu = s.tbu ∧ (State.queueCopies band s).power = s.power ∧ (State.queueCopies band s).regf = s.regf ∧ (State.queueCopies band s).sheet = s.sheet ∧ (State.queueCopies band s).sheetOld = s.sheetOld ∧ (State.queueCopies band s).hlu = s.hlu ∧ (State.queueCopies band s).qen = s.qen ∧ (State.queueCopies band s).tnu = s.tnu ∧ (State.queueCopies band s).gal = s.gal ∧ (State.queueCopies band s).dsc = s.dsc ∧ (State.queueCopies band s).fca = s.fca ∧ (State.queueCopies band s).cdx = s.cdx ∧ (State.queueCopies band s).spe = s.spe ∧ (State.queueCopies band s).hum = s.hum ∧ (State.queueCopies band s).bpm = s.bpm ∧ (State.queueCopies band s).dmc = s.dmc ∧ (State.queueCopies band s).ccl = s.ccl ∧ (State.queueCopies band s).csu = s.csu ∧ (State.queueCopies band s).mgp = s.mgp ∧ (State.queueCopies band s).cru = s.cru :=
  have h := (State.queueCopies_touch _ _ (by simp) (Touch.refl 4096 _))
  ⟨h.pending, h.out rfl, h.freeCnt rfl, h.timers rfl, h.tbu rfl, h.power rfl, h.regf rfl, h.sheet rfl, h.sheetOld rfl, h.hlu rfl, h.qen rfl, h.tnu rfl, h.gal rfl, h.dsc rfl, h.fca rfl, h.cdx rfl, h.spe rfl, h.hum rfl, h.bpm rfl, h.dmc rfl, h.ccl rfl, h.csu rfl, h.mgp rfl, h.cru rfl⟩

@[simp] theorem State.makeVictim_units (b : Nat) (cls : OpClass) (s : State) :
    (State.makeVictim b cls s).pending = s.pending ∧ (State.makeVictim b cls s).out = s.out ∧ (State.makeVictim b cls s).freeCnt = s.freeCnt ∧ (State.makeVictim b cls s).timers = s.timers ∧ (State.makeVictim b cls s).tbu = s.tbu ∧ (State.makeVictim b cls s).power = s.power ∧ (State.makeVictim b cls s).regf = s.regf ∧ (State.makeVictim b cls s).sheet = s.sheet ∧ (State.makeVictim b cls s).sheetOld = s.sheetOld ∧ (State.makeVictim b cls s).hlu = s.hlu ∧ (State.makeVictim b cls s).qen = s.qen ∧ (State.makeVictim b cls s).tnu = s.tnu ∧ (State.makeVictim b cls s).gal = s.gal ∧ (State.makeVictim b cls s).dsc = s.dsc ∧ (State.makeVictim b cls s).fca = s.fca ∧ (State.makeVictim b cls s).cdx = s.cdx ∧ (State.makeVictim b cls s).spe = s.spe ∧ (State.makeVictim b cls s).hum = s.hum ∧ (State.makeVictim b cls s).bpm = s.bpm ∧ (State.makeVictim b cls s).dmc = s.dmc ∧ (State.makeVictim b cls s).ccl = s.ccl ∧ (State.makeVictim b cls s).csu = s.csu ∧ (State.makeVictim b cls s).mgp = s.mgp ∧ (State.makeVictim b cls s).cru = s.cru :=
  have h := (State.makeVictim_touch _ _ _ (by simp) (Touch.refl 4096 _))
  ⟨h.pending, h.out rfl, h.freeCnt rfl, h.timers rfl, h.tbu rfl, h.power rfl, h.regf rfl, h.sheet rfl, h.sheetOld rfl, h.hlu rfl, h.qen rfl, h.tnu rfl, h.gal rfl, h.dsc rfl, h.fca rfl, h.cdx rfl, h.spe rfl, h.hum rfl, h.bpm rfl, h.dmc rfl, h.ccl rfl, h.csu rfl, h.mgp rfl, h.cru rfl⟩

@[simp] theorem State.padBand_units (b : Nat) (cls : OpClass) (s : State) :
    (State.padBand b cls s).pending = s.pending ∧ (State.padBand b cls s).out = s.out ∧ (State.padBand b cls s).freeCnt = s.freeCnt ∧ (State.padBand b cls s).timers = s.timers ∧ (State.padBand b cls s).tbu = s.tbu ∧ (State.padBand b cls s).power = s.power ∧ (State.padBand b cls s).regf = s.regf ∧ (State.padBand b cls s).sheet = s.sheet ∧ (State.padBand b cls s).sheetOld = s.sheetOld ∧ (State.padBand b cls s).hlu = s.hlu ∧ (State.padBand b cls s).qen = s.qen ∧ (State.padBand b cls s).tnu = s.tnu ∧ (State.padBand b cls s).gal = s.gal ∧ (State.padBand b cls s).dsc = s.dsc ∧ (State.padBand b cls s).fca = s.fca ∧ (State.padBand b cls s).cdx = s.cdx ∧ (State.padBand b cls s).spe = s.spe ∧ (State.padBand b cls s).hum = s.hum ∧ (State.padBand b cls s).bpm = s.bpm ∧ (State.padBand b cls s).dmc = s.dmc ∧ (State.padBand b cls s).ccl = s.ccl ∧ (State.padBand b cls s).csu = s.csu ∧ (State.padBand b cls s).mgp = s.mgp ∧ (State.padBand b cls s).cru = s.cru :=
  have h := (State.padBand_touch _ _ _ (by simp) (Touch.refl 4096 _))
  ⟨h.pending, h.out rfl, h.freeCnt rfl, h.timers rfl, h.tbu rfl, h.power rfl, h.regf rfl, h.sheet rfl, h.sheetOld rfl, h.hlu rfl, h.qen rfl, h.tnu rfl, h.gal rfl, h.dsc rfl, h.fca rfl, h.cdx rfl, h.spe rfl, h.hum rfl, h.bpm rfl, h.dmc rfl, h.ccl rfl, h.csu rfl, h.mgp rfl, h.cru rfl⟩

@[simp] theorem State.chooseVictim_units (b : Nat) (cls : OpClass) (s : State) :
    (State.chooseVictim b cls s).pending = s.pending ∧ (State.chooseVictim b cls s).out = s.out ∧ (State.chooseVictim b cls s).freeCnt = s.freeCnt ∧ (State.chooseVictim b cls s).timers = s.timers ∧ (State.chooseVictim b cls s).tbu = s.tbu ∧ (State.chooseVictim b cls s).power = s.power ∧ (State.chooseVictim b cls s).regf = s.regf ∧ (State.chooseVictim b cls s).sheet = s.sheet ∧ (State.chooseVictim b cls s).sheetOld = s.sheetOld ∧ (State.chooseVictim b cls s).hlu = s.hlu ∧ (State.chooseVictim b cls s).qen = s.qen ∧ (State.chooseVictim b cls s).tnu = s.tnu ∧ (State.chooseVictim b cls s).gal = s.gal ∧ (State.chooseVictim b cls s).dsc = s.dsc ∧ (State.chooseVictim b cls s).fca = s.fca ∧ (State.chooseVictim b cls s).cdx = s.cdx ∧ (State.chooseVictim b cls s).spe = s.spe ∧ (State.chooseVictim b cls s).hum = s.hum ∧ (State.chooseVictim b cls s).bpm = s.bpm ∧ (State.chooseVictim b cls s).dmc = s.dmc ∧ (State.chooseVictim b cls s).ccl = s.ccl ∧ (State.chooseVictim b cls s).csu = s.csu ∧ (State.chooseVictim b cls s).mgp = s.mgp ∧ (State.chooseVictim b cls s).cru = s.cru :=
  have h := (State.chooseVictim_touch _ _ _ (by simp) (Touch.refl 4096 _))
  ⟨h.pending, h.out rfl, h.freeCnt rfl, h.timers rfl, h.tbu rfl, h.power rfl, h.regf rfl, h.sheet rfl, h.sheetOld rfl, h.hlu rfl, h.qen rfl, h.tnu rfl, h.gal rfl, h.dsc rfl, h.fca rfl, h.cdx rfl, h.spe rfl, h.hum rfl, h.bpm rfl, h.dmc rfl, h.ccl rfl, h.csu rfl, h.mgp rfl, h.cru rfl⟩

@[simp] theorem State.nandCmd_units (die : Nat) (c : NandCmd) (s : State) (k : OpKind := .read) (planes : Nat := 1) :
    (State.nandCmd die c s k planes).pending = s.pending ∧ (State.nandCmd die c s k planes).freeCnt = s.freeCnt ∧ (State.nandCmd die c s k planes).timers = s.timers ∧ (State.nandCmd die c s k planes).tbu = s.tbu ∧ (State.nandCmd die c s k planes).power = s.power ∧ (State.nandCmd die c s k planes).regf = s.regf ∧ (State.nandCmd die c s k planes).sheet = s.sheet ∧ (State.nandCmd die c s k planes).sheetOld = s.sheetOld ∧ (State.nandCmd die c s k planes).hlu = s.hlu ∧ (State.nandCmd die c s k planes).qen = s.qen ∧ (State.nandCmd die c s k planes).tnu = s.tnu ∧ (State.nandCmd die c s k planes).gal = s.gal ∧ (State.nandCmd die c s k planes).mxe = s.mxe ∧ (State.nandCmd die c s k planes).dsc = s.dsc ∧ (State.nandCmd die c s k planes).cdx = s.cdx ∧ (State.nandCmd die c s k planes).spe = s.spe ∧ (State.nandCmd die c s k planes).hum = s.hum ∧ (State.nandCmd die c s k planes).bpm = s.bpm ∧ (State.nandCmd die c s k planes).dmc = s.dmc ∧ (State.nandCmd die c s k planes).ccl = s.ccl ∧ (State.nandCmd die c s k planes).csu = s.csu ∧ (State.nandCmd die c s k planes).mgp = s.mgp ∧ (State.nandCmd die c s k planes).cru = s.cru :=
  have h := (State.nandCmd_touch _ _ _ _ _ (by simp) (Touch.refl 16385 _))
  ⟨h.pending, h.freeCnt rfl, h.timers rfl, h.tbu rfl, h.power rfl, h.regf rfl, h.sheet rfl, h.sheetOld rfl, h.hlu rfl, h.qen rfl, h.tnu rfl, h.gal rfl, h.mxe rfl, h.dsc rfl, h.cdx rfl, h.spe rfl, h.hum rfl, h.bpm rfl, h.dmc rfl, h.ccl rfl, h.csu rfl, h.mgp rfl, h.cru rfl⟩

@[simp] theorem State.modOp_units (i : Nat) (f : DieOp → DieOp) (s : State) :
    (State.modOp i f s).pending = s.pending ∧ (State.modOp i f s).out = s.out ∧ (State.modOp i f s).freeCnt = s.freeCnt ∧ (State.modOp i f s).timers = s.timers ∧ (State.modOp i f s).tbu = s.tbu ∧ (State.modOp i f s).power = s.power ∧ (State.modOp i f s).regf = s.regf ∧ (State.modOp i f s).sheet = s.sheet ∧ (State.modOp i f s).sheetOld = s.sheetOld ∧ (State.modOp i f s).hlu = s.hlu ∧ (State.modOp i f s).qen = s.qen ∧ (State.modOp i f s).tnu = s.tnu ∧ (State.modOp i f s).gal = s.gal ∧ (State.modOp i f s).mxe = s.mxe ∧ (State.modOp i f s).fca = s.fca ∧ (State.modOp i f s).cdx = s.cdx ∧ (State.modOp i f s).spe = s.spe ∧ (State.modOp i f s).hum = s.hum ∧ (State.modOp i f s).bpm = s.bpm ∧ (State.modOp i f s).dmc = s.dmc ∧ (State.modOp i f s).ccl = s.ccl ∧ (State.modOp i f s).csu = s.csu ∧ (State.modOp i f s).mgp = s.mgp ∧ (State.modOp i f s).cru = s.cru :=
  have h := (State.modOp_touch _ _ _ (by simp) (Touch.refl 8192 _))
  ⟨h.pending, h.out rfl, h.freeCnt rfl, h.timers rfl, h.tbu rfl, h.power rfl, h.regf rfl, h.sheet rfl, h.sheetOld rfl, h.hlu rfl, h.qen rfl, h.tnu rfl, h.gal rfl, h.mxe rfl, h.fca rfl, h.cdx rfl, h.spe rfl, h.hum rfl, h.bpm rfl, h.dmc rfl, h.ccl rfl, h.csu rfl, h.mgp rfl, h.cru rfl⟩

@[simp] theorem State.modDie_units (n : Nat) (f : Die → Die) (s : State) :
    (State.modDie n f s).pending = s.pending ∧ (State.modDie n f s).out = s.out ∧ (State.modDie n f s).freeCnt = s.freeCnt ∧ (State.modDie n f s).timers = s.timers ∧ (State.modDie n f s).tbu = s.tbu ∧ (State.modDie n f s).power = s.power ∧ (State.modDie n f s).regf = s.regf ∧ (State.modDie n f s).sheet = s.sheet ∧ (State.modDie n f s).sheetOld = s.sheetOld ∧ (State.modDie n f s).hlu = s.hlu ∧ (State.modDie n f s).qen = s.qen ∧ (State.modDie n f s).tnu = s.tnu ∧ (State.modDie n f s).gal = s.gal ∧ (State.modDie n f s).mxe = s.mxe ∧ (State.modDie n f s).fca = s.fca ∧ (State.modDie n f s).cdx = s.cdx ∧ (State.modDie n f s).spe = s.spe ∧ (State.modDie n f s).hum = s.hum ∧ (State.modDie n f s).bpm = s.bpm ∧ (State.modDie n f s).dmc = s.dmc ∧ (State.modDie n f s).ccl = s.ccl ∧ (State.modDie n f s).csu = s.csu ∧ (State.modDie n f s).mgp = s.mgp ∧ (State.modDie n f s).cru = s.cru :=
  have h := (State.modDie_touch _ _ _ (by simp) (Touch.refl 8192 _))
  ⟨h.pending, h.out rfl, h.freeCnt rfl, h.timers rfl, h.tbu rfl, h.power rfl, h.regf rfl, h.sheet rfl, h.sheetOld rfl, h.hlu rfl, h.qen rfl, h.tnu rfl, h.gal rfl, h.mxe rfl, h.fca rfl, h.cdx rfl, h.spe rfl, h.hum rfl, h.bpm rfl, h.dmc rfl, h.ccl rfl, h.csu rfl, h.mgp rfl, h.cru rfl⟩

@[simp] theorem State.fillSlots_units (n k : Nat) (s : State) :
    (State.fillSlots n k s).pending = s.pending ∧ (State.fillSlots n k s).out = s.out ∧ (State.fillSlots n k s).freeCnt = s.freeCnt ∧ (State.fillSlots n k s).timers = s.timers ∧ (State.fillSlots n k s).tbu = s.tbu ∧ (State.fillSlots n k s).power = s.power ∧ (State.fillSlots n k s).regf = s.regf ∧ (State.fillSlots n k s).sheet = s.sheet ∧ (State.fillSlots n k s).sheetOld = s.sheetOld ∧ (State.fillSlots n k s).hlu = s.hlu ∧ (State.fillSlots n k s).qen = s.qen ∧ (State.fillSlots n k s).tnu = s.tnu ∧ (State.fillSlots n k s).gal = s.gal ∧ (State.fillSlots n k s).mxe = s.mxe ∧ (State.fillSlots n k s).fca = s.fca ∧ (State.fillSlots n k s).cdx = s.cdx ∧ (State.fillSlots n k s).spe = s.spe ∧ (State.fillSlots n k s).hum = s.hum ∧ (State.fillSlots n k s).bpm = s.bpm ∧ (State.fillSlots n k s).dmc = s.dmc ∧ (State.fillSlots n k s).ccl = s.ccl ∧ (State.fillSlots n k s).csu = s.csu ∧ (State.fillSlots n k s).mgp = s.mgp ∧ (State.fillSlots n k s).cru = s.cru :=
  have h := (State.fillSlots_touch _ _ _ (by simp) (Touch.refl 8192 _))
  ⟨h.pending, h.out rfl, h.freeCnt rfl, h.timers rfl, h.tbu rfl, h.power rfl, h.regf rfl, h.sheet rfl, h.sheetOld rfl, h.hlu rfl, h.qen rfl, h.tnu rfl, h.gal rfl, h.mxe rfl, h.fca rfl, h.cdx rfl, h.spe rfl, h.hum rfl, h.bpm rfl, h.dmc rfl, h.ccl rfl, h.csu rfl, h.mgp rfl, h.cru rfl⟩

@[simp] theorem State.fill_units (n : Nat) (s : State) :
    (State.fill n s).pending = s.pending ∧ (State.fill n s).out = s.out ∧ (State.fill n s).freeCnt = s.freeCnt ∧ (State.fill n s).timers = s.timers ∧ (State.fill n s).tbu = s.tbu ∧ (State.fill n s).power = s.power ∧ (State.fill n s).regf = s.regf ∧ (State.fill n s).sheet = s.sheet ∧ (State.fill n s).sheetOld = s.sheetOld ∧ (State.fill n s).hlu = s.hlu ∧ (State.fill n s).qen = s.qen ∧ (State.fill n s).tnu = s.tnu ∧ (State.fill n s).gal = s.gal ∧ (State.fill n s).mxe = s.mxe ∧ (State.fill n s).fca = s.fca ∧ (State.fill n s).cdx = s.cdx ∧ (State.fill n s).spe = s.spe ∧ (State.fill n s).hum = s.hum ∧ (State.fill n s).bpm = s.bpm ∧ (State.fill n s).dmc = s.dmc ∧ (State.fill n s).ccl = s.ccl ∧ (State.fill n s).csu = s.csu ∧ (State.fill n s).mgp = s.mgp ∧ (State.fill n s).cru = s.cru :=
  have h := (State.fill_touch _ _ (by simp) (Touch.refl 8192 _))
  ⟨h.pending, h.out rfl, h.freeCnt rfl, h.timers rfl, h.tbu rfl, h.power rfl, h.regf rfl, h.sheet rfl, h.sheetOld rfl, h.hlu rfl, h.qen rfl, h.tnu rfl, h.gal rfl, h.mxe rfl, h.fca rfl, h.cdx rfl, h.spe rfl, h.hum rfl, h.bpm rfl, h.dmc rfl, h.ccl rfl, h.csu rfl, h.mgp rfl, h.cru rfl⟩

@[simp] theorem State.submitOp_units (r : OpRequest) (why : OpFor) (pages : List (Nat × Nat)) (slots : List PlaceSlot) (band : Nat) (s : State) :
    (State.submitOp r why pages slots band s).pending = s.pending ∧ (State.submitOp r why pages slots band s).out = s.out ∧ (State.submitOp r why pages slots band s).freeCnt = s.freeCnt ∧ (State.submitOp r why pages slots band s).timers = s.timers ∧ (State.submitOp r why pages slots band s).tbu = s.tbu ∧ (State.submitOp r why pages slots band s).power = s.power ∧ (State.submitOp r why pages slots band s).regf = s.regf ∧ (State.submitOp r why pages slots band s).sheet = s.sheet ∧ (State.submitOp r why pages slots band s).sheetOld = s.sheetOld ∧ (State.submitOp r why pages slots band s).hlu = s.hlu ∧ (State.submitOp r why pages slots band s).qen = s.qen ∧ (State.submitOp r why pages slots band s).tnu = s.tnu ∧ (State.submitOp r why pages slots band s).gal = s.gal ∧ (State.submitOp r why pages slots band s).mxe = s.mxe ∧ (State.submitOp r why pages slots band s).fca = s.fca ∧ (State.submitOp r why pages slots band s).cdx = s.cdx ∧ (State.submitOp r why pages slots band s).spe = s.spe ∧ (State.submitOp r why pages slots band s).hum = s.hum ∧ (State.submitOp r why pages slots band s).bpm = s.bpm ∧ (State.submitOp r why pages slots band s).dmc = s.dmc ∧ (State.submitOp r why pages slots band s).ccl = s.ccl ∧ (State.submitOp r why pages slots band s).csu = s.csu ∧ (State.submitOp r why pages slots band s).mgp = s.mgp ∧ (State.submitOp r why pages slots band s).cru = s.cru :=
  have h := (State.submitOp_touch _ _ _ _ _ _ (by simp) (Touch.refl 8192 _))
  ⟨h.pending, h.out rfl, h.freeCnt rfl, h.timers rfl, h.tbu rfl, h.power rfl, h.regf rfl, h.sheet rfl, h.sheetOld rfl, h.hlu rfl, h.qen rfl, h.tnu rfl, h.gal rfl, h.mxe rfl, h.fca rfl, h.cdx rfl, h.spe rfl, h.hum rfl, h.bpm rfl, h.dmc rfl, h.ccl rfl, h.csu rfl, h.mgp rfl, h.cru rfl⟩

@[simp] theorem State.dropOp_units (n i : Nat) (s : State) :
    (State.dropOp n i s).pending = s.pending ∧ (State.dropOp n i s).out = s.out ∧ (State.dropOp n i s).freeCnt = s.freeCnt ∧ (State.dropOp n i s).timers = s.timers ∧ (State.dropOp n i s).tbu = s.tbu ∧ (State.dropOp n i s).power = s.power ∧ (State.dropOp n i s).regf = s.regf ∧ (State.dropOp n i s).sheet = s.sheet ∧ (State.dropOp n i s).sheetOld = s.sheetOld ∧ (State.dropOp n i s).hlu = s.hlu ∧ (State.dropOp n i s).qen = s.qen ∧ (State.dropOp n i s).tnu = s.tnu ∧ (State.dropOp n i s).gal = s.gal ∧ (State.dropOp n i s).mxe = s.mxe ∧ (State.dropOp n i s).fca = s.fca ∧ (State.dropOp n i s).cdx = s.cdx ∧ (State.dropOp n i s).spe = s.spe ∧ (State.dropOp n i s).hum = s.hum ∧ (State.dropOp n i s).bpm = s.bpm ∧ (State.dropOp n i s).dmc = s.dmc ∧ (State.dropOp n i s).ccl = s.ccl ∧ (State.dropOp n i s).csu = s.csu ∧ (State.dropOp n i s).mgp = s.mgp ∧ (State.dropOp n i s).cru = s.cru :=
  have h := (State.dropOp_touch _ _ _ (by simp) (Touch.refl 8192 _))
  ⟨h.pending, h.out rfl, h.freeCnt rfl, h.timers rfl, h.tbu rfl, h.power rfl, h.regf rfl, h.sheet rfl, h.sheetOld rfl, h.hlu rfl, h.qen rfl, h.tnu rfl, h.gal rfl, h.mxe rfl, h.fca rfl, h.cdx rfl, h.spe rfl, h.hum rfl, h.bpm rfl, h.dmc rfl, h.ccl rfl, h.csu rfl, h.mgp rfl, h.cru rfl⟩

@[simp] theorem State.rePlace_units (i : Nat) (x : PlaceSlot) (s : State) :
    (State.rePlace i x s).pending = s.pending ∧ (State.rePlace i x s).out = s.out ∧ (State.rePlace i x s).freeCnt = s.freeCnt ∧ (State.rePlace i x s).timers = s.timers ∧ (State.rePlace i x s).tbu = s.tbu ∧ (State.rePlace i x s).power = s.power ∧ (State.rePlace i x s).regf = s.regf ∧ (State.rePlace i x s).sheet = s.sheet ∧ (State.rePlace i x s).sheetOld = s.sheetOld ∧ (State.rePlace i x s).hlu = s.hlu ∧ (State.rePlace i x s).qen = s.qen ∧ (State.rePlace i x s).tnu = s.tnu ∧ (State.rePlace i x s).gal = s.gal ∧ (State.rePlace i x s).dsc = s.dsc ∧ (State.rePlace i x s).fca = s.fca ∧ (State.rePlace i x s).cdx = s.cdx ∧ (State.rePlace i x s).spe = s.spe ∧ (State.rePlace i x s).hum = s.hum ∧ (State.rePlace i x s).bpm = s.bpm ∧ (State.rePlace i x s).dmc = s.dmc ∧ (State.rePlace i x s).ccl = s.ccl ∧ (State.rePlace i x s).csu = s.csu ∧ (State.rePlace i x s).mgp = s.mgp ∧ (State.rePlace i x s).cru = s.cru :=
  have h := (State.rePlace_touch _ _ _ (by simp) (Touch.refl 4096 _))
  ⟨h.pending, h.out rfl, h.freeCnt rfl, h.timers rfl, h.tbu rfl, h.power rfl, h.regf rfl, h.sheet rfl, h.sheetOld rfl, h.hlu rfl, h.qen rfl, h.tnu rfl, h.gal rfl, h.dsc rfl, h.fca rfl, h.cdx rfl, h.spe rfl, h.hum rfl, h.bpm rfl, h.dmc rfl, h.ccl rfl, h.csu rfl, h.mgp rfl, h.cru rfl⟩

@[simp] theorem State.rePlaceAll_units (i : Nat) (slots : List PlaceSlot) (s : State) :
    (State.rePlaceAll i slots s).pending = s.pending ∧ (State.rePlaceAll i slots s).out = s.out ∧ (State.rePlaceAll i slots s).freeCnt = s.freeCnt ∧ (State.rePlaceAll i slots s).timers = s.timers ∧ (State.rePlaceAll i slots s).tbu = s.tbu ∧ (State.rePlaceAll i slots s).power = s.power ∧ (State.rePlaceAll i slots s).regf = s.regf ∧ (State.rePlaceAll i slots s).sheet = s.sheet ∧ (State.rePlaceAll i slots s).sheetOld = s.sheetOld ∧ (State.rePlaceAll i slots s).hlu = s.hlu ∧ (State.rePlaceAll i slots s).qen = s.qen ∧ (State.rePlaceAll i slots s).tnu = s.tnu ∧ (State.rePlaceAll i slots s).gal = s.gal ∧ (State.rePlaceAll i slots s).dsc = s.dsc ∧ (State.rePlaceAll i slots s).fca = s.fca ∧ (State.rePlaceAll i slots s).cdx = s.cdx ∧ (State.rePlaceAll i slots s).spe = s.spe ∧ (State.rePlaceAll i slots s).hum = s.hum ∧ (State.rePlaceAll i slots s).bpm = s.bpm ∧ (State.rePlaceAll i slots s).dmc = s.dmc ∧ (State.rePlaceAll i slots s).ccl = s.ccl ∧ (State.rePlaceAll i slots s).csu = s.csu ∧ (State.rePlaceAll i slots s).mgp = s.mgp ∧ (State.rePlaceAll i slots s).cru = s.cru :=
  have h := (State.rePlaceAll_touch _ _ _ (by simp) (Touch.refl 4096 _))
  ⟨h.pending, h.out rfl, h.freeCnt rfl, h.timers rfl, h.tbu rfl, h.power rfl, h.regf rfl, h.sheet rfl, h.sheetOld rfl, h.hlu rfl, h.qen rfl, h.tnu rfl, h.gal rfl, h.dsc rfl, h.fca rfl, h.cdx rfl, h.spe rfl, h.hum rfl, h.bpm rfl, h.dmc rfl, h.ccl rfl, h.csu rfl, h.mgp rfl, h.cru rfl⟩

@[simp] theorem State.memberErased_units (b die : Nat) (s : State) :
    (State.memberErased b die s).pending = s.pending ∧ (State.memberErased b die s).out = s.out ∧ (State.memberErased b die s).freeCnt = s.freeCnt ∧ (State.memberErased b die s).timers = s.timers ∧ (State.memberErased b die s).tbu = s.tbu ∧ (State.memberErased b die s).power = s.power ∧ (State.memberErased b die s).regf = s.regf ∧ (State.memberErased b die s).sheet = s.sheet ∧ (State.memberErased b die s).sheetOld = s.sheetOld ∧ (State.memberErased b die s).hlu = s.hlu ∧ (State.memberErased b die s).qen = s.qen ∧ (State.memberErased b die s).tnu = s.tnu ∧ (State.memberErased b die s).gal = s.gal ∧ (State.memberErased b die s).dsc = s.dsc ∧ (State.memberErased b die s).fca = s.fca ∧ (State.memberErased b die s).cdx = s.cdx ∧ (State.memberErased b die s).spe = s.spe ∧ (State.memberErased b die s).hum = s.hum ∧ (State.memberErased b die s).bpm = s.bpm ∧ (State.memberErased b die s).dmc = s.dmc ∧ (State.memberErased b die s).ccl = s.ccl ∧ (State.memberErased b die s).csu = s.csu ∧ (State.memberErased b die s).mgp = s.mgp ∧ (State.memberErased b die s).cru = s.cru :=
  have h := (State.memberErased_touch _ _ _ (by simp) (Touch.refl 4096 _))
  ⟨h.pending, h.out rfl, h.freeCnt rfl, h.timers rfl, h.tbu rfl, h.power rfl, h.regf rfl, h.sheet rfl, h.sheetOld rfl, h.hlu rfl, h.qen rfl, h.tnu rfl, h.gal rfl, h.dsc rfl, h.fca rfl, h.cdx rfl, h.spe rfl, h.hum rfl, h.bpm rfl, h.dmc rfl, h.ccl rfl, h.csu rfl, h.mgp rfl, h.cru rfl⟩

@[simp] theorem State.returnFail_units (i : Nat) (o : DieOp) (s : State) :
    (State.returnFail i o s).pending = s.pending ∧ (State.returnFail i o s).out = s.out ∧ (State.returnFail i o s).freeCnt = s.freeCnt ∧ (State.returnFail i o s).timers = s.timers ∧ (State.returnFail i o s).tbu = s.tbu ∧ (State.returnFail i o s).power = s.power ∧ (State.returnFail i o s).regf = s.regf ∧ (State.returnFail i o s).sheet = s.sheet ∧ (State.returnFail i o s).sheetOld = s.sheetOld ∧ (State.returnFail i o s).hlu = s.hlu ∧ (State.returnFail i o s).qen = s.qen ∧ (State.returnFail i o s).tnu = s.tnu ∧ (State.returnFail i o s).gal = s.gal ∧ (State.returnFail i o s).dsc = s.dsc ∧ (State.returnFail i o s).fca = s.fca ∧ (State.returnFail i o s).spe = s.spe ∧ (State.returnFail i o s).hum = s.hum ∧ (State.returnFail i o s).bpm = s.bpm ∧ (State.returnFail i o s).dmc = s.dmc ∧ (State.returnFail i o s).ccl = s.ccl ∧ (State.returnFail i o s).csu = s.csu ∧ (State.returnFail i o s).mgp = s.mgp ∧ (State.returnFail i o s).cru = s.cru :=
  have h := (State.returnFail_touch _ _ _ (by simp) (Touch.refl 36864 _))
  ⟨h.pending, h.out rfl, h.freeCnt rfl, h.timers rfl, h.tbu rfl, h.power rfl, h.regf rfl, h.sheet rfl, h.sheetOld rfl, h.hlu rfl, h.qen rfl, h.tnu rfl, h.gal rfl, h.dsc rfl, h.fca rfl, h.spe rfl, h.hum rfl, h.bpm rfl, h.dmc rfl, h.ccl rfl, h.csu rfl, h.mgp rfl, h.cru rfl⟩

@[simp] theorem State.stripeLogged_units (s : State) :
    (State.stripeLogged s).pending = s.pending ∧ (State.stripeLogged s).out = s.out ∧ (State.stripeLogged s).freeCnt = s.freeCnt ∧ (State.stripeLogged s).timers = s.timers ∧ (State.stripeLogged s).tbu = s.tbu ∧ (State.stripeLogged s).power = s.power ∧ (State.stripeLogged s).regf = s.regf ∧ (State.stripeLogged s).sheet = s.sheet ∧ (State.stripeLogged s).sheetOld = s.sheetOld ∧ (State.stripeLogged s).hlu = s.hlu ∧ (State.stripeLogged s).qen = s.qen ∧ (State.stripeLogged s).tnu = s.tnu ∧ (State.stripeLogged s).gal = s.gal ∧ (State.stripeLogged s).mxe = s.mxe ∧ (State.stripeLogged s).dsc = s.dsc ∧ (State.stripeLogged s).fca = s.fca ∧ (State.stripeLogged s).cdx = s.cdx ∧ (State.stripeLogged s).hum = s.hum ∧ (State.stripeLogged s).bpm = s.bpm ∧ (State.stripeLogged s).dmc = s.dmc ∧ (State.stripeLogged s).ccl = s.ccl ∧ (State.stripeLogged s).csu = s.csu ∧ (State.stripeLogged s).mgp = s.mgp ∧ (State.stripeLogged s).cru = s.cru :=
  have h := (State.stripeLogged_touch _ (by simp) (Touch.refl 65536 _))
  ⟨h.pending, h.out rfl, h.freeCnt rfl, h.timers rfl, h.tbu rfl, h.power rfl, h.regf rfl, h.sheet rfl, h.sheetOld rfl, h.hlu rfl, h.qen rfl, h.tnu rfl, h.gal rfl, h.mxe rfl, h.dsc rfl, h.fca rfl, h.cdx rfl, h.hum rfl, h.bpm rfl, h.dmc rfl, h.ccl rfl, h.csu rfl, h.mgp rfl, h.cru rfl⟩

@[simp] theorem State.submitParity_units (x : Stripe) (b : Band) (i : Nat) (q : Bool) (payload : Nat) (cls : OpClass) (s : State) :
    (State.submitParity x b i q payload cls s).pending = s.pending ∧ (State.submitParity x b i q payload cls s).out = s.out ∧ (State.submitParity x b i q payload cls s).freeCnt = s.freeCnt ∧ (State.submitParity x b i q payload cls s).timers = s.timers ∧ (State.submitParity x b i q payload cls s).tbu = s.tbu ∧ (State.submitParity x b i q payload cls s).power = s.power ∧ (State.submitParity x b i q payload cls s).regf = s.regf ∧ (State.submitParity x b i q payload cls s).sheet = s.sheet ∧ (State.submitParity x b i q payload cls s).sheetOld = s.sheetOld ∧ (State.submitParity x b i q payload cls s).hlu = s.hlu ∧ (State.submitParity x b i q payload cls s).qen = s.qen ∧ (State.submitParity x b i q payload cls s).tnu = s.tnu ∧ (State.submitParity x b i q payload cls s).gal = s.gal ∧ (State.submitParity x b i q payload cls s).mxe = s.mxe ∧ (State.submitParity x b i q payload cls s).fca = s.fca ∧ (State.submitParity x b i q payload cls s).cdx = s.cdx ∧ (State.submitParity x b i q payload cls s).spe = s.spe ∧ (State.submitParity x b i q payload cls s).hum = s.hum ∧ (State.submitParity x b i q payload cls s).bpm = s.bpm ∧ (State.submitParity x b i q payload cls s).dmc = s.dmc ∧ (State.submitParity x b i q payload cls s).ccl = s.ccl ∧ (State.submitParity x b i q payload cls s).csu = s.csu ∧ (State.submitParity x b i q payload cls s).mgp = s.mgp ∧ (State.submitParity x b i q payload cls s).cru = s.cru :=
  have h := (State.submitParity_touch _ _ _ _ _ _ _ (by simp) (Touch.refl 8192 _))
  ⟨h.pending, h.out rfl, h.freeCnt rfl, h.timers rfl, h.tbu rfl, h.power rfl, h.regf rfl, h.sheet rfl, h.sheetOld rfl, h.hlu rfl, h.qen rfl, h.tnu rfl, h.gal rfl, h.mxe rfl, h.fca rfl, h.cdx rfl, h.spe rfl, h.hum rfl, h.bpm rfl, h.dmc rfl, h.ccl rfl, h.csu rfl, h.mgp rfl, h.cru rfl⟩

@[simp] theorem State.sealStripe_units (x : Stripe) (b : Band) (cls : OpClass) (s : State) :
    (State.sealStripe x b cls s).pending = s.pending ∧ (State.sealStripe x b cls s).out = s.out ∧ (State.sealStripe x b cls s).freeCnt = s.freeCnt ∧ (State.sealStripe x b cls s).timers = s.timers ∧ (State.sealStripe x b cls s).tbu = s.tbu ∧ (State.sealStripe x b cls s).power = s.power ∧ (State.sealStripe x b cls s).regf = s.regf ∧ (State.sealStripe x b cls s).sheet = s.sheet ∧ (State.sealStripe x b cls s).sheetOld = s.sheetOld ∧ (State.sealStripe x b cls s).hlu = s.hlu ∧ (State.sealStripe x b cls s).qen = s.qen ∧ (State.sealStripe x b cls s).tnu = s.tnu ∧ (State.sealStripe x b cls s).gal = s.gal ∧ (State.sealStripe x b cls s).mxe = s.mxe ∧ (State.sealStripe x b cls s).fca = s.fca ∧ (State.sealStripe x b cls s).cdx = s.cdx ∧ (State.sealStripe x b cls s).hum = s.hum ∧ (State.sealStripe x b cls s).bpm = s.bpm ∧ (State.sealStripe x b cls s).dmc = s.dmc ∧ (State.sealStripe x b cls s).ccl = s.ccl ∧ (State.sealStripe x b cls s).csu = s.csu ∧ (State.sealStripe x b cls s).mgp = s.mgp ∧ (State.sealStripe x b cls s).cru = s.cru :=
  have h := (State.sealStripe_touch _ _ _ _ (by simp) (Touch.refl 73728 _))
  ⟨h.pending, h.out rfl, h.freeCnt rfl, h.timers rfl, h.tbu rfl, h.power rfl, h.regf rfl, h.sheet rfl, h.sheetOld rfl, h.hlu rfl, h.qen rfl, h.tnu rfl, h.gal rfl, h.mxe rfl, h.fca rfl, h.cdx rfl, h.hum rfl, h.bpm rfl, h.dmc rfl, h.ccl rfl, h.csu rfl, h.mgp rfl, h.cru rfl⟩

@[simp] theorem State.stripeIssue_units (band : Nat) (b : Band) (mb : Nat × Nat) (block page psn payload : Nat) (cls : OpClass) (s : State) :
    (State.stripeIssue band b mb block page psn payload cls s).pending = s.pending ∧ (State.stripeIssue band b mb block page psn payload cls s).out = s.out ∧ (State.stripeIssue band b mb block page psn payload cls s).freeCnt = s.freeCnt ∧ (State.stripeIssue band b mb block page psn payload cls s).timers = s.timers ∧ (State.stripeIssue band b mb block page psn payload cls s).tbu = s.tbu ∧ (State.stripeIssue band b mb block page psn payload cls s).power = s.power ∧ (State.stripeIssue band b mb block page psn payload cls s).sheet = s.sheet ∧ (State.stripeIssue band b mb block page psn payload cls s).sheetOld = s.sheetOld ∧ (State.stripeIssue band b mb block page psn payload cls s).hlu = s.hlu ∧ (State.stripeIssue band b mb block page psn payload cls s).qen = s.qen ∧ (State.stripeIssue band b mb block page psn payload cls s).tnu = s.tnu ∧ (State.stripeIssue band b mb block page psn payload cls s).gal = s.gal ∧ (State.stripeIssue band b mb block page psn payload cls s).mxe = s.mxe ∧ (State.stripeIssue band b mb block page psn payload cls s).fca = s.fca ∧ (State.stripeIssue band b mb block page psn payload cls s).cdx = s.cdx ∧ (State.stripeIssue band b mb block page psn payload cls s).hum = s.hum ∧ (State.stripeIssue band b mb block page psn payload cls s).bpm = s.bpm ∧ (State.stripeIssue band b mb block page psn payload cls s).dmc = s.dmc ∧ (State.stripeIssue band b mb block page psn payload cls s).ccl = s.ccl ∧ (State.stripeIssue band b mb block page psn payload cls s).csu = s.csu ∧ (State.stripeIssue band b mb block page psn payload cls s).mgp = s.mgp ∧ (State.stripeIssue band b mb block page psn payload cls s).cru = s.cru :=
  have h := (State.stripeIssue_touch _ _ _ _ _ _ _ _ _ (by simp) (Touch.refl 73760 _))
  ⟨h.pending, h.out rfl, h.freeCnt rfl, h.timers rfl, h.tbu rfl, h.power rfl, h.sheet rfl, h.sheetOld rfl, h.hlu rfl, h.qen rfl, h.tnu rfl, h.gal rfl, h.mxe rfl, h.fca rfl, h.cdx rfl, h.hum rfl, h.bpm rfl, h.dmc rfl, h.ccl rfl, h.csu rfl, h.mgp rfl, h.cru rfl⟩

@[simp] theorem State.releaseStripes_units (band : Nat) (s : State) :
    (State.releaseStripes band s).pending = s.pending ∧ (State.releaseStripes band s).out = s.out ∧ (State.releaseStripes band s).freeCnt = s.freeCnt ∧ (State.releaseStripes band s).timers = s.timers ∧ (State.releaseStripes band s).tbu = s.tbu ∧ (State.releaseStripes band s).power = s.power ∧ (State.releaseStripes band s).regf = s.regf ∧ (State.releaseStripes band s).sheet = s.sheet ∧ (State.releaseStripes band s).sheetOld = s.sheetOld ∧ (State.releaseStripes band s).hlu = s.hlu ∧ (State.releaseStripes band s).qen = s.qen ∧ (State.releaseStripes band s).tnu = s.tnu ∧ (State.releaseStripes band s).gal = s.gal ∧ (State.releaseStripes band s).mxe = s.mxe ∧ (State.releaseStripes band s).dsc = s.dsc ∧ (State.releaseStripes band s).fca = s.fca ∧ (State.releaseStripes band s).cdx = s.cdx ∧ (State.releaseStripes band s).hum = s.hum ∧ (State.releaseStripes band s).bpm = s.bpm ∧ (State.releaseStripes band s).dmc = s.dmc ∧ (State.releaseStripes band s).ccl = s.ccl ∧ (State.releaseStripes band s).csu = s.csu ∧ (State.releaseStripes band s).mgp = s.mgp ∧ (State.releaseStripes band s).cru = s.cru :=
  have h := (State.releaseStripes_touch _ _ (by simp) (Touch.refl 65536 _))
  ⟨h.pending, h.out rfl, h.freeCnt rfl, h.timers rfl, h.tbu rfl, h.power rfl, h.regf rfl, h.sheet rfl, h.sheetOld rfl, h.hlu rfl, h.qen rfl, h.tnu rfl, h.gal rfl, h.mxe rfl, h.dsc rfl, h.fca rfl, h.cdx rfl, h.hum rfl, h.bpm rfl, h.dmc rfl, h.ccl rfl, h.csu rfl, h.mgp rfl, h.cru rfl⟩

@[simp] theorem State.stripeGood_units (band : Nat) (b : Band) (mb : Nat × Nat) (block page : Nat) (s : State) :
    (State.stripeGood band b mb block page s).pending = s.pending ∧ (State.stripeGood band b mb block page s).out = s.out ∧ (State.stripeGood band b mb block page s).freeCnt = s.freeCnt ∧ (State.stripeGood band b mb block page s).timers = s.timers ∧ (State.stripeGood band b mb block page s).tbu = s.tbu ∧ (State.stripeGood band b mb block page s).power = s.power ∧ (State.stripeGood band b mb block page s).regf = s.regf ∧ (State.stripeGood band b mb block page s).sheet = s.sheet ∧ (State.stripeGood band b mb block page s).sheetOld = s.sheetOld ∧ (State.stripeGood band b mb block page s).hlu = s.hlu ∧ (State.stripeGood band b mb block page s).qen = s.qen ∧ (State.stripeGood band b mb block page s).tnu = s.tnu ∧ (State.stripeGood band b mb block page s).gal = s.gal ∧ (State.stripeGood band b mb block page s).mxe = s.mxe ∧ (State.stripeGood band b mb block page s).dsc = s.dsc ∧ (State.stripeGood band b mb block page s).fca = s.fca ∧ (State.stripeGood band b mb block page s).cdx = s.cdx ∧ (State.stripeGood band b mb block page s).hum = s.hum ∧ (State.stripeGood band b mb block page s).bpm = s.bpm ∧ (State.stripeGood band b mb block page s).dmc = s.dmc ∧ (State.stripeGood band b mb block page s).ccl = s.ccl ∧ (State.stripeGood band b mb block page s).csu = s.csu ∧ (State.stripeGood band b mb block page s).mgp = s.mgp ∧ (State.stripeGood band b mb block page s).cru = s.cru :=
  have h := (State.stripeGood_touch _ _ _ _ _ _ (by simp) (Touch.refl 65536 _))
  ⟨h.pending, h.out rfl, h.freeCnt rfl, h.timers rfl, h.tbu rfl, h.power rfl, h.regf rfl, h.sheet rfl, h.sheetOld rfl, h.hlu rfl, h.qen rfl, h.tnu rfl, h.gal rfl, h.mxe rfl, h.dsc rfl, h.fca rfl, h.cdx rfl, h.hum rfl, h.bpm rfl, h.dmc rfl, h.ccl rfl, h.csu rfl, h.mgp rfl, h.cru rfl⟩

@[simp] theorem State.stripeFail_units (_band : Nat) (b : Band) (mb : Nat × Nat) (block page payload : Nat) (isParity : Bool) (s : State) :
    (State.stripeFail _band b mb block page payload isParity s).pending = s.pending ∧ (State.stripeFail _band b mb block page payload isParity s).out = s.out ∧ (State.stripeFail _band b mb block page payload isParity s).freeCnt = s.freeCnt ∧ (State.stripeFail _band b mb block page payload isParity s).timers = s.timers ∧ (State.stripeFail _band b mb block page payload isParity s).tbu = s.tbu ∧ (State.stripeFail _band b mb block page payload isParity s).power = s.power ∧ (State.stripeFail _band b mb block page payload isParity s).regf = s.regf ∧ (State.stripeFail _band b mb block page payload isParity s).sheet = s.sheet ∧ (State.stripeFail _band b mb block page payload isParity s).sheetOld = s.sheetOld ∧ (State.stripeFail _band b mb block page payload isParity s).hlu = s.hlu ∧ (State.stripeFail _band b mb block page payload isParity s).qen = s.qen ∧ (State.stripeFail _band b mb block page payload isParity s).tnu = s.tnu ∧ (State.stripeFail _band b mb block page payload isParity s).gal = s.gal ∧ (State.stripeFail _band b mb block page payload isParity s).fca = s.fca ∧ (State.stripeFail _band b mb block page payload isParity s).cdx = s.cdx ∧ (State.stripeFail _band b mb block page payload isParity s).hum = s.hum ∧ (State.stripeFail _band b mb block page payload isParity s).bpm = s.bpm ∧ (State.stripeFail _band b mb block page payload isParity s).dmc = s.dmc ∧ (State.stripeFail _band b mb block page payload isParity s).ccl = s.ccl ∧ (State.stripeFail _band b mb block page payload isParity s).csu = s.csu ∧ (State.stripeFail _band b mb block page payload isParity s).mgp = s.mgp ∧ (State.stripeFail _band b mb block page payload isParity s).cru = s.cru :=
  have h := (State.stripeFail_touch _ _ _ _ _ _ _ _ (by simp) (Touch.refl 77824 _))
  ⟨h.pending, h.out rfl, h.freeCnt rfl, h.timers rfl, h.tbu rfl, h.power rfl, h.regf rfl, h.sheet rfl, h.sheetOld rfl, h.hlu rfl, h.qen rfl, h.tnu rfl, h.gal rfl, h.fca rfl, h.cdx rfl, h.hum rfl, h.bpm rfl, h.dmc rfl, h.ccl rfl, h.csu rfl, h.mgp rfl, h.cru rfl⟩

@[simp] theorem State.sjLose_units (a b c : Bool) (s : State) :
    (State.sjLose a b c s).pending = s.pending ∧ (State.sjLose a b c s).out = s.out ∧ (State.sjLose a b c s).freeCnt = s.freeCnt ∧ (State.sjLose a b c s).timers = s.timers ∧ (State.sjLose a b c s).tbu = s.tbu ∧ (State.sjLose a b c s).power = s.power ∧ (State.sjLose a b c s).sheet = s.sheet ∧ (State.sjLose a b c s).sheetOld = s.sheetOld ∧ (State.sjLose a b c s).hlu = s.hlu ∧ (State.sjLose a b c s).qen = s.qen ∧ (State.sjLose a b c s).tnu = s.tnu ∧ (State.sjLose a b c s).gal = s.gal ∧ (State.sjLose a b c s).mxe = s.mxe ∧ (State.sjLose a b c s).dsc = s.dsc ∧ (State.sjLose a b c s).fca = s.fca ∧ (State.sjLose a b c s).cdx = s.cdx ∧ (State.sjLose a b c s).hum = s.hum ∧ (State.sjLose a b c s).bpm = s.bpm ∧ (State.sjLose a b c s).dmc = s.dmc ∧ (State.sjLose a b c s).ccl = s.ccl ∧ (State.sjLose a b c s).csu = s.csu ∧ (State.sjLose a b c s).mgp = s.mgp :=
  have h := (State.sjLose_touch _ _ _ _ (by simp) (Touch.refl 8454176 _))
  ⟨h.pending, h.out rfl, h.freeCnt rfl, h.timers rfl, h.tbu rfl, h.power rfl, h.sheet rfl, h.sheetOld rfl, h.hlu rfl, h.qen rfl, h.tnu rfl, h.gal rfl, h.mxe rfl, h.dsc rfl, h.fca rfl, h.cdx rfl, h.hum rfl, h.bpm rfl, h.dmc rfl, h.ccl rfl, h.csu rfl, h.mgp rfl⟩

@[simp] theorem State.sjRestore_units (s : State) :
    (State.sjRestore s).pending = s.pending ∧ (State.sjRestore s).out = s.out ∧ (State.sjRestore s).freeCnt = s.freeCnt ∧ (State.sjRestore s).timers = s.timers ∧ (State.sjRestore s).tbu = s.tbu ∧ (State.sjRestore s).power = s.power ∧ (State.sjRestore s).regf = s.regf ∧ (State.sjRestore s).sheet = s.sheet ∧ (State.sjRestore s).sheetOld = s.sheetOld ∧ (State.sjRestore s).hlu = s.hlu ∧ (State.sjRestore s).qen = s.qen ∧ (State.sjRestore s).tnu = s.tnu ∧ (State.sjRestore s).gal = s.gal ∧ (State.sjRestore s).mxe = s.mxe ∧ (State.sjRestore s).dsc = s.dsc ∧ (State.sjRestore s).fca = s.fca ∧ (State.sjRestore s).cdx = s.cdx ∧ (State.sjRestore s).hum = s.hum ∧ (State.sjRestore s).bpm = s.bpm ∧ (State.sjRestore s).dmc = s.dmc ∧ (State.sjRestore s).ccl = s.ccl ∧ (State.sjRestore s).csu = s.csu ∧ (State.sjRestore s).mgp = s.mgp ∧ (State.sjRestore s).cru = s.cru :=
  have h := (State.sjRestore_touch _ (by simp) (Touch.refl 65536 _))
  ⟨h.pending, h.out rfl, h.freeCnt rfl, h.timers rfl, h.tbu rfl, h.power rfl, h.regf rfl, h.sheet rfl, h.sheetOld rfl, h.hlu rfl, h.qen rfl, h.tnu rfl, h.gal rfl, h.mxe rfl, h.dsc rfl, h.fca rfl, h.cdx rfl, h.hum rfl, h.bpm rfl, h.dmc rfl, h.ccl rfl, h.csu rfl, h.mgp rfl, h.cru rfl⟩

@[simp] theorem State.beginDumpPage_units (r : DumpRun) (d n : Nat) (s : State) :
    (State.beginDumpPage r d n s).pending = s.pending ∧ (State.beginDumpPage r d n s).freeCnt = s.freeCnt ∧ (State.beginDumpPage r d n s).timers = s.timers ∧ (State.beginDumpPage r d n s).tbu = s.tbu ∧ (State.beginDumpPage r d n s).power = s.power ∧ (State.beginDumpPage r d n s).sheet = s.sheet ∧ (State.beginDumpPage r d n s).sheetOld = s.sheetOld ∧ (State.beginDumpPage r d n s).hlu = s.hlu ∧ (State.beginDumpPage r d n s).qen = s.qen ∧ (State.beginDumpPage r d n s).tnu = s.tnu ∧ (State.beginDumpPage r d n s).gal = s.gal ∧ (State.beginDumpPage r d n s).cdx = s.cdx ∧ (State.beginDumpPage r d n s).spe = s.spe ∧ (State.beginDumpPage r d n s).bpm = s.bpm ∧ (State.beginDumpPage r d n s).dmc = s.dmc ∧ (State.beginDumpPage r d n s).ccl = s.ccl ∧ (State.beginDumpPage r d n s).mgp = s.mgp :=
  have h := (State.beginDumpPage_touch _ _ _ _ (by simp) (Touch.refl 10645537 _))
  ⟨h.pending, h.freeCnt rfl, h.timers rfl, h.tbu rfl, h.power rfl, h.sheet rfl, h.sheetOld rfl, h.hlu rfl, h.qen rfl, h.tnu rfl, h.gal rfl, h.cdx rfl, h.spe rfl, h.bpm rfl, h.dmc rfl, h.ccl rfl, h.mgp rfl⟩

@[simp] theorem State.dumpOpStart_units (r : DumpRun) (d : Nat) (s : State) :
    (State.dumpOpStart r d s).pending = s.pending ∧ (State.dumpOpStart r d s).freeCnt = s.freeCnt ∧ (State.dumpOpStart r d s).timers = s.timers ∧ (State.dumpOpStart r d s).tbu = s.tbu ∧ (State.dumpOpStart r d s).power = s.power ∧ (State.dumpOpStart r d s).sheet = s.sheet ∧ (State.dumpOpStart r d s).sheetOld = s.sheetOld ∧ (State.dumpOpStart r d s).hlu = s.hlu ∧ (State.dumpOpStart r d s).qen = s.qen ∧ (State.dumpOpStart r d s).tnu = s.tnu ∧ (State.dumpOpStart r d s).gal = s.gal ∧ (State.dumpOpStart r d s).cdx = s.cdx ∧ (State.dumpOpStart r d s).spe = s.spe ∧ (State.dumpOpStart r d s).bpm = s.bpm ∧ (State.dumpOpStart r d s).dmc = s.dmc ∧ (State.dumpOpStart r d s).ccl = s.ccl ∧ (State.dumpOpStart r d s).mgp = s.mgp :=
  have h := (State.dumpOpStart_touch _ _ _ (by simp) (Touch.refl 10645537 _))
  ⟨h.pending, h.freeCnt rfl, h.timers rfl, h.tbu rfl, h.power rfl, h.sheet rfl, h.sheetOld rfl, h.hlu rfl, h.qen rfl, h.tnu rfl, h.gal rfl, h.cdx rfl, h.spe rfl, h.bpm rfl, h.dmc rfl, h.ccl rfl, h.mgp rfl⟩

@[simp] theorem State.dumpEnded_units (d n : Nat) (good : Bool) (s : State) :
    (State.dumpEnded d n good s).pending = s.pending ∧ (State.dumpEnded d n good s).out = s.out ∧ (State.dumpEnded d n good s).freeCnt = s.freeCnt ∧ (State.dumpEnded d n good s).timers = s.timers ∧ (State.dumpEnded d n good s).tbu = s.tbu ∧ (State.dumpEnded d n good s).power = s.power ∧ (State.dumpEnded d n good s).regf = s.regf ∧ (State.dumpEnded d n good s).sheet = s.sheet ∧ (State.dumpEnded d n good s).sheetOld = s.sheetOld ∧ (State.dumpEnded d n good s).hlu = s.hlu ∧ (State.dumpEnded d n good s).qen = s.qen ∧ (State.dumpEnded d n good s).tnu = s.tnu ∧ (State.dumpEnded d n good s).gal = s.gal ∧ (State.dumpEnded d n good s).mxe = s.mxe ∧ (State.dumpEnded d n good s).dsc = s.dsc ∧ (State.dumpEnded d n good s).fca = s.fca ∧ (State.dumpEnded d n good s).cdx = s.cdx ∧ (State.dumpEnded d n good s).spe = s.spe ∧ (State.dumpEnded d n good s).bpm = s.bpm ∧ (State.dumpEnded d n good s).dmc = s.dmc ∧ (State.dumpEnded d n good s).ccl = s.ccl ∧ (State.dumpEnded d n good s).csu = s.csu ∧ (State.dumpEnded d n good s).mgp = s.mgp ∧ (State.dumpEnded d n good s).cru = s.cru :=
  have h := (State.dumpEnded_touch _ _ _ _ (by simp) (Touch.refl 131072 _))
  ⟨h.pending, h.out rfl, h.freeCnt rfl, h.timers rfl, h.tbu rfl, h.power rfl, h.regf rfl, h.sheet rfl, h.sheetOld rfl, h.hlu rfl, h.qen rfl, h.tnu rfl, h.gal rfl, h.mxe rfl, h.dsc rfl, h.fca rfl, h.cdx rfl, h.spe rfl, h.bpm rfl, h.dmc rfl, h.ccl rfl, h.csu rfl, h.mgp rfl, h.cru rfl⟩

@[simp] theorem State.submitData_units (n : Nat) (b : Band) (r : OpRequest) (s : State) :
    (State.submitData n b r s).pending = s.pending ∧ (State.submitData n b r s).out = s.out ∧ (State.submitData n b r s).freeCnt = s.freeCnt ∧ (State.submitData n b r s).timers = s.timers ∧ (State.submitData n b r s).tbu = s.tbu ∧ (State.submitData n b r s).power = s.power ∧ (State.submitData n b r s).regf = s.regf ∧ (State.submitData n b r s).sheet = s.sheet ∧ (State.submitData n b r s).sheetOld = s.sheetOld ∧ (State.submitData n b r s).hlu = s.hlu ∧ (State.submitData n b r s).qen = s.qen ∧ (State.submitData n b r s).tnu = s.tnu ∧ (State.submitData n b r s).gal = s.gal ∧ (State.submitData n b r s).fca = s.fca ∧ (State.submitData n b r s).cdx = s.cdx ∧ (State.submitData n b r s).spe = s.spe ∧ (State.submitData n b r s).hum = s.hum ∧ (State.submitData n b r s).bpm = s.bpm ∧ (State.submitData n b r s).dmc = s.dmc ∧ (State.submitData n b r s).ccl = s.ccl ∧ (State.submitData n b r s).csu = s.csu ∧ (State.submitData n b r s).mgp = s.mgp ∧ (State.submitData n b r s).cru = s.cru :=
  have h := (State.submitData_touch _ _ _ _ (by simp) (Touch.refl 12288 _))
  ⟨h.pending, h.out rfl, h.freeCnt rfl, h.timers rfl, h.tbu rfl, h.power rfl, h.regf rfl, h.sheet rfl, h.sheetOld rfl, h.hlu rfl, h.qen rfl, h.tnu rfl, h.gal rfl, h.fca rfl, h.cdx rfl, h.spe rfl, h.hum rfl, h.bpm rfl, h.dmc rfl, h.ccl rfl, h.csu rfl, h.mgp rfl, h.cru rfl⟩

@[simp] theorem State.openBand_units (r : OpRequest) (s : State) :
    (State.openBand r s).pending = s.pending ∧ (State.openBand r s).out = s.out ∧ (State.openBand r s).freeCnt = s.freeCnt ∧ (State.openBand r s).timers = s.timers ∧ (State.openBand r s).tbu = s.tbu ∧ (State.openBand r s).power = s.power ∧ (State.openBand r s).regf = s.regf ∧ (State.openBand r s).sheet = s.sheet ∧ (State.openBand r s).sheetOld = s.sheetOld ∧ (State.openBand r s).hlu = s.hlu ∧ (State.openBand r s).qen = s.qen ∧ (State.openBand r s).tnu = s.tnu ∧ (State.openBand r s).gal = s.gal ∧ (State.openBand r s).fca = s.fca ∧ (State.openBand r s).cdx = s.cdx ∧ (State.openBand r s).spe = s.spe ∧ (State.openBand r s).hum = s.hum ∧ (State.openBand r s).bpm = s.bpm ∧ (State.openBand r s).dmc = s.dmc ∧ (State.openBand r s).ccl = s.ccl ∧ (State.openBand r s).csu = s.csu ∧ (State.openBand r s).mgp = s.mgp ∧ (State.openBand r s).cru = s.cru :=
  have h := (State.openBand_touch _ _ (by simp) (Touch.refl 12288 _))
  ⟨h.pending, h.out rfl, h.freeCnt rfl, h.timers rfl, h.tbu rfl, h.power rfl, h.regf rfl, h.sheet rfl, h.sheetOld rfl, h.hlu rfl, h.qen rfl, h.tnu rfl, h.gal rfl, h.fca rfl, h.cdx rfl, h.spe rfl, h.hum rfl, h.bpm rfl, h.dmc rfl, h.ccl rfl, h.csu rfl, h.mgp rfl, h.cru rfl⟩

@[simp] theorem State.bandFilled_units (n : Nat) (s : State) :
    (State.bandFilled n s).pending = s.pending ∧ (State.bandFilled n s).out = s.out ∧ (State.bandFilled n s).freeCnt = s.freeCnt ∧ (State.bandFilled n s).timers = s.timers ∧ (State.bandFilled n s).tbu = s.tbu ∧ (State.bandFilled n s).power = s.power ∧ (State.bandFilled n s).regf = s.regf ∧ (State.bandFilled n s).sheet = s.sheet ∧ (State.bandFilled n s).sheetOld = s.sheetOld ∧ (State.bandFilled n s).hlu = s.hlu ∧ (State.bandFilled n s).qen = s.qen ∧ (State.bandFilled n s).tnu = s.tnu ∧ (State.bandFilled n s).gal = s.gal ∧ (State.bandFilled n s).fca = s.fca ∧ (State.bandFilled n s).cdx = s.cdx ∧ (State.bandFilled n s).spe = s.spe ∧ (State.bandFilled n s).hum = s.hum ∧ (State.bandFilled n s).bpm = s.bpm ∧ (State.bandFilled n s).dmc = s.dmc ∧ (State.bandFilled n s).ccl = s.ccl ∧ (State.bandFilled n s).csu = s.csu ∧ (State.bandFilled n s).mgp = s.mgp ∧ (State.bandFilled n s).cru = s.cru :=
  have h := (State.bandFilled_touch _ _ (by simp) (Touch.refl 12288 _))
  ⟨h.pending, h.out rfl, h.freeCnt rfl, h.timers rfl, h.tbu rfl, h.power rfl, h.regf rfl, h.sheet rfl, h.sheetOld rfl, h.hlu rfl, h.qen rfl, h.tnu rfl, h.gal rfl, h.fca rfl, h.cdx rfl, h.spe rfl, h.hum rfl, h.bpm rfl, h.dmc rfl, h.ccl rfl, h.csu rfl, h.mgp rfl, h.cru rfl⟩

@[simp] theorem State.sysTake_units (n : Nat) (s : State) :
    (State.sysTake n s).pending = s.pending ∧ (State.sysTake n s).out = s.out ∧ (State.sysTake n s).freeCnt = s.freeCnt ∧ (State.sysTake n s).timers = s.timers ∧ (State.sysTake n s).tbu = s.tbu ∧ (State.sysTake n s).power = s.power ∧ (State.sysTake n s).regf = s.regf ∧ (State.sysTake n s).sheet = s.sheet ∧ (State.sysTake n s).sheetOld = s.sheetOld ∧ (State.sysTake n s).hlu = s.hlu ∧ (State.sysTake n s).qen = s.qen ∧ (State.sysTake n s).tnu = s.tnu ∧ (State.sysTake n s).gal = s.gal ∧ (State.sysTake n s).fca = s.fca ∧ (State.sysTake n s).cdx = s.cdx ∧ (State.sysTake n s).spe = s.spe ∧ (State.sysTake n s).hum = s.hum ∧ (State.sysTake n s).bpm = s.bpm ∧ (State.sysTake n s).dmc = s.dmc ∧ (State.sysTake n s).ccl = s.ccl ∧ (State.sysTake n s).csu = s.csu ∧ (State.sysTake n s).mgp = s.mgp ∧ (State.sysTake n s).cru = s.cru :=
  have h := (State.sysTake_touch _ _ (by simp) (Touch.refl 12288 _))
  ⟨h.pending, h.out rfl, h.freeCnt rfl, h.timers rfl, h.tbu rfl, h.power rfl, h.regf rfl, h.sheet rfl, h.sheetOld rfl, h.hlu rfl, h.qen rfl, h.tnu rfl, h.gal rfl, h.fca rfl, h.cdx rfl, h.spe rfl, h.hum rfl, h.bpm rfl, h.dmc rfl, h.ccl rfl, h.csu rfl, h.mgp rfl, h.cru rfl⟩

@[simp] theorem State.sysPut_units (l : Loc) (b : Band) (psn : Nat) (cells : List SlotCell) (s : State) :
    (State.sysPut l b psn cells s).pending = s.pending ∧ (State.sysPut l b psn cells s).out = s.out ∧ (State.sysPut l b psn cells s).freeCnt = s.freeCnt ∧ (State.sysPut l b psn cells s).timers = s.timers ∧ (State.sysPut l b psn cells s).tbu = s.tbu ∧ (State.sysPut l b psn cells s).power = s.power ∧ (State.sysPut l b psn cells s).regf = s.regf ∧ (State.sysPut l b psn cells s).sheet = s.sheet ∧ (State.sysPut l b psn cells s).sheetOld = s.sheetOld ∧ (State.sysPut l b psn cells s).hlu = s.hlu ∧ (State.sysPut l b psn cells s).qen = s.qen ∧ (State.sysPut l b psn cells s).tnu = s.tnu ∧ (State.sysPut l b psn cells s).gal = s.gal ∧ (State.sysPut l b psn cells s).dsc = s.dsc ∧ (State.sysPut l b psn cells s).fca = s.fca ∧ (State.sysPut l b psn cells s).cdx = s.cdx ∧ (State.sysPut l b psn cells s).spe = s.spe ∧ (State.sysPut l b psn cells s).hum = s.hum ∧ (State.sysPut l b psn cells s).bpm = s.bpm ∧ (State.sysPut l b psn cells s).dmc = s.dmc ∧ (State.sysPut l b psn cells s).ccl = s.ccl ∧ (State.sysPut l b psn cells s).csu = s.csu ∧ (State.sysPut l b psn cells s).mgp = s.mgp ∧ (State.sysPut l b psn cells s).cru = s.cru :=
  have h := (State.sysPut_touch _ _ _ _ _ (by simp) (Touch.refl 4096 _))
  ⟨h.pending, h.out rfl, h.freeCnt rfl, h.timers rfl, h.tbu rfl, h.power rfl, h.regf rfl, h.sheet rfl, h.sheetOld rfl, h.hlu rfl, h.qen rfl, h.tnu rfl, h.gal rfl, h.dsc rfl, h.fca rfl, h.cdx rfl, h.spe rfl, h.hum rfl, h.bpm rfl, h.dmc rfl, h.ccl rfl, h.csu rfl, h.mgp rfl, h.cru rfl⟩

@[simp] theorem State.submitSummary_units (n : Nat) (b : Band) (r : OpRequest) (s : State) :
    (State.submitSummary n b r s).pending = s.pending ∧ (State.submitSummary n b r s).out = s.out ∧ (State.submitSummary n b r s).freeCnt = s.freeCnt ∧ (State.submitSummary n b r s).timers = s.timers ∧ (State.submitSummary n b r s).tbu = s.tbu ∧ (State.submitSummary n b r s).power = s.power ∧ (State.submitSummary n b r s).regf = s.regf ∧ (State.submitSummary n b r s).sheet = s.sheet ∧ (State.submitSummary n b r s).sheetOld = s.sheetOld ∧ (State.submitSummary n b r s).hlu = s.hlu ∧ (State.submitSummary n b r s).qen = s.qen ∧ (State.submitSummary n b r s).tnu = s.tnu ∧ (State.submitSummary n b r s).gal = s.gal ∧ (State.submitSummary n b r s).mxe = s.mxe ∧ (State.submitSummary n b r s).fca = s.fca ∧ (State.submitSummary n b r s).cdx = s.cdx ∧ (State.submitSummary n b r s).spe = s.spe ∧ (State.submitSummary n b r s).hum = s.hum ∧ (State.submitSummary n b r s).bpm = s.bpm ∧ (State.submitSummary n b r s).dmc = s.dmc ∧ (State.submitSummary n b r s).ccl = s.ccl ∧ (State.submitSummary n b r s).csu = s.csu ∧ (State.submitSummary n b r s).mgp = s.mgp ∧ (State.submitSummary n b r s).cru = s.cru :=
  have h := (State.submitSummary_touch _ _ _ _ (by simp) (Touch.refl 8192 _))
  ⟨h.pending, h.out rfl, h.freeCnt rfl, h.timers rfl, h.tbu rfl, h.power rfl, h.regf rfl, h.sheet rfl, h.sheetOld rfl, h.hlu rfl, h.qen rfl, h.tnu rfl, h.gal rfl, h.mxe rfl, h.fca rfl, h.cdx rfl, h.spe rfl, h.hum rfl, h.bpm rfl, h.dmc rfl, h.ccl rfl, h.csu rfl, h.mgp rfl, h.cru rfl⟩

@[simp] theorem State.submitProgram_units (r : OpRequest) (s : State) :
    (State.submitProgram r s).pending = s.pending ∧ (State.submitProgram r s).out = s.out ∧ (State.submitProgram r s).freeCnt = s.freeCnt ∧ (State.submitProgram r s).timers = s.timers ∧ (State.submitProgram r s).tbu = s.tbu ∧ (State.submitProgram r s).power = s.power ∧ (State.submitProgram r s).regf = s.regf ∧ (State.submitProgram r s).sheet = s.sheet ∧ (State.submitProgram r s).sheetOld = s.sheetOld ∧ (State.submitProgram r s).hlu = s.hlu ∧ (State.submitProgram r s).qen = s.qen ∧ (State.submitProgram r s).tnu = s.tnu ∧ (State.submitProgram r s).gal = s.gal ∧ (State.submitProgram r s).fca = s.fca ∧ (State.submitProgram r s).cdx = s.cdx ∧ (State.submitProgram r s).spe = s.spe ∧ (State.submitProgram r s).hum = s.hum ∧ (State.submitProgram r s).bpm = s.bpm ∧ (State.submitProgram r s).dmc = s.dmc ∧ (State.submitProgram r s).ccl = s.ccl ∧ (State.submitProgram r s).csu = s.csu ∧ (State.submitProgram r s).mgp = s.mgp ∧ (State.submitProgram r s).cru = s.cru :=
  have h := (State.submitProgram_touch _ _ (by simp) (Touch.refl 12288 _))
  ⟨h.pending, h.out rfl, h.freeCnt rfl, h.timers rfl, h.tbu rfl, h.power rfl, h.regf rfl, h.sheet rfl, h.sheetOld rfl, h.hlu rfl, h.qen rfl, h.tnu rfl, h.gal rfl, h.fca rfl, h.cdx rfl, h.spe rfl, h.hum rfl, h.bpm rfl, h.dmc rfl, h.ccl rfl, h.csu rfl, h.mgp rfl, h.cru rfl⟩

@[simp] theorem State.submitErase_units (r : OpRequest) (s : State) :
    (State.submitErase r s).pending = s.pending ∧ (State.submitErase r s).out = s.out ∧ (State.submitErase r s).freeCnt = s.freeCnt ∧ (State.submitErase r s).timers = s.timers ∧ (State.submitErase r s).tbu = s.tbu ∧ (State.submitErase r s).power = s.power ∧ (State.submitErase r s).regf = s.regf ∧ (State.submitErase r s).sheet = s.sheet ∧ (State.submitErase r s).sheetOld = s.sheetOld ∧ (State.submitErase r s).hlu = s.hlu ∧ (State.submitErase r s).qen = s.qen ∧ (State.submitErase r s).tnu = s.tnu ∧ (State.submitErase r s).gal = s.gal ∧ (State.submitErase r s).fca = s.fca ∧ (State.submitErase r s).cdx = s.cdx ∧ (State.submitErase r s).spe = s.spe ∧ (State.submitErase r s).hum = s.hum ∧ (State.submitErase r s).bpm = s.bpm ∧ (State.submitErase r s).dmc = s.dmc ∧ (State.submitErase r s).ccl = s.ccl ∧ (State.submitErase r s).csu = s.csu ∧ (State.submitErase r s).mgp = s.mgp ∧ (State.submitErase r s).cru = s.cru :=
  have h := (State.submitErase_touch _ _ (by simp) (Touch.refl 12288 _))
  ⟨h.pending, h.out rfl, h.freeCnt rfl, h.timers rfl, h.tbu rfl, h.power rfl, h.regf rfl, h.sheet rfl, h.sheetOld rfl, h.hlu rfl, h.qen rfl, h.tnu rfl, h.gal rfl, h.fca rfl, h.cdx rfl, h.spe rfl, h.hum rfl, h.bpm rfl, h.dmc rfl, h.ccl rfl, h.csu rfl, h.mgp rfl, h.cru rfl⟩

@[simp] theorem State.dropStaleJobs_units (die : Nat) (pages : List (Nat × Nat)) (s : State) :
    (State.dropStaleJobs die pages s).pending = s.pending ∧ (State.dropStaleJobs die pages s).out = s.out ∧ (State.dropStaleJobs die pages s).freeCnt = s.freeCnt ∧ (State.dropStaleJobs die pages s).timers = s.timers ∧ (State.dropStaleJobs die pages s).tbu = s.tbu ∧ (State.dropStaleJobs die pages s).power = s.power ∧ (State.dropStaleJobs die pages s).regf = s.regf ∧ (State.dropStaleJobs die pages s).sheet = s.sheet ∧ (State.dropStaleJobs die pages s).sheetOld = s.sheetOld ∧ (State.dropStaleJobs die pages s).hlu = s.hlu ∧ (State.dropStaleJobs die pages s).qen = s.qen ∧ (State.dropStaleJobs die pages s).tnu = s.tnu ∧ (State.dropStaleJobs die pages s).gal = s.gal ∧ (State.dropStaleJobs die pages s).dsc = s.dsc ∧ (State.dropStaleJobs die pages s).fca = s.fca ∧ (State.dropStaleJobs die pages s).cdx = s.cdx ∧ (State.dropStaleJobs die pages s).spe = s.spe ∧ (State.dropStaleJobs die pages s).hum = s.hum ∧ (State.dropStaleJobs die pages s).bpm = s.bpm ∧ (State.dropStaleJobs die pages s).dmc = s.dmc ∧ (State.dropStaleJobs die pages s).ccl = s.ccl ∧ (State.dropStaleJobs die pages s).csu = s.csu ∧ (State.dropStaleJobs die pages s).mgp = s.mgp ∧ (State.dropStaleJobs die pages s).cru = s.cru :=
  have h := (State.dropStaleJobs_touch _ _ _ (by simp) (Touch.refl 4096 _))
  ⟨h.pending, h.out rfl, h.freeCnt rfl, h.timers rfl, h.tbu rfl, h.power rfl, h.regf rfl, h.sheet rfl, h.sheetOld rfl, h.hlu rfl, h.qen rfl, h.tnu rfl, h.gal rfl, h.dsc rfl, h.fca rfl, h.cdx rfl, h.spe rfl, h.hum rfl, h.bpm rfl, h.dmc rfl, h.ccl rfl, h.csu rfl, h.mgp rfl, h.cru rfl⟩

@[simp] theorem State.scrubPaced_units (n : Nat) (s : State) :
    (State.scrubPaced n s).pending = s.pending ∧ (State.scrubPaced n s).out = s.out ∧ (State.scrubPaced n s).freeCnt = s.freeCnt ∧ (State.scrubPaced n s).timers = s.timers ∧ (State.scrubPaced n s).tbu = s.tbu ∧ (State.scrubPaced n s).power = s.power ∧ (State.scrubPaced n s).regf = s.regf ∧ (State.scrubPaced n s).sheet = s.sheet ∧ (State.scrubPaced n s).sheetOld = s.sheetOld ∧ (State.scrubPaced n s).hlu = s.hlu ∧ (State.scrubPaced n s).qen = s.qen ∧ (State.scrubPaced n s).tnu = s.tnu ∧ (State.scrubPaced n s).gal = s.gal ∧ (State.scrubPaced n s).mxe = s.mxe ∧ (State.scrubPaced n s).dsc = s.dsc ∧ (State.scrubPaced n s).fca = s.fca ∧ (State.scrubPaced n s).spe = s.spe ∧ (State.scrubPaced n s).hum = s.hum ∧ (State.scrubPaced n s).bpm = s.bpm ∧ (State.scrubPaced n s).dmc = s.dmc ∧ (State.scrubPaced n s).ccl = s.ccl ∧ (State.scrubPaced n s).csu = s.csu ∧ (State.scrubPaced n s).mgp = s.mgp ∧ (State.scrubPaced n s).cru = s.cru :=
  have h := (State.scrubPaced_touch _ _ (by simp) (Touch.refl 32768 _))
  ⟨h.pending, h.out rfl, h.freeCnt rfl, h.timers rfl, h.tbu rfl, h.power rfl, h.regf rfl, h.sheet rfl, h.sheetOld rfl, h.hlu rfl, h.qen rfl, h.tnu rfl, h.gal rfl, h.mxe rfl, h.dsc rfl, h.fca rfl, h.spe rfl, h.hum rfl, h.bpm rfl, h.dmc rfl, h.ccl rfl, h.csu rfl, h.mgp rfl, h.cru rfl⟩

@[simp] theorem State.rebuildPaced_units (n : Nat) (s : State) :
    (State.rebuildPaced n s).pending = s.pending ∧ (State.rebuildPaced n s).out = s.out ∧ (State.rebuildPaced n s).freeCnt = s.freeCnt ∧ (State.rebuildPaced n s).timers = s.timers ∧ (State.rebuildPaced n s).tbu = s.tbu ∧ (State.rebuildPaced n s).power = s.power ∧ (State.rebuildPaced n s).regf = s.regf ∧ (State.rebuildPaced n s).sheet = s.sheet ∧ (State.rebuildPaced n s).sheetOld = s.sheetOld ∧ (State.rebuildPaced n s).hlu = s.hlu ∧ (State.rebuildPaced n s).qen = s.qen ∧ (State.rebuildPaced n s).tnu = s.tnu ∧ (State.rebuildPaced n s).gal = s.gal ∧ (State.rebuildPaced n s).mxe = s.mxe ∧ (State.rebuildPaced n s).dsc = s.dsc ∧ (State.rebuildPaced n s).fca = s.fca ∧ (State.rebuildPaced n s).cdx = s.cdx ∧ (State.rebuildPaced n s).hum = s.hum ∧ (State.rebuildPaced n s).bpm = s.bpm ∧ (State.rebuildPaced n s).dmc = s.dmc ∧ (State.rebuildPaced n s).ccl = s.ccl ∧ (State.rebuildPaced n s).csu = s.csu ∧ (State.rebuildPaced n s).mgp = s.mgp ∧ (State.rebuildPaced n s).cru = s.cru :=
  have h := (State.rebuildPaced_touch _ _ (by simp) (Touch.refl 65536 _))
  ⟨h.pending, h.out rfl, h.freeCnt rfl, h.timers rfl, h.tbu rfl, h.power rfl, h.regf rfl, h.sheet rfl, h.sheetOld rfl, h.hlu rfl, h.qen rfl, h.tnu rfl, h.gal rfl, h.mxe rfl, h.dsc rfl, h.fca rfl, h.cdx rfl, h.hum rfl, h.bpm rfl, h.dmc rfl, h.ccl rfl, h.csu rfl, h.mgp rfl, h.cru rfl⟩

@[simp] theorem State.submitRead_units (r : OpRequest) (s : State) :
    (State.submitRead r s).pending = s.pending ∧ (State.submitRead r s).out = s.out ∧ (State.submitRead r s).freeCnt = s.freeCnt ∧ (State.submitRead r s).timers = s.timers ∧ (State.submitRead r s).tbu = s.tbu ∧ (State.submitRead r s).power = s.power ∧ (State.submitRead r s).regf = s.regf ∧ (State.submitRead r s).sheet = s.sheet ∧ (State.submitRead r s).sheetOld = s.sheetOld ∧ (State.submitRead r s).hlu = s.hlu ∧ (State.submitRead r s).qen = s.qen ∧ (State.submitRead r s).tnu = s.tnu ∧ (State.submitRead r s).gal = s.gal ∧ (State.submitRead r s).fca = s.fca ∧ (State.submitRead r s).hum = s.hum ∧ (State.submitRead r s).bpm = s.bpm ∧ (State.submitRead r s).dmc = s.dmc ∧ (State.submitRead r s).ccl = s.ccl ∧ (State.submitRead r s).csu = s.csu ∧ (State.submitRead r s).mgp = s.mgp ∧ (State.submitRead r s).cru = s.cru :=
  have h := (State.submitRead_touch _ _ (by simp) (Touch.refl 110592 _))
  ⟨h.pending, h.out rfl, h.freeCnt rfl, h.timers rfl, h.tbu rfl, h.power rfl, h.regf rfl, h.sheet rfl, h.sheetOld rfl, h.hlu rfl, h.qen rfl, h.tnu rfl, h.gal rfl, h.fca rfl, h.hum rfl, h.bpm rfl, h.dmc rfl, h.ccl rfl, h.csu rfl, h.mgp rfl, h.cru rfl⟩

@[simp] theorem State.setOffsets_units (d : Nat) (o : DieOp) (s : State) :
    (State.setOffsets d o s).pending = s.pending ∧ (State.setOffsets d o s).freeCnt = s.freeCnt ∧ (State.setOffsets d o s).timers = s.timers ∧ (State.setOffsets d o s).tbu = s.tbu ∧ (State.setOffsets d o s).power = s.power ∧ (State.setOffsets d o s).regf = s.regf ∧ (State.setOffsets d o s).sheet = s.sheet ∧ (State.setOffsets d o s).sheetOld = s.sheetOld ∧ (State.setOffsets d o s).hlu = s.hlu ∧ (State.setOffsets d o s).qen = s.qen ∧ (State.setOffsets d o s).tnu = s.tnu ∧ (State.setOffsets d o s).gal = s.gal ∧ (State.setOffsets d o s).mxe = s.mxe ∧ (State.setOffsets d o s).dsc = s.dsc ∧ (State.setOffsets d o s).spe = s.spe ∧ (State.setOffsets d o s).hum = s.hum ∧ (State.setOffsets d o s).bpm = s.bpm ∧ (State.setOffsets d o s).dmc = s.dmc ∧ (State.setOffsets d o s).ccl = s.ccl ∧ (State.setOffsets d o s).csu = s.csu ∧ (State.setOffsets d o s).mgp = s.mgp ∧ (State.setOffsets d o s).cru = s.cru :=
  have h := (State.setOffsets_touch _ _ _ (by simp) (Touch.refl 49153 _))
  ⟨h.pending, h.freeCnt rfl, h.timers rfl, h.tbu rfl, h.power rfl, h.regf rfl, h.sheet rfl, h.sheetOld rfl, h.hlu rfl, h.qen rfl, h.tnu rfl, h.gal rfl, h.mxe rfl, h.dsc rfl, h.spe rfl, h.hum rfl, h.bpm rfl, h.dmc rfl, h.ccl rfl, h.csu rfl, h.mgp rfl, h.cru rfl⟩

@[simp] theorem State.takeBytes_units (n : Nat) (s : State) :
    (State.takeBytes n s).pending = s.pending ∧ (State.takeBytes n s).out = s.out ∧ (State.takeBytes n s).freeCnt = s.freeCnt ∧ (State.takeBytes n s).timers = s.timers ∧ (State.takeBytes n s).tbu = s.tbu ∧ (State.takeBytes n s).power = s.power ∧ (State.takeBytes n s).regf = s.regf ∧ (State.takeBytes n s).sheet = s.sheet ∧ (State.takeBytes n s).sheetOld = s.sheetOld ∧ (State.takeBytes n s).hlu = s.hlu ∧ (State.takeBytes n s).qen = s.qen ∧ (State.takeBytes n s).tnu = s.tnu ∧ (State.takeBytes n s).gal = s.gal ∧ (State.takeBytes n s).mxe = s.mxe ∧ (State.takeBytes n s).fca = s.fca ∧ (State.takeBytes n s).cdx = s.cdx ∧ (State.takeBytes n s).spe = s.spe ∧ (State.takeBytes n s).hum = s.hum ∧ (State.takeBytes n s).bpm = s.bpm ∧ (State.takeBytes n s).dmc = s.dmc ∧ (State.takeBytes n s).ccl = s.ccl ∧ (State.takeBytes n s).csu = s.csu ∧ (State.takeBytes n s).mgp = s.mgp ∧ (State.takeBytes n s).cru = s.cru :=
  have h := (State.takeBytes_touch _ _ (by simp) (Touch.refl 8192 _))
  ⟨h.pending, h.out rfl, h.freeCnt rfl, h.timers rfl, h.tbu rfl, h.power rfl, h.regf rfl, h.sheet rfl, h.sheetOld rfl, h.hlu rfl, h.qen rfl, h.tnu rfl, h.gal rfl, h.mxe rfl, h.fca rfl, h.cdx rfl, h.spe rfl, h.hum rfl, h.bpm rfl, h.dmc rfl, h.ccl rfl, h.csu rfl, h.mgp rfl, h.cru rfl⟩

@[simp] theorem State.lostFillSlot_units (x : PlaceSlot) (s : State) :
    (State.lostFillSlot x s).pending = s.pending ∧ (State.lostFillSlot x s).out = s.out ∧ (State.lostFillSlot x s).freeCnt = s.freeCnt ∧ (State.lostFillSlot x s).timers = s.timers ∧ (State.lostFillSlot x s).tbu = s.tbu ∧ (State.lostFillSlot x s).power = s.power ∧ (State.lostFillSlot x s).sheet = s.sheet ∧ (State.lostFillSlot x s).sheetOld = s.sheetOld ∧ (State.lostFillSlot x s).hlu = s.hlu ∧ (State.lostFillSlot x s).tnu = s.tnu ∧ (State.lostFillSlot x s).gal = s.gal ∧ (State.lostFillSlot x s).mxe = s.mxe ∧ (State.lostFillSlot x s).dsc = s.dsc ∧ (State.lostFillSlot x s).fca = s.fca ∧ (State.lostFillSlot x s).cdx = s.cdx ∧ (State.lostFillSlot x s).hum = s.hum ∧ (State.lostFillSlot x s).bpm = s.bpm ∧ (State.lostFillSlot x s).dmc = s.dmc ∧ (State.lostFillSlot x s).ccl = s.ccl ∧ (State.lostFillSlot x s).csu = s.csu ∧ (State.lostFillSlot x s).mgp = s.mgp :=
  have h := (State.lostFillSlot_touch _ _ (by simp) (Touch.refl 8454688 _))
  ⟨h.pending, h.out rfl, h.freeCnt rfl, h.timers rfl, h.tbu rfl, h.power rfl, h.sheet rfl, h.sheetOld rfl, h.hlu rfl, h.tnu rfl, h.gal rfl, h.mxe rfl, h.dsc rfl, h.fca rfl, h.cdx rfl, h.hum rfl, h.bpm rfl, h.dmc rfl, h.ccl rfl, h.csu rfl, h.mgp rfl⟩

@[simp] theorem State.mergeFill_units (x : PlaceSlot) (s : State) :
    (State.mergeFill x s).pending = s.pending ∧ (State.mergeFill x s).out = s.out ∧ (State.mergeFill x s).freeCnt = s.freeCnt ∧ (State.mergeFill x s).timers = s.timers ∧ (State.mergeFill x s).tbu = s.tbu ∧ (State.mergeFill x s).power = s.power ∧ (State.mergeFill x s).sheet = s.sheet ∧ (State.mergeFill x s).sheetOld = s.sheetOld ∧ (State.mergeFill x s).hlu = s.hlu ∧ (State.mergeFill x s).qen = s.qen ∧ (State.mergeFill x s).tnu = s.tnu ∧ (State.mergeFill x s).gal = s.gal ∧ (State.mergeFill x s).mxe = s.mxe ∧ (State.mergeFill x s).dsc = s.dsc ∧ (State.mergeFill x s).fca = s.fca ∧ (State.mergeFill x s).cdx = s.cdx ∧ (State.mergeFill x s).hum = s.hum ∧ (State.mergeFill x s).bpm = s.bpm ∧ (State.mergeFill x s).dmc = s.dmc ∧ (State.mergeFill x s).ccl = s.ccl ∧ (State.mergeFill x s).csu = s.csu ∧ (State.mergeFill x s).mgp = s.mgp :=
  have h := (State.mergeFill_touch _ _ (by simp) (Touch.refl 8454176 _))
  ⟨h.pending, h.out rfl, h.freeCnt rfl, h.timers rfl, h.tbu rfl, h.power rfl, h.sheet rfl, h.sheetOld rfl, h.hlu rfl, h.qen rfl, h.tnu rfl, h.gal rfl, h.mxe rfl, h.dsc rfl, h.fca rfl, h.cdx rfl, h.hum rfl, h.bpm rfl, h.dmc rfl, h.ccl rfl, h.csu rfl, h.mgp rfl⟩

@[simp] theorem State.encodeEvents_units (xs : List PlaceSlot) (s : State) :
    (State.encodeEvents xs s).pending = s.pending ∧ (State.encodeEvents xs s).out = s.out ∧ (State.encodeEvents xs s).freeCnt = s.freeCnt ∧ (State.encodeEvents xs s).timers = s.timers ∧ (State.encodeEvents xs s).tbu = s.tbu ∧ (State.encodeEvents xs s).power = s.power ∧ (State.encodeEvents xs s).sheet = s.sheet ∧ (State.encodeEvents xs s).sheetOld = s.sheetOld ∧ (State.encodeEvents xs s).hlu = s.hlu ∧ (State.encodeEvents xs s).tnu = s.tnu ∧ (State.encodeEvents xs s).gal = s.gal ∧ (State.encodeEvents xs s).mxe = s.mxe ∧ (State.encodeEvents xs s).dsc = s.dsc ∧ (State.encodeEvents xs s).fca = s.fca ∧ (State.encodeEvents xs s).cdx = s.cdx ∧ (State.encodeEvents xs s).hum = s.hum ∧ (State.encodeEvents xs s).bpm = s.bpm ∧ (State.encodeEvents xs s).dmc = s.dmc ∧ (State.encodeEvents xs s).ccl = s.ccl ∧ (State.encodeEvents xs s).csu = s.csu ∧ (State.encodeEvents xs s).mgp = s.mgp :=
  have h := (State.encodeEvents_touch _ _ (by simp) (Touch.refl 8454688 _))
  ⟨h.pending, h.out rfl, h.freeCnt rfl, h.timers rfl, h.tbu rfl, h.power rfl, h.sheet rfl, h.sheetOld rfl, h.hlu rfl, h.tnu rfl, h.gal rfl, h.mxe rfl, h.dsc rfl, h.fca rfl, h.cdx rfl, h.hum rfl, h.bpm rfl, h.dmc rfl, h.ccl rfl, h.csu rfl, h.mgp rfl⟩

@[simp] theorem State.dropCopies_units (bad : List PlaceSlot) (s : State) :
    (State.dropCopies bad s).pending = s.pending ∧ (State.dropCopies bad s).out = s.out ∧ (State.dropCopies bad s).freeCnt = s.freeCnt ∧ (State.dropCopies bad s).timers = s.timers ∧ (State.dropCopies bad s).tbu = s.tbu ∧ (State.dropCopies bad s).power = s.power ∧ (State.dropCopies bad s).regf = s.regf ∧ (State.dropCopies bad s).sheet = s.sheet ∧ (State.dropCopies bad s).sheetOld = s.sheetOld ∧ (State.dropCopies bad s).hlu = s.hlu ∧ (State.dropCopies bad s).qen = s.qen ∧ (State.dropCopies bad s).tnu = s.tnu ∧ (State.dropCopies bad s).gal = s.gal ∧ (State.dropCopies bad s).dsc = s.dsc ∧ (State.dropCopies bad s).fca = s.fca ∧ (State.dropCopies bad s).cdx = s.cdx ∧ (State.dropCopies bad s).spe = s.spe ∧ (State.dropCopies bad s).hum = s.hum ∧ (State.dropCopies bad s).bpm = s.bpm ∧ (State.dropCopies bad s).dmc = s.dmc ∧ (State.dropCopies bad s).ccl = s.ccl ∧ (State.dropCopies bad s).csu = s.csu ∧ (State.dropCopies bad s).mgp = s.mgp ∧ (State.dropCopies bad s).cru = s.cru :=
  have h := (State.dropCopies_touch _ _ (by simp) (Touch.refl 4096 _))
  ⟨h.pending, h.out rfl, h.freeCnt rfl, h.timers rfl, h.tbu rfl, h.power rfl, h.regf rfl, h.sheet rfl, h.sheetOld rfl, h.hlu rfl, h.qen rfl, h.tnu rfl, h.gal rfl, h.dsc rfl, h.fca rfl, h.cdx rfl, h.spe rfl, h.hum rfl, h.bpm rfl, h.dmc rfl, h.ccl rfl, h.csu rfl, h.mgp rfl, h.cru rfl⟩

@[simp] theorem State.slotsSubmitted_units (xs : List PlaceSlot) (s : State) :
    (State.slotsSubmitted xs s).pending = s.pending ∧ (State.slotsSubmitted xs s).out = s.out ∧ (State.slotsSubmitted xs s).freeCnt = s.freeCnt ∧ (State.slotsSubmitted xs s).timers = s.timers ∧ (State.slotsSubmitted xs s).tbu = s.tbu ∧ (State.slotsSubmitted xs s).power = s.power ∧ (State.slotsSubmitted xs s).regf = s.regf ∧ (State.slotsSubmitted xs s).sheet = s.sheet ∧ (State.slotsSubmitted xs s).sheetOld = s.sheetOld ∧ (State.slotsSubmitted xs s).hlu = s.hlu ∧ (State.slotsSubmitted xs s).tnu = s.tnu ∧ (State.slotsSubmitted xs s).gal = s.gal ∧ (State.slotsSubmitted xs s).mxe = s.mxe ∧ (State.slotsSubmitted xs s).dsc = s.dsc ∧ (State.slotsSubmitted xs s).fca = s.fca ∧ (State.slotsSubmitted xs s).cdx = s.cdx ∧ (State.slotsSubmitted xs s).spe = s.spe ∧ (State.slotsSubmitted xs s).hum = s.hum ∧ (State.slotsSubmitted xs s).bpm = s.bpm ∧ (State.slotsSubmitted xs s).dmc = s.dmc ∧ (State.slotsSubmitted xs s).ccl = s.ccl ∧ (State.slotsSubmitted xs s).csu = s.csu ∧ (State.slotsSubmitted xs s).mgp = s.mgp ∧ (State.slotsSubmitted xs s).cru = s.cru :=
  have h := (State.slotsSubmitted_touch _ _ (by simp) (Touch.refl 512 _))
  ⟨h.pending, h.out rfl, h.freeCnt rfl, h.timers rfl, h.tbu rfl, h.power rfl, h.regf rfl, h.sheet rfl, h.sheetOld rfl, h.hlu rfl, h.tnu rfl, h.gal rfl, h.mxe rfl, h.dsc rfl, h.fca rfl, h.cdx rfl, h.spe rfl, h.hum rfl, h.bpm rfl, h.dmc rfl, h.ccl rfl, h.csu rfl, h.mgp rfl, h.cru rfl⟩

@[simp] theorem State.startProgram_units (i : Nat) (o : DieOp) (s : State) :
    (State.startProgram i o s).pending = s.pending ∧ (State.startProgram i o s).out = s.out ∧ (State.startProgram i o s).freeCnt = s.freeCnt ∧ (State.startProgram i o s).timers = s.timers ∧ (State.startProgram i o s).tbu = s.tbu ∧ (State.startProgram i o s).power = s.power ∧ (State.startProgram i o s).sheet = s.sheet ∧ (State.startProgram i o s).sheetOld = s.sheetOld ∧ (State.startProgram i o s).hlu = s.hlu ∧ (State.startProgram i o s).tnu = s.tnu ∧ (State.startProgram i o s).gal = s.gal ∧ (State.startProgram i o s).fca = s.fca ∧ (State.startProgram i o s).cdx = s.cdx ∧ (State.startProgram i o s).hum = s.hum ∧ (State.startProgram i o s).bpm = s.bpm ∧ (State.startProgram i o s).dmc = s.dmc ∧ (State.startProgram i o s).ccl = s.ccl ∧ (State.startProgram i o s).csu = s.csu ∧ (State.startProgram i o s).mgp = s.mgp :=
  have h := (State.startProgram_touch _ _ _ (by simp) (Touch.refl 8466976 _))
  ⟨h.pending, h.out rfl, h.freeCnt rfl, h.timers rfl, h.tbu rfl, h.power rfl, h.sheet rfl, h.sheetOld rfl, h.hlu rfl, h.tnu rfl, h.gal rfl, h.fca rfl, h.cdx rfl, h.hum rfl, h.bpm rfl, h.dmc rfl, h.ccl rfl, h.csu rfl, h.mgp rfl⟩

@[simp] theorem State.startOp_units (d i : Nat) (o : DieOp) (s : State) :
    (State.startOp d i o s).pending = s.pending ∧ (State.startOp d i o s).freeCnt = s.freeCnt ∧ (State.startOp d i o s).timers = s.timers ∧ (State.startOp d i o s).tbu = s.tbu ∧ (State.startOp d i o s).power = s.power ∧ (State.startOp d i o s).sheet = s.sheet ∧ (State.startOp d i o s).sheetOld = s.sheetOld ∧ (State.startOp d i o s).hlu = s.hlu ∧ (State.startOp d i o s).tnu = s.tnu ∧ (State.startOp d i o s).gal = s.gal ∧ (State.startOp d i o s).hum = s.hum ∧ (State.startOp d i o s).bpm = s.bpm ∧ (State.startOp d i o s).dmc = s.dmc ∧ (State.startOp d i o s).ccl = s.ccl ∧ (State.startOp d i o s).csu = s.csu ∧ (State.startOp d i o s).mgp = s.mgp :=
  have h := (State.startOp_touch _ _ _ _ (by simp) (Touch.refl 8516129 _))
  ⟨h.pending, h.freeCnt rfl, h.timers rfl, h.tbu rfl, h.power rfl, h.sheet rfl, h.sheetOld rfl, h.hlu rfl, h.tnu rfl, h.gal rfl, h.hum rfl, h.bpm rfl, h.dmc rfl, h.ccl rfl, h.csu rfl, h.mgp rfl⟩

@[simp] theorem State.normalStart_units (d : Nat) (s : State) :
    (State.normalStart d s).pending = s.pending ∧ (State.normalStart d s).freeCnt = s.freeCnt ∧ (State.normalStart d s).timers = s.timers ∧ (State.normalStart d s).tbu = s.tbu ∧ (State.normalStart d s).power = s.power ∧ (State.normalStart d s).sheet = s.sheet ∧ (State.normalStart d s).sheetOld = s.sheetOld ∧ (State.normalStart d s).hlu = s.hlu ∧ (State.normalStart d s).tnu = s.tnu ∧ (State.normalStart d s).gal = s.gal ∧ (State.normalStart d s).hum = s.hum ∧ (State.normalStart d s).bpm = s.bpm ∧ (State.normalStart d s).dmc = s.dmc ∧ (State.normalStart d s).ccl = s.ccl ∧ (State.normalStart d s).csu = s.csu ∧ (State.normalStart d s).mgp = s.mgp :=
  have h := (State.normalStart_touch _ _ (by simp) (Touch.refl 8516129 _))
  ⟨h.pending, h.freeCnt rfl, h.timers rfl, h.tbu rfl, h.power rfl, h.sheet rfl, h.sheetOld rfl, h.hlu rfl, h.tnu rfl, h.gal rfl, h.hum rfl, h.bpm rfl, h.dmc rfl, h.ccl rfl, h.csu rfl, h.mgp rfl⟩

@[simp] theorem State.hostGranule_units (i : Nat) (x : PlaceSlot) (f : InFlight) (l : Loc) (mode : Nat) (s : State) :
    (State.hostGranule i x f l mode s).pending = s.pending ∧ (State.hostGranule i x f l mode s).out = s.out ∧ (State.hostGranule i x f l mode s).freeCnt = s.freeCnt ∧ (State.hostGranule i x f l mode s).timers = s.timers ∧ (State.hostGranule i x f l mode s).tbu = s.tbu ∧ (State.hostGranule i x f l mode s).power = s.power ∧ (State.hostGranule i x f l mode s).regf = s.regf ∧ (State.hostGranule i x f l mode s).sheet = s.sheet ∧ (State.hostGranule i x f l mode s).sheetOld = s.sheetOld ∧ (State.hostGranule i x f l mode s).hlu = s.hlu ∧ (State.hostGranule i x f l mode s).tnu = s.tnu ∧ (State.hostGranule i x f l mode s).gal = s.gal ∧ (State.hostGranule i x f l mode s).dsc = s.dsc ∧ (State.hostGranule i x f l mode s).fca = s.fca ∧ (State.hostGranule i x f l mode s).cdx = s.cdx ∧ (State.hostGranule i x f l mode s).spe = s.spe ∧ (State.hostGranule i x f l mode s).hum = s.hum ∧ (State.hostGranule i x f l mode s).bpm = s.bpm ∧ (State.hostGranule i x f l mode s).dmc = s.dmc ∧ (State.hostGranule i x f l mode s).ccl = s.ccl ∧ (State.hostGranule i x f l mode s).csu = s.csu ∧ (State.hostGranule i x f l mode s).mgp = s.mgp ∧ (State.hostGranule i x f l mode s).cru = s.cru :=
  have h := (State.hostGranule_touch _ _ _ _ _ _ (by simp) (Touch.refl 4608 _))
  ⟨h.pending, h.out rfl, h.freeCnt rfl, h.timers rfl, h.tbu rfl, h.power rfl, h.regf rfl, h.sheet rfl, h.sheetOld rfl, h.hlu rfl, h.tnu rfl, h.gal rfl, h.dsc rfl, h.fca rfl, h.cdx rfl, h.spe rfl, h.hum rfl, h.bpm rfl, h.dmc rfl, h.ccl rfl, h.csu rfl, h.mgp rfl, h.cru rfl⟩

@[simp] theorem State.slotGood_units (i : Nat) (mode : Nat) (x : PlaceSlot) (l : Loc) (s : State) :
    (State.slotGood i mode x l s).pending = s.pending ∧ (State.slotGood i mode x l s).out = s.out ∧ (State.slotGood i mode x l s).freeCnt = s.freeCnt ∧ (State.slotGood i mode x l s).timers = s.timers ∧ (State.slotGood i mode x l s).tbu = s.tbu ∧ (State.slotGood i mode x l s).power = s.power ∧ (State.slotGood i mode x l s).regf = s.regf ∧ (State.slotGood i mode x l s).sheet = s.sheet ∧ (State.slotGood i mode x l s).sheetOld = s.sheetOld ∧ (State.slotGood i mode x l s).hlu = s.hlu ∧ (State.slotGood i mode x l s).tnu = s.tnu ∧ (State.slotGood i mode x l s).gal = s.gal ∧ (State.slotGood i mode x l s).dsc = s.dsc ∧ (State.slotGood i mode x l s).fca = s.fca ∧ (State.slotGood i mode x l s).cdx = s.cdx ∧ (State.slotGood i mode x l s).spe = s.spe ∧ (State.slotGood i mode x l s).hum = s.hum ∧ (State.slotGood i mode x l s).bpm = s.bpm ∧ (State.slotGood i mode x l s).dmc = s.dmc ∧ (State.slotGood i mode x l s).ccl = s.ccl ∧ (State.slotGood i mode x l s).csu = s.csu ∧ (State.slotGood i mode x l s).mgp = s.mgp ∧ (State.slotGood i mode x l s).cru = s.cru :=
  have h := (State.slotGood_touch _ _ _ _ _ (by simp) (Touch.refl 4608 _))
  ⟨h.pending, h.out rfl, h.freeCnt rfl, h.timers rfl, h.tbu rfl, h.power rfl, h.regf rfl, h.sheet rfl, h.sheetOld rfl, h.hlu rfl, h.tnu rfl, h.gal rfl, h.dsc rfl, h.fca rfl, h.cdx rfl, h.spe rfl, h.hum rfl, h.bpm rfl, h.dmc rfl, h.ccl rfl, h.csu rfl, h.mgp rfl, h.cru rfl⟩

@[simp] theorem State.programGood_units (d i : Nat) (o : DieOp) (s : State) :
    (State.programGood d i o s).pending = s.pending ∧ (State.programGood d i o s).out = s.out ∧ (State.programGood d i o s).freeCnt = s.freeCnt ∧ (State.programGood d i o s).timers = s.timers ∧ (State.programGood d i o s).tbu = s.tbu ∧ (State.programGood d i o s).power = s.power ∧ (State.programGood d i o s).regf = s.regf ∧ (State.programGood d i o s).sheet = s.sheet ∧ (State.programGood d i o s).sheetOld = s.sheetOld ∧ (State.programGood d i o s).hlu = s.hlu ∧ (State.programGood d i o s).tnu = s.tnu ∧ (State.programGood d i o s).gal = s.gal ∧ (State.programGood d i o s).dsc = s.dsc ∧ (State.programGood d i o s).cdx = s.cdx ∧ (State.programGood d i o s).hum = s.hum ∧ (State.programGood d i o s).bpm = s.bpm ∧ (State.programGood d i o s).dmc = s.dmc ∧ (State.programGood d i o s).ccl = s.ccl ∧ (State.programGood d i o s).csu = s.csu ∧ (State.programGood d i o s).mgp = s.mgp ∧ (State.programGood d i o s).cru = s.cru :=
  have h := (State.programGood_touch _ _ _ _ (by simp) (Touch.refl 86528 _))
  ⟨h.pending, h.out rfl, h.freeCnt rfl, h.timers rfl, h.tbu rfl, h.power rfl, h.regf rfl, h.sheet rfl, h.sheetOld rfl, h.hlu rfl, h.tnu rfl, h.gal rfl, h.dsc rfl, h.cdx rfl, h.hum rfl, h.bpm rfl, h.dmc rfl, h.ccl rfl, h.csu rfl, h.mgp rfl, h.cru rfl⟩

@[simp] theorem State.relocateBlock_units (d sb : Nat) (s : State) :
    (State.relocateBlock d sb s).pending = s.pending ∧ (State.relocateBlock d sb s).out = s.out ∧ (State.relocateBlock d sb s).freeCnt = s.freeCnt ∧ (State.relocateBlock d sb s).timers = s.timers ∧ (State.relocateBlock d sb s).tbu = s.tbu ∧ (State.relocateBlock d sb s).power = s.power ∧ (State.relocateBlock d sb s).regf = s.regf ∧ (State.relocateBlock d sb s).sheet = s.sheet ∧ (State.relocateBlock d sb s).sheetOld = s.sheetOld ∧ (State.relocateBlock d sb s).hlu = s.hlu ∧ (State.relocateBlock d sb s).qen = s.qen ∧ (State.relocateBlock d sb s).tnu = s.tnu ∧ (State.relocateBlock d sb s).gal = s.gal ∧ (State.relocateBlock d sb s).dsc = s.dsc ∧ (State.relocateBlock d sb s).fca = s.fca ∧ (State.relocateBlock d sb s).cdx = s.cdx ∧ (State.relocateBlock d sb s).spe = s.spe ∧ (State.relocateBlock d sb s).hum = s.hum ∧ (State.relocateBlock d sb s).bpm = s.bpm ∧ (State.relocateBlock d sb s).dmc = s.dmc ∧ (State.relocateBlock d sb s).ccl = s.ccl ∧ (State.relocateBlock d sb s).csu = s.csu ∧ (State.relocateBlock d sb s).mgp = s.mgp ∧ (State.relocateBlock d sb s).cru = s.cru :=
  have h := (State.relocateBlock_touch _ _ _ (by simp) (Touch.refl 4096 _))
  ⟨h.pending, h.out rfl, h.freeCnt rfl, h.timers rfl, h.tbu rfl, h.power rfl, h.regf rfl, h.sheet rfl, h.sheetOld rfl, h.hlu rfl, h.qen rfl, h.tnu rfl, h.gal rfl, h.dsc rfl, h.fca rfl, h.cdx rfl, h.spe rfl, h.hum rfl, h.bpm rfl, h.dmc rfl, h.ccl rfl, h.csu rfl, h.mgp rfl, h.cru rfl⟩

@[simp] theorem State.cancelBlock_units (d sb : Nat) (s : State) :
    (State.cancelBlock d sb s).pending = s.pending ∧ (State.cancelBlock d sb s).out = s.out ∧ (State.cancelBlock d sb s).freeCnt = s.freeCnt ∧ (State.cancelBlock d sb s).timers = s.timers ∧ (State.cancelBlock d sb s).tbu = s.tbu ∧ (State.cancelBlock d sb s).power = s.power ∧ (State.cancelBlock d sb s).regf = s.regf ∧ (State.cancelBlock d sb s).sheet = s.sheet ∧ (State.cancelBlock d sb s).sheetOld = s.sheetOld ∧ (State.cancelBlock d sb s).hlu = s.hlu ∧ (State.cancelBlock d sb s).qen = s.qen ∧ (State.cancelBlock d sb s).tnu = s.tnu ∧ (State.cancelBlock d sb s).gal = s.gal ∧ (State.cancelBlock d sb s).fca = s.fca ∧ (State.cancelBlock d sb s).spe = s.spe ∧ (State.cancelBlock d sb s).hum = s.hum ∧ (State.cancelBlock d sb s).bpm = s.bpm ∧ (State.cancelBlock d sb s).dmc = s.dmc ∧ (State.cancelBlock d sb s).ccl = s.ccl ∧ (State.cancelBlock d sb s).csu = s.csu ∧ (State.cancelBlock d sb s).mgp = s.mgp ∧ (State.cancelBlock d sb s).cru = s.cru :=
  have h := (State.cancelBlock_touch _ _ _ (by simp) (Touch.refl 45056 _))
  ⟨h.pending, h.out rfl, h.freeCnt rfl, h.timers rfl, h.tbu rfl, h.power rfl, h.regf rfl, h.sheet rfl, h.sheetOld rfl, h.hlu rfl, h.qen rfl, h.tnu rfl, h.gal rfl, h.fca rfl, h.spe rfl, h.hum rfl, h.bpm rfl, h.dmc rfl, h.ccl rfl, h.csu rfl, h.mgp rfl, h.cru rfl⟩

@[simp] theorem State.readBack_units (d sb : Nat) (pages : List (Nat × Nat)) (s : State) :
    (State.readBack d sb pages s).pending = s.pending ∧ (State.readBack d sb pages s).out = s.out ∧ (State.readBack d sb pages s).freeCnt = s.freeCnt ∧ (State.readBack d sb pages s).timers = s.timers ∧ (State.readBack d sb pages s).tbu = s.tbu ∧ (State.readBack d sb pages s).power = s.power ∧ (State.readBack d sb pages s).regf = s.regf ∧ (State.readBack d sb pages s).sheet = s.sheet ∧ (State.readBack d sb pages s).sheetOld = s.sheetOld ∧ (State.readBack d sb pages s).hlu = s.hlu ∧ (State.readBack d sb pages s).qen = s.qen ∧ (State.readBack d sb pages s).tnu = s.tnu ∧ (State.readBack d sb pages s).gal = s.gal ∧ (State.readBack d sb pages s).mxe = s.mxe ∧ (State.readBack d sb pages s).dsc = s.dsc ∧ (State.readBack d sb pages s).cdx = s.cdx ∧ (State.readBack d sb pages s).spe = s.spe ∧ (State.readBack d sb pages s).hum = s.hum ∧ (State.readBack d sb pages s).bpm = s.bpm ∧ (State.readBack d sb pages s).dmc = s.dmc ∧ (State.readBack d sb pages s).ccl = s.ccl ∧ (State.readBack d sb pages s).csu = s.csu ∧ (State.readBack d sb pages s).mgp = s.mgp ∧ (State.readBack d sb pages s).cru = s.cru :=
  have h := (State.readBack_touch _ _ _ _ (by simp) (Touch.refl 16384 _))
  ⟨h.pending, h.out rfl, h.freeCnt rfl, h.timers rfl, h.tbu rfl, h.power rfl, h.regf rfl, h.sheet rfl, h.sheetOld rfl, h.hlu rfl, h.qen rfl, h.tnu rfl, h.gal rfl, h.mxe rfl, h.dsc rfl, h.cdx rfl, h.spe rfl, h.hum rfl, h.bpm rfl, h.dmc rfl, h.ccl rfl, h.csu rfl, h.mgp rfl, h.cru rfl⟩

@[simp] theorem State.programFail_units (d i : Nat) (o : DieOp) (s : State) :
    (State.programFail d i o s).pending = s.pending ∧ (State.programFail d i o s).freeCnt = s.freeCnt ∧ (State.programFail d i o s).timers = s.timers ∧ (State.programFail d i o s).tbu = s.tbu ∧ (State.programFail d i o s).power = s.power ∧ (State.programFail d i o s).sheet = s.sheet ∧ (State.programFail d i o s).sheetOld = s.sheetOld ∧ (State.programFail d i o s).hlu = s.hlu ∧ (State.programFail d i o s).tnu = s.tnu ∧ (State.programFail d i o s).gal = s.gal ∧ (State.programFail d i o s).hum = s.hum ∧ (State.programFail d i o s).bpm = s.bpm ∧ (State.programFail d i o s).dmc = s.dmc ∧ (State.programFail d i o s).ccl = s.ccl ∧ (State.programFail d i o s).csu = s.csu :=
  have h := (State.programFail_touch _ _ _ _ (by simp) (Touch.refl 12710433 _))
  ⟨h.pending, h.freeCnt rfl, h.timers rfl, h.tbu rfl, h.power rfl, h.sheet rfl, h.sheetOld rfl, h.hlu rfl, h.tnu rfl, h.gal rfl, h.hum rfl, h.bpm rfl, h.dmc rfl, h.ccl rfl, h.csu rfl⟩

@[simp] theorem State.countErase_units (k : Nat) (s : State) :
    (State.countErase k s).pending = s.pending ∧ (State.countErase k s).out = s.out ∧ (State.countErase k s).freeCnt = s.freeCnt ∧ (State.countErase k s).timers = s.timers ∧ (State.countErase k s).tbu = s.tbu ∧ (State.countErase k s).power = s.power ∧ (State.countErase k s).regf = s.regf ∧ (State.countErase k s).sheet = s.sheet ∧ (State.countErase k s).sheetOld = s.sheetOld ∧ (State.countErase k s).hlu = s.hlu ∧ (State.countErase k s).qen = s.qen ∧ (State.countErase k s).tnu = s.tnu ∧ (State.countErase k s).gal = s.gal ∧ (State.countErase k s).dsc = s.dsc ∧ (State.countErase k s).fca = s.fca ∧ (State.countErase k s).cdx = s.cdx ∧ (State.countErase k s).spe = s.spe ∧ (State.countErase k s).hum = s.hum ∧ (State.countErase k s).bpm = s.bpm ∧ (State.countErase k s).dmc = s.dmc ∧ (State.countErase k s).ccl = s.ccl ∧ (State.countErase k s).csu = s.csu ∧ (State.countErase k s).mgp = s.mgp ∧ (State.countErase k s).cru = s.cru :=
  have h := (State.countErase_touch _ _ (by simp) (Touch.refl 4096 _))
  ⟨h.pending, h.out rfl, h.freeCnt rfl, h.timers rfl, h.tbu rfl, h.power rfl, h.regf rfl, h.sheet rfl, h.sheetOld rfl, h.hlu rfl, h.qen rfl, h.tnu rfl, h.gal rfl, h.dsc rfl, h.fca rfl, h.cdx rfl, h.spe rfl, h.hum rfl, h.bpm rfl, h.dmc rfl, h.ccl rfl, h.csu rfl, h.mgp rfl, h.cru rfl⟩

@[simp] theorem State.eraseGood_units (d : Nat) (o : DieOp) (s : State) :
    (State.eraseGood d o s).pending = s.pending ∧ (State.eraseGood d o s).out = s.out ∧ (State.eraseGood d o s).freeCnt = s.freeCnt ∧ (State.eraseGood d o s).timers = s.timers ∧ (State.eraseGood d o s).tbu = s.tbu ∧ (State.eraseGood d o s).power = s.power ∧ (State.eraseGood d o s).regf = s.regf ∧ (State.eraseGood d o s).sheet = s.sheet ∧ (State.eraseGood d o s).sheetOld = s.sheetOld ∧ (State.eraseGood d o s).hlu = s.hlu ∧ (State.eraseGood d o s).qen = s.qen ∧ (State.eraseGood d o s).tnu = s.tnu ∧ (State.eraseGood d o s).gal = s.gal ∧ (State.eraseGood d o s).dsc = s.dsc ∧ (State.eraseGood d o s).fca = s.fca ∧ (State.eraseGood d o s).spe = s.spe ∧ (State.eraseGood d o s).hum = s.hum ∧ (State.eraseGood d o s).bpm = s.bpm ∧ (State.eraseGood d o s).dmc = s.dmc ∧ (State.eraseGood d o s).ccl = s.ccl ∧ (State.eraseGood d o s).csu = s.csu ∧ (State.eraseGood d o s).mgp = s.mgp ∧ (State.eraseGood d o s).cru = s.cru :=
  have h := (State.eraseGood_touch _ _ _ (by simp) (Touch.refl 36864 _))
  ⟨h.pending, h.out rfl, h.freeCnt rfl, h.timers rfl, h.tbu rfl, h.power rfl, h.regf rfl, h.sheet rfl, h.sheetOld rfl, h.hlu rfl, h.qen rfl, h.tnu rfl, h.gal rfl, h.dsc rfl, h.fca rfl, h.spe rfl, h.hum rfl, h.bpm rfl, h.dmc rfl, h.ccl rfl, h.csu rfl, h.mgp rfl, h.cru rfl⟩

@[simp] theorem State.eraseFail_units (d : Nat) (o : DieOp) (s : State) :
    (State.eraseFail d o s).pending = s.pending ∧ (State.eraseFail d o s).freeCnt = s.freeCnt ∧ (State.eraseFail d o s).timers = s.timers ∧ (State.eraseFail d o s).tbu = s.tbu ∧ (State.eraseFail d o s).power = s.power ∧ (State.eraseFail d o s).sheet = s.sheet ∧ (State.eraseFail d o s).sheetOld = s.sheetOld ∧ (State.eraseFail d o s).hlu = s.hlu ∧ (State.eraseFail d o s).tnu = s.tnu ∧ (State.eraseFail d o s).gal = s.gal ∧ (State.eraseFail d o s).fca = s.fca ∧ (State.eraseFail d o s).spe = s.spe ∧ (State.eraseFail d o s).hum = s.hum ∧ (State.eraseFail d o s).bpm = s.bpm ∧ (State.eraseFail d o s).dmc = s.dmc ∧ (State.eraseFail d o s).ccl = s.ccl ∧ (State.eraseFail d o s).csu = s.csu :=
  have h := (State.eraseFail_touch _ _ _ (by simp) (Touch.refl 12628513 _))
  ⟨h.pending, h.freeCnt rfl, h.timers rfl, h.tbu rfl, h.power rfl, h.sheet rfl, h.sheetOld rfl, h.hlu rfl, h.tnu rfl, h.gal rfl, h.fca rfl, h.spe rfl, h.hum rfl, h.bpm rfl, h.dmc rfl, h.ccl rfl, h.csu rfl⟩

@[simp] theorem State.readLands_units (o : DieOp) (s : State) :
    (State.readLands o s).pending = s.pending ∧ (State.readLands o s).out = s.out ∧ (State.readLands o s).freeCnt = s.freeCnt ∧ (State.readLands o s).timers = s.timers ∧ (State.readLands o s).tbu = s.tbu ∧ (State.readLands o s).power = s.power ∧ (State.readLands o s).regf = s.regf ∧ (State.readLands o s).sheet = s.sheet ∧ (State.readLands o s).sheetOld = s.sheetOld ∧ (State.readLands o s).hlu = s.hlu ∧ (State.readLands o s).qen = s.qen ∧ (State.readLands o s).tnu = s.tnu ∧ (State.readLands o s).gal = s.gal ∧ (State.readLands o s).mxe = s.mxe ∧ (State.readLands o s).dsc = s.dsc ∧ (State.readLands o s).spe = s.spe ∧ (State.readLands o s).hum = s.hum ∧ (State.readLands o s).bpm = s.bpm ∧ (State.readLands o s).dmc = s.dmc ∧ (State.readLands o s).ccl = s.ccl ∧ (State.readLands o s).csu = s.csu ∧ (State.readLands o s).mgp = s.mgp ∧ (State.readLands o s).cru = s.cru :=
  have h := (State.readLands_touch _ _ (by simp) (Touch.refl 49152 _))
  ⟨h.pending, h.out rfl, h.freeCnt rfl, h.timers rfl, h.tbu rfl, h.power rfl, h.regf rfl, h.sheet rfl, h.sheetOld rfl, h.hlu rfl, h.qen rfl, h.tnu rfl, h.gal rfl, h.mxe rfl, h.dsc rfl, h.spe rfl, h.hum rfl, h.bpm rfl, h.dmc rfl, h.ccl rfl, h.csu rfl, h.mgp rfl, h.cru rfl⟩

@[simp] theorem State.readDone_units (o : DieOp) (s : State) :
    (State.readDone o s).pending = s.pending ∧ (State.readDone o s).out = s.out ∧ (State.readDone o s).freeCnt = s.freeCnt ∧ (State.readDone o s).timers = s.timers ∧ (State.readDone o s).tbu = s.tbu ∧ (State.readDone o s).power = s.power ∧ (State.readDone o s).regf = s.regf ∧ (State.readDone o s).sheet = s.sheet ∧ (State.readDone o s).sheetOld = s.sheetOld ∧ (State.readDone o s).hlu = s.hlu ∧ (State.readDone o s).qen = s.qen ∧ (State.readDone o s).tnu = s.tnu ∧ (State.readDone o s).gal = s.gal ∧ (State.readDone o s).dsc = s.dsc ∧ (State.readDone o s).cdx = s.cdx ∧ (State.readDone o s).spe = s.spe ∧ (State.readDone o s).hum = s.hum ∧ (State.readDone o s).bpm = s.bpm ∧ (State.readDone o s).dmc = s.dmc ∧ (State.readDone o s).ccl = s.ccl ∧ (State.readDone o s).csu = s.csu ∧ (State.readDone o s).mgp = s.mgp ∧ (State.readDone o s).cru = s.cru :=
  have h := (State.readDone_touch _ _ (by simp) (Touch.refl 20480 _))
  ⟨h.pending, h.out rfl, h.freeCnt rfl, h.timers rfl, h.tbu rfl, h.power rfl, h.regf rfl, h.sheet rfl, h.sheetOld rfl, h.hlu rfl, h.qen rfl, h.tnu rfl, h.gal rfl, h.dsc rfl, h.cdx rfl, h.spe rfl, h.hum rfl, h.bpm rfl, h.dmc rfl, h.ccl rfl, h.csu rfl, h.mgp rfl, h.cru rfl⟩

@[simp] theorem State.diedTime_units (i : Nat) (s : State) :
    (State.diedTime i s).pending = s.pending ∧ (State.diedTime i s).out = s.out ∧ (State.diedTime i s).freeCnt = s.freeCnt ∧ (State.diedTime i s).timers = s.timers ∧ (State.diedTime i s).tbu = s.tbu ∧ (State.diedTime i s).power = s.power ∧ (State.diedTime i s).regf = s.regf ∧ (State.diedTime i s).sheet = s.sheet ∧ (State.diedTime i s).sheetOld = s.sheetOld ∧ (State.diedTime i s).hlu = s.hlu ∧ (State.diedTime i s).qen = s.qen ∧ (State.diedTime i s).tnu = s.tnu ∧ (State.diedTime i s).gal = s.gal ∧ (State.diedTime i s).mxe = s.mxe ∧ (State.diedTime i s).fca = s.fca ∧ (State.diedTime i s).cdx = s.cdx ∧ (State.diedTime i s).spe = s.spe ∧ (State.diedTime i s).hum = s.hum ∧ (State.diedTime i s).bpm = s.bpm ∧ (State.diedTime i s).dmc = s.dmc ∧ (State.diedTime i s).ccl = s.ccl ∧ (State.diedTime i s).csu = s.csu ∧ (State.diedTime i s).mgp = s.mgp ∧ (State.diedTime i s).cru = s.cru :=
  have h := (State.diedTime_touch _ _ (by simp) (Touch.refl 8192 _))
  ⟨h.pending, h.out rfl, h.freeCnt rfl, h.timers rfl, h.tbu rfl, h.power rfl, h.regf rfl, h.sheet rfl, h.sheetOld rfl, h.hlu rfl, h.qen rfl, h.tnu rfl, h.gal rfl, h.mxe rfl, h.fca rfl, h.cdx rfl, h.spe rfl, h.hum rfl, h.bpm rfl, h.dmc rfl, h.ccl rfl, h.csu rfl, h.mgp rfl, h.cru rfl⟩

@[simp] theorem State.endOp_units (d i : Nat) (s : State) :
    (State.endOp d i s).pending = s.pending ∧ (State.endOp d i s).out = s.out ∧ (State.endOp d i s).freeCnt = s.freeCnt ∧ (State.endOp d i s).timers = s.timers ∧ (State.endOp d i s).tbu = s.tbu ∧ (State.endOp d i s).power = s.power ∧ (State.endOp d i s).regf = s.regf ∧ (State.endOp d i s).sheet = s.sheet ∧ (State.endOp d i s).sheetOld = s.sheetOld ∧ (State.endOp d i s).hlu = s.hlu ∧ (State.endOp d i s).qen = s.qen ∧ (State.endOp d i s).tnu = s.tnu ∧ (State.endOp d i s).gal = s.gal ∧ (State.endOp d i s).mxe = s.mxe ∧ (State.endOp d i s).fca = s.fca ∧ (State.endOp d i s).cdx = s.cdx ∧ (State.endOp d i s).spe = s.spe ∧ (State.endOp d i s).hum = s.hum ∧ (State.endOp d i s).bpm = s.bpm ∧ (State.endOp d i s).dmc = s.dmc ∧ (State.endOp d i s).ccl = s.ccl ∧ (State.endOp d i s).csu = s.csu ∧ (State.endOp d i s).mgp = s.mgp ∧ (State.endOp d i s).cru = s.cru :=
  have h := (State.endOp_touch _ _ _ (by simp) (Touch.refl 8192 _))
  ⟨h.pending, h.out rfl, h.freeCnt rfl, h.timers rfl, h.tbu rfl, h.power rfl, h.regf rfl, h.sheet rfl, h.sheetOld rfl, h.hlu rfl, h.qen rfl, h.tnu rfl, h.gal rfl, h.mxe rfl, h.fca rfl, h.cdx rfl, h.spe rfl, h.hum rfl, h.bpm rfl, h.dmc rfl, h.ccl rfl, h.csu rfl, h.mgp rfl, h.cru rfl⟩

@[simp] theorem State.opEnded_units (d i : Nat) (o : DieOp) (good : Bool) (s : State) :
    (State.opEnded d i o good s).pending = s.pending ∧ (State.opEnded d i o good s).freeCnt = s.freeCnt ∧ (State.opEnded d i o good s).timers = s.timers ∧ (State.opEnded d i o good s).tbu = s.tbu ∧ (State.opEnded d i o good s).power = s.power ∧ (State.opEnded d i o good s).sheet = s.sheet ∧ (State.opEnded d i o good s).sheetOld = s.sheetOld ∧ (State.opEnded d i o good s).hlu = s.hlu ∧ (State.opEnded d i o good s).tnu = s.tnu ∧ (State.opEnded d i o good s).gal = s.gal ∧ (State.opEnded d i o good s).bpm = s.bpm ∧ (State.opEnded d i o good s).dmc = s.dmc ∧ (State.opEnded d i o good s).ccl = s.ccl ∧ (State.opEnded d i o good s).csu = s.csu :=
  have h := (State.opEnded_touch _ _ _ _ _ (by simp) (Touch.refl 12841505 _))
  ⟨h.pending, h.freeCnt rfl, h.timers rfl, h.tbu rfl, h.power rfl, h.sheet rfl, h.sheetOld rfl, h.hlu rfl, h.tnu rfl, h.gal rfl, h.bpm rfl, h.dmc rfl, h.ccl rfl, h.csu rfl⟩

@[simp] theorem State.failOps_units (d : Nat) (s : State) :
    (State.failOps d s).pending = s.pending ∧ (State.failOps d s).out = s.out ∧ (State.failOps d s).freeCnt = s.freeCnt ∧ (State.failOps d s).timers = s.timers ∧ (State.failOps d s).tbu = s.tbu ∧ (State.failOps d s).power = s.power ∧ (State.failOps d s).regf = s.regf ∧ (State.failOps d s).sheet = s.sheet ∧ (State.failOps d s).sheetOld = s.sheetOld ∧ (State.failOps d s).hlu = s.hlu ∧ (State.failOps d s).qen = s.qen ∧ (State.failOps d s).tnu = s.tnu ∧ (State.failOps d s).gal = s.gal ∧ (State.failOps d s).fca = s.fca ∧ (State.failOps d s).spe = s.spe ∧ (State.failOps d s).bpm = s.bpm ∧ (State.failOps d s).dmc = s.dmc ∧ (State.failOps d s).ccl = s.ccl ∧ (State.failOps d s).csu = s.csu ∧ (State.failOps d s).mgp = s.mgp ∧ (State.failOps d s).cru = s.cru :=
  have h := (State.failOps_touch _ _ (by simp) (Touch.refl 176128 _))
  ⟨h.pending, h.out rfl, h.freeCnt rfl, h.timers rfl, h.tbu rfl, h.power rfl, h.regf rfl, h.sheet rfl, h.sheetOld rfl, h.hlu rfl, h.qen rfl, h.tnu rfl, h.gal rfl, h.fca rfl, h.spe rfl, h.bpm rfl, h.dmc rfl, h.ccl rfl, h.csu rfl, h.mgp rfl, h.cru rfl⟩

@[simp] theorem State.retireDie_units (d : Nat) (s : State) :
    (State.retireDie d s).pending = s.pending ∧ (State.retireDie d s).freeCnt = s.freeCnt ∧ (State.retireDie d s).timers = s.timers ∧ (State.retireDie d s).tbu = s.tbu ∧ (State.retireDie d s).power = s.power ∧ (State.retireDie d s).sheet = s.sheet ∧ (State.retireDie d s).sheetOld = s.sheetOld ∧ (State.retireDie d s).hlu = s.hlu ∧ (State.retireDie d s).tnu = s.tnu ∧ (State.retireDie d s).gal = s.gal ∧ (State.retireDie d s).dsc = s.dsc ∧ (State.retireDie d s).fca = s.fca ∧ (State.retireDie d s).cdx = s.cdx ∧ (State.retireDie d s).spe = s.spe ∧ (State.retireDie d s).hum = s.hum ∧ (State.retireDie d s).bpm = s.bpm ∧ (State.retireDie d s).dmc = s.dmc ∧ (State.retireDie d s).ccl = s.ccl ∧ (State.retireDie d s).csu = s.csu :=
  have h := (State.retireDie_touch _ _ (by simp) (Touch.refl 12587553 _))
  ⟨h.pending, h.freeCnt rfl, h.timers rfl, h.tbu rfl, h.power rfl, h.sheet rfl, h.sheetOld rfl, h.hlu rfl, h.tnu rfl, h.gal rfl, h.dsc rfl, h.fca rfl, h.cdx rfl, h.spe rfl, h.hum rfl, h.bpm rfl, h.dmc rfl, h.ccl rfl, h.csu rfl⟩

@[simp] theorem State.failedHealth_units (s : State) :
    (State.failedHealth s).pending = s.pending ∧ (State.failedHealth s).freeCnt = s.freeCnt ∧ (State.failedHealth s).timers = s.timers ∧ (State.failedHealth s).tbu = s.tbu ∧ (State.failedHealth s).power = s.power ∧ (State.failedHealth s).sheet = s.sheet ∧ (State.failedHealth s).sheetOld = s.sheetOld ∧ (State.failedHealth s).hlu = s.hlu ∧ (State.failedHealth s).tnu = s.tnu ∧ (State.failedHealth s).gal = s.gal ∧ (State.failedHealth s).mxe = s.mxe ∧ (State.failedHealth s).dsc = s.dsc ∧ (State.failedHealth s).fca = s.fca ∧ (State.failedHealth s).cdx = s.cdx ∧ (State.failedHealth s).spe = s.spe ∧ (State.failedHealth s).hum = s.hum ∧ (State.failedHealth s).bpm = s.bpm ∧ (State.failedHealth s).dmc = s.dmc ∧ (State.failedHealth s).ccl = s.ccl ∧ (State.failedHealth s).csu = s.csu :=
  have h := (State.failedHealth_touch _ (by simp) (Touch.refl 12583457 _))
  ⟨h.pending, h.freeCnt rfl, h.timers rfl, h.tbu rfl, h.power rfl, h.sheet rfl, h.sheetOld rfl, h.hlu rfl, h.tnu rfl, h.gal rfl, h.mxe rfl, h.dsc rfl, h.fca rfl, h.cdx rfl, h.spe rfl, h.hum rfl, h.bpm rfl, h.dmc rfl, h.ccl rfl, h.csu rfl⟩

@[simp] theorem State.joinRebuild_units (d : Nat) (s : State) :
    (State.joinRebuild d s).pending = s.pending ∧ (State.joinRebuild d s).out = s.out ∧ (State.joinRebuild d s).freeCnt = s.freeCnt ∧ (State.joinRebuild d s).timers = s.timers ∧ (State.joinRebuild d s).tbu = s.tbu ∧ (State.joinRebuild d s).power = s.power ∧ (State.joinRebuild d s).regf = s.regf ∧ (State.joinRebuild d s).sheet = s.sheet ∧ (State.joinRebuild d s).sheetOld = s.sheetOld ∧ (State.joinRebuild d s).hlu = s.hlu ∧ (State.joinRebuild d s).qen = s.qen ∧ (State.joinRebuild d s).tnu = s.tnu ∧ (State.joinRebuild d s).gal = s.gal ∧ (State.joinRebuild d s).mxe = s.mxe ∧ (State.joinRebuild d s).dsc = s.dsc ∧ (State.joinRebuild d s).fca = s.fca ∧ (State.joinRebuild d s).cdx = s.cdx ∧ (State.joinRebuild d s).hum = s.hum ∧ (State.joinRebuild d s).bpm = s.bpm ∧ (State.joinRebuild d s).dmc = s.dmc ∧ (State.joinRebuild d s).ccl = s.ccl ∧ (State.joinRebuild d s).csu = s.csu ∧ (State.joinRebuild d s).mgp = s.mgp ∧ (State.joinRebuild d s).cru = s.cru :=
  have h := (State.joinRebuild_touch _ _ (by simp) (Touch.refl 65536 _))
  ⟨h.pending, h.out rfl, h.freeCnt rfl, h.timers rfl, h.tbu rfl, h.power rfl, h.regf rfl, h.sheet rfl, h.sheetOld rfl, h.hlu rfl, h.qen rfl, h.tnu rfl, h.gal rfl, h.mxe rfl, h.dsc rfl, h.fca rfl, h.cdx rfl, h.hum rfl, h.bpm rfl, h.dmc rfl, h.ccl rfl, h.csu rfl, h.mgp rfl, h.cru rfl⟩

@[simp] theorem State.failXfers_units (d : Nat) (s : State) :
    (State.failXfers d s).pending = s.pending ∧ (State.failXfers d s).out = s.out ∧ (State.failXfers d s).freeCnt = s.freeCnt ∧ (State.failXfers d s).timers = s.timers ∧ (State.failXfers d s).tbu = s.tbu ∧ (State.failXfers d s).power = s.power ∧ (State.failXfers d s).regf = s.regf ∧ (State.failXfers d s).sheet = s.sheet ∧ (State.failXfers d s).sheetOld = s.sheetOld ∧ (State.failXfers d s).hlu = s.hlu ∧ (State.failXfers d s).qen = s.qen ∧ (State.failXfers d s).tnu = s.tnu ∧ (State.failXfers d s).gal = s.gal ∧ (State.failXfers d s).dsc = s.dsc ∧ (State.failXfers d s).spe = s.spe ∧ (State.failXfers d s).hum = s.hum ∧ (State.failXfers d s).bpm = s.bpm ∧ (State.failXfers d s).dmc = s.dmc ∧ (State.failXfers d s).ccl = s.ccl ∧ (State.failXfers d s).csu = s.csu ∧ (State.failXfers d s).mgp = s.mgp ∧ (State.failXfers d s).cru = s.cru :=
  have h := (State.failXfers_touch _ _ (by simp) (Touch.refl 53248 _))
  ⟨h.pending, h.out rfl, h.freeCnt rfl, h.timers rfl, h.tbu rfl, h.power rfl, h.regf rfl, h.sheet rfl, h.sheetOld rfl, h.hlu rfl, h.qen rfl, h.tnu rfl, h.gal rfl, h.dsc rfl, h.spe rfl, h.hum rfl, h.bpm rfl, h.dmc rfl, h.ccl rfl, h.csu rfl, h.mgp rfl, h.cru rfl⟩

@[simp] theorem State.takeOffline_units (d : Nat) (s : State) :
    (State.takeOffline d s).pending = s.pending ∧ (State.takeOffline d s).freeCnt = s.freeCnt ∧ (State.takeOffline d s).timers = s.timers ∧ (State.takeOffline d s).tbu = s.tbu ∧ (State.takeOffline d s).power = s.power ∧ (State.takeOffline d s).sheet = s.sheet ∧ (State.takeOffline d s).sheetOld = s.sheetOld ∧ (State.takeOffline d s).hlu = s.hlu ∧ (State.takeOffline d s).tnu = s.tnu ∧ (State.takeOffline d s).gal = s.gal ∧ (State.takeOffline d s).bpm = s.bpm ∧ (State.takeOffline d s).dmc = s.dmc ∧ (State.takeOffline d s).ccl = s.ccl ∧ (State.takeOffline d s).csu = s.csu :=
  have h := (State.takeOffline_touch _ _ (by simp) (Touch.refl 12841505 _))
  ⟨h.pending, h.freeCnt rfl, h.timers rfl, h.tbu rfl, h.power rfl, h.sheet rfl, h.sheetOld rfl, h.hlu rfl, h.tnu rfl, h.gal rfl, h.bpm rfl, h.dmc rfl, h.ccl rfl, h.csu rfl⟩

@[simp] theorem State.reenable_units (d : Nat) (s : State) :
    (State.reenable d s).pending = s.pending ∧ (State.reenable d s).freeCnt = s.freeCnt ∧ (State.reenable d s).timers = s.timers ∧ (State.reenable d s).tbu = s.tbu ∧ (State.reenable d s).power = s.power ∧ (State.reenable d s).sheet = s.sheet ∧ (State.reenable d s).sheetOld = s.sheetOld ∧ (State.reenable d s).hlu = s.hlu ∧ (State.reenable d s).tnu = s.tnu ∧ (State.reenable d s).gal = s.gal ∧ (State.reenable d s).fca = s.fca ∧ (State.reenable d s).cdx = s.cdx ∧ (State.reenable d s).hum = s.hum ∧ (State.reenable d s).bpm = s.bpm ∧ (State.reenable d s).dmc = s.dmc ∧ (State.reenable d s).ccl = s.ccl ∧ (State.reenable d s).csu = s.csu :=
  have h := (State.reenable_touch _ _ (by simp) (Touch.refl 12661281 _))
  ⟨h.pending, h.freeCnt rfl, h.timers rfl, h.tbu rfl, h.power rfl, h.sheet rfl, h.sheetOld rfl, h.hlu rfl, h.tnu rfl, h.gal rfl, h.fca rfl, h.cdx rfl, h.hum rfl, h.bpm rfl, h.dmc rfl, h.ccl rfl, h.csu rfl⟩

@[simp] theorem State.applyStep_units (st : Nat) (s : State) :
    (State.applyStep st s).pending = s.pending ∧ (State.applyStep st s).freeCnt = s.freeCnt ∧ (State.applyStep st s).timers = s.timers ∧ (State.applyStep st s).tbu = s.tbu ∧ (State.applyStep st s).power = s.power ∧ (State.applyStep st s).sheet = s.sheet ∧ (State.applyStep st s).sheetOld = s.sheetOld ∧ (State.applyStep st s).hlu = s.hlu ∧ (State.applyStep st s).tnu = s.tnu ∧ (State.applyStep st s).gal = s.gal ∧ (State.applyStep st s).mxe = s.mxe ∧ (State.applyStep st s).fca = s.fca ∧ (State.applyStep st s).cdx = s.cdx ∧ (State.applyStep st s).spe = s.spe ∧ (State.applyStep st s).hum = s.hum ∧ (State.applyStep st s).bpm = s.bpm ∧ (State.applyStep st s).dmc = s.dmc ∧ (State.applyStep st s).ccl = s.ccl ∧ (State.applyStep st s).csu = s.csu :=
  have h := (State.applyStep_touch _ _ (by simp) (Touch.refl 12591649 _))
  ⟨h.pending, h.freeCnt rfl, h.timers rfl, h.tbu rfl, h.power rfl, h.sheet rfl, h.sheetOld rfl, h.hlu rfl, h.tnu rfl, h.gal rfl, h.mxe rfl, h.fca rfl, h.cdx rfl, h.spe rfl, h.hum rfl, h.bpm rfl, h.dmc rfl, h.ccl rfl, h.csu rfl⟩

@[simp] theorem State.dueObjects_units (s : State) :
    (State.dueObjects s).pending = s.pending ∧ (State.dueObjects s).out = s.out ∧ (State.dueObjects s).freeCnt = s.freeCnt ∧ (State.dueObjects s).timers = s.timers ∧ (State.dueObjects s).tbu = s.tbu ∧ (State.dueObjects s).power = s.power ∧ (State.dueObjects s).regf = s.regf ∧ (State.dueObjects s).sheet = s.sheet ∧ (State.dueObjects s).hlu = s.hlu ∧ (State.dueObjects s).qen = s.qen ∧ (State.dueObjects s).tnu = s.tnu ∧ (State.dueObjects s).gal = s.gal ∧ (State.dueObjects s).mxe = s.mxe ∧ (State.dueObjects s).dsc = s.dsc ∧ (State.dueObjects s).fca = s.fca ∧ (State.dueObjects s).cdx = s.cdx ∧ (State.dueObjects s).spe = s.spe ∧ (State.dueObjects s).hum = s.hum ∧ (State.dueObjects s).bpm = s.bpm ∧ (State.dueObjects s).dmc = s.dmc ∧ (State.dueObjects s).ccl = s.ccl ∧ (State.dueObjects s).csu = s.csu ∧ (State.dueObjects s).mgp = s.mgp ∧ (State.dueObjects s).cru = s.cru :=
  have h := (State.dueObjects_touch _ (by simp) (Touch.refl 128 _))
  ⟨h.pending, h.out rfl, h.freeCnt rfl, h.timers rfl, h.tbu rfl, h.power rfl, h.regf rfl, h.sheet rfl, h.hlu rfl, h.qen rfl, h.tnu rfl, h.gal rfl, h.mxe rfl, h.dsc rfl, h.fca rfl, h.cdx rfl, h.spe rfl, h.hum rfl, h.bpm rfl, h.dmc rfl, h.ccl rfl, h.csu rfl, h.mgp rfl, h.cru rfl⟩

@[simp] theorem State.opsRebudget_units (s : State) :
    (State.opsRebudget s).pending = s.pending ∧ (State.opsRebudget s).out = s.out ∧ (State.opsRebudget s).freeCnt = s.freeCnt ∧ (State.opsRebudget s).timers = s.timers ∧ (State.opsRebudget s).tbu = s.tbu ∧ (State.opsRebudget s).power = s.power ∧ (State.opsRebudget s).regf = s.regf ∧ (State.opsRebudget s).sheet = s.sheet ∧ (State.opsRebudget s).sheetOld = s.sheetOld ∧ (State.opsRebudget s).hlu = s.hlu ∧ (State.opsRebudget s).qen = s.qen ∧ (State.opsRebudget s).tnu = s.tnu ∧ (State.opsRebudget s).gal = s.gal ∧ (State.opsRebudget s).mxe = s.mxe ∧ (State.opsRebudget s).fca = s.fca ∧ (State.opsRebudget s).cdx = s.cdx ∧ (State.opsRebudget s).spe = s.spe ∧ (State.opsRebudget s).hum = s.hum ∧ (State.opsRebudget s).bpm = s.bpm ∧ (State.opsRebudget s).dmc = s.dmc ∧ (State.opsRebudget s).ccl = s.ccl ∧ (State.opsRebudget s).csu = s.csu ∧ (State.opsRebudget s).mgp = s.mgp ∧ (State.opsRebudget s).cru = s.cru :=
  have h := (State.opsRebudget_touch _ (by simp) (Touch.refl 8192 _))
  ⟨h.pending, h.out rfl, h.freeCnt rfl, h.timers rfl, h.tbu rfl, h.power rfl, h.regf rfl, h.sheet rfl, h.sheetOld rfl, h.hlu rfl, h.qen rfl, h.tnu rfl, h.gal rfl, h.mxe rfl, h.fca rfl, h.cdx rfl, h.spe rfl, h.hum rfl, h.bpm rfl, h.dmc rfl, h.ccl rfl, h.csu rfl, h.mgp rfl, h.cru rfl⟩

@[simp] theorem State.decideStep_units (t : Int) (s : State) :
    (State.decideStep t s).pending = s.pending ∧ (State.decideStep t s).out = s.out ∧ (State.decideStep t s).freeCnt = s.freeCnt ∧ (State.decideStep t s).timers = s.timers ∧ (State.decideStep t s).tbu = s.tbu ∧ (State.decideStep t s).power = s.power ∧ (State.decideStep t s).regf = s.regf ∧ (State.decideStep t s).sheet = s.sheet ∧ (State.decideStep t s).sheetOld = s.sheetOld ∧ (State.decideStep t s).hlu = s.hlu ∧ (State.decideStep t s).qen = s.qen ∧ (State.decideStep t s).tnu = s.tnu ∧ (State.decideStep t s).gal = s.gal ∧ (State.decideStep t s).mxe = s.mxe ∧ (State.decideStep t s).fca = s.fca ∧ (State.decideStep t s).cdx = s.cdx ∧ (State.decideStep t s).spe = s.spe ∧ (State.decideStep t s).hum = s.hum ∧ (State.decideStep t s).bpm = s.bpm ∧ (State.decideStep t s).dmc = s.dmc ∧ (State.decideStep t s).ccl = s.ccl ∧ (State.decideStep t s).csu = s.csu ∧ (State.decideStep t s).mgp = s.mgp ∧ (State.decideStep t s).cru = s.cru :=
  have h := (State.decideStep_touch _ _ (by simp) (Touch.refl 8192 _))
  ⟨h.pending, h.out rfl, h.freeCnt rfl, h.timers rfl, h.tbu rfl, h.power rfl, h.regf rfl, h.sheet rfl, h.sheetOld rfl, h.hlu rfl, h.qen rfl, h.tnu rfl, h.gal rfl, h.mxe rfl, h.fca rfl, h.cdx rfl, h.spe rfl, h.hum rfl, h.bpm rfl, h.dmc rfl, h.ccl rfl, h.csu rfl, h.mgp rfl, h.cru rfl⟩

@[simp] theorem State.chEvent_units (ch bits : Nat) (s : State) :
    (State.chEvent ch bits s).pending = s.pending ∧ (State.chEvent ch bits s).out = s.out ∧ (State.chEvent ch bits s).freeCnt = s.freeCnt ∧ (State.chEvent ch bits s).timers = s.timers ∧ (State.chEvent ch bits s).tbu = s.tbu ∧ (State.chEvent ch bits s).power = s.power ∧ (State.chEvent ch bits s).sheet = s.sheet ∧ (State.chEvent ch bits s).sheetOld = s.sheetOld ∧ (State.chEvent ch bits s).hlu = s.hlu ∧ (State.chEvent ch bits s).qen = s.qen ∧ (State.chEvent ch bits s).tnu = s.tnu ∧ (State.chEvent ch bits s).gal = s.gal ∧ (State.chEvent ch bits s).mxe = s.mxe ∧ (State.chEvent ch bits s).dsc = s.dsc ∧ (State.chEvent ch bits s).fca = s.fca ∧ (State.chEvent ch bits s).cdx = s.cdx ∧ (State.chEvent ch bits s).spe = s.spe ∧ (State.chEvent ch bits s).hum = s.hum ∧ (State.chEvent ch bits s).bpm = s.bpm ∧ (State.chEvent ch bits s).dmc = s.dmc ∧ (State.chEvent ch bits s).ccl = s.ccl ∧ (State.chEvent ch bits s).csu = s.csu ∧ (State.chEvent ch bits s).mgp = s.mgp :=
  have h := (State.chEvent_touch _ _ _ (by simp) (Touch.refl 8388640 _))
  ⟨h.pending, h.out rfl, h.freeCnt rfl, h.timers rfl, h.tbu rfl, h.power rfl, h.sheet rfl, h.sheetOld rfl, h.hlu rfl, h.qen rfl, h.tnu rfl, h.gal rfl, h.mxe rfl, h.dsc rfl, h.fca rfl, h.cdx rfl, h.spe rfl, h.hum rfl, h.bpm rfl, h.dmc rfl, h.ccl rfl, h.csu rfl, h.mgp rfl⟩

@[simp] theorem State.initChannel_units (f : ChannelFound) (s : State) :
    (State.initChannel f s).pending = s.pending ∧ (State.initChannel f s).freeCnt = s.freeCnt ∧ (State.initChannel f s).timers = s.timers ∧ (State.initChannel f s).tbu = s.tbu ∧ (State.initChannel f s).power = s.power ∧ (State.initChannel f s).sheet = s.sheet ∧ (State.initChannel f s).sheetOld = s.sheetOld ∧ (State.initChannel f s).hlu = s.hlu ∧ (State.initChannel f s).tnu = s.tnu ∧ (State.initChannel f s).gal = s.gal ∧ (State.initChannel f s).bpm = s.bpm ∧ (State.initChannel f s).dmc = s.dmc ∧ (State.initChannel f s).ccl = s.ccl ∧ (State.initChannel f s).csu = s.csu :=
  have h := (State.initChannel_touch _ _ (by simp) (Touch.refl 12841505 _))
  ⟨h.pending, h.freeCnt rfl, h.timers rfl, h.tbu rfl, h.power rfl, h.sheet rfl, h.sheetOld rfl, h.hlu rfl, h.tnu rfl, h.gal rfl, h.bpm rfl, h.dmc rfl, h.ccl rfl, h.csu rfl⟩

@[simp] theorem State.guardOnset_units (g : GuardInput) (s : State) :
    (State.guardOnset g s).pending = s.pending ∧ (State.guardOnset g s).freeCnt = s.freeCnt ∧ (State.guardOnset g s).timers = s.timers ∧ (State.guardOnset g s).tbu = s.tbu ∧ (State.guardOnset g s).power = s.power ∧ (State.guardOnset g s).sheet = s.sheet ∧ (State.guardOnset g s).sheetOld = s.sheetOld ∧ (State.guardOnset g s).hlu = s.hlu ∧ (State.guardOnset g s).qen = s.qen ∧ (State.guardOnset g s).tnu = s.tnu ∧ (State.guardOnset g s).gal = s.gal ∧ (State.guardOnset g s).mxe = s.mxe ∧ (State.guardOnset g s).dsc = s.dsc ∧ (State.guardOnset g s).cdx = s.cdx ∧ (State.guardOnset g s).spe = s.spe ∧ (State.guardOnset g s).hum = s.hum ∧ (State.guardOnset g s).bpm = s.bpm ∧ (State.guardOnset g s).ccl = s.ccl ∧ (State.guardOnset g s).csu = s.csu ∧ (State.guardOnset g s).mgp = s.mgp ∧ (State.guardOnset g s).cru = s.cru :=
  have h := (State.guardOnset_touch _ _ (by simp) (Touch.refl 540705 _))
  ⟨h.pending, h.freeCnt rfl, h.timers rfl, h.tbu rfl, h.power rfl, h.sheet rfl, h.sheetOld rfl, h.hlu rfl, h.qen rfl, h.tnu rfl, h.gal rfl, h.mxe rfl, h.dsc rfl, h.cdx rfl, h.spe rfl, h.hum rfl, h.bpm rfl, h.ccl rfl, h.csu rfl, h.mgp rfl, h.cru rfl⟩

@[simp] theorem State.guardTick_units (s : State) :
    (State.guardTick s).pending = s.pending ∧ (State.guardTick s).out = s.out ∧ (State.guardTick s).freeCnt = s.freeCnt ∧ (State.guardTick s).timers = s.timers ∧ (State.guardTick s).tbu = s.tbu ∧ (State.guardTick s).power = s.power ∧ (State.guardTick s).regf = s.regf ∧ (State.guardTick s).sheet = s.sheet ∧ (State.guardTick s).sheetOld = s.sheetOld ∧ (State.guardTick s).hlu = s.hlu ∧ (State.guardTick s).qen = s.qen ∧ (State.guardTick s).tnu = s.tnu ∧ (State.guardTick s).gal = s.gal ∧ (State.guardTick s).mxe = s.mxe ∧ (State.guardTick s).fca = s.fca ∧ (State.guardTick s).cdx = s.cdx ∧ (State.guardTick s).spe = s.spe ∧ (State.guardTick s).hum = s.hum ∧ (State.guardTick s).bpm = s.bpm ∧ (State.guardTick s).dmc = s.dmc ∧ (State.guardTick s).ccl = s.ccl ∧ (State.guardTick s).csu = s.csu ∧ (State.guardTick s).mgp = s.mgp ∧ (State.guardTick s).cru = s.cru :=
  have h := (State.guardTick_touch _ (by simp) (Touch.refl 8192 _))
  ⟨h.pending, h.out rfl, h.freeCnt rfl, h.timers rfl, h.tbu rfl, h.power rfl, h.regf rfl, h.sheet rfl, h.sheetOld rfl, h.hlu rfl, h.qen rfl, h.tnu rfl, h.gal rfl, h.mxe rfl, h.fca rfl, h.cdx rfl, h.spe rfl, h.hum rfl, h.bpm rfl, h.dmc rfl, h.ccl rfl, h.csu rfl, h.mgp rfl, h.cru rfl⟩

@[simp] theorem State.tempRead_units (d : Nat) (tempC : Int) (s : State) :
    (State.tempRead d tempC s).pending = s.pending ∧ (State.tempRead d tempC s).out = s.out ∧ (State.tempRead d tempC s).freeCnt = s.freeCnt ∧ (State.tempRead d tempC s).timers = s.timers ∧ (State.tempRead d tempC s).tbu = s.tbu ∧ (State.tempRead d tempC s).power = s.power ∧ (State.tempRead d tempC s).regf = s.regf ∧ (State.tempRead d tempC s).sheet = s.sheet ∧ (State.tempRead d tempC s).sheetOld = s.sheetOld ∧ (State.tempRead d tempC s).hlu = s.hlu ∧ (State.tempRead d tempC s).qen = s.qen ∧ (State.tempRead d tempC s).tnu = s.tnu ∧ (State.tempRead d tempC s).gal = s.gal ∧ (State.tempRead d tempC s).mxe = s.mxe ∧ (State.tempRead d tempC s).dsc = s.dsc ∧ (State.tempRead d tempC s).cdx = s.cdx ∧ (State.tempRead d tempC s).spe = s.spe ∧ (State.tempRead d tempC s).hum = s.hum ∧ (State.tempRead d tempC s).bpm = s.bpm ∧ (State.tempRead d tempC s).dmc = s.dmc ∧ (State.tempRead d tempC s).ccl = s.ccl ∧ (State.tempRead d tempC s).csu = s.csu ∧ (State.tempRead d tempC s).mgp = s.mgp ∧ (State.tempRead d tempC s).cru = s.cru :=
  have h := (State.tempRead_touch _ _ _ (by simp) (Touch.refl 16384 _))
  ⟨h.pending, h.out rfl, h.freeCnt rfl, h.timers rfl, h.tbu rfl, h.power rfl, h.regf rfl, h.sheet rfl, h.sheetOld rfl, h.hlu rfl, h.qen rfl, h.tnu rfl, h.gal rfl, h.mxe rfl, h.dsc rfl, h.cdx rfl, h.spe rfl, h.hum rfl, h.bpm rfl, h.dmc rfl, h.ccl rfl, h.csu rfl, h.mgp rfl, h.cru rfl⟩

@[simp] theorem State.grantFrom_units (k : Nat) (w : BufWaiter) (s : State) :
    (State.grantFrom k w s).pending = s.pending ∧ (State.grantFrom k w s).freeCnt = s.freeCnt ∧ (State.grantFrom k w s).timers = s.timers ∧ (State.grantFrom k w s).tbu = s.tbu ∧ (State.grantFrom k w s).power = s.power ∧ (State.grantFrom k w s).sheet = s.sheet ∧ (State.grantFrom k w s).sheetOld = s.sheetOld ∧ (State.grantFrom k w s).hlu = s.hlu ∧ (State.grantFrom k w s).qen = s.qen ∧ (State.grantFrom k w s).tnu = s.tnu ∧ (State.grantFrom k w s).gal = s.gal ∧ (State.grantFrom k w s).mxe = s.mxe ∧ (State.grantFrom k w s).dsc = s.dsc ∧ (State.grantFrom k w s).fca = s.fca ∧ (State.grantFrom k w s).cdx = s.cdx ∧ (State.grantFrom k w s).spe = s.spe ∧ (State.grantFrom k w s).hum = s.hum ∧ (State.grantFrom k w s).dmc = s.dmc ∧ (State.grantFrom k w s).ccl = s.ccl ∧ (State.grantFrom k w s).csu = s.csu ∧ (State.grantFrom k w s).mgp = s.mgp ∧ (State.grantFrom k w s).cru = s.cru :=
  have h := (State.grantFrom_touch _ _ _ (by simp) (Touch.refl 262177 _))
  ⟨h.pending, h.freeCnt rfl, h.timers rfl, h.tbu rfl, h.power rfl, h.sheet rfl, h.sheetOld rfl, h.hlu rfl, h.qen rfl, h.tnu rfl, h.gal rfl, h.mxe rfl, h.dsc rfl, h.fca rfl, h.cdx rfl, h.spe rfl, h.hum rfl, h.dmc rfl, h.ccl rfl, h.csu rfl, h.mgp rfl, h.cru rfl⟩

@[simp] theorem State.grantReserved_units (k : Nat) (w : BufWaiter) (s : State) :
    (State.grantReserved k w s).pending = s.pending ∧ (State.grantReserved k w s).freeCnt = s.freeCnt ∧ (State.grantReserved k w s).timers = s.timers ∧ (State.grantReserved k w s).tbu = s.tbu ∧ (State.grantReserved k w s).power = s.power ∧ (State.grantReserved k w s).sheet = s.sheet ∧ (State.grantReserved k w s).sheetOld = s.sheetOld ∧ (State.grantReserved k w s).hlu = s.hlu ∧ (State.grantReserved k w s).qen = s.qen ∧ (State.grantReserved k w s).tnu = s.tnu ∧ (State.grantReserved k w s).gal = s.gal ∧ (State.grantReserved k w s).mxe = s.mxe ∧ (State.grantReserved k w s).dsc = s.dsc ∧ (State.grantReserved k w s).fca = s.fca ∧ (State.grantReserved k w s).cdx = s.cdx ∧ (State.grantReserved k w s).spe = s.spe ∧ (State.grantReserved k w s).hum = s.hum ∧ (State.grantReserved k w s).dmc = s.dmc ∧ (State.grantReserved k w s).ccl = s.ccl ∧ (State.grantReserved k w s).csu = s.csu ∧ (State.grantReserved k w s).mgp = s.mgp ∧ (State.grantReserved k w s).cru = s.cru :=
  have h := (State.grantReserved_touch _ _ _ (by simp) (Touch.refl 262177 _))
  ⟨h.pending, h.freeCnt rfl, h.timers rfl, h.tbu rfl, h.power rfl, h.sheet rfl, h.sheetOld rfl, h.hlu rfl, h.qen rfl, h.tnu rfl, h.gal rfl, h.mxe rfl, h.dsc rfl, h.fca rfl, h.cdx rfl, h.spe rfl, h.hum rfl, h.dmc rfl, h.ccl rfl, h.csu rfl, h.mgp rfl, h.cru rfl⟩

@[simp] theorem State.admitHeld_units (s : State) :
    (State.admitHeld s).pending = s.pending ∧ (State.admitHeld s).out = s.out ∧ (State.admitHeld s).freeCnt = s.freeCnt ∧ (State.admitHeld s).timers = s.timers ∧ (State.admitHeld s).tbu = s.tbu ∧ (State.admitHeld s).power = s.power ∧ (State.admitHeld s).regf = s.regf ∧ (State.admitHeld s).sheet = s.sheet ∧ (State.admitHeld s).sheetOld = s.sheetOld ∧ (State.admitHeld s).hlu = s.hlu ∧ (State.admitHeld s).qen = s.qen ∧ (State.admitHeld s).tnu = s.tnu ∧ (State.admitHeld s).gal = s.gal ∧ (State.admitHeld s).mxe = s.mxe ∧ (State.admitHeld s).dsc = s.dsc ∧ (State.admitHeld s).fca = s.fca ∧ (State.admitHeld s).cdx = s.cdx ∧ (State.admitHeld s).spe = s.spe ∧ (State.admitHeld s).hum = s.hum ∧ (State.admitHeld s).dmc = s.dmc ∧ (State.admitHeld s).ccl = s.ccl ∧ (State.admitHeld s).csu = s.csu ∧ (State.admitHeld s).mgp = s.mgp ∧ (State.admitHeld s).cru = s.cru :=
  have h := (State.admitHeld_touch _ (by simp) (Touch.refl 262144 _))
  ⟨h.pending, h.out rfl, h.freeCnt rfl, h.timers rfl, h.tbu rfl, h.power rfl, h.regf rfl, h.sheet rfl, h.sheetOld rfl, h.hlu rfl, h.qen rfl, h.tnu rfl, h.gal rfl, h.mxe rfl, h.dsc rfl, h.fca rfl, h.cdx rfl, h.spe rfl, h.hum rfl, h.dmc rfl, h.ccl rfl, h.csu rfl, h.mgp rfl, h.cru rfl⟩

@[simp] theorem State.holdOver_units (s : State) :
    (State.holdOver s).pending = s.pending ∧ (State.holdOver s).out = s.out ∧ (State.holdOver s).freeCnt = s.freeCnt ∧ (State.holdOver s).timers = s.timers ∧ (State.holdOver s).tbu = s.tbu ∧ (State.holdOver s).power = s.power ∧ (State.holdOver s).regf = s.regf ∧ (State.holdOver s).sheet = s.sheet ∧ (State.holdOver s).sheetOld = s.sheetOld ∧ (State.holdOver s).hlu = s.hlu ∧ (State.holdOver s).qen = s.qen ∧ (State.holdOver s).tnu = s.tnu ∧ (State.holdOver s).gal = s.gal ∧ (State.holdOver s).mxe = s.mxe ∧ (State.holdOver s).dsc = s.dsc ∧ (State.holdOver s).fca = s.fca ∧ (State.holdOver s).cdx = s.cdx ∧ (State.holdOver s).spe = s.spe ∧ (State.holdOver s).hum = s.hum ∧ (State.holdOver s).dmc = s.dmc ∧ (State.holdOver s).ccl = s.ccl ∧ (State.holdOver s).csu = s.csu ∧ (State.holdOver s).mgp = s.mgp ∧ (State.holdOver s).cru = s.cru :=
  have h := (State.holdOver_touch _ (by simp) (Touch.refl 262144 _))
  ⟨h.pending, h.out rfl, h.freeCnt rfl, h.timers rfl, h.tbu rfl, h.power rfl, h.regf rfl, h.sheet rfl, h.sheetOld rfl, h.hlu rfl, h.qen rfl, h.tnu rfl, h.gal rfl, h.mxe rfl, h.dsc rfl, h.fca rfl, h.cdx rfl, h.spe rfl, h.hum rfl, h.dmc rfl, h.ccl rfl, h.csu rfl, h.mgp rfl, h.cru rfl⟩

@[simp] theorem State.bufRequest_units (w : BufWaiter) (s : State) :
    (State.bufRequest w s).pending = s.pending ∧ (State.bufRequest w s).freeCnt = s.freeCnt ∧ (State.bufRequest w s).timers = s.timers ∧ (State.bufRequest w s).tbu = s.tbu ∧ (State.bufRequest w s).power = s.power ∧ (State.bufRequest w s).sheet = s.sheet ∧ (State.bufRequest w s).sheetOld = s.sheetOld ∧ (State.bufRequest w s).hlu = s.hlu ∧ (State.bufRequest w s).qen = s.qen ∧ (State.bufRequest w s).tnu = s.tnu ∧ (State.bufRequest w s).gal = s.gal ∧ (State.bufRequest w s).mxe = s.mxe ∧ (State.bufRequest w s).dsc = s.dsc ∧ (State.bufRequest w s).fca = s.fca ∧ (State.bufRequest w s).cdx = s.cdx ∧ (State.bufRequest w s).spe = s.spe ∧ (State.bufRequest w s).hum = s.hum ∧ (State.bufRequest w s).dmc = s.dmc ∧ (State.bufRequest w s).ccl = s.ccl ∧ (State.bufRequest w s).csu = s.csu ∧ (State.bufRequest w s).mgp = s.mgp ∧ (State.bufRequest w s).cru = s.cru :=
  have h := (State.bufRequest_touch _ _ (by simp) (Touch.refl 262177 _))
  ⟨h.pending, h.freeCnt rfl, h.timers rfl, h.tbu rfl, h.power rfl, h.sheet rfl, h.sheetOld rfl, h.hlu rfl, h.qen rfl, h.tnu rfl, h.gal rfl, h.mxe rfl, h.dsc rfl, h.fca rfl, h.cdx rfl, h.spe rfl, h.hum rfl, h.dmc rfl, h.ccl rfl, h.csu rfl, h.mgp rfl, h.cru rfl⟩

@[simp] theorem State.refuseBuf_units (bit : Nat) (h : BitVec 24) (unit : Nat) (s : State) :
    (State.refuseBuf bit h unit s).pending = s.pending ∧ (State.refuseBuf bit h unit s).out = s.out ∧ (State.refuseBuf bit h unit s).freeCnt = s.freeCnt ∧ (State.refuseBuf bit h unit s).timers = s.timers ∧ (State.refuseBuf bit h unit s).tbu = s.tbu ∧ (State.refuseBuf bit h unit s).power = s.power ∧ (State.refuseBuf bit h unit s).sheet = s.sheet ∧ (State.refuseBuf bit h unit s).sheetOld = s.sheetOld ∧ (State.refuseBuf bit h unit s).hlu = s.hlu ∧ (State.refuseBuf bit h unit s).qen = s.qen ∧ (State.refuseBuf bit h unit s).tnu = s.tnu ∧ (State.refuseBuf bit h unit s).gal = s.gal ∧ (State.refuseBuf bit h unit s).mxe = s.mxe ∧ (State.refuseBuf bit h unit s).dsc = s.dsc ∧ (State.refuseBuf bit h unit s).fca = s.fca ∧ (State.refuseBuf bit h unit s).cdx = s.cdx ∧ (State.refuseBuf bit h unit s).spe = s.spe ∧ (State.refuseBuf bit h unit s).hum = s.hum ∧ (State.refuseBuf bit h unit s).dmc = s.dmc ∧ (State.refuseBuf bit h unit s).csu = s.csu ∧ (State.refuseBuf bit h unit s).mgp = s.mgp :=
  have h := (State.refuseBuf_touch _ _ _ _ (by simp) (Touch.refl 9699360 _))
  ⟨h.pending, h.out rfl, h.freeCnt rfl, h.timers rfl, h.tbu rfl, h.power rfl, h.sheet rfl, h.sheetOld rfl, h.hlu rfl, h.qen rfl, h.tnu rfl, h.gal rfl, h.mxe rfl, h.dsc rfl, h.fca rfl, h.cdx rfl, h.spe rfl, h.hum rfl, h.dmc rfl, h.csu rfl, h.mgp rfl⟩

@[simp] theorem State.retireBuf_units (k i : Nat) (s : State) :
    (State.retireBuf k i s).pending = s.pending ∧ (State.retireBuf k i s).freeCnt = s.freeCnt ∧ (State.retireBuf k i s).timers = s.timers ∧ (State.retireBuf k i s).tbu = s.tbu ∧ (State.retireBuf k i s).power = s.power ∧ (State.retireBuf k i s).sheet = s.sheet ∧ (State.retireBuf k i s).sheetOld = s.sheetOld ∧ (State.retireBuf k i s).hlu = s.hlu ∧ (State.retireBuf k i s).tnu = s.tnu ∧ (State.retireBuf k i s).gal = s.gal ∧ (State.retireBuf k i s).mxe = s.mxe ∧ (State.retireBuf k i s).dsc = s.dsc ∧ (State.retireBuf k i s).fca = s.fca ∧ (State.retireBuf k i s).cdx = s.cdx ∧ (State.retireBuf k i s).spe = s.spe ∧ (State.retireBuf k i s).hum = s.hum ∧ (State.retireBuf k i s).dmc = s.dmc ∧ (State.retireBuf k i s).ccl = s.ccl ∧ (State.retireBuf k i s).csu = s.csu :=
  have h := (State.retireBuf_touch _ _ _ (by simp) (Touch.refl 12845601 _))
  ⟨h.pending, h.freeCnt rfl, h.timers rfl, h.tbu rfl, h.power rfl, h.sheet rfl, h.sheetOld rfl, h.hlu rfl, h.tnu rfl, h.gal rfl, h.mxe rfl, h.dsc rfl, h.fca rfl, h.cdx rfl, h.spe rfl, h.hum rfl, h.dmc rfl, h.ccl rfl, h.csu rfl⟩

@[simp] theorem State.releaseBuf_units (k i : Nat) (s : State) :
    (State.releaseBuf k i s).pending = s.pending ∧ (State.releaseBuf k i s).freeCnt = s.freeCnt ∧ (State.releaseBuf k i s).timers = s.timers ∧ (State.releaseBuf k i s).tbu = s.tbu ∧ (State.releaseBuf k i s).power = s.power ∧ (State.releaseBuf k i s).sheet = s.sheet ∧ (State.releaseBuf k i s).sheetOld = s.sheetOld ∧ (State.releaseBuf k i s).hlu = s.hlu ∧ (State.releaseBuf k i s).tnu = s.tnu ∧ (State.releaseBuf k i s).gal = s.gal ∧ (State.releaseBuf k i s).mxe = s.mxe ∧ (State.releaseBuf k i s).dsc = s.dsc ∧ (State.releaseBuf k i s).fca = s.fca ∧ (State.releaseBuf k i s).cdx = s.cdx ∧ (State.releaseBuf k i s).spe = s.spe ∧ (State.releaseBuf k i s).hum = s.hum ∧ (State.releaseBuf k i s).dmc = s.dmc ∧ (State.releaseBuf k i s).ccl = s.ccl ∧ (State.releaseBuf k i s).csu = s.csu :=
  have h := (State.releaseBuf_touch _ _ _ (by simp) (Touch.refl 12845601 _))
  ⟨h.pending, h.freeCnt rfl, h.timers rfl, h.tbu rfl, h.power rfl, h.sheet rfl, h.sheetOld rfl, h.hlu rfl, h.tnu rfl, h.gal rfl, h.mxe rfl, h.dsc rfl, h.fca rfl, h.cdx rfl, h.spe rfl, h.hum rfl, h.dmc rfl, h.ccl rfl, h.csu rfl⟩

@[simp] theorem State.lastFree_units (k i : Nat) (s : State) :
    (State.lastFree k i s).pending = s.pending ∧ (State.lastFree k i s).freeCnt = s.freeCnt ∧ (State.lastFree k i s).timers = s.timers ∧ (State.lastFree k i s).tbu = s.tbu ∧ (State.lastFree k i s).power = s.power ∧ (State.lastFree k i s).sheet = s.sheet ∧ (State.lastFree k i s).sheetOld = s.sheetOld ∧ (State.lastFree k i s).hlu = s.hlu ∧ (State.lastFree k i s).tnu = s.tnu ∧ (State.lastFree k i s).gal = s.gal ∧ (State.lastFree k i s).mxe = s.mxe ∧ (State.lastFree k i s).dsc = s.dsc ∧ (State.lastFree k i s).fca = s.fca ∧ (State.lastFree k i s).cdx = s.cdx ∧ (State.lastFree k i s).spe = s.spe ∧ (State.lastFree k i s).hum = s.hum ∧ (State.lastFree k i s).dmc = s.dmc ∧ (State.lastFree k i s).ccl = s.ccl ∧ (State.lastFree k i s).csu = s.csu :=
  have h := (State.lastFree_touch _ _ _ (by simp) (Touch.refl 12845601 _))
  ⟨h.pending, h.freeCnt rfl, h.timers rfl, h.tbu rfl, h.power rfl, h.sheet rfl, h.sheetOld rfl, h.hlu rfl, h.tnu rfl, h.gal rfl, h.mxe rfl, h.dsc rfl, h.fca rfl, h.cdx rfl, h.spe rfl, h.hum rfl, h.dmc rfl, h.ccl rfl, h.csu rfl⟩

@[simp] theorem State.bufFree_units (h : BitVec 24) (unit : Nat) (s : State) :
    (State.bufFree h unit s).pending = s.pending ∧ (State.bufFree h unit s).freeCnt = s.freeCnt ∧ (State.bufFree h unit s).timers = s.timers ∧ (State.bufFree h unit s).tbu = s.tbu ∧ (State.bufFree h unit s).power = s.power ∧ (State.bufFree h unit s).sheet = s.sheet ∧ (State.bufFree h unit s).sheetOld = s.sheetOld ∧ (State.bufFree h unit s).hlu = s.hlu ∧ (State.bufFree h unit s).tnu = s.tnu ∧ (State.bufFree h unit s).gal = s.gal ∧ (State.bufFree h unit s).mxe = s.mxe ∧ (State.bufFree h unit s).dsc = s.dsc ∧ (State.bufFree h unit s).fca = s.fca ∧ (State.bufFree h unit s).cdx = s.cdx ∧ (State.bufFree h unit s).spe = s.spe ∧ (State.bufFree h unit s).hum = s.hum ∧ (State.bufFree h unit s).dmc = s.dmc ∧ (State.bufFree h unit s).csu = s.csu :=
  have h := (State.bufFree_touch _ _ _ (by simp) (Touch.refl 13894177 _))
  ⟨h.pending, h.freeCnt rfl, h.timers rfl, h.tbu rfl, h.power rfl, h.sheet rfl, h.sheetOld rfl, h.hlu rfl, h.tnu rfl, h.gal rfl, h.mxe rfl, h.dsc rfl, h.fca rfl, h.cdx rfl, h.spe rfl, h.hum rfl, h.dmc rfl, h.csu rfl⟩

@[simp] theorem State.freeBufsOf_units (unit : Nat) (hs : List (BitVec 24)) (s : State) :
    (State.freeBufsOf unit hs s).pending = s.pending ∧ (State.freeBufsOf unit hs s).freeCnt = s.freeCnt ∧ (State.freeBufsOf unit hs s).timers = s.timers ∧ (State.freeBufsOf unit hs s).tbu = s.tbu ∧ (State.freeBufsOf unit hs s).power = s.power ∧ (State.freeBufsOf unit hs s).sheet = s.sheet ∧ (State.freeBufsOf unit hs s).sheetOld = s.sheetOld ∧ (State.freeBufsOf unit hs s).hlu = s.hlu ∧ (State.freeBufsOf unit hs s).tnu = s.tnu ∧ (State.freeBufsOf unit hs s).gal = s.gal ∧ (State.freeBufsOf unit hs s).mxe = s.mxe ∧ (State.freeBufsOf unit hs s).dsc = s.dsc ∧ (State.freeBufsOf unit hs s).fca = s.fca ∧ (State.freeBufsOf unit hs s).cdx = s.cdx ∧ (State.freeBufsOf unit hs s).spe = s.spe ∧ (State.freeBufsOf unit hs s).hum = s.hum ∧ (State.freeBufsOf unit hs s).dmc = s.dmc ∧ (State.freeBufsOf unit hs s).csu = s.csu :=
  have h := (State.freeBufsOf_touch _ _ _ (by simp) (Touch.refl 13894177 _))
  ⟨h.pending, h.freeCnt rfl, h.timers rfl, h.tbu rfl, h.power rfl, h.sheet rfl, h.sheetOld rfl, h.hlu rfl, h.tnu rfl, h.gal rfl, h.mxe rfl, h.dsc rfl, h.fca rfl, h.cdx rfl, h.spe rfl, h.hum rfl, h.dmc rfl, h.csu rfl⟩

@[simp] theorem State.freeBufs_units (hs : List (BitVec 24)) (s : State) :
    (State.freeBufs hs s).pending = s.pending ∧ (State.freeBufs hs s).freeCnt = s.freeCnt ∧ (State.freeBufs hs s).timers = s.timers ∧ (State.freeBufs hs s).tbu = s.tbu ∧ (State.freeBufs hs s).power = s.power ∧ (State.freeBufs hs s).sheet = s.sheet ∧ (State.freeBufs hs s).sheetOld = s.sheetOld ∧ (State.freeBufs hs s).hlu = s.hlu ∧ (State.freeBufs hs s).tnu = s.tnu ∧ (State.freeBufs hs s).gal = s.gal ∧ (State.freeBufs hs s).mxe = s.mxe ∧ (State.freeBufs hs s).dsc = s.dsc ∧ (State.freeBufs hs s).fca = s.fca ∧ (State.freeBufs hs s).cdx = s.cdx ∧ (State.freeBufs hs s).spe = s.spe ∧ (State.freeBufs hs s).hum = s.hum ∧ (State.freeBufs hs s).dmc = s.dmc ∧ (State.freeBufs hs s).csu = s.csu :=
  have h := (State.freeBufs_touch _ _ (by simp) (Touch.refl 13894177 _))
  ⟨h.pending, h.freeCnt rfl, h.timers rfl, h.tbu rfl, h.power rfl, h.sheet rfl, h.sheetOld rfl, h.hlu rfl, h.tnu rfl, h.gal rfl, h.mxe rfl, h.dsc rfl, h.fca rfl, h.cdx rfl, h.spe rfl, h.hum rfl, h.dmc rfl, h.csu rfl⟩

@[simp] theorem State.chainStep_units (unit : Nat) (h : BitVec 24) (s : State) :
    (State.chainStep unit h s).pending = s.pending ∧ (State.chainStep unit h s).freeCnt = s.freeCnt ∧ (State.chainStep unit h s).timers = s.timers ∧ (State.chainStep unit h s).tbu = s.tbu ∧ (State.chainStep unit h s).power = s.power ∧ (State.chainStep unit h s).sheet = s.sheet ∧ (State.chainStep unit h s).sheetOld = s.sheetOld ∧ (State.chainStep unit h s).hlu = s.hlu ∧ (State.chainStep unit h s).tnu = s.tnu ∧ (State.chainStep unit h s).gal = s.gal ∧ (State.chainStep unit h s).mxe = s.mxe ∧ (State.chainStep unit h s).dsc = s.dsc ∧ (State.chainStep unit h s).fca = s.fca ∧ (State.chainStep unit h s).cdx = s.cdx ∧ (State.chainStep unit h s).spe = s.spe ∧ (State.chainStep unit h s).hum = s.hum ∧ (State.chainStep unit h s).dmc = s.dmc ∧ (State.chainStep unit h s).csu = s.csu :=
  have h := (State.chainStep_touch _ _ _ (by simp) (Touch.refl 13894177 _))
  ⟨h.pending, h.freeCnt rfl, h.timers rfl, h.tbu rfl, h.power rfl, h.sheet rfl, h.sheetOld rfl, h.hlu rfl, h.tnu rfl, h.gal rfl, h.mxe rfl, h.dsc rfl, h.fca rfl, h.cdx rfl, h.spe rfl, h.hum rfl, h.dmc rfl, h.csu rfl⟩

@[simp] theorem State.chainTick_units (s : State) :
    (State.chainTick s).pending = s.pending ∧ (State.chainTick s).freeCnt = s.freeCnt ∧ (State.chainTick s).timers = s.timers ∧ (State.chainTick s).tbu = s.tbu ∧ (State.chainTick s).power = s.power ∧ (State.chainTick s).sheet = s.sheet ∧ (State.chainTick s).sheetOld = s.sheetOld ∧ (State.chainTick s).hlu = s.hlu ∧ (State.chainTick s).tnu = s.tnu ∧ (State.chainTick s).gal = s.gal ∧ (State.chainTick s).mxe = s.mxe ∧ (State.chainTick s).dsc = s.dsc ∧ (State.chainTick s).fca = s.fca ∧ (State.chainTick s).cdx = s.cdx ∧ (State.chainTick s).spe = s.spe ∧ (State.chainTick s).hum = s.hum ∧ (State.chainTick s).dmc = s.dmc ∧ (State.chainTick s).csu = s.csu :=
  have h := (State.chainTick_touch _ (by simp) (Touch.refl 13894177 _))
  ⟨h.pending, h.freeCnt rfl, h.timers rfl, h.tbu rfl, h.power rfl, h.sheet rfl, h.sheetOld rfl, h.hlu rfl, h.tnu rfl, h.gal rfl, h.mxe rfl, h.dsc rfl, h.fca rfl, h.cdx rfl, h.spe rfl, h.hum rfl, h.dmc rfl, h.csu rfl⟩

@[simp] theorem State.rebuildPools_units (takeCounts : Bool) (s : State) :
    (State.rebuildPools takeCounts s).pending = s.pending ∧ (State.rebuildPools takeCounts s).out = s.out ∧ (State.rebuildPools takeCounts s).freeCnt = s.freeCnt ∧ (State.rebuildPools takeCounts s).timers = s.timers ∧ (State.rebuildPools takeCounts s).tbu = s.tbu ∧ (State.rebuildPools takeCounts s).power = s.power ∧ (State.rebuildPools takeCounts s).sheet = s.sheet ∧ (State.rebuildPools takeCounts s).sheetOld = s.sheetOld ∧ (State.rebuildPools takeCounts s).hlu = s.hlu ∧ (State.rebuildPools takeCounts s).qen = s.qen ∧ (State.rebuildPools takeCounts s).tnu = s.tnu ∧ (State.rebuildPools takeCounts s).gal = s.gal ∧ (State.rebuildPools takeCounts s).mxe = s.mxe ∧ (State.rebuildPools takeCounts s).dsc = s.dsc ∧ (State.rebuildPools takeCounts s).fca = s.fca ∧ (State.rebuildPools takeCounts s).cdx = s.cdx ∧ (State.rebuildPools takeCounts s).spe = s.spe ∧ (State.rebuildPools takeCounts s).hum = s.hum ∧ (State.rebuildPools takeCounts s).dmc = s.dmc ∧ (State.rebuildPools takeCounts s).ccl = s.ccl ∧ (State.rebuildPools takeCounts s).csu = s.csu ∧ (State.rebuildPools takeCounts s).mgp = s.mgp ∧ (State.rebuildPools takeCounts s).cru = s.cru :=
  have h := (State.rebuildPools_touch _ _ (by simp) (Touch.refl 262176 _))
  ⟨h.pending, h.out rfl, h.freeCnt rfl, h.timers rfl, h.tbu rfl, h.power rfl, h.sheet rfl, h.sheetOld rfl, h.hlu rfl, h.qen rfl, h.tnu rfl, h.gal rfl, h.mxe rfl, h.dsc rfl, h.fca rfl, h.cdx rfl, h.spe rfl, h.hum rfl, h.dmc rfl, h.ccl rfl, h.csu rfl, h.mgp rfl, h.cru rfl⟩

@[simp] theorem State.modSlice_units (n : Nat) (f : SliceSt → SliceSt) (s : State) :
    (State.modSlice n f s).pending = s.pending ∧ (State.modSlice n f s).out = s.out ∧ (State.modSlice n f s).freeCnt = s.freeCnt ∧ (State.modSlice n f s).timers = s.timers ∧ (State.modSlice n f s).tbu = s.tbu ∧ (State.modSlice n f s).power = s.power ∧ (State.modSlice n f s).regf = s.regf ∧ (State.modSlice n f s).sheet = s.sheet ∧ (State.modSlice n f s).sheetOld = s.sheetOld ∧ (State.modSlice n f s).hlu = s.hlu ∧ (State.modSlice n f s).qen = s.qen ∧ (State.modSlice n f s).gal = s.gal ∧ (State.modSlice n f s).mxe = s.mxe ∧ (State.modSlice n f s).dsc = s.dsc ∧ (State.modSlice n f s).fca = s.fca ∧ (State.modSlice n f s).cdx = s.cdx ∧ (State.modSlice n f s).spe = s.spe ∧ (State.modSlice n f s).hum = s.hum ∧ (State.modSlice n f s).bpm = s.bpm ∧ (State.modSlice n f s).dmc = s.dmc ∧ (State.modSlice n f s).ccl = s.ccl ∧ (State.modSlice n f s).csu = s.csu ∧ (State.modSlice n f s).mgp = s.mgp ∧ (State.modSlice n f s).cru = s.cru :=
  have h := (State.modSlice_touch _ _ _ (by simp) (Touch.refl 1024 _))
  ⟨h.pending, h.out rfl, h.freeCnt rfl, h.timers rfl, h.tbu rfl, h.power rfl, h.regf rfl, h.sheet rfl, h.sheetOld rfl, h.hlu rfl, h.qen rfl, h.gal rfl, h.mxe rfl, h.dsc rfl, h.fca rfl, h.cdx rfl, h.spe rfl, h.hum rfl, h.bpm rfl, h.dmc rfl, h.ccl rfl, h.csu rfl, h.mgp rfl, h.cru rfl⟩

@[simp] theorem State.dlogWrite_units (sl : Nat) (e : Dword) (s : State) :
    (State.dlogWrite sl e s).pending = s.pending ∧ (State.dlogWrite sl e s).freeCnt = s.freeCnt ∧ (State.dlogWrite sl e s).timers = s.timers ∧ (State.dlogWrite sl e s).tbu = s.tbu ∧ (State.dlogWrite sl e s).power = s.power ∧ (State.dlogWrite sl e s).regf = s.regf ∧ (State.dlogWrite sl e s).sheet = s.sheet ∧ (State.dlogWrite sl e s).sheetOld = s.sheetOld ∧ (State.dlogWrite sl e s).hlu = s.hlu ∧ (State.dlogWrite sl e s).qen = s.qen ∧ (State.dlogWrite sl e s).gal = s.gal ∧ (State.dlogWrite sl e s).mxe = s.mxe ∧ (State.dlogWrite sl e s).dsc = s.dsc ∧ (State.dlogWrite sl e s).fca = s.fca ∧ (State.dlogWrite sl e s).cdx = s.cdx ∧ (State.dlogWrite sl e s).spe = s.spe ∧ (State.dlogWrite sl e s).hum = s.hum ∧ (State.dlogWrite sl e s).bpm = s.bpm ∧ (State.dlogWrite sl e s).dmc = s.dmc ∧ (State.dlogWrite sl e s).ccl = s.ccl ∧ (State.dlogWrite sl e s).csu = s.csu ∧ (State.dlogWrite sl e s).mgp = s.mgp ∧ (State.dlogWrite sl e s).cru = s.cru :=
  have h := (State.dlogWrite_touch _ _ _ (by simp) (Touch.refl 1025 _))
  ⟨h.pending, h.freeCnt rfl, h.timers rfl, h.tbu rfl, h.power rfl, h.regf rfl, h.sheet rfl, h.sheetOld rfl, h.hlu rfl, h.qen rfl, h.gal rfl, h.mxe rfl, h.dsc rfl, h.fca rfl, h.cdx rfl, h.spe rfl, h.hum rfl, h.bpm rfl, h.dmc rfl, h.ccl rfl, h.csu rfl, h.mgp rfl, h.cru rfl⟩

@[simp] theorem State.dlogEntry_units (sl : Nat) (e : Dword) (s : State) :
    (State.dlogEntry sl e s).pending = s.pending ∧ (State.dlogEntry sl e s).freeCnt = s.freeCnt ∧ (State.dlogEntry sl e s).timers = s.timers ∧ (State.dlogEntry sl e s).tbu = s.tbu ∧ (State.dlogEntry sl e s).power = s.power ∧ (State.dlogEntry sl e s).regf = s.regf ∧ (State.dlogEntry sl e s).sheet = s.sheet ∧ (State.dlogEntry sl e s).sheetOld = s.sheetOld ∧ (State.dlogEntry sl e s).hlu = s.hlu ∧ (State.dlogEntry sl e s).qen = s.qen ∧ (State.dlogEntry sl e s).gal = s.gal ∧ (State.dlogEntry sl e s).mxe = s.mxe ∧ (State.dlogEntry sl e s).dsc = s.dsc ∧ (State.dlogEntry sl e s).fca = s.fca ∧ (State.dlogEntry sl e s).cdx = s.cdx ∧ (State.dlogEntry sl e s).spe = s.spe ∧ (State.dlogEntry sl e s).hum = s.hum ∧ (State.dlogEntry sl e s).bpm = s.bpm ∧ (State.dlogEntry sl e s).dmc = s.dmc ∧ (State.dlogEntry sl e s).ccl = s.ccl ∧ (State.dlogEntry sl e s).csu = s.csu ∧ (State.dlogEntry sl e s).mgp = s.mgp ∧ (State.dlogEntry sl e s).cru = s.cru :=
  have h := (State.dlogEntry_touch _ _ _ (by simp) (Touch.refl 1025 _))
  ⟨h.pending, h.freeCnt rfl, h.timers rfl, h.tbu rfl, h.power rfl, h.regf rfl, h.sheet rfl, h.sheetOld rfl, h.hlu rfl, h.qen rfl, h.gal rfl, h.mxe rfl, h.dsc rfl, h.fca rfl, h.cdx rfl, h.spe rfl, h.hum rfl, h.bpm rfl, h.dmc rfl, h.ccl rfl, h.csu rfl, h.mgp rfl, h.cru rfl⟩

@[simp] theorem State.dlogDrain_units (sl : Nat) (l : List Dword) (s : State) :
    (State.dlogDrain sl l s).pending = s.pending ∧ (State.dlogDrain sl l s).freeCnt = s.freeCnt ∧ (State.dlogDrain sl l s).timers = s.timers ∧ (State.dlogDrain sl l s).tbu = s.tbu ∧ (State.dlogDrain sl l s).power = s.power ∧ (State.dlogDrain sl l s).regf = s.regf ∧ (State.dlogDrain sl l s).sheet = s.sheet ∧ (State.dlogDrain sl l s).sheetOld = s.sheetOld ∧ (State.dlogDrain sl l s).hlu = s.hlu ∧ (State.dlogDrain sl l s).qen = s.qen ∧ (State.dlogDrain sl l s).gal = s.gal ∧ (State.dlogDrain sl l s).mxe = s.mxe ∧ (State.dlogDrain sl l s).dsc = s.dsc ∧ (State.dlogDrain sl l s).fca = s.fca ∧ (State.dlogDrain sl l s).cdx = s.cdx ∧ (State.dlogDrain sl l s).spe = s.spe ∧ (State.dlogDrain sl l s).hum = s.hum ∧ (State.dlogDrain sl l s).bpm = s.bpm ∧ (State.dlogDrain sl l s).dmc = s.dmc ∧ (State.dlogDrain sl l s).ccl = s.ccl ∧ (State.dlogDrain sl l s).csu = s.csu ∧ (State.dlogDrain sl l s).mgp = s.mgp ∧ (State.dlogDrain sl l s).cru = s.cru :=
  have h := (State.dlogDrain_touch _ _ _ (by simp) (Touch.refl 1025 _))
  ⟨h.pending, h.freeCnt rfl, h.timers rfl, h.tbu rfl, h.power rfl, h.regf rfl, h.sheet rfl, h.sheetOld rfl, h.hlu rfl, h.qen rfl, h.gal rfl, h.mxe rfl, h.dsc rfl, h.fca rfl, h.cdx rfl, h.spe rfl, h.hum rfl, h.bpm rfl, h.dmc rfl, h.ccl rfl, h.csu rfl, h.mgp rfl, h.cru rfl⟩

@[simp] theorem State.dlogTick_units (s : State) :
    (State.dlogTick s).pending = s.pending ∧ (State.dlogTick s).freeCnt = s.freeCnt ∧ (State.dlogTick s).timers = s.timers ∧ (State.dlogTick s).tbu = s.tbu ∧ (State.dlogTick s).power = s.power ∧ (State.dlogTick s).regf = s.regf ∧ (State.dlogTick s).sheet = s.sheet ∧ (State.dlogTick s).sheetOld = s.sheetOld ∧ (State.dlogTick s).hlu = s.hlu ∧ (State.dlogTick s).qen = s.qen ∧ (State.dlogTick s).gal = s.gal ∧ (State.dlogTick s).mxe = s.mxe ∧ (State.dlogTick s).dsc = s.dsc ∧ (State.dlogTick s).fca = s.fca ∧ (State.dlogTick s).cdx = s.cdx ∧ (State.dlogTick s).spe = s.spe ∧ (State.dlogTick s).hum = s.hum ∧ (State.dlogTick s).bpm = s.bpm ∧ (State.dlogTick s).dmc = s.dmc ∧ (State.dlogTick s).ccl = s.ccl ∧ (State.dlogTick s).csu = s.csu ∧ (State.dlogTick s).mgp = s.mgp ∧ (State.dlogTick s).cru = s.cru :=
  have h := (State.dlogTick_touch _ (by simp) (Touch.refl 1025 _))
  ⟨h.pending, h.freeCnt rfl, h.timers rfl, h.tbu rfl, h.power rfl, h.regf rfl, h.sheet rfl, h.sheetOld rfl, h.hlu rfl, h.qen rfl, h.gal rfl, h.mxe rfl, h.dsc rfl, h.fca rfl, h.cdx rfl, h.spe rfl, h.hum rfl, h.bpm rfl, h.dmc rfl, h.ccl rfl, h.csu rfl, h.mgp rfl, h.cru rfl⟩

@[simp] theorem State.logExtents_units (sl nsid first n : Nat) (s : State) :
    (State.logExtents sl nsid first n s).pending = s.pending ∧ (State.logExtents sl nsid first n s).freeCnt = s.freeCnt ∧ (State.logExtents sl nsid first n s).timers = s.timers ∧ (State.logExtents sl nsid first n s).tbu = s.tbu ∧ (State.logExtents sl nsid first n s).power = s.power ∧ (State.logExtents sl nsid first n s).regf = s.regf ∧ (State.logExtents sl nsid first n s).sheet = s.sheet ∧ (State.logExtents sl nsid first n s).sheetOld = s.sheetOld ∧ (State.logExtents sl nsid first n s).hlu = s.hlu ∧ (State.logExtents sl nsid first n s).qen = s.qen ∧ (State.logExtents sl nsid first n s).gal = s.gal ∧ (State.logExtents sl nsid first n s).mxe = s.mxe ∧ (State.logExtents sl nsid first n s).dsc = s.dsc ∧ (State.logExtents sl nsid first n s).fca = s.fca ∧ (State.logExtents sl nsid first n s).cdx = s.cdx ∧ (State.logExtents sl nsid first n s).spe = s.spe ∧ (State.logExtents sl nsid first n s).hum = s.hum ∧ (State.logExtents sl nsid first n s).bpm = s.bpm ∧ (State.logExtents sl nsid first n s).dmc = s.dmc ∧ (State.logExtents sl nsid first n s).ccl = s.ccl ∧ (State.logExtents sl nsid first n s).csu = s.csu ∧ (State.logExtents sl nsid first n s).mgp = s.mgp ∧ (State.logExtents sl nsid first n s).cru = s.cru :=
  have h := (State.logExtents_touch _ _ _ _ _ (by simp) (Touch.refl 1025 _))
  ⟨h.pending, h.freeCnt rfl, h.timers rfl, h.tbu rfl, h.power rfl, h.regf rfl, h.sheet rfl, h.sheetOld rfl, h.hlu rfl, h.qen rfl, h.gal rfl, h.mxe rfl, h.dsc rfl, h.fca rfl, h.cdx rfl, h.spe rfl, h.hum rfl, h.bpm rfl, h.dmc rfl, h.ccl rfl, h.csu rfl, h.mgp rfl, h.cru rfl⟩

@[simp] theorem State.completeRead_units (kind : CplKind) (addr : Nat) (data : List Byte) (s : State) :
    (State.completeRead kind addr data s).pending = s.pending ∧ (State.completeRead kind addr data s).freeCnt = s.freeCnt ∧ (State.completeRead kind addr data s).timers = s.timers ∧ (State.completeRead kind addr data s).tbu = s.tbu ∧ (State.completeRead kind addr data s).power = s.power ∧ (State.completeRead kind addr data s).sheet = s.sheet ∧ (State.completeRead kind addr data s).sheetOld = s.sheetOld ∧ (State.completeRead kind addr data s).qen = s.qen ∧ (State.completeRead kind addr data s).tnu = s.tnu ∧ (State.completeRead kind addr data s).gal = s.gal ∧ (State.completeRead kind addr data s).mxe = s.mxe ∧ (State.completeRead kind addr data s).dsc = s.dsc ∧ (State.completeRead kind addr data s).fca = s.fca ∧ (State.completeRead kind addr data s).cdx = s.cdx ∧ (State.completeRead kind addr data s).spe = s.spe ∧ (State.completeRead kind addr data s).hum = s.hum ∧ (State.completeRead kind addr data s).bpm = s.bpm ∧ (State.completeRead kind addr data s).dmc = s.dmc ∧ (State.completeRead kind addr data s).ccl = s.ccl ∧ (State.completeRead kind addr data s).csu = s.csu ∧ (State.completeRead kind addr data s).mgp = s.mgp ∧ (State.completeRead kind addr data s).cru = s.cru :=
  have h := (State.completeRead_touch _ _ _ _ (by simp) (Touch.refl 289 _))
  ⟨h.pending, h.freeCnt rfl, h.timers rfl, h.tbu rfl, h.power rfl, h.sheet rfl, h.sheetOld rfl, h.qen rfl, h.tnu rfl, h.gal rfl, h.mxe rfl, h.dsc rfl, h.fca rfl, h.cdx rfl, h.spe rfl, h.hum rfl, h.bpm rfl, h.dmc rfl, h.ccl rfl, h.csu rfl, h.mgp rfl, h.cru rfl⟩

@[simp] theorem State.complete_units (kind : CplKind) (s : State) :
    (State.complete kind s).pending = s.pending ∧ (State.complete kind s).freeCnt = s.freeCnt ∧ (State.complete kind s).timers = s.timers ∧ (State.complete kind s).tbu = s.tbu ∧ (State.complete kind s).power = s.power ∧ (State.complete kind s).regf = s.regf ∧ (State.complete kind s).sheet = s.sheet ∧ (State.complete kind s).sheetOld = s.sheetOld ∧ (State.complete kind s).hlu = s.hlu ∧ (State.complete kind s).qen = s.qen ∧ (State.complete kind s).tnu = s.tnu ∧ (State.complete kind s).gal = s.gal ∧ (State.complete kind s).mxe = s.mxe ∧ (State.complete kind s).dsc = s.dsc ∧ (State.complete kind s).fca = s.fca ∧ (State.complete kind s).cdx = s.cdx ∧ (State.complete kind s).spe = s.spe ∧ (State.complete kind s).hum = s.hum ∧ (State.complete kind s).bpm = s.bpm ∧ (State.complete kind s).dmc = s.dmc ∧ (State.complete kind s).ccl = s.ccl ∧ (State.complete kind s).csu = s.csu ∧ (State.complete kind s).mgp = s.mgp ∧ (State.complete kind s).cru = s.cru :=
  have h := (State.complete_touch _ _ (by simp) (Touch.refl 1 _))
  ⟨h.pending, h.freeCnt rfl, h.timers rfl, h.tbu rfl, h.power rfl, h.regf rfl, h.sheet rfl, h.sheetOld rfl, h.hlu rfl, h.qen rfl, h.tnu rfl, h.gal rfl, h.mxe rfl, h.dsc rfl, h.fca rfl, h.cdx rfl, h.spe rfl, h.hum rfl, h.bpm rfl, h.dmc rfl, h.ccl rfl, h.csu rfl, h.mgp rfl, h.cru rfl⟩

@[simp] theorem State.aerLog_units (e : AerError) (s : State) :
    (State.aerLog e s).pending = s.pending ∧ (State.aerLog e s).freeCnt = s.freeCnt ∧ (State.aerLog e s).timers = s.timers ∧ (State.aerLog e s).tbu = s.tbu ∧ (State.aerLog e s).power = s.power ∧ (State.aerLog e s).sheet = s.sheet ∧ (State.aerLog e s).sheetOld = s.sheetOld ∧ (State.aerLog e s).qen = s.qen ∧ (State.aerLog e s).tnu = s.tnu ∧ (State.aerLog e s).gal = s.gal ∧ (State.aerLog e s).mxe = s.mxe ∧ (State.aerLog e s).dsc = s.dsc ∧ (State.aerLog e s).fca = s.fca ∧ (State.aerLog e s).cdx = s.cdx ∧ (State.aerLog e s).spe = s.spe ∧ (State.aerLog e s).hum = s.hum ∧ (State.aerLog e s).bpm = s.bpm ∧ (State.aerLog e s).dmc = s.dmc ∧ (State.aerLog e s).ccl = s.ccl ∧ (State.aerLog e s).csu = s.csu ∧ (State.aerLog e s).mgp = s.mgp :=
  have h := (State.aerLog_touch _ _ (by simp) (Touch.refl 8388897 _))
  ⟨h.pending, h.freeCnt rfl, h.timers rfl, h.tbu rfl, h.power rfl, h.sheet rfl, h.sheetOld rfl, h.qen rfl, h.tnu rfl, h.gal rfl, h.mxe rfl, h.dsc rfl, h.fca rfl, h.cdx rfl, h.spe rfl, h.hum rfl, h.bpm rfl, h.dmc rfl, h.ccl rfl, h.csu rfl, h.mgp rfl⟩

@[simp] theorem State.urTlp_units (np : Bool) (s : State) :
    (State.urTlp np s).pending = s.pending ∧ (State.urTlp np s).freeCnt = s.freeCnt ∧ (State.urTlp np s).timers = s.timers ∧ (State.urTlp np s).tbu = s.tbu ∧ (State.urTlp np s).power = s.power ∧ (State.urTlp np s).sheet = s.sheet ∧ (State.urTlp np s).sheetOld = s.sheetOld ∧ (State.urTlp np s).qen = s.qen ∧ (State.urTlp np s).tnu = s.tnu ∧ (State.urTlp np s).gal = s.gal ∧ (State.urTlp np s).mxe = s.mxe ∧ (State.urTlp np s).dsc = s.dsc ∧ (State.urTlp np s).fca = s.fca ∧ (State.urTlp np s).cdx = s.cdx ∧ (State.urTlp np s).spe = s.spe ∧ (State.urTlp np s).hum = s.hum ∧ (State.urTlp np s).bpm = s.bpm ∧ (State.urTlp np s).dmc = s.dmc ∧ (State.urTlp np s).ccl = s.ccl ∧ (State.urTlp np s).csu = s.csu ∧ (State.urTlp np s).mgp = s.mgp :=
  have h := (State.urTlp_touch _ _ (by simp) (Touch.refl 8388897 _))
  ⟨h.pending, h.freeCnt rfl, h.timers rfl, h.tbu rfl, h.power rfl, h.sheet rfl, h.sheetOld rfl, h.qen rfl, h.tnu rfl, h.gal rfl, h.mxe rfl, h.dsc rfl, h.fca rfl, h.cdx rfl, h.spe rfl, h.hum rfl, h.bpm rfl, h.dmc rfl, h.ccl rfl, h.csu rfl, h.mgp rfl⟩

@[simp] theorem State.issueTag_units (t : Nat) (use : TagUse) (fn sl : Nat) (untranslated : Bool) (s : State) :
    (State.issueTag t use fn sl untranslated s).pending = s.pending ∧ (State.issueTag t use fn sl untranslated s).out = s.out ∧ (State.issueTag t use fn sl untranslated s).freeCnt = s.freeCnt ∧ (State.issueTag t use fn sl untranslated s).timers = s.timers ∧ (State.issueTag t use fn sl untranslated s).tbu = s.tbu ∧ (State.issueTag t use fn sl untranslated s).power = s.power ∧ (State.issueTag t use fn sl untranslated s).regf = s.regf ∧ (State.issueTag t use fn sl untranslated s).sheet = s.sheet ∧ (State.issueTag t use fn sl untranslated s).sheetOld = s.sheetOld ∧ (State.issueTag t use fn sl untranslated s).qen = s.qen ∧ (State.issueTag t use fn sl untranslated s).tnu = s.tnu ∧ (State.issueTag t use fn sl untranslated s).gal = s.gal ∧ (State.issueTag t use fn sl untranslated s).mxe = s.mxe ∧ (State.issueTag t use fn sl untranslated s).dsc = s.dsc ∧ (State.issueTag t use fn sl untranslated s).fca = s.fca ∧ (State.issueTag t use fn sl untranslated s).cdx = s.cdx ∧ (State.issueTag t use fn sl untranslated s).spe = s.spe ∧ (State.issueTag t use fn sl untranslated s).hum = s.hum ∧ (State.issueTag t use fn sl untranslated s).bpm = s.bpm ∧ (State.issueTag t use fn sl untranslated s).dmc = s.dmc ∧ (State.issueTag t use fn sl untranslated s).ccl = s.ccl ∧ (State.issueTag t use fn sl untranslated s).csu = s.csu ∧ (State.issueTag t use fn sl untranslated s).mgp = s.mgp ∧ (State.issueTag t use fn sl untranslated s).cru = s.cru :=
  have h := (State.issueTag_touch _ _ _ _ _ _ (by simp) (Touch.refl 256 _))
  ⟨h.pending, h.out rfl, h.freeCnt rfl, h.timers rfl, h.tbu rfl, h.power rfl, h.regf rfl, h.sheet rfl, h.sheetOld rfl, h.qen rfl, h.tnu rfl, h.gal rfl, h.mxe rfl, h.dsc rfl, h.fca rfl, h.cdx rfl, h.spe rfl, h.hum rfl, h.bpm rfl, h.dmc rfl, h.ccl rfl, h.csu rfl, h.mgp rfl, h.cru rfl⟩

@[simp] theorem State.askPage_units (fn sl page : Nat) (s : State) :
    (State.askPage fn sl page s).pending = s.pending ∧ (State.askPage fn sl page s).freeCnt = s.freeCnt ∧ (State.askPage fn sl page s).timers = s.timers ∧ (State.askPage fn sl page s).tbu = s.tbu ∧ (State.askPage fn sl page s).power = s.power ∧ (State.askPage fn sl page s).regf = s.regf ∧ (State.askPage fn sl page s).sheet = s.sheet ∧ (State.askPage fn sl page s).sheetOld = s.sheetOld ∧ (State.askPage fn sl page s).qen = s.qen ∧ (State.askPage fn sl page s).tnu = s.tnu ∧ (State.askPage fn sl page s).gal = s.gal ∧ (State.askPage fn sl page s).mxe = s.mxe ∧ (State.askPage fn sl page s).dsc = s.dsc ∧ (State.askPage fn sl page s).fca = s.fca ∧ (State.askPage fn sl page s).cdx = s.cdx ∧ (State.askPage fn sl page s).spe = s.spe ∧ (State.askPage fn sl page s).hum = s.hum ∧ (State.askPage fn sl page s).bpm = s.bpm ∧ (State.askPage fn sl page s).dmc = s.dmc ∧ (State.askPage fn sl page s).ccl = s.ccl ∧ (State.askPage fn sl page s).csu = s.csu ∧ (State.askPage fn sl page s).mgp = s.mgp ∧ (State.askPage fn sl page s).cru = s.cru :=
  have h := (State.askPage_touch _ _ _ _ (by simp) (Touch.refl 257 _))
  ⟨h.pending, h.freeCnt rfl, h.timers rfl, h.tbu rfl, h.power rfl, h.regf rfl, h.sheet rfl, h.sheetOld rfl, h.qen rfl, h.tnu rfl, h.gal rfl, h.mxe rfl, h.dsc rfl, h.fca rfl, h.cdx rfl, h.spe rfl, h.hum rfl, h.bpm rfl, h.dmc rfl, h.ccl rfl, h.csu rfl, h.mgp rfl, h.cru rfl⟩

@[simp] theorem State.dmaWait_units (d : DmaReq) (s : State) :
    (State.dmaWait d s).pending = s.pending ∧ (State.dmaWait d s).out = s.out ∧ (State.dmaWait d s).freeCnt = s.freeCnt ∧ (State.dmaWait d s).timers = s.timers ∧ (State.dmaWait d s).tbu = s.tbu ∧ (State.dmaWait d s).power = s.power ∧ (State.dmaWait d s).regf = s.regf ∧ (State.dmaWait d s).sheet = s.sheet ∧ (State.dmaWait d s).sheetOld = s.sheetOld ∧ (State.dmaWait d s).qen = s.qen ∧ (State.dmaWait d s).tnu = s.tnu ∧ (State.dmaWait d s).gal = s.gal ∧ (State.dmaWait d s).mxe = s.mxe ∧ (State.dmaWait d s).dsc = s.dsc ∧ (State.dmaWait d s).fca = s.fca ∧ (State.dmaWait d s).cdx = s.cdx ∧ (State.dmaWait d s).spe = s.spe ∧ (State.dmaWait d s).hum = s.hum ∧ (State.dmaWait d s).bpm = s.bpm ∧ (State.dmaWait d s).dmc = s.dmc ∧ (State.dmaWait d s).ccl = s.ccl ∧ (State.dmaWait d s).csu = s.csu ∧ (State.dmaWait d s).mgp = s.mgp ∧ (State.dmaWait d s).cru = s.cru :=
  have h := (State.dmaWait_touch _ _ (by simp) (Touch.refl 256 _))
  ⟨h.pending, h.out rfl, h.freeCnt rfl, h.timers rfl, h.tbu rfl, h.power rfl, h.regf rfl, h.sheet rfl, h.sheetOld rfl, h.qen rfl, h.tnu rfl, h.gal rfl, h.mxe rfl, h.dsc rfl, h.fca rfl, h.cdx rfl, h.spe rfl, h.hum rfl, h.bpm rfl, h.dmc rfl, h.ccl rfl, h.csu rfl, h.mgp rfl, h.cru rfl⟩

@[simp] theorem State.dmaTry_units (s : State) (d : DmaReq) :
    (State.dmaTry s d).pending = s.pending ∧ (State.dmaTry s d).freeCnt = s.freeCnt ∧ (State.dmaTry s d).timers = s.timers ∧ (State.dmaTry s d).tbu = s.tbu ∧ (State.dmaTry s d).power = s.power ∧ (State.dmaTry s d).regf = s.regf ∧ (State.dmaTry s d).sheet = s.sheet ∧ (State.dmaTry s d).sheetOld = s.sheetOld ∧ (State.dmaTry s d).qen = s.qen ∧ (State.dmaTry s d).tnu = s.tnu ∧ (State.dmaTry s d).gal = s.gal ∧ (State.dmaTry s d).mxe = s.mxe ∧ (State.dmaTry s d).dsc = s.dsc ∧ (State.dmaTry s d).fca = s.fca ∧ (State.dmaTry s d).cdx = s.cdx ∧ (State.dmaTry s d).spe = s.spe ∧ (State.dmaTry s d).hum = s.hum ∧ (State.dmaTry s d).bpm = s.bpm ∧ (State.dmaTry s d).dmc = s.dmc ∧ (State.dmaTry s d).ccl = s.ccl ∧ (State.dmaTry s d).csu = s.csu ∧ (State.dmaTry s d).mgp = s.mgp ∧ (State.dmaTry s d).cru = s.cru :=
  have h := (State.dmaTry_touch _ _ (by simp) (Touch.refl 257 _))
  ⟨h.pending, h.freeCnt rfl, h.timers rfl, h.tbu rfl, h.power rfl, h.regf rfl, h.sheet rfl, h.sheetOld rfl, h.qen rfl, h.tnu rfl, h.gal rfl, h.mxe rfl, h.dsc rfl, h.fca rfl, h.cdx rfl, h.spe rfl, h.hum rfl, h.bpm rfl, h.dmc rfl, h.ccl rfl, h.csu rfl, h.mgp rfl, h.cru rfl⟩

@[simp] theorem State.dmaIssue_units (s : State) :
    (State.dmaIssue s).pending = s.pending ∧ (State.dmaIssue s).freeCnt = s.freeCnt ∧ (State.dmaIssue s).timers = s.timers ∧ (State.dmaIssue s).tbu = s.tbu ∧ (State.dmaIssue s).power = s.power ∧ (State.dmaIssue s).regf = s.regf ∧ (State.dmaIssue s).sheet = s.sheet ∧ (State.dmaIssue s).sheetOld = s.sheetOld ∧ (State.dmaIssue s).qen = s.qen ∧ (State.dmaIssue s).tnu = s.tnu ∧ (State.dmaIssue s).gal = s.gal ∧ (State.dmaIssue s).mxe = s.mxe ∧ (State.dmaIssue s).dsc = s.dsc ∧ (State.dmaIssue s).fca = s.fca ∧ (State.dmaIssue s).cdx = s.cdx ∧ (State.dmaIssue s).spe = s.spe ∧ (State.dmaIssue s).hum = s.hum ∧ (State.dmaIssue s).bpm = s.bpm ∧ (State.dmaIssue s).dmc = s.dmc ∧ (State.dmaIssue s).ccl = s.ccl ∧ (State.dmaIssue s).csu = s.csu ∧ (State.dmaIssue s).mgp = s.mgp ∧ (State.dmaIssue s).cru = s.cru :=
  have h := (State.dmaIssue_touch _ (by simp) (Touch.refl 257 _))
  ⟨h.pending, h.freeCnt rfl, h.timers rfl, h.tbu rfl, h.power rfl, h.regf rfl, h.sheet rfl, h.sheetOld rfl, h.qen rfl, h.tnu rfl, h.gal rfl, h.mxe rfl, h.dsc rfl, h.fca rfl, h.cdx rfl, h.spe rfl, h.hum rfl, h.bpm rfl, h.dmc rfl, h.ccl rfl, h.csu rfl, h.mgp rfl, h.cru rfl⟩

@[simp] theorem State.askList_units (c : Nat) (s : State) :
    (State.askList c s).pending = s.pending ∧ (State.askList c s).out = s.out ∧ (State.askList c s).freeCnt = s.freeCnt ∧ (State.askList c s).timers = s.timers ∧ (State.askList c s).tbu = s.tbu ∧ (State.askList c s).power = s.power ∧ (State.askList c s).regf = s.regf ∧ (State.askList c s).sheet = s.sheet ∧ (State.askList c s).sheetOld = s.sheetOld ∧ (State.askList c s).qen = s.qen ∧ (State.askList c s).tnu = s.tnu ∧ (State.askList c s).gal = s.gal ∧ (State.askList c s).mxe = s.mxe ∧ (State.askList c s).dsc = s.dsc ∧ (State.askList c s).fca = s.fca ∧ (State.askList c s).cdx = s.cdx ∧ (State.askList c s).spe = s.spe ∧ (State.askList c s).hum = s.hum ∧ (State.askList c s).bpm = s.bpm ∧ (State.askList c s).dmc = s.dmc ∧ (State.askList c s).ccl = s.ccl ∧ (State.askList c s).csu = s.csu ∧ (State.askList c s).mgp = s.mgp ∧ (State.askList c s).cru = s.cru :=
  have h := (State.askList_touch _ _ (by simp) (Touch.refl 256 _))
  ⟨h.pending, h.out rfl, h.freeCnt rfl, h.timers rfl, h.tbu rfl, h.power rfl, h.regf rfl, h.sheet rfl, h.sheetOld rfl, h.qen rfl, h.tnu rfl, h.gal rfl, h.mxe rfl, h.dsc rfl, h.fca rfl, h.cdx rfl, h.spe rfl, h.hum rfl, h.bpm rfl, h.dmc rfl, h.ccl rfl, h.csu rfl, h.mgp rfl, h.cru rfl⟩

@[simp] theorem State.listArrives_units (c len data : Nat) (s : State) :
    (State.listArrives c len data s).pending = s.pending ∧ (State.listArrives c len data s).out = s.out ∧ (State.listArrives c len data s).freeCnt = s.freeCnt ∧ (State.listArrives c len data s).timers = s.timers ∧ (State.listArrives c len data s).tbu = s.tbu ∧ (State.listArrives c len data s).power = s.power ∧ (State.listArrives c len data s).regf = s.regf ∧ (State.listArrives c len data s).sheet = s.sheet ∧ (State.listArrives c len data s).sheetOld = s.sheetOld ∧ (State.listArrives c len data s).tnu = s.tnu ∧ (State.listArrives c len data s).gal = s.gal ∧ (State.listArrives c len data s).mxe = s.mxe ∧ (State.listArrives c len data s).dsc = s.dsc ∧ (State.listArrives c len data s).fca = s.fca ∧ (State.listArrives c len data s).cdx = s.cdx ∧ (State.listArrives c len data s).spe = s.spe ∧ (State.listArrives c len data s).hum = s.hum ∧ (State.listArrives c len data s).bpm = s.bpm ∧ (State.listArrives c len data s).dmc = s.dmc ∧ (State.listArrives c len data s).ccl = s.ccl ∧ (State.listArrives c len data s).csu = s.csu ∧ (State.listArrives c len data s).mgp = s.mgp ∧ (State.listArrives c len data s).cru = s.cru :=
  have h := (State.listArrives_touch _ _ _ _ (by simp) (Touch.refl 768 _))
  ⟨h.pending, h.out rfl, h.freeCnt rfl, h.timers rfl, h.tbu rfl, h.power rfl, h.regf rfl, h.sheet rfl, h.sheetOld rfl, h.tnu rfl, h.gal rfl, h.mxe rfl, h.dsc rfl, h.fca rfl, h.cdx rfl, h.spe rfl, h.hum rfl, h.bpm rfl, h.dmc rfl, h.ccl rfl, h.csu rfl, h.mgp rfl, h.cru rfl⟩

@[simp] theorem State.journal_units (r : JournalRecord) (s : State) :
    (State.journal r s).pending = s.pending ∧ (State.journal r s).out = s.out ∧ (State.journal r s).freeCnt = s.freeCnt ∧ (State.journal r s).timers = s.timers ∧ (State.journal r s).tbu = s.tbu ∧ (State.journal r s).power = s.power ∧ (State.journal r s).regf = s.regf ∧ (State.journal r s).sheet = s.sheet ∧ (State.journal r s).sheetOld = s.sheetOld ∧ (State.journal r s).hlu = s.hlu ∧ (State.journal r s).qen = s.qen ∧ (State.journal r s).tnu = s.tnu ∧ (State.journal r s).gal = s.gal ∧ (State.journal r s).dsc = s.dsc ∧ (State.journal r s).fca = s.fca ∧ (State.journal r s).cdx = s.cdx ∧ (State.journal r s).spe = s.spe ∧ (State.journal r s).hum = s.hum ∧ (State.journal r s).bpm = s.bpm ∧ (State.journal r s).dmc = s.dmc ∧ (State.journal r s).ccl = s.ccl ∧ (State.journal r s).csu = s.csu ∧ (State.journal r s).mgp = s.mgp ∧ (State.journal r s).cru = s.cru :=
  have h := (State.journal_touch _ _ (by simp) (Touch.refl 4096 _))
  ⟨h.pending, h.out rfl, h.freeCnt rfl, h.timers rfl, h.tbu rfl, h.power rfl, h.regf rfl, h.sheet rfl, h.sheetOld rfl, h.hlu rfl, h.qen rfl, h.tnu rfl, h.gal rfl, h.dsc rfl, h.fca rfl, h.cdx rfl, h.spe rfl, h.hum rfl, h.bpm rfl, h.dmc rfl, h.ccl rfl, h.csu rfl, h.mgp rfl, h.cru rfl⟩

@[simp] theorem State.loseEntry_units (nsid g cause : Nat) (s : State) :
    (State.loseEntry nsid g cause s).pending = s.pending ∧ (State.loseEntry nsid g cause s).out = s.out ∧ (State.loseEntry nsid g cause s).freeCnt = s.freeCnt ∧ (State.loseEntry nsid g cause s).timers = s.timers ∧ (State.loseEntry nsid g cause s).tbu = s.tbu ∧ (State.loseEntry nsid g cause s).power = s.power ∧ (State.loseEntry nsid g cause s).sheet = s.sheet ∧ (State.loseEntry nsid g cause s).sheetOld = s.sheetOld ∧ (State.loseEntry nsid g cause s).hlu = s.hlu ∧ (State.loseEntry nsid g cause s).qen = s.qen ∧ (State.loseEntry nsid g cause s).tnu = s.tnu ∧ (State.loseEntry nsid g cause s).gal = s.gal ∧ (State.loseEntry nsid g cause s).dsc = s.dsc ∧ (State.loseEntry nsid g cause s).fca = s.fca ∧ (State.loseEntry nsid g cause s).cdx = s.cdx ∧ (State.loseEntry nsid g cause s).hum = s.hum ∧ (State.loseEntry nsid g cause s).bpm = s.bpm ∧ (State.loseEntry nsid g cause s).dmc = s.dmc ∧ (State.loseEntry nsid g cause s).ccl = s.ccl ∧ (State.loseEntry nsid g cause s).csu = s.csu ∧ (State.loseEntry nsid g cause s).mgp = s.mgp :=
  have h := (State.loseEntry_touch _ _ _ _ (by simp) (Touch.refl 8458272 _))
  ⟨h.pending, h.out rfl, h.freeCnt rfl, h.timers rfl, h.tbu rfl, h.power rfl, h.sheet rfl, h.sheetOld rfl, h.hlu rfl, h.qen rfl, h.tnu rfl, h.gal rfl, h.dsc rfl, h.fca rfl, h.cdx rfl, h.hum rfl, h.bpm rfl, h.dmc rfl, h.ccl rfl, h.csu rfl, h.mgp rfl⟩

@[simp] theorem State.placeGranule_units (nsid g dsn : Nat) (lost : List Nat) (s : State) :
    (State.placeGranule nsid g dsn lost s).pending = s.pending ∧ (State.placeGranule nsid g dsn lost s).out = s.out ∧ (State.placeGranule nsid g dsn lost s).freeCnt = s.freeCnt ∧ (State.placeGranule nsid g dsn lost s).timers = s.timers ∧ (State.placeGranule nsid g dsn lost s).tbu = s.tbu ∧ (State.placeGranule nsid g dsn lost s).power = s.power ∧ (State.placeGranule nsid g dsn lost s).regf = s.regf ∧ (State.placeGranule nsid g dsn lost s).sheet = s.sheet ∧ (State.placeGranule nsid g dsn lost s).sheetOld = s.sheetOld ∧ (State.placeGranule nsid g dsn lost s).hlu = s.hlu ∧ (State.placeGranule nsid g dsn lost s).qen = s.qen ∧ (State.placeGranule nsid g dsn lost s).tnu = s.tnu ∧ (State.placeGranule nsid g dsn lost s).gal = s.gal ∧ (State.placeGranule nsid g dsn lost s).dsc = s.dsc ∧ (State.placeGranule nsid g dsn lost s).fca = s.fca ∧ (State.placeGranule nsid g dsn lost s).cdx = s.cdx ∧ (State.placeGranule nsid g dsn lost s).spe = s.spe ∧ (State.placeGranule nsid g dsn lost s).hum = s.hum ∧ (State.placeGranule nsid g dsn lost s).bpm = s.bpm ∧ (State.placeGranule nsid g dsn lost s).dmc = s.dmc ∧ (State.placeGranule nsid g dsn lost s).ccl = s.ccl ∧ (State.placeGranule nsid g dsn lost s).csu = s.csu ∧ (State.placeGranule nsid g dsn lost s).mgp = s.mgp ∧ (State.placeGranule nsid g dsn lost s).cru = s.cru :=
  have h := (State.placeGranule_touch _ _ _ _ _ (by simp) (Touch.refl 4096 _))
  ⟨h.pending, h.out rfl, h.freeCnt rfl, h.timers rfl, h.tbu rfl, h.power rfl, h.regf rfl, h.sheet rfl, h.sheetOld rfl, h.hlu rfl, h.qen rfl, h.tnu rfl, h.gal rfl, h.dsc rfl, h.fca rfl, h.cdx rfl, h.spe rfl, h.hum rfl, h.bpm rfl, h.dmc rfl, h.ccl rfl, h.csu rfl, h.mgp rfl, h.cru rfl⟩

@[simp] theorem State.mergeSlot_units (nsid g dsn k : Nat) (old : SlotData) (lost : Bool) (s : State) :
    (State.mergeSlot nsid g dsn k old lost s).pending = s.pending ∧ (State.mergeSlot nsid g dsn k old lost s).out = s.out ∧ (State.mergeSlot nsid g dsn k old lost s).freeCnt = s.freeCnt ∧ (State.mergeSlot nsid g dsn k old lost s).timers = s.timers ∧ (State.mergeSlot nsid g dsn k old lost s).tbu = s.tbu ∧ (State.mergeSlot nsid g dsn k old lost s).power = s.power ∧ (State.mergeSlot nsid g dsn k old lost s).regf = s.regf ∧ (State.mergeSlot nsid g dsn k old lost s).sheet = s.sheet ∧ (State.mergeSlot nsid g dsn k old lost s).sheetOld = s.sheetOld ∧ (State.mergeSlot nsid g dsn k old lost s).hlu = s.hlu ∧ (State.mergeSlot nsid g dsn k old lost s).qen = s.qen ∧ (State.mergeSlot nsid g dsn k old lost s).tnu = s.tnu ∧ (State.mergeSlot nsid g dsn k old lost s).gal = s.gal ∧ (State.mergeSlot nsid g dsn k old lost s).dsc = s.dsc ∧ (State.mergeSlot nsid g dsn k old lost s).fca = s.fca ∧ (State.mergeSlot nsid g dsn k old lost s).cdx = s.cdx ∧ (State.mergeSlot nsid g dsn k old lost s).spe = s.spe ∧ (State.mergeSlot nsid g dsn k old lost s).hum = s.hum ∧ (State.mergeSlot nsid g dsn k old lost s).bpm = s.bpm ∧ (State.mergeSlot nsid g dsn k old lost s).dmc = s.dmc ∧ (State.mergeSlot nsid g dsn k old lost s).ccl = s.ccl ∧ (State.mergeSlot nsid g dsn k old lost s).csu = s.csu ∧ (State.mergeSlot nsid g dsn k old lost s).mgp = s.mgp ∧ (State.mergeSlot nsid g dsn k old lost s).cru = s.cru :=
  have h := (State.mergeSlot_touch _ _ _ _ _ _ _ (by simp) (Touch.refl 4096 _))
  ⟨h.pending, h.out rfl, h.freeCnt rfl, h.timers rfl, h.tbu rfl, h.power rfl, h.regf rfl, h.sheet rfl, h.sheetOld rfl, h.hlu rfl, h.qen rfl, h.tnu rfl, h.gal rfl, h.dsc rfl, h.fca rfl, h.cdx rfl, h.spe rfl, h.hum rfl, h.bpm rfl, h.dmc rfl, h.ccl rfl, h.csu rfl, h.mgp rfl, h.cru rfl⟩

@[simp] theorem State.mergeKnown_units (l : LockHold) (s : State) :
    (State.mergeKnown l s).pending = s.pending ∧ (State.mergeKnown l s).out = s.out ∧ (State.mergeKnown l s).freeCnt = s.freeCnt ∧ (State.mergeKnown l s).timers = s.timers ∧ (State.mergeKnown l s).tbu = s.tbu ∧ (State.mergeKnown l s).power = s.power ∧ (State.mergeKnown l s).regf = s.regf ∧ (State.mergeKnown l s).sheet = s.sheet ∧ (State.mergeKnown l s).sheetOld = s.sheetOld ∧ (State.mergeKnown l s).hlu = s.hlu ∧ (State.mergeKnown l s).qen = s.qen ∧ (State.mergeKnown l s).tnu = s.tnu ∧ (State.mergeKnown l s).gal = s.gal ∧ (State.mergeKnown l s).dsc = s.dsc ∧ (State.mergeKnown l s).fca = s.fca ∧ (State.mergeKnown l s).cdx = s.cdx ∧ (State.mergeKnown l s).spe = s.spe ∧ (State.mergeKnown l s).hum = s.hum ∧ (State.mergeKnown l s).bpm = s.bpm ∧ (State.mergeKnown l s).dmc = s.dmc ∧ (State.mergeKnown l s).ccl = s.ccl ∧ (State.mergeKnown l s).csu = s.csu ∧ (State.mergeKnown l s).mgp = s.mgp ∧ (State.mergeKnown l s).cru = s.cru :=
  have h := (State.mergeKnown_touch _ _ (by simp) (Touch.refl 4096 _))
  ⟨h.pending, h.out rfl, h.freeCnt rfl, h.timers rfl, h.tbu rfl, h.power rfl, h.regf rfl, h.sheet rfl, h.sheetOld rfl, h.hlu rfl, h.qen rfl, h.tnu rfl, h.gal rfl, h.dsc rfl, h.fca rfl, h.cdx rfl, h.spe rfl, h.hum rfl, h.bpm rfl, h.dmc rfl, h.ccl rfl, h.csu rfl, h.mgp rfl, h.cru rfl⟩

@[simp] theorem State.lockStart_units (s : State) :
    (State.lockStart s).pending = s.pending ∧ (State.lockStart s).out = s.out ∧ (State.lockStart s).freeCnt = s.freeCnt ∧ (State.lockStart s).timers = s.timers ∧ (State.lockStart s).tbu = s.tbu ∧ (State.lockStart s).power = s.power ∧ (State.lockStart s).regf = s.regf ∧ (State.lockStart s).sheet = s.sheet ∧ (State.lockStart s).sheetOld = s.sheetOld ∧ (State.lockStart s).hlu = s.hlu ∧ (State.lockStart s).qen = s.qen ∧ (State.lockStart s).tnu = s.tnu ∧ (State.lockStart s).gal = s.gal ∧ (State.lockStart s).dsc = s.dsc ∧ (State.lockStart s).fca = s.fca ∧ (State.lockStart s).cdx = s.cdx ∧ (State.lockStart s).spe = s.spe ∧ (State.lockStart s).hum = s.hum ∧ (State.lockStart s).bpm = s.bpm ∧ (State.lockStart s).dmc = s.dmc ∧ (State.lockStart s).ccl = s.ccl ∧ (State.lockStart s).csu = s.csu ∧ (State.lockStart s).mgp = s.mgp ∧ (State.lockStart s).cru = s.cru :=
  have h := (State.lockStart_touch _ (by simp) (Touch.refl 4096 _))
  ⟨h.pending, h.out rfl, h.freeCnt rfl, h.timers rfl, h.tbu rfl, h.power rfl, h.regf rfl, h.sheet rfl, h.sheetOld rfl, h.hlu rfl, h.qen rfl, h.tnu rfl, h.gal rfl, h.dsc rfl, h.fca rfl, h.cdx rfl, h.spe rfl, h.hum rfl, h.bpm rfl, h.dmc rfl, h.ccl rfl, h.csu rfl, h.mgp rfl, h.cru rfl⟩

@[simp] theorem State.sweepRaw_units (s : State) :
    (State.sweepRaw s).pending = s.pending ∧ (State.sweepRaw s).freeCnt = s.freeCnt ∧ (State.sweepRaw s).timers = s.timers ∧ (State.sweepRaw s).tbu = s.tbu ∧ (State.sweepRaw s).power = s.power ∧ (State.sweepRaw s).sheet = s.sheet ∧ (State.sweepRaw s).sheetOld = s.sheetOld ∧ (State.sweepRaw s).hlu = s.hlu ∧ (State.sweepRaw s).tnu = s.tnu ∧ (State.sweepRaw s).gal = s.gal ∧ (State.sweepRaw s).mxe = s.mxe ∧ (State.sweepRaw s).dsc = s.dsc ∧ (State.sweepRaw s).fca = s.fca ∧ (State.sweepRaw s).spe = s.spe ∧ (State.sweepRaw s).hum = s.hum ∧ (State.sweepRaw s).dmc = s.dmc ∧ (State.sweepRaw s).csu = s.csu :=
  have h := (State.sweepRaw_touch _ (by simp) (Touch.refl 13926945 _))
  ⟨h.pending, h.freeCnt rfl, h.timers rfl, h.tbu rfl, h.power rfl, h.sheet rfl, h.sheetOld rfl, h.hlu rfl, h.tnu rfl, h.gal rfl, h.mxe rfl, h.dsc rfl, h.fca rfl, h.spe rfl, h.hum rfl, h.dmc rfl, h.csu rfl⟩

@[simp] theorem State.xferFrames_units (x : Xfer) (s : State) :
    (State.xferFrames x s).pending = s.pending ∧ (State.xferFrames x s).freeCnt = s.freeCnt ∧ (State.xferFrames x s).timers = s.timers ∧ (State.xferFrames x s).tbu = s.tbu ∧ (State.xferFrames x s).power = s.power ∧ (State.xferFrames x s).sheet = s.sheet ∧ (State.xferFrames x s).sheetOld = s.sheetOld ∧ (State.xferFrames x s).hlu = s.hlu ∧ (State.xferFrames x s).qen = s.qen ∧ (State.xferFrames x s).tnu = s.tnu ∧ (State.xferFrames x s).gal = s.gal ∧ (State.xferFrames x s).mxe = s.mxe ∧ (State.xferFrames x s).dsc = s.dsc ∧ (State.xferFrames x s).fca = s.fca ∧ (State.xferFrames x s).spe = s.spe ∧ (State.xferFrames x s).hum = s.hum ∧ (State.xferFrames x s).dmc = s.dmc ∧ (State.xferFrames x s).ccl = s.ccl ∧ (State.xferFrames x s).csu = s.csu ∧ (State.xferFrames x s).mgp = s.mgp ∧ (State.xferFrames x s).cru = s.cru :=
  have h := (State.xferFrames_touch _ _ (by simp) (Touch.refl 294945 _))
  ⟨h.pending, h.freeCnt rfl, h.timers rfl, h.tbu rfl, h.power rfl, h.sheet rfl, h.sheetOld rfl, h.hlu rfl, h.qen rfl, h.tnu rfl, h.gal rfl, h.mxe rfl, h.dsc rfl, h.fca rfl, h.spe rfl, h.hum rfl, h.dmc rfl, h.ccl rfl, h.csu rfl, h.mgp rfl, h.cru rfl⟩

@[simp] theorem State.xferPiece_units (s : State) (ch : Nat) :
    (State.xferPiece s ch).pending = s.pending ∧ (State.xferPiece s ch).freeCnt = s.freeCnt ∧ (State.xferPiece s ch).timers = s.timers ∧ (State.xferPiece s ch).tbu = s.tbu ∧ (State.xferPiece s ch).power = s.power ∧ (State.xferPiece s ch).sheet = s.sheet ∧ (State.xferPiece s ch).sheetOld = s.sheetOld ∧ (State.xferPiece s ch).hlu = s.hlu ∧ (State.xferPiece s ch).qen = s.qen ∧ (State.xferPiece s ch).tnu = s.tnu ∧ (State.xferPiece s ch).gal = s.gal ∧ (State.xferPiece s ch).mxe = s.mxe ∧ (State.xferPiece s ch).spe = s.spe ∧ (State.xferPiece s ch).hum = s.hum ∧ (State.xferPiece s ch).dmc = s.dmc ∧ (State.xferPiece s ch).ccl = s.ccl ∧ (State.xferPiece s ch).csu = s.csu ∧ (State.xferPiece s ch).mgp = s.mgp ∧ (State.xferPiece s ch).cru = s.cru :=
  have h := (State.xferPiece_touch _ _ (by simp) (Touch.refl 319521 _))
  ⟨h.pending, h.freeCnt rfl, h.timers rfl, h.tbu rfl, h.power rfl, h.sheet rfl, h.sheetOld rfl, h.hlu rfl, h.qen rfl, h.tnu rfl, h.gal rfl, h.mxe rfl, h.spe rfl, h.hum rfl, h.dmc rfl, h.ccl rfl, h.csu rfl, h.mgp rfl, h.cru rfl⟩

@[simp] theorem State.xferTick_units (s : State) :
    (State.xferTick s).pending = s.pending ∧ (State.xferTick s).freeCnt = s.freeCnt ∧ (State.xferTick s).timers = s.timers ∧ (State.xferTick s).tbu = s.tbu ∧ (State.xferTick s).power = s.power ∧ (State.xferTick s).sheet = s.sheet ∧ (State.xferTick s).sheetOld = s.sheetOld ∧ (State.xferTick s).hlu = s.hlu ∧ (State.xferTick s).qen = s.qen ∧ (State.xferTick s).tnu = s.tnu ∧ (State.xferTick s).gal = s.gal ∧ (State.xferTick s).mxe = s.mxe ∧ (State.xferTick s).spe = s.spe ∧ (State.xferTick s).hum = s.hum ∧ (State.xferTick s).dmc = s.dmc ∧ (State.xferTick s).ccl = s.ccl ∧ (State.xferTick s).csu = s.csu ∧ (State.xferTick s).mgp = s.mgp ∧ (State.xferTick s).cru = s.cru :=
  have h := (State.xferTick_touch _ (by simp) (Touch.refl 319521 _))
  ⟨h.pending, h.freeCnt rfl, h.timers rfl, h.tbu rfl, h.power rfl, h.sheet rfl, h.sheetOld rfl, h.hlu rfl, h.qen rfl, h.tnu rfl, h.gal rfl, h.mxe rfl, h.spe rfl, h.hum rfl, h.dmc rfl, h.ccl rfl, h.csu rfl, h.mgp rfl, h.cru rfl⟩

@[simp] theorem State.sweepJobBufs_units (s : State) :
    (State.sweepJobBufs s).pending = s.pending ∧ (State.sweepJobBufs s).freeCnt = s.freeCnt ∧ (State.sweepJobBufs s).timers = s.timers ∧ (State.sweepJobBufs s).tbu = s.tbu ∧ (State.sweepJobBufs s).power = s.power ∧ (State.sweepJobBufs s).sheet = s.sheet ∧ (State.sweepJobBufs s).sheetOld = s.sheetOld ∧ (State.sweepJobBufs s).hlu = s.hlu ∧ (State.sweepJobBufs s).tnu = s.tnu ∧ (State.sweepJobBufs s).gal = s.gal ∧ (State.sweepJobBufs s).dsc = s.dsc ∧ (State.sweepJobBufs s).fca = s.fca ∧ (State.sweepJobBufs s).cdx = s.cdx ∧ (State.sweepJobBufs s).spe = s.spe ∧ (State.sweepJobBufs s).hum = s.hum ∧ (State.sweepJobBufs s).dmc = s.dmc ∧ (State.sweepJobBufs s).csu = s.csu :=
  have h := (State.sweepJobBufs_touch _ (by simp) (Touch.refl 13898273 _))
  ⟨h.pending, h.freeCnt rfl, h.timers rfl, h.tbu rfl, h.power rfl, h.sheet rfl, h.sheetOld rfl, h.hlu rfl, h.tnu rfl, h.gal rfl, h.dsc rfl, h.fca rfl, h.cdx rfl, h.spe rfl, h.hum rfl, h.dmc rfl, h.csu rfl⟩

@[simp] theorem State.jobSlot_units (num k : Nat) (c : SlotCell) (s : State) :
    (State.jobSlot num k c s).pending = s.pending ∧ (State.jobSlot num k c s).freeCnt = s.freeCnt ∧ (State.jobSlot num k c s).timers = s.timers ∧ (State.jobSlot num k c s).tbu = s.tbu ∧ (State.jobSlot num k c s).power = s.power ∧ (State.jobSlot num k c s).sheet = s.sheet ∧ (State.jobSlot num k c s).sheetOld = s.sheetOld ∧ (State.jobSlot num k c s).hlu = s.hlu ∧ (State.jobSlot num k c s).qen = s.qen ∧ (State.jobSlot num k c s).tnu = s.tnu ∧ (State.jobSlot num k c s).gal = s.gal ∧ (State.jobSlot num k c s).dsc = s.dsc ∧ (State.jobSlot num k c s).fca = s.fca ∧ (State.jobSlot num k c s).cdx = s.cdx ∧ (State.jobSlot num k c s).spe = s.spe ∧ (State.jobSlot num k c s).hum = s.hum ∧ (State.jobSlot num k c s).dmc = s.dmc ∧ (State.jobSlot num k c s).ccl = s.ccl ∧ (State.jobSlot num k c s).csu = s.csu ∧ (State.jobSlot num k c s).mgp = s.mgp ∧ (State.jobSlot num k c s).cru = s.cru :=
  have h := (State.jobSlot_touch _ _ _ _ (by simp) (Touch.refl 266273 _))
  ⟨h.pending, h.freeCnt rfl, h.timers rfl, h.tbu rfl, h.power rfl, h.sheet rfl, h.sheetOld rfl, h.hlu rfl, h.qen rfl, h.tnu rfl, h.gal rfl, h.dsc rfl, h.fca rfl, h.cdx rfl, h.spe rfl, h.hum rfl, h.dmc rfl, h.ccl rfl, h.csu rfl, h.mgp rfl, h.cru rfl⟩

@[simp] theorem State.relocateNow_units (nsid g : Nat) (src : Loc) (high : Bool) (s : State) :
    (State.relocateNow nsid g src high s).pending = s.pending ∧ (State.relocateNow nsid g src high s).freeCnt = s.freeCnt ∧ (State.relocateNow nsid g src high s).timers = s.timers ∧ (State.relocateNow nsid g src high s).tbu = s.tbu ∧ (State.relocateNow nsid g src high s).power = s.power ∧ (State.relocateNow nsid g src high s).sheet = s.sheet ∧ (State.relocateNow nsid g src high s).sheetOld = s.sheetOld ∧ (State.relocateNow nsid g src high s).hlu = s.hlu ∧ (State.relocateNow nsid g src high s).qen = s.qen ∧ (State.relocateNow nsid g src high s).tnu = s.tnu ∧ (State.relocateNow nsid g src high s).gal = s.gal ∧ (State.relocateNow nsid g src high s).dsc = s.dsc ∧ (State.relocateNow nsid g src high s).fca = s.fca ∧ (State.relocateNow nsid g src high s).cdx = s.cdx ∧ (State.relocateNow nsid g src high s).spe = s.spe ∧ (State.relocateNow nsid g src high s).hum = s.hum ∧ (State.relocateNow nsid g src high s).dmc = s.dmc ∧ (State.relocateNow nsid g src high s).ccl = s.ccl ∧ (State.relocateNow nsid g src high s).csu = s.csu ∧ (State.relocateNow nsid g src high s).mgp = s.mgp ∧ (State.relocateNow nsid g src high s).cru = s.cru :=
  have h := (State.relocateNow_touch _ _ _ _ _ (by simp) (Touch.refl 266273 _))
  ⟨h.pending, h.freeCnt rfl, h.timers rfl, h.tbu rfl, h.power rfl, h.sheet rfl, h.sheetOld rfl, h.hlu rfl, h.qen rfl, h.tnu rfl, h.gal rfl, h.dsc rfl, h.fca rfl, h.cdx rfl, h.spe rfl, h.hum rfl, h.dmc rfl, h.ccl rfl, h.csu rfl, h.mgp rfl, h.cru rfl⟩

@[simp] theorem State.freeCtx_units (c : Nat) (s : State) :
    (State.freeCtx c s).pending = s.pending ∧ (State.freeCtx c s).out = s.out ∧ (State.freeCtx c s).freeCnt = s.freeCnt ∧ (State.freeCtx c s).timers = s.timers ∧ (State.freeCtx c s).tbu = s.tbu ∧ (State.freeCtx c s).power = s.power ∧ (State.freeCtx c s).regf = s.regf ∧ (State.freeCtx c s).sheet = s.sheet ∧ (State.freeCtx c s).sheetOld = s.sheetOld ∧ (State.freeCtx c s).hlu = s.hlu ∧ (State.freeCtx c s).tnu = s.tnu ∧ (State.freeCtx c s).gal = s.gal ∧ (State.freeCtx c s).mxe = s.mxe ∧ (State.freeCtx c s).dsc = s.dsc ∧ (State.freeCtx c s).fca = s.fca ∧ (State.freeCtx c s).cdx = s.cdx ∧ (State.freeCtx c s).spe = s.spe ∧ (State.freeCtx c s).hum = s.hum ∧ (State.freeCtx c s).bpm = s.bpm ∧ (State.freeCtx c s).dmc = s.dmc ∧ (State.freeCtx c s).ccl = s.ccl ∧ (State.freeCtx c s).csu = s.csu ∧ (State.freeCtx c s).mgp = s.mgp ∧ (State.freeCtx c s).cru = s.cru :=
  have h := (State.freeCtx_touch _ _ (by simp) (Touch.refl 512 _))
  ⟨h.pending, h.out rfl, h.freeCnt rfl, h.timers rfl, h.tbu rfl, h.power rfl, h.regf rfl, h.sheet rfl, h.sheetOld rfl, h.hlu rfl, h.tnu rfl, h.gal rfl, h.mxe rfl, h.dsc rfl, h.fca rfl, h.cdx rfl, h.spe rfl, h.hum rfl, h.bpm rfl, h.dmc rfl, h.ccl rfl, h.csu rfl, h.mgp rfl, h.cru rfl⟩

@[simp] theorem State.sendPiece_units (c : Nat) (x : Ctx) (p : Nat × Nat × Nat) (s : State) :
    (State.sendPiece c x p s).pending = s.pending ∧ (State.sendPiece c x p s).freeCnt = s.freeCnt ∧ (State.sendPiece c x p s).timers = s.timers ∧ (State.sendPiece c x p s).tbu = s.tbu ∧ (State.sendPiece c x p s).power = s.power ∧ (State.sendPiece c x p s).sheet = s.sheet ∧ (State.sendPiece c x p s).sheetOld = s.sheetOld ∧ (State.sendPiece c x p s).gal = s.gal ∧ (State.sendPiece c x p s).mxe = s.mxe ∧ (State.sendPiece c x p s).dsc = s.dsc ∧ (State.sendPiece c x p s).fca = s.fca ∧ (State.sendPiece c x p s).cdx = s.cdx ∧ (State.sendPiece c x p s).spe = s.spe ∧ (State.sendPiece c x p s).hum = s.hum ∧ (State.sendPiece c x p s).bpm = s.bpm ∧ (State.sendPiece c x p s).dmc = s.dmc ∧ (State.sendPiece c x p s).ccl = s.ccl ∧ (State.sendPiece c x p s).csu = s.csu ∧ (State.sendPiece c x p s).mgp = s.mgp ∧ (State.sendPiece c x p s).cru = s.cru :=
  have h := (State.sendPiece_touch _ _ _ _ (by simp) (Touch.refl 1825 _))
  ⟨h.pending, h.freeCnt rfl, h.timers rfl, h.tbu rfl, h.power rfl, h.sheet rfl, h.sheetOld rfl, h.gal rfl, h.mxe rfl, h.dsc rfl, h.fca rfl, h.cdx rfl, h.spe rfl, h.hum rfl, h.bpm rfl, h.dmc rfl, h.ccl rfl, h.csu rfl, h.mgp rfl, h.cru rfl⟩

@[simp] theorem State.sendPieces_units (c : Nat) (x : Ctx) (l : List (Nat × Nat × Nat)) (s : State) :
    (State.sendPieces c x l s).pending = s.pending ∧ (State.sendPieces c x l s).freeCnt = s.freeCnt ∧ (State.sendPieces c x l s).timers = s.timers ∧ (State.sendPieces c x l s).tbu = s.tbu ∧ (State.sendPieces c x l s).power = s.power ∧ (State.sendPieces c x l s).sheet = s.sheet ∧ (State.sendPieces c x l s).sheetOld = s.sheetOld ∧ (State.sendPieces c x l s).gal = s.gal ∧ (State.sendPieces c x l s).mxe = s.mxe ∧ (State.sendPieces c x l s).dsc = s.dsc ∧ (State.sendPieces c x l s).fca = s.fca ∧ (State.sendPieces c x l s).cdx = s.cdx ∧ (State.sendPieces c x l s).spe = s.spe ∧ (State.sendPieces c x l s).hum = s.hum ∧ (State.sendPieces c x l s).bpm = s.bpm ∧ (State.sendPieces c x l s).dmc = s.dmc ∧ (State.sendPieces c x l s).ccl = s.ccl ∧ (State.sendPieces c x l s).csu = s.csu ∧ (State.sendPieces c x l s).mgp = s.mgp ∧ (State.sendPieces c x l s).cru = s.cru :=
  have h := (State.sendPieces_touch _ _ _ _ (by simp) (Touch.refl 1825 _))
  ⟨h.pending, h.freeCnt rfl, h.timers rfl, h.tbu rfl, h.power rfl, h.sheet rfl, h.sheetOld rfl, h.gal rfl, h.mxe rfl, h.dsc rfl, h.fca rfl, h.cdx rfl, h.spe rfl, h.hum rfl, h.bpm rfl, h.dmc rfl, h.ccl rfl, h.csu rfl, h.mgp rfl, h.cru rfl⟩

@[simp] theorem State.dataOut_units (c : Nat) (x : Ctx) (s : State) :
    (State.dataOut c x s).pending = s.pending ∧ (State.dataOut c x s).freeCnt = s.freeCnt ∧ (State.dataOut c x s).timers = s.timers ∧ (State.dataOut c x s).tbu = s.tbu ∧ (State.dataOut c x s).power = s.power ∧ (State.dataOut c x s).sheet = s.sheet ∧ (State.dataOut c x s).sheetOld = s.sheetOld ∧ (State.dataOut c x s).gal = s.gal ∧ (State.dataOut c x s).mxe = s.mxe ∧ (State.dataOut c x s).dsc = s.dsc ∧ (State.dataOut c x s).fca = s.fca ∧ (State.dataOut c x s).cdx = s.cdx ∧ (State.dataOut c x s).spe = s.spe ∧ (State.dataOut c x s).hum = s.hum ∧ (State.dataOut c x s).bpm = s.bpm ∧ (State.dataOut c x s).dmc = s.dmc ∧ (State.dataOut c x s).ccl = s.ccl ∧ (State.dataOut c x s).csu = s.csu ∧ (State.dataOut c x s).mgp = s.mgp ∧ (State.dataOut c x s).cru = s.cru :=
  have h := (State.dataOut_touch _ _ _ (by simp) (Touch.refl 1825 _))
  ⟨h.pending, h.freeCnt rfl, h.timers rfl, h.tbu rfl, h.power rfl, h.sheet rfl, h.sheetOld rfl, h.gal rfl, h.mxe rfl, h.dsc rfl, h.fca rfl, h.cdx rfl, h.spe rfl, h.hum rfl, h.bpm rfl, h.dmc rfl, h.ccl rfl, h.csu rfl, h.mgp rfl, h.cru rfl⟩

@[simp] theorem State.readAdvance_units (c : Nat) (s : State) :
    (State.readAdvance c s).pending = s.pending ∧ (State.readAdvance c s).freeCnt = s.freeCnt ∧ (State.readAdvance c s).timers = s.timers ∧ (State.readAdvance c s).tbu = s.tbu ∧ (State.readAdvance c s).power = s.power ∧ (State.readAdvance c s).sheet = s.sheet ∧ (State.readAdvance c s).sheetOld = s.sheetOld ∧ (State.readAdvance c s).gal = s.gal ∧ (State.readAdvance c s).mxe = s.mxe ∧ (State.readAdvance c s).dsc = s.dsc ∧ (State.readAdvance c s).fca = s.fca ∧ (State.readAdvance c s).cdx = s.cdx ∧ (State.readAdvance c s).spe = s.spe ∧ (State.readAdvance c s).hum = s.hum ∧ (State.readAdvance c s).dmc = s.dmc ∧ (State.readAdvance c s).csu = s.csu :=
  have h := (State.readAdvance_touch _ _ (by simp) (Touch.refl 13895457 _))
  ⟨h.pending, h.freeCnt rfl, h.timers rfl, h.tbu rfl, h.power rfl, h.sheet rfl, h.sheetOld rfl, h.gal rfl, h.mxe rfl, h.dsc rfl, h.fca rfl, h.cdx rfl, h.spe rfl, h.hum rfl, h.dmc rfl, h.csu rfl⟩

@[simp] theorem State.dataResume_units (s : State) :
    (State.dataResume s).pending = s.pending ∧ (State.dataResume s).freeCnt = s.freeCnt ∧ (State.dataResume s).timers = s.timers ∧ (State.dataResume s).tbu = s.tbu ∧ (State.dataResume s).power = s.power ∧ (State.dataResume s).sheet = s.sheet ∧ (State.dataResume s).sheetOld = s.sheetOld ∧ (State.dataResume s).gal = s.gal ∧ (State.dataResume s).mxe = s.mxe ∧ (State.dataResume s).dsc = s.dsc ∧ (State.dataResume s).fca = s.fca ∧ (State.dataResume s).cdx = s.cdx ∧ (State.dataResume s).spe = s.spe ∧ (State.dataResume s).hum = s.hum ∧ (State.dataResume s).bpm = s.bpm ∧ (State.dataResume s).dmc = s.dmc ∧ (State.dataResume s).ccl = s.ccl ∧ (State.dataResume s).csu = s.csu ∧ (State.dataResume s).mgp = s.mgp ∧ (State.dataResume s).cru = s.cru :=
  have h := (State.dataResume_touch _ (by simp) (Touch.refl 1825 _))
  ⟨h.pending, h.freeCnt rfl, h.timers rfl, h.tbu rfl, h.power rfl, h.sheet rfl, h.sheetOld rfl, h.gal rfl, h.mxe rfl, h.dsc rfl, h.fca rfl, h.cdx rfl, h.spe rfl, h.hum rfl, h.bpm rfl, h.dmc rfl, h.ccl rfl, h.csu rfl, h.mgp rfl, h.cru rfl⟩

@[simp] theorem State.readSlot_units (c : Nat) (x : Ctx) (w : SlotWork) (d : Option SlotData) (status : Nat) (s : State) :
    (State.readSlot c x w d status s).pending = s.pending ∧ (State.readSlot c x w d status s).freeCnt = s.freeCnt ∧ (State.readSlot c x w d status s).timers = s.timers ∧ (State.readSlot c x w d status s).tbu = s.tbu ∧ (State.readSlot c x w d status s).power = s.power ∧ (State.readSlot c x w d status s).sheet = s.sheet ∧ (State.readSlot c x w d status s).sheetOld = s.sheetOld ∧ (State.readSlot c x w d status s).gal = s.gal ∧ (State.readSlot c x w d status s).mxe = s.mxe ∧ (State.readSlot c x w d status s).dsc = s.dsc ∧ (State.readSlot c x w d status s).fca = s.fca ∧ (State.readSlot c x w d status s).cdx = s.cdx ∧ (State.readSlot c x w d status s).spe = s.spe ∧ (State.readSlot c x w d status s).hum = s.hum ∧ (State.readSlot c x w d status s).dmc = s.dmc ∧ (State.readSlot c x w d status s).csu = s.csu :=
  have h := (State.readSlot_touch _ _ _ _ _ _ (by simp) (Touch.refl 13895457 _))
  ⟨h.pending, h.freeCnt rfl, h.timers rfl, h.tbu rfl, h.power rfl, h.sheet rfl, h.sheetOld rfl, h.gal rfl, h.mxe rfl, h.dsc rfl, h.fca rfl, h.cdx rfl, h.spe rfl, h.hum rfl, h.dmc rfl, h.csu rfl⟩

@[simp] theorem State.countL5_units (l : Loc) (v : Nat) (s : State) :
    (State.countL5 l v s).pending = s.pending ∧ (State.countL5 l v s).out = s.out ∧ (State.countL5 l v s).freeCnt = s.freeCnt ∧ (State.countL5 l v s).timers = s.timers ∧ (State.countL5 l v s).tbu = s.tbu ∧ (State.countL5 l v s).power = s.power ∧ (State.countL5 l v s).sheet = s.sheet ∧ (State.countL5 l v s).sheetOld = s.sheetOld ∧ (State.countL5 l v s).hlu = s.hlu ∧ (State.countL5 l v s).qen = s.qen ∧ (State.countL5 l v s).tnu = s.tnu ∧ (State.countL5 l v s).gal = s.gal ∧ (State.countL5 l v s).mxe = s.mxe ∧ (State.countL5 l v s).dsc = s.dsc ∧ (State.countL5 l v s).fca = s.fca ∧ (State.countL5 l v s).cdx = s.cdx ∧ (State.countL5 l v s).spe = s.spe ∧ (State.countL5 l v s).hum = s.hum ∧ (State.countL5 l v s).bpm = s.bpm ∧ (State.countL5 l v s).dmc = s.dmc ∧ (State.countL5 l v s).ccl = s.ccl ∧ (State.countL5 l v s).csu = s.csu ∧ (State.countL5 l v s).mgp = s.mgp ∧ (State.countL5 l v s).cru = s.cru :=
  have h := (State.countL5_touch _ _ _ (by simp) (Touch.refl 32 _))
  ⟨h.pending, h.out rfl, h.freeCnt rfl, h.timers rfl, h.tbu rfl, h.power rfl, h.sheet rfl, h.sheetOld rfl, h.hlu rfl, h.qen rfl, h.tnu rfl, h.gal rfl, h.mxe rfl, h.dsc rfl, h.fca rfl, h.cdx rfl, h.spe rfl, h.hum rfl, h.bpm rfl, h.dmc rfl, h.ccl rfl, h.csu rfl, h.mgp rfl, h.cru rfl⟩

@[simp] theorem State.afterDecode_units (l : Loc) (v : Nat) (s : State) :
    (State.afterDecode l v s).pending = s.pending ∧ (State.afterDecode l v s).freeCnt = s.freeCnt ∧ (State.afterDecode l v s).timers = s.timers ∧ (State.afterDecode l v s).tbu = s.tbu ∧ (State.afterDecode l v s).power = s.power ∧ (State.afterDecode l v s).sheet = s.sheet ∧ (State.afterDecode l v s).sheetOld = s.sheetOld ∧ (State.afterDecode l v s).hlu = s.hlu ∧ (State.afterDecode l v s).qen = s.qen ∧ (State.afterDecode l v s).tnu = s.tnu ∧ (State.afterDecode l v s).gal = s.gal ∧ (State.afterDecode l v s).dsc = s.dsc ∧ (State.afterDecode l v s).fca = s.fca ∧ (State.afterDecode l v s).cdx = s.cdx ∧ (State.afterDecode l v s).spe = s.spe ∧ (State.afterDecode l v s).hum = s.hum ∧ (State.afterDecode l v s).dmc = s.dmc ∧ (State.afterDecode l v s).ccl = s.ccl ∧ (State.afterDecode l v s).csu = s.csu ∧ (State.afterDecode l v s).mgp = s.mgp :=
  have h := (State.afterDecode_touch _ _ _ (by simp) (Touch.refl 8654881 _))
  ⟨h.pending, h.freeCnt rfl, h.timers rfl, h.tbu rfl, h.power rfl, h.sheet rfl, h.sheetOld rfl, h.hlu rfl, h.qen rfl, h.tnu rfl, h.gal rfl, h.dsc rfl, h.fca rfl, h.cdx rfl, h.spe rfl, h.hum rfl, h.dmc rfl, h.ccl rfl, h.csu rfl, h.mgp rfl⟩

@[simp] theorem State.unrecovered_units (l : Loc) (s : State) :
    (State.unrecovered l s).pending = s.pending ∧ (State.unrecovered l s).out = s.out ∧ (State.unrecovered l s).freeCnt = s.freeCnt ∧ (State.unrecovered l s).timers = s.timers ∧ (State.unrecovered l s).tbu = s.tbu ∧ (State.unrecovered l s).power = s.power ∧ (State.unrecovered l s).sheet = s.sheet ∧ (State.unrecovered l s).sheetOld = s.sheetOld ∧ (State.unrecovered l s).hlu = s.hlu ∧ (State.unrecovered l s).qen = s.qen ∧ (State.unrecovered l s).tnu = s.tnu ∧ (State.unrecovered l s).gal = s.gal ∧ (State.unrecovered l s).dsc = s.dsc ∧ (State.unrecovered l s).fca = s.fca ∧ (State.unrecovered l s).cdx = s.cdx ∧ (State.unrecovered l s).hum = s.hum ∧ (State.unrecovered l s).bpm = s.bpm ∧ (State.unrecovered l s).dmc = s.dmc ∧ (State.unrecovered l s).csu = s.csu ∧ (State.unrecovered l s).mgp = s.mgp :=
  have h := (State.unrecovered_touch _ _ (by simp) (Touch.refl 9506848 _))
  ⟨h.pending, h.out rfl, h.freeCnt rfl, h.timers rfl, h.tbu rfl, h.power rfl, h.sheet rfl, h.sheetOld rfl, h.hlu rfl, h.qen rfl, h.tnu rfl, h.gal rfl, h.dsc rfl, h.fca rfl, h.cdx rfl, h.hum rfl, h.bpm rfl, h.dmc rfl, h.csu rfl, h.mgp rfl⟩

@[simp] theorem State.deliver_units (c : SlotCell) (v : Nat) (r : Reader) (s : State) :
    (State.deliver c v r s).pending = s.pending ∧ (State.deliver c v r s).freeCnt = s.freeCnt ∧ (State.deliver c v r s).timers = s.timers ∧ (State.deliver c v r s).tbu = s.tbu ∧ (State.deliver c v r s).power = s.power ∧ (State.deliver c v r s).sheet = s.sheet ∧ (State.deliver c v r s).sheetOld = s.sheetOld ∧ (State.deliver c v r s).gal = s.gal ∧ (State.deliver c v r s).dsc = s.dsc ∧ (State.deliver c v r s).fca = s.fca ∧ (State.deliver c v r s).spe = s.spe ∧ (State.deliver c v r s).hum = s.hum ∧ (State.deliver c v r s).dmc = s.dmc ∧ (State.deliver c v r s).csu = s.csu :=
  have h := (State.deliver_touch _ _ _ _ (by simp) (Touch.refl 13932321 _))
  ⟨h.pending, h.freeCnt rfl, h.timers rfl, h.tbu rfl, h.power rfl, h.sheet rfl, h.sheetOld rfl, h.gal rfl, h.dsc rfl, h.fca rfl, h.spe rfl, h.hum rfl, h.dmc rfl, h.csu rfl⟩

@[simp] theorem State.deliverLost_units (r : Reader) (s : State) :
    (State.deliverLost r s).pending = s.pending ∧ (State.deliverLost r s).freeCnt = s.freeCnt ∧ (State.deliverLost r s).timers = s.timers ∧ (State.deliverLost r s).tbu = s.tbu ∧ (State.deliverLost r s).power = s.power ∧ (State.deliverLost r s).sheet = s.sheet ∧ (State.deliverLost r s).sheetOld = s.sheetOld ∧ (State.deliverLost r s).gal = s.gal ∧ (State.deliverLost r s).dsc = s.dsc ∧ (State.deliverLost r s).fca = s.fca ∧ (State.deliverLost r s).cdx = s.cdx ∧ (State.deliverLost r s).spe = s.spe ∧ (State.deliverLost r s).hum = s.hum ∧ (State.deliverLost r s).dmc = s.dmc ∧ (State.deliverLost r s).csu = s.csu :=
  have h := (State.deliverLost_touch _ _ (by simp) (Touch.refl 13899553 _))
  ⟨h.pending, h.freeCnt rfl, h.timers rfl, h.tbu rfl, h.power rfl, h.sheet rfl, h.sheetOld rfl, h.gal rfl, h.dsc rfl, h.fca rfl, h.cdx rfl, h.spe rfl, h.hum rfl, h.dmc rfl, h.csu rfl⟩

@[simp] theorem State.misdirected_units (l : Loc) (r : Reader) (s : State) :
    (State.misdirected l r s).pending = s.pending ∧ (State.misdirected l r s).out = s.out ∧ (State.misdirected l r s).freeCnt = s.freeCnt ∧ (State.misdirected l r s).timers = s.timers ∧ (State.misdirected l r s).tbu = s.tbu ∧ (State.misdirected l r s).power = s.power ∧ (State.misdirected l r s).sheet = s.sheet ∧ (State.misdirected l r s).sheetOld = s.sheetOld ∧ (State.misdirected l r s).hlu = s.hlu ∧ (State.misdirected l r s).tnu = s.tnu ∧ (State.misdirected l r s).gal = s.gal ∧ (State.misdirected l r s).dsc = s.dsc ∧ (State.misdirected l r s).fca = s.fca ∧ (State.misdirected l r s).cdx = s.cdx ∧ (State.misdirected l r s).spe = s.spe ∧ (State.misdirected l r s).hum = s.hum ∧ (State.misdirected l r s).bpm = s.bpm ∧ (State.misdirected l r s).dmc = s.dmc ∧ (State.misdirected l r s).ccl = s.ccl ∧ (State.misdirected l r s).csu = s.csu ∧ (State.misdirected l r s).mgp = s.mgp :=
  have h := (State.misdirected_touch _ _ _ (by simp) (Touch.refl 8393248 _))
  ⟨h.pending, h.out rfl, h.freeCnt rfl, h.timers rfl, h.tbu rfl, h.power rfl, h.sheet rfl, h.sheetOld rfl, h.hlu rfl, h.tnu rfl, h.gal rfl, h.dsc rfl, h.fca rfl, h.cdx rfl, h.spe rfl, h.hum rfl, h.bpm rfl, h.dmc rfl, h.ccl rfl, h.csu rfl, h.mgp rfl⟩

@[simp] theorem State.correct_units (l : Loc) (attempt : Nat) (s : State) :
    (State.correct l attempt s).pending = s.pending ∧ (State.correct l attempt s).out = s.out ∧ (State.correct l attempt s).freeCnt = s.freeCnt ∧ (State.correct l attempt s).timers = s.timers ∧ (State.correct l attempt s).tbu = s.tbu ∧ (State.correct l attempt s).power = s.power ∧ (State.correct l attempt s).regf = s.regf ∧ (State.correct l attempt s).sheet = s.sheet ∧ (State.correct l attempt s).sheetOld = s.sheetOld ∧ (State.correct l attempt s).hlu = s.hlu ∧ (State.correct l attempt s).qen = s.qen ∧ (State.correct l attempt s).tnu = s.tnu ∧ (State.correct l attempt s).gal = s.gal ∧ (State.correct l attempt s).mxe = s.mxe ∧ (State.correct l attempt s).dsc = s.dsc ∧ (State.correct l attempt s).fca = s.fca ∧ (State.correct l attempt s).spe = s.spe ∧ (State.correct l attempt s).hum = s.hum ∧ (State.correct l attempt s).bpm = s.bpm ∧ (State.correct l attempt s).dmc = s.dmc ∧ (State.correct l attempt s).ccl = s.ccl ∧ (State.correct l attempt s).csu = s.csu ∧ (State.correct l attempt s).mgp = s.mgp ∧ (State.correct l attempt s).cru = s.cru :=
  have h := (State.correct_touch _ _ _ (by simp) (Touch.refl 32768 _))
  ⟨h.pending, h.out rfl, h.freeCnt rfl, h.timers rfl, h.tbu rfl, h.power rfl, h.regf rfl, h.sheet rfl, h.sheetOld rfl, h.hlu rfl, h.qen rfl, h.tnu rfl, h.gal rfl, h.mxe rfl, h.dsc rfl, h.fca rfl, h.spe rfl, h.hum rfl, h.bpm rfl, h.dmc rfl, h.ccl rfl, h.csu rfl, h.mgp rfl, h.cru rfl⟩

@[simp] theorem State.frameEnds_units (l : Loc) (s : State) :
    (State.frameEnds l s).pending = s.pending ∧ (State.frameEnds l s).out = s.out ∧ (State.frameEnds l s).freeCnt = s.freeCnt ∧ (State.frameEnds l s).timers = s.timers ∧ (State.frameEnds l s).tbu = s.tbu ∧ (State.frameEnds l s).power = s.power ∧ (State.frameEnds l s).regf = s.regf ∧ (State.frameEnds l s).sheet = s.sheet ∧ (State.frameEnds l s).sheetOld = s.sheetOld ∧ (State.frameEnds l s).hlu = s.hlu ∧ (State.frameEnds l s).qen = s.qen ∧ (State.frameEnds l s).tnu = s.tnu ∧ (State.frameEnds l s).gal = s.gal ∧ (State.frameEnds l s).mxe = s.mxe ∧ (State.frameEnds l s).dsc = s.dsc ∧ (State.frameEnds l s).fca = s.fca ∧ (State.frameEnds l s).spe = s.spe ∧ (State.frameEnds l s).hum = s.hum ∧ (State.frameEnds l s).bpm = s.bpm ∧ (State.frameEnds l s).dmc = s.dmc ∧ (State.frameEnds l s).ccl = s.ccl ∧ (State.frameEnds l s).csu = s.csu ∧ (State.frameEnds l s).mgp = s.mgp ∧ (State.frameEnds l s).cru = s.cru :=
  have h := (State.frameEnds_touch _ _ (by simp) (Touch.refl 32768 _))
  ⟨h.pending, h.out rfl, h.freeCnt rfl, h.timers rfl, h.tbu rfl, h.power rfl, h.regf rfl, h.sheet rfl, h.sheetOld rfl, h.hlu rfl, h.qen rfl, h.tnu rfl, h.gal rfl, h.mxe rfl, h.dsc rfl, h.fca rfl, h.spe rfl, h.hum rfl, h.bpm rfl, h.dmc rfl, h.ccl rfl, h.csu rfl, h.mgp rfl, h.cru rfl⟩

@[simp] theorem State.climbTo_units (l : Loc) (k : Nat) (st : Nat × Nat) (r : Reader) (s : State) :
    (State.climbTo l k st r s).pending = s.pending ∧ (State.climbTo l k st r s).out = s.out ∧ (State.climbTo l k st r s).freeCnt = s.freeCnt ∧ (State.climbTo l k st r s).timers = s.timers ∧ (State.climbTo l k st r s).tbu = s.tbu ∧ (State.climbTo l k st r s).power = s.power ∧ (State.climbTo l k st r s).regf = s.regf ∧ (State.climbTo l k st r s).sheet = s.sheet ∧ (State.climbTo l k st r s).sheetOld = s.sheetOld ∧ (State.climbTo l k st r s).hlu = s.hlu ∧ (State.climbTo l k st r s).qen = s.qen ∧ (State.climbTo l k st r s).tnu = s.tnu ∧ (State.climbTo l k st r s).gal = s.gal ∧ (State.climbTo l k st r s).mxe = s.mxe ∧ (State.climbTo l k st r s).fca = s.fca ∧ (State.climbTo l k st r s).spe = s.spe ∧ (State.climbTo l k st r s).hum = s.hum ∧ (State.climbTo l k st r s).bpm = s.bpm ∧ (State.climbTo l k st r s).dmc = s.dmc ∧ (State.climbTo l k st r s).ccl = s.ccl ∧ (State.climbTo l k st r s).csu = s.csu ∧ (State.climbTo l k st r s).mgp = s.mgp ∧ (State.climbTo l k st r s).cru = s.cru :=
  have h := (State.climbTo_touch _ _ _ _ _ (by simp) (Touch.refl 40960 _))
  ⟨h.pending, h.out rfl, h.freeCnt rfl, h.timers rfl, h.tbu rfl, h.power rfl, h.regf rfl, h.sheet rfl, h.sheetOld rfl, h.hlu rfl, h.qen rfl, h.tnu rfl, h.gal rfl, h.mxe rfl, h.fca rfl, h.spe rfl, h.hum rfl, h.bpm rfl, h.dmc rfl, h.ccl rfl, h.csu rfl, h.mgp rfl, h.cru rfl⟩

@[simp] theorem State.dropRecovery_units (s : State) :
    (State.dropRecovery s).pending = s.pending ∧ (State.dropRecovery s).out = s.out ∧ (State.dropRecovery s).freeCnt = s.freeCnt ∧ (State.dropRecovery s).timers = s.timers ∧ (State.dropRecovery s).tbu = s.tbu ∧ (State.dropRecovery s).power = s.power ∧ (State.dropRecovery s).regf = s.regf ∧ (State.dropRecovery s).sheet = s.sheet ∧ (State.dropRecovery s).sheetOld = s.sheetOld ∧ (State.dropRecovery s).hlu = s.hlu ∧ (State.dropRecovery s).qen = s.qen ∧ (State.dropRecovery s).tnu = s.tnu ∧ (State.dropRecovery s).gal = s.gal ∧ (State.dropRecovery s).mxe = s.mxe ∧ (State.dropRecovery s).fca = s.fca ∧ (State.dropRecovery s).spe = s.spe ∧ (State.dropRecovery s).hum = s.hum ∧ (State.dropRecovery s).bpm = s.bpm ∧ (State.dropRecovery s).dmc = s.dmc ∧ (State.dropRecovery s).ccl = s.ccl ∧ (State.dropRecovery s).csu = s.csu ∧ (State.dropRecovery s).mgp = s.mgp ∧ (State.dropRecovery s).cru = s.cru :=
  have h := (State.dropRecovery_touch _ (by simp) (Touch.refl 40960 _))
  ⟨h.pending, h.out rfl, h.freeCnt rfl, h.timers rfl, h.tbu rfl, h.power rfl, h.regf rfl, h.sheet rfl, h.sheetOld rfl, h.hlu rfl, h.qen rfl, h.tnu rfl, h.gal rfl, h.mxe rfl, h.fca rfl, h.spe rfl, h.hum rfl, h.bpm rfl, h.dmc rfl, h.ccl rfl, h.csu rfl, h.mgp rfl, h.cru rfl⟩

@[simp] theorem State.decodeRead_units (l : Loc) (res : DecodeResult) (s : State) :
    (State.decodeRead l res s).pending = s.pending ∧ (State.decodeRead l res s).freeCnt = s.freeCnt ∧ (State.decodeRead l res s).timers = s.timers ∧ (State.decodeRead l res s).tbu = s.tbu ∧ (State.decodeRead l res s).power = s.power ∧ (State.decodeRead l res s).sheet = s.sheet ∧ (State.decodeRead l res s).sheetOld = s.sheetOld ∧ (State.decodeRead l res s).gal = s.gal ∧ (State.decodeRead l res s).dsc = s.dsc ∧ (State.decodeRead l res s).fca = s.fca ∧ (State.decodeRead l res s).hum = s.hum ∧ (State.decodeRead l res s).dmc = s.dmc ∧ (State.decodeRead l res s).csu = s.csu :=
  have h := (State.decodeRead_touch _ _ _ (by simp) (Touch.refl 13997857 _))
  ⟨h.pending, h.freeCnt rfl, h.timers rfl, h.tbu rfl, h.power rfl, h.sheet rfl, h.sheetOld rfl, h.gal rfl, h.dsc rfl, h.fca rfl, h.hum rfl, h.dmc rfl, h.csu rfl⟩

@[simp] theorem State.verifyPass_units (k : Nat) (s : State) :
    (State.verifyPass k s).pending = s.pending ∧ (State.verifyPass k s).out = s.out ∧ (State.verifyPass k s).freeCnt = s.freeCnt ∧ (State.verifyPass k s).timers = s.timers ∧ (State.verifyPass k s).tbu = s.tbu ∧ (State.verifyPass k s).power = s.power ∧ (State.verifyPass k s).regf = s.regf ∧ (State.verifyPass k s).sheet = s.sheet ∧ (State.verifyPass k s).sheetOld = s.sheetOld ∧ (State.verifyPass k s).hlu = s.hlu ∧ (State.verifyPass k s).qen = s.qen ∧ (State.verifyPass k s).tnu = s.tnu ∧ (State.verifyPass k s).gal = s.gal ∧ (State.verifyPass k s).mxe = s.mxe ∧ (State.verifyPass k s).dsc = s.dsc ∧ (State.verifyPass k s).cdx = s.cdx ∧ (State.verifyPass k s).spe = s.spe ∧ (State.verifyPass k s).hum = s.hum ∧ (State.verifyPass k s).bpm = s.bpm ∧ (State.verifyPass k s).dmc = s.dmc ∧ (State.verifyPass k s).ccl = s.ccl ∧ (State.verifyPass k s).csu = s.csu ∧ (State.verifyPass k s).mgp = s.mgp ∧ (State.verifyPass k s).cru = s.cru :=
  have h := (State.verifyPass_touch _ _ (by simp) (Touch.refl 16384 _))
  ⟨h.pending, h.out rfl, h.freeCnt rfl, h.timers rfl, h.tbu rfl, h.power rfl, h.regf rfl, h.sheet rfl, h.sheetOld rfl, h.hlu rfl, h.qen rfl, h.tnu rfl, h.gal rfl, h.mxe rfl, h.dsc rfl, h.cdx rfl, h.spe rfl, h.hum rfl, h.bpm rfl, h.dmc rfl, h.ccl rfl, h.csu rfl, h.mgp rfl, h.cru rfl⟩

@[simp] theorem State.verifyFail_units (l : Loc) (s : State) :
    (State.verifyFail l s).pending = s.pending ∧ (State.verifyFail l s).freeCnt = s.freeCnt ∧ (State.verifyFail l s).timers = s.timers ∧ (State.verifyFail l s).tbu = s.tbu ∧ (State.verifyFail l s).power = s.power ∧ (State.verifyFail l s).sheet = s.sheet ∧ (State.verifyFail l s).sheetOld = s.sheetOld ∧ (State.verifyFail l s).hlu = s.hlu ∧ (State.verifyFail l s).tnu = s.tnu ∧ (State.verifyFail l s).gal = s.gal ∧ (State.verifyFail l s).spe = s.spe ∧ (State.verifyFail l s).hum = s.hum ∧ (State.verifyFail l s).dmc = s.dmc ∧ (State.verifyFail l s).ccl = s.ccl ∧ (State.verifyFail l s).csu = s.csu :=
  have h := (State.verifyFail_touch _ _ (by simp) (Touch.refl 12907041 _))
  ⟨h.pending, h.freeCnt rfl, h.timers rfl, h.tbu rfl, h.power rfl, h.sheet rfl, h.sheetOld rfl, h.hlu rfl, h.tnu rfl, h.gal rfl, h.spe rfl, h.hum rfl, h.dmc rfl, h.ccl rfl, h.csu rfl⟩

@[simp] theorem State.readAgain_units (l : Loc) (s : State) :
    (State.readAgain l s).pending = s.pending ∧ (State.readAgain l s).out = s.out ∧ (State.readAgain l s).freeCnt = s.freeCnt ∧ (State.readAgain l s).timers = s.timers ∧ (State.readAgain l s).tbu = s.tbu ∧ (State.readAgain l s).power = s.power ∧ (State.readAgain l s).regf = s.regf ∧ (State.readAgain l s).sheet = s.sheet ∧ (State.readAgain l s).sheetOld = s.sheetOld ∧ (State.readAgain l s).hlu = s.hlu ∧ (State.readAgain l s).qen = s.qen ∧ (State.readAgain l s).tnu = s.tnu ∧ (State.readAgain l s).gal = s.gal ∧ (State.readAgain l s).mxe = s.mxe ∧ (State.readAgain l s).fca = s.fca ∧ (State.readAgain l s).spe = s.spe ∧ (State.readAgain l s).hum = s.hum ∧ (State.readAgain l s).bpm = s.bpm ∧ (State.readAgain l s).dmc = s.dmc ∧ (State.readAgain l s).ccl = s.ccl ∧ (State.readAgain l s).csu = s.csu ∧ (State.readAgain l s).mgp = s.mgp ∧ (State.readAgain l s).cru = s.cru :=
  have h := (State.readAgain_touch _ _ (by simp) (Touch.refl 40960 _))
  ⟨h.pending, h.out rfl, h.freeCnt rfl, h.timers rfl, h.tbu rfl, h.power rfl, h.regf rfl, h.sheet rfl, h.sheetOld rfl, h.hlu rfl, h.qen rfl, h.tnu rfl, h.gal rfl, h.mxe rfl, h.fca rfl, h.spe rfl, h.hum rfl, h.bpm rfl, h.dmc rfl, h.ccl rfl, h.csu rfl, h.mgp rfl, h.cru rfl⟩

@[simp] theorem State.verifyEnds_units (l : Loc) (s : State) :
    (State.verifyEnds l s).pending = s.pending ∧ (State.verifyEnds l s).out = s.out ∧ (State.verifyEnds l s).freeCnt = s.freeCnt ∧ (State.verifyEnds l s).timers = s.timers ∧ (State.verifyEnds l s).tbu = s.tbu ∧ (State.verifyEnds l s).power = s.power ∧ (State.verifyEnds l s).regf = s.regf ∧ (State.verifyEnds l s).sheet = s.sheet ∧ (State.verifyEnds l s).sheetOld = s.sheetOld ∧ (State.verifyEnds l s).hlu = s.hlu ∧ (State.verifyEnds l s).qen = s.qen ∧ (State.verifyEnds l s).tnu = s.tnu ∧ (State.verifyEnds l s).gal = s.gal ∧ (State.verifyEnds l s).mxe = s.mxe ∧ (State.verifyEnds l s).dsc = s.dsc ∧ (State.verifyEnds l s).fca = s.fca ∧ (State.verifyEnds l s).spe = s.spe ∧ (State.verifyEnds l s).hum = s.hum ∧ (State.verifyEnds l s).bpm = s.bpm ∧ (State.verifyEnds l s).dmc = s.dmc ∧ (State.verifyEnds l s).ccl = s.ccl ∧ (State.verifyEnds l s).csu = s.csu ∧ (State.verifyEnds l s).mgp = s.mgp ∧ (State.verifyEnds l s).cru = s.cru :=
  have h := (State.verifyEnds_touch _ _ (by simp) (Touch.refl 32768 _))
  ⟨h.pending, h.out rfl, h.freeCnt rfl, h.timers rfl, h.tbu rfl, h.power rfl, h.regf rfl, h.sheet rfl, h.sheetOld rfl, h.hlu rfl, h.qen rfl, h.tnu rfl, h.gal rfl, h.mxe rfl, h.dsc rfl, h.fca rfl, h.spe rfl, h.hum rfl, h.bpm rfl, h.dmc rfl, h.ccl rfl, h.csu rfl, h.mgp rfl, h.cru rfl⟩

@[simp] theorem State.storeTheta_units (s : State) :
    (State.storeTheta s).pending = s.pending ∧ (State.storeTheta s).out = s.out ∧ (State.storeTheta s).freeCnt = s.freeCnt ∧ (State.storeTheta s).timers = s.timers ∧ (State.storeTheta s).tbu = s.tbu ∧ (State.storeTheta s).power = s.power ∧ (State.storeTheta s).regf = s.regf ∧ (State.storeTheta s).sheet = s.sheet ∧ (State.storeTheta s).sheetOld = s.sheetOld ∧ (State.storeTheta s).hlu = s.hlu ∧ (State.storeTheta s).qen = s.qen ∧ (State.storeTheta s).tnu = s.tnu ∧ (State.storeTheta s).gal = s.gal ∧ (State.storeTheta s).mxe = s.mxe ∧ (State.storeTheta s).dsc = s.dsc ∧ (State.storeTheta s).fca = s.fca ∧ (State.storeTheta s).spe = s.spe ∧ (State.storeTheta s).hum = s.hum ∧ (State.storeTheta s).bpm = s.bpm ∧ (State.storeTheta s).dmc = s.dmc ∧ (State.storeTheta s).ccl = s.ccl ∧ (State.storeTheta s).csu = s.csu ∧ (State.storeTheta s).mgp = s.mgp ∧ (State.storeTheta s).cru = s.cru :=
  have h := (State.storeTheta_touch _ (by simp) (Touch.refl 32768 _))
  ⟨h.pending, h.out rfl, h.freeCnt rfl, h.timers rfl, h.tbu rfl, h.power rfl, h.regf rfl, h.sheet rfl, h.sheetOld rfl, h.hlu rfl, h.qen rfl, h.tnu rfl, h.gal rfl, h.mxe rfl, h.dsc rfl, h.fca rfl, h.spe rfl, h.hum rfl, h.bpm rfl, h.dmc rfl, h.ccl rfl, h.csu rfl, h.mgp rfl, h.cru rfl⟩

@[simp] theorem State.addOffInterval_units (s : State) :
    (State.addOffInterval s).pending = s.pending ∧ (State.addOffInterval s).out = s.out ∧ (State.addOffInterval s).freeCnt = s.freeCnt ∧ (State.addOffInterval s).timers = s.timers ∧ (State.addOffInterval s).tbu = s.tbu ∧ (State.addOffInterval s).power = s.power ∧ (State.addOffInterval s).regf = s.regf ∧ (State.addOffInterval s).sheet = s.sheet ∧ (State.addOffInterval s).sheetOld = s.sheetOld ∧ (State.addOffInterval s).hlu = s.hlu ∧ (State.addOffInterval s).qen = s.qen ∧ (State.addOffInterval s).tnu = s.tnu ∧ (State.addOffInterval s).gal = s.gal ∧ (State.addOffInterval s).mxe = s.mxe ∧ (State.addOffInterval s).dsc = s.dsc ∧ (State.addOffInterval s).fca = s.fca ∧ (State.addOffInterval s).spe = s.spe ∧ (State.addOffInterval s).hum = s.hum ∧ (State.addOffInterval s).bpm = s.bpm ∧ (State.addOffInterval s).dmc = s.dmc ∧ (State.addOffInterval s).ccl = s.ccl ∧ (State.addOffInterval s).csu = s.csu ∧ (State.addOffInterval s).mgp = s.mgp ∧ (State.addOffInterval s).cru = s.cru :=
  have h := (State.addOffInterval_touch _ (by simp) (Touch.refl 32768 _))
  ⟨h.pending, h.out rfl, h.freeCnt rfl, h.timers rfl, h.tbu rfl, h.power rfl, h.regf rfl, h.sheet rfl, h.sheetOld rfl, h.hlu rfl, h.qen rfl, h.tnu rfl, h.gal rfl, h.mxe rfl, h.dsc rfl, h.fca rfl, h.spe rfl, h.hum rfl, h.bpm rfl, h.dmc rfl, h.ccl rfl, h.csu rfl, h.mgp rfl, h.cru rfl⟩

@[simp] theorem State.fleetNowValid_units (s : State) :
    (State.fleetNowValid s).pending = s.pending ∧ (State.fleetNowValid s).out = s.out ∧ (State.fleetNowValid s).freeCnt = s.freeCnt ∧ (State.fleetNowValid s).timers = s.timers ∧ (State.fleetNowValid s).tbu = s.tbu ∧ (State.fleetNowValid s).power = s.power ∧ (State.fleetNowValid s).regf = s.regf ∧ (State.fleetNowValid s).sheet = s.sheet ∧ (State.fleetNowValid s).sheetOld = s.sheetOld ∧ (State.fleetNowValid s).hlu = s.hlu ∧ (State.fleetNowValid s).qen = s.qen ∧ (State.fleetNowValid s).tnu = s.tnu ∧ (State.fleetNowValid s).gal = s.gal ∧ (State.fleetNowValid s).mxe = s.mxe ∧ (State.fleetNowValid s).dsc = s.dsc ∧ (State.fleetNowValid s).fca = s.fca ∧ (State.fleetNowValid s).spe = s.spe ∧ (State.fleetNowValid s).hum = s.hum ∧ (State.fleetNowValid s).bpm = s.bpm ∧ (State.fleetNowValid s).dmc = s.dmc ∧ (State.fleetNowValid s).ccl = s.ccl ∧ (State.fleetNowValid s).csu = s.csu ∧ (State.fleetNowValid s).mgp = s.mgp ∧ (State.fleetNowValid s).cru = s.cru :=
  have h := (State.fleetNowValid_touch _ (by simp) (Touch.refl 32768 _))
  ⟨h.pending, h.out rfl, h.freeCnt rfl, h.timers rfl, h.tbu rfl, h.power rfl, h.regf rfl, h.sheet rfl, h.sheetOld rfl, h.hlu rfl, h.qen rfl, h.tnu rfl, h.gal rfl, h.mxe rfl, h.dsc rfl, h.fca rfl, h.spe rfl, h.hum rfl, h.bpm rfl, h.dmc rfl, h.ccl rfl, h.csu rfl, h.mgp rfl, h.cru rfl⟩

@[simp] theorem State.scrubSample_units (x : ScrubSample) (s : State) :
    (State.scrubSample x s).pending = s.pending ∧ (State.scrubSample x s).freeCnt = s.freeCnt ∧ (State.scrubSample x s).timers = s.timers ∧ (State.scrubSample x s).tbu = s.tbu ∧ (State.scrubSample x s).power = s.power ∧ (State.scrubSample x s).sheet = s.sheet ∧ (State.scrubSample x s).sheetOld = s.sheetOld ∧ (State.scrubSample x s).hlu = s.hlu ∧ (State.scrubSample x s).qen = s.qen ∧ (State.scrubSample x s).tnu = s.tnu ∧ (State.scrubSample x s).gal = s.gal ∧ (State.scrubSample x s).dsc = s.dsc ∧ (State.scrubSample x s).fca = s.fca ∧ (State.scrubSample x s).cdx = s.cdx ∧ (State.scrubSample x s).hum = s.hum ∧ (State.scrubSample x s).dmc = s.dmc ∧ (State.scrubSample x s).csu = s.csu ∧ (State.scrubSample x s).mgp = s.mgp :=
  have h := (State.scrubSample_touch _ _ (by simp) (Touch.refl 9768993 _))
  ⟨h.pending, h.freeCnt rfl, h.timers rfl, h.tbu rfl, h.power rfl, h.sheet rfl, h.sheetOld rfl, h.hlu rfl, h.qen rfl, h.tnu rfl, h.gal rfl, h.dsc rfl, h.fca rfl, h.cdx rfl, h.hum rfl, h.dmc rfl, h.csu rfl, h.mgp rfl⟩

@[simp] theorem State.scrubPeriod_units (s : State) :
    (State.scrubPeriod s).pending = s.pending ∧ (State.scrubPeriod s).out = s.out ∧ (State.scrubPeriod s).freeCnt = s.freeCnt ∧ (State.scrubPeriod s).timers = s.timers ∧ (State.scrubPeriod s).tbu = s.tbu ∧ (State.scrubPeriod s).power = s.power ∧ (State.scrubPeriod s).regf = s.regf ∧ (State.scrubPeriod s).sheet = s.sheet ∧ (State.scrubPeriod s).sheetOld = s.sheetOld ∧ (State.scrubPeriod s).hlu = s.hlu ∧ (State.scrubPeriod s).qen = s.qen ∧ (State.scrubPeriod s).tnu = s.tnu ∧ (State.scrubPeriod s).gal = s.gal ∧ (State.scrubPeriod s).mxe = s.mxe ∧ (State.scrubPeriod s).dsc = s.dsc ∧ (State.scrubPeriod s).fca = s.fca ∧ (State.scrubPeriod s).spe = s.spe ∧ (State.scrubPeriod s).hum = s.hum ∧ (State.scrubPeriod s).bpm = s.bpm ∧ (State.scrubPeriod s).dmc = s.dmc ∧ (State.scrubPeriod s).ccl = s.ccl ∧ (State.scrubPeriod s).csu = s.csu ∧ (State.scrubPeriod s).mgp = s.mgp ∧ (State.scrubPeriod s).cru = s.cru :=
  have h := (State.scrubPeriod_touch _ (by simp) (Touch.refl 32768 _))
  ⟨h.pending, h.out rfl, h.freeCnt rfl, h.timers rfl, h.tbu rfl, h.power rfl, h.regf rfl, h.sheet rfl, h.sheetOld rfl, h.hlu rfl, h.qen rfl, h.tnu rfl, h.gal rfl, h.mxe rfl, h.dsc rfl, h.fca rfl, h.spe rfl, h.hum rfl, h.bpm rfl, h.dmc rfl, h.ccl rfl, h.csu rfl, h.mgp rfl, h.cru rfl⟩

@[simp] theorem State.wearSteps_units (p : Nat) (s : State) :
    (State.wearSteps p s).pending = s.pending ∧ (State.wearSteps p s).freeCnt = s.freeCnt ∧ (State.wearSteps p s).timers = s.timers ∧ (State.wearSteps p s).tbu = s.tbu ∧ (State.wearSteps p s).power = s.power ∧ (State.wearSteps p s).sheet = s.sheet ∧ (State.wearSteps p s).sheetOld = s.sheetOld ∧ (State.wearSteps p s).hlu = s.hlu ∧ (State.wearSteps p s).tnu = s.tnu ∧ (State.wearSteps p s).gal = s.gal ∧ (State.wearSteps p s).mxe = s.mxe ∧ (State.wearSteps p s).dsc = s.dsc ∧ (State.wearSteps p s).fca = s.fca ∧ (State.wearSteps p s).spe = s.spe ∧ (State.wearSteps p s).hum = s.hum ∧ (State.wearSteps p s).bpm = s.bpm ∧ (State.wearSteps p s).dmc = s.dmc ∧ (State.wearSteps p s).ccl = s.ccl ∧ (State.wearSteps p s).csu = s.csu :=
  have h := (State.wearSteps_touch _ _ (by simp) (Touch.refl 12616225 _))
  ⟨h.pending, h.freeCnt rfl, h.timers rfl, h.tbu rfl, h.power rfl, h.sheet rfl, h.sheetOld rfl, h.hlu rfl, h.tnu rfl, h.gal rfl, h.mxe rfl, h.dsc rfl, h.fca rfl, h.spe rfl, h.hum rfl, h.bpm rfl, h.dmc rfl, h.ccl rfl, h.csu rfl⟩

@[simp] theorem State.keyStart_units (op : KeyOp) (code slot : Nat) (s : State) :
    (State.keyStart op code slot s).pending = s.pending ∧ (State.keyStart op code slot s).out = s.out ∧ (State.keyStart op code slot s).freeCnt = s.freeCnt ∧ (State.keyStart op code slot s).timers = s.timers ∧ (State.keyStart op code slot s).tbu = s.tbu ∧ (State.keyStart op code slot s).power = s.power ∧ (State.keyStart op code slot s).sheet = s.sheet ∧ (State.keyStart op code slot s).sheetOld = s.sheetOld ∧ (State.keyStart op code slot s).hlu = s.hlu ∧ (State.keyStart op code slot s).qen = s.qen ∧ (State.keyStart op code slot s).tnu = s.tnu ∧ (State.keyStart op code slot s).gal = s.gal ∧ (State.keyStart op code slot s).mxe = s.mxe ∧ (State.keyStart op code slot s).dsc = s.dsc ∧ (State.keyStart op code slot s).fca = s.fca ∧ (State.keyStart op code slot s).spe = s.spe ∧ (State.keyStart op code slot s).hum = s.hum ∧ (State.keyStart op code slot s).bpm = s.bpm ∧ (State.keyStart op code slot s).dmc = s.dmc ∧ (State.keyStart op code slot s).ccl = s.ccl ∧ (State.keyStart op code slot s).csu = s.csu ∧ (State.keyStart op code slot s).mgp = s.mgp ∧ (State.keyStart op code slot s).cru = s.cru :=
  have h := (State.keyStart_touch _ _ _ _ (by simp) (Touch.refl 32800 _))
  ⟨h.pending, h.out rfl, h.freeCnt rfl, h.timers rfl, h.tbu rfl, h.power rfl, h.sheet rfl, h.sheetOld rfl, h.hlu rfl, h.qen rfl, h.tnu rfl, h.gal rfl, h.mxe rfl, h.dsc rfl, h.fca rfl, h.spe rfl, h.hum rfl, h.bpm rfl, h.dmc rfl, h.ccl rfl, h.csu rfl, h.mgp rfl, h.cru rfl⟩

@[simp] theorem State.keyLoaded_units (slot : Nat) (s : State) :
    (State.keyLoaded slot s).pending = s.pending ∧ (State.keyLoaded slot s).out = s.out ∧ (State.keyLoaded slot s).freeCnt = s.freeCnt ∧ (State.keyLoaded slot s).timers = s.timers ∧ (State.keyLoaded slot s).tbu = s.tbu ∧ (State.keyLoaded slot s).power = s.power ∧ (State.keyLoaded slot s).regf = s.regf ∧ (State.keyLoaded slot s).sheet = s.sheet ∧ (State.keyLoaded slot s).sheetOld = s.sheetOld ∧ (State.keyLoaded slot s).hlu = s.hlu ∧ (State.keyLoaded slot s).qen = s.qen ∧ (State.keyLoaded slot s).tnu = s.tnu ∧ (State.keyLoaded slot s).gal = s.gal ∧ (State.keyLoaded slot s).mxe = s.mxe ∧ (State.keyLoaded slot s).dsc = s.dsc ∧ (State.keyLoaded slot s).fca = s.fca ∧ (State.keyLoaded slot s).spe = s.spe ∧ (State.keyLoaded slot s).hum = s.hum ∧ (State.keyLoaded slot s).bpm = s.bpm ∧ (State.keyLoaded slot s).dmc = s.dmc ∧ (State.keyLoaded slot s).ccl = s.ccl ∧ (State.keyLoaded slot s).csu = s.csu ∧ (State.keyLoaded slot s).mgp = s.mgp ∧ (State.keyLoaded slot s).cru = s.cru :=
  have h := (State.keyLoaded_touch _ _ (by simp) (Touch.refl 32768 _))
  ⟨h.pending, h.out rfl, h.freeCnt rfl, h.timers rfl, h.tbu rfl, h.power rfl, h.regf rfl, h.sheet rfl, h.sheetOld rfl, h.hlu rfl, h.qen rfl, h.tnu rfl, h.gal rfl, h.mxe rfl, h.dsc rfl, h.fca rfl, h.spe rfl, h.hum rfl, h.bpm rfl, h.dmc rfl, h.ccl rfl, h.csu rfl, h.mgp rfl, h.cru rfl⟩

@[simp] theorem State.keyGenerated_units (slot : Nat) (s : State) :
    (State.keyGenerated slot s).pending = s.pending ∧ (State.keyGenerated slot s).out = s.out ∧ (State.keyGenerated slot s).timers = s.timers ∧ (State.keyGenerated slot s).tbu = s.tbu ∧ (State.keyGenerated slot s).power = s.power ∧ (State.keyGenerated slot s).regf = s.regf ∧ (State.keyGenerated slot s).sheet = s.sheet ∧ (State.keyGenerated slot s).sheetOld = s.sheetOld ∧ (State.keyGenerated slot s).hlu = s.hlu ∧ (State.keyGenerated slot s).qen = s.qen ∧ (State.keyGenerated slot s).tnu = s.tnu ∧ (State.keyGenerated slot s).gal = s.gal ∧ (State.keyGenerated slot s).mxe = s.mxe ∧ (State.keyGenerated slot s).dsc = s.dsc ∧ (State.keyGenerated slot s).fca = s.fca ∧ (State.keyGenerated slot s).spe = s.spe ∧ (State.keyGenerated slot s).hum = s.hum ∧ (State.keyGenerated slot s).bpm = s.bpm ∧ (State.keyGenerated slot s).dmc = s.dmc ∧ (State.keyGenerated slot s).ccl = s.ccl ∧ (State.keyGenerated slot s).csu = s.csu ∧ (State.keyGenerated slot s).mgp = s.mgp ∧ (State.keyGenerated slot s).cru = s.cru :=
  have h := (State.keyGenerated_touch _ _ (by simp) (Touch.refl 32770 _))
  ⟨h.pending, h.out rfl, h.timers rfl, h.tbu rfl, h.power rfl, h.regf rfl, h.sheet rfl, h.sheetOld rfl, h.hlu rfl, h.qen rfl, h.tnu rfl, h.gal rfl, h.mxe rfl, h.dsc rfl, h.fca rfl, h.spe rfl, h.hum rfl, h.bpm rfl, h.dmc rfl, h.ccl rfl, h.csu rfl, h.mgp rfl, h.cru rfl⟩

@[simp] theorem State.dramLog_units (c : DramCoord) (uncorr : Bool) (dev : Nat) (s : State) :
    (State.dramLog c uncorr dev s).pending = s.pending ∧ (State.dramLog c uncorr dev s).out = s.out ∧ (State.dramLog c uncorr dev s).freeCnt = s.freeCnt ∧ (State.dramLog c uncorr dev s).timers = s.timers ∧ (State.dramLog c uncorr dev s).tbu = s.tbu ∧ (State.dramLog c uncorr dev s).power = s.power ∧ (State.dramLog c uncorr dev s).sheet = s.sheet ∧ (State.dramLog c uncorr dev s).sheetOld = s.sheetOld ∧ (State.dramLog c uncorr dev s).hlu = s.hlu ∧ (State.dramLog c uncorr dev s).qen = s.qen ∧ (State.dramLog c uncorr dev s).tnu = s.tnu ∧ (State.dramLog c uncorr dev s).gal = s.gal ∧ (State.dramLog c uncorr dev s).mxe = s.mxe ∧ (State.dramLog c uncorr dev s).dsc = s.dsc ∧ (State.dramLog c uncorr dev s).fca = s.fca ∧ (State.dramLog c uncorr dev s).cdx = s.cdx ∧ (State.dramLog c uncorr dev s).spe = s.spe ∧ (State.dramLog c uncorr dev s).hum = s.hum ∧ (State.dramLog c uncorr dev s).bpm = s.bpm ∧ (State.dramLog c uncorr dev s).dmc = s.dmc ∧ (State.dramLog c uncorr dev s).ccl = s.ccl ∧ (State.dramLog c uncorr dev s).csu = s.csu ∧ (State.dramLog c uncorr dev s).mgp = s.mgp :=
  have h := (State.dramLog_touch _ _ _ _ (by simp) (Touch.refl 8388640 _))
  ⟨h.pending, h.out rfl, h.freeCnt rfl, h.timers rfl, h.tbu rfl, h.power rfl, h.sheet rfl, h.sheetOld rfl, h.hlu rfl, h.qen rfl, h.tnu rfl, h.gal rfl, h.mxe rfl, h.dsc rfl, h.fca rfl, h.cdx rfl, h.spe rfl, h.hum rfl, h.bpm rfl, h.dmc rfl, h.ccl rfl, h.csu rfl, h.mgp rfl⟩

@[simp] theorem State.dramEcc_units (addr : Nat) (e : EccResult) (s : State) :
    (State.dramEcc addr e s).pending = s.pending ∧ (State.dramEcc addr e s).out = s.out ∧ (State.dramEcc addr e s).freeCnt = s.freeCnt ∧ (State.dramEcc addr e s).timers = s.timers ∧ (State.dramEcc addr e s).tbu = s.tbu ∧ (State.dramEcc addr e s).power = s.power ∧ (State.dramEcc addr e s).sheet = s.sheet ∧ (State.dramEcc addr e s).sheetOld = s.sheetOld ∧ (State.dramEcc addr e s).hlu = s.hlu ∧ (State.dramEcc addr e s).qen = s.qen ∧ (State.dramEcc addr e s).tnu = s.tnu ∧ (State.dramEcc addr e s).gal = s.gal ∧ (State.dramEcc addr e s).mxe = s.mxe ∧ (State.dramEcc addr e s).dsc = s.dsc ∧ (State.dramEcc addr e s).fca = s.fca ∧ (State.dramEcc addr e s).cdx = s.cdx ∧ (State.dramEcc addr e s).spe = s.spe ∧ (State.dramEcc addr e s).hum = s.hum ∧ (State.dramEcc addr e s).bpm = s.bpm ∧ (State.dramEcc addr e s).ccl = s.ccl ∧ (State.dramEcc addr e s).csu = s.csu ∧ (State.dramEcc addr e s).mgp = s.mgp :=
  have h := (State.dramEcc_touch _ _ _ (by simp) (Touch.refl 8912928 _))
  ⟨h.pending, h.out rfl, h.freeCnt rfl, h.timers rfl, h.tbu rfl, h.power rfl, h.sheet rfl, h.sheetOld rfl, h.hlu rfl, h.qen rfl, h.tnu rfl, h.gal rfl, h.mxe rfl, h.dsc rfl, h.fca rfl, h.cdx rfl, h.spe rfl, h.hum rfl, h.bpm rfl, h.ccl rfl, h.csu rfl, h.mgp rfl⟩

@[simp] theorem State.activate_units (c : DramCoord) (s : State) :
    (State.activate c s).pending = s.pending ∧ (State.activate c s).freeCnt = s.freeCnt ∧ (State.activate c s).timers = s.timers ∧ (State.activate c s).tbu = s.tbu ∧ (State.activate c s).power = s.power ∧ (State.activate c s).sheet = s.sheet ∧ (State.activate c s).sheetOld = s.sheetOld ∧ (State.activate c s).hlu = s.hlu ∧ (State.activate c s).qen = s.qen ∧ (State.activate c s).tnu = s.tnu ∧ (State.activate c s).gal = s.gal ∧ (State.activate c s).mxe = s.mxe ∧ (State.activate c s).dsc = s.dsc ∧ (State.activate c s).fca = s.fca ∧ (State.activate c s).cdx = s.cdx ∧ (State.activate c s).spe = s.spe ∧ (State.activate c s).hum = s.hum ∧ (State.activate c s).bpm = s.bpm ∧ (State.activate c s).ccl = s.ccl ∧ (State.activate c s).csu = s.csu ∧ (State.activate c s).mgp = s.mgp ∧ (State.activate c s).cru = s.cru :=
  have h := (State.activate_touch _ _ (by simp) (Touch.refl 524321 _))
  ⟨h.pending, h.freeCnt rfl, h.timers rfl, h.tbu rfl, h.power rfl, h.sheet rfl, h.sheetOld rfl, h.hlu rfl, h.qen rfl, h.tnu rfl, h.gal rfl, h.mxe rfl, h.dsc rfl, h.fca rfl, h.cdx rfl, h.spe rfl, h.hum rfl, h.bpm rfl, h.ccl rfl, h.csu rfl, h.mgp rfl, h.cru rfl⟩

@[simp] theorem State.pageAfter_units (r : DramReq) (hit : Bool) (s : State) :
    (State.pageAfter r hit s).pending = s.pending ∧ (State.pageAfter r hit s).out = s.out ∧ (State.pageAfter r hit s).freeCnt = s.freeCnt ∧ (State.pageAfter r hit s).timers = s.timers ∧ (State.pageAfter r hit s).tbu = s.tbu ∧ (State.pageAfter r hit s).power = s.power ∧ (State.pageAfter r hit s).regf = s.regf ∧ (State.pageAfter r hit s).sheet = s.sheet ∧ (State.pageAfter r hit s).sheetOld = s.sheetOld ∧ (State.pageAfter r hit s).hlu = s.hlu ∧ (State.pageAfter r hit s).qen = s.qen ∧ (State.pageAfter r hit s).tnu = s.tnu ∧ (State.pageAfter r hit s).gal = s.gal ∧ (State.pageAfter r hit s).mxe = s.mxe ∧ (State.pageAfter r hit s).dsc = s.dsc ∧ (State.pageAfter r hit s).fca = s.fca ∧ (State.pageAfter r hit s).cdx = s.cdx ∧ (State.pageAfter r hit s).spe = s.spe ∧ (State.pageAfter r hit s).hum = s.hum ∧ (State.pageAfter r hit s).bpm = s.bpm ∧ (State.pageAfter r hit s).ccl = s.ccl ∧ (State.pageAfter r hit s).csu = s.csu ∧ (State.pageAfter r hit s).mgp = s.mgp ∧ (State.pageAfter r hit s).cru = s.cru :=
  have h := (State.pageAfter_touch _ _ _ (by simp) (Touch.refl 524288 _))
  ⟨h.pending, h.out rfl, h.freeCnt rfl, h.timers rfl, h.tbu rfl, h.power rfl, h.regf rfl, h.sheet rfl, h.sheetOld rfl, h.hlu rfl, h.qen rfl, h.tnu rfl, h.gal rfl, h.mxe rfl, h.dsc rfl, h.fca rfl, h.cdx rfl, h.spe rfl, h.hum rfl, h.bpm rfl, h.ccl rfl, h.csu rfl, h.mgp rfl, h.cru rfl⟩

@[simp] theorem State.dramAnswer_units (from_ : DramRequester) (addr data : Nat) (poison : Bool) (s : State) :
    (State.dramAnswer from_ addr data poison s).pending = s.pending ∧ (State.dramAnswer from_ addr data poison s).freeCnt = s.freeCnt ∧ (State.dramAnswer from_ addr data poison s).timers = s.timers ∧ (State.dramAnswer from_ addr data poison s).tbu = s.tbu ∧ (State.dramAnswer from_ addr data poison s).power = s.power ∧ (State.dramAnswer from_ addr data poison s).regf = s.regf ∧ (State.dramAnswer from_ addr data poison s).sheet = s.sheet ∧ (State.dramAnswer from_ addr data poison s).sheetOld = s.sheetOld ∧ (State.dramAnswer from_ addr data poison s).hlu = s.hlu ∧ (State.dramAnswer from_ addr data poison s).qen = s.qen ∧ (State.dramAnswer from_ addr data poison s).tnu = s.tnu ∧ (State.dramAnswer from_ addr data poison s).gal = s.gal ∧ (State.dramAnswer from_ addr data poison s).mxe = s.mxe ∧ (State.dramAnswer from_ addr data poison s).dsc = s.dsc ∧ (State.dramAnswer from_ addr data poison s).fca = s.fca ∧ (State.dramAnswer from_ addr data poison s).cdx = s.cdx ∧ (State.dramAnswer from_ addr data poison s).spe = s.spe ∧ (State.dramAnswer from_ addr data poison s).hum = s.hum ∧ (State.dramAnswer from_ addr data poison s).bpm = s.bpm ∧ (State.dramAnswer from_ addr data poison s).dmc = s.dmc ∧ (State.dramAnswer from_ addr data poison s).ccl = s.ccl ∧ (State.dramAnswer from_ addr data poison s).csu = s.csu ∧ (State.dramAnswer from_ addr data poison s).mgp = s.mgp ∧ (State.dramAnswer from_ addr data poison s).cru = s.cru :=
  have h := (State.dramAnswer_touch _ _ _ _ _ (by simp) (Touch.refl 1 _))
  ⟨h.pending, h.freeCnt rfl, h.timers rfl, h.tbu rfl, h.power rfl, h.regf rfl, h.sheet rfl, h.sheetOld rfl, h.hlu rfl, h.qen rfl, h.tnu rfl, h.gal rfl, h.mxe rfl, h.dsc rfl, h.fca rfl, h.cdx rfl, h.spe rfl, h.hum rfl, h.bpm rfl, h.dmc rfl, h.ccl rfl, h.csu rfl, h.mgp rfl, h.cru rfl⟩

@[simp] theorem State.dramServe_units (r : DramReq) (s : State) :
    (State.dramServe r s).pending = s.pending ∧ (State.dramServe r s).freeCnt = s.freeCnt ∧ (State.dramServe r s).timers = s.timers ∧ (State.dramServe r s).tbu = s.tbu ∧ (State.dramServe r s).power = s.power ∧ (State.dramServe r s).sheet = s.sheet ∧ (State.dramServe r s).sheetOld = s.sheetOld ∧ (State.dramServe r s).hlu = s.hlu ∧ (State.dramServe r s).qen = s.qen ∧ (State.dramServe r s).tnu = s.tnu ∧ (State.dramServe r s).gal = s.gal ∧ (State.dramServe r s).mxe = s.mxe ∧ (State.dramServe r s).dsc = s.dsc ∧ (State.dramServe r s).fca = s.fca ∧ (State.dramServe r s).cdx = s.cdx ∧ (State.dramServe r s).spe = s.spe ∧ (State.dramServe r s).hum = s.hum ∧ (State.dramServe r s).bpm = s.bpm ∧ (State.dramServe r s).ccl = s.ccl ∧ (State.dramServe r s).csu = s.csu ∧ (State.dramServe r s).mgp = s.mgp :=
  have h := (State.dramServe_touch _ _ (by simp) (Touch.refl 8912929 _))
  ⟨h.pending, h.freeCnt rfl, h.timers rfl, h.tbu rfl, h.power rfl, h.sheet rfl, h.sheetOld rfl, h.hlu rfl, h.qen rfl, h.tnu rfl, h.gal rfl, h.mxe rfl, h.dsc rfl, h.fca rfl, h.cdx rfl, h.spe rfl, h.hum rfl, h.bpm rfl, h.ccl rfl, h.csu rfl, h.mgp rfl⟩

@[simp] theorem State.dramTurn_units (x : Nat) (s : State) :
    (State.dramTurn x s).pending = s.pending ∧ (State.dramTurn x s).freeCnt = s.freeCnt ∧ (State.dramTurn x s).timers = s.timers ∧ (State.dramTurn x s).tbu = s.tbu ∧ (State.dramTurn x s).power = s.power ∧ (State.dramTurn x s).sheet = s.sheet ∧ (State.dramTurn x s).sheetOld = s.sheetOld ∧ (State.dramTurn x s).hlu = s.hlu ∧ (State.dramTurn x s).qen = s.qen ∧ (State.dramTurn x s).tnu = s.tnu ∧ (State.dramTurn x s).gal = s.gal ∧ (State.dramTurn x s).mxe = s.mxe ∧ (State.dramTurn x s).dsc = s.dsc ∧ (State.dramTurn x s).fca = s.fca ∧ (State.dramTurn x s).cdx = s.cdx ∧ (State.dramTurn x s).spe = s.spe ∧ (State.dramTurn x s).hum = s.hum ∧ (State.dramTurn x s).bpm = s.bpm ∧ (State.dramTurn x s).ccl = s.ccl ∧ (State.dramTurn x s).csu = s.csu ∧ (State.dramTurn x s).mgp = s.mgp :=
  have h := (State.dramTurn_touch _ _ (by simp) (Touch.refl 8912929 _))
  ⟨h.pending, h.freeCnt rfl, h.timers rfl, h.tbu rfl, h.power rfl, h.sheet rfl, h.sheetOld rfl, h.hlu rfl, h.qen rfl, h.tnu rfl, h.gal rfl, h.mxe rfl, h.dsc rfl, h.fca rfl, h.cdx rfl, h.spe rfl, h.hum rfl, h.bpm rfl, h.ccl rfl, h.csu rfl, h.mgp rfl⟩

@[simp] theorem State.dramTick_units (s : State) :
    (State.dramTick s).pending = s.pending ∧ (State.dramTick s).freeCnt = s.freeCnt ∧ (State.dramTick s).timers = s.timers ∧ (State.dramTick s).tbu = s.tbu ∧ (State.dramTick s).power = s.power ∧ (State.dramTick s).sheet = s.sheet ∧ (State.dramTick s).sheetOld = s.sheetOld ∧ (State.dramTick s).hlu = s.hlu ∧ (State.dramTick s).qen = s.qen ∧ (State.dramTick s).tnu = s.tnu ∧ (State.dramTick s).gal = s.gal ∧ (State.dramTick s).mxe = s.mxe ∧ (State.dramTick s).dsc = s.dsc ∧ (State.dramTick s).fca = s.fca ∧ (State.dramTick s).cdx = s.cdx ∧ (State.dramTick s).spe = s.spe ∧ (State.dramTick s).hum = s.hum ∧ (State.dramTick s).bpm = s.bpm ∧ (State.dramTick s).ccl = s.ccl ∧ (State.dramTick s).csu = s.csu ∧ (State.dramTick s).mgp = s.mgp :=
  have h := (State.dramTick_touch _ (by simp) (Touch.refl 8912929 _))
  ⟨h.pending, h.freeCnt rfl, h.timers rfl, h.tbu rfl, h.power rfl, h.sheet rfl, h.sheetOld rfl, h.hlu rfl, h.qen rfl, h.tnu rfl, h.gal rfl, h.mxe rfl, h.dsc rfl, h.fca rfl, h.cdx rfl, h.spe rfl, h.hum rfl, h.bpm rfl, h.ccl rfl, h.csu rfl, h.mgp rfl⟩

@[simp] theorem State.dramEnqueue_units (a : DramAccess) (ecc : EccResult) (s : State) :
    (State.dramEnqueue a ecc s).pending = s.pending ∧ (State.dramEnqueue a ecc s).out = s.out ∧ (State.dramEnqueue a ecc s).freeCnt = s.freeCnt ∧ (State.dramEnqueue a ecc s).timers = s.timers ∧ (State.dramEnqueue a ecc s).tbu = s.tbu ∧ (State.dramEnqueue a ecc s).power = s.power ∧ (State.dramEnqueue a ecc s).regf = s.regf ∧ (State.dramEnqueue a ecc s).sheet = s.sheet ∧ (State.dramEnqueue a ecc s).sheetOld = s.sheetOld ∧ (State.dramEnqueue a ecc s).hlu = s.hlu ∧ (State.dramEnqueue a ecc s).qen = s.qen ∧ (State.dramEnqueue a ecc s).tnu = s.tnu ∧ (State.dramEnqueue a ecc s).gal = s.gal ∧ (State.dramEnqueue a ecc s).mxe = s.mxe ∧ (State.dramEnqueue a ecc s).dsc = s.dsc ∧ (State.dramEnqueue a ecc s).fca = s.fca ∧ (State.dramEnqueue a ecc s).cdx = s.cdx ∧ (State.dramEnqueue a ecc s).spe = s.spe ∧ (State.dramEnqueue a ecc s).hum = s.hum ∧ (State.dramEnqueue a ecc s).bpm = s.bpm ∧ (State.dramEnqueue a ecc s).ccl = s.ccl ∧ (State.dramEnqueue a ecc s).csu = s.csu ∧ (State.dramEnqueue a ecc s).mgp = s.mgp ∧ (State.dramEnqueue a ecc s).cru = s.cru :=
  have h := (State.dramEnqueue_touch _ _ _ (by simp) (Touch.refl 524288 _))
  ⟨h.pending, h.out rfl, h.freeCnt rfl, h.timers rfl, h.tbu rfl, h.power rfl, h.regf rfl, h.sheet rfl, h.sheetOld rfl, h.hlu rfl, h.qen rfl, h.tnu rfl, h.gal rfl, h.mxe rfl, h.dsc rfl, h.fca rfl, h.cdx rfl, h.spe rfl, h.hum rfl, h.bpm rfl, h.ccl rfl, h.csu rfl, h.mgp rfl, h.cru rfl⟩

@[simp] theorem State.refTaken_units (x : Nat) (s : State) :
    (State.refTaken x s).pending = s.pending ∧ (State.refTaken x s).out = s.out ∧ (State.refTaken x s).freeCnt = s.freeCnt ∧ (State.refTaken x s).timers = s.timers ∧ (State.refTaken x s).tbu = s.tbu ∧ (State.refTaken x s).power = s.power ∧ (State.refTaken x s).regf = s.regf ∧ (State.refTaken x s).sheet = s.sheet ∧ (State.refTaken x s).sheetOld = s.sheetOld ∧ (State.refTaken x s).hlu = s.hlu ∧ (State.refTaken x s).qen = s.qen ∧ (State.refTaken x s).tnu = s.tnu ∧ (State.refTaken x s).gal = s.gal ∧ (State.refTaken x s).mxe = s.mxe ∧ (State.refTaken x s).dsc = s.dsc ∧ (State.refTaken x s).fca = s.fca ∧ (State.refTaken x s).cdx = s.cdx ∧ (State.refTaken x s).spe = s.spe ∧ (State.refTaken x s).hum = s.hum ∧ (State.refTaken x s).bpm = s.bpm ∧ (State.refTaken x s).ccl = s.ccl ∧ (State.refTaken x s).csu = s.csu ∧ (State.refTaken x s).mgp = s.mgp ∧ (State.refTaken x s).cru = s.cru :=
  have h := (State.refTaken_touch _ _ (by simp) (Touch.refl 524288 _))
  ⟨h.pending, h.out rfl, h.freeCnt rfl, h.timers rfl, h.tbu rfl, h.power rfl, h.regf rfl, h.sheet rfl, h.sheetOld rfl, h.hlu rfl, h.qen rfl, h.tnu rfl, h.gal rfl, h.mxe rfl, h.dsc rfl, h.fca rfl, h.cdx rfl, h.spe rfl, h.hum rfl, h.bpm rfl, h.ccl rfl, h.csu rfl, h.mgp rfl, h.cru rfl⟩

@[simp] theorem State.channelDead_units (ch : Nat) (s : State) :
    (State.channelDead ch s).pending = s.pending ∧ (State.channelDead ch s).freeCnt = s.freeCnt ∧ (State.channelDead ch s).timers = s.timers ∧ (State.channelDead ch s).tbu = s.tbu ∧ (State.channelDead ch s).power = s.power ∧ (State.channelDead ch s).sheet = s.sheet ∧ (State.channelDead ch s).sheetOld = s.sheetOld ∧ (State.channelDead ch s).hlu = s.hlu ∧ (State.channelDead ch s).tnu = s.tnu ∧ (State.channelDead ch s).gal = s.gal ∧ (State.channelDead ch s).mxe = s.mxe ∧ (State.channelDead ch s).dsc = s.dsc ∧ (State.channelDead ch s).fca = s.fca ∧ (State.channelDead ch s).cdx = s.cdx ∧ (State.channelDead ch s).spe = s.spe ∧ (State.channelDead ch s).hum = s.hum ∧ (State.channelDead ch s).bpm = s.bpm ∧ (State.channelDead ch s).csu = s.csu :=
  have h := (State.channelDead_touch _ _ (by simp) (Touch.refl 14156321 _))
  ⟨h.pending, h.freeCnt rfl, h.timers rfl, h.tbu rfl, h.power rfl, h.sheet rfl, h.sheetOld rfl, h.hlu rfl, h.tnu rfl, h.gal rfl, h.mxe rfl, h.dsc rfl, h.fca rfl, h.cdx rfl, h.spe rfl, h.hum rfl, h.bpm rfl, h.csu rfl⟩

@[simp] theorem State.caRetrain_units (ch : Nat) (s : State) :
    (State.caRetrain ch s).pending = s.pending ∧ (State.caRetrain ch s).freeCnt = s.freeCnt ∧ (State.caRetrain ch s).timers = s.timers ∧ (State.caRetrain ch s).tbu = s.tbu ∧ (State.caRetrain ch s).power = s.power ∧ (State.caRetrain ch s).sheet = s.sheet ∧ (State.caRetrain ch s).sheetOld = s.sheetOld ∧ (State.caRetrain ch s).hlu = s.hlu ∧ (State.caRetrain ch s).qen = s.qen ∧ (State.caRetrain ch s).tnu = s.tnu ∧ (State.caRetrain ch s).gal = s.gal ∧ (State.caRetrain ch s).mxe = s.mxe ∧ (State.caRetrain ch s).dsc = s.dsc ∧ (State.caRetrain ch s).fca = s.fca ∧ (State.caRetrain ch s).cdx = s.cdx ∧ (State.caRetrain ch s).spe = s.spe ∧ (State.caRetrain ch s).hum = s.hum ∧ (State.caRetrain ch s).bpm = s.bpm ∧ (State.caRetrain ch s).ccl = s.ccl ∧ (State.caRetrain ch s).csu = s.csu ∧ (State.caRetrain ch s).mgp = s.mgp :=
  have h := (State.caRetrain_touch _ _ (by simp) (Touch.refl 8912929 _))
  ⟨h.pending, h.freeCnt rfl, h.timers rfl, h.tbu rfl, h.power rfl, h.sheet rfl, h.sheetOld rfl, h.hlu rfl, h.qen rfl, h.tnu rfl, h.gal rfl, h.mxe rfl, h.dsc rfl, h.fca rfl, h.cdx rfl, h.spe rfl, h.hum rfl, h.bpm rfl, h.ccl rfl, h.csu rfl, h.mgp rfl⟩

@[simp] theorem State.replayCmds_units (ch : Nat) (s : State) :
    (State.replayCmds ch s).pending = s.pending ∧ (State.replayCmds ch s).freeCnt = s.freeCnt ∧ (State.replayCmds ch s).timers = s.timers ∧ (State.replayCmds ch s).tbu = s.tbu ∧ (State.replayCmds ch s).power = s.power ∧ (State.replayCmds ch s).sheet = s.sheet ∧ (State.replayCmds ch s).sheetOld = s.sheetOld ∧ (State.replayCmds ch s).hlu = s.hlu ∧ (State.replayCmds ch s).qen = s.qen ∧ (State.replayCmds ch s).tnu = s.tnu ∧ (State.replayCmds ch s).gal = s.gal ∧ (State.replayCmds ch s).mxe = s.mxe ∧ (State.replayCmds ch s).dsc = s.dsc ∧ (State.replayCmds ch s).fca = s.fca ∧ (State.replayCmds ch s).cdx = s.cdx ∧ (State.replayCmds ch s).spe = s.spe ∧ (State.replayCmds ch s).hum = s.hum ∧ (State.replayCmds ch s).bpm = s.bpm ∧ (State.replayCmds ch s).ccl = s.ccl ∧ (State.replayCmds ch s).csu = s.csu ∧ (State.replayCmds ch s).mgp = s.mgp ∧ (State.replayCmds ch s).cru = s.cru :=
  have h := (State.replayCmds_touch _ _ (by simp) (Touch.refl 524321 _))
  ⟨h.pending, h.freeCnt rfl, h.timers rfl, h.tbu rfl, h.power rfl, h.sheet rfl, h.sheetOld rfl, h.hlu rfl, h.qen rfl, h.tnu rfl, h.gal rfl, h.mxe rfl, h.dsc rfl, h.fca rfl, h.cdx rfl, h.spe rfl, h.hum rfl, h.bpm rfl, h.ccl rfl, h.csu rfl, h.mgp rfl, h.cru rfl⟩

@[simp] theorem State.dramTrain_units (ch : Nat) (s : State) :
    (State.dramTrain ch s).pending = s.pending ∧ (State.dramTrain ch s).freeCnt = s.freeCnt ∧ (State.dramTrain ch s).timers = s.timers ∧ (State.dramTrain ch s).tbu = s.tbu ∧ (State.dramTrain ch s).power = s.power ∧ (State.dramTrain ch s).regf = s.regf ∧ (State.dramTrain ch s).sheet = s.sheet ∧ (State.dramTrain ch s).sheetOld = s.sheetOld ∧ (State.dramTrain ch s).hlu = s.hlu ∧ (State.dramTrain ch s).qen = s.qen ∧ (State.dramTrain ch s).tnu = s.tnu ∧ (State.dramTrain ch s).gal = s.gal ∧ (State.dramTrain ch s).mxe = s.mxe ∧ (State.dramTrain ch s).dsc = s.dsc ∧ (State.dramTrain ch s).fca = s.fca ∧ (State.dramTrain ch s).cdx = s.cdx ∧ (State.dramTrain ch s).spe = s.spe ∧ (State.dramTrain ch s).hum = s.hum ∧ (State.dramTrain ch s).bpm = s.bpm ∧ (State.dramTrain ch s).ccl = s.ccl ∧ (State.dramTrain ch s).csu = s.csu ∧ (State.dramTrain ch s).mgp = s.mgp ∧ (State.dramTrain ch s).cru = s.cru :=
  have h := (State.dramTrain_touch _ _ (by simp) (Touch.refl 524289 _))
  ⟨h.pending, h.freeCnt rfl, h.timers rfl, h.tbu rfl, h.power rfl, h.regf rfl, h.sheet rfl, h.sheetOld rfl, h.hlu rfl, h.qen rfl, h.tnu rfl, h.gal rfl, h.mxe rfl, h.dsc rfl, h.fca rfl, h.cdx rfl, h.spe rfl, h.hum rfl, h.bpm rfl, h.ccl rfl, h.csu rfl, h.mgp rfl, h.cru rfl⟩

@[simp] theorem State.retStore_units (n : Nat) (e : RetEntry) (s : State) :
    (State.retStore n e s).pending = s.pending ∧ (State.retStore n e s).out = s.out ∧ (State.retStore n e s).freeCnt = s.freeCnt ∧ (State.retStore n e s).timers = s.timers ∧ (State.retStore n e s).tbu = s.tbu ∧ (State.retStore n e s).power = s.power ∧ (State.retStore n e s).regf = s.regf ∧ (State.retStore n e s).hlu = s.hlu ∧ (State.retStore n e s).qen = s.qen ∧ (State.retStore n e s).tnu = s.tnu ∧ (State.retStore n e s).gal = s.gal ∧ (State.retStore n e s).mxe = s.mxe ∧ (State.retStore n e s).dsc = s.dsc ∧ (State.retStore n e s).fca = s.fca ∧ (State.retStore n e s).cdx = s.cdx ∧ (State.retStore n e s).spe = s.spe ∧ (State.retStore n e s).hum = s.hum ∧ (State.retStore n e s).bpm = s.bpm ∧ (State.retStore n e s).dmc = s.dmc ∧ (State.retStore n e s).ccl = s.ccl ∧ (State.retStore n e s).csu = s.csu ∧ (State.retStore n e s).mgp = s.mgp ∧ (State.retStore n e s).cru = s.cru :=
  have h := (State.retStore_touch _ _ _ (by simp) (Touch.refl 192 _))
  ⟨h.pending, h.out rfl, h.freeCnt rfl, h.timers rfl, h.tbu rfl, h.power rfl, h.regf rfl, h.hlu rfl, h.qen rfl, h.tnu rfl, h.gal rfl, h.mxe rfl, h.dsc rfl, h.fca rfl, h.cdx rfl, h.spe rfl, h.hum rfl, h.bpm rfl, h.dmc rfl, h.ccl rfl, h.csu rfl, h.mgp rfl, h.cru rfl⟩

@[simp] theorem State.retireGo_units (n : Nat) (s : State) :
    (State.retireGo n s).pending = s.pending ∧ (State.retireGo n s).out = s.out ∧ (State.retireGo n s).freeCnt = s.freeCnt ∧ (State.retireGo n s).timers = s.timers ∧ (State.retireGo n s).tbu = s.tbu ∧ (State.retireGo n s).power = s.power ∧ (State.retireGo n s).regf = s.regf ∧ (State.retireGo n s).hlu = s.hlu ∧ (State.retireGo n s).qen = s.qen ∧ (State.retireGo n s).tnu = s.tnu ∧ (State.retireGo n s).gal = s.gal ∧ (State.retireGo n s).mxe = s.mxe ∧ (State.retireGo n s).dsc = s.dsc ∧ (State.retireGo n s).fca = s.fca ∧ (State.retireGo n s).cdx = s.cdx ∧ (State.retireGo n s).spe = s.spe ∧ (State.retireGo n s).hum = s.hum ∧ (State.retireGo n s).bpm = s.bpm ∧ (State.retireGo n s).ccl = s.ccl ∧ (State.retireGo n s).csu = s.csu ∧ (State.retireGo n s).mgp = s.mgp ∧ (State.retireGo n s).cru = s.cru :=
  have h := (State.retireGo_touch _ _ (by simp) (Touch.refl 524480 _))
  ⟨h.pending, h.out rfl, h.freeCnt rfl, h.timers rfl, h.tbu rfl, h.power rfl, h.regf rfl, h.hlu rfl, h.qen rfl, h.tnu rfl, h.gal rfl, h.mxe rfl, h.dsc rfl, h.fca rfl, h.cdx rfl, h.spe rfl, h.hum rfl, h.bpm rfl, h.ccl rfl, h.csu rfl, h.mgp rfl, h.cru rfl⟩

@[simp] theorem State.retReload_units (s : State) :
    (State.retReload s).pending = s.pending ∧ (State.retReload s).out = s.out ∧ (State.retReload s).freeCnt = s.freeCnt ∧ (State.retReload s).timers = s.timers ∧ (State.retReload s).tbu = s.tbu ∧ (State.retReload s).power = s.power ∧ (State.retReload s).sheet = s.sheet ∧ (State.retReload s).sheetOld = s.sheetOld ∧ (State.retReload s).hlu = s.hlu ∧ (State.retReload s).qen = s.qen ∧ (State.retReload s).tnu = s.tnu ∧ (State.retReload s).gal = s.gal ∧ (State.retReload s).mxe = s.mxe ∧ (State.retReload s).dsc = s.dsc ∧ (State.retReload s).fca = s.fca ∧ (State.retReload s).cdx = s.cdx ∧ (State.retReload s).spe = s.spe ∧ (State.retReload s).hum = s.hum ∧ (State.retReload s).bpm = s.bpm ∧ (State.retReload s).dmc = s.dmc ∧ (State.retReload s).ccl = s.ccl ∧ (State.retReload s).csu = s.csu ∧ (State.retReload s).mgp = s.mgp ∧ (State.retReload s).cru = s.cru :=
  have h := (State.retReload_touch _ (by simp) (Touch.refl 32 _))
  ⟨h.pending, h.out rfl, h.freeCnt rfl, h.timers rfl, h.tbu rfl, h.power rfl, h.sheet rfl, h.sheetOld rfl, h.hlu rfl, h.qen rfl, h.tnu rfl, h.gal rfl, h.mxe rfl, h.dsc rfl, h.fca rfl, h.cdx rfl, h.spe rfl, h.hum rfl, h.bpm rfl, h.dmc rfl, h.ccl rfl, h.csu rfl, h.mgp rfl, h.cru rfl⟩

@[simp] theorem State.srEnter_units (s : State) :
    (State.srEnter s).pending = s.pending ∧ (State.srEnter s).freeCnt = s.freeCnt ∧ (State.srEnter s).timers = s.timers ∧ (State.srEnter s).tbu = s.tbu ∧ (State.srEnter s).power = s.power ∧ (State.srEnter s).sheet = s.sheet ∧ (State.srEnter s).sheetOld = s.sheetOld ∧ (State.srEnter s).hlu = s.hlu ∧ (State.srEnter s).qen = s.qen ∧ (State.srEnter s).tnu = s.tnu ∧ (State.srEnter s).gal = s.gal ∧ (State.srEnter s).mxe = s.mxe ∧ (State.srEnter s).dsc = s.dsc ∧ (State.srEnter s).fca = s.fca ∧ (State.srEnter s).cdx = s.cdx ∧ (State.srEnter s).spe = s.spe ∧ (State.srEnter s).hum = s.hum ∧ (State.srEnter s).bpm = s.bpm ∧ (State.srEnter s).ccl = s.ccl ∧ (State.srEnter s).csu = s.csu ∧ (State.srEnter s).mgp = s.mgp ∧ (State.srEnter s).cru = s.cru :=
  have h := (State.srEnter_touch _ (by simp) (Touch.refl 524321 _))
  ⟨h.pending, h.freeCnt rfl, h.timers rfl, h.tbu rfl, h.power rfl, h.sheet rfl, h.sheetOld rfl, h.hlu rfl, h.qen rfl, h.tnu rfl, h.gal rfl, h.mxe rfl, h.dsc rfl, h.fca rfl, h.cdx rfl, h.spe rfl, h.hum rfl, h.bpm rfl, h.ccl rfl, h.csu rfl, h.mgp rfl, h.cru rfl⟩

@[simp] theorem State.srExit_units (s : State) :
    (State.srExit s).pending = s.pending ∧ (State.srExit s).freeCnt = s.freeCnt ∧ (State.srExit s).timers = s.timers ∧ (State.srExit s).tbu = s.tbu ∧ (State.srExit s).power = s.power ∧ (State.srExit s).regf = s.regf ∧ (State.srExit s).sheet = s.sheet ∧ (State.srExit s).sheetOld = s.sheetOld ∧ (State.srExit s).hlu = s.hlu ∧ (State.srExit s).qen = s.qen ∧ (State.srExit s).tnu = s.tnu ∧ (State.srExit s).gal = s.gal ∧ (State.srExit s).mxe = s.mxe ∧ (State.srExit s).dsc = s.dsc ∧ (State.srExit s).fca = s.fca ∧ (State.srExit s).cdx = s.cdx ∧ (State.srExit s).spe = s.spe ∧ (State.srExit s).hum = s.hum ∧ (State.srExit s).bpm = s.bpm ∧ (State.srExit s).ccl = s.ccl ∧ (State.srExit s).csu = s.csu ∧ (State.srExit s).mgp = s.mgp ∧ (State.srExit s).cru = s.cru :=
  have h := (State.srExit_touch _ (by simp) (Touch.refl 524289 _))
  ⟨h.pending, h.freeCnt rfl, h.timers rfl, h.tbu rfl, h.power rfl, h.regf rfl, h.sheet rfl, h.sheetOld rfl, h.hlu rfl, h.qen rfl, h.tnu rfl, h.gal rfl, h.mxe rfl, h.dsc rfl, h.fca rfl, h.cdx rfl, h.spe rfl, h.hum rfl, h.bpm rfl, h.ccl rfl, h.csu rfl, h.mgp rfl, h.cru rfl⟩

@[simp] theorem State.setHum_units (st : HumState) (s : State) :
    (State.setHum st s).pending = s.pending ∧ (State.setHum st s).freeCnt = s.freeCnt ∧ (State.setHum st s).timers = s.timers ∧ (State.setHum st s).tbu = s.tbu ∧ (State.setHum st s).power = s.power ∧ (State.setHum st s).sheet = s.sheet ∧ (State.setHum st s).sheetOld = s.sheetOld ∧ (State.setHum st s).hlu = s.hlu ∧ (State.setHum st s).tnu = s.tnu ∧ (State.setHum st s).gal = s.gal ∧ (State.setHum st s).mxe = s.mxe ∧ (State.setHum st s).dsc = s.dsc ∧ (State.setHum st s).fca = s.fca ∧ (State.setHum st s).cdx = s.cdx ∧ (State.setHum st s).spe = s.spe ∧ (State.setHum st s).bpm = s.bpm ∧ (State.setHum st s).dmc = s.dmc ∧ (State.setHum st s).ccl = s.ccl ∧ (State.setHum st s).csu = s.csu :=
  have h := (State.setHum_touch _ _ (by simp) (Touch.refl 12714529 _))
  ⟨h.pending, h.freeCnt rfl, h.timers rfl, h.tbu rfl, h.power rfl, h.sheet rfl, h.sheetOld rfl, h.hlu rfl, h.tnu rfl, h.gal rfl, h.mxe rfl, h.dsc rfl, h.fca rfl, h.cdx rfl, h.spe rfl, h.bpm rfl, h.dmc rfl, h.ccl rfl, h.csu rfl⟩

@[simp] theorem State.humEval_units (s : State) :
    (State.humEval s).pending = s.pending ∧ (State.humEval s).freeCnt = s.freeCnt ∧ (State.humEval s).timers = s.timers ∧ (State.humEval s).tbu = s.tbu ∧ (State.humEval s).power = s.power ∧ (State.humEval s).sheet = s.sheet ∧ (State.humEval s).sheetOld = s.sheetOld ∧ (State.humEval s).hlu = s.hlu ∧ (State.humEval s).tnu = s.tnu ∧ (State.humEval s).gal = s.gal ∧ (State.humEval s).mxe = s.mxe ∧ (State.humEval s).dsc = s.dsc ∧ (State.humEval s).fca = s.fca ∧ (State.humEval s).cdx = s.cdx ∧ (State.humEval s).spe = s.spe ∧ (State.humEval s).bpm = s.bpm ∧ (State.humEval s).dmc = s.dmc ∧ (State.humEval s).ccl = s.ccl ∧ (State.humEval s).csu = s.csu :=
  have h := (State.humEval_touch _ (by simp) (Touch.refl 12714529 _))
  ⟨h.pending, h.freeCnt rfl, h.timers rfl, h.tbu rfl, h.power rfl, h.sheet rfl, h.sheetOld rfl, h.hlu rfl, h.tnu rfl, h.gal rfl, h.mxe rfl, h.dsc rfl, h.fca rfl, h.cdx rfl, h.spe rfl, h.bpm rfl, h.dmc rfl, h.ccl rfl, h.csu rfl⟩

@[simp] theorem State.humInvalidate_units (s : State) :
    (State.humInvalidate s).pending = s.pending ∧ (State.humInvalidate s).freeCnt = s.freeCnt ∧ (State.humInvalidate s).timers = s.timers ∧ (State.humInvalidate s).tbu = s.tbu ∧ (State.humInvalidate s).power = s.power ∧ (State.humInvalidate s).sheet = s.sheet ∧ (State.humInvalidate s).sheetOld = s.sheetOld ∧ (State.humInvalidate s).hlu = s.hlu ∧ (State.humInvalidate s).tnu = s.tnu ∧ (State.humInvalidate s).gal = s.gal ∧ (State.humInvalidate s).mxe = s.mxe ∧ (State.humInvalidate s).dsc = s.dsc ∧ (State.humInvalidate s).fca = s.fca ∧ (State.humInvalidate s).cdx = s.cdx ∧ (State.humInvalidate s).spe = s.spe ∧ (State.humInvalidate s).bpm = s.bpm ∧ (State.humInvalidate s).dmc = s.dmc ∧ (State.humInvalidate s).ccl = s.ccl ∧ (State.humInvalidate s).csu = s.csu :=
  have h := (State.humInvalidate_touch _ (by simp) (Touch.refl 12714529 _))
  ⟨h.pending, h.freeCnt rfl, h.timers rfl, h.tbu rfl, h.power rfl, h.sheet rfl, h.sheetOld rfl, h.hlu rfl, h.tnu rfl, h.gal rfl, h.mxe rfl, h.dsc rfl, h.fca rfl, h.cdx rfl, h.spe rfl, h.bpm rfl, h.dmc rfl, h.ccl rfl, h.csu rfl⟩

@[simp] theorem State.humInit_units (s : State) :
    (State.humInit s).pending = s.pending ∧ (State.humInit s).freeCnt = s.freeCnt ∧ (State.humInit s).timers = s.timers ∧ (State.humInit s).tbu = s.tbu ∧ (State.humInit s).power = s.power ∧ (State.humInit s).sheet = s.sheet ∧ (State.humInit s).sheetOld = s.sheetOld ∧ (State.humInit s).hlu = s.hlu ∧ (State.humInit s).tnu = s.tnu ∧ (State.humInit s).gal = s.gal ∧ (State.humInit s).mxe = s.mxe ∧ (State.humInit s).dsc = s.dsc ∧ (State.humInit s).fca = s.fca ∧ (State.humInit s).cdx = s.cdx ∧ (State.humInit s).spe = s.spe ∧ (State.humInit s).bpm = s.bpm ∧ (State.humInit s).dmc = s.dmc ∧ (State.humInit s).ccl = s.ccl ∧ (State.humInit s).csu = s.csu :=
  have h := (State.humInit_touch _ (by simp) (Touch.refl 12714529 _))
  ⟨h.pending, h.freeCnt rfl, h.timers rfl, h.tbu rfl, h.power rfl, h.sheet rfl, h.sheetOld rfl, h.hlu rfl, h.tnu rfl, h.gal rfl, h.mxe rfl, h.dsc rfl, h.fca rfl, h.cdx rfl, h.spe rfl, h.bpm rfl, h.dmc rfl, h.ccl rfl, h.csu rfl⟩

@[simp] theorem State.resetHum_units (s : State) :
    (State.resetHum s).pending = s.pending ∧ (State.resetHum s).freeCnt = s.freeCnt ∧ (State.resetHum s).timers = s.timers ∧ (State.resetHum s).tbu = s.tbu ∧ (State.resetHum s).power = s.power ∧ (State.resetHum s).sheet = s.sheet ∧ (State.resetHum s).sheetOld = s.sheetOld ∧ (State.resetHum s).hlu = s.hlu ∧ (State.resetHum s).tnu = s.tnu ∧ (State.resetHum s).gal = s.gal ∧ (State.resetHum s).mxe = s.mxe ∧ (State.resetHum s).dsc = s.dsc ∧ (State.resetHum s).fca = s.fca ∧ (State.resetHum s).cdx = s.cdx ∧ (State.resetHum s).spe = s.spe ∧ (State.resetHum s).bpm = s.bpm ∧ (State.resetHum s).dmc = s.dmc ∧ (State.resetHum s).ccl = s.ccl ∧ (State.resetHum s).csu = s.csu :=
  have h := (State.resetHum_touch _ (by simp) (Touch.refl 12714529 _))
  ⟨h.pending, h.freeCnt rfl, h.timers rfl, h.tbu rfl, h.power rfl, h.sheet rfl, h.sheetOld rfl, h.hlu rfl, h.tnu rfl, h.gal rfl, h.mxe rfl, h.dsc rfl, h.fca rfl, h.cdx rfl, h.spe rfl, h.bpm rfl, h.dmc rfl, h.ccl rfl, h.csu rfl⟩

@[simp] theorem State.startTest_units (s : State) :
    (State.startTest s).pending = s.pending ∧ (State.startTest s).out = s.out ∧ (State.startTest s).freeCnt = s.freeCnt ∧ (State.startTest s).timers = s.timers ∧ (State.startTest s).tbu = s.tbu ∧ (State.startTest s).power = s.power ∧ (State.startTest s).regf = s.regf ∧ (State.startTest s).sheet = s.sheet ∧ (State.startTest s).sheetOld = s.sheetOld ∧ (State.startTest s).hlu = s.hlu ∧ (State.startTest s).qen = s.qen ∧ (State.startTest s).tnu = s.tnu ∧ (State.startTest s).gal = s.gal ∧ (State.startTest s).mxe = s.mxe ∧ (State.startTest s).dsc = s.dsc ∧ (State.startTest s).fca = s.fca ∧ (State.startTest s).cdx = s.cdx ∧ (State.startTest s).spe = s.spe ∧ (State.startTest s).bpm = s.bpm ∧ (State.startTest s).dmc = s.dmc ∧ (State.startTest s).ccl = s.ccl ∧ (State.startTest s).csu = s.csu ∧ (State.startTest s).mgp = s.mgp ∧ (State.startTest s).cru = s.cru :=
  have h := (State.startTest_touch _ (by simp) (Touch.refl 131072 _))
  ⟨h.pending, h.out rfl, h.freeCnt rfl, h.timers rfl, h.tbu rfl, h.power rfl, h.regf rfl, h.sheet rfl, h.sheetOld rfl, h.hlu rfl, h.qen rfl, h.tnu rfl, h.gal rfl, h.mxe rfl, h.dsc rfl, h.fca rfl, h.cdx rfl, h.spe rfl, h.bpm rfl, h.dmc rfl, h.ccl rfl, h.csu rfl, h.mgp rfl, h.cru rfl⟩

@[simp] theorem State.testGo_units (s : State) :
    (State.testGo s).pending = s.pending ∧ (State.testGo s).out = s.out ∧ (State.testGo s).freeCnt = s.freeCnt ∧ (State.testGo s).timers = s.timers ∧ (State.testGo s).tbu = s.tbu ∧ (State.testGo s).power = s.power ∧ (State.testGo s).regf = s.regf ∧ (State.testGo s).sheet = s.sheet ∧ (State.testGo s).sheetOld = s.sheetOld ∧ (State.testGo s).hlu = s.hlu ∧ (State.testGo s).qen = s.qen ∧ (State.testGo s).tnu = s.tnu ∧ (State.testGo s).gal = s.gal ∧ (State.testGo s).mxe = s.mxe ∧ (State.testGo s).dsc = s.dsc ∧ (State.testGo s).fca = s.fca ∧ (State.testGo s).cdx = s.cdx ∧ (State.testGo s).spe = s.spe ∧ (State.testGo s).bpm = s.bpm ∧ (State.testGo s).dmc = s.dmc ∧ (State.testGo s).ccl = s.ccl ∧ (State.testGo s).csu = s.csu ∧ (State.testGo s).mgp = s.mgp ∧ (State.testGo s).cru = s.cru :=
  have h := (State.testGo_touch _ (by simp) (Touch.refl 131072 _))
  ⟨h.pending, h.out rfl, h.freeCnt rfl, h.timers rfl, h.tbu rfl, h.power rfl, h.regf rfl, h.sheet rfl, h.sheetOld rfl, h.hlu rfl, h.qen rfl, h.tnu rfl, h.gal rfl, h.mxe rfl, h.dsc rfl, h.fca rfl, h.cdx rfl, h.spe rfl, h.bpm rfl, h.dmc rfl, h.ccl rfl, h.csu rfl, h.mgp rfl, h.cru rfl⟩

@[simp] theorem State.testPass_units (c : Nat) (s : State) :
    (State.testPass c s).pending = s.pending ∧ (State.testPass c s).out = s.out ∧ (State.testPass c s).freeCnt = s.freeCnt ∧ (State.testPass c s).timers = s.timers ∧ (State.testPass c s).tbu = s.tbu ∧ (State.testPass c s).power = s.power ∧ (State.testPass c s).sheetOld = s.sheetOld ∧ (State.testPass c s).hlu = s.hlu ∧ (State.testPass c s).qen = s.qen ∧ (State.testPass c s).tnu = s.tnu ∧ (State.testPass c s).gal = s.gal ∧ (State.testPass c s).mxe = s.mxe ∧ (State.testPass c s).dsc = s.dsc ∧ (State.testPass c s).fca = s.fca ∧ (State.testPass c s).cdx = s.cdx ∧ (State.testPass c s).spe = s.spe ∧ (State.testPass c s).bpm = s.bpm ∧ (State.testPass c s).dmc = s.dmc ∧ (State.testPass c s).ccl = s.ccl ∧ (State.testPass c s).csu = s.csu ∧ (State.testPass c s).mgp = s.mgp :=
  have h := (State.testPass_touch _ _ (by simp) (Touch.refl 8519776 _))
  ⟨h.pending, h.out rfl, h.freeCnt rfl, h.timers rfl, h.tbu rfl, h.power rfl, h.sheetOld rfl, h.hlu rfl, h.qen rfl, h.tnu rfl, h.gal rfl, h.mxe rfl, h.dsc rfl, h.fca rfl, h.cdx rfl, h.spe rfl, h.bpm rfl, h.dmc rfl, h.ccl rfl, h.csu rfl, h.mgp rfl⟩

@[simp] theorem State.testFail_units (s : State) :
    (State.testFail s).pending = s.pending ∧ (State.testFail s).out = s.out ∧ (State.testFail s).freeCnt = s.freeCnt ∧ (State.testFail s).timers = s.timers ∧ (State.testFail s).tbu = s.tbu ∧ (State.testFail s).power = s.power ∧ (State.testFail s).sheet = s.sheet ∧ (State.testFail s).sheetOld = s.sheetOld ∧ (State.testFail s).hlu = s.hlu ∧ (State.testFail s).qen = s.qen ∧ (State.testFail s).tnu = s.tnu ∧ (State.testFail s).gal = s.gal ∧ (State.testFail s).mxe = s.mxe ∧ (State.testFail s).dsc = s.dsc ∧ (State.testFail s).fca = s.fca ∧ (State.testFail s).cdx = s.cdx ∧ (State.testFail s).spe = s.spe ∧ (State.testFail s).bpm = s.bpm ∧ (State.testFail s).dmc = s.dmc ∧ (State.testFail s).ccl = s.ccl ∧ (State.testFail s).csu = s.csu ∧ (State.testFail s).mgp = s.mgp :=
  have h := (State.testFail_touch _ (by simp) (Touch.refl 8519712 _))
  ⟨h.pending, h.out rfl, h.freeCnt rfl, h.timers rfl, h.tbu rfl, h.power rfl, h.sheet rfl, h.sheetOld rfl, h.hlu rfl, h.qen rfl, h.tnu rfl, h.gal rfl, h.mxe rfl, h.dsc rfl, h.fca rfl, h.cdx rfl, h.spe rfl, h.bpm rfl, h.dmc rfl, h.ccl rfl, h.csu rfl, h.mgp rfl⟩

@[simp] theorem State.failCluster_units (k : Cluster) (s : State) :
    (State.failCluster k s).pending = s.pending ∧ (State.failCluster k s).out = s.out ∧ (State.failCluster k s).freeCnt = s.freeCnt ∧ (State.failCluster k s).timers = s.timers ∧ (State.failCluster k s).tbu = s.tbu ∧ (State.failCluster k s).power = s.power ∧ (State.failCluster k s).sheet = s.sheet ∧ (State.failCluster k s).sheetOld = s.sheetOld ∧ (State.failCluster k s).hlu = s.hlu ∧ (State.failCluster k s).qen = s.qen ∧ (State.failCluster k s).tnu = s.tnu ∧ (State.failCluster k s).gal = s.gal ∧ (State.failCluster k s).mxe = s.mxe ∧ (State.failCluster k s).dsc = s.dsc ∧ (State.failCluster k s).fca = s.fca ∧ (State.failCluster k s).cdx = s.cdx ∧ (State.failCluster k s).spe = s.spe ∧ (State.failCluster k s).hum = s.hum ∧ (State.failCluster k s).bpm = s.bpm ∧ (State.failCluster k s).dmc = s.dmc ∧ (State.failCluster k s).csu = s.csu ∧ (State.failCluster k s).mgp = s.mgp :=
  have h := (State.failCluster_touch _ _ (by simp) (Touch.refl 9437216 _))
  ⟨h.pending, h.out rfl, h.freeCnt rfl, h.timers rfl, h.tbu rfl, h.power rfl, h.sheet rfl, h.sheetOld rfl, h.hlu rfl, h.qen rfl, h.tnu rfl, h.gal rfl, h.mxe rfl, h.dsc rfl, h.fca rfl, h.cdx rfl, h.spe rfl, h.hum rfl, h.bpm rfl, h.dmc rfl, h.csu rfl, h.mgp rfl⟩

@[simp] theorem State.noClusterLeft_units (s : State) :
    (State.noClusterLeft s).pending = s.pending ∧ (State.noClusterLeft s).freeCnt = s.freeCnt ∧ (State.noClusterLeft s).timers = s.timers ∧ (State.noClusterLeft s).tbu = s.tbu ∧ (State.noClusterLeft s).power = s.power ∧ (State.noClusterLeft s).sheet = s.sheet ∧ (State.noClusterLeft s).sheetOld = s.sheetOld ∧ (State.noClusterLeft s).hlu = s.hlu ∧ (State.noClusterLeft s).tnu = s.tnu ∧ (State.noClusterLeft s).gal = s.gal ∧ (State.noClusterLeft s).mxe = s.mxe ∧ (State.noClusterLeft s).dsc = s.dsc ∧ (State.noClusterLeft s).fca = s.fca ∧ (State.noClusterLeft s).cdx = s.cdx ∧ (State.noClusterLeft s).spe = s.spe ∧ (State.noClusterLeft s).hum = s.hum ∧ (State.noClusterLeft s).bpm = s.bpm ∧ (State.noClusterLeft s).dmc = s.dmc ∧ (State.noClusterLeft s).csu = s.csu :=
  have h := (State.noClusterLeft_touch _ (by simp) (Touch.refl 13632033 _))
  ⟨h.pending, h.freeCnt rfl, h.timers rfl, h.tbu rfl, h.power rfl, h.sheet rfl, h.sheetOld rfl, h.hlu rfl, h.tnu rfl, h.gal rfl, h.mxe rfl, h.dsc rfl, h.fca rfl, h.cdx rfl, h.spe rfl, h.hum rfl, h.bpm rfl, h.dmc rfl, h.csu rfl⟩

@[simp] theorem State.epochRefuse_units (unit kind : Nat) (e : BitVec 8) (s : State) :
    (State.epochRefuse unit kind e s).pending = s.pending ∧ (State.epochRefuse unit kind e s).out = s.out ∧ (State.epochRefuse unit kind e s).freeCnt = s.freeCnt ∧ (State.epochRefuse unit kind e s).timers = s.timers ∧ (State.epochRefuse unit kind e s).tbu = s.tbu ∧ (State.epochRefuse unit kind e s).power = s.power ∧ (State.epochRefuse unit kind e s).sheet = s.sheet ∧ (State.epochRefuse unit kind e s).sheetOld = s.sheetOld ∧ (State.epochRefuse unit kind e s).hlu = s.hlu ∧ (State.epochRefuse unit kind e s).qen = s.qen ∧ (State.epochRefuse unit kind e s).tnu = s.tnu ∧ (State.epochRefuse unit kind e s).gal = s.gal ∧ (State.epochRefuse unit kind e s).mxe = s.mxe ∧ (State.epochRefuse unit kind e s).dsc = s.dsc ∧ (State.epochRefuse unit kind e s).fca = s.fca ∧ (State.epochRefuse unit kind e s).cdx = s.cdx ∧ (State.epochRefuse unit kind e s).spe = s.spe ∧ (State.epochRefuse unit kind e s).hum = s.hum ∧ (State.epochRefuse unit kind e s).bpm = s.bpm ∧ (State.epochRefuse unit kind e s).dmc = s.dmc ∧ (State.epochRefuse unit kind e s).ccl = s.ccl ∧ (State.epochRefuse unit kind e s).csu = s.csu ∧ (State.epochRefuse unit kind e s).mgp = s.mgp :=
  have h := (State.epochRefuse_touch _ _ _ _ (by simp) (Touch.refl 8388640 _))
  ⟨h.pending, h.out rfl, h.freeCnt rfl, h.timers rfl, h.tbu rfl, h.power rfl, h.sheet rfl, h.sheetOld rfl, h.hlu rfl, h.qen rfl, h.tnu rfl, h.gal rfl, h.mxe rfl, h.dsc rfl, h.fca rfl, h.cdx rfl, h.spe rfl, h.hum rfl, h.bpm rfl, h.dmc rfl, h.ccl rfl, h.csu rfl, h.mgp rfl⟩

@[simp] theorem State.beginCut_units (cause : CutCause) (s : State) :
    (State.beginCut cause s).pending = s.pending ∧ (State.beginCut cause s).out = s.out ∧ (State.beginCut cause s).freeCnt = s.freeCnt ∧ (State.beginCut cause s).timers = s.timers ∧ (State.beginCut cause s).power = s.power ∧ (State.beginCut cause s).sheetOld = s.sheetOld ∧ (State.beginCut cause s).hlu = s.hlu ∧ (State.beginCut cause s).qen = s.qen ∧ (State.beginCut cause s).tnu = s.tnu ∧ (State.beginCut cause s).gal = s.gal ∧ (State.beginCut cause s).mxe = s.mxe ∧ (State.beginCut cause s).dsc = s.dsc ∧ (State.beginCut cause s).cdx = s.cdx ∧ (State.beginCut cause s).spe = s.spe ∧ (State.beginCut cause s).hum = s.hum ∧ (State.beginCut cause s).bpm = s.bpm ∧ (State.beginCut cause s).dmc = s.dmc ∧ (State.beginCut cause s).csu = s.csu ∧ (State.beginCut cause s).mgp = s.mgp :=
  have h := (State.beginCut_touch _ _ (by simp) (Touch.refl 9453672 _))
  ⟨h.pending, h.out rfl, h.freeCnt rfl, h.timers rfl, h.power rfl, h.sheetOld rfl, h.hlu rfl, h.qen rfl, h.tnu rfl, h.gal rfl, h.mxe rfl, h.dsc rfl, h.cdx rfl, h.spe rfl, h.hum rfl, h.bpm rfl, h.dmc rfl, h.csu rfl, h.mgp rfl⟩

@[simp] theorem State.planCut_units (cause : CutCause) (s : State) :
    (State.planCut cause s).pending = s.pending ∧ (State.planCut cause s).out = s.out ∧ (State.planCut cause s).freeCnt = s.freeCnt ∧ (State.planCut cause s).timers = s.timers ∧ (State.planCut cause s).tbu = s.tbu ∧ (State.planCut cause s).power = s.power ∧ (State.planCut cause s).sheet = s.sheet ∧ (State.planCut cause s).sheetOld = s.sheetOld ∧ (State.planCut cause s).hlu = s.hlu ∧ (State.planCut cause s).qen = s.qen ∧ (State.planCut cause s).tnu = s.tnu ∧ (State.planCut cause s).gal = s.gal ∧ (State.planCut cause s).mxe = s.mxe ∧ (State.planCut cause s).dsc = s.dsc ∧ (State.planCut cause s).fca = s.fca ∧ (State.planCut cause s).cdx = s.cdx ∧ (State.planCut cause s).spe = s.spe ∧ (State.planCut cause s).hum = s.hum ∧ (State.planCut cause s).bpm = s.bpm ∧ (State.planCut cause s).dmc = s.dmc ∧ (State.planCut cause s).csu = s.csu ∧ (State.planCut cause s).mgp = s.mgp ∧ (State.planCut cause s).cru = s.cru :=
  have h := (State.planCut_touch _ _ (by simp) (Touch.refl 1048608 _))
  ⟨h.pending, h.out rfl, h.freeCnt rfl, h.timers rfl, h.tbu rfl, h.power rfl, h.sheet rfl, h.sheetOld rfl, h.hlu rfl, h.qen rfl, h.tnu rfl, h.gal rfl, h.mxe rfl, h.dsc rfl, h.fca rfl, h.cdx rfl, h.spe rfl, h.hum rfl, h.bpm rfl, h.dmc rfl, h.csu rfl, h.mgp rfl, h.cru rfl⟩

@[simp] theorem State.heartbeat_units (s : State) :
    (State.heartbeat s).pending = s.pending ∧ (State.heartbeat s).out = s.out ∧ (State.heartbeat s).freeCnt = s.freeCnt ∧ (State.heartbeat s).timers = s.timers ∧ (State.heartbeat s).tbu = s.tbu ∧ (State.heartbeat s).power = s.power ∧ (State.heartbeat s).regf = s.regf ∧ (State.heartbeat s).sheet = s.sheet ∧ (State.heartbeat s).sheetOld = s.sheetOld ∧ (State.heartbeat s).hlu = s.hlu ∧ (State.heartbeat s).qen = s.qen ∧ (State.heartbeat s).tnu = s.tnu ∧ (State.heartbeat s).gal = s.gal ∧ (State.heartbeat s).mxe = s.mxe ∧ (State.heartbeat s).dsc = s.dsc ∧ (State.heartbeat s).fca = s.fca ∧ (State.heartbeat s).cdx = s.cdx ∧ (State.heartbeat s).spe = s.spe ∧ (State.heartbeat s).hum = s.hum ∧ (State.heartbeat s).bpm = s.bpm ∧ (State.heartbeat s).dmc = s.dmc ∧ (State.heartbeat s).csu = s.csu ∧ (State.heartbeat s).mgp = s.mgp ∧ (State.heartbeat s).cru = s.cru :=
  have h := (State.heartbeat_touch _ (by simp) (Touch.refl 1048576 _))
  ⟨h.pending, h.out rfl, h.freeCnt rfl, h.timers rfl, h.tbu rfl, h.power rfl, h.regf rfl, h.sheet rfl, h.sheetOld rfl, h.hlu rfl, h.qen rfl, h.tnu rfl, h.gal rfl, h.mxe rfl, h.dsc rfl, h.fca rfl, h.cdx rfl, h.spe rfl, h.hum rfl, h.bpm rfl, h.dmc rfl, h.csu rfl, h.mgp rfl, h.cru rfl⟩

@[simp] theorem State.takeEpoch_units (k : Cluster) (g : Gap) (s : State) :
    (State.takeEpoch k g s).pending = s.pending ∧ (State.takeEpoch k g s).out = s.out ∧ (State.takeEpoch k g s).freeCnt = s.freeCnt ∧ (State.takeEpoch k g s).timers = s.timers ∧ (State.takeEpoch k g s).tbu = s.tbu ∧ (State.takeEpoch k g s).power = s.power ∧ (State.takeEpoch k g s).sheet = s.sheet ∧ (State.takeEpoch k g s).sheetOld = s.sheetOld ∧ (State.takeEpoch k g s).hlu = s.hlu ∧ (State.takeEpoch k g s).qen = s.qen ∧ (State.takeEpoch k g s).tnu = s.tnu ∧ (State.takeEpoch k g s).gal = s.gal ∧ (State.takeEpoch k g s).mxe = s.mxe ∧ (State.takeEpoch k g s).dsc = s.dsc ∧ (State.takeEpoch k g s).cdx = s.cdx ∧ (State.takeEpoch k g s).spe = s.spe ∧ (State.takeEpoch k g s).hum = s.hum ∧ (State.takeEpoch k g s).bpm = s.bpm ∧ (State.takeEpoch k g s).dmc = s.dmc ∧ (State.takeEpoch k g s).csu = s.csu ∧ (State.takeEpoch k g s).mgp = s.mgp :=
  have h := (State.takeEpoch_touch _ _ _ (by simp) (Touch.refl 9453600 _))
  ⟨h.pending, h.out rfl, h.freeCnt rfl, h.timers rfl, h.tbu rfl, h.power rfl, h.sheet rfl, h.sheetOld rfl, h.hlu rfl, h.qen rfl, h.tnu rfl, h.gal rfl, h.mxe rfl, h.dsc rfl, h.cdx rfl, h.spe rfl, h.hum rfl, h.bpm rfl, h.dmc rfl, h.csu rfl, h.mgp rfl⟩

@[simp] theorem State.scriptGo_units (s : State) :
    (State.scriptGo s).pending = s.pending ∧ (State.scriptGo s).out = s.out ∧ (State.scriptGo s).freeCnt = s.freeCnt ∧ (State.scriptGo s).timers = s.timers ∧ (State.scriptGo s).tbu = s.tbu ∧ (State.scriptGo s).power = s.power ∧ (State.scriptGo s).regf = s.regf ∧ (State.scriptGo s).sheet = s.sheet ∧ (State.scriptGo s).sheetOld = s.sheetOld ∧ (State.scriptGo s).hlu = s.hlu ∧ (State.scriptGo s).qen = s.qen ∧ (State.scriptGo s).tnu = s.tnu ∧ (State.scriptGo s).gal = s.gal ∧ (State.scriptGo s).mxe = s.mxe ∧ (State.scriptGo s).dsc = s.dsc ∧ (State.scriptGo s).fca = s.fca ∧ (State.scriptGo s).cdx = s.cdx ∧ (State.scriptGo s).spe = s.spe ∧ (State.scriptGo s).hum = s.hum ∧ (State.scriptGo s).bpm = s.bpm ∧ (State.scriptGo s).dmc = s.dmc ∧ (State.scriptGo s).csu = s.csu ∧ (State.scriptGo s).mgp = s.mgp ∧ (State.scriptGo s).cru = s.cru :=
  have h := (State.scriptGo_touch _ (by simp) (Touch.refl 1048576 _))
  ⟨h.pending, h.out rfl, h.freeCnt rfl, h.timers rfl, h.tbu rfl, h.power rfl, h.regf rfl, h.sheet rfl, h.sheetOld rfl, h.hlu rfl, h.qen rfl, h.tnu rfl, h.gal rfl, h.mxe rfl, h.dsc rfl, h.fca rfl, h.cdx rfl, h.spe rfl, h.hum rfl, h.bpm rfl, h.dmc rfl, h.csu rfl, h.mgp rfl, h.cru rfl⟩

@[simp] theorem State.undoCut_units (s : State) :
    (State.undoCut s).pending = s.pending ∧ (State.undoCut s).out = s.out ∧ (State.undoCut s).freeCnt = s.freeCnt ∧ (State.undoCut s).timers = s.timers ∧ (State.undoCut s).power = s.power ∧ (State.undoCut s).regf = s.regf ∧ (State.undoCut s).sheetOld = s.sheetOld ∧ (State.undoCut s).hlu = s.hlu ∧ (State.undoCut s).qen = s.qen ∧ (State.undoCut s).tnu = s.tnu ∧ (State.undoCut s).gal = s.gal ∧ (State.undoCut s).mxe = s.mxe ∧ (State.undoCut s).dsc = s.dsc ∧ (State.undoCut s).fca = s.fca ∧ (State.undoCut s).cdx = s.cdx ∧ (State.undoCut s).spe = s.spe ∧ (State.undoCut s).hum = s.hum ∧ (State.undoCut s).bpm = s.bpm ∧ (State.undoCut s).dmc = s.dmc ∧ (State.undoCut s).ccl = s.ccl ∧ (State.undoCut s).csu = s.csu ∧ (State.undoCut s).mgp = s.mgp ∧ (State.undoCut s).cru = s.cru :=
  have h := (State.undoCut_touch _ (by simp) (Touch.refl 72 _))
  ⟨h.pending, h.out rfl, h.freeCnt rfl, h.timers rfl, h.power rfl, h.regf rfl, h.sheetOld rfl, h.hlu rfl, h.qen rfl, h.tnu rfl, h.gal rfl, h.mxe rfl, h.dsc rfl, h.fca rfl, h.cdx rfl, h.spe rfl, h.hum rfl, h.bpm rfl, h.dmc rfl, h.ccl rfl, h.csu rfl, h.mgp rfl, h.cru rfl⟩

@[simp] theorem State.resetClusters_units (s : State) :
    (State.resetClusters s).pending = s.pending ∧ (State.resetClusters s).out = s.out ∧ (State.resetClusters s).freeCnt = s.freeCnt ∧ (State.resetClusters s).timers = s.timers ∧ (State.resetClusters s).power = s.power ∧ (State.resetClusters s).regf = s.regf ∧ (State.resetClusters s).sheetOld = s.sheetOld ∧ (State.resetClusters s).hlu = s.hlu ∧ (State.resetClusters s).qen = s.qen ∧ (State.resetClusters s).tnu = s.tnu ∧ (State.resetClusters s).gal = s.gal ∧ (State.resetClusters s).mxe = s.mxe ∧ (State.resetClusters s).dsc = s.dsc ∧ (State.resetClusters s).cdx = s.cdx ∧ (State.resetClusters s).spe = s.spe ∧ (State.resetClusters s).hum = s.hum ∧ (State.resetClusters s).bpm = s.bpm ∧ (State.resetClusters s).dmc = s.dmc ∧ (State.resetClusters s).csu = s.csu ∧ (State.resetClusters s).cru = s.cru :=
  have h := (State.resetClusters_touch _ (by simp) (Touch.refl 5259336 _))
  ⟨h.pending, h.out rfl, h.freeCnt rfl, h.timers rfl, h.power rfl, h.regf rfl, h.sheetOld rfl, h.hlu rfl, h.qen rfl, h.tnu rfl, h.gal rfl, h.mxe rfl, h.dsc rfl, h.cdx rfl, h.spe rfl, h.hum rfl, h.bpm rfl, h.dmc rfl, h.csu rfl, h.cru rfl⟩

@[simp] theorem State.clusterTick_units (s : State) :
    (State.clusterTick s).pending = s.pending ∧ (State.clusterTick s).out = s.out ∧ (State.clusterTick s).freeCnt = s.freeCnt ∧ (State.clusterTick s).timers = s.timers ∧ (State.clusterTick s).power = s.power ∧ (State.clusterTick s).sheetOld = s.sheetOld ∧ (State.clusterTick s).hlu = s.hlu ∧ (State.clusterTick s).qen = s.qen ∧ (State.clusterTick s).tnu = s.tnu ∧ (State.clusterTick s).gal = s.gal ∧ (State.clusterTick s).mxe = s.mxe ∧ (State.clusterTick s).dsc = s.dsc ∧ (State.clusterTick s).cdx = s.cdx ∧ (State.clusterTick s).spe = s.spe ∧ (State.clusterTick s).hum = s.hum ∧ (State.clusterTick s).bpm = s.bpm ∧ (State.clusterTick s).dmc = s.dmc ∧ (State.clusterTick s).csu = s.csu ∧ (State.clusterTick s).mgp = s.mgp :=
  have h := (State.clusterTick_touch _ (by simp) (Touch.refl 9453672 _))
  ⟨h.pending, h.out rfl, h.freeCnt rfl, h.timers rfl, h.power rfl, h.sheetOld rfl, h.hlu rfl, h.qen rfl, h.tnu rfl, h.gal rfl, h.mxe rfl, h.dsc rfl, h.cdx rfl, h.spe rfl, h.hum rfl, h.bpm rfl, h.dmc rfl, h.csu rfl, h.mgp rfl⟩

@[simp] theorem State.healGranule_units (nsid g : Nat) (s : State) :
    (State.healGranule nsid g s).pending = s.pending ∧ (State.healGranule nsid g s).out = s.out ∧ (State.healGranule nsid g s).freeCnt = s.freeCnt ∧ (State.healGranule nsid g s).timers = s.timers ∧ (State.healGranule nsid g s).tbu = s.tbu ∧ (State.healGranule nsid g s).power = s.power ∧ (State.healGranule nsid g s).regf = s.regf ∧ (State.healGranule nsid g s).sheet = s.sheet ∧ (State.healGranule nsid g s).sheetOld = s.sheetOld ∧ (State.healGranule nsid g s).hlu = s.hlu ∧ (State.healGranule nsid g s).qen = s.qen ∧ (State.healGranule nsid g s).tnu = s.tnu ∧ (State.healGranule nsid g s).gal = s.gal ∧ (State.healGranule nsid g s).mxe = s.mxe ∧ (State.healGranule nsid g s).dsc = s.dsc ∧ (State.healGranule nsid g s).fca = s.fca ∧ (State.healGranule nsid g s).cdx = s.cdx ∧ (State.healGranule nsid g s).hum = s.hum ∧ (State.healGranule nsid g s).bpm = s.bpm ∧ (State.healGranule nsid g s).dmc = s.dmc ∧ (State.healGranule nsid g s).ccl = s.ccl ∧ (State.healGranule nsid g s).csu = s.csu ∧ (State.healGranule nsid g s).mgp = s.mgp ∧ (State.healGranule nsid g s).cru = s.cru :=
  have h := (State.healGranule_touch _ _ _ (by simp) (Touch.refl 65536 _))
  ⟨h.pending, h.out rfl, h.freeCnt rfl, h.timers rfl, h.tbu rfl, h.power rfl, h.regf rfl, h.sheet rfl, h.sheetOld rfl, h.hlu rfl, h.qen rfl, h.tnu rfl, h.gal rfl, h.mxe rfl, h.dsc rfl, h.fca rfl, h.cdx rfl, h.hum rfl, h.bpm rfl, h.dmc rfl, h.ccl rfl, h.csu rfl, h.mgp rfl, h.cru rfl⟩

@[simp] theorem State.sweepWrites_units (s : State) :
    (State.sweepWrites s).pending = s.pending ∧ (State.sweepWrites s).freeCnt = s.freeCnt ∧ (State.sweepWrites s).timers = s.timers ∧ (State.sweepWrites s).tbu = s.tbu ∧ (State.sweepWrites s).power = s.power ∧ (State.sweepWrites s).sheet = s.sheet ∧ (State.sweepWrites s).sheetOld = s.sheetOld ∧ (State.sweepWrites s).hlu = s.hlu ∧ (State.sweepWrites s).tnu = s.tnu ∧ (State.sweepWrites s).gal = s.gal ∧ (State.sweepWrites s).dsc = s.dsc ∧ (State.sweepWrites s).fca = s.fca ∧ (State.sweepWrites s).cdx = s.cdx ∧ (State.sweepWrites s).spe = s.spe ∧ (State.sweepWrites s).hum = s.hum ∧ (State.sweepWrites s).dmc = s.dmc ∧ (State.sweepWrites s).csu = s.csu :=
  have h := (State.sweepWrites_touch _ (by simp) (Touch.refl 13898273 _))
  ⟨h.pending, h.freeCnt rfl, h.timers rfl, h.tbu rfl, h.power rfl, h.sheet rfl, h.sheetOld rfl, h.hlu rfl, h.tnu rfl, h.gal rfl, h.dsc rfl, h.fca rfl, h.cdx rfl, h.spe rfl, h.hum rfl, h.dmc rfl, h.csu rfl⟩

@[simp] theorem State.granuleDone_units (d : Delta) (s : State) :
    (State.granuleDone d s).pending = s.pending ∧ (State.granuleDone d s).out = s.out ∧ (State.granuleDone d s).freeCnt = s.freeCnt ∧ (State.granuleDone d s).timers = s.timers ∧ (State.granuleDone d s).tbu = s.tbu ∧ (State.granuleDone d s).power = s.power ∧ (State.granuleDone d s).regf = s.regf ∧ (State.granuleDone d s).sheet = s.sheet ∧ (State.granuleDone d s).sheetOld = s.sheetOld ∧ (State.granuleDone d s).hlu = s.hlu ∧ (State.granuleDone d s).tnu = s.tnu ∧ (State.granuleDone d s).gal = s.gal ∧ (State.granuleDone d s).dsc = s.dsc ∧ (State.granuleDone d s).fca = s.fca ∧ (State.granuleDone d s).cdx = s.cdx ∧ (State.granuleDone d s).spe = s.spe ∧ (State.granuleDone d s).hum = s.hum ∧ (State.granuleDone d s).bpm = s.bpm ∧ (State.granuleDone d s).dmc = s.dmc ∧ (State.granuleDone d s).ccl = s.ccl ∧ (State.granuleDone d s).csu = s.csu ∧ (State.granuleDone d s).mgp = s.mgp ∧ (State.granuleDone d s).cru = s.cru :=
  have h := (State.granuleDone_touch _ _ (by simp) (Touch.refl 4608 _))
  ⟨h.pending, h.out rfl, h.freeCnt rfl, h.timers rfl, h.tbu rfl, h.power rfl, h.regf rfl, h.sheet rfl, h.sheetOld rfl, h.hlu rfl, h.tnu rfl, h.gal rfl, h.dsc rfl, h.fca rfl, h.cdx rfl, h.spe rfl, h.hum rfl, h.bpm rfl, h.dmc rfl, h.ccl rfl, h.csu rfl, h.mgp rfl, h.cru rfl⟩

@[simp] theorem State.noteCommit_units (nsid g dsn : Nat) (s : State) :
    (State.noteCommit nsid g dsn s).pending = s.pending ∧ (State.noteCommit nsid g dsn s).out = s.out ∧ (State.noteCommit nsid g dsn s).freeCnt = s.freeCnt ∧ (State.noteCommit nsid g dsn s).timers = s.timers ∧ (State.noteCommit nsid g dsn s).tbu = s.tbu ∧ (State.noteCommit nsid g dsn s).power = s.power ∧ (State.noteCommit nsid g dsn s).regf = s.regf ∧ (State.noteCommit nsid g dsn s).sheet = s.sheet ∧ (State.noteCommit nsid g dsn s).sheetOld = s.sheetOld ∧ (State.noteCommit nsid g dsn s).hlu = s.hlu ∧ (State.noteCommit nsid g dsn s).qen = s.qen ∧ (State.noteCommit nsid g dsn s).tnu = s.tnu ∧ (State.noteCommit nsid g dsn s).gal = s.gal ∧ (State.noteCommit nsid g dsn s).dsc = s.dsc ∧ (State.noteCommit nsid g dsn s).fca = s.fca ∧ (State.noteCommit nsid g dsn s).cdx = s.cdx ∧ (State.noteCommit nsid g dsn s).spe = s.spe ∧ (State.noteCommit nsid g dsn s).hum = s.hum ∧ (State.noteCommit nsid g dsn s).bpm = s.bpm ∧ (State.noteCommit nsid g dsn s).dmc = s.dmc ∧ (State.noteCommit nsid g dsn s).ccl = s.ccl ∧ (State.noteCommit nsid g dsn s).csu = s.csu ∧ (State.noteCommit nsid g dsn s).mgp = s.mgp ∧ (State.noteCommit nsid g dsn s).cru = s.cru :=
  have h := (State.noteCommit_touch _ _ _ _ (by simp) (Touch.refl 4096 _))
  ⟨h.pending, h.out rfl, h.freeCnt rfl, h.timers rfl, h.tbu rfl, h.power rfl, h.regf rfl, h.sheet rfl, h.sheetOld rfl, h.hlu rfl, h.qen rfl, h.tnu rfl, h.gal rfl, h.dsc rfl, h.fca rfl, h.cdx rfl, h.spe rfl, h.hum rfl, h.bpm rfl, h.dmc rfl, h.ccl rfl, h.csu rfl, h.mgp rfl, h.cru rfl⟩

@[simp] theorem State.logTrim_units (d : Delta) (n : Namespace) (a z : Nat) (s : State) :
    (State.logTrim d n a z s).pending = s.pending ∧ (State.logTrim d n a z s).freeCnt = s.freeCnt ∧ (State.logTrim d n a z s).timers = s.timers ∧ (State.logTrim d n a z s).tbu = s.tbu ∧ (State.logTrim d n a z s).power = s.power ∧ (State.logTrim d n a z s).regf = s.regf ∧ (State.logTrim d n a z s).sheet = s.sheet ∧ (State.logTrim d n a z s).sheetOld = s.sheetOld ∧ (State.logTrim d n a z s).hlu = s.hlu ∧ (State.logTrim d n a z s).qen = s.qen ∧ (State.logTrim d n a z s).gal = s.gal ∧ (State.logTrim d n a z s).mxe = s.mxe ∧ (State.logTrim d n a z s).dsc = s.dsc ∧ (State.logTrim d n a z s).fca = s.fca ∧ (State.logTrim d n a z s).cdx = s.cdx ∧ (State.logTrim d n a z s).spe = s.spe ∧ (State.logTrim d n a z s).hum = s.hum ∧ (State.logTrim d n a z s).bpm = s.bpm ∧ (State.logTrim d n a z s).dmc = s.dmc ∧ (State.logTrim d n a z s).ccl = s.ccl ∧ (State.logTrim d n a z s).csu = s.csu ∧ (State.logTrim d n a z s).mgp = s.mgp ∧ (State.logTrim d n a z s).cru = s.cru :=
  have h := (State.logTrim_touch _ _ _ _ _ (by simp) (Touch.refl 1025 _))
  ⟨h.pending, h.freeCnt rfl, h.timers rfl, h.tbu rfl, h.power rfl, h.regf rfl, h.sheet rfl, h.sheetOld rfl, h.hlu rfl, h.qen rfl, h.gal rfl, h.mxe rfl, h.dsc rfl, h.fca rfl, h.cdx rfl, h.spe rfl, h.hum rfl, h.bpm rfl, h.dmc rfl, h.ccl rfl, h.csu rfl, h.mgp rfl, h.cru rfl⟩

@[simp] theorem State.logDelta_units (d : Delta) (s : State) :
    (State.logDelta d s).pending = s.pending ∧ (State.logDelta d s).freeCnt = s.freeCnt ∧ (State.logDelta d s).timers = s.timers ∧ (State.logDelta d s).tbu = s.tbu ∧ (State.logDelta d s).power = s.power ∧ (State.logDelta d s).sheet = s.sheet ∧ (State.logDelta d s).sheetOld = s.sheetOld ∧ (State.logDelta d s).hlu = s.hlu ∧ (State.logDelta d s).qen = s.qen ∧ (State.logDelta d s).gal = s.gal ∧ (State.logDelta d s).mxe = s.mxe ∧ (State.logDelta d s).dsc = s.dsc ∧ (State.logDelta d s).fca = s.fca ∧ (State.logDelta d s).cdx = s.cdx ∧ (State.logDelta d s).spe = s.spe ∧ (State.logDelta d s).hum = s.hum ∧ (State.logDelta d s).bpm = s.bpm ∧ (State.logDelta d s).dmc = s.dmc ∧ (State.logDelta d s).ccl = s.ccl ∧ (State.logDelta d s).csu = s.csu ∧ (State.logDelta d s).mgp = s.mgp ∧ (State.logDelta d s).cru = s.cru :=
  have h := (State.logDelta_touch _ _ (by simp) (Touch.refl 1057 _))
  ⟨h.pending, h.freeCnt rfl, h.timers rfl, h.tbu rfl, h.power rfl, h.sheet rfl, h.sheetOld rfl, h.hlu rfl, h.qen rfl, h.gal rfl, h.mxe rfl, h.dsc rfl, h.fca rfl, h.cdx rfl, h.spe rfl, h.hum rfl, h.bpm rfl, h.dmc rfl, h.ccl rfl, h.csu rfl, h.mgp rfl, h.cru rfl⟩

@[simp] theorem State.commitHost_units (d : Delta) (s : State) :
    (State.commitHost d s).pending = s.pending ∧ (State.commitHost d s).freeCnt = s.freeCnt ∧ (State.commitHost d s).timers = s.timers ∧ (State.commitHost d s).tbu = s.tbu ∧ (State.commitHost d s).power = s.power ∧ (State.commitHost d s).sheet = s.sheet ∧ (State.commitHost d s).sheetOld = s.sheetOld ∧ (State.commitHost d s).hlu = s.hlu ∧ (State.commitHost d s).gal = s.gal ∧ (State.commitHost d s).dsc = s.dsc ∧ (State.commitHost d s).fca = s.fca ∧ (State.commitHost d s).cdx = s.cdx ∧ (State.commitHost d s).hum = s.hum ∧ (State.commitHost d s).bpm = s.bpm ∧ (State.commitHost d s).dmc = s.dmc ∧ (State.commitHost d s).ccl = s.ccl ∧ (State.commitHost d s).csu = s.csu ∧ (State.commitHost d s).mgp = s.mgp ∧ (State.commitHost d s).cru = s.cru :=
  have h := (State.commitHost_touch _ _ (by simp) (Touch.refl 71201 _))
  ⟨h.pending, h.freeCnt rfl, h.timers rfl, h.tbu rfl, h.power rfl, h.sheet rfl, h.sheetOld rfl, h.hlu rfl, h.gal rfl, h.dsc rfl, h.fca rfl, h.cdx rfl, h.hum rfl, h.bpm rfl, h.dmc rfl, h.ccl rfl, h.csu rfl, h.mgp rfl, h.cru rfl⟩

@[simp] theorem State.commitTrim_units (d : Delta) (s : State) :
    (State.commitTrim d s).pending = s.pending ∧ (State.commitTrim d s).freeCnt = s.freeCnt ∧ (State.commitTrim d s).timers = s.timers ∧ (State.commitTrim d s).tbu = s.tbu ∧ (State.commitTrim d s).power = s.power ∧ (State.commitTrim d s).sheet = s.sheet ∧ (State.commitTrim d s).sheetOld = s.sheetOld ∧ (State.commitTrim d s).hlu = s.hlu ∧ (State.commitTrim d s).qen = s.qen ∧ (State.commitTrim d s).gal = s.gal ∧ (State.commitTrim d s).dsc = s.dsc ∧ (State.commitTrim d s).fca = s.fca ∧ (State.commitTrim d s).cdx = s.cdx ∧ (State.commitTrim d s).hum = s.hum ∧ (State.commitTrim d s).bpm = s.bpm ∧ (State.commitTrim d s).dmc = s.dmc ∧ (State.commitTrim d s).ccl = s.ccl ∧ (State.commitTrim d s).csu = s.csu ∧ (State.commitTrim d s).mgp = s.mgp ∧ (State.commitTrim d s).cru = s.cru :=
  have h := (State.commitTrim_touch _ _ (by simp) (Touch.refl 70689 _))
  ⟨h.pending, h.freeCnt rfl, h.timers rfl, h.tbu rfl, h.power rfl, h.sheet rfl, h.sheetOld rfl, h.hlu rfl, h.qen rfl, h.gal rfl, h.dsc rfl, h.fca rfl, h.cdx rfl, h.hum rfl, h.bpm rfl, h.dmc rfl, h.ccl rfl, h.csu rfl, h.mgp rfl, h.cru rfl⟩

@[simp] theorem State.lostUnit_units (job : Nat) (s : State) :
    (State.lostUnit job s).pending = s.pending ∧ (State.lostUnit job s).out = s.out ∧ (State.lostUnit job s).freeCnt = s.freeCnt ∧ (State.lostUnit job s).timers = s.timers ∧ (State.lostUnit job s).tbu = s.tbu ∧ (State.lostUnit job s).power = s.power ∧ (State.lostUnit job s).sheet = s.sheet ∧ (State.lostUnit job s).sheetOld = s.sheetOld ∧ (State.lostUnit job s).hlu = s.hlu ∧ (State.lostUnit job s).qen = s.qen ∧ (State.lostUnit job s).tnu = s.tnu ∧ (State.lostUnit job s).gal = s.gal ∧ (State.lostUnit job s).mxe = s.mxe ∧ (State.lostUnit job s).dsc = s.dsc ∧ (State.lostUnit job s).fca = s.fca ∧ (State.lostUnit job s).cdx = s.cdx ∧ (State.lostUnit job s).hum = s.hum ∧ (State.lostUnit job s).bpm = s.bpm ∧ (State.lostUnit job s).dmc = s.dmc ∧ (State.lostUnit job s).ccl = s.ccl ∧ (State.lostUnit job s).csu = s.csu ∧ (State.lostUnit job s).mgp = s.mgp ∧ (State.lostUnit job s).cru = s.cru :=
  have h := (State.lostUnit_touch _ _ (by simp) (Touch.refl 65568 _))
  ⟨h.pending, h.out rfl, h.freeCnt rfl, h.timers rfl, h.tbu rfl, h.power rfl, h.sheet rfl, h.sheetOld rfl, h.hlu rfl, h.qen rfl, h.tnu rfl, h.gal rfl, h.mxe rfl, h.dsc rfl, h.fca rfl, h.cdx rfl, h.hum rfl, h.bpm rfl, h.dmc rfl, h.ccl rfl, h.csu rfl, h.mgp rfl, h.cru rfl⟩

@[simp] theorem State.commitCopy_units (d : Delta) (s : State) :
    (State.commitCopy d s).pending = s.pending ∧ (State.commitCopy d s).out = s.out ∧ (State.commitCopy d s).freeCnt = s.freeCnt ∧ (State.commitCopy d s).timers = s.timers ∧ (State.commitCopy d s).tbu = s.tbu ∧ (State.commitCopy d s).power = s.power ∧ (State.commitCopy d s).sheet = s.sheet ∧ (State.commitCopy d s).sheetOld = s.sheetOld ∧ (State.commitCopy d s).hlu = s.hlu ∧ (State.commitCopy d s).qen = s.qen ∧ (State.commitCopy d s).tnu = s.tnu ∧ (State.commitCopy d s).gal = s.gal ∧ (State.commitCopy d s).dsc = s.dsc ∧ (State.commitCopy d s).fca = s.fca ∧ (State.commitCopy d s).cdx = s.cdx ∧ (State.commitCopy d s).hum = s.hum ∧ (State.commitCopy d s).bpm = s.bpm ∧ (State.commitCopy d s).dmc = s.dmc ∧ (State.commitCopy d s).ccl = s.ccl ∧ (State.commitCopy d s).csu = s.csu ∧ (State.commitCopy d s).mgp = s.mgp :=
  have h := (State.commitCopy_touch _ _ (by simp) (Touch.refl 8458272 _))
  ⟨h.pending, h.out rfl, h.freeCnt rfl, h.timers rfl, h.tbu rfl, h.power rfl, h.sheet rfl, h.sheetOld rfl, h.hlu rfl, h.qen rfl, h.tnu rfl, h.gal rfl, h.dsc rfl, h.fca rfl, h.cdx rfl, h.hum rfl, h.bpm rfl, h.dmc rfl, h.ccl rfl, h.csu rfl, h.mgp rfl⟩

@[simp] theorem State.commitDelta_units (s : State) (d : Delta) :
    (State.commitDelta s d).pending = s.pending ∧ (State.commitDelta s d).freeCnt = s.freeCnt ∧ (State.commitDelta s d).timers = s.timers ∧ (State.commitDelta s d).tbu = s.tbu ∧ (State.commitDelta s d).power = s.power ∧ (State.commitDelta s d).sheet = s.sheet ∧ (State.commitDelta s d).sheetOld = s.sheetOld ∧ (State.commitDelta s d).hlu = s.hlu ∧ (State.commitDelta s d).gal = s.gal ∧ (State.commitDelta s d).dsc = s.dsc ∧ (State.commitDelta s d).fca = s.fca ∧ (State.commitDelta s d).cdx = s.cdx ∧ (State.commitDelta s d).hum = s.hum ∧ (State.commitDelta s d).bpm = s.bpm ∧ (State.commitDelta s d).dmc = s.dmc ∧ (State.commitDelta s d).ccl = s.ccl ∧ (State.commitDelta s d).csu = s.csu ∧ (State.commitDelta s d).mgp = s.mgp :=
  have h := (State.commitDelta_touch _ _ (by simp) (Touch.refl 8459809 _))
  ⟨h.pending, h.freeCnt rfl, h.timers rfl, h.tbu rfl, h.power rfl, h.sheet rfl, h.sheetOld rfl, h.hlu rfl, h.gal rfl, h.dsc rfl, h.fca rfl, h.cdx rfl, h.hum rfl, h.bpm rfl, h.dmc rfl, h.ccl rfl, h.csu rfl, h.mgp rfl⟩

@[simp] theorem State.clearMarker_units (s : State) :
    (State.clearMarker s).pending = s.pending ∧ (State.clearMarker s).out = s.out ∧ (State.clearMarker s).freeCnt = s.freeCnt ∧ (State.clearMarker s).timers = s.timers ∧ (State.clearMarker s).tbu = s.tbu ∧ (State.clearMarker s).regf = s.regf ∧ (State.clearMarker s).sheet = s.sheet ∧ (State.clearMarker s).sheetOld = s.sheetOld ∧ (State.clearMarker s).hlu = s.hlu ∧ (State.clearMarker s).qen = s.qen ∧ (State.clearMarker s).tnu = s.tnu ∧ (State.clearMarker s).gal = s.gal ∧ (State.clearMarker s).mxe = s.mxe ∧ (State.clearMarker s).dsc = s.dsc ∧ (State.clearMarker s).fca = s.fca ∧ (State.clearMarker s).cdx = s.cdx ∧ (State.clearMarker s).spe = s.spe ∧ (State.clearMarker s).hum = s.hum ∧ (State.clearMarker s).bpm = s.bpm ∧ (State.clearMarker s).dmc = s.dmc ∧ (State.clearMarker s).ccl = s.ccl ∧ (State.clearMarker s).csu = s.csu ∧ (State.clearMarker s).mgp = s.mgp ∧ (State.clearMarker s).cru = s.cru :=
  have h := (State.clearMarker_touch _ (by simp) (Touch.refl 16 _))
  ⟨h.pending, h.out rfl, h.freeCnt rfl, h.timers rfl, h.tbu rfl, h.regf rfl, h.sheet rfl, h.sheetOld rfl, h.hlu rfl, h.qen rfl, h.tnu rfl, h.gal rfl, h.mxe rfl, h.dsc rfl, h.fca rfl, h.cdx rfl, h.spe rfl, h.hum rfl, h.bpm rfl, h.dmc rfl, h.ccl rfl, h.csu rfl, h.mgp rfl, h.cru rfl⟩

@[simp] theorem State.commitReady_units (s : State) :
    (State.commitReady s).pending = s.pending ∧ (State.commitReady s).freeCnt = s.freeCnt ∧ (State.commitReady s).timers = s.timers ∧ (State.commitReady s).tbu = s.tbu ∧ (State.commitReady s).sheet = s.sheet ∧ (State.commitReady s).sheetOld = s.sheetOld ∧ (State.commitReady s).hlu = s.hlu ∧ (State.commitReady s).gal = s.gal ∧ (State.commitReady s).dsc = s.dsc ∧ (State.commitReady s).fca = s.fca ∧ (State.commitReady s).cdx = s.cdx ∧ (State.commitReady s).hum = s.hum ∧ (State.commitReady s).dmc = s.dmc ∧ (State.commitReady s).csu = s.csu :=
  have h := (State.commitReady_touch _ (by simp) (Touch.refl 13964849 _))
  ⟨h.pending, h.freeCnt rfl, h.timers rfl, h.tbu rfl, h.sheet rfl, h.sheetOld rfl, h.hlu rfl, h.gal rfl, h.dsc rfl, h.fca rfl, h.cdx rfl, h.hum rfl, h.dmc rfl, h.csu rfl⟩

@[simp] theorem State.journalPage_units (n : Nat) (now : Dword) (s : State) :
    (State.journalPage n now s).pending = s.pending ∧ (State.journalPage n now s).out = s.out ∧ (State.journalPage n now s).freeCnt = s.freeCnt ∧ (State.journalPage n now s).timers = s.timers ∧ (State.journalPage n now s).tbu = s.tbu ∧ (State.journalPage n now s).power = s.power ∧ (State.journalPage n now s).regf = s.regf ∧ (State.journalPage n now s).sheet = s.sheet ∧ (State.journalPage n now s).sheetOld = s.sheetOld ∧ (State.journalPage n now s).hlu = s.hlu ∧ (State.journalPage n now s).qen = s.qen ∧ (State.journalPage n now s).tnu = s.tnu ∧ (State.journalPage n now s).gal = s.gal ∧ (State.journalPage n now s).fca = s.fca ∧ (State.journalPage n now s).cdx = s.cdx ∧ (State.journalPage n now s).spe = s.spe ∧ (State.journalPage n now s).hum = s.hum ∧ (State.journalPage n now s).bpm = s.bpm ∧ (State.journalPage n now s).dmc = s.dmc ∧ (State.journalPage n now s).ccl = s.ccl ∧ (State.journalPage n now s).csu = s.csu ∧ (State.journalPage n now s).mgp = s.mgp ∧ (State.journalPage n now s).cru = s.cru :=
  have h := (State.journalPage_touch _ _ _ (by simp) (Touch.refl 12288 _))
  ⟨h.pending, h.out rfl, h.freeCnt rfl, h.timers rfl, h.tbu rfl, h.power rfl, h.regf rfl, h.sheet rfl, h.sheetOld rfl, h.hlu rfl, h.qen rfl, h.tnu rfl, h.gal rfl, h.fca rfl, h.cdx rfl, h.spe rfl, h.hum rfl, h.bpm rfl, h.dmc rfl, h.ccl rfl, h.csu rfl, h.mgp rfl, h.cru rfl⟩

@[simp] theorem State.trimsDone_units (s : State) :
    (State.trimsDone s).pending = s.pending ∧ (State.trimsDone s).out = s.out ∧ (State.trimsDone s).freeCnt = s.freeCnt ∧ (State.trimsDone s).timers = s.timers ∧ (State.trimsDone s).tbu = s.tbu ∧ (State.trimsDone s).power = s.power ∧ (State.trimsDone s).regf = s.regf ∧ (State.trimsDone s).sheet = s.sheet ∧ (State.trimsDone s).sheetOld = s.sheetOld ∧ (State.trimsDone s).hlu = s.hlu ∧ (State.trimsDone s).tnu = s.tnu ∧ (State.trimsDone s).gal = s.gal ∧ (State.trimsDone s).mxe = s.mxe ∧ (State.trimsDone s).dsc = s.dsc ∧ (State.trimsDone s).fca = s.fca ∧ (State.trimsDone s).cdx = s.cdx ∧ (State.trimsDone s).spe = s.spe ∧ (State.trimsDone s).hum = s.hum ∧ (State.trimsDone s).bpm = s.bpm ∧ (State.trimsDone s).dmc = s.dmc ∧ (State.trimsDone s).ccl = s.ccl ∧ (State.trimsDone s).csu = s.csu ∧ (State.trimsDone s).mgp = s.mgp ∧ (State.trimsDone s).cru = s.cru :=
  have h := (State.trimsDone_touch _ (by simp) (Touch.refl 512 _))
  ⟨h.pending, h.out rfl, h.freeCnt rfl, h.timers rfl, h.tbu rfl, h.power rfl, h.regf rfl, h.sheet rfl, h.sheetOld rfl, h.hlu rfl, h.tnu rfl, h.gal rfl, h.mxe rfl, h.dsc rfl, h.fca rfl, h.cdx rfl, h.spe rfl, h.hum rfl, h.bpm rfl, h.dmc rfl, h.ccl rfl, h.csu rfl, h.mgp rfl, h.cru rfl⟩

@[simp] theorem State.journalLand_units (s : State) :
    (State.journalLand s).pending = s.pending ∧ (State.journalLand s).out = s.out ∧ (State.journalLand s).freeCnt = s.freeCnt ∧ (State.journalLand s).timers = s.timers ∧ (State.journalLand s).tbu = s.tbu ∧ (State.journalLand s).power = s.power ∧ (State.journalLand s).regf = s.regf ∧ (State.journalLand s).sheet = s.sheet ∧ (State.journalLand s).sheetOld = s.sheetOld ∧ (State.journalLand s).hlu = s.hlu ∧ (State.journalLand s).tnu = s.tnu ∧ (State.journalLand s).gal = s.gal ∧ (State.journalLand s).dsc = s.dsc ∧ (State.journalLand s).fca = s.fca ∧ (State.journalLand s).cdx = s.cdx ∧ (State.journalLand s).spe = s.spe ∧ (State.journalLand s).hum = s.hum ∧ (State.journalLand s).bpm = s.bpm ∧ (State.journalLand s).dmc = s.dmc ∧ (State.journalLand s).ccl = s.ccl ∧ (State.journalLand s).csu = s.csu ∧ (State.journalLand s).mgp = s.mgp ∧ (State.journalLand s).cru = s.cru :=
  have h := (State.journalLand_touch _ (by simp) (Touch.refl 4608 _))
  ⟨h.pending, h.out rfl, h.freeCnt rfl, h.timers rfl, h.tbu rfl, h.power rfl, h.regf rfl, h.sheet rfl, h.sheetOld rfl, h.hlu rfl, h.tnu rfl, h.gal rfl, h.dsc rfl, h.fca rfl, h.cdx rfl, h.spe rfl, h.hum rfl, h.bpm rfl, h.dmc rfl, h.ccl rfl, h.csu rfl, h.mgp rfl, h.cru rfl⟩

@[simp] theorem State.journalPut_units (a : Bool) (p : JournalPage) (s : State) :
    (State.journalPut a p s).pending = s.pending ∧ (State.journalPut a p s).out = s.out ∧ (State.journalPut a p s).freeCnt = s.freeCnt ∧ (State.journalPut a p s).timers = s.timers ∧ (State.journalPut a p s).tbu = s.tbu ∧ (State.journalPut a p s).power = s.power ∧ (State.journalPut a p s).regf = s.regf ∧ (State.journalPut a p s).sheet = s.sheet ∧ (State.journalPut a p s).sheetOld = s.sheetOld ∧ (State.journalPut a p s).hlu = s.hlu ∧ (State.journalPut a p s).qen = s.qen ∧ (State.journalPut a p s).tnu = s.tnu ∧ (State.journalPut a p s).gal = s.gal ∧ (State.journalPut a p s).dsc = s.dsc ∧ (State.journalPut a p s).fca = s.fca ∧ (State.journalPut a p s).cdx = s.cdx ∧ (State.journalPut a p s).spe = s.spe ∧ (State.journalPut a p s).hum = s.hum ∧ (State.journalPut a p s).bpm = s.bpm ∧ (State.journalPut a p s).dmc = s.dmc ∧ (State.journalPut a p s).ccl = s.ccl ∧ (State.journalPut a p s).csu = s.csu ∧ (State.journalPut a p s).mgp = s.mgp ∧ (State.journalPut a p s).cru = s.cru :=
  have h := (State.journalPut_touch _ _ _ (by simp) (Touch.refl 4096 _))
  ⟨h.pending, h.out rfl, h.freeCnt rfl, h.timers rfl, h.tbu rfl, h.power rfl, h.regf rfl, h.sheet rfl, h.sheetOld rfl, h.hlu rfl, h.qen rfl, h.tnu rfl, h.gal rfl, h.dsc rfl, h.fca rfl, h.cdx rfl, h.spe rfl, h.hum rfl, h.bpm rfl, h.dmc rfl, h.ccl rfl, h.csu rfl, h.mgp rfl, h.cru rfl⟩

@[simp] theorem State.journalLose_units (a b : Bool) (s : State) :
    (State.journalLose a b s).pending = s.pending ∧ (State.journalLose a b s).out = s.out ∧ (State.journalLose a b s).freeCnt = s.freeCnt ∧ (State.journalLose a b s).timers = s.timers ∧ (State.journalLose a b s).tbu = s.tbu ∧ (State.journalLose a b s).power = s.power ∧ (State.journalLose a b s).regf = s.regf ∧ (State.journalLose a b s).sheet = s.sheet ∧ (State.journalLose a b s).sheetOld = s.sheetOld ∧ (State.journalLose a b s).hlu = s.hlu ∧ (State.journalLose a b s).qen = s.qen ∧ (State.journalLose a b s).tnu = s.tnu ∧ (State.journalLose a b s).gal = s.gal ∧ (State.journalLose a b s).dsc = s.dsc ∧ (State.journalLose a b s).fca = s.fca ∧ (State.journalLose a b s).cdx = s.cdx ∧ (State.journalLose a b s).spe = s.spe ∧ (State.journalLose a b s).hum = s.hum ∧ (State.journalLose a b s).bpm = s.bpm ∧ (State.journalLose a b s).dmc = s.dmc ∧ (State.journalLose a b s).ccl = s.ccl ∧ (State.journalLose a b s).csu = s.csu ∧ (State.journalLose a b s).mgp = s.mgp ∧ (State.journalLose a b s).cru = s.cru :=
  have h := (State.journalLose_touch _ _ _ (by simp) (Touch.refl 4096 _))
  ⟨h.pending, h.out rfl, h.freeCnt rfl, h.timers rfl, h.tbu rfl, h.power rfl, h.regf rfl, h.sheet rfl, h.sheetOld rfl, h.hlu rfl, h.qen rfl, h.tnu rfl, h.gal rfl, h.dsc rfl, h.fca rfl, h.cdx rfl, h.spe rfl, h.hum rfl, h.bpm rfl, h.dmc rfl, h.ccl rfl, h.csu rfl, h.mgp rfl, h.cru rfl⟩

@[simp] theorem State.journalRestore_units (s : State) :
    (State.journalRestore s).pending = s.pending ∧ (State.journalRestore s).out = s.out ∧ (State.journalRestore s).freeCnt = s.freeCnt ∧ (State.journalRestore s).timers = s.timers ∧ (State.journalRestore s).tbu = s.tbu ∧ (State.journalRestore s).power = s.power ∧ (State.journalRestore s).regf = s.regf ∧ (State.journalRestore s).sheet = s.sheet ∧ (State.journalRestore s).sheetOld = s.sheetOld ∧ (State.journalRestore s).hlu = s.hlu ∧ (State.journalRestore s).qen = s.qen ∧ (State.journalRestore s).tnu = s.tnu ∧ (State.journalRestore s).gal = s.gal ∧ (State.journalRestore s).dsc = s.dsc ∧ (State.journalRestore s).fca = s.fca ∧ (State.journalRestore s).cdx = s.cdx ∧ (State.journalRestore s).spe = s.spe ∧ (State.journalRestore s).hum = s.hum ∧ (State.journalRestore s).bpm = s.bpm ∧ (State.journalRestore s).dmc = s.dmc ∧ (State.journalRestore s).ccl = s.ccl ∧ (State.journalRestore s).csu = s.csu ∧ (State.journalRestore s).mgp = s.mgp ∧ (State.journalRestore s).cru = s.cru :=
  have h := (State.journalRestore_touch _ (by simp) (Touch.refl 4096 _))
  ⟨h.pending, h.out rfl, h.freeCnt rfl, h.timers rfl, h.tbu rfl, h.power rfl, h.regf rfl, h.sheet rfl, h.sheetOld rfl, h.hlu rfl, h.qen rfl, h.tnu rfl, h.gal rfl, h.dsc rfl, h.fca rfl, h.cdx rfl, h.spe rfl, h.hum rfl, h.bpm rfl, h.dmc rfl, h.ccl rfl, h.csu rfl, h.mgp rfl, h.cru rfl⟩

@[simp] theorem State.segmentWritten_units (nsid seg : Nat) (loc : Loc) (s : State) :
    (State.segmentWritten nsid seg loc s).pending = s.pending ∧ (State.segmentWritten nsid seg loc s).out = s.out ∧ (State.segmentWritten nsid seg loc s).freeCnt = s.freeCnt ∧ (State.segmentWritten nsid seg loc s).timers = s.timers ∧ (State.segmentWritten nsid seg loc s).tbu = s.tbu ∧ (State.segmentWritten nsid seg loc s).power = s.power ∧ (State.segmentWritten nsid seg loc s).regf = s.regf ∧ (State.segmentWritten nsid seg loc s).sheet = s.sheet ∧ (State.segmentWritten nsid seg loc s).sheetOld = s.sheetOld ∧ (State.segmentWritten nsid seg loc s).hlu = s.hlu ∧ (State.segmentWritten nsid seg loc s).qen = s.qen ∧ (State.segmentWritten nsid seg loc s).tnu = s.tnu ∧ (State.segmentWritten nsid seg loc s).gal = s.gal ∧ (State.segmentWritten nsid seg loc s).dsc = s.dsc ∧ (State.segmentWritten nsid seg loc s).fca = s.fca ∧ (State.segmentWritten nsid seg loc s).cdx = s.cdx ∧ (State.segmentWritten nsid seg loc s).spe = s.spe ∧ (State.segmentWritten nsid seg loc s).hum = s.hum ∧ (State.segmentWritten nsid seg loc s).bpm = s.bpm ∧ (State.segmentWritten nsid seg loc s).dmc = s.dmc ∧ (State.segmentWritten nsid seg loc s).ccl = s.ccl ∧ (State.segmentWritten nsid seg loc s).csu = s.csu ∧ (State.segmentWritten nsid seg loc s).mgp = s.mgp ∧ (State.segmentWritten nsid seg loc s).cru = s.cru :=
  have h := (State.segmentWritten_touch _ _ _ _ (by simp) (Touch.refl 4096 _))
  ⟨h.pending, h.out rfl, h.freeCnt rfl, h.timers rfl, h.tbu rfl, h.power rfl, h.regf rfl, h.sheet rfl, h.sheetOld rfl, h.hlu rfl, h.qen rfl, h.tnu rfl, h.gal rfl, h.dsc rfl, h.fca rfl, h.cdx rfl, h.spe rfl, h.hum rfl, h.bpm rfl, h.dmc rfl, h.ccl rfl, h.csu rfl, h.mgp rfl, h.cru rfl⟩

@[simp] theorem State.copiesAgain_units (s : State) :
    (State.copiesAgain s).pending = s.pending ∧ (State.copiesAgain s).out = s.out ∧ (State.copiesAgain s).freeCnt = s.freeCnt ∧ (State.copiesAgain s).timers = s.timers ∧ (State.copiesAgain s).tbu = s.tbu ∧ (State.copiesAgain s).power = s.power ∧ (State.copiesAgain s).regf = s.regf ∧ (State.copiesAgain s).sheet = s.sheet ∧ (State.copiesAgain s).sheetOld = s.sheetOld ∧ (State.copiesAgain s).hlu = s.hlu ∧ (State.copiesAgain s).qen = s.qen ∧ (State.copiesAgain s).tnu = s.tnu ∧ (State.copiesAgain s).gal = s.gal ∧ (State.copiesAgain s).dsc = s.dsc ∧ (State.copiesAgain s).fca = s.fca ∧ (State.copiesAgain s).cdx = s.cdx ∧ (State.copiesAgain s).spe = s.spe ∧ (State.copiesAgain s).hum = s.hum ∧ (State.copiesAgain s).bpm = s.bpm ∧ (State.copiesAgain s).dmc = s.dmc ∧ (State.copiesAgain s).ccl = s.ccl ∧ (State.copiesAgain s).csu = s.csu ∧ (State.copiesAgain s).mgp = s.mgp ∧ (State.copiesAgain s).cru = s.cru :=
  have h := (State.copiesAgain_touch _ (by simp) (Touch.refl 4096 _))
  ⟨h.pending, h.out rfl, h.freeCnt rfl, h.timers rfl, h.tbu rfl, h.power rfl, h.regf rfl, h.sheet rfl, h.sheetOld rfl, h.hlu rfl, h.qen rfl, h.tnu rfl, h.gal rfl, h.dsc rfl, h.fca rfl, h.cdx rfl, h.spe rfl, h.hum rfl, h.bpm rfl, h.dmc rfl, h.ccl rfl, h.csu rfl, h.mgp rfl, h.cru rfl⟩

@[simp] theorem State.arrive_units (n : Nat) (s : State) :
    (State.arrive n s).pending = s.pending ∧ (State.arrive n s).out = s.out ∧ (State.arrive n s).freeCnt = s.freeCnt ∧ (State.arrive n s).timers = s.timers ∧ (State.arrive n s).power = s.power ∧ (State.arrive n s).regf = s.regf ∧ (State.arrive n s).sheet = s.sheet ∧ (State.arrive n s).sheetOld = s.sheetOld ∧ (State.arrive n s).qen = s.qen ∧ (State.arrive n s).tnu = s.tnu ∧ (State.arrive n s).gal = s.gal ∧ (State.arrive n s).mxe = s.mxe ∧ (State.arrive n s).dsc = s.dsc ∧ (State.arrive n s).fca = s.fca ∧ (State.arrive n s).cdx = s.cdx ∧ (State.arrive n s).spe = s.spe ∧ (State.arrive n s).hum = s.hum ∧ (State.arrive n s).bpm = s.bpm ∧ (State.arrive n s).dmc = s.dmc ∧ (State.arrive n s).ccl = s.ccl ∧ (State.arrive n s).csu = s.csu ∧ (State.arrive n s).mgp = s.mgp ∧ (State.arrive n s).cru = s.cru :=
  have h := (State.arrive_touch _ _ (by simp) (Touch.refl 264 _))
  ⟨h.pending, h.out rfl, h.freeCnt rfl, h.timers rfl, h.power rfl, h.regf rfl, h.sheet rfl, h.sheetOld rfl, h.qen rfl, h.tnu rfl, h.gal rfl, h.mxe rfl, h.dsc rfl, h.fca rfl, h.cdx rfl, h.spe rfl, h.hum rfl, h.bpm rfl, h.dmc rfl, h.ccl rfl, h.csu rfl, h.mgp rfl, h.cru rfl⟩

@[simp] theorem State.charge_units (sl rd wr cmd : Nat) (s : State) :
    (State.charge sl rd wr cmd s).pending = s.pending ∧ (State.charge sl rd wr cmd s).out = s.out ∧ (State.charge sl rd wr cmd s).freeCnt = s.freeCnt ∧ (State.charge sl rd wr cmd s).timers = s.timers ∧ (State.charge sl rd wr cmd s).tbu = s.tbu ∧ (State.charge sl rd wr cmd s).power = s.power ∧ (State.charge sl rd wr cmd s).regf = s.regf ∧ (State.charge sl rd wr cmd s).sheet = s.sheet ∧ (State.charge sl rd wr cmd s).sheetOld = s.sheetOld ∧ (State.charge sl rd wr cmd s).hlu = s.hlu ∧ (State.charge sl rd wr cmd s).qen = s.qen ∧ (State.charge sl rd wr cmd s).gal = s.gal ∧ (State.charge sl rd wr cmd s).mxe = s.mxe ∧ (State.charge sl rd wr cmd s).dsc = s.dsc ∧ (State.charge sl rd wr cmd s).fca = s.fca ∧ (State.charge sl rd wr cmd s).cdx = s.cdx ∧ (State.charge sl rd wr cmd s).spe = s.spe ∧ (State.charge sl rd wr cmd s).hum = s.hum ∧ (State.charge sl rd wr cmd s).bpm = s.bpm ∧ (State.charge sl rd wr cmd s).dmc = s.dmc ∧ (State.charge sl rd wr cmd s).ccl = s.ccl ∧ (State.charge sl rd wr cmd s).csu = s.csu ∧ (State.charge sl rd wr cmd s).mgp = s.mgp ∧ (State.charge sl rd wr cmd s).cru = s.cru :=
  have h := (State.charge_touch _ _ _ _ _ (by simp) (Touch.refl 1024 _))
  ⟨h.pending, h.out rfl, h.freeCnt rfl, h.timers rfl, h.tbu rfl, h.power rfl, h.regf rfl, h.sheet rfl, h.sheetOld rfl, h.hlu rfl, h.qen rfl, h.gal rfl, h.mxe rfl, h.dsc rfl, h.fca rfl, h.cdx rfl, h.spe rfl, h.hum rfl, h.bpm rfl, h.dmc rfl, h.ccl rfl, h.csu rfl, h.mgp rfl, h.cru rfl⟩

@[simp] theorem State.chargeTokens_units (sl : Nat) (e : Sqe) (bytes : Nat) (s : State) :
    (State.chargeTokens sl e bytes s).pending = s.pending ∧ (State.chargeTokens sl e bytes s).out = s.out ∧ (State.chargeTokens sl e bytes s).freeCnt = s.freeCnt ∧ (State.chargeTokens sl e bytes s).timers = s.timers ∧ (State.chargeTokens sl e bytes s).tbu = s.tbu ∧ (State.chargeTokens sl e bytes s).power = s.power ∧ (State.chargeTokens sl e bytes s).regf = s.regf ∧ (State.chargeTokens sl e bytes s).sheet = s.sheet ∧ (State.chargeTokens sl e bytes s).sheetOld = s.sheetOld ∧ (State.chargeTokens sl e bytes s).hlu = s.hlu ∧ (State.chargeTokens sl e bytes s).qen = s.qen ∧ (State.chargeTokens sl e bytes s).gal = s.gal ∧ (State.chargeTokens sl e bytes s).mxe = s.mxe ∧ (State.chargeTokens sl e bytes s).dsc = s.dsc ∧ (State.chargeTokens sl e bytes s).fca = s.fca ∧ (State.chargeTokens sl e bytes s).cdx = s.cdx ∧ (State.chargeTokens sl e bytes s).spe = s.spe ∧ (State.chargeTokens sl e bytes s).hum = s.hum ∧ (State.chargeTokens sl e bytes s).bpm = s.bpm ∧ (State.chargeTokens sl e bytes s).dmc = s.dmc ∧ (State.chargeTokens sl e bytes s).ccl = s.ccl ∧ (State.chargeTokens sl e bytes s).csu = s.csu ∧ (State.chargeTokens sl e bytes s).mgp = s.mgp ∧ (State.chargeTokens sl e bytes s).cru = s.cru :=
  have h := (State.chargeTokens_touch _ _ _ _ (by simp) (Touch.refl 1024 _))
  ⟨h.pending, h.out rfl, h.freeCnt rfl, h.timers rfl, h.tbu rfl, h.power rfl, h.regf rfl, h.sheet rfl, h.sheetOld rfl, h.hlu rfl, h.qen rfl, h.gal rfl, h.mxe rfl, h.dsc rfl, h.fca rfl, h.cdx rfl, h.spe rfl, h.hum rfl, h.bpm rfl, h.dmc rfl, h.ccl rfl, h.csu rfl, h.mgp rfl, h.cru rfl⟩

@[simp] theorem State.fetchOne_units (key : Nat) (e : Sqe) (s : State) :
    (State.fetchOne key e s).pending = s.pending ∧ (State.fetchOne key e s).out = s.out ∧ (State.fetchOne key e s).freeCnt = s.freeCnt ∧ (State.fetchOne key e s).timers = s.timers ∧ (State.fetchOne key e s).tbu = s.tbu ∧ (State.fetchOne key e s).power = s.power ∧ (State.fetchOne key e s).regf = s.regf ∧ (State.fetchOne key e s).sheet = s.sheet ∧ (State.fetchOne key e s).sheetOld = s.sheetOld ∧ (State.fetchOne key e s).gal = s.gal ∧ (State.fetchOne key e s).mxe = s.mxe ∧ (State.fetchOne key e s).dsc = s.dsc ∧ (State.fetchOne key e s).fca = s.fca ∧ (State.fetchOne key e s).cdx = s.cdx ∧ (State.fetchOne key e s).spe = s.spe ∧ (State.fetchOne key e s).hum = s.hum ∧ (State.fetchOne key e s).bpm = s.bpm ∧ (State.fetchOne key e s).dmc = s.dmc ∧ (State.fetchOne key e s).ccl = s.ccl ∧ (State.fetchOne key e s).csu = s.csu ∧ (State.fetchOne key e s).mgp = s.mgp ∧ (State.fetchOne key e s).cru = s.cru :=
  have h := (State.fetchOne_touch _ _ _ (by simp) (Touch.refl 1792 _))
  ⟨h.pending, h.out rfl, h.freeCnt rfl, h.timers rfl, h.tbu rfl, h.power rfl, h.regf rfl, h.sheet rfl, h.sheetOld rfl, h.gal rfl, h.mxe rfl, h.dsc rfl, h.fca rfl, h.cdx rfl, h.spe rfl, h.hum rfl, h.bpm rfl, h.dmc rfl, h.ccl rfl, h.csu rfl, h.mgp rfl, h.cru rfl⟩

@[simp] theorem State.fetchEntries_units (key : Nat) (l : List Sqe) (s : State) :
    (State.fetchEntries key l s).pending = s.pending ∧ (State.fetchEntries key l s).out = s.out ∧ (State.fetchEntries key l s).freeCnt = s.freeCnt ∧ (State.fetchEntries key l s).timers = s.timers ∧ (State.fetchEntries key l s).tbu = s.tbu ∧ (State.fetchEntries key l s).power = s.power ∧ (State.fetchEntries key l s).regf = s.regf ∧ (State.fetchEntries key l s).sheet = s.sheet ∧ (State.fetchEntries key l s).sheetOld = s.sheetOld ∧ (State.fetchEntries key l s).gal = s.gal ∧ (State.fetchEntries key l s).mxe = s.mxe ∧ (State.fetchEntries key l s).dsc = s.dsc ∧ (State.fetchEntries key l s).fca = s.fca ∧ (State.fetchEntries key l s).cdx = s.cdx ∧ (State.fetchEntries key l s).spe = s.spe ∧ (State.fetchEntries key l s).hum = s.hum ∧ (State.fetchEntries key l s).bpm = s.bpm ∧ (State.fetchEntries key l s).dmc = s.dmc ∧ (State.fetchEntries key l s).ccl = s.ccl ∧ (State.fetchEntries key l s).csu = s.csu ∧ (State.fetchEntries key l s).mgp = s.mgp ∧ (State.fetchEntries key l s).cru = s.cru :=
  have h := (State.fetchEntries_touch _ _ _ (by simp) (Touch.refl 1792 _))
  ⟨h.pending, h.out rfl, h.freeCnt rfl, h.timers rfl, h.tbu rfl, h.power rfl, h.regf rfl, h.sheet rfl, h.sheetOld rfl, h.gal rfl, h.mxe rfl, h.dsc rfl, h.fca rfl, h.cdx rfl, h.spe rfl, h.hum rfl, h.bpm rfl, h.dmc rfl, h.ccl rfl, h.csu rfl, h.mgp rfl, h.cru rfl⟩

@[simp] theorem State.failCmd_units (c status : Nat) (s : State) :
    (State.failCmd c status s).pending = s.pending ∧ (State.failCmd c status s).freeCnt = s.freeCnt ∧ (State.failCmd c status s).timers = s.timers ∧ (State.failCmd c status s).tbu = s.tbu ∧ (State.failCmd c status s).power = s.power ∧ (State.failCmd c status s).sheet = s.sheet ∧ (State.failCmd c status s).sheetOld = s.sheetOld ∧ (State.failCmd c status s).tnu = s.tnu ∧ (State.failCmd c status s).gal = s.gal ∧ (State.failCmd c status s).mxe = s.mxe ∧ (State.failCmd c status s).dsc = s.dsc ∧ (State.failCmd c status s).fca = s.fca ∧ (State.failCmd c status s).cdx = s.cdx ∧ (State.failCmd c status s).spe = s.spe ∧ (State.failCmd c status s).hum = s.hum ∧ (State.failCmd c status s).dmc = s.dmc ∧ (State.failCmd c status s).csu = s.csu :=
  have h := (State.failCmd_touch _ _ _ (by simp) (Touch.refl 13894433 _))
  ⟨h.pending, h.freeCnt rfl, h.timers rfl, h.tbu rfl, h.power rfl, h.sheet rfl, h.sheetOld rfl, h.tnu rfl, h.gal rfl, h.mxe rfl, h.dsc rfl, h.fca rfl, h.cdx rfl, h.spe rfl, h.hum rfl, h.dmc rfl, h.csu rfl⟩

@[simp] theorem State.nsViolation_units (c : Nat) (s : State) :
    (State.nsViolation c s).pending = s.pending ∧ (State.nsViolation c s).freeCnt = s.freeCnt ∧ (State.nsViolation c s).timers = s.timers ∧ (State.nsViolation c s).tbu = s.tbu ∧ (State.nsViolation c s).power = s.power ∧ (State.nsViolation c s).sheet = s.sheet ∧ (State.nsViolation c s).sheetOld = s.sheetOld ∧ (State.nsViolation c s).gal = s.gal ∧ (State.nsViolation c s).mxe = s.mxe ∧ (State.nsViolation c s).dsc = s.dsc ∧ (State.nsViolation c s).fca = s.fca ∧ (State.nsViolation c s).cdx = s.cdx ∧ (State.nsViolation c s).spe = s.spe ∧ (State.nsViolation c s).hum = s.hum ∧ (State.nsViolation c s).dmc = s.dmc ∧ (State.nsViolation c s).csu = s.csu :=
  have h := (State.nsViolation_touch _ _ (by simp) (Touch.refl 13895457 _))
  ⟨h.pending, h.freeCnt rfl, h.timers rfl, h.tbu rfl, h.power rfl, h.sheet rfl, h.sheetOld rfl, h.gal rfl, h.mxe rfl, h.dsc rfl, h.fca rfl, h.cdx rfl, h.spe rfl, h.hum rfl, h.dmc rfl, h.csu rfl⟩

@[simp] theorem State.refuseCtx_units (unit c : Nat) (s : State) :
    (State.refuseCtx unit c s).pending = s.pending ∧ (State.refuseCtx unit c s).out = s.out ∧ (State.refuseCtx unit c s).freeCnt = s.freeCnt ∧ (State.refuseCtx unit c s).timers = s.timers ∧ (State.refuseCtx unit c s).tbu = s.tbu ∧ (State.refuseCtx unit c s).power = s.power ∧ (State.refuseCtx unit c s).regf = s.regf ∧ (State.refuseCtx unit c s).sheet = s.sheet ∧ (State.refuseCtx unit c s).sheetOld = s.sheetOld ∧ (State.refuseCtx unit c s).hlu = s.hlu ∧ (State.refuseCtx unit c s).qen = s.qen ∧ (State.refuseCtx unit c s).tnu = s.tnu ∧ (State.refuseCtx unit c s).gal = s.gal ∧ (State.refuseCtx unit c s).mxe = s.mxe ∧ (State.refuseCtx unit c s).dsc = s.dsc ∧ (State.refuseCtx unit c s).fca = s.fca ∧ (State.refuseCtx unit c s).cdx = s.cdx ∧ (State.refuseCtx unit c s).spe = s.spe ∧ (State.refuseCtx unit c s).hum = s.hum ∧ (State.refuseCtx unit c s).bpm = s.bpm ∧ (State.refuseCtx unit c s).dmc = s.dmc ∧ (State.refuseCtx unit c s).csu = s.csu ∧ (State.refuseCtx unit c s).mgp = s.mgp ∧ (State.refuseCtx unit c s).cru = s.cru :=
  have h := (State.refuseCtx_touch _ _ _ (by simp) (Touch.refl 1048576 _))
  ⟨h.pending, h.out rfl, h.freeCnt rfl, h.timers rfl, h.tbu rfl, h.power rfl, h.regf rfl, h.sheet rfl, h.sheetOld rfl, h.hlu rfl, h.qen rfl, h.tnu rfl, h.gal rfl, h.mxe rfl, h.dsc rfl, h.fca rfl, h.cdx rfl, h.spe rfl, h.hum rfl, h.bpm rfl, h.dmc rfl, h.csu rfl, h.mgp rfl, h.cru rfl⟩

@[simp] theorem State.discardCtx_units (c : Nat) (x : Ctx) (s : State) :
    (State.discardCtx c x s).pending = s.pending ∧ (State.discardCtx c x s).freeCnt = s.freeCnt ∧ (State.discardCtx c x s).timers = s.timers ∧ (State.discardCtx c x s).tbu = s.tbu ∧ (State.discardCtx c x s).power = s.power ∧ (State.discardCtx c x s).sheet = s.sheet ∧ (State.discardCtx c x s).sheetOld = s.sheetOld ∧ (State.discardCtx c x s).tnu = s.tnu ∧ (State.discardCtx c x s).gal = s.gal ∧ (State.discardCtx c x s).mxe = s.mxe ∧ (State.discardCtx c x s).dsc = s.dsc ∧ (State.discardCtx c x s).fca = s.fca ∧ (State.discardCtx c x s).cdx = s.cdx ∧ (State.discardCtx c x s).spe = s.spe ∧ (State.discardCtx c x s).hum = s.hum ∧ (State.discardCtx c x s).dmc = s.dmc ∧ (State.discardCtx c x s).csu = s.csu :=
  have h := (State.discardCtx_touch _ _ _ (by simp) (Touch.refl 13894433 _))
  ⟨h.pending, h.freeCnt rfl, h.timers rfl, h.tbu rfl, h.power rfl, h.sheet rfl, h.sheetOld rfl, h.tnu rfl, h.gal rfl, h.mxe rfl, h.dsc rfl, h.fca rfl, h.cdx rfl, h.spe rfl, h.hum rfl, h.dmc rfl, h.csu rfl⟩

@[simp] theorem State.squashCtx_units (s : State) (e : Nat × Ctx) :
    (State.squashCtx s e).pending = s.pending ∧ (State.squashCtx s e).freeCnt = s.freeCnt ∧ (State.squashCtx s e).timers = s.timers ∧ (State.squashCtx s e).tbu = s.tbu ∧ (State.squashCtx s e).power = s.power ∧ (State.squashCtx s e).sheet = s.sheet ∧ (State.squashCtx s e).sheetOld = s.sheetOld ∧ (State.squashCtx s e).tnu = s.tnu ∧ (State.squashCtx s e).gal = s.gal ∧ (State.squashCtx s e).dsc = s.dsc ∧ (State.squashCtx s e).fca = s.fca ∧ (State.squashCtx s e).cdx = s.cdx ∧ (State.squashCtx s e).spe = s.spe ∧ (State.squashCtx s e).hum = s.hum ∧ (State.squashCtx s e).dmc = s.dmc ∧ (State.squashCtx s e).csu = s.csu :=
  have h := (State.squashCtx_touch _ _ (by simp) (Touch.refl 13898529 _))
  ⟨h.pending, h.freeCnt rfl, h.timers rfl, h.tbu rfl, h.power rfl, h.sheet rfl, h.sheetOld rfl, h.tnu rfl, h.gal rfl, h.dsc rfl, h.fca rfl, h.cdx rfl, h.spe rfl, h.hum rfl, h.dmc rfl, h.csu rfl⟩

@[simp] theorem State.squashWhere_units (p : Ctx → Bool) (s : State) :
    (State.squashWhere p s).pending = s.pending ∧ (State.squashWhere p s).freeCnt = s.freeCnt ∧ (State.squashWhere p s).timers = s.timers ∧ (State.squashWhere p s).tbu = s.tbu ∧ (State.squashWhere p s).power = s.power ∧ (State.squashWhere p s).sheet = s.sheet ∧ (State.squashWhere p s).sheetOld = s.sheetOld ∧ (State.squashWhere p s).tnu = s.tnu ∧ (State.squashWhere p s).gal = s.gal ∧ (State.squashWhere p s).dsc = s.dsc ∧ (State.squashWhere p s).fca = s.fca ∧ (State.squashWhere p s).cdx = s.cdx ∧ (State.squashWhere p s).spe = s.spe ∧ (State.squashWhere p s).hum = s.hum ∧ (State.squashWhere p s).dmc = s.dmc ∧ (State.squashWhere p s).csu = s.csu :=
  have h := (State.squashWhere_touch _ _ (by simp) (Touch.refl 13898529 _))
  ⟨h.pending, h.freeCnt rfl, h.timers rfl, h.tbu rfl, h.power rfl, h.sheet rfl, h.sheetOld rfl, h.tnu rfl, h.gal rfl, h.dsc rfl, h.fca rfl, h.cdx rfl, h.spe rfl, h.hum rfl, h.dmc rfl, h.csu rfl⟩

@[simp] theorem State.orphansDone_units (s : State) :
    (State.orphansDone s).pending = s.pending ∧ (State.orphansDone s).out = s.out ∧ (State.orphansDone s).freeCnt = s.freeCnt ∧ (State.orphansDone s).timers = s.timers ∧ (State.orphansDone s).tbu = s.tbu ∧ (State.orphansDone s).power = s.power ∧ (State.orphansDone s).regf = s.regf ∧ (State.orphansDone s).sheet = s.sheet ∧ (State.orphansDone s).sheetOld = s.sheetOld ∧ (State.orphansDone s).hlu = s.hlu ∧ (State.orphansDone s).tnu = s.tnu ∧ (State.orphansDone s).gal = s.gal ∧ (State.orphansDone s).mxe = s.mxe ∧ (State.orphansDone s).dsc = s.dsc ∧ (State.orphansDone s).fca = s.fca ∧ (State.orphansDone s).cdx = s.cdx ∧ (State.orphansDone s).spe = s.spe ∧ (State.orphansDone s).hum = s.hum ∧ (State.orphansDone s).bpm = s.bpm ∧ (State.orphansDone s).dmc = s.dmc ∧ (State.orphansDone s).ccl = s.ccl ∧ (State.orphansDone s).csu = s.csu ∧ (State.orphansDone s).mgp = s.mgp ∧ (State.orphansDone s).cru = s.cru :=
  have h := (State.orphansDone_touch _ (by simp) (Touch.refl 512 _))
  ⟨h.pending, h.out rfl, h.freeCnt rfl, h.timers rfl, h.tbu rfl, h.power rfl, h.regf rfl, h.sheet rfl, h.sheetOld rfl, h.hlu rfl, h.tnu rfl, h.gal rfl, h.mxe rfl, h.dsc rfl, h.fca rfl, h.cdx rfl, h.spe rfl, h.hum rfl, h.bpm rfl, h.dmc rfl, h.ccl rfl, h.csu rfl, h.mgp rfl, h.cru rfl⟩

@[simp] theorem State.quarantine_units (p : Tag → Bool) (s : State) :
    (State.quarantine p s).pending = s.pending ∧ (State.quarantine p s).out = s.out ∧ (State.quarantine p s).freeCnt = s.freeCnt ∧ (State.quarantine p s).timers = s.timers ∧ (State.quarantine p s).tbu = s.tbu ∧ (State.quarantine p s).power = s.power ∧ (State.quarantine p s).regf = s.regf ∧ (State.quarantine p s).sheet = s.sheet ∧ (State.quarantine p s).sheetOld = s.sheetOld ∧ (State.quarantine p s).qen = s.qen ∧ (State.quarantine p s).tnu = s.tnu ∧ (State.quarantine p s).gal = s.gal ∧ (State.quarantine p s).mxe = s.mxe ∧ (State.quarantine p s).dsc = s.dsc ∧ (State.quarantine p s).fca = s.fca ∧ (State.quarantine p s).cdx = s.cdx ∧ (State.quarantine p s).spe = s.spe ∧ (State.quarantine p s).hum = s.hum ∧ (State.quarantine p s).bpm = s.bpm ∧ (State.quarantine p s).dmc = s.dmc ∧ (State.quarantine p s).ccl = s.ccl ∧ (State.quarantine p s).csu = s.csu ∧ (State.quarantine p s).mgp = s.mgp ∧ (State.quarantine p s).cru = s.cru :=
  have h := (State.quarantine_touch _ _ (by simp) (Touch.refl 256 _))
  ⟨h.pending, h.out rfl, h.freeCnt rfl, h.timers rfl, h.tbu rfl, h.power rfl, h.regf rfl, h.sheet rfl, h.sheetOld rfl, h.qen rfl, h.tnu rfl, h.gal rfl, h.mxe rfl, h.dsc rfl, h.fca rfl, h.cdx rfl, h.spe rfl, h.hum rfl, h.bpm rfl, h.dmc rfl, h.ccl rfl, h.csu rfl, h.mgp rfl, h.cru rfl⟩

@[simp] theorem State.readLooked_units (c : Nat) (work : List SlotWork) (s : State) :
    (State.readLooked c work s).pending = s.pending ∧ (State.readLooked c work s).freeCnt = s.freeCnt ∧ (State.readLooked c work s).timers = s.timers ∧ (State.readLooked c work s).tbu = s.tbu ∧ (State.readLooked c work s).power = s.power ∧ (State.readLooked c work s).sheet = s.sheet ∧ (State.readLooked c work s).sheetOld = s.sheetOld ∧ (State.readLooked c work s).gal = s.gal ∧ (State.readLooked c work s).mxe = s.mxe ∧ (State.readLooked c work s).dsc = s.dsc ∧ (State.readLooked c work s).fca = s.fca ∧ (State.readLooked c work s).cdx = s.cdx ∧ (State.readLooked c work s).spe = s.spe ∧ (State.readLooked c work s).hum = s.hum ∧ (State.readLooked c work s).dmc = s.dmc ∧ (State.readLooked c work s).csu = s.csu :=
  have h := (State.readLooked_touch _ _ _ (by simp) (Touch.refl 13895457 _))
  ⟨h.pending, h.freeCnt rfl, h.timers rfl, h.tbu rfl, h.power rfl, h.sheet rfl, h.sheetOld rfl, h.gal rfl, h.mxe rfl, h.dsc rfl, h.fca rfl, h.cdx rfl, h.spe rfl, h.hum rfl, h.dmc rfl, h.csu rfl⟩

@[simp] theorem State.readSlots_units (c : Nat) (x : Ctx) (n : Namespace) (s : State) :
    (State.readSlots c x n s).pending = s.pending ∧ (State.readSlots c x n s).freeCnt = s.freeCnt ∧ (State.readSlots c x n s).timers = s.timers ∧ (State.readSlots c x n s).tbu = s.tbu ∧ (State.readSlots c x n s).power = s.power ∧ (State.readSlots c x n s).sheet = s.sheet ∧ (State.readSlots c x n s).sheetOld = s.sheetOld ∧ (State.readSlots c x n s).gal = s.gal ∧ (State.readSlots c x n s).mxe = s.mxe ∧ (State.readSlots c x n s).dsc = s.dsc ∧ (State.readSlots c x n s).fca = s.fca ∧ (State.readSlots c x n s).cdx = s.cdx ∧ (State.readSlots c x n s).spe = s.spe ∧ (State.readSlots c x n s).hum = s.hum ∧ (State.readSlots c x n s).dmc = s.dmc ∧ (State.readSlots c x n s).csu = s.csu :=
  have h := (State.readSlots_touch _ _ _ _ (by simp) (Touch.refl 13895457 _))
  ⟨h.pending, h.freeCnt rfl, h.timers rfl, h.tbu rfl, h.power rfl, h.sheet rfl, h.sheetOld rfl, h.gal rfl, h.mxe rfl, h.dsc rfl, h.fca rfl, h.cdx rfl, h.spe rfl, h.hum rfl, h.dmc rfl, h.csu rfl⟩

@[simp] theorem State.readGo_units (c : Nat) (x : Ctx) (n : Namespace) (s : State) :
    (State.readGo c x n s).pending = s.pending ∧ (State.readGo c x n s).freeCnt = s.freeCnt ∧ (State.readGo c x n s).timers = s.timers ∧ (State.readGo c x n s).tbu = s.tbu ∧ (State.readGo c x n s).power = s.power ∧ (State.readGo c x n s).sheet = s.sheet ∧ (State.readGo c x n s).sheetOld = s.sheetOld ∧ (State.readGo c x n s).gal = s.gal ∧ (State.readGo c x n s).mxe = s.mxe ∧ (State.readGo c x n s).dsc = s.dsc ∧ (State.readGo c x n s).fca = s.fca ∧ (State.readGo c x n s).cdx = s.cdx ∧ (State.readGo c x n s).spe = s.spe ∧ (State.readGo c x n s).hum = s.hum ∧ (State.readGo c x n s).dmc = s.dmc ∧ (State.readGo c x n s).csu = s.csu :=
  have h := (State.readGo_touch _ _ _ _ (by simp) (Touch.refl 13895457 _))
  ⟨h.pending, h.freeCnt rfl, h.timers rfl, h.tbu rfl, h.power rfl, h.sheet rfl, h.sheetOld rfl, h.gal rfl, h.mxe rfl, h.dsc rfl, h.fca rfl, h.cdx rfl, h.spe rfl, h.hum rfl, h.dmc rfl, h.csu rfl⟩

@[simp] theorem State.readNs_units (c : Nat) (x : Ctx) (n : Namespace) (s : State) :
    (State.readNs c x n s).pending = s.pending ∧ (State.readNs c x n s).freeCnt = s.freeCnt ∧ (State.readNs c x n s).timers = s.timers ∧ (State.readNs c x n s).tbu = s.tbu ∧ (State.readNs c x n s).power = s.power ∧ (State.readNs c x n s).sheet = s.sheet ∧ (State.readNs c x n s).sheetOld = s.sheetOld ∧ (State.readNs c x n s).gal = s.gal ∧ (State.readNs c x n s).mxe = s.mxe ∧ (State.readNs c x n s).dsc = s.dsc ∧ (State.readNs c x n s).fca = s.fca ∧ (State.readNs c x n s).cdx = s.cdx ∧ (State.readNs c x n s).spe = s.spe ∧ (State.readNs c x n s).hum = s.hum ∧ (State.readNs c x n s).dmc = s.dmc ∧ (State.readNs c x n s).csu = s.csu :=
  have h := (State.readNs_touch _ _ _ _ (by simp) (Touch.refl 13895457 _))
  ⟨h.pending, h.freeCnt rfl, h.timers rfl, h.tbu rfl, h.power rfl, h.sheet rfl, h.sheetOld rfl, h.gal rfl, h.mxe rfl, h.dsc rfl, h.fca rfl, h.cdx rfl, h.spe rfl, h.hum rfl, h.dmc rfl, h.csu rfl⟩

@[simp] theorem State.dataInGo_units (c : Nat) (pi : PiCheck) (x : Ctx) (s : State) :
    (State.dataInGo c pi x s).pending = s.pending ∧ (State.dataInGo c pi x s).freeCnt = s.freeCnt ∧ (State.dataInGo c pi x s).timers = s.timers ∧ (State.dataInGo c pi x s).tbu = s.tbu ∧ (State.dataInGo c pi x s).power = s.power ∧ (State.dataInGo c pi x s).sheet = s.sheet ∧ (State.dataInGo c pi x s).sheetOld = s.sheetOld ∧ (State.dataInGo c pi x s).tnu = s.tnu ∧ (State.dataInGo c pi x s).gal = s.gal ∧ (State.dataInGo c pi x s).mxe = s.mxe ∧ (State.dataInGo c pi x s).dsc = s.dsc ∧ (State.dataInGo c pi x s).fca = s.fca ∧ (State.dataInGo c pi x s).cdx = s.cdx ∧ (State.dataInGo c pi x s).spe = s.spe ∧ (State.dataInGo c pi x s).hum = s.hum ∧ (State.dataInGo c pi x s).dmc = s.dmc ∧ (State.dataInGo c pi x s).ccl = s.ccl ∧ (State.dataInGo c pi x s).csu = s.csu ∧ (State.dataInGo c pi x s).mgp = s.mgp ∧ (State.dataInGo c pi x s).cru = s.cru :=
  have h := (State.dataInGo_touch _ _ _ _ (by simp) (Touch.refl 262945 _))
  ⟨h.pending, h.freeCnt rfl, h.timers rfl, h.tbu rfl, h.power rfl, h.sheet rfl, h.sheetOld rfl, h.tnu rfl, h.gal rfl, h.mxe rfl, h.dsc rfl, h.fca rfl, h.cdx rfl, h.spe rfl, h.hum rfl, h.dmc rfl, h.ccl rfl, h.csu rfl, h.mgp rfl, h.cru rfl⟩

@[simp] theorem State.writeNs_units (c : Nat) (pi : PiCheck) (x : Ctx) (n : Namespace) (s : State) :
    (State.writeNs c pi x n s).pending = s.pending ∧ (State.writeNs c pi x n s).freeCnt = s.freeCnt ∧ (State.writeNs c pi x n s).timers = s.timers ∧ (State.writeNs c pi x n s).tbu = s.tbu ∧ (State.writeNs c pi x n s).power = s.power ∧ (State.writeNs c pi x n s).sheet = s.sheet ∧ (State.writeNs c pi x n s).sheetOld = s.sheetOld ∧ (State.writeNs c pi x n s).tnu = s.tnu ∧ (State.writeNs c pi x n s).gal = s.gal ∧ (State.writeNs c pi x n s).mxe = s.mxe ∧ (State.writeNs c pi x n s).dsc = s.dsc ∧ (State.writeNs c pi x n s).fca = s.fca ∧ (State.writeNs c pi x n s).cdx = s.cdx ∧ (State.writeNs c pi x n s).spe = s.spe ∧ (State.writeNs c pi x n s).hum = s.hum ∧ (State.writeNs c pi x n s).dmc = s.dmc ∧ (State.writeNs c pi x n s).csu = s.csu :=
  have h := (State.writeNs_touch _ _ _ _ _ (by simp) (Touch.refl 13894433 _))
  ⟨h.pending, h.freeCnt rfl, h.timers rfl, h.tbu rfl, h.power rfl, h.sheet rfl, h.sheetOld rfl, h.tnu rfl, h.gal rfl, h.mxe rfl, h.dsc rfl, h.fca rfl, h.cdx rfl, h.spe rfl, h.hum rfl, h.dmc rfl, h.csu rfl⟩

@[simp] theorem State.dataComplete_units (c : Nat) (x : Ctx) (s : State) :
    (State.dataComplete c x s).pending = s.pending ∧ (State.dataComplete c x s).freeCnt = s.freeCnt ∧ (State.dataComplete c x s).timers = s.timers ∧ (State.dataComplete c x s).tbu = s.tbu ∧ (State.dataComplete c x s).power = s.power ∧ (State.dataComplete c x s).sheet = s.sheet ∧ (State.dataComplete c x s).sheetOld = s.sheetOld ∧ (State.dataComplete c x s).tnu = s.tnu ∧ (State.dataComplete c x s).gal = s.gal ∧ (State.dataComplete c x s).mxe = s.mxe ∧ (State.dataComplete c x s).dsc = s.dsc ∧ (State.dataComplete c x s).fca = s.fca ∧ (State.dataComplete c x s).cdx = s.cdx ∧ (State.dataComplete c x s).spe = s.spe ∧ (State.dataComplete c x s).hum = s.hum ∧ (State.dataComplete c x s).dmc = s.dmc ∧ (State.dataComplete c x s).csu = s.csu :=
  have h := (State.dataComplete_touch _ _ _ (by simp) (Touch.refl 13894433 _))
  ⟨h.pending, h.freeCnt rfl, h.timers rfl, h.tbu rfl, h.power rfl, h.sheet rfl, h.sheetOld rfl, h.tnu rfl, h.gal rfl, h.mxe rfl, h.dsc rfl, h.fca rfl, h.cdx rfl, h.spe rfl, h.hum rfl, h.dmc rfl, h.csu rfl⟩

@[simp] theorem State.enterGranule_units (x : Ctx) (c dsn : Nat) (n : Namespace) (e : Extent) (src : Nat → Nat → Nat) (stages : Nat → List (Nat × Nat)) (s : State) (g : Nat) :
    (State.enterGranule x c dsn n e src stages s g).pending = s.pending ∧ (State.enterGranule x c dsn n e src stages s g).out = s.out ∧ (State.enterGranule x c dsn n e src stages s g).freeCnt = s.freeCnt ∧ (State.enterGranule x c dsn n e src stages s g).timers = s.timers ∧ (State.enterGranule x c dsn n e src stages s g).tbu = s.tbu ∧ (State.enterGranule x c dsn n e src stages s g).power = s.power ∧ (State.enterGranule x c dsn n e src stages s g).regf = s.regf ∧ (State.enterGranule x c dsn n e src stages s g).sheet = s.sheet ∧ (State.enterGranule x c dsn n e src stages s g).sheetOld = s.sheetOld ∧ (State.enterGranule x c dsn n e src stages s g).hlu = s.hlu ∧ (State.enterGranule x c dsn n e src stages s g).qen = s.qen ∧ (State.enterGranule x c dsn n e src stages s g).tnu = s.tnu ∧ (State.enterGranule x c dsn n e src stages s g).gal = s.gal ∧ (State.enterGranule x c dsn n e src stages s g).dsc = s.dsc ∧ (State.enterGranule x c dsn n e src stages s g).fca = s.fca ∧ (State.enterGranule x c dsn n e src stages s g).cdx = s.cdx ∧ (State.enterGranule x c dsn n e src stages s g).spe = s.spe ∧ (State.enterGranule x c dsn n e src stages s g).hum = s.hum ∧ (State.enterGranule x c dsn n e src stages s g).bpm = s.bpm ∧ (State.enterGranule x c dsn n e src stages s g).dmc = s.dmc ∧ (State.enterGranule x c dsn n e src stages s g).ccl = s.ccl ∧ (State.enterGranule x c dsn n e src stages s g).csu = s.csu ∧ (State.enterGranule x c dsn n e src stages s g).mgp = s.mgp ∧ (State.enterGranule x c dsn n e src stages s g).cru = s.cru :=
  have h := (State.enterGranule_touch _ _ _ _ _ _ _ _ _ (by simp) (Touch.refl 4096 _))
  ⟨h.pending, h.out rfl, h.freeCnt rfl, h.timers rfl, h.tbu rfl, h.power rfl, h.regf rfl, h.sheet rfl, h.sheetOld rfl, h.hlu rfl, h.qen rfl, h.tnu rfl, h.gal rfl, h.dsc rfl, h.fca rfl, h.cdx rfl, h.spe rfl, h.hum rfl, h.bpm rfl, h.dmc rfl, h.ccl rfl, h.csu rfl, h.mgp rfl, h.cru rfl⟩

@[simp] theorem State.takeDsn_units (c : Nat) (x : Ctx) (n : Namespace) (s : State) :
    (State.takeDsn c x n s).pending = s.pending ∧ (State.takeDsn c x n s).freeCnt = s.freeCnt ∧ (State.takeDsn c x n s).timers = s.timers ∧ (State.takeDsn c x n s).tbu = s.tbu ∧ (State.takeDsn c x n s).power = s.power ∧ (State.takeDsn c x n s).regf = s.regf ∧ (State.takeDsn c x n s).sheet = s.sheet ∧ (State.takeDsn c x n s).sheetOld = s.sheetOld ∧ (State.takeDsn c x n s).hlu = s.hlu ∧ (State.takeDsn c x n s).gal = s.gal ∧ (State.takeDsn c x n s).dsc = s.dsc ∧ (State.takeDsn c x n s).fca = s.fca ∧ (State.takeDsn c x n s).cdx = s.cdx ∧ (State.takeDsn c x n s).spe = s.spe ∧ (State.takeDsn c x n s).hum = s.hum ∧ (State.takeDsn c x n s).bpm = s.bpm ∧ (State.takeDsn c x n s).dmc = s.dmc ∧ (State.takeDsn c x n s).ccl = s.ccl ∧ (State.takeDsn c x n s).csu = s.csu ∧ (State.takeDsn c x n s).mgp = s.mgp ∧ (State.takeDsn c x n s).cru = s.cru :=
  have h := (State.takeDsn_touch _ _ _ _ (by simp) (Touch.refl 5633 _))
  ⟨h.pending, h.freeCnt rfl, h.timers rfl, h.tbu rfl, h.power rfl, h.regf rfl, h.sheet rfl, h.sheetOld rfl, h.hlu rfl, h.gal rfl, h.dsc rfl, h.fca rfl, h.cdx rfl, h.spe rfl, h.hum rfl, h.bpm rfl, h.dmc rfl, h.ccl rfl, h.csu rfl, h.mgp rfl, h.cru rfl⟩

@[simp] theorem State.seqGo_units (c : Nat) (x : Ctx) (n : Namespace) (s : State) :
    (State.seqGo c x n s).pending = s.pending ∧ (State.seqGo c x n s).freeCnt = s.freeCnt ∧ (State.seqGo c x n s).timers = s.timers ∧ (State.seqGo c x n s).tbu = s.tbu ∧ (State.seqGo c x n s).power = s.power ∧ (State.seqGo c x n s).sheet = s.sheet ∧ (State.seqGo c x n s).sheetOld = s.sheetOld ∧ (State.seqGo c x n s).gal = s.gal ∧ (State.seqGo c x n s).dsc = s.dsc ∧ (State.seqGo c x n s).fca = s.fca ∧ (State.seqGo c x n s).cdx = s.cdx ∧ (State.seqGo c x n s).spe = s.spe ∧ (State.seqGo c x n s).hum = s.hum ∧ (State.seqGo c x n s).dmc = s.dmc ∧ (State.seqGo c x n s).csu = s.csu :=
  have h := (State.seqGo_touch _ _ _ _ (by simp) (Touch.refl 13899553 _))
  ⟨h.pending, h.freeCnt rfl, h.timers rfl, h.tbu rfl, h.power rfl, h.sheet rfl, h.sheetOld rfl, h.gal rfl, h.dsc rfl, h.fca rfl, h.cdx rfl, h.spe rfl, h.hum rfl, h.dmc rfl, h.csu rfl⟩

@[simp] theorem State.seqNs_units (c : Nat) (x : Ctx) (n : Namespace) (s : State) :
    (State.seqNs c x n s).pending = s.pending ∧ (State.seqNs c x n s).freeCnt = s.freeCnt ∧ (State.seqNs c x n s).timers = s.timers ∧ (State.seqNs c x n s).tbu = s.tbu ∧ (State.seqNs c x n s).power = s.power ∧ (State.seqNs c x n s).sheet = s.sheet ∧ (State.seqNs c x n s).sheetOld = s.sheetOld ∧ (State.seqNs c x n s).gal = s.gal ∧ (State.seqNs c x n s).dsc = s.dsc ∧ (State.seqNs c x n s).fca = s.fca ∧ (State.seqNs c x n s).cdx = s.cdx ∧ (State.seqNs c x n s).spe = s.spe ∧ (State.seqNs c x n s).hum = s.hum ∧ (State.seqNs c x n s).dmc = s.dmc ∧ (State.seqNs c x n s).csu = s.csu :=
  have h := (State.seqNs_touch _ _ _ _ (by simp) (Touch.refl 13899553 _))
  ⟨h.pending, h.freeCnt rfl, h.timers rfl, h.tbu rfl, h.power rfl, h.sheet rfl, h.sheetOld rfl, h.gal rfl, h.dsc rfl, h.fca rfl, h.cdx rfl, h.spe rfl, h.hum rfl, h.dmc rfl, h.csu rfl⟩

@[simp] theorem State.trimCmd_units (c kind : Nat) (x : Ctx) (n : Namespace) (es : List Extent) (s : State) :
    (State.trimCmd c kind x n es s).pending = s.pending ∧ (State.trimCmd c kind x n es s).freeCnt = s.freeCnt ∧ (State.trimCmd c kind x n es s).timers = s.timers ∧ (State.trimCmd c kind x n es s).tbu = s.tbu ∧ (State.trimCmd c kind x n es s).power = s.power ∧ (State.trimCmd c kind x n es s).sheet = s.sheet ∧ (State.trimCmd c kind x n es s).sheetOld = s.sheetOld ∧ (State.trimCmd c kind x n es s).hlu = s.hlu ∧ (State.trimCmd c kind x n es s).tnu = s.tnu ∧ (State.trimCmd c kind x n es s).gal = s.gal ∧ (State.trimCmd c kind x n es s).dsc = s.dsc ∧ (State.trimCmd c kind x n es s).fca = s.fca ∧ (State.trimCmd c kind x n es s).cdx = s.cdx ∧ (State.trimCmd c kind x n es s).spe = s.spe ∧ (State.trimCmd c kind x n es s).hum = s.hum ∧ (State.trimCmd c kind x n es s).dmc = s.dmc ∧ (State.trimCmd c kind x n es s).csu = s.csu :=
  have h := (State.trimCmd_touch _ _ _ _ _ _ (by simp) (Touch.refl 13898273 _))
  ⟨h.pending, h.freeCnt rfl, h.timers rfl, h.tbu rfl, h.power rfl, h.sheet rfl, h.sheetOld rfl, h.hlu rfl, h.tnu rfl, h.gal rfl, h.dsc rfl, h.fca rfl, h.cdx rfl, h.spe rfl, h.hum rfl, h.dmc rfl, h.csu rfl⟩

@[simp] theorem State.trimRun_units (c kind : Nat) (x : Ctx) (n : Namespace) (rs : List (Nat × Nat)) (s : State) :
    (State.trimRun c kind x n rs s).pending = s.pending ∧ (State.trimRun c kind x n rs s).freeCnt = s.freeCnt ∧ (State.trimRun c kind x n rs s).timers = s.timers ∧ (State.trimRun c kind x n rs s).tbu = s.tbu ∧ (State.trimRun c kind x n rs s).power = s.power ∧ (State.trimRun c kind x n rs s).sheet = s.sheet ∧ (State.trimRun c kind x n rs s).sheetOld = s.sheetOld ∧ (State.trimRun c kind x n rs s).tnu = s.tnu ∧ (State.trimRun c kind x n rs s).gal = s.gal ∧ (State.trimRun c kind x n rs s).dsc = s.dsc ∧ (State.trimRun c kind x n rs s).fca = s.fca ∧ (State.trimRun c kind x n rs s).cdx = s.cdx ∧ (State.trimRun c kind x n rs s).spe = s.spe ∧ (State.trimRun c kind x n rs s).hum = s.hum ∧ (State.trimRun c kind x n rs s).dmc = s.dmc ∧ (State.trimRun c kind x n rs s).csu = s.csu :=
  have h := (State.trimRun_touch _ _ _ _ _ _ (by simp) (Touch.refl 13898529 _))
  ⟨h.pending, h.freeCnt rfl, h.timers rfl, h.tbu rfl, h.power rfl, h.sheet rfl, h.sheetOld rfl, h.tnu rfl, h.gal rfl, h.dsc rfl, h.fca rfl, h.cdx rfl, h.spe rfl, h.hum rfl, h.dmc rfl, h.csu rfl⟩

@[simp] theorem State.dsmNs_units (c : Nat) (x : Ctx) (n : Namespace) (s : State) :
    (State.dsmNs c x n s).pending = s.pending ∧ (State.dsmNs c x n s).freeCnt = s.freeCnt ∧ (State.dsmNs c x n s).timers = s.timers ∧ (State.dsmNs c x n s).tbu = s.tbu ∧ (State.dsmNs c x n s).power = s.power ∧ (State.dsmNs c x n s).sheet = s.sheet ∧ (State.dsmNs c x n s).sheetOld = s.sheetOld ∧ (State.dsmNs c x n s).tnu = s.tnu ∧ (State.dsmNs c x n s).gal = s.gal ∧ (State.dsmNs c x n s).dsc = s.dsc ∧ (State.dsmNs c x n s).fca = s.fca ∧ (State.dsmNs c x n s).cdx = s.cdx ∧ (State.dsmNs c x n s).spe = s.spe ∧ (State.dsmNs c x n s).hum = s.hum ∧ (State.dsmNs c x n s).dmc = s.dmc ∧ (State.dsmNs c x n s).csu = s.csu :=
  have h := (State.dsmNs_touch _ _ _ _ (by simp) (Touch.refl 13898529 _))
  ⟨h.pending, h.freeCnt rfl, h.timers rfl, h.tbu rfl, h.power rfl, h.sheet rfl, h.sheetOld rfl, h.tnu rfl, h.gal rfl, h.dsc rfl, h.fca rfl, h.cdx rfl, h.spe rfl, h.hum rfl, h.dmc rfl, h.csu rfl⟩

@[simp] theorem State.flushDone_units (s : State) :
    (State.flushDone s).pending = s.pending ∧ (State.flushDone s).out = s.out ∧ (State.flushDone s).freeCnt = s.freeCnt ∧ (State.flushDone s).timers = s.timers ∧ (State.flushDone s).tbu = s.tbu ∧ (State.flushDone s).power = s.power ∧ (State.flushDone s).regf = s.regf ∧ (State.flushDone s).sheet = s.sheet ∧ (State.flushDone s).sheetOld = s.sheetOld ∧ (State.flushDone s).hlu = s.hlu ∧ (State.flushDone s).tnu = s.tnu ∧ (State.flushDone s).gal = s.gal ∧ (State.flushDone s).mxe = s.mxe ∧ (State.flushDone s).dsc = s.dsc ∧ (State.flushDone s).fca = s.fca ∧ (State.flushDone s).cdx = s.cdx ∧ (State.flushDone s).spe = s.spe ∧ (State.flushDone s).hum = s.hum ∧ (State.flushDone s).bpm = s.bpm ∧ (State.flushDone s).dmc = s.dmc ∧ (State.flushDone s).ccl = s.ccl ∧ (State.flushDone s).csu = s.csu ∧ (State.flushDone s).mgp = s.mgp ∧ (State.flushDone s).cru = s.cru :=
  have h := (State.flushDone_touch _ (by simp) (Touch.refl 512 _))
  ⟨h.pending, h.out rfl, h.freeCnt rfl, h.timers rfl, h.tbu rfl, h.power rfl, h.regf rfl, h.sheet rfl, h.sheetOld rfl, h.hlu rfl, h.tnu rfl, h.gal rfl, h.mxe rfl, h.dsc rfl, h.fca rfl, h.cdx rfl, h.spe rfl, h.hum rfl, h.bpm rfl, h.dmc rfl, h.ccl rfl, h.csu rfl, h.mgp rfl, h.cru rfl⟩

@[simp] theorem State.forceOnLoss_units (s : State) :
    (State.forceOnLoss s).pending = s.pending ∧ (State.forceOnLoss s).out = s.out ∧ (State.forceOnLoss s).freeCnt = s.freeCnt ∧ (State.forceOnLoss s).timers = s.timers ∧ (State.forceOnLoss s).tbu = s.tbu ∧ (State.forceOnLoss s).power = s.power ∧ (State.forceOnLoss s).regf = s.regf ∧ (State.forceOnLoss s).sheet = s.sheet ∧ (State.forceOnLoss s).sheetOld = s.sheetOld ∧ (State.forceOnLoss s).hlu = s.hlu ∧ (State.forceOnLoss s).qen = s.qen ∧ (State.forceOnLoss s).tnu = s.tnu ∧ (State.forceOnLoss s).gal = s.gal ∧ (State.forceOnLoss s).dsc = s.dsc ∧ (State.forceOnLoss s).fca = s.fca ∧ (State.forceOnLoss s).cdx = s.cdx ∧ (State.forceOnLoss s).spe = s.spe ∧ (State.forceOnLoss s).hum = s.hum ∧ (State.forceOnLoss s).bpm = s.bpm ∧ (State.forceOnLoss s).dmc = s.dmc ∧ (State.forceOnLoss s).ccl = s.ccl ∧ (State.forceOnLoss s).csu = s.csu ∧ (State.forceOnLoss s).mgp = s.mgp ∧ (State.forceOnLoss s).cru = s.cru :=
  have h := (State.forceOnLoss_touch _ (by simp) (Touch.refl 4096 _))
  ⟨h.pending, h.out rfl, h.freeCnt rfl, h.timers rfl, h.tbu rfl, h.power rfl, h.regf rfl, h.sheet rfl, h.sheetOld rfl, h.hlu rfl, h.qen rfl, h.tnu rfl, h.gal rfl, h.dsc rfl, h.fca rfl, h.cdx rfl, h.spe rfl, h.hum rfl, h.bpm rfl, h.dmc rfl, h.ccl rfl, h.csu rfl, h.mgp rfl, h.cru rfl⟩

@[simp] theorem State.doorbellViolation_units (sl : Nat) (s : State) :
    (State.doorbellViolation sl s).pending = s.pending ∧ (State.doorbellViolation sl s).out = s.out ∧ (State.doorbellViolation sl s).freeCnt = s.freeCnt ∧ (State.doorbellViolation sl s).timers = s.timers ∧ (State.doorbellViolation sl s).tbu = s.tbu ∧ (State.doorbellViolation sl s).power = s.power ∧ (State.doorbellViolation sl s).sheet = s.sheet ∧ (State.doorbellViolation sl s).sheetOld = s.sheetOld ∧ (State.doorbellViolation sl s).hlu = s.hlu ∧ (State.doorbellViolation sl s).qen = s.qen ∧ (State.doorbellViolation sl s).gal = s.gal ∧ (State.doorbellViolation sl s).mxe = s.mxe ∧ (State.doorbellViolation sl s).dsc = s.dsc ∧ (State.doorbellViolation sl s).fca = s.fca ∧ (State.doorbellViolation sl s).cdx = s.cdx ∧ (State.doorbellViolation sl s).spe = s.spe ∧ (State.doorbellViolation sl s).hum = s.hum ∧ (State.doorbellViolation sl s).bpm = s.bpm ∧ (State.doorbellViolation sl s).dmc = s.dmc ∧ (State.doorbellViolation sl s).ccl = s.ccl ∧ (State.doorbellViolation sl s).csu = s.csu ∧ (State.doorbellViolation sl s).mgp = s.mgp :=
  have h := (State.doorbellViolation_touch _ _ (by simp) (Touch.refl 8389664 _))
  ⟨h.pending, h.out rfl, h.freeCnt rfl, h.timers rfl, h.tbu rfl, h.power rfl, h.sheet rfl, h.sheetOld rfl, h.hlu rfl, h.qen rfl, h.gal rfl, h.mxe rfl, h.dsc rfl, h.fca rfl, h.cdx rfl, h.spe rfl, h.hum rfl, h.bpm rfl, h.dmc rfl, h.ccl rfl, h.csu rfl, h.mgp rfl⟩

@[simp] theorem State.wakeUp_units (key : Nat) (s : State) :
    (State.wakeUp key s).pending = s.pending ∧ (State.wakeUp key s).out = s.out ∧ (State.wakeUp key s).freeCnt = s.freeCnt ∧ (State.wakeUp key s).timers = s.timers ∧ (State.wakeUp key s).tbu = s.tbu ∧ (State.wakeUp key s).power = s.power ∧ (State.wakeUp key s).regf = s.regf ∧ (State.wakeUp key s).sheet = s.sheet ∧ (State.wakeUp key s).sheetOld = s.sheetOld ∧ (State.wakeUp key s).hlu = s.hlu ∧ (State.wakeUp key s).tnu = s.tnu ∧ (State.wakeUp key s).gal = s.gal ∧ (State.wakeUp key s).mxe = s.mxe ∧ (State.wakeUp key s).dsc = s.dsc ∧ (State.wakeUp key s).fca = s.fca ∧ (State.wakeUp key s).cdx = s.cdx ∧ (State.wakeUp key s).spe = s.spe ∧ (State.wakeUp key s).hum = s.hum ∧ (State.wakeUp key s).bpm = s.bpm ∧ (State.wakeUp key s).dmc = s.dmc ∧ (State.wakeUp key s).ccl = s.ccl ∧ (State.wakeUp key s).csu = s.csu ∧ (State.wakeUp key s).mgp = s.mgp ∧ (State.wakeUp key s).cru = s.cru :=
  have h := (State.wakeUp_touch _ _ (by simp) (Touch.refl 512 _))
  ⟨h.pending, h.out rfl, h.freeCnt rfl, h.timers rfl, h.tbu rfl, h.power rfl, h.regf rfl, h.sheet rfl, h.sheetOld rfl, h.hlu rfl, h.tnu rfl, h.gal rfl, h.mxe rfl, h.dsc rfl, h.fca rfl, h.cdx rfl, h.spe rfl, h.hum rfl, h.bpm rfl, h.dmc rfl, h.ccl rfl, h.csu rfl, h.mgp rfl, h.cru rfl⟩

@[simp] theorem State.sqTail_units (key : Nat) (q : Sq) (v : Nat) (s : State) :
    (State.sqTail key q v s).pending = s.pending ∧ (State.sqTail key q v s).out = s.out ∧ (State.sqTail key q v s).freeCnt = s.freeCnt ∧ (State.sqTail key q v s).timers = s.timers ∧ (State.sqTail key q v s).tbu = s.tbu ∧ (State.sqTail key q v s).power = s.power ∧ (State.sqTail key q v s).regf = s.regf ∧ (State.sqTail key q v s).sheet = s.sheet ∧ (State.sqTail key q v s).sheetOld = s.sheetOld ∧ (State.sqTail key q v s).hlu = s.hlu ∧ (State.sqTail key q v s).tnu = s.tnu ∧ (State.sqTail key q v s).gal = s.gal ∧ (State.sqTail key q v s).mxe = s.mxe ∧ (State.sqTail key q v s).dsc = s.dsc ∧ (State.sqTail key q v s).fca = s.fca ∧ (State.sqTail key q v s).cdx = s.cdx ∧ (State.sqTail key q v s).spe = s.spe ∧ (State.sqTail key q v s).hum = s.hum ∧ (State.sqTail key q v s).bpm = s.bpm ∧ (State.sqTail key q v s).dmc = s.dmc ∧ (State.sqTail key q v s).ccl = s.ccl ∧ (State.sqTail key q v s).csu = s.csu ∧ (State.sqTail key q v s).mgp = s.mgp ∧ (State.sqTail key q v s).cru = s.cru :=
  have h := (State.sqTail_touch _ _ _ _ (by simp) (Touch.refl 512 _))
  ⟨h.pending, h.out rfl, h.freeCnt rfl, h.timers rfl, h.tbu rfl, h.power rfl, h.regf rfl, h.sheet rfl, h.sheetOld rfl, h.hlu rfl, h.tnu rfl, h.gal rfl, h.mxe rfl, h.dsc rfl, h.fca rfl, h.cdx rfl, h.spe rfl, h.hum rfl, h.bpm rfl, h.dmc rfl, h.ccl rfl, h.csu rfl, h.mgp rfl, h.cru rfl⟩

@[simp] theorem State.linkError_units (k : CplKind) (s : State) :
    (State.linkError k s).pending = s.pending ∧ (State.linkError k s).freeCnt = s.freeCnt ∧ (State.linkError k s).timers = s.timers ∧ (State.linkError k s).tbu = s.tbu ∧ (State.linkError k s).power = s.power ∧ (State.linkError k s).sheet = s.sheet ∧ (State.linkError k s).sheetOld = s.sheetOld ∧ (State.linkError k s).qen = s.qen ∧ (State.linkError k s).tnu = s.tnu ∧ (State.linkError k s).gal = s.gal ∧ (State.linkError k s).mxe = s.mxe ∧ (State.linkError k s).dsc = s.dsc ∧ (State.linkError k s).fca = s.fca ∧ (State.linkError k s).cdx = s.cdx ∧ (State.linkError k s).spe = s.spe ∧ (State.linkError k s).hum = s.hum ∧ (State.linkError k s).bpm = s.bpm ∧ (State.linkError k s).dmc = s.dmc ∧ (State.linkError k s).ccl = s.ccl ∧ (State.linkError k s).csu = s.csu ∧ (State.linkError k s).mgp = s.mgp :=
  have h := (State.linkError_touch _ _ (by simp) (Touch.refl 8388897 _))
  ⟨h.pending, h.freeCnt rfl, h.timers rfl, h.tbu rfl, h.power rfl, h.sheet rfl, h.sheetOld rfl, h.qen rfl, h.tnu rfl, h.gal rfl, h.mxe rfl, h.dsc rfl, h.fca rfl, h.cdx rfl, h.spe rfl, h.hum rfl, h.bpm rfl, h.dmc rfl, h.ccl rfl, h.csu rfl, h.mgp rfl⟩

@[simp] theorem State.fetchRead_units (t : Turn) (key : Nat) (q : Sq) (n : Nat) (s : State) :
    (State.fetchRead t key q n s).pending = s.pending ∧ (State.fetchRead t key q n s).freeCnt = s.freeCnt ∧ (State.fetchRead t key q n s).timers = s.timers ∧ (State.fetchRead t key q n s).tbu = s.tbu ∧ (State.fetchRead t key q n s).power = s.power ∧ (State.fetchRead t key q n s).regf = s.regf ∧ (State.fetchRead t key q n s).sheet = s.sheet ∧ (State.fetchRead t key q n s).sheetOld = s.sheetOld ∧ (State.fetchRead t key q n s).tnu = s.tnu ∧ (State.fetchRead t key q n s).gal = s.gal ∧ (State.fetchRead t key q n s).mxe = s.mxe ∧ (State.fetchRead t key q n s).dsc = s.dsc ∧ (State.fetchRead t key q n s).fca = s.fca ∧ (State.fetchRead t key q n s).cdx = s.cdx ∧ (State.fetchRead t key q n s).spe = s.spe ∧ (State.fetchRead t key q n s).hum = s.hum ∧ (State.fetchRead t key q n s).bpm = s.bpm ∧ (State.fetchRead t key q n s).dmc = s.dmc ∧ (State.fetchRead t key q n s).ccl = s.ccl ∧ (State.fetchRead t key q n s).csu = s.csu ∧ (State.fetchRead t key q n s).mgp = s.mgp ∧ (State.fetchRead t key q n s).cru = s.cru :=
  have h := (State.fetchRead_touch _ _ _ _ _ (by simp) (Touch.refl 769 _))
  ⟨h.pending, h.freeCnt rfl, h.timers rfl, h.tbu rfl, h.power rfl, h.regf rfl, h.sheet rfl, h.sheetOld rfl, h.tnu rfl, h.gal rfl, h.mxe rfl, h.dsc rfl, h.fca rfl, h.cdx rfl, h.spe rfl, h.hum rfl, h.bpm rfl, h.dmc rfl, h.ccl rfl, h.csu rfl, h.mgp rfl, h.cru rfl⟩

@[simp] theorem State.fetchArrives_units (key n data : Nat) (s : State) :
    (State.fetchArrives key n data s).pending = s.pending ∧ (State.fetchArrives key n data s).out = s.out ∧ (State.fetchArrives key n data s).freeCnt = s.freeCnt ∧ (State.fetchArrives key n data s).timers = s.timers ∧ (State.fetchArrives key n data s).tbu = s.tbu ∧ (State.fetchArrives key n data s).power = s.power ∧ (State.fetchArrives key n data s).regf = s.regf ∧ (State.fetchArrives key n data s).sheet = s.sheet ∧ (State.fetchArrives key n data s).sheetOld = s.sheetOld ∧ (State.fetchArrives key n data s).gal = s.gal ∧ (State.fetchArrives key n data s).mxe = s.mxe ∧ (State.fetchArrives key n data s).dsc = s.dsc ∧ (State.fetchArrives key n data s).fca = s.fca ∧ (State.fetchArrives key n data s).cdx = s.cdx ∧ (State.fetchArrives key n data s).spe = s.spe ∧ (State.fetchArrives key n data s).hum = s.hum ∧ (State.fetchArrives key n data s).bpm = s.bpm ∧ (State.fetchArrives key n data s).dmc = s.dmc ∧ (State.fetchArrives key n data s).ccl = s.ccl ∧ (State.fetchArrives key n data s).csu = s.csu ∧ (State.fetchArrives key n data s).mgp = s.mgp ∧ (State.fetchArrives key n data s).cru = s.cru :=
  have h := (State.fetchArrives_touch _ _ _ _ (by simp) (Touch.refl 1792 _))
  ⟨h.pending, h.out rfl, h.freeCnt rfl, h.timers rfl, h.tbu rfl, h.power rfl, h.regf rfl, h.sheet rfl, h.sheetOld rfl, h.gal rfl, h.mxe rfl, h.dsc rfl, h.fca rfl, h.cdx rfl, h.spe rfl, h.hum rfl, h.bpm rfl, h.dmc rfl, h.ccl rfl, h.csu rfl, h.mgp rfl, h.cru rfl⟩

@[simp] theorem State.signalCq_units (key : Nat) (s : State) :
    (State.signalCq key s).pending = s.pending ∧ (State.signalCq key s).freeCnt = s.freeCnt ∧ (State.signalCq key s).timers = s.timers ∧ (State.signalCq key s).tbu = s.tbu ∧ (State.signalCq key s).power = s.power ∧ (State.signalCq key s).regf = s.regf ∧ (State.signalCq key s).sheet = s.sheet ∧ (State.signalCq key s).sheetOld = s.sheetOld ∧ (State.signalCq key s).hlu = s.hlu ∧ (State.signalCq key s).tnu = s.tnu ∧ (State.signalCq key s).gal = s.gal ∧ (State.signalCq key s).mxe = s.mxe ∧ (State.signalCq key s).dsc = s.dsc ∧ (State.signalCq key s).fca = s.fca ∧ (State.signalCq key s).cdx = s.cdx ∧ (State.signalCq key s).spe = s.spe ∧ (State.signalCq key s).hum = s.hum ∧ (State.signalCq key s).bpm = s.bpm ∧ (State.signalCq key s).dmc = s.dmc ∧ (State.signalCq key s).ccl = s.ccl ∧ (State.signalCq key s).csu = s.csu ∧ (State.signalCq key s).mgp = s.mgp ∧ (State.signalCq key s).cru = s.cru :=
  have h := (State.signalCq_touch _ _ (by simp) (Touch.refl 513 _))
  ⟨h.pending, h.freeCnt rfl, h.timers rfl, h.tbu rfl, h.power rfl, h.regf rfl, h.sheet rfl, h.sheetOld rfl, h.hlu rfl, h.tnu rfl, h.gal rfl, h.mxe rfl, h.dsc rfl, h.fca rfl, h.cdx rfl, h.spe rfl, h.hum rfl, h.bpm rfl, h.dmc rfl, h.ccl rfl, h.csu rfl, h.mgp rfl, h.cru rfl⟩

@[simp] theorem State.postCqe_units (key : Nat) (q : Cq) (x : Ctx) (s : State) :
    (State.postCqe key q x s).pending = s.pending ∧ (State.postCqe key q x s).freeCnt = s.freeCnt ∧ (State.postCqe key q x s).timers = s.timers ∧ (State.postCqe key q x s).tbu = s.tbu ∧ (State.postCqe key q x s).power = s.power ∧ (State.postCqe key q x s).regf = s.regf ∧ (State.postCqe key q x s).sheet = s.sheet ∧ (State.postCqe key q x s).sheetOld = s.sheetOld ∧ (State.postCqe key q x s).hlu = s.hlu ∧ (State.postCqe key q x s).gal = s.gal ∧ (State.postCqe key q x s).mxe = s.mxe ∧ (State.postCqe key q x s).dsc = s.dsc ∧ (State.postCqe key q x s).fca = s.fca ∧ (State.postCqe key q x s).cdx = s.cdx ∧ (State.postCqe key q x s).spe = s.spe ∧ (State.postCqe key q x s).hum = s.hum ∧ (State.postCqe key q x s).bpm = s.bpm ∧ (State.postCqe key q x s).dmc = s.dmc ∧ (State.postCqe key q x s).ccl = s.ccl ∧ (State.postCqe key q x s).csu = s.csu ∧ (State.postCqe key q x s).mgp = s.mgp ∧ (State.postCqe key q x s).cru = s.cru :=
  have h := (State.postCqe_touch _ _ _ _ (by simp) (Touch.refl 1537 _))
  ⟨h.pending, h.freeCnt rfl, h.timers rfl, h.tbu rfl, h.power rfl, h.regf rfl, h.sheet rfl, h.sheetOld rfl, h.hlu rfl, h.gal rfl, h.mxe rfl, h.dsc rfl, h.fca rfl, h.cdx rfl, h.spe rfl, h.hum rfl, h.bpm rfl, h.dmc rfl, h.ccl rfl, h.csu rfl, h.mgp rfl, h.cru rfl⟩

@[simp] theorem State.writePosted_units (x : Ctx) (s : State) :
    (State.writePosted x s).pending = s.pending ∧ (State.writePosted x s).out = s.out ∧ (State.writePosted x s).freeCnt = s.freeCnt ∧ (State.writePosted x s).timers = s.timers ∧ (State.writePosted x s).tbu = s.tbu ∧ (State.writePosted x s).power = s.power ∧ (State.writePosted x s).regf = s.regf ∧ (State.writePosted x s).sheet = s.sheet ∧ (State.writePosted x s).sheetOld = s.sheetOld ∧ (State.writePosted x s).hlu = s.hlu ∧ (State.writePosted x s).qen = s.qen ∧ (State.writePosted x s).tnu = s.tnu ∧ (State.writePosted x s).gal = s.gal ∧ (State.writePosted x s).dsc = s.dsc ∧ (State.writePosted x s).fca = s.fca ∧ (State.writePosted x s).cdx = s.cdx ∧ (State.writePosted x s).spe = s.spe ∧ (State.writePosted x s).hum = s.hum ∧ (State.writePosted x s).bpm = s.bpm ∧ (State.writePosted x s).dmc = s.dmc ∧ (State.writePosted x s).ccl = s.ccl ∧ (State.writePosted x s).csu = s.csu ∧ (State.writePosted x s).mgp = s.mgp ∧ (State.writePosted x s).cru = s.cru :=
  have h := (State.writePosted_touch _ _ (by simp) (Touch.refl 4096 _))
  ⟨h.pending, h.out rfl, h.freeCnt rfl, h.timers rfl, h.tbu rfl, h.power rfl, h.regf rfl, h.sheet rfl, h.sheetOld rfl, h.hlu rfl, h.qen rfl, h.tnu rfl, h.gal rfl, h.dsc rfl, h.fca rfl, h.cdx rfl, h.spe rfl, h.hum rfl, h.bpm rfl, h.dmc rfl, h.ccl rfl, h.csu rfl, h.mgp rfl, h.cru rfl⟩

@[simp] theorem State.deletionsDone_units (s : State) :
    (State.deletionsDone s).pending = s.pending ∧ (State.deletionsDone s).out = s.out ∧ (State.deletionsDone s).freeCnt = s.freeCnt ∧ (State.deletionsDone s).timers = s.timers ∧ (State.deletionsDone s).tbu = s.tbu ∧ (State.deletionsDone s).power = s.power ∧ (State.deletionsDone s).regf = s.regf ∧ (State.deletionsDone s).sheet = s.sheet ∧ (State.deletionsDone s).sheetOld = s.sheetOld ∧ (State.deletionsDone s).hlu = s.hlu ∧ (State.deletionsDone s).tnu = s.tnu ∧ (State.deletionsDone s).gal = s.gal ∧ (State.deletionsDone s).mxe = s.mxe ∧ (State.deletionsDone s).dsc = s.dsc ∧ (State.deletionsDone s).fca = s.fca ∧ (State.deletionsDone s).cdx = s.cdx ∧ (State.deletionsDone s).spe = s.spe ∧ (State.deletionsDone s).hum = s.hum ∧ (State.deletionsDone s).bpm = s.bpm ∧ (State.deletionsDone s).dmc = s.dmc ∧ (State.deletionsDone s).ccl = s.ccl ∧ (State.deletionsDone s).csu = s.csu ∧ (State.deletionsDone s).mgp = s.mgp ∧ (State.deletionsDone s).cru = s.cru :=
  have h := (State.deletionsDone_touch _ (by simp) (Touch.refl 512 _))
  ⟨h.pending, h.out rfl, h.freeCnt rfl, h.timers rfl, h.tbu rfl, h.power rfl, h.regf rfl, h.sheet rfl, h.sheetOld rfl, h.hlu rfl, h.tnu rfl, h.gal rfl, h.mxe rfl, h.dsc rfl, h.fca rfl, h.cdx rfl, h.spe rfl, h.hum rfl, h.bpm rfl, h.dmc rfl, h.ccl rfl, h.csu rfl, h.mgp rfl, h.cru rfl⟩

@[simp] theorem State.activationPosted_units (c : Nat) (s : State) :
    (State.activationPosted c s).pending = s.pending ∧ (State.activationPosted c s).out = s.out ∧ (State.activationPosted c s).freeCnt = s.freeCnt ∧ (State.activationPosted c s).timers = s.timers ∧ (State.activationPosted c s).tbu = s.tbu ∧ (State.activationPosted c s).power = s.power ∧ (State.activationPosted c s).regf = s.regf ∧ (State.activationPosted c s).sheet = s.sheet ∧ (State.activationPosted c s).sheetOld = s.sheetOld ∧ (State.activationPosted c s).hlu = s.hlu ∧ (State.activationPosted c s).tnu = s.tnu ∧ (State.activationPosted c s).gal = s.gal ∧ (State.activationPosted c s).mxe = s.mxe ∧ (State.activationPosted c s).dsc = s.dsc ∧ (State.activationPosted c s).fca = s.fca ∧ (State.activationPosted c s).cdx = s.cdx ∧ (State.activationPosted c s).spe = s.spe ∧ (State.activationPosted c s).hum = s.hum ∧ (State.activationPosted c s).bpm = s.bpm ∧ (State.activationPosted c s).dmc = s.dmc ∧ (State.activationPosted c s).ccl = s.ccl ∧ (State.activationPosted c s).mgp = s.mgp ∧ (State.activationPosted c s).cru = s.cru :=
  have h := (State.activationPosted_touch _ _ (by simp) (Touch.refl 2097664 _))
  ⟨h.pending, h.out rfl, h.freeCnt rfl, h.timers rfl, h.tbu rfl, h.power rfl, h.regf rfl, h.sheet rfl, h.sheetOld rfl, h.hlu rfl, h.tnu rfl, h.gal rfl, h.mxe rfl, h.dsc rfl, h.fca rfl, h.cdx rfl, h.spe rfl, h.hum rfl, h.bpm rfl, h.dmc rfl, h.ccl rfl, h.mgp rfl, h.cru rfl⟩

@[simp] theorem State.psApply_units (r : PsRequest) (s : State) :
    (State.psApply r s).pending = s.pending ∧ (State.psApply r s).out = s.out ∧ (State.psApply r s).freeCnt = s.freeCnt ∧ (State.psApply r s).timers = s.timers ∧ (State.psApply r s).tbu = s.tbu ∧ (State.psApply r s).power = s.power ∧ (State.psApply r s).regf = s.regf ∧ (State.psApply r s).sheet = s.sheet ∧ (State.psApply r s).sheetOld = s.sheetOld ∧ (State.psApply r s).hlu = s.hlu ∧ (State.psApply r s).tnu = s.tnu ∧ (State.psApply r s).gal = s.gal ∧ (State.psApply r s).mxe = s.mxe ∧ (State.psApply r s).dsc = s.dsc ∧ (State.psApply r s).fca = s.fca ∧ (State.psApply r s).cdx = s.cdx ∧ (State.psApply r s).spe = s.spe ∧ (State.psApply r s).hum = s.hum ∧ (State.psApply r s).bpm = s.bpm ∧ (State.psApply r s).dmc = s.dmc ∧ (State.psApply r s).ccl = s.ccl ∧ (State.psApply r s).csu = s.csu ∧ (State.psApply r s).mgp = s.mgp ∧ (State.psApply r s).cru = s.cru :=
  have h := (State.psApply_touch _ _ (by simp) (Touch.refl 512 _))
  ⟨h.pending, h.out rfl, h.freeCnt rfl, h.timers rfl, h.tbu rfl, h.power rfl, h.regf rfl, h.sheet rfl, h.sheetOld rfl, h.hlu rfl, h.tnu rfl, h.gal rfl, h.mxe rfl, h.dsc rfl, h.fca rfl, h.cdx rfl, h.spe rfl, h.hum rfl, h.bpm rfl, h.dmc rfl, h.ccl rfl, h.csu rfl, h.mgp rfl, h.cru rfl⟩

@[simp] theorem State.padStripe_units (x : Stripe) (b : Band) (s : State) :
    (State.padStripe x b s).pending = s.pending ∧ (State.padStripe x b s).out = s.out ∧ (State.padStripe x b s).freeCnt = s.freeCnt ∧ (State.padStripe x b s).timers = s.timers ∧ (State.padStripe x b s).tbu = s.tbu ∧ (State.padStripe x b s).power = s.power ∧ (State.padStripe x b s).sheet = s.sheet ∧ (State.padStripe x b s).sheetOld = s.sheetOld ∧ (State.padStripe x b s).hlu = s.hlu ∧ (State.padStripe x b s).qen = s.qen ∧ (State.padStripe x b s).tnu = s.tnu ∧ (State.padStripe x b s).gal = s.gal ∧ (State.padStripe x b s).mxe = s.mxe ∧ (State.padStripe x b s).fca = s.fca ∧ (State.padStripe x b s).cdx = s.cdx ∧ (State.padStripe x b s).spe = s.spe ∧ (State.padStripe x b s).hum = s.hum ∧ (State.padStripe x b s).bpm = s.bpm ∧ (State.padStripe x b s).dmc = s.dmc ∧ (State.padStripe x b s).ccl = s.ccl ∧ (State.padStripe x b s).csu = s.csu ∧ (State.padStripe x b s).mgp = s.mgp ∧ (State.padStripe x b s).cru = s.cru :=
  have h := (State.padStripe_touch _ _ _ (by simp) (Touch.refl 8224 _))
  ⟨h.pending, h.out rfl, h.freeCnt rfl, h.timers rfl, h.tbu rfl, h.power rfl, h.sheet rfl, h.sheetOld rfl, h.hlu rfl, h.qen rfl, h.tnu rfl, h.gal rfl, h.mxe rfl, h.fca rfl, h.cdx rfl, h.spe rfl, h.hum rfl, h.bpm rfl, h.dmc rfl, h.ccl rfl, h.csu rfl, h.mgp rfl, h.cru rfl⟩

@[simp] theorem State.releaseDegraded_units (s : State) :
    (State.releaseDegraded s).pending = s.pending ∧ (State.releaseDegraded s).out = s.out ∧ (State.releaseDegraded s).freeCnt = s.freeCnt ∧ (State.releaseDegraded s).timers = s.timers ∧ (State.releaseDegraded s).tbu = s.tbu ∧ (State.releaseDegraded s).power = s.power ∧ (State.releaseDegraded s).regf = s.regf ∧ (State.releaseDegraded s).sheet = s.sheet ∧ (State.releaseDegraded s).sheetOld = s.sheetOld ∧ (State.releaseDegraded s).hlu = s.hlu ∧ (State.releaseDegraded s).qen = s.qen ∧ (State.releaseDegraded s).tnu = s.tnu ∧ (State.releaseDegraded s).gal = s.gal ∧ (State.releaseDegraded s).mxe = s.mxe ∧ (State.releaseDegraded s).dsc = s.dsc ∧ (State.releaseDegraded s).fca = s.fca ∧ (State.releaseDegraded s).cdx = s.cdx ∧ (State.releaseDegraded s).hum = s.hum ∧ (State.releaseDegraded s).bpm = s.bpm ∧ (State.releaseDegraded s).dmc = s.dmc ∧ (State.releaseDegraded s).ccl = s.ccl ∧ (State.releaseDegraded s).csu = s.csu ∧ (State.releaseDegraded s).mgp = s.mgp ∧ (State.releaseDegraded s).cru = s.cru :=
  have h := (State.releaseDegraded_touch _ (by simp) (Touch.refl 65536 _))
  ⟨h.pending, h.out rfl, h.freeCnt rfl, h.timers rfl, h.tbu rfl, h.power rfl, h.regf rfl, h.sheet rfl, h.sheetOld rfl, h.hlu rfl, h.qen rfl, h.tnu rfl, h.gal rfl, h.mxe rfl, h.dsc rfl, h.fca rfl, h.cdx rfl, h.hum rfl, h.bpm rfl, h.dmc rfl, h.ccl rfl, h.csu rfl, h.mgp rfl, h.cru rfl⟩

@[simp] theorem State.raiseRebuild_units (s : State) :
    (State.raiseRebuild s).pending = s.pending ∧ (State.raiseRebuild s).out = s.out ∧ (State.raiseRebuild s).freeCnt = s.freeCnt ∧ (State.raiseRebuild s).timers = s.timers ∧ (State.raiseRebuild s).tbu = s.tbu ∧ (State.raiseRebuild s).power = s.power ∧ (State.raiseRebuild s).sheet = s.sheet ∧ (State.raiseRebuild s).sheetOld = s.sheetOld ∧ (State.raiseRebuild s).hlu = s.hlu ∧ (State.raiseRebuild s).qen = s.qen ∧ (State.raiseRebuild s).tnu = s.tnu ∧ (State.raiseRebuild s).gal = s.gal ∧ (State.raiseRebuild s).mxe = s.mxe ∧ (State.raiseRebuild s).dsc = s.dsc ∧ (State.raiseRebuild s).fca = s.fca ∧ (State.raiseRebuild s).cdx = s.cdx ∧ (State.raiseRebuild s).hum = s.hum ∧ (State.raiseRebuild s).bpm = s.bpm ∧ (State.raiseRebuild s).dmc = s.dmc ∧ (State.raiseRebuild s).ccl = s.ccl ∧ (State.raiseRebuild s).csu = s.csu ∧ (State.raiseRebuild s).mgp = s.mgp :=
  have h := (State.raiseRebuild_touch _ (by simp) (Touch.refl 8454176 _))
  ⟨h.pending, h.out rfl, h.freeCnt rfl, h.timers rfl, h.tbu rfl, h.power rfl, h.sheet rfl, h.sheetOld rfl, h.hlu rfl, h.qen rfl, h.tnu rfl, h.gal rfl, h.mxe rfl, h.dsc rfl, h.fca rfl, h.cdx rfl, h.hum rfl, h.bpm rfl, h.dmc rfl, h.ccl rfl, h.csu rfl, h.mgp rfl⟩

@[simp] theorem State.rebuildGo_units (s : State) :
    (State.rebuildGo s).pending = s.pending ∧ (State.rebuildGo s).out = s.out ∧ (State.rebuildGo s).freeCnt = s.freeCnt ∧ (State.rebuildGo s).timers = s.timers ∧ (State.rebuildGo s).tbu = s.tbu ∧ (State.rebuildGo s).power = s.power ∧ (State.rebuildGo s).sheet = s.sheet ∧ (State.rebuildGo s).sheetOld = s.sheetOld ∧ (State.rebuildGo s).hlu = s.hlu ∧ (State.rebuildGo s).qen = s.qen ∧ (State.rebuildGo s).tnu = s.tnu ∧ (State.rebuildGo s).gal = s.gal ∧ (State.rebuildGo s).mxe = s.mxe ∧ (State.rebuildGo s).dsc = s.dsc ∧ (State.rebuildGo s).fca = s.fca ∧ (State.rebuildGo s).cdx = s.cdx ∧ (State.rebuildGo s).hum = s.hum ∧ (State.rebuildGo s).bpm = s.bpm ∧ (State.rebuildGo s).dmc = s.dmc ∧ (State.rebuildGo s).ccl = s.ccl ∧ (State.rebuildGo s).csu = s.csu ∧ (State.rebuildGo s).mgp = s.mgp :=
  have h := (State.rebuildGo_touch _ (by simp) (Touch.refl 8454176 _))
  ⟨h.pending, h.out rfl, h.freeCnt rfl, h.timers rfl, h.tbu rfl, h.power rfl, h.sheet rfl, h.sheetOld rfl, h.hlu rfl, h.qen rfl, h.tnu rfl, h.gal rfl, h.mxe rfl, h.dsc rfl, h.fca rfl, h.cdx rfl, h.hum rfl, h.bpm rfl, h.dmc rfl, h.ccl rfl, h.csu rfl, h.mgp rfl⟩

@[simp] theorem State.rebuildResume_units (s : State) :
    (State.rebuildResume s).pending = s.pending ∧ (State.rebuildResume s).out = s.out ∧ (State.rebuildResume s).freeCnt = s.freeCnt ∧ (State.rebuildResume s).timers = s.timers ∧ (State.rebuildResume s).tbu = s.tbu ∧ (State.rebuildResume s).power = s.power ∧ (State.rebuildResume s).sheet = s.sheet ∧ (State.rebuildResume s).sheetOld = s.sheetOld ∧ (State.rebuildResume s).hlu = s.hlu ∧ (State.rebuildResume s).qen = s.qen ∧ (State.rebuildResume s).tnu = s.tnu ∧ (State.rebuildResume s).gal = s.gal ∧ (State.rebuildResume s).mxe = s.mxe ∧ (State.rebuildResume s).dsc = s.dsc ∧ (State.rebuildResume s).fca = s.fca ∧ (State.rebuildResume s).cdx = s.cdx ∧ (State.rebuildResume s).hum = s.hum ∧ (State.rebuildResume s).bpm = s.bpm ∧ (State.rebuildResume s).dmc = s.dmc ∧ (State.rebuildResume s).ccl = s.ccl ∧ (State.rebuildResume s).csu = s.csu ∧ (State.rebuildResume s).mgp = s.mgp :=
  have h := (State.rebuildResume_touch _ (by simp) (Touch.refl 8454176 _))
  ⟨h.pending, h.out rfl, h.freeCnt rfl, h.timers rfl, h.tbu rfl, h.power rfl, h.sheet rfl, h.sheetOld rfl, h.hlu rfl, h.qen rfl, h.tnu rfl, h.gal rfl, h.mxe rfl, h.dsc rfl, h.fca rfl, h.cdx rfl, h.hum rfl, h.bpm rfl, h.dmc rfl, h.ccl rfl, h.csu rfl, h.mgp rfl⟩

@[simp] theorem State.lostJob_units (unit nsid g : Nat) (src : Loc) (s : State) :
    (State.lostJob unit nsid g src s).pending = s.pending ∧ (State.lostJob unit nsid g src s).out = s.out ∧ (State.lostJob unit nsid g src s).freeCnt = s.freeCnt ∧ (State.lostJob unit nsid g src s).timers = s.timers ∧ (State.lostJob unit nsid g src s).tbu = s.tbu ∧ (State.lostJob unit nsid g src s).power = s.power ∧ (State.lostJob unit nsid g src s).regf = s.regf ∧ (State.lostJob unit nsid g src s).sheet = s.sheet ∧ (State.lostJob unit nsid g src s).sheetOld = s.sheetOld ∧ (State.lostJob unit nsid g src s).hlu = s.hlu ∧ (State.lostJob unit nsid g src s).qen = s.qen ∧ (State.lostJob unit nsid g src s).tnu = s.tnu ∧ (State.lostJob unit nsid g src s).gal = s.gal ∧ (State.lostJob unit nsid g src s).dsc = s.dsc ∧ (State.lostJob unit nsid g src s).fca = s.fca ∧ (State.lostJob unit nsid g src s).cdx = s.cdx ∧ (State.lostJob unit nsid g src s).spe = s.spe ∧ (State.lostJob unit nsid g src s).hum = s.hum ∧ (State.lostJob unit nsid g src s).bpm = s.bpm ∧ (State.lostJob unit nsid g src s).dmc = s.dmc ∧ (State.lostJob unit nsid g src s).ccl = s.ccl ∧ (State.lostJob unit nsid g src s).csu = s.csu ∧ (State.lostJob unit nsid g src s).mgp = s.mgp ∧ (State.lostJob unit nsid g src s).cru = s.cru :=
  have h := (State.lostJob_touch _ _ _ _ _ (by simp) (Touch.refl 4096 _))
  ⟨h.pending, h.out rfl, h.freeCnt rfl, h.timers rfl, h.tbu rfl, h.power rfl, h.regf rfl, h.sheet rfl, h.sheetOld rfl, h.hlu rfl, h.qen rfl, h.tnu rfl, h.gal rfl, h.dsc rfl, h.fca rfl, h.cdx rfl, h.spe rfl, h.hum rfl, h.bpm rfl, h.dmc rfl, h.ccl rfl, h.csu rfl, h.mgp rfl, h.cru rfl⟩

@[simp] theorem State.rebuildUnit_units (ok : Bool) (b : Band) (row pos : Nat) (mb : Nat × Nat) (s : State) :
    (State.rebuildUnit ok b row pos mb s).pending = s.pending ∧ (State.rebuildUnit ok b row pos mb s).freeCnt = s.freeCnt ∧ (State.rebuildUnit ok b row pos mb s).timers = s.timers ∧ (State.rebuildUnit ok b row pos mb s).tbu = s.tbu ∧ (State.rebuildUnit ok b row pos mb s).power = s.power ∧ (State.rebuildUnit ok b row pos mb s).sheet = s.sheet ∧ (State.rebuildUnit ok b row pos mb s).sheetOld = s.sheetOld ∧ (State.rebuildUnit ok b row pos mb s).hlu = s.hlu ∧ (State.rebuildUnit ok b row pos mb s).qen = s.qen ∧ (State.rebuildUnit ok b row pos mb s).tnu = s.tnu ∧ (State.rebuildUnit ok b row pos mb s).gal = s.gal ∧ (State.rebuildUnit ok b row pos mb s).dsc = s.dsc ∧ (State.rebuildUnit ok b row pos mb s).fca = s.fca ∧ (State.rebuildUnit ok b row pos mb s).cdx = s.cdx ∧ (State.rebuildUnit ok b row pos mb s).hum = s.hum ∧ (State.rebuildUnit ok b row pos mb s).dmc = s.dmc ∧ (State.rebuildUnit ok b row pos mb s).ccl = s.ccl ∧ (State.rebuildUnit ok b row pos mb s).csu = s.csu ∧ (State.rebuildUnit ok b row pos mb s).mgp = s.mgp ∧ (State.rebuildUnit ok b row pos mb s).cru = s.cru :=
  have h := (State.rebuildUnit_touch _ _ _ _ _ _ (by simp) (Touch.refl 331809 _))
  ⟨h.pending, h.freeCnt rfl, h.timers rfl, h.tbu rfl, h.power rfl, h.sheet rfl, h.sheetOld rfl, h.hlu rfl, h.qen rfl, h.tnu rfl, h.gal rfl, h.dsc rfl, h.fca rfl, h.cdx rfl, h.hum rfl, h.dmc rfl, h.ccl rfl, h.csu rfl, h.mgp rfl, h.cru rfl⟩

@[simp] theorem State.rebuildOne_units (n : Nat) (b : Band) (row pos j : Nat) (failedSurvivors : List Nat) (s : State) :
    (State.rebuildOne n b row pos j failedSurvivors s).pending = s.pending ∧ (State.rebuildOne n b row pos j failedSurvivors s).freeCnt = s.freeCnt ∧ (State.rebuildOne n b row pos j failedSurvivors s).timers = s.timers ∧ (State.rebuildOne n b row pos j failedSurvivors s).tbu = s.tbu ∧ (State.rebuildOne n b row pos j failedSurvivors s).power = s.power ∧ (State.rebuildOne n b row pos j failedSurvivors s).sheet = s.sheet ∧ (State.rebuildOne n b row pos j failedSurvivors s).sheetOld = s.sheetOld ∧ (State.rebuildOne n b row pos j failedSurvivors s).hlu = s.hlu ∧ (State.rebuildOne n b row pos j failedSurvivors s).qen = s.qen ∧ (State.rebuildOne n b row pos j failedSurvivors s).tnu = s.tnu ∧ (State.rebuildOne n b row pos j failedSurvivors s).gal = s.gal ∧ (State.rebuildOne n b row pos j failedSurvivors s).dsc = s.dsc ∧ (State.rebuildOne n b row pos j failedSurvivors s).fca = s.fca ∧ (State.rebuildOne n b row pos j failedSurvivors s).cdx = s.cdx ∧ (State.rebuildOne n b row pos j failedSurvivors s).hum = s.hum ∧ (State.rebuildOne n b row pos j failedSurvivors s).dmc = s.dmc ∧ (State.rebuildOne n b row pos j failedSurvivors s).ccl = s.ccl ∧ (State.rebuildOne n b row pos j failedSurvivors s).csu = s.csu ∧ (State.rebuildOne n b row pos j failedSurvivors s).mgp = s.mgp ∧ (State.rebuildOne n b row pos j failedSurvivors s).cru = s.cru :=
  have h := (State.rebuildOne_touch _ _ _ _ _ _ _ (by simp) (Touch.refl 331809 _))
  ⟨h.pending, h.freeCnt rfl, h.timers rfl, h.tbu rfl, h.power rfl, h.sheet rfl, h.sheetOld rfl, h.hlu rfl, h.qen rfl, h.tnu rfl, h.gal rfl, h.dsc rfl, h.fca rfl, h.cdx rfl, h.hum rfl, h.dmc rfl, h.ccl rfl, h.csu rfl, h.mgp rfl, h.cru rfl⟩

@[simp] theorem State.rebuildBandDone_units (n : Nat) (b : Band) (s : State) :
    (State.rebuildBandDone n b s).pending = s.pending ∧ (State.rebuildBandDone n b s).out = s.out ∧ (State.rebuildBandDone n b s).freeCnt = s.freeCnt ∧ (State.rebuildBandDone n b s).timers = s.timers ∧ (State.rebuildBandDone n b s).tbu = s.tbu ∧ (State.rebuildBandDone n b s).power = s.power ∧ (State.rebuildBandDone n b s).regf = s.regf ∧ (State.rebuildBandDone n b s).sheet = s.sheet ∧ (State.rebuildBandDone n b s).sheetOld = s.sheetOld ∧ (State.rebuildBandDone n b s).hlu = s.hlu ∧ (State.rebuildBandDone n b s).qen = s.qen ∧ (State.rebuildBandDone n b s).tnu = s.tnu ∧ (State.rebuildBandDone n b s).gal = s.gal ∧ (State.rebuildBandDone n b s).mxe = s.mxe ∧ (State.rebuildBandDone n b s).dsc = s.dsc ∧ (State.rebuildBandDone n b s).fca = s.fca ∧ (State.rebuildBandDone n b s).cdx = s.cdx ∧ (State.rebuildBandDone n b s).hum = s.hum ∧ (State.rebuildBandDone n b s).bpm = s.bpm ∧ (State.rebuildBandDone n b s).dmc = s.dmc ∧ (State.rebuildBandDone n b s).ccl = s.ccl ∧ (State.rebuildBandDone n b s).csu = s.csu ∧ (State.rebuildBandDone n b s).mgp = s.mgp ∧ (State.rebuildBandDone n b s).cru = s.cru :=
  have h := (State.rebuildBandDone_touch _ _ _ (by simp) (Touch.refl 65536 _))
  ⟨h.pending, h.out rfl, h.freeCnt rfl, h.timers rfl, h.tbu rfl, h.power rfl, h.regf rfl, h.sheet rfl, h.sheetOld rfl, h.hlu rfl, h.qen rfl, h.tnu rfl, h.gal rfl, h.mxe rfl, h.dsc rfl, h.fca rfl, h.cdx rfl, h.hum rfl, h.bpm rfl, h.dmc rfl, h.ccl rfl, h.csu rfl, h.mgp rfl, h.cru rfl⟩

@[simp] theorem State.countSurvivors_units (b : Band) (row pos j : Nat) (survivors : List (Nat × Nat)) (s : State) :
    (State.countSurvivors b row pos j survivors s).pending = s.pending ∧ (State.countSurvivors b row pos j survivors s).out = s.out ∧ (State.countSurvivors b row pos j survivors s).freeCnt = s.freeCnt ∧ (State.countSurvivors b row pos j survivors s).timers = s.timers ∧ (State.countSurvivors b row pos j survivors s).tbu = s.tbu ∧ (State.countSurvivors b row pos j survivors s).power = s.power ∧ (State.countSurvivors b row pos j survivors s).sheet = s.sheet ∧ (State.countSurvivors b row pos j survivors s).sheetOld = s.sheetOld ∧ (State.countSurvivors b row pos j survivors s).hlu = s.hlu ∧ (State.countSurvivors b row pos j survivors s).qen = s.qen ∧ (State.countSurvivors b row pos j survivors s).tnu = s.tnu ∧ (State.countSurvivors b row pos j survivors s).gal = s.gal ∧ (State.countSurvivors b row pos j survivors s).mxe = s.mxe ∧ (State.countSurvivors b row pos j survivors s).dsc = s.dsc ∧ (State.countSurvivors b row pos j survivors s).fca = s.fca ∧ (State.countSurvivors b row pos j survivors s).cdx = s.cdx ∧ (State.countSurvivors b row pos j survivors s).spe = s.spe ∧ (State.countSurvivors b row pos j survivors s).hum = s.hum ∧ (State.countSurvivors b row pos j survivors s).bpm = s.bpm ∧ (State.countSurvivors b row pos j survivors s).dmc = s.dmc ∧ (State.countSurvivors b row pos j survivors s).ccl = s.ccl ∧ (State.countSurvivors b row pos j survivors s).csu = s.csu ∧ (State.countSurvivors b row pos j survivors s).mgp = s.mgp ∧ (State.countSurvivors b row pos j survivors s).cru = s.cru :=
  have h := (State.countSurvivors_touch _ _ _ _ _ _ (by simp) (Touch.refl 32 _))
  ⟨h.pending, h.out rfl, h.freeCnt rfl, h.timers rfl, h.tbu rfl, h.power rfl, h.sheet rfl, h.sheetOld rfl, h.hlu rfl, h.qen rfl, h.tnu rfl, h.gal rfl, h.mxe rfl, h.dsc rfl, h.fca rfl, h.cdx rfl, h.spe rfl, h.hum rfl, h.bpm rfl, h.dmc rfl, h.ccl rfl, h.csu rfl, h.mgp rfl, h.cru rfl⟩

@[simp] theorem State.rebuildEnd_units (s : State) :
    (State.rebuildEnd s).pending = s.pending ∧ (State.rebuildEnd s).freeCnt = s.freeCnt ∧ (State.rebuildEnd s).timers = s.timers ∧ (State.rebuildEnd s).tbu = s.tbu ∧ (State.rebuildEnd s).power = s.power ∧ (State.rebuildEnd s).sheet = s.sheet ∧ (State.rebuildEnd s).sheetOld = s.sheetOld ∧ (State.rebuildEnd s).hlu = s.hlu ∧ (State.rebuildEnd s).tnu = s.tnu ∧ (State.rebuildEnd s).gal = s.gal ∧ (State.rebuildEnd s).mxe = s.mxe ∧ (State.rebuildEnd s).dsc = s.dsc ∧ (State.rebuildEnd s).fca = s.fca ∧ (State.rebuildEnd s).cdx = s.cdx ∧ (State.rebuildEnd s).hum = s.hum ∧ (State.rebuildEnd s).bpm = s.bpm ∧ (State.rebuildEnd s).dmc = s.dmc ∧ (State.rebuildEnd s).ccl = s.ccl ∧ (State.rebuildEnd s).csu = s.csu :=
  have h := (State.rebuildEnd_touch _ (by simp) (Touch.refl 12648993 _))
  ⟨h.pending, h.freeCnt rfl, h.timers rfl, h.tbu rfl, h.power rfl, h.sheet rfl, h.sheetOld rfl, h.hlu rfl, h.tnu rfl, h.gal rfl, h.mxe rfl, h.dsc rfl, h.fca rfl, h.cdx rfl, h.hum rfl, h.bpm rfl, h.dmc rfl, h.ccl rfl, h.csu rfl⟩

@[simp] theorem State.stageWindow_units (n k : Nat) (v : Word) (s : State) :
    (State.stageWindow n k v s).pending = s.pending ∧ (State.stageWindow n k v s).out = s.out ∧ (State.stageWindow n k v s).freeCnt = s.freeCnt ∧ (State.stageWindow n k v s).timers = s.timers ∧ (State.stageWindow n k v s).tbu = s.tbu ∧ (State.stageWindow n k v s).power = s.power ∧ (State.stageWindow n k v s).regf = s.regf ∧ (State.stageWindow n k v s).sheet = s.sheet ∧ (State.stageWindow n k v s).sheetOld = s.sheetOld ∧ (State.stageWindow n k v s).hlu = s.hlu ∧ (State.stageWindow n k v s).qen = s.qen ∧ (State.stageWindow n k v s).tnu = s.tnu ∧ (State.stageWindow n k v s).mxe = s.mxe ∧ (State.stageWindow n k v s).dsc = s.dsc ∧ (State.stageWindow n k v s).fca = s.fca ∧ (State.stageWindow n k v s).cdx = s.cdx ∧ (State.stageWindow n k v s).spe = s.spe ∧ (State.stageWindow n k v s).hum = s.hum ∧ (State.stageWindow n k v s).bpm = s.bpm ∧ (State.stageWindow n k v s).dmc = s.dmc ∧ (State.stageWindow n k v s).ccl = s.ccl ∧ (State.stageWindow n k v s).csu = s.csu ∧ (State.stageWindow n k v s).mgp = s.mgp ∧ (State.stageWindow n k v s).cru = s.cru :=
  have h := (State.stageWindow_touch _ _ _ _ (by simp) (Touch.refl 2048 _))
  ⟨h.pending, h.out rfl, h.freeCnt rfl, h.timers rfl, h.tbu rfl, h.power rfl, h.regf rfl, h.sheet rfl, h.sheetOld rfl, h.hlu rfl, h.qen rfl, h.tnu rfl, h.mxe rfl, h.dsc rfl, h.fca rfl, h.cdx rfl, h.spe rfl, h.hum rfl, h.bpm rfl, h.dmc rfl, h.ccl rfl, h.csu rfl, h.mgp rfl, h.cru rfl⟩

@[simp] theorem State.abortN_units (k : Nat) (s : State) :
    (State.abortN k s).pending = s.pending ∧ (State.abortN k s).freeCnt = s.freeCnt ∧ (State.abortN k s).timers = s.timers ∧ (State.abortN k s).tbu = s.tbu ∧ (State.abortN k s).power = s.power ∧ (State.abortN k s).regf = s.regf ∧ (State.abortN k s).sheet = s.sheet ∧ (State.abortN k s).sheetOld = s.sheetOld ∧ (State.abortN k s).hlu = s.hlu ∧ (State.abortN k s).qen = s.qen ∧ (State.abortN k s).tnu = s.tnu ∧ (State.abortN k s).gal = s.gal ∧ (State.abortN k s).mxe = s.mxe ∧ (State.abortN k s).dsc = s.dsc ∧ (State.abortN k s).fca = s.fca ∧ (State.abortN k s).cdx = s.cdx ∧ (State.abortN k s).spe = s.spe ∧ (State.abortN k s).hum = s.hum ∧ (State.abortN k s).bpm = s.bpm ∧ (State.abortN k s).dmc = s.dmc ∧ (State.abortN k s).ccl = s.ccl ∧ (State.abortN k s).csu = s.csu ∧ (State.abortN k s).mgp = s.mgp ∧ (State.abortN k s).cru = s.cru :=
  have h := (State.abortN_touch _ _ (by simp) (Touch.refl 1 _))
  ⟨h.pending, h.freeCnt rfl, h.timers rfl, h.tbu rfl, h.power rfl, h.regf rfl, h.sheet rfl, h.sheetOld rfl, h.hlu rfl, h.qen rfl, h.tnu rfl, h.gal rfl, h.mxe rfl, h.dsc rfl, h.fca rfl, h.cdx rfl, h.spe rfl, h.hum rfl, h.bpm rfl, h.dmc rfl, h.ccl rfl, h.csu rfl, h.mgp rfl, h.cru rfl⟩

@[simp] theorem State.abortReads_units (p : Nat → Bool) (s : State) :
    (State.abortReads p s).pending = s.pending ∧ (State.abortReads p s).freeCnt = s.freeCnt ∧ (State.abortReads p s).timers = s.timers ∧ (State.abortReads p s).tbu = s.tbu ∧ (State.abortReads p s).power = s.power ∧ (State.abortReads p s).sheet = s.sheet ∧ (State.abortReads p s).sheetOld = s.sheetOld ∧ (State.abortReads p s).tnu = s.tnu ∧ (State.abortReads p s).mxe = s.mxe ∧ (State.abortReads p s).dsc = s.dsc ∧ (State.abortReads p s).fca = s.fca ∧ (State.abortReads p s).cdx = s.cdx ∧ (State.abortReads p s).spe = s.spe ∧ (State.abortReads p s).hum = s.hum ∧ (State.abortReads p s).dmc = s.dmc ∧ (State.abortReads p s).csu = s.csu :=
  have h := (State.abortReads_touch _ _ (by simp) (Touch.refl 13896481 _))
  ⟨h.pending, h.freeCnt rfl, h.timers rfl, h.tbu rfl, h.power rfl, h.sheet rfl, h.sheetOld rfl, h.tnu rfl, h.mxe rfl, h.dsc rfl, h.fca rfl, h.cdx rfl, h.spe rfl, h.hum rfl, h.dmc rfl, h.csu rfl⟩

@[simp] theorem State.storeWindow_units (s : State) (n : Nat) :
    (State.storeWindow s n).pending = s.pending ∧ (State.storeWindow s n).out = s.out ∧ (State.storeWindow s n).freeCnt = s.freeCnt ∧ (State.storeWindow s n).timers = s.timers ∧ (State.storeWindow s n).tbu = s.tbu ∧ (State.storeWindow s n).power = s.power ∧ (State.storeWindow s n).regf = s.regf ∧ (State.storeWindow s n).sheetOld = s.sheetOld ∧ (State.storeWindow s n).hlu = s.hlu ∧ (State.storeWindow s n).qen = s.qen ∧ (State.storeWindow s n).tnu = s.tnu ∧ (State.storeWindow s n).gal = s.gal ∧ (State.storeWindow s n).mxe = s.mxe ∧ (State.storeWindow s n).dsc = s.dsc ∧ (State.storeWindow s n).fca = s.fca ∧ (State.storeWindow s n).cdx = s.cdx ∧ (State.storeWindow s n).spe = s.spe ∧ (State.storeWindow s n).hum = s.hum ∧ (State.storeWindow s n).bpm = s.bpm ∧ (State.storeWindow s n).dmc = s.dmc ∧ (State.storeWindow s n).ccl = s.ccl ∧ (State.storeWindow s n).csu = s.csu ∧ (State.storeWindow s n).mgp = s.mgp ∧ (State.storeWindow s n).cru = s.cru :=
  have h := (State.storeWindow_touch _ _ (by simp) (Touch.refl 64 _))
  ⟨h.pending, h.out rfl, h.freeCnt rfl, h.timers rfl, h.tbu rfl, h.power rfl, h.regf rfl, h.sheetOld rfl, h.hlu rfl, h.qen rfl, h.tnu rfl, h.gal rfl, h.mxe rfl, h.dsc rfl, h.fca rfl, h.cdx rfl, h.spe rfl, h.hum rfl, h.bpm rfl, h.dmc rfl, h.ccl rfl, h.csu rfl, h.mgp rfl, h.cru rfl⟩

@[simp] theorem State.activateWins_units (t : List (Nat × Window)) (aff : List Nat) (s : State) :
    (State.activateWins t aff s).pending = s.pending ∧ (State.activateWins t aff s).freeCnt = s.freeCnt ∧ (State.activateWins t aff s).timers = s.timers ∧ (State.activateWins t aff s).tbu = s.tbu ∧ (State.activateWins t aff s).power = s.power ∧ (State.activateWins t aff s).sheetOld = s.sheetOld ∧ (State.activateWins t aff s).tnu = s.tnu ∧ (State.activateWins t aff s).mxe = s.mxe ∧ (State.activateWins t aff s).dsc = s.dsc ∧ (State.activateWins t aff s).fca = s.fca ∧ (State.activateWins t aff s).cdx = s.cdx ∧ (State.activateWins t aff s).spe = s.spe ∧ (State.activateWins t aff s).hum = s.hum ∧ (State.activateWins t aff s).dmc = s.dmc ∧ (State.activateWins t aff s).csu = s.csu :=
  have h := (State.activateWins_touch _ _ _ (by simp) (Touch.refl 13896545 _))
  ⟨h.pending, h.freeCnt rfl, h.timers rfl, h.tbu rfl, h.power rfl, h.sheetOld rfl, h.tnu rfl, h.mxe rfl, h.dsc rfl, h.fca rfl, h.cdx rfl, h.spe rfl, h.hum rfl, h.dmc rfl, h.csu rfl⟩

@[simp] theorem State.winCommit_units (s : State) :
    (State.winCommit s).pending = s.pending ∧ (State.winCommit s).freeCnt = s.freeCnt ∧ (State.winCommit s).timers = s.timers ∧ (State.winCommit s).power = s.power ∧ (State.winCommit s).sheetOld = s.sheetOld ∧ (State.winCommit s).tnu = s.tnu ∧ (State.winCommit s).mxe = s.mxe ∧ (State.winCommit s).dsc = s.dsc ∧ (State.winCommit s).fca = s.fca ∧ (State.winCommit s).cdx = s.cdx ∧ (State.winCommit s).spe = s.spe ∧ (State.winCommit s).hum = s.hum ∧ (State.winCommit s).dmc = s.dmc ∧ (State.winCommit s).csu = s.csu :=
  have h := (State.winCommit_touch _ (by simp) (Touch.refl 13896553 _))
  ⟨h.pending, h.freeCnt rfl, h.timers rfl, h.power rfl, h.sheetOld rfl, h.tnu rfl, h.mxe rfl, h.dsc rfl, h.fca rfl, h.cdx rfl, h.spe rfl, h.hum rfl, h.dmc rfl, h.csu rfl⟩

@[simp] theorem State.winDiscard_units (s : State) :
    (State.winDiscard s).pending = s.pending ∧ (State.winDiscard s).out = s.out ∧ (State.winDiscard s).freeCnt = s.freeCnt ∧ (State.winDiscard s).timers = s.timers ∧ (State.winDiscard s).tbu = s.tbu ∧ (State.winDiscard s).power = s.power ∧ (State.winDiscard s).regf = s.regf ∧ (State.winDiscard s).sheet = s.sheet ∧ (State.winDiscard s).sheetOld = s.sheetOld ∧ (State.winDiscard s).hlu = s.hlu ∧ (State.winDiscard s).qen = s.qen ∧ (State.winDiscard s).tnu = s.tnu ∧ (State.winDiscard s).mxe = s.mxe ∧ (State.winDiscard s).dsc = s.dsc ∧ (State.winDiscard s).fca = s.fca ∧ (State.winDiscard s).cdx = s.cdx ∧ (State.winDiscard s).spe = s.spe ∧ (State.winDiscard s).hum = s.hum ∧ (State.winDiscard s).bpm = s.bpm ∧ (State.winDiscard s).dmc = s.dmc ∧ (State.winDiscard s).ccl = s.ccl ∧ (State.winDiscard s).csu = s.csu ∧ (State.winDiscard s).mgp = s.mgp ∧ (State.winDiscard s).cru = s.cru :=
  have h := (State.winDiscard_touch _ (by simp) (Touch.refl 2048 _))
  ⟨h.pending, h.out rfl, h.freeCnt rfl, h.timers rfl, h.tbu rfl, h.power rfl, h.regf rfl, h.sheet rfl, h.sheetOld rfl, h.hlu rfl, h.qen rfl, h.tnu rfl, h.mxe rfl, h.dsc rfl, h.fca rfl, h.cdx rfl, h.spe rfl, h.hum rfl, h.bpm rfl, h.dmc rfl, h.ccl rfl, h.csu rfl, h.mgp rfl, h.cru rfl⟩

@[simp] theorem State.galError_units (win : Option Nat) (bit : Nat) (s : State) :
    (State.galError win bit s).pending = s.pending ∧ (State.galError win bit s).out = s.out ∧ (State.galError win bit s).freeCnt = s.freeCnt ∧ (State.galError win bit s).timers = s.timers ∧ (State.galError win bit s).tbu = s.tbu ∧ (State.galError win bit s).power = s.power ∧ (State.galError win bit s).sheet = s.sheet ∧ (State.galError win bit s).sheetOld = s.sheetOld ∧ (State.galError win bit s).hlu = s.hlu ∧ (State.galError win bit s).qen = s.qen ∧ (State.galError win bit s).tnu = s.tnu ∧ (State.galError win bit s).mxe = s.mxe ∧ (State.galError win bit s).dsc = s.dsc ∧ (State.galError win bit s).fca = s.fca ∧ (State.galError win bit s).cdx = s.cdx ∧ (State.galError win bit s).spe = s.spe ∧ (State.galError win bit s).hum = s.hum ∧ (State.galError win bit s).bpm = s.bpm ∧ (State.galError win bit s).dmc = s.dmc ∧ (State.galError win bit s).ccl = s.ccl ∧ (State.galError win bit s).csu = s.csu ∧ (State.galError win bit s).mgp = s.mgp :=
  have h := (State.galError_touch _ _ _ (by simp) (Touch.refl 8390688 _))
  ⟨h.pending, h.out rfl, h.freeCnt rfl, h.timers rfl, h.tbu rfl, h.power rfl, h.sheet rfl, h.sheetOld rfl, h.hlu rfl, h.qen rfl, h.tnu rfl, h.mxe rfl, h.dsc rfl, h.fca rfl, h.cdx rfl, h.spe rfl, h.hum rfl, h.bpm rfl, h.dmc rfl, h.ccl rfl, h.csu rfl, h.mgp rfl⟩

@[simp] theorem State.galRefuse_units (win : Option Nat) (bit : Nat) (np : Bool) (s : State) :
    (State.galRefuse win bit np s).pending = s.pending ∧ (State.galRefuse win bit np s).freeCnt = s.freeCnt ∧ (State.galRefuse win bit np s).timers = s.timers ∧ (State.galRefuse win bit np s).tbu = s.tbu ∧ (State.galRefuse win bit np s).power = s.power ∧ (State.galRefuse win bit np s).sheet = s.sheet ∧ (State.galRefuse win bit np s).sheetOld = s.sheetOld ∧ (State.galRefuse win bit np s).qen = s.qen ∧ (State.galRefuse win bit np s).tnu = s.tnu ∧ (State.galRefuse win bit np s).mxe = s.mxe ∧ (State.galRefuse win bit np s).dsc = s.dsc ∧ (State.galRefuse win bit np s).fca = s.fca ∧ (State.galRefuse win bit np s).cdx = s.cdx ∧ (State.galRefuse win bit np s).spe = s.spe ∧ (State.galRefuse win bit np s).hum = s.hum ∧ (State.galRefuse win bit np s).bpm = s.bpm ∧ (State.galRefuse win bit np s).dmc = s.dmc ∧ (State.galRefuse win bit np s).ccl = s.ccl ∧ (State.galRefuse win bit np s).csu = s.csu ∧ (State.galRefuse win bit np s).mgp = s.mgp :=
  have h := (State.galRefuse_touch _ _ _ _ (by simp) (Touch.refl 8390945 _))
  ⟨h.pending, h.freeCnt rfl, h.timers rfl, h.tbu rfl, h.power rfl, h.sheet rfl, h.sheetOld rfl, h.qen rfl, h.tnu rfl, h.mxe rfl, h.dsc rfl, h.fca rfl, h.cdx rfl, h.spe rfl, h.hum rfl, h.bpm rfl, h.dmc rfl, h.ccl rfl, h.csu rfl, h.mgp rfl⟩

@[simp] theorem State.galFault_units (n : Nat) (s : State) :
    (State.galFault n s).pending = s.pending ∧ (State.galFault n s).out = s.out ∧ (State.galFault n s).freeCnt = s.freeCnt ∧ (State.galFault n s).timers = s.timers ∧ (State.galFault n s).tbu = s.tbu ∧ (State.galFault n s).power = s.power ∧ (State.galFault n s).regf = s.regf ∧ (State.galFault n s).sheet = s.sheet ∧ (State.galFault n s).sheetOld = s.sheetOld ∧ (State.galFault n s).hlu = s.hlu ∧ (State.galFault n s).qen = s.qen ∧ (State.galFault n s).tnu = s.tnu ∧ (State.galFault n s).mxe = s.mxe ∧ (State.galFault n s).dsc = s.dsc ∧ (State.galFault n s).fca = s.fca ∧ (State.galFault n s).cdx = s.cdx ∧ (State.galFault n s).spe = s.spe ∧ (State.galFault n s).hum = s.hum ∧ (State.galFault n s).bpm = s.bpm ∧ (State.galFault n s).dmc = s.dmc ∧ (State.galFault n s).ccl = s.ccl ∧ (State.galFault n s).csu = s.csu ∧ (State.galFault n s).mgp = s.mgp ∧ (State.galFault n s).cru = s.cru :=
  have h := (State.galFault_touch _ _ (by simp) (Touch.refl 2048 _))
  ⟨h.pending, h.out rfl, h.freeCnt rfl, h.timers rfl, h.tbu rfl, h.power rfl, h.regf rfl, h.sheet rfl, h.sheetOld rfl, h.hlu rfl, h.qen rfl, h.tnu rfl, h.mxe rfl, h.dsc rfl, h.fca rfl, h.cdx rfl, h.spe rfl, h.hum rfl, h.bpm rfl, h.dmc rfl, h.ccl rfl, h.csu rfl, h.mgp rfl, h.cru rfl⟩

@[simp] theorem State.galPoison_units (off : Nat) (s : State) :
    (State.galPoison off s).pending = s.pending ∧ (State.galPoison off s).freeCnt = s.freeCnt ∧ (State.galPoison off s).timers = s.timers ∧ (State.galPoison off s).tbu = s.tbu ∧ (State.galPoison off s).power = s.power ∧ (State.galPoison off s).sheet = s.sheet ∧ (State.galPoison off s).sheetOld = s.sheetOld ∧ (State.galPoison off s).qen = s.qen ∧ (State.galPoison off s).tnu = s.tnu ∧ (State.galPoison off s).mxe = s.mxe ∧ (State.galPoison off s).dsc = s.dsc ∧ (State.galPoison off s).fca = s.fca ∧ (State.galPoison off s).cdx = s.cdx ∧ (State.galPoison off s).spe = s.spe ∧ (State.galPoison off s).hum = s.hum ∧ (State.galPoison off s).bpm = s.bpm ∧ (State.galPoison off s).dmc = s.dmc ∧ (State.galPoison off s).ccl = s.ccl ∧ (State.galPoison off s).csu = s.csu ∧ (State.galPoison off s).mgp = s.mgp :=
  have h := (State.galPoison_touch _ _ (by simp) (Touch.refl 8390945 _))
  ⟨h.pending, h.freeCnt rfl, h.timers rfl, h.tbu rfl, h.power rfl, h.sheet rfl, h.sheetOld rfl, h.qen rfl, h.tnu rfl, h.mxe rfl, h.dsc rfl, h.fca rfl, h.cdx rfl, h.spe rfl, h.hum rfl, h.bpm rfl, h.dmc rfl, h.ccl rfl, h.csu rfl, h.mgp rfl⟩

@[simp] theorem State.writePiece_units (n : Nat) (w : Window) (fn rel : Nat) (piece : List Byte) (s : State) :
    (State.writePiece n w fn rel piece s).pending = s.pending ∧ (State.writePiece n w fn rel piece s).out = s.out ∧ (State.writePiece n w fn rel piece s).freeCnt = s.freeCnt ∧ (State.writePiece n w fn rel piece s).timers = s.timers ∧ (State.writePiece n w fn rel piece s).tbu = s.tbu ∧ (State.writePiece n w fn rel piece s).power = s.power ∧ (State.writePiece n w fn rel piece s).regf = s.regf ∧ (State.writePiece n w fn rel piece s).sheet = s.sheet ∧ (State.writePiece n w fn rel piece s).sheetOld = s.sheetOld ∧ (State.writePiece n w fn rel piece s).hlu = s.hlu ∧ (State.writePiece n w fn rel piece s).qen = s.qen ∧ (State.writePiece n w fn rel piece s).tnu = s.tnu ∧ (State.writePiece n w fn rel piece s).mxe = s.mxe ∧ (State.writePiece n w fn rel piece s).dsc = s.dsc ∧ (State.writePiece n w fn rel piece s).fca = s.fca ∧ (State.writePiece n w fn rel piece s).cdx = s.cdx ∧ (State.writePiece n w fn rel piece s).spe = s.spe ∧ (State.writePiece n w fn rel piece s).hum = s.hum ∧ (State.writePiece n w fn rel piece s).bpm = s.bpm ∧ (State.writePiece n w fn rel piece s).dmc = s.dmc ∧ (State.writePiece n w fn rel piece s).ccl = s.ccl ∧ (State.writePiece n w fn rel piece s).csu = s.csu ∧ (State.writePiece n w fn rel piece s).mgp = s.mgp ∧ (State.writePiece n w fn rel piece s).cru = s.cru :=
  have h := (State.writePiece_touch _ _ _ _ _ _ (by simp) (Touch.refl 2048 _))
  ⟨h.pending, h.out rfl, h.freeCnt rfl, h.timers rfl, h.tbu rfl, h.power rfl, h.regf rfl, h.sheet rfl, h.sheetOld rfl, h.hlu rfl, h.qen rfl, h.tnu rfl, h.mxe rfl, h.dsc rfl, h.fca rfl, h.cdx rfl, h.spe rfl, h.hum rfl, h.bpm rfl, h.dmc rfl, h.ccl rfl, h.csu rfl, h.mgp rfl, h.cru rfl⟩

@[simp] theorem State.writePieces_units (n : Nat) (w : Window) (fn rel k : Nat) (bs : List Byte) (s : State) :
    (State.writePieces n w fn rel k bs s).pending = s.pending ∧ (State.writePieces n w fn rel k bs s).out = s.out ∧ (State.writePieces n w fn rel k bs s).freeCnt = s.freeCnt ∧ (State.writePieces n w fn rel k bs s).timers = s.timers ∧ (State.writePieces n w fn rel k bs s).tbu = s.tbu ∧ (State.writePieces n w fn rel k bs s).power = s.power ∧ (State.writePieces n w fn rel k bs s).regf = s.regf ∧ (State.writePieces n w fn rel k bs s).sheet = s.sheet ∧ (State.writePieces n w fn rel k bs s).sheetOld = s.sheetOld ∧ (State.writePieces n w fn rel k bs s).hlu = s.hlu ∧ (State.writePieces n w fn rel k bs s).qen = s.qen ∧ (State.writePieces n w fn rel k bs s).tnu = s.tnu ∧ (State.writePieces n w fn rel k bs s).mxe = s.mxe ∧ (State.writePieces n w fn rel k bs s).dsc = s.dsc ∧ (State.writePieces n w fn rel k bs s).fca = s.fca ∧ (State.writePieces n w fn rel k bs s).cdx = s.cdx ∧ (State.writePieces n w fn rel k bs s).spe = s.spe ∧ (State.writePieces n w fn rel k bs s).hum = s.hum ∧ (State.writePieces n w fn rel k bs s).bpm = s.bpm ∧ (State.writePieces n w fn rel k bs s).dmc = s.dmc ∧ (State.writePieces n w fn rel k bs s).ccl = s.ccl ∧ (State.writePieces n w fn rel k bs s).csu = s.csu ∧ (State.writePieces n w fn rel k bs s).mgp = s.mgp ∧ (State.writePieces n w fn rel k bs s).cru = s.cru :=
  have h := (State.writePieces_touch _ _ _ _ _ _ _ (by simp) (Touch.refl 2048 _))
  ⟨h.pending, h.out rfl, h.freeCnt rfl, h.timers rfl, h.tbu rfl, h.power rfl, h.regf rfl, h.sheet rfl, h.sheetOld rfl, h.hlu rfl, h.qen rfl, h.tnu rfl, h.mxe rfl, h.dsc rfl, h.fca rfl, h.cdx rfl, h.spe rfl, h.hum rfl, h.bpm rfl, h.dmc rfl, h.ccl rfl, h.csu rfl, h.mgp rfl, h.cru rfl⟩

@[simp] theorem State.galClean_units (n rel len : Nat) (s : State) :
    (State.galClean n rel len s).pending = s.pending ∧ (State.galClean n rel len s).out = s.out ∧ (State.galClean n rel len s).freeCnt = s.freeCnt ∧ (State.galClean n rel len s).timers = s.timers ∧ (State.galClean n rel len s).tbu = s.tbu ∧ (State.galClean n rel len s).power = s.power ∧ (State.galClean n rel len s).regf = s.regf ∧ (State.galClean n rel len s).sheet = s.sheet ∧ (State.galClean n rel len s).sheetOld = s.sheetOld ∧ (State.galClean n rel len s).hlu = s.hlu ∧ (State.galClean n rel len s).qen = s.qen ∧ (State.galClean n rel len s).tnu = s.tnu ∧ (State.galClean n rel len s).gal = s.gal ∧ (State.galClean n rel len s).mxe = s.mxe ∧ (State.galClean n rel len s).dsc = s.dsc ∧ (State.galClean n rel len s).fca = s.fca ∧ (State.galClean n rel len s).cdx = s.cdx ∧ (State.galClean n rel len s).spe = s.spe ∧ (State.galClean n rel len s).hum = s.hum ∧ (State.galClean n rel len s).bpm = s.bpm ∧ (State.galClean n rel len s).ccl = s.ccl ∧ (State.galClean n rel len s).csu = s.csu ∧ (State.galClean n rel len s).mgp = s.mgp ∧ (State.galClean n rel len s).cru = s.cru :=
  have h := (State.galClean_touch _ _ _ _ (by simp) (Touch.refl 524288 _))
  ⟨h.pending, h.out rfl, h.freeCnt rfl, h.timers rfl, h.tbu rfl, h.power rfl, h.regf rfl, h.sheet rfl, h.sheetOld rfl, h.hlu rfl, h.qen rfl, h.tnu rfl, h.gal rfl, h.mxe rfl, h.dsc rfl, h.fca rfl, h.cdx rfl, h.spe rfl, h.hum rfl, h.bpm rfl, h.ccl rfl, h.csu rfl, h.mgp rfl, h.cru rfl⟩

@[simp] theorem State.galStore_units (n : Nat) (w : Window) (fn rel : Nat) (bytes : List Byte) (s : State) :
    (State.galStore n w fn rel bytes s).pending = s.pending ∧ (State.galStore n w fn rel bytes s).out = s.out ∧ (State.galStore n w fn rel bytes s).freeCnt = s.freeCnt ∧ (State.galStore n w fn rel bytes s).timers = s.timers ∧ (State.galStore n w fn rel bytes s).tbu = s.tbu ∧ (State.galStore n w fn rel bytes s).power = s.power ∧ (State.galStore n w fn rel bytes s).regf = s.regf ∧ (State.galStore n w fn rel bytes s).sheet = s.sheet ∧ (State.galStore n w fn rel bytes s).sheetOld = s.sheetOld ∧ (State.galStore n w fn rel bytes s).hlu = s.hlu ∧ (State.galStore n w fn rel bytes s).qen = s.qen ∧ (State.galStore n w fn rel bytes s).tnu = s.tnu ∧ (State.galStore n w fn rel bytes s).mxe = s.mxe ∧ (State.galStore n w fn rel bytes s).dsc = s.dsc ∧ (State.galStore n w fn rel bytes s).fca = s.fca ∧ (State.galStore n w fn rel bytes s).cdx = s.cdx ∧ (State.galStore n w fn rel bytes s).spe = s.spe ∧ (State.galStore n w fn rel bytes s).hum = s.hum ∧ (State.galStore n w fn rel bytes s).bpm = s.bpm ∧ (State.galStore n w fn rel bytes s).ccl = s.ccl ∧ (State.galStore n w fn rel bytes s).csu = s.csu ∧ (State.galStore n w fn rel bytes s).mgp = s.mgp ∧ (State.galStore n w fn rel bytes s).cru = s.cru :=
  have h := (State.galStore_touch _ _ _ _ _ _ (by simp) (Touch.refl 526336 _))
  ⟨h.pending, h.out rfl, h.freeCnt rfl, h.timers rfl, h.tbu rfl, h.power rfl, h.regf rfl, h.sheet rfl, h.sheetOld rfl, h.hlu rfl, h.qen rfl, h.tnu rfl, h.mxe rfl, h.dsc rfl, h.fca rfl, h.cdx rfl, h.spe rfl, h.hum rfl, h.bpm rfl, h.ccl rfl, h.csu rfl, h.mgp rfl, h.cru rfl⟩

@[simp] theorem State.galWrite_units (n : Nat) (w : Window) (t : PeerTlp) (bytes : List Byte) (s : State) :
    (State.galWrite n w t bytes s).pending = s.pending ∧ (State.galWrite n w t bytes s).freeCnt = s.freeCnt ∧ (State.galWrite n w t bytes s).timers = s.timers ∧ (State.galWrite n w t bytes s).tbu = s.tbu ∧ (State.galWrite n w t bytes s).power = s.power ∧ (State.galWrite n w t bytes s).sheet = s.sheet ∧ (State.galWrite n w t bytes s).sheetOld = s.sheetOld ∧ (State.galWrite n w t bytes s).qen = s.qen ∧ (State.galWrite n w t bytes s).tnu = s.tnu ∧ (State.galWrite n w t bytes s).mxe = s.mxe ∧ (State.galWrite n w t bytes s).dsc = s.dsc ∧ (State.galWrite n w t bytes s).fca = s.fca ∧ (State.galWrite n w t bytes s).cdx = s.cdx ∧ (State.galWrite n w t bytes s).spe = s.spe ∧ (State.galWrite n w t bytes s).hum = s.hum ∧ (State.galWrite n w t bytes s).bpm = s.bpm ∧ (State.galWrite n w t bytes s).ccl = s.ccl ∧ (State.galWrite n w t bytes s).csu = s.csu ∧ (State.galWrite n w t bytes s).mgp = s.mgp :=
  have h := (State.galWrite_touch _ _ _ _ _ (by simp) (Touch.refl 8915233 _))
  ⟨h.pending, h.freeCnt rfl, h.timers rfl, h.tbu rfl, h.power rfl, h.sheet rfl, h.sheetOld rfl, h.qen rfl, h.tnu rfl, h.mxe rfl, h.dsc rfl, h.fca rfl, h.cdx rfl, h.spe rfl, h.hum rfl, h.bpm rfl, h.ccl rfl, h.csu rfl, h.mgp rfl⟩

@[simp] theorem State.galWriteIn_units (t : PeerTlp) (bytes : List Byte) (s : State) :
    (State.galWriteIn t bytes s).pending = s.pending ∧ (State.galWriteIn t bytes s).freeCnt = s.freeCnt ∧ (State.galWriteIn t bytes s).timers = s.timers ∧ (State.galWriteIn t bytes s).tbu = s.tbu ∧ (State.galWriteIn t bytes s).power = s.power ∧ (State.galWriteIn t bytes s).sheet = s.sheet ∧ (State.galWriteIn t bytes s).sheetOld = s.sheetOld ∧ (State.galWriteIn t bytes s).qen = s.qen ∧ (State.galWriteIn t bytes s).tnu = s.tnu ∧ (State.galWriteIn t bytes s).mxe = s.mxe ∧ (State.galWriteIn t bytes s).dsc = s.dsc ∧ (State.galWriteIn t bytes s).fca = s.fca ∧ (State.galWriteIn t bytes s).cdx = s.cdx ∧ (State.galWriteIn t bytes s).spe = s.spe ∧ (State.galWriteIn t bytes s).hum = s.hum ∧ (State.galWriteIn t bytes s).bpm = s.bpm ∧ (State.galWriteIn t bytes s).ccl = s.ccl ∧ (State.galWriteIn t bytes s).csu = s.csu ∧ (State.galWriteIn t bytes s).mgp = s.mgp :=
  have h := (State.galWriteIn_touch _ _ _ (by simp) (Touch.refl 8915233 _))
  ⟨h.pending, h.freeCnt rfl, h.timers rfl, h.tbu rfl, h.power rfl, h.sheet rfl, h.sheetOld rfl, h.qen rfl, h.tnu rfl, h.mxe rfl, h.dsc rfl, h.fca rfl, h.cdx rfl, h.spe rfl, h.hum rfl, h.bpm rfl, h.ccl rfl, h.csu rfl, h.mgp rfl⟩

@[simp] theorem State.galLbaRun_units (r : PeerRead) (c : Nat) (w : Window) (x : Namespace) (s : State) :
    (State.galLbaRun r c w x s).pending = s.pending ∧ (State.galLbaRun r c w x s).freeCnt = s.freeCnt ∧ (State.galLbaRun r c w x s).timers = s.timers ∧ (State.galLbaRun r c w x s).tbu = s.tbu ∧ (State.galLbaRun r c w x s).power = s.power ∧ (State.galLbaRun r c w x s).sheet = s.sheet ∧ (State.galLbaRun r c w x s).sheetOld = s.sheetOld ∧ (State.galLbaRun r c w x s).gal = s.gal ∧ (State.galLbaRun r c w x s).mxe = s.mxe ∧ (State.galLbaRun r c w x s).dsc = s.dsc ∧ (State.galLbaRun r c w x s).fca = s.fca ∧ (State.galLbaRun r c w x s).cdx = s.cdx ∧ (State.galLbaRun r c w x s).spe = s.spe ∧ (State.galLbaRun r c w x s).hum = s.hum ∧ (State.galLbaRun r c w x s).dmc = s.dmc ∧ (State.galLbaRun r c w x s).csu = s.csu :=
  have h := (State.galLbaRun_touch _ _ _ _ _ (by simp) (Touch.refl 13895457 _))
  ⟨h.pending, h.freeCnt rfl, h.timers rfl, h.tbu rfl, h.power rfl, h.sheet rfl, h.sheetOld rfl, h.gal rfl, h.mxe rfl, h.dsc rfl, h.fca rfl, h.cdx rfl, h.spe rfl, h.hum rfl, h.dmc rfl, h.csu rfl⟩

@[simp] theorem State.galReads_units (k : Nat) (s : State) :
    (State.galReads k s).pending = s.pending ∧ (State.galReads k s).freeCnt = s.freeCnt ∧ (State.galReads k s).timers = s.timers ∧ (State.galReads k s).tbu = s.tbu ∧ (State.galReads k s).power = s.power ∧ (State.galReads k s).sheet = s.sheet ∧ (State.galReads k s).sheetOld = s.sheetOld ∧ (State.galReads k s).mxe = s.mxe ∧ (State.galReads k s).dsc = s.dsc ∧ (State.galReads k s).fca = s.fca ∧ (State.galReads k s).cdx = s.cdx ∧ (State.galReads k s).spe = s.spe ∧ (State.galReads k s).hum = s.hum ∧ (State.galReads k s).dmc = s.dmc ∧ (State.galReads k s).csu = s.csu :=
  have h := (State.galReads_touch _ _ (by simp) (Touch.refl 13897505 _))
  ⟨h.pending, h.freeCnt rfl, h.timers rfl, h.tbu rfl, h.power rfl, h.sheet rfl, h.sheetOld rfl, h.mxe rfl, h.dsc rfl, h.fca rfl, h.cdx rfl, h.spe rfl, h.hum rfl, h.dmc rfl, h.csu rfl⟩

@[simp] theorem State.galLbaRead_units (n fn rel len : Nat) (s : State) :
    (State.galLbaRead n fn rel len s).pending = s.pending ∧ (State.galLbaRead n fn rel len s).freeCnt = s.freeCnt ∧ (State.galLbaRead n fn rel len s).timers = s.timers ∧ (State.galLbaRead n fn rel len s).tbu = s.tbu ∧ (State.galLbaRead n fn rel len s).power = s.power ∧ (State.galLbaRead n fn rel len s).sheet = s.sheet ∧ (State.galLbaRead n fn rel len s).sheetOld = s.sheetOld ∧ (State.galLbaRead n fn rel len s).mxe = s.mxe ∧ (State.galLbaRead n fn rel len s).dsc = s.dsc ∧ (State.galLbaRead n fn rel len s).fca = s.fca ∧ (State.galLbaRead n fn rel len s).cdx = s.cdx ∧ (State.galLbaRead n fn rel len s).spe = s.spe ∧ (State.galLbaRead n fn rel len s).hum = s.hum ∧ (State.galLbaRead n fn rel len s).dmc = s.dmc ∧ (State.galLbaRead n fn rel len s).csu = s.csu :=
  have h := (State.galLbaRead_touch _ _ _ _ _ (by simp) (Touch.refl 13897505 _))
  ⟨h.pending, h.freeCnt rfl, h.timers rfl, h.tbu rfl, h.power rfl, h.sheet rfl, h.sheetOld rfl, h.mxe rfl, h.dsc rfl, h.fca rfl, h.cdx rfl, h.spe rfl, h.hum rfl, h.dmc rfl, h.csu rfl⟩

@[simp] theorem State.unitWrites_units (k : Nat) (s : State) :
    (State.unitWrites k s).pending = s.pending ∧ (State.unitWrites k s).freeCnt = s.freeCnt ∧ (State.unitWrites k s).timers = s.timers ∧ (State.unitWrites k s).tbu = s.tbu ∧ (State.unitWrites k s).power = s.power ∧ (State.unitWrites k s).sheet = s.sheet ∧ (State.unitWrites k s).sheetOld = s.sheetOld ∧ (State.unitWrites k s).hlu = s.hlu ∧ (State.unitWrites k s).mxe = s.mxe ∧ (State.unitWrites k s).dsc = s.dsc ∧ (State.unitWrites k s).fca = s.fca ∧ (State.unitWrites k s).cdx = s.cdx ∧ (State.unitWrites k s).spe = s.spe ∧ (State.unitWrites k s).hum = s.hum ∧ (State.unitWrites k s).dmc = s.dmc ∧ (State.unitWrites k s).ccl = s.ccl ∧ (State.unitWrites k s).csu = s.csu ∧ (State.unitWrites k s).mgp = s.mgp ∧ (State.unitWrites k s).cru = s.cru :=
  have h := (State.unitWrites_touch _ _ (by simp) (Touch.refl 265761 _))
  ⟨h.pending, h.freeCnt rfl, h.timers rfl, h.tbu rfl, h.power rfl, h.sheet rfl, h.sheetOld rfl, h.hlu rfl, h.mxe rfl, h.dsc rfl, h.fca rfl, h.cdx rfl, h.spe rfl, h.hum rfl, h.dmc rfl, h.ccl rfl, h.csu rfl, h.mgp rfl, h.cru rfl⟩

@[simp] theorem State.galFinish_units (s : State) (e : Nat × Ctx) :
    (State.galFinish s e).pending = s.pending ∧ (State.galFinish s e).freeCnt = s.freeCnt ∧ (State.galFinish s e).timers = s.timers ∧ (State.galFinish s e).tbu = s.tbu ∧ (State.galFinish s e).power = s.power ∧ (State.galFinish s e).sheet = s.sheet ∧ (State.galFinish s e).sheetOld = s.sheetOld ∧ (State.galFinish s e).hlu = s.hlu ∧ (State.galFinish s e).tnu = s.tnu ∧ (State.galFinish s e).dsc = s.dsc ∧ (State.galFinish s e).fca = s.fca ∧ (State.galFinish s e).cdx = s.cdx ∧ (State.galFinish s e).spe = s.spe ∧ (State.galFinish s e).hum = s.hum ∧ (State.galFinish s e).dmc = s.dmc ∧ (State.galFinish s e).csu = s.csu :=
  have h := (State.galFinish_touch _ _ (by simp) (Touch.refl 13900321 _))
  ⟨h.pending, h.freeCnt rfl, h.timers rfl, h.tbu rfl, h.power rfl, h.sheet rfl, h.sheetOld rfl, h.hlu rfl, h.tnu rfl, h.dsc rfl, h.fca rfl, h.cdx rfl, h.spe rfl, h.hum rfl, h.dmc rfl, h.csu rfl⟩

@[simp] theorem State.galDone_units (s : State) :
    (State.galDone s).pending = s.pending ∧ (State.galDone s).freeCnt = s.freeCnt ∧ (State.galDone s).timers = s.timers ∧ (State.galDone s).tbu = s.tbu ∧ (State.galDone s).power = s.power ∧ (State.galDone s).sheet = s.sheet ∧ (State.galDone s).sheetOld = s.sheetOld ∧ (State.galDone s).hlu = s.hlu ∧ (State.galDone s).tnu = s.tnu ∧ (State.galDone s).dsc = s.dsc ∧ (State.galDone s).fca = s.fca ∧ (State.galDone s).cdx = s.cdx ∧ (State.galDone s).spe = s.spe ∧ (State.galDone s).hum = s.hum ∧ (State.galDone s).dmc = s.dmc ∧ (State.galDone s).csu = s.csu :=
  have h := (State.galDone_touch _ (by simp) (Touch.refl 13900321 _))
  ⟨h.pending, h.freeCnt rfl, h.timers rfl, h.tbu rfl, h.power rfl, h.sheet rfl, h.sheetOld rfl, h.hlu rfl, h.tnu rfl, h.dsc rfl, h.fca rfl, h.cdx rfl, h.spe rfl, h.hum rfl, h.dmc rfl, h.csu rfl⟩

@[simp] theorem State.fenceSweep_units (s : State) :
    (State.fenceSweep s).pending = s.pending ∧ (State.fenceSweep s).out = s.out ∧ (State.fenceSweep s).freeCnt = s.freeCnt ∧ (State.fenceSweep s).timers = s.timers ∧ (State.fenceSweep s).tbu = s.tbu ∧ (State.fenceSweep s).power = s.power ∧ (State.fenceSweep s).regf = s.regf ∧ (State.fenceSweep s).sheet = s.sheet ∧ (State.fenceSweep s).sheetOld = s.sheetOld ∧ (State.fenceSweep s).hlu = s.hlu ∧ (State.fenceSweep s).qen = s.qen ∧ (State.fenceSweep s).tnu = s.tnu ∧ (State.fenceSweep s).mxe = s.mxe ∧ (State.fenceSweep s).dsc = s.dsc ∧ (State.fenceSweep s).fca = s.fca ∧ (State.fenceSweep s).cdx = s.cdx ∧ (State.fenceSweep s).spe = s.spe ∧ (State.fenceSweep s).hum = s.hum ∧ (State.fenceSweep s).bpm = s.bpm ∧ (State.fenceSweep s).dmc = s.dmc ∧ (State.fenceSweep s).ccl = s.ccl ∧ (State.fenceSweep s).csu = s.csu ∧ (State.fenceSweep s).mgp = s.mgp ∧ (State.fenceSweep s).cru = s.cru :=
  have h := (State.fenceSweep_touch _ (by simp) (Touch.refl 2048 _))
  ⟨h.pending, h.out rfl, h.freeCnt rfl, h.timers rfl, h.tbu rfl, h.power rfl, h.regf rfl, h.sheet rfl, h.sheetOld rfl, h.hlu rfl, h.qen rfl, h.tnu rfl, h.mxe rfl, h.dsc rfl, h.fca rfl, h.cdx rfl, h.spe rfl, h.hum rfl, h.bpm rfl, h.dmc rfl, h.ccl rfl, h.csu rfl, h.mgp rfl, h.cru rfl⟩

@[simp] theorem State.galTick_units (s : State) :
    (State.galTick s).pending = s.pending ∧ (State.galTick s).freeCnt = s.freeCnt ∧ (State.galTick s).timers = s.timers ∧ (State.galTick s).tbu = s.tbu ∧ (State.galTick s).power = s.power ∧ (State.galTick s).sheet = s.sheet ∧ (State.galTick s).sheetOld = s.sheetOld ∧ (State.galTick s).dsc = s.dsc ∧ (State.galTick s).fca = s.fca ∧ (State.galTick s).cdx = s.cdx ∧ (State.galTick s).spe = s.spe ∧ (State.galTick s).hum = s.hum ∧ (State.galTick s).dmc = s.dmc ∧ (State.galTick s).csu = s.csu :=
  have h := (State.galTick_touch _ (by simp) (Touch.refl 13901601 _))
  ⟨h.pending, h.freeCnt rfl, h.timers rfl, h.tbu rfl, h.power rfl, h.sheet rfl, h.sheetOld rfl, h.dsc rfl, h.fca rfl, h.cdx rfl, h.spe rfl, h.hum rfl, h.dmc rfl, h.csu rfl⟩

@[simp] theorem State.clearBursts_units (p : Nat → Bool) (s : State) :
    (State.clearBursts p s).pending = s.pending ∧ (State.clearBursts p s).out = s.out ∧ (State.clearBursts p s).freeCnt = s.freeCnt ∧ (State.clearBursts p s).timers = s.timers ∧ (State.clearBursts p s).tbu = s.tbu ∧ (State.clearBursts p s).power = s.power ∧ (State.clearBursts p s).regf = s.regf ∧ (State.clearBursts p s).sheet = s.sheet ∧ (State.clearBursts p s).sheetOld = s.sheetOld ∧ (State.clearBursts p s).hlu = s.hlu ∧ (State.clearBursts p s).qen = s.qen ∧ (State.clearBursts p s).tnu = s.tnu ∧ (State.clearBursts p s).gal = s.gal ∧ (State.clearBursts p s).mxe = s.mxe ∧ (State.clearBursts p s).dsc = s.dsc ∧ (State.clearBursts p s).fca = s.fca ∧ (State.clearBursts p s).cdx = s.cdx ∧ (State.clearBursts p s).spe = s.spe ∧ (State.clearBursts p s).hum = s.hum ∧ (State.clearBursts p s).bpm = s.bpm ∧ (State.clearBursts p s).ccl = s.ccl ∧ (State.clearBursts p s).csu = s.csu ∧ (State.clearBursts p s).mgp = s.mgp ∧ (State.clearBursts p s).cru = s.cru :=
  have h := (State.clearBursts_touch _ _ (by simp) (Touch.refl 524288 _))
  ⟨h.pending, h.out rfl, h.freeCnt rfl, h.timers rfl, h.tbu rfl, h.power rfl, h.regf rfl, h.sheet rfl, h.sheetOld rfl, h.hlu rfl, h.qen rfl, h.tnu rfl, h.gal rfl, h.mxe rfl, h.dsc rfl, h.fca rfl, h.cdx rfl, h.spe rfl, h.hum rfl, h.bpm rfl, h.ccl rfl, h.csu rfl, h.mgp rfl, h.cru rfl⟩

@[simp] theorem State.galSliceReset_units (n : Nat) (s : State) :
    (State.galSliceReset n s).pending = s.pending ∧ (State.galSliceReset n s).freeCnt = s.freeCnt ∧ (State.galSliceReset n s).timers = s.timers ∧ (State.galSliceReset n s).tbu = s.tbu ∧ (State.galSliceReset n s).power = s.power ∧ (State.galSliceReset n s).sheet = s.sheet ∧ (State.galSliceReset n s).sheetOld = s.sheetOld ∧ (State.galSliceReset n s).tnu = s.tnu ∧ (State.galSliceReset n s).mxe = s.mxe ∧ (State.galSliceReset n s).dsc = s.dsc ∧ (State.galSliceReset n s).fca = s.fca ∧ (State.galSliceReset n s).cdx = s.cdx ∧ (State.galSliceReset n s).spe = s.spe ∧ (State.galSliceReset n s).hum = s.hum ∧ (State.galSliceReset n s).csu = s.csu :=
  have h := (State.galSliceReset_touch _ _ (by simp) (Touch.refl 14420769 _))
  ⟨h.pending, h.freeCnt rfl, h.timers rfl, h.tbu rfl, h.power rfl, h.sheet rfl, h.sheetOld rfl, h.tnu rfl, h.mxe rfl, h.dsc rfl, h.fca rfl, h.cdx rfl, h.spe rfl, h.hum rfl, h.csu rfl⟩

@[simp] theorem State.galReload_units (s : State) :
    (State.galReload s).pending = s.pending ∧ (State.galReload s).out = s.out ∧ (State.galReload s).freeCnt = s.freeCnt ∧ (State.galReload s).timers = s.timers ∧ (State.galReload s).tbu = s.tbu ∧ (State.galReload s).power = s.power ∧ (State.galReload s).regf = s.regf ∧ (State.galReload s).sheet = s.sheet ∧ (State.galReload s).sheetOld = s.sheetOld ∧ (State.galReload s).hlu = s.hlu ∧ (State.galReload s).qen = s.qen ∧ (State.galReload s).tnu = s.tnu ∧ (State.galReload s).mxe = s.mxe ∧ (State.galReload s).dsc = s.dsc ∧ (State.galReload s).fca = s.fca ∧ (State.galReload s).cdx = s.cdx ∧ (State.galReload s).spe = s.spe ∧ (State.galReload s).hum = s.hum ∧ (State.galReload s).bpm = s.bpm ∧ (State.galReload s).dmc = s.dmc ∧ (State.galReload s).ccl = s.ccl ∧ (State.galReload s).csu = s.csu ∧ (State.galReload s).mgp = s.mgp ∧ (State.galReload s).cru = s.cru :=
  have h := (State.galReload_touch _ (by simp) (Touch.refl 2048 _))
  ⟨h.pending, h.out rfl, h.freeCnt rfl, h.timers rfl, h.tbu rfl, h.power rfl, h.regf rfl, h.sheet rfl, h.sheetOld rfl, h.hlu rfl, h.qen rfl, h.tnu rfl, h.mxe rfl, h.dsc rfl, h.fca rfl, h.cdx rfl, h.spe rfl, h.hum rfl, h.bpm rfl, h.dmc rfl, h.ccl rfl, h.csu rfl, h.mgp rfl, h.cru rfl⟩

@[simp] theorem State.refillSlice_units (s : State) (n : Nat) :
    (State.refillSlice s n).pending = s.pending ∧ (State.refillSlice s n).out = s.out ∧ (State.refillSlice s n).freeCnt = s.freeCnt ∧ (State.refillSlice s n).timers = s.timers ∧ (State.refillSlice s n).tbu = s.tbu ∧ (State.refillSlice s n).power = s.power ∧ (State.refillSlice s n).regf = s.regf ∧ (State.refillSlice s n).sheet = s.sheet ∧ (State.refillSlice s n).sheetOld = s.sheetOld ∧ (State.refillSlice s n).hlu = s.hlu ∧ (State.refillSlice s n).qen = s.qen ∧ (State.refillSlice s n).gal = s.gal ∧ (State.refillSlice s n).mxe = s.mxe ∧ (State.refillSlice s n).dsc = s.dsc ∧ (State.refillSlice s n).fca = s.fca ∧ (State.refillSlice s n).cdx = s.cdx ∧ (State.refillSlice s n).spe = s.spe ∧ (State.refillSlice s n).hum = s.hum ∧ (State.refillSlice s n).bpm = s.bpm ∧ (State.refillSlice s n).dmc = s.dmc ∧ (State.refillSlice s n).ccl = s.ccl ∧ (State.refillSlice s n).csu = s.csu ∧ (State.refillSlice s n).mgp = s.mgp ∧ (State.refillSlice s n).cru = s.cru :=
  have h := (State.refillSlice_touch _ _ (by simp) (Touch.refl 1024 _))
  ⟨h.pending, h.out rfl, h.freeCnt rfl, h.timers rfl, h.tbu rfl, h.power rfl, h.regf rfl, h.sheet rfl, h.sheetOld rfl, h.hlu rfl, h.qen rfl, h.gal rfl, h.mxe rfl, h.dsc rfl, h.fca rfl, h.cdx rfl, h.spe rfl, h.hum rfl, h.bpm rfl, h.dmc rfl, h.ccl rfl, h.csu rfl, h.mgp rfl, h.cru rfl⟩

@[simp] theorem State.floorSlice_units (s : State) (n : Nat) :
    (State.floorSlice s n).pending = s.pending ∧ (State.floorSlice s n).out = s.out ∧ (State.floorSlice s n).freeCnt = s.freeCnt ∧ (State.floorSlice s n).timers = s.timers ∧ (State.floorSlice s n).tbu = s.tbu ∧ (State.floorSlice s n).power = s.power ∧ (State.floorSlice s n).regf = s.regf ∧ (State.floorSlice s n).sheet = s.sheet ∧ (State.floorSlice s n).sheetOld = s.sheetOld ∧ (State.floorSlice s n).hlu = s.hlu ∧ (State.floorSlice s n).qen = s.qen ∧ (State.floorSlice s n).gal = s.gal ∧ (State.floorSlice s n).mxe = s.mxe ∧ (State.floorSlice s n).dsc = s.dsc ∧ (State.floorSlice s n).fca = s.fca ∧ (State.floorSlice s n).cdx = s.cdx ∧ (State.floorSlice s n).spe = s.spe ∧ (State.floorSlice s n).hum = s.hum ∧ (State.floorSlice s n).bpm = s.bpm ∧ (State.floorSlice s n).dmc = s.dmc ∧ (State.floorSlice s n).ccl = s.ccl ∧ (State.floorSlice s n).csu = s.csu ∧ (State.floorSlice s n).mgp = s.mgp ∧ (State.floorSlice s n).cru = s.cru :=
  have h := (State.floorSlice_touch _ _ (by simp) (Touch.refl 1024 _))
  ⟨h.pending, h.out rfl, h.freeCnt rfl, h.timers rfl, h.tbu rfl, h.power rfl, h.regf rfl, h.sheet rfl, h.sheetOld rfl, h.hlu rfl, h.qen rfl, h.gal rfl, h.mxe rfl, h.dsc rfl, h.fca rfl, h.cdx rfl, h.spe rfl, h.hum rfl, h.bpm rfl, h.dmc rfl, h.ccl rfl, h.csu rfl, h.mgp rfl, h.cru rfl⟩

@[simp] theorem State.commitSlice_units (n : Nat) (s : State) :
    (State.commitSlice n s).pending = s.pending ∧ (State.commitSlice n s).out = s.out ∧ (State.commitSlice n s).freeCnt = s.freeCnt ∧ (State.commitSlice n s).timers = s.timers ∧ (State.commitSlice n s).tbu = s.tbu ∧ (State.commitSlice n s).power = s.power ∧ (State.commitSlice n s).regf = s.regf ∧ (State.commitSlice n s).sheet = s.sheet ∧ (State.commitSlice n s).sheetOld = s.sheetOld ∧ (State.commitSlice n s).hlu = s.hlu ∧ (State.commitSlice n s).qen = s.qen ∧ (State.commitSlice n s).gal = s.gal ∧ (State.commitSlice n s).mxe = s.mxe ∧ (State.commitSlice n s).dsc = s.dsc ∧ (State.commitSlice n s).fca = s.fca ∧ (State.commitSlice n s).cdx = s.cdx ∧ (State.commitSlice n s).spe = s.spe ∧ (State.commitSlice n s).hum = s.hum ∧ (State.commitSlice n s).bpm = s.bpm ∧ (State.commitSlice n s).dmc = s.dmc ∧ (State.commitSlice n s).ccl = s.ccl ∧ (State.commitSlice n s).csu = s.csu ∧ (State.commitSlice n s).mgp = s.mgp ∧ (State.commitSlice n s).cru = s.cru :=
  have h := (State.commitSlice_touch _ _ (by simp) (Touch.refl 1024 _))
  ⟨h.pending, h.out rfl, h.freeCnt rfl, h.timers rfl, h.tbu rfl, h.power rfl, h.regf rfl, h.sheet rfl, h.sheetOld rfl, h.hlu rfl, h.qen rfl, h.gal rfl, h.mxe rfl, h.dsc rfl, h.fca rfl, h.cdx rfl, h.spe rfl, h.hum rfl, h.bpm rfl, h.dmc rfl, h.ccl rfl, h.csu rfl, h.mgp rfl, h.cru rfl⟩

@[simp] theorem State.applyStaged_units (s : State) :
    (State.applyStaged s).pending = s.pending ∧ (State.applyStaged s).out = s.out ∧ (State.applyStaged s).freeCnt = s.freeCnt ∧ (State.applyStaged s).timers = s.timers ∧ (State.applyStaged s).tbu = s.tbu ∧ (State.applyStaged s).power = s.power ∧ (State.applyStaged s).regf = s.regf ∧ (State.applyStaged s).sheetOld = s.sheetOld ∧ (State.applyStaged s).hlu = s.hlu ∧ (State.applyStaged s).qen = s.qen ∧ (State.applyStaged s).gal = s.gal ∧ (State.applyStaged s).mxe = s.mxe ∧ (State.applyStaged s).dsc = s.dsc ∧ (State.applyStaged s).fca = s.fca ∧ (State.applyStaged s).cdx = s.cdx ∧ (State.applyStaged s).spe = s.spe ∧ (State.applyStaged s).hum = s.hum ∧ (State.applyStaged s).bpm = s.bpm ∧ (State.applyStaged s).dmc = s.dmc ∧ (State.applyStaged s).ccl = s.ccl ∧ (State.applyStaged s).csu = s.csu ∧ (State.applyStaged s).mgp = s.mgp ∧ (State.applyStaged s).cru = s.cru :=
  have h := (State.applyStaged_touch _ (by simp) (Touch.refl 1088 _))
  ⟨h.pending, h.out rfl, h.freeCnt rfl, h.timers rfl, h.tbu rfl, h.power rfl, h.regf rfl, h.sheetOld rfl, h.hlu rfl, h.qen rfl, h.gal rfl, h.mxe rfl, h.dsc rfl, h.fca rfl, h.cdx rfl, h.spe rfl, h.hum rfl, h.bpm rfl, h.dmc rfl, h.ccl rfl, h.csu rfl, h.mgp rfl, h.cru rfl⟩

@[simp] theorem State.setQuiesce_units (n : Nat) (on : Bool) (s : State) :
    (State.setQuiesce n on s).pending = s.pending ∧ (State.setQuiesce n on s).out = s.out ∧ (State.setQuiesce n on s).freeCnt = s.freeCnt ∧ (State.setQuiesce n on s).timers = s.timers ∧ (State.setQuiesce n on s).tbu = s.tbu ∧ (State.setQuiesce n on s).power = s.power ∧ (State.setQuiesce n on s).regf = s.regf ∧ (State.setQuiesce n on s).sheet = s.sheet ∧ (State.setQuiesce n on s).sheetOld = s.sheetOld ∧ (State.setQuiesce n on s).hlu = s.hlu ∧ (State.setQuiesce n on s).qen = s.qen ∧ (State.setQuiesce n on s).gal = s.gal ∧ (State.setQuiesce n on s).mxe = s.mxe ∧ (State.setQuiesce n on s).dsc = s.dsc ∧ (State.setQuiesce n on s).fca = s.fca ∧ (State.setQuiesce n on s).cdx = s.cdx ∧ (State.setQuiesce n on s).spe = s.spe ∧ (State.setQuiesce n on s).hum = s.hum ∧ (State.setQuiesce n on s).bpm = s.bpm ∧ (State.setQuiesce n on s).dmc = s.dmc ∧ (State.setQuiesce n on s).ccl = s.ccl ∧ (State.setQuiesce n on s).csu = s.csu ∧ (State.setQuiesce n on s).mgp = s.mgp ∧ (State.setQuiesce n on s).cru = s.cru :=
  have h := (State.setQuiesce_touch _ _ _ (by simp) (Touch.refl 1024 _))
  ⟨h.pending, h.out rfl, h.freeCnt rfl, h.timers rfl, h.tbu rfl, h.power rfl, h.regf rfl, h.sheet rfl, h.sheetOld rfl, h.hlu rfl, h.qen rfl, h.gal rfl, h.mxe rfl, h.dsc rfl, h.fca rfl, h.cdx rfl, h.spe rfl, h.hum rfl, h.bpm rfl, h.dmc rfl, h.ccl rfl, h.csu rfl, h.mgp rfl, h.cru rfl⟩

@[simp] theorem State.writeDlogHead_units (n head : Nat) (s : State) :
    (State.writeDlogHead n head s).pending = s.pending ∧ (State.writeDlogHead n head s).out = s.out ∧ (State.writeDlogHead n head s).freeCnt = s.freeCnt ∧ (State.writeDlogHead n head s).timers = s.timers ∧ (State.writeDlogHead n head s).tbu = s.tbu ∧ (State.writeDlogHead n head s).power = s.power ∧ (State.writeDlogHead n head s).regf = s.regf ∧ (State.writeDlogHead n head s).hlu = s.hlu ∧ (State.writeDlogHead n head s).qen = s.qen ∧ (State.writeDlogHead n head s).tnu = s.tnu ∧ (State.writeDlogHead n head s).gal = s.gal ∧ (State.writeDlogHead n head s).mxe = s.mxe ∧ (State.writeDlogHead n head s).dsc = s.dsc ∧ (State.writeDlogHead n head s).fca = s.fca ∧ (State.writeDlogHead n head s).cdx = s.cdx ∧ (State.writeDlogHead n head s).spe = s.spe ∧ (State.writeDlogHead n head s).hum = s.hum ∧ (State.writeDlogHead n head s).bpm = s.bpm ∧ (State.writeDlogHead n head s).dmc = s.dmc ∧ (State.writeDlogHead n head s).ccl = s.ccl ∧ (State.writeDlogHead n head s).csu = s.csu ∧ (State.writeDlogHead n head s).mgp = s.mgp ∧ (State.writeDlogHead n head s).cru = s.cru :=
  have h := (State.writeDlogHead_touch _ _ _ (by simp) (Touch.refl 192 _))
  ⟨h.pending, h.out rfl, h.freeCnt rfl, h.timers rfl, h.tbu rfl, h.power rfl, h.regf rfl, h.hlu rfl, h.qen rfl, h.tnu rfl, h.gal rfl, h.mxe rfl, h.dsc rfl, h.fca rfl, h.cdx rfl, h.spe rfl, h.hum rfl, h.bpm rfl, h.dmc rfl, h.ccl rfl, h.csu rfl, h.mgp rfl, h.cru rfl⟩

@[simp] theorem State.writeDlogEpoch_units (n value : Nat) (s : State) :
    (State.writeDlogEpoch n value s).pending = s.pending ∧ (State.writeDlogEpoch n value s).out = s.out ∧ (State.writeDlogEpoch n value s).freeCnt = s.freeCnt ∧ (State.writeDlogEpoch n value s).timers = s.timers ∧ (State.writeDlogEpoch n value s).tbu = s.tbu ∧ (State.writeDlogEpoch n value s).power = s.power ∧ (State.writeDlogEpoch n value s).regf = s.regf ∧ (State.writeDlogEpoch n value s).hlu = s.hlu ∧ (State.writeDlogEpoch n value s).qen = s.qen ∧ (State.writeDlogEpoch n value s).gal = s.gal ∧ (State.writeDlogEpoch n value s).mxe = s.mxe ∧ (State.writeDlogEpoch n value s).dsc = s.dsc ∧ (State.writeDlogEpoch n value s).fca = s.fca ∧ (State.writeDlogEpoch n value s).cdx = s.cdx ∧ (State.writeDlogEpoch n value s).spe = s.spe ∧ (State.writeDlogEpoch n value s).hum = s.hum ∧ (State.writeDlogEpoch n value s).bpm = s.bpm ∧ (State.writeDlogEpoch n value s).dmc = s.dmc ∧ (State.writeDlogEpoch n value s).ccl = s.ccl ∧ (State.writeDlogEpoch n value s).csu = s.csu ∧ (State.writeDlogEpoch n value s).mgp = s.mgp ∧ (State.writeDlogEpoch n value s).cru = s.cru :=
  have h := (State.writeDlogEpoch_touch _ _ _ (by simp) (Touch.refl 1216 _))
  ⟨h.pending, h.out rfl, h.freeCnt rfl, h.timers rfl, h.tbu rfl, h.power rfl, h.regf rfl, h.hlu rfl, h.qen rfl, h.gal rfl, h.mxe rfl, h.dsc rfl, h.fca rfl, h.cdx rfl, h.spe rfl, h.hum rfl, h.bpm rfl, h.dmc rfl, h.ccl rfl, h.csu rfl, h.mgp rfl, h.cru rfl⟩

@[simp] theorem State.requestDrain_units (n : Nat) (s : State) :
    (State.requestDrain n s).pending = s.pending ∧ (State.requestDrain n s).out = s.out ∧ (State.requestDrain n s).freeCnt = s.freeCnt ∧ (State.requestDrain n s).timers = s.timers ∧ (State.requestDrain n s).tbu = s.tbu ∧ (State.requestDrain n s).power = s.power ∧ (State.requestDrain n s).regf = s.regf ∧ (State.requestDrain n s).sheet = s.sheet ∧ (State.requestDrain n s).sheetOld = s.sheetOld ∧ (State.requestDrain n s).hlu = s.hlu ∧ (State.requestDrain n s).qen = s.qen ∧ (State.requestDrain n s).gal = s.gal ∧ (State.requestDrain n s).mxe = s.mxe ∧ (State.requestDrain n s).dsc = s.dsc ∧ (State.requestDrain n s).fca = s.fca ∧ (State.requestDrain n s).cdx = s.cdx ∧ (State.requestDrain n s).spe = s.spe ∧ (State.requestDrain n s).hum = s.hum ∧ (State.requestDrain n s).bpm = s.bpm ∧ (State.requestDrain n s).dmc = s.dmc ∧ (State.requestDrain n s).ccl = s.ccl ∧ (State.requestDrain n s).csu = s.csu ∧ (State.requestDrain n s).mgp = s.mgp ∧ (State.requestDrain n s).cru = s.cru :=
  have h := (State.requestDrain_touch _ _ (by simp) (Touch.refl 1024 _))
  ⟨h.pending, h.out rfl, h.freeCnt rfl, h.timers rfl, h.tbu rfl, h.power rfl, h.regf rfl, h.sheet rfl, h.sheetOld rfl, h.hlu rfl, h.qen rfl, h.gal rfl, h.mxe rfl, h.dsc rfl, h.fca rfl, h.cdx rfl, h.spe rfl, h.hum rfl, h.bpm rfl, h.dmc rfl, h.ccl rfl, h.csu rfl, h.mgp rfl, h.cru rfl⟩

@[simp] theorem State.requestSquash_units (n : Nat) (s : State) :
    (State.requestSquash n s).pending = s.pending ∧ (State.requestSquash n s).out = s.out ∧ (State.requestSquash n s).freeCnt = s.freeCnt ∧ (State.requestSquash n s).timers = s.timers ∧ (State.requestSquash n s).tbu = s.tbu ∧ (State.requestSquash n s).power = s.power ∧ (State.requestSquash n s).regf = s.regf ∧ (State.requestSquash n s).sheet = s.sheet ∧ (State.requestSquash n s).sheetOld = s.sheetOld ∧ (State.requestSquash n s).hlu = s.hlu ∧ (State.requestSquash n s).qen = s.qen ∧ (State.requestSquash n s).gal = s.gal ∧ (State.requestSquash n s).mxe = s.mxe ∧ (State.requestSquash n s).dsc = s.dsc ∧ (State.requestSquash n s).fca = s.fca ∧ (State.requestSquash n s).cdx = s.cdx ∧ (State.requestSquash n s).spe = s.spe ∧ (State.requestSquash n s).hum = s.hum ∧ (State.requestSquash n s).bpm = s.bpm ∧ (State.requestSquash n s).dmc = s.dmc ∧ (State.requestSquash n s).ccl = s.ccl ∧ (State.requestSquash n s).csu = s.csu ∧ (State.requestSquash n s).mgp = s.mgp ∧ (State.requestSquash n s).cru = s.cru :=
  have h := (State.requestSquash_touch _ _ (by simp) (Touch.refl 1024 _))
  ⟨h.pending, h.out rfl, h.freeCnt rfl, h.timers rfl, h.tbu rfl, h.power rfl, h.regf rfl, h.sheet rfl, h.sheetOld rfl, h.hlu rfl, h.qen rfl, h.gal rfl, h.mxe rfl, h.dsc rfl, h.fca rfl, h.cdx rfl, h.spe rfl, h.hum rfl, h.bpm rfl, h.dmc rfl, h.ccl rfl, h.csu rfl, h.mgp rfl, h.cru rfl⟩

@[simp] theorem State.clearSliceObjs_units (n : Nat) (s : State) :
    (State.clearSliceObjs n s).pending = s.pending ∧ (State.clearSliceObjs n s).out = s.out ∧ (State.clearSliceObjs n s).freeCnt = s.freeCnt ∧ (State.clearSliceObjs n s).timers = s.timers ∧ (State.clearSliceObjs n s).tbu = s.tbu ∧ (State.clearSliceObjs n s).power = s.power ∧ (State.clearSliceObjs n s).regf = s.regf ∧ (State.clearSliceObjs n s).hlu = s.hlu ∧ (State.clearSliceObjs n s).qen = s.qen ∧ (State.clearSliceObjs n s).tnu = s.tnu ∧ (State.clearSliceObjs n s).gal = s.gal ∧ (State.clearSliceObjs n s).mxe = s.mxe ∧ (State.clearSliceObjs n s).dsc = s.dsc ∧ (State.clearSliceObjs n s).fca = s.fca ∧ (State.clearSliceObjs n s).cdx = s.cdx ∧ (State.clearSliceObjs n s).spe = s.spe ∧ (State.clearSliceObjs n s).hum = s.hum ∧ (State.clearSliceObjs n s).bpm = s.bpm ∧ (State.clearSliceObjs n s).dmc = s.dmc ∧ (State.clearSliceObjs n s).ccl = s.ccl ∧ (State.clearSliceObjs n s).csu = s.csu ∧ (State.clearSliceObjs n s).mgp = s.mgp ∧ (State.clearSliceObjs n s).cru = s.cru :=
  have h := (State.clearSliceObjs_touch _ _ (by simp) (Touch.refl 192 _))
  ⟨h.pending, h.out rfl, h.freeCnt rfl, h.timers rfl, h.tbu rfl, h.power rfl, h.regf rfl, h.hlu rfl, h.qen rfl, h.tnu rfl, h.gal rfl, h.mxe rfl, h.dsc rfl, h.fca rfl, h.cdx rfl, h.spe rfl, h.hum rfl, h.bpm rfl, h.dmc rfl, h.ccl rfl, h.csu rfl, h.mgp rfl, h.cru rfl⟩

@[simp] theorem State.resetSlice_units (n : Nat) (timedOut : Bool) (s : State) :
    (State.resetSlice n timedOut s).pending = s.pending ∧ (State.resetSlice n timedOut s).freeCnt = s.freeCnt ∧ (State.resetSlice n timedOut s).timers = s.timers ∧ (State.resetSlice n timedOut s).power = s.power ∧ (State.resetSlice n timedOut s).dsc = s.dsc ∧ (State.resetSlice n timedOut s).fca = s.fca ∧ (State.resetSlice n timedOut s).spe = s.spe ∧ (State.resetSlice n timedOut s).hum = s.hum ∧ (State.resetSlice n timedOut s).csu = s.csu :=
  have h := (State.resetSlice_touch _ _ _ (by simp) (Touch.refl 14458857 _))
  ⟨h.pending, h.freeCnt rfl, h.timers rfl, h.power rfl, h.dsc rfl, h.fca rfl, h.spe rfl, h.hum rfl, h.csu rfl⟩

@[simp] theorem State.finishWith_units (c : Nat) (w : Word) (s : State) :
    (State.finishWith c w s).pending = s.pending ∧ (State.finishWith c w s).out = s.out ∧ (State.finishWith c w s).freeCnt = s.freeCnt ∧ (State.finishWith c w s).timers = s.timers ∧ (State.finishWith c w s).tbu = s.tbu ∧ (State.finishWith c w s).power = s.power ∧ (State.finishWith c w s).regf = s.regf ∧ (State.finishWith c w s).sheet = s.sheet ∧ (State.finishWith c w s).sheetOld = s.sheetOld ∧ (State.finishWith c w s).hlu = s.hlu ∧ (State.finishWith c w s).tnu = s.tnu ∧ (State.finishWith c w s).gal = s.gal ∧ (State.finishWith c w s).mxe = s.mxe ∧ (State.finishWith c w s).dsc = s.dsc ∧ (State.finishWith c w s).fca = s.fca ∧ (State.finishWith c w s).cdx = s.cdx ∧ (State.finishWith c w s).spe = s.spe ∧ (State.finishWith c w s).hum = s.hum ∧ (State.finishWith c w s).bpm = s.bpm ∧ (State.finishWith c w s).dmc = s.dmc ∧ (State.finishWith c w s).ccl = s.ccl ∧ (State.finishWith c w s).csu = s.csu ∧ (State.finishWith c w s).mgp = s.mgp ∧ (State.finishWith c w s).cru = s.cru :=
  have h := (State.finishWith_touch _ _ _ (by simp) (Touch.refl 512 _))
  ⟨h.pending, h.out rfl, h.freeCnt rfl, h.timers rfl, h.tbu rfl, h.power rfl, h.regf rfl, h.sheet rfl, h.sheetOld rfl, h.hlu rfl, h.tnu rfl, h.gal rfl, h.mxe rfl, h.dsc rfl, h.fca rfl, h.cdx rfl, h.spe rfl, h.hum rfl, h.bpm rfl, h.dmc rfl, h.ccl rfl, h.csu rfl, h.mgp rfl, h.cru rfl⟩

@[simp] theorem State.catchCmd_units (c status : Nat) (s : State) :
    (State.catchCmd c status s).pending = s.pending ∧ (State.catchCmd c status s).freeCnt = s.freeCnt ∧ (State.catchCmd c status s).timers = s.timers ∧ (State.catchCmd c status s).tbu = s.tbu ∧ (State.catchCmd c status s).power = s.power ∧ (State.catchCmd c status s).sheet = s.sheet ∧ (State.catchCmd c status s).sheetOld = s.sheetOld ∧ (State.catchCmd c status s).tnu = s.tnu ∧ (State.catchCmd c status s).gal = s.gal ∧ (State.catchCmd c status s).dsc = s.dsc ∧ (State.catchCmd c status s).fca = s.fca ∧ (State.catchCmd c status s).cdx = s.cdx ∧ (State.catchCmd c status s).spe = s.spe ∧ (State.catchCmd c status s).hum = s.hum ∧ (State.catchCmd c status s).dmc = s.dmc ∧ (State.catchCmd c status s).csu = s.csu :=
  have h := (State.catchCmd_touch _ _ _ (by simp) (Touch.refl 13898529 _))
  ⟨h.pending, h.freeCnt rfl, h.timers rfl, h.tbu rfl, h.power rfl, h.sheet rfl, h.sheetOld rfl, h.tnu rfl, h.gal rfl, h.dsc rfl, h.fca rfl, h.cdx rfl, h.spe rfl, h.hum rfl, h.dmc rfl, h.csu rfl⟩

@[simp] theorem State.pageOut_units (c page : Nat) (x : Ctx) (d : List Byte) (s : State) :
    (State.pageOut c page x d s).pending = s.pending ∧ (State.pageOut c page x d s).freeCnt = s.freeCnt ∧ (State.pageOut c page x d s).timers = s.timers ∧ (State.pageOut c page x d s).tbu = s.tbu ∧ (State.pageOut c page x d s).power = s.power ∧ (State.pageOut c page x d s).sheet = s.sheet ∧ (State.pageOut c page x d s).sheetOld = s.sheetOld ∧ (State.pageOut c page x d s).tnu = s.tnu ∧ (State.pageOut c page x d s).gal = s.gal ∧ (State.pageOut c page x d s).mxe = s.mxe ∧ (State.pageOut c page x d s).dsc = s.dsc ∧ (State.pageOut c page x d s).fca = s.fca ∧ (State.pageOut c page x d s).cdx = s.cdx ∧ (State.pageOut c page x d s).spe = s.spe ∧ (State.pageOut c page x d s).hum = s.hum ∧ (State.pageOut c page x d s).dmc = s.dmc ∧ (State.pageOut c page x d s).csu = s.csu :=
  have h := (State.pageOut_touch _ _ _ _ _ (by simp) (Touch.refl 13894433 _))
  ⟨h.pending, h.freeCnt rfl, h.timers rfl, h.tbu rfl, h.power rfl, h.sheet rfl, h.sheetOld rfl, h.tnu rfl, h.gal rfl, h.mxe rfl, h.dsc rfl, h.fca rfl, h.cdx rfl, h.spe rfl, h.hum rfl, h.dmc rfl, h.csu rfl⟩

@[simp] theorem State.pageLogged_units (c lid : Nat) (x : Ctx) (s : State) :
    (State.pageLogged c lid x s).pending = s.pending ∧ (State.pageLogged c lid x s).out = s.out ∧ (State.pageLogged c lid x s).freeCnt = s.freeCnt ∧ (State.pageLogged c lid x s).timers = s.timers ∧ (State.pageLogged c lid x s).tbu = s.tbu ∧ (State.pageLogged c lid x s).power = s.power ∧ (State.pageLogged c lid x s).regf = s.regf ∧ (State.pageLogged c lid x s).sheet = s.sheet ∧ (State.pageLogged c lid x s).sheetOld = s.sheetOld ∧ (State.pageLogged c lid x s).hlu = s.hlu ∧ (State.pageLogged c lid x s).tnu = s.tnu ∧ (State.pageLogged c lid x s).gal = s.gal ∧ (State.pageLogged c lid x s).mxe = s.mxe ∧ (State.pageLogged c lid x s).dsc = s.dsc ∧ (State.pageLogged c lid x s).fca = s.fca ∧ (State.pageLogged c lid x s).cdx = s.cdx ∧ (State.pageLogged c lid x s).spe = s.spe ∧ (State.pageLogged c lid x s).hum = s.hum ∧ (State.pageLogged c lid x s).bpm = s.bpm ∧ (State.pageLogged c lid x s).dmc = s.dmc ∧ (State.pageLogged c lid x s).ccl = s.ccl ∧ (State.pageLogged c lid x s).csu = s.csu ∧ (State.pageLogged c lid x s).mgp = s.mgp ∧ (State.pageLogged c lid x s).cru = s.cru :=
  have h := (State.pageLogged_touch _ _ _ _ (by simp) (Touch.refl 512 _))
  ⟨h.pending, h.out rfl, h.freeCnt rfl, h.timers rfl, h.tbu rfl, h.power rfl, h.regf rfl, h.sheet rfl, h.sheetOld rfl, h.hlu rfl, h.tnu rfl, h.gal rfl, h.mxe rfl, h.dsc rfl, h.fca rfl, h.cdx rfl, h.spe rfl, h.hum rfl, h.bpm rfl, h.dmc rfl, h.ccl rfl, h.csu rfl, h.mgp rfl, h.cru rfl⟩

@[simp] theorem State.apstSet_units (c : Nat) (x : Ctx) (s : State) :
    (State.apstSet c x s).pending = s.pending ∧ (State.apstSet c x s).freeCnt = s.freeCnt ∧ (State.apstSet c x s).timers = s.timers ∧ (State.apstSet c x s).tbu = s.tbu ∧ (State.apstSet c x s).power = s.power ∧ (State.apstSet c x s).sheet = s.sheet ∧ (State.apstSet c x s).sheetOld = s.sheetOld ∧ (State.apstSet c x s).tnu = s.tnu ∧ (State.apstSet c x s).gal = s.gal ∧ (State.apstSet c x s).mxe = s.mxe ∧ (State.apstSet c x s).dsc = s.dsc ∧ (State.apstSet c x s).fca = s.fca ∧ (State.apstSet c x s).cdx = s.cdx ∧ (State.apstSet c x s).spe = s.spe ∧ (State.apstSet c x s).hum = s.hum ∧ (State.apstSet c x s).dmc = s.dmc ∧ (State.apstSet c x s).csu = s.csu :=
  have h := (State.apstSet_touch _ _ _ (by simp) (Touch.refl 13894433 _))
  ⟨h.pending, h.freeCnt rfl, h.timers rfl, h.tbu rfl, h.power rfl, h.sheet rfl, h.sheetOld rfl, h.tnu rfl, h.gal rfl, h.mxe rfl, h.dsc rfl, h.fca rfl, h.cdx rfl, h.spe rfl, h.hum rfl, h.dmc rfl, h.csu rfl⟩

@[simp] theorem State.unmapNs_units (nsid : Nat) (s : State) :
    (State.unmapNs nsid s).pending = s.pending ∧ (State.unmapNs nsid s).out = s.out ∧ (State.unmapNs nsid s).freeCnt = s.freeCnt ∧ (State.unmapNs nsid s).timers = s.timers ∧ (State.unmapNs nsid s).tbu = s.tbu ∧ (State.unmapNs nsid s).power = s.power ∧ (State.unmapNs nsid s).regf = s.regf ∧ (State.unmapNs nsid s).sheet = s.sheet ∧ (State.unmapNs nsid s).sheetOld = s.sheetOld ∧ (State.unmapNs nsid s).hlu = s.hlu ∧ (State.unmapNs nsid s).qen = s.qen ∧ (State.unmapNs nsid s).tnu = s.tnu ∧ (State.unmapNs nsid s).gal = s.gal ∧ (State.unmapNs nsid s).dsc = s.dsc ∧ (State.unmapNs nsid s).fca = s.fca ∧ (State.unmapNs nsid s).cdx = s.cdx ∧ (State.unmapNs nsid s).hum = s.hum ∧ (State.unmapNs nsid s).bpm = s.bpm ∧ (State.unmapNs nsid s).dmc = s.dmc ∧ (State.unmapNs nsid s).ccl = s.ccl ∧ (State.unmapNs nsid s).csu = s.csu ∧ (State.unmapNs nsid s).mgp = s.mgp ∧ (State.unmapNs nsid s).cru = s.cru :=
  have h := (State.unmapNs_touch _ _ (by simp) (Touch.refl 69632 _))
  ⟨h.pending, h.out rfl, h.freeCnt rfl, h.timers rfl, h.tbu rfl, h.power rfl, h.regf rfl, h.sheet rfl, h.sheetOld rfl, h.hlu rfl, h.qen rfl, h.tnu rfl, h.gal rfl, h.dsc rfl, h.fca rfl, h.cdx rfl, h.hum rfl, h.bpm rfl, h.dmc rfl, h.ccl rfl, h.csu rfl, h.mgp rfl, h.cru rfl⟩

@[simp] theorem State.nsChanged_units (slice nsid : Nat) (s : State) :
    (State.nsChanged slice nsid s).pending = s.pending ∧ (State.nsChanged slice nsid s).out = s.out ∧ (State.nsChanged slice nsid s).freeCnt = s.freeCnt ∧ (State.nsChanged slice nsid s).timers = s.timers ∧ (State.nsChanged slice nsid s).tbu = s.tbu ∧ (State.nsChanged slice nsid s).power = s.power ∧ (State.nsChanged slice nsid s).regf = s.regf ∧ (State.nsChanged slice nsid s).sheet = s.sheet ∧ (State.nsChanged slice nsid s).sheetOld = s.sheetOld ∧ (State.nsChanged slice nsid s).hlu = s.hlu ∧ (State.nsChanged slice nsid s).tnu = s.tnu ∧ (State.nsChanged slice nsid s).gal = s.gal ∧ (State.nsChanged slice nsid s).mxe = s.mxe ∧ (State.nsChanged slice nsid s).dsc = s.dsc ∧ (State.nsChanged slice nsid s).fca = s.fca ∧ (State.nsChanged slice nsid s).cdx = s.cdx ∧ (State.nsChanged slice nsid s).spe = s.spe ∧ (State.nsChanged slice nsid s).hum = s.hum ∧ (State.nsChanged slice nsid s).bpm = s.bpm ∧ (State.nsChanged slice nsid s).dmc = s.dmc ∧ (State.nsChanged slice nsid s).ccl = s.ccl ∧ (State.nsChanged slice nsid s).csu = s.csu ∧ (State.nsChanged slice nsid s).mgp = s.mgp ∧ (State.nsChanged slice nsid s).cru = s.cru :=
  have h := (State.nsChanged_touch _ _ _ (by simp) (Touch.refl 512 _))
  ⟨h.pending, h.out rfl, h.freeCnt rfl, h.timers rfl, h.tbu rfl, h.power rfl, h.regf rfl, h.sheet rfl, h.sheetOld rfl, h.hlu rfl, h.tnu rfl, h.gal rfl, h.mxe rfl, h.dsc rfl, h.fca rfl, h.cdx rfl, h.spe rfl, h.hum rfl, h.bpm rfl, h.dmc rfl, h.ccl rfl, h.csu rfl, h.mgp rfl, h.cru rfl⟩

@[simp] theorem State.createNs_units (c : Nat) (p : NamespaceSpec) (s : State) :
    (State.createNs c p s).pending = s.pending ∧ (State.createNs c p s).out = s.out ∧ (State.createNs c p s).freeCnt = s.freeCnt ∧ (State.createNs c p s).timers = s.timers ∧ (State.createNs c p s).tbu = s.tbu ∧ (State.createNs c p s).power = s.power ∧ (State.createNs c p s).regf = s.regf ∧ (State.createNs c p s).sheet = s.sheet ∧ (State.createNs c p s).sheetOld = s.sheetOld ∧ (State.createNs c p s).hlu = s.hlu ∧ (State.createNs c p s).tnu = s.tnu ∧ (State.createNs c p s).gal = s.gal ∧ (State.createNs c p s).dsc = s.dsc ∧ (State.createNs c p s).fca = s.fca ∧ (State.createNs c p s).cdx = s.cdx ∧ (State.createNs c p s).spe = s.spe ∧ (State.createNs c p s).hum = s.hum ∧ (State.createNs c p s).bpm = s.bpm ∧ (State.createNs c p s).dmc = s.dmc ∧ (State.createNs c p s).ccl = s.ccl ∧ (State.createNs c p s).csu = s.csu ∧ (State.createNs c p s).mgp = s.mgp ∧ (State.createNs c p s).cru = s.cru :=
  have h := (State.createNs_touch _ _ _ (by simp) (Touch.refl 4608 _))
  ⟨h.pending, h.out rfl, h.freeCnt rfl, h.timers rfl, h.tbu rfl, h.power rfl, h.regf rfl, h.sheet rfl, h.sheetOld rfl, h.hlu rfl, h.tnu rfl, h.gal rfl, h.dsc rfl, h.fca rfl, h.cdx rfl, h.spe rfl, h.hum rfl, h.bpm rfl, h.dmc rfl, h.ccl rfl, h.csu rfl, h.mgp rfl, h.cru rfl⟩

@[simp] theorem State.regenerate_units (slots : List Nat) (s : State) :
    (State.regenerate slots s).pending = s.pending ∧ (State.regenerate slots s).out = s.out ∧ (State.regenerate slots s).timers = s.timers ∧ (State.regenerate slots s).tbu = s.tbu ∧ (State.regenerate slots s).power = s.power ∧ (State.regenerate slots s).regf = s.regf ∧ (State.regenerate slots s).sheet = s.sheet ∧ (State.regenerate slots s).sheetOld = s.sheetOld ∧ (State.regenerate slots s).hlu = s.hlu ∧ (State.regenerate slots s).qen = s.qen ∧ (State.regenerate slots s).tnu = s.tnu ∧ (State.regenerate slots s).gal = s.gal ∧ (State.regenerate slots s).mxe = s.mxe ∧ (State.regenerate slots s).dsc = s.dsc ∧ (State.regenerate slots s).fca = s.fca ∧ (State.regenerate slots s).spe = s.spe ∧ (State.regenerate slots s).hum = s.hum ∧ (State.regenerate slots s).bpm = s.bpm ∧ (State.regenerate slots s).dmc = s.dmc ∧ (State.regenerate slots s).ccl = s.ccl ∧ (State.regenerate slots s).csu = s.csu ∧ (State.regenerate slots s).mgp = s.mgp ∧ (State.regenerate slots s).cru = s.cru :=
  have h := (State.regenerate_touch _ _ (by simp) (Touch.refl 32770 _))
  ⟨h.pending, h.out rfl, h.timers rfl, h.tbu rfl, h.power rfl, h.regf rfl, h.sheet rfl, h.sheetOld rfl, h.hlu rfl, h.qen rfl, h.tnu rfl, h.gal rfl, h.mxe rfl, h.dsc rfl, h.fca rfl, h.spe rfl, h.hum rfl, h.bpm rfl, h.dmc rfl, h.ccl rfl, h.csu rfl, h.mgp rfl, h.cru rfl⟩

@[simp] theorem State.firstFormat_units (s : State) :
    (State.firstFormat s).pending = s.pending ∧ (State.firstFormat s).out = s.out ∧ (State.firstFormat s).freeCnt = s.freeCnt ∧ (State.firstFormat s).timers = s.timers ∧ (State.firstFormat s).tbu = s.tbu ∧ (State.firstFormat s).power = s.power ∧ (State.firstFormat s).regf = s.regf ∧ (State.firstFormat s).sheet = s.sheet ∧ (State.firstFormat s).sheetOld = s.sheetOld ∧ (State.firstFormat s).hlu = s.hlu ∧ (State.firstFormat s).qen = s.qen ∧ (State.firstFormat s).tnu = s.tnu ∧ (State.firstFormat s).gal = s.gal ∧ (State.firstFormat s).dsc = s.dsc ∧ (State.firstFormat s).fca = s.fca ∧ (State.firstFormat s).cdx = s.cdx ∧ (State.firstFormat s).spe = s.spe ∧ (State.firstFormat s).hum = s.hum ∧ (State.firstFormat s).bpm = s.bpm ∧ (State.firstFormat s).dmc = s.dmc ∧ (State.firstFormat s).ccl = s.ccl ∧ (State.firstFormat s).csu = s.csu ∧ (State.firstFormat s).mgp = s.mgp ∧ (State.firstFormat s).cru = s.cru :=
  have h := (State.firstFormat_touch _ (by simp) (Touch.refl 4096 _))
  ⟨h.pending, h.out rfl, h.freeCnt rfl, h.timers rfl, h.tbu rfl, h.power rfl, h.regf rfl, h.sheet rfl, h.sheetOld rfl, h.hlu rfl, h.qen rfl, h.tnu rfl, h.gal rfl, h.dsc rfl, h.fca rfl, h.cdx rfl, h.spe rfl, h.hum rfl, h.bpm rfl, h.dmc rfl, h.ccl rfl, h.csu rfl, h.mgp rfl, h.cru rfl⟩

@[simp] theorem State.releaseUser_units (s : State) :
    (State.releaseUser s).pending = s.pending ∧ (State.releaseUser s).out = s.out ∧ (State.releaseUser s).freeCnt = s.freeCnt ∧ (State.releaseUser s).timers = s.timers ∧ (State.releaseUser s).tbu = s.tbu ∧ (State.releaseUser s).power = s.power ∧ (State.releaseUser s).regf = s.regf ∧ (State.releaseUser s).sheet = s.sheet ∧ (State.releaseUser s).sheetOld = s.sheetOld ∧ (State.releaseUser s).hlu = s.hlu ∧ (State.releaseUser s).qen = s.qen ∧ (State.releaseUser s).tnu = s.tnu ∧ (State.releaseUser s).gal = s.gal ∧ (State.releaseUser s).dsc = s.dsc ∧ (State.releaseUser s).fca = s.fca ∧ (State.releaseUser s).cdx = s.cdx ∧ (State.releaseUser s).spe = s.spe ∧ (State.releaseUser s).hum = s.hum ∧ (State.releaseUser s).bpm = s.bpm ∧ (State.releaseUser s).dmc = s.dmc ∧ (State.releaseUser s).ccl = s.ccl ∧ (State.releaseUser s).csu = s.csu ∧ (State.releaseUser s).mgp = s.mgp ∧ (State.releaseUser s).cru = s.cru :=
  have h := (State.releaseUser_touch _ (by simp) (Touch.refl 4096 _))
  ⟨h.pending, h.out rfl, h.freeCnt rfl, h.timers rfl, h.tbu rfl, h.power rfl, h.regf rfl, h.sheet rfl, h.sheetOld rfl, h.hlu rfl, h.qen rfl, h.tnu rfl, h.gal rfl, h.dsc rfl, h.fca rfl, h.cdx rfl, h.spe rfl, h.hum rfl, h.bpm rfl, h.dmc rfl, h.ccl rfl, h.csu rfl, h.mgp rfl, h.cru rfl⟩

@[simp] theorem State.readyAll_units (s : State) :
    (State.readyAll s).pending = s.pending ∧ (State.readyAll s).out = s.out ∧ (State.readyAll s).freeCnt = s.freeCnt ∧ (State.readyAll s).timers = s.timers ∧ (State.readyAll s).tbu = s.tbu ∧ (State.readyAll s).power = s.power ∧ (State.readyAll s).regf = s.regf ∧ (State.readyAll s).sheet = s.sheet ∧ (State.readyAll s).sheetOld = s.sheetOld ∧ (State.readyAll s).hlu = s.hlu ∧ (State.readyAll s).tnu = s.tnu ∧ (State.readyAll s).gal = s.gal ∧ (State.readyAll s).mxe = s.mxe ∧ (State.readyAll s).dsc = s.dsc ∧ (State.readyAll s).fca = s.fca ∧ (State.readyAll s).cdx = s.cdx ∧ (State.readyAll s).spe = s.spe ∧ (State.readyAll s).hum = s.hum ∧ (State.readyAll s).bpm = s.bpm ∧ (State.readyAll s).dmc = s.dmc ∧ (State.readyAll s).ccl = s.ccl ∧ (State.readyAll s).csu = s.csu ∧ (State.readyAll s).mgp = s.mgp ∧ (State.readyAll s).cru = s.cru :=
  have h := (State.readyAll_touch _ (by simp) (Touch.refl 512 _))
  ⟨h.pending, h.out rfl, h.freeCnt rfl, h.timers rfl, h.tbu rfl, h.power rfl, h.regf rfl, h.sheet rfl, h.sheetOld rfl, h.hlu rfl, h.tnu rfl, h.gal rfl, h.mxe rfl, h.dsc rfl, h.fca rfl, h.cdx rfl, h.spe rfl, h.hum rfl, h.bpm rfl, h.dmc rfl, h.ccl rfl, h.csu rfl, h.mgp rfl, h.cru rfl⟩

@[simp] theorem State.cleanEnd_units (s : State) :
    (State.cleanEnd s).pending = s.pending ∧ (State.cleanEnd s).out = s.out ∧ (State.cleanEnd s).freeCnt = s.freeCnt ∧ (State.cleanEnd s).timers = s.timers ∧ (State.cleanEnd s).tbu = s.tbu ∧ (State.cleanEnd s).regf = s.regf ∧ (State.cleanEnd s).sheet = s.sheet ∧ (State.cleanEnd s).sheetOld = s.sheetOld ∧ (State.cleanEnd s).hlu = s.hlu ∧ (State.cleanEnd s).qen = s.qen ∧ (State.cleanEnd s).tnu = s.tnu ∧ (State.cleanEnd s).gal = s.gal ∧ (State.cleanEnd s).dsc = s.dsc ∧ (State.cleanEnd s).fca = s.fca ∧ (State.cleanEnd s).spe = s.spe ∧ (State.cleanEnd s).bpm = s.bpm ∧ (State.cleanEnd s).dmc = s.dmc ∧ (State.cleanEnd s).ccl = s.ccl ∧ (State.cleanEnd s).csu = s.csu ∧ (State.cleanEnd s).mgp = s.mgp ∧ (State.cleanEnd s).cru = s.cru :=
  have h := (State.cleanEnd_touch _ (by simp) (Touch.refl 167952 _))
  ⟨h.pending, h.out rfl, h.freeCnt rfl, h.timers rfl, h.tbu rfl, h.regf rfl, h.sheet rfl, h.sheetOld rfl, h.hlu rfl, h.qen rfl, h.tnu rfl, h.gal rfl, h.dsc rfl, h.fca rfl, h.spe rfl, h.bpm rfl, h.dmc rfl, h.ccl rfl, h.csu rfl, h.mgp rfl, h.cru rfl⟩

@[simp] theorem State.shutdownEnd_units (s : State) :
    (State.shutdownEnd s).pending = s.pending ∧ (State.shutdownEnd s).out = s.out ∧ (State.shutdownEnd s).freeCnt = s.freeCnt ∧ (State.shutdownEnd s).timers = s.timers ∧ (State.shutdownEnd s).tbu = s.tbu ∧ (State.shutdownEnd s).regf = s.regf ∧ (State.shutdownEnd s).sheet = s.sheet ∧ (State.shutdownEnd s).sheetOld = s.sheetOld ∧ (State.shutdownEnd s).hlu = s.hlu ∧ (State.shutdownEnd s).tnu = s.tnu ∧ (State.shutdownEnd s).gal = s.gal ∧ (State.shutdownEnd s).dsc = s.dsc ∧ (State.shutdownEnd s).fca = s.fca ∧ (State.shutdownEnd s).spe = s.spe ∧ (State.shutdownEnd s).bpm = s.bpm ∧ (State.shutdownEnd s).dmc = s.dmc ∧ (State.shutdownEnd s).ccl = s.ccl ∧ (State.shutdownEnd s).csu = s.csu ∧ (State.shutdownEnd s).mgp = s.mgp ∧ (State.shutdownEnd s).cru = s.cru :=
  have h := (State.shutdownEnd_touch _ (by simp) (Touch.refl 168464 _))
  ⟨h.pending, h.out rfl, h.freeCnt rfl, h.timers rfl, h.tbu rfl, h.regf rfl, h.sheet rfl, h.sheetOld rfl, h.hlu rfl, h.tnu rfl, h.gal rfl, h.dsc rfl, h.fca rfl, h.spe rfl, h.bpm rfl, h.dmc rfl, h.ccl rfl, h.csu rfl, h.mgp rfl, h.cru rfl⟩

@[simp] theorem State.writeConfig_units (f : ConfigRecord → ConfigRecord) (s : State) :
    (State.writeConfig f s).pending = s.pending ∧ (State.writeConfig f s).out = s.out ∧ (State.writeConfig f s).freeCnt = s.freeCnt ∧ (State.writeConfig f s).timers = s.timers ∧ (State.writeConfig f s).tbu = s.tbu ∧ (State.writeConfig f s).power = s.power ∧ (State.writeConfig f s).regf = s.regf ∧ (State.writeConfig f s).sheet = s.sheet ∧ (State.writeConfig f s).sheetOld = s.sheetOld ∧ (State.writeConfig f s).hlu = s.hlu ∧ (State.writeConfig f s).qen = s.qen ∧ (State.writeConfig f s).tnu = s.tnu ∧ (State.writeConfig f s).gal = s.gal ∧ (State.writeConfig f s).mxe = s.mxe ∧ (State.writeConfig f s).dsc = s.dsc ∧ (State.writeConfig f s).fca = s.fca ∧ (State.writeConfig f s).cdx = s.cdx ∧ (State.writeConfig f s).spe = s.spe ∧ (State.writeConfig f s).hum = s.hum ∧ (State.writeConfig f s).bpm = s.bpm ∧ (State.writeConfig f s).dmc = s.dmc ∧ (State.writeConfig f s).ccl = s.ccl ∧ (State.writeConfig f s).mgp = s.mgp ∧ (State.writeConfig f s).cru = s.cru :=
  have h := (State.writeConfig_touch _ _ (by simp) (Touch.refl 2097152 _))
  ⟨h.pending, h.out rfl, h.freeCnt rfl, h.timers rfl, h.tbu rfl, h.power rfl, h.regf rfl, h.sheet rfl, h.sheetOld rfl, h.hlu rfl, h.qen rfl, h.tnu rfl, h.gal rfl, h.mxe rfl, h.dsc rfl, h.fca rfl, h.cdx rfl, h.spe rfl, h.hum rfl, h.bpm rfl, h.dmc rfl, h.ccl rfl, h.mgp rfl, h.cru rfl⟩

@[simp] theorem State.setTake_units (st trials : Nat) (s : State) :
    (State.setTake st trials s).pending = s.pending ∧ (State.setTake st trials s).out = s.out ∧ (State.setTake st trials s).freeCnt = s.freeCnt ∧ (State.setTake st trials s).timers = s.timers ∧ (State.setTake st trials s).tbu = s.tbu ∧ (State.setTake st trials s).power = s.power ∧ (State.setTake st trials s).sheet = s.sheet ∧ (State.setTake st trials s).sheetOld = s.sheetOld ∧ (State.setTake st trials s).hlu = s.hlu ∧ (State.setTake st trials s).qen = s.qen ∧ (State.setTake st trials s).tnu = s.tnu ∧ (State.setTake st trials s).gal = s.gal ∧ (State.setTake st trials s).mxe = s.mxe ∧ (State.setTake st trials s).dsc = s.dsc ∧ (State.setTake st trials s).fca = s.fca ∧ (State.setTake st trials s).cdx = s.cdx ∧ (State.setTake st trials s).spe = s.spe ∧ (State.setTake st trials s).hum = s.hum ∧ (State.setTake st trials s).bpm = s.bpm ∧ (State.setTake st trials s).dmc = s.dmc ∧ (State.setTake st trials s).ccl = s.ccl ∧ (State.setTake st trials s).mgp = s.mgp :=
  have h := (State.setTake_touch _ _ _ (by simp) (Touch.refl 10485792 _))
  ⟨h.pending, h.out rfl, h.freeCnt rfl, h.timers rfl, h.tbu rfl, h.power rfl, h.sheet rfl, h.sheetOld rfl, h.hlu rfl, h.qen rfl, h.tnu rfl, h.gal rfl, h.mxe rfl, h.dsc rfl, h.fca rfl, h.cdx rfl, h.spe rfl, h.hum rfl, h.bpm rfl, h.dmc rfl, h.ccl rfl, h.mgp rfl⟩

@[simp] theorem State.csuCmd_units (r : CsuRequest) (op : Nat) (s : State) :
    (State.csuCmd r op s).pending = s.pending ∧ (State.csuCmd r op s).out = s.out ∧ (State.csuCmd r op s).freeCnt = s.freeCnt ∧ (State.csuCmd r op s).timers = s.timers ∧ (State.csuCmd r op s).tbu = s.tbu ∧ (State.csuCmd r op s).power = s.power ∧ (State.csuCmd r op s).sheet = s.sheet ∧ (State.csuCmd r op s).sheetOld = s.sheetOld ∧ (State.csuCmd r op s).hlu = s.hlu ∧ (State.csuCmd r op s).qen = s.qen ∧ (State.csuCmd r op s).tnu = s.tnu ∧ (State.csuCmd r op s).gal = s.gal ∧ (State.csuCmd r op s).mxe = s.mxe ∧ (State.csuCmd r op s).dsc = s.dsc ∧ (State.csuCmd r op s).fca = s.fca ∧ (State.csuCmd r op s).cdx = s.cdx ∧ (State.csuCmd r op s).spe = s.spe ∧ (State.csuCmd r op s).hum = s.hum ∧ (State.csuCmd r op s).bpm = s.bpm ∧ (State.csuCmd r op s).dmc = s.dmc ∧ (State.csuCmd r op s).ccl = s.ccl ∧ (State.csuCmd r op s).mgp = s.mgp ∧ (State.csuCmd r op s).cru = s.cru :=
  have h := (State.csuCmd_touch _ _ _ (by simp) (Touch.refl 2097184 _))
  ⟨h.pending, h.out rfl, h.freeCnt rfl, h.timers rfl, h.tbu rfl, h.power rfl, h.sheet rfl, h.sheetOld rfl, h.hlu rfl, h.qen rfl, h.tnu rfl, h.gal rfl, h.mxe rfl, h.dsc rfl, h.fca rfl, h.cdx rfl, h.spe rfl, h.hum rfl, h.bpm rfl, h.dmc rfl, h.ccl rfl, h.mgp rfl, h.cru rfl⟩

@[simp] theorem State.csuGo_units (r : CsuRequest) (op : Nat) (argOk : Bool) (sector : Nat) (f : FlashOp) (window : Bool) (s : State) :
    (State.csuGo r op argOk sector f window s).pending = s.pending ∧ (State.csuGo r op argOk sector f window s).out = s.out ∧ (State.csuGo r op argOk sector f window s).freeCnt = s.freeCnt ∧ (State.csuGo r op argOk sector f window s).timers = s.timers ∧ (State.csuGo r op argOk sector f window s).tbu = s.tbu ∧ (State.csuGo r op argOk sector f window s).power = s.power ∧ (State.csuGo r op argOk sector f window s).sheet = s.sheet ∧ (State.csuGo r op argOk sector f window s).sheetOld = s.sheetOld ∧ (State.csuGo r op argOk sector f window s).hlu = s.hlu ∧ (State.csuGo r op argOk sector f window s).qen = s.qen ∧ (State.csuGo r op argOk sector f window s).tnu = s.tnu ∧ (State.csuGo r op argOk sector f window s).gal = s.gal ∧ (State.csuGo r op argOk sector f window s).mxe = s.mxe ∧ (State.csuGo r op argOk sector f window s).dsc = s.dsc ∧ (State.csuGo r op argOk sector f window s).fca = s.fca ∧ (State.csuGo r op argOk sector f window s).cdx = s.cdx ∧ (State.csuGo r op argOk sector f window s).spe = s.spe ∧ (State.csuGo r op argOk sector f window s).hum = s.hum ∧ (State.csuGo r op argOk sector f window s).bpm = s.bpm ∧ (State.csuGo r op argOk sector f window s).dmc = s.dmc ∧ (State.csuGo r op argOk sector f window s).ccl = s.ccl ∧ (State.csuGo r op argOk sector f window s).mgp = s.mgp :=
  have h := (State.csuGo_touch _ _ _ _ _ _ _ (by simp) (Touch.refl 10485792 _))
  ⟨h.pending, h.out rfl, h.freeCnt rfl, h.timers rfl, h.tbu rfl, h.power rfl, h.sheet rfl, h.sheetOld rfl, h.hlu rfl, h.qen rfl, h.tnu rfl, h.gal rfl, h.mxe rfl, h.dsc rfl, h.fca rfl, h.cdx rfl, h.spe rfl, h.hum rfl, h.bpm rfl, h.dmc rfl, h.ccl rfl, h.mgp rfl⟩

@[simp] theorem State.csuProgram_units (r : CsuRequest) (s : State) :
    (State.csuProgram r s).pending = s.pending ∧ (State.csuProgram r s).out = s.out ∧ (State.csuProgram r s).freeCnt = s.freeCnt ∧ (State.csuProgram r s).timers = s.timers ∧ (State.csuProgram r s).tbu = s.tbu ∧ (State.csuProgram r s).power = s.power ∧ (State.csuProgram r s).sheet = s.sheet ∧ (State.csuProgram r s).sheetOld = s.sheetOld ∧ (State.csuProgram r s).hlu = s.hlu ∧ (State.csuProgram r s).qen = s.qen ∧ (State.csuProgram r s).tnu = s.tnu ∧ (State.csuProgram r s).gal = s.gal ∧ (State.csuProgram r s).mxe = s.mxe ∧ (State.csuProgram r s).dsc = s.dsc ∧ (State.csuProgram r s).fca = s.fca ∧ (State.csuProgram r s).cdx = s.cdx ∧ (State.csuProgram r s).spe = s.spe ∧ (State.csuProgram r s).hum = s.hum ∧ (State.csuProgram r s).bpm = s.bpm ∧ (State.csuProgram r s).dmc = s.dmc ∧ (State.csuProgram r s).ccl = s.ccl ∧ (State.csuProgram r s).mgp = s.mgp :=
  have h := (State.csuProgram_touch _ _ (by simp) (Touch.refl 10485792 _))
  ⟨h.pending, h.out rfl, h.freeCnt rfl, h.timers rfl, h.tbu rfl, h.power rfl, h.sheet rfl, h.sheetOld rfl, h.hlu rfl, h.qen rfl, h.tnu rfl, h.gal rfl, h.mxe rfl, h.dsc rfl, h.fca rfl, h.cdx rfl, h.spe rfl, h.hum rfl, h.bpm rfl, h.dmc rfl, h.ccl rfl, h.mgp rfl⟩

@[simp] theorem State.csuErase_units (r : CsuRequest) (s : State) :
    (State.csuErase r s).pending = s.pending ∧ (State.csuErase r s).out = s.out ∧ (State.csuErase r s).freeCnt = s.freeCnt ∧ (State.csuErase r s).timers = s.timers ∧ (State.csuErase r s).tbu = s.tbu ∧ (State.csuErase r s).power = s.power ∧ (State.csuErase r s).sheet = s.sheet ∧ (State.csuErase r s).sheetOld = s.sheetOld ∧ (State.csuErase r s).hlu = s.hlu ∧ (State.csuErase r s).qen = s.qen ∧ (State.csuErase r s).tnu = s.tnu ∧ (State.csuErase r s).gal = s.gal ∧ (State.csuErase r s).mxe = s.mxe ∧ (State.csuErase r s).dsc = s.dsc ∧ (State.csuErase r s).fca = s.fca ∧ (State.csuErase r s).cdx = s.cdx ∧ (State.csuErase r s).spe = s.spe ∧ (State.csuErase r s).hum = s.hum ∧ (State.csuErase r s).bpm = s.bpm ∧ (State.csuErase r s).dmc = s.dmc ∧ (State.csuErase r s).ccl = s.ccl ∧ (State.csuErase r s).mgp = s.mgp :=
  have h := (State.csuErase_touch _ _ (by simp) (Touch.refl 10485792 _))
  ⟨h.pending, h.out rfl, h.freeCnt rfl, h.timers rfl, h.tbu rfl, h.power rfl, h.sheet rfl, h.sheetOld rfl, h.hlu rfl, h.qen rfl, h.tnu rfl, h.gal rfl, h.mxe rfl, h.dsc rfl, h.fca rfl, h.cdx rfl, h.spe rfl, h.hum rfl, h.bpm rfl, h.dmc rfl, h.ccl rfl, h.mgp rfl⟩

@[simp] theorem State.windowProgram_units (r : CsuRequest) (s : State) :
    (State.windowProgram r s).pending = s.pending ∧ (State.windowProgram r s).out = s.out ∧ (State.windowProgram r s).freeCnt = s.freeCnt ∧ (State.windowProgram r s).timers = s.timers ∧ (State.windowProgram r s).tbu = s.tbu ∧ (State.windowProgram r s).power = s.power ∧ (State.windowProgram r s).sheet = s.sheet ∧ (State.windowProgram r s).sheetOld = s.sheetOld ∧ (State.windowProgram r s).hlu = s.hlu ∧ (State.windowProgram r s).qen = s.qen ∧ (State.windowProgram r s).tnu = s.tnu ∧ (State.windowProgram r s).gal = s.gal ∧ (State.windowProgram r s).mxe = s.mxe ∧ (State.windowProgram r s).dsc = s.dsc ∧ (State.windowProgram r s).fca = s.fca ∧ (State.windowProgram r s).cdx = s.cdx ∧ (State.windowProgram r s).spe = s.spe ∧ (State.windowProgram r s).hum = s.hum ∧ (State.windowProgram r s).bpm = s.bpm ∧ (State.windowProgram r s).dmc = s.dmc ∧ (State.windowProgram r s).ccl = s.ccl ∧ (State.windowProgram r s).mgp = s.mgp :=
  have h := (State.windowProgram_touch _ _ (by simp) (Touch.refl 10485792 _))
  ⟨h.pending, h.out rfl, h.freeCnt rfl, h.timers rfl, h.tbu rfl, h.power rfl, h.sheet rfl, h.sheetOld rfl, h.hlu rfl, h.qen rfl, h.tnu rfl, h.gal rfl, h.mxe rfl, h.dsc rfl, h.fca rfl, h.cdx rfl, h.spe rfl, h.hum rfl, h.bpm rfl, h.dmc rfl, h.ccl rfl, h.mgp rfl⟩

@[simp] theorem State.windowErase_units (r : CsuRequest) (s : State) :
    (State.windowErase r s).pending = s.pending ∧ (State.windowErase r s).out = s.out ∧ (State.windowErase r s).freeCnt = s.freeCnt ∧ (State.windowErase r s).timers = s.timers ∧ (State.windowErase r s).tbu = s.tbu ∧ (State.windowErase r s).power = s.power ∧ (State.windowErase r s).sheet = s.sheet ∧ (State.windowErase r s).sheetOld = s.sheetOld ∧ (State.windowErase r s).hlu = s.hlu ∧ (State.windowErase r s).qen = s.qen ∧ (State.windowErase r s).tnu = s.tnu ∧ (State.windowErase r s).gal = s.gal ∧ (State.windowErase r s).mxe = s.mxe ∧ (State.windowErase r s).dsc = s.dsc ∧ (State.windowErase r s).fca = s.fca ∧ (State.windowErase r s).cdx = s.cdx ∧ (State.windowErase r s).spe = s.spe ∧ (State.windowErase r s).hum = s.hum ∧ (State.windowErase r s).bpm = s.bpm ∧ (State.windowErase r s).dmc = s.dmc ∧ (State.windowErase r s).ccl = s.ccl ∧ (State.windowErase r s).mgp = s.mgp :=
  have h := (State.windowErase_touch _ _ (by simp) (Touch.refl 10485792 _))
  ⟨h.pending, h.out rfl, h.freeCnt rfl, h.timers rfl, h.tbu rfl, h.power rfl, h.sheet rfl, h.sheetOld rfl, h.hlu rfl, h.qen rfl, h.tnu rfl, h.gal rfl, h.mxe rfl, h.dsc rfl, h.fca rfl, h.cdx rfl, h.spe rfl, h.hum rfl, h.bpm rfl, h.dmc rfl, h.ccl rfl, h.mgp rfl⟩

@[simp] theorem State.loaderCopied_units (r : CsuRequest) (s : State) :
    (State.loaderCopied r s).pending = s.pending ∧ (State.loaderCopied r s).out = s.out ∧ (State.loaderCopied r s).freeCnt = s.freeCnt ∧ (State.loaderCopied r s).timers = s.timers ∧ (State.loaderCopied r s).tbu = s.tbu ∧ (State.loaderCopied r s).power = s.power ∧ (State.loaderCopied r s).sheet = s.sheet ∧ (State.loaderCopied r s).sheetOld = s.sheetOld ∧ (State.loaderCopied r s).hlu = s.hlu ∧ (State.loaderCopied r s).qen = s.qen ∧ (State.loaderCopied r s).tnu = s.tnu ∧ (State.loaderCopied r s).gal = s.gal ∧ (State.loaderCopied r s).mxe = s.mxe ∧ (State.loaderCopied r s).dsc = s.dsc ∧ (State.loaderCopied r s).fca = s.fca ∧ (State.loaderCopied r s).cdx = s.cdx ∧ (State.loaderCopied r s).spe = s.spe ∧ (State.loaderCopied r s).hum = s.hum ∧ (State.loaderCopied r s).bpm = s.bpm ∧ (State.loaderCopied r s).dmc = s.dmc ∧ (State.loaderCopied r s).mgp = s.mgp :=
  have h := (State.loaderCopied_touch _ _ (by simp) (Touch.refl 11534368 _))
  ⟨h.pending, h.out rfl, h.freeCnt rfl, h.timers rfl, h.tbu rfl, h.power rfl, h.sheet rfl, h.sheetOld rfl, h.hlu rfl, h.qen rfl, h.tnu rfl, h.gal rfl, h.mxe rfl, h.dsc rfl, h.fca rfl, h.cdx rfl, h.spe rfl, h.hum rfl, h.bpm rfl, h.dmc rfl, h.mgp rfl⟩

@[simp] theorem State.csuCommand_units (r : CsuRequest) (op : Nat) (s : State) :
    (State.csuCommand r op s).pending = s.pending ∧ (State.csuCommand r op s).out = s.out ∧ (State.csuCommand r op s).freeCnt = s.freeCnt ∧ (State.csuCommand r op s).timers = s.timers ∧ (State.csuCommand r op s).tbu = s.tbu ∧ (State.csuCommand r op s).power = s.power ∧ (State.csuCommand r op s).sheet = s.sheet ∧ (State.csuCommand r op s).sheetOld = s.sheetOld ∧ (State.csuCommand r op s).hlu = s.hlu ∧ (State.csuCommand r op s).qen = s.qen ∧ (State.csuCommand r op s).tnu = s.tnu ∧ (State.csuCommand r op s).gal = s.gal ∧ (State.csuCommand r op s).mxe = s.mxe ∧ (State.csuCommand r op s).dsc = s.dsc ∧ (State.csuCommand r op s).fca = s.fca ∧ (State.csuCommand r op s).cdx = s.cdx ∧ (State.csuCommand r op s).spe = s.spe ∧ (State.csuCommand r op s).hum = s.hum ∧ (State.csuCommand r op s).bpm = s.bpm ∧ (State.csuCommand r op s).dmc = s.dmc ∧ (State.csuCommand r op s).mgp = s.mgp :=
  have h := (State.csuCommand_touch _ _ _ (by simp) (Touch.refl 11534368 _))
  ⟨h.pending, h.out rfl, h.freeCnt rfl, h.timers rfl, h.tbu rfl, h.power rfl, h.sheet rfl, h.sheetOld rfl, h.hlu rfl, h.qen rfl, h.tnu rfl, h.gal rfl, h.mxe rfl, h.dsc rfl, h.fca rfl, h.cdx rfl, h.spe rfl, h.hum rfl, h.bpm rfl, h.dmc rfl, h.mgp rfl⟩

@[simp] theorem State.spoil_units (a n : Nat) (s : State) :
    (State.spoil a n s).pending = s.pending ∧ (State.spoil a n s).out = s.out ∧ (State.spoil a n s).timers = s.timers ∧ (State.spoil a n s).tbu = s.tbu ∧ (State.spoil a n s).power = s.power ∧ (State.spoil a n s).regf = s.regf ∧ (State.spoil a n s).sheet = s.sheet ∧ (State.spoil a n s).sheetOld = s.sheetOld ∧ (State.spoil a n s).hlu = s.hlu ∧ (State.spoil a n s).qen = s.qen ∧ (State.spoil a n s).tnu = s.tnu ∧ (State.spoil a n s).gal = s.gal ∧ (State.spoil a n s).mxe = s.mxe ∧ (State.spoil a n s).dsc = s.dsc ∧ (State.spoil a n s).fca = s.fca ∧ (State.spoil a n s).cdx = s.cdx ∧ (State.spoil a n s).spe = s.spe ∧ (State.spoil a n s).hum = s.hum ∧ (State.spoil a n s).bpm = s.bpm ∧ (State.spoil a n s).dmc = s.dmc ∧ (State.spoil a n s).ccl = s.ccl ∧ (State.spoil a n s).mgp = s.mgp ∧ (State.spoil a n s).cru = s.cru :=
  have h := (State.spoil_touch _ _ _ (by simp) (Touch.refl 2097154 _))
  ⟨h.pending, h.out rfl, h.timers rfl, h.tbu rfl, h.power rfl, h.regf rfl, h.sheet rfl, h.sheetOld rfl, h.hlu rfl, h.qen rfl, h.tnu rfl, h.gal rfl, h.mxe rfl, h.dsc rfl, h.fca rfl, h.cdx rfl, h.spe rfl, h.hum rfl, h.bpm rfl, h.dmc rfl, h.ccl rfl, h.mgp rfl, h.cru rfl⟩

@[simp] theorem State.flashDone_units (o : BankOp) (ok : Bool) (s : State) :
    (State.flashDone o ok s).pending = s.pending ∧ (State.flashDone o ok s).out = s.out ∧ (State.flashDone o ok s).timers = s.timers ∧ (State.flashDone o ok s).tbu = s.tbu ∧ (State.flashDone o ok s).power = s.power ∧ (State.flashDone o ok s).regf = s.regf ∧ (State.flashDone o ok s).sheetOld = s.sheetOld ∧ (State.flashDone o ok s).hlu = s.hlu ∧ (State.flashDone o ok s).qen = s.qen ∧ (State.flashDone o ok s).tnu = s.tnu ∧ (State.flashDone o ok s).gal = s.gal ∧ (State.flashDone o ok s).mxe = s.mxe ∧ (State.flashDone o ok s).dsc = s.dsc ∧ (State.flashDone o ok s).fca = s.fca ∧ (State.flashDone o ok s).cdx = s.cdx ∧ (State.flashDone o ok s).spe = s.spe ∧ (State.flashDone o ok s).hum = s.hum ∧ (State.flashDone o ok s).bpm = s.bpm ∧ (State.flashDone o ok s).dmc = s.dmc ∧ (State.flashDone o ok s).ccl = s.ccl ∧ (State.flashDone o ok s).mgp = s.mgp ∧ (State.flashDone o ok s).cru = s.cru :=
  have h := (State.flashDone_touch _ _ _ (by simp) (Touch.refl 2097218 _))
  ⟨h.pending, h.out rfl, h.timers rfl, h.tbu rfl, h.power rfl, h.regf rfl, h.sheetOld rfl, h.hlu rfl, h.qen rfl, h.tnu rfl, h.gal rfl, h.mxe rfl, h.dsc rfl, h.fca rfl, h.cdx rfl, h.spe rfl, h.hum rfl, h.bpm rfl, h.dmc rfl, h.ccl rfl, h.mgp rfl, h.cru rfl⟩

@[simp] theorem State.heldWindow_units (s : State) :
    (State.heldWindow s).pending = s.pending ∧ (State.heldWindow s).out = s.out ∧ (State.heldWindow s).freeCnt = s.freeCnt ∧ (State.heldWindow s).timers = s.timers ∧ (State.heldWindow s).tbu = s.tbu ∧ (State.heldWindow s).power = s.power ∧ (State.heldWindow s).sheet = s.sheet ∧ (State.heldWindow s).sheetOld = s.sheetOld ∧ (State.heldWindow s).hlu = s.hlu ∧ (State.heldWindow s).qen = s.qen ∧ (State.heldWindow s).tnu = s.tnu ∧ (State.heldWindow s).gal = s.gal ∧ (State.heldWindow s).mxe = s.mxe ∧ (State.heldWindow s).dsc = s.dsc ∧ (State.heldWindow s).fca = s.fca ∧ (State.heldWindow s).cdx = s.cdx ∧ (State.heldWindow s).spe = s.spe ∧ (State.heldWindow s).hum = s.hum ∧ (State.heldWindow s).bpm = s.bpm ∧ (State.heldWindow s).dmc = s.dmc ∧ (State.heldWindow s).ccl = s.ccl ∧ (State.heldWindow s).mgp = s.mgp :=
  have h := (State.heldWindow_touch _ (by simp) (Touch.refl 10485792 _))
  ⟨h.pending, h.out rfl, h.freeCnt rfl, h.timers rfl, h.tbu rfl, h.power rfl, h.sheet rfl, h.sheetOld rfl, h.hlu rfl, h.qen rfl, h.tnu rfl, h.gal rfl, h.mxe rfl, h.dsc rfl, h.fca rfl, h.cdx rfl, h.spe rfl, h.hum rfl, h.bpm rfl, h.dmc rfl, h.ccl rfl, h.mgp rfl⟩

@[simp] theorem State.writeWp_units (cluster : Cluster) (pair n : Nat) (value : Word) (s : State) :
    (State.writeWp cluster pair n value s).pending = s.pending ∧ (State.writeWp cluster pair n value s).out = s.out ∧ (State.writeWp cluster pair n value s).freeCnt = s.freeCnt ∧ (State.writeWp cluster pair n value s).timers = s.timers ∧ (State.writeWp cluster pair n value s).tbu = s.tbu ∧ (State.writeWp cluster pair n value s).power = s.power ∧ (State.writeWp cluster pair n value s).regf = s.regf ∧ (State.writeWp cluster pair n value s).sheet = s.sheet ∧ (State.writeWp cluster pair n value s).sheetOld = s.sheetOld ∧ (State.writeWp cluster pair n value s).hlu = s.hlu ∧ (State.writeWp cluster pair n value s).qen = s.qen ∧ (State.writeWp cluster pair n value s).tnu = s.tnu ∧ (State.writeWp cluster pair n value s).gal = s.gal ∧ (State.writeWp cluster pair n value s).mxe = s.mxe ∧ (State.writeWp cluster pair n value s).dsc = s.dsc ∧ (State.writeWp cluster pair n value s).fca = s.fca ∧ (State.writeWp cluster pair n value s).cdx = s.cdx ∧ (State.writeWp cluster pair n value s).spe = s.spe ∧ (State.writeWp cluster pair n value s).hum = s.hum ∧ (State.writeWp cluster pair n value s).bpm = s.bpm ∧ (State.writeWp cluster pair n value s).dmc = s.dmc ∧ (State.writeWp cluster pair n value s).ccl = s.ccl ∧ (State.writeWp cluster pair n value s).mgp = s.mgp ∧ (State.writeWp cluster pair n value s).cru = s.cru :=
  have h := (State.writeWp_touch _ _ _ _ _ (by simp) (Touch.refl 2097152 _))
  ⟨h.pending, h.out rfl, h.freeCnt rfl, h.timers rfl, h.tbu rfl, h.power rfl, h.regf rfl, h.sheet rfl, h.sheetOld rfl, h.hlu rfl, h.qen rfl, h.tnu rfl, h.gal rfl, h.mxe rfl, h.dsc rfl, h.fca rfl, h.cdx rfl, h.spe rfl, h.hum rfl, h.bpm rfl, h.dmc rfl, h.ccl rfl, h.mgp rfl, h.cru rfl⟩

@[simp] theorem State.stopFlash_units (s : State) :
    (State.stopFlash s).pending = s.pending ∧ (State.stopFlash s).out = s.out ∧ (State.stopFlash s).timers = s.timers ∧ (State.stopFlash s).tbu = s.tbu ∧ (State.stopFlash s).power = s.power ∧ (State.stopFlash s).regf = s.regf ∧ (State.stopFlash s).sheet = s.sheet ∧ (State.stopFlash s).sheetOld = s.sheetOld ∧ (State.stopFlash s).hlu = s.hlu ∧ (State.stopFlash s).qen = s.qen ∧ (State.stopFlash s).tnu = s.tnu ∧ (State.stopFlash s).gal = s.gal ∧ (State.stopFlash s).mxe = s.mxe ∧ (State.stopFlash s).dsc = s.dsc ∧ (State.stopFlash s).fca = s.fca ∧ (State.stopFlash s).cdx = s.cdx ∧ (State.stopFlash s).spe = s.spe ∧ (State.stopFlash s).hum = s.hum ∧ (State.stopFlash s).bpm = s.bpm ∧ (State.stopFlash s).dmc = s.dmc ∧ (State.stopFlash s).ccl = s.ccl ∧ (State.stopFlash s).mgp = s.mgp ∧ (State.stopFlash s).cru = s.cru :=
  have h := (State.stopFlash_touch _ (by simp) (Touch.refl 2097154 _))
  ⟨h.pending, h.out rfl, h.timers rfl, h.tbu rfl, h.power rfl, h.regf rfl, h.sheet rfl, h.sheetOld rfl, h.hlu rfl, h.qen rfl, h.tnu rfl, h.gal rfl, h.mxe rfl, h.dsc rfl, h.fca rfl, h.cdx rfl, h.spe rfl, h.hum rfl, h.bpm rfl, h.dmc rfl, h.ccl rfl, h.mgp rfl, h.cru rfl⟩

@[simp] theorem State.debugWrite_units (sp : DebugSpace) (a : Nat) (b : Byte) (s : State) :
    (State.debugWrite sp a b s).pending = s.pending ∧ (State.debugWrite sp a b s).out = s.out ∧ (State.debugWrite sp a b s).freeCnt = s.freeCnt ∧ (State.debugWrite sp a b s).timers = s.timers ∧ (State.debugWrite sp a b s).tbu = s.tbu ∧ (State.debugWrite sp a b s).power = s.power ∧ (State.debugWrite sp a b s).regf = s.regf ∧ (State.debugWrite sp a b s).sheet = s.sheet ∧ (State.debugWrite sp a b s).sheetOld = s.sheetOld ∧ (State.debugWrite sp a b s).hlu = s.hlu ∧ (State.debugWrite sp a b s).qen = s.qen ∧ (State.debugWrite sp a b s).tnu = s.tnu ∧ (State.debugWrite sp a b s).gal = s.gal ∧ (State.debugWrite sp a b s).mxe = s.mxe ∧ (State.debugWrite sp a b s).dsc = s.dsc ∧ (State.debugWrite sp a b s).fca = s.fca ∧ (State.debugWrite sp a b s).cdx = s.cdx ∧ (State.debugWrite sp a b s).spe = s.spe ∧ (State.debugWrite sp a b s).hum = s.hum ∧ (State.debugWrite sp a b s).mgp = s.mgp ∧ (State.debugWrite sp a b s).cru = s.cru :=
  have h := (State.debugWrite_touch _ _ _ _ (by simp) (Touch.refl 3932160 _))
  ⟨h.pending, h.out rfl, h.freeCnt rfl, h.timers rfl, h.tbu rfl, h.power rfl, h.regf rfl, h.sheet rfl, h.sheetOld rfl, h.hlu rfl, h.qen rfl, h.tnu rfl, h.gal rfl, h.mxe rfl, h.dsc rfl, h.fca rfl, h.cdx rfl, h.spe rfl, h.hum rfl, h.mgp rfl, h.cru rfl⟩

@[simp] theorem State.stageRecord_units (r : Record) (s : State) :
    (State.stageRecord r s).pending = s.pending ∧ (State.stageRecord r s).out = s.out ∧ (State.stageRecord r s).freeCnt = s.freeCnt ∧ (State.stageRecord r s).timers = s.timers ∧ (State.stageRecord r s).tbu = s.tbu ∧ (State.stageRecord r s).power = s.power ∧ (State.stageRecord r s).regf = s.regf ∧ (State.stageRecord r s).sheet = s.sheet ∧ (State.stageRecord r s).sheetOld = s.sheetOld ∧ (State.stageRecord r s).hlu = s.hlu ∧ (State.stageRecord r s).qen = s.qen ∧ (State.stageRecord r s).tnu = s.tnu ∧ (State.stageRecord r s).gal = s.gal ∧ (State.stageRecord r s).mxe = s.mxe ∧ (State.stageRecord r s).dsc = s.dsc ∧ (State.stageRecord r s).fca = s.fca ∧ (State.stageRecord r s).cdx = s.cdx ∧ (State.stageRecord r s).spe = s.spe ∧ (State.stageRecord r s).hum = s.hum ∧ (State.stageRecord r s).bpm = s.bpm ∧ (State.stageRecord r s).dmc = s.dmc ∧ (State.stageRecord r s).ccl = s.ccl ∧ (State.stageRecord r s).mgp = s.mgp :=
  have h := (State.stageRecord_touch _ _ (by simp) (Touch.refl 10485760 _))
  ⟨h.pending, h.out rfl, h.freeCnt rfl, h.timers rfl, h.tbu rfl, h.power rfl, h.regf rfl, h.sheet rfl, h.sheetOld rfl, h.hlu rfl, h.qen rfl, h.tnu rfl, h.gal rfl, h.mxe rfl, h.dsc rfl, h.fca rfl, h.cdx rfl, h.spe rfl, h.hum rfl, h.bpm rfl, h.dmc rfl, h.ccl rfl, h.mgp rfl⟩

@[simp] theorem State.slatesEnd_units (s : State) :
    (State.slatesEnd s).pending = s.pending ∧ (State.slatesEnd s).out = s.out ∧ (State.slatesEnd s).freeCnt = s.freeCnt ∧ (State.slatesEnd s).timers = s.timers ∧ (State.slatesEnd s).tbu = s.tbu ∧ (State.slatesEnd s).power = s.power ∧ (State.slatesEnd s).regf = s.regf ∧ (State.slatesEnd s).sheet = s.sheet ∧ (State.slatesEnd s).sheetOld = s.sheetOld ∧ (State.slatesEnd s).hlu = s.hlu ∧ (State.slatesEnd s).qen = s.qen ∧ (State.slatesEnd s).tnu = s.tnu ∧ (State.slatesEnd s).gal = s.gal ∧ (State.slatesEnd s).mxe = s.mxe ∧ (State.slatesEnd s).dsc = s.dsc ∧ (State.slatesEnd s).fca = s.fca ∧ (State.slatesEnd s).cdx = s.cdx ∧ (State.slatesEnd s).spe = s.spe ∧ (State.slatesEnd s).hum = s.hum ∧ (State.slatesEnd s).bpm = s.bpm ∧ (State.slatesEnd s).dmc = s.dmc ∧ (State.slatesEnd s).ccl = s.ccl ∧ (State.slatesEnd s).csu = s.csu ∧ (State.slatesEnd s).mgp = s.mgp :=
  have h := (State.slatesEnd_touch _ (by simp) (Touch.refl 8388608 _))
  ⟨h.pending, h.out rfl, h.freeCnt rfl, h.timers rfl, h.tbu rfl, h.power rfl, h.regf rfl, h.sheet rfl, h.sheetOld rfl, h.hlu rfl, h.qen rfl, h.tnu rfl, h.gal rfl, h.mxe rfl, h.dsc rfl, h.fca rfl, h.cdx rfl, h.spe rfl, h.hum rfl, h.bpm rfl, h.dmc rfl, h.ccl rfl, h.csu rfl, h.mgp rfl⟩

@[simp] theorem State.captureTick_units (peek : State → Nat → Word) (s : State) :
    (State.captureTick peek s).pending = s.pending ∧ (State.captureTick peek s).out = s.out ∧ (State.captureTick peek s).freeCnt = s.freeCnt ∧ (State.captureTick peek s).timers = s.timers ∧ (State.captureTick peek s).tbu = s.tbu ∧ (State.captureTick peek s).power = s.power ∧ (State.captureTick peek s).regf = s.regf ∧ (State.captureTick peek s).sheet = s.sheet ∧ (State.captureTick peek s).sheetOld = s.sheetOld ∧ (State.captureTick peek s).hlu = s.hlu ∧ (State.captureTick peek s).qen = s.qen ∧ (State.captureTick peek s).tnu = s.tnu ∧ (State.captureTick peek s).gal = s.gal ∧ (State.captureTick peek s).mxe = s.mxe ∧ (State.captureTick peek s).dsc = s.dsc ∧ (State.captureTick peek s).fca = s.fca ∧ (State.captureTick peek s).cdx = s.cdx ∧ (State.captureTick peek s).spe = s.spe ∧ (State.captureTick peek s).hum = s.hum ∧ (State.captureTick peek s).bpm = s.bpm ∧ (State.captureTick peek s).dmc = s.dmc ∧ (State.captureTick peek s).ccl = s.ccl ∧ (State.captureTick peek s).mgp = s.mgp :=
  have h := (State.captureTick_touch _ _ (by simp) (Touch.refl 10485760 _))
  ⟨h.pending, h.out rfl, h.freeCnt rfl, h.timers rfl, h.tbu rfl, h.power rfl, h.regf rfl, h.sheet rfl, h.sheetOld rfl, h.hlu rfl, h.qen rfl, h.tnu rfl, h.gal rfl, h.mxe rfl, h.dsc rfl, h.fca rfl, h.cdx rfl, h.spe rfl, h.hum rfl, h.bpm rfl, h.dmc rfl, h.ccl rfl, h.mgp rfl⟩

@[simp] theorem State.fwTrig_units (code : Nat) (s : State) :
    (State.fwTrig code s).pending = s.pending ∧ (State.fwTrig code s).out = s.out ∧ (State.fwTrig code s).freeCnt = s.freeCnt ∧ (State.fwTrig code s).timers = s.timers ∧ (State.fwTrig code s).tbu = s.tbu ∧ (State.fwTrig code s).power = s.power ∧ (State.fwTrig code s).sheet = s.sheet ∧ (State.fwTrig code s).sheetOld = s.sheetOld ∧ (State.fwTrig code s).hlu = s.hlu ∧ (State.fwTrig code s).qen = s.qen ∧ (State.fwTrig code s).tnu = s.tnu ∧ (State.fwTrig code s).gal = s.gal ∧ (State.fwTrig code s).mxe = s.mxe ∧ (State.fwTrig code s).dsc = s.dsc ∧ (State.fwTrig code s).fca = s.fca ∧ (State.fwTrig code s).cdx = s.cdx ∧ (State.fwTrig code s).spe = s.spe ∧ (State.fwTrig code s).hum = s.hum ∧ (State.fwTrig code s).bpm = s.bpm ∧ (State.fwTrig code s).dmc = s.dmc ∧ (State.fwTrig code s).ccl = s.ccl ∧ (State.fwTrig code s).csu = s.csu ∧ (State.fwTrig code s).mgp = s.mgp :=
  have h := (State.fwTrig_touch _ _ (by simp) (Touch.refl 8388640 _))
  ⟨h.pending, h.out rfl, h.freeCnt rfl, h.timers rfl, h.tbu rfl, h.power rfl, h.sheet rfl, h.sheetOld rfl, h.hlu rfl, h.qen rfl, h.tnu rfl, h.gal rfl, h.mxe rfl, h.dsc rfl, h.fca rfl, h.cdx rfl, h.spe rfl, h.hum rfl, h.bpm rfl, h.dmc rfl, h.ccl rfl, h.csu rfl, h.mgp rfl⟩

@[simp] theorem State.setFreeze_units (on : Bool) (s : State) :
    (State.setFreeze on s).pending = s.pending ∧ (State.setFreeze on s).out = s.out ∧ (State.setFreeze on s).freeCnt = s.freeCnt ∧ (State.setFreeze on s).timers = s.timers ∧ (State.setFreeze on s).tbu = s.tbu ∧ (State.setFreeze on s).power = s.power ∧ (State.setFreeze on s).regf = s.regf ∧ (State.setFreeze on s).sheet = s.sheet ∧ (State.setFreeze on s).sheetOld = s.sheetOld ∧ (State.setFreeze on s).hlu = s.hlu ∧ (State.setFreeze on s).qen = s.qen ∧ (State.setFreeze on s).tnu = s.tnu ∧ (State.setFreeze on s).gal = s.gal ∧ (State.setFreeze on s).mxe = s.mxe ∧ (State.setFreeze on s).dsc = s.dsc ∧ (State.setFreeze on s).fca = s.fca ∧ (State.setFreeze on s).cdx = s.cdx ∧ (State.setFreeze on s).spe = s.spe ∧ (State.setFreeze on s).hum = s.hum ∧ (State.setFreeze on s).bpm = s.bpm ∧ (State.setFreeze on s).dmc = s.dmc ∧ (State.setFreeze on s).ccl = s.ccl ∧ (State.setFreeze on s).csu = s.csu ∧ (State.setFreeze on s).mgp = s.mgp :=
  have h := (State.setFreeze_touch _ _ (by simp) (Touch.refl 8388608 _))
  ⟨h.pending, h.out rfl, h.freeCnt rfl, h.timers rfl, h.tbu rfl, h.power rfl, h.regf rfl, h.sheet rfl, h.sheetOld rfl, h.hlu rfl, h.qen rfl, h.tnu rfl, h.gal rfl, h.mxe rfl, h.dsc rfl, h.fca rfl, h.cdx rfl, h.spe rfl, h.hum rfl, h.bpm rfl, h.dmc rfl, h.ccl rfl, h.csu rfl, h.mgp rfl⟩

@[simp] theorem State.resetCru_units (class1 : Bool) (s : State) :
    (State.resetCru class1 s).pending = s.pending ∧ (State.resetCru class1 s).out = s.out ∧ (State.resetCru class1 s).freeCnt = s.freeCnt ∧ (State.resetCru class1 s).timers = s.timers ∧ (State.resetCru class1 s).tbu = s.tbu ∧ (State.resetCru class1 s).power = s.power ∧ (State.resetCru class1 s).regf = s.regf ∧ (State.resetCru class1 s).sheet = s.sheet ∧ (State.resetCru class1 s).sheetOld = s.sheetOld ∧ (State.resetCru class1 s).hlu = s.hlu ∧ (State.resetCru class1 s).qen = s.qen ∧ (State.resetCru class1 s).tnu = s.tnu ∧ (State.resetCru class1 s).gal = s.gal ∧ (State.resetCru class1 s).mxe = s.mxe ∧ (State.resetCru class1 s).dsc = s.dsc ∧ (State.resetCru class1 s).fca = s.fca ∧ (State.resetCru class1 s).cdx = s.cdx ∧ (State.resetCru class1 s).spe = s.spe ∧ (State.resetCru class1 s).hum = s.hum ∧ (State.resetCru class1 s).bpm = s.bpm ∧ (State.resetCru class1 s).dmc = s.dmc ∧ (State.resetCru class1 s).ccl = s.ccl ∧ (State.resetCru class1 s).csu = s.csu ∧ (State.resetCru class1 s).mgp = s.mgp :=
  have h := (State.resetCru_touch _ _ (by simp) (Touch.refl 8388608 _))
  ⟨h.pending, h.out rfl, h.freeCnt rfl, h.timers rfl, h.tbu rfl, h.power rfl, h.regf rfl, h.sheet rfl, h.sheetOld rfl, h.hlu rfl, h.qen rfl, h.tnu rfl, h.gal rfl, h.mxe rfl, h.dsc rfl, h.fca rfl, h.cdx rfl, h.spe rfl, h.hum rfl, h.bpm rfl, h.dmc rfl, h.ccl rfl, h.csu rfl, h.mgp rfl⟩

@[simp] theorem State.startCru_units (s : State) :
    (State.startCru s).pending = s.pending ∧ (State.startCru s).out = s.out ∧ (State.startCru s).freeCnt = s.freeCnt ∧ (State.startCru s).timers = s.timers ∧ (State.startCru s).tbu = s.tbu ∧ (State.startCru s).power = s.power ∧ (State.startCru s).regf = s.regf ∧ (State.startCru s).sheet = s.sheet ∧ (State.startCru s).sheetOld = s.sheetOld ∧ (State.startCru s).hlu = s.hlu ∧ (State.startCru s).qen = s.qen ∧ (State.startCru s).tnu = s.tnu ∧ (State.startCru s).gal = s.gal ∧ (State.startCru s).mxe = s.mxe ∧ (State.startCru s).dsc = s.dsc ∧ (State.startCru s).fca = s.fca ∧ (State.startCru s).cdx = s.cdx ∧ (State.startCru s).spe = s.spe ∧ (State.startCru s).hum = s.hum ∧ (State.startCru s).bpm = s.bpm ∧ (State.startCru s).dmc = s.dmc ∧ (State.startCru s).ccl = s.ccl ∧ (State.startCru s).csu = s.csu ∧ (State.startCru s).mgp = s.mgp :=
  have h := (State.startCru_touch _ (by simp) (Touch.refl 8388608 _))
  ⟨h.pending, h.out rfl, h.freeCnt rfl, h.timers rfl, h.tbu rfl, h.power rfl, h.regf rfl, h.sheet rfl, h.sheetOld rfl, h.hlu rfl, h.qen rfl, h.tnu rfl, h.gal rfl, h.mxe rfl, h.dsc rfl, h.fca rfl, h.cdx rfl, h.spe rfl, h.hum rfl, h.bpm rfl, h.dmc rfl, h.ccl rfl, h.csu rfl, h.mgp rfl⟩

@[simp] theorem State.hallCru_units (s : State) :
    (State.hallCru s).pending = s.pending ∧ (State.hallCru s).out = s.out ∧ (State.hallCru s).freeCnt = s.freeCnt ∧ (State.hallCru s).timers = s.timers ∧ (State.hallCru s).tbu = s.tbu ∧ (State.hallCru s).power = s.power ∧ (State.hallCru s).regf = s.regf ∧ (State.hallCru s).sheet = s.sheet ∧ (State.hallCru s).sheetOld = s.sheetOld ∧ (State.hallCru s).hlu = s.hlu ∧ (State.hallCru s).qen = s.qen ∧ (State.hallCru s).tnu = s.tnu ∧ (State.hallCru s).gal = s.gal ∧ (State.hallCru s).mxe = s.mxe ∧ (State.hallCru s).dsc = s.dsc ∧ (State.hallCru s).fca = s.fca ∧ (State.hallCru s).cdx = s.cdx ∧ (State.hallCru s).spe = s.spe ∧ (State.hallCru s).hum = s.hum ∧ (State.hallCru s).bpm = s.bpm ∧ (State.hallCru s).dmc = s.dmc ∧ (State.hallCru s).ccl = s.ccl ∧ (State.hallCru s).csu = s.csu ∧ (State.hallCru s).mgp = s.mgp :=
  have h := (State.hallCru_touch _ (by simp) (Touch.refl 8388608 _))
  ⟨h.pending, h.out rfl, h.freeCnt rfl, h.timers rfl, h.tbu rfl, h.power rfl, h.regf rfl, h.sheet rfl, h.sheetOld rfl, h.hlu rfl, h.qen rfl, h.tnu rfl, h.gal rfl, h.mxe rfl, h.dsc rfl, h.fca rfl, h.cdx rfl, h.spe rfl, h.hum rfl, h.bpm rfl, h.dmc rfl, h.ccl rfl, h.csu rfl, h.mgp rfl⟩

@[simp] theorem State.loseStaging_units (s : State) :
    (State.loseStaging s).pending = s.pending ∧ (State.loseStaging s).out = s.out ∧ (State.loseStaging s).freeCnt = s.freeCnt ∧ (State.loseStaging s).timers = s.timers ∧ (State.loseStaging s).tbu = s.tbu ∧ (State.loseStaging s).power = s.power ∧ (State.loseStaging s).regf = s.regf ∧ (State.loseStaging s).sheet = s.sheet ∧ (State.loseStaging s).sheetOld = s.sheetOld ∧ (State.loseStaging s).hlu = s.hlu ∧ (State.loseStaging s).qen = s.qen ∧ (State.loseStaging s).tnu = s.tnu ∧ (State.loseStaging s).gal = s.gal ∧ (State.loseStaging s).mxe = s.mxe ∧ (State.loseStaging s).dsc = s.dsc ∧ (State.loseStaging s).fca = s.fca ∧ (State.loseStaging s).cdx = s.cdx ∧ (State.loseStaging s).spe = s.spe ∧ (State.loseStaging s).hum = s.hum ∧ (State.loseStaging s).bpm = s.bpm ∧ (State.loseStaging s).dmc = s.dmc ∧ (State.loseStaging s).ccl = s.ccl ∧ (State.loseStaging s).csu = s.csu ∧ (State.loseStaging s).mgp = s.mgp :=
  have h := (State.loseStaging_touch _ (by simp) (Touch.refl 8388608 _))
  ⟨h.pending, h.out rfl, h.freeCnt rfl, h.timers rfl, h.tbu rfl, h.power rfl, h.regf rfl, h.sheet rfl, h.sheetOld rfl, h.hlu rfl, h.qen rfl, h.tnu rfl, h.gal rfl, h.mxe rfl, h.dsc rfl, h.fca rfl, h.cdx rfl, h.spe rfl, h.hum rfl, h.bpm rfl, h.dmc rfl, h.ccl rfl, h.csu rfl, h.mgp rfl⟩

@[simp] theorem State.archiveRunning_units (s : State) :
    (State.archiveRunning s).pending = s.pending ∧ (State.archiveRunning s).out = s.out ∧ (State.archiveRunning s).freeCnt = s.freeCnt ∧ (State.archiveRunning s).timers = s.timers ∧ (State.archiveRunning s).tbu = s.tbu ∧ (State.archiveRunning s).power = s.power ∧ (State.archiveRunning s).regf = s.regf ∧ (State.archiveRunning s).sheet = s.sheet ∧ (State.archiveRunning s).sheetOld = s.sheetOld ∧ (State.archiveRunning s).hlu = s.hlu ∧ (State.archiveRunning s).qen = s.qen ∧ (State.archiveRunning s).tnu = s.tnu ∧ (State.archiveRunning s).gal = s.gal ∧ (State.archiveRunning s).mxe = s.mxe ∧ (State.archiveRunning s).dsc = s.dsc ∧ (State.archiveRunning s).fca = s.fca ∧ (State.archiveRunning s).cdx = s.cdx ∧ (State.archiveRunning s).spe = s.spe ∧ (State.archiveRunning s).hum = s.hum ∧ (State.archiveRunning s).bpm = s.bpm ∧ (State.archiveRunning s).dmc = s.dmc ∧ (State.archiveRunning s).ccl = s.ccl ∧ (State.archiveRunning s).mgp = s.mgp ∧ (State.archiveRunning s).cru = s.cru :=
  have h := (State.archiveRunning_touch _ (by simp) (Touch.refl 2097152 _))
  ⟨h.pending, h.out rfl, h.freeCnt rfl, h.timers rfl, h.tbu rfl, h.power rfl, h.regf rfl, h.sheet rfl, h.sheetOld rfl, h.hlu rfl, h.qen rfl, h.tnu rfl, h.gal rfl, h.mxe rfl, h.dsc rfl, h.fca rfl, h.cdx rfl, h.spe rfl, h.hum rfl, h.bpm rfl, h.dmc rfl, h.ccl rfl, h.mgp rfl, h.cru rfl⟩

@[simp] theorem State.writeBanks_units (t : List Byte) (st : Nat) (s : State) :
    (State.writeBanks t st s).pending = s.pending ∧ (State.writeBanks t st s).out = s.out ∧ (State.writeBanks t st s).freeCnt = s.freeCnt ∧ (State.writeBanks t st s).timers = s.timers ∧ (State.writeBanks t st s).tbu = s.tbu ∧ (State.writeBanks t st s).power = s.power ∧ (State.writeBanks t st s).sheet = s.sheet ∧ (State.writeBanks t st s).sheetOld = s.sheetOld ∧ (State.writeBanks t st s).hlu = s.hlu ∧ (State.writeBanks t st s).qen = s.qen ∧ (State.writeBanks t st s).tnu = s.tnu ∧ (State.writeBanks t st s).gal = s.gal ∧ (State.writeBanks t st s).mxe = s.mxe ∧ (State.writeBanks t st s).dsc = s.dsc ∧ (State.writeBanks t st s).fca = s.fca ∧ (State.writeBanks t st s).cdx = s.cdx ∧ (State.writeBanks t st s).spe = s.spe ∧ (State.writeBanks t st s).hum = s.hum ∧ (State.writeBanks t st s).bpm = s.bpm ∧ (State.writeBanks t st s).dmc = s.dmc ∧ (State.writeBanks t st s).ccl = s.ccl ∧ (State.writeBanks t st s).mgp = s.mgp :=
  have h := (State.writeBanks_touch _ _ _ (by simp) (Touch.refl 10485792 _))
  ⟨h.pending, h.out rfl, h.freeCnt rfl, h.timers rfl, h.tbu rfl, h.power rfl, h.sheet rfl, h.sheetOld rfl, h.hlu rfl, h.qen rfl, h.tnu rfl, h.gal rfl, h.mxe rfl, h.dsc rfl, h.fca rfl, h.cdx rfl, h.spe rfl, h.hum rfl, h.bpm rfl, h.dmc rfl, h.ccl rfl, h.mgp rfl⟩

@[simp] theorem State.writeTake_units (t : List Byte) (s : State) :
    (State.writeTake t s).pending = s.pending ∧ (State.writeTake t s).out = s.out ∧ (State.writeTake t s).freeCnt = s.freeCnt ∧ (State.writeTake t s).timers = s.timers ∧ (State.writeTake t s).tbu = s.tbu ∧ (State.writeTake t s).power = s.power ∧ (State.writeTake t s).sheet = s.sheet ∧ (State.writeTake t s).sheetOld = s.sheetOld ∧ (State.writeTake t s).hlu = s.hlu ∧ (State.writeTake t s).qen = s.qen ∧ (State.writeTake t s).tnu = s.tnu ∧ (State.writeTake t s).gal = s.gal ∧ (State.writeTake t s).mxe = s.mxe ∧ (State.writeTake t s).dsc = s.dsc ∧ (State.writeTake t s).fca = s.fca ∧ (State.writeTake t s).cdx = s.cdx ∧ (State.writeTake t s).spe = s.spe ∧ (State.writeTake t s).hum = s.hum ∧ (State.writeTake t s).bpm = s.bpm ∧ (State.writeTake t s).dmc = s.dmc ∧ (State.writeTake t s).ccl = s.ccl ∧ (State.writeTake t s).mgp = s.mgp :=
  have h := (State.writeTake_touch _ _ (by simp) (Touch.refl 10485792 _))
  ⟨h.pending, h.out rfl, h.freeCnt rfl, h.timers rfl, h.tbu rfl, h.power rfl, h.sheet rfl, h.sheetOld rfl, h.hlu rfl, h.qen rfl, h.tnu rfl, h.gal rfl, h.mxe rfl, h.dsc rfl, h.fca rfl, h.cdx rfl, h.spe rfl, h.hum rfl, h.bpm rfl, h.dmc rfl, h.ccl rfl, h.mgp rfl⟩

@[simp] theorem State.writeFailed_units (s : State) :
    (State.writeFailed s).pending = s.pending ∧ (State.writeFailed s).out = s.out ∧ (State.writeFailed s).freeCnt = s.freeCnt ∧ (State.writeFailed s).timers = s.timers ∧ (State.writeFailed s).tbu = s.tbu ∧ (State.writeFailed s).power = s.power ∧ (State.writeFailed s).sheet = s.sheet ∧ (State.writeFailed s).sheetOld = s.sheetOld ∧ (State.writeFailed s).hlu = s.hlu ∧ (State.writeFailed s).qen = s.qen ∧ (State.writeFailed s).tnu = s.tnu ∧ (State.writeFailed s).gal = s.gal ∧ (State.writeFailed s).mxe = s.mxe ∧ (State.writeFailed s).dsc = s.dsc ∧ (State.writeFailed s).fca = s.fca ∧ (State.writeFailed s).cdx = s.cdx ∧ (State.writeFailed s).spe = s.spe ∧ (State.writeFailed s).hum = s.hum ∧ (State.writeFailed s).bpm = s.bpm ∧ (State.writeFailed s).dmc = s.dmc ∧ (State.writeFailed s).ccl = s.ccl ∧ (State.writeFailed s).mgp = s.mgp :=
  have h := (State.writeFailed_touch _ (by simp) (Touch.refl 10485792 _))
  ⟨h.pending, h.out rfl, h.freeCnt rfl, h.timers rfl, h.tbu rfl, h.power rfl, h.sheet rfl, h.sheetOld rfl, h.hlu rfl, h.qen rfl, h.tnu rfl, h.gal rfl, h.mxe rfl, h.dsc rfl, h.fca rfl, h.cdx rfl, h.spe rfl, h.hum rfl, h.bpm rfl, h.dmc rfl, h.ccl rfl, h.mgp rfl⟩

@[simp] theorem State.countFallback_units (s : State) :
    (State.countFallback s).pending = s.pending ∧ (State.countFallback s).freeCnt = s.freeCnt ∧ (State.countFallback s).timers = s.timers ∧ (State.countFallback s).tbu = s.tbu ∧ (State.countFallback s).power = s.power ∧ (State.countFallback s).sheetOld = s.sheetOld ∧ (State.countFallback s).hlu = s.hlu ∧ (State.countFallback s).tnu = s.tnu ∧ (State.countFallback s).gal = s.gal ∧ (State.countFallback s).mxe = s.mxe ∧ (State.countFallback s).dsc = s.dsc ∧ (State.countFallback s).fca = s.fca ∧ (State.countFallback s).cdx = s.cdx ∧ (State.countFallback s).spe = s.spe ∧ (State.countFallback s).hum = s.hum ∧ (State.countFallback s).bpm = s.bpm ∧ (State.countFallback s).dmc = s.dmc ∧ (State.countFallback s).ccl = s.ccl ∧ (State.countFallback s).csu = s.csu :=
  have h := (State.countFallback_touch _ (by simp) (Touch.refl 12583521 _))
  ⟨h.pending, h.freeCnt rfl, h.timers rfl, h.tbu rfl, h.power rfl, h.sheetOld rfl, h.hlu rfl, h.tnu rfl, h.gal rfl, h.mxe rfl, h.dsc rfl, h.fca rfl, h.cdx rfl, h.spe rfl, h.hum rfl, h.bpm rfl, h.dmc rfl, h.ccl rfl, h.csu rfl⟩

@[simp] theorem State.stagedStart_units (s : State) :
    (State.stagedStart s).pending = s.pending ∧ (State.stagedStart s).out = s.out ∧ (State.stagedStart s).freeCnt = s.freeCnt ∧ (State.stagedStart s).timers = s.timers ∧ (State.stagedStart s).tbu = s.tbu ∧ (State.stagedStart s).power = s.power ∧ (State.stagedStart s).regf = s.regf ∧ (State.stagedStart s).sheetOld = s.sheetOld ∧ (State.stagedStart s).hlu = s.hlu ∧ (State.stagedStart s).qen = s.qen ∧ (State.stagedStart s).tnu = s.tnu ∧ (State.stagedStart s).gal = s.gal ∧ (State.stagedStart s).mxe = s.mxe ∧ (State.stagedStart s).dsc = s.dsc ∧ (State.stagedStart s).fca = s.fca ∧ (State.stagedStart s).cdx = s.cdx ∧ (State.stagedStart s).spe = s.spe ∧ (State.stagedStart s).hum = s.hum ∧ (State.stagedStart s).bpm = s.bpm ∧ (State.stagedStart s).dmc = s.dmc ∧ (State.stagedStart s).ccl = s.ccl ∧ (State.stagedStart s).csu = s.csu ∧ (State.stagedStart s).mgp = s.mgp ∧ (State.stagedStart s).cru = s.cru :=
  have h := (State.stagedStart_touch _ (by simp) (Touch.refl 64 _))
  ⟨h.pending, h.out rfl, h.freeCnt rfl, h.timers rfl, h.tbu rfl, h.power rfl, h.regf rfl, h.sheetOld rfl, h.hlu rfl, h.qen rfl, h.tnu rfl, h.gal rfl, h.mxe rfl, h.dsc rfl, h.fca rfl, h.cdx rfl, h.spe rfl, h.hum rfl, h.bpm rfl, h.dmc rfl, h.ccl rfl, h.csu rfl, h.mgp rfl, h.cru rfl⟩

@[simp] theorem State.chooseArchive_units (s : State) :
    (State.chooseArchive s).pending = s.pending ∧ (State.chooseArchive s).freeCnt = s.freeCnt ∧ (State.chooseArchive s).timers = s.timers ∧ (State.chooseArchive s).tbu = s.tbu ∧ (State.chooseArchive s).sheetOld = s.sheetOld ∧ (State.chooseArchive s).hlu = s.hlu ∧ (State.chooseArchive s).tnu = s.tnu ∧ (State.chooseArchive s).gal = s.gal ∧ (State.chooseArchive s).mxe = s.mxe ∧ (State.chooseArchive s).dsc = s.dsc ∧ (State.chooseArchive s).fca = s.fca ∧ (State.chooseArchive s).cdx = s.cdx ∧ (State.chooseArchive s).spe = s.spe ∧ (State.chooseArchive s).hum = s.hum ∧ (State.chooseArchive s).bpm = s.bpm ∧ (State.chooseArchive s).dmc = s.dmc ∧ (State.chooseArchive s).ccl = s.ccl :=
  have h := (State.chooseArchive_touch _ (by simp) (Touch.refl 14680689 _))
  ⟨h.pending, h.freeCnt rfl, h.timers rfl, h.tbu rfl, h.sheetOld rfl, h.hlu rfl, h.tnu rfl, h.gal rfl, h.mxe rfl, h.dsc rfl, h.fca rfl, h.cdx rfl, h.spe rfl, h.hum rfl, h.bpm rfl, h.dmc rfl, h.ccl rfl⟩

@[simp] theorem State.chooseTake_units (s : State) :
    (State.chooseTake s).pending = s.pending ∧ (State.chooseTake s).freeCnt = s.freeCnt ∧ (State.chooseTake s).timers = s.timers ∧ (State.chooseTake s).tbu = s.tbu ∧ (State.chooseTake s).sheetOld = s.sheetOld ∧ (State.chooseTake s).hlu = s.hlu ∧ (State.chooseTake s).tnu = s.tnu ∧ (State.chooseTake s).gal = s.gal ∧ (State.chooseTake s).mxe = s.mxe ∧ (State.chooseTake s).dsc = s.dsc ∧ (State.chooseTake s).fca = s.fca ∧ (State.chooseTake s).cdx = s.cdx ∧ (State.chooseTake s).spe = s.spe ∧ (State.chooseTake s).hum = s.hum ∧ (State.chooseTake s).bpm = s.bpm ∧ (State.chooseTake s).dmc = s.dmc ∧ (State.chooseTake s).ccl = s.ccl :=
  have h := (State.chooseTake_touch _ (by simp) (Touch.refl 14680689 _))
  ⟨h.pending, h.freeCnt rfl, h.timers rfl, h.tbu rfl, h.sheetOld rfl, h.hlu rfl, h.tnu rfl, h.gal rfl, h.mxe rfl, h.dsc rfl, h.fca rfl, h.cdx rfl, h.spe rfl, h.hum rfl, h.bpm rfl, h.dmc rfl, h.ccl rfl⟩

@[simp] theorem State.activationNotice_units (s : State) :
    (State.activationNotice s).pending = s.pending ∧ (State.activationNotice s).out = s.out ∧ (State.activationNotice s).freeCnt = s.freeCnt ∧ (State.activationNotice s).timers = s.timers ∧ (State.activationNotice s).tbu = s.tbu ∧ (State.activationNotice s).power = s.power ∧ (State.activationNotice s).regf = s.regf ∧ (State.activationNotice s).sheet = s.sheet ∧ (State.activationNotice s).sheetOld = s.sheetOld ∧ (State.activationNotice s).hlu = s.hlu ∧ (State.activationNotice s).tnu = s.tnu ∧ (State.activationNotice s).gal = s.gal ∧ (State.activationNotice s).mxe = s.mxe ∧ (State.activationNotice s).dsc = s.dsc ∧ (State.activationNotice s).fca = s.fca ∧ (State.activationNotice s).cdx = s.cdx ∧ (State.activationNotice s).spe = s.spe ∧ (State.activationNotice s).hum = s.hum ∧ (State.activationNotice s).bpm = s.bpm ∧ (State.activationNotice s).dmc = s.dmc ∧ (State.activationNotice s).ccl = s.ccl ∧ (State.activationNotice s).csu = s.csu ∧ (State.activationNotice s).mgp = s.mgp ∧ (State.activationNotice s).cru = s.cru :=
  have h := (State.activationNotice_touch _ (by simp) (Touch.refl 512 _))
  ⟨h.pending, h.out rfl, h.freeCnt rfl, h.timers rfl, h.tbu rfl, h.power rfl, h.regf rfl, h.sheet rfl, h.sheetOld rfl, h.hlu rfl, h.tnu rfl, h.gal rfl, h.mxe rfl, h.dsc rfl, h.fca rfl, h.cdx rfl, h.spe rfl, h.hum rfl, h.bpm rfl, h.dmc rfl, h.ccl rfl, h.csu rfl, h.mgp rfl, h.cru rfl⟩

@[simp] theorem State.beginActivation_units (c : Option Nat) (s : State) :
    (State.beginActivation c s).pending = s.pending ∧ (State.beginActivation c s).out = s.out ∧ (State.beginActivation c s).freeCnt = s.freeCnt ∧ (State.beginActivation c s).timers = s.timers ∧ (State.beginActivation c s).tbu = s.tbu ∧ (State.beginActivation c s).power = s.power ∧ (State.beginActivation c s).regf = s.regf ∧ (State.beginActivation c s).sheet = s.sheet ∧ (State.beginActivation c s).sheetOld = s.sheetOld ∧ (State.beginActivation c s).hlu = s.hlu ∧ (State.beginActivation c s).tnu = s.tnu ∧ (State.beginActivation c s).gal = s.gal ∧ (State.beginActivation c s).mxe = s.mxe ∧ (State.beginActivation c s).dsc = s.dsc ∧ (State.beginActivation c s).fca = s.fca ∧ (State.beginActivation c s).cdx = s.cdx ∧ (State.beginActivation c s).spe = s.spe ∧ (State.beginActivation c s).hum = s.hum ∧ (State.beginActivation c s).bpm = s.bpm ∧ (State.beginActivation c s).dmc = s.dmc ∧ (State.beginActivation c s).ccl = s.ccl ∧ (State.beginActivation c s).csu = s.csu ∧ (State.beginActivation c s).mgp = s.mgp ∧ (State.beginActivation c s).cru = s.cru :=
  have h := (State.beginActivation_touch _ _ (by simp) (Touch.refl 512 _))
  ⟨h.pending, h.out rfl, h.freeCnt rfl, h.timers rfl, h.tbu rfl, h.power rfl, h.regf rfl, h.sheet rfl, h.sheetOld rfl, h.hlu rfl, h.tnu rfl, h.gal rfl, h.mxe rfl, h.dsc rfl, h.fca rfl, h.cdx rfl, h.spe rfl, h.hum rfl, h.bpm rfl, h.dmc rfl, h.ccl rfl, h.csu rfl, h.mgp rfl, h.cru rfl⟩

@[simp] theorem State.activationEnd_units (s : State) :
    (State.activationEnd s).pending = s.pending ∧ (State.activationEnd s).out = s.out ∧ (State.activationEnd s).freeCnt = s.freeCnt ∧ (State.activationEnd s).timers = s.timers ∧ (State.activationEnd s).tbu = s.tbu ∧ (State.activationEnd s).power = s.power ∧ (State.activationEnd s).sheet = s.sheet ∧ (State.activationEnd s).sheetOld = s.sheetOld ∧ (State.activationEnd s).hlu = s.hlu ∧ (State.activationEnd s).tnu = s.tnu ∧ (State.activationEnd s).gal = s.gal ∧ (State.activationEnd s).mxe = s.mxe ∧ (State.activationEnd s).dsc = s.dsc ∧ (State.activationEnd s).fca = s.fca ∧ (State.activationEnd s).cdx = s.cdx ∧ (State.activationEnd s).spe = s.spe ∧ (State.activationEnd s).hum = s.hum ∧ (State.activationEnd s).bpm = s.bpm ∧ (State.activationEnd s).dmc = s.dmc ∧ (State.activationEnd s).ccl = s.ccl ∧ (State.activationEnd s).mgp = s.mgp :=
  have h := (State.activationEnd_touch _ (by simp) (Touch.refl 10486304 _))
  ⟨h.pending, h.out rfl, h.freeCnt rfl, h.timers rfl, h.tbu rfl, h.power rfl, h.sheet rfl, h.sheetOld rfl, h.hlu rfl, h.tnu rfl, h.gal rfl, h.mxe rfl, h.dsc rfl, h.fca rfl, h.cdx rfl, h.spe rfl, h.hum rfl, h.bpm rfl, h.dmc rfl, h.ccl rfl, h.mgp rfl⟩

@[simp] theorem State.fallbackEnd_units (s : State) :
    (State.fallbackEnd s).pending = s.pending ∧ (State.fallbackEnd s).out = s.out ∧ (State.fallbackEnd s).freeCnt = s.freeCnt ∧ (State.fallbackEnd s).timers = s.timers ∧ (State.fallbackEnd s).tbu = s.tbu ∧ (State.fallbackEnd s).power = s.power ∧ (State.fallbackEnd s).regf = s.regf ∧ (State.fallbackEnd s).sheet = s.sheet ∧ (State.fallbackEnd s).sheetOld = s.sheetOld ∧ (State.fallbackEnd s).hlu = s.hlu ∧ (State.fallbackEnd s).tnu = s.tnu ∧ (State.fallbackEnd s).gal = s.gal ∧ (State.fallbackEnd s).mxe = s.mxe ∧ (State.fallbackEnd s).dsc = s.dsc ∧ (State.fallbackEnd s).fca = s.fca ∧ (State.fallbackEnd s).cdx = s.cdx ∧ (State.fallbackEnd s).spe = s.spe ∧ (State.fallbackEnd s).hum = s.hum ∧ (State.fallbackEnd s).bpm = s.bpm ∧ (State.fallbackEnd s).dmc = s.dmc ∧ (State.fallbackEnd s).ccl = s.ccl ∧ (State.fallbackEnd s).mgp = s.mgp ∧ (State.fallbackEnd s).cru = s.cru :=
  have h := (State.fallbackEnd_touch _ (by simp) (Touch.refl 2097664 _))
  ⟨h.pending, h.out rfl, h.freeCnt rfl, h.timers rfl, h.tbu rfl, h.power rfl, h.regf rfl, h.sheet rfl, h.sheetOld rfl, h.hlu rfl, h.tnu rfl, h.gal rfl, h.mxe rfl, h.dsc rfl, h.fca rfl, h.cdx rfl, h.spe rfl, h.hum rfl, h.bpm rfl, h.dmc rfl, h.ccl rfl, h.mgp rfl, h.cru rfl⟩

@[simp] theorem State.fallbackWrite_units (s : State) :
    (State.fallbackWrite s).pending = s.pending ∧ (State.fallbackWrite s).out = s.out ∧ (State.fallbackWrite s).freeCnt = s.freeCnt ∧ (State.fallbackWrite s).timers = s.timers ∧ (State.fallbackWrite s).tbu = s.tbu ∧ (State.fallbackWrite s).power = s.power ∧ (State.fallbackWrite s).sheet = s.sheet ∧ (State.fallbackWrite s).sheetOld = s.sheetOld ∧ (State.fallbackWrite s).hlu = s.hlu ∧ (State.fallbackWrite s).qen = s.qen ∧ (State.fallbackWrite s).tnu = s.tnu ∧ (State.fallbackWrite s).gal = s.gal ∧ (State.fallbackWrite s).mxe = s.mxe ∧ (State.fallbackWrite s).dsc = s.dsc ∧ (State.fallbackWrite s).fca = s.fca ∧ (State.fallbackWrite s).cdx = s.cdx ∧ (State.fallbackWrite s).spe = s.spe ∧ (State.fallbackWrite s).hum = s.hum ∧ (State.fallbackWrite s).bpm = s.bpm ∧ (State.fallbackWrite s).dmc = s.dmc ∧ (State.fallbackWrite s).ccl = s.ccl ∧ (State.fallbackWrite s).mgp = s.mgp :=
  have h := (State.fallbackWrite_touch _ (by simp) (Touch.refl 10485792 _))
  ⟨h.pending, h.out rfl, h.freeCnt rfl, h.timers rfl, h.tbu rfl, h.power rfl, h.sheet rfl, h.sheetOld rfl, h.hlu rfl, h.qen rfl, h.tnu rfl, h.gal rfl, h.mxe rfl, h.dsc rfl, h.fca rfl, h.cdx rfl, h.spe rfl, h.hum rfl, h.bpm rfl, h.dmc rfl, h.ccl rfl, h.mgp rfl⟩

@[simp] theorem State.confirm_units (s : State) :
    (State.confirm s).pending = s.pending ∧ (State.confirm s).out = s.out ∧ (State.confirm s).freeCnt = s.freeCnt ∧ (State.confirm s).timers = s.timers ∧ (State.confirm s).tbu = s.tbu ∧ (State.confirm s).power = s.power ∧ (State.confirm s).sheet = s.sheet ∧ (State.confirm s).sheetOld = s.sheetOld ∧ (State.confirm s).hlu = s.hlu ∧ (State.confirm s).qen = s.qen ∧ (State.confirm s).tnu = s.tnu ∧ (State.confirm s).gal = s.gal ∧ (State.confirm s).mxe = s.mxe ∧ (State.confirm s).dsc = s.dsc ∧ (State.confirm s).fca = s.fca ∧ (State.confirm s).cdx = s.cdx ∧ (State.confirm s).spe = s.spe ∧ (State.confirm s).hum = s.hum ∧ (State.confirm s).bpm = s.bpm ∧ (State.confirm s).dmc = s.dmc ∧ (State.confirm s).ccl = s.ccl ∧ (State.confirm s).mgp = s.mgp :=
  have h := (State.confirm_touch _ (by simp) (Touch.refl 10485792 _))
  ⟨h.pending, h.out rfl, h.freeCnt rfl, h.timers rfl, h.tbu rfl, h.power rfl, h.sheet rfl, h.sheetOld rfl, h.hlu rfl, h.qen rfl, h.tnu rfl, h.gal rfl, h.mxe rfl, h.dsc rfl, h.fca rfl, h.cdx rfl, h.spe rfl, h.hum rfl, h.bpm rfl, h.dmc rfl, h.ccl rfl, h.mgp rfl⟩

@[simp] theorem State.commitActivate_units (c : Nat) (s : State) :
    (State.commitActivate c s).pending = s.pending ∧ (State.commitActivate c s).out = s.out ∧ (State.commitActivate c s).freeCnt = s.freeCnt ∧ (State.commitActivate c s).timers = s.timers ∧ (State.commitActivate c s).tbu = s.tbu ∧ (State.commitActivate c s).power = s.power ∧ (State.commitActivate c s).regf = s.regf ∧ (State.commitActivate c s).sheet = s.sheet ∧ (State.commitActivate c s).sheetOld = s.sheetOld ∧ (State.commitActivate c s).hlu = s.hlu ∧ (State.commitActivate c s).tnu = s.tnu ∧ (State.commitActivate c s).gal = s.gal ∧ (State.commitActivate c s).mxe = s.mxe ∧ (State.commitActivate c s).dsc = s.dsc ∧ (State.commitActivate c s).fca = s.fca ∧ (State.commitActivate c s).cdx = s.cdx ∧ (State.commitActivate c s).spe = s.spe ∧ (State.commitActivate c s).hum = s.hum ∧ (State.commitActivate c s).bpm = s.bpm ∧ (State.commitActivate c s).dmc = s.dmc ∧ (State.commitActivate c s).ccl = s.ccl ∧ (State.commitActivate c s).csu = s.csu ∧ (State.commitActivate c s).mgp = s.mgp ∧ (State.commitActivate c s).cru = s.cru :=
  have h := (State.commitActivate_touch _ _ (by simp) (Touch.refl 512 _))
  ⟨h.pending, h.out rfl, h.freeCnt rfl, h.timers rfl, h.tbu rfl, h.power rfl, h.regf rfl, h.sheet rfl, h.sheetOld rfl, h.hlu rfl, h.tnu rfl, h.gal rfl, h.mxe rfl, h.dsc rfl, h.fca rfl, h.cdx rfl, h.spe rfl, h.hum rfl, h.bpm rfl, h.dmc rfl, h.ccl rfl, h.csu rfl, h.mgp rfl, h.cru rfl⟩

@[simp] theorem State.rescueGo_units (t : RescueTask) (seq : BitVec 8) (s : State) :
    (State.rescueGo t seq s).pending = s.pending ∧ (State.rescueGo t seq s).out = s.out ∧ (State.rescueGo t seq s).freeCnt = s.freeCnt ∧ (State.rescueGo t seq s).timers = s.timers ∧ (State.rescueGo t seq s).sheet = s.sheet ∧ (State.rescueGo t seq s).sheetOld = s.sheetOld ∧ (State.rescueGo t seq s).hlu = s.hlu ∧ (State.rescueGo t seq s).tnu = s.tnu ∧ (State.rescueGo t seq s).gal = s.gal ∧ (State.rescueGo t seq s).mxe = s.mxe ∧ (State.rescueGo t seq s).dsc = s.dsc ∧ (State.rescueGo t seq s).fca = s.fca ∧ (State.rescueGo t seq s).cdx = s.cdx ∧ (State.rescueGo t seq s).spe = s.spe ∧ (State.rescueGo t seq s).hum = s.hum ∧ (State.rescueGo t seq s).bpm = s.bpm ∧ (State.rescueGo t seq s).dmc = s.dmc ∧ (State.rescueGo t seq s).ccl = s.ccl ∧ (State.rescueGo t seq s).csu = s.csu ∧ (State.rescueGo t seq s).mgp = s.mgp :=
  have h := (State.rescueGo_touch _ _ _ (by simp) (Touch.refl 8389176 _))
  ⟨h.pending, h.out rfl, h.freeCnt rfl, h.timers rfl, h.sheet rfl, h.sheetOld rfl, h.hlu rfl, h.tnu rfl, h.gal rfl, h.mxe rfl, h.dsc rfl, h.fca rfl, h.cdx rfl, h.spe rfl, h.hum rfl, h.bpm rfl, h.dmc rfl, h.ccl rfl, h.csu rfl, h.mgp rfl⟩

@[simp] theorem State.taskEnd_units (res : Nat) (o0 o1 : Nat) (s : State) :
    (State.taskEnd res o0 o1 s).pending = s.pending ∧ (State.taskEnd res o0 o1 s).out = s.out ∧ (State.taskEnd res o0 o1 s).freeCnt = s.freeCnt ∧ (State.taskEnd res o0 o1 s).timers = s.timers ∧ (State.taskEnd res o0 o1 s).tbu = s.tbu ∧ (State.taskEnd res o0 o1 s).power = s.power ∧ (State.taskEnd res o0 o1 s).regf = s.regf ∧ (State.taskEnd res o0 o1 s).sheet = s.sheet ∧ (State.taskEnd res o0 o1 s).sheetOld = s.sheetOld ∧ (State.taskEnd res o0 o1 s).hlu = s.hlu ∧ (State.taskEnd res o0 o1 s).tnu = s.tnu ∧ (State.taskEnd res o0 o1 s).gal = s.gal ∧ (State.taskEnd res o0 o1 s).mxe = s.mxe ∧ (State.taskEnd res o0 o1 s).dsc = s.dsc ∧ (State.taskEnd res o0 o1 s).fca = s.fca ∧ (State.taskEnd res o0 o1 s).cdx = s.cdx ∧ (State.taskEnd res o0 o1 s).spe = s.spe ∧ (State.taskEnd res o0 o1 s).hum = s.hum ∧ (State.taskEnd res o0 o1 s).bpm = s.bpm ∧ (State.taskEnd res o0 o1 s).dmc = s.dmc ∧ (State.taskEnd res o0 o1 s).ccl = s.ccl ∧ (State.taskEnd res o0 o1 s).csu = s.csu ∧ (State.taskEnd res o0 o1 s).mgp = s.mgp ∧ (State.taskEnd res o0 o1 s).cru = s.cru :=
  have h := (State.taskEnd_touch _ _ _ _ (by simp) (Touch.refl 512 _))
  ⟨h.pending, h.out rfl, h.freeCnt rfl, h.timers rfl, h.tbu rfl, h.power rfl, h.regf rfl, h.sheet rfl, h.sheetOld rfl, h.hlu rfl, h.tnu rfl, h.gal rfl, h.mxe rfl, h.dsc rfl, h.fca rfl, h.cdx rfl, h.spe rfl, h.hum rfl, h.bpm rfl, h.dmc rfl, h.ccl rfl, h.csu rfl, h.mgp rfl, h.cru rfl⟩

@[simp] theorem State.drawChallenge_units (s : State) :
    (State.drawChallenge s).pending = s.pending ∧ (State.drawChallenge s).out = s.out ∧ (State.drawChallenge s).timers = s.timers ∧ (State.drawChallenge s).tbu = s.tbu ∧ (State.drawChallenge s).power = s.power ∧ (State.drawChallenge s).regf = s.regf ∧ (State.drawChallenge s).sheet = s.sheet ∧ (State.drawChallenge s).sheetOld = s.sheetOld ∧ (State.drawChallenge s).hlu = s.hlu ∧ (State.drawChallenge s).qen = s.qen ∧ (State.drawChallenge s).tnu = s.tnu ∧ (State.drawChallenge s).gal = s.gal ∧ (State.drawChallenge s).mxe = s.mxe ∧ (State.drawChallenge s).dsc = s.dsc ∧ (State.drawChallenge s).fca = s.fca ∧ (State.drawChallenge s).cdx = s.cdx ∧ (State.drawChallenge s).spe = s.spe ∧ (State.drawChallenge s).hum = s.hum ∧ (State.drawChallenge s).bpm = s.bpm ∧ (State.drawChallenge s).dmc = s.dmc ∧ (State.drawChallenge s).ccl = s.ccl ∧ (State.drawChallenge s).mgp = s.mgp ∧ (State.drawChallenge s).cru = s.cru :=
  have h := (State.drawChallenge_touch _ (by simp) (Touch.refl 2097154 _))
  ⟨h.pending, h.out rfl, h.timers rfl, h.tbu rfl, h.power rfl, h.regf rfl, h.sheet rfl, h.sheetOld rfl, h.hlu rfl, h.qen rfl, h.tnu rfl, h.gal rfl, h.mxe rfl, h.dsc rfl, h.fca rfl, h.cdx rfl, h.spe rfl, h.hum rfl, h.bpm rfl, h.dmc rfl, h.ccl rfl, h.mgp rfl, h.cru rfl⟩

@[simp] theorem State.downgrade_units (s : State) :
    (State.downgrade s).pending = s.pending ∧ (State.downgrade s).out = s.out ∧ (State.downgrade s).freeCnt = s.freeCnt ∧ (State.downgrade s).timers = s.timers ∧ (State.downgrade s).tbu = s.tbu ∧ (State.downgrade s).sheet = s.sheet ∧ (State.downgrade s).sheetOld = s.sheetOld ∧ (State.downgrade s).hlu = s.hlu ∧ (State.downgrade s).tnu = s.tnu ∧ (State.downgrade s).gal = s.gal ∧ (State.downgrade s).mxe = s.mxe ∧ (State.downgrade s).dsc = s.dsc ∧ (State.downgrade s).fca = s.fca ∧ (State.downgrade s).cdx = s.cdx ∧ (State.downgrade s).spe = s.spe ∧ (State.downgrade s).hum = s.hum ∧ (State.downgrade s).bpm = s.bpm ∧ (State.downgrade s).dmc = s.dmc ∧ (State.downgrade s).ccl = s.ccl ∧ (State.downgrade s).mgp = s.mgp :=
  have h := (State.downgrade_touch _ (by simp) (Touch.refl 10486320 _))
  ⟨h.pending, h.out rfl, h.freeCnt rfl, h.timers rfl, h.tbu rfl, h.sheet rfl, h.sheetOld rfl, h.hlu rfl, h.tnu rfl, h.gal rfl, h.mxe rfl, h.dsc rfl, h.fca rfl, h.cdx rfl, h.spe rfl, h.hum rfl, h.bpm rfl, h.dmc rfl, h.ccl rfl, h.mgp rfl⟩

@[simp] theorem State.sealApply_units (s : State) :
    (State.sealApply s).pending = s.pending ∧ (State.sealApply s).out = s.out ∧ (State.sealApply s).freeCnt = s.freeCnt ∧ (State.sealApply s).timers = s.timers ∧ (State.sealApply s).tbu = s.tbu ∧ (State.sealApply s).power = s.power ∧ (State.sealApply s).regf = s.regf ∧ (State.sealApply s).sheet = s.sheet ∧ (State.sealApply s).sheetOld = s.sheetOld ∧ (State.sealApply s).hlu = s.hlu ∧ (State.sealApply s).qen = s.qen ∧ (State.sealApply s).tnu = s.tnu ∧ (State.sealApply s).gal = s.gal ∧ (State.sealApply s).mxe = s.mxe ∧ (State.sealApply s).dsc = s.dsc ∧ (State.sealApply s).fca = s.fca ∧ (State.sealApply s).cdx = s.cdx ∧ (State.sealApply s).spe = s.spe ∧ (State.sealApply s).hum = s.hum ∧ (State.sealApply s).bpm = s.bpm ∧ (State.sealApply s).dmc = s.dmc ∧ (State.sealApply s).ccl = s.ccl ∧ (State.sealApply s).mgp = s.mgp ∧ (State.sealApply s).cru = s.cru :=
  have h := (State.sealApply_touch _ (by simp) (Touch.refl 2097152 _))
  ⟨h.pending, h.out rfl, h.freeCnt rfl, h.timers rfl, h.tbu rfl, h.power rfl, h.regf rfl, h.sheet rfl, h.sheetOld rfl, h.hlu rfl, h.qen rfl, h.tnu rfl, h.gal rfl, h.mxe rfl, h.dsc rfl, h.fca rfl, h.cdx rfl, h.spe rfl, h.hum rfl, h.bpm rfl, h.dmc rfl, h.ccl rfl, h.mgp rfl, h.cru rfl⟩

@[simp] theorem State.setStage_units (st : Stage) (s : State) :
    (State.setStage st s).pending = s.pending ∧ (State.setStage st s).out = s.out ∧ (State.setStage st s).freeCnt = s.freeCnt ∧ (State.setStage st s).timers = s.timers ∧ (State.setStage st s).tbu = s.tbu ∧ (State.setStage st s).sheet = s.sheet ∧ (State.setStage st s).sheetOld = s.sheetOld ∧ (State.setStage st s).hlu = s.hlu ∧ (State.setStage st s).qen = s.qen ∧ (State.setStage st s).tnu = s.tnu ∧ (State.setStage st s).gal = s.gal ∧ (State.setStage st s).mxe = s.mxe ∧ (State.setStage st s).dsc = s.dsc ∧ (State.setStage st s).fca = s.fca ∧ (State.setStage st s).cdx = s.cdx ∧ (State.setStage st s).spe = s.spe ∧ (State.setStage st s).hum = s.hum ∧ (State.setStage st s).bpm = s.bpm ∧ (State.setStage st s).dmc = s.dmc ∧ (State.setStage st s).ccl = s.ccl ∧ (State.setStage st s).csu = s.csu ∧ (State.setStage st s).mgp = s.mgp :=
  have h := (State.setStage_touch _ _ (by simp) (Touch.refl 8388656 _))
  ⟨h.pending, h.out rfl, h.freeCnt rfl, h.timers rfl, h.tbu rfl, h.sheet rfl, h.sheetOld rfl, h.hlu rfl, h.qen rfl, h.tnu rfl, h.gal rfl, h.mxe rfl, h.dsc rfl, h.fca rfl, h.cdx rfl, h.spe rfl, h.hum rfl, h.bpm rfl, h.dmc rfl, h.ccl rfl, h.csu rfl, h.mgp rfl⟩

@[simp] theorem State.dropVolatile_units (s : State) :
    (State.dropVolatile s).pending = s.pending ∧ (State.dropVolatile s).out = s.out ∧ (State.dropVolatile s).freeCnt = s.freeCnt ∧ (State.dropVolatile s).timers = s.timers ∧ (State.dropVolatile s).tbu = s.tbu ∧ (State.dropVolatile s).power = s.power ∧ (State.dropVolatile s).regf = s.regf ∧ (State.dropVolatile s).hlu = s.hlu ∧ (State.dropVolatile s).qen = s.qen ∧ (State.dropVolatile s).tnu = s.tnu ∧ (State.dropVolatile s).gal = s.gal ∧ (State.dropVolatile s).mxe = s.mxe ∧ (State.dropVolatile s).dsc = s.dsc ∧ (State.dropVolatile s).fca = s.fca ∧ (State.dropVolatile s).cdx = s.cdx ∧ (State.dropVolatile s).spe = s.spe ∧ (State.dropVolatile s).hum = s.hum ∧ (State.dropVolatile s).bpm = s.bpm ∧ (State.dropVolatile s).dmc = s.dmc ∧ (State.dropVolatile s).ccl = s.ccl ∧ (State.dropVolatile s).csu = s.csu ∧ (State.dropVolatile s).mgp = s.mgp ∧ (State.dropVolatile s).cru = s.cru :=
  have h := (State.dropVolatile_touch _ (by simp) (Touch.refl 192 _))
  ⟨h.pending, h.out rfl, h.freeCnt rfl, h.timers rfl, h.tbu rfl, h.power rfl, h.regf rfl, h.hlu rfl, h.qen rfl, h.tnu rfl, h.gal rfl, h.mxe rfl, h.dsc rfl, h.fca rfl, h.cdx rfl, h.spe rfl, h.hum rfl, h.bpm rfl, h.dmc rfl, h.ccl rfl, h.csu rfl, h.mgp rfl, h.cru rfl⟩

@[simp] theorem State.resetUnitRegs_units (s : State) (unit : Nat) :
    (State.resetUnitRegs s unit).pending = s.pending ∧ (State.resetUnitRegs s unit).out = s.out ∧ (State.resetUnitRegs s unit).freeCnt = s.freeCnt ∧ (State.resetUnitRegs s unit).timers = s.timers ∧ (State.resetUnitRegs s unit).tbu = s.tbu ∧ (State.resetUnitRegs s unit).power = s.power ∧ (State.resetUnitRegs s unit).sheet = s.sheet ∧ (State.resetUnitRegs s unit).sheetOld = s.sheetOld ∧ (State.resetUnitRegs s unit).hlu = s.hlu ∧ (State.resetUnitRegs s unit).qen = s.qen ∧ (State.resetUnitRegs s unit).tnu = s.tnu ∧ (State.resetUnitRegs s unit).gal = s.gal ∧ (State.resetUnitRegs s unit).mxe = s.mxe ∧ (State.resetUnitRegs s unit).dsc = s.dsc ∧ (State.resetUnitRegs s unit).fca = s.fca ∧ (State.resetUnitRegs s unit).cdx = s.cdx ∧ (State.resetUnitRegs s unit).spe = s.spe ∧ (State.resetUnitRegs s unit).hum = s.hum ∧ (State.resetUnitRegs s unit).bpm = s.bpm ∧ (State.resetUnitRegs s unit).dmc = s.dmc ∧ (State.resetUnitRegs s unit).ccl = s.ccl ∧ (State.resetUnitRegs s unit).csu = s.csu ∧ (State.resetUnitRegs s unit).mgp = s.mgp ∧ (State.resetUnitRegs s unit).cru = s.cru :=
  have h := (State.resetUnitRegs_touch _ _ (by simp) (Touch.refl 32 _))
  ⟨h.pending, h.out rfl, h.freeCnt rfl, h.timers rfl, h.tbu rfl, h.power rfl, h.sheet rfl, h.sheetOld rfl, h.hlu rfl, h.qen rfl, h.tnu rfl, h.gal rfl, h.mxe rfl, h.dsc rfl, h.fca rfl, h.cdx rfl, h.spe rfl, h.hum rfl, h.bpm rfl, h.dmc rfl, h.ccl rfl, h.csu rfl, h.mgp rfl, h.cru rfl⟩

@[simp] theorem State.sheetEnd_units (s : State) :
    (State.sheetEnd s).pending = s.pending ∧ (State.sheetEnd s).freeCnt = s.freeCnt ∧ (State.sheetEnd s).timers = s.timers ∧ (State.sheetEnd s).tbu = s.tbu ∧ (State.sheetEnd s).power = s.power ∧ (State.sheetEnd s).regf = s.regf ∧ (State.sheetEnd s).sheet = s.sheet ∧ (State.sheetEnd s).sheetOld = s.sheetOld ∧ (State.sheetEnd s).hlu = s.hlu ∧ (State.sheetEnd s).qen = s.qen ∧ (State.sheetEnd s).tnu = s.tnu ∧ (State.sheetEnd s).gal = s.gal ∧ (State.sheetEnd s).mxe = s.mxe ∧ (State.sheetEnd s).dsc = s.dsc ∧ (State.sheetEnd s).fca = s.fca ∧ (State.sheetEnd s).cdx = s.cdx ∧ (State.sheetEnd s).spe = s.spe ∧ (State.sheetEnd s).hum = s.hum ∧ (State.sheetEnd s).bpm = s.bpm ∧ (State.sheetEnd s).dmc = s.dmc ∧ (State.sheetEnd s).ccl = s.ccl ∧ (State.sheetEnd s).csu = s.csu ∧ (State.sheetEnd s).cru = s.cru :=
  have h := (State.sheetEnd_touch _ (by simp) (Touch.refl 4194305 _))
  ⟨h.pending, h.freeCnt rfl, h.timers rfl, h.tbu rfl, h.power rfl, h.regf rfl, h.sheet rfl, h.sheetOld rfl, h.hlu rfl, h.qen rfl, h.tnu rfl, h.gal rfl, h.mxe rfl, h.dsc rfl, h.fca rfl, h.cdx rfl, h.spe rfl, h.hum rfl, h.bpm rfl, h.dmc rfl, h.ccl rfl, h.csu rfl, h.cru rfl⟩

@[simp] theorem State.ptmLost_units (s : State) :
    (State.ptmLost s).pending = s.pending ∧ (State.ptmLost s).out = s.out ∧ (State.ptmLost s).freeCnt = s.freeCnt ∧ (State.ptmLost s).timers = s.timers ∧ (State.ptmLost s).power = s.power ∧ (State.ptmLost s).regf = s.regf ∧ (State.ptmLost s).sheet = s.sheet ∧ (State.ptmLost s).sheetOld = s.sheetOld ∧ (State.ptmLost s).qen = s.qen ∧ (State.ptmLost s).tnu = s.tnu ∧ (State.ptmLost s).gal = s.gal ∧ (State.ptmLost s).mxe = s.mxe ∧ (State.ptmLost s).dsc = s.dsc ∧ (State.ptmLost s).fca = s.fca ∧ (State.ptmLost s).cdx = s.cdx ∧ (State.ptmLost s).spe = s.spe ∧ (State.ptmLost s).hum = s.hum ∧ (State.ptmLost s).bpm = s.bpm ∧ (State.ptmLost s).dmc = s.dmc ∧ (State.ptmLost s).ccl = s.ccl ∧ (State.ptmLost s).csu = s.csu ∧ (State.ptmLost s).mgp = s.mgp ∧ (State.ptmLost s).cru = s.cru :=
  have h := (State.ptmLost_touch _ (by simp) (Touch.refl 264 _))
  ⟨h.pending, h.out rfl, h.freeCnt rfl, h.timers rfl, h.power rfl, h.regf rfl, h.sheet rfl, h.sheetOld rfl, h.qen rfl, h.tnu rfl, h.gal rfl, h.mxe rfl, h.dsc rfl, h.fca rfl, h.cdx rfl, h.spe rfl, h.hum rfl, h.bpm rfl, h.dmc rfl, h.ccl rfl, h.csu rfl, h.mgp rfl, h.cru rfl⟩

@[simp] theorem State.unitsReset_units (class1 work : Bool) (s : State) :
    (State.unitsReset class1 work s).pending = s.pending ∧ (State.unitsReset class1 work s).timers = s.timers ∧ (State.unitsReset class1 work s).hum = s.hum :=
  have h := (State.unitsReset_touch _ _ _ (by simp) (Touch.refl 16646139 _))
  ⟨h.pending, h.timers rfl, h.hum rfl⟩

@[simp] theorem State.deviceReset_units (n : Nat) (work : Bool) (s : State) :
    (State.deviceReset n work s).pending = s.pending ∧ (State.deviceReset n work s).timers = s.timers ∧ (State.deviceReset n work s).hum = s.hum :=
  have h := (State.deviceReset_touch _ _ _ (by simp) (Touch.refl 16646139 _))
  ⟨h.pending, h.timers rfl, h.hum rfl⟩

@[simp] theorem State.cutProgram_units (o : DieOp) (s : State) :
    (State.cutProgram o s).pending = s.pending ∧ (State.cutProgram o s).out = s.out ∧ (State.cutProgram o s).freeCnt = s.freeCnt ∧ (State.cutProgram o s).timers = s.timers ∧ (State.cutProgram o s).tbu = s.tbu ∧ (State.cutProgram o s).power = s.power ∧ (State.cutProgram o s).regf = s.regf ∧ (State.cutProgram o s).sheet = s.sheet ∧ (State.cutProgram o s).sheetOld = s.sheetOld ∧ (State.cutProgram o s).hlu = s.hlu ∧ (State.cutProgram o s).qen = s.qen ∧ (State.cutProgram o s).tnu = s.tnu ∧ (State.cutProgram o s).gal = s.gal ∧ (State.cutProgram o s).dsc = s.dsc ∧ (State.cutProgram o s).fca = s.fca ∧ (State.cutProgram o s).cdx = s.cdx ∧ (State.cutProgram o s).hum = s.hum ∧ (State.cutProgram o s).bpm = s.bpm ∧ (State.cutProgram o s).dmc = s.dmc ∧ (State.cutProgram o s).ccl = s.ccl ∧ (State.cutProgram o s).csu = s.csu ∧ (State.cutProgram o s).mgp = s.mgp ∧ (State.cutProgram o s).cru = s.cru :=
  have h := (State.cutProgram_touch _ _ (by simp) (Touch.refl 69632 _))
  ⟨h.pending, h.out rfl, h.freeCnt rfl, h.timers rfl, h.tbu rfl, h.power rfl, h.regf rfl, h.sheet rfl, h.sheetOld rfl, h.hlu rfl, h.qen rfl, h.tnu rfl, h.gal rfl, h.dsc rfl, h.fca rfl, h.cdx rfl, h.hum rfl, h.bpm rfl, h.dmc rfl, h.ccl rfl, h.csu rfl, h.mgp rfl, h.cru rfl⟩

@[simp] theorem State.interruptOp_units (d i : Nat) (o : DieOp) (s : State) :
    (State.interruptOp d i o s).pending = s.pending ∧ (State.interruptOp d i o s).out = s.out ∧ (State.interruptOp d i o s).freeCnt = s.freeCnt ∧ (State.interruptOp d i o s).timers = s.timers ∧ (State.interruptOp d i o s).tbu = s.tbu ∧ (State.interruptOp d i o s).power = s.power ∧ (State.interruptOp d i o s).regf = s.regf ∧ (State.interruptOp d i o s).sheet = s.sheet ∧ (State.interruptOp d i o s).sheetOld = s.sheetOld ∧ (State.interruptOp d i o s).hlu = s.hlu ∧ (State.interruptOp d i o s).qen = s.qen ∧ (State.interruptOp d i o s).tnu = s.tnu ∧ (State.interruptOp d i o s).gal = s.gal ∧ (State.interruptOp d i o s).fca = s.fca ∧ (State.interruptOp d i o s).cdx = s.cdx ∧ (State.interruptOp d i o s).hum = s.hum ∧ (State.interruptOp d i o s).bpm = s.bpm ∧ (State.interruptOp d i o s).dmc = s.dmc ∧ (State.interruptOp d i o s).ccl = s.ccl ∧ (State.interruptOp d i o s).csu = s.csu ∧ (State.interruptOp d i o s).mgp = s.mgp ∧ (State.interruptOp d i o s).cru = s.cru :=
  have h := (State.interruptOp_touch _ _ _ _ (by simp) (Touch.refl 77824 _))
  ⟨h.pending, h.out rfl, h.freeCnt rfl, h.timers rfl, h.tbu rfl, h.power rfl, h.regf rfl, h.sheet rfl, h.sheetOld rfl, h.hlu rfl, h.qen rfl, h.tnu rfl, h.gal rfl, h.fca rfl, h.cdx rfl, h.hum rfl, h.bpm rfl, h.dmc rfl, h.ccl rfl, h.csu rfl, h.mgp rfl, h.cru rfl⟩

@[simp] theorem State.mediaEnd_units (s : State) :
    (State.mediaEnd s).pending = s.pending ∧ (State.mediaEnd s).out = s.out ∧ (State.mediaEnd s).freeCnt = s.freeCnt ∧ (State.mediaEnd s).timers = s.timers ∧ (State.mediaEnd s).tbu = s.tbu ∧ (State.mediaEnd s).sheet = s.sheet ∧ (State.mediaEnd s).sheetOld = s.sheetOld ∧ (State.mediaEnd s).hlu = s.hlu ∧ (State.mediaEnd s).qen = s.qen ∧ (State.mediaEnd s).tnu = s.tnu ∧ (State.mediaEnd s).gal = s.gal ∧ (State.mediaEnd s).hum = s.hum ∧ (State.mediaEnd s).ccl = s.ccl ∧ (State.mediaEnd s).csu = s.csu ∧ (State.mediaEnd s).mgp = s.mgp ∧ (State.mediaEnd s).cru = s.cru :=
  have h := (State.mediaEnd_touch _ (by simp) (Touch.refl 913456 _))
  ⟨h.pending, h.out rfl, h.freeCnt rfl, h.timers rfl, h.tbu rfl, h.sheet rfl, h.sheetOld rfl, h.hlu rfl, h.qen rfl, h.tnu rfl, h.gal rfl, h.hum rfl, h.ccl rfl, h.csu rfl, h.mgp rfl, h.cru rfl⟩

@[simp] theorem State.shutWorkEnd_units (s : State) :
    (State.shutWorkEnd s).pending = s.pending ∧ (State.shutWorkEnd s).out = s.out ∧ (State.shutWorkEnd s).freeCnt = s.freeCnt ∧ (State.shutWorkEnd s).timers = s.timers ∧ (State.shutWorkEnd s).tbu = s.tbu ∧ (State.shutWorkEnd s).sheet = s.sheet ∧ (State.shutWorkEnd s).sheetOld = s.sheetOld ∧ (State.shutWorkEnd s).hlu = s.hlu ∧ (State.shutWorkEnd s).qen = s.qen ∧ (State.shutWorkEnd s).tnu = s.tnu ∧ (State.shutWorkEnd s).gal = s.gal ∧ (State.shutWorkEnd s).ccl = s.ccl ∧ (State.shutWorkEnd s).csu = s.csu ∧ (State.shutWorkEnd s).mgp = s.mgp ∧ (State.shutWorkEnd s).cru = s.cru :=
  have h := (State.shutWorkEnd_touch _ (by simp) (Touch.refl 1044528 _))
  ⟨h.pending, h.out rfl, h.freeCnt rfl, h.timers rfl, h.tbu rfl, h.sheet rfl, h.sheetOld rfl, h.hlu rfl, h.qen rfl, h.tnu rfl, h.gal rfl, h.ccl rfl, h.csu rfl, h.mgp rfl, h.cru rfl⟩

@[simp] theorem State.classThree_units (s : State) :
    (State.classThree s).pending = s.pending ∧ (State.classThree s).timers = s.timers :=
  have h := (State.classThree_touch _ (by simp) (Touch.refl 16777211 _))
  ⟨h.pending, h.timers rfl⟩

@[simp] theorem State.release_units (s : State) :
    (State.release s).pending = s.pending ∧ (State.release s).out = s.out ∧ (State.release s).freeCnt = s.freeCnt ∧ (State.release s).timers = s.timers ∧ (State.release s).tbu = s.tbu ∧ (State.release s).regf = s.regf ∧ (State.release s).sheet = s.sheet ∧ (State.release s).sheetOld = s.sheetOld ∧ (State.release s).hlu = s.hlu ∧ (State.release s).qen = s.qen ∧ (State.release s).tnu = s.tnu ∧ (State.release s).gal = s.gal ∧ (State.release s).mxe = s.mxe ∧ (State.release s).dsc = s.dsc ∧ (State.release s).fca = s.fca ∧ (State.release s).cdx = s.cdx ∧ (State.release s).spe = s.spe ∧ (State.release s).hum = s.hum ∧ (State.release s).bpm = s.bpm ∧ (State.release s).dmc = s.dmc ∧ (State.release s).ccl = s.ccl ∧ (State.release s).csu = s.csu ∧ (State.release s).mgp = s.mgp ∧ (State.release s).cru = s.cru :=
  have h := (State.release_touch _ (by simp) (Touch.refl 16 _))
  ⟨h.pending, h.out rfl, h.freeCnt rfl, h.timers rfl, h.tbu rfl, h.regf rfl, h.sheet rfl, h.sheetOld rfl, h.hlu rfl, h.qen rfl, h.tnu rfl, h.gal rfl, h.mxe rfl, h.dsc rfl, h.fca rfl, h.cdx rfl, h.spe rfl, h.hum rfl, h.bpm rfl, h.dmc rfl, h.ccl rfl, h.csu rfl, h.mgp rfl, h.cru rfl⟩

@[simp] theorem State.linkLost_units (s : State) :
    (State.linkLost s).pending = s.pending ∧ (State.linkLost s).timers = s.timers :=
  have h := (State.linkLost_touch _ (by simp) (Touch.refl 16777211 _))
  ⟨h.pending, h.timers rfl⟩

@[simp] theorem State.stepFleet_units (v : Dword) (src : Nat) (s : State) :
    (State.stepFleet v src s).pending = s.pending ∧ (State.stepFleet v src s).out = s.out ∧ (State.stepFleet v src s).freeCnt = s.freeCnt ∧ (State.stepFleet v src s).timers = s.timers ∧ (State.stepFleet v src s).power = s.power ∧ (State.stepFleet v src s).sheetOld = s.sheetOld ∧ (State.stepFleet v src s).hlu = s.hlu ∧ (State.stepFleet v src s).qen = s.qen ∧ (State.stepFleet v src s).tnu = s.tnu ∧ (State.stepFleet v src s).gal = s.gal ∧ (State.stepFleet v src s).mxe = s.mxe ∧ (State.stepFleet v src s).dsc = s.dsc ∧ (State.stepFleet v src s).fca = s.fca ∧ (State.stepFleet v src s).spe = s.spe ∧ (State.stepFleet v src s).hum = s.hum ∧ (State.stepFleet v src s).bpm = s.bpm ∧ (State.stepFleet v src s).dmc = s.dmc ∧ (State.stepFleet v src s).ccl = s.ccl ∧ (State.stepFleet v src s).csu = s.csu ∧ (State.stepFleet v src s).mgp = s.mgp :=
  have h := (State.stepFleet_touch _ _ _ (by simp) (Touch.refl 8421480 _))
  ⟨h.pending, h.out rfl, h.freeCnt rfl, h.timers rfl, h.power rfl, h.sheetOld rfl, h.hlu rfl, h.qen rfl, h.tnu rfl, h.gal rfl, h.mxe rfl, h.dsc rfl, h.fca rfl, h.spe rfl, h.hum rfl, h.bpm rfl, h.dmc rfl, h.ccl rfl, h.csu rfl, h.mgp rfl⟩

@[simp] theorem State.stageObj_units (o : Obj) (index sub v : Nat) (s : State) :
    (State.stageObj o index sub v s).pending = s.pending ∧ (State.stageObj o index sub v s).out = s.out ∧ (State.stageObj o index sub v s).freeCnt = s.freeCnt ∧ (State.stageObj o index sub v s).timers = s.timers ∧ (State.stageObj o index sub v s).tbu = s.tbu ∧ (State.stageObj o index sub v s).power = s.power ∧ (State.stageObj o index sub v s).regf = s.regf ∧ (State.stageObj o index sub v s).sheet = s.sheet ∧ (State.stageObj o index sub v s).sheetOld = s.sheetOld ∧ (State.stageObj o index sub v s).hlu = s.hlu ∧ (State.stageObj o index sub v s).qen = s.qen ∧ (State.stageObj o index sub v s).mxe = s.mxe ∧ (State.stageObj o index sub v s).dsc = s.dsc ∧ (State.stageObj o index sub v s).fca = s.fca ∧ (State.stageObj o index sub v s).cdx = s.cdx ∧ (State.stageObj o index sub v s).spe = s.spe ∧ (State.stageObj o index sub v s).hum = s.hum ∧ (State.stageObj o index sub v s).bpm = s.bpm ∧ (State.stageObj o index sub v s).dmc = s.dmc ∧ (State.stageObj o index sub v s).ccl = s.ccl ∧ (State.stageObj o index sub v s).csu = s.csu ∧ (State.stageObj o index sub v s).mgp = s.mgp ∧ (State.stageObj o index sub v s).cru = s.cru :=
  have h := (State.stageObj_touch _ _ _ _ _ (by simp) (Touch.refl 3072 _))
  ⟨h.pending, h.out rfl, h.freeCnt rfl, h.timers rfl, h.tbu rfl, h.power rfl, h.regf rfl, h.sheet rfl, h.sheetOld rfl, h.hlu rfl, h.qen rfl, h.mxe rfl, h.dsc rfl, h.fca rfl, h.cdx rfl, h.spe rfl, h.hum rfl, h.bpm rfl, h.dmc rfl, h.ccl rfl, h.csu rfl, h.mgp rfl, h.cru rfl⟩

@[simp] theorem State.linkEvent_units (f : Field) (s : State) :
    (State.linkEvent f s).pending = s.pending ∧ (State.linkEvent f s).out = s.out ∧ (State.linkEvent f s).freeCnt = s.freeCnt ∧ (State.linkEvent f s).timers = s.timers ∧ (State.linkEvent f s).tbu = s.tbu ∧ (State.linkEvent f s).power = s.power ∧ (State.linkEvent f s).sheet = s.sheet ∧ (State.linkEvent f s).sheetOld = s.sheetOld ∧ (State.linkEvent f s).hlu = s.hlu ∧ (State.linkEvent f s).qen = s.qen ∧ (State.linkEvent f s).tnu = s.tnu ∧ (State.linkEvent f s).gal = s.gal ∧ (State.linkEvent f s).mxe = s.mxe ∧ (State.linkEvent f s).dsc = s.dsc ∧ (State.linkEvent f s).fca = s.fca ∧ (State.linkEvent f s).cdx = s.cdx ∧ (State.linkEvent f s).spe = s.spe ∧ (State.linkEvent f s).hum = s.hum ∧ (State.linkEvent f s).bpm = s.bpm ∧ (State.linkEvent f s).dmc = s.dmc ∧ (State.linkEvent f s).ccl = s.ccl ∧ (State.linkEvent f s).csu = s.csu ∧ (State.linkEvent f s).mgp = s.mgp :=
  have h := (State.linkEvent_touch _ _ (by simp) (Touch.refl 8388640 _))
  ⟨h.pending, h.out rfl, h.freeCnt rfl, h.timers rfl, h.tbu rfl, h.power rfl, h.sheet rfl, h.sheetOld rfl, h.hlu rfl, h.qen rfl, h.tnu rfl, h.gal rfl, h.mxe rfl, h.dsc rfl, h.fca rfl, h.cdx rfl, h.spe rfl, h.hum rfl, h.bpm rfl, h.dmc rfl, h.ccl rfl, h.csu rfl, h.mgp rfl⟩

@[simp] theorem State.sliceHotReset_units (s : State) (n : Nat) :
    (State.sliceHotReset s n).pending = s.pending ∧ (State.sliceHotReset s n).freeCnt = s.freeCnt ∧ (State.sliceHotReset s n).timers = s.timers ∧ (State.sliceHotReset s n).tbu = s.tbu ∧ (State.sliceHotReset s n).power = s.power ∧ (State.sliceHotReset s n).mxe = s.mxe ∧ (State.sliceHotReset s n).dsc = s.dsc ∧ (State.sliceHotReset s n).fca = s.fca ∧ (State.sliceHotReset s n).cdx = s.cdx ∧ (State.sliceHotReset s n).spe = s.spe ∧ (State.sliceHotReset s n).hum = s.hum ∧ (State.sliceHotReset s n).csu = s.csu :=
  have h := (State.sliceHotReset_touch _ _ (by simp) (Touch.refl 14421985 _))
  ⟨h.pending, h.freeCnt rfl, h.timers rfl, h.tbu rfl, h.power rfl, h.mxe rfl, h.dsc rfl, h.fca rfl, h.cdx rfl, h.spe rfl, h.hum rfl, h.csu rfl⟩

@[simp] theorem State.freeTag_units (t : Nat) (s : State) :
    (State.freeTag t s).pending = s.pending ∧ (State.freeTag t s).out = s.out ∧ (State.freeTag t s).freeCnt = s.freeCnt ∧ (State.freeTag t s).timers = s.timers ∧ (State.freeTag t s).tbu = s.tbu ∧ (State.freeTag t s).power = s.power ∧ (State.freeTag t s).regf = s.regf ∧ (State.freeTag t s).sheet = s.sheet ∧ (State.freeTag t s).sheetOld = s.sheetOld ∧ (State.freeTag t s).qen = s.qen ∧ (State.freeTag t s).tnu = s.tnu ∧ (State.freeTag t s).gal = s.gal ∧ (State.freeTag t s).mxe = s.mxe ∧ (State.freeTag t s).dsc = s.dsc ∧ (State.freeTag t s).fca = s.fca ∧ (State.freeTag t s).cdx = s.cdx ∧ (State.freeTag t s).spe = s.spe ∧ (State.freeTag t s).hum = s.hum ∧ (State.freeTag t s).bpm = s.bpm ∧ (State.freeTag t s).dmc = s.dmc ∧ (State.freeTag t s).ccl = s.ccl ∧ (State.freeTag t s).csu = s.csu ∧ (State.freeTag t s).mgp = s.mgp ∧ (State.freeTag t s).cru = s.cru :=
  have h := (State.freeTag_touch _ _ (by simp) (Touch.refl 256 _))
  ⟨h.pending, h.out rfl, h.freeCnt rfl, h.timers rfl, h.tbu rfl, h.power rfl, h.regf rfl, h.sheet rfl, h.sheetOld rfl, h.qen rfl, h.tnu rfl, h.gal rfl, h.mxe rfl, h.dsc rfl, h.fca rfl, h.cdx rfl, h.spe rfl, h.hum rfl, h.bpm rfl, h.dmc rfl, h.ccl rfl, h.csu rfl, h.mgp rfl, h.cru rfl⟩

@[simp] theorem State.dataArrives_units (c off len : Nat) (data : BitVec 4096) (s : State) :
    (State.dataArrives c off len data s).pending = s.pending ∧ (State.dataArrives c off len data s).freeCnt = s.freeCnt ∧ (State.dataArrives c off len data s).timers = s.timers ∧ (State.dataArrives c off len data s).tbu = s.tbu ∧ (State.dataArrives c off len data s).power = s.power ∧ (State.dataArrives c off len data s).sheet = s.sheet ∧ (State.dataArrives c off len data s).sheetOld = s.sheetOld ∧ (State.dataArrives c off len data s).tnu = s.tnu ∧ (State.dataArrives c off len data s).gal = s.gal ∧ (State.dataArrives c off len data s).mxe = s.mxe ∧ (State.dataArrives c off len data s).dsc = s.dsc ∧ (State.dataArrives c off len data s).fca = s.fca ∧ (State.dataArrives c off len data s).cdx = s.cdx ∧ (State.dataArrives c off len data s).spe = s.spe ∧ (State.dataArrives c off len data s).hum = s.hum ∧ (State.dataArrives c off len data s).dmc = s.dmc ∧ (State.dataArrives c off len data s).csu = s.csu :=
  have h := (State.dataArrives_touch _ _ _ _ _ (by simp) (Touch.refl 13894433 _))
  ⟨h.pending, h.freeCnt rfl, h.timers rfl, h.tbu rfl, h.power rfl, h.sheet rfl, h.sheetOld rfl, h.tnu rfl, h.gal rfl, h.mxe rfl, h.dsc rfl, h.fca rfl, h.cdx rfl, h.spe rfl, h.hum rfl, h.dmc rfl, h.csu rfl⟩

@[simp] theorem State.reissueUntranslated_units (fn : Nat) (pasid : Option Nat) (page : Nat) (s : State) :
    (State.reissueUntranslated fn pasid page s).pending = s.pending ∧ (State.reissueUntranslated fn pasid page s).out = s.out ∧ (State.reissueUntranslated fn pasid page s).freeCnt = s.freeCnt ∧ (State.reissueUntranslated fn pasid page s).timers = s.timers ∧ (State.reissueUntranslated fn pasid page s).tbu = s.tbu ∧ (State.reissueUntranslated fn pasid page s).power = s.power ∧ (State.reissueUntranslated fn pasid page s).regf = s.regf ∧ (State.reissueUntranslated fn pasid page s).sheet = s.sheet ∧ (State.reissueUntranslated fn pasid page s).sheetOld = s.sheetOld ∧ (State.reissueUntranslated fn pasid page s).tnu = s.tnu ∧ (State.reissueUntranslated fn pasid page s).gal = s.gal ∧ (State.reissueUntranslated fn pasid page s).mxe = s.mxe ∧ (State.reissueUntranslated fn pasid page s).dsc = s.dsc ∧ (State.reissueUntranslated fn pasid page s).fca = s.fca ∧ (State.reissueUntranslated fn pasid page s).cdx = s.cdx ∧ (State.reissueUntranslated fn pasid page s).spe = s.spe ∧ (State.reissueUntranslated fn pasid page s).hum = s.hum ∧ (State.reissueUntranslated fn pasid page s).bpm = s.bpm ∧ (State.reissueUntranslated fn pasid page s).dmc = s.dmc ∧ (State.reissueUntranslated fn pasid page s).ccl = s.ccl ∧ (State.reissueUntranslated fn pasid page s).csu = s.csu ∧ (State.reissueUntranslated fn pasid page s).mgp = s.mgp ∧ (State.reissueUntranslated fn pasid page s).cru = s.cru :=
  have h := (State.reissueUntranslated_touch _ _ _ _ (by simp) (Touch.refl 768 _))
  ⟨h.pending, h.out rfl, h.freeCnt rfl, h.timers rfl, h.tbu rfl, h.power rfl, h.regf rfl, h.sheet rfl, h.sheetOld rfl, h.tnu rfl, h.gal rfl, h.mxe rfl, h.dsc rfl, h.fca rfl, h.cdx rfl, h.spe rfl, h.hum rfl, h.bpm rfl, h.dmc rfl, h.ccl rfl, h.csu rfl, h.mgp rfl, h.cru rfl⟩

@[simp] theorem State.received_units (n : Nat) (s : State) :
    (State.received n s).pending = s.pending ∧ (State.received n s).out = s.out ∧ (State.received n s).freeCnt = s.freeCnt ∧ (State.received n s).timers = s.timers ∧ (State.received n s).tbu = s.tbu ∧ (State.received n s).power = s.power ∧ (State.received n s).regf = s.regf ∧ (State.received n s).sheet = s.sheet ∧ (State.received n s).sheetOld = s.sheetOld ∧ (State.received n s).qen = s.qen ∧ (State.received n s).tnu = s.tnu ∧ (State.received n s).gal = s.gal ∧ (State.received n s).mxe = s.mxe ∧ (State.received n s).dsc = s.dsc ∧ (State.received n s).fca = s.fca ∧ (State.received n s).cdx = s.cdx ∧ (State.received n s).spe = s.spe ∧ (State.received n s).hum = s.hum ∧ (State.received n s).bpm = s.bpm ∧ (State.received n s).dmc = s.dmc ∧ (State.received n s).ccl = s.ccl ∧ (State.received n s).csu = s.csu ∧ (State.received n s).mgp = s.mgp ∧ (State.received n s).cru = s.cru :=
  have h := (State.received_touch _ _ (by simp) (Touch.refl 256 _))
  ⟨h.pending, h.out rfl, h.freeCnt rfl, h.timers rfl, h.tbu rfl, h.power rfl, h.regf rfl, h.sheet rfl, h.sheetOld rfl, h.qen rfl, h.tnu rfl, h.gal rfl, h.mxe rfl, h.dsc rfl, h.fca rfl, h.cdx rfl, h.spe rfl, h.hum rfl, h.bpm rfl, h.dmc rfl, h.ccl rfl, h.csu rfl, h.mgp rfl, h.cru rfl⟩

@[simp] theorem State.linkUse_units (s : State) :
    (State.linkUse s).pending = s.pending ∧ (State.linkUse s).out = s.out ∧ (State.linkUse s).freeCnt = s.freeCnt ∧ (State.linkUse s).timers = s.timers ∧ (State.linkUse s).tbu = s.tbu ∧ (State.linkUse s).power = s.power ∧ (State.linkUse s).regf = s.regf ∧ (State.linkUse s).sheet = s.sheet ∧ (State.linkUse s).sheetOld = s.sheetOld ∧ (State.linkUse s).qen = s.qen ∧ (State.linkUse s).tnu = s.tnu ∧ (State.linkUse s).gal = s.gal ∧ (State.linkUse s).mxe = s.mxe ∧ (State.linkUse s).dsc = s.dsc ∧ (State.linkUse s).fca = s.fca ∧ (State.linkUse s).cdx = s.cdx ∧ (State.linkUse s).spe = s.spe ∧ (State.linkUse s).hum = s.hum ∧ (State.linkUse s).bpm = s.bpm ∧ (State.linkUse s).dmc = s.dmc ∧ (State.linkUse s).ccl = s.ccl ∧ (State.linkUse s).csu = s.csu ∧ (State.linkUse s).mgp = s.mgp ∧ (State.linkUse s).cru = s.cru :=
  have h := (State.linkUse_touch _ (by simp) (Touch.refl 256 _))
  ⟨h.pending, h.out rfl, h.freeCnt rfl, h.timers rfl, h.tbu rfl, h.power rfl, h.regf rfl, h.sheet rfl, h.sheetOld rfl, h.qen rfl, h.tnu rfl, h.gal rfl, h.mxe rfl, h.dsc rfl, h.fca rfl, h.cdx rfl, h.spe rfl, h.hum rfl, h.bpm rfl, h.dmc rfl, h.ccl rfl, h.csu rfl, h.mgp rfl, h.cru rfl⟩

@[simp] theorem State.idleTrack_units (s : State) :
    (State.idleTrack s).pending = s.pending ∧ (State.idleTrack s).out = s.out ∧ (State.idleTrack s).freeCnt = s.freeCnt ∧ (State.idleTrack s).timers = s.timers ∧ (State.idleTrack s).tbu = s.tbu ∧ (State.idleTrack s).power = s.power ∧ (State.idleTrack s).regf = s.regf ∧ (State.idleTrack s).sheet = s.sheet ∧ (State.idleTrack s).sheetOld = s.sheetOld ∧ (State.idleTrack s).qen = s.qen ∧ (State.idleTrack s).tnu = s.tnu ∧ (State.idleTrack s).gal = s.gal ∧ (State.idleTrack s).mxe = s.mxe ∧ (State.idleTrack s).dsc = s.dsc ∧ (State.idleTrack s).fca = s.fca ∧ (State.idleTrack s).cdx = s.cdx ∧ (State.idleTrack s).spe = s.spe ∧ (State.idleTrack s).hum = s.hum ∧ (State.idleTrack s).bpm = s.bpm ∧ (State.idleTrack s).dmc = s.dmc ∧ (State.idleTrack s).ccl = s.ccl ∧ (State.idleTrack s).csu = s.csu ∧ (State.idleTrack s).mgp = s.mgp ∧ (State.idleTrack s).cru = s.cru :=
  have h := (State.idleTrack_touch _ (by simp) (Touch.refl 256 _))
  ⟨h.pending, h.out rfl, h.freeCnt rfl, h.timers rfl, h.tbu rfl, h.power rfl, h.regf rfl, h.sheet rfl, h.sheetOld rfl, h.qen rfl, h.tnu rfl, h.gal rfl, h.mxe rfl, h.dsc rfl, h.fca rfl, h.cdx rfl, h.spe rfl, h.hum rfl, h.bpm rfl, h.dmc rfl, h.ccl rfl, h.csu rfl, h.mgp rfl, h.cru rfl⟩

@[simp] theorem State.ptmMiss_units (s : State) :
    (State.ptmMiss s).pending = s.pending ∧ (State.ptmMiss s).freeCnt = s.freeCnt ∧ (State.ptmMiss s).timers = s.timers ∧ (State.ptmMiss s).tbu = s.tbu ∧ (State.ptmMiss s).power = s.power ∧ (State.ptmMiss s).sheet = s.sheet ∧ (State.ptmMiss s).sheetOld = s.sheetOld ∧ (State.ptmMiss s).tnu = s.tnu ∧ (State.ptmMiss s).gal = s.gal ∧ (State.ptmMiss s).mxe = s.mxe ∧ (State.ptmMiss s).dsc = s.dsc ∧ (State.ptmMiss s).fca = s.fca ∧ (State.ptmMiss s).cdx = s.cdx ∧ (State.ptmMiss s).spe = s.spe ∧ (State.ptmMiss s).hum = s.hum ∧ (State.ptmMiss s).bpm = s.bpm ∧ (State.ptmMiss s).dmc = s.dmc ∧ (State.ptmMiss s).ccl = s.ccl ∧ (State.ptmMiss s).csu = s.csu :=
  have h := (State.ptmMiss_touch _ (by simp) (Touch.refl 12583713 _))
  ⟨h.pending, h.freeCnt rfl, h.timers rfl, h.tbu rfl, h.power rfl, h.sheet rfl, h.sheetOld rfl, h.tnu rfl, h.gal rfl, h.mxe rfl, h.dsc rfl, h.fca rfl, h.cdx rfl, h.spe rfl, h.hum rfl, h.bpm rfl, h.dmc rfl, h.ccl rfl, h.csu rfl⟩

@[simp] theorem State.discipline_units (d : Int) (s : State) :
    (State.discipline d s).pending = s.pending ∧ (State.discipline d s).out = s.out ∧ (State.discipline d s).freeCnt = s.freeCnt ∧ (State.discipline d s).timers = s.timers ∧ (State.discipline d s).power = s.power ∧ (State.discipline d s).sheetOld = s.sheetOld ∧ (State.discipline d s).hlu = s.hlu ∧ (State.discipline d s).qen = s.qen ∧ (State.discipline d s).tnu = s.tnu ∧ (State.discipline d s).gal = s.gal ∧ (State.discipline d s).mxe = s.mxe ∧ (State.discipline d s).dsc = s.dsc ∧ (State.discipline d s).fca = s.fca ∧ (State.discipline d s).spe = s.spe ∧ (State.discipline d s).hum = s.hum ∧ (State.discipline d s).bpm = s.bpm ∧ (State.discipline d s).dmc = s.dmc ∧ (State.discipline d s).ccl = s.ccl ∧ (State.discipline d s).csu = s.csu ∧ (State.discipline d s).mgp = s.mgp :=
  have h := (State.discipline_touch _ _ (by simp) (Touch.refl 8421480 _))
  ⟨h.pending, h.out rfl, h.freeCnt rfl, h.timers rfl, h.power rfl, h.sheetOld rfl, h.hlu rfl, h.qen rfl, h.tnu rfl, h.gal rfl, h.mxe rfl, h.dsc rfl, h.fca rfl, h.spe rfl, h.hum rfl, h.bpm rfl, h.dmc rfl, h.ccl rfl, h.csu rfl, h.mgp rfl⟩

@[simp] theorem State.setBusMaster_units (fn : Nat) (on : Bool) (s : State) :
    (State.setBusMaster fn on s).pending = s.pending ∧ (State.setBusMaster fn on s).out = s.out ∧ (State.setBusMaster fn on s).freeCnt = s.freeCnt ∧ (State.setBusMaster fn on s).timers = s.timers ∧ (State.setBusMaster fn on s).tbu = s.tbu ∧ (State.setBusMaster fn on s).power = s.power ∧ (State.setBusMaster fn on s).regf = s.regf ∧ (State.setBusMaster fn on s).sheet = s.sheet ∧ (State.setBusMaster fn on s).sheetOld = s.sheetOld ∧ (State.setBusMaster fn on s).tnu = s.tnu ∧ (State.setBusMaster fn on s).gal = s.gal ∧ (State.setBusMaster fn on s).mxe = s.mxe ∧ (State.setBusMaster fn on s).dsc = s.dsc ∧ (State.setBusMaster fn on s).fca = s.fca ∧ (State.setBusMaster fn on s).cdx = s.cdx ∧ (State.setBusMaster fn on s).spe = s.spe ∧ (State.setBusMaster fn on s).hum = s.hum ∧ (State.setBusMaster fn on s).bpm = s.bpm ∧ (State.setBusMaster fn on s).dmc = s.dmc ∧ (State.setBusMaster fn on s).ccl = s.ccl ∧ (State.setBusMaster fn on s).csu = s.csu ∧ (State.setBusMaster fn on s).mgp = s.mgp ∧ (State.setBusMaster fn on s).cru = s.cru :=
  have h := (State.setBusMaster_touch _ _ _ (by simp) (Touch.refl 768 _))
  ⟨h.pending, h.out rfl, h.freeCnt rfl, h.timers rfl, h.tbu rfl, h.power rfl, h.regf rfl, h.sheet rfl, h.sheetOld rfl, h.tnu rfl, h.gal rfl, h.mxe rfl, h.dsc rfl, h.fca rfl, h.cdx rfl, h.spe rfl, h.hum rfl, h.bpm rfl, h.dmc rfl, h.ccl rfl, h.csu rfl, h.mgp rfl, h.cru rfl⟩

@[simp] theorem State.portData_units (p : Nat) (bs : List Byte) (s : State) :
    (State.portData p bs s).pending = s.pending ∧ (State.portData p bs s).out = s.out ∧ (State.portData p bs s).freeCnt = s.freeCnt ∧ (State.portData p bs s).timers = s.timers ∧ (State.portData p bs s).tbu = s.tbu ∧ (State.portData p bs s).power = s.power ∧ (State.portData p bs s).sheet = s.sheet ∧ (State.portData p bs s).sheetOld = s.sheetOld ∧ (State.portData p bs s).hlu = s.hlu ∧ (State.portData p bs s).qen = s.qen ∧ (State.portData p bs s).tnu = s.tnu ∧ (State.portData p bs s).gal = s.gal ∧ (State.portData p bs s).mxe = s.mxe ∧ (State.portData p bs s).dsc = s.dsc ∧ (State.portData p bs s).fca = s.fca ∧ (State.portData p bs s).cdx = s.cdx ∧ (State.portData p bs s).spe = s.spe ∧ (State.portData p bs s).hum = s.hum ∧ (State.portData p bs s).bpm = s.bpm ∧ (State.portData p bs s).dmc = s.dmc ∧ (State.portData p bs s).ccl = s.ccl ∧ (State.portData p bs s).csu = s.csu ∧ (State.portData p bs s).mgp = s.mgp ∧ (State.portData p bs s).cru = s.cru :=
  have h := (State.portData_touch _ _ _ (by simp) (Touch.refl 32 _))
  ⟨h.pending, h.out rfl, h.freeCnt rfl, h.timers rfl, h.tbu rfl, h.power rfl, h.sheet rfl, h.sheetOld rfl, h.hlu rfl, h.qen rfl, h.tnu rfl, h.gal rfl, h.mxe rfl, h.dsc rfl, h.fca rfl, h.cdx rfl, h.spe rfl, h.hum rfl, h.bpm rfl, h.dmc rfl, h.ccl rfl, h.csu rfl, h.mgp rfl, h.cru rfl⟩

@[simp] theorem State.tpErr_units (st : Nat) (s : State) :
    (State.tpErr st s).pending = s.pending ∧ (State.tpErr st s).out = s.out ∧ (State.tpErr st s).freeCnt = s.freeCnt ∧ (State.tpErr st s).timers = s.timers ∧ (State.tpErr st s).tbu = s.tbu ∧ (State.tpErr st s).power = s.power ∧ (State.tpErr st s).sheet = s.sheet ∧ (State.tpErr st s).sheetOld = s.sheetOld ∧ (State.tpErr st s).hlu = s.hlu ∧ (State.tpErr st s).qen = s.qen ∧ (State.tpErr st s).tnu = s.tnu ∧ (State.tpErr st s).gal = s.gal ∧ (State.tpErr st s).mxe = s.mxe ∧ (State.tpErr st s).dsc = s.dsc ∧ (State.tpErr st s).fca = s.fca ∧ (State.tpErr st s).cdx = s.cdx ∧ (State.tpErr st s).spe = s.spe ∧ (State.tpErr st s).hum = s.hum ∧ (State.tpErr st s).bpm = s.bpm ∧ (State.tpErr st s).dmc = s.dmc ∧ (State.tpErr st s).ccl = s.ccl ∧ (State.tpErr st s).csu = s.csu ∧ (State.tpErr st s).mgp = s.mgp ∧ (State.tpErr st s).cru = s.cru :=
  have h := (State.tpErr_touch _ _ (by simp) (Touch.refl 32 _))
  ⟨h.pending, h.out rfl, h.freeCnt rfl, h.timers rfl, h.tbu rfl, h.power rfl, h.sheet rfl, h.sheetOld rfl, h.hlu rfl, h.qen rfl, h.tnu rfl, h.gal rfl, h.mxe rfl, h.dsc rfl, h.fca rfl, h.cdx rfl, h.spe rfl, h.hum rfl, h.bpm rfl, h.dmc rfl, h.ccl rfl, h.csu rfl, h.mgp rfl, h.cru rfl⟩

@[simp] theorem State.respond_units (via : Transport) (eid tag cmd st : Nat) (data : List Byte) (s : State) :
    (State.respond via eid tag cmd st data s).pending = s.pending ∧ (State.respond via eid tag cmd st data s).freeCnt = s.freeCnt ∧ (State.respond via eid tag cmd st data s).timers = s.timers ∧ (State.respond via eid tag cmd st data s).tbu = s.tbu ∧ (State.respond via eid tag cmd st data s).power = s.power ∧ (State.respond via eid tag cmd st data s).sheet = s.sheet ∧ (State.respond via eid tag cmd st data s).sheetOld = s.sheetOld ∧ (State.respond via eid tag cmd st data s).hlu = s.hlu ∧ (State.respond via eid tag cmd st data s).qen = s.qen ∧ (State.respond via eid tag cmd st data s).tnu = s.tnu ∧ (State.respond via eid tag cmd st data s).gal = s.gal ∧ (State.respond via eid tag cmd st data s).mxe = s.mxe ∧ (State.respond via eid tag cmd st data s).dsc = s.dsc ∧ (State.respond via eid tag cmd st data s).fca = s.fca ∧ (State.respond via eid tag cmd st data s).cdx = s.cdx ∧ (State.respond via eid tag cmd st data s).spe = s.spe ∧ (State.respond via eid tag cmd st data s).hum = s.hum ∧ (State.respond via eid tag cmd st data s).bpm = s.bpm ∧ (State.respond via eid tag cmd st data s).dmc = s.dmc ∧ (State.respond via eid tag cmd st data s).ccl = s.ccl ∧ (State.respond via eid tag cmd st data s).csu = s.csu ∧ (State.respond via eid tag cmd st data s).cru = s.cru :=
  have h := (State.respond_touch _ _ _ _ _ _ _ (by simp) (Touch.refl 4194337 _))
  ⟨h.pending, h.freeCnt rfl, h.timers rfl, h.tbu rfl, h.power rfl, h.sheet rfl, h.sheetOld rfl, h.hlu rfl, h.qen rfl, h.tnu rfl, h.gal rfl, h.mxe rfl, h.dsc rfl, h.fca rfl, h.cdx rfl, h.spe rfl, h.hum rfl, h.bpm rfl, h.dmc rfl, h.ccl rfl, h.csu rfl, h.cru rfl⟩

@[simp] theorem State.takePort_units (via : Transport) (seq cmd index sub bytes : Nat) (s : State) :
    (State.takePort via seq cmd index sub bytes s).pending = s.pending ∧ (State.takePort via seq cmd index sub bytes s).out = s.out ∧ (State.takePort via seq cmd index sub bytes s).freeCnt = s.freeCnt ∧ (State.takePort via seq cmd index sub bytes s).timers = s.timers ∧ (State.takePort via seq cmd index sub bytes s).tbu = s.tbu ∧ (State.takePort via seq cmd index sub bytes s).power = s.power ∧ (State.takePort via seq cmd index sub bytes s).sheet = s.sheet ∧ (State.takePort via seq cmd index sub bytes s).sheetOld = s.sheetOld ∧ (State.takePort via seq cmd index sub bytes s).hlu = s.hlu ∧ (State.takePort via seq cmd index sub bytes s).qen = s.qen ∧ (State.takePort via seq cmd index sub bytes s).tnu = s.tnu ∧ (State.takePort via seq cmd index sub bytes s).gal = s.gal ∧ (State.takePort via seq cmd index sub bytes s).mxe = s.mxe ∧ (State.takePort via seq cmd index sub bytes s).dsc = s.dsc ∧ (State.takePort via seq cmd index sub bytes s).fca = s.fca ∧ (State.takePort via seq cmd index sub bytes s).cdx = s.cdx ∧ (State.takePort via seq cmd index sub bytes s).spe = s.spe ∧ (State.takePort via seq cmd index sub bytes s).hum = s.hum ∧ (State.takePort via seq cmd index sub bytes s).bpm = s.bpm ∧ (State.takePort via seq cmd index sub bytes s).dmc = s.dmc ∧ (State.takePort via seq cmd index sub bytes s).ccl = s.ccl ∧ (State.takePort via seq cmd index sub bytes s).csu = s.csu ∧ (State.takePort via seq cmd index sub bytes s).cru = s.cru :=
  have h := (State.takePort_touch _ _ _ _ _ _ _ (by simp) (Touch.refl 4194336 _))
  ⟨h.pending, h.out rfl, h.freeCnt rfl, h.timers rfl, h.tbu rfl, h.power rfl, h.sheet rfl, h.sheetOld rfl, h.hlu rfl, h.qen rfl, h.tnu rfl, h.gal rfl, h.mxe rfl, h.dsc rfl, h.fca rfl, h.cdx rfl, h.spe rfl, h.hum rfl, h.bpm rfl, h.dmc rfl, h.ccl rfl, h.csu rfl, h.cru rfl⟩

@[simp] theorem State.serveObj_units (cmd : Nat) (r : SheetRequest) (data : List Byte) (s : State) :
    (State.serveObj cmd r data s).pending = s.pending ∧ (State.serveObj cmd r data s).timers = s.timers ∧ (State.serveObj cmd r data s).mxe = s.mxe ∧ (State.serveObj cmd r data s).dsc = s.dsc ∧ (State.serveObj cmd r data s).fca = s.fca ∧ (State.serveObj cmd r data s).spe = s.spe ∧ (State.serveObj cmd r data s).hum = s.hum ∧ (State.serveObj cmd r data s).dmc = s.dmc :=
  have h := (State.serveObj_touch _ _ _ _ (by simp) (Touch.refl 16027643 _))
  ⟨h.pending, h.timers rfl, h.mxe rfl, h.dsc rfl, h.fca rfl, h.spe rfl, h.hum rfl, h.dmc rfl⟩

@[simp] theorem State.serveReq_units (cmd : Nat) (r : SheetRequest) (data : List Byte) (s : State) :
    (State.serveReq cmd r data s).pending = s.pending ∧ (State.serveReq cmd r data s).timers = s.timers ∧ (State.serveReq cmd r data s).mxe = s.mxe ∧ (State.serveReq cmd r data s).dsc = s.dsc ∧ (State.serveReq cmd r data s).fca = s.fca ∧ (State.serveReq cmd r data s).spe = s.spe ∧ (State.serveReq cmd r data s).hum = s.hum ∧ (State.serveReq cmd r data s).dmc = s.dmc :=
  have h := (State.serveReq_touch _ _ _ _ (by simp) (Touch.refl 16027643 _))
  ⟨h.pending, h.timers rfl, h.mxe rfl, h.dsc rfl, h.fca rfl, h.spe rfl, h.hum rfl, h.dmc rfl⟩

@[simp] theorem State.request_units (cmd : Nat) (r : SheetRequest) (data : List Byte) (s : State) :
    (State.request cmd r data s).pending = s.pending ∧ (State.request cmd r data s).timers = s.timers ∧ (State.request cmd r data s).mxe = s.mxe ∧ (State.request cmd r data s).dsc = s.dsc ∧ (State.request cmd r data s).fca = s.fca ∧ (State.request cmd r data s).spe = s.spe ∧ (State.request cmd r data s).hum = s.hum ∧ (State.request cmd r data s).dmc = s.dmc :=
  have h := (State.request_touch _ _ _ _ (by simp) (Touch.refl 16027643 _))
  ⟨h.pending, h.timers rfl, h.mxe rfl, h.dsc rfl, h.fca rfl, h.spe rfl, h.hum rfl, h.dmc rfl⟩

@[simp] theorem State.serveHeld_units (w : GapRequest) (s : State) :
    (State.serveHeld w s).pending = s.pending ∧ (State.serveHeld w s).timers = s.timers ∧ (State.serveHeld w s).mxe = s.mxe ∧ (State.serveHeld w s).dsc = s.dsc ∧ (State.serveHeld w s).fca = s.fca ∧ (State.serveHeld w s).spe = s.spe ∧ (State.serveHeld w s).hum = s.hum ∧ (State.serveHeld w s).dmc = s.dmc :=
  have h := (State.serveHeld_touch _ _ (by simp) (Touch.refl 16027643 _))
  ⟨h.pending, h.timers rfl, h.mxe rfl, h.dsc rfl, h.fca rfl, h.spe rfl, h.hum rfl, h.dmc rfl⟩

@[simp] theorem State.serveWaiting_units (s : State) :
    (State.serveWaiting s).pending = s.pending ∧ (State.serveWaiting s).timers = s.timers ∧ (State.serveWaiting s).mxe = s.mxe ∧ (State.serveWaiting s).dsc = s.dsc ∧ (State.serveWaiting s).fca = s.fca ∧ (State.serveWaiting s).spe = s.spe ∧ (State.serveWaiting s).hum = s.hum ∧ (State.serveWaiting s).dmc = s.dmc :=
  have h := (State.serveWaiting_touch _ (by simp) (Touch.refl 16027643 _))
  ⟨h.pending, h.timers rfl, h.mxe rfl, h.dsc rfl, h.fca rfl, h.spe rfl, h.hum rfl, h.dmc rfl⟩

@[simp] theorem State.cutOp_units (suspend : Bool) (s : State) (e : Nat × Nat × DieOp) :
    (State.cutOp suspend s e).pending = s.pending ∧ (State.cutOp suspend s e).freeCnt = s.freeCnt ∧ (State.cutOp suspend s e).timers = s.timers ∧ (State.cutOp suspend s e).tbu = s.tbu ∧ (State.cutOp suspend s e).power = s.power ∧ (State.cutOp suspend s e).regf = s.regf ∧ (State.cutOp suspend s e).sheet = s.sheet ∧ (State.cutOp suspend s e).sheetOld = s.sheetOld ∧ (State.cutOp suspend s e).hlu = s.hlu ∧ (State.cutOp suspend s e).qen = s.qen ∧ (State.cutOp suspend s e).tnu = s.tnu ∧ (State.cutOp suspend s e).gal = s.gal ∧ (State.cutOp suspend s e).cdx = s.cdx ∧ (State.cutOp suspend s e).hum = s.hum ∧ (State.cutOp suspend s e).bpm = s.bpm ∧ (State.cutOp suspend s e).dmc = s.dmc ∧ (State.cutOp suspend s e).ccl = s.ccl ∧ (State.cutOp suspend s e).csu = s.csu ∧ (State.cutOp suspend s e).mgp = s.mgp ∧ (State.cutOp suspend s e).cru = s.cru :=
  have h := (State.cutOp_touch _ _ _ (by simp) (Touch.refl 94209 _))
  ⟨h.pending, h.freeCnt rfl, h.timers rfl, h.tbu rfl, h.power rfl, h.regf rfl, h.sheet rfl, h.sheetOld rfl, h.hlu rfl, h.qen rfl, h.tnu rfl, h.gal rfl, h.cdx rfl, h.hum rfl, h.bpm rfl, h.dmc rfl, h.ccl rfl, h.csu rfl, h.mgp rfl, h.cru rfl⟩

@[simp] theorem State.enterDump_units (thermal : Bool) (s : State) :
    (State.enterDump thermal s).pending = s.pending ∧ (State.enterDump thermal s).freeCnt = s.freeCnt ∧ (State.enterDump thermal s).timers = s.timers ∧ (State.enterDump thermal s).tbu = s.tbu ∧ (State.enterDump thermal s).power = s.power ∧ (State.enterDump thermal s).sheet = s.sheet ∧ (State.enterDump thermal s).sheetOld = s.sheetOld ∧ (State.enterDump thermal s).hlu = s.hlu ∧ (State.enterDump thermal s).tnu = s.tnu ∧ (State.enterDump thermal s).gal = s.gal ∧ (State.enterDump thermal s).mxe = s.mxe ∧ (State.enterDump thermal s).dsc = s.dsc ∧ (State.enterDump thermal s).fca = s.fca ∧ (State.enterDump thermal s).cdx = s.cdx ∧ (State.enterDump thermal s).spe = s.spe ∧ (State.enterDump thermal s).bpm = s.bpm ∧ (State.enterDump thermal s).dmc = s.dmc ∧ (State.enterDump thermal s).ccl = s.ccl ∧ (State.enterDump thermal s).csu = s.csu :=
  have h := (State.enterDump_touch _ _ (by simp) (Touch.refl 12714529 _))
  ⟨h.pending, h.freeCnt rfl, h.timers rfl, h.tbu rfl, h.power rfl, h.sheet rfl, h.sheetOld rfl, h.hlu rfl, h.tnu rfl, h.gal rfl, h.mxe rfl, h.dsc rfl, h.fca rfl, h.cdx rfl, h.spe rfl, h.bpm rfl, h.dmc rfl, h.ccl rfl, h.csu rfl⟩

@[simp] theorem State.dumpBegin_units (thermal : Bool) (s : State) :
    (State.dumpBegin thermal s).pending = s.pending ∧ (State.dumpBegin thermal s).timers = s.timers :=
  have h := (State.dumpBegin_touch _ _ (by simp) (Touch.refl 16777211 _))
  ⟨h.pending, h.timers rfl⟩

@[simp] theorem State.dumpWaitOver_units (r : DumpRun) (s : State) :
    (State.dumpWaitOver r s).pending = s.pending ∧ (State.dumpWaitOver r s).freeCnt = s.freeCnt ∧ (State.dumpWaitOver r s).timers = s.timers ∧ (State.dumpWaitOver r s).tbu = s.tbu ∧ (State.dumpWaitOver r s).power = s.power ∧ (State.dumpWaitOver r s).regf = s.regf ∧ (State.dumpWaitOver r s).sheet = s.sheet ∧ (State.dumpWaitOver r s).sheetOld = s.sheetOld ∧ (State.dumpWaitOver r s).hlu = s.hlu ∧ (State.dumpWaitOver r s).qen = s.qen ∧ (State.dumpWaitOver r s).tnu = s.tnu ∧ (State.dumpWaitOver r s).gal = s.gal ∧ (State.dumpWaitOver r s).cdx = s.cdx ∧ (State.dumpWaitOver r s).bpm = s.bpm ∧ (State.dumpWaitOver r s).dmc = s.dmc ∧ (State.dumpWaitOver r s).ccl = s.ccl ∧ (State.dumpWaitOver r s).csu = s.csu ∧ (State.dumpWaitOver r s).mgp = s.mgp ∧ (State.dumpWaitOver r s).cru = s.cru :=
  have h := (State.dumpWaitOver_touch _ _ (by simp) (Touch.refl 225281 _))
  ⟨h.pending, h.freeCnt rfl, h.timers rfl, h.tbu rfl, h.power rfl, h.regf rfl, h.sheet rfl, h.sheetOld rfl, h.hlu rfl, h.qen rfl, h.tnu rfl, h.gal rfl, h.cdx rfl, h.bpm rfl, h.dmc rfl, h.ccl rfl, h.csu rfl, h.mgp rfl, h.cru rfl⟩

@[simp] theorem State.journalFreeze_units (r : DumpRun) (s : State) :
    (State.journalFreeze r s).pending = s.pending ∧ (State.journalFreeze r s).freeCnt = s.freeCnt ∧ (State.journalFreeze r s).timers = s.timers ∧ (State.journalFreeze r s).tbu = s.tbu ∧ (State.journalFreeze r s).sheet = s.sheet ∧ (State.journalFreeze r s).sheetOld = s.sheetOld ∧ (State.journalFreeze r s).hlu = s.hlu ∧ (State.journalFreeze r s).gal = s.gal ∧ (State.journalFreeze r s).dsc = s.dsc ∧ (State.journalFreeze r s).fca = s.fca ∧ (State.journalFreeze r s).cdx = s.cdx ∧ (State.journalFreeze r s).dmc = s.dmc ∧ (State.journalFreeze r s).csu = s.csu :=
  have h := (State.journalFreeze_touch _ _ (by simp) (Touch.refl 14095921 _))
  ⟨h.pending, h.freeCnt rfl, h.timers rfl, h.tbu rfl, h.sheet rfl, h.sheetOld rfl, h.hlu rfl, h.gal rfl, h.dsc rfl, h.fca rfl, h.cdx rfl, h.dmc rfl, h.csu rfl⟩

@[simp] theorem State.dumpEnd_units (s : State) :
    (State.dumpEnd s).pending = s.pending ∧ (State.dumpEnd s).freeCnt = s.freeCnt ∧ (State.dumpEnd s).timers = s.timers ∧ (State.dumpEnd s).tbu = s.tbu ∧ (State.dumpEnd s).sheet = s.sheet ∧ (State.dumpEnd s).sheetOld = s.sheetOld ∧ (State.dumpEnd s).hlu = s.hlu ∧ (State.dumpEnd s).tnu = s.tnu ∧ (State.dumpEnd s).gal = s.gal ∧ (State.dumpEnd s).ccl = s.ccl ∧ (State.dumpEnd s).csu = s.csu :=
  have h := (State.dumpEnd_touch _ (by simp) (Touch.refl 13627953 _))
  ⟨h.pending, h.freeCnt rfl, h.timers rfl, h.tbu rfl, h.sheet rfl, h.sheetOld rfl, h.hlu rfl, h.tnu rfl, h.gal rfl, h.ccl rfl, h.csu rfl⟩

@[simp] theorem State.dumpGood_units (r : DumpRun) (s : State) :
    (State.dumpGood r s).pending = s.pending ∧ (State.dumpGood r s).freeCnt = s.freeCnt ∧ (State.dumpGood r s).timers = s.timers ∧ (State.dumpGood r s).tbu = s.tbu ∧ (State.dumpGood r s).sheetOld = s.sheetOld ∧ (State.dumpGood r s).hlu = s.hlu ∧ (State.dumpGood r s).tnu = s.tnu ∧ (State.dumpGood r s).gal = s.gal ∧ (State.dumpGood r s).ccl = s.ccl ∧ (State.dumpGood r s).csu = s.csu :=
  have h := (State.dumpGood_touch _ _ (by simp) (Touch.refl 13628017 _))
  ⟨h.pending, h.freeCnt rfl, h.timers rfl, h.tbu rfl, h.sheetOld rfl, h.hlu rfl, h.tnu rfl, h.gal rfl, h.ccl rfl, h.csu rfl⟩

@[simp] theorem State.dumpLost_units (r : DumpRun) (s : State) :
    (State.dumpLost r s).pending = s.pending ∧ (State.dumpLost r s).freeCnt = s.freeCnt ∧ (State.dumpLost r s).timers = s.timers ∧ (State.dumpLost r s).tbu = s.tbu ∧ (State.dumpLost r s).sheet = s.sheet ∧ (State.dumpLost r s).sheetOld = s.sheetOld ∧ (State.dumpLost r s).hlu = s.hlu ∧ (State.dumpLost r s).tnu = s.tnu ∧ (State.dumpLost r s).gal = s.gal ∧ (State.dumpLost r s).ccl = s.ccl ∧ (State.dumpLost r s).csu = s.csu :=
  have h := (State.dumpLost_touch _ _ (by simp) (Touch.refl 13627953 _))
  ⟨h.pending, h.freeCnt rfl, h.timers rfl, h.tbu rfl, h.sheet rfl, h.sheetOld rfl, h.hlu rfl, h.tnu rfl, h.gal rfl, h.ccl rfl, h.csu rfl⟩

@[simp] theorem State.dumpTick_units (s : State) :
    (State.dumpTick s).pending = s.pending ∧ (State.dumpTick s).freeCnt = s.freeCnt ∧ (State.dumpTick s).timers = s.timers ∧ (State.dumpTick s).tbu = s.tbu ∧ (State.dumpTick s).sheet = s.sheet ∧ (State.dumpTick s).sheetOld = s.sheetOld ∧ (State.dumpTick s).hlu = s.hlu ∧ (State.dumpTick s).tnu = s.tnu ∧ (State.dumpTick s).gal = s.gal ∧ (State.dumpTick s).ccl = s.ccl ∧ (State.dumpTick s).csu = s.csu :=
  have h := (State.dumpTick_touch _ (by simp) (Touch.refl 13627953 _))
  ⟨h.pending, h.freeCnt rfl, h.timers rfl, h.tbu rfl, h.sheet rfl, h.sheetOld rfl, h.hlu rfl, h.tnu rfl, h.gal rfl, h.ccl rfl, h.csu rfl⟩

@[simp] theorem State.countValid_units (s : State) :
    (State.countValid s).pending = s.pending ∧ (State.countValid s).out = s.out ∧ (State.countValid s).freeCnt = s.freeCnt ∧ (State.countValid s).timers = s.timers ∧ (State.countValid s).tbu = s.tbu ∧ (State.countValid s).power = s.power ∧ (State.countValid s).regf = s.regf ∧ (State.countValid s).sheet = s.sheet ∧ (State.countValid s).sheetOld = s.sheetOld ∧ (State.countValid s).hlu = s.hlu ∧ (State.countValid s).qen = s.qen ∧ (State.countValid s).tnu = s.tnu ∧ (State.countValid s).gal = s.gal ∧ (State.countValid s).dsc = s.dsc ∧ (State.countValid s).fca = s.fca ∧ (State.countValid s).cdx = s.cdx ∧ (State.countValid s).spe = s.spe ∧ (State.countValid s).hum = s.hum ∧ (State.countValid s).bpm = s.bpm ∧ (State.countValid s).dmc = s.dmc ∧ (State.countValid s).ccl = s.ccl ∧ (State.countValid s).csu = s.csu ∧ (State.countValid s).mgp = s.mgp ∧ (State.countValid s).cru = s.cru :=
  have h := (State.countValid_touch _ (by simp) (Touch.refl 4096 _))
  ⟨h.pending, h.out rfl, h.freeCnt rfl, h.timers rfl, h.tbu rfl, h.power rfl, h.regf rfl, h.sheet rfl, h.sheetOld rfl, h.hlu rfl, h.qen rfl, h.tnu rfl, h.gal rfl, h.dsc rfl, h.fca rfl, h.cdx rfl, h.spe rfl, h.hum rfl, h.bpm rfl, h.dmc rfl, h.ccl rfl, h.csu rfl, h.mgp rfl, h.cru rfl⟩

@[simp] theorem State.fullScan_units (trims : Bool) (s : State) :
    (State.fullScan trims s).pending = s.pending ∧ (State.fullScan trims s).out = s.out ∧ (State.fullScan trims s).freeCnt = s.freeCnt ∧ (State.fullScan trims s).timers = s.timers ∧ (State.fullScan trims s).tbu = s.tbu ∧ (State.fullScan trims s).power = s.power ∧ (State.fullScan trims s).sheet = s.sheet ∧ (State.fullScan trims s).sheetOld = s.sheetOld ∧ (State.fullScan trims s).hlu = s.hlu ∧ (State.fullScan trims s).qen = s.qen ∧ (State.fullScan trims s).tnu = s.tnu ∧ (State.fullScan trims s).gal = s.gal ∧ (State.fullScan trims s).dsc = s.dsc ∧ (State.fullScan trims s).fca = s.fca ∧ (State.fullScan trims s).cdx = s.cdx ∧ (State.fullScan trims s).spe = s.spe ∧ (State.fullScan trims s).hum = s.hum ∧ (State.fullScan trims s).bpm = s.bpm ∧ (State.fullScan trims s).dmc = s.dmc ∧ (State.fullScan trims s).ccl = s.ccl ∧ (State.fullScan trims s).csu = s.csu ∧ (State.fullScan trims s).mgp = s.mgp ∧ (State.fullScan trims s).cru = s.cru :=
  have h := (State.fullScan_touch _ _ (by simp) (Touch.refl 4128 _))
  ⟨h.pending, h.out rfl, h.freeCnt rfl, h.timers rfl, h.tbu rfl, h.power rfl, h.sheet rfl, h.sheetOld rfl, h.hlu rfl, h.qen rfl, h.tnu rfl, h.gal rfl, h.dsc rfl, h.fca rfl, h.cdx rfl, h.spe rfl, h.hum rfl, h.bpm rfl, h.dmc rfl, h.ccl rfl, h.csu rfl, h.mgp rfl, h.cru rfl⟩

@[simp] theorem State.boundedScan_units (s : State) :
    (State.boundedScan s).pending = s.pending ∧ (State.boundedScan s).out = s.out ∧ (State.boundedScan s).freeCnt = s.freeCnt ∧ (State.boundedScan s).timers = s.timers ∧ (State.boundedScan s).tbu = s.tbu ∧ (State.boundedScan s).power = s.power ∧ (State.boundedScan s).regf = s.regf ∧ (State.boundedScan s).sheet = s.sheet ∧ (State.boundedScan s).sheetOld = s.sheetOld ∧ (State.boundedScan s).hlu = s.hlu ∧ (State.boundedScan s).qen = s.qen ∧ (State.boundedScan s).tnu = s.tnu ∧ (State.boundedScan s).gal = s.gal ∧ (State.boundedScan s).dsc = s.dsc ∧ (State.boundedScan s).fca = s.fca ∧ (State.boundedScan s).cdx = s.cdx ∧ (State.boundedScan s).spe = s.spe ∧ (State.boundedScan s).hum = s.hum ∧ (State.boundedScan s).bpm = s.bpm ∧ (State.boundedScan s).dmc = s.dmc ∧ (State.boundedScan s).ccl = s.ccl ∧ (State.boundedScan s).csu = s.csu ∧ (State.boundedScan s).mgp = s.mgp ∧ (State.boundedScan s).cru = s.cru :=
  have h := (State.boundedScan_touch _ (by simp) (Touch.refl 4096 _))
  ⟨h.pending, h.out rfl, h.freeCnt rfl, h.timers rfl, h.tbu rfl, h.power rfl, h.regf rfl, h.sheet rfl, h.sheetOld rfl, h.hlu rfl, h.qen rfl, h.tnu rfl, h.gal rfl, h.dsc rfl, h.fca rfl, h.cdx rfl, h.spe rfl, h.hum rfl, h.bpm rfl, h.dmc rfl, h.ccl rfl, h.csu rfl, h.mgp rfl, h.cru rfl⟩

@[simp] theorem State.raiseNumbers_units (s : State) :
    (State.raiseNumbers s).pending = s.pending ∧ (State.raiseNumbers s).out = s.out ∧ (State.raiseNumbers s).freeCnt = s.freeCnt ∧ (State.raiseNumbers s).timers = s.timers ∧ (State.raiseNumbers s).tbu = s.tbu ∧ (State.raiseNumbers s).power = s.power ∧ (State.raiseNumbers s).regf = s.regf ∧ (State.raiseNumbers s).sheet = s.sheet ∧ (State.raiseNumbers s).sheetOld = s.sheetOld ∧ (State.raiseNumbers s).hlu = s.hlu ∧ (State.raiseNumbers s).qen = s.qen ∧ (State.raiseNumbers s).tnu = s.tnu ∧ (State.raiseNumbers s).gal = s.gal ∧ (State.raiseNumbers s).dsc = s.dsc ∧ (State.raiseNumbers s).fca = s.fca ∧ (State.raiseNumbers s).cdx = s.cdx ∧ (State.raiseNumbers s).spe = s.spe ∧ (State.raiseNumbers s).hum = s.hum ∧ (State.raiseNumbers s).bpm = s.bpm ∧ (State.raiseNumbers s).dmc = s.dmc ∧ (State.raiseNumbers s).ccl = s.ccl ∧ (State.raiseNumbers s).csu = s.csu ∧ (State.raiseNumbers s).mgp = s.mgp ∧ (State.raiseNumbers s).cru = s.cru :=
  have h := (State.raiseNumbers_touch _ (by simp) (Touch.refl 4096 _))
  ⟨h.pending, h.out rfl, h.freeCnt rfl, h.timers rfl, h.tbu rfl, h.power rfl, h.regf rfl, h.sheet rfl, h.sheetOld rfl, h.hlu rfl, h.qen rfl, h.tnu rfl, h.gal rfl, h.dsc rfl, h.fca rfl, h.cdx rfl, h.spe rfl, h.hum rfl, h.bpm rfl, h.dmc rfl, h.ccl rfl, h.csu rfl, h.mgp rfl, h.cru rfl⟩

@[simp] theorem State.loadStripes_units (dump : Option (List Stripe)) (s : State) :
    (State.loadStripes dump s).pending = s.pending ∧ (State.loadStripes dump s).out = s.out ∧ (State.loadStripes dump s).freeCnt = s.freeCnt ∧ (State.loadStripes dump s).timers = s.timers ∧ (State.loadStripes dump s).tbu = s.tbu ∧ (State.loadStripes dump s).power = s.power ∧ (State.loadStripes dump s).regf = s.regf ∧ (State.loadStripes dump s).sheet = s.sheet ∧ (State.loadStripes dump s).sheetOld = s.sheetOld ∧ (State.loadStripes dump s).hlu = s.hlu ∧ (State.loadStripes dump s).qen = s.qen ∧ (State.loadStripes dump s).tnu = s.tnu ∧ (State.loadStripes dump s).gal = s.gal ∧ (State.loadStripes dump s).mxe = s.mxe ∧ (State.loadStripes dump s).dsc = s.dsc ∧ (State.loadStripes dump s).fca = s.fca ∧ (State.loadStripes dump s).cdx = s.cdx ∧ (State.loadStripes dump s).hum = s.hum ∧ (State.loadStripes dump s).bpm = s.bpm ∧ (State.loadStripes dump s).dmc = s.dmc ∧ (State.loadStripes dump s).ccl = s.ccl ∧ (State.loadStripes dump s).csu = s.csu ∧ (State.loadStripes dump s).mgp = s.mgp ∧ (State.loadStripes dump s).cru = s.cru :=
  have h := (State.loadStripes_touch _ _ (by simp) (Touch.refl 65536 _))
  ⟨h.pending, h.out rfl, h.freeCnt rfl, h.timers rfl, h.tbu rfl, h.power rfl, h.regf rfl, h.sheet rfl, h.sheetOld rfl, h.hlu rfl, h.qen rfl, h.tnu rfl, h.gal rfl, h.mxe rfl, h.dsc rfl, h.fca rfl, h.cdx rfl, h.hum rfl, h.bpm rfl, h.dmc rfl, h.ccl rfl, h.csu rfl, h.mgp rfl, h.cru rfl⟩

@[simp] theorem State.reenter_units (keys : List (Nat × Nat)) (s : State) (e : InFlight × List Nat) :
    (State.reenter keys s e).pending = s.pending ∧ (State.reenter keys s e).out = s.out ∧ (State.reenter keys s e).freeCnt = s.freeCnt ∧ (State.reenter keys s e).timers = s.timers ∧ (State.reenter keys s e).tbu = s.tbu ∧ (State.reenter keys s e).power = s.power ∧ (State.reenter keys s e).sheet = s.sheet ∧ (State.reenter keys s e).sheetOld = s.sheetOld ∧ (State.reenter keys s e).hlu = s.hlu ∧ (State.reenter keys s e).tnu = s.tnu ∧ (State.reenter keys s e).gal = s.gal ∧ (State.reenter keys s e).dsc = s.dsc ∧ (State.reenter keys s e).fca = s.fca ∧ (State.reenter keys s e).cdx = s.cdx ∧ (State.reenter keys s e).hum = s.hum ∧ (State.reenter keys s e).bpm = s.bpm ∧ (State.reenter keys s e).dmc = s.dmc ∧ (State.reenter keys s e).ccl = s.ccl ∧ (State.reenter keys s e).csu = s.csu ∧ (State.reenter keys s e).mgp = s.mgp :=
  have h := (State.reenter_touch _ _ _ (by simp) (Touch.refl 8458784 _))
  ⟨h.pending, h.out rfl, h.freeCnt rfl, h.timers rfl, h.tbu rfl, h.power rfl, h.sheet rfl, h.sheetOld rfl, h.hlu rfl, h.tnu rfl, h.gal rfl, h.dsc rfl, h.fca rfl, h.cdx rfl, h.hum rfl, h.bpm rfl, h.dmc rfl, h.ccl rfl, h.csu rfl, h.mgp rfl⟩

@[simp] theorem State.replayDump_units (x : DumpImage) (s : State) :
    (State.replayDump x s).pending = s.pending ∧ (State.replayDump x s).out = s.out ∧ (State.replayDump x s).freeCnt = s.freeCnt ∧ (State.replayDump x s).timers = s.timers ∧ (State.replayDump x s).tbu = s.tbu ∧ (State.replayDump x s).power = s.power ∧ (State.replayDump x s).sheet = s.sheet ∧ (State.replayDump x s).sheetOld = s.sheetOld ∧ (State.replayDump x s).hlu = s.hlu ∧ (State.replayDump x s).tnu = s.tnu ∧ (State.replayDump x s).gal = s.gal ∧ (State.replayDump x s).dsc = s.dsc ∧ (State.replayDump x s).fca = s.fca ∧ (State.replayDump x s).cdx = s.cdx ∧ (State.replayDump x s).bpm = s.bpm ∧ (State.replayDump x s).dmc = s.dmc ∧ (State.replayDump x s).ccl = s.ccl ∧ (State.replayDump x s).csu = s.csu ∧ (State.replayDump x s).mgp = s.mgp :=
  have h := (State.replayDump_touch _ _ (by simp) (Touch.refl 8589856 _))
  ⟨h.pending, h.out rfl, h.freeCnt rfl, h.timers rfl, h.tbu rfl, h.power rfl, h.sheet rfl, h.sheetOld rfl, h.hlu rfl, h.tnu rfl, h.gal rfl, h.dsc rfl, h.fca rfl, h.cdx rfl, h.bpm rfl, h.dmc rfl, h.ccl rfl, h.csu rfl, h.mgp rfl⟩

@[simp] theorem State.dumpDone_units (s : State) :
    (State.dumpDone s).pending = s.pending ∧ (State.dumpDone s).out = s.out ∧ (State.dumpDone s).freeCnt = s.freeCnt ∧ (State.dumpDone s).timers = s.timers ∧ (State.dumpDone s).tbu = s.tbu ∧ (State.dumpDone s).power = s.power ∧ (State.dumpDone s).regf = s.regf ∧ (State.dumpDone s).sheet = s.sheet ∧ (State.dumpDone s).sheetOld = s.sheetOld ∧ (State.dumpDone s).hlu = s.hlu ∧ (State.dumpDone s).qen = s.qen ∧ (State.dumpDone s).tnu = s.tnu ∧ (State.dumpDone s).gal = s.gal ∧ (State.dumpDone s).mxe = s.mxe ∧ (State.dumpDone s).dsc = s.dsc ∧ (State.dumpDone s).fca = s.fca ∧ (State.dumpDone s).cdx = s.cdx ∧ (State.dumpDone s).spe = s.spe ∧ (State.dumpDone s).bpm = s.bpm ∧ (State.dumpDone s).dmc = s.dmc ∧ (State.dumpDone s).ccl = s.ccl ∧ (State.dumpDone s).csu = s.csu ∧ (State.dumpDone s).mgp = s.mgp ∧ (State.dumpDone s).cru = s.cru :=
  have h := (State.dumpDone_touch _ (by simp) (Touch.refl 131072 _))
  ⟨h.pending, h.out rfl, h.freeCnt rfl, h.timers rfl, h.tbu rfl, h.power rfl, h.regf rfl, h.sheet rfl, h.sheetOld rfl, h.hlu rfl, h.qen rfl, h.tnu rfl, h.gal rfl, h.mxe rfl, h.dsc rfl, h.fca rfl, h.cdx rfl, h.spe rfl, h.bpm rfl, h.dmc rfl, h.ccl rfl, h.csu rfl, h.mgp rfl, h.cru rfl⟩

@[simp] theorem State.restored_units (k : StartKind) (s : State) :
    (State.restored k s).pending = s.pending ∧ (State.restored k s).out = s.out ∧ (State.restored k s).freeCnt = s.freeCnt ∧ (State.restored k s).timers = s.timers ∧ (State.restored k s).tbu = s.tbu ∧ (State.restored k s).regf = s.regf ∧ (State.restored k s).sheet = s.sheet ∧ (State.restored k s).sheetOld = s.sheetOld ∧ (State.restored k s).hlu = s.hlu ∧ (State.restored k s).qen = s.qen ∧ (State.restored k s).tnu = s.tnu ∧ (State.restored k s).gal = s.gal ∧ (State.restored k s).dsc = s.dsc ∧ (State.restored k s).fca = s.fca ∧ (State.restored k s).cdx = s.cdx ∧ (State.restored k s).spe = s.spe ∧ (State.restored k s).hum = s.hum ∧ (State.restored k s).bpm = s.bpm ∧ (State.restored k s).dmc = s.dmc ∧ (State.restored k s).ccl = s.ccl ∧ (State.restored k s).csu = s.csu ∧ (State.restored k s).mgp = s.mgp ∧ (State.restored k s).cru = s.cru :=
  have h := (State.restored_touch _ _ (by simp) (Touch.refl 4112 _))
  ⟨h.pending, h.out rfl, h.freeCnt rfl, h.timers rfl, h.tbu rfl, h.regf rfl, h.sheet rfl, h.sheetOld rfl, h.hlu rfl, h.qen rfl, h.tnu rfl, h.gal rfl, h.dsc rfl, h.fca rfl, h.cdx rfl, h.spe rfl, h.hum rfl, h.bpm rfl, h.dmc rfl, h.ccl rfl, h.csu rfl, h.mgp rfl, h.cru rfl⟩

@[simp] theorem State.dumpIncomplete_units (x : DumpImage) (s : State) :
    (State.dumpIncomplete x s).pending = s.pending ∧ (State.dumpIncomplete x s).out = s.out ∧ (State.dumpIncomplete x s).freeCnt = s.freeCnt ∧ (State.dumpIncomplete x s).timers = s.timers ∧ (State.dumpIncomplete x s).tbu = s.tbu ∧ (State.dumpIncomplete x s).power = s.power ∧ (State.dumpIncomplete x s).sheet = s.sheet ∧ (State.dumpIncomplete x s).sheetOld = s.sheetOld ∧ (State.dumpIncomplete x s).hlu = s.hlu ∧ (State.dumpIncomplete x s).tnu = s.tnu ∧ (State.dumpIncomplete x s).gal = s.gal ∧ (State.dumpIncomplete x s).mxe = s.mxe ∧ (State.dumpIncomplete x s).dsc = s.dsc ∧ (State.dumpIncomplete x s).fca = s.fca ∧ (State.dumpIncomplete x s).cdx = s.cdx ∧ (State.dumpIncomplete x s).spe = s.spe ∧ (State.dumpIncomplete x s).bpm = s.bpm ∧ (State.dumpIncomplete x s).dmc = s.dmc ∧ (State.dumpIncomplete x s).ccl = s.ccl ∧ (State.dumpIncomplete x s).csu = s.csu ∧ (State.dumpIncomplete x s).mgp = s.mgp :=
  have h := (State.dumpIncomplete_touch _ _ (by simp) (Touch.refl 8520224 _))
  ⟨h.pending, h.out rfl, h.freeCnt rfl, h.timers rfl, h.tbu rfl, h.power rfl, h.sheet rfl, h.sheetOld rfl, h.hlu rfl, h.tnu rfl, h.gal rfl, h.mxe rfl, h.dsc rfl, h.fca rfl, h.cdx rfl, h.spe rfl, h.bpm rfl, h.dmc rfl, h.ccl rfl, h.csu rfl, h.mgp rfl⟩

@[simp] theorem State.scanFull_units (trimLost : Bool) (s : State) :
    (State.scanFull trimLost s).pending = s.pending ∧ (State.scanFull trimLost s).out = s.out ∧ (State.scanFull trimLost s).timers = s.timers ∧ (State.scanFull trimLost s).tbu = s.tbu ∧ (State.scanFull trimLost s).power = s.power ∧ (State.scanFull trimLost s).sheet = s.sheet ∧ (State.scanFull trimLost s).sheetOld = s.sheetOld ∧ (State.scanFull trimLost s).hlu = s.hlu ∧ (State.scanFull trimLost s).qen = s.qen ∧ (State.scanFull trimLost s).tnu = s.tnu ∧ (State.scanFull trimLost s).gal = s.gal ∧ (State.scanFull trimLost s).dsc = s.dsc ∧ (State.scanFull trimLost s).fca = s.fca ∧ (State.scanFull trimLost s).cdx = s.cdx ∧ (State.scanFull trimLost s).spe = s.spe ∧ (State.scanFull trimLost s).hum = s.hum ∧ (State.scanFull trimLost s).bpm = s.bpm ∧ (State.scanFull trimLost s).dmc = s.dmc ∧ (State.scanFull trimLost s).ccl = s.ccl ∧ (State.scanFull trimLost s).csu = s.csu ∧ (State.scanFull trimLost s).mgp = s.mgp ∧ (State.scanFull trimLost s).cru = s.cru :=
  have h := (State.scanFull_touch _ _ (by simp) (Touch.refl 4130 _))
  ⟨h.pending, h.out rfl, h.timers rfl, h.tbu rfl, h.power rfl, h.sheet rfl, h.sheetOld rfl, h.hlu rfl, h.qen rfl, h.tnu rfl, h.gal rfl, h.dsc rfl, h.fca rfl, h.cdx rfl, h.spe rfl, h.hum rfl, h.bpm rfl, h.dmc rfl, h.ccl rfl, h.csu rfl, h.mgp rfl, h.cru rfl⟩

@[simp] theorem State.scanBegin_units (full trimLost : Bool) (s : State) :
    (State.scanBegin full trimLost s).pending = s.pending ∧ (State.scanBegin full trimLost s).out = s.out ∧ (State.scanBegin full trimLost s).freeCnt = s.freeCnt ∧ (State.scanBegin full trimLost s).timers = s.timers ∧ (State.scanBegin full trimLost s).tbu = s.tbu ∧ (State.scanBegin full trimLost s).sheet = s.sheet ∧ (State.scanBegin full trimLost s).sheetOld = s.sheetOld ∧ (State.scanBegin full trimLost s).hlu = s.hlu ∧ (State.scanBegin full trimLost s).qen = s.qen ∧ (State.scanBegin full trimLost s).tnu = s.tnu ∧ (State.scanBegin full trimLost s).gal = s.gal ∧ (State.scanBegin full trimLost s).dsc = s.dsc ∧ (State.scanBegin full trimLost s).fca = s.fca ∧ (State.scanBegin full trimLost s).cdx = s.cdx ∧ (State.scanBegin full trimLost s).spe = s.spe ∧ (State.scanBegin full trimLost s).hum = s.hum ∧ (State.scanBegin full trimLost s).bpm = s.bpm ∧ (State.scanBegin full trimLost s).dmc = s.dmc ∧ (State.scanBegin full trimLost s).ccl = s.ccl ∧ (State.scanBegin full trimLost s).csu = s.csu ∧ (State.scanBegin full trimLost s).mgp = s.mgp :=
  have h := (State.scanBegin_touch _ _ _ (by simp) (Touch.refl 8392752 _))
  ⟨h.pending, h.out rfl, h.freeCnt rfl, h.timers rfl, h.tbu rfl, h.sheet rfl, h.sheetOld rfl, h.hlu rfl, h.qen rfl, h.tnu rfl, h.gal rfl, h.dsc rfl, h.fca rfl, h.cdx rfl, h.spe rfl, h.hum rfl, h.bpm rfl, h.dmc rfl, h.ccl rfl, h.csu rfl, h.mgp rfl⟩

@[simp] theorem State.scanEnd_units (s : State) :
    (State.scanEnd s).pending = s.pending ∧ (State.scanEnd s).out = s.out ∧ (State.scanEnd s).timers = s.timers ∧ (State.scanEnd s).tbu = s.tbu ∧ (State.scanEnd s).sheet = s.sheet ∧ (State.scanEnd s).sheetOld = s.sheetOld ∧ (State.scanEnd s).hlu = s.hlu ∧ (State.scanEnd s).qen = s.qen ∧ (State.scanEnd s).tnu = s.tnu ∧ (State.scanEnd s).gal = s.gal ∧ (State.scanEnd s).dsc = s.dsc ∧ (State.scanEnd s).fca = s.fca ∧ (State.scanEnd s).cdx = s.cdx ∧ (State.scanEnd s).hum = s.hum ∧ (State.scanEnd s).bpm = s.bpm ∧ (State.scanEnd s).dmc = s.dmc ∧ (State.scanEnd s).ccl = s.ccl ∧ (State.scanEnd s).csu = s.csu ∧ (State.scanEnd s).mgp = s.mgp :=
  have h := (State.scanEnd_touch _ (by simp) (Touch.refl 8458290 _))
  ⟨h.pending, h.out rfl, h.timers rfl, h.tbu rfl, h.sheet rfl, h.sheetOld rfl, h.hlu rfl, h.qen rfl, h.tnu rfl, h.gal rfl, h.dsc rfl, h.fca rfl, h.cdx rfl, h.hum rfl, h.bpm rfl, h.dmc rfl, h.ccl rfl, h.csu rfl, h.mgp rfl⟩

@[simp] theorem State.scanTick_units (s : State) :
    (State.scanTick s).pending = s.pending ∧ (State.scanTick s).out = s.out ∧ (State.scanTick s).timers = s.timers ∧ (State.scanTick s).tbu = s.tbu ∧ (State.scanTick s).sheet = s.sheet ∧ (State.scanTick s).sheetOld = s.sheetOld ∧ (State.scanTick s).hlu = s.hlu ∧ (State.scanTick s).qen = s.qen ∧ (State.scanTick s).tnu = s.tnu ∧ (State.scanTick s).gal = s.gal ∧ (State.scanTick s).dsc = s.dsc ∧ (State.scanTick s).fca = s.fca ∧ (State.scanTick s).cdx = s.cdx ∧ (State.scanTick s).hum = s.hum ∧ (State.scanTick s).bpm = s.bpm ∧ (State.scanTick s).dmc = s.dmc ∧ (State.scanTick s).ccl = s.ccl ∧ (State.scanTick s).csu = s.csu ∧ (State.scanTick s).mgp = s.mgp :=
  have h := (State.scanTick_touch _ (by simp) (Touch.refl 8458290 _))
  ⟨h.pending, h.out rfl, h.timers rfl, h.tbu rfl, h.sheet rfl, h.sheetOld rfl, h.hlu rfl, h.qen rfl, h.tnu rfl, h.gal rfl, h.dsc rfl, h.fca rfl, h.cdx rfl, h.hum rfl, h.bpm rfl, h.dmc rfl, h.ccl rfl, h.csu rfl, h.mgp rfl⟩

@[simp] theorem State.chooseDumpDies_units (s : State) :
    (State.chooseDumpDies s).pending = s.pending ∧ (State.chooseDumpDies s).out = s.out ∧ (State.chooseDumpDies s).freeCnt = s.freeCnt ∧ (State.chooseDumpDies s).timers = s.timers ∧ (State.chooseDumpDies s).tbu = s.tbu ∧ (State.chooseDumpDies s).power = s.power ∧ (State.chooseDumpDies s).regf = s.regf ∧ (State.chooseDumpDies s).sheet = s.sheet ∧ (State.chooseDumpDies s).sheetOld = s.sheetOld ∧ (State.chooseDumpDies s).hlu = s.hlu ∧ (State.chooseDumpDies s).qen = s.qen ∧ (State.chooseDumpDies s).tnu = s.tnu ∧ (State.chooseDumpDies s).gal = s.gal ∧ (State.chooseDumpDies s).mxe = s.mxe ∧ (State.chooseDumpDies s).dsc = s.dsc ∧ (State.chooseDumpDies s).fca = s.fca ∧ (State.chooseDumpDies s).cdx = s.cdx ∧ (State.chooseDumpDies s).spe = s.spe ∧ (State.chooseDumpDies s).bpm = s.bpm ∧ (State.chooseDumpDies s).dmc = s.dmc ∧ (State.chooseDumpDies s).ccl = s.ccl ∧ (State.chooseDumpDies s).csu = s.csu ∧ (State.chooseDumpDies s).mgp = s.mgp ∧ (State.chooseDumpDies s).cru = s.cru :=
  have h := (State.chooseDumpDies_touch _ (by simp) (Touch.refl 131072 _))
  ⟨h.pending, h.out rfl, h.freeCnt rfl, h.timers rfl, h.tbu rfl, h.power rfl, h.regf rfl, h.sheet rfl, h.sheetOld rfl, h.hlu rfl, h.qen rfl, h.tnu rfl, h.gal rfl, h.mxe rfl, h.dsc rfl, h.fca rfl, h.cdx rfl, h.spe rfl, h.bpm rfl, h.dmc rfl, h.ccl rfl, h.csu rfl, h.mgp rfl, h.cru rfl⟩

@[simp] theorem State.decideStart_units (found : StartFindings) (s : State) :
    (State.decideStart found s).pending = s.pending ∧ (State.decideStart found s).out = s.out ∧ (State.decideStart found s).freeCnt = s.freeCnt ∧ (State.decideStart found s).timers = s.timers ∧ (State.decideStart found s).tbu = s.tbu ∧ (State.decideStart found s).sheet = s.sheet ∧ (State.decideStart found s).sheetOld = s.sheetOld ∧ (State.decideStart found s).hlu = s.hlu ∧ (State.decideStart found s).tnu = s.tnu ∧ (State.decideStart found s).gal = s.gal ∧ (State.decideStart found s).dsc = s.dsc ∧ (State.decideStart found s).fca = s.fca ∧ (State.decideStart found s).cdx = s.cdx ∧ (State.decideStart found s).bpm = s.bpm ∧ (State.decideStart found s).dmc = s.dmc ∧ (State.decideStart found s).ccl = s.ccl ∧ (State.decideStart found s).csu = s.csu ∧ (State.decideStart found s).mgp = s.mgp :=
  have h := (State.decideStart_touch _ _ (by simp) (Touch.refl 8589872 _))
  ⟨h.pending, h.out rfl, h.freeCnt rfl, h.timers rfl, h.tbu rfl, h.sheet rfl, h.sheetOld rfl, h.hlu rfl, h.tnu rfl, h.gal rfl, h.dsc rfl, h.fca rfl, h.cdx rfl, h.bpm rfl, h.dmc rfl, h.ccl rfl, h.csu rfl, h.mgp rfl⟩

@[simp] theorem State.startDecision_units (found : StartFindings) (s : State) :
    (State.startDecision found s).pending = s.pending ∧ (State.startDecision found s).freeCnt = s.freeCnt ∧ (State.startDecision found s).timers = s.timers ∧ (State.startDecision found s).tbu = s.tbu ∧ (State.startDecision found s).sheetOld = s.sheetOld ∧ (State.startDecision found s).hlu = s.hlu ∧ (State.startDecision found s).tnu = s.tnu ∧ (State.startDecision found s).gal = s.gal ∧ (State.startDecision found s).dsc = s.dsc ∧ (State.startDecision found s).fca = s.fca ∧ (State.startDecision found s).cdx = s.cdx ∧ (State.startDecision found s).bpm = s.bpm ∧ (State.startDecision found s).dmc = s.dmc ∧ (State.startDecision found s).ccl = s.ccl :=
  have h := (State.startDecision_touch _ _ (by simp) (Touch.refl 14881393 _))
  ⟨h.pending, h.freeCnt rfl, h.timers rfl, h.tbu rfl, h.sheetOld rfl, h.hlu rfl, h.tnu rfl, h.gal rfl, h.dsc rfl, h.fca rfl, h.cdx rfl, h.bpm rfl, h.dmc rfl, h.ccl rfl⟩

@[simp] theorem State.sealAtHall_units (s : State) (x : Stripe) :
    (State.sealAtHall s x).pending = s.pending ∧ (State.sealAtHall s x).out = s.out ∧ (State.sealAtHall s x).freeCnt = s.freeCnt ∧ (State.sealAtHall s x).timers = s.timers ∧ (State.sealAtHall s x).tbu = s.tbu ∧ (State.sealAtHall s x).power = s.power ∧ (State.sealAtHall s x).sheet = s.sheet ∧ (State.sealAtHall s x).sheetOld = s.sheetOld ∧ (State.sealAtHall s x).hlu = s.hlu ∧ (State.sealAtHall s x).qen = s.qen ∧ (State.sealAtHall s x).tnu = s.tnu ∧ (State.sealAtHall s x).gal = s.gal ∧ (State.sealAtHall s x).mxe = s.mxe ∧ (State.sealAtHall s x).fca = s.fca ∧ (State.sealAtHall s x).cdx = s.cdx ∧ (State.sealAtHall s x).hum = s.hum ∧ (State.sealAtHall s x).bpm = s.bpm ∧ (State.sealAtHall s x).dmc = s.dmc ∧ (State.sealAtHall s x).ccl = s.ccl ∧ (State.sealAtHall s x).csu = s.csu ∧ (State.sealAtHall s x).mgp = s.mgp ∧ (State.sealAtHall s x).cru = s.cru :=
  have h := (State.sealAtHall_touch _ _ (by simp) (Touch.refl 73760 _))
  ⟨h.pending, h.out rfl, h.freeCnt rfl, h.timers rfl, h.tbu rfl, h.power rfl, h.sheet rfl, h.sheetOld rfl, h.hlu rfl, h.qen rfl, h.tnu rfl, h.gal rfl, h.mxe rfl, h.fca rfl, h.cdx rfl, h.hum rfl, h.bpm rfl, h.dmc rfl, h.ccl rfl, h.csu rfl, h.mgp rfl, h.cru rfl⟩

@[simp] theorem State.sealOpenBands_units (s : State) :
    (State.sealOpenBands s).pending = s.pending ∧ (State.sealOpenBands s).out = s.out ∧ (State.sealOpenBands s).freeCnt = s.freeCnt ∧ (State.sealOpenBands s).timers = s.timers ∧ (State.sealOpenBands s).tbu = s.tbu ∧ (State.sealOpenBands s).power = s.power ∧ (State.sealOpenBands s).sheet = s.sheet ∧ (State.sealOpenBands s).sheetOld = s.sheetOld ∧ (State.sealOpenBands s).hlu = s.hlu ∧ (State.sealOpenBands s).qen = s.qen ∧ (State.sealOpenBands s).tnu = s.tnu ∧ (State.sealOpenBands s).gal = s.gal ∧ (State.sealOpenBands s).fca = s.fca ∧ (State.sealOpenBands s).cdx = s.cdx ∧ (State.sealOpenBands s).hum = s.hum ∧ (State.sealOpenBands s).bpm = s.bpm ∧ (State.sealOpenBands s).dmc = s.dmc ∧ (State.sealOpenBands s).ccl = s.ccl ∧ (State.sealOpenBands s).csu = s.csu ∧ (State.sealOpenBands s).mgp = s.mgp ∧ (State.sealOpenBands s).cru = s.cru :=
  have h := (State.sealOpenBands_touch _ (by simp) (Touch.refl 77856 _))
  ⟨h.pending, h.out rfl, h.freeCnt rfl, h.timers rfl, h.tbu rfl, h.power rfl, h.sheet rfl, h.sheetOld rfl, h.hlu rfl, h.qen rfl, h.tnu rfl, h.gal rfl, h.fca rfl, h.cdx rfl, h.hum rfl, h.bpm rfl, h.dmc rfl, h.ccl rfl, h.csu rfl, h.mgp rfl, h.cru rfl⟩

@[simp] theorem State.enterHall_units (s : State) :
    (State.enterHall s).pending = s.pending ∧ (State.enterHall s).out = s.out ∧ (State.enterHall s).freeCnt = s.freeCnt ∧ (State.enterHall s).timers = s.timers ∧ (State.enterHall s).tbu = s.tbu ∧ (State.enterHall s).sheetOld = s.sheetOld ∧ (State.enterHall s).hlu = s.hlu ∧ (State.enterHall s).tnu = s.tnu ∧ (State.enterHall s).fca = s.fca ∧ (State.enterHall s).bpm = s.bpm ∧ (State.enterHall s).dmc = s.dmc ∧ (State.enterHall s).mgp = s.mgp :=
  have h := (State.enterHall_touch _ (by simp) (Touch.refl 11778672 _))
  ⟨h.pending, h.out rfl, h.freeCnt rfl, h.timers rfl, h.tbu rfl, h.sheetOld rfl, h.hlu rfl, h.tnu rfl, h.fca rfl, h.bpm rfl, h.dmc rfl, h.mgp rfl⟩

@[simp] theorem State.loseRetained_units (s : State) :
    (State.loseRetained s).pending = s.pending ∧ (State.loseRetained s).out = s.out ∧ (State.loseRetained s).freeCnt = s.freeCnt ∧ (State.loseRetained s).timers = s.timers ∧ (State.loseRetained s).tbu = s.tbu ∧ (State.loseRetained s).power = s.power ∧ (State.loseRetained s).regf = s.regf ∧ (State.loseRetained s).hlu = s.hlu ∧ (State.loseRetained s).qen = s.qen ∧ (State.loseRetained s).tnu = s.tnu ∧ (State.loseRetained s).gal = s.gal ∧ (State.loseRetained s).mxe = s.mxe ∧ (State.loseRetained s).dsc = s.dsc ∧ (State.loseRetained s).fca = s.fca ∧ (State.loseRetained s).cdx = s.cdx ∧ (State.loseRetained s).spe = s.spe ∧ (State.loseRetained s).hum = s.hum ∧ (State.loseRetained s).bpm = s.bpm ∧ (State.loseRetained s).dmc = s.dmc ∧ (State.loseRetained s).ccl = s.ccl ∧ (State.loseRetained s).csu = s.csu ∧ (State.loseRetained s).cru = s.cru :=
  have h := (State.loseRetained_touch _ (by simp) (Touch.refl 4194496 _))
  ⟨h.pending, h.out rfl, h.freeCnt rfl, h.timers rfl, h.tbu rfl, h.power rfl, h.regf rfl, h.hlu rfl, h.qen rfl, h.tnu rfl, h.gal rfl, h.mxe rfl, h.dsc rfl, h.fca rfl, h.cdx rfl, h.spe rfl, h.hum rfl, h.bpm rfl, h.dmc rfl, h.ccl rfl, h.csu rfl, h.cru rfl⟩

@[simp] theorem State.auxRise_units (s : State) :
    (State.auxRise s).pending = s.pending ∧ (State.auxRise s).freeCnt = s.freeCnt ∧ (State.auxRise s).timers = s.timers ∧ (State.auxRise s).tbu = s.tbu ∧ (State.auxRise s).sheet = s.sheet ∧ (State.auxRise s).sheetOld = s.sheetOld ∧ (State.auxRise s).hlu = s.hlu ∧ (State.auxRise s).tnu = s.tnu ∧ (State.auxRise s).gal = s.gal ∧ (State.auxRise s).mxe = s.mxe ∧ (State.auxRise s).dsc = s.dsc ∧ (State.auxRise s).fca = s.fca ∧ (State.auxRise s).cdx = s.cdx ∧ (State.auxRise s).spe = s.spe ∧ (State.auxRise s).bpm = s.bpm ∧ (State.auxRise s).dmc = s.dmc ∧ (State.auxRise s).ccl = s.ccl ∧ (State.auxRise s).csu = s.csu :=
  have h := (State.auxRise_touch _ (by simp) (Touch.refl 12714545 _))
  ⟨h.pending, h.freeCnt rfl, h.timers rfl, h.tbu rfl, h.sheet rfl, h.sheetOld rfl, h.hlu rfl, h.tnu rfl, h.gal rfl, h.mxe rfl, h.dsc rfl, h.fca rfl, h.cdx rfl, h.spe rfl, h.bpm rfl, h.dmc rfl, h.ccl rfl, h.csu rfl⟩

@[simp] theorem State.powerOff_units (s : State) :
    (State.powerOff s).pending = s.pending ∧ (State.powerOff s).timers = s.timers :=
  have h := (State.powerOff_touch _ (by simp) (Touch.refl 16777211 _))
  ⟨h.pending, h.timers rfl⟩

@[simp] theorem State.powerUpClear_units (s : State) :
    (State.powerUpClear s).pending = s.pending ∧ (State.powerUpClear s).out = s.out ∧ (State.powerUpClear s).freeCnt = s.freeCnt ∧ (State.powerUpClear s).sheet = s.sheet ∧ (State.powerUpClear s).sheetOld = s.sheetOld ∧ (State.powerUpClear s).qen = s.qen ∧ (State.powerUpClear s).tnu = s.tnu ∧ (State.powerUpClear s).gal = s.gal ∧ (State.powerUpClear s).dsc = s.dsc ∧ (State.powerUpClear s).spe = s.spe ∧ (State.powerUpClear s).hum = s.hum ∧ (State.powerUpClear s).mgp = s.mgp ∧ (State.powerUpClear s).cru = s.cru :=
  have h := (State.powerUpClear_touch _ (by simp) (Touch.refl 3985724 _))
  ⟨h.pending, h.out rfl, h.freeCnt rfl, h.sheet rfl, h.sheetOld rfl, h.qen rfl, h.tnu rfl, h.gal rfl, h.dsc rfl, h.spe rfl, h.hum rfl, h.mgp rfl, h.cru rfl⟩

@[simp] theorem State.supplyLost_units (s : State) :
    (State.supplyLost s).pending = s.pending ∧ (State.supplyLost s).timers = s.timers :=
  have h := (State.supplyLost_touch _ (by simp) (Touch.refl 16777211 _))
  ⟨h.pending, h.timers rfl⟩

@[simp] theorem State.cfgWrite_units (fn : Nat) (w : CfgWrite) (s : State) :
    (State.cfgWrite fn w s).pending = s.pending ∧ (State.cfgWrite fn w s).out = s.out ∧ (State.cfgWrite fn w s).freeCnt = s.freeCnt ∧ (State.cfgWrite fn w s).timers = s.timers ∧ (State.cfgWrite fn w s).tbu = s.tbu ∧ (State.cfgWrite fn w s).power = s.power ∧ (State.cfgWrite fn w s).regf = s.regf ∧ (State.cfgWrite fn w s).sheet = s.sheet ∧ (State.cfgWrite fn w s).sheetOld = s.sheetOld ∧ (State.cfgWrite fn w s).qen = s.qen ∧ (State.cfgWrite fn w s).tnu = s.tnu ∧ (State.cfgWrite fn w s).gal = s.gal ∧ (State.cfgWrite fn w s).mxe = s.mxe ∧ (State.cfgWrite fn w s).dsc = s.dsc ∧ (State.cfgWrite fn w s).fca = s.fca ∧ (State.cfgWrite fn w s).cdx = s.cdx ∧ (State.cfgWrite fn w s).spe = s.spe ∧ (State.cfgWrite fn w s).hum = s.hum ∧ (State.cfgWrite fn w s).bpm = s.bpm ∧ (State.cfgWrite fn w s).dmc = s.dmc ∧ (State.cfgWrite fn w s).ccl = s.ccl ∧ (State.cfgWrite fn w s).csu = s.csu ∧ (State.cfgWrite fn w s).mgp = s.mgp ∧ (State.cfgWrite fn w s).cru = s.cru :=
  have h := (State.cfgWrite_touch _ _ _ (by simp) (Touch.refl 256 _))
  ⟨h.pending, h.out rfl, h.freeCnt rfl, h.timers rfl, h.tbu rfl, h.power rfl, h.regf rfl, h.sheet rfl, h.sheetOld rfl, h.qen rfl, h.tnu rfl, h.gal rfl, h.mxe rfl, h.dsc rfl, h.fca rfl, h.cdx rfl, h.spe rfl, h.hum rfl, h.bpm rfl, h.dmc rfl, h.ccl rfl, h.csu rfl, h.mgp rfl, h.cru rfl⟩

@[simp] theorem State.healthAtStair_units (s : State) :
    (State.healthAtStair s).pending = s.pending ∧ (State.healthAtStair s).freeCnt = s.freeCnt ∧ (State.healthAtStair s).timers = s.timers ∧ (State.healthAtStair s).tbu = s.tbu ∧ (State.healthAtStair s).sheet = s.sheet ∧ (State.healthAtStair s).sheetOld = s.sheetOld ∧ (State.healthAtStair s).hlu = s.hlu ∧ (State.healthAtStair s).tnu = s.tnu ∧ (State.healthAtStair s).gal = s.gal ∧ (State.healthAtStair s).dsc = s.dsc ∧ (State.healthAtStair s).fca = s.fca ∧ (State.healthAtStair s).cdx = s.cdx ∧ (State.healthAtStair s).spe = s.spe ∧ (State.healthAtStair s).hum = s.hum ∧ (State.healthAtStair s).bpm = s.bpm ∧ (State.healthAtStair s).dmc = s.dmc ∧ (State.healthAtStair s).ccl = s.ccl ∧ (State.healthAtStair s).csu = s.csu :=
  have h := (State.healthAtStair_touch _ (by simp) (Touch.refl 12587569 _))
  ⟨h.pending, h.freeCnt rfl, h.timers rfl, h.tbu rfl, h.sheet rfl, h.sheetOld rfl, h.hlu rfl, h.tnu rfl, h.gal rfl, h.dsc rfl, h.fca rfl, h.cdx rfl, h.spe rfl, h.hum rfl, h.bpm rfl, h.dmc rfl, h.ccl rfl, h.csu rfl⟩

@[simp] theorem State.bootCluster_units (aPasses : Bool) (s : State) :
    (State.bootCluster aPasses s).pending = s.pending ∧ (State.bootCluster aPasses s).out = s.out ∧ (State.bootCluster aPasses s).freeCnt = s.freeCnt ∧ (State.bootCluster aPasses s).timers = s.timers ∧ (State.bootCluster aPasses s).tbu = s.tbu ∧ (State.bootCluster aPasses s).power = s.power ∧ (State.bootCluster aPasses s).sheet = s.sheet ∧ (State.bootCluster aPasses s).sheetOld = s.sheetOld ∧ (State.bootCluster aPasses s).hlu = s.hlu ∧ (State.bootCluster aPasses s).qen = s.qen ∧ (State.bootCluster aPasses s).tnu = s.tnu ∧ (State.bootCluster aPasses s).gal = s.gal ∧ (State.bootCluster aPasses s).mxe = s.mxe ∧ (State.bootCluster aPasses s).dsc = s.dsc ∧ (State.bootCluster aPasses s).fca = s.fca ∧ (State.bootCluster aPasses s).cdx = s.cdx ∧ (State.bootCluster aPasses s).spe = s.spe ∧ (State.bootCluster aPasses s).hum = s.hum ∧ (State.bootCluster aPasses s).bpm = s.bpm ∧ (State.bootCluster aPasses s).dmc = s.dmc ∧ (State.bootCluster aPasses s).csu = s.csu ∧ (State.bootCluster aPasses s).mgp = s.mgp :=
  have h := (State.bootCluster_touch _ _ (by simp) (Touch.refl 9437216 _))
  ⟨h.pending, h.out rfl, h.freeCnt rfl, h.timers rfl, h.tbu rfl, h.power rfl, h.sheet rfl, h.sheetOld rfl, h.hlu rfl, h.qen rfl, h.tnu rfl, h.gal rfl, h.mxe rfl, h.dsc rfl, h.fca rfl, h.cdx rfl, h.spe rfl, h.hum rfl, h.bpm rfl, h.dmc rfl, h.csu rfl, h.mgp rfl⟩

@[simp] theorem State.avsSend_units (mv : Nat) (s : State) :
    (State.avsSend mv s).pending = s.pending ∧ (State.avsSend mv s).freeCnt = s.freeCnt ∧ (State.avsSend mv s).timers = s.timers ∧ (State.avsSend mv s).tbu = s.tbu ∧ (State.avsSend mv s).regf = s.regf ∧ (State.avsSend mv s).sheet = s.sheet ∧ (State.avsSend mv s).sheetOld = s.sheetOld ∧ (State.avsSend mv s).hlu = s.hlu ∧ (State.avsSend mv s).qen = s.qen ∧ (State.avsSend mv s).tnu = s.tnu ∧ (State.avsSend mv s).gal = s.gal ∧ (State.avsSend mv s).mxe = s.mxe ∧ (State.avsSend mv s).dsc = s.dsc ∧ (State.avsSend mv s).fca = s.fca ∧ (State.avsSend mv s).cdx = s.cdx ∧ (State.avsSend mv s).spe = s.spe ∧ (State.avsSend mv s).hum = s.hum ∧ (State.avsSend mv s).bpm = s.bpm ∧ (State.avsSend mv s).dmc = s.dmc ∧ (State.avsSend mv s).ccl = s.ccl ∧ (State.avsSend mv s).csu = s.csu ∧ (State.avsSend mv s).mgp = s.mgp ∧ (State.avsSend mv s).cru = s.cru :=
  have h := (State.avsSend_touch _ _ (by simp) (Touch.refl 17 _))
  ⟨h.pending, h.freeCnt rfl, h.timers rfl, h.tbu rfl, h.regf rfl, h.sheet rfl, h.sheetOld rfl, h.hlu rfl, h.qen rfl, h.tnu rfl, h.gal rfl, h.mxe rfl, h.dsc rfl, h.fca rfl, h.cdx rfl, h.spe rfl, h.hum rfl, h.bpm rfl, h.dmc rfl, h.ccl rfl, h.csu rfl, h.mgp rfl, h.cru rfl⟩

@[simp] theorem State.readEffects_units (v : View) (addr : Nat) (s : State) :
    (State.readEffects v addr s).pending = s.pending ∧ (State.readEffects v addr s).out = s.out ∧ (State.readEffects v addr s).freeCnt = s.freeCnt ∧ (State.readEffects v addr s).timers = s.timers ∧ (State.readEffects v addr s).power = s.power ∧ (State.readEffects v addr s).sheet = s.sheet ∧ (State.readEffects v addr s).sheetOld = s.sheetOld ∧ (State.readEffects v addr s).hlu = s.hlu ∧ (State.readEffects v addr s).qen = s.qen ∧ (State.readEffects v addr s).tnu = s.tnu ∧ (State.readEffects v addr s).gal = s.gal ∧ (State.readEffects v addr s).dsc = s.dsc ∧ (State.readEffects v addr s).fca = s.fca ∧ (State.readEffects v addr s).spe = s.spe ∧ (State.readEffects v addr s).hum = s.hum ∧ (State.readEffects v addr s).bpm = s.bpm ∧ (State.readEffects v addr s).dmc = s.dmc ∧ (State.readEffects v addr s).ccl = s.ccl ∧ (State.readEffects v addr s).csu = s.csu ∧ (State.readEffects v addr s).mgp = s.mgp :=
  have h := (State.readEffects_touch _ _ _ (by simp) (Touch.refl 8425512 _))
  ⟨h.pending, h.out rfl, h.freeCnt rfl, h.timers rfl, h.power rfl, h.sheet rfl, h.sheetOld rfl, h.hlu rfl, h.qen rfl, h.tnu rfl, h.gal rfl, h.dsc rfl, h.fca rfl, h.spe rfl, h.hum rfl, h.bpm rfl, h.dmc rfl, h.ccl rfl, h.csu rfl, h.mgp rfl⟩

@[simp] theorem State.nvmeWrite_units (fn off : Nat) (w : Word) (s : State) :
    (State.nvmeWrite fn off w s).pending = s.pending ∧ (State.nvmeWrite fn off w s).out = s.out ∧ (State.nvmeWrite fn off w s).freeCnt = s.freeCnt ∧ (State.nvmeWrite fn off w s).timers = s.timers ∧ (State.nvmeWrite fn off w s).tbu = s.tbu ∧ (State.nvmeWrite fn off w s).power = s.power ∧ (State.nvmeWrite fn off w s).regf = s.regf ∧ (State.nvmeWrite fn off w s).sheet = s.sheet ∧ (State.nvmeWrite fn off w s).sheetOld = s.sheetOld ∧ (State.nvmeWrite fn off w s).hlu = s.hlu ∧ (State.nvmeWrite fn off w s).tnu = s.tnu ∧ (State.nvmeWrite fn off w s).gal = s.gal ∧ (State.nvmeWrite fn off w s).mxe = s.mxe ∧ (State.nvmeWrite fn off w s).dsc = s.dsc ∧ (State.nvmeWrite fn off w s).fca = s.fca ∧ (State.nvmeWrite fn off w s).cdx = s.cdx ∧ (State.nvmeWrite fn off w s).spe = s.spe ∧ (State.nvmeWrite fn off w s).hum = s.hum ∧ (State.nvmeWrite fn off w s).bpm = s.bpm ∧ (State.nvmeWrite fn off w s).dmc = s.dmc ∧ (State.nvmeWrite fn off w s).ccl = s.ccl ∧ (State.nvmeWrite fn off w s).csu = s.csu ∧ (State.nvmeWrite fn off w s).mgp = s.mgp ∧ (State.nvmeWrite fn off w s).cru = s.cru :=
  have h := (State.nvmeWrite_touch _ _ _ _ (by simp) (Touch.refl 512 _))
  ⟨h.pending, h.out rfl, h.freeCnt rfl, h.timers rfl, h.tbu rfl, h.power rfl, h.regf rfl, h.sheet rfl, h.sheetOld rfl, h.hlu rfl, h.tnu rfl, h.gal rfl, h.mxe rfl, h.dsc rfl, h.fca rfl, h.cdx rfl, h.spe rfl, h.hum rfl, h.bpm rfl, h.dmc rfl, h.ccl rfl, h.csu rfl, h.mgp rfl, h.cru rfl⟩

@[simp] theorem State.readAt_units (who : Accessor) (addr : Nat) (s : State) :
    (State.readAt who addr s).pending = s.pending ∧ (State.readAt who addr s).timers = s.timers ∧ (State.readAt who addr s).power = s.power ∧ (State.readAt who addr s).sheet = s.sheet ∧ (State.readAt who addr s).sheetOld = s.sheetOld ∧ (State.readAt who addr s).qen = s.qen ∧ (State.readAt who addr s).tnu = s.tnu ∧ (State.readAt who addr s).gal = s.gal ∧ (State.readAt who addr s).dsc = s.dsc ∧ (State.readAt who addr s).fca = s.fca ∧ (State.readAt who addr s).spe = s.spe ∧ (State.readAt who addr s).hum = s.hum ∧ (State.readAt who addr s).bpm = s.bpm ∧ (State.readAt who addr s).ccl = s.ccl ∧ (State.readAt who addr s).csu = s.csu ∧ (State.readAt who addr s).mgp = s.mgp :=
  have h := (State.readAt_touch _ _ _ (by simp) (Touch.refl 8950059 _))
  ⟨h.pending, h.timers rfl, h.power rfl, h.sheet rfl, h.sheetOld rfl, h.qen rfl, h.tnu rfl, h.gal rfl, h.dsc rfl, h.fca rfl, h.spe rfl, h.hum rfl, h.bpm rfl, h.ccl rfl, h.csu rfl, h.mgp rfl⟩

@[simp] theorem State.readWords_units (who : Accessor) (addr size : Nat) (s : State) :
    (State.readWords who addr size s).pending = s.pending ∧ (State.readWords who addr size s).timers = s.timers ∧ (State.readWords who addr size s).power = s.power ∧ (State.readWords who addr size s).sheet = s.sheet ∧ (State.readWords who addr size s).sheetOld = s.sheetOld ∧ (State.readWords who addr size s).qen = s.qen ∧ (State.readWords who addr size s).tnu = s.tnu ∧ (State.readWords who addr size s).gal = s.gal ∧ (State.readWords who addr size s).dsc = s.dsc ∧ (State.readWords who addr size s).fca = s.fca ∧ (State.readWords who addr size s).spe = s.spe ∧ (State.readWords who addr size s).hum = s.hum ∧ (State.readWords who addr size s).bpm = s.bpm ∧ (State.readWords who addr size s).ccl = s.ccl ∧ (State.readWords who addr size s).csu = s.csu ∧ (State.readWords who addr size s).mgp = s.mgp :=
  have h := (State.readWords_touch _ _ _ _ (by simp) (Touch.refl 8950059 _))
  ⟨h.pending, h.timers rfl, h.power rfl, h.sheet rfl, h.sheetOld rfl, h.qen rfl, h.tnu rfl, h.gal rfl, h.dsc rfl, h.fca rfl, h.spe rfl, h.hum rfl, h.bpm rfl, h.ccl rfl, h.csu rfl, h.mgp rfl⟩

@[simp] theorem State.rescueWrite_units (w : Word) (s : State) :
    (State.rescueWrite w s).pending = s.pending ∧ (State.rescueWrite w s).out = s.out ∧ (State.rescueWrite w s).freeCnt = s.freeCnt ∧ (State.rescueWrite w s).timers = s.timers ∧ (State.rescueWrite w s).sheet = s.sheet ∧ (State.rescueWrite w s).sheetOld = s.sheetOld ∧ (State.rescueWrite w s).hlu = s.hlu ∧ (State.rescueWrite w s).tnu = s.tnu ∧ (State.rescueWrite w s).gal = s.gal ∧ (State.rescueWrite w s).mxe = s.mxe ∧ (State.rescueWrite w s).dsc = s.dsc ∧ (State.rescueWrite w s).fca = s.fca ∧ (State.rescueWrite w s).cdx = s.cdx ∧ (State.rescueWrite w s).spe = s.spe ∧ (State.rescueWrite w s).hum = s.hum ∧ (State.rescueWrite w s).bpm = s.bpm ∧ (State.rescueWrite w s).dmc = s.dmc ∧ (State.rescueWrite w s).ccl = s.ccl ∧ (State.rescueWrite w s).csu = s.csu ∧ (State.rescueWrite w s).mgp = s.mgp :=
  have h := (State.rescueWrite_touch _ _ (by simp) (Touch.refl 8389176 _))
  ⟨h.pending, h.out rfl, h.freeCnt rfl, h.timers rfl, h.sheet rfl, h.sheetOld rfl, h.hlu rfl, h.tnu rfl, h.gal rfl, h.mxe rfl, h.dsc rfl, h.fca rfl, h.cdx rfl, h.spe rfl, h.hum rfl, h.bpm rfl, h.dmc rfl, h.ccl rfl, h.csu rfl, h.mgp rfl⟩

@[simp] theorem State.portGo_units (p : Nat) (cluster : Cluster) (epoch : BitVec 8) (s : State) :
    (State.portGo p cluster epoch s).pending = s.pending ∧ (State.portGo p cluster epoch s).timers = s.timers ∧ (State.portGo p cluster epoch s).mxe = s.mxe ∧ (State.portGo p cluster epoch s).dsc = s.dsc ∧ (State.portGo p cluster epoch s).fca = s.fca ∧ (State.portGo p cluster epoch s).spe = s.spe ∧ (State.portGo p cluster epoch s).hum = s.hum ∧ (State.portGo p cluster epoch s).dmc = s.dmc :=
  have h := (State.portGo_touch _ _ _ _ (by simp) (Touch.refl 16027643 _))
  ⟨h.pending, h.timers rfl, h.mxe rfl, h.dsc rfl, h.fca rfl, h.spe rfl, h.hum rfl, h.dmc rfl⟩

@[simp] theorem State.keyWord_units (k : Nat) (w : Word) (s : State) :
    (State.keyWord k w s).pending = s.pending ∧ (State.keyWord k w s).out = s.out ∧ (State.keyWord k w s).freeCnt = s.freeCnt ∧ (State.keyWord k w s).timers = s.timers ∧ (State.keyWord k w s).tbu = s.tbu ∧ (State.keyWord k w s).power = s.power ∧ (State.keyWord k w s).regf = s.regf ∧ (State.keyWord k w s).sheet = s.sheet ∧ (State.keyWord k w s).sheetOld = s.sheetOld ∧ (State.keyWord k w s).hlu = s.hlu ∧ (State.keyWord k w s).qen = s.qen ∧ (State.keyWord k w s).tnu = s.tnu ∧ (State.keyWord k w s).gal = s.gal ∧ (State.keyWord k w s).mxe = s.mxe ∧ (State.keyWord k w s).dsc = s.dsc ∧ (State.keyWord k w s).fca = s.fca ∧ (State.keyWord k w s).spe = s.spe ∧ (State.keyWord k w s).hum = s.hum ∧ (State.keyWord k w s).bpm = s.bpm ∧ (State.keyWord k w s).dmc = s.dmc ∧ (State.keyWord k w s).ccl = s.ccl ∧ (State.keyWord k w s).csu = s.csu ∧ (State.keyWord k w s).mgp = s.mgp ∧ (State.keyWord k w s).cru = s.cru :=
  have h := (State.keyWord_touch _ _ _ (by simp) (Touch.refl 32768 _))
  ⟨h.pending, h.out rfl, h.freeCnt rfl, h.timers rfl, h.tbu rfl, h.power rfl, h.regf rfl, h.sheet rfl, h.sheetOld rfl, h.hlu rfl, h.qen rfl, h.tnu rfl, h.gal rfl, h.mxe rfl, h.dsc rfl, h.fca rfl, h.spe rfl, h.hum rfl, h.bpm rfl, h.dmc rfl, h.ccl rfl, h.csu rfl, h.mgp rfl, h.cru rfl⟩

@[simp] theorem State.csuWrite_units (c : Cluster) (pair : Nat) (epoch : BitVec 8) (w : Word) (s : State) :
    (State.csuWrite c pair epoch w s).pending = s.pending ∧ (State.csuWrite c pair epoch w s).out = s.out ∧ (State.csuWrite c pair epoch w s).freeCnt = s.freeCnt ∧ (State.csuWrite c pair epoch w s).timers = s.timers ∧ (State.csuWrite c pair epoch w s).tbu = s.tbu ∧ (State.csuWrite c pair epoch w s).power = s.power ∧ (State.csuWrite c pair epoch w s).sheet = s.sheet ∧ (State.csuWrite c pair epoch w s).sheetOld = s.sheetOld ∧ (State.csuWrite c pair epoch w s).hlu = s.hlu ∧ (State.csuWrite c pair epoch w s).qen = s.qen ∧ (State.csuWrite c pair epoch w s).tnu = s.tnu ∧ (State.csuWrite c pair epoch w s).gal = s.gal ∧ (State.csuWrite c pair epoch w s).mxe = s.mxe ∧ (State.csuWrite c pair epoch w s).dsc = s.dsc ∧ (State.csuWrite c pair epoch w s).fca = s.fca ∧ (State.csuWrite c pair epoch w s).cdx = s.cdx ∧ (State.csuWrite c pair epoch w s).spe = s.spe ∧ (State.csuWrite c pair epoch w s).hum = s.hum ∧ (State.csuWrite c pair epoch w s).bpm = s.bpm ∧ (State.csuWrite c pair epoch w s).dmc = s.dmc ∧ (State.csuWrite c pair epoch w s).mgp = s.mgp :=
  have h := (State.csuWrite_touch _ _ _ _ _ (by simp) (Touch.refl 11534368 _))
  ⟨h.pending, h.out rfl, h.freeCnt rfl, h.timers rfl, h.tbu rfl, h.power rfl, h.sheet rfl, h.sheetOld rfl, h.hlu rfl, h.qen rfl, h.tnu rfl, h.gal rfl, h.mxe rfl, h.dsc rfl, h.fca rfl, h.cdx rfl, h.spe rfl, h.hum rfl, h.bpm rfl, h.dmc rfl, h.mgp rfl⟩

@[simp] theorem State.trainGo_units (ch : Nat) (s : State) :
    (State.trainGo ch s).pending = s.pending ∧ (State.trainGo ch s).out = s.out ∧ (State.trainGo ch s).freeCnt = s.freeCnt ∧ (State.trainGo ch s).timers = s.timers ∧ (State.trainGo ch s).tbu = s.tbu ∧ (State.trainGo ch s).power = s.power ∧ (State.trainGo ch s).regf = s.regf ∧ (State.trainGo ch s).sheet = s.sheet ∧ (State.trainGo ch s).sheetOld = s.sheetOld ∧ (State.trainGo ch s).hlu = s.hlu ∧ (State.trainGo ch s).qen = s.qen ∧ (State.trainGo ch s).tnu = s.tnu ∧ (State.trainGo ch s).gal = s.gal ∧ (State.trainGo ch s).mxe = s.mxe ∧ (State.trainGo ch s).dsc = s.dsc ∧ (State.trainGo ch s).cdx = s.cdx ∧ (State.trainGo ch s).spe = s.spe ∧ (State.trainGo ch s).hum = s.hum ∧ (State.trainGo ch s).bpm = s.bpm ∧ (State.trainGo ch s).dmc = s.dmc ∧ (State.trainGo ch s).ccl = s.ccl ∧ (State.trainGo ch s).csu = s.csu ∧ (State.trainGo ch s).mgp = s.mgp ∧ (State.trainGo ch s).cru = s.cru :=
  have h := (State.trainGo_touch _ _ (by simp) (Touch.refl 16384 _))
  ⟨h.pending, h.out rfl, h.freeCnt rfl, h.timers rfl, h.tbu rfl, h.power rfl, h.regf rfl, h.sheet rfl, h.sheetOld rfl, h.hlu rfl, h.qen rfl, h.tnu rfl, h.gal rfl, h.mxe rfl, h.dsc rfl, h.cdx rfl, h.spe rfl, h.hum rfl, h.bpm rfl, h.dmc rfl, h.ccl rfl, h.csu rfl, h.mgp rfl, h.cru rfl⟩

@[simp] theorem State.regAct_units (v : View) (epoch : BitVec 8) (addr : Nat) (w : Word) (s : State) :
    (State.regAct v epoch addr w s).pending = s.pending ∧ (State.regAct v epoch addr w s).timers = s.timers :=
  have h := (State.regAct_touch _ _ _ _ _ (by simp) (Touch.refl 16777211 _))
  ⟨h.pending, h.timers rfl⟩

@[simp] theorem State.regStore_units (v : View) (addr : Nat) (w : Word) (rw1cOnly : Bool) (s : State) :
    (State.regStore v addr w rw1cOnly s).pending = s.pending ∧ (State.regStore v addr w rw1cOnly s).out = s.out ∧ (State.regStore v addr w rw1cOnly s).freeCnt = s.freeCnt ∧ (State.regStore v addr w rw1cOnly s).timers = s.timers ∧ (State.regStore v addr w rw1cOnly s).tbu = s.tbu ∧ (State.regStore v addr w rw1cOnly s).power = s.power ∧ (State.regStore v addr w rw1cOnly s).sheet = s.sheet ∧ (State.regStore v addr w rw1cOnly s).sheetOld = s.sheetOld ∧ (State.regStore v addr w rw1cOnly s).hlu = s.hlu ∧ (State.regStore v addr w rw1cOnly s).qen = s.qen ∧ (State.regStore v addr w rw1cOnly s).tnu = s.tnu ∧ (State.regStore v addr w rw1cOnly s).gal = s.gal ∧ (State.regStore v addr w rw1cOnly s).mxe = s.mxe ∧ (State.regStore v addr w rw1cOnly s).dsc = s.dsc ∧ (State.regStore v addr w rw1cOnly s).fca = s.fca ∧ (State.regStore v addr w rw1cOnly s).cdx = s.cdx ∧ (State.regStore v addr w rw1cOnly s).spe = s.spe ∧ (State.regStore v addr w rw1cOnly s).hum = s.hum ∧ (State.regStore v addr w rw1cOnly s).bpm = s.bpm ∧ (State.regStore v addr w rw1cOnly s).dmc = s.dmc ∧ (State.regStore v addr w rw1cOnly s).ccl = s.ccl ∧ (State.regStore v addr w rw1cOnly s).csu = s.csu ∧ (State.regStore v addr w rw1cOnly s).mgp = s.mgp ∧ (State.regStore v addr w rw1cOnly s).cru = s.cru :=
  have h := (State.regStore_touch _ _ _ _ _ (by simp) (Touch.refl 32 _))
  ⟨h.pending, h.out rfl, h.freeCnt rfl, h.timers rfl, h.tbu rfl, h.power rfl, h.sheet rfl, h.sheetOld rfl, h.hlu rfl, h.qen rfl, h.tnu rfl, h.gal rfl, h.mxe rfl, h.dsc rfl, h.fca rfl, h.cdx rfl, h.spe rfl, h.hum rfl, h.bpm rfl, h.dmc rfl, h.ccl rfl, h.csu rfl, h.mgp rfl, h.cru rfl⟩

@[simp] theorem State.writeReg_units (v : View) (host : Bool) (epoch : BitVec 8) (addr : Nat) (w : Word) (be : BitVec 4) (s : State) :
    (State.writeReg v host epoch addr w be s).pending = s.pending ∧ (State.writeReg v host epoch addr w be s).timers = s.timers :=
  have h := (State.writeReg_touch _ _ _ _ _ _ _ (by simp) (Touch.refl 16777211 _))
  ⟨h.pending, h.timers rfl⟩

@[simp] theorem State.hostWord_units (who : Accessor) (fn bar addr : Nat) (w : Word) (be : BitVec 4) (s : State) :
    (State.hostWord who fn bar addr w be s).pending = s.pending ∧ (State.hostWord who fn bar addr w be s).timers = s.timers :=
  have h := (State.hostWord_touch _ _ _ _ _ _ _ (by simp) (Touch.refl 16777211 _))
  ⟨h.pending, h.timers rfl⟩

@[simp] theorem State.firmwareWord_units (who : Accessor) (epoch : BitVec 8) (addr : Nat) (w : Word) (s : State) :
    (State.firmwareWord who epoch addr w s).pending = s.pending ∧ (State.firmwareWord who epoch addr w s).timers = s.timers :=
  have h := (State.firmwareWord_touch _ _ _ _ _ (by simp) (Touch.refl 16777211 _))
  ⟨h.pending, h.timers rfl⟩

@[simp] theorem State.splitWord_units (e : Accessor × Nat × Word) (s : State) :
    (State.splitWord e s).pending = s.pending ∧ (State.splitWord e s).timers = s.timers :=
  have h := (State.splitWord_touch _ _ (by simp) (Touch.refl 16777211 _))
  ⟨h.pending, h.timers rfl⟩

@[simp] theorem State.firmwareStore_units (k : Cluster) (pair : Nat) (epoch : BitVec 8) (p : Place) (bs : List Byte) (s : State) :
    (State.firmwareStore k pair epoch p bs s).pending = s.pending ∧ (State.firmwareStore k pair epoch p bs s).freeCnt = s.freeCnt ∧ (State.firmwareStore k pair epoch p bs s).timers = s.timers ∧ (State.firmwareStore k pair epoch p bs s).tbu = s.tbu ∧ (State.firmwareStore k pair epoch p bs s).power = s.power ∧ (State.firmwareStore k pair epoch p bs s).sheet = s.sheet ∧ (State.firmwareStore k pair epoch p bs s).sheetOld = s.sheetOld ∧ (State.firmwareStore k pair epoch p bs s).hlu = s.hlu ∧ (State.firmwareStore k pair epoch p bs s).qen = s.qen ∧ (State.firmwareStore k pair epoch p bs s).tnu = s.tnu ∧ (State.firmwareStore k pair epoch p bs s).gal = s.gal ∧ (State.firmwareStore k pair epoch p bs s).mxe = s.mxe ∧ (State.firmwareStore k pair epoch p bs s).dsc = s.dsc ∧ (State.firmwareStore k pair epoch p bs s).fca = s.fca ∧ (State.firmwareStore k pair epoch p bs s).cdx = s.cdx ∧ (State.firmwareStore k pair epoch p bs s).spe = s.spe ∧ (State.firmwareStore k pair epoch p bs s).hum = s.hum ∧ (State.firmwareStore k pair epoch p bs s).mgp = s.mgp :=
  have h := (State.firmwareStore_touch _ _ _ _ _ _ (by simp) (Touch.refl 12320801 _))
  ⟨h.pending, h.freeCnt rfl, h.timers rfl, h.tbu rfl, h.power rfl, h.sheet rfl, h.sheetOld rfl, h.hlu rfl, h.qen rfl, h.tnu rfl, h.gal rfl, h.mxe rfl, h.dsc rfl, h.fca rfl, h.cdx rfl, h.spe rfl, h.hum rfl, h.mgp rfl⟩

@[simp] theorem State.firmwareWrite_units (k : Cluster) (pair : Nat) (epoch : BitVec 8) (addr size : Nat) (data : Dword) (s : State) :
    (State.firmwareWrite k pair epoch addr size data s).pending = s.pending ∧ (State.firmwareWrite k pair epoch addr size data s).timers = s.timers :=
  have h := (State.firmwareWrite_touch _ _ _ _ _ _ _ (by simp) (Touch.refl 16777211 _))
  ⟨h.pending, h.timers rfl⟩

@[simp] theorem State.hostWrite_units (fn bar addr size : Nat) (data : Dword) (be : BitVec 8) (s : State) :
    (State.hostWrite fn bar addr size data be s).pending = s.pending ∧ (State.hostWrite fn bar addr size data be s).timers = s.timers :=
  have h := (State.hostWrite_touch _ _ _ _ _ _ _ (by simp) (Touch.refl 16777211 _))
  ⟨h.pending, h.timers rfl⟩

@[simp] theorem State.waitCount_units (f : Field) (on : Bool) (s : State) :
    (State.waitCount f on s).pending = s.pending ∧ (State.waitCount f on s).out = s.out ∧ (State.waitCount f on s).freeCnt = s.freeCnt ∧ (State.waitCount f on s).timers = s.timers ∧ (State.waitCount f on s).tbu = s.tbu ∧ (State.waitCount f on s).power = s.power ∧ (State.waitCount f on s).sheet = s.sheet ∧ (State.waitCount f on s).sheetOld = s.sheetOld ∧ (State.waitCount f on s).hlu = s.hlu ∧ (State.waitCount f on s).qen = s.qen ∧ (State.waitCount f on s).tnu = s.tnu ∧ (State.waitCount f on s).gal = s.gal ∧ (State.waitCount f on s).mxe = s.mxe ∧ (State.waitCount f on s).dsc = s.dsc ∧ (State.waitCount f on s).fca = s.fca ∧ (State.waitCount f on s).cdx = s.cdx ∧ (State.waitCount f on s).spe = s.spe ∧ (State.waitCount f on s).hum = s.hum ∧ (State.waitCount f on s).bpm = s.bpm ∧ (State.waitCount f on s).dmc = s.dmc ∧ (State.waitCount f on s).ccl = s.ccl ∧ (State.waitCount f on s).csu = s.csu ∧ (State.waitCount f on s).mgp = s.mgp ∧ (State.waitCount f on s).cru = s.cru :=
  have h := (State.waitCount_touch _ _ _ (by simp) (Touch.refl 32 _))
  ⟨h.pending, h.out rfl, h.freeCnt rfl, h.timers rfl, h.tbu rfl, h.power rfl, h.sheet rfl, h.sheetOld rfl, h.hlu rfl, h.qen rfl, h.tnu rfl, h.gal rfl, h.mxe rfl, h.dsc rfl, h.fca rfl, h.cdx rfl, h.spe rfl, h.hum rfl, h.bpm rfl, h.dmc rfl, h.ccl rfl, h.csu rfl, h.mgp rfl, h.cru rfl⟩

@[simp] theorem State.tickCounts_units (s : State) :
    (State.tickCounts s).pending = s.pending ∧ (State.tickCounts s).out = s.out ∧ (State.tickCounts s).freeCnt = s.freeCnt ∧ (State.tickCounts s).timers = s.timers ∧ (State.tickCounts s).tbu = s.tbu ∧ (State.tickCounts s).power = s.power ∧ (State.tickCounts s).sheet = s.sheet ∧ (State.tickCounts s).sheetOld = s.sheetOld ∧ (State.tickCounts s).hlu = s.hlu ∧ (State.tickCounts s).qen = s.qen ∧ (State.tickCounts s).tnu = s.tnu ∧ (State.tickCounts s).gal = s.gal ∧ (State.tickCounts s).mxe = s.mxe ∧ (State.tickCounts s).fca = s.fca ∧ (State.tickCounts s).cdx = s.cdx ∧ (State.tickCounts s).spe = s.spe ∧ (State.tickCounts s).hum = s.hum ∧ (State.tickCounts s).bpm = s.bpm ∧ (State.tickCounts s).dmc = s.dmc ∧ (State.tickCounts s).ccl = s.ccl ∧ (State.tickCounts s).mgp = s.mgp ∧ (State.tickCounts s).cru = s.cru :=
  have h := (State.tickCounts_touch _ (by simp) (Touch.refl 2105376 _))
  ⟨h.pending, h.out rfl, h.freeCnt rfl, h.timers rfl, h.tbu rfl, h.power rfl, h.sheet rfl, h.sheetOld rfl, h.hlu rfl, h.qen rfl, h.tnu rfl, h.gal rfl, h.mxe rfl, h.fca rfl, h.cdx rfl, h.spe rfl, h.hum rfl, h.bpm rfl, h.dmc rfl, h.ccl rfl, h.mgp rfl, h.cru rfl⟩

@[simp] theorem State.collisions_units (s : State) :
    (State.collisions s).pending = s.pending ∧ (State.collisions s).out = s.out ∧ (State.collisions s).freeCnt = s.freeCnt ∧ (State.collisions s).timers = s.timers ∧ (State.collisions s).tbu = s.tbu ∧ (State.collisions s).power = s.power ∧ (State.collisions s).sheet = s.sheet ∧ (State.collisions s).sheetOld = s.sheetOld ∧ (State.collisions s).hlu = s.hlu ∧ (State.collisions s).qen = s.qen ∧ (State.collisions s).tnu = s.tnu ∧ (State.collisions s).gal = s.gal ∧ (State.collisions s).mxe = s.mxe ∧ (State.collisions s).dsc = s.dsc ∧ (State.collisions s).fca = s.fca ∧ (State.collisions s).cdx = s.cdx ∧ (State.collisions s).spe = s.spe ∧ (State.collisions s).hum = s.hum ∧ (State.collisions s).bpm = s.bpm ∧ (State.collisions s).dmc = s.dmc ∧ (State.collisions s).ccl = s.ccl ∧ (State.collisions s).csu = s.csu ∧ (State.collisions s).mgp = s.mgp ∧ (State.collisions s).cru = s.cru :=
  have h := (State.collisions_touch _ (by simp) (Touch.refl 32 _))
  ⟨h.pending, h.out rfl, h.freeCnt rfl, h.timers rfl, h.tbu rfl, h.power rfl, h.sheet rfl, h.sheetOld rfl, h.hlu rfl, h.qen rfl, h.tnu rfl, h.gal rfl, h.mxe rfl, h.dsc rfl, h.fca rfl, h.cdx rfl, h.spe rfl, h.hum rfl, h.bpm rfl, h.dmc rfl, h.ccl rfl, h.csu rfl, h.mgp rfl, h.cru rfl⟩

@[simp] theorem State.withdrawFreed_units (s : State) :
    (State.withdrawFreed s).pending = s.pending ∧ (State.withdrawFreed s).out = s.out ∧ (State.withdrawFreed s).freeCnt = s.freeCnt ∧ (State.withdrawFreed s).timers = s.timers ∧ (State.withdrawFreed s).tbu = s.tbu ∧ (State.withdrawFreed s).power = s.power ∧ (State.withdrawFreed s).regf = s.regf ∧ (State.withdrawFreed s).sheet = s.sheet ∧ (State.withdrawFreed s).sheetOld = s.sheetOld ∧ (State.withdrawFreed s).hlu = s.hlu ∧ (State.withdrawFreed s).qen = s.qen ∧ (State.withdrawFreed s).tnu = s.tnu ∧ (State.withdrawFreed s).gal = s.gal ∧ (State.withdrawFreed s).mxe = s.mxe ∧ (State.withdrawFreed s).fca = s.fca ∧ (State.withdrawFreed s).spe = s.spe ∧ (State.withdrawFreed s).hum = s.hum ∧ (State.withdrawFreed s).bpm = s.bpm ∧ (State.withdrawFreed s).dmc = s.dmc ∧ (State.withdrawFreed s).ccl = s.ccl ∧ (State.withdrawFreed s).csu = s.csu ∧ (State.withdrawFreed s).mgp = s.mgp ∧ (State.withdrawFreed s).cru = s.cru :=
  have h := (State.withdrawFreed_touch _ (by simp) (Touch.refl 40960 _))
  ⟨h.pending, h.out rfl, h.freeCnt rfl, h.timers rfl, h.tbu rfl, h.power rfl, h.regf rfl, h.sheet rfl, h.sheetOld rfl, h.hlu rfl, h.qen rfl, h.tnu rfl, h.gal rfl, h.mxe rfl, h.fca rfl, h.spe rfl, h.hum rfl, h.bpm rfl, h.dmc rfl, h.ccl rfl, h.csu rfl, h.mgp rfl, h.cru rfl⟩

@[simp] theorem State.forgetTick_units (s : State) :
    (State.forgetTick s).pending = s.pending ∧ (State.forgetTick s).out = s.out ∧ (State.forgetTick s).freeCnt = s.freeCnt ∧ (State.forgetTick s).timers = s.timers ∧ (State.forgetTick s).sheet = s.sheet ∧ (State.forgetTick s).tnu = s.tnu ∧ (State.forgetTick s).gal = s.gal ∧ (State.forgetTick s).dsc = s.dsc ∧ (State.forgetTick s).spe = s.spe ∧ (State.forgetTick s).hum = s.hum ∧ (State.forgetTick s).dmc = s.dmc ∧ (State.forgetTick s).ccl = s.ccl ∧ (State.forgetTick s).csu = s.csu ∧ (State.forgetTick s).cru = s.cru :=
  have h := (State.forgetTick_touch _ (by simp) (Touch.refl 4510648 _))
  ⟨h.pending, h.out rfl, h.freeCnt rfl, h.timers rfl, h.sheet rfl, h.tnu rfl, h.gal rfl, h.dsc rfl, h.spe rfl, h.hum rfl, h.dmc rfl, h.ccl rfl, h.csu rfl, h.cru rfl⟩

@[simp] theorem State.clock_units (s : State) :
    (State.clock s).pending = s.pending ∧ (State.clock s).out = s.out ∧ (State.clock s).freeCnt = s.freeCnt ∧ (State.clock s).timers = s.timers ∧ (State.clock s).power = s.power ∧ (State.clock s).regf = s.regf ∧ (State.clock s).sheet = s.sheet ∧ (State.clock s).sheetOld = s.sheetOld ∧ (State.clock s).hlu = s.hlu ∧ (State.clock s).qen = s.qen ∧ (State.clock s).tnu = s.tnu ∧ (State.clock s).gal = s.gal ∧ (State.clock s).mxe = s.mxe ∧ (State.clock s).dsc = s.dsc ∧ (State.clock s).fca = s.fca ∧ (State.clock s).cdx = s.cdx ∧ (State.clock s).spe = s.spe ∧ (State.clock s).hum = s.hum ∧ (State.clock s).bpm = s.bpm ∧ (State.clock s).dmc = s.dmc ∧ (State.clock s).ccl = s.ccl ∧ (State.clock s).csu = s.csu ∧ (State.clock s).mgp = s.mgp ∧ (State.clock s).cru = s.cru :=
  have h := (State.clock_touch _ (by simp) (Touch.refl 8 _))
  ⟨h.pending, h.out rfl, h.freeCnt rfl, h.timers rfl, h.power rfl, h.regf rfl, h.sheet rfl, h.sheetOld rfl, h.hlu rfl, h.qen rfl, h.tnu rfl, h.gal rfl, h.mxe rfl, h.dsc rfl, h.fca rfl, h.cdx rfl, h.spe rfl, h.hum rfl, h.bpm rfl, h.dmc rfl, h.ccl rfl, h.csu rfl, h.mgp rfl, h.cru rfl⟩

@[simp] theorem State.lzApply_units (s : State) :
    (State.lzApply s).pending = s.pending ∧ (State.lzApply s).out = s.out ∧ (State.lzApply s).freeCnt = s.freeCnt ∧ (State.lzApply s).timers = s.timers ∧ (State.lzApply s).tbu = s.tbu ∧ (State.lzApply s).power = s.power ∧ (State.lzApply s).regf = s.regf ∧ (State.lzApply s).sheet = s.sheet ∧ (State.lzApply s).sheetOld = s.sheetOld ∧ (State.lzApply s).hlu = s.hlu ∧ (State.lzApply s).qen = s.qen ∧ (State.lzApply s).tnu = s.tnu ∧ (State.lzApply s).gal = s.gal ∧ (State.lzApply s).dsc = s.dsc ∧ (State.lzApply s).fca = s.fca ∧ (State.lzApply s).cdx = s.cdx ∧ (State.lzApply s).spe = s.spe ∧ (State.lzApply s).hum = s.hum ∧ (State.lzApply s).bpm = s.bpm ∧ (State.lzApply s).dmc = s.dmc ∧ (State.lzApply s).ccl = s.ccl ∧ (State.lzApply s).csu = s.csu ∧ (State.lzApply s).mgp = s.mgp ∧ (State.lzApply s).cru = s.cru :=
  have h := (State.lzApply_touch _ (by simp) (Touch.refl 4096 _))
  ⟨h.pending, h.out rfl, h.freeCnt rfl, h.timers rfl, h.tbu rfl, h.power rfl, h.regf rfl, h.sheet rfl, h.sheetOld rfl, h.hlu rfl, h.qen rfl, h.tnu rfl, h.gal rfl, h.dsc rfl, h.fca rfl, h.cdx rfl, h.spe rfl, h.hum rfl, h.bpm rfl, h.dmc rfl, h.ccl rfl, h.csu rfl, h.mgp rfl, h.cru rfl⟩

@[simp] theorem State.testResume_units (s : State) :
    (State.testResume s).pending = s.pending ∧ (State.testResume s).out = s.out ∧ (State.testResume s).freeCnt = s.freeCnt ∧ (State.testResume s).timers = s.timers ∧ (State.testResume s).tbu = s.tbu ∧ (State.testResume s).power = s.power ∧ (State.testResume s).regf = s.regf ∧ (State.testResume s).sheet = s.sheet ∧ (State.testResume s).sheetOld = s.sheetOld ∧ (State.testResume s).hlu = s.hlu ∧ (State.testResume s).qen = s.qen ∧ (State.testResume s).tnu = s.tnu ∧ (State.testResume s).gal = s.gal ∧ (State.testResume s).mxe = s.mxe ∧ (State.testResume s).dsc = s.dsc ∧ (State.testResume s).fca = s.fca ∧ (State.testResume s).cdx = s.cdx ∧ (State.testResume s).spe = s.spe ∧ (State.testResume s).bpm = s.bpm ∧ (State.testResume s).dmc = s.dmc ∧ (State.testResume s).ccl = s.ccl ∧ (State.testResume s).csu = s.csu ∧ (State.testResume s).mgp = s.mgp ∧ (State.testResume s).cru = s.cru :=
  have h := (State.testResume_touch _ (by simp) (Touch.refl 131072 _))
  ⟨h.pending, h.out rfl, h.freeCnt rfl, h.timers rfl, h.tbu rfl, h.power rfl, h.regf rfl, h.sheet rfl, h.sheetOld rfl, h.hlu rfl, h.qen rfl, h.tnu rfl, h.gal rfl, h.mxe rfl, h.dsc rfl, h.fca rfl, h.cdx rfl, h.spe rfl, h.bpm rfl, h.dmc rfl, h.ccl rfl, h.csu rfl, h.mgp rfl, h.cru rfl⟩

@[simp] theorem State.avsTake_units (s : State) :
    (State.avsTake s).pending = s.pending ∧ (State.avsTake s).freeCnt = s.freeCnt ∧ (State.avsTake s).timers = s.timers ∧ (State.avsTake s).tbu = s.tbu ∧ (State.avsTake s).regf = s.regf ∧ (State.avsTake s).sheet = s.sheet ∧ (State.avsTake s).sheetOld = s.sheetOld ∧ (State.avsTake s).hlu = s.hlu ∧ (State.avsTake s).qen = s.qen ∧ (State.avsTake s).tnu = s.tnu ∧ (State.avsTake s).gal = s.gal ∧ (State.avsTake s).mxe = s.mxe ∧ (State.avsTake s).dsc = s.dsc ∧ (State.avsTake s).fca = s.fca ∧ (State.avsTake s).cdx = s.cdx ∧ (State.avsTake s).spe = s.spe ∧ (State.avsTake s).hum = s.hum ∧ (State.avsTake s).bpm = s.bpm ∧ (State.avsTake s).dmc = s.dmc ∧ (State.avsTake s).ccl = s.ccl ∧ (State.avsTake s).csu = s.csu ∧ (State.avsTake s).mgp = s.mgp ∧ (State.avsTake s).cru = s.cru :=
  have h := (State.avsTake_touch _ (by simp) (Touch.refl 17 _))
  ⟨h.pending, h.freeCnt rfl, h.timers rfl, h.tbu rfl, h.regf rfl, h.sheet rfl, h.sheetOld rfl, h.hlu rfl, h.qen rfl, h.tnu rfl, h.gal rfl, h.mxe rfl, h.dsc rfl, h.fca rfl, h.cdx rfl, h.spe rfl, h.hum rfl, h.bpm rfl, h.dmc rfl, h.ccl rfl, h.csu rfl, h.mgp rfl, h.cru rfl⟩

@[simp] theorem State.copiesRestore_units (s : State) :
    (State.copiesRestore s).pending = s.pending ∧ (State.copiesRestore s).out = s.out ∧ (State.copiesRestore s).freeCnt = s.freeCnt ∧ (State.copiesRestore s).timers = s.timers ∧ (State.copiesRestore s).tbu = s.tbu ∧ (State.copiesRestore s).power = s.power ∧ (State.copiesRestore s).regf = s.regf ∧ (State.copiesRestore s).sheet = s.sheet ∧ (State.copiesRestore s).sheetOld = s.sheetOld ∧ (State.copiesRestore s).hlu = s.hlu ∧ (State.copiesRestore s).qen = s.qen ∧ (State.copiesRestore s).tnu = s.tnu ∧ (State.copiesRestore s).gal = s.gal ∧ (State.copiesRestore s).dsc = s.dsc ∧ (State.copiesRestore s).fca = s.fca ∧ (State.copiesRestore s).cdx = s.cdx ∧ (State.copiesRestore s).hum = s.hum ∧ (State.copiesRestore s).bpm = s.bpm ∧ (State.copiesRestore s).dmc = s.dmc ∧ (State.copiesRestore s).ccl = s.ccl ∧ (State.copiesRestore s).csu = s.csu ∧ (State.copiesRestore s).mgp = s.mgp ∧ (State.copiesRestore s).cru = s.cru :=
  have h := (State.copiesRestore_touch _ (by simp) (Touch.refl 69632 _))
  ⟨h.pending, h.out rfl, h.freeCnt rfl, h.timers rfl, h.tbu rfl, h.power rfl, h.regf rfl, h.sheet rfl, h.sheetOld rfl, h.hlu rfl, h.qen rfl, h.tnu rfl, h.gal rfl, h.dsc rfl, h.fca rfl, h.cdx rfl, h.hum rfl, h.bpm rfl, h.dmc rfl, h.ccl rfl, h.csu rfl, h.mgp rfl, h.cru rfl⟩

@[simp] theorem State.mediaTick_units (s : State) :
    (State.mediaTick s).pending = s.pending ∧ (State.mediaTick s).freeCnt = s.freeCnt ∧ (State.mediaTick s).timers = s.timers ∧ (State.mediaTick s).tbu = s.tbu ∧ (State.mediaTick s).sheet = s.sheet ∧ (State.mediaTick s).sheetOld = s.sheetOld ∧ (State.mediaTick s).hlu = s.hlu ∧ (State.mediaTick s).tnu = s.tnu ∧ (State.mediaTick s).gal = s.gal ∧ (State.mediaTick s).csu = s.csu :=
  have h := (State.mediaTick_touch _ (by simp) (Touch.refl 14676529 _))
  ⟨h.pending, h.freeCnt rfl, h.timers rfl, h.tbu rfl, h.sheet rfl, h.sheetOld rfl, h.hlu rfl, h.tnu rfl, h.gal rfl, h.csu rfl⟩

@[simp] theorem State.hostTick_units (s : State) :
    (State.hostTick s).pending = s.pending ∧ (State.hostTick s).freeCnt = s.freeCnt ∧ (State.hostTick s).timers = s.timers ∧ (State.hostTick s).tbu = s.tbu ∧ (State.hostTick s).sheet = s.sheet ∧ (State.hostTick s).sheetOld = s.sheetOld ∧ (State.hostTick s).dsc = s.dsc ∧ (State.hostTick s).fca = s.fca ∧ (State.hostTick s).spe = s.spe ∧ (State.hostTick s).dmc = s.dmc ∧ (State.hostTick s).csu = s.csu :=
  have h := (State.hostTick_touch _ (by simp) (Touch.refl 14065457 _))
  ⟨h.pending, h.freeCnt rfl, h.timers rfl, h.tbu rfl, h.sheet rfl, h.sheetOld rfl, h.dsc rfl, h.fca rfl, h.spe rfl, h.dmc rfl, h.csu rfl⟩

@[simp] theorem State.controlTick_units (s : State) :
    (State.controlTick s).pending = s.pending ∧ (State.controlTick s).timers = s.timers ∧ (State.controlTick s).dsc = s.dsc ∧ (State.controlTick s).dmc = s.dmc :=
  have h := (State.controlTick_touch _ (by simp) (Touch.refl 16244731 _))
  ⟨h.pending, h.timers rfl, h.dsc rfl, h.dmc rfl⟩

@[simp] theorem State.tickWork_units (splitRd : List (Accessor × Nat)) (split : List (Accessor × Nat × Word)) (holdup : Bool) (s : State) :
    (State.tickWork splitRd split holdup s).pending = s.pending ∧ (State.tickWork splitRd split holdup s).timers = s.timers :=
  have h := (State.tickWork_touch _ _ _ _ (by simp) (Touch.refl 16777211 _))
  ⟨h.pending, h.timers rfl⟩

@[simp] theorem State.tick_units (s : State) :
    (State.tick s).pending = s.pending ∧ (State.tick s).timers = s.timers :=
  have h := (State.tick_touch _ (by simp) (Touch.refl 16777211 _))
  ⟨h.pending, h.timers rfl⟩

end Sys2Proof.Machine
end

