-- ==== Sys2Proof/Laws/Contexts.lean ====
section
/-! SUPPORT. Command contexts under the shared operations: freeing buffers and telling of health events neither adds nor frees a context and takes back nothing that has left the controller, and a failed command stands READY with its status and without buffers (R95, R479). -/

namespace Sys2Proof.Machine

/-- The same contexts are in use, queues and features are as they were, and what has left the controller stays. -/
structure SameCtxs (s t : State) : Prop where
  has : ∀ c, Tbl.has t.qen.ctxs c = Tbl.has s.qen.ctxs c
  qen : t.qen = { s.qen with ctxs := t.qen.ctxs, ctrls := t.qen.ctrls }
  out : ∃ o, t.out = o ++ s.out

theorem SameCtxs.refl (s : State) : SameCtxs s s := ⟨fun _ => rfl, rfl, [], rfl⟩

theorem SameCtxs.trans {s t u : State} (h : SameCtxs s t) (k : SameCtxs t u) : SameCtxs s u := by
  refine ⟨fun c => (k.has c).trans (h.has c), ?_, ?_⟩
  · rw [k.qen, h.qen]
  · obtain ⟨a, ha⟩ := h.out
    obtain ⟨b, hb⟩ := k.out
    exact ⟨b ++ a, by rw [hb, ha, List.append_assoc]⟩

theorem SameCtxs.ofEq {s t : State} (h : t.qen = s.qen) (o : t.out = s.out) : SameCtxs s t := ⟨fun c => by rw [h], by rw [h], [], o⟩

theorem SameCtxs.foldl {α : Type} (f : State → α → State) (l : List α) (s : State) (h : ∀ t x, SameCtxs t (f t x)) : SameCtxs s (l.foldl f s) := by
  induction l generalizing s with
  | nil => exact SameCtxs.refl s
  | cons a l ih => exact (h s a).trans (ih _)

theorem Tbl.has_adjust {α : Type} (t : List (Nat × α)) (k c : Nat) (f : α → α) : Tbl.has (Tbl.adjust t k f) c = Tbl.has t c := by
  unfold Tbl.has
  by_cases h : c = k
  · subst h; rw [Tbl.find?_adjust_same]; simp
  · rw [Tbl.find?_adjust_other _ _ h]

theorem State.modCtx_same (s : State) (c : Nat) (f : Ctx → Ctx) : SameCtxs s (s.modCtx c f) :=
  ⟨fun k => by simp [State.modCtx, Qen.modCtx, Tbl.has_adjust], rfl, [], rfl⟩

theorem State.giveEvent_same (s : State) (fn : Nat) : SameCtxs s (s.giveEvent fn) := by
  unfold State.giveEvent
  split
  · exact ⟨fun c => by simp [Qen.modCtx, Qen.modCtrl, Tbl.has_adjust], rfl, [], rfl⟩
  · exact SameCtxs.refl s

theorem State.asyncEvent_same (s : State) (fn : Nat) (e : AsyncEvent) : SameCtxs s (s.asyncEvent fn e) := by
  unfold State.asyncEvent
  split
  · exact SameCtxs.refl s
  · have h : SameCtxs s (s.modQen fun q => q.modCtrl fn fun k => { k with events := k.events ++ [e] }) := ⟨fun c => rfl, rfl, [], rfl⟩
    exact h.trans (State.giveEvent_same _ _)

theorem State.asyncAll_same (s : State) (e : AsyncEvent) : SameCtxs s (s.asyncAll e) :=
  SameCtxs.foldl _ _ _ fun t x => State.asyncEvent_same t x.1 e

theorem State.criticalWarn_same (s : State) (b i : Nat) : SameCtxs s (s.criticalWarn b i) :=
  SameCtxs.foldl _ _ _ fun t x => State.asyncEvent_same t x.1 _

theorem State.emit_same (s : State) (e : Emission) : SameCtxs s (s.emit e) := ⟨fun _ => rfl, rfl, [e], rfl⟩

theorem State.trigger_same (s : State) (code unit inst : Nat) (arg : Dword) : SameCtxs s (s.trigger code unit inst arg) :=
  SameCtxs.ofEq (by simp) (by simp)

theorem State.tellHealth_same (s : State) (code unit : Nat) (r : EventRecord) : SameCtxs s (s.tellHealth code unit r) := by
  unfold State.tellHealth
  have h : SameCtxs s (if bitAt (s.obj Ob.EVENT_AEN_MASK) (code - 1) then s.asyncAll ⟨7, code, 0xC0⟩ else s) := by
    split
    · exact State.asyncAll_same _ _
    · exact SameCtxs.refl s
  generalize (if bitAt (s.obj Ob.EVENT_AEN_MASK) (code - 1) then s.asyncAll ⟨7, code, 0xC0⟩ else s) = t at h
  refine h.trans ?_
  dsimp only
  split
  · exact State.trigger_same _ _ _ _ _
  · exact ((State.emit_same _ _).trans (State.emit_same _ _)).trans (State.trigger_same _ _ _ _ _)

theorem State.health_same (s : State) (code unit : Nat) : SameCtxs s (s.health code unit) := by
  unfold State.health
  split
  · exact SameCtxs.refl s
  · split
    · exact SameCtxs.refl s
    · exact SameCtxs.trans (SameCtxs.ofEq (by simp) (by simp)) (State.tellHealth_same _ _ _ _)

theorem State.healthLevel_same (s : State) (code unit : Nat) (on : Bool) : SameCtxs s (s.healthLevel code unit on) := by
  unfold State.healthLevel
  split
  · exact State.health_same _ _ _
  · exact SameCtxs.ofEq (by simp) (by simp)

theorem State.retireBuf_same (s : State) (k i : Nat) : SameCtxs s (s.retireBuf k i) := by
  unfold State.retireBuf
  exact SameCtxs.trans (SameCtxs.ofEq (by simp) (by simp)) (State.healthLevel_same _ _ _ _)

theorem State.grantFrom_same (s : State) (k : Nat) (w : BufWaiter) : SameCtxs s (s.grantFrom k w) := by
  unfold State.grantFrom
  split
  · dsimp only
    split <;> exact ⟨fun c => rfl, rfl, [_], rfl⟩
  · exact SameCtxs.refl s

theorem State.releaseBuf_same (s : State) (k i : Nat) : SameCtxs s (s.releaseBuf k i) := by
  unfold State.releaseBuf
  split
  · exact State.retireBuf_same _ _ _
  · refine SameCtxs.ofEq ?_ ?_
    · dsimp only
      rw [(State.admitHeld_units _).2.2.2.2.2.2.2.2.2.2.1]
      repeat' split <;> simp
    · dsimp only
      rw [(State.admitHeld_units _).2.1]
      repeat' split <;> simp

theorem State.bufFree_same (s : State) (h : BitVec 24) (unit : Nat) : SameCtxs s (s.bufFree h unit) := by
  unfold State.bufFree
  split
  · exact SameCtxs.ofEq (by simp) (by simp)
  · dsimp only
    split
    · unfold State.lastFree
      split
      · exact SameCtxs.ofEq (by simp) (by simp)
      · exact SameCtxs.trans (SameCtxs.ofEq (by simp) (by simp)) (State.releaseBuf_same _ _ _)
    · exact SameCtxs.ofEq (by simp) (by simp)

theorem State.freeBufs_same (s : State) (hs : List (BitVec 24)) : SameCtxs s (s.freeBufs hs) :=
  SameCtxs.foldl _ _ _ fun t h => State.bufFree_same t h _

/-- A context that is listed has a value. -/
theorem Tbl.find?_of_has {α : Type} {t : List (Nat × α)} {c : Nat} (h : Tbl.has t c = true) : ∃ x, Tbl.find? t c = some x := by
  unfold Tbl.has at h
  exact Option.isSome_iff_exists.mp h

/-- A finished context: READY, with its status. -/
theorem State.finish_ctx (s : State) (c st : Nat) (x : Ctx) (h : Tbl.find? s.qen.ctxs c = some x) :
    Tbl.find? (s.finish c st).qen.ctxs c = some { x with state := .ready, status := st, accepted := false } := by
  simp [State.finish, State.modCtx, Qen.modCtx, Tbl.find?_adjust_same, h]

/-- A failed command stands READY with its status and without buffers. -/
theorem State.failCmd_ctx (s : State) (c st : Nat) (h : Tbl.has s.qen.ctxs c = true) :
    ∃ y, Tbl.find? (s.failCmd c st).qen.ctxs c = some y ∧ y.state = .ready ∧ y.status = st ∧ y.bufs = [] := by
  obtain ⟨x, hx⟩ := Tbl.find?_of_has h
  obtain ⟨y, hy⟩ := Tbl.find?_of_has (((State.freeBufs_same s x.bufs).has c).trans h)
  refine ⟨{ y with bufs := [], work := [], state := .ready, status := st, accepted := false }, ?_, rfl, rfl, rfl⟩
  simp [State.failCmd, hx, State.finish, State.modCtx, Qen.modCtx, Tbl.find?_adjust_same, hy]

theorem State.failCmd_same (s : State) (c st : Nat) : SameCtxs s (s.failCmd c st) := by
  unfold State.failCmd
  split
  · rename_i x _
    refine (State.freeBufs_same s x.bufs).trans ?_
    exact ⟨fun k => by simp [State.finish, State.modCtx, Qen.modCtx, Tbl.has_adjust], rfl, [], rfl⟩
  · exact SameCtxs.refl s

theorem State.finish_answered {s : State} {c st : Nat} {x : Ctx} (h : Tbl.find? s.qen.ctxs c = some x) : s.answered (s.finish c st) c x st :=
  ⟨State.finish_ctx s c st x h, fun k hk => by simp [State.finish, State.modCtx, Qen.modCtx, Tbl.find?_adjust_other _ _ hk]⟩

theorem State.failCmd_ended (s : State) (c st : Nat) (h : Tbl.has s.qen.ctxs c = true) : (s.failCmd c st).ended c st := State.failCmd_ctx s c st h

theorem Tbl.mem_of_find? {α : Type} {t : List (Nat × α)} {c : Nat} {x : α} (h : Tbl.find? t c = some x) : (c, x) ∈ t := by
  induction t with
  | nil => cases h
  | cons e t ih =>
    obtain ⟨k, v⟩ := e
    simp only [Tbl.find?] at h
    split at h
    · rename_i hk; subst hk; simp only [Option.some.injEq] at h; subst h; simp
    · exact List.mem_cons_of_mem _ (ih h)

end Sys2Proof.Machine
end

