-- ==== Sys2Proof/Laws/IoCommands.lean ====
section
/-! SUPPORT. The branches of the Read, Write and Write sequence-point meanings under their checks (R13, R103, R105, R193). The checks are generalised first, so that nothing evaluates them. -/

namespace Sys2Proof.Machine

theorem State.ioCtx_find {s : State} {c : Nat} {op : BitVec 8} {st : List CtxState} {x : Ctx} (h : s.ioCtx c op st = some x) :
    Tbl.find? s.qen.ctxs c = some x ∧ x.state ∈ st ∧ x.bmeStall = false ∧ x.admin = false ∧ x.sqe.opcode = op := by
  unfold State.ioCtx at h
  split at h
  · rename_i y hy
    split at h
    · rename_i k; simp only [Option.some.injEq] at h; subst h; exact ⟨hy, k.2.2.1, k.2.2.2, k.1, k.2.1⟩
    · cases h
  · cases h

theorem State.ioCtx_has {s : State} {c : Nat} {op : BitVec 8} {st : List CtxState} {x : Ctx} (h : s.ioCtx c op st = some x) :
    Tbl.has s.qen.ctxs c = true := by
  simp [Tbl.has, (State.ioCtx_find h).1]

theorem State.adminCtx_find {s : State} {c : Nat} {op : BitVec 8} {x : Ctx} (h : s.adminCtx c op = some x) :
    Tbl.find? s.qen.ctxs c = some x ∧ x.state = .fetched ∧ x.accepted = false ∧ x.bmeStall = false ∧ x.admin = true ∧ x.sqe.opcode = op := by
  unfold State.adminCtx at h
  split at h
  · rename_i y hy
    split at h
    · rename_i k; simp only [Option.some.injEq] at h; subst h; exact ⟨hy, k.2.2.1, k.2.2.2.1, k.2.2.2.2, k.1, k.2.1⟩
    · cases h
  · cases h

theorem State.adminCtx_has {s : State} {c : Nat} {op : BitVec 8} {x : Ctx} (h : s.adminCtx c op = some x) : Tbl.has s.qen.ctxs c = true := by
  simp [Tbl.has, (State.adminCtx_find h).1]

variable {s : State} {c : Nat} {x : Ctx} {n : Namespace}

theorem State.onOwnNs_own {f : Namespace → State → State} (h : s.ownNs x = some n) : s.onOwnNs c x f = f n s := by
  unfold State.onOwnNs
  rw [h]

theorem State.onOwnNs_foreign {f : Namespace → State → State} (h : s.ownNs x = none) : s.onOwnNs c x f = s.nsViolation c := by
  unfold State.onOwnNs
  rw [h]

theorem State.ptrGo_go {f : State → State} (h6 : x.status = 0) (h7 : x.list = none) : s.ptrGo c x f = f s := by
  unfold State.ptrGo
  rw [if_neg fun k => k.2 h6, h7]
  rfl

theorem State.ptrGo_refused {f : State → State} (h5 : x.state = .fetched) (h6 : x.status ≠ 0) : s.ptrGo c x f = s.failCmd c x.status := if_pos ⟨h5, h6⟩

theorem State.readNs_refused {st : Nat} (h : s.rangeRefusal n (slbaOf x.sqe) (nlbOf x.sqe) false = some st) : s.readNs c x n = s.failCmd c st := by
  unfold State.readNs
  rw [h]

theorem State.readNs_looked (h : s.rangeRefusal n (slbaOf x.sqe) (nlbOf x.sqe) false = none) (h4 : nlbOf x.sqe * n.lbaBytes ≤ mdtsBytes)
    (h5 : x.state = .fetched) (h6 : x.status = 0) (h7 : x.list = none) :
    s.readNs c x n = s.readLooked c ((slotSpan (slbaOf x.sqe * n.lbaBytes) (nlbOf x.sqe * n.lbaBytes)).map (s.slotWork n x.sqe.nsid.toNat)) := by
  unfold State.readNs
  rw [h]
  unfold State.readGo
  rw [if_neg (Nat.not_lt.mpr h4), State.ptrGo_go h6 h7]
  unfold State.readSlots
  rw [if_pos h5]

theorem State.writeNs_refused {st : Nat} {pi : PiCheck} (h : s.rangeRefusal n (slbaOf x.sqe) (nlbOf x.sqe) true = some st) :
    s.writeNs c pi x n = s.failCmd c st := by
  unfold State.writeNs
  rw [h]

theorem State.writeNs_go {pi : PiCheck} (h : s.rangeRefusal n (slbaOf x.sqe) (nlbOf x.sqe) true = none) (h4 : nlbOf x.sqe * n.lbaBytes ≤ mdtsBytes)
    (h6 : x.status = 0) (h7 : x.list = none) : s.writeNs c pi x n = s.dataInGo c pi x := by
  unfold State.writeNs
  rw [h]
  exact (if_neg (Nat.not_lt.mpr h4)).trans (State.ptrGo_go h6 h7)

theorem State.seqNs_given (h3 : s.bpm.poisonedBufs x.bufs = false) (h4 : s.rangeRefusal n (slbaOf x.sqe) (nlbOf x.sqe) true = none)
    (h5 : s.seqMay x n = true) (h6 : s.dsnTurn c = true) : s.seqNs c x n = s.takeDsn c x n := by
  unfold State.seqNs
  rw [h3]
  unfold State.seqGo
  rw [h4]
  have h : (s.seqMay x n && s.dsnTurn c) = true := by rw [h5, h6]; rfl
  exact if_pos h

theorem State.seqNs_poisoned (h3 : s.bpm.poisonedBufs x.bufs = true) :
    s.seqNs c x n = (s.count Fld.CDX_POISON_CNT.REFUSED 0 1).failCmd c stWriteFault := by
  unfold State.seqNs
  rw [h3]
  rfl

end Sys2Proof.Machine
end

