-- ==== Sys2Proof/Laws/Admin.lean ====
section
/-! SUPPORT. The admin frame (R43, R44): where a command runs, and where it ends with Admin Command Media Not Ready; the end of a command with a DW0. -/

namespace Sys2Proof.Machine

variable {s : State} {c : Nat} {op : BitVec 8} {x : Ctx}

theorem State.admin_hall {b : Bool} {f : Ctx → State → State} (h : s.adminCtx c op = some x) (hs : s.power.stage = .hall) :
    s.admin c op b f = .next (f x s) := by
  unfold State.admin
  rw [h]
  simp [hs]

theorem State.admin_go {t : State} {b : Bool} {f : Ctx → State → State} (h : s.adminCtx c op = some x) (hs : s.power.stage = .hall) (e : f x s = t) :
    s.admin c op b f = .next t := by
  rw [State.admin_hall h hs, e]

theorem State.setFeature_go {t : State} {fid : Nat} {f : Ctx → State → State} (h : s.adminCtx c 0x09 = some x) (hf : cdwBits x.sqe.cdw10 7 0 = fid)
    (hs : s.power.stage = .hall) (e : f x s = t) : s.setFeature c fid f = .next t := by
  unfold State.setFeature
  rw [h]
  dsimp only
  rw [if_pos hf]
  exact State.admin_go h hs e

theorem State.admin_subset {f : Ctx → State → State} (h : s.adminCtx c op = some x) (ho : s.power.adminOpen = true) :
    s.admin c op true f = .next (f x s) := by
  unfold State.admin
  rw [h]
  simp [ho]

theorem State.admin_notReady {f : Ctx → State → State} (h : s.adminCtx c op = some x) (hs : s.power.stage ≠ .hall) (ho : s.power.adminOpen = true) :
    s.admin c op false f = .next (s.finish c stNotReady) := by
  unfold State.admin
  rw [h]
  simp [hs, ho]

theorem State.finishWith_ctx {w : Word} (h : Tbl.find? s.qen.ctxs c = some x) :
    Tbl.find? (s.finishWith c w).qen.ctxs c = some { x with state := .ready, status := 0, result := w, accepted := false } := by
  simp [State.finishWith, State.finish, State.modCtx, Qen.modCtx, Tbl.find?_adjust_same, h]

/-- The table of contexts of a command that ended is another, and nothing else. -/
theorem State.finish_frame (s : State) (c st : Nat) : s.finish c st = { s with qen := { s.qen with ctxs := (s.finish c st).qen.ctxs } } := rfl

theorem State.answered_trans {u : State} {st : Nat} (h : u.answered (u.finish c st) c x st) (e : u.qen.ctxs = s.qen.ctxs) :
    s.answered (u.finish c st) c x st := ⟨h.1, fun k hk => (h.2 k hk).trans (by rw [e])⟩

/-- A change elsewhere and then the end of the command: what `answered` says of it. -/
theorem State.finish_after {u : State} {st : Nat} (h : Tbl.find? s.qen.ctxs c = some x) (e : u.qen.ctxs = s.qen.ctxs) :
    s.answered (u.finish c st) c x st := State.answered_trans (State.finish_answered (by rw [e]; exact h)) e

end Sys2Proof.Machine
end

