-- ==== Sys2Proof/Laws/Frames.lean ====
section
/-! SUPPORT. What every operation of the model keeps: the queue, the tick counter, the canonical form of the memories, and the counters that never fall; one lemma per operation, for simp. -/

set_option linter.unusedTactic false
set_option linter.unreachableTactic false
namespace Sys2Proof.Machine

/-- What every operation keeps. -/
structure Kept (s t : State) : Prop where
  pending : t.pending = s.pending
  tick    : t.tbu.tick = s.tbu.tick
  mem     : s.memOk = true → t.memOk = true
  dsn     : s.mxe.dsn ≤ t.mxe.dsn
  psn     : s.mxe.psn ≤ t.mxe.psn
  bsn     : s.mxe.bsn ≤ t.mxe.bsn
  svn     : s.csu.svn ≤ t.csu.svn
  kek     : s.csu.kekGen ≤ t.csu.kekGen

@[simp] theorem Kept.refl (s : State) : Kept s s := ⟨rfl, rfl, id, le_rfl, le_rfl, le_rfl, le_rfl, le_rfl⟩

theorem Kept.trans {s t u : State} (h : Kept s t) (k : Kept t u) : Kept s u :=
  ⟨k.pending.trans h.pending, k.tick.trans h.tick, fun m => k.mem (h.mem m), h.dsn.trans k.dsn, h.psn.trans k.psn, h.bsn.trans k.bsn,
    h.svn.trans k.svn, h.kek.trans k.kek⟩

@[simp] theorem kept_ite {c : Prop} [Decidable c] {s a b : State} (ha : Kept s a) (hb : Kept s b) : Kept s (if c then a else b) := by
  split <;> assumption

theorem kept_foldl {α : Type} (f : State → α → State) (l : List α) (s₀ s : State) (h₀ : Kept s₀ s) (h : ∀ t x, Kept t (f t x)) :
    Kept s₀ (l.foldl f s) := by
  induction l generalizing s with
  | nil => exact h₀
  | cons a l ih => exact ih _ (h₀.trans (h s a))

@[simp] theorem kept_foldl' {α : Type} (f : State → α → State) (l : List α) (s₀ s : State) (h : ∀ t x, Kept t (f t x)) (h₀ : Kept s₀ s) :
    Kept s₀ (l.foldl f s) := kept_foldl f l s₀ s h₀ h

theorem Kept.ofEq {s t : State} (h : t = { s with
    out := t.out, freeCnt := t.freeCnt, timers := t.timers, power := t.power, regf := t.regf, sheet := t.sheet, sheetOld := t.sheetOld
    tnu := t.tnu, dsc := t.dsc, fca := t.fca, cdx := t.cdx, spe := t.spe, hum := t.hum, mgp := t.mgp, cru := t.cru }) : Kept s t := by
  rw [h]; exact ⟨rfl, rfl, id, le_rfl, le_rfl, le_rfl, le_rfl, le_rfl⟩

@[simp] theorem kept_modTimers {s₀ s : State} (f : Timers → Timers) (h : Kept s₀ s) : Kept s₀ (s.modTimers f) := h.trans ⟨rfl, rfl, id, le_rfl, le_rfl, le_rfl, le_rfl, le_rfl⟩
@[simp] theorem kept_modPower {s₀ s : State} (f : Power → Power) (h : Kept s₀ s) : Kept s₀ (s.modPower f) := h.trans ⟨rfl, rfl, id, le_rfl, le_rfl, le_rfl, le_rfl, le_rfl⟩
@[simp] theorem kept_modRegf {s₀ s : State} (f : RegFile → RegFile) (h : Kept s₀ s) : Kept s₀ (s.modRegf f) := h.trans ⟨rfl, rfl, id, le_rfl, le_rfl, le_rfl, le_rfl, le_rfl⟩
@[simp] theorem kept_modTnu {s₀ s : State} (f : Tnu → Tnu) (h : Kept s₀ s) : Kept s₀ (s.modTnu f) := h.trans ⟨rfl, rfl, id, le_rfl, le_rfl, le_rfl, le_rfl, le_rfl⟩
@[simp] theorem kept_modDsc {s₀ s : State} (f : Dsc → Dsc) (h : Kept s₀ s) : Kept s₀ (s.modDsc f) := h.trans ⟨rfl, rfl, id, le_rfl, le_rfl, le_rfl, le_rfl, le_rfl⟩
@[simp] theorem kept_modFca {s₀ s : State} (f : Fca → Fca) (h : Kept s₀ s) : Kept s₀ (s.modFca f) := h.trans ⟨rfl, rfl, id, le_rfl, le_rfl, le_rfl, le_rfl, le_rfl⟩
@[simp] theorem kept_modCdx {s₀ s : State} (f : Cdx → Cdx) (h : Kept s₀ s) : Kept s₀ (s.modCdx f) := h.trans ⟨rfl, rfl, id, le_rfl, le_rfl, le_rfl, le_rfl, le_rfl⟩
@[simp] theorem kept_modSpe {s₀ s : State} (f : Spe → Spe) (h : Kept s₀ s) : Kept s₀ (s.modSpe f) := h.trans ⟨rfl, rfl, id, le_rfl, le_rfl, le_rfl, le_rfl, le_rfl⟩
@[simp] theorem kept_modHum {s₀ s : State} (f : Hum → Hum) (h : Kept s₀ s) : Kept s₀ (s.modHum f) := h.trans ⟨rfl, rfl, id, le_rfl, le_rfl, le_rfl, le_rfl, le_rfl⟩
@[simp] theorem kept_modMgp {s₀ s : State} (f : Mgp → Mgp) (h : Kept s₀ s) : Kept s₀ (s.modMgp f) := h.trans ⟨rfl, rfl, id, le_rfl, le_rfl, le_rfl, le_rfl, le_rfl⟩
@[simp] theorem kept_modCru {s₀ s : State} (f : Cru → Cru) (h : Kept s₀ s) : Kept s₀ (s.modCru f) := h.trans ⟨rfl, rfl, id, le_rfl, le_rfl, le_rfl, le_rfl, le_rfl⟩
@[simp] theorem kept_emit {s₀ s : State} (e : Emission) (h : Kept s₀ s) : Kept s₀ (s.emit e) := h.trans ⟨rfl, rfl, id, le_rfl, le_rfl, le_rfl, le_rfl, le_rfl⟩
@[simp] theorem kept_modBpm {s₀ s : State} (f : Bpm → Bpm) (h0 : Memory.wf 0 s.bpm.sram = true → Memory.wf 0 (f s.bpm).sram = true) (h : Kept s₀ s) : Kept s₀ (s.modBpm f) :=
  h.trans ⟨rfl, rfl, by simp only [State.memOk, State.modBpm, Bool.and_eq_true]; tauto, le_rfl, le_rfl, le_rfl, le_rfl, le_rfl⟩
@[simp] theorem kept_modDmc {s₀ s : State} (f : Dmc → Dmc) (h0 : Memory.wf 0 s.dmc.bytes = true → Memory.wf 0 (f s.dmc).bytes = true) (h : Kept s₀ s) : Kept s₀ (s.modDmc f) :=
  h.trans ⟨rfl, rfl, by simp only [State.memOk, State.modDmc, Bool.and_eq_true]; tauto, le_rfl, le_rfl, le_rfl, le_rfl, le_rfl⟩
@[simp] theorem kept_modCcl {s₀ s : State} (f : Ccl → Ccl) (h0 : Memory.wf 0 s.ccl.script = true → Memory.wf 0 (f s.ccl).script = true) (h1 : Memory.wf 0 s.ccl.tcm = true → Memory.wf 0 (f s.ccl).tcm = true) (h : Kept s₀ s) : Kept s₀ (s.modCcl f) :=
  h.trans ⟨rfl, rfl, by simp only [State.memOk, State.modCcl, Bool.and_eq_true]; tauto, le_rfl, le_rfl, le_rfl, le_rfl, le_rfl⟩
@[simp] theorem kept_modGal {s₀ s : State} (f : Gal → Gal) (h0 : Memory.wf 0 s.gal.mem = true → Memory.wf 0 (f s.gal).mem = true) (h : Kept s₀ s) : Kept s₀ (s.modGal f) :=
  h.trans ⟨rfl, rfl, by simp only [State.memOk, State.modGal, Bool.and_eq_true]; tauto, le_rfl, le_rfl, le_rfl, le_rfl, le_rfl⟩
@[simp] theorem kept_modHlu {s₀ s : State} (f : Hlu → Hlu) (h0 : Memory.wf 0 s.hlu.msix = true → Memory.wf 0 (f s.hlu).msix = true) (h : Kept s₀ s) : Kept s₀ (s.modHlu f) :=
  h.trans ⟨rfl, rfl, by simp only [State.memOk, State.modHlu, Bool.and_eq_true]; tauto, le_rfl, le_rfl, le_rfl, le_rfl, le_rfl⟩
@[simp] theorem kept_modQen {s₀ s : State} (f : Qen → Qen) (h0 : Memory.wf 0 s.qen.rescue.window = true → Memory.wf 0 (f s.qen).rescue.window = true) (h1 : Memory.wf 0 s.qen.staging = true → Memory.wf 0 (f s.qen).staging = true) (h : Kept s₀ s) : Kept s₀ (s.modQen f) :=
  h.trans ⟨rfl, rfl, by simp only [State.memOk, State.modQen, Bool.and_eq_true]; tauto, le_rfl, le_rfl, le_rfl, le_rfl, le_rfl⟩
@[simp] theorem kept_modTbu {s₀ s : State} (f : Tbu → Tbu) (ht : (f s.tbu).tick = s.tbu.tick) (h : Kept s₀ s) : Kept s₀ (s.modTbu f) :=
  h.trans ⟨rfl, ht, id, le_rfl, le_rfl, le_rfl, le_rfl, le_rfl⟩
@[simp] theorem kept_modMxe {s₀ s : State} (f : Mxe → Mxe) (hd : s.mxe.dsn ≤ (f s.mxe).dsn) (hp : s.mxe.psn ≤ (f s.mxe).psn)
    (hb : s.mxe.bsn ≤ (f s.mxe).bsn) (h : Kept s₀ s) : Kept s₀ (s.modMxe f) :=
  h.trans ⟨rfl, rfl, id, hd, hp, hb, le_rfl, le_rfl⟩
@[simp] theorem kept_modCsu {s₀ s : State} (f : Csu → Csu) (hm : Memory.wf 0xFF s.csu.flash = true → Memory.wf 0xFF (f s.csu).flash = true)
    (hs : s.csu.svn ≤ (f s.csu).svn) (hk : s.csu.kekGen ≤ (f s.csu).kekGen) (h : Kept s₀ s) : Kept s₀ (s.modCsu f) :=
  h.trans ⟨rfl, rfl, by simp only [State.memOk, State.modCsu, Bool.and_eq_true]; tauto, le_rfl, le_rfl, le_rfl, hs, hk⟩
@[simp] theorem kept_setSheet {s₀ s : State} (t : List (Nat × Nat)) (h : Kept s₀ s) : Kept s₀ (s.setSheet t) := h.trans ⟨rfl, rfl, id, le_rfl, le_rfl, le_rfl, le_rfl, le_rfl⟩
@[simp] theorem kept_setSheetOld {s₀ s : State} (t : List (Nat × Option Nat)) (h : Kept s₀ s) : Kept s₀ (s.setSheetOld t) := h.trans ⟨rfl, rfl, id, le_rfl, le_rfl, le_rfl, le_rfl, le_rfl⟩
@[simp] theorem kept_drawn {s₀ s : State} (h : Kept s₀ s) : Kept s₀ s.drawn := h.trans ⟨rfl, rfl, id, le_rfl, le_rfl, le_rfl, le_rfl, le_rfl⟩
@[simp] theorem kept_putSheet {s₀ s : State} (o : Obj) (i j v : Nat) (h : Kept s₀ s) : Kept s₀ (s.putSheet o i j v) := h.trans ⟨rfl, rfl, id, le_rfl, le_rfl, le_rfl, le_rfl, le_rfl⟩
@[simp] theorem kept_setObj {s₀ s : State} (o : Obj) (v : Nat) (h : Kept s₀ s) : Kept s₀ (s.setObj o v) := h.trans ⟨rfl, rfl, id, le_rfl, le_rfl, le_rfl, le_rfl, le_rfl⟩

/-! Implications between canonical forms, as simp meets them. -/

@[simp] theorem imp_wf_write {P : Prop} {d : Byte} {m : List Host.Cell} (a : Nat) (b : Byte) (h : P → Memory.wf d m = true) :
    (P → Memory.wf d (Memory.write d m a b) = true) ↔ True := ⟨fun _ => trivial, fun _ p => Memory.wf_write d m a b (h p)⟩
@[simp] theorem imp_wf_writeAll {P : Prop} {d : Byte} {m : List Host.Cell} (a : Nat) (bs : List Byte) (h : P → Memory.wf d m = true) :
    (P → Memory.wf d (Memory.writeAll d m a bs) = true) ↔ True := ⟨fun _ => trivial, fun _ p => Memory.wf_writeAll d bs m a (h p)⟩
@[simp] theorem imp_wf_clearRange {P : Prop} {d : Byte} {m : List Host.Cell} (a n : Nat) (h : P → Memory.wf d m = true) :
    (P → Memory.wf d (Memory.clearRange m a n) = true) ↔ True := ⟨fun _ => trivial, fun _ p => Memory.wf_clearRange d m a n (h p)⟩
@[simp] theorem imp_wf_filter {P : Prop} {d : Byte} {m : List Host.Cell} (q : Host.Cell → Bool) (h : P → Memory.wf d m = true) :
    (P → Memory.wf d (m.filter q) = true) ↔ True := ⟨fun _ => trivial, fun _ p => Memory.wf_filter d q m (h p)⟩
@[simp] theorem imp_wf_ite {P : Prop} {d : Byte} {c : Prop} [Decidable c] {m m' : List Host.Cell} (h : P → Memory.wf d m = true)
    (h' : P → Memory.wf d m' = true) : (P → Memory.wf d (if c then m else m') = true) ↔ True :=
  ⟨fun _ => trivial, fun _ p => by split <;> simp_all⟩
theorem Memory.wf_ringWrite (m : List Host.Cell) (w : Nat) (bs : List Byte) (h : Memory.wf 0 m = true) : Memory.wf 0 (ringWrite m w bs) = true := by
  induction bs generalizing m w with
  | nil => exact h
  | cons b bs ih => exact ih _ _ (Memory.wf_write 0 _ _ _ h)
@[simp] theorem imp_wf_ringWrite {P : Prop} {m : List Host.Cell} (w : Nat) (bs : List Byte) (h : P → Memory.wf 0#8 m = true) :
    (P → Memory.wf 0#8 (ringWrite m w bs) = true) ↔ True := ⟨fun _ => trivial, fun _ p => Memory.wf_ringWrite m w bs (h p)⟩
@[simp] theorem imp_wf_putBytes {P : Prop} {m : List Host.Cell} (a : Nat) (bs : List (Nat × Byte)) (h : P → Memory.wf 0#8 m = true) :
    (P → Memory.wf 0#8 (putBytes 0#8 m a bs) = true) ↔ True := ⟨fun _ => trivial, fun _ p => Memory.wf_foldl 0 _ _ bs m (h p)⟩
@[simp] theorem imp_wf_sramWrite {P : Prop} {b : Bpm} (a : Nat) (bs : List Byte) (h : P → Memory.wf 0#8 b.sram = true) :
    (P → Memory.wf 0#8 (b.sramWrite a bs).sram = true) ↔ True := ⟨fun _ => trivial, fun _ p => Memory.wf_writeAll 0 bs _ _ (h p)⟩
@[simp] theorem imp_wf_eraseSector {P : Prop} {u : Csu} (n : Nat) (h : P → Memory.wf 255#8 u.flash = true) :
    (P → Memory.wf 255#8 (u.eraseSector n).flash = true) ↔ True := ⟨fun _ => trivial, fun _ p => Memory.wf_clearRange 0xFF _ _ _ (h p)⟩

theorem Bpm.sramWrite_wf (b : Bpm) (off : Nat) (bytes : List Byte) (h : Memory.wf 0 b.sram = true) :
    Memory.wf 0 (b.sramWrite off bytes).sram = true := Memory.wf_writeAll 0 _ _ _ h
@[simp] theorem Qen.modCtrl_rescue_window (q : Qen) (fn : Nat) (f : Controller → Controller) : (Qen.modCtrl q fn f).rescue.window = q.rescue.window := by
  unfold Qen.modCtrl
  (repeat' (first | rfl | (simp; done) | split | dsimp only))
@[simp] theorem Qen.modCtrl_staging (q : Qen) (fn : Nat) (f : Controller → Controller) : (Qen.modCtrl q fn f).staging = q.staging := by
  unfold Qen.modCtrl
  (repeat' (first | rfl | (simp; done) | split | dsimp only))
@[simp] theorem Qen.modCtx_rescue_window (q : Qen) (c : Nat) (f : Ctx → Ctx) : (Qen.modCtx q c f).rescue.window = q.rescue.window := by
  unfold Qen.modCtx
  (repeat' (first | rfl | (simp; done) | split | dsimp only))
@[simp] theorem Qen.modCtx_staging (q : Qen) (c : Nat) (f : Ctx → Ctx) : (Qen.modCtx q c f).staging = q.staging := by
  unfold Qen.modCtx
  (repeat' (first | rfl | (simp; done) | split | dsimp only))
@[simp] theorem Mxe.journalLose_dsn (mb : Mxe) (a b : Bool) : (Mxe.journalLose mb a b).dsn = mb.dsn := by
  unfold Mxe.journalLose
  (repeat' (first | rfl | (simp; done) | split | dsimp only))
@[simp] theorem Mxe.journalLose_psn (mb : Mxe) (a b : Bool) : (Mxe.journalLose mb a b).psn = mb.psn := by
  unfold Mxe.journalLose
  (repeat' (first | rfl | (simp; done) | split | dsimp only))
@[simp] theorem Mxe.journalLose_bsn (mb : Mxe) (a b : Bool) : (Mxe.journalLose mb a b).bsn = mb.bsn := by
  unfold Mxe.journalLose
  (repeat' (first | rfl | (simp; done) | split | dsimp only))
@[simp] theorem Mxe.modBand_dsn (mb : Mxe) (b : Nat) (f : Band → Band) : (Mxe.modBand mb b f).dsn = mb.dsn := by
  unfold Mxe.modBand
  (repeat' (first | rfl | (simp; done) | split | dsimp only))
@[simp] theorem Mxe.modBand_psn (mb : Mxe) (b : Nat) (f : Band → Band) : (Mxe.modBand mb b f).psn = mb.psn := by
  unfold Mxe.modBand
  (repeat' (first | rfl | (simp; done) | split | dsimp only))
@[simp] theorem Mxe.modBand_bsn (mb : Mxe) (b : Nat) (f : Band → Band) : (Mxe.modBand mb b f).bsn = mb.bsn := by
  unfold Mxe.modBand
  (repeat' (first | rfl | (simp; done) | split | dsimp only))
@[simp] theorem Mxe.addJob_dsn (mb : Mxe) (nsid g : Nat) (src : Loc) (band dsn : Nat) (cls : OpClass) (fold high lost : Bool) : (Mxe.addJob mb nsid g src band dsn cls fold high lost).dsn = mb.dsn := by
  unfold Mxe.addJob
  (repeat' (first | rfl | (simp; done) | split | dsimp only))
@[simp] theorem Mxe.addJob_psn (mb : Mxe) (nsid g : Nat) (src : Loc) (band dsn : Nat) (cls : OpClass) (fold high lost : Bool) : (Mxe.addJob mb nsid g src band dsn cls fold high lost).psn = mb.psn := by
  unfold Mxe.addJob
  (repeat' (first | rfl | (simp; done) | split | dsimp only))
@[simp] theorem Mxe.addJob_bsn (mb : Mxe) (nsid g : Nat) (src : Loc) (band dsn : Nat) (cls : OpClass) (fold high lost : Bool) : (Mxe.addJob mb nsid g src band dsn cls fold high lost).bsn = mb.bsn := by
  unfold Mxe.addJob
  (repeat' (first | rfl | (simp; done) | split | dsimp only))
@[simp] theorem Mxe.eraseBegin_dsn (mb : Mxe) (n : Nat) : (Mxe.eraseBegin mb n).dsn = mb.dsn := by
  unfold Mxe.eraseBegin
  (repeat' (first | rfl | (simp; done) | split | dsimp only))
@[simp] theorem Mxe.eraseBegin_psn (mb : Mxe) (n : Nat) : (Mxe.eraseBegin mb n).psn = mb.psn := by
  unfold Mxe.eraseBegin
  (repeat' (first | rfl | (simp; done) | split | dsimp only))
@[simp] theorem Mxe.eraseBegin_bsn (mb : Mxe) (n : Nat) : (Mxe.eraseBegin mb n).bsn = mb.bsn := by
  unfold Mxe.eraseBegin
  (repeat' (first | rfl | (simp; done) | split | dsimp only))
@[simp] theorem Mxe.eraseIssued_dsn (mb : Mxe) (n die : Nat) : (Mxe.eraseIssued mb n die).dsn = mb.dsn := by
  unfold Mxe.eraseIssued
  (repeat' (first | rfl | (simp; done) | split | dsimp only))
@[simp] theorem Mxe.eraseIssued_psn (mb : Mxe) (n die : Nat) : (Mxe.eraseIssued mb n die).psn = mb.psn := by
  unfold Mxe.eraseIssued
  (repeat' (first | rfl | (simp; done) | split | dsimp only))
@[simp] theorem Mxe.eraseIssued_bsn (mb : Mxe) (n die : Nat) : (Mxe.eraseIssued mb n die).bsn = mb.bsn := by
  unfold Mxe.eraseIssued
  (repeat' (first | rfl | (simp; done) | split | dsimp only))
@[simp] theorem Bpm.modPool_sram (b : Bpm) (k : Nat) (f : Pool → Pool) : (Bpm.modPool b k f).sram = b.sram := by
  unfold Bpm.modPool
  (repeat' (first | rfl | (simp; done) | split | dsimp only))
@[simp] theorem Bpm.putDesc_sram (b : Bpm) (k i : Nat) (d : BufDesc) : (Bpm.putDesc b k i d).sram = b.sram := by
  unfold Bpm.putDesc
  (repeat' (first | rfl | (simp; done) | split | dsimp only))
@[simp] theorem Bpm.hold_sram (b : Bpm) (k i unit : Nat) (slice : Option Nat) : (Bpm.hold b k i unit slice).sram = b.sram := by
  unfold Bpm.hold
  (repeat' (first | rfl | (simp; done) | split | dsimp only))
@[simp] theorem Bpm.link_sram (b : Bpm) (prev : Option (BitVec 24)) (h : BitVec 24) : (Bpm.link b prev h).sram = b.sram := by
  unfold Bpm.link
  (repeat' (first | rfl | (simp; done) | split | dsimp only))
@[simp] theorem Bpm.enqueue_sram (b : Bpm) (w : BufWaiter) : (Bpm.enqueue b w).sram = b.sram := by
  unfold Bpm.enqueue
  (repeat' (first | rfl | (simp; done) | split | dsimp only))
@[simp] theorem Bpm.poisonWord_sram (b : Bpm) (off : Nat) : (Bpm.poisonWord b off).sram = b.sram := by
  unfold Bpm.poisonWord
  (repeat' (first | rfl | (simp; done) | split | dsimp only))
@[simp] theorem Dmc.retTick_bytes (mb : Dmc) : (Dmc.retTick mb).bytes = mb.bytes := by
  unfold Dmc.retTick
  (repeat' (first | rfl | (simp; done) | split | dsimp only))
@[simp] theorem Ccl.setSt_script (c : Ccl) (k : Cluster) (st : ClusterState) : (Ccl.setSt c k st).script = c.script := by
  unfold Ccl.setSt
  (repeat' (first | rfl | (simp; done) | split | dsimp only))
@[simp] theorem Ccl.setSt_tcm (c : Ccl) (k : Cluster) (st : ClusterState) : (Ccl.setSt c k st).tcm = c.tcm := by
  unfold Ccl.setSt
  (repeat' (first | rfl | (simp; done) | split | dsimp only))
@[simp] theorem Ccl.addFail_script (c : Ccl) (k : Cluster) (t : Dword) : (Ccl.addFail c k t).script = c.script := by
  unfold Ccl.addFail
  (repeat' (first | rfl | (simp; done) | split | dsimp only))
@[simp] theorem Ccl.addFail_tcm (c : Ccl) (k : Cluster) (t : Dword) : (Ccl.addFail c k t).tcm = c.tcm := by
  unfold Ccl.addFail
  (repeat' (first | rfl | (simp; done) | split | dsimp only))
@[simp] theorem Ccl.scriptPut_tcm (c : Ccl) (bytes : List Byte) : (Ccl.scriptPut c bytes).tcm = c.tcm := by
  unfold Ccl.scriptPut
  (repeat' (first | rfl | (simp; done) | split | dsimp only))
@[simp] theorem Ccl.soloRelease_script (c : Ccl) : (Ccl.soloRelease c).script = c.script := by
  unfold Ccl.soloRelease
  (repeat' (first | rfl | (simp; done) | split | dsimp only))
@[simp] theorem Ccl.soloRelease_tcm (c : Ccl) : (Ccl.soloRelease c).tcm = c.tcm := by
  unfold Ccl.soloRelease
  (repeat' (first | rfl | (simp; done) | split | dsimp only))
@[simp] theorem Mxe.truncate_dsn (mb : Mxe) : (Mxe.truncate mb).dsn = mb.dsn := by
  unfold Mxe.truncate
  (repeat' (first | rfl | (simp; done) | split | dsimp only))
@[simp] theorem Mxe.truncate_psn (mb : Mxe) : (Mxe.truncate mb).psn = mb.psn := by
  unfold Mxe.truncate
  (repeat' (first | rfl | (simp; done) | split | dsimp only))
@[simp] theorem Mxe.truncate_bsn (mb : Mxe) : (Mxe.truncate mb).bsn = mb.bsn := by
  unfold Mxe.truncate
  (repeat' (first | rfl | (simp; done) | split | dsimp only))
@[simp] theorem Mxe.trimSweep_dsn (mb : Mxe) (live : TrimRecord → Bool) : (Mxe.trimSweep mb live).dsn = mb.dsn := by
  unfold Mxe.trimSweep
  (repeat' (first | rfl | (simp; done) | split | dsimp only))
@[simp] theorem Mxe.trimSweep_psn (mb : Mxe) (live : TrimRecord → Bool) : (Mxe.trimSweep mb live).psn = mb.psn := by
  unfold Mxe.trimSweep
  (repeat' (first | rfl | (simp; done) | split | dsimp only))
@[simp] theorem Mxe.trimSweep_bsn (mb : Mxe) (live : TrimRecord → Bool) : (Mxe.trimSweep mb live).bsn = mb.bsn := by
  unfold Mxe.trimSweep
  (repeat' (first | rfl | (simp; done) | split | dsimp only))
@[simp] theorem Mxe.checkpoint_dsn (mb : Mxe) (now : Dword) : (Mxe.checkpoint mb now).dsn = mb.dsn := by
  unfold Mxe.checkpoint
  (repeat' (first | rfl | (simp; done) | split | dsimp only))
@[simp] theorem Mxe.checkpoint_psn (mb : Mxe) (now : Dword) : (Mxe.checkpoint mb now).psn = mb.psn := by
  unfold Mxe.checkpoint
  (repeat' (first | rfl | (simp; done) | split | dsimp only))
@[simp] theorem Mxe.checkpoint_bsn (mb : Mxe) (now : Dword) : (Mxe.checkpoint mb now).bsn = mb.bsn := by
  unfold Mxe.checkpoint
  (repeat' (first | rfl | (simp; done) | split | dsimp only))
@[simp] theorem Qen.turnTaken_rescue_window (q : Qen) (t : Turn) (k : Nat) (x : Sq) (n : Nat) : (Qen.turnTaken q t k x n).rescue.window = q.rescue.window := by
  unfold Qen.turnTaken
  (repeat' (first | rfl | (simp; done) | split | dsimp only))
@[simp] theorem Qen.turnTaken_staging (q : Qen) (t : Turn) (k : Nat) (x : Sq) (n : Nat) : (Qen.turnTaken q t k x n).staging = q.staging := by
  unfold Qen.turnTaken
  (repeat' (first | rfl | (simp; done) | split | dsimp only))
@[simp] theorem Hlu.dropDma_msix (h : Hlu) (c : Nat) : (Hlu.dropDma h c).msix = h.msix := by
  unfold Hlu.dropDma
  (repeat' (first | rfl | (simp; done) | split | dsimp only))
@[simp] theorem Mxe.withdraw_dsn (mb : Mxe) (c dsn : Nat) : (Mxe.withdraw mb c dsn).dsn = mb.dsn := by
  unfold Mxe.withdraw
  (repeat' (first | rfl | (simp; done) | split | dsimp only))
@[simp] theorem Mxe.withdraw_psn (mb : Mxe) (c dsn : Nat) : (Mxe.withdraw mb c dsn).psn = mb.psn := by
  unfold Mxe.withdraw
  (repeat' (first | rfl | (simp; done) | split | dsimp only))
@[simp] theorem Mxe.withdraw_bsn (mb : Mxe) (c dsn : Nat) : (Mxe.withdraw mb c dsn).bsn = mb.bsn := by
  unfold Mxe.withdraw
  (repeat' (first | rfl | (simp; done) | split | dsimp only))
@[simp] theorem Qen.dropQueues_rescue_window (q : Qen) (p : Nat → Nat → Nat → Bool) : (Qen.dropQueues q p).rescue.window = q.rescue.window := by
  unfold Qen.dropQueues
  (repeat' (first | rfl | (simp; done) | split | dsimp only))
@[simp] theorem Qen.dropQueues_staging (q : Qen) (p : Nat → Nat → Nat → Bool) : (Qen.dropQueues q p).staging = q.staging := by
  unfold Qen.dropQueues
  (repeat' (first | rfl | (simp; done) | split | dsimp only))
@[simp] theorem Qen.adminQueues_rescue_window (q : Qen) (fn : Nat) : (Qen.adminQueues q fn).rescue.window = q.rescue.window := by
  unfold Qen.adminQueues
  (repeat' (first | rfl | (simp; done) | split | dsimp only))
@[simp] theorem Qen.adminQueues_staging (q : Qen) (fn : Nat) : (Qen.adminQueues q fn).staging = q.staging := by
  unfold Qen.adminQueues
  (repeat' (first | rfl | (simp; done) | split | dsimp only))
@[simp] theorem Qen.dropActivation_rescue_window (q : Qen) : (Qen.dropActivation q).rescue.window = q.rescue.window := by
  unfold Qen.dropActivation
  (repeat' (first | rfl | (simp; done) | split | dsimp only))
@[simp] theorem Qen.dropActivation_staging (q : Qen) : (Qen.dropActivation q).staging = q.staging := by
  unfold Qen.dropActivation
  (repeat' (first | rfl | (simp; done) | split | dsimp only))
@[simp] theorem Csu.eraseSector_svn (u : Csu) (sector : Nat) : (Csu.eraseSector u sector).svn = u.svn := by
  unfold Csu.eraseSector
  (repeat' (first | rfl | (simp; done) | split | dsimp only))
@[simp] theorem Csu.eraseSector_kekGen (u : Csu) (sector : Nat) : (Csu.eraseSector u sector).kekGen = u.kekGen := by
  unfold Csu.eraseSector
  (repeat' (first | rfl | (simp; done) | split | dsimp only))
@[simp] theorem Csu.modPort_flash (u : Csu) (k : Cluster) (f : CsuPort → CsuPort) : (Csu.modPort u k f).flash = u.flash := by
  unfold Csu.modPort
  (repeat' (first | rfl | (simp; done) | split | dsimp only))
@[simp] theorem Csu.modPort_svn (u : Csu) (k : Cluster) (f : CsuPort → CsuPort) : (Csu.modPort u k f).svn = u.svn := by
  unfold Csu.modPort
  (repeat' (first | rfl | (simp; done) | split | dsimp only))
@[simp] theorem Csu.modPort_kekGen (u : Csu) (k : Cluster) (f : CsuPort → CsuPort) : (Csu.modPort u k f).kekGen = u.kekGen := by
  unfold Csu.modPort
  (repeat' (first | rfl | (simp; done) | split | dsimp only))
@[simp] theorem Csu.fetch_flash (u : Csu) (k : Cluster) (pair a : Nat) : (Csu.fetch u k pair a).flash = u.flash := by
  unfold Csu.fetch
  (repeat' (first | rfl | (simp; done) | split | dsimp only))
@[simp] theorem Csu.fetch_svn (u : Csu) (k : Cluster) (pair a : Nat) : (Csu.fetch u k pair a).svn = u.svn := by
  unfold Csu.fetch
  (repeat' (first | rfl | (simp; done) | split | dsimp only))
@[simp] theorem Csu.fetch_kekGen (u : Csu) (k : Cluster) (pair a : Nat) : (Csu.fetch u k pair a).kekGen = u.kekGen := by
  unfold Csu.fetch
  (repeat' (first | rfl | (simp; done) | split | dsimp only))
@[simp] theorem Csu.suspCount_flash (u : Csu) : (Csu.suspCount u).flash = u.flash := by
  unfold Csu.suspCount
  (repeat' (first | rfl | (simp; done) | split | dsimp only))
@[simp] theorem Csu.suspCount_svn (u : Csu) : (Csu.suspCount u).svn = u.svn := by
  unfold Csu.suspCount
  (repeat' (first | rfl | (simp; done) | split | dsimp only))
@[simp] theorem Csu.suspCount_kekGen (u : Csu) : (Csu.suspCount u).kekGen = u.kekGen := by
  unfold Csu.suspCount
  (repeat' (first | rfl | (simp; done) | split | dsimp only))
@[simp] theorem Csu.putWp_flash (u : Csu) (n : Nat) (on : Bool) : (Csu.putWp u n on).flash = u.flash := by
  unfold Csu.putWp
  (repeat' (first | rfl | (simp; done) | split | dsimp only))
@[simp] theorem Csu.putWp_svn (u : Csu) (n : Nat) (on : Bool) : (Csu.putWp u n on).svn = u.svn := by
  unfold Csu.putWp
  (repeat' (first | rfl | (simp; done) | split | dsimp only))
@[simp] theorem Csu.putWp_kekGen (u : Csu) (n : Nat) (on : Bool) : (Csu.putWp u n on).kekGen = u.kekGen := by
  unfold Csu.putWp
  (repeat' (first | rfl | (simp; done) | split | dsimp only))
@[simp] theorem Csu.slideAfterLoss_svn (u : Csu) : (Csu.slideAfterLoss u).svn = u.svn := by
  unfold Csu.slideAfterLoss
  (repeat' (first | rfl | (simp; done) | split | dsimp only))
@[simp] theorem Csu.slideAfterLoss_kekGen (u : Csu) : (Csu.slideAfterLoss u).kekGen = u.kekGen := by
  unfold Csu.slideAfterLoss
  (repeat' (first | rfl | (simp; done) | split | dsimp only))
@[simp] theorem Csu.run_flash (u : Csu) (t : List Byte) : (Csu.run u t).flash = u.flash := by
  unfold Csu.run
  (repeat' (first | rfl | (simp; done) | split | dsimp only))
@[simp] theorem Csu.run_svn (u : Csu) (t : List Byte) : (Csu.run u t).svn = u.svn := by
  unfold Csu.run
  (repeat' (first | rfl | (simp; done) | split | dsimp only))
@[simp] theorem Csu.run_kekGen (u : Csu) (t : List Byte) : (Csu.run u t).kekGen = u.kekGen := by
  unfold Csu.run
  (repeat' (first | rfl | (simp; done) | split | dsimp only))
@[simp] theorem Qen.setPp_rescue_window (q : Qen) (on : Bool) : (Qen.setPp q on).rescue.window = q.rescue.window := by
  unfold Qen.setPp
  (repeat' (first | rfl | (simp; done) | split | dsimp only))
@[simp] theorem Qen.setPp_staging (q : Qen) (on : Bool) : (Qen.setPp q on).staging = q.staging := by
  unfold Qen.setPp
  (repeat' (first | rfl | (simp; done) | split | dsimp only))
@[simp] theorem Qen.dropStaged_rescue_window (q : Qen) : (Qen.dropStaged q).rescue.window = q.rescue.window := by
  unfold Qen.dropStaged
  (repeat' (first | rfl | (simp; done) | split | dsimp only))
@[simp] theorem Mxe.orphaned_dsn (mb : Mxe) : (Mxe.orphaned mb).dsn = mb.dsn := by
  unfold Mxe.orphaned
  (repeat' (first | rfl | (simp; done) | split | dsimp only))
@[simp] theorem Mxe.orphaned_psn (mb : Mxe) : (Mxe.orphaned mb).psn = mb.psn := by
  unfold Mxe.orphaned
  (repeat' (first | rfl | (simp; done) | split | dsimp only))
@[simp] theorem Mxe.orphaned_bsn (mb : Mxe) : (Mxe.orphaned mb).bsn = mb.bsn := by
  unfold Mxe.orphaned
  (repeat' (first | rfl | (simp; done) | split | dsimp only))
@[simp] theorem Dmc.atReset_bytes (mb : Dmc) : (Dmc.atReset mb).bytes = mb.bytes := by
  unfold Dmc.atReset
  (repeat' (first | rfl | (simp; done) | split | dsimp only))
@[simp] theorem Mxe.forget_dsn (mb : Mxe) : (Mxe.forget mb).dsn = mb.dsn := by
  unfold Mxe.forget
  (repeat' (first | rfl | (simp; done) | split | dsimp only))
@[simp] theorem Mxe.forget_psn (mb : Mxe) : (Mxe.forget mb).psn = mb.psn := by
  unfold Mxe.forget
  (repeat' (first | rfl | (simp; done) | split | dsimp only))
@[simp] theorem Mxe.forget_bsn (mb : Mxe) : (Mxe.forget mb).bsn = mb.bsn := by
  unfold Mxe.forget
  (repeat' (first | rfl | (simp; done) | split | dsimp only))
@[simp] theorem Hlu.mapTags_msix (h : Hlu) (f : Tag → Tag) : (Hlu.mapTags h f).msix = h.msix := by
  unfold Hlu.mapTags
  (repeat' (first | rfl | (simp; done) | split | dsimp only))
@[simp] theorem Mxe.loseMap_dsn (mb : Mxe) : (Mxe.loseMap mb).dsn = mb.dsn := by
  unfold Mxe.loseMap
  (repeat' (first | rfl | (simp; done) | split | dsimp only))
@[simp] theorem Mxe.loseMap_psn (mb : Mxe) : (Mxe.loseMap mb).psn = mb.psn := by
  unfold Mxe.loseMap
  (repeat' (first | rfl | (simp; done) | split | dsimp only))
@[simp] theorem Mxe.loseMap_bsn (mb : Mxe) : (Mxe.loseMap mb).bsn = mb.bsn := by
  unfold Mxe.loseMap
  (repeat' (first | rfl | (simp; done) | split | dsimp only))
@[simp] theorem Mxe.loadAll_dsn (mb : Mxe) : (Mxe.loadAll mb).dsn = mb.dsn := by
  unfold Mxe.loadAll
  (repeat' (first | rfl | (simp; done) | split | dsimp only))
@[simp] theorem Mxe.loadAll_psn (mb : Mxe) : (Mxe.loadAll mb).psn = mb.psn := by
  unfold Mxe.loadAll
  (repeat' (first | rfl | (simp; done) | split | dsimp only))
@[simp] theorem Mxe.loadAll_bsn (mb : Mxe) : (Mxe.loadAll mb).bsn = mb.bsn := by
  unfold Mxe.loadAll
  (repeat' (first | rfl | (simp; done) | split | dsimp only))
@[simp] theorem Ccl.releaseOther_script (c : Ccl) : (Ccl.releaseOther c).script = c.script := by
  unfold Ccl.releaseOther
  (repeat' (first | rfl | (simp; done) | split | dsimp only))
@[simp] theorem Ccl.releaseOther_tcm (c : Ccl) : (Ccl.releaseOther c).tcm = c.tcm := by
  unfold Ccl.releaseOther
  (repeat' (first | rfl | (simp; done) | split | dsimp only))
theorem Ccl.foldl_keep {α : Type} (f : Ccl → α → Ccl) (l : List α) (c : Ccl) (h : ∀ c x, (f c x).script = c.script ∧ (f c x).tcm = c.tcm) :
    (l.foldl f c).script = c.script ∧ (l.foldl f c).tcm = c.tcm := by
  induction l generalizing c with
  | nil => exact ⟨rfl, rfl⟩
  | cons a l ih => exact ⟨(ih _).1.trans (h c a).1, (ih _).2.trans (h c a).2⟩
theorem Ccl.leaveReset_keep (c : Ccl) : (Ccl.leaveReset c).script = c.script ∧ (Ccl.leaveReset c).tcm = c.tcm :=
  Ccl.foldl_keep (fun (c : Ccl) (k : Cluster) => if c.st k == .reset then c.setSt k .selftest else c) c.leave c fun c x => by
    show (if c.st x == .reset then c.setSt x .selftest else c).script = c.script ∧ (if c.st x == .reset then c.setSt x .selftest else c).tcm = c.tcm
    split
    · exact ⟨Ccl.setSt_script _ _ _, Ccl.setSt_tcm _ _ _⟩
    · exact ⟨rfl, rfl⟩
@[simp] theorem Ccl.leaveReset_script (c : Ccl) : (Ccl.leaveReset c).script = c.script := (Ccl.leaveReset_keep c).1
@[simp] theorem Ccl.leaveReset_tcm (c : Ccl) : (Ccl.leaveReset c).tcm = c.tcm := (Ccl.leaveReset_keep c).2
theorem Dmc.store_wf (m : Dmc) (data : BitVec 512) (mask : BitVec 64) (a : Nat) (h : Memory.wf 0 m.bytes = true) :
    Memory.wf 0 (m.store data mask a).bytes = true := by
  simp only [Dmc.store]
  exact Memory.wf_foldl 0 _ _ _ _ h
theorem Dmc.stores_wf (data : BitVec 512) (mask : BitVec 64) (l : List Nat) (m : Dmc) (h : Memory.wf 0 m.bytes = true) :
    Memory.wf 0 (l.foldl (fun m a => m.store data mask a) m).bytes = true := by
  induction l generalizing m with
  | nil => exact h
  | cons a l ih => exact ih _ (m.store_wf data mask a h)
@[simp] theorem imp_wf_stores {P : Prop} {m : Dmc} (data : BitVec 512) (mask : BitVec 64) (l : List Nat) (h : P → Memory.wf 0#8 m.bytes = true) :
    (P → Memory.wf 0#8 (l.foldl (fun m a => m.store data mask a) m).bytes = true) ↔ True := ⟨fun _ => trivial, fun _ p => Dmc.stores_wf data mask l m (h p)⟩
theorem Dmc.foldl_keep {α : Type} (f : Dmc → α → Dmc) (l : List α) (m : Dmc) (h : ∀ m x, (f m x).bytes = m.bytes) : (l.foldl f m).bytes = m.bytes := by
  induction l generalizing m with
  | nil => rfl
  | cons a l ih => exact (ih _).trans (h m a)
@[simp] theorem Dmc.enter_bytes (m : Dmc) : (Dmc.enter m).bytes = m.bytes := Dmc.foldl_keep _ _ _ fun m x => by split <;> rfl
theorem Dmc.copyRange_wf (m : Dmc) (e : RetEntry) (h : Memory.wf 0 m.bytes = true) : Memory.wf 0 (m.copyRange e).bytes = true := by
  simp only [Dmc.copyRange]
  exact Memory.wf_foldl 0 _ _ _ _ (Memory.wf_clearRange 0 _ _ _ h)
@[simp] theorem imp_wf_copyRange {P : Prop} {m : Dmc} (e : RetEntry) (h : P → Memory.wf 0#8 m.bytes = true) :
    (P → Memory.wf 0#8 (m.copyRange e).bytes = true) ↔ True := ⟨fun _ => trivial, fun _ p => m.copyRange_wf e (h p)⟩
theorem Csu.eraseSector_wf (u : Csu) (sector : Nat) (h : Memory.wf 0xFF u.flash = true) : Memory.wf 0xFF (u.eraseSector sector).flash = true :=
  Memory.wf_clearRange 0xFF _ _ _ h
theorem Csu.slideAfterLoss_wf (u : Csu) (h : Memory.wf 0xFF u.flash = true) : Memory.wf 0xFF u.slideAfterLoss.flash = true := by
  unfold Csu.slideAfterLoss
  split
  · exact h
  · exact Memory.wf_clearRange 0xFF _ _ _ h
  · exact Memory.wf_clearRange 0xFF _ _ _ h
@[simp] theorem imp_wf_slideAfterLoss {P : Prop} {u : Csu} (h : P → Memory.wf 255#8 u.flash = true) :
    (P → Memory.wf 255#8 u.slideAfterLoss.flash = true) ↔ True := ⟨fun _ => trivial, fun _ p => Csu.slideAfterLoss_wf u (h p)⟩
theorem Csu.foldl_keep {α : Type} (f : Csu → α → Csu) (l : List α) (u : Csu)
    (h : ∀ u x, (Memory.wf 0xFF u.flash = true → Memory.wf 0xFF (f u x).flash = true) ∧ (f u x).svn = u.svn ∧ (f u x).kekGen = u.kekGen) :
    (Memory.wf 0xFF u.flash = true → Memory.wf 0xFF (l.foldl f u).flash = true) ∧ (l.foldl f u).svn = u.svn ∧ (l.foldl f u).kekGen = u.kekGen := by
  induction l generalizing u with
  | nil => exact ⟨id, rfl, rfl⟩
  | cons a l ih => exact ⟨fun w => (ih _).1 ((h u a).1 w), (ih _).2.1.trans (h u a).2.1, (ih _).2.2.trans (h u a).2.2⟩
theorem Csu.programBanks_keep (u : Csu) (t : List Byte) :
    (Memory.wf 0xFF u.flash = true → Memory.wf 0xFF (u.programBanks t).flash = true) ∧ (u.programBanks t).svn = u.svn ∧ (u.programBanks t).kekGen = u.kekGen := by
  unfold Csu.programBanks
  dsimp only
  split
  · refine ⟨fun w => (Csu.foldl_keep _ _ _ ?_).1 (Memory.wf_writeAll _ _ _ _ (Memory.wf_clearRange _ _ _ _ w)), (Csu.foldl_keep _ _ _ ?_).2.1, (Csu.foldl_keep _ _ _ ?_).2.2⟩ <;>
      (intro u x; split <;> simp (maxDischargeDepth := 60))
  · exact ⟨fun w => Memory.wf_writeAll _ _ _ _ (Memory.wf_clearRange _ _ _ _ w), rfl, rfl⟩
@[simp] theorem imp_wf_programBanks {P : Prop} {u : Csu} (t : List Byte) (h : P → Memory.wf 255#8 u.flash = true) :
    (P → Memory.wf 255#8 (u.programBanks t).flash = true) ↔ True := ⟨fun _ => trivial, fun _ p => (Csu.programBanks_keep u t).1 (h p)⟩
@[simp] theorem Csu.programBanks_svn (u : Csu) (t : List Byte) : (u.programBanks t).svn = u.svn := (Csu.programBanks_keep u t).2.1
@[simp] theorem Csu.programBanks_kekGen (u : Csu) (t : List Byte) : (u.programBanks t).kekGen = u.kekGen := (Csu.programBanks_keep u t).2.2
@[simp] theorem Qen.dropStaged_staging (q : Qen) : (Qen.dropStaged q).staging = [] := rfl
@[simp] theorem Qen.atReset_window (q : Qen) : (Qen.atReset q).rescue.window = [] := rfl
@[simp] theorem Qen.atReset_staging (q : Qen) : (Qen.atReset q).staging = [] := rfl
@[simp] theorem Hlu.atReset_msix (h : Hlu) : (Hlu.atReset h).msix = [] := rfl
@[simp] theorem Hlu.configReset_msix (h : Hlu) : (Hlu.configReset h).msix = [] := rfl
@[simp] theorem Mxe.force_dsn (p : Nat → Bool) (m : Mxe) : (Mxe.force p m).dsn = m.dsn := rfl
@[simp] theorem Mxe.force_psn (p : Nat → Bool) (m : Mxe) : (Mxe.force p m).psn = m.psn := rfl
@[simp] theorem Mxe.force_bsn (p : Nat → Bool) (m : Mxe) : (Mxe.force p m).bsn = m.bsn := rfl
@[simp] theorem Ccl.scriptPut_wf (c : Ccl) (bytes : List Byte) (h : Memory.wf 0 c.script = true) : Memory.wf 0 (Ccl.scriptPut c bytes).script = true :=
  Memory.wf_ringWrite _ _ _ h
@[simp] theorem State.setFld_kept (f : Field) (inst v : Nat) (s : State) {s₀ : State} (h₀ : Kept s₀ s) : Kept s₀ (State.setFld f inst v s) := by
  unfold State.setFld
  (repeat' (first | (simp (maxDischargeDepth := 60) [*]; done) | split | dsimp only | (apply kept_foldl _ _ _ _ (by simp (maxDischargeDepth := 60) [*]); intro t x; try simp only)))
@[simp] theorem State.count_kept (f : Field) (inst n : Nat) (s : State) {s₀ : State} (h₀ : Kept s₀ s) : Kept s₀ (State.count f inst n s) := by
  unfold State.count
  (repeat' (first | (simp (maxDischargeDepth := 60) [*]; done) | split | dsimp only | (apply kept_foldl _ _ _ _ (by simp (maxDischargeDepth := 60) [*]); intro t x; try simp only)))
@[simp] theorem State.flag_kept (f : Field) (inst mask : Nat) (s : State) {s₀ : State} (h₀ : Kept s₀ s) : Kept s₀ (State.flag f inst mask s) := by
  unfold State.flag
  (repeat' (first | (simp (maxDischargeDepth := 60) [*]; done) | split | dsimp only | (apply kept_foldl _ _ _ _ (by simp (maxDischargeDepth := 60) [*]); intro t x; try simp only)))
@[simp] theorem State.sample_kept (n : Nat) (s : State) {s₀ : State} (h₀ : Kept s₀ s) : Kept s₀ (State.sample n s) := by
  unfold State.sample
  (repeat' (first | (simp (maxDischargeDepth := 60) [*]; done) | split | dsimp only | (apply kept_foldl _ _ _ _ (by simp (maxDischargeDepth := 60) [*]); intro t x; try simp only)))
@[simp] theorem State.raiseExc_kept (unit inst kind arg : Nat) (s : State) {s₀ : State} (h₀ : Kept s₀ s) : Kept s₀ (State.raiseExc unit inst kind arg s) := by
  unfold State.raiseExc
  (repeat' (first | (simp (maxDischargeDepth := 60) [*]; done) | split | dsimp only | (apply kept_foldl _ _ _ _ (by simp (maxDischargeDepth := 60) [*]); intro t x; try simp only)))
@[simp] theorem State.trigger_kept (code unit inst : Nat) (arg : Dword) (s : State) {s₀ : State} (h₀ : Kept s₀ s) : Kept s₀ (State.trigger code unit inst arg s) := by
  unfold State.trigger
  (repeat' (first | (simp (maxDischargeDepth := 60) [*]; done) | split | dsimp only | (apply kept_foldl _ _ _ _ (by simp (maxDischargeDepth := 60) [*]); intro t x; try simp only)))
@[simp] theorem State.modCtx_kept (c : Nat) (f : Ctx → Ctx) (s : State) {s₀ : State} (h₀ : Kept s₀ s) : Kept s₀ (State.modCtx c f s) := by
  unfold State.modCtx
  (repeat' (first | (simp (maxDischargeDepth := 60) [*]; done) | split | dsimp only | (apply kept_foldl _ _ _ _ (by simp (maxDischargeDepth := 60) [*]); intro t x; try simp only)))
@[simp] theorem State.finish_kept (c status : Nat) (s : State) {s₀ : State} (h₀ : Kept s₀ s) : Kept s₀ (State.finish c status s) := by
  unfold State.finish
  (repeat' (first | (simp (maxDischargeDepth := 60) [*]; done) | split | dsimp only | (apply kept_foldl _ _ _ _ (by simp (maxDischargeDepth := 60) [*]); intro t x; try simp only)))
@[simp] theorem State.giveEvent_kept (fn : Nat) (s : State) {s₀ : State} (h₀ : Kept s₀ s) : Kept s₀ (State.giveEvent fn s) := by
  unfold State.giveEvent
  (repeat' (first | (simp (maxDischargeDepth := 60) [*]; done) | split | dsimp only | (apply kept_foldl _ _ _ _ (by simp (maxDischargeDepth := 60) [*]); intro t x; try simp only)))
@[simp] theorem State.asyncEvent_kept (fn : Nat) (e : AsyncEvent) (s : State) {s₀ : State} (h₀ : Kept s₀ s) : Kept s₀ (State.asyncEvent fn e s) := by
  unfold State.asyncEvent
  (repeat' (first | (simp (maxDischargeDepth := 60) [*]; done) | split | dsimp only | (apply kept_foldl _ _ _ _ (by simp (maxDischargeDepth := 60) [*]); intro t x; try simp only)))
@[simp] theorem State.asyncAll_kept (e : AsyncEvent) (s : State) {s₀ : State} (h₀ : Kept s₀ s) : Kept s₀ (State.asyncAll e s) := by
  unfold State.asyncAll
  (repeat' (first | (simp (maxDischargeDepth := 60) [*]; done) | split | dsimp only | (apply kept_foldl _ _ _ _ (by simp (maxDischargeDepth := 60) [*]); intro t x; try simp only)))
@[simp] theorem State.criticalWarn_kept (bit info : Nat) (s : State) {s₀ : State} (h₀ : Kept s₀ s) : Kept s₀ (State.criticalWarn bit info s) := by
  unfold State.criticalWarn
  (repeat' (first | (simp (maxDischargeDepth := 60) [*]; done) | split | dsimp only | (apply kept_foldl _ _ _ _ (by simp (maxDischargeDepth := 60) [*]); intro t x; try simp only)))
@[simp] theorem State.logHealth_kept (code unit : Nat) (s : State) {s₀ : State} (h₀ : Kept s₀ s) : Kept s₀ (State.logHealth code unit s) := by
  unfold State.logHealth
  (repeat' (first | (simp (maxDischargeDepth := 60) [*]; done) | split | dsimp only | (apply kept_foldl _ _ _ _ (by simp (maxDischargeDepth := 60) [*]); intro t x; try simp only)))
@[simp] theorem State.tellHealth_kept (code unit : Nat) (r : EventRecord) (s : State) {s₀ : State} (h₀ : Kept s₀ s) : Kept s₀ (State.tellHealth code unit r s) := by
  unfold State.tellHealth
  (repeat' (first | (simp (maxDischargeDepth := 60) [*]; done) | split | dsimp only | (apply kept_foldl _ _ _ _ (by simp (maxDischargeDepth := 60) [*]); intro t x; try simp only)))
@[simp] theorem State.health_kept (code unit : Nat) (s : State) {s₀ : State} (h₀ : Kept s₀ s) : Kept s₀ (State.health code unit s) := by
  unfold State.health
  (repeat' (first | (simp (maxDischargeDepth := 60) [*]; done) | split | dsimp only | (apply kept_foldl _ _ _ _ (by simp (maxDischargeDepth := 60) [*]); intro t x; try simp only)))
@[simp] theorem State.healthClear_kept (code : Nat) (s : State) {s₀ : State} (h₀ : Kept s₀ s) : Kept s₀ (State.healthClear code s) := by
  unfold State.healthClear
  (repeat' (first | (simp (maxDischargeDepth := 60) [*]; done) | split | dsimp only | (apply kept_foldl _ _ _ _ (by simp (maxDischargeDepth := 60) [*]); intro t x; try simp only)))
@[simp] theorem State.healthLevel_kept (code unit : Nat) (on : Bool) (s : State) {s₀ : State} (h₀ : Kept s₀ s) : Kept s₀ (State.healthLevel code unit on s) := by
  unfold State.healthLevel
  (repeat' (first | (simp (maxDischargeDepth := 60) [*]; done) | split | dsimp only | (apply kept_foldl _ _ _ _ (by simp (maxDischargeDepth := 60) [*]); intro t x; try simp only)))
@[simp] theorem State.addValid_kept (e : MapEntry) (n : Int) (s : State) {s₀ : State} (h₀ : Kept s₀ s) : Kept s₀ (State.addValid e n s) := by
  unfold State.addValid
  (repeat' (first | (simp (maxDischargeDepth := 60) [*]; done) | split | dsimp only | (apply kept_foldl _ _ _ _ (by simp (maxDischargeDepth := 60) [*]); intro t x; try simp only)))
@[simp] theorem State.setEntry_kept (nsid g : Nat) (e : MapEntry) (s : State) {s₀ : State} (h₀ : Kept s₀ s) : Kept s₀ (State.setEntry nsid g e s) := by
  unfold State.setEntry
  (repeat' (first | (simp (maxDischargeDepth := 60) [*]; done) | split | dsimp only | (apply kept_foldl _ _ _ _ (by simp (maxDischargeDepth := 60) [*]); intro t x; try simp only)))
@[simp] theorem State.spareEvents_kept (s : State) {s₀ : State} (h₀ : Kept s₀ s) : Kept s₀ (State.spareEvents s) := by
  unfold State.spareEvents
  (repeat' (first | (simp (maxDischargeDepth := 60) [*]; done) | split | dsimp only | (apply kept_foldl _ _ _ _ (by simp (maxDischargeDepth := 60) [*]); intro t x; try simp only)))
@[simp] theorem State.retireBlock_kept (die sb cause psn : Nat) (s : State) {s₀ : State} (h₀ : Kept s₀ s) : Kept s₀ (State.retireBlock die sb cause psn s) := by
  unfold State.retireBlock
  (repeat' (first | (simp (maxDischargeDepth := 60) [*]; done) | split | dsimp only | (apply kept_foldl _ _ _ _ (by simp (maxDischargeDepth := 60) [*]); intro t x; try simp only)))
@[simp] theorem State.bumpBlock_kept (key : Nat) (s : State) {s₀ : State} (h₀ : Kept s₀ s) : Kept s₀ (State.bumpBlock key s) := by
  unfold State.bumpBlock
  (repeat' (first | (simp (maxDischargeDepth := 60) [*]; done) | split | dsimp only | (apply kept_foldl _ _ _ _ (by simp (maxDischargeDepth := 60) [*]); intro t x; try simp only)))
@[simp] theorem State.lostAdd_kept (nsid first count cause : Nat) (s : State) {s₀ : State} (h₀ : Kept s₀ s) : Kept s₀ (State.lostAdd nsid first count cause s) := by
  unfold State.lostAdd
  (repeat' (first | (simp (maxDischargeDepth := 60) [*]; done) | split | dsimp only | (apply kept_foldl _ _ _ _ (by simp (maxDischargeDepth := 60) [*]); intro t x; try simp only)))
@[simp] theorem State.lostHeal_kept (nsid first count : Nat) (s : State) {s₀ : State} (h₀ : Kept s₀ s) : Kept s₀ (State.lostHeal nsid first count s) := by
  unfold State.lostHeal
  (repeat' (first | (simp (maxDischargeDepth := 60) [*]; done) | split | dsimp only | (apply kept_foldl _ _ _ _ (by simp (maxDischargeDepth := 60) [*]); intro t x; try simp only)))
@[simp] theorem State.lostDrop_kept (nsid : Nat) (s : State) {s₀ : State} (h₀ : Kept s₀ s) : Kept s₀ (State.lostDrop nsid s) := by
  unfold State.lostDrop
  (repeat' (first | (simp (maxDischargeDepth := 60) [*]; done) | split | dsimp only | (apply kept_foldl _ _ _ _ (by simp (maxDischargeDepth := 60) [*]); intro t x; try simp only)))
@[simp] theorem State.relocate_kept (nsid g : Nat) (src : Loc) (cls : OpClass) (high : Bool) (s : State) {s₀ : State} (h₀ : Kept s₀ s) : Kept s₀ (State.relocate nsid g src cls high s) := by
  unfold State.relocate
  (repeat' (first | (simp (maxDischargeDepth := 60) [*]; done) | split | dsimp only | (apply kept_foldl _ _ _ _ (by simp (maxDischargeDepth := 60) [*]); intro t x; try simp only)))
@[simp] theorem State.queueCopies_kept (band : Band) (s : State) {s₀ : State} (h₀ : Kept s₀ s) : Kept s₀ (State.queueCopies band s) := by
  unfold State.queueCopies
  (repeat' (first | (simp (maxDischargeDepth := 60) [*]; done) | split | dsimp only | (apply kept_foldl _ _ _ _ (by simp (maxDischargeDepth := 60) [*]); intro t x; try simp only)))
@[simp] theorem State.makeVictim_kept (b : Nat) (cls : OpClass) (s : State) {s₀ : State} (h₀ : Kept s₀ s) : Kept s₀ (State.makeVictim b cls s) := by
  unfold State.makeVictim
  (repeat' (first | (simp (maxDischargeDepth := 60) [*]; done) | split | dsimp only | (apply kept_foldl _ _ _ _ (by simp (maxDischargeDepth := 60) [*]); intro t x; try simp only)))
@[simp] theorem State.padBand_kept (b : Nat) (cls : OpClass) (s : State) {s₀ : State} (h₀ : Kept s₀ s) : Kept s₀ (State.padBand b cls s) := by
  unfold State.padBand
  (repeat' (first | (simp (maxDischargeDepth := 60) [*]; done) | split | dsimp only | (apply kept_foldl _ _ _ _ (by simp (maxDischargeDepth := 60) [*]); intro t x; try simp only)))
@[simp] theorem State.chooseVictim_kept (b : Nat) (cls : OpClass) (s : State) {s₀ : State} (h₀ : Kept s₀ s) : Kept s₀ (State.chooseVictim b cls s) := by
  unfold State.chooseVictim
  (repeat' (first | (simp (maxDischargeDepth := 60) [*]; done) | split | dsimp only | (apply kept_foldl _ _ _ _ (by simp (maxDischargeDepth := 60) [*]); intro t x; try simp only)))
@[simp] theorem State.nandCmd_kept (die : Nat) (c : NandCmd) (s : State) (k : OpKind := .read) (planes : Nat := 1) {s₀ : State} (h₀ : Kept s₀ s) : Kept s₀ (State.nandCmd die c s k planes) := by
  unfold State.nandCmd
  (repeat' (first | (simp (maxDischargeDepth := 60) [*]; done) | split | dsimp only | (apply kept_foldl _ _ _ _ (by simp (maxDischargeDepth := 60) [*]); intro t x; try simp only)))
@[simp] theorem State.modOp_kept (i : Nat) (f : DieOp → DieOp) (s : State) {s₀ : State} (h₀ : Kept s₀ s) : Kept s₀ (State.modOp i f s) := by
  unfold State.modOp
  (repeat' (first | (simp (maxDischargeDepth := 60) [*]; done) | split | dsimp only | (apply kept_foldl _ _ _ _ (by simp (maxDischargeDepth := 60) [*]); intro t x; try simp only)))
@[simp] theorem State.modDie_kept (n : Nat) (f : Die → Die) (s : State) {s₀ : State} (h₀ : Kept s₀ s) : Kept s₀ (State.modDie n f s) := by
  unfold State.modDie
  (repeat' (first | (simp (maxDischargeDepth := 60) [*]; done) | split | dsimp only | (apply kept_foldl _ _ _ _ (by simp (maxDischargeDepth := 60) [*]); intro t x; try simp only)))
@[simp] theorem State.fillSlots_kept (n k : Nat) (s : State) {s₀ : State} (h₀ : Kept s₀ s) : Kept s₀ (State.fillSlots n k s) := by
  refine h₀.trans ?_
  clear h₀
  induction k generalizing s with
  | zero => simp [State.fillSlots]
  | succ k ih =>
    unfold State.fillSlots
    split
    · exact Kept.trans (by simp) (ih _)
    · simp
@[simp] theorem State.fill_kept (n : Nat) (s : State) {s₀ : State} (h₀ : Kept s₀ s) : Kept s₀ (State.fill n s) := by
  unfold State.fill
  (repeat' (first | (simp (maxDischargeDepth := 60) [*]; done) | split | dsimp only | (apply kept_foldl _ _ _ _ (by simp (maxDischargeDepth := 60) [*]); intro t x; try simp only)))
@[simp] theorem State.submitOp_kept (r : OpRequest) (why : OpFor) (pages : List (Nat × Nat)) (slots : List PlaceSlot) (band : Nat) (s : State) {s₀ : State} (h₀ : Kept s₀ s) : Kept s₀ (State.submitOp r why pages slots band s) := by
  unfold State.submitOp
  (repeat' (first | (simp (maxDischargeDepth := 60) [*]; done) | split | dsimp only | (apply kept_foldl _ _ _ _ (by simp (maxDischargeDepth := 60) [*]); intro t x; try simp only)))
@[simp] theorem State.dropOp_kept (n i : Nat) (s : State) {s₀ : State} (h₀ : Kept s₀ s) : Kept s₀ (State.dropOp n i s) := by
  unfold State.dropOp
  (repeat' (first | (simp (maxDischargeDepth := 60) [*]; done) | split | dsimp only | (apply kept_foldl _ _ _ _ (by simp (maxDischargeDepth := 60) [*]); intro t x; try simp only)))
@[simp] theorem State.rePlace_kept (i : Nat) (x : PlaceSlot) (s : State) {s₀ : State} (h₀ : Kept s₀ s) : Kept s₀ (State.rePlace i x s) := by
  unfold State.rePlace
  (repeat' (first | (simp (maxDischargeDepth := 60) [*]; done) | split | dsimp only | (apply kept_foldl _ _ _ _ (by simp (maxDischargeDepth := 60) [*]); intro t x; try simp only)))
@[simp] theorem State.rePlaceAll_kept (i : Nat) (slots : List PlaceSlot) (s : State) {s₀ : State} (h₀ : Kept s₀ s) : Kept s₀ (State.rePlaceAll i slots s) := by
  unfold State.rePlaceAll
  (repeat' (first | (simp (maxDischargeDepth := 60) [*]; done) | split | dsimp only | (apply kept_foldl _ _ _ _ (by simp (maxDischargeDepth := 60) [*]); intro t x; try simp only)))
@[simp] theorem State.memberErased_kept (b die : Nat) (s : State) {s₀ : State} (h₀ : Kept s₀ s) : Kept s₀ (State.memberErased b die s) := by
  unfold State.memberErased
  refine kept_modMxe _ ?_ ?_ ?_ h₀ <;> (dsimp only; split <;> simp)
@[simp] theorem State.returnFail_kept (i : Nat) (o : DieOp) (s : State) {s₀ : State} (h₀ : Kept s₀ s) : Kept s₀ (State.returnFail i o s) := by
  unfold State.returnFail
  (repeat' (first | (simp (maxDischargeDepth := 60) [*]; done) | split | dsimp only | (apply kept_foldl _ _ _ _ (by simp (maxDischargeDepth := 60) [*]); intro t x; try simp only)))
@[simp] theorem State.stripeLogged_kept (s : State) {s₀ : State} (h₀ : Kept s₀ s) : Kept s₀ (State.stripeLogged s) := by
  unfold State.stripeLogged
  (repeat' (first | (simp (maxDischargeDepth := 60) [*]; done) | split | dsimp only | (apply kept_foldl _ _ _ _ (by simp (maxDischargeDepth := 60) [*]); intro t x; try simp only)))
@[simp] theorem State.submitParity_kept (x : Stripe) (b : Band) (i : Nat) (q : Bool) (payload : Nat) (cls : OpClass) (s : State) {s₀ : State} (h₀ : Kept s₀ s) : Kept s₀ (State.submitParity x b i q payload cls s) := by
  unfold State.submitParity
  (repeat' (first | (simp (maxDischargeDepth := 60) [*]; done) | split | dsimp only | (apply kept_foldl _ _ _ _ (by simp (maxDischargeDepth := 60) [*]); intro t x; try simp only)))
@[simp] theorem State.sealStripe_kept (x : Stripe) (b : Band) (cls : OpClass) (s : State) {s₀ : State} (h₀ : Kept s₀ s) : Kept s₀ (State.sealStripe x b cls s) := by
  unfold State.sealStripe
  (repeat' (first | (simp (maxDischargeDepth := 60) [*]; done) | split | dsimp only | (apply kept_foldl _ _ _ _ (by simp (maxDischargeDepth := 60) [*]); intro t x; try simp only)))
@[simp] theorem State.stripeIssue_kept (band : Nat) (b : Band) (mb : Nat × Nat) (block page psn payload : Nat) (cls : OpClass) (s : State) {s₀ : State} (h₀ : Kept s₀ s) : Kept s₀ (State.stripeIssue band b mb block page psn payload cls s) := by
  unfold State.stripeIssue
  (repeat' (first | (simp (maxDischargeDepth := 60) [*]; done) | split | dsimp only | (apply kept_foldl _ _ _ _ (by simp (maxDischargeDepth := 60) [*]); intro t x; try simp only)))
@[simp] theorem State.releaseStripes_kept (band : Nat) (s : State) {s₀ : State} (h₀ : Kept s₀ s) : Kept s₀ (State.releaseStripes band s) := by
  unfold State.releaseStripes
  (repeat' (first | (simp (maxDischargeDepth := 60) [*]; done) | split | dsimp only | (apply kept_foldl _ _ _ _ (by simp (maxDischargeDepth := 60) [*]); intro t x; try simp only)))
@[simp] theorem State.stripeGood_kept (band : Nat) (b : Band) (mb : Nat × Nat) (block page : Nat) (s : State) {s₀ : State} (h₀ : Kept s₀ s) : Kept s₀ (State.stripeGood band b mb block page s) := by
  unfold State.stripeGood
  (repeat' (first | (simp (maxDischargeDepth := 60) [*]; done) | split | dsimp only | (apply kept_foldl _ _ _ _ (by simp (maxDischargeDepth := 60) [*]); intro t x; try simp only)))
@[simp] theorem State.stripeFail_kept (_band : Nat) (b : Band) (mb : Nat × Nat) (block page payload : Nat) (isParity : Bool) (s : State) {s₀ : State} (h₀ : Kept s₀ s) : Kept s₀ (State.stripeFail _band b mb block page payload isParity s) := by
  unfold State.stripeFail
  (repeat' (first | (simp (maxDischargeDepth := 60) [*]; done) | split | dsimp only | (apply kept_foldl _ _ _ _ (by simp (maxDischargeDepth := 60) [*]); intro t x; try simp only)))
@[simp] theorem State.sjLose_kept (a b c : Bool) (s : State) {s₀ : State} (h₀ : Kept s₀ s) : Kept s₀ (State.sjLose a b c s) := by
  unfold State.sjLose
  (repeat' (first | (simp (maxDischargeDepth := 60) [*]; done) | split | dsimp only | (apply kept_foldl _ _ _ _ (by simp (maxDischargeDepth := 60) [*]); intro t x; try simp only)))
@[simp] theorem State.sjRestore_kept (s : State) {s₀ : State} (h₀ : Kept s₀ s) : Kept s₀ (State.sjRestore s) := by
  unfold State.sjRestore
  (repeat' (first | (simp (maxDischargeDepth := 60) [*]; done) | split | dsimp only | (apply kept_foldl _ _ _ _ (by simp (maxDischargeDepth := 60) [*]); intro t x; try simp only)))
@[simp] theorem State.beginDumpPage_kept (r : DumpRun) (d n : Nat) (s : State) {s₀ : State} (h₀ : Kept s₀ s) : Kept s₀ (State.beginDumpPage r d n s) := by
  unfold State.beginDumpPage
  (repeat' (first | (simp (maxDischargeDepth := 60) [*]; done) | (with_reducible apply State.confirm_kept) | (with_reducible apply State.modDie_kept) | (with_reducible apply kept_modDsc) | (with_reducible apply kept_modHum) | (with_reducible apply kept_modMxe) | (with_reducible apply State.nandCmd_kept) | split | dsimp only | (apply kept_foldl _ _ _ _ (by simp (maxDischargeDepth := 60) [*]); intro t x; try simp only)))
@[simp] theorem State.dumpOpStart_kept (r : DumpRun) (d : Nat) (s : State) {s₀ : State} (h₀ : Kept s₀ s) : Kept s₀ (State.dumpOpStart r d s) := by
  unfold State.dumpOpStart
  (repeat' (first | (simp (maxDischargeDepth := 60) [*]; done) | split | dsimp only | (apply kept_foldl _ _ _ _ (by simp (maxDischargeDepth := 60) [*]); intro t x; try simp only)))
@[simp] theorem State.dumpEnded_kept (d n : Nat) (good : Bool) (s : State) {s₀ : State} (h₀ : Kept s₀ s) : Kept s₀ (State.dumpEnded d n good s) := by
  unfold State.dumpEnded
  (repeat' (first | (simp (maxDischargeDepth := 60) [*]; done) | split | dsimp only | (apply kept_foldl _ _ _ _ (by simp (maxDischargeDepth := 60) [*]); intro t x; try simp only)))
@[simp] theorem State.submitData_kept (n : Nat) (b : Band) (r : OpRequest) (s : State) {s₀ : State} (h₀ : Kept s₀ s) : Kept s₀ (State.submitData n b r s) := by
  unfold State.submitData
  (repeat' (first | (simp (maxDischargeDepth := 60) [*]; done) | split | dsimp only | (apply kept_foldl _ _ _ _ (by simp (maxDischargeDepth := 60) [*]); intro t x; try simp only)))
@[simp] theorem State.openBand_kept (r : OpRequest) (s : State) {s₀ : State} (h₀ : Kept s₀ s) : Kept s₀ (State.openBand r s) := by
  unfold State.openBand
  (repeat' (first | (simp (maxDischargeDepth := 60) [*]; done) | split | dsimp only | (apply kept_foldl _ _ _ _ (by simp (maxDischargeDepth := 60) [*]); intro t x; try simp only)))
@[simp] theorem State.bandFilled_kept (n : Nat) (s : State) {s₀ : State} (h₀ : Kept s₀ s) : Kept s₀ (State.bandFilled n s) := by
  unfold State.bandFilled
  (repeat' (first | (simp (maxDischargeDepth := 60) [*]; done) | split | dsimp only | (apply kept_foldl _ _ _ _ (by simp (maxDischargeDepth := 60) [*]); intro t x; try simp only)))
theorem State.sysOpen_kept (dA dB : Nat) (s t : State) (n : Nat) (h : State.sysOpen dA dB s = some (t, n)) : Kept s t := by
  unfold State.sysOpen at h
  split at h
  · split at h
    · simp only [Option.some.injEq, Prod.mk.injEq] at h
      rw [← h.1]
      simp
    · cases h
  · cases h
theorem State.sysBandFor_kept (cur : Option Nat) (dA dB : Nat) (s t : State) (n : Nat) (h : State.sysBandFor cur dA dB s = some (t, n)) : Kept s t := by
  unfold State.sysBandFor at h
  split at h
  · split at h
    · simp only [Option.some.injEq, Prod.mk.injEq] at h
      rw [← h.1]
      exact Kept.refl _
    · exact (State.sysOpen_kept _ _ _ _ _ h)
  · exact (State.sysOpen_kept _ _ _ _ _ h)
@[simp] theorem State.sysTake_kept (n : Nat) (s : State) {s₀ : State} (h₀ : Kept s₀ s) : Kept s₀ (State.sysTake n s) := by
  unfold State.sysTake
  (repeat' (first | (simp (maxDischargeDepth := 60) [*]; done) | split | dsimp only | (apply kept_foldl _ _ _ _ (by simp (maxDischargeDepth := 60) [*]); intro t x; try simp only)))
@[simp] theorem State.sysPut_kept (l : Loc) (b : Band) (psn : Nat) (cells : List SlotCell) (s : State) {s₀ : State} (h₀ : Kept s₀ s) : Kept s₀ (State.sysPut l b psn cells s) := by
  unfold State.sysPut
  (repeat' (first | (simp (maxDischargeDepth := 60) [*]; done) | split | dsimp only | (apply kept_foldl _ _ _ _ (by simp (maxDischargeDepth := 60) [*]); intro t x; try simp only)))
theorem State.sysWrite_kept (cells : List SlotCell) (s t : State) (l : Loc) (h : State.sysWrite cells s = some (t, l)) : Kept s t := by
  unfold State.sysWrite at h
  dsimp only at h
  split at h
  · rename_i u n hb
    simp only [Option.bind_eq_some_iff] at hb
    obtain ⟨a, -, hb⟩ := hb
    have k := (State.sysBandFor_kept _ _ _ _ _ _ hb)
    simp only [Option.map_eq_some_iff, Prod.mk.injEq] at h
    obtain ⟨b, -, h, -⟩ := h
    rw [← h]
    simp (maxDischargeDepth := 60) [k]
  · cases h
@[simp] theorem State.submitSummary_kept (n : Nat) (b : Band) (r : OpRequest) (s : State) {s₀ : State} (h₀ : Kept s₀ s) : Kept s₀ (State.submitSummary n b r s) := by
  unfold State.submitSummary
  (repeat' (first | (simp (maxDischargeDepth := 60) [*]; done) | split | dsimp only | (apply kept_foldl _ _ _ _ (by simp (maxDischargeDepth := 60) [*]); intro t x; try simp only)))
@[simp] theorem State.submitProgram_kept (r : OpRequest) (s : State) {s₀ : State} (h₀ : Kept s₀ s) : Kept s₀ (State.submitProgram r s) := by
  unfold State.submitProgram
  (repeat' (first | (simp (maxDischargeDepth := 60) [*]; done) | split | dsimp only | (apply kept_foldl _ _ _ _ (by simp (maxDischargeDepth := 60) [*]); intro t x; try simp only)))
@[simp] theorem State.submitErase_kept (r : OpRequest) (s : State) {s₀ : State} (h₀ : Kept s₀ s) : Kept s₀ (State.submitErase r s) := by
  unfold State.submitErase
  (repeat' (first | (simp (maxDischargeDepth := 60) [*]; done) | split | dsimp only | (apply kept_foldl _ _ _ _ (by simp (maxDischargeDepth := 60) [*]); intro t x; try simp only)))
@[simp] theorem State.dropStaleJobs_kept (die : Nat) (pages : List (Nat × Nat)) (s : State) {s₀ : State} (h₀ : Kept s₀ s) : Kept s₀ (State.dropStaleJobs die pages s) := by
  unfold State.dropStaleJobs
  (repeat' (first | (simp (maxDischargeDepth := 60) [*]; done) | split | dsimp only | (apply kept_foldl _ _ _ _ (by simp (maxDischargeDepth := 60) [*]); intro t x; try simp only)))
@[simp] theorem State.scrubPaced_kept (n : Nat) (s : State) {s₀ : State} (h₀ : Kept s₀ s) : Kept s₀ (State.scrubPaced n s) := by
  unfold State.scrubPaced
  (repeat' (first | (simp (maxDischargeDepth := 60) [*]; done) | split | dsimp only | (apply kept_foldl _ _ _ _ (by simp (maxDischargeDepth := 60) [*]); intro t x; try simp only)))
@[simp] theorem State.rebuildPaced_kept (n : Nat) (s : State) {s₀ : State} (h₀ : Kept s₀ s) : Kept s₀ (State.rebuildPaced n s) := by
  unfold State.rebuildPaced
  (repeat' (first | (simp (maxDischargeDepth := 60) [*]; done) | split | dsimp only | (apply kept_foldl _ _ _ _ (by simp (maxDischargeDepth := 60) [*]); intro t x; try simp only)))
@[simp] theorem State.submitRead_kept (r : OpRequest) (s : State) {s₀ : State} (h₀ : Kept s₀ s) : Kept s₀ (State.submitRead r s) := by
  unfold State.submitRead
  (repeat' (first | (simp (maxDischargeDepth := 60) [*]; done) | split | dsimp only | (apply kept_foldl _ _ _ _ (by simp (maxDischargeDepth := 60) [*]); intro t x; try simp only)))
@[simp] theorem State.setOffsets_kept (d : Nat) (o : DieOp) (s : State) {s₀ : State} (h₀ : Kept s₀ s) : Kept s₀ (State.setOffsets d o s) := by
  unfold State.setOffsets
  (repeat' (first | (simp (maxDischargeDepth := 60) [*]; done) | split | dsimp only | (apply kept_foldl _ _ _ _ (by simp (maxDischargeDepth := 60) [*]); intro t x; try simp only)))
@[simp] theorem State.takeBytes_kept (n : Nat) (s : State) {s₀ : State} (h₀ : Kept s₀ s) : Kept s₀ (State.takeBytes n s) := by
  unfold State.takeBytes
  (repeat' (first | (simp (maxDischargeDepth := 60) [*]; done) | split | dsimp only | (apply kept_foldl _ _ _ _ (by simp (maxDischargeDepth := 60) [*]); intro t x; try simp only)))
@[simp] theorem State.lostFillSlot_kept (x : PlaceSlot) (s : State) {s₀ : State} (h₀ : Kept s₀ s) : Kept s₀ (State.lostFillSlot x s) := by
  unfold State.lostFillSlot
  (repeat' (first | (simp (maxDischargeDepth := 60) [*]; done) | split | dsimp only | (apply kept_foldl _ _ _ _ (by simp (maxDischargeDepth := 60) [*]); intro t x; try simp only)))
@[simp] theorem State.mergeFill_kept (x : PlaceSlot) (s : State) {s₀ : State} (h₀ : Kept s₀ s) : Kept s₀ (State.mergeFill x s) := by
  unfold State.mergeFill
  (repeat' (first | (simp (maxDischargeDepth := 60) [*]; done) | split | dsimp only | (apply kept_foldl _ _ _ _ (by simp (maxDischargeDepth := 60) [*]); intro t x; try simp only)))
@[simp] theorem State.encodeEvents_kept (xs : List PlaceSlot) (s : State) {s₀ : State} (h₀ : Kept s₀ s) : Kept s₀ (State.encodeEvents xs s) := by
  unfold State.encodeEvents
  (repeat' (first | (simp (maxDischargeDepth := 60) [*]; done) | split | dsimp only | (apply kept_foldl _ _ _ _ (by simp (maxDischargeDepth := 60) [*]); intro t x; try simp only)))
@[simp] theorem State.dropCopies_kept (bad : List PlaceSlot) (s : State) {s₀ : State} (h₀ : Kept s₀ s) : Kept s₀ (State.dropCopies bad s) := by
  unfold State.dropCopies
  (repeat' (first | (simp (maxDischargeDepth := 60) [*]; done) | split | dsimp only | (apply kept_foldl _ _ _ _ (by simp (maxDischargeDepth := 60) [*]); intro t x; try simp only)))
@[simp] theorem State.slotsSubmitted_kept (xs : List PlaceSlot) (s : State) {s₀ : State} (h₀ : Kept s₀ s) : Kept s₀ (State.slotsSubmitted xs s) := by
  unfold State.slotsSubmitted
  (repeat' (first | (simp (maxDischargeDepth := 60) [*]; done) | split | dsimp only | (apply kept_foldl _ _ _ _ (by simp (maxDischargeDepth := 60) [*]); intro t x; try simp only)))
@[simp] theorem State.startProgram_kept (i : Nat) (o : DieOp) (s : State) {s₀ : State} (h₀ : Kept s₀ s) : Kept s₀ (State.startProgram i o s) := by
  unfold State.startProgram
  (repeat' (first | (simp (maxDischargeDepth := 60) [*]; done) | split | dsimp only | (apply kept_foldl _ _ _ _ (by simp (maxDischargeDepth := 60) [*]); intro t x; try simp only)))
@[simp] theorem State.startOp_kept (d i : Nat) (o : DieOp) (s : State) {s₀ : State} (h₀ : Kept s₀ s) : Kept s₀ (State.startOp d i o s) := by
  unfold State.startOp
  (repeat' (first | (simp (maxDischargeDepth := 60) [*]; done) | split | dsimp only | (apply kept_foldl _ _ _ _ (by simp (maxDischargeDepth := 60) [*]); intro t x; try simp only)))
@[simp] theorem State.normalStart_kept (d : Nat) (s : State) {s₀ : State} (h₀ : Kept s₀ s) : Kept s₀ (State.normalStart d s) := by
  unfold State.normalStart
  (repeat' (first | (simp (maxDischargeDepth := 60) [*]; done) | split | dsimp only | (apply kept_foldl _ _ _ _ (by simp (maxDischargeDepth := 60) [*]); intro t x; try simp only)))
@[simp] theorem State.hostGranule_kept (i : Nat) (x : PlaceSlot) (f : InFlight) (l : Loc) (mode : Nat) (s : State) {s₀ : State} (h₀ : Kept s₀ s) : Kept s₀ (State.hostGranule i x f l mode s) := by
  unfold State.hostGranule
  (repeat' (first | (simp (maxDischargeDepth := 60) [*]; done) | split | dsimp only | (apply kept_foldl _ _ _ _ (by simp (maxDischargeDepth := 60) [*]); intro t x; try simp only)))
@[simp] theorem State.slotGood_kept (i : Nat) (mode : Nat) (x : PlaceSlot) (l : Loc) (s : State) {s₀ : State} (h₀ : Kept s₀ s) : Kept s₀ (State.slotGood i mode x l s) := by
  unfold State.slotGood
  (repeat' (first | (simp (maxDischargeDepth := 60) [*]; done) | (with_reducible apply State.hostGranule_kept) | (with_reducible apply kept_modMxe) | (with_reducible apply State.rePlace_kept) | split | dsimp only | (apply kept_foldl _ _ _ _ (by simp (maxDischargeDepth := 60) [*]); intro t x; try simp only)))
@[simp] theorem State.programGood_kept (d i : Nat) (o : DieOp) (s : State) {s₀ : State} (h₀ : Kept s₀ s) : Kept s₀ (State.programGood d i o s) := by
  unfold State.programGood
  (repeat' (first | (simp (maxDischargeDepth := 60) [*]; done) | (with_reducible apply kept_modFca) | (with_reducible apply kept_modMxe) | (with_reducible apply State.slotGood_kept) | (with_reducible apply State.stripeGood_kept) | split | dsimp only | (apply kept_foldl _ _ _ _ (by simp (maxDischargeDepth := 60) [*]); intro t x; try simp only)))
@[simp] theorem State.relocateBlock_kept (d sb : Nat) (s : State) {s₀ : State} (h₀ : Kept s₀ s) : Kept s₀ (State.relocateBlock d sb s) := by
  unfold State.relocateBlock
  (repeat' (first | (simp (maxDischargeDepth := 60) [*]; done) | split | dsimp only | (apply kept_foldl _ _ _ _ (by simp (maxDischargeDepth := 60) [*]); intro t x; try simp only)))
@[simp] theorem State.cancelBlock_kept (d sb : Nat) (s : State) {s₀ : State} (h₀ : Kept s₀ s) : Kept s₀ (State.cancelBlock d sb s) := by
  unfold State.cancelBlock
  (repeat' (first | (simp (maxDischargeDepth := 60) [*]; done) | split | dsimp only | (apply kept_foldl _ _ _ _ (by simp (maxDischargeDepth := 60) [*]); intro t x; try simp only)))
@[simp] theorem State.readBack_kept (d sb : Nat) (pages : List (Nat × Nat)) (s : State) {s₀ : State} (h₀ : Kept s₀ s) : Kept s₀ (State.readBack d sb pages s) := by
  unfold State.readBack
  (repeat' (first | (simp (maxDischargeDepth := 60) [*]; done) | split | dsimp only | (apply kept_foldl _ _ _ _ (by simp (maxDischargeDepth := 60) [*]); intro t x; try simp only)))
@[simp] theorem State.programFail_kept (d i : Nat) (o : DieOp) (s : State) {s₀ : State} (h₀ : Kept s₀ s) : Kept s₀ (State.programFail d i o s) := by
  unfold State.programFail
  (repeat' (first | (simp (maxDischargeDepth := 60) [*]; done) | split | dsimp only | (apply kept_foldl _ _ _ _ (by simp (maxDischargeDepth := 60) [*]); intro t x; try simp only)))
@[simp] theorem State.countErase_kept (k : Nat) (s : State) {s₀ : State} (h₀ : Kept s₀ s) : Kept s₀ (State.countErase k s) := by
  unfold State.countErase
  (repeat' (first | (simp (maxDischargeDepth := 60) [*]; done) | split | dsimp only | (apply kept_foldl _ _ _ _ (by simp (maxDischargeDepth := 60) [*]); intro t x; try simp only)))
@[simp] theorem State.eraseGood_kept (d : Nat) (o : DieOp) (s : State) {s₀ : State} (h₀ : Kept s₀ s) : Kept s₀ (State.eraseGood d o s) := by
  unfold State.eraseGood
  (repeat' (first | (simp (maxDischargeDepth := 60) [*]; done) | exact id | exact le_rfl | (with_reducible apply kept_modMxe) | (with_reducible apply State.memberErased_kept) | split | dsimp only | (apply kept_foldl _ _ _ _ (by simp (maxDischargeDepth := 60) [*]); intro t x; try simp only)))
@[simp] theorem State.eraseFail_kept (d : Nat) (o : DieOp) (s : State) {s₀ : State} (h₀ : Kept s₀ s) : Kept s₀ (State.eraseFail d o s) := by
  unfold State.eraseFail
  (repeat' (first | (simp (maxDischargeDepth := 60) [*]; done) | split | dsimp only | (apply kept_foldl _ _ _ _ (by simp (maxDischargeDepth := 60) [*]); intro t x; try simp only)))
@[simp] theorem State.readLands_kept (o : DieOp) (s : State) {s₀ : State} (h₀ : Kept s₀ s) : Kept s₀ (State.readLands o s) := by
  unfold State.readLands
  (repeat' (first | (simp (maxDischargeDepth := 60) [*]; done) | split | dsimp only | (apply kept_foldl _ _ _ _ (by simp (maxDischargeDepth := 60) [*]); intro t x; try simp only)))
@[simp] theorem State.readDone_kept (o : DieOp) (s : State) {s₀ : State} (h₀ : Kept s₀ s) : Kept s₀ (State.readDone o s) := by
  unfold State.readDone
  (repeat' (first | (simp (maxDischargeDepth := 60) [*]; done) | split | dsimp only | (apply kept_foldl _ _ _ _ (by simp (maxDischargeDepth := 60) [*]); intro t x; try simp only)))
@[simp] theorem State.diedTime_kept (i : Nat) (s : State) {s₀ : State} (h₀ : Kept s₀ s) : Kept s₀ (State.diedTime i s) := by
  unfold State.diedTime
  (repeat' (first | (simp (maxDischargeDepth := 60) [*]; done) | split | dsimp only | (apply kept_foldl _ _ _ _ (by simp (maxDischargeDepth := 60) [*]); intro t x; try simp only)))
@[simp] theorem State.endOp_kept (d i : Nat) (s : State) {s₀ : State} (h₀ : Kept s₀ s) : Kept s₀ (State.endOp d i s) := by
  unfold State.endOp
  (repeat' (first | (simp (maxDischargeDepth := 60) [*]; done) | split | dsimp only | (apply kept_foldl _ _ _ _ (by simp (maxDischargeDepth := 60) [*]); intro t x; try simp only)))
@[simp] theorem State.opEnded_kept (d i : Nat) (o : DieOp) (good : Bool) (s : State) {s₀ : State} (h₀ : Kept s₀ s) : Kept s₀ (State.opEnded d i o good s) := by
  unfold State.opEnded
  (repeat' (first | (simp (maxDischargeDepth := 60) [*]; done) | split | dsimp only | (apply kept_foldl _ _ _ _ (by simp (maxDischargeDepth := 60) [*]); intro t x; try simp only)))
@[simp] theorem State.failOps_kept (d : Nat) (s : State) {s₀ : State} (h₀ : Kept s₀ s) : Kept s₀ (State.failOps d s) := by
  unfold State.failOps
  (repeat' (first | (simp (maxDischargeDepth := 60) [*]; done) | split | dsimp only | (apply kept_foldl _ _ _ _ (by simp (maxDischargeDepth := 60) [*]); intro t x; try simp only)))
@[simp] theorem State.retireDie_kept (d : Nat) (s : State) {s₀ : State} (h₀ : Kept s₀ s) : Kept s₀ (State.retireDie d s) := by
  unfold State.retireDie
  (repeat' (first | (simp (maxDischargeDepth := 60) [*]; done) | split | dsimp only | (apply kept_foldl _ _ _ _ (by simp (maxDischargeDepth := 60) [*]); intro t x; try simp only)))
@[simp] theorem State.failedHealth_kept (s : State) {s₀ : State} (h₀ : Kept s₀ s) : Kept s₀ (State.failedHealth s) := by
  unfold State.failedHealth
  (repeat' (first | (simp (maxDischargeDepth := 60) [*]; done) | split | dsimp only | (apply kept_foldl _ _ _ _ (by simp (maxDischargeDepth := 60) [*]); intro t x; try simp only)))
@[simp] theorem State.joinRebuild_kept (d : Nat) (s : State) {s₀ : State} (h₀ : Kept s₀ s) : Kept s₀ (State.joinRebuild d s) := by
  unfold State.joinRebuild
  (repeat' (first | (simp (maxDischargeDepth := 60) [*]; done) | split | dsimp only | (apply kept_foldl _ _ _ _ (by simp (maxDischargeDepth := 60) [*]); intro t x; try simp only)))
@[simp] theorem State.failXfers_kept (d : Nat) (s : State) {s₀ : State} (h₀ : Kept s₀ s) : Kept s₀ (State.failXfers d s) := by
  unfold State.failXfers
  (repeat' (first | (simp (maxDischargeDepth := 60) [*]; done) | split | dsimp only | (apply kept_foldl _ _ _ _ (by simp (maxDischargeDepth := 60) [*]); intro t x; try simp only)))
@[simp] theorem State.takeOffline_kept (d : Nat) (s : State) {s₀ : State} (h₀ : Kept s₀ s) : Kept s₀ (State.takeOffline d s) := by
  unfold State.takeOffline
  (repeat' (first | (simp (maxDischargeDepth := 60) [*]; done) | split | dsimp only | (apply kept_foldl _ _ _ _ (by simp (maxDischargeDepth := 60) [*]); intro t x; try simp only)))
@[simp] theorem State.reenable_kept (d : Nat) (s : State) {s₀ : State} (h₀ : Kept s₀ s) : Kept s₀ (State.reenable d s) := by
  unfold State.reenable
  (repeat' (first | (simp (maxDischargeDepth := 60) [*]; done) | split | dsimp only | (apply kept_foldl _ _ _ _ (by simp (maxDischargeDepth := 60) [*]); intro t x; try simp only)))
@[simp] theorem State.applyStep_kept (st : Nat) (s : State) {s₀ : State} (h₀ : Kept s₀ s) : Kept s₀ (State.applyStep st s) := by
  unfold State.applyStep
  (repeat' (first | (simp (maxDischargeDepth := 60) [*]; done) | split | dsimp only | (apply kept_foldl _ _ _ _ (by simp (maxDischargeDepth := 60) [*]); intro t x; try simp only)))
@[simp] theorem State.dueObjects_kept (s : State) {s₀ : State} (h₀ : Kept s₀ s) : Kept s₀ (State.dueObjects s) := by
  unfold State.dueObjects
  (repeat' (first | (simp (maxDischargeDepth := 60) [*]; done) | split | dsimp only | (apply kept_foldl _ _ _ _ (by simp (maxDischargeDepth := 60) [*]); intro t x; try simp only)))
@[simp] theorem State.opsRebudget_kept (s : State) {s₀ : State} (h₀ : Kept s₀ s) : Kept s₀ (State.opsRebudget s) := by
  unfold State.opsRebudget
  (repeat' (first | (simp (maxDischargeDepth := 60) [*]; done) | split | dsimp only | (apply kept_foldl _ _ _ _ (by simp (maxDischargeDepth := 60) [*]); intro t x; try simp only)))
@[simp] theorem State.decideStep_kept (t : Int) (s : State) {s₀ : State} (h₀ : Kept s₀ s) : Kept s₀ (State.decideStep t s) := by
  unfold State.decideStep
  (repeat' (first | (simp (maxDischargeDepth := 60) [*]; done) | split | dsimp only | (apply kept_foldl _ _ _ _ (by simp (maxDischargeDepth := 60) [*]); intro t x; try simp only)))
@[simp] theorem State.chEvent_kept (ch bits : Nat) (s : State) {s₀ : State} (h₀ : Kept s₀ s) : Kept s₀ (State.chEvent ch bits s) := by
  unfold State.chEvent
  (repeat' (first | (simp (maxDischargeDepth := 60) [*]; done) | split | dsimp only | (apply kept_foldl _ _ _ _ (by simp (maxDischargeDepth := 60) [*]); intro t x; try simp only)))
@[simp] theorem State.initChannel_kept (f : ChannelFound) (s : State) {s₀ : State} (h₀ : Kept s₀ s) : Kept s₀ (State.initChannel f s) := by
  unfold State.initChannel
  (repeat' (first | (simp (maxDischargeDepth := 60) [*]; done) | split | dsimp only | (apply kept_foldl _ _ _ _ (by simp (maxDischargeDepth := 60) [*]); intro t x; try simp only)))
@[simp] theorem State.guardOnset_kept (g : GuardInput) (s : State) {s₀ : State} (h₀ : Kept s₀ s) : Kept s₀ (State.guardOnset g s) := by
  unfold State.guardOnset
  (repeat' (first | (simp (maxDischargeDepth := 60) [*]; done) | split | dsimp only | (apply kept_foldl _ _ _ _ (by simp (maxDischargeDepth := 60) [*]); intro t x; try simp only)))
@[simp] theorem State.guardTick_kept (s : State) {s₀ : State} (h₀ : Kept s₀ s) : Kept s₀ (State.guardTick s) := by
  unfold State.guardTick
  (repeat' (first | (simp (maxDischargeDepth := 60) [*]; done) | split | dsimp only | (apply kept_foldl _ _ _ _ (by simp (maxDischargeDepth := 60) [*]); intro t x; try simp only)))
@[simp] theorem State.tempRead_kept (d : Nat) (tempC : Int) (s : State) {s₀ : State} (h₀ : Kept s₀ s) : Kept s₀ (State.tempRead d tempC s) := by
  unfold State.tempRead
  (repeat' (first | (simp (maxDischargeDepth := 60) [*]; done) | split | dsimp only | (apply kept_foldl _ _ _ _ (by simp (maxDischargeDepth := 60) [*]); intro t x; try simp only)))
@[simp] theorem State.grantFrom_kept (k : Nat) (w : BufWaiter) (s : State) {s₀ : State} (h₀ : Kept s₀ s) : Kept s₀ (State.grantFrom k w s) := by
  unfold State.grantFrom
  split
  · dsimp only
    split <;> refine kept_emit _ ?_
    · exact (State.count_kept _ _ _ _ (h₀.trans ⟨rfl, rfl, by simp [State.memOk], le_rfl, le_rfl, le_rfl, le_rfl, le_rfl⟩))
    · exact (h₀.trans ⟨rfl, rfl, by simp [State.memOk], le_rfl, le_rfl, le_rfl, le_rfl, le_rfl⟩)
  · exact h₀
@[simp] theorem State.grantReserved_kept (k : Nat) (w : BufWaiter) (s : State) {s₀ : State} (h₀ : Kept s₀ s) : Kept s₀ (State.grantReserved k w s) := by
  unfold State.grantReserved
  (repeat' (first | (simp (maxDischargeDepth := 60) [*]; done) | split | dsimp only | (apply kept_foldl _ _ _ _ (by simp (maxDischargeDepth := 60) [*]); intro t x; try simp only)))
@[simp] theorem State.admitHeld_kept (s : State) {s₀ : State} (h₀ : Kept s₀ s) : Kept s₀ (State.admitHeld s) := by
  unfold State.admitHeld
  dsimp only
  refine kept_modBpm _ (fun h => ?_) h₀
  have : ∀ (l : List BufWaiter) (b : Bpm), (l.foldl Bpm.enqueue b).sram = b.sram := by
    intro l; induction l with
    | nil => intro b; rfl
    | cons a l ih => intro b; exact (ih _).trans (by simp)
  rw [this]; exact h
@[simp] theorem State.holdOver_kept (s : State) {s₀ : State} (h₀ : Kept s₀ s) : Kept s₀ (State.holdOver s) := by
  unfold State.holdOver
  (repeat' (first | (simp (maxDischargeDepth := 60) [*]; done) | split | dsimp only | (apply kept_foldl _ _ _ _ (by simp (maxDischargeDepth := 60) [*]); intro t x; try simp only)))
@[simp] theorem State.bufRequest_kept (w : BufWaiter) (s : State) {s₀ : State} (h₀ : Kept s₀ s) : Kept s₀ (State.bufRequest w s) := by
  unfold State.bufRequest
  (repeat' (first | (simp (maxDischargeDepth := 60) [*]; done) | (with_reducible apply State.grantFrom_kept) | (with_reducible apply State.grantReserved_kept) | (with_reducible apply kept_modBpm) | split | dsimp only | (apply kept_foldl _ _ _ _ (by simp (maxDischargeDepth := 60) [*]); intro t x; try simp only)))
@[simp] theorem State.refuseBuf_kept (bit : Nat) (h : BitVec 24) (unit : Nat) (s : State) {s₀ : State} (h₀ : Kept s₀ s) : Kept s₀ (State.refuseBuf bit h unit s) := by
  unfold State.refuseBuf
  (repeat' (first | (simp (maxDischargeDepth := 60) [*]; done) | (with_reducible apply State.flag_kept) | (with_reducible apply kept_modBpm) | (with_reducible apply State.raiseExc_kept) | (with_reducible apply State.trigger_kept) | split | dsimp only | (apply kept_foldl _ _ _ _ (by simp (maxDischargeDepth := 60) [*]); intro t x; try simp only)))
@[simp] theorem State.retireBuf_kept (k i : Nat) (s : State) {s₀ : State} (h₀ : Kept s₀ s) : Kept s₀ (State.retireBuf k i s) := by
  unfold State.retireBuf
  (repeat' (first | (simp (maxDischargeDepth := 60) [*]; done) | split | dsimp only | (apply kept_foldl _ _ _ _ (by simp (maxDischargeDepth := 60) [*]); intro t x; try simp only)))
@[simp] theorem State.releaseBuf_kept (k i : Nat) (s : State) {s₀ : State} (h₀ : Kept s₀ s) : Kept s₀ (State.releaseBuf k i s) := by
  unfold State.releaseBuf
  dsimp only
  split
  · simp (maxDischargeDepth := 60) [*]
  · refine State.admitHeld_kept _ ?_
    have k1 : ∀ (g : Bpm → Bpm) (t : State), (∀ b : Bpm, (g b).sram = b.sram) → Kept s₀ t → Kept s₀ (t.modBpm g) :=
      fun g t hg ht => kept_modBpm g (by rw [hg]; exact id) ht
    repeat' first | exact h₀ | (refine k1 _ _ (fun b => by simp) ?_) | split
@[simp] theorem State.lastFree_kept (k i : Nat) (s : State) {s₀ : State} (h₀ : Kept s₀ s) : Kept s₀ (State.lastFree k i s) := by
  unfold State.lastFree
  (repeat' (first | (simp (maxDischargeDepth := 60) [*]; done) | split | dsimp only | (apply kept_foldl _ _ _ _ (by simp (maxDischargeDepth := 60) [*]); intro t x; try simp only)))
@[simp] theorem State.bufFree_kept (h : BitVec 24) (unit : Nat) (s : State) {s₀ : State} (h₀ : Kept s₀ s) : Kept s₀ (State.bufFree h unit s) := by
  unfold State.bufFree
  (repeat' (first | (simp (maxDischargeDepth := 60) [*]; done) | split | dsimp only | (apply kept_foldl _ _ _ _ (by simp (maxDischargeDepth := 60) [*]); intro t x; try simp only)))
@[simp] theorem State.freeBufsOf_kept (unit : Nat) (hs : List (BitVec 24)) (s : State) {s₀ : State} (h₀ : Kept s₀ s) : Kept s₀ (State.freeBufsOf unit hs s) := by
  unfold State.freeBufsOf
  (repeat' (first | (simp (maxDischargeDepth := 60) [*]; done) | split | dsimp only | (apply kept_foldl _ _ _ _ (by simp (maxDischargeDepth := 60) [*]); intro t x; try simp only)))
@[simp] theorem State.freeBufs_kept (hs : List (BitVec 24)) (s : State) {s₀ : State} (h₀ : Kept s₀ s) : Kept s₀ (State.freeBufs hs s) := by
  unfold State.freeBufs
  (repeat' (first | (simp (maxDischargeDepth := 60) [*]; done) | split | dsimp only | (apply kept_foldl _ _ _ _ (by simp (maxDischargeDepth := 60) [*]); intro t x; try simp only)))
@[simp] theorem State.chainStep_kept (unit : Nat) (h : BitVec 24) (s : State) {s₀ : State} (h₀ : Kept s₀ s) : Kept s₀ (State.chainStep unit h s) := by
  unfold State.chainStep
  (repeat' (first | (simp (maxDischargeDepth := 60) [*]; done) | split | dsimp only | (apply kept_foldl _ _ _ _ (by simp (maxDischargeDepth := 60) [*]); intro t x; try simp only)))
@[simp] theorem State.chainTick_kept (s : State) {s₀ : State} (h₀ : Kept s₀ s) : Kept s₀ (State.chainTick s) := by
  unfold State.chainTick
  (repeat' (first | (simp (maxDischargeDepth := 60) [*]; done) | split | dsimp only | (apply kept_foldl _ _ _ _ (by simp (maxDischargeDepth := 60) [*]); intro t x; try simp only)))
@[simp] theorem State.rebuildPools_kept (takeCounts : Bool) (s : State) {s₀ : State} (h₀ : Kept s₀ s) : Kept s₀ (State.rebuildPools takeCounts s) := by
  unfold State.rebuildPools
  (repeat' (first | (simp (maxDischargeDepth := 60) [*]; done) | split | dsimp only | (apply kept_foldl _ _ _ _ (by simp (maxDischargeDepth := 60) [*]); intro t x; try simp only)))
@[simp] theorem State.modSlice_kept (n : Nat) (f : SliceSt → SliceSt) (s : State) {s₀ : State} (h₀ : Kept s₀ s) : Kept s₀ (State.modSlice n f s) := by
  unfold State.modSlice
  (repeat' (first | (simp (maxDischargeDepth := 60) [*]; done) | split | dsimp only | (apply kept_foldl _ _ _ _ (by simp (maxDischargeDepth := 60) [*]); intro t x; try simp only)))
@[simp] theorem State.dlogWrite_kept (sl : Nat) (e : Dword) (s : State) {s₀ : State} (h₀ : Kept s₀ s) : Kept s₀ (State.dlogWrite sl e s) := by
  unfold State.dlogWrite
  (repeat' (first | (simp (maxDischargeDepth := 60) [*]; done) | split | dsimp only | (apply kept_foldl _ _ _ _ (by simp (maxDischargeDepth := 60) [*]); intro t x; try simp only)))
@[simp] theorem State.dlogEntry_kept (sl : Nat) (e : Dword) (s : State) {s₀ : State} (h₀ : Kept s₀ s) : Kept s₀ (State.dlogEntry sl e s) := by
  unfold State.dlogEntry
  (repeat' (first | (simp (maxDischargeDepth := 60) [*]; done) | split | dsimp only | (apply kept_foldl _ _ _ _ (by simp (maxDischargeDepth := 60) [*]); intro t x; try simp only)))
@[simp] theorem State.dlogDrain_kept (sl : Nat) (l : List Dword) (s : State) {s₀ : State} (h₀ : Kept s₀ s) : Kept s₀ (State.dlogDrain sl l s) := by
  induction l generalizing s with
  | nil => simpa [State.dlogDrain] using h₀
  | cons e es ih =>
    unfold State.dlogDrain
    split
    · exact h₀
    · exact ih _ (by simp (maxDischargeDepth := 60) [*])
@[simp] theorem State.dlogTick_kept (s : State) {s₀ : State} (h₀ : Kept s₀ s) : Kept s₀ (State.dlogTick s) := by
  unfold State.dlogTick
  (repeat' (first | (simp (maxDischargeDepth := 60) [*]; done) | split | dsimp only | (apply kept_foldl _ _ _ _ (by simp (maxDischargeDepth := 60) [*]); intro t x; try simp only)))
@[simp] theorem State.logExtents_kept (sl nsid first n : Nat) (s : State) {s₀ : State} (h₀ : Kept s₀ s) : Kept s₀ (State.logExtents sl nsid first n s) := by
  unfold State.logExtents
  (repeat' (first | (simp (maxDischargeDepth := 60) [*]; done) | split | dsimp only | (apply kept_foldl _ _ _ _ (by simp (maxDischargeDepth := 60) [*]); intro t x; try simp only)))
@[simp] theorem State.completeRead_kept (kind : CplKind) (addr : Nat) (data : List Byte) (s : State) {s₀ : State} (h₀ : Kept s₀ s) : Kept s₀ (State.completeRead kind addr data s) := by
  unfold State.completeRead
  (repeat' (first | (simp (maxDischargeDepth := 60) [*]; done) | exact id | exact le_rfl | (with_reducible apply kept_modHlu) | (with_reducible apply State.count_kept) | split | dsimp only | (apply kept_foldl _ _ _ _ (by simp (maxDischargeDepth := 60) [*]); intro t x; try simp only)))
@[simp] theorem State.complete_kept (kind : CplKind) (s : State) {s₀ : State} (h₀ : Kept s₀ s) : Kept s₀ (State.complete kind s) := by
  unfold State.complete
  (repeat' (first | (simp (maxDischargeDepth := 60) [*]; done) | split | dsimp only | (apply kept_foldl _ _ _ _ (by simp (maxDischargeDepth := 60) [*]); intro t x; try simp only)))
@[simp] theorem State.aerLog_kept (e : AerError) (s : State) {s₀ : State} (h₀ : Kept s₀ s) : Kept s₀ (State.aerLog e s) := by
  unfold State.aerLog
  (repeat' (first | (simp (maxDischargeDepth := 60) [*]; done) | split | dsimp only | (apply kept_foldl _ _ _ _ (by simp (maxDischargeDepth := 60) [*]); intro t x; try simp only)))
@[simp] theorem State.urTlp_kept (np : Bool) (s : State) {s₀ : State} (h₀ : Kept s₀ s) : Kept s₀ (State.urTlp np s) := by
  unfold State.urTlp
  (repeat' (first | (simp (maxDischargeDepth := 60) [*]; done) | split | dsimp only | (apply kept_foldl _ _ _ _ (by simp (maxDischargeDepth := 60) [*]); intro t x; try simp only)))
@[simp] theorem State.issueTag_kept (t : Nat) (use : TagUse) (fn sl : Nat) (untranslated : Bool) (s : State) {s₀ : State} (h₀ : Kept s₀ s) : Kept s₀ (State.issueTag t use fn sl untranslated s) := by
  unfold State.issueTag
  (repeat' (first | (simp (maxDischargeDepth := 60) [*]; done) | split | dsimp only | (apply kept_foldl _ _ _ _ (by simp (maxDischargeDepth := 60) [*]); intro t x; try simp only)))
@[simp] theorem State.askPage_kept (fn sl page : Nat) (s : State) {s₀ : State} (h₀ : Kept s₀ s) : Kept s₀ (State.askPage fn sl page s) := by
  unfold State.askPage
  (repeat' (first | (simp (maxDischargeDepth := 60) [*]; done) | split | dsimp only | (apply kept_foldl _ _ _ _ (by simp (maxDischargeDepth := 60) [*]); intro t x; try simp only)))
@[simp] theorem State.dmaWait_kept (d : DmaReq) (s : State) {s₀ : State} (h₀ : Kept s₀ s) : Kept s₀ (State.dmaWait d s) := by
  unfold State.dmaWait
  (repeat' (first | (simp (maxDischargeDepth := 60) [*]; done) | split | dsimp only | (apply kept_foldl _ _ _ _ (by simp (maxDischargeDepth := 60) [*]); intro t x; try simp only)))
@[simp] theorem State.dmaTry_kept (s : State) (d : DmaReq) {s₀ : State} (h₀ : Kept s₀ s) : Kept s₀ (State.dmaTry s d) := by
  unfold State.dmaTry
  (repeat' (first | (simp (maxDischargeDepth := 60) [*]; done) | split | dsimp only | (apply kept_foldl _ _ _ _ (by simp (maxDischargeDepth := 60) [*]); intro t x; try simp only)))
@[simp] theorem State.dmaIssue_kept (s : State) {s₀ : State} (h₀ : Kept s₀ s) : Kept s₀ (State.dmaIssue s) := by
  unfold State.dmaIssue
  (repeat' (first | (simp (maxDischargeDepth := 60) [*]; done) | split | dsimp only | (apply kept_foldl _ _ _ _ (by simp (maxDischargeDepth := 60) [*]); intro t x; try simp only)))
@[simp] theorem State.askList_kept (c : Nat) (s : State) {s₀ : State} (h₀ : Kept s₀ s) : Kept s₀ (State.askList c s) := by
  unfold State.askList
  (repeat' (first | (simp (maxDischargeDepth := 60) [*]; done) | split | dsimp only | (apply kept_foldl _ _ _ _ (by simp (maxDischargeDepth := 60) [*]); intro t x; try simp only)))
@[simp] theorem State.listArrives_kept (c len data : Nat) (s : State) {s₀ : State} (h₀ : Kept s₀ s) : Kept s₀ (State.listArrives c len data s) := by
  unfold State.listArrives
  (repeat' (first | (simp (maxDischargeDepth := 60) [*]; done) | split | dsimp only | (apply kept_foldl _ _ _ _ (by simp (maxDischargeDepth := 60) [*]); intro t x; try simp only)))
@[simp] theorem State.journal_kept (r : JournalRecord) (s : State) {s₀ : State} (h₀ : Kept s₀ s) : Kept s₀ (State.journal r s) := by
  unfold State.journal
  (repeat' (first | (simp (maxDischargeDepth := 60) [*]; done) | split | dsimp only | (apply kept_foldl _ _ _ _ (by simp (maxDischargeDepth := 60) [*]); intro t x; try simp only)))
@[simp] theorem State.loseEntry_kept (nsid g cause : Nat) (s : State) {s₀ : State} (h₀ : Kept s₀ s) : Kept s₀ (State.loseEntry nsid g cause s) := by
  unfold State.loseEntry
  (repeat' (first | (simp (maxDischargeDepth := 60) [*]; done) | split | dsimp only | (apply kept_foldl _ _ _ _ (by simp (maxDischargeDepth := 60) [*]); intro t x; try simp only)))
@[simp] theorem State.placeGranule_kept (nsid g dsn : Nat) (lost : List Nat) (s : State) {s₀ : State} (h₀ : Kept s₀ s) : Kept s₀ (State.placeGranule nsid g dsn lost s) := by
  unfold State.placeGranule
  (repeat' (first | (simp (maxDischargeDepth := 60) [*]; done) | split | dsimp only | (apply kept_foldl _ _ _ _ (by simp (maxDischargeDepth := 60) [*]); intro t x; try simp only)))
@[simp] theorem State.mergeSlot_kept (nsid g dsn k : Nat) (old : SlotData) (lost : Bool) (s : State) {s₀ : State} (h₀ : Kept s₀ s) : Kept s₀ (State.mergeSlot nsid g dsn k old lost s) := by
  unfold State.mergeSlot
  (repeat' (first | (simp (maxDischargeDepth := 60) [*]; done) | split | dsimp only | (apply kept_foldl _ _ _ _ (by simp (maxDischargeDepth := 60) [*]); intro t x; try simp only)))
@[simp] theorem State.mergeKnown_kept (l : LockHold) (s : State) {s₀ : State} (h₀ : Kept s₀ s) : Kept s₀ (State.mergeKnown l s) := by
  unfold State.mergeKnown
  (repeat' (first | (simp (maxDischargeDepth := 60) [*]; done) | split | dsimp only | (apply kept_foldl _ _ _ _ (by simp (maxDischargeDepth := 60) [*]); intro t x; try simp only)))
@[simp] theorem State.lockStart_kept (s : State) {s₀ : State} (h₀ : Kept s₀ s) : Kept s₀ (State.lockStart s) := by
  unfold State.lockStart
  (repeat' (first | (simp (maxDischargeDepth := 60) [*]; done) | split | dsimp only | (apply kept_foldl _ _ _ _ (by simp (maxDischargeDepth := 60) [*]); intro t x; try simp only)))
theorem State.takeBufs_kept (unit : Nat) (sl : Option Nat) (ns : List Nat) (p : Option (BitVec 24)) (s s' : State) (hs : List (BitVec 24))
    (h : s.takeBufs unit sl ns p = some (s', hs)) : Kept s s' := by
  induction ns generalizing s p hs with
  | nil =>
    simp only [State.takeBufs, Option.some.injEq, Prod.mk.injEq] at h
    rw [← h.1]
    exact Kept.refl s
  | cons n ns ih =>
    unfold State.takeBufs at h
    split at h
    · cases h
    · split at h
      · split at h
        · cases h
        · split at h
          · simp only [Option.map_eq_some_iff] at h
            obtain ⟨⟨t, ks⟩, ht, he⟩ := h
            simp only [Prod.mk.injEq] at he
            cases he.1
            exact (State.grantFrom_kept _ _ _ (Kept.refl s)).trans (ih _ _ _ ht)
          · cases h
      · cases h
theorem State.takeReserved_kept (unit : Nat) (sl : Option Nat) (k n : Nat) (p : Option (BitVec 24)) (s s' : State) (hs : List (BitVec 24))
    (h : s.takeReserved unit sl k n p = some (s', hs)) : Kept s s' := by
  induction n generalizing s p hs with
  | zero =>
    simp only [State.takeReserved, Option.some.injEq, Prod.mk.injEq] at h
    rw [← h.1]
    exact Kept.refl s
  | succ n ih =>
    unfold State.takeReserved at h
    split at h
    · cases h
    · split at h
      · simp only [Option.map_eq_some_iff] at h
        obtain ⟨⟨t, ks⟩, ht, he⟩ := h
        simp only [Prod.mk.injEq] at he
        cases he.1
        exact (State.grantReserved_kept _ _ _ (Kept.refl s)).trans (ih _ _ _ ht)
      · cases h
theorem State.takeSet_kept (urgent : Bool) (s t : State) (hs : List (BitVec 24)) (h : State.takeSet urgent s = some (t, hs)) : Kept s t := by
  unfold State.takeSet at h
  split at h
  · cases h
    exact (State.takeBufs_kept _ _ _ _ _ _ _ ‹_›)
  · split at h
    · exact (State.takeReserved_kept _ _ _ _ _ _ _ _ h)
    · cases h
theorem State.takeFrames_kept (urgent : Bool) (l : List (Loc × Bool)) (s t : State) (h : State.takeFrames urgent l s = some t) : Kept s t := by
  induction l generalizing s with
  | nil =>
    simp only [State.takeFrames, Option.some.injEq] at h
    rw [← h]
    exact Kept.refl s
  | cons f fs ih =>
    unfold State.takeFrames at h
    split at h
    · exact (kept_modCdx _ ((State.takeSet_kept _ _ _ _ ‹_›))).trans (ih _ h)
    · cases h
@[simp] theorem State.sweepRaw_kept (s : State) {s₀ : State} (h₀ : Kept s₀ s) : Kept s₀ (State.sweepRaw s) := by
  unfold State.sweepRaw
  (repeat' (first | (simp (maxDischargeDepth := 60) [*]; done) | split | dsimp only | (apply kept_foldl _ _ _ _ (by simp (maxDischargeDepth := 60) [*]); intro t x; try simp only)))
@[simp] theorem State.xferFrames_kept (x : Xfer) (s : State) {s₀ : State} (h₀ : Kept s₀ s) : Kept s₀ (State.xferFrames x s) := by
  refine h₀.trans ?_
  clear h₀
  unfold State.xferFrames
  split
  · exact Kept.refl _
  · split
    · exact (State.takeFrames_kept _ _ _ _ ‹_›)
    · exact Kept.refl _
@[simp] theorem State.xferPiece_kept (s : State) (ch : Nat) {s₀ : State} (h₀ : Kept s₀ s) : Kept s₀ (State.xferPiece s ch) := by
  unfold State.xferPiece
  (repeat' (first | (simp (maxDischargeDepth := 60) [*]; done) | split | dsimp only | (apply kept_foldl _ _ _ _ (by simp (maxDischargeDepth := 60) [*]); intro t x; try simp only)))
@[simp] theorem State.xferTick_kept (s : State) {s₀ : State} (h₀ : Kept s₀ s) : Kept s₀ (State.xferTick s) := by
  unfold State.xferTick
  (repeat' (first | (simp (maxDischargeDepth := 60) [*]; done) | split | dsimp only | (apply kept_foldl _ _ _ _ (by simp (maxDischargeDepth := 60) [*]); intro t x; try simp only)))
theorem State.copyBuf_kept (num p : Nat) (s t : State) (h : BitVec 24) (e : s.copyBuf num p = some (t, h)) : Kept s t := by
  unfold State.copyBuf at e
  (repeat' split at e) <;> cases e
  · exact Kept.refl _
  · exact kept_modMxe _ le_rfl le_rfl le_rfl ((State.takeBufs_kept _ _ _ _ _ _ _ ‹_›))
theorem State.copyStage_kept (num k : Nat) (d : SlotData) (s : State) : Kept s (State.copyStage num k d s).1 := by
  unfold State.copyStage
  split
  · have k := (State.copyBuf_kept _ _ _ _ _ ‹_›)
    simp (maxDischargeDepth := 60) [k]
  · exact Kept.refl _
@[simp] theorem State.sweepJobBufs_kept (s : State) {s₀ : State} (h₀ : Kept s₀ s) : Kept s₀ (State.sweepJobBufs s) := by
  unfold State.sweepJobBufs
  (repeat' (first | (simp (maxDischargeDepth := 60) [*]; done) | split | dsimp only | (apply kept_foldl _ _ _ _ (by simp (maxDischargeDepth := 60) [*]); intro t x; try simp only)))
@[simp] theorem State.jobSlot_kept (num k : Nat) (c : SlotCell) (s : State) {s₀ : State} (h₀ : Kept s₀ s) : Kept s₀ (State.jobSlot num k c s) := by
  refine h₀.trans ?_
  clear h₀
  unfold State.jobSlot
  split
  rename_i t a ht
  have q := (State.copyStage_kept num k c.data s)
  rw [ht] at q
  dsimp only at q ⊢
  (repeat' split) <;> first | exact q | exact kept_modMxe _ le_rfl le_rfl le_rfl q
@[simp] theorem State.relocateNow_kept (nsid g : Nat) (src : Loc) (high : Bool) (s : State) {s₀ : State} (h₀ : Kept s₀ s) : Kept s₀ (State.relocateNow nsid g src high s) := by
  unfold State.relocateNow
  (repeat' (first | (simp (maxDischargeDepth := 60) [*]; done) | split | dsimp only | (apply kept_foldl _ _ _ _ (by simp (maxDischargeDepth := 60) [*]); intro t x; try simp only)))
@[simp] theorem State.freeCtx_kept (c : Nat) (s : State) {s₀ : State} (h₀ : Kept s₀ s) : Kept s₀ (State.freeCtx c s) := by
  unfold State.freeCtx
  (repeat' (first | (simp (maxDischargeDepth := 60) [*]; done) | split | dsimp only | (apply kept_foldl _ _ _ _ (by simp (maxDischargeDepth := 60) [*]); intro t x; try simp only)))
@[simp] theorem State.sendPiece_kept (c : Nat) (x : Ctx) (p : Nat × Nat × Nat) (s : State) {s₀ : State} (h₀ : Kept s₀ s) : Kept s₀ (State.sendPiece c x p s) := by
  unfold State.sendPiece
  (repeat' (first | (simp (maxDischargeDepth := 60) [*]; done) | split | dsimp only | (apply kept_foldl _ _ _ _ (by simp (maxDischargeDepth := 60) [*]); intro t x; try simp only)))
@[simp] theorem State.sendPieces_kept (c : Nat) (x : Ctx) (l : List (Nat × Nat × Nat)) (s : State) {s₀ : State} (h₀ : Kept s₀ s) : Kept s₀ (State.sendPieces c x l s) := by
  refine h₀.trans ?_
  clear h₀
  induction l generalizing s with
  | nil => simp [State.sendPieces]
  | cons p ps ih =>
    unfold State.sendPieces
    split
    · simp
    · split
      · exact Kept.trans (by simp (maxDischargeDepth := 60)) (ih _)
      · simp (maxDischargeDepth := 60)
@[simp] theorem State.dataOut_kept (c : Nat) (x : Ctx) (s : State) {s₀ : State} (h₀ : Kept s₀ s) : Kept s₀ (State.dataOut c x s) := by
  unfold State.dataOut
  (repeat' (first | (simp (maxDischargeDepth := 60) [*]; done) | split | dsimp only | (apply kept_foldl _ _ _ _ (by simp (maxDischargeDepth := 60) [*]); intro t x; try simp only)))
@[simp] theorem State.readAdvance_kept (c : Nat) (s : State) {s₀ : State} (h₀ : Kept s₀ s) : Kept s₀ (State.readAdvance c s) := by
  unfold State.readAdvance
  (repeat' (first | (simp (maxDischargeDepth := 60) [*]; done) | split | dsimp only | (apply kept_foldl _ _ _ _ (by simp (maxDischargeDepth := 60) [*]); intro t x; try simp only)))
@[simp] theorem State.dataResume_kept (s : State) {s₀ : State} (h₀ : Kept s₀ s) : Kept s₀ (State.dataResume s) := by
  unfold State.dataResume
  (repeat' (first | (simp (maxDischargeDepth := 60) [*]; done) | split | dsimp only | (apply kept_foldl _ _ _ _ (by simp (maxDischargeDepth := 60) [*]); intro t x; try simp only)))
theorem State.slotBuf_kept (x : Ctx) (s t : State) (h : BitVec 24) (e : State.slotBuf x s = some (t, h)) : Kept s t := by
  unfold State.slotBuf at e
  (repeat' split at e) <;> cases e
  · exact (State.takeBufs_kept _ _ _ _ _ _ _ ‹_›)
  · exact (State.takeReserved_kept _ _ _ _ _ _ _ _ ‹_›)
@[simp] theorem State.readSlot_kept (c : Nat) (x : Ctx) (w : SlotWork) (d : Option SlotData) (status : Nat) (s : State) {s₀ : State} (h₀ : Kept s₀ s) : Kept s₀ (State.readSlot c x w d status s) := by
  refine h₀.trans ?_
  clear h₀
  unfold State.readSlot
  have k : Kept s (match d, s.slotBuf x with
      | some v, some (t, h) => (t.modBpm fun b => b.sramWrite (b.offset (hPool h) (hIdx h)) (leBytes 4096 v.toNat), some h)
      | _, _ => (s, none)).1 := by
    split
    · have k := (State.slotBuf_kept _ _ _ _ ‹_›)
      simp [k]
    · exact Kept.refl _
  dsimp only at k ⊢
  exact State.readAdvance_kept _ _ (State.modCtx_kept _ _ _ k)
@[simp] theorem State.countL5_kept (l : Loc) (v : Nat) (s : State) {s₀ : State} (h₀ : Kept s₀ s) : Kept s₀ (State.countL5 l v s) := by
  unfold State.countL5
  (repeat' (first | (simp (maxDischargeDepth := 60) [*]; done) | split | dsimp only | (apply kept_foldl _ _ _ _ (by simp (maxDischargeDepth := 60) [*]); intro t x; try simp only)))
@[simp] theorem State.afterDecode_kept (l : Loc) (v : Nat) (s : State) {s₀ : State} (h₀ : Kept s₀ s) : Kept s₀ (State.afterDecode l v s) := by
  unfold State.afterDecode
  (repeat' (first | (simp (maxDischargeDepth := 60) [*]; done) | split | dsimp only | (apply kept_foldl _ _ _ _ (by simp (maxDischargeDepth := 60) [*]); intro t x; try simp only)))
@[simp] theorem State.unrecovered_kept (l : Loc) (s : State) {s₀ : State} (h₀ : Kept s₀ s) : Kept s₀ (State.unrecovered l s) := by
  unfold State.unrecovered
  (repeat' (first | (simp (maxDischargeDepth := 60) [*]; done) | split | dsimp only | (apply kept_foldl _ _ _ _ (by simp (maxDischargeDepth := 60) [*]); intro t x; try simp only)))
@[simp] theorem State.deliver_kept (c : SlotCell) (v : Nat) (r : Reader) (s : State) {s₀ : State} (h₀ : Kept s₀ s) : Kept s₀ (State.deliver c v r s) := by
  unfold State.deliver
  (repeat' (first | (simp (maxDischargeDepth := 60) [*]; done) | split | dsimp only | (apply kept_foldl _ _ _ _ (by simp (maxDischargeDepth := 60) [*]); intro t x; try simp only)))
@[simp] theorem State.deliverLost_kept (r : Reader) (s : State) {s₀ : State} (h₀ : Kept s₀ s) : Kept s₀ (State.deliverLost r s) := by
  unfold State.deliverLost
  (repeat' (first | (simp (maxDischargeDepth := 60) [*]; done) | split | dsimp only | (apply kept_foldl _ _ _ _ (by simp (maxDischargeDepth := 60) [*]); intro t x; try simp only)))
@[simp] theorem State.misdirected_kept (l : Loc) (r : Reader) (s : State) {s₀ : State} (h₀ : Kept s₀ s) : Kept s₀ (State.misdirected l r s) := by
  unfold State.misdirected
  (repeat' (first | (simp (maxDischargeDepth := 60) [*]; done) | split | dsimp only | (apply kept_foldl _ _ _ _ (by simp (maxDischargeDepth := 60) [*]); intro t x; try simp only)))
@[simp] theorem State.correct_kept (l : Loc) (attempt : Nat) (s : State) {s₀ : State} (h₀ : Kept s₀ s) : Kept s₀ (State.correct l attempt s) := by
  unfold State.correct
  (repeat' (first | (simp (maxDischargeDepth := 60) [*]; done) | split | dsimp only | (apply kept_foldl _ _ _ _ (by simp (maxDischargeDepth := 60) [*]); intro t x; try simp only)))
@[simp] theorem State.frameEnds_kept (l : Loc) (s : State) {s₀ : State} (h₀ : Kept s₀ s) : Kept s₀ (State.frameEnds l s) := by
  unfold State.frameEnds
  (repeat' (first | (simp (maxDischargeDepth := 60) [*]; done) | split | dsimp only | (apply kept_foldl _ _ _ _ (by simp (maxDischargeDepth := 60) [*]); intro t x; try simp only)))
@[simp] theorem State.climbTo_kept (l : Loc) (k : Nat) (st : Nat × Nat) (r : Reader) (s : State) {s₀ : State} (h₀ : Kept s₀ s) : Kept s₀ (State.climbTo l k st r s) := by
  unfold State.climbTo
  (repeat' (first | (simp (maxDischargeDepth := 60) [*]; done) | split | dsimp only | (apply kept_foldl _ _ _ _ (by simp (maxDischargeDepth := 60) [*]); intro t x; try simp only)))
@[simp] theorem State.dropRecovery_kept (s : State) {s₀ : State} (h₀ : Kept s₀ s) : Kept s₀ (State.dropRecovery s) := by
  unfold State.dropRecovery
  (repeat' (first | (simp (maxDischargeDepth := 60) [*]; done) | split | dsimp only | (apply kept_foldl _ _ _ _ (by simp (maxDischargeDepth := 60) [*]); intro t x; try simp only)))
@[simp] theorem State.decodeRead_kept (l : Loc) (res : DecodeResult) (s : State) {s₀ : State} (h₀ : Kept s₀ s) : Kept s₀ (State.decodeRead l res s) := by
  unfold State.decodeRead
  (repeat' (first | (simp (maxDischargeDepth := 60) [*]; done) | split | dsimp only | (apply kept_foldl _ _ _ _ (by simp (maxDischargeDepth := 60) [*]); intro t x; try simp only)))
@[simp] theorem State.verifyPass_kept (k : Nat) (s : State) {s₀ : State} (h₀ : Kept s₀ s) : Kept s₀ (State.verifyPass k s) := by
  unfold State.verifyPass
  (repeat' (first | (simp (maxDischargeDepth := 60) [*]; done) | split | dsimp only | (apply kept_foldl _ _ _ _ (by simp (maxDischargeDepth := 60) [*]); intro t x; try simp only)))
@[simp] theorem State.verifyFail_kept (l : Loc) (s : State) {s₀ : State} (h₀ : Kept s₀ s) : Kept s₀ (State.verifyFail l s) := by
  unfold State.verifyFail
  (repeat' (first | (simp (maxDischargeDepth := 60) [*]; done) | split | dsimp only | (apply kept_foldl _ _ _ _ (by simp (maxDischargeDepth := 60) [*]); intro t x; try simp only)))
@[simp] theorem State.readAgain_kept (l : Loc) (s : State) {s₀ : State} (h₀ : Kept s₀ s) : Kept s₀ (State.readAgain l s) := by
  unfold State.readAgain
  (repeat' (first | (simp (maxDischargeDepth := 60) [*]; done) | split | dsimp only | (apply kept_foldl _ _ _ _ (by simp (maxDischargeDepth := 60) [*]); intro t x; try simp only)))
@[simp] theorem State.verifyEnds_kept (l : Loc) (s : State) {s₀ : State} (h₀ : Kept s₀ s) : Kept s₀ (State.verifyEnds l s) := by
  unfold State.verifyEnds
  (repeat' (first | (simp (maxDischargeDepth := 60) [*]; done) | split | dsimp only | (apply kept_foldl _ _ _ _ (by simp (maxDischargeDepth := 60) [*]); intro t x; try simp only)))
@[simp] theorem State.storeTheta_kept (s : State) {s₀ : State} (h₀ : Kept s₀ s) : Kept s₀ (State.storeTheta s) := by
  unfold State.storeTheta
  (repeat' (first | (simp (maxDischargeDepth := 60) [*]; done) | split | dsimp only | (apply kept_foldl _ _ _ _ (by simp (maxDischargeDepth := 60) [*]); intro t x; try simp only)))
@[simp] theorem State.addOffInterval_kept (s : State) {s₀ : State} (h₀ : Kept s₀ s) : Kept s₀ (State.addOffInterval s) := by
  unfold State.addOffInterval
  (repeat' (first | (simp (maxDischargeDepth := 60) [*]; done) | split | dsimp only | (apply kept_foldl _ _ _ _ (by simp (maxDischargeDepth := 60) [*]); intro t x; try simp only)))
@[simp] theorem State.fleetNowValid_kept (s : State) {s₀ : State} (h₀ : Kept s₀ s) : Kept s₀ (State.fleetNowValid s) := by
  unfold State.fleetNowValid
  (repeat' (first | (simp (maxDischargeDepth := 60) [*]; done) | split | dsimp only | (apply kept_foldl _ _ _ _ (by simp (maxDischargeDepth := 60) [*]); intro t x; try simp only)))
@[simp] theorem State.scrubSample_kept (x : ScrubSample) (s : State) {s₀ : State} (h₀ : Kept s₀ s) : Kept s₀ (State.scrubSample x s) := by
  unfold State.scrubSample
  (repeat' (first | (simp (maxDischargeDepth := 60) [*]; done) | split | dsimp only | (apply kept_foldl _ _ _ _ (by simp (maxDischargeDepth := 60) [*]); intro t x; try simp only)))
@[simp] theorem State.scrubPeriod_kept (s : State) {s₀ : State} (h₀ : Kept s₀ s) : Kept s₀ (State.scrubPeriod s) := by
  unfold State.scrubPeriod
  (repeat' (first | (simp (maxDischargeDepth := 60) [*]; done) | split | dsimp only | (apply kept_foldl _ _ _ _ (by simp (maxDischargeDepth := 60) [*]); intro t x; try simp only)))
@[simp] theorem State.wearSteps_kept (p : Nat) (s : State) {s₀ : State} (h₀ : Kept s₀ s) : Kept s₀ (State.wearSteps p s) := by
  unfold State.wearSteps
  (repeat' (first | (simp (maxDischargeDepth := 60) [*]; done) | split | dsimp only | (apply kept_foldl _ _ _ _ (by simp (maxDischargeDepth := 60) [*]); intro t x; try simp only)))
@[simp] theorem State.keyStart_kept (op : KeyOp) (code slot : Nat) (s : State) {s₀ : State} (h₀ : Kept s₀ s) : Kept s₀ (State.keyStart op code slot s) := by
  unfold State.keyStart
  (repeat' (first | (simp (maxDischargeDepth := 60) [*]; done) | split | dsimp only | (apply kept_foldl _ _ _ _ (by simp (maxDischargeDepth := 60) [*]); intro t x; try simp only)))
@[simp] theorem State.keyLoaded_kept (slot : Nat) (s : State) {s₀ : State} (h₀ : Kept s₀ s) : Kept s₀ (State.keyLoaded slot s) := by
  unfold State.keyLoaded
  (repeat' (first | (simp (maxDischargeDepth := 60) [*]; done) | split | dsimp only | (apply kept_foldl _ _ _ _ (by simp (maxDischargeDepth := 60) [*]); intro t x; try simp only)))
@[simp] theorem State.keyGenerated_kept (slot : Nat) (s : State) {s₀ : State} (h₀ : Kept s₀ s) : Kept s₀ (State.keyGenerated slot s) := by
  unfold State.keyGenerated
  (repeat' (first | (simp (maxDischargeDepth := 60) [*]; done) | split | dsimp only | (apply kept_foldl _ _ _ _ (by simp (maxDischargeDepth := 60) [*]); intro t x; try simp only)))
@[simp] theorem State.dramLog_kept (c : DramCoord) (uncorr : Bool) (dev : Nat) (s : State) {s₀ : State} (h₀ : Kept s₀ s) : Kept s₀ (State.dramLog c uncorr dev s) := by
  unfold State.dramLog
  (repeat' (first | (simp (maxDischargeDepth := 60) [*]; done) | split | dsimp only | (apply kept_foldl _ _ _ _ (by simp (maxDischargeDepth := 60) [*]); intro t x; try simp only)))
@[simp] theorem State.dramEcc_kept (addr : Nat) (e : EccResult) (s : State) {s₀ : State} (h₀ : Kept s₀ s) : Kept s₀ (State.dramEcc addr e s) := by
  unfold State.dramEcc
  (repeat' (first | (simp (maxDischargeDepth := 60) [*]; done) | split | dsimp only | (apply kept_foldl _ _ _ _ (by simp (maxDischargeDepth := 60) [*]); intro t x; try simp only)))
@[simp] theorem State.activate_kept (c : DramCoord) (s : State) {s₀ : State} (h₀ : Kept s₀ s) : Kept s₀ (State.activate c s) := by
  unfold State.activate
  (repeat' (first | (simp (maxDischargeDepth := 60) [*]; done) | split | dsimp only | (apply kept_foldl _ _ _ _ (by simp (maxDischargeDepth := 60) [*]); intro t x; try simp only)))
@[simp] theorem State.pageAfter_kept (r : DramReq) (hit : Bool) (s : State) {s₀ : State} (h₀ : Kept s₀ s) : Kept s₀ (State.pageAfter r hit s) := by
  unfold State.pageAfter
  (repeat' (first | (simp (maxDischargeDepth := 60) [*]; done) | split | dsimp only | (apply kept_foldl _ _ _ _ (by simp (maxDischargeDepth := 60) [*]); intro t x; try simp only)))
@[simp] theorem State.dramAnswer_kept (from_ : DramRequester) (addr data : Nat) (poison : Bool) (s : State) {s₀ : State} (h₀ : Kept s₀ s) : Kept s₀ (State.dramAnswer from_ addr data poison s) := by
  unfold State.dramAnswer
  (repeat' (first | (simp (maxDischargeDepth := 60) [*]; done) | split | dsimp only | (apply kept_foldl _ _ _ _ (by simp (maxDischargeDepth := 60) [*]); intro t x; try simp only)))
@[simp] theorem State.dramServe_kept (r : DramReq) (s : State) {s₀ : State} (h₀ : Kept s₀ s) : Kept s₀ (State.dramServe r s) := by
  unfold State.dramServe
  (repeat' (first | (simp (maxDischargeDepth := 60) [*]; done) | split | dsimp only | (apply kept_foldl _ _ _ _ (by simp (maxDischargeDepth := 60) [*]); intro t x; try simp only)))
@[simp] theorem State.dramTurn_kept (x : Nat) (s : State) {s₀ : State} (h₀ : Kept s₀ s) : Kept s₀ (State.dramTurn x s) := by
  unfold State.dramTurn
  (repeat' (first | (simp (maxDischargeDepth := 60) [*]; done) | split | dsimp only | (apply kept_foldl _ _ _ _ (by simp (maxDischargeDepth := 60) [*]); intro t x; try simp only)))
@[simp] theorem State.dramTick_kept (s : State) {s₀ : State} (h₀ : Kept s₀ s) : Kept s₀ (State.dramTick s) := by
  unfold State.dramTick
  (repeat' (first | (simp (maxDischargeDepth := 60) [*]; done) | split | dsimp only | (apply kept_foldl _ _ _ _ (by simp (maxDischargeDepth := 60) [*]); intro t x; try simp only)))
@[simp] theorem State.dramEnqueue_kept (a : DramAccess) (ecc : EccResult) (s : State) {s₀ : State} (h₀ : Kept s₀ s) : Kept s₀ (State.dramEnqueue a ecc s) := by
  unfold State.dramEnqueue
  (repeat' (first | (simp (maxDischargeDepth := 60) [*]; done) | split | dsimp only | (apply kept_foldl _ _ _ _ (by simp (maxDischargeDepth := 60) [*]); intro t x; try simp only)))
@[simp] theorem State.refTaken_kept (x : Nat) (s : State) {s₀ : State} (h₀ : Kept s₀ s) : Kept s₀ (State.refTaken x s) := by
  unfold State.refTaken
  (repeat' (first | (simp (maxDischargeDepth := 60) [*]; done) | split | dsimp only | (apply kept_foldl _ _ _ _ (by simp (maxDischargeDepth := 60) [*]); intro t x; try simp only)))
@[simp] theorem State.channelDead_kept (ch : Nat) (s : State) {s₀ : State} (h₀ : Kept s₀ s) : Kept s₀ (State.channelDead ch s) := by
  unfold State.channelDead
  (repeat' (first | (simp (maxDischargeDepth := 60) [*]; done) | split | dsimp only | (apply kept_foldl _ _ _ _ (by simp (maxDischargeDepth := 60) [*]); intro t x; try simp only)))
@[simp] theorem State.caRetrain_kept (ch : Nat) (s : State) {s₀ : State} (h₀ : Kept s₀ s) : Kept s₀ (State.caRetrain ch s) := by
  unfold State.caRetrain
  (repeat' (first | (simp (maxDischargeDepth := 60) [*]; done) | (with_reducible apply State.count_kept) | (with_reducible apply kept_emit) | (with_reducible apply kept_modDmc) | (with_reducible apply State.trigger_kept) | split | dsimp only | (apply kept_foldl _ _ _ _ (by simp (maxDischargeDepth := 60) [*]); intro t x; try simp only)))
@[simp] theorem State.replayCmds_kept (ch : Nat) (s : State) {s₀ : State} (h₀ : Kept s₀ s) : Kept s₀ (State.replayCmds ch s) := by
  unfold State.replayCmds
  refine kept_foldl _ _ _ _ ?_ ?_
  · exact kept_emit _ (kept_modDmc _ id (State.count_kept _ _ _ _ h₀))
  · intro t x
    split
    · exact Kept.refl t
    · exact kept_emit _ (Kept.refl t)
@[simp] theorem State.dramTrain_kept (ch : Nat) (s : State) {s₀ : State} (h₀ : Kept s₀ s) : Kept s₀ (State.dramTrain ch s) := by
  unfold State.dramTrain
  (repeat' (first | (simp (maxDischargeDepth := 60) [*]; done) | split | dsimp only | (apply kept_foldl _ _ _ _ (by simp (maxDischargeDepth := 60) [*]); intro t x; try simp only)))
@[simp] theorem State.retStore_kept (n : Nat) (e : RetEntry) (s : State) {s₀ : State} (h₀ : Kept s₀ s) : Kept s₀ (State.retStore n e s) := by
  unfold State.retStore
  (repeat' (first | (simp (maxDischargeDepth := 60) [*]; done) | split | dsimp only | (apply kept_foldl _ _ _ _ (by simp (maxDischargeDepth := 60) [*]); intro t x; try simp only)))
@[simp] theorem State.retireGo_kept (n : Nat) (s : State) {s₀ : State} (h₀ : Kept s₀ s) : Kept s₀ (State.retireGo n s) := by
  unfold State.retireGo
  (repeat' (first | (simp (maxDischargeDepth := 60) [*]; done) | split | dsimp only | (apply kept_foldl _ _ _ _ (by simp (maxDischargeDepth := 60) [*]); intro t x; try simp only)))
@[simp] theorem State.retReload_kept (s : State) {s₀ : State} (h₀ : Kept s₀ s) : Kept s₀ (State.retReload s) := by
  unfold State.retReload
  (repeat' (first | (simp (maxDischargeDepth := 60) [*]; done) | split | dsimp only | (apply kept_foldl _ _ _ _ (by simp (maxDischargeDepth := 60) [*]); intro t x; try simp only)))
@[simp] theorem State.srEnter_kept (s : State) {s₀ : State} (h₀ : Kept s₀ s) : Kept s₀ (State.srEnter s) := by
  unfold State.srEnter
  (repeat' (first | (simp (maxDischargeDepth := 60) [*]; done) | (with_reducible apply State.count_kept) | (with_reducible apply kept_emit) | (with_reducible apply kept_modDmc) | split | dsimp only | (apply kept_foldl _ _ _ _ (by simp (maxDischargeDepth := 60) [*]); intro t x; try simp only)))
@[simp] theorem State.srExit_kept (s : State) {s₀ : State} (h₀ : Kept s₀ s) : Kept s₀ (State.srExit s) := by
  unfold State.srExit
  (repeat' (first | (simp (maxDischargeDepth := 60) [*]; done) | split | dsimp only | (apply kept_foldl _ _ _ _ (by simp (maxDischargeDepth := 60) [*]); intro t x; try simp only)))
@[simp] theorem State.setHum_kept (st : HumState) (s : State) {s₀ : State} (h₀ : Kept s₀ s) : Kept s₀ (State.setHum st s) := by
  unfold State.setHum
  (repeat' (first | (simp (maxDischargeDepth := 60) [*]; done) | split | dsimp only | (apply kept_foldl _ _ _ _ (by simp (maxDischargeDepth := 60) [*]); intro t x; try simp only)))
@[simp] theorem State.humEval_kept (s : State) {s₀ : State} (h₀ : Kept s₀ s) : Kept s₀ (State.humEval s) := by
  unfold State.humEval
  (repeat' (first | (simp (maxDischargeDepth := 60) [*]; done) | split | dsimp only | (apply kept_foldl _ _ _ _ (by simp (maxDischargeDepth := 60) [*]); intro t x; try simp only)))
@[simp] theorem State.humInvalidate_kept (s : State) {s₀ : State} (h₀ : Kept s₀ s) : Kept s₀ (State.humInvalidate s) := by
  unfold State.humInvalidate
  (repeat' (first | (simp (maxDischargeDepth := 60) [*]; done) | split | dsimp only | (apply kept_foldl _ _ _ _ (by simp (maxDischargeDepth := 60) [*]); intro t x; try simp only)))
@[simp] theorem State.humInit_kept (s : State) {s₀ : State} (h₀ : Kept s₀ s) : Kept s₀ (State.humInit s) := by
  unfold State.humInit
  (repeat' (first | (simp (maxDischargeDepth := 60) [*]; done) | split | dsimp only | (apply kept_foldl _ _ _ _ (by simp (maxDischargeDepth := 60) [*]); intro t x; try simp only)))
@[simp] theorem State.resetHum_kept (s : State) {s₀ : State} (h₀ : Kept s₀ s) : Kept s₀ (State.resetHum s) := by
  unfold State.resetHum
  (repeat' (first | (simp (maxDischargeDepth := 60) [*]; done) | split | dsimp only | (apply kept_foldl _ _ _ _ (by simp (maxDischargeDepth := 60) [*]); intro t x; try simp only)))
@[simp] theorem State.startTest_kept (s : State) {s₀ : State} (h₀ : Kept s₀ s) : Kept s₀ (State.startTest s) := by
  unfold State.startTest
  (repeat' (first | (simp (maxDischargeDepth := 60) [*]; done) | split | dsimp only | (apply kept_foldl _ _ _ _ (by simp (maxDischargeDepth := 60) [*]); intro t x; try simp only)))
@[simp] theorem State.testGo_kept (s : State) {s₀ : State} (h₀ : Kept s₀ s) : Kept s₀ (State.testGo s) := by
  unfold State.testGo
  (repeat' (first | (simp (maxDischargeDepth := 60) [*]; done) | split | dsimp only | (apply kept_foldl _ _ _ _ (by simp (maxDischargeDepth := 60) [*]); intro t x; try simp only)))
@[simp] theorem State.testPass_kept (c : Nat) (s : State) {s₀ : State} (h₀ : Kept s₀ s) : Kept s₀ (State.testPass c s) := by
  unfold State.testPass
  (repeat' (first | (simp (maxDischargeDepth := 60) [*]; done) | split | dsimp only | (apply kept_foldl _ _ _ _ (by simp (maxDischargeDepth := 60) [*]); intro t x; try simp only)))
@[simp] theorem State.testFail_kept (s : State) {s₀ : State} (h₀ : Kept s₀ s) : Kept s₀ (State.testFail s) := by
  unfold State.testFail
  (repeat' (first | (simp (maxDischargeDepth := 60) [*]; done) | split | dsimp only | (apply kept_foldl _ _ _ _ (by simp (maxDischargeDepth := 60) [*]); intro t x; try simp only)))
@[simp] theorem State.failCluster_kept (k : Cluster) (s : State) {s₀ : State} (h₀ : Kept s₀ s) : Kept s₀ (State.failCluster k s) := by
  unfold State.failCluster
  (repeat' (first | (simp (maxDischargeDepth := 60) [*]; done) | split | dsimp only | (apply kept_foldl _ _ _ _ (by simp (maxDischargeDepth := 60) [*]); intro t x; try simp only)))
@[simp] theorem State.noClusterLeft_kept (s : State) {s₀ : State} (h₀ : Kept s₀ s) : Kept s₀ (State.noClusterLeft s) := by
  unfold State.noClusterLeft
  (repeat' (first | (simp (maxDischargeDepth := 60) [*]; done) | split | dsimp only | (apply kept_foldl _ _ _ _ (by simp (maxDischargeDepth := 60) [*]); intro t x; try simp only)))
@[simp] theorem State.epochRefuse_kept (unit kind : Nat) (e : BitVec 8) (s : State) {s₀ : State} (h₀ : Kept s₀ s) : Kept s₀ (State.epochRefuse unit kind e s) := by
  unfold State.epochRefuse
  (repeat' (first | (simp (maxDischargeDepth := 60) [*]; done) | split | dsimp only | (apply kept_foldl _ _ _ _ (by simp (maxDischargeDepth := 60) [*]); intro t x; try simp only)))
@[simp] theorem State.beginCut_kept (cause : CutCause) (s : State) {s₀ : State} (h₀ : Kept s₀ s) : Kept s₀ (State.beginCut cause s) := by
  unfold State.beginCut
  (repeat' (first | (simp (maxDischargeDepth := 60) [*]; done) | (with_reducible apply State.count_kept) | (with_reducible apply State.failCluster_kept) | (with_reducible apply kept_modCcl) | (with_reducible apply kept_modFca) | (with_reducible apply State.sample_kept) | (with_reducible apply kept_setObj) | split | dsimp only | (apply kept_foldl _ _ _ _ (by simp (maxDischargeDepth := 60) [*]); intro t x; try simp only)))
@[simp] theorem State.planCut_kept (cause : CutCause) (s : State) {s₀ : State} (h₀ : Kept s₀ s) : Kept s₀ (State.planCut cause s) := by
  unfold State.planCut
  (repeat' (first | (simp (maxDischargeDepth := 60) [*]; done) | split | dsimp only | (apply kept_foldl _ _ _ _ (by simp (maxDischargeDepth := 60) [*]); intro t x; try simp only)))
@[simp] theorem State.heartbeat_kept (s : State) {s₀ : State} (h₀ : Kept s₀ s) : Kept s₀ (State.heartbeat s) := by
  unfold State.heartbeat
  (repeat' (first | (simp (maxDischargeDepth := 60) [*]; done) | split | dsimp only | (apply kept_foldl _ _ _ _ (by simp (maxDischargeDepth := 60) [*]); intro t x; try simp only)))
@[simp] theorem State.takeEpoch_kept (k : Cluster) (g : Gap) (s : State) {s₀ : State} (h₀ : Kept s₀ s) : Kept s₀ (State.takeEpoch k g s) := by
  unfold State.takeEpoch
  (repeat' (first | (simp (maxDischargeDepth := 60) [*]; done) | split | dsimp only | (apply kept_foldl _ _ _ _ (by simp (maxDischargeDepth := 60) [*]); intro t x; try simp only)))
@[simp] theorem State.scriptGo_kept (s : State) {s₀ : State} (h₀ : Kept s₀ s) : Kept s₀ (State.scriptGo s) := by
  unfold State.scriptGo
  split
  · split
    · exact kept_modCcl _ (Ccl.scriptPut_wf _ _) (by simp) h₀
    · exact h₀
  · exact h₀
@[simp] theorem State.undoCut_kept (s : State) {s₀ : State} (h₀ : Kept s₀ s) : Kept s₀ (State.undoCut s) := by
  unfold State.undoCut
  (repeat' (first | (simp (maxDischargeDepth := 60) [*]; done) | exact id | exact le_rfl | (with_reducible apply kept_modTbu) | (with_reducible apply State.sample_kept) | (with_reducible apply kept_modCcl) | split | dsimp only | (apply kept_foldl _ _ _ _ (by simp (maxDischargeDepth := 60) [*]); intro t x; try simp only)))
@[simp] theorem State.resetClusters_kept (s : State) {s₀ : State} (h₀ : Kept s₀ s) : Kept s₀ (State.resetClusters s) := by
  unfold State.resetClusters
  dsimp only
  refine kept_modFca _ (kept_modCcl _ (fun _ => rfl) id ?_)
  split
  · exact State.healthClear_kept _ _ (State.undoCut_kept _ h₀)
  · exact State.undoCut_kept _ h₀
@[simp] theorem State.clusterTick_kept (s : State) {s₀ : State} (h₀ : Kept s₀ s) : Kept s₀ (State.clusterTick s) := by
  unfold State.clusterTick
  (repeat' (first | (simp (maxDischargeDepth := 60) [*]; done) | split | dsimp only | (apply kept_foldl _ _ _ _ (by simp (maxDischargeDepth := 60) [*]); intro t x; try simp only)))
@[simp] theorem State.healGranule_kept (nsid g : Nat) (s : State) {s₀ : State} (h₀ : Kept s₀ s) : Kept s₀ (State.healGranule nsid g s) := by
  unfold State.healGranule
  (repeat' (first | (simp (maxDischargeDepth := 60) [*]; done) | split | dsimp only | (apply kept_foldl _ _ _ _ (by simp (maxDischargeDepth := 60) [*]); intro t x; try simp only)))
@[simp] theorem State.sweepWrites_kept (s : State) {s₀ : State} (h₀ : Kept s₀ s) : Kept s₀ (State.sweepWrites s) := by
  unfold State.sweepWrites
  (repeat' (first | (simp (maxDischargeDepth := 60) [*]; done) | split | dsimp only | (apply kept_foldl _ _ _ _ (by simp (maxDischargeDepth := 60) [*]); intro t x; try simp only)))
@[simp] theorem State.granuleDone_kept (d : Delta) (s : State) {s₀ : State} (h₀ : Kept s₀ s) : Kept s₀ (State.granuleDone d s) := by
  unfold State.granuleDone
  (repeat' (first | (simp (maxDischargeDepth := 60) [*]; done) | split | dsimp only | (apply kept_foldl _ _ _ _ (by simp (maxDischargeDepth := 60) [*]); intro t x; try simp only)))
@[simp] theorem State.noteCommit_kept (nsid g dsn : Nat) (s : State) {s₀ : State} (h₀ : Kept s₀ s) : Kept s₀ (State.noteCommit nsid g dsn s) := by
  unfold State.noteCommit
  (repeat' (first | (simp (maxDischargeDepth := 60) [*]; done) | split | dsimp only | (apply kept_foldl _ _ _ _ (by simp (maxDischargeDepth := 60) [*]); intro t x; try simp only)))
@[simp] theorem State.logTrim_kept (d : Delta) (n : Namespace) (a z : Nat) (s : State) {s₀ : State} (h₀ : Kept s₀ s) : Kept s₀ (State.logTrim d n a z s) := by
  unfold State.logTrim
  (repeat' (first | (simp (maxDischargeDepth := 60) [*]; done) | split | dsimp only | (apply kept_foldl _ _ _ _ (by simp (maxDischargeDepth := 60) [*]); intro t x; try simp only)))
@[simp] theorem State.logDelta_kept (d : Delta) (s : State) {s₀ : State} (h₀ : Kept s₀ s) : Kept s₀ (State.logDelta d s) := by
  unfold State.logDelta
  (repeat' (first | (simp (maxDischargeDepth := 60) [*]; done) | split | dsimp only | (apply kept_foldl _ _ _ _ (by simp (maxDischargeDepth := 60) [*]); intro t x; try simp only)))
@[simp] theorem State.commitHost_kept (d : Delta) (s : State) {s₀ : State} (h₀ : Kept s₀ s) : Kept s₀ (State.commitHost d s) := by
  unfold State.commitHost
  (repeat' (first | (simp (maxDischargeDepth := 60) [*]; done) | split | dsimp only | (apply kept_foldl _ _ _ _ (by simp (maxDischargeDepth := 60) [*]); intro t x; try simp only)))
@[simp] theorem State.commitTrim_kept (d : Delta) (s : State) {s₀ : State} (h₀ : Kept s₀ s) : Kept s₀ (State.commitTrim d s) := by
  unfold State.commitTrim
  (repeat' (first | (simp (maxDischargeDepth := 60) [*]; done) | split | dsimp only | (apply kept_foldl _ _ _ _ (by simp (maxDischargeDepth := 60) [*]); intro t x; try simp only)))
@[simp] theorem State.lostUnit_kept (job : Nat) (s : State) {s₀ : State} (h₀ : Kept s₀ s) : Kept s₀ (State.lostUnit job s) := by
  unfold State.lostUnit
  (repeat' (first | (simp (maxDischargeDepth := 60) [*]; done) | split | dsimp only | (apply kept_foldl _ _ _ _ (by simp (maxDischargeDepth := 60) [*]); intro t x; try simp only)))
@[simp] theorem State.commitCopy_kept (d : Delta) (s : State) {s₀ : State} (h₀ : Kept s₀ s) : Kept s₀ (State.commitCopy d s) := by
  unfold State.commitCopy
  (repeat' (first | (simp (maxDischargeDepth := 60) [*]; done) | (with_reducible apply State.count_kept) | (with_reducible apply State.journal_kept) | (with_reducible apply State.lostAdd_kept) | (with_reducible apply State.lostUnit_kept) | (with_reducible apply kept_modMxe) | (with_reducible apply State.setEntry_kept) | split | dsimp only | (apply kept_foldl _ _ _ _ (by simp (maxDischargeDepth := 60) [*]); intro t x; try simp only)))
@[simp] theorem State.commitDelta_kept (s : State) (d : Delta) {s₀ : State} (h₀ : Kept s₀ s) : Kept s₀ (State.commitDelta s d) := by
  unfold State.commitDelta
  (repeat' (first | (simp (maxDischargeDepth := 60) [*]; done) | split | dsimp only | (apply kept_foldl _ _ _ _ (by simp (maxDischargeDepth := 60) [*]); intro t x; try simp only)))
@[simp] theorem State.clearMarker_kept (s : State) {s₀ : State} (h₀ : Kept s₀ s) : Kept s₀ (State.clearMarker s) := by
  unfold State.clearMarker
  (repeat' (first | (simp (maxDischargeDepth := 60) [*]; done) | split | dsimp only | (apply kept_foldl _ _ _ _ (by simp (maxDischargeDepth := 60) [*]); intro t x; try simp only)))
@[simp] theorem State.commitReady_kept (s : State) {s₀ : State} (h₀ : Kept s₀ s) : Kept s₀ (State.commitReady s) := by
  unfold State.commitReady
  (repeat' (first | (simp (maxDischargeDepth := 60) [*]; done) | split | dsimp only | (apply kept_foldl _ _ _ _ (by simp (maxDischargeDepth := 60) [*]); intro t x; try simp only)))
@[simp] theorem State.journalPage_kept (n : Nat) (now : Dword) (s : State) {s₀ : State} (h₀ : Kept s₀ s) : Kept s₀ (State.journalPage n now s) := by
  unfold State.journalPage
  (repeat' (first | (simp (maxDischargeDepth := 60) [*]; done) | split | dsimp only | (apply kept_foldl _ _ _ _ (by simp (maxDischargeDepth := 60) [*]); intro t x; try simp only)))
@[simp] theorem State.trimsDone_kept (s : State) {s₀ : State} (h₀ : Kept s₀ s) : Kept s₀ (State.trimsDone s) := by
  unfold State.trimsDone
  (repeat' (first | (simp (maxDischargeDepth := 60) [*]; done) | split | dsimp only | (apply kept_foldl _ _ _ _ (by simp (maxDischargeDepth := 60) [*]); intro t x; try simp only)))
@[simp] theorem State.journalLand_kept (s : State) {s₀ : State} (h₀ : Kept s₀ s) : Kept s₀ (State.journalLand s) := by
  unfold State.journalLand
  (repeat' (first | (simp (maxDischargeDepth := 60) [*]; done) | split | dsimp only | (apply kept_foldl _ _ _ _ (by simp (maxDischargeDepth := 60) [*]); intro t x; try simp only)))
@[simp] theorem State.journalPut_kept (a : Bool) (p : JournalPage) (s : State) {s₀ : State} (h₀ : Kept s₀ s) : Kept s₀ (State.journalPut a p s) := by
  unfold State.journalPut
  (repeat' (first | (simp (maxDischargeDepth := 60) [*]; done) | split | dsimp only | (apply kept_foldl _ _ _ _ (by simp (maxDischargeDepth := 60) [*]); intro t x; try simp only)))
@[simp] theorem State.journalLose_kept (a b : Bool) (s : State) {s₀ : State} (h₀ : Kept s₀ s) : Kept s₀ (State.journalLose a b s) := by
  unfold State.journalLose
  (repeat' (first | (simp (maxDischargeDepth := 60) [*]; done) | split | dsimp only | (apply kept_foldl _ _ _ _ (by simp (maxDischargeDepth := 60) [*]); intro t x; try simp only)))
@[simp] theorem State.journalRestore_kept (s : State) {s₀ : State} (h₀ : Kept s₀ s) : Kept s₀ (State.journalRestore s) := by
  unfold State.journalRestore
  (repeat' (first | (simp (maxDischargeDepth := 60) [*]; done) | split | dsimp only | (apply kept_foldl _ _ _ _ (by simp (maxDischargeDepth := 60) [*]); intro t x; try simp only)))
@[simp] theorem State.segmentWritten_kept (nsid seg : Nat) (loc : Loc) (s : State) {s₀ : State} (h₀ : Kept s₀ s) : Kept s₀ (State.segmentWritten nsid seg loc s) := by
  unfold State.segmentWritten
  (repeat' (first | (simp (maxDischargeDepth := 60) [*]; done) | split | dsimp only | (apply kept_foldl _ _ _ _ (by simp (maxDischargeDepth := 60) [*]); intro t x; try simp only)))
@[simp] theorem State.copiesAgain_kept (s : State) {s₀ : State} (h₀ : Kept s₀ s) : Kept s₀ (State.copiesAgain s) := by
  unfold State.copiesAgain
  (repeat' (first | (simp (maxDischargeDepth := 60) [*]; done) | split | dsimp only | (apply kept_foldl _ _ _ _ (by simp (maxDischargeDepth := 60) [*]); intro t x; try simp only)))
@[simp] theorem State.arrive_kept (n : Nat) (s : State) {s₀ : State} (h₀ : Kept s₀ s) : Kept s₀ (State.arrive n s) := by
  unfold State.arrive
  (repeat' (first | (simp (maxDischargeDepth := 60) [*]; done) | exact id | exact le_rfl | (with_reducible apply kept_modHlu) | split | dsimp only | (apply kept_foldl _ _ _ _ (by simp (maxDischargeDepth := 60) [*]); intro t x; try simp only)))
@[simp] theorem State.charge_kept (sl rd wr cmd : Nat) (s : State) {s₀ : State} (h₀ : Kept s₀ s) : Kept s₀ (State.charge sl rd wr cmd s) := by
  unfold State.charge
  (repeat' (first | (simp (maxDischargeDepth := 60) [*]; done) | split | dsimp only | (apply kept_foldl _ _ _ _ (by simp (maxDischargeDepth := 60) [*]); intro t x; try simp only)))
@[simp] theorem State.chargeTokens_kept (sl : Nat) (e : Sqe) (bytes : Nat) (s : State) {s₀ : State} (h₀ : Kept s₀ s) : Kept s₀ (State.chargeTokens sl e bytes s) := by
  unfold State.chargeTokens
  (repeat' (first | (simp (maxDischargeDepth := 60) [*]; done) | split | dsimp only | (apply kept_foldl _ _ _ _ (by simp (maxDischargeDepth := 60) [*]); intro t x; try simp only)))
@[simp] theorem State.fetchOne_kept (key : Nat) (e : Sqe) (s : State) {s₀ : State} (h₀ : Kept s₀ s) : Kept s₀ (State.fetchOne key e s) := by
  unfold State.fetchOne
  (repeat' (first | (simp (maxDischargeDepth := 60) [*]; done) | split | dsimp only | (apply kept_foldl _ _ _ _ (by simp (maxDischargeDepth := 60) [*]); intro t x; try simp only)))
@[simp] theorem State.fetchEntries_kept (key : Nat) (l : List Sqe) (s : State) {s₀ : State} (h₀ : Kept s₀ s) : Kept s₀ (State.fetchEntries key l s) := by
  induction l generalizing s with
  | nil => simpa [State.fetchEntries] using h₀
  | cons e es ih =>
    unfold State.fetchEntries
    split
    · split
      · exact ih _ (by simp (maxDischargeDepth := 60) [*])
      · exact h₀
    · exact h₀
@[simp] theorem State.failCmd_kept (c status : Nat) (s : State) {s₀ : State} (h₀ : Kept s₀ s) : Kept s₀ (State.failCmd c status s) := by
  unfold State.failCmd
  (repeat' (first | (simp (maxDischargeDepth := 60) [*]; done) | split | dsimp only | (apply kept_foldl _ _ _ _ (by simp (maxDischargeDepth := 60) [*]); intro t x; try simp only)))
@[simp] theorem State.nsViolation_kept (c : Nat) (s : State) {s₀ : State} (h₀ : Kept s₀ s) : Kept s₀ (State.nsViolation c s) := by
  unfold State.nsViolation
  (repeat' (first | (simp (maxDischargeDepth := 60) [*]; done) | split | dsimp only | (apply kept_foldl _ _ _ _ (by simp (maxDischargeDepth := 60) [*]); intro t x; try simp only)))
@[simp] theorem State.refuseCtx_kept (unit c : Nat) (s : State) {s₀ : State} (h₀ : Kept s₀ s) : Kept s₀ (State.refuseCtx unit c s) := by
  unfold State.refuseCtx
  (repeat' (first | (simp (maxDischargeDepth := 60) [*]; done) | split | dsimp only | (apply kept_foldl _ _ _ _ (by simp (maxDischargeDepth := 60) [*]); intro t x; try simp only)))
@[simp] theorem State.discardCtx_kept (c : Nat) (x : Ctx) (s : State) {s₀ : State} (h₀ : Kept s₀ s) : Kept s₀ (State.discardCtx c x s) := by
  unfold State.discardCtx
  (repeat' (first | (simp (maxDischargeDepth := 60) [*]; done) | split | dsimp only | (apply kept_foldl _ _ _ _ (by simp (maxDischargeDepth := 60) [*]); intro t x; try simp only)))
@[simp] theorem State.squashCtx_kept (s : State) (e : Nat × Ctx) {s₀ : State} (h₀ : Kept s₀ s) : Kept s₀ (State.squashCtx s e) := by
  unfold State.squashCtx
  (repeat' (first | (simp (maxDischargeDepth := 60) [*]; done) | split | dsimp only | (apply kept_foldl _ _ _ _ (by simp (maxDischargeDepth := 60) [*]); intro t x; try simp only)))
@[simp] theorem State.squashWhere_kept (p : Ctx → Bool) (s : State) {s₀ : State} (h₀ : Kept s₀ s) : Kept s₀ (State.squashWhere p s) := by
  unfold State.squashWhere
  (repeat' (first | (simp (maxDischargeDepth := 60) [*]; done) | split | dsimp only | (apply kept_foldl _ _ _ _ (by simp (maxDischargeDepth := 60) [*]); intro t x; try simp only)))
@[simp] theorem State.orphansDone_kept (s : State) {s₀ : State} (h₀ : Kept s₀ s) : Kept s₀ (State.orphansDone s) := by
  unfold State.orphansDone
  (repeat' (first | (simp (maxDischargeDepth := 60) [*]; done) | split | dsimp only | (apply kept_foldl _ _ _ _ (by simp (maxDischargeDepth := 60) [*]); intro t x; try simp only)))
@[simp] theorem State.quarantine_kept (p : Tag → Bool) (s : State) {s₀ : State} (h₀ : Kept s₀ s) : Kept s₀ (State.quarantine p s) := by
  unfold State.quarantine
  (repeat' (first | (simp (maxDischargeDepth := 60) [*]; done) | split | dsimp only | (apply kept_foldl _ _ _ _ (by simp (maxDischargeDepth := 60) [*]); intro t x; try simp only)))
@[simp] theorem State.readLooked_kept (c : Nat) (work : List SlotWork) (s : State) {s₀ : State} (h₀ : Kept s₀ s) : Kept s₀ (State.readLooked c work s) := by
  unfold State.readLooked
  (repeat' (first | (simp (maxDischargeDepth := 60) [*]; done) | split | dsimp only | (apply kept_foldl _ _ _ _ (by simp (maxDischargeDepth := 60) [*]); intro t x; try simp only)))
@[simp] theorem State.ptrGo_kept (c : Nat) (x : Ctx) (f : State → State) (s : State)
    (hf : ∀ t, Kept t (f t)) {s₀ : State} (h₀ : Kept s₀ s) : Kept s₀ (State.ptrGo c x f s) := by
  refine h₀.trans ?_
  unfold State.ptrGo
  split
  · exact State.failCmd_kept _ _ _ (Kept.refl _)
  · split
    · exact Kept.refl _
    · exact hf _
@[simp] theorem State.readSlots_kept (c : Nat) (x : Ctx) (n : Namespace) (s : State) {s₀ : State} (h₀ : Kept s₀ s) : Kept s₀ (State.readSlots c x n s) := by
  unfold State.readSlots
  (repeat' (first | (simp (maxDischargeDepth := 60) [*]; done) | split | dsimp only | (apply kept_foldl _ _ _ _ (by simp (maxDischargeDepth := 60) [*]); intro t x; try simp only)))
@[simp] theorem State.readGo_kept (c : Nat) (x : Ctx) (n : Namespace) (s : State) {s₀ : State} (h₀ : Kept s₀ s) : Kept s₀ (State.readGo c x n s) := by
  unfold State.readGo
  (repeat' (first | (simp (maxDischargeDepth := 60) [*]; done) | split | dsimp only | (apply kept_foldl _ _ _ _ (by simp (maxDischargeDepth := 60) [*]); intro t x; try simp only)))
@[simp] theorem State.readNs_kept (c : Nat) (x : Ctx) (n : Namespace) (s : State) {s₀ : State} (h₀ : Kept s₀ s) : Kept s₀ (State.readNs c x n s) := by
  unfold State.readNs
  (repeat' (first | (simp (maxDischargeDepth := 60) [*]; done) | split | dsimp only | (apply kept_foldl _ _ _ _ (by simp (maxDischargeDepth := 60) [*]); intro t x; try simp only)))
theorem State.onOwnNs_kept (c : Nat) (x : Ctx) (f : Namespace → State → State) (s : State) (hf : ∀ n t, Kept t (f n t)) {s₀ : State} (h₀ : Kept s₀ s) :
    Kept s₀ (State.onOwnNs c x f s) := by
  refine h₀.trans ?_
  unfold State.onOwnNs
  split
  · exact hf _ _
  · exact State.nsViolation_kept _ _ (Kept.refl _)
@[simp] theorem State.dataInGo_kept (c : Nat) (pi : PiCheck) (x : Ctx) (s : State) {s₀ : State} (h₀ : Kept s₀ s) : Kept s₀ (State.dataInGo c pi x s) := by
  refine h₀.trans ?_
  clear h₀
  unfold State.dataInGo
  split
  · have k := (State.takeBufs_kept _ _ _ _ _ _ _ ‹_›)
    exact State.dmaIssue_kept _ (kept_modHlu _ id (State.modCtx_kept _ _ _ k))
  · exact Kept.refl _
@[simp] theorem State.writeNs_kept (c : Nat) (pi : PiCheck) (x : Ctx) (n : Namespace) (s : State) {s₀ : State} (h₀ : Kept s₀ s) : Kept s₀ (State.writeNs c pi x n s) := by
  unfold State.writeNs
  (repeat' (first | (simp (maxDischargeDepth := 60) [*]; done) | split | dsimp only | (apply kept_foldl _ _ _ _ (by simp (maxDischargeDepth := 60) [*]); intro t x; try simp only)))
@[simp] theorem State.dataComplete_kept (c : Nat) (x : Ctx) (s : State) {s₀ : State} (h₀ : Kept s₀ s) : Kept s₀ (State.dataComplete c x s) := by
  unfold State.dataComplete
  (repeat' (first | (simp (maxDischargeDepth := 60) [*]; done) | split | dsimp only | (apply kept_foldl _ _ _ _ (by simp (maxDischargeDepth := 60) [*]); intro t x; try simp only)))
@[simp] theorem State.enterGranule_kept (x : Ctx) (c dsn : Nat) (n : Namespace) (e : Extent) (src : Nat → Nat → Nat) (stages : Nat → List (Nat × Nat)) (s : State) (g : Nat) {s₀ : State} (h₀ : Kept s₀ s) : Kept s₀ (State.enterGranule x c dsn n e src stages s g) := by
  unfold State.enterGranule
  (repeat' (first | (simp (maxDischargeDepth := 60) [*]; done) | (with_reducible apply kept_modMxe) | (with_reducible apply State.placeGranule_kept) | split | dsimp only | (apply kept_foldl _ _ _ _ (by simp (maxDischargeDepth := 60) [*]); intro t x; try simp only)))
@[simp] theorem State.takeDsn_kept (c : Nat) (x : Ctx) (n : Namespace) (s : State) {s₀ : State} (h₀ : Kept s₀ s) : Kept s₀ (State.takeDsn c x n s) := by
  unfold State.takeDsn
  dsimp only
  refine State.lockStart_kept _ (State.logExtents_kept _ _ _ _ _ (State.modCtx_kept _ _ _ (kept_foldl _ _ _ _ ?_ fun t x => by simp (maxDischargeDepth := 60))))
  exact kept_modMxe _ (by simp [Mxe.nextDsn]; omega) le_rfl le_rfl h₀
@[simp] theorem State.seqGo_kept (c : Nat) (x : Ctx) (n : Namespace) (s : State) {s₀ : State} (h₀ : Kept s₀ s) : Kept s₀ (State.seqGo c x n s) := by
  unfold State.seqGo
  (repeat' (first | (simp (maxDischargeDepth := 60) [*]; done) | split | dsimp only | (apply kept_foldl _ _ _ _ (by simp (maxDischargeDepth := 60) [*]); intro t x; try simp only)))
@[simp] theorem State.seqNs_kept (c : Nat) (x : Ctx) (n : Namespace) (s : State) {s₀ : State} (h₀ : Kept s₀ s) : Kept s₀ (State.seqNs c x n s) := by
  unfold State.seqNs
  (repeat' (first | (simp (maxDischargeDepth := 60) [*]; done) | split | dsimp only | (apply kept_foldl _ _ _ _ (by simp (maxDischargeDepth := 60) [*]); intro t x; try simp only)))
@[simp] theorem State.trimCmd_kept (c kind : Nat) (x : Ctx) (n : Namespace) (es : List Extent) (s : State) {s₀ : State} (h₀ : Kept s₀ s) : Kept s₀ (State.trimCmd c kind x n es s) := by
  unfold State.trimCmd
  dsimp only
  refine State.trimsDone_kept _ (State.lockStart_kept _ (State.modCtx_kept _ _ _ (State.freeBufs_kept _ _ (kept_foldl _ _ _ _ ?_ fun t x => kept_foldl _ _ _ _ (Kept.refl _) fun u y => by simp (maxDischargeDepth := 60)))))
  exact kept_modMxe _ (by simp [Mxe.nextDsn]; omega) le_rfl le_rfl h₀
@[simp] theorem State.trimRun_kept (c kind : Nat) (x : Ctx) (n : Namespace) (rs : List (Nat × Nat)) (s : State) {s₀ : State} (h₀ : Kept s₀ s) : Kept s₀ (State.trimRun c kind x n rs s) := by
  unfold State.trimRun
  (repeat' (first | (simp (maxDischargeDepth := 60) [*]; done) | split | dsimp only | (apply kept_foldl _ _ _ _ (by simp (maxDischargeDepth := 60) [*]); intro t x; try simp only)))
@[simp] theorem State.dsmNs_kept (c : Nat) (x : Ctx) (n : Namespace) (s : State) {s₀ : State} (h₀ : Kept s₀ s) : Kept s₀ (State.dsmNs c x n s) := by
  refine h₀.trans ?_
  clear h₀
  unfold State.dsmNs
  split
  · exact State.ptrGo_kept _ _ _ _ (fun t => State.dataInGo_kept _ _ _ _ (Kept.refl _)) (Kept.refl _)
  · split
    · exact State.trimRun_kept _ _ _ _ _ _ (Kept.refl _)
    · exact State.failCmd_kept _ _ _ (Kept.refl _)
@[simp] theorem State.flushDone_kept (s : State) {s₀ : State} (h₀ : Kept s₀ s) : Kept s₀ (State.flushDone s) := by
  unfold State.flushDone
  (repeat' (first | (simp (maxDischargeDepth := 60) [*]; done) | split | dsimp only | (apply kept_foldl _ _ _ _ (by simp (maxDischargeDepth := 60) [*]); intro t x; try simp only)))
@[simp] theorem State.forceOnLoss_kept (s : State) {s₀ : State} (h₀ : Kept s₀ s) : Kept s₀ (State.forceOnLoss s) := by
  unfold State.forceOnLoss
  split
  · exact kept_modMxe _ le_rfl le_rfl le_rfl h₀
  · exact h₀
@[simp] theorem State.doorbellViolation_kept (sl : Nat) (s : State) {s₀ : State} (h₀ : Kept s₀ s) : Kept s₀ (State.doorbellViolation sl s) := by
  unfold State.doorbellViolation
  (repeat' (first | (simp (maxDischargeDepth := 60) [*]; done) | split | dsimp only | (apply kept_foldl _ _ _ _ (by simp (maxDischargeDepth := 60) [*]); intro t x; try simp only)))
@[simp] theorem State.wakeUp_kept (key : Nat) (s : State) {s₀ : State} (h₀ : Kept s₀ s) : Kept s₀ (State.wakeUp key s) := by
  unfold State.wakeUp
  (repeat' (first | (simp (maxDischargeDepth := 60) [*]; done) | split | dsimp only | (apply kept_foldl _ _ _ _ (by simp (maxDischargeDepth := 60) [*]); intro t x; try simp only)))
@[simp] theorem State.sqTail_kept (key : Nat) (q : Sq) (v : Nat) (s : State) {s₀ : State} (h₀ : Kept s₀ s) : Kept s₀ (State.sqTail key q v s) := by
  unfold State.sqTail
  (repeat' (first | (simp (maxDischargeDepth := 60) [*]; done) | split | dsimp only | (apply kept_foldl _ _ _ _ (by simp (maxDischargeDepth := 60) [*]); intro t x; try simp only)))
@[simp] theorem State.linkError_kept (k : CplKind) (s : State) {s₀ : State} (h₀ : Kept s₀ s) : Kept s₀ (State.linkError k s) := by
  unfold State.linkError
  (repeat' (first | (simp (maxDischargeDepth := 60) [*]; done) | split | dsimp only | (apply kept_foldl _ _ _ _ (by simp (maxDischargeDepth := 60) [*]); intro t x; try simp only)))
@[simp] theorem State.fetchRead_kept (t : Turn) (key : Nat) (q : Sq) (n : Nat) (s : State) {s₀ : State} (h₀ : Kept s₀ s) : Kept s₀ (State.fetchRead t key q n s) := by
  unfold State.fetchRead
  (repeat' (first | (simp (maxDischargeDepth := 60) [*]; done) | split | dsimp only | (apply kept_foldl _ _ _ _ (by simp (maxDischargeDepth := 60) [*]); intro t x; try simp only)))
@[simp] theorem State.fetchArrives_kept (key n data : Nat) (s : State) {s₀ : State} (h₀ : Kept s₀ s) : Kept s₀ (State.fetchArrives key n data s) := by
  unfold State.fetchArrives
  (repeat' (first | (simp (maxDischargeDepth := 60) [*]; done) | split | dsimp only | (apply kept_foldl _ _ _ _ (by simp (maxDischargeDepth := 60) [*]); intro t x; try simp only)))
@[simp] theorem State.signalCq_kept (key : Nat) (s : State) {s₀ : State} (h₀ : Kept s₀ s) : Kept s₀ (State.signalCq key s) := by
  unfold State.signalCq
  (repeat' (first | (simp (maxDischargeDepth := 60) [*]; done) | (with_reducible apply kept_emit) | (with_reducible apply kept_modQen) | split | dsimp only | (apply kept_foldl _ _ _ _ (by simp (maxDischargeDepth := 60) [*]); intro t x; try simp only)))
@[simp] theorem State.postCqe_kept (key : Nat) (q : Cq) (x : Ctx) (s : State) {s₀ : State} (h₀ : Kept s₀ s) : Kept s₀ (State.postCqe key q x s) := by
  unfold State.postCqe
  (repeat' (first | (simp (maxDischargeDepth := 60) [*]; done) | split | dsimp only | (apply kept_foldl _ _ _ _ (by simp (maxDischargeDepth := 60) [*]); intro t x; try simp only)))
@[simp] theorem State.writePosted_kept (x : Ctx) (s : State) {s₀ : State} (h₀ : Kept s₀ s) : Kept s₀ (State.writePosted x s) := by
  unfold State.writePosted
  (repeat' (first | (simp (maxDischargeDepth := 60) [*]; done) | (with_reducible apply kept_modMxe) | split | dsimp only | (apply kept_foldl _ _ _ _ (by simp (maxDischargeDepth := 60) [*]); intro t x; try simp only)))
@[simp] theorem State.deletionsDone_kept (s : State) {s₀ : State} (h₀ : Kept s₀ s) : Kept s₀ (State.deletionsDone s) := by
  unfold State.deletionsDone
  (repeat' (first | (simp (maxDischargeDepth := 60) [*]; done) | split | dsimp only | (apply kept_foldl _ _ _ _ (by simp (maxDischargeDepth := 60) [*]); intro t x; try simp only)))
@[simp] theorem State.activationPosted_kept (c : Nat) (s : State) {s₀ : State} (h₀ : Kept s₀ s) : Kept s₀ (State.activationPosted c s) := by
  unfold State.activationPosted
  (repeat' (first | (simp (maxDischargeDepth := 60) [*]; done) | (with_reducible apply kept_modCsu) | (with_reducible apply kept_modQen) | split | dsimp only | (apply kept_foldl _ _ _ _ (by simp (maxDischargeDepth := 60) [*]); intro t x; try simp only)))
@[simp] theorem State.psApply_kept (r : PsRequest) (s : State) {s₀ : State} (h₀ : Kept s₀ s) : Kept s₀ (State.psApply r s) := by
  unfold State.psApply
  (repeat' (first | (simp (maxDischargeDepth := 60) [*]; done) | split | dsimp only | (apply kept_foldl _ _ _ _ (by simp (maxDischargeDepth := 60) [*]); intro t x; try simp only)))
@[simp] theorem State.padStripe_kept (x : Stripe) (b : Band) (s : State) {s₀ : State} (h₀ : Kept s₀ s) : Kept s₀ (State.padStripe x b s) := by
  unfold State.padStripe
  (repeat' (first | (simp (maxDischargeDepth := 60) [*]; done) | split | dsimp only | (apply kept_foldl _ _ _ _ (by simp (maxDischargeDepth := 60) [*]); intro t x; try simp only)))
@[simp] theorem State.releaseDegraded_kept (s : State) {s₀ : State} (h₀ : Kept s₀ s) : Kept s₀ (State.releaseDegraded s) := by
  unfold State.releaseDegraded
  (repeat' (first | (simp (maxDischargeDepth := 60) [*]; done) | split | dsimp only | (apply kept_foldl _ _ _ _ (by simp (maxDischargeDepth := 60) [*]); intro t x; try simp only)))
@[simp] theorem State.raiseRebuild_kept (s : State) {s₀ : State} (h₀ : Kept s₀ s) : Kept s₀ (State.raiseRebuild s) := by
  unfold State.raiseRebuild
  (repeat' (first | (simp (maxDischargeDepth := 60) [*]; done) | split | dsimp only | (apply kept_foldl _ _ _ _ (by simp (maxDischargeDepth := 60) [*]); intro t x; try simp only)))
@[simp] theorem State.rebuildGo_kept (s : State) {s₀ : State} (h₀ : Kept s₀ s) : Kept s₀ (State.rebuildGo s) := by
  unfold State.rebuildGo
  (repeat' (first | (simp (maxDischargeDepth := 60) [*]; done) | split | dsimp only | (apply kept_foldl _ _ _ _ (by simp (maxDischargeDepth := 60) [*]); intro t x; try simp only)))
@[simp] theorem State.rebuildResume_kept (s : State) {s₀ : State} (h₀ : Kept s₀ s) : Kept s₀ (State.rebuildResume s) := by
  unfold State.rebuildResume
  (repeat' (first | (simp (maxDischargeDepth := 60) [*]; done) | split | dsimp only | (apply kept_foldl _ _ _ _ (by simp (maxDischargeDepth := 60) [*]); intro t x; try simp only)))
@[simp] theorem State.lostJob_kept (unit nsid g : Nat) (src : Loc) (s : State) {s₀ : State} (h₀ : Kept s₀ s) : Kept s₀ (State.lostJob unit nsid g src s) := by
  unfold State.lostJob
  (repeat' (first | (simp (maxDischargeDepth := 60) [*]; done) | split | dsimp only | (apply kept_foldl _ _ _ _ (by simp (maxDischargeDepth := 60) [*]); intro t x; try simp only)))
@[simp] theorem State.rebuildUnit_kept (ok : Bool) (b : Band) (row pos : Nat) (mb : Nat × Nat) (s : State) {s₀ : State} (h₀ : Kept s₀ s) : Kept s₀ (State.rebuildUnit ok b row pos mb s) := by
  unfold State.rebuildUnit
  (repeat' (first | (simp (maxDischargeDepth := 60) [*]; done) | split | dsimp only | (apply kept_foldl _ _ _ _ (by simp (maxDischargeDepth := 60) [*]); intro t x; try simp only)))
@[simp] theorem State.rebuildOne_kept (n : Nat) (b : Band) (row pos j : Nat) (failedSurvivors : List Nat) (s : State) {s₀ : State} (h₀ : Kept s₀ s) : Kept s₀ (State.rebuildOne n b row pos j failedSurvivors s) := by
  unfold State.rebuildOne
  (repeat' (first | (simp (maxDischargeDepth := 60) [*]; done) | split | dsimp only | (apply kept_foldl _ _ _ _ (by simp (maxDischargeDepth := 60) [*]); intro t x; try simp only)))
@[simp] theorem State.rebuildBandDone_kept (n : Nat) (b : Band) (s : State) {s₀ : State} (h₀ : Kept s₀ s) : Kept s₀ (State.rebuildBandDone n b s) := by
  unfold State.rebuildBandDone
  (repeat' (first | (simp (maxDischargeDepth := 60) [*]; done) | split | dsimp only | (apply kept_foldl _ _ _ _ (by simp (maxDischargeDepth := 60) [*]); intro t x; try simp only)))
@[simp] theorem State.countSurvivors_kept (b : Band) (row pos j : Nat) (survivors : List (Nat × Nat)) (s : State) {s₀ : State} (h₀ : Kept s₀ s) : Kept s₀ (State.countSurvivors b row pos j survivors s) := by
  unfold State.countSurvivors
  (repeat' (first | (simp (maxDischargeDepth := 60) [*]; done) | split | dsimp only | (apply kept_foldl _ _ _ _ (by simp (maxDischargeDepth := 60) [*]); intro t x; try simp only)))
@[simp] theorem State.rebuildEnd_kept (s : State) {s₀ : State} (h₀ : Kept s₀ s) : Kept s₀ (State.rebuildEnd s) := by
  unfold State.rebuildEnd
  (repeat' (first | (simp (maxDischargeDepth := 60) [*]; done) | split | dsimp only | (apply kept_foldl _ _ _ _ (by simp (maxDischargeDepth := 60) [*]); intro t x; try simp only)))
@[simp] theorem State.stageWindow_kept (n k : Nat) (v : Word) (s : State) {s₀ : State} (h₀ : Kept s₀ s) : Kept s₀ (State.stageWindow n k v s) := by
  unfold State.stageWindow
  (repeat' (first | (simp (maxDischargeDepth := 60) [*]; done) | split | dsimp only | (apply kept_foldl _ _ _ _ (by simp (maxDischargeDepth := 60) [*]); intro t x; try simp only)))
@[simp] theorem State.abortN_kept (k : Nat) (s : State) {s₀ : State} (h₀ : Kept s₀ s) : Kept s₀ (State.abortN k s) := by
  refine h₀.trans ?_
  clear h₀
  induction k generalizing s with
  | zero => simp [State.abortN]
  | succ k ih => exact Kept.trans (by simp (maxDischargeDepth := 60)) (ih _)
@[simp] theorem State.abortReads_kept (p : Nat → Bool) (s : State) {s₀ : State} (h₀ : Kept s₀ s) : Kept s₀ (State.abortReads p s) := by
  unfold State.abortReads
  (repeat' (first | (simp (maxDischargeDepth := 60) [*]; done) | split | dsimp only | (apply kept_foldl _ _ _ _ (by simp (maxDischargeDepth := 60) [*]); intro t x; try simp only)))
@[simp] theorem State.storeWindow_kept (s : State) (n : Nat) {s₀ : State} (h₀ : Kept s₀ s) : Kept s₀ (State.storeWindow s n) := by
  unfold State.storeWindow
  refine kept_foldl _ _ _ _ h₀ fun t x => ?_
  split
  · exact Kept.ofEq rfl
  · exact Kept.refl _
@[simp] theorem State.activateWins_kept (t : List (Nat × Window)) (aff : List Nat) (s : State) {s₀ : State} (h₀ : Kept s₀ s) : Kept s₀ (State.activateWins t aff s) := by
  unfold State.activateWins
  (repeat' (first | (simp (maxDischargeDepth := 60) [*]; done) | split | dsimp only | (apply kept_foldl _ _ _ _ (by simp (maxDischargeDepth := 60) [*]); intro t x; try simp only)))
@[simp] theorem State.winCommit_kept (s : State) {s₀ : State} (h₀ : Kept s₀ s) : Kept s₀ (State.winCommit s) := by
  unfold State.winCommit
  (repeat' (first | (simp (maxDischargeDepth := 60) [*]; done) | (with_reducible apply State.activateWins_kept) | (with_reducible apply kept_modGal) | (with_reducible apply State.sample_kept) | split | dsimp only | (apply kept_foldl _ _ _ _ (by simp (maxDischargeDepth := 60) [*]); intro t x; try simp only)))
@[simp] theorem State.winDiscard_kept (s : State) {s₀ : State} (h₀ : Kept s₀ s) : Kept s₀ (State.winDiscard s) := by
  unfold State.winDiscard
  (repeat' (first | (simp (maxDischargeDepth := 60) [*]; done) | split | dsimp only | (apply kept_foldl _ _ _ _ (by simp (maxDischargeDepth := 60) [*]); intro t x; try simp only)))
@[simp] theorem State.galError_kept (win : Option Nat) (bit : Nat) (s : State) {s₀ : State} (h₀ : Kept s₀ s) : Kept s₀ (State.galError win bit s) := by
  unfold State.galError
  (repeat' (first | (simp (maxDischargeDepth := 60) [*]; done) | (with_reducible apply State.flag_kept) | (with_reducible apply kept_modGal) | (with_reducible apply State.trigger_kept) | split | dsimp only | (apply kept_foldl _ _ _ _ (by simp (maxDischargeDepth := 60) [*]); intro t x; try simp only)))
@[simp] theorem State.galRefuse_kept (win : Option Nat) (bit : Nat) (np : Bool) (s : State) {s₀ : State} (h₀ : Kept s₀ s) : Kept s₀ (State.galRefuse win bit np s) := by
  unfold State.galRefuse
  (repeat' (first | (simp (maxDischargeDepth := 60) [*]; done) | split | dsimp only | (apply kept_foldl _ _ _ _ (by simp (maxDischargeDepth := 60) [*]); intro t x; try simp only)))
@[simp] theorem State.galFault_kept (n : Nat) (s : State) {s₀ : State} (h₀ : Kept s₀ s) : Kept s₀ (State.galFault n s) := by
  unfold State.galFault
  (repeat' (first | (simp (maxDischargeDepth := 60) [*]; done) | split | dsimp only | (apply kept_foldl _ _ _ _ (by simp (maxDischargeDepth := 60) [*]); intro t x; try simp only)))
@[simp] theorem State.galPoison_kept (off : Nat) (s : State) {s₀ : State} (h₀ : Kept s₀ s) : Kept s₀ (State.galPoison off s) := by
  unfold State.galPoison
  (repeat' (first | (simp (maxDischargeDepth := 60) [*]; done) | split | dsimp only | (apply kept_foldl _ _ _ _ (by simp (maxDischargeDepth := 60) [*]); intro t x; try simp only)))
@[simp] theorem State.writePiece_kept (n : Nat) (w : Window) (fn rel : Nat) (piece : List Byte) (s : State) {s₀ : State} (h₀ : Kept s₀ s) : Kept s₀ (State.writePiece n w fn rel piece s) := by
  unfold State.writePiece
  dsimp only
  refine kept_modGal _ (fun h => ?_) h₀
  split <;> exact h
@[simp] theorem State.writePieces_kept (n : Nat) (w : Window) (fn rel k : Nat) (bs : List Byte) (s : State) {s₀ : State} (h₀ : Kept s₀ s) :
    Kept s₀ (State.writePieces n w fn rel k bs s) := by
  induction k generalizing s rel bs with
  | zero => simpa [State.writePieces] using h₀
  | succ k ih => exact ih _ _ _ (by simp (maxDischargeDepth := 60) [*])
@[simp] theorem State.galClean_kept (n rel len : Nat) (s : State) {s₀ : State} (h₀ : Kept s₀ s) : Kept s₀ (State.galClean n rel len s) := by
  unfold State.galClean
  (repeat' (first | (simp (maxDischargeDepth := 60) [*]; done) | split | dsimp only | (apply kept_foldl _ _ _ _ (by simp (maxDischargeDepth := 60) [*]); intro t x; try simp only)))
@[simp] theorem State.galStore_kept (n : Nat) (w : Window) (fn rel : Nat) (bytes : List Byte) (s : State) {s₀ : State} (h₀ : Kept s₀ s) : Kept s₀ (State.galStore n w fn rel bytes s) := by
  unfold State.galStore
  dsimp only
  have k := kept_modGal (fun g => { g with fifo := g.fifo ++ [(n, bytes.length)] }) id h₀
  split
  all_goals first | (simp (maxDischargeDepth := 60) [*]; done) | exact State.galClean_kept _ _ _ _ (kept_modGal _ (fun h => Memory.wf_writeAll 0 _ _ _ h) k)
@[simp] theorem State.galWrite_kept (n : Nat) (w : Window) (t : PeerTlp) (bytes : List Byte) (s : State) {s₀ : State} (h₀ : Kept s₀ s) : Kept s₀ (State.galWrite n w t bytes s) := by
  unfold State.galWrite
  (repeat' (first | (simp (maxDischargeDepth := 60) [*]; done) | split | dsimp only | (apply kept_foldl _ _ _ _ (by simp (maxDischargeDepth := 60) [*]); intro t x; try simp only)))
@[simp] theorem State.galWriteIn_kept (t : PeerTlp) (bytes : List Byte) (s : State) {s₀ : State} (h₀ : Kept s₀ s) : Kept s₀ (State.galWriteIn t bytes s) := by
  unfold State.galWriteIn
  (repeat' (first | (simp (maxDischargeDepth := 60) [*]; done) | split | dsimp only | (apply kept_foldl _ _ _ _ (by simp (maxDischargeDepth := 60) [*]); intro t x; try simp only)))
@[simp] theorem State.galLbaRun_kept (r : PeerRead) (c : Nat) (w : Window) (x : Namespace) (s : State) {s₀ : State} (h₀ : Kept s₀ s) : Kept s₀ (State.galLbaRun r c w x s) := by
  unfold State.galLbaRun
  (repeat' (first | (simp (maxDischargeDepth := 60) [*]; done) | split | dsimp only | (apply kept_foldl _ _ _ _ (by simp (maxDischargeDepth := 60) [*]); intro t x; try simp only)))
theorem State.galRead1_kept (r : PeerRead) (s t : State) (h : State.galRead1 r s = some t) : Kept s t := by
  unfold State.galRead1 at h
  dsimp only at h
  split at h
  · simp only [Option.some.injEq] at h
    rw [← h]
    simp (maxDischargeDepth := 60)
  · split at h
    · simp only [Option.map_eq_some_iff] at h
      obtain ⟨_, _, h⟩ := h
      rw [← h]
      simp (maxDischargeDepth := 60)
    · cases h
@[simp] theorem State.galReads_kept (k : Nat) (s : State) {s₀ : State} (h₀ : Kept s₀ s) : Kept s₀ (State.galReads k s) := by
  refine h₀.trans ?_
  clear h₀
  induction k generalizing s with
  | zero => simp [State.galReads]
  | succ k ih =>
    unfold State.galReads
    split
    · split
      · exact ((State.galRead1_kept _ _ _ ‹_›)).trans (ih _)
      · exact Kept.refl _
    · exact Kept.refl _
@[simp] theorem State.galLbaRead_kept (n fn rel len : Nat) (s : State) {s₀ : State} (h₀ : Kept s₀ s) : Kept s₀ (State.galLbaRead n fn rel len s) := by
  unfold State.galLbaRead
  (repeat' (first | (simp (maxDischargeDepth := 60) [*]; done) | split | dsimp only | (apply kept_foldl _ _ _ _ (by simp (maxDischargeDepth := 60) [*]); intro t x; try simp only)))
theorem State.unitWrite_kept (u : LbaUnit) (s s' : State) (h : s.unitWrite u = some s') : Kept s s' := by
  unfold State.unitWrite at h
  split at h
  · cases h
  · split at h
    · rename_i t _ _ _ ht
      have k := State.takeBufs_kept _ _ _ _ _ _ _ ht
      simp only [Option.some.injEq] at h
      rw [← h]
      exact kept_modGal _ id (State.chargeTokens_kept _ _ _ _ (kept_modQen _ id id (kept_modBpm _ (Bpm.sramWrite_wf _ _ _) k)))
    · cases h
@[simp] theorem State.unitWrites_kept (k : Nat) (s : State) {s₀ : State} (h₀ : Kept s₀ s) : Kept s₀ (State.unitWrites k s) := by
  induction k generalizing s with
  | zero => simpa [State.unitWrites] using h₀
  | succ k ih =>
    unfold State.unitWrites
    split
    · split
      · exact ih _ (h₀.trans (State.unitWrite_kept _ _ _ ‹_›))
      · exact h₀
    · exact h₀
@[simp] theorem State.galFinish_kept (s : State) (e : Nat × Ctx) {s₀ : State} (h₀ : Kept s₀ s) : Kept s₀ (State.galFinish s e) := by
  unfold State.galFinish
  (repeat' (first | (simp (maxDischargeDepth := 60) [*]; done) | split | dsimp only | (apply kept_foldl _ _ _ _ (by simp (maxDischargeDepth := 60) [*]); intro t x; try simp only)))
@[simp] theorem State.galDone_kept (s : State) {s₀ : State} (h₀ : Kept s₀ s) : Kept s₀ (State.galDone s) := by
  unfold State.galDone
  (repeat' (first | (simp (maxDischargeDepth := 60) [*]; done) | split | dsimp only | (apply kept_foldl _ _ _ _ (by simp (maxDischargeDepth := 60) [*]); intro t x; try simp only)))
@[simp] theorem State.fenceSweep_kept (s : State) {s₀ : State} (h₀ : Kept s₀ s) : Kept s₀ (State.fenceSweep s) := by
  unfold State.fenceSweep
  (repeat' (first | (simp (maxDischargeDepth := 60) [*]; done) | split | dsimp only | (apply kept_foldl _ _ _ _ (by simp (maxDischargeDepth := 60) [*]); intro t x; try simp only)))
@[simp] theorem State.galTick_kept (s : State) {s₀ : State} (h₀ : Kept s₀ s) : Kept s₀ (State.galTick s) := by
  unfold State.galTick
  (repeat' (first | (simp (maxDischargeDepth := 60) [*]; done) | split | dsimp only | (apply kept_foldl _ _ _ _ (by simp (maxDischargeDepth := 60) [*]); intro t x; try simp only)))
@[simp] theorem State.clearBursts_kept (p : Nat → Bool) (s : State) {s₀ : State} (h₀ : Kept s₀ s) : Kept s₀ (State.clearBursts p s) := by
  unfold State.clearBursts
  (repeat' (first | (simp (maxDischargeDepth := 60) [*]; done) | split | dsimp only | (apply kept_foldl _ _ _ _ (by simp (maxDischargeDepth := 60) [*]); intro t x; try simp only)))
@[simp] theorem State.galSliceReset_kept (n : Nat) (s : State) {s₀ : State} (h₀ : Kept s₀ s) : Kept s₀ (State.galSliceReset n s) := by
  unfold State.galSliceReset
  (repeat' (first | (simp (maxDischargeDepth := 60) [*]; done) | split | dsimp only | (apply kept_foldl _ _ _ _ (by simp (maxDischargeDepth := 60) [*]); intro t x; try simp only)))
@[simp] theorem State.galReload_kept (s : State) {s₀ : State} (h₀ : Kept s₀ s) : Kept s₀ (State.galReload s) := by
  unfold State.galReload
  (repeat' (first | (simp (maxDischargeDepth := 60) [*]; done) | split | dsimp only | (apply kept_foldl _ _ _ _ (by simp (maxDischargeDepth := 60) [*]); intro t x; try simp only)))
@[simp] theorem State.refillSlice_kept (s : State) (n : Nat) {s₀ : State} (h₀ : Kept s₀ s) : Kept s₀ (State.refillSlice s n) := by
  unfold State.refillSlice
  (repeat' (first | (simp (maxDischargeDepth := 60) [*]; done) | split | dsimp only | (apply kept_foldl _ _ _ _ (by simp (maxDischargeDepth := 60) [*]); intro t x; try simp only)))
@[simp] theorem State.floorSlice_kept (s : State) (n : Nat) {s₀ : State} (h₀ : Kept s₀ s) : Kept s₀ (State.floorSlice s n) := by
  unfold State.floorSlice
  (repeat' (first | (simp (maxDischargeDepth := 60) [*]; done) | split | dsimp only | (apply kept_foldl _ _ _ _ (by simp (maxDischargeDepth := 60) [*]); intro t x; try simp only)))
@[simp] theorem State.commitSlice_kept (n : Nat) (s : State) {s₀ : State} (h₀ : Kept s₀ s) : Kept s₀ (State.commitSlice n s) := by
  unfold State.commitSlice
  (repeat' (first | (simp (maxDischargeDepth := 60) [*]; done) | split | dsimp only | (apply kept_foldl _ _ _ _ (by simp (maxDischargeDepth := 60) [*]); intro t x; try simp only)))
@[simp] theorem State.applyStaged_kept (s : State) {s₀ : State} (h₀ : Kept s₀ s) : Kept s₀ (State.applyStaged s) := by
  unfold State.applyStaged
  refine kept_foldl _ _ _ _ h₀ fun t x => ?_
  refine kept_modTnu _ (kept_foldl _ _ _ _ (Kept.refl _) fun t x => ?_)
  split
  · exact Kept.ofEq rfl
  · exact Kept.refl _
@[simp] theorem State.setQuiesce_kept (n : Nat) (on : Bool) (s : State) {s₀ : State} (h₀ : Kept s₀ s) : Kept s₀ (State.setQuiesce n on s) := by
  unfold State.setQuiesce
  (repeat' (first | (simp (maxDischargeDepth := 60) [*]; done) | split | dsimp only | (apply kept_foldl _ _ _ _ (by simp (maxDischargeDepth := 60) [*]); intro t x; try simp only)))
theorem State.writeQstate_kept (a b c : Nat) (p : Bool) (s t : State) (h : s.writeQstate a b c p = some t) : Kept s t := by
  unfold State.writeQstate at h
  dsimp only at h
  split at h
  · split at h
    · simp only [Option.some.injEq] at h
      rw [← h]
      simp
    · cases h
  · cases h
@[simp] theorem State.writeDlogHead_kept (n head : Nat) (s : State) {s₀ : State} (h₀ : Kept s₀ s) : Kept s₀ (State.writeDlogHead n head s) := by
  unfold State.writeDlogHead
  (repeat' (first | (simp (maxDischargeDepth := 60) [*]; done) | split | dsimp only | (apply kept_foldl _ _ _ _ (by simp (maxDischargeDepth := 60) [*]); intro t x; try simp only)))
@[simp] theorem State.writeDlogEpoch_kept (n value : Nat) (s : State) {s₀ : State} (h₀ : Kept s₀ s) : Kept s₀ (State.writeDlogEpoch n value s) := by
  unfold State.writeDlogEpoch
  (repeat' (first | (simp (maxDischargeDepth := 60) [*]; done) | split | dsimp only | (apply kept_foldl _ _ _ _ (by simp (maxDischargeDepth := 60) [*]); intro t x; try simp only)))
@[simp] theorem State.requestDrain_kept (n : Nat) (s : State) {s₀ : State} (h₀ : Kept s₀ s) : Kept s₀ (State.requestDrain n s) := by
  unfold State.requestDrain
  (repeat' (first | (simp (maxDischargeDepth := 60) [*]; done) | split | dsimp only | (apply kept_foldl _ _ _ _ (by simp (maxDischargeDepth := 60) [*]); intro t x; try simp only)))
@[simp] theorem State.requestSquash_kept (n : Nat) (s : State) {s₀ : State} (h₀ : Kept s₀ s) : Kept s₀ (State.requestSquash n s) := by
  unfold State.requestSquash
  (repeat' (first | (simp (maxDischargeDepth := 60) [*]; done) | split | dsimp only | (apply kept_foldl _ _ _ _ (by simp (maxDischargeDepth := 60) [*]); intro t x; try simp only)))
@[simp] theorem State.clearSliceObjs_kept (n : Nat) (s : State) {s₀ : State} (h₀ : Kept s₀ s) : Kept s₀ (State.clearSliceObjs n s) := by
  exact h₀.trans (Kept.ofEq rfl)
@[simp] theorem State.resetSlice_kept (n : Nat) (timedOut : Bool) (s : State) {s₀ : State} (h₀ : Kept s₀ s) : Kept s₀ (State.resetSlice n timedOut s) := by
  unfold State.resetSlice
  (repeat' (first | (simp (maxDischargeDepth := 60) [*]; done) | split | dsimp only | (apply kept_foldl _ _ _ _ (by simp (maxDischargeDepth := 60) [*]); intro t x; try simp only)))
@[simp] theorem State.finishWith_kept (c : Nat) (w : Word) (s : State) {s₀ : State} (h₀ : Kept s₀ s) : Kept s₀ (State.finishWith c w s) := by
  unfold State.finishWith
  (repeat' (first | (simp (maxDischargeDepth := 60) [*]; done) | split | dsimp only | (apply kept_foldl _ _ _ _ (by simp (maxDischargeDepth := 60) [*]); intro t x; try simp only)))
@[simp] theorem State.catchCmd_kept (c status : Nat) (s : State) {s₀ : State} (h₀ : Kept s₀ s) : Kept s₀ (State.catchCmd c status s) := by
  unfold State.catchCmd
  (repeat' (first | (simp (maxDischargeDepth := 60) [*]; done) | split | dsimp only | (apply kept_foldl _ _ _ _ (by simp (maxDischargeDepth := 60) [*]); intro t x; try simp only)))
@[simp] theorem State.pageOut_kept (c page : Nat) (x : Ctx) (d : List Byte) (s : State) {s₀ : State} (h₀ : Kept s₀ s) : Kept s₀ (State.pageOut c page x d s) := by
  refine h₀.trans ?_
  clear h₀
  unfold State.pageOut
  refine State.ptrGo_kept _ _ _ _ (fun t => ?_) (Kept.refl _)
  (repeat' split) <;> simp (maxDischargeDepth := 60)
@[simp] theorem State.pageLogged_kept (c lid : Nat) (x : Ctx) (s : State) {s₀ : State} (h₀ : Kept s₀ s) : Kept s₀ (State.pageLogged c lid x s) := by
  unfold State.pageLogged
  (repeat' (first | (simp (maxDischargeDepth := 60) [*]; done) | split | dsimp only | (apply kept_foldl _ _ _ _ (by simp (maxDischargeDepth := 60) [*]); intro t x; try simp only)))
@[simp] theorem State.apstSet_kept (c : Nat) (x : Ctx) (s : State) {s₀ : State} (h₀ : Kept s₀ s) : Kept s₀ (State.apstSet c x s) := by
  unfold State.apstSet
  (repeat' (first | (simp (maxDischargeDepth := 60) [*]; done) | split | dsimp only | (apply kept_foldl _ _ _ _ (by simp (maxDischargeDepth := 60) [*]); intro t x; try simp only)))
@[simp] theorem State.unmapNs_kept (nsid : Nat) (s : State) {s₀ : State} (h₀ : Kept s₀ s) : Kept s₀ (State.unmapNs nsid s) := by
  unfold State.unmapNs
  (repeat' (first | (simp (maxDischargeDepth := 60) [*]; done) | split | dsimp only | (apply kept_foldl _ _ _ _ (by simp (maxDischargeDepth := 60) [*]); intro t x; try simp only)))
@[simp] theorem State.nsChanged_kept (slice nsid : Nat) (s : State) {s₀ : State} (h₀ : Kept s₀ s) : Kept s₀ (State.nsChanged slice nsid s) := by
  refine h₀.trans ?_
  clear h₀
  unfold State.nsChanged
  dsimp only
  split
  · split
    · exact State.asyncEvent_kept _ _ _ (kept_modQen _ (by simp) (by simp) (Kept.refl _))
    · exact kept_modQen _ (by simp) (by simp) (Kept.refl _)
  · exact Kept.refl _
@[simp] theorem State.createNs_kept (c : Nat) (p : NamespaceSpec) (s : State) {s₀ : State} (h₀ : Kept s₀ s) : Kept s₀ (State.createNs c p s) := by
  unfold State.createNs
  (repeat' (first | (simp (maxDischargeDepth := 60) [*]; done) | split | dsimp only | (apply kept_foldl _ _ _ _ (by simp (maxDischargeDepth := 60) [*]); intro t x; try simp only)))
@[simp] theorem State.regenerate_kept (slots : List Nat) (s : State) {s₀ : State} (h₀ : Kept s₀ s) : Kept s₀ (State.regenerate slots s) := by
  unfold State.regenerate
  (repeat' (first | (simp (maxDischargeDepth := 60) [*]; done) | split | dsimp only | (apply kept_foldl _ _ _ _ (by simp (maxDischargeDepth := 60) [*]); intro t x; try simp only)))
@[simp] theorem State.firstFormat_kept (s : State) {s₀ : State} (h₀ : Kept s₀ s) : Kept s₀ (State.firstFormat s) := by
  unfold State.firstFormat
  (repeat' (first | (simp (maxDischargeDepth := 60) [*]; done) | split | dsimp only | (apply kept_foldl _ _ _ _ (by simp (maxDischargeDepth := 60) [*]); intro t x; try simp only)))
@[simp] theorem State.releaseUser_kept (s : State) {s₀ : State} (h₀ : Kept s₀ s) : Kept s₀ (State.releaseUser s) := by
  unfold State.releaseUser
  (repeat' (first | (simp (maxDischargeDepth := 60) [*]; done) | split | dsimp only | (apply kept_foldl _ _ _ _ (by simp (maxDischargeDepth := 60) [*]); intro t x; try simp only)))
@[simp] theorem State.readyAll_kept (s : State) {s₀ : State} (h₀ : Kept s₀ s) : Kept s₀ (State.readyAll s) := by
  unfold State.readyAll
  (repeat' (first | (simp (maxDischargeDepth := 60) [*]; done) | split | dsimp only | (apply kept_foldl _ _ _ _ (by simp (maxDischargeDepth := 60) [*]); intro t x; try simp only)))
@[simp] theorem State.cleanEnd_kept (s : State) {s₀ : State} (h₀ : Kept s₀ s) : Kept s₀ (State.cleanEnd s) := by
  unfold State.cleanEnd
  (repeat' (first | (simp (maxDischargeDepth := 60) [*]; done) | split | dsimp only | (apply kept_foldl _ _ _ _ (by simp (maxDischargeDepth := 60) [*]); intro t x; try simp only)))
@[simp] theorem State.shutdownEnd_kept (s : State) {s₀ : State} (h₀ : Kept s₀ s) : Kept s₀ (State.shutdownEnd s) := by
  unfold State.shutdownEnd
  (repeat' (first | (simp (maxDischargeDepth := 60) [*]; done) | split | dsimp only | (apply kept_foldl _ _ _ _ (by simp (maxDischargeDepth := 60) [*]); intro t x; try simp only)))
@[simp] theorem State.writeConfig_kept (f : ConfigRecord → ConfigRecord) (s : State) {s₀ : State} (h₀ : Kept s₀ s) : Kept s₀ (State.writeConfig f s) := by
  unfold State.writeConfig
  dsimp only
  refine kept_modCsu _ ?_ ?_ ?_ h₀
  · intro h
    apply Memory.wf_writeAll
    split
    · exact Memory.wf_clearRange 0xFF _ _ _ h
    · exact h
  · split <;> simp
  · split <;> simp
@[simp] theorem State.setTake_kept (st trials : Nat) (s : State) {s₀ : State} (h₀ : Kept s₀ s) : Kept s₀ (State.setTake st trials s) := by
  unfold State.setTake
  (repeat' (first | (simp (maxDischargeDepth := 60) [*]; done) | split | dsimp only | (apply kept_foldl _ _ _ _ (by simp (maxDischargeDepth := 60) [*]); intro t x; try simp only)))
@[simp] theorem State.csuCmd_kept (r : CsuRequest) (op : Nat) (s : State) {s₀ : State} (h₀ : Kept s₀ s) : Kept s₀ (State.csuCmd r op s) := by
  unfold State.csuCmd
  (repeat' (first | (simp (maxDischargeDepth := 60) [*]; done) | (with_reducible apply kept_modCsu) | (with_reducible apply State.setFld_kept) | split | dsimp only | (apply kept_foldl _ _ _ _ (by simp (maxDischargeDepth := 60) [*]); intro t x; try simp only)))
@[simp] theorem State.csuGo_kept (r : CsuRequest) (op : Nat) (argOk : Bool) (sector : Nat) (f : FlashOp) (window : Bool) (s : State) {s₀ : State} (h₀ : Kept s₀ s) : Kept s₀ (State.csuGo r op argOk sector f window s) := by
  unfold State.csuGo
  (repeat' (first | (simp (maxDischargeDepth := 60) [*]; done) | split | dsimp only | (apply kept_foldl _ _ _ _ (by simp (maxDischargeDepth := 60) [*]); intro t x; try simp only)))
@[simp] theorem State.csuProgram_kept (r : CsuRequest) (s : State) {s₀ : State} (h₀ : Kept s₀ s) : Kept s₀ (State.csuProgram r s) := by
  unfold State.csuProgram
  (repeat' (first | (simp (maxDischargeDepth := 60) [*]; done) | split | dsimp only | (apply kept_foldl _ _ _ _ (by simp (maxDischargeDepth := 60) [*]); intro t x; try simp only)))
@[simp] theorem State.csuErase_kept (r : CsuRequest) (s : State) {s₀ : State} (h₀ : Kept s₀ s) : Kept s₀ (State.csuErase r s) := by
  unfold State.csuErase
  (repeat' (first | (simp (maxDischargeDepth := 60) [*]; done) | split | dsimp only | (apply kept_foldl _ _ _ _ (by simp (maxDischargeDepth := 60) [*]); intro t x; try simp only)))
@[simp] theorem State.windowProgram_kept (r : CsuRequest) (s : State) {s₀ : State} (h₀ : Kept s₀ s) : Kept s₀ (State.windowProgram r s) := by
  unfold State.windowProgram
  (repeat' (first | (simp (maxDischargeDepth := 60) [*]; done) | split | dsimp only | (apply kept_foldl _ _ _ _ (by simp (maxDischargeDepth := 60) [*]); intro t x; try simp only)))
@[simp] theorem State.windowErase_kept (r : CsuRequest) (s : State) {s₀ : State} (h₀ : Kept s₀ s) : Kept s₀ (State.windowErase r s) := by
  unfold State.windowErase
  (repeat' (first | (simp (maxDischargeDepth := 60) [*]; done) | split | dsimp only | (apply kept_foldl _ _ _ _ (by simp (maxDischargeDepth := 60) [*]); intro t x; try simp only)))
@[simp] theorem State.loaderCopied_kept (r : CsuRequest) (s : State) {s₀ : State} (h₀ : Kept s₀ s) : Kept s₀ (State.loaderCopied r s) := by
  unfold State.loaderCopied
  (repeat' (first | (simp (maxDischargeDepth := 60) [*]; done) | exact id | exact le_rfl | (with_reducible apply kept_modCsu) | split | dsimp only | (apply kept_foldl _ _ _ _ (by simp (maxDischargeDepth := 60) [*]); intro t x; try simp only)))
@[simp] theorem State.csuCommand_kept (r : CsuRequest) (op : Nat) (s : State) {s₀ : State} (h₀ : Kept s₀ s) : Kept s₀ (State.csuCommand r op s) := by
  unfold State.csuCommand
  (repeat' (first | (simp (maxDischargeDepth := 60) [*]; done) | split | dsimp only | (apply kept_foldl _ _ _ _ (by simp (maxDischargeDepth := 60) [*]); intro t x; try simp only)))
@[simp] theorem State.spoil_kept (a n : Nat) (s : State) {s₀ : State} (h₀ : Kept s₀ s) : Kept s₀ (State.spoil a n s) := by
  unfold State.spoil
  (repeat' (first | (simp (maxDischargeDepth := 60) [*]; done) | (with_reducible apply kept_drawn) | (with_reducible apply kept_modCsu) | split | dsimp only | (apply kept_foldl _ _ _ _ (by simp (maxDischargeDepth := 60) [*]); intro t x; try simp only)))
@[simp] theorem State.flashDone_kept (o : BankOp) (ok : Bool) (s : State) {s₀ : State} (h₀ : Kept s₀ s) : Kept s₀ (State.flashDone o ok s) := by
  unfold State.flashDone
  split
  · split
    · exact kept_modCsu _ (fun h => Memory.wf_writeAll 0xFF _ _ _ h) le_rfl le_rfl h₀
    · exact State.spoil_kept _ _ _ h₀
  · rename_i n _
    dsimp only
    have k : Kept s₀ (s.modCsu fun u => u.eraseSector n) := kept_modCsu _ (fun h => Csu.eraseSector_wf _ _ h) (by simp) (by simp) h₀
    have k' : Kept s₀ ((s.modCsu fun u => u.eraseSector n).modCsu fun u => { u with winErases := u.winErases + 1 }) :=
      kept_modCsu _ id (by simp) (by simp) k
    by_cases hw : o.window = true
    · rw [if_pos hw]
      split
      · exact kept_setObj _ _ k'
      · exact State.spoil_kept _ _ _ (kept_setObj _ _ k')
    · rw [if_neg hw]
      split
      · exact k
      · exact State.spoil_kept _ _ _ k
@[simp] theorem State.heldWindow_kept (s : State) {s₀ : State} (h₀ : Kept s₀ s) : Kept s₀ (State.heldWindow s) := by
  unfold State.heldWindow
  (repeat' (first | (simp (maxDischargeDepth := 60) [*]; done) | split | dsimp only | (apply kept_foldl _ _ _ _ (by simp (maxDischargeDepth := 60) [*]); intro t x; try simp only)))
@[simp] theorem State.writeWp_kept (cluster : Cluster) (pair n : Nat) (value : Word) (s : State) {s₀ : State} (h₀ : Kept s₀ s) : Kept s₀ (State.writeWp cluster pair n value s) := by
  unfold State.writeWp
  (repeat' (first | (simp (maxDischargeDepth := 60) [*]; done) | split | dsimp only | (apply kept_foldl _ _ _ _ (by simp (maxDischargeDepth := 60) [*]); intro t x; try simp only)))
@[simp] theorem State.stopFlash_kept (s : State) {s₀ : State} (h₀ : Kept s₀ s) : Kept s₀ (State.stopFlash s) := by
  unfold State.stopFlash
  refine kept_modCsu _ id le_rfl le_rfl (kept_foldl _ _ _ _ h₀ fun t x => ?_)
  split <;> simp (maxDischargeDepth := 60)
@[simp] theorem State.debugWrite_kept (sp : DebugSpace) (a : Nat) (b : Byte) (s : State) {s₀ : State} (h₀ : Kept s₀ s) : Kept s₀ (State.debugWrite sp a b s) := by
  unfold State.debugWrite
  (repeat' (first | (simp (maxDischargeDepth := 60) [*]; done) | (with_reducible apply kept_modBpm) | (with_reducible apply kept_modCcl) | (with_reducible apply kept_modCsu) | (with_reducible apply kept_modDmc) | split | dsimp only | (apply kept_foldl _ _ _ _ (by simp (maxDischargeDepth := 60) [*]); intro t x; try simp only)))
@[simp] theorem State.stageRecord_kept (r : Record) (s : State) {s₀ : State} (h₀ : Kept s₀ s) : Kept s₀ (State.stageRecord r s) := by
  unfold State.stageRecord
  generalize r.bytes = bs
  dsimp only
  have k : Kept s₀ (s.modCru fun c => { c with
      writing := none, staged := r :: c.staged, flushTick := if c.flushTick.isSome then c.flushTick else some s.now }) := kept_modCru _ h₀
  split
  · exact kept_modCru _ (kept_modCsu _ (fun h => Memory.wf_writeAll 0xFF _ _ _ h) (by simp) (by simp) k)
  · exact k
@[simp] theorem State.slatesEnd_kept (s : State) {s₀ : State} (h₀ : Kept s₀ s) : Kept s₀ (State.slatesEnd s) := by
  unfold State.slatesEnd
  (repeat' (first | (simp (maxDischargeDepth := 60) [*]; done) | split | dsimp only | (apply kept_foldl _ _ _ _ (by simp (maxDischargeDepth := 60) [*]); intro t x; try simp only)))
@[simp] theorem State.captureTick_kept (peek : State → Nat → Word) (s : State) {s₀ : State} (h₀ : Kept s₀ s) : Kept s₀ (State.captureTick peek s) := by
  unfold State.captureTick
  (repeat' (first | (simp (maxDischargeDepth := 60) [*]; done) | split | dsimp only | (apply kept_foldl _ _ _ _ (by simp (maxDischargeDepth := 60) [*]); intro t x; try simp only)))
@[simp] theorem State.fwTrig_kept (code : Nat) (s : State) {s₀ : State} (h₀ : Kept s₀ s) : Kept s₀ (State.fwTrig code s) := by
  unfold State.fwTrig
  (repeat' (first | (simp (maxDischargeDepth := 60) [*]; done) | split | dsimp only | (apply kept_foldl _ _ _ _ (by simp (maxDischargeDepth := 60) [*]); intro t x; try simp only)))
@[simp] theorem State.setFreeze_kept (on : Bool) (s : State) {s₀ : State} (h₀ : Kept s₀ s) : Kept s₀ (State.setFreeze on s) := by
  unfold State.setFreeze
  (repeat' (first | (simp (maxDischargeDepth := 60) [*]; done) | split | dsimp only | (apply kept_foldl _ _ _ _ (by simp (maxDischargeDepth := 60) [*]); intro t x; try simp only)))
@[simp] theorem State.resetCru_kept (class1 : Bool) (s : State) {s₀ : State} (h₀ : Kept s₀ s) : Kept s₀ (State.resetCru class1 s) := by
  unfold State.resetCru
  (repeat' (first | (simp (maxDischargeDepth := 60) [*]; done) | split | dsimp only | (apply kept_foldl _ _ _ _ (by simp (maxDischargeDepth := 60) [*]); intro t x; try simp only)))
@[simp] theorem State.startCru_kept (s : State) {s₀ : State} (h₀ : Kept s₀ s) : Kept s₀ (State.startCru s) := by
  unfold State.startCru
  (repeat' (first | (simp (maxDischargeDepth := 60) [*]; done) | split | dsimp only | (apply kept_foldl _ _ _ _ (by simp (maxDischargeDepth := 60) [*]); intro t x; try simp only)))
@[simp] theorem State.hallCru_kept (s : State) {s₀ : State} (h₀ : Kept s₀ s) : Kept s₀ (State.hallCru s) := by
  unfold State.hallCru
  (repeat' (first | (simp (maxDischargeDepth := 60) [*]; done) | split | dsimp only | (apply kept_foldl _ _ _ _ (by simp (maxDischargeDepth := 60) [*]); intro t x; try simp only)))
@[simp] theorem State.loseStaging_kept (s : State) {s₀ : State} (h₀ : Kept s₀ s) : Kept s₀ (State.loseStaging s) := by
  unfold State.loseStaging
  (repeat' (first | (simp (maxDischargeDepth := 60) [*]; done) | split | dsimp only | (apply kept_foldl _ _ _ _ (by simp (maxDischargeDepth := 60) [*]); intro t x; try simp only)))
@[simp] theorem State.archiveRunning_kept (s : State) {s₀ : State} (h₀ : Kept s₀ s) : Kept s₀ (State.archiveRunning s) := by
  unfold State.archiveRunning
  (repeat' (first | (simp (maxDischargeDepth := 60) [*]; done) | split | dsimp only | (apply kept_foldl _ _ _ _ (by simp (maxDischargeDepth := 60) [*]); intro t x; try simp only)))
@[simp] theorem State.writeBanks_kept (t : List Byte) (st : Nat) (s : State) {s₀ : State} (h₀ : Kept s₀ s) : Kept s₀ (State.writeBanks t st s) := by
  unfold State.writeBanks
  dsimp only
  simp (maxDischargeDepth := 60) [*]
@[simp] theorem State.writeTake_kept (t : List Byte) (s : State) {s₀ : State} (h₀ : Kept s₀ s) : Kept s₀ (State.writeTake t s) := by
  unfold State.writeTake
  (repeat' (first | (simp (maxDischargeDepth := 60) [*]; done) | split | dsimp only | (apply kept_foldl _ _ _ _ (by simp (maxDischargeDepth := 60) [*]); intro t x; try simp only)))
@[simp] theorem State.writeFailed_kept (s : State) {s₀ : State} (h₀ : Kept s₀ s) : Kept s₀ (State.writeFailed s) := by
  unfold State.writeFailed
  (repeat' (first | (simp (maxDischargeDepth := 60) [*]; done) | split | dsimp only | (apply kept_foldl _ _ _ _ (by simp (maxDischargeDepth := 60) [*]); intro t x; try simp only)))
@[simp] theorem State.countFallback_kept (s : State) {s₀ : State} (h₀ : Kept s₀ s) : Kept s₀ (State.countFallback s) := by
  unfold State.countFallback
  (repeat' (first | (simp (maxDischargeDepth := 60) [*]; done) | split | dsimp only | (apply kept_foldl _ _ _ _ (by simp (maxDischargeDepth := 60) [*]); intro t x; try simp only)))
@[simp] theorem State.stagedStart_kept (s : State) {s₀ : State} (h₀ : Kept s₀ s) : Kept s₀ (State.stagedStart s) := by
  unfold State.stagedStart
  (repeat' (first | (simp (maxDischargeDepth := 60) [*]; done) | split | dsimp only | (apply kept_foldl _ _ _ _ (by simp (maxDischargeDepth := 60) [*]); intro t x; try simp only)))
@[simp] theorem State.chooseArchive_kept (s : State) {s₀ : State} (h₀ : Kept s₀ s) : Kept s₀ (State.chooseArchive s) := by
  unfold State.chooseArchive
  (repeat' (first | (simp (maxDischargeDepth := 60) [*]; done) | split | dsimp only | (apply kept_foldl _ _ _ _ (by simp (maxDischargeDepth := 60) [*]); intro t x; try simp only)))
@[simp] theorem State.chooseTake_kept (s : State) {s₀ : State} (h₀ : Kept s₀ s) : Kept s₀ (State.chooseTake s) := by
  unfold State.chooseTake
  (repeat' (first | (simp (maxDischargeDepth := 60) [*]; done) | split | dsimp only | (apply kept_foldl _ _ _ _ (by simp (maxDischargeDepth := 60) [*]); intro t x; try simp only)))
@[simp] theorem State.activationNotice_kept (s : State) {s₀ : State} (h₀ : Kept s₀ s) : Kept s₀ (State.activationNotice s) := by
  unfold State.activationNotice
  (repeat' (first | (simp (maxDischargeDepth := 60) [*]; done) | split | dsimp only | (apply kept_foldl _ _ _ _ (by simp (maxDischargeDepth := 60) [*]); intro t x; try simp only)))
@[simp] theorem State.beginActivation_kept (c : Option Nat) (s : State) {s₀ : State} (h₀ : Kept s₀ s) : Kept s₀ (State.beginActivation c s) := by
  unfold State.beginActivation
  (repeat' (first | (simp (maxDischargeDepth := 60) [*]; done) | split | dsimp only | (apply kept_foldl _ _ _ _ (by simp (maxDischargeDepth := 60) [*]); intro t x; try simp only)))
@[simp] theorem State.activationEnd_kept (s : State) {s₀ : State} (h₀ : Kept s₀ s) : Kept s₀ (State.activationEnd s) := by
  unfold State.activationEnd
  (repeat' (first | (simp (maxDischargeDepth := 60) [*]; done) | split | dsimp only | (apply kept_foldl _ _ _ _ (by simp (maxDischargeDepth := 60) [*]); intro t x; try simp only)))
@[simp] theorem State.fallbackEnd_kept (s : State) {s₀ : State} (h₀ : Kept s₀ s) : Kept s₀ (State.fallbackEnd s) := by
  unfold State.fallbackEnd
  dsimp only
  refine kept_modQen _ id id (kept_modCsu _ id le_rfl le_rfl (kept_modCsu _ ?_ ?_ ?_ h₀))
  · intro h; split <;> simpa using h
  · split <;> simp
  · split <;> simp
@[simp] theorem State.fallbackWrite_kept (s : State) {s₀ : State} (h₀ : Kept s₀ s) : Kept s₀ (State.fallbackWrite s) := by
  unfold State.fallbackWrite
  (repeat' (first | (simp (maxDischargeDepth := 60) [*]; done) | split | dsimp only | (apply kept_foldl _ _ _ _ (by simp (maxDischargeDepth := 60) [*]); intro t x; try simp only)))
@[simp] theorem State.confirm_kept (s : State) {s₀ : State} (h₀ : Kept s₀ s) : Kept s₀ (State.confirm s) := by
  unfold State.confirm
  split
  · refine kept_modCsu _ id ?_ le_rfl (State.setTake_kept _ _ _ h₀)
    dsimp only
    split <;> simp
  · exact h₀
@[simp] theorem State.fwWrite_kept (c : Nat) (storeOk : Bool) (t : List Byte) (f : State → State) (s : State)
    (hf : ∀ u, Kept u (f u)) {s₀ : State} (h₀ : Kept s₀ s) : Kept s₀ (State.fwWrite c storeOk t f s) := by
  refine h₀.trans ?_
  unfold State.fwWrite
  split
  · exact (State.writeTake_kept _ _ (Kept.refl _)).trans (hf _)
  · simp (maxDischargeDepth := 60)
@[simp] theorem State.commitActivate_kept (c : Nat) (s : State) {s₀ : State} (h₀ : Kept s₀ s) : Kept s₀ (State.commitActivate c s) := by
  unfold State.commitActivate
  (repeat' (first | (simp (maxDischargeDepth := 60) [*]; done) | split | dsimp only | (apply kept_foldl _ _ _ _ (by simp (maxDischargeDepth := 60) [*]); intro t x; try simp only)))
@[simp] theorem State.rescueGo_kept (t : RescueTask) (seq : BitVec 8) (s : State) {s₀ : State} (h₀ : Kept s₀ s) : Kept s₀ (State.rescueGo t seq s) := by
  unfold State.rescueGo
  (repeat' (first | (simp (maxDischargeDepth := 60) [*]; done) | (with_reducible apply kept_modPower) | (with_reducible apply kept_modQen) | (with_reducible apply State.sample_kept) | (with_reducible apply State.setFld_kept) | (with_reducible apply State.trigger_kept) | split | dsimp only | (apply kept_foldl _ _ _ _ (by simp (maxDischargeDepth := 60) [*]); intro t x; try simp only)))
@[simp] theorem State.taskEnd_kept (res : Nat) (o0 o1 : Nat) (s : State) {s₀ : State} (h₀ : Kept s₀ s) : Kept s₀ (State.taskEnd res o0 o1 s) := by
  unfold State.taskEnd
  (repeat' (first | (simp (maxDischargeDepth := 60) [*]; done) | split | dsimp only | (apply kept_foldl _ _ _ _ (by simp (maxDischargeDepth := 60) [*]); intro t x; try simp only)))
@[simp] theorem State.drawChallenge_kept (s : State) {s₀ : State} (h₀ : Kept s₀ s) : Kept s₀ (State.drawChallenge s) := by
  unfold State.drawChallenge
  (repeat' (first | (simp (maxDischargeDepth := 60) [*]; done) | (with_reducible apply kept_drawn) | (with_reducible apply kept_modCsu) | split | dsimp only | (apply kept_foldl _ _ _ _ (by simp (maxDischargeDepth := 60) [*]); intro t x; try simp only)))
@[simp] theorem State.downgrade_kept (s : State) {s₀ : State} (h₀ : Kept s₀ s) : Kept s₀ (State.downgrade s) := by
  unfold State.downgrade
  (repeat' (first | (simp (maxDischargeDepth := 60) [*]; done) | split | dsimp only | (apply kept_foldl _ _ _ _ (by simp (maxDischargeDepth := 60) [*]); intro t x; try simp only)))
@[simp] theorem State.sealApply_kept (s : State) {s₀ : State} (h₀ : Kept s₀ s) : Kept s₀ (State.sealApply s) := by
  unfold State.sealApply
  (repeat' (first | (simp (maxDischargeDepth := 60) [*]; done) | split | dsimp only | (apply kept_foldl _ _ _ _ (by simp (maxDischargeDepth := 60) [*]); intro t x; try simp only)))
@[simp] theorem State.setStage_kept (st : Stage) (s : State) {s₀ : State} (h₀ : Kept s₀ s) : Kept s₀ (State.setStage st s) := by
  unfold State.setStage
  (repeat' (first | (simp (maxDischargeDepth := 60) [*]; done) | split | dsimp only | (apply kept_foldl _ _ _ _ (by simp (maxDischargeDepth := 60) [*]); intro t x; try simp only)))
@[simp] theorem State.dropVolatile_kept (s : State) {s₀ : State} (h₀ : Kept s₀ s) : Kept s₀ (State.dropVolatile s) := by
  exact h₀.trans (Kept.ofEq rfl)
@[simp] theorem State.resetUnitRegs_kept (s : State) (unit : Nat) {s₀ : State} (h₀ : Kept s₀ s) : Kept s₀ (State.resetUnitRegs s unit) := by
  unfold State.resetUnitRegs
  (repeat' (first | (simp (maxDischargeDepth := 60) [*]; done) | split | dsimp only | (apply kept_foldl _ _ _ _ (by simp (maxDischargeDepth := 60) [*]); intro t x; try simp only)))
@[simp] theorem State.sheetEnd_kept (s : State) {s₀ : State} (h₀ : Kept s₀ s) : Kept s₀ (State.sheetEnd s) := by
  unfold State.sheetEnd
  (repeat' (first | (simp (maxDischargeDepth := 60) [*]; done) | split | dsimp only | (apply kept_foldl _ _ _ _ (by simp (maxDischargeDepth := 60) [*]); intro t x; try simp only)))
@[simp] theorem State.ptmLost_kept (s : State) {s₀ : State} (h₀ : Kept s₀ s) : Kept s₀ (State.ptmLost s) := by
  unfold State.ptmLost
  (repeat' (first | (simp (maxDischargeDepth := 60) [*]; done) | (with_reducible apply kept_modHlu) | (with_reducible apply kept_modTbu) | split | dsimp only | (apply kept_foldl _ _ _ _ (by simp (maxDischargeDepth := 60) [*]); intro t x; try simp only)))
@[simp] theorem State.unitsReset_kept (class1 work : Bool) (s : State) {s₀ : State} (h₀ : Kept s₀ s) : Kept s₀ (State.unitsReset class1 work s) := by
  unfold State.unitsReset
  dsimp only
  have h₁ : Kept s₀ ((((s.squashWhere fun _ => true).clearBursts fun w => (winOf s.gal.active w).kind == .stage).ptmLost).resetClusters.stopFlash.dropVolatile.healthClear Health.thermal) := by
    simp (maxDischargeDepth := 60) [*]
  have h₂ := kept_foldl State.resetUnitRegs resetUnits s₀ _ h₁ fun t x => by simp (maxDischargeDepth := 60)
  generalize List.foldl State.resetUnitRegs _ resetUnits = u at h₂ ⊢
  refine kept_emit _ (State.resetCru_kept _ _ (h₂.trans ⟨rfl, rfl, fun h => ?_, le_rfl, le_rfl, le_rfl, le_rfl, le_rfl⟩))
  simp only [State.memOk, Bool.and_eq_true] at h ⊢
  refine ⟨⟨⟨⟨⟨⟨⟨⟨h.1.1.1.1.1.1.1.1, h.1.1.1.1.1.1.1.2⟩, h.1.1.1.1.1.1.2⟩, h.1.1.1.1.1.2⟩, h.1.1.1.1.2⟩, ?_⟩, ?_⟩, ?_⟩, ?_⟩ <;> rfl
@[simp] theorem State.deviceReset_kept (n : Nat) (work : Bool) (s : State) {s₀ : State} (h₀ : Kept s₀ s) : Kept s₀ (State.deviceReset n work s) := by
  unfold State.deviceReset
  (repeat' (first | (simp (maxDischargeDepth := 60) [*]; done) | split | dsimp only | (apply kept_foldl _ _ _ _ (by simp (maxDischargeDepth := 60) [*]); intro t x; try simp only)))
@[simp] theorem State.cutProgram_kept (o : DieOp) (s : State) {s₀ : State} (h₀ : Kept s₀ s) : Kept s₀ (State.cutProgram o s) := by
  unfold State.cutProgram
  (repeat' (first | (simp (maxDischargeDepth := 60) [*]; done) | split | dsimp only | (apply kept_foldl _ _ _ _ (by simp (maxDischargeDepth := 60) [*]); intro t x; try simp only)))
@[simp] theorem State.interruptOp_kept (d i : Nat) (o : DieOp) (s : State) {s₀ : State} (h₀ : Kept s₀ s) : Kept s₀ (State.interruptOp d i o s) := by
  unfold State.interruptOp
  (repeat' (first | (simp (maxDischargeDepth := 60) [*]; done) | split | dsimp only | (apply kept_foldl _ _ _ _ (by simp (maxDischargeDepth := 60) [*]); intro t x; try simp only)))
@[simp] theorem State.mediaEnd_kept (s : State) {s₀ : State} (h₀ : Kept s₀ s) : Kept s₀ (State.mediaEnd s) := by
  unfold State.mediaEnd
  dsimp only
  refine State.rebuildPools_kept _ _ ?_
  have h₁ := kept_foldl (fun s (e : Nat × DieOp) => s.interruptOp e.2.req.die e.1 e.2) (s.dsc.ops.filter fun e => (s.dsc.die e.2.req.die).held == some e.1)
    s₀ s h₀ fun t x => by simp (maxDischargeDepth := 60)
  refine Kept.trans h₁ ?_
  exact ⟨rfl, rfl, id, le_rfl, le_rfl, le_rfl, le_rfl, le_rfl⟩
@[simp] theorem State.shutWorkEnd_kept (s : State) {s₀ : State} (h₀ : Kept s₀ s) : Kept s₀ (State.shutWorkEnd s) := by
  unfold State.shutWorkEnd
  (repeat' (first | (simp (maxDischargeDepth := 60) [*]; done) | split | dsimp only | (apply kept_foldl _ _ _ _ (by simp (maxDischargeDepth := 60) [*]); intro t x; try simp only)))
@[simp] theorem State.classThree_kept (s : State) {s₀ : State} (h₀ : Kept s₀ s) : Kept s₀ (State.classThree s) := by
  unfold State.classThree
  (repeat' (first | (simp (maxDischargeDepth := 60) [*]; done) | split | dsimp only | (apply kept_foldl _ _ _ _ (by simp (maxDischargeDepth := 60) [*]); intro t x; try simp only)))
@[simp] theorem State.release_kept (s : State) {s₀ : State} (h₀ : Kept s₀ s) : Kept s₀ (State.release s) := by
  unfold State.release
  (repeat' (first | (simp (maxDischargeDepth := 60) [*]; done) | split | dsimp only | (apply kept_foldl _ _ _ _ (by simp (maxDischargeDepth := 60) [*]); intro t x; try simp only)))
@[simp] theorem State.linkLost_kept (s : State) {s₀ : State} (h₀ : Kept s₀ s) : Kept s₀ (State.linkLost s) := by
  unfold State.linkLost
  (repeat' (first | (simp (maxDischargeDepth := 60) [*]; done) | split | dsimp only | (apply kept_foldl _ _ _ _ (by simp (maxDischargeDepth := 60) [*]); intro t x; try simp only)))
@[simp] theorem State.stepFleet_kept (v : Dword) (src : Nat) (s : State) {s₀ : State} (h₀ : Kept s₀ s) : Kept s₀ (State.stepFleet v src s) := by
  unfold State.stepFleet
  (repeat' (first | (simp (maxDischargeDepth := 60) [*]; done) | split | dsimp only | (apply kept_foldl _ _ _ _ (by simp (maxDischargeDepth := 60) [*]); intro t x; try simp only)))
theorem State.writeGrant_kept (v : Nat) (s : State) : Kept s (s.writeGrant v).2 := by
  unfold State.writeGrant
  dsimp only
  split
  · simp (maxDischargeDepth := 60)
  · split <;> simp (maxDischargeDepth := 60)
theorem State.actObj_kept (i j v : Nat) (s t : State) (st : Nat) (h : s.actObj i j v = some (st, t)) : Kept s t := by
  unfold State.actObj at h
  dsimp only at h
  (repeat' split at h) <;> first
    | (cases h; done)
    | (simp only [Option.some.injEq, Prod.mk.injEq] at h; rw [← h.2]; first
        | exact Kept.refl _
        | exact State.writeQstate_kept _ _ _ _ _ _ ‹_›
        | (simp (maxDischargeDepth := 60); done)
        | (split <;> simp (maxDischargeDepth := 60); done))
    | (simp only [Option.some.injEq] at h; have k := State.writeGrant_kept v s; rw [h] at k; exact k)
@[simp] theorem State.stageObj_kept (o : Obj) (index sub v : Nat) (s : State) {s₀ : State} (h₀ : Kept s₀ s) : Kept s₀ (State.stageObj o index sub v s) := by
  unfold State.stageObj
  (repeat' (first | (simp (maxDischargeDepth := 60) [*]; done) | split | dsimp only | (apply kept_foldl _ _ _ _ (by simp (maxDischargeDepth := 60) [*]); intro t x; try simp only)))
theorem State.writeObj_kept (o : Obj) (i j v : Nat) (s t : State) (st : Nat) (h : s.writeObj o i j v = .done st t) : Kept s t := by
  unfold State.writeObj at h
  dsimp only at h
  split at h
  · simp only [WriteEnd.done.injEq] at h; rw [← h.2]; exact Kept.refl _
  · have k : Kept s (if i = 0x2C00 ∧ j = 0x02 ∧ v = 1 then s else s.sample 10) := by simp (maxDischargeDepth := 60)
    generalize (if i = 0x2C00 ∧ j = 0x02 ∧ v = 1 then s else s.sample 10) = u at k h
    split at h
    · simp only [WriteEnd.done.injEq] at h
      rw [← h.2]
      exact k.trans (State.actObj_kept _ _ _ _ _ _ ‹_›)
    · (repeat' split at h) <;> (cases h; try first | exact k | (simp (maxDischargeDepth := 60) [k]; done))
@[simp] theorem State.linkEvent_kept (f : Field) (s : State) {s₀ : State} (h₀ : Kept s₀ s) : Kept s₀ (State.linkEvent f s) := by
  unfold State.linkEvent
  (repeat' (first | (simp (maxDischargeDepth := 60) [*]; done) | split | dsimp only | (apply kept_foldl _ _ _ _ (by simp (maxDischargeDepth := 60) [*]); intro t x; try simp only)))
@[simp] theorem State.sliceHotReset_kept (s : State) (n : Nat) {s₀ : State} (h₀ : Kept s₀ s) : Kept s₀ (State.sliceHotReset s n) := by
  unfold State.sliceHotReset
  (repeat' (first | (simp (maxDischargeDepth := 60) [*]; done) | split | dsimp only | (apply kept_foldl _ _ _ _ (by simp (maxDischargeDepth := 60) [*]); intro t x; try simp only)))
@[simp] theorem State.freeTag_kept (t : Nat) (s : State) {s₀ : State} (h₀ : Kept s₀ s) : Kept s₀ (State.freeTag t s) := by
  unfold State.freeTag
  (repeat' (first | (simp (maxDischargeDepth := 60) [*]; done) | split | dsimp only | (apply kept_foldl _ _ _ _ (by simp (maxDischargeDepth := 60) [*]); intro t x; try simp only)))
@[simp] theorem State.dataArrives_kept (c off len : Nat) (data : BitVec 4096) (s : State) {s₀ : State} (h₀ : Kept s₀ s) : Kept s₀ (State.dataArrives c off len data s) := by
  unfold State.dataArrives
  (repeat' (first | (simp (maxDischargeDepth := 60) [*]; done) | split | dsimp only | (apply kept_foldl _ _ _ _ (by simp (maxDischargeDepth := 60) [*]); intro t x; try simp only)))
@[simp] theorem State.reissueUntranslated_kept (fn : Nat) (pasid : Option Nat) (page : Nat) (s : State) {s₀ : State} (h₀ : Kept s₀ s) : Kept s₀ (State.reissueUntranslated fn pasid page s) := by
  unfold State.reissueUntranslated
  (repeat' (first | (simp (maxDischargeDepth := 60) [*]; done) | exact id | exact le_rfl | (with_reducible apply kept_modQen) | (with_reducible apply kept_modHlu) | split | dsimp only | (apply kept_foldl _ _ _ _ (by simp (maxDischargeDepth := 60) [*]); intro t x; try simp only)))
@[simp] theorem State.received_kept (n : Nat) (s : State) {s₀ : State} (h₀ : Kept s₀ s) : Kept s₀ (State.received n s) := by
  unfold State.received
  (repeat' (first | (simp (maxDischargeDepth := 60) [*]; done) | split | dsimp only | (apply kept_foldl _ _ _ _ (by simp (maxDischargeDepth := 60) [*]); intro t x; try simp only)))
@[simp] theorem State.linkUse_kept (s : State) {s₀ : State} (h₀ : Kept s₀ s) : Kept s₀ (State.linkUse s) := by
  unfold State.linkUse
  (repeat' (first | (simp (maxDischargeDepth := 60) [*]; done) | split | dsimp only | (apply kept_foldl _ _ _ _ (by simp (maxDischargeDepth := 60) [*]); intro t x; try simp only)))
@[simp] theorem State.idleTrack_kept (s : State) {s₀ : State} (h₀ : Kept s₀ s) : Kept s₀ (State.idleTrack s) := by
  unfold State.idleTrack
  (repeat' (first | (simp (maxDischargeDepth := 60) [*]; done) | split | dsimp only | (apply kept_foldl _ _ _ _ (by simp (maxDischargeDepth := 60) [*]); intro t x; try simp only)))
@[simp] theorem State.ptmMiss_kept (s : State) {s₀ : State} (h₀ : Kept s₀ s) : Kept s₀ (State.ptmMiss s) := by
  unfold State.ptmMiss
  (repeat' (first | (simp (maxDischargeDepth := 60) [*]; done) | split | dsimp only | (apply kept_foldl _ _ _ _ (by simp (maxDischargeDepth := 60) [*]); intro t x; try simp only)))
@[simp] theorem State.discipline_kept (d : Int) (s : State) {s₀ : State} (h₀ : Kept s₀ s) : Kept s₀ (State.discipline d s) := by
  unfold State.discipline
  (repeat' (first | (simp (maxDischargeDepth := 60) [*]; done) | split | dsimp only | (apply kept_foldl _ _ _ _ (by simp (maxDischargeDepth := 60) [*]); intro t x; try simp only)))
@[simp] theorem State.setBusMaster_kept (fn : Nat) (on : Bool) (s : State) {s₀ : State} (h₀ : Kept s₀ s) : Kept s₀ (State.setBusMaster fn on s) := by
  unfold State.setBusMaster
  (repeat' (first | (simp (maxDischargeDepth := 60) [*]; done) | (with_reducible apply kept_modHlu) | (with_reducible apply kept_modQen) | split | dsimp only | (apply kept_foldl _ _ _ _ (by simp (maxDischargeDepth := 60) [*]); intro t x; try simp only)))
@[simp] theorem State.portData_kept (p : Nat) (bs : List Byte) (s : State) {s₀ : State} (h₀ : Kept s₀ s) : Kept s₀ (State.portData p bs s) := by
  unfold State.portData
  (repeat' (first | (simp (maxDischargeDepth := 60) [*]; done) | split | dsimp only | (apply kept_foldl _ _ _ _ (by simp (maxDischargeDepth := 60) [*]); intro t x; try simp only)))
@[simp] theorem State.tpErr_kept (st : Nat) (s : State) {s₀ : State} (h₀ : Kept s₀ s) : Kept s₀ (State.tpErr st s) := by
  unfold State.tpErr
  (repeat' (first | (simp (maxDischargeDepth := 60) [*]; done) | split | dsimp only | (apply kept_foldl _ _ _ _ (by simp (maxDischargeDepth := 60) [*]); intro t x; try simp only)))
@[simp] theorem State.respond_kept (via : Transport) (eid tag cmd st : Nat) (data : List Byte) (s : State) {s₀ : State} (h₀ : Kept s₀ s) : Kept s₀ (State.respond via eid tag cmd st data s) := by
  unfold State.respond
  (repeat' (first | (simp (maxDischargeDepth := 60) [*]; done) | split | dsimp only | (apply kept_foldl _ _ _ _ (by simp (maxDischargeDepth := 60) [*]); intro t x; try simp only)))
@[simp] theorem State.takePort_kept (via : Transport) (seq cmd index sub bytes : Nat) (s : State) {s₀ : State} (h₀ : Kept s₀ s) : Kept s₀ (State.takePort via seq cmd index sub bytes s) := by
  unfold State.takePort
  (repeat' (first | (simp (maxDischargeDepth := 60) [*]; done) | split | dsimp only | (apply kept_foldl _ _ _ _ (by simp (maxDischargeDepth := 60) [*]); intro t x; try simp only)))
@[simp] theorem State.ranked_kept (s : State) (o : Obj) (index sub v inst : Nat) (t : State) {s₀ : State} (h₀ : Kept s₀ s) (h₁ : Kept s₀ t) : Kept s₀ (State.ranked s o index sub v inst t) := by
  unfold State.ranked
  dsimp only
  split
  · simp [h₀]
  · simp [h₁]
@[simp] theorem State.serveObj_kept (cmd : Nat) (r : SheetRequest) (data : List Byte) (s : State) {s₀ : State} (h₀ : Kept s₀ s) : Kept s₀ (State.serveObj cmd r data s) := by
  unfold State.serveObj
  dsimp only
  (repeat' split) <;> first | exact State.respond_kept _ _ _ _ _ _ _ h₀ | exact kept_modMgp _ h₀ | exact State.respond_kept _ _ _ _ _ _ _ (State.ranked_kept _ _ _ _ _ _ _ h₀ (h₀.trans (State.writeObj_kept _ _ _ _ _ _ _ ‹_›))) | exact State.respond_kept _ _ _ _ _ _ _ (h₀.trans (State.writeObj_kept _ _ _ _ _ _ _ ‹_›))
@[simp] theorem State.serveReq_kept (cmd : Nat) (r : SheetRequest) (data : List Byte) (s : State) {s₀ : State} (h₀ : Kept s₀ s) : Kept s₀ (State.serveReq cmd r data s) := by
  unfold State.serveReq
  (repeat' (first | (simp (maxDischargeDepth := 60) [*]; done) | split | dsimp only | (apply kept_foldl _ _ _ _ (by simp (maxDischargeDepth := 60) [*]); intro t x; try simp only)))
@[simp] theorem State.request_kept (cmd : Nat) (r : SheetRequest) (data : List Byte) (s : State) {s₀ : State} (h₀ : Kept s₀ s) : Kept s₀ (State.request cmd r data s) := by
  unfold State.request
  (repeat' (first | (simp (maxDischargeDepth := 60) [*]; done) | split | dsimp only | (apply kept_foldl _ _ _ _ (by simp (maxDischargeDepth := 60) [*]); intro t x; try simp only)))
@[simp] theorem State.serveHeld_kept (w : GapRequest) (s : State) {s₀ : State} (h₀ : Kept s₀ s) : Kept s₀ (State.serveHeld w s) := by
  unfold State.serveHeld
  (repeat' (first | (simp (maxDischargeDepth := 60) [*]; done) | split | dsimp only | (apply kept_foldl _ _ _ _ (by simp (maxDischargeDepth := 60) [*]); intro t x; try simp only)))
@[simp] theorem State.serveWaiting_kept (s : State) {s₀ : State} (h₀ : Kept s₀ s) : Kept s₀ (State.serveWaiting s) := by
  unfold State.serveWaiting
  (repeat' (first | (simp (maxDischargeDepth := 60) [*]; done) | split | dsimp only | (apply kept_foldl _ _ _ _ (by simp (maxDischargeDepth := 60) [*]); intro t x; try simp only)))
@[simp] theorem State.cutOp_kept (suspend : Bool) (s : State) (e : Nat × Nat × DieOp) {s₀ : State} (h₀ : Kept s₀ s) : Kept s₀ (State.cutOp suspend s e) := by
  unfold State.cutOp
  (repeat' (first | (simp (maxDischargeDepth := 60) [*]; done) | split | dsimp only | (apply kept_foldl _ _ _ _ (by simp (maxDischargeDepth := 60) [*]); intro t x; try simp only)))
@[simp] theorem State.enterDump_kept (thermal : Bool) (s : State) {s₀ : State} (h₀ : Kept s₀ s) : Kept s₀ (State.enterDump thermal s) := by
  unfold State.enterDump
  (repeat' (first | (simp (maxDischargeDepth := 60) [*]; done) | split | dsimp only | (apply kept_foldl _ _ _ _ (by simp (maxDischargeDepth := 60) [*]); intro t x; try simp only)))
@[simp] theorem State.dumpBegin_kept (thermal : Bool) (s : State) {s₀ : State} (h₀ : Kept s₀ s) : Kept s₀ (State.dumpBegin thermal s) := by
  unfold State.dumpBegin
  (repeat' (first | (simp (maxDischargeDepth := 60) [*]; done) | split | dsimp only | (apply kept_foldl _ _ _ _ (by simp (maxDischargeDepth := 60) [*]); intro t x; try simp only)))
@[simp] theorem State.dumpWaitOver_kept (r : DumpRun) (s : State) {s₀ : State} (h₀ : Kept s₀ s) : Kept s₀ (State.dumpWaitOver r s) := by
  unfold State.dumpWaitOver
  (repeat' (first | (simp (maxDischargeDepth := 60) [*]; done) | split | dsimp only | (apply kept_foldl _ _ _ _ (by simp (maxDischargeDepth := 60) [*]); intro t x; try simp only)))
@[simp] theorem State.journalFreeze_kept (r : DumpRun) (s : State) {s₀ : State} (h₀ : Kept s₀ s) : Kept s₀ (State.journalFreeze r s) := by
  unfold State.journalFreeze
  (repeat' (first | (simp (maxDischargeDepth := 60) [*]; done) | split | dsimp only | (apply kept_foldl _ _ _ _ (by simp (maxDischargeDepth := 60) [*]); intro t x; try simp only)))
@[simp] theorem State.dumpEnd_kept (s : State) {s₀ : State} (h₀ : Kept s₀ s) : Kept s₀ (State.dumpEnd s) := by
  unfold State.dumpEnd
  dsimp only
  have h₁ : Kept s₀ ((s.mediaEnd.modHum fun h => { h with dump := none }).resetHum.resetUnitRegs UnitNo.hum) :=
    State.resetUnitRegs_kept _ _ (State.resetHum_kept _ (kept_modHum _ (State.mediaEnd_kept _ h₀)))
  refine kept_modPower _ ?_
  split
  · exact h₁
  · exact kept_modDmc _ (fun _ => rfl) (kept_modMxe _ le_rfl le_rfl le_rfl h₁)
@[simp] theorem State.dumpGood_kept (r : DumpRun) (s : State) {s₀ : State} (h₀ : Kept s₀ s) : Kept s₀ (State.dumpGood r s) := by
  unfold State.dumpGood
  (repeat' (first | (simp (maxDischargeDepth := 60) [*]; done) | split | dsimp only | (apply kept_foldl _ _ _ _ (by simp (maxDischargeDepth := 60) [*]); intro t x; try simp only)))
@[simp] theorem State.dumpLost_kept (r : DumpRun) (s : State) {s₀ : State} (h₀ : Kept s₀ s) : Kept s₀ (State.dumpLost r s) := by
  unfold State.dumpLost
  (repeat' (first | (simp (maxDischargeDepth := 60) [*]; done) | split | dsimp only | (apply kept_foldl _ _ _ _ (by simp (maxDischargeDepth := 60) [*]); intro t x; try simp only)))
@[simp] theorem State.dumpTick_kept (s : State) {s₀ : State} (h₀ : Kept s₀ s) : Kept s₀ (State.dumpTick s) := by
  unfold State.dumpTick
  (repeat' (first | (simp (maxDischargeDepth := 60) [*]; done) | split | dsimp only | (apply kept_foldl _ _ _ _ (by simp (maxDischargeDepth := 60) [*]); intro t x; try simp only)))
@[simp] theorem State.countValid_kept (s : State) {s₀ : State} (h₀ : Kept s₀ s) : Kept s₀ (State.countValid s) := by
  unfold State.countValid
  (repeat' (first | (simp (maxDischargeDepth := 60) [*]; done) | split | dsimp only | (apply kept_foldl _ _ _ _ (by simp (maxDischargeDepth := 60) [*]); intro t x; try simp only)))
@[simp] theorem State.fullScan_kept (trims : Bool) (s : State) {s₀ : State} (h₀ : Kept s₀ s) : Kept s₀ (State.fullScan trims s) := by
  unfold State.fullScan
  (repeat' (first | (simp (maxDischargeDepth := 60) [*]; done) | split | dsimp only | (apply kept_foldl _ _ _ _ (by simp (maxDischargeDepth := 60) [*]); intro t x; try simp only)))
@[simp] theorem State.boundedScan_kept (s : State) {s₀ : State} (h₀ : Kept s₀ s) : Kept s₀ (State.boundedScan s) := by
  unfold State.boundedScan
  (repeat' (first | (simp (maxDischargeDepth := 60) [*]; done) | split | dsimp only | (apply kept_foldl _ _ _ _ (by simp (maxDischargeDepth := 60) [*]); intro t x; try simp only)))
@[simp] theorem State.raiseNumbers_kept (s : State) {s₀ : State} (h₀ : Kept s₀ s) : Kept s₀ (State.raiseNumbers s) := by
  unfold State.raiseNumbers
  have h1 : ∀ (l : List JournalRecord) (n : Nat), n ≤ l.foldl (fun n r => max n (r.dsn + 1)) n := by
    intro l; induction l with
    | nil => intro n; exact le_rfl
    | cons a l ih => intro n; exact le_trans (le_max_left _ _) (ih _)
  have h2 : ∀ (l : List SlotCell) (n : Nat), n ≤ l.foldl (fun n c => max n (c.hdr.dsn + 1)) n := by
    intro l; induction l with
    | nil => intro n; exact le_rfl
    | cons a l ih => intro n; exact le_trans (le_max_left _ _) (ih _)
  have h3 : ∀ (l : List (Nat × Page)) (n : Nat), n ≤ l.foldl (fun n p => p.2.slots.foldl (fun n c => max n (c.hdr.dsn + 1)) n) n := by
    intro l; induction l with
    | nil => intro n; exact le_rfl
    | cons a l ih => intro n; exact le_trans (h2 _ _) (ih _)
  have h4 : ∀ (l : List (Nat × Page)) (n : Nat), n ≤ l.foldl (fun n p => max n (p.2.psn + 1)) n := by
    intro l; induction l with
    | nil => intro n; exact le_rfl
    | cons a l ih => intro n; exact le_trans (le_max_left _ _) (ih _)
  exact kept_modMxe _ (le_trans (h1 _ _) (h3 _ _)) (h4 _ _) le_rfl h₀
@[simp] theorem State.loadStripes_kept (dump : Option (List Stripe)) (s : State) {s₀ : State} (h₀ : Kept s₀ s) : Kept s₀ (State.loadStripes dump s) := by
  unfold State.loadStripes
  (repeat' (first | (simp (maxDischargeDepth := 60) [*]; done) | split | dsimp only | (apply kept_foldl _ _ _ _ (by simp (maxDischargeDepth := 60) [*]); intro t x; try simp only)))
@[simp] theorem State.reenter_kept (keys : List (Nat × Nat)) (s : State) (e : InFlight × List Nat) {s₀ : State} (h₀ : Kept s₀ s) : Kept s₀ (State.reenter keys s e) := by
  unfold State.reenter
  (repeat' (first | (simp (maxDischargeDepth := 60) [*]; done) | split | dsimp only | (apply kept_foldl _ _ _ _ (by simp (maxDischargeDepth := 60) [*]); intro t x; try simp only)))
@[simp] theorem State.replayDump_kept (x : DumpImage) (s : State) {s₀ : State} (h₀ : Kept s₀ s) : Kept s₀ (State.replayDump x s) := by
  unfold State.replayDump
  (repeat' (first | (simp (maxDischargeDepth := 60) [*]; done) | split | dsimp only | (apply kept_foldl _ _ _ _ (by simp (maxDischargeDepth := 60) [*]); intro t x; try simp only)))
@[simp] theorem State.dumpDone_kept (s : State) {s₀ : State} (h₀ : Kept s₀ s) : Kept s₀ (State.dumpDone s) := by
  unfold State.dumpDone
  (repeat' (first | (simp (maxDischargeDepth := 60) [*]; done) | split | dsimp only | (apply kept_foldl _ _ _ _ (by simp (maxDischargeDepth := 60) [*]); intro t x; try simp only)))
@[simp] theorem State.restored_kept (k : StartKind) (s : State) {s₀ : State} (h₀ : Kept s₀ s) : Kept s₀ (State.restored k s) := by
  unfold State.restored
  (repeat' (first | (simp (maxDischargeDepth := 60) [*]; done) | exact id | exact le_rfl | (with_reducible apply kept_modMxe) | (with_reducible apply kept_modPower) | split | dsimp only | (apply kept_foldl _ _ _ _ (by simp (maxDischargeDepth := 60) [*]); intro t x; try simp only)))
@[simp] theorem State.dumpIncomplete_kept (x : DumpImage) (s : State) {s₀ : State} (h₀ : Kept s₀ s) : Kept s₀ (State.dumpIncomplete x s) := by
  unfold State.dumpIncomplete
  (repeat' (first | (simp (maxDischargeDepth := 60) [*]; done) | split | dsimp only | (apply kept_foldl _ _ _ _ (by simp (maxDischargeDepth := 60) [*]); intro t x; try simp only)))
@[simp] theorem State.scanFull_kept (trimLost : Bool) (s : State) {s₀ : State} (h₀ : Kept s₀ s) : Kept s₀ (State.scanFull trimLost s) := by
  unfold State.scanFull
  (repeat' (first | (simp (maxDischargeDepth := 60) [*]; done) | split | dsimp only | (apply kept_foldl _ _ _ _ (by simp (maxDischargeDepth := 60) [*]); intro t x; try simp only)))
@[simp] theorem State.scanBegin_kept (full trimLost : Bool) (s : State) {s₀ : State} (h₀ : Kept s₀ s) : Kept s₀ (State.scanBegin full trimLost s) := by
  unfold State.scanBegin
  (repeat' (first | (simp (maxDischargeDepth := 60) [*]; done) | split | dsimp only | (apply kept_foldl _ _ _ _ (by simp (maxDischargeDepth := 60) [*]); intro t x; try simp only)))
@[simp] theorem State.scanEnd_kept (s : State) {s₀ : State} (h₀ : Kept s₀ s) : Kept s₀ (State.scanEnd s) := by
  unfold State.scanEnd
  (repeat' (first | (simp (maxDischargeDepth := 60) [*]; done) | split | dsimp only | (apply kept_foldl _ _ _ _ (by simp (maxDischargeDepth := 60) [*]); intro t x; try simp only)))
@[simp] theorem State.scanTick_kept (s : State) {s₀ : State} (h₀ : Kept s₀ s) : Kept s₀ (State.scanTick s) := by
  unfold State.scanTick
  (repeat' (first | (simp (maxDischargeDepth := 60) [*]; done) | split | dsimp only | (apply kept_foldl _ _ _ _ (by simp (maxDischargeDepth := 60) [*]); intro t x; try simp only)))
@[simp] theorem State.chooseDumpDies_kept (s : State) {s₀ : State} (h₀ : Kept s₀ s) : Kept s₀ (State.chooseDumpDies s) := by
  unfold State.chooseDumpDies
  (repeat' (first | (simp (maxDischargeDepth := 60) [*]; done) | split | dsimp only | (apply kept_foldl _ _ _ _ (by simp (maxDischargeDepth := 60) [*]); intro t x; try simp only)))
@[simp] theorem State.decideStart_kept (found : StartFindings) (s : State) {s₀ : State} (h₀ : Kept s₀ s) : Kept s₀ (State.decideStart found s) := by
  unfold State.decideStart
  (repeat' (first | (simp (maxDischargeDepth := 60) [*]; done) | split | dsimp only | (apply kept_foldl _ _ _ _ (by simp (maxDischargeDepth := 60) [*]); intro t x; try simp only)))
@[simp] theorem State.startDecision_kept (found : StartFindings) (s : State) {s₀ : State} (h₀ : Kept s₀ s) : Kept s₀ (State.startDecision found s) := by
  unfold State.startDecision
  (repeat' (first | (simp (maxDischargeDepth := 60) [*]; done) | split | dsimp only | (apply kept_foldl _ _ _ _ (by simp (maxDischargeDepth := 60) [*]); intro t x; try simp only)))
@[simp] theorem State.sealAtHall_kept (s : State) (x : Stripe) {s₀ : State} (h₀ : Kept s₀ s) : Kept s₀ (State.sealAtHall s x) := by
  unfold State.sealAtHall
  (repeat' (first | (simp (maxDischargeDepth := 60) [*]; done) | split | dsimp only | (apply kept_foldl _ _ _ _ (by simp (maxDischargeDepth := 60) [*]); intro t x; try simp only)))
@[simp] theorem State.sealOpenBands_kept (s : State) {s₀ : State} (h₀ : Kept s₀ s) : Kept s₀ (State.sealOpenBands s) := by
  unfold State.sealOpenBands
  (repeat' (first | (simp (maxDischargeDepth := 60) [*]; done) | split | dsimp only | (apply kept_foldl _ _ _ _ (by simp (maxDischargeDepth := 60) [*]); intro t x; try simp only)))
@[simp] theorem State.enterHall_kept (s : State) {s₀ : State} (h₀ : Kept s₀ s) : Kept s₀ (State.enterHall s) := by
  unfold State.enterHall
  (repeat' (first | (simp (maxDischargeDepth := 60) [*]; done) | split | dsimp only | (apply kept_foldl _ _ _ _ (by simp (maxDischargeDepth := 60) [*]); intro t x; try simp only)))
@[simp] theorem State.loseRetained_kept (s : State) {s₀ : State} (h₀ : Kept s₀ s) : Kept s₀ (State.loseRetained s) := by
  exact h₀.trans (Kept.ofEq rfl)
@[simp] theorem State.auxRise_kept (s : State) {s₀ : State} (h₀ : Kept s₀ s) : Kept s₀ (State.auxRise s) := by
  unfold State.auxRise
  (repeat' (first | (simp (maxDischargeDepth := 60) [*]; done) | split | dsimp only | (apply kept_foldl _ _ _ _ (by simp (maxDischargeDepth := 60) [*]); intro t x; try simp only)))
@[simp] theorem State.powerOff_kept (s : State) {s₀ : State} (h₀ : Kept s₀ s) : Kept s₀ (State.powerOff s) := by
  unfold State.powerOff
  dsimp only
  refine kept_modPower _ (kept_modDmc _ (fun _ => rfl) (kept_modMxe _ le_rfl le_rfl le_rfl (State.resetUnitRegs_kept _ _ (State.resetHum_kept _
    (State.mediaEnd_kept _ (State.unitsReset_kept _ _ _ (kept_foldl _ _ _ _ h₀ fun t x => by simp (maxDischargeDepth := 60))))))))
@[simp] theorem State.supplyLost_kept (s : State) {s₀ : State} (h₀ : Kept s₀ s) : Kept s₀ (State.supplyLost s) := by
  unfold State.supplyLost
  (repeat' (first | (simp (maxDischargeDepth := 60) [*]; done) | split | dsimp only | (apply kept_foldl _ _ _ _ (by simp (maxDischargeDepth := 60) [*]); intro t x; try simp only)))
@[simp] theorem State.cfgWrite_kept (fn : Nat) (w : CfgWrite) (s : State) {s₀ : State} (h₀ : Kept s₀ s) : Kept s₀ (State.cfgWrite fn w s) := by
  unfold State.cfgWrite
  (repeat' (first | (simp (maxDischargeDepth := 60) [*]; done) | split | dsimp only | (apply kept_foldl _ _ _ _ (by simp (maxDischargeDepth := 60) [*]); intro t x; try simp only)))
@[simp] theorem State.healthAtStair_kept (s : State) {s₀ : State} (h₀ : Kept s₀ s) : Kept s₀ (State.healthAtStair s) := by
  unfold State.healthAtStair
  (repeat' (first | (simp (maxDischargeDepth := 60) [*]; done) | split | dsimp only | (apply kept_foldl _ _ _ _ (by simp (maxDischargeDepth := 60) [*]); intro t x; try simp only)))
@[simp] theorem State.bootCluster_kept (aPasses : Bool) (s : State) {s₀ : State} (h₀ : Kept s₀ s) : Kept s₀ (State.bootCluster aPasses s) := by
  unfold State.bootCluster
  (repeat' (first | (simp (maxDischargeDepth := 60) [*]; done) | split | dsimp only | (apply kept_foldl _ _ _ _ (by simp (maxDischargeDepth := 60) [*]); intro t x; try simp only)))
@[simp] theorem State.avsSend_kept (mv : Nat) (s : State) {s₀ : State} (h₀ : Kept s₀ s) : Kept s₀ (State.avsSend mv s) := by
  unfold State.avsSend
  (repeat' (first | (simp (maxDischargeDepth := 60) [*]; done) | split | dsimp only | (apply kept_foldl _ _ _ _ (by simp (maxDischargeDepth := 60) [*]); intro t x; try simp only)))
@[simp] theorem State.readEffects_kept (v : View) (addr : Nat) (s : State) {s₀ : State} (h₀ : Kept s₀ s) : Kept s₀ (State.readEffects v addr s) := by
  unfold State.readEffects
  (repeat' (first | (simp (maxDischargeDepth := 60) [*]; done) | (with_reducible apply kept_modCdx) | (with_reducible apply kept_modCru) | (with_reducible apply kept_modMxe) | (with_reducible apply kept_modRegf) | (with_reducible apply kept_modTbu) | split | dsimp only | (apply kept_foldl _ _ _ _ (by simp (maxDischargeDepth := 60) [*]); intro t x; try simp only)))
@[simp] theorem State.nvmeWrite_kept (fn off : Nat) (w : Word) (s : State) {s₀ : State} (h₀ : Kept s₀ s) : Kept s₀ (State.nvmeWrite fn off w s) := by
  unfold State.nvmeWrite
  (repeat' (first | (simp (maxDischargeDepth := 60) [*]; done) | split | dsimp only | (apply kept_foldl _ _ _ _ (by simp (maxDischargeDepth := 60) [*]); intro t x; try simp only)))
@[simp] theorem State.readAt_kept (who : Accessor) (addr : Nat) (s : State) {s₀ : State} (h₀ : Kept s₀ s) : Kept s₀ (State.readAt who addr s) := by
  unfold State.readAt
  (repeat' (first | (simp (maxDischargeDepth := 60) [*]; done) | split | dsimp only | (apply kept_foldl _ _ _ _ (by simp (maxDischargeDepth := 60) [*]); intro t x; try simp only)))
@[simp] theorem State.readWords_kept (who : Accessor) (addr size : Nat) (s : State) {s₀ : State} (h₀ : Kept s₀ s) : Kept s₀ (State.readWords who addr size s) := by
  unfold State.readWords
  (repeat' (first | (simp (maxDischargeDepth := 60) [*]; done) | split | dsimp only | (apply kept_foldl _ _ _ _ (by simp (maxDischargeDepth := 60) [*]); intro t x; try simp only)))
@[simp] theorem State.rescueWrite_kept (w : Word) (s : State) {s₀ : State} (h₀ : Kept s₀ s) : Kept s₀ (State.rescueWrite w s) := by
  unfold State.rescueWrite
  (repeat' (first | (simp (maxDischargeDepth := 60) [*]; done) | split | dsimp only | (apply kept_foldl _ _ _ _ (by simp (maxDischargeDepth := 60) [*]); intro t x; try simp only)))
@[simp] theorem State.portGo_kept (p : Nat) (cluster : Cluster) (epoch : BitVec 8) (s : State) {s₀ : State} (h₀ : Kept s₀ s) : Kept s₀ (State.portGo p cluster epoch s) := by
  unfold State.portGo
  (repeat' (first | (simp (maxDischargeDepth := 60) [*]; done) | split | dsimp only | (apply kept_foldl _ _ _ _ (by simp (maxDischargeDepth := 60) [*]); intro t x; try simp only)))
@[simp] theorem State.keyWord_kept (k : Nat) (w : Word) (s : State) {s₀ : State} (h₀ : Kept s₀ s) : Kept s₀ (State.keyWord k w s) := by
  unfold State.keyWord
  (repeat' (first | (simp (maxDischargeDepth := 60) [*]; done) | split | dsimp only | (apply kept_foldl _ _ _ _ (by simp (maxDischargeDepth := 60) [*]); intro t x; try simp only)))
@[simp] theorem State.csuWrite_kept (c : Cluster) (pair : Nat) (epoch : BitVec 8) (w : Word) (s : State) {s₀ : State} (h₀ : Kept s₀ s) : Kept s₀ (State.csuWrite c pair epoch w s) := by
  unfold State.csuWrite
  (repeat' (first | (simp (maxDischargeDepth := 60) [*]; done) | split | dsimp only | (apply kept_foldl _ _ _ _ (by simp (maxDischargeDepth := 60) [*]); intro t x; try simp only)))
@[simp] theorem State.trainGo_kept (ch : Nat) (s : State) {s₀ : State} (h₀ : Kept s₀ s) : Kept s₀ (State.trainGo ch s) := by
  unfold State.trainGo
  (repeat' (first | (simp (maxDischargeDepth := 60) [*]; done) | split | dsimp only | (apply kept_foldl _ _ _ _ (by simp (maxDischargeDepth := 60) [*]); intro t x; try simp only)))
@[simp] theorem State.regAct_kept (v : View) (epoch : BitVec 8) (addr : Nat) (w : Word) (s : State) {s₀ : State} (h₀ : Kept s₀ s) : Kept s₀ (State.regAct v epoch addr w s) := by
  unfold State.regAct
  dsimp only
  with_reducible repeat' (first | apply kept_ite | exact h₀ | apply State.csuWrite_kept | apply State.dramTrain_kept | apply State.fwTrig_kept | apply State.heartbeat_kept | apply State.keyStart_kept | apply State.keyWord_kept | apply State.planCut_kept | apply State.portGo_kept | apply State.rebuildGo_kept | apply State.reenable_kept | apply State.requestDrain_kept | apply State.requestSquash_kept | apply State.rescueWrite_kept | apply State.retireGo_kept | apply State.setFreeze_kept | apply State.stageWindow_kept | apply State.takeOffline_kept | apply State.testGo_kept | apply State.trainGo_kept | apply State.winCommit_kept | apply State.writeWp_kept | split | simp)
@[simp] theorem State.regStore_kept (v : View) (addr : Nat) (w : Word) (rw1cOnly : Bool) (s : State) {s₀ : State} (h₀ : Kept s₀ s) : Kept s₀ (State.regStore v addr w rw1cOnly s) := by
  unfold State.regStore
  (repeat' (first | (simp (maxDischargeDepth := 60) [*]; done) | split | dsimp only | (apply kept_foldl _ _ _ _ (by simp (maxDischargeDepth := 60) [*]); intro t x; try simp only)))
@[simp] theorem State.writeReg_kept (v : View) (host : Bool) (epoch : BitVec 8) (addr : Nat) (w : Word) (be : BitVec 4) (s : State) {s₀ : State} (h₀ : Kept s₀ s) : Kept s₀ (State.writeReg v host epoch addr w be s) := by
  unfold State.writeReg
  (repeat' (first | (simp (maxDischargeDepth := 60) [*]; done) | split | dsimp only | (apply kept_foldl _ _ _ _ (by simp (maxDischargeDepth := 60) [*]); intro t x; try simp only)))
@[simp] theorem State.hostWord_kept (who : Accessor) (fn bar addr : Nat) (w : Word) (be : BitVec 4) (s : State) {s₀ : State} (h₀ : Kept s₀ s) : Kept s₀ (State.hostWord who fn bar addr w be s) := by
  unfold State.hostWord
  (repeat' (first | (simp (maxDischargeDepth := 60) [*]; done) | split | dsimp only | (apply kept_foldl _ _ _ _ (by simp (maxDischargeDepth := 60) [*]); intro t x; try simp only)))
@[simp] theorem State.firmwareWord_kept (who : Accessor) (epoch : BitVec 8) (addr : Nat) (w : Word) (s : State) {s₀ : State} (h₀ : Kept s₀ s) : Kept s₀ (State.firmwareWord who epoch addr w s) := by
  unfold State.firmwareWord
  (repeat' (first | (simp (maxDischargeDepth := 60) [*]; done) | split | dsimp only | (apply kept_foldl _ _ _ _ (by simp (maxDischargeDepth := 60) [*]); intro t x; try simp only)))
@[simp] theorem State.splitWord_kept (e : Accessor × Nat × Word) (s : State) {s₀ : State} (h₀ : Kept s₀ s) : Kept s₀ (State.splitWord e s) := by
  unfold State.splitWord
  (repeat' (first | (simp (maxDischargeDepth := 60) [*]; done) | split | dsimp only | (apply kept_foldl _ _ _ _ (by simp (maxDischargeDepth := 60) [*]); intro t x; try simp only)))
@[simp] theorem State.firmwareStore_kept (k : Cluster) (pair : Nat) (epoch : BitVec 8) (p : Place) (bs : List Byte) (s : State) {s₀ : State} (h₀ : Kept s₀ s) : Kept s₀ (State.firmwareStore k pair epoch p bs s) := by
  unfold State.firmwareStore
  (repeat' (first | (simp (maxDischargeDepth := 60) [*]; done) | split | dsimp only | (apply kept_foldl _ _ _ _ (by simp (maxDischargeDepth := 60) [*]); intro t x; try simp only)))
@[simp] theorem State.firmwareWrite_kept (k : Cluster) (pair : Nat) (epoch : BitVec 8) (addr size : Nat) (data : Dword) (s : State) {s₀ : State} (h₀ : Kept s₀ s) : Kept s₀ (State.firmwareWrite k pair epoch addr size data s) := by
  unfold State.firmwareWrite
  (repeat' (first | (simp (maxDischargeDepth := 60) [*]; done) | split | dsimp only | (apply kept_foldl _ _ _ _ (by simp (maxDischargeDepth := 60) [*]); intro t x; try simp only)))
@[simp] theorem State.hostWrite_kept (fn bar addr size : Nat) (data : Dword) (be : BitVec 8) (s : State) {s₀ : State} (h₀ : Kept s₀ s) : Kept s₀ (State.hostWrite fn bar addr size data be s) := by
  unfold State.hostWrite
  (repeat' (first | (simp (maxDischargeDepth := 60) [*]; done) | split | dsimp only | (apply kept_foldl _ _ _ _ (by simp (maxDischargeDepth := 60) [*]); intro t x; try simp only)))
@[simp] theorem State.waitCount_kept (f : Field) (on : Bool) (s : State) {s₀ : State} (h₀ : Kept s₀ s) : Kept s₀ (State.waitCount f on s) := by
  unfold State.waitCount
  (repeat' (first | (simp (maxDischargeDepth := 60) [*]; done) | split | dsimp only | (apply kept_foldl _ _ _ _ (by simp (maxDischargeDepth := 60) [*]); intro t x; try simp only)))
@[simp] theorem State.tickCounts_kept (s : State) {s₀ : State} (h₀ : Kept s₀ s) : Kept s₀ (State.tickCounts s) := by
  unfold State.tickCounts
  (repeat' (first | (simp (maxDischargeDepth := 60) [*]; done) | split | dsimp only | (apply kept_foldl _ _ _ _ (by simp (maxDischargeDepth := 60) [*]); intro t x; try simp only)))
@[simp] theorem State.collisions_kept (s : State) {s₀ : State} (h₀ : Kept s₀ s) : Kept s₀ (State.collisions s) := by
  unfold State.collisions
  (repeat' (first | (simp (maxDischargeDepth := 60) [*]; done) | split | dsimp only | (apply kept_foldl _ _ _ _ (by simp (maxDischargeDepth := 60) [*]); intro t x; try simp only)))
@[simp] theorem State.withdrawFreed_kept (s : State) {s₀ : State} (h₀ : Kept s₀ s) : Kept s₀ (State.withdrawFreed s) := by
  unfold State.withdrawFreed
  (repeat' (first | (simp (maxDischargeDepth := 60) [*]; done) | split | dsimp only | (apply kept_foldl _ _ _ _ (by simp (maxDischargeDepth := 60) [*]); intro t x; try simp only)))
@[simp] theorem State.forgetTick_kept (s : State) {s₀ : State} (h₀ : Kept s₀ s) : Kept s₀ (State.forgetTick s) := by
  unfold State.forgetTick
  exact h₀.trans ⟨rfl, rfl, id, le_rfl, le_rfl, le_rfl, le_rfl, le_rfl⟩
@[simp] theorem State.lzApply_kept (s : State) {s₀ : State} (h₀ : Kept s₀ s) : Kept s₀ (State.lzApply s) := by
  unfold State.lzApply
  (repeat' (first | (simp (maxDischargeDepth := 60) [*]; done) | split | dsimp only | (apply kept_foldl _ _ _ _ (by simp (maxDischargeDepth := 60) [*]); intro t x; try simp only)))
@[simp] theorem State.testResume_kept (s : State) {s₀ : State} (h₀ : Kept s₀ s) : Kept s₀ (State.testResume s) := by
  unfold State.testResume
  (repeat' (first | (simp (maxDischargeDepth := 60) [*]; done) | split | dsimp only | (apply kept_foldl _ _ _ _ (by simp (maxDischargeDepth := 60) [*]); intro t x; try simp only)))
@[simp] theorem State.avsTake_kept (s : State) {s₀ : State} (h₀ : Kept s₀ s) : Kept s₀ (State.avsTake s) := by
  unfold State.avsTake
  (repeat' (first | (simp (maxDischargeDepth := 60) [*]; done) | split | dsimp only | (apply kept_foldl _ _ _ _ (by simp (maxDischargeDepth := 60) [*]); intro t x; try simp only)))
@[simp] theorem State.copiesRestore_kept (s : State) {s₀ : State} (h₀ : Kept s₀ s) : Kept s₀ (State.copiesRestore s) := by
  unfold State.copiesRestore
  (repeat' (first | (simp (maxDischargeDepth := 60) [*]; done) | split | dsimp only | (apply kept_foldl _ _ _ _ (by simp (maxDischargeDepth := 60) [*]); intro t x; try simp only)))
@[simp] theorem State.mediaTick_kept (s : State) {s₀ : State} (h₀ : Kept s₀ s) : Kept s₀ (State.mediaTick s) := by
  unfold State.mediaTick
  (repeat' (first | (simp (maxDischargeDepth := 60) [*]; done) | split | dsimp only | (apply kept_foldl _ _ _ _ (by simp (maxDischargeDepth := 60) [*]); intro t x; try simp only)))
@[simp] theorem State.hostTick_kept (s : State) {s₀ : State} (h₀ : Kept s₀ s) : Kept s₀ (State.hostTick s) := by
  unfold State.hostTick
  (repeat' (first | (simp (maxDischargeDepth := 60) [*]; done) | split | dsimp only | (apply kept_foldl _ _ _ _ (by simp (maxDischargeDepth := 60) [*]); intro t x; try simp only)))
@[simp] theorem State.controlTick_kept (s : State) {s₀ : State} (h₀ : Kept s₀ s) : Kept s₀ (State.controlTick s) := by
  unfold State.controlTick
  (repeat' (first | (simp (maxDischargeDepth := 60) [*]; done) | split | dsimp only | (apply kept_foldl _ _ _ _ (by simp (maxDischargeDepth := 60) [*]); intro t x; try simp only)))
@[simp] theorem State.tickWork_kept (splitRd : List (Accessor × Nat)) (split : List (Accessor × Nat × Word)) (holdup : Bool) (s : State) {s₀ : State} (h₀ : Kept s₀ s) : Kept s₀ (State.tickWork splitRd split holdup s) := by
  unfold State.tickWork
  (repeat' (first | (simp (maxDischargeDepth := 60) [*]; done) | split | dsimp only | (apply kept_foldl _ _ _ _ (by simp (maxDischargeDepth := 60) [*]); intro t x; try simp only)))

end Sys2Proof.Machine
end

