-- ==== Sys2Proof/Laws/PerInstr.lean ====
section
/-! SUPPORT. What well-formedness says of a command's own operands, command by command: a context, a function, a slice or a die that a well-formed command names exists. -/

namespace Sys2Proof.Laws.WellFormedOperands

/-- The context that a command names. -/
def contextOf : Instr → Option Nat
  | .sequencePoint c => some c
  | .postingDecision c => some c
  | .read c => some c
  | .write c _ => some c
  | .writeZeroes c => some c
  | .datasetManagement c _ => some c
  | .flush c => some c
  | .invalidCommandOpcode c => some c
  | .abort c => some c
  | .deleteIoSubmissionQueue c => some c
  | .createIoSubmissionQueue c _ => some c
  | .deleteIoCompletionQueue c => some c
  | .createIoCompletionQueue c => some c
  | .identify c => some c
  | .getLogPage c => some c
  | .getFeatures c => some c
  | .setFeaturesArbitration c => some c
  | .setFeaturesPowerManagement c => some c
  | .setFeaturesVolatileWriteCache c => some c
  | .setFeaturesInterruptCoalescing c => some c
  | .setFeaturesHctm c => some c
  | .asynchronousEventRequest c => some c
  | .namespaceManagement c _ => some c
  | .namespaceAttachment c _ => some c
  | .firmwareImageDownload c _ => some c
  | .firmwareCommitReplace run => some run.ctx
  | .firmwareCommitNextReset run => some run.ctx
  | .firmwareCommitActivate run => some run.ctx
  | .virtualizationManagement c => some c
  | .formatNvm c => some c
  | .sanitizeBlockErase c => some c
  | .sanitizeCryptoErase c => some c
  | .setFeaturesCriticalWarnings c => some c
  | _ => none

/-- The PCIe function that a command names. -/
def functionOf : Instr → Option Nat
  | .configurationRequest fn _ _ => some fn
  | .flr fn => some fn
  | .flrComplete fn => some fn
  | .atsInvalidate fn _ _ => some fn
  | .busMasterEnableClear fn => some fn
  | .busMasterEnableSet fn => some fn
  | .doorbellWrite fn _ _ _ _ => some fn
  | .controllerEnable fn _ _ => some fn
  | .controllerReset fn => some fn
  | .shutdownNotification fn _ => some fn
  | _ => none

/-- The slice that a command names. -/
def sliceOf : Instr → Option Nat
  | .sliceCommit sl => some sl
  | .sliceDiscard sl => some sl
  | .sliceQuiesce sl => some sl
  | .sliceQuiesced sl => some sl
  | .sliceUnquiesce sl => some sl
  | .dlogHeadWrite sl _ => some sl
  | .dlogEpochWrite sl _ => some sl
  | .sliceResetDrain sl => some sl
  | .sliceResetSquash sl => some sl
  | .sliceDrainTimeout sl => some sl
  | .sliceReset sl => some sl
  | .sliceResetDone sl => some sl
  | _ => none

/-- The die that a command names. -/
def dieOf : Instr → Option Nat
  | .dieOperationStart d => some d
  | .dieReady d _ => some d
  | .suspendIssue d => some d
  | .resumeSubmit d => some d
  | .dieOffline d => some d
  | .dieReenable d => some d
  | .statusPoll d _ => some d
  | .busyTimeout d => some d
  | .dieTemperaturePoll d _ => some d
  | .verifyRead d _ _ => some d
  | _ => none

/-- A well-formed command names one of the 16,384 contexts (R96), of PF0 and 63 VFs, of the 1,024 slices (R132) and of the 1,024 dies, where it names one. -/
def Statement (i : Instr) : Prop :=
  i.wellFormed = true → (∀ n, contextOf i = some n → n < 16384) ∧ (∀ n, functionOf i = some n → n < 64) ∧ (∀ n, sliceOf i = some n → n < 1024) ∧
    (∀ n, dieOf i = some n → n < 1024)

theorem registerWrite (who : Accessor) (addr : Nat) (size : Nat) (data : Dword) (be : BitVec 8) : Statement (.registerWrite who addr size data be) := fun _ => ⟨nofun, nofun, nofun, nofun⟩
theorem rcFieldRead (who : Accessor) (span : ReadSpan) : Statement (.rcFieldRead who span) := fun _ => ⟨nofun, nofun, nofun, nofun⟩
theorem loRegisterRead (who : Accessor) (span : ReadSpan) : Statement (.loRegisterRead who span) := fun _ => ⟨nofun, nofun, nofun, nofun⟩
theorem auxPowerUp : Statement .auxPowerUp := fun _ => ⟨nofun, nofun, nofun, nofun⟩
theorem auxPowerLoss : Statement .auxPowerLoss := fun _ => ⟨nofun, nofun, nofun, nofun⟩
theorem powerUp : Statement .powerUp := fun _ => ⟨nofun, nofun, nofun, nofun⟩
theorem supplyLoss (cause : SupplyCause) : Statement (.supplyLoss cause) := fun _ => ⟨nofun, nofun, nofun, nofun⟩
theorem dumpWaitExpiry : Statement .dumpWaitExpiry := fun _ => ⟨nofun, nofun, nofun, nofun⟩
theorem journalFreeze : Statement .journalFreeze := fun _ => ⟨nofun, nofun, nofun, nofun⟩
theorem dumpHeaderGood : Statement .dumpHeaderGood := fun _ => ⟨nofun, nofun, nofun, nofun⟩
theorem railAbortLevel (r : Rail) : Statement (.railAbortLevel r) := fun _ => ⟨nofun, nofun, nofun, nofun⟩
theorem supplyRestoreStart : Statement .supplyRestoreStart := fun _ => ⟨nofun, nofun, nofun, nofun⟩
theorem thermalTrip (sensor : Nat) : Statement (.thermalTrip sensor) := fun _ => ⟨nofun, nofun, nofun, nofun⟩
theorem thermalTripRelease : Statement .thermalTripRelease := fun _ => ⟨nofun, nofun, nofun, nofun⟩
theorem perstNAssert : Statement .perstNAssert := fun _ => ⟨nofun, nofun, nofun, nofun⟩
theorem perstNRelease : Statement .perstNRelease := fun _ => ⟨nofun, nofun, nofun, nofun⟩
theorem configurationSpaceReady : Statement .configurationSpaceReady := fun _ => ⟨nofun, nofun, nofun, nofun⟩
theorem configurationRequest (fn : Nat) (offset : Nat) (wr : Option CfgWrite) : Statement (.configurationRequest fn offset wr) := fun h => ⟨nofun, (by rintro _ ⟨⟩; have h : (fnOk fn && decide (offset < 4096) && wr.all CfgWrite.ok) = true := h; simp_all [fnOk]), nofun, nofun⟩
theorem bootRomStart (aPasses : Bool) : Statement (.bootRomStart aPasses) := fun _ => ⟨nofun, nofun, nofun, nofun⟩
theorem adminSubsetOpen : Statement .adminSubsetOpen := fun _ => ⟨nofun, nofun, nofun, nofun⟩
theorem startDecision (found : StartFindings) : Statement (.startDecision found) := fun _ => ⟨nofun, nofun, nofun, nofun⟩
theorem hallEntry : Statement .hallEntry := fun _ => ⟨nofun, nofun, nofun, nofun⟩
theorem linkTraining (rate : Nat) (width : Nat) (flit : Bool) (lanes : BitVec 16) (failOnce : List Nat) (failTwice : List Nat) : Statement (.linkTraining rate width flit lanes failOnce failTwice) := fun _ => ⟨nofun, nofun, nofun, nofun⟩
theorem linkDown : Statement .linkDown := fun _ => ⟨nofun, nofun, nofun, nofun⟩
theorem nvmSubsystemReset : Statement .nvmSubsystemReset := fun _ => ⟨nofun, nofun, nofun, nofun⟩
theorem hotReset : Statement .hotReset := fun _ => ⟨nofun, nofun, nofun, nofun⟩
theorem flr (fn : Nat) : Statement (.flr fn) := fun h => ⟨nofun, (by rintro _ ⟨⟩; have h : (fnOk fn) = true := h; simp_all [fnOk]), nofun, nofun⟩
theorem flrComplete (fn : Nat) : Statement (.flrComplete fn) := fun h => ⟨nofun, (by rintro _ ⟨⟩; have h : (fnOk fn) = true := h; simp_all [fnOk]), nofun, nofun⟩
theorem tagQuarantineExpiry : Statement .tagQuarantineExpiry := fun _ => ⟨nofun, nofun, nofun, nofun⟩
theorem completionReceived (tag : Nat) (kind : CplKind) (data : BitVec 4096) : Statement (.completionReceived tag kind data) := fun _ => ⟨nofun, nofun, nofun, nofun⟩
theorem completionTimeout (tag : Nat) : Statement (.completionTimeout tag) := fun _ => ⟨nofun, nofun, nofun, nofun⟩
theorem timeoutTagRelease : Statement .timeoutTagRelease := fun _ => ⟨nofun, nofun, nofun, nofun⟩
theorem inboundErrorTlp (e : TlpError) : Statement (.inboundErrorTlp e) := fun _ => ⟨nofun, nofun, nofun, nofun⟩
theorem atsInvalidate (fn : Nat) (pasid : Option Nat) (page : Nat) : Statement (.atsInvalidate fn pasid page) := fun h => ⟨nofun, (by rintro _ ⟨⟩; have h : (fnOk fn) = true := h; simp_all [fnOk]), nofun, nofun⟩
theorem translationCompletion (tag : Nat) (page : Nat) (granted : Option Nat) : Statement (.translationCompletion tag page granted) := fun _ => ⟨nofun, nofun, nofun, nofun⟩
theorem l0pNarrow : Statement .l0pNarrow := fun _ => ⟨nofun, nofun, nofun, nofun⟩
theorem l0pWiden : Statement .l0pWiden := fun _ => ⟨nofun, nofun, nofun, nofun⟩
theorem l1Entry (l12 : Bool) : Statement (.l1Entry l12) := fun _ => ⟨nofun, nofun, nofun, nofun⟩
theorem l1Exit : Statement .l1Exit := fun _ => ⟨nofun, nofun, nofun, nofun⟩
theorem ptmDialog (offset : Option Int) : Statement (.ptmDialog offset) := fun _ => ⟨nofun, nofun, nofun, nofun⟩
theorem busMasterEnableClear (fn : Nat) : Statement (.busMasterEnableClear fn) := fun h => ⟨nofun, (by rintro _ ⟨⟩; have h : (fnOk fn) = true := h; simp_all [fnOk]), nofun, nofun⟩
theorem busMasterEnableSet (fn : Nat) : Statement (.busMasterEnableSet fn) := fun h => ⟨nofun, (by rintro _ ⟨⟩; have h : (fnOk fn) = true := h; simp_all [fnOk]), nofun, nofun⟩
theorem doorbellWrite (fn : Nat) (qid : Nat) (isCq : Bool) (value : Nat) (pasid : Option Nat) : Statement (.doorbellWrite fn qid isCq value pasid) := fun h => ⟨nofun, (by rintro _ ⟨⟩; have h : (fnOk fn && decide (qid < 65536) && decide (value < 65536)) = true := h; simp_all [fnOk]), nofun, nofun⟩
theorem sqEntryFetch (sq : Nat) : Statement (.sqEntryFetch sq) := fun _ => ⟨nofun, nofun, nofun, nofun⟩
theorem fetchAgePromotion (sq : Nat) : Statement (.fetchAgePromotion sq) := fun _ => ⟨nofun, nofun, nofun, nofun⟩
theorem sequencePoint (c : Nat) : Statement (.sequencePoint c) := fun h => ⟨(by rintro _ ⟨⟩; have h : (ctxOk c) = true := h; simp_all [ctxOk]), nofun, nofun, nofun⟩
theorem postingDecision (c : Nat) : Statement (.postingDecision c) := fun h => ⟨(by rintro _ ⟨⟩; have h : (ctxOk c) = true := h; simp_all [ctxOk]), nofun, nofun, nofun⟩
theorem read (c : Nat) : Statement (.read c) := fun h => ⟨(by rintro _ ⟨⟩; have h : (ctxOk c) = true := h; simp_all [ctxOk]), nofun, nofun, nofun⟩
theorem write (c : Nat) (pi : PiCheck) : Statement (.write c pi) := fun h => ⟨(by rintro _ ⟨⟩; have h : (ctxOk c) = true := h; simp_all [ctxOk]), nofun, nofun, nofun⟩
theorem writeZeroes (c : Nat) : Statement (.writeZeroes c) := fun h => ⟨(by rintro _ ⟨⟩; have h : (ctxOk c) = true := h; simp_all [ctxOk]), nofun, nofun, nofun⟩
theorem datasetManagement (c : Nat) (listRead : Bool) : Statement (.datasetManagement c listRead) := fun h => ⟨(by rintro _ ⟨⟩; have h : (ctxOk c) = true := h; simp_all [ctxOk]), nofun, nofun, nofun⟩
theorem flush (c : Nat) : Statement (.flush c) := fun h => ⟨(by rintro _ ⟨⟩; have h : (ctxOk c) = true := h; simp_all [ctxOk]), nofun, nofun, nofun⟩
theorem invalidCommandOpcode (c : Nat) : Statement (.invalidCommandOpcode c) := fun h => ⟨(by rintro _ ⟨⟩; have h : (ctxOk c) = true := h; simp_all [ctxOk]), nofun, nofun, nofun⟩
theorem abort (c : Nat) : Statement (.abort c) := fun h => ⟨(by rintro _ ⟨⟩; have h : (ctxOk c) = true := h; simp_all [ctxOk]), nofun, nofun, nofun⟩
theorem deleteIoSubmissionQueue (c : Nat) : Statement (.deleteIoSubmissionQueue c) := fun h => ⟨(by rintro _ ⟨⟩; have h : (ctxOk c) = true := h; simp_all [ctxOk]), nofun, nofun, nofun⟩
theorem createIoSubmissionQueue (c : Nat) (cmb : Option Nat) : Statement (.createIoSubmissionQueue c cmb) := fun h => ⟨(by rintro _ ⟨⟩; have h : (ctxOk c) = true := h; simp_all [ctxOk]), nofun, nofun, nofun⟩
theorem deleteIoCompletionQueue (c : Nat) : Statement (.deleteIoCompletionQueue c) := fun h => ⟨(by rintro _ ⟨⟩; have h : (ctxOk c) = true := h; simp_all [ctxOk]), nofun, nofun, nofun⟩
theorem createIoCompletionQueue (c : Nat) : Statement (.createIoCompletionQueue c) := fun h => ⟨(by rintro _ ⟨⟩; have h : (ctxOk c) = true := h; simp_all [ctxOk]), nofun, nofun, nofun⟩
theorem identify (c : Nat) : Statement (.identify c) := fun h => ⟨(by rintro _ ⟨⟩; have h : (ctxOk c) = true := h; simp_all [ctxOk]), nofun, nofun, nofun⟩
theorem getLogPage (c : Nat) : Statement (.getLogPage c) := fun h => ⟨(by rintro _ ⟨⟩; have h : (ctxOk c) = true := h; simp_all [ctxOk]), nofun, nofun, nofun⟩
theorem getFeatures (c : Nat) : Statement (.getFeatures c) := fun h => ⟨(by rintro _ ⟨⟩; have h : (ctxOk c) = true := h; simp_all [ctxOk]), nofun, nofun, nofun⟩
theorem setFeaturesArbitration (c : Nat) : Statement (.setFeaturesArbitration c) := fun h => ⟨(by rintro _ ⟨⟩; have h : (ctxOk c) = true := h; simp_all [ctxOk]), nofun, nofun, nofun⟩
theorem setFeaturesPowerManagement (c : Nat) : Statement (.setFeaturesPowerManagement c) := fun h => ⟨(by rintro _ ⟨⟩; have h : (ctxOk c) = true := h; simp_all [ctxOk]), nofun, nofun, nofun⟩
theorem setFeaturesVolatileWriteCache (c : Nat) : Statement (.setFeaturesVolatileWriteCache c) := fun h => ⟨(by rintro _ ⟨⟩; have h : (ctxOk c) = true := h; simp_all [ctxOk]), nofun, nofun, nofun⟩
theorem setFeaturesInterruptCoalescing (c : Nat) : Statement (.setFeaturesInterruptCoalescing c) := fun h => ⟨(by rintro _ ⟨⟩; have h : (ctxOk c) = true := h; simp_all [ctxOk]), nofun, nofun, nofun⟩
theorem setFeaturesHctm (c : Nat) : Statement (.setFeaturesHctm c) := fun h => ⟨(by rintro _ ⟨⟩; have h : (ctxOk c) = true := h; simp_all [ctxOk]), nofun, nofun, nofun⟩
theorem asynchronousEventRequest (c : Nat) : Statement (.asynchronousEventRequest c) := fun h => ⟨(by rintro _ ⟨⟩; have h : (ctxOk c) = true := h; simp_all [ctxOk]), nofun, nofun, nofun⟩
theorem namespaceManagement (c : Nat) (spec : NamespaceSpec) : Statement (.namespaceManagement c spec) := fun h => ⟨(by rintro _ ⟨⟩; have h : (ctxOk c) = true := h; simp_all [ctxOk]), nofun, nofun, nofun⟩
theorem namespaceAttachment (c : Nat) (slice : Option Nat) : Statement (.namespaceAttachment c slice) := fun h => ⟨(by rintro _ ⟨⟩; have h : (ctxOk c && slice.all sliceOk) = true := h; simp_all [ctxOk]), nofun, nofun, nofun⟩
theorem firmwareImageDownload (c : Nat) (bytes : List Byte) : Statement (.firmwareImageDownload c bytes) := fun h => ⟨(by rintro _ ⟨⟩; have h : (ctxOk c) = true := h; simp_all [ctxOk]), nofun, nofun, nofun⟩
theorem firmwareCommitReplace (run : CommitRun) : Statement (.firmwareCommitReplace run) := fun h => ⟨(by rintro _ ⟨⟩; have h : (ctxOk run.ctx) = true := h; simp_all [ctxOk]), nofun, nofun, nofun⟩
theorem firmwareCommitNextReset (run : CommitRun) : Statement (.firmwareCommitNextReset run) := fun h => ⟨(by rintro _ ⟨⟩; have h : (ctxOk run.ctx) = true := h; simp_all [ctxOk]), nofun, nofun, nofun⟩
theorem firmwareCommitActivate (run : CommitRun) : Statement (.firmwareCommitActivate run) := fun h => ⟨(by rintro _ ⟨⟩; have h : (ctxOk run.ctx) = true := h; simp_all [ctxOk]), nofun, nofun, nofun⟩
theorem firmwareActivation : Statement .firmwareActivation := fun _ => ⟨nofun, nofun, nofun, nofun⟩
theorem activationDrainDone : Statement .activationDrainDone := fun _ => ⟨nofun, nofun, nofun, nofun⟩
theorem virtualizationManagement (c : Nat) : Statement (.virtualizationManagement c) := fun h => ⟨(by rintro _ ⟨⟩; have h : (ctxOk c) = true := h; simp_all [ctxOk]), nofun, nofun, nofun⟩
theorem formatNvm (c : Nat) : Statement (.formatNvm c) := fun h => ⟨(by rintro _ ⟨⟩; have h : (ctxOk c) = true := h; simp_all [ctxOk]), nofun, nofun, nofun⟩
theorem sanitizeBlockErase (c : Nat) : Statement (.sanitizeBlockErase c) := fun h => ⟨(by rintro _ ⟨⟩; have h : (ctxOk c) = true := h; simp_all [ctxOk]), nofun, nofun, nofun⟩
theorem sanitizeCryptoErase (c : Nat) : Statement (.sanitizeCryptoErase c) := fun h => ⟨(by rintro _ ⟨⟩; have h : (ctxOk c) = true := h; simp_all [ctxOk]), nofun, nofun, nofun⟩
theorem controllerEnable (fn : Nat) (crime : Bool) (wrr : Bool) : Statement (.controllerEnable fn crime wrr) := fun h => ⟨nofun, (by rintro _ ⟨⟩; have h : (fnOk fn) = true := h; simp_all [fnOk]), nofun, nofun⟩
theorem controllerReset (fn : Nat) : Statement (.controllerReset fn) := fun h => ⟨nofun, (by rintro _ ⟨⟩; have h : (fnOk fn) = true := h; simp_all [fnOk]), nofun, nofun⟩
theorem shutdownNotification (fn : Nat) (shn : Nat) : Statement (.shutdownNotification fn shn) := fun h => ⟨nofun, (by rintro _ ⟨⟩; have h : (fnOk fn && (shn == 1 || shn == 2)) = true := h; simp_all [fnOk]), nofun, nofun⟩
theorem autonomousPsTransition (ps : Nat) : Statement (.autonomousPsTransition ps) := fun _ => ⟨nofun, nofun, nofun, nofun⟩
theorem nonopEntryComplete : Statement .nonopEntryComplete := fun _ => ⟨nofun, nofun, nofun, nofun⟩
theorem nonopExitComplete : Statement .nonopExitComplete := fun _ => ⟨nofun, nofun, nofun, nofun⟩
theorem rescueIdent (seq : BitVec 8) : Statement (.rescueIdent seq) := fun _ => ⟨nofun, nofun, nofun, nofun⟩
theorem rescueLoad (seq : BitVec 8) : Statement (.rescueLoad seq) := fun _ => ⟨nofun, nofun, nofun, nofun⟩
theorem rescueCommit (seq : BitVec 8) : Statement (.rescueCommit seq) := fun _ => ⟨nofun, nofun, nofun, nofun⟩
theorem rescueRestore (seq : BitVec 8) : Statement (.rescueRestore seq) := fun _ => ⟨nofun, nofun, nofun, nofun⟩
theorem rescueRestart (seq : BitVec 8) : Statement (.rescueRestart seq) := fun _ => ⟨nofun, nofun, nofun, nofun⟩
theorem rescueTaskEnd (storeOk : Bool) : Statement (.rescueTaskEnd storeOk) := fun _ => ⟨nofun, nofun, nofun, nofun⟩
theorem tokenRefill : Statement .tokenRefill := fun _ => ⟨nofun, nofun, nofun, nofun⟩
theorem floorWindow : Statement .floorWindow := fun _ => ⟨nofun, nofun, nofun, nofun⟩
theorem sliceCommit (sl : Nat) : Statement (.sliceCommit sl) := fun h => ⟨nofun, nofun, (by rintro _ ⟨⟩; have h : (sliceOk sl) = true := h; simp_all [sliceOk]), nofun⟩
theorem sliceDiscard (sl : Nat) : Statement (.sliceDiscard sl) := fun h => ⟨nofun, nofun, (by rintro _ ⟨⟩; have h : (sliceOk sl) = true := h; simp_all [sliceOk]), nofun⟩
theorem sliceQuiesce (sl : Nat) : Statement (.sliceQuiesce sl) := fun h => ⟨nofun, nofun, (by rintro _ ⟨⟩; have h : (sliceOk sl) = true := h; simp_all [sliceOk]), nofun⟩
theorem sliceQuiesced (sl : Nat) : Statement (.sliceQuiesced sl) := fun h => ⟨nofun, nofun, (by rintro _ ⟨⟩; have h : (sliceOk sl) = true := h; simp_all [sliceOk]), nofun⟩
theorem sliceUnquiesce (sl : Nat) : Statement (.sliceUnquiesce sl) := fun h => ⟨nofun, nofun, (by rintro _ ⟨⟩; have h : (sliceOk sl) = true := h; simp_all [sliceOk]), nofun⟩
theorem qstateWrite (sqHead : Nat) (sqTail : Nat) (cqTail : Nat) (phase : Bool) : Statement (.qstateWrite sqHead sqTail cqTail phase) := fun _ => ⟨nofun, nofun, nofun, nofun⟩
theorem dlogHeadWrite (sl : Nat) (head : Nat) : Statement (.dlogHeadWrite sl head) := fun h => ⟨nofun, nofun, (by rintro _ ⟨⟩; have h : (sliceOk sl) = true := h; simp_all [sliceOk]), nofun⟩
theorem dlogEpochWrite (sl : Nat) (value : Nat) : Statement (.dlogEpochWrite sl value) := fun h => ⟨nofun, nofun, (by rintro _ ⟨⟩; have h : (sliceOk sl) = true := h; simp_all [sliceOk]), nofun⟩
theorem sliceResetDrain (sl : Nat) : Statement (.sliceResetDrain sl) := fun h => ⟨nofun, nofun, (by rintro _ ⟨⟩; have h : (sliceOk sl) = true := h; simp_all [sliceOk]), nofun⟩
theorem sliceResetSquash (sl : Nat) : Statement (.sliceResetSquash sl) := fun h => ⟨nofun, nofun, (by rintro _ ⟨⟩; have h : (sliceOk sl) = true := h; simp_all [sliceOk]), nofun⟩
theorem sliceDrainTimeout (sl : Nat) : Statement (.sliceDrainTimeout sl) := fun h => ⟨nofun, nofun, (by rintro _ ⟨⟩; have h : (sliceOk sl) = true := h; simp_all [sliceOk]), nofun⟩
theorem sliceReset (sl : Nat) : Statement (.sliceReset sl) := fun h => ⟨nofun, nofun, (by rintro _ ⟨⟩; have h : (sliceOk sl) = true := h; simp_all [sliceOk]), nofun⟩
theorem sliceResetDone (sl : Nat) : Statement (.sliceResetDone sl) := fun h => ⟨nofun, nofun, (by rintro _ ⟨⟩; have h : (sliceOk sl) = true := h; simp_all [sliceOk]), nofun⟩
theorem galleryWrite (tlp : PeerTlp) (bytes : List Byte) : Statement (.galleryWrite tlp bytes) := fun _ => ⟨nofun, nofun, nofun, nofun⟩
theorem galleryRead (tlp : PeerTlp) (len : Nat) : Statement (.galleryRead tlp len) := fun _ => ⟨nofun, nofun, nofun, nofun⟩
theorem fence (tlp : PeerTlp) : Statement (.fence tlp) := fun _ => ⟨nofun, nofun, nofun, nofun⟩
theorem fenceCompletion (w : Nat) : Statement (.fenceCompletion w) := fun _ => ⟨nofun, nofun, nofun, nofun⟩
theorem winCommit : Statement .winCommit := fun _ => ⟨nofun, nofun, nofun, nofun⟩
theorem winDiscard : Statement .winDiscard := fun _ => ⟨nofun, nofun, nofun, nofun⟩
theorem windowSetActivate : Statement .windowSetActivate := fun _ => ⟨nofun, nofun, nofun, nofun⟩
theorem windowCommitTimeout : Statement .windowCommitTimeout := fun _ => ⟨nofun, nofun, nofun, nofun⟩
theorem rtPanicAssert : Statement .rtPanicAssert := fun _ => ⟨nofun, nofun, nofun, nofun⟩
theorem rtPanicRelease : Statement .rtPanicRelease := fun _ => ⟨nofun, nofun, nofun, nofun⟩
theorem mapCommit : Statement .mapCommit := fun _ => ⟨nofun, nofun, nofun, nofun⟩
theorem journalPageWrite : Statement .journalPageWrite := fun _ => ⟨nofun, nofun, nofun, nofun⟩
theorem journalPageGood (copyA : Bool) : Statement (.journalPageGood copyA) := fun _ => ⟨nofun, nofun, nofun, nofun⟩
theorem journalCopyLost (lost : CopyLost) : Statement (.journalCopyLost lost) := fun _ => ⟨nofun, nofun, nofun, nofun⟩
theorem segmentWriteback (nsid : Nat) (seg : Nat) (loc : Loc) : Statement (.segmentWriteback nsid seg loc) := fun _ => ⟨nofun, nofun, nofun, nofun⟩
theorem directoryCheckpoint : Statement .directoryCheckpoint := fun _ => ⟨nofun, nofun, nofun, nofun⟩
theorem segmentLoad (nsid : Nat) (seg : Nat) : Statement (.segmentLoad nsid seg) := fun _ => ⟨nofun, nofun, nofun, nofun⟩
theorem suspectRebuild (nsid : Nat) (g : Nat) (fromSegment : Bool) (bandsOk : Bool) : Statement (.suspectRebuild nsid g fromSegment bandsOk) := fun _ => ⟨nofun, nofun, nofun, nofun⟩
theorem bandClose (b : Nat) : Statement (.bandClose b) := fun _ => ⟨nofun, nofun, nofun, nofun⟩
theorem bandOpenTimeout (b : Nat) : Statement (.bandOpenTimeout b) := fun _ => ⟨nofun, nofun, nofun, nofun⟩
theorem victimSelect (b : Nat) : Statement (.victimSelect b) := fun _ => ⟨nofun, nofun, nofun, nofun⟩
theorem bandRelease (b : Nat) : Statement (.bandRelease b) := fun _ => ⟨nofun, nofun, nofun, nofun⟩
theorem foldStart : Statement .foldStart := fun _ => ⟨nofun, nofun, nofun, nofun⟩
theorem foldStop : Statement .foldStop := fun _ => ⟨nofun, nofun, nofun, nofun⟩
theorem dieOperationSubmit (op : OpRequest) : Statement (.dieOperationSubmit op) := fun _ => ⟨nofun, nofun, nofun, nofun⟩
theorem dieOperationStart (d : Nat) : Statement (.dieOperationStart d) := fun h => ⟨nofun, nofun, nofun, (by rintro _ ⟨⟩; have h : (dieOk d) = true := h; simp_all [dieOk])⟩
theorem dieReady (d : Nat) (st : DieStatus) : Statement (.dieReady d st) := fun h => ⟨nofun, nofun, nofun, (by rintro _ ⟨⟩; have h : (dieOk d) = true := h; simp_all [dieOk])⟩
theorem dieAgePromotion (op : Nat) : Statement (.dieAgePromotion op) := fun _ => ⟨nofun, nofun, nofun, nofun⟩
theorem suspendIssue (d : Nat) : Statement (.suspendIssue d) := fun h => ⟨nofun, nofun, nofun, (by rintro _ ⟨⟩; have h : (dieOk d) = true := h; simp_all [dieOk])⟩
theorem resumeSubmit (d : Nat) : Statement (.resumeSubmit d) := fun h => ⟨nofun, nofun, nofun, (by rintro _ ⟨⟩; have h : (dieOk d) = true := h; simp_all [dieOk])⟩
theorem dieOffline (d : Nat) : Statement (.dieOffline d) := fun h => ⟨nofun, nofun, nofun, (by rintro _ ⟨⟩; have h : (dieOk d) = true := h; simp_all [dieOk])⟩
theorem dieReenable (d : Nat) : Statement (.dieReenable d) := fun h => ⟨nofun, nofun, nofun, (by rintro _ ⟨⟩; have h : (dieOk d) = true := h; simp_all [dieOk])⟩
theorem rebudget : Statement .rebudget := fun _ => ⟨nofun, nofun, nofun, nofun⟩
theorem junctionSensorRead (temps : List Int) : Statement (.junctionSensorRead temps) := fun _ => ⟨nofun, nofun, nofun, nofun⟩
theorem channelInit (part : NandPart) (found : List ChannelFound) : Statement (.channelInit part found) := fun _ => ⟨nofun, nofun, nofun, nofun⟩
theorem zqCalibration : Statement .zqCalibration := fun _ => ⟨nofun, nofun, nofun, nofun⟩
theorem channelRetrain (ch : Nat) (ce : Nat) (found : TrainFound) : Statement (.channelRetrain ch ce found) := fun _ => ⟨nofun, nofun, nofun, nofun⟩
theorem statusPoll (d : Nat) (ready : Bool) : Statement (.statusPoll d ready) := fun h => ⟨nofun, nofun, nofun, (by rintro _ ⟨⟩; have h : (dieOk d) = true := h; simp_all [dieOk])⟩
theorem busyTimeout (d : Nat) : Statement (.busyTimeout d) := fun h => ⟨nofun, nofun, nofun, (by rintro _ ⟨⟩; have h : (dieOk d) = true := h; simp_all [dieOk])⟩
theorem writeGuardActivate (g : GuardInput) : Statement (.writeGuardActivate g) := fun _ => ⟨nofun, nofun, nofun, nofun⟩
theorem writeGuardClear (g : GuardInput) : Statement (.writeGuardClear g) := fun _ => ⟨nofun, nofun, nofun, nofun⟩
theorem guardWaitTimeout (op : Nat) : Statement (.guardWaitTimeout op) := fun _ => ⟨nofun, nofun, nofun, nofun⟩
theorem dieTemperaturePoll (d : Nat) (tempC : Int) : Statement (.dieTemperaturePoll d tempC) := fun h => ⟨nofun, nofun, nofun, (by rintro _ ⟨⟩; have h : (dieOk d) = true := h; simp_all [dieOk])⟩
theorem verifyRead (d : Nat) (block : Nat) (page : Nat) : Statement (.verifyRead d block page) := fun h => ⟨nofun, nofun, nofun, (by rintro _ ⟨⟩; have h : (dieOk d && blockOk block && pageOk page) = true := h; simp_all [dieOk])⟩
theorem codewordDecode (loc : Loc) (res : DecodeResult) : Statement (.codewordDecode loc res) := fun _ => ⟨nofun, nofun, nofun, nofun⟩
theorem thetaUpdate : Statement .thetaUpdate := fun _ => ⟨nofun, nofun, nofun, nofun⟩
theorem thetaStore : Statement .thetaStore := fun _ => ⟨nofun, nofun, nofun, nofun⟩
theorem scrubVisit (b : Nat) (samples : List ScrubSample) : Statement (.scrubVisit b samples) := fun _ => ⟨nofun, nofun, nofun, nofun⟩
theorem scrubWindowOpen (w : Nat) : Statement (.scrubWindowOpen w) := fun _ => ⟨nofun, nofun, nofun, nofun⟩
theorem scrubWindowClose (w : Nat) : Statement (.scrubWindowClose w) := fun _ => ⟨nofun, nofun, nofun, nofun⟩
theorem wearUpdate : Statement .wearUpdate := fun _ => ⟨nofun, nofun, nofun, nofun⟩
theorem keyLoad (slot : Nat) : Statement (.keyLoad slot) := fun _ => ⟨nofun, nofun, nofun, nofun⟩
theorem keyGenerate (slot : Nat) : Statement (.keyGenerate slot) := fun _ => ⟨nofun, nofun, nofun, nofun⟩
theorem keyClear (slot : Nat) : Statement (.keyClear slot) := fun _ => ⟨nofun, nofun, nofun, nofun⟩
theorem keyOpEnd : Statement .keyOpEnd := fun _ => ⟨nofun, nofun, nofun, nofun⟩
theorem gatherTimeout (b : Nat) (row : Nat) (pos : Nat) (stripe : Nat) : Statement (.gatherTimeout b row pos stripe) := fun _ => ⟨nofun, nofun, nofun, nofun⟩
theorem stripeJournalPageWrite : Statement .stripeJournalPageWrite := fun _ => ⟨nofun, nofun, nofun, nofun⟩
theorem stripeJournalCopyLost (lost : CopyLost) : Statement (.stripeJournalCopyLost lost) := fun _ => ⟨nofun, nofun, nofun, nofun⟩
theorem rebuildStart : Statement .rebuildStart := fun _ => ⟨nofun, nofun, nofun, nofun⟩
theorem rebuildStripe (b : Nat) (row : Nat) (pos : Nat) (stripe : Nat) (survivors : List (Nat × Nat)) : Statement (.rebuildStripe b row pos stripe survivors) := fun _ => ⟨nofun, nofun, nofun, nofun⟩
theorem rebuildPhase2 : Statement .rebuildPhase2 := fun _ => ⟨nofun, nofun, nofun, nofun⟩
theorem energyEstimate (codes : List (BitVec 12)) : Statement (.energyEstimate codes) := fun _ => ⟨nofun, nofun, nofun, nofun⟩
theorem storeCharged : Statement .storeCharged := fun _ => ⟨nofun, nofun, nofun, nofun⟩
theorem dischargeTestStart : Statement .dischargeTestStart := fun _ => ⟨nofun, nofun, nofun, nofun⟩
theorem dischargeTestEnd : Statement .dischargeTestEnd := fun _ => ⟨nofun, nofun, nofun, nofun⟩
theorem bufferRequest (unit : Nat) (size : Nat) (slice : Option Nat) (urgent : Bool) (prev : Option (BitVec 24)) : Statement (.bufferRequest unit size slice urgent prev) := fun _ => ⟨nofun, nofun, nofun, nofun⟩
theorem bufferGrant (pool : Nat) : Statement (.bufferGrant pool) := fun _ => ⟨nofun, nofun, nofun, nofun⟩
theorem bufferShare (h : BitVec 24) (by_ : Nat) (unit : Nat) : Statement (.bufferShare h by_ unit) := fun _ => ⟨nofun, nofun, nofun, nofun⟩
theorem bufferFree (h : BitVec 24) (by_ : Nat) : Statement (.bufferFree h by_) := fun _ => ⟨nofun, nofun, nofun, nofun⟩
theorem bufferFreeChain (h : BitVec 24) (by_ : Nat) : Statement (.bufferFreeChain h by_) := fun _ => ⟨nofun, nofun, nofun, nofun⟩
theorem poisonBufferClean (h : BitVec 24) (clean : Bool) : Statement (.poisonBufferClean h clean) := fun _ => ⟨nofun, nofun, nofun, nofun⟩
theorem ringRefill (pool : Nat) : Statement (.ringRefill pool) := fun _ => ⟨nofun, nofun, nofun, nofun⟩
theorem sramScrub (offset : Nat) (errBits : Nat) : Statement (.sramScrub offset errBits) := fun _ => ⟨nofun, nofun, nofun, nofun⟩
theorem dramRequest (a : DramAccess) (ecc : EccResult) : Statement (.dramRequest a ecc) := fun _ => ⟨nofun, nofun, nofun, nofun⟩
theorem dramAgePromotion (mapN : Bool) : Statement (.dramAgePromotion mapN) := fun _ => ⟨nofun, nofun, nofun, nofun⟩
theorem dramRefresh (ch : Nat) (sub : Nat) : Statement (.dramRefresh ch sub) := fun _ => ⟨nofun, nofun, nofun, nofun⟩
theorem mr4Read (tempC : Int) : Statement (.mr4Read tempC) := fun _ => ⟨nofun, nofun, nofun, nofun⟩
theorem rowTableClear : Statement .rowTableClear := fun _ => ⟨nofun, nofun, nofun, nofun⟩
theorem patrolScrub (addr : Nat) (ecc : EccResult) : Statement (.patrolScrub addr ecc) := fun _ => ⟨nofun, nofun, nofun, nofun⟩
theorem dramAlert (ch : Nat) : Statement (.dramAlert ch) := fun _ => ⟨nofun, nofun, nofun, nofun⟩
theorem dramTraining (chMask : BitVec 4) (ranks : Nat) (dens32 : Bool) (cidBits : Nat) (passed : Bool) : Statement (.dramTraining chMask ranks dens32 cidBits passed) := fun _ => ⟨nofun, nofun, nofun, nofun⟩
theorem dqsOscillatorRead (ch : Nat) (drift : Bool) : Statement (.dqsOscillatorRead ch drift) := fun _ => ⟨nofun, nofun, nofun, nofun⟩
theorem dramZqCalibration : Statement .dramZqCalibration := fun _ => ⟨nofun, nofun, nofun, nofun⟩
theorem dramRetrain (ch : Nat) : Statement (.dramRetrain ch) := fun _ => ⟨nofun, nofun, nofun, nofun⟩
theorem retireGo : Statement .retireGo := fun _ => ⟨nofun, nofun, nofun, nofun⟩
theorem retireCopyDone (entry : Nat) : Statement (.retireCopyDone entry) := fun _ => ⟨nofun, nofun, nofun, nofun⟩
theorem selfRefreshEntry : Statement .selfRefreshEntry := fun _ => ⟨nofun, nofun, nofun, nofun⟩
theorem selfRefreshExit : Statement .selfRefreshExit := fun _ => ⟨nofun, nofun, nofun, nofun⟩
theorem rankPowerDown (ch : Nat) (rank : Nat) : Statement (.rankPowerDown ch rank) := fun _ => ⟨nofun, nofun, nofun, nofun⟩
theorem cutFault (cause : FaultCause) : Statement (.cutFault cause) := fun _ => ⟨nofun, nofun, nofun, nofun⟩
theorem watchdogExpiry : Statement .watchdogExpiry := fun _ => ⟨nofun, nofun, nofun, nofun⟩
theorem heartbeatWrite (cluster : Cluster) (epoch : BitVec 8) : Statement (.heartbeatWrite cluster epoch) := fun _ => ⟨nofun, nofun, nofun, nofun⟩
theorem cutGo : Statement .cutGo := fun _ => ⟨nofun, nofun, nofun, nofun⟩
theorem cutReq (r : SheetRequest) (value : Nat) : Statement (.cutReq r value) := fun _ => ⟨nofun, nofun, nofun, nofun⟩
theorem cutFence : Statement .cutFence := fun _ => ⟨nofun, nofun, nofun, nofun⟩
theorem epochTake : Statement .epochTake := fun _ => ⟨nofun, nofun, nofun, nofun⟩
theorem clusterSelftestEnd (cluster : Cluster) (pass : Bool) : Statement (.clusterSelftestEnd cluster pass) := fun _ => ⟨nofun, nofun, nofun, nofun⟩
theorem clusterSyncDone (cluster : Cluster) : Statement (.clusterSyncDone cluster) := fun _ => ⟨nofun, nofun, nofun, nofun⟩
theorem clusterRepair (cluster : Cluster) : Statement (.clusterRepair cluster) := fun _ => ⟨nofun, nofun, nofun, nofun⟩
theorem standbySelftest : Statement .standbySelftest := fun _ => ⟨nofun, nofun, nofun, nofun⟩
theorem rotateCut : Statement .rotateCut := fun _ => ⟨nofun, nofun, nofun, nofun⟩
theorem scriptWrite (cluster : Cluster) (epoch : BitVec 8) (bytes : List Byte) : Statement (.scriptWrite cluster epoch bytes) := fun _ => ⟨nofun, nofun, nofun, nofun⟩
theorem scriptCheckpoint : Statement .scriptCheckpoint := fun _ => ⟨nofun, nofun, nofun, nofun⟩
theorem csuProgram (r : CsuRequest) : Statement (.csuProgram r) := fun _ => ⟨nofun, nofun, nofun, nofun⟩
theorem csuErase (r : CsuRequest) : Statement (.csuErase r) := fun _ => ⟨nofun, nofun, nofun, nofun⟩
theorem wprogram (r : CsuRequest) : Statement (.wprogram r) := fun _ => ⟨nofun, nofun, nofun, nofun⟩
theorem werase (r : CsuRequest) : Statement (.werase r) := fun _ => ⟨nofun, nofun, nofun, nofun⟩
theorem loaderCopy (r : CsuRequest) : Statement (.loaderCopy r) := fun _ => ⟨nofun, nofun, nofun, nofun⟩
theorem csuCommandEnd (bank : Nat) (ok : Bool) : Statement (.csuCommandEnd bank ok) := fun _ => ⟨nofun, nofun, nofun, nofun⟩
theorem codeStoreReadSuspend (bank : Nat) : Statement (.codeStoreReadSuspend bank) := fun _ => ⟨nofun, nofun, nofun, nofun⟩
theorem codeStoreEraseResume (bank : Nat) : Statement (.codeStoreEraseResume bank) := fun _ => ⟨nofun, nofun, nofun, nofun⟩
theorem windowSlide : Statement .windowSlide := fun _ => ⟨nofun, nofun, nofun, nofun⟩
theorem wpWrite (cluster : Cluster) (pair : Nat) (n : Nat) (value : Word) : Statement (.wpWrite cluster pair n value) := fun _ => ⟨nofun, nofun, nofun, nofun⟩
theorem sealStateWrite (r : SheetRequest) (value : Nat) : Statement (.sealStateWrite r value) := fun _ => ⟨nofun, nofun, nofun, nofun⟩
theorem sealGrantSession (r : SheetRequest) (grant : GrantBytes) : Statement (.sealGrantSession r grant) := fun _ => ⟨nofun, nofun, nofun, nofun⟩
theorem sealGrantDowngrade (r : SheetRequest) (grant : GrantBytes) : Statement (.sealGrantDowngrade r grant) := fun _ => ⟨nofun, nofun, nofun, nofun⟩
theorem pendingTakeLimit : Statement .pendingTakeLimit := fun _ => ⟨nofun, nofun, nofun, nofun⟩
theorem actDeadline : Statement .actDeadline := fun _ => ⟨nofun, nofun, nofun, nofun⟩
theorem healthConfirm (r : SheetRequest) (value : Word) : Statement (.healthConfirm r value) := fun _ => ⟨nofun, nofun, nofun, nofun⟩
theorem confirmWindowExpiry : Statement .confirmWindowExpiry := fun _ => ⟨nofun, nofun, nofun, nofun⟩
theorem fallbackReboot : Statement .fallbackReboot := fun _ => ⟨nofun, nofun, nofun, nofun⟩
theorem callSheetRead (r : SheetRequest) : Statement (.callSheetRead r) := fun _ => ⟨nofun, nofun, nofun, nofun⟩
theorem callSheetWrite (r : SheetRequest) (bytes : List Byte) : Statement (.callSheetWrite r bytes) := fun _ => ⟨nofun, nofun, nofun, nofun⟩
theorem storedWriteCommit : Statement .storedWriteCommit := fun _ => ⟨nofun, nofun, nofun, nofun⟩
theorem describe (r : SheetRequest) : Statement (.describe r) := fun _ => ⟨nofun, nofun, nofun, nofun⟩
theorem fwObjectTimeout : Statement .fwObjectTimeout := fun _ => ⟨nofun, nofun, nofun, nofun⟩
theorem mctpControlMessage (i3c : Bool) (eid : Nat) : Statement (.mctpControlMessage i3c eid) := fun _ => ⟨nofun, nofun, nofun, nofun⟩
theorem nvmeMiBasicManagement (i3c : Bool) (eid : Nat) : Statement (.nvmeMiBasicManagement i3c eid) := fun _ => ⟨nofun, nofun, nofun, nofun⟩
theorem fleetSet (r : SheetRequest) (value : Dword) : Statement (.fleetSet r value) := fun _ => ⟨nofun, nofun, nofun, nofun⟩
theorem powerOnSecondsStore : Statement .powerOnSecondsStore := fun _ => ⟨nofun, nofun, nofun, nofun⟩
theorem recorderTrigger (t : Trigger) : Statement (.recorderTrigger t) := fun _ => ⟨nofun, nofun, nofun, nofun⟩
theorem fwTrigger (code : BitVec 3) : Statement (.fwTrigger code) := fun _ => ⟨nofun, nofun, nofun, nofun⟩
theorem reelPageFlush : Statement .reelPageFlush := fun _ => ⟨nofun, nofun, nofun, nofun⟩
theorem reelRead (first : Bool) (slot : Nat) : Statement (.reelRead first slot) := fun _ => ⟨nofun, nofun, nofun, nofun⟩
theorem freeze (on : Bool) : Statement (.freeze on) := fun _ => ⟨nofun, nofun, nofun, nofun⟩
theorem freezeExpiry : Statement .freezeExpiry := fun _ => ⟨nofun, nofun, nofun, nofun⟩
theorem avsRequest (mv : Nat) : Statement (.avsRequest mv) := fun _ => ⟨nofun, nofun, nofun, nofun⟩
theorem ptmValidExpiry : Statement .ptmValidExpiry := fun _ => ⟨nofun, nofun, nofun, nofun⟩
theorem interruptCoalescingExpiry (cq : Nat) : Statement (.interruptCoalescingExpiry cq) := fun _ => ⟨nofun, nofun, nofun, nofun⟩
theorem fwObjectAnswer (status : FwStatus) (bytes : List Byte) : Statement (.fwObjectAnswer status bytes) := fun _ => ⟨nofun, nofun, nofun, nofun⟩
theorem jtagDebugAccess (space : DebugSpace) (addr : Nat) (wr : Option Byte) : Statement (.jtagDebugAccess space addr wr) := fun _ => ⟨nofun, nofun, nofun, nofun⟩
theorem tuigorBadMsg (m : RawMessage) : Statement (.tuigorBadMsg m) := fun _ => ⟨nofun, nofun, nofun, nofun⟩
theorem smbusTimeout : Statement .smbusTimeout := fun _ => ⟨nofun, nofun, nofun, nofun⟩
theorem i3cDynamicAddressAssignment (entdaa : Bool) (addr : BitVec 7) : Statement (.i3cDynamicAddressAssignment entdaa addr) := fun _ => ⟨nofun, nofun, nofun, nofun⟩
theorem setFeaturesCriticalWarnings (c : Nat) : Statement (.setFeaturesCriticalWarnings c) := fun h => ⟨(by rintro _ ⟨⟩; have h : (ctxOk c) = true := h; simp_all [ctxOk]), nofun, nofun, nofun⟩

end Sys2Proof.Laws.WellFormedOperands
end

