-- ==== Sys2Proof/Laws/Registers.lean ====
section
/-! SUPPORT. Register fields: what a store, a count and a flag do to the field itself and to every other field, and what a recorder trigger leaves of them (R4, R7, R8, R484). -/

namespace Sys2Proof.Machine

theorem Tbl.getD_setD_ne {α : Type} [DecidableEq α] (t : List (Nat × α)) (k k' : Nat) (v d e : α) (h : k' ≠ k) :
    Tbl.getD (Tbl.setD t k v d) k' e = Tbl.getD t k' e := by
  unfold Tbl.setD
  split
  · simp [Tbl.getD, Tbl.find?_del_other _ h]
  · simp [Tbl.getD, Tbl.find?_put_other _ _ h]

theorem RegFile.get_put_same (r : RegFile) (f : Field) (i w v : Nat) : (r.put f i w v).get f i w = v % 2 ^ f.width :=
  Tbl.getD_setD_same _ _ _ _

theorem RegFile.get_put_other (r : RegFile) (f g : Field) (i w j x v : Nat) (h : f.key i w ≠ g.key j x) :
    (r.put g j x v).get f i w = r.get f i w := Tbl.getD_setD_ne _ _ _ _ _ _ h

theorem RegFile.get_count_same (r : RegFile) (f : Field) (i w n : Nat) : (r.count f i w n).get f i w = min (2 ^ f.width - 1) (r.get f i w + n) :=
  Tbl.getD_setD_same _ _ _ _

theorem RegFile.get_count_other (r : RegFile) (f g : Field) (i w j x n : Nat) (h : f.key i w ≠ g.key j x) :
    (r.count g j x n).get f i w = r.get f i w := Tbl.getD_setD_ne _ _ _ _ _ _ h

theorem RegFile.get_flag_same (r : RegFile) (f : Field) (i w n : Nat) : (r.flag f i w n).get f i w = (r.get f i w ||| n) % 2 ^ f.width :=
  Tbl.getD_setD_same _ _ _ _

theorem RegFile.get_flag_other (r : RegFile) (f g : Field) (i w j x n : Nat) (h : f.key i w ≠ g.key j x) :
    (r.flag g j x n).get f i w = r.get f i w := Tbl.getD_setD_ne _ _ _ _ _ _ h

/-- A trigger counts in the recorder's registers only. -/
theorem State.fld_trigger (s : State) (code unit inst : Nat) (arg : Dword) (f : Field) (i : Nat)
    (h : f.key i 0 ≠ Fld.CRU_TRIG_CNT.COUNT.key code 0) (h' : f.key i 0 ≠ Fld.CRU_MISSED.COUNT.key 0 0) :
    (s.trigger code unit inst arg).fld f i = s.fld f i := by
  unfold State.trigger State.fld
  dsimp only
  (repeat' split) <;> simp [State.count, RegFile.get_count_other _ _ _ _ _ _ _ _ h, RegFile.get_count_other _ _ _ _ _ _ _ _ h']

end Sys2Proof.Machine
end

