-- ==== Sys2Proof/Laws/Resets.lean ====
section
/-! SUPPORT. What the reset of all units, the end of the NAND work and the entry to a stage leave in the parts they change (R38, R53, Tables 2.5 and 2.6): the values that later operations of a command read. -/

namespace Sys2Proof.Machine

/-- The HUM's reset: INIT, and nothing but its own state, the recorder's and the health bits follow. -/
theorem State.resetHum_hum (s : State) : s.resetHum.hum = { s.hum with
    reached := false, tested := false, testDue := false, lastPass := false, lastTest := none, test := none, result := .none
    code := 0, codes := [], energy := 0, loaded := false, state := .init } := by
  unfold State.resetHum State.setHum
  split
  · rename_i h; simp at h; simp [h]
  · simp

@[simp] theorem State.resetHum_qen (s : State) : s.resetHum.qen = s.qen := by
  unfold State.resetHum State.setHum
  split
  · simp
  · simp [State.healthLevel]

@[simp] theorem State.resetHum_out (s : State) : s.resetHum.out = s.out := by
  unfold State.resetHum State.setHum
  split
  · simp
  · simp [State.healthLevel]

theorem State.healthAtStair_power (s : State) : s.healthAtStair.power = { s.power with stairSeen := true } := by
  unfold State.healthAtStair
  split
  · rename_i h; simp [← h]
  · simp

theorem State.setStage_power (s : State) (st : Stage) : (s.setStage st).power = { s.power with stage := st } := by simp [State.setStage]

theorem State.bootCluster_ccl (s : State) (ok : Bool) :
    (s.bootCluster ok).ccl.owner = (if ok then .a else .b) ∧ (s.bootCluster ok).ccl.st (if ok then .a else .b) = .active ∧
      (s.bootCluster ok).ccl.epoch = s.ccl.epoch + 1 := by
  cases ok <;> simp [State.bootCluster, State.failCluster, Ccl.setSt, Ccl.addFail, Ccl.st]

theorem State.setHum_state (s : State) (st : HumState) : (s.setHum st).hum = { s.hum with state := st } := by
  unfold State.setHum
  split
  · rename_i h; simp [← h]
  · dsimp only
    split <;> simp

theorem State.unitsReset_power (s : State) (a b : Bool) : (s.unitsReset a b).power = { s.power with
    stage := .foyer, startKind := .undecided, stageMs := 0, cfgReady := false, adminOpen := false, mapRestored := false, releaseTick := none
    bootTick := none, hallTick := none, avsPend := some 720 } := by
  simp [State.unitsReset]

/-- A cut that a class 1 to 3 event of its own tick undoes takes back the tick's class 5 sample (R24), and no other. -/
theorem State.undoCut_classes (s : State) : s.undoCut.tbu.classes ||| 16#10 = s.tbu.classes ||| 16#10 := by
  have e : ∀ v : BitVec 10, v &&& ~~~(BitVec.ofNat 10 16) ||| 16#10 = v ||| 16#10 := by decide
  unfold State.undoCut
  split
  · split
    · exact e _
    · rfl
  · rfl

theorem State.resetClusters_classes (s : State) : s.resetClusters.tbu.classes ||| 16#10 = s.tbu.classes ||| 16#10 := by
  rw [← State.undoCut_classes s]
  unfold State.resetClusters
  dsimp only
  split <;> simp

theorem State.unitsReset_classes (s : State) (a b : Bool) : (s.unitsReset a b).tbu.classes ||| 16#10 = s.tbu.classes ||| 16#10 := by
  simp [State.unitsReset, State.ptmLost, State.resetClusters_classes]

theorem State.deviceReset_classes (s : State) (n : Nat) (w : Bool) :
    (s.deviceReset n w).tbu.classes ||| 16#10 = s.tbu.classes ||| BitVec.ofNat 10 (2 ^ (n - 1)) ||| 16#10 := by
  rw [State.deviceReset, State.unitsReset_classes]
  simp [State.sample]

theorem State.unitsReset_hlu_up (s : State) (a b : Bool) : (s.unitsReset a b).hlu.up = false := by
  simp [State.unitsReset, Hlu.atReset, Hlu.initial]

theorem State.unitsReset_qen (s : State) (a b : Bool) :
    (s.unitsReset a b).qen.ctxs = [] ∧ (s.unitsReset a b).qen.sqs = [] ∧ (s.unitsReset a b).qen.cqs = [] ∧ (s.unitsReset a b).qen.ctrls = [] := by
  simp [State.unitsReset, Qen.atReset, Qen.initial]

theorem State.unitsReset_dsc_dies (s : State) (a b : Bool) : (s.unitsReset a b).dsc.budget = 0 := by
  simp [State.unitsReset, Dsc.atReset]

theorem State.deviceReset_power (s : State) (n : Nat) (w : Bool) : (s.deviceReset n w).power = { s.power with
    stage := .foyer, startKind := .undecided, stageMs := 0, cfgReady := false, adminOpen := false, mapRestored := false, releaseTick := none
    bootTick := none, hallTick := none, avsPend := some 720 } := by
  simp [State.deviceReset, State.unitsReset_power]

theorem State.deviceReset_hlu_up (s : State) (n : Nat) (w : Bool) : (s.deviceReset n w).hlu.up = false := by
  simp [State.deviceReset, State.unitsReset_hlu_up]

theorem State.deviceReset_qen (s : State) (n : Nat) (w : Bool) :
    (s.deviceReset n w).qen.ctxs = [] ∧ (s.deviceReset n w).qen.sqs = [] ∧ (s.deviceReset n w).qen.cqs = [] ∧ (s.deviceReset n w).qen.ctrls = [] :=
  State.unitsReset_qen _ _ _

theorem State.mediaEnd_power (s : State) : s.mediaEnd.power = { s.power with mediaPend := false, shutWork := false } := by
  simp [State.mediaEnd]

theorem State.mediaEnd_dsc (s : State) : s.mediaEnd.dsc.dies = [] ∧ s.mediaEnd.dsc.ops = [] ∧ s.mediaEnd.dsc.held = 0 := by
  simp [State.mediaEnd]

theorem State.mediaEnd_dmc (s : State) : s.mediaEnd.dmc = { s.dmc with
      trained := false, begun := false, selfRefresh := false, srDump := false
      chMask := 0, ranks := 0, dens32 := false, cidBits := 0, mts := 0, ret := [] } := by
  simp [State.mediaEnd]

theorem State.mediaEnd_cdx (s : State) : s.mediaEnd.cdx = { s.cdx with keys := [], frames := [], climb := [], lunSet := [], raw := [] } := by
  simp [State.mediaEnd]

end Sys2Proof.Machine
end

