-- ==== Sys2Proof/Tests/Slice0.lean ====
section
/-! SUPPORT. Tests: ill-formed commands that WellFormed refuses, single steps against values worked out from the spec, and for each obligation with hypotheses a state and operands that meet them. -/

namespace Sys2Proof.Tests.Slice0

open Sys2Proof Sys2Proof.Machine

set_option Elab.async false

/-! ## Small states -/

/-- After reset, with every period long past. -/
def late : State := { State.reset with tbu := { Tbu.initial with tick := 0x4000000000000000 } }
/-- In Stair, cluster A active, DRAM trained as two channels of 64 GiB in all, NAND initialised. -/
def stair : State := { late with
  power := { Power.initial with perst := false, stage := .stair, releaseTick := some 0, bootTick := some 0, cfgReady := true, adminOpen := true }
  hlu := { Hlu.initial with up := true, flit := true, rate := 6, width := 16, l0pWidth := 16, l0pEn := true, l1En := true, l12En := true, vfEn := true, vfMse := true, numVfs := 63 }
  ccl := { Ccl.initial with epoch := 1, stA := .active, stB := .standby }
  dmc := { Dmc.initial with trained := true, chMask := 3, ranks := 1, cidBits := 0 }
  fca := { Fca.initial with initialised := true } }
/-- In Hall. -/
def hall : State := { stair with
  power := { stair.power with stage := .hall, startKind := .clean, mapRestored := true, adminOpen := true, hallTick := some 0 } }

/-! ## Ill-formed commands -/

/-- What `Instr.wellFormed` answers for a list of commands. -/
def refused (is : List Instr) : Bool := is.all fun i => i.wellFormed == false
def taken (is : List Instr) : Bool := is.all fun i => i.wellFormed
def tlp : PeerTlp := { fn := 63, offset := 2 ^ 36 - 1, pasid := some (2 ^ 20 - 1), reqId := 0, poison := false }
def req : SheetRequest := { via := .port 3, eid := 255, tag := 255, index := 65535, sub := 255, epoch := 0, cluster := .a }
def dieOp : OpRequest := { kind := .read, die := 1023, block := 8191, page := 4095, planes := 6, cls := .normal, raised := false, slice := 1023 }
def csu : CsuRequest := { cluster := .a, pair := 3, epoch := 0, sector := 2047, page := 63, fetchAt := 0 }

theorem smoke_host_refused : refused [.registerWrite (.host 64 0) 0 4 0 0xF, .registerWrite (.host 0 1) 0 4 0 0xF, .registerWrite (.host 0 0) 2 4 0 0xF, .registerWrite (.host 0 0) 0 2 0 3,
    .registerWrite (.firmware .a 4 0) 0 4 0 0xF, .registerWrite (.firmware .a 0 0) 0 3 0 0xF, .rcFieldRead (.host 0 0) ⟨2, 4⟩, .rcFieldRead (.host 0 0) ⟨4, 2⟩, .loRegisterRead (.host 0 0) ⟨6, 4⟩, .loRegisterRead (.host 0 2) ⟨8, 4⟩, .supplyLoss (.rail .aux), .thermalTrip 8,
    .configurationRequest 64 0 none, .configurationRequest 0 4096 none, .configurationRequest 0 0 (some (.device 100 512 false)), .configurationRequest 0 0 (some (.device 128 64 false)), .configurationRequest 0 0 (some (.sriov true true 64)),
    .linkTraining 0 16 true 0xFFFF [] [], .linkTraining 7 16 true 0xFFFF [] [], .linkTraining 6 3 true 0xFFFF [] [], .flr 64, .flrComplete 64, .atsInvalidate 64 none 0,
    .busMasterEnableClear 64, .busMasterEnableSet 64, .doorbellWrite 64 0 false 0 none, .doorbellWrite 0 65536 false 0 none, .doorbellWrite 0 0 false 65536 none] = true := by decide
theorem smoke_host_taken : taken [.registerWrite (.host 63 4) 0xFFFC 8 0 0xFF, .registerWrite (.firmware .b 3 0xFF) 0x20000003 1 0 1, .supplyLoss (.rail .nand), .thermalTrip 7,
    .configurationRequest 63 4095 (some (.device 512 4096 true)), .linkTraining 6 16 true 0xFFFF [] [], .linkTraining 1 1 false 1 [] [], .doorbellWrite 63 65535 true 65535 none] = true := by decide
theorem smoke_nvme_refused : refused [.sequencePoint 16384, .postingDecision 16384, .read 16384, .write 16384 .pass, .writeZeroes 16384, .datasetManagement 16384 true,
    .flush 16384, .abort 16384, .identify 16384, .namespaceAttachment 0 (some 1024), .controllerEnable 64 false false, .controllerReset 64, .shutdownNotification 0 0, .shutdownNotification 0 3,
    .shutdownNotification 64 1, .autonomousPsTransition 5, .sliceCommit 1024, .sliceReset 1024, .dlogHeadWrite 1024 0] = true := by decide +kernel
theorem smoke_media_refused : refused [.galleryWrite { tlp with fn := 64 } [0], .galleryWrite { tlp with offset := 2 ^ 36 } [0], .galleryWrite { tlp with pasid := some (2 ^ 20) } [0], .galleryWrite tlp [],
    .galleryRead tlp 0, .galleryRead tlp 4097, .fence { tlp with fn := 64 }, .fenceCompletion 512, .segmentWriteback 0 0 default, .segmentLoad 1025 0, .suspectRebuild 0 0 true true, .dieOperationSubmit { dieOp with die := 1024 },
    .dieOperationSubmit { dieOp with planes := 0 }, .dieOperationSubmit { dieOp with planes := 7 }, .dieOperationSubmit { dieOp with slice := 1024 }, .dieOperationStart 1024, .junctionSensorRead [50],
    .channelRetrain 32 0 default, .channelRetrain 0 2 default, .channelRetrain 0 0 ⟨0, [32]⟩, .channelInit default [{ (default : ChannelFound) with ch := 32 }], .writeGuardActivate (.temp 1024), .writeGuardClear (.stale 1024), .verifyRead 0 8192 0, .codewordDecode ⟨0, 0, 0, 4⟩ default,
    .scrubVisit 0 [{ (default : ScrubSample) with slot := 4 }], .scrubWindowOpen 4, .scrubWindowClose 4, .keyLoad 4096, .keyGenerate 4096, .keyClear 4096, .rebuildStripe 0 0 0 0 [(1024, 0)], .rebuildStripe 0 0 0 0 [(0, 7)]] = true := by decide +kernel
theorem smoke_core_refused : refused [.bufferRequest 17 1 none false none, .bufferRequest 0 0 none false none, .bufferRequest 0 1 (some 1024) false none, .bufferGrant 5, .bufferShare 0 17 0, .bufferShare 0 0 17,
    .bufferFree 0 17, .bufferFreeChain 0 17, .ringRefill 5, .sramScrub 4 0, .sramScrub (2 ^ 26) 0, .dramRequest { from_ := .ccl, addr := 32, write := none } .clean, .dramRefresh 4 0, .dramRefresh 0 2,
    .patrolScrub 32 .clean, .dramAlert 4, .dramTraining 3 3 false 0 true, .dramTraining 3 1 false 4 true, .dqsOscillatorRead 4 false, .dramRetrain 4, .retireCopyDone 64, .rankPowerDown 0 2, .cutReq req 256,
    .csuProgram { csu with sector := 2048 }, .csuErase { csu with page := 64 }, .wprogram { csu with pair := 4 }, .csuCommandEnd 4 true, .codeStoreReadSuspend 4, .codeStoreEraseResume 4, .wpWrite .a 4 0 0,
    .wpWrite .a 0 64 0, .sealStateWrite req 256, .callSheetRead { req with via := .port 4 }, .callSheetRead { req with index := 65536 }, .describe { req with sub := 256 }, .healthConfirm { req with tag := 256 } 0,
    .fleetSet { req with eid := 256 } 0, .mctpControlMessage true 256, .nvmeMiBasicManagement true 256, .recorderTrigger { code := 64, unit := 0, inst := 0, arg := 0 },
    .recorderTrigger { code := 0, unit := 17, inst := 0, arg := 0 }, .recorderTrigger { code := 0, unit := 0, inst := 65536, arg := 0 }, .reelRead true 1024, .reelRead false 8192, .avsRequest 65536,
    .fwObjectAnswer ⟨0, 256⟩ [], .jtagDebugAccess (.tcm .a 4) 0 none, .tuigorBadMsg { (default : RawMessage) with via := .port 4 }] = true := by decide +kernel
theorem smoke_taken : taken [.read 16383, .datasetManagement 16383 false, .shutdownNotification 63 2, .autonomousPsTransition 4, .sliceCommit 1023, .galleryWrite tlp [0], .galleryRead tlp 4096,
    .fenceCompletion 511, .segmentWriteback 1024 0 default, .codewordDecode ⟨1023, 8191, 4095, 3⟩ default, .dieOperationSubmit dieOp, .junctionSensorRead (List.replicate 8 50), .channelRetrain 31 1 ⟨0, [31]⟩, .rebuildStripe 0 0 0 0 [(1023, 6)], .keyLoad 4095,
    .bufferRequest 16 1 (some 1023) false none, .ringRefill 4, .sramScrub (2 ^ 26 - 8) 0, .patrolScrub 64 .clean, .dramTraining 15 2 true 3 true, .retireCopyDone 63, .csuProgram csu, .cutReq req 255,
    .recorderTrigger { code := 63, unit := 16, inst := 65535, arg := 0 }, .reelRead true 1023, .reelRead false 8191, .tuigorBadMsg { (default : RawMessage) with via := .port 3 }] = true := by decide +kernel

/-- spec/opcode_table.json gives no row any bits: no word spells a command, and the queue stays as it was. -/
theorem test_no_word_spells_a_command : decodeTableWord 8 1 = none ∧ decodeTableWord 0 0 = none := by decide
theorem test_withFetchWord_keeps_state (s : State) (n w : Nat) : s.withFetchWord n w = s := rfl

/-! ## Power, stages and the dump -/

/-- A main rail and VDD_AUX out of range. -/
def dark : State := { late with power := { Power.initial with railsOut := [.aux, .core], unpowered := true } }
/-- A dump at a step. -/
def dumpRun (step : DumpStep) : DumpRun :=
  { thermal := false, armed := false, chg := false, tick := 0, step := step, waited := false, image := { (default : DumpImage) with pages := if step = .journal then 1 else 0 }, begun := [], redo := [] }
def dumping (step : DumpStep) : State := { late with hum := { Hum.initial with state := .dump, dump := some (dumpRun step) } }
/-- After a release: the start counts. -/
def released : State := { late with power := { Power.initial with perst := false, releaseTick := some 0, cfgReady := true } }
/-- A hold of a supply loss or of a thermal trip, past its dump. -/
def holding (loss : Bool) : State := { late with power := { Power.initial with perst := false, lossHeld := loss, tripHeld := !loss, dumpEndTick := some 0, coolSince := some 0 } }

theorem witness_PowerAndAux : Rail.aux ∈ dark.power.railsOut ∧ Rail.aux ∉ late.power.railsOut ∧ late.hum.dump = none ∧ dark.power.unpowered = true ∧
    (objAt 0x1100 3).any (fun o => o.pers == .stored) = true ∧ (objAt 0x1100 0x10).isSome = true := by decide
theorem witness_EventsOfClassOneToThree : hall.power.unpowered = false ∧ hall.power.pwrfail = false ∧ Rail.nand ≠ Rail.aux ∧ Rail.nand ∉ hall.power.railsOut ∧
    hall.power.perst = false ∧ hall.hlu.up = true := by decide
theorem witness_DumpSteps : (dumping .slots).hum.dump = some (dumpRun .slots) ∧ (dumpRun .slots).thermal = false ∧ (dumpRun .slots).waited = false ∧
    (dumping .slots).passed (dumpRun .slots).tick (usTicks ((dumping .slots).obj Ob.DUMP_WAIT_US)) = true ∧ (dumping .slots).othersRun = false ∧
    (dumping .journal).hum.dump = some (dumpRun .journal) ∧ (dumping .journal).headerDue (dumpRun .journal) = true := by decide
theorem witness_Releases : late.power.perst = true ∧ late.power.unpowered = false ∧ late.power.lossHeld = false ∧ late.power.tripHeld = false ∧
    late.power.railsOut = [] ∧ (∀ b, (holding b).power.perst = false ∧ (holding b).hum.dump = none ∧ (holding b).power.unpowered = false ∧
      (holding b).power.railsOut = [] ∧ (holding b).power.lossHeld = b ∧ (holding b).power.tripHeld = !b ∧ (holding b).power.dumpEndTick = some 0 ∧
      (holding b).power.coolSince = some 0 ∧ (holding b).passed 0 (secTicks 1) = true ∧ (holding b).passed 0 (msTicks 10) = true) ∧ released.power.releaseTick = some 0 ∧ hall.inboundHeld = false ∧
    ((hall.arrive 0).cfgReg 0 8).isSome = true ∧
    (Tbl.getD hall.hlu.fns 63 default).flr = false ∧ hall.power.cfgReady = true ∧ { hall with power := late.power }.power.cfgReady = false ∧
    late.passed late.timers.seconds (secTicks 60) = true ∧ hall.power.avsTick = none ∧ 650 % 5 = 0 ∧ 800 % 5 = 0 := by decide
/-- The capabilities' places are free (notes/assumptions/6.md), yet some offset is none of theirs. -/
theorem witness_free_offset : ∃ off, (hall.arrive 0).cfgReg 0 off = none := by
  have key : ∀ (l : List (Nat × Nat)) (n : Nat), (l.map Prod.fst).sum < n → Tbl.find? l n = none := fun l => by
    induction l with
    | nil => exact fun _ _ => rfl
    | cons e l ih =>
      intro n h
      simp only [List.map_cons, List.sum_cons] at h
      rw [Tbl.find?, if_neg (by omega)]
      exact ih n (by omega)
  generalize hs : hall.arrive 0 = s
  generalize hn : ((s.cfgCaps 0).map Prod.fst).sum = n
  refine ⟨n + 0x100, ?_⟩
  unfold State.cfgReg
  split
  all_goals first | omega | exact key _ _ (by omega)
theorem witness_Stages : released.bootReady = true ∧ stair.power.stage = .stair ∧ stair.power.startKind = .undecided ∧ stair.fca.initialised = true ∧
    stair.dmc.trained = true ∧ stair.blankMedia = true ∧ { hall with power := { hall.power with stage := .stair } }.power.mapRestored = true ∧
    hall.power.startKind ≠ .held ∧ hall.qen.rescue.session = false ∧ hall.tbu.resetNow = false := by decide

/-! Takes: 768 bytes laid out as Table 16.6 gives; whether the signature is good is a free value of Config. -/

/-- MAGIC, VERSION 1, TAKE_ID 1, LENGTH 0x300, controller revisions 0 to 0x10, no flags, SVN 0, SCRIPT_VER 0, one section of type 1 at 0x200. -/
def takeBytes : List Byte :=
  (leBytes 4 0x4B549640 ++ leBytes 4 1 ++ leBytes 8 1 ++ leBytes 4 0x300 ++ [0, 0x10] ++ leBytes 2 0 ++ leBytes 4 0 ++ leBytes 2 0 ++ leBytes 2 1)
    ++ List.replicate (0x100 - 0x20) 0 ++ (leBytes 8 1 ++ leBytes 4 0x200 ++ leBytes 4 0x10) ++ List.replicate (0x300 - 0x110) 0
/-- In Stair or Hall with the take in both archive copies and in the staging area, its state as given. -/
def withTake (s : State) (st : Nat) : State := { s with
  csu := { s.csu with arch0 := takeBytes, cfg := { s.csu.cfg with takeState := st } }
  qen := { s.qen with staging := Memory.writeAll 0 [] 0 takeBytes, stagingLen := 768 } }
/-- The fuses and the signature accept the take. -/
def Accepts : Prop := ∀ u : Csu, u.revoked = 0 → u.keyFused ((takeBytes.drop 0x20).take 97) = true ∧
  Config.ecdsaVerify (takeField takeBytes 0x20 97) (takeField takeBytes (takeLength takeBytes - 96) 96) (Config.sha384 (takeBytes.take (takeLength takeBytes - 96))) = true

theorem take_header : (takeField takeBytes 0 4 == 0x4B549640 && takeField takeBytes 4 4 == 1 && takeLength takeBytes % 256 == 0
    && decide (takeLength takeBytes ≤ 16777216) && decide (0x300 ≤ takeLength takeBytes) && decide (takeLength takeBytes ≤ takeBytes.length)
    && decide (1 ≤ takeField takeBytes 0x1E 2) && decide (takeField takeBytes 0x1E 2 ≤ 16) && (List.range (takeField takeBytes 0x1E 2)).all (sectionOk takeBytes)
    && decide (takeField takeBytes 0x14 1 ≤ 0x10) && decide (0x10 ≤ takeField takeBytes 0x15 1)) = true := by decide +kernel
theorem take_verifies (h : Accepts) (u : Csu) (hr : u.revoked = 0) (hs : u.svn = 0) : u.verifies takeBytes = true := by
  have k := take_header
  simp only [Csu.verifies]
  rw [k, (h u hr).1, (h u hr).2, hs]
  rfl
theorem take_archive (h : Accepts) (s : State) (st : Nat) (hr : s.csu.revoked = 0) (hs : s.csu.svn = 0) : (withTake s st).csu.archive = some takeBytes := by
  have k : (withTake s st).csu.verifies (withTake s st).csu.arch0 = true := take_verifies h _ hr hs
  simp only [Csu.archive, k, if_true]
  rfl
theorem witness_StartDecision (h : Accepts) : (withTake stair 0).chooseTake.power.startKind = .undecided ∧ (withTake stair 0).blankMedia = true ∧
    (withTake stair 0).power.stage = .stair ∧ (withTake stair 0).power.startKind = .undecided := by
  refine ⟨?_, rfl, rfl, rfl⟩
  have k := take_archive h stair 0 rfl rfl
  have e : (withTake stair 0).chooseTake = (withTake stair 0).chooseArchive := by
    unfold State.chooseTake
    rw [if_neg (by rintro ⟨h, _⟩; revert h; decide), if_neg (by rintro ⟨h, _⟩; revert h; decide), if_neg (by rintro ⟨h, _⟩; revert h; decide)]
  rw [e]
  unfold State.chooseArchive
  dsimp only
  rw [if_neg (by decide), k]
  rfl
/-! ## Host link -/

/-- The link down again in Stair. -/
def noLink : State := { stair with hlu := Hlu.initial }
/-- A command in context 3 and tag 5 outstanding for 512 bytes of its data, tag 6 quarantined, tag 7 held, tag 8 a translation. -/
def aCtx (st : CtxState) (op : BitVec 8) : Ctx := { (default : Ctx) with
  sqe := { (default : Sqe) with opcode := op, nsid := 1 }, state := st, bytes := 4096 }
def aTag (u : TagUse) (p : TagPhase) : Tag := { use := u, fn := 0, slice := 0, phase := p, since := 0, untranslated := false }
def tagged : State := { hall with
  hlu := { hall.hlu with tags := [(5, aTag (.data 3 0 512) .outstanding), (6, aTag (.data 3 0 512) .quarantined), (7, aTag (.data 3 0 512) .held),
    (8, aTag (.ats none 9) .outstanding), (9, aTag (.fetch 0 1) .outstanding), (10, aTag (.list 3 64) .outstanding)], ptmEn := true, ptmValid := true, ptmLast := some 0 }
  qen := { Qen.initial with ctxs := [(3, aCtx .dataIn 1)] } }
/-- L0p narrowed to 4 lanes while 32 KiB wait. -/
def waiting : State := { hall with hlu := { hall.hlu with l0pWidth := 4, txNow := 32768 } }
/-- The entry to L1 in progress. -/
def entering1 (p : LinkPower) : State := { hall with hlu := { hall.hlu with power := p } }
/-- Function 0 in an FLR. -/
def inFlr : State := { hall with hlu := { hall.hlu with fns := [(0, { busMaster := false, memSpace := false, flr := true, ats := false })], flrTick := [(0, 0)] } }

theorem witness_LinkTrains : (noLink.hlu.up = false ∧ noLink.power.stage ≠ .foyer ∧ noLink.power.releaseTick.isSome = true ∧ 1 ≤ noLink.obj Ob.MAX_RATE ∧
    trainWidth 0x00FF (min 16 (noLink.obj Ob.MAX_WIDTH)) = some (8, false) ∧ trainWidth 0xFF00 (min 16 (noLink.obj Ob.MAX_WIDTH)) = some (8, true)) ∧
    (∃ k < 4, (0xEFF7 : BitVec 16).getLsbD k = false) ∧ (∃ k < 4, (0xEFF7 : BitVec 16).getLsbD (15 - k) = false) ∧
    hall.hlu.up = true ∧ hall.hlu.power = .l0 ∧ hall.hlu.l0pEn = true ∧ hall.objB Ob.L0P_EN = true ∧ 8 ≤ hall.hlu.l0pWidth ∧ { hall.hlu with lowUse := true }.lowUse = true ∧ hall.hlu.l1En = true ∧
    waiting.hlu.up = true ∧ waiting.hlu.power = .l0 ∧ waiting.hlu.payload waiting.hlu.l0pWidth 1 < waiting.linkPending ∧
    { hall.hlu with idleSince := some 0 }.idleSince = some 0 ∧ hall.passed 0 (usTicks (hall.obj Ob.L1_IDLE_US)) = true ∧
    hall.linkIdle = true ∧ (entering1 .toL12).dmc.trained = true ∧ (entering1 .toL12).dmc.queue = [] ∧ { hall with hlu := { hall.hlu with power := .l12 } }.hlu.power ≠ .l0 :=
  ⟨by decide, ⟨3, by decide⟩, ⟨3, by decide⟩, by decide⟩
theorem witness_L1Entries : ∀ p, p = .toL1 ∨ p = .toL11 ∨ p = .toL12 → (entering1 p).hlu.up = true ∧ (entering1 p).linkIdle = true ∧ (entering1 p).hlu.power = p := by
  rintro p (rfl | rfl | rfl) <;> decide
theorem witness_Tags : tagged.inboundHeld = false ∧ Tbl.find? tagged.hlu.tags 5 = some (aTag (.data 3 0 512) .outstanding) ∧
    Tbl.find? tagged.hlu.tags 6 = some (aTag (.data 3 0 512) .quarantined) ∧ Tbl.find? tagged.hlu.tags 7 = some (aTag (.data 3 0 512) .held) ∧
    Tbl.find? tagged.hlu.tags 8 = some (aTag (.ats none 9) .outstanding) ∧ Tbl.find? tagged.qen.ctxs 3 = some (aCtx .dataIn 1) ∧
    (aCtx .dataIn 1).dataIn + 512 ≠ (aCtx .dataIn 1).bytes ∧ tagged.hlu.cplTimeoutUs ≠ 0 ∧ tagged.passed 0 (usTicks tagged.hlu.cplTimeoutUs) = true ∧
    Tbl.find? tagged.hlu.tags 9 = some (aTag (.fetch 0 1) .outstanding) ∧ Tbl.find? tagged.hlu.tags 10 = some (aTag (.list 3 64) .outstanding) ∧ Tbl.find? tagged.hlu.tags 11 = none := by decide
theorem witness_ClassFour : tagged.hlu.up = true ∧ (aCtx .dataIn 2).win = none ∧ (aCtx .dataIn 2).state ≠ .orphan ∧
    (Tbl.getD inFlr.hlu.fns 0 default).flr = true ∧ inFlr.flrReady 0 = true := by decide
theorem witness_LinkErrors : tagged.inboundHeld = false ∧ tagged.hlu.up = true ∧ tagged.hlu.ptmEn = true ∧ tagged.hlu.power = .l0 ∧ tagged.hlu.ptmFails < 2 ∧
    tagged.hlu.ptmValid = true ∧ tagged.passed 0 (msTicks 30) = true ∧ tagged.cfgOpen 0 = true ∧ (0 : Int).natAbs ≤ tagged.obj Ob.STEP_NS := by decide
/-! ## Registers and queues -/

/-- Functions 0 and 1 open; function 0's controller enabled; queue pairs 0 and 1 of slice 0. -/
def openFn : FnCfg := { busMaster := true, memSpace := true, flr := false, ats := false }
def sqA (arr : List Dword) : Sq := { fn := 0, slice := 0, cq := 0, size := 16, base := 0x10000, prio := some .background, head := 0, tail := arr.length, arrivals := arr, cmb := none
                                     untrans := false, placed := false, fetched := false, promoted := false, urgentTurn := false, deleting := false }
def cqA : Cq := { fn := 0, slice := 0, size := 16, base := 0x20000, head := 0, tail := 0, phase := true, untrans := false, vec := 0, ien := true, unsignalled := 1, since := some 0 }
def queued : State := { hall with
  hlu := { hall.hlu with fns := [(0, openFn), (1, openFn)] }
  qen := { hall.qen with ctrls := [(0, { Controller.initial with en := true, rdy := true })], sqs := [(0, sqA [0]), (1, { sqA [0] with prio := some .high })], cqs := [(0, cqA), (1, cqA)] } }
def bindPasid (s : State) : State := { s with sheet := Tbl.put s.sheet (sheetKey 0x8000 3) 1 }
/-- A command in context 3 as it stands. -/
def anIo (op : BitVec 8) (st : CtxState) : Ctx := { (default : Ctx) with sqe := { (default : Sqe) with opcode := op, nsid := 1 }, state := st, bytes := 4096, dataIn := 4096 }
def withCtx (s : State) (c : Nat) (x : Ctx) : State := { s with qen := { s.qen with ctxs := Tbl.put s.qen.ctxs c x } }
def nsA : Namespace := { nsze := 1024, lbaf := 0, granule := 4, keySlot := 0, qlc := false, slice := 0, attached := true, readOnly := false }
/-- Namespace 1 of slice 0 with a key. -/
def mapped : State := { queued with
  mxe := { queued.mxe with nss := [(1, nsA)] }, cdx := { queued.cdx with keys := [(0, 7)] }
  dsc := { queued.dsc with dies := [(0, Die.initial)] }, fca := { queued.fca with part := ⟨4, 400, 928, 3⟩ } }

theorem witness_FieldAccess : Fld.DSC_DIE_SEL.DIE.acc = .rw ∧ Fld.MGP_TP_ERR.BUSY.acc = .rw1c ∧ Fld.TBU_COLL_CNT.COUNT.acc = .rc ∧ Fld.DSC_DIE_SEL.DIE.key 0 0 ≠ Fld.DSC_DIE_SEL.DIE.key 1 0 ∧
    Tbl.find? RegFile.initial.rcPre (Fld.TBU_COLL_CNT.COUNT.key 0 0) = none ∧ Tbl.find? RegFile.initial.rcAdd (Fld.TBU_COLL_CNT.COUNT.key 0 0) = none := by decide
theorem witness_RegisterWrites : hall.epochOk (hall.ccl.epoch.setWidth 8) = true ∧ hall.epochOk 0x55 = false ∧ noLink.postedHeld = true ∧
    queued.postedHeld = false ∧ queued.fnOpen 1 = true ∧ queued.fnOpen 64 = false ∧ noLink.inboundHeld = true ∧ queued.inboundHeld = false := by decide
theorem witness_Doorbells : queued.postedHeld = false ∧ noLink.postedHeld = true ∧ queued.fnOpen 0 = true ∧ queued.fnOpen 64 = false ∧ queued.queueKey 0 1 = some 0 ∧ queued.queueKey 1 5 = none ∧
    Tbl.find? queued.qen.sqs 0 = some (sqA [0]) ∧ queued.pasidDiffers 0 0 none = false ∧ Tbl.find? queued.qen.cqs 0 = some cqA ∧
    (bindPasid queued).pasidDiffers 0 0 (some 9) = true ∧ Tbl.find? (bindPasid queued).qen.sqs 0 = some (sqA [0]) ∧ (bindPasid queued).queueKey 0 1 = some 0 ∧
    (bindPasid queued).fnOpen 0 = true ∧ (bindPasid queued).postedHeld = false ∧ (sqA [0]).size = 16 := by decide
/-- The fetch read of queue 0 outstanding under tag 9. -/
def fetching : State := { queued with hlu := { queued.hlu with tags := [(9, aTag (.fetch 0 1) .outstanding)] } }
/-- Queue 0 alone, its base in function 0's Controller Memory Buffer (window 7, 2 MiB). -/
def cmbSq : Sq := { sqA [0] with cmb := some 0 }
def inCmb : State := { queued with
  qen := { queued.qen with sqs := [(0, cmbSq)] }
  gal := { queued.gal with active := [(7, { Window.initial with ctl := 0x88000000, size := 1 })] } }
/-- Function 0 translates, and nothing is translated yet. -/
def unmapped : State := { queued with hlu := { queued.hlu with fns := [(0, { openFn with ats := true })] } }
theorem witness_Fetches : queued.winnerSq = some (.high, 1, { sqA [0] with prio := some .high }) ∧ ({ sqA [0] with prio := some .high } : Sq).cmb = none ∧
    queued.hlu.pageOk 0 (queued.dmaPasid ((sqA [0]).chargedTo 1)) ((sqA [0]).nextAddr / 4096) false = true ∧ queued.nextTag = some 0 ∧
    Tbl.find? fetching.qen.sqs 0 = some (sqA [0]) ∧ fetching.sqOn 0 (sqA [0]) = true ∧ fetching.ctxRoom 0 (sqA [0]) = true ∧ fetching.inboundHeld = false ∧
    Tbl.find? fetching.hlu.tags 9 = some (aTag (.fetch 0 1) .outstanding) ∧
    Tbl.find? inCmb.qen.sqs 0 = some cmbSq ∧ inCmb.sqOn 0 cmbSq = true ∧ inCmb.ctxRoom 0 cmbSq = true ∧ inCmb.winnerSq = some (.background, 0, cmbSq) ∧
    inCmb.cmbEntries cmbSq 0 (inCmb.qen.turnEntries 0 cmbSq) = [Sqe.ofNat 0] ∧
    unmapped.winnerSq = some (.high, 1, { sqA [0] with prio := some .high }) ∧
    unmapped.hlu.pageOk 0 (unmapped.dmaPasid ((sqA [0]).chargedTo 1)) ((sqA [0]).nextAddr / 4096) false = false ∧
    Tbl.has queued.qen.ctxs 0 = false ∧ queued.qen.freed = [] ∧ hall.winnerSq = none ∧ (sqA [0]).promoted = false ∧ queued.sqClass (sqA [0]) = .background ∧
    queued.waited (sqA [0]) (queued.obj Ob.QEN_AGE_BKG_US) = true ∧ Tbl.find? queued.qen.sqs 1 = some { sqA [0] with prio := some .high } ∧
    queued.sqClass { sqA [0] with prio := some .high } = .high ∧ queued.waited { sqA [0] with prio := some .high } (queued.obj Ob.AGE_HIGH_US) = true := by decide +kernel
theorem witness_Posting : Tbl.find? (withCtx queued 3 (anIo 2 .ready)).qen.ctxs 3 = some (anIo 2 .ready) ∧ (anIo 2 .ready).win = none ∧
    (withCtx queued 3 (anIo 2 .ready)).cqOf (anIo 2 .ready) = some (0, cqA) ∧ (withCtx queued 3 (anIo 2 .ready)).mayPost (anIo 2 .ready) cqA = true ∧
    (withCtx unmapped 3 (anIo 2 .ready)).cqOf (anIo 2 .ready) = some (0, cqA) ∧ (withCtx unmapped 3 (anIo 2 .ready)).mayPost (anIo 2 .ready) cqA = false ∧
    (withCtx unmapped 3 (anIo 2 .ready)).cqPageOk (anIo 2 .ready) cqA = false ∧ (anIo 2 .ready).bmeStall = false ∧
    (withCtx queued 3 { anIo 2 .ready with bmeStall := true }).mayPost { anIo 2 .ready with bmeStall := true } cqA = false ∧
    cqA.unsignalled ≠ 0 ∧ queued.passed 0 (usTicks (100 * (queued.qen.ctrl 0).coalTime)) = true ∧ queued.busMaster 0 = true := by decide

def entering (r : PsRequest) (ws : List PsRequest) : State := withCtx { hall with qen := { hall.qen with entryPend := some r, psWaiting := ws } } 3
  { anIo 0x09 .fetched with admin := true, accepted := true }
theorem witness_PowerStateRequests : hall.qen.entryPend = none ∧ (entering ⟨3, none⟩ []).qen.entryPend = some ⟨3, none⟩ ∧ (entering ⟨3, none⟩ []).noCommands = true ∧
    (entering ⟨3, none⟩ []).ioArrived = false ∧ (entering ⟨3, none⟩ []).dsc.quiet = true ∧ (entering ⟨3, some 3⟩ []).noCommands = true ∧
    (Tbl.find? (entering ⟨3, some 3⟩ []).qen.ctxs 3).isSome = true ∧ (entering ⟨3, none⟩ [⟨1, none⟩]).noCommands = true ∧
    { queued with qen := { queued.qen with entryPend := some ⟨3, none⟩ } }.ioArrived = true ∧
    { hall with qen := { hall.qen with ps := 4, exitSince := some 0 } }.qen.exitSince.isSome = true ∧ 3 ≤ { hall with qen := { hall.qen with ps := 4, exitSince := some 0 } }.qen.ps := by decide

/-! ## I/O commands -/

def mappedIo (op : BitVec 8) (st : CtxState) : State := withCtx mapped 3 (anIo op st)
/-- A Read of the same namespace one block past its end, of 513 blocks of 4,096 B, and with no key. -/
def wide (op : BitVec 8) (slba nlb : Word) : Ctx := { anIo op .fetched with sqe := { (default : Sqe) with opcode := op, nsid := 1, cdw10 := slba, cdw12 := nlb } }

/-- Requests wait in every pool; and buffer 0 poisoned. -/
def fullBufs (s : State) : State := { s with bpm := { s.bpm with pools := s.bpm.pools.map fun p => { p with waiters := [default] } } }
def badBuf (s : State) : State := { s with bpm := { s.bpm with descs := [(0, { (default : BufDesc) with poison := true })] } }

theorem witness_RefusedReadsAndWrites : (mappedIo 2 .fetched).ioCtx 3 0x02 [.fetched, .lookup] = some (anIo 2 .fetched) ∧
    (mappedIo 1 .fetched).ioCtx 3 0x01 [.fetched] = some (anIo 1 .fetched) ∧ (withCtx queued 3 (anIo 2 .fetched)).ownNs (anIo 2 .fetched) = none ∧
    mapped.ownNs (wide 2 1024 0) = some nsA ∧ nsA.nsze < slbaOf (wide 2 1024 0).sqe + nlbOf (wide 2 1024 0).sqe ∧
    { mapped with cdx := queued.cdx }.nsKey nsA = none ∧ (mapped.nsKey nsA).isSome = true ∧ { mapped with mxe := { mapped.mxe with readOnly := true } }.mxe.readOnly = true ∧
    slbaOf (wide 2 0 1023).sqe + nlbOf (wide 2 0 1023).sqe ≤ nsA.nsze ∧ 2 * 2 ^ 20 < nlbOf (wide 2 0 1023).sqe * { nsA with lbaf := 2 }.lbaBytes ∧
    (withCtx mapped 3 (wide 2 0 1023)).ioCtx 3 0x02 [.fetched, .lookup] = some (wide 2 0 1023) ∧
    (withCtx mapped 3 { anIo 2 .fetched with status := stInvalidField }).ioCtx 3 0x02 [.fetched, .lookup] = some { anIo 2 .fetched with status := stInvalidField } ∧ stInvalidField ≠ 0 := by decide
theorem witness_ReadsLookUp : (anIo 2 .fetched).win = none ∧ (anIo 2 .fetched).status = 0 ∧ (anIo 2 .fetched).list = none ∧
    mapped.rangeRefusal nsA (slbaOf (anIo 2 .fetched).sqe) (nlbOf (anIo 2 .fetched).sqe) false = none ∧
    nlbOf (anIo 2 .fetched).sqe * nsA.lbaBytes ≤ 2 * 2 ^ 20 ∧ (mappedIo 2 .fetched).ownNs (anIo 2 .fetched) = some nsA ∧ mapped.mxe.merging 1 0 0 = false ∧
    mapped.mxe.stageSlot 1 0 0 = none ∧ segKey 1 0 ∉ mapped.mxe.unloaded ∧ (mapped.mxe.entry 1 0).flags = .unmapped ∧
    (mappedIo 2 .fetched).dataMayGo (anIo 2 .fetched) = true ∧ ((mappedIo 2 .fetched).hlu.fn 0).ats = false ∧ (mappedIo 2 .fetched).dlogOn 0 = false ∧
    (((mappedIo 1 .fetched).takeBufs UnitNo.qen (some 0) (pieceSizes 4096) none).isSome = true) ∧
    (((fullBufs (mappedIo 1 .fetched)).takeBufs UnitNo.qen (some 0) (pieceSizes 4096) none).isNone = true) ∧
    mapped.rangeRefusal nsA (slbaOf (anIo 1 .fetched).sqe) (nlbOf (anIo 1 .fetched).sqe) true = none := by decide +kernel
theorem witness_SequencePoints : (mappedIo 1 .lookup).ioCtx 3 0x01 [.lookup] = some (anIo 1 .lookup) ∧ (mappedIo 1 .lookup).ownNs (anIo 1 .lookup) = some nsA ∧
    (mappedIo 1 .lookup).bpm.poisonedBufs (anIo 1 .lookup).bufs = false ∧ (mappedIo 1 .lookup).seqMay (anIo 1 .lookup) nsA = true ∧ (mappedIo 1 .lookup).dsnTurn 3 = true ∧
    (mappedIo 1 .lookup).rangeRefusal nsA 0 1 true = none ∧ (mappedIo 1 .lookup).seqMay { anIo 1 .lookup with dataIn := 0 } nsA = false ∧
    { mapped with mxe := { mapped.mxe with seqLast := some 3 } }.dsnTurn 3 = false ∧ (badBuf (mappedIo 1 .lookup)).bpm.poisonedBufs [0] = true := by decide
def onNand (p : Nat) : State := { mapped with mxe := { mapped.mxe with writes := [(5, { ctx := none, bufs := [], pend := p, grans := 0, nsid := 1, posted := true, prot := false })] } }
def flushing (p : Nat) : State := withCtx (onNand p) 3 { anIo 0 .fetched with waits := [5] }
/-- A Dataset Management that deallocates, its one range (LBAs 0 to 7) in stage buffer 0. -/
def dsm : Ctx := { anIo 9 .lookup with sqe := { (anIo 9 .lookup).sqe with cdw11 := 4 }, bytes := 16, bufs := [0] }
def dsmIn : State := { withCtx mapped 3 dsm with bpm := { mapped.bpm with sram := Memory.writeAll 0 [] 0 (leBytes 16 (2 ^ 32 * 8)) } }
theorem witness_Trims : (mappedIo 8 .fetched).ioCtx 3 0x08 [.fetched, .lookup] = some (anIo 8 .fetched) ∧ (mappedIo 8 .fetched).dsnTurn 3 = true ∧
    (mappedIo 8 .fetched).tablesRoom 1 ((⟨0, 4096⟩ : Extent).partials nsA) ((⟨0, 4096⟩ : Extent).partials nsA).length = true ∧ (mappedIo 8 .fetched).dlogStalled 0 = false ∧
    dsmIn.ioCtx 3 0x09 [.fetched, .lookup] = some dsm ∧ dsm.sqe.cdw11.getLsbD 2 = true ∧ dsmIn.ownNs dsm = some nsA ∧ dsmIn.dsmRanges dsm = [(0, 8)] ∧
    (mappedIo 9 .fetched).ioCtx 3 0x09 [.fetched, .lookup] = some (anIo 9 .fetched) ∧ (mappedIo 9 .lookup).ioCtx 3 0x09 [.fetched, .lookup] = some (anIo 9 .lookup) ∧
    (anIo 9 .lookup).sqe.cdw11.getLsbD 2 = false ∧ (((mappedIo 9 .fetched).takeBufs UnitNo.qen (some 0) (pieceSizes 4096) none).isSome = true) ∧
    mapped.rangeRefusal nsA 0 8 true = none ∧
    (∀ p, p < 2 → (flushing p).ioCtx 3 0x00 [.fetched] = some { anIo 0 .fetched with waits := [5] } ∧ ((flushing p).ownNs (anIo 0 .fetched)).isSome = true) := by decide +kernel
/-! ## Admin commands -/

/-- An admin command in context 3 with its dwords 10 and 11. -/
def anAdmin (op : BitVec 8) (nsid d10 d11 : Word) : Ctx := { (default : Ctx) with
  sqe := { (default : Sqe) with opcode := op, cid := 7, nsid := nsid, cdw10 := d10, cdw11 := d11 }
  state := .fetched, admin := true, sqid := 4096 }
/-- The tenth of the queues of slice 0 taken; the namespace of `mapped`; a command to catch in context 4. -/
def adminS (x : Ctx) : State := withCtx mapped 3 x
def withEvent (x : Ctx) : State := { adminS x with qen := { (adminS x).qen with ctrls := [(0, { Controller.initial with en := true, events := [⟨1, 2, 2⟩] })] } }
def openStair (x : Ctx) : State := { adminS x with power := stair.power }

theorem adminS_adminCtx (op : BitVec 8) (nsid a b : Word) : (adminS (anAdmin op nsid a b)).adminCtx 3 op = some (anAdmin op nsid a b) := by
  simp only [State.adminCtx, adminS, withCtx]
  rw [Tbl.find?_put_same]
  exact if_pos ⟨rfl, rfl, rfl, rfl, rfl⟩
theorem witness_CommandsOutside : (anAdmin 0xFF 0 0 0).sqe.opcode.toNat ∉ adminOpcodes ∧ (anIo 0xFF .fetched).sqe.opcode.toNat ∉ ioOpcodes ∧ (anAdmin 0xFF 0 0 0).win = none ∧ (anAdmin 0xFF 0 0 0).bmeStall = false ∧
    cdwBits (anAdmin 0x09 0 0x7F 0).sqe.cdw10 7 0 ∉ setFids ∧ cdwBits (anAdmin 0x10 0 0 0).sqe.cdw10 5 3 = 0 ∧
    Tbl.find? (adminS (anAdmin 0xFF 0 0 0)).qen.ctxs 3 = some (anAdmin 0xFF 0 0 0) ∧ (openStair (anAdmin 0x08 0 0 0)).power.stage ≠ .hall ∧
    (openStair (anAdmin 0x08 0 0 0)).power.adminOpen = true ∧ (openStair (anAdmin 0x08 0 0 0)).adminCtx 3 0x08 = some (anAdmin 0x08 0 0 0) := by decide
/-- 32 Aborts fetched before the one in context 100. -/
def lastAbort : Ctx := { anAdmin 0x08 0 0 0 with fetchOrd := 9 }
def manyAborts : State := withCtx ((List.range 32).foldl (fun s k => withCtx s k (anAdmin 0x08 0 0 0)) mapped) 100 lastAbort
theorem witness_Aborts : (adminS (anAdmin 0x08 0 0x00070001 0)).adminCtx 3 0x08 = some (anAdmin 0x08 0 0x00070001 0) ∧ mapped.power.stage = .hall ∧
    (adminS (anAdmin 0x08 0 0x00070001 0)).namedQueue (anAdmin 0x08 0 0x00070001 0) = some 0 ∧
    (∀ e ∈ (adminS (anAdmin 0x08 0 0x00070001 0)).qen.ctxs, ¬(e.2.sqid = 0 ∧ e.2.sqe.cid.toNat = 7)) ∧ manyAborts.adminCtx 100 0x08 = some lastAbort ∧ manyAborts.power.stage = .hall ∧
    (manyAborts.qen.ctxs.filter fun e => e.2.admin && e.2.sqe.opcode == 0x08 && e.2.fn == 0 && decide (e.2.fetchOrd < 9)).length = 32 ∧
    ((withCtx (adminS (anAdmin 0x08 0 0x00000001 0)) 4 (anIo 2 .media)).qen.ctxs.find? fun e => e.2.sqid == 0 && e.2.sqe.cid.toNat == 0
      && (withCtx (adminS (anAdmin 0x08 0 0x00000001 0)) 4 (anIo 2 .media)).catchable e.1 e.2) = some (4, anIo 2 .media) := by decide +kernel
theorem witness_QueueCommands : (adminS (anAdmin 0x01 0 0x000F0005 0x00010001)).adminCtx 3 0x01 = some (anAdmin 0x01 0 0x000F0005 0x00010001) ∧
    mapped.queueNo 0 5 = some (4, 0) ∧ Tbl.has mapped.qen.sqs 4 = false ∧ mapped.queueNo 0 1 = some (0, 0) ∧ Tbl.has mapped.qen.cqs 0 = true ∧ (0x00010001 : Word).getLsbD 0 = true ∧
    Tbl.has mapped.qen.cqs 4 = false ∧ mapped.vectorOk 0 1 = true ∧ mapped.vectorOk 0 65535 = false ∧ (0xFFFF0003 : Word).getLsbD 1 = true ∧ mapped.queueNo 0 4096 = none ∧ cdwBits (0x000F0005 : Word) 31 16 = 15 ∧
    (adminS (anAdmin 0x04 0 2 0)).adminCtx 3 0x04 = some (anAdmin 0x04 0 2 0) ∧ (adminS (anAdmin 0x04 0 2 0)).namedQueue (anAdmin 0x04 0 2 0) = some 1 ∧ Tbl.has mapped.qen.cqs 1 = true ∧
    (∀ e ∈ mapped.qen.sqs, e.2.cq ≠ 1) ∧ (0, sqA [0]) ∈ mapped.qen.sqs ∧ (sqA [0]).cq = 0 ∧
    (adminS (anAdmin 0x00 0 2 0)).adminCtx 3 0x00 = some (anAdmin 0x00 0 2 0) ∧ Tbl.has mapped.qen.sqs 1 = true ∧ (∀ e ∈ (adminS (anAdmin 0x00 0 2 0)).qen.ctxs, e.2.admin = false → e.2.sqid ≠ 1) ∧
    (4, anIo 1 .sequenced) ∈ (withCtx (adminS (anAdmin 0x00 0 1 0)) 4 (anIo 1 .sequenced)).qen.ctxs ∧
    (∀ e ∈ (withCtx (adminS (anAdmin 0x00 0 1 0)) 4 (anIo 1 .sequenced)).qen.ctxs, e.2.sqid = 0 → (withCtx (adminS (anAdmin 0x00 0 1 0)) 4 (anIo 1 .sequenced)).catchable e.1 e.2 = false) := by decide
theorem witness_IdentifyLogs : (adminS (anAdmin 0x06 1 0 0)).adminCtx 3 0x06 = some (anAdmin 0x06 1 0 0) ∧ mapped.mxe.ns? 1 = some nsA ∧ nsA.nsze < 2 ^ 64 ∧ nsA.attached = true ∧
    mapped.sliceOn nsA.slice 0 = true ∧ ((adminS (anAdmin 0x06 1 0 0)).identifyData (anAdmin 0x06 1 0 0)).isSome = true ∧ (anAdmin 0x06 1 0 0).status = 0 ∧ (anAdmin 0x06 1 0 0).list = none ∧
    ((adminS (anAdmin 0x06 1 0 0)).hlu.fn 0).ats = false ∧ (adminS (anAdmin 0x06 1 0 0)).hlu.ready = true ∧
    (adminS { anAdmin 0x06 1 0 0 with status := stInvalidField }).adminCtx 3 0x06 = some { anAdmin 0x06 1 0 0 with status := stInvalidField } ∧
    cdwBits (anAdmin 0x06 0 1 0).sqe.cdw10 7 0 = 1 ∧ ((adminS (anAdmin 0x06 0 0xFF 0)).identifyData (anAdmin 0x06 0 0xFF 0)) = none ∧
    (adminS (anAdmin 0x02 0 0x00010001 0)).adminCtx 3 0x02 = some (anAdmin 0x02 0 0x00010001 0) ∧ ((adminS (anAdmin 0x02 0 1 0)).logPage (anAdmin 0x02 0 1 0) 1).isSome = true ∧
    (anAdmin 0x02 0 1 0).bytes ≤ 2 * 2 ^ 20 ∧ (adminS (anAdmin 0x02 0 0x7F 0)).logPage (anAdmin 0x02 0 0x7F 0) 0x7F = none ∧
    (openStair (anAdmin 0x02 0 2 0)).power.stage = .stair ∧ (openStair (anAdmin 0x02 0 2 0)).power.adminOpen = true ∧
    (adminS (anAdmin 0x0A 0 2 0)).adminCtx 3 0x0A = some (anAdmin 0x0A 0 2 0) ∧ (adminS (anAdmin 0x0A 0 2 0)).featureOf 0 2 = some 0 ∧ (adminS (anAdmin 0x0A 0 2 0)).featureOf 0 0x7F = none := by decide +kernel
/-- A Set Features of Autonomous Power State Transition whose 256-byte table has come. -/
def apst : Ctx := { anAdmin 0x09 0 0x0C 1 with state := .lookup, bytes := 256, dataIn := 256, bufs := [0] }
def apstS : State := adminS apst
theorem witness_SetFeatures : (∀ d, (adminS (anAdmin 0x09 0 d 0)).adminCtx 3 0x09 = some (anAdmin 0x09 0 d 0)) ∧
    ((adminS (anAdmin 0x09 0 2 0)).power.stage = .hall ∧ (adminS (anAdmin 0x09 0 2 0)).qen.entryPend = none ∧ cdwBits (4 : Word) 4 0 = 4 ∧
    cdwBits (0x01000200 : Word) 31 16 < cdwBits (0x01000200 : Word) 15 0 ∧ cdwBits (0 : Word) 31 16 = 0 ∧
    apstS.apstCtx 3 = some apst) ∧ (((adminS (anAdmin 0x09 0 0x0C 1)).takeBufs UnitNo.qen none (pieceSizes 256) none).isSome = true) :=
  ⟨fun _ => adminS_adminCtx _ _ _ _, by decide, by decide +kernel⟩
theorem witness_EventRequests : mapped.power.stage = .hall ∧ (adminS (anAdmin 0x0C 0 0 0)).adminCtx 3 0x0C = some (anAdmin 0x0C 0 0 0) ∧ (mapped.qen.ctrl 0).events = [] ∧
    (withEvent (anAdmin 0x0C 0 0 0)).adminCtx 3 0x0C = some (anAdmin 0x0C 0 0 0) ∧ ((withEvent (anAdmin 0x0C 0 0 0)).qen.ctrl 0).events = [⟨1, 2, 2⟩] ∧
    (((List.range 16).foldl (fun s k => withCtx s (20 + k) { anAdmin 0x0C 0 0 0 with accepted := true }) (adminS (anAdmin 0x0C 0 0 0))).qen.ctxs.filter
      fun e => e.2.admin && e.2.accepted && e.2.sqe.opcode == 0x0C && e.2.fn == 0).length = 16 := by decide +kernel
def specA : NamespaceSpec := { nsze := 8, lbaf := 0, granule := 4, keySlot := 0, cellQlc := false }
theorem witness_Namespaces : (adminS (anAdmin 0x0D 0 0 0)).adminCtx 3 0x0D = some (anAdmin 0x0D 0 0 0) ∧ Tbl.has mapped.mxe.nss 2 = false ∧
    (∀ j, 1 ≤ j → j < 2 → Tbl.has mapped.mxe.nss j = true) ∧
    mapped.capacityOk (Tbl.put mapped.mxe.nss 2 { nsze := 8, lbaf := 0, granule := 4, keySlot := 0, qlc := false, slice := 0, attached := false, readOnly := false }) = true ∧
    (adminS (anAdmin 0x0D 1 1 0)).namedNss 1 = [(1, nsA)] ∧ (adminS (anAdmin 0x15 1 0 0)).adminCtx 3 0x15 = some (anAdmin 0x15 1 0 0) ∧
    Tbl.find? (adminS (anAdmin 0x15 1 0 0)).mxe.nss 1 = some nsA ∧ Tbl.find? (adminS (anAdmin 0x15 9 0 0)).mxe.nss 9 = none ∧ (adminS (anAdmin 0x0D 9 1 0)).namedNss 9 = [] ∧ cdwBits (1 : Word) 3 0 = 1 ∧ 2 ≤ cdwBits (2 : Word) 3 0 :=
  ⟨by decide, by decide, fun j h k => by obtain rfl : j = 1 := (by omega); decide, by decide +kernel, by decide⟩
theorem witness_FormatAndSanitize : ((adminS (anAdmin 0x80 1 0x400 0)).adminCtx 3 0x80 = some (anAdmin 0x80 1 0x400 0) ∧ (adminS (anAdmin 0x80 1 0x400 0)).namedNss 1 = [(1, nsA)] ∧
    nsA.lbaf = cdwBits (0x400 : Word) 3 0 ∧ cdwBits (0x400 : Word) 11 9 = 2 ∧ cdwBits (0x200 : Word) 11 9 = 1) ∧
    (∀ d, (adminS (anAdmin 0x84 0 d 0)).adminCtx 3 0x84 = some (anAdmin 0x84 0 d 0)) ∧ cdwBits (2 : Word) 2 0 = 2 ∧ cdwBits (4 : Word) 2 0 = 4 :=
  ⟨by decide, fun _ => adminS_adminCtx _ _ _ _, by decide⟩
theorem witness_Controllers : (mapped.qen.ctrl 0).en = true ∧ (mapped.qen.ctrl 1).en = false := by decide
/-! ## Takes, rescue, code store, clusters -/

def withTakeState (s : State) (st : Nat) : State := { s with csu := { s.csu with cfg := { s.csu.cfg with takeState := st } } }
def draining (st : ClusterState) : State := { hall with qen := { hall.qen with act := .draining }, ccl := { hall.ccl with stB := st } }
def deadline : State := { hall with sheet := [(sheetKey Ob.ACT_DEADLINE.idx Ob.ACT_DEADLINE.sub, 5)], tbu := { hall.tbu with fleet := 5 } }
def fallingBack : State := { hall with csu := { hall.csu with fallback := some .draining } }

theorem witness_FirmwareCommands (h : Accepts) : (adminS (anAdmin 0x11 0 1023 1024)).adminCtx 3 0x11 = some (anAdmin 0x11 0 1023 1024) ∧
    (((anAdmin 0x11 0 1023 1024).sqe.cdw10.toNat + 1) * 4 % 4096 = 0 ∧ (anAdmin 0x11 0 1023 1024).sqe.cdw11.toNat * 4 % 4096 = 0) ∧
    (∀ d, (adminS (anAdmin 0x10 0 d 0)).adminCtx 3 0x10 = some (anAdmin 0x10 0 d 0)) ∧ (mapped.power.stage = .hall ∧
    (cdwBits (0x08 : Word) 5 3 = 1 ∧ cdwBits (0x08 : Word) 2 0 = 0 ∧ cdwBits (0x12 : Word) 5 3 = 2 ∧ cdwBits (0x12 : Word) 2 0 = 2 ∧ cdwBits (0x11 : Word) 5 3 = 2 ∧
      cdwBits (0x11 : Word) 2 0 = 1 ∧ cdwBits (0x18 : Word) 5 3 = 3 ∧ cdwBits (0x1B : Word) 5 3 = 3 ∧ cdwBits (0x1B : Word) 2 0 = 3) ∧
    ((withTakeState mapped 1).fwProhibited = false ∧ (withTakeState mapped 1).qen.stagingLen = 0 ∧ (withTakeState mapped 1).csu.cfg.takeState = 1) ∧
    takeScript (withTakeState mapped 1).csu.bankTake = (withTakeState mapped 1).csu.runScript ∧
    (withTakeState mapped 2).fwProhibited = true ∧ (withTake mapped 1).fwProhibited = false ∧ (withTake mapped 1).qen.stagingLen ≠ 0) ∧
    (withTake mapped 1).fwImage (anAdmin 0x10 0 0x12 0) = some takeBytes ∧ takeScript takeBytes = mapped.csu.runScript ∧
    takeScript takeBytes ≠ { mapped with csu := { mapped.csu with runScript := 1 } }.csu.runScript := by
  refine ⟨adminS_adminCtx _ _ _ _, by decide, fun _ => adminS_adminCtx _ _ _ _, by decide +kernel, ?_, by decide +kernel⟩
  unfold State.fwImage
  rw [if_pos (by decide)]
  exact take_archive h mapped 1 rfl rfl
/-- An erased archive passes no check. -/
theorem noArchive (u : Csu) (h0 : u.arch0 = []) (h1 : u.arch1 = []) : u.archive = none := by
  have k : u.verifies [] = false := by
    have e : (takeField [] 0 4 == 0x4B549640) = false := by decide
    simp [Csu.verifies, e]
  simp [Csu.archive, h0, h1, k]
theorem witness_Activations (h : Accepts) : ((withTakeState hall 1).csu.cfg.takeState = 1 ∧ (withTakeState hall 1).qen.act = .none ∧
    takeScript (withTakeState hall 1).csu.bankTake = (withTakeState hall 1).csu.runScript ∧
    (draining .standby).standbyReady = true ∧ (draining .failed).standbyReady = false ∧ (draining .failed).ccl.gap = none ∧ (draining .standby).qen.ctxs = [] ∧
    deadline.obj Ob.ACT_DEADLINE ≠ 0 ∧ deadline.obj Ob.ACT_DEADLINE ≤ deadline.tbu.fleet.toNat ∧
    (withTake stair 2).passedSome (withTake stair 2).power.bootTick (secTicks 60 + msTicks (withTake stair 2).hallBoundMs) = true) ∧
    (withTake stair 2).csu.cfg.takeState = 2 ∧ (withTake stair 2).csu.archive = some takeBytes ∧ (withTakeState stair 2).csu.archive = none ∧
    (withTake { hall with csu := { hall.csu with window := some 0 } } 2).passedSome (some 0) (secTicks (hall.obj Ob.CONFIRM_S)) = true ∧
    fallingBack.csu.fallback = some .draining ∧ fallingBack.ccl.gap = none ∧ fallingBack.qen.ctxs = [] :=
  ⟨by decide +kernel, rfl, take_archive h stair 2 rfl rfl, noArchive _ rfl rfl, by decide, rfl, rfl, rfl⟩

/-- A rescue task in Stair, with ARG0 and ARG1. -/
def rescuing (t : RescueTask) (a0 a1 : Nat) : State := { stair with
  qen := { stair.qen with rescue := { stair.qen.rescue with busy := true, open_ := true, session := true, task := some t } }
  regf := { stair.regf with vals := [(Fld.QEN_RSC_ARG0.VALUE.key 0 0, a0), (Fld.QEN_RSC_ARG1.VALUE.key 0 0, a1)] } }
def rescueOpen : State := { stair with qen := { stair.qen with rescue := { stair.qen.rescue with open_ := true } } }
theorem witness_Rescue (h : Accepts) : (rescuing .load 65536 65536).qen.rescue.busy = true ∧ rescueOpen.qen.rescue.busy = false ∧ rescueOpen.qen.rescue.open_ = true ∧
    rescueOpen.power.stage = .stair ∧ rescueOpen.csu.sealSt ≠ 2 ∧ rescueOpen.qen.rescue.task = none ∧ (rescuing .ident 0 0).qen.rescue.task = some .ident ∧
    (rescuing .load 65536 65536).fld Fld.QEN_RSC_ARG0.VALUE = 65536 ∧ (rescuing .load 65536 65536).fld Fld.QEN_RSC_ARG1.VALUE = 65536 ∧
    { rescuing .load 0 1 with power := hall.power }.power.stage ≠ .stair ∧ { rescuing .load 0 1 with csu := { stair.csu with sealSt := 2 } }.csu.sealSt = 2 ∧
    (rescuing .commit 768 0).csu.sealSt ≠ 2 ∧ (rescuing .commit 768 0).fld Fld.QEN_RSC_ARG0.VALUE = 768 ∧
    (withTake (rescuing .commit 768 0) 1).csu.verifies (Memory.readN 0 (withTake (rescuing .commit 768 0) 1).qen.staging 0 768) = true ∧
    (withTake (rescuing .restore 0 0) 1).csu.verifies ((withTake (rescuing .restore 0 0) 1).csu.archCopy 0) = true := by
  refine ⟨rfl, rfl, rfl, rfl, by decide, rfl, rfl, by decide, by decide, by decide, rfl, by decide, by decide, ?_, take_verifies h _ rfl rfl⟩
  have e : Memory.readN 0 (withTake (rescuing .commit 768 0) 1).qen.staging 0 768 = takeBytes := by decide +kernel
  rw [e]; exact take_verifies h _ rfl rfl

/-- A bank of the code store at work. -/
def banking (op : FlashOp) (w : Bool) : State := { stair with csu := { stair.csu with banks := [(3, { cluster := some .a, op := op, suspended := false, readAt := 0, window := w })] } }
def csuReq (n : Nat) : CsuRequest := { cluster := .a, pair := 0, epoch := 1, sector := n, page := 63, fetchAt := 0 }
theorem witness_CodeStore : stair.epochOk 1 = true ∧ (csuReq 1535).sector < 1536 ∧ (csuReq 62).sector < 63 ∧ stair.slideHolds 62 = false ∧ (csuReq 1535).page < 64 ∧
    fetchBank (csuReq 1535).fetchAt ≠ some (1535 / 512) ∧ stair.csu.wp.getLsbD 1535 = false ∧ Tbl.has stair.csu.banks 2 = false ∧ stair.csu.banks.length < 2 ∧ Tbl.has (banking (.erase 1600) true).csu.banks 3 = true ∧ (csuReq 1536).sector = 1536 ∧ stair.epochOk 0 = false ∧
    (1#2048 <<< 1535).getLsbD 1535 = true ∧ Tbl.find? (banking (.program 0x2000000 [1, 2]) false).csu.banks 3 =
      some { cluster := some .a, op := .program 0x2000000 [1, 2], suspended := false, readAt := 0, window := false } ∧
    Tbl.find? (banking (.erase 1600) true).csu.banks 3 = some { cluster := some .a, op := .erase 1600, suspended := false, readAt := 0, window := true } ∧
    { banking (.erase 48) false with csu := { (banking (.erase 48) false).csu with suspTicks := msTicks 10 } }.csu.suspTicks = msTicks 10 := by decide +kernel
theorem witness_LoaderProtection : stair.epochOk (csuReq 0).epoch = true ∧ stair.csu.sealSt = 0 ∧ { stair.csu with sealSt := 1 }.sealSt ≠ 0 ∧
    { stair.csu with sealSt := 1, session := true }.session = true ∧ stair.csu.slide = none ∧ 1024 ≤ { stair.csu with winErases := 1024 }.winErases ∧
    Tbl.has stair.csu.banks 3 = false ∧ { stair.csu with slide := some .copying }.slide = some .copying ∧ { stair.csu with slide := some .switched }.slide = some .switched := by decide
def inGap (c : CutCause) : State := { hall with ccl := { hall.ccl with gap := some { start := 0, cause := c, loser := .a, solo := false, before := 0 }, stA := .failed } }
def fenced (c : CutCause) : State := { hall with ccl := { hall.ccl with fence := some (.a, c), lastCut := some 0 } }
theorem witness_Cuts : hall.ruled = true ∧ hall.passed hall.ccl.heartbeat (usTicks (hall.obj Ob.WD_US)) = true ∧ hall.standbyReady = true ∧ hall.ccl.planned = none ∧
    (draining .failed).standbyReady = false ∧ ((draining .failed).ruled = true) ∧
    ({ hall with sheet := [(sheetKey Ob.ROTATE_H.idx Ob.ROTATE_H.sub, 24)] }.obj Ob.ROTATE_H = 24) ∧
    { hall with sheet := [(sheetKey Ob.ROTATE_H.idx Ob.ROTATE_H.sub, 24)] }.passed hall.ccl.rotateTick (hourTicks 24) = true ∧
    (fenced .planned).ccl.fence = some (.a, .planned) ∧ (fenced .lockstep).ccl.st .a = .active ∧ (fenced .planned).passedSome (fenced .planned).ccl.lastCut 1600 = true ∧
    (inGap .activation).taker = some .b ∧ (inGap .fallback).taker = some .b ∧ (inGap .planned).taker = some .b := by decide
def clusterB (st : ClusterState) : State := { hall with ccl := { hall.ccl with stB := st, failsB := [0] } }
def soloGap : State := { clusterB .selftest with ccl := { (clusterB .selftest).ccl with stA := .failed, gap := some { start := 0, cause := .memory, loser := .a, solo := true, before := 0 } } }
theorem witness_Clusters : ((clusterB .selftest).ccl.st .b = .selftest ∧ (clusterB .selftest).ccl.gap = none ∧ soloGap.ccl.st (otherCluster .b) = .failed) ∧
    (∃ g, soloGap.ccl.gap = some g ∧ g.solo = true) ∧ (clusterB .sync).ccl.st .b = .sync ∧ (clusterB .sync).ccl.lag ≤ (clusterB .sync).obj Ob.SCRIPT_LAG_MAX ∧
    (clusterB .failed).ccl.st .b = .failed ∧ (clusterB .failed).objB Ob.AUTO_REPAIR = true ∧ (clusterB .failed).recentFails .b < (clusterB .failed).obj Ob.FAIL_MAX ∧
    (clusterB .failed).ccl.fails .b = [0] ∧ (clusterB .failed).passed 0 (secTicks 1) = true ∧ hall.ruled = true ∧ hall.standbyReady = true ∧ hall.ccl.planned = none ∧
    hall.passed hall.ccl.selftestTick (secTicks (hall.obj Ob.SELFTEST_S)) = true ∧ hall.epochOk 1 = true ∧ hall.epochOk 0 = false ∧ hall.ccl.owner = .a ∧ hall.scriptWaits = false ∧
    hall.passed hall.ccl.ckptTick (secTicks 1) = true :=
  ⟨by decide, ⟨_, rfl, rfl⟩, by decide⟩
/-! ## Slices and Gallery -/

def sliceState (f : SliceSt → SliceSt) : State := { mapped with tnu := { mapped.tnu with slices := [(0, f SliceSt.initial)] } }
/-- The name of a slice as its staging set would give it: sub-index 0x10, RD_MBPS. -/
def staging (sub v : Nat) : State := sliceState fun x => { x with staged := [(sub, v)] }
theorem witness_Buckets : hall.passed hall.timers.refill (usTicks 1) = true ∧ hall.passed hall.timers.floor (msTicks 1) = true ∧ 0 ∈ hall.sliceIds ∧ 1 ∉ hall.sliceIds := by decide
theorem witness_SliceCommits : { staging Ob.RD_MBPS.sub 100 with mxe := hall.mxe }.commitStatus 0 = 0 ∧ hall.commitStatus 0 = 4 ∧
    (adminS (anAdmin 0x1C 0 0x00010008 4)).adminCtx 3 0x1C = some (anAdmin 0x1C 0 0x00010008 4) ∧ cdwBits (0x00010008 : Word) 3 0 = 8 ∧
    cdwBits (0x00010008 : Word) 10 8 = 0 ∧ cdwBits (0x00010108 : Word) 10 8 = 1 ∧ cdwBits (0x00010008 : Word) 31 16 = 1 ∧
    { mapped with sheet := [(sheetKey 0x8001 1, 1)] }.functionSlice 1 = some 1 ∧
    ({ mapped with sheet := [(sheetKey 0x8001 1, 1)] }.modSlice 1 fun y => { y with staged := Tbl.put y.staged Ob.VEC_COUNT.sub 0 }).commitStatus 1 = 0 ∧
    ({ mapped with sheet := [(sheetKey 0x8001 1, 1)] }.modSlice 1 fun y => { y with staged := Tbl.put y.staged Ob.VEC_COUNT.sub 65535 }).commitStatus 1 ≠ 0 := by decide +kernel
theorem witness_Migration : ((sliceState fun x => { x with quiesce := true }).tnu.slice 0).quiesce = true ∧ mapped.qen.sliceAlloc 0 = 0 ∧ (mapped.tnu.slice 0).dlogWait = [] ∧
    Tbl.find? mapped.qen.sqs (mapped.obj Ob.QSTATE_SEL) = some (sqA [0]) ∧ Tbl.find? mapped.qen.cqs (mapped.obj Ob.QSTATE_SEL) = some cqA ∧ (sqA [0]).fetched = false ∧
    mapped.hlu.fetching (mapped.obj Ob.QSTATE_SEL) = false ∧ 15 < (sqA [0]).size ∧ 15 < cqA.size ∧ fetching.hlu.fetching (fetching.obj Ob.QSTATE_SEL) = true ∧
    (sliceState fun x => { x with dlogWait := [8] }).tnu.slices = [(0, { SliceSt.initial with dlogWait := [8] })] ∧
    (sliceState fun x => { x with dlogWait := [8] }).dlogFull 0 = false ∧
    { sliceState fun x => { x with dlogWait := [8] } with sheet := [(sheetKey 0x8000 Ob.DLOG_HEAD.sub, 8)] }.dlogFull 0 = true := by decide
theorem witness_SliceResets : (mapped.tnu.slice 0).reset = none ∧ (∃ u, ((sliceState fun x => { x with reset := some (.squash 0) }).tnu.slice 0).reset = some (.squash u) ∧ mapped.passed u 1 = true) ∧
    (∃ u, ((sliceState fun x => { x with reset := some (.drain 0) }).tnu.slice 0).reset = some (.drain u) ∧ mapped.passed u (msTicks (mapped.obj Ob.DRAIN_MS)) = true) ∧
    mapped.qen.sliceAlloc 0 = 0 ∧ ((sliceState fun x => { x with reset := some (.clearing 0 false) }).tnu.slice 0).reset = some (.clearing 0 false) ∧ mapped.hlu.tags = [] ∧
    mapped.keysLoaded 0 = true := ⟨by decide, ⟨0, by decide⟩, ⟨0, by decide⟩, by decide⟩

/-- A window of 2 MiB at Gallery offset 2 MiB: kind 1 (STAGE) or 3 (LBA), read and written. -/
def aWin (k : Nat) : Window := { Window.initial with ctl := BitVec.ofNat 32 (0xE0000000 + 2 ^ 26 * k), base := 1, nsid := 1 }
def nsB : Namespace := { nsA with lbaf := 2 }
def gallery (k : Nat) : State := { mapped with mxe := { mapped.mxe with nss := [(1, nsB)] }, gal := { mapped.gal with active := [(7, aWin k)], staging := [(7, aWin k)] } }
def peer : PeerTlp := { fn := 0, offset := 0x200FC0, pasid := none, reqId := 5, poison := false }
/-- Slice 0 may hold no context. -/
def full : State := { gallery 3 with sheet := [(sheetKey 0x8000 Ob.CTX_MAX.sub, 0)] }
theorem witness_PeerTraffic : (∀ k, k = 1 ∨ k = 3 → (gallery k).inboundHeld = false ∧ (gallery k).fnOpen 0 = true ∧ (gallery k).galBar peer = true ∧ (gallery k).gal.withholds = false ∧ 64 ≤ (gallery k).hlu.mps ∧ (gallery k).gal.hit ((gallery k).galOffset peer) = some (7, aWin k) ∧
      (gallery k).winRefusal 7 (aWin k) peer 64 true = none ∧ (gallery k).winRefusal 7 (aWin k) peer 64 false = none ∧ (gallery k).gal.fill + 64 ≤ galFifoBytes ∧
      (gallery k).winRefusal 7 (aWin k) { peer with pasid := some 1 } 64 true = some 1 ∧ (gallery k).winRefusal 7 (aWin k) { peer with pasid := some 1 } 64 false = some 1) ∧
    (aWin 1).kind ≠ .lba ∧ (aWin 3).kind = .lba ∧ (gallery 3).stagedBytes 7 + 64 ≤ 2 ^ 20 * (aWin 3).stageMib ∧ (gallery 3).gal.ready ++ (gallery 3).gal.units = [] ∧
    (gallery 3).nextCtx = some 0 ∧ (gallery 3).mxe.ns? 1 = some nsB ∧ (gallery 3).galRoom 0 = true ∧ winOf (gallery 3).gal.active 7 = aWin 3 ∧ (gallery 3).gal.reads = [] ∧ full.galRoom 0 = false ∧ (gallery 3).hlu.mps < 4096 ∧
    { gallery 1 with gal := { (gallery 1).gal with wait := 64, fifo := [(7, 2097152)] } }.gal.withholds = true ∧ (gallery 1).fnOpen 64 = false ∧
    (gallery 1).gal.hit ((gallery 1).galOffset { peer with offset := 0 }) = none ∧ (gallery 1).galBar { peer with fn := 5 } = false ∧
    galFifoBytes < { (gallery 1).gal with fifo := [(7, 2097152)] }.fill + 1 :=
  ⟨fun k h => by rcases h with rfl | rfl <;> decide, by decide⟩
def aFence (k a : Nat) : Fence := { win := 7, fn := 0, lba := k == 3, partial_ := true, ctxs := [], units := [], ahead := a }
def fencing (k a : Nat) : State := { gallery k with gal := { (gallery k).gal with fences := [aFence k a] } }
def committing : State := { gallery 1 with gal := { (gallery 1).gal with active := [] }, sheet := [(sheetKey 0x8000 0x40, 4), (sheetKey 0x8000 0x41, 64)] }
def aPending (now : Bool) : State := { committing with gal := { committing.gal with pending := some { since := if now then 0x4000000000000000 else 0, affected := [7], set := [(7, aWin 1)] } } }
theorem witness_Fences : (gallery 3).winRefusal 7 (aWin 3) peer 0 false = none ∧ ((fencing 3 0).gal.fences.find? fun g => g.win == 7) = some (aFence 3 0) ∧
    ((fencing 1 0).gal.fences.find? fun g => g.win == 7) = some (aFence 1 0) ∧ (aFence 3 0).lba = true ∧ (aFence 1 0).lba = false ∧ (aFence 1 0).ahead = 0 ∧ (aFence 1 2).done = false ∧
    (gallery 3).galBar peer = true ∧ (gallery 3).winRefusal 7 (aWin 3) { peer with pasid := some 1 } 0 false = some 1 ∧
    committing.gal.pending = none ∧ { gallery 1 with gal := { (gallery 1).gal with staging := [(7, { aWin 1 with size := 0 })] } }.winStatus [(7, { aWin 1 with size := 0 })] ≠ 0 ∧
    committing.winStatus committing.gal.staging = 0 ∧ 7 ∈ committing.gal.affected committing.gal.staging ∧ (∀ n ∈ committing.gal.affected committing.gal.staging, committing.winBusy n = false) ∧
    { committing with gal := { committing.gal with fifo := [(7, 64)] } }.winBusy 7 = true ∧ (aPending true).gal.pending.isSome = true ∧ (aPending true).winBusy 7 = false ∧
    (aPending false).passed 0 160000 = true ∧ hall.gal.panic = false ∧
    hall.obj Ob.PANIC_ON_PCT * galFifoBytes ≤ 100 * { hall.gal with fifo := [(7, 1048576)] }.fill ∧ 100 * hall.gal.fill < hall.obj Ob.PANIC_OFF_PCT * galFifoBytes := by decide
/-! ## Media -/

def entryA : MapEntry := { MapEntry.unmapped with flags := .suspect }
def deltaA (kind : Nat) (src : Option Loc) : Delta := { kind := kind, nsid := 1, index := 5, count := if kind = 3 ∨ kind = 4 then 2 else 1, value := if kind = 3 ∨ kind = 4 then MapEntry.unmapped else entryAt 1 ⟨0, 4, 3, 2⟩, source := src, dsn := 9, owner := 3 }
def withDelta (d : Delta) (m : List (Nat × MapEntry)) : State := { mapped with mxe := { mapped.mxe with deltas := [d], map := m, committed := [(granKey 1 5, if d.dsn = 9 then 0 else 99)] } }
def atFive : List (Nat × MapEntry) := [(granKey 1 5, entryAt 1 ⟨0, 8, 0, 0⟩)]
def journal (n : Nat) (p : List JournalPage) : State := { mapped with mxe := { mapped.mxe with jbuf := List.replicate n (deltaA 4 none).record, jOkA := true, jOkB := true, jpages := p } }
def jpage (a b : Bool) : JournalPage := { recs := [], goodA := a, goodB := b, band := 0, psn := 0, locA := default, locB := default }
/-- Two dies on two channels. -/
def twoDies (s : State) : State := { s with dsc := { s.dsc with dies := [(0, Die.initial), (1, Die.initial)] }, mxe := { s.mxe with jDieA := 0, jDieB := 1, strict := true } }
def hasRoom (s : State) : Bool := (s.sysBandFor s.mxe.jBand s.mxe.jDieA s.mxe.jDieB).isSome
theorem witness_MapCommits : ((withDelta (deltaA 1 none) []).mxe.frozen = false ∧ (withDelta (deltaA 1 none) []).mxe.deltaWaits (deltaA 1 none) = false ∧
    (withDelta { deltaA 1 none with dsn := 8 } []).mxe.deltas = [{ deltaA 1 none with dsn := 8 }] ∧
    8 < Tbl.getD (withDelta { deltaA 1 none with dsn := 8 } []).mxe.committed (granKey 1 5) 0 ∧ Tbl.getD (withDelta (deltaA 1 none) []).mxe.committed (granKey 1 5) 0 ≤ 9 ∧
    (withDelta (deltaA 3 none) atFive).mxe.deltaWaits (deltaA 3 none) = false ∧ (withDelta (deltaA 2 (some ⟨0, 8, 0, 0⟩)) atFive).mxe.deltaWaits (deltaA 2 (some ⟨0, 8, 0, 0⟩)) = false ∧
    ((withDelta (deltaA 2 (some ⟨0, 8, 0, 0⟩)) atFive).mxe.entry 1 5).located = true ∧ some (⟨0, 8, 0, 0⟩ : Loc) = some ((withDelta (deltaA 2 none) atFive).mxe.entry 1 5).loc ∧
    ¬((mapped.mxe.entry 1 5).located = true ∧ (none : Option Loc) = some (mapped.mxe.entry 1 5).loc) ∧ { mapped.mxe with frozen := true }.frozen = true ∧
    (journal 1 []).mxe.jbuf ≠ [] ∧ (journal 1 []).mxe.frozen = false) ∧ (∃ r ∈ (journal 1 []).mxe.jbuf, (journal 1 []).mxe.urgentRecord r = true) ∧ 682 ≤ (journal 682 []).mxe.jbuf.length ∧
    hasRoom (twoDies (journal 1 [])) = true ∧ (journal 1 []).sysBandFor (journal 1 []).mxe.jBand (journal 1 []).mxe.jDieA (journal 1 []).mxe.jDieB = none ∧
    (journal 0 [jpage false true]).mxe.jpages = [jpage false true] ∧ (journal 0 [jpage false false]).mxe.jpages = [jpage false false] ∧ (jpage true false).goodB = false := by
  refine ⟨by decide, ⟨(deltaA 4 none).record, by decide⟩, ?_, by decide +kernel⟩
  rw [show (journal 682 []).mxe.jbuf = List.replicate 682 (deltaA 4 none).record from rfl, List.length_replicate]

def segCell (s : State) : SlotCell := s.sysCell .segment 1 0 (leNat (s.segmentBytes 1 0))
def ckptCell (s : State) : SlotCell := s.sysCell .system 0 0 (leNat (s.mxe.segs.flatMap fun e => leBytes 8 e.1 ++ leBytes 5 (entryAt 0 e.2).code))
def bandA (st : BandState) : Band := { (default : Band) with kind := .user, state := st, bsn := 1, members := [(0, 1)], nsid := 1, width := 1, fill := 0, cap := 100, par := .none, opened := 0 }
def banded (b : Band) : State := { mapped with mxe := { mapped.mxe with bands := [(1, b)] } }
def fullBand (st : BandState) : Band := { bandA st with fill := 100 }
def landing (fill : Nat) : State := { banded { bandA .closed with kind := .landing, fill := fill } with mxe := { (banded { bandA .closed with kind := .landing, fill := fill }).mxe with lzPct := 100 } }
def opReq (k : OpKind) : OpRequest := { kind := k, die := 0, block := 4, page := 0, planes := 1, cls := .normal, raised := false, slice := 0 }
def anOp (k : OpKind) (why : OpFor) : DieOp := { (default : DieOp) with req := opReq k, eff := .normal, promoted := false, submit := 0, why := why, pages := [(4, 0)], slots := [], psn := 0, cost := 10, started := 0, suspLim := 3, susp := 0, resume := false, withheld := false, guardWait := 0, band := 1 }
theorem witness_SegmentsAndBands : Tbl.has { mapped.mxe with dirty := [(2 ^ 32 * 1 + 0, 0)] }.dirty (2 ^ 32 * 1 + 0) = true ∧ mapped.passed mapped.mxe.ckptTick (secTicks 60) = true ∧
    ((twoDies mapped).sysWrite [segCell (twoDies mapped)]).isSome = true ∧ mapped.sysWrite [segCell mapped] = none ∧ ((twoDies mapped).sysWrite [ckptCell (twoDies mapped)]).isSome = true ∧
    mapped.mxe.dirty = [] ∧ { mapped.mxe with unloaded := [2 ^ 32 * 1 + 0] }.unloaded.contains (2 ^ 32 * 1 + 0) = true ∧
    ({ mapped.mxe with map := [(granKey 1 5, entryA)] }.entry 1 5).flags = .suspect ∧ (mapped.mxe.entry 1 5).flags ≠ .suspect ∧
    Tbl.find? (banded (fullBand .closing)).mxe.bands 1 = some (fullBand .closing) ∧ (fullBand .closing).cap ≤ (fullBand .closing).fill ∧ (fullBand .closing).summaries = [] ∧
    (banded (fullBand .closing)).bandVerifying (fullBand .closing) = false ∧ (banded (fullBand .closing)).dsc.ops = [] ∧
    (banded (bandA .opened)).passed (bandA .opened).opened (secTicks ((banded (bandA .opened)).obj Ob.OPEN_MAX_S)) = true ∧
    (banded (bandA .victim)).bandCopying 1 (bandA .victim) = false ∧ (banded (bandA .victim)).bandReading (bandA .victim) = false ∧
    ({ banded (bandA .victim) with dsc := { mapped.dsc with ops := [(1, anOp .read .scrub)] } }).bandReading (bandA .victim) = true ∧ mapped.mxe.folding = false ∧
    (landing 5000000).lzFree < (landing 5000000).obj Ob.LZ_FOLD_START_PCT ∧ (landing 5000000).mxe.oldestLanding = some 1 ∧ mapped.obj Ob.LZ_FOLD_START_PCT ≤ mapped.lzFree ∧
    mapped.obj Ob.LZ_FOLD_START_PCT + 10 < mapped.lzFree ∧ (landing 5000000).lzFree ≤ (landing 5000000).obj Ob.LZ_FOLD_START_PCT + 10 := by decide +kernel

def slotA : PlaceSlot := { src := .host 3, nsid := 1, slotNo := 0, dsn := 9, kind := .user, slice := 0, qlc := false, data := 0, key := some 7, stage := none, goff := 0, gsize := 0, lostFill := false, poison := false, cls := .normal }
def reading : State := withCtx mapped 3 { anIo 2 .media with work := [{ slotNo := 0, loc := some ⟨0, 4, 0, 0⟩, data := none, lost := false, buf := none }] }
def placing (b : Band) : State := { banded b with mxe := { (banded b).mxe with place := [slotA] } }
/-- Die 0 with the operations given: the active one, a held one and those queued. -/
def dies (st : DieState) (act held : Option Nat) (queue : List Nat) (ops : List (Nat × DieOp)) : State := { banded (bandA .opened) with
  dsc := { (banded (bandA .opened)).dsc with dies := [(0, { Die.initial with state := st, active := act, held := held, queue := queue, found := some late.now })], ops := ops, nextOp := 2, budget := 1000000, held := 10 }
  fca := { mapped.fca with chs := [(0, { (default : Channel) with trained := true })] } }
/-- Die 0 idle with one operation queued, and with one running. -/
def oneQueued (o : DieOp) : State := dies .idle none none [1] [(1, o)]
def oneBusy (st : DieState) (o : DieOp) : State := dies st (some 1) none [] [(1, o)]
def guarded (o : DieOp) : State := { oneQueued o with fca := { (oneQueued o).fca with vin := some 5 } }
def opAt (k : OpKind) (block : Nat) : OpRequest := { opReq k with block := block }
def readWhy (s : State) (r : OpRequest) : Option OpFor := ((s.dropStaleJobs 0 [(4, 0)]).readFor r [(4, 0)]).map Prod.fst
/-- An object's value, element 0. -/
def setOb (o : Obj) (v : Nat) (s : State) : State := { s with sheet := Tbl.put s.sheet (sheetKey o.idx o.sub) v }
/-- Program suspend and resume commands given. -/
def suspends (s : State) : State := setOb Ob.OPCODES_08 0x84 (setOb Ob.OPCODES_09 0xD2 s)
theorem witness_DieReads : reading.dsc.dieState 0 ≠ .offline ∧ readWhy reading (opReq .read) = some (.host 3) ∧
    readWhy (banded (bandA .closed)) { opReq .read with cls := .scrub } = some .scrub ∧ ((banded (bandA .closed)).bandAt 0 4).any (fun b => (banded (bandA .closed)).scrubMay b.2) = true ∧
    max 1 (min (opReq .read).planes (mapped.fca.planes - 4 % mapped.fca.planes)) = 1 ∧ mapped.spe.rbFree ≤ mapped.now.toNat := by decide +kernel
theorem witness_DiePrograms : isProgram (opReq .tlcProgram).kind = true ∧ Tbl.has mapped.mxe.retired (blkKey 0 (mapped.fca.sbOf 4)) = false ∧
    (placing (bandA .opened)).bandAt 0 4 = some (1, bandA .opened) ∧ modeKind (bandA .opened).mode = .tlcProgram ∧ (bandA .opened).cont = [] ∧
    (placing (bandA .opened)).inOrder (opReq .tlcProgram) = true ∧ (placing (bandA .opened)).dataPages (bandA .opened) (opReq .tlcProgram) ≠ [] ∧
    slotA.gsize = 0 ∧ slotA.src ≠ .pad ∧ (placing (bandA .opened)).placeable (bandA .opened) 0 slotA = true ∧
    (placing (bandA .closing)).bandAt 0 4 = some (1, bandA .closing) ∧ (placing (bandA .closing)).inOrder (opReq .tlcProgram) = true ∧ (bandA .closing).fill < (bandA .closing).cap ∧
    mapped.psPending = false ∧ (placing (bandA .opened)).bandAt 0 8 = none ∧ (placing (bandA .opened)).inOrder (opAt .tlcProgram 8) = true ∧
    (placing (bandA .opened)).firstFor (opAt .tlcProgram 8) = some slotA ∧ (placing (bandA .opened)).freeBlock 0 ((placing (bandA .opened)).fca.sbOf 8) = true ∧
    ((placing (bandA .opened)).mxe.openBands.filter fun e => e.2.kind == slotA.kind).length < kindLimit slotA.kind ∧
    (placing (bandA .opened)).lzRoom slotA.kind ((placing (bandA .opened)).newMembers slotA.kind slotA.slice 0 2).length = true := by decide +kernel
theorem witness_DieErases : (placing (bandA .released)).bandAt 0 4 = some (1, bandA .released) ∧ (placing (bandA .released)).dsc.ops = [] ∧ mapped.psPending = false ∧
    (placing (bandA .opened)).bandAt 0 4 = some (1, bandA .opened) ∧ (bandA .opened).state ≠ .released ∧ (bandA .opened).state ≠ .erasing ∧ mapped.bandAt 0 8 = none ∧
    Tbl.has mapped.mxe.retired (blkKey 0 (mapped.fca.sbOf 8)) = false ∧ (dies .offline none none [] []).dsc.dieState 0 = .offline := by decide +kernel
theorem witness_DieStarts : mapped.hum.dump = none ∧ (oneQueued (anOp .read .scrub)).guardOn 0 = false ∧
    (oneQueued (anOp .read .scrub)).firstOp ((oneQueued (anOp .read .scrub)).candidates 0) = some (1, anOp .read .scrub) ∧
    (oneQueued (anOp .read .scrub)).mayStart (anOp .read .scrub) = true ∧ (oneQueued (anOp .read .scrub)).startTurn 0 (anOp .read .scrub) = true ∧
    (oneQueued (anOp .erase (.erase 1))).mayStart (anOp .erase (.erase 1)) = true ∧
    (oneQueued { anOp .read .scrub with cost := 2000000 }).mayStart { anOp .read .scrub with cost := 2000000 } = false ∧
    (guarded (anOp .tlcProgram .place)).guardOn 0 = true ∧ (∀ e ∈ (guarded (anOp .tlcProgram .place)).candidates 0, e.2.pe = true) ∧ (anOp .tlcProgram .place).withheld = false ∧
    (guarded (anOp .tlcProgram .place)).firstOp ((guarded (anOp .tlcProgram .place)).candidates 0) = some (1, anOp .tlcProgram .place) := by decide +kernel
theorem witness_DieEnds : (oneBusy .suspPend (anOp .erase (.erase 1))).dsc.running 0 = some (1, anOp .erase (.erase 1)) ∧ ((oneBusy .suspPend (anOp .erase (.erase 1))).dsc.die 0).state = .suspPend ∧
    ((oneBusy .busy (anOp .read .scrub)).dsc.die 0).found = some (oneBusy .busy (anOp .read .scrub)).now ∧ (oneBusy .busy (anOp .read .scrub)).fca.gapHeld = false ∧
    (oneBusy .busy (anOp .read .scrub)).dsc.running 0 = some (1, anOp .read .scrub) ∧ (oneBusy .busy (anOp .tlcProgram .place)).dsc.running 0 = some (1, anOp .tlcProgram .place) ∧
    Tbl.find? (dies .busy (some 1) none [] []).mxe.bands (anOp .tlcProgram .place).band = some (bandA .opened) ∧ (dies .idle none none [] []).dsc.running 0 = none ∧
    mapped.ageLimit .normal = some (mapped.obj Ob.DSC_AGE_NORMAL_US, .high) ∧ (anOp .read .scrub).promoted = false ∧ ((oneQueued (anOp .read .scrub)).dsc.die 0).active ≠ some 1 ∧
    usTicks (anOp .read .scrub).ageUs < mapped.since 0 ∧ (oneQueued (anOp .read .scrub)).dsc.step ≠ 2 := by decide +kernel
def interval (t : Dword) : State := { hall with tbu := { hall.tbu with tick := t } }
theorem witness_DiesSuspend : (dies .busy (some 1) none [2] [(1, anOp .tlcProgram .place), (2, { anOp .read (.host 3) with eff := .urgent })]).suspender 0 (anOp .tlcProgram .place) = true ∧
    (anOp .tlcProgram .place).pe = true ∧ (anOp .tlcProgram .place).susp < (suspends (oneBusy .busy (anOp .tlcProgram .place))).suspMax (anOp .tlcProgram .place) ∧
    ((oneBusy .busy (anOp .tlcProgram .place)).dsc.die 0).state = .busy ∧ ((oneBusy .busy (anOp .tlcProgram .place)).dsc.die 0).readyAt.toNat ≤ mapped.now.toNat ∧ mapped.fca.gapHeld = false ∧
    (dies .busy (some 1) none [2] [(1, { anOp .tlcProgram .place with susp := 99 })]).suspMax { anOp .tlcProgram .place with susp := 99 } ≤ 99 ∧
    ((dies .suspended none (some 1) [] [(1, anOp .tlcProgram .place)]).dsc.die 0).held = some 1 ∧ ((dies .suspended none (some 1) [] []).dsc.die 0).state = .suspended ∧
    ((dies .suspended none (some 1) [] []).dsc.die 0).queue = [] ∧ (dies .offline none none [] []).dsc.dieState 0 = .offline ∧ Tbl.has (dies .offline none none [] []).dsc.dies 0 = true ∧
    ((Tbl.find? (dies .offline none none [] []).fca.chs (chOf 0)).any Channel.trained) = true ∧ ((Tbl.find? hall.fca.chs (chOf 0)).any Channel.trained) = false ∧
    (interval 8000).now.toNat % 8000 = 0 ∧ (interval 8001).now.toNat % 8000 ≠ 0 ∧ hall.dsc.decided = none ∧ { (interval 8000).dsc with decided := some 1 }.decideTick.toNat < (interval 8000).now.toNat ∧
    hall.passed hall.timers.sensors (usTicks 100) = true ∧ hall.dsc.target = 0 := by decide +kernel
/-! ## Channels, codec, keys -/

def untrained : State := { stair with fca := { stair.fca with initialised := false } }
def vinHeld : State := { hall with fca := { hall.fca with vin := some 0 } }
def withheldOp : DieOp := { anOp .tlcProgram .place with withheld := true, guardWait := 0x10000000000 }
def verifyDue : State := { dies .idle none none [] [] with fca := { (dies .idle none none [] []).fca with verify := [(pageKey 0 4 0, 0)] } }
def verifyHeld : State := { verifyDue with fca := { verifyDue.fca with verifying := [4 * pageKey 0 4 0] } }
/-- The channel of CE_N group 0 of channel 0, its training asked for. -/
def chA : Channel := { (default : Channel) with trained := true }
def trainAsked : State := { dies .idle none none [] [] with fca := { (dies .idle none none [] []).fca with trainDue := [(0, 0)] } }
def polled : DieOp := { anOp .read .scrub with timing := ⟨500, 1000, 100, 80, 10⟩ }
def pollLater : State := { oneBusy .busy polled with dsc := { (oneBusy .busy polled).dsc with dies := [(0, { Die.initial with state := .busy, active := some 1, pollDue := 0x4000000000000001 })] } }
theorem witness_ChannelTraining : untrained.power.stage = .stair ∧ untrained.fca.initialised = false ∧ hall.power.stage ≠ .stair ∧
    hall.passed hall.timers.zq (secTicks (hall.obj Ob.RETRAIN_S)) = true ∧ hall.fca.gapHeld = false ∧ Tbl.find? trainAsked.fca.chs 0 = some chA ∧ chA.trained = true ∧
    trainAsked.retrainDue 0 0 = true ∧ (trainAsked.dsc.onCe 0 0).head? = some 0 ∧ (dies .idle none none [] []).retrainDue 0 0 = false ∧ trainAsked.power.stage = .hall ∧ trainAsked.fca.gapHeld = false := by decide +kernel
theorem witness_ChannelPolls : (oneBusy .busy polled).dsc.running 0 = some (1, polled) ∧ ((oneBusy .busy polled).dsc.die 0).pollDue ≤ (oneBusy .busy polled).now.toNat ∧
    pollLater.dsc.running 0 = some (1, polled) ∧ pollLater.now.toNat < (pollLater.dsc.die 0).pollDue ∧ (oneBusy .busy polled).passed polled.started polled.timing.limit = true ∧
    (oneBusy .busy polled).passed late.now polled.timing.limit = false ∧ (oneBusy .busy polled).fca.gapHeld = false := by decide +kernel
theorem witness_WriteGuard : hall.guardTrue .vin = true ∧ hall.fca.guards .vin = false ∧ vinHeld.fca.guards .vin = true ∧ hall.guardTrue (.temp 0) = false ∧
    vinHeld.guardMayClear .vin = true ∧ vinHeld.guardMayClear (.temp 0) = true ∧ { vinHeld with power := { vinHeld.power with pwrfail := true } }.guardMayClear .pwrfail = false ∧
    Tbl.find? (oneQueued withheldOp).dsc.ops 1 = some withheldOp ∧ withheldOp.pe = true ∧ withheldOp.withheld = true ∧ msTicks (mapped.obj Ob.GUARD_WAIT_MS) < withheldOp.guardWait ∧
    ((oneQueued withheldOp).dsc.die 0).held ≠ some 1 ∧ ((oneQueued withheldOp).dsc.die 0).active ≠ some 1 := by decide +kernel
theorem witness_TemperatureAndVerify : Tbl.has (dies .idle none none [] []).dsc.dies 0 = true ∧ (dies .idle none none [] []).dsc.dieState 0 ≠ .offline ∧ (dies .idle none none [] []).tempDue 0 = true ∧
    Tbl.find? verifyDue.fca.verify (pageKey 0 4 0) = some 0 ∧ verifyDue.bandAt 0 4 = some (1, bandA .opened) ∧ verifyDue.passed 0 (usTicks (verifyDue.obj Ob.VERIFY_DELAY_US)) = true ∧
    verifyDue.dsc.dieState 0 ≠ .offline ∧ verifyDue.dsc.ops = [] ∧ verifyDue.fca.verifying = [] := by decide +kernel
/-- The codeword at die 0, block 4, page 0, slot 0, and a page that holds it. -/
def lA : Loc := ⟨0, 4, 0, 0⟩
def frameAt (e : Engine) : Frame := { loc := lA, eng := e, cls := .normal, submit := 0, busy := true }
def frame (off : Bool) : State := { dies (if off then .offline else .idle) none none [] [] with
  cdx := { mapped.cdx with frames := [frameAt .hard] }
  mxe := { (dies .idle none none [] []).mxe with nand := [(pageKey 0 4 0, { (default : Page) with slots := [default], good := true })] } }
/-- The same with command 3 waiting for it. -/
def waited (off : Bool) : State := { frame off with qen := reading.qen }
def decoded (v : Nat) (ok poison : Bool) : DecodeResult := { level := v, attempt := 0, bits := 3, headerOk := ok, poison := poison }
/-- No pool has a buffer. -/
def noPools (s : State) : State := { s with bpm := { s.bpm with pools := List.replicate 5 ⟨0, [], [], 0⟩ } }
def verifying (s : State) : State := { s with cdx := { s.cdx with frames := [frameAt .verify] }, fca := { s.fca with verifying := [4 * pageKey 0 4 0] } }
def excFull (s : State) : State := { s with ccl := { s.ccl with exc := List.replicate 4096 default } }
theorem witness_Codewords : (∃ f ∈ (frame false).cdx.frames, f.loc = lA ∧ f.eng ≠ .verify ∧ f.busy = true) ∧ (waited true).offlineRead lA = true ∧
    (frame false).poisonRepeat lA < 2 ∧ (decoded 0 true true).poison = true ∧ (frame false).readerOf lA = .nobody ∧
    (waited false).readerOf lA ≠ .nobody ∧ (waited false).stepAfter lA (decoded 2 true false) ≠ none ∧ (waited false).bandAt 0 4 = some (1, bandA .opened) ∧
    (waited false).stepAfter lA (decoded 0 true false) = none ∧ (waited false).readerRoom lA = true ∧ (waited false).levelOf lA (decoded 0 true false) < 6 ∧
    (frame false).levelOf lA (decoded 0 true false) < 6 ∧ (frame false).mxe.cell lA = some default ∧ (decoded 0 false false).headerOk = false :=
  ⟨⟨frameAt .hard, by decide⟩, by decide +kernel⟩
theorem witness_CodewordsLost : (frame true).levelOf lA (decoded 5 true false) = 6 ∧ (frame true).excRoom = true ∧ (excFull (frame true)).excRoom = false ∧
    (excFull (frame true)).levelOf lA (decoded 5 true false) = 6 ∧ (noPools (waited false)).readerRoom lA = false ∧
    (∀ f ∈ (verifying (frame false)).cdx.frames, f.loc = lA → f.eng ≠ .verify → f.busy = false) ∧ (verifying (frame false)).offlineRead lA = false ∧
    4 * pageKey lA.die lA.block lA.page + lA.slot ∈ (verifying (frame false)).fca.verifying ∧ (frameAt .verify).eng = .verify ∧
    (decoded 0 true false).bits ≤ mapped.obj Ob.VERIFY_MAX_BITS ∧ (decoded 1 true false).level ≠ 0 ∧
    4 * pageKey lA.die lA.block lA.page + lA.slot ∉ (frame false).fca.verifying := by decide +kernel
def scrubWin : State := { mapped with sheet := [(sheetKey 0x3C04 1, 1)], tbu := { mapped.tbu with fleet := 59999999999 } }
def aged : State := { banded (bandA .closed) with mxe := { (banded (bandA .closed)).mxe with reads := [(blkKey 0 1, 100000000)] } }
theorem witness_ThermalClock : hall.passed hall.timers.theta (msTicks 100) = true ∧ hall.passed hall.timers.thetaStore (secTicks 60) = true ∧
    (banded (bandA .closed)).scrubMay (bandA .closed) = true ∧ 1 ∉ (banded (bandA .closed)).cdx.visited ∧ aged.scrubRefresh (bandA .closed) [] = true ∧
    (banded (bandA .closed)).scrubRefresh (bandA .closed) [] = false ∧
    scrubWin.objB Ob.SCRUB_WIN.EN 0 = true ∧ scrubWin.obj Ob.SCRUB_WIN.START 0 ≤ scrubWin.tbu.fleet.toNat ∧
    scrubWin.tbu.fleet.toNat < scrubWin.obj Ob.SCRUB_WIN.START 0 + scrubWin.winIndex 0 * (1000000000 * scrubWin.obj Ob.SCRUB_WIN.PERIOD_S 0) + 1000000000 * scrubWin.obj Ob.SCRUB_WIN.LENGTH_S 0 ∧
    Tbl.getD scrubWin.cdx.winNext 0 0 ≤ scrubWin.winIndex 0 ∧ Tbl.find? { scrubWin.cdx with winOpen := [(0, 5)] }.winOpen 0 = some 5 ∧ 5 ≤ scrubWin.tbu.fleet.toNat ∧
    hall.passed hall.timers.wear (secTicks 60) = true ∧ hall.pctUsedNow < 80 ∧
    hall.cdx.keyRun = none ∧ { hall.cdx with keyRun := some ⟨.clear, 3⟩ }.keyRun.isSome = true ∧ bitsOf ({ hall.cdx with keyBuf := 0x100 }.keyBuf.toNat) 15 8 = hall.cdx.kekGen ∧
    bitsOf (hall.cdx.keyBuf.toNat) 15 8 ≠ hall.cdx.kekGen ∧ bitsOf (hall.cdx.keyBuf.toNat) 95 64 ≠ 0xFFFFFFFF := by decide +kernel
/-! ## Stripes, the store, buffers, the recorder -/

def stripeA : Stripe := { (default : Stripe) with band := 1, bsn := 1, row := 0, pos := 0, num := 0, cls := .none, state := .gathering, units := [(0, 1)], issued := 0, missing := 0, started := 0 }
def striped : State := { banded (bandA .opened) with spe := { mapped.spe with stripes := [stripeA], failed := [0] } }
def striped2 : State := { striped with mxe := { striped.mxe with bands := [(1, bandA .closed), (2, { bandA .closed with bsn := 2, members := [(0, 2)] })] }
                                       fca := { striped.fca with part := ⟨1, 400, 9, 3⟩ } }
/-- Frozen in this tick. -/
def stilled : State := { hall with cru := { hall.cru with frozen := some late.now } }
def rebuilding (raised : Bool) (ph2 : Bool) (bs : List Nat) : State :=
  { striped2 with spe := { striped2.spe with stripes := [], rbActive := true, rbRaised := raised, rbPhase2 := ph2, rbBands := bs } }
def paused (s : State) : State := { s with regf := { s.regf with vals := [(Fld.SPE_RB_CTL.PAUSE.key 0 0, 1)] } }
def storing (st : HumState) (ps : Nat) : State := { hall with hum := { hall.hum with state := st, code := 4095 }, qen := { hall.qen with ps := ps } }
def testing : State := { hall with hum := { hall.hum with state := .verified, test := some { mv := 30000, tick := 0 } } }
theorem witness_Stripes : Tbl.find? striped.mxe.bands 1 = some (bandA .opened) ∧ striped.spe.stripe? 1 0 0 0 = some stripeA ∧ stripeA.state = .gathering ∧
    striped.passed 0 (usTicks (striped.obj Ob.GATHER_MAX_US)) = true ∧ stripeA.issued.getLsbD 0 = false ∧
    striped.pageUsed 0 (striped.unitBlock (bandA .opened) (0, 1) 0, unitPage (bandA .opened) 0 0) = false ∧
    256 ≤ { hall.spe with pageFill := 256 }.pageFill ∧ 0 < { hall.spe with pageFill := 1 }.pageFill ∧
    hall.passedSome (some 0) (usTicks (hall.obj Ob.SJ_FLUSH_US)) = true ∧ striped.spe.failed ≠ [] ∧ striped.spe.rbActive = false ∧ (0 : Dword).toNat < striped.now.toNat ∧
    hall.spe.failed = [] ∧ hall.spe.rbDue = none := by decide +kernel
theorem witness_Rebuild : Tbl.find? (rebuilding true false [1, 2]).mxe.bands 1 = some (bandA .closed) ∧ 1 ∈ (rebuilding true false [1, 2]).spe.rbBands ∧
    (1, 0, 0, 0) ∉ (rebuilding true false [1, 2]).spe.rbDone ∧ (rebuilding false false [1, 2]).fld Fld.SPE_RB_CTL.PAUSE = 0 ∧
    (rebuilding true false [1, 2]).spe.rbFree ≤ (rebuilding true false [1, 2]).now.toNat ∧ (rebuilding false false [1, 2]).rebuildTurn (bandA .closed) 0 0 0 = true ∧
    (∀ j ∈ (rebuilding true false [1, 2]).mxe.jobs, j.1 < (rebuilding true false [1, 2]).mxe.nextJob) ∧
    (rebuilding false false [1, 2]).rebuildTurn { bandA .closed with bsn := 2, members := [(0, 2)] } 0 0 0 = false ∧
    (paused (rebuilding false false [1])).fld Fld.SPE_RB_CTL.PAUSE ≠ 0 ∧ (paused (rebuilding false false [1])).spe.rbRaised = false ∧
    (rebuilding false false []).spe.rbBands = [] ∧ (rebuilding false false []).spe.rbPhase2 = false ∧ (rebuilding false false []).spe.hitsBand (bandA .closed) = true := by decide +kernel
theorem witness_Store : hall.passed hall.timers.energy (usTicks 100) = true ∧ senseInBand 0 = false ∧ hall.energyOf 0 0 < hall.obj Ob.ENERGY_MIN_MJ ∧
    hall.obj Ob.CHARGED_PCT * hall.obj Ob.FULL_MV ≤ 100 * (storing .charging 0).storeMv ∧ (storing .verified 0).testable = true ∧ (storing .verified 3).testable = true ∧
    (storing .verified 0).testFallsDue = true ∧ (storing .verified 3).testFallsDue = true ∧ { hall with hum := { hall.hum with lastTest := some late.now } }.testFallsDue = false ∧
    hall.testable = false ∧ testing.testOver { mv := 30000, tick := 0 } = true := by decide +kernel
/-- What a test measures is a free value (notes/assumptions/9.md): one of its two outcomes holds. -/
theorem witness_Stripes_test : testing.obj Ob.ENERGY_MIN_MJ ≤ testing.energyOf (testing.testCap { mv := 30000, tick := 0 }) 30000 ∨
    testing.energyOf (testing.testCap { mv := 30000, tick := 0 }) 30000 < testing.obj Ob.ENERGY_MIN_MJ := by omega
def waiterA : BufWaiter := { unit := 2, size := 4096, slice := none, urgent := false, prev := none, tick := 0, ord := 0 }
def buffers (f : Pool → Pool) (d : BufDesc) : State := { hall with bpm := { (hall.bpm.modPool 2 f) with descs := [(bufKey 2 0, d)] } }
def heldBuf (owners : BitVec 17) (poison : Bool) : BufDesc := { BufDesc.initial with owners := owners, state := .held, poison := poison, next := noHandle }
def noBufs : State := { hall with bpm := { hall.bpm with pools := List.replicate 5 ⟨0, [], [], 0⟩ } }
def strained (n : Nat) : State := { buffers id (heldBuf 4 false) with bpm := { (buffers id (heldBuf 4 false)).bpm with corrected := [(bufKey 2 0, n)], cleaning := [bufKey 2 0] } }
def chargedBuf : BufDesc := { heldBuf 4 false with slice := 0, charged := true }
/-- Slice 0 at 12 KiB below its 1 MiB. -/
def nearFull : State := { hall with
  sheet := [(sheetKey 0x8000 Ob.STAGE_MAX_MIB.sub, 1)]
  bpm := { (hall.bpm.modPool 2 fun p => { p with waiters := [{ waiterA with slice := some 0 }] }) with
    descs := (List.range 15).map (fun i => (bufKey 4 i, chargedBuf)) ++ [(bufKey 3 0, chargedBuf), (bufKey 3 1, chargedBuf), (bufKey 3 2, chargedBuf), (bufKey 2 0, chargedBuf)] } }
def asked (u : Bool) : BufWaiter := { waiterA with urgent := u }
def queueing : State := buffers (fun p => { p with waiters := [waiterA] }) BufDesc.initial
theorem witness_BufferGrants : { hall with sheet := [(sheetKey 0x8000 Ob.STAGE_MAX_MIB.sub, 0)] }.chargeOk (some 0) 2 = false ∧ hall.chargeOk none 2 = true ∧
    (hall.bpm.pool (poolFor 4096)).waiters = [] ∧ hall.servingPool 4096 = some 2 ∧ hall.reservedFor (asked false) = false ∧ hall.bpm.nextIndex 2 = some 0 ∧
    queueing.reservedFor (asked true) = true ∧ (queueing.bpm.pool (poolFor 4096)).waiters ≠ [] ∧ queueing.bpm.nextIndex 2 = some 0 ∧
    noBufs.servingPool 4096 = none ∧ noBufs.reservedFor (asked true) = false ∧ 5 ≤ noBufs.bpm.pools.length ∧
    queueing.holdOver.waiterFor 2 = some (2, waiterA) ∧ queueing.grantable 2 = true ∧ queueing.chargeOk waiterA.slice 2 = true ∧ noBufs.grantable 2 = false ∧
    hall.holdOver.waiterFor 2 = none ∧ nearFull.holdOver.waiterFor 3 = some (2, { waiterA with slice := some 0 }) ∧ nearFull.chargeOk (some 0) 3 = false := by decide +kernel
theorem witness_BufferOwners : (buffers id (heldBuf 4 false)).bpm.refusal (mkHandle 2 0 0) 2 = none ∧ (buffers id (heldBuf 4 false)).bpm.refusal noHandle 2 = some 0 ∧
    (buffers id (heldBuf 4 false)).bpm.refusal (mkHandle 2 1 0) 2 = some 1 ∧ (buffers id { heldBuf 4 false with state := .free }).bpm.refusal (mkHandle 2 0 0) 2 = some 2 ∧
    (buffers id (heldBuf 4 false)).bpm.refusal (mkHandle 2 0 0) 3 = some 3 ∧
    ((buffers id (heldBuf 12 false)).bpm.desc 2 0).owners &&& ~~~(BitVec.ofNat 17 (2 ^ 2)) ≠ 0 ∧ ((buffers id (heldBuf 4 true)).bpm.desc 2 0).owners &&& ~~~(BitVec.ofNat 17 (2 ^ 2)) = 0 ∧
    ((buffers id (heldBuf 4 true)).bpm.desc 2 0).poison = true ∧ Tbl.getD (strained 0).bpm.corrected (bufKey 2 0) 0 < hall.obj Ob.CORR_RETIRE ∧
    hall.obj Ob.CORR_RETIRE ≤ Tbl.getD (strained 100).bpm.corrected (bufKey 2 0) 0 ∧ mkHandle 2 0 0 ≠ noHandle ∧ ((buffers id (heldBuf 4 false)).bpm.desc 2 0).next = noHandle ∧
    { hall.bpm with chains := [(2, mkHandle 2 0 0)] }.chains = [(2, mkHandle 2 0 0)] ∧
    bufKey 2 0 ∈ (strained 0).bpm.cleaning ∧ hPool (mkHandle 2 0 0) = 2 ∧ hIdx (mkHandle 2 0 0) = 0 ∧ 2 * (hall.bpm.pool 4).ring.length < hall.bpm.ringDepth ∧
    hall.bpm.lowestFree 4 0 (hall.bpm.pool 4).count = some 0 ∧ { hall.bpm with ringDepth := 0 }.ringDepth ≤ 2 * (hall.bpm.pool 4).ring.length ∧
    hall.bpm.bufferAt 0 = some (0, 0) := by decide +kernel
def recA : Record := { (default : Record) with rseq := 31 }
def reel : State := { hall with cru := { hall.cru with staged := [recA], nandReady := true } }
def frozen : State := { hall with cru := { hall.cru with frozen := some 0 } }
theorem witness_Triggers : (0x24 : Nat) ≤ 0x24 ∧ (0x38 : Nat) ≤ 0x3F ∧ bitAt (hall.obj Ob.TRIG_EN) 0x38 = true ∧ hall.recordable = true ∧ stilled.recordable = false ∧
    bitAt ({ hall with sheet := [(sheetKey Ob.TRIG_EN.idx Ob.TRIG_EN.sub, 0)] }.obj Ob.TRIG_EN) 0x38 = false ∧ reel.cru.flushPage = some 0 ∧ reel.cru.nandReady = true ∧
    reel.cru.stagingOnly = false ∧ reel.flushDue 0 = true ∧ hall.power.stage ≠ .foyer ∧ late.power.stage = .foyer ∧ frozen.passedSome frozen.cru.frozen 1600000000 = true ∧
    hall.passedSome hall.cru.frozen 1600000000 = false := by decide +kernel
/-! ## DRAM, management, the machine -/

def accA (a : Nat) : DramAccess := { from_ := .galBulk, addr := a, write := none }
def reqD (c e : DramClass) : DramReq := { access := accA 64, cls := c, eff := e, ecc := .clean, tick := 0 }
def dramQ (q : List DramReq) : State := { hall with dmc := { hall.dmc with queue := q } }
def alerts (n : Nat) (re : Bool) : State := { hall with dmc := { hall.dmc with alerts := [(0, List.replicate n hall.now)], retrained := if re then [(0, hall.now)] else [] } }
def retRegs (en coord : Nat) (r : List (Nat × RetEntry)) : State := { hall with
  regf := { hall.regf with vals := [(Fld.DMC_RET_COORD.EN.key 0 0, en), (Fld.DMC_RET_SPAN.ROW_COUNT.key 0 0, 1), (Fld.DMC_RET_COORD.ROW_FIRST.key 0 0, coord)] }, dmc := { hall.dmc with ret := r } }
def copying (n : Option RetStatus) : RetEntry := { status := .copying, refused := none, next := n, coord := 0x80000000, span := 1, target := 0 }
def dramHeld : State := { hall with dmc := { hall.dmc with held := [reqD .bulk .bulk] } }
def refAge (t : Dword) (p : Nat) : State := { hall with dmc := { hall.dmc with refAt := [(1, t)], postponed := [(1, p)], mr4At := some t } }
def refWaits : State := { refAge 0 0 with dmc := { (refAge 0 0).dmc with queue := [reqD .rt .rt] } }
theorem witness_DramRequests : hall.dmc.trained = true ∧ hall.dmc.capacity = 68719476736 ∧ hall.dmc.room (accA 64) = true ∧ (accA 64).from_ ≠ .ccl ∧ hall.dmc.held = [] ∧
    (dramQ (List.replicate 64 (reqD .bulk .bulk))).dmc.room (accA 64) = false ∧ reqD .bulk .bulk ∈ dramHeld.dmc.held ∧
    (dramQ [reqD .mapN .mapN]).dmc.oldest .mapN = some (reqD .mapN .mapN) ∧ (dramQ [reqD .bulk .bulk]).dmc.oldest .bulk = some (reqD .bulk .bulk) ∧
    hall.passed 0 (nsTicks (hall.obj Ob.AGE_MAPN_NS)) = true ∧ hall.passed 0 (usTicks (hall.obj Ob.AGE_BULK_US)) = true ∧
    (accA 64).write = none ∧ (hall.dmc.coord 64).ch ∉ hall.dmc.dead ∧
    hall.dmc.room { addr := 64, from_ := .dmcPatrol, write := none } = true ∧ (dramQ (List.replicate 64 (reqD .bulk .bulk))).dmc.room { addr := 64, from_ := .dmcPatrol, write := none } = false := by decide +kernel
theorem witness_DramRefresh : hall.dmc.selfRefresh = false ∧ (refAge late.now 0).refDue (0 * 2 + 1) = false ∧ (refAge 0 0).refDue (0 * 2 + 1) = true ∧
    (hall.dmc.coord 64).subch = 0 * 2 + 1 ∧ reqD .rt .rt ∈ refWaits.dmc.queue ∧ (reqD .rt .rt).eff = .rt ∧ Tbl.getD refWaits.dmc.postponed 1 0 + 1 < refWaits.postponeMax ∧
    refWaits.refDue 1 = true ∧ (refAge 0 0).dmc.queue = [] ∧ (refAge 0 15).postponeMax ≤ Tbl.getD (refAge 0 15).dmc.postponed 1 0 + 1 ∧
    (refAge 0 0).passed 0 (msTicks 16) = true ∧ (refAge late.now 0).passed late.now (msTicks 16) = false ∧ hall.passed hall.timers.rowClear (msTicks 32) = true ∧
    hall.passed hall.timers.dramZq (msTicks 128) = true ∧ hall.dmc.oscRead = [] := by decide +kernel
theorem witness_DramAlerts : (0 : Nat) ∉ hall.dmc.dead ∧ (alerts 0 true).justRetrained 0 = true ∧ (alerts 9 false).justRetrained 0 = false ∧ (0 : Nat) ∈ { hall.dmc with dead := [0] }.dead ∧
    (alerts 9 false).obj Ob.REPLAY_MAX ≤ ((alerts 9 false).recentAlerts 0).length + 1 ∧ ((alerts 0 false).recentAlerts 0).length + 1 < (alerts 0 false).obj Ob.REPLAY_MAX ∧
    stair.power.stage = .stair ∧ dramSupported 3 1 false 0 = true ∧ dramSupported 1 1 false 0 = false ∧
    (retRegs 0 0 []).fld Fld.DMC_RET_SEL.ENTRY (retRegs 0 0 []).ownerInst = 0 ∧ retEn ((retRegs 0 0 []).retFromRegs 0).coord = false ∧ retEn ((retRegs 1 0 []).retFromRegs 0).coord = true ∧
    (retRegs 1 0 []).dmc.retRefusal 0 ((retRegs 1 0 []).retFromRegs 0) = none ∧ ((retRegs 1 131071 []).dmc.retRefusal 0 ((retRegs 1 131071 []).retFromRegs 0)).isSome = true ∧
    Tbl.find? (retRegs 0 0 [(0, copying none)]).dmc.ret 0 = some (copying none) ∧ Tbl.find? (retRegs 0 0 [(0, copying (some .active))]).dmc.ret 0 = some (copying (some .active)) := by decide +kernel
theorem witness_DramLowPower : { hall with qen := { hall.qen with ps := 4 } }.srCause = true ∧ { hall with qen := { hall.qen with ps := 4 } }.hum.dump = none ∧ (dumping .slots).hum.dump.isSome = true ∧
    { (dumping .slots) with dmc := hall.dmc }.srCause = true ∧ hall.srCause = false ∧ { hall.dmc with selfRefresh := true }.srDump = false ∧ hall.dmc.queue = [] ∧
    (dramQ [reqD .bulk .bulk]).dmc.queue ≠ [] ∧ hall.obj Ob.PD_IDLE_NS ≠ 0 ∧ 0 * 2 + 0 ∉ hall.dmc.powerDown ∧ hall.dmc.lastUse = [] := by decide +kernel
/-- Requests to read 0x1000.01, to write 0x3400.06 and 0x3000.03, over I3C. -/
def reqM (i j : Nat) : SheetRequest := { via := .i3c, eid := 9, tag := 3, index := i, sub := j, epoch := 0, cluster := .a }
def storedA : StoredWrite := { via := .i3c, eid := 9, tag := 3, key := sheetKey 0x3400 6, size := 2, value := 300, cluster := .a }
def fwA : FwAccess := { via := .i3c, eid := 9, tag := 3, cmd := 1, index := 0x5C00, sub := 1, data := [], cluster := .a, since := 0, num := 4 }
def badA : RawMessage := { via := .i3c, ver := 2, cmd := 1, tag := 3, status := 0, reserved := 0, index := 0, sub := 0, length := 0, dataLen := 0 }
/-- A grant of kind 1 or 2 for challenge 0 and an empty serial number. -/
def grantA (k : Nat) : GrantBytes := BitVec.ofNat 2304 (0x53459640 + 2 ^ 32 * k)
def sealed : State := { hall with csu := { hall.csu with sealSt := 1, challenge := 0 } }
/-- 432 STORED values of 228 B each. -/
def fullStore : State := { hall with sheet := List.replicate 432 (sheetKey 0x5C40 0, 1) }
theorem witness_Management : (resolve 0x1000 1).isSome = true ∧ hall.takes 1 (reqM 0x1000 1) 0 = true ∧ hall.takes 3 (reqM 0x1000 1) 0 = true ∧
    hall.takes 2 (reqM 0x3400 6) 2 = true ∧ hall.takes 2 (reqM 0x1000 1) 2 = true ∧ hall.takes 2 (reqM 0x3400 6) 1 = true ∧ resolve 0x3400 6 = some Ob.NAND_IDLE ∧ Ob.NAND_IDLE.acc ≠ .ro ∧ Ob.NAND_IDLE.size = 2 ∧ hall.valueStatus Ob.NAND_IDLE 0x3400 6 4001 ≠ 0 ∧
    hall.valueStatus Ob.NAND_IDLE 0x3400 6 300 = 0 ∧ (hall.actObj 0x3400 6 300).isNone = true ∧ Ob.NAND_IDLE.staged = false ∧ forcedBits 0x3400 6 300 ≠ hall.sheetVal Ob.NAND_IDLE 0x3400 6 ∧
    Ob.NAND_IDLE.pers = .stored ∧ hall.storeFull Ob.NAND_IDLE 0x3400 6 300 = false ∧ fullStore.storeFull Ob.NAND_IDLE 0x3400 6 300 = true ∧ Tbl.getD hall.mgp.wrote (sheetKey 0x3000 3) 0 ≤ viaInst .i3c ∧
    viaInst .i3c < Tbl.getD { hall.mgp with wrote := [(sheetKey 0x3000 3, 2)] }.wrote (sheetKey 0x3000 3) 0 ∧ Ob.LZ_FOLD_START_PCT.pers ≠ .stored ∧
    resolve 0x3000 3 = some Ob.LZ_FOLD_START_PCT ∧ hall.valueStatus Ob.LZ_FOLD_START_PCT 0x3000 3 50 = 0 ∧ forcedBits 0x3000 3 50 ≠ hall.sheetVal Ob.LZ_FOLD_START_PCT 0x3000 3 ∧
    objAt (storedA.key / 256) (storedA.key % 256) = some Ob.NAND_IDLE ∧ { hall.mgp with storing := [storedA] }.storing = [storedA] ∧ (reqM 0x3400 6).via = storedA.via := by decide +kernel
theorem witness_Management_rows : hall.takes 2 { reqM 0 0 with index := 0x4C00, sub := 0x05 } 1 = true ∧ hall.ruled = true ∧ hall.standbyReady = true ∧ hall.ccl.planned = none ∧
    (draining .failed).standbyReady = false ∧ hall.takes 2 { reqM 0 0 with index := 0x5000, sub := 0x09 } 1 = true ∧ hall.sealOk 1 = true ∧ sealed.sealOk 0 = false ∧
    sealed.takes 2 { reqM 0 0 with index := 0x5000, sub := 0x0F } 288 = true ∧ sealed.grantOk 0 1 = false ∧ sealed.grantOk 0 2 = false ∧ sealed.grantOk (grantA 2) 1 = false ∧
    hall.takes 2 { reqM 0 0 with index := 0x5000, sub := 0x03 } 4 = true ∧ hall.confirmOk 5 = true ∧ (withTakeState hall 2).confirmOk 5 = false ∧
    { hall.mgp with fw := [fwA] }.fw.find? (fun a => a.num == 4) = some fwA ∧ hall.mgp.fw.find? (fun a => a.num == 4) = none ∧ hall.passed fwA.since (msTicks (hall.obj Ob.FW_OBJ_MS)) = true ∧
    hall.passed late.now (msTicks (hall.obj Ob.FW_OBJ_MS)) = false ∧ badMessage badA = true ∧ hall.reaches badA.via = true ∧ hall.auxUp = true := by decide +kernel
/-- Where the fused key and the signature are good, grants of both kinds are. -/
theorem witness_Management_grants (h : ∀ k, sealed.csu.keyFused (leBytes 97 (grantField (grantA k) 0x40 97)) = true ∧
    Config.ecdsaVerify (grantField (grantA k) 0x40 97) (grantField (grantA k) 0xC0 96) (Config.sha384 (leBytes 192 (grantField (grantA k) 0 192))) = true) (k : Nat) (hk : k = 1 ∨ k = 2) :
    sealed.grantOk (grantA k) k = true := by
  simp only [State.grantOk, (h k).1, (h k).2]
  rcases hk with rfl | rfl <;> decide +kernel
theorem witness_FleetSet : hall.takes 2 { reqM 0 0 with index := 0x5800, sub := 0x02 } 8 = true ∧ hall.tbu.fleetSrc ≠ 2 ∧ { hall.tbu with fleetSrc := 2 }.fleetSrc = 2 ∧
    hall.obj Ob.FLEET_STEPS < 0xFFFFFFFF := by decide +kernel
theorem witness_Machine : hall.pending = [] ∧ dark.power.unpowered = true ∧ (∃ t, exec .powerUp hall = .next t) ∧ hall.memOk = true ∧ hall.gal.units = [] :=
  ⟨by decide, by decide, ⟨_, rfl⟩, by decide, by decide⟩
/-! ## Against the worked examples of the spec -/

/-- 13_buffers.md, the example after R377: handle 0x4A0123. -/
theorem test_handle_example : hPool 0x4A0123 = 2 ∧ hGen 0x4A0123 = 40 ∧ hIdx 0x4A0123 = 291 ∧ Bpm.initial.offset 2 291 = 0x00D23000 ∧ mkHandle 2 40 291 = 0x4A0123 := by decide
/-- 09_flash_channels.md: die 0x1A3 is on channel 3, position 13. -/
theorem test_die_example : chOf 0x1A3 = 3 ∧ 0x1A3 / 32 = 13 := by decide
/-- 14_dram.md, the example of address order 0: address 0x0A5C3DE0C0. -/
theorem test_dram_address_example : hall.dmc.coord 0x0A5C3DE0C0 = { ch := 1, sub := 1, rank := 0, cid := 0, bg := 3, ba := 0, row := 0xA5C3, col := 0x6F } := by decide +kernel
/-- 11_die_redundancy.md, the example of R317 to R319: N = 40 members, width 16, row 5, position 7. -/
def bandB : Band := { (default : Band) with kind := .user, state := .opened, bsn := 1, members := (List.range 40).map fun n => (n, 0), nsid := 1, width := 16, par := .p }
theorem test_stripe_example : stripeCount 40 16 = 3 ∧ stripeSize 40 16 0 = 14 ∧ stripeSize 40 16 1 = 13 ∧ stripeStart 40 16 1 = 14 ∧ stripeStart 40 16 2 = 27 ∧
    mapped.permIdx bandB 5 7 = 3 ∧ mapped.pOrdinal bandB 5 7 1 13 = 3 ∧ stripeClass .p 13 = .p := by decide +kernel
/-- 10_codec.md, the example of R279: an age of 13,390 h falls in bucket 14. -/
theorem test_age_bucket_example : { mapped with cdx := { mapped.cdx with theta := BitVec.ofNat 64 (13390 * 3600000) } }.ageBucket bandB = 14 := by decide +kernel
/-- 19_register_maps.md: COMPLETION_MODE of NSID 600 is object 0x2502.57, slice 700's WR_FLOOR is 0x82BC.12, window 300's objects are at 0x2E2C. -/
theorem test_object_example : { mapped with sheet := [(sheetKey 0x2502 0x57, 1)] }.protectedNs 600 = true ∧ mapped.protectedNs 600 = false ∧
    { mapped with sheet := [(sheetKey 0x82BC 0x12, 5)] }.sliceObj Ob.WR_FLOOR 700 = 5 ∧ (objAt 0x2E2C 1).isSome = true ∧ (objAt 0x2E2C 9).isNone = true := by decide +kernel
/-- 05_tenancy.md, the example of R140: forty slices with RD_FLOOR 2,400 MB/s and an admission limit of 100,000; slice 7 may have 6,000, then slice 8 not 3,000. -/
def forty (seven eight : Nat) : State := { hall with sheet := (sheetKey Ob.ADMIT_RD_MBPS.idx Ob.ADMIT_RD_MBPS.sub, 100000) ::
  ((List.range 40).flatMap fun n => [(sheetKey (0x8001 + n) 1, 1 + n), (sheetKey (0x8001 + n) Ob.RD_FLOOR.sub, if n = 7 then seven else if n = 8 then eight else 2400)]) }
theorem test_floor_example : (forty 6000 2400).floorsOk 8 ((List.range 40).map (· + 1)) = true ∧ (forty 6000 3000).floorsOk 9 ((List.range 40).map (· + 1)) = false := by decide +kernel
/-- 17_management.md, the example of R475 and R477: FLEET_SET steps fleet time to F; a PTM dialog 40 ms off steps it and makes FLEET_SRC 2; 300 ns are slewed. -/
def fleetSetS : State := { tagged with tbu := { tagged.tbu with fleet := 1000, fleetSrc := 1 } }
theorem test_fleet_example : (match exec (.ptmDialog (some 40000000)) fleetSetS with | .next t => t.tbu.fleet.toNat == 1000 + 40000000 && t.tbu.fleetSrc == 2 | _ => false) = true ∧
    (match exec (.ptmDialog (some 300)) fleetSetS with | .next t => t.tbu.fleet.toNat == 1000 && t.tbu.slewLeft == 4000000 * 300 | _ => false) = true := by decide +kernel
/-- 00_scope.md, the example of R7: a violation in the tick of the clear leaves OWNER set. -/
theorem test_rw1c_example : (((RegFile.initial.flag Fld.GAL_ERR_STS.OWNER 0 0 1).write Fld.GAL_ERR_STS.OWNER 0 0 1).get Fld.GAL_ERR_STS.OWNER 0 0) = 1 := by decide

/-! ## Single steps -/

/-- An empty queue: one tick passes (log entry 2). -/
theorem test_tick : (match step State.reset with | .next t => t.tbu.tick == 1 && t.pending == [] | _ => false) = true := by decide +kernel
/-- R97: a doorbell from tail 1 to tail 15 of a 16-entry queue brings 14 entries; value 16 is out of range. -/
theorem test_doorbell : (match exec (.doorbellWrite 0 1 false 15 none) queued with | .next t => (Tbl.getD t.qen.sqs 0 default).tail == 15 && (Tbl.getD t.qen.sqs 0 default).arrivals.length == 15 | _ => false) = true ∧
    (match exec (.doorbellWrite 0 1 false 16 none) queued with | .next t => (Tbl.getD t.qen.sqs 0 default).tail == 1 | _ => false) = true := by decide +kernel
/-- R95, Table 7.2: a read of an UNMAPPED granule is READY with status 0 and a read past the end ends with LBA Out of Range. -/
theorem test_read : (match exec (.read 3) (mappedIo 2 .fetched) with | .next t => (Tbl.getD t.qen.ctxs 3 default).state == .ready && (Tbl.getD t.qen.ctxs 3 default).status == 0 | _ => false) = true ∧
    (match exec (.read 3) (withCtx mapped 3 (wide 2 1024 0)) with | .next t => (Tbl.getD t.qen.ctxs 3 default).status == stLbaRange | _ => false) = true := by decide +kernel
/-- R198: a committed host delta sets the granule's entry. -/
theorem test_map_commit : (match exec .mapCommit (withDelta (deltaA 1 none) []) with | .next t => t.mxe.entry 1 5 == entryAt 1 ⟨0, 4, 3, 2⟩ && t.mxe.deltas == [] && t.mxe.jbuf.length == 1 | _ => false) = true := by decide +kernel
/-- R424: the taker of a cut owns epoch E + 1. -/
theorem test_epoch_take : (match exec .epochTake (inGap .planned) with | .next t => t.ccl.epoch == 2 && t.ccl.owner == .b && t.ccl.gap.isNone | _ => false) = true := by decide +kernel
/-- R441: a WP write without loader mode sets bits and clears none; sector 31's bit is set. -/
theorem test_wp_write : (match exec (.wpWrite .a 0 0 0x80000000) stair with | .next t => t.csu.wp.getLsbD 31 && !t.csu.wp.getLsbD 30 | _ => false) = true ∧
    (match exec (.wpWrite .a 0 0 0) { stair with csu := { stair.csu with wp := 0x80000000 } } with | .next t => t.csu.wp.getLsbD 31 | _ => false) = true := by decide +kernel
/-- Table 14.3 and the fault of a DRAM address past the capacity. -/
theorem test_dram_fault : (match exec (.dramRequest (accA 68719476736) .clean) hall with | .fault (.noDramAddress a) => a == 68719476736 | _ => false) = true := by decide +kernel

/-! ## Pins -/

/-- Table 2.7: the Foyer column after reset, the Hall column in Hall, and WP_N in Stair before the write guard is armed. -/
theorem test_pins : State.reset.txPins = .idle ∧ State.reset.cePins 3 = .high ∧ State.reset.wpPins 3 = .low ∧ State.reset.ramResetPin = .low ∧
    State.reset.sidebandPins = .active ∧ State.reset.holdupPin = .low ∧ hall.txPins = .active ∧ hall.wpPins 3 = .high ∧ hall.ramResetPin = .high ∧
    { stair with fca := Fca.initial }.wpPins 3 = .low ∧ dark.txPins = .z ∧ dark.sidebandPins = .z := by decide +kernel
end Sys2Proof.Tests.Slice0
end

section
/-! PROOFS. Register fields by their access codes (Table 0.1, R4, R7, R8): the bits that a write of an RW1C field leaves, what one tick's hardware events leave of them, and what a read leaves of an RC field. -/

namespace Sys2Proof.Machine

/-! ## Bits of a number -/

theorem bitAt_eq_testBit (v n : Nat) : bitAt v n = v.testBit n :=
  Nat.testBit_eq_decide_div_mod_eq.symm

theorem bitAt_or (v m n : Nat) : bitAt (v ||| m) n = (bitAt v n || bitAt m n) := by
  simp [bitAt_eq_testBit]

theorem bitAt_mod_two_pow (v : Nat) {w n : Nat} (h : n < w) : bitAt (v % 2 ^ w) n = bitAt v n := by
  simp [bitAt_eq_testBit, h]

/-- Masking one bit of a field away clears that bit and no other. -/
theorem bitAt_mask (v : Nat) {w i b : Nat} (hi : i < w) (hb : b < w) :
    bitAt (v &&& (2 ^ w - 1 - 2 ^ i)) b = (bitAt v b && !decide (b = i)) := by
  have e : 2 ^ w - 1 - 2 ^ i = 2 ^ w - (2 ^ i + 1) := by omega
  simp [bitAt_eq_testBit, e, Nat.testBit_two_pow_sub_succ (Nat.pow_lt_pow_right one_lt_two hi), hb, Nat.testBit_two_pow, eq_comm]

/-- The bits that a write of 1 clears, one after the other (R7): those of the list for which `p` holds. -/
theorem bitAt_foldl_mask (p : Nat → Bool) {w b : Nat} (hb : b < w) (l : List Nat) (hl : ∀ i ∈ l, i < w) (v : Nat) :
    bitAt (l.foldl (fun acc i => if p i then acc &&& (2 ^ w - 1 - 2 ^ i) else acc) v) b = (bitAt v b && !(decide (b ∈ l) && p b)) := by
  induction l generalizing v with
  | nil => simp
  | cons i l ih =>
    have hi : i < w := hl i (by simp)
    rw [List.foldl_cons, ih fun j hj => hl j (by simp [hj])]
    by_cases hp : p i
    · rw [if_pos hp, bitAt_mask v hi hb]
      by_cases e : b = i
      · simp [e, hp]
      · simp [e]
    · rw [if_neg hp]
      by_cases e : b = i
      · simp [e, hp]
      · simp [e]

namespace RegFile

/-! ## Writes -/

theorem write_of_stored (r : RegFile) {f : Field} (h : f.acc = .rw ∨ f.acc = .rws) (i w v : Nat) : r.write f i w v = r.put f i w v := by
  rcases h with h | h <;> simp [write, h]

theorem write_of_unwritten (r : RegFile) {f : Field} (h : f.acc = .ro ∨ f.acc = .rc ∨ f.acc = .wo) (i w v : Nat) : r.write f i w v = r := by
  rcases h with h | h | h <;> simp [write, h]

/-- R7: a write of 1 clears a bit, but for one that hardware set in this tick. -/
theorem bitAt_write_rw1c (r : RegFile) {f : Field} (h : f.acc = .rw1c) (i w v : Nat) {b : Nat} (hb : b < f.width) :
    bitAt ((r.write f i w v).get f i w) b = (bitAt (r.get f i w) b && !(bitAt v b && !bitAt (Tbl.getD r.hwSet (f.key i w) 0) b)) := by
  simp only [write, h]
  rw [get_put_same, bitAt_mod_two_pow _ hb,
    bitAt_foldl_mask (fun j => bitAt v j && !bitAt (Tbl.getD r.hwSet (f.key i w) 0) j) hb _ (fun _ => List.mem_range.mp)]
  simp [hb]

theorem get_write_other (r : RegFile) (f g : Field) (i w v j x : Nat) (h : f.key i w ≠ g.key j x) :
    (r.write f i w v).get g j x = r.get g j x := by
  unfold write
  split
  case h_1 | h_2 | h_3 => exact get_put_other _ _ _ _ _ _ _ _ h.symm
  all_goals rfl

/-! ## Hardware events and reads of the same tick -/

theorem hwSet_flag_same (r : RegFile) (f : Field) (i w n : Nat) :
    Tbl.getD (r.flag f i w n).hwSet (f.key i w) 0 = Tbl.getD r.hwSet (f.key i w) 0 ||| n := Tbl.getD_put_same _ _ _ _

theorem bitAt_flag_same (r : RegFile) (f : Field) (i w n : Nat) {b : Nat} (hb : b < f.width) (hn : bitAt n b = true) :
    bitAt ((r.flag f i w n).get f i w) b = true := by
  rw [get_flag_same, bitAt_mod_two_pow _ hb, bitAt_or, hn, Bool.or_true]

theorem get_rcClear_same (r : RegFile) (f : Field) (i w : Nat) : (r.rcClear f i w).get f i w = Tbl.getD r.rcAdd (f.key i w) f.reset :=
  Tbl.getD_setD_same _ _ _ _

theorem get_rcClear_other (r : RegFile) (f g : Field) (i w j x : Nat) (h : f.key i w ≠ g.key j x) :
    (r.rcClear f i w).get g j x = r.get g j x := Tbl.getD_setD_ne _ _ _ _ _ _ h.symm

/-- R8: outside a tick with additions the field is read as it stands. -/
theorem rcRead_of_no_pre (r : RegFile) (f : Field) (i w : Nat) (h : Tbl.find? r.rcPre (f.key i w) = none) :
    r.rcRead f i w = r.get f i w := by
  simp [rcRead, h]

/-- R8: the tick's first addition keeps the value from before it for a read. -/
theorem rcRead_count (r : RegFile) (f : Field) (i w n : Nat) (h : Tbl.find? r.rcPre (f.key i w) = none) :
    (r.count f i w n).rcRead f i w = r.get f i w := by
  simp [rcRead, count, Tbl.has, h, Tbl.find?_put_same]

theorem rcAdd_count_same (r : RegFile) (f : Field) (i w n : Nat) :
    Tbl.find? (r.count f i w n).rcAdd (f.key i w) = some (min (2 ^ f.width - 1) (Tbl.getD r.rcAdd (f.key i w) 0 + n)) :=
  Tbl.find?_put_same _ _ _

end RegFile

/-- Settles O10, one access code after the other: Table 0.1 through the laws of `RegFile`. -/
theorem fieldAccessFollowsItsAccessCode : Obligations.FieldAccessFollowsItsAccessCode := by
  intro r f i w v n
  refine ⟨fun h => ?_, fun h b hb => r.bitAt_write_rw1c h i w v hb, fun h => r.write_of_unwritten h i w v, fun g j x h => ?_,
    r.get_count_same f i w n, r.get_flag_same f i w n, fun h b hb hn => ?_, fun hpre hadd => ?_⟩
  · rw [r.write_of_stored h, RegFile.get_put_same]
  · exact ⟨r.get_write_other f g i w v j x h, r.get_count_other g f j x i w n h.symm, r.get_flag_other g f j x i w n h.symm,
      r.get_rcClear_other f g i w j x h⟩
  · refine ⟨?_, RegFile.bitAt_flag_same _ f i w n hb hn⟩
    rw [RegFile.bitAt_write_rw1c _ h i w v hb, RegFile.bitAt_flag_same r f i w n hb hn, RegFile.hwSet_flag_same, bitAt_or, hn]
    simp
  · refine ⟨r.rcRead_count f i w n hpre, ?_, r.rcRead_of_no_pre f i w hpre, ?_⟩
    · rw [RegFile.get_rcClear_same, Tbl.getD, RegFile.rcAdd_count_same]
      simp [Tbl.getD, hadd]
    · rw [RegFile.get_rcClear_same, Tbl.getD, hadd, Option.getD_none]

end Sys2Proof.Machine
end

section
/-! PROOFS. Register and memory accesses (R4, R40, R69, R181, R421, R496 to R504): what an address reaches, what a write of one word does, and O11. -/

namespace Sys2Proof.Machine

/-! ## Frames -/

/-- A state that differs from `s` in the parts of `m` only, written out: the parts outside `m` are those of `s`. -/
theorem Touch.eq_masked {m : Nat} {s t : State} (h : Touch m s t) : t =
    { pending := s.pending
      out := if m &&& 1 = 0 then s.out else t.out, freeCnt := if m &&& 2 = 0 then s.freeCnt else t.freeCnt
      timers := if m &&& 4 = 0 then s.timers else t.timers, tbu := if m &&& 8 = 0 then s.tbu else t.tbu
      power := if m &&& 16 = 0 then s.power else t.power, regf := if m &&& 32 = 0 then s.regf else t.regf
      sheet := if m &&& 64 = 0 then s.sheet else t.sheet, sheetOld := if m &&& 128 = 0 then s.sheetOld else t.sheetOld
      hlu := if m &&& 256 = 0 then s.hlu else t.hlu, qen := if m &&& 512 = 0 then s.qen else t.qen
      tnu := if m &&& 1024 = 0 then s.tnu else t.tnu, gal := if m &&& 2048 = 0 then s.gal else t.gal
      mxe := if m &&& 4096 = 0 then s.mxe else t.mxe, dsc := if m &&& 8192 = 0 then s.dsc else t.dsc
      fca := if m &&& 16384 = 0 then s.fca else t.fca, cdx := if m &&& 32768 = 0 then s.cdx else t.cdx
      spe := if m &&& 65536 = 0 then s.spe else t.spe, hum := if m &&& 131072 = 0 then s.hum else t.hum
      bpm := if m &&& 262144 = 0 then s.bpm else t.bpm, dmc := if m &&& 524288 = 0 then s.dmc else t.dmc
      ccl := if m &&& 1048576 = 0 then s.ccl else t.ccl, csu := if m &&& 2097152 = 0 then s.csu else t.csu
      mgp := if m &&& 4194304 = 0 then s.mgp else t.mgp, cru := if m &&& 8388608 = 0 then s.cru else t.cru } := by
  obtain ⟨_, _⟩ := h
  cases t
  simp_all

theorem State.eq_of_epochRefuse (unit kind : Nat) (e : BitVec 8) (s : State) :
    s.epochRefuse unit kind e = { s with regf := (s.epochRefuse unit kind e).regf, cru := (s.epochRefuse unit kind e).cru } :=
  (State.epochRefuse_touch _ _ _ s (m := 8388640) rfl (Touch.refl _ s)).eq_masked

theorem State.eq_of_urTlp (np : Bool) (s : State) : s.urTlp np =
    { s with out := (s.urTlp np).out, hlu := (s.urTlp np).hlu, regf := (s.urTlp np).regf, cru := (s.urTlp np).cru } :=
  (State.urTlp_touch _ s (m := 8388897) rfl (Touch.refl _ s)).eq_masked

/-! ## Little-endian bytes in a memory -/

@[simp] theorem length_leBytes (n v : Nat) : (leBytes n v).length = n := by
  induction n generalizing v with
  | zero => rfl
  | succ n ih => simp [leBytes, ih]

theorem getElem_leBytes {n i : Nat} (v : Nat) (h : i < (leBytes n v).length) : (leBytes n v)[i] = BitVec.ofNat 8 (v / 256 ^ i) := by
  induction n generalizing v i with
  | zero => simp at h
  | succ n ih =>
    cases i with
    | zero => simp [leBytes]
    | succ i => simp only [leBytes, List.getElem_cons_succ, ih, Nat.div_div_eq_div_mul, Nat.pow_succ']

theorem Memory.read_writeAll_leBytes (d : Byte) (m : List Host.Cell) (a v : Nat) {i n : Nat} (h : i < n) :
    Memory.read d (Memory.writeAll d m a (leBytes n v)) (a + i) = BitVec.ofNat 8 (v / 256 ^ i) := by
  rw [Memory.read_writeAll_inside d _ m a i (by simpa using h), getElem_leBytes]

theorem Memory.read_writeAll_leBytes_other (d : Byte) (m : List Host.Cell) (a v : Nat) {n x : Nat} (h : x < a ∨ a + n ≤ x) :
    Memory.read d (Memory.writeAll d m a (leBytes n v)) x = Memory.read d m x :=
  Memory.read_writeAll_other d _ m a x (by simpa using h)

/-- With every byte enabled, a word is stored as its four bytes. -/
theorem putBytes_enabledBytes_all (d : Byte) (m : List Host.Cell) (a : Nat) (w : Word) :
    putBytes d m a (enabledBytes w 0xF) = Memory.writeAll d m a (leBytes 4 w.toNat) := by
  have e : enabledBytes w 0xF = [(0, BitVec.ofNat 8 w.toNat), (1, BitVec.ofNat 8 (w.toNat / 256)),
      (2, BitVec.ofNat 8 (w.toNat / 256 / 256)), (3, BitVec.ofNat 8 (w.toNat / 256 / 256 / 256))] := by
    have b : ∀ k, BitVec.ofNat 8 (bitsOf w.toNat (8 * k + 7) (8 * k)) = BitVec.ofNat 8 (w.toNat / 2 ^ (8 * k)) := fun k => by
      apply BitVec.eq_of_toNat_eq
      simp [bitsOf, show 8 * k + 7 + 1 - 8 * k = 8 by omega]
    simp [enabledBytes, List.range_succ, b, Nat.div_div_eq_div_mul]
  rw [e]
  rfl

/-- The low word of a doubleword has its low four bytes. -/
theorem ofNat_byte_of_low_word (v : Nat) {i : Nat} (h : i < 4) : BitVec.ofNat 8 (v % 2 ^ 32 / 256 ^ i) = BitVec.ofNat 8 (v / 256 ^ i) := by
  apply BitVec.eq_of_toNat_eq
  simp only [BitVec.toNat_ofNat]
  interval_cases i <;> omega

/-! ## What an address reaches -/

namespace State

theorem firmwarePlace_readOnly (s : State) {a : Nat} (h : (0x1000000 ≤ a ∧ a < 0x1020000) ∨ (0x10000000 ≤ a ∧ a < 0x120FC000)) :
    s.firmwarePlace a = .rom ∨ ∃ o, s.firmwarePlace a = .flash o := by
  unfold firmwarePlace
  rw [if_neg (by omega)]
  by_cases hr : a < 0x1020000
  · exact .inl (if_pos (by omega))
  · refine .inr ?_
    rw [if_neg (by omega)]
    by_cases hf : a < 0x12000000
    · exact ⟨_, if_pos (by omega)⟩
    · rw [if_neg (by omega)]
      exact ⟨_, if_pos (by omega)⟩

theorem firmwarePlace_reg (s : State) {a : Nat} (h : 0x20000000 ≤ a) (h' : a < 0x21100000) : s.firmwarePlace a = .reg a := by
  unfold firmwarePlace
  rw [if_neg (by omega), if_neg (by omega), if_neg (by omega), if_neg (by omega), if_pos (by omega)]

theorem firmwarePlace_sram (s : State) {a : Nat} (h : 0x40000000 ≤ a) (h' : a < 0x44000000) : s.firmwarePlace a = .sram (a - 0x40000000) := by
  unfold firmwarePlace
  rw [if_neg (by omega), if_neg (by omega), if_neg (by omega), if_neg (by omega), if_neg (by omega), if_neg (by omega), if_pos (by omega)]

theorem firmwarePlace_outside (s : State) {a : Nat} (h : 0x44000000 ≤ a) (h' : a < 0x8000000000) : s.firmwarePlace a = .outside := by
  unfold firmwarePlace
  rw [if_neg (by omega), if_neg (by omega), if_neg (by omega), if_neg (by omega), if_neg (by omega), if_neg (by omega), if_neg (by omega),
    if_neg (by omega)]

end State

theorem hostPlace_msix {fn a : Nat} (hfn : fn ≠ 0) (h : 0xE000 ≤ a) (h' : a < 0xF020) : hostPlace fn 0 a = .msix fn (a - 0xE000) := by
  unfold hostPlace
  rw [if_pos rfl, if_neg (by omega), if_pos hfn, if_pos ⟨h, h'⟩]

theorem hostPlace_nothing {fn a : Nat} (hfn : fn ≠ 0) (h : 0x1000 ≤ a) (h' : a < 0xE000) : hostPlace fn 0 a = .nothing := by
  unfold hostPlace
  rw [if_pos rfl, if_neg (by omega), if_pos hfn, if_neg (by omega)]

/-! ## Firmware writes -/

theorem exec_registerWrite_firmware (s : State) (k : Cluster) (pair a n : Nat) (ep be : BitVec 8) (data : Dword) :
    exec (.registerWrite (.firmware k pair ep) a n data be) s = .next (s.firmwareWrite k pair ep a n data) := rfl

theorem exec_registerWrite_host (s : State) (fn bar a n : Nat) (be : BitVec 8) (data : Dword) :
    exec (.registerWrite (.host fn bar) a n data be) s = .next (s.hostWrite fn bar a n data be) := rfl

namespace State

section
variable (s : State) (k : Cluster) (pair a n : Nat) (ep : BitVec 8) (data : Dword)

theorem firmwareWord_of_epochOk (who : Accessor) (w : Word) (h : s.epochOk ep = true) :
    s.firmwareWord who ep a w = s.writeReg (s.viewOf who) false ep a w 0xF := by simp [firmwareWord, h]

theorem firmwareWord_of_not_epochOk (who : Accessor) (w : Word) (h : s.epochOk ep = false) :
    s.firmwareWord who ep a w = s.epochRefuse ((a - 0x20000000) / 0x100000) epochKindWrite ep := by simp [firmwareWord, h]

theorem firmwareWrite_busError (h : 0x20000000 ≤ a) (h' : a < 0x21100000) (bad : a % n ≠ 0 ∨ (n ≠ 4 ∧ n ≠ 8)) :
    s.firmwareWrite k pair ep a n data = s.emit (.busError k pair) := by
  simp only [firmwareWrite, s.firmwarePlace_reg h h', if_pos bad]

theorem firmwareWrite_word (h : 0x20000000 ≤ a) (h' : a < 0x21100000) (al : a % 4 = 0) :
    s.firmwareWrite k pair ep a 4 data = s.firmwareWord (.firmware k pair ep) ep a (BitVec.ofNat 32 data.toNat) := by
  simp [firmwareWrite, s.firmwarePlace_reg h h', al]

theorem firmwareWrite_dword (h : 0x20000000 ≤ a) (h' : a < 0x21100000) (al : a % 8 = 0) :
    s.firmwareWrite k pair ep a 8 data = (s.firmwareWord (.firmware k pair ep) ep a (BitVec.ofNat 32 data.toNat)).modRegf fun f =>
      { f with split := f.split ++ [(.firmware k pair ep, a + 4, BitVec.ofNat 32 (data.toNat / 2 ^ 32))] } := by
  simp [firmwareWrite, s.firmwarePlace_reg h h', al]

theorem firmwareWrite_sram (h : 0x40000000 ≤ a) (h' : a < 0x44000000) :
    s.firmwareWrite k pair ep a n data = s.modBpm fun b => b.sramWrite (a - 0x40000000) (leBytes n data.toNat) := by
  simp only [firmwareWrite, s.firmwarePlace_sram h h', firmwareStore, firmwareBytes]

theorem firmwareWrite_readOnly (h : (0x1000000 ≤ a ∧ a < 0x1020000) ∨ (0x10000000 ≤ a ∧ a < 0x120FC000)) :
    s.firmwareWrite k pair ep a n data = s := by
  rcases s.firmwarePlace_readOnly h with hp | ⟨o, hp⟩ <;> simp only [firmwareWrite, hp, firmwareStore]

theorem firmwareWrite_outside (h : 0x44000000 ≤ a) (h' : a < 0x8000000000) :
    s.firmwareWrite k pair ep a n data = s.emit (.busError k pair) := by
  simp only [firmwareWrite, s.firmwarePlace_outside h h', firmwareStore]

end

/-! ## The die selector, a register whose whole effect is its stored field -/

/-- A register with one field, which no unit computes, takes a written word in that field. -/
theorem regStore_single (s : State) (v : View) (w : Word) {f : Field} (hb : regBase f.reg = (f.reg, 0)) (hf : fieldsAt f.reg = [f])
    (hl : s.live v f 0 0 = none) :
    s.regStore v f.reg w false = s.modRegf fun r => r.write f (s.instOf v f 0) 0 (bitsOf w.toNat f.msb f.lsb) := by
  simp [regStore, hb, hf, hl]

/-- A write of DSC_DIE_SEL stores the writing cluster's DIE (Table 19.5) and starts nothing. -/
theorem writeReg_dieSel (s : State) (v : View) (ep : BitVec 8) (w : Word) :
    s.writeReg v false ep 0x20600110 w 0xF = s.modRegf fun r => r.put Fld.DSC_DIE_SEL.DIE v.inst 0 (bitsOf w.toNat 9 0) := by
  have notLive : s.live v Fld.DSC_DIE_SEL.DIE 0 0 = none := by simp [live, Fld.DSC_DIE_SEL.DIE, dscLive]
  have store : s.regStore v 0x20600110 w false = s.modRegf fun r => r.put Fld.DSC_DIE_SEL.DIE v.inst 0 (bitsOf w.toNat 9 0) :=
    s.regStore_single v w (f := Fld.DSC_DIE_SEL.DIE) rfl (by decide) notLive
  simp [writeReg, dataArea, testReg, regAct, store]

/-! ## A refused command's record -/

theorem fld_count_same (s : State) (f : Field) (i n : Nat) : (s.count f i n).fld f i = min (2 ^ f.width - 1) (s.fld f i + n) :=
  RegFile.get_count_same _ _ _ _ _

theorem fld_count_other (s : State) (f g : Field) (i j n : Nat) (h : f.key i 0 ≠ g.key j 0) : (s.count g j n).fld f i = s.fld f i :=
  RegFile.get_count_other _ _ _ _ _ _ _ _ h

theorem fld_epochRefuse_refused (s : State) (unit kind : Nat) (e : BitVec 8) : (s.epochRefuse unit kind e).fld Fld.CCL_CUT_CNT.REFUSED =
    min (2 ^ Fld.CCL_CUT_CNT.REFUSED.width - 1) (s.fld Fld.CCL_CUT_CNT.REFUSED + 1) := by
  rw [epochRefuse, fld_trigger _ _ _ _ _ _ _ (by decide) (by decide), fld_count_same]

theorem fld_epochRefuse_other (s : State) (unit kind : Nat) (e : BitVec 8) (f : Field) (i : Nat)
    (hr : f.key i 0 ≠ Fld.CCL_CUT_CNT.REFUSED.key 0 0) (ht : f.key i 0 ≠ Fld.CRU_TRIG_CNT.COUNT.key 0x1A 0)
    (hm : f.key i 0 ≠ Fld.CRU_MISSED.COUNT.key 0 0) : (s.epochRefuse unit kind e).fld f i = s.fld f i := by
  rw [epochRefuse, fld_trigger _ _ _ _ _ _ _ ht hm, fld_count_other _ _ _ _ _ _ hr]

theorem fld_epochRefuse_dieSel (s : State) (unit kind : Nat) (e : BitVec 8) (k : Cluster) :
    (s.epochRefuse unit kind e).fld Fld.DSC_DIE_SEL.DIE (clusterNo k) = s.fld Fld.DSC_DIE_SEL.DIE (clusterNo k) := by
  cases k <;> exact s.fld_epochRefuse_other unit kind e _ _ (by decide) (by decide) (by decide)

/-! ## Host writes -/

@[simp] theorem fnOpen_arrive (s : State) (n fn : Nat) : (s.arrive n).fnOpen fn = s.fnOpen fn := rfl

section
variable (s : State) (fn bar a n : Nat) (data : Dword) (be : BitVec 8)

theorem hostWrite_held (h : s.postedHeld = true) : s.hostWrite fn bar a n data be = s := by simp [hostWrite, h]

theorem hostWrite_word (h : s.postedHeld = false) (ho : s.fnOpen fn = true) (hn : n ≠ 8) : s.hostWrite fn bar a n data be =
    (s.arrive n).hostWord (.host fn bar) fn bar a (BitVec.ofNat 32 data.toNat) (BitVec.ofNat 4 be.toNat) := by
  simp [hostWrite, h, ho, hn]

theorem hostWrite_dword (h : s.postedHeld = false) (ho : s.fnOpen fn = true) (hb : be.toNat / 16 = 15) : s.hostWrite fn bar a 8 data be =
    ((s.arrive 8).hostWord (.host fn bar) fn bar a (BitVec.ofNat 32 data.toNat) (BitVec.ofNat 4 be.toNat)).modRegf fun f =>
      { f with split := f.split ++ [(.host fn bar, a + 4, BitVec.ofNat 32 (data.toNat / 2 ^ 32))] } := by
  simp [hostWrite, h, ho, hb]

theorem hostWrite_closed (h : s.postedHeld = false) (ho : s.fnOpen fn = false) :
    s.hostWrite fn bar a n data be = (s.arrive n).urTlp false := by simp [hostWrite, h, ho]

end

theorem hostWord_msix (s : State) (who : Accessor) {fn a : Nat} (w : Word) (hfn : fn ≠ 0) (h : 0xE000 ≤ a) (h' : a < 0xF020) :
    s.hostWord who fn 0 a w 0xF =
      s.modHlu fun l => { l with msix := Memory.writeAll 0 l.msix (65536 * fn + (a - 0xE000)) (leBytes 4 w.toNat) } := by
  simp only [hostWord, hostPlace_msix hfn h h', putBytes_enabledBytes_all]

theorem hostWord_nothing (s : State) (who : Accessor) {fn a : Nat} (w : Word) (be : BitVec 4) (hfn : fn ≠ 0) (h : 0x1000 ≤ a) (h' : a < 0xE000) :
    s.hostWord who fn 0 a w be = s := by
  simp only [hostWord, hostPlace_nothing hfn h h']

/-! ## Unsupported Requests -/

theorem urTlp_hlu (s : State) (np : Bool) : (s.urTlp np).hlu = { s.hlu with aer := .unsupported :: s.hlu.aer } := by
  cases np <;> simp [urTlp, aerLog, AerError.severity, complete]

theorem urTlp_posted_out (s : State) : (s.urTlp false).out = .aer .unsupported .nonFatal :: s.out := by
  simp [urTlp, aerLog, AerError.severity]

theorem urTlp_nonPosted_out (s : State) :
    (s.urTlp true).out = .tlpCompletion .ur [] s.hlu.ecrcGen :: .aer .unsupported .nonFatal :: s.out := by
  simp [urTlp, aerLog, AerError.severity, complete]

end State

/-! ## The accesses that O11 names -/

namespace State

theorem firmwareWrite_dieSel (s : State) (k : Cluster) (pair : Nat) (ep : BitVec 8) (data : Dword) (h : s.epochOk ep = true) :
    s.firmwareWrite k pair ep 0x20600110 4 data = s.modRegf fun r => r.put Fld.DSC_DIE_SEL.DIE (clusterNo k) 0 (data.toNat % 1024) := by
  have low : bitsOf (BitVec.ofNat 32 data.toNat).toNat 9 0 = data.toNat % 1024 := by simp [bitsOf]
  rw [s.firmwareWrite_word k pair _ ep data (by decide) (by decide) (by decide), s.firmwareWord_of_epochOk _ ep _ _ h, writeReg_dieSel, low, viewOf]

theorem firmwareWrite_dieSel_refused (s : State) (k : Cluster) (pair : Nat) (ep : BitVec 8) (data : Dword) (h : s.epochOk ep = false) :
    s.firmwareWrite k pair ep 0x20600110 4 data = s.epochRefuse UnitNo.dsc epochKindWrite ep := by
  rw [s.firmwareWrite_word k pair _ ep data (by decide) (by decide) (by decide), s.firmwareWord_of_not_epochOk _ ep _ _ h, UnitNo.dsc]

theorem hostWrite_msix (s : State) {fn a : Nat} (data : Dword) (hp : s.postedHeld = false) (ho : s.fnOpen fn = true)
    (hfn : fn ≠ 0) (h : 0xE000 ≤ a) (h' : a < 0xF01D) : s.hostWrite fn 0 a 4 data 0xF = (s.arrive 4).modHlu fun l =>
      { l with msix := Memory.writeAll 0 l.msix (65536 * fn + (a - 0xE000)) (leBytes 4 (data.toNat % 2 ^ 32)) } := by
  rw [s.hostWrite_word fn 0 a 4 data 0xF hp ho (by decide), ← BitVec.toNat_ofNat]
  exact hostWord_msix _ _ _ hfn h (by omega)

end State

/-- Settles O11, place by place: Table 19.3 for the firmware, Tables 19.1 and 19.2 for the host. -/
theorem registerWritesReachTheirPlaces : Obligations.RegisterWritesReachTheirPlaces := by
  refine ⟨fun s k pair ep be data => ?firmware, fun s fn size data be => ?host⟩
  case firmware =>
    simp only [exec_registerWrite_firmware]
    refine ⟨fun a h h' he => ⟨fun al => ?word, fun al => ?dword⟩, fun he => ?inEpoch, fun he => ?refused, fun a n h h' bad => ?busError,
      fun a n h h' => ?sram, fun a n h => ?readOnly, fun a n h h' => ?outside⟩
    case word => rw [s.firmwareWrite_word k pair a ep data h h' al, s.firmwareWord_of_epochOk a ep _ _ he]
    case dword => rw [s.firmwareWrite_dword k pair a ep data h h' al, s.firmwareWord_of_epochOk a ep _ _ he]
    case inEpoch =>
      refine ⟨_, congrArg _ (s.firmwareWrite_dieSel k pair ep data he), (RegFile.get_put_same _ _ _ _ _).trans ?_,
        fun f i hf => RegFile.get_put_other _ _ _ _ _ _ _ _ hf, rfl⟩
      exact Nat.mod_eq_of_lt (Nat.mod_lt _ (by decide))
    case refused =>
      exact ⟨_, congrArg _ (s.firmwareWrite_dieSel_refused k pair ep data he), s.fld_epochRefuse_refused _ _ _,
        s.fld_epochRefuse_dieSel _ _ _ k, s.eq_of_epochRefuse _ _ _⟩
    case busError => exact congrArg _ (s.firmwareWrite_busError k pair a n ep data h h' bad)
    case sram =>
      exact ⟨_, congrArg _ (s.firmwareWrite_sram k pair a n ep data h h'), fun _ hi => Memory.read_writeAll_leBytes _ _ _ _ hi,
        fun _ hx => Memory.read_writeAll_leBytes_other _ _ _ _ hx, rfl⟩
    case readOnly => exact congrArg _ (s.firmwareWrite_readOnly k pair a n ep data h)
    case outside => exact congrArg _ (s.firmwareWrite_outside k pair a n ep data h h')
  case host =>
    simp only [exec_registerWrite_host]
    refine ⟨fun bar a h => ?held, fun bar a h ho hn => ?word, fun bar a h ho hb => ?dword, fun a h ho hfn hl hu => ?msix,
      fun a h ho hfn hl hu => ?nothing, fun bar a h ho => ?closed⟩
    case held => exact congrArg _ (s.hostWrite_held fn bar a size data be h)
    case word => exact congrArg _ (s.hostWrite_word fn bar a size data be h ho hn)
    case dword => exact congrArg _ (s.hostWrite_dword fn bar a data be h ho hb)
    case msix =>
      exact ⟨_, congrArg _ (s.hostWrite_msix data h ho hfn hl hu),
        fun i hi => (Memory.read_writeAll_leBytes _ _ _ _ hi).trans (ofNat_byte_of_low_word data.toNat hi),
        fun _ hx => Memory.read_writeAll_leBytes_other _ _ _ _ hx, rfl⟩
    case nothing =>
      rw [s.hostWrite_word fn 0 a 4 data be h ho (by decide), State.hostWord_nothing _ _ _ _ hfn hl hu]
    case closed =>
      exact ⟨_, congrArg _ (s.hostWrite_closed fn bar a size data be h ho), State.urTlp_hlu _ _, State.urTlp_posted_out _, State.eq_of_urTlp _ _⟩

end Sys2Proof.Machine
end

section
/-! PROOFS. Register reads (R8, R27, R69, R496, R499, Table 1.6): the word that a read answers, its effects on RC fields and upper halves, and O12. -/

namespace Sys2Proof.Machine

theorem exec_rcFieldRead (who : Accessor) (a n : Nat) (s : State) : exec (.rcFieldRead who ⟨a, n⟩) s = .next (s.readWords who a n) := rfl

theorem exec_loRegisterRead (who : Accessor) (a n : Nat) (s : State) : exec (.loRegisterRead who ⟨a, n⟩) s = .next (s.readWords who a n) := rfl

namespace State

/-! ## Firmware reads of a register -/

section
variable (s : State) (k : Cluster) (pair : Nat) (ep : BitVec 8) {a : Nat}

/-- A firmware read answers the register's word and has the read's effects; the production-test registers are left out (R503). -/
theorem readAt_firmware_reg (h : 0x20000000 ≤ a) (h' : a < 0x21100000) (ht : a % 0x100000 < 0xC0000) (al : a % 4 = 0) :
    s.readAt (.firmware k pair ep) a =
      (s.emit (.regData (.firmware k pair ep) a (s.regWord ⟨clusterNo k, pair⟩ a true).toNat)).readEffects ⟨clusterNo k, pair⟩ a := by
  have base : a / 4 * 4 = a := by omega
  have open_ : testReg a = false := by simp [testReg, ht]
  simp [readAt, base, placeOf, s.firmwarePlace_reg h h', al, readPlace, open_, viewOf]

theorem readWords_firmware_word (h : 0x20000000 ≤ a) (h' : a < 0x21100000) (al : a % 4 = 0) :
    s.readWords (.firmware k pair ep) a 4 = s.readAt (.firmware k pair ep) a := by
  simp [readWords, s.firmwarePlace_reg h h', Place.sizeOk, al]

theorem readWords_firmware_dword (h : 0x20000000 ≤ a) (h' : a < 0x21100000) (al : a % 8 = 0) :
    s.readWords (.firmware k pair ep) a 8 =
      (s.readAt (.firmware k pair ep) a).modRegf fun f => { f with splitRd := f.splitRd ++ [(.firmware k pair ep, a + 4)] } := by
  simp [readWords, s.firmwarePlace_reg h h', Place.sizeOk, al]

theorem readWords_firmware_busError {n : Nat} (h : 0x20000000 ≤ a) (h' : a < 0x21100000) (bad : a % n ≠ 0 ∨ (n ≠ 4 ∧ n ≠ 8)) :
    s.readWords (.firmware k pair ep) a n = s.emit (.busError k pair) := by
  have refused : ((n == 4 || n == 8) && a % n == 0) = false := by
    rcases bad with hm | ⟨h4, h8⟩
    · simp [hm]
    · simp [h4, h8]
  simp [readWords, s.firmwarePlace_reg h h', Place.sizeOk, refused]

end

/-- The upper half that a read of a _LO register latches (R27, R499); a read of another register latches nothing. -/
def latchUpper (s : State) (a : Nat) : State :=
  if a = 0x20000010 then s.modTbu fun t => { t with hiLatch := BitVec.ofNat 32 (t.tick.toNat / 2 ^ 32) }
  else if a = 0x20500108 then s.modMxe fun m => { m with dsnHi := BitVec.ofNat 32 (m.nextDsn / 2 ^ 32) }
  else if a = 0x20500110 then s.modMxe fun m => { m with psnHi := BitVec.ofNat 32 (m.psn / 2 ^ 32) }
  else if a = 0x20800120 then s.modCdx fun c => { c with thetaHi := BitVec.ofNat 32 (c.theta.toNat / 2 ^ 32) }
  else if a = 0x21000108 then s.modCru fun c => { c with hiLatch := BitVec.ofNat 32 (c.next / 2 ^ 32) }
  else s

end State

/-! ## Registers that are one field of 32 bits -/

/-- The field is the whole of a register of the unit blocks, outside the header, the rescue window and the production-test registers. -/
structure Field.WholeRegister (f : Field) : Prop where
  low : 0x20000000 ≤ f.reg
  high : f.reg < 0x21100000
  notTest : f.reg % 0x100000 < 0xC0000
  aligned : f.reg % 4 = 0
  notHeader : f.reg % 0x100000 ≠ 0
  notWindow : ¬ (0x20210000 ≤ f.reg ∧ f.reg < 0x20220000)
  base : regBase f.reg = (f.reg, 0)
  only : fieldsAt f.reg = [f]
  lsb : f.lsb = 0
  width : f.width = 32

theorem Fld.collCnt_wholeRegister : Fld.TBU_COLL_CNT.COUNT.WholeRegister := by constructor <;> decide
theorem Fld.tickLo_wholeRegister : Fld.TBU_TICK_LO.COUNT_LO.WholeRegister := by constructor <;> decide
theorem Fld.tickHi_wholeRegister : Fld.TBU_TICK_HI.COUNT_HI.WholeRegister := by constructor <;> decide
theorem Fld.dsnLo_wholeRegister : Fld.MXE_DSN_LO.DSN_LO.WholeRegister := by constructor <;> decide
theorem Fld.psnLo_wholeRegister : Fld.MXE_PSN_LO.PSN_LO.WholeRegister := by constructor <;> decide
theorem Fld.thetaLo_wholeRegister : Fld.CDX_THETA_LO.THETA_LO.WholeRegister := by constructor <;> decide
theorem Fld.rseqLo_wholeRegister : Fld.CRU_RSEQ_LO.RSEQ_LO.WholeRegister := by constructor <;> decide

namespace State

/-! ## The values that units compute for those registers -/

section
variable (s : State) (v : View)

theorem live_tickLo : s.live v Fld.TBU_TICK_LO.COUNT_LO 0 0 = some (s.tbu.tick.toNat % 2 ^ 32) := by simp [live, Fld.TBU_TICK_LO.COUNT_LO]
theorem live_tickHi : s.live v Fld.TBU_TICK_HI.COUNT_HI 0 0 = some s.tbu.hiLatch.toNat := by simp [live, Fld.TBU_TICK_HI.COUNT_HI]
theorem live_dsnLo : s.live v Fld.MXE_DSN_LO.DSN_LO 0 0 = some (s.mxe.nextDsn % 2 ^ 32) := by simp [live, Fld.MXE_DSN_LO.DSN_LO, mxeLive]
theorem live_psnLo : s.live v Fld.MXE_PSN_LO.PSN_LO 0 0 = some (s.mxe.psn % 2 ^ 32) := by simp [live, Fld.MXE_PSN_LO.PSN_LO, mxeLive]
theorem live_thetaLo : s.live v Fld.CDX_THETA_LO.THETA_LO 0 0 = some (s.cdx.theta.toNat % 2 ^ 32) := by simp [live, Fld.CDX_THETA_LO.THETA_LO, cdxLive]
theorem live_rseqLo : s.live v Fld.CRU_RSEQ_LO.RSEQ_LO 0 0 = some (s.cru.next % 2 ^ 32) := by simp [live, Fld.CRU_RSEQ_LO.RSEQ_LO, cruLive]

end

section
variable (s : State) (v : View) {f : Field} (hf : f.WholeRegister)
include hf

theorem regWord_whole (old : Bool) : s.regWord v f.reg old = BitVec.ofNat 32 (s.fieldAt v f f.reg 0 old) := by
  simp [regWord, hf.notHeader, hf.notWindow, hf.base, hf.only, hf.lsb]

theorem readEffects_whole_ro (ha : f.acc = .ro) : s.readEffects v f.reg = s.latchUpper f.reg := by
  simp [readEffects, hf.base, hf.only, ha, latchUpper, modRegf]

theorem readEffects_whole_rc (ha : f.acc = .rc) :
    s.readEffects v f.reg = (s.modRegf fun r => r.rcClear f (s.instOf v f 0) 0).latchUpper f.reg := by
  simp [readEffects, hf.base, hf.only, ha, latchUpper]

/-- A register that a unit computes is answered with its value, and a _LO register latches its upper half. -/
theorem readWords_live (k : Cluster) (pair : Nat) (ep : BitVec 8) {x : Nat} (ha : f.acc = .ro)
    (hx : s.live ⟨clusterNo k, pair⟩ f 0 0 = some x) (hlt : x < 2 ^ 32) : s.readWords (.firmware k pair ep) f.reg 4 =
      (s.emit (.regData (.firmware k pair ep) f.reg x)).latchUpper f.reg := by
  have value : s.fieldAt ⟨clusterNo k, pair⟩ f f.reg 0 true = x := by simpa [fieldAt, ha, hx, hf.width] using hlt
  rw [s.readWords_firmware_word k pair ep hf.low hf.high hf.aligned, s.readAt_firmware_reg k pair ep hf.low hf.high hf.notTest hf.aligned,
    readEffects_whole_ro _ _ hf ha, regWord_whole _ _ hf, value, BitVec.toNat_ofNat, Nat.mod_eq_of_lt hlt]

/-- R8: an RC register is answered with its count from before this tick, and keeps what this tick added. -/
theorem readWords_rc (k : Cluster) (pair : Nat) (ep : BitVec 8) (ha : f.acc = .rc)
    (hi : ∀ t : State, t.instOf ⟨clusterNo k, pair⟩ f 0 = 0) : s.readWords (.firmware k pair ep) f.reg 4 =
      ((s.emit (.regData (.firmware k pair ep) f.reg (s.regf.rcRead f 0 0 % 2 ^ 32))).modRegf fun r => r.rcClear f 0 0).latchUpper f.reg := by
  have value : s.fieldAt ⟨clusterNo k, pair⟩ f f.reg 0 true = s.regf.rcRead f 0 0 := by simp [fieldAt, ha, hi]
  rw [s.readWords_firmware_word k pair ep hf.low hf.high hf.aligned, s.readAt_firmware_reg k pair ep hf.low hf.high hf.notTest hf.aligned,
    readEffects_whole_rc _ _ hf ha, regWord_whole _ _ hf, value, BitVec.toNat_ofNat, hi]

end

/-! ## Host reads -/

section
variable (s : State) {fn bar a n : Nat}

theorem readWords_host_held (h : s.inboundHeld = true) : s.readWords (.host fn bar) a n = s := by simp [readWords, h]

theorem readWords_host_word (h : s.inboundHeld = false) (hn : n = 4) : s.readWords (.host fn bar) a n = s.readAt (.host fn bar) a := by
  simp [readWords, h, hn]

/-- R69: an offset that no register occupies reads 0. -/
theorem readAt_host_nothing (h : s.inboundHeld = false) (ho : s.fnOpen fn = true) (hp : hostPlace fn bar (a / 4 * 4) = .nothing) :
    s.readAt (.host fn bar) a = (s.arrive 0).emit (.regData (.host fn bar) a 0) := by
  simp [readAt, h, ho, placeOf, hp, readPlace]

theorem readAt_host_closed (h : s.inboundHeld = false) (ho : s.fnOpen fn = false) :
    s.readAt (.host fn bar) a = (s.arrive 0).urTlp true := by
  simp [readAt, h, ho]

end

end State

/-- Settles O12: the firmware's reads through `readAt`, the registers of the statement one by one, the host's reads by what they reach. -/
theorem readsClearCountersAndLatchUpperHalves : Obligations.ReadsClearCountersAndLatchUpperHalves := by
  refine ⟨fun s k pair ep i hi => ?words, fun s k pair ep => ?registers, fun s fn bar a n i hi => ?host⟩
  case words =>
    have read : ∀ a n, exec (i ⟨a, n⟩) s = .next (s.readWords (.firmware k pair ep) a n) := by
      rcases hi with rfl | rfl
      · exact fun a n => exec_rcFieldRead _ a n s
      · exact fun a n => exec_loRegisterRead _ a n s
    refine ⟨fun a h h' ht => ⟨fun al => ?word, fun al => ?dword⟩, fun a n h h' bad => ?busError⟩
    case word => rw [read, s.readWords_firmware_word k pair ep h h' al, s.readAt_firmware_reg k pair ep h h' ht al]
    case dword => rw [read, s.readWords_firmware_dword k pair ep h h' al, s.readAt_firmware_reg k pair ep h h' ht (by omega)]
    case busError => exact (read a n).trans (congrArg _ (s.readWords_firmware_busError k pair ep h h' bad))
  case registers =>
    refine ⟨?count, ?tickLo, ?tickHi, ?dsn, ?psn, ?theta, ?rseq⟩
    case count =>
      exact ⟨_, congrArg Host.Outcome.next (s.readWords_rc Fld.collCnt_wholeRegister k pair ep rfl fun _ => rfl), rfl,
        RegFile.get_rcClear_same _ _ _ _, fun f i hf => RegFile.get_rcClear_other _ _ _ _ _ _ _ hf.symm, rfl⟩
    case tickLo => exact congrArg Host.Outcome.next (s.readWords_live Fld.tickLo_wholeRegister k pair ep rfl (s.live_tickLo _) (Nat.mod_lt _ (by decide)))
    case tickHi => exact congrArg Host.Outcome.next (s.readWords_live Fld.tickHi_wholeRegister k pair ep rfl (s.live_tickHi _) s.tbu.hiLatch.isLt)
    case dsn => exact congrArg Host.Outcome.next (s.readWords_live Fld.dsnLo_wholeRegister k pair ep rfl (s.live_dsnLo _) (Nat.mod_lt _ (by decide)))
    case psn => exact congrArg Host.Outcome.next (s.readWords_live Fld.psnLo_wholeRegister k pair ep rfl (s.live_psnLo _) (Nat.mod_lt _ (by decide)))
    case theta => exact congrArg Host.Outcome.next (s.readWords_live Fld.thetaLo_wholeRegister k pair ep rfl (s.live_thetaLo _) (Nat.mod_lt _ (by decide)))
    case rseq => exact congrArg Host.Outcome.next (s.readWords_live Fld.rseqLo_wholeRegister k pair ep rfl (s.live_rseqLo _) (Nat.mod_lt _ (by decide)))
  case host =>
    have read : exec i s = .next (s.readWords (.host fn bar) a n) := by
      rcases hi with rfl | rfl
      · exact exec_rcFieldRead _ a n s
      · exact exec_loRegisterRead _ a n s
    rw [read]
    refine ⟨fun h => ?held, fun h ho hfn hb hl hu hn => ?nothing, fun h ho hn => ?closed⟩
    case held => rw [s.readWords_host_held h]
    case nothing =>
      have place : hostPlace fn bar (a / 4 * 4) = .nothing := by
        rw [hb]
        exact hostPlace_nothing hfn (by omega) (by omega)
      rw [s.readWords_host_word h hn, s.readAt_host_nothing h ho place]
    case closed =>
      rw [s.readWords_host_word h hn, s.readAt_host_closed h ho]
      exact ⟨_, rfl, State.urTlp_hlu _ _, State.urTlp_nonPosted_out _, State.eq_of_urTlp _ _⟩

end Sys2Proof.Machine
end

section
/-! PROOFS. What a command answers: every command goes on, but for the two that name a DRAM address at or above the capacity, and every one but POWER_UP keeps what Laws/Frames.lean says that the operations keep. From it O56 and O57 (R21; log entries 2 and 17). -/

namespace Sys2Proof.Machine

/-! ## Outcomes that go on -/

/-- The command goes on, and keeps what every operation keeps (`Kept`: the tick counter and the rest of the queue among it). -/
def Runs (s : State) (o : Out) : Prop := ∃ t, o = .next t ∧ Kept s t

@[simp] theorem runs_next {s t : State} : Runs s (.next t) ↔ Kept s t := ⟨fun ⟨_, h, k⟩ => by cases h; exact k, fun k => ⟨t, rfl, k⟩⟩

@[simp] theorem runs_ite {s : State} {c : Prop} [Decidable c] {a b : Out} (ha : Runs s a) (hb : Runs s b) : Runs s (if c then a else b) := by
  split <;> assumption

/-! ## Modifiers that leave the memories and counters of their unit as they are -/

section
variable {s₀ s : State}

@[simp] theorem kept_modBpm_same (f : Bpm → Bpm) (e : ∀ b, (f b).sram = b.sram) (h : Kept s₀ s) : Kept s₀ (s.modBpm f) :=
  kept_modBpm f (fun w => (e _).symm ▸ w) h

@[simp] theorem kept_modDmc_same (f : Dmc → Dmc) (e : ∀ d, (f d).bytes = d.bytes) (h : Kept s₀ s) : Kept s₀ (s.modDmc f) :=
  kept_modDmc f (fun w => (e _).symm ▸ w) h

@[simp] theorem kept_modCcl_same (f : Ccl → Ccl) (e : ∀ c, (f c).script = c.script) (e' : ∀ c, (f c).tcm = c.tcm) (h : Kept s₀ s) : Kept s₀ (s.modCcl f) :=
  kept_modCcl f (fun w => (e _).symm ▸ w) (fun w => (e' _).symm ▸ w) h

@[simp] theorem kept_modGal_same (f : Gal → Gal) (e : ∀ g, (f g).mem = g.mem) (h : Kept s₀ s) : Kept s₀ (s.modGal f) :=
  kept_modGal f (fun w => (e _).symm ▸ w) h

@[simp] theorem kept_modHlu_same (f : Hlu → Hlu) (e : ∀ u, (f u).msix = u.msix) (h : Kept s₀ s) : Kept s₀ (s.modHlu f) :=
  kept_modHlu f (fun w => (e _).symm ▸ w) h

@[simp] theorem kept_modQen_same (f : Qen → Qen) (e : ∀ q, (f q).rescue.window = q.rescue.window) (e' : ∀ q, (f q).staging = q.staging) (h : Kept s₀ s) :
    Kept s₀ (s.modQen f) := kept_modQen f (fun w => (e _).symm ▸ w) (fun w => (e' _).symm ▸ w) h

@[simp] theorem kept_modMxe_same (f : Mxe → Mxe) (hd : ∀ m, (f m).dsn = m.dsn) (hp : ∀ m, (f m).psn = m.psn) (hb : ∀ m, (f m).bsn = m.bsn)
    (h : Kept s₀ s) : Kept s₀ (s.modMxe f) := kept_modMxe f (hd _).ge (hp _).ge (hb _).ge h

@[simp] theorem kept_modCsu_same (f : Csu → Csu) (hm : ∀ u, (f u).flash = u.flash) (hs : ∀ u, (f u).svn = u.svn) (hk : ∀ u, (f u).kekGen = u.kekGen)
    (h : Kept s₀ s) : Kept s₀ (s.modCsu f) := kept_modCsu f (fun w => (hm _).symm ▸ w) (hs _).ge (hk _).ge h

@[simp] theorem kept_modTbu_same (f : Tbu → Tbu) (e : ∀ t, (f t).tick = t.tick) (h : Kept s₀ s) : Kept s₀ (s.modTbu f) := kept_modTbu f (e _) h

end

/-- A part of the queue engine that drops the staged image. -/
theorem kept_modQen_unstaged {s₀ s : State} (f : Qen → Qen) (e : ∀ q, (f q).rescue.window = q.rescue.window) (e' : ∀ q, (f q).staging = []) (h : Kept s₀ s) :
    Kept s₀ (s.modQen f) := kept_modQen f (fun w => (e _).symm ▸ w) (fun _ => (e' _).symm ▸ rfl) h

/-! ## The frames of admin commands -/

@[simp] theorem State.admin_runs {s : State} {c : Nat} {op : BitVec 8} {b : Bool} {f : Ctx → State → State} (h : ∀ x, Kept s (f x s)) :
    Runs s (s.admin c op b f) := by
  unfold State.admin
  repeat' split
  all_goals simp [h]

@[simp] theorem State.setFeature_runs {s : State} {c n : Nat} {f : Ctx → State → State} (h : ∀ x, Kept s (f x s)) : Runs s (s.setFeature c n f) := by
  unfold State.setFeature
  repeat' split
  · exact State.admin_runs h
  all_goals simp

theorem State.fwCommit_runs {s : State} {c n : Nat} {f : Ctx → State → State} (h : ∀ x, Kept s (f x s)) : Runs s (s.fwCommit c n f) := by
  unfold State.fwCommit
  repeat' split
  · exact State.admin_runs h
  all_goals simp

/-! ## Commands with a step of their own -/

/-- A Sanitize action unmaps every namespace first (R307, R344). -/
theorem State.sanitize_runs {s : State} {c n : Nat} {f : State → State} (h : ∀ t, Kept s t → Kept s (f t)) : Runs s (s.sanitize c n f) := by
  unfold State.sanitize
  split
  · split
    · have unmapped : Kept s (s.mxe.nss.foldl (fun s e => s.unmapNs e.1) s) := by simp
      exact State.admin_runs fun x => State.finish_kept _ _ _ (kept_modMxe_same _ (fun _ => rfl) (fun _ => rfl) (fun _ => rfl) (h _ unmapped))
    · simp
  · simp

theorem State.onOwnNs_runs {s : State} {c : Nat} {x : Ctx} {f : Namespace → State → State} (h : ∀ n t, Kept t (f n t)) :
    Runs s (.next (s.onOwnNs c x f)) := runs_next.mpr (State.onOwnNs_kept c x f s h (Kept.refl s))

theorem execRead_runs (c : Nat) (s : State) : Runs s (execRead c s) := by
  unfold execRead
  split
  · exact State.onOwnNs_runs fun n t => by simp
  · simp

theorem execWrite_runs (c : Nat) (pi : PiCheck) (s : State) : Runs s (execWrite c pi s) := by
  unfold execWrite
  split
  · exact State.onOwnNs_runs fun n t => by simp
  · simp

theorem execSequencePoint_runs (c : Nat) (s : State) : Runs s (execSequencePoint c s) := by
  unfold execSequencePoint
  split
  · exact State.onOwnNs_runs fun n t => by simp
  · unfold State.refuseCtx
    split <;> simp

theorem execWriteZeroes_runs (c : Nat) (s : State) : Runs s (execWriteZeroes c s) := by
  unfold execWriteZeroes
  split
  · exact State.onOwnNs_runs fun n t => by simp
  · simp

theorem execDatasetManagement_runs (c : Nat) (l : Bool) (s : State) : Runs s (execDatasetManagement c l s) := by
  unfold execDatasetManagement
  split
  · exact State.onOwnNs_runs fun n t => by simp
  · simp

theorem execFlush_runs (c : Nat) (s : State) : Runs s (execFlush c s) := by
  unfold execFlush
  split
  · split
    · exact runs_next.mpr (State.flushDone_kept _ (kept_modMxe_same _ (fun _ => rfl) (fun _ => rfl) (fun _ => rfl) (by simp)))
    · simp
  · simp

theorem execScriptWrite_runs (k : Cluster) (ep : BitVec 8) (bs : List Byte) (s : State) : Runs s (execScriptWrite k ep bs s) := by
  have put : Kept s (s.modCcl fun c => c.scriptPut bs) := kept_modCcl _ (Ccl.scriptPut_wf _ bs) (fun h => h) (Kept.refl s)
  have held : Kept s (s.modCcl fun c => { c with scriptHeld := c.scriptHeld ++ [bs] }) := by simp
  exact runs_ite (by simp) (runs_ite (by simp) (runs_ite (runs_next.mpr held) (runs_next.mpr put)))

theorem execJournalPageWrite_runs (s : State) : Runs s (execJournalPageWrite s) := by
  unfold execJournalPageWrite
  split
  · split
    · next t n h => exact runs_next.mpr (State.journalPage_kept _ _ _ (State.sysBandFor_kept _ _ _ _ _ _ h))
    · simp
  · simp

theorem execSegmentWriteback_runs (nsid seg : Nat) (loc : Loc) (s : State) : Runs s (execSegmentWriteback nsid seg loc s) := by
  unfold execSegmentWriteback
  split
  · split
    · next t l h => simp [State.sysWrite_kept _ _ _ _ h]
    · simp
  · simp

theorem execDirectoryCheckpoint_runs (s : State) : Runs s (execDirectoryCheckpoint s) := by
  unfold execDirectoryCheckpoint
  split
  · split
    · next t l h => exact runs_next.mpr (kept_modMxe_same _ (by simp) (by simp) (by simp) (State.sysWrite_kept _ _ _ _ h))
    · simp
  · simp

theorem execNonopEntryComplete_runs (s : State) : Runs s (execNonopEntryComplete s) := by
  unfold execNonopEntryComplete
  split
  · next r _ =>
    split
    · refine runs_next.mpr (kept_foldl' _ _ _ _ (by simp) ?_)
      cases r.ctx <;> simp
    · simp
  · simp

theorem execQstateWrite_runs (a b z : Nat) (ph : Bool) (s : State) : Runs s (execQstateWrite a b z ph s) := by
  have sampled : Kept s (s.sample 10) := by simp
  refine runs_next.mpr ?_
  cases h : (s.sample 10).writeQstate a b z ph with
  | none => exact sampled
  | some t => exact sampled.trans (State.writeQstate_kept _ _ _ _ _ _ h)

theorem execSanitizeBlockErase_runs (c : Nat) (s : State) : Runs s (execSanitizeBlockErase c s) :=
  State.sanitize_runs fun _ k => State.releaseUser_kept _ k

theorem execSanitizeCryptoErase_runs (c : Nat) (s : State) : Runs s (execSanitizeCryptoErase c s) :=
  State.sanitize_runs fun _ k => State.regenerate_kept _ _ k

theorem execControllerReset_runs (fn : Nat) (s : State) : Runs s (execControllerReset fn s) := by
  unfold execControllerReset
  split
  · refine runs_next.mpr (kept_modQen_unstaged _ (by simp) (fun _ => rfl) (State.squashWhere_kept _ _ ?_))
    split <;> simp
  · simp

theorem execHotReset_runs (s : State) : Runs s (execHotReset s) := by
  unfold execHotReset
  split
  · refine runs_next.mpr (State.trigger_kept _ _ _ _ _ (kept_modTnu _ (kept_modQen_unstaged _ (by simp) (fun _ => rfl)
      (kept_modHlu _ (fun _ => rfl) (State.quarantine_kept _ _ (State.squashWhere_kept _ _ ?_))))))
    split <;> simp (maxDischargeDepth := 60)
  · simp

theorem execFlr_runs (fn : Nat) (s : State) : Runs s (execFlr fn s) := by
  unfold execFlr
  refine runs_next.mpr (State.trigger_kept _ _ _ _ _ (kept_modHlu _ (Memory.wf_filter _ _ _) (kept_modQen_same _ (by simp) (by simp)
    (State.quarantine_kept _ _ (State.squashWhere_kept _ _ ?_)))))
  split <;> simp (maxDischargeDepth := 60)

theorem execAbort_runs (c : Nat) (s : State) : Runs s (execAbort c s) := by
  refine State.admin_runs fun x => ?_
  dsimp only
  split
  · simp
  · split <;> simp (maxDischargeDepth := 60)

theorem execDeleteIoSubmissionQueue_runs (c : Nat) (s : State) : Runs s (execDeleteIoSubmissionQueue c s) := by
  refine State.admin_runs fun x => ?_
  dsimp only
  split <;> simp (maxDischargeDepth := 60)

theorem execSetFeaturesPowerManagement_runs (c : Nat) (s : State) : Runs s (execSetFeaturesPowerManagement c s) := by
  unfold execSetFeaturesPowerManagement
  split
  · simp (maxDischargeDepth := 60)
  · split <;> simp

theorem execNamespaceAttachment_runs (c : Nat) (sl : Option Nat) (s : State) : Runs s (execNamespaceAttachment c sl s) := by
  refine State.admin_runs fun x => ?_
  split
  · cases sl <;> simp (maxDischargeDepth := 60)
  · simp

theorem execVirtualizationManagement_runs (c : Nat) (s : State) : Runs s (execVirtualizationManagement c s) := by
  refine State.admin_runs fun x => ?_
  dsimp only
  split
  · simp
  · split
    · simp
    · split <;> simp (maxDischargeDepth := 60)

/-- The staged image of a Firmware Commit is used up. -/
theorem kept_dropStaged {s₀ s : State} (h : Kept s₀ s) : Kept s₀ (s.modQen Qen.dropStaged) :=
  kept_modQen_unstaged _ (fun _ => rfl) (fun _ => rfl) h

theorem execFirmwareCommitReplace_runs (run : CommitRun) (s : State) : Runs s (execFirmwareCommitReplace run s) := by
  refine State.fwCommit_runs fun x => kept_ite (by simp) (kept_ite (by simp) ?_)
  split
  · exact State.fwWrite_kept _ _ _ _ _ (fun u => State.finish_kept _ _ _ (kept_dropStaged (Kept.refl u))) (Kept.refl s)
  · simp

theorem execFirmwareCommitNextReset_runs (run : CommitRun) (s : State) : Runs s (execFirmwareCommitNextReset run s) := by
  refine State.fwCommit_runs fun x => kept_ite (by simp) (kept_ite (by simp) (kept_ite ?_ (by simp)))
  split <;> simp

theorem execFirmwareCommitActivate_runs (run : CommitRun) (s : State) : Runs s (execFirmwareCommitActivate run s) := by
  refine State.fwCommit_runs fun x => kept_ite (by simp) (kept_ite (by simp) (kept_ite (by simp) ?_))
  have unstaged : ∀ u : State, Kept u (u.modQen fun q => if fwSlot x = 2 then q else q.dropStaged) := by
    intro u
    by_cases h : fwSlot x = 2
    · simp [h]
    · simpa only [h, if_false] using kept_dropStaged (Kept.refl u)
  split
  · exact kept_ite (State.fwWrite_kept _ _ _ _ _ (fun u => State.commitActivate_kept _ _ (unstaged u)) (Kept.refl s)) (by simp)
  · simp

/-! ## Every command -/

/-- Every command goes on and keeps what the operations keep, but for POWER_UP and the two that name a DRAM address: first the commands above, then those that look something up, then the rest, which are calls of operations under conditions. -/
theorem exec_runs (c : Instr) (s : State) (hup : c ≠ .powerUp) (hreq : ∀ x e, c ≠ .dramRequest x e) (hscrub : ∀ a e, c ≠ .patrolScrub a e) :
    Runs s (exec c s) := by
  cases c
  case powerUp => exact absurd rfl hup
  case dramRequest x e => exact absurd rfl (hreq x e)
  case patrolScrub a e => exact absurd rfl (hscrub a e)
  case hotReset => exact execHotReset_runs s
  case flr => exact execFlr_runs _ s
  case sequencePoint => exact execSequencePoint_runs _ s
  case read => exact execRead_runs _ s
  case write => exact execWrite_runs _ _ s
  case writeZeroes => exact execWriteZeroes_runs _ s
  case datasetManagement => exact execDatasetManagement_runs _ _ s
  case flush => exact execFlush_runs _ s
  case abort => exact execAbort_runs _ s
  case deleteIoSubmissionQueue => exact execDeleteIoSubmissionQueue_runs _ s
  case setFeaturesPowerManagement => exact execSetFeaturesPowerManagement_runs _ s
  case namespaceAttachment => exact execNamespaceAttachment_runs _ _ s
  case firmwareCommitReplace => exact execFirmwareCommitReplace_runs _ s
  case firmwareCommitNextReset => exact execFirmwareCommitNextReset_runs _ s
  case firmwareCommitActivate => exact execFirmwareCommitActivate_runs _ s
  case virtualizationManagement => exact execVirtualizationManagement_runs _ s
  case sanitizeBlockErase => exact execSanitizeBlockErase_runs _ s
  case sanitizeCryptoErase => exact execSanitizeCryptoErase_runs _ s
  case controllerReset => exact execControllerReset_runs _ s
  case nonopEntryComplete => exact execNonopEntryComplete_runs s
  case qstateWrite => exact execQstateWrite_runs _ _ _ _ s
  case journalPageWrite => exact execJournalPageWrite_runs s
  case segmentWriteback => exact execSegmentWriteback_runs _ _ _ s
  case directoryCheckpoint => exact execDirectoryCheckpoint_runs s
  case scriptWrite => exact execScriptWrite_runs _ _ _ s
  case registerWrite | auxPowerLoss | supplyLoss | dumpWaitExpiry | journalFreeze | dumpHeaderGood | railAbortLevel | configurationRequest |
    linkTraining | completionReceived | completionTimeout | inboundErrorTlp | translationCompletion | l1Entry | ptmDialog | doorbellWrite |
    sqEntryFetch | fetchAgePromotion | postingDecision | invalidCommandOpcode | rescueTaskEnd | sliceDrainTimeout | sliceReset | sliceResetDone |
    galleryRead | fence | fenceCompletion | windowSetActivate | windowCommitTimeout | journalPageGood | journalCopyLost | bandClose | bandOpenTimeout
    | bandRelease | foldStart | dieOperationSubmit | dieOperationStart | dieReady | dieAgePromotion | suspendIssue | resumeSubmit | rebudget |
    statusPoll | busyTimeout | guardWaitTimeout | verifyRead | scrubVisit | scrubWindowClose | keyOpEnd | gatherTimeout | stripeJournalCopyLost |
    rebuildStripe | dischargeTestEnd | bufferGrant | bufferShare | ringRefill | sramScrub | dramAgePromotion | retireCopyDone | cutFault | cutFence |
    epochTake | csuCommandEnd | codeStoreReadSuspend | windowSlide | storedWriteCommit | fwObjectTimeout | reelPageFlush | interruptCoalescingExpiry |
    fwObjectAnswer | jtagDebugAccess =>
    simp only [exec, execRegisterWrite, execAuxPowerLoss, execSupplyLoss, execDumpWaitExpiry, execJournalFreeze, execDumpHeaderGood,
      execRailAbortLevel, execConfigurationRequest, execLinkTraining, execCompletionReceived, execCompletionTimeout, execInboundErrorTlp,
      execTranslationCompletion, execL1Entry, execPtmDialog, execDoorbellWrite, execSqEntryFetch, execFetchAgePromotion, execPostingDecision,
      execInvalidCommandOpcode, execRescueTaskEnd, execSliceDrainTimeout, execSliceReset, execSliceResetDone, execGalleryRead, execFence,
      execFenceCompletion, execWindowSetActivate, execWindowCommitTimeout, execJournalPageGood, execJournalCopyLost, execBandClose,
      execBandOpenTimeout, execBandRelease, execFoldStart, execDieOperationSubmit, execDieOperationStart, execDieReady, execDieAgePromotion,
      execSuspendIssue, execResumeSubmit, execRebudget, execStatusPoll, execBusyTimeout, execGuardWaitTimeout, execVerifyRead, execScrubVisit,
      execScrubWindowClose, execKeyOpEnd, execGatherTimeout, execStripeJournalCopyLost, execRebuildStripe, execDischargeTestEnd, execBufferGrant,
      execBufferShare, execRingRefill, execSramScrub, execDramAgePromotion, execRetireCopyDone, execCutFault, execCutFence, execEpochTake,
      execCsuCommandEnd, execCodeStoreReadSuspend, execWindowSlide, execStoredWriteCommit, execFwObjectTimeout, execReelPageFlush,
      execInterruptCoalescingExpiry, execFwObjectAnswer, execJtagDebugAccess]
    repeat' split
    all_goals simp (maxDischargeDepth := 60)
  case createIoSubmissionQueue | deleteIoCompletionQueue | createIoCompletionQueue | identify | getLogPage | getFeatures =>
    simp only [exec, execCreateIoSubmissionQueue, execDeleteIoCompletionQueue, execCreateIoCompletionQueue, execIdentify, execGetLogPage,
      execGetFeatures]
    refine State.admin_runs fun x => ?_
    repeat' split
    all_goals simp
  all_goals
    simp (maxDischargeDepth := 60) [exec, execRcFieldRead, execLoRegisterRead, execAuxPowerUp, execSupplyRestoreStart, execThermalTrip,
      execThermalTripRelease, execPerstNAssert, execPerstNRelease, execConfigurationSpaceReady, execBootRomStart, execAdminSubsetOpen,
      execStartDecision, execHallEntry, execLinkDown, execNvmSubsystemReset, execFlrComplete, execTagQuarantineExpiry, execTimeoutTagRelease,
      execAtsInvalidate, execL0pNarrow, execL0pWiden, execL1Exit, execBusMasterEnableClear, execBusMasterEnableSet, execSetFeaturesArbitration,
      execSetFeaturesVolatileWriteCache, execSetFeaturesInterruptCoalescing, execSetFeaturesHctm, execAsynchronousEventRequest,
      execNamespaceManagement, execFirmwareImageDownload, execFirmwareActivation, execActivationDrainDone, execFormatNvm, execControllerEnable,
      execShutdownNotification, execAutonomousPsTransition, execNonopExitComplete, execRescueIdent, execRescueLoad, execRescueCommit,
      execRescueRestore, execRescueRestart, execTokenRefill, execFloorWindow, execSliceCommit, execSliceDiscard, execSliceQuiesce, execSliceQuiesced,
      execSliceUnquiesce, execDlogHeadWrite, execDlogEpochWrite, execSliceResetDrain, execSliceResetSquash, execGalleryWrite, execWinCommit,
      execWinDiscard, execRtPanicAssert, execRtPanicRelease, execMapCommit, execSegmentLoad, execSuspectRebuild, execVictimSelect, execFoldStop,
      execDieOffline, execDieReenable, execJunctionSensorRead, execChannelInit, execZqCalibration, execChannelRetrain, execWriteGuardActivate,
      execWriteGuardClear, execDieTemperaturePoll, execCodewordDecode, execThetaUpdate, execThetaStore, execScrubWindowOpen, execWearUpdate,
      execKeyLoad, execKeyGenerate, execKeyClear, execStripeJournalPageWrite, execRebuildStart, execRebuildPhase2, execEnergyEstimate,
      execStoreCharged, execDischargeTestStart, execBufferRequest, execBufferFree, execBufferFreeChain, execPoisonBufferClean, execDramRefresh,
      execMr4Read, execRowTableClear, execDramAlert, execDramTraining, execDqsOscillatorRead, execDramZqCalibration, execDramRetrain, execRetireGo,
      execSelfRefreshEntry, execSelfRefreshExit, execRankPowerDown, execWatchdogExpiry, execHeartbeatWrite, execCutGo, execCutReq,
      execClusterSelftestEnd, execClusterSyncDone, execClusterRepair, execStandbySelftest, execRotateCut, execScriptCheckpoint, execCsuProgram,
      execCsuErase, execWprogram, execWerase, execLoaderCopy, execCodeStoreEraseResume, execWpWrite, execSealStateWrite, execSealGrantSession,
      execSealGrantDowngrade, execPendingTakeLimit, execActDeadline, execHealthConfirm, execConfirmWindowExpiry, execFallbackReboot,
      execCallSheetRead, execCallSheetWrite, execDescribe, execMctpControlMessage, execNvmeMiBasicManagement, execFleetSet, execPowerOnSecondsStore,
      execRecorderTrigger, execFwTrigger, execReelRead, execFreeze, execFreezeExpiry, execAvsRequest, execPtmValidExpiry, execTuigorBadMsg,
      execSmbusTimeout, execI3cDynamicAddressAssignment, execSetFeaturesCriticalWarnings]

/-! ## The step (log entry 2) -/

theorem step_cons (s : State) (c : Instr) : step { s with pending := c :: s.pending } = exec c s := rfl

theorem step_of_empty {s : State} (h : s.pending = []) : step s = .next s.tick := by
  rw [step, h]

/-! ## Where a command stops (log entry 17) -/

theorem execPowerUp_next (s : State) : ∃ t, exec .powerUp s = .next t := by
  by_cases h : s.power.unpowered = true
  · exact ⟨_, if_pos h⟩
  · exact ⟨_, if_neg h⟩

/-- DRAM_REQUEST stops where a unit other than drive firmware names an address at or above the capacity. -/
theorem execDramRequest_runs_or_stops (x : DramAccess) (e : EccResult) (s : State) :
    Runs s (execDramRequest x e s) ∨
      execDramRequest x e s = .fault (.noDramAddress x.addr) ∧ s.dmc.trained = true ∧ s.dmc.capacity ≤ x.addr := by
  unfold execDramRequest
  split
  · next h =>
    split
    · exact .inl (by simp)
    · exact .inr ⟨rfl, h⟩
  · exact .inl (by simp)

/-- PATROL_SCRUB stops at or above the capacity of trained DRAM. -/
theorem execPatrolScrub_runs_or_stops (a : Nat) (e : EccResult) (s : State) :
    Runs s (execPatrolScrub a e s) ∨ execPatrolScrub a e s = .fault (.noDramAddress a) ∧ s.dmc.trained = true ∧ s.dmc.capacity ≤ a := by
  unfold execPatrolScrub
  split
  · exact .inl (by simp)
  · next h =>
    split
    · next above => exact .inr ⟨rfl, by simp at h; exact h.1, above⟩
    · exact .inl (by simp)

theorem Runs.goesOn {s : State} {o : Out} (h : Runs s o) : goesOn o = true := by
  obtain ⟨t, rfl, -⟩ := h
  rfl

/-- A command other than POWER_UP goes on as `Runs` says, or is one of the two that name a DRAM address and stops there. -/
theorem exec_runs_or_stops (c : Instr) (s : State) (hup : c ≠ .powerUp) :
    Runs s (exec c s) ∨ ∃ a, exec c s = .fault (.noDramAddress a) ∧ s.dmc.trained = true ∧ s.dmc.capacity ≤ a ∧
      ((∃ x e, c = .dramRequest x e ∧ x.addr = a) ∨ ∃ e, c = .patrolScrub a e) := by
  by_cases hreq : ∃ x e, c = .dramRequest x e
  · obtain ⟨x, e, rfl⟩ := hreq
    exact (execDramRequest_runs_or_stops x e s).imp_right fun ⟨f, tr, above⟩ => ⟨x.addr, f, tr, above, .inl ⟨x, e, rfl, rfl⟩⟩
  · by_cases hscrub : ∃ a e, c = .patrolScrub a e
    · obtain ⟨a, e, rfl⟩ := hscrub
      exact (execPatrolScrub_runs_or_stops a e s).imp_right fun ⟨f, tr, above⟩ => ⟨a, f, tr, above, .inr ⟨e, rfl⟩⟩
    · exact .inl (exec_runs c s hup (fun x e h => hreq ⟨x, e, h⟩) fun a e h => hscrub ⟨a, e, h⟩)

/-- Settles O56: the step's two equations, and `exec_runs_or_stops` for where a command stops. -/
theorem stepRunsTheFrontCommand : Obligations.StepRunsTheFrontCommand := by
  refine ⟨step_cons, fun s h => step_of_empty h, fun s c => ?_⟩
  by_cases hup : c = .powerUp
  · obtain ⟨t, h⟩ := execPowerUp_next s
    exact .inl (by rw [hup, h]; rfl)
  · exact (exec_runs_or_stops c s hup).imp_left Runs.goesOn

/-! ## The tick counter (R21) -/

/-- A power-up of VDD_CORE sets the tick counter to 0. -/
theorem execPowerUp_tick (s : State) (h : s.power.unpowered = true) : ∃ t, exec .powerUp s = .next t ∧ t.tbu.tick = 0 := by
  refine ⟨_, if_pos h, ?_⟩
  simp [State.powerUpClear, Tbu.initial]

theorem exec_keeps_tick {s t : State} {c : Instr} (hup : c ≠ .powerUp) (h : exec c s = .next t) : t.tbu.tick = s.tbu.tick := by
  rcases exec_runs_or_stops c s hup with ⟨u, e, k⟩ | ⟨a, e, -⟩
  · cases h.symm.trans e
    exact k.tick
  · cases h.symm.trans e

/-- Settles O57: `Kept` holds the tick counter for every command but POWER_UP. -/
theorem tickCounterIsZeroOnlyAtPowerUp : Obligations.TickCounterIsZeroOnlyAtPowerUp :=
  ⟨execPowerUp_tick, fun _ _ _ hup h => exec_keeps_tick hup h⟩

/-! ## Reset (log entry 1) -/

/-- No field is stored at reset, so each reads its reset value. -/
theorem fld_reset (f : Field) : State.reset.fld f = f.reset := rfl

theorem memOk_reset : State.reset.memOk = true := by decide

/-- Settles O60: each part of `State.reset` is as its definition gives it. -/
theorem resetLeavesAnIdleMachineInFoyer : Obligations.ResetLeavesAnIdleMachineInFoyer :=
  ⟨rfl, rfl, memOk_reset, rfl, rfl, rfl, rfl, rfl, rfl, rfl, rfl, rfl, fld_reset, rfl⟩

end Sys2Proof.Machine
end

section
/-! PROOFS. Doorbells (spec/04, R26, R97, R126, R137, R181): what each end of DOORBELL_WRITE leaves, and O13. -/

namespace Sys2Proof.Machine

namespace State

/-! ## The arrival of a doorbell reads as the state before it -/

@[simp] theorem queueKey_arrive (s : State) (n fn qid : Nat) : (s.arrive n).queueKey fn qid = s.queueKey fn qid := rfl

@[simp] theorem pasidDiffers_arrive (s : State) (n key sl : Nat) (p : Option Nat) : (s.arrive n).pasidDiffers key sl p = s.pasidDiffers key sl p := rfl

@[simp] theorem now_arrive (s : State) (n : Nat) : (s.arrive n).now = s.now := rfl

/-! ## The ends of a doorbell -/

/-- An Asynchronous Event changes contexts and controllers of the queue engine, and nothing else. -/
theorem eq_of_asyncEvent (s : State) (fn : Nat) (e : AsyncEvent) :
    s.asyncEvent fn e = { s with qen := { s.qen with ctxs := (s.asyncEvent fn e).qen.ctxs, ctrls := (s.asyncEvent fn e).qen.ctrls } } := by
  have h := (State.asyncEvent_touch fn e s (m := 512) rfl (Touch.refl _ s)).eq_masked
  rw [← (State.asyncEvent_same s fn e).qen]
  exact h

theorem eq_of_doorbellViolation (s : State) (sl : Nat) : s.doorbellViolation sl =
    { s with regf := (s.doorbellViolation sl).regf, tnu := (s.doorbellViolation sl).tnu, cru := (s.doorbellViolation sl).cru } :=
  (State.doorbellViolation_touch sl s (m := 8389664) rfl (Touch.refl _ s)).eq_masked

theorem doorbellViolation_tnu (s : State) (sl : Nat) : (s.doorbellViolation sl).tnu = { s.tnu with violSlice := sl } := by
  simp [doorbellViolation]

/-- A flag of one bit stands after hardware has set it. -/
theorem fld_flag_bit (s : State) (f : Field) (i : Nat) (hf : f.width = 1) : (s.flag f i 1).fld f i = 1 := by
  exact (RegFile.get_flag_same _ _ _ _ _).trans (by rw [hf]; exact Nat.or_mod_two_eq_one.mpr (.inr rfl))

theorem doorbellViolation_flag (s : State) (sl : Nat) : (s.doorbellViolation sl).fld Fld.TNU_VIOL_STS.DOORBELL_PASID = 1 := by
  rw [doorbellViolation, fld_trigger _ _ _ _ _ _ _ (by decide) (by decide)]
  exact s.fld_flag_bit Fld.TNU_VIOL_STS.DOORBELL_PASID 0 rfl

theorem wakeUp_sqs (s : State) (key : Nat) : (s.wakeUp key).qen.sqs = s.qen.sqs := by
  unfold wakeUp
  split <;> rfl

theorem wakeUp_exitSince (s : State) (key : Nat) : (s.wakeUp key).qen.exitSince =
    if key < 4096 ∧ 3 ≤ s.qen.ps ∧ s.qen.exitSince = none then some s.now else s.qen.exitSince := by
  unfold wakeUp
  split <;> rfl

theorem eq_of_wakeUp (s : State) (key : Nat) : s.wakeUp key = { s with qen := { s.qen with exitSince := (s.wakeUp key).qen.exitSince } } := by
  unfold wakeUp
  split <;> rfl

theorem sqTail_sqs (s : State) (key : Nat) (q : Sq) (v : Nat) : (s.sqTail key q v).qen.sqs = Tbl.put s.qen.sqs key
    { q with tail := v, arrivals := q.arrivals ++ List.replicate ((v + q.size - q.tail) % q.size) s.now } := wakeUp_sqs _ _

theorem sqTail_exitSince (s : State) (key : Nat) (q : Sq) (v : Nat) : (s.sqTail key q v).qen.exitSince =
    if key < 4096 ∧ 3 ≤ s.qen.ps ∧ s.qen.exitSince = none then some s.now else s.qen.exitSince := wakeUp_exitSince _ _

theorem eq_of_sqTail (s : State) (key : Nat) (q : Sq) (v : Nat) : s.sqTail key q v =
    { s with qen := { s.qen with sqs := (s.sqTail key q v).qen.sqs, exitSince := (s.sqTail key q v).qen.exitSince } } := by
  rw [sqTail_sqs]
  exact eq_of_wakeUp _ _

end State

/-! ## DOORBELL_WRITE, case by case -/

section
variable {s : State} {fn qid v : Nat} {pasid : Option Nat}

theorem exec_doorbellWrite_held (cq : Bool) (h : s.postedHeld = true) : exec (.doorbellWrite fn qid cq v pasid) s = .next s := if_pos h

theorem exec_doorbellWrite_closed (cq : Bool) (h : s.postedHeld = false) (ho : s.fnOpen fn = false) :
    exec (.doorbellWrite fn qid cq v pasid) s = .next ((s.arrive 4).urTlp false) := by
  simp [exec, execDoorbellWrite, h, ho]

variable (h : s.postedHeld = false) (ho : s.fnOpen fn = true)
include h ho

theorem exec_doorbellWrite_noQueue (cq : Bool) (hk : s.queueKey fn qid = none) :
    exec (.doorbellWrite fn qid cq v pasid) s = .next ((s.arrive 4).asyncEvent fn (AsyncEvent.invalidDoorbell false)) := by
  simp [exec, execDoorbellWrite, h, ho, hk]

theorem exec_doorbellWrite_sq {key : Nat} {q : Sq} (hk : s.queueKey fn qid = some key) (hq : Tbl.find? s.qen.sqs key = some q) :
    exec (.doorbellWrite fn qid false v pasid) s =
      if s.pasidDiffers key q.slice pasid then .next ((s.arrive 4).doorbellViolation q.slice)
      else if q.size ≤ v then .next ((s.arrive 4).asyncEvent fn (AsyncEvent.invalidDoorbell true)) else .next ((s.arrive 4).sqTail key q v) := by
  simp [exec, execDoorbellWrite, h, ho, hk, hq]
  rfl

theorem exec_doorbellWrite_cq {key : Nat} {q : Cq} (hk : s.queueKey fn qid = some key) (hq : Tbl.find? s.qen.cqs key = some q) :
    exec (.doorbellWrite fn qid true v pasid) s =
      if s.pasidDiffers key q.slice pasid then .next ((s.arrive 4).doorbellViolation q.slice)
      else if q.size ≤ v then .next ((s.arrive 4).asyncEvent fn (AsyncEvent.invalidDoorbell true))
      else .next ((s.arrive 4).modQen fun n => { n with cqs := Tbl.put n.cqs key { q with head := v } }) := by
  simp [exec, execDoorbellWrite, h, ho, hk, hq]
  rfl

end

/-- Settles O13: each clause is one end of DOORBELL_WRITE, with what that end leaves. -/
theorem doorbellsMoveTheirQueues : Obligations.DoorbellsMoveTheirQueues := by
  intro s fn qid v pasid
  refine ⟨fun cq h => exec_doorbellWrite_held cq h, fun cq h ho => ?closed, fun cq h ho hk => ?noQueue, fun key q h ho hk hq => ?sq,
    fun key q h ho hk hq => ?cq⟩
  case closed => exact ⟨_, exec_doorbellWrite_closed cq h ho, State.urTlp_hlu _ _, State.eq_of_urTlp _ _⟩
  case noQueue => exact ⟨_, exec_doorbellWrite_noQueue h ho cq hk, State.eq_of_asyncEvent _ _ _⟩
  case sq =>
    rw [exec_doorbellWrite_sq h ho hk hq]
    refine ⟨fun hp hv => ?inRange, fun hp hv => ?outOfRange, fun hp => ?violation⟩
    case inRange =>
      rw [hp, if_neg Bool.false_ne_true, if_neg (Nat.not_le.mpr hv)]
      exact ⟨_, rfl, by rw [State.sqTail_sqs]; exact Tbl.find?_put_same _ _ _, fun j hj => by rw [State.sqTail_sqs]; exact Tbl.find?_put_other _ _ hj,
        State.sqTail_exitSince _ _ _ _, State.eq_of_sqTail _ _ _ _⟩
    case outOfRange =>
      rw [hp, if_neg Bool.false_ne_true, if_pos hv]
      exact ⟨_, rfl, State.eq_of_asyncEvent _ _ _⟩
    case violation =>
      rw [if_pos hp]
      exact ⟨_, rfl, State.doorbellViolation_flag _ _, State.doorbellViolation_tnu _ _, State.eq_of_doorbellViolation _ _⟩
  case cq =>
    rw [exec_doorbellWrite_cq h ho hk hq]
    refine ⟨fun hp hv => ?inRange, fun hp hv => ?outOfRange, fun hp => ?violation⟩
    case inRange =>
      rw [hp, if_neg Bool.false_ne_true, if_neg (Nat.not_le.mpr hv)]
      exact ⟨_, rfl, Tbl.find?_put_same _ _ _, fun j hj => Tbl.find?_put_other _ _ hj, rfl⟩
    case outOfRange =>
      rw [hp, if_neg Bool.false_ne_true, if_pos hv]
      exact ⟨_, rfl, State.eq_of_asyncEvent _ _ _⟩
    case violation =>
      rw [if_pos hp]
      exact ⟨_, rfl, State.doorbellViolation_flag _ _, State.doorbellViolation_tnu _ _, State.eq_of_doorbellViolation _ _⟩

end Sys2Proof.Machine
end

section
/-! PROOFS. Refused Reads and Writes (spec/04, spec/07, Table 4.6, R13, R77, R103, R136, R193, R306): what a failed command leaves, the checks of a Read and of a Write as one, and O17. -/

namespace Sys2Proof.Machine

namespace State

/-! ## Register fields while a command's buffers go back -/

theorem fld_flag_other (s : State) (f g : Field) (i j n : Nat) (h : f.key i 0 ≠ g.key j 0) : (s.flag g j n).fld f i = s.fld f i :=
  RegFile.get_flag_other _ _ _ _ _ _ _ _ h

/-- Keys of the fields that freeing a buffer may write: a refused handle's flags (R386), the health event of a retired buffer (R388, R478), and what the recorder counts (R484). -/
def freeingKeys : List Nat :=
  [Fld.BPM_FREE_ERR.BAD_HANDLE.key 0 0, Fld.BPM_FREE_ERR.GEN.key 0 0, Fld.BPM_FREE_ERR.STATE.key 0 0, Fld.BPM_FREE_ERR.NOT_OWNER.key 0 0,
    Fld.MGP_EVT_CNT.COUNT.key 0 0, Fld.CRU_TRIG_CNT.COUNT.key 0x16 0, Fld.CRU_TRIG_CNT.COUNT.key 0x22 0, Fld.CRU_MISSED.COUNT.key 0 0]

theorem freeErrField_mem (bit : Nat) : (freeErrField bit).key 0 0 ∈ freeingKeys := by
  unfold freeErrField
  split <;> decide

section
variable {f : Field} {i : Nat} (hf : f.key i 0 ∉ freeingKeys)
include hf

theorem key_ne_of_freeing {k : Nat} (hk : k ∈ freeingKeys) : f.key i 0 ≠ k := fun h => hf (h ▸ hk)

theorem fld_refuseBuf (s : State) (bit : Nat) (h : BitVec 24) (unit : Nat) : (s.refuseBuf bit h unit).fld f i = s.fld f i := by
  rw [refuseBuf, fld_trigger _ _ _ _ _ _ _ (key_ne_of_freeing hf (by decide)) (key_ne_of_freeing hf (by decide))]
  exact fld_flag_other _ _ _ _ _ _ (key_ne_of_freeing hf (freeErrField_mem bit))

theorem fld_tellHealth (s : State) (code unit : Nat) (r : EventRecord) : (s.tellHealth code unit r).fld f i = s.fld f i := by
  rw [tellHealth, fld_trigger _ _ _ _ _ _ _ (key_ne_of_freeing hf (by decide)) (key_ne_of_freeing hf (by decide))]
  unfold fld
  congr 1
  split <;> split <;> simp

theorem fld_health (s : State) (code unit : Nat) : (s.health code unit).fld f i = s.fld f i := by
  unfold health
  split
  · rfl
  · split
    · rfl
    · rw [fld_tellHealth hf]
      exact fld_count_other _ _ _ _ _ _ (key_ne_of_freeing hf (by decide))

theorem fld_healthLevel (s : State) (code unit : Nat) (on : Bool) : (s.healthLevel code unit on).fld f i = s.fld f i := by
  cases on
  · rfl
  · exact fld_health hf s code unit

theorem fld_releaseBuf (s : State) (k j : Nat) : (s.releaseBuf k j).fld f i = s.fld f i := by
  unfold releaseBuf
  split
  · exact fld_healthLevel hf _ _ _ _
  · unfold fld
    congr 1
    dsimp only
    rw [show ∀ t : State, t.admitHeld.regf = t.regf from fun t => by simp]
    split <;> split <;> simp

theorem fld_lastFree (s : State) (k j : Nat) : (s.lastFree k j).fld f i = s.fld f i := by
  unfold lastFree
  split
  · rfl
  · exact fld_releaseBuf hf s k j

theorem fld_bufFree (s : State) (h : BitVec 24) (unit : Nat) : (s.bufFree h unit).fld f i = s.fld f i := by
  unfold bufFree
  split
  · exact fld_refuseBuf hf _ _ _ _
  · dsimp only
    split
    · exact fld_lastFree hf _ _ _
    · rfl

theorem fld_freeBufs (s : State) (hs : List (BitVec 24)) : (s.freeBufs hs).fld f i = s.fld f i := by
  unfold freeBufs freeBufsOf
  induction hs generalizing s with
  | nil => rfl
  | cons h hs ih => exact (ih _).trans (fld_bufFree hf s h _)

theorem fld_failCmd (s : State) (c st : Nat) : (s.failCmd c st).fld f i = s.fld f i := by
  unfold failCmd
  split
  · exact fld_freeBufs hf _ _
  · rfl

end

/-! ## Failed commands -/

/-- A namespace that the slice does not own is reported with the slice (R136). -/
theorem nsViolation_flag (s : State) (c : Nat) (h : Tbl.has s.qen.ctxs c = true) : (s.nsViolation c).fld Fld.TNU_VIOL_STS.NS_OWNER = 1 := by
  obtain ⟨x, hx⟩ := Tbl.find?_of_has h
  simp only [nsViolation, hx]
  rw [fld_failCmd (by decide), fld_trigger _ _ _ _ _ _ _ (by decide) (by decide)]
  exact s.fld_flag_bit Fld.TNU_VIOL_STS.NS_OWNER 0 rfl

theorem nsViolation_ended (s : State) (c : Nat) (h : Tbl.has s.qen.ctxs c = true) : (s.nsViolation c).ended c stInvalidNs := by
  obtain ⟨x, hx⟩ := Tbl.find?_of_has h
  simp only [nsViolation, hx]
  exact failCmd_ended _ c stInvalidNs (by simpa using h)

theorem nsViolation_tnu {s : State} {c : Nat} {x : Ctx} (h : Tbl.find? s.qen.ctxs c = some x) :
    (s.nsViolation c).tnu = { s.tnu with violSlice := x.slice } := by
  simp [nsViolation, h]

/-! ## The checks of a Read or a Write (Table 4.6) -/

section
variable {s : State} {n : Namespace} {slba nlb : Nat} {wr : Bool}

theorem rangeRefusal_outside (h : n.nsze < slba + nlb) : s.rangeRefusal n slba nlb wr = some stLbaRange := by
  simp [rangeRefusal, Namespace.inRange, h]

variable (h : slba + nlb ≤ n.nsze)
include h

theorem rangeRefusal_noKey (hk : s.nsKey n = none) : s.rangeRefusal n slba nlb wr = some stDenied := by
  simp [rangeRefusal, Namespace.inRange, h, hk]

theorem rangeRefusal_protected (hk : (s.nsKey n).isSome = true) (hro : n.readOnly = true ∨ s.mxe.readOnly = true) :
    s.rangeRefusal n slba nlb true = some stWriteProtected := by
  simp [rangeRefusal, Namespace.inRange, h, Option.isSome_iff_ne_none.mp hk, hro]

theorem rangeRefusal_none (hk : (s.nsKey n).isSome = true) (hw : wr = false ∨ (n.readOnly = false ∧ s.mxe.readOnly = false)) :
    s.rangeRefusal n slba nlb wr = none := by
  rcases hw with rfl | ⟨hn, hm⟩
  · simp [rangeRefusal, Namespace.inRange, h, Option.isSome_iff_ne_none.mp hk]
  · simp [rangeRefusal, Namespace.inRange, h, Option.isSome_iff_ne_none.mp hk, hn, hm]

end

end State

/-- What Read and Write share up to their data pointer: refused by the range's checks, by MDTS and by the pointer, a command on a namespace of its slice fails with that status. -/
structure ChecksRange (s : State) (c : Nat) (x : Ctx) (wr : Bool) (f : Namespace → State → State) : Prop where
  range : ∀ n st, s.rangeRefusal n (slbaOf x.sqe) (nlbOf x.sqe) wr = some st → f n s = s.failCmd c st
  mdts : ∀ n, s.rangeRefusal n (slbaOf x.sqe) (nlbOf x.sqe) wr = none → mdtsBytes < nlbOf x.sqe * n.lbaBytes → f n s = s.failCmd c stInvalidField
  pointer : ∀ n, s.rangeRefusal n (slbaOf x.sqe) (nlbOf x.sqe) wr = none → nlbOf x.sqe * n.lbaBytes ≤ mdtsBytes → x.state = .fetched →
    x.status ≠ 0 → f n s = s.failCmd c x.status

theorem readNs_checksRange (s : State) (c : Nat) (x : Ctx) : ChecksRange s c x false (State.readNs c x) where
  range n st h := State.readNs_refused h
  mdts n h long := by simp only [State.readNs, h, State.readGo, if_pos long]
  pointer n h short hf hst := by simp only [State.readNs, h, State.readGo, if_neg (Nat.not_lt.mpr short), State.ptrGo_refused hf hst]

theorem writeNs_checksRange (s : State) (c : Nat) (pi : PiCheck) (x : Ctx) : ChecksRange s c x true (State.writeNs c pi x) where
  range n st h := State.writeNs_refused h
  mdts n h long := by simp only [State.writeNs, h, if_pos long]
  pointer n h short hf hst := by simp only [State.writeNs, h, if_neg (Nat.not_lt.mpr short), State.ptrGo_refused hf hst]

/-- READ and WRITE of a context that stands for them: a command on its namespace with the checks above. -/
theorem exec_readOrWrite {s : State} {c : Nat} {x : Ctx} {i : Instr} {wr : Bool} {pi : PiCheck}
    (hi : (wr = false ∧ i = .read c ∧ s.ioCtx c 0x02 [.fetched, .lookup] = some x) ∨ (wr = true ∧ i = .write c pi ∧ s.ioCtx c 0x01 [.fetched] = some x)) :
    Tbl.find? s.qen.ctxs c = some x ∧ ∃ f, exec i s = .next (s.onOwnNs c x f) ∧ ChecksRange s c x wr f := by
  rcases hi with ⟨rfl, rfl, h⟩ | ⟨rfl, rfl, h⟩
  · exact ⟨(State.ioCtx_find h).1, _, by simp only [exec, execRead, h], readNs_checksRange s c x⟩
  · exact ⟨(State.ioCtx_find h).1, _, by simp only [exec, execWrite, h], writeNs_checksRange s c pi x⟩

/-- Settles O17: the refusals of `ChecksRange` in the order of the checks, and the namespace of another slice. -/
theorem refusedReadsAndWritesEndAtOnce : Obligations.RefusedReadsAndWritesEndAtOnce := by
  intro s c x i wr pi hi
  obtain ⟨hx, f, hexec, checks⟩ := exec_readOrWrite hi
  have has : Tbl.has s.qen.ctxs c = true := by simp [Tbl.has, hx]
  rw [hexec]
  refine ⟨fun hn => ?foreign, fun n hn => ?own⟩
  case foreign =>
    rw [State.onOwnNs_foreign hn]
    exact ⟨_, rfl, s.nsViolation_ended c has, s.nsViolation_flag c has, State.nsViolation_tnu hx, by simp, by simp, by simp⟩
  case own =>
    have fails : ∀ st, f n s = s.failCmd c st → ∃ t, (Host.Outcome.next (s.onOwnNs c x f) : Out) = .next t ∧ t.ended c st ∧ t.mxe = s.mxe ∧ t.tnu = s.tnu ∧ t.tbu = s.tbu := by
      intro st h
      exact ⟨_, by rw [State.onOwnNs_own hn, h], State.failCmd_ended s c st has, by simp, by simp, by simp⟩
    refine ⟨fun h => ?_, fun h hk => ?_, fun h hk hw hro => ?_, fun h hk hw => ⟨fun long => ?_, fun short hf hst => ?_⟩⟩
    · exact fails _ (checks.range n _ (State.rangeRefusal_outside h))
    · exact fails _ (checks.range n _ (State.rangeRefusal_noKey h hk))
    · exact fails _ (checks.range n _ (by rw [hw]; exact State.rangeRefusal_protected h hk hro))
    · exact fails _ (checks.mdts n (State.rangeRefusal_none h hk hw) long)
    · exact fails _ (checks.pointer n (State.rangeRefusal_none h hk hw) short hf hst)

end Sys2Proof.Machine
end

section
/-! PROOFS. Migration (R17, R150, R151, R153, R154): what a change of a slice leaves of it and of the others, what a write of an object leaves of its old value, how the dirty log drains, and O39. -/

namespace Sys2Proof.Machine

/-! ## A slice's own state -/

theorem State.slice_modSlice_same (s : State) (n : Nat) (f : SliceSt → SliceSt) : (s.modSlice n f).tnu.slice n = f (s.tnu.slice n) :=
  Tbl.getD_put_same _ _ _ _

theorem State.slice_modSlice_other (s : State) {n m : Nat} (f : SliceSt → SliceSt) (h : m ≠ n) : (s.modSlice n f).tnu.slice m = s.tnu.slice m :=
  Tbl.getD_put_other _ _ _ h

theorem State.eq_of_modSlice (s : State) (n : Nat) (f : SliceSt → SliceSt) :
    s.modSlice n f = { s with tnu := { s.tnu with slices := (s.modSlice n f).tnu.slices } } := rfl

/-- The slice that stands alone in the table. -/
theorem Tnu.slice_of_alone {t : Tnu} {n : Nat} {x : SliceSt} (h : t.slices = [(n, x)]) : t.slice n = x := by
  simp [Tnu.slice, h, Tbl.getD, Tbl.find?]

/-- Quiescing begins and ends: what is quiesced stays so only while fetch is stopped (R154). -/
theorem State.slice_setQuiesce_same (s : State) (n : Nat) (on : Bool) :
    (s.setQuiesce n on).tnu.slice n = { s.tnu.slice n with quiesce := on, quiesced := on && (s.tnu.slice n).quiesced } :=
  s.slice_modSlice_same n _

/-! ## Queue positions -/

/-- QSTATE_WRITE where the selected pair is unfetched and the positions fit (R154). -/
theorem State.writeQstate_of_fits {s : State} {a b z : Nat} {q : Sq} {c : Cq} (ph : Bool)
    (hq : Tbl.find? s.qen.sqs (s.obj Ob.QSTATE_SEL) = some q) (hc : Tbl.find? s.qen.cqs (s.obj Ob.QSTATE_SEL) = some c)
    (fits : q.fetched = false ∧ s.hlu.fetching (s.obj Ob.QSTATE_SEL) = false ∧ a < q.size ∧ b < q.size ∧ z < c.size) :
    s.writeQstate a b z ph = some (s.modQen fun n => { n with
      sqs := Tbl.put n.sqs (s.obj Ob.QSTATE_SEL) { q with placed := true, head := a, tail := b, arrivals := List.replicate ((b + q.size - a) % q.size) s.now }
      cqs := Tbl.put n.cqs (s.obj Ob.QSTATE_SEL) { c with tail := z, head := z, phase := ph } }) := by
  simp only [State.writeQstate, hq, hc]
  exact if_pos fits

/-- A pair from which a fetch has begun keeps its positions (R154). -/
theorem State.writeQstate_of_fetched {s : State} {q : Sq} {c : Cq} (a b z : Nat) (ph : Bool)
    (hq : Tbl.find? s.qen.sqs (s.obj Ob.QSTATE_SEL) = some q) (hc : Tbl.find? s.qen.cqs (s.obj Ob.QSTATE_SEL) = some c)
    (begun : q.fetched = true ∨ s.hlu.fetching (s.obj Ob.QSTATE_SEL) = true) : s.writeQstate a b z ph = none := by
  simp only [State.writeQstate, hq, hc]
  refine if_neg fun fits => ?_
  obtain ⟨unfetched, idle, -⟩ := fits
  rcases begun with h | h
  · exact Bool.false_ne_true (unfetched.symm.trans h)
  · exact Bool.false_ne_true (idle.symm.trans h)

/-- QSTATE_WRITE goes on with the state that the write gives, and without it where there is none. -/
theorem exec_qstateWrite {s : State} {a b z : Nat} {ph : Bool} {w : Option State} (h : (s.sample 10).writeQstate a b z ph = w) :
    exec (.qstateWrite a b z ph) s = .next (w.getD (s.sample 10)) := by
  rw [← h]; rfl

/-! ## A write of an object -/

theorem Tbl.find?_setD_other {α : Type} [DecidableEq α] (t : List (Nat × α)) {k j : Nat} (v d : α) (h : j ≠ k) :
    Tbl.find? (Tbl.setD t k v d) j = Tbl.find? t j := by
  unfold Tbl.setD
  split
  · exact Tbl.find?_del_other t h
  · exact Tbl.find?_put_other t v h

theorem dueKey_ne (k : Nat) : dueKey k ≠ k := by simp [dueKey]

/-- An object outside DSC's page remembers one old value, the first of its tick (R17). -/
theorem rememberOld_of_not_dsc {k : Nat} (h : dscObject k = false) (old : Option Nat) (t : List (Nat × Option Nat)) :
    rememberOld k old t = if Tbl.has t k then t else Tbl.put t k old := by
  simp [rememberOld, h]

/-- What is remembered of an object after a write: what was remembered before, or else the value that was written over. -/
theorem State.oldSheet_putSheet (s : State) (o : Obj) (index sub v : Nat) (h : dscObject (sheetKey index sub) = false) :
    (s.putSheet o index sub v).oldSheet (sheetKey index sub) =
      (s.oldSheet (sheetKey index sub)).orElse fun _ => some (Tbl.find? s.sheet (sheetKey index sub)) := by
  generalize hk : sheetKey index sub = k at h
  have old : (s.putSheet o index sub v).sheetOld = if Tbl.has s.sheetOld k then s.sheetOld else Tbl.put s.sheetOld k (Tbl.find? s.sheet k) := by
    rw [← rememberOld_of_not_dsc h, ← hk]; rfl
  unfold State.oldSheet
  rw [old]
  cases known : Tbl.find? s.sheetOld k with
  | some w =>
    simp only [Tbl.has, known, Option.isSome_some, if_true]
    cases Tbl.find? s.sheetOld (dueKey k) <;> rfl
  | none =>
    simp only [Tbl.has, known, Option.isSome_none, Bool.false_eq_true, if_false, Tbl.find?_put_same, Tbl.find?_put_other _ _ (dueKey_ne k)]
    cases Tbl.find? s.sheetOld (dueKey k) <;> rfl

/-- The defaults depend on one object, STAGE_GIB (for WIN_STAGE_MAX): a write of another leaves them. -/
theorem State.dflt_putSheet (s : State) (o : Obj) (index sub v : Nat) (h : sheetKey 0x2C00 0x01 ≠ sheetKey index sub) :
    (s.putSheet o index sub v).dflt = s.dflt := by
  have kept : Tbl.getD (s.putSheet o index sub v).sheet (sheetKey 0x2C00 0x01) 4 = Tbl.getD s.sheet (sheetKey 0x2C00 0x01) 4 :=
    Tbl.getD_setD_ne _ _ _ _ _ _ h
  unfold State.dflt
  rw [kept]

/-- In the tick of a write the units still use the old value (R17). -/
theorem State.obj_putSheet (s : State) (o : Obj) (i j v : Nat) (hd : dscObject (sheetKey (o.idx + i) (o.sub + j)) = false)
    (hg : sheetKey 0x2C00 0x01 ≠ sheetKey (o.idx + i) (o.sub + j)) : (s.putSheet o (o.idx + i) (o.sub + j) v).obj o i j = s.obj o i j := by
  unfold State.obj
  rw [State.oldSheet_putSheet s o _ _ v hd, State.dflt_putSheet s o _ _ v hg]
  cases s.oldSheet (sheetKey (o.idx + i) (o.sub + j)) with
  | some old => cases old <;> rfl
  | none =>
    unfold State.sheetVal Tbl.getD
    cases Tbl.find? s.sheet (sheetKey (o.idx + i) (o.sub + j)) <;> rfl

theorem State.find?_putSheet_other (s : State) (o : Obj) (index sub v : Nat) {k : Nat} (h : k ≠ sheetKey index sub) :
    Tbl.find? (s.putSheet o index sub v).sheet k = Tbl.find? s.sheet k := Tbl.find?_setD_other _ _ _ h

/-- The table keeps no entry of a value equal to the default, so a default of 0 makes every written value readable with 0 for a missing entry. -/
theorem State.getD_putSheet_same {s : State} {o : Obj} {index sub : Nat} (v : Nat) (h : s.dflt o index sub = 0) :
    Tbl.getD (s.putSheet o index sub v).sheet (sheetKey index sub) 0 = v := by
  have stored : (s.putSheet o index sub v).sheet = Tbl.setD s.sheet (sheetKey index sub) v 0 := by rw [← h]; rfl
  rw [stored, Tbl.getD_setD_same]

/-! ## The dirty log's objects -/

/-- The defaults that Config gives beside an object's own are slice 0's alone. -/
theorem State.dflt_slice_succ (s : State) (o : Obj) (n sub : Nat) : s.dflt o (0x8000 + (n + 1)) sub = o.dflt := by
  unfold State.dflt objDefault
  rw [if_neg (by omega), if_neg (by omega), if_neg (by omega), if_neg (by omega), if_neg (by omega)]

theorem State.dflt_dlogHead (s : State) (n : Nat) : s.dflt Ob.DLOG_HEAD (0x8000 + n) 0x33 = 0 := by
  cases n with
  | zero => rfl
  | succ n => exact s.dflt_slice_succ Ob.DLOG_HEAD n 0x33

theorem State.dflt_dlogEpoch (s : State) (n : Nat) : s.dflt Ob.DLOG_EPOCH (0x8000 + n) 0x36 = 0 := by
  cases n with
  | zero => rfl
  | succ n => exact s.dflt_slice_succ Ob.DLOG_EPOCH n 0x36

theorem dscObject_dlogHead (n : Nat) : dscObject (sheetKey (0x8000 + n) 0x33) = false := by
  unfold dscObject sheetKey
  rw [beq_eq_false_iff_ne]
  omega

/-- A new head is in force from the next tick on (R17, R153). -/
theorem State.sliceObj_writeDlogHead (s : State) (n h : Nat) : (s.writeDlogHead n h).sliceObj Ob.DLOG_HEAD n = s.sliceObj Ob.DLOG_HEAD n :=
  s.obj_putSheet Ob.DLOG_HEAD n 0 _ (dscObject_dlogHead n) (by simp only [sheetKey, Ob.DLOG_HEAD]; omega)

/-! ## The dirty log drains -/

theorem State.slice_dlogWrite (s : State) (n : Nat) (e : Dword) : (s.dlogWrite n e).tnu.slice n =
    { s.tnu.slice n with
      dlogTail := ((s.tnu.slice n).dlogTail + 8) % s.ringBytes n
      dlogPhase := if ((s.tnu.slice n).dlogTail + 8) % s.ringBytes n = 0 then !(s.tnu.slice n).dlogPhase else (s.tnu.slice n).dlogPhase } :=
  Tbl.getD_put_same _ _ _ _

theorem State.mem_filter_dlogWrite (s : State) (n : Nat) (e : Dword) : (n, e) ∈ (s.dlogWrite n e).tnu.filter :=
  List.mem_cons_self

/-- A tick drains the one slice that has entries waiting. -/
theorem State.dlogTick_of_alone {s : State} {n : Nat} {x : SliceSt} (alone : s.tnu.slices = [(n, x)]) (waits : x.dlogWait ≠ []) :
    s.dlogTick = s.dlogDrain n x.dlogWait := by
  simp [State.dlogTick, alone, waits]

/-- The last entry that waits is written where the ring has room. -/
theorem State.dlogDrain_last {s : State} {n : Nat} (e : Dword) (room : s.dlogFull n = false) :
    s.dlogDrain n [e] = (s.dlogWrite n e).modSlice n fun y => { y with dlogWait := [] } := by
  simp [State.dlogDrain, room]

/-- Nothing is written into a full ring (R153). -/
theorem State.dlogDrain_of_full {s : State} {n : Nat} (es : List Dword) (full : s.dlogFull n = true) : s.dlogDrain n es = s := by
  cases es with
  | nil => rfl
  | cons e es => exact if_pos full

/-- The state after the last waiting entry is written: the entry goes out at the tail, and only the slices and the filter change beside it. -/
theorem State.eq_of_dlogWrite (s : State) (n : Nat) (e : Dword) (f : SliceSt → SliceSt) :
    (s.dlogWrite n e).modSlice n f = { s with out := ((s.dlogWrite n e).modSlice n f).out, tnu := ((s.dlogWrite n e).modSlice n f).tnu } := rfl

/-! ## Migration -/

/-- Settles O39: a slice's change reaches that slice alone, QSTATE places a pair only before its first fetch, and a written object keeps its old value for the tick. -/
theorem migrationQuiescesLogsAndRestoresPositions : Obligations.MigrationQuiescesLogsAndRestoresPositions := by
  unfold Obligations.MigrationQuiescesLogsAndRestoresPositions
  refine ⟨fun s n => ⟨?_, ?_, fun quiesce idle logged => ?_⟩, fun s a b z ph q c hq hc => ⟨fun unfetched idle ha hb hz => ?_, fun begun => ?_⟩,
    fun s n h => ?_, fun s n x e alone waits => ⟨fun room => ?_, fun full => ?_⟩, fun s n v => ?_⟩
  · exact ⟨_, rfl, State.slice_setQuiesce_same _ n true, fun m hm => State.slice_modSlice_other _ _ hm, State.eq_of_modSlice _ _ _⟩
  · exact ⟨_, rfl, State.slice_setQuiesce_same _ n false, fun m hm => State.slice_modSlice_other _ _ hm, State.eq_of_modSlice _ _ _⟩
  · exact ⟨_, if_pos ⟨quiesce, idle, logged⟩, s.slice_modSlice_same n _, fun m hm => s.slice_modSlice_other _ hm, s.eq_of_modSlice n _⟩
  · have placed := State.writeQstate_of_fits (s := s.sample 10) ph hq hc ⟨unfetched, idle, ha, hb, hz⟩
    exact ⟨_, exec_qstateWrite placed, Tbl.find?_put_same _ _ _, Tbl.find?_put_same _ _ _,
      fun k hk => ⟨Tbl.find?_put_other _ _ hk, Tbl.find?_put_other _ _ hk⟩, rfl⟩
  · have refused := State.writeQstate_of_fetched (s := s.sample 10) a b z ph hq hc begun
    exact exec_qstateWrite refused
  · exact ⟨_, rfl, State.getD_putSheet_same _ (State.dflt_dlogHead _ n), State.sliceObj_writeDlogHead _ n h,
      fun k hk => State.find?_putSheet_other _ _ _ _ _ hk, rfl⟩
  · have drained : s.dlogTick = (s.dlogWrite n e).modSlice n fun y => { y with dlogWait := [] } := by
      rw [State.dlogTick_of_alone alone (by simp [waits]), waits, State.dlogDrain_last e room]
    have own : s.tnu.slice n = x := Tnu.slice_of_alone alone
    rw [drained]
    refine ⟨?_, ?_, s.mem_filter_dlogWrite n e, s.eq_of_dlogWrite n e _⟩
    · rw [← own]; rfl
    · rw [State.slice_modSlice_same, State.slice_dlogWrite, own]
  · rw [State.dlogTick_of_alone alone (by simp [waits]), State.dlogDrain_of_full _ full]
  · refine ⟨_, rfl, fun e => ?_, State.getD_putSheet_same _ (State.dflt_dlogEpoch _ n),
      fun k hk => State.find?_putSheet_other (s.sample 10) Ob.DLOG_EPOCH _ _ _ hk, rfl⟩
    exact List.mem_filter.trans (and_congr_right fun _ => bne_iff_ne)

end Sys2Proof.Machine
end

section
/-! PROOFS. What the squash of contexts (Table 4.7, R53, R87, R120) changes of the units it reaches, beside the contexts themselves. -/

namespace Sys2Proof.Machine

/-- The parts of the exception queue, the map unit, the link and the queue engine that a squash never changes are the same. -/
structure Squashed (s t : State) : Prop where
  ccl : t.ccl = { s.ccl with exc := t.ccl.exc }
  mxe : t.mxe = { s.mxe with deltas := t.mxe.deltas, inflight := t.mxe.inflight, locks := t.mxe.locks, place := t.mxe.place }
  hlu : t.hlu = { s.hlu with dmaQueue := t.hlu.dmaQueue, tags := t.hlu.tags }
  qen : t.qen = { s.qen with ctxs := t.qen.ctxs, freed := t.qen.freed, ctrls := t.qen.ctrls, psPost := t.qen.psPost, psWaiting := t.qen.psWaiting
                             entryPend := t.qen.entryPend, actCtx := t.qen.actCtx }

namespace Squashed

theorem refl (s : State) : Squashed s s := ⟨rfl, rfl, rfl, rfl⟩

theorem trans {s t u : State} (h : Squashed s t) (k : Squashed t u) : Squashed s u := by
  refine ⟨?_, ?_, ?_, ?_⟩
  · rw [k.ccl, h.ccl]
  · rw [k.mxe, h.mxe]
  · rw [k.hlu, h.hlu]
  · rw [k.qen, h.qen]

theorem foldl {α : Type} (f : State → α → State) (l : List α) (s : State) (h : ∀ t x, Squashed t (f t x)) : Squashed s (l.foldl f s) := by
  induction l generalizing s with
  | nil => exact refl s
  | cons a l ih => exact (h s a).trans (ih _)

end Squashed

namespace State

/-! ## Freeing buffers -/

theorem refuseBuf_ccl (s : State) (bit : Nat) (h : BitVec 24) (unit : Nat) :
    (s.refuseBuf bit h unit).ccl = { s.ccl with exc := (s.refuseBuf bit h unit).ccl.exc } := by
  simp [refuseBuf, raiseExc]

theorem bufFree_ccl (s : State) (h : BitVec 24) (unit : Nat) : (s.bufFree h unit).ccl = { s.ccl with exc := (s.bufFree h unit).ccl.exc } := by
  unfold bufFree
  split
  · exact refuseBuf_ccl _ _ _ _
  · dsimp only
    split <;> simp

theorem bufFree_squashed (s : State) (h : BitVec 24) (unit : Nat) : Squashed s (s.bufFree h unit) where
  ccl := bufFree_ccl s h unit
  mxe := by simp
  hlu := by simp
  qen := by rw [(bufFree_same s h unit).qen]

theorem freeBufs_squashed (s : State) (hs : List (BitVec 24)) : Squashed s (s.freeBufs hs) :=
  Squashed.foldl _ _ _ fun t h => bufFree_squashed t h _

/-! ## Contexts -/

theorem modCtx_squashed (s : State) (c : Nat) (f : Ctx → Ctx) : Squashed s (s.modCtx c f) := ⟨rfl, rfl, rfl, rfl⟩

theorem freeCtx_squashed (s : State) (c : Nat) : Squashed s (s.freeCtx c) := by
  unfold freeCtx
  split
  · exact ⟨rfl, rfl, rfl, rfl⟩
  · exact .refl s

theorem discardCtx_squashed (s : State) (c : Nat) (x : Ctx) : Squashed s (s.discardCtx c x) := by
  have dropped : Squashed (s.freeBufs x.bufs) ((s.freeBufs x.bufs).modHlu fun h => h.dropDma c) := ⟨rfl, rfl, rfl, rfl⟩
  exact ((freeBufs_squashed s x.bufs).trans dropped).trans (freeCtx_squashed _ c)

theorem withdraw_squashed (s : State) (c dsn : Nat) : Squashed s (s.modMxe fun m => m.withdraw c dsn) := ⟨rfl, rfl, rfl, rfl⟩

theorem squashCtx_squashed (s : State) (e : Nat × Ctx) : Squashed s (s.squashCtx e) := by
  unfold squashCtx
  dsimp only
  split
  · exact discardCtx_squashed _ _ _
  split
  · exact .refl s
  split
  · split
    · exact modCtx_squashed _ _ _
    · exact freeCtx_squashed _ _
  split
  · split
    · exact (withdraw_squashed _ _ _).trans (discardCtx_squashed _ _ _)
    split
    · exact modCtx_squashed _ _ _
    · exact freeCtx_squashed _ _
  · exact discardCtx_squashed _ _ _

theorem squashWhere_squashed (s : State) (p : Ctx → Bool) : Squashed s (s.squashWhere p) := Squashed.foldl _ _ _ squashCtx_squashed

end State

end Sys2Proof.Machine
end

section
/-! PROOFS. Power, resets of class 1 to 3 and the Call Sheet (spec/02, R24, R34, R39, R53, Table 2.6): what stays of the objects, O1 and O2. -/

namespace Sys2Proof.Machine

/-! ## Objects -/

theorem Tbl.find?_filter {α : Type} (p : Nat → Bool) (t : List (Nat × α)) (k : Nat) :
    Tbl.find? (t.filter fun e => p e.1) k = if p k then Tbl.find? t k else none := by
  induction t with
  | nil => simp
  | cons e t ih =>
    obtain ⟨j, v⟩ := e
    by_cases hj : k = j
    · subst hj
      by_cases hp : p k
      · simp [hp, Tbl.find?]
      · simp [hp, ih]
    · by_cases hp : p j
      · simp [hp, Tbl.find?, hj, ih]
      · simp [hp, Tbl.find?, hj, ih]

namespace State

/-- A VOLATILE object holds its default after the reset, any other its value (Table 2.6). -/
theorem find?_dropVolatile (s : State) {k : Nat} {o : Obj} (h : objAt (k / 256) (k % 256) = some o) :
    Tbl.find? s.dropVolatile.sheet k = if o.pers = .volatile then none else Tbl.find? s.sheet k := by
  refine (Tbl.find?_filter (fun k => !(objAt (k / 256) (k % 256)).any fun o => o.pers == .volatile) s.sheet k).trans ?_
  by_cases hv : o.pers = .volatile <;> simp [h, hv]

/-- A cut of this tick that was planned: an event of class 1 to 3 undoes it (R24). -/
def CutUndone (s : State) : Prop := ∃ g, s.ccl.gap = some g ∧ g.start = s.now ∧ cutPlanned g.cause = true

theorem sheet_undoCut_of_undone {s : State} {g : Gap} (h : s.ccl.gap = some g) (start : g.start = s.now) (planned : cutPlanned g.cause = true) :
    s.undoCut.sheet = (s.setObj Ob.CUT_COUNT g.before).sheet := by
  simp [undoCut, h, start, planned]

/-- Undoing a cut takes back the count of cuts, and no other object. -/
theorem find?_undoCut (s : State) {k : Nat} (h : s.CutUndone → k ≠ sheetKey Ob.CUT_COUNT.idx Ob.CUT_COUNT.sub) :
    Tbl.find? s.undoCut.sheet k = Tbl.find? s.sheet k := by
  by_cases hu : s.CutUndone
  · obtain ⟨g, gap, start, planned⟩ := id hu
    rw [sheet_undoCut_of_undone gap start planned]
    exact Tbl.find?_setD_other _ _ _ (h hu)
  · unfold undoCut
    split
    · next g gap => rw [if_neg fun c => hu ⟨g, gap, c⟩]
    · rfl

theorem undoCut_sheet_congr {s t : State} (sheet : t.sheet = s.sheet) (gap : t.ccl.gap = s.ccl.gap) (tick : t.tbu.tick = s.tbu.tick) :
    t.undoCut.sheet = s.undoCut.sheet := by
  unfold undoCut now
  rw [gap, tick]
  cases s.ccl.gap with
  | none => exact sheet
  | some g => dsimp only; split <;> simp [setObj, dflt, sheet]

theorem dropVolatile_sheet_congr {s t : State} (sheet : t.sheet = s.sheet) : t.dropVolatile.sheet = s.dropVolatile.sheet := by
  simp [dropVolatile, sheet]

theorem resetClusters_sheet (s : State) : s.resetClusters.sheet = s.undoCut.sheet := by
  unfold resetClusters
  dsimp only
  split <;> simp

/-- The state in which a reset of all units finds the clusters: the contexts are squashed, and PTM is lost. -/
def squashedAll (s : State) : State :=
  ((s.squashWhere fun _ => true).clearBursts fun w => (winOf s.gal.active w).kind == .stage).ptmLost

theorem squashedAll_undoCut_sheet (s : State) : s.squashedAll.undoCut.sheet = s.undoCut.sheet := by
  refine undoCut_sheet_congr ?_ ?_ ?_
  · simp [squashedAll]
  · have gap : (s.squashWhere fun _ => true).ccl.gap = s.ccl.gap := by rw [(squashWhere_squashed s _).ccl]
    simpa [squashedAll] using gap
  · simp [squashedAll, ptmLost]

/-- Of the Call Sheet a reset of all units drops the VOLATILE values, after an undone cut has been taken back. -/
theorem unitsReset_sheet (s : State) (a b : Bool) : (s.unitsReset a b).sheet = s.undoCut.dropVolatile.sheet := by
  have units : (s.unitsReset a b).sheet = (s.squashedAll.resetClusters.stopFlash.dropVolatile.healthClear Health.thermal).sheet := by
    rw [← foldl_sheet resetUnitRegs resetUnits (s.squashedAll.resetClusters.stopFlash.dropVolatile.healthClear Health.thermal) (by simp)]
    unfold unitsReset squashedAll
    dsimp only
    generalize List.foldl resetUnitRegs _ resetUnits = u
    rfl
  rw [units, ← dropVolatile_sheet_congr (squashedAll_undoCut_sheet s)]
  exact dropVolatile_sheet_congr (by rw [← resetClusters_sheet]; simp)

theorem deviceReset_sheet (s : State) (n : Nat) (w : Bool) : (s.deviceReset n w).sheet = s.undoCut.dropVolatile.sheet := by
  rw [deviceReset, unitsReset_sheet]
  exact dropVolatile_sheet_congr (undoCut_sheet_congr (by simp) (by simp) (by simp))

theorem find?_deviceReset (s : State) (n : Nat) (w : Bool) {k : Nat} {o : Obj} (h : objAt (k / 256) (k % 256) = some o)
    (hc : s.CutUndone → k ≠ sheetKey Ob.CUT_COUNT.idx Ob.CUT_COUNT.sub) :
    Tbl.find? (s.deviceReset n w).sheet k = if o.pers = .volatile then none else Tbl.find? s.sheet k := by
  rw [deviceReset_sheet, find?_dropVolatile _ h, find?_undoCut s hc]

/-- The loss of power leaves of the Call Sheet what a reset of all units leaves. -/
theorem powerOff_sheet (s : State) : s.powerOff.sheet = s.undoCut.dropVolatile.sheet := by
  unfold powerOff
  dsimp only
  simp only [modPower_sheet, modDmc_sheet, modMxe_sheet, resetUnitRegs_units, resetHum_units, mediaEnd_units, unitsReset_sheet]
  refine dropVolatile_sheet_congr (undoCut_sheet_congr ?_ ?_ ?_)
  · exact foldl_sheet _ _ _ (by simp)
  · exact congrArg Ccl.gap (foldl_ccl _ _ _ (by simp))
  · exact congrArg Tbu.tick (foldl_tbu _ _ _ (by simp))

/-! ## VDD_AUX -/

/-- A planned cut was made in this tick, with nothing else in progress. -/
def justCut : State :=
  { State.reset with
    sheet := [(sheetKey Ob.CUT_COUNT.idx Ob.CUT_COUNT.sub, 1)]
    ccl := { State.reset.ccl with gap := some { start := 0, cause := .planned, loser := .a, solo := false, before := 0 } } }

theorem exec_auxPowerLoss {s : State} (h : Rail.aux ∉ s.power.railsOut) (hd : s.hum.dump = none) :
    exec .auxPowerLoss s = .next (s.modPower fun p => { p with railsOut := .aux :: p.railsOut }).powerOff.loseRetained.loseStaging := by
  have idle : (s.modPower fun p => { p with railsOut := .aux :: p.railsOut }).hum.dump.isSome ≠ true := by simp [hd]
  refine (if_neg (by simpa using h)).trans ?_
  rw [if_neg idle]

/-- Undoing the cut takes CUT_COUNT back to the value before it, which is the default. -/
theorem justCut_undoCut_sheet (f : Power → Power) : (justCut.modPower f).undoCut.sheet = [] := by
  rw [sheet_undoCut_of_undone (s := justCut.modPower f) rfl rfl rfl]
  rfl

end State

/-- Refutes O1: VDD_AUX lost in the tick of a planned cut undoes the cut (R24), so that CUT_COUNT, which is STORED, goes back to its value before the cut; the clause on STORED objects has no exception for it. -/
theorem not_powerAndAuxCommandsRestoreOrLoseState : ¬ Obligations.PowerAndAuxCommandsRestoreOrLoseState := by
  unfold Obligations.PowerAndAuxCommandsRestoreOrLoseState
  rintro ⟨-, loss, -⟩
  obtain ⟨t, run, -, -, -, -, stored, -⟩ := loss State.justCut (by decide)
  have kept : Tbl.find? t.sheet (sheetKey Ob.CUT_COUNT.idx Ob.CUT_COUNT.sub) = some 1 := stored _ Ob.CUT_COUNT (by decide) rfl
  rw [State.exec_auxPowerLoss (by decide) rfl] at run
  injection run with run
  have lost : t.sheet = [] := by
    rw [← run]
    simp [State.loseRetained, State.powerOff_sheet, State.dropVolatile, State.justCut_undoCut_sheet]
  simp [lost] at kept

/-! ## Events of class 1 to 3 -/

/-- What an event of class 1 to 3 leaves from `s` (Tables 2.5 and 2.6): Foyer with no start decided, no context, queue, controller or link, and the objects that are not VOLATILE. -/
structure InFoyer (s t : State) : Prop where
  stage : t.power.stage = .foyer
  kind : t.power.startKind = .undecided
  closed : t.power.cfgReady = false ∧ t.power.adminOpen = false
  marker : t.power.marker = s.power.marker
  qen : t.qen.ctxs = [] ∧ t.qen.sqs = [] ∧ t.qen.cqs = [] ∧ t.qen.ctrls = []
  link : t.hlu.up = false
  budget : t.dsc.budget = 0
  sheet : ∀ k o, objAt (k / 256) (k % 256) = some o → (s.CutUndone → k ≠ sheetKey Ob.CUT_COUNT.idx Ob.CUT_COUNT.sub) →
    Tbl.find? t.sheet k = if o.pers = .volatile then none else Tbl.find? s.sheet k

/-- What follows a reset and keeps these parts leaves the controller as the reset does. -/
theorem InFoyer.after {s t u : State} (h : InFoyer s t) (power : u.power = { t.power with
      perst := u.power.perst, lossHeld := u.power.lossHeld, tripHeld := u.power.tripHeld, tripSensor := u.power.tripSensor, coolSince := u.power.coolSince
      shutWork := u.power.shutWork, mediaPend := u.power.mediaPend, releaseTick := u.power.releaseTick
      clockMode := u.power.clockMode, subsysId := u.power.subsysId, vfBar2 := u.power.vfBar2 })
    (qen : u.qen = t.qen) (hlu : u.hlu = t.hlu) (budget : u.dsc.budget = t.dsc.budget) (sheet : u.sheet = t.sheet) : InFoyer s u where
  stage := by rw [power]; exact h.stage
  kind := by rw [power]; exact h.kind
  closed := by rw [power]; exact h.closed
  marker := by rw [power]; exact h.marker
  qen := by rw [qen]; exact h.qen
  link := by rw [hlu]; exact h.link
  budget := by rw [budget]; exact h.budget
  sheet := by rw [sheet]; exact h.sheet

/-- What precedes a reset and changes neither the objects nor the cut in progress. -/
theorem InFoyer.before {r s t : State} (h : InFoyer s t) (marker : s.power.marker = r.power.marker) (sheet : s.sheet = r.sheet) (ccl : s.ccl = r.ccl)
    (tick : s.tbu.tick = r.tbu.tick) : InFoyer r t where
  __ := h
  marker := h.marker.trans marker
  sheet := fun k o hk hc => by
    rw [h.sheet k o hk fun ⟨g, gap, start, planned⟩ => hc ⟨g, by rw [← ccl]; exact gap, start.trans tick, planned⟩, sheet]

namespace State

theorem deviceReset_inFoyer (s : State) (n : Nat) (w : Bool) : InFoyer s (s.deviceReset n w) where
  stage := by rw [deviceReset_power]
  kind := by rw [deviceReset_power]
  closed := by rw [deviceReset_power]; exact ⟨rfl, rfl⟩
  marker := by rw [deviceReset_power]
  qen := deviceReset_qen s n w
  link := deviceReset_hlu_up s n w
  budget := unitsReset_dsc_dies _ _ _
  sheet := fun _ _ hk hc => find?_deviceReset s n w hk hc

/-- Operations that enter a die's slots change the dies only. -/
theorem fill_dsc (s : State) (n : Nat) : (s.fill n).dsc = { s.dsc with dies := (s.fill n).dsc.dies } := by
  have slots : ∀ (fuel : Nat) (s : State), (s.fillSlots n fuel).dsc = { s.dsc with dies := (s.fillSlots n fuel).dsc.dies } := by
    intro fuel
    induction fuel with
    | zero => exact fun _ => rfl
    | succ fuel ih =>
      intro s
      unfold fillSlots
      split
      · exact (ih _).trans rfl
      · rfl
  exact slots 7 s

theorem dropOp_budget (s : State) (d i : Nat) : (s.dropOp d i).dsc.budget = s.dsc.budget := by
  rw [dropOp, fill_dsc]
  rfl

theorem cutOp_budget (b : Bool) (s : State) (e : Nat × Nat × DieOp) : (s.cutOp b e).dsc.budget = s.dsc.budget := by
  have drop : (s.cutOp b e).dsc.budget = ((if isProgram e.2.2.req.kind then s.cutProgram e.2.2 else s).dropOp e.1 e.2.1).dsc.budget := by
    unfold cutOp interruptOp
    simp only [nandCmd_units]
    rfl
  rw [drop, dropOp_budget]
  split <;> simp

/-- The media once the units are reset for a dump (R364): only its operations start, and programs and erases on the dump dies end. -/
def haltMedia (s : State) : State :=
  let s := s.modPower fun p => { p with shutWork := false, mediaPend := false }
  let s := (s.modDsc fun d => { d with dumpOnly := true }).modFca fun f => { f with dump := true, gapHeld := false }
  if s.dumpRoom then (s.runningPe fun d => s.hum.dies.contains d).foldl (fun s e => State.cutOp (s.suspLoaded (e.2.2.req.kind == .erase)) s e) s else s

/-- What halting the media keeps. -/
theorem haltMedia_keeps (s : State) :
    s.haltMedia.power = { s.power with shutWork := false, mediaPend := false } ∧ s.haltMedia.qen = s.qen ∧ s.haltMedia.hlu = s.hlu ∧
      s.haltMedia.dsc.budget = s.dsc.budget ∧ s.haltMedia.sheet = s.sheet ∧ s.haltMedia.hum = s.hum := by
  have cuts : ∀ (f : State → Nat × Nat × DieOp → Bool) (l : List (Nat × Nat × DieOp)) (t : State),
      (l.foldl (fun s e => State.cutOp (f s e) s e) t).dsc.budget = t.dsc.budget := by
    intro f l
    induction l with
    | nil => exact fun _ => rfl
    | cons e l ih => exact fun t => (ih _).trans (cutOp_budget _ _ _)
  unfold haltMedia
  dsimp only
  split
  · refine ⟨?_, ?_, ?_, ?_, ?_, ?_⟩
    · exact foldl_power _ _ _ (by simp)
    · exact foldl_qen _ _ _ (by simp)
    · exact foldl_hlu _ _ _ (by simp)
    · exact cuts (fun s e => s.suspLoaded (e.2.2.req.kind == .erase)) _ _
    · exact foldl_sheet _ _ _ (by simp)
    · exact foldl_hum _ _ _ (by simp)
  · exact ⟨rfl, rfl, rfl, rfl, rfl, rfl⟩

theorem dumpBegin_of_running {s : State} (thermal : Bool) (h : s.hum.dump.isSome = true) :
    s.dumpBegin thermal = s.deviceReset (if thermal then 2 else 1) false := if_pos h

theorem dumpBegin_of_none {s : State} (thermal : Bool) (h : s.hum.dump.isSome ≠ true) :
    s.dumpBegin thermal = ((s.enterDump thermal).deviceReset (if thermal then 2 else 1) false).haltMedia := if_neg h

theorem dumpBegin_inFoyer (s : State) (thermal : Bool) : InFoyer s (s.dumpBegin thermal) := by
  by_cases running : s.hum.dump.isSome = true
  · rw [dumpBegin_of_running thermal running]
    exact deviceReset_inFoyer s _ _
  · rw [dumpBegin_of_none thermal running]
    have reset : InFoyer s ((s.enterDump thermal).deviceReset (if thermal then 2 else 1) false) :=
      (deviceReset_inFoyer _ _ _).before (by simp) (by simp) (by simp) (by simp)
    obtain ⟨power, qen, hlu, budget, sheet, -⟩ := haltMedia_keeps ((s.enterDump thermal).deviceReset (if thermal then 2 else 1) false)
    exact reset.after (by rw [power]) qen hlu budget sheet

/-- A dump runs once one has begun (R359, R360, R367). -/
theorem dumpBegin_dump (s : State) (thermal : Bool) : (s.dumpBegin thermal).hum.dump.isSome = true := by
  by_cases running : s.hum.dump.isSome = true
  · rw [dumpBegin_of_running thermal running]
    simpa using running
  · rw [dumpBegin_of_none thermal running]
    obtain ⟨-, -, -, -, -, hum⟩ := haltMedia_keeps ((s.enterDump thermal).deviceReset (if thermal then 2 else 1) false)
    rw [hum]
    simp [enterDump, setHum_state]

theorem supplyLost_inFoyer (s : State) : InFoyer s s.supplyLost := by
  refine (dumpBegin_inFoyer s false).after ?_ ?_ ?_ ?_ ?_ <;> simp [supplyLost]

theorem release_power (s : State) : s.release.power = { s.power with
    releaseTick := s.release.power.releaseTick, clockMode := s.release.power.clockMode, subsysId := s.release.power.subsysId, vfBar2 := s.release.power.vfBar2 } := by
  unfold release
  split <;> rfl

/-- The reset of the HUM and its registers, where no dump runs. -/
def resetHumUnit (s : State) : State := if s.hum.dump.isSome then s else s.resetHum.resetUnitRegs UnitNo.hum

theorem resetHumUnit_keeps (s : State) :
    s.resetHumUnit.power = s.power ∧ s.resetHumUnit.qen = s.qen ∧ s.resetHumUnit.hlu = s.hlu ∧ s.resetHumUnit.dsc = s.dsc ∧ s.resetHumUnit.sheet = s.sheet := by
  unfold resetHumUnit
  split <;> simp

/-- An event of class 3: the units' reset, its record, the HUM where no dump runs, and what is left to write to NAND (R38, R367). -/
theorem classThree_eq (s : State) : ∃ (w : Bool) (f : Power → Power),
    s.classThree = ((s.deviceReset 3 w).trigger 0x02 UnitNo.hlu 0 0).resetHumUnit.modPower f ∧
      ∀ p, f p = { p with shutWork := (f p).shutWork, mediaPend := (f p).mediaPend } := by
  unfold classThree
  dsimp only
  refine ⟨s.power.stage == .hall || s.power.shutWork, ?_⟩
  split
  · exact ⟨id, rfl, fun _ => rfl⟩
  split
  · exact ⟨_, rfl, fun _ => rfl⟩
  · exact ⟨_, rfl, fun _ => rfl⟩

theorem classThree_inFoyer (s : State) : InFoyer s s.classThree := by
  obtain ⟨w, f, eq, hf⟩ := classThree_eq s
  obtain ⟨power, qen, hlu, dsc, sheet⟩ := resetHumUnit_keeps ((s.deviceReset 3 w).trigger 0x02 UnitNo.hlu 0 0)
  rw [eq]
  refine (deviceReset_inFoyer s 3 w).after ?_ ?_ ?_ ?_ ?_
  · rw [modPower_power, hf, power, trigger_power]
  · rw [modPower_qen, qen, trigger_qen]
  · rw [modPower_hlu, hlu, trigger_hlu]
  · rw [modPower_dsc, dsc, trigger_dsc]
  · rw [modPower_sheet, sheet, trigger_sheet]

/-- An event of class 3 leaves PERST_N and what holds a start as they are. -/
theorem classThree_holds (s : State) :
    s.classThree.power.perst = s.power.perst ∧ s.classThree.power.lossHeld = s.power.lossHeld ∧ s.classThree.power.tripHeld = s.power.tripHeld := by
  obtain ⟨w, f, eq, hf⟩ := classThree_eq s
  obtain ⟨power, -⟩ := resetHumUnit_keeps ((s.deviceReset 3 w).trigger 0x02 UnitNo.hlu 0 0)
  rw [eq, modPower_power, hf, power, trigger_power, deviceReset_power]
  exact ⟨rfl, rfl, rfl⟩

theorem linkLost_inFoyer (s : State) : InFoyer s s.linkLost := by
  refine (classThree_inFoyer s).after ?_ ?_ ?_ ?_ ?_
  · rw [linkLost, release_power]; rfl
  all_goals simp [linkLost]

theorem thermalTrip_inFoyer (s : State) (n : Nat) : InFoyer s
    (((s.dumpBegin true).modPower fun p => { p with tripHeld := true, tripSensor := some n, coolSince := none }).trigger 0x01 UnitNo.dsc n 0) := by
  refine (dumpBegin_inFoyer s true).after ?_ ?_ ?_ ?_ ?_ <;> simp

/-! ## Each event by its condition -/

theorem exec_supplyLoss_pwrfail {s : State} (on : s.power.unpowered = false) (h : s.power.pwrfail = false) :
    exec (.supplyLoss .pwrfailN) s = .next (s.modPower fun p => { p with pwrfail := true }).supplyLost := by
  refine (if_neg (by simp [on])).trans ?_
  exact if_neg (by simp [h])

theorem exec_supplyLoss_rail {s : State} {r : Rail} (on : s.power.unpowered = false) (h : r ≠ .aux) (h' : r ∉ s.power.railsOut) :
    exec (.supplyLoss (.rail r)) s = .next (s.modPower fun p => { p with railsOut := r :: p.railsOut }).supplyLost := by
  refine (if_neg (by simp [on])).trans ?_
  exact if_neg (by simp [h, h'])

theorem exec_thermalTrip {s : State} (n : Nat) (on : s.power.unpowered = false) : exec (.thermalTrip n) s =
    .next (((s.dumpBegin true).modPower fun p => { p with tripHeld := true, tripSensor := some n, coolSince := none }).trigger 0x01 UnitNo.dsc n 0) :=
  if_neg (by simp [on])

theorem exec_perstNAssert {s : State} (on : s.power.unpowered = false) (h : s.power.perst = false) :
    exec .perstNAssert s = .next (s.modPower fun p => { p with perst := true }).classThree :=
  if_neg (by simp [on, h])

theorem exec_linkDown {s : State} (h : s.hlu.up = true) : exec .linkDown s = .next s.linkLost := if_pos h

theorem exec_nvmSubsystemReset {s : State} (h : s.hlu.up = true) : exec .nvmSubsystemReset s = .next s.linkLost := if_pos h

/-- The event `i` returns the controller to Foyer and, by its kind, begins a dump and holds the start, or asserts PERST_N. -/
def ReturnsToFoyer (i : Instr) (s : State) : Prop :=
  ∃ t, exec i s = .next t ∧ InFoyer s t ∧ t.pending = s.pending ∧ t.timers = s.timers ∧
    (∀ c, i = .supplyLoss c → t.power.lossHeld = true ∧ t.hum.dump.isSome = true) ∧
    (∀ n, i = .thermalTrip n → t.power.tripHeld = true ∧ t.hum.dump.isSome = true) ∧
    (i = .perstNAssert → t.power.perst = true ∧ t.power.lossHeld = s.power.lossHeld ∧ t.power.tripHeld = s.power.tripHeld)

theorem supplyLoss_returnsToFoyer {s : State} {c : SupplyCause} {f : Power → Power} (run : exec (.supplyLoss c) s = .next (s.modPower f).supplyLost)
    (marker : (f s.power).marker = s.power.marker) : ReturnsToFoyer (.supplyLoss c) s := by
  refine ⟨_, run, (supplyLost_inFoyer _).before marker rfl rfl rfl, by simp, by simp, fun _ _ => ⟨?_, ?_⟩, nofun, nofun⟩
  · simp [supplyLost]
  · simp [supplyLost, dumpBegin_dump]

theorem thermalTrip_returnsToFoyer {s : State} (n : Nat) (on : s.power.unpowered = false) : ReturnsToFoyer (.thermalTrip n) s :=
  ⟨_, exec_thermalTrip n on, thermalTrip_inFoyer s n, by simp, by simp, nofun, fun _ _ => ⟨by simp, by simp [dumpBegin_dump]⟩, nofun⟩

theorem perstNAssert_returnsToFoyer {s : State} (on : s.power.unpowered = false) (h : s.power.perst = false) : ReturnsToFoyer .perstNAssert s :=
  ⟨_, exec_perstNAssert on h, (classThree_inFoyer _).before rfl rfl rfl rfl, by simp, by simp, nofun, nofun, fun _ => classThree_holds _⟩

theorem linkDown_returnsToFoyer {s : State} (h : s.hlu.up = true) : ReturnsToFoyer .linkDown s :=
  ⟨_, exec_linkDown h, linkLost_inFoyer s, by simp, by simp, nofun, nofun, nofun⟩

theorem nvmSubsystemReset_returnsToFoyer {s : State} (h : s.hlu.up = true) : ReturnsToFoyer .nvmSubsystemReset s :=
  ⟨_, exec_nvmSubsystemReset h, linkLost_inFoyer s, by simp, by simp, nofun, nofun, nofun⟩

end State

/-- Settles O2: each of the events resets every unit (`InFoyer`), and what it does beside that keeps the parts named. -/
theorem eventsOfClassOneToThreeReturnToFoyer : Obligations.EventsOfClassOneToThreeReturnToFoyer := by
  unfold Obligations.EventsOfClassOneToThreeReturnToFoyer
  intro i s on event
  have returns : State.ReturnsToFoyer i s := by
    obtain ⟨rfl, h⟩ | ⟨r, rfl, h, h'⟩ | ⟨n, rfl⟩ | ⟨rfl, h⟩ | ⟨rfl, h⟩ | ⟨rfl, h⟩ := event
    · exact State.supplyLoss_returnsToFoyer (State.exec_supplyLoss_pwrfail on h) rfl
    · exact State.supplyLoss_returnsToFoyer (State.exec_supplyLoss_rail on h h') rfl
    · exact State.thermalTrip_returnsToFoyer n on
    · exact State.perstNAssert_returnsToFoyer on h
    · exact State.linkDown_returnsToFoyer h
    · exact State.nvmSubsystemReset_returnsToFoyer h
  obtain ⟨t, run, foyer, pending, timers, loss, trip, perst⟩ := returns
  have tick : t.tbu.tick = s.tbu.tick := exec_keeps_tick (by rintro rfl; simp at event) run
  obtain ⟨ctxs, sqs, cqs, ctrls⟩ := foyer.qen
  exact ⟨t, run, foyer.stage, foyer.kind, foyer.closed.1, foyer.closed.2, ctxs, sqs, cqs, ctrls, foyer.link, foyer.budget, tick, pending, timers,
    foyer.marker, foyer.sheet, loss, trip, perst⟩

end Sys2Proof.Machine
end

section
/-! PROOFS. Releases, the configuration space, the power-on seconds and voltage requests (spec/02, spec/03, spec/20, R37, R40, R53, R56, R57, R88, R512, R513), and O4. -/

namespace Sys2Proof.Machine

namespace State

/-! ## Releases -/

/-- With nothing that holds a start it counts from now, and the objects of R37 and R40 are read. -/
theorem release_of_free {s : State} (perst : s.power.perst = false) (loss : s.power.lossHeld = false) (trip : s.power.tripHeld = false)
    (on : s.power.unpowered = false) (rails : s.power.railsOut = []) : s.release = { s with power := { s.power with
      releaseTick := some s.now, clockMode := s.obj Ob.CLOCK_MODE, subsysId := s.obj Ob.SUBSYS_ID, vfBar2 := s.obj Ob.VF_BAR2_LOG2 } } :=
  if_neg (by simp [perst, loss, trip, on, rails])

theorem exec_perstNRelease {s : State} (h : s.power.perst = true) (on : s.power.unpowered = false) :
    exec .perstNRelease s = .next (s.modPower fun p => { p with perst := false }).release := if_pos ⟨h, on⟩

theorem exec_supplyRestoreStart {s : State} (h : s.power.lossHeld = true) (ended : s.hum.dump = none) (on : s.power.unpowered = false)
    (waited : ∀ u, s.power.dumpEndTick = some u → s.passed u (msTicks 10) = true) : exec .supplyRestoreStart s =
      .next (((s.modPower fun p => { p with lossHeld := false, pwrfail := false, railsOut := [] }).modFca fun f => { f with pwrfail := none }).release) :=
  if_pos ⟨h, ended, on, Option.all_eq_true _ _ |>.mpr waited⟩

theorem exec_thermalTripRelease {s : State} {u : Dword} (h : s.power.tripHeld = true) (cool : s.power.coolSince = some u)
    (waited : s.passed u (secTicks 1) = true) (ended : s.hum.dump = none) :
    exec .thermalTripRelease s = .next (s.modPower fun p => { p with tripHeld := false, tripSensor := none }).release :=
  if_pos ⟨h, ended, by rw [cool]; exact waited⟩

/-! ## Configuration requests -/

section
variable {s : State} {fn : Nat} (offset : Nat) (h : s.inboundHeld = false)
include h

theorem exec_configurationRequest_retry (wr : Option CfgWrite) (closed : s.power.cfgReady = false ∨ (Tbl.getD s.hlu.fns fn default).flr = true) :
    exec (.configurationRequest fn offset wr) s = .next ((s.arrive 0).emit (.cfgCompletion fn offset none)) :=
  (if_neg (by simp [h])).trans (if_pos closed)

variable (ready : s.power.cfgReady = true) (noFlr : (Tbl.getD s.hlu.fns fn default).flr = false)
include ready noFlr

theorem exec_configurationRequest_write (w : CfgWrite) :
    exec (.configurationRequest fn offset (some w)) s = .next (((s.arrive 0).cfgWrite fn w).emit (.cfgCompletion fn offset (some 0))) := by
  refine (if_neg (by simp [h])).trans (if_neg ?_)
  change ¬(s.power.cfgReady = false ∨ (Tbl.getD s.hlu.fns fn default).flr = true)
  simp [ready, noFlr]

theorem exec_configurationRequest_value {v : Nat} (reg : (s.arrive 0).cfgReg fn offset = some v) :
    exec (.configurationRequest fn offset none) s = .next ((s.arrive 0).emit (.cfgCompletion fn offset (some (BitVec.ofNat 32 v)))) := by
  refine ((if_neg (by simp [h])).trans (if_neg ?_)).trans ?_
  · change ¬(s.power.cfgReady = false ∨ (Tbl.getD s.hlu.fns fn default).flr = true)
    simp [ready, noFlr]
  · dsimp only
    rw [reg]

theorem exec_configurationRequest_free (reg : (s.arrive 0).cfgReg fn offset = none) :
    exec (.configurationRequest fn offset none) s =
      .next ((s.arrive 0).drawn.emit (.cfgCompletion fn offset (some (BitVec.ofNat 32 (s.arrive 0).fresh)))) := by
  refine ((if_neg (by simp [h])).trans (if_neg ?_)).trans ?_
  · change ¬(s.power.cfgReady = false ∨ (Tbl.getD s.hlu.fns fn default).flr = true)
    simp [ready, noFlr]
  · dsimp only
    rw [reg]

end

/-- A configuration write changes the link's registers only. -/
theorem eq_of_cfgWrite (s : State) (fn : Nat) (w : CfgWrite) : s.cfgWrite fn w = { s with hlu := (s.cfgWrite fn w).hlu } := by
  cases w <;> rfl

/-! ## Power-on seconds and voltage -/

theorem getD_setObj_same (s : State) {o : Obj} (v : Nat) (h : s.dflt o o.idx o.sub = 0) :
    Tbl.getD (s.setObj o v).sheet (sheetKey o.idx o.sub) 0 = v := by
  rw [← h]
  exact Tbl.getD_setD_same _ _ _ _

theorem find?_setObj_other (s : State) (o : Obj) (v : Nat) {k : Nat} (h : k ≠ sheetKey o.idx o.sub) :
    Tbl.find? (s.setObj o v).sheet k = Tbl.find? s.sheet k := Tbl.find?_setD_other _ _ _ h

theorem dflt_powerOnSeconds (s : State) : s.dflt Ob.POWER_ON_SECONDS Ob.POWER_ON_SECONDS.idx Ob.POWER_ON_SECONDS.sub = 0 := by
  simp [dflt, objDefault, Ob.POWER_ON_SECONDS]

theorem exec_powerOnSecondsStore {s : State} (on : s.power.unpowered = false) (due : s.passed s.timers.seconds (secTicks 60) = true) :
    exec .powerOnSecondsStore s = .next ((s.setObj Ob.POWER_ON_SECONDS (s.obj Ob.POWER_ON_SECONDS + 60)).modTimers fun t =>
      { t with seconds := t.seconds + 48000000000 }) := if_pos ⟨on, due⟩

theorem exec_avsRequest {s : State} {mv : Nat} (hall : s.power.stage = .hall) (lo : 650 ≤ mv) (hi : mv ≤ 800) (step : mv % 5 = 0)
    (apart : s.power.avsTick = none ∨ ∃ u, s.power.avsTick = some u ∧ s.passed u (msTicks 1) = true) :
    exec (.avsRequest mv) s = .next (s.avsSend mv) := by
  refine if_pos ⟨hall, lo, hi, step, ?_⟩
  obtain h | ⟨u, h, passed⟩ := apart
  · rw [h]; rfl
  · rw [h]; exact passed

end State

/-- Settles O4, command by command: what holds a start is gone when `State.release` runs, and a configuration request ends in one of four ways. -/
theorem releasesConfigurationAndVoltageRequests : Obligations.ReleasesConfigurationAndVoltageRequests := by
  unfold Obligations.ReleasesConfigurationAndVoltageRequests
  refine ⟨fun s perst on loss trip rails => ?_, fun s loss ended on perst trip waited => ?_, fun s u trip cool waited ended on perst loss rails => ?_,
    fun s t0 released rails => ?_, fun s fn offset wr h closed => State.exec_configurationRequest_retry offset h wr closed,
    fun s fn offset h ready noFlr => ⟨fun v reg => ?_, fun reg => ?_, fun w => ?_⟩, fun s on due => ?_, fun s mv hall lo hi step apart => ?_⟩
  · exact (State.exec_perstNRelease perst on).trans (congrArg _ (State.release_of_free rfl loss trip on rails))
  · exact (State.exec_supplyRestoreStart loss ended on waited).trans (congrArg _ (State.release_of_free perst rfl trip on rfl))
  · exact (State.exec_thermalTripRelease trip cool waited ended).trans (congrArg _ (State.release_of_free perst loss rfl on rails))
  · exact if_pos ⟨by rw [released]; rfl, rails⟩
  · exact State.exec_configurationRequest_value offset h ready noFlr reg
  · exact ⟨_, State.exec_configurationRequest_free offset h ready noFlr reg⟩
  · refine ⟨_, State.exec_configurationRequest_write offset h ready noFlr w, ?_⟩
    refine ⟨by rw [State.eq_of_cfgWrite]; rfl, ?_, ?_, ?_, ?_, ?_, ?_, ?_, ?_, by rw [State.eq_of_cfgWrite]; rfl⟩
    · rintro mps mrrs tag10 rfl; rfl
    · rintro us rfl; rfl
    · rintro a b c d rfl; rfl
    · rintro en rfl; rfl
    · rintro g k rfl; rfl
    · rintro e m n rfl; rfl
    · rintro en rfl; exact Tbl.find?_put_same _ _ _
    · rintro en rfl; exact Tbl.find?_put_same _ _ _
  · refine ⟨_, State.exec_powerOnSecondsStore on due, ?_, rfl, fun k hk => ?_, rfl⟩
    · rw [State.modTimers_sheet]
      exact State.getD_setObj_same s _ s.dflt_powerOnSeconds
    · rw [State.modTimers_sheet]
      exact State.find?_setObj_other s Ob.POWER_ON_SECONDS _ hk
  · exact State.exec_avsRequest hall lo hi step apart

end Sys2Proof.Machine
end

section
/-! PROOFS. The start (spec/02, R42, R43, R46, R48, R419, R420): what each of its commands leaves, and O5. -/

namespace Sys2Proof.Machine

theorem Tbl.find?_map {α β : Type} (f : α → β) (t : List (Nat × α)) (k : Nat) :
    Tbl.find? (t.map fun e => (e.1, f e.2)) k = (Tbl.find? t k).map f := by
  induction t with
  | nil => rfl
  | cons e t ih =>
    obtain ⟨j, v⟩ := e
    by_cases h : k = j
    · simp [Tbl.find?, h]
    · simp [Tbl.find?, h, ih]

namespace State

/-! ## BOOT_ROM_START -/

/-- The state at BOOT_ROM_START before the health events of the first Stair stage. -/
def bootStart (s : State) (ok : Bool) : State :=
  let s := ((s.setStage .stair).modPower fun p => { p with bootTick := some s.now, stageMs := s.msSinceRelease }).bootCluster ok
  let s := (s.modCsu fun u => { u.slideAfterLoss with wp := u.bootWp s.cru.firstUsed }).startCru.humInit
  let s := s.modSpe fun p => { p with accBufs := s.obj Ob.ACC_BUFS }
  let s := (s.rebuildPools true).modDmc fun m => { m with order := s.obj Ob.ADDR_ORDER, spareMib := s.obj Ob.RETIRE_SPARE_MIB }
  s.retReload

theorem exec_bootRomStart {s : State} (ok : Bool) (h : s.bootReady = true) : exec (.bootRomStart ok) s = .next (s.bootStart ok).healthAtStair := if_pos h

theorem bootStart_keeps (s : State) (ok : Bool) : (s.bootStart ok).tbu = s.tbu ∧ (s.bootStart ok).hlu = s.hlu ∧ (s.bootStart ok).mxe = s.mxe := by
  simp [bootStart]

theorem bootStart_power (s : State) (ok : Bool) : (s.bootStart ok).power.stage = .stair ∧ (s.bootStart ok).power.bootTick = some s.now := by
  simp [bootStart, setStage_power, now]

theorem bootStart_ccl (s : State) (ok : Bool) : (s.bootStart ok).ccl.owner = (if ok then .a else .b) ∧
    (s.bootStart ok).ccl.st (if ok then .a else .b) = .active ∧ (s.bootStart ok).ccl.epoch = s.ccl.epoch + 1 := by
  have boot := bootCluster_ccl ((s.setStage .stair).modPower fun p => { p with bootTick := some s.now, stageMs := s.msSinceRelease }) ok
  simpa [bootStart] using boot

theorem bootStart_flash {s : State} (ok : Bool) (h : s.csu.slide = none) : (s.bootStart ok).csu.flash = s.csu.flash := by
  simp [bootStart, Csu.slideAfterLoss, h]

theorem spareEvents_mxe (s : State) : s.spareEvents.mxe = { s.mxe with spareOut := s.spareEvents.mxe.spareOut } := by
  simp [spareEvents]

theorem healthAtStair_mxe (s : State) : s.healthAtStair.mxe = { s.mxe with spareOut := s.healthAtStair.mxe.spareOut } := by
  unfold healthAtStair
  split
  · rfl
  · dsimp only
    rw [spareEvents_mxe]
    simp

/-! ## ADMIN_SUBSET_OPEN -/

theorem exec_adminSubsetOpen {s : State} (h : s.power.stage = .stair) : exec .adminSubsetOpen s =
    .next ((s.modPower fun p => { p with adminOpen := true }).modQen fun q => { q with rescue := { q.rescue with open_ := true } }).readyAll := if_pos h

/-- A controller once CSTS.RDY follows R45. -/
def readied (s : State) (k : Controller) : Controller := if k.en then { k with rdy := k.rdy || s.readyNow k.crime } else k

theorem readyAll_ctrls (s : State) : s.readyAll.qen.ctrls = s.qen.ctrls.map fun e => (e.1, s.readied e.2) := by
  refine List.map_congr_left fun e _ => ?_
  unfold readied
  split <;> rfl

/-- An enabled controller is ready where R45 lets it be, and stays ready. -/
theorem find?_readyAll (s : State) {fn : Nat} {k : Controller} (h : Tbl.find? s.qen.ctrls fn = some k) (on : k.en = true) :
    Tbl.find? s.readyAll.qen.ctrls fn = some { k with rdy := k.rdy || s.readyNow k.crime } := by
  rw [readyAll_ctrls, Tbl.find?_map, h, Option.map_some, readied, if_pos on]

/-! ## START_DECISION -/

theorem chooseArchive_power (s : State) : s.chooseArchive.power = { s.power with startKind := s.chooseArchive.power.startKind } := by
  unfold chooseArchive
  dsimp only
  split
  · split <;> split <;> simp
  · split <;> simp

/-- The choice of the take may hold the controller in Stair, and changes nothing else of the power state (R47, R452). -/
theorem chooseTake_power (s : State) : s.chooseTake.power = { s.power with startKind := s.chooseTake.power.startKind } := by
  unfold chooseTake
  dsimp only
  split
  · simp
  split
  · simp
  split
  · simp
  · exact chooseArchive_power s

theorem blankMedia_chooseTake (s : State) : s.chooseTake.blankMedia = s.blankMedia := by simp [blankMedia]

/-- Blank media make a start of their own kind (R48). -/
theorem startDecision_of_blank (s : State) (f : StartFindings) (blank : s.blankMedia = true) (run : s.chooseTake.power.startKind = .undecided) :
    (s.startDecision f).power = { s.power with startKind := .blank, mapRestored := true } ∧
      (s.startDecision f).mxe.map = s.mxe.map ∧ (s.startDecision f).mxe.nss = s.mxe.nss ∧ (s.startDecision f).tbu = s.tbu := by
  have decided : s.chooseTake.decideStart f = s.chooseTake.restored .blank := if_pos ((blankMedia_chooseTake s).trans blank)
  unfold startDecision
  dsimp only
  rw [if_neg (by rw [run]; exact StartKind.noConfusion), decided]
  refine ⟨?_, ?_, ?_, ?_⟩
  · simp only [modMxe_power, modHum_power, chooseDumpDies_units, raiseNumbers_units, restored, modPower_power]
    rw [chooseTake_power]
  · simp [restored, raiseNumbers]
  · simp [restored, raiseNumbers]
  · simp

theorem exec_startDecision {s : State} (f : StartFindings) (stair : s.power.stage = .stair) (open_ : s.power.startKind = .undecided)
    (nand : s.fca.initialised = true) (dram : s.dmc.trained = true) : exec (.startDecision f) s = .next (s.startDecision f) :=
  if_pos ⟨stair, open_, nand, dram⟩

/-! ## HALL_ENTRY -/

theorem exec_hallEntry {s : State} (stair : s.power.stage = .stair) (map : s.power.mapRestored = true) (kind : s.power.startKind ≠ .held)
    (noSession : s.qen.rescue.session = false) (noReset : s.tbu.resetNow = false) : exec .hallEntry s = .next s.enterHall :=
  if_pos ⟨stair, map, kind, noSession, noReset⟩

/-- The state at the entry to Hall before the rescue registers close and the discharge test is asked for. -/
def hallMedia (s : State) : State :=
  let s := (s.setStage .hall).modPower fun p => { p with hallTick := some s.now, stageMs := s.msSinceRelease }
  let s := s.setObj Ob.LAST_HALL_MS s.msSinceRelease
  let s := if s.power.offDue then s.addOffInterval else s
  let s := (s.sealOpenBands.galReload.hallCru).modPower fun p => { p with offDue := false }
  (s.modCcl Ccl.releaseOther).modCsu fun u => { u with window := if u.cfg.takeState = 2 then some s.now else u.window }

theorem enterHall_eq (s : State) : s.enterHall =
    ((s.hallMedia.modQen fun q => { q with rescue := { q.rescue with open_ := false } }).modHum fun h => { h with testDue := true }).rebuildResume.readyAll := rfl

theorem hallMedia_keeps (s : State) : s.hallMedia.tbu = s.tbu ∧ s.hallMedia.hlu = s.hlu ∧ s.hallMedia.qen = s.qen ∧
    s.hallMedia.power.stage = .hall ∧ s.hallMedia.power.hallTick = some s.now := by
  unfold hallMedia
  dsimp only
  split <;> simp [setStage_power, now]

end State

/-- Settles O5: the four commands that enter Stair, open the admin subset, decide the start of blank media and enter Hall. -/
theorem stagesAreEnteredInTheirOrder : Obligations.StagesAreEnteredInTheirOrder := by
  unfold Obligations.StagesAreEnteredInTheirOrder
  refine ⟨fun s ok ready => ?_, fun s stair => ?_, fun s f stair open_ nand dram blank run => ?_, fun s stair map kind noSession noReset => ?_⟩
  · obtain ⟨tbu, hlu, mxe⟩ := s.bootStart_keeps ok
    obtain ⟨stage, tick⟩ := s.bootStart_power ok
    obtain ⟨owner, active, epoch⟩ := s.bootStart_ccl ok
    refine ⟨_, State.exec_bootRomStart ok ready, ?_, ?_, ?_, ?_, ?_, ?_, ?_, ?_, fun slide => ?_, ?_⟩
    · rw [State.healthAtStair_power]; exact stage
    · rw [State.healthAtStair_power]; exact tick
    · simpa using owner
    · simpa using active
    · simpa using epoch
    · simpa using tbu
    · simpa using hlu
    · rw [State.healthAtStair_mxe, mxe]
    · simpa using State.bootStart_flash ok slide
    · rw [State.healthAtStair_mxe, mxe]
  · refine ⟨_, State.exec_adminSubsetOpen stair, by simp, ?_, fun fn k found on crime => ?_, rfl⟩
    · simp [State.readyAll]
    · refine (State.find?_readyAll _ (k := k) (by exact found) on).trans ?_
      simp [State.readyNow, crime]
  · obtain ⟨power, map, nss, tbu⟩ := s.startDecision_of_blank f blank run
    refine ⟨_, State.exec_startDecision f stair open_ nand dram, ?_, ?_, ?_, map, nss, tbu⟩
    · rw [power]
    · rw [power]
    · rw [power]; exact stair
  · obtain ⟨tbu, hlu, qen, stage, tick⟩ := s.hallMedia_keeps
    refine ⟨_, State.exec_hallEntry stair map kind noSession noReset, ?_⟩
    rw [State.enterHall_eq]
    refine ⟨by simpa using stage, by simpa using tick, ?_, by simp, by simpa using tbu, by simpa using hlu, ?_⟩
    · simp [State.readyAll]
    · simp [State.readyAll, qen]

end Sys2Proof.Machine
end

section
/-! PROOFS. Commands outside Table 4.2 or the admin subset (spec/02, spec/04, R43, R44, R93, R94): each ends with a status and changes nothing else, and O21. -/

namespace Sys2Proof.Machine

namespace State

/-- The command `i` ends the command in context `c` with a status, and changes nothing but the contexts. -/
def OnlyEnds (s : State) (i : Instr) (c : Nat) (x : Ctx) (st : Nat) : Prop :=
  ∃ t, exec i s = .next t ∧ s.answered t c x st ∧ t = { s with qen := { s.qen with ctxs := t.qen.ctxs } }

theorem onlyEnds_of_finish {s : State} {i : Instr} {c st : Nat} {x : Ctx} (h : Tbl.find? s.qen.ctxs c = some x) (run : exec i s = .next (s.finish c st)) :
    s.OnlyEnds i c x st := ⟨_, run, finish_answered h, finish_frame s c st⟩

/-! ## INVALID_COMMAND_OPCODE -/

section
variable {s : State} {c : Nat} {x : Ctx} (h : Tbl.find? s.qen.ctxs c = some x) (fetched : x.state = .fetched) (noWin : x.win = none)
  (running : x.bmeStall = false)
include h fetched noWin running

theorem exec_invalidCommandOpcode_admin (admin : x.admin = true) : exec (.invalidCommandOpcode c) s =
    if !adminOpcodes.contains x.sqe.opcode.toNat then .next (s.finish c (if s.power.stage = .hall then stInvalidOpcode else stNotReady))
    else if x.sqe.opcode = 0x09 ∧ setFids.contains (cdwBits x.sqe.cdw10 7 0) = false then
      .next (s.finish c (if s.power.stage = .hall then stInvalidField else stNotReady))
    else if x.sqe.opcode = 0x10 ∧ (cdwBits x.sqe.cdw10 5 3 = 0 ∨ 3 < cdwBits x.sqe.cdw10 5 3) then .next (s.finish c stInvalidField)
    else .next s := by
  change execInvalidCommandOpcode c s = _
  unfold execInvalidCommandOpcode
  rw [h]
  exact (if_neg (by simp [fetched, noWin, running])).trans (if_pos admin)

theorem exec_invalidCommandOpcode_io (io : x.admin = false) : exec (.invalidCommandOpcode c) s =
    if ioOpcodes.contains x.sqe.opcode.toNat then .next s else .next (s.finish c stInvalidOpcode) := by
  change execInvalidCommandOpcode c s = _
  unfold execInvalidCommandOpcode
  rw [h]
  exact (if_neg (by simp [fetched, noWin, running])).trans (if_neg (by simp [io]))

theorem unknownAdminOpcode_ends (admin : x.admin = true) (unknown : x.sqe.opcode.toNat ∉ adminOpcodes) :
    s.OnlyEnds (.invalidCommandOpcode c) c x (if s.power.stage = .hall then stInvalidOpcode else stNotReady) := by
  refine onlyEnds_of_finish h ((exec_invalidCommandOpcode_admin h fetched noWin running admin).trans (if_pos ?_))
  simpa using unknown

theorem unknownFeature_ends (admin : x.admin = true) (op : x.sqe.opcode = 0x09) (unknown : cdwBits x.sqe.cdw10 7 0 ∉ setFids) :
    s.OnlyEnds (.invalidCommandOpcode c) c x (if s.power.stage = .hall then stInvalidField else stNotReady) := by
  refine onlyEnds_of_finish h ((exec_invalidCommandOpcode_admin h fetched noWin running admin).trans ?_)
  rw [if_neg (by rw [op]; decide), if_pos ⟨op, by simpa using unknown⟩]

theorem unknownCommitAction_ends (admin : x.admin = true) (op : x.sqe.opcode = 0x10)
    (unknown : cdwBits x.sqe.cdw10 5 3 = 0 ∨ 3 < cdwBits x.sqe.cdw10 5 3) : s.OnlyEnds (.invalidCommandOpcode c) c x stInvalidField := by
  refine onlyEnds_of_finish h ((exec_invalidCommandOpcode_admin h fetched noWin running admin).trans ?_)
  rw [if_neg (by rw [op]; decide), if_neg (by simp [op]), if_pos ⟨op, unknown⟩]

theorem unknownIoOpcode_ends (io : x.admin = false) (unknown : x.sqe.opcode.toNat ∉ ioOpcodes) :
    s.OnlyEnds (.invalidCommandOpcode c) c x stInvalidOpcode := by
  refine onlyEnds_of_finish h ((exec_invalidCommandOpcode_io h fetched noWin running io).trans (if_neg ?_))
  simpa using unknown

end

/-! ## Outside the admin subset -/

section
variable {s : State} {c : Nat} {x : Ctx} (hall : s.power.stage ≠ .hall) (subset : s.power.adminOpen = true)
include hall subset

theorem outsideSubset_ends {i : Instr} {op : BitVec 8} {f : Ctx → State → State} {o : Out} (h : s.adminCtx c op = some x) (run : exec i s = o)
    (eq : o = s.admin c op false f) : s.OnlyEnds i c x stNotReady :=
  onlyEnds_of_finish (adminCtx_find h).1 (run.trans (eq.trans (admin_notReady h hall subset)))

theorem setFeature_outsideSubset_ends {i : Instr} {fid : Nat} {f : Ctx → State → State} (h : s.adminCtx c 0x09 = some x)
    {o : Out} (hf : cdwBits x.sqe.cdw10 7 0 = fid) (run : exec i s = o) (eq : o = s.setFeature c fid f) : s.OnlyEnds i c x stNotReady := by
  unfold setFeature at eq
  rw [h] at eq
  exact outsideSubset_ends hall subset h run (eq.trans (if_pos hf))

theorem sanitize_outsideSubset_ends {i : Instr} {act : Nat} {f : State → State} (h : s.adminCtx c 0x84 = some x)
    {o : Out} (ha : cdwBits x.sqe.cdw10 2 0 = act) (run : exec i s = o) (eq : o = s.sanitize c act f) : s.OnlyEnds i c x stNotReady := by
  unfold sanitize at eq
  rw [h] at eq
  exact outsideSubset_ends hall subset h run (eq.trans (if_pos ha))

theorem powerManagement_outsideSubset_ends (h : s.adminCtx c 0x09 = some x)
    (hf : cdwBits x.sqe.cdw10 7 0 = 0x02 ∨ cdwBits x.sqe.cdw10 7 0 = 0x0C) : s.OnlyEnds (.setFeaturesPowerManagement c) c x stNotReady := by
  have eq : execSetFeaturesPowerManagement c s = execSetFeaturesPowerManagement c s := rfl
  conv_rhs at eq => unfold execSetFeaturesPowerManagement
  rw [h] at eq
  obtain hf | hf := hf
  · exact setFeature_outsideSubset_ends hall subset h hf rfl (eq.trans (if_neg (by rw [hf]; decide)))
  · exact setFeature_outsideSubset_ends hall subset h hf rfl (eq.trans (if_pos hf))

end

end State

/-- Settles O21: each clause is `State.OnlyEnds`, by the kind of the command. -/
theorem commandsOutsideTheTableOrTheSubsetEndWithTheirStatus : Obligations.CommandsOutsideTheTableOrTheSubsetEndWithTheirStatus := by
  unfold Obligations.CommandsOutsideTheTableOrTheSubsetEndWithTheirStatus
  refine ⟨fun s c x h fetched noWin running => ⟨State.unknownAdminOpcode_ends h fetched noWin running, State.unknownFeature_ends h fetched noWin running,
    State.unknownCommitAction_ends h fetched noWin running, State.unknownIoOpcode_ends h fetched noWin running⟩, fun s c x i hall subset cases => ?_⟩
  obtain ⟨rfl, h⟩ | ⟨rfl, h⟩ | ⟨m, rfl, h⟩ | ⟨rfl, h⟩ | ⟨rfl, h⟩ | ⟨rfl, h⟩ | ⟨rfl, h⟩ | ⟨p, rfl, h⟩ | ⟨n, rfl, h⟩ | ⟨rfl, h⟩ | ⟨rfl, h⟩ | ⟨h, erase⟩ | ⟨h, set⟩ := cases
  · exact State.outsideSubset_ends hall subset h (o := execAbort c s) rfl rfl
  · exact State.outsideSubset_ends hall subset h (o := execDeleteIoSubmissionQueue c s) rfl rfl
  · exact State.outsideSubset_ends hall subset h (o := execCreateIoSubmissionQueue c m s) rfl rfl
  · exact State.outsideSubset_ends hall subset h (o := execDeleteIoCompletionQueue c s) rfl rfl
  · exact State.outsideSubset_ends hall subset h (o := execCreateIoCompletionQueue c s) rfl rfl
  · exact State.outsideSubset_ends hall subset h (o := execGetFeatures c s) rfl rfl
  · exact State.outsideSubset_ends hall subset h (o := execAsynchronousEventRequest c s) rfl rfl
  · exact State.outsideSubset_ends hall subset h (o := execNamespaceManagement c p s) rfl rfl
  · exact State.outsideSubset_ends hall subset h (o := execNamespaceAttachment c n s) rfl rfl
  · exact State.outsideSubset_ends hall subset h (o := execVirtualizationManagement c s) rfl rfl
  · exact State.outsideSubset_ends hall subset h (o := execFormatNvm c s) rfl rfl
  · obtain ⟨rfl, ha⟩ | ⟨rfl, ha⟩ := erase
    · exact State.sanitize_outsideSubset_ends hall subset h ha (o := execSanitizeBlockErase c s) rfl rfl
    · exact State.sanitize_outsideSubset_ends hall subset h ha (o := execSanitizeCryptoErase c s) rfl rfl
  · obtain ⟨rfl, hf⟩ | ⟨rfl, hf⟩ | ⟨rfl, hf⟩ | ⟨rfl, hf⟩ | ⟨rfl, hf⟩ | ⟨rfl, hf⟩ := set
    · exact State.setFeature_outsideSubset_ends hall subset h hf (o := execSetFeaturesArbitration c s) rfl rfl
    · exact State.powerManagement_outsideSubset_ends hall subset h hf
    · exact State.setFeature_outsideSubset_ends hall subset h hf (o := execSetFeaturesVolatileWriteCache c s) rfl rfl
    · exact State.setFeature_outsideSubset_ends hall subset h hf (o := execSetFeaturesInterruptCoalescing c s) rfl rfl
    · exact State.setFeature_outsideSubset_ends hall subset h hf (o := execSetFeaturesCriticalWarnings c s) rfl rfl
    · exact State.setFeature_outsideSubset_ends hall subset h hf (o := execSetFeaturesHctm c s) rfl rfl

end Sys2Proof.Machine
end

section
/-! PROOFS. Identify, log pages and features (spec/04, R43, R77, R93, R483, R527): a page's fields read back from its bytes, the three commands one clause at a time, and O24. -/

namespace Sys2Proof.Machine

/-! ## Fields of a page -/

theorem drop_leBytes (n k v : Nat) : (leBytes n v).drop k = leBytes (n - k) (v / 256 ^ k) := by
  refine List.ext_getElem (by simp) fun i h₁ h₂ => ?_
  rw [List.getElem_drop, getElem_leBytes, getElem_leBytes, Nat.div_div_eq_div_mul, Nat.pow_add]

theorem take_leBytes {n k : Nat} (v : Nat) (h : k ≤ n) : (leBytes n v).take k = leBytes k v := by
  refine List.ext_getElem (by simp [h]) fun i h₁ h₂ => ?_
  rw [List.getElem_take, getElem_leBytes, getElem_leBytes]

theorem leNat_leBytes (n v : Nat) : leNat (leBytes n v) = v % 256 ^ n := by
  induction n generalizing v with
  | zero => simp [leBytes, leNat, Nat.mod_one]
  | succ n ih => rw [leBytes, leNat, ih, Nat.pow_succ', Nat.mod_mul, BitVec.toNat_ofNat]

theorem leNat_lt (bs : List Byte) : leNat bs < 256 ^ bs.length := by
  induction bs with
  | nil => simp [leNat]
  | cons b bs ih =>
    have hb := b.isLt
    rw [leNat, List.length_cons, Nat.pow_succ']
    omega

theorem spacePad_lt (n v : Nat) : spacePad n v < 256 ^ n := by
  simpa [spacePad] using leNat_lt ((leBytes n v).map fun b => if b = 0 then 0x20 else b)

/-- Fields from byte `k` on add a multiple of 256 ^ k. -/
theorem packed_above (k : Nat) (fs : List (Nat × Nat)) (h : ∀ f ∈ fs, k ≤ f.1) (a : Nat) :
    ∃ r, fs.foldl (fun n f => n + 256 ^ f.1 * f.2) a = a + 256 ^ k * r := by
  induction fs generalizing a with
  | nil => exact ⟨0, by simp⟩
  | cons f fs ih =>
    obtain ⟨hf, hfs⟩ := List.forall_mem_cons.mp h
    obtain ⟨r, hr⟩ := ih hfs (a + 256 ^ f.1 * f.2)
    refine ⟨256 ^ (f.1 - k) * f.2 + r, ?_⟩
    rw [List.foldl_cons, hr, ← Nat.add_sub_of_le hf, Nat.pow_add, Nat.add_sub_cancel_left]
    ring

/-- The first field of a page whose other fields lie behind it reads back as its value. -/
theorem leNat_field_packBytes {len off n v : Nat} {fs : List (Nat × Nat)} (fits : off + n ≤ len) (small : v < 256 ^ n)
    (behind : ∀ f ∈ fs, off + n ≤ f.1) : leNat (((packBytes len ((off, v) :: fs)).drop off).take n) = v := by
  obtain ⟨r, hr⟩ := packed_above (off + n) fs behind (0 + 256 ^ off * v)
  have split : 0 + 256 ^ off * v + 256 ^ (off + n) * r = 256 ^ off * (v + 256 ^ n * r) := by rw [Nat.pow_add]; ring
  rw [packBytes, List.foldl_cons, hr, split, drop_leBytes, take_leBytes _ (by omega), leNat_leBytes,
    Nat.mul_div_cancel_left _ (by positivity), Nat.add_mul_mod_self_left, Nat.mod_eq_of_lt small]

namespace State

theorem length_identifyController (s : State) (fn : Nat) : (s.identifyController fn).length = 4096 := by
  simp only [identifyController, packBytes, length_leBytes]

theorem psDescriptor_behind (s : State) (n : Nat) : ∀ f ∈ s.psDescriptor n, 24 ≤ f.1 := by
  simp only [psDescriptor, List.forall_mem_cons]
  refine ⟨?_, ?_, ?_, ?_, by simp⟩ <;> omega

theorem serial_identifyController (s : State) (fn : Nat) :
    leNat (((s.identifyController fn).drop 4).take 20) = spacePad 20 (s.obj Ob.SERIAL) := by
  refine leNat_field_packBytes (by omega) (spacePad_lt 20 _) (List.forall_mem_append.mpr ⟨by simp, fun f hf => ?_⟩)
  obtain ⟨n, -, hn⟩ := List.mem_flatMap.mp hf
  exact s.psDescriptor_behind n f hn

end State

theorem Namespace.length_identify (n : Namespace) : n.identify.length = 4096 := by
  simp only [Namespace.identify, packBytes, length_leBytes]

theorem Namespace.size_identify (n : Namespace) (h : n.nsze < 2 ^ 64) : leNat (n.identify.take 8) = n.nsze := by
  refine leNat_field_packBytes (off := 0) (by omega) (by simpa using h) fun f hf => ?_
  revert f
  simp [lbaFormats]

theorem length_pagePart (x : Ctx) (d : List Byte) :
    (pagePart x d).length = 4 * (cdwBits x.sqe.cdw10 31 16 + 65536 * cdwBits x.sqe.cdw11 15 0 + 1) := by
  unfold pagePart
  rw [List.length_append, List.length_replicate]
  exact Nat.add_sub_of_le (List.length_take_le _ _)

namespace State

theorem identifyData_controller {s : State} {x : Ctx} (cns : cdwBits x.sqe.cdw10 7 0 = 1) : s.identifyData x = some (s.identifyController x.fn) := by
  unfold identifyData
  rw [cns]
  rfl

theorem identifyData_namespace {s : State} {x : Ctx} {n : Namespace} (cns : cdwBits x.sqe.cdw10 7 0 = 0) (hn : s.mxe.ns? x.sqe.nsid.toNat = some n)
    (attached : n.attached = true) (on : s.sliceOn n.slice x.fn = true) : s.identifyData x = some n.identify := by
  unfold identifyData
  rw [cns]
  simp [hn, attached, on]

/-! ## A page goes out -/

/-- `pageOut` of a command whose pointer is known, without ATS and with the link up: the page goes out and the command ends. -/
theorem pageOut_sent {s : State} {c page : Nat} {x : Ctx} {d : List Byte} (good : x.status = 0) (known : x.list = none)
    (noAts : (s.hlu.fn x.fn).ats = false) (up : s.hlu.ready = true) :
    s.pageOut c page x d = (s.emit (.pageData c page x.fn x.parts d)).finish c 0 := by
  have allOk : (partPieces 4096 0 x.parts).find? (fun p => !s.hlu.pageOk x.fn none (p.2.1 / 4096) (x.untrans.contains (p.2.1 / 4096))) = none := by
    simp [List.find?_eq_none, Hlu.pageOk, noAts]
  unfold pageOut
  rw [ptrGo_go good known, allOk]
  exact if_pos up

theorem exec_identify {s : State} {c : Nat} {x : Ctx} (h : s.adminCtx c 0x06 = some x) (run : s.power.stage = .hall ∨ s.power.adminOpen = true) :
    exec (.identify c) s = .next (match s.identifyData x with
      | some d => s.pageOut c (cdwBits x.sqe.cdw10 7 0) x d
      | none => s.finish c stInvalidField) := by
  change execIdentify c s = _
  unfold execIdentify
  obtain hall | subset := run
  · exact (admin_hall h hall).trans (by cases s.identifyData x <;> rfl)
  · exact (admin_subset h subset).trans (by cases s.identifyData x <;> rfl)

section
variable {s : State} {c : Nat} {x : Ctx} (h : s.adminCtx c 0x06 = some x) (run : s.power.stage = .hall ∨ s.power.adminOpen = true)
include h run

theorem identify_unserved_ends (unserved : s.identifyData x = none) : s.OnlyEnds (.identify c) c x stInvalidField :=
  onlyEnds_of_finish (adminCtx_find h).1 ((exec_identify h run).trans (by rw [unserved]))

theorem identify_badPointer {d : List Byte} (data : s.identifyData x = some d) (bad : x.status ≠ 0) :
    ∃ t, exec (.identify c) s = .next t ∧ t.ended c x.status ∧ t.mxe = s.mxe ∧ t.power = s.power := by
  refine ⟨s.failCmd c x.status, (exec_identify h run).trans ?_, failCmd_ended s c x.status (adminCtx_has h), by simp, by simp⟩
  rw [data]
  exact congrArg Host.Outcome.next (ptrGo_refused (adminCtx_find h).2.1 bad)

theorem identify_sends {d : List Byte} (data : s.identifyData x = some d) (good : x.status = 0) (known : x.list = none)
    (noAts : (s.hlu.fn x.fn).ats = false) (up : s.hlu.ready = true) : ∃ t, exec (.identify c) s = .next t ∧ s.answered t c x 0 ∧
      t.out = .pageData c (cdwBits x.sqe.cdw10 7 0) x.fn x.parts d :: s.out ∧ t = { s with out := t.out, qen := { s.qen with ctxs := t.qen.ctxs } } := by
  refine ⟨_, (exec_identify h run).trans ?_, finish_after (u := s.emit (.pageData c (cdwBits x.sqe.cdw10 7 0) x.fn x.parts d)) (adminCtx_find h).1 rfl, rfl, rfl⟩
  rw [data]
  exact congrArg Host.Outcome.next (pageOut_sent good known noAts up)

end

/-! ## Get Log Page -/

theorem exec_getLogPage_hall {s : State} {c : Nat} {x : Ctx} (h : s.adminCtx c 0x02 = some x) (hall : s.power.stage = .hall) :
    exec (.getLogPage c) s = .next (match s.logPage x (cdwBits x.sqe.cdw10 7 0) with
      | some d => if mdtsBytes < x.bytes then s.finish c stInvalidField
          else (s.pageOut c (cdwBits x.sqe.cdw10 7 0) x (pagePart x d)).pageLogged c (cdwBits x.sqe.cdw10 7 0) x
      | none => s.finish c stLogPage) := by
  change execGetLogPage c s = _
  unfold execGetLogPage
  refine (admin_hall h hall).trans (congrArg Host.Outcome.next ((if_neg (by simp [hall])).trans ?_))
  cases s.logPage x (cdwBits x.sqe.cdw10 7 0) <;> rfl

theorem getLogPage_unserved_ends {s : State} {c : Nat} {x : Ctx} (h : s.adminCtx c 0x02 = some x) (hall : s.power.stage = .hall)
    (unserved : s.logPage x (cdwBits x.sqe.cdw10 7 0) = none) : s.OnlyEnds (.getLogPage c) c x stLogPage :=
  onlyEnds_of_finish (adminCtx_find h).1 ((exec_getLogPage_hall h hall).trans (by rw [unserved]))

theorem getLogPage_stair_ends {s : State} {c : Nat} {x : Ctx} (h : s.adminCtx c 0x02 = some x) (stair : s.power.stage = .stair)
    (subset : s.power.adminOpen = true) (notErrors : cdwBits x.sqe.cdw10 7 0 ≠ 1) (notSlots : cdwBits x.sqe.cdw10 7 0 ≠ 3) :
    s.OnlyEnds (.getLogPage c) c x stNotReady := by
  refine onlyEnds_of_finish (adminCtx_find h).1 ?_
  change execGetLogPage c s = _
  unfold execGetLogPage
  exact (admin_subset h subset).trans (congrArg Host.Outcome.next (if_pos ⟨by simp [stair], notErrors, notSlots⟩))

theorem pageLogged_retained {s : State} {c lid : Nat} {x : Ctx} (retain : x.sqe.cdw10.getLsbD 15 = true) : s.pageLogged c lid x = s :=
  if_pos (.inl retain)

/-- The controller of a function once a page of it has gone out. -/
def rearmed (lid : Nat) (k : Controller) : Controller :=
  { k with masked := k.masked.filter (· != logEventType lid), changed := if lid = 0x04 then [] else k.changed }

theorem pageLogged_rearms {s : State} {c lid : Nat} {x y : Ctx} (drop : x.sqe.cdw10.getLsbD 15 = false) (h : Tbl.find? s.qen.ctxs c = some y)
    (ready : y.state = .ready) (good : y.status = 0) : s.pageLogged c lid x = s.modQen fun q => q.modCtrl x.fn (rearmed lid) :=
  if_neg (by rw [drop]; simp [h, ready, good])

theorem getLogPage_sends {s : State} {c : Nat} {x : Ctx} {d : List Byte} (h : s.adminCtx c 0x02 = some x) (hall : s.power.stage = .hall)
    (data : s.logPage x (cdwBits x.sqe.cdw10 7 0) = some d) (short : x.bytes ≤ 2 * 2 ^ 20) (good : x.status = 0) (known : x.list = none)
    (noAts : (s.hlu.fn x.fn).ats = false) (up : s.hlu.ready = true) :
    ∃ t, exec (.getLogPage c) s = .next t ∧ s.answered t c x 0 ∧
      t.out = .pageData c (cdwBits x.sqe.cdw10 7 0) x.fn x.parts (pagePart x d) :: s.out ∧
      (x.sqe.cdw10.getLsbD 15 = true → t.qen.ctrls = s.qen.ctrls) ∧
      (x.sqe.cdw10.getLsbD 15 = false → (t.qen.ctrl x.fn).masked = (s.qen.ctrl x.fn).masked.filter (· != logEventType (cdwBits x.sqe.cdw10 7 0))) ∧
      t = { s with out := t.out, qen := { s.qen with ctxs := t.qen.ctxs, ctrls := t.qen.ctrls } } := by
  let u := s.emit (.pageData c (cdwBits x.sqe.cdw10 7 0) x.fn x.parts (pagePart x d))
  have ended : s.answered (u.finish c 0) c x 0 := finish_after (u := u) (adminCtx_find h).1 rfl
  have run : exec (.getLogPage c) s = .next ((u.finish c 0).pageLogged c (cdwBits x.sqe.cdw10 7 0) x) := by
    rw [exec_getLogPage_hall h hall, data, ← pageOut_sent good known noAts up]
    exact congrArg Host.Outcome.next (if_neg (Nat.not_lt.mpr short))
  refine ⟨_, run, ?_⟩
  cases retain : x.sqe.cdw10.getLsbD 15 with
  | true =>
    rw [pageLogged_retained retain]
    exact ⟨ended, rfl, fun _ => rfl, nofun, rfl⟩
  | false =>
    rw [pageLogged_rearms retain ended.1 rfl rfl]
    refine ⟨ended, rfl, nofun, fun _ => ?_, rfl⟩
    simp only [Qen.ctrl, modQen, Qen.modCtrl, Tbl.getD, Tbl.find?_put_same, Option.getD_some]
    rfl

/-! ## Get Features -/

theorem exec_getFeatures_hall {s : State} {c : Nat} {x : Ctx} (h : s.adminCtx c 0x0A = some x) (hall : s.power.stage = .hall) :
    exec (.getFeatures c) s = .next (match s.featureOf x.fn (cdwBits x.sqe.cdw10 7 0) with
      | some v => s.finishWith c (BitVec.ofNat 32 v)
      | none => s.finish c stInvalidField) := by
  change execGetFeatures c s = _
  unfold execGetFeatures
  exact (admin_hall h hall).trans (by cases s.featureOf x.fn (cdwBits x.sqe.cdw10 7 0) <;> rfl)

theorem finishWith_other {s : State} {c j : Nat} {w : Word} (hj : j ≠ c) : Tbl.find? (s.finishWith c w).qen.ctxs j = Tbl.find? s.qen.ctxs j := by
  simp [finishWith, finish, modCtx, Qen.modCtx, Tbl.find?_adjust_other _ _ hj]

theorem getFeatures_reports {s : State} {c v : Nat} {x : Ctx} (h : s.adminCtx c 0x0A = some x) (hall : s.power.stage = .hall)
    (served : s.featureOf x.fn (cdwBits x.sqe.cdw10 7 0) = some v) :
    ∃ t, exec (.getFeatures c) s = .next t ∧ Tbl.find? t.qen.ctxs c = some { x with state := .ready, status := 0, result := BitVec.ofNat 32 v, accepted := false } ∧
      (∀ j, j ≠ c → Tbl.find? t.qen.ctxs j = Tbl.find? s.qen.ctxs j) ∧ t = { s with qen := { s.qen with ctxs := t.qen.ctxs } } :=
  ⟨_, (exec_getFeatures_hall h hall).trans (by rw [served]), finishWith_ctx (adminCtx_find h).1, fun _ hj => finishWith_other hj, rfl⟩

theorem getFeatures_unserved_ends {s : State} {c : Nat} {x : Ctx} (h : s.adminCtx c 0x0A = some x) (hall : s.power.stage = .hall)
    (unserved : s.featureOf x.fn (cdwBits x.sqe.cdw10 7 0) = none) : s.OnlyEnds (.getFeatures c) c x stInvalidField :=
  onlyEnds_of_finish (adminCtx_find h).1 ((exec_getFeatures_hall h hall).trans (by rw [unserved]))

end State

/-- Settles O24: Identify, then log pages, then features, a lemma for each clause. -/
theorem identifyLogsAndFeaturesAreReported : Obligations.IdentifyLogsAndFeaturesAreReported := by
  unfold Obligations.IdentifyLogsAndFeaturesAreReported
  refine ⟨fun s c x h run => ⟨State.identify_unserved_ends h run, fun d => State.identify_badPointer h run, fun d => State.identify_sends h run, fun cns => ?_,
      fun n cns hn size attached on => ?_⟩, fun s c x h => ⟨fun d hall data short good known noAts up => ?_, State.getLogPage_unserved_ends h,
      State.getLogPage_stair_ends h⟩,
    fun s c x h hall => ⟨fun v => State.getFeatures_reports h hall, State.getFeatures_unserved_ends h hall⟩⟩
  · exact ⟨_, State.identifyData_controller cns, s.length_identifyController x.fn, s.serial_identifyController x.fn⟩
  · exact ⟨_, State.identifyData_namespace cns hn attached on, n.length_identify, n.size_identify size⟩
  · obtain ⟨t, go, ended, out, retain, drop, frame⟩ := State.getLogPage_sends h hall data short good known noAts up
    exact ⟨t, go, ended, out, length_pagePart x d, retain, drop, frame⟩

end Sys2Proof.Machine
end

section
/-! PROOFS. Controllers (spec/04, R45, R54, R120, R121, R122): which contexts a squash leaves, what it keeps of a controller's setup, the three instructions, and O29. -/

namespace Sys2Proof.Machine

/-- What a reset discards at once (Table 4.7, R53): an admin command, and a read that is not an orphan. -/
def Ctx.Discarded (x : Ctx) : Prop := x.admin = true ∨ (x.state ≠ .orphan ∧ x.sqe.opcode = 0x02)

/-! ## No context comes back -/

/-- No context is in use after that was not in use before. -/
def NoneNew (s t : State) : Prop := ∀ c, Tbl.has t.qen.ctxs c = true → Tbl.has s.qen.ctxs c = true

namespace NoneNew

theorem refl (s : State) : NoneNew s s := fun _ h => h

theorem trans {s t u : State} (h : NoneNew s t) (k : NoneNew t u) : NoneNew s u := fun c hc => h c (k c hc)

theorem ofSame {s t : State} (h : SameCtxs s t) : NoneNew s t := fun c hc => (h.has c).symm.trans hc

theorem foldl {α : Type} (f : State → α → State) (l : List α) (s : State) (h : ∀ t x, NoneNew t (f t x)) : NoneNew s (l.foldl f s) := by
  induction l generalizing s with
  | nil => exact refl s
  | cons a l ih => exact (h s a).trans (ih _)

theorem gone {s t : State} (h : NoneNew s t) {c : Nat} (hc : Tbl.find? s.qen.ctxs c = none) : Tbl.find? t.qen.ctxs c = none := by
  have out : ¬ Tbl.has t.qen.ctxs c = true := fun k => by simpa [Tbl.has, hc] using h c k
  simpa [Tbl.has] using out

end NoneNew

/-! ## A controller's setup -/

/-- Every controller keeps what its reset keeps of it. -/
def SameSetup (s t : State) : Prop := ∀ fn, (t.qen.ctrl fn).atReset = (s.qen.ctrl fn).atReset

namespace SameSetup

theorem refl (s : State) : SameSetup s s := fun _ => rfl

theorem trans {s t u : State} (h : SameSetup s t) (k : SameSetup t u) : SameSetup s u := fun fn => (k fn).trans (h fn)

theorem ofCtrls {s t : State} (h : t.qen.ctrls = s.qen.ctrls) : SameSetup s t := fun fn => by rw [Qen.ctrl, h]; rfl

theorem foldl {α : Type} (f : State → α → State) (l : List α) (s : State) (h : ∀ t x, SameSetup t (f t x)) : SameSetup s (l.foldl f s) := by
  induction l generalizing s with
  | nil => exact refl s
  | cons a l ih => exact (h s a).trans (ih _)

theorem modCtrl (s : State) (fn : Nat) (f : Controller → Controller) (h : ∀ k, (f k).atReset = k.atReset) :
    SameSetup s (s.modQen fun q => q.modCtrl fn f) := by
  intro j
  by_cases hj : j = fn
  · simp [Qen.ctrl, Qen.modCtrl, State.modQen, hj, Tbl.getD_put_same, h]
  · simp [Qen.ctrl, Qen.modCtrl, State.modQen, Tbl.getD_put_other _ _ _ hj]

end SameSetup

/-! ## What an event that a freed buffer raises leaves -/

/-- The contexts in use after were in use before, and those that a reset discards are still such. -/
def Follows (s t : State) : Prop :=
  ∀ c y, Tbl.find? t.qen.ctxs c = some y → ∃ x, Tbl.find? s.qen.ctxs c = some x ∧ (x.Discarded → y.Discarded)

/-- An event told to the controllers changes no setup and no kind of a context (R113, R389). -/
structure Told (s t : State) : Prop where
  setup : SameSetup s t
  ctxs : Follows s t

namespace Told

theorem refl (s : State) : Told s s := ⟨.refl s, fun _ y h => ⟨y, h, id⟩⟩

theorem trans {s t u : State} (h : Told s t) (k : Told t u) : Told s u where
  setup := h.setup.trans k.setup
  ctxs c z hz := by
    obtain ⟨y, hy, yz⟩ := k.ctxs c z hz
    obtain ⟨x, hx, xy⟩ := h.ctxs c y hy
    exact ⟨x, hx, yz ∘ xy⟩

theorem ofCtxs {s t : State} (setup : SameSetup s t) (h : t.qen.ctxs = s.qen.ctxs) : Told s t := ⟨setup, fun _ y hy => ⟨y, h ▸ hy, id⟩⟩

theorem ofEq {s t : State} (h : t.qen = s.qen) : Told s t := ofCtxs (.ofCtrls (by rw [h])) (by rw [h])

theorem foldl {α : Type} (f : State → α → State) (l : List α) (s : State) (h : ∀ t x, Told t (f t x)) : Told s (l.foldl f s) := by
  induction l generalizing s with
  | nil => exact refl s
  | cons a l ih => exact (h s a).trans (ih _)

theorem noneNew {s t : State} (h : Told s t) : NoneNew s t := by
  intro c hc
  obtain ⟨y, hy⟩ := Tbl.find?_of_has hc
  obtain ⟨x, hx, -⟩ := h.ctxs c y hy
  simp [Tbl.has, hx]

end Told

namespace State

theorem modCtx_told (s : State) (c : Nat) (f : Ctx → Ctx) (h : ∀ x, x.Discarded → (f x).Discarded) : Told s (s.modCtx c f) where
  setup := .ofCtrls rfl
  ctxs j y hy := by
    by_cases hj : j = c
    · subst hj
      obtain ⟨x, hx, rfl⟩ := Option.map_eq_some_iff.mp ((Tbl.find?_adjust_same s.qen.ctxs j f).symm.trans hy)
      exact ⟨x, hx, h x⟩
    · exact ⟨y, (Tbl.find?_adjust_other _ _ hj).symm.trans hy, id⟩

theorem giveEvent_told (s : State) (fn : Nat) : Told s (s.giveEvent fn) := by
  unfold giveEvent
  split
  next e es c _ _ _ =>
    refine Told.trans (.ofCtxs (.modCtrl s fn (fun k => { k with events := es, masked := e.ty :: k.masked }) fun _ => rfl) rfl) (modCtx_told _ c _ ?_)
    exact fun x hx => hx.imp id fun h => ⟨nofun, h.2⟩
  · exact .refl s

theorem asyncEvent_told (s : State) (fn : Nat) (e : AsyncEvent) : Told s (s.asyncEvent fn e) := by
  unfold asyncEvent
  split
  · exact .refl s
  · exact Told.trans (.ofCtxs (.modCtrl s fn (fun k => { k with events := k.events ++ [e] }) fun _ => rfl) rfl) (giveEvent_told _ fn)

theorem tellHealth_told (s : State) (code unit : Nat) (r : EventRecord) : Told s (s.tellHealth code unit r) := by
  have told : Told s (if bitAt (s.obj Ob.EVENT_AEN_MASK) (code - 1) then s.asyncAll ⟨7, code, 0xC0⟩ else s) := by
    split
    · exact Told.foldl _ _ _ fun t x => asyncEvent_told t x.1 _
    · exact .refl s
  unfold tellHealth
  generalize (if bitAt (s.obj Ob.EVENT_AEN_MASK) (code - 1) then s.asyncAll ⟨7, code, 0xC0⟩ else s) = t at told
  refine told.trans (.ofEq ?_)
  dsimp only
  split <;> simp

theorem healthLevel_told (s : State) (code unit : Nat) (on : Bool) : Told s (s.healthLevel code unit on) := by
  unfold healthLevel
  split
  · unfold health
    split
    · exact .refl s
    split
    · exact .refl s
    · exact Told.trans (.ofEq (by simp)) (tellHealth_told _ _ _ _)
  · exact .ofEq (by simp)

theorem releaseBuf_told (s : State) (k i : Nat) : Told s (s.releaseBuf k i) := by
  unfold releaseBuf
  split
  · unfold retireBuf
    exact Told.trans (.ofEq (by simp)) (healthLevel_told _ _ _ _)
  · refine .ofEq ?_
    simp only [admitHeld_units, apply_ite State.qen, modBpm_qen, ite_self]

theorem bufFree_told (s : State) (h : BitVec 24) (unit : Nat) : Told s (s.bufFree h unit) := by
  unfold bufFree
  split
  · exact .ofEq (by simp)
  · dsimp only
    split
    · unfold lastFree
      split
      · exact .ofEq (by simp)
      · exact Told.trans (.ofEq (by simp)) (releaseBuf_told _ _ _)
    · exact .ofEq (by simp)

theorem freeBufs_told (s : State) (hs : List (BitVec 24)) : Told s (s.freeBufs hs) := Told.foldl _ _ _ fun t h => bufFree_told t h _

/-! ## What a squash leaves -/

theorem freeCtx_told (s : State) (c : Nat) : Told s (s.freeCtx c) := by
  unfold freeCtx
  split
  · refine ⟨.ofCtrls rfl, fun j y hy => ?_⟩
    by_cases h : j = c
    · subst h
      exact nomatch (Tbl.find?_del_same s.qen.ctxs j).symm.trans hy
    · exact ⟨y, (Tbl.find?_del_other _ h).symm.trans hy, id⟩
  · exact .refl s

theorem discardCtx_told (s : State) (c : Nat) (x : Ctx) : Told s (s.discardCtx c x) := by
  have dropped : Told (s.freeBufs x.bufs) ((s.freeBufs x.bufs).modHlu fun h => h.dropDma c) := .ofEq rfl
  exact ((freeBufs_told s x.bufs).trans dropped).trans (freeCtx_told _ c)

/-- A squash changes no setup and takes no context into use. -/
theorem squashCtx_leaves (s : State) (e : Nat × Ctx) : SameSetup s (s.squashCtx e) ∧ NoneNew s (s.squashCtx e) := by
  have discards : ∀ t : State, SameSetup t (t.discardCtx e.1 e.2) ∧ NoneNew t (t.discardCtx e.1 e.2) := fun t =>
    ⟨(discardCtx_told t _ _).setup, (discardCtx_told t _ _).noneNew⟩
  have frees : SameSetup s (s.freeCtx e.1) ∧ NoneNew s (s.freeCtx e.1) := ⟨(freeCtx_told s _).setup, (freeCtx_told s _).noneNew⟩
  have orphans : ∀ f, SameSetup s (s.modCtx e.1 f) ∧ NoneNew s (s.modCtx e.1 f) := fun f => ⟨.ofCtrls rfl, .ofSame (modCtx_same _ _ _)⟩
  unfold squashCtx
  dsimp only
  split
  · exact discards s
  split
  · exact ⟨.refl s, .refl s⟩
  split
  · split
    · exact orphans _
    · exact frees
  split
  · split
    · exact discards (s.modMxe fun m => m.withdraw e.1 e.2.dsn)
    split
    · exact orphans _
    · exact frees
  · exact discards s

theorem freeCtx_gone (s : State) (c : Nat) : Tbl.find? (s.freeCtx c).qen.ctxs c = none := by
  unfold freeCtx
  split
  · exact Tbl.find?_del_same _ _
  · assumption

theorem squashCtx_discards (s : State) {c : Nat} {x : Ctx} (h : x.Discarded) : s.squashCtx (c, x) = s.discardCtx c x := by
  unfold squashCtx
  dsimp only
  by_cases admin : x.admin = true
  · exact if_pos admin
  · obtain h | ⟨live, read⟩ := h
    · exact absurd h admin
    · rw [if_neg admin, if_neg live, if_neg (by simp [read]), if_neg (by simp [read])]

theorem squash_fold_gone {c : Nat} {x : Ctx} (hx : x.Discarded) (l : List (Nat × Ctx)) (s : State) (h : (c, x) ∈ l) :
    Tbl.find? (l.foldl squashCtx s).qen.ctxs c = none := by
  induction l generalizing s with
  | nil => cases h
  | cons e l ih =>
    obtain rfl | h := List.mem_cons.mp h
    · have now : Tbl.find? (s.squashCtx (c, x)).qen.ctxs c = none := by rw [squashCtx_discards s hx]; exact freeCtx_gone _ c
      exact NoneNew.gone (.foldl _ l _ fun t e => (squashCtx_leaves t e).2) now
    · exact ih _ h

/-- A squash discards every admin command and every live read that it names. -/
theorem squashWhere_gone {s : State} {p : Ctx → Bool} {c : Nat} {x : Ctx} (h : Tbl.find? s.qen.ctxs c = some x) (named : p x = true) (hx : x.Discarded) :
    Tbl.find? (s.squashWhere p).qen.ctxs c = none :=
  squash_fold_gone hx _ s (List.mem_filter.mpr ⟨Tbl.mem_of_find? h, named⟩)

theorem squashWhere_noneNew (s : State) (p : Ctx → Bool) : NoneNew s (s.squashWhere p) := NoneNew.foldl _ _ _ fun t e => (squashCtx_leaves t e).2

theorem squashWhere_setup (s : State) (p : Ctx → Bool) : SameSetup s (s.squashWhere p) := SameSetup.foldl _ _ _ fun t e => (squashCtx_leaves t e).1

/-! ## The activation of a function -/

/-- The state without the activation that drains for a function. -/
def withoutActivation (s : State) (fn : Nat) : State := if s.activationOf fn then s.modQen Qen.dropActivation else s

theorem dropActivation_setup (s : State) : SameSetup s (s.modQen Qen.dropActivation) := by
  intro fn
  have mapped := Tbl.find?_map (fun k : Controller => { k with pp := false }) s.qen.ctrls fn
  simp only [Qen.ctrl, Qen.dropActivation, modQen, Tbl.getD, mapped]
  cases Tbl.find? s.qen.ctrls fn <;> rfl

theorem withoutActivation_setup (s : State) (fn : Nat) : SameSetup s (s.withoutActivation fn) := by
  unfold withoutActivation
  split
  · exact dropActivation_setup s
  · exact .refl s

theorem withoutActivation_act (s : State) (fn : Nat) : (s.withoutActivation fn).qen.act = if s.activationOf fn then .none else s.qen.act := by
  unfold withoutActivation
  split <;> rfl

theorem withoutActivation_eq (s : State) (fn : Nat) : s.withoutActivation fn = { s with qen := { s.qen with
    act := (s.withoutActivation fn).qen.act, actTick := (s.withoutActivation fn).qen.actTick
    actCtx := (s.withoutActivation fn).qen.actCtx, ctrls := (s.withoutActivation fn).qen.ctrls } } := by
  unfold withoutActivation
  split <;> rfl

/-! ## Enable, reset and shutdown -/

theorem readyNow_eq (s : State) (crime : Bool) : s.readyNow crime = (decide (s.power.stage = .hall) || (crime && s.power.adminOpen)) := by
  unfold readyNow
  cases s.power.stage <;> rfl

end State

namespace Qen

@[simp] theorem ctrl_modCtrl_same (q : Qen) (fn : Nat) (f : Controller → Controller) : (q.modCtrl fn f).ctrl fn = f (q.ctrl fn) :=
  Tbl.getD_put_same _ _ _ _

theorem find?_modCtrl_same (q : Qen) (fn : Nat) (f : Controller → Controller) : Tbl.find? (q.modCtrl fn f).ctrls fn = some (f (q.ctrl fn)) :=
  Tbl.find?_put_same _ _ _

theorem find?_modCtrl_other (q : Qen) {fn j : Nat} (f : Controller → Controller) (h : j ≠ fn) :
    Tbl.find? (q.modCtrl fn f).ctrls j = Tbl.find? q.ctrls j := Tbl.find?_put_other _ _ h

theorem dropQueues_sqs {q : Qen} {fn : Nat} : ∀ e ∈ (q.dropQueues fun _ f _ => f == fn).sqs, e.2.fn ≠ fn := by
  simp [dropQueues]

theorem dropQueues_cqs {q : Qen} {fn : Nat} : ∀ e ∈ (q.dropQueues fun _ f _ => f == fn).cqs, e.2.fn ≠ fn := by
  simp [dropQueues]

end Qen

namespace State

/-- A controller that has been enabled. -/
def enabled (s : State) (crime wrr : Bool) (k : Controller) : Controller :=
  { k.atReset with en := true, crime := crime, wrr := wrr, rdy := s.readyNow crime }

theorem exec_controllerEnable {s : State} {fn : Nat} (crime wrr : Bool) (off : (s.qen.ctrl fn).en = false) : exec (.controllerEnable fn crime wrr) s =
    .next (s.modQen fun q => (q.modCtrl fn (s.enabled crime wrr)).adminQueues fn) := by
  change execControllerEnable fn crime wrr s = _
  unfold execControllerEnable
  rw [off]
  rfl

/-- The state after a reset of a function's controller, its contexts squashed. -/
def resetSquashed (s : State) (fn : Nat) : State := (s.withoutActivation fn).squashWhere fun x => x.fn == fn && x.win.isNone

theorem exec_controllerReset {s : State} {fn : Nat} (on : (s.qen.ctrl fn).en = true) : exec (.controllerReset fn) s =
    .next ((s.resetSquashed fn).modQen fun q => { (q.dropQueues fun _ f _ => f == fn) with
      ctrls := Tbl.put q.ctrls fn (q.ctrl fn).atReset, shutting := q.shutting.filter (fun e => e.1 != fn), wce := true, staging := [], stagingLen := 0 }) := by
  change execControllerReset fn s = _
  unfold execControllerReset
  rw [on]
  rfl

theorem exec_shutdownNotification {s : State} {fn shn : Nat} (on : (s.qen.ctrl fn).en = true) (h : shn = 1 ∨ shn = 2) :
    exec (.shutdownNotification fn shn) s = .next (s.modQen fun q => { (q.modCtrl fn fun k => { k with shn := shn, shst := 1 }) with
      shutting := (fn, shn) :: q.shutting.filter fun e => e.1 != fn }) := by
  change execShutdownNotification fn shn s = _
  unfold execShutdownNotification
  exact if_pos ⟨on, h⟩

theorem resetSquashed_setup (s : State) (fn : Nat) : SameSetup s (s.resetSquashed fn) :=
  (withoutActivation_setup s fn).trans (squashWhere_setup _ _)

theorem resetSquashed_squashed (s : State) (fn : Nat) : Squashed (s.withoutActivation fn) (s.resetSquashed fn) := squashWhere_squashed _ _

/-- The map, the writes past their sequence point and the units that a controller reset does not reach stay. -/
theorem resetSquashed_keeps (s : State) (fn : Nat) : (s.resetSquashed fn).mxe.map = s.mxe.map ∧ (s.resetSquashed fn).mxe.writes = s.mxe.writes ∧
    (s.resetSquashed fn).mxe.nand = s.mxe.nand ∧ (s.resetSquashed fn).power = s.power ∧ (s.resetSquashed fn).tbu = s.tbu ∧
    (s.resetSquashed fn).tnu = s.tnu ∧ (s.resetSquashed fn).csu = s.csu ∧ (s.resetSquashed fn).hum = s.hum := by
  have mxe := (s.resetSquashed_squashed fn).mxe
  refine ⟨?_, ?_, ?_, ?_⟩
  · exact (congrArg Mxe.map mxe).trans (by rw [withoutActivation_eq])
  · exact (congrArg Mxe.writes mxe).trans (by rw [withoutActivation_eq])
  · exact (congrArg Mxe.nand mxe).trans (by rw [withoutActivation_eq])
  · simp only [resetSquashed, squashWhere_units]
    rw [withoutActivation_eq]
    exact ⟨rfl, rfl, rfl, rfl, rfl⟩

theorem resetSquashed_gone {s : State} {fn c : Nat} {x : Ctx} (h : Tbl.find? s.qen.ctxs c = some x) (hfn : x.fn = fn) (noWin : x.win = none)
    (admin : x.admin = true) : Tbl.find? (s.resetSquashed fn).qen.ctxs c = none := by
  refine squashWhere_gone (x := x) ?_ (by simp [hfn, noWin]) (.inl admin)
  rw [withoutActivation_eq]
  exact h

end State

/-- Settles O29: the queues and the features of an enable, the squash of a reset, the bits of a shutdown. -/
theorem controllersEnableResetAndShutDown : Obligations.ControllersEnableResetAndShutDown := by
  unfold Obligations.ControllersEnableResetAndShutDown
  refine ⟨fun s fn crime wrr off => ?_, fun s fn on => ?_, fun s fn shn on kind => ?_⟩
  · refine ⟨_, _, _, State.exec_controllerEnable crime wrr off, Tbl.find?_put_same _ _ _, Tbl.find?_put_same _ _ _, ?_, rfl, ?_, ?_, rfl, rfl, rfl, rfl, rfl, ?_, ?_, rfl, rfl, rfl,
      fun k hk => ⟨Tbl.find?_put_other _ _ hk, Tbl.find?_put_other _ _ hk⟩, fun f hf => Qen.find?_modCtrl_other s.qen (s.enabled crime wrr) hf, rfl⟩
    · rw [← State.readyNow_eq]
      exact Qen.find?_modCtrl_same s.qen fn (s.enabled crime wrr)
    all_goals rw [Qen.ctrl_modCtrl_same]
    · simp [Sq.new, bitsOf, State.enabled, Controller.atReset]
    · rfl
    · simp [Cq.new, bitsOf, State.enabled, Controller.atReset]
    · rfl
  · have sq := s.resetSquashed_squashed fn
    refine ⟨_, State.exec_controllerReset on, ?_, Qen.dropQueues_sqs, Qen.dropQueues_cqs, rfl, rfl, rfl, ?_,
      fun c x h hfn noWin admin => State.resetSquashed_gone h hfn noWin admin, ?_⟩
    · refine (Tbl.find?_put_same _ _ _).trans (congrArg some ?_)
      exact s.resetSquashed_setup fn fn
    · have act := congrArg Qen.act sq.qen
      exact act.trans (s.withoutActivation_act fn)
    · exact s.resetSquashed_keeps fn
  · exact ⟨_, State.exec_shutdownNotification on kind, Qen.find?_modCtrl_same s.qen fn (fun k => { k with shn := shn, shst := 1 }), List.mem_cons_self, fun f hf => Qen.find?_modCtrl_other s.qen (fun k => { k with shn := shn, shst := 1 }) hf, rfl⟩

end Sys2Proof.Machine
end

section
/-! PROOFS. Class 4 resets of the link (spec/03, R53, R87, R88): what the reset of a slice and the squash before a hot reset and an FLR leave, and O8. -/

namespace Sys2Proof.Machine

/-- The queue engine after a hot reset. -/
def Qen.hotReset (q : Qen) : Qen :=
  { (q.dropQueues fun _ _ _ => true) with ctrls := [], shutting := [], wce := true, staging := [], stagingLen := 0 }

theorem Qen.hotReset_sqs (q : Qen) : q.hotReset.sqs = [] := by simp [hotReset, dropQueues]

theorem Qen.hotReset_cqs (q : Qen) : q.hotReset.cqs = [] := by simp [hotReset, dropQueues]

/-! ## Units a slice's reset reaches -/

/-- Window reads that end and slices that are cleared leave the contexts of other kinds, the map unit, the link and the bytes in memory. -/
structure Aborted (s t : State) : Prop where
  told : Told s t
  squashed : Squashed s t
  bytes : t.dmc.bytes = s.dmc.bytes

namespace Aborted

theorem refl (s : State) : Aborted s s := ⟨.refl s, .refl s, rfl⟩

theorem trans {s t u : State} (h : Aborted s t) (k : Aborted t u) : Aborted s u :=
  ⟨h.told.trans k.told, h.squashed.trans k.squashed, k.bytes.trans h.bytes⟩

theorem foldl {α : Type} (f : State → α → State) (l : List α) (s : State) (h : ∀ t x, Aborted t (f t x)) : Aborted s (l.foldl f s) := by
  induction l generalizing s with
  | nil => exact refl s
  | cons a l ih => exact (h s a).trans (ih _)

theorem ofEq {s t : State} (qen : t.qen = s.qen) (ccl : t.ccl = s.ccl) (mxe : t.mxe = s.mxe) (hlu : t.hlu = s.hlu) (bytes : t.dmc.bytes = s.dmc.bytes) :
    Aborted s t := ⟨.ofEq qen, ⟨by rw [ccl], by rw [mxe], by rw [hlu], by rw [qen]⟩, bytes⟩

end Aborted

/-- The reset of a slice keeps the power state, what waits to run, the tick, the map and the units of recovery and of command take. -/
structure SliceKeeps (s t : State) : Prop where
  power : t.power = s.power
  pending : t.pending = s.pending
  tick : t.tbu.tick = s.tbu.tick
  map : t.mxe.map = s.mxe.map
  hum : t.hum = s.hum
  csu : t.csu = s.csu

namespace SliceKeeps

theorem refl (s : State) : SliceKeeps s s := ⟨rfl, rfl, rfl, rfl, rfl, rfl⟩

theorem trans {s t u : State} (h : SliceKeeps s t) (k : SliceKeeps t u) : SliceKeeps s u :=
  ⟨k.power.trans h.power, k.pending.trans h.pending, k.tick.trans h.tick, k.map.trans h.map, k.hum.trans h.hum, k.csu.trans h.csu⟩

theorem foldl {α : Type} (f : State → α → State) (l : List α) (s : State) (h : ∀ t x, SliceKeeps t (f t x)) : SliceKeeps s (l.foldl f s) := by
  induction l generalizing s with
  | nil => exact refl s
  | cons a l ih => exact (h s a).trans (ih _)

end SliceKeeps

namespace State

theorem sample_aborted (s : State) (n : Nat) : Aborted s (s.sample n) := .ofEq rfl rfl rfl rfl rfl

theorem discardCtx_aborted (s : State) (c : Nat) (x : Ctx) : Aborted s (s.discardCtx c x) :=
  ⟨discardCtx_told s c x, discardCtx_squashed s c x, by simp⟩

theorem complete_aborted (s : State) (kind : CplKind) : Aborted s (s.complete kind) := .ofEq (by simp) (by simp) (by simp) (by simp) (by simp)

theorem abortReads_aborted (s : State) (p : Nat → Bool) : Aborted s (s.abortReads p) := by
  have folded := Aborted.foldl (fun s e => (s.complete .ca).discardCtx e.1 e.2)
    (s.qen.ctxs.filter fun e => (e.2.win.any fun w => p w.1) && e.2.sqe.opcode == 0x02) s
    fun t e => (complete_aborted t .ca).trans (discardCtx_aborted _ e.1 e.2)
  unfold abortReads
  exact folded.trans (.ofEq (by simp) (by simp) (by simp) (by simp) (by simp))

theorem galSliceReset_aborted (s : State) (n : Nat) : Aborted s (s.galSliceReset n) := by
  refine (abortReads_aborted s fun w => (winOf s.gal.active w).owner == n).trans ?_
  exact .ofEq (by simp [galSliceReset]) (by simp [galSliceReset]) (by simp [galSliceReset]) (by simp [galSliceReset]) (by simp [galSliceReset, clearBursts])

theorem sliceHotReset_aborted (s : State) (n : Nat) : Aborted s (s.sliceHotReset n) := by
  unfold sliceHotReset
  exact (galSliceReset_aborted s n).trans (.ofEq (by simp) (by simp) (by simp) (by simp) (by simp))

theorem squashWhere_keeps (s : State) (p : Ctx → Bool) : SliceKeeps s (s.squashWhere p) := by
  have map := congrArg Mxe.map (squashWhere_squashed s p).mxe
  exact ⟨by simp, by simp, by simp, map, by simp, by simp⟩

/-- A quarantine leaves no tag that it names outstanding. -/
theorem quarantine_tags {s : State} {p : Tag → Bool} :
    ∀ e ∈ (s.quarantine p).hlu.tags, p e.2 = true → e.2.phase ≠ .outstanding := by
  intro e he named
  obtain ⟨u, -, rfl⟩ := List.mem_map.mp he
  by_cases h : u.2.phase = .outstanding ∧ p u.2 = true
  · rw [if_pos h]
    nofun
  · rw [if_neg h] at named ⊢
    exact fun k => h ⟨k, named⟩

/-! ## HOT_RESET -/

/-- The state without an activation that drains for a command. -/
def withoutDrain (s : State) : State := if s.qen.act = .draining ∧ s.qen.actCtx.isSome = true then s.modQen Qen.dropActivation else s

theorem withoutDrain_eq (s : State) : s.withoutDrain = { s with qen := { s.qen with
    act := s.withoutDrain.qen.act, actTick := s.withoutDrain.qen.actTick
    actCtx := s.withoutDrain.qen.actCtx, ctrls := s.withoutDrain.qen.ctrls } } := by
  unfold withoutDrain
  split <;> rfl

/-- A hot reset before its squash: reads of windows have ended, slices are cleared. -/
def hotAborted (s : State) : State := s.withoutDrain.sliceIds.foldl sliceHotReset ((s.withoutDrain.sample 4).abortReads fun _ => true)

/-- A hot reset after its squash. -/
def hotSquashed (s : State) : State := s.hotAborted.squashWhere fun _ => true

/-- The end of a hot reset whose contexts are squashed. -/
def hotEnd (u : State) : State :=
  (((u.quarantine fun _ => true).modHlu Hlu.configReset).modQen Qen.hotReset).modTnu fun t => { t with filter := [] }

/-- What a hot reset writes, and what it leaves of the state after its squash. -/
theorem hotEnd_after (u : State) : u.hotEnd.hlu.up = u.hlu.up ∧ u.hotEnd.qen.sqs = [] ∧ u.hotEnd.qen.cqs = [] ∧ u.hotEnd.qen.ctrls = [] ∧
    u.hotEnd.hlu.fns = [] ∧ u.hotEnd.hlu.mps = 128 ∧ u.hotEnd.hlu.mrrs = 512 ∧ (∀ e ∈ u.hotEnd.hlu.tags, e.2.phase ≠ .outstanding) ∧
    u.hotEnd.mxe = u.mxe ∧ u.hotEnd.dmc = u.dmc ∧ u.hotEnd.qen.ctxs = u.qen.ctxs :=
  ⟨rfl, Qen.hotReset_sqs _, Qen.hotReset_cqs _, rfl, rfl, rfl, rfl, fun e he => quarantine_tags (s := u) (p := fun _ => true) e he rfl, rfl, rfl, rfl⟩

theorem hotEnd_keeps (u : State) : SliceKeeps u u.hotEnd :=
  ⟨by simp [hotEnd], by simp [hotEnd], by simp [hotEnd], by simp [hotEnd], by simp [hotEnd], by simp [hotEnd]⟩

theorem exec_hotReset {s : State} (up : s.hlu.up = true) : exec .hotReset s =
    .next (s.hotSquashed.hotEnd.trigger 0x05 UnitNo.hlu 0 0) := by
  change execHotReset s = _
  unfold execHotReset
  rw [if_pos up]
  rfl

theorem hotAborted_aborted (s : State) : Aborted s.withoutDrain s.hotAborted :=
  ((sample_aborted _ 4).trans (abortReads_aborted _ _)).trans (.foldl _ _ _ sliceHotReset_aborted)

theorem hotSquashed_keeps (s : State) : SliceKeeps s s.hotSquashed := by
  have drain : SliceKeeps s s.withoutDrain := by rw [withoutDrain_eq]; exact ⟨rfl, rfl, rfl, rfl, rfl, rfl⟩
  have reads : SliceKeeps s.withoutDrain ((s.withoutDrain.sample 4).abortReads fun _ => true) := ⟨by simp, by simp, by simp, by simp, by simp, by simp⟩
  have slices := SliceKeeps.foldl sliceHotReset s.withoutDrain.sliceIds ((s.withoutDrain.sample 4).abortReads fun _ => true) fun t n => ⟨by simp, by simp, by simp, by simp, by simp, by simp⟩
  exact ((drain.trans reads).trans slices).trans (squashWhere_keeps _ _)

/-- What a hot reset leaves of the map unit, of the link and of the bytes in memory before configuration space is cleared. -/
theorem hotSquashed_squashed (s : State) : Squashed s.withoutDrain s.hotSquashed := s.hotAborted_aborted.squashed.trans (squashWhere_squashed _ _)

theorem hotSquashed_up (s : State) : s.hotSquashed.hlu.up = s.hlu.up := by
  have up := congrArg Hlu.up s.hotSquashed_squashed.hlu
  exact up.trans (by rw [withoutDrain_eq])

theorem hotSquashed_writes (s : State) : s.hotSquashed.mxe.writes = s.mxe.writes := by
  have writes := congrArg Mxe.writes s.hotSquashed_squashed.mxe
  exact writes.trans (by rw [withoutDrain_eq])

theorem hotSquashed_nand (s : State) : s.hotSquashed.mxe.nand = s.mxe.nand := by
  have nand := congrArg Mxe.nand s.hotSquashed_squashed.mxe
  exact nand.trans (by rw [withoutDrain_eq])

theorem hotSquashed_bytes (s : State) : s.hotSquashed.dmc.bytes = s.dmc.bytes := by
  have bytes := s.hotAborted_aborted.bytes
  rw [withoutDrain_eq] at bytes
  simpa [hotSquashed] using bytes

theorem hotSquashed_gone {s : State} {c : Nat} {x : Ctx} (h : Tbl.find? s.qen.ctxs c = some x) (hx : x.Discarded) :
    Tbl.find? s.hotSquashed.qen.ctxs c = none := by
  have before : Tbl.find? s.withoutDrain.qen.ctxs c = some x := by rw [withoutDrain_eq]; exact h
  cases found : Tbl.find? s.hotAborted.qen.ctxs c with
  | none => exact NoneNew.gone (squashWhere_noneNew _ _) found
  | some y =>
    obtain ⟨x', hx', kept⟩ := s.hotAborted_aborted.told.ctxs c y found
    obtain rfl := Option.some.inj (before.symm.trans hx')
    exact squashWhere_gone found rfl (kept hx)

/-! ## FLR -/

theorem resetSlice_keeps (s : State) (n : Nat) : SliceKeeps s (s.resetSlice n false) := by
  have aborted : SliceKeeps s ((s.sample 4).galSliceReset n) := ⟨by simp, by simp, by simp, by simp, by simp, by simp⟩
  have map := (aborted.trans (squashWhere_keeps _ fun x => !x.admin && x.slice == n)).map
  exact ⟨by simp, by simp, by simp [resetSlice], by simpa [resetSlice] using map, by simp, by simp⟩

/-- An FLR after its squash. -/
def flrSquashed (s : State) (fn : Nat) : State :=
  ((((s.withoutActivation fn).sample 4).sliceIds.filter fun n => ((s.withoutActivation fn).sample 4).sliceOn n fn).foldl (fun s n => s.resetSlice n false)
    ((s.withoutActivation fn).sample 4)).squashWhere fun x => x.fn == fn && x.win.isNone

/-- The queue engine after an FLR of a function. -/
def flrQen (fn : Nat) (q : Qen) : Qen :=
  { (q.dropQueues fun _ f _ => f == fn) with ctrls := Tbl.del q.ctrls fn, shutting := q.shutting.filter fun e => e.1 != fn }

/-- The link after an FLR of a function at a tick. -/
def flrHlu (fn : Nat) (now : Dword) (h : Hlu) : Hlu :=
  { h with
    fns := Tbl.put h.fns fn { busMaster := false, memSpace := false, flr := true, ats := false }, atc := h.atc.filter (fun e => e.fn != fn)
    flrTick := Tbl.put h.flrTick fn now, msix := h.msix.filter fun c => c.1 / 65536 != fn }

/-- The end of an FLR whose contexts are squashed. -/
def flrEnd (fn : Nat) (u : State) : State := ((u.quarantine fun t => t.fn == fn).modQen (flrQen fn)).modHlu (flrHlu fn u.now)

theorem flrEnd_keeps (u : State) (fn : Nat) : SliceKeeps u (u.flrEnd fn) :=
  ⟨by simp [flrEnd], by simp [flrEnd], by simp [flrEnd], by simp [flrEnd], by simp [flrEnd], by simp [flrEnd]⟩

/-- What an FLR writes: the function's configuration, and nothing of it is left in the queues, the ATC and the outstanding tags. -/
theorem flrEnd_after (u : State) (fn : Nat) :
    Tbl.find? (u.flrEnd fn).hlu.fns fn = some { busMaster := false, memSpace := false, flr := true, ats := false } ∧
      Tbl.find? (u.flrEnd fn).hlu.flrTick fn = some u.now ∧ Tbl.find? (u.flrEnd fn).qen.ctrls fn = none ∧
      (∀ e ∈ (u.flrEnd fn).qen.sqs, e.2.fn ≠ fn) ∧ (∀ e ∈ (u.flrEnd fn).qen.cqs, e.2.fn ≠ fn) ∧ (∀ e ∈ (u.flrEnd fn).hlu.atc, e.fn ≠ fn) ∧
      (∀ e ∈ (u.flrEnd fn).hlu.tags, e.2.fn = fn → e.2.phase ≠ .outstanding) := by
  refine ⟨Tbl.find?_put_same _ _ _, Tbl.find?_put_same _ _ _, Tbl.find?_del_same _ _, Qen.dropQueues_sqs, Qen.dropQueues_cqs, fun e he => ?_, fun e he hfn => ?_⟩
  · simpa using (List.mem_filter.mp he).2
  · exact quarantine_tags (s := u) (p := fun t => t.fn == fn) e he (by simp [hfn])

theorem exec_flr (s : State) (fn : Nat) : exec (.flr fn) s = .next (((s.flrSquashed fn).flrEnd fn).trigger 0x05 UnitNo.hlu fn 0) := by
  change execFlr fn s = _
  unfold execFlr flrSquashed withoutActivation
  dsimp only
  generalize State.squashWhere _ _ = u
  rfl

theorem flrSquashed_keeps (s : State) (fn : Nat) : SliceKeeps s (s.flrSquashed fn) := by
  have start : SliceKeeps s ((s.withoutActivation fn).sample 4) := by rw [withoutActivation_eq]; exact ⟨rfl, rfl, rfl, rfl, rfl, rfl⟩
  exact (start.trans (.foldl _ _ _ fun t n => resetSlice_keeps t n)).trans (squashWhere_keeps _ _)

/-! ## FLR_COMPLETE -/

theorem getD_flrDone (fns : List (Nat × FnCfg)) (fn : Nat) :
    Tbl.getD (Tbl.adjust fns fn fun f => { f with flr := false }) fn default = { Tbl.getD fns fn default with flr := false } := by
  simp only [Tbl.getD, Tbl.find?_adjust_same]
  cases Tbl.find? fns fn <;> rfl

theorem exec_flrComplete {s : State} {fn : Nat} (flr : (Tbl.getD s.hlu.fns fn default).flr = true) (ready : s.flrReady fn = true) :
    exec (.flrComplete fn) s = .next (s.modHlu fun h => { h with fns := Tbl.adjust h.fns fn fun f => { f with flr := false }, flrTick := Tbl.del h.flrTick fn }) :=
  if_pos ⟨flr, ready⟩

end State

/-- Settles O8: a hot reset, then an FLR and its end, from what their squash leaves. -/
theorem classFourResetsOfTheLinkSquashAndQuarantine : Obligations.ClassFourResetsOfTheLinkSquashAndQuarantine := by
  unfold Obligations.ClassFourResetsOfTheLinkSquashAndQuarantine
  refine ⟨fun s up => ?_, fun s fn => ?_, fun s fn flr ready => ?_⟩
  · have keeps := s.hotSquashed_keeps.trans (State.hotEnd_keeps _)
    obtain ⟨linkUp, sqs, cqs, ctrls, fns, mps, mrrs, tags, mxe, dmc, ctxs⟩ := s.hotSquashed.hotEnd_after
    refine ⟨_, State.exec_hotReset up, ?_⟩
    simp only [State.trigger_units]
    rw [linkUp, s.hotSquashed_up, ctxs, keeps.map, mxe, s.hotSquashed_writes, s.hotSquashed_nand, dmc, s.hotSquashed_bytes]
    exact ⟨up, sqs, cqs, ctrls, fns, mps, mrrs, tags, keeps.power, keeps.tick, keeps.hum, keeps.csu, rfl, rfl, rfl, rfl, keeps.pending,
      fun c x h hx => State.hotSquashed_gone h hx⟩
  · have keeps := (s.flrSquashed_keeps fn).trans (State.flrEnd_keeps _ fn)
    obtain ⟨fns, flrTick, ctrls, sqs, cqs, atc, tags⟩ := (s.flrSquashed fn).flrEnd_after fn
    have now : (s.flrSquashed fn).now = s.now := (s.flrSquashed_keeps fn).tick
    refine ⟨_, State.exec_flr s fn, ?_⟩
    simp only [State.trigger_units]
    rw [flrTick, now, keeps.map]
    exact ⟨fns, rfl, ctrls, sqs, cqs, atc, tags, keeps.power, keeps.tick, rfl, keeps.pending⟩
  · exact ⟨_, State.exec_flrComplete flr ready, State.getD_flrDone _ _, Tbl.find?_del_same _ _,
      fun k hk => Tbl.find?_adjust_other s.hlu.fns (fun f => { f with flr := false }) hk, rfl⟩

end Sys2Proof.Machine
end

section
/-! PROOFS. Dies (spec/08, R219 to R221, R332): the rules of a die, an operation and a command sequence; suspends and resumes. -/

namespace Sys2Proof.Machine

namespace Dsc

theorem dieState_eq (c : Dsc) (d : Nat) : c.dieState d = (c.die d).state := by
  unfold dieState die Tbl.getD
  cases Tbl.find? c.dies d <;> rfl

/-- A die that is not OFFLINE is listed. -/
theorem find?_of_state {c : Dsc} {d : Nat} (h : (c.die d).state ≠ .offline) : Tbl.find? c.dies d = some (c.die d) := by
  unfold die Tbl.getD at h ⊢
  cases found : Tbl.find? c.dies d with
  | none => simp [found] at h
  | some x => rfl

theorem die_modDie_same {c : Dsc} {d : Nat} {x : Die} (f : Die → Die) (h : Tbl.find? c.dies d = some x) : (c.modDie d f).die d = f x := by
  simp [modDie, die, Tbl.getD, Tbl.find?_adjust_same, h]

theorem die_modDie_other (c : Dsc) {d e : Nat} (f : Die → Die) (h : e ≠ d) : (c.modDie d f).die e = c.die e := by
  simp [modDie, die, Tbl.getD, Tbl.find?_adjust_other _ _ h]

/-- A change of a die that keeps its state changes no die's state. -/
theorem dieState_modDie (c : Dsc) (d e : Nat) (f : Die → Die) (h : ∀ x, (f x).state = x.state) : (c.modDie d f).dieState e = c.dieState e := by
  by_cases he : e = d
  · subst he
    simp only [dieState, modDie, Tbl.find?_adjust_same, Option.map_map, Function.comp_def, h]
  · rw [dieState_eq, dieState_eq, die_modDie_other c f he]

theorem find?_modOp_same {c : Dsc} {i : Nat} {o : DieOp} (f : DieOp → DieOp) (h : Tbl.find? c.ops i = some o) :
    Tbl.find? (c.modOp i f).ops i = some (f o) := by
  simp [modOp, Tbl.find?_adjust_same, h]

theorem running_eq {c : Dsc} {d i : Nat} {o : DieOp} (h : c.running d = some (i, o)) : (c.die d).active = some i ∧ Tbl.find? c.ops i = some o := by
  unfold running at h
  obtain ⟨j, hj, found⟩ := Option.bind_eq_some_iff.mp h
  obtain ⟨p, hp, eq⟩ := Option.map_eq_some_iff.mp found
  obtain ⟨rfl, rfl⟩ := Prod.mk.inj eq
  exact ⟨hj, hp⟩

end Dsc

namespace State

/-- A command sequence goes out last, after a Volume Select where the die's volume is not the one selected (R243). -/
theorem nandCmd_sends (s : State) (d : Nat) (c : NandCmd) (k : OpKind) (n : Nat) :
    ∃ es, (s.nandCmd d c k n).out = .nand d c (opcodeBytes (s.opcodeEntry c k n)) :: (es ++ s.out) ∧ (s.volSelected d = true → es = []) := by
  unfold nandCmd
  dsimp only
  split
  · exact ⟨[], rfl, fun _ => rfl⟩
  · exact ⟨[_], rfl, fun h => absurd h ‹_›⟩

theorem nandCmd_frame (s : State) (d : Nat) (c : NandCmd) (k : OpKind) (n : Nat) :
    s.nandCmd d c k n = { s with out := (s.nandCmd d c k n).out, fca := { s.fca with chs := (s.nandCmd d c k n).fca.chs } } := by
  unfold nandCmd
  dsimp only
  split <;> rfl

/-! ## SUSPEND_ISSUE -/

/-- A suspend is due: the die is busy with a program or an erase, and a read that may suspend it waits (R220, R223). -/
structure SuspendDue (s : State) (d i : Nat) (o : DieOp) : Prop where
  running : s.dsc.running d = some (i, o)
  busy : (s.dsc.die d).state = .busy
  pe : o.pe = true
  reader : s.suspender d o = true
  ready : (s.dsc.die d).readyAt.toNat ≤ s.now.toNat
  noGap : s.fca.gapHeld = false

/-- The state as the suspend command goes out. -/
def suspending (s : State) (d i : Nat) (o : DieOp) : State :=
  ((s.modDie d fun x => { x with
      state := .suspPend, pollDue := s.now.toNat + o.timing.susp * o.timing.first / 100, found := none }).modOp i fun x => { x with
    susp := x.susp + 1 }).count Fld.DSC_SUSP_CNT.COUNT 0 1

theorem SuspendDue.exec {s : State} {d i : Nat} {o : DieOp} (h : s.SuspendDue d i o) : Machine.exec (.suspendIssue d) s =
    if o.susp < s.suspMax o then .next ((s.suspending d i o).nandCmd d .suspend o.req.kind) else .next (s.count Fld.DSC_SUSP_DENY.COUNT 0 1) := by
  change execSuspendIssue d s = _
  unfold execSuspendIssue
  rw [h.running]
  exact if_pos ⟨h.busy, h.pe, h.reader, h.ready, h.noGap⟩

theorem suspendIssue_suspends {s : State} {d i : Nat} {o : DieOp} (due : s.SuspendDue d i o) (more : o.susp < s.suspMax o) :
    ∃ t es, exec (.suspendIssue d) s = .next t ∧ (t.dsc.die d).state = .suspPend ∧ Tbl.find? t.dsc.ops i = some { o with susp := o.susp + 1 } ∧
      t.out = .nand d .suspend (opcodeBytes (s.opcodeEntry .suspend o.req.kind 1)) :: (es ++ s.out) ∧ (s.volSelected d = true → es = []) ∧
      t.fld Fld.DSC_SUSP_CNT.COUNT = min (2 ^ Fld.DSC_SUSP_CNT.COUNT.width - 1) (s.fld Fld.DSC_SUSP_CNT.COUNT + 1) ∧
      t = { s with out := t.out, regf := t.regf, fca := { s.fca with chs := t.fca.chs }, dsc := { s.dsc with dies := t.dsc.dies, ops := t.dsc.ops } } := by
  have listed := Dsc.find?_of_state (c := s.dsc) (d := d) (by rw [due.busy]; nofun)
  obtain ⟨es, out, volume⟩ := (s.suspending d i o).nandCmd_sends d .suspend o.req.kind 1
  refine ⟨_, es, due.exec.trans (if_pos more), ?_, ?_, out, volume, ?_, ?_⟩
  · rw [nandCmd_frame]
    exact congrArg Die.state (Dsc.die_modDie_same (fun x => { x with
      state := .suspPend, pollDue := s.now.toNat + o.timing.susp * o.timing.first / 100, found := none }) listed)
  · rw [nandCmd_frame]
    exact Dsc.find?_modOp_same (fun x => { x with susp := x.susp + 1 }) (Dsc.running_eq due.running).2
  · rw [nandCmd_frame]
    exact fld_count_same _ Fld.DSC_SUSP_CNT.COUNT 0 1
  · refine (nandCmd_frame _ _ _ _ _).trans ?_
    simp only [nandCmd_units]
    rfl

theorem suspendIssue_denied {s : State} {d i : Nat} {o : DieOp} (due : s.SuspendDue d i o) (noMore : s.suspMax o ≤ o.susp) :
    ∃ t, exec (.suspendIssue d) s = .next t ∧
      t.fld Fld.DSC_SUSP_DENY.COUNT = min (2 ^ Fld.DSC_SUSP_DENY.COUNT.width - 1) (s.fld Fld.DSC_SUSP_DENY.COUNT + 1) ∧ t = { s with regf := t.regf } :=
  ⟨_, due.exec.trans (if_neg (Nat.not_lt.mpr noMore)), fld_count_same s Fld.DSC_SUSP_DENY.COUNT 0 1, rfl⟩

/-! ## RESUME_SUBMIT -/

theorem resumeSubmit_resumes {s : State} {d i : Nat} {o : DieOp} (held : (s.dsc.die d).held = some i) (found : Tbl.find? s.dsc.ops i = some o)
    (suspended : (s.dsc.die d).state = .suspended) (idle : (s.dsc.die d).active = none)
    (done : (∀ j ∈ (s.dsc.die d).queue, ∀ r, Tbl.find? s.dsc.ops j = some r → ¬(r.req.kind = .read ∧ s.suspClass r.eff = true)) ∨ 8 ≤ (s.dsc.die d).suspReads) :
    ∃ t, exec (.resumeSubmit d) s = .next t ∧ Tbl.find? t.dsc.ops i = some { o with resume := true } ∧ t = { s with dsc := { s.dsc with ops := t.dsc.ops } } := by
  refine ⟨s.modOp i fun x => { x with resume := true }, ?_, Dsc.find?_modOp_same (fun x => { x with resume := true }) found, rfl⟩
  change execResumeSubmit d s = _
  unfold execResumeSubmit
  rw [held]
  refine if_pos ⟨suspended, idle, done.imp (fun none => ?_) id⟩
  refine List.any_eq_false.mpr fun j hj reads => ?_
  obtain ⟨r, hr, reads⟩ := (Option.any_eq_true _ _).mp reads
  exact none j hj r hr (by simpa using reads)

end State

end Sys2Proof.Machine
end

section
/-! PROOFS. A die that leaves and returns (spec/08, spec/12, R219, R332): its operations end, its blocks retire, and the map and the pages on NAND stay. -/

namespace Sys2Proof.Machine

/-! ## Map, pages and retired blocks -/

/-- The map, the pages on NAND and the retired blocks are the same. -/
structure SameMedia (s t : State) : Prop where
  map : t.mxe.map = s.mxe.map
  nand : t.mxe.nand = s.mxe.nand
  retired : t.mxe.retired = s.mxe.retired

namespace SameMedia

theorem refl (s : State) : SameMedia s s := ⟨rfl, rfl, rfl⟩

theorem trans {s t u : State} (h : SameMedia s t) (k : SameMedia t u) : SameMedia s u :=
  ⟨k.map.trans h.map, k.nand.trans h.nand, k.retired.trans h.retired⟩

theorem ofEq {s t : State} (h : t.mxe = s.mxe) : SameMedia s t := ⟨by rw [h], by rw [h], by rw [h]⟩

theorem foldl {α : Type} (f : State → α → State) (l : List α) (s : State) (h : ∀ t x, SameMedia t (f t x)) : SameMedia s (l.foldl f s) := by
  induction l generalizing s with
  | nil => exact refl s
  | cons a l ih => exact (h s a).trans (ih _)

end SameMedia

namespace State

theorem rePlace_media (s : State) (i : Nat) (x : PlaceSlot) : SameMedia s (s.rePlace i x) := by
  unfold rePlace
  split
  · exact .refl s
  · exact ⟨rfl, rfl, rfl⟩

theorem memberErased_media (s : State) (b d : Nat) : SameMedia s (s.memberErased b d) := by
  unfold memberErased
  constructor <;> dsimp only [modMxe] <;> split <;> rfl

theorem returnFail_media (s : State) (i : Nat) (o : DieOp) : SameMedia s (s.returnFail i o) := by
  unfold returnFail
  split
  · exact SameMedia.foldl _ _ _ fun t x => rePlace_media t i x
  · exact ⟨rfl, rfl, rfl⟩
  · exact memberErased_media _ _ _
  all_goals exact ⟨rfl, rfl, rfl⟩

/-! ## The operations of the die end -/

theorem fill_states (s : State) (n e : Nat) : (s.fill n).dsc.dieState e = s.dsc.dieState e := by
  have slots : ∀ (fuel : Nat) (s : State), (s.fillSlots n fuel).dsc.dieState e = s.dsc.dieState e := by
    intro fuel
    induction fuel with
    | zero => exact fun _ => rfl
    | succ fuel ih =>
      intro s
      unfold fillSlots
      split
      · exact (ih _).trans (Dsc.dieState_modDie s.dsc n e _ fun _ => rfl)
      · rfl
  exact slots 7 s

/-- A die without an operation. -/
def dieWithout (i : Nat) (x : Die) : Die :=
  { x with
    queue := x.queue.filter (· != i), arriving := x.arriving.filter (· != i)
    active := if x.active = some i then none else x.active
    held := if x.held = some i then none else x.held }

theorem dropOp_states (s : State) (n i e : Nat) : (s.dropOp n i).dsc.dieState e = s.dsc.dieState e := by
  unfold dropOp
  exact (fill_states _ n e).trans (Dsc.dieState_modDie s.dsc n e (dieWithout i) fun _ => rfl)

theorem dropOp_ops (s : State) (n i : Nat) : (s.dropOp n i).dsc.ops = Tbl.del s.dsc.ops i := by
  rw [dropOp, fill_dsc]
  rfl

/-- An operation of a die that has failed ends. -/
def failOp (d : Nat) (s : State) (e : Nat × DieOp) : State :=
  match e.2.why with
  | .dump n => (s.dropOp d e.1).dumpEnded d n false
  | _ => (s.dropOp d e.1).returnFail e.1 e.2

theorem failOps_eq (s : State) (d : Nat) : s.failOps d = (s.dsc.opsOf d).foldl (failOp d) s := by
  unfold failOps
  congr

theorem failOp_dsc (s : State) (d : Nat) (e : Nat × DieOp) : (failOp d s e).dsc = (s.dropOp d e.1).dsc := by
  unfold failOp
  split <;> simp

theorem failOp_media (s : State) (d : Nat) (e : Nat × DieOp) : SameMedia s (failOp d s e) := by
  have dropped : SameMedia s (s.dropOp d e.1) := .ofEq (by simp)
  unfold failOp
  split
  · exact dropped.trans (.ofEq (by simp))
  · exact dropped.trans (returnFail_media _ _ _)

theorem failOps_media (s : State) (d : Nat) : SameMedia s (s.failOps d) := by
  rw [failOps_eq]
  exact SameMedia.foldl _ _ _ fun t e => failOp_media t d e

theorem failOp_fold_dsc (d : Nat) (l : List (Nat × DieOp)) (s : State) :
    (∀ e, (l.foldl (failOp d) s).dsc.dieState e = s.dsc.dieState e) ∧
      ∀ o ∈ (l.foldl (failOp d) s).dsc.ops, o ∈ s.dsc.ops ∧ ∀ e ∈ l, o.1 ≠ e.1 := by
  induction l generalizing s with
  | nil => simp
  | cons a l ih =>
    obtain ⟨states, ops⟩ := ih (failOp d s a)
    refine ⟨fun e => (states e).trans (by rw [failOp_dsc, dropOp_states]), fun o ho => ?_⟩
    obtain ⟨mem, others⟩ := ops o ho
    rw [failOp_dsc, dropOp_ops, Tbl.del_eq_filter, List.mem_filter] at mem
    exact ⟨mem.1, List.forall_mem_cons.mpr ⟨fun h => by simp [h] at mem, others⟩⟩

theorem failOps_states (s : State) (d e : Nat) : (s.failOps d).dsc.dieState e = s.dsc.dieState e := by
  rw [failOps_eq]
  exact (failOp_fold_dsc d _ s).1 e

/-- No operation of the die is left. -/
theorem failOps_ops (s : State) (d : Nat) : ∀ o ∈ (s.failOps d).dsc.ops, o.2.req.die ≠ d := by
  rw [failOps_eq]
  intro o ho hd
  obtain ⟨mem, others⟩ := (failOp_fold_dsc d _ s).2 o ho
  exact others o (List.mem_filter.mpr ⟨mem, by simpa using hd⟩) rfl

theorem failXfers_fca (s : State) (d : Nat) : (s.failXfers d).fca = { s.fca with xfers := s.fca.xfers.filter fun x => x.op.req.die != d } := by
  have keeps : ∀ (l : List Xfer) (s : State), (l.foldl (fun s x => s.returnFail s.dsc.nextOp x.op) s).fca = s.fca := by
    intro l
    induction l with
    | nil => exact fun _ => rfl
    | cons x l ih => exact fun s => (ih _).trans (by simp)
  exact keeps _ _

theorem failXfers_media (s : State) (d : Nat) : SameMedia s (s.failXfers d) := by
  have gone : SameMedia s (s.modFca fun f => { f with xfers := f.xfers.filter fun x => x.op.req.die != d }) := ⟨rfl, rfl, rfl⟩
  exact gone.trans (SameMedia.foldl _ _ _ fun t x => returnFail_media t _ x.op)

/-! ## Its blocks retire -/

/-- The map and the pages on NAND are the same, and what was retired still is. -/
structure Retiring (s t : State) : Prop where
  map : t.mxe.map = s.mxe.map
  nand : t.mxe.nand = s.mxe.nand
  grows : ∀ k, Tbl.has s.mxe.retired k = true → Tbl.has t.mxe.retired k = true

theorem Retiring.refl (s : State) : Retiring s s := ⟨rfl, rfl, fun _ => id⟩

theorem Retiring.trans {s t u : State} (h : Retiring s t) (k : Retiring t u) : Retiring s u :=
  ⟨k.map.trans h.map, k.nand.trans h.nand, fun b hb => k.grows b (h.grows b hb)⟩

theorem Retiring.ofSame {s t : State} (h : SameMedia s t) : Retiring s t := ⟨h.map, h.nand, fun k hk => by rwa [h.retired]⟩

theorem spareEvents_media (s : State) : SameMedia s s.spareEvents := by
  have map := congrArg Mxe.map s.spareEvents_mxe
  have nand := congrArg Mxe.nand s.spareEvents_mxe
  have retired := congrArg Mxe.retired s.spareEvents_mxe
  exact ⟨map, nand, retired⟩

/-- A block enters the retirement log. -/
def logRetired (d sb cause psn : Nat) (s : State) : State :=
  s.modMxe fun m => { m with
    retired := Tbl.put m.retired (blkKey d sb) cause
    retLog := { die := d, block := sb, cause := cause, psn := psn, time := s.tbu.fleet.toNat } :: m.retLog
    spare := m.spare - 1 }

theorem logRetired_retires (s : State) (d sb cause psn : Nat) :
    Retiring s (s.logRetired d sb cause psn) ∧ Tbl.has (s.logRetired d sb cause psn).mxe.retired (blkKey d sb) = true := by
  have same : Tbl.has (s.logRetired d sb cause psn).mxe.retired (blkKey d sb) = true := by
    simp [logRetired, Tbl.has, Tbl.find?_put_same]
  refine ⟨⟨rfl, rfl, fun k hk => ?_⟩, same⟩
  by_cases h : k = blkKey d sb
  · rw [h]; exact same
  · simpa [logRetired, Tbl.has, Tbl.find?_put_other _ _ h] using hk

/-- A block retires, once. -/
theorem retireBlock_retires (s : State) (d sb cause psn : Nat) :
    Retiring s (s.retireBlock d sb cause psn) ∧ Tbl.has (s.retireBlock d sb cause psn).mxe.retired (blkKey d sb) = true := by
  unfold retireBlock
  split
  next retired => exact ⟨.refl s, retired⟩
  · obtain ⟨logged, now⟩ := s.logRetired_retires d sb cause psn
    have told : ∀ u : State, SameMedia u ((u.trigger 0x09 UnitNo.mxe 0 (mediaArg d (sb * u.fca.planes) 0 0 0 1)).spareEvents) := fun u =>
      (SameMedia.ofEq (by simp)).trans (spareEvents_media _)
    have after := Retiring.ofSame (told (s.logRetired d sb cause psn))
    exact ⟨logged.trans after, after.grows _ now⟩

theorem retireAll_retires (d : Nat) (l : List Nat) (s : State) :
    Retiring s (l.foldl (fun s b => s.retireBlock d b causeDie 0) s) ∧
      ∀ b ∈ l, Tbl.has (l.foldl (fun s b => s.retireBlock d b causeDie 0) s).mxe.retired (blkKey d b) = true := by
  induction l generalizing s with
  | nil => exact ⟨.refl s, by simp⟩
  | cons a l ih =>
    obtain ⟨first, now⟩ := s.retireBlock_retires d a causeDie 0
    obtain ⟨rest, later⟩ := ih (s.retireBlock d a causeDie 0)
    exact ⟨first.trans rest, List.forall_mem_cons.mpr ⟨rest.grows _ now, later⟩⟩

/-! ## DIE_OFFLINE -/

/-- A die that fails: its state, its operations and its reads in transfer. -/
def failDie (d : Nat) (s : State) : State := ((s.modDie d fun x => { x with state := .offline }).failOps d).failXfers d

/-- A die joins the failed set. -/
def listFailed (d : Nat) (s : State) : State :=
  (s.trigger 0x0C UnitNo.dsc d (dieArg d (chOf d) 0)).modSpe fun p =>
    { p with failed := if p.failed.contains d then p.failed else p.failed ++ [d], rbPhase2 := false }

/-- What the loss of a die does to the rebuild, to erasing bands and to the journals. -/
def leaveDie (d : Nat) (s : State) : State :=
  let s := s.joinRebuild d
  let s := (s.mxe.bands.filter fun e => e.2.erasing.contains d).foldl (fun s e => s.memberErased e.1 d) s
  ((s.sjLose (s.spe.dieA == d) (s.spe.dieB == d) false).modMxe fun m => m.journalLose (m.jDieA == d) (m.jDieB == d)).failedHealth

theorem takeOffline_eq (s : State) (d : Nat) (h : s.dsc.dieState d ≠ .offline) : s.takeOffline d = (((s.failDie d).listFailed d).retireDie d).leaveDie d := by
  unfold takeOffline
  rw [if_neg h]
  rfl

theorem failDie_media (s : State) (d : Nat) : SameMedia s (s.failDie d) := by
  have marked : SameMedia s (s.modDie d fun x => { x with state := .offline }) := .ofEq (by simp)
  exact (marked.trans (failOps_media _ d)).trans (failXfers_media _ d)

theorem failDie_dsc (s : State) (d : Nat) : (s.failDie d).dsc = ((s.modDie d fun x => { x with state := .offline }).failOps d).dsc := by
  simp [failDie]

theorem failDie_fca (s : State) (d : Nat) : (s.failDie d).fca = { s.fca with xfers := s.fca.xfers.filter fun x => x.op.req.die != d } := by
  rw [failDie, failXfers_fca]
  simp

theorem failDie_state {s : State} {d : Nat} (h : s.dsc.dieState d ≠ .offline) : (s.failDie d).dsc.dieState d = .offline := by
  have listed := Dsc.find?_of_state (by rwa [Dsc.dieState_eq] at h)
  rw [failDie_dsc, failOps_states, Dsc.dieState_eq]
  exact congrArg Die.state (Dsc.die_modDie_same (fun x => { x with state := .offline }) listed)

theorem failDie_others (s : State) {d e : Nat} (h : e ≠ d) : (s.failDie d).dsc.dieState e = s.dsc.dieState e := by
  rw [failDie_dsc, failOps_states, Dsc.dieState_eq, Dsc.dieState_eq]
  exact congrArg Die.state (Dsc.die_modDie_other s.dsc (fun x => { x with state := .offline }) h)

theorem listFailed_media (s : State) (d : Nat) : SameMedia s (s.listFailed d) := .ofEq (by simp [listFailed])

theorem listFailed_failed (s : State) (d : Nat) : d ∈ (s.listFailed d).spe.failed := by
  unfold listFailed
  simp only [modSpe_spe]
  split
  next h => simpa using h
  · simp

theorem retireDie_retires (s : State) (d : Nat) :
    Retiring s (s.retireDie d) ∧ ∀ b, b < s.fca.part.blocks → Tbl.has (s.retireDie d).mxe.retired (blkKey d b) = true := by
  obtain ⟨retiring, all⟩ := retireAll_retires d (List.range s.fca.part.blocks) s
  exact ⟨retiring, fun b hb => all b (List.mem_range.mpr hb)⟩

theorem joinRebuild_failed (s : State) (d : Nat) : (s.joinRebuild d).spe.failed = s.spe.failed := by
  unfold joinRebuild
  split <;> rfl

theorem sjLose_failed (s : State) (a b c : Bool) : (s.sjLose a b c).spe.failed = s.spe.failed := by
  unfold sjLose
  dsimp only
  split
  · simp only [trigger_units]
    split
    · rfl
    · split <;> rfl
  · rfl

/-- The media, the dies, the transfers and the failed set are the same. -/
structure SameDies (s t : State) : Prop where
  media : SameMedia s t
  dsc : t.dsc = s.dsc
  fca : t.fca = s.fca
  failed : t.spe.failed = s.spe.failed

theorem SameDies.trans {s t u : State} (h : SameDies s t) (k : SameDies t u) : SameDies s u :=
  ⟨h.media.trans k.media, k.dsc.trans h.dsc, k.fca.trans h.fca, k.failed.trans h.failed⟩

theorem memberErased_fold_dies (d : Nat) (l : List (Nat × Band)) (s : State) : SameDies s (l.foldl (fun s e => s.memberErased e.1 d) s) := by
  induction l generalizing s with
  | nil => exact ⟨.refl s, rfl, rfl, rfl⟩
  | cons e l ih => exact SameDies.trans ⟨memberErased_media s e.1 d, by simp, by simp, by simp⟩ (ih _)

/-- Once a die has left, the dies, the transfers, the failed set and the media stay as they are. -/
theorem leaveDie_dies (s : State) (d : Nat) : SameDies s (s.leaveDie d) := by
  have rebuild : SameDies s (s.joinRebuild d) := ⟨.ofEq (by simp), by simp, by simp, joinRebuild_failed s d⟩
  have erased := rebuild.trans (memberErased_fold_dies d ((s.joinRebuild d).mxe.bands.filter fun e => e.2.erasing.contains d) _)
  have journals : ∀ u : State, SameDies u (((u.sjLose (u.spe.dieA == d) (u.spe.dieB == d) false).modMxe fun m =>
      m.journalLose (m.jDieA == d) (m.jDieB == d)).failedHealth) := fun u => by
    refine ⟨⟨?_, ?_, ?_⟩, by simp, by simp, ?_⟩
    · simp [Mxe.journalLose]
    · simp [Mxe.journalLose]
    · simp [Mxe.journalLose]
    · simp [sjLose_failed]
  exact erased.trans (journals _)

theorem exec_dieOffline {s : State} {d : Nat} (h : s.dsc.dieState d ≠ .offline) :
    exec (.dieOffline d) s = .next ((((s.failDie d).listFailed d).retireDie d).leaveDie d) :=
  congrArg Host.Outcome.next (takeOffline_eq s d h)

theorem exec_dieOffline_already {s : State} {d : Nat} (h : s.dsc.dieState d = .offline) : exec (.dieOffline d) s = .next s :=
  congrArg Host.Outcome.next (if_pos h)

theorem dieOffline_leaves {s : State} {d : Nat} (h : s.dsc.dieState d ≠ .offline) :
    ∃ t, exec (.dieOffline d) s = .next t ∧ t.dsc.dieState d = .offline ∧
      (∀ o ∈ t.dsc.ops, o.2.req.die ≠ d) ∧ (∀ x ∈ t.fca.xfers, x.op.req.die ≠ d) ∧ d ∈ t.spe.failed ∧ (∀ b, b < s.fca.part.blocks → Tbl.has t.mxe.retired (blkKey d b) = true) ∧
      (∀ e, e ≠ d → t.dsc.dieState e = s.dsc.dieState e) ∧ t.mxe.map = s.mxe.map ∧ t.mxe.nand = s.mxe.nand := by
  refine ⟨_, exec_dieOffline h, ?_⟩
  obtain ⟨retiring, blocks⟩ := ((s.failDie d).listFailed d).retireDie_retires d
  have left := (((s.failDie d).listFailed d).retireDie d).leaveDie_dies d
  have media := Retiring.trans (.ofSame ((failDie_media s d).trans (listFailed_media _ d))) retiring
  have dsc : ((((s.failDie d).listFailed d).retireDie d).leaveDie d).dsc = (s.failDie d).dsc := left.dsc.trans (by simp [listFailed])
  have fca : ((((s.failDie d).listFailed d).retireDie d).leaveDie d).fca = (s.failDie d).fca := left.fca.trans (by simp [listFailed])
  have part : ((s.failDie d).listFailed d).fca.part = s.fca.part := by
    have eq : ((s.failDie d).listFailed d).fca = (s.failDie d).fca := by simp [listFailed]
    rw [eq, failDie_fca]
  rw [dsc, fca, left.failed, left.media.map, left.media.nand, left.media.retired, failDie_fca]
  refine ⟨failDie_state h, ?_, ?_, ?_, fun b hb => blocks b (by rwa [part]), fun e he => failDie_others s he, media.map, media.nand⟩
  · rw [failDie_dsc]
    exact failOps_ops _ d
  · exact fun x hx => by simpa using (List.mem_filter.mp hx).2
  · simpa using listFailed_failed (s.failDie d) d

/-! ## DIE_REENABLE -/

/-- A die that returns: its state, the failed set and its blocks. -/
def returnDie (d : Nat) (s : State) : State :=
  ((s.modDie d fun x => { Die.initial with readyAt := s.now + 1, timeoutAt := x.timeoutAt }).modSpe fun p => { p with failed := p.failed.filter (· != d) }).modMxe
    fun m => { m with retired := m.retired.filter fun e => !(e.1 / 8192 == d && e.2 == causeDie) }

theorem exec_dieReenable_returns {s : State} {d : Nat} (listed : Tbl.has s.dsc.dies d = true) (offline : s.dsc.dieState d = .offline)
    (trained : ((Tbl.find? s.fca.chs (chOf d)).any Channel.trained) = true) :
    exec (.dieReenable d) s = .next ((((s.returnDie d).modMxe fun m => { m with spare := (s.returnDie d).spareNow }).spareEvents).failedHealth) :=
  congrArg Host.Outcome.next (if_pos ⟨listed, offline, trained⟩)

theorem dieReenable_returns {s : State} {d : Nat} (listed : Tbl.has s.dsc.dies d = true) (offline : s.dsc.dieState d = .offline)
    (trained : ((Tbl.find? s.fca.chs (chOf d)).any Channel.trained) = true) : ∃ t, exec (.dieReenable d) s = .next t ∧
      t.dsc.die d = { Die.initial with readyAt := s.now + 1, timeoutAt := (s.dsc.die d).timeoutAt } ∧ d ∉ t.spe.failed ∧ (∀ e ∈ t.mxe.retired, ¬(e.1 / 8192 = d ∧ e.2 = causeDie)) ∧
      t.mxe.map = s.mxe.map ∧ t.mxe.nand = s.mxe.nand := by
  obtain ⟨x, found⟩ := Tbl.find?_of_has listed
  refine ⟨_, exec_dieReenable_returns listed offline trained, ?_⟩
  have media := spareEvents_media ((s.returnDie d).modMxe fun m => { m with spare := (s.returnDie d).spareNow })
  simp only [failedHealth_units, spareEvents_units]
  rw [media.map, media.nand, media.retired]
  refine ⟨?_, ?_, ?_, rfl, rfl⟩
  · have die : s.dsc.die d = x := by simp [Dsc.die, Tbl.getD, found]
    rw [die]
    exact Dsc.die_modDie_same (fun x => { Die.initial with readyAt := s.now + 1, timeoutAt := x.timeoutAt }) found
  · exact fun h => by simpa using (List.mem_filter.mp h).2
  · exact fun e he ⟨hd, cause⟩ => by simpa [hd, cause] using (List.mem_filter.mp he).2

theorem exec_dieReenable_untrained {s : State} {d : Nat} (untrained : ((Tbl.find? s.fca.chs (chOf d)).any Channel.trained) = false) :
    exec (.dieReenable d) s = .next s :=
  congrArg Host.Outcome.next (if_neg fun h => by simp [untrained] at h)

end State

end Sys2Proof.Machine
end

section
/-! PROOFS. The token budget and the thermal step (spec/08, R125, R225, R227, R230 to R232, R240), and O46. -/

namespace Sys2Proof.Machine

theorem Tbl.find?_mapKeyed {α β : Type} (f : Nat → α → β) (t : List (Nat × α)) (k : Nat) :
    Tbl.find? (t.map fun e => (e.1, f e.1 e.2)) k = (Tbl.find? t k).map (f k) := by
  induction t with
  | nil => rfl
  | cons e t ih =>
    obtain ⟨j, v⟩ := e
    by_cases h : k = j
    · simp [Tbl.find?, h]
    · simp [Tbl.find?, h, ih]

namespace State

/-! ## Objects in force -/

theorem obj_congr {s t : State} (sheet : t.sheet = s.sheet) (old : t.sheetOld = s.sheetOld) (o : Obj) (i j : Nat) : t.obj o i j = s.obj o i j := by
  simp only [obj, oldSheet, sheetVal, dflt, sheet, old]

theorem budgetOf_congr {s t : State} (sheet : t.sheet = s.sheet) (old : t.sheetOld = s.sheetOld) (ps : t.qen.ps = s.qen.ps) (st : Nat) :
    t.budgetOf st = s.budgetOf st := by
  simp only [budgetOf, envelope, rsvCtrl, stepPct, obj_congr sheet old, ps]

/-! ## The commands of the interval end -/

theorem finish_fold_frame (l : List Nat) (w : State) :
    l.foldl (fun s c => s.finish c 0) w = { w with qen := { w.qen with ctxs := (l.foldl (fun s c => s.finish c 0) w).qen.ctxs } } := by
  induction l generalizing w with
  | nil => rfl
  | cons c l ih => exact (ih (w.finish c 0)).trans rfl

/-- The context holds a command that has ended well. -/
def EndedWell (s : State) (c : Nat) : Prop := ∃ y, Tbl.find? s.qen.ctxs c = some y ∧ y.state = .ready ∧ y.status = 0

theorem finish_endedWell {s : State} {c : Nat} (h : Tbl.has s.qen.ctxs c = true) : (s.finish c 0).EndedWell c := by
  obtain ⟨x, hx⟩ := Tbl.find?_of_has h
  exact ⟨_, finish_ctx s c 0 x hx, rfl, rfl⟩

theorem EndedWell.finish {s : State} {c : Nat} (h : s.EndedWell c) (k : Nat) : (s.finish k 0).EndedWell c := by
  obtain ⟨y, hy, ready, good⟩ := h
  by_cases hk : c = k
  · subst hk
    exact finish_endedWell (by simp [Tbl.has, hy])
  · exact ⟨y, by simpa [State.finish, modCtx, Qen.modCtx, Tbl.find?_adjust_other _ _ hk] using hy, ready, good⟩

theorem finish_fold_endedWell {c : Nat} (l : List Nat) (w : State) (h : w.EndedWell c ∨ (c ∈ l ∧ Tbl.has w.qen.ctxs c = true)) :
    (l.foldl (fun s c => s.finish c 0) w).EndedWell c := by
  induction l generalizing w with
  | nil => simpa using h
  | cons k l ih =>
    refine ih (w.finish k 0) ?_
    obtain well | ⟨mem, listed⟩ := h
    · exact .inl (well.finish k)
    · have still : Tbl.has (w.finish k 0).qen.ctxs c = true := ((modCtx_same w k _).has c).trans listed
      obtain rfl | mem := List.mem_cons.mp mem
      · exact .inl (finish_endedWell listed)
      · exact .inr ⟨mem, still⟩

/-! ## REBUDGET -/

/-- A decided step that is due takes effect (R232). -/
def stepped (s : State) : State :=
  match s.dsc.decided with
  | some st => if s.dsc.decideTick.toNat < s.now.toNat then s.applyStep st else s
  | none => s

/-- The budget of the next interval, and the commands that wait for the power state's completion. -/
def newBudget (s : State) : State :=
  let b := s.budgetOf s.dsc.step
  let s := if b < s.dsc.held ∧ b < s.dsc.budget then s.flag Fld.DSC_BUDGET_EVT.OVER 0 1 else s
  (s.modDsc fun d => { d with budget := b, chBytes := s.chCap + min 0 d.chBytes }).modTimers fun t => { t with rebudget := s.now }

/-- The power state's commands complete. -/
def postPs (l : List Nat) (s : State) : State := (l.foldl (fun s c => s.finish c 0) s).modQen fun q => { q with psPost := [] }

/-- The end of an interval, from the state in which the new budget is counted. -/
def endInterval (u : State) : State := u.newBudget.postPs u.newBudget.qen.psPost

theorem exec_rebudget {s : State} (due : s.now.toNat % 8000 = 0) : exec .rebudget s = .next s.dueObjects.opsRebudget.stepped.endInterval := by
  change execRebudget s = _
  unfold execRebudget
  rw [if_pos due]
  rfl

theorem exec_rebudget_between {s : State} (h : s.now.toNat % 8000 ≠ 0) : exec .rebudget s = .next s := if_neg h

theorem newBudget_frame (u : State) : u.newBudget = { u with
    timers := { u.timers with rebudget := u.now }, regf := u.newBudget.regf
    dsc := { u.dsc with budget := u.budgetOf u.dsc.step, chBytes := u.newBudget.dsc.chBytes } } := by
  unfold newBudget
  dsimp only
  split <;> rfl

theorem postPs_frame (l : List Nat) (u : State) : u.postPs l = { u with qen := { u.qen with ctxs := (u.postPs l).qen.ctxs, psPost := [] } } := by
  unfold postPs
  rw [finish_fold_frame]
  rfl

theorem endInterval_frame (u : State) : u.endInterval = { u with
    timers := { u.timers with rebudget := u.now }, regf := u.endInterval.regf, qen := { u.qen with ctxs := u.endInterval.qen.ctxs, psPost := [] }
    dsc := { u.dsc with budget := u.budgetOf u.dsc.step, chBytes := u.endInterval.dsc.chBytes } } := by
  unfold endInterval
  rw [postPs_frame, newBudget_frame]

theorem endInterval_posts {u : State} {c : Nat} (posted : c ∈ u.qen.psPost) (listed : Tbl.has u.qen.ctxs c = true) : u.endInterval.EndedWell c := by
  have qen := congrArg State.qen u.newBudget_frame
  exact finish_fold_endedWell _ _ (.inr ⟨by rwa [qen], by rwa [qen]⟩)

theorem opsRebudget_op {s : State} {i : Nat} {o : DieOp} (h : Tbl.find? s.dsc.ops i = some o) : ∃ p, Tbl.find? s.opsRebudget.dsc.ops i = some p ∧
    p.cost = (if (s.dsc.die o.req.die).active = some i then o.cost else s.opCost o.req.kind o.req.planes) ∧ o.ageUs ≤ p.ageUs ∧ o.suspLim ≤ p.suspLim := by
  have mapped := Tbl.find?_mapKeyed (fun k (o : DieOp) => { o with
    cost := if (s.dsc.die o.req.die).active = some k then o.cost else s.opCost o.req.kind o.req.planes
    ageUs := max o.ageUs (((s.ageLimit o.eff).map Prod.fst).getD 0), suspLim := max o.suspLim (s.suspLimit o.req.kind) }) s.dsc.ops i
  rw [h] at mapped
  exact ⟨_, mapped, rfl, le_max_left _ _, le_max_left _ _⟩

/-! ## A step that takes effect -/

/-- A step that takes effect leaves the contexts in use, the operations, the objects and the other units (R232). -/
structure StepKeeps (s t : State) : Prop where
  ctxs : SameCtxs s t
  ops : t.dsc.ops = s.dsc.ops
  sheet : t.sheet = s.sheet
  sheetOld : t.sheetOld = s.sheetOld
  timers : t.timers = s.timers
  tbu : t.tbu = s.tbu
  mxe : t.mxe = s.mxe
  fca : t.fca = s.fca
  power : t.power = s.power

/-- The step is in force, and no step is decided. -/
def setStep (st : Nat) (s : State) : State :=
  s.modDsc fun d => { d with
    step := st, decided := none, stepCount1 := d.stepCount1 + (if st = 1 ∧ d.step ≠ 1 then 1 else 0), stepCount2 := d.stepCount2 + (if st = 2 ∧ d.step ≠ 2 then 1 else 0) }

/-- A step that begins is flagged. -/
def flagStep (st old : Nat) (s : State) : State :=
  if st = 1 ∧ old ≠ 1 then s.flag Fld.DSC_BUDGET_EVT.STEP1 0 1 else if st = 2 ∧ old ≠ 2 then s.flag Fld.DSC_BUDGET_EVT.STEP2 0 1 else s

theorem applyStep_eq (s : State) (st : Nat) : s.applyStep st =
    (((s.setStep st).flagStep st s.dsc.step).trigger 0x0D UnitNo.dsc 0 0).healthLevel Health.thermal UnitNo.dsc (st != 0) := rfl

theorem flagStep_eq (s : State) (st old : Nat) : s.flagStep st old = { s with regf := (s.flagStep st old).regf } := by
  unfold flagStep
  split
  · rfl
  · split <;> rfl

theorem applyStep_dsc (s : State) (st : Nat) : (s.applyStep st).dsc = (s.setStep st).dsc := by
  rw [applyStep_eq, flagStep_eq]
  simp

theorem applyStep_keeps (s : State) (st : Nat) : StepKeeps s (s.applyStep st) := by
  have flagged : SameCtxs s (((s.setStep st).flagStep st s.dsc.step).trigger 0x0D UnitNo.dsc 0 0) := by
    rw [flagStep_eq]
    exact .ofEq (by simp [setStep]) (by simp [setStep])
  refine ⟨?_, ?_, by simp, by simp, by simp, by simp, by simp, by simp, by simp⟩
  · rw [applyStep_eq]
    exact flagged.trans (healthLevel_same _ _ _ _)
  · rw [applyStep_dsc]
    rfl

theorem stepped_keeps (s : State) : StepKeeps s s.stepped := by
  have same : StepKeeps s s := ⟨.refl s, rfl, rfl, rfl, rfl, rfl, rfl, rfl, rfl⟩
  unfold stepped
  split
  · split
    · exact applyStep_keeps _ _
    · exact same
  · exact same

theorem stepped_waits {s : State} (h : s.dsc.decided = none ∨ s.now.toNat ≤ s.dsc.decideTick.toNat) : s.stepped = s := by
  unfold stepped
  split
  next st decided => exact if_neg (Nat.not_lt.mpr (h.resolve_left (by simp [decided])))
  · rfl

theorem stepped_applies {s : State} {st : Nat} (decided : s.dsc.decided = some st) (due : s.dsc.decideTick.toNat < s.now.toNat) :
    s.stepped = s.applyStep st := by
  unfold stepped
  rw [decided]
  exact if_pos due

/-! ## The next interval -/

/-- The state after a re-budget. -/
def nextInterval (s : State) : State := s.dueObjects.opsRebudget.stepped.endInterval

section
variable (s : State)

theorem nextInterval_timers : s.nextInterval.timers = { s.timers with rebudget := s.now } := by
  have keeps := s.dueObjects.opsRebudget.stepped_keeps
  have timers := congrArg State.timers s.dueObjects.opsRebudget.stepped.endInterval_frame
  have now : s.dueObjects.opsRebudget.stepped.now = s.now := congrArg Tbu.tick keeps.tbu
  exact timers.trans (by rw [keeps.timers, now]; rfl)

theorem nextInterval_psPost : s.nextInterval.qen.psPost = [] := congrArg (fun t => t.qen.psPost) s.dueObjects.opsRebudget.stepped.endInterval_frame

/-- The media, the channels and the power state are not the re-budget's. -/
theorem nextInterval_units : s.nextInterval.mxe = s.mxe ∧ s.nextInterval.fca = s.fca ∧ s.nextInterval.power = s.power := by
  have keeps := s.dueObjects.opsRebudget.stepped_keeps
  have frame := s.dueObjects.opsRebudget.stepped.endInterval_frame
  have mxe := congrArg State.mxe frame
  have fca := congrArg State.fca frame
  have power := congrArg State.power frame
  exact ⟨mxe.trans keeps.mxe, fca.trans keeps.fca, power.trans keeps.power⟩

theorem nextInterval_ops : s.nextInterval.dsc.ops = s.dueObjects.opsRebudget.dsc.ops :=
  (congrArg (fun t => t.dsc.ops) s.dueObjects.opsRebudget.stepped.endInterval_frame).trans s.dueObjects.opsRebudget.stepped_keeps.ops

variable {s}

theorem nextInterval_posts {c : Nat} {x : Ctx} (posted : c ∈ s.qen.psPost) (h : Tbl.find? s.qen.ctxs c = some x) : s.nextInterval.EndedWell c := by
  have ctxs := s.dueObjects.opsRebudget.stepped_keeps.ctxs
  refine endInterval_posts ?_ ?_
  · rw [ctxs.qen]; exact posted
  · rw [ctxs.has]; simpa [Tbl.has, dueObjects, opsRebudget] using congrArg Option.isSome h

theorem nextInterval_op {i : Nat} {o : DieOp} (h : Tbl.find? s.dsc.ops i = some o) : ∃ p, Tbl.find? s.nextInterval.dsc.ops i = some p ∧
    p.cost = (if (s.dsc.die o.req.die).active = some i then o.cost else s.dueObjects.opCost o.req.kind o.req.planes) ∧ o.ageUs ≤ p.ageUs ∧ o.suspLim ≤ p.suspLim := by
  rw [nextInterval_ops]
  exact opsRebudget_op (s := s.dueObjects) h

theorem nextInterval_waits (h : s.dsc.decided = none ∨ s.now.toNat ≤ s.dsc.decideTick.toNat) :
    s.nextInterval = { s with
      timers := s.nextInterval.timers, sheetOld := s.dueObjects.sheetOld, regf := s.nextInterval.regf
      qen := { s.qen with ctxs := s.nextInterval.qen.ctxs, psPost := [] }
      dsc := { s.dsc with budget := s.dueObjects.budgetOf s.dsc.step, chBytes := s.nextInterval.dsc.chBytes, ops := s.nextInterval.dsc.ops } } := by
  have waits : s.dueObjects.opsRebudget.stepped = s.dueObjects.opsRebudget := stepped_waits h
  rw [nextInterval, waits, endInterval_frame]
  rfl

theorem nextInterval_applies {st : Nat} (h : s.dsc.decided = some st) (late : s.dsc.decideTick.toNat < s.now.toNat) :
    s.nextInterval.dsc.budget = s.dueObjects.budgetOf st ∧ s.nextInterval.dsc.step = st ∧ s.nextInterval.dsc.decided = none := by
  have applies : s.dueObjects.opsRebudget.stepped = s.dueObjects.opsRebudget.applyStep st := stepped_applies h late
  have keeps := s.dueObjects.opsRebudget.applyStep_keeps st
  have dsc := congrArg State.dsc (s.dueObjects.opsRebudget.applyStep st).endInterval_frame
  rw [nextInterval, applies, dsc, applyStep_dsc]
  exact ⟨budgetOf_congr keeps.sheet keeps.sheetOld (by rw [keeps.ctxs.qen]) st, rfl, rfl⟩

end

/-! ## JUNCTION_SENSOR_READ -/

/-- The step that a temperature asks for. -/
def askedStep (s : State) (t : Int) : Nat := if s.stepC 2 ≤ t then 2 else if s.stepC 1 ≤ t then 1 else 0

/-- The temperature has been below a step's threshold: the step ends after 10 ms. -/
def coolDown (t : Int) (s : State) : State :=
  match s.dsc.belowSince with
  | some b =>
    if s.passed b (msTicks 10) ∧ s.passed s.dsc.decideTick (msTicks 10) then
      s.modDsc fun d => { d with
        decided := some (s.dsc.target - 1), decideTick := s.now
        belowSince := if t < s.stepC (s.dsc.target - 1) - s.obj Ob.STEP_HYST_C then some s.now else none }
    else s
  | none => s.modDsc fun d => { d with belowSince := some s.now }

theorem decideStep_eq (t : Int) (s : State) : s.decideStep t =
    if s.dsc.target < s.askedStep t then s.modDsc fun d => { d with decided := some (s.askedStep t), decideTick := s.now, belowSince := none }
    else if 0 < s.dsc.target ∧ t < s.stepC s.dsc.target - s.obj Ob.STEP_HYST_C then s.coolDown t
    else s.modDsc fun d => { d with belowSince := none } := rfl

section
variable {s : State} {t : Int}

theorem askedStep_two (hot : s.stepC 2 ≤ t) : s.askedStep t = 2 := if_pos hot

theorem askedStep_one (hot : s.stepC 1 ≤ t) (mild : t < s.stepC 2) : s.askedStep t = 1 := (if_neg (not_le.mpr mild)).trans (if_pos hot)

theorem askedStep_none (cool : t < s.stepC 1) (mild : t < s.stepC 2) : s.askedStep t = 0 := (if_neg (not_le.mpr mild)).trans (if_neg (not_le.mpr cool))

end

theorem decideStep_frame (t : Int) (u : State) : u.decideStep t = { u with dsc := { u.dsc with
    decided := (u.decideStep t).dsc.decided, decideTick := (u.decideStep t).dsc.decideTick, belowSince := (u.decideStep t).dsc.belowSince } } := by
  rw [decideStep_eq]
  split
  · rfl
  split
  · unfold coolDown
    split
    · split <;> rfl
    · rfl
  · rfl

theorem decideStep_raises {t : Int} {u : State} (h : u.dsc.target < u.askedStep t) :
    (u.decideStep t).dsc.decided = some (u.askedStep t) ∧ (u.decideStep t).dsc.decideTick = u.now := by
  rw [decideStep_eq, if_pos h]
  exact ⟨rfl, rfl⟩

theorem decideStep_stays {t : Int} {u : State} (h : u.dsc.target = 0) (cool : u.askedStep t = 0) : (u.decideStep t).dsc.decided = u.dsc.decided := by
  rw [decideStep_eq, if_neg (by rw [h]; exact Nat.not_lt.mpr (Nat.le_of_eq cool)), if_neg (by rw [h]; exact fun k => Nat.lt_irrefl 0 k.1)]
  rfl

theorem decideStep_lowers {t : Int} {u : State} {b : Dword} (h : u.dsc.target = 1) (cool : u.askedStep t = 0) (below : t < u.stepC 1 - u.obj Ob.STEP_HYST_C)
    (since : u.dsc.belowSince = some b) (long : u.passed b (msTicks 10) = true) (late : u.passed u.dsc.decideTick (msTicks 10) = true) :
    (u.decideStep t).dsc.decided = some 0 ∧ (u.decideStep t).dsc.decideTick = u.now := by
  have noRise : ¬ u.dsc.target < u.askedStep t := by rw [h, cool]; decide
  rw [decideStep_eq, if_neg noRise, if_pos (by rw [h]; exact ⟨Nat.one_pos, below⟩)]
  unfold coolDown
  rw [since, h]
  dsimp only
  rw [if_pos ⟨long, late⟩]
  exact ⟨rfl, rfl⟩

/-- The last 8 readings of each sensor. -/
def readings (s : State) (temps : List Int) : List (List Int) := (List.range 8).map fun i => (temps.getD i 0 :: s.dsc.sensors.getD i []).take 8

/-- The highest of the averages. -/
def hottest (hist : List (List Int)) : Int := (hist.map meanOf).foldl max (meanOf (hist.getD 0 []))

theorem hottest_spec {hist : List (List Int)} (h : hist ≠ []) :
    (∀ x ∈ hist, meanOf x ≤ hottest hist) ∧ ∃ x ∈ hist, meanOf x = hottest hist := by
  obtain ⟨a, l, rfl⟩ := List.exists_cons_of_ne_nil h
  have top : (meanOf a :: (a :: l).map meanOf).max? = some (hottest (a :: l)) := List.max?_cons'
  obtain ⟨mem, bound⟩ := List.max?_eq_some_iff.mp top
  refine ⟨fun x hx => bound _ (List.mem_cons_of_mem _ (List.mem_map_of_mem hx)), ?_⟩
  obtain eq | mem := List.mem_cons.mp mem
  · exact ⟨a, List.mem_cons_self, eq.symm⟩
  · exact List.mem_map.mp mem

/-- The state once the sensors are read, before a step is decided. -/
def sensed (s : State) (next : Dword) (cool : Option Dword) (hist : List (List Int)) (j : Int) : State :=
  { s with timers := { s.timers with sensors := next }, power := { s.power with coolSince := cool }, dsc := { s.dsc with sensors := hist, tj := j } }

section
variable (s : State) (next : Dword) (cool : Option Dword) (hist : List (List Int)) (j : Int)

theorem obj_sensed (o : Obj) (i k : Nat) : (s.sensed next cool hist j).obj o i k = s.obj o i k := obj_congr rfl rfl o i k

theorem stepC_sensed (st : Nat) : (s.sensed next cool hist j).stepC st = s.stepC st := by
  have qen : (s.sensed next cool hist j).qen = s.qen := rfl
  simp only [stepC, objI, obj_sensed, qen]

theorem askedStep_sensed (t : Int) : (s.sensed next cool hist j).askedStep t = s.askedStep t := by
  simp only [askedStep, stepC_sensed]

/-- The state after a reading of the sensors. -/
def sensorsRead : State := (s.sensed next cool hist j).decideStep j

theorem sensorsRead_frame : s.sensorsRead next cool hist j = { s with
    timers := { s.timers with sensors := next }, power := { s.power with coolSince := cool }
    dsc := { s.dsc with
      sensors := hist, tj := j, decided := (s.sensorsRead next cool hist j).dsc.decided
      decideTick := (s.sensorsRead next cool hist j).dsc.decideTick, belowSince := (s.sensorsRead next cool hist j).dsc.belowSince } } :=
  decideStep_frame j (s.sensed next cool hist j)

variable {j}

theorem sensorsRead_raises {st : Nat} (asked : s.askedStep j = st) (h : s.dsc.target < st) :
    (s.sensorsRead next cool hist j).dsc.decided = some st ∧ (s.sensorsRead next cool hist j).dsc.decideTick = s.now := by
  have raised := decideStep_raises (u := s.sensed next cool hist j) (t := j) (by rw [askedStep_sensed, asked]; exact h)
  rwa [askedStep_sensed, asked] at raised

theorem sensorsRead_stays (h : s.dsc.target = 0) (mild : s.askedStep j = 0) : (s.sensorsRead next cool hist j).dsc.decided = s.dsc.decided :=
  decideStep_stays (u := s.sensed next cool hist j) h (by rwa [askedStep_sensed])

theorem sensorsRead_lowers {b : Dword} (h : s.dsc.target = 1) (mild : s.askedStep j = 0) (below : j < s.stepC 1 - s.obj Ob.STEP_HYST_C)
    (since : s.dsc.belowSince = some b) (long : s.passed b (msTicks 10) = true) (late : s.passed s.dsc.decideTick (msTicks 10) = true) :
    (s.sensorsRead next cool hist j).dsc.decided = some 0 ∧ (s.sensorsRead next cool hist j).dsc.decideTick = s.now :=
  decideStep_lowers (u := s.sensed next cool hist j) h (by rwa [askedStep_sensed]) (by rwa [stepC_sensed, obj_sensed]) since long late

end

theorem exec_junctionSensorRead {s : State} {temps : List Int} (due : s.passed s.timers.sensors (usTicks 100) = true) :
    exec (.junctionSensorRead temps) s = .next (s.sensorsRead (s.timers.sensors + 80000)
      (if (List.range 8).all (fun i => decide (temps.getD i 0 < 110)) then some (s.power.coolSince.getD s.now) else none)
      (s.readings temps) (hottest (s.readings temps))) := by
  change execJunctionSensorRead temps s = _
  unfold execJunctionSensorRead
  rw [due]
  rfl

end State

/-- Settles O46: suspends and resumes, dies that leave and return, the end of an interval, and the sensors. -/
theorem diesSuspendLeaveAndKeepTheBudget : Obligations.DiesSuspendLeaveAndKeepTheBudget := by
  unfold Obligations.DiesSuspendLeaveAndKeepTheBudget
  refine ⟨fun s d i o running busy pe reader ready noGap => ?_, fun s d i o held found suspended idle done => State.resumeSubmit_resumes held found suspended idle done,
    fun s d => ⟨State.exec_dieOffline_already, fun h _ => State.dieOffline_leaves h, State.dieReenable_returns, State.exec_dieReenable_untrained⟩,
    fun s due => ?_, fun s h => State.exec_rebudget_between h, fun s temps due => ?_⟩
  · have due : s.SuspendDue d i o := ⟨running, busy, pe, reader, ready, noGap⟩
    exact ⟨State.suspendIssue_suspends due, State.suspendIssue_denied due⟩
  · refine ⟨s.nextInterval, State.exec_rebudget due, s.nextInterval_timers, s.nextInterval_psPost, fun c hc x hx => State.nextInterval_posts hc hx,
      fun i o h => State.nextInterval_op h, fun h => ?_, fun st h late => State.nextInterval_applies h late, s.nextInterval_units⟩
    have frame := State.nextInterval_waits h
    have budget := congrArg (fun t => t.dsc.budget) frame
    have step := congrArg (fun t => t.dsc.step) frame
    exact ⟨budget, step, by rw [budget]; exact frame⟩
  · have run := State.exec_junctionSensorRead due (temps := temps)
    obtain ⟨bound, attained⟩ := State.hottest_spec (hist := s.readings temps) (by simp [State.readings])
    generalize s.timers.sensors + 80000 = next at run ⊢
    generalize (if (List.range 8).all (fun i => decide (temps.getD i 0 < 110)) then some (s.power.coolSince.getD s.now) else none) = cool at run ⊢
    change ∃ t : State, _ ∧ _ ∧ t.dsc.sensors = s.readings temps ∧ _
    generalize s.readings temps = hist at run bound attained ⊢
    generalize State.hottest hist = j at run bound attained ⊢
    have frame := s.sensorsRead_frame next cool hist j
    have sensors : (s.sensorsRead next cool hist j).dsc.sensors = hist := congrArg (fun t => t.dsc.sensors) frame
    have tj : (s.sensorsRead next cool hist j).dsc.tj = j := congrArg (fun t => t.dsc.tj) frame
    have timers := congrArg State.timers frame
    have power := congrArg State.power frame
    refine ⟨_, run, timers, sensors, ?_⟩
    rw [sensors, tj]
    refine ⟨bound, attained, congrArg Power.coolSince power, fun cur hot => State.sensorsRead_raises s next _ hist (State.askedStep_two hot) cur,
      fun cur hot mild => State.sensorsRead_raises s next _ hist (State.askedStep_one hot mild) (by rw [cur]; exact Nat.one_pos),
      fun cur cool mild => State.sensorsRead_stays s next _ hist cur (State.askedStep_none cool mild),
      fun b cur below cool mild since long late => State.sensorsRead_lowers s next _ hist cur (State.askedStep_none cool mild) below since long late, ?_⟩
    rw [timers, power]
    exact frame

end Sys2Proof.Machine
end

section
/-! PROOFS. What the host link's shared operations do (R26, R80, R83, Table 3.4): the arrival of a TLP, an error logged under AER, the completion of a request without data, and a link error of a read, and a Gallery error (R163, R164); what each says of the outputs, the link and the counters, and what it leaves. -/

namespace Sys2Proof.Machine

namespace State

/-! ## Arrivals (R26, R80) -/

section
variable (s : State) (n : Nat)

@[simp] theorem tags_arrive : (s.arrive n).hlu.tags = s.hlu.tags := rfl
@[simp] theorem freedTags_arrive : (s.arrive n).hlu.freedTags = s.hlu.freedTags := rfl
@[simp] theorem qen_arrive : (s.arrive n).qen = s.qen := rfl
@[simp] theorem gal_arrive : (s.arrive n).gal = s.gal := rfl
@[simp] theorem mps_arrive : (s.arrive n).hlu.mps = s.hlu.mps := rfl
@[simp] theorem out_arrive : (s.arrive n).out = s.out := rfl

/-- R80: a TLP that arrives while L1 entry is in progress aborts the entry. -/
theorem arrive_abortsL1Entry {s : State} (h : s.hlu.power = .toL1 ∨ s.hlu.power = .toL11 ∨ s.hlu.power = .toL12) : (s.arrive n).hlu.power = .l0 := by
  rcases h with h | h | h <;> simp [arrive, LinkPower.onTlp, h]

end

/-! ## Errors under AER (R83) -/

section
variable (s : State) (e : AerError)

@[simp] theorem fld_modHlu (s : State) (h : Hlu → Hlu) (f : Field) (i : Nat) : (s.modHlu h).fld f i = s.fld f i := rfl
@[simp] theorem fld_modGal (s : State) (g : Gal → Gal) (f : Field) (i : Nat) : (s.modGal g).fld f i = s.fld f i := rfl

theorem aerLog_out : (s.aerLog e).out = .aer e e.severity :: s.out := by
  cases e <;> simp [aerLog, AerError.severity]

theorem aerLog_hlu : (s.aerLog e).hlu = { s.hlu with aer := e :: s.hlu.aer } := by
  cases e <;> simp [aerLog, AerError.severity]

theorem eq_of_aerLog : s.aerLog e = { s with out := (s.aerLog e).out, hlu := (s.aerLog e).hlu, regf := (s.aerLog e).regf, cru := (s.aerLog e).cru } :=
  (aerLog_touch e s (m := 8388897) rfl (Touch.refl _ s)).eq_masked

/-- An advisory error is logged and signalled; the recorder does not see it. -/
theorem aerLog_advisory (h : e.severity = .advisory) :
    s.aerLog e = { s with out := .aer e .advisory :: s.out, hlu := { s.hlu with aer := e :: s.hlu.aer } } := by
  simp only [aerLog, h]
  rfl

variable {f : Field} {i : Nat}

theorem fld_aerLog (h : f.key i 0 ≠ Fld.CRU_TRIG_CNT.COUNT.key 0x04 0) (h' : f.key i 0 ≠ Fld.CRU_MISSED.COUNT.key 0 0) :
    (s.aerLog e).fld f i = s.fld f i := by
  cases e
  case unexpectedCompletion | advisory | correctable => rfl
  all_goals exact fld_trigger _ _ _ _ _ _ _ h h'

end

/-! ## Link errors of reads (R83, R98) -/

section
variable (s : State) (k : CplKind)

theorem eq_of_linkError : s.linkError k =
    { s with out := (s.linkError k).out, hlu := (s.linkError k).hlu, regf := (s.linkError k).regf, cru := (s.linkError k).cru } :=
  (linkError_touch k s (m := 8388897) rfl (Touch.refl _ s)).eq_masked

/-- A link error adds to the AER log and leaves the rest of the link. -/
theorem linkError_hlu : (s.linkError k).hlu = { s.hlu with aer := (s.linkError k).hlu.aer } := by
  cases k
  case ok | ca => rfl
  case ur => exact (s.aerLog_hlu _).trans (by rw [linkError, aerLog_hlu])
  case poisoned => exact (s.aerLog_hlu _).trans (by rw [linkError, count, modRegf_hlu, aerLog_hlu])

/-- R83: poisoned data is logged and counted. -/
theorem linkError_poisoned_hlu : (s.linkError .poisoned).hlu = { s.hlu with aer := .poisoned :: s.hlu.aer } := s.aerLog_hlu .poisoned

theorem linkError_poisoned_out : (s.linkError .poisoned).out = .aer .poisoned .nonFatal :: s.out := s.aerLog_out .poisoned

theorem linkError_poisoned_count : (s.linkError .poisoned).fld Fld.HLU_POISON_CNT.INBOUND =
    min (2 ^ Fld.HLU_POISON_CNT.INBOUND.width - 1) (s.fld Fld.HLU_POISON_CNT.INBOUND + 1) := by
  rw [linkError, fld_count_same, fld_aerLog _ _ (by decide) (by decide)]

end

/-! ## A request that is discarded (Table 3.4) -/

/-- A request that is discarded with an error is logged; a non-posted one completes as Unsupported Request. -/
def discard (e : AerError) (np : Bool) (s : State) : State := if np then (s.aerLog e).complete .ur else s.aerLog e

section
variable (s : State) (e : AerError) (np : Bool)

theorem urTlp_eq_discard : s.urTlp np = s.discard .unsupported np := rfl

theorem discard_hlu : (s.discard e np).hlu = { s.hlu with aer := e :: s.hlu.aer } := by
  cases np
  case false => exact s.aerLog_hlu e
  case true => exact s.aerLog_hlu e

theorem discard_out : (s.discard e np).out = (if np then [.tlpCompletion .ur [] s.hlu.ecrcGen] else []) ++ .aer e e.severity :: s.out := by
  cases np
  case false => exact s.aerLog_out e
  case true =>
    have link := congrArg Hlu.ecrcGen (s.aerLog_hlu e)
    have log := s.aerLog_out e
    simp only [discard, complete, emit, link, log, if_true, List.cons_append, List.nil_append]

theorem eq_of_discard : s.discard e np = { s with
    out := (s.discard e np).out, hlu := (s.discard e np).hlu, regf := (s.discard e np).regf, cru := (s.discard e np).cru } := by
  have log := aerLog_touch e s (m := 8388897) rfl (Touch.refl _ s)
  cases np
  case false => exact log.eq_masked
  case true => exact (complete_touch .ur _ (m := 8388897) rfl log).eq_masked

/-- An advisory error leaves the counters and the recorder. -/
theorem discard_advisory (h : e.severity = .advisory) : s.discard e np = { s with
    out := (if np then [.tlpCompletion .ur [] s.hlu.ecrcGen] else []) ++ .aer e .advisory :: s.out, hlu := { s.hlu with aer := e :: s.hlu.aer } } := by
  cases np <;> simp only [discard, aerLog_advisory _ _ h] <;> rfl

end

/-! ## Gallery errors (R163, R164) -/

theorem galErrField_width (bit : Nat) : (galErrField bit).width = 1 := by
  unfold galErrField
  split <;> rfl

theorem galErrField_ne_recorder (bit : Nat) : (galErrField bit).key 0 0 ≠ Fld.CRU_TRIG_CNT.COUNT.key 0x07 0 ∧
    (galErrField bit).key 0 0 ≠ Fld.CRU_MISSED.COUNT.key 0 0 := by
  unfold galErrField
  split <;> decide

section
variable (s : State) (win : Option Nat) (bit : Nat)

theorem galError_gal : (s.galError win bit).gal = { s.gal with errNone := win.isNone, errWin := win.getD 0 } := by
  unfold galError
  split
  · exact trigger_gal _ _ _ _ _
  · rfl

theorem fld_galError_same : (s.galError win bit).fld (galErrField bit) = 1 := by
  have flagged := fld_flag_bit s (galErrField bit) 0 (galErrField_width bit)
  unfold galError
  split
  · exact (fld_trigger _ _ _ _ _ _ _ (galErrField_ne_recorder bit).1 (galErrField_ne_recorder bit).2).trans flagged
  · exact flagged

theorem fld_galError_other {f : Field} {i : Nat} (h : f.key i 0 ≠ (galErrField bit).key 0 0) (h' : f.key i 0 ≠ Fld.CRU_TRIG_CNT.COUNT.key 0x07 0)
    (h'' : f.key i 0 ≠ Fld.CRU_MISSED.COUNT.key 0 0) : (s.galError win bit).fld f i = s.fld f i := by
  have kept := fld_flag_other s f (galErrField bit) i 0 1 h
  unfold galError
  split
  · exact (fld_trigger _ _ _ _ _ _ _ h' h'').trans kept
  · exact kept

theorem eq_of_galError : s.galError win bit = { s with
    regf := (s.galError win bit).regf, gal := (s.galError win bit).gal, cru := (s.galError win bit).cru } :=
  (galError_touch win bit s (m := 8390688) rfl (Touch.refl _ s)).eq_masked

/-- NO_WIN is no bit of GAL_ERR_STS: the recorder does not see it. -/
theorem eq_of_galError_noWin : s.galError win 8 = { s with regf := (s.galError win 8).regf, gal := (s.galError win 8).gal } := rfl

theorem galRefuse_eq_discard (np : Bool) : s.galRefuse win bit np = (s.galError win bit).discard .advisory np := rfl

end

/-- A fault of a window is a fault of the Gallery and of nothing else. -/
theorem eq_of_galFault (s : State) (n : Nat) : s.galFault n = { s with gal := { s.gal with faults := (s.galFault n).gal.faults } } := rfl

end State

end Sys2Proof.Machine
end

section
/-! PROOFS. Tags and their completions (R73, R75, R76, R77, R83, R87): the branches of the rows that end a tag, what the end of a command does to the tags, and O7. -/

namespace Sys2Proof.Machine

/-! ## The tags of a command that has ended -/

/-- A tag whose command has ended: what its read returns is discarded. -/
def Tag.dropped (c : Nat) (g : Tag) : Tag :=
  match g.use with
  | .data c' off len => if c' = c then { g with use := .data 16384 off len } else g
  | .list c' len => if c' = c then { g with use := .list 16384 len } else g
  | .fetch _ _ | .ats _ _ => g

/-- The tag waits for data of a command: its transfer, or its PRP or SGL list. -/
def Tag.serves (g : Tag) (c : Nat) : Prop := (∃ off len, g.use = .data c off len) ∨ ∃ len, g.use = .list c len

theorem Tag.serves_of_use {g : Tag} {c off len : Nat} (h : g.use = .data c off len ∨ g.use = .list c len) : g.serves c :=
  h.imp (fun h => ⟨_, _, h⟩) fun h => ⟨_, h⟩

theorem Tag.dropped_keeps (c : Nat) (g : Tag) : (g.dropped c).phase = g.phase ∧ (g.dropped c).since = g.since := by
  unfold dropped
  split
  · split <;> exact ⟨rfl, rfl⟩
  · split <;> exact ⟨rfl, rfl⟩
  all_goals exact ⟨rfl, rfl⟩

theorem Hlu.dropDma_eq (h : Hlu) (c : Nat) : h.dropDma c =
    { h with dmaQueue := h.dmaQueue.filter fun d => d.c != c, tags := h.tags.map fun e => (e.1, e.2.dropped c) } := by
  have tag : ∀ e : Nat × Tag, (match e.2.use with
      | .data c' off len => if c' = c then (e.1, { e.2 with use := .data 16384 off len }) else e
      | .list c' len => if c' = c then (e.1, { e.2 with use := .list 16384 len }) else e
      | .fetch _ _ | .ats _ _ => e) = (e.1, e.2.dropped c) := by
    intro e
    unfold Tag.dropped
    split
    · split <;> rfl
    · split <;> rfl
    all_goals rfl
  simp only [dropDma]
  congr 1
  exact List.map_congr_left fun e _ => tag e

theorem Hlu.find?_dropDma_tags (h : Hlu) (c n : Nat) : Tbl.find? (h.dropDma c).tags n = (Tbl.find? h.tags n).map (Tag.dropped c) := by
  rw [dropDma_eq]
  exact Tbl.find?_map _ _ _

theorem Hlu.find?_mapTags (h : Hlu) (f : Tag → Tag) (n : Nat) : Tbl.find? (h.mapTags f).tags n = (Tbl.find? h.tags n).map f := Tbl.find?_map f _ _

namespace State

theorem find?_modCtx_same {s : State} {c : Nat} {x : Ctx} (f : Ctx → Ctx) (h : Tbl.find? s.qen.ctxs c = some x) :
    Tbl.find? (s.modCtx c f).qen.ctxs c = some (f x) := (Tbl.find?_adjust_same _ _ f).trans (congrArg _ h)

theorem failCmd_hlu {s : State} {c : Nat} (st : Nat) (h : Tbl.has s.qen.ctxs c = true) : (s.failCmd c st).hlu = s.hlu.dropDma c := by
  obtain ⟨x, hx⟩ := Tbl.find?_of_has h
  simp [failCmd, hx]

/-- What the end of a command leaves as it is. -/
theorem failCmd_keeps (s : State) (c st : Nat) :
    (s.failCmd c st).mxe = s.mxe ∧ (s.failCmd c st).tbu = s.tbu ∧ (s.failCmd c st).power = s.power := by
  have touch := failCmd_touch c st s (m := 13894433) rfl (Touch.refl _ s)
  exact ⟨touch.mxe rfl, touch.tbu rfl, touch.power rfl⟩

/-! ## COMPLETION_RECEIVED -/

/-- What a completion does to its outstanding tag and what that waited for, once it has arrived. -/
def endTag (n : Nat) (g : Tag) (k : CplKind) (data : BitVec 4096) (s : State) : State :=
  match g.use, k with
  | .data c off len, .ok => ((s.freeTag n).received len).dataArrives c off len data
  | .list c len, .ok => ((s.freeTag n).received len).listArrives c len data.toNat
  | .fetch key m, .ok => ((s.freeTag n).received (64 * m)).fetchArrives key m data.toNat
  | .data c _ _, k | .list c _, k => ((s.freeTag n).linkError k).failCmd c stDataTransfer
  | .fetch _ _, k => (s.freeTag n).linkError k
  | .ats p page, .ur | .ats p page, .ca => (s.freeTag n).reissueUntranslated g.fn p page
  | .ats _ _, .poisoned => (s.freeTag n).linkError .poisoned
  | .ats _ _, .ok => s

section
variable {s : State} {n c : Nat} {k : CplKind} {data : BitVec 4096} {g : Tag}

theorem exec_completionReceived (open_ : s.inboundHeld = false) (found : Tbl.find? s.hlu.tags n = some g) (waits : g.phase = .outstanding) :
    exec (.completionReceived n k data) s = .next ((s.arrive 0).endTag n g k data) := by
  change execCompletionReceived n k data s = _
  simp only [execCompletionReceived, open_, tags_arrive, found, waits, Bool.false_eq_true, if_false]
  unfold endTag
  cases g.use <;> cases k <;> rfl

theorem exec_completionReceived_unknown (open_ : s.inboundHeld = false) (found : Tbl.find? s.hlu.tags n = none) :
    exec (.completionReceived n k data) s = .next ((s.arrive 0).aerLog .unexpectedCompletion) := by
  change execCompletionReceived n k data s = _
  simp only [execCompletionReceived, open_, tags_arrive, found, Bool.false_eq_true, if_false]

theorem exec_completionReceived_held (open_ : s.inboundHeld = false) (found : Tbl.find? s.hlu.tags n = some g) (held : g.phase = .held) :
    exec (.completionReceived n k data) s = .next ((s.arrive 0).aerLog .unexpectedCompletion) := by
  change execCompletionReceived n k data s = _
  simp only [execCompletionReceived, open_, tags_arrive, found, held, Bool.false_eq_true, if_false]

theorem exec_completionReceived_quarantined (open_ : s.inboundHeld = false) (found : Tbl.find? s.hlu.tags n = some g) (quarantined : g.phase = .quarantined) :
    exec (.completionReceived n k data) s = .next ((s.arrive 0).freeTag n) := by
  change execCompletionReceived n k data s = _
  simp only [execCompletionReceived, open_, tags_arrive, found, quarantined, Bool.false_eq_true, if_false]

theorem endTag_failed (u : State) (serves : g.serves c) (bad : k ≠ .ok) :
    u.endTag n g k data = ((u.freeTag n).linkError k).failCmd c stDataTransfer := by
  rcases serves with ⟨off, len, use⟩ | ⟨len, use⟩
  all_goals
    cases k
    case ok => exact absurd rfl bad
    all_goals simp only [endTag, use]

theorem endTag_fetchFailed {q m : Nat} (u : State) (use : g.use = .fetch q m) (bad : k ≠ .ok) :
    u.endTag n g k data = (u.freeTag n).linkError k := by
  cases k
  case ok => exact absurd rfl bad
  all_goals simp only [endTag, use]

theorem endTag_noAccess {p : Option Nat} {page : Nat} (u : State) (use : g.use = .ats p page) (denied : k = .ur ∨ k = .ca) :
    u.endTag n g k data = (u.freeTag n).reissueUntranslated g.fn p page := by
  rcases denied with rfl | rfl <;> simp only [endTag, use]

theorem endTag_data {off len : Nat} (u : State) (use : g.use = .data c off len) :
    u.endTag n g .ok data = ((u.freeTag n).received len).dataArrives c off len data := by
  simp only [endTag, use]

theorem endTag_fetch {key m : Nat} (u : State) (use : g.use = .fetch key m) :
    u.endTag n g .ok data = ((u.freeTag n).received (64 * m)).fetchArrives key m data.toNat := by
  simp only [endTag, use]

end

/-! ## Data, and translations that give no access -/

/-- R73: data that does not end its transfer enters the buffers, and the command counts it. -/
theorem dataArrives_more {s : State} {c len : Nat} {x : Ctx} (off : Nat) (data : BitVec 4096) (found : Tbl.find? s.qen.ctxs c = some x)
    (waits : x.state = .dataIn) (more : x.dataIn + len ≠ x.bytes) : s.dataArrives c off len data =
      (s.modBpm fun b => b.sramWrite (stageAddr (b.piecesOf x.bufs x.bytes) off) (leBytes len data.toNat)).modCtx c fun y => { y with dataIn := y.dataIn + len } := by
  simp only [dataArrives, found, waits, if_true, if_neg more]

section
variable (s : State) (fn : Nat) (p : Option Nat) (page : Nat)

theorem reissueUntranslated_frame : s.reissueUntranslated fn p page = { s with
    hlu := { s.hlu with dmaQueue := (s.reissueUntranslated fn p page).hlu.dmaQueue }, qen := (s.reissueUntranslated fn p page).qen } := rfl

theorem length_reissueUntranslated : (s.reissueUntranslated fn p page).hlu.dmaQueue.length = s.hlu.dmaQueue.length := List.length_map _

/-- R77: what waits for the page goes untranslated; whether a read waits for a page does not depend on that. -/
theorem reissueUntranslated_waits : ∀ d ∈ (s.reissueUntranslated fn p page).hlu.dmaQueue, s.waitsPage fn p page d = true → d.untranslated = true := by
  intro d hd waits
  obtain ⟨e, -, rfl⟩ := List.mem_map.mp hd
  by_cases h : s.waitsPage fn p page e = true
  · rw [if_pos h]
  · rw [if_neg h] at waits
    exact absurd waits h

end

/-! ## COMPLETION_TIMEOUT and the two tag timers -/

/-- A tag whose completion has not come in time (R75). -/
def timeOut (n : Nat) (g : Tag) (s : State) : State :=
  ((s.aerLog .completionTimeout).count Fld.HLU_CPL_TO_CNT.COUNT 0 1).modHlu fun h => { h with tags := Tbl.put h.tags n { g with phase := .held, since := s.now } }

/-- A tag whose completion has not come, and the end of the commands that waited for it. -/
def endTimedOut (n : Nat) (g : Tag) (s : State) : State :=
  match g.use with
  | .data c _ _ | .list c _ => (s.timeOut n g).failCmd c stDataTransfer
  | .fetch _ _ => s.timeOut n g
  | .ats p page => ((s.timeOut n g).awaiting g.fn p page).foldl (fun s c => s.failCmd c stDataTransfer) (s.timeOut n g)

section
variable {s : State} {n c : Nat} {g : Tag} (found : Tbl.find? s.hlu.tags n = some g) (waits : g.phase = .outstanding)
  (timed : s.hlu.cplTimeoutUs ≠ 0) (late : s.passed g.since (usTicks s.hlu.cplTimeoutUs) = true)
include found waits timed late

theorem exec_completionTimeout : exec (.completionTimeout n) s = .next (s.endTimedOut n g) := by
  have now : ((s.aerLog .completionTimeout).count Fld.HLU_CPL_TO_CNT.COUNT 0 1).now = s.now := congrArg Tbu.tick (by simp)
  change execCompletionTimeout n s = _
  simp only [execCompletionTimeout, found, waits, timed, late, ne_eq, not_false_eq_true, and_self, if_true, now]
  obtain ⟨use⟩ := g
  cases use <;> rfl

theorem exec_completionTimeout_command (serves : g.serves c) :
    exec (.completionTimeout n) s = .next ((s.timeOut n g).failCmd c stDataTransfer) := by
  rw [exec_completionTimeout found waits timed late]
  rcases serves with ⟨off, len, use⟩ | ⟨len, use⟩ <;> simp only [endTimedOut, use]

theorem exec_completionTimeout_fetch {q m : Nat} (use : g.use = .fetch q m) : exec (.completionTimeout n) s = .next (s.timeOut n g) := by
  rw [exec_completionTimeout found waits timed late]
  simp only [endTimedOut, use]

end

section
variable (s : State) (n : Nat) (g : Tag)

theorem timeOut_hlu : (s.timeOut n g).hlu =
    { s.hlu with tags := Tbl.put s.hlu.tags n { g with phase := .held, since := s.now }, aer := .completionTimeout :: s.hlu.aer } := by
  have h := s.aerLog_hlu .completionTimeout
  simp only [timeOut, modHlu_hlu, count, modRegf_hlu, h]

theorem timeOut_count : (s.timeOut n g).fld Fld.HLU_CPL_TO_CNT.COUNT = min 0xFFFFFFFF (s.fld Fld.HLU_CPL_TO_CNT.COUNT + 1) := by
  rw [timeOut, fld_modHlu, fld_count_same, fld_aerLog _ _ (by decide) (by decide)]
  rfl

theorem eq_of_timeOut : s.timeOut n g = { s with
    out := (s.timeOut n g).out, regf := (s.timeOut n g).regf, hlu := (s.timeOut n g).hlu, cru := (s.timeOut n g).cru } :=
  (touch_modHlu (m := 8388897) _ rfl (touch_count _ _ _ rfl (aerLog_touch _ _ rfl (Touch.refl _ s)))).eq_masked

end

/-! ## The rows, as O7 states them -/

section
variable {s : State} {n c : Nat} {k : CplKind} {data : BitVec 4096} {g : Tag}

/-- R73, R83: a completion without good data ends the command that waited for it. -/
theorem completionReceived_endsCommand (open_ : s.inboundHeld = false) (found : Tbl.find? s.hlu.tags n = some g) (waits : g.phase = .outstanding)
    (serves : g.serves c) (bad : k ≠ .ok) (has : Tbl.has s.qen.ctxs c = true) :
    ∃ t, exec (.completionReceived n k data) s = .next t ∧ t.ended c stDataTransfer ∧ Tbl.find? t.hlu.tags n = none ∧ t.hlu.freedTags = n :: s.hlu.freedTags ∧
      (k = .poisoned → t.fld Fld.HLU_POISON_CNT.INBOUND = min 0xFFFF (s.fld Fld.HLU_POISON_CNT.INBOUND + 1)) ∧
      t.mxe = s.mxe ∧ t.tbu = (s.arrive 0).tbu ∧ t.power = s.power := by
  have run := exec_completionReceived open_ found waits (k := k) (data := data)
  rw [endTag_failed _ serves bad] at run
  have errorHas : Tbl.has (((s.arrive 0).freeTag n).linkError k).qen.ctxs c = true := by simpa [freeTag] using has
  have link := (failCmd_hlu stDataTransfer errorHas).trans (congrArg (Hlu.dropDma · c) (linkError_hlu _ _))
  obtain ⟨mxe, tbu, power⟩ := failCmd_keeps (((s.arrive 0).freeTag n).linkError k) c stDataTransfer
  refine ⟨_, run, failCmd_ended _ c _ errorHas, ?_, ?_, ?_, mxe.trans (by simp [freeTag]), tbu.trans (by simp [freeTag]), power.trans (by simp [freeTag])⟩
  · rw [link, Hlu.find?_dropDma_tags]
    simp [freeTag, Tbl.find?_del_same]
  · rw [link, Hlu.dropDma_eq]
    rfl
  · rintro rfl
    rw [fld_failCmd (by decide), linkError_poisoned_count]
    rfl

/-- R98: a fetch read that fails fetches nothing. -/
theorem completionReceived_fetchesNothing {q m : Nat} (open_ : s.inboundHeld = false) (found : Tbl.find? s.hlu.tags n = some g)
    (waits : g.phase = .outstanding) (use : g.use = .fetch q m) (bad : k ≠ .ok) :
    ∃ t, exec (.completionReceived n k data) s = .next t ∧ Tbl.find? t.hlu.tags n = none ∧ t.qen = s.qen ∧
      t = { s.arrive 0 with out := t.out, regf := t.regf, hlu := t.hlu, cru := t.cru } := by
  have run := exec_completionReceived open_ found waits (k := k) (data := data)
  rw [endTag_fetchFailed _ use bad] at run
  refine ⟨_, run, ?_, by simp [freeTag], eq_of_linkError ((s.arrive 0).freeTag n) k⟩
  rw [linkError_hlu]
  exact Tbl.find?_del_same _ _

/-- R77: a page without access is used untranslated. -/
theorem freeTag_reissueUntranslated (s : State) (n fn page : Nat) (p : Option Nat) : ∃ t, ((s.arrive 0).freeTag n).reissueUntranslated fn p page = t ∧
    t.hlu.tags = Tbl.del s.hlu.tags n ∧ t.hlu.atc = s.hlu.atc ∧ t.hlu.dmaQueue.length = s.hlu.dmaQueue.length ∧
    (∀ d ∈ t.hlu.dmaQueue, s.waitsPage fn p page d = true → d.untranslated = true) ∧ t = { s.arrive 0 with hlu := t.hlu, qen := t.qen } :=
  ⟨_, rfl, rfl, rfl, length_reissueUntranslated _ fn p page, reissueUntranslated_waits ((s.arrive 0).freeTag n) fn p page, rfl⟩

/-- R73: a completion brings data of a transfer that goes on. -/
theorem completionReceived_bringsData {off len : Nat} {x : Ctx} (open_ : s.inboundHeld = false) (found : Tbl.find? s.hlu.tags n = some g)
    (waits : g.phase = .outstanding) (use : g.use = .data c off len) (hx : Tbl.find? s.qen.ctxs c = some x) (dataIn : x.state = .dataIn)
    (more : x.dataIn + len ≠ x.bytes) :
    ∃ t, exec (.completionReceived n .ok data) s = .next t ∧ Tbl.find? t.qen.ctxs c = some { x with dataIn := x.dataIn + len } ∧
      t.hlu = { (s.arrive 0).hlu with tags := Tbl.del s.hlu.tags n, freedTags := n :: s.hlu.freedTags, rxNow := s.hlu.rxNow + len } ∧
      (∀ a, (a < stageAddr (s.bpm.piecesOf x.bufs x.bytes) off ∨ stageAddr (s.bpm.piecesOf x.bufs x.bytes) off + len ≤ a) →
        Memory.read 0 t.bpm.sram a = Memory.read 0 s.bpm.sram a) ∧
      (∀ i, i < len → Memory.read 0 t.bpm.sram (stageAddr (s.bpm.piecesOf x.bufs x.bytes) off + i) = BitVec.ofNat 8 (data.toNat / 256 ^ i)) ∧
      t = { s.arrive 0 with hlu := t.hlu, qen := { s.qen with ctxs := t.qen.ctxs }, bpm := t.bpm } := by
  have run := exec_completionReceived open_ found waits (k := .ok) (data := data)
  rw [endTag_data _ use, dataArrives_more (s := ((s.arrive 0).freeTag n).received len) off data hx dataIn more] at run
  exact ⟨_, run, find?_modCtx_same _ hx, rfl, fun a ha => Memory.read_writeAll_leBytes_other _ _ _ _ ha,
    fun i hi => Memory.read_writeAll_leBytes _ _ _ _ hi, rfl⟩

/-- R75: a completion that does not come in time ends the command that waited for it. -/
theorem completionTimeout_endsCommand (found : Tbl.find? s.hlu.tags n = some g) (waits : g.phase = .outstanding) (serves : g.serves c)
    (has : Tbl.has s.qen.ctxs c = true) (timed : s.hlu.cplTimeoutUs ≠ 0) (late : s.passed g.since (usTicks s.hlu.cplTimeoutUs) = true) :
    ∃ t h, exec (.completionTimeout n) s = .next t ∧ t.ended c stDataTransfer ∧ Tbl.find? t.hlu.tags n = some h ∧ h.phase = .held ∧ h.since = s.now ∧
      t.hlu.aer = .completionTimeout :: s.hlu.aer ∧ t.fld Fld.HLU_CPL_TO_CNT.COUNT = min 0xFFFFFFFF (s.fld Fld.HLU_CPL_TO_CNT.COUNT + 1) ∧
      t.mxe = s.mxe ∧ t.tbu = s.tbu := by
  have frame := s.eq_of_timeOut n g
  have timedMxe := congrArg State.mxe frame
  have timedTbu := congrArg State.tbu frame
  have timedHas : Tbl.has (s.timeOut n g).qen.ctxs c = true := by rw [frame]; exact has
  have link := (failCmd_hlu stDataTransfer timedHas).trans (congrArg (Hlu.dropDma · c) (s.timeOut_hlu n g))
  obtain ⟨mxe, tbu, -⟩ := failCmd_keeps (s.timeOut n g) c stDataTransfer
  have tag : Tbl.find? ((s.timeOut n g).failCmd c stDataTransfer).hlu.tags n = some (Tag.dropped c { g with phase := .held, since := s.now }) := by
    rw [link, Hlu.find?_dropDma_tags]
    exact congrArg _ (Tbl.find?_put_same _ _ _)
  obtain ⟨phase, since⟩ := Tag.dropped_keeps c { g with phase := .held, since := s.now }
  refine ⟨_, _, exec_completionTimeout_command found waits timed late serves, failCmd_ended _ c _ timedHas, tag, phase, since, ?_, ?_,
    mxe.trans timedMxe, tbu.trans timedTbu⟩
  · rw [link, Hlu.dropDma_eq]
  · rw [fld_failCmd (by decide), timeOut_count]

end

/-- R75, R87: held tags return to use after 50 ms. -/
theorem timeoutTagRelease_releases (s : State) : ∃ t, exec .timeoutTagRelease s = .next t ∧
    (∀ e, e ∈ t.hlu.tags ↔ e ∈ s.hlu.tags ∧ ¬ (e.2.phase = .held ∧ s.passed e.2.since (msTicks 50) = true)) ∧
    t = { s with hlu := { s.hlu with tags := t.hlu.tags } } := by
  refine ⟨_, rfl, fun e => ?_, rfl⟩
  simp only [modHlu_hlu, List.mem_filter, Bool.not_eq_true', Bool.and_eq_false_iff, beq_eq_false_iff_ne, ne_eq, not_and, Bool.not_eq_true]
  tauto

/-- R87: quarantined tags are held out of use after 50 ms. -/
theorem tagQuarantineExpiry_holds (s : State) : ∃ t, exec .tagQuarantineExpiry s = .next t ∧
    (∀ n, Tbl.find? t.hlu.tags n = (Tbl.find? s.hlu.tags n).map fun g =>
      if g.phase = .quarantined ∧ s.passed g.since (msTicks 50) = true then { g with phase := .held, since := s.now } else g) ∧
    t = { s with hlu := { s.hlu with tags := t.hlu.tags } } :=
  ⟨_, rfl, fun _ => Hlu.find?_mapTags _ _ _, rfl⟩

/-! ## Translations (R76, R77) -/

section
variable {s : State} {n page : Nat} {p : Option Nat} {g : Tag} (open_ : s.inboundHeld = false) (found : Tbl.find? s.hlu.tags n = some g)
  (waits : g.phase = .outstanding) (use : g.use = .ats p page)
include open_ found waits use

theorem exec_translationCompletion_granted (a : Nat) : exec (.translationCompletion n page (some a)) s = .next (((s.arrive 0).freeTag n).modHlu fun h =>
    { h with atc := ({ fn := g.fn, pasid := p, page := page, target := a } :: h.atc).take 8192 }) := by
  change execTranslationCompletion n page (some a) s = _
  simp [execTranslationCompletion, open_, found, waits, use]

theorem exec_translationCompletion_denied :
    exec (.translationCompletion n page none) s = .next (((s.arrive 0).freeTag n).reissueUntranslated g.fn p page) := by
  change execTranslationCompletion n page none s = _
  simp [execTranslationCompletion, open_, found, waits, use]

end

theorem atsInvalidate_drops {s : State} (fn page : Nat) (p : Option Nat) (open_ : s.inboundHeld = false) : ∃ t, exec (.atsInvalidate fn p page) s = .next t ∧
    (∀ e, e ∈ t.hlu.atc ↔ e ∈ s.hlu.atc ∧ ¬ (e.fn = fn ∧ e.pasid = p ∧ e.page = page)) ∧
    t = { s.arrive 0 with out := .tlpCompletion .ok [] s.hlu.ecrcGen :: s.out, hlu := { (s.arrive 0).hlu with atc := t.hlu.atc } } := by
  refine ⟨_, if_neg (by rw [open_]; nofun), fun e => ?_, rfl⟩
  refine List.mem_filter.trans (and_congr_right fun _ => ?_)
  simp only [Bool.not_eq_true', Bool.and_eq_false_iff, beq_eq_false_iff_ne, ne_eq]
  tauto

end State

/-- Settles O7, row by row: what a completion, its absence, the two timers and a translation do to the tag and to what waited for it. -/
theorem tagsFollowTheirCompletions : Obligations.TagsFollowTheirCompletions := by
  unfold Obligations.TagsFollowTheirCompletions
  refine ⟨fun s n k data g open_ found => ⟨fun quarantined => State.exec_completionReceived_quarantined open_ found quarantined,
      fun held => ?held, fun c off len waits use bad has => State.completionReceived_endsCommand open_ found waits (Tag.serves_of_use use) bad has,
      fun q m waits use bad => State.completionReceived_fetchesNothing open_ found waits use bad, fun p page waits use denied => ?noAccess,
      fun c off len x waits use hx dataIn more => State.completionReceived_bringsData open_ found waits use hx dataIn more⟩,
    fun s n k data open_ found => ?unknown,
    fun s n c off len g found waits use has timed late => State.completionTimeout_endsCommand found waits (Tag.serves_of_use use) has timed late,
    fun s n q m g found waits use timed late => ⟨_, State.exec_completionTimeout_fetch found waits timed late use, s.timeOut_hlu n g, s.eq_of_timeOut n g⟩,
    State.timeoutTagRelease_releases, State.tagQuarantineExpiry_holds,
    fun s n page p g a open_ found waits use => State.exec_translationCompletion_granted open_ found waits use a,
    fun s n page p g open_ found waits use => ?denied, fun s fn page p open_ => State.atsInvalidate_drops fn page p open_⟩
  case held => rw [State.exec_completionReceived_held open_ found held, State.aerLog_advisory _ _ rfl]; rfl
  case unknown => rw [State.exec_completionReceived_unknown open_ found, State.aerLog_advisory _ _ rfl]; rfl
  case noAccess =>
    have run := State.exec_completionReceived open_ found waits (k := k) (data := data)
    rw [State.endTag_noAccess _ use denied] at run
    obtain ⟨t, eq, tags, -, length, untranslated, frame⟩ := State.freeTag_reissueUntranslated s n g.fn page p
    exact ⟨t, run.trans (congrArg _ eq), tags, length, untranslated, frame⟩
  case denied =>
    obtain ⟨t, eq, after⟩ := State.freeTag_reissueUntranslated s n g.fn page p
    exact ⟨t, (State.exec_translationCompletion_denied open_ found waits use).trans (congrArg _ eq), after⟩

end Sys2Proof.Machine
end

section
/-! PROOFS. Link errors, PTM and bus mastering (R81 to R83, R85, R86, R475): the errors that a TLP may carry, what a dialog makes of fleet time, the stall of a function's commands, and O9. -/

namespace Sys2Proof.Machine

namespace State

/-! ## INBOUND_ERROR_TLP -/

/-- R83: a TLP that is discarded with an error of its own. -/
theorem inboundErrorTlp_discards {s : State} {i : Instr} {e : AerError} {np : Bool} (run : exec i s = .next ((s.arrive 0).discard e np)) :
    ∃ t, exec i s = .next t ∧ t.out = (if np then [.tlpCompletion .ur [] s.hlu.ecrcGen] else []) ++ .aer e e.severity :: s.out ∧
      t.hlu = { (s.arrive 0).hlu with aer := e :: s.hlu.aer } ∧ t = { s.arrive 0 with out := t.out, hlu := t.hlu, regf := t.regf, cru := t.cru } :=
  ⟨_, run, discard_out _ _ _, discard_hlu _ _ _, eq_of_discard _ _ _⟩

/-- R83: a poisoned write to BAR0 or BAR4 is logged and counted. -/
theorem inboundErrorTlp_poisons {s : State} {i : Instr} (run : exec i s = .next ((s.arrive 0).linkError .poisoned)) :
    ∃ t, exec i s = .next t ∧ t.out = .aer .poisoned .nonFatal :: s.out ∧ t.hlu = { (s.arrive 0).hlu with aer := .poisoned :: s.hlu.aer } ∧
      t.fld Fld.HLU_POISON_CNT.INBOUND = min 0xFFFF (s.fld Fld.HLU_POISON_CNT.INBOUND + 1) ∧
      t = { s.arrive 0 with out := t.out, hlu := t.hlu, regf := t.regf, cru := t.cru } :=
  ⟨_, run, linkError_poisoned_out _, linkError_poisoned_hlu _, linkError_poisoned_count _, eq_of_linkError _ _⟩

/-- R83, R164: a poisoned write to the Gallery is logged and counted, and its window or NO_WIN is told. -/
theorem galPoison_logs (u : State) (off : Nat) : .aer .poisoned .nonFatal ∈ (u.galPoison off).out ∧ .poisoned ∈ (u.galPoison off).hlu.aer ∧
    (u.galPoison off).fld Fld.HLU_POISON_CNT.INBOUND = min 0xFFFF (u.fld Fld.HLU_POISON_CNT.INBOUND + 1) := by
  have out := u.linkError_poisoned_out
  have link := u.linkError_poisoned_hlu
  have count : (u.linkError .poisoned).fld Fld.HLU_POISON_CNT.INBOUND = min 0xFFFF (u.fld Fld.HLU_POISON_CNT.INBOUND + 1) := u.linkError_poisoned_count
  simp only [galPoison]
  split
  · refine ⟨by simp [out], by simp [link], ?_⟩
    exact (fld_galError_other (u.linkError .poisoned) _ 3 (by decide) (by decide) (by decide)).trans count
  · rw [galRefuse_eq_discard, discard_advisory _ _ _ rfl, eq_of_galError_noWin]
    refine ⟨by simp [out], by simp [link], ?_⟩
    exact (fld_galError_other _ none 8 (by decide) (by decide) (by decide)).trans count

/-! ## PTM (R81, R82, R475) -/

theorem fleetNowValid_tbu (u : State) : u.fleetNowValid.tbu = u.tbu := by simp

/-- R475: fleet time slews by a small offset and steps by a larger one; nothing else of the timebase but the source changes. -/
theorem discipline_tbu (u : State) (d : Int) : (u.discipline d).tbu.tick = u.tbu.tick ∧ (u.discipline d).tbu.fleetSrc = 2 ∧
    (u.discipline d).tbu.lastOffset = u.tbu.lastOffset ∧
    (d.natAbs ≤ u.obj Ob.STEP_NS → (u.discipline d).tbu.fleet = u.tbu.fleet ∧ (u.discipline d).tbu.slewLeft = 4000000 * d) ∧
    (u.obj Ob.STEP_NS < d.natAbs → (u.discipline d).tbu.fleet = u.tbu.fleet + BitVec.ofInt 64 d ∧ (u.discipline d).tbu.slewLeft = 0) := by
  rcases le_or_gt d.natAbs (u.obj Ob.STEP_NS) with small | large
  · rw [discipline, if_pos small, fleetNowValid_tbu]
    exact ⟨rfl, rfl, rfl, fun _ => ⟨rfl, rfl⟩, fun large => absurd large (not_lt.mpr small)⟩
  · rw [discipline, if_neg (not_le.mpr large), stepFleet, fleetNowValid_tbu, trigger_tbu]
    exact ⟨rfl, rfl, rfl, fun small => absurd large (not_lt.mpr small), fun _ => ⟨rfl, rfl⟩⟩

/-- A dialog that answered, before its offset is used. -/
def ptmHeard (d : Int) (s : State) : State :=
  (((s.arrive 0).modHlu fun h => { h with ptmFails := 0, ptmLast := some s.now, ptmValid := true }).healthClear Health.ptm).modTbu fun t => { t with lastOffset := -d }

section
variable {s : State} (up : s.hlu.up = true) (on : s.hlu.ptmEn = true) (awake : s.hlu.power = .l0)
include up on awake

theorem exec_ptmDialog_answered (d : Int) : exec (.ptmDialog (some d)) s = .next ((s.ptmHeard d).discipline d) := if_pos ⟨up, on, awake⟩

theorem exec_ptmDialog_missed : exec (.ptmDialog none) s = .next s.ptmMiss := if_pos ⟨up, on, awake⟩

/-- R81, R475: a dialog that is answered disciplines fleet time, by slewing or by a step. -/
theorem ptmDialog_disciplines (d : Int) : ∃ t, exec (.ptmDialog (some d)) s = .next t ∧
    t.hlu = { (s.arrive 0).hlu with ptmFails := 0, ptmLast := some s.now, ptmValid := true } ∧ t.tbu.tick = s.tbu.tick ∧ t.tbu.fleetSrc = 2 ∧ t.tbu.lastOffset = -d ∧
    (d.natAbs ≤ s.obj Ob.STEP_NS → t.tbu.fleet = s.tbu.fleet ∧ t.tbu.slewLeft = 4000000 * d) ∧
    (s.obj Ob.STEP_NS < d.natAbs → t.tbu.fleet = s.tbu.fleet + BitVec.ofInt 64 d ∧ t.tbu.slewLeft = 0) ∧
    t = { s with tbu := t.tbu, hlu := t.hlu, regf := t.regf, sheet := t.sheet, cdx := t.cdx, mgp := t.mgp, cru := t.cru } := by
  have run := exec_ptmDialog_answered up on awake d
  have heard : Touch 4194568 s (s.ptmHeard d) :=
    touch_modTbu _ rfl (healthClear_touch _ _ rfl (touch_modHlu _ rfl (arrive_touch 0 s rfl (Touch.refl _ s))))
  have stepNs : (s.ptmHeard d).obj Ob.STEP_NS = s.obj Ob.STEP_NS := obj_congr (heard.sheet rfl) (heard.sheetOld rfl) _ 0 0
  obtain ⟨tick, src, offset, slews, steps⟩ := (s.ptmHeard d).discipline_tbu d
  rw [stepNs] at slews steps
  have link := (discipline_touch d (s.ptmHeard d) (m := 8421480) rfl (Touch.refl _ _)).hlu rfl
  have frame := (discipline_touch d (s.ptmHeard d) (m := 12616040) rfl (heard.mono rfl)).eq_masked
  exact ⟨_, run, link, tick, src, offset, slews, steps, frame⟩

/-- R82: the third dialog in a row without a response is counted and raises the health event. -/
theorem ptmDialog_thirdMiss (fails : s.hlu.ptmFails = 2) : ∃ t, exec (.ptmDialog none) s = .next t ∧
    t.hlu = { s.hlu with ptmFails := 0 } ∧ t.fld Fld.HLU_PTM_STS.FAIL_CNT = min 0xFFFF (s.fld Fld.HLU_PTM_STS.FAIL_CNT + 1) ∧
    t.tbu = s.tbu ∧ t = { s with out := t.out, hlu := t.hlu, regf := t.regf, qen := t.qen, mgp := t.mgp, cru := t.cru } := by
  have run := exec_ptmDialog_missed up on awake
  rw [ptmMiss, if_pos (by rw [fails])] at run
  refine ⟨_, run, by simp, ?_, by simp, ?_⟩
  · rw [fld_health (by decide)]
    refine (RegFile.get_put_same _ _ _ _ _).trans (Nat.mod_eq_of_lt ?_)
    exact Nat.lt_of_le_of_lt (Nat.min_le_left _ _) (by decide)
  · exact (health_touch _ _ _ (m := 12583713) rfl (touch_setFld _ _ _ rfl (touch_modHlu _ rfl (Touch.refl _ s)))).eq_masked

end

/-! ## Bus mastering (R85, R86) -/

section
variable (s : State) (fn : Nat) (on : Bool)

theorem setBusMaster_ctx (c : Nat) : Tbl.find? (s.setBusMaster fn on).qen.ctxs c =
    (Tbl.find? s.qen.ctxs c).map fun x => if x.fn = fn ∧ x.win = none then { x with bmeStall := !on } else x := by
  refine (congrArg (Tbl.find? · c) (List.map_congr_left fun e _ => ?_)).trans (Tbl.find?_map _ _ _)
  split <;> rfl

/-- R85, R86: Bus Master Enable of a function is set or cleared with the stall of its commands; other functions' commands go on. -/
theorem busMaster_stalls {i : Instr} (run : exec i s = .next ((s.arrive 0).setBusMaster fn on)) : ∃ t, exec i s = .next t ∧
    (Tbl.getD t.hlu.fns fn default).busMaster = on ∧ (∀ c x, Tbl.find? t.qen.ctxs c = some x → x.fn = fn → x.win = none → x.bmeStall = !on) ∧
    (∀ c x, Tbl.find? s.qen.ctxs c = some x → x.fn ≠ fn → Tbl.find? t.qen.ctxs c = some x) ∧
    t = { s.arrive 0 with hlu := { (s.arrive 0).hlu with fns := t.hlu.fns }, qen := { s.qen with ctxs := t.qen.ctxs } } := by
  refine ⟨_, run, congrArg FnCfg.busMaster (Tbl.getD_put_same _ _ _ _), fun c x hx mine host => ?_, fun c x hx other => ?_, rfl⟩
  · rw [setBusMaster_ctx] at hx
    obtain ⟨y, -, rfl⟩ := Option.map_eq_some_iff.mp hx
    by_cases h : y.fn = fn ∧ y.win = none
    · rw [if_pos h]
    · rw [if_neg h] at mine host
      exact absurd ⟨mine, host⟩ h
  · rw [setBusMaster_ctx, qen_arrive, hx]
    exact congrArg some (if_neg fun h => other h.1)

end

end State

/-- Settles O9: the error TLPs one by one, the PTM dialog and its end, and Bus Master Enable. -/
theorem linkErrorsTimeAndBusMastering : Obligations.LinkErrorsTimeAndBusMastering := by
  unfold Obligations.LinkErrorsTimeAndBusMastering
  refine ⟨fun s np open_ => ?errors, fun s d up on awake => State.ptmDialog_disciplines up on awake d, fun s up on awake few => ?missed,
    fun s up on awake fails => State.ptmDialog_thirdMiss up on awake fails, fun s u valid last late => ?expired,
    fun s fn cfg => ⟨s.busMaster_stalls fn false (if_pos cfg), s.busMaster_stalls fn true (if_pos cfg)⟩⟩
  case errors =>
    have accepts : ¬ s.inboundHeld = true := by rw [open_]; nofun
    refine ⟨State.inboundErrorTlp_discards (np := false) (if_neg accepts), State.inboundErrorTlp_discards (if_neg accepts),
      State.inboundErrorTlp_discards (if_neg accepts), ?_, fun off => ?_, ?_, if_neg accepts⟩
    · rintro e (rfl | rfl) <;> exact State.inboundErrorTlp_poisons (if_neg accepts)
    · obtain ⟨out, aer, count⟩ := (s.arrive 0).galPoison_logs off
      exact ⟨_, if_neg accepts, out, aer, count, (State.galPoison_touch off (s.arrive 0) (m := 8390945) rfl (Touch.refl _ _)).eq_masked⟩
    · exact (if_neg accepts).trans (congrArg _ (State.aerLog_advisory _ .unexpectedCompletion rfl))
  case missed =>
    rw [State.exec_ptmDialog_missed up on awake, State.ptmMiss, if_neg (by omega)]
    rfl
  case expired => exact if_pos ⟨valid, by rw [last]; exact late⟩

end Sys2Proof.Machine
end

section
/-! PROOFS. Training of the link, L0p and L1 (R66 to R68, R78 to R80): the width and the rate that training reaches, the drops that it flags, the entry to L1 and the exit, and O6. -/

namespace Sys2Proof.Machine

/-! ## The width (R66, R67; log entry 48) -/

section
variable {lanes : BitVec 16} {w limit : Nat} {rev : Bool}

theorem lanesOk_iff : lanesOk lanes w rev = true ↔ ∀ k < w, lanes.getLsbD (if rev then 15 - k else k) = true := by
  simp [lanesOk]

theorem lanesOk_false_iff : lanesOk lanes w rev = false ↔ ∃ k < w, lanes.getLsbD (if rev then 15 - k else k) = false := by
  rw [← Bool.not_eq_true, lanesOk_iff]
  simp

/-- All sixteen lanes are the same lanes in either order. -/
theorem lanesOk_all_reversed (h : lanesOk lanes 16 false = false) : lanesOk lanes 16 true = false := by
  obtain ⟨k, hk, bad⟩ := lanesOk_false_iff.mp h
  refine lanesOk_false_iff.mpr ⟨15 - k, by omega, ?_⟩
  rw [if_pos rfl, show 15 - (15 - k) = k by omega]
  exact bad

/-- A width is refused whose lanes, in the order it is tried in, do not all pass. -/
def widthFails (lanes : BitVec 16) (limit w : Nat) (rev : Bool) : Prop := w ≤ limit → lanesOk lanes w rev = false

/-- What training reached, and what it had to refuse before (R66). -/
theorem trainWidth_cases (h : trainWidth lanes limit = some (w, rev)) : w ≤ limit ∧ lanesOk lanes w rev = true ∧
    ((w = 16 ∧ rev = false) ∨
      widthFails lanes limit 16 false ∧ ((w = 8 ∧ rev = false) ∨
        widthFails lanes limit 8 false ∧ ((w = 8 ∧ rev = true) ∨
          widthFails lanes limit 8 true ∧ ((w = 4 ∧ rev = false) ∨ widthFails lanes limit 4 false ∧ w = 4 ∧ rev = true)))) := by
  have tried : ∀ {v r}, (decide (v ≤ limit) && lanesOk lanes v r) = false → widthFails lanes limit v r := by
    intro v r refused le
    simpa [le] using refused
  have passes : w ≤ limit ∧ lanesOk lanes w rev = true := by simpa using List.find?_some h
  refine ⟨passes.1, passes.2, ?_⟩
  simp only [trainWidth, List.find?] at h
  split at h
  · cases h; exact .inl ⟨rfl, rfl⟩
  next f16 =>
  refine .inr ⟨tried f16, ?_⟩
  split at h
  · cases h; exact .inl ⟨rfl, rfl⟩
  next f8 =>
  refine .inr ⟨tried f8, ?_⟩
  split at h
  · cases h; exact .inl ⟨rfl, rfl⟩
  next r8 =>
  refine .inr ⟨tried r8, ?_⟩
  split at h
  · cases h; exact .inl ⟨rfl, rfl⟩
  next f4 =>
  refine .inr ⟨tried f4, ?_⟩
  split at h
  · cases h; exact ⟨rfl, rfl⟩
  · cases h

theorem trainWidth_width (h : trainWidth lanes limit = some (w, rev)) : w = 4 ∨ w = 8 ∨ w = 16 := by
  obtain ⟨-, -, cases⟩ := trainWidth_cases h
  omega

/-- Reversal is in effect only where the lanes in order do not pass. -/
theorem trainWidth_reversed (h : trainWidth lanes limit = some (w, true)) : lanesOk lanes w false = false := by
  obtain ⟨le, -, cases⟩ := trainWidth_cases h
  rcases cases with ⟨-, ⟨⟩⟩ | ⟨-, ⟨-, ⟨⟩⟩ | ⟨f8, ⟨rfl, -⟩ | ⟨-, ⟨-, ⟨⟩⟩ | ⟨f4, rfl, -⟩⟩⟩⟩
  · exact f8 le
  · exact f4 le

/-- A wider link would have been formed if its lanes passed in either order. -/
theorem trainWidth_wider {v : Nat} (h : trainWidth lanes limit = some (w, rev)) (hv : v = 8 ∨ v = 16) (wider : w < v) (le : v ≤ limit) :
    lanesOk lanes v false = false ∧ lanesOk lanes v true = false := by
  obtain ⟨-, -, cases⟩ := trainWidth_cases h
  rcases hv with rfl | rfl
  · rcases cases with ⟨rfl, -⟩ | ⟨-, ⟨rfl, -⟩ | ⟨f8, ⟨rfl, -⟩ | ⟨r8, -⟩⟩⟩
    case inr.inr.inr => exact ⟨f8 le, r8 le⟩
    all_goals omega
  · rcases cases with ⟨rfl, -⟩ | ⟨f16, -⟩
    · omega
    · exact ⟨f16 le, lanesOk_all_reversed (f16 le)⟩

/-- R67: no link forms on fewer than four lanes. -/
theorem trainWidth_none (bad : ∃ k < 4, lanes.getLsbD k = false) (badRev : ∃ k < 4, lanes.getLsbD (15 - k) = false) : trainWidth lanes limit = none := by
  have fails : ∀ v r, 4 ≤ v → lanesOk lanes v r = false := by
    intro v r hv
    obtain ⟨k, hk, low⟩ := bad
    obtain ⟨j, hj, high⟩ := badRev
    cases r
    · exact lanesOk_false_iff.mpr ⟨k, by omega, low⟩
    · exact lanesOk_false_iff.mpr ⟨j, by omega, high⟩
  simp [trainWidth, fails]

end

/-! ## The rate (R66) -/

section
variable (twice : List Nat)

theorem trainRate_le {top : Nat} (h : 1 ≤ top) : trainRate twice top ≤ top := by
  induction top with
  | zero => omega
  | succ r ih =>
    simp only [trainRate]
    split
    · exact (ih (by omega)).trans (Nat.le_succ r)
    · exact le_rfl

/-- A rate above the one reached has failed twice. -/
theorem mem_of_trainRate_lt {top k : Nat} (above : trainRate twice top < k) (le : k ≤ top) : k ∈ twice := by
  induction top with
  | zero => omega
  | succ r ih =>
    simp only [trainRate] at above
    split at above
    next failed =>
      rcases Nat.lt_or_ge r k with top | below
      · rw [show k = r + 1 by omega]
        simpa using failed.2
      · exact ih above below
    next => omega

theorem trainRate_of_none_failed {top : Nat} (h : 1 ≤ top) : trainRate [] top = top := by
  obtain ⟨r, rfl⟩ : ∃ r, top = r + 1 := ⟨top - 1, by omega⟩
  simp [trainRate]

end

namespace State

/-! ## LINK_TRAINING -/

/-- The link is up in L0 at what training reached. -/
def linkUp (flit : Bool) (w : Nat) (rev : Bool) (r : Nat) (s : State) : State :=
  s.modHlu fun h => { h with up := true, flit := flit, rate := r, width := w, l0pWidth := w, power := .l0, laneRev := rev, idleSince := none, winSince := s.now, txSum := 0, rxSum := 0, lowUse := false }

/-- Equalisation failed at some rate from the one tried first down to the one reached. -/
def eqFailed (once twice : List Nat) (top r : Nat) : Bool :=
  (List.range 7).any fun k => decide (3 ≤ k ∧ r ≤ k ∧ k ≤ top) && (once.contains k || twice.contains k)

/-- R67: an equalisation that failed is an event of the link. -/
def eqFlag (failed : Bool) (s : State) : State := if failed then s.flag Fld.HLU_LINK_EVT.EQ_FAIL 0 1 else s

/-- R68: a rate below MAX_RATE is an event of the link. -/
def rateFlag (r : Nat) (s : State) : State := if r < s.obj Ob.MAX_RATE then s.linkEvent Fld.HLU_LINK_EVT.RATE_DOWN else s

/-- R68: so is a width below MAX_WIDTH. -/
def widthFlag (w : Nat) (s : State) : State := if w < s.obj Ob.MAX_WIDTH then s.linkEvent Fld.HLU_LINK_EVT.WIDTH_DOWN else s

theorem linkEvent_flags (s : State) (f : Field) (hf : f.width = 1) (h : f.key 0 0 ≠ Fld.CRU_TRIG_CNT.COUNT.key 0x03 0)
    (h' : f.key 0 0 ≠ Fld.CRU_MISSED.COUNT.key 0 0) : (s.linkEvent f).fld f = 1 := by
  rw [linkEvent, fld_trigger _ _ _ _ _ _ _ h h', fld_flag_bit _ _ _ hf]

theorem fld_widthFlag_rateDown (s : State) (w : Nat) : (s.widthFlag w).fld Fld.HLU_LINK_EVT.RATE_DOWN = s.fld Fld.HLU_LINK_EVT.RATE_DOWN := by
  unfold widthFlag
  split
  · rw [linkEvent, fld_trigger _ _ _ _ _ _ _ (by decide) (by decide), fld_flag_other _ _ _ _ _ _ (by decide)]
  · rfl

theorem eqFlag_touch (s : State) (b : Bool) : Touch 8388640 s (s.eqFlag b) := touch_ite (touch_flag _ _ _ rfl (Touch.refl _ s)) (Touch.refl _ s)

theorem rateFlag_touch (s : State) (r : Nat) : Touch 8388640 s (s.rateFlag r) := touch_ite (linkEvent_touch _ _ rfl (Touch.refl _ s)) (Touch.refl _ s)

theorem widthFlag_touch (s : State) (w : Nat) : Touch 8388640 s (s.widthFlag w) := touch_ite (linkEvent_touch _ _ rfl (Touch.refl _ s)) (Touch.refl _ s)

/-- The link as trained, with what training flagged. -/
def trained (flit : Bool) (w : Nat) (rev : Bool) (r : Nat) (failed : Bool) (s : State) : State :=
  (((s.linkUp flit w rev r).eqFlag failed).rateFlag r).widthFlag w

section
variable (s : State) (flit : Bool) (w : Nat) (rev : Bool) (r : Nat) (failed : Bool)

theorem trained_touch : Touch 8388640 (s.linkUp flit w rev r) (s.trained flit w rev r failed) :=
  ((eqFlag_touch _ _).trans (rateFlag_touch _ _)).trans (widthFlag_touch _ _)

theorem trained_rateDown (low : r < s.obj Ob.MAX_RATE) : (s.trained flit w rev r failed).fld Fld.HLU_LINK_EVT.RATE_DOWN = 1 := by
  have flagged := eqFlag_touch (s.linkUp flit w rev r) failed
  have max : ((s.linkUp flit w rev r).eqFlag failed).obj Ob.MAX_RATE = s.obj Ob.MAX_RATE := obj_congr (flagged.sheet rfl) (flagged.sheetOld rfl) _ 0 0
  rw [trained, fld_widthFlag_rateDown, rateFlag, max, if_pos low]
  exact linkEvent_flags _ _ rfl (by decide) (by decide)

theorem trained_widthDown (low : w < s.obj Ob.MAX_WIDTH) : (s.trained flit w rev r failed).fld Fld.HLU_LINK_EVT.WIDTH_DOWN = 1 := by
  have flagged := (eqFlag_touch (s.linkUp flit w rev r) failed).trans (rateFlag_touch _ r)
  have max : (((s.linkUp flit w rev r).eqFlag failed).rateFlag r).obj Ob.MAX_WIDTH = s.obj Ob.MAX_WIDTH := obj_congr (flagged.sheet rfl) (flagged.sheetOld rfl) _ 0 0
  rw [trained, widthFlag, max, if_pos low]
  exact linkEvent_flags _ _ rfl (by decide) (by decide)

end

section
variable {s : State} {rate width w : Nat} {flit rev : Bool} {lanes : BitVec 16} {once twice : List Nat}
  (down : s.hlu.up = false) (stage : s.power.stage ≠ .foyer) (released : s.power.releaseTick.isSome = true)
include down stage released

theorem linkTraining_open : ¬ (s.hlu.up = true ∨ s.power.stage = .foyer ∨ s.power.releaseTick = none) := by
  rintro (h | h | h)
  · rw [down] at h; cases h
  · exact stage h
  · rw [h] at released; cases released

theorem exec_linkTraining {top : Nat} (start : top = min (if flit then rate else min rate 5) (s.obj Ob.MAX_RATE))
    (reached : trainWidth lanes (min width (s.obj Ob.MAX_WIDTH)) = some (w, rev)) : exec (.linkTraining rate width flit lanes once twice) s =
      .next (s.trained flit w rev (trainRate twice top) (eqFailed once twice top (trainRate twice top))) := by
  subst start
  refine (if_neg (linkTraining_open down stage released)).trans ?_
  rw [reached]
  rfl

theorem exec_linkTraining_noLink (none : trainWidth lanes (min width (s.obj Ob.MAX_WIDTH)) = none) :
    exec (.linkTraining rate width flit lanes once twice) s = .next (s.linkEvent Fld.HLU_LINK_EVT.NO_LINK) := by
  refine (if_neg (linkTraining_open down stage released)).trans ?_
  rw [none]

end

/-- R67: an attempt without four usable lanes is flagged. -/
theorem linkEvent_noLink (s : State) : (s.linkEvent Fld.HLU_LINK_EVT.NO_LINK).fld Fld.HLU_LINK_EVT.NO_LINK = 1 ∧
    s.linkEvent Fld.HLU_LINK_EVT.NO_LINK = { s with regf := (s.linkEvent Fld.HLU_LINK_EVT.NO_LINK).regf, cru := (s.linkEvent Fld.HLU_LINK_EVT.NO_LINK).cru } :=
  ⟨linkEvent_flags s _ rfl (by decide) (by decide), (linkEvent_touch _ s (m := 8388640) rfl (Touch.refl _ s)).eq_masked⟩

/-! ## L1 (R79, R80) -/

/-- R80: with L1.2 the DRAM enters self-refresh, at once when no request is queued. -/
theorem srEnter_refreshes {s : State} (asleep : s.hlu.power = .l12) (trained : s.dmc.trained = true) (empty : s.dmc.queue = []) :
    s.srEnter.dmc.selfRefresh = true := by
  have cause : s.srCause = true := by simp [srCause, asleep]
  unfold srEnter
  by_cases already : s.dmc.selfRefresh = true
  · simp [trained, already]
  · rw [Bool.not_eq_true] at already
    simp only [trained, already, cause, empty, List.isEmpty_nil, Bool.not_true, Bool.or_self, Bool.false_eq_true, if_false, if_true]
    split <;> rfl

section
variable {s : State} (l12 : Bool) (up : s.hlu.up = true) (idle : s.linkIdle = true)
include up idle

theorem l1Entry_open : ¬ (s.hlu.up = false ∨ s.linkIdle = false) := by simp [up, idle]

theorem l1Entry_begins {u : Dword} (awake : s.hlu.power = .l0) (on : s.hlu.l1En = true) (since : s.hlu.idleSince = some u)
    (late : s.passed u (usTicks (s.obj Ob.L1_IDLE_US)) = true) : exec (.l1Entry l12) s = .next { s with hlu := { s.hlu with
      power := if l12 = true ∧ s.hlu.l12En = true then .toL12 else if s.hlu.l11En = true then .toL11 else .toL1 } } := by
  have begins : s.hlu.l1En = true ∧ s.passedSome s.hlu.idleSince (usTicks (s.obj Ob.L1_IDLE_US)) = true := ⟨on, by rw [since]; exact late⟩
  refine (if_neg (l1Entry_open up idle)).trans ?_
  rw [awake]
  refine (if_pos begins).trans ?_
  simp only [modHlu, Bool.and_eq_true]

theorem l1Entry_completes : (s.hlu.power = .toL1 → exec (.l1Entry l12) s = .next { s with hlu := { s.hlu with power := .l1 } }) ∧
    (s.hlu.power = .toL11 → exec (.l1Entry l12) s = .next { s with hlu := { s.hlu with power := .l11 } }) := by
  constructor
  all_goals
    intro entering
    refine (if_neg (l1Entry_open up idle)).trans ?_
    rw [entering]
    rfl

theorem l1Entry_refreshes (entering : s.hlu.power = .toL12) : ∃ t, exec (.l1Entry l12) s = .next t ∧ t.hlu = { s.hlu with power := .l12 } ∧
    (s.dmc.trained = true → s.dmc.queue = [] → t.dmc.selfRefresh = true) ∧ t = { s with hlu := t.hlu, dmc := t.dmc, out := t.out, regf := t.regf } := by
  have run : exec (.l1Entry l12) s = .next (s.modHlu fun h => { h with power := .l12 }).srEnter := by
    refine (if_neg (l1Entry_open up idle)).trans ?_
    rw [entering]
  exact ⟨_, run, by simp, srEnter_refreshes (s := s.modHlu fun h => { h with power := .l12 }) rfl, (srEnter_touch _ (m := 524577) rfl (touch_modHlu _ rfl (Touch.refl _ s))).eq_masked⟩

end

/-- R80: the link leaves L1, and from L1.2 the DRAM may leave self-refresh with it. -/
theorem l1Exit_wakes {s : State} (up : s.hlu.up = true) (asleep : s.hlu.power ≠ .l0) : ∃ t, exec .l1Exit s = .next t ∧
    t.hlu = { s.hlu with power := .l0 } ∧ (s.hlu.power ≠ .l12 → t.dmc = s.dmc) ∧ t = { s with hlu := t.hlu, dmc := t.dmc, out := t.out } := by
  refine ⟨_, if_pos ⟨up, asleep⟩, ?_⟩
  by_cases wakes : s.hlu.power = .l12 ∧ (s.modHlu fun h => { h with power := .l0 }).srCause = false
  · rw [if_pos wakes]
    exact ⟨by simp, fun other => absurd wakes.1 other, (srExit_touch _ (m := 524545) rfl (touch_modHlu _ rfl (Touch.refl _ s))).eq_masked⟩
  · rw [if_neg wakes]
    exact ⟨rfl, fun _ => rfl, rfl⟩

end State

/-- Settles O6: training by its width and its rate, then L0p and L1. -/
theorem linkTrainsAndChangesWidthAndPower : Obligations.LinkTrainsAndChangesWidthAndPower := by
  unfold Obligations.LinkTrainsAndChangesWidthAndPower
  refine ⟨fun s rate width w rev flit lanes once twice down stage released rated maxRated reached => ?trains,
    fun s rate width flit lanes once twice down stage released bad badRev =>
      ⟨_, State.exec_linkTraining_noLink down stage released (trainWidth_none bad badRev), s.linkEvent_noLink⟩,
    fun s up awake on obj wide low => if_pos ⟨up, awake, on, obj, wide, low⟩, fun s up awake much => if_pos ⟨up, awake, much⟩,
    fun s l12 up idle => ⟨fun u awake on since late => State.l1Entry_begins l12 up idle awake on since late, 
      (State.l1Entry_completes l12 up idle).1, (State.l1Entry_completes l12 up idle).2, State.l1Entry_refreshes l12 up idle⟩,
    fun s => State.arrive_abortsL1Entry 0, fun s => State.l1Exit_wakes⟩
  case trains =>
    generalize start : min (if flit then rate else min rate 5) (s.obj Ob.MAX_RATE) = top
    have offered : 1 ≤ (if flit then rate else min rate 5) ∧ (if flit then rate else min rate 5) ≤ rate := by split <;> omega
    have one : 1 ≤ top := by omega
    have le := trainRate_le twice one
    have run := State.exec_linkTraining down stage released start.symm reached (once := once) (twice := twice)
    have touch := s.trained_touch flit w rev (trainRate twice top) (State.eqFailed once twice top (trainRate twice top))
    have link : _ = (s.linkUp flit w rev (trainRate twice top)).hlu := touch.hlu rfl
    have frame := (touch_modHlu (m := 8388896) _ rfl (Touch.refl _ s)).trans (touch.mono rfl)
    obtain ⟨limit, lanesPass, -⟩ := trainWidth_cases reached
    refine ⟨_, trainRate twice top, run, (congrArg Hlu.rate link).symm, link, by omega, by omega, fun noFlit => ?_, fun none => ?_,
      fun k above most => mem_of_trainRate_lt twice above most, by omega, by omega, trainWidth_width reached, lanesOk_iff.mp lanesPass, fun reversed => ?_,
      fun v hv wider ofPartners ofObject => ?_, s.trained_rateDown _ _ _ _ _, s.trained_widthDown _ _ _ _ _, frame.eq_masked⟩
    · rw [if_neg (by simp [noFlit])] at start
      omega
    · rw [none]
      exact trainRate_of_none_failed one
    · subst reversed
      exact lanesOk_false_iff.mp (trainWidth_reversed reached)
    · obtain ⟨straight, turned⟩ := trainWidth_wider reached hv wider (by omega)
      exact ⟨lanesOk_false_iff.mp straight, lanesOk_false_iff.mp turned⟩

end Sys2Proof.Machine
end

section
/-! PROOFS. Fetching (R71, R95, R98, R99, R101, R162): the lowest free number, the context that an entry takes, the turns that bring entries, promotion by age, and O14. -/

namespace Sys2Proof.Machine

/-- The first number that is free is the one below which all are taken. -/
theorem firstFree_eq {taken : Nat → Bool} {c fuel : Nat} (i : Nat) (le : i ≤ c) (lt : c < i + fuel) (free : taken c = false)
    (below : ∀ j, i ≤ j → j < c → taken j = true) : firstFree taken i fuel = some c := by
  induction fuel generalizing i with
  | zero => omega
  | succ fuel ih =>
    rcases Nat.eq_or_lt_of_le le with rfl | lt'
    · simp [firstFree, free]
    · rw [firstFree, if_pos (below i le_rfl lt')]
      exact ih (i + 1) lt' (by omega) fun j hj => below j (by omega)

/-- A turn of the arbitration moves its cursors and credits and nothing else of the queues. -/
theorem Qen.eq_of_turnTaken (q : Qen) (t : Turn) (k : Nat) (x : Sq) (n : Nat) : q.turnTaken t k x n = { q with
    going := (q.turnTaken t k x n).going, rrAdmin := (q.turnTaken t k x n).rrAdmin, rrUrgent := (q.turnTaken t k x n).rrUrgent
    rrHigh := (q.turnTaken t k x n).rrHigh, rrNormal := (q.turnTaken t k x n).rrNormal, rrBkg := (q.turnTaken t k x n).rrBkg
    credHigh := (q.turnTaken t k x n).credHigh, credNormal := (q.turnTaken t k x n).credNormal, credBkg := (q.turnTaken t k x n).credBkg } := by
  unfold turnTaken
  dsimp only
  split
  · rfl
  · cases t
    case admin | urgent | aged => rfl
    all_goals dsimp only; split <;> rfl

/-- The context that an entry of a queue takes (R95, Table 4.4). -/
structure Ctx.TakenFrom (x : Ctx) (s : State) (key : Nat) (q : Sq) (e : Sqe) : Prop where
  sqe : x.sqe = e
  state : x.state = .fetched
  sqid : x.sqid = key
  fn : x.fn = q.fn
  slice : x.slice = q.slice
  cls : x.cls = s.sqClass q
  admin : x.admin = decide (4096 ≤ key)
  arrival : x.arrival = q.arrivals.headD 0
  fetchOrd : x.fetchOrd = s.qen.fetches
  dsn : x.dsn = 0
  bufs : x.bufs = []
  fua : x.fua = fuaOf e
  stall : x.bmeStall = !s.busMaster q.fn

/-- The queue after its oldest entry has been fetched. -/
def Sq.advanced (q : Sq) : Sq :=
  { q with head := (q.head + 1) % q.size, arrivals := q.arrivals.tail, promoted := false, urgentTurn := false, fetched := true }

namespace State

/-- A context is entered, and its queue moves on. -/
def enterCtx (c key : Nat) (x : Ctx) (q : Sq) (s : State) : State :=
  (s.modQen fun n => { n with ctxs := Tbl.put n.ctxs c x, fetches := n.fetches + 1, sqs := Tbl.put n.sqs key q.advanced }).askList c

section
variable {s : State} {key c : Nat} {q : Sq} (e : Sqe) (found : Tbl.find? s.qen.sqs key = some q) (next : s.nextCtx = some c)
include found next

/-- An entry takes its context; an I/O command is charged to its slice. -/
theorem fetchOne_enters : ∃ x bytes, x.TakenFrom s key q e ∧
    s.fetchOne key e = if key < 4096 then (s.enterCtx c key x q).chargeTokens q.slice e bytes else s.enterCtx c key x q := by
  unfold nextCtx at next
  unfold fetchOne
  rw [found, next]
  simp only [decide_eq_true_eq]
  refine ⟨_, _, ?_, rfl⟩
  split <;> constructor <;> rfl

/-- What fetching one entry leaves and what it changes. -/
theorem fetchEntries_one (on : s.sqOn key q = true) (room : s.ctxRoom key q = true) : ∃ x, x.TakenFrom s key q e ∧
    (s.fetchEntries key [e]).qen = { s.qen with
      ctxs := Tbl.put s.qen.ctxs c x, fetches := s.qen.fetches + 1, sqs := Tbl.put s.qen.sqs key q.advanced } ∧
    (4096 ≤ key → (s.fetchEntries key [e]).tnu = s.tnu) ∧ Touch 1792 s (s.fetchEntries key [e]) := by
  obtain ⟨x, bytes, taken, run⟩ := fetchOne_enters e found next
  have entered : Touch 768 s (s.enterCtx c key x q) := askList_touch _ _ rfl (touch_modQen _ rfl (Touch.refl _ s))
  have qen : (s.enterCtx c key x q).qen = _ := (askList_touch c _ (m := 256) rfl (Touch.refl _ _)).qen rfl
  have one : s.fetchEntries key [e] = s.fetchOne key e := by
    simp only [fetchEntries, found, on, room, Bool.and_self, if_true]
  rw [one, run]
  refine ⟨x, taken, ?_⟩
  by_cases io : key < 4096
  · have charged := chargeTokens_touch q.slice e bytes (s.enterCtx c key x q) (m := 1024) rfl (Touch.refl _ _)
    rw [if_pos io]
    exact ⟨(charged.qen rfl).trans qen, fun admin => absurd io (by omega), (entered.mono rfl).trans (charged.mono rfl)⟩
  · rw [if_neg io]
    exact ⟨qen, fun _ => entered.tnu rfl, entered.mono rfl⟩

end

/-! ## States that fetch alike -/

/-- From `s` to `u` nothing changes that decides what an entry of a queue takes. -/
structure FetchesAs (s u : State) : Prop where
  touch : Touch 776 s u
  qen : u.qen = { s.qen with
    going := u.qen.going, rrAdmin := u.qen.rrAdmin, rrUrgent := u.qen.rrUrgent, rrHigh := u.qen.rrHigh, rrNormal := u.qen.rrNormal
    rrBkg := u.qen.rrBkg, credHigh := u.qen.credHigh, credNormal := u.qen.credNormal, credBkg := u.qen.credBkg }
  fns : u.hlu.fns = s.hlu.fns

theorem turnTaken_fetchesAs (s : State) (t : Turn) (key : Nat) (q : Sq) (n : Nat) : FetchesAs s (s.modQen fun x => x.turnTaken t key q n) :=
  ⟨touch_modQen _ rfl (Touch.refl _ s), s.qen.eq_of_turnTaken t key q n, rfl⟩

theorem fetched_fetchesAs (s : State) (n m : Nat) : FetchesAs s (((s.arrive 0).freeTag n).received m) :=
  ⟨touch_modHlu _ rfl (touch_modHlu _ rfl (arrive_touch 0 s rfl (Touch.refl _ s))), rfl, rfl⟩

namespace FetchesAs

variable {s u : State} (h : FetchesAs s u)
include h

theorem obj (o : Obj) (i j : Nat) : u.obj o i j = s.obj o i j := obj_congr (h.touch.sheet rfl) (h.touch.sheetOld rfl) o i j

theorem sqs : u.qen.sqs = s.qen.sqs := by rw [h.qen]

theorem ctxs : u.qen.ctxs = s.qen.ctxs := by rw [h.qen]

theorem fetches : u.qen.fetches = s.qen.fetches := by rw [h.qen]

theorem nextCtx : u.nextCtx = s.nextCtx := by rw [State.nextCtx, h.qen]; rfl

theorem sqClass (q : Sq) : u.sqClass q = s.sqClass q := by simp only [State.sqClass, h.obj]

theorem busMaster (fn : Nat) : u.busMaster fn = s.busMaster fn := by simp only [State.busMaster, h.fns]

theorem sqOn (key : Nat) (q : Sq) : u.sqOn key q = s.sqOn key q := by
  have ctrl : u.qen.ctrl q.fn = s.qen.ctrl q.fn := by rw [h.qen]; rfl
  have act : u.qen.act = s.qen.act := by rw [h.qen]
  have stop : u.qen.fetchStop = s.qen.fetchStop := by rw [h.qen]
  have shutting : u.qen.shutting = s.qen.shutting := by rw [h.qen]
  simp only [State.sqOn, State.gapped, State.tokensHeld, sliceObj, ctrl, act, stop, shutting, h.obj, h.busMaster, h.touch.hum rfl, h.touch.ccl rfl,
    h.touch.power rfl, h.touch.tnu rfl]

theorem ctxRoom (key : Nat) (q : Sq) : u.ctxRoom key q = s.ctxRoom key q := by
  have pool : u.qen.poolUsed = s.qen.poolUsed := by rw [h.qen]; rfl
  have alloc : ∀ sl, u.qen.sliceAlloc sl = s.qen.sliceAlloc sl := fun sl => by rw [h.qen]; rfl
  have ids : u.sliceIds = s.sliceIds := by simp only [sliceIds, h.touch.sheet rfl]
  have reserved : ∀ sl, u.ctxReserved sl = s.ctxReserved sl := fun sl => by simp only [ctxReserved, sliceObj, ids, alloc, h.obj]
  unfold State.ctxRoom sliceObj
  rw [h.ctxs, pool, alloc, reserved, reserved, h.obj, h.obj]

end FetchesAs

/-! ## The entry takes the lowest free context -/

/-- The number below which every one is in use, or was until this tick, is the next context's (R16; log entry 19). -/
theorem nextCtx_lowest {s : State} {c : Nat} (inRange : c < 16384) (unused : Tbl.has s.qen.ctxs c = false) (old : ∀ f ∈ s.qen.freed, f.1 ≠ c)
    (below : ∀ j, j < c → Tbl.has s.qen.ctxs j = true ∨ ∃ f ∈ s.qen.freed, f.1 = j) : s.nextCtx = some c := by
  refine firstFree_eq 0 (Nat.zero_le c) (by omega) ?_ fun j _ lt => ?_
  · simpa [unused] using old
  · simpa using below j lt

section
variable {s u : State} {key c : Nat} {q : Sq} {e : Sqe} (found : Tbl.find? s.qen.sqs key = some q) (on : s.sqOn key q = true)
  (room : s.ctxRoom key q = true) (next : s.nextCtx = some c) (same : FetchesAs s u)
include found on room next same

/-- R95, R98: one entry that is brought takes context `c`. -/
theorem fetch_fills {i : Instr} (run : exec i s = .next (u.fetchEntries key [e])) :
    ∃ t x, exec i s = .next t ∧ Tbl.find? t.qen.ctxs c = some x ∧ x.sqe = e ∧ x.state = .fetched ∧ x.sqid = key ∧ x.fn = q.fn ∧
      x.slice = q.slice ∧ x.cls = s.sqClass q ∧ x.admin = decide (4096 ≤ key) ∧ x.arrival = q.arrivals.headD 0 ∧ x.fetchOrd = s.qen.fetches ∧ x.dsn = 0 ∧ x.bufs = [] ∧
      x.fua = fuaOf e ∧ (x.bmeStall = true ↔ s.busMaster q.fn = false) ∧
      (∀ k, k ≠ c → Tbl.find? t.qen.ctxs k = Tbl.find? s.qen.ctxs k) ∧
      Tbl.find? t.qen.sqs key = some q.advanced ∧
      (∀ k, k ≠ key → Tbl.find? t.qen.sqs k = Tbl.find? s.qen.sqs k) ∧ t.qen.fetches = s.qen.fetches + 1 ∧ (4096 ≤ key → t.tnu = s.tnu) ∧
      t.tbu = u.tbu ∧ t = { s with tbu := t.tbu, hlu := t.hlu, qen := t.qen, tnu := t.tnu } := by
  obtain ⟨x, taken, qen, admin, touch⟩ := fetchEntries_one e (same.sqs ▸ found) (same.nextCtx.trans next) ((same.sqOn key q).trans on) ((same.ctxRoom key q).trans room)
  have frame := ((same.touch.mono (m := 1800) rfl).trans (touch.mono rfl)).eq_masked
  refine ⟨_, x, run, ?_, taken.sqe, taken.state, taken.sqid, taken.fn, taken.slice, taken.cls.trans (same.sqClass q), taken.admin, taken.arrival,
    taken.fetchOrd.trans same.fetches, taken.dsn, taken.bufs, taken.fua, ?_, fun k hk => ?_, ?_, fun k hk => ?_, ?_,
    fun h => (admin h).trans (same.touch.tnu rfl), touch.tbu rfl, frame⟩
  · rw [qen]
    exact Tbl.find?_put_same _ _ _
  · rw [taken.stall, same.busMaster, Bool.not_eq_true']
  · rw [qen, ← same.ctxs]
    exact Tbl.find?_put_other _ _ hk
  · rw [qen]
    exact Tbl.find?_put_same _ _ _
  · rw [qen, ← same.sqs]
    exact Tbl.find?_put_other _ _ hk
  · rw [qen, ← same.fetches]

end

/-! ## SQ_ENTRY_FETCH -/

section
variable {s : State} {key : Nat} {u : Turn} {q : Sq} (wins : s.winnerSq = some (u, key, q))
include wins

theorem exec_sqEntryFetch_cmb {o : Nat} (cmb : q.cmb = some o) : exec (.sqEntryFetch key) s =
    .next ((s.modQen fun n => n.turnTaken u key q (s.qen.turnEntries key q)).fetchEntries key (s.cmbEntries q o (s.qen.turnEntries key q))) := by
  change execSqEntryFetch key s = _
  simp only [execSqEntryFetch, wins, if_true, cmb]

theorem exec_sqEntryFetch_host (cmb : q.cmb = none) : exec (.sqEntryFetch key) s = .next (s.fetchRead u key q (s.qen.turnEntries key q)) := by
  change execSqEntryFetch key s = _
  simp only [execSqEntryFetch, wins, if_true, cmb]

end

theorem exec_sqEntryFetch_other {s : State} {n : Nat} (other : ∀ u key q, s.winnerSq = some (u, key, q) → n ≠ key) : exec (.sqEntryFetch n) s = .next s := by
  change execSqEntryFetch n s = _
  unfold execSqEntryFetch
  split
  next t key q wins => exact if_neg (other t key q wins).symm
  next => rfl

/-- R71, R98: a turn of a queue in host memory is one read under a free tag. -/
theorem fetchRead_asks {s : State} {u : Turn} {key n tag : Nat} {q : Sq} (page : s.hlu.pageOk q.fn (s.dmaPasid (q.chargedTo key)) (q.nextAddr / 4096) q.untrans = true)
    (free : s.nextTag = some tag) : ∃ t, s.fetchRead u key q n = t ∧
      t.out = .memRead tag q.fn (s.dmaPasid (q.chargedTo key)) q.nextAddr (64 * n) :: s.out ∧
      t.hlu = { s.hlu with tags := Tbl.put s.hlu.tags tag { use := .fetch key n, fn := q.fn, slice := q.chargedTo key, phase := .outstanding, since := s.now, untranslated := q.untrans } } ∧
      t.qen.ctxs = s.qen.ctxs ∧ t.qen.sqs = Tbl.put s.qen.sqs key { q with untrans := false } ∧ t = { s with out := t.out, hlu := t.hlu, qen := t.qen } := by
  have ctxs : (s.qen.turnTaken u key q n).ctxs = s.qen.ctxs := by rw [Qen.eq_of_turnTaken]
  have run : s.fetchRead u key q n = ((s.modQen fun x => { x.turnTaken u key q n with sqs := Tbl.put x.sqs key { q with untrans := false } }).issueTag tag
      (.fetch key n) q.fn (q.chargedTo key) q.untrans).emit (.memRead tag q.fn (s.dmaPasid (q.chargedTo key)) q.nextAddr (64 * n)) := by
    rw [fetchRead, if_pos page, free]
  exact ⟨_, run, rfl, rfl, ctxs, rfl, rfl⟩

/-! ## FETCH_AGE_PROMOTION (R101) -/

section
variable {s : State} {n : Nat} {q : Sq} (found : Tbl.find? s.qen.sqs n = some q) (io : n < 4096)
include found io

/-- R101: an aged entry lifts its queue one class; one whose queue is then High, and older than AGE_HIGH_US, has the next turn. -/
theorem exec_fetchAgePromotion_lifts (flat : q.promoted = false) (aged : (s.sqClass q = .background ∧ s.waited q (s.obj Ob.QEN_AGE_BKG_US) = true) ∨
    (s.sqClass q = .normal ∧ s.waited q (s.obj Ob.QEN_AGE_NORMAL_US) = true ∧ s.waited q (s.obj Ob.AGE_HIGH_US) = false)) :
    exec (.fetchAgePromotion n) s = .next (s.modQen fun x => { x with sqs := Tbl.put x.sqs n { q with promoted := true } }) := by
  change execFetchAgePromotion n s = _
  have cls : s.sqClass { q with promoted := true } = s.sqClass q := rfl
  have waited : s.waited { q with promoted := true } (s.obj Ob.AGE_HIGH_US) = s.waited q (s.obj Ob.AGE_HIGH_US) := rfl
  rcases aged with ⟨background, old⟩ | ⟨normal, old, young⟩
  · simp [execFetchAgePromotion, found, io, flat, background, old, sqEff, cls]
  · simp [execFetchAgePromotion, found, io, flat, normal, old, waited, young]

theorem exec_fetchAgePromotion_urgent (high : s.sqClass q = .high) (old : s.waited q (s.obj Ob.AGE_HIGH_US) = true) :
    exec (.fetchAgePromotion n) s = .next (s.modQen fun x => { x with sqs := Tbl.put x.sqs n { q with urgentTurn := true } }) := by
  change execFetchAgePromotion n s = _
  have eff : s.sqEff q = .high := by simp [sqEff, high]
  simp [execFetchAgePromotion, found, io, high, eff, old]

end

/-- A queue that takes another value is the only thing that changes. -/
theorem putSq_alone (s : State) (n : Nat) (q : Sq) {i : Instr} (run : exec i s = .next (s.modQen fun x => { x with sqs := Tbl.put x.sqs n q })) :
    ∃ t, exec i s = .next t ∧ Tbl.find? t.qen.sqs n = some q ∧ (∀ k, k ≠ n → Tbl.find? t.qen.sqs k = Tbl.find? s.qen.sqs k) ∧
      t = { s with qen := { s.qen with sqs := t.qen.sqs } } :=
  ⟨_, run, Tbl.find?_put_same _ _ _, fun _ hk => Tbl.find?_put_other _ _ hk, rfl⟩

end State

/-- Settles O14: the entry that a turn or a read brings, the turn of a queue in host memory, and promotion by age. -/
theorem fetchesFillContextsInArbitrationOrder : Obligations.FetchesFillContextsInArbitrationOrder := by
  unfold Obligations.FetchesFillContextsInArbitrationOrder
  refine ⟨fun s i key c q e found on room brings inRange unused old below => ?_, fun s u key q wins host => ⟨fun tag page free => ?_, fun page => ?_⟩,
    fun s n other => State.exec_sqEntryFetch_other other, fun s n q found io => ⟨fun o us which flat cls aged => ?_, fun high old => ?_⟩⟩
  · have next := State.nextCtx_lowest inRange unused old below
    rcases brings with ⟨u, o, rfl, wins, cmb, entries⟩ | ⟨n, g, d, rfl, open_, tag, waits, use, rfl⟩
    · rw [if_pos rfl]
      refine State.fetch_fills found on room next (s.turnTaken_fetchesAs u key q (s.qen.turnEntries key q)) ?_
      rw [State.exec_sqEntryFetch_cmb wins cmb, entries]
    · rw [if_neg (by nofun)]
      refine State.fetch_fills found on room next (s.fetched_fetchesAs n (64 * 1)) ?_
      rw [State.exec_completionReceived open_ tag waits, State.endTag_fetch _ use]
      rfl
  · obtain ⟨t, run, after⟩ := State.fetchRead_asks (u := u) (n := s.qen.turnEntries key q) page free
    exact ⟨t, (State.exec_sqEntryFetch_host wins host).trans (congrArg _ run), after⟩
  · rw [State.exec_sqEntryFetch_host wins host, State.fetchRead, if_neg (by rw [page]; nofun)]
  · refine s.putSq_alone n _ (State.exec_fetchAgePromotion_lifts found io flat ?_)
    rcases which with ⟨rfl, rfl⟩ | ⟨rfl, rfl, young⟩
    · exact .inl ⟨cls, aged⟩
    · exact .inr ⟨cls, aged, young⟩
  · exact s.putSq_alone n _ (State.exec_fetchAgePromotion_urgent found io high old)

end Sys2Proof.Machine
end

section
/-! PROOFS. Posting (R77, R95, R108, R111, R124, R150, R152): the entry of a completion queue and its interrupt, the entry of the dirty log before it, what the context leaves, and O15. -/

namespace Sys2Proof.Machine

/-- The queue after an entry has been written at its tail. -/
def Cq.advanced (q : Cq) : Cq :=
  { q with tail := (q.tail + 1) % q.size, phase := if q.tail + 1 = q.size then !q.phase else q.phase, untrans := false }

namespace State

/-! ## The interrupt of a completion queue (R111) -/

theorem signalCq_signals {s : State} {key : Nat} {q : Cq} (found : Tbl.find? s.qen.cqs key = some q) :
    ∃ n since o, Tbl.find? (s.signalCq key).qen.cqs key = some { q with unsignalled := n, since := since } ∧
      (∀ k, k ≠ key → Tbl.find? (s.signalCq key).qen.cqs k = Tbl.find? s.qen.cqs k) ∧
      (s.signalCq key).qen = { s.qen with cqs := (s.signalCq key).qen.cqs } ∧ (s.signalCq key).out = o ++ s.out := by
  unfold signalCq
  rw [found]
  dsimp only
  split
  · exact ⟨q.unsignalled, q.since, [], found, fun _ _ => rfl, rfl, rfl⟩
  split
  · exact ⟨_, _, [], Tbl.find?_put_same _ _ _, fun _ hk => Tbl.find?_put_other _ _ hk, rfl, rfl⟩
  · exact ⟨_, _, [_], Tbl.find?_put_same _ _ _, fun _ hk => Tbl.find?_put_other _ _ hk, rfl, rfl⟩

/-! ## The page of the entry is logged before it is written (R150, R152) -/

/-- The dirty log takes at most one entry, with its phase. -/
theorem dlogEntry_out (s : State) (sl : Nat) (e : Dword) :
    ∃ p, (s.dlogEntry sl e).out = p ++ s.out ∧ (s.dlogOn sl = false → p = []) ∧
      ∀ m ∈ p, ∃ a, m = .dirtyEntry sl a e ∨ m = .dirtyEntry sl a (e ||| 1) := by
  by_cases unlogged : s.dlogOn sl = false ∨ (sl, e) ∈ s.tnu.filter ∨ e ∈ (s.tnu.slice sl).dlogWait
  · exact ⟨[], by rw [dlogEntry, if_pos unlogged]; rfl, fun _ => rfl, nofun⟩
  have on : s.dlogOn sl ≠ false := fun off => unlogged (.inl off)
  by_cases stalled : s.dlogStalled sl = true
  · exact ⟨[], by rw [dlogEntry, if_neg unlogged, if_pos stalled]; rfl, fun _ => rfl, nofun⟩
  · refine ⟨[_], by rw [dlogEntry, if_neg unlogged, if_neg stalled]; rfl, fun off => absurd off on, fun m hm => ⟨(s.tnu.slice sl).dlogTail, ?_⟩⟩
    rw [List.mem_singleton.mp hm]
    cases (s.tnu.slice sl).dlogPhase
    · exact .inl rfl
    · exact .inr rfl

/-- The page of an I/O command's entry is logged. -/
def cqPageLogged (q : Cq) (x : Ctx) (s : State) : State := if x.admin then s else s.dlogEntry q.slice (pageEntry (q.nextAddr / 4096))

theorem cqPageLogged_out (s : State) (q : Cq) (x : Ctx) :
    ∃ p, (s.cqPageLogged q x).out = p ++ s.out ∧ (x.admin = true ∨ s.dlogOn q.slice = false → p = []) ∧
      ∀ m ∈ p, ∃ a, m = .dirtyEntry q.slice a (pageEntry (q.nextAddr / 4096)) ∨ m = .dirtyEntry q.slice a (pageEntry (q.nextAddr / 4096) ||| 1) := by
  by_cases admin : x.admin = true
  · exact ⟨[], by rw [cqPageLogged, if_pos admin]; rfl, fun _ => rfl, nofun⟩
  · obtain ⟨p, out, off, logged⟩ := s.dlogEntry_out q.slice (pageEntry (q.nextAddr / 4096))
    exact ⟨p, by rw [cqPageLogged, if_neg admin, out], fun h => off (h.resolve_left admin), logged⟩

theorem cqPageLogged_touch (s : State) (q : Cq) (x : Ctx) : Touch 1025 s (s.cqPageLogged q x) := by
  unfold cqPageLogged
  split
  · exact .refl _ s
  · exact dlogEntry_touch _ _ s rfl (.refl _ s)

theorem cqPageLogged_admin (s : State) (q : Cq) {x : Ctx} (admin : x.admin = true) : s.cqPageLogged q x = s := if_pos admin

/-! ## The entry (R111) -/

/-- The entry is written at the queue's tail. -/
def cqeWritten (key : Nat) (q : Cq) (x : Ctx) (s : State) : State :=
  (s.emit (.cqe key x.sqid x.sqe.cid.toNat (((Tbl.find? s.qen.sqs x.sqid).map Sq.head).getD 0) x.status x.result q.phase
    q.fn (s.dmaPasid x.chargedTo) q.nextAddr)).modQen fun n => { n with cqs := Tbl.put n.cqs key q.advanced }

theorem postCqe_eq (s : State) (key : Nat) (q : Cq) (x : Ctx) : s.postCqe key q x = ((s.cqPageLogged q x).cqeWritten key q x).signalCq key := rfl

theorem postCqe_writes (s : State) (key : Nat) (q : Cq) (x : Ctx) :
    ∃ q' o p, Tbl.find? (s.postCqe key q x).qen.cqs key = some q' ∧ q'.tail = (q.tail + 1) % q.size ∧ q'.head = q.head ∧ q'.size = q.size ∧
      q'.phase = (if q.tail + 1 = q.size then !q.phase else q.phase) ∧
      (∀ k, k ≠ key → Tbl.find? (s.postCqe key q x).qen.cqs k = Tbl.find? s.qen.cqs k) ∧
      (s.postCqe key q x).out = o ++ .cqe key x.sqid x.sqe.cid.toNat (((Tbl.find? s.qen.sqs x.sqid).map Sq.head).getD 0) x.status x.result q.phase
          q.fn (s.dmaPasid x.chargedTo) q.nextAddr :: (p ++ s.out) ∧
      (x.admin = true ∨ s.dlogOn q.slice = false → p = []) ∧
      (∀ m ∈ p, ∃ a, m = .dirtyEntry q.slice a (pageEntry (q.nextAddr / 4096)) ∨ m = .dirtyEntry q.slice a (pageEntry (q.nextAddr / 4096) ||| 1)) ∧
      (s.postCqe key q x).qen = { s.qen with cqs := (s.postCqe key q x).qen.cqs } ∧
      (x.admin = true → (s.postCqe key q x).tnu = s.tnu) := by
  obtain ⟨p, logged, off, entries⟩ := s.cqPageLogged_out q x
  have touch := s.cqPageLogged_touch q x
  have qen : (s.cqPageLogged q x).qen = s.qen := touch.qen rfl
  have obj : ∀ o i j, (s.cqPageLogged q x).obj o i j = s.obj o i j := obj_congr (touch.sheet rfl) (touch.sheetOld rfl)
  have pasid : (s.cqPageLogged q x).dmaPasid x.chargedTo = s.dmaPasid x.chargedTo := by
    unfold dmaPasid slicePasid sliceObj
    rw [obj, obj]
  obtain ⟨n, since, o, found, other, alone, out⟩ := signalCq_signals (s := (s.cqPageLogged q x).cqeWritten key q x) (Tbl.find?_put_same _ key q.advanced)
  rw [postCqe_eq]
  refine ⟨_, o, p, found, rfl, rfl, rfl, rfl, fun k hk => (other k hk).trans ?_, out.trans ?_, off, entries, alone.trans ?_, fun admin => ?_⟩
  · rw [← qen]
    exact Tbl.find?_put_other _ _ hk
  · rw [← logged, ← pasid, ← qen]
    rfl
  · rw [← qen]
    rfl
  · rw [(signalCq_touch key _ (m := 513) rfl (.refl _ ((s.cqPageLogged q x).cqeWritten key q x))).tnu rfl, s.cqPageLogged_admin q admin]
    rfl

/-! ## The context goes (R95, R108, R124, R528) -/

/-- A deletion that is done ends its command and takes its queue away. -/
theorem deletionsDone_leaves (s : State) : NoneNew s s.deletionsDone ∧ s.deletionsDone.qen.cqs = s.qen.cqs := by
  unfold deletionsDone
  generalize List.filter _ s.qen.ctxs = l
  induction l generalizing s with
  | nil => exact ⟨.refl s, rfl⟩
  | cons e l ih =>
    have ended : NoneNew s ((s.modQen fun q => { q with sqs := q.sqs.filter fun f => !e.2.waits.contains f.1 }).finish e.1 0) := fun c hc =>
      (Tbl.has_adjust s.qen.ctxs e.1 c fun x => { x with state := .ready, status := 0, accepted := false }).symm.trans hc
    obtain ⟨noneNew, cqs⟩ := ih ((s.modQen fun q => { q with sqs := q.sqs.filter fun f => !e.2.waits.contains f.1 }).finish e.1 0)
    exact ⟨ended.trans noneNew, cqs⟩

/-- The state once a posted context has gone. -/
def contextPosted (c : Nat) (x : Ctx) (s : State) : State := ((((s.freeBufs x.bufs).writePosted x).activationPosted c).freeCtx c).deletionsDone

theorem writePosted_qen (s : State) (x : Ctx) : (s.writePosted x).qen = s.qen := (writePosted_touch x s (m := 4096) rfl (.refl _ s)).qen rfl

theorem writePosted_mxe (s : State) (x : Ctx) : (s.writePosted x).mxe = if x.admin = false ∧ x.sqe.opcode = 0x01 ∧ x.dsn ≠ 0 then
    { s.mxe with writes := Tbl.adjust s.mxe.writes x.dsn fun w => { w with ctx := none, posted := true } } else s.mxe := by
  unfold writePosted
  split <;> rfl

theorem activationPosted_cqs (s : State) (c : Nat) : (s.activationPosted c).qen.cqs = s.qen.cqs := by
  unfold activationPosted
  split <;> rfl

theorem activationPosted_csu (s : State) (c : Nat) : (s.activationPosted c).csu =
    if s.qen.actCtx = some c then { s.csu with window := some s.now } else s.csu := by
  unfold activationPosted
  split <;> rfl

theorem freeCtx_cqs (s : State) (c : Nat) : (s.freeCtx c).qen.cqs = s.qen.cqs := by
  unfold freeCtx
  split <;> rfl

section
variable (s : State) (c : Nat) (x : Ctx)

theorem contextPosted_touch : Touch 15995425 s (s.contextPosted c x) := by
  have freed := freeBufs_touch x.bufs s (m := 15995425) rfl (.refl _ s)
  have posted := activationPosted_touch c _ (m := 15995425) rfl (writePosted_touch x _ rfl freed)
  exact deletionsDone_touch _ rfl (freeCtx_touch c _ rfl posted)

theorem contextPosted_out : ∃ o, (s.contextPosted c x).out = o ++ s.out := by
  obtain ⟨o, out⟩ := (s.freeBufs_same x.bufs).out
  have posted := activationPosted_touch c _ (m := 2101760) rfl (writePosted_touch x _ rfl (.refl _ (s.freeBufs x.bufs)))
  exact ⟨o, ((deletionsDone_touch _ rfl (freeCtx_touch c _ rfl posted)).out rfl).trans out⟩

theorem contextPosted_cqs : (s.contextPosted c x).qen.cqs = s.qen.cqs := by
  have freed : (s.freeBufs x.bufs).qen.cqs = s.qen.cqs := by rw [(s.freeBufs_same x.bufs).qen]
  rw [contextPosted, (deletionsDone_leaves _).2, freeCtx_cqs, activationPosted_cqs, writePosted_qen, freed]

/-- R95: the context is free. -/
theorem contextPosted_gone : Tbl.find? (s.contextPosted c x).qen.ctxs c = none := (deletionsDone_leaves _).1.gone (freeCtx_gone _ c)

/-- R108: a posted write is left to its placement record. -/
theorem contextPosted_mxe : (s.contextPosted c x).mxe = if x.admin = false ∧ x.sqe.opcode = 0x01 ∧ x.dsn ≠ 0 then
    { s.mxe with writes := Tbl.adjust s.mxe.writes x.dsn fun w => { w with ctx := none, posted := true } } else s.mxe := by
  have later := deletionsDone_touch _ (m := 2097664) rfl (freeCtx_touch c _ rfl (activationPosted_touch c _ rfl (.refl _ ((s.freeBufs x.bufs).writePosted x))))
  have freed : (s.freeBufs x.bufs).mxe = s.mxe := by simp
  exact (later.mxe rfl).trans (freed ▸ writePosted_mxe (s.freeBufs x.bufs) x)

/-- R124: the posting of an activation starts the confirmation window. -/
theorem contextPosted_csu : (s.contextPosted c x).csu = if s.qen.actCtx = some c then { s.csu with window := some s.now } else s.csu := by
  have later := deletionsDone_touch _ (m := 512) rfl (freeCtx_touch c _ rfl (.refl _ (((s.freeBufs x.bufs).writePosted x).activationPosted c)))
  have freed := writePosted_touch x _ (m := 13898273) rfl (freeBufs_touch x.bufs s rfl (.refl _ s))
  have waits : ((s.freeBufs x.bufs).writePosted x).qen.actCtx = s.qen.actCtx := by rw [writePosted_qen, (s.freeBufs_same x.bufs).qen]
  rw [contextPosted, later.csu rfl, activationPosted_csu, waits, freed.csu rfl]
  simp only [now, freed.tbu rfl]

end

/-! ## POSTING_DECISION -/

section
variable {s : State} {c key : Nat} {x : Ctx} {q : Cq} (found : Tbl.find? s.qen.ctxs c = some x) (ready : x.state = .ready) (own : x.win = none)
  (queue : s.cqOf x = some (key, q))
include found ready own queue

theorem exec_postingDecision_posts (may : s.mayPost x q = true) : exec (.postingDecision c) s = .next (((s.sample 6).postCqe key q x).contextPosted c x) := by
  change execPostingDecision c s = _
  simp only [execPostingDecision, found, ready, own, queue, may, and_self, if_true]
  rfl

theorem exec_postingDecision_waits (may : s.mayPost x q = false) : exec (.postingDecision c) s =
    if s.cqPageOk x q = false ∧ x.bmeStall = false then .next (s.askPage q.fn x.chargedTo (q.nextAddr / 4096)) else .next s := by
  change execPostingDecision c s = _
  simp [execPostingDecision, found, ready, own, queue, may]

end

theorem exec_interruptCoalescingExpiry_signals {s : State} {n : Nat} {q : Cq} {u : Dword} (found : Tbl.find? s.qen.cqs n = some q) (counted : q.unsignalled ≠ 0)
    (since : q.since = some u) (due : s.passed u (usTicks (100 * (s.qen.ctrl q.fn).coalTime)) = true) (master : s.busMaster q.fn = true) :
    exec (.interruptCoalescingExpiry n) s =
      .next ((s.emit (.msix q.fn q.vec)).modQen fun x => { x with cqs := Tbl.put x.cqs n { q with unsignalled := 0, since := none } }) := by
  change execInterruptCoalescingExpiry n s = _
  have passed : s.passedSome q.since (usTicks (100 * (s.qen.ctrl q.fn).coalTime)) = true := by rw [since]; exact due
  simp only [execInterruptCoalescingExpiry, found]
  exact if_pos ⟨counted, passed, master⟩

end State

/-- Settles O15: the entry that a posting writes and what it leaves, the decision that waits, and the coalescing time. -/
theorem postingWritesTheCompletionAndFreesTheContext : Obligations.PostingWritesTheCompletionAndFreesTheContext := by
  unfold Obligations.PostingWritesTheCompletionAndFreesTheContext
  refine ⟨fun s c key x q found ready own queue => ⟨fun may => ?_, fun may held => ?_, fun may page live => ?_⟩,
    fun s n q u found counted since due master => ⟨_, State.exec_interruptCoalescingExpiry_signals found counted since due master, rfl,
      Tbl.find?_put_same _ _ _, fun _ hk => Tbl.find?_put_other _ _ hk, rfl⟩⟩
  · obtain ⟨q', o, p, written, tail, head, size, phase, other, out, unlogged, logged, qen, tnu⟩ := (s.sample 6).postCqe_writes key q x
    have entry := State.postCqe_touch key q x (s.sample 6) (m := 1537) rfl (.refl _ _)
    have gone := ((s.sample 6).postCqe key q x).contextPosted_touch c x
    obtain ⟨o', freed⟩ := ((s.sample 6).postCqe key q x).contextPosted_out c x
    have cqs := ((s.sample 6).postCqe key q x).contextPosted_cqs c x
    have mxe := ((s.sample 6).postCqe key q x).contextPosted_mxe c x
    have csu := ((s.sample 6).postCqe key q x).contextPosted_csu c x
    refine ⟨_, q', o' ++ o, p, State.exec_postingDecision_posts found ready own queue may, by rw [cqs, written], tail, head, size, phase,
      fun k hk => by rw [cqs]; exact other k hk, ?_, unlogged, logged, State.contextPosted_gone _ c x, fun admin => (gone.tnu rfl).trans (tnu admin),
      ?_, ?_, (gone.power rfl).trans (entry.power rfl), (gone.tbu rfl).trans (entry.tbu rfl), (gone.hlu rfl).trans (entry.hlu rfl), gone.pending.trans entry.pending⟩
    · rw [freed, out, List.append_assoc]
      rfl
    · rw [mxe, entry.mxe rfl]
      rfl
    · rw [csu, qen, entry.csu rfl, State.now, entry.tbu rfl]
      rfl
  · refine (State.exec_postingDecision_waits found ready own queue may).trans (if_neg fun ⟨page, live⟩ => ?_)
    rcases held with h | h
    · exact absurd (page.symm.trans h) nofun
    · exact absurd (live.symm.trans h) nofun
  · exact (State.exec_postingDecision_waits found ready own queue may).trans (if_pos ⟨page, live⟩)

end Sys2Proof.Machine
end

section
/-! PROOFS. Inbound Gallery traffic (R160, R161, R163, R164, R167, R169, R170, R181): what becomes of a peer's write, read or fence by the checks of Table 6.2, the completions of a read, the context of a read of an LBA window, and O41. -/

namespace Sys2Proof.Machine

/-- The context of a read with its slots as looked up. -/
def Ctx.lookedUp (x : Ctx) (work : List SlotWork) : Ctx :=
  { x with
    work := work
    state := if work.any SlotWork.waits then .lookup else .media
    mediaPend := (work.filter fun w => w.data.isNone && !w.lost).length
    status := if x.status = 0 ∧ work.any (fun w => w.lost) = true then stUnrecovered else x.status }

namespace State

/-! ## Arrival -/

section
variable (s : State) (p : PeerTlp) (n len : Nat) (w : Window)

@[simp] theorem galBar_arrive : (s.arrive n).galBar p = s.galBar p := rfl
@[simp] theorem galOffset_arrive : (s.arrive n).galOffset p = s.galOffset p := rfl
@[simp] theorem galPoisoned_arrive (win rel : Nat) : (s.arrive n).galPoisoned win rel len = s.galPoisoned win rel len := rfl
@[simp] theorem winRefusal_arrive (win : Nat) (wr : Bool) : (s.arrive n).winRefusal win w p len wr = s.winRefusal win w p len wr := rfl

end

/-! ## A refusal (R163) -/

/-- R163: a refusal sets its bit, names its window and is logged as an advisory error. -/
theorem galRefuse_tells (u : State) (win : Option Nat) (bit : Nat) (np : Bool) :
    (u.galRefuse win bit np).fld (galErrField bit) = 1 ∧ (u.galRefuse win bit np).gal = { u.gal with errNone := win.isNone, errWin := win.getD 0 } ∧
    (u.galRefuse win bit np).out = (if np then [.tlpCompletion .ur [] u.hlu.ecrcGen] else []) ++ .aer .advisory .advisory :: u.out ∧
    (u.galRefuse win bit np).hlu = { u.hlu with aer := .advisory :: u.hlu.aer } := by
  have told := u.eq_of_galError win bit
  have out : (u.galError win bit).out = u.out := by rw [told]
  have link : (u.galError win bit).hlu = u.hlu := by rw [told]
  rw [galRefuse_eq_discard, discard_advisory _ _ _ rfl]
  dsimp only
  exact ⟨u.fld_galError_same win bit, u.galError_gal win bit, by rw [out, link], by rw [link]⟩

theorem eq_of_galRefuse (u : State) (win : Option Nat) (bit : Nat) (np : Bool) : u.galRefuse win bit np = { u with
    out := (u.galRefuse win bit np).out, regf := (u.galRefuse win bit np).regf, gal := (u.galRefuse win bit np).gal
    hlu := (u.galRefuse win bit np).hlu, cru := (u.galRefuse win bit np).cru } :=
  (galRefuse_touch win bit np u (m := 8390945) rfl (Touch.refl _ u)).eq_masked

/-! ## What a write does -/

section
variable {u : State} {p : PeerTlp} {n : Nat} {w : Window} {bs : List Byte}

theorem galWriteIn_long (long : u.hlu.mps < bs.length) : u.galWriteIn p bs = u.aerLog .malformed := if_pos long

theorem galPoison_hits (hit : u.gal.hit (u.galOffset p) = some (n, w)) :
    u.galPoison (u.galOffset p) = ((u.linkError .poisoned).galError (some n) 3).galFault n := by
  have gal : (u.linkError .poisoned).gal = u.gal := by rw [eq_of_linkError]
  simp only [galPoison, gal, hit]

section
variable (fits : bs.length ≤ u.hlu.mps)
include fits

theorem galWriteIn_poisoned (poison : p.poison = true) : u.galWriteIn p bs = u.galPoison (u.galOffset p) := by
  rw [galWriteIn, if_neg (by omega), if_pos poison]

theorem galWriteIn_hits (clean : p.poison = false) (hit : u.gal.hit (u.galOffset p) = some (n, w)) : u.galWriteIn p bs = u.galWrite n w p bs := by
  rw [galWriteIn, if_neg (by omega), if_neg (by simp [clean]), hit]

theorem galWriteIn_misses (clean : p.poison = false) (miss : u.gal.hit (u.galOffset p) = none) : u.galWriteIn p bs = u.galRefuse none 8 false := by
  rw [galWriteIn, if_neg (by omega), if_neg (by simp [clean]), miss]

end

theorem galWrite_refused {b : Nat} (refused : u.winRefusal n w p bs.length true = some b) : u.galWrite n w p bs = u.galRefuse (some n) b false := by
  rw [galWrite, refused]

section
variable (passes : u.winRefusal n w p bs.length true = none)
include passes

theorem galWrite_overflows (lba : w.kind = .lba) (beyond : 2 ^ 20 * w.stageMib < u.stagedBytes n + bs.length) :
    u.galWrite n w p bs = (u.galError (some n) 4).galFault n := by
  simp only [galWrite, passes]
  exact if_pos ⟨lba, beyond⟩

theorem galWrite_stores (room : w.kind = .lba → u.stagedBytes n + bs.length ≤ 2 ^ 20 * w.stageMib) :
    u.galWrite n w p bs = u.galStore n w p.fn (u.galOffset p - w.first) bs := by
  simp only [galWrite, passes]
  exact if_neg fun ⟨lba, beyond⟩ => absurd (room lba) (by omega)

/-- R167: a write to an LBA window is whole pieces of 64 B. -/
theorem aligned_of_passes (lba : w.kind = .lba) : (u.galOffset p - w.first) % 64 = 0 ∧ bs.length % 64 = 0 := by
  by_contra unaligned
  simp only [winRefusal, if_true] at passes
  split_ifs at passes
  next aligned _ => exact aligned ⟨lba, trivial, by omega⟩

end

end

/-! ## The windows' memory (R161, R165) -/

/-- R161: a write to a window with memory of its own. -/
theorem galStore_memory {w : Window} (memory : w.kind ≠ .lba) (u : State) (n fn rel : Nat) (bs : List Byte) : u.galStore n w fn rel bs =
    (u.modGal fun g => { g with fifo := g.fifo ++ [(n, bs.length)], mem := Memory.writeAll 0 g.mem (galKey n rel) bs }).galClean n rel bs.length := by
  cases kind : w.kind
  case lba => exact absurd kind memory
  all_goals rw [galStore, kind]; rfl

/-! ## The units of an LBA window (R167, R168) -/

theorem galStore_pieces {w : Window} (lba : w.kind = .lba) (u : State) (n fn rel : Nat) (bs : List Byte) : u.galStore n w fn rel bs =
    (u.modGal fun g => { g with fifo := g.fifo ++ [(n, bs.length)] }).writePieces n w fn rel (bs.length / 64) bs := by
  rw [galStore, lba]

/-- Pieces of a write change units and nothing else. -/
theorem eq_of_writePieces (n : Nat) (w : Window) (fn rel k : Nat) (bs : List Byte) (u : State) : u.writePieces n w fn rel k bs =
    { u with gal := { u.gal with units := (u.writePieces n w fn rel k bs).gal.units, ready := (u.writePieces n w fn rel k bs).gal.ready } } := by
  induction k generalizing rel bs u with
  | zero => rfl
  | succ k ih =>
    have piece : u.writePiece n w fn rel (bs.take 64) = { u with gal := { u.gal with
        units := (u.writePiece n w fn rel (bs.take 64)).gal.units, ready := (u.writePiece n w fn rel (bs.take 64)).gal.ready } } := by
      simp only [writePiece, modGal]
      split <;> rfl
    rw [writePieces, ih, piece]

/-- A write to an LBA window changes the FIFO and units. -/
theorem queuedPieces_frame (u : State) (n : Nat) (w : Window) (fn rel : Nat) (bs : List Byte) :
    let t := (u.modGal fun g => { g with fifo := g.fifo ++ [(n, bs.length)] }).writePieces n w fn rel (bs.length / 64) bs
    t.gal.fifo = u.gal.fifo ++ [(n, bs.length)] ∧
      t = { u with gal := { u.gal with units := t.gal.units, ready := t.gal.ready, fifo := t.gal.fifo } } := by
  intro t
  have frame := eq_of_writePieces n w fn rel (bs.length / 64) bs (u.modGal fun g => { g with fifo := g.fifo ++ [(n, bs.length)] })
  have fifo : t.gal.fifo = u.gal.fifo ++ [(n, bs.length)] := congrArg (fun t => t.gal.fifo) frame
  exact ⟨fifo, frame.trans (by rw [fifo]; rfl)⟩

theorem writePieces_one (u : State) (n : Nat) (w : Window) (fn rel : Nat) {bs : List Byte} (one : bs.length = 64) :
    u.writePieces n w fn rel (bs.length / 64) bs = u.writePiece n w fn rel (bs.take 64) := by
  rw [one]
  rfl

/-- A unit with its first piece. -/
def firstPiece (n : Nat) (w : Window) (fn rel : Nat) (piece : List Byte) : LbaUnit :=
  { win := n, unit := rel / 4096, data := overPieces 0 (BitVec.ofNat 32768 (leNat piece * 2 ^ (8 * (rel % 4096)))) (BitVec.ofNat 64 (2 ^ (rel % 4096 / 64)))
    mask := BitVec.ofNat 64 (2 ^ (rel % 4096 / 64)), slice := w.owner, nsid := w.nsid.toNat, lba := w.lba + rel / 4096, fn := fn }

theorem firstPiece_mask (n : Nat) (w : Window) (fn rel : Nat) (piece : List Byte) {k : Nat} (hk : k < 64) :
    (firstPiece n w fn rel piece).mask.getLsbD k = true ↔ k = rel % 4096 / 64 := by
  change (BitVec.ofNat 64 (2 ^ (rel % 4096 / 64))).getLsbD k = true ↔ _
  rw [BitVec.getLsbD_ofNat, Nat.testBit_two_pow]
  simp only [hk, decide_true, Bool.true_and, decide_eq_true_eq]
  exact eq_comm

/-- One piece does not fill a unit. -/
theorem firstPiece_partial (n : Nat) (w : Window) (fn rel : Nat) (piece : List Byte) : (firstPiece n w fn rel piece).mask ≠ BitVec.allOnes 64 := by
  intro full
  have zero := (firstPiece_mask n w fn rel piece (k := 0) (by omega)).mp (by rw [full]; rfl)
  have one := (firstPiece_mask n w fn rel piece (k := 1) (by omega)).mp (by rw [full]; rfl)
  omega

/-- R168: the first piece of a unit that is not there begins it. -/
theorem writePiece_begins {u : State} {n : Nat} {w : Window} {rel : Nat} (fn : Nat) (piece : List Byte)
    (new : ∀ x ∈ u.gal.ready ++ u.gal.units, x.is n w (rel / 4096) = false) (parts : ∀ x ∈ u.gal.units, x.mask ≠ BitVec.allOnes 64) :
    (u.writePiece n w fn rel piece).gal.units = u.gal.units ++ [firstPiece n w fn rel piece] ∧ (u.writePiece n w fn rel piece).gal.ready = u.gal.ready := by
  have ready : (u.gal.ready.any fun x => x.is n w (rel / 4096)) = false := List.any_eq_false.mpr fun x hx => by simp [new x (List.mem_append_left _ hx)]
  have units : (u.gal.units.any fun x => x.is n w (rel / 4096)) = false := List.any_eq_false.mpr fun x hx => by simp [new x (List.mem_append_right _ hx)]
  have begun : (u.gal.units ++ [firstPiece n w fn rel piece]).filter (fun x => x.mask == BitVec.allOnes 64) = [] := by
    refine List.filter_eq_nil_iff.mpr fun x hx => ?_
    rcases List.mem_append.mp hx with old | new
    · simpa using parts x old
    · rw [List.mem_singleton.mp new]
      simpa using firstPiece_partial n w fn rel piece
  have kept : (u.gal.units ++ [firstPiece n w fn rel piece]).filter (fun x => !(x.mask == BitVec.allOnes 64)) = u.gal.units ++ [firstPiece n w fn rel piece] := by
    refine List.filter_eq_self.mpr fun x hx => ?_
    simpa using List.filter_eq_nil_iff.mp begun x hx
  have run : u.writePiece n w fn rel piece = u.modGal fun g => { g with
      units := (g.units ++ [firstPiece n w fn rel piece]).filter fun x => !(x.mask == BitVec.allOnes 64)
      ready := g.ready ++ (g.units ++ [firstPiece n w fn rel piece]).filter fun x => x.mask == BitVec.allOnes 64 } := by
    simp only [writePiece, modGal, ready, units]
    simp [LbaUnit.is, firstPiece]
  rw [run]
  exact ⟨kept, by simp only [modGal_gal, begun, List.append_nil]⟩

/-! ## The completions of a read (R65, R84) -/

theorem rcbPieces_flatten (mps addr : Nat) {fuel : Nat} {bs : List Byte} (h : bs.length ≤ fuel) : (rcbPieces mps addr fuel bs).flatten = bs := by
  induction fuel generalizing addr bs with
  | zero => simpa [rcbPieces] using h
  | succ fuel ih =>
    rw [rcbPieces]
    split
    next empty => simp [List.isEmpty_iff.mp empty]
    next => rw [List.flatten_cons, ih _ (by rw [List.length_drop]; omega), List.take_append_drop]

theorem rcbPieces_bounds {mps addr fuel : Nat} {bs : List Byte} : ∀ b ∈ rcbPieces mps addr fuel bs, b ≠ [] ∧ b.length ≤ max 1 mps := by
  induction fuel generalizing addr bs with
  | zero => simp [rcbPieces]
  | succ fuel ih =>
    rw [rcbPieces]
    split
    · simp
    next some =>
      have some : 0 < bs.length := List.length_pos_iff.mpr fun none => some (by simp [none])
      refine List.forall_mem_cons.mpr ⟨⟨List.ne_nil_of_length_pos ?_, ?_⟩, ih⟩ <;> rw [List.length_take] <;> omega

/-- One completion of a read. -/
def completion (kind : CplKind) (b : List Byte) (s : State) : State :=
  let s := (s.emit (.tlpCompletion kind b s.hlu.ecrcGen)).modHlu fun h => { h with txNow := h.txNow + b.length }
  if kind = .poisoned then s.count Fld.HLU_POISON_CNT.OUTBOUND 0 1 else s

theorem completeRead_eq (s : State) (kind : CplKind) (addr : Nat) (data : List Byte) :
    s.completeRead kind addr data = (rcbPieces s.hlu.mps addr data.length data).foldl (fun s b => s.completion kind b) s := rfl

theorem completion_out (s : State) (kind : CplKind) (b : List Byte) : (s.completion kind b).out = .tlpCompletion kind b s.hlu.ecrcGen :: s.out := by
  unfold completion
  dsimp only
  split <;> rfl

theorem completion_hlu (s : State) (kind : CplKind) (b : List Byte) : (s.completion kind b).hlu = { s.hlu with txNow := (s.completion kind b).hlu.txNow } := by
  unfold completion
  dsimp only
  split <;> rfl

theorem completions_fold (kind : CplKind) (ps : List (List Byte)) (s : State) :
    (ps.foldl (fun s b => s.completion kind b) s).out = (ps.reverse.map fun b => Emission.tlpCompletion kind b s.hlu.ecrcGen) ++ s.out ∧
    (ps.foldl (fun s b => s.completion kind b) s).hlu = { s.hlu with txNow := (ps.foldl (fun s b => s.completion kind b) s).hlu.txNow } := by
  induction ps generalizing s with
  | nil => exact ⟨rfl, rfl⟩
  | cons b ps ih =>
    obtain ⟨out, link⟩ := ih (s.completion kind b)
    rw [completion_out, completion_hlu] at out
    rw [completion_hlu] at link
    exact ⟨by simpa using out, link⟩

section
variable (s : State) (kind : CplKind) (addr : Nat) (data : List Byte)

theorem completeRead_answers : s.answeredRead (s.completeRead kind addr data) kind data :=
  ⟨_, (completions_fold kind _ s).1, rcbPieces_flatten _ _ le_rfl, rcbPieces_bounds⟩

theorem completeRead_hlu : (s.completeRead kind addr data).hlu = { s.hlu with txNow := (s.completeRead kind addr data).hlu.txNow } :=
  (completions_fold kind _ s).2

theorem eq_of_completeRead : s.completeRead kind addr data = { s with
    out := (s.completeRead kind addr data).out, regf := (s.completeRead kind addr data).regf
    hlu := { s.hlu with txNow := (s.completeRead kind addr data).hlu.txNow } } :=
  (completeRead_touch kind addr data s (m := 289) rfl (Touch.refl _ s)).eq_masked.trans
    (congrArg (fun h => { s with out := (s.completeRead kind addr data).out, regf := (s.completeRead kind addr data).regf, hlu := h }) (s.completeRead_hlu kind addr data))

end

/-! ## The context of a read of an LBA window (R170) -/

/-- From `u` to `t` a Gallery read in context `c` goes on as `y`, or is answered and gone. -/
structure GalleryReading (c : Nat) (y : Ctx) (u t : State) : Prop where
  ctx : ∀ z, Tbl.find? t.qen.ctxs c = some z → z.sqe = y.sqe ∧ z.slice = y.slice ∧ z.cls = y.cls ∧ z.win = y.win ∧ z.bytes = y.bytes
  other : ∀ k, k ≠ c → Tbl.find? t.qen.ctxs k = Tbl.find? u.qen.ctxs k
  fetches : t.qen.fetches = u.qen.fetches
  frame : t = { u with out := t.out, regf := t.regf, qen := t.qen, hlu := { u.hlu with txNow := t.hlu.txNow } }

theorem GalleryReading.tnu {c : Nat} {y : Ctx} {u t : State} (h : GalleryReading c y u t) : t.tnu = u.tnu := (congrArg State.tnu h.frame :)

theorem readLooked_eq (s : State) (c : Nat) (work : List SlotWork) : s.readLooked c work = (s.modCtx c fun x => x.lookedUp work).readAdvance c := rfl

theorem freeCtx_other (s : State) {c k : Nat} (h : k ≠ c) : Tbl.find? (s.freeCtx c).qen.ctxs k = Tbl.find? s.qen.ctxs k := by
  unfold freeCtx
  split
  · exact Tbl.find?_del_other _ h
  · rfl

theorem freeCtx_fetches (s : State) (c : Nat) : (s.freeCtx c).qen.fetches = s.qen.fetches := by
  unfold freeCtx
  split <;> rfl

/-- Data that goes out moves the link's counter of sent bytes alone. -/
theorem eq_of_sent {u t : State} (frame : t = { u with out := t.out, regf := t.regf, qen := t.qen, hlu := t.hlu }) (link : t.hlu = { u.hlu with txNow := t.hlu.txNow }) :
    t = { u with out := t.out, regf := t.regf, qen := t.qen, hlu := { u.hlu with txNow := t.hlu.txNow } } :=
  frame.trans (congrArg (fun h => { u with out := t.out, regf := t.regf, qen := t.qen, hlu := h }) link)

/-- A Gallery read that is answered leaves its context. -/
theorem completeRead_freeCtx (u : State) (c : Nat) (y : Ctx) (kind : CplKind) (addr : Nat) (data : List Byte) :
    GalleryReading c y u ((u.completeRead kind addr data).freeCtx c) where
  ctx := fun z hz => absurd ((freeCtx_gone _ c).symm.trans hz) nofun
  other := fun k hk => by rw [freeCtx_other _ hk, eq_of_completeRead]
  fetches := by rw [freeCtx_fetches, eq_of_completeRead]
  frame := by
    have gone := (freeCtx_touch c (u.completeRead kind addr data) (m := 512) rfl (Touch.refl _ _)).hlu rfl
    have link := gone.trans (completeRead_hlu u kind addr data)
    rw [← gone] at link
    have touch := freeCtx_touch c _ (m := 801) rfl (completeRead_touch kind addr data u rfl (Touch.refl _ u))
    exact eq_of_sent touch.eq_masked link

section
variable {u : State} {c n off : Nat} {y : Ctx} (found : Tbl.find? u.qen.ctxs c = some y) (win : y.win = some (n, off)) (free : y.bufs = [])
include found win free

theorem readAdvance_gallery : GalleryReading c y u (u.readAdvance c) := by
  unfold readAdvance
  simp only [found]
  split
  · simp only [win, free]
    exact completeRead_freeCtx u c y _ _ _
  · refine ⟨fun z hz => ?_, fun _ _ => rfl, rfl, rfl⟩
    obtain rfl : y = z := Option.some.inj (found.symm.trans hz)
    exact ⟨rfl, rfl, rfl, rfl, rfl⟩

theorem readLooked_gallery (work : List SlotWork) : GalleryReading c y u (u.readLooked c work) := by
  have looked : Tbl.find? (u.modCtx c fun x => x.lookedUp work).qen.ctxs c = some (y.lookedUp work) := (Tbl.find?_adjust_same u.qen.ctxs c fun x => x.lookedUp work).trans (congrArg _ found)
  have reads := readAdvance_gallery looked win free
  rw [readLooked_eq]
  exact ⟨reads.ctx, fun k hk => (reads.other k hk).trans (Tbl.find?_adjust_other u.qen.ctxs (fun x => x.lookedUp work) hk), reads.fetches, reads.frame⟩

end

/-- R142, R170: a read of an LBA window takes a context of its slice; its bytes are charged to RD and count as served. -/
theorem galLbaRun_reads (u : State) (r : PeerRead) (c : Nat) (w : Window) (x : Namespace) :
    ∃ y, y.sqe.opcode = 0x02 ∧ y.slice = w.owner ∧ y.cls = w.cls ∧ y.win = some (r.win, r.rel) ∧ y.bytes = r.len ∧
      GalleryReading c y ((u.modQen fun q => { q with ctxs := Tbl.put q.ctxs c y, fetches := q.fetches + 1 }).charge w.owner r.len 0 0) (u.galLbaRun r c w x) :=
  ⟨_, rfl, rfl, rfl, rfl, rfl, readLooked_gallery (n := r.win) (off := r.rel) (Tbl.find?_put_same _ c _) rfl rfl _⟩

/-- R142: what is served is counted; the bucket of a ceiling pays it. -/
theorem charge_slice (u : State) (sl rd : Nat) : (u.charge sl rd 0 0).tnu.slice sl = { u.tnu.slice sl with
    servedRd := (u.tnu.slice sl).servedRd + rd
    rd := if u.sliceObj Ob.RD_MBPS sl = 0 then (u.tnu.slice sl).rd else (u.tnu.slice sl).rd - rd } := by
  refine (Tbl.getD_put_same _ sl _ _).trans ?_
  simp

/-! ## Reads in the order of their arrival (R170) -/

/-- A read of an LBA window waits behind those that arrived before it. -/
def readQueued (r : PeerRead) (s : State) : State := s.modGal fun g => { g with reads := g.reads ++ [r] }

section
variable {u : State} (idle : u.gal.reads = [])
include idle

theorem galLbaRead_first (n fn rel len : Nat) : u.galLbaRead n fn rel len =
    ((u.readQueued { win := n, fn := fn, rel := rel, len := len }).galRead1 { win := n, fn := fn, rel := rel, len := len }).getD
      (u.readQueued { win := n, fn := fn, rel := rel, len := len }) := by
  have queued : (u.readQueued { win := n, fn := fn, rel := rel, len := len }).gal.reads = [{ win := n, fn := fn, rel := rel, len := len }] := by
    simp [readQueued, idle]
  change (u.readQueued _).galReads (u.readQueued _).gal.reads.length = _
  simp only [queued, List.length_singleton, galReads]
  split
  next run => simp [run]
  next wait => simp [wait]

theorem readQueued_taken (r : PeerRead) : ((u.readQueued r).modGal fun g => { g with reads := g.reads.tail }) = u := by
  have same : u.gal = { u.gal with reads := [] } := by rw [← idle]
  have tail : (u.gal.reads ++ [r]).tail = [] := by rw [idle]; rfl
  calc ((u.readQueued r).modGal fun g => { g with reads := g.reads.tail })
      = { u with gal := { u.gal with reads := (u.gal.reads ++ [r]).tail } } := rfl
    _ = { u with gal := u.gal } := by rw [tail, ← same]

section
variable {r : PeerRead} {w : Window} {x : Namespace} (mapped : winOf u.gal.active r.win = w) (space : u.mxe.ns? w.nsid.toNat = some x)
include mapped space

theorem galRead1_runs {c : Nat} (room : u.galRoom w.owner = true) (next : u.nextCtx = some c) :
    (u.readQueued r).galRead1 r = some (u.galLbaRun r c w x) := by
  have mapped' : winOf (u.readQueued r).gal.active r.win = w := mapped
  have space' : (u.readQueued r).mxe.ns? w.nsid.toNat = some x := space
  have room' : (u.readQueued r).galRoom w.owner = true := room
  have next' : (u.readQueued r).nextCtx = some c := next
  simp only [galRead1, mapped', space', room', next', if_true, Option.map_some, readQueued_taken idle]

omit idle in
theorem galRead1_waits (full : u.galRoom w.owner = false) : (u.readQueued r).galRead1 r = none := by
  have mapped' : winOf (u.readQueued r).gal.active r.win = w := mapped
  have space' : (u.readQueued r).mxe.ns? w.nsid.toNat = some x := space
  have full' : (u.readQueued r).galRoom w.owner = false := full
  simp only [galRead1, mapped', space', full']
  rfl

end

end

/-! ## The three instructions -/

/-- A peer's TLP of `k` data bytes is taken; `wait` is left of the write that waited for room. -/
def taken (k wait : Nat) (s : State) : State := (s.arrive k).modGal fun g => { g with wait := wait }

theorem arrive_eq_taken (s : State) (k : Nat) : s.arrive k = s.taken k s.gal.wait := rfl

section
variable {s : State} {p : PeerTlp} (accepted : s.inboundHeld = false)
include accepted

/-- R181: a write without room waits, and no other after it is longer. -/
theorem exec_galleryWrite_waits {bs : List Byte} (full : galFifoBytes < s.gal.fill + bs.length ∨ s.gal.withholds = true) :
    exec (.galleryWrite p bs) s = .next { s with gal := { s.gal with wait := if s.gal.wait = 0 then bs.length else s.gal.wait } } := by
  change execGalleryWrite p bs s = _
  rw [execGalleryWrite, if_neg (by simp [accepted]), if_pos full]
  rfl

section
variable (shut : s.fnOpen p.fn = false ∨ s.galBar p = false)
include shut

theorem exec_galleryWrite_undecoded {bs : List Byte} (credits : s.gal.withholds = false) (room : s.gal.fill + bs.length ≤ galFifoBytes) :
    exec (.galleryWrite p bs) s = .next ((s.taken bs.length 0).urTlp false) := by
  change execGalleryWrite p bs s = _
  rw [execGalleryWrite, if_neg (by simp [accepted]), if_neg (by simp [credits, room])]
  exact if_pos shut

theorem exec_galleryRead_undecoded (len : Nat) : exec (.galleryRead p len) s = .next ((s.arrive 0).urTlp true) := by
  change execGalleryRead p len s = _
  rw [execGalleryRead, if_neg (by simp [accepted])]
  exact if_pos shut

theorem exec_fence_undecoded : exec (.fence p) s = .next ((s.arrive 0).urTlp true) := by
  change execFence p s = _
  rw [execFence, if_neg (by simp [accepted])]
  exact if_pos shut

end

section
variable (decoded : s.fnOpen p.fn = true) (bar : s.galBar p = true)
include decoded bar

theorem exec_galleryWrite_decoded {bs : List Byte} (credits : s.gal.withholds = false) (room : s.gal.fill + bs.length ≤ galFifoBytes) :
    exec (.galleryWrite p bs) s = .next ((s.taken bs.length 0).galWriteIn p bs) := by
  change execGalleryWrite p bs s = _
  rw [execGalleryWrite, if_neg (by simp [accepted]), if_neg (by simp [credits, room])]
  have opens : ¬(s.fnOpen p.fn = false ∨ s.galBar p = false) := by simp [decoded, bar]
  exact if_neg opens

section
variable (miss : s.gal.hit (s.galOffset p) = none)
include miss

theorem exec_galleryRead_misses (len : Nat) : exec (.galleryRead p len) s = .next ((s.arrive 0).galRefuse none 8 true) := by
  change execGalleryRead p len s = _
  simp [execGalleryRead, accepted, decoded, bar, miss]

theorem exec_fence_misses : exec (.fence p) s = .next ((s.arrive 0).galRefuse none 8 true) := by
  change execFence p s = _
  simp [execFence, accepted, decoded, bar, miss]

end

section
variable {n len : Nat} {w : Window} (hit : s.gal.hit (s.galOffset p) = some (n, w))
include hit

theorem exec_galleryRead_refused {b : Nat} (refused : s.winRefusal n w p len false = some b) :
    exec (.galleryRead p len) s = .next ((s.arrive 0).galRefuse (some n) b true) := by
  change execGalleryRead p len s = _
  simp [execGalleryRead, accepted, decoded, bar, hit, refused]

section
variable (passes : s.winRefusal n w p len false = none)
include passes

/-- R165: a read of a window with memory of its own returns it. -/
theorem exec_galleryRead_memory (memory : w.kind ≠ .lba) : exec (.galleryRead p len) s = .next ((s.arrive 0).completeRead
    (if s.galPoisoned n (s.galOffset p - w.first) len then .poisoned else .ok) (s.galOffset p - w.first)
    (Memory.readN 0 s.gal.mem (galKey n (s.galOffset p - w.first)) len)) := by
  change execGalleryRead p len s = _
  cases kind : w.kind
  case lba => exact absurd kind memory
  all_goals
    simp [execGalleryRead, accepted, decoded, bar, hit, passes, kind]
    rfl

theorem exec_galleryRead_lba (lba : w.kind = .lba) :
    exec (.galleryRead p len) s = .next ((s.arrive 0).galLbaRead n p.fn (s.galOffset p - w.first) len) := by
  change execGalleryRead p len s = _
  simp [execGalleryRead, accepted, decoded, bar, hit, passes, lba]

end

end

end

end

/-! ## What a write leaves (R161, R163, R164, R167, R169) -/

section
variable {s : State} {p : PeerTlp} {n : Nat} {w : Window} {bs : List Byte} {i : Instr} (run : exec i s = .next ((s.taken bs.length 0).galWriteIn p bs))
include run

/-- R64: a write longer than MPS is a Malformed TLP. -/
theorem galleryWrite_malformed (long : s.hlu.mps < bs.length) : ∃ t, exec i s = .next t ∧
    t.out = .aer .malformed .fatal :: s.out ∧ t.hlu = { (s.arrive bs.length).hlu with aer := .malformed :: s.hlu.aer } ∧
    t = { s.arrive bs.length with out := t.out, regf := t.regf, hlu := t.hlu, cru := t.cru, gal := { s.gal with wait := 0 } } := by
  rw [galWriteIn_long (u := s.taken bs.length 0) long] at run
  exact ⟨_, run, aerLog_out _ _, aerLog_hlu _ _, eq_of_aerLog _ _⟩

section
variable (fits : bs.length ≤ s.hlu.mps) (hit : s.gal.hit (s.galOffset p) = some (n, w))
include fits hit

/-- R83, R164: a poisoned write is logged, counted and discarded. -/
theorem galleryWrite_poisoned (poison : p.poison = true) : ∃ t, exec i s = .next t ∧ t.fld Fld.GAL_ERR_STS.POISON = 1 ∧ t.out = .aer .poisoned .nonFatal :: s.out ∧
    t.fld Fld.HLU_POISON_CNT.INBOUND = min (2 ^ Fld.HLU_POISON_CNT.INBOUND.width - 1) (s.fld Fld.HLU_POISON_CNT.INBOUND + 1) ∧
    t.hlu = { (s.arrive bs.length).hlu with aer := .poisoned :: s.hlu.aer } ∧
    t = { s.arrive bs.length with out := t.out, regf := t.regf, hlu := t.hlu, cru := t.cru, gal := { s.gal with wait := 0, errNone := false, errWin := n, faults := t.gal.faults } } := by
  rw [galWriteIn_poisoned (u := s.taken bs.length 0) fits poison, galPoison_hits (u := s.taken bs.length 0) (w := w) hit] at run
  have logged := (s.taken bs.length 0).eq_of_linkError .poisoned
  have told := ((s.taken bs.length 0).linkError .poisoned).eq_of_galError (some n) 3
  have gal := ((s.taken bs.length 0).linkError .poisoned).galError_gal (some n) 3
  have kept : ((s.taken bs.length 0).linkError .poisoned).gal = (s.taken bs.length 0).gal := by rw [logged]
  refine ⟨_, run, fld_galError_same _ _ _, ?_, ?_, ?_, ?_⟩
  · rw [eq_of_galFault, told]
    exact linkError_poisoned_out _
  · exact (fld_galError_other _ (some n) 3 (by decide) (by decide) (by decide)).trans (linkError_poisoned_count _)
  · rw [eq_of_galFault, told]
    exact linkError_poisoned_hlu _
  · rw [kept] at gal
    have touch := galFault_touch n _ (m := 8390945) rfl (galError_touch (some n) 3 _ rfl (linkError_touch .poisoned _ rfl (Touch.refl _ (s.taken bs.length 0))))
    refine touch.eq_masked.trans ?_
    rw [eq_of_galFault, gal]
    rfl

section
variable (clean : p.poison = false)
include clean

/-- R163: a refused write changes no data. -/
theorem galleryWrite_refused {b : Nat} (refused : s.winRefusal n w p bs.length true = some b) : ∃ t, exec i s = .next t ∧ t.fld (galErrField b) = 1 ∧
    t.gal = { s.gal with wait := 0, errNone := false, errWin := n } ∧ t.out = .aer .advisory .advisory :: s.out ∧
    t.hlu = { (s.arrive bs.length).hlu with aer := .advisory :: s.hlu.aer } ∧
    t = { s.arrive bs.length with out := t.out, regf := t.regf, gal := t.gal, hlu := t.hlu, cru := t.cru } := by
  rw [galWriteIn_hits (u := s.taken bs.length 0) fits clean hit, galWrite_refused (u := s.taken bs.length 0) refused] at run
  obtain ⟨flag, gal, out, link⟩ := (s.taken bs.length 0).galRefuse_tells (some n) b false
  exact ⟨_, run, flag, gal, out, link, eq_of_galRefuse _ _ _ _⟩

section
variable (passes : s.winRefusal n w p bs.length true = none)
include passes

/-- R161: an accepted write to a window with memory of its own. -/
theorem galleryWrite_stores (memory : w.kind ≠ .lba) : ∃ t, exec i s = .next t ∧
    (∀ i b, bs[i]? = some b → Memory.read 0 t.gal.mem (galKey n (s.galOffset p - w.first) + i) = b) ∧
    (∀ x, (x < galKey n (s.galOffset p - w.first) ∨ galKey n (s.galOffset p - w.first) + bs.length ≤ x) → Memory.read 0 t.gal.mem x = Memory.read 0 s.gal.mem x) ∧
    t.gal.fifo = s.gal.fifo ++ [(n, bs.length)] ∧
    t = { s.arrive bs.length with gal := { s.gal with wait := 0, mem := t.gal.mem, fifo := t.gal.fifo }, dmc := { s.dmc with poisoned := t.dmc.poisoned } } := by
  rw [galWriteIn_hits (u := s.taken bs.length 0) fits clean hit, galWrite_stores (u := s.taken bs.length 0) passes fun lba => absurd lba memory,
    galStore_memory memory] at run
  refine ⟨_, run, fun i b hb => ?_, fun x hx => Memory.read_writeAll_other 0 bs s.gal.mem _ x hx, rfl, rfl⟩
  obtain ⟨inside, rfl⟩ := List.getElem?_eq_some_iff.mp hb
  exact Memory.read_writeAll_inside 0 bs s.gal.mem _ i inside

variable (lba : w.kind = .lba)
include lba

/-- R169: a write that the staging has no room for is an overflow, and a fault of its window. -/
theorem galleryWrite_overflows (beyond : 2 ^ 20 * w.stageMib < s.stagedBytes n + bs.length) : ∃ t, exec i s = .next t ∧ t.fld Fld.GAL_ERR_STS.OVERFLOW = 1 ∧
    t = { s.arrive bs.length with regf := t.regf, cru := t.cru, gal := { s.gal with wait := 0, errNone := false, errWin := n, faults := t.gal.faults } } := by
  rw [galWriteIn_hits (u := s.taken bs.length 0) fits clean hit, galWrite_overflows (u := s.taken bs.length 0) passes lba beyond] at run
  have told := (s.taken bs.length 0).eq_of_galError (some n) 4
  have gal := (s.taken bs.length 0).galError_gal (some n) 4
  refine ⟨_, run, fld_galError_same _ _ _, ?_⟩
  have touch := galFault_touch n _ (m := 8390688) rfl (galError_touch (some n) 4 _ rfl (Touch.refl _ (s.taken bs.length 0)))
  refine touch.eq_masked.trans ?_
  rw [eq_of_galFault, gal]
  rfl

/-- R167, R168: an accepted write to an LBA window goes to its units; one piece of a new unit begins it. -/
theorem galleryWrite_pieces (room : s.stagedBytes n + bs.length ≤ 2 ^ 20 * w.stageMib) : ∃ t, exec i s = .next t ∧ t.gal.fifo = s.gal.fifo ++ [(n, bs.length)] ∧
    t = { s.arrive bs.length with gal := { s.gal with wait := 0, units := t.gal.units, ready := t.gal.ready, fifo := t.gal.fifo } } ∧
    (bs.length = 64 → (∀ u ∈ s.gal.ready ++ s.gal.units, u.is n w ((s.galOffset p - w.first) / 4096) = false) → (∀ u ∈ s.gal.units, u.mask ≠ BitVec.allOnes 64) →
      ∃ x, t.gal.units = s.gal.units ++ [x] ∧ t.gal.ready = s.gal.ready ∧ x.win = n ∧ x.unit = (s.galOffset p - w.first) / 4096 ∧ x.slice = w.owner ∧
        x.nsid = w.nsid.toNat ∧ x.lba = w.lba + (s.galOffset p - w.first) / 4096 ∧ x.fn = p.fn ∧
        ∀ k, k < 64 → (x.mask.getLsbD k = true ↔ k = (s.galOffset p - w.first) % 4096 / 64)) := by
  rw [galWriteIn_hits (u := s.taken bs.length 0) fits clean hit, galWrite_stores (u := s.taken bs.length 0) passes fun _ => room, galStore_pieces lba] at run
  obtain ⟨fifo, frame⟩ := (s.taken bs.length 0).queuedPieces_frame n w p.fn (s.galOffset p - w.first) bs
  refine ⟨_, run, fifo, frame, fun one new parts => ?_⟩
  obtain ⟨units, ready⟩ := writePiece_begins (u := (s.taken bs.length 0).modGal fun g => { g with fifo := g.fifo ++ [(n, bs.length)] }) p.fn (bs.take 64) new parts
  rw [writePieces_one _ n w p.fn _ one]
  exact ⟨_, units, ready, rfl, rfl, rfl, rfl, rfl, rfl, fun k hk => firstPiece_mask n w p.fn _ _ hk⟩

end

end

end

end

/-! ## What a read leaves (R165, R170) -/

section
variable {s : State} {n fn rel len c : Nat} {w : Window} {x : Namespace} {i : Instr} (run : exec i s = .next ((s.arrive 0).galLbaRead n fn rel len))
  (mapped : winOf s.gal.active n = w) (idle : s.gal.reads = []) (space : s.mxe.ns? w.nsid.toNat = some x)
include run mapped idle space

/-- R170, R142: a read of an LBA window takes a context and is charged. -/
theorem galleryRead_runs (next : s.nextCtx = some c) (room : s.galRoom w.owner = true) : ∃ t, exec i s = .next t ∧ t.qen.fetches = s.qen.fetches + 1 ∧
    t.tnu.slice w.owner = { s.tnu.slice w.owner with servedRd := (s.tnu.slice w.owner).servedRd + len
                                                     rd := if s.sliceObj Ob.RD_MBPS w.owner = 0 then (s.tnu.slice w.owner).rd else (s.tnu.slice w.owner).rd - len } ∧
    (∀ y, Tbl.find? t.qen.ctxs c = some y → y.sqe.opcode = 0x02 ∧ y.slice = w.owner ∧ y.cls = w.cls ∧ y.win = some (n, rel) ∧ y.bytes = len) ∧
    (∀ k, k ≠ c → Tbl.find? t.qen.ctxs k = Tbl.find? s.qen.ctxs k) ∧
    t = { s.arrive 0 with out := t.out, regf := t.regf, qen := t.qen, tnu := t.tnu, hlu := { (s.arrive 0).hlu with txNow := t.hlu.txNow } } := by
  rw [galLbaRead_first (u := s.arrive 0) idle, galRead1_runs (u := s.arrive 0) idle (r := { win := n, fn := fn, rel := rel, len := len }) mapped space room next, Option.getD_some] at run
  obtain ⟨y, opcode, slice, cls, win, bytes, reads⟩ := (s.arrive 0).galLbaRun_reads { win := n, fn := fn, rel := rel, len := len } c w x
  refine ⟨_, run, reads.fetches, ?_, fun z hz => ?_, fun k hk => ?_, ?_⟩
  · rw [reads.tnu]
    exact charge_slice _ _ _
  · obtain ⟨sqe, ownerSame, clsSame, winSame, bytesSame⟩ := reads.ctx z hz
    exact ⟨by rw [sqe, opcode], by rw [ownerSame, slice], by rw [clsSame, cls], by rw [winSame, win], by rw [bytesSame, bytes]⟩
  · exact (reads.other k hk).trans (Tbl.find?_put_other _ _ hk)
  · refine reads.frame.trans ?_
    rw [reads.tnu]
    rfl

/-- R170: a read with no context for its slice waits. -/
theorem galleryRead_waits (full : s.galRoom w.owner = false) : ∃ t, exec i s = .next t ∧ t.gal.reads = [{ win := n, fn := fn, rel := rel, len := len }] ∧
    t = { s.arrive 0 with gal := { s.gal with reads := t.gal.reads } } := by
  rw [galLbaRead_first (u := s.arrive 0) idle, galRead1_waits (u := s.arrive 0) (r := { win := n, fn := fn, rel := rel, len := len }) mapped space full, Option.getD_none] at run
  exact ⟨_, run, congrArg (· ++ _) idle, rfl⟩

end

/-! ## A TLP that no window takes (Table 3.4) -/

section
variable {s : State} {i : Instr} {k wait : Nat} {np : Bool}

theorem undecoded_tells (run : exec i s = .next ((s.taken k wait).urTlp np)) : ∃ t, exec i s = .next t ∧
    t.hlu = { (s.arrive k).hlu with aer := .unsupported :: s.hlu.aer } ∧
    t.out = (if np then [.tlpCompletion .ur [] s.hlu.ecrcGen] else []) ++ .aer .unsupported .nonFatal :: s.out ∧ t.gal.mem = s.gal.mem ∧
    t = { s.arrive k with out := t.out, hlu := t.hlu, regf := t.regf, cru := t.cru, gal := { s.gal with wait := t.gal.wait } } := by
  rw [urTlp_eq_discard] at run
  have frame := eq_of_discard (s.taken k wait) .unsupported np
  refine ⟨_, run, discard_hlu _ _ _, discard_out _ _ _, ?_, frame.trans ?_⟩ <;> rw [frame] <;> rfl

/-- NO_WIN is told, and the recorder does not see it. -/
theorem missed_tells (run : exec i s = .next ((s.taken k wait).galRefuse none 8 np)) : ∃ t, exec i s = .next t ∧ t.fld Fld.GAL_ERR_STS2.NO_WIN = 1 ∧
    t.out = (if np then [.tlpCompletion .ur [] s.hlu.ecrcGen] else []) ++ .aer .advisory .advisory :: s.out ∧
    t = { s.arrive k with out := t.out, hlu := t.hlu, regf := t.regf, gal := { s.gal with wait := t.gal.wait, errNone := true, errWin := 0 } } := by
  obtain ⟨flag, -, out, -⟩ := (s.taken k wait).galRefuse_tells none 8 np
  refine ⟨_, run, flag, out, ?_⟩
  rw [galRefuse_eq_discard, discard_advisory _ _ _ rfl]
  rfl

end

end State

/-- Settles O41: the writes and reads of a window, those that it refuses, the write that waits for room, and what no function or window takes. -/
theorem peerTrafficReachesItsWindow : Obligations.PeerTrafficReachesItsWindow := by
  unfold Obligations.PeerTrafficReachesItsWindow
  refine ⟨fun s p n w accepted decoded bar hit => ⟨fun bs credits room fits => ?_, fun bs credits room long => ?_, fun len passes memory => ?_,
      fun len c x passes lba mapped idle space => ?_, fun len b refused => ?_⟩,
    fun s p bs accepted full => State.exec_galleryWrite_waits accepted full, fun s p i k np accepted kinds => ⟨fun shut => ?_, fun decoded bar miss clean fits => ?_⟩⟩
  · have run := State.exec_galleryWrite_decoded accepted decoded bar credits room
    refine ⟨fun clean passes => ⟨fun memory => ?_, fun lba staged => ?_, fun lba beyond => ?_⟩, fun b clean refused => ?_, fun poison => ?_⟩
    · exact State.galleryWrite_stores run fits hit clean passes memory
    · exact State.galleryWrite_pieces run fits hit clean passes lba staged
    · exact State.galleryWrite_overflows run fits hit clean passes lba beyond
    · exact State.galleryWrite_refused run fits hit clean refused
    · exact State.galleryWrite_poisoned run fits hit poison
  · exact State.galleryWrite_malformed (State.exec_galleryWrite_decoded accepted decoded bar credits room) long
  · exact ⟨_, State.exec_galleryRead_memory accepted decoded bar hit passes memory, State.completeRead_answers _ _ _ _, State.eq_of_completeRead _ _ _ _⟩
  · have run := State.exec_galleryRead_lba accepted decoded bar hit passes lba
    exact ⟨State.galleryRead_runs run mapped idle space, State.galleryRead_waits run mapped idle space⟩
  · obtain ⟨flag, gal, out, link⟩ := (s.arrive 0).galRefuse_tells (some n) b true
    exact ⟨_, State.exec_galleryRead_refused accepted decoded bar hit refused, out, gal, flag, link, State.eq_of_galRefuse _ _ _ _⟩
  · rcases kinds with ⟨bs, rfl, rfl, rfl, credits, room⟩ | ⟨len, rfl, rfl, rfl⟩ | ⟨rfl, rfl, rfl⟩
    · exact State.undecoded_tells (State.exec_galleryWrite_undecoded accepted shut credits room)
    · exact State.undecoded_tells (wait := s.gal.wait) (State.exec_galleryRead_undecoded accepted shut len)
    · exact State.undecoded_tells (wait := s.gal.wait) (State.exec_fence_undecoded accepted shut)
  · rcases kinds with ⟨bs, rfl, rfl, rfl, credits, room⟩ | ⟨len, rfl, rfl, rfl⟩ | ⟨rfl, rfl, rfl⟩
    · have run := State.exec_galleryWrite_decoded accepted decoded bar credits room
      rw [State.galWriteIn_misses (u := s.taken bs.length 0) fits clean miss] at run
      exact State.missed_tells run
    · exact State.missed_tells (wait := s.gal.wait) (State.exec_galleryRead_misses accepted decoded bar miss len)
    · exact State.missed_tells (wait := s.gal.wait) (State.exec_fence_misses accepted decoded bar miss)

end Sys2Proof.Machine
end

section
/-! PROOFS. What a tick keeps, a power-up, and so every step: the canonical form of the memories, and the counters that never fall (O58; R104, R188, R21). -/

namespace Sys2Proof.Machine

/-- What every step keeps, a tick and a power-up among them: `Kept` without the queue and the tick counter. -/
structure Rising (s t : State) : Prop where
  mem : s.memOk = true → t.memOk = true
  dsn : s.mxe.dsn ≤ t.mxe.dsn
  psn : s.mxe.psn ≤ t.mxe.psn
  bsn : s.mxe.bsn ≤ t.mxe.bsn
  svn : s.csu.svn ≤ t.csu.svn
  kek : s.csu.kekGen ≤ t.csu.kekGen

theorem Kept.rising {s t : State} (h : Kept s t) : Rising s t := ⟨h.mem, h.dsn, h.psn, h.bsn, h.svn, h.kek⟩

theorem Rising.trans {s t u : State} (h : Rising s t) (k : Rising t u) : Rising s u :=
  ⟨fun m => k.mem (h.mem m), h.dsn.trans k.dsn, h.psn.trans k.psn, h.bsn.trans k.bsn, h.svn.trans k.svn, h.kek.trans k.kek⟩

namespace State

/-- The clock moves time alone (R21). -/
theorem clock_rising (s : State) : Rising s s.clock := ⟨id, le_rfl, le_rfl, le_rfl, le_rfl, le_rfl⟩

/-- The end of a tick, the clock, and the work of the new tick. -/
theorem tick_rising (s : State) : Rising s s.tick := by
  unfold tick
  dsimp only
  split
  · exact (forgetTick_kept s (Kept.refl s)).rising
  · have ended : Kept s s.slatesEnd.tickCounts.collisions.withdrawFreed.forceOnLoss.linkUse.forgetTick := by simp (maxDischargeDepth := 60)
    exact (ended.rising.trans (clock_rising _)).trans (tickWork_kept _ _ _ _ (Kept.refl _)).rising

/-- What a power-up clears holds no byte, or is not a memory; the counters stay (Table 2.6). -/
theorem powerUpClear_rising (s : State) : Rising s s.powerUpClear := by
  refine ⟨fun h => ?_, le_rfl, le_rfl, le_rfl, le_rfl, le_rfl⟩
  simp only [memOk, Bool.and_eq_true] at h ⊢
  obtain ⟨⟨⟨⟨⟨-, flash⟩, gallery⟩, -⟩, window⟩, staging⟩ := h
  exact ⟨⟨⟨⟨⟨⟨⟨⟨rfl, rfl⟩, rfl⟩, rfl⟩, flash⟩, gallery⟩, rfl⟩, window⟩, staging⟩

end State

theorem execPowerUp_rising {s t : State} (h : exec .powerUp s = .next t) : Rising s t := by
  change execPowerUp s = .next t at h
  unfold execPowerUp at h
  split at h
  · cases h
    have risen : Kept s (if s.power.railsOut.contains .aux then s.auxRise else s) := by simp
    refine (risen.rising.trans (State.powerUpClear_rising _)).trans (Kept.rising ?_)
    exact State.drawChallenge_kept _ (kept_setObj _ _ (by simp))
  · cases h
    exact (Kept.refl s).rising

/-- Every command that goes on keeps the memories canonical and lowers no counter. -/
theorem exec_rising {s t : State} {c : Instr} (h : exec c s = .next t) : Rising s t := by
  by_cases hup : c = .powerUp
  · subst hup
    exact execPowerUp_rising h
  · rcases exec_runs_or_stops c s hup with ⟨u, e, k⟩ | ⟨a, e, -⟩
    · cases h.symm.trans e
      exact k.rising
    · cases h.symm.trans e

theorem step_rising {s t : State} (h : step s = .next t) : Rising s t := by
  unfold step at h
  split at h
  · have taken : ∀ rest, Rising s { s with pending := rest } := fun _ => ⟨id, le_rfl, le_rfl, le_rfl, le_rfl, le_rfl⟩
    exact (taken _).trans (exec_rising h)
  · cases h
    exact s.tick_rising

/-- Settles O58: a step is a command or a tick, and each keeps what `Rising` says. -/
theorem everyStepKeepsMemoriesCanonicalAndCountersRising : Obligations.EveryStepKeepsMemoriesCanonicalAndCountersRising :=
  fun _ _ h => have r := step_rising h; ⟨r.mem, r.dsn, r.psn, r.bsn, r.svn, r.kek⟩

end Sys2Proof.Machine
end

section
/-! PROOFS. Power state requests (spec/04, R126): what applying one does, and O16. -/

namespace Sys2Proof.Machine

namespace State

/-! ## Applying a request -/

section
variable {s : State} {r : PsRequest}

theorem psApply_operational (free : s.qen.entryPend = none) (op : r.ps ≤ 2) : s.psApply r = s.modQen fun q =>
    { q with ps := r.ps, lastOp := r.ps, exitSince := none, psPost := q.psPost ++ r.ctx.toList } := by
  simp [psApply, free, op]

theorem psApply_nonoperational (free : s.qen.entryPend = none) (nonop : 2 < r.ps) : s.psApply r = s.modQen fun q => { q with entryPend := some r } := by
  simp [psApply, free, Nat.not_le.mpr nonop]

theorem psApply_waits (pending : s.qen.entryPend.isSome = true) : s.psApply r = s.modQen fun q => { q with psWaiting := q.psWaiting ++ [r] } :=
  if_pos pending

end

theorem exec_autonomousPsTransition (s : State) {n : Nat} (known : n ≤ 4) : exec (.autonomousPsTransition n) s = .next (s.psApply ⟨n, none⟩) :=
  if_pos known

/-! ## The end of a non-operational entry -/

/-- The pending entry has been made; the requests behind it are still to be applied. -/
def entered (s : State) (r : PsRequest) : State := s.modQen fun q => { q with ps := r.ps, entryPend := none, psWaiting := [], exitSince := none }

section
variable {s : State} {r : PsRequest} (pending : s.qen.entryPend = some r)
include pending

theorem exec_nonopEntryComplete_early (busy : s.noCommands = false ∨ s.ioArrived = true ∨ s.dsc.quiet = false) :
    exec .nonopEntryComplete s = .next s := by
  change execNonopEntryComplete s = _
  unfold execNonopEntryComplete
  rw [pending]
  refine if_neg fun due => ?_
  simp only [Bool.and_eq_true, Bool.not_eq_true'] at due
  obtain ⟨⟨idle, served⟩, quiet⟩ := due
  obtain h | h | h := busy
  · exact absurd idle (by simp [h])
  · exact absurd served (by simp [h])
  · exact absurd quiet (by simp [h])

theorem exec_nonopEntryComplete_due (idle : s.noCommands = true) (served : s.ioArrived = false) (quiet : s.dsc.quiet = true) :
    exec .nonopEntryComplete s = .next (s.qen.psWaiting.foldl (fun s w => s.psApply w) (r.ctx.elim (s.entered r) fun c => (s.entered r).finish c 0)) := by
  change execNonopEntryComplete s = _
  unfold execNonopEntryComplete
  rw [pending]
  exact if_pos (by simp [idle, served, quiet])

end

end State

/-- Settles O16: a request by its kind and by what is pending, the entry with its completion and with the requests that waited, and the exit. -/
theorem powerStateRequestsTakeTheirTurn : Obligations.PowerStateRequestsTakeTheirTurn := by
  unfold Obligations.PowerStateRequestsTakeTheirTurn
  refine ⟨fun s n free op => ?_, fun s n free nonop => ?_, fun s n pending known => ?_, fun s r pending busy => ?_,
    fun s r pending idle served quiet => ⟨fun auto alone => ?_, fun c x commanded hx alone => ?_, fun w auto behind op => ?_⟩, fun s exits low => ?_⟩
  · rw [s.exec_autonomousPsTransition (by omega), State.psApply_operational free op, State.modQen]
    simp
  · rw [s.exec_autonomousPsTransition (by omega), State.psApply_nonoperational free (show 2 < n by omega)]
    rfl
  · rw [s.exec_autonomousPsTransition known, State.psApply_waits pending]
    rfl
  · exact State.exec_nonopEntryComplete_early pending busy
  · rw [State.exec_nonopEntryComplete_due pending idle served quiet, auto, alone]
    rfl
  · refine ⟨(s.entered r).finish c 0, ?_, State.finish_after hx rfl, rfl⟩
    rw [State.exec_nonopEntryComplete_due pending idle served quiet, commanded, alone]
    rfl
  · rw [State.exec_nonopEntryComplete_due pending idle served quiet, auto, behind]
    change Host.Outcome.next ((s.entered r).psApply w) = _
    rw [State.psApply_operational rfl op]
    rfl
  · exact if_pos ⟨exits, low⟩

end Sys2Proof.Machine
end

section
/-! PROOFS. Freed buffers and the queue engine (spec/04, R389, R479): all that the return of a command's buffers changes of it are the events that a retired buffer raises. -/

namespace Sys2Proof.Machine

namespace State

/-! ## What events leave, freed buffers leave -/

section
variable {P : Qen → Prop} (told : ∀ (s : State) (fn : Nat) (e : AsyncEvent), P s.qen → P (s.asyncEvent fn e).qen)
include told

theorem tellHealth_qen_of_told (s : State) (code unit : Nat) (r : EventRecord) (h : P s.qen) : P (s.tellHealth code unit r).qen := by
  have all : P (if bitAt (s.obj Ob.EVENT_AEN_MASK) (code - 1) then s.asyncAll ⟨7, code, 0xC0⟩ else s).qen := by
    split
    · exact List.foldlRecOn (motive := fun t => P t.qen) _ _ h fun t ht (k : Nat × Controller) _ => told t k.1 _ ht
    · exact h
  unfold tellHealth
  generalize (if bitAt (s.obj Ob.EVENT_AEN_MASK) (code - 1) then s.asyncAll ⟨7, code, 0xC0⟩ else s) = t at all
  dsimp only
  split <;> simpa using all

theorem healthLevel_qen_of_told (s : State) (code unit : Nat) (on : Bool) (h : P s.qen) : P (s.healthLevel code unit on).qen := by
  unfold healthLevel
  split
  · unfold health
    split
    · exact h
    split
    · exact h
    · exact tellHealth_qen_of_told told _ _ _ _ (by simpa using h)
  · simpa using h

theorem releaseBuf_qen_of_told (s : State) (k i : Nat) (h : P s.qen) : P (s.releaseBuf k i).qen := by
  unfold releaseBuf
  split
  · exact healthLevel_qen_of_told told _ _ _ _ (by simpa using h)
  · simpa only [admitHeld_units, apply_ite State.qen, modBpm_qen, ite_self] using h

theorem bufFree_qen_of_told (s : State) (b : BitVec 24) (unit : Nat) (h : P s.qen) : P (s.bufFree b unit).qen := by
  unfold bufFree
  split
  · simpa using h
  · dsimp only
    split
    · unfold lastFree
      split
      · simpa using h
      · exact releaseBuf_qen_of_told told _ _ _ (by simpa using h)
    · simpa using h

/-- A property of the queue engine that every Asynchronous Event keeps holds after buffers went back. -/
theorem freeBufs_qen_of_told (s : State) (bs : List (BitVec 24)) (h : P s.qen) : P (s.freeBufs bs).qen :=
  List.foldlRecOn (motive := fun t => P t.qen) _ _ h fun t ht b _ => bufFree_qen_of_told told t b _ ht

end

/-! ## A controller under events -/

theorem find?_modCtrl {q : Qen} {fn : Nat} {k : Controller} (h : Tbl.find? q.ctrls fn = some k) (j : Nat) (f : Controller → Controller) :
    Tbl.find? (q.modCtrl j f).ctrls fn = some (if fn = j then f k else k) := by
  by_cases hj : fn = j
  · subst hj
    rw [Qen.find?_modCtrl_same, if_pos rfl, Qen.ctrl, Tbl.getD, h]
    rfl
  · rw [Qen.find?_modCtrl_other _ _ hj, if_neg hj, h]

/-- The controller of a function holds this Autonomous Power State Transition. -/
def HoldsApst (fn : Nat) (on : Bool) (table : List (Nat × Nat)) (q : Qen) : Prop :=
  ∃ k, Tbl.find? q.ctrls fn = some k ∧ k.apste = on ∧ k.apst = table

section
variable {fn : Nat} {on : Bool} {table : List (Nat × Nat)}

theorem HoldsApst.modCtrl {q : Qen} (h : HoldsApst fn on table q) (j : Nat) {f : Controller → Controller}
    (kept : ∀ k, (f k).apste = k.apste ∧ (f k).apst = k.apst) : HoldsApst fn on table (q.modCtrl j f) := by
  obtain ⟨k, hk, hon, htable⟩ := h
  refine ⟨_, find?_modCtrl hk j f, ?_⟩
  split
  · exact ⟨(kept k).1.trans hon, (kept k).2.trans htable⟩
  · exact ⟨hon, htable⟩

/-- An event changes of a controller its events and the masked types alone (R113). -/
theorem asyncEvent_holdsApst (s : State) (j : Nat) (e : AsyncEvent) (h : HoldsApst fn on table s.qen) :
    HoldsApst fn on table (s.asyncEvent j e).qen := by
  unfold asyncEvent
  split
  · exact h
  · have queued := h.modCtrl j (f := fun k => { k with events := k.events ++ [e] }) fun _ => ⟨rfl, rfl⟩
    unfold giveEvent
    split
    next e es _ _ _ _ => exact queued.modCtrl j (f := fun k => { k with events := es, masked := e.ty :: k.masked }) fun _ => ⟨rfl, rfl⟩
    · exact queued

theorem failCmd_holdsApst (s : State) (c st : Nat) (h : HoldsApst fn on table s.qen) : HoldsApst fn on table (s.failCmd c st).qen := by
  unfold failCmd
  split
  · exact freeBufs_qen_of_told asyncEvent_holdsApst s _ h
  · exact h

end

end State

end Sys2Proof.Machine
end

section
/-! PROOFS. Commands that take data from the host (R64, R65, R95, R383): what the asking for the data changes. -/

namespace Sys2Proof.Machine

/-- From `s` to `t` the command in context `c` takes buffers of the pools `b` and its data is asked for: it stands as `y`. -/
structure AsksData (s : State) (c : Nat) (y : Ctx) (b : Bpm) (t : State) : Prop where
  ctx : Tbl.find? t.qen.ctxs c = some y
  other : ∀ k, k ≠ c → Tbl.find? t.qen.ctxs k = Tbl.find? s.qen.ctxs k
  frame : t = { s with out := t.out, regf := t.regf, hlu := t.hlu, qen := { s.qen with ctxs := t.qen.ctxs }, bpm := b }

/-- The command has been accepted and waits. -/
def Ctx.accept (x : Ctx) : Ctx := { x with accepted := true }

namespace State

theorem find?_modCtx_other (s : State) {c k : Nat} (f : Ctx → Ctx) (h : k ≠ c) : Tbl.find? (s.modCtx c f).qen.ctxs k = Tbl.find? s.qen.ctxs k :=
  Tbl.find?_adjust_other _ _ h

theorem dataInGo_asksData {s u : State} {c : Nat} {x : Ctx} {hs : List (BitVec 24)} (pi : PiCheck) (hx : Tbl.find? s.qen.ctxs c = some x)
    (taken : s.takeBufs UnitNo.qen (if x.admin then none else some x.slice) (pieceSizes x.bytes) none = some (u, hs)) :
    AsksData s c { x with state := .dataIn, bufs := hs, pi := pi } u.bpm (s.dataInGo c pi x) := by
  let asked := (u.modCtx c fun y => { y with state := .dataIn, bufs := hs, pi := pi }).modHlu fun h => { h with dmaQueue := h.dmaQueue ++ h.dmaPieces c x.parts }
  have run : s.dataInGo c pi x = asked.dmaIssue := by
    unfold dataInGo
    rw [taken]
  have took := takeBufs_touch _ _ _ _ _ _ _ taken
  have issued := dmaIssue_touch asked (m := 257) rfl (.refl _ _)
  have qen : (s.dataInGo c pi x).qen = (s.modCtx c fun y => { y with state := .dataIn, bufs := hs, pi := pi }).qen := by
    rw [run, issued.qen rfl]
    exact congrArg (fun q => Qen.modCtx q c _) (took.qen rfl)
  have bpm : (s.dataInGo c pi x).bpm = u.bpm := by
    rw [run, issued.bpm rfl]
    rfl
  refine ⟨?_, fun k hk => ?_, ?_⟩
  · rw [qen]
    exact find?_modCtx_same _ hx
  · rw [qen]
    exact find?_modCtx_other _ _ hk
  · have touch : Touch 262945 s asked.dmaIssue := dmaIssue_touch _ rfl (touch_modHlu _ rfl (modCtx_touch _ _ _ rfl (took.mono rfl)))
    rw [← run] at touch
    rw [← bpm]
    refine touch.eq_masked.trans ?_
    rw [qen]
    rfl

theorem dataInGo_waits {s : State} {c : Nat} {x : Ctx} (pi : PiCheck)
    (none : s.takeBufs UnitNo.qen (if x.admin then none else some x.slice) (pieceSizes x.bytes) none = none) : s.dataInGo c pi x = s := by
  unfold dataInGo
  rw [none]

end State

end Sys2Proof.Machine
end

section
/-! PROOFS. Set Features (spec/04, R99, R108, R111, R125, R126, R231, R355): a feature of the controller, one of the device, Power Management and Autonomous Power State Transition, and O25. -/

namespace Sys2Proof.Machine

namespace State

section
variable {s : State} {c : Nat} {x : Ctx} (h : s.adminCtx c 0x09 = some x) (hall : s.power.stage = .hall)
include h hall

/-! ## Features that take effect with their completion -/

/-- A command that sets a feature of its controller changes that controller and its own context. -/
theorem controllerFeature_set {i : Instr} {fid : Nat} (f : Ctx → Controller → Controller) (fid_eq : cdwBits x.sqe.cdw10 7 0 = fid)
    (run : exec i s = s.setFeature c fid fun x s => (s.modQen fun q => q.modCtrl x.fn (f x)).finish c 0) :
    ∃ t, exec i s = .next t ∧ s.answered t c x 0 ∧ Tbl.find? t.qen.ctrls x.fn = some (f x (s.qen.ctrl x.fn)) ∧
      (∀ j, j ≠ x.fn → Tbl.find? t.qen.ctrls j = Tbl.find? s.qen.ctrls j) ∧ t = { s with qen := { s.qen with ctxs := t.qen.ctxs, ctrls := t.qen.ctrls } } :=
  ⟨_, run.trans (setFeature_go h fid_eq hall rfl), finish_after (adminCtx_find h).1 rfl, Qen.find?_modCtrl_same s.qen x.fn (f x),
    fun _ hj => Qen.find?_modCtrl_other s.qen (f x) hj, rfl⟩

theorem volatileWriteCache_set (fid_eq : cdwBits x.sqe.cdw10 7 0 = 0x06) : ∃ t, exec (.setFeaturesVolatileWriteCache c) s = .next t ∧ s.answered t c x 0 ∧
    t = { s with qen := { s.qen with ctxs := t.qen.ctxs, wce := x.sqe.cdw11.getLsbD 0 } } := by
  let u := s.modQen fun q => { q with wce := x.sqe.cdw11.getLsbD 0 }
  exact ⟨u.finish c 0, setFeature_go h fid_eq hall rfl, finish_after (adminCtx_find h).1 rfl, rfl⟩

/-- R231: both thresholds are in force, or rise from TMT1 to TMT2. -/
theorem hctm_set (fid_eq : cdwBits x.sqe.cdw10 7 0 = 0x10)
    (rise : cdwBits x.sqe.cdw11 31 16 = 0 ∨ cdwBits x.sqe.cdw11 15 0 = 0 ∨ cdwBits x.sqe.cdw11 31 16 < cdwBits x.sqe.cdw11 15 0) :
    ∃ t, exec (.setFeaturesHctm c) s = .next t ∧ s.answered t c x 0 ∧
      t = { s with qen := { s.qen with ctxs := t.qen.ctxs, tmt1 := cdwBits x.sqe.cdw11 31 16, tmt2 := cdwBits x.sqe.cdw11 15 0 } } := by
  let u := s.modQen fun q => { q with tmt1 := cdwBits x.sqe.cdw11 31 16, tmt2 := cdwBits x.sqe.cdw11 15 0 }
  exact ⟨u.finish c 0, setFeature_go h fid_eq hall (if_neg (by omega)), finish_after (adminCtx_find h).1 rfl, rfl⟩

theorem hctm_refused (fid_eq : cdwBits x.sqe.cdw10 7 0 = 0x10) (first : cdwBits x.sqe.cdw11 31 16 ≠ 0) (second : cdwBits x.sqe.cdw11 15 0 ≠ 0)
    (fall : cdwBits x.sqe.cdw11 15 0 ≤ cdwBits x.sqe.cdw11 31 16) : s.OnlyEnds (.setFeaturesHctm c) c x stInvalidField :=
  onlyEnds_of_finish (adminCtx_find h).1 (setFeature_go h fid_eq hall (if_pos ⟨first, second, fall⟩))

/-! ## Power Management (R125, R126) -/

theorem exec_powerManagement (fid_eq : cdwBits x.sqe.cdw10 7 0 = 0x02) : exec (.setFeaturesPowerManagement c) s = .next
    (if 4 < cdwBits x.sqe.cdw11 4 0 then s.finish c stInvalidField
      else (s.modCtx c Ctx.accept).psApply { ps := cdwBits x.sqe.cdw11 4 0, ctx := some c }) := by
  change execSetFeaturesPowerManagement c s = _
  unfold execSetFeaturesPowerManagement
  rw [h]
  exact (if_neg (by rw [fid_eq]; decide)).trans (setFeature_go h fid_eq hall rfl)

/-- A power state that the command may name is requested for it; the command waits. -/
theorem exec_powerManagement_known (fid_eq : cdwBits x.sqe.cdw10 7 0 = 0x02) (known : cdwBits x.sqe.cdw11 4 0 ≤ 4) :
    exec (.setFeaturesPowerManagement c) s =
      .next ((s.modCtx c Ctx.accept).psApply { ps := cdwBits x.sqe.cdw11 4 0, ctx := some c }) := by
  rw [exec_powerManagement h hall fid_eq, if_neg (Nat.not_lt.mpr known)]

theorem powerManagement_operational (fid_eq : cdwBits x.sqe.cdw10 7 0 = 0x02) (op : cdwBits x.sqe.cdw11 4 0 ≤ 2) (free : s.qen.entryPend = none) :
    ∃ t, exec (.setFeaturesPowerManagement c) s = .next t ∧ Tbl.find? t.qen.ctxs c = some { x with accepted := true } ∧
      (∀ j, j ≠ c → Tbl.find? t.qen.ctxs j = Tbl.find? s.qen.ctxs j) ∧
      t = { s with qen := { s.qen with ctxs := t.qen.ctxs, ps := cdwBits x.sqe.cdw11 4 0, lastOp := cdwBits x.sqe.cdw11 4 0, exitSince := none, psPost := s.qen.psPost ++ [c] } } := by
  rw [exec_powerManagement_known h hall fid_eq (by omega), psApply_operational (s := s.modCtx c Ctx.accept) free op]
  exact ⟨_, rfl, find?_modCtx_same Ctx.accept (adminCtx_find h).1, fun _ hj => find?_modCtx_other _ Ctx.accept hj, rfl⟩

theorem powerManagement_nonoperational (fid_eq : cdwBits x.sqe.cdw10 7 0 = 0x02) (nonop : cdwBits x.sqe.cdw11 4 0 = 3 ∨ cdwBits x.sqe.cdw11 4 0 = 4)
    (free : s.qen.entryPend = none) : ∃ t, exec (.setFeaturesPowerManagement c) s = .next t ∧ Tbl.find? t.qen.ctxs c = some { x with accepted := true } ∧
      (∀ j, j ≠ c → Tbl.find? t.qen.ctxs j = Tbl.find? s.qen.ctxs j) ∧
      t = { s with qen := { s.qen with ctxs := t.qen.ctxs, entryPend := some { ps := cdwBits x.sqe.cdw11 4 0, ctx := some c } } } := by
  rw [exec_powerManagement_known h hall fid_eq (by omega), psApply_nonoperational (s := s.modCtx c Ctx.accept) free (show 2 < cdwBits x.sqe.cdw11 4 0 by omega)]
  exact ⟨_, rfl, find?_modCtx_same Ctx.accept (adminCtx_find h).1, fun _ hj => find?_modCtx_other _ Ctx.accept hj, rfl⟩

theorem powerManagement_refused (fid_eq : cdwBits x.sqe.cdw10 7 0 = 0x02) (unknown : 4 < cdwBits x.sqe.cdw11 4 0) :
    s.OnlyEnds (.setFeaturesPowerManagement c) c x stInvalidField :=
  onlyEnds_of_finish (adminCtx_find h).1 ((exec_powerManagement h hall fid_eq).trans (by rw [if_pos unknown]))

/-! ## Autonomous Power State Transition (Table 4.1) -/

/-- The command takes buffers for its table and asks for it. -/
theorem apst_asksData {u : State} {hs : List (BitVec 24)} (fid_eq : cdwBits x.sqe.cdw10 7 0 = 0x0C) (good : x.status = 0) (known : x.list = none)
    (taken : s.takeBufs UnitNo.qen none (pieceSizes x.bytes) none = some (u, hs)) :
    exec (.setFeaturesPowerManagement c) s = .next (s.dataInGo c .pass x) ∧ AsksData s c { x with state := .dataIn, bufs := hs, pi := .pass } u.bpm (s.dataInGo c .pass x) := by
  obtain ⟨hx, -, -, -, admin, -⟩ := adminCtx_find h
  refine ⟨?_, dataInGo_asksData .pass hx (by rwa [if_pos admin])⟩
  change execSetFeaturesPowerManagement c s = _
  unfold execSetFeaturesPowerManagement
  rw [h]
  exact (if_pos fid_eq).trans (setFeature_go h fid_eq hall (ptrGo_go good known))

end

/-- The state with the table of Autonomous Power State Transition set, its command still to end. -/
def apstTaken (s : State) (x : Ctx) : State :=
  s.modQen fun q => q.modCtrl x.fn fun k => { k with apste := x.sqe.cdw11.getLsbD 0, apst := s.apstTable x }

theorem apstCtx_find {s : State} {c : Nat} {x : Ctx} (h : s.apstCtx c = some x) :
    Tbl.find? s.qen.ctxs c = some x ∧ s.adminCtx c 0x09 = none := by
  unfold apstCtx at h
  split at h
  next y hy =>
    split at h
    next arrived =>
      obtain rfl := Option.some.inj h
      simp only [Bool.and_eq_true, beq_iff_eq] at arrived
      obtain ⟨⟨-, read⟩, -⟩ := arrived
      exact ⟨hy, by simp [adminCtx, hy, read]⟩
    · cases h
  · cases h

theorem exec_apst {s : State} {c : Nat} {x : Ctx} (h : s.apstCtx c = some x) :
    exec (.setFeaturesPowerManagement c) s = .next ((s.apstTaken x).failCmd c 0) := by
  change execSetFeaturesPowerManagement c s = _
  unfold execSetFeaturesPowerManagement
  rw [(apstCtx_find h).2, h]
  rfl

/-- Its table read, the command ends with it set: the buffers that go back leave it. -/
theorem apst_set {s : State} {c : Nat} {x : Ctx} (h : s.apstCtx c = some x) :
    ∃ t k, exec (.setFeaturesPowerManagement c) s = .next t ∧ Tbl.find? t.qen.ctrls x.fn = some k ∧ t.ended c 0 ∧
      k.apste = x.sqe.cdw11.getLsbD 0 ∧ k.apst = s.apstTable x ∧ t.mxe = s.mxe ∧ t.power = s.power ∧ t.qen.ps = s.qen.ps := by
  have set : HoldsApst x.fn (x.sqe.cdw11.getLsbD 0) (s.apstTable x) (s.apstTaken x).qen := ⟨_, Qen.find?_modCtrl_same s.qen x.fn _, rfl, rfl⟩
  obtain ⟨k, hk, on, table⟩ := failCmd_holdsApst _ c 0 set
  have has : Tbl.has (s.apstTaken x).qen.ctxs c = true := by
    show Tbl.has s.qen.ctxs c = true
    simp [Tbl.has, (apstCtx_find h).1]
  refine ⟨_, k, exec_apst h, hk, failCmd_ended _ c 0 has, on, table, by simp [apstTaken], by simp [apstTaken], ?_⟩
  rw [(failCmd_same (s.apstTaken x) c 0).qen]
  rfl

end State

/-- Settles O25: the table that has arrived, then each feature by its identifier. -/
theorem setFeaturesSetsItsFeature : Obligations.SetFeaturesSetsItsFeature := by
  unfold Obligations.SetFeaturesSetsItsFeature
  refine ⟨fun s c x h => State.apst_set h, fun s c x h hall => ⟨?_, State.powerManagement_operational h hall, State.powerManagement_nonoperational h hall,
    fun unknown fid_eq => State.powerManagement_refused h hall fid_eq unknown, fun u hs fid_eq good known taken => ?_, State.volatileWriteCache_set h hall, ?_,
    State.hctm_set h hall, State.hctm_refused h hall, ?_⟩⟩
  · exact fun fid_eq => State.controllerFeature_set h hall (fun x k => { k with
      burst := cdwBits x.sqe.cdw11 2 0, lpw := cdwBits x.sqe.cdw11 15 8, mpw := cdwBits x.sqe.cdw11 23 16, hpw := cdwBits x.sqe.cdw11 31 24 }) fid_eq rfl
  · obtain ⟨run, asks⟩ := State.apst_asksData h hall fid_eq good known taken
    exact ⟨_, run, asks.ctx, asks.other, asks.frame⟩
  · exact fun fid_eq => State.controllerFeature_set h hall (fun x k => { k with
      coalThr := cdwBits x.sqe.cdw11 7 0, coalTime := cdwBits x.sqe.cdw11 15 8 }) fid_eq rfl
  · exact fun fid_eq => State.controllerFeature_set h hall (fun x k => { k with aenCfg := x.sqe.cdw11 }) fid_eq rfl

end Sys2Proof.Machine
end

section
/-! PROOFS. Asynchronous Event Requests (spec/04, R113, R479): which request an event goes to, and O26. -/

namespace Sys2Proof.Machine

/-! ## The request that an event goes to -/

/-- The entry is a request of the function that waits for an event (R113). -/
def isWaitingAer (fn : Nat) (e : Nat × Ctx) : Bool :=
  e.2.admin && e.2.accepted && e.2.sqe.opcode == 0x0C && e.2.fn == fn && e.2.state == .fetched

/-- The one of two requests that was fetched first. -/
def earlierAer (fn : Nat) (best : Option (Nat × Ctx)) (e : Nat × Ctx) : Option (Nat × Ctx) :=
  if isWaitingAer fn e then
    match best with
    | some b => if e.2.fetchOrd < b.2.fetchOrd then some e else some b
    | none => some e
  else best

theorem earlierAer_mem {fn : Nat} {P : Nat × Ctx → Prop} {best : Option (Nat × Ctx)} {e : Nat × Ctx} (h : ∀ b ∈ best, P b)
    (he : isWaitingAer fn e = true → P e) : ∀ b ∈ earlierAer fn best e, P b := by
  unfold earlierAer
  split
  next waits =>
    cases best with
    | none => simpa using he waits
    | some b =>
      have hb := h b rfl
      dsimp only
      split
      · simpa using he waits
      · simpa using hb
  · exact h

theorem earlierAer_isSome {fn : Nat} {best : Option (Nat × Ctx)} {e : Nat × Ctx} (h : best.isSome = true ∨ isWaitingAer fn e = true) :
    (earlierAer fn best e).isSome = true := by
  unfold earlierAer
  split
  · cases best with
    | none => rfl
    | some b => dsimp only; split <;> rfl
  next waits => exact h.resolve_right waits

theorem foldl_earlierAer_isSome {fn : Nat} (l : List (Nat × Ctx)) (best : Option (Nat × Ctx)) (h : best.isSome = true ∨ ∃ e ∈ l, isWaitingAer fn e = true) :
    (l.foldl (earlierAer fn) best).isSome = true := by
  induction l generalizing best with
  | nil => simpa using h
  | cons e l ih =>
    refine ih _ ?_
    obtain known | ⟨a, mem, waits⟩ := h
    · exact .inl (earlierAer_isSome (.inl known))
    · obtain rfl | mem := List.mem_cons.mp mem
      · exact .inl (earlierAer_isSome (.inr waits))
      · exact .inr ⟨a, mem, waits⟩

/-- Where every waiting request of a function stands in one context, an event goes to that context. -/
theorem Qen.aerOf_of_only {q : Qen} {fn c : Nat} (only : ∀ e ∈ q.ctxs, isWaitingAer fn e = true → e.1 = c) (one : ∃ e ∈ q.ctxs, isWaitingAer fn e = true) :
    ∃ y, q.aerOf fn = some (c, y) := by
  obtain ⟨⟨d, y⟩, found⟩ := Option.isSome_iff_exists.mp (foldl_earlierAer_isSome q.ctxs none (.inr one))
  have there : ∀ b ∈ q.ctxs.foldl (earlierAer fn) none, b.1 = c :=
    List.foldlRecOn (motive := fun best : Option (Nat × Ctx) => ∀ b ∈ best, b.1 = c) _ _ (by simp) fun best h e mem => earlierAer_mem h (only e mem)
  obtain rfl : d = c := there _ found
  exact ⟨y, found⟩

namespace State

theorem giveEvent_none {s : State} {fn : Nat} (none : (s.qen.ctrl fn).events = []) : s.giveEvent fn = s := by
  unfold giveEvent
  split
  next pending _ => exact nomatch none.symm.trans pending
  · rfl

/-- The oldest event of a function has gone to the request in context `c`. -/
def eventGiven (s : State) (fn c : Nat) (e : AsyncEvent) (es : List AsyncEvent) : State :=
  (s.modQen fun q => q.modCtrl fn fun k => { k with events := es, masked := e.ty :: k.masked }).modCtx c
    fun x => { x with state := .ready, status := 0, result := e.dw0, accepted := false }

theorem giveEvent_some {s : State} {fn c : Nat} {y : Ctx} {e : AsyncEvent} {es : List AsyncEvent} (pending : (s.qen.ctrl fn).events = e :: es)
    (waiting : s.qen.aerOf fn = some (c, y)) : s.giveEvent fn = s.eventGiven fn c e es := by
  unfold giveEvent
  rw [pending, waiting]
  rfl

theorem eventGiven_ctx {s : State} {fn c : Nat} {x : Ctx} {e : AsyncEvent} {es : List AsyncEvent} (hx : Tbl.find? s.qen.ctxs c = some x) :
    Tbl.find? (s.eventGiven fn c e es).qen.ctxs c = some { x with state := .ready, status := 0, result := e.dw0, accepted := false } :=
  find?_modCtx_same (s := s.modQen _) _ hx

theorem eventGiven_other {s : State} {fn c j : Nat} {e : AsyncEvent} {es : List AsyncEvent} (hj : j ≠ c) :
    Tbl.find? (s.eventGiven fn c e es).qen.ctxs j = Tbl.find? s.qen.ctxs j := find?_modCtx_other (s.modQen _) _ hj

theorem eventGiven_ctrl (s : State) (fn c : Nat) (e : AsyncEvent) (es : List AsyncEvent) :
    (s.eventGiven fn c e es).qen.ctrl fn = { s.qen.ctrl fn with events := es, masked := e.ty :: (s.qen.ctrl fn).masked } :=
  Qen.ctrl_modCtrl_same s.qen fn fun k => { k with events := es, masked := e.ty :: k.masked }

section
variable {s : State} {c : Nat} {x : Ctx} (h : s.adminCtx c 0x0C = some x) (hall : s.power.stage = .hall)
include h hall

theorem exec_aer : exec (.asynchronousEventRequest c) s = .next
    (if 16 ≤ (s.qen.ctxs.filter fun e => e.2.admin && e.2.accepted && e.2.sqe.opcode == 0x0C && e.2.fn == x.fn).length then s.finish c stAerLimit
      else (s.modCtx c Ctx.accept).giveEvent x.fn) := by
  change execAsynchronousEventRequest c s = _
  unfold execAsynchronousEventRequest
  exact admin_hall h hall

theorem aer_refused (many : 16 ≤ (s.qen.ctxs.filter fun e => e.2.admin && e.2.accepted && e.2.sqe.opcode == 0x0C && e.2.fn == x.fn).length) :
    s.OnlyEnds (.asynchronousEventRequest c) c x stAerLimit :=
  onlyEnds_of_finish (adminCtx_find h).1 (by rw [exec_aer h hall, if_pos many])

theorem exec_aer_accepted (few : (s.qen.ctxs.filter fun e => e.2.admin && e.2.accepted && e.2.sqe.opcode == 0x0C && e.2.fn == x.fn).length < 16) :
    exec (.asynchronousEventRequest c) s = .next ((s.modCtx c Ctx.accept).giveEvent x.fn) := by
  rw [exec_aer h hall, if_neg (Nat.not_le.mpr few)]

omit hall in
/-- A request that is the first of its function is the one that waits. -/
theorem aerOf_accepted (alone : (s.qen.ctxs.filter fun e => e.2.admin && e.2.accepted && e.2.sqe.opcode == 0x0C && e.2.fn == x.fn).length = 0) :
    ∃ y, (s.modCtx c Ctx.accept).qen.aerOf x.fn = some (c, y) := by
  obtain ⟨hx, fetched, -, -, admin, op⟩ := adminCtx_find h
  refine Qen.aerOf_of_only (fun e mem waits => ?_) ⟨(c, x.accept), Tbl.mem_of_find? (find?_modCtx_same Ctx.accept hx), ?_⟩
  · by_contra other
    obtain ⟨a, ha, rfl⟩ := List.mem_map.mp mem
    have left : (if a.1 = c then (a.1, a.2.accept) else a) = a := by
      refine if_neg fun eq => other ?_
      rw [if_pos eq]
      exact eq
    rw [left] at waits
    have outstanding := (Bool.and_eq_true _ _).mp waits
    exact List.filter_eq_nil_iff.mp (List.eq_nil_of_length_eq_zero alone) a ha outstanding.1
  · simp [isWaitingAer, Ctx.accept, admin, op, fetched]

end

end State

/-- Settles O26: the limit, then whether an event is there for the request. -/
theorem eventRequestsWaitForTheirEvent : Obligations.EventRequestsWaitForTheirEvent := by
  intro s c x h hall
  have hx := (State.adminCtx_find h).1
  refine ⟨State.aer_refused h hall, fun few none => ?_, fun e es alone pending => ?_⟩
  · refine ⟨s.modCtx c Ctx.accept, ?_, State.find?_modCtx_same Ctx.accept hx, fun j hj => s.find?_modCtx_other Ctx.accept hj, rfl⟩
    rw [State.exec_aer_accepted h hall few, State.giveEvent_none (s := s.modCtx c Ctx.accept) none]
  · obtain ⟨y, waiting⟩ := State.aerOf_accepted h alone
    refine ⟨(s.modCtx c Ctx.accept).eventGiven x.fn c e es, ?_, State.eventGiven_ctx (x := x.accept) (State.find?_modCtx_same Ctx.accept hx), ?_, ?_,
      fun j hj => (State.eventGiven_other hj).trans (s.find?_modCtx_other Ctx.accept hj), rfl⟩
    · rw [State.exec_aer_accepted h hall (by omega), State.giveEvent_some (s := s.modCtx c Ctx.accept) pending waiting]
    all_goals rw [State.eventGiven_ctrl]
    rfl

end Sys2Proof.Machine
end

section
/-! PROOFS. Caught commands and Abort (spec/04, R112, R113, R116, R117): what catching a command leaves, and O22. -/

namespace Sys2Proof.Machine

/-! ## What no event and no end of a command changes of it -/

/-- What a context keeps while events and ends of commands happen: whose command it is and which. -/
def Ctx.command (x : Ctx) : Bool × Sqe × Nat × Nat := (x.admin, x.sqe, x.sqid, x.fn)

/-- The commands in the contexts. -/
def Qen.commands (q : Qen) : List (Nat × Bool × Sqe × Nat × Nat) := q.ctxs.map fun e => (e.1, e.2.command)

theorem SameCtxs.sqs {s t : State} (h : SameCtxs s t) : t.qen.sqs = s.qen.sqs := by rw [h.qen]

theorem SameCtxs.cqs {s t : State} (h : SameCtxs s t) : t.qen.cqs = s.qen.cqs := by rw [h.qen]

namespace Qen

theorem commands_modCtx (q : Qen) (c : Nat) {f : Ctx → Ctx} (h : ∀ x, (f x).command = x.command) : (q.modCtx c f).commands = q.commands := by
  unfold commands modCtx Tbl.adjust
  rw [List.map_map]
  refine List.map_congr_left fun e _ => ?_
  by_cases at_ : e.1 = c <;> simp [at_, h]

/-- A lookup finds the same command. -/
theorem find?_of_commands {q r : Qen} (h : r.commands = q.commands) {c : Nat} {x : Ctx} (hx : Tbl.find? q.ctxs c = some x) :
    ∃ y, Tbl.find? r.ctxs c = some y ∧ y.command = x.command := by
  have same : (Tbl.find? r.ctxs c).map Ctx.command = some x.command := by
    rw [← Tbl.find?_map, ← commands, h, commands, Tbl.find?_map, hx]
    rfl
  exact Option.map_eq_some_iff.mp same

/-- Each context stands for one of the same command. -/
theorem mem_of_commands {q r : Qen} (h : r.commands = q.commands) {e : Nat × Ctx} (he : e ∈ r.ctxs) : ∃ a ∈ q.ctxs, a.1 = e.1 ∧ a.2.command = e.2.command := by
  have mem : (e.1, e.2.command) ∈ q.commands := h ▸ List.mem_map_of_mem he
  obtain ⟨a, ha, eq⟩ := List.mem_map.mp mem
  obtain ⟨key, command⟩ := Prod.mk.inj eq
  exact ⟨a, ha, key, command⟩

end Qen

namespace State

theorem asyncEvent_commands (s : State) (fn : Nat) (e : AsyncEvent) : (s.asyncEvent fn e).qen.commands = s.qen.commands := by
  unfold asyncEvent
  split
  · rfl
  · unfold giveEvent
    split
    · exact Qen.commands_modCtx _ _ fun _ => rfl
    · rfl

theorem freeBufs_commands (s : State) (bs : List (BitVec 24)) : (s.freeBufs bs).qen.commands = s.qen.commands :=
  freeBufs_qen_of_told (P := fun q => q.commands = s.qen.commands) (fun t fn e h => (t.asyncEvent_commands fn e).trans h) s bs rfl

theorem failCmd_commands (s : State) (c st : Nat) : (s.failCmd c st).qen.commands = s.qen.commands := by
  unfold failCmd
  split
  next x _ =>
    refine (Qen.commands_modCtx _ c ?_).trans ((Qen.commands_modCtx _ c ?_).trans (s.freeBufs_commands x.bufs)) <;> exact fun _ => rfl
  · rfl

/-! ## Catching a command (R113, R116) -/

/-- The state with a caught command withdrawn and marked, before it ends. -/
def caught (s : State) (c : Nat) (x : Ctx) : State :=
  (if x.dsn = 0 then s else s.modMxe fun m => m.withdraw c x.dsn).modCtx c fun y => { y with caught := true }

theorem catchCmd_found {s : State} {c st : Nat} {x : Ctx} (h : Tbl.find? s.qen.ctxs c = some x) : s.catchCmd c st = (s.caught c x).failCmd c st := by
  unfold catchCmd
  rw [h]
  rfl

theorem catchCmd_missing {s : State} {c st : Nat} (h : Tbl.find? s.qen.ctxs c = none) : s.catchCmd c st = s := by
  unfold catchCmd
  rw [h]

theorem caught_qen (s : State) (c : Nat) (x : Ctx) : (s.caught c x).qen = s.qen.modCtx c fun y => { y with caught := true } := by
  unfold caught
  split <;> rfl

/-- What is caught was in no map and on no page yet. -/
theorem caught_mxe (s : State) (c : Nat) (x : Ctx) : (s.caught c x).mxe.map = s.mxe.map ∧ (s.caught c x).mxe.nand = s.mxe.nand := by
  unfold caught
  split <;> exact ⟨rfl, rfl⟩

theorem caught_same (s : State) (c : Nat) (x : Ctx) : SameCtxs s (s.caught c x) := by
  unfold caught
  split
  · exact modCtx_same _ _ _
  · exact SameCtxs.trans (t := s.modMxe fun m => m.withdraw c x.dsn) (.ofEq rfl rfl) (modCtx_same _ _ _)

/-- From `s` to `t` commands are caught: contexts in use and queues stay, the commands in them too, and neither the map nor the NAND changes. -/
structure Catches (s t : State) : Prop where
  same : SameCtxs s t
  commands : t.qen.commands = s.qen.commands
  map : t.mxe.map = s.mxe.map
  nand : t.mxe.nand = s.mxe.nand
  tnu : t.tnu = s.tnu
  power : t.power = s.power
  tbu : t.tbu = s.tbu

theorem Catches.refl (s : State) : Catches s s := ⟨.refl s, rfl, rfl, rfl, rfl, rfl, rfl⟩

theorem Catches.trans {s t u : State} (h : Catches s t) (k : Catches t u) : Catches s u :=
  ⟨h.same.trans k.same, k.commands.trans h.commands, k.map.trans h.map, k.nand.trans h.nand, k.tnu.trans h.tnu, k.power.trans h.power, k.tbu.trans h.tbu⟩

theorem catchCmd_catches (s : State) (c st : Nat) : Catches s (s.catchCmd c st) := by
  cases h : Tbl.find? s.qen.ctxs c with
  | none =>
    rw [catchCmd_missing h]
    exact .refl s
  | some x =>
    obtain ⟨map, nand⟩ := s.caught_mxe c x
    have frame : (s.catchCmd c st).tnu = s.tnu ∧ (s.catchCmd c st).power = s.power ∧ (s.catchCmd c st).tbu = s.tbu := by simp
    rw [catchCmd_found h] at frame ⊢
    obtain ⟨tnu, power, tbu⟩ := frame
    refine ⟨(s.caught_same c x).trans (failCmd_same _ _ _), ?_, by simpa using map, by simpa using nand, tnu, power, tbu⟩
    rw [failCmd_commands, caught_qen]
    exact Qen.commands_modCtx _ c fun _ => rfl

theorem catchCmd_ended {s : State} {c : Nat} (st : Nat) (h : Tbl.has s.qen.ctxs c = true) : (s.catchCmd c st).ended c st := by
  obtain ⟨x, hx⟩ := Tbl.find?_of_has h
  rw [catchCmd_found hx]
  exact failCmd_ended _ c st (((s.caught_same c x).has c).trans h)

end State

theorem Tbl.has_of_mem {α : Type} {t : List (Nat × α)} {e : Nat × α} (h : e ∈ t) : Tbl.has t e.1 = true := by
  induction t with
  | nil => cases h
  | cons a t ih =>
    obtain ⟨k, v⟩ := a
    by_cases at_ : e.1 = k
    · simp [Tbl.has, Tbl.find?, at_]
    · obtain rfl | h := List.mem_cons.mp h
      · exact absurd rfl at_
      · simpa [Tbl.has, Tbl.find?, at_] using ih h

namespace State

/-! ## Abort -/

/-- The Aborts of the controller that were fetched before this one and have not completed (R117). -/
def abortsBefore (s : State) (x : Ctx) : Nat :=
  (s.qen.ctxs.filter fun e => e.2.admin && e.2.sqe.opcode == 0x08 && e.2.fn == x.fn && decide (e.2.fetchOrd < x.fetchOrd)).length

/-- The one lookup of an Abort in a queue (R112). -/
def abortHit (s : State) (x : Ctx) (k : Nat) : Option (Nat × Ctx) :=
  s.qen.ctxs.find? fun e => e.2.sqid == k && e.2.sqe.cid.toNat == cdwBits x.sqe.cdw10 31 16 && s.catchable e.1 e.2

section
variable {s : State} {c : Nat} {x : Ctx} (h : s.adminCtx c 0x08 = some x) (hall : s.power.stage = .hall)
include h hall

theorem exec_abort : exec (.abort c) s = .next
    (if 32 ≤ s.abortsBefore x then (s.sample 7).finish c stAbortLimit
      else match (s.namedQueue x).bind (s.abortHit x) with
        | some (k, _) => (((s.sample 7).catchCmd k stAborted).count Fld.QEN_ABORT_CNT.CAUGHT 0 1).finish c 0
        | none => ((s.sample 7).count Fld.QEN_ABORT_CNT.MISSED 0 1).finishWith c 1) := by
  change execAbort c s = _
  unfold execAbort
  exact admin_hall h hall

theorem abort_refused (many : 32 ≤ s.abortsBefore x) : ∃ t, exec (.abort c) s = .next t ∧ s.answered t c x stAbortLimit ∧
    t = { s.sample 7 with qen := { s.qen with ctxs := t.qen.ctxs } } := by
  refine ⟨(s.sample 7).finish c stAbortLimit, ?_, finish_after (u := s.sample 7) (adminCtx_find h).1 rfl, rfl⟩
  rw [exec_abort h hall, if_pos many]

theorem abort_misses (few : s.abortsBefore x < 32) (miss : ∀ k, s.namedQueue x = some k →
      ∀ e ∈ s.qen.ctxs, ¬(e.2.sqid = k ∧ e.2.sqe.cid.toNat = cdwBits x.sqe.cdw10 31 16 ∧ s.catchable e.1 e.2 = true)) :
    exec (.abort c) s = .next (((s.sample 7).count Fld.QEN_ABORT_CNT.MISSED 0 1).finishWith c 1) := by
  have none : (s.namedQueue x).bind (s.abortHit x) = none := by
    refine Option.bind_eq_none_iff.mpr fun k named => List.find?_eq_none.mpr fun e he => ?_
    simpa [and_assoc] using miss k named e he
  rw [exec_abort h hall, if_neg (Nat.not_le.mpr few), none]

theorem abort_catches {k d : Nat} {y : Ctx} (few : s.abortsBefore x < 32) (named : s.namedQueue x = some k) (other : d ≠ c) (hit : s.abortHit x k = some (d, y)) :
    ∃ t z, exec (.abort c) s = .next t ∧ Tbl.find? t.qen.ctxs c = some z ∧ z.state = .ready ∧ z.status = 0 ∧ t.ended d stAborted ∧
      t.mxe.map = s.mxe.map ∧ t.mxe.nand = s.mxe.nand ∧ t.tnu = s.tnu ∧ t.power = s.power ∧ t.tbu = (s.sample 7).tbu ∧ t.qen.sqs = s.qen.sqs ∧ t.qen.cqs = s.qen.cqs := by
  have run : exec (.abort c) s = .next ((((s.sample 7).catchCmd d stAborted).count Fld.QEN_ABORT_CNT.CAUGHT 0 1).finish c 0) := by
    rw [exec_abort h hall, if_neg (Nat.not_le.mpr few), named, Option.bind_some, hit]
  have catches := (s.sample 7).catchCmd_catches d stAborted
  obtain ⟨z, hz⟩ := Tbl.find?_of_has ((catches.same.has c).trans (adminCtx_has h))
  have ended := catchCmd_ended (s := s.sample 7) stAborted (Tbl.has_of_mem (List.mem_of_find?_eq_some hit))
  obtain ⟨w, hw, ready⟩ := ended
  refine ⟨_, _, run, finish_ctx _ c 0 z hz, rfl, rfl, ⟨w, ?_, ready⟩, catches.map, catches.nand, catches.tnu, catches.power, catches.tbu, catches.same.sqs, catches.same.cqs⟩
  exact (find?_modCtx_other _ _ other).trans hw

end

end State

/-- Settles O22: the limit, the miss, and the command that is caught. -/
theorem abortCatchesOrMisses : Obligations.AbortCatchesOrMisses := by
  intro s c x h hall
  refine ⟨State.abort_refused h hall, fun few miss => ?_, fun k d y few named other hit => State.abort_catches h hall few named other hit⟩
  refine ⟨_, State.abort_misses h hall few miss, State.finishWith_ctx (State.adminCtx_find h).1, fun j hj => State.finishWith_other hj, ?_, rfl⟩
  exact State.fld_count_same (s.sample 7) Fld.QEN_ABORT_CNT.MISSED 0 1

end Sys2Proof.Machine
end

section
/-! PROOFS. Queue commands (spec/04, R93, R98, R100, R135, R528): a queue that is created, what refuses it, a queue that is deleted, and O23. -/

namespace Sys2Proof.Machine

/-! ## The class of a queue (R100) -/

theorem classOf_urgent_iff (n : Nat) : classOf n = .urgent ↔ n = 0 := by
  match n with
  | 0 => decide
  | 1 => decide
  | 2 => decide
  | n + 3 => exact ⟨nofun, nofun⟩

theorem classOf_high_iff (n : Nat) : classOf n = .high ↔ n = 1 := by
  match n with
  | 0 => decide
  | 1 => decide
  | 2 => decide
  | n + 3 => exact ⟨nofun, by omega⟩

theorem classOf_normal_iff (n : Nat) : classOf n = .normal ↔ n = 2 := by
  match n with
  | 0 => decide
  | 1 => decide
  | 2 => decide
  | n + 3 => exact ⟨nofun, by omega⟩

namespace State

/-- A new queue's class is the one its command names under weighted round robin, else the default. -/
theorem sqClass_new (s : State) (fn slice cq size base prio : Nat) (cmb : Option Nat) :
    s.sqClass (Sq.new fn slice cq size base (s.queuePrio fn prio) cmb) = classOf (if (s.qen.ctrl fn).wrr then prio else s.obj Ob.DEFAULT_CLASS) := by
  simp only [sqClass, Sq.new, queuePrio]
  cases (s.qen.ctrl fn).wrr <;> rfl

/-! ## Creation -/

section
variable {s : State} {c : Nat} {x : Ctx} (h : s.adminCtx c 0x01 = some x) (hall : s.power.stage = .hall)
include h hall

theorem exec_createSq (m : Option Nat) : exec (.createIoSubmissionQueue c m) s = .next
    (match s.queueNo x.fn (cdwBits x.sqe.cdw10 15 0) with
    | some (k, sl) =>
      if Tbl.has s.qen.sqs k then s.finish c stQidInvalid
      else if queueSize x.sqe.cdw10 < 2 then s.finish c stQsizeInvalid
      else if x.sqe.cdw11.getLsbD 0 = false then s.finish c stInvalidField
      else
        match s.queueNo x.fn (cdwBits x.sqe.cdw11 31 16) with
        | some (cq, csl) =>
          if Tbl.has s.qen.cqs cq = true ∧ csl = sl then
            (s.modQen fun q => { q with sqs := Tbl.put q.sqs k (Sq.new x.fn sl cq (queueSize x.sqe.cdw10) (prp1 x.sqe) (s.queuePrio x.fn (cdwBits x.sqe.cdw11 2 1)) m) }).finish c 0
          else s.finish c stCqInvalid
        | none => s.finish c stCqInvalid
    | none => s.finish c stQidInvalid) := by
  change execCreateIoSubmissionQueue c m s = _
  unfold execCreateIoSubmissionQueue
  exact admin_hall h hall

theorem createSq_unknown (m : Option Nat) (unknown : s.queueNo x.fn (cdwBits x.sqe.cdw10 15 0) = none) :
    s.OnlyEnds (.createIoSubmissionQueue c m) c x stQidInvalid :=
  onlyEnds_of_finish (adminCtx_find h).1 (by rw [exec_createSq h hall, unknown])

variable {k sl : Nat} (named : s.queueNo x.fn (cdwBits x.sqe.cdw10 15 0) = some (k, sl))
include named

theorem createSq_taken (m : Option Nat) (taken : Tbl.has s.qen.sqs k = true) : s.OnlyEnds (.createIoSubmissionQueue c m) c x stQidInvalid :=
  onlyEnds_of_finish (adminCtx_find h).1 (by rw [exec_createSq h hall, named]; exact congrArg _ (if_pos taken))

variable (new : Tbl.has s.qen.sqs k = false)
include new

theorem createSq_small (m : Option Nat) (small : cdwBits x.sqe.cdw10 31 16 = 0) : s.OnlyEnds (.createIoSubmissionQueue c m) c x stQsizeInvalid := by
  refine onlyEnds_of_finish (adminCtx_find h).1 ?_
  rw [exec_createSq h hall, named]
  exact congrArg _ ((if_neg (by simp [new])).trans (if_pos (by simp [queueSize, small])))

variable (size : cdwBits x.sqe.cdw10 31 16 ≠ 0)
include size

/-- A new queue of a good size is created where it is contiguous and its completion queue is one of the same slice. -/
theorem exec_createSq_sized (m : Option Nat) : exec (.createIoSubmissionQueue c m) s = .next
    (if x.sqe.cdw11.getLsbD 0 = false then s.finish c stInvalidField
    else
      match s.queueNo x.fn (cdwBits x.sqe.cdw11 31 16) with
      | some (cq, csl) =>
        if Tbl.has s.qen.cqs cq = true ∧ csl = sl then
          (s.modQen fun q => { q with sqs := Tbl.put q.sqs k (Sq.new x.fn sl cq (queueSize x.sqe.cdw10) (prp1 x.sqe) (s.queuePrio x.fn (cdwBits x.sqe.cdw11 2 1)) m) }).finish c 0
        else s.finish c stCqInvalid
      | none => s.finish c stCqInvalid) := by
  rw [exec_createSq h hall, named]
  exact congrArg _ ((if_neg (by simp [new])).trans (if_neg (by simp only [queueSize]; omega)))

theorem createSq_scattered (m : Option Nat) (scattered : x.sqe.cdw11.getLsbD 0 = false) : s.OnlyEnds (.createIoSubmissionQueue c m) c x stInvalidField :=
  onlyEnds_of_finish (adminCtx_find h).1 (by rw [exec_createSq_sized h hall named new size, if_pos scattered])

variable (whole : x.sqe.cdw11.getLsbD 0 = true)
include whole

theorem createSq_noCq (m : Option Nat) (noCq : s.queueNo x.fn (cdwBits x.sqe.cdw11 31 16) = none) :
    s.OnlyEnds (.createIoSubmissionQueue c m) c x stCqInvalid :=
  onlyEnds_of_finish (adminCtx_find h).1 (by rw [exec_createSq_sized h hall named new size, if_neg (by rw [whole]; decide), noCq])

theorem createSq_creates {cq : Nat} (m : Option Nat) (cqNamed : s.queueNo x.fn (cdwBits x.sqe.cdw11 31 16) = some (cq, sl)) (cqHas : Tbl.has s.qen.cqs cq = true) :
    exec (.createIoSubmissionQueue c m) s = .next ((s.modQen fun q => { q with
      sqs := Tbl.put q.sqs k (Sq.new x.fn sl cq (queueSize x.sqe.cdw10) (prp1 x.sqe) (s.queuePrio x.fn (cdwBits x.sqe.cdw11 2 1)) m) }).finish c 0) := by
  rw [exec_createSq_sized h hall named new size, if_neg (by rw [whole]; decide), cqNamed]
  exact congrArg _ (if_pos ⟨cqHas, rfl⟩)

end

section
variable {s : State} {c : Nat} {x : Ctx} (h : s.adminCtx c 0x05 = some x) (hall : s.power.stage = .hall)
include h hall

theorem exec_createCq : exec (.createIoCompletionQueue c) s = .next
    (match s.queueNo x.fn (cdwBits x.sqe.cdw10 15 0) with
    | some (k, sl) =>
      if Tbl.has s.qen.cqs k then s.finish c stQidInvalid
      else if queueSize x.sqe.cdw10 < 2 then s.finish c stQsizeInvalid
      else if x.sqe.cdw11.getLsbD 0 = false then s.finish c stInvalidField
      else if x.sqe.cdw11.getLsbD 1 && !s.vectorOk sl (cdwBits x.sqe.cdw11 31 16) then s.finish c stVectorInvalid
      else (s.modQen fun q => { q with cqs := Tbl.put q.cqs k (Cq.new x.fn sl (queueSize x.sqe.cdw10) (prp1 x.sqe) (cdwBits x.sqe.cdw11 31 16) (x.sqe.cdw11.getLsbD 1)) }).finish c 0
    | none => s.finish c stQidInvalid) := by
  change execCreateIoCompletionQueue c s = _
  unfold execCreateIoCompletionQueue
  exact admin_hall h hall

theorem createCq_unknown (unknown : s.queueNo x.fn (cdwBits x.sqe.cdw10 15 0) = none) : s.OnlyEnds (.createIoCompletionQueue c) c x stQidInvalid :=
  onlyEnds_of_finish (adminCtx_find h).1 (by rw [exec_createCq h hall, unknown])

variable {k sl : Nat} (named : s.queueNo x.fn (cdwBits x.sqe.cdw10 15 0) = some (k, sl))
include named

theorem createCq_taken (taken : Tbl.has s.qen.cqs k = true) : s.OnlyEnds (.createIoCompletionQueue c) c x stQidInvalid :=
  onlyEnds_of_finish (adminCtx_find h).1 (by rw [exec_createCq h hall, named]; exact congrArg _ (if_pos taken))

variable (new : Tbl.has s.qen.cqs k = false)
include new

theorem createCq_small (small : cdwBits x.sqe.cdw10 31 16 = 0) : s.OnlyEnds (.createIoCompletionQueue c) c x stQsizeInvalid := by
  refine onlyEnds_of_finish (adminCtx_find h).1 ?_
  rw [exec_createCq h hall, named]
  exact congrArg _ ((if_neg (by simp [new])).trans (if_pos (by simp [queueSize, small])))

variable (size : cdwBits x.sqe.cdw10 31 16 ≠ 0)
include size

/-- A new queue of a good size is created where it is contiguous and its vector is one of the slice's. -/
theorem exec_createCq_sized : exec (.createIoCompletionQueue c) s = .next
    (if x.sqe.cdw11.getLsbD 0 = false then s.finish c stInvalidField
    else if x.sqe.cdw11.getLsbD 1 && !s.vectorOk sl (cdwBits x.sqe.cdw11 31 16) then s.finish c stVectorInvalid
    else (s.modQen fun q => { q with cqs := Tbl.put q.cqs k (Cq.new x.fn sl (queueSize x.sqe.cdw10) (prp1 x.sqe) (cdwBits x.sqe.cdw11 31 16) (x.sqe.cdw11.getLsbD 1)) }).finish c 0) := by
  rw [exec_createCq h hall, named]
  exact congrArg _ ((if_neg (by simp [new])).trans (if_neg (by simp only [queueSize]; omega)))

theorem createCq_scattered (scattered : x.sqe.cdw11.getLsbD 0 = false) : s.OnlyEnds (.createIoCompletionQueue c) c x stInvalidField :=
  onlyEnds_of_finish (adminCtx_find h).1 (by rw [exec_createCq_sized h hall named new size, if_pos scattered])

variable (whole : x.sqe.cdw11.getLsbD 0 = true)
include whole

theorem createCq_badVector (ien : x.sqe.cdw11.getLsbD 1 = true) (bad : s.vectorOk sl (cdwBits x.sqe.cdw11 31 16) = false) :
    s.OnlyEnds (.createIoCompletionQueue c) c x stVectorInvalid := by
  refine onlyEnds_of_finish (adminCtx_find h).1 ?_
  rw [exec_createCq_sized h hall named new size, if_neg (by rw [whole]; decide), if_pos (by rw [ien, bad]; rfl)]

theorem createCq_creates (vector : x.sqe.cdw11.getLsbD 1 = false ∨ s.vectorOk sl (cdwBits x.sqe.cdw11 31 16) = true) :
    exec (.createIoCompletionQueue c) s = .next ((s.modQen fun q => { q with
      cqs := Tbl.put q.cqs k (Cq.new x.fn sl (queueSize x.sqe.cdw10) (prp1 x.sqe) (cdwBits x.sqe.cdw11 31 16) (x.sqe.cdw11.getLsbD 1)) }).finish c 0) := by
  have good : ¬(x.sqe.cdw11.getLsbD 1 && !s.vectorOk sl (cdwBits x.sqe.cdw11 31 16)) = true := by
    obtain off | ok := vector
    · rw [off, Bool.false_and]; decide
    · rw [ok, Bool.not_true, Bool.and_false]; decide
  rw [exec_createCq_sized h hall named new size, if_neg (by rw [whole]; decide), if_neg good]

end

/-! ## Deletion of a completion queue -/

section
variable {s : State} {c k : Nat} {x : Ctx} (h : s.adminCtx c 0x04 = some x) (hall : s.power.stage = .hall) (named : s.namedQueue x = some k)
  (has : Tbl.has s.qen.cqs k = true) (io : k < 4096)
include h hall named has io

theorem exec_deleteCq : exec (.deleteIoCompletionQueue c) s = .next
    (if s.qen.sqs.any fun e => e.2.cq == k then s.finish c stQueueDeletion else (s.modQen fun q => { q with cqs := Tbl.del q.cqs k }).finish c 0) := by
  change execDeleteIoCompletionQueue c s = _
  unfold execDeleteIoCompletionQueue
  refine (admin_hall h hall).trans (congrArg Host.Outcome.next ?_)
  rw [named]
  exact if_neg (by simp [has, io])

theorem deleteCq_used (used : ∃ e ∈ s.qen.sqs, e.2.cq = k) : s.OnlyEnds (.deleteIoCompletionQueue c) c x stQueueDeletion :=
  onlyEnds_of_finish (adminCtx_find h).1 (by rw [exec_deleteCq h hall named has io, if_pos (by simpa using used)])

theorem deleteCq_deletes (unused : ∀ e ∈ s.qen.sqs, e.2.cq ≠ k) :
    exec (.deleteIoCompletionQueue c) s = .next ((s.modQen fun q => { q with cqs := Tbl.del q.cqs k }).finish c 0) := by
  rw [exec_deleteCq h hall named has io, if_neg (by simpa using unused)]

end

/-! ## Commands that end a deletion (R528) -/

theorem finish_fold_other {c : Nat} (l : List Nat) (s : State) (h : c ∉ l) :
    Tbl.find? (l.foldl (fun s c => s.finish c 0) s).qen.ctxs c = Tbl.find? s.qen.ctxs c := by
  induction l generalizing s with
  | nil => rfl
  | cons d l ih =>
    obtain ⟨first, rest⟩ := not_or.mp (mt List.mem_cons.mpr h)
    exact (ih _ rest).trans (find?_modCtx_other _ _ first)

/-- The state without the submission queues that commands name for deletion. -/
def withoutSqs (s : State) (es : List (Nat × Ctx)) : State :=
  s.modQen fun q => { q with sqs := q.sqs.filter fun f => es.all fun e => !e.2.waits.contains f.1 }

/-- Deletions that are final together: their queues go, then their commands end. -/
theorem deletions_fold (es : List (Nat × Ctx)) (s : State) :
    es.foldl (fun s e => (s.modQen fun q => { q with sqs := q.sqs.filter fun f => !e.2.waits.contains f.1 }).finish e.1 0) s =
      (es.map Prod.fst).foldl (fun s c => s.finish c 0) (s.withoutSqs es) := by
  induction es generalizing s with
  | nil => simp [withoutSqs, modQen]
  | cons e es ih =>
    rw [List.foldl_cons, ih, List.map_cons, List.foldl_cons]
    congr 1
    simp only [withoutSqs, finish, modCtx, modQen, Qen.modCtx, List.filter_filter, List.all_cons, Bool.and_comm]

/-- The commands whose deletion is final. -/
def finalDeletions (s : State) : List (Nat × Ctx) :=
  s.qen.ctxs.filter fun e => e.2.admin && e.2.accepted && e.2.sqe.opcode == 0x00 && !(s.qen.ctxs.any fun f => !f.2.admin && e.2.waits.contains f.2.sqid)

theorem deletionsDone_eq (s : State) :
    s.deletionsDone = (s.finalDeletions.map Prod.fst).foldl (fun s c => s.finish c 0) (s.withoutSqs s.finalDeletions) := deletions_fold _ s

/-! ## Deletion of a submission queue -/

/-- The queue is being deleted: no entry of it is fetched any more. -/
def deletionBegun (s : State) (k : Nat) : State :=
  s.modQen fun q => { q with sqs := Tbl.adjust q.sqs k fun y => { y with deleting := true, arrivals := [] } }

/-- The commands of the queue that can be caught are. -/
def deletionCaught (s : State) (k : Nat) : State :=
  (s.qen.ctxs.filter fun e => e.2.sqid == k && s.catchable e.1 e.2).foldl (fun s e => s.catchCmd e.1 stSqDeleted) (s.deletionBegun k)

end State

/-- The command waits for the queue's commands to post. -/
def Ctx.deletes (k : Nat) (x : Ctx) : Ctx := { x with accepted := true, waits := [k] }

namespace State

/-- The command has begun to delete the queue, and what of it was final is over. -/
def deletionRun (s : State) (c k : Nat) : State := (s.deletionCaught k).modCtx c (Ctx.deletes k)

theorem deletionCaught_catches (s : State) (k : Nat) : Catches (s.deletionBegun k) (s.deletionCaught k) :=
  List.foldlRecOn (motive := Catches (s.deletionBegun k)) _ _ (.refl _) fun t h e _ => h.trans (t.catchCmd_catches e.1 stSqDeleted)

theorem deletionRun_commands (s : State) (c k : Nat) : (s.deletionRun c k).qen.commands = s.qen.commands :=
  (Qen.commands_modCtx (s.deletionCaught k).qen c (f := Ctx.deletes k) fun _ => rfl).trans (s.deletionCaught_catches k).commands

section
variable {s : State} {c k : Nat} {x : Ctx} (h : s.adminCtx c 0x00 = some x) (hall : s.power.stage = .hall) (named : s.namedQueue x = some k)
  (has : Tbl.has s.qen.sqs k = true) (io : k < 4096)
include h hall named has io

theorem exec_deleteSq : exec (.deleteIoSubmissionQueue c) s = .next (s.deletionRun c k).deletionsDone := by
  change execDeleteIoSubmissionQueue c s = _
  unfold execDeleteIoSubmissionQueue
  refine (admin_hall h hall).trans (congrArg Host.Outcome.next ?_)
  rw [named]
  exact if_pos ⟨has, io⟩

end

/-- A command that is still running keeps the deletion of its queue from being final. -/
theorem finalDeletions_idle {s : State} {e f : Nat × Ctx} (he : e ∈ s.finalDeletions) (hf : f ∈ s.qen.ctxs) (io : f.2.admin = false) : f.2.sqid ∉ e.2.waits := by
  have final := (List.mem_filter.mp he).2
  simp only [Bool.and_eq_true, Bool.not_eq_true', List.any_eq_false] at final
  simpa [io] using final.2 f hf

/-- The deletion begins with the command that asks for it. -/
theorem deletionRun_own {s : State} {c k : Nat} {e : Nat × Ctx} (he : e ∈ (s.deletionRun c k).qen.ctxs) (own : e.1 = c) : k ∈ e.2.waits := by
  obtain ⟨a, -, ha⟩ := List.mem_map.mp he
  by_cases key : a.1 = c
  · rw [← ha, if_pos key]
    exact List.mem_singleton.mpr rfl
  · rw [if_neg key] at ha
    exact absurd ((congrArg Prod.fst ha).trans own) key

/-- Commands that cannot be caught go on. -/
theorem deletionCaught_none {s : State} {k : Nat} (late : ∀ e ∈ s.qen.ctxs, e.2.sqid = k → s.catchable e.1 e.2 = false) : s.deletionCaught k = s.deletionBegun k := by
  have empty : (s.qen.ctxs.filter fun e => e.2.sqid == k && s.catchable e.1 e.2) = [] :=
    List.filter_eq_nil_iff.mpr fun e he both => by
      simp only [Bool.and_eq_true, beq_iff_eq] at both
      exact absurd both.2 (by simp [late e he both.1])
  unfold deletionCaught
  rw [empty]
  rfl

/-- While a command of the queue is running, no deletion of the queue is final. -/
theorem deletionRun_held {s : State} {c k : Nat} (busy : ∃ e ∈ s.qen.ctxs, e.2.admin = false ∧ e.2.sqid = k) {e : Nat × Ctx} (he : e ∈ (s.deletionRun c k).finalDeletions) :
    k ∉ e.2.waits := by
  obtain ⟨a, ha, aIo, aSqid⟩ := busy
  obtain ⟨f, hf, -, command⟩ := Qen.mem_of_commands (s.deletionRun_commands c k).symm ha
  simp only [Ctx.command, Prod.mk.injEq] at command
  obtain ⟨fAdmin, -, fSqid, -⟩ := command
  exact (fSqid.trans aSqid) ▸ finalDeletions_idle he hf (fAdmin.trans aIo)

section
variable {s : State} {c k : Nat} {x : Ctx} (h : s.adminCtx c 0x00 = some x)
include h

theorem deletionRun_ctx : ∃ z : Ctx, Tbl.find? (s.deletionRun c k).qen.ctxs c = some (z.deletes k) ∧ z.command = x.command := by
  obtain ⟨z, hz, command⟩ := Qen.find?_of_commands (s.deletionCaught_catches k).commands (adminCtx_find h).1
  exact ⟨z, find?_modCtx_same (Ctx.deletes k) hz, command⟩

/-- The deletion is final where no command of the queue is left. -/
theorem deletionRun_final (idle : ∀ e ∈ s.qen.ctxs, e.2.admin = false → e.2.sqid ≠ k) :
    ∃ z : Ctx, (c, z.deletes k) ∈ (s.deletionRun c k).finalDeletions := by
  obtain ⟨-, -, -, -, admin, op⟩ := adminCtx_find h
  obtain ⟨z, hz, command⟩ := deletionRun_ctx (k := k) h
  simp only [Ctx.command, Prod.mk.injEq] at command
  obtain ⟨zAdmin, zSqe, -, -⟩ := command
  refine ⟨z, List.mem_filter.mpr ⟨Tbl.mem_of_find? hz, ?_⟩⟩
  have none : ((s.deletionRun c k).qen.ctxs.any fun f => !f.2.admin && [k].contains f.2.sqid) = false := by
    refine List.any_eq_false.mpr fun f hf => ?_
    obtain ⟨a, ha, -, command⟩ := Qen.mem_of_commands (s.deletionRun_commands c k) hf
    simp only [Ctx.command, Prod.mk.injEq] at command
    obtain ⟨fAdmin, -, fSqid, -⟩ := command
    simpa [← fAdmin, ← fSqid] using idle a ha
  rw [Bool.and_eq_true, Bool.and_eq_true, Bool.and_eq_true]
  exact ⟨⟨⟨zAdmin.trans admin, rfl⟩, beq_iff_eq.mpr ((congrArg Sqe.opcode zSqe).trans op)⟩, congrArg Bool.not none⟩

end

section
variable {s : State} {c k : Nat} {x : Ctx} (h : s.adminCtx c 0x00 = some x) (hall : s.power.stage = .hall) (named : s.namedQueue x = some k)
  (has : Tbl.has s.qen.sqs k = true) (io : k < 4096)
include h hall named has io

theorem deleteSq_deletes (idle : ∀ e ∈ s.qen.ctxs, e.2.admin = false → e.2.sqid ≠ k) :
    ∃ t y, exec (.deleteIoSubmissionQueue c) s = .next t ∧ Tbl.find? t.qen.ctxs c = some y ∧ Tbl.find? t.qen.sqs k = none ∧ y.state = .ready ∧ y.status = 0 ∧
      t.qen.cqs = s.qen.cqs ∧ t.mxe.map = s.mxe.map ∧ t.tnu = s.tnu ∧ t.power = s.power ∧ t.tbu = s.tbu := by
  obtain ⟨z, final⟩ := deletionRun_final h idle
  obtain ⟨w, hw, -⟩ := deletionRun_ctx (k := k) h
  have catches := s.deletionCaught_catches k
  let run := s.deletionRun c k
  let ended := run.finalDeletions.map Prod.fst
  have eq : run.deletionsDone = ended.foldl (fun s c => s.finish c 0) (run.withoutSqs run.finalDeletions) := run.deletionsDone_eq
  have well : run.deletionsDone.EndedWell c := by
    rw [eq]
    refine finish_fold_endedWell _ _ (.inr ⟨List.mem_map_of_mem (f := Prod.fst) final, ?_⟩)
    exact (congrArg Option.isSome hw).trans rfl
  obtain ⟨y, hy, ready, good⟩ := well
  have gone : Tbl.find? run.deletionsDone.qen.sqs k = none := by
    rw [eq, finish_fold_frame]
    refine (Tbl.find?_filter (fun j => run.finalDeletions.all fun e => !e.2.waits.contains j) _ k).trans (if_neg ?_)
    simp only [Bool.not_eq_true, List.all_eq_false]
    exact ⟨_, final, by simp [Ctx.deletes]⟩
  refine ⟨_, y, exec_deleteSq h hall named has io, hy, gone, ready, good, ?_⟩
  change run.deletionsDone.qen.cqs = _ ∧ run.deletionsDone.mxe.map = _ ∧ run.deletionsDone.tnu = _ ∧ run.deletionsDone.power = _ ∧ run.deletionsDone.tbu = _
  rw [eq, finish_fold_frame]
  exact ⟨catches.same.cqs, catches.map, catches.tnu, catches.power, catches.tbu⟩

/-- While commands of the queue that cannot be caught are left, the deletion waits for them. -/
theorem deleteSq_waits {q : Sq} (hq : Tbl.find? s.qen.sqs k = some q) (busy : ∃ e ∈ s.qen.ctxs, e.2.admin = false ∧ e.2.sqid = k)
    (late : ∀ e ∈ s.qen.ctxs, e.2.sqid = k → s.catchable e.1 e.2 = false) :
    ∃ t, exec (.deleteIoSubmissionQueue c) s = .next t ∧ Tbl.find? t.qen.sqs k = some { q with deleting := true, arrivals := [] } ∧
      Tbl.find? t.qen.ctxs c = some { x with accepted := true, waits := [k] } ∧ t = { s with qen := { s.qen with ctxs := t.qen.ctxs, sqs := t.qen.sqs } } := by
  let run := s.deletionRun c k
  have run_eq : run = (s.deletionBegun k).modCtx c (Ctx.deletes k) := congrArg (modCtx c (Ctx.deletes k)) (deletionCaught_none late)
  have others : ∀ e ∈ run.finalDeletions, k ∉ e.2.waits := fun e he => deletionRun_held busy he
  have apart : c ∉ run.finalDeletions.map Prod.fst := fun mem => by
    obtain ⟨e, he, own⟩ := List.mem_map.mp mem
    exact others e he (deletionRun_own (List.mem_filter.mp he).1 own)
  have eq : run.deletionsDone = (run.finalDeletions.map Prod.fst).foldl (fun s c => s.finish c 0) (run.withoutSqs run.finalDeletions) := run.deletionsDone_eq
  refine ⟨run.deletionsDone, exec_deleteSq h hall named has io, ?_, ?_, ?_⟩
  · rw [eq, finish_fold_frame]
    refine (Tbl.find?_filter (fun j => run.finalDeletions.all fun e => !e.2.waits.contains j) _ k).trans ?_
    refine (if_pos (List.all_eq_true.mpr fun e he => by simpa using others e he)).trans ?_
    rw [run_eq]
    exact (Tbl.find?_adjust_same s.qen.sqs k fun y => { y with deleting := true, arrivals := [] }).trans (congrArg _ hq)
  · rw [eq, finish_fold_other _ _ apart, run_eq]
    exact find?_modCtx_same (Ctx.deletes k) (adminCtx_find h).1
  · rw [eq, finish_fold_frame, run_eq]
    rfl

end

end State

/-! ## O23 -/

/-- Settles O23: each command ends in one of the tests above, in their order. -/
theorem queueCommandsCreateAndDeleteQueues : Obligations.QueueCommandsCreateAndDeleteQueues := by
  unfold Obligations.QueueCommandsCreateAndDeleteQueues
  refine ⟨?_, ?_, ?_, ?_, ?_⟩
  · intro s c k sl cq x m h hall named new size whole cqNamed cqHas
    have runs := State.createSq_creates h hall named new (by omega) whole m cqNamed cqHas
    let q := Sq.new x.fn sl cq (queueSize x.sqe.cdw10) (prp1 x.sqe) (s.queuePrio x.fn (cdwBits x.sqe.cdw11 2 1)) m
    refine ⟨_, q, runs, Tbl.find?_put_same _ _ _, State.finish_after (State.adminCtx_find h).1 rfl, rfl, rfl, rfl, rfl, rfl, rfl, rfl, rfl, rfl, ?_, ?_, ?_, ?_, rfl⟩
    · exact (iff_of_eq (congrArg (· = _) (s.sqClass_new ..))).trans (classOf_urgent_iff _)
    · exact (iff_of_eq (congrArg (· = _) (s.sqClass_new ..))).trans (classOf_high_iff _)
    · exact (iff_of_eq (congrArg (· = _) (s.sqClass_new ..))).trans (classOf_normal_iff _)
    · exact fun j other => Tbl.find?_put_other _ _ other
  · intro s c k sl x h hall named new size whole
    refine ⟨fun vector => ?_, fun ien bad => State.createCq_badVector h hall named new (by omega) whole ien bad⟩
    have runs := State.createCq_creates h hall named new (by omega) whole vector
    let q := Cq.new x.fn sl (queueSize x.sqe.cdw10) (prp1 x.sqe) (cdwBits x.sqe.cdw11 31 16) (x.sqe.cdw11.getLsbD 1)
    refine ⟨_, q, runs, Tbl.find?_put_same _ _ _, State.finish_after (State.adminCtx_find h).1 rfl, rfl, rfl, rfl, rfl, rfl, rfl, rfl, rfl, rfl, ?_, rfl⟩
    exact fun j other => Tbl.find?_put_other _ _ other
  · rintro s c st x i hall (⟨m, rfl, h, refused⟩ | ⟨rfl, h, refused⟩)
    · obtain ⟨unknown, rfl⟩ | ⟨k, sl, named, ⟨taken, rfl⟩ | ⟨new, small, rfl⟩ | ⟨new, size, scattered, rfl⟩ | ⟨new, size, whole, noCq, rfl⟩⟩ := refused
      · exact State.createSq_unknown h hall m unknown
      · exact State.createSq_taken h hall named m taken
      · exact State.createSq_small h hall named new m small
      · exact State.createSq_scattered h hall named new size m scattered
      · exact State.createSq_noCq h hall named new size whole m noCq
    · obtain ⟨unknown, rfl⟩ | ⟨k, sl, named, ⟨taken, rfl⟩ | ⟨new, small, rfl⟩ | ⟨new, size, scattered, rfl⟩⟩ := refused
      · exact State.createCq_unknown h hall unknown
      · exact State.createCq_taken h hall named taken
      · exact State.createCq_small h hall named new small
      · exact State.createCq_scattered h hall named new size scattered
  · intro s c k x h hall named has io
    refine ⟨fun unused => ?_, fun used => State.deleteCq_used h hall named has io used⟩
    refine ⟨_, State.deleteCq_deletes h hall named has io unused, State.finish_after (State.adminCtx_find h).1 rfl, ?_, ?_, rfl⟩
    · exact (Tbl.find?_del_same _ _)
    · exact fun j other => Tbl.find?_del_other _ other
  · intro s c k x h hall named has io
    exact ⟨fun idle => State.deleteSq_deletes h hall named has io idle, fun q hq busy late => State.deleteSq_waits h hall named has io hq busy late⟩

end Sys2Proof.Machine
end

section
/-! PROOFS. Reads that look up their slots and send their data, writes that take their buffers (spec/04, spec/07, R95, R152, R184, R193, R196), and O18. -/

namespace Sys2Proof.Machine

/-! ## What a lookup gives (R184, R196) -/

section
variable {s : State} {n : Namespace} {nsid no : Nat}

theorem Mxe.lookup_staged {m : Mxe} {d : SlotData} (apart : m.merging nsid (no / n.spg) (no % n.spg) = false) (staged : m.stageSlot nsid (no / n.spg) (no % n.spg) = some d) :
    m.lookup n nsid no = .stage d := by
  simp only [Mxe.lookup, apart, staged]
  rfl

theorem Mxe.lookup_mapped {m : Mxe} (apart : m.merging nsid (no / n.spg) (no % n.spg) = false) (unstaged : m.stageSlot nsid (no / n.spg) (no % n.spg) = none) :
    m.lookup n nsid no = m.mapSource n nsid (no / n.spg) (no % n.spg) := by
  simp only [Mxe.lookup, apart, unstaged]
  rfl

/-- In a loaded segment the entry's flags say where a slot's data is. -/
theorem Mxe.mapSource_loaded {m : Mxe} {g off : Nat} (loaded : segKey nsid g ∉ m.unloaded) :
    m.mapSource n nsid g off =
      match (m.entry nsid g).flags with
      | .mapped | .mappedSlc => .nand (slotLoc (m.entry nsid g).loc n.spg off)
      | .suspect => .wait
      | .unmapped => .zeros
      | .lost => .lost := by
  unfold Mxe.mapSource
  exact if_neg (by simpa using loaded)

theorem Mxe.mapSource_located {m : Mxe} {g off : Nat} (loaded : segKey nsid g ∉ m.unloaded) (located : (m.entry nsid g).located = true) :
    m.mapSource n nsid g off = .nand (slotLoc (m.entry nsid g).loc n.spg off) := by
  rw [mapSource_loaded loaded]
  unfold MapEntry.located at located
  cases flags : (m.entry nsid g).flags <;> first | rfl | exact absurd (flags ▸ located) (by decide)

/-- No slot has a buffer when it has just been looked up. -/
theorem State.slotWork_buf (s : State) (n : Namespace) (nsid no : Nat) : (s.slotWork n nsid no).buf = none := by
  unfold State.slotWork
  cases s.mxe.lookup n nsid no <;> rfl

end

namespace State

/-! ## Data that goes to the host (R64, R83, R84, R152) -/

/-- Slots without buffers hold no poisoned data. -/
theorem dataPoisoned_unbuffered (s : State) {x : Ctx} (unbuffered : ∀ w ∈ x.work, w.buf = none) (first n : Nat) : s.dataPoisoned x first n = false := by
  refine List.any_eq_false.mpr fun w hw => ?_
  have at_ := (List.mem_zipIdx hw).2.2
  rw [unbuffered w.1 (at_ ▸ List.getElem_mem _)]
  exact Bool.false_ne_true

/-- From `s` to `t` data of the read in context `c`, which stands as `z`, has gone out. -/
structure Sends (c : Nat) (z : Ctx) (s t : State) : Prop where
  ctx : ∃ y, Tbl.find? t.qen.ctxs c = some y ∧ (y.state = .ready ∨ y.state = .dataOut) ∧ y = { z with state := y.state, bytesDone := y.bytesDone }
  other : ∀ k, k ≠ c → Tbl.find? t.qen.ctxs k = Tbl.find? s.qen.ctxs k
  qen : t.qen = { s.qen with ctxs := t.qen.ctxs }

/-- What is so of a state with the same contexts is so of this one. -/
theorem Sends.of_qen {c : Nat} {z : Ctx} {s u t : State} (h : Sends c z u t) (same : u.qen = s.qen) : Sends c z s t :=
  ⟨h.ctx, fun k hk => same ▸ h.other k hk, same ▸ h.qen⟩

theorem sends_modCtx {s : State} {c : Nat} {z : Ctx} (f : Ctx → Ctx) (hz : Tbl.find? s.qen.ctxs c = some z) (state : (f z).state = .ready ∨ (f z).state = .dataOut)
    (same : f z = { z with state := (f z).state, bytesDone := (f z).bytesDone }) : Sends c z s (s.modCtx c f) :=
  ⟨⟨f z, find?_modCtx_same f hz, state, same⟩, fun _ hk => find?_modCtx_other s f hk, rfl⟩

section
variable {s : State} {c : Nat} {x z : Ctx} (unbuffered : ∀ w ∈ x.work, w.buf = none)
include unbuffered

/-- Sound data fixes no status. -/
theorem sendPiece_qen (p : Nat × Nat × Nat) : (s.sendPiece c x p).qen = (s.modCtx c fun y => { y with bytesDone := p.1 + p.2.2 }).qen := by
  unfold sendPiece
  simp only [dataPoisoned_unbuffered s unbuffered]
  have qen := (dlogEntry_touch x.slice (pageEntry (p.2.1 / 4096)) s rfl (.refl 1025 s)).qen rfl
  change Qen.modCtx (s.dlogEntry x.slice (pageEntry (p.2.1 / 4096))).qen c _ = _
  rw [qen]
  rfl

theorem sendPieces_sends (ps : List (Nat × Nat × Nat)) (hz : Tbl.find? s.qen.ctxs c = some z) : Sends c z s (s.sendPieces c x ps) := by
  induction ps generalizing s z with
  | nil => exact sends_modCtx (fun y => { y with state := .ready, bytesDone := x.bytes }) hz (.inl rfl) rfl
  | cons p ps ih =>
    unfold sendPieces
    split
    · exact sends_modCtx (fun y => { y with state := .dataOut }) hz (.inr rfl) rfl
    split
    · have moved := find?_modCtx_same (s := s) (c := c) (fun y => { y with bytesDone := p.1 + p.2.2 }) hz
      have qen := sendPiece_qen (s := s) (c := c) unbuffered p
      have sent := (ih (s := s.sendPiece c x p) (by rw [qen]; exact moved)).of_qen qen
      obtain ⟨⟨y, hy, state, same⟩, other, frame⟩ := sent
      exact ⟨⟨y, hy, state, same⟩, fun k hk => (other k hk).trans (find?_modCtx_other s _ hk), frame⟩
    · have asked := (askPage_touch x.fn x.chargedTo (p.2.1 / 4096) s rfl (.refl 257 s)).qen rfl
      exact (sends_modCtx (fun y => { y with state := .dataOut }) (by rw [asked]; exact hz) (.inr rfl) rfl).of_qen asked

theorem dataOut_sends (hz : Tbl.find? s.qen.ctxs c = some z) : Sends c z s (s.dataOut c x) := by
  unfold dataOut
  split
  · exact sends_modCtx (fun y => { y with state := .ready }) hz (.inl rfl) rfl
  · exact sendPieces_sends unbuffered _ hz

end

/-- Nothing holds a read's data: its function and the link carry it, its addresses need no translation, its slice logs no pages. -/
structure DataFlows (s : State) (x : Ctx) : Prop where
  may : s.dataMayGo x = true
  untranslated : (s.hlu.fn x.fn).ats = false
  unlogged : s.dlogOn x.slice = false

/-- One piece of sound data on the link. -/
def pieceSent (s : State) (c : Nat) (x : Ctx) (p : Nat × Nat × Nat) : Emission :=
  .hostData c x.fn (s.dmaPasid x.chargedTo) p.2.1 ((x.slotBytes.drop (s.slotSkip x + p.1)).take p.2.2) false s.hlu.ecrcGen

/-- A piece of sound data that no log notes goes out and moves the read on. -/
def pieceGone (s : State) (c : Nat) (x : Ctx) (p : Nat × Nat × Nat) : State :=
  ((s.emit (s.pieceSent c x p)).modHlu fun h => { h with txNow := h.txNow + p.2.2 }).modCtx c fun y => { y with bytesDone := p.1 + p.2.2 }

section
variable {s : State} {c : Nat} {x z : Ctx} (unbuffered : ∀ w ∈ x.work, w.buf = none)
include unbuffered

theorem sendPiece_unlogged (unlogged : s.dlogOn x.slice = false) (p : Nat × Nat × Nat) : s.sendPiece c x p = s.pieceGone c x p := by
  have silent : s.dlogEntry x.slice (pageEntry (p.2.1 / 4096)) = s := if_pos (.inl unlogged)
  unfold sendPiece
  simp only [dataPoisoned_unbuffered s unbuffered, silent]
  rfl

theorem sendPieces_flow (ps : List (Nat × Nat × Nat)) (flows : DataFlows s x) (hz : Tbl.find? s.qen.ctxs c = some z) :
    Tbl.find? (s.sendPieces c x ps).qen.ctxs c = some { z with state := .ready, bytesDone := x.bytes } ∧
      (∀ e ∈ s.out, e ∈ (s.sendPieces c x ps).out) ∧ ∀ p ∈ ps, s.pieceSent c x p ∈ (s.sendPieces c x ps).out := by
  induction ps generalizing s z with
  | nil => exact ⟨find?_modCtx_same (fun y => { y with state := .ready, bytesDone := x.bytes }) hz, fun _ he => he, nofun⟩
  | cons p ps ih =>
    have page : s.hlu.pageOk x.fn (s.dmaPasid x.chargedTo) (p.2.1 / 4096) (x.untrans.contains (p.2.1 / 4096)) = true := by
      simp only [Hlu.pageOk, flows.untranslated, Bool.not_false, Bool.true_or]
    have run : s.sendPieces c x (p :: ps) = (s.pieceGone c x p).sendPieces c x ps := by
      rw [← sendPiece_unlogged unbuffered flows.unlogged]
      exact (if_neg (by rw [flows.may]; decide)).trans (if_pos page)
    obtain ⟨ctx, kept, sent⟩ := ih (s := s.pieceGone c x p) ⟨flows.may, flows.untranslated, flows.unlogged⟩
      (find?_modCtx_same (s := s) (fun y => { y with bytesDone := p.1 + p.2.2 }) hz)
    rw [run]
    refine ⟨ctx, fun e he => kept e (List.mem_cons_of_mem _ he), fun q hq => ?_⟩
    obtain rfl | later := List.mem_cons.mp hq
    · exact kept _ List.mem_cons_self
    · exact sent q later

end

/-! ## A read (R95, R184) -/

/-- Every slot of the work is at hand. -/
def atHand (work : List SlotWork) : Bool := work.all fun w => w.data.isSome || w.lost

theorem waits_of_atHand {work : List SlotWork} (all : atHand work = true) : work.any SlotWork.waits = false :=
  List.any_eq_false.mpr fun w hw => by
    have here := List.all_eq_true.mp all w hw
    obtain data | lost := Bool.or_eq_true .. ▸ here
    · simp [SlotWork.waits, Option.isNone_eq_false_iff.mpr data]
    · simp [SlotWork.waits, lost]

section
variable {s : State} {c : Nat} {x : Ctx} {work : List SlotWork} (hx : Tbl.find? s.qen.ctxs c = some x) (win : x.win = none)
include hx

/-- A read with a slot that is not at hand stands as looked up. -/
theorem readLooked_holds (wanting : atHand work = false) : s.readLooked c work = s.modCtx c fun x => x.lookedUp work := by
  have found : Tbl.find? (s.modCtx c fun x => x.lookedUp work).qen.ctxs c = some (x.lookedUp work) := find?_modCtx_same (fun x => x.lookedUp work) hx
  rw [readLooked_eq]
  unfold readAdvance
  rw [found]
  exact if_neg fun ⟨_, all⟩ => absurd (wanting.symm.trans all) (by decide)

include win

/-- The data of a read with all its slots goes out. -/
theorem readLooked_goes (all : atHand work = true) : s.readLooked c work = (s.modCtx c fun x => x.lookedUp work).dataOut c (x.lookedUp work) := by
  have found : Tbl.find? (s.modCtx c fun x => x.lookedUp work).qen.ctxs c = some (x.lookedUp work) := find?_modCtx_same (fun x => x.lookedUp work) hx
  have state : (x.lookedUp work).state = .lookup ∨ (x.lookedUp work).state = .media := .inr (if_neg (by rw [waits_of_atHand all]; decide))
  have open_ : (x.lookedUp work).win = none := win
  rw [readLooked_eq]
  unfold readAdvance
  rw [found]
  refine (if_pos ⟨state, all⟩).trans ?_
  rw [open_]

/-- With all its slots at hand a read outside the Gallery sends its data, and changes nothing else. -/
theorem readLooked_sends (all : atHand work = true) (unbuffered : ∀ w ∈ work, w.buf = none) : Sends c (x.lookedUp work) (s.modCtx c fun x => x.lookedUp work) (s.readLooked c work) ∧
    Touch 1825 s (s.readLooked c work) := by
  have found : Tbl.find? (s.modCtx c fun x => x.lookedUp work).qen.ctxs c = some (x.lookedUp work) := find?_modCtx_same (fun x => x.lookedUp work) hx
  rw [readLooked_goes hx win all]
  exact ⟨dataOut_sends unbuffered found, dataOut_touch _ _ _ rfl (modCtx_touch _ _ s rfl (.refl _ s))⟩

end

/-- The work of a read that has just been taken. -/
def readWork (s : State) (x : Ctx) (n : Namespace) : List SlotWork := (slotSpan (slbaOf x.sqe * n.lbaBytes) (nlbOf x.sqe * n.lbaBytes)).map (s.slotWork n x.sqe.nsid.toNat)

theorem readWork_unbuffered (s : State) (x : Ctx) (n : Namespace) : ∀ w ∈ s.readWork x n, w.buf = none := fun w hw => by
  obtain ⟨no, -, rfl⟩ := List.mem_map.mp hw
  exact s.slotWork_buf n x.sqe.nsid.toNat no

section
variable {s : State} {c : Nat} {x : Ctx} {n : Namespace} (h : s.ioCtx c 0x02 [.fetched, .lookup] = some x) (own : s.ownNs x = some n)
  (good : s.rangeRefusal n (slbaOf x.sqe) (nlbOf x.sqe) false = none) (fits : nlbOf x.sqe * n.lbaBytes ≤ mdtsBytes) (first : x.state = .fetched) (status : x.status = 0)
  (known : x.list = none)
include h own good fits first status known

theorem exec_read : exec (.read c) s = .next (s.readLooked c (s.readWork x n)) := by
  change execRead c s = _
  unfold execRead
  rw [h]
  exact congrArg Host.Outcome.next ((onOwnNs_own own).trans (readNs_looked good fits first status known))

end

/-- The first lost slot fixes the status of a read that has none. -/
theorem lookedUp_status_lost {x : Ctx} {work : List SlotWork} (status : x.status = 0) (lost : ∃ w ∈ work, w.lost = true) : (x.lookedUp work).status = stUnrecovered :=
  if_pos ⟨status, List.any_eq_true.mpr lost⟩

theorem lookedUp_status_sound {x : Ctx} {work : List SlotWork} (status : x.status = 0) (sound : ∀ w ∈ work, w.lost = false) : (x.lookedUp work).status = 0 := by
  refine (if_neg fun ⟨_, lost⟩ => ?_).trans status
  obtain ⟨w, hw, lost⟩ := List.any_eq_true.mp lost
  exact absurd ((sound w hw).symm.trans lost) (by decide)

theorem atHand_iff (work : List SlotWork) : atHand work = true ↔ ∀ w ∈ work, w.data.isSome = true ∨ w.lost = true := by
  simp only [atHand, List.all_eq_true, Bool.or_eq_true]

/-- With sound data and nothing that holds it a read sends all its pieces and is READY. -/
theorem readLooked_flow {s : State} {c : Nat} {x : Ctx} {work : List SlotWork} (hx : Tbl.find? s.qen.ctxs c = some x) (win : x.win = none) (status : x.status = 0)
    (unbuffered : ∀ w ∈ work, w.buf = none) (sound : ∀ w ∈ work, w.data.isSome = true ∧ w.lost = false) (flows : DataFlows s x) :
    Tbl.find? (s.readLooked c work).qen.ctxs c = some { x.lookedUp work with state := .ready, bytesDone := x.bytes } ∧
      ∀ p ∈ partPieces s.hlu.mps 0 x.parts, x.bytesDone ≤ p.1 → s.pieceSent c (x.lookedUp work) p ∈ (s.readLooked c work).out := by
  have all : atHand work = true := (atHand_iff work).mpr fun w hw => .inl (sound w hw).1
  have good : (x.lookedUp work).status = 0 := lookedUp_status_sound status fun w hw => (sound w hw).2
  let u := s.modCtx c fun x => x.lookedUp work
  have found : Tbl.find? u.qen.ctxs c = some (x.lookedUp work) := find?_modCtx_same (fun x => x.lookedUp work) hx
  have run : s.readLooked c work = u.sendPieces c (x.lookedUp work) ((partPieces s.hlu.mps 0 x.parts).filter fun p => decide (x.bytesDone ≤ p.1)) :=
    (readLooked_goes hx win all).trans (if_neg fun bad => bad.1 good)
  obtain ⟨ctx, -, sent⟩ := sendPieces_flow (s := u) (x := x.lookedUp work) unbuffered
    ((partPieces s.hlu.mps 0 x.parts).filter fun p => decide (x.bytesDone ≤ p.1)) ⟨flows.may, flows.untranslated, flows.unlogged⟩ found
  rw [run]
  exact ⟨ctx, fun p hp late => sent p (List.mem_filter.mpr ⟨hp, decide_eq_true late⟩)⟩

/-! ## A write (R193, R383) -/

section
variable {s : State} {c : Nat} {x : Ctx} {n : Namespace} (pi : PiCheck) (h : s.ioCtx c 0x01 [.fetched] = some x) (own : s.ownNs x = some n)
  (good : s.rangeRefusal n (slbaOf x.sqe) (nlbOf x.sqe) true = none) (fits : nlbOf x.sqe * n.lbaBytes ≤ mdtsBytes) (status : x.status = 0) (known : x.list = none)
include h own good fits status known

theorem exec_write : exec (.write c pi) s = .next (s.dataInGo c pi x) := by
  change execWrite c pi s = _
  unfold execWrite
  rw [h]
  exact congrArg Host.Outcome.next ((onOwnNs_own own).trans (writeNs_go good fits status known))

end

end State

/-! ## O18 -/

/-- A read past its checks: it stands as looked up while a slot is wanting, else its data goes out. -/
theorem read_looksUp {s : State} {c : Nat} {x : Ctx} {n : Namespace} (hx : Tbl.find? s.qen.ctxs c = some x) (win : x.win = none) :
    ∃ y, Tbl.find? (s.readLooked c (s.readWork x n)).qen.ctxs c = some y ∧ y.work = s.readWork x n ∧ y.sqe = x.sqe ∧ y.bufs = x.bufs ∧
      (∀ k, k ≠ c → Tbl.find? (s.readLooked c (s.readWork x n)).qen.ctxs k = Tbl.find? s.qen.ctxs k) ∧
      (State.atHand (s.readWork x n) = false → y.state = if (s.readWork x n).any SlotWork.waits then .lookup else .media) ∧
      (State.atHand (s.readWork x n) = true → y.state = .ready ∨ y.state = .dataOut) ∧ y.status = (x.lookedUp (s.readWork x n)).status ∧
      s.readLooked c (s.readWork x n) = { s with
        out := (s.readLooked c (s.readWork x n)).out, regf := (s.readLooked c (s.readWork x n)).regf, hlu := (s.readLooked c (s.readWork x n)).hlu
        qen := { s.qen with ctxs := (s.readLooked c (s.readWork x n)).qen.ctxs }, tnu := (s.readLooked c (s.readWork x n)).tnu } := by
  let work := s.readWork x n
  cases all : State.atHand work with
  | false =>
    rw [State.readLooked_holds hx all]
    exact ⟨x.lookedUp work, State.find?_modCtx_same (fun x => x.lookedUp work) hx, rfl, rfl, rfl, fun k hk => State.find?_modCtx_other _ _ hk, fun _ => rfl, nofun, rfl, rfl⟩
  | true =>
    obtain ⟨⟨⟨y, hy, state, same⟩, other, qen⟩, touch⟩ := State.readLooked_sends hx win all (s.readWork_unbuffered x n)
    refine ⟨y, hy, ?_, ?_, ?_, fun k hk => (other k hk).trans (State.find?_modCtx_other _ _ hk), nofun, fun _ => state, ?_, ?_⟩
    · rw [same]; rfl
    · rw [same]; rfl
    · rw [same]; rfl
    · rw [same]
    · exact touch.eq_masked.trans (congrArg (fun q => { s with
        out := (s.readLooked c work).out, regf := (s.readLooked c work).regf, hlu := (s.readLooked c work).hlu, qen := q, tnu := (s.readLooked c work).tnu }) qen)

/-- Settles O18: a read's state is what its lookups say, and without poison, log or translation each piece of its data is on the link; a write takes its buffers or waits. -/
theorem readsLookUpTheirSlotsAndWritesTakeBuffers : Obligations.ReadsLookUpTheirSlotsAndWritesTakeBuffers := by
  unfold Obligations.ReadsLookUpTheirSlotsAndWritesTakeBuffers
  refine ⟨?_, ?_, ?_⟩
  · intro s c x n h first win status known own good fits
    have hx := (State.ioCtx_find h).1
    obtain ⟨y, hy, work, sqe, bufs, other, wanting, all, yStatus, frame⟩ := read_looksUp (n := n) hx win
    refine ⟨_, y, State.exec_read h own good fits first status known, hy, work, sqe, bufs, other, ?_, ?_, ?_, ?_, ?_, frame⟩ <;> rw [work]
    · intro waits
      refine (wanting (Bool.eq_false_iff.mpr fun all => ?_)).trans (if_pos waits)
      exact absurd (waits.symm.trans (State.waits_of_atHand all)) (by decide)
    · rintro still ⟨w, hw, data, lost⟩
      refine (wanting (Bool.eq_false_iff.mpr fun all => ?_)).trans (if_neg (by rw [still]; decide))
      obtain here | gone := (State.atHand_iff _).mp all w hw
      · exact absurd (data ▸ here) (by decide)
      · exact absurd (lost.symm.trans gone) (by decide)
    · exact fun here => all ((State.atHand_iff _).mpr here)
    · intro sound may ats log
      obtain ⟨ready, sent⟩ := State.readLooked_flow hx win status (s.readWork_unbuffered x n) sound ⟨may, ats, log⟩
      obtain rfl := Option.some.inj (hy.symm.trans ready)
      exact ⟨rfl, yStatus.trans (State.lookedUp_status_sound status fun w hw => (sound w hw).2), rfl, sent⟩
    · exact fun lost => yStatus.trans (State.lookedUp_status_lost status lost)
  · intro s n nsid no apart
    refine ⟨fun d staged => ?_, fun unstaged loaded => ⟨fun unmapped => ?_, fun lost => ?_, fun located => ?_⟩⟩
    · simp only [State.slotWork, Mxe.lookup_staged apart staged]
    · simp only [State.slotWork, Mxe.lookup_mapped apart unstaged, Mxe.mapSource_loaded loaded, unmapped]
    · simp only [State.slotWork, Mxe.lookup_mapped apart unstaged, Mxe.mapSource_loaded loaded, lost, and_self]
    · simp only [State.slotWork, Mxe.lookup_mapped apart unstaged, Mxe.mapSource_located loaded located]
  · intro s c x n pi h own status known good fits
    obtain ⟨hx, -, -, io, -⟩ := State.ioCtx_find h
    have runs := State.exec_write pi h own good fits status known
    have slice : (if x.admin then none else some x.slice) = some x.slice := if_neg (by rw [io]; decide)
    refine ⟨fun u hs taken => ?_, fun wanting => ?_⟩
    · obtain ⟨ctx, other, frame⟩ := State.dataInGo_asksData pi hx (slice ▸ taken)
      exact ⟨_, runs, ctx, other, frame⟩
    · rw [runs, State.dataInGo_waits pi (by rw [slice]; exact wanting)]

end Sys2Proof.Machine
end

section
/-! PROOFS. Granules that enter the in-flight table, their locks and merges (spec/07, R193, R195), and what the sequence point gives a write (R103, R104, R108, R308): O19. -/

namespace Sys2Proof.Machine

/-- From `s` to `t` granules have entered, merged or gone to placement: nothing but these tables of the map unit changed. -/
structure Placing (s t : State) : Prop where
  frame : t = { s with mxe := { s.mxe with place := t.mxe.place, inflight := t.mxe.inflight, locks := t.mxe.locks } }

namespace Placing

theorem refl (s : State) : Placing s s := ⟨rfl⟩

theorem mxe {s t : State} (h : Placing s t) : t.mxe = { s.mxe with place := t.mxe.place, inflight := t.mxe.inflight, locks := t.mxe.locks } := (congrArg State.mxe h.frame :)

theorem qen {s t : State} (h : Placing s t) : t.qen = s.qen := (congrArg State.qen h.frame :)

theorem trans {s t u : State} (h : Placing s t) (k : Placing t u) : Placing s u := by
  refine ⟨k.frame.trans ?_⟩
  rw [h.frame]

theorem foldl {α : Type} (f : State → α → State) (l : List α) (s : State) (h : ∀ t a, Placing t (f t a)) : Placing s (l.foldl f s) :=
  List.foldlRecOn (motive := Placing s) l f (refl s) fun _ k a _ => k.trans (h _ a)

end Placing

namespace State

theorem placeGranule_placing (nsid g dsn : Nat) (lost : List Nat) (s : State) : Placing s (s.placeGranule nsid g dsn lost) := by
  unfold placeGranule
  split
  · exact ⟨rfl⟩
  · exact .refl s

theorem mergeSlot_placing (nsid g dsn k : Nat) (old : SlotData) (lost : Bool) (s : State) : Placing s (s.mergeSlot nsid g dsn k old lost) := by
  unfold mergeSlot
  split
  · dsimp only
    split
    · exact .trans (t := s.modMxe _) ⟨rfl⟩ (placeGranule_placing ..)
    · exact ⟨rfl⟩
  · exact .refl s

theorem mergeKnown_placing (l : LockHold) (s : State) : Placing s (s.mergeKnown l) := by
  unfold mergeKnown
  split
  · refine .foldl _ _ _ fun t k => ?_
    split
    · exact mergeSlot_placing ..
    split
    · exact mergeSlot_placing ..
    · exact mergeSlot_placing ..
    all_goals exact .refl t
  · exact .refl s

theorem lockStart_placing (s : State) : Placing s s.lockStart :=
  .trans (t := s.modMxe fun m => { m with locks := (Mxe.startLocks [] m.locks).map m.lockBase }) ⟨rfl⟩ (.foldl _ _ _ fun t l => mergeKnown_placing l t)

theorem enterGranule_placing (x : Ctx) (c dsn : Nat) (n : Namespace) (e : Extent) (src : Nat → Nat → Nat) (stages : Nat → List (Nat × Nat)) (s : State) (g : Nat) :
    Placing s (s.enterGranule x c dsn n e src stages g) := by
  unfold enterGranule
  dsimp only
  split
  · exact .trans (t := s.modMxe _) ⟨rfl⟩ (placeGranule_placing ..)
  · exact ⟨rfl⟩

/-! ## The sequence point -/

/-- The record of a write at its sequence point. -/
def seqRecord (s : State) (c : Nat) (x : Ctx) (n : Namespace) : WriteRec :=
  { ctx := some c, bufs := x.bufs, pend := ((x.extent n).granules n).length, grans := ((x.extent n).granules n).length, nsid := x.sqe.nsid.toNat, posted := false, prot := s.postsEarly x }

/-- The command behind its sequence point: its buffers are the write's. -/
def seqCtx (s : State) (x : Ctx) (n : Namespace) (y : Ctx) : Ctx :=
  { y with
    dsn := s.mxe.nextDsn, bufs := [], prot := s.postsEarly x, mediaPend := ((x.extent n).granules n).length * n.spg, bytesDone := x.bytes
    state := if s.postsEarly x then .ready else .sequenced }

/-- The next DSN is the write's. -/
def seqEntered (s : State) (c : Nat) (x : Ctx) (n : Namespace) : State :=
  s.modMxe fun m => { m with dsn := s.mxe.nextDsn + 1, seqLast := some c, writes := Tbl.put m.writes s.mxe.nextDsn (s.seqRecord c x n) }

section
variable (s : State) (c : Nat) (x : Ctx) (n : Namespace)

/-- A sequence point: the write is entered, its granules go on, its context and the log take note. -/
theorem takeDsn_runs : ∃ u v, Placing (s.seqEntered c x n) u ∧ Touch 1025 (u.modCtx c (s.seqCtx x n)) v ∧ Placing v (s.takeDsn c x n) :=
  ⟨_, _, .foldl _ ((x.extent n).granules n) _ fun t g => enterGranule_placing x c s.mxe.nextDsn n (x.extent n) _ _ t g, logExtents_touch _ _ _ _ _ rfl (.refl _ _), lockStart_placing _⟩

theorem takeDsn_qen : (s.takeDsn c x n).qen = (s.modCtx c (s.seqCtx x n)).qen := by
  obtain ⟨u, v, entered, logged, started⟩ := s.takeDsn_runs c x n
  rw [started.qen, logged.qen rfl]
  exact congrArg (fun q => Qen.modCtx q c (s.seqCtx x n)) entered.qen

theorem takeDsn_mxe : (s.takeDsn c x n).mxe = { (s.seqEntered c x n).mxe with
    place := (s.takeDsn c x n).mxe.place, inflight := (s.takeDsn c x n).mxe.inflight, locks := (s.takeDsn c x n).mxe.locks } := by
  obtain ⟨u, v, entered, logged, started⟩ := s.takeDsn_runs c x n
  have kept : v.mxe = u.mxe := logged.mxe rfl
  rw [started.mxe, kept, entered.mxe]

theorem takeDsn_frame : s.takeDsn c x n = { s with
    out := (s.takeDsn c x n).out, qen := { s.qen with ctxs := (s.takeDsn c x n).qen.ctxs }, tnu := (s.takeDsn c x n).tnu, mxe := (s.takeDsn c x n).mxe } := by
  refine (takeDsn_touch c x n s (m := 5633) rfl (.refl _ s)).eq_masked.trans ?_
  rw [takeDsn_qen]
  rfl

end

section
variable {s : State} {c : Nat} {x : Ctx} {n : Namespace} (h : s.ioCtx c 0x01 [.lookup] = some x) (own : s.ownNs x = some n)
include h own

theorem exec_sequencePoint : exec (.sequencePoint c) s = .next (s.seqNs c x n) := by
  change execSequencePoint c s = _
  unfold execSequencePoint
  rw [h]
  exact congrArg Host.Outcome.next (onOwnNs_own own)

end

/-- A write that may not take its DSN, or whose turn has not come, waits (R103, R104). -/
theorem seqNs_waits {s : State} {c : Nat} {x : Ctx} {n : Namespace} (sound : s.bpm.poisonedBufs x.bufs = false)
    (good : s.rangeRefusal n (slbaOf x.sqe) (nlbOf x.sqe) true = none) (early : s.seqMay x n = false ∨ s.dsnTurn c = false) : s.seqNs c x n = s := by
  have held : ¬(s.seqMay x n && s.dsnTurn c) = true := by
    obtain may | turn := early
    · rw [may, Bool.false_and]; decide
    · rw [turn, Bool.and_false]; decide
  refine (if_neg (by rw [sound]; decide)).trans ?_
  unfold seqGo
  rw [good]
  exact if_neg held

/-- A write posts early in protected mode alone (R108). -/
theorem postsEarly_iff (s : State) (x : Ctx) : s.postsEarly x = true ↔ s.protectedNs x.sqe.nsid.toNat = true ∧ s.qen.protOk = true ∧ x.fua = false := by
  simp only [postsEarly, Bool.and_eq_true, Bool.not_eq_true', and_assoc]

end State

/-- Settles O19: a write takes its DSN when its turn has come, is refused for poison, and else waits. -/
theorem sequencePointsGiveTheNextDsn : Obligations.SequencePointsGiveTheNextDsn := by
  intro s c x n h own
  have hx := (State.ioCtx_find h).1
  rw [State.exec_sequencePoint h own]
  refine ⟨fun sound good may turn => ?_, fun poisoned => ?_, fun sound good early => ?_⟩
  · have mxe := s.takeDsn_mxe c x n
    have qen := s.takeDsn_qen c x n
    refine ⟨s.takeDsn c x n, s.seqCtx x n x, s.seqRecord c x n, congrArg _ (State.seqNs_given sound good may turn), ?_, ?_, ?_, ?_, rfl, rfl, rfl, rfl,
      s.postsEarly_iff x, rfl, rfl, rfl, rfl, rfl, rfl, ?_, ?_, ?_, s.takeDsn_frame c x n⟩
    · rw [qen]
      exact State.find?_modCtx_same (s.seqCtx x n) hx
    · rw [mxe]
      exact Tbl.find?_put_same s.mxe.writes s.mxe.nextDsn _
    · rw [mxe]; rfl
    · rw [mxe]; rfl
    · rw [mxe]; rfl
    · rw [mxe]; rfl
    · intro k hk
      rw [qen]
      exact State.find?_modCtx_other s _ hk
  · let counted := s.count Fld.CDX_POISON_CNT.REFUSED 0 1
    refine ⟨counted.failCmd c stWriteFault, congrArg _ (State.seqNs_poisoned poisoned), ?_, ?_, by simp [counted], by simp [counted], by simp [counted]⟩
    · exact State.failCmd_ended _ _ _ (by simp [counted, Tbl.has, hx])
    · rw [State.fld_failCmd (by decide)]
      exact State.fld_count_same s Fld.CDX_POISON_CNT.REFUSED 0 1
  · rw [State.seqNs_waits sound good early]

end Sys2Proof.Machine
end

section
/-! PROOFS. Write Zeroes, Dataset Management and Flush (spec/04, R95, R104, R109, R118, R119, R209): what a trim gives the commit, the commands a Flush ends, and O20. -/

namespace Sys2Proof.Machine

namespace State

/-- A command whose state is in another list of states too. -/
theorem ioCtx_of_state {s : State} {c : Nat} {op : BitVec 8} {st st' : List CtxState} {x : Ctx} (h : s.ioCtx c op st = some x) (state : x.state ∈ st') :
    s.ioCtx c op st' = some x := by
  obtain ⟨hx, -, running, io, opcode⟩ := ioCtx_find h
  unfold ioCtx
  rw [hx]
  exact if_pos ⟨io, opcode, state, running⟩

/-! ## A trim (R209) -/

/-- The trim takes the next DSN, and the commit gets its deltas. -/
def trimEntered (s : State) (c kind : Nat) (x : Ctx) (n : Namespace) (es : List Extent) : State :=
  s.modMxe fun m => { m with dsn := s.mxe.nextDsn + 1, seqLast := some c, deltas := m.deltas ++ es.flatMap fun e => e.trimDelta n kind x.sqe.nsid.toNat s.mxe.nextDsn c }

section
variable (s : State) (c kind : Nat) (x : Ctx) (n : Namespace) (es : List Extent)

/-- A trim: its deltas are entered, the granules it covers in part go on, its buffers are free, its context waits in COMMIT. -/
theorem trimCmd_runs : ∃ u v w, Placing (s.trimEntered c kind x n es) u ∧ Touch 512 (u.freeBufs x.bufs) v ∧ Placing v w ∧ Touch 512 w (s.trimCmd c kind x n es) :=
  ⟨_, _, _, .foldl _ es _ fun t e => .foldl _ _ t fun u g => enterGranule_placing x c s.mxe.nextDsn n e _ _ u g, modCtx_touch _ _ _ rfl (.refl _ _), lockStart_placing _,
    trimsDone_touch _ rfl (.refl _ _)⟩

/-- Beside the in-flight tables a trim changes what it enters alone. -/
theorem trimCmd_mxe : (s.trimCmd c kind x n es).mxe = { (s.trimEntered c kind x n es).mxe with
    place := (s.trimCmd c kind x n es).mxe.place, inflight := (s.trimCmd c kind x n es).mxe.inflight, locks := (s.trimCmd c kind x n es).mxe.locks } := by
  obtain ⟨u, v, w, entered, freed, started, done⟩ := s.trimCmd_runs c kind x n es
  have kept : v.mxe = u.mxe := (freed.mxe rfl).trans ((freeBufs_touch x.bufs u (m := 13894177) rfl (.refl _ u)).mxe rfl)
  rw [done.mxe rfl, started.mxe, kept, entered.mxe]

/-- A trim without buffers changes the contexts and the map unit alone. -/
theorem trimCmd_frame (bare : x.bufs = []) : s.trimCmd c kind x n es = { s with qen := (s.trimCmd c kind x n es).qen, mxe := (s.trimCmd c kind x n es).mxe } := by
  obtain ⟨u, v, w, entered, freed, started, done⟩ := s.trimCmd_runs c kind x n es
  rw [bare] at freed
  rw [done.eq_masked, started.frame, freed.eq_masked, freeBufs, entered.frame]
  rfl

end

theorem trimDelta_unmapped {e : Extent} {n : Namespace} {kind nsid dsn c : Nat} : ∀ d ∈ e.trimDelta n kind nsid dsn c, d.value = MapEntry.unmapped := by
  intro d hd
  unfold Extent.trimDelta at hd
  dsimp only at hd
  split at hd
  · rw [List.mem_singleton.mp hd]
  · exact absurd hd List.not_mem_nil

section
variable {s : State} {c kind a k : Nat} {x : Ctx} {n : Namespace} (good : s.rangeRefusal n a k true = none)
include good

theorem trimRun_one : s.trimRun c kind x n [(a, k)] =
    if s.tablesRoom x.sqe.nsid.toNat ((⟨a * n.lbaBytes, k * n.lbaBytes⟩ : Extent).partials n) ((⟨a * n.lbaBytes, k * n.lbaBytes⟩ : Extent).partials n).length
        && s.dsnTurn c && !s.dlogStalled x.slice then
      (s.modCtx c fun y => { y with ranges := [(a, k)] }).trimCmd c kind x n [⟨a * n.lbaBytes, k * n.lbaBytes⟩]
    else s.modCtx c fun y => { y with state := .lookup } := by
  unfold trimRun
  simp only [List.findSome?_cons, List.findSome?_nil, good, List.map_cons, List.map_nil, List.flatMap_singleton]

theorem trimRun_given (room : s.tablesRoom x.sqe.nsid.toNat ((⟨a * n.lbaBytes, k * n.lbaBytes⟩ : Extent).partials n) ((⟨a * n.lbaBytes, k * n.lbaBytes⟩ : Extent).partials n).length = true)
    (turn : s.dsnTurn c = true) (flows : s.dlogStalled x.slice = false) :
    s.trimRun c kind x n [(a, k)] = (s.modCtx c fun y => { y with ranges := [(a, k)] }).trimCmd c kind x n [⟨a * n.lbaBytes, k * n.lbaBytes⟩] :=
  (trimRun_one good).trans (if_pos (by rw [room, turn, flows]; rfl))

theorem trimRun_waits (turn : s.dsnTurn c = false) : s.trimRun c kind x n [(a, k)] = s.modCtx c fun y => { y with state := .lookup } :=
  (trimRun_one good).trans (if_neg (by rw [turn, Bool.and_false, Bool.false_and]; decide))

end

/-! ## Dataset Management -/

section
variable {s : State} {c : Nat} {x : Ctx} {n : Namespace} (h : s.ioCtx c 0x09 [.fetched, .lookup] = some x) (own : s.ownNs x = some n)
include h own

theorem exec_dsm (read : Bool) (state : x.state = if read then .lookup else .fetched) : exec (.datasetManagement c read) s = .next (s.dsmNs c x n) := by
  have stands : s.ioCtx c 0x09 [if read then .lookup else .fetched] = some x := ioCtx_of_state h (List.mem_singleton.mpr state)
  change execDatasetManagement c read s = _
  unfold execDatasetManagement
  rw [stands]
  exact congrArg Host.Outcome.next (onOwnNs_own own)

theorem exec_dsm_list (fetched : x.state = .fetched) (status : x.status = 0) (known : x.list = none) :
    exec (.datasetManagement c false) s = .next (s.dataInGo c .pass x) := by
  rw [exec_dsm h own false fetched]
  exact congrArg Host.Outcome.next ((if_pos fetched).trans (ptrGo_go status known))

theorem exec_dsm_read (lookup : x.state = .lookup) :
    exec (.datasetManagement c true) s = .next (if x.sqe.cdw11.getLsbD 2 then s.trimRun c 3 x n (s.dsmRanges x) else s.failCmd c 0) := by
  rw [exec_dsm h own true lookup]
  exact congrArg Host.Outcome.next (if_neg (by rw [lookup]; decide))

end

theorem exec_writeZeroes {s : State} {c : Nat} {x : Ctx} {n : Namespace} (h : s.ioCtx c 0x08 [.fetched, .lookup] = some x) (own : s.ownNs x = some n) :
    exec (.writeZeroes c) s = .next (s.trimRun c 4 x n [(slbaOf x.sqe, nlbOf x.sqe)]) := by
  change execWriteZeroes c s = _
  unfold execWriteZeroes
  rw [h]
  exact congrArg Host.Outcome.next (onOwnNs_own own)

end State

/-! ## Flush (R119) -/

/-- The command has its result. -/
def Ctx.becomeReady (y : Ctx) : Ctx := { y with state := .ready }

namespace State

theorem becomeReady_fold (l : List (Nat × Ctx)) (s : State) :
    l.foldl (fun s e => s.modCtx e.1 Ctx.becomeReady) s = { s with qen := { s.qen with ctxs := (l.foldl (fun s e => s.modCtx e.1 Ctx.becomeReady) s).qen.ctxs } } := by
  induction l generalizing s with
  | nil => rfl
  | cons e l ih => exact ih (s.modCtx e.1 Ctx.becomeReady)

theorem becomeReady_fold_other {l : List (Nat × Ctx)} {c : Nat} (out : ∀ e ∈ l, e.1 ≠ c) (s : State) :
    Tbl.find? (l.foldl (fun s e => s.modCtx e.1 Ctx.becomeReady) s).qen.ctxs c = Tbl.find? s.qen.ctxs c := by
  induction l generalizing s with
  | nil => rfl
  | cons e l ih =>
    exact (ih (fun f hf => out f (List.mem_cons_of_mem _ hf)) _).trans (find?_modCtx_other s _ (out e List.mem_cons_self).symm)

/-- A command that has its result keeps it. -/
theorem becomeReady_fold_again (l : List (Nat × Ctx)) {s : State} {c : Nat} {y : Ctx} (hy : Tbl.find? s.qen.ctxs c = some y.becomeReady) :
    Tbl.find? (l.foldl (fun s e => s.modCtx e.1 Ctx.becomeReady) s).qen.ctxs c = some y.becomeReady := by
  induction l generalizing s with
  | nil => exact hy
  | cons e l ih =>
    refine ih ?_
    by_cases own : c = e.1
    · subst own
      exact (find?_modCtx_same Ctx.becomeReady hy :)
    · exact (find?_modCtx_other s _ own).trans hy

theorem becomeReady_fold_mem {l : List (Nat × Ctx)} {s : State} {c : Nat} {x y : Ctx} (hl : (c, x) ∈ l) (hy : Tbl.find? s.qen.ctxs c = some y) :
    Tbl.find? (l.foldl (fun s e => s.modCtx e.1 Ctx.becomeReady) s).qen.ctxs c = some y.becomeReady := by
  induction l generalizing s with
  | nil => exact absurd hl List.not_mem_nil
  | cons e l ih =>
    by_cases own : c = e.1
    · refine becomeReady_fold_again l ?_
      subst own
      exact find?_modCtx_same Ctx.becomeReady hy
    · exact ih ((List.mem_cons.mp hl).resolve_left fun eq => own (congrArg Prod.fst eq)) ((find?_modCtx_other s _ own).trans hy)

/-- The flushes whose writes are all on NAND. -/
def flushesDone (s : State) : List (Nat × Ctx) :=
  s.qen.ctxs.filter fun e => !e.2.admin && e.2.sqe.opcode == 0x00 && e.2.state == .media
    && e.2.waits.all fun d => ((Tbl.find? s.mxe.writes d).map WriteRec.pend).getD 0 == 0

theorem flushDone_eq (s : State) : s.flushDone = s.flushesDone.foldl (fun s e => s.modCtx e.1 Ctx.becomeReady) s := rfl

/-- A Flush waits for its writes, which go ahead of all others. -/
def flushForced (s : State) (c : Nat) (x : Ctx) : State := (s.modCtx c fun y => { y with state := .media }).modMxe (Mxe.force fun d => x.waits.contains d)

theorem flushForced_done_frame (s : State) (c : Nat) (x : Ctx) :
    (s.flushForced c x).flushDone.mxe = s.mxe.force (fun d => x.waits.contains d) ∧
      (s.flushForced c x).flushDone = { s with qen := { s.qen with ctxs := (s.flushForced c x).flushDone.qen.ctxs }, mxe := (s.flushForced c x).flushDone.mxe } := by
  rw [flushDone_eq, becomeReady_fold]
  exact ⟨rfl, rfl⟩

section
variable {s : State} {c : Nat} {x : Ctx} (h : s.ioCtx c 0x00 [.fetched] = some x)
include h

theorem exec_flush (own : x.sqe.nsid = 0xFFFFFFFF ∨ (s.ownNs x).isSome = true) : exec (.flush c) s = .next (s.flushForced c x).flushDone := by
  change execFlush c s = _
  unfold execFlush
  rw [h]
  exact if_pos own

theorem flushForced_find : Tbl.find? (s.flushForced c x).qen.ctxs c = some { x with state := .media } :=
  find?_modCtx_same (fun y => { y with state := .media }) (ioCtx_find h).1

/-- A Flush whose writes are on NAND has its result. -/
theorem flush_ready (landed : ∀ d ∈ x.waits, ∀ w, Tbl.find? s.mxe.writes d = some w → w.pend = 0) :
    Tbl.find? (s.flushForced c x).flushDone.qen.ctxs c = some { x with state := .ready } := by
  obtain ⟨-, -, -, io, opcode⟩ := ioCtx_find h
  have found := flushForced_find h
  refine becomeReady_fold_mem (x := { x with state := .media }) (y := { x with state := .media }) (List.mem_filter.mpr ⟨Tbl.mem_of_find? found, ?_⟩) found
  simp only [io, opcode, Bool.and_eq_true, Bool.not_false, beq_self_eq_true, true_and, List.all_eq_true, beq_iff_eq]
  intro d hd
  change ((Tbl.find? s.mxe.writes d).map WriteRec.pend).getD 0 = 0
  cases hw : Tbl.find? s.mxe.writes d with
  | none => rfl
  | some w => exact landed d hd w hw

/-- A Flush with a write that is not on NAND waits. -/
theorem flush_waits {d : Nat} {w : WriteRec} (hd : d ∈ x.waits) (hw : Tbl.find? s.mxe.writes d = some w) (busy : w.pend ≠ 0) (alone : ∀ e ∈ s.qen.ctxs, e.1 = c → e.2 = x) :
    Tbl.find? (s.flushForced c x).flushDone.qen.ctxs c = some { x with state := .media } := by
  refine (becomeReady_fold_other (fun e he own => ?_) _).trans (flushForced_find h)
  obtain ⟨there, done⟩ := List.mem_filter.mp he
  obtain ⟨a, ha, mapped⟩ := List.mem_map.mp there
  have key : a.1 = c := by
    by_cases key : a.1 = c
    · exact key
    · rw [if_neg key] at mapped
      exact absurd ((congrArg Prod.fst mapped).trans own) key
  have waits : e.2.waits = x.waits := by
    rw [← mapped, if_pos key, ← alone a ha key]
  have all := (Bool.and_eq_true .. ▸ done).2
  rw [waits] at all
  have landed := List.all_eq_true.mp all d hd
  change (((Tbl.find? s.mxe.writes d).map WriteRec.pend).getD 0 == 0) = true at landed
  rw [hw] at landed
  exact busy (beq_iff_eq.mp landed)

end

end State

/-- Settles O20: a trim with room and its turn takes one DSN, else it stands in LOOKUP; a Flush's result turns on the writes it covers. -/
theorem trimsTakeOneDsnAndFlushWaitsForNand : Obligations.TrimsTakeOneDsnAndFlushWaitsForNand := by
  unfold Obligations.TrimsTakeOneDsnAndFlushWaitsForNand
  refine ⟨?_, ?_, ?_⟩
  · intro s c a k kind x n i hi own good
    obtain ⟨hx, runs⟩ : Tbl.find? s.qen.ctxs c = some x ∧ exec i s = .next (s.trimRun c kind x n [(a, k)]) := by
      obtain ⟨rfl, rfl, h, rfl, rfl⟩ | ⟨rfl, rfl, h, lookup, deallocate, ranges⟩ := hi
      · exact ⟨(State.ioCtx_find h).1, State.exec_writeZeroes h own⟩
      · exact ⟨(State.ioCtx_find h).1, (State.exec_dsm_read h own lookup).trans (by rw [if_pos deallocate, ranges])⟩
    refine ⟨fun room turn flows => ?_, fun turn => ?_⟩
    · let u := s.modCtx c fun y => { y with ranges := [(a, k)] }
      let es : List Extent := [⟨a * n.lbaBytes, k * n.lbaBytes⟩]
      have mxe := u.trimCmd_mxe c kind x n es
      have touch := State.trimCmd_touch c kind x n es u (m := 13898273) rfl (State.modCtx_touch c _ s rfl (.refl _ s))
      refine ⟨u.trimCmd c kind x n es, runs.trans (congrArg _ (State.trimRun_given good room turn flows)), ?_, ?_, ?_, ?_, State.trimDelta_unmapped,
        touch.tnu rfl, touch.hlu rfl, touch.power rfl, touch.tbu rfl, u.trimCmd_frame c kind x n es⟩
      · rw [mxe]; rfl
      · rw [mxe]; rfl
      · rw [mxe]; rfl
      · rw [mxe]
        exact congrArg (s.mxe.deltas ++ ·) (List.flatMap_singleton ..)
    · exact ⟨_, runs.trans (congrArg _ (State.trimRun_waits good turn)), State.find?_modCtx_same (fun y => { y with state := .lookup }) hx,
        fun j hj => State.find?_modCtx_other s _ hj, rfl⟩
  · intro s c x n h own
    obtain ⟨hx, -, -, io, -⟩ := State.ioCtx_find h
    refine ⟨fun u hs fetched status known taken => ?_, fun lookup keep => ?_⟩
    · have slice : (if x.admin then none else some x.slice) = some x.slice := if_neg (by rw [io]; decide)
      obtain ⟨ctx, other, frame⟩ := State.dataInGo_asksData .pass hx (by rw [slice]; exact taken)
      exact ⟨_, State.exec_dsm_list h own fetched status known, ctx, other, frame⟩
    · refine ⟨_, (State.exec_dsm_read h own lookup).trans (congrArg _ (if_neg (by rw [keep]; decide))), State.failCmd_ended s c 0 (by simp [Tbl.has, hx]), ?_⟩
      simp
  · intro s c x h own
    obtain ⟨mxe, frame⟩ := s.flushForced_done_frame c x
    refine ⟨fun landed => ⟨_, State.exec_flush h own, State.flush_ready h landed, mxe, frame⟩, fun d w hd hw busy alone => ?_⟩
    exact ⟨_, State.exec_flush h own, State.flush_waits h hd hw busy alone, mxe, frame⟩

end Sys2Proof.Machine
end

section
/-! PROOFS. Format NVM and Sanitize (spec/04, R93, R303, R307, R344): granules that become unmapped, bands that go to be erased, keys that are replaced, and O28. -/

namespace Sys2Proof.Machine

/-! ## Unmapped granules -/

/-- From `s` to `t` granules became unmapped, and what counts them followed. -/
structure Unmaps (s t : State) : Prop where
  frame : t = { s with
    mxe := { s.mxe with bands := t.mxe.bands, map := t.mxe.map, dirty := t.mxe.dirty, jobs := t.mxe.jobs, segMap := t.mxe.segMap, unloaded := t.mxe.unloaded }
    spe := { s.spe with lel := t.spe.lel } }
  bands : t.mxe.bands.length = s.mxe.bands.length
  entry : ∀ nsid g, s.mxe.entry nsid g = MapEntry.unmapped → t.mxe.entry nsid g = MapEntry.unmapped

namespace Unmaps

theorem refl (s : State) : Unmaps s s := ⟨rfl, rfl, fun _ _ h => h⟩

theorem trans {s t u : State} (h : Unmaps s t) (k : Unmaps t u) : Unmaps s u :=
  ⟨k.frame.trans (by rw [h.frame]), k.bands.trans h.bands, fun nsid g e => k.entry nsid g (h.entry nsid g e)⟩

theorem foldl {α : Type} (f : State → α → State) (l : List α) (s : State) (h : ∀ t a, Unmaps t (f t a)) : Unmaps s (l.foldl f s) :=
  List.foldlRecOn (motive := Unmaps s) l f (refl s) fun _ k a _ => k.trans (h _ a)

theorem nss {s t : State} (h : Unmaps s t) : t.mxe.nss = s.mxe.nss := (congrArg (fun t => t.mxe.nss) h.frame :)

end Unmaps

namespace State

theorem addValid_unmaps (e : MapEntry) (n : Int) (s : State) : Unmaps s (s.addValid e n) := by
  unfold addValid
  split
  · split
    · exact ⟨rfl, List.length_map _, fun _ _ h => h⟩
    · exact .refl s
  · exact .refl s

theorem entry_setEntry_same (nsid g : Nat) (e : MapEntry) (s : State) : (s.setEntry nsid g e).mxe.entry nsid g = e :=
  Tbl.getD_setD_same _ _ _ _

theorem setEntry_unmaps (nsid g : Nat) (s : State) : Unmaps s (s.setEntry nsid g MapEntry.unmapped) := by
  have counted := (addValid_unmaps (s.mxe.entry nsid g) (-((((s.mxe.ns? nsid).map Namespace.spg).getD 1 : Nat) : Int)) s).trans
    (addValid_unmaps MapEntry.unmapped (((s.mxe.ns? nsid).map Namespace.spg).getD 1 : Nat) _)
  refine counted.trans ⟨rfl, rfl, fun m j e => ?_⟩
  by_cases key : granKey m j = granKey nsid g
  · exact (congrArg (Tbl.getD _ · MapEntry.unmapped) key).trans (entry_setEntry_same nsid g MapEntry.unmapped s)
  · exact (Tbl.getD_setD_other _ MapEntry.unmapped _ key).trans e

/-- Granules of a namespace that become unmapped one by one. -/
def unmapGranules (nsid : Nat) (gs : List Nat) (s : State) : State := gs.foldl (fun s g => s.setEntry nsid g MapEntry.unmapped) s

theorem unmapGranules_unmaps (nsid : Nat) (gs : List Nat) (s : State) : Unmaps s (s.unmapGranules nsid gs) := .foldl _ _ _ fun t g => setEntry_unmaps nsid g t

theorem entry_unmapGranules {nsid g : Nat} {gs : List Nat} (hg : g ∈ gs) (s : State) : (s.unmapGranules nsid gs).mxe.entry nsid g = MapEntry.unmapped := by
  induction gs generalizing s with
  | nil => exact absurd hg List.not_mem_nil
  | cons k gs ih =>
    obtain rfl | later := List.mem_cons.mp hg
    · exact (unmapGranules_unmaps nsid gs _).entry nsid g (entry_setEntry_same nsid g _ s)
    · exact ih later _

/-- The granules of a namespace that the map lists. -/
def mappedGranules (s : State) (nsid : Nat) : List Nat := (s.mxe.map.filter fun e => e.1 / 2 ^ 40 + 1 == nsid).map fun e => e.1 % 2 ^ 40

theorem entry_unlisted {s : State} {nsid g : Nat} (named : 1 ≤ nsid) (small : g < 2 ^ 40) (out : g ∉ s.mappedGranules nsid) : s.mxe.entry nsid g = MapEntry.unmapped := by
  cases found : Tbl.find? s.mxe.map (granKey nsid g) with
  | none => exact congrArg (Option.getD · MapEntry.unmapped) found
  | some e =>
    refine absurd (List.mem_map.mpr ⟨_, List.mem_filter.mpr ⟨Tbl.mem_of_find? found, ?_⟩, ?_⟩) out
    · simp only [granKey, beq_iff_eq]
      omega
    · simp only [granKey]
      omega

theorem unmapNs_unmaps (nsid : Nat) (s : State) : Unmaps s (s.unmapNs nsid) :=
  (unmapGranules_unmaps nsid (s.mappedGranules nsid) s).trans ⟨rfl, rfl, fun _ _ e => e⟩

theorem entry_unmapNs {nsid g : Nat} (named : 1 ≤ nsid) (small : g < 2 ^ 40) (s : State) : (s.unmapNs nsid).mxe.entry nsid g = MapEntry.unmapped := by
  by_cases listed : g ∈ s.mappedGranules nsid
  · exact entry_unmapGranules listed s
  · exact (unmapGranules_unmaps nsid (s.mappedGranules nsid) s).entry nsid g (entry_unlisted named small listed)

/-- The lost extents of a namespace go with its granules. -/
theorem lel_unmapNs (nsid : Nat) (s : State) : ∀ e ∈ (s.unmapNs nsid).spe.lel, e.nsid ≠ nsid := fun e he => by
  have kept := (List.mem_filter.mp he).2
  exact bne_iff_ne.mp kept

/-- Namespaces that are unmapped one by one. -/
def unmapAll (s : State) (l : List (Nat × Namespace)) : State := l.foldl (fun s e => s.unmapNs e.1) s

theorem unmapAll_unmaps (s : State) (l : List (Nat × Namespace)) : Unmaps s (s.unmapAll l) := .foldl _ _ _ fun t e => unmapNs_unmaps e.1 t

theorem entry_unmapAll {k g : Nat} {n : Namespace} {l : List (Nat × Namespace)} (hl : (k, n) ∈ l) (named : 1 ≤ k) (small : g < 2 ^ 40) (s : State) :
    (s.unmapAll l).mxe.entry k g = MapEntry.unmapped := by
  induction l generalizing s with
  | nil => exact absurd hl List.not_mem_nil
  | cons e l ih =>
    obtain rfl | later := List.mem_cons.mp hl
    · exact (unmapAll_unmaps _ l).entry k g (entry_unmapNs named small s)
    · exact ih later _

/-! ## Keys (R303, R307) -/

/-- A key slot gets a fresh key. -/
def rekey (s : State) (k : Nat) : State := s.drawn.modCdx fun c => { c with keys := Tbl.put c.keys k s.fresh }

theorem rekey_fold_frame (l : List Nat) (s : State) :
    l.foldl rekey s = { s with freeCnt := (l.foldl rekey s).freeCnt, cdx := { s.cdx with keys := (l.foldl rekey s).cdx.keys } } ∧ s.freeCnt ≤ (l.foldl rekey s).freeCnt := by
  induction l generalizing s with
  | nil => exact ⟨rfl, le_rfl⟩
  | cons k l ih =>
    obtain ⟨frame, le⟩ := ih (s.rekey k)
    exact ⟨frame, (Nat.le_succ _).trans le⟩

theorem rekey_fold_other {l : List Nat} {k : Nat} (out : k ∉ l) (s : State) : Tbl.find? (l.foldl rekey s).cdx.keys k = Tbl.find? s.cdx.keys k := by
  induction l generalizing s with
  | nil => rfl
  | cons j l ih =>
    obtain ⟨first, rest⟩ := not_or.mp (mt List.mem_cons.mpr out)
    exact (ih rest _).trans (Tbl.find?_put_other _ _ first)

/-- The slot holds a key drawn since `a`. -/
def Rekeyed (a : Nat) (k : Nat) (t : State) : Prop := ∃ m, a ≤ m ∧ m < t.freeCnt ∧ Tbl.find? t.cdx.keys k = some (Config.freeNat m)

theorem rekey_rekeyed {a : Nat} {s : State} (le : a ≤ s.freeCnt) (k : Nat) : Rekeyed a k (s.rekey k) :=
  ⟨s.freeCnt, le, Nat.lt_succ_self _, Tbl.find?_put_same _ _ _⟩

theorem Rekeyed.rekey {a k : Nat} {s : State} (h : Rekeyed a k s) (le : a ≤ s.freeCnt) (j : Nat) : Rekeyed a k (s.rekey j) := by
  by_cases same : k = j
  · subst same
    exact rekey_rekeyed le k
  · obtain ⟨m, lower, upper, found⟩ := h
    exact ⟨m, lower, upper.trans (Nat.lt_succ_self _), (Tbl.find?_put_other _ _ same).trans found⟩

theorem Rekeyed.fold {a k : Nat} (l : List Nat) {s : State} (h : Rekeyed a k s) (le : a ≤ s.freeCnt) : Rekeyed a k (l.foldl State.rekey s) := by
  induction l generalizing s with
  | nil => exact h
  | cons j l ih => exact ih (h.rekey le j) (le.trans (Nat.le_succ _))

theorem rekey_fold_rekeyed {a k : Nat} {l : List Nat} (hk : k ∈ l) {s : State} (le : a ≤ s.freeCnt) : Rekeyed a k (l.foldl rekey s) := by
  induction l generalizing s with
  | nil => exact absurd hk List.not_mem_nil
  | cons j l ih =>
    obtain rfl | later := List.mem_cons.mp hk
    · exact (rekey_rekeyed le k).fold l (le.trans (Nat.le_succ _))
    · exact ih later (s := s.rekey j) (le.trans (Nat.le_succ _))

theorem mem_keys_iff {α : Type} (t : List (Nat × α)) (k : Nat) : k ∈ t.map Prod.fst ↔ Tbl.has t k = true := by
  induction t with
  | nil => simp [Tbl.has]
  | cons e t ih =>
    by_cases same : k = e.1
    · simp [Tbl.has, Tbl.find?, same]
    · simp only [List.map_cons, List.mem_cons, same, false_or, ih, Tbl.has, Tbl.find?, if_false]

/-- Every key in use is replaced by a free value, and no slot gains or loses one. -/
theorem regenerate_all (s : State) : let t := s.regenerate (s.cdx.keys.map Prod.fst)
    (∀ k, Tbl.has t.cdx.keys k = Tbl.has s.cdx.keys k) ∧ ∀ k, Tbl.has s.cdx.keys k = true → Rekeyed s.freeCnt k t := by
  have new : ∀ k, Tbl.has s.cdx.keys k = true → Rekeyed s.freeCnt k (s.regenerate (s.cdx.keys.map Prod.fst)) := fun k hk =>
    rekey_fold_rekeyed (List.mem_eraseDups.mpr ((mem_keys_iff _ _).mpr hk)) le_rfl
  refine ⟨fun k => ?_, new⟩
  cases listed : Tbl.has s.cdx.keys k with
  | true =>
    obtain ⟨m, -, -, found⟩ := new k listed
    exact congrArg Option.isSome found
  | false =>
    have out : k ∉ (s.cdx.keys.map Prod.fst).eraseDups := fun hk => absurd (listed.symm.trans ((mem_keys_iff _ _).mp (List.mem_eraseDups.mp hk))) (by decide)
    exact (congrArg Option.isSome (rekey_fold_other out s)).trans listed

end State

/-! ## Bands that go to be erased (R192, R344) -/

/-- The band takes no more writes and is, or will be, a victim. -/
def Band.Leaving (y : Band) : Prop := y.state ≠ .opened ∧ y.state ≠ .closed ∧ (y.state = .closing → y.wanted = true)

/-- From `s` to `t` bands were chosen as victims, and their copy work queued. -/
structure Chooses (s t : State) : Prop where
  frame : t = { s with mxe := { s.mxe with bands := t.mxe.bands, jobs := t.mxe.jobs, nextJob := t.mxe.nextJob } }
  band : ∀ b y, Tbl.find? t.mxe.bands b = some y → ∃ x, Tbl.find? s.mxe.bands b = some x ∧ y.kind = x.kind ∧ (x.Leaving → y.Leaving)

namespace Chooses

theorem of_bands {s t : State} (frame : t = { s with mxe := { s.mxe with bands := t.mxe.bands, jobs := t.mxe.jobs, nextJob := t.mxe.nextJob } })
    (bands : t.mxe.bands = s.mxe.bands) : Chooses s t :=
  ⟨frame, fun _ y hy => ⟨y, bands ▸ hy, rfl, id⟩⟩

theorem refl (s : State) : Chooses s s := of_bands rfl rfl

theorem trans {s t u : State} (h : Chooses s t) (k : Chooses t u) : Chooses s u := by
  refine ⟨k.frame.trans (by rw [h.frame]), fun b y hy => ?_⟩
  obtain ⟨x, hx, kind, leaves⟩ := k.band b y hy
  obtain ⟨w, hw, kind', leaves'⟩ := h.band b x hx
  exact ⟨w, hw, kind.trans kind', leaves ∘ leaves'⟩

theorem foldl {α : Type} (f : State → α → State) (l : List α) (s : State) (h : ∀ t a, Chooses t (f t a)) : Chooses s (l.foldl f s) :=
  List.foldlRecOn (motive := Chooses s) l f (refl s) fun _ k a _ => k.trans (h _ a)

end Chooses

namespace State

theorem queueCopies_chooses (band : Band) (s : State) : Chooses s (s.queueCopies band) ∧ (s.queueCopies band).mxe.bands = s.mxe.bands := by
  refine List.foldlRecOn (motive := fun t => Chooses s t ∧ t.mxe.bands = s.mxe.bands) _ _ ⟨.refl s, rfl⟩ fun t k e _ => ?_
  unfold relocate
  split
  · exact k
  · exact ⟨k.1.trans (.of_bands rfl rfl), k.2⟩

/-- A band that is changed and does not come back. -/
theorem modBand_chooses {s : State} {b : Nat} {band : Band} (f : Band → Band) (h : Tbl.find? s.mxe.bands b = some band) (kind : (f band).kind = band.kind)
    (leaves : band.Leaving → (f band).Leaving) :
    Chooses s (s.modMxe fun m => m.modBand b f) ∧ Tbl.find? (s.modMxe fun m => m.modBand b f).mxe.bands b = some (f band) := by
  have same : Tbl.find? (s.modMxe fun m => m.modBand b f).mxe.bands b = some (f band) := (Tbl.find?_adjust_same s.mxe.bands b f).trans (congrArg _ h)
  refine ⟨⟨rfl, fun d y hy => ?_⟩, same⟩
  by_cases own : d = b
  · subst own
    obtain rfl := Option.some.inj (same.symm.trans hy)
    exact ⟨band, h, kind, leaves⟩
  · exact ⟨y, (Tbl.find?_adjust_other s.mxe.bands f own).symm.trans hy, rfl, id⟩

end State

/-- The band is wanted as a victim of a class. -/
def Band.want (cls : OpClass) (x : Band) : Band := { x with wanted := true, copyCls := cls }

/-- The band is a victim. -/
def Band.fall (cls : OpClass) (x : Band) : Band := { x with state := .victim, wanted := false, copyCls := cls }

/-- The band is padded and closed, where it is open: its members that are not retired owe a summary. -/
def Band.pad (m : Mxe) (cls : OpClass) (x : Band) : Band :=
  if x.state = .opened then { x with state := .closing, padCls := cls, summaries := (x.members.filter fun y => !Tbl.has m.retired (blkKey y.1 y.2)).map Prod.fst } else x

theorem Band.fall_leaving (cls : OpClass) (x : Band) : (x.fall cls).Leaving := ⟨nofun, nofun, nofun⟩

theorem Band.leaving_of_gone {x : Band} (gone : x.state = .victim ∨ x.state = .released ∨ x.state = .erasing) : x.Leaving := by
  unfold Leaving
  obtain h | h | h := gone <;> simp [h]

theorem Band.want_leaving {x : Band} (closing : x.state = .closing) (cls : OpClass) : (x.want cls).Leaving :=
  ⟨fun h => absurd (closing.symm.trans h) (by decide), fun h => absurd (closing.symm.trans h) (by decide), fun _ => rfl⟩

/-- An open band that is wanted leaves once it is padded. -/
theorem Band.pad_want_leaving {x : Band} (opened : x.state = .opened) (m : Mxe) (cls cls' : OpClass) : ((x.want cls).pad m cls').Leaving ∧ ((x.want cls).pad m cls').kind = x.kind := by
  unfold Band.pad
  rw [if_pos (show (x.want cls).state = .opened from opened)]
  exact ⟨⟨nofun, nofun, fun _ => rfl⟩, rfl⟩

namespace State

/-- A band that is chosen leaves. -/
theorem chooseVictim_leaves {s : State} {b : Nat} {band : Band} (h : Tbl.find? s.mxe.bands b = some band) (cls : OpClass) :
    Chooses s (s.chooseVictim b cls) ∧ ∃ y, Tbl.find? (s.chooseVictim b cls).mxe.bands b = some y ∧ y.Leaving := by
  unfold chooseVictim
  simp only [h]
  cases state : band.state with
  | closed =>
    obtain ⟨chosen, found⟩ := modBand_chooses (Band.fall cls) h rfl fun _ => band.fall_leaving cls
    obtain ⟨copies, bands⟩ := queueCopies_chooses { band with copyCls := cls } (s.modMxe fun m => m.modBand b (Band.fall cls))
    have run : s.makeVictim b cls = (s.modMxe fun m => m.modBand b (Band.fall cls)).queueCopies { band with copyCls := cls } := by
      unfold makeVictim
      rw [h]
      rfl
    simp only [run]
    exact ⟨chosen.trans copies, _, (congrArg (Tbl.find? · b) bands).trans found, band.fall_leaving cls⟩
  | opened =>
    obtain ⟨leaves, kind⟩ := Band.pad_want_leaving state s.mxe cls .high
    obtain ⟨chosen, found⟩ := modBand_chooses (Band.want cls) h rfl fun k => absurd state k.1
    obtain ⟨padded, found⟩ := modBand_chooses (Band.pad s.mxe .high) found kind fun _ => leaves
    exact ⟨chosen.trans padded, _, found, leaves⟩
  | closing =>
    obtain ⟨chosen, found⟩ := modBand_chooses (Band.want cls) h rfl fun _ => Band.want_leaving state cls
    exact ⟨chosen, _, found, Band.want_leaving state cls⟩
  | victim => exact ⟨.refl s, band, h, Band.leaving_of_gone (.inl state)⟩
  | released => exact ⟨.refl s, band, h, Band.leaving_of_gone (.inr (.inl state))⟩
  | erasing => exact ⟨.refl s, band, h, Band.leaving_of_gone (.inr (.inr state))⟩

theorem chooseVictim_chooses (b : Nat) (cls : OpClass) (s : State) : Chooses s (s.chooseVictim b cls) := by
  cases h : Tbl.find? s.mxe.bands b with
  | some band => exact (chooseVictim_leaves h cls).1
  | none =>
    unfold chooseVictim
    rw [h]
    exact .refl s

/-- Bands that are chosen one by one. -/
def chooseAll (s : State) (l : List (Nat × Band)) : State := l.foldl (fun s b => s.chooseVictim b.1 .gc) s

theorem chooseAll_chooses (s : State) (l : List (Nat × Band)) : Chooses s (s.chooseAll l) := .foldl _ _ _ fun t b => chooseVictim_chooses b.1 .gc t

/-- Each of them leaves, and does not come back. -/
theorem chooseAll_leaves {b : Nat} {x : Band} {l : List (Nat × Band)} (hl : (b, x) ∈ l) {s : State} {y : Band} (hy : Tbl.find? (s.chooseAll l).mxe.bands b = some y) : y.Leaving := by
  induction l generalizing s with
  | nil => exact absurd hl List.not_mem_nil
  | cons e l ih =>
    obtain rfl | later := List.mem_cons.mp hl
    · obtain ⟨w, hw, -, leaves⟩ := (chooseAll_chooses (s.chooseVictim b .gc) l).band b y hy
      obtain ⟨v, hv, -⟩ := (chooseVictim_chooses b .gc s).band b w hw
      obtain ⟨-, z, hz, gone⟩ := chooseVictim_leaves hv .gc
      obtain rfl := Option.some.inj (hw.symm.trans hz)
      exact leaves gone
    · exact ih later (s := s.chooseVictim e.1 .gc) hy

theorem releaseUser_leaves {s : State} {b : Nat} {y : Band} (hy : Tbl.find? s.releaseUser.mxe.bands b = some y) (user : y.kind ≠ .system) : y.Leaving := by
  obtain ⟨x, hx, kind, -⟩ := (s.chooseAll_chooses _).band b y hy
  refine chooseAll_leaves (x := x) (List.mem_filter.mpr ⟨Tbl.mem_of_find? hx, ?_⟩) hy
  exact bne_iff_ne.mpr (kind ▸ user)

theorem releaseUser_chooses (s : State) : Chooses s s.releaseUser := s.chooseAll_chooses _

/-! ## Format NVM (R307) -/

section
variable {s : State} {c nsid : Nat} {x : Ctx} {n : Namespace} (h : s.adminCtx c 0x80 = some x) (hall : s.power.stage = .hall) (named : s.namedNss x.sqe.nsid = [(nsid, n)])
  (format : cdwBits x.sqe.cdw10 3 0 ≤ 4) (erase : cdwBits x.sqe.cdw10 11 9 ≤ 2)
  (fits : n.lbaf = cdwBits x.sqe.cdw10 3 0 ∨ s.capacityOk (Tbl.put s.mxe.nss nsid (n.reformat (cdwBits x.sqe.cdw10 3 0))) = true)

/-- The namespace is unmapped and has its new format. -/
def reformatted (s : State) (nsid lbaf : Nat) (n : Namespace) : State :=
  ((s.unmapNs nsid).modMxe fun m => { m with nss := Tbl.put s.mxe.nss nsid (n.reformat lbaf) }).firstFormat

include h hall named format erase fits

theorem exec_formatNvm : exec (.formatNvm c) s = .next ((if cdwBits x.sqe.cdw10 11 9 = 2 then (s.reformatted nsid (cdwBits x.sqe.cdw10 3 0) n).rekey n.keySlot
    else s.reformatted nsid (cdwBits x.sqe.cdw10 3 0) n).finish c 0) := by
  have room : ¬(([(nsid, n)].any fun e => e.2.lbaf != cdwBits x.sqe.cdw10 3 0) && !s.capacityOk (Tbl.put s.mxe.nss nsid (n.reformat (cdwBits x.sqe.cdw10 3 0)))) = true := by
    obtain same | ok := fits
    · simp [same]
    · simp [ok]
  change execFormatNvm c s = _
  unfold execFormatNvm
  refine (admin_hall h hall).trans (congrArg Host.Outcome.next ?_)
  rw [named]
  exact (if_neg (List.cons_ne_nil _ _)).trans ((if_neg (by omega)).trans (if_neg room))

end

theorem firstFormat_frame (s : State) : s.firstFormat = { s with mxe := { s.mxe with formatted := true, spareFirst := s.firstFormat.mxe.spareFirst } } := by
  unfold firstFormat
  split
  · next formatted =>
    change s = { s with mxe := { s.mxe with formatted := true } }
    rw [← formatted]
  · rfl

theorem reformatted_frame (s : State) (nsid lbaf : Nat) (n : Namespace) : s.reformatted nsid lbaf n = { s.unmapNs nsid with
    mxe := { (s.unmapNs nsid).mxe with nss := Tbl.put s.mxe.nss nsid (n.reformat lbaf), formatted := true, spareFirst := (s.reformatted nsid lbaf n).mxe.spareFirst } } :=
  firstFormat_frame _

/-! ## Sanitize (R344) -/

theorem exec_sanitize {s : State} {c act : Nat} {x : Ctx} {f : State → State} (h : s.adminCtx c 0x84 = some x) (hall : s.power.stage = .hall)
    (action : cdwBits x.sqe.cdw10 2 0 = act) :
    s.sanitize c act f = .next (((f (s.unmapAll s.mxe.nss)).modMxe fun m => { m with sanitized := some x.sqe.cdw10 }).finish c 0) := by
  unfold sanitize
  rw [h]
  exact (if_pos action).trans (admin_hall h hall)

end State

/-- The state with what an erasure may change as in another. -/
def State.erasedAs (s v : State) : State := { s with freeCnt := v.freeCnt, mxe := v.mxe, cdx := { s.cdx with keys := v.cdx.keys }, spe := v.spe }

/-- The end of a command changes the contexts alone. -/
theorem State.finish_frame_of {v w : State} (frame : v = w) (c st : Nat) : v.finish c st = { w with qen := { w.qen with ctxs := (v.finish c st).qen.ctxs } } :=
  congrArg (fun u : State => { u with qen := { u.qen with ctxs := (v.finish c st).qen.ctxs } }) frame

/-! ## O28 -/

/-- What a Format leaves, whether or not it replaces the key. -/
structure Formatted (s : State) (nsid lbaf : Nat) (n : Namespace) (t : State) : Prop where
  ns : Tbl.find? t.mxe.nss nsid = some (n.reformat lbaf)
  entry : 1 ≤ nsid → ∀ g, g < 2 ^ 40 → t.mxe.entry nsid g = MapEntry.unmapped
  lel : ∀ e ∈ t.spe.lel, e.nsid ≠ nsid
  formatted : t.mxe.formatted = true
  nand : t.mxe.nand = s.mxe.nand
  frame : t = { s with freeCnt := t.freeCnt, mxe := t.mxe, cdx := { s.cdx with keys := t.cdx.keys }, spe := t.spe }

namespace State

theorem reformatted_formatted (s : State) (nsid lbaf : Nat) (n : Namespace) : Formatted s nsid lbaf n (s.reformatted nsid lbaf n) := by
  rw [reformatted_frame]
  have unmaps := unmapNs_unmaps nsid s
  refine ⟨Tbl.find?_put_same _ _ _, fun named g small => entry_unmapNs named small s, lel_unmapNs nsid s, rfl, ?_, ?_⟩
  · rw [unmaps.frame]
  · rw [unmaps.frame]

theorem reformatted_keys (s : State) (nsid lbaf : Nat) (n : Namespace) :
    (s.reformatted nsid lbaf n).cdx = s.cdx ∧ (s.reformatted nsid lbaf n).freeCnt = s.freeCnt ∧ (s.reformatted nsid lbaf n).qen = s.qen := by
  rw [reformatted_frame, (unmapNs_unmaps nsid s).frame]
  exact ⟨rfl, rfl, rfl⟩

/-- A Format with Secure Erase 2 replaces the key of the namespace alone. -/
theorem rekeyed_formatted {s u : State} {nsid lbaf : Nat} {n : Namespace} (h : Formatted s nsid lbaf n u) (k : Nat) : Formatted s nsid lbaf n (u.rekey k) :=
  ⟨h.ns, h.entry, h.lel, h.formatted, h.nand, (congrArg (State.rekey · k) h.frame :)⟩

end State

/-- Settles O28: a Format leaves its namespace unmapped in its new format, under a new key where it erases; a Sanitize leaves every namespace so, and its user bands leaving or every key new. -/
theorem formatAndSanitizeUnmapAndErase : Obligations.FormatAndSanitizeUnmapAndErase := by
  unfold Obligations.FormatAndSanitizeUnmapAndErase
  refine ⟨?_, fun s c x h hall => ⟨fun action => ?_, fun action => ?_⟩⟩
  · intro s c nsid x n h hall named one format erase fits
    have hx := (State.adminCtx_find h).1
    have runs := State.exec_formatNvm h hall named format erase fits
    have done := s.reformatted_formatted nsid (cdwBits x.sqe.cdw10 3 0) n
    obtain ⟨cdx, freeCnt, qen⟩ := s.reformatted_keys nsid (cdwBits x.sqe.cdw10 3 0) n
    by_cases crypto : cdwBits x.sqe.cdw10 11 9 = 2
    · rw [if_pos crypto] at runs
      obtain ⟨ns, entry, lel, formatted, nand, frame⟩ := State.rekeyed_formatted done n.keySlot
      refine ⟨_, n.reformat (cdwBits x.sqe.cdw10 3 0), runs, State.finish_after hx (congrArg Qen.ctxs qen), ns, rfl, rfl, rfl, rfl, rfl, entry one, lel, formatted, nand,
        fun other => absurd crypto other, fun _ => ⟨?_, fun k hk => ?_⟩, ?_⟩
      · exact (Tbl.find?_put_same _ _ _).trans (congrArg (fun k => some (Config.freeNat k)) freeCnt)
      · exact (Tbl.find?_put_other _ _ hk).trans (congrArg (fun c => Tbl.find? c.keys k) cdx)
      · exact State.finish_frame_of frame c 0
    · rw [if_neg crypto] at runs
      obtain ⟨ns, entry, lel, formatted, nand, frame⟩ := done
      refine ⟨_, n.reformat (cdwBits x.sqe.cdw10 3 0), runs, State.finish_after hx (congrArg Qen.ctxs qen), ns, rfl, rfl, rfl, rfl, rfl, entry one, lel, formatted, nand,
        fun _ => ⟨cdx, freeCnt⟩, fun same => absurd same crypto, State.finish_frame_of frame c 0⟩
  · let u := s.unmapAll s.mxe.nss
    let v := u.releaseUser.modMxe fun m => { m with sanitized := some x.sqe.cdw10 }
    have unmaps : Unmaps s u := s.unmapAll_unmaps s.mxe.nss
    have chooses := u.releaseUser_chooses
    have frame : v = { s with mxe := v.mxe, spe := v.spe } :=
      (congrArg (fun z : State => { z with mxe := v.mxe, spe := v.spe }) chooses.frame).trans (congrArg (fun z : State => { z with mxe := v.mxe, spe := v.spe }) unmaps.frame)
    have map : v.mxe.map = u.mxe.map := (congrArg (fun z : State => z.mxe.map) chooses.frame :)
    have nss : v.mxe.nss = u.mxe.nss := (congrArg (fun z : State => z.mxe.nss) chooses.frame :)
    refine ⟨v.finish c 0, State.exec_sanitize h hall action, State.finish_after (State.adminCtx_find h).1 (by rw [frame]), fun k n g hk one small => ?_,
      fun b y hy user => State.releaseUser_leaves hy user, nss.trans unmaps.nss, rfl, State.finish_frame_of frame c 0⟩
    exact (congrArg (Tbl.getD · (granKey k g) MapEntry.unmapped) map).trans (State.entry_unmapAll (Tbl.mem_of_find? hk) one small s)
  · let u := s.unmapAll s.mxe.nss
    let v := (u.regenerate (u.cdx.keys.map Prod.fst)).modMxe fun m => { m with sanitized := some x.sqe.cdw10 }
    have unmaps : Unmaps s u := s.unmapAll_unmaps s.mxe.nss
    have keyed := (State.rekey_fold_frame (u.cdx.keys.map Prod.fst).eraseDups u).1
    have frame : v = s.erasedAs v := calc
      v = u.erasedAs v := (congrArg (State.erasedAs · v) keyed :)
      _ = s.erasedAs v := (congrArg (State.erasedAs · v) unmaps.frame :)
    have mxe : v.mxe = { u.mxe with sanitized := some x.sqe.cdw10 } := (congrArg (fun z : State => { z.mxe with sanitized := some x.sqe.cdw10 }) keyed :)
    have keys : u.cdx.keys = s.cdx.keys := (congrArg (fun z : State => z.cdx.keys) unmaps.frame :)
    have drawn : u.freeCnt = s.freeCnt := (congrArg State.freeCnt unmaps.frame :)
    have run : exec (.sanitizeCryptoErase c) s = .next (v.finish c 0) := State.exec_sanitize h hall action
    obtain ⟨listed, new⟩ := u.regenerate_all
    refine ⟨v.finish c 0, run, State.finish_after (State.adminCtx_find h).1 (by rw [frame]; rfl), fun k n g hk one small => ?_, fun k => ?_, fun k hk => ?_, ?_, ?_, rfl, State.finish_frame_of frame c 0⟩
    · exact (congrArg (fun m : Mxe => m.entry k g) mxe).trans (State.entry_unmapAll (Tbl.mem_of_find? hk) one small s)
    · exact (listed k).trans (congrArg (Tbl.has · k) keys)
    · obtain ⟨m, lower, upper, found⟩ := new k ((congrArg (Tbl.has · k) keys).trans hk)
      exact ⟨m, drawn ▸ lower, upper, found⟩
    · exact (congrArg (fun m : Mxe => m.bands.length) mxe).trans unmaps.bands
    · exact (congrArg Mxe.nss mxe).trans unmaps.nss

end Sys2Proof.Machine
end

section
/-! PROOFS. The code store's own writes (spec/16, R436, R451): configuration records, take states, takes in banks 1 and 2, and what they leave of the store. -/

namespace Sys2Proof.Machine

/-- A byte outside a cleared range keeps its value. -/
theorem Memory.read_clearRange_other (d : Byte) (m : List Host.Cell) (a n x : Nat) (h : x < a ∨ a + n ≤ x) : Memory.read d (Memory.clearRange m a n) x = Memory.read d m x :=
  congrArg (Option.getD · d) ((Tbl.find?_filter (fun k => decide (k < a) || decide (a + n ≤ k)) m x).trans (if_pos (by simpa using h)))

theorem ConfigRecord.length_bytes (c : ConfigRecord) (bank3 : Nat) : (c.bytes bank3).length = 256 := by
  simp [ConfigRecord.bytes]

/-- From `u` to `v` the code store's configuration was written: the record, its page and the wear of its sector. -/
structure Stored (u v : Csu) : Prop where
  frame : v = { u with cfg := v.cfg, cfgPage := v.cfgPage, flash := v.flash, erases := v.erases }

namespace Stored

section
variable {u v : Csu} (h : Stored u v)
include h

theorem archive : v.archive = u.archive := by
  rw [h.frame]
  rfl

theorem fallback : v.fallback = u.fallback := (congrArg Csu.fallback h.frame :)

end

end Stored

namespace State

/-! ## Configuration records and take states -/

section
variable (s : State) (f : ConfigRecord → ConfigRecord) (st trials : Nat)

theorem cfg_writeConfig : (s.writeConfig f).csu.cfg = { f s.csu.cfg with seq := s.csu.cfg.seq + 1 } := rfl

theorem writeConfig_stored : Stored s.csu (s.writeConfig f).csu := by
  constructor
  unfold writeConfig
  dsimp only [modCsu]
  split <;> rfl

/-- A record is written to the sectors of the configuration alone. -/
theorem read_writeConfig_other {x : Nat} (h : 16384 * 56 ≤ x) : Memory.read 0xFF (s.writeConfig f).csu.flash x = Memory.read 0xFF s.csu.flash x := by
  unfold writeConfig
  dsimp only [modCsu]
  have page : (s.csu.cfgPage + 1) % 512 < 512 := Nat.mod_lt _ (by decide)
  generalize (s.csu.cfgPage + 1) % 512 = p at page
  rw [Memory.read_writeAll_other _ _ _ _ _ (.inr (by rw [ConfigRecord.length_bytes, flashAddr]; omega))]
  split
  · exact Memory.read_clearRange_other _ _ _ _ _ (.inr (by omega))
  · rfl

theorem csu_setTake : (s.setTake st trials).csu = (s.writeConfig fun c => { c with takeState := st, trials := trials }).csu := by
  simp [setTake]

theorem cfg_setTake : (s.setTake st trials).csu.cfg = { s.csu.cfg with takeState := st, trials := trials, seq := s.csu.cfg.seq + 1 } := by
  rw [csu_setTake]
  rfl

theorem setTake_stored : Stored s.csu (s.setTake st trials).csu := by
  rw [csu_setTake]
  exact writeConfig_stored s _

end

end State

/-! ## A take in banks 1 and 2 (R451) -/

section
variable (u : Csu) (t : List Byte)

/-- The take's bytes are in the banks, and a loader section goes to sectors 0 to 15 at most. -/
def Csu.banked : Csu :=
  { u with
    erases := (List.range 1024).foldl (fun e i => Tbl.put e (512 + i) (min 131071 (Tbl.getD e (512 + i) 0 + 1))) u.erases
    flash := Memory.writeAll 0xFF (Memory.clearRange u.flash (16384 * 512) (16384 * 1024)) (16384 * 512) t }

theorem Csu.programBanks_leaves {P : Csu → Prop} (banked : P (u.banked t)) (loader : ∀ v bs, P v → bs.length ≤ 262144 → P { v with flash := Memory.writeAll 0xFF v.flash 0 bs }) :
    P (u.programBanks t) := by
  unfold Csu.programBanks
  dsimp only
  split
  · refine List.foldlRecOn (motive := P) _ _ banked fun v h i _ => ?_
    split
    · exact loader v _ h (List.length_take_le _ _)
    · exact h
  · exact banked

theorem Csu.programBanks_cfg : (u.programBanks t).cfg = u.cfg := Csu.programBanks_leaves (P := fun v => v.cfg = u.cfg) u t rfl fun _ _ h _ => h

theorem Csu.read_programBanks {j : Nat} {b : Byte} (h : t[j]? = some b) : Memory.read 0xFF (u.programBanks t).flash (16384 * 512 + j) = b := by
  refine Csu.programBanks_leaves (P := fun v => Memory.read 0xFF v.flash (16384 * 512 + j) = b) u t ?_ fun v bs k len => ?_
  · obtain ⟨hj, rfl⟩ := List.getElem?_eq_some_iff.mp h
    exact Memory.read_writeAll_inside _ _ _ _ _ hj
  · exact (Memory.read_writeAll_other _ _ _ _ _ (.inr (by omega))).trans k

end

namespace State

section
variable (s : State) (t : List Byte) (st : Nat)

theorem csu_writeBanks : (s.writeBanks t st).csu =
    { ((((s.setTake 0 0).modCsu fun u => u.programBanks t).writeConfig fun c => { c with runningId := takeId t }).setTake st 0).csu with
      wp := (s.writeBanks t st).csu.wp } := rfl

theorem cfg_writeBanks : (s.writeBanks t st).csu.cfg = { s.csu.cfg with takeState := st, trials := 0, runningId := takeId t, seq := s.csu.cfg.seq + 3 } := by
  rw [csu_writeBanks, cfg_setTake, cfg_writeConfig]
  change { (s.setTake 0 0).csu.programBanks t |>.cfg with takeState := st, trials := 0, runningId := takeId t, seq := ((s.setTake 0 0).csu.programBanks t).cfg.seq + 1 + 1 } = _
  rw [Csu.programBanks_cfg, cfg_setTake]

/-- The banks hold the take. -/
theorem read_writeBanks {j : Nat} {b : Byte} (h : t[j]? = some b) : Memory.read 0xFF (s.writeBanks t st).csu.flash (16384 * 512 + j) = b := by
  rw [csu_writeBanks]
  change Memory.read 0xFF (setTake st 0 _).csu.flash _ = b
  rw [csu_setTake, read_writeConfig_other _ _ (by omega), read_writeConfig_other _ _ (by omega)]
  exact Csu.read_programBanks _ t h

end

end State

end Sys2Proof.Machine
end

section
/-! PROOFS. The rescue tasks (spec/04, R127 to R129, Tables 4.9 and 4.10): how a task starts, how each one ends, and O32. -/

namespace Sys2Proof.Machine

/-- The command that starts a rescue task. -/
def rescueInstr (seq : BitVec 8) : RescueTask → Instr
  | .ident => .rescueIdent seq
  | .load => .rescueLoad seq
  | .commit => .rescueCommit seq
  | .restore => .rescueRestore seq
  | .restart => .rescueRestart seq

theorem rescueInstr_of_any {i : Instr} {seq : BitVec 8}
    (h : i = .rescueIdent seq ∨ i = .rescueLoad seq ∨ i = .rescueCommit seq ∨ i = .rescueRestore seq ∨ i = .rescueRestart seq) : ∃ k, i = rescueInstr seq k := by
  obtain h | h | h | h | h := h
  · exact ⟨.ident, h⟩
  · exact ⟨.load, h⟩
  · exact ⟨.commit, h⟩
  · exact ⟨.restore, h⟩
  · exact ⟨.restart, h⟩

theorem rescueInstr_of_task {i : Instr} {seq : BitVec 8} {k : RescueTask}
    (h : i = .rescueLoad seq ∧ k = .load ∨ i = .rescueCommit seq ∧ k = .commit ∨ i = .rescueRestore seq ∧ k = .restore ∨ i = .rescueRestart seq ∧ k = .restart) :
    i = rescueInstr seq k ∧ k ≠ .ident := by
  obtain ⟨rfl, rfl⟩ | ⟨rfl, rfl⟩ | ⟨rfl, rfl⟩ | ⟨rfl, rfl⟩ := h <;> exact ⟨rfl, nofun⟩

theorem Memory.getElem?_readN (d : Byte) (m : List Host.Cell) (a : Nat) {i n : Nat} (h : i < n) : (Memory.readN d m a n)[i]? = some (Memory.read d m (a + i)) := by
  induction n generalizing a i with
  | zero => exact absurd h (Nat.not_lt_zero i)
  | succ n ih =>
    cases i with
    | zero => rfl
    | succ i => exact (ih (a + 1) (Nat.lt_of_succ_lt_succ h)).trans (by rw [Nat.add_right_comm]; rfl)

namespace State

section
variable {s : State} {k : RescueTask} {seq : BitVec 8}

theorem exec_rescue : exec (rescueInstr seq k) s = .next (s.rescueGo k seq) := by
  cases k <;> rfl

/-! ## The start of a task (R128, R129) -/

/-- The rescue interface is BUSY with the task. -/
def rescueBegun (s : State) (k : RescueTask) (seq : BitVec 8) : State :=
  (((s.sample 9).setFld Fld.QEN_RSC_CTL.TASK 0 (taskCode k)).setFld Fld.QEN_RSC_CTL.SEQ 0 seq.toNat).modQen fun q =>
    { q with rescue := { q.rescue with busy := true, seq := seq, task := some k } }

/-- The task opens a session, which holds the start. -/
def sessionOpened (s : State) : State :=
  ((if s.qen.rescue.session then s else s.trigger 0x08 UnitNo.qen 0 0).modQen fun q => { q with rescue := { q.rescue with session := true } }).modPower fun p =>
    { p with startKind := .held }

theorem rescueGo_ignored (h : s.qen.rescue.busy = true ∨ (s.qen.rescue.open_ = false ∧ s.power.stage ≠ .hall)) : s.rescueGo k seq = s := if_pos h

section
variable (idle : s.qen.rescue.busy = false) (may : s.qen.rescue.open_ = true ∨ s.power.stage = .hall)
include idle may

theorem rescueGo_begun : s.rescueGo k seq =
    if k = .ident ∨ ((s.rescueBegun k seq).taskRefusal k).isSome then s.rescueBegun k seq else (s.rescueBegun k seq).sessionOpened := by
  refine if_neg fun h => ?_
  obtain busy | ⟨closed, outside⟩ := h
  · exact absurd (idle.symm.trans busy) (by decide)
  · obtain here | hall := may
    · exact absurd (closed.symm.trans here) (by decide)
    · exact outside hall

/-- IDENT, and a task that is refused, only makes the interface BUSY. -/
theorem rescueGo_plain (plain : k = .ident ∨ ((s.rescueBegun k seq).taskRefusal k).isSome) : s.rescueGo k seq = s.rescueBegun k seq :=
  (rescueGo_begun idle may).trans (if_pos plain)

/-- A task other than IDENT that is accepted opens a session. -/
theorem rescueGo_accepted (task : k ≠ .ident) (accepted : (s.rescueBegun k seq).taskRefusal k = none) : s.rescueGo k seq = (s.rescueBegun k seq).sessionOpened :=
  (rescueGo_begun idle may).trans (if_neg (by simp [task, accepted]))

end

/-- A task other than IDENT is refused outside Stair (R127). -/
theorem taskRefusal_outside (task : k ≠ .ident) (stage : s.power.stage ≠ .stair) : s.taskRefusal k = some rscNotInStage := (if_neg task).trans (if_pos stage)

/-- Under a WELDED seal every task but IDENT and RESTART is refused (R442). -/
theorem taskRefusal_welded (task : k ≠ .ident) (other : k ≠ .restart) (stage : s.power.stage = .stair) (welded : s.csu.sealSt = 2) :
    s.taskRefusal k = some rscProtected :=
  (if_neg task).trans ((if_neg (by simp [stage])).trans (if_pos ⟨welded, other⟩))

theorem taskRefusal_accepted (stage : s.power.stage = .stair) (free : s.csu.sealSt ≠ 2 ∨ k = .restart) : s.taskRefusal k = none := by
  unfold taskRefusal
  split
  · rfl
  refine (if_neg (by simp [stage])).trans (if_neg fun h => ?_)
  obtain unsealed | restart := free
  · exact unsealed h.1
  · exact h.2 restart

theorem rescueBegun_qen : (s.rescueBegun k seq).qen = { s.qen with rescue := { s.qen.rescue with busy := true, seq := seq, task := some k } } := by
  simp [rescueBegun]

theorem rescueBegun_frame : s.rescueBegun k seq = { s.sample 9 with regf := (s.rescueBegun k seq).regf, qen := (s.rescueBegun k seq).qen } := rfl

theorem sessionOpened_qen : s.sessionOpened.qen = { s.qen with rescue := { s.qen.rescue with session := true } } := by
  unfold sessionOpened
  split <;> simp

theorem sessionOpened_power : s.sessionOpened.power = { s.power with startKind := .held } := by
  unfold sessionOpened
  split <;> simp

theorem sessionOpened_frame : s.sessionOpened = { s with power := s.sessionOpened.power, regf := s.sessionOpened.regf, qen := s.sessionOpened.qen, cru := s.sessionOpened.cru } := by
  have opened : Touch 8389168 s (if s.qen.rescue.session then s else s.trigger 0x08 UnitNo.qen 0 0) := by
    split
    · exact .refl _ s
    · exact trigger_touch _ _ _ _ s rfl (.refl _ s)
  exact (touch_modPower _ rfl (touch_modQen _ rfl opened)).eq_masked

/-- A task that opens a session holds the start (R129). -/
theorem rescueGo_opens (idle : s.qen.rescue.busy = false) (may : s.qen.rescue.open_ = true ∨ s.power.stage = .hall) (task : k ≠ .ident) (stage : s.power.stage = .stair)
    (free : s.csu.sealSt ≠ 2 ∨ k = .restart) :
    (s.rescueGo k seq).qen = { s.qen with rescue := { s.qen.rescue with busy := true, seq := seq, task := some k, session := true } } ∧
      (s.rescueGo k seq).power = { s.power with startKind := .held } ∧
      s.rescueGo k seq = { s.sample 9 with
        power := (s.rescueGo k seq).power, regf := (s.rescueGo k seq).regf, qen := (s.rescueGo k seq).qen, cru := (s.rescueGo k seq).cru } := by
  rw [rescueGo_accepted idle may task (taskRefusal_accepted (s := s.rescueBegun k seq) stage free)]
  exact ⟨sessionOpened_qen, sessionOpened_power, sessionOpened_frame⟩

end

/-! ## The end of a task (Table 4.10) -/

section
variable {s : State} {ok : Bool} {k : RescueTask} (running : s.qen.rescue.task = some k)
include running

theorem exec_rescueTaskEnd_refused {e : Nat} (refused : s.taskRefusal k = some e) : exec (.rescueTaskEnd ok) s = .next (s.taskEnd e 0 0) := by
  change execRescueTaskEnd ok s = _
  unfold execRescueTaskEnd
  simp only [running, refused]

end

section
variable {s : State} {ok : Bool}

theorem exec_rescueTaskEnd_idle (idle : s.qen.rescue.task = none) : exec (.rescueTaskEnd ok) s = .next s := by
  change execRescueTaskEnd ok s = _
  unfold execRescueTaskEnd
  simp only [idle]

theorem exec_rescueTaskEnd_ident (running : s.qen.rescue.task = some .ident) : exec (.rescueTaskEnd ok) s = .next (s.taskEnd rscOk s.identOuts.1 s.identOuts.2) := by
  have accepted : s.taskRefusal .ident = none := rfl
  change execRescueTaskEnd ok s = _
  unfold execRescueTaskEnd
  simp only [running, accepted]

variable (stage : s.power.stage = .stair) (free : s.csu.sealSt ≠ 2)
include stage free

theorem exec_rescueTaskEnd_load (running : s.qen.rescue.task = some .load) (aligned : s.fld Fld.QEN_RSC_ARG0.VALUE % 65536 = 0) (inside : s.fld Fld.QEN_RSC_ARG0.VALUE < 16777216)
    (some_ : s.fld Fld.QEN_RSC_ARG1.VALUE ≠ 0) (small : s.fld Fld.QEN_RSC_ARG1.VALUE ≤ 65536) :
    exec (.rescueTaskEnd ok) s = .next ((s.modQen fun q => { q with
      staging := Memory.writeAll 0 q.staging (s.fld Fld.QEN_RSC_ARG0.VALUE) (Memory.readN 0 q.rescue.window 0 (s.fld Fld.QEN_RSC_ARG1.VALUE))
      stagingLen := max q.stagingLen (s.fld Fld.QEN_RSC_ARG0.VALUE + s.fld Fld.QEN_RSC_ARG1.VALUE) }).taskEnd rscOk 0 0) := by
  change execRescueTaskEnd ok s = _
  unfold execRescueTaskEnd
  simp only [running, taskRefusal_accepted stage (.inl free)]
  exact if_neg (by omega)

theorem exec_rescueTaskEnd_commit (running : s.qen.rescue.task = some .commit) (some_ : s.fld Fld.QEN_RSC_ARG0.VALUE ≠ 0) (inside : s.fld Fld.QEN_RSC_ARG0.VALUE ≤ 16777216) :
    exec (.rescueTaskEnd ok) s =
      (if !s.csu.verifies (Memory.readN 0 s.qen.staging 0 (s.fld Fld.QEN_RSC_ARG0.VALUE)) then .next (s.taskEnd rscSigFail 1 0)
      else if !ok then .next (s.writeFailed.taskEnd rscStoreFail 0 0)
      else .next (((s.writeTake (Memory.readN 0 s.qen.staging 0 (s.fld Fld.QEN_RSC_ARG0.VALUE))).modQen Qen.dropStaged).taskEnd rscOk 0 0)) := by
  change execRescueTaskEnd ok s = _
  unfold execRescueTaskEnd
  simp only [running, taskRefusal_accepted stage (.inl free)]
  exact if_neg (by omega)

theorem exec_rescueTaskEnd_restore (running : s.qen.rescue.task = some .restore) (copy : s.fld Fld.QEN_RSC_ARG0.VALUE ≤ 1)
    (good : s.csu.verifies (s.csu.archCopy (s.fld Fld.QEN_RSC_ARG0.VALUE)) = true) :
    exec (.rescueTaskEnd true) s = .next ((s.writeBanks (s.csu.archCopy (s.fld Fld.QEN_RSC_ARG0.VALUE)) 3).taskEnd rscOk 0 0) := by
  change execRescueTaskEnd true s = _
  unfold execRescueTaskEnd
  simp only [running, taskRefusal_accepted stage (.inl free), good]
  exact if_neg (Nat.not_lt.mpr copy)

end

theorem exec_rescueTaskEnd_restart {s : State} {ok : Bool} (stage : s.power.stage = .stair) (running : s.qen.rescue.task = some .restart) :
    exec (.rescueTaskEnd ok) s = .next (((s.modQen fun q => { q with rescue := { q.rescue with session := false } }).modPower fun p =>
      { p with startKind := .undecided, mapRestored := false }).taskEnd rscOk 0 0) := by
  change execRescueTaskEnd ok s = _
  unfold execRescueTaskEnd
  simp only [running, taskRefusal_accepted stage (.inr rfl)]

/-! ## What the writes of a task leave -/

/-- The archiving of the running take changes the archive and its record alone. -/
theorem cfg_writeTake (s : State) (t : List Byte) : (s.writeTake t).csu.cfg.takeState = 1 ∧ (s.writeTake t).csu.cfg.runningId = takeId t := by
  unfold writeTake
  rw [cfg_writeBanks]
  exact ⟨rfl, rfl⟩

theorem cfg_writeFailed (s : State) : s.writeFailed.csu.cfg.takeState = 0 := by
  change (s.setTake 0 0).csu.cfg.takeState = 0
  rw [cfg_setTake]

theorem writeFailed_frame (s : State) : s.writeFailed = { s with regf := s.writeFailed.regf, csu := s.writeFailed.csu, cru := s.writeFailed.cru } :=
  (writeFailed_touch s (m := 10485792) rfl (.refl _ s)).eq_masked

theorem writeTake_frame (s : State) (t : List Byte) : s.writeTake t = { s with regf := (s.writeTake t).regf, csu := (s.writeTake t).csu, cru := (s.writeTake t).cru } :=
  (writeTake_touch t s (m := 10485792) rfl (.refl _ s)).eq_masked

theorem writeBanks_frame (s : State) (t : List Byte) (st : Nat) :
    s.writeBanks t st = { s with regf := (s.writeBanks t st).regf, csu := (s.writeBanks t st).csu, cru := (s.writeBanks t st).cru } :=
  (writeBanks_touch t st s (m := 10485792) rfl (.refl _ s)).eq_masked

/-- A state that is another one but for the queue engine and, in it, for the rescue interface. -/
theorem eq_of_rescue {t v w : State} (frame : v = w) (ends : t = { v with qen := { v.qen with rescue := t.qen.rescue } }) : t = { w with qen := { w.qen with rescue := t.qen.rescue } } :=
  ends.trans (congrArg (fun u : State => { u with qen := { u.qen with rescue := t.qen.rescue } }) frame)

/-- A state that is another one but for the queue engine. -/
theorem eq_of_qen {t v w : State} (frame : v = w) (ends : t = { v with qen := t.qen }) : t = { w with qen := t.qen } :=
  ends.trans (congrArg (fun u : State => { u with qen := t.qen }) frame)

/-- What a load brings into the staging area is the window's. -/
theorem read_loaded (staging window : List Host.Cell) (a : Nat) {i n : Nat} (h : i < n) :
    Memory.read 0 (Memory.writeAll 0 staging a (Memory.readN 0 window 0 n)) (a + i) = Memory.read 0 window i := by
  obtain ⟨hi, eq⟩ := List.getElem?_eq_some_iff.mp (Memory.getElem?_readN 0 window 0 h)
  rw [Memory.read_writeAll_inside _ _ _ _ _ hi, eq, Nat.zero_add]

end State

/-- Settles O32: a task starts and ends as the tests of `rescueGo` and of the task's end say, in their order. -/
theorem rescueTasksStartAndEndWithTheirResult : Obligations.RescueTasksStartAndEndWithTheirResult := by
  unfold Obligations.RescueTasksStartAndEndWithTheirResult
  refine ⟨fun s seq => ⟨?_, ?_, ?_, ?_, ?_⟩, fun s ok => ⟨?_, ?_, ?_, ?_, fun stage free => ⟨?_, ?_, ?_, ?_⟩⟩⟩
  · intro i hi busy
    obtain ⟨k, rfl⟩ := rescueInstr_of_any hi
    exact State.exec_rescue.trans (congrArg _ (State.rescueGo_ignored (.inl busy)))
  · intro idle may
    refine ⟨_, (State.exec_rescue (k := .ident)).trans (congrArg _ (State.rescueGo_plain idle may (.inl rfl))), State.rescueBegun_qen, State.rescueBegun_frame⟩
  · intro i hi closed outside
    obtain ⟨k, rfl⟩ := rescueInstr_of_any hi
    exact State.exec_rescue.trans (congrArg _ (State.rescueGo_ignored (.inr ⟨closed, outside⟩)))
  · intro i k hi idle hall
    obtain ⟨rfl, task⟩ := rescueInstr_of_task hi
    have refused : ((s.rescueBegun k seq).taskRefusal k).isSome := by
      rw [State.taskRefusal_outside (s := s.rescueBegun k seq) task (fun stair => absurd (hall.symm.trans stair) (by decide))]
      rfl
    exact ⟨_, State.exec_rescue.trans (congrArg _ (State.rescueGo_plain idle (.inr hall) (.inr refused))), State.rescueBegun_qen, State.rescueBegun_frame⟩
  · intro i k hi idle opened stage free
    obtain ⟨rfl, task⟩ := rescueInstr_of_task hi
    exact ⟨_, State.exec_rescue, State.rescueGo_opens idle (.inl opened) task stage free⟩
  · exact State.exec_rescueTaskEnd_idle
  · exact State.exec_rescueTaskEnd_ident
  · intro k running task stage
    exact State.exec_rescueTaskEnd_refused running (State.taskRefusal_outside task stage)
  · intro k running task other stage welded
    exact State.exec_rescueTaskEnd_refused running (State.taskRefusal_welded task other stage welded)
  · intro running aligned inside some_ small
    refine ⟨_, State.exec_rescueTaskEnd_load stage free running aligned inside some_ small, fun i hi => ?_, rfl, rfl⟩
    exact State.read_loaded s.qen.staging s.qen.rescue.window _ hi
  · intro running some_ inside
    have runs := State.exec_rescueTaskEnd_commit (ok := ok) stage free running some_ inside
    refine ⟨fun bad => ?_, fun good fails => ?_, fun good works => ?_⟩
    · exact ⟨_, runs.trans (if_pos (by rw [bad]; rfl)), rfl, rfl, rfl, rfl⟩
    · refine ⟨_, runs.trans ((if_neg (by rw [good]; decide)).trans (if_pos (by rw [fails]; rfl))), s.cfg_writeFailed, rfl, rfl, ?_⟩
      exact State.eq_of_rescue s.writeFailed_frame rfl
    · obtain ⟨state, id⟩ := s.cfg_writeTake (Memory.readN 0 s.qen.staging 0 (s.fld Fld.QEN_RSC_ARG0.VALUE))
      refine ⟨_, runs.trans ((if_neg (by rw [good]; decide)).trans (if_neg (by rw [works]; decide))), state, id, rfl, rfl, rfl, ?_⟩
      exact State.eq_of_qen (s.writeTake_frame _) rfl
  · rintro running copy good rfl
    have cfg := s.cfg_writeBanks (s.csu.archCopy (s.fld Fld.QEN_RSC_ARG0.VALUE)) 3
    refine ⟨_, State.exec_rescueTaskEnd_restore stage free running copy good, ?_, ?_, rfl, rfl, State.eq_of_qen (s.writeBanks_frame _ 3) rfl⟩
    · exact congrArg ConfigRecord.takeState cfg
    · exact congrArg ConfigRecord.runningId cfg
  · exact State.exec_rescueTaskEnd_restart stage

end Sys2Proof.Machine
end

section
/-! PROOFS. Firmware activation and fallback (spec/04, spec/16, R122, R123, R452 to R457): the notice of an activation, cuts that are planned, the fall back to the archive, and O31. -/

namespace Sys2Proof.Machine

/-! ## The notice of an activation (R122) -/

/-- Every controller is paused (CSTS.PP). -/
def Qen.Paused (q : Qen) : Prop := ∀ f k, Tbl.find? q.ctrls f = some k → k.pp = true

/-- The controller is paused. -/
def Controller.pause (k : Controller) : Controller := { k with pp := true }

theorem Qen.paused_setPp (q : Qen) : (q.setPp true).Paused := fun f k h => by
  have found : Tbl.find? (q.setPp true).ctrls f = (Tbl.find? q.ctrls f).map Controller.pause := Tbl.find?_map Controller.pause q.ctrls f
  obtain ⟨-, -, rfl⟩ := Option.map_eq_some_iff.mp (found.symm.trans h)
  rfl

/-- A change of a listed controller that keeps CSTS.PP. -/
theorem Qen.Paused.modCtrl {q : Qen} (h : q.Paused) {j : Nat} (listed : Tbl.has q.ctrls j = true) {f : Controller → Controller} (kept : ∀ k, (f k).pp = k.pp) :
    (q.modCtrl j f).Paused ∧ ∀ i, Tbl.has q.ctrls i = true → Tbl.has (q.modCtrl j f).ctrls i = true := by
  obtain ⟨x, hx⟩ := Tbl.find?_of_has listed
  have own : Tbl.find? (q.modCtrl j f).ctrls j = some (f x) := by
    rw [Qen.find?_modCtrl_same, Qen.ctrl, Tbl.getD, hx]
    rfl
  refine ⟨fun i k hk => ?_, fun i hi => ?_⟩
  · by_cases same : i = j
    · subst same
      obtain rfl := Option.some.inj (own.symm.trans hk)
      exact (kept x).trans (h i x hx)
    · exact h i k ((Qen.find?_modCtrl_other _ _ same).symm.trans hk)
  · by_cases same : i = j
    · subst same
      exact congrArg Option.isSome own
    · exact (congrArg Option.isSome (Qen.find?_modCtrl_other _ _ same)).trans hi

/-- From `q` to `r` paused controllers heard of events. -/
structure Noticed (q r : Qen) : Prop where
  paused : r.Paused
  listed : ∀ i, Tbl.has q.ctrls i = true → Tbl.has r.ctrls i = true
  frame : r = { q with ctxs := r.ctxs, ctrls := r.ctrls }

namespace State

theorem asyncEvent_noticed {s : State} {q : Qen} (h : Noticed q s.qen) {fn : Nat} (listed : Tbl.has q.ctrls fn = true) (e : AsyncEvent) :
    Noticed q (s.asyncEvent fn e).qen := by
  have frame : (s.asyncEvent fn e).qen = { q with ctxs := (s.asyncEvent fn e).qen.ctxs, ctrls := (s.asyncEvent fn e).qen.ctrls } := by
    rw [(asyncEvent_same s fn e).qen, h.frame]
  suffices paused : (s.asyncEvent fn e).qen.Paused ∧ ∀ i, Tbl.has s.qen.ctrls i = true → Tbl.has (s.asyncEvent fn e).qen.ctrls i = true from
    ⟨paused.1, fun i hi => paused.2 i (h.listed i hi), frame⟩
  unfold asyncEvent
  split
  · exact ⟨h.paused, fun _ hi => hi⟩
  · obtain ⟨queued, keeps⟩ := h.paused.modCtrl (h.listed fn listed) (f := fun k => { k with events := k.events ++ [e] }) fun _ => rfl
    unfold giveEvent
    split
    next e es _ _ _ _ =>
      obtain ⟨given, keeps'⟩ := queued.modCtrl (keeps fn (h.listed fn listed)) (f := fun k => { k with events := es, masked := e.ty :: k.masked }) fun _ => rfl
      exact ⟨given, fun i hi => keeps' i (keeps i hi)⟩
    · exact ⟨queued, keeps⟩

/-- An activation: fetching stops with the controllers paused, and they are told. -/
def activationBegun (s : State) (c : Option Nat) : State := s.modQen fun q => { q.setPp true with act := .draining, actTick := some s.now, actCtx := c }

theorem beginActivation_noticed (s : State) (c : Option Nat) : Noticed (s.activationBegun c).qen (s.beginActivation c).qen := by
  refine List.foldlRecOn (motive := fun t => Noticed (s.activationBegun c).qen (State.qen t)) _ _ ⟨s.qen.paused_setPp, fun _ hi => hi, rfl⟩ fun t h e he => ?_
  refine asyncEvent_noticed h ?_ _
  exact (mem_keys_iff _ _).mp (List.mem_map_of_mem (List.mem_filter.mp he).1)

theorem beginActivation_frame (s : State) (c : Option Nat) : s.beginActivation c = { s with qen := (s.beginActivation c).qen } :=
  (beginActivation_touch c s (m := 512) rfl (.refl _ s)).eq_masked

theorem beginActivation_drains (s : State) (c : Option Nat) :
    (s.beginActivation c).qen.act = .draining ∧ (s.beginActivation c).qen.actTick = some s.now ∧ (s.beginActivation c).qen.actCtx = c := by
  rw [(s.beginActivation_noticed c).frame]
  exact ⟨rfl, rfl, rfl⟩

/-! ## A cut that is planned (R422, R423, Table 15.2) -/

/-- The gap of a cut that begins now. -/
def cutGap (s : State) (cause : CutCause) : Gap := { start := s.now, cause := cause, loser := s.ccl.owner, solo := !s.standbyReady, before := s.obj Ob.CUT_COUNT }

theorem ccl_beginCut_planned {s : State} {cause : CutCause} (planned : cutPlanned cause = true) :
    (s.beginCut cause).ccl = { s.ccl with gap := some (s.cutGap cause), lastCut := some s.now, fence := some (s.ccl.owner, cause), planned := none } ∧
      (s.beginCut cause).fca = { s.fca with gapHeld := true } := by
  unfold beginCut
  simp only [planned, Bool.not_true, Bool.and_false, Bool.false_eq_true, if_false]
  exact ⟨rfl, rfl⟩

/-! ## Activation and its cut (R122, R123, R454) -/

theorem exec_activationDrainDone {s : State} (draining : s.qen.act = .draining) (drained : ∀ e ∈ s.qen.ctxs, e.2.idle = true ∨ s.qen.actCtx = some e.1)
    (whole : s.ccl.gap = none) :
    exec .activationDrainDone s = .next (if s.standbyReady then (s.modQen fun q => { q with act := .cut }).modCcl fun c => { c with planned := some .activation }
      else (s.modQen fun q => { q with act := .cut }).beginCut .activation) := by
  have all : (s.qen.ctxs.all fun e => e.2.idle || s.qen.actCtx == some e.1) = true := by simpa using drained
  have open_ : s.gapped = false := congrArg Option.isSome whole
  exact if_pos ⟨draining, all, open_⟩

/-- The result that ACT_RESULT reports (R454). -/
def actResult (s : State) : Nat := if s.csu.cfg.takeState ≠ 1 then 2 else if takeScript s.csu.bankTake ≠ s.csu.runScript then 4 else 1

/-- The deadline is cleared and the result reported. -/
def deadlineMet (s : State) : State := (s.setObj Ob.ACT_DEADLINE 0).setObj Ob.ACT_RESULT s.actResult

section
variable {s : State} (hall : s.power.stage = .hall) (set : s.obj Ob.ACT_DEADLINE ≠ 0) (met : s.obj Ob.ACT_DEADLINE ≤ s.tbu.fleet.toNat)
include hall set met

theorem exec_actDeadline_begins (may : s.csu.cfg.takeState = 1 ∧ takeScript s.csu.bankTake = s.csu.runScript ∧ s.qen.act = .none) :
    exec .actDeadline s = .next (s.deadlineMet.beginActivation none) := by
  obtain ⟨staged, script, idle⟩ := may
  have result : s.actResult = 1 := (if_neg (not_not.mpr staged)).trans (if_neg (not_not.mpr script))
  rw [deadlineMet, result]
  exact (if_pos ⟨set, met, hall⟩).trans ((if_neg (not_not.mpr staged)).trans ((if_neg (not_not.mpr script)).trans (congrArg Host.Outcome.next (if_pos idle))))

theorem exec_actDeadline_reports (not : ¬(s.csu.cfg.takeState = 1 ∧ takeScript s.csu.bankTake = s.csu.runScript ∧ s.qen.act = .none)) :
    exec .actDeadline s = .next s.deadlineMet := by
  change execActDeadline s = _
  unfold execActDeadline deadlineMet actResult
  refine (if_pos ⟨set, met, hall⟩).trans ?_
  split
  · rfl
  split
  · rfl
  next staged script => exact congrArg Host.Outcome.next (if_neg fun idle => not ⟨not_not.mp staged, not_not.mp script, idle⟩)

end

theorem dflt_actDeadline (s : State) : s.dflt Ob.ACT_DEADLINE Ob.ACT_DEADLINE.idx Ob.ACT_DEADLINE.sub = 0 := by simp [dflt, objDefault, Ob.ACT_DEADLINE]

theorem dflt_actResult (s : State) : s.dflt Ob.ACT_RESULT Ob.ACT_RESULT.idx Ob.ACT_RESULT.sub = 0 := by simp [dflt, objDefault, Ob.ACT_RESULT]

theorem dflt_fallbackCount (s : State) : s.dflt Ob.FALLBACK_COUNT Ob.FALLBACK_COUNT.idx Ob.FALLBACK_COUNT.sub = 0 := by simp [dflt, objDefault, Ob.FALLBACK_COUNT]

theorem deadlineMet_sheet (s : State) :
    Tbl.getD s.deadlineMet.sheet (sheetKey Ob.ACT_DEADLINE.idx Ob.ACT_DEADLINE.sub) 0 = 0 ∧
      Tbl.getD s.deadlineMet.sheet (sheetKey Ob.ACT_RESULT.idx Ob.ACT_RESULT.sub) 0 = s.actResult ∧
      ∀ k, k ≠ sheetKey Ob.ACT_DEADLINE.idx Ob.ACT_DEADLINE.sub → k ≠ sheetKey Ob.ACT_RESULT.idx Ob.ACT_RESULT.sub → Tbl.find? s.deadlineMet.sheet k = Tbl.find? s.sheet k := by
  have apart : sheetKey Ob.ACT_DEADLINE.idx Ob.ACT_DEADLINE.sub ≠ sheetKey Ob.ACT_RESULT.idx Ob.ACT_RESULT.sub := by decide
  refine ⟨?_, getD_setObj_same _ _ (dflt_actResult _), fun k deadline result => ?_⟩
  · exact (congrArg (Option.getD · 0) (find?_setObj_other _ _ _ apart)).trans (getD_setObj_same s 0 s.dflt_actDeadline)
  · exact (find?_setObj_other _ _ _ result).trans (find?_setObj_other _ _ _ deadline)

/-! ## The fall back (R452, R453, R457) -/

theorem sheet_countFallback (s : State) :
    Tbl.getD s.countFallback.sheet (sheetKey Ob.FALLBACK_COUNT.idx Ob.FALLBACK_COUNT.sub) 0 = min 0xFFFFFFFF (s.obj Ob.FALLBACK_COUNT + 1) := by
  have kept : s.countFallback.sheet = (s.setObj Ob.FALLBACK_COUNT (min 0xFFFFFFFF (s.obj Ob.FALLBACK_COUNT + 1))).sheet := by
    unfold countFallback
    simp
  rw [kept]
  exact getD_setObj_same s _ s.dflt_fallbackCount

/-- The archive is run and written to the banks; the fall back is counted. -/
def fallenBack (s : State) (t : List Byte) : State := ((s.writeBanks t 3).modCsu fun u => u.run t).countFallback

theorem exec_pendingTakeLimit {s : State} (pending : s.csu.cfg.takeState = 2) (stair : s.power.stage = .stair) (late : s.passedSome s.power.bootTick (secTicks 60 + msTicks s.hallBoundMs) = true) :
    exec .pendingTakeLimit s = .next (s.setTake 4 s.csu.cfg.trials).chooseArchive := by
  have rejected : (s.setTake 4 s.csu.cfg.trials).csu.cfg.takeState = 4 := congrArg ConfigRecord.takeState (cfg_setTake ..)
  change execPendingTakeLimit s = _
  unfold execPendingTakeLimit
  refine (if_pos ⟨pending, stair, late⟩).trans (congrArg Host.Outcome.next ?_)
  unfold chooseTake
  simp [rejected]

theorem csu_fallenBack (s : State) (t : List Byte) : (s.fallenBack t).csu = (s.writeBanks t 3).csu.run t := by simp [fallenBack]

theorem sheet_fallenBack (s : State) (t : List Byte) :
    Tbl.getD (s.fallenBack t).sheet (sheetKey Ob.FALLBACK_COUNT.idx Ob.FALLBACK_COUNT.sub) 0 = min 0xFFFFFFFF (s.obj Ob.FALLBACK_COUNT + 1) := by
  have obj : ((s.writeBanks t 3).modCsu fun u => u.run t).obj Ob.FALLBACK_COUNT = s.obj Ob.FALLBACK_COUNT := obj_congr (by simp) (by simp) _ 0 0
  rw [← obj]
  exact sheet_countFallback _

/-- The archive runs from the banks as CONFIRMED. -/
theorem fallenBack_leaves (s : State) (k : List Byte) : (s.fallenBack k).csu.cfg.takeState = 3 ∧ (s.fallenBack k).csu.cfg.runningId = takeId k ∧
    (s.fallenBack k).csu.runId = takeId k ∧ (∀ j b, k[j]? = some b → Memory.read 0xFF (s.fallenBack k).csu.flash (8388608 + j) = b) ∧
    (s.fallenBack k).power = s.power ∧ (s.fallenBack k).mxe = s.mxe ∧ (s.fallenBack k).tbu = s.tbu := by
  have cfg := s.cfg_writeBanks k 3
  rw [csu_fallenBack]
  refine ⟨congrArg ConfigRecord.takeState cfg, congrArg ConfigRecord.runningId cfg, rfl, fun j b hb => s.read_writeBanks k 3 hb, ?_⟩
  simp [fallenBack]

/-- A REJECTED take gives way to the archive. -/
theorem chooseArchive_falls {s : State} (rejected : s.csu.cfg.takeState = 4) {k : List Byte} (archived : s.csu.archive = some k) : s.chooseArchive = s.fallenBack k := by
  unfold chooseArchive
  simp [rejected, archived, fallenBack]

theorem chooseArchive_holds {s : State} (rejected : s.csu.cfg.takeState = 4) (none : s.csu.archive = none) : s.chooseArchive = s.modPower fun p => { p with startKind := .held } := by
  unfold chooseArchive
  simp [rejected, none]

/-- The take that was not confirmed is REJECTED, and its fall back drains. -/
def windowRejected (s : State) : State :=
  ((s.setTake 4 s.csu.cfg.trials).countFallback.modCsu fun u => { u with window := none, fallback := some .draining }).modQen fun q =>
    { q.setPp true with fetchStop := true }

/-- Without an archive the running take is CONFIRMED. -/
def windowConfirmed (s : State) : State := ((s.setTake 3 0).modCsu fun u => { u with window := none }).health Health.archiveLost UnitNo.csu

theorem exec_confirmWindowExpiry {s : State} (pending : s.csu.cfg.takeState = 2) (hall : s.power.stage = .hall)
    (late : s.passedSome s.csu.window (secTicks (s.obj Ob.CONFIRM_S)) = true) :
    exec .confirmWindowExpiry s = if s.csu.archive.isSome then .next s.windowRejected else .next s.windowConfirmed :=
  if_pos ⟨pending, hall, late⟩

theorem windowRejected_leaves (s : State) : s.windowRejected.csu.cfg.takeState = 4 ∧ s.windowRejected.csu.window = none ∧
    s.windowRejected.csu.fallback = some .draining ∧ s.windowRejected.qen.fetchStop = true ∧
    Tbl.getD s.windowRejected.sheet (sheetKey Ob.FALLBACK_COUNT.idx Ob.FALLBACK_COUNT.sub) 0 = min 0xFFFFFFFF (s.obj Ob.FALLBACK_COUNT + 1) ∧
    s.windowRejected.power = s.power ∧ s.windowRejected.mxe = s.mxe ∧ s.windowRejected.hlu = s.hlu := by
  let u := s.setTake 4 s.csu.cfg.trials
  have obj : u.obj Ob.FALLBACK_COUNT = s.obj Ob.FALLBACK_COUNT := obj_congr (by simp [u]) (by simp [u]) _ 0 0
  have csu : u.countFallback.csu = u.csu := by simp
  have state : u.csu.cfg.takeState = 4 := congrArg ConfigRecord.takeState (cfg_setTake ..)
  refine ⟨(congrArg (fun c : Csu => c.cfg.takeState) csu).trans state, rfl, rfl, rfl, obj ▸ u.sheet_countFallback, ?_⟩
  simp [windowRejected]

theorem windowConfirmed_leaves (s : State) : s.windowConfirmed.csu.cfg.takeState = 3 ∧ s.windowConfirmed.csu.window = none ∧
    s.windowConfirmed.csu.fallback = s.csu.fallback ∧ s.windowConfirmed.power = s.power ∧ s.windowConfirmed.mxe = s.mxe := by
  have csu : s.windowConfirmed.csu = { (s.setTake 3 0).csu with window := none } := by simp [windowConfirmed]
  have state : (s.setTake 3 0).csu.cfg.takeState = 3 := congrArg ConfigRecord.takeState (cfg_setTake ..)
  rw [csu]
  refine ⟨state, rfl, (setTake_stored s 3 0).fallback, ?_⟩
  simp [windowConfirmed]

/-- Both clusters restart for a fallback. -/
def rebooted (s : State) : State :=
  ((s.beginCut .fallback).modCsu fun u => { u with fallback := some .restarting }).modCcl fun c => { c with
    gap := c.gap.map fun g => { g with solo := true }, fence := none, stA := .reset, stB := .reset, leave := [.a, .b], epoch := c.epoch }

theorem exec_fallbackReboot {s : State} (draining : s.csu.fallback = some .draining) (drained : ∀ e ∈ s.qen.ctxs, e.2.idle = true) (whole : s.ccl.gap = none) :
    exec .fallbackReboot s = .next s.rebooted := by
  have all : (s.qen.ctxs.all fun e => e.2.idle) = true := List.all_eq_true.mpr drained
  have open_ : s.gapped = false := congrArg Option.isSome whole
  exact if_pos ⟨draining, all, open_⟩

/-- A state that is another one but for the power state. -/
theorem eq_of_power {t v w : State} (frame : v = w) (held : t = { v with power := t.power }) : t = { w with power := t.power } :=
  held.trans (congrArg (fun u : State => { u with power := t.power }) frame)

end State

/-- Settles O31: activations and fallbacks wait for the drain, then cut; a PENDING take that is late gives way to the archive, or stays. -/
theorem activationsDrainAndUnconfirmedTakesFallBack : Obligations.ActivationsDrainAndUnconfirmedTakesFallBack := by
  unfold Obligations.ActivationsDrainAndUnconfirmedTakesFallBack
  refine ⟨?_, ?_, ?_, ?_, ?_, ?_⟩
  · intro s hall idle staged script
    obtain ⟨act, tick, ctx⟩ := s.beginActivation_drains none
    exact ⟨_, if_pos ⟨hall, idle, staged, script⟩, act, tick, ctx, (s.beginActivation_noticed none).paused, s.beginActivation_frame none⟩
  · intro s draining drained whole
    have runs := State.exec_activationDrainDone draining drained whole
    refine ⟨fun ready => runs.trans (by rw [if_pos ready]; rfl), fun alone => ?_⟩
    let u := s.modQen fun q => { q with act := .cut }
    obtain ⟨ccl, fca⟩ := State.ccl_beginCut_planned (s := u) (cause := .activation) rfl
    refine ⟨u.beginCut .activation, u.cutGap .activation, runs.trans (by rw [if_neg (by rw [alone]; decide)]), by simp [u], ?_, rfl, rfl, rfl, ?_, ?_, fca, by simp [u], by simp [u]⟩
    · exact congrArg Ccl.gap ccl
    · exact congrArg Bool.not alone
    · exact (congrArg Ccl.epoch ccl :)
  · intro s hall set met
    obtain ⟨deadline, result, other⟩ := s.deadlineMet_sheet
    by_cases may : s.csu.cfg.takeState = 1 ∧ takeScript s.csu.bankTake = s.csu.runScript ∧ s.qen.act = .none
    · have frame := s.deadlineMet.beginActivation_frame none
      have sheet : (s.deadlineMet.beginActivation none).sheet = s.deadlineMet.sheet := (congrArg State.sheet frame :)
      refine ⟨_, State.exec_actDeadline_begins hall set met may, ?_, ?_, ?_, ?_, ?_⟩
      · rwa [sheet]
      · rwa [sheet]
      · rw [if_pos may]
        exact (s.deadlineMet.beginActivation_drains none).1
      · rwa [sheet]
      · rw [sheet]
        exact frame
    · exact ⟨_, State.exec_actDeadline_reports hall set met may, deadline, result, (if_neg may).symm, other, rfl⟩
  · intro s pending stair late
    have runs := State.exec_pendingTakeLimit pending stair late
    let u := s.setTake 4 s.csu.cfg.trials
    have rejected : u.csu.cfg.takeState = 4 := congrArg ConfigRecord.takeState (State.cfg_setTake ..)
    have archive : u.csu.archive = s.csu.archive := (State.setTake_stored s 4 s.csu.cfg.trials).archive
    refine ⟨fun k archived => ?_, fun bare => ?_⟩
    · have falls := State.chooseArchive_falls rejected (archive.trans archived)
      have obj : u.obj Ob.FALLBACK_COUNT = s.obj Ob.FALLBACK_COUNT := State.obj_congr (by simp [u]) (by simp [u]) _ 0 0
      obtain ⟨state, running, id, flash, power, mxe, tbu⟩ := u.fallenBack_leaves k
      exact ⟨u.fallenBack k, runs.trans (congrArg _ falls), state, running, id, flash, obj ▸ u.sheet_fallenBack k,
        power.trans (by simp [u]), mxe.trans (by simp [u]), tbu.trans (by simp [u])⟩
    · have holds := State.chooseArchive_holds rejected (archive.trans bare)
      have touch := State.setTake_touch 4 s.csu.cfg.trials s (m := 10485792) rfl (.refl _ s)
      refine ⟨u.modPower fun p => { p with startKind := .held }, runs.trans (congrArg _ holds), rejected, ?_, touch.sheet rfl, ?_⟩
      · exact congrArg (fun p : Power => { p with startKind := .held }) (touch.power rfl)
      · exact State.eq_of_power touch.eq_masked rfl
  · intro s pending hall late
    have runs := State.exec_confirmWindowExpiry pending hall late
    exact ⟨fun archived => ⟨_, runs.trans (if_pos archived), s.windowRejected_leaves⟩,
      fun bare => ⟨_, runs.trans (if_neg (by rw [bare]; decide)), s.windowConfirmed_leaves⟩⟩
  · intro s draining drained whole
    obtain ⟨ccl, -⟩ := State.ccl_beginCut_planned (s := s) (cause := .fallback) rfl
    refine ⟨_, { s.cutGap .fallback with solo := true }, State.exec_fallbackReboot draining drained whole, ?_, ?_, rfl, rfl, rfl, rfl, rfl, rfl, ?_, ?_, ?_, ?_, ?_⟩
    · simp [State.rebooted]
    · exact congrArg (fun c : Ccl => c.gap.map fun g => { g with solo := true }) ccl
    · exact (congrArg Ccl.epoch ccl :)
    all_goals simp [State.rebooted]

end Sys2Proof.Machine
end

section
/-! PROOFS. Namespace Attachment with an Asynchronous Event Request in the same context number (spec/05, R136): O27. -/

namespace Sys2Proof.Machine

namespace State

/-- A Namespace Attachment of namespace 1. -/
def attaching : Ctx := { (default : Ctx) with admin := true, state := .fetched, sqe := { (default : Sqe) with opcode := 0x15, nsid := 1 } }

/-- An Asynchronous Event Request that waits. -/
def listening : Ctx := { (default : Ctx) with admin := true, state := .fetched, accepted := true, sqe := { (default : Sqe) with opcode := 0x0C } }

/-- Namespace 1, attached to slice 0. -/
def attachedNs : Namespace := { (default : Namespace) with attached := true }

/-- In Hall, PF0 enabled with its namespace notices on, and a table of contexts that lists context 0 twice: first as the attachment, then as the request. -/
def twiceListed : State :=
  { State.reset with
    power := { Power.initial with stage := .hall }
    mxe := { Mxe.initial with nss := [(1, attachedNs)] }
    qen := { Qen.initial with ctxs := [(0, attaching), (0, listening)], ctrls := [(0, { Controller.initial with en := true, aenCfg := 256 })] } }

/-- What detaching the namespace leaves: the notice, given to context 0, is the result of both commands. -/
def noticed : State :=
  ((twiceListed.modMxe fun m => { m with nss := Tbl.put m.nss 1 { attachedNs with attached := false } }).nsChanged 0 1).finish 0 0

theorem exec_detach_twiceListed : exec (.namespaceAttachment 0 none) twiceListed = .next noticed := rfl

theorem result_noticed : (Tbl.find? noticed.qen.ctxs 0).map Ctx.result = some 0x40002 := by decide

end State

/-- Refutes O27: the statement allows a table of contexts in which a number stands twice. Where the second entry is an Asynchronous Event Request, the notice of the detached namespace (log entry 10) goes to the context of that number, and the Namespace Attachment there ends with the event as its result, where the statement keeps the result as it was. -/
theorem not_namespacesAreCreatedDeletedAndAttached : ¬ Obligations.NamespacesAreCreatedDeletedAndAttached := by
  unfold Obligations.NamespacesAreCreatedDeletedAndAttached
  rintro ⟨-, attachment, -⟩
  obtain ⟨t, run, ended, -⟩ := attachment State.twiceListed 0 State.attaching State.attachedNs _ none (by decide) rfl (by decide) rfl
  obtain rfl : State.noticed = t := Host.Outcome.next.inj (State.exec_detach_twiceListed.symm.trans run)
  have result := State.result_noticed
  rw [ended] at result
  exact absurd result (by decide)

end Sys2Proof.Machine
end

section
/-! PROOFS. Buckets and floors (spec/05, R141, R144): work that goes over the slices once and changes each by itself, what it leaves of every slice, and O37. -/

namespace Sys2Proof.Machine

theorem nodup_eraseDups : ∀ l : List Nat, l.eraseDups.Nodup
  | [] => .nil
  | a :: l => by
    rw [List.eraseDups_cons]
    refine List.nodup_cons.mpr ⟨?_, nodup_eraseDups _⟩
    simp [List.mem_eraseDups]
termination_by l => l.length
decreasing_by exact Nat.lt_succ_of_le (List.length_filter_le _ _)

theorem State.sliceIds_nodup (s : State) : s.sliceIds.Nodup := nodup_eraseDups _

/-- The state with other slices. -/
def State.withSlices (s : State) (l : List (Nat × SliceSt)) : State := { s with tnu := { s.tnu with slices := l } }

/-- Whatever slices stand in `s`, `step` changes the slice that it names by `g`, and nothing else. -/
structure ChangesSlice (s : State) (g : Nat → SliceSt → SliceSt) (step : State → Nat → State) : Prop where
  same : ∀ l n, (step (s.withSlices l) n).tnu.slice n = g n ((s.withSlices l).tnu.slice n)
  other : ∀ l n m, m ≠ n → (step (s.withSlices l) n).tnu.slice m = (s.withSlices l).tnu.slice m
  frame : ∀ l n, ∃ k, step (s.withSlices l) n = s.withSlices k

namespace ChangesSlice

variable {s : State} {g : Nat → SliceSt → SliceSt} {step : State → Nat → State} (h : ChangesSlice s g step)
include h

theorem foldl_frame (ns : List Nat) (l : List (Nat × SliceSt)) : ∃ k, ns.foldl step (s.withSlices l) = s.withSlices k := by
  induction ns generalizing l with
  | nil => exact ⟨l, rfl⟩
  | cons n ns ih =>
    obtain ⟨k, hk⟩ := h.frame l n
    rw [List.foldl_cons, hk]
    exact ih k

theorem foldl_other {ns : List Nat} {m : Nat} (out : m ∉ ns) (l : List (Nat × SliceSt)) :
    (ns.foldl step (s.withSlices l)).tnu.slice m = (s.withSlices l).tnu.slice m := by
  induction ns generalizing l with
  | nil => rfl
  | cons n ns ih =>
    obtain ⟨first, rest⟩ := not_or.mp (mt List.mem_cons.mpr out)
    obtain ⟨k, hk⟩ := h.frame l n
    rw [List.foldl_cons, ← h.other l n m first, hk]
    exact ih rest k

/-- Each slice that is named once is changed once. -/
theorem foldl_same {ns : List Nat} (once : ns.Nodup) {n : Nat} (hn : n ∈ ns) (l : List (Nat × SliceSt)) :
    (ns.foldl step (s.withSlices l)).tnu.slice n = g n ((s.withSlices l).tnu.slice n) := by
  induction ns generalizing l with
  | nil => exact absurd hn List.not_mem_nil
  | cons m ns ih =>
    obtain ⟨out, rest⟩ := List.nodup_cons.mp once
    obtain ⟨k, hk⟩ := h.frame l m
    rw [List.foldl_cons]
    obtain rfl | later := List.mem_cons.mp hn
    · rw [← h.same l n, hk]
      exact h.foldl_other out k
    · have apart : n ≠ m := fun e => out (e ▸ later)
      rw [← h.other l m n apart, hk]
      exact ih rest later k

/-- The work on every slice of a list without repetition, from `s` itself. -/
theorem foldl_all {ns : List Nat} (once : ns.Nodup) :
    (∀ n, n ∈ ns → (ns.foldl step s).tnu.slice n = g n (s.tnu.slice n)) ∧ (∀ n, n ∉ ns → (ns.foldl step s).tnu.slice n = s.tnu.slice n) ∧
      ∃ k, ns.foldl step s = s.withSlices k :=
  ⟨fun _ hn => h.foldl_same once hn s.tnu.slices, fun _ hn => h.foldl_other hn s.tnu.slices, h.foldl_frame ns s.tnu.slices⟩

end ChangesSlice

namespace State

/-- A slice after 1 µs of its ceilings (R141). -/
def refilled (s : State) (n : Nat) (x : SliceSt) : SliceSt :=
  { x with
    rd := refill x.rd (s.sliceObj Ob.RD_MBPS n) (s.sliceObj Ob.RD_MBPS n) (s.sliceObj Ob.RD_MBPS n * s.obj Ob.BURST_US)
    wr := refill x.wr (s.sliceObj Ob.WR_MBPS n) (s.sliceObj Ob.WR_MBPS n) (s.sliceObj Ob.WR_MBPS n * s.obj Ob.BURST_US)
    cmd := refill x.cmd (s.sliceObj Ob.CMD_KIOPS n) (s.sliceObj Ob.CMD_KIOPS n) (s.sliceObj Ob.CMD_KIOPS n * s.obj Ob.BURST_US) }

/-- A slice without a ceiling keeps its buckets. -/
theorem refilled_of_noCeiling {s : State} {n : Nat} (none : s.sliceObj Ob.RD_MBPS n = 0 ∧ s.sliceObj Ob.WR_MBPS n = 0 ∧ s.sliceObj Ob.CMD_KIOPS n = 0) (x : SliceSt) :
    s.refilled n x = x := by
  obtain ⟨rd, wr, cmd⟩ := none
  simp only [refilled, rd, wr, cmd, refill, if_true]

theorem refillSlice_changes (s : State) : ChangesSlice s s.refilled refillSlice := by
  have run : ∀ l n, (s.withSlices l).refillSlice n = if s.sliceObj Ob.RD_MBPS n = 0 ∧ s.sliceObj Ob.WR_MBPS n = 0 ∧ s.sliceObj Ob.CMD_KIOPS n = 0 then s.withSlices l
      else (s.withSlices l).modSlice n (s.refilled n) := fun _ _ => rfl
  refine ⟨fun l n => ?_, fun l n m apart => ?_, fun l n => ?_⟩
  all_goals
    rw [run]
    split
  · next none => exact (refilled_of_noCeiling none _).symm
  · exact slice_modSlice_same _ n _
  · rfl
  · exact slice_modSlice_other _ _ apart
  · exact ⟨l, rfl⟩
  · exact ⟨_, rfl⟩

/-- A slice as its floors' window ends and the next begins (R144). -/
def measured (s : State) (n : Nat) (x : SliceSt) : SliceSt :=
  { x with
    belowRd := decide (x.servedRd < 1000 * s.sliceObj Ob.RD_FLOOR n), belowWr := decide (x.servedWr < 1000 * s.writeFloor n)
    belowCmd := decide (x.servedCmd < s.sliceObj Ob.CMD_FLOOR n), servedRd := 0, servedWr := 0, servedCmd := 0 }

theorem floorSlice_changes (s : State) : ChangesSlice s s.measured floorSlice where
  same l n := slice_modSlice_same (s.withSlices l) n (s.measured n)
  other l n _ apart := slice_modSlice_other (s.withSlices l) (s.measured n) apart
  frame _ _ := ⟨_, rfl⟩

theorem slice_modTimers (s : State) (f : Timers → Timers) (n : Nat) : (s.modTimers f).tnu.slice n = s.tnu.slice n := rfl

theorem exec_tokenRefill {s : State} (due : s.passed s.timers.refill (usTicks 1) = true) :
    exec .tokenRefill s = .next ((s.sliceIds.foldl refillSlice s).modTimers fun t => { t with refill := t.refill + 800 }) := by
  change execTokenRefill s = _
  exact if_pos due

theorem exec_floorWindow {s : State} (due : s.passed s.timers.floor (msTicks 1) = true) :
    exec .floorWindow s = .next ((s.sliceIds.foldl floorSlice s).modTimers fun t => { t with floor := t.floor + 800000 }) := by
  change execFloorWindow s = _
  exact if_pos due

end State

/-- Settles O37: the refill and the measurement change each slice by itself, once. -/
theorem bucketsRefillAndFloorsAreMeasured : Obligations.BucketsRefillAndFloorsAreMeasured := by
  unfold Obligations.BucketsRefillAndFloorsAreMeasured
  refine ⟨fun s due => ?_, fun s due => ?_⟩
  · have runs := State.exec_tokenRefill due
    obtain ⟨named, others, k, frame⟩ := s.refillSlice_changes.foldl_all s.sliceIds_nodup
    generalize s.sliceIds.foldl State.refillSlice s = u at runs named others frame
    exact ⟨_, runs, by rw [frame]; rfl, fun n hn => (u.slice_modTimers _ n).trans (named n hn), fun n hn => (u.slice_modTimers _ n).trans (others n hn), by rw [frame]; rfl⟩
  · have runs := State.exec_floorWindow due
    obtain ⟨named, others, k, frame⟩ := s.floorSlice_changes.foldl_all s.sliceIds_nodup
    generalize s.sliceIds.foldl State.floorSlice s = u at runs named others frame
    exact ⟨_, runs, by rw [frame]; rfl, fun n hn => (u.slice_modTimers _ n).trans (named n hn), fun n hn => (u.slice_modTimers _ n).trans (others n hn), by rw [frame]; rfl⟩

end Sys2Proof.Machine
end

section
/-! PROOFS. Commits of a slice's staging set (spec/05, R135, R145): what an accepted commit, a refused one and a discard leave, Secondary Controller Assign, and O38. -/

namespace Sys2Proof.Machine

/-- A slice whose staging set is taken for the next tick, with the die groups that it gives up (R145). -/
def SliceSt.accept (groups : BitVec 64) (x : SliceSt) : SliceSt :=
  { x with
    commitSts := 0, applyNext := x.staged.foldl (fun v e => Tbl.put v e.1 e.2) x.applyNext, applying := true, staged := []
    removed := x.removed ||| groups }

/-- A staged value is taken back. -/
def SliceSt.unstage (sub : Nat) (x : SliceSt) : SliceSt := { x with staged := Tbl.del x.staged sub }

namespace State

section
variable {s : State} {n : Nat}

/-- An accepted commit: the slice's set waits for the next tick, and the NAND budget in force is noted (R144). -/
theorem commitSlice_accepts (ok : s.commitStatus n = 0) :
    s.commitSlice n = (s.modSlice n (SliceSt.accept (s.groupsRemoved n))).modTnu fun t => { t with commitBudget := s.dsc.budget } := if_pos ok

/-- A refused commit: its first failing status is reported. -/
theorem commitSlice_reports (refused : s.commitStatus n ≠ 0) : s.commitSlice n = s.modSlice n fun x => { x with commitSts := s.commitStatus n } := if_neg refused

/-- COMMIT_STS after a commit is the commit's status. -/
theorem commitSts_commitSlice : ((s.commitSlice n).tnu.slice n).commitSts = s.commitStatus n := by
  by_cases ok : s.commitStatus n = 0
  · rw [commitSlice_accepts ok, ok]
    exact congrArg SliceSt.commitSts (s.slice_modSlice_same n _)
  · rw [commitSlice_reports ok]
    exact congrArg SliceSt.commitSts (s.slice_modSlice_same n _)

theorem slice_commitSlice_other {m : Nat} (apart : m ≠ n) : (s.commitSlice n).tnu.slice m = s.tnu.slice m := by
  by_cases ok : s.commitStatus n = 0
  · rw [commitSlice_accepts ok]
    exact s.slice_modSlice_other _ apart
  · rw [commitSlice_reports ok]
    exact s.slice_modSlice_other _ apart

theorem commitSlice_frame : s.commitSlice n = { s with tnu := (s.commitSlice n).tnu } :=
  (commitSlice_touch n s (m := 1024) rfl (.refl _ s)).eq_masked

theorem commitStatus_of_empty (empty : (s.tnu.slice n).staged = []) : s.commitStatus n = 4 := if_pos empty

end

theorem commitStatus_sample (s : State) (k n : Nat) : (s.sample k).commitStatus n = s.commitStatus n := rfl

/-! ## Secondary Controller Assign (R135; log entry 49) -/

section
variable {s : State} {c sl : Nat} {x : Ctx} {o : Obj} (h : s.adminCtx c 0x1C = some x) (hall : s.power.stage = .hall) (assign : cdwBits x.sqe.cdw10 3 0 = 8)
  (object : (cdwBits x.sqe.cdw10 10 8 = 0 ∧ o = Ob.QCOUNT) ∨ (cdwBits x.sqe.cdw10 10 8 = 1 ∧ o = Ob.VEC_COUNT))
  (one : 1 ≤ cdwBits x.sqe.cdw10 31 16) (last : cdwBits x.sqe.cdw10 31 16 ≤ 63) (slice : s.functionSlice (cdwBits x.sqe.cdw10 31 16) = some sl)
include h hall assign object one last slice

/-- The value is staged and goes through the slice's commit; where that is refused, it leaves the set again. -/
theorem exec_virtualizationManagement :
    let u := s.modSlice sl fun y => { y with staged := Tbl.put y.staged o.sub (cdwBits x.sqe.cdw11 15 0) }
    exec (.virtualizationManagement c) s = .next (if u.commitStatus sl = 0 then (u.commitSlice sl).finish c 0
      else ((u.commitSlice sl).modSlice sl (SliceSt.unstage o.sub)).finish c stResources) := by
  intro u
  have kind : cdwBits x.sqe.cdw10 10 8 ≤ 1 ∧ o = if cdwBits x.sqe.cdw10 10 8 = 0 then Ob.QCOUNT else Ob.VEC_COUNT := by
    obtain ⟨kind, rfl⟩ | ⟨kind, rfl⟩ := object <;> rw [kind] <;> exact ⟨by decide, rfl⟩
  obtain ⟨small, rfl⟩ := kind
  change execVirtualizationManagement c s = _
  unfold execVirtualizationManagement
  refine (admin_hall h hall).trans (congrArg Host.Outcome.next ?_)
  refine (if_neg (by omega)).trans ((if_neg (by omega)).trans ?_)
  simp only [slice]
  rw [← commitSts_commitSlice]
  rfl

end

end State

/-- Settles O38: a commit by its status, a discard, and Secondary Controller Assign by the status of its commit. -/
theorem sliceCommitsApplyOrReport : Obligations.SliceCommitsApplyOrReport := by
  unfold Obligations.SliceCommitsApplyOrReport
  refine ⟨fun s n => ⟨fun ok => ?_, fun refused => ?_, State.commitStatus_of_empty, ?_⟩, ?_⟩
  · refine ⟨(s.sample 10).commitSlice n, rfl, ?_⟩
    rw [State.commitSlice_accepts ((s.commitStatus_sample 10 n).trans ok)]
    exact ⟨State.slice_modSlice_same _ n _, rfl, fun m apart => State.slice_modSlice_other _ _ apart, rfl⟩
  · refine ⟨(s.sample 10).commitSlice n, rfl, ?_⟩
    rw [State.commitSlice_reports (fun e => refused ((s.commitStatus_sample 10 n).symm.trans e))]
    exact ⟨State.slice_modSlice_same _ n _, fun m apart => State.slice_modSlice_other _ _ apart, rfl⟩
  · exact ⟨_, rfl, State.slice_modSlice_same _ n _, fun m apart => State.slice_modSlice_other _ _ apart, rfl⟩
  · intro s c sl x o h hall assign object one last slice u
    have runs := State.exec_virtualizationManagement h hall assign object one last slice
    have hx := (State.adminCtx_find h).1
    have staged : u.tnu.slice sl = { s.tnu.slice sl with staged := Tbl.put (s.tnu.slice sl).staged o.sub (cdwBits x.sqe.cdw11 15 0) } := s.slice_modSlice_same sl _
    have others : ∀ m, m ≠ sl → (u.commitSlice sl).tnu.slice m = s.tnu.slice m := fun m apart =>
      (State.slice_commitSlice_other apart).trans (s.slice_modSlice_other _ apart)
    have frame : u.commitSlice sl = { s with tnu := (u.commitSlice sl).tnu } := State.commitSlice_frame
    have ctxs : (u.commitSlice sl).qen.ctxs = s.qen.ctxs := (congrArg (fun t : State => t.qen.ctxs) frame :)
    refine ⟨fun ok => ?_, fun refused => ?_⟩
    · have own : (u.commitSlice sl).tnu.slice sl = SliceSt.accept (u.groupsRemoved sl) (u.tnu.slice sl) := by
        rw [State.commitSlice_accepts ok]
        exact u.slice_modSlice_same sl _
      rw [staged] at own
      exact ⟨_, runs.trans (congrArg _ (if_pos ok)), State.finish_after hx ctxs, congrArg SliceSt.applyNext own, congrArg SliceSt.applying own, others,
        State.finish_frame_of frame c 0⟩
    · have own : (u.commitSlice sl).tnu.slice sl = { u.tnu.slice sl with commitSts := u.commitStatus sl } := by
        rw [State.commitSlice_reports refused]
        exact u.slice_modSlice_same sl _
      rw [staged] at own
      refine ⟨_, runs.trans (congrArg _ (if_neg refused)), State.finish_after hx ctxs, ?_, fun m apart => ?_, ?_⟩
      · have after := (u.commitSlice sl).slice_modSlice_same sl (SliceSt.unstage o.sub)
        rw [own] at after
        exact (congrArg SliceSt.applying after :)
      · exact ((u.commitSlice sl).slice_modSlice_other (SliceSt.unstage o.sub) apart).trans (others m apart)
      · exact State.finish_frame_of (congrArg (State.modSlice sl (SliceSt.unstage o.sub)) frame) c stResources

end Sys2Proof.Machine
end

section
/-! PROOFS. The reset of a slice (spec/05, R155 to R157, R161): what its squash leaves of the units, what its end clears, the four commands, and O40. -/

namespace Sys2Proof.Machine

/-- A slice's own state after its reset event (R156). -/
def SliceSt.cleared (now : Dword) (late : Bool) (x : SliceSt) : SliceSt :=
  { x with
    quiesce := false, quiesced := false, commitSts := 0, staged := [], dlogTail := 0, dlogPhase := true, dlogWait := []
    reset := some (.clearing now late) }

namespace State

/-! ## The squash of a slice -/

/-- The reset event of a slice up to its squash: reads of its windows have ended, its staged units are gone. -/
def sliceSquashed (s : State) (n : Nat) : State := ((s.sample 4).galSliceReset n).squashWhere fun x => !x.admin && x.slice == n

section
variable (s : State) (n : Nat)

theorem sliceSquashed_squashed : Squashed s (s.sliceSquashed n) :=
  ((sample_aborted s 4).trans (galSliceReset_aborted _ n)).squashed.trans (squashWhere_squashed _ _)

theorem sliceSquashed_tbu : (s.sliceSquashed n).tbu = (s.sample 4).tbu := by simp [sliceSquashed]

theorem sliceSquashed_tnu : (s.sliceSquashed n).tnu = s.tnu := by simp [sliceSquashed]

theorem sliceSquashed_cdx : (s.sliceSquashed n).cdx = s.cdx := by simp [sliceSquashed]

/-- Of DRAM only the poison of the slice's windows goes (R161). -/
theorem sliceSquashed_dmc : (s.sliceSquashed n).dmc = { s.dmc with poisoned := (s.sliceSquashed n).dmc.poisoned } := by
  simp [sliceSquashed, galSliceReset, clearBursts]

/-- No unit of the slice is staged (R161). -/
theorem sliceSquashed_units : ∀ u ∈ (s.sliceSquashed n).gal.units ++ (s.sliceSquashed n).gal.ready, u.slice ≠ n := by
  intro u hu
  have kept : (s.sliceSquashed n).gal = ((s.sample 4).galSliceReset n).gal := by simp [sliceSquashed]
  rw [kept] at hu
  obtain staged | ready := List.mem_append.mp hu
  · exact bne_iff_ne.mp (List.mem_filter.mp staged).2
  · exact bne_iff_ne.mp (List.mem_filter.mp ready).2

end

/-! ## What the event clears -/

/-- The slice's tags are in quarantine, its queues are deleted, its VOLATILE objects hold their defaults (R156). -/
def wipeQueues (n : Nat) (u : State) : State :=
  ((u.quarantine fun t => t.slice == n).modQen fun q => q.dropQueues fun k _ sl => decide (k < 4096) && sl == n).clearSliceObjs n

/-- The key slots of the slice's namespaces and its part of the dirty log's filter are empty too (R156). -/
def wipeSlice (n : Nat) (u : State) : State :=
  let v := u.wipeQueues n
  let slots := (v.mxe.sliceNss n).map fun e => e.2.keySlot
  (v.modCdx fun k => { k with keys := k.keys.filter fun e => !slots.contains e.1 }).modTnu fun t => { t with filter := t.filter.filter fun e => e.1 != n }

/-- The end of the reset event of a slice, but for the flag of a drain that was too long. -/
def clearSlice (n : Nat) (late : Bool) (u : State) : State := (u.wipeSlice n).modSlice n (SliceSt.cleared (u.wipeSlice n).now late)

section
variable (u : State) (n : Nat) (late : Bool)

theorem mxe_wipeQueues : (u.wipeQueues n).mxe = u.mxe := by simp [wipeQueues]

theorem now_wipeSlice : (u.wipeSlice n).now = u.now := by simp [now, wipeSlice, wipeQueues]

theorem slice_wipeSlice (m : Nat) : (u.wipeSlice n).tnu.slice m = u.tnu.slice m := by
  have slices : (u.wipeSlice n).tnu.slices = u.tnu.slices := by simp [wipeSlice, wipeQueues]
  exact congrArg (Tbl.getD · m SliceSt.initial) slices

theorem slice_clearSlice_same : (u.clearSlice n late).tnu.slice n = (u.tnu.slice n).cleared u.now late := by
  rw [clearSlice, slice_modSlice_same, slice_wipeSlice, now_wipeSlice]

theorem slice_clearSlice_other {m : Nat} (apart : m ≠ n) : (u.clearSlice n late).tnu.slice m = u.tnu.slice m :=
  (slice_modSlice_other _ _ apart).trans (u.slice_wipeSlice n m)

theorem clearSlice_keeps : (u.clearSlice n late).tbu = u.tbu ∧ (u.clearSlice n late).gal = u.gal ∧ (u.clearSlice n late).mxe = u.mxe ∧ (u.clearSlice n late).dmc = u.dmc ∧
    (u.clearSlice n late).cdx = { u.cdx with keys := (u.clearSlice n late).cdx.keys } := by
  simp [clearSlice, wipeSlice, wipeQueues]

theorem filter_clearSlice : ∀ e ∈ (u.clearSlice n late).tnu.filter, e.1 ≠ n := fun _ he => bne_iff_ne.mp (List.mem_filter.mp he).2

/-- The slice has no I/O queue (R156). -/
theorem queues_clearSlice : (∀ e ∈ (u.clearSlice n late).qen.sqs, e.1 < 4096 → e.2.slice ≠ n) ∧ ∀ e ∈ (u.clearSlice n late).qen.cqs, e.1 < 4096 → e.2.slice ≠ n := by
  refine ⟨fun e he io own => ?_, fun e he io own => ?_⟩
  all_goals
    have kept := (List.mem_filter.mp he).2
    simp [io, own] at kept

theorem tags_clearSlice : ∀ e ∈ (u.clearSlice n late).hlu.tags, e.2.slice = n → e.2.phase ≠ .outstanding := fun e he own =>
  quarantine_tags (s := u) (p := fun t => t.slice == n) e he (beq_iff_eq.mpr own)

/-- The key slots of the slice's namespaces are empty (R156). -/
theorem keys_clearSlice : ∀ e ∈ u.mxe.nss, e.2.slice = n → Tbl.find? (u.clearSlice n late).cdx.keys e.2.keySlot = none := fun e he own => by
  have listed : e.2.keySlot ∈ ((u.wipeQueues n).mxe.sliceNss n).map fun e => e.2.keySlot := by
    rw [mxe_wipeQueues]
    exact List.mem_map.mpr ⟨e, List.mem_filter.mpr ⟨he, beq_iff_eq.mpr own⟩, rfl⟩
  refine (Tbl.find?_filter (fun k => !(((u.wipeQueues n).mxe.sliceNss n).map fun e => e.2.keySlot).contains k) _ e.2.keySlot).trans (if_neg ?_)
  simpa using listed

end

section
variable (s : State) (n : Nat) (late : Bool)

theorem resetSlice_eq : s.resetSlice n late = if late then ((s.sliceSquashed n).clearSlice n late).flag Fld.TNU_RST_STS.TIMED_OUT 0 1 else (s.sliceSquashed n).clearSlice n late := by
  unfold resetSlice clearSlice wipeSlice wipeQueues sliceSquashed
  dsimp only
  generalize State.squashWhere _ _ = u
  rfl

/-- The flag of a drain that was too long is all that the event writes beside `clearSlice`. -/
theorem resetSlice_clears : ∃ v r, v = (s.sliceSquashed n).clearSlice n late ∧ s.resetSlice n late = { v with regf := r } := by
  refine ⟨_, (s.resetSlice n late).regf, rfl, ?_⟩
  rw [resetSlice_eq]
  generalize (s.sliceSquashed n).clearSlice n late = v
  cases late <;> rfl

theorem resetSlice_flag (timedOut : late = true) : (s.resetSlice n late).fld Fld.TNU_RST_STS.TIMED_OUT = 1 := by
  rw [resetSlice_eq, if_pos timedOut]
  exact fld_flag_bit _ Fld.TNU_RST_STS.TIMED_OUT 0 rfl

/-- The state with the parts of another that the reset event of a slice may change. -/
def sliceResetAs (s t : State) : State :=
  { s.sample 4 with
    out := t.out, regf := t.regf, sheet := t.sheet, sheetOld := t.sheetOld, hlu := t.hlu, qen := t.qen, tnu := t.tnu, gal := t.gal, mxe := t.mxe
    cdx := { s.cdx with keys := t.cdx.keys }, bpm := t.bpm, dmc := { s.dmc with poisoned := t.dmc.poisoned }, ccl := t.ccl, mgp := t.mgp, cru := t.cru }

theorem resetSlice_frame : s.resetSlice n late = s.sliceResetAs (s.resetSlice n late) := by
  obtain ⟨v, r, clear, clears⟩ := s.resetSlice_clears n late
  obtain ⟨tbu, -, -, dmc, cdx⟩ := (s.sliceSquashed n).clearSlice_keeps n late
  rw [← clear, sliceSquashed_tbu] at tbu
  rw [← clear, sliceSquashed_dmc] at dmc
  rw [← clear, sliceSquashed_cdx] at cdx
  have touch := resetSlice_touch n late s (m := 14458857) rfl (.refl _ s)
  rw [clears] at touch ⊢
  refine touch.eq_masked.trans ?_
  unfold sliceResetAs
  rw [cdx, dmc, tbu]
  rfl

end

/-! ## The four commands -/

/-- A reset of the slice is asked for. -/
def noteReset (n : Nat) (r : SliceReset) (s : State) : State := (s.modSlice n fun x => { x with reset := some r }).modTnu fun t => { t with rstSlice := n }

theorem slice_noteReset_same (s : State) (n : Nat) (r : SliceReset) : (s.noteReset n r).tnu.slice n = { s.tnu.slice n with reset := some r } :=
  Tbl.getD_put_same _ _ _ _

theorem slice_noteReset_other (s : State) {n m : Nat} (r : SliceReset) (apart : m ≠ n) : (s.noteReset n r).tnu.slice m = s.tnu.slice m :=
  Tbl.getD_put_other _ _ _ apart

section
variable {s : State} {n : Nat}

theorem exec_sliceResetDrain (idle : (s.tnu.slice n).reset = none) : exec (.sliceResetDrain n) s = .next ((s.sample 10).noteReset n (.drain s.now)) := by
  have free : ((s.sample 10).tnu.slice n).reset.isNone = true := Option.isNone_iff_eq_none.mpr idle
  exact congrArg Host.Outcome.next (if_pos free)

/-- A squash request is noted, over a drain that runs too. -/
theorem exec_sliceResetSquash (notBegun : ∀ u b, (s.tnu.slice n).reset ≠ some (.clearing u b)) :
    exec (.sliceResetSquash n) s = .next ((s.sample 10).noteReset n (.squash s.now)) := by
  change Host.Outcome.next ((s.sample 10).requestSquash n) = _
  unfold requestSquash
  split
  · next u b clearing => exact absurd clearing (notBegun u b)
  · rfl

theorem exec_sliceReset_squash {u : Dword} (asked : (s.tnu.slice n).reset = some (.squash u)) (later : s.passed u 1 = true) :
    exec (.sliceReset n) s = .next (s.resetSlice n false) := by
  change execSliceReset n s = _
  unfold execSliceReset
  rw [asked]
  exact if_pos later

theorem exec_sliceReset_drain {u : Dword} (asked : (s.tnu.slice n).reset = some (.drain u)) (drained : s.qen.sliceAlloc n = 0) :
    exec (.sliceReset n) s = .next (s.resetSlice n false) := by
  change execSliceReset n s = _
  unfold execSliceReset
  rw [asked]
  exact if_pos drained

theorem exec_sliceDrainTimeout {u : Dword} (asked : (s.tnu.slice n).reset = some (.drain u)) (late : s.passed u (msTicks (s.obj Ob.DRAIN_MS)) = true) :
    exec (.sliceDrainTimeout n) s = .next (s.resetSlice n true) := by
  change execSliceDrainTimeout n s = _
  unfold execSliceDrainTimeout
  rw [asked]
  exact if_pos late

theorem exec_sliceResetDone {u : Dword} {b : Bool} (clearing : (s.tnu.slice n).reset = some (.clearing u b))
    (empty : ∀ e ∈ s.hlu.tags, ¬(e.2.slice = n ∧ e.2.phase = .quarantined)) (loaded : s.keysLoaded n = true) :
    exec (.sliceResetDone n) s = .next (((s.modSlice n fun x => { x with reset := none }).flag Fld.TNU_RST_STS.DONE 0 1).trigger 0x06 UnitNo.tnu n 0) := by
  have none : (s.hlu.tags.any fun t => t.2.slice == n && t.2.phase == .quarantined) = false := by simpa using empty
  change execSliceResetDone n s = _
  unfold execSliceResetDone
  rw [clearing]
  exact if_pos ⟨none, loaded⟩

end

end State

/-- Settles O40: the requests, the reset event by what its squash leaves and its end clears, and the end of the reset. -/
theorem sliceResetsClearTheSliceAlone : Obligations.SliceResetsClearTheSliceAlone := by
  unfold Obligations.SliceResetsClearTheSliceAlone
  refine ⟨fun s n idle => ?_, fun s n notBegun => ?_, fun s n i late cause => ?_, fun s n u b clearing empty loaded => ?_⟩
  · exact ⟨_, State.exec_sliceResetDrain idle, State.slice_noteReset_same _ n _, rfl, fun m apart => State.slice_noteReset_other _ _ apart, rfl⟩
  · exact ⟨_, State.exec_sliceResetSquash notBegun, State.slice_noteReset_same _ n _, rfl, fun m apart => State.slice_noteReset_other _ _ apart, rfl⟩
  · have run : exec i s = .next (s.resetSlice n late) := by
      obtain ⟨rfl, rfl, u, asked, later⟩ | ⟨rfl, rfl, drained, u, asked⟩ | ⟨rfl, rfl, u, asked, passed⟩ := cause
      · exact State.exec_sliceReset_squash asked later
      · exact State.exec_sliceReset_drain asked drained
      · exact State.exec_sliceDrainTimeout asked passed
    have frame := s.resetSlice_frame n late
    have flag := s.resetSlice_flag n late
    have gone := s.sliceSquashed_units n
    have squashed : Squashed s (s.sliceSquashed n) := s.sliceSquashed_squashed n
    have now : (s.sliceSquashed n).now = s.now := (congrArg Tbu.tick (s.sliceSquashed_tbu n) :)
    have tnu : (s.sliceSquashed n).tnu = s.tnu := s.sliceSquashed_tnu n
    obtain ⟨v, r, clear, clears⟩ := s.resetSlice_clears n late
    generalize s.resetSlice n late = t at run frame flag clears
    generalize s.sliceSquashed n = u at gone squashed now tnu clear
    have own : v.tnu.slice n = (s.tnu.slice n).cleared s.now late := by rw [clear, u.slice_clearSlice_same, now, tnu]
    have others : ∀ m, m ≠ n → v.tnu.slice m = s.tnu.slice m := fun m apart => by rw [clear, u.slice_clearSlice_other n late apart, tnu]
    have nss : u.mxe.nss = s.mxe.nss := (congrArg Mxe.nss squashed.mxe :)
    obtain ⟨-, gal, mxe, -, -⟩ := u.clearSlice_keeps n late
    rw [← clear] at gal mxe
    have filter := clear ▸ u.filter_clearSlice n late
    obtain ⟨sqs, cqs⟩ := clear ▸ u.queues_clearSlice n late
    have tags := clear ▸ u.tags_clearSlice n late
    have keys := clear ▸ nss ▸ u.keys_clearSlice n late
    rw [← gal] at gone
    have map : v.mxe.map = s.mxe.map := by rw [mxe, squashed.mxe]
    have writes : v.mxe.writes = s.mxe.writes := by rw [mxe, squashed.mxe]
    have nand : v.mxe.nand = s.mxe.nand := by rw [mxe, squashed.mxe]
    refine ⟨t, run, ?_⟩
    subst clears
    exact ⟨congrArg SliceSt.reset own, congrArg SliceSt.staged own, congrArg SliceSt.quiesce own, congrArg SliceSt.dlogTail own, congrArg SliceSt.dlogWait own,
      filter, others, sqs, cqs, tags, keys, gone, map, writes, nand, flag, frame⟩
  · let v := (s.modSlice n fun x => { x with reset := none }).flag Fld.TNU_RST_STS.DONE 0 1
    have kept : (v.trigger 0x06 UnitNo.tnu n 0).tnu = (s.modSlice n fun x => { x with reset := none }).tnu := by simp [v]
    refine ⟨v.trigger 0x06 UnitNo.tnu n 0, State.exec_sliceResetDone clearing empty loaded, ?_, ?_, fun m apart => ?_, ?_⟩
    · rw [kept]
      exact s.slice_modSlice_same n _
    · rw [State.fld_trigger _ _ _ _ _ _ _ (by decide) (by decide)]
      exact State.fld_flag_bit _ Fld.TNU_RST_STS.DONE 0 rfl
    · rw [kept]
      exact s.slice_modSlice_other _ apart
    · refine (State.trigger_touch 0x06 UnitNo.tnu n 0 v (m := 8388640) rfl (.refl _ v)).eq_masked.trans ?_
      rw [kept]
      rfl

end Sys2Proof.Machine
end

section
/-! PROOFS. What the Gallery still assembles stays incomplete: the operations that change its units, then the tick and every command (O59; R167). -/

namespace Sys2Proof.Machine

/-! ## Units that lack a piece -/

/-- No unit is complete: each lacks a piece (R167). -/
def Unfilled (units : List LbaUnit) : Prop := ∀ u ∈ units, u.mask ≠ BitVec.allOnes 64

@[simp] theorem unfilled_nil : Unfilled [] := fun _ h => nomatch h

@[simp] theorem unfilled_filter {units : List LbaUnit} (p : LbaUnit → Bool) (h : Unfilled units) : Unfilled (units.filter p) :=
  fun u hu => h u (List.mem_of_mem_filter hu)

@[simp] theorem unfilled_ite {c : Prop} [Decidable c] {us vs : List LbaUnit} (h : Unfilled us) (k : Unfilled vs) : Unfilled (if c then us else vs) := by
  split <;> assumption

/-- What R167 keeps of the units once the complete ones have left. -/
theorem unfilled_filter_incomplete (units : List LbaUnit) : Unfilled (units.filter fun u => !(u.mask == BitVec.allOnes 64)) :=
  fun u hu => by simpa using List.of_mem_filter hu

@[simp] theorem Gal.ite_units (c : Prop) [Decidable c] (g h : Gal) : (if c then g else h).units = if c then g.units else h.units := apply_ite Gal.units c g h

theorem unfilled_galIte {c : Prop} [Decidable c] {s t : State} (h : Unfilled s.gal.units) (k : Unfilled t.gal.units) :
    Unfilled (if c then s else t).gal.units := by
  split <;> assumption

theorem foldl_galUnits {α : Type} (f : State → α → State) (l : List α) (s : State) (h : ∀ t x, (f t x).gal.units = t.gal.units) :
    (l.foldl f s).gal.units = s.gal.units := by
  induction l generalizing s with
  | nil => rfl
  | cons a l ih => exact (ih _).trans (h s a)

theorem unfilled_foldl {α : Type} (f : State → α → State) (l : List α) (s : State) (h : ∀ t x, Unfilled t.gal.units → Unfilled (f t x).gal.units)
    (k : Unfilled s.gal.units) : Unfilled (l.foldl f s).gal.units := by
  induction l generalizing s with
  | nil => exact k
  | cons a l ih => exact ih _ (h s a k)

namespace State

/-! ## What leaves the units in assembly as they are -/

@[simp] theorem abortReads_galUnits (p : Nat → Bool) (s : State) : (s.abortReads p).gal.units = s.gal.units := by
  unfold abortReads
  simp

@[simp] theorem galError_galUnits (win : Option Nat) (bit : Nat) (s : State) : (s.galError win bit).gal.units = s.gal.units := by
  rw [galError_gal]

@[simp] theorem galRefuse_galUnits (win : Option Nat) (bit : Nat) (np : Bool) (s : State) : (s.galRefuse win bit np).gal.units = s.gal.units := by
  unfold galRefuse
  simp

@[simp] theorem galFault_galUnits (n : Nat) (s : State) : (s.galFault n).gal.units = s.gal.units := rfl

@[simp] theorem galPoison_galUnits (off : Nat) (s : State) : (s.galPoison off).gal.units = s.gal.units := by
  unfold galPoison
  dsimp only
  split <;> simp

@[simp] theorem stageWindow_galUnits (n k : Nat) (v : Word) (s : State) : (s.stageWindow n k v).gal.units = s.gal.units := rfl

@[simp] theorem winDiscard_galUnits (s : State) : s.winDiscard.gal.units = s.gal.units := rfl

@[simp] theorem galReload_galUnits (s : State) : s.galReload.gal.units = s.gal.units := by
  unfold galReload
  simp only [modGal_gal]

@[simp] theorem stageObj_galUnits (o : Obj) (index sub v : Nat) (s : State) : (s.stageObj o index sub v).gal.units = s.gal.units := by
  unfold stageObj
  split <;> simp

@[simp] theorem enterHall_galUnits (s : State) : s.enterHall.gal.units = s.gal.units := by
  unfold enterHall
  dsimp only
  split <;> simp

theorem galRead1_galUnits {r : PeerRead} {s t : State} (h : s.galRead1 r = some t) : t.gal.units = s.gal.units := by
  unfold galRead1 at h
  dsimp only at h
  split at h
  · cases h
    simp
  · split at h
    · obtain ⟨c, -, rfl⟩ := Option.map_eq_some_iff.mp h
      unfold galLbaRun
      simp
    · cases h

@[simp] theorem galReads_galUnits (k : Nat) (s : State) : (s.galReads k).gal.units = s.gal.units := by
  induction k generalizing s with
  | zero => rfl
  | succ k ih =>
    unfold galReads
    split
    · split
      next run => exact (ih _).trans (galRead1_galUnits run)
      next => rfl
    · rfl

@[simp] theorem galLbaRead_galUnits (n fn rel len : Nat) (s : State) : (s.galLbaRead n fn rel len).gal.units = s.gal.units := by
  unfold galLbaRead
  simp

theorem unitWrite_galUnits {u : LbaUnit} {s t : State} (h : s.unitWrite u = some t) : t.gal.units = s.gal.units := by
  unfold unitWrite at h
  split at h
  · cases h
  · split at h
    next taken =>
      have gal := (State.takeBufs_touch _ _ _ _ _ _ _ taken).gal rfl
      cases h
      simp [gal]
    · cases h

@[simp] theorem unitWrites_galUnits (k : Nat) (s : State) : (s.unitWrites k).gal.units = s.gal.units := by
  induction k generalizing s with
  | zero => rfl
  | succ k ih =>
    unfold unitWrites
    split
    · split
      next run => exact (ih _).trans (unitWrite_galUnits run)
      next => rfl
    · rfl

@[simp] theorem galFinish_galUnits (s : State) (e : Nat × Ctx) : (s.galFinish e).gal.units = s.gal.units := by
  unfold galFinish
  simp

@[simp] theorem galDone_galUnits (s : State) : s.galDone.gal.units = s.gal.units :=
  foldl_galUnits _ _ _ galFinish_galUnits

@[simp] theorem fenceSweep_galUnits (s : State) : s.fenceSweep.gal.units = s.gal.units := rfl

@[simp] theorem galTick_galUnits (s : State) : s.galTick.gal.units = s.gal.units := by
  unfold galTick
  simp

@[simp] theorem hostTick_galUnits (s : State) : s.hostTick.gal.units = s.gal.units := by
  unfold hostTick
  simp

/-! ## What adds pieces to units, and what drops units -/

@[simp] theorem unfilled_activateWins {s : State} (t : List (Nat × Window)) (aff : List Nat) (h : Unfilled s.gal.units) : Unfilled (s.activateWins t aff).gal.units := by
  unfold activateWins
  simp [h]

@[simp] theorem unfilled_winCommit {s : State} (h : Unfilled s.gal.units) : Unfilled s.winCommit.gal.units := by
  have active := unfilled_activateWins (s := s.sample 8) s.gal.staging (s.gal.affected s.gal.staging) h
  unfold winCommit
  dsimp only
  repeat' split
  · exact h
  · exact h
  · exact h
  · exact active

/-- R167: a piece goes to a unit in assembly, or begins one; a unit that it completes leaves assembly at once. -/
@[simp] theorem unfilled_writePiece {s : State} (n : Nat) (w : Window) (fn rel : Nat) (piece : List Byte) (h : Unfilled s.gal.units) :
    Unfilled (s.writePiece n w fn rel piece).gal.units := by
  unfold writePiece
  simp only [modGal_gal, Gal.ite_units]
  exact unfilled_ite h (unfilled_filter_incomplete _)

@[simp] theorem unfilled_writePieces {s : State} (n : Nat) (w : Window) (fn rel k : Nat) (bs : List Byte) (h : Unfilled s.gal.units) :
    Unfilled (s.writePieces n w fn rel k bs).gal.units := by
  induction k generalizing s rel bs with
  | zero => exact h
  | succ k ih => exact ih _ _ (unfilled_writePiece _ _ _ _ _ h)

@[simp] theorem unfilled_galStore {s : State} (n : Nat) (w : Window) (fn rel : Nat) (bs : List Byte) (h : Unfilled s.gal.units) :
    Unfilled (s.galStore n w fn rel bs).gal.units := by
  unfold galStore
  split
  · exact unfilled_writePieces _ _ _ _ _ _ h
  all_goals exact h

@[simp] theorem unfilled_galWrite {s : State} (n : Nat) (w : Window) (t : PeerTlp) (bs : List Byte) (h : Unfilled s.gal.units) :
    Unfilled (s.galWrite n w t bs).gal.units := by
  unfold galWrite
  split <;> simp [h]

@[simp] theorem unfilled_galWriteIn {s : State} (t : PeerTlp) (bs : List Byte) (h : Unfilled s.gal.units) : Unfilled (s.galWriteIn t bs).gal.units := by
  unfold galWriteIn
  repeat' split
  all_goals simp [h]

@[simp] theorem unfilled_galSliceReset {s : State} (n : Nat) (h : Unfilled s.gal.units) : Unfilled (s.galSliceReset n).gal.units := by
  unfold galSliceReset
  simp [h]

@[simp] theorem unfilled_resetSlice {s : State} (n : Nat) (late : Bool) (h : Unfilled s.gal.units) : Unfilled (s.resetSlice n late).gal.units := by
  have reset := unfilled_galSliceReset (s := s.sample 4) n h
  unfold resetSlice
  simp [reset]

@[simp] theorem unfilled_sliceHotReset {s : State} (n : Nat) (h : Unfilled s.gal.units) : Unfilled (s.sliceHotReset n).gal.units := by
  unfold sliceHotReset
  simp [h]

/-! ## Resets of class 1 to 3 (R179) -/

@[simp] theorem unitsReset_galUnits (class1 work : Bool) (s : State) : (s.unitsReset class1 work).gal.units = [] := by
  unfold unitsReset
  simp
  rfl

@[simp] theorem deviceReset_galUnits (n : Nat) (work : Bool) (s : State) : (s.deviceReset n work).gal.units = [] :=
  unitsReset_galUnits _ _ _

@[simp] theorem classThree_galUnits (s : State) : s.classThree.gal.units = [] := by
  unfold classThree
  simp

@[simp] theorem linkLost_galUnits (s : State) : s.linkLost.gal.units = [] := by
  unfold linkLost
  simp

@[simp] theorem dumpBegin_galUnits (thermal : Bool) (s : State) : (s.dumpBegin thermal).gal.units = [] := by
  unfold dumpBegin
  simp

@[simp] theorem powerOff_galUnits (s : State) : s.powerOff.gal.units = [] := by
  unfold powerOff
  simp

@[simp] theorem supplyLost_galUnits (s : State) : s.supplyLost.gal.units = [] := by
  unfold supplyLost
  simp

/-! ## Objects and registers (R175, R176): a write may be a window commit -/

@[simp] theorem unfilled_ranked {s t : State} (o : Obj) (index sub v inst : Nat) (h : Unfilled s.gal.units) (k : Unfilled t.gal.units) :
    Unfilled (s.ranked o index sub v inst t).gal.units := by
  unfold ranked
  dsimp only
  split
  · exact h
  · exact k

/-- An object's own effect (Table 6.4 has the window commit among them). -/
theorem unfilled_actObj {s t : State} {index sub v st : Nat} (h : Unfilled s.gal.units) (acts : s.actObj index sub v = some (st, t)) : Unfilled t.gal.units := by
  have qstate {a b c : Nat} {p : Bool} {u : State} (placed : s.writeQstate a b c p = some u) : Unfilled u.gal.units := by
    rwa [(writeQstate_touch a b c p s u placed).gal rfl]
  have grant : Unfilled (s.writeGrant v).2.gal.units := by rwa [(writeGrant_touch v s).gal rfl]
  unfold actObj at acts
  dsimp only at acts
  repeat' split at acts
  any_goals cases acts
  any_goals simp [h]
  case h_1 placed => exact qstate placed
  case h_6 => rwa [Option.some.inj acts] at grant

theorem unfilled_writeObj {s t : State} {o : Obj} {index sub v st : Nat} (h : Unfilled s.gal.units) (ends : s.writeObj o index sub v = .done st t) :
    Unfilled t.gal.units := by
  unfold writeObj at ends
  dsimp only at ends
  have sampled : Unfilled (if index = 0x2C00 ∧ sub = 0x02 ∧ v = 1 then s else s.sample 10).gal.units := by simp [h]
  generalize (if index = 0x2C00 ∧ sub = 0x02 ∧ v = 1 then s else s.sample 10) = u at sampled ends
  split at ends
  · cases ends
    exact h
  · split at ends
    next acts =>
      cases ends
      exact unfilled_actObj sampled acts
    next => 
      repeat' split at ends
      all_goals cases ends
      all_goals simp [sampled]

@[simp] theorem unfilled_serveObj {s : State} (cmd : Nat) (r : SheetRequest) (data : List Byte) (h : Unfilled s.gal.units) :
    Unfilled (s.serveObj cmd r data).gal.units := by
  unfold serveObj
  dsimp only
  repeat' split
  any_goals simp [h]
  case h_1.isTrue ends _ => exact unfilled_ranked _ _ _ _ _ h (unfilled_writeObj h ends)
  case h_1.isFalse ends _ => exact unfilled_writeObj h ends

@[simp] theorem unfilled_serveReq {s : State} (cmd : Nat) (r : SheetRequest) (data : List Byte) (h : Unfilled s.gal.units) :
    Unfilled (s.serveReq cmd r data).gal.units := by
  unfold serveReq
  repeat' split
  · exact h
  · simp [h]
  · simp [h]

@[simp] theorem unfilled_request {s : State} (cmd : Nat) (r : SheetRequest) (data : List Byte) (h : Unfilled s.gal.units) :
    Unfilled (s.request cmd r data).gal.units := by
  unfold request
  dsimp only
  repeat' split
  all_goals simp [h]

@[simp] theorem unfilled_serveHeld {s : State} (w : GapRequest) (h : Unfilled s.gal.units) : Unfilled (s.serveHeld w).gal.units := by
  unfold serveHeld
  repeat' split
  all_goals simp [h]

@[simp] theorem unfilled_serveWaiting {s : State} (h : Unfilled s.gal.units) : Unfilled s.serveWaiting.gal.units :=
  unfilled_foldl _ _ _ (fun _ w k => unfilled_serveHeld w k) h

@[simp] theorem unfilled_portGo {s : State} (p : Nat) (cluster : Cluster) (epoch : BitVec 8) (h : Unfilled s.gal.units) : Unfilled (s.portGo p cluster epoch).gal.units := by
  unfold portGo
  dsimp only
  repeat' split
  all_goals simp [h]

@[simp] theorem unfilled_regAct {s : State} (v : View) (epoch : BitVec 8) (addr : Nat) (w : Word) (h : Unfilled s.gal.units) :
    Unfilled (s.regAct v epoch addr w).gal.units := by
  unfold regAct
  dsimp only
  with_reducible repeat' refine unfilled_galIte ?_ ?_
  all_goals try simp [h]
  split <;> simp [h]

@[simp] theorem unfilled_writeReg {s : State} (v : View) (host : Bool) (epoch : BitVec 8) (addr : Nat) (w : Word) (be : BitVec 4) (h : Unfilled s.gal.units) :
    Unfilled (s.writeReg v host epoch addr w be).gal.units := by
  unfold writeReg
  repeat' split
  all_goals simp [h]

@[simp] theorem unfilled_hostWord {s : State} (who : Accessor) (fn bar addr : Nat) (w : Word) (be : BitVec 4) (h : Unfilled s.gal.units) :
    Unfilled (s.hostWord who fn bar addr w be).gal.units := by
  unfold hostWord
  repeat' split
  all_goals simp [h]

@[simp] theorem unfilled_firmwareWord {s : State} (who : Accessor) (epoch : BitVec 8) (addr : Nat) (w : Word) (h : Unfilled s.gal.units) :
    Unfilled (s.firmwareWord who epoch addr w).gal.units := by
  unfold firmwareWord
  split <;> simp [h]

@[simp] theorem unfilled_splitWord {s : State} (e : Accessor × Nat × Word) (h : Unfilled s.gal.units) : Unfilled (s.splitWord e).gal.units := by
  unfold splitWord
  split <;> simp [h]

@[simp] theorem unfilled_firmwareWrite {s : State} (k : Cluster) (pair : Nat) (epoch : BitVec 8) (addr size : Nat) (data : Dword) (h : Unfilled s.gal.units) :
    Unfilled (s.firmwareWrite k pair epoch addr size data).gal.units := by
  unfold firmwareWrite
  dsimp only
  repeat' split
  all_goals simp [h]

@[simp] theorem unfilled_hostWrite {s : State} (fn bar addr size : Nat) (data : Dword) (be : BitVec 8) (h : Unfilled s.gal.units) :
    Unfilled (s.hostWrite fn bar addr size data be).gal.units := by
  unfold hostWrite
  dsimp only
  repeat' split
  all_goals simp [h]

/-! ## The tick -/

@[simp] theorem unfilled_controlTick {s : State} (h : Unfilled s.gal.units) : Unfilled s.controlTick.gal.units := by
  have served := unfilled_serveWaiting (s := s.sealApply.applyStaged.scanTick.fallbackWrite.clusterTick) (by simp [h])
  unfold controlTick
  simp [served]

@[simp] theorem unfilled_tickWork {s : State} (rd : List (Accessor × Nat)) (wr : List (Accessor × Nat × Word)) (holdup : Bool) (h : Unfilled s.gal.units) :
    Unfilled (s.tickWork rd wr holdup).gal.units := by
  have read : Unfilled (rd.foldl (fun s e => s.readAt e.1 e.2) s).gal.units := by simp [h]
  have wrote := unfilled_foldl (fun s e => s.splitWord e) wr _ (fun _ e k => unfilled_splitWord e k) read
  unfold tickWork
  dsimp only
  generalize List.foldl _ _ wr = u at wrote
  have control := unfilled_controlTick (s := if holdup then u.humInvalidate else u) (by simp [wrote])
  simp [control]

theorem unfilled_tick {s : State} (h : Unfilled s.gal.units) : Unfilled s.tick.gal.units := by
  unfold tick
  dsimp only
  split
  · exact h
  · exact unfilled_tickWork _ _ _ (by simp [h])

end State

/-! ## What a command answers -/

/-- Where a command goes on, no unit in assembly is complete. -/
def Assembles (o : Out) : Prop := ∀ t, o = .next t → Unfilled t.gal.units

@[simp] theorem assembles_next {t : State} : Assembles (.next t) ↔ Unfilled t.gal.units :=
  ⟨fun h => h t rfl, fun h _ e => by cases e; exact h⟩

@[simp] theorem assembles_fault (f : Fault) : Assembles (.fault f) := fun _ e => nomatch e

@[simp] theorem assembles_ite {c : Prop} [Decidable c] {a b : Out} : Assembles (if c then a else b) ↔ (c → Assembles a) ∧ (¬c → Assembles b) := by
  split <;> simp [*]

/-- `State.modTimers_gal` as an equation that is rewritten and not unfolded: the kernel would compute the times of the timers. -/
theorem State.gal_modTimers (f : Timers → Timers) (s : State) : (s.modTimers f).gal = s.gal := by
  cases s
  rfl

@[simp] theorem foldl_emit_gal {α : Type} (f : α → Emission) (l : List α) (s : State) : (l.foldl (fun s x => s.emit (f x)) s).gal = s.gal :=
  foldl_gal _ _ _ fun _ _ => rfl

theorem State.ptrGo_gal {s : State} {c : Nat} {x : Ctx} {f : State → State} (k : ∀ t, (f t).gal = t.gal) : (s.ptrGo c x f).gal = s.gal := by
  unfold State.ptrGo
  repeat' split
  · simp
  · rfl
  · exact k s

theorem State.fwWrite_gal {s : State} {c : Nat} {ok : Bool} {take : List Byte} {f : State → State} (k : ∀ t, (f t).gal = t.gal) :
    (s.fwWrite c ok take f).gal = s.gal := by
  unfold State.fwWrite
  split <;> simp [k]

/-! ## Commands with a step of their own -/

section
variable {s : State} (h : Unfilled s.gal.units)
include h

@[simp] theorem State.admin_assembles {c : Nat} {op : BitVec 8} {b : Bool} {f : Ctx → State → State} (k : ∀ x, (f x s).gal = s.gal) :
    Assembles (s.admin c op b f) := by
  unfold State.admin
  repeat' split
  all_goals simp [h, k]

@[simp] theorem State.setFeature_assembles {c n : Nat} {f : Ctx → State → State} (k : ∀ x, (f x s).gal = s.gal) : Assembles (s.setFeature c n f) := by
  unfold State.setFeature
  repeat' split
  · exact State.admin_assembles h k
  all_goals exact assembles_next.mpr h

theorem State.fwCommit_assembles {c n : Nat} {f : Ctx → State → State} (k : ∀ x, (f x s).gal = s.gal) : Assembles (s.fwCommit c n f) := by
  unfold State.fwCommit
  repeat' split
  · exact State.admin_assembles h k
  all_goals exact assembles_next.mpr h

theorem State.sanitize_assembles {c n : Nat} {f : State → State} (k : ∀ t, (f t).gal = t.gal) : Assembles (s.sanitize c n f) := by
  unfold State.sanitize
  repeat' split
  · exact State.admin_assembles h fun x => by simp [k]
  all_goals exact assembles_next.mpr h

theorem State.onOwnNs_assembles {c : Nat} {x : Ctx} {f : Namespace → State → State} (k : ∀ n t, (f n t).gal = t.gal) : Assembles (.next (s.onOwnNs c x f)) := by
  unfold State.onOwnNs
  split <;> simp [h, k]

theorem execRead_assembles (c : Nat) : Assembles (execRead c s) := by
  unfold execRead
  split
  · exact State.onOwnNs_assembles h fun n t => by simp
  · simp [h]

theorem execWrite_assembles (c : Nat) (pi : PiCheck) : Assembles (execWrite c pi s) := by
  unfold execWrite
  split
  · exact State.onOwnNs_assembles h fun n t => by simp
  · simp [h]

theorem execSequencePoint_assembles (c : Nat) : Assembles (execSequencePoint c s) := by
  unfold execSequencePoint
  split
  · exact State.onOwnNs_assembles h fun n t => by simp
  · simp [h]

theorem execWriteZeroes_assembles (c : Nat) : Assembles (execWriteZeroes c s) := by
  unfold execWriteZeroes
  split
  · exact State.onOwnNs_assembles h fun n t => by simp
  · simp [h]

theorem execDatasetManagement_assembles (c : Nat) (l : Bool) : Assembles (execDatasetManagement c l s) := by
  unfold execDatasetManagement
  split
  · exact State.onOwnNs_assembles h fun n t => by simp
  · simp [h]

theorem execNonopEntryComplete_assembles : Assembles (execNonopEntryComplete s) := by
  unfold execNonopEntryComplete
  split
  next r _ => cases r.ctx <;> simp [h]
  next => simp [h]

theorem execQstateWrite_assembles (a b z : Nat) (ph : Bool) : Assembles (execQstateWrite a b z ph s) := by
  unfold execQstateWrite
  cases placed : (s.sample 10).writeQstate a b z ph with
  | none => exact assembles_next.mpr h
  | some t =>
    have gal := (State.writeQstate_touch _ _ _ _ _ _ placed).gal rfl
    simp [gal, h]

theorem execJournalPageWrite_assembles : Assembles (execJournalPageWrite s) := by
  unfold execJournalPageWrite
  split
  · split
    next t n placed =>
      have gal := (State.sysBandFor_touch _ _ _ _ _ _ placed).gal rfl
      simp [gal, h]
    next => simp [h]
  · simp [h]

theorem execSegmentWriteback_assembles (nsid seg : Nat) (loc : Loc) : Assembles (execSegmentWriteback nsid seg loc s) := by
  unfold execSegmentWriteback
  split
  · split
    next t l wrote =>
      have gal := (State.sysWrite_touch _ _ _ _ wrote).gal rfl
      simp [gal, h]
    next => simp [h]
  · simp [h]

theorem execDirectoryCheckpoint_assembles : Assembles (execDirectoryCheckpoint s) := by
  unfold execDirectoryCheckpoint
  split
  · split
    next t l wrote =>
      have gal := (State.sysWrite_touch _ _ _ _ wrote).gal rfl
      simp [gal, h]
    next => simp [h]
  · simp [h]

theorem execRebuildPhase2_assembles : Assembles (execRebuildPhase2 s) := by
  unfold execRebuildPhase2
  dsimp only
  split
  · generalize marked : List.foldl _ s _ = u
    have gal : u.gal = s.gal := marked ▸ foldl_gal _ _ _ fun _ _ => rfl
    split <;> simp [gal, h]
  · simp [h]

theorem execRebudget_assembles : Assembles (execRebudget s) := by
  unfold execRebudget
  dsimp only
  split
  · rw [assembles_next, State.modQen_gal, foldl_gal (fun u c => u.finish c 0) _ _ fun _ _ => rfl, State.modTimers_gal, State.modDsc_gal]
    repeat' split
    all_goals simp [h]
  · simp [h]

theorem execAuxPowerLoss_assembles : Assembles (execAuxPowerLoss s) := by
  unfold execAuxPowerLoss
  dsimp only
  repeat' split
  all_goals simp [h]

theorem execHotReset_assembles : Assembles (execHotReset s) := by
  have slices (u : State) (k : Unfilled u.gal.units) (l : List Nat) : Unfilled (l.foldl State.sliceHotReset ((u.sample 4).abortReads fun _ => true)).gal.units :=
    unfilled_foldl _ _ _ (fun _ n k => State.unfilled_sliceHotReset n k) (by simpa using k)
  unfold execHotReset
  dsimp only
  repeat' split
  · simp [slices (s.modQen Qen.dropActivation) h]
  · simp [slices s h]
  · simp [h]

theorem execFlr_assembles (fn : Nat) : Assembles (execFlr fn s) := by
  have slices (u : State) (k : Unfilled u.gal.units) (l : List Nat) : Unfilled (l.foldl (fun s n => s.resetSlice n false) (u.sample 4)).gal.units :=
    unfilled_foldl _ _ _ (fun _ n k => State.unfilled_resetSlice n false k) k
  unfold execFlr
  dsimp only
  split
  · simp [slices (s.modQen Qen.dropActivation) h]
  · simp [slices s h]

theorem execPowerUp_assembles : Assembles (execPowerUp s) := by
  unfold execPowerUp
  split
  · simp [h]
  · simp [h]

theorem execAbort_assembles (c : Nat) : Assembles (execAbort c s) := by
  refine State.admin_assembles h fun x => ?_
  dsimp only
  repeat' split
  all_goals simp

theorem execSetFeaturesPowerManagement_assembles (c : Nat) : Assembles (execSetFeaturesPowerManagement c s) := by
  unfold execSetFeaturesPowerManagement
  repeat' split
  · exact State.setFeature_assembles h fun x => State.ptrGo_gal fun t => by simp
  · refine State.setFeature_assembles h fun x => ?_
    split <;> simp
  all_goals simp [h]

theorem execFirmwareCommitReplace_assembles (run : CommitRun) : Assembles (execFirmwareCommitReplace run s) := by
  refine State.fwCommit_assembles h fun x => ?_
  repeat' split
  · rfl
  · rfl
  · exact State.fwWrite_gal fun t => rfl
  · rfl

theorem execFirmwareCommitNextReset_assembles (run : CommitRun) : Assembles (execFirmwareCommitNextReset run s) := by
  refine State.fwCommit_assembles h fun x => ?_
  repeat' split
  case h_1 => exact State.fwWrite_gal fun t => rfl
  all_goals rfl

theorem execFirmwareCommitActivate_assembles (run : CommitRun) : Assembles (execFirmwareCommitActivate run s) := by
  refine State.fwCommit_assembles h fun x => ?_
  repeat' split
  · rfl
  · rfl
  · simp
  · rfl
  · exact State.fwWrite_gal fun t => by simp
  · exact State.fwWrite_gal fun t => by simp
  · rfl
  · rfl

theorem execLinkTraining_assembles (rate width : Nat) (flit : Bool) (lanes : BitVec 16) (failOnce failTwice : List Nat) :
    Assembles (execLinkTraining rate width flit lanes failOnce failTwice s) := by
  unfold execLinkTraining
  split
  · simp [h]
  · split
    · simp [h]
    · simp [apply_ite State.gal, h]

theorem execChannelRetrain_assembles (ch ce : Nat) (found : TrainFound) : Assembles (execChannelRetrain ch ce found s) := by
  unfold execChannelRetrain
  split
  · simp [h]
  · simp [h]

theorem execWindowSlide_assembles : Assembles (execWindowSlide s) := by
  unfold execWindowSlide
  split
  · simp [h]
  · simp [h]
  · simp [h]

end

/-! ## Every command, and the step -/

/-- Every command keeps the units in assembly incomplete: first the commands above, then those that look something up, set a timer or call operations under conditions. -/
theorem exec_assembles {s : State} (h : Unfilled s.gal.units) (c : Instr) : Assembles (exec c s) := by
  cases c
  case auxPowerLoss => exact execAuxPowerLoss_assembles h
  case powerUp => exact execPowerUp_assembles h
  case hotReset => exact execHotReset_assembles h
  case flr => exact execFlr_assembles h _
  case sequencePoint => exact execSequencePoint_assembles h _
  case read => exact execRead_assembles h _
  case write => exact execWrite_assembles h _ _
  case writeZeroes => exact execWriteZeroes_assembles h _
  case datasetManagement => exact execDatasetManagement_assembles h _ _
  case abort => exact execAbort_assembles h _
  case setFeaturesPowerManagement => exact execSetFeaturesPowerManagement_assembles h _
  case firmwareCommitReplace => exact execFirmwareCommitReplace_assembles h _
  case firmwareCommitNextReset => exact execFirmwareCommitNextReset_assembles h _
  case firmwareCommitActivate => exact execFirmwareCommitActivate_assembles h _
  case nonopEntryComplete => exact execNonopEntryComplete_assembles h
  case qstateWrite => exact execQstateWrite_assembles h _ _ _ _
  case journalPageWrite => exact execJournalPageWrite_assembles h
  case segmentWriteback => exact execSegmentWriteback_assembles h _ _ _
  case directoryCheckpoint => exact execDirectoryCheckpoint_assembles h
  case rebudget => exact execRebudget_assembles h
  case rebuildPhase2 => exact execRebuildPhase2_assembles h
  case linkTraining => exact execLinkTraining_assembles h _ _ _ _ _ _
  case channelRetrain => exact execChannelRetrain_assembles h _ _ _
  case windowSlide => exact execWindowSlide_assembles h
  case sanitizeBlockErase => exact State.sanitize_assembles h fun t => by simp
  case sanitizeCryptoErase => exact State.sanitize_assembles h fun t => by simp
  case setFeaturesArbitration | setFeaturesVolatileWriteCache | setFeaturesInterruptCoalescing | setFeaturesCriticalWarnings =>
    exact State.setFeature_assembles h fun x => by rfl
  case
    deleteIoSubmissionQueue | createIoSubmissionQueue | deleteIoCompletionQueue | createIoCompletionQueue | identify | getLogPage | getFeatures |
    namespaceAttachment | virtualizationManagement =>
    simp only [exec,
      execDeleteIoSubmissionQueue, execCreateIoSubmissionQueue, execDeleteIoCompletionQueue, execCreateIoCompletionQueue, execIdentify,
      execGetLogPage, execGetFeatures, execNamespaceAttachment, execVirtualizationManagement]
    refine State.admin_assembles h fun x => ?_
    repeat' split
    all_goals simp
  case
    tokenRefill | floorWindow | junctionSensorRead | zqCalibration | thetaUpdate | thetaStore | wearUpdate | energyEstimate | rowTableClear |
    dramZqCalibration | powerOnSecondsStore =>
    simp only [exec,
      execTokenRefill, execFloorWindow, execJunctionSensorRead, execZqCalibration, execThetaUpdate, execThetaStore, execWearUpdate,
      execEnergyEstimate, execRowTableClear, execDramZqCalibration, execPowerOnSecondsStore]
    split <;> simp [-State.modTimers_gal, State.gal_modTimers, h]
  all_goals
    simp only [exec,
      execRegisterWrite, execRcFieldRead, execLoRegisterRead, execAuxPowerUp, execSupplyLoss, execDumpWaitExpiry, execJournalFreeze,
      execDumpHeaderGood, execRailAbortLevel, execSupplyRestoreStart, execThermalTrip, execThermalTripRelease, execPerstNAssert, execPerstNRelease,
      execConfigurationSpaceReady, execConfigurationRequest, execBootRomStart, execAdminSubsetOpen, execStartDecision, execHallEntry, execLinkDown,
      execNvmSubsystemReset, execFlrComplete, execTagQuarantineExpiry, execCompletionReceived, execCompletionTimeout, execTimeoutTagRelease,
      execInboundErrorTlp, execAtsInvalidate, execTranslationCompletion, execL0pNarrow, execL0pWiden, execL1Entry, execL1Exit, execPtmDialog,
      execBusMasterEnableClear, execBusMasterEnableSet, execDoorbellWrite, execSqEntryFetch, execFetchAgePromotion, execPostingDecision, execFlush,
      execInvalidCommandOpcode, execSetFeaturesHctm, execAsynchronousEventRequest, execNamespaceManagement, execFirmwareImageDownload,
      execFirmwareActivation, execActivationDrainDone, execFormatNvm, execControllerEnable, execControllerReset, execShutdownNotification,
      execAutonomousPsTransition, execNonopExitComplete, execRescueIdent, execRescueLoad, execRescueCommit, execRescueRestore, execRescueRestart,
      execRescueTaskEnd, execSliceCommit, execSliceDiscard, execSliceQuiesce, execSliceQuiesced, execSliceUnquiesce, execDlogHeadWrite,
      execDlogEpochWrite, execSliceResetDrain, execSliceResetSquash, execSliceDrainTimeout, execSliceReset, execSliceResetDone, execGalleryWrite,
      execGalleryRead, execFence, execFenceCompletion, execWinCommit, execWinDiscard, execWindowSetActivate, execWindowCommitTimeout,
      execRtPanicAssert, execRtPanicRelease, execMapCommit, execJournalPageGood, execJournalCopyLost, execSegmentLoad, execSuspectRebuild,
      execBandClose, execBandOpenTimeout, execVictimSelect, execBandRelease, execFoldStart, execFoldStop, execDieOperationSubmit,
      execDieOperationStart, execDieReady, execDieAgePromotion, execSuspendIssue, execResumeSubmit, execDieOffline, execDieReenable, execChannelInit,
      execStatusPoll, execBusyTimeout, execWriteGuardActivate, execWriteGuardClear, execGuardWaitTimeout, execDieTemperaturePoll, execVerifyRead,
      execCodewordDecode, execScrubVisit, execScrubWindowOpen, execScrubWindowClose, execKeyLoad, execKeyGenerate, execKeyClear, execKeyOpEnd,
      execGatherTimeout, execStripeJournalPageWrite, execStripeJournalCopyLost, execRebuildStart, execRebuildStripe, execStoreCharged,
      execDischargeTestStart, execDischargeTestEnd, execBufferRequest, execBufferGrant, execBufferShare, execBufferFree, execBufferFreeChain,
      execPoisonBufferClean, execRingRefill, execSramScrub, execDramRequest, execDramAgePromotion, execDramRefresh, execMr4Read, execPatrolScrub,
      execDramAlert, execDramTraining, execDqsOscillatorRead, execDramRetrain, execRetireGo, execRetireCopyDone, execSelfRefreshEntry,
      execSelfRefreshExit, execRankPowerDown, execCutFault, execWatchdogExpiry, execHeartbeatWrite, execCutGo, execCutReq, execCutFence,
      execEpochTake, execClusterSelftestEnd, execClusterSyncDone, execClusterRepair, execStandbySelftest, execRotateCut, execScriptWrite,
      execScriptCheckpoint, execCsuProgram, execCsuErase, execWprogram, execWerase, execLoaderCopy, execCsuCommandEnd, execCodeStoreReadSuspend,
      execCodeStoreEraseResume, execWpWrite, execSealStateWrite, execSealGrantSession, execSealGrantDowngrade, execPendingTakeLimit, execActDeadline,
      execHealthConfirm, execConfirmWindowExpiry, execFallbackReboot, execCallSheetRead, execCallSheetWrite, execStoredWriteCommit, execDescribe,
      execFwObjectTimeout, execMctpControlMessage, execNvmeMiBasicManagement, execFleetSet, execRecorderTrigger, execFwTrigger, execReelPageFlush,
      execReelRead, execFreeze, execFreezeExpiry, execAvsRequest, execPtmValidExpiry, execInterruptCoalescingExpiry, execFwObjectAnswer,
      execJtagDebugAccess, execTuigorBadMsg, execSmbusTimeout, execI3cDynamicAddressAssignment]
    repeat' split
    all_goals simp [h]

/-- Settles O59: a step is a command or a tick, and neither completes a unit that stays in assembly. -/
theorem unitsInAssemblyStayIncomplete : Obligations.UnitsInAssemblyStayIncomplete := by
  unfold Obligations.UnitsInAssemblyStayIncomplete
  intro s t h unfilled
  unfold step at h
  split at h
  next c rest _ => exact exec_assembles (s := { s with pending := rest }) unfilled c t h
  next =>
    cases h
    exact State.unfilled_tick unfilled

end Sys2Proof.Machine
end

section
/-! PROOFS. Fences, window commits and panic: what a fence notes and when it completes, a commit by its status, the set that becomes active, and the two levels of panic (O42; R172 to R180). -/

namespace Sys2Proof.Machine

namespace State

/-! ## Fences (R172, R173) -/

/-- What a fence of window `n` notes when it is accepted (R172, R173). -/
def fenceOf (s : State) (n : Nat) (w : Window) (fn : Nat) : Fence :=
  { win := n, fn := fn, lba := w.kind == .lba, partial_ := s.gal.units.any fun u => u.win == n
    ctxs := (s.qen.ctxs.filter fun e => e.2.ofWin n && e.2.sqe.opcode == 0x01).map Prod.fst
    units := (s.gal.ready.filter fun u => u.win == n).map fun u => (u.win, u.unit), ahead := s.gal.lastEntry n }

section
variable (s : State) (n : Nat) (w : Window) (fn : Nat)

theorem fenceOf_lba : (s.fenceOf n w fn).lba = true ↔ w.kind = .lba := beq_iff_eq

theorem fenceOf_partial : (s.fenceOf n w fn).partial_ = true ↔ ∃ u ∈ s.gal.units, u.win = n := by
  simp [fenceOf]

theorem mem_fenceOf_units (u : Nat × Nat) : u ∈ (s.fenceOf n w fn).units ↔ ∃ v ∈ s.gal.ready, v.win = n ∧ u = (v.win, v.unit) := by
  simp [fenceOf, and_assoc, eq_comm (a := u)]

theorem mem_fenceOf_ctxs (c : Nat) : c ∈ (s.fenceOf n w fn).ctxs ↔ ∃ x, (c, x) ∈ s.qen.ctxs ∧ x.ofWin n = true ∧ x.sqe.opcode = 0x01 := by
  simp [fenceOf]

end

section
variable {s : State} {p : PeerTlp} {n : Nat} {w : Window} (accepted : s.inboundHeld = false) (decoded : s.fnOpen p.fn = true) (bar : s.galBar p = true)
  (hit : s.gal.hit (s.galOffset p) = some (n, w))
include accepted decoded bar hit

theorem exec_fence_accepted (passes : s.winRefusal n w p 0 false = none) :
    exec (.fence p) s = .next ((s.arrive 0).modGal fun g => { g with fences := g.fences ++ [s.fenceOf n w p.fn] }) := by
  change execFence p s = _
  simp [execFence, accepted, decoded, bar, hit, passes]
  rfl

theorem exec_fence_refused {b : Nat} (refused : s.winRefusal n w p 0 false = some b) :
    exec (.fence p) s = .next ((s.arrive 0).galRefuse (some n) b true) := by
  change execFence p s = _
  simp [execFence, accepted, decoded, bar, hit, refused]

end

/-- The oldest fence of a window goes, and the faults of the window with it (R172). -/
def fenceGone (f : Fence) (w : Nat) (s : State) : State :=
  s.modGal fun g => { g with fences := g.fences.erase f, faults := g.faults.filter (· != w) }

theorem not_mem_fenceGone_faults (s : State) (f : Fence) (w : Nat) : w ∉ (s.fenceGone f w).gal.faults := by
  simp [fenceGone]

/-- Only poisoned data is counted (R84). -/
theorem completeRead_ok_regf (s : State) (addr : Nat) (data : List Byte) : (s.completeRead .ok addr data).regf = s.regf := by
  rw [completeRead_eq]
  exact foldl_regf _ _ _ fun _ _ => rfl

theorem completeRead_fenceGone_fences (s : State) (f : Fence) (w : Nat) (d : List Byte) :
    ((s.completeRead .ok 0 d).fenceGone f w).gal.fences = s.gal.fences.erase f := by
  simp [fenceGone]

/-- A fence's completion with data `d` (R172). -/
theorem completeRead_fenceGone (s : State) (f : Fence) (w : Nat) (d : List Byte) : (s.completeRead .ok 0 d).fenceGone f w = { s with
    out := ((s.completeRead .ok 0 d).fenceGone f w).out
    hlu := { s.hlu with txNow := ((s.completeRead .ok 0 d).fenceGone f w).hlu.txNow }
    gal := { s.gal with
      fences := ((s.completeRead .ok 0 d).fenceGone f w).gal.fences
      faults := ((s.completeRead .ok 0 d).fenceGone f w).gal.faults } } := by
  have read := s.eq_of_completeRead .ok 0 d
  rw [completeRead_ok_regf] at read
  generalize s.completeRead .ok 0 d = t at read
  rw [read]
  rfl

section
variable {s : State} {w : Nat} {f : Fence} (first : (s.gal.fences.find? fun g => g.win == w) = some f)
include first

theorem exec_fenceCompletion_lba (lba : f.lba = true) (ctxs : f.ctxs = []) (units : f.units = []) : exec (.fenceCompletion w) s =
    .next ((s.completeRead .ok 0 (leBytes 4 (bit01 f.partial_ + 2 * bit01 (s.gal.faults.contains w)))).fenceGone f w) := by
  change execFenceCompletion w s = _
  have done : f.done = true := by simp [Fence.done, lba, ctxs, units]
  simp only [execFenceCompletion, first, done, lba, if_true]
  rfl

theorem exec_fenceCompletion_memory (memory : f.lba = false) (drained : f.ahead = 0) : exec (.fenceCompletion w) s =
    .next ((s.drawn.completeRead .ok 0 (leBytes 4 (s.fresh % 2 ^ 32))).fenceGone f w) := by
  change execFenceCompletion w s = _
  have done : f.done = true := by simp [Fence.done, memory, drained]
  simp only [execFenceCompletion, first, done, memory, if_true]
  rfl

theorem exec_fenceCompletion_waits (covered : f.done = false) : exec (.fenceCompletion w) s = .next s := by
  change execFenceCompletion w s = _
  simp [execFenceCompletion, first, covered]

end

/-! ## A set that becomes active (R177) -/

theorem abortReads_gal (s : State) (p : Nat → Bool) : (s.abortReads p).gal = { s.gal with
    reads := s.gal.reads.filter fun r => !p r.win, fences := s.gal.fences.filter fun f => !p f.win } := by
  simp [abortReads]

/-- One unanswered read ends with Completer Abort, and its context is free (R177). -/
def abortCtx (s : State) (e : Nat × Ctx) : State := (s.complete .ca).discardCtx e.1 e.2

theorem abortCtx_gone (s : State) (e : Nat × Ctx) : Tbl.find? (s.abortCtx e).qen.ctxs e.1 = none := freeCtx_gone _ _

theorem abortCtx_noneNew (s : State) (e : Nat × Ctx) : NoneNew s (s.abortCtx e) := ((complete_aborted s .ca).trans (discardCtx_aborted _ _ _)).told.noneNew

theorem abortCtx_fold_gone {e : Nat × Ctx} (l : List (Nat × Ctx)) (s : State) (h : e ∈ l) : Tbl.find? (l.foldl abortCtx s).qen.ctxs e.1 = none := by
  induction l generalizing s with
  | nil => cases h
  | cons a l ih =>
    obtain rfl | h := List.mem_cons.mp h
    · exact NoneNew.gone (.foldl _ l _ abortCtx_noneNew) (abortCtx_gone s e)
    · exact ih _ h

theorem abortReads_qen (s : State) (p : Nat → Bool) : (s.abortReads p).qen =
    ((s.qen.ctxs.filter fun e => (e.2.win.any fun w => p w.1) && e.2.sqe.opcode == 0x02).foldl abortCtx s).qen := by
  change (abortN _ (List.foldl abortCtx s _)).qen = _
  simp

/-- No unanswered read of a window named is left (R177). -/
theorem abortReads_gone {s : State} {p : Nat → Bool} {c : Nat} {x : Ctx} {w off : Nat} (found : Tbl.find? s.qen.ctxs c = some x) (win : x.win = some (w, off))
    (named : p w = true) (read : x.sqe.opcode = 0x02) : Tbl.find? (s.abortReads p).qen.ctxs c = none := by
  have listed : (c, x) ∈ s.qen.ctxs.filter fun e => (e.2.win.any fun w => p w.1) && e.2.sqe.opcode == 0x02 :=
    List.mem_filter.mpr ⟨Tbl.mem_of_find? found, by simp [win, named, read]⟩
  rw [abortReads_qen]
  exact abortCtx_fold_gone _ s listed

theorem activateWins_gal (s : State) (t : List (Nat × Window)) (aff : List Nat) : (s.activateWins t aff).gal = { s.gal with
    active := t, pending := none, commitSts := 0
    units := s.gal.units.filter fun u => !aff.contains u.win
    reads := s.gal.reads.filter fun r => !aff.contains r.win, fences := s.gal.fences.filter fun f => !aff.contains f.win
    faults := (s.activateWins t aff).gal.faults } := by
  simp [activateWins, abortReads_gal]

theorem eq_of_activateWins (s : State) (t : List (Nat × Window)) (aff : List Nat) : s.activateWins t aff = { s with
    out := (s.activateWins t aff).out, regf := (s.activateWins t aff).regf, sheet := (s.activateWins t aff).sheet, hlu := (s.activateWins t aff).hlu
    qen := (s.activateWins t aff).qen, gal := (s.activateWins t aff).gal, bpm := (s.activateWins t aff).bpm, ccl := (s.activateWins t aff).ccl
    mgp := (s.activateWins t aff).mgp, cru := (s.activateWins t aff).cru } :=
  (activateWins_touch t aff s (m := 13896545) rfl (Touch.refl _ s)).eq_masked

theorem activateWins_qen (s : State) (t : List (Nat × Window)) (aff : List Nat) : (s.activateWins t aff).qen = (s.abortReads aff.contains).qen := by
  unfold activateWins
  simp

theorem activateWins_gone {s : State} (t : List (Nat × Window)) {aff : List Nat} {c : Nat} {x : Ctx} {w off : Nat} (found : Tbl.find? s.qen.ctxs c = some x)
    (win : x.win = some (w, off)) (affected : w ∈ aff) (read : x.sqe.opcode = 0x02) : Tbl.find? (s.activateWins t aff).qen.ctxs c = none := by
  rw [activateWins_qen]
  exact abortReads_gone found win (List.contains_iff_mem.mpr affected) read

/-! ## Window commits (R176, R177) -/

section
variable {s : State}

theorem exec_winCommit_pending (pending : s.gal.pending.isSome = true) : exec .winCommit s = .next (s.sample 8) := by
  change execWinCommit s = _
  simp [execWinCommit, winCommit, pending]

section
variable (idle : s.gal.pending = none)
include idle

theorem exec_winCommit_refused (refused : s.winStatus s.gal.staging ≠ 0) :
    exec .winCommit s = .next ((s.sample 8).modGal fun g => { g with commitSts := s.winStatus s.gal.staging }) := by
  change execWinCommit s = _
  have sampled : (s.sample 8).winStatus s.gal.staging = s.winStatus s.gal.staging := rfl
  simp [execWinCommit, winCommit, idle, sampled, refused]

section
variable (passes : s.winStatus s.gal.staging = 0)
include passes

theorem exec_winCommit_waits (busy : ∃ n ∈ s.gal.affected s.gal.staging, s.winBusy n = true) :
    exec .winCommit s = .next ((s.sample 8).modGal fun g => { g with
      pending := some { since := s.now, affected := s.gal.affected s.gal.staging, set := s.gal.staging }, commitSts := 4 }) := by
  change execWinCommit s = _
  have sampled : (s.sample 8).winStatus s.gal.staging = 0 := passes
  have waits : (s.gal.affected s.gal.staging).any (s.sample 8).winBusy = true := List.any_eq_true.mpr busy
  simp only [execWinCommit, winCommit, sample_gal, idle, sampled, waits]
  rfl

theorem exec_winCommit_activates (quiet : ∀ n ∈ s.gal.affected s.gal.staging, s.winBusy n = false) :
    exec .winCommit s = .next ((s.sample 8).activateWins s.gal.staging (s.gal.affected s.gal.staging)) := by
  change execWinCommit s = _
  have sampled : (s.sample 8).winStatus s.gal.staging = 0 := passes
  have ready : (s.gal.affected s.gal.staging).any (s.sample 8).winBusy = false := List.any_eq_false.mpr fun n hn => Bool.eq_false_iff.mp (quiet n hn)
  simp only [execWinCommit, winCommit, sample_gal, idle, sampled, ready]
  rfl

end

end

/-- A pending set becomes active when its windows are quiet, or late (R177). -/
theorem exec_pending_activates {i : Instr} {p : WinPending} (pending : s.gal.pending = some p)
    (due : (i = .windowSetActivate ∧ ∀ n ∈ p.affected, s.winBusy n = false) ∨ (i = .windowCommitTimeout ∧ s.passed p.since 160000 = true)) :
    exec i s = .next (s.activateWins p.set p.affected) := by
  rcases due with ⟨rfl, quiet⟩ | ⟨rfl, late⟩
  · change execWindowSetActivate s = _
    have ready : p.affected.any s.winBusy = false := List.any_eq_false.mpr fun n hn => Bool.eq_false_iff.mp (quiet n hn)
    simp [execWindowSetActivate, pending, ready]
  · change execWindowCommitTimeout s = _
    simp [execWindowCommitTimeout, pending, late]

/-! ## Panic (R180) -/

theorem exec_rtPanicAssert (calm : s.gal.panic = false) (full : s.obj Ob.PANIC_ON_PCT * galFifoBytes ≤ 100 * s.gal.fill) : exec .rtPanicAssert s =
    .next (((s.modGal fun g => { g with panic := true }).modDmc fun m => { m with panic := true }).count Fld.GAL_RT_PANIC_CNT.COUNT 0 1) :=
  if_pos ⟨calm, full⟩

theorem exec_rtPanicRelease (panic : s.gal.panic = true) (low : 100 * s.gal.fill < s.obj Ob.PANIC_OFF_PCT * galFifoBytes) : exec .rtPanicRelease s =
    .next ((s.modGal fun g => { g with panic := false }).modDmc fun m => { m with panic := false }) :=
  if_pos ⟨panic, low⟩

end

end State

/-- Settles O42: a fence by what it notes and how it completes, a commit by its status and by what its windows have unfinished, a pending set when it is due, and panic at its levels. -/
theorem fencesCompleteAndWindowCommitsApply : Obligations.FencesCompleteAndWindowCommitsApply := by
  unfold Obligations.FencesCompleteAndWindowCommitsApply
  refine ⟨fun s p n w accepted decoded bar hit => ⟨fun passes => ?_, fun b refused => ?_⟩,
    fun s w f first => ⟨fun lba ctxs units => ?_, fun memory drained => ?_, State.exec_fenceCompletion_waits first⟩,
    fun s idle => ⟨fun refused => ?_, fun passes busy => ?_, fun passes quiet => ?_⟩,
    fun s pending => State.exec_winCommit_pending pending, fun s => ⟨_, rfl, rfl⟩, fun s i p pending due => ?_, fun s calm full => ?_,
    fun s panic low => State.exec_rtPanicRelease panic low⟩
  · exact ⟨_, s.fenceOf n w p.fn, State.exec_fence_accepted accepted decoded bar hit passes, rfl, rfl, rfl, s.fenceOf_lba n w p.fn, s.fenceOf_partial n w p.fn,
      s.mem_fenceOf_units n w p.fn, s.mem_fenceOf_ctxs n w p.fn, rfl, rfl⟩
  · obtain ⟨-, gal, out, -⟩ := (s.arrive 0).galRefuse_tells (some n) b true
    exact ⟨_, State.exec_fence_refused accepted decoded bar hit refused, out, gal, State.eq_of_galRefuse _ _ _ _⟩
  · exact ⟨_, State.exec_fenceCompletion_lba first lba ctxs units, s.completeRead_answers .ok 0 _, s.completeRead_fenceGone_fences f w _,
      State.not_mem_fenceGone_faults _ f w, s.completeRead_fenceGone f w _⟩
  · exact ⟨_, _, State.exec_fenceCompletion_memory first memory drained, s.drawn.completeRead_answers .ok 0 _, length_leBytes _ _,
      s.drawn.completeRead_fenceGone_fences f w _, s.drawn.completeRead_fenceGone f w _⟩
  · exact ⟨_, State.exec_winCommit_refused idle refused, rfl, rfl⟩
  · exact ⟨_, State.exec_winCommit_waits idle passes busy, rfl, rfl⟩
  · have gal := (s.sample 8).activateWins_gal s.gal.staging (s.gal.affected s.gal.staging)
    refine ⟨_, State.exec_winCommit_activates idle passes quiet, ?_, ?_, ?_, fun u => ?_, ?_, ?_, State.eq_of_activateWins _ _ _⟩
    all_goals rw [gal]
    all_goals simp
  · have gal := s.activateWins_gal p.set p.affected
    refine ⟨_, State.exec_pending_activates pending due, ?_, ?_, ?_, ?_, ?_, fun c x w off found win affected read => State.activateWins_gone _ found win affected read,
      fun r => ?_, fun f => ?_, State.eq_of_activateWins _ _ _⟩
    all_goals rw [gal]
    all_goals simp
  · exact ⟨_, State.exec_rtPanicAssert calm full, State.fld_count_same _ _ _ _, rfl⟩

end Sys2Proof.Machine
end

section
/-! PROOFS. Map commits (spec/07, R197, R198, R204, R209): what a host write's, a trim's and a copy's delta do to the map, the journal buffer and the copy jobs. -/

namespace Sys2Proof.Machine

/-! ## Tables -/

section
variable {α β : Type} [DecidableEq α] {d : α} {key : β → Nat} {val : β → α}

/-- Entries made one after the other leave every other key as it is. -/
theorem Tbl.find?_foldl_setD_other {l : List β} {t : List (Nat × α)} {k : Nat} (out : ∀ x ∈ l, k ≠ key x) :
    Tbl.find? (l.foldl (fun t x => Tbl.setD t (key x) (val x) d) t) k = Tbl.find? t k := by
  induction l generalizing t with
  | nil => rfl
  | cons x l ih =>
    obtain ⟨first, rest⟩ := List.forall_mem_cons.mp out
    exact (ih rest).trans (Tbl.find?_setD_other t _ _ first)

/-- A key that was entered holds its value, where each entry made at it has that value. -/
theorem Tbl.getD_foldl_setD_mem {l : List β} {t : List (Nat × α)} {x : β} (hx : x ∈ l) (same : ∀ y ∈ l, key y = key x → val y = val x) :
    Tbl.getD (l.foldl (fun t x => Tbl.setD t (key x) (val x) d) t) (key x) d = val x := by
  induction l generalizing t x with
  | nil => exact absurd hx List.not_mem_nil
  | cons y l ih =>
    obtain ⟨first, rest⟩ := List.forall_mem_cons.mp same
    by_cases later : ∃ z ∈ l, key z = key x
    · obtain ⟨z, hz, eq⟩ := later
      rw [← eq, ← rest z hz eq]
      exact ih hz fun w hw k => (rest w hw (k.trans eq)).trans (rest z hz eq).symm
    · have none : ∀ z ∈ l, key x ≠ key z := fun z hz k => later ⟨z, hz, k.symm⟩
      obtain rfl : x = y := (List.mem_cons.mp hx).resolve_right fun hl => none x hl rfl
      exact (congrArg (Option.getD · d) (Tbl.find?_foldl_setD_other none)).trans (Tbl.getD_setD_same t _ _ _)

end

/-! ## What settles after a commit -/

/-- From `s` to `t` the map unit settled what follows a commit: the granules in flight, their locks, the writes and the DSNs noted. -/
structure Settles (s t : State) : Prop where
  mxe : t.mxe = { s.mxe with place := t.mxe.place, inflight := t.mxe.inflight, locks := t.mxe.locks, writes := t.mxe.writes, committed := t.mxe.committed }

namespace Settles

variable {s t u : State}

theorem of_mxe (h : t.mxe = s.mxe) : Settles s t := ⟨by rw [h]⟩

theorem refl (s : State) : Settles s s := of_mxe rfl

theorem trans (h : Settles s t) (k : Settles t u) : Settles s u := ⟨k.mxe.trans (by rw [h.mxe])⟩

theorem foldl {α : Type} (f : State → α → State) (l : List α) (s : State) (h : ∀ t a, Settles t (f t a)) : Settles s (l.foldl f s) :=
  List.foldlRecOn (motive := Settles s) l f (refl s) fun _ k a _ => k.trans (h _ a)

variable (h : Settles s t)
include h

theorem map : t.mxe.map = s.mxe.map := by rw [h.mxe]
theorem jbuf : t.mxe.jbuf = s.mxe.jbuf := by rw [h.mxe]
theorem jobs : t.mxe.jobs = s.mxe.jobs := by rw [h.mxe]

end Settles

/-- From `s` to `t` deltas were committed: beside what settles, the map with its counts, the journal buffer and the copy jobs. -/
structure Commits (s t : State) : Prop where
  mxe : t.mxe = { s.mxe with
    bands := t.mxe.bands, map := t.mxe.map, dirty := t.mxe.dirty, jbuf := t.mxe.jbuf, jfirst := t.mxe.jfirst, jobs := t.mxe.jobs
    place := t.mxe.place, inflight := t.mxe.inflight, locks := t.mxe.locks, writes := t.mxe.writes, committed := t.mxe.committed }

theorem Settles.commits {s t : State} (h : Settles s t) : Commits s t := ⟨by rw [h.mxe]⟩

namespace Commits

theorem trans {s t u : State} (h : Commits s t) (k : Commits t u) : Commits s u := ⟨k.mxe.trans (by rw [h.mxe])⟩

theorem foldl {α : Type} (f : State → α → State) (l : List α) (s : State) (h : ∀ t a, Commits t (f t a)) : Commits s (l.foldl f s) :=
  List.foldlRecOn (motive := Commits s) l f (Settles.refl s).commits fun _ k a _ => k.trans (h _ a)

end Commits

namespace State

theorem lockStart_settles (s : State) : Settles s s.lockStart := ⟨by rw [s.lockStart_placing.mxe]⟩

theorem granuleDone_settles (d : Delta) (s : State) : Settles s (s.granuleDone d) := by
  refine .trans (t := s.modMxe fun m => { m with
    inflight := m.inflight.filter fun f => !f.is d.nsid d.index d.dsn
    locks := m.locks.filter fun l => !l.is d.nsid d.index d.dsn
    writes := Tbl.adjust m.writes d.dsn fun w => { w with grans := w.grans - 1 } }) ⟨rfl⟩ (.of_mxe ?_)
  unfold granuleDone
  dsimp only
  split
  · split
    · split <;> simp
    · rfl
  · rfl

theorem noteCommit_settles (nsid g dsn : Nat) (s : State) : Settles s (s.noteCommit nsid g dsn) := ⟨rfl⟩

theorem sweepWrites_settles (s : State) : Settles s s.sweepWrites :=
  .foldl _ _ s fun t w => .trans (t := t.freeBufs w.2.bufs) (.of_mxe (by simp)) ⟨rfl⟩

theorem logDelta_settles (d : Delta) (s : State) : Settles s (s.logDelta d) := .of_mxe (by simp)

/-! ## The map and the journal buffer -/

theorem addValid_mxe (e : MapEntry) (n : Int) (s : State) : (s.addValid e n).mxe = { s.mxe with bands := (s.addValid e n).mxe.bands } := by
  unfold addValid
  split
  · split <;> rfl
  · rfl

/-- An entry that is set: the map holds it, the valid counts and the dirty segments follow. -/
theorem setEntry_mxe (nsid g : Nat) (e : MapEntry) (s : State) : (s.setEntry nsid g e).mxe = { s.mxe with
    bands := (s.setEntry nsid g e).mxe.bands, map := Tbl.setD s.mxe.map (granKey nsid g) e MapEntry.unmapped, dirty := (s.setEntry nsid g e).mxe.dirty } := by
  unfold setEntry
  simp only [modMxe_mxe]
  rw [addValid_mxe, addValid_mxe]

theorem setEntry_commits (nsid g : Nat) (e : MapEntry) (s : State) : Commits s (s.setEntry nsid g e) := ⟨by rw [setEntry_mxe]⟩

theorem journal_commits (r : JournalRecord) (s : State) : Commits s (s.journal r) := ⟨rfl⟩

theorem setEntry_map (nsid g : Nat) (e : MapEntry) (s : State) : (s.setEntry nsid g e).mxe.map = Tbl.setD s.mxe.map (granKey nsid g) e MapEntry.unmapped := by
  rw [setEntry_mxe]

theorem setEntry_jbuf (nsid g : Nat) (e : MapEntry) (s : State) : (s.setEntry nsid g e).mxe.jbuf = s.mxe.jbuf := by
  rw [setEntry_mxe]

/-! ## A host write's delta (R197) -/

section
variable {s : State} {d : Delta}

theorem commitHost_superseded (older : d.dsn < Tbl.getD s.mxe.committed (granKey d.nsid d.index) 0) : Settles s (s.commitHost d) := by
  unfold commitHost
  rw [if_pos older]
  exact .trans (.trans (.of_mxe (by simp)) (granuleDone_settles d _)) (noteCommit_settles _ _ _ _)

theorem commitHost_enters (newer : Tbl.getD s.mxe.committed (granKey d.nsid d.index) 0 ≤ d.dsn) :
    Settles (((s.logDelta d).setEntry d.nsid d.index d.value).journal d.record) (s.commitHost d) := by
  unfold commitHost
  rw [if_neg (Nat.not_lt.mpr newer)]
  exact .trans (.trans (.of_mxe (by simp)) (granuleDone_settles d _)) (noteCommit_settles _ _ _ _)

end

theorem commitHost_commits (d : Delta) (s : State) : Commits s (s.commitHost d) := by
  by_cases older : d.dsn < Tbl.getD s.mxe.committed (granKey d.nsid d.index) 0
  · exact (commitHost_superseded older).commits
  · exact (((logDelta_settles d s).commits.trans (setEntry_commits ..)).trans (journal_commits ..)).trans (commitHost_enters (Nat.not_lt.mp older)).commits

/-! ## A trim's delta (R209) -/

/-- Granules of a trim become unmapped one by one. -/
def trimStep (d : Delta) (s : State) (k : Nat) : State := (s.setEntry d.nsid (d.index + k) MapEntry.unmapped).noteCommit d.nsid (d.index + k) d.dsn

theorem trimStep_fold (d : Delta) (l : List Nat) (s : State) : Commits s (l.foldl (trimStep d) s) ∧ (l.foldl (trimStep d) s).mxe.jbuf = s.mxe.jbuf ∧
    (l.foldl (trimStep d) s).mxe.map = l.foldl (fun t k => Tbl.setD t (granKey d.nsid (d.index + k)) MapEntry.unmapped MapEntry.unmapped) s.mxe.map := by
  induction l generalizing s with
  | nil => exact ⟨(Settles.refl s).commits, rfl, rfl⟩
  | cons k l ih =>
    obtain ⟨commits, jbuf, map⟩ := ih (trimStep d s k)
    have step := noteCommit_settles d.nsid (d.index + k) d.dsn (s.setEntry d.nsid (d.index + k) MapEntry.unmapped)
    refine ⟨((setEntry_commits ..).trans step.commits).trans commits, jbuf.trans (step.jbuf.trans (setEntry_jbuf ..)), ?_⟩
    exact map.trans (congrArg (l.foldl _) (step.map.trans (setEntry_map ..)))

theorem commitTrim_enters (d : Delta) (s : State) :
    Settles ((List.range d.count).foldl (trimStep d) ((s.logDelta d).journal d.record)) (s.commitTrim d) := by
  refine .of_mxe ?_
  unfold commitTrim
  dsimp only
  split
  · simp only [lostHeal_units]
    rfl
  · rfl

theorem commitTrim_commits (d : Delta) (s : State) : Commits s (s.commitTrim d) :=
  (((logDelta_settles d s).commits.trans (journal_commits ..)).trans (trimStep_fold d _ _).1).trans (commitTrim_enters d s).commits

/-! ## A copy's delta (R204) -/

/-- The map names the source of the copy. -/
def namesSource (s : State) (d : Delta) : Prop := (s.mxe.entry d.nsid d.index).located = true ∧ d.source = some (s.mxe.entry d.nsid d.index).loc

/-- The copy's job has its commit. -/
def copyDone (d : Delta) (s : State) : State := s.modMxe fun m => { m with jobs := Tbl.adjust m.jobs d.owner fun j => { j with done := true, landed := false } }

section
variable {s : State} {d : Delta}

theorem commitCopy_enters (names : s.namesSource d) : Settles (((s.setEntry d.nsid d.index d.value).journal d.record).copyDone d) (s.commitCopy d) := by
  refine .of_mxe ?_
  unfold commitCopy
  obtain ⟨located, source⟩ := names
  dsimp only
  rw [if_pos ⟨located, source⟩]
  split
  · split
    · simp only [lostAdd_units, lostUnit_units]
      rfl
    · rfl
  · rfl

theorem copyDone_commits (d : Delta) (s : State) : Commits s (s.copyDone d) := ⟨rfl⟩

theorem commitCopy_drops (lost : ¬s.namesSource d) : s.commitCopy d = (s.count Fld.MXE_GC_DROP.COUNT 0 1).modMxe fun m => { m with jobs := Tbl.del m.jobs d.owner } :=
  if_neg lost

end

theorem commitCopy_commits (d : Delta) (s : State) : Commits s (s.commitCopy d) := by
  by_cases names : s.namesSource d
  · exact (((setEntry_commits ..).trans (journal_commits ..)).trans (copyDone_commits ..)).trans (commitCopy_enters names).commits
  · rw [commitCopy_drops names]
    exact ⟨rfl⟩

/-! ## One ready delta (R198) -/

theorem commitDelta_commits (d : Delta) (s : State) : Commits s (s.commitDelta d) := by
  unfold commitDelta
  split
  · exact commitHost_commits d s
  · exact commitTrim_commits d s
  · exact commitTrim_commits d s
  · exact commitCopy_commits d s

/-- The state in which a single delta commits: no delta is left, and in Hall the marker is gone (R49). -/
def commitOne (s : State) : State := s.clearMarker.modMxe fun m => { m with deltas := [] }

theorem commitOne_mxe (s : State) : s.commitOne.mxe = { s.mxe with deltas := [] } := by
  simp [commitOne]

/-- Nothing commits while every delta waits, or the journal is frozen (R203, R364). -/
theorem exec_mapCommit_waits {s : State} (h : s.mxe.frozen = true ∨ ∀ d ∈ s.mxe.deltas, s.mxe.deltaWaits d = true) : exec .mapCommit s = .next s := by
  change execMapCommit s = _
  unfold execMapCommit
  split
  · rfl
  next running =>
    have waits := h.resolve_left running
    have none : s.mxe.deltas.filter (fun d => !s.mxe.deltaWaits d) = [] := List.filter_eq_nil_iff.mpr fun d hd => by simp [waits d hd]
    simp [commitReady, none, sortBy]

section
variable {s : State} {d : Delta} (running : s.mxe.frozen = false) (one : s.mxe.deltas = [d]) (ready : s.mxe.deltaWaits d = false)
include running one ready

theorem exec_mapCommit_one : exec .mapCommit s = .next (s.commitOne.commitDelta d).lockStart.sweepWrites := by
  change execMapCommit s = _
  have left : s.clearMarker.modMxe (fun m => { m with deltas := m.deltas.filter m.deltaWaits }) = s.commitOne := by
    simp [commitOne, modMxe, one, ready]
  unfold execMapCommit commitReady
  rw [if_neg (by simp [running]), left]
  simp [one, ready, sortBy, insertBy]

end

/-- What the locks and the writes do once a delta is committed. -/
theorem settles_after (s : State) : Settles s s.lockStart.sweepWrites := s.lockStart_settles.trans (sweepWrites_settles _)

section
variable {s : State} {d : Delta}

theorem commitDelta_host (kind : d.kind = 1) : s.commitDelta d = s.commitHost d := by
  simp [commitDelta, kind]

theorem commitDelta_trim (kind : d.kind = 3 ∨ d.kind = 4) : s.commitDelta d = s.commitTrim d := by
  obtain kind | kind := kind <;> simp [commitDelta, kind]

theorem commitDelta_copy (kind : d.kind = 2) : s.commitDelta d = s.commitCopy d := by
  simp [commitDelta, kind]

theorem commitHost_maps (newer : Tbl.getD s.mxe.committed (granKey d.nsid d.index) 0 ≤ d.dsn) :
    (s.commitHost d).mxe.map = Tbl.setD s.mxe.map (granKey d.nsid d.index) d.value MapEntry.unmapped ∧ (s.commitHost d).mxe.jbuf = s.mxe.jbuf ++ [d.record] := by
  have enters := commitHost_enters newer
  have logged := logDelta_settles d s
  exact ⟨enters.map.trans ((setEntry_map ..).trans (by rw [logged.map])), enters.jbuf.trans (congrArg (· ++ [d.record]) ((setEntry_jbuf ..).trans logged.jbuf))⟩

theorem commitTrim_maps (d : Delta) (s : State) :
    (s.commitTrim d).mxe.map = (List.range d.count).foldl (fun t k => Tbl.setD t (granKey d.nsid (d.index + k)) MapEntry.unmapped MapEntry.unmapped) s.mxe.map ∧
      (s.commitTrim d).mxe.jbuf = s.mxe.jbuf ++ [d.record] := by
  have enters := commitTrim_enters d s
  have logged := logDelta_settles d s
  obtain ⟨-, jbuf, map⟩ := trimStep_fold d (List.range d.count) ((s.logDelta d).journal d.record)
  exact ⟨enters.map.trans (map.trans (congrArg (List.foldl _ · _) logged.map)), enters.jbuf.trans (jbuf.trans (congrArg (· ++ [d.record]) logged.jbuf))⟩

theorem commitCopy_maps (names : s.namesSource d) :
    (s.commitCopy d).mxe.map = Tbl.setD s.mxe.map (granKey d.nsid d.index) d.value MapEntry.unmapped ∧ (s.commitCopy d).mxe.jbuf = s.mxe.jbuf ++ [d.record] := by
  have enters := commitCopy_enters names
  exact ⟨enters.map.trans (setEntry_map ..), enters.jbuf.trans (congrArg (· ++ [d.record]) (setEntry_jbuf ..))⟩

end

/-- A map in which one entry was set. -/
theorem entry_of_map {s t : State} {nsid g : Nat} {e : MapEntry} (map : t.mxe.map = Tbl.setD s.mxe.map (granKey nsid g) e MapEntry.unmapped) :
    t.mxe.entry nsid g = e ∧ ∀ k, k ≠ granKey nsid g → Tbl.find? t.mxe.map k = Tbl.find? s.mxe.map k := by
  unfold Mxe.entry
  rw [map]
  exact ⟨Tbl.getD_setD_same _ _ _ _, fun k hk => Tbl.find?_setD_other _ _ _ hk⟩

/-- A map in which granules of a namespace became unmapped. -/
theorem entry_of_trim {s t : State} {nsid index count : Nat}
    (map : t.mxe.map = (List.range count).foldl (fun t k => Tbl.setD t (granKey nsid (index + k)) MapEntry.unmapped MapEntry.unmapped) s.mxe.map) :
    (∀ k, k < count → t.mxe.entry nsid (index + k) = MapEntry.unmapped) ∧
      ∀ j, (∀ k, k < count → j ≠ granKey nsid (index + k)) → Tbl.find? t.mxe.map j = Tbl.find? s.mxe.map j := by
  unfold Mxe.entry
  rw [map]
  refine ⟨fun k hk => ?_, fun j out => ?_⟩
  · exact Tbl.getD_foldl_setD_mem (key := fun k => granKey nsid (index + k)) (val := fun _ => MapEntry.unmapped) (List.mem_range.mpr hk) fun _ _ _ => rfl
  · exact Tbl.find?_foldl_setD_other (key := fun k => granKey nsid (index + k)) (val := fun _ => MapEntry.unmapped) fun k hk => out k (List.mem_range.mp hk)

/-! ## The state after MAP_COMMIT (R198, R204) -/

/-- The state after the commit of a single delta. -/
def oneCommitted (s : State) (d : Delta) : State := (s.commitOne.commitDelta d).lockStart.sweepWrites

theorem oneCommitted_settles (s : State) (d : Delta) : Settles (s.commitOne.commitDelta d) (s.oneCommitted d) := settles_after _

theorem oneCommitted_commits (s : State) (d : Delta) : Commits s.commitOne (s.oneCommitted d) :=
  (commitDelta_commits d s.commitOne).trans (s.oneCommitted_settles d).commits

theorem commitOne_map (s : State) : s.commitOne.mxe.map = s.mxe.map := by rw [commitOne_mxe]
theorem commitOne_jbuf (s : State) : s.commitOne.mxe.jbuf = s.mxe.jbuf := by rw [commitOne_mxe]
theorem commitOne_jobs (s : State) : s.commitOne.mxe.jobs = s.mxe.jobs := by rw [commitOne_mxe]
theorem commitOne_committed (s : State) : s.commitOne.mxe.committed = s.mxe.committed := by rw [commitOne_mxe]

theorem commitOne_namesSource (s : State) (d : Delta) : s.commitOne.namesSource d ↔ s.namesSource d := by
  unfold namesSource Mxe.entry
  rw [commitOne_map]

theorem oneCommitted_kept (s : State) (d : Delta) : (s.oneCommitted d).mxe.deltas = [] ∧ (s.oneCommitted d).mxe.nand = s.mxe.nand ∧
    (s.oneCommitted d).mxe.nss = s.mxe.nss ∧ (s.oneCommitted d).mxe.dsn = s.mxe.dsn ∧ (s.oneCommitted d).mxe.psn = s.mxe.psn := by
  rw [(s.oneCommitted_commits d).mxe, commitOne_mxe]
  exact ⟨rfl, rfl, rfl, rfl, rfl⟩

theorem oneCommitted_power (s : State) (d : Delta) : (s.oneCommitted d).power = s.clearMarker.power := by
  simp [oneCommitted, commitOne]

theorem oneCommitted_frame (s : State) (d : Delta) : s.oneCommitted d = { s with
    out := (s.oneCommitted d).out, power := (s.oneCommitted d).power, regf := (s.oneCommitted d).regf, qen := (s.oneCommitted d).qen, tnu := (s.oneCommitted d).tnu
    mxe := (s.oneCommitted d).mxe, spe := (s.oneCommitted d).spe, bpm := (s.oneCommitted d).bpm, ccl := (s.oneCommitted d).ccl, mgp := (s.oneCommitted d).mgp
    cru := (s.oneCommitted d).cru } := 
  (sweepWrites_touch _ (m := 13964849) rfl (lockStart_touch _ rfl (commitDelta_touch _ _ rfl (touch_modMxe _ rfl (clearMarker_touch _ rfl (.refl _ s)))))).eq_masked

section
variable {s : State} {d : Delta}

theorem oneCommitted_host_superseded (kind : d.kind = 1) (older : d.dsn < Tbl.getD s.mxe.committed (granKey d.nsid d.index) 0) :
    (s.oneCommitted d).mxe.map = s.mxe.map ∧ (s.oneCommitted d).mxe.jbuf = s.mxe.jbuf := by
  have settles := s.oneCommitted_settles d
  rw [commitDelta_host kind] at settles
  have all := (commitHost_superseded (s := s.commitOne) (by rwa [commitOne_committed])).trans settles
  exact ⟨all.map.trans s.commitOne_map, all.jbuf.trans s.commitOne_jbuf⟩

theorem oneCommitted_host (kind : d.kind = 1) (newer : Tbl.getD s.mxe.committed (granKey d.nsid d.index) 0 ≤ d.dsn) :
    (s.oneCommitted d).mxe.map = Tbl.setD s.mxe.map (granKey d.nsid d.index) d.value MapEntry.unmapped ∧ (s.oneCommitted d).mxe.jbuf = s.mxe.jbuf ++ [d.record] := by
  have settles := s.oneCommitted_settles d
  rw [commitDelta_host kind] at settles
  obtain ⟨map, jbuf⟩ := commitHost_maps (s := s.commitOne) (by rwa [commitOne_committed])
  rw [settles.map, settles.jbuf, map, jbuf, commitOne_map, commitOne_jbuf]
  exact ⟨rfl, rfl⟩

theorem oneCommitted_trim (kind : d.kind = 3 ∨ d.kind = 4) : (s.oneCommitted d).mxe.jbuf = s.mxe.jbuf ++ [d.record] ∧ (s.oneCommitted d).mxe.map =
    (List.range d.count).foldl (fun t k => Tbl.setD t (granKey d.nsid (d.index + k)) MapEntry.unmapped MapEntry.unmapped) s.mxe.map := by
  have settles := s.oneCommitted_settles d
  rw [commitDelta_trim kind] at settles
  obtain ⟨map, jbuf⟩ := commitTrim_maps d s.commitOne
  rw [settles.map, settles.jbuf, map, jbuf, commitOne_map, commitOne_jbuf]
  exact ⟨rfl, rfl⟩

theorem oneCommitted_copy (kind : d.kind = 2) (names : s.namesSource d) :
    (s.oneCommitted d).mxe.map = Tbl.setD s.mxe.map (granKey d.nsid d.index) d.value MapEntry.unmapped ∧ (s.oneCommitted d).mxe.jbuf = s.mxe.jbuf ++ [d.record] := by
  have settles := s.oneCommitted_settles d
  rw [commitDelta_copy kind] at settles
  obtain ⟨map, jbuf⟩ := commitCopy_maps ((s.commitOne_namesSource d).mpr names)
  rw [settles.map, settles.jbuf, map, jbuf, commitOne_map, commitOne_jbuf]
  exact ⟨rfl, rfl⟩

theorem oneCommitted_stale (kind : d.kind = 2) (stale : ¬s.namesSource d) :
    (s.oneCommitted d).mxe.map = s.mxe.map ∧ (s.oneCommitted d).mxe.jbuf = s.mxe.jbuf ∧ (s.oneCommitted d).mxe.jobs = Tbl.del s.mxe.jobs d.owner := by
  have settles := s.oneCommitted_settles d
  rw [commitDelta_copy kind, commitCopy_drops (mt (s.commitOne_namesSource d).mp stale)] at settles
  exact ⟨settles.map.trans s.commitOne_map, settles.jbuf.trans s.commitOne_jbuf, settles.jobs.trans (congrArg (Tbl.del · d.owner) s.commitOne_jobs)⟩

end

end State

end Sys2Proof.Machine
end

section
/-! PROOFS. The map journal (spec/07, R199, R200): a page that goes to its SYSTEM band, the report of a copy, lost copies, and O43. -/

namespace Sys2Proof.Machine

namespace State

/-! ## A page is due -/

theorem sysOpen_eq {s t : State} {dA dB n : Nat} (h : s.sysOpen dA dB = some (t, n)) :
    t = { s with mxe := { s.mxe with bands := t.mxe.bands, bsn := t.mxe.bsn } } := by
  unfold sysOpen at h
  split at h
  · split at h
    · obtain ⟨rfl, -⟩ := Prod.mk.inj (Option.some.inj h)
      rfl
    · cases h
  · cases h

/-- The SYSTEM band for the next page: at most a band has opened. -/
theorem sysBandFor_eq {s t : State} {cur : Option Nat} {dA dB n : Nat} (h : s.sysBandFor cur dA dB = some (t, n)) :
    t = { s with mxe := { s.mxe with bands := t.mxe.bands, bsn := t.mxe.bsn } } := by
  unfold sysBandFor at h
  split at h
  · split at h
    · obtain ⟨rfl, -⟩ := Prod.mk.inj (Option.some.inj h)
      rfl
    · exact sysOpen_eq h
  · exact sysOpen_eq h

/-- A page of the journal is due (R199): it is full, old or holds a record that waits. -/
structure PageDue (s : State) : Prop where
  waiting : s.mxe.jbuf ≠ []
  copy : s.mxe.jOkA = true ∨ s.mxe.jOkB = true
  running : s.mxe.frozen = false
  due : 682 ≤ s.mxe.jbuf.length ∨ s.passedSome s.mxe.jfirst (usTicks (s.obj Ob.JRNL_FLUSH_US)) = true ∨ ∃ r ∈ s.mxe.jbuf, s.mxe.urgentRecord r = true

theorem PageDue.exec_takes {s t : State} {n : Nat} (h : s.PageDue) (room : s.sysBandFor s.mxe.jBand s.mxe.jDieA s.mxe.jDieB = some (t, n)) :
    exec .journalPageWrite s = .next (t.journalPage n s.now) := by
  change execJournalPageWrite s = _
  unfold execJournalPageWrite
  rw [if_pos ⟨h.waiting, h.copy, h.running, h.due.imp_right (Or.imp_right List.any_eq_true.mpr)⟩, room]

theorem exec_journalPageWrite_noRoom {s : State} (none : s.sysBandFor s.mxe.jBand s.mxe.jDieA s.mxe.jDieB = none) : exec .journalPageWrite s = .next s := by
  change execJournalPageWrite s = _
  unfold execJournalPageWrite
  rw [none]
  exact ite_self _

/-- The page that the journal's band takes: the oldest records, for the copies that are left. -/
def nextPage (s : State) (b : Band) (n : Nat) : JournalPage :=
  { recs := s.mxe.jbuf.take 682, goodA := !s.mxe.jOkA, goodB := !s.mxe.jOkB, band := n, psn := s.mxe.psn, locA := s.sysLoc b 0, locB := s.sysLoc b 1 }

theorem journalPage_eq (s : State) (n : Nat) (now : Dword) :
    (s.journalPage n now) = { s with mxe := { s.mxe with
      bands := (s.journalPage n now).mxe.bands, jBand := some n, jpages := s.mxe.jpages ++ [s.nextPage ((Tbl.find? s.mxe.bands n).getD default) n]
      jbuf := s.mxe.jbuf.drop 682, jfirst := (s.journalPage n now).mxe.jfirst, psn := s.mxe.psn + 1 } } := rfl

/-! ## A copy reports -/

/-- The page with a copy of it on NAND. -/
def pageMarked (a : Bool) (p : JournalPage) : JournalPage := if a then { p with goodA := true } else { p with goodB := true }

theorem pageMarked_recs (a : Bool) (p : JournalPage) : (pageMarked a p).recs = p.recs := by
  cases a <;> rfl

theorem pageMarked_both (a : Bool) (p : JournalPage) : ((pageMarked a p).goodA && (pageMarked a p).goodB) = if a then p.goodB else p.goodA := by
  cases a <;> simp [pageMarked]

section
variable {a : Bool} {p : JournalPage} (left : (if a then p.goodA else p.goodB) = false)
include left

theorem markGood_head (ps : List JournalPage) : markGood a (p :: ps) = pageMarked a p :: ps := by
  cases a <;> simp_all [markGood, pageMarked]

theorem nextGood_head {m : Mxe} {ps : List JournalPage} (pages : m.jpages = p :: ps) : m.nextGood a = some p := by
  cases a <;> simp_all [Mxe.nextGood]

end

theorem journalPut_eq (a : Bool) (p : JournalPage) (s : State) :
    s.journalPut a p = { s with mxe := { s.mxe with nand := (s.journalPut a p).mxe.nand, modes := (s.journalPut a p).mxe.modes } } := by
  unfold journalPut
  split <;> rfl

/-- A copy of a page lies where the page says. -/
theorem journalPut_other {a : Bool} {p : JournalPage} {k : Nat} (s : State)
    (out : ∀ l, l = (if a then p.locA else p.locB) → k ≠ pageKey l.die l.block l.page) : Tbl.find? (s.journalPut a p).mxe.nand k = Tbl.find? s.mxe.nand k := by
  unfold journalPut
  split
  · exact Tbl.find?_put_other _ _ (out _ rfl)
  · rfl

/-- The records of the oldest page are on NAND (R199), and the copies among them are durable (R200). -/
def pageLands (p : JournalPage) (ps : List JournalPage) (s : State) : State :=
  s.modMxe fun m => { m with
    jpages := ps, jnand := m.jnand ++ p.recs, jpos := m.jpos + 16384
    jobs := m.jobs.map fun j => if j.2.done && ((p.recs.filter fun r => r.kind == 2).map JournalRecord.owner).contains j.1 then (j.1, { j.2 with landed := true }) else j }

theorem trimsDone_eq (s : State) : s.trimsDone = { s with qen := s.trimsDone.qen } := (trimsDone_touch s (m := 512) rfl (.refl _ s)).eq_masked

section
variable {s : State} {p : JournalPage} {ps : List JournalPage} (pages : s.mxe.jpages = p :: ps)
include pages

theorem journalLand_lands (both : (p.goodA && p.goodB) = true) : s.journalLand = (s.pageLands p ps).trimsDone := by
  unfold journalLand
  rw [pages]
  exact if_pos both

theorem journalLand_waits (one : (p.goodA && p.goodB) = false) : s.journalLand = s := by
  unfold journalLand
  rw [pages]
  exact if_neg (by rw [one]; decide)

end

/-- Beside the pages in flight, what lands changes the records on NAND, the copies that are durable and the commands that are final. -/
theorem journalLand_eq (s : State) : s.journalLand = { s with
    qen := s.journalLand.qen
    mxe := { s.mxe with jpages := s.journalLand.mxe.jpages, jnand := s.journalLand.mxe.jnand, jpos := s.journalLand.mxe.jpos, jobs := s.journalLand.mxe.jobs } } := by
  cases pages : s.mxe.jpages with
  | nil =>
    unfold journalLand
    rw [pages]
  | cons p ps =>
    cases both : p.goodA && p.goodB with
    | false => rw [journalLand_waits pages both]
    | true =>
      rw [journalLand_lands pages both, trimsDone_eq]
      rfl

section
variable {s : State} {a : Bool} {p : JournalPage} {ps : List JournalPage} (pages : s.mxe.jpages = p :: ps) (left : (if a then p.goodA else p.goodB) = false)

/-- The page with its copy on NAND, as it waits for the other. -/
def copyGood (a : Bool) (p : JournalPage) (ps : List JournalPage) (s : State) : State := (s.journalPut a p).modMxe fun m => { m with jpages := pageMarked a p :: ps }

theorem copyGood_eq (a : Bool) (p : JournalPage) (ps : List JournalPage) (s : State) : s.copyGood a p ps = { s with mxe := { s.mxe with
    jpages := pageMarked a p :: ps, nand := (s.journalPut a p).mxe.nand, modes := (s.journalPut a p).mxe.modes } } := by
  unfold copyGood
  rw [journalPut_eq]
  rfl

include pages left

theorem exec_journalPageGood : exec (.journalPageGood a) s = .next (s.copyGood a p ps).journalLand := by
  change execJournalPageGood a s = _
  have kept : (s.journalPut a p).mxe.jpages = p :: ps := by rw [journalPut_eq]; exact pages
  unfold execJournalPageGood
  simp only [nextGood_head left pages, copyGood, modMxe, kept, markGood_head left]

theorem exec_journalPageGood_last (other : (if a then p.goodB else p.goodA) = true) :
    exec (.journalPageGood a) s = .next ((s.copyGood a p ps).pageLands (pageMarked a p) ps).trimsDone := by
  rw [exec_journalPageGood pages left, journalLand_lands (by rw [copyGood_eq]) ((pageMarked_both a p).trans other)]

theorem exec_journalPageGood_first (other : (if a then p.goodB else p.goodA) = false) : exec (.journalPageGood a) s = .next (s.copyGood a p ps) := by
  rw [exec_journalPageGood pages left, journalLand_waits (by rw [copyGood_eq]) ((pageMarked_both a p).trans other)]

end

/-! ## Copies are lost -/

theorem exec_journalCopyLost_all {c : CopyLost} (all : c = .ab ∨ c = .abs) (s : State) : exec (.journalCopyLost c) s =
    .next { s with mxe := { s.mxe with jOkA := false, jOkB := false, jBand := none, jpages := s.mxe.jpages.map fun p => { p with goodA := false, goodB := false } } } := by
  have run : exec (.journalCopyLost c) s = .next (s.journalLose true true) := by
    obtain rfl | rfl := all <;> rfl
  rw [run]
  simp [journalLose, Mxe.journalLose, modMxe]

end State

/-- Settles O43: one delta by its kind, a page that is due, the report of a copy, and the copies that are lost. -/
theorem mapCommitsAndTheirJournal : Obligations.MapCommitsAndTheirJournal := by
  unfold Obligations.MapCommitsAndTheirJournal
  refine ⟨fun s h => State.exec_mapCommit_waits h, fun s d running one ready => ?_, fun s full copy running due => ⟨fun u n room => ?_, fun none => ?_⟩,
    fun s a p ps pages left => ?_, fun s => ⟨?_, ?_, fun c all => ?_, rfl⟩⟩
  · obtain ⟨deltas, nand, nss, dsn, psn⟩ := s.oneCommitted_kept d
    refine ⟨s.oneCommitted d, State.exec_mapCommit_one running one ready, deltas, fun hall => ?_, nand, nss, dsn, psn, State.oneCommitted_host_superseded,
      fun kind newer => ?_, fun kind => ?_, fun kind located source => ?_, State.oneCommitted_stale, s.oneCommitted_frame d⟩
    · simp [State.oneCommitted_power, State.clearMarker, hall]
    · obtain ⟨map, jbuf⟩ := State.oneCommitted_host kind newer
      obtain ⟨entry, others⟩ := State.entry_of_map map
      exact ⟨entry, jbuf, others⟩
    · obtain ⟨jbuf, map⟩ := State.oneCommitted_trim (s := s) kind
      exact ⟨jbuf, State.entry_of_trim map⟩
    · obtain ⟨map, jbuf⟩ := State.oneCommitted_copy kind ⟨located, source⟩
      obtain ⟨entry, others⟩ := State.entry_of_map map
      exact ⟨entry, jbuf, others⟩
  · have opened := State.sysBandFor_eq room
    refine ⟨u.journalPage n s.now, u.nextPage ((Tbl.find? u.mxe.bands n).getD default) n, ?_, ?_⟩
    · exact State.PageDue.exec_takes ⟨full, copy, running, due⟩ room
    · rw [State.journalPage_eq, opened]
      exact ⟨rfl, rfl, rfl, rfl, rfl, rfl, rfl, rfl, rfl, rfl, rfl, rfl⟩
  · exact State.exec_journalPageWrite_noRoom none
  · cases other : (if a then p.goodB else p.goodA) with
    | true =>
      refine ⟨_, State.exec_journalPageGood_last pages left other, fun _ => ?_, nofun, fun k out => ?_⟩
      · rw [State.trimsDone_eq, State.copyGood_eq]
        exact ⟨rfl, congrArg (s.mxe.jnand ++ ·) (State.pageMarked_recs a p), rfl, rfl, rfl, rfl⟩
      · rw [State.trimsDone_eq, State.copyGood_eq]
        exact s.journalPut_other out
    | false =>
      refine ⟨_, State.exec_journalPageGood_first pages left other, nofun, fun _ => ?_, fun k out => ?_⟩
      · rw [State.copyGood_eq]
        exact ⟨rfl, rfl⟩
      · rw [State.copyGood_eq]
        exact s.journalPut_other out
  · refine ⟨_, rfl, ?_⟩
    rw [State.journalLand_eq]
    simp [State.journalLose, Mxe.journalLose, State.modMxe]
  · refine ⟨_, rfl, ?_⟩
    rw [State.journalLand_eq]
    simp [State.journalLose, Mxe.journalLose, State.modMxe]
  · refine ⟨_, State.exec_journalCopyLost_all all s, rfl, rfl, fun p hp => ?_, ?_, rfl⟩
    · obtain ⟨q, -, rfl⟩ := List.mem_map.mp hp
      exact ⟨rfl, rfl⟩
    · simp

end Sys2Proof.Machine
end

section
/-! PROOFS. Map segments (spec/07, R189, R202, R203): write-back, the directory checkpoint, loads, and entries that are rebuilt. -/

namespace Sys2Proof.Machine

/-! ## The granules of a segment -/

theorem mem_segGranules {g seg : Nat} : g ∈ segGranules seg ↔ g / 816 = seg := by
  unfold segGranules
  simp only [List.mem_map, List.mem_range]
  exact ⟨fun ⟨k, hk, eq⟩ => by omega, fun h => ⟨g % 816, by omega, by omega⟩⟩

theorem Tbl.has_del_same {α : Type} (t : List (Nat × α)) (k : Nat) : Tbl.has (Tbl.del t k) k = false := by
  rw [Tbl.has, Tbl.find?_del_same]
  rfl

theorem granKey_inj {nsid g h : Nat} (eq : granKey nsid g = granKey nsid h) : g = h := Nat.add_left_cancel eq

/-- A table in which the entries of a segment are entered. -/
@[irreducible] def enterSegment (nsid seg : Nat) (val : Nat → MapEntry) (t : List (Nat × MapEntry)) : List (Nat × MapEntry) :=
  (segGranules seg).foldl (fun t g => Tbl.setD t (granKey nsid g) (val g) MapEntry.unmapped) t

theorem enterSegment_entered (nsid seg : Nat) (val : Nat → MapEntry) (t : List (Nat × MapEntry)) :
    let u := enterSegment nsid seg val t
    (∀ g, g / 816 = seg → Tbl.getD u (granKey nsid g) MapEntry.unmapped = val g) ∧
      ∀ k, (∀ g, g / 816 = seg → k ≠ granKey nsid g) → Tbl.find? u k = Tbl.find? t k := by
  unfold enterSegment
  exact ⟨fun _ hg => Tbl.getD_foldl_setD_mem (key := granKey nsid) (mem_segGranules.mpr hg) fun _ _ eq => congrArg val (granKey_inj eq),
    fun _ out => Tbl.find?_foldl_setD_other (key := granKey nsid) fun g hg => out g (mem_segGranules.mp hg)⟩

/-! ## Copy work that is queued (R204) -/

/-- From `s` to `t` copy jobs were queued, and nothing else changed. -/
structure QueuesJobs (s t : State) : Prop where
  frame : t = { s with mxe := { s.mxe with jobs := t.mxe.jobs, nextJob := t.mxe.nextJob } }

namespace QueuesJobs

theorem refl (s : State) : QueuesJobs s s := ⟨rfl⟩

theorem trans {s t u : State} (h : QueuesJobs s t) (k : QueuesJobs t u) : QueuesJobs s u := ⟨k.frame.trans (by rw [h.frame])⟩

theorem foldl {α : Type} (f : State → α → State) (l : List α) (s : State) (h : ∀ t a, QueuesJobs t (f t a)) : QueuesJobs s (l.foldl f s) :=
  List.foldlRecOn (motive := QueuesJobs s) l f (refl s) fun _ k a _ => k.trans (h _ a)

end QueuesJobs

namespace State

theorem relocate_queues (nsid g : Nat) (src : Loc) (cls : OpClass) (high : Bool) (s : State) : QueuesJobs s (s.relocate nsid g src cls high) := by
  unfold relocate
  split
  · exact .refl s
  · exact ⟨rfl⟩

theorem queueCopies_queues (b : Band) (s : State) : QueuesJobs s (s.queueCopies b) := .foldl _ _ s fun t _ => relocate_queues _ _ _ _ _ t

theorem relocateBlock_queues (d sb : Nat) (s : State) : QueuesJobs s (s.relocateBlock d sb) := .foldl _ _ s fun t _ => relocate_queues _ _ _ _ _ t

theorem copiesAgain_queues (s : State) : QueuesJobs s s.copiesAgain :=
  .trans (.foldl _ _ s fun t _ => queueCopies_queues _ t) (.foldl _ _ _ fun t _ => relocateBlock_queues _ _ t)

/-! ## System content on NAND (R190; log entry 47) -/

/-- From `s` to `t` pages of SYSTEM bands were taken and written, and nothing else changed. -/
structure WritesSystem (s t : State) : Prop where
  frame : t = { s with mxe := { s.mxe with
    bands := t.mxe.bands, bsn := t.mxe.bsn, nand := t.mxe.nand, modes := t.mxe.modes, psn := t.mxe.psn, sysBand := t.mxe.sysBand } }

theorem WritesSystem.trans {s t u : State} (h : WritesSystem s t) (k : WritesSystem t u) : WritesSystem s u := ⟨k.frame.trans (by rw [h.frame])⟩

theorem sysBandFor_writes {s t : State} {cur : Option Nat} {dA dB n : Nat} (h : s.sysBandFor cur dA dB = some (t, n)) :
    WritesSystem s t ∧ t.mxe.psn = s.mxe.psn := by
  have opened := sysBandFor_eq h
  exact ⟨⟨by rw [opened]⟩, by rw [opened]⟩

theorem sysPut_writes (l : Loc) (b : Band) (psn : Nat) (cells : List SlotCell) (s : State) : WritesSystem s (s.sysPut l b psn cells) := ⟨rfl⟩

theorem sysTake_writes (n : Nat) (s : State) : WritesSystem s (s.sysTake n) := ⟨rfl⟩

/-- System content that is written: a SYSTEM band takes it, with the next PSN. -/
theorem sysWrite_writes {s t : State} {cells : List SlotCell} {l : Loc} (h : s.sysWrite cells = some (t, l)) :
    WritesSystem s t ∧ t.mxe.psn = s.mxe.psn + 1 := by
  unfold sysWrite at h
  dsimp only at h
  split at h
  next u n placed =>
    obtain ⟨a, -, placed⟩ := Option.bind_eq_some_iff.mp placed
    obtain ⟨opened, psn⟩ := sysBandFor_writes placed
    obtain ⟨b, -, written⟩ := Option.map_eq_some_iff.mp h
    obtain ⟨rfl, -⟩ := Prod.mk.inj written
    exact ⟨(((opened.trans (sysPut_writes ..)).trans (sysPut_writes ..)).trans (sysTake_writes ..)).trans ⟨rfl⟩, congrArg (· + 1) psn⟩
  · cases h

/-! ## Write-back (R202) -/

/-- The record of a segment that was written back. -/
def segmentRecord (nsid seg : Nat) (l : Loc) : JournalRecord := { kind := 5, dsn := 0, value := entryAt 0 l, count := 1, index := seg, nsid := nsid, owner := 0 }

/-- The copy of a segment is the one at `l`: its entries, no longer dirty, and the record. -/
def segmentCopied (nsid seg : Nat) (l : Loc) (s : State) : State :=
  (s.modMxe fun m => { m with
    segMap := enterSegment nsid seg (m.entry nsid) m.segMap
    segs := Tbl.put m.segs (2 ^ 32 * nsid + seg) l, dirty := Tbl.del m.dirty (2 ^ 32 * nsid + seg) }).journal (segmentRecord nsid seg l)

/-- Behind the write-back the journal and the trim log are cut (R202, R209). -/
theorem segmentWritten_eq {s : State} {nsid seg : Nat} (dirty : Tbl.has s.mxe.dirty (2 ^ 32 * nsid + seg) = true) (l : Loc) :
    s.segmentWritten nsid seg l = (s.segmentCopied nsid seg l).modMxe fun m => m.truncate.trimSweep m.truncate.trimLive := by
  unfold segmentWritten segmentCopied enterSegment
  exact if_pos dirty

theorem segmentCut_eq (s : State) : (s.modMxe fun m => m.truncate.trimSweep m.truncate.trimLive) =
    { s with mxe := { s.mxe with jnand := s.mxe.truncate.jnand, trims := (s.mxe.truncate.trimSweep s.mxe.truncate.trimLive).trims } } := rfl

/-- The segment as it is written. -/
def segmentCells (s : State) (nsid seg : Nat) : List SlotCell := [s.sysCell .segment nsid seg (leNat (s.segmentBytes nsid seg))]

section
variable {s : State} {nsid seg : Nat} (dirty : Tbl.has s.mxe.dirty (2 ^ 32 * nsid + seg) = true)
include dirty

section
variable {u : State} {l : Loc} (room : s.sysWrite (s.segmentCells nsid seg) = some (u, l))
include room

theorem exec_segmentWriteback : exec (.segmentWriteback nsid seg l) s = .next (u.segmentWritten nsid seg l) := by
  change execSegmentWriteback nsid seg l s = _
  unfold execSegmentWriteback
  rw [if_pos dirty]
  change (match s.sysWrite (s.segmentCells nsid seg) with | some (t, k) => _ | none => _) = _
  rw [room]
  exact if_pos rfl

theorem exec_segmentWriteback_elsewhere {k : Loc} (other : k ≠ l) : exec (.segmentWriteback nsid seg k) s = .next s := by
  change execSegmentWriteback nsid seg k s = _
  unfold execSegmentWriteback segmentCells at *
  rw [if_pos dirty]
  simp [room, other.symm]

end

theorem exec_segmentWriteback_noRoom (none : s.sysWrite (s.segmentCells nsid seg) = none) (l : Loc) : exec (.segmentWriteback nsid seg l) s = .next s := by
  change execSegmentWriteback nsid seg l s = _
  unfold execSegmentWriteback segmentCells at *
  rw [if_pos dirty]
  simp [none]

end

/-! ## The directory checkpoint (R202) -/

/-- The directory as it is written. -/
def directoryCells (s : State) : List SlotCell := [s.sysCell .system 0 0 (leNat (s.mxe.segs.flatMap fun e => leBytes 8 e.1 ++ leBytes 5 (entryAt 0 e.2).code))]

theorem exec_directoryCheckpoint {s u : State} {l : Loc} (due : s.passed s.mxe.ckptTick (secTicks 60) = true ∨ s.mxe.dirty = [])
    (room : s.sysWrite s.directoryCells = some (u, l)) : exec .directoryCheckpoint s = .next (u.modMxe fun m => m.checkpoint s.now) := by
  change execDirectoryCheckpoint s = _
  unfold execDirectoryCheckpoint directoryCells at *
  rw [if_pos due, room]

/-! ## Loads (R203) -/

/-- The entries of a segment are those that its copy and the journal give. -/
def segmentLoaded (nsid seg : Nat) (s : State) : State :=
  s.modMxe fun m => { m with
    map := enterSegment nsid seg (m.replayed nsid) m.map
    unloaded := m.unloaded.erase (2 ^ 32 * nsid + seg) }

theorem exec_segmentLoad {s : State} {nsid seg : Nat} (listed : s.mxe.unloaded.contains (2 ^ 32 * nsid + seg) = true) :
    exec (.segmentLoad nsid seg) s = .next (s.segmentLoaded nsid seg).copiesAgain := by
  change execSegmentLoad nsid seg s = _
  unfold execSegmentLoad segmentLoaded enterSegment
  exact if_pos listed

theorem segmentLoad_frame (s : State) (nsid seg : Nat) : (s.segmentLoaded nsid seg).copiesAgain = { s with mxe := { s.mxe with
    map := enterSegment nsid seg (s.mxe.replayed nsid) s.mxe.map
    unloaded := s.mxe.unloaded.erase (2 ^ 32 * nsid + seg)
    jobs := (s.segmentLoaded nsid seg).copiesAgain.mxe.jobs, nextJob := (s.segmentLoaded nsid seg).copiesAgain.mxe.nextJob } } :=
  (s.segmentLoaded nsid seg).copiesAgain_queues.frame

/-! ## Rebuilt entries (R189) -/

section
variable {s : State} {nsid g : Nat} (suspect : (s.mxe.entry nsid g).flags = .suspect)
include suspect

theorem exec_suspectRebuild (a b : Bool) : exec (.suspectRebuild nsid g a b) s = .next (if a then s.setEntry nsid g (s.mxe.replayed nsid g)
    else if b then s.setEntry nsid g (((winner (s.candidatesOf nsid g)).map fun c => c.2.2).getD MapEntry.unmapped) else s.loseEntry nsid g lostEntry) := by
  change execSuspectRebuild nsid g a b s = _
  unfold execSuspectRebuild
  rw [if_pos suspect]
  cases a <;> cases b <;> rfl

end

theorem exec_suspectRebuild_trusted {s : State} {nsid g : Nat} (trusted : (s.mxe.entry nsid g).flags ≠ .suspect) (a b : Bool) :
    exec (.suspectRebuild nsid g a b) s = .next s := if_neg trusted

theorem setEntry_frame (nsid g : Nat) (e : MapEntry) (s : State) : s.setEntry nsid g e = { s with mxe := (s.setEntry nsid g e).mxe } :=
  (setEntry_touch nsid g e s (m := 4096) rfl (.refl _ s)).eq_masked

theorem setEntry_nand (nsid g : Nat) (e : MapEntry) (s : State) : (s.setEntry nsid g e).mxe.nand = s.mxe.nand := by rw [setEntry_mxe]

/-- A LOST entry is recorded in the journal (R189). -/
theorem loseEntry_mxe (nsid g cause : Nat) (s : State) : (s.loseEntry nsid g cause).mxe = ((s.setEntry nsid g MapEntry.lost).journal
    { kind := 2, dsn := 0, value := MapEntry.lost, count := 1, index := g, nsid := nsid, owner := 0 }).mxe := by
  unfold loseEntry
  dsimp only
  split
  · simp only [lostAdd_units]
  · rfl

theorem loseEntry_frame (nsid g cause : Nat) (s : State) : s.loseEntry nsid g cause = { s with
    regf := (s.loseEntry nsid g cause).regf, mxe := (s.loseEntry nsid g cause).mxe, spe := (s.loseEntry nsid g cause).spe, cru := (s.loseEntry nsid g cause).cru } :=
  (loseEntry_touch nsid g cause s (m := 8458272) rfl (.refl _ s)).eq_masked

end State

end Sys2Proof.Machine
end

section
/-! PROOFS. Bands from OPEN to RELEASED (spec/07, R191, R192, R194, R205, R529): a band that closes, is padded, becomes a victim and is released, and O44. -/

namespace Sys2Proof.Machine

/-! ## Copy jobs (R204) -/

theorem Tbl.mem_put_of_mem {α : Type} {t : List (Nat × α)} {k : Nat} {e : Nat × α} (he : e ∈ t) (other : e.1 ≠ k) (v : α) : e ∈ Tbl.put t k v := by
  induction t with
  | nil => exact absurd he List.not_mem_nil
  | cons x t ih =>
    obtain ⟨j, w⟩ := x
    unfold Tbl.put
    split
    · exact List.mem_cons_of_mem _ he
    split
    next eq => exact List.mem_cons_of_mem _ ((List.mem_cons.mp he).resolve_left fun h => other (by rw [h, eq]))
    · obtain rfl | later := List.mem_cons.mp he
      · exact List.mem_cons_self
      · exact List.mem_cons_of_mem _ (ih later)

theorem Tbl.eq_or_mem_of_mem_put {α : Type} {t : List (Nat × α)} {k : Nat} {v : α} {e : Nat × α} (he : e ∈ Tbl.put t k v) : e = (k, v) ∨ e ∈ t := by
  induction t with
  | nil => exact .inl (List.mem_singleton.mp he)
  | cons x t ih =>
    obtain ⟨j, w⟩ := x
    unfold Tbl.put at he
    split at he
    · exact List.mem_cons.mp he
    split at he
    · exact (List.mem_cons.mp he).imp_right (List.mem_cons_of_mem _)
    · obtain rfl | later := List.mem_cons.mp he
      · exact .inr List.mem_cons_self
      · exact (ih later).imp_right (List.mem_cons_of_mem _)

/-- Job numbers in use are below the next one. -/
def Mxe.JobsNumbered (m : Mxe) : Prop := ∀ j ∈ m.jobs, j.1 < m.nextJob

namespace Mxe

section
variable {m : Mxe} (numbered : m.JobsNumbered)
include numbered

theorem JobsNumbered.addJob (nsid g : Nat) (src : Loc) (band dsn : Nat) (cls : OpClass) (fold high lost : Bool) :
    (m.addJob nsid g src band dsn cls fold high lost).JobsNumbered := by
  intro j hj
  obtain rfl | old := Tbl.eq_or_mem_of_mem_put hj
  · exact Nat.lt_succ_self _
  · exact (numbered j old).trans (Nat.lt_succ_self _)

/-- A new job takes no job away. -/
theorem hasJob_addJob {nsid g : Nat} {src : Loc} (has : m.hasJob nsid g src = true) (nsid' g' : Nat) (src' : Loc) (band dsn : Nat) (cls : OpClass) (fold high lost : Bool) :
    (m.addJob nsid' g' src' band dsn cls fold high lost).hasJob nsid g src = true := by
  obtain ⟨j, hj, is⟩ := List.any_eq_true.mp has
  exact List.any_eq_true.mpr ⟨j, Tbl.mem_put_of_mem hj (numbered j hj).ne _, is⟩

end

/-- The new job is one for its granule from its source. -/
theorem hasJob_addJob_same (m : Mxe) (nsid g : Nat) (src : Loc) (band dsn : Nat) (cls : OpClass) (fold high lost : Bool) :
    (m.addJob nsid g src band dsn cls fold high lost).hasJob nsid g src = true :=
  List.any_eq_true.mpr ⟨_, Tbl.mem_of_find? (Tbl.find?_put_same _ _ _), by simp⟩

end Mxe

namespace State

section
variable {s : State} (numbered : s.mxe.JobsNumbered)
include numbered

/-- A relocation leaves a job for its granule, and every job that there was. -/
theorem relocate_jobs (nsid g : Nat) (src : Loc) (cls : OpClass) (high : Bool) : (s.relocate nsid g src cls high).mxe.JobsNumbered ∧
    (s.relocate nsid g src cls high).mxe.hasJob nsid g src = true ∧
      ∀ nsid' g' src', s.mxe.hasJob nsid' g' src' = true → (s.relocate nsid g src cls high).mxe.hasJob nsid' g' src' = true := by
  unfold relocate
  split
  next has => exact ⟨numbered, has, fun _ _ _ => id⟩
  · exact ⟨numbered.addJob _ _ _ _ _ _ _ _ _, Mxe.hasJob_addJob_same .., fun _ _ _ has => Mxe.hasJob_addJob numbered has ..⟩

/-- Relocations one after the other leave a job for each granule. -/
theorem relocateAll_jobs (cls : OpClass) (high : Bool) (l : List (Nat × Nat × Loc)) :
    (∀ e ∈ l, (l.foldl (fun s e => s.relocate e.1 e.2.1 e.2.2 cls high) s).mxe.hasJob e.1 e.2.1 e.2.2 = true) ∧
      ∀ nsid g src, s.mxe.hasJob nsid g src = true → (l.foldl (fun s e => s.relocate e.1 e.2.1 e.2.2 cls high) s).mxe.hasJob nsid g src = true := by
  induction l generalizing s with
  | nil => exact ⟨fun _ h => absurd h List.not_mem_nil, fun _ _ _ => id⟩
  | cons a l ih =>
    obtain ⟨next, now, kept⟩ := relocate_jobs numbered a.1 a.2.1 a.2.2 cls high
    obtain ⟨rest, later⟩ := ih next
    exact ⟨List.forall_mem_cons.mpr ⟨later _ _ _ now, rest⟩, fun nsid g src has => later _ _ _ (kept _ _ _ has)⟩

end

/-! ## A band becomes a victim (R192, R529) -/

section
variable {s : State} {b : Nat} {x : Band} (found : Tbl.find? s.mxe.bands b = some x)

/-- A band falls: it is a victim, and its copy work is queued. -/
def fallen (s : State) (b : Nat) (x : Band) (cls : OpClass) : State := (s.modMxe fun m => m.modBand b (Band.fall cls)).queueCopies { x with copyCls := cls }

theorem fallen_queues (s : State) (b : Nat) (x : Band) (cls : OpClass) : QueuesJobs (s.modMxe fun m => m.modBand b (Band.fall cls)) (s.fallen b x cls) :=
  queueCopies_queues _ _

theorem fallen_bands (s : State) (b : Nat) (x : Band) (cls : OpClass) : (s.fallen b x cls).mxe.bands = Tbl.adjust s.mxe.bands b (Band.fall cls) := by
  rw [(s.fallen_queues b x cls).frame]
  rfl

theorem fallen_frame (s : State) (b : Nat) (x : Band) (cls : OpClass) : s.fallen b x cls = { s with mxe := { s.mxe with
    bands := (s.fallen b x cls).mxe.bands, jobs := (s.fallen b x cls).mxe.jobs, nextJob := (s.fallen b x cls).mxe.nextJob } } := by
  rw [(s.fallen_queues b x cls).frame]
  rfl

/-- Every granule of a band that falls has a copy job. -/
theorem fallen_jobs (numbered : s.mxe.JobsNumbered) (b : Nat) (x : Band) (cls : OpClass) :
    ∀ e ∈ s.bandGranules x, (s.fallen b x cls).mxe.hasJob e.1 e.2.1 e.2.2 = true :=
  (relocateAll_jobs (s := s.modMxe fun m => m.modBand b (Band.fall cls)) numbered _ _ _).1

include found

theorem makeVictim_eq (cls : OpClass) : s.makeVictim b cls = s.fallen b x cls := by
  unfold makeVictim
  rw [found]
  rfl

theorem chooseVictim_closed (closed : x.state = .closed) (cls : OpClass) : s.chooseVictim b cls = s.fallen b x cls := by
  rw [← makeVictim_eq found cls]
  unfold chooseVictim
  simp only [found, closed]

theorem chooseVictim_opened (opened : x.state = .opened) (cls : OpClass) :
    s.chooseVictim b cls = (s.modMxe fun m => m.modBand b (Band.want cls)).modMxe fun m => m.modBand b (Band.pad m .high) := by
  unfold chooseVictim
  simp only [found, opened]
  rfl

theorem chooseVictim_closing (closing : x.state = .closing) (cls : OpClass) : s.chooseVictim b cls = s.modMxe fun m => m.modBand b (Band.want cls) := by
  unfold chooseVictim
  simp only [found, closing]
  rfl

theorem chooseVictim_gone (gone : x.state = .victim ∨ x.state = .released ∨ x.state = .erasing) (cls : OpClass) : s.chooseVictim b cls = s := by
  unfold chooseVictim
  obtain gone | gone | gone := gone <;> simp only [found, gone]

end

/-- VICTIM_SELECT: what the band becomes, by its state (R529). -/
theorem victimSelect_chooses {s : State} {b : Nat} {x : Band} (found : Tbl.find? s.mxe.bands b = some x) :
    ∃ t y, exec (.victimSelect b) s = .next t ∧ Tbl.find? t.mxe.bands b = some y ∧
      (x.state = .closed → y = { x with state := .victim, wanted := false, copyCls := .gc }) ∧
      (x.state = .closed → (∀ j ∈ s.mxe.jobs, j.1 < s.mxe.nextJob) → ∀ e ∈ s.bandGranules x, t.mxe.hasJob e.1 e.2.1 e.2.2 = true) ∧
      (x.state = .opened → y.state = .closing ∧ y.wanted = true ∧ y.padCls = .high) ∧ (x.state = .closing → y = { x with wanted := true, copyCls := .gc }) ∧
      (x.state = .victim ∨ x.state = .released ∨ x.state = .erasing → t = s) ∧ (∀ n, n ≠ b → Tbl.find? t.mxe.bands n = Tbl.find? s.mxe.bands n) ∧
      t = { s with mxe := { s.mxe with bands := t.mxe.bands, jobs := t.mxe.jobs, nextJob := t.mxe.nextJob } } := by
  have run : exec (.victimSelect b) s = .next (s.chooseVictim b .gc) := rfl
  rw [run]
  cases state : x.state with
  | closed =>
    refine ⟨_, x.fall .gc, congrArg _ (chooseVictim_closed found state .gc), ?_, fun _ => rfl, fun _ numbered => s.fallen_jobs numbered b x .gc, nofun, nofun, ?_, ?_,
      s.fallen_frame b x .gc⟩
    · rw [fallen_bands, Tbl.find?_adjust_same, found]
      rfl
    · simp
    · intro n hn
      rw [fallen_bands, Tbl.find?_adjust_other _ _ hn]
  | opened =>
    have padded : ((x.want .gc).pad s.mxe .high).state = .closing ∧ ((x.want .gc).pad s.mxe .high).wanted = true ∧ ((x.want .gc).pad s.mxe .high).padCls = .high := by
      simp [Band.pad, Band.want, state]
    refine ⟨_, (x.want .gc).pad s.mxe .high, congrArg _ (chooseVictim_opened found state .gc), ?_, nofun, nofun, fun _ => padded, nofun, ?_, ?_, rfl⟩
    · exact (Tbl.find?_adjust_same _ b _).trans (by rw [modMxe_mxe, Mxe.modBand, Tbl.find?_adjust_same, found]; rfl)
    · simp
    · exact fun n hn => (Tbl.find?_adjust_other _ _ hn).trans (Tbl.find?_adjust_other _ _ hn)
  | closing =>
    refine ⟨_, x.want .gc, congrArg _ (chooseVictim_closing found state .gc), ?_, nofun, nofun, nofun, fun _ => by simp [Band.want, state], ?_, ?_, rfl⟩
    · exact (Tbl.find?_adjust_same _ b _).trans (by rw [found]; rfl)
    · simp
    · exact fun n hn => Tbl.find?_adjust_other _ _ hn
  | victim | released | erasing =>
    exact ⟨_, x, congrArg _ (chooseVictim_gone found (by simp [state]) .gc), found, nofun, nofun, nofun, nofun, fun _ => rfl, fun _ _ => rfl, rfl⟩

end State

/-- An open band that is full begins to close: its members that are not retired owe a summary (R191). -/
def Band.filled (m : Mxe) (b : Band) : Band :=
  if b.state = .opened ∧ b.cap ≤ b.fill then { b with state := .closing, summaries := (b.members.filter fun y => !Tbl.has m.retired (blkKey y.1 y.2)).map Prod.fst } else b

theorem Band.filled_of_not_opened {x : Band} (m : Mxe) (h : x.state ≠ .opened) : x.filled m = x := if_neg fun ⟨opened, _⟩ => h opened

/-- A victim is released (R194). -/
def Band.release (b : Band) : Band := { b with state := .released }

namespace State

/-! ## A band closes (R191, R192) -/

/-- The band as it closes. -/
def closedBand (s : State) (x : Band) : Band := { x with state := .closed, thetaClose := some s.cdx.theta.toNat }

/-- The band closes, and its stripes leave the journal (R324). -/
def closeBand (s : State) (b : Nat) : State := (s.modMxe fun m => m.modBand b s.closedBand).releaseStripes b

theorem closeBand_eq (s : State) (b : Nat) : s.closeBand b = { s with mxe := { s.mxe with bands := Tbl.adjust s.mxe.bands b s.closedBand }, spe := (s.closeBand b).spe } :=
  (releaseStripes_touch b (s.modMxe fun m => m.modBand b s.closedBand) (m := 65536) rfl (.refl _ _)).eq_masked

theorem find?_closeBand {s : State} {b : Nat} {x : Band} (found : Tbl.find? s.mxe.bands b = some x) : Tbl.find? (s.closeBand b).mxe.bands b = some (s.closedBand x) := by
  rw [closeBand_eq]
  exact (Tbl.find?_adjust_same _ _ _).trans (by rw [found]; rfl)

theorem find?_closeBand_other (s : State) {b n : Nat} (h : n ≠ b) : Tbl.find? (s.closeBand b).mxe.bands n = Tbl.find? s.mxe.bands n := by
  rw [closeBand_eq]
  exact Tbl.find?_adjust_other _ _ h

section
variable {s : State} {b : Nat} {x : Band} (found : Tbl.find? s.mxe.bands b = some x)
include found

theorem exec_bandClose (closing : x.state = .closing) (full : x.cap ≤ x.fill) (summaries : x.summaries = []) (verified : s.bandVerifying x = false)
    (programmed : ∀ o ∈ s.dsc.ops, o.2.band = b → isProgram o.2.req.kind = false) :
    exec (.bandClose b) s = .next (if x.wanted then (s.closeBand b).fallen b (s.closedBand x) x.copyCls else s.closeBand b) := by
  have none : s.dsc.ops.any (fun o => isProgram o.2.req.kind && o.2.band == b) = false := by
    refine List.any_eq_false.mpr fun o ho both => ?_
    obtain ⟨program, own⟩ := Bool.and_eq_true_iff.mp both
    exact absurd ((programmed o ho (beq_iff_eq.mp own)).symm.trans program) (by decide)
  change execBandClose b s = _
  unfold execBandClose
  rw [found, ← makeVictim_eq (find?_closeBand found)]
  exact if_pos ⟨closing, full, summaries, verified, none⟩

theorem exec_bandOpenTimeout (opened : x.state = .opened) (late : s.passed x.opened (secTicks (s.obj Ob.OPEN_MAX_S)) = true) :
    exec (.bandOpenTimeout b) s = .next ((s.padBand b .gc).bandFilled b) := by
  change execBandOpenTimeout b s = _
  unfold execBandOpenTimeout
  rw [found]
  exact if_pos ⟨opened, late⟩

theorem exec_bandRelease (victim : x.state = .victim) (copied : s.bandCopying b x = false) (unread : s.bandReading x = false) : exec (.bandRelease b) s =
    .next { s with mxe := { s.mxe with bands := Tbl.adjust s.mxe.bands b Band.release, jobs := s.mxe.jobs.filter fun j => j.2.band != b } } := by
  change execBandRelease b s = _
  unfold execBandRelease
  rw [found]
  exact if_pos ⟨victim, copied, unread⟩

theorem exec_bandRelease_waits (busy : s.bandCopying b x = true ∨ s.bandReading x = true) : exec (.bandRelease b) s = .next s := by
  change execBandRelease b s = _
  unfold execBandRelease
  rw [found]
  refine if_neg fun ⟨_, copied, unread⟩ => ?_
  obtain busy | busy := busy
  · exact absurd (copied.symm.trans busy) (by decide)
  · exact absurd (unread.symm.trans busy) (by decide)

end

section
variable {s : State} {b : Nat} {x : Band}

/-- A band that closes unwanted stays CLOSED. -/
theorem closeBand_closes (found : Tbl.find? s.mxe.bands b = some x) (unwanted : x.wanted = false) : ∃ y, Tbl.find? (s.closeBand b).mxe.bands b = some y ∧
    y.state = (if x.wanted then .victim else .closed) ∧ y.thetaClose = some s.cdx.theta.toNat ∧ y.members = x.members ∧
    (∀ n, n ≠ b → Tbl.find? (s.closeBand b).mxe.bands n = Tbl.find? s.mxe.bands n) ∧ (s.closeBand b).mxe.map = s.mxe.map ∧ (s.closeBand b).mxe.nand = s.mxe.nand ∧
    s.closeBand b = { s with mxe := (s.closeBand b).mxe, spe := (s.closeBand b).spe } := by
  have frame := s.closeBand_eq b
  refine ⟨s.closedBand x, find?_closeBand found, by rw [unwanted]; rfl, rfl, rfl, fun n => s.find?_closeBand_other, ?_, ?_, ?_⟩
  · rw [frame]
  · rw [frame]
  · rw [frame]

/-- A band that closes while it is wanted falls at once. -/
theorem closeBand_falls (found : Tbl.find? s.mxe.bands b = some x) (wanted : x.wanted = true) {t : State}
    (falls : t = (s.closeBand b).fallen b (s.closedBand x) x.copyCls) : ∃ y, Tbl.find? t.mxe.bands b = some y ∧
    y.state = (if x.wanted then .victim else .closed) ∧ y.thetaClose = some s.cdx.theta.toNat ∧ y.members = x.members ∧
    (∀ n, n ≠ b → Tbl.find? t.mxe.bands n = Tbl.find? s.mxe.bands n) ∧ t.mxe.map = s.mxe.map ∧ t.mxe.nand = s.mxe.nand ∧ t = { s with mxe := t.mxe, spe := t.spe } := by
  have bands : t.mxe.bands = Tbl.adjust (s.closeBand b).mxe.bands b (Band.fall x.copyCls) := by rw [falls, fallen_bands]
  have frame := (s.closeBand b).fallen_frame b (s.closedBand x) x.copyCls
  rw [← falls, s.closeBand_eq b] at frame
  refine ⟨(s.closedBand x).fall x.copyCls, ?_, by rw [wanted]; rfl, rfl, rfl, fun n other => ?_, ?_, ?_, ?_⟩
  · rw [bands, Tbl.find?_adjust_same, find?_closeBand found]
    rfl
  · rw [bands, Tbl.find?_adjust_other _ _ other, s.find?_closeBand_other other]
  · rw [frame]
  · rw [frame]
  · rw [frame]

theorem padBand_bands (s : State) (b : Nat) (cls : OpClass) : (s.padBand b cls).mxe.bands = Tbl.adjust s.mxe.bands b (Band.pad s.mxe cls) := by
  rw [padBand]
  rfl

theorem bandFilled_bands (s : State) (b : Nat) : (s.bandFilled b).mxe.bands = Tbl.adjust s.mxe.bands b (Band.filled s.mxe) := by
  rw [bandFilled]
  rfl

/-- A band that is open too long is padded to its end (R191). -/
theorem padBand_filled (found : Tbl.find? s.mxe.bands b = some x) (opened : x.state = .opened) : Tbl.find? ((s.padBand b .gc).bandFilled b).mxe.bands b =
    some { x with state := .closing, padCls := .gc, summaries := (x.members.filter fun y => !Tbl.has s.mxe.retired (blkKey y.1 y.2)).map Prod.fst } := by
  rw [bandFilled_bands, padBand_bands, Tbl.find?_adjust_same, Tbl.find?_adjust_same, found, Option.map_some, Option.map_some, Band.pad, if_pos opened,
    Band.filled_of_not_opened _ (by simp)]

theorem padBand_filled_other {n : Nat} (other : n ≠ b) : Tbl.find? ((s.padBand b .gc).bandFilled b).mxe.bands n = Tbl.find? s.mxe.bands n := by
  rw [bandFilled_bands, padBand_bands, Tbl.find?_adjust_other _ _ other, Tbl.find?_adjust_other _ _ other]

end

/-! ## Folding (R194) -/

/-- The state while folding. -/
def foldingOn (s : State) : State := s.modMxe fun m => { m with folding := true }

section
variable {s : State} (low : s.lzFree < s.obj Ob.LZ_FOLD_START_PCT ∨ s.mxe.folding = true)
include low

theorem exec_foldStart_none (none : s.mxe.oldestLanding = none) : exec .foldStart s = .next s.foldingOn := by
  have still : s.foldingOn.mxe.oldestLanding = .none := none
  change execFoldStart s = _
  unfold execFoldStart
  rw [if_pos low]
  change (match s.foldingOn.mxe.oldestLanding with | some b => _ | .none => _) = _
  rw [still]
  rfl

theorem exec_foldStart_chooses {b : Nat} (oldest : s.mxe.oldestLanding = some b) : exec .foldStart s = .next (s.foldingOn.chooseVictim b .gc) := by
  have still : s.foldingOn.mxe.oldestLanding = some b := oldest
  change execFoldStart s = _
  unfold execFoldStart
  rw [if_pos low]
  change (match s.foldingOn.mxe.oldestLanding with | some b => _ | .none => _) = _
  rw [still]
  rfl

omit low in
/-- What a victim chosen while folding leaves. -/
theorem foldingOn_chooses (b : Nat) (s : State) : s.foldingOn.chooseVictim b .gc = { s with mxe := { s.mxe with
    folding := true, bands := (s.foldingOn.chooseVictim b .gc).mxe.bands, jobs := (s.foldingOn.chooseVictim b .gc).mxe.jobs
    nextJob := (s.foldingOn.chooseVictim b .gc).mxe.nextJob } } :=
  (s.foldingOn.chooseVictim_chooses b .gc).frame

omit low in
theorem folding_of_frame {t : State} (h : t = { s with mxe := { s.mxe with folding := true, bands := t.mxe.bands, jobs := t.mxe.jobs, nextJob := t.mxe.nextJob } }) :
    t.mxe.folding = true := by rw [h]

theorem foldStart_folds : ∃ t, exec .foldStart s = .next t ∧ t.mxe.folding = true ∧
    (∀ b x, s.mxe.oldestLanding = some b → Tbl.find? s.mxe.bands b = some x → x.state = .closed →
      Tbl.find? t.mxe.bands b = some { x with state := .victim, wanted := false, copyCls := .gc }) ∧
    t = { s with mxe := { s.mxe with folding := true, bands := t.mxe.bands, jobs := t.mxe.jobs, nextJob := t.mxe.nextJob } } := by
  cases oldest : s.mxe.oldestLanding with
  | none => exact ⟨s.foldingOn, exec_foldStart_none low oldest, rfl, fun _ _ none => absurd none (by simp), rfl⟩
  | some b =>
    have chosen := foldingOn_chooses b s
    have on := folding_of_frame chosen
    refine ⟨s.foldingOn.chooseVictim b .gc, exec_foldStart_chooses low oldest, on, fun c x same found closed => ?_, chosen⟩
    obtain rfl := Option.some.inj same
    have fell : Tbl.find? s.foldingOn.mxe.bands b = some x := found
    rw [chooseVictim_closed fell closed, fallen_bands, Tbl.find?_adjust_same, fell]
    rfl

end

theorem exec_foldStart_waits {s : State} (enough : s.obj Ob.LZ_FOLD_START_PCT ≤ s.lzFree) (idle : s.mxe.folding = false) : exec .foldStart s = .next s := by
  change execFoldStart s = _
  exact if_neg (by simp [enough, idle])

theorem exec_foldStop {s : State} (high : s.obj Ob.LZ_FOLD_START_PCT + 10 < s.lzFree) :
    exec .foldStop s = .next { s with mxe := { s.mxe with folding := false } } := by
  change execFoldStop s = _
  exact if_pos high

theorem exec_foldStop_waits {s : State} (low : s.lzFree ≤ s.obj Ob.LZ_FOLD_START_PCT + 10) : exec .foldStop s = .next s := by
  change execFoldStop s = _
  exact if_neg (Nat.not_lt.mpr low)

end State

/-- Settles O44: a segment that is written back, checkpointed, loaded or rebuilt, a band by its state, and folding. -/
theorem segmentsAndBandsGoTheirWay : Obligations.SegmentsAndBandsGoTheirWay := by
  unfold Obligations.SegmentsAndBandsGoTheirWay
  refine ⟨fun s nsid seg dirty => ⟨fun u l room => ⟨fun k other => State.exec_segmentWriteback_elsewhere dirty room other, ?_⟩, fun none l => State.exec_segmentWriteback_noRoom dirty none l⟩,
    fun s due u l room => ?_, fun s nsid seg listed => ?_, fun s nsid g a b => ⟨fun suspect => ?_, fun trusted => State.exec_suspectRebuild_trusted trusted a b⟩,
    fun s b x found => ⟨fun closing full summaries verified programmed => ?_, fun opened late => ?_, State.victimSelect_chooses found,
      fun victim copied unread => ⟨_, State.exec_bandRelease found victim copied unread, ?_, ?_, rfl⟩, State.exec_bandRelease_waits found⟩,
    fun s => ⟨State.foldStart_folds, State.exec_foldStart_waits, State.exec_foldStop, State.exec_foldStop_waits⟩⟩
  · obtain ⟨written, psn⟩ := State.sysWrite_writes room
    refine ⟨_, State.exec_segmentWriteback dirty room, ?_⟩
    rw [State.segmentWritten_eq (by rw [written.frame]; exact dirty), State.segmentCut_eq, written.frame]
    exact ⟨Tbl.find?_put_same _ _ _, Tbl.has_del_same _ _, (enterSegment_entered nsid seg (s.mxe.entry nsid) s.mxe.segMap).1, rfl, psn,
      ⟨State.segmentRecord nsid seg l, rfl, rfl, rfl, rfl, rfl⟩, rfl⟩
  · obtain ⟨written, psn⟩ := State.sysWrite_writes room
    refine ⟨_, State.exec_directoryCheckpoint due room, ?_⟩
    rw [written.frame]
    exact ⟨rfl, rfl, rfl, rfl, rfl, rfl, psn, rfl⟩
  · obtain ⟨entered, others⟩ := enterSegment_entered nsid seg (s.mxe.replayed nsid) s.mxe.map
    refine ⟨_, State.exec_segmentLoad listed, ?_⟩
    rw [s.segmentLoad_frame nsid seg]
    exact ⟨entered, others, rfl⟩
  · have run := State.exec_suspectRebuild suspect a b
    have set := fun e => State.entry_of_map (s.setEntry_map nsid g e)
    have frame := fun e => s.setEntry_frame nsid g e
    cases a with
    | true => exact ⟨_, run, fun _ => ⟨(set _).1, frame _⟩, nofun, nofun, (set _).2, s.setEntry_nand ..⟩
    | false =>
      cases b with
      | true => exact ⟨_, run, nofun, fun _ _ => ⟨(set _).1, frame _⟩, fun _ => nofun, (set _).2, s.setEntry_nand ..⟩
      | false =>
        have lost : (s.loseEntry nsid g lostEntry).mxe.map = _ := (congrArg Mxe.map (s.loseEntry_mxe nsid g lostEntry)).trans (s.setEntry_map nsid g MapEntry.lost)
        obtain ⟨entry, others⟩ := State.entry_of_map lost
        exact ⟨_, run, nofun, fun _ => nofun, fun _ _ => ⟨entry, s.loseEntry_frame ..⟩, others,
          (congrArg Mxe.nand (s.loseEntry_mxe nsid g lostEntry)).trans (s.setEntry_nand ..)⟩
  · have run := State.exec_bandClose found closing full summaries verified programmed
    cases wanted : x.wanted with
    | false =>
      rw [wanted] at run
      have closes := State.closeBand_closes found wanted
      rw [wanted] at closes
      obtain ⟨y, rest⟩ := closes
      exact ⟨_, y, run, rest⟩
    | true =>
      rw [wanted] at run
      have falls := State.closeBand_falls found wanted rfl
      rw [wanted] at falls
      obtain ⟨y, rest⟩ := falls
      exact ⟨_, y, run, rest⟩
  · exact ⟨_, State.exec_bandOpenTimeout found opened late, State.padBand_filled found opened, fun n => State.padBand_filled_other, rfl⟩
  · exact (Tbl.find?_adjust_same s.mxe.bands b Band.release).trans (by rw [found]; rfl)
  · exact fun n other => Tbl.find?_adjust_other s.mxe.bands Band.release other

end Sys2Proof.Machine
end

section
/-! PROOFS. Submissions to die queues (spec/08, R190 to R193, R214 to R216): reads, programs and erases as they enter a die's queue. -/

namespace Sys2Proof.Machine

/-! ## An operation enters its die's queue (R214, R215) -/

/-- From `s` to `t` an operation was submitted: it is in the table, and in a slot or the admission list of its die. -/
structure Submits (s : State) (r : OpRequest) (why : OpFor) (pages : List (Nat × Nat)) (slots : List PlaceSlot) (band : Nat) (t : State) : Prop where
  op : Tbl.find? t.dsc.ops s.dsc.nextOp = some (s.newOp r why pages slots band)
  queued : s.dsc.dieState r.die ≠ .offline → s.dsc.nextOp ∈ (t.dsc.die r.die).queue ∨ s.dsc.nextOp ∈ (t.dsc.die r.die).arriving
  frame : t = { s with dsc := { s.dsc with dies := t.dsc.dies, ops := t.dsc.ops, nextOp := s.dsc.nextOp + 1 } }

namespace Dsc

theorem place_frame (c : Dsc) (d i : Nat) (o : DieOp) : c.place d i o = { c with dies := (c.place d i o).dies } := by
  unfold place
  split <;> rfl

theorem mem_place {c : Dsc} {d : Nat} (serves : c.dieState d ≠ .offline) (i : Nat) (o : DieOp) : i ∈ ((c.place d i o).die d).queue ∨ i ∈ ((c.place d i o).die d).arriving := by
  have listed := find?_of_state (by rwa [dieState_eq] at serves)
  unfold place
  split
  · rw [die_modDie_same _ listed]
    exact .inl (by simp)
  · rw [die_modDie_same _ listed]
    exact .inr (by simp)

end Dsc

namespace State

theorem submitOp_submits (r : OpRequest) (why : OpFor) (pages : List (Nat × Nat)) (slots : List PlaceSlot) (band : Nat) (s : State) :
    Submits s r why pages slots band (s.submitOp r why pages slots band) where
  op := by
    unfold submitOp
    simp only [modDsc_dsc]
    rw [Dsc.place_frame]
    exact Tbl.find?_put_same _ _ _
  queued := fun serves => Dsc.mem_place (c := { s.dsc with ops := Tbl.put s.dsc.ops s.dsc.nextOp (s.newOp r why pages slots band), nextOp := s.dsc.nextOp + 1 }) serves _ _
  frame := by
    unfold submitOp
    simp only [modDsc]
    rw [Dsc.place_frame]

/-! ## Reads (R214, R216) -/

/-- The pace that a read of this kind sets: scrub's or the rebuild's (R296, R334). -/
def paced (why : OpFor) (r : OpRequest) (n : Nat) (s : State) : State :=
  if why = .scrub then s.scrubPaced n else if s.rebuildRead why r then s.rebuildPaced n else s

theorem paced_frame (why : OpFor) (r : OpRequest) (n : Nat) (s : State) : s.paced why r n = { s with
    cdx := { s.cdx with scrubFree := (s.paced why r n).cdx.scrubFree }, spe := { s.spe with rbFree := (s.paced why r n).spe.rbFree } } := by
  unfold paced
  split
  · rfl
  split <;> rfl

theorem paced_cdx {why : OpFor} (h : why ≠ .scrub) (r : OpRequest) (n : Nat) (s : State) : (s.paced why r n).cdx = s.cdx := by
  unfold paced
  rw [if_neg h]
  split <;> rfl

theorem paced_spe {why : OpFor} {r : OpRequest} {s : State} (h : s.rebuildRead why r = false) (n : Nat) : (s.paced why r n).spe = s.spe := by
  unfold paced
  split
  · rfl
  · rw [if_neg (by simp [h])]

/-- Blocks of so many planes from a request's block, at its page. -/
def readPages (op : OpRequest) (n : Nat) : List (Nat × Nat) := (List.range n).map fun pl => (op.block + pl, op.page)

/-- Planes that a read covers. -/
def readPlanes (s : State) (op : OpRequest) : Nat := max 1 (min op.planes (s.fca.planes - op.block % s.fca.planes))

/-- The state that a read is submitted in: jobs without a source are gone (R204), and its pace is set. -/
def charged (s : State) (op : OpRequest) (why : OpFor) (r : OpRequest) (n : Nat) : State := (s.dropStaleJobs op.die (readPages op n)).paced why r n

theorem charged_frame (s : State) (op : OpRequest) (why : OpFor) (r : OpRequest) (n : Nat) : s.charged op why r n = { s with
    mxe := { s.mxe with jobs := (s.charged op why r n).mxe.jobs }, cdx := { s.cdx with scrubFree := (s.charged op why r n).cdx.scrubFree }
    spe := { s.spe with rbFree := (s.charged op why r n).spe.rbFree } } := by
  unfold charged
  rw [paced_frame]
  rfl

theorem charged_cdx (s : State) (op : OpRequest) {why : OpFor} (h : why ≠ .scrub) (r : OpRequest) (n : Nat) : (s.charged op why r n).cdx = s.cdx :=
  paced_cdx h r n (s.dropStaleJobs op.die (readPages op n))

theorem charged_spe {s : State} (op : OpRequest) {why : OpFor} {r : OpRequest} (h : s.rebuildRead why r = false) (n : Nat) : (s.charged op why r n).spe = s.spe :=
  paced_spe (s := s.dropStaleJobs op.die (readPages op n)) h n

theorem submitRead_eq {s : State} {op r : OpRequest} {why : OpFor}
    (reader : (s.dropStaleJobs op.die (readPages op (s.readPlanes op))).readFor op (readPages op (s.readPlanes op)) = some (why, r))
    (may : why = .scrub → (s.bandAt r.die r.block).any (fun b => s.scrubMay b.2) = true) (free : s.rebuildRead why r = true → s.spe.rbFree ≤ s.now.toNat) :
    s.submitRead op = (s.charged op why r (s.readPlanes op)).submitOp { r with planes := s.readPlanes op } why
      (readPages op (s.readPlanes op)) [] (((s.bandAt r.die r.block).map Prod.fst).getD 0) := by
  unfold submitRead
  simp only [readPages, readPlanes] at reader ⊢
  rw [reader]
  refine if_neg ?_
  rintro (⟨scrub, no⟩ | ⟨rebuild, early⟩)
  · exact no (may scrub)
  · exact absurd (free rebuild) (Nat.not_le.mpr early)

theorem exec_submit_read {s : State} {op : OpRequest} (serves : s.dsc.dieState op.die ≠ .offline) (read : op.kind = .read) :
    exec (.dieOperationSubmit op) s = .next (s.submitRead op) := by
  change execDieOperationSubmit op s = _
  unfold execDieOperationSubmit
  rw [if_neg (by simp [serves, read]), read]

/-! ## Programs (R190, R191, R193) -/

theorem exec_submit_program {s : State} {op : OpRequest} (serves : s.dsc.dieState op.die ≠ .offline) (program : isProgram op.kind = true) :
    exec (.dieOperationSubmit op) s = .next (s.submitProgram op) := by
  change execDieOperationSubmit op s = _
  unfold execDieOperationSubmit
  cases kind : op.kind with
  | read | erase => rw [kind] at program; exact absurd program (by decide)
  | slcProgram | tlcProgram | qlcProgram => exact if_neg (by simp [serves])

end State

/-- One slot that satisfies `p` is taken where there is one. -/
theorem takeFit_takes {p : PlaceSlot → Bool} {q : List PlaceSlot} {x : PlaceSlot} (hx : x ∈ q) (fits : p x = true) (n : Nat) : ∃ y ∈ (takeFit p (n + 1) q).1, y ∈ q := by
  induction q with
  | nil => exact absurd hx List.not_mem_nil
  | cons a q ih =>
    unfold takeFit
    split
    · exact ⟨a, List.mem_cons_self, List.mem_cons_self⟩
    next no =>
      have later : x ∈ q := (List.mem_cons.mp hx).resolve_left fun h => no (h ▸ fits)
      obtain ⟨y, taken, mem⟩ := ih later
      exact ⟨y, taken, List.mem_cons_of_mem _ mem⟩

theorem takeFit_nil (p : PlaceSlot → Bool) (n : Nat) : takeFit p n [] = ([], []) := by
  cases n <;> rfl

/-- With nothing left to place, a page is filled with PAD. -/
theorem Band.padTo4_nil_pad (b : Band) : ∀ x ∈ b.padTo4 [], x.src = .pad := by
  intro x hx
  obtain ⟨-, rfl⟩ := List.mem_replicate.mp hx
  rfl

namespace State

/-- The fill of a page adds slots. -/
theorem fillPage_adds (s : State) (b : Band) (m : Nat × Nat) (f : Filling) (p : Nat × Nat) : ∃ ys, (s.fillPage b m f p).slots = f.slots ++ ys := by
  unfold fillPage
  split
  · exact ⟨_, rfl⟩
  split
  · exact ⟨_, rfl⟩
  · exact ⟨_, rfl⟩

theorem fillPages_adds (s : State) (b : Band) (m : Nat × Nat) (l : List (Nat × Nat)) (f : Filling) : ∃ ys, (l.foldl (s.fillPage b m) f).slots = f.slots ++ ys := by
  induction l generalizing f with
  | nil => exact ⟨[], (List.append_nil _).symm⟩
  | cons p l ih =>
    obtain ⟨ys, here⟩ := s.fillPage_adds b m f p
    obtain ⟨zs, later⟩ := ih (s.fillPage b m f p)
    exact ⟨ys ++ zs, by rw [List.foldl_cons, later, here, List.append_assoc]⟩

/-- A page filled from nothing. -/
theorem fillPage_empty (s : State) (b : Band) (m : Nat × Nat) {f : Filling} (p : Nat × Nat) (queue : f.queue = []) (pads : ∀ x ∈ f.slots, x.src = .pad) :
    (s.fillPage b m f p).queue = [] ∧ ∀ x ∈ (s.fillPage b m f p).slots, x.src = .pad := by
  have both : ∀ x ∈ f.slots ++ b.padTo4 [], x.src = .pad := fun x hx => (List.mem_append.mp hx).elim (pads x) (b.padTo4_nil_pad x)
  unfold fillPage
  split
  · simp only [queue, takeFit_nil]
    exact ⟨trivial, both⟩
  split
  next found =>
    rw [queue] at found
    exact absurd found (by simp)
  · exact ⟨queue, both⟩

theorem fillPages_empty (s : State) (b : Band) (m : Nat × Nat) (l : List (Nat × Nat)) {f : Filling} (queue : f.queue = []) (pads : ∀ x ∈ f.slots, x.src = .pad) :
    ∀ x ∈ (l.foldl (s.fillPage b m) f).slots, x.src = .pad := by
  induction l generalizing f with
  | nil => exact pads
  | cons p l ih =>
    obtain ⟨queue', pads'⟩ := s.fillPage_empty b m p queue pads
    exact ih queue' pads'

/-- A page takes a slot that waits where one may go to the band's die. -/
theorem fillPage_takes {s : State} {b : Band} {m : Nat × Nat} {f : Filling} (cont : f.cont = []) (whole : ∀ x ∈ f.queue, x.gsize = 0 ∧ x.src ≠ .pad)
    (fits : ∃ x ∈ f.queue, s.placeable b m.1 x = true) (p : Nat × Nat) : ∃ y ∈ (s.fillPage b m f p).slots, y.src ≠ .pad := by
  obtain ⟨x, hx, may⟩ := fits
  have found : ∃ w, f.queue.find? (fun x => s.placeable b m.1 x && (x.gsize != 2 || (x.goff == 0 && s.fourPages b m p.1 p.2))) = some w :=
    Option.isSome_iff_exists.mp (List.find?_isSome.mpr ⟨x, hx, by simp [may, (whole x hx).1]⟩)
  obtain ⟨w, found⟩ := found
  have small := (whole w (List.mem_of_find?_eq_some found)).1
  obtain ⟨y, taken, mem⟩ := takeFit_takes (p := fun y => s.placeable b m.1 y && (if w.gsize = 0 then y.gsize == 0 else y.mate w && decide (y.goff < 4))) hx
    (by simp [may, small, (whole x hx).1]) 3
  refine ⟨y, ?_, (whole y mem).2⟩
  unfold fillPage
  rw [cont, List.find?_nil]
  simp only [found]
  exact List.mem_append_right _ (List.mem_append_left _ taken)

/-! A program's data: the slots it takes. -/

/-- What a program of a band takes from what waits. -/
def dataFill (s : State) (b : Band) (r : OpRequest) : Filling :=
  (s.dataPages b r).foldl (s.fillPage b (r.die, s.fca.sbOf r.block)) { queue := if b.state = .opened then s.mxe.place else [], cont := b.cont, slots := [] }

/-- The band and what waits after a program has taken its slots. -/
def dataTaken (n : Nat) (b : Band) (r : OpRequest) (s : State) : State :=
  s.modMxe fun m => { (m.modBand n fun x => { x with cont := (s.dataFill b r).cont }) with place := if b.state = .opened then (s.dataFill b r).queue else m.place }

theorem dataTaken_bands (n : Nat) (b : Band) (r : OpRequest) (s : State) :
    (s.dataTaken n b r).mxe.bands = Tbl.adjust s.mxe.bands n fun x => { x with cont := (s.dataFill b r).cont } := rfl

/-- The request of a program that carries the slots of a filling. -/
def dataRequest (b : Band) (r : OpRequest) (f : Filling) : OpRequest :=
  { r with cls := ((f.slots.find? fun x => x.src != .pad).map PlaceSlot.cls).getD b.padCls, slice := ((f.slots.find? fun x => x.src != .pad).map PlaceSlot.slice).getD b.slice }

theorem submitData_eq (n : Nat) (b : Band) (r : OpRequest) (s : State) : s.submitData n b r =
    if b.state = .opened ∧ (s.dataFill b r).slots.all (fun x => x.src == .pad) = true then s
    else (s.dataTaken n b r).submitOp (dataRequest b r (s.dataFill b r)) .place (s.dataPages b r) (s.dataFill b r).slots n := rfl

theorem submitData_frame (n : Nat) (b : Band) (r : OpRequest) (s : State) : s.submitData n b r = { s with
    dsc := { s.dsc with dies := (s.submitData n b r).dsc.dies, ops := (s.submitData n b r).dsc.ops, nextOp := (s.submitData n b r).dsc.nextOp }
    mxe := { s.mxe with bands := (s.submitData n b r).mxe.bands, place := (s.submitData n b r).mxe.place } } := by
  rw [submitData_eq]
  split
  · rfl
  · rw [(submitOp_submits (dataRequest b r (s.dataFill b r)) .place (s.dataPages b r) (s.dataFill b r).slots n (s.dataTaken n b r)).frame]
    rfl

/-- The band of a program keeps all but what it carries on. -/
theorem submitData_band {n : Nat} {x : Band} {s : State} (found : Tbl.find? s.mxe.bands n = some x) (b : Band) (r : OpRequest) :
    ∃ cont, Tbl.find? (s.submitData n b r).mxe.bands n = some { x with cont := cont } := by
  rw [submitData_eq]
  split
  · exact ⟨x.cont, found⟩
  · refine ⟨(s.dataFill b r).cont, ?_⟩
    simp only [submitOp_units]
    rw [dataTaken_bands, Tbl.find?_adjust_same, found, Option.map_some]

theorem submitProgram_data {s : State} {op : OpRequest} {n : Nat} {b : Band} (good : Tbl.has s.mxe.retired (blkKey op.die (s.fca.sbOf op.block)) = false)
    (band : s.bandAt op.die op.block = some (n, b)) (mode : modeKind b.mode = op.kind) (order : s.inOrder op = true)
    (takes : (b.state = .closing ∧ b.fill < b.cap ∧ s.psPending = false) ∨ b.state = .opened) : s.submitProgram op = s.submitData n b op := by
  unfold submitProgram
  rw [if_neg (by simp [good]), band]
  dsimp only
  rw [if_neg (by simp [mode])]
  obtain ⟨closing, room, none⟩ | opened := takes
  · rw [if_neg (by simp [none]), if_neg fun ⟨_, full⟩ => Nat.not_le.mpr room full, if_pos ⟨.inr closing, order⟩]
  · rw [if_neg (by simp [opened]), if_neg (by simp [opened]), if_pos ⟨.inl opened, order⟩]

theorem submitProgram_open {s : State} {op : OpRequest} {x : PlaceSlot} (good : Tbl.has s.mxe.retired (blkKey op.die (s.fca.sbOf op.block)) = false)
    (none : s.bandAt op.die op.block = none) (order : s.inOrder op = true) (first : s.firstFor op = some x) (free : s.freeBlock op.die (s.fca.sbOf op.block) = true)
    (limit : (s.mxe.openBands.filter fun e => e.2.kind == x.kind).length < kindLimit x.kind)
    (room : s.lzRoom x.kind (s.newMembers x.kind x.slice op.die (s.fca.sbOf op.block)).length = true) : s.submitProgram op =
      (s.modMxe fun m => { m with bands := Tbl.put m.bands m.bsn (s.newBand x (s.newMembers x.kind x.slice op.die (s.fca.sbOf op.block)) x.cls), bsn := m.bsn + 1 }).submitData
        s.mxe.bsn (s.newBand x (s.newMembers x.kind x.slice op.die (s.fca.sbOf op.block)) x.cls) op := by
  unfold submitProgram
  rw [if_neg (by simp [good]), none]
  refine (if_pos order).trans ?_
  unfold openBand
  rw [first]
  exact if_pos ⟨free, limit, room⟩

/-! ## Erases (R192, R205, R332) -/

theorem exec_submit_erase {s : State} {op : OpRequest} (serves : s.dsc.dieState op.die ≠ .offline) (awake : s.psPending = false) (erase : op.kind = .erase) :
    exec (.dieOperationSubmit op) s = .next (s.submitErase op) := by
  change execDieOperationSubmit op s = _
  unfold execDieOperationSubmit
  rw [if_neg (by simp [serves, awake]), erase]

/-- A band of which an erase has been issued. -/
def eraseFrom (s : State) (n : Nat) (b : Band) (d : Nat) : State :=
  (if b.state = .released then s.modMxe fun m => m.eraseBegin n else s).modMxe fun m => m.eraseIssued n d

theorem eraseFrom_frame (s : State) (n : Nat) (b : Band) (d : Nat) : s.eraseFrom n b d = { s with mxe := { s.mxe with bands := (s.eraseFrom n b d).mxe.bands } } := by
  unfold eraseFrom
  split <;> rfl

/-- An erase covers a superblock's planes, at GC class. -/
def eraseRequest (s : State) (op : OpRequest) : OpRequest := { op with cls := .gc, block := s.fca.sbOf op.block * s.fca.planes, planes := s.fca.planes }

section
variable {s : State} {op : OpRequest} (good : Tbl.has s.mxe.retired (blkKey op.die (s.fca.sbOf op.block)) = false)
include good

theorem submitErase_band {n : Nat} {b : Band} (band : s.bandAt op.die op.block = some (n, b)) (gone : b.state = .released ∨ b.state = .erasing)
    (first : ∀ o ∈ s.dsc.ops, ¬(o.2.req.die = op.die ∧ o.2.why = .erase n)) : s.submitErase op = (s.eraseFrom n b op.die).submitOp (s.eraseRequest op) (.erase n) [] [] n := by
  have none : s.dsc.ops.any (fun o => o.2.req.die == op.die && o.2.why == .erase n) = false :=
    List.any_eq_false.mpr fun o ho both => first o ho (by simpa using both)
  unfold submitErase
  dsimp only
  rw [if_neg (by simp [good]), band]
  dsimp only
  refine (if_pos ⟨gone, ?unsent⟩).trans ?sent
  case unsent => split <;> exact (Bool.not_eq_true _).mpr none
  case sent =>
    unfold eraseFrom eraseRequest
    split <;> rfl

theorem submitErase_closed {n : Nat} {b : Band} (band : s.bandAt op.die op.block = some (n, b)) (held : b.state ≠ .released) (still : b.state ≠ .erasing) :
    s.submitErase op = s := by
  unfold submitErase
  dsimp only
  rw [if_neg (by simp [good]), band]
  dsimp only
  rw [if_neg held, if_neg (by simp [held, still])]

theorem submitErase_noBand (none : s.bandAt op.die op.block = none) : s.submitErase op = s.submitOp (s.eraseRequest op) .other [] [] 0 := by
  unfold submitErase
  dsimp only
  rw [if_neg (by simp [good]), none]
  rfl

end

/-! ## What each submission leaves -/

theorem submit_read {s : State} {op r : OpRequest} {why : OpFor} {n : Nat} (serves : s.dsc.dieState op.die ≠ .offline) (read : op.kind = .read) (planes : n = s.readPlanes op)
    (reader : (s.dropStaleJobs op.die (readPages op n)).readFor op (readPages op n) = some (why, r))
    (may : why = .scrub → (s.bandAt r.die r.block).any (fun b => s.scrubMay b.2) = true) (free : s.rebuildRead why r = true → s.spe.rbFree ≤ s.now.toNat) :
    ∃ t o, exec (.dieOperationSubmit op) s = .next t ∧ Tbl.find? t.dsc.ops s.dsc.nextOp = some o ∧ o.why = why ∧ o.req = { r with planes := n } ∧ o.submit = s.now ∧
      o.pages = readPages op n ∧ (r.die = op.die → s.dsc.nextOp ∈ (t.dsc.die op.die).queue ∨ s.dsc.nextOp ∈ (t.dsc.die op.die).arriving) ∧
      (why ≠ .scrub → t.cdx = s.cdx) ∧ (s.rebuildRead why r = false → t.spe = s.spe) ∧
      t = { s with
        dsc := { s.dsc with dies := t.dsc.dies, ops := t.dsc.ops, nextOp := s.dsc.nextOp + 1 }, mxe := { s.mxe with jobs := t.mxe.jobs }
        cdx := { s.cdx with scrubFree := t.cdx.scrubFree }, spe := { s.spe with rbFree := t.spe.rbFree } } := by
  subst planes
  have frame := s.charged_frame op why r (s.readPlanes op)
  have dsc : (s.charged op why r (s.readPlanes op)).dsc = s.dsc := by rw [frame]
  have now : (s.charged op why r (s.readPlanes op)).now = s.now := by
    rw [frame]
    rfl
  obtain ⟨found, queued, sent⟩ := submitOp_submits { r with planes := s.readPlanes op } why (readPages op (s.readPlanes op)) []
    (((s.bandAt r.die r.block).map Prod.fst).getD 0) (s.charged op why r (s.readPlanes op))
  rw [dsc] at found queued
  refine ⟨_, _, (exec_submit_read serves read).trans (congrArg _ (submitRead_eq reader may free)), found, rfl, rfl, now, rfl, fun die => ?_, fun other => ?_, fun other => ?_, ?_⟩
  · rw [← die] at serves ⊢
    exact queued serves
  · exact (congrArg State.cdx sent).trans (s.charged_cdx op other r _)
  · exact (congrArg State.spe sent).trans (charged_spe op other _)
  · rw [sent, frame]

/-- A program of the band's next pages takes what waits for it, or PAD while the band closes. -/
theorem dataFill_closing {s : State} {b : Band} (closing : b.state = .closing) (r : OpRequest) : ∀ x ∈ (s.dataFill b r).slots, x.src = .pad :=
  s.fillPages_empty b (r.die, s.fca.sbOf r.block) (s.dataPages b r) (f := { queue := if b.state = .opened then s.mxe.place else [], cont := b.cont, slots := [] })
    (if_neg (by simp [closing])) (fun _ h => absurd h List.not_mem_nil)

theorem dataFill_opened {s : State} {b : Band} {r : OpRequest} (opened : b.state = .opened) (cont : b.cont = []) (pages : s.dataPages b r ≠ [])
    (whole : ∀ x ∈ s.mxe.place, x.gsize = 0 ∧ x.src ≠ .pad) (fits : ∃ x ∈ s.mxe.place, s.placeable b r.die x = true) : ∃ y ∈ (s.dataFill b r).slots, y.src ≠ .pad := by
  unfold dataFill
  rw [if_pos opened]
  obtain ⟨p, l, eq⟩ := List.exists_cons_of_ne_nil pages
  rw [eq, List.foldl_cons]
  obtain ⟨y, taken, data⟩ := fillPage_takes (s := s) (b := b) (m := (r.die, s.fca.sbOf r.block)) (f := { queue := s.mxe.place, cont := b.cont, slots := [] }) cont whole fits p
  obtain ⟨ys, later⟩ := s.fillPages_adds b (r.die, s.fca.sbOf r.block) l (s.fillPage b (r.die, s.fca.sbOf r.block) { queue := s.mxe.place, cont := b.cont, slots := [] } p)
  exact ⟨y, later ▸ List.mem_append_left _ taken, data⟩

theorem submit_program {s : State} {op : OpRequest} {n : Nat} {b : Band} (serves : s.dsc.dieState op.die ≠ .offline) (program : isProgram op.kind = true)
    (good : Tbl.has s.mxe.retired (blkKey op.die (s.fca.sbOf op.block)) = false) (band : s.bandAt op.die op.block = some (n, b)) (mode : modeKind b.mode = op.kind)
    (order : s.inOrder op = true)
    (takes : (b.state = .closing ∧ b.fill < b.cap ∧ s.psPending = false) ∨ (b.state = .opened ∧ b.cont = [] ∧ s.dataPages b op ≠ [] ∧
      (∀ x ∈ s.mxe.place, x.gsize = 0 ∧ x.src ≠ .pad) ∧ ∃ x ∈ s.mxe.place, s.placeable b op.die x = true)) :
    ∃ t o, exec (.dieOperationSubmit op) s = .next t ∧ Tbl.find? t.dsc.ops s.dsc.nextOp = some o ∧ o.why = .place ∧ o.band = n ∧ o.pages = s.dataPages b op ∧ o.submit = s.now ∧
      (b.state = .closing → o.req.cls = b.padCls ∧ ∀ x ∈ o.slots, x.src = .pad) ∧ (s.dsc.nextOp ∈ (t.dsc.die op.die).queue ∨ s.dsc.nextOp ∈ (t.dsc.die op.die).arriving) ∧
      t = { s with dsc := { s.dsc with dies := t.dsc.dies, ops := t.dsc.ops, nextOp := s.dsc.nextOp + 1 }, mxe := { s.mxe with bands := t.mxe.bands, place := t.mxe.place } } := by
  have data : s.submitProgram op = s.submitData n b op := submitProgram_data good band mode order (takes.imp id And.left)
  have carries : ¬(b.state = .opened ∧ (s.dataFill b op).slots.all (fun x => x.src == .pad) = true) := by
    rintro ⟨opened, pads⟩
    obtain ⟨closing, -⟩ | ⟨-, cont, pages, whole, fits⟩ := takes
    · exact absurd (opened.symm.trans closing) (by decide)
    · obtain ⟨y, taken, other⟩ := dataFill_opened opened cont pages whole fits
      exact other (beq_iff_eq.mp (List.all_eq_true.mp pads y taken))
  have run : exec (.dieOperationSubmit op) s = .next ((s.dataTaken n b op).submitOp (dataRequest b op (s.dataFill b op)) .place (s.dataPages b op) (s.dataFill b op).slots n) :=
    (exec_submit_program serves program).trans (congrArg _ (data.trans ((submitData_eq n b op s).trans (if_neg carries))))
  obtain ⟨found, queued, sent⟩ := submitOp_submits (dataRequest b op (s.dataFill b op)) .place (s.dataPages b op) (s.dataFill b op).slots n (s.dataTaken n b op)
  refine ⟨_, _, run, found, rfl, rfl, rfl, rfl, fun closing => ?_, queued serves, ?_⟩
  · have pads := dataFill_closing (s := s) closing op
    have none : (s.dataFill b op).slots.find? (fun x => x.src != .pad) = none := List.find?_eq_none.mpr fun x hx => by simp [pads x hx]
    exact ⟨by simp [newOp, dataRequest, none], pads⟩
  · rw [sent]
    rfl

theorem submit_opens {s : State} {op : OpRequest} {x : PlaceSlot} (serves : s.dsc.dieState op.die ≠ .offline) (program : isProgram op.kind = true)
    (good : Tbl.has s.mxe.retired (blkKey op.die (s.fca.sbOf op.block)) = false) (none : s.bandAt op.die op.block = none) (order : s.inOrder op = true)
    (first : s.firstFor op = some x) (free : s.freeBlock op.die (s.fca.sbOf op.block) = true) (limit : (s.mxe.openBands.filter fun e => e.2.kind == x.kind).length < kindLimit x.kind)
    (room : s.lzRoom x.kind (s.newMembers x.kind x.slice op.die (s.fca.sbOf op.block)).length = true) : ∃ t b, exec (.dieOperationSubmit op) s = .next t ∧
      Tbl.find? t.mxe.bands s.mxe.bsn = some b ∧ b.kind = x.kind ∧ b.state = .opened ∧ b.bsn = s.mxe.bsn ∧ b.members = s.newMembers x.kind x.slice op.die (s.fca.sbOf op.block) ∧
      t = { s with
        dsc := { s.dsc with dies := t.dsc.dies, ops := t.dsc.ops, nextOp := t.dsc.nextOp }
        mxe := { s.mxe with bands := t.mxe.bands, place := t.mxe.place, bsn := s.mxe.bsn + 1 } } := by
  have run := (exec_submit_program serves program).trans (congrArg _ (submitProgram_open good none order first free limit room))
  generalize new : s.newBand x (s.newMembers x.kind x.slice op.die (s.fca.sbOf op.block)) x.cls = b at run
  obtain ⟨cont, found⟩ := submitData_band (s := s.modMxe fun m => { m with bands := Tbl.put m.bands m.bsn b, bsn := m.bsn + 1 }) (Tbl.find?_put_same _ _ _) b op
  refine ⟨_, { b with cont := cont }, run, found, ?_, ?_, ?_, ?_, ?_⟩
  · rw [← new]; rfl
  · rw [← new]; rfl
  · rw [← new]; rfl
  · rw [← new]; rfl
  · rw [submitData_frame]
    rfl

theorem submit_erase {s : State} {op : OpRequest} {n : Nat} {b : Band} (serves : s.dsc.dieState op.die ≠ .offline) (awake : s.psPending = false) (erase : op.kind = .erase)
    (good : Tbl.has s.mxe.retired (blkKey op.die (s.fca.sbOf op.block)) = false) (band : s.bandAt op.die op.block = some (n, b)) (gone : b.state = .released ∨ b.state = .erasing)
    (first : ∀ o ∈ s.dsc.ops, ¬(o.2.req.die = op.die ∧ o.2.why = .erase n)) :
    ∃ t o, exec (.dieOperationSubmit op) s = .next t ∧ Tbl.find? t.dsc.ops s.dsc.nextOp = some o ∧ o.why = .erase n ∧
      o.req = { op with cls := .gc, block := s.fca.sbOf op.block * s.fca.planes, planes := s.fca.planes } ∧ o.submit = s.now ∧
      (s.dsc.nextOp ∈ (t.dsc.die op.die).queue ∨ s.dsc.nextOp ∈ (t.dsc.die op.die).arriving) ∧
      t = { s with dsc := { s.dsc with dies := t.dsc.dies, ops := t.dsc.ops, nextOp := s.dsc.nextOp + 1 }, mxe := { s.mxe with bands := t.mxe.bands } } := by
  have frame := s.eraseFrom_frame n b op.die
  have dsc : (s.eraseFrom n b op.die).dsc = s.dsc := by rw [frame]
  have now : (s.eraseFrom n b op.die).now = s.now := by
    rw [frame]
    rfl
  obtain ⟨found, queued, sent⟩ := submitOp_submits (s.eraseRequest op) (.erase n) [] [] n (s.eraseFrom n b op.die)
  rw [dsc] at found queued
  refine ⟨_, _, (exec_submit_erase serves awake erase).trans (congrArg _ (submitErase_band good band gone first)), found, rfl, rfl, now, queued serves, ?_⟩
  rw [sent, frame]

theorem submit_erase_noBand {s : State} {op : OpRequest} (serves : s.dsc.dieState op.die ≠ .offline) (awake : s.psPending = false) (erase : op.kind = .erase)
    (good : Tbl.has s.mxe.retired (blkKey op.die (s.fca.sbOf op.block)) = false) (none : s.bandAt op.die op.block = none) :
    ∃ t o, exec (.dieOperationSubmit op) s = .next t ∧ Tbl.find? t.dsc.ops s.dsc.nextOp = some o ∧ o.why = .other ∧
      t = { s with dsc := { s.dsc with dies := t.dsc.dies, ops := t.dsc.ops, nextOp := s.dsc.nextOp + 1 } } :=
  have sent := submitOp_submits (s.eraseRequest op) .other [] [] 0 s
  ⟨_, _, (exec_submit_erase serves awake erase).trans (congrArg _ (submitErase_noBand good none)), sent.op, rfl, sent.frame⟩

theorem submit_refused {s : State} {op : OpRequest} (h : s.dsc.dieState op.die = .offline ∨ (s.psPending = true ∧ op.kind = .erase)) :
    exec (.dieOperationSubmit op) s = .next s := by
  change execDieOperationSubmit op s = _
  unfold execDieOperationSubmit
  exact if_pos h

end State

end Sys2Proof.Machine
end

section
/-! PROOFS. Starts of die operations (spec/08, R217, R224, R226, R229, R255): the operation that leads, what its start sends, and what the write guard withholds. -/

namespace Sys2Proof.Machine

/-! ## What runs -/

/-- The dies run the same operations, and hold the same tokens. -/
structure SameRunning (c c' : Dsc) : Prop where
  active : ∀ d, (c'.die d).active = (c.die d).active
  held : c'.held = c.held

namespace SameRunning

theorem refl (c : Dsc) : SameRunning c c := ⟨fun _ => rfl, rfl⟩

theorem trans {a b c : Dsc} (h : SameRunning a b) (k : SameRunning b c) : SameRunning a c := ⟨fun d => (k.active d).trans (h.active d), k.held.trans h.held⟩

theorem ofEq {a b : Dsc} (h : b = a) : SameRunning a b := by
  rw [h]
  exact refl a

theorem foldl {α : Type} (f : State → α → State) (l : List α) (s : State) (h : ∀ t x, SameRunning t.dsc (f t x).dsc) : SameRunning s.dsc (l.foldl f s).dsc := by
  induction l generalizing s with
  | nil => exact refl _
  | cons a l ih => exact (h s a).trans (ih _)

end SameRunning

namespace Dsc

theorem modDie_running (c : Dsc) (d : Nat) (f : Die → Die) (keeps : ∀ x, (f x).active = x.active) : SameRunning c (c.modDie d f) where
  active e := by
    by_cases h : e = d
    · subst h
      unfold die modDie Tbl.getD
      rw [Tbl.find?_adjust_same]
      cases Tbl.find? c.dies e with
      | none => rfl
      | some x => exact keeps x
    · rw [die_modDie_other c f h]
  held := rfl

theorem place_running (c : Dsc) (d i : Nat) (o : DieOp) : SameRunning c (c.place d i o) := by
  unfold place
  split <;> exact modDie_running _ _ _ fun _ => rfl

end Dsc

namespace State

theorem submitOp_running (r : OpRequest) (why : OpFor) (pages : List (Nat × Nat)) (slots : List PlaceSlot) (band : Nat) (s : State) :
    SameRunning s.dsc (s.submitOp r why pages slots band).dsc := by
  have listed : SameRunning s.dsc { s.dsc with ops := Tbl.put s.dsc.ops s.dsc.nextOp (s.newOp r why pages slots band), nextOp := s.dsc.nextOp + 1 } := ⟨fun _ => rfl, rfl⟩
  unfold submitOp
  exact listed.trans (Dsc.place_running _ _ _ _)

/-- An operation enters a slot of its die (R215). -/
def enterSlot (i : Nat) (x : Die) : Die := { x with queue := x.queue ++ [i], arriving := x.arriving.filter (· != i) }

theorem fill_running (s : State) (n : Nat) : SameRunning s.dsc (s.fill n).dsc := by
  have slots : ∀ (fuel : Nat) (s : State), SameRunning s.dsc (s.fillSlots n fuel).dsc := by
    intro fuel
    induction fuel with
    | zero => exact fun s => .refl _
    | succ fuel ih =>
      intro s
      unfold fillSlots
      split
      next i _ =>
        exact (s.dsc.modDie_running n (enterSlot i) fun _ => rfl).trans (ih (s.modDsc fun c => c.modDie n (enterSlot i)))
      · exact .refl _
  exact slots 7 s

theorem submitParity_running (x : Stripe) (b : Band) (i : Nat) (q : Bool) (payload : Nat) (cls : OpClass) (s : State) :
    SameRunning s.dsc (s.submitParity x b i q payload cls).dsc :=
  submitOp_running _ _ _ _ _ s

theorem sealStripe_running (x : Stripe) (b : Band) (cls : OpClass) (s : State) : SameRunning s.dsc (s.sealStripe x b cls).dsc := by
  have logged : SameRunning s.dsc ((s.modSpe fun p => p.modStripe x fun y => { y with state := .sealing }).stripeLogged).dsc := .refl _
  unfold sealStripe
  split
  · dsimp only
    cases x.cls with
    | none => exact logged
    | p => exact logged.trans (submitParity_running ..)
    | pq => exact (logged.trans (submitParity_running ..)).trans (submitParity_running ..)
  · exact .refl _

theorem stripeIssue_running (band : Nat) (b : Band) (m : Nat × Nat) (block page psn payload : Nat) (cls : OpClass) (s : State) :
    SameRunning s.dsc (s.stripeIssue band b m block page psn payload cls).dsc := by
  unfold stripeIssue
  dsimp only
  split
  · split
    · exact (SameRunning.ofEq (by split <;> simp)).trans (sealStripe_running ..)
    · exact .ofEq (by split <;> simp)
  · exact .ofEq (by split <;> simp)

/-! ## A program starts (R188, R193, R323) -/

theorem dropCopies_mxe (bad : List PlaceSlot) (s : State) :
    (s.dropCopies bad).mxe = { s.mxe with jobs := (s.dropCopies bad).mxe.jobs, place := (s.dropCopies bad).mxe.place } := by
  unfold dropCopies
  induction bad generalizing s with
  | nil => rfl
  | cons x bad ih =>
    rw [List.foldl_cons]
    refine (ih _).trans ?_
    split <;> rfl

/-- The units of a program's pages join their stripes. -/
def stripesIssued (o : DieOp) (b : Band) (s : State) : State :=
  o.pages.zipIdx.foldl (fun s p => s.stripeIssue o.band b (o.req.die, s.fca.sbOf o.req.block) p.1.1 p.1.2 o.psn (s.pageOf b o p.2).payload o.eff) s

theorem stripesIssued_mxe (o : DieOp) (b : Band) (s : State) : (s.stripesIssued o b).mxe = s.mxe := by
  unfold stripesIssued
  generalize o.pages.zipIdx = l
  induction l generalizing s with
  | nil => rfl
  | cons p l ih => exact (ih _).trans (by simp)

theorem stripesIssued_running (o : DieOp) (b : Band) (s : State) : SameRunning s.dsc (s.stripesIssued o b).dsc :=
  SameRunning.foldl _ _ _ fun _ _ => stripeIssue_running ..

/-- The operation as its program starts. -/
def encoded (s : State) (o : DieOp) (b : Band) : DieOp :=
  { o with psn := s.mxe.psn, stamp := s.stamp o.req.die, slots := o.slots.map fun x => if s.granuleBad o x then b.padSlot else s.encodeSlot x }

/-- The state as a program's slots are encoded (R308 to R310), and their writes are in MEDIA (R95). -/
def programCarried (i : Nat) (o : DieOp) (b : Band) (s : State) : State :=
  (((s.dropCopies (o.slots.filter s.copyPoisoned)).encodeEvents (s.encoded o b).slots).modOp i fun x => { x with
      psn := (s.encoded o b).psn, stamp := (s.encoded o b).stamp, slots := (s.encoded o b).slots }).slotsSubmitted (s.encoded o b).slots

/-- A program takes its PSN (R188). -/
def takePsn (o : DieOp) (b : Band) (s : State) : State :=
  s.modMxe fun m => { m with psn := m.psn + 1, modes := Tbl.put m.modes (blkKey o.req.die (s.fca.sbOf o.req.block)) b.mode }

end State

/-- Bands and queues change, and nothing that runs. -/
structure BandsChange (s t : State) : Prop where
  running : SameRunning s.dsc t.dsc
  mxe : t.mxe = { s.mxe with bands := t.mxe.bands }

namespace BandsChange

theorem refl (s : State) : BandsChange s s := ⟨.refl _, rfl⟩

theorem trans {s t u : State} (h : BandsChange s t) (k : BandsChange t u) : BandsChange s u := ⟨h.running.trans k.running, by rw [k.mxe, h.mxe]⟩

/-- A band changes, and begins to close where it is full. -/
theorem filled {s t : State} (h : BandsChange s t) (n : Nat) (f : Band → Band) : BandsChange s ((t.modMxe fun m => m.modBand n f).bandFilled n) := by
  refine h.trans ?_
  rw [State.bandFilled]
  exact ⟨.refl _, rfl⟩

end BandsChange

namespace State

theorem stripesIssued_bands (o : DieOp) (b : Band) (s : State) : BandsChange s (s.stripesIssued o b) :=
  ⟨stripesIssued_running o b s, by rw [stripesIssued_mxe]⟩

/-- Once its slots are encoded, a program's start changes bands and stripes. -/
theorem startProgram_bands {s : State} {o : DieOp} {b : Band} (found : Tbl.find? s.mxe.bands o.band = some b) (i : Nat) : BandsChange ((s.programCarried i o b).takePsn o b) (s.startProgram i o) := by
  unfold startProgram
  rw [found]
  dsimp only
  split
  · refine BandsChange.filled ?_ _ _
    exact stripesIssued_bands (s.encoded o b) b ((s.programCarried i o b).takePsn o b)
  · refine BandsChange.filled ?_ _ _
    exact .refl ((s.programCarried i o b).takePsn o b)
  · exact .refl _

theorem programCarried_running (i : Nat) (o : DieOp) (b : Band) (s : State) : SameRunning s.dsc (s.programCarried i o b).dsc := by
  unfold programCarried
  simp only [slotsSubmitted_units, modOp, modDsc_dsc, encodeEvents_units, dropCopies_units]
  exact ⟨fun _ => rfl, rfl⟩

theorem programCarried_mxe (i : Nat) (o : DieOp) (b : Band) (s : State) : (s.programCarried i o b).mxe = { s.mxe with
    jobs := (s.programCarried i o b).mxe.jobs, place := (s.programCarried i o b).mxe.place } := by
  have carried : (s.programCarried i o b).mxe = (s.dropCopies (o.slots.filter s.copyPoisoned)).mxe := by simp [programCarried]
  rw [carried, dropCopies_mxe]

/-- What a program's start does to what runs and to the map engine. -/
theorem startProgram_keeps (s : State) (i : Nat) (o : DieOp) : SameRunning s.dsc (s.startProgram i o).dsc ∧ (s.startProgram i o).mxe.map = s.mxe.map ∧
    (s.startProgram i o).mxe.nand = s.mxe.nand ∧ ∀ b, Tbl.find? s.mxe.bands o.band = some b → (s.startProgram i o).mxe.psn = s.mxe.psn + 1 := by
  cases found : Tbl.find? s.mxe.bands o.band with
  | none =>
    have same : s.startProgram i o = s := by
      unfold startProgram
      rw [found]
    rw [same]
    exact ⟨.refl _, rfl, rfl, fun _ h => absurd h (by simp)⟩
  | some b =>
    obtain ⟨running, mxe⟩ := startProgram_bands found i
    have carried := s.programCarried_mxe i o b
    have taken : ((s.programCarried i o b).takePsn o b).mxe = { (s.programCarried i o b).mxe with
        psn := (s.programCarried i o b).mxe.psn + 1, modes := ((s.programCarried i o b).takePsn o b).mxe.modes } := rfl
    refine ⟨(s.programCarried_running i o b).trans running, ?_, ?_, fun _ _ => ?_⟩
    all_goals rw [mxe, taken, carried]

/-! ## A start (R224) -/

/-- The die as an operation starts. -/
def startedDie (s : State) (i : Nat) (o : DieOp) (x : Die) : Die :=
  if o.resume then { x with state := .busy, active := some i, held := none, suspReads := 0, pollDue := s.now.toNat + o.firstPoll, found := none }
  else { x with state := if x.state = .suspended then .suspended else .busy, active := some i, queue := x.queue.filter (· != i)
                pollDue := s.now.toNat + ({ o with timing := s.opTiming o.req.kind } : DieOp).firstPoll, found := none
                suspReads := if x.state = .suspended ∧ o.recovery = false then x.suspReads + 1 else x.suspReads }

/-- The state as the die takes an operation, which holds its cost. -/
def admitted (d i : Nat) (o : DieOp) (s : State) : State :=
  s.modDsc fun c => { ((c.modDie d (s.startedDie i o)).modOp i fun y => { y with
      started := s.now, timing := if o.resume then y.timing else s.opTiming o.req.kind, resume := false, withheld := false, guardWait := 0 }) with
    held := c.held + o.cost, stagger := if o.pe then some s.now else c.stagger }

/-- The command sequence of a start: a resume, or the confirm cycle. -/
def startCmd (s : State) (o : DieOp) : NandCmd := if o.resume then .resume else s.confirmOf o

/-- The state as a start's command goes out. -/
def commanded (d i : Nat) (o : DieOp) (s : State) : State :=
  (((s.admitted d i o).fill d).setOffsets d o).nandCmd d (s.startCmd o) o.req.kind o.req.planes

theorem startOp_command {o : DieOp} (h : (isProgram o.req.kind && !o.resume) = false) (d i : Nat) (s : State) : s.startOp d i o = s.commanded d i o := by
  unfold startOp
  dsimp only
  rw [if_neg (by simp [h]), if_neg (by simp [h])]
  rfl

theorem startOp_program {o : DieOp} (h : (isProgram o.req.kind && !o.resume) = true) (d i : Nat) (s : State) :
    s.startOp d i o = ((s.commanded d i o).takeBytes (rawBytesOf o.pages.length)).startProgram i o := by
  unfold startOp
  dsimp only
  rw [if_pos h, if_pos h]
  rfl

theorem takeBytes_running (n : Nat) (s : State) : SameRunning s.dsc (s.takeBytes n).dsc := by
  unfold takeBytes
  split
  · exact ⟨fun _ => rfl, rfl⟩
  · exact .refl _

theorem commanded_running (d i : Nat) (o : DieOp) (s : State) : SameRunning (s.admitted d i o).dsc (s.commanded d i o).dsc := by
  unfold commanded
  simp only [nandCmd_units, setOffsets_units]
  exact fill_running _ _

theorem admitted_running {s : State} {d i : Nat} {o : DieOp} (serves : (s.dsc.die d).state ≠ .offline) :
    ((s.admitted d i o).dsc.die d).active = some i ∧ (s.admitted d i o).dsc.held = s.dsc.held + o.cost := by
  refine ⟨?_, rfl⟩
  refine (congrArg Die.active (Dsc.die_modDie_same (s.startedDie i o) (Dsc.find?_of_state serves))).trans ?_
  unfold startedDie
  split <;> rfl

/-- The offsets of a read go out before it; of another operation none do (R280). -/
theorem setOffsets_sends (d : Nat) (o : DieOp) (s : State) : ∃ es, (s.setOffsets d o).out = es ++ s.out ∧ (o.req.kind ≠ .read → es = []) := by
  unfold setOffsets
  split
  next other => exact ⟨[], rfl, fun _ => rfl⟩
  next read =>
    dsimp only
    split
    · exact ⟨[], rfl, fun _ => rfl⟩
    · obtain ⟨es, out, -⟩ := nandCmd_sends ((s.modCdx (Cdx.touchCorr (blkKey d (s.fca.sbOf o.req.block)))).modCdx fun c => { c with
        lunSet := Tbl.put c.lunSet d ((s.modCdx (Cdx.touchCorr (blkKey d (s.fca.sbOf o.req.block)))).thresholds o) }) d
        (.setOffsets ((s.modCdx (Cdx.touchCorr (blkKey d (s.fca.sbOf o.req.block)))).thresholds o)) .read 1
      exact ⟨_ :: es, out, fun other => absurd other read⟩

theorem touchCorr_frame (key : Nat) (c : Cdx) : c.touchCorr key = { c with corr := (c.touchCorr key).corr } := by
  unfold Cdx.touchCorr
  split <;> rfl

theorem setOffsets_frame (d : Nat) (o : DieOp) (s : State) : s.setOffsets d o = { s with
    out := (s.setOffsets d o).out, cdx := { s.cdx with lunSet := (s.setOffsets d o).cdx.lunSet, corr := (s.setOffsets d o).cdx.corr }
    fca := { s.fca with chs := (s.setOffsets d o).fca.chs } } := by
  have touched := touchCorr_frame (blkKey d (s.fca.sbOf o.req.block)) s.cdx
  unfold setOffsets
  split
  · rfl
  · dsimp only
    split
    · simp only [modCdx]
      rw [touched]
    · rw [nandCmd_frame]
      simp only [modCdx]
      rw [touched]

theorem fill_frame (n : Nat) (s : State) : s.fill n = { s with dsc := (s.fill n).dsc } := (fill_touch n s (m := 8192) rfl (.refl _ s)).eq_masked

/-- What a start sends: its command last. -/
theorem commanded_sends (s : State) (d i : Nat) (o : DieOp) :
    ∃ es, (s.commanded d i o).out = .nand d (s.startCmd o) (opcodeBytes (s.opcodeEntry (s.startCmd o) o.req.kind o.req.planes)) :: (es ++ s.out) ∧
      (s.volSelected d = true → o.req.kind ≠ .read → es = []) := by
  have filled := fill_frame d (s.admitted d i o)
  obtain ⟨before, offsets, none⟩ := setOffsets_sends d o ((s.admitted d i o).fill d)
  obtain ⟨es, out, volume⟩ := nandCmd_sends (((s.admitted d i o).fill d).setOffsets d o) d (s.startCmd o) o.req.kind o.req.planes
  have entry : (((s.admitted d i o).fill d).setOffsets d o).opcodeEntry (s.startCmd o) o.req.kind o.req.planes = s.opcodeEntry (s.startCmd o) o.req.kind o.req.planes := by
    rw [setOffsets_frame, filled]
    rfl
  have prior : ((s.admitted d i o).fill d).out = s.out := by
    rw [filled]
    rfl
  refine ⟨es ++ before, ?_, fun selected other => ?_⟩
  · unfold commanded
    rw [out, offsets, prior, entry, List.append_assoc]
  · have same : ((s.admitted d i o).fill d).setOffsets d o = (s.admitted d i o).fill d := if_pos other
    have still : (((s.admitted d i o).fill d).setOffsets d o).volSelected d = true := by
      rw [same, filled]
      exact selected
    rw [volume still, none other]
    rfl

theorem commanded_frame (s : State) (d i : Nat) (o : DieOp) : s.commanded d i o = { s with
    out := (s.commanded d i o).out, dsc := (s.commanded d i o).dsc, cdx := { s.cdx with lunSet := (s.commanded d i o).cdx.lunSet, corr := (s.commanded d i o).cdx.corr }
    fca := { s.fca with chs := (s.commanded d i o).fca.chs } } := by
  unfold commanded
  rw [nandCmd_frame, setOffsets_frame, fill_frame]
  rfl

/-! ## DIE_OPERATION_START (R217, R226, R229) -/

theorem firstOp_mem {s : State} {l : List (Nat × DieOp)} {e : Nat × DieOp} (first : s.firstOp l = some e) : e ∈ l := by
  have within : ∀ (l : List (Nat × DieOp)) (b : Option (Nat × DieOp)),
      l.foldl (fun b e => match b with | some x => if s.opBefore e.2 x.2 then some e else b | none => some e) b = some e → b = some e ∨ e ∈ l := by
    intro l
    induction l with
    | nil => exact fun b h => .inl h
    | cons a l ih =>
      intro b h
      rw [List.foldl_cons] at h
      obtain now | later := ih _ h
      · cases b with
        | none => exact .inr (Option.some.inj now ▸ List.mem_cons_self)
        | some x =>
          dsimp only at now
          split at now
          · exact .inr (Option.some.inj now ▸ List.mem_cons_self)
          · exact .inl now
      · exact .inr (List.mem_cons_of_mem _ later)
  exact (within l none first).resolve_left (by simp)

/-- Only a die that is IDLE or SUSPENDED has operations to start. -/
theorem serves_of_candidates {s : State} {d : Nat} {e : Nat × DieOp} (h : e ∈ s.candidates d) : (s.dsc.die d).state ≠ .offline := by
  intro offline
  unfold candidates at h
  dsimp only at h
  rw [offline] at h
  simp at h

theorem exec_start {s : State} (idle : s.hum.dump = none) (d : Nat) : exec (.dieOperationStart d) s = .next (s.normalStart d) := by
  change execDieOperationStart d s = _
  unfold execDieOperationStart
  rw [idle]

section
variable {s : State} {d i : Nat} {o : DieOp} (first : s.firstOp (s.candidates d) = some (i, o)) (free : s.guardOn d = false)
include first free

theorem normalStart_unguarded : s.normalStart d = if s.mayStart o && s.startTurn d o then s.startOp d i o else s := by
  have leads : s.leading d = some (i, o) := by
    unfold leading
    rw [← first]
    congr 1
    simp [free]
  unfold normalStart
  dsimp only
  rw [first]
  simp only [free, Bool.and_false, Bool.false_and, Bool.false_eq_true, if_false, leads]

theorem start_waits (idle : s.hum.dump = none) (waits : s.mayStart o = false ∨ s.startTurn d o = false) : exec (.dieOperationStart d) s = .next s := by
  rw [exec_start idle, normalStart_unguarded first free, if_neg]
  obtain held | later := waits
  · simp [held]
  · simp [later]

theorem exec_starts (idle : s.hum.dump = none) (may : s.mayStart o = true) (turn : s.startTurn d o = true) : exec (.dieOperationStart d) s = .next (s.startOp d i o) := by
  rw [exec_start idle, normalStart_unguarded first free, if_pos (by simp [may, turn])]

end

/-- What a start leaves running, on NAND and in the map. -/
theorem startOp_keeps {s : State} {d i : Nat} {o : DieOp} (serves : (s.dsc.die d).state ≠ .offline) :
    ((s.startOp d i o).dsc.die d).active = some i ∧ (s.startOp d i o).dsc.held = s.dsc.held + o.cost ∧ (s.startOp d i o).mxe.map = s.mxe.map ∧
      (s.startOp d i o).mxe.nand = s.mxe.nand ∧ (s.startOp d i o).out = (s.commanded d i o).out ∧
      (isProgram o.req.kind = true → o.resume = false → ∀ b, Tbl.find? s.mxe.bands o.band = some b → (s.startOp d i o).mxe.psn = s.mxe.psn + 1) ∧
      (isProgram o.req.kind = false → s.startOp d i o = s.commanded d i o) := by
  obtain ⟨active, held⟩ := admitted_running (i := i) (o := o) serves
  have sent := s.commanded_running d i o
  have mxe : (s.commanded d i o).mxe = s.mxe := by rw [commanded_frame]
  cases starts : isProgram o.req.kind && !o.resume with
  | false =>
    rw [startOp_command starts, mxe]
    exact ⟨(sent.active d).trans active, sent.held.trans held, rfl, rfl, rfl, fun program fresh => absurd starts (by simp [program, fresh]), fun _ => rfl⟩
  | true =>
    obtain ⟨running, map, nand, psn⟩ := ((s.commanded d i o).takeBytes (rawBytesOf o.pages.length)).startProgram_keeps i o
    simp only [takeBytes_units, mxe] at map nand psn
    have all := (sent.trans (takeBytes_running (rawBytesOf o.pages.length) _)).trans running
    rw [startOp_program starts]
    refine ⟨(all.active d).trans active, all.held.trans held, map, nand, by simp, fun _ _ => psn, fun other => absurd starts (by simp [other])⟩

theorem startOp_frame (d i : Nat) (o : DieOp) (s : State) : s.startOp d i o = { s with
    out := (s.startOp d i o).out, regf := (s.startOp d i o).regf, qen := (s.startOp d i o).qen, mxe := (s.startOp d i o).mxe, dsc := (s.startOp d i o).dsc
    fca := (s.startOp d i o).fca, cdx := (s.startOp d i o).cdx, spe := (s.startOp d i o).spe, cru := (s.startOp d i o).cru } :=
  (startOp_touch d i o s (m := 8516129) rfl (.refl _ s)).eq_masked

/-! ## The write guard withholds a start (R217, R255) -/

/-- An operation is withheld. -/
def withhold (o : DieOp) : DieOp := { o with withheld := true }

/-- An operation of a list is withheld. -/
def withholdAt (i : Nat) (e : Nat × DieOp) : Nat × DieOp := (e.1, if e.1 = i then withhold e.2 else e.2)

theorem withholdAt_keeps (i : Nat) (e : Nat × DieOp) : (withholdAt i e).2.submit = e.2.submit ∧ (withholdAt i e).2.req = e.2.req ∧ (withholdAt i e).2.eff = e.2.eff ∧
    (withholdAt i e).2.recovery = e.2.recovery ∧ (withholdAt i e).2.resume = e.2.resume := by
  unfold withholdAt
  split <;> exact ⟨rfl, rfl, rfl, rfl, rfl⟩

theorem find?_modOp_listed (s : State) (i : Nat) (f : DieOp → DieOp) (j : Nat) :
    (Tbl.find? (s.modOp i f).dsc.ops j).map (fun o => (j, o)) = ((Tbl.find? s.dsc.ops j).map fun o => (j, o)).map fun e => (e.1, if e.1 = i then f e.2 else e.2) := by
  have ops : (s.modOp i f).dsc.ops = Tbl.adjust s.dsc.ops i f := rfl
  rw [ops]
  by_cases h : j = i
  · subst h
    rw [Tbl.find?_adjust_same]
    cases Tbl.find? s.dsc.ops j <;> simp
  · rw [Tbl.find?_adjust_other _ _ h]
    cases Tbl.find? s.dsc.ops j <;> simp [h]

theorem filter_withholdAt (i : Nat) (p : Nat × DieOp → Bool) (same : ∀ e, p (withholdAt i e) = p e) (l : List (Nat × DieOp)) :
    (l.map (withholdAt i)).filter p = (l.filter p).map (withholdAt i) := by
  rw [List.filter_map]
  congr 1
  exact List.filter_congr fun e _ => same e

theorem listed_withheld (s : State) (i : Nat) (l : List Nat) :
    (l.filterMap fun j => (Tbl.find? (s.modOp i withhold).dsc.ops j).map fun o => (j, o)) = (l.filterMap fun j => (Tbl.find? s.dsc.ops j).map fun o => (j, o)).map (withholdAt i) := by
  rw [List.map_filterMap]
  congr 1
  exact funext fun j => find?_modOp_listed s i withhold j

theorem suspClass_modOp (s : State) (i : Nat) (f : DieOp → DieOp) (c : OpClass) : (s.modOp i f).suspClass c = s.suspClass c := rfl

/-- The same operations are considered after one is withheld. -/
theorem candidates_withheld (s : State) (i d : Nat) : (s.modOp i withhold).candidates d = (s.candidates d).map (withholdAt i) := by
  have die : (s.modOp i withhold).dsc.die d = s.dsc.die d := rfl
  have now : (s.modOp i withhold).now = s.now := rfl
  have queued := filter_withholdAt i (fun e => decide (e.2.submit.toNat < s.now.toNat)) fun e => by rw [(withholdAt_keeps i e).1]
  have reads := filter_withholdAt i (fun e => e.2.req.kind == .read && s.suspClass e.2.eff && (decide ((s.dsc.die d).suspReads < 8) || e.2.recovery)) fun e => by
    obtain ⟨-, req, eff, recovery, -⟩ := withholdAt_keeps i e
    rw [req, eff, recovery]
  unfold candidates
  simp only [die, now, suspClass_modOp, listed_withheld, queued, reads]
  split
  · rfl
  split
  · rfl
  · rw [List.isEmpty_map]
    split
    · cases held : (s.dsc.die d).held with
      | none => rfl
      | some j =>
        rw [Option.bind_some, Option.bind_some, find?_modOp_listed]
        cases Tbl.find? s.dsc.ops j with
        | none => rfl
        | some p =>
          obtain ⟨-, -, -, -, resume⟩ := withholdAt_keeps i (j, p)
          change (if (withholdAt i (j, p)).2.resume then [withholdAt i (j, p)] else []) = (if p.resume then [(j, p)] else []).map (withholdAt i)
          rw [resume]
          split <;> rfl
    · rfl
  all_goals rfl

/-- With the guard on, an operation of a die that has only programs, erases and resumes is withheld, once. -/
theorem start_withheld {s : State} {d i : Nat} {o : DieOp} (idle : s.hum.dump = none) (first : s.firstOp (s.candidates d) = some (i, o)) (guarded : s.guardOn d = true)
    (pe : ∀ e ∈ s.candidates d, e.2.pe = true) (fresh : o.withheld = false) : ∃ t, exec (.dieOperationStart d) s = .next t ∧
      (∀ p, Tbl.find? s.dsc.ops i = some p → Tbl.find? t.dsc.ops i = some { p with withheld := true }) ∧
      t.fld Fld.FCA_GUARD_CNT.WITHHELD = min (2 ^ Fld.FCA_GUARD_CNT.WITHHELD.width - 1) (s.fld Fld.FCA_GUARD_CNT.WITHHELD + 1) ∧
      t = { s with regf := t.regf, dsc := { s.dsc with ops := t.dsc.ops } } := by
  generalize counted : s.count Fld.FCA_GUARD_CNT.WITHHELD 0 1 = u
  have same : u.candidates d = s.candidates d := by
    rw [← counted]
    rfl
  have none : (u.modOp i withhold).leading d = none := by
    have guard : (u.modOp i withhold).guardOn d = true := by
      rw [← guarded, ← counted]
      rfl
    unfold leading
    rw [candidates_withheld, same, List.filter_eq_nil_iff.mpr]
    · rfl
    · intro e he
      obtain ⟨p, hp, rfl⟩ := List.mem_map.mp he
      have still : (withholdAt i p).2.pe = p.2.pe := by
        unfold DieOp.pe
        rw [(withholdAt_keeps i p).2.1]
      rw [still, pe p hp, guard]
      decide
  have run : s.normalStart d = u.modOp i withhold := by
    have fires : (o.pe && s.guardOn d && !o.withheld) = true := by simp [pe _ (firstOp_mem first), guarded, fresh]
    unfold normalStart
    simp only [first, fires, if_true, counted]
    change (match (u.modOp i withhold).leading d with | some (i, o) => _ | .none => _) = _
    rw [none]
    rfl
  refine ⟨u.modOp i withhold, (exec_start idle d).trans (congrArg _ run), fun p found => ?_, ?_, ?_⟩
  · rw [← counted]
    exact Dsc.find?_modOp_same withhold found
  · rw [← counted]
    exact fld_count_same s Fld.FCA_GUARD_CNT.WITHHELD 0 1
  · rw [← counted]
    rfl

theorem start_starts {s : State} {d i : Nat} {o : DieOp} (first : s.firstOp (s.candidates d) = some (i, o)) (free : s.guardOn d = false) (idle : s.hum.dump = none)
    (may : s.mayStart o = true) (turn : s.startTurn d o = true) : ∃ t es, exec (.dieOperationStart d) s = .next t ∧ (t.dsc.die d).active = some i ∧
      t.dsc.held = s.dsc.held + o.cost ∧
      t.out = .nand d (if o.resume then .resume else s.confirmOf o) (opcodeBytes (s.opcodeEntry (if o.resume then .resume else s.confirmOf o) o.req.kind o.req.planes)) :: (es ++ s.out) ∧
      (s.volSelected d = true → o.req.kind ≠ .read → es = []) ∧
      (isProgram o.req.kind = true → o.resume = false → ∀ b, Tbl.find? s.mxe.bands o.band = some b → t.mxe.psn = s.mxe.psn + 1) ∧
      (isProgram o.req.kind = false → t = { s with out := t.out, dsc := t.dsc, cdx := { s.cdx with lunSet := t.cdx.lunSet, corr := t.cdx.corr }, fca := { s.fca with chs := t.fca.chs } }) ∧
      t.mxe.map = s.mxe.map ∧ t.mxe.nand = s.mxe.nand ∧
      t = { s with out := t.out, regf := t.regf, qen := t.qen, mxe := t.mxe, dsc := t.dsc, fca := t.fca, cdx := t.cdx, spe := t.spe, cru := t.cru } := by
  obtain ⟨active, held, map, nand, out, psn, other⟩ := startOp_keeps (i := i) (o := o) (serves_of_candidates (firstOp_mem first))
  obtain ⟨es, sent, volume⟩ := s.commanded_sends d i o
  refine ⟨s.startOp d i o, es, exec_starts first free idle may turn, active, held, out.trans sent, volume, psn, fun plain => ?_, map, nand, s.startOp_frame d i o⟩
  rw [other plain]
  exact s.commanded_frame d i o

end State

end Sys2Proof.Machine
end

section
/-! PROOFS. An operation ends on its die (spec/08, R217, R219, R224): what its die and the tokens are, whatever it was. -/

namespace Sys2Proof.Machine

namespace Dsc

/-- A die that runs an operation is listed. -/
theorem find?_of_active {c : Dsc} {d i : Nat} (h : (c.die d).active = some i) : Tbl.find? c.dies d = some (c.die d) := by
  unfold die Tbl.getD at h ⊢
  cases found : Tbl.find? c.dies d with
  | none =>
    rw [found] at h
    exact absurd h (by simp [Die.initial])
  | some x => rfl

theorem die_of_has {c : Dsc} {d : Nat} (h : Tbl.has c.dies d = true) : Tbl.find? c.dies d = some (c.die d) := by
  obtain ⟨x, found⟩ := Tbl.find?_of_has h
  rw [die, Tbl.getD, found]
  rfl

end Dsc

namespace State

theorem fill_has (s : State) (n d : Nat) : Tbl.has (s.fill n).dsc.dies d = Tbl.has s.dsc.dies d := by
  have slots : ∀ (fuel : Nat) (s : State), Tbl.has (s.fillSlots n fuel).dsc.dies d = Tbl.has s.dsc.dies d := by
    intro fuel
    induction fuel with
    | zero => exact fun _ => rfl
    | succ fuel ih =>
      intro s
      unfold fillSlots
      split
      next j _ => exact (ih _).trans (Tbl.has_adjust s.dsc.dies n d (enterSlot j))
      · rfl
  exact slots 7 s

/-- The queues without an operation, and the tokens without its cost where its die runs it. -/
def withoutOp (s : State) (n i : Nat) : State :=
  s.modDsc fun c => { c.modDie n (dieWithout i) with
    ops := Tbl.del c.ops i, held := if (s.dsc.die n).active == some i then c.held - ((Tbl.find? s.dsc.ops i).map DieOp.cost).getD 0 else c.held }

theorem dropOp_eq (s : State) (n i : Nat) : s.dropOp n i = (s.withoutOp n i).fill n := rfl

section
variable {s : State} {d i : Nat} {o : DieOp} (active : (s.dsc.die d).active = some i) (found : Tbl.find? s.dsc.ops i = some o)
include active found

/-- An operation that its die runs gives up its tokens. -/
theorem dropOp_ends : ((s.dropOp d i).dsc.die d).active = none ∧ (s.dropOp d i).dsc.held = s.dsc.held - o.cost ∧ Tbl.has (s.dropOp d i).dsc.dies d = true := by
  have listed := Dsc.find?_of_active active
  have running := fill_running (s.withoutOp d i) d
  rw [dropOp_eq, running.active, running.held, fill_has]
  refine ⟨?_, ?_, ?_⟩
  · refine (congrArg Die.active (Dsc.die_modDie_same (dieWithout i) listed)).trans ?_
    exact if_pos active
  · have cost : ((Tbl.find? s.dsc.ops i).map DieOp.cost).getD 0 = o.cost := by rw [found]; rfl
    exact (if_pos (beq_iff_eq.mpr active)).trans (by rw [cost])
  · exact (Tbl.has_adjust _ _ _ _).trans (by rw [Tbl.has, listed]; rfl)

omit active in
theorem diedTime_eq : s.diedTime i = { s with dsc := { s.dsc with credit := (s.diedTime i).dsc.credit } } := by
  unfold diedTime
  rw [found]
  rfl

end

/-- The die as its operation has left it. -/
def leftDie (s : State) (x : Die) : Die :=
  { x with state := if x.held.isSome then .suspended else if x.state = .offline then .offline else .idle, readyAt := s.now + 1 }

theorem endOp_eq (d i : Nat) (s : State) : s.endOp d i = ((s.diedTime i).dropOp d i).modDie d s.leftDie := rfl

end State

/-- An operation has left its die, with its tokens. -/
structure Ended (s : State) (d i : Nat) (o : DieOp) (t : State) : Prop where
  op : Tbl.find? t.dsc.ops i = none
  held : t.dsc.held = s.dsc.held - o.cost
  active : (t.dsc.die d).active = none

namespace State

section
variable {s : State} {d i : Nat} {o : DieOp} (running : s.dsc.running d = some (i, o))
include running

theorem endOp_ended : Ended s d i o (s.endOp d i) ∧ ((s.endOp d i).dsc.die d).readyAt = s.now + 1 := by
  obtain ⟨active, found⟩ := Dsc.running_eq running
  have timed := diedTime_eq found
  have still : ((s.diedTime i).dsc.die d).active = some i := by
    rw [timed]
    exact active
  have same : Tbl.find? (s.diedTime i).dsc.ops i = some o := by
    rw [timed]
    exact found
  have held : (s.diedTime i).dsc.held = s.dsc.held := by rw [timed]
  obtain ⟨idle, tokens, listed⟩ := dropOp_ends still same
  have die : (s.endOp d i).dsc.die d = s.leftDie (((s.diedTime i).dropOp d i).dsc.die d) := Dsc.die_modDie_same s.leftDie (Dsc.die_of_has listed)
  refine ⟨⟨?_, ?_, ?_⟩, ?_⟩
  · rw [endOp_eq]
    exact (congrArg (Tbl.find? · i) (dropOp_ops (s.diedTime i) d i)).trans (Tbl.find?_del_same _ _)
  · rw [← held]
    exact tokens
  · rw [die]
    exact idle
  · rw [die]
    rfl

omit running in
theorem endOp_frame (d i : Nat) (s : State) : s.endOp d i = { s with dsc := (s.endOp d i).dsc } := (endOp_touch d i s (m := 8192) rfl (.refl _ s)).eq_masked

section
variable (noGap : s.fca.gapHeld = false) (polled : (s.dsc.die d).found = some s.now)
include noGap polled

theorem exec_ready_suspended (pending : (s.dsc.die d).state = .suspPend) : exec (.dieReady d .suspended) s =
    .next ((s.diedTime i).modDsc fun c => { ((c.modDie d fun x => { x with
            state := .suspended, active := none, held := some i, suspReads := 0, readyAt := s.now + 1 }).modOp i fun x => { x with
          ran := x.ran + s.since x.started }) with held := c.held - o.cost }) := by
  change execDieReady d .suspended s = _
  unfold execDieReady
  rw [running]
  dsimp only
  rw [if_neg (by simp [noGap, polled]), if_pos pending]

theorem exec_ready_good : exec (.dieReady d .good) s = .next ((s.endOp d i).opEnded d i o true) := by
  change execDieReady d .good s = _
  unfold execDieReady
  rw [running]
  exact if_neg (by simp [noGap, polled])

theorem exec_ready_fail : exec (.dieReady d .fail) s = .next ((s.endOp d i).opEnded d i o false) := by
  change execDieReady d .fail s = _
  unfold execDieReady
  rw [running]
  exact if_neg (by simp [noGap, polled])

/-! ## A suspend takes effect (R219, R222) -/

theorem ready_suspends (pending : (s.dsc.die d).state = .suspPend) : ∃ t, exec (.dieReady d .suspended) s = .next t ∧ (t.dsc.die d).state = .suspended ∧
    (t.dsc.die d).held = some i ∧ (t.dsc.die d).active = none ∧ (t.dsc.die d).readyAt = s.now + 1 ∧ t.dsc.held = s.dsc.held - o.cost ∧
    Tbl.find? t.dsc.ops i = some { o with ran := o.ran + s.since o.started } ∧
    t = { s with dsc := { s.dsc with dies := t.dsc.dies, ops := t.dsc.ops, held := t.dsc.held, credit := t.dsc.credit } } := by
  obtain ⟨active, found⟩ := Dsc.running_eq running
  have timed := diedTime_eq found
  have die := Dsc.die_modDie_same (fun x => { x with state := .suspended, active := none, held := some i, suspReads := 0, readyAt := s.now + 1 }) (Dsc.find?_of_active active)
  refine ⟨_, exec_ready_suspended running noGap polled pending, ?_⟩
  rw [timed]
  exact ⟨congrArg Die.state die, congrArg Die.held die, congrArg Die.active die, congrArg Die.readyAt die, rfl,
    Dsc.find?_modOp_same (fun x => { x with ran := x.ran + s.since x.started }) found, rfl⟩

end

end

/-! ## What the end of an operation does, by its kind -/

section
variable {o : DieOp} (work : ∀ n, o.why ≠ .dump n)
include work

theorem opEnded_read (read : o.req.kind = .read) (d i : Nat) (good : Bool) (t : State) : t.opEnded d i o good = t.readDone o := by
  unfold opEnded
  split
  next n dump => exact absurd dump (work n)
  · rw [read]

theorem opEnded_erase (erase : o.req.kind = .erase) (d i : Nat) (good : Bool) (t : State) : t.opEnded d i o good = if good then t.eraseGood d o else t.eraseFail d o := by
  unfold opEnded
  split
  next n dump => exact absurd dump (work n)
  · rw [erase]

theorem opEnded_program (program : isProgram o.req.kind = true) (d i : Nat) (good : Bool) (t : State) :
    t.opEnded d i o good = if good then t.programGood d i o else t.programFail d i o := by
  unfold opEnded
  split
  next n dump => exact absurd dump (work n)
  · cases kind : o.req.kind with
    | read | erase => rw [kind] at program; exact absurd program (by decide)
    | slcProgram | tlcProgram | qlcProgram => rfl

end

/-- A member's erase changes bands only. -/
theorem memberErased_frame (b d : Nat) (s : State) : s.memberErased b d = { s with mxe := { s.mxe with bands := (s.memberErased b d).mxe.bands } } := by
  unfold memberErased
  dsimp only [modMxe]
  split <;> rfl

/-- A block is erased: it is counted, and its pages, reads and correction are gone. -/
def blockErased (d : Nat) (o : DieOp) (s : State) : State :=
  ((s.countErase (blkKey d (s.fca.sbOf o.req.block))).modCdx fun c => { c with corr := c.corr.filter fun e => e.1 != blkKey d (s.fca.sbOf o.req.block) }).modMxe fun m => { m with
    nand := m.nand.filter fun e => !(e.1 / 4096 / 8192 == d && s.fca.sbOf (e.1 / 4096 % 8192) == s.fca.sbOf o.req.block)
    reads := Tbl.del m.reads (blkKey d (s.fca.sbOf o.req.block)) }

/-- What an erase that ended good leaves. -/
theorem eraseGood_frame (d : Nat) (o : DieOp) (s : State) : s.eraseGood d o = { s.blockErased d o with mxe := { (s.blockErased d o).mxe with bands := (s.eraseGood d o).mxe.bands } } := by
  unfold eraseGood
  dsimp only
  split
  · rw [memberErased_frame]
    rfl
  · rfl

end State

/-! ## Operations of a retired block (R211) -/

namespace Ended

variable {s t u : State} {d i : Nat} {o : DieOp}

theorem ofDsc (h : Ended s d i o t) (same : u.dsc = t.dsc) : Ended s d i o u := ⟨by rw [same]; exact h.op, by rw [same]; exact h.held, by rw [same]; exact h.active⟩

/-- An operation of a die that runs nothing gives up no tokens. -/
theorem dropOp (h : Ended s d i o t) (j : Nat) : Ended s d i o (t.dropOp d j) := by
  have running := State.fill_running (t.withoutOp d j) d
  have idle : (t.dsc.die d).active ≠ some j := by
    rw [h.active]
    simp
  refine ⟨?_, ?_, ?_⟩
  · rw [State.dropOp_ops]
    by_cases same : i = j
    · rw [same]
      exact Tbl.find?_del_same _ _
    · rw [Tbl.find?_del_other _ same]
      exact h.op
  · rw [State.dropOp_eq, running.held, ← h.held]
    exact if_neg (by simpa using idle)
  · rw [State.dropOp_eq, running.active]
    cases listed : Tbl.has t.dsc.dies d with
    | true =>
      refine (congrArg Die.active (Dsc.die_modDie_same (State.dieWithout j) (Dsc.die_of_has listed))).trans ?_
      exact (if_neg idle).trans h.active
    | false =>
      have absent : Tbl.find? t.dsc.dies d = .none := by simpa [Tbl.has] using listed
      have none : Tbl.find? (Tbl.adjust t.dsc.dies d (State.dieWithout j)) d = .none := by
        rw [Tbl.find?_adjust_same, absent]
        rfl
      exact congrArg (fun x : Option Die => (x.getD { Die.initial with state := .offline }).active) none

/-- The operations of a block that retires go back to their submitters. -/
theorem cancelBlock (h : Ended s d i o t) (sb : Nat) : Ended s d i o (t.cancelBlock d sb) := by
  have each : ∀ (l : List (Nat × DieOp)) {u : State}, Ended s d i o u → Ended s d i o (l.foldl (fun s e => (s.dropOp d e.1).returnFail e.1 e.2) u) := by
    intro l
    induction l with
    | nil => exact fun h => h
    | cons e l ih => exact fun h => ih ((h.dropOp e.1).ofDsc (by simp))
  exact each _ h

end Ended

namespace State

theorem cancelBlock_media (d sb : Nat) (s : State) : SameMedia s (s.cancelBlock d sb) :=
  SameMedia.foldl _ _ _ fun t e => (SameMedia.ofEq (by simp)).trans (returnFail_media (t.dropOp d e.1) _ _)

/-- The block is retired and its operations are cancelled. -/
theorem retire_cancels (d sb cause psn : Nat) (s : State) :
    Retiring s ((s.retireBlock d sb cause psn).cancelBlock d sb) ∧ Tbl.has ((s.retireBlock d sb cause psn).cancelBlock d sb).mxe.retired (blkKey d sb) = true := by
  obtain ⟨retiring, now⟩ := s.retireBlock_retires d sb cause psn
  have after := cancelBlock_media d sb (s.retireBlock d sb cause psn)
  exact ⟨retiring.trans (.ofSame after), by rw [after.retired]; exact now⟩

/-- An erase that failed: its block retires. -/
theorem eraseFail_retires (d : Nat) (o : DieOp) (s : State) : Tbl.has (s.eraseFail d o).mxe.retired (blkKey d (s.fca.sbOf o.req.block)) = true ∧
    (s.eraseFail d o).mxe.nand = s.mxe.nand ∧ (s.eraseFail d o).mxe.map = s.mxe.map := by
  obtain ⟨⟨map, nand, -⟩, retired⟩ := retire_cancels d (s.fca.sbOf o.req.block) causeErase 0 (s.countErase (blkKey d (s.fca.sbOf o.req.block)))
  unfold eraseFail
  dsimp only
  split
  next n _ =>
    obtain ⟨map', nand', retired'⟩ := memberErased_media (((s.countErase (blkKey d (s.fca.sbOf o.req.block))).retireBlock d (s.fca.sbOf o.req.block) causeErase 0).cancelBlock d
      (s.fca.sbOf o.req.block)) n d
    exact ⟨by rw [retired']; exact retired, nand'.trans nand, map'.trans map⟩
  · exact ⟨retired, nand, map⟩

theorem eraseFail_ended {s t : State} {d i : Nat} {o : DieOp} (h : Ended s d i o t) : Ended s d i o (t.eraseFail d o) := by
  have cancelled : Ended s d i o (((t.countErase (blkKey d (t.fca.sbOf o.req.block))).retireBlock d (t.fca.sbOf o.req.block) causeErase 0).cancelBlock d (t.fca.sbOf o.req.block)) :=
    (h.ofDsc (by simp)).cancelBlock _
  unfold eraseFail
  dsimp only
  split
  · exact cancelled.ofDsc (by simp)
  · exact cancelled

section
variable {s : State} {d i : Nat} {o : DieOp} (running : s.dsc.running d = some (i, o)) (noGap : s.fca.gapHeld = false)
  (polled : (s.dsc.die d).found = some s.now) (work : ∀ n, o.why ≠ .dump n)
include running noGap polled work

/-! ## A read ends (R234, R295) -/

theorem ready_read {st : DieStatus} (ends : st = .good ∨ st = .fail) (read : o.req.kind = .read) : ∃ t, exec (.dieReady d st) s = .next t ∧ Tbl.find? t.dsc.ops i = none ∧
    t.dsc.held = s.dsc.held - o.cost ∧ (t.dsc.die d).active = none ∧ (t.dsc.die d).readyAt = s.now + 1 ∧
    t.fca.xfers = s.fca.xfers ++ [{ op := o, begun := false, left := 18944 * o.pages.length, ready := s.now }] ∧
    Tbl.getD t.mxe.reads (blkKey o.req.die (s.fca.sbOf o.req.block)) 0 = min 0xFFFFFFFF (Tbl.getD s.mxe.reads (blkKey o.req.die (s.fca.sbOf o.req.block)) 0 + o.pages.length) ∧
    t = { s with dsc := t.dsc, mxe := { s.mxe with reads := t.mxe.reads }, fca := { s.fca with xfers := t.fca.xfers } } := by
  have run : exec (.dieReady d st) s = .next ((s.endOp d i).readDone o) := by
    obtain rfl | rfl := ends
    · rw [exec_ready_good running noGap polled, opEnded_read work read]
    · rw [exec_ready_fail running noGap polled, opEnded_read work read]
  obtain ⟨ended, ready⟩ := endOp_ended running
  have frame := endOp_frame d i s
  refine ⟨_, run, ended.op, ended.held, ended.active, ready, ?_, ?_, ?_⟩
  · rw [frame]
    rfl
  · rw [frame]
    exact Tbl.getD_put_same _ _ _ _
  · rw [frame]
    rfl

/-! ## An erase ends (R192, R211, R295, R297) -/

theorem ready_erased (erase : o.req.kind = .erase) : ∃ t, exec (.dieReady d .good) s = .next t ∧ Tbl.find? t.dsc.ops i = none ∧ t.dsc.held = s.dsc.held - o.cost ∧
    (∀ e ∈ t.mxe.nand, ¬(e.1 / 4096 / 8192 = d ∧ s.fca.sbOf (e.1 / 4096 % 8192) = s.fca.sbOf o.req.block)) ∧
    Tbl.getD t.mxe.erases (blkKey d (s.fca.sbOf o.req.block)) 0 = Tbl.getD s.mxe.erases (blkKey d (s.fca.sbOf o.req.block)) 0 + 1 ∧
    Tbl.find? t.mxe.reads (blkKey d (s.fca.sbOf o.req.block)) = none ∧ t.mxe.map = s.mxe.map ∧ t = { s with dsc := t.dsc, mxe := t.mxe, cdx := { s.cdx with corr := t.cdx.corr } } := by
  have run : exec (.dieReady d .good) s = .next ((s.endOp d i).eraseGood d o) := by
    rw [exec_ready_good running noGap polled, opEnded_erase work erase]
    rfl
  obtain ⟨ended, -⟩ := endOp_ended running
  have frame := endOp_frame d i s
  have erased := eraseGood_frame d o (s.endOp d i)
  have block : (s.endOp d i).blockErased d o = { s.blockErased d o with dsc := (s.endOp d i).dsc } := by
    rw [frame]
    rfl
  rw [block] at erased
  have dsc : ((s.endOp d i).eraseGood d o).dsc = (s.endOp d i).dsc := by simp
  refine ⟨_, run, dsc ▸ ended.op, dsc ▸ ended.held, ?_, ?_, ?_, ?_, ?_⟩
  · rw [erased]
    intro e he both
    obtain ⟨-, kept⟩ := List.mem_filter.mp he
    simp [both.1, both.2] at kept
  · rw [erased]
    exact Tbl.getD_put_same _ _ _ _
  · rw [erased]
    exact Tbl.find?_del_same _ _
  · rw [erased]
    rfl
  · rw [erased]
    rfl

theorem ready_eraseFailed (erase : o.req.kind = .erase) : ∃ t, exec (.dieReady d .fail) s = .next t ∧ Tbl.find? t.dsc.ops i = none ∧ t.dsc.held = s.dsc.held - o.cost ∧
    Tbl.has t.mxe.retired (blkKey d (s.fca.sbOf o.req.block)) = true ∧ t.mxe.nand = s.mxe.nand ∧ t.mxe.map = s.mxe.map := by
  have run : exec (.dieReady d .fail) s = .next ((s.endOp d i).eraseFail d o) := by
    rw [exec_ready_fail running noGap polled, opEnded_erase work erase]
    rfl
  obtain ⟨ended, -⟩ := endOp_ended running
  have failed := eraseFail_ended ended
  have media := (s.endOp d i).eraseFail_retires d o
  have mxe : (s.endOp d i).mxe = s.mxe := by simp
  have fca : (s.endOp d i).fca = s.fca := by simp
  rw [mxe, fca] at media
  exact ⟨_, run, failed.op, failed.held, media⟩

end

theorem ready_waits {s : State} {d : Nat} (h : s.dsc.running d = none ∨ s.fca.gapHeld = true ∨ (s.dsc.die d).found ≠ some s.now) (st : DieStatus) :
    exec (.dieReady d st) s = .next s := by
  change execDieReady d st s = _
  unfold execDieReady
  cases running : s.dsc.running d with
  | none => rfl
  | some e => exact if_pos (h.resolve_left (by simp [running]))

end State

end Sys2Proof.Machine
end

section
/-! PROOFS. A program ends (spec/07, spec/08, R197, R208, R328): its pages on NAND, good or failed, and O45. -/

namespace Sys2Proof.Machine

section
variable {α β : Type} {key : β → Nat} {val : β → α}

theorem Tbl.find?_foldl_put_other {l : List β} {t : List (Nat × α)} {k : Nat} (out : ∀ x ∈ l, k ≠ key x) :
    Tbl.find? (l.foldl (fun t x => Tbl.put t (key x) (val x)) t) k = Tbl.find? t k := by
  induction l generalizing t with
  | nil => rfl
  | cons x l ih =>
    obtain ⟨here, later⟩ := List.forall_mem_cons.mp out
    exact (ih later).trans (Tbl.find?_put_other _ _ here)

/-- At the key of an element stands the value of one of the elements. -/
theorem Tbl.find?_foldl_put_mem {l : List β} {t : List (Nat × α)} {k : Nat} (some_key : ∃ x ∈ l, k = key x) :
    ∃ y ∈ l, Tbl.find? (l.foldl (fun t x => Tbl.put t (key x) (val x)) t) k = some (val y) := by
  induction l generalizing t with
  | nil =>
    obtain ⟨x, hx, -⟩ := some_key
    exact absurd hx List.not_mem_nil
  | cons a l ih =>
    by_cases later : ∃ x ∈ l, k = key x
    · obtain ⟨y, hy, found⟩ := ih later
      exact ⟨y, List.mem_cons_of_mem _ hy, found⟩
    · obtain ⟨x, hx, same⟩ := some_key
      have first : x = a := (List.mem_cons.mp hx).resolve_right fun mem => later ⟨x, mem, same⟩
      subst first
      refine ⟨x, List.mem_cons_self, (Tbl.find?_foldl_put_other fun y hy same => later ⟨y, hy, same⟩).trans ?_⟩
      rw [same]
      exact Tbl.find?_put_same _ _ _

end

/-! ## The pages of a program -/

/-- The pages of a program on NAND: each takes one of its groups of slots. -/
def putPages (d : Nat) (o : DieOp) (page : Nat → Page) (t : List (Nat × Page)) : List (Nat × Page) :=
  o.pages.zipIdx.foldl (fun t p => Tbl.put t (pageKey d p.1.1 p.1.2) (page p.2)) t

theorem find?_putPages (d : Nat) (o : DieOp) (page : Nat → Page) (t : List (Nat × Page)) {p : Nat × Nat} (hp : p ∈ o.pages) :
    ∃ j, Tbl.find? (putPages d o page t) (pageKey d p.1 p.2) = some (page j) := by
  obtain ⟨n, hn⟩ := List.mem_iff_getElem?.mp hp
  obtain ⟨y, -, found⟩ := Tbl.find?_foldl_put_mem (key := fun p : (Nat × Nat) × Nat => pageKey d p.1.1 p.1.2) (val := fun p => page p.2) (l := o.pages.zipIdx) (t := t)
    ⟨(p, n), List.mk_mem_zipIdx_iff_getElem?.mpr hn, rfl⟩
  exact ⟨y.2, found⟩

theorem find?_putPages_other (d : Nat) {o : DieOp} (page : Nat → Page) (t : List (Nat × Page)) {k : Nat} (out : ∀ p ∈ o.pages, k ≠ pageKey d p.1 p.2) :
    Tbl.find? (putPages d o page t) k = Tbl.find? t k :=
  Tbl.find?_foldl_put_other (key := fun p : (Nat × Nat) × Nat => pageKey d p.1.1 p.1.2) (val := fun p => page p.2) fun x hx => out x.1 (List.fst_mem_of_mem_zipIdx hx)

namespace State

/-- A page of a program is good and bears its PSN. -/
theorem pageOf_programs (s : State) (b : Band) (o : DieOp) (j : Nat) : (s.pageOf b o j).good = true ∧ (s.pageOf b o j).psn = o.psn := by
  unfold pageOf
  split <;> exact ⟨rfl, rfl⟩

/-! ## A program reports good (R197, R219) -/

theorem hostGranule_media (i : Nat) (x : PlaceSlot) (f : InFlight) (l : Loc) (mode : Nat) (s : State) : SameMedia s (s.hostGranule i x f l mode) := by
  unfold hostGranule
  dsimp only
  split
  · split
    · split
      · split
        · exact ⟨by simp, by simp, by simp⟩
        · exact ⟨rfl, rfl, rfl⟩
      · exact ⟨rfl, rfl, rfl⟩
    · exact ⟨rfl, rfl, rfl⟩
  · exact rePlace_media s i x

end State

theorem SameMedia.after {s t u : State} (h : SameMedia t u) (map : t.mxe.map = s.mxe.map) (nand : t.mxe.nand = s.mxe.nand) (retired : t.mxe.retired = s.mxe.retired) :
    SameMedia s u :=
  SameMedia.trans ⟨map, nand, retired⟩ h

namespace State

theorem media_ite {s t u : State} {p : Prop} [Decidable p] (yes : SameMedia s t) (no : SameMedia s u) : SameMedia s (if p then t else u) := by
  split
  · exact yes
  · exact no

theorem slotGood_media (i mode : Nat) (x : PlaceSlot) (l : Loc) (s : State) : SameMedia s (s.slotGood i mode x l) := by
  unfold slotGood
  dsimp only
  split
  · split
    · split
      · exact .after (hostGranule_media ..) rfl rfl rfl
      · exact ⟨rfl, rfl, rfl⟩
    · exact ⟨rfl, rfl, rfl⟩
  · split
    · refine media_ite ?_ ?_
      · exact media_ite ⟨rfl, rfl, rfl⟩ (.after (rePlace_media ..) rfl rfl rfl)
      · exact ⟨rfl, rfl, rfl⟩
    · exact ⟨rfl, rfl, rfl⟩
  · exact .refl s
  · exact .refl s

/-- The state as a program's pages are on NAND. -/
def programmed (d : Nat) (o : DieOp) (page : Nat → Page) (s : State) : State := s.modMxe fun m => { m with nand := putPages d o page m.nand }

/-- Once its pages are on NAND, a program that reported good changes neither them nor the map. -/
theorem programGood_media {s : State} {o : DieOp} {b : Band} (found : Tbl.find? s.mxe.bands o.band = some b) (d i : Nat) :
    SameMedia (s.programmed d o (s.pageOf b o)) (s.programGood d i o) := by
  unfold programGood
  rw [found]
  dsimp only
  split
  · exact ⟨rfl, rfl, rfl⟩
  · refine SameMedia.trans ?_ (SameMedia.foldl _ _ _ fun t x => slotGood_media ..)
    refine SameMedia.trans (SameMedia.foldl _ o.pages _ fun t p => SameMedia.ofEq (t := t.stripeGood o.band b (d, s.fca.sbOf o.req.block) p.1 p.2) (by simp)) ?_
    exact media_ite ⟨rfl, rfl, rfl⟩ (.refl _)

theorem programGood_frame (d i : Nat) (o : DieOp) (s : State) : s.programGood d i o = { s with
    qen := (s.programGood d i o).qen, mxe := (s.programGood d i o).mxe, fca := (s.programGood d i o).fca, spe := (s.programGood d i o).spe } :=
  (programGood_touch d i o s (m := 86528) rfl (.refl _ s)).eq_masked

/-! ## A program reports fail (R191, R208, R211, R328) -/

theorem relocate_media (nsid g : Nat) (src : Loc) (cls : OpClass) (high : Bool) (s : State) : SameMedia s (s.relocate nsid g src cls high) := by
  rw [(relocate_queues nsid g src cls high s).frame]
  exact ⟨rfl, rfl, rfl⟩

theorem relocateBlock_media (d sb : Nat) (s : State) : SameMedia s (s.relocateBlock d sb) := by
  rw [(relocateBlock_queues d sb s).frame]
  exact ⟨rfl, rfl, rfl⟩

end State

/-- Neither the media nor what runs changes. -/
structure FailGoesOn (s t : State) : Prop where
  media : SameMedia s t
  held : t.dsc.held = s.dsc.held

namespace FailGoesOn

theorem refl (s : State) : FailGoesOn s s := ⟨.refl s, rfl⟩

theorem trans {s t u : State} (h : FailGoesOn s t) (k : FailGoesOn t u) : FailGoesOn s u := ⟨h.media.trans k.media, k.held.trans h.held⟩

theorem foldl {α : Type} (f : State → α → State) (l : List α) (s : State) (h : ∀ t x, FailGoesOn t (f t x)) : FailGoesOn s (l.foldl f s) := by
  induction l generalizing s with
  | nil => exact refl s
  | cons a l ih => exact (h s a).trans (ih _)

end FailGoesOn

namespace State

theorem sealStripe_goesOn (x : Stripe) (b : Band) (cls : OpClass) (s : State) : FailGoesOn s (s.sealStripe x b cls) :=
  ⟨.ofEq (by simp), (sealStripe_running x b cls s).held⟩

theorem relocate_goesOn (nsid g : Nat) (src : Loc) (cls : OpClass) (high : Bool) (s : State) : FailGoesOn s (s.relocate nsid g src cls high) :=
  ⟨relocate_media .., by simp⟩

/-- A stripe goes on without a unit, or its data units are relocated (R328). -/
theorem stripeFail_goesOn (band : Nat) (b : Band) (m : Nat × Nat) (block page payload : Nat) (isParity : Bool) (s : State) :
    FailGoesOn s (s.stripeFail band b m block page payload isParity) := by
  unfold stripeFail
  dsimp only
  split
  · split
    · refine FailGoesOn.trans ?_ (FailGoesOn.foldl _ _ _ fun t i => FailGoesOn.foldl _ _ _ fun t e => relocate_goesOn ..)
      exact ⟨⟨rfl, rfl, rfl⟩, rfl⟩
    · split
      · refine FailGoesOn.trans ?_ (sealStripe_goesOn ..)
        exact ⟨⟨rfl, rfl, rfl⟩, rfl⟩
      · exact ⟨⟨rfl, rfl, rfl⟩, rfl⟩
  · exact .refl s

theorem rePlaceAll_goesOn (i : Nat) (slots : List PlaceSlot) (s : State) : FailGoesOn s (s.rePlaceAll i slots) :=
  ⟨SameMedia.foldl _ _ _ fun t x => rePlace_media t i x, by simp⟩

theorem bandFilled_goesOn (n : Nat) (s : State) : FailGoesOn s (s.bandFilled n) := by
  rw [bandFilled]
  exact ⟨⟨rfl, rfl, rfl⟩, rfl⟩

/-- The block of a failed program retires, its operations are cancelled, and what it holds is read back and relocated. -/
def blockFailed (d : Nat) (o : DieOp) (s : State) : State :=
  (((s.retireBlock d (s.fca.sbOf o.req.block) causeProgram o.psn).cancelBlock d (s.fca.sbOf o.req.block)).readBack d (s.fca.sbOf o.req.block) o.pages).relocateBlock d
    (s.fca.sbOf o.req.block)

theorem blockFailed_retires (d : Nat) (o : DieOp) (s : State) : Retiring s (s.blockFailed d o) ∧ Tbl.has (s.blockFailed d o).mxe.retired (blkKey d (s.fca.sbOf o.req.block)) = true := by
  obtain ⟨retiring, now⟩ := retire_cancels d (s.fca.sbOf o.req.block) causeProgram o.psn s
  have after : SameMedia ((s.retireBlock d (s.fca.sbOf o.req.block) causeProgram o.psn).cancelBlock d (s.fca.sbOf o.req.block)) (s.blockFailed d o) :=
    SameMedia.trans (.ofEq (by simp)) (relocateBlock_media ..)
  exact ⟨retiring.trans (.ofSame after), by rw [after.retired]; exact now⟩

theorem blockFailed_ended {s t : State} {d i : Nat} {o : DieOp} (h : Ended s d i o t) : Ended s d i o (t.blockFailed d o) := by
  have cancelled : Ended s d i o ((t.retireBlock d (t.fca.sbOf o.req.block) causeProgram o.psn).cancelBlock d (t.fca.sbOf o.req.block)) := (h.ofDsc (by simp)).cancelBlock _
  exact cancelled.ofDsc (by simp [blockFailed])

/-- Once its block has retired, a failed program changes neither the media nor the tokens. -/
theorem programFail_goesOn {s : State} {o : DieOp} {b : Band} (found : Tbl.find? s.mxe.bands o.band = some b) (d i : Nat) :
    FailGoesOn ((s.programmed d o fun j => { s.pageOf b o j with good := false }).blockFailed d o) (s.programFail d i o) := by
  unfold programFail
  rw [found]
  dsimp only
  split
  · exact ⟨⟨rfl, rfl, rfl⟩, rfl⟩
  · exact FailGoesOn.foldl _ _ _ fun t p => stripeFail_goesOn ..
  · refine FailGoesOn.trans ?_ (bandFilled_goesOn ..)
    refine FailGoesOn.trans ?_ (rePlaceAll_goesOn ..)
    refine FailGoesOn.trans (FailGoesOn.foldl _ o.pages.zipIdx _ fun t p => stripeFail_goesOn o.band b (d, s.fca.sbOf o.req.block) p.1.1 p.1.2 (t.pageOf b o p.2).payload false t) ?_
    exact ⟨⟨rfl, rfl, rfl⟩, rfl⟩

section
variable {s : State} {d i : Nat} {o : DieOp} {b : Band} (running : s.dsc.running d = some (i, o)) (noGap : s.fca.gapHeld = false)
  (polled : (s.dsc.die d).found = some s.now) (work : ∀ n, o.why ≠ .dump n) (program : isProgram o.req.kind = true) (band : Tbl.find? s.mxe.bands o.band = some b)
include running noGap polled work program band

theorem ready_programmed : ∃ t, exec (.dieReady d .good) s = .next t ∧ t.dsc.held = s.dsc.held - o.cost ∧
    (∀ p ∈ o.pages, ∃ g, Tbl.find? t.mxe.nand (pageKey d p.1 p.2) = some g ∧ g.good = true ∧ g.psn = o.psn) ∧
    (∀ k, (∀ p ∈ o.pages, k ≠ pageKey d p.1 p.2) → Tbl.find? t.mxe.nand k = Tbl.find? s.mxe.nand k) ∧ t.mxe.map = s.mxe.map ∧
    t = { s with qen := t.qen, mxe := t.mxe, dsc := t.dsc, fca := t.fca, spe := t.spe } := by
  have run : exec (.dieReady d .good) s = .next ((s.endOp d i).programGood d i o) := by
    rw [exec_ready_good running noGap polled, opEnded_program work program]
    rfl
  obtain ⟨ended, -⟩ := endOp_ended running
  have frame := (s.endOp d i).programGood_frame d i o
  have mxe : (s.endOp d i).mxe = s.mxe := by simp
  have media := programGood_media (s := s.endOp d i) (by rw [mxe]; exact band) d i
  have nand : ((s.endOp d i).programGood d i o).mxe.nand = putPages d o ((s.endOp d i).pageOf b o) s.mxe.nand := by
    rw [media.nand, ← mxe]
    rfl
  refine ⟨_, run, ?_, fun p hp => ?_, fun k out => ?_, ?_, ?_⟩
  · rw [frame]
    exact ended.held
  · obtain ⟨j, found⟩ := find?_putPages d o ((s.endOp d i).pageOf b o) s.mxe.nand hp
    exact ⟨_, by rw [nand]; exact found, pageOf_programs ..⟩
  · rw [nand]
    exact find?_putPages_other d _ _ out
  · rw [media.map, ← mxe]
    rfl
  · rw [frame, endOp_frame]

theorem ready_programFailed : ∃ t, exec (.dieReady d .fail) s = .next t ∧ t.dsc.held = s.dsc.held - o.cost ∧
    (∀ p ∈ o.pages, ∃ g, Tbl.find? t.mxe.nand (pageKey d p.1 p.2) = some g ∧ g.good = false) ∧ Tbl.has t.mxe.retired (blkKey d (s.fca.sbOf o.req.block)) = true ∧
    t.mxe.map = s.mxe.map := by
  have run : exec (.dieReady d .fail) s = .next ((s.endOp d i).programFail d i o) := by
    rw [exec_ready_fail running noGap polled, opEnded_program work program]
    rfl
  obtain ⟨ended, -⟩ := endOp_ended running
  have mxe : (s.endOp d i).mxe = s.mxe := by simp
  have fca : (s.endOp d i).fca = s.fca := by simp
  have goesOn := programFail_goesOn (s := s.endOp d i) (by rw [mxe]; exact band) d i
  generalize put : ((s.endOp d i).programmed d o fun j => { (s.endOp d i).pageOf b o j with good := false }) = u at goesOn
  have pages : u.mxe.nand = putPages d o (fun j => { (s.endOp d i).pageOf b o j with good := false }) s.mxe.nand := by
    rw [← put, ← mxe]
    rfl
  have map : u.mxe.map = s.mxe.map := by
    rw [← put, ← mxe]
    rfl
  have sb : u.fca.sbOf o.req.block = s.fca.sbOf o.req.block := by
    rw [← put, ← fca]
    rfl
  have tokens : Ended s d i o u := ended.ofDsc (by rw [← put]; rfl)
  obtain ⟨retiring, retired⟩ := u.blockFailed_retires d o
  rw [sb] at retired
  refine ⟨_, run, ?_, fun p hp => ?_, ?_, ?_⟩
  · rw [goesOn.held]
    exact (blockFailed_ended tokens).held
  · obtain ⟨j, found⟩ := find?_putPages d o (fun j => { (s.endOp d i).pageOf b o j with good := false }) s.mxe.nand hp
    exact ⟨_, by rw [goesOn.media.nand, retiring.nand, pages]; exact found, rfl⟩
  · rw [goesOn.media.retired]
    exact retired
  · rw [goesOn.media.map, retiring.map, map]

end

/-! ## DIE_AGE_PROMOTION (R218, R232) -/

/-- An operation is raised to a class, once. -/
def promote (c : OpClass) (o : DieOp) : DieOp := { o with eff := c, promoted := true }

theorem agePromotion_promotes {s : State} {i us : Nat} {o : DieOp} {c : OpClass} (found : Tbl.find? s.dsc.ops i = some o) (limit : s.ageLimit o.eff = some (us, c))
    (once : o.promoted = false) (waits : (s.dsc.die o.req.die).active ≠ some i) (old : usTicks o.ageUs < s.since o.submit)
    (allowed : ¬(s.dsc.step = 2 ∧ (o.eff = .background ∨ o.eff = .gc))) :
    ∃ t, exec (.dieAgePromotion i) s = .next t ∧ Tbl.find? t.dsc.ops i = some { o with eff := c, promoted := true } ∧
      (∀ j, j ≠ i → Tbl.find? t.dsc.ops j = Tbl.find? s.dsc.ops j) ∧
      t.fld Fld.DSC_PROMOTE_CNT.COUNT = min (2 ^ Fld.DSC_PROMOTE_CNT.COUNT.width - 1) (s.fld Fld.DSC_PROMOTE_CNT.COUNT + 1) ∧
      t = { s with regf := t.regf, dsc := { s.dsc with ops := t.dsc.ops } } := by
  have run : exec (.dieAgePromotion i) s = .next ((s.modOp i (promote c)).count Fld.DSC_PROMOTE_CNT.COUNT 0 1) := by
    change execDieAgePromotion i s = _
    unfold execDieAgePromotion
    rw [found]
    dsimp only
    rw [limit]
    exact if_pos ⟨once, waits, old, allowed⟩
  exact ⟨_, run, Dsc.find?_modOp_same (promote c) found, fun j other => Tbl.find?_adjust_other s.dsc.ops (promote c) other,
    fld_count_same (s.modOp i (promote c)) Fld.DSC_PROMOTE_CNT.COUNT 0 1, rfl⟩

end State

/-- Settles O45: an operation by its submission, its start and its die's report. -/
theorem dieOperationsRunInTheirTurn : Obligations.DieOperationsRunInTheirTurn := by
  unfold Obligations.DieOperationsRunInTheirTurn
  refine ⟨fun s op serves => ⟨fun why r n read planes reader may free => State.submit_read serves read planes reader may free,
      fun n b program good band mode order takes => State.submit_program serves program good band mode order takes,
      fun x program good none order first free limit room => State.submit_opens serves program good none order first free limit room,
      fun erase awake good => ⟨fun n b band gone first => State.submit_erase serves awake erase good band gone first,
        fun n b band held still => (State.exec_submit_erase serves awake erase).trans (congrArg _ (State.submitErase_closed good band held still)),
        State.submit_erase_noBand serves awake erase good⟩⟩,
    fun s op => State.submit_refused,
    fun s d i o idle first => ⟨fun free => State.start_starts first free idle, fun free => State.start_waits first free idle, fun guarded => State.start_withheld idle first guarded⟩,
    fun s d i o running noGap polled work => ⟨State.ready_suspends running noGap polled, fun st => State.ready_read running noGap polled work,
      State.ready_erased running noGap polled work, State.ready_eraseFailed running noGap polled work,
      fun b => State.ready_programmed running noGap polled work, fun b => State.ready_programFailed running noGap polled work⟩,
    fun s d st waits => State.ready_waits waits st,
    fun s i us o c => State.agePromotion_promotes⟩

end Sys2Proof.Machine
end
